-- ==== Sys2Proof/Word.lean ====
section
/-!
DEFINITION. Word.lean: the word types of the KVP-9640 model (Table SCP-5 gives the dictionary's widths).
-/
namespace Sys2Proof

/-- One byte of an Ethernet frame, a memory image or an OCTETS value. -/
abbrev Byte := BitVec 8

/-- The bits of an IEEE 754-2019 binary32 value (R18). -/
abbrev F32 := BitVec 32

/-- The bits of an IEEE 754-2019 binary64 value (R18). -/
abbrev F64 := BitVec 64

end Sys2Proof
end

