-- ==== Sys2Proof/Syntax.lean ====
section
/-!
DEFINITION. Syntax.lean: the commands of the KVP-9640 block, one constructor of `Instr` per row of
spec/opcode_table.json, and the operand types they carry. A command is an operation or an event: a request that
arrives on a port, an instant at which something becomes due, or a physical condition that the module observes.
An operand holds what comes from outside the model: the bytes of a frame, the measurement that a sensor gives, the
result of an application program (R1: the core instruction set is not documented). Everything else is in the state.
-/
namespace Sys2Proof

/-- The dictionary types of Table SCP-5. -/
inductive Ty where
  | bool | u8 | u16 | u32 | u64 | i16 | i32 | f32 | f64 | str | octets | time96
deriving DecidableEq, Repr

/-- A value of a dictionary entry: the bits of a number of the entry's type (a BOOL, an integer in two's complement,
a binary32 or binary64, a TIME96), or the bytes of a STR or OCTETS. -/
inductive Value where
  | num (n : Nat)
  | bytes (b : List Byte)
deriving DecidableEq, Repr

/-- The authorisation levels of R45 and Table DIC-14. -/
inductive Level where
  | viewer | operator | engineer | service
deriving DecidableEq, Repr

/-- A sparse map from numbers to `α`: cells in rising order of their key, no key twice, and no cell that holds the
value an absent key reads as. -/
structure SMap (α : Type) where
  cells : List (Nat × α) := []
deriving DecidableEq, Repr

/-- An addressed buffer: bytes by address; a byte that nothing has written reads as 0 (log 11). -/
abbrev Memory := SMap Byte

/-- The source of a dictionary write that is a step of its own (R49, R56, R80). -/
structure Writer where
  /-- Level of the session or of the dictionary port. -/
  level : Level
  /-- The session was opened over J16 (R81). -/
  j16 : Bool := false
  /-- The session number, or none for the application's dictionary port (R56) and the module's own keys. -/
  session : Option Nat := none
  /-- The requesting node. -/
  node : Nat := 0
deriving DecidableEq, Repr

/-- Where a datagram came from: the port (0 to 3 for P1 to P4, 4 for J16), the source IPv4 address and UDP port, and the
source MAC address (R59, R73). -/
structure Origin where
  port : Fin 5
  ip : BitVec 32
  udp : BitVec 16
  mac : BitVec 48 := 0
deriving DecidableEq, Repr


/-- The kinds of function-block instances that the runtime keeps (R104 to R106). -/
inductive FbKind where
  | rTrig | fTrig | ton | tof | tp | ctu | ctd | ctud
deriving DecidableEq, Repr

/-- One evaluation of an instance within a turn: its inputs. `in1` is CLK, IN or CU, `in2` is CD. -/
structure FbCall where
  inst : Nat
  kind : FbKind
  in1 : Bool
  in2 : Bool := false
  reset : Bool := false
  load : Bool := false
  /-- PT in nanoseconds. -/
  pt : Nat := 0
  /-- PV. -/
  pv : Int := 0
deriving DecidableEq, Repr

/-- A value that a program writes to an output point (Table RUN-7): 0 or 1 for DO, the binary32 bits in mA for AO, a byte
for an ECX station output byte or a CAN object data byte. -/
structure OutWrite where
  point : Nat
  value : Nat
deriving DecidableEq, Repr

/-- A task as the archive defines it (Table RUN-1); times in microseconds. -/
structure TaskAttr where
  id : Nat
  pair : Nat
  period : Nat
  phase : Nat
  priority : Nat
  wcet : Nat
  imageIn : Nat
  imageOut : Nat
  errorTask : Bool
  maxSkip : Nat
deriving DecidableEq, Repr

/-- Who writes an output point (R34). -/
inductive PointWriter where
  | task (t : Nat)
  | loop (l : Nat)
  | motion
  | safety
  | dictionary
deriving DecidableEq, Repr

/-- An output or input point as the archive presents it: its writer (none for an input), its STOP_ACTION (R98), the value
of SAFE for an ECX byte, its type as the program sees it and its scale (R108). -/
structure PointDecl where
  point : Nat
  writer : Option PointWriter
  /-- STOP_ACTION KEEP; SAFE otherwise. -/
  keep : Bool := false
  safe : Nat := 0
  /-- Type of the point for the program: 0 BOOL, 1 byte, 2 analog. -/
  kind : Nat
  /-- Lower and upper end of the scaled range, binary64 bits (analog points). -/
  lo : Nat := 0
  hi : Nat := 0
  /-- Identifier of the scale. -/
  scale : Nat := 0
  /-- Tasks that read the point. -/
  readers : List Nat := []
deriving DecidableEq, Repr

/-- A program variable (R103, R115): `path` identifies its name, type and POU instance path. -/
structure VarDecl where
  path : Nat
  retain : Bool
  init : List Byte
  task : Nat
deriving DecidableEq, Repr

/-- An instance of a function block (R104 to R106, R115). -/
structure InstDecl where
  path : Nat
  kind : FbKind
  retain : Bool
  task : Nat
deriving DecidableEq, Repr

/-- An application export (R58). -/
structure ExportDecl where
  index : Nat
  sub : Nat
  ty : Ty
  access : Nat
  level : Level
  var : Nat
  task : Nat
deriving DecidableEq, Repr

/-- What a dropped station's inputs read as (R117). -/
inductive Substitute where
  | holdLast
  | value (b : List Byte)
deriving DecidableEq, Repr

/-- A station as the archive presents it: substitute values, SAFE output bytes, the tasks that use its inputs. -/
structure StationDecl where
  station : Nat
  substitute : Substitute
  users : List Nat
deriving DecidableEq, Repr

/-- An error record of Table RUN-11: cause, data, and the TB3 instant in nanoseconds that it carries (signed, R581). -/
structure ErrRec where
  cause : Nat
  data : List Nat
  stamp : Option Int := none
deriving DecidableEq, Repr


/-- The first unmet criterion of an injection test (R144), as INJECT_DETAIL codes it, with its INJECT_RESULT. -/
structure InjectFail where
  result : Fin 5
  step : Nat
  bit : Nat
  group : Nat
deriving DecidableEq, Repr


/-- Work that a solve had completed when it was cut (R172): whether its pending factorisation completed, the iterations completed,
whether the cut fell within the refactorisation (R184) that follows the last of them, and else the refinement steps completed in
the next iteration's linear solve. -/
structure Cut where
  factored : Bool
  iterations : Nat
  adapting : Bool := false
  refined : Nat := 0
deriving DecidableEq, Repr

/-- What a task or the dictionary places on a SUBMIT ring (R186): a batch of moves, a solve request with its absolute TB3
deadline in nanoseconds, or an abort. -/
inductive SubmitItem where
  | batch (board : Nat) (bytes : List Byte)
  | solve (board : Nat) (deadline : Int) (cold : Bool)
  | abort (board : Nat) (solveId : Nat)
deriving DecidableEq, Repr


/-- The encodings of ECX and CAN values (Tables TLY-3 and TLY-4). -/
inductive Enc where
  | u8 | u16 | i16 | i32 | f32
deriving DecidableEq, Repr

/-- What a loop gives another loop (R220). -/
inductive LoopOut where
  | out0 | out1 | pv | sp
deriving DecidableEq, Repr

/-- Input sources of a loop (Table TLY-3). -/
inductive InSrc where
  | ai (i : Nat)
  | di (i : Nat)
  | ecx (station offset : Nat) (enc : Enc)
  | task (w : Nat)
  | loop (l : Nat) (o : LoopOut)
  | axis (a : Nat)
  | const (v : Nat)
deriving DecidableEq, Repr

/-- Output destinations of a loop (Table TLY-4). -/
inductive OutDest where
  | none
  | ao (i : Nat)
  | dig (i : Nat)
  | can (channel object offset : Nat) (enc : Enc) (little : Bool)
  | ecx (station offset : Nat) (enc : Enc)
deriving DecidableEq, Repr

/-- Operands of a stage (R225). -/
inductive Operand where
  | pv | sp
  | inp (k : Nat)
  | pos (j : Nat)
  | zero
deriving DecidableEq, Repr

/-- A stage position: stage code of Table TLY-5 and operands; `none` is an unconnected operand. -/
structure StageDef where
  code : Nat
  a : Option Operand
  b : Option Operand
  c : Option Operand
deriving DecidableEq, Repr

/-- A loop slot as the archive defines it (Table TLY-1). -/
structure LoopDef where
  id : Nat
  pipeline : Nat
  order : Nat
  period : Nat
  phase : Nat
  stages : List StageDef
  presetStage : Option Nat
  manPoint : Nat
  /-- IN0 to IN5. -/
  inputs : List (Option InSrc)
  spSource : Option InSrc
  cascadeInner : Option Nat
  out0 : OutDest
  out1 : OutDest
  /-- Initial FORCE_RESPONSE: 0 TRACK, 1 FREEZE_I. -/
  forceResponse : Nat := 0
  name : List Byte
  /-- Bank contents, by 10 * position + parameter: banks A and B. -/
  bankA : List (Nat × Nat)
  bankB : List (Nat × Nat)
deriving DecidableEq, Repr


/-- What a PTP message carries to the time unit (R280): timestamps and correction in units of 2^-16 ns. `ts` is
originTimestamp of a Sync or Follow_Up, receiveTimestamp of a Delay_Resp, the responder's turnaround of a Pdelay_Resp. -/
structure PtpMsg where
  domain : Nat
  /-- portIdentity of the sender, 80 bits. -/
  source : Nat
  seq : Nat
  twoStep : Bool := false
  /-- Unicast, Management or Signaling (R280: discarded and counted). -/
  unsupported : Bool := false
  ts : Int := 0
  corr : Int := 0
  /-- requestingPortIdentity of a response. -/
  requester : Nat := 0
deriving DecidableEq, Repr

/-- What an Announce carries (R283, R293). -/
structure Announce where
  domain : Nat
  source : Nat
  priority1 : Nat
  clockClass : Nat
  accuracy : Nat
  variance : Nat
  priority2 : Nat
  gm : Nat
  stepsRemoved : Nat
  utcOffset : Int
  leap61 : Bool
  leap59 : Bool
  /-- IPv4 source address of the message, 0 on layer 2 (R280). -/
  ip : Nat := 0
deriving DecidableEq, Repr

/-- The PTP event messages that the transparent clock corrects (R287). -/
inductive PtpKind where
  | sync | delayReq | pdelayReq | pdelayResp | followUp | delayResp | announce
deriving DecidableEq, Repr

/-- A PTP frame that crosses between P3 and P4 (R287, R288): what it is, its correctionField (2^-16 ns), the captures of its SFD
at the two MACs in TB3 half-nanoseconds, the conditions of cut-through and its FCS and UDP checksum. -/
structure TcFrame where
  kind : PtpKind
  ingress : Fin 2
  corr : Int
  rx : Nat
  tx : Nat
  egressIdle : Bool
  class3Waiting : Bool
  fcsOk : Bool
  udpChecksum : Option Nat := none
deriving DecidableEq, Repr


/-- A frame that arrives at a port, as the ingress pipeline parses it (Table NET-5): its wire length from the destination
address to the FCS, redundancy fields, addresses, and the payload after them. -/
structure EthFrame where
  fcsOk : Bool := true
  len : Nat
  dst : Nat
  src : Nat
  vlan : Option Nat := none
  /-- RCT: names LAN B, and the sequence number. -/
  rct : Option (Bool × Nat) := none
  /-- HSR tag: sequence number. -/
  hsr : Option Nat := none
  ether : Nat
  ipSrc : Nat := 0
  ipDst : Nat := 0
  fragment : Bool := false
  /-- IPv4 protocol: 17 UDP, 1 ICMP. -/
  proto : Nat := 17
  udpSrc : Nat := 0
  udpDst : Nat := 0
  payload : List Byte := []
deriving DecidableEq, Repr

/-- What a frame that the module sends carries. -/
inductive Body where
  | bytes (b : List Byte)
  | ptp (kind : PtpKind) (m : PtpMsg)
  | announce (a : Announce)
deriving DecidableEq, Repr

/-- A frame that the module sends: class and SINGLE_PORT of Table NET-3, destination, and for UDP the addresses and ports. -/
structure TxFrame where
  cls : Nat
  single : Bool := false
  dst : Nat := 0
  ether : Nat := 0x0800
  ip : Nat := 0
  /-- IPv4 protocol: 17 UDP, 1 ICMP. -/
  proto : Nat := 17
  sport : Nat := 47010
  dport : Nat := 0
  /-- A PTP event message, which goes before other class-2 frames (R311). -/
  event : Bool := false
  /-- Length from the destination address to the end of the payload. -/
  len : Nat := 60
  body : Body := .bytes []
  /-- As it leaves: VLAN tag control (PCP in [15:13], VID in [11:0]), DSCP, and the sequence number of its RCT or HSR tag. -/
  tci : Option Nat := none
  dscp : Nat := 0
  seq : Option Nat := none
deriving DecidableEq, Repr

/-- An ECX frame with the header of Table NET-9. -/
structure EcxFrame where
  type : Nat
  station : Nat
  state : Nat
  master : Nat := 0
  cycle : Nat
  applyTb1 : Nat := 0
  watchdog : Nat := 0
  signature : Nat
  data : List Byte
deriving DecidableEq, Repr


/-- A TXQ entry (Table CAN-4): COMMAND 1 SEND, 2 UPDATE, 3 ABORT, object, data of LENGTH bytes, and its producer as OBJ_WRITER
codes it (R349). -/
structure CanTx where
  command : Nat
  object : Nat
  data : List Byte
  producer : Nat
deriving DecidableEq, Repr

/-- A frame received on a CAN bus: identifier with IDE in bit 31, flags, data, and its start-of-frame edge in TB3 ns (R347). -/
structure CanFrame where
  id : Nat
  fdf : Bool := false
  brs : Bool := false
  esi : Bool := false
  rtr : Bool := false
  data : List Byte := []
  sof : Nat
deriving DecidableEq, Repr

/-- One measurement of a CAN transceiver in a recessive period (R351): CANH and CANL as binary32 volts, and what it observes. -/
structure XcvrMeasure where
  canh : Nat
  canl : Nat
  dominant : Bool := false
  released : Bool := false
  thermal : Bool := false
  supply : Bool := false
deriving DecidableEq, Repr


/-- What a field frame from the field side carries beside what the field side already holds (R28, R433): raw samples and
measurements, numbers as binary32 bits. -/
structure FieldIn where
  /-- Raw levels of DI00 to DI63, taken at the start of the frame; used in frames that start at a multiple of 100 µs. -/
  di : BitVec 64
  /-- Output, current in mA, voltage at the terminal. -/
  doMeas : List (Nat × Nat × Nat) := []
  /-- Group, supply voltage, board temperature in °C. -/
  groups : List (Nat × Nat × Nat) := []
  /-- Output, readback in mA, terminal voltage. -/
  aoMeas : List (Nat × Nat × Nat) := []
  /-- Compliance rail in V. -/
  rail : Nat := 0
  /-- Raw contact levels as FSX and FSY read them: bit 2i contact A, bit 2i + 1 contact B of SI i. -/
  siX : BitVec 32 := 0
  siY : BitVec 32 := 0
  /-- Safe brake output and current in mA; test-pulse source and current in mA. -/
  sbMeas : List (Nat × Nat) := []
  tpMeas : List (Nat × Nat) := []
  /-- The sub-frames of FSX and FSY pass their checks. -/
  okX : Bool := true
  okY : Bool := true
deriving DecidableEq, Repr

/-- A conversion of a current-loop input: the factory-calibrated current I_cal in mA, the voltage at SUP, the stage temperature
(binary32 bits), and whether the converter's self-check passes. -/
structure AiMeas where
  cal : Nat
  supply : Nat := 0
  temp : Nat := 0
  checks : Bool := true
deriving DecidableEq, Repr


/-- A motion command (Table MOV-2). Numbers are binary32 bits; `target` is the signed TARGET field; `source` is the task or 0xFE
for the dictionary (R409). -/
structure MotionCmd where
  command : Nat
  axis : Nat
  arg : Nat := 0
  reserved : Nat := 0
  id : Nat := 0
  target : Int := 0
  velocity : Nat := 0
  accel : Nat := 0
  decel : Nat := 0
  jerk : Nat := 0
  source : Nat := 0xFE
deriving DecidableEq, Repr


/-- A safe input of a parameter set (Table SAF-8). -/
structure SiDef where
  mode : Nat := 0
  tpA : Nat := 0
  tpB : Nat := 2
  /-- Units of 0.1 ms. -/
  filter : Nat := 30
  /-- ms. -/
  discrepancy : Nat := 500
deriving DecidableEq, Repr

/-- Where a holding test writes its torque request (R451): a byte of a CAN transmit object or of an ESC connection. -/
inductive HtPath where
  | can (channel object offset : Nat)
  | esc (conn offset : Nat)
deriving DecidableEq, Repr

/-- A safe brake output of a parameter set (Table SAF-9, R451). -/
structure SbDef where
  pulse : Nat := 200
  testPeriod : Nat := 60
  standstill : Nat := 0xFF
  settle : Nat := 300
  duration : Nat := 2000
  interval : Nat := 24
  request : HtPath := .esc 0 0
  torque : Nat := 0
deriving DecidableEq, Repr

/-- An ESC connection of a parameter set (Table SAF-10). -/
structure EscDef where
  peerNode : Nat
  peerIp : Nat
  peerConn : Nat
  txLen : Nat
  rxLen : Nat
  period : Nat
  timeout : Nat
  degraded : Nat := 0
  signature : Nat
deriving DecidableEq, Repr

/-- A safety parameter set (R463), as its image reads. -/
structure SafetySet where
  /-- µs. -/
  cycle : Nat
  watchdog : Nat
  tpWidth : Nat := 400
  tpPeriod : Nat := 50
  si : List SiDef := []
  sb : List SbDef := []
  esc : List (Nat × EscDef) := []
deriving DecidableEq, Repr

/-- What one channel's safety program gives in a cycle (R436): element commands, acknowledgments, holding-test permits, start
requests and confirmations (bit per output), acknowledged connections, payloads, CAN data, and the latches that it holds. -/
structure SafeOut where
  sb : BitVec 8 := 0
  ack : BitVec 8 := 0
  permit : BitVec 8 := 0
  htStart : BitVec 8 := 0
  confirm : BitVec 8 := 0
  escAck : BitVec 16 := 0
  esc : List (Nat × List Byte) := []
  can : List (Nat × Nat × List Byte) := []
  latches : List Nat := []
deriving DecidableEq, Repr

/-- An ESC payload on a SAFE ring. -/
structure EscFrame where
  conn : Nat
  bytes : List Byte
deriving DecidableEq, Repr


/-- A timer, edge or counter instance (R104 to R106). -/
structure FbInst where
  kind : FbKind := .rTrig
  q : Bool := false
  prev : Bool := false
  prev2 : Bool := false
  /-- Release at which timing began, while timing. -/
  since : Option Int := none
  et : Nat := 0
  cv : Int := 0
  qd : Bool := false
  /-- The instance has not yet been evaluated since it was created or since a first-turn event. -/
  fresh : Bool := true
deriving DecidableEq, Repr

/-- The runtime's view of a board (R120): SEQ of the last committed move and the requests with no outcome. -/
structure BoardView where
  seq : Nat := 0
  open_ : List Nat := []
deriving DecidableEq, Repr

/-- The checkpointed state of a task (R119, R134): output image, error records, board views, turn number, instants of its last release and
commit in TB3 nanoseconds (signed, R492, R561). -/
structure TaskRec where
  turnNumber : Nat := 0
  errors : List ErrRec := []
  view : SMap BoardView := {}
  lastRelease : Int := 0
  lastCommit : Int := 0
  first : Bool := false
  outs : SMap Nat := {}
  /-- Release of the turn that was in progress. -/
  abandoned : Option Int := none
deriving DecidableEq, Repr

/-- The record of a loop (R259): bits of binary32 values; `refs` by stage position. -/
structure LoopRec where
  mode : Nat := 0
  spLocal : Nat := 0
  outMan : Nat := 0
  bank : Nat := 0
  fault : Bool := false
  lastMan : Nat := 0
  refs : SMap Nat := {}
deriving DecidableEq, Repr

/-- The record of an axis (R428). -/
structure AxisRec where
  pos : Int := 0
  state : Nat := 0
  valid : Bool := false
  moving : Bool := false
deriving DecidableEq, Repr

/-- The record of a station (R327): its state and output image. -/
structure StationRec where
  state : Nat := 0
  image : SMap Nat := {}
deriving DecidableEq, Repr

/-- A force slot (R111). -/
structure ForceRec where
  point : Nat := 0
  value : Nat := 0
  active : Bool := false
  setBy : Nat := 0
deriving DecidableEq, Repr

/-- The committed state that a checkpoint holds (R119, R134, R548, Table TWN-4), as maps from the key of each part: program
variables and instances by path, tasks, task words, output points, loops, axes, stations, CAN images by 64 * channel + object,
force slots. A delta holds the parts that its commit changed. -/
structure Saved where
  /-- TB3 of the commit or of the power-fail detection, in nanoseconds. -/
  stamp : Int := 0
  vars : SMap (List Byte) := {}
  insts : SMap FbInst := {}
  tasks : SMap TaskRec := {}
  words : SMap Nat := {}
  outs : SMap Nat := {}
  loops : SMap LoopRec := {}
  axes : SMap AxisRec := {}
  cycle : Nat := 0
  stations : SMap StationRec := {}
  can : SMap (List Byte) := {}
  forces : SMap ForceRec := {}
  /-- RUNTIME_MODE and STOP_CAUSE. -/
  mode : Nat := 1
  cause : Nat := 0
  /-- SUPPLY_TARGET of every analog input (R398). -/
  targets : SMap Nat := {}
deriving DecidableEq, Repr

/-- A delta as the standby receives it (R484 to R486, Table TWN-5). -/
structure TwinDelta where
  gen : Nat
  /-- Pair 0 to 3, or 0xFE for the services. -/
  source : Nat
  /-- Bytes of data. -/
  size : Nat := 0
  /-- Its END entry passes its checks. -/
  ok : Bool := true
  /-- It carries the commit of an online changeover (R479). -/
  changeover : Bool := false
  /-- RETAINED_BLOCK records: block, generation and cells. -/
  blocks : List (Nat × Nat × SMap Value) := []
  /-- Types of the other records of Table TWN-4 that it carries, and the data of its pages and records. -/
  recs : List Nat := []
  saved : Saved := {}
deriving DecidableEq, Repr

/-- A heartbeat (R483) with what the readiness conditions compare (Table TWN-3) and the eligible checkpoint of R557. -/
structure Heartbeat where
  role : Nat
  readiness : Nat
  cause : Nat
  token : Bool
  gen : Nat
  release : Nat
  spsCrc : Nat
  archive : Nat
  /-- ARCHIVE_ID of the staged archive, 0 for none. -/
  staged : Nat := 0
  eligible : Bool := false
  /-- MAC and IPv4 addresses of the sender (R74, log 168). -/
  macs : List Nat := []
  ips : List Nat := []
deriving DecidableEq, Repr

/-- What a firmware image's header and signature give (R554): its release, security version, whether its key is the key of the
root digest, and whether its signature verifies. -/
structure FwImage where
  release : Nat := 0
  security : Nat := 0
  key : Bool := false
  signature : Bool := false
deriving DecidableEq, Repr

/-- What a start meets outside the model (R557): the base position that the coding pins give, the blocks of the retained
partition whose copy X or Y reads with a wrong CRC-32, slots whose image reads corrupt, pairs that fail their injection test,
the field-side self-test, whether the running archive reads with a valid signature, and the instant of the restore in step 7. -/
structure StartIn where
  base : Fin 4 := 0
  badX : List Nat := []
  badY : List Nat := []
  badA : Bool := false
  badB : Bool := false
  tests : List (Nat × InjectFail) := []
  fieldOk : Bool := true
  archiveOk : Bool := true
  /-- The power-fail checkpoint reads with a valid root. -/
  ckptOk : Bool := true
  restoreAt : Nat := 0
  /-- The retained image of the panel reads with a wrong CRC-32 (R533). -/
  imageBad : Bool := false
deriving DecidableEq, Repr


/-- A rectangle of the panel: first column and line, columns and lines. -/
structure Rect where
  x : Nat := 0
  y : Nat := 0
  w : Nat := 0
  h : Nat := 0
deriving DecidableEq, Repr

/-- An entry of SLATE_UPD (Table SLT-5), with the source pixels that its buffer holds, row by row. -/
structure SlateUpd where
  kind : Nat
  wave : Nat
  id : Nat
  rect : Rect
  fill : Nat := 0
  pixels : List Nat := []
deriving DecidableEq, Repr


/-- A dictionary request that a task issues during a turn (R56, R57): service code and payload of Tables DIC-8 and DIC-9. -/
structure DictReq where
  service : Nat
  payload : List Byte
deriving DecidableEq, Repr

/-- The application archive as the module reads it: what every chapter says that the archive fixes. -/
structure Archive where
  /-- Release for which the suite built it, major in [15:8] (R9). -/
  release : Nat
  /-- ARCHIVE_ID. -/
  id : Nat
  /-- Its signature verifies (R113). -/
  signed : Bool := true
  /-- Level of the dictionary port (R56). -/
  portLevel : Level := .operator
  /-- Application memory that it declares, in bytes (Table ARC-11). -/
  memory : Nat := 0
  tasks : List TaskAttr := []
  points : List PointDecl := []
  stations : List StationDecl := []
  vars : List VarDecl := []
  insts : List InstDecl := []
  exports : List ExportDecl := []
  loops : List LoopDef := []
  /-- Descriptors of the archive's boards by board number (R152). -/
  boards : List (Nat × List Byte) := []
  /-- Writer task of each task word (R221). -/
  wordWriters : SMap Nat := {}
  /-- Values of the entries whose default is "From archive", by entry key. -/
  defaults : SMap Value := {}
  /-- Axes with a task as writer: axis, task, and whether its STOP_ACTION is KEEP (R407, R427). -/
  axes : List (Nat × Nat × Bool) := []
  /-- Declared checkpointed state of each pair in bytes (R137). -/
  stateBytes : List Nat := []
  /-- The two pairs that carry the safety channels (R432), the WCET of their slices in microseconds, and the safety cycle. -/
  safePairs : Nat × Nat := (1, 2)
  safeWcet : Nat × Nat := (0, 0)
  /-- Identity of the safety program and its parameter set (Table RUN-9, R465). -/
  safety : Nat := 0
  spsCrc : Nat := 0
deriving DecidableEq, Repr


/-- What a turn leaves at its commit (R92): everything the program and its error task did, in the order of issue. -/
structure TurnOutput where
  /-- Execution time in microseconds, from the start of copy-in to the commit, pre-emption excluded. -/
  exec : Nat := 1
  outs : List OutWrite := []
  /-- Task words written (R221): word number and binary32 bits. -/
  words : List (Nat × Nat) := []
  submits : List SubmitItem := []
  requests : List DictReq := []
  can : List (Nat × CanTx) := []
  motion : List MotionCmd := []
  /-- Program variables written, by path. -/
  vars : List (Nat × List Byte) := []
  /-- Evaluations of function-block instances. -/
  calls : List FbCall := []
  /-- Pages of state that the turn changed, the bytes of checkpointed pages of its pair (CKPT_PAGES), and PF_CKPT_SIZE. -/
  dirty : Nat := 0
  pages : Nat := 0
  pfSize : Nat := 0
  /-- Entries for MBX1. -/
  mailbox : List (List Byte) := []
deriving DecidableEq, Repr


/-- The commands of the block: one constructor per row of spec/opcode_table.json, in the order of the table. -/
inductive Instr where
  /-- A full application archive is loaded and checked, then replaces the running application (R85). In STOP, a full archive is loaded and checked; if it passes it replaces the running one (R85, R115). -/
  | archiveLoad (at_ : Nat) (archive : Archive)
  /-- The reserved 50 µs slice of the services pair runs the module services every 250 µs (R29). At TB3 `at_`. -/
  | serviceSlice (at_ : Nat)
  /-- An EOP READ request returns the value of one entry (R64). Where the datagram came from, and the datagram. -/
  | read (at_ : Nat) (o : Origin) (d : List Byte)
  /-- An EOP WRITE request stores a value in one entry within a session (R49). Where the datagram came from, and the datagram. -/
  | write (at_ : Nat) (o : Origin) (d : List Byte)
  /-- Up to 32 entries are sampled in one pass of the dictionary server and returned with a status for each (R64). Where the datagram came from, and the datagram. -/
  | readMulti (at_ : Nat) (o : Origin) (d : List Byte)
  /-- The attributes, default, range and name of an entry are returned (R63). Where the datagram came from, and the datagram. -/
  | describe (at_ : Nat) (o : Origin) (d : List Byte)
  /-- A segmented read opens and takes a snapshot of the value (R65). Where the datagram came from, and the datagram. -/
  | segReadStart (at_ : Nat) (o : Origin) (d : List Byte)
  /-- One segment of the snapshot of an open segmented read is returned (R65). Where the datagram came from, and the datagram. -/
  | segReadPart (at_ : Nat) (o : Origin) (d : List Byte)
  /-- A segmented write opens for an entry with a given total length (R66). Where the datagram came from, and the datagram. -/
  | segWriteStart (at_ : Nat) (o : Origin) (d : List Byte)
  /-- One segment of a segmented write is stored, and the write commits when the last missing segment arrives (R66). Where the datagram came from, and the datagram. -/
  | segWritePart (at_ : Nat) (o : Origin) (d : List Byte)
  /-- The open segmented transfer of the session ends without effect (R67). Where the datagram came from, and the datagram. -/
  | segAbort (at_ : Nat) (o : Origin) (d : List Byte)
  /-- A segmented transfer idle for 5 s ends, leaving the entry unchanged (R67). The session; none for the dictionary port. -/
  | transferTimeout (at_ : Nat) (session : Option Nat)
  /-- A group is opened for the session (R68). Where the datagram came from, and the datagram. -/
  | groupBegin (at_ : Nat) (o : Origin) (d : List Byte)
  /-- Up to 16 items are checked and staged in the open group, all or none (R68). Where the datagram came from, and the datagram. -/
  | groupStage (at_ : Nat) (o : Origin) (d : List Byte)
  /-- Every staged item is checked and all are stored at one commit point, or none is stored (R69). Where the datagram came from, and the datagram. -/
  | groupCommit (at_ : Nat) (o : Origin) (d : List Byte)
  /-- The open group is discarded (R70). Where the datagram came from, and the datagram. -/
  | groupDiscard (at_ : Nat) (o : Origin) (d : List Byte)
  /-- A group that has received no request for 10 s is discarded (R70). The session; none for the dictionary port. -/
  | groupTimeout (at_ : Nat) (session : Option Nat)
  /-- A subscription to an entry is created within the session and module limits (R71). Where the datagram came from, and the datagram. -/
  | subscribe (at_ : Nat) (o : Origin) (d : List Byte)
  /-- One or all of the session's subscriptions are removed (R71). Where the datagram came from, and the datagram. -/
  | unsubscribe (at_ : Nat) (o : Origin) (d : List Byte)
  /-- At a subscription's period, or its 10 ms compare interval, the entry is sampled against the last notified value (R71). Session and subscription. -/
  | subscriptionCheck (at_ : Nat) (session subscription : Nat)
  /-- A challenge and module nonce are issued for a login at the requested level (R77). Where the datagram came from, and the datagram. -/
  | loginChallenge (at_ : Nat) (o : Origin) (d : List Byte)
  /-- An unused login challenge expires after 10 s (R78). The challenge. -/
  | challengeExpiry (at_ challenge : Nat)
  /-- The client's proof is checked and, when it is valid, a session is opened (R78). Where the datagram came from, and the datagram. -/
  | loginResponse (at_ : Nat) (o : Origin) (d : List Byte)
  /-- A 60 s login block of a source address ends (R78). The address. -/
  | loginBlockExpiry (at_ ip : Nat)
  /-- The session ends together with its transfer, group and subscriptions (R80). Where the datagram came from, and the datagram. -/
  | logout (at_ : Nat) (o : Origin) (d : List Byte)
  /-- A valid request restarts the session's idle timeout (R80). Where the datagram came from, and the datagram. -/
  | keepalive (at_ : Nat) (o : Origin) (d : List Byte)
  /-- A session with no valid request for IDLE_TIMEOUT ends (R80). The session. -/
  | sessionIdleTimeout (at_ session : Nat)
  /-- The quench engine checks a QUENCH request and installs or replaces an ingress filter (R73). Where the datagram came from, and the datagram. -/
  | quench (at_ : Nat) (o : Origin) (d : List Byte)
  /-- One filter, or every filter that the session installed, is removed (R75). Where the datagram came from, and the datagram. -/
  | unquench (at_ : Nat) (o : Origin) (d : List Byte)
  /-- A quench filter ends when its duration expires, and the expiry is recorded (R75). No operand. -/
  | quenchFilterExpiry (at_ : Nat) (filter : Nat)
  /-- An IDENTIFY request is answered with the module's identity, subject to the rate limit (R76). Where the datagram came from, and the datagram. -/
  | identify (at_ : Nat) (o : Origin) (d : List Byte)
  /-- A write to an entry that has no step of its own is stored by the dictionary server at its commit (R49). Who writes, the entry's key (index * 256 + sub-index), and the typed value. -/
  | registerWrite (at_ : Nat) (w : Writer) (key : Nat) (ty : Ty) (v : Value)
  /-- A write of 1 to RESTART_REQUEST in STOP makes a warm start (R560). Who writes or reads. -/
  | warmRestartRequest (at_ : Nat) (w : Writer)
  /-- A write of 2 to RESTART_REQUEST in STOP makes a cold start (R560). Who writes or reads. -/
  | coldRestartRequest (at_ : Nat) (w : Writer)
  /-- A Service write of the nonce resets every RETAINED entry to its default and makes a cold restart (R55). Who writes, and the nonce given. -/
  | restoreFactory (at_ : Nat) (w : Writer) (nonce : Nat)
  /-- A level key is written, only from a Service session over J16 (R81). Who writes, the level, and its key. -/
  | keyWrite (at_ : Nat) (w : Writer) (level : Level) (k : List Byte)
  /-- A ring's high-water mark is set to its current fill (R39). Who writes, and the ring. -/
  | ringResetHwm (at_ : Nat) (w : Writer) (ring : Nat)
  /-- The counters that a RESET_STATS entry names are cleared (R122). Who writes, and the key of the RESET_STATS entry. -/
  | resetStats (at_ : Nat) (w : Writer) (key : Nat)
  /-- At a task's release the input snapshot is frozen, or the release is skipped because a turn is still running (R86). No operand. -/
  | taskRelease (at_ : Nat) (task : Nat)
  /-- A released turn is scheduled on its pair and copies its snapshot into the input image (R87). No operand. -/
  | turnStart (at_ : Nat) (task : Nat)
  /-- A turn's outputs, ring entries and checkpoint become visible at one commit (R92). The turn and what its program put out. -/
  | turnCommit (at_ : Nat) (task : Nat) (o : TurnOutput)
  /-- RUNTIME_COMMAND RUN moves the runtime from STOP to RUN (R97). Who writes or reads. -/
  | runCommand (at_ : Nat) (w : Writer)
  /-- RUNTIME_COMMAND STOP ends releases and makes STOP pending until the running turns commit (R583). Who writes or reads. -/
  | stopCommand (at_ : Nat) (w : Writer)
  /-- RUNTIME_COMMAND STOP_NOW abandons running and held turns and enters STOP (R97). Who writes or reads. -/
  | stopNowCommand (at_ : Nat) (w : Writer)
  /-- RUNTIME_COMMAND HOLD enters HOLD when HOLD_PERMIT is true (R99). Who writes or reads. -/
  | holdCommand (at_ : Nat) (w : Writer)
  /-- RUNTIME_COMMAND CONTINUE resumes the held turn and returns the runtime to RUN (R97). Who writes or reads. -/
  | continueCommand (at_ : Nat) (w : Writer)
  /-- RUNTIME_COMMAND STEP runs the held task to its next breakpoint or its commit (R97). Who writes or reads. -/
  | stepCommand (at_ : Nat) (w : Writer)
  /-- A running turn reaches a breakpoint and the runtime enters HOLD when permitted (R99). No operand. -/
  | breakpointReached (at_ : Nat) (task : Nat)
  /-- HOLD_LIMIT expires in HOLD and the runtime enters STOP as by STOP_NOW (R97). No operand. -/
  | holdLimitExpiry (at_ : Nat)
  /-- HOLD_PERMIT is written, and a write of false in HOLD is refused (R99). Who writes, and the value. -/
  | holdPermitWrite (at_ : Nat) (w : Writer) (v : Bool)
  /-- In STOP every RETAIN variable is set to its initial value (R103). Who writes or reads. -/
  | retainReset (at_ : Nat) (w : Writer)
  /-- A force slot is assigned to a point ID, or freed (R107). Who writes, the slot, and the point. -/
  | forcePointWrite (at_ : Nat) (w : Writer) (slot point : Nat)
  /-- A force value is converted through the point's scale and stored (R108). Who writes, the slot, and the value. -/
  | forceValueWrite (at_ : Nat) (w : Writer) (slot value : Nat)
  /-- A force is activated and acts from the next copy-in or frame boundary (R109). Who writes, and the slot. -/
  | forceActivate (at_ : Nat) (w : Writer) (slot : Nat)
  /-- A force is removed and the point returns to its live or last committed value (R109). Who writes, and the slot. -/
  | forceRemove (at_ : Nat) (w : Writer) (slot : Nat)
  /-- Every force is removed at one commit (R111). Who writes or reads. -/
  | forceClearAll (at_ : Nat) (w : Writer)
  /-- Archive bytes are stored in staging at STAGE_OFFSET, which then advances (R113). Who writes, and the bytes. -/
  | stageData (at_ : Nat) (w : Writer) (b : List Byte)
  /-- The staged archive is verified and the online-change checks are run (R113). Who writes or reads. -/
  | stageCheck (at_ : Nat) (w : Writer)
  /-- The checks are re-run and the online changeover is armed within ONLINE_WINDOW (R114). Who writes, and the nonce given. -/
  | stageApply (at_ : Nat) (w : Writer) (nonce : Nat)
  /-- The previous archive is applied in STOP under the same checks (R114). Who writes, and the nonce given. -/
  | revert (at_ : Nat) (w : Writer) (nonce : Nat)
  /-- At the first frame boundary with every task committed and none released, the new archive takes effect (R114). At TB3 `at_`. -/
  | onlineChangeover (at_ : Nat)
  /-- No changeover instant is found within the window, so the result is NO_WINDOW (R114). At TB3 `at_`. -/
  | onlineWindowExpiry (at_ : Nat)
  /-- The comparator detects a difference, blocks the output and resets both cores of the pair (R129). pair `d`; outputs of the two copies in the cycle (R128). -/
  | comparatorMismatch (at_ d : Nat) (copyA copyB : BitVec 214)
  /-- An uncorrectable cache error is treated as a mismatch (R127). pair `d`. -/
  | cacheUncorrectable (at_ d : Nat)
  /-- A corrected cache error stalls both copies equally and increases ECC_CORRECTED (R127). pair `d`. -/
  | cacheCorrected (at_ d : Nat)
  /-- Both copies have restored the committed state and passed their first comparison (R132). pair `d`; whether its committed checkpoint is usable (R136). -/
  | restartComplete (at_ d : Nat) (rootOk : Bool)
  /-- A restart that has not completed within 1,200 µs fails the pair (R138). pair `d`. -/
  | restartTimeout (at_ d : Nat)
  /-- In STOP the comparator injection test of D1, D2 or D3 is started (R145). Who writes, and the pair. -/
  | injectTestRun (at_ : Nat) (w : Writer) (pair : Nat)
  /-- An injection test ends, and the pair is either released or failed (R144). pair `d`; the first unmet criterion, if any. -/
  | injectionTestDone (at_ d : Nat) (r : Option InjectFail)
  /-- Descriptor bytes are stored in Frame staging at LOAD_OFFSET, which then advances (R159). Who writes, and the bytes. -/
  | loadData (at_ : Nat) (w : Writer) (b : List Byte)
  /-- The staged descriptor is checked and a board is loaded, with the result reported (R159). Who writes, and the nonce given. -/
  | loadCommit (at_ : Nat) (w : Writer) (nonce : Nat)
  /-- Frame staging is emptied (R159). Who writes or reads. -/
  | loadClear (at_ : Nat) (w : Writer)
  /-- A dictionary board is requested to become EMPTY (R161). Who writes, and the board. -/
  | unloadBoard (at_ : Nat) (w : Writer) (board : Nat)
  /-- Once no solve of the board is in progress, a loaded board replaces the resident one (R160). At TB3 `at_`. -/
  | boardReplace (at_ board : Nat)
  /-- Once no solve of the board is in progress, the board becomes EMPTY and its pages are returned (R161). At TB3 `at_`. -/
  | boardUnload (at_ board : Nat)
  /-- A board's load at a start or castling completes, and the board becomes RESIDENT or INVALID (R162). At TB3 `at_`. -/
  | boardLoadDone (at_ board : Nat)
  /-- A dictionary batch of moves is placed on the board's SUBMIT ring (R165). Who writes, the board, and the batch. -/
  | moveBatch (at_ : Nat) (w : Writer) (board : Nat) (b : List Byte)
  /-- A dictionary solve request with a relative deadline is placed on the SUBMIT ring (R190). Who writes, the board, and the deadline in microseconds. -/
  | solveRequest (at_ : Nat) (w : Writer) (board us : Nat)
  /-- A dictionary abort of a named solve is placed on the ring and answered OK or TOO_LATE (R201). Who writes, the board, and the SOLVE_ID. -/
  | solveAbort (at_ : Nat) (w : Writer) (board id : Nat)
  /-- A board's HOME is written, and its HOME_ACTIVE is chosen again (R194). Who writes, the board, and the home. -/
  | homeWrite (at_ : Nat) (w : Writer) (board home : Nat)
  /-- The scheduler takes a BATCH entry and applies it, or defers it (R170). At TB3 `at_`. -/
  | batchTake (at_ : Nat)
  /-- The scheduler takes a SOLVE entry, checks it and queues it on its board (R197). At TB3 `at_`. -/
  | solveTake (at_ : Nat)
  /-- The scheduler takes an ABORT entry and decides it for the named request (R201). At TB3 `at_`. -/
  | abortTake (at_ : Nat)
  /-- A full board queue regains room and the scheduler resumes taking from the stalled ring (R192). At TB3 `at_`. -/
  | submitQueueRoom (at_ : Nat)
  /-- A free home starts a ready request after the dispatch checks (R198). On home 0x00 to 0x47. -/
  | solveDispatch (at_ home : Nat)
  /-- A running solve ends with SOLVED, CAP_REACHED, an infeasibility or NUMERIC_FAULT, and its outcome commits (R205). At TB3 `at_`. -/
  | solveOutcome (at_ board : Nat)
  /-- TB3 reaches a request's deadline and DEADLINE_MISS commits (R200). The work that the solve had completed. -/
  | deadlineMiss (at_ board : Nat) (cut : Cut)
  /-- The bead's abort latch is set, and the running solve stops with ABORTED (R201). `sameCycle`: in the cycle of the outcome commit. -/
  | abortLatch (at_ board : Nat) (cut : Cut) (sameCycle : Bool)
  /-- A pending DONE entry is written once ring 26 has room (R209). At TB3 `at_`. -/
  | doneWrite (at_ : Nat)
  /-- A bead takes an uncorrectable SRAM error, goes OFFLINE and its solve is redispatched (R212). At TB3 `at_`. -/
  | beadSramUncorrectable (at_ bead : Nat)
  /-- A corrected bead SRAM error increases ECC_CORRECTED (R212). At TB3 `at_`. -/
  | beadEccCorrected (at_ bead : Nat)
  /-- An uncorrectable error in a board's data makes the board INVALID (R212). At TB3 `at_`. -/
  | frameStoreUncorrectable (at_ board : Nat)
  /-- At a Tally frame boundary the loop outputs commit and the inputs are latched for new samples (R218). At TB3 `at_`; LOOP cycles that the evaluation of a loop waits for reads and ECC in this frame. -/
  | frameBoundary (at_ : Nat) (stalls : List (Nat × Nat))
  /-- Bank A or B is made active from the next frame boundary (R245). Who writes, the loop, and the value. -/
  | bankSelect (at_ : Nat) (w : Writer) (loop bank : Nat)
  /-- A loop's mode changes from its first sample after the next frame boundary (R239). Who writes, the loop, and the mode. -/
  | loopModeWrite (at_ : Nat) (w : Writer) (loop mode : Nat)
  /-- The manual output is written, accepted only in MANUAL (R239). Who writes, the loop, and the binary32 bits. -/
  | outManWrite (at_ : Nat) (w : Writer) (loop value : Nat)
  /-- A parameter of a bank is written; in the active bank this acts as a swap (R247). Who writes, the loop, the bank, stage position j, parameter k, and the binary32 bits. -/
  | bankParameterWrite (at_ : Nat) (w : Writer) (loop bank j k value : Nat)
  /-- The other bank of a loop is copied into this bank at one commit (R263). Who writes, the loop, and the value. -/
  | bankCopy (at_ : Nat) (w : Writer) (loop bank : Nat)
  /-- A characteriser table entry is written and takes effect at the next frame boundary (R264). Who writes, the table, the sub-index, and the value. -/
  | characteriserTableWrite (at_ : Nat) (w : Writer) (table sub value : Nat)
  /-- Retained loop entries that the loop itself changed are stored within 1 s (R585). At TB3 `at_`. -/
  | loopRetainedStore (at_ : Nat)
  /-- A base's frequency adjustment is written in role DISABLED (R270). Who writes, the base, and the adjustment. -/
  | freqAdjWrite (at_ : Nat) (w : Writer) (base : Nat) (ppt : Int)
  /-- A base is stepped by s ns in one TIME cycle (R270). Who writes, the base, and the step. -/
  | baseStep (at_ : Nat) (w : Writer) (base : Nat) (ns : Int)
  /-- A base is set to a new value and becomes LOCKED (R270). Who writes, the base, and the TIME96. -/
  | baseSet (at_ : Nat) (w : Writer) (base time : Nat)
  /-- An instance's role changes and the instance restarts (R281). Who writes, the base, and the role. -/
  | ptpRoleWrite (at_ : Nat) (w : Writer) (base role : Nat)
  /-- A read of TB_SNAPSHOT captures all four bases in one TIME cycle (R274). Who writes or reads. -/
  | tbSnapshot (at_ : Nat) (w : Writer)
  /-- A Sync message is received and stamped, and the servo is updated (R284). `at_` is the TB3 instant in nanoseconds. -/
  | syncReceived (at_ : Nat) (b port mac : Nat) (m : PtpMsg)
  /-- A Follow_Up completes a two-step Sync (R284). `at_` is the TB3 instant in nanoseconds. -/
  | followUpReceived (at_ : Nat) (b port : Nat) (m : PtpMsg)
  /-- A Follow_Up that has not arrived within one Sync interval voids its Sync (R284). `at_` is the TB3 instant in nanoseconds. -/
  | followUpTimeout (at_ : Nat) (b port : Nat)
  /-- As master, the module sends a one-step Sync carrying its transmit timestamp (R284). `at_` is the TB3 instant in nanoseconds. -/
  | syncSend (at_ : Nat) (b port : Nat)
  /-- As master, the module sends an Announce message (R281). `at_` is the TB3 instant in nanoseconds. -/
  | announceSend (at_ : Nat) (b port : Nat)
  /-- An Announce is received for the best-master algorithm, the UTC offset and the leap flags (R293). `at_` is the TB3 instant in nanoseconds. -/
  | announceReceived (at_ : Nat) (b port : Nat) (a : Announce)
  /-- The selected master is lost under the announce receipt timeout (R271). `at_` is the TB3 instant in nanoseconds. -/
  | announceReceiptTimeout (at_ : Nat) (b : Nat)
  /-- Four Sync intervals without a usable Sync switch the path or enter HOLDOVER (R271). `at_` is the TB3 instant in nanoseconds. -/
  | syncIntervalTimeout (at_ : Nat) (b : Nat)
  /-- A Delay_Req is sent at the delay request interval (R280). `at_` is the TB3 instant in nanoseconds. -/
  | delayReqSend (at_ : Nat) (b port : Nat)
  /-- A Delay_Resp completes an end-to-end path delay measurement (R280). `at_` is the TB3 instant in nanoseconds. -/
  | delayRespReceived (at_ : Nat) (b port : Nat) (m : PtpMsg)
  /-- A Pdelay_Req is sent on a port at the peer-delay interval (R280). `at_` is the TB3 instant in nanoseconds. -/
  | pdelayReqSend (at_ : Nat) (b port : Nat)
  /-- A Pdelay_Req is answered with a Pdelay_Resp carrying its turnaround (R286). `at_` is the TB3 instant in nanoseconds. -/
  | pdelayReqReceived (at_ : Nat) (b port mac : Nat) (m : PtpMsg)
  /-- A Pdelay_Resp completes a peer-delay measurement of the link (R280). `at_` is the TB3 instant in nanoseconds. -/
  | pdelayRespReceived (at_ : Nat) (b port mac : Nat) (m : PtpMsg)
  /-- A PTP event frame forwarded between P3 and P4 has its correctionField corrected (R287). `at_` is the TB3 instant in nanoseconds. -/
  | tcEventForward (at_ : Nat) (f : TcFrame)
  /-- The offset of the twin partner's TB3 is measured every 1 ms (R292). `at_` is the TB3 instant in nanoseconds. -/
  | partnerOffsetMeasure (at_ : Nat) (m : Option Nat)
  /-- An arriving Ethernet frame passes the ingress pipeline and is delivered, forwarded or dropped (R308). `port` is 0 to 3 for P1 to P4; `bufferFull` says that the ingress buffer of the frame's class is full. -/
  | frameReceived (at_ : Nat) (port : Nat) (bufferFull : Bool) (f : EthFrame)
  /-- A MAC takes a TX descriptor and sends the frame (R306). No operand. -/
  | portTransmit (at_ : Nat) (port : Nat)
  /-- A PRP or HSR supervision frame is sent every LIFE_CHECK_INTERVAL (R299). `hsr` selects P3 and P4, else P1 and P2. -/
  | supervisionSend (at_ : Nat) (hsr : Bool)
  /-- The ring is judged closed or open from the return of the module's own supervision frames (R304). No operand. -/
  | ringCheck (at_ : Nat)
  /-- A node or duplicate-table entry is forgotten after its forget time (R299). No operand. -/
  | nodeForget (at_ : Nat)
  /-- A port's link comes up or goes down, and the corrections and PTP measurements are reset (R279). The observed LINK_STATE and MDI_STATE. -/
  | linkChange (at_ : Nat) (port : Nat) (link : Nat) (mdi : Nat)
  /-- While its link is down, a port tests its pairs once per second (R298). The measured CABLE_STATE. -/
  | cableTest (at_ : Nat) (port : Nat) (pairs : Nat)
  /-- ECX_ENABLE is written, subject to the load, output and input checks (R319). Who writes, and the value. -/
  | ecxEnableWrite (at_ : Nat) (w : Writer) (v : Bool)
  /-- A station is enabled or disabled from the next cycle close (R323). Who writes, the station, and the value. -/
  | stationEnableWrite (at_ : Nat) (w : Writer) (station : Nat) (v : Bool)
  /-- An ECX cycle snapshots the output images and sends CYCLE_OUT frames (R320). No operand. -/
  | ecxCycleStart (at_ : Nat)
  /-- A CYCLE_IN is checked, and its first valid copy is committed to RIO_IN (R322). Ring port 2 or 3, source MAC address and the frame. -/
  | cycleIn (at_ : Nat) (port : Nat) (src : Nat) (f : EcxFrame)
  /-- The cycle closes; misses are counted and station state changes are committed (R323). No operand. -/
  | ecxCycleClose (at_ : Nat)
  /-- An acyclic request is sent to a station in the next cycle (R328). Who writes, the station, and the request. -/
  | acycRequest (at_ : Nat) (w : Writer) (station : Nat) (b : List Byte)
  /-- A station's acyclic response is reported (R328). No operand. -/
  | acycResponse (at_ : Nat) (station : Nat) (payload : List Byte)
  /-- An acyclic request unanswered for 100 ms ends with timeout (R328). No operand. -/
  | acycTimeout (at_ : Nat) (station : Nat)
  /-- CHANNEL_MODE is written, subject to the bit-timing checks (R332). Who writes, the channel, and the mode. -/
  | channelModeWrite (at_ : Nat) (w : Writer) (channel mode : Nat)
  /-- At the first bus idle after the write, the channel takes the new mode (R331). `c` is the channel, 0 to 3. -/
  | channelModeEffect (at_ : Nat) (c : Nat)
  /-- After 11 recessive bits, a channel leaving OFF takes part in traffic (R331). No operand. -/
  | canIntegration (at_ : Nat) (c : Nat)
  /-- A SEND entry updates an object's image and makes a frame pending (R349). No operand. -/
  | txqSend (at_ : Nat) (c : Nat)
  /-- An UPDATE entry changes an object's image without a transmission (R349). No operand. -/
  | txqUpdate (at_ : Nat) (c : Nat)
  /-- An ABORT entry drops the object's pending frame, or is refused with TOO_LATE (R340). No operand. -/
  | txqAbort (at_ : Nat) (c : Nat)
  /-- A dictionary write sends or updates an object that has no archive writer (R335). Who writes, the channel, the object, and its frame. -/
  | objSend (at_ : Nat) (w : Writer) (channel object : Nat) (b : List Byte)
  /-- A PERIODIC object's release makes a frame pending (R336). Channel and object. -/
  | periodicRelease (at_ : Nat) (c : Nat) (o : Nat)
  /-- A frame passes its end of frame without error and commits as SENT (R340). The loop delay measured in the frame, CAN clock periods. -/
  | canFrameSent (at_ : Nat) (c : Nat) (delay : Nat)
  /-- A frame loses arbitration and is retried at the next opportunity (R341). No operand. -/
  | arbitrationLost (at_ : Nat) (c : Nat)
  /-- A transmit attempt ends in an error, and the frame is retried or dropped (R342). `kind` as LAST_ERROR codes it; `collision` as R344 defines it; `quiet` for an ACK error that leaves TEC. -/
  | transmitError (at_ : Nat) (c : Nat) (kind : Nat) (collision : Bool) (quiet : Bool)
  /-- After 128 occurrences of 11 recessive bits the channel returns to ERROR_ACTIVE (R343). No operand. -/
  | busOffRecovery (at_ : Nat) (c : Nat)
  /-- A pending frame's lifetime elapses and the frame is dropped with EXPIRED (R339). No operand. -/
  | lifetimeExpiry (at_ : Nat) (c : Nat) (o : Nat)
  /-- A received frame is filtered and accepted into RXQ, or dropped (R346). No operand. -/
  | canFrameReceived (at_ : Nat) (c : Nat) (f : CanFrame)
  /-- CANH and CANL are measured, and transceiver fault bits are set or cleared (R351). No operand. -/
  | xcvrMeasure (at_ : Nat) (c : Nat) (m : XcvrMeasure)
  /-- The driver releases the bus after it has been driven dominant for too long (R351). No operand. -/
  | txdDominantTimeout (at_ : Nat) (c : Nat)
  /-- A field frame from the logic side is checked and applied by the field side (R371). Checks of the frame and of both sub-frames; energies (mJ, binary32) of switch-offs. -/
  | fieldFrameToField (at_ : Nat) (ok okX okY : Bool) (demag : List (Nat × Nat))
  /-- The field side sends its samples and diagnostics to the logic side (R28). Check of the frame and what it carries. -/
  | fieldFrameToLogic (at_ : Nat) (ok : Bool) (f : FieldIn)
  /-- A monitored input below 0.25 mA for 100 ms sets OPEN_WIRE (R359). Input and the observed condition: true sets, false clears. -/
  | diOpenWire (at_ i : Nat) (open_ : Bool)
  /-- An input below −3 V for 10 ms sets REVERSED (R359). Input and the observed condition. -/
  | diReversed (at_ i : Nat) (reversed : Bool)
  /-- An edge on a fast input passes the glitch filter, is stamped and latches the bound axis counter (R360). Input 0 to 23 and the edge that passed the glitch filter. -/
  | latchEdge (at_ i : Nat) (rising : Bool)
  /-- An output's profile is set, subject to the bank rules (R363). Who writes, the output, and the profile. -/
  | doProfileWrite (at_ : Nat) (w : Writer) (output profile : Nat)
  /-- Current held at the limit, or above 130 % of rating, for its time trips the output (R367). Output; held at the limit, output below 2.0 V. -/
  | doOverload (at_ o : Nat) (atLimit below2V : Bool)
  /-- A switch junction above 150 °C trips the output (R367). true above 150 °C, false below 135 °C. -/
  | doOvertemp (at_ o : Nat) (hot : Bool)
  /-- Current below OPEN_ON_CURRENT while ON for 100 ms sets OPEN_ON (R367). Output and the observed condition. -/
  | doOpenOn (at_ o : Nat) (open_ : Bool)
  /-- The output above 3.0 V while OFF for 100 ms sets OPEN_OFF (R367). Output and the observed condition. -/
  | doOpenOff (at_ o : Nat) (open_ : Bool)
  /-- The output near the group supply while OFF for 100 ms sets OFF_VOLTAGE (R367). Output and the observed condition. -/
  | doOffVoltage (at_ o : Nat) (high : Bool)
  /-- A bank member out of its current share for 100 ms sets SHARE_FAULT (R364). Member and the observed condition. -/
  | shareFault (at_ o : Nat) (out : Bool)
  /-- Under AUTO, a tripped output switches on again after RETRY_DELAY (R368). Output. -/
  | autoRetry (at_ o : Nat)
  /-- A write of true takes a LATCHED output out of TRIPPED (R368). Who writes, and the output. -/
  | tripReset (at_ : Nat) (w : Writer) (output : Nat)
  /-- A group supply's state changes once its time has expired (R370). Group and the state of Table DIO-6 whose time has expired. -/
  | groupStateChange (at_ g st : Nat)
  /-- No valid field frame for SILENCE_TIMEOUT, so the field side enters SILENCE and drives its safe states (R372). No operand. -/
  | silenceTimeout (at_ : Nat)
  /-- An AI conversion window ends and its averaged value travels in the next field frame (R381). Input and its conversion. -/
  | aiConversion (at_ i : Nat) (m : AiMeas)
  /-- Current below OPEN_THRESHOLD for 100 ms sets OPEN_WIRE (R383). Input and the observed condition. -/
  | aiOpenWire (at_ i : Nat) (open_ : Bool)
  /-- Current above 24.0 mA for 10 ms sets OVER_RANGE (R383). Input and the observed condition. -/
  | aiOverRange (at_ i : Nat) (above : Bool)
  /-- A transmitter supply at its current limit for 100 ms sets SHORT (R383). Input and the observed condition. -/
  | aiShort (at_ i : Nat) (short : Bool)
  /-- A burden voltage below −25 mV for 10 ms gives CHANNEL_FAULT with cause REVERSED (R384). Input and the observed condition. -/
  | aiReversed (at_ i : Nat) (reversed : Bool)
  /-- SHORT set for 1 s switches the transmitter supply off for 5 s (R387). Input. -/
  | aiSupplyOff (at_ i : Nat)
  /-- The transmitter supply restarts after 5 s off (R387). Input. -/
  | supplyRetry (at_ i : Nat)
  /-- An overheated supply stage has its voltage lowered by 0.5 V every 100 ms, or is switched off (R388). Stage temperature: 3 above 160 °C, 2 above 140 °C, 1 from 130 °C, 0 below. -/
  | aiThermalStep (at_ i zone : Nat)
  /-- The 4.000 mA point of an AI trim capture is started (R390). Who writes, and the input. -/
  | trimCaptureFirst (at_ : Nat) (w : Writer) (input : Nat)
  /-- The 20.000 mA point is captured and the trims are computed and applied (R390). Who writes, and the input. -/
  | trimCaptureSecond (at_ : Nat) (w : Writer) (input : Nat)
  /-- An AI trim capture is abandoned (R390). Who writes, and the input. -/
  | trimCaptureAbandon (at_ : Nat) (w : Writer) (input : Nat)
  /-- The 400 conversions of a capture point complete, and the point is held or judged UNSTABLE (R390). Input. -/
  | trimPointDone (at_ i : Nat)
  /-- The output is driven at 4.000 mA for a trim capture (R392). Who writes, and the output. -/
  | aoTrimDrive4 (at_ : Nat) (w : Writer) (output : Nat)
  /-- The output is driven at 20.000 mA for a trim capture (R392). Who writes, and the output. -/
  | aoTrimDrive20 (at_ : Nat) (w : Writer) (output : Nat)
  /-- The output trims are computed from the two readings and applied (R392). Who writes, and the output. -/
  | aoTrimApply (at_ : Nat) (w : Writer) (output : Nat)
  /-- An AO trim capture is abandoned (R392). Who writes, and the output. -/
  | aoTrimAbandon (at_ : Nat) (w : Writer) (output : Nat)
  /-- The reference reading at the point being driven is recorded (R392). Who writes, the output, and the binary32 bits. -/
  | aoTrimReading (at_ : Nat) (w : Writer) (output value : Nat)
  /-- Readback short of the command for 10 ms at maximum rail sets COMPLIANCE (R394). Output and the observed condition, with the rail at its maximum. -/
  | aoCompliance (at_ o : Nat) (short : Bool)
  /-- Readback below 0.2 mA at a command of 1 mA or more for 10 ms sets OPEN_WIRE (R395). Output and the observed condition. -/
  | aoOpenWire (at_ o : Nat) (open_ : Bool)
  /-- The compliance rail more than 1.0 V below its target for 10 ms sets RAIL_FAULT (R395). The observed condition. -/
  | aoRailFault (at_ : Nat) (fault : Bool)
  /-- An output stage above 150 °C drives 0 mA (R395). Output and the observed condition. -/
  | aoOvertemp (at_ o : Nat) (hot : Bool)
  /-- The burden bypasses open 200 µs to 1 ms after the field enable asserts (R397). No operand. -/
  | bypassOpen (at_ : Nat)
  /-- The motion unit takes a MOVE_ABS command and plans a move to an absolute target (R411). No operand. -/
  | moveAbs (at_ : Nat)
  /-- The motion unit takes a MOVE_REL command and plans a move by a distance (R411). No operand. -/
  | moveRel (at_ : Nat)
  /-- The axis runs at a signed velocity until it is replaced (R413). No operand. -/
  | moveVel (at_ : Nat)
  /-- The axis is brought to rest at STOP_DECEL (R413). No operand. -/
  | axisStop (at_ : Nat)
  /-- Homing is started with the configured method (R420). No operand. -/
  | axisHome (at_ : Nat)
  /-- A named move is aborted, or the abort is refused with TOO_LATE (R416). No operand. -/
  | axisAbort (at_ : Nat)
  /-- ENA is asserted (R423). No operand. -/
  | axisEnable (at_ : Nat)
  /-- ENA is deasserted at rest, and in motion the axis first stops (R423). No operand. -/
  | axisDisable (at_ : Nat)
  /-- A one-shot position latch is armed on a fast input (R419). No operand. -/
  | latchArm (at_ : Nat)
  /-- Every 10 µs the generator recomputes each axis and places its steps (R411). No operand. -/
  | profileTick (at_ : Nat)
  /-- A profile setting is written and the move in progress is replanned, or the change is deferred (R414). Who writes, the axis, the sub-index, and the value. -/
  | axisSettingWrite (at_ : Nat) (w : Writer) (axis sub value : Nat)
  /-- FLT stops the steps, deasserts ENA and invalidates the position (R424). Axis. -/
  | fltAsserted (at_ a : Nat)
  /-- FLT released for 100 ms allows commands again (R424). Axis. -/
  | fltReleased (at_ a : Nat)
  /-- An axis at rest for IDLE_DISABLE has its ENA deasserted (R423). Axis. -/
  | idleDisable (at_ a : Nat)
  /-- After ENABLE_DELAY from an automatic enable, the first step is emitted (R417). Axis. -/
  | enableDelay (at_ a : Nat)
  /-- Both safety channels are released, take their inputs and evaluate the program (R436). No operand. -/
  | safetyRelease (at_ : Nat)
  /-- Both comparisons pass, the element commands and ESC frames commit (R436). The results of channels X and Y. -/
  | safetyCommit (at_ : Nat) (x y : SafeOut)
  /-- A field safety section without a valid sub-frame for SAFE_WATCHDOG opens its elements (R435). The section: FSY, else FSX. -/
  | safeWatchdogExpiry (at_ : Nat) (fsy : Bool)
  /-- A test-pulse source emits its off-pulse, and the contacts are checked against it (R439). Source, and the contacts that each section saw drop. -/
  | testPulse (at_ source : Nat) (dropX dropY : BitVec 32)
  /-- A source at its current limit for 5 ms sets TP_FAULT (R439). Source and the observed condition. -/
  | tpFault (at_ source : Nat) (fault : Bool)
  /-- The discrepancy timer reaches SI_DISCREPANCY and DISCREPANCY is set (R443). Input and section. -/
  | siDiscrepancy (at_ i : Nat) (fsy : Bool)
  /-- A section pulses its element of a safe brake output and checks the readback (R446). Output, section, and whether the readback passes. -/
  | sbPulseTest (at_ output : Nat) (fsy pass : Bool)
  /-- A section detects an output fault and opens both elements (R447). `kind` is the bit of SB_DIAG: 4 OVERLOAD, 5 OPEN_LOAD, 6 EXT_VOLTAGE, 7 OVERTEMP. -/
  | sbFault (at_ output kind : Nat) (fsy : Bool)
  /-- A received ESC copy is validated and kept by its channel (R456). LAN B, else LAN A. -/
  | escFrameReceived (at_ : Nat) (lanB : Bool)
  /-- A holding test is started at the next release, or refused (R451). Who writes, and the safe brake. -/
  | htStart (at_ : Nat) (w : Writer) (sb : Nat)
  /-- SAFETY_STOP is left for STARTING when no cause is present (R438). Who writes or reads. -/
  | safetyReset (at_ : Nat) (w : Writer)
  /-- Parameter-set bytes are stored in staging at SPS_OFFSET (R464). Who writes, and the bytes. -/
  | spsData (at_ : Nat) (w : Writer) (b : List Byte)
  /-- The staged safety parameter set is checked and committed (R464). Who writes, and the CRC. -/
  | spsCommit (at_ : Nat) (w : Writer) (crc : Nat)
  /-- A partner detector reads TOKEN asserted, and the field enable deasserts (R474). False: the logic-side detector; true: the field-side one. -/
  | partnerTokenAsserted (at_ : Nat) (side : Bool)
  /-- A partner detector reads TOKEN deasserted after 3 µs without edges (R474). False: the logic-side detector; true: the field-side one. -/
  | partnerTokenDeasserted (at_ : Nat) (side : Bool)
  /-- Own TOKEN driven and partner deasserted for 50 µs assert the field enable (R475). At TB3 `at_`. -/
  | fieldEnableAssert (at_ : Nat)
  /-- The two detectors disagree for more than 10 µs (R475). At TB3 `at_`. -/
  | tokenPathFault (at_ : Nat)
  /-- Services that have not refreshed the watchdog stop TOKEN and cause a warm start (R476). At TB3 `at_`. -/
  | tokenWatchdogExpiry (at_ : Nat)
  /-- The listen window ends without a partner TOKEN and the module becomes ACTIVE (R477). At TB3 `at_`. -/
  | listenWindowExpiry (at_ : Nat)
  /-- A heartbeat is sent to the partner every 100 µs (R483). The voltage at SUP as binary32 bits. -/
  | heartbeatSend (at_ : Nat) (sup : Nat)
  /-- A partner heartbeat updates its role, readiness and generation (R483). The heartbeat and the CRC errors of each lane since the last one. -/
  | heartbeatReceived (at_ : Nat) (h : Heartbeat) (errA : Nat) (errB : Nat)
  /-- No valid Twin Link frame for 500 µs makes the link DOWN (R483). At TB3 `at_`. -/
  | linkDownTimeout (at_ : Nat)
  /-- The standby checks a delta at its END and commits it (R486). The delta as received. -/
  | deltaEnd (at_ : Nat) (d : TwinDelta)
  /-- A full resynchronisation completes (R481). Everything that the resynchronisation copied. -/
  | resyncDone (at_ : Nat) (d : TwinDelta)
  /-- Every AUDIT_INTERVAL the standby compares checkpoint CRCs with the active module's (R488). Every compared CRC-32 agrees. -/
  | audit (at_ : Nat) (ok : Bool)
  /-- A piece of an archive from the active module is stored by the standby (R479). A piece of the partner's running or staged archive; the last piece. -/
  | archivePart (at_ : Nat) (staged : Bool) (off : Nat) (bytes : List Byte) (last : Bool)
  /-- A commanded castling is started, or refused (R489). Who writes, and the nonce given. -/
  | castleRequest (at_ : Nat) (w : Writer) (nonce : Nat)
  /-- The standby receives CASTLE and ACKs once it has committed the final generation (R489). The final generation and the cause of Table TWN-11. -/
  | castleReceived (at_ : Nat) (gen : Nat) (cause : Nat)
  /-- The active module receives the ACK and stops TOKEN (R489). At TB3 `at_`. -/
  | castleAck (at_ : Nat)
  /-- No ACK within 1 ms, so the active module keeps TOKEN (R489). At TB3 `at_`. -/
  | castleAckTimeout (at_ : Nat)
  /-- A READY standby asserts TOKEN and restarts its pairs from the twin checkpoint (R490). What stopped the partner's TOKEN, as coded in Table TWN-11. -/
  | standbyTakeToken (at_ : Nat) (cause : Nat)
  /-- The module that released TOKEN makes its warm start (R496). At TB3 `at_`. -/
  | castlingRelease (at_ : Nat)
  /-- REJOIN_HELD is released (R496). Who writes or reads. -/
  | rejoin (at_ : Nat) (w : Writer)
  /-- The proof test of castling runs its steps (R499). Who writes, the nonce, and what the two steps observe. -/
  | proofTest (at_ : Nat) (w : Writer) (nonce : Nat) (step1 : Bool) (step2 : Bool)
  /-- VBUS on J16 for 1 s puts a standby in maintenance (R480). At TB3 `at_`. -/
  | maintenanceEnter (at_ : Nat)
  /-- 5 s after VBUS is removed, the module leaves maintenance with a warm start (R480). At TB3 `at_`. -/
  | maintenanceExit (at_ : Nat)
  /-- A flash page of records is programmed and their buffer space is released (R510). number of records, from the oldest, that the programmed page completes. -/
  | flushPage (at_ records : Nat)
  /-- A segment that fails to program is retired and its records are rewritten (R511). segment that failed to program. -/
  | segmentRetired (at_ segment : Nat)
  /-- A Service write of the nonce opens the Opening Book (R512). Who writes, and the nonce given. -/
  | bookOpen (at_ : Nat) (w : Writer) (nonce : Nat)
  /-- A read returns whole records from the cursor and advances the cursor (R514). Who writes or reads. -/
  | readBlock (at_ : Nat) (w : Writer)
  /-- A proven clear hides the Endgame Ring records behind a CLEARED record (R515). Who writes, and the proof. -/
  | clearRing (at_ : Nat) (w : Writer) (proof : List Byte)
  /-- A draw is copied to a buffer and placed on SLATE_UPD (R528). Who writes, and the bytes. -/
  | slateDraw (at_ : Nat) (w : Writer) (b : List Byte)
  /-- Slate takes an update entry and writes its pixels to TARGET (R530). At TB3 `at_`. -/
  | slateUpdTake (at_ : Nat)
  /-- At vertical blanking an LCD update is written into frame memory and commits (R529). At TB3 `at_`. -/
  | lcdVblank (at_ : Nat)
  /-- At a bistable phase boundary, updates start and running updates commit (R530). At TB3 `at_`. -/
  | phaseBoundary (at_ : Nat)
  /-- The panel temperature is read every 1 s and the band is chosen (R523). `ntc` is the temperature that PANEL_NTC gives (binary32 bits), none where it reads open or shorted. -/
  | panelTempRead (at_ : Nat) (ntc : Option Nat)
  /-- A frame-memory band is checked against its CRC and repaired (R522). `bad` says that the band's words fail its CRC-32. -/
  | bandCheck (at_ band : Nat) (bad : Bool)
  /-- A panel rail out of tolerance for 10 ms cuts the updates and powers the panel down (R527). The rail and its voltage (binary32 bits). -/
  | slateRailFault (at_ rail volts : Nat)
  /-- A delay of the power sequence expires and the next rail step is taken (R526). At TB3 `at_`. -/
  | panelSequenceStep (at_ : Nat)
  /-- PANEL_ENABLE starts power-up or power-down (R526). Who writes, and the value. -/
  | panelEnableWrite (at_ : Nat) (w : Writer) (v : Bool)
  /-- The panel type changes through power-down and power-up (R519). Who writes, and the type. -/
  | panelTypeWrite (at_ : Nat) (w : Writer) (type : Nat)
  /-- A waveform set is checked and installed (R524). Who writes, and the bytes. -/
  | waveformSetWrite (at_ : Nat) (w : Writer) (b : List Byte)
  /-- Slate enters or leaves STRIP mode (R534). Who writes, and the mode. -/
  | slateModeWrite (at_ : Nat) (w : Writer) (mode : Nat)
  /-- No key press for STRIP_IDLE enters STRIP (R534). At TB3 `at_`. -/
  | stripIdleExpiry (at_ : Nat)
  /-- A debounced key press is reported or consumed (R535). The debounced levels: bit 0 UP, 1 DOWN, 2 ENTER, 3 BACK. -/
  | keyPress (at_ : Nat) (keys : Nat)
  /-- ENTER and BACK held for 3 s in STOP enter service mode (R536). At TB3 `at_`. -/
  | serviceModeEnter (at_ : Nat)
  /-- Service mode ends on BACK held, 300 s idle or leaving STOP (R536). At TB3 `at_`. -/
  | serviceModeExit (at_ : Nat)
  /-- SUP within range for 10 ms starts the AON sequencer (R557). At TB3 `at_`. -/
  | powerOn (at_ : Nat)
  /-- A start runs the start-up sequence up to the RESUME frame (R557). At TB3 `at_`, with the readings of the start. -/
  | start (at_ : Nat) (i : StartIn)
  /-- The holdup store is charged and its energy measured (R543). The energy of the store in mJ. -/
  | holdupCharged (at_ : Nat) (energy : Nat)
  /-- SUP below 18.0 V for 10 ms reads LOW (R541). The supply in mV. -/
  | supLow (at_ : Nat) (v : Nat)
  /-- SUP above 32.0 V for 10 ms reads HIGH (R541). The supply in mV. -/
  | supHigh (at_ : Nat) (v : Nat)
  /-- SUP below 16.5 V for 100 µs detects power failure and sheds loads (R544). The supply in mV. -/
  | powerFail (at_ : Nat) (v : Nat)
  /-- 2 ms after detection, turns are abandoned and most blocks are gated (R546). At TB3 `at_`. -/
  | powerFailReduce (at_ : Nat)
  /-- The power-fail checkpoint is committed to MRAM (R548). At TB3 `at_`. -/
  | pfCheckpoint (at_ : Nat)
  /-- SUP qualified for 100 ms makes the module reset and start with cause POWER_FAIL (R549). At TB3 `at_`. -/
  | supReturned (at_ : Nat)
  /-- The store reaches 20 V and the supervisor resets the logic side (R547). At TB3 `at_`. -/
  | storeDepleted (at_ : Nat)
  /-- A rail out of tolerance for 10 µs resets the logic side (R542). The rail and its voltage in mV. -/
  | railFault (at_ : Nat) (rail : Nat) (v : Nat)
  /-- A TCXO deviation or PLL loss for 10 µs resets the logic side (R553). The kind of clock fault, set or cleared. -/
  | clockFault (at_ : Nat) (kind : Nat) (present : Bool)
  /-- A K96 junction above 125 °C for 10 ms resets the logic side (R563). The die temperature. -/
  | thermal (at_ : Nat) (junction : Nat)
  /-- Each powered hour increases OPERATING_HOURS, HT_AGE and PROOF_AGE (R563). At TB3 `at_`. -/
  | operatingHour (at_ : Nat)
  /-- Image bytes are written into the inactive firmware slot (R556). Who writes, and the bytes. -/
  | fwStageData (at_ : Nat) (w : Writer) (b : List Byte)
  /-- The staged image is verified (R556). Who writes or reads. -/
  | fwStageCheck (at_ : Nat) (w : Writer)
  /-- A cold start is made into the new slot as a trial (R556). Who writes, and the nonce given. -/
  | fwActivate (at_ : Nat) (w : Writer) (nonce : Nat)
  /-- A trial not confirmed within 120 s falls back at the next start (R556). At TB3 `at_`. -/
  | trialTimeout (at_ : Nat)
  /-- SUP back within 18.0 V to 32.0 V returns SUP_STATE from LOW or HIGH to NORMAL (R541). The supply in mV. -/
  | supNormal (at_ : Nat) (v : Nat)
  /-- The mounting-face temperature crosses +60 °C or +70 °C and THERMAL_STATE changes between NORMAL, DERATING and HIGH, with HIGH recorded in the ledger (R563). The temperatures at the mount and of the die. -/
  | thermalStateChange (at_ : Nat) (mount : Nat) (junction : Nat)
  /-- One Twin Link lane goes down or comes back, so the link moves between UP and DEGRADED (R482). A lane, 0 or 1, and whether it is up. -/
  | laneStateChange (at_ : Nat) (lane : Nat) (up : Bool)
  /-- The channel detects a bus error while receiving, raises REC under ISO 11898-1 and can enter ERROR_PASSIVE (R342). `dominant`: a dominant bit followed the error flag. -/
  | canReceiveError (at_ : Nat) (c : Nat) (kind : Nat) (dominant : Bool)
  /-- A USB packet on the vendor bulk interface of J16 places one 64-byte entry on MBX0 (ring 46) for the runtime (R571). The packet. -/
  | mbx0Packet (at_ : Nat) (b : List Byte)
deriving DecidableEq, Repr

end Sys2Proof
end

