-- ==== Sys2Proof/Decode.lean ====
section
/-!
DEFINITION. Decode.lean: the command that a word spells. No row of spec/opcode_table.json gives a command bits: commands reach the
block as events, pins and register accesses. So no word spells a command.
-/

/-- The command spelled by a word of `nbits` bits: none, since no row of the table gives bits. -/
def Sys2Proof.decodeTableWord (_nbits _w : Nat) : Option Sys2Proof.Instr := none
end

