-- ==== Sys2Proof/Machine/Bits.lean ====
section
/-!
DEFINITION. Machine/Bits.lean: byte order, bit fields, two's complement, and saturating counts.
R16 gives the byte orders: big-endian in an Ethernet frame, little-endian in a memory image, a ring entry,
the Frame store, a checkpoint, and inside an OCTETS entry.
-/
namespace Sys2Proof.Machine

/-- `n` as `w` bytes, least significant first (R16). -/
def leBytes : Nat → Nat → List Byte
  | 0, _ => []
  | w + 1, n => BitVec.ofNat 8 n :: leBytes w (n / 256)

/-- The number that bytes spell, least significant first (R16). -/
def leNat : List Byte → Nat
  | [] => 0
  | b :: bs => b.toNat + 256 * leNat bs

/-- `n` as `w` bytes, most significant first (R16). -/
def beBytes (w n : Nat) : List Byte := (leBytes w n).reverse

/-- The number that bytes spell, most significant first (R16). -/
def beNat (bs : List Byte) : Nat := bs.foldl (fun a b => 256 * a + b.toNat) 0

/-- `len` bytes of `bs` from byte `off`. -/
def slice (bs : List Byte) (off len : Nat) : List Byte := (bs.drop off).take len

/-- The little-endian field of `len` bytes at byte `off`. -/
def leAt (bs : List Byte) (off len : Nat) : Nat := leNat (slice bs off len)

/-- The big-endian field of `len` bytes at byte `off`. -/
def beAt (bs : List Byte) (off len : Nat) : Nat := beNat (slice bs off len)

/-- Bits [hi:lo] of `n` (R14). -/
def bitsOf (n hi lo : Nat) : Nat := n / 2 ^ lo % 2 ^ (hi + 1 - lo)

/-- Bit `i` of `n`. -/
def bitOf (n i : Nat) : Bool := n / 2 ^ i % 2 == 1

/-- `n` with bit `i` set to `b`. -/
def setBit (n i : Nat) (b : Bool) : Nat :=
  if bitOf n i == b then n else if b then n + 2 ^ i else n - 2 ^ i

/-- The two's-complement reading of the low `w` bits of `n` (R18). -/
def intOf (w n : Nat) : Int :=
  let m := n % 2 ^ w
  if m < 2 ^ (w - 1) then (m : Int) else (m : Int) - (2 ^ w : Nat)

/-- The low `w` bits of the two's complement of `i` (R18). -/
def natOf (w : Nat) (i : Int) : Nat := (i % ((2 ^ w : Nat) : Int)).toNat

/-- `n` clamped to `max`. -/
def clampTo (max n : Nat) : Nat := if n ≤ max then n else max

/-- `i` clamped to `lo`..`hi`. -/
def clampInt (lo hi i : Int) : Int := if i < lo then lo else if hi < i then hi else i

/-- 0 or 1 of a truth value (BOOL of Table SCP-5). -/
def ofBool (b : Bool) : Nat := if b then 1 else 0

/-- The bytes of an ASCII text. -/
def ascii (s : String) : List Byte := s.toList.map (fun c => BitVec.ofNat 8 c.toNat)

/-- Element `k` of `xs` replaced by `f` of it; `xs` unchanged where there is none. -/
def modifyAt {α : Type} : List α → Nat → (α → α) → List α
  | [], _, _ => []
  | x :: xs, 0, f => f x :: xs
  | x :: xs, k + 1, f => x :: modifyAt xs k f

/-- `bs` cut or filled with `d` to exactly `n` elements. -/
def fitTo {α : Type} (d : α) (n : Nat) (xs : List α) : List α := (xs ++ List.replicate n d).take n

/-- `xs` written over `bs` from position `off`; `bs` is filled with zero bytes up to `off`. -/
def overlay (bs : List Byte) (off : Nat) (xs : List Byte) : List Byte :=
  fitTo 0 off bs ++ xs ++ bs.drop (off + xs.length)

/-- Ceiling of `a / b`, 0 for `b = 0`. -/
def ceilDiv (a b : Nat) : Nat := if b = 0 then 0 else (a + b - 1) / b

/-- The sum of a list. -/
def sumNat (xs : List Nat) : Nat := xs.foldl (· + ·) 0

end Sys2Proof.Machine
end

