-- ==== Sys2Proof/Machine/Float.lean ====
section
/-!
DEFINITION. Machine/Float.lean: IEEE 754-2019 binary32 and binary64 arithmetic, round to nearest, ties to even (R18).
A value is handled as its bits; each operation computes the exact result on integers and rounds once.
-/
namespace Sys2Proof.Machine

/-- A binary format: precision `p` in bits with the hidden bit, and the width of the exponent field. -/
structure Fmt where
  p : Nat
  ew : Nat
deriving DecidableEq, Repr

/-- binary32. -/
def fmt32 : Fmt := { p := 24, ew := 8 }
/-- binary64. -/
def fmt64 : Fmt := { p := 53, ew := 11 }

/-- A value read from its bits: a finite value is `m * 2 ^ e` with its sign. -/
inductive Fl where
  | nan
  | inf (neg : Bool)
  | fin (neg : Bool) (m : Nat) (e : Int)
deriving DecidableEq, Repr

/-- Exponent bias of a format. -/
def Fmt.bias (f : Fmt) : Int := (2 ^ (f.ew - 1) : Nat) - 1
/-- The exponent of the least significant bit of a subnormal. -/
def Fmt.emin (f : Fmt) : Int := 1 - f.bias - ((f.p : Int) - 1)
/-- The bits of positive infinity. -/
def Fmt.infBits (f : Fmt) : Nat := (2 ^ f.ew - 1) * 2 ^ (f.p - 1)
/-- The weight of the sign bit. -/
def Fmt.sign (f : Fmt) : Nat := 2 ^ (f.p - 1 + f.ew)
/-- The quiet NaN that an invalid operation delivers. -/
def Fmt.nanBits (f : Fmt) : Nat := f.infBits + 2 ^ (f.p - 2)

/-- The value that bits spell. -/
def Fmt.unpack (f : Fmt) (b : Nat) : Fl :=
  let neg := b / f.sign % 2 == 1
  let ex := b / 2 ^ (f.p - 1) % 2 ^ f.ew
  let fr := b % 2 ^ (f.p - 1)
  if ex = 2 ^ f.ew - 1 then (if fr = 0 then .inf neg else .nan)
  else if ex = 0 then .fin neg fr f.emin
  else .fin neg (fr + 2 ^ (f.p - 1)) (f.emin + (ex : Int) - 1)

/-- `m / 2 ^ k` rounded to nearest, ties to even. -/
def shiftRne (m k : Nat) : Nat :=
  let q := m / 2 ^ k
  let r := m % 2 ^ k
  if 2 * r > 2 ^ k then q + 1
  else if 2 * r = 2 ^ k then q + q % 2
  else q

/-- The bits of `m * 2 ^ e` with sign `neg`, rounded once. -/
def Fmt.round (f : Fmt) (neg : Bool) (m : Nat) (e : Int) : Nat :=
  let s := if neg then f.sign else 0
  if m = 0 then s
  else
    let len : Int := (Nat.log2 m : Int) + 1
    let q := max (e + len - f.p) f.emin
    let r := if q ≤ e then m * 2 ^ (e - q).toNat else shiftRne m (q - e).toNat
    -- a carry out of the significand moves the exponent up by one
    let (r, q) := if r = 2 ^ f.p then (r / 2, q + 1) else (r, q)
    if r < 2 ^ (f.p - 1) then s + r
    else
      let ex := (q - f.emin).toNat + 1
      if ex ≥ 2 ^ f.ew - 1 then s + f.infBits
      else s + ex * 2 ^ (f.p - 1) + (r - 2 ^ (f.p - 1))

/-- The bits of a value. -/
def Fmt.pack (f : Fmt) : Fl → Nat
  | .nan => f.nanBits
  | .inf neg => (if neg then f.sign else 0) + f.infBits
  | .fin neg m e => f.round neg m e

/-- The exact sum of two finite values as a signed integer and its exponent. -/
def alignAdd (n1 : Bool) (m1 : Nat) (e1 : Int) (n2 : Bool) (m2 : Nat) (e2 : Int) : Int × Int :=
  let e := min e1 e2
  let a : Int := (m1 * 2 ^ (e1 - e).toNat : Nat)
  let b : Int := (m2 * 2 ^ (e2 - e).toNat : Nat)
  ((if n1 then -a else a) + (if n2 then -b else b), e)

/-- The bits of an exact signed value `v * 2 ^ e`; an exact zero has the sign `zneg`. -/
def Fmt.roundInt (f : Fmt) (v : Int) (e : Int) (zneg : Bool := false) : Nat :=
  if v = 0 then (if zneg then f.sign else 0) else f.round (v < 0) v.natAbs e

/-- Addition. -/
def Fmt.add (f : Fmt) (a b : Nat) : Nat :=
  match f.unpack a, f.unpack b with
  | .nan, _ => f.nanBits
  | _, .nan => f.nanBits
  | .inf x, .inf y => if x == y then f.pack (.inf x) else f.nanBits
  | .inf x, .fin _ _ _ => f.pack (.inf x)
  | .fin _ _ _, .inf y => f.pack (.inf y)
  | .fin n1 m1 e1, .fin n2 m2 e2 =>
    let (v, e) := alignAdd n1 m1 e1 n2 m2 e2
    f.roundInt v e (n1 && n2)

/-- The bits with the sign inverted. -/
def Fmt.neg (f : Fmt) (a : Nat) : Nat := if a / f.sign % 2 = 1 then a - f.sign else a + f.sign
/-- The bits with the sign cleared. -/
def Fmt.abs (f : Fmt) (a : Nat) : Nat := a % f.sign
/-- Subtraction. -/
def Fmt.sub (f : Fmt) (a b : Nat) : Nat := f.add a (f.neg b)

/-- Multiplication. -/
def Fmt.mul (f : Fmt) (a b : Nat) : Nat :=
  match f.unpack a, f.unpack b with
  | .nan, _ => f.nanBits
  | _, .nan => f.nanBits
  | .inf x, .inf y => f.pack (.inf (x != y))
  | .inf x, .fin y m _ => if m = 0 then f.nanBits else f.pack (.inf (x != y))
  | .fin y m _, .inf x => if m = 0 then f.nanBits else f.pack (.inf (x != y))
  | .fin n1 m1 e1, .fin n2 m2 e2 => f.round (n1 != n2) (m1 * m2) (e1 + e2)

/-- Fused multiply-add `a * b + c`, rounded once. -/
def Fmt.fma (f : Fmt) (a b c : Nat) : Nat :=
  match f.unpack a, f.unpack b, f.unpack c with
  | .fin n1 m1 e1, .fin n2 m2 e2, .fin n3 m3 e3 =>
    let (v, e) := alignAdd (n1 != n2) (m1 * m2) (e1 + e2) n3 m3 e3
    f.roundInt v e ((n1 != n2) && n3)
  | _, _, _ =>
    let ab := match f.unpack a, f.unpack b with
      | .fin _ _ _, .fin _ _ _ => 0
      | _, _ => f.mul a b
    f.add ab c

/-- Division, rounded once: the quotient is taken to `p + 3` bits with a sticky bit. -/
def Fmt.div (f : Fmt) (a b : Nat) : Nat :=
  match f.unpack a, f.unpack b with
  | .nan, _ => f.nanBits
  | _, .nan => f.nanBits
  | .inf _, .inf _ => f.nanBits
  | .inf x, .fin y _ _ => f.pack (.inf (x != y))
  | .fin x _ _, .inf y => if x != y then f.sign else 0
  | .fin n1 m1 e1, .fin n2 m2 e2 =>
    if m2 = 0 then (if m1 = 0 then f.nanBits else f.pack (.inf (n1 != n2)))
    else
      let k := f.p + 3 + Nat.log2 m2
      let q := m1 * 2 ^ k / m2
      let st := if m1 * 2 ^ k % m2 = 0 then 0 else 1
      f.round (n1 != n2) (2 * q + st) (e1 - e2 - k - 1)

/-- The integer square root by bisection on `fuel` bits. -/
def isqrt : Nat → Nat → Nat → Nat
  | 0, _, r => r
  | k + 1, n, r => let c := r + 2 ^ k; isqrt k n (if c * c ≤ n then c else r)

/-- Square root, rounded once. -/
def Fmt.sqrt (f : Fmt) (a : Nat) : Nat :=
  match f.unpack a with
  | .nan => f.nanBits
  | .inf neg => if neg then f.nanBits else f.infBits
  | .fin neg m e =>
    if m = 0 then a
    else if neg then f.nanBits
    else
      let odd := e % 2 != 0
      let k := 2 * (f.p + 2)
      let m' := (if odd then 2 * m else m) * 2 ^ k
      let e' := (if odd then e - 1 else e) - k
      let r := isqrt (Nat.log2 m' / 2 + 1) m' 0
      f.round false (2 * r + (if r * r = m' then 0 else 1)) (e' / 2 - 1)

/-- A rank that orders all values but NaN: -0 and 0 have one rank. -/
def Fmt.rank (f : Fmt) (a : Nat) : Int :=
  if a / f.sign % 2 = 1 then -((a % f.sign : Nat) : Int) else ((a % f.sign : Nat) : Int)

/-- The value is a NaN or an infinity. -/
def Fmt.special (f : Fmt) (a : Nat) : Bool := f.infBits ≤ a % f.sign
/-- `a < b`; false for a NaN. -/
def Fmt.lt (f : Fmt) (a b : Nat) : Bool :=
  f.abs a ≤ f.infBits && f.abs b ≤ f.infBits && decide (f.rank a < f.rank b)
/-- `a ≤ b`; false for a NaN. -/
def Fmt.le (f : Fmt) (a b : Nat) : Bool :=
  f.abs a ≤ f.infBits && f.abs b ≤ f.infBits && decide (f.rank a ≤ f.rank b)
/-- The value is 0. -/
def Fmt.isZero (f : Fmt) (a : Nat) : Bool := f.abs a == 0
/-- The larger of two values. -/
def Fmt.max (f : Fmt) (a b : Nat) : Nat := if f.lt a b then b else a
/-- The smaller of two values. -/
def Fmt.min (f : Fmt) (a b : Nat) : Nat := if f.lt b a then b else a

/-- The bits of an integer. -/
def Fmt.ofInt (f : Fmt) (i : Int) : Nat := f.roundInt i 0
/-- The bits of a natural number. -/
def Fmt.ofNat (f : Fmt) (n : Nat) : Nat := f.roundInt n 0
/-- The bits of `n / d` (0 for `d = 0`). -/
def Fmt.ofRat (f : Fmt) (n : Int) (d : Nat) : Nat :=
  if d = 0 then 0 else
  let k := f.p + 3 + Nat.log2 d
  let q := n.natAbs * 2 ^ k / d
  let st := if n.natAbs * 2 ^ k % d = 0 then 0 else 1
  f.round (n < 0) (2 * q + st) (-(k : Int) - 1)

/-- A value of one format in another. -/
def Fmt.convert (f g : Fmt) (a : Nat) : Nat := g.pack (f.unpack a)

/-- The value times `2 ^ k`, rounded to an integer towards minus infinity; 0 for a NaN or an infinity. -/
def Fmt.floorScaled (f : Fmt) (a : Nat) (k : Int) : Int :=
  match f.unpack a with
  | .fin neg m e =>
    let e' := e + k
    let v : Int := if neg then -(m : Int) else m
    if 0 ≤ e' then v * (2 ^ e'.toNat : Nat) else v / (2 ^ (-e').toNat : Nat)
  | _ => 0

/-- The value times `2 ^ k`, rounded to nearest, ties to even; 0 for a NaN or an infinity. -/
def Fmt.nearestScaled (f : Fmt) (a : Nat) (k : Int) : Int :=
  match f.unpack a with
  | .fin neg m e =>
    let e' := e + k
    let r : Nat := if 0 ≤ e' then m * 2 ^ e'.toNat else shiftRne m (-e').toNat
    if neg then -(r : Int) else r
  | _ => 0

/-- A binary64 value that a binary32 holds exactly (R108). -/
def fits32 (a : Nat) : Bool := !fmt64.special a && fmt32.convert fmt64 (fmt64.convert fmt32 a) == a

end Sys2Proof.Machine
end

