-- ==== Sys2Proof/Config.lean ====
section
/-!
DEFINITION. Config.lean: what one module or one run fixes and the spec leaves open: free values, each a constant with
no body, so that a claim holds whatever it is. The logs named at each say what the spec leaves open.
-/
namespace Sys2Proof.Config

/-- A number fixed per module at manufacture, by entry key (FACTORY entries "Per module", "Per port"; log 8). -/
opaque factoryNum : Nat → Nat

/-- A text or byte string fixed per module at manufacture, by entry key (log 8). -/
opaque factoryBytes : Nat → List Byte

/-- The `n`-th random number the module draws: nonces, challenges, module nonces (log 7). -/
opaque random : Nat → Nat

/-- Bytes of a retained block that its generation, CRC-32 and release take (R53, R582; log 10). -/
opaque blockHeader : Nat

/-- Bytes that a RETAINED entry takes in its block, by its key (R582; log 10). -/
opaque entrySize : Nat → Nat

/-- The minor release that added a RETAINED entry, by its key (R582; log 10). -/
opaque addedIn : Nat → Nat

/-- Index, sub-index and type of the entry are those of an earlier major release, by that release and the key (R582; log 10). -/
opaque unchangedSince : Nat → Nat → Bool

/-- The coefficient that Tally derives where the binary32 computation of R228 overflows, by the overflowed bits (log 31). -/
opaque openCoef : Nat → Nat

/-- The frequency adjustment that the servo computes at its `n`-th update, before its limit (R271, R272; log 12). -/
opaque servoAdj : Nat → Nat

/-- Nanoseconds by which a bead's copy of TB3 lags TB3, over 0.5 ns, at the `n`-th outcome (R199; log 169). -/
opaque beadLag : Nat → Nat

/-- Where in its submit buffer a batch of a source, issued at an instant, lies (R187, R188; log 170). -/
opaque batchOffset : Nat → Nat → Nat → Nat

/-- Half-nanoseconds of its TIME cycle at which the SFD of the `n`-th event message leaves (R277; log 167). -/
opaque sfdPhase : Nat → Nat

/-- PHY latency in units of 2^-16 ns above the least that the spread allows, interpolated at the board temperature (R278): 0 transmit or 1 receive, port, speed as in
LINK_STATE, and the temperature's binary32 bits (log 13). -/
opaque latency : Nat → Nat → Nat → Nat → Nat

/-- clockIdentity, clockAccuracy and offsetScaledLogVariance of instance `b` (log 14). -/
opaque clockIdentity : Nat → Nat
/-- clockAccuracy of instance `b` (log 14). -/
opaque clockAccuracy : Nat → Nat
/-- offsetScaledLogVariance of instance `b` (log 14). -/
opaque clockVariance : Nat → Nat

/-- The channel value (binary32 bits) of a force value (binary64 bits) through scale `i` of the archive (R108; log 16). -/
opaque scaleRaw : Nat → Nat → Nat
/-- The force value (binary64 bits) of a channel value (binary32 bits) through scale `i` (R110; log 16). -/
opaque scaleBack : Nat → Nat → Nat

/-- The safety parameter set that an image in the suite's format spells, none for an image that has not that format (R463; log 32). -/
opaque spsReading : List Byte → Option SafetySet

/-- OBJ_WRITER of an object that the safety program writes: Table CAN-10 gives it no code (log 33). -/
opaque safetyWriter : Nat

/-- A measurement that no command brings, by entry key and instant: SUP_CURRENT and ELECTRONICS_POWER (log 41). -/
opaque measured : Nat → Nat → Nat

/-- The archive that bytes in the suite's format spell, none where they spell none (R113; log 35). -/
opaque archiveReading : List Byte → Option Archive

/-- Bytes of a record of the checkpoint stream, by its type of Table TWN-4 (log 34). -/
opaque recordSize : Nat → Nat

/-- What the header and the signature of a firmware image give, none where the format is wrong (R554; log 36). -/
opaque fwReading : List Byte → Option FwImage

end Sys2Proof.Config
end

