-- ==== Sys2Proof/Machine/Entries.lean ====
section
/-!
DEFINITION. Machine/Entries.lean: the entry tables of the dictionary, one row per line of the tables of the form of
R47 (the chapters' tables ARC-7, DIC-3, DIC-4, DIC-15, RUN-8 to PWR-15), and for every entry its name as a constant `E.<table>.<NAME>`.
Instance, sub-index, type, access, retention, default, write level, condition and range are the table's own.
-/
namespace Sys2Proof.Machine

/-- Access classes of Table DIC-2. -/
inductive Access where
  | ro | rw | wo | const
deriving DecidableEq, Repr

/-- Retention classes of Table DIC-2. -/
inductive Retention where
  | volatile | retained | factory
deriving DecidableEq, Repr

/-- The range a Meaning column states (R48). `u lo hi step`: unsigned, in steps from `lo`; `orEq v lo hi`: the value `v`
or `lo` to `hi`; `i m`: two's complement from `-m` to `m`; `ir lo hi`: signed; `f lo hi`, `fs m hi`: binary32 from `lo`
(or from minus the value with bits `m`) to `hi`, given as bits; `orF v lo hi`: the binary32 `v` or `lo` to `hi`;
`len lo hi`: bytes of a STR or OCTETS. -/
inductive Range where
  | any
  | u (lo hi step : Nat)
  | orEq (v lo hi : Nat)
  | i (m : Nat)
  | ir (lo hi : Int)
  | f (lo hi : Nat)
  | fs (m hi : Nat)
  | orF (v lo hi : Nat)
  | len (lo hi : Nat)
deriving DecidableEq, Repr

/-- One line of an entry table (R47). `cond` is the CONDITION byte of Table DIC-9; `per` holds the default of each
instance where the table gives one each; `fac` marks a value fixed per module; `arch` a default from the archive. -/
structure Row where
  sub : Nat
  name : String
  ty : Ty
  acc : Access
  ret : Retention
  d : Value
  level : Level := .service
  cond : Nat := 0
  range : Range := .any
  per : List Nat := []
  fac : Bool := false
  arch : Bool := false
deriving DecidableEq, Repr

/-- The rows that a set of indices has: `segs` lists (first index, number of indices). -/
structure Table where
  segs : List (Nat × Nat)
  rows : List Row
deriving DecidableEq, Repr

/-- An entry by its key (index * 256 + sub-index), with its type and default. -/
structure Ent where
  key : Nat
  ty : Ty
  d : Value
  arch : Bool := false
deriving DecidableEq, Repr

/-- Bits of a type's value; 0 for the two types of varying length (Table SCP-5). -/
def Ty.bits : Ty → Nat
  | .bool => 8 | .u8 => 8 | .u16 => 16 | .u32 => 32 | .u64 => 64 | .i16 => 16 | .i32 => 32
  | .f32 => 32 | .f64 => 64 | .str => 0 | .octets => 0 | .time96 => 96

/-- A measured PHY latency of Table TIM-5 (R278): a binary32 number of ns within nominal ± spread; sub-indices as in Table TIM-12. -/
def factoryLatency (sub n : Nat) : Nat :=
  let b := match sub with
    | 1 => (0x42C80000, 0x42D80000)
    | 2 => (0x438E0000, 0x43920000)
    | 3 => (0x43500000, 0x43600000)
    | _ => (0x43B00000, 0x43B80000)
  b.1 + n % (b.2 - b.1 + 1)

/-- The value that a module carries from manufacture (R47, FACTORY; log 8), in the form that Table SCP-1 (R5) and Table TIM-5 give it:
HW_ISSUE a letter without I, O and Q; SERIAL_NUMBER ten digits from 0000000001 on; the PHY latencies within their spread. -/
def factoryValue (ty : Ty) (key : Nat) : Value :=
  let n := Config.factoryNum key
  if key = 0x100002 then .num (("ABCDEFGHJKLMNPRSTUVWXYZ".toList.map Char.toNat).getD (n % 23) 65)
  else if key = 0x100004 then
    let m := 1 + n % 9999999999
    .bytes ((List.range 10).map (fun i => 48 + m / 10 ^ (9 - i) % 10))
  else if 0x183000 ≤ key && key < 0x183500 && 1 ≤ key % 256 && key % 256 ≤ 4 then .num (factoryLatency (key % 256) n)
  else match ty with
    | .str => .bytes (Config.factoryBytes key)
    | .octets => .bytes (Config.factoryBytes key)
    | _ => .num (n % 2 ^ Ty.bits ty)

/-- An entry whose default is the number `n`. -/
def entN (key : Nat) (ty : Ty) (n : Nat) : Ent := { key := key, ty := ty, d := .num n }

/-- An entry whose default is the bytes `b`. -/
def entB (key : Nat) (ty : Ty) (b : List Byte) : Ent := { key := key, ty := ty, d := .bytes b }

/-- An entry whose default comes from the archive: 0 before one is loaded (log 9). -/
def entA (key : Nat) (ty : Ty) : Ent := { key := key, ty := ty, d := .num 0, arch := true }

/-- An entry whose value is fixed per module. -/
def entF (key : Nat) (ty : Ty) : Ent := { key := key, ty := ty, d := factoryValue ty key }

/-- Table ARC-7, index 0x1B00. -/
def rowsArc7_1B00 : List Row := [
  { sub := 0x01, name := "RING_ENTRY_SIZE", ty := .u16, acc := .const, ret := .factory, d := .num 0, per := [16, 16, 16, 16, 16, 16, 16, 16, 16, 16, 16, 16, 16, 16, 16, 16, 80, 80, 80, 80, 80, 80, 80, 80, 64, 64, 32, 16, 16, 16, 16, 32, 32, 16, 16, 16, 16, 16, 16, 16, 16, 16, 32, 16, 32, 32, 64, 64] },
  { sub := 0x02, name := "RING_DEPTH", ty := .u16, acc := .const, ret := .factory, d := .num 0, per := [512, 512, 512, 512, 512, 512, 512, 512, 512, 512, 512, 512, 512, 512, 512, 512, 32, 64, 32, 64, 32, 64, 32, 64, 256, 256, 512, 1024, 4096, 512, 512, 64, 64, 64, 64, 64, 64, 64, 64, 128, 128, 1024, 256, 256, 64, 1024, 64, 64] },
  { sub := 0x03, name := "RING_POLICY", ty := .u8, acc := .const, ret := .factory, d := .num 0, per := [0, 0, 1, 1, 0, 0, 1, 1, 0, 0, 1, 1, 0, 0, 1, 1, 0, 1, 0, 1, 0, 1, 0, 1, 0, 0, 3, 1, 1, 0, 3, 0, 3, 0, 0, 1, 1, 0, 2, 0, 3, 1, 0, 1, 0, 1, 0, 0] },
  { sub := 0x04, name := "RING_FILL", ty := .u16, acc := .ro, ret := .volatile, d := .num 0 },
  { sub := 0x05, name := "RING_HWM", ty := .u16, acc := .ro, ret := .volatile, d := .num 0 },
  { sub := 0x06, name := "RING_OVERFLOWS", ty := .u32, acc := .ro, ret := .volatile, d := .num 0 },
  { sub := 0x07, name := "RING_REFUSALS", ty := .u32, acc := .ro, ret := .volatile, d := .num 0 },
  { sub := 0x08, name := "RING_STALL_TIME", ty := .u32, acc := .ro, ret := .volatile, d := .num 0 },
  { sub := 0x09, name := "RING_RESET_HWM", ty := .bool, acc := .wo, ret := .volatile, d := .num 0, level := .engineer }]

/-- Table DIC-3, index 0x1000. -/
def rowsDic3_1000 : List Row := [
  { sub := 0x01, name := "PART_NUMBER", ty := .str, acc := .const, ret := .factory, d := .bytes [75, 86, 80, 45, 57, 54, 52, 48] },
  { sub := 0x02, name := "HW_ISSUE", ty := .u8, acc := .const, ret := .factory, d := .num 0, fac := true },
  { sub := 0x03, name := "FW_RELEASE", ty := .u16, acc := .ro, ret := .volatile, d := .num 0 },
  { sub := 0x04, name := "SERIAL_NUMBER", ty := .str, acc := .const, ret := .factory, d := .bytes [], fac := true },
  { sub := 0x05, name := "NODE_ID", ty := .u32, acc := .rw, ret := .retained, d := .num 0, level := .engineer, cond := 2, range := .u 0 262143 1 },
  { sub := 0x06, name := "NODE_ID_ACTIVE", ty := .u32, acc := .ro, ret := .volatile, d := .num 0 },
  { sub := 0x07, name := "MODULE_STATE", ty := .u8, acc := .ro, ret := .volatile, d := .num 0 },
  { sub := 0x08, name := "RESTART_CAUSE", ty := .u8, acc := .ro, ret := .volatile, d := .num 0 },
  { sub := 0x09, name := "RESTART_REQUEST", ty := .u8, acc := .wo, ret := .volatile, d := .num 0, level := .engineer, cond := 1, range := .u 1 2 1 },
  { sub := 0x0A, name := "OD_ENTRY_COUNT", ty := .u16, acc := .ro, ret := .volatile, d := .num 0 }]

/-- Table DIC-4, index 0x1300. -/
def rowsDic4_1300 : List Row := [
  { sub := 0x01, name := "RESTORE_STATE", ty := .u8, acc := .ro, ret := .volatile, d := .num 0 },
  { sub := 0x02, name := "INVALID_BLOCKS", ty := .u16, acc := .ro, ret := .volatile, d := .num 0 },
  { sub := 0x03, name := "RESTORE_FACTORY", ty := .u32, acc := .wo, ret := .volatile, d := .num 0, level := .service, cond := 1 },
  { sub := 0x04, name := "RESTORE_NONCE", ty := .u32, acc := .ro, ret := .volatile, d := .num 0 },
  { sub := 0x05, name := "RETAINED_WRITES", ty := .u32, acc := .ro, ret := .retained, d := .num 0 }]

/-- Table DIC-15, index 0x1100. -/
def rowsDic15_1100 : List Row := [
  { sub := 0x01, name := "KEY_VIEWER", ty := .octets, acc := .wo, ret := .retained, d := .bytes (List.replicate 32 0), level := .service, range := .len 32 32 },
  { sub := 0x02, name := "KEY_OPERATOR", ty := .octets, acc := .wo, ret := .retained, d := .bytes [], level := .service, range := .len 32 32 },
  { sub := 0x03, name := "KEY_ENGINEER", ty := .octets, acc := .wo, ret := .retained, d := .bytes [], level := .service, range := .len 32 32 },
  { sub := 0x04, name := "KEY_SERVICE", ty := .octets, acc := .wo, ret := .retained, d := .bytes [], level := .service, range := .len 32 32, fac := true },
  { sub := 0x05, name := "KEYS_SET", ty := .u8, acc := .ro, ret := .volatile, d := .num 9 }]

/-- Table DIC-15, index 0x1101. -/
def rowsDic15_1101 : List Row := [
  { sub := 0x01, name := "SESSION_IDLE_TIMEOUT", ty := .u32, acc := .rw, ret := .retained, d := .num 60000, level := .engineer, range := .u 5000 3600000 1 },
  { sub := 0x02, name := "SESSIONS_OPEN", ty := .u8, acc := .ro, ret := .volatile, d := .num 0 },
  { sub := 0x03, name := "PORT_LEVEL", ty := .u8, acc := .ro, ret := .volatile, d := .num 0 }]

/-- Table DIC-15, index 0x1102. -/
def rowsDic15_1102 : List Row := [
  { sub := 0x01, name := "LOGIN_FAILURES", ty := .u32, acc := .ro, ret := .volatile, d := .num 0 },
  { sub := 0x02, name := "TAG_FAILURES", ty := .u32, acc := .ro, ret := .volatile, d := .num 0 },
  { sub := 0x03, name := "DROPPED_FRAMES", ty := .u32, acc := .ro, ret := .volatile, d := .num 0 },
  { sub := 0x04, name := "REPEATS_ANSWERED", ty := .u32, acc := .ro, ret := .volatile, d := .num 0 }]

/-- Table RUN-8, index 0x6100. -/
def rowsRun8_6100 : List Row := [
  { sub := 0x01, name := "FORCES_ACTIVE_COUNT", ty := .u8, acc := .ro, ret := .volatile, d := .num 0 },
  { sub := 0x02, name := "FORCES_ORPHANED_COUNT", ty := .u8, acc := .ro, ret := .volatile, d := .num 0 },
  { sub := 0x03, name := "FORCE_CLEAR_ALL", ty := .bool, acc := .wo, ret := .volatile, d := .num 0, level := .engineer }]

/-- Table RUN-8, index 0x6110. -/
def rowsRun8_6110 : List Row := [
  { sub := 0x01, name := "FORCE_POINT", ty := .u32, acc := .rw, ret := .retained, d := .num 0, level := .engineer },
  { sub := 0x02, name := "FORCE_VALUE", ty := .f64, acc := .rw, ret := .retained, d := .num 0, level := .engineer },
  { sub := 0x03, name := "FORCE_ACTIVE", ty := .bool, acc := .rw, ret := .retained, d := .num 0, level := .engineer },
  { sub := 0x04, name := "FORCE_STATE", ty := .u8, acc := .ro, ret := .volatile, d := .num 0 },
  { sub := 0x05, name := "FORCE_WRITTEN", ty := .f64, acc := .ro, ret := .volatile, d := .num 0 },
  { sub := 0x06, name := "FORCE_SET_BY", ty := .u32, acc := .ro, ret := .retained, d := .num 0 }]

/-- Table RUN-10, index 0x6200. -/
def rowsRun10_6200 : List Row := [
  { sub := 0x01, name := "STAGE_OFFSET", ty := .u32, acc := .rw, ret := .volatile, d := .num 0, level := .engineer, range := .u 0 2147483647 1 },
  { sub := 0x02, name := "STAGE_DATA", ty := .octets, acc := .wo, ret := .volatile, d := .bytes [], level := .engineer, range := .len 1 65535 },
  { sub := 0x03, name := "STAGE_LENGTH", ty := .u32, acc := .ro, ret := .volatile, d := .num 0 },
  { sub := 0x04, name := "STAGE_CHECK", ty := .bool, acc := .wo, ret := .volatile, d := .num 0, level := .engineer },
  { sub := 0x05, name := "STAGE_RESULT", ty := .u8, acc := .ro, ret := .volatile, d := .num 255 },
  { sub := 0x06, name := "STAGE_APPLY", ty := .u32, acc := .wo, ret := .volatile, d := .num 0, level := .engineer },
  { sub := 0x07, name := "APPLY_NONCE", ty := .u32, acc := .ro, ret := .volatile, d := .num 0 },
  { sub := 0x08, name := "ONLINE_WINDOW", ty := .u32, acc := .rw, ret := .retained, d := .num 1000, level := .engineer, range := .u 10 10000 1 },
  { sub := 0x09, name := "CHANGEOVER_TB3", ty := .time96, acc := .ro, ret := .volatile, d := .num 0 },
  { sub := 0x0A, name := "ARCHIVE_ID", ty := .u32, acc := .ro, ret := .volatile, d := .num 0 },
  { sub := 0x0B, name := "REVERT", ty := .u32, acc := .wo, ret := .volatile, d := .num 0, level := .engineer, cond := 1 }]

/-- Table RUN-13, index 0x6000. -/
def rowsRun13_6000 : List Row := [
  { sub := 0x01, name := "TASK_PAIR", ty := .u8, acc := .ro, ret := .volatile, d := .num 0 },
  { sub := 0x02, name := "TASK_PERIOD", ty := .u32, acc := .ro, ret := .volatile, d := .num 0 },
  { sub := 0x03, name := "TASK_PHASE", ty := .u32, acc := .ro, ret := .volatile, d := .num 0 },
  { sub := 0x04, name := "TASK_PRIORITY", ty := .u8, acc := .ro, ret := .volatile, d := .num 0 },
  { sub := 0x05, name := "TASK_STATE", ty := .u8, acc := .ro, ret := .volatile, d := .num 0 },
  { sub := 0x06, name := "TURNS", ty := .u64, acc := .ro, ret := .volatile, d := .num 0 },
  { sub := 0x07, name := "OVERRUNS", ty := .u32, acc := .ro, ret := .volatile, d := .num 0 },
  { sub := 0x08, name := "SKIPPED", ty := .u32, acc := .ro, ret := .volatile, d := .num 0 },
  { sub := 0x09, name := "EXEC_LAST", ty := .u32, acc := .ro, ret := .volatile, d := .num 0 },
  { sub := 0x0A, name := "EXEC_MAX", ty := .u32, acc := .ro, ret := .volatile, d := .num 0 },
  { sub := 0x0B, name := "START_LATENCY_MAX", ty := .u32, acc := .ro, ret := .volatile, d := .num 0 },
  { sub := 0x0C, name := "MAX_SKIP", ty := .u8, acc := .rw, ret := .retained, d := .num 0, level := .engineer, range := .u 0 255 1, arch := true },
  { sub := 0x0D, name := "LAST_RELEASE", ty := .time96, acc := .ro, ret := .volatile, d := .num 0 },
  { sub := 0x0E, name := "LAST_COMMIT", ty := .time96, acc := .ro, ret := .volatile, d := .num 0 },
  { sub := 0x0F, name := "ABANDONED", ty := .u32, acc := .ro, ret := .volatile, d := .num 0 },
  { sub := 0x10, name := "ERRORS_QUEUED", ty := .u8, acc := .ro, ret := .volatile, d := .num 0 },
  { sub := 0x11, name := "ERRORS_LOST", ty := .u32, acc := .ro, ret := .volatile, d := .num 0 },
  { sub := 0x12, name := "RESET_STATS", ty := .bool, acc := .wo, ret := .volatile, d := .num 0, level := .engineer }]

/-- Table RUN-14, index 0x6020. -/
def rowsRun14_6020 : List Row := [
  { sub := 0x01, name := "RUNTIME_MODE", ty := .u8, acc := .ro, ret := .volatile, d := .num 1 },
  { sub := 0x02, name := "RUNTIME_COMMAND", ty := .u8, acc := .wo, ret := .volatile, d := .num 0, level := .operator, range := .u 1 6 1 },
  { sub := 0x03, name := "STOP_CAUSE", ty := .u8, acc := .ro, ret := .volatile, d := .num 0 },
  { sub := 0x04, name := "HOLD_TASK", ty := .u8, acc := .ro, ret := .volatile, d := .num 255 },
  { sub := 0x05, name := "AUTOSTART", ty := .bool, acc := .rw, ret := .retained, d := .num 0, level := .engineer },
  { sub := 0x06, name := "HOLD_PERMIT", ty := .bool, acc := .rw, ret := .retained, d := .num 0, level := .engineer },
  { sub := 0x07, name := "RETAIN_RESET", ty := .bool, acc := .wo, ret := .volatile, d := .num 0, level := .engineer, cond := 1 },
  { sub := 0x08, name := "HOLD_LIMIT", ty := .u32, acc := .rw, ret := .retained, d := .num 60000, level := .engineer, range := .u 1000 3600000 1 },
  { sub := 0x09, name := "HOLD_SKIPPED", ty := .u32, acc := .ro, ret := .volatile, d := .num 0 },
  { sub := 0x0A, name := "BREAKPOINTS", ty := .octets, acc := .rw, ret := .volatile, d := .bytes [], level := .engineer, range := .len 0 512 },
  { sub := 0x0B, name := "PAIR_UTILISATION", ty := .octets, acc := .ro, ret := .volatile, d := .bytes [] },
  { sub := 0x0C, name := "STOP_PENDING", ty := .bool, acc := .ro, ret := .volatile, d := .num 0 }]

/-- Table DBL-4, index 0x6800. -/
def rowsDbl4_6800 : List Row := [
  { sub := 0x01, name := "ESCALATE_COUNT", ty := .u8, acc := .const, ret := .factory, d := .num 3 },
  { sub := 0x02, name := "ESCALATE_WINDOW", ty := .u32, acc := .const, ret := .factory, d := .num 10000 },
  { sub := 0x03, name := "RESTART_LIMIT", ty := .u32, acc := .const, ret := .factory, d := .num 1200 },
  { sub := 0x04, name := "MODULE_MISMATCHES", ty := .u32, acc := .ro, ret := .retained, d := .num 0 },
  { sub := 0x05, name := "INJECT_TEST_RUN", ty := .u8, acc := .wo, ret := .volatile, d := .num 0, level := .engineer, cond := 1, range := .u 1 3 1 },
  { sub := 0x06, name := "SERVICES_PAIR", ty := .u8, acc := .ro, ret := .volatile, d := .num 0 }]

/-- Table DBL-4, index 0x6810. -/
def rowsDbl4_6810 : List Row := [
  { sub := 0x01, name := "PAIR_STATE", ty := .u8, acc := .ro, ret := .volatile, d := .num 0 },
  { sub := 0x02, name := "INJECT_RESULT", ty := .u8, acc := .ro, ret := .volatile, d := .num 255 },
  { sub := 0x03, name := "INJECT_DETAIL", ty := .u32, acc := .ro, ret := .volatile, d := .num 0 },
  { sub := 0x04, name := "INJECT_COUNT", ty := .u32, acc := .ro, ret := .retained, d := .num 0 },
  { sub := 0x05, name := "INJECT_LAST", ty := .time96, acc := .ro, ret := .retained, d := .num 0 },
  { sub := 0x06, name := "MISMATCHES", ty := .u32, acc := .ro, ret := .volatile, d := .num 0 },
  { sub := 0x07, name := "WINDOW_COUNT", ty := .u8, acc := .ro, ret := .volatile, d := .num 0 },
  { sub := 0x08, name := "LAST_MISMATCH", ty := .time96, acc := .ro, ret := .volatile, d := .num 0 },
  { sub := 0x09, name := "LAST_GROUPS", ty := .u32, acc := .ro, ret := .volatile, d := .num 0 },
  { sub := 0x0A, name := "LAST_CAUSE", ty := .u8, acc := .ro, ret := .volatile, d := .num 0 },
  { sub := 0x0B, name := "RESTART_LAST", ty := .u32, acc := .ro, ret := .volatile, d := .num 0 },
  { sub := 0x0C, name := "RESTART_MAX", ty := .u32, acc := .ro, ret := .volatile, d := .num 0 },
  { sub := 0x0D, name := "ECC_CORRECTED", ty := .u32, acc := .ro, ret := .volatile, d := .num 0 },
  { sub := 0x0E, name := "FAIL_CAUSE", ty := .u8, acc := .ro, ret := .volatile, d := .num 0 },
  { sub := 0x0F, name := "CKPT_GENERATION", ty := .u32, acc := .ro, ret := .volatile, d := .num 0 },
  { sub := 0x10, name := "CKPT_PAGES", ty := .u32, acc := .ro, ret := .volatile, d := .num 0 },
  { sub := 0x11, name := "MISMATCHES_LIFETIME", ty := .u32, acc := .ro, ret := .retained, d := .num 0 },
  { sub := 0x12, name := "RESET_STATS", ty := .bool, acc := .wo, ret := .volatile, d := .num 0, level := .engineer }]

/-- Table FRM-13, index 0x5000. -/
def rowsFrm13_5000 : List Row := [
  { sub := 0x01, name := "FRAME_PAGES", ty := .u16, acc := .const, ret := .factory, d := .num 4032 },
  { sub := 0x02, name := "FRAME_PAGES_FREE", ty := .u16, acc := .ro, ret := .volatile, d := .num 4032 },
  { sub := 0x03, name := "BOARDS_RESIDENT", ty := .u16, acc := .ro, ret := .volatile, d := .num 0 },
  { sub := 0x04, name := "LOAD_BOARD", ty := .u8, acc := .rw, ret := .volatile, d := .num 0, level := .engineer, range := .u 0 255 1 },
  { sub := 0x05, name := "LOAD_OFFSET", ty := .u32, acc := .rw, ret := .volatile, d := .num 0, level := .engineer, range := .u 0 1048575 1 },
  { sub := 0x06, name := "LOAD_DATA", ty := .octets, acc := .wo, ret := .volatile, d := .bytes [], level := .engineer, range := .len 1 65535 },
  { sub := 0x07, name := "LOAD_LENGTH", ty := .u32, acc := .ro, ret := .volatile, d := .num 0 },
  { sub := 0x08, name := "LOAD_COMMIT", ty := .u32, acc := .wo, ret := .volatile, d := .num 0, level := .engineer },
  { sub := 0x09, name := "LOAD_NONCE", ty := .u32, acc := .ro, ret := .volatile, d := .num 0 },
  { sub := 0x0A, name := "LOAD_RESULT", ty := .u8, acc := .ro, ret := .volatile, d := .num 255 },
  { sub := 0x0B, name := "UNLOAD_BOARD", ty := .u8, acc := .wo, ret := .volatile, d := .num 0, level := .engineer },
  { sub := 0x0C, name := "LOAD_CLEAR", ty := .bool, acc := .wo, ret := .volatile, d := .num 0, level := .engineer },
  { sub := 0x0D, name := "PERTURBED_TOTAL", ty := .u32, acc := .ro, ret := .volatile, d := .num 0 },
  { sub := 0x0E, name := "NUMERIC_FAULTS", ty := .u32, acc := .ro, ret := .volatile, d := .num 0 },
  { sub := 0x0F, name := "REFACTORS_TOTAL", ty := .u32, acc := .ro, ret := .volatile, d := .num 0 }]

/-- Table FRM-14, index 0x5100. -/
def rowsFrm14_5100 : List Row := [
  { sub := 0x01, name := "BOARD_STATE", ty := .u8, acc := .ro, ret := .volatile, d := .num 0 },
  { sub := 0x02, name := "BOARD_SIGNATURE", ty := .u32, acc := .ro, ret := .volatile, d := .num 0 },
  { sub := 0x03, name := "BOARD_TARGET", ty := .u8, acc := .ro, ret := .volatile, d := .num 0 },
  { sub := 0x04, name := "BOARD_N", ty := .u16, acc := .ro, ret := .volatile, d := .num 0 },
  { sub := 0x05, name := "BOARD_M", ty := .u16, acc := .ro, ret := .volatile, d := .num 0 },
  { sub := 0x06, name := "BOARD_NNZ_P", ty := .u32, acc := .ro, ret := .volatile, d := .num 0 },
  { sub := 0x07, name := "BOARD_NNZ_A", ty := .u32, acc := .ro, ret := .volatile, d := .num 0 },
  { sub := 0x08, name := "BOARD_NNZ_L", ty := .u32, acc := .ro, ret := .volatile, d := .num 0 },
  { sub := 0x09, name := "BOARD_PAGES", ty := .u16, acc := .ro, ret := .volatile, d := .num 0 },
  { sub := 0x0A, name := "BOARD_WRITER", ty := .u8, acc := .ro, ret := .volatile, d := .num 255 },
  { sub := 0x0B, name := "BOARD_SOURCE", ty := .u8, acc := .ro, ret := .volatile, d := .num 255 },
  { sub := 0x0C, name := "BOARD_NAME", ty := .str, acc := .ro, ret := .volatile, d := .bytes [] },
  { sub := 0x0D, name := "LAST_SEQ", ty := .u32, acc := .ro, ret := .volatile, d := .num 0 },
  { sub := 0x0E, name := "LAST_REJECT", ty := .u8, acc := .ro, ret := .volatile, d := .num 0 },
  { sub := 0x0F, name := "BATCHES_ACCEPTED", ty := .u32, acc := .ro, ret := .volatile, d := .num 0 },
  { sub := 0x10, name := "BATCHES_REJECTED", ty := .u32, acc := .ro, ret := .volatile, d := .num 0 },
  { sub := 0x11, name := "REFACTOR_PENDING", ty := .bool, acc := .ro, ret := .volatile, d := .num 0 },
  { sub := 0x12, name := "REFACTORS", ty := .u32, acc := .ro, ret := .volatile, d := .num 0 },
  { sub := 0x13, name := "SETTINGS", ty := .octets, acc := .ro, ret := .volatile, d := .bytes [] },
  { sub := 0x14, name := "MOVE_BATCH", ty := .octets, acc := .wo, ret := .volatile, d := .bytes [], level := .operator, range := .len 16 65535 },
  { sub := 0x15, name := "RHO_CURRENT", ty := .f32, acc := .ro, ret := .volatile, d := .num 0 },
  { sub := 0x16, name := "POSITION", ty := .octets, acc := .ro, ret := .volatile, d := .bytes [] }]

/-- Table FRX-10, index 0x5200. -/
def rowsFrx10_5200 : List Row := [
  { sub := 0x01, name := "SOLVE_REQUEST", ty := .u32, acc := .wo, ret := .volatile, d := .num 0, level := .operator, range := .u 100 60000000 1 },
  { sub := 0x02, name := "SOLVE_ABORT", ty := .u32, acc := .wo, ret := .volatile, d := .num 0, level := .operator },
  { sub := 0x03, name := "LAST_ISSUED_ID", ty := .u32, acc := .ro, ret := .volatile, d := .num 0 },
  { sub := 0x04, name := "LAST_SOLVE_ID", ty := .u32, acc := .ro, ret := .volatile, d := .num 0 },
  { sub := 0x05, name := "LAST_STATUS", ty := .u8, acc := .ro, ret := .volatile, d := .num 19 },
  { sub := 0x06, name := "LAST_FLAGS", ty := .u8, acc := .ro, ret := .volatile, d := .num 0 },
  { sub := 0x07, name := "LAST_OUTCOME_TB3", ty := .time96, acc := .ro, ret := .volatile, d := .num 0 },
  { sub := 0x08, name := "HOME", ty := .u8, acc := .rw, ret := .retained, d := .num 255, level := .engineer, range := .orEq 255 0 71 },
  { sub := 0x09, name := "HOME_ACTIVE", ty := .u8, acc := .ro, ret := .volatile, d := .num 255 },
  { sub := 0x0A, name := "FACTOR_WORK", ty := .u32, acc := .ro, ret := .volatile, d := .num 0 },
  { sub := 0x0B, name := "WCET_BOUND", ty := .u32, acc := .ro, ret := .volatile, d := .num 0 },
  { sub := 0x0C, name := "REQUESTS", ty := .u32, acc := .ro, ret := .volatile, d := .num 0 },
  { sub := 0x0D, name := "SOLVED_COUNT", ty := .u32, acc := .ro, ret := .volatile, d := .num 0 },
  { sub := 0x0E, name := "CAP_COUNT", ty := .u32, acc := .ro, ret := .volatile, d := .num 0 },
  { sub := 0x0F, name := "INFEASIBLE_COUNT", ty := .u32, acc := .ro, ret := .volatile, d := .num 0 },
  { sub := 0x10, name := "DEADLINE_MISSES", ty := .u32, acc := .ro, ret := .volatile, d := .num 0 },
  { sub := 0x11, name := "ABORTS", ty := .u32, acc := .ro, ret := .volatile, d := .num 0 },
  { sub := 0x12, name := "SUPERSEDED", ty := .u32, acc := .ro, ret := .volatile, d := .num 0 },
  { sub := 0x13, name := "NUMERIC_COUNT", ty := .u32, acc := .ro, ret := .volatile, d := .num 0 },
  { sub := 0x14, name := "INVALID_COUNT", ty := .u32, acc := .ro, ret := .volatile, d := .num 0 },
  { sub := 0x15, name := "WAIT_MAX", ty := .u32, acc := .ro, ret := .volatile, d := .num 0 },
  { sub := 0x16, name := "EXEC_LAST", ty := .u32, acc := .ro, ret := .volatile, d := .num 0 },
  { sub := 0x17, name := "EXEC_MAX", ty := .u32, acc := .ro, ret := .volatile, d := .num 0 },
  { sub := 0x18, name := "SLACK_MIN", ty := .i32, acc := .ro, ret := .volatile, d := .num 2147483647 },
  { sub := 0x19, name := "QUEUE_STALLS", ty := .u32, acc := .ro, ret := .volatile, d := .num 0 },
  { sub := 0x1A, name := "RESET_STATS", ty := .bool, acc := .wo, ret := .volatile, d := .num 0, level := .operator }]

/-- Table FRX-11, index 0x5300. -/
def rowsFrx11_5300 : List Row := [
  { sub := 0x01, name := "BEAD_ROD", ty := .u8, acc := .const, ret := .factory, d := .num 0, per := [0, 0, 0, 0, 0, 0, 0, 0, 1, 1, 1, 1, 1, 1, 1, 1, 2, 2, 2, 2, 2, 2, 2, 2, 3, 3, 3, 3, 3, 3, 3, 3, 4, 4, 4, 4, 4, 4, 4, 4, 5, 5, 5, 5, 5, 5, 5, 5, 6, 6, 6, 6, 6, 6, 6, 6, 7, 7, 7, 7, 7, 7, 7, 7] },
  { sub := 0x02, name := "BEAD_STATE", ty := .u8, acc := .ro, ret := .volatile, d := .num 0 },
  { sub := 0x03, name := "BEAD_BOARD", ty := .u16, acc := .ro, ret := .volatile, d := .num 65535 },
  { sub := 0x04, name := "BEAD_HOMED", ty := .u16, acc := .ro, ret := .volatile, d := .num 0 },
  { sub := 0x05, name := "ROD_HOMED", ty := .u16, acc := .ro, ret := .volatile, d := .num 0 },
  { sub := 0x06, name := "BEAD_SOLVES", ty := .u32, acc := .ro, ret := .volatile, d := .num 0 },
  { sub := 0x07, name := "BEAD_BUSY", ty := .u16, acc := .ro, ret := .volatile, d := .num 0 },
  { sub := 0x08, name := "BEAD_BUSY_MAX", ty := .u16, acc := .ro, ret := .volatile, d := .num 0 },
  { sub := 0x09, name := "ECC_CORRECTED", ty := .u32, acc := .ro, ret := .volatile, d := .num 0 },
  { sub := 0x0A, name := "ECC_FATAL", ty := .u8, acc := .ro, ret := .volatile, d := .num 0 },
  { sub := 0x0B, name := "RESET_STATS", ty := .bool, acc := .wo, ret := .volatile, d := .num 0, level := .engineer }]

/-- Table TLY-11, index 0x4000. -/
def rowsTly11_4000 : List Row := [
  { sub := 0x01, name := "LOOP_STATE", ty := .u8, acc := .ro, ret := .volatile, d := .num 0 },
  { sub := 0x02, name := "LOOP_PIPELINE", ty := .u8, acc := .ro, ret := .volatile, d := .num 0 },
  { sub := 0x03, name := "LOOP_ORDER", ty := .u16, acc := .ro, ret := .volatile, d := .num 0 },
  { sub := 0x04, name := "LOOP_PERIOD", ty := .u32, acc := .ro, ret := .volatile, d := .num 0 },
  { sub := 0x05, name := "LOOP_PHASE", ty := .u32, acc := .ro, ret := .volatile, d := .num 0 },
  { sub := 0x06, name := "LOOP_SLOTS", ty := .u8, acc := .ro, ret := .volatile, d := .num 0 },
  { sub := 0x07, name := "LOOP_MODE", ty := .u8, acc := .rw, ret := .retained, d := .num 0, level := .operator, cond := 4, range := .u 0 2 1, arch := true },
  { sub := 0x08, name := "MODE_ACTIVE", ty := .u8, acc := .ro, ret := .volatile, d := .num 0 },
  { sub := 0x09, name := "SP_LOCAL", ty := .f32, acc := .rw, ret := .retained, d := .num 0, level := .operator, cond := 4, arch := true },
  { sub := 0x0A, name := "SP_LO", ty := .f32, acc := .rw, ret := .retained, d := .num 0, level := .engineer, cond := 4, arch := true },
  { sub := 0x0B, name := "SP_HI", ty := .f32, acc := .rw, ret := .retained, d := .num 0, level := .engineer, cond := 4, arch := true },
  { sub := 0x0C, name := "SP_ACTIVE", ty := .f32, acc := .ro, ret := .volatile, d := .num 0 },
  { sub := 0x0D, name := "SP_TRACK", ty := .bool, acc := .rw, ret := .retained, d := .num 1, level := .engineer, cond := 4 },
  { sub := 0x0E, name := "OUT_MAN", ty := .f32, acc := .rw, ret := .retained, d := .num 0, level := .operator, cond := 4, arch := true },
  { sub := 0x0F, name := "PV", ty := .f32, acc := .ro, ret := .volatile, d := .num 0 },
  { sub := 0x10, name := "OUT0", ty := .f32, acc := .ro, ret := .volatile, d := .num 0 },
  { sub := 0x11, name := "OUT1", ty := .f32, acc := .ro, ret := .volatile, d := .num 0 },
  { sub := 0x12, name := "MAN_POINT_VALUE", ty := .f32, acc := .ro, ret := .volatile, d := .num 0 },
  { sub := 0x13, name := "LOOP_STATUS", ty := .u32, acc := .ro, ret := .volatile, d := .num 0 },
  { sub := 0x14, name := "BANK_ACTIVE", ty := .u8, acc := .ro, ret := .volatile, d := .num 0 },
  { sub := 0x15, name := "BANK_SELECT", ty := .u8, acc := .wo, ret := .volatile, d := .num 0, level := .operator, cond := 4, range := .u 0 1 1 },
  { sub := 0x16, name := "PRESET_ON_SWAP", ty := .bool, acc := .rw, ret := .retained, d := .num 1, level := .engineer, cond := 4 },
  { sub := 0x17, name := "FAULT_SWAP", ty := .bool, acc := .rw, ret := .retained, d := .num 0, level := .engineer, cond := 4 },
  { sub := 0x18, name := "RETURN_SAMPLES", ty := .u8, acc := .rw, ret := .retained, d := .num 0, level := .engineer, cond := 4, range := .u 0 255 1 },
  { sub := 0x19, name := "PV_LOSS_TIME", ty := .u32, acc := .rw, ret := .retained, d := .num 200, level := .engineer, cond := 4, range := .u 0 60000 1 },
  { sub := 0x1A, name := "PV_ACTION", ty := .u8, acc := .rw, ret := .retained, d := .num 0, level := .engineer, cond := 4, range := .u 0 3 1 },
  { sub := 0x1B, name := "ALT_FALLBACK", ty := .u8, acc := .rw, ret := .retained, d := .num 0, level := .engineer, cond := 4, range := .u 0 2 1 },
  { sub := 0x1C, name := "SAFE_VALUE", ty := .f32, acc := .rw, ret := .retained, d := .num 0, level := .engineer, cond := 4, arch := true },
  { sub := 0x1D, name := "PV_RETURN_TIME", ty := .u32, acc := .rw, ret := .retained, d := .num 1000, level := .engineer, cond := 4, range := .u 0 60000 1 },
  { sub := 0x1E, name := "FREEZE_TIME", ty := .u32, acc := .rw, ret := .retained, d := .num 0, level := .engineer, cond := 4, range := .orEq 0 100 600000 },
  { sub := 0x1F, name := "FREEZE_BAND", ty := .f32, acc := .rw, ret := .retained, d := .num 0, level := .engineer, cond := 4, range := .f 0 2139095039 },
  { sub := 0x20, name := "FREEZE_OUT_BAND", ty := .f32, acc := .rw, ret := .retained, d := .num 0, level := .engineer, cond := 4, range := .f 0 2139095039 },
  { sub := 0x21, name := "FORCE_RESPONSE", ty := .u8, acc := .rw, ret := .retained, d := .num 0, level := .engineer, cond := 4, range := .u 0 1 1, arch := true },
  { sub := 0x22, name := "LATE_COUNT", ty := .u32, acc := .ro, ret := .volatile, d := .num 0 },
  { sub := 0x23, name := "LATE_CONSEC", ty := .u16, acc := .ro, ret := .volatile, d := .num 0 },
  { sub := 0x24, name := "SAMPLES", ty := .u64, acc := .ro, ret := .volatile, d := .num 0 },
  { sub := 0x25, name := "LAST_SAMPLE_TB3", ty := .time96, acc := .ro, ret := .volatile, d := .num 0 },
  { sub := 0x26, name := "PV_LOST_COUNT", ty := .u32, acc := .ro, ret := .volatile, d := .num 0 },
  { sub := 0x27, name := "PV_FROZEN_COUNT", ty := .u32, acc := .ro, ret := .volatile, d := .num 0 },
  { sub := 0x28, name := "SOLVER_FAULT_COUNT", ty := .u32, acc := .ro, ret := .volatile, d := .num 0 },
  { sub := 0x29, name := "SWAPS", ty := .u32, acc := .ro, ret := .volatile, d := .num 0 },
  { sub := 0x2A, name := "SWAP_CLAMPS", ty := .u32, acc := .ro, ret := .volatile, d := .num 0 },
  { sub := 0x2B, name := "STAGE_OVF_COUNT", ty := .u32, acc := .ro, ret := .volatile, d := .num 0 },
  { sub := 0x2C, name := "BAD_INPUT_COUNT", ty := .u32, acc := .ro, ret := .volatile, d := .num 0 },
  { sub := 0x2D, name := "STAGE_OUT", ty := .octets, acc := .ro, ret := .volatile, d := .bytes [] },
  { sub := 0x2E, name := "PROGRAM", ty := .octets, acc := .ro, ret := .volatile, d := .bytes [] },
  { sub := 0x2F, name := "LOOP_NAME", ty := .str, acc := .ro, ret := .volatile, d := .bytes [] },
  { sub := 0x30, name := "RESET_STATS", ty := .bool, acc := .wo, ret := .volatile, d := .num 0, level := .engineer, cond := 4 }]

/-- Table TLY-13, index 0x4200. -/
def rowsTly13_4200 : List Row := [
  { sub := 0x01, name := "FRAME_PERIOD", ty := .u32, acc := .const, ret := .factory, d := .num 50 },
  { sub := 0x02, name := "PIPE_SLOTS", ty := .u16, acc := .const, ret := .factory, d := .num 1250 },
  { sub := 0x03, name := "ADMIT_SLOTS", ty := .u16, acc := .const, ret := .factory, d := .num 1200 },
  { sub := 0x04, name := "PIPE_PEAK", ty := .octets, acc := .ro, ret := .volatile, d := .bytes [] },
  { sub := 0x05, name := "PIPE_USED_MAX", ty := .octets, acc := .ro, ret := .volatile, d := .bytes [] },
  { sub := 0x06, name := "LOOPS_DEFINED", ty := .u16, acc := .ro, ret := .volatile, d := .num 0 },
  { sub := 0x07, name := "LATE_TOTAL", ty := .u32, acc := .ro, ret := .volatile, d := .num 0 },
  { sub := 0x08, name := "OVERLOAD_FRAMES", ty := .u32, acc := .ro, ret := .volatile, d := .num 0 },
  { sub := 0x09, name := "FIELD_MISS_FRAMES", ty := .u32, acc := .ro, ret := .volatile, d := .num 0 },
  { sub := 0x0A, name := "TASK_WORD_WRITERS", ty := .octets, acc := .ro, ret := .volatile, d := .bytes [] },
  { sub := 0x0B, name := "RESET_STATS", ty := .bool, acc := .wo, ret := .volatile, d := .num 0, level := .engineer }]

/-- Table TLY-13, index 0x4280. -/
def rowsTly13_4280 : List Row := [
  { sub := 0x01, name := "POINTS", ty := .u8, acc := .rw, ret := .retained, d := .num 0, level := .engineer, range := .u 2 16 1, arch := true },
  { sub := 0x02, name := "X_0", ty := .f32, acc := .rw, ret := .retained, d := .num 0, level := .engineer, arch := true },
  { sub := 0x03, name := "Y_0", ty := .f32, acc := .rw, ret := .retained, d := .num 0, level := .engineer, arch := true },
  { sub := 0x04, name := "X_1", ty := .f32, acc := .rw, ret := .retained, d := .num 0, level := .engineer, arch := true },
  { sub := 0x05, name := "Y_1", ty := .f32, acc := .rw, ret := .retained, d := .num 0, level := .engineer, arch := true },
  { sub := 0x06, name := "X_2", ty := .f32, acc := .rw, ret := .retained, d := .num 0, level := .engineer, arch := true },
  { sub := 0x07, name := "Y_2", ty := .f32, acc := .rw, ret := .retained, d := .num 0, level := .engineer, arch := true },
  { sub := 0x08, name := "X_3", ty := .f32, acc := .rw, ret := .retained, d := .num 0, level := .engineer, arch := true },
  { sub := 0x09, name := "Y_3", ty := .f32, acc := .rw, ret := .retained, d := .num 0, level := .engineer, arch := true },
  { sub := 0x0A, name := "X_4", ty := .f32, acc := .rw, ret := .retained, d := .num 0, level := .engineer, arch := true },
  { sub := 0x0B, name := "Y_4", ty := .f32, acc := .rw, ret := .retained, d := .num 0, level := .engineer, arch := true },
  { sub := 0x0C, name := "X_5", ty := .f32, acc := .rw, ret := .retained, d := .num 0, level := .engineer, arch := true },
  { sub := 0x0D, name := "Y_5", ty := .f32, acc := .rw, ret := .retained, d := .num 0, level := .engineer, arch := true },
  { sub := 0x0E, name := "X_6", ty := .f32, acc := .rw, ret := .retained, d := .num 0, level := .engineer, arch := true },
  { sub := 0x0F, name := "Y_6", ty := .f32, acc := .rw, ret := .retained, d := .num 0, level := .engineer, arch := true },
  { sub := 0x10, name := "X_7", ty := .f32, acc := .rw, ret := .retained, d := .num 0, level := .engineer, arch := true },
  { sub := 0x11, name := "Y_7", ty := .f32, acc := .rw, ret := .retained, d := .num 0, level := .engineer, arch := true },
  { sub := 0x12, name := "X_8", ty := .f32, acc := .rw, ret := .retained, d := .num 0, level := .engineer, arch := true },
  { sub := 0x13, name := "Y_8", ty := .f32, acc := .rw, ret := .retained, d := .num 0, level := .engineer, arch := true },
  { sub := 0x14, name := "X_9", ty := .f32, acc := .rw, ret := .retained, d := .num 0, level := .engineer, arch := true },
  { sub := 0x15, name := "Y_9", ty := .f32, acc := .rw, ret := .retained, d := .num 0, level := .engineer, arch := true },
  { sub := 0x16, name := "X_10", ty := .f32, acc := .rw, ret := .retained, d := .num 0, level := .engineer, arch := true },
  { sub := 0x17, name := "Y_10", ty := .f32, acc := .rw, ret := .retained, d := .num 0, level := .engineer, arch := true },
  { sub := 0x18, name := "X_11", ty := .f32, acc := .rw, ret := .retained, d := .num 0, level := .engineer, arch := true },
  { sub := 0x19, name := "Y_11", ty := .f32, acc := .rw, ret := .retained, d := .num 0, level := .engineer, arch := true },
  { sub := 0x1A, name := "X_12", ty := .f32, acc := .rw, ret := .retained, d := .num 0, level := .engineer, arch := true },
  { sub := 0x1B, name := "Y_12", ty := .f32, acc := .rw, ret := .retained, d := .num 0, level := .engineer, arch := true },
  { sub := 0x1C, name := "X_13", ty := .f32, acc := .rw, ret := .retained, d := .num 0, level := .engineer, arch := true },
  { sub := 0x1D, name := "Y_13", ty := .f32, acc := .rw, ret := .retained, d := .num 0, level := .engineer, arch := true },
  { sub := 0x1E, name := "X_14", ty := .f32, acc := .rw, ret := .retained, d := .num 0, level := .engineer, arch := true },
  { sub := 0x1F, name := "Y_14", ty := .f32, acc := .rw, ret := .retained, d := .num 0, level := .engineer, arch := true },
  { sub := 0x20, name := "X_15", ty := .f32, acc := .rw, ret := .retained, d := .num 0, level := .engineer, arch := true },
  { sub := 0x21, name := "Y_15", ty := .f32, acc := .rw, ret := .retained, d := .num 0, level := .engineer, arch := true },
  { sub := 0x22, name := "TABLE_VALID", ty := .bool, acc := .ro, ret := .volatile, d := .num 0 }]

/-- Table TIM-9, index 0x1800. -/
def rowsTim9_1800 : List Row := [
  { sub := 0x01, name := "TB_SNAPSHOT", ty := .octets, acc := .ro, ret := .volatile, d := .bytes [] },
  { sub := 0x02, name := "CONVERT_HISTORY", ty := .u16, acc := .const, ret := .factory, d := .num 16 }]

/-- Table TIM-9, index 0x1813. -/
def rowsTim9_1813 : List Row := [
  { sub := 0x01, name := "TB3_NOW", ty := .time96, acc := .ro, ret := .volatile, d := .num 0 },
  { sub := 0x02, name := "PARTNER_OFFSET", ty := .f64, acc := .ro, ret := .volatile, d := .num 0 },
  { sub := 0x03, name := "PARTNER_OFFSET_STATE", ty := .u8, acc := .ro, ret := .volatile, d := .num 0 }]

/-- Table TIM-10, index 0x1810. -/
def rowsTim10_1810 : List Row := [
  { sub := 0x01, name := "TB_NOW", ty := .time96, acc := .ro, ret := .volatile, d := .num 0 },
  { sub := 0x02, name := "SYNC_STATE", ty := .u8, acc := .ro, ret := .volatile, d := .num 2 },
  { sub := 0x03, name := "SERVO_STATE", ty := .u8, acc := .ro, ret := .volatile, d := .num 0 },
  { sub := 0x04, name := "FREQ_ADJ", ty := .i32, acc := .rw, ret := .volatile, d := .num 0, level := .engineer, range := .ir (-500000000) (500000000) },
  { sub := 0x05, name := "STEP", ty := .u64, acc := .wo, ret := .volatile, d := .num 0, level := .engineer, range := .i 1000000000000000 },
  { sub := 0x06, name := "SET", ty := .time96, acc := .wo, ret := .volatile, d := .num 0, level := .engineer },
  { sub := 0x07, name := "OFFSET_LAST", ty := .f32, acc := .ro, ret := .volatile, d := .num 0 },
  { sub := 0x08, name := "OFFSET_MAX", ty := .f32, acc := .ro, ret := .volatile, d := .num 0 },
  { sub := 0x09, name := "STEP_POLICY", ty := .u8, acc := .rw, ret := .retained, d := .num 1, level := .engineer, range := .u 0 1 1 },
  { sub := 0x0A, name := "STEP_THRESHOLD", ty := .u32, acc := .rw, ret := .retained, d := .num 1000, level := .engineer, range := .u 1 1000000 1 },
  { sub := 0x0B, name := "SLEW_MAX", ty := .u32, acc := .rw, ret := .retained, d := .num 100, level := .engineer, range := .u 1 500 1 },
  { sub := 0x0C, name := "LOCK_THRESHOLD", ty := .u32, acc := .rw, ret := .retained, d := .num 100, level := .engineer, range := .u 10 100000 1 },
  { sub := 0x0D, name := "SERVO_TC", ty := .u8, acc := .rw, ret := .retained, d := .num 8, level := .engineer, range := .u 1 64 1 },
  { sub := 0x0E, name := "STEPS", ty := .u32, acc := .ro, ret := .volatile, d := .num 0 },
  { sub := 0x0F, name := "LAST_STEP", ty := .u64, acc := .ro, ret := .volatile, d := .num 0 },
  { sub := 0x10, name := "LOCK_LOSSES", ty := .u32, acc := .ro, ret := .volatile, d := .num 0 },
  { sub := 0x11, name := "HOLDOVER_TIME", ty := .u32, acc := .ro, ret := .volatile, d := .num 0 },
  { sub := 0x12, name := "UTC_OFFSET", ty := .i16, acc := .rw, ret := .volatile, d := .num 0, level := .engineer },
  { sub := 0x13, name := "LEAP", ty := .u8, acc := .ro, ret := .volatile, d := .num 0 },
  { sub := 0x14, name := "RESET_STATS", ty := .bool, acc := .wo, ret := .volatile, d := .num 0, level := .engineer }]

/-- Table TIM-11, index 0x1820. -/
def rowsTim11_1820 : List Row := [
  { sub := 0x01, name := "PTP_ROLE", ty := .u8, acc := .rw, ret := .retained, d := .num 0, level := .engineer, range := .u 0 4 1, per := [1, 2, 0] },
  { sub := 0x02, name := "PTP_DOMAIN", ty := .u8, acc := .rw, ret := .retained, d := .num 0, level := .engineer, range := .u 0 127 1, per := [0, 1, 2] },
  { sub := 0x03, name := "TRANSPORT", ty := .u8, acc := .rw, ret := .retained, d := .num 0, level := .engineer, range := .u 0 1 1 },
  { sub := 0x04, name := "DELAY_MECH", ty := .u8, acc := .rw, ret := .retained, d := .num 0, level := .engineer, range := .u 0 1 1, per := [0, 1, 1] },
  { sub := 0x05, name := "PRIORITY1", ty := .u8, acc := .rw, ret := .retained, d := .num 128, level := .engineer, range := .u 0 255 1 },
  { sub := 0x06, name := "PRIORITY2", ty := .u8, acc := .rw, ret := .retained, d := .num 128, level := .engineer, range := .u 0 255 1 },
  { sub := 0x07, name := "CLOCK_CLASS", ty := .u8, acc := .rw, ret := .retained, d := .num 248, level := .engineer, range := .u 6 255 1 },
  { sub := 0x08, name := "LOG_SYNC", ty := .i16, acc := .rw, ret := .retained, d := .num 0, level := .engineer, range := .ir (-7) (0), per := [65533, 65532, 65533] },
  { sub := 0x09, name := "LOG_ANNOUNCE", ty := .i16, acc := .rw, ret := .retained, d := .num 1, level := .engineer, range := .ir (0) (3) },
  { sub := 0x0A, name := "ANNOUNCE_TIMEOUT", ty := .u8, acc := .rw, ret := .retained, d := .num 3, level := .engineer, range := .u 2 10 1 },
  { sub := 0x0B, name := "LOG_DELAY_REQ", ty := .i16, acc := .rw, ret := .retained, d := .num 0, level := .engineer, range := .ir (-7) (5) },
  { sub := 0x0C, name := "PRIMARY_PATH", ty := .u8, acc := .rw, ret := .retained, d := .num 0, level := .engineer, range := .u 0 1 1 },
  { sub := 0x0D, name := "PATH_ACTIVE", ty := .u8, acc := .ro, ret := .volatile, d := .num 0 },
  { sub := 0x0E, name := "MASTER_ID", ty := .octets, acc := .ro, ret := .volatile, d := .bytes [] },
  { sub := 0x0F, name := "GM_ID", ty := .octets, acc := .ro, ret := .volatile, d := .bytes [] },
  { sub := 0x10, name := "STEPS_REMOVED", ty := .u16, acc := .ro, ret := .volatile, d := .num 0 },
  { sub := 0x11, name := "MEAN_PATH_DELAY", ty := .f32, acc := .ro, ret := .volatile, d := .num 0 },
  { sub := 0x12, name := "PATH_DIFF", ty := .f32, acc := .ro, ret := .volatile, d := .num 0 },
  { sub := 0x13, name := "PORT_STATE", ty := .u8, acc := .ro, ret := .volatile, d := .num 1 },
  { sub := 0x14, name := "SYNCS_RECEIVED", ty := .u32, acc := .ro, ret := .volatile, d := .num 0 },
  { sub := 0x15, name := "DISCARDED", ty := .u32, acc := .ro, ret := .volatile, d := .num 0 }]

/-- Table TIM-12, index 0x1830. -/
def rowsTim12_1830 : List Row := [
  { sub := 0x01, name := "TX_LAT_1000", ty := .f32, acc := .const, ret := .factory, d := .num 0, fac := true },
  { sub := 0x02, name := "RX_LAT_1000", ty := .f32, acc := .const, ret := .factory, d := .num 0, fac := true },
  { sub := 0x03, name := "TX_LAT_100", ty := .f32, acc := .const, ret := .factory, d := .num 0, fac := true },
  { sub := 0x04, name := "RX_LAT_100", ty := .f32, acc := .const, ret := .factory, d := .num 0, fac := true },
  { sub := 0x05, name := "CAL_VALID", ty := .bool, acc := .const, ret := .factory, d := .num 1 },
  { sub := 0x06, name := "STAMP_UNCERTAINTY", ty := .f32, acc := .ro, ret := .volatile, d := .num 0 },
  { sub := 0x07, name := "ASYMMETRY", ty := .f32, acc := .rw, ret := .retained, d := .num 0, level := .engineer, range := .fs 1148846080 1148846080 },
  { sub := 0x08, name := "PEER_DELAY", ty := .f32, acc := .ro, ret := .volatile, d := .num 0 },
  { sub := 0x09, name := "PEER_DELAY_STATE", ty := .u8, acc := .ro, ret := .volatile, d := .num 0 },
  { sub := 0x0A, name := "EVENTS_STAMPED", ty := .u32, acc := .ro, ret := .volatile, d := .num 0 }]

/-- Table TIM-13, index 0x1840. -/
def rowsTim13_1840 : List Row := [
  { sub := 0x01, name := "TC_MODE", ty := .u8, acc := .rw, ret := .retained, d := .num 2, level := .engineer, range := .u 0 2 1 },
  { sub := 0x02, name := "TC_FRAMES", ty := .u32, acc := .ro, ret := .volatile, d := .num 0 },
  { sub := 0x03, name := "RESIDENCE_LAST", ty := .f32, acc := .ro, ret := .volatile, d := .num 0 },
  { sub := 0x04, name := "RESIDENCE_MIN", ty := .f32, acc := .ro, ret := .volatile, d := .num 0 },
  { sub := 0x05, name := "RESIDENCE_MAX", ty := .f32, acc := .ro, ret := .volatile, d := .num 0 },
  { sub := 0x06, name := "TC_STORED", ty := .u32, acc := .ro, ret := .volatile, d := .num 0 },
  { sub := 0x07, name := "TC_FCS_INVALIDATED", ty := .u32, acc := .ro, ret := .volatile, d := .num 0 },
  { sub := 0x08, name := "RESET_STATS", ty := .bool, acc := .wo, ret := .volatile, d := .num 0, level := .engineer }]

/-- Table NET-12, index 0x1900. -/
def rowsNet12_1900 : List Row := [
  { sub := 0x01, name := "PLANT_MAC", ty := .octets, acc := .const, ret := .factory, d := .bytes [], fac := true },
  { sub := 0x02, name := "RING_MAC", ty := .octets, acc := .const, ret := .factory, d := .bytes [], fac := true },
  { sub := 0x03, name := "PLANT_IP", ty := .u32, acc := .rw, ret := .retained, d := .num 0, level := .engineer, cond := 2 },
  { sub := 0x04, name := "PLANT_MASK", ty := .u32, acc := .rw, ret := .retained, d := .num 4294967040, level := .engineer, cond := 2 },
  { sub := 0x05, name := "PLANT_GATEWAY", ty := .u32, acc := .rw, ret := .retained, d := .num 0, level := .engineer, cond := 2 },
  { sub := 0x06, name := "RING_IP", ty := .u32, acc := .rw, ret := .retained, d := .num 0, level := .engineer, cond := 2 },
  { sub := 0x07, name := "RING_MASK", ty := .u32, acc := .rw, ret := .retained, d := .num 4294967040, level := .engineer, cond := 2 },
  { sub := 0x08, name := "VLAN_ID", ty := .u16, acc := .rw, ret := .retained, d := .num 0, level := .engineer, cond := 2, range := .u 0 4094 1 },
  { sub := 0x09, name := "DUP_EVENTS", ty := .u32, acc := .ro, ret := .volatile, d := .num 0 },
  { sub := 0x0A, name := "DUP_LAST_MAC", ty := .octets, acc := .ro, ret := .volatile, d := .bytes (List.replicate 6 0) }]

/-- Table NET-12, index 0x1920. -/
def rowsNet12_1920 : List Row := [
  { sub := 0x01, name := "PRP_LIFE_CHECK_INTERVAL", ty := .u16, acc := .rw, ret := .retained, d := .num 2000, level := .engineer, range := .u 100 10000 1 },
  { sub := 0x02, name := "PRP_ENTRY_FORGET_TIME", ty := .u16, acc := .rw, ret := .retained, d := .num 400, level := .engineer, range := .u 10 10000 1 },
  { sub := 0x03, name := "PRP_NODE_FORGET_TIME", ty := .u16, acc := .rw, ret := .retained, d := .num 60000, level := .engineer, range := .u 1000 60000 1 },
  { sub := 0x04, name := "PRP_NODES", ty := .u16, acc := .ro, ret := .volatile, d := .num 0 },
  { sub := 0x05, name := "WRONG_LAN", ty := .u32, acc := .ro, ret := .volatile, d := .num 0 },
  { sub := 0x06, name := "LAN_A_MISSING", ty := .u32, acc := .ro, ret := .volatile, d := .num 0 },
  { sub := 0x07, name := "LAN_B_MISSING", ty := .u32, acc := .ro, ret := .volatile, d := .num 0 }]

/-- Table NET-12, index 0x1921. -/
def rowsNet12_1921 : List Row := [
  { sub := 0x01, name := "HSR_LIFE_CHECK_INTERVAL", ty := .u16, acc := .rw, ret := .retained, d := .num 2000, level := .engineer, range := .u 100 10000 1 },
  { sub := 0x02, name := "HSR_ENTRY_FORGET_TIME", ty := .u16, acc := .rw, ret := .retained, d := .num 400, level := .engineer, range := .u 10 10000 1 },
  { sub := 0x03, name := "HSR_NODES", ty := .u16, acc := .ro, ret := .volatile, d := .num 0 },
  { sub := 0x04, name := "RING_STATE", ty := .u8, acc := .ro, ret := .volatile, d := .num 1 },
  { sub := 0x05, name := "FORWARDED", ty := .u64, acc := .ro, ret := .volatile, d := .num 0 }]

/-- Table NET-12, index 0x1930. -/
def rowsNet12_1930 : List Row := [
  { sub := 0x01, name := "RATE_CLASS2", ty := .u8, acc := .rw, ret := .retained, d := .num 50, level := .engineer, range := .u 10 80 1 },
  { sub := 0x02, name := "RATE_CLASS1", ty := .u8, acc := .rw, ret := .retained, d := .num 20, level := .engineer, range := .u 1 50 1 },
  { sub := 0x03, name := "RATE_CLASS0", ty := .u8, acc := .rw, ret := .retained, d := .num 10, level := .engineer, range := .u 1 50 1 },
  { sub := 0x04, name := "CLASS3_RATE", ty := .u8, acc := .const, ret := .factory, d := .num 10 }]

/-- Table NET-12, index 0x1940. -/
def rowsNet12_1940 : List Row := [
  { sub := 0x01, name := "CLASS3_SOURCES", ty := .u64, acc := .rw, ret := .retained, d := .num 0, level := .engineer },
  { sub := 0x02, name := "CLASS3_SOURCES", ty := .u64, acc := .rw, ret := .retained, d := .num 0, level := .engineer },
  { sub := 0x03, name := "CLASS3_SOURCES", ty := .u64, acc := .rw, ret := .retained, d := .num 0, level := .engineer },
  { sub := 0x04, name := "CLASS3_SOURCES", ty := .u64, acc := .rw, ret := .retained, d := .num 0, level := .engineer },
  { sub := 0x05, name := "CLASS3_SOURCES", ty := .u64, acc := .rw, ret := .retained, d := .num 0, level := .engineer },
  { sub := 0x06, name := "CLASS3_SOURCES", ty := .u64, acc := .rw, ret := .retained, d := .num 0, level := .engineer },
  { sub := 0x07, name := "CLASS3_SOURCES", ty := .u64, acc := .rw, ret := .retained, d := .num 0, level := .engineer },
  { sub := 0x08, name := "CLASS3_SOURCES", ty := .u64, acc := .rw, ret := .retained, d := .num 0, level := .engineer },
  { sub := 0x09, name := "CLASS3_SOURCES", ty := .u64, acc := .rw, ret := .retained, d := .num 0, level := .engineer },
  { sub := 0x0A, name := "CLASS3_SOURCE_SUM", ty := .u8, acc := .ro, ret := .volatile, d := .num 0 }]

/-- Table NET-12, index 0x1960. -/
def rowsNet12_1960 : List Row := [
  { sub := 0x01, name := "PROTECTED", ty := .u64, acc := .rw, ret := .retained, d := .num 0, level := .engineer },
  { sub := 0x02, name := "PROTECTED", ty := .u64, acc := .rw, ret := .retained, d := .num 0, level := .engineer },
  { sub := 0x03, name := "PROTECTED", ty := .u64, acc := .rw, ret := .retained, d := .num 0, level := .engineer },
  { sub := 0x04, name := "PROTECTED", ty := .u64, acc := .rw, ret := .retained, d := .num 0, level := .engineer },
  { sub := 0x05, name := "PROTECTED", ty := .u64, acc := .rw, ret := .retained, d := .num 0, level := .engineer },
  { sub := 0x06, name := "PROTECTED", ty := .u64, acc := .rw, ret := .retained, d := .num 0, level := .engineer },
  { sub := 0x07, name := "PROTECTED", ty := .u64, acc := .rw, ret := .retained, d := .num 0, level := .engineer },
  { sub := 0x08, name := "PROTECTED", ty := .u64, acc := .rw, ret := .retained, d := .num 0, level := .engineer }]

/-- Table NET-13, index 0x1910. -/
def rowsNet13_1910 : List Row := [
  { sub := 0x01, name := "PORT_ENABLE", ty := .bool, acc := .rw, ret := .retained, d := .num 1, level := .engineer },
  { sub := 0x02, name := "SPEED_MODE", ty := .u8, acc := .rw, ret := .retained, d := .num 0, level := .engineer, range := .u 0 2 1 },
  { sub := 0x03, name := "LINK_STATE", ty := .u8, acc := .ro, ret := .volatile, d := .num 0 },
  { sub := 0x04, name := "MDI_STATE", ty := .u8, acc := .ro, ret := .volatile, d := .num 0 },
  { sub := 0x05, name := "CABLE_STATE", ty := .u16, acc := .ro, ret := .volatile, d := .num 0 },
  { sub := 0x06, name := "LINK_CHANGES", ty := .u32, acc := .ro, ret := .volatile, d := .num 0 },
  { sub := 0x07, name := "RX_FRAMES", ty := .u64, acc := .ro, ret := .volatile, d := .num 0 },
  { sub := 0x08, name := "TX_FRAMES", ty := .u64, acc := .ro, ret := .volatile, d := .num 0 },
  { sub := 0x09, name := "RX_FCS_ERRORS", ty := .u32, acc := .ro, ret := .volatile, d := .num 0 },
  { sub := 0x0A, name := "DUP_DISCARDED", ty := .u32, acc := .ro, ret := .volatile, d := .num 0 },
  { sub := 0x0B, name := "QUENCH_DROPS", ty := .u32, acc := .ro, ret := .volatile, d := .num 0 },
  { sub := 0x0C, name := "POLICE_DROPS", ty := .octets, acc := .ro, ret := .volatile, d := .bytes [] },
  { sub := 0x0D, name := "BUFFER_DROPS", ty := .octets, acc := .ro, ret := .volatile, d := .bytes [] },
  { sub := 0x0E, name := "QUENCH_SLOT_DROPS", ty := .u32, acc := .ro, ret := .volatile, d := .num 0 },
  { sub := 0x0F, name := "RESET_STATS", ty := .bool, acc := .wo, ret := .volatile, d := .num 0, level := .engineer }]

/-- Table NET-14, index 0x1950. -/
def rowsNet14_1950 : List Row := [
  { sub := 0x01, name := "FILTER_STATE", ty := .u8, acc := .ro, ret := .volatile, d := .num 0 },
  { sub := 0x02, name := "FILTER_MATCH", ty := .octets, acc := .ro, ret := .volatile, d := .bytes [] },
  { sub := 0x03, name := "FILTER_PORTS", ty := .u8, acc := .ro, ret := .volatile, d := .num 0 },
  { sub := 0x04, name := "FILTER_REMAINING", ty := .u32, acc := .ro, ret := .volatile, d := .num 0 },
  { sub := 0x05, name := "FILTER_NODE", ty := .u32, acc := .ro, ret := .volatile, d := .num 0 },
  { sub := 0x06, name := "FILTER_HITS", ty := .u64, acc := .ro, ret := .volatile, d := .num 0 },
  { sub := 0x07, name := "FILTER_INSTALLED", ty := .time96, acc := .ro, ret := .volatile, d := .num 0 },
  { sub := 0x08, name := "INSTALL_LATENCY", ty := .u32, acc := .ro, ret := .volatile, d := .num 0 }]

/-- Table NET-15, index 0x1A00. -/
def rowsNet15_1A00 : List Row := [
  { sub := 0x01, name := "ECX_ENABLE", ty := .bool, acc := .rw, ret := .retained, d := .num 0, level := .engineer, cond := 4 },
  { sub := 0x02, name := "CYCLE_PERIOD", ty := .u32, acc := .rw, ret := .retained, d := .num 1000, level := .engineer, cond := 1, range := .u 250 64000 250 },
  { sub := 0x03, name := "CYCLE_PHASE", ty := .u32, acc := .rw, ret := .retained, d := .num 0, level := .engineer, cond := 1, range := .u 0 63950 50 },
  { sub := 0x04, name := "OUTPUT_DELAY", ty := .u32, acc := .rw, ret := .retained, d := .num 100, level := .engineer, cond := 1, range := .u 20 64000 1 },
  { sub := 0x05, name := "RING_TRANSIT", ty := .u32, acc := .rw, ret := .retained, d := .num 50, level := .engineer, cond := 1, range := .u 1 64000 1 },
  { sub := 0x06, name := "MISS_LIMIT", ty := .u8, acc := .rw, ret := .retained, d := .num 3, level := .engineer, range := .u 1 16 1 },
  { sub := 0x07, name := "RETURN_CYCLES", ty := .u8, acc := .rw, ret := .retained, d := .num 3, level := .engineer, range := .u 1 255 1 },
  { sub := 0x08, name := "ECX_CHECK", ty := .u8, acc := .ro, ret := .volatile, d := .num 255 },
  { sub := 0x09, name := "CYCLE_LOAD", ty := .u16, acc := .ro, ret := .volatile, d := .num 0 },
  { sub := 0x0A, name := "MASTER_STATE", ty := .u8, acc := .ro, ret := .volatile, d := .num 0 },
  { sub := 0x0B, name := "CYCLE_NUMBER", ty := .u32, acc := .ro, ret := .volatile, d := .num 0 }]

/-- Table NET-16, index 0x1A40. -/
def rowsNet16_1A40 : List Row := [
  { sub := 0x01, name := "STATION_ENABLE", ty := .bool, acc := .rw, ret := .retained, d := .num 0, level := .engineer, cond := 4 },
  { sub := 0x02, name := "STATION_MAC", ty := .octets, acc := .rw, ret := .retained, d := .bytes (List.replicate 6 0), level := .engineer, cond := 1, range := .len 6 6 },
  { sub := 0x03, name := "STATION_NODE", ty := .u32, acc := .rw, ret := .retained, d := .num 0, level := .engineer, cond := 1 },
  { sub := 0x04, name := "OUT_LENGTH", ty := .u16, acc := .rw, ret := .retained, d := .num 0, level := .engineer, cond := 1, range := .u 0 1024 1 },
  { sub := 0x05, name := "IN_LENGTH", ty := .u16, acc := .rw, ret := .retained, d := .num 0, level := .engineer, cond := 1, range := .u 0 1024 1 },
  { sub := 0x06, name := "CONFIG_SIGNATURE", ty := .u32, acc := .rw, ret := .retained, d := .num 0, level := .engineer, cond := 1 },
  { sub := 0x07, name := "REDUCTION", ty := .u8, acc := .rw, ret := .retained, d := .num 1, level := .engineer, cond := 1, range := .u 1 64 1 },
  { sub := 0x08, name := "WATCHDOG", ty := .u16, acc := .rw, ret := .retained, d := .num 100, level := .engineer, range := .u 2 60000 1 },
  { sub := 0x09, name := "STATION_STATE", ty := .u8, acc := .ro, ret := .volatile, d := .num 0 },
  { sub := 0x0A, name := "MISSES", ty := .u32, acc := .ro, ret := .volatile, d := .num 0 },
  { sub := 0x0B, name := "MISS_CONSEC", ty := .u8, acc := .ro, ret := .volatile, d := .num 0 },
  { sub := 0x0C, name := "DROPOUTS", ty := .u32, acc := .ro, ret := .volatile, d := .num 0 },
  { sub := 0x0D, name := "LAST_IN_CYCLE", ty := .u32, acc := .ro, ret := .volatile, d := .num 0 },
  { sub := 0x0E, name := "LAST_IN_TB3", ty := .time96, acc := .ro, ret := .volatile, d := .num 0 },
  { sub := 0x0F, name := "LATE_FRAMES", ty := .u32, acc := .ro, ret := .volatile, d := .num 0 },
  { sub := 0x10, name := "SIG_MISMATCHES", ty := .u32, acc := .ro, ret := .volatile, d := .num 0 },
  { sub := 0x11, name := "SINGLE_PATH", ty := .u32, acc := .ro, ret := .volatile, d := .num 0 },
  { sub := 0x12, name := "ACYC_REQUEST", ty := .octets, acc := .wo, ret := .volatile, d := .bytes [], level := .engineer, range := .len 0 1024 },
  { sub := 0x13, name := "ACYC_RESPONSE", ty := .octets, acc := .ro, ret := .volatile, d := .bytes [] },
  { sub := 0x14, name := "ACYC_STATUS", ty := .u8, acc := .ro, ret := .volatile, d := .num 0 },
  { sub := 0x15, name := "RESET_STATS", ty := .bool, acc := .wo, ret := .volatile, d := .num 0, level := .engineer }]

/-- Table CAN-7, index 0x3000. -/
def rowsCan7_3000 : List Row := [
  { sub := 0x01, name := "CHANNEL_MODE", ty := .u8, acc := .rw, ret := .retained, d := .num 0, level := .engineer, range := .u 0 2 1 },
  { sub := 0x02, name := "FD_ENABLE", ty := .bool, acc := .rw, ret := .retained, d := .num 0, level := .engineer, cond := 1 },
  { sub := 0x03, name := "TERMINATION", ty := .bool, acc := .rw, ret := .retained, d := .num 0, level := .engineer },
  { sub := 0x04, name := "RX_ACCEPT_ALL", ty := .bool, acc := .rw, ret := .retained, d := .num 0, level := .engineer },
  { sub := 0x05, name := "CHANNEL_STATE", ty := .u8, acc := .ro, ret := .volatile, d := .num 0 },
  { sub := 0x06, name := "TEC", ty := .u16, acc := .ro, ret := .volatile, d := .num 0 },
  { sub := 0x07, name := "REC", ty := .u8, acc := .ro, ret := .volatile, d := .num 0 },
  { sub := 0x08, name := "BUSOFF_COUNT", ty := .u32, acc := .ro, ret := .volatile, d := .num 0 },
  { sub := 0x09, name := "LAST_BUSOFF", ty := .time96, acc := .ro, ret := .volatile, d := .num 0 },
  { sub := 0x0A, name := "RX_FRAMES", ty := .u64, acc := .ro, ret := .volatile, d := .num 0 },
  { sub := 0x0B, name := "TX_FRAMES", ty := .u64, acc := .ro, ret := .volatile, d := .num 0 },
  { sub := 0x0C, name := "ERROR_FRAMES", ty := .u32, acc := .ro, ret := .volatile, d := .num 0 },
  { sub := 0x0D, name := "LAST_ERROR", ty := .u8, acc := .ro, ret := .volatile, d := .num 0 },
  { sub := 0x0E, name := "RX_FILTERED", ty := .u32, acc := .ro, ret := .volatile, d := .num 0 },
  { sub := 0x0F, name := "RX_OVERRUNS", ty := .u32, acc := .ro, ret := .volatile, d := .num 0 },
  { sub := 0x10, name := "FD_EXCEPTIONS", ty := .u32, acc := .ro, ret := .volatile, d := .num 0 },
  { sub := 0x11, name := "COLLISION_THRESHOLD", ty := .u8, acc := .rw, ret := .retained, d := .num 2, level := .engineer, range := .u 1 15 1 },
  { sub := 0x12, name := "COLLISION_ID", ty := .u32, acc := .ro, ret := .volatile, d := .num 0 },
  { sub := 0x13, name := "COLLISIONS", ty := .u32, acc := .ro, ret := .volatile, d := .num 0 },
  { sub := 0x14, name := "FOREIGN_SAME_ID", ty := .u32, acc := .ro, ret := .volatile, d := .num 0 },
  { sub := 0x15, name := "TXQ_REJECTS", ty := .u32, acc := .ro, ret := .volatile, d := .num 0 },
  { sub := 0x16, name := "RX_CONSUMER", ty := .u8, acc := .ro, ret := .volatile, d := .num 254 },
  { sub := 0x17, name := "RESET_STATS", ty := .bool, acc := .wo, ret := .volatile, d := .num 0, level := .engineer }]

/-- Table CAN-8, index 0x3001. -/
def rowsCan8_3001 : List Row := [
  { sub := 0x01, name := "NOM_BRP", ty := .u16, acc := .rw, ret := .retained, d := .num 1, level := .engineer, cond := 1, range := .u 1 32 1 },
  { sub := 0x02, name := "NOM_TSEG1", ty := .u16, acc := .rw, ret := .retained, d := .num 127, level := .engineer, cond := 1, range := .u 2 256 1 },
  { sub := 0x03, name := "NOM_TSEG2", ty := .u8, acc := .rw, ret := .retained, d := .num 32, level := .engineer, cond := 1, range := .u 1 128 1 },
  { sub := 0x04, name := "NOM_SJW", ty := .u8, acc := .rw, ret := .retained, d := .num 32, level := .engineer, cond := 1, range := .u 1 128 1 },
  { sub := 0x05, name := "DATA_BRP", ty := .u8, acc := .rw, ret := .retained, d := .num 1, level := .engineer, cond := 1, range := .u 1 32 1 },
  { sub := 0x06, name := "DATA_TSEG1", ty := .u8, acc := .rw, ret := .retained, d := .num 29, level := .engineer, cond := 1, range := .u 1 32 1 },
  { sub := 0x07, name := "DATA_TSEG2", ty := .u8, acc := .rw, ret := .retained, d := .num 10, level := .engineer, cond := 1, range := .u 1 16 1 },
  { sub := 0x08, name := "DATA_SJW", ty := .u8, acc := .rw, ret := .retained, d := .num 10, level := .engineer, cond := 1, range := .u 1 16 1 },
  { sub := 0x09, name := "NOM_RATE", ty := .u32, acc := .ro, ret := .volatile, d := .num 0 },
  { sub := 0x0A, name := "DATA_RATE", ty := .u32, acc := .ro, ret := .volatile, d := .num 0 },
  { sub := 0x0B, name := "TDC_VALUE", ty := .u8, acc := .ro, ret := .volatile, d := .num 0 },
  { sub := 0x0C, name := "TIMING_CHECK", ty := .u8, acc := .ro, ret := .volatile, d := .num 255 }]

/-- Table CAN-8, index 0x3002. -/
def rowsCan8_3002 : List Row := [
  { sub := 0x01, name := "XCVR_STATE", ty := .u16, acc := .ro, ret := .volatile, d := .num 0 },
  { sub := 0x02, name := "XCVR_FAULTS", ty := .u32, acc := .ro, ret := .volatile, d := .num 0 },
  { sub := 0x03, name := "CANH_V", ty := .f32, acc := .ro, ret := .volatile, d := .num 0 },
  { sub := 0x04, name := "CANL_V", ty := .f32, acc := .ro, ret := .volatile, d := .num 0 }]

/-- Table CAN-9, index 0x3010. -/
def rowsCan9_3010 : List Row := [
  { sub := 0x01, name := "FILTER_ENABLE", ty := .bool, acc := .rw, ret := .retained, d := .num 0, level := .engineer },
  { sub := 0x02, name := "FILTER_ID", ty := .u32, acc := .rw, ret := .retained, d := .num 0, level := .engineer },
  { sub := 0x03, name := "FILTER_MASK", ty := .u32, acc := .rw, ret := .retained, d := .num 0, level := .engineer },
  { sub := 0x04, name := "FILTER_HITS", ty := .u32, acc := .ro, ret := .volatile, d := .num 0 },
  { sub := 0x05, name := "FILTER_LAST", ty := .octets, acc := .ro, ret := .volatile, d := .bytes [] }]

/-- Table CAN-10, index 0x3020. -/
def rowsCan10_3020 : List Row := [
  { sub := 0x01, name := "OBJ_ID", ty := .u32, acc := .rw, ret := .retained, d := .num 0, level := .engineer, cond := 1, arch := true },
  { sub := 0x02, name := "OBJ_FORMAT", ty := .u8, acc := .rw, ret := .retained, d := .num 0, level := .engineer, cond := 1, range := .u 0 2 1, arch := true },
  { sub := 0x03, name := "OBJ_LENGTH", ty := .u8, acc := .rw, ret := .retained, d := .num 0, level := .engineer, cond := 1, range := .u 0 64 1, arch := true },
  { sub := 0x04, name := "OBJ_MODE", ty := .u8, acc := .rw, ret := .retained, d := .num 0, level := .engineer, cond := 1, range := .u 0 2 1, arch := true },
  { sub := 0x05, name := "OBJ_PERIOD", ty := .u32, acc := .rw, ret := .retained, d := .num 0, level := .engineer, cond := 1, range := .u 250 60000000 250, arch := true },
  { sub := 0x06, name := "OBJ_PHASE", ty := .u32, acc := .rw, ret := .retained, d := .num 0, level := .engineer, cond := 1, range := .u 0 59999950 50, arch := true },
  { sub := 0x07, name := "RETRY_LIMIT", ty := .u8, acc := .rw, ret := .retained, d := .num 7, level := .engineer, range := .u 0 15 1 },
  { sub := 0x08, name := "LIFETIME", ty := .u32, acc := .rw, ret := .retained, d := .num 0, level := .engineer, range := .orEq 0 250 60000000 },
  { sub := 0x09, name := "OBJ_WRITER", ty := .u16, acc := .ro, ret := .volatile, d := .num 65535 },
  { sub := 0x0A, name := "OBJ_DATA", ty := .octets, acc := .ro, ret := .volatile, d := .bytes [] },
  { sub := 0x0B, name := "OBJ_SEND", ty := .octets, acc := .wo, ret := .volatile, d := .bytes [], level := .operator },
  { sub := 0x0C, name := "TX_STATE", ty := .u8, acc := .ro, ret := .volatile, d := .num 0 },
  { sub := 0x0D, name := "LAST_RESULT", ty := .u8, acc := .ro, ret := .volatile, d := .num 255 },
  { sub := 0x0E, name := "SENT", ty := .u32, acc := .ro, ret := .volatile, d := .num 0 },
  { sub := 0x0F, name := "DROPPED", ty := .u32, acc := .ro, ret := .volatile, d := .num 0 },
  { sub := 0x10, name := "ERROR_RETRIES", ty := .u32, acc := .ro, ret := .volatile, d := .num 0 },
  { sub := 0x11, name := "ARB_RETRIES", ty := .u32, acc := .ro, ret := .volatile, d := .num 0 },
  { sub := 0x12, name := "OVERWRITTEN", ty := .u32, acc := .ro, ret := .volatile, d := .num 0 },
  { sub := 0x13, name := "LAST_SENT_TB3", ty := .time96, acc := .ro, ret := .volatile, d := .num 0 },
  { sub := 0x14, name := "RESET_STATS", ty := .bool, acc := .wo, ret := .volatile, d := .num 0, level := .engineer }]

/-- Table DIO-8, index 0x2000. -/
def rowsDio8_2000 : List Row := [
  { sub := 0x01, name := "DI_TYPE", ty := .u8, acc := .rw, ret := .retained, d := .num 1, level := .engineer, range := .u 0 1 1 },
  { sub := 0x02, name := "DI_FILTER", ty := .u16, acc := .rw, ret := .retained, d := .num 30, level := .engineer, range := .u 1 250 1 },
  { sub := 0x03, name := "LINE_MONITOR", ty := .bool, acc := .rw, ret := .retained, d := .num 0, level := .engineer },
  { sub := 0x04, name := "DI_STATE", ty := .bool, acc := .ro, ret := .volatile, d := .num 0 },
  { sub := 0x05, name := "DI_DIAG", ty := .u8, acc := .ro, ret := .volatile, d := .num 0 },
  { sub := 0x06, name := "DI_CHANGES", ty := .u32, acc := .ro, ret := .volatile, d := .num 0 },
  { sub := 0x07, name := "LAST_CHANGE_TB3", ty := .time96, acc := .ro, ret := .volatile, d := .num 0 },
  { sub := 0x08, name := "RESET_STATS", ty := .bool, acc := .wo, ret := .volatile, d := .num 0, level := .engineer },
  { sub := 0x09, name := "LATCH_GLITCH", ty := .u16, acc := .rw, ret := .retained, d := .num 200, level := .engineer, range := .u 0 400 20 },
  { sub := 0x0A, name := "LAST_EDGE_TB3", ty := .time96, acc := .ro, ret := .volatile, d := .num 0 }]

/-- Table DIO-8, index 0x2018. -/
def rowsDio8_2018 : List Row := [
  { sub := 0x01, name := "DI_TYPE", ty := .u8, acc := .rw, ret := .retained, d := .num 1, level := .engineer, range := .u 0 1 1 },
  { sub := 0x02, name := "DI_FILTER", ty := .u16, acc := .rw, ret := .retained, d := .num 30, level := .engineer, range := .u 1 250 1 },
  { sub := 0x03, name := "LINE_MONITOR", ty := .bool, acc := .rw, ret := .retained, d := .num 0, level := .engineer },
  { sub := 0x04, name := "DI_STATE", ty := .bool, acc := .ro, ret := .volatile, d := .num 0 },
  { sub := 0x05, name := "DI_DIAG", ty := .u8, acc := .ro, ret := .volatile, d := .num 0 },
  { sub := 0x06, name := "DI_CHANGES", ty := .u32, acc := .ro, ret := .volatile, d := .num 0 },
  { sub := 0x07, name := "LAST_CHANGE_TB3", ty := .time96, acc := .ro, ret := .volatile, d := .num 0 },
  { sub := 0x08, name := "RESET_STATS", ty := .bool, acc := .wo, ret := .volatile, d := .num 0, level := .engineer }]

/-- Table DIO-9, index 0x2040. -/
def rowsDio9_2040 : List Row := [
  { sub := 0x01, name := "DO_PROFILE", ty := .u8, acc := .rw, ret := .retained, d := .num 0, level := .engineer, cond := 1, range := .u 0 3 1 },
  { sub := 0x02, name := "DO_SAFE_STATE", ty := .u8, acc := .rw, ret := .retained, d := .num 0, level := .engineer, range := .u 0 2 1 },
  { sub := 0x03, name := "OFF_DIAG", ty := .bool, acc := .rw, ret := .retained, d := .num 1, level := .engineer },
  { sub := 0x04, name := "OPEN_ON_CURRENT", ty := .u16, acc := .rw, ret := .retained, d := .num 5, level := .engineer, range := .orEq 0 2 100 },
  { sub := 0x05, name := "OVERLOAD_TIME", ty := .u16, acc := .rw, ret := .retained, d := .num 10, level := .engineer, range := .u 1 100 1 },
  { sub := 0x06, name := "RESTART_MODE", ty := .u8, acc := .rw, ret := .retained, d := .num 0, level := .engineer, range := .u 0 1 1 },
  { sub := 0x07, name := "RETRY_DELAY", ty := .u16, acc := .rw, ret := .retained, d := .num 1000, level := .engineer, range := .u 100 10000 1 },
  { sub := 0x08, name := "DO_COMMANDED", ty := .bool, acc := .ro, ret := .volatile, d := .num 0 },
  { sub := 0x09, name := "DO_OUTPUT_STATE", ty := .u8, acc := .ro, ret := .volatile, d := .num 0 },
  { sub := 0x0A, name := "DO_DIAG", ty := .u16, acc := .ro, ret := .volatile, d := .num 0 },
  { sub := 0x0B, name := "DO_CURRENT", ty := .f32, acc := .ro, ret := .volatile, d := .num 0 },
  { sub := 0x0C, name := "DO_VOLTAGE", ty := .f32, acc := .ro, ret := .volatile, d := .num 0 },
  { sub := 0x0D, name := "DEMAG_ENERGY", ty := .f32, acc := .ro, ret := .volatile, d := .num 0 },
  { sub := 0x0E, name := "SWITCHINGS", ty := .u32, acc := .ro, ret := .volatile, d := .num 0 },
  { sub := 0x0F, name := "TRIPS", ty := .u32, acc := .ro, ret := .volatile, d := .num 0 },
  { sub := 0x10, name := "TRIP_RESET", ty := .bool, acc := .wo, ret := .volatile, d := .num 0, level := .operator },
  { sub := 0x11, name := "RESET_STATS", ty := .bool, acc := .wo, ret := .volatile, d := .num 0, level := .engineer }]

/-- Table DIO-11, index 0x2080. -/
def rowsDio11_2080 : List Row := [
  { sub := 0x01, name := "GROUP_STATE", ty := .u8, acc := .ro, ret := .volatile, d := .num 2 },
  { sub := 0x02, name := "GROUP_VOLTAGE", ty := .f32, acc := .ro, ret := .volatile, d := .num 0 },
  { sub := 0x03, name := "GROUP_CURRENT", ty := .f32, acc := .ro, ret := .volatile, d := .num 0 },
  { sub := 0x04, name := "GROUP_TEMP", ty := .f32, acc := .ro, ret := .volatile, d := .num 0 },
  { sub := 0x05, name := "GROUP_UV_THRESHOLD", ty := .f32, acc := .rw, ret := .retained, d := .num 1098907648, level := .engineer, range := .f 1094713344 1101004800 },
  { sub := 0x06, name := "GROUP_FAULTS", ty := .u32, acc := .ro, ret := .volatile, d := .num 0 }]

/-- Table DIO-11, index 0x2090. -/
def rowsDio11_2090 : List Row := [
  { sub := 0x01, name := "SILENCE_TIMEOUT", ty := .u16, acc := .rw, ret := .retained, d := .num 50, level := .engineer, cond := 4, range := .u 2 1000 1 },
  { sub := 0x02, name := "FIELD_STATE", ty := .u8, acc := .ro, ret := .volatile, d := .num 3 },
  { sub := 0x03, name := "SILENCE_EVENTS", ty := .u32, acc := .ro, ret := .retained, d := .num 0 },
  { sub := 0x04, name := "LAST_SILENCE_TB3", ty := .time96, acc := .ro, ret := .volatile, d := .num 0 },
  { sub := 0x05, name := "FIELD_FRAME_ERRORS", ty := .u32, acc := .ro, ret := .volatile, d := .num 0 },
  { sub := 0x06, name := "RESET_STATS", ty := .bool, acc := .wo, ret := .volatile, d := .num 0, level := .engineer }]

/-- Table ANA-7, index 0x2100. -/
def rowsAna7_2100 : List Row := [
  { sub := 0x01, name := "AI_SUPPLY_MODE", ty := .u8, acc := .rw, ret := .retained, d := .num 1, level := .engineer, range := .u 0 2 1 },
  { sub := 0x02, name := "TX_VMIN", ty := .f32, acc := .rw, ret := .retained, d := .num 1094713344, level := .engineer, range := .f 1086324736 1103101952 },
  { sub := 0x03, name := "WIRE_RESISTANCE", ty := .f32, acc := .rw, ret := .retained, d := .num 1112014848, level := .engineer, range := .f 0 1140457472 },
  { sub := 0x04, name := "AI_AVERAGE", ty := .u16, acc := .rw, ret := .retained, d := .num 80, level := .engineer, range := .u 1 400 1 },
  { sub := 0x05, name := "OPEN_THRESHOLD", ty := .f32, acc := .rw, ret := .retained, d := .num 1056964608, level := .engineer, range := .orF 0 1036831949 1080033280 },
  { sub := 0x06, name := "AI_CURRENT", ty := .f32, acc := .ro, ret := .volatile, d := .num 0 },
  { sub := 0x07, name := "AI_DIAG", ty := .u16, acc := .ro, ret := .volatile, d := .num 0 },
  { sub := 0x08, name := "AI_FAULT_CAUSE", ty := .u8, acc := .ro, ret := .volatile, d := .num 0 },
  { sub := 0x09, name := "SUPPLY_VOLTAGE", ty := .f32, acc := .ro, ret := .volatile, d := .num 0 },
  { sub := 0x0A, name := "SUPPLY_TARGET", ty := .f32, acc := .ro, ret := .volatile, d := .num 0 },
  { sub := 0x0B, name := "SUPPLY_STAGE_TEMP", ty := .f32, acc := .ro, ret := .volatile, d := .num 0 },
  { sub := 0x0C, name := "TRIM_ZERO", ty := .f32, acc := .rw, ret := .retained, d := .num 0, level := .engineer, range := .fs 1056964608 1056964608 },
  { sub := 0x0D, name := "TRIM_SPAN", ty := .f32, acc := .rw, ret := .retained, d := .num 1065353216, level := .engineer, range := .f 1065017672 1065520988 },
  { sub := 0x0E, name := "TRIM_CAPTURE", ty := .u8, acc := .wo, ret := .volatile, d := .num 0, level := .engineer, cond := 1, range := .u 1 3 1 },
  { sub := 0x0F, name := "TRIM_STATE", ty := .u8, acc := .ro, ret := .volatile, d := .num 0 },
  { sub := 0x10, name := "CAL_RESIDUAL", ty := .f32, acc := .const, ret := .factory, d := .num 0, fac := true },
  { sub := 0x11, name := "FAULT_EVENTS", ty := .u32, acc := .ro, ret := .volatile, d := .num 0 },
  { sub := 0x12, name := "RESET_STATS", ty := .bool, acc := .wo, ret := .volatile, d := .num 0, level := .engineer }]

/-- Table ANA-8, index 0x2120. -/
def rowsAna8_2120 : List Row := [
  { sub := 0x01, name := "AO_SAFE_MODE", ty := .u8, acc := .rw, ret := .retained, d := .num 0, level := .engineer, range := .u 0 2 1 },
  { sub := 0x02, name := "AO_SAFE_VALUE", ty := .f32, acc := .rw, ret := .retained, d := .num 0, level := .engineer, range := .f 0 1103101952 },
  { sub := 0x03, name := "AO_COMMANDED", ty := .f32, acc := .ro, ret := .volatile, d := .num 0 },
  { sub := 0x04, name := "AO_READBACK", ty := .f32, acc := .ro, ret := .volatile, d := .num 0 },
  { sub := 0x05, name := "AO_TERMINAL_V", ty := .f32, acc := .ro, ret := .volatile, d := .num 0 },
  { sub := 0x06, name := "AO_NEED", ty := .f32, acc := .ro, ret := .volatile, d := .num 0 },
  { sub := 0x07, name := "AO_DIAG", ty := .u16, acc := .ro, ret := .volatile, d := .num 0 },
  { sub := 0x08, name := "AO_OUTPUT_STATE", ty := .u8, acc := .ro, ret := .volatile, d := .num 1 },
  { sub := 0x09, name := "AO_TRIM_ZERO", ty := .f32, acc := .rw, ret := .retained, d := .num 0, level := .engineer, range := .fs 1056964608 1056964608 },
  { sub := 0x0A, name := "AO_TRIM_SPAN", ty := .f32, acc := .rw, ret := .retained, d := .num 1065353216, level := .engineer, range := .f 1065017672 1065520988 },
  { sub := 0x0B, name := "AO_TRIM_STEP", ty := .u8, acc := .wo, ret := .volatile, d := .num 0, level := .engineer, cond := 1, range := .u 1 4 1 },
  { sub := 0x0C, name := "AO_TRIM_READING", ty := .f32, acc := .wo, ret := .volatile, d := .num 0, level := .engineer, range := .f 0 1103626240 },
  { sub := 0x0D, name := "AO_TRIM_STATE", ty := .u8, acc := .ro, ret := .volatile, d := .num 0 },
  { sub := 0x0E, name := "COMPLIANCE_EVENTS", ty := .u32, acc := .ro, ret := .volatile, d := .num 0 },
  { sub := 0x0F, name := "RESET_STATS", ty := .bool, acc := .wo, ret := .volatile, d := .num 0, level := .engineer }]

/-- Table ANA-9, index 0x2130. -/
def rowsAna9_2130 : List Row := [
  { sub := 0x01, name := "AO_RAIL_V", ty := .f32, acc := .ro, ret := .volatile, d := .num 0 },
  { sub := 0x02, name := "AO_COMPLIANCE_V", ty := .f32, acc := .ro, ret := .volatile, d := .num 0 },
  { sub := 0x03, name := "AO_RAIL_CHANNEL", ty := .u8, acc := .ro, ret := .volatile, d := .num 255 },
  { sub := 0x04, name := "TX_POWER", ty := .f32, acc := .ro, ret := .volatile, d := .num 0 },
  { sub := 0x05, name := "ANALOG_STATE", ty := .u8, acc := .ro, ret := .volatile, d := .num 3 },
  { sub := 0x06, name := "BURDEN_IN_CIRCUIT", ty := .u32, acc := .ro, ret := .volatile, d := .num 0 },
  { sub := 0x07, name := "SHED_EVENTS", ty := .u32, acc := .ro, ret := .retained, d := .num 0 }]

/-- Table MOV-7, index 0x2200. -/
def rowsMov7_2200 : List Row := [
  { sub := 0x01, name := "PROFILE", ty := .u8, acc := .rw, ret := .retained, d := .num 0, level := .engineer, range := .u 0 1 1 },
  { sub := 0x02, name := "VEL_MAX", ty := .f32, acc := .rw, ret := .retained, d := .num 1176256512, level := .engineer, range := .f 1065353216 1240736768 },
  { sub := 0x03, name := "ACCEL", ty := .f32, acc := .rw, ret := .retained, d := .num 1184645120, level := .engineer, range := .f 1065353216 1315859240 },
  { sub := 0x04, name := "DECEL", ty := .f32, acc := .rw, ret := .retained, d := .num 1184645120, level := .engineer, range := .f 1065353216 1315859240 },
  { sub := 0x05, name := "JERK", ty := .f32, acc := .rw, ret := .retained, d := .num 1232348160, level := .engineer, range := .f 1065353216 1399379109 },
  { sub := 0x06, name := "STOP_DECEL", ty := .f32, acc := .rw, ret := .retained, d := .num 1195593728, level := .engineer, range := .f 1065353216 1315859240 },
  { sub := 0x07, name := "LIMIT_DECEL", ty := .f32, acc := .rw, ret := .retained, d := .num 1203982336, level := .engineer, range := .f 1065353216 1315859240 },
  { sub := 0x08, name := "STEP_WIDTH", ty := .u16, acc := .rw, ret := .retained, d := .num 1000, level := .engineer, cond := 1, range := .u 100 10000 20 },
  { sub := 0x09, name := "DIR_SETUP", ty := .u16, acc := .rw, ret := .retained, d := .num 5000, level := .engineer, cond := 1, range := .u 200 50000 20 },
  { sub := 0x0A, name := "DIR_INVERT", ty := .bool, acc := .rw, ret := .retained, d := .num 0, level := .engineer, cond := 1 },
  { sub := 0x0B, name := "ENA_ACTIVE_HIGH", ty := .bool, acc := .rw, ret := .retained, d := .num 1, level := .engineer, cond := 1 },
  { sub := 0x0C, name := "FLT_ACTIVE_HIGH", ty := .bool, acc := .rw, ret := .retained, d := .num 0, level := .engineer, cond := 1 },
  { sub := 0x0D, name := "AUTO_ENABLE", ty := .bool, acc := .rw, ret := .retained, d := .num 0, level := .engineer },
  { sub := 0x0E, name := "ENABLE_DELAY", ty := .u16, acc := .rw, ret := .retained, d := .num 50, level := .engineer, range := .u 0 1000 1 },
  { sub := 0x0F, name := "IDLE_DISABLE", ty := .u32, acc := .rw, ret := .retained, d := .num 0, level := .engineer, range := .orEq 0 100 3600000 },
  { sub := 0x10, name := "RETENTION", ty := .u8, acc := .rw, ret := .retained, d := .num 1, level := .engineer, range := .u 0 1 1 },
  { sub := 0x11, name := "AXIS_SAFE_MODE", ty := .u8, acc := .rw, ret := .retained, d := .num 0, level := .engineer, range := .u 0 2 1 },
  { sub := 0x12, name := "LIMIT_POS_INPUT", ty := .u8, acc := .rw, ret := .retained, d := .num 255, level := .engineer, range := .orEq 255 0 63 },
  { sub := 0x13, name := "LIMIT_NEG_INPUT", ty := .u8, acc := .rw, ret := .retained, d := .num 255, level := .engineer, range := .orEq 255 0 63 },
  { sub := 0x14, name := "LIMIT_ACTIVE_LEVEL", ty := .u8, acc := .rw, ret := .retained, d := .num 0, level := .engineer, range := .u 0 1 1 },
  { sub := 0x15, name := "REF_INPUT", ty := .u8, acc := .rw, ret := .retained, d := .num 255, level := .engineer, range := .orEq 255 0 23 },
  { sub := 0x16, name := "REF_EDGE", ty := .u8, acc := .rw, ret := .retained, d := .num 0, level := .engineer, range := .u 0 1 1 },
  { sub := 0x17, name := "HOME_METHOD", ty := .u8, acc := .rw, ret := .retained, d := .num 0, level := .engineer, range := .u 0 2 1 },
  { sub := 0x18, name := "HOME_DIR", ty := .u8, acc := .rw, ret := .retained, d := .num 1, level := .engineer, range := .u 0 1 1 },
  { sub := 0x19, name := "HOME_FAST_VEL", ty := .f32, acc := .rw, ret := .retained, d := .num 1167867904, level := .engineer, range := .f 1065353216 1240736768 },
  { sub := 0x1A, name := "HOME_SLOW_VEL", ty := .f32, acc := .rw, ret := .retained, d := .num 1140457472, level := .engineer, range := .f 1065353216 1203982336 },
  { sub := 0x1B, name := "HOME_DECEL", ty := .f32, acc := .rw, ret := .retained, d := .num 1195593728, level := .engineer, range := .f 1065353216 1315859240 },
  { sub := 0x1C, name := "HOME_DEBOUNCE", ty := .u16, acc := .rw, ret := .retained, d := .num 20, level := .engineer, range := .u 1 1000 1 },
  { sub := 0x1D, name := "HOME_MAX_TRAVEL", ty := .u64, acc := .rw, ret := .retained, d := .num 1000000, level := .engineer, range := .u 1 140737488355327 1 },
  { sub := 0x1E, name := "HOME_POSITION", ty := .u64, acc := .rw, ret := .retained, d := .num 0, level := .engineer, range := .ir (-140737488355328) 140737488355327 },
  { sub := 0x1F, name := "AXIS_COMMAND", ty := .octets, acc := .wo, ret := .volatile, d := .bytes [], level := .operator, range := .len 32 32 },
  { sub := 0x20, name := "AXIS_STATE", ty := .u8, acc := .ro, ret := .volatile, d := .num 0 },
  { sub := 0x21, name := "POSITION", ty := .u64, acc := .ro, ret := .volatile, d := .num 0 },
  { sub := 0x22, name := "POS_VALID", ty := .bool, acc := .ro, ret := .volatile, d := .num 0 },
  { sub := 0x23, name := "VELOCITY", ty := .f32, acc := .ro, ret := .volatile, d := .num 0 },
  { sub := 0x24, name := "AXIS_FLAGS", ty := .u16, acc := .ro, ret := .volatile, d := .num 0 },
  { sub := 0x25, name := "LAST_MOVE_ID", ty := .u32, acc := .ro, ret := .volatile, d := .num 0 },
  { sub := 0x26, name := "LAST_RESULT", ty := .u8, acc := .ro, ret := .volatile, d := .num 255 },
  { sub := 0x27, name := "LAST_RESULT_TB3", ty := .time96, acc := .ro, ret := .volatile, d := .num 0 },
  { sub := 0x28, name := "LAST_ISSUED_MOVE", ty := .u32, acc := .ro, ret := .volatile, d := .num 0 },
  { sub := 0x29, name := "LATCH_POSITION", ty := .u64, acc := .ro, ret := .volatile, d := .num 0 },
  { sub := 0x2A, name := "LATCH_TB3", ty := .time96, acc := .ro, ret := .volatile, d := .num 0 },
  { sub := 0x2B, name := "HOME_FAIL_CAUSE", ty := .u8, acc := .ro, ret := .volatile, d := .num 0 },
  { sub := 0x2C, name := "STEPS_EMITTED", ty := .u64, acc := .ro, ret := .volatile, d := .num 0 },
  { sub := 0x2D, name := "MOVES", ty := .u32, acc := .ro, ret := .volatile, d := .num 0 },
  { sub := 0x2E, name := "FAULTS", ty := .u32, acc := .ro, ret := .volatile, d := .num 0 },
  { sub := 0x2F, name := "RESET_STATS", ty := .bool, acc := .wo, ret := .volatile, d := .num 0, level := .engineer }]

/-- Table MOV-8, index 0x2210. -/
def rowsMov8_2210 : List Row := [
  { sub := 0x01, name := "PROFILE_TICK", ty := .u16, acc := .const, ret := .factory, d := .num 10 },
  { sub := 0x02, name := "AXES_MOVING", ty := .u16, acc := .ro, ret := .volatile, d := .num 0 },
  { sub := 0x03, name := "CMD_REJECTS", ty := .u32, acc := .ro, ret := .volatile, d := .num 0 },
  { sub := 0x04, name := "RESET_STATS", ty := .bool, acc := .wo, ret := .volatile, d := .num 0, level := .engineer }]

/-- Table SAF-8, index 0x6900. -/
def rowsSaf8_6900 : List Row := [
  { sub := 0x01, name := "SI_MODE", ty := .u8, acc := .ro, ret := .volatile, d := .num 0 },
  { sub := 0x02, name := "SI_TP_A", ty := .u8, acc := .ro, ret := .volatile, d := .num 0 },
  { sub := 0x03, name := "SI_TP_B", ty := .u8, acc := .ro, ret := .volatile, d := .num 0 },
  { sub := 0x04, name := "SI_FILTER", ty := .u16, acc := .ro, ret := .volatile, d := .num 0 },
  { sub := 0x05, name := "SI_DISCREPANCY", ty := .u16, acc := .ro, ret := .volatile, d := .num 0 },
  { sub := 0x06, name := "SI_STATE", ty := .bool, acc := .ro, ret := .volatile, d := .num 0 },
  { sub := 0x07, name := "SI_CONTACTS", ty := .u8, acc := .ro, ret := .volatile, d := .num 0 },
  { sub := 0x08, name := "SI_DIAG", ty := .u8, acc := .ro, ret := .volatile, d := .num 0 },
  { sub := 0x09, name := "SI_DEMANDS", ty := .u32, acc := .ro, ret := .volatile, d := .num 0 },
  { sub := 0x0A, name := "SI_FAULTS", ty := .u32, acc := .ro, ret := .volatile, d := .num 0 },
  { sub := 0x0B, name := "LAST_DEMAND_TB3", ty := .time96, acc := .ro, ret := .volatile, d := .num 0 }]

/-- Table SAF-8, index 0x6910. -/
def rowsSaf8_6910 : List Row := [
  { sub := 0x01, name := "TP_STATE", ty := .u8, acc := .ro, ret := .volatile, d := .num 0 },
  { sub := 0x02, name := "TP_CURRENT", ty := .f32, acc := .ro, ret := .volatile, d := .num 0 },
  { sub := 0x03, name := "TP_FAULTS", ty := .u32, acc := .ro, ret := .volatile, d := .num 0 }]

/-- Table SAF-9, index 0x6920. -/
def rowsSaf9_6920 : List Row := [
  { sub := 0x01, name := "SB_STATE", ty := .u8, acc := .ro, ret := .volatile, d := .num 0 },
  { sub := 0x02, name := "SB_DIAG", ty := .u16, acc := .ro, ret := .volatile, d := .num 0 },
  { sub := 0x03, name := "SB_CURRENT", ty := .f32, acc := .ro, ret := .volatile, d := .num 0 },
  { sub := 0x04, name := "SB_PULSE_WIDTH", ty := .u16, acc := .ro, ret := .volatile, d := .num 0 },
  { sub := 0x05, name := "SB_TEST_PERIOD", ty := .u16, acc := .ro, ret := .volatile, d := .num 0 },
  { sub := 0x06, name := "SB_LAST_TEST_TB3", ty := .time96, acc := .ro, ret := .volatile, d := .num 0 },
  { sub := 0x07, name := "HT_STANDSTILL_SI", ty := .u8, acc := .ro, ret := .volatile, d := .num 0 },
  { sub := 0x08, name := "HT_SETTLE", ty := .u16, acc := .ro, ret := .volatile, d := .num 0 },
  { sub := 0x09, name := "HT_DURATION", ty := .u16, acc := .ro, ret := .volatile, d := .num 0 },
  { sub := 0x0A, name := "HT_INTERVAL", ty := .u16, acc := .ro, ret := .volatile, d := .num 0 },
  { sub := 0x0B, name := "HT_START", ty := .bool, acc := .wo, ret := .volatile, d := .num 0, level := .operator },
  { sub := 0x0C, name := "HT_STATE", ty := .u8, acc := .ro, ret := .volatile, d := .num 0 },
  { sub := 0x0D, name := "HT_RESULT", ty := .u8, acc := .ro, ret := .volatile, d := .num 255 },
  { sub := 0x0E, name := "HT_AGE", ty := .u32, acc := .ro, ret := .retained, d := .num 0 },
  { sub := 0x0F, name := "SB_SWITCHINGS", ty := .u32, acc := .ro, ret := .retained, d := .num 0 },
  { sub := 0x10, name := "SB_FAULTS", ty := .u32, acc := .ro, ret := .volatile, d := .num 0 }]

/-- Table SAF-10, index 0x6940. -/
def rowsSaf10_6940 : List Row := [
  { sub := 0x01, name := "ESC_INVALID_A", ty := .u32, acc := .ro, ret := .volatile, d := .num 0 },
  { sub := 0x02, name := "ESC_INVALID_B", ty := .u32, acc := .ro, ret := .volatile, d := .num 0 }]

/-- Table SAF-10, index 0x6950. -/
def rowsSaf10_6950 : List Row := [
  { sub := 0x01, name := "ESC_STATE", ty := .u8, acc := .ro, ret := .volatile, d := .num 0 },
  { sub := 0x02, name := "ESC_PEER_NODE", ty := .u32, acc := .ro, ret := .volatile, d := .num 0 },
  { sub := 0x03, name := "ESC_PEER_IP", ty := .u32, acc := .ro, ret := .volatile, d := .num 0 },
  { sub := 0x04, name := "ESC_PEER_CONN", ty := .u8, acc := .ro, ret := .volatile, d := .num 0 },
  { sub := 0x05, name := "ESC_TX_LENGTH", ty := .u8, acc := .ro, ret := .volatile, d := .num 0 },
  { sub := 0x06, name := "ESC_RX_LENGTH", ty := .u8, acc := .ro, ret := .volatile, d := .num 0 },
  { sub := 0x07, name := "ESC_PERIOD", ty := .u8, acc := .ro, ret := .volatile, d := .num 0 },
  { sub := 0x08, name := "ESC_TIMEOUT", ty := .u16, acc := .ro, ret := .volatile, d := .num 0 },
  { sub := 0x09, name := "ESC_DEGRADED_TIME", ty := .u16, acc := .ro, ret := .volatile, d := .num 0 },
  { sub := 0x0A, name := "ESC_SIGNATURE", ty := .u32, acc := .ro, ret := .volatile, d := .num 0 },
  { sub := 0x0B, name := "ESC_DEGRADED_LEFT", ty := .u16, acc := .ro, ret := .volatile, d := .num 0 },
  { sub := 0x0C, name := "ESC_RTT_MAX", ty := .u32, acc := .ro, ret := .volatile, d := .num 0 },
  { sub := 0x0D, name := "ESC_ACCEPTED", ty := .u32, acc := .ro, ret := .volatile, d := .num 0 },
  { sub := 0x0E, name := "ESC_DEGRADED_ACCEPTS", ty := .u32, acc := .ro, ret := .volatile, d := .num 0 },
  { sub := 0x0F, name := "ESC_TIMEOUTS", ty := .u32, acc := .ro, ret := .volatile, d := .num 0 },
  { sub := 0x10, name := "ESC_MISMATCHES", ty := .u32, acc := .ro, ret := .volatile, d := .num 0 }]

/-- Table SAF-11, index 0x6960. -/
def rowsSaf11_6960 : List Row := [
  { sub := 0x01, name := "SAFETY_STATE", ty := .u8, acc := .ro, ret := .volatile, d := .num 0 },
  { sub := 0x02, name := "SAFETY_CAUSE", ty := .u8, acc := .ro, ret := .volatile, d := .num 0 },
  { sub := 0x03, name := "SAFETY_PAIRS", ty := .u8, acc := .ro, ret := .volatile, d := .num 0 },
  { sub := 0x04, name := "SAFETY_CYCLE", ty := .u32, acc := .ro, ret := .volatile, d := .num 0 },
  { sub := 0x05, name := "SAFETY_EXEC_MAX", ty := .u32, acc := .ro, ret := .volatile, d := .num 0 },
  { sub := 0x06, name := "SAFETY_RESET", ty := .bool, acc := .wo, ret := .volatile, d := .num 0, level := .operator },
  { sub := 0x07, name := "SAFE_WATCHDOG", ty := .u16, acc := .ro, ret := .volatile, d := .num 0 },
  { sub := 0x08, name := "TP_WIDTH", ty := .u16, acc := .ro, ret := .volatile, d := .num 0 },
  { sub := 0x09, name := "TP_PERIOD", ty := .u16, acc := .ro, ret := .volatile, d := .num 0 },
  { sub := 0x0A, name := "SPS_CRC", ty := .u32, acc := .ro, ret := .volatile, d := .num 0 },
  { sub := 0x0B, name := "SPS_ARCHIVE_CRC", ty := .u32, acc := .ro, ret := .volatile, d := .num 0 },
  { sub := 0x0C, name := "SAFETY_STOPS", ty := .u32, acc := .ro, ret := .retained, d := .num 0 }]

/-- Table SAF-11, index 0x6961. -/
def rowsSaf11_6961 : List Row := [
  { sub := 0x01, name := "SPS_OFFSET", ty := .u32, acc := .rw, ret := .volatile, d := .num 0, level := .service, range := .u 0 262143 1 },
  { sub := 0x02, name := "SPS_DATA", ty := .octets, acc := .wo, ret := .volatile, d := .bytes [], level := .service, range := .len 1 65535 },
  { sub := 0x03, name := "SPS_LENGTH", ty := .u32, acc := .ro, ret := .volatile, d := .num 0 },
  { sub := 0x04, name := "SPS_COMMIT", ty := .u32, acc := .wo, ret := .volatile, d := .num 0, level := .service, cond := 1 },
  { sub := 0x05, name := "SPS_RESULT", ty := .u8, acc := .ro, ret := .volatile, d := .num 255 }]

/-- Table TWN-10, index 0x7400. -/
def rowsTwn10_7400 : List Row := [
  { sub := 0x01, name := "TWIN_POSITION", ty := .u8, acc := .ro, ret := .volatile, d := .num 0 },
  { sub := 0x02, name := "TWIN_ROLE", ty := .u8, acc := .ro, ret := .volatile, d := .num 2 },
  { sub := 0x03, name := "READINESS", ty := .u8, acc := .ro, ret := .volatile, d := .num 1 },
  { sub := 0x04, name := "NOT_READY_CAUSE", ty := .u8, acc := .ro, ret := .volatile, d := .num 0 },
  { sub := 0x05, name := "PARTNER_ROLE", ty := .u8, acc := .ro, ret := .volatile, d := .num 255 },
  { sub := 0x06, name := "TWIN_STATUS", ty := .u16, acc := .ro, ret := .volatile, d := .num 0 },
  { sub := 0x07, name := "LINK_STATE", ty := .u8, acc := .ro, ret := .volatile, d := .num 2 },
  { sub := 0x08, name := "LANE_ERRORS", ty := .octets, acc := .ro, ret := .volatile, d := .bytes [] },
  { sub := 0x09, name := "GEN_SENT", ty := .u32, acc := .ro, ret := .volatile, d := .num 0 },
  { sub := 0x0A, name := "GEN_COMMITTED", ty := .u32, acc := .ro, ret := .volatile, d := .num 0 },
  { sub := 0x0B, name := "CKPT_LAG", ty := .u32, acc := .ro, ret := .volatile, d := .num 0 },
  { sub := 0x0C, name := "DELTA_LAST", ty := .u32, acc := .ro, ret := .volatile, d := .num 0 },
  { sub := 0x0D, name := "DELTA_MAX", ty := .u32, acc := .ro, ret := .volatile, d := .num 0 },
  { sub := 0x0E, name := "RESYNCS", ty := .u32, acc := .ro, ret := .volatile, d := .num 0 },
  { sub := 0x0F, name := "AUDIT_INTERVAL", ty := .u16, acc := .rw, ret := .retained, d := .num 10, level := .engineer, range := .u 1 1440 1 },
  { sub := 0x10, name := "AUDIT_MISMATCHES", ty := .u32, acc := .ro, ret := .retained, d := .num 0 },
  { sub := 0x11, name := "TOKEN_WATCHDOG", ty := .u16, acc := .rw, ret := .retained, d := .num 5, level := .engineer, range := .u 2 50 1 },
  { sub := 0x12, name := "TOKEN_PATH_FAULTS", ty := .u32, acc := .ro, ret := .volatile, d := .num 0 },
  { sub := 0x13, name := "RESET_STATS", ty := .bool, acc := .wo, ret := .volatile, d := .num 0, level := .engineer }]

/-- Table TWN-11, index 0x7401. -/
def rowsTwn11_7401 : List Row := [
  { sub := 0x01, name := "AUTO_REJOIN", ty := .bool, acc := .rw, ret := .retained, d := .num 1, level := .engineer },
  { sub := 0x02, name := "REJOIN", ty := .bool, acc := .wo, ret := .volatile, d := .num 0, level := .engineer },
  { sub := 0x03, name := "CASTLE_NONCE", ty := .u32, acc := .ro, ret := .volatile, d := .num 0 },
  { sub := 0x04, name := "CASTLE_REQUEST", ty := .u32, acc := .wo, ret := .volatile, d := .num 0, level := .engineer },
  { sub := 0x05, name := "CASTLE_RESULT", ty := .u8, acc := .ro, ret := .volatile, d := .num 255 },
  { sub := 0x06, name := "CASTLINGS", ty := .u32, acc := .ro, ret := .retained, d := .num 0 },
  { sub := 0x07, name := "LAST_CASTLING_CAUSE", ty := .u8, acc := .ro, ret := .retained, d := .num 0 },
  { sub := 0x08, name := "LAST_GAP", ty := .u32, acc := .ro, ret := .retained, d := .num 0 },
  { sub := 0x09, name := "LAST_COMPLETE", ty := .u32, acc := .ro, ret := .retained, d := .num 0 },
  { sub := 0x0A, name := "GAP_BOUND_COMPLETE_BOUND", ty := .octets, acc := .ro, ret := .volatile, d := .bytes [] },
  { sub := 0x0B, name := "PROOF_TEST", ty := .u32, acc := .wo, ret := .volatile, d := .num 0, level := .engineer },
  { sub := 0x0C, name := "PROOF_RESULT", ty := .u8, acc := .ro, ret := .retained, d := .num 255 },
  { sub := 0x0D, name := "PROOF_INTERVAL", ty := .u16, acc := .rw, ret := .retained, d := .num 2160, level := .engineer, range := .u 168 8760 1 },
  { sub := 0x0E, name := "PROOF_AGE", ty := .u32, acc := .ro, ret := .retained, d := .num 0 }]

/-- Table LDG-6, index 0x7000. -/
def rowsLdg6_7000 : List Row := [
  { sub := 0x01, name := "BOOK_SIZE", ty := .u32, acc := .rw, ret := .retained, d := .num 65536, level := .service, range := .u 4096 262144 1 },
  { sub := 0x02, name := "BOOK_STATE", ty := .u8, acc := .ro, ret := .volatile, d := .num 0 },
  { sub := 0x03, name := "BOOK_OPEN", ty := .u32, acc := .wo, ret := .volatile, d := .num 0, level := .service },
  { sub := 0x04, name := "BOOK_FIRST_SEQ", ty := .u64, acc := .ro, ret := .volatile, d := .num 0 },
  { sub := 0x05, name := "BOOK_COUNT", ty := .u32, acc := .ro, ret := .volatile, d := .num 0 },
  { sub := 0x06, name := "RING_FIRST_SEQ", ty := .u64, acc := .ro, ret := .volatile, d := .num 0 },
  { sub := 0x07, name := "LAST_SEQ", ty := .u64, acc := .ro, ret := .volatile, d := .num 0 },
  { sub := 0x08, name := "CLEAR_SEQ", ty := .u64, acc := .ro, ret := .volatile, d := .num 0 },
  { sub := 0x09, name := "RING_SEGMENTS", ty := .u16, acc := .ro, ret := .volatile, d := .num 767 },
  { sub := 0x0A, name := "BUFFER_FILL", ty := .u32, acc := .ro, ret := .volatile, d := .num 0 },
  { sub := 0x0B, name := "BUFFER_FILL_MAX", ty := .u32, acc := .ro, ret := .volatile, d := .num 0 },
  { sub := 0x0C, name := "RECORDS_LOST", ty := .u32, acc := .ro, ret := .retained, d := .num 0 },
  { sub := 0x0D, name := "RECORD_RATE", ty := .u16, acc := .ro, ret := .volatile, d := .num 0 },
  { sub := 0x0E, name := "SEGMENTS_RETIRED", ty := .u16, acc := .ro, ret := .retained, d := .num 0 },
  { sub := 0x0F, name := "LEDGER_NONCE", ty := .u32, acc := .ro, ret := .volatile, d := .num 0 },
  { sub := 0x10, name := "BAD_SEGMENT", ty := .u16, acc := .ro, ret := .volatile, d := .num 65535 }]

/-- Table LDG-6, index 0x7001. -/
def rowsLdg6_7001 : List Row := [
  { sub := 0x01, name := "READ_CURSOR", ty := .u64, acc := .rw, ret := .volatile, d := .num 1, level := .viewer },
  { sub := 0x02, name := "READ_BLOCK", ty := .octets, acc := .ro, ret := .volatile, d := .bytes [] },
  { sub := 0x03, name := "READ_CLEARED", ty := .bool, acc := .rw, ret := .volatile, d := .num 0, level := .service },
  { sub := 0x04, name := "READ_SKIPPED", ty := .u64, acc := .ro, ret := .volatile, d := .num 0 }]

/-- Table LDG-6, index 0x7002. -/
def rowsLdg6_7002 : List Row := [
  { sub := 0x01, name := "CLEAR_CHALLENGE", ty := .octets, acc := .ro, ret := .volatile, d := .bytes [] },
  { sub := 0x02, name := "CLEAR_RING", ty := .octets, acc := .wo, ret := .volatile, d := .bytes [], level := .service, range := .len 32 32 },
  { sub := 0x03, name := "CLEAR_RESULT", ty := .u8, acc := .ro, ret := .volatile, d := .num 255 },
  { sub := 0x04, name := "CLEARS", ty := .u32, acc := .ro, ret := .retained, d := .num 0 }]

/-- Table SLT-7, index 0x7800. -/
def rowsSlt7_7800 : List Row := [
  { sub := 0x01, name := "PANEL_TYPE", ty := .u8, acc := .rw, ret := .retained, d := .num 0, level := .engineer, cond := 1, range := .u 0 2 1 },
  { sub := 0x02, name := "H_ACTIVE", ty := .u16, acc := .rw, ret := .retained, d := .num 800, level := .engineer, cond := 1, range := .u 64 800 1 },
  { sub := 0x03, name := "V_ACTIVE", ty := .u16, acc := .rw, ret := .retained, d := .num 480, level := .engineer, cond := 1, range := .u 64 480 1 },
  { sub := 0x04, name := "PCLK_DIV", ty := .u8, acc := .rw, ret := .retained, d := .num 2, level := .engineer, cond := 1, range := .u 2 16 1 },
  { sub := 0x05, name := "H_TOTAL", ty := .u16, acc := .rw, ret := .retained, d := .num 880, level := .engineer, cond := 1, range := .u 80 2048 1 },
  { sub := 0x06, name := "V_TOTAL", ty := .u16, acc := .rw, ret := .retained, d := .num 500, level := .engineer, cond := 1, range := .u 68 1024 1 },
  { sub := 0x07, name := "POWER_MODE", ty := .u8, acc := .rw, ret := .retained, d := .num 0, level := .engineer, range := .u 0 1 1 },
  { sub := 0x08, name := "PANEL_ENABLE", ty := .bool, acc := .rw, ret := .retained, d := .num 1, level := .engineer },
  { sub := 0x09, name := "PANEL_STATE", ty := .u8, acc := .ro, ret := .volatile, d := .num 0 },
  { sub := 0x0A, name := "BACKLIGHT", ty := .u8, acc := .rw, ret := .retained, d := .num 80, level := .engineer, range := .u 0 100 1 },
  { sub := 0x0B, name := "SLATE_MODE", ty := .u8, acc := .rw, ret := .volatile, d := .num 0, level := .operator, range := .u 0 1 1 },
  { sub := 0x0C, name := "STRIP_Y", ty := .u16, acc := .rw, ret := .retained, d := .num 448, level := .engineer, range := .u 0 448 32 },
  { sub := 0x0D, name := "STRIP_IDLE", ty := .u32, acc := .rw, ret := .retained, d := .num 0, level := .engineer, range := .orEq 0 10 86400 },
  { sub := 0x0E, name := "STRIP_BACKLIGHT", ty := .u8, acc := .rw, ret := .retained, d := .num 20, level := .engineer, range := .u 0 100 1 },
  { sub := 0x0F, name := "SLATE_DRAW", ty := .octets, acc := .wo, ret := .volatile, d := .bytes [], level := .operator, range := .len 32 65535 },
  { sub := 0x10, name := "UPDATES_RUNNING", ty := .u8, acc := .ro, ret := .volatile, d := .num 0 },
  { sub := 0x11, name := "UPDATES_PENDING", ty := .u8, acc := .ro, ret := .volatile, d := .num 0 },
  { sub := 0x12, name := "LAST_DONE_ID", ty := .u32, acc := .ro, ret := .volatile, d := .num 0 },
  { sub := 0x13, name := "LAST_RESULT", ty := .u8, acc := .ro, ret := .volatile, d := .num 255 },
  { sub := 0x14, name := "REPLACED_COUNT", ty := .u32, acc := .ro, ret := .volatile, d := .num 0 },
  { sub := 0x15, name := "CRC_ERRORS", ty := .u32, acc := .ro, ret := .volatile, d := .num 0 },
  { sub := 0x16, name := "DIRTY_REGIONS", ty := .u8, acc := .ro, ret := .volatile, d := .num 0 },
  { sub := 0x17, name := "RESET_STATS", ty := .bool, acc := .wo, ret := .volatile, d := .num 0, level := .engineer }]

/-- Table SLT-7, index 0x7801. -/
def rowsSlt7_7801 : List Row := [
  { sub := 0x01, name := "PANEL_TEMP", ty := .f32, acc := .ro, ret := .volatile, d := .num 0 },
  { sub := 0x02, name := "TEMP_SOURCE", ty := .u8, acc := .ro, ret := .volatile, d := .num 1 },
  { sub := 0x03, name := "TEMP_BAND", ty := .u8, acc := .ro, ret := .volatile, d := .num 0 },
  { sub := 0x04, name := "VCOM_POINTS", ty := .octets, acc := .rw, ret := .retained, d := .bytes [51, 51, 131, 64, 154, 153, 121, 64, 205, 204, 108, 64, 51, 51, 99, 64, 205, 204, 92, 64], level := .engineer, range := .len 20 20 },
  { sub := 0x05, name := "VCOM_NOW", ty := .f32, acc := .ro, ret := .volatile, d := .num 0 },
  { sub := 0x06, name := "DRIVE_V", ty := .octets, acc := .rw, ret := .retained, d := .bytes [0, 0, 112, 65, 0, 0, 112, 65, 0, 0, 112, 65, 0, 0, 104, 65, 0, 0, 96, 65, 0, 0, 88, 65, 0, 0, 80, 65, 0, 0, 72, 65], level := .engineer, range := .len 32 32 },
  { sub := 0x07, name := "PHASE_TIME", ty := .octets, acc := .rw, ret := .retained, d := .bytes [40, 0, 30, 0, 25, 0, 20, 0, 20, 0, 20, 0, 20, 0, 20, 0], level := .engineer, range := .len 16 16 },
  { sub := 0x08, name := "WAVEFORM_SET", ty := .octets, acc := .rw, ret := .retained, d := .bytes [], level := .engineer, cond := 1, fac := true },
  { sub := 0x09, name := "WAVEFORM_ID", ty := .u32, acc := .ro, ret := .volatile, d := .num 0 }]

/-- Table SLT-7, index 0x7802. -/
def rowsSlt7_7802 : List Row := [
  { sub := 0x01, name := "KEY_STATE", ty := .u8, acc := .ro, ret := .volatile, d := .num 0 },
  { sub := 0x02, name := "KEY_PRESSES", ty := .octets, acc := .ro, ret := .volatile, d := .bytes [] },
  { sub := 0x03, name := "KEY_LAST_TB3", ty := .time96, acc := .ro, ret := .volatile, d := .num 0 },
  { sub := 0x04, name := "SERVICE_MODE", ty := .bool, acc := .ro, ret := .volatile, d := .num 0 }]

/-- Table PWR-14, index 0x1200. -/
def rowsPwr14_1200 : List Row := [
  { sub := 0x01, name := "SUP_VOLTAGE", ty := .f32, acc := .ro, ret := .volatile, d := .num 0 },
  { sub := 0x02, name := "SUP_CURRENT", ty := .f32, acc := .ro, ret := .volatile, d := .num 0 },
  { sub := 0x03, name := "ELECTRONICS_POWER", ty := .f32, acc := .ro, ret := .volatile, d := .num 0 },
  { sub := 0x04, name := "SUP_STATE", ty := .u8, acc := .ro, ret := .volatile, d := .num 0 },
  { sub := 0x05, name := "SUP_MIN", ty := .f32, acc := .ro, ret := .volatile, d := .num 0 },
  { sub := 0x06, name := "SUP_MAX", ty := .f32, acc := .ro, ret := .volatile, d := .num 0 },
  { sub := 0x07, name := "HOLDUP_ENERGY", ty := .f32, acc := .ro, ret := .volatile, d := .num 0 },
  { sub := 0x08, name := "HOLDUP_STATE", ty := .u8, acc := .ro, ret := .volatile, d := .num 0 },
  { sub := 0x09, name := "POWER_FAILS", ty := .u32, acc := .ro, ret := .retained, d := .num 0 },
  { sub := 0x0A, name := "PF_CKPT_ENABLE", ty := .bool, acc := .rw, ret := .retained, d := .num 0, level := .engineer },
  { sub := 0x0B, name := "PF_CKPT_SIZE", ty := .u32, acc := .ro, ret := .volatile, d := .num 0 },
  { sub := 0x0C, name := "PF_CKPT_STATE", ty := .u8, acc := .ro, ret := .volatile, d := .num 0 },
  { sub := 0x0D, name := "RAIL_STATE", ty := .u8, acc := .ro, ret := .volatile, d := .num 0 }]

/-- Table PWR-14, index 0x1201. -/
def rowsPwr14_1201 : List Row := [
  { sub := 0x01, name := "CLOCK_STATE", ty := .u8, acc := .ro, ret := .volatile, d := .num 0 },
  { sub := 0x02, name := "CLOCK_FAULTS", ty := .u32, acc := .ro, ret := .retained, d := .num 0 },
  { sub := 0x03, name := "CROSSING_BOUNDS", ty := .octets, acc := .const, ret := .factory, d := .bytes [0, 0, 40, 65, 0, 0, 104, 65, 0, 0, 240, 64, 0, 0, 88, 65, 0, 0, 132, 65, 0, 0, 132, 65] }]

/-- Table PWR-14, index 0x1202. -/
def rowsPwr14_1202 : List Row := [
  { sub := 0x01, name := "MOUNT_TEMP", ty := .f32, acc := .ro, ret := .volatile, d := .num 0 },
  { sub := 0x02, name := "ASIC_TEMP", ty := .f32, acc := .ro, ret := .volatile, d := .num 0 },
  { sub := 0x03, name := "MOUNT_TEMP_MAX", ty := .f32, acc := .ro, ret := .retained, d := .num 0 },
  { sub := 0x04, name := "THERMAL_STATE", ty := .u8, acc := .ro, ret := .volatile, d := .num 0 },
  { sub := 0x05, name := "OPERATING_HOURS", ty := .u32, acc := .ro, ret := .retained, d := .num 0 }]

/-- Table PWR-15, index 0x1301. -/
def rowsPwr15_1301 : List Row := [
  { sub := 0x01, name := "RESTART_KIND", ty := .u8, acc := .ro, ret := .volatile, d := .num 0 },
  { sub := 0x02, name := "START_COUNT", ty := .u32, acc := .ro, ret := .retained, d := .num 0 },
  { sub := 0x03, name := "RESUME_TB3", ty := .time96, acc := .ro, ret := .volatile, d := .num 0 },
  { sub := 0x04, name := "START_STEP", ty := .u8, acc := .ro, ret := .volatile, d := .num 0 }]

/-- Table PWR-15, index 0x1302. -/
def rowsPwr15_1302 : List Row := [
  { sub := 0x01, name := "FW_ACTIVE_SLOT", ty := .u8, acc := .ro, ret := .retained, d := .num 0 },
  { sub := 0x02, name := "FW_SLOT_RELEASE", ty := .octets, acc := .ro, ret := .volatile, d := .bytes [] },
  { sub := 0x03, name := "FW_SLOT_STATE", ty := .octets, acc := .ro, ret := .volatile, d := .bytes [] },
  { sub := 0x04, name := "FW_STAGE_OFFSET", ty := .u32, acc := .rw, ret := .volatile, d := .num 0, level := .service, range := .u 0 268435455 1 },
  { sub := 0x05, name := "FW_STAGE_DATA", ty := .octets, acc := .wo, ret := .volatile, d := .bytes [], level := .service, range := .len 1 65535 },
  { sub := 0x06, name := "FW_STAGE_CHECK", ty := .bool, acc := .wo, ret := .volatile, d := .num 0, level := .service },
  { sub := 0x07, name := "FW_STAGE_RESULT", ty := .u8, acc := .ro, ret := .volatile, d := .num 255 },
  { sub := 0x08, name := "FW_ACTIVATE", ty := .u32, acc := .wo, ret := .volatile, d := .num 0, level := .service, cond := 1 },
  { sub := 0x09, name := "FW_NONCE", ty := .u32, acc := .ro, ret := .volatile, d := .num 0 },
  { sub := 0x0A, name := "SECURITY_VERSION", ty := .u16, acc := .ro, ret := .volatile, d := .num 0 },
  { sub := 0x0B, name := "FW_FALLBACKS", ty := .u32, acc := .ro, ret := .retained, d := .num 0 }]

/-- Every table of entries with the indices it stands at (Table DIC-1 and the chapters' tables). -/
def tables : List Table := [
  { segs := [(0x1B00, 48)], rows := rowsArc7_1B00 },
  { segs := [(0x1000, 1)], rows := rowsDic3_1000 },
  { segs := [(0x1300, 1)], rows := rowsDic4_1300 },
  { segs := [(0x1100, 1)], rows := rowsDic15_1100 },
  { segs := [(0x1101, 1)], rows := rowsDic15_1101 },
  { segs := [(0x1102, 1)], rows := rowsDic15_1102 },
  { segs := [(0x6100, 1)], rows := rowsRun8_6100 },
  { segs := [(0x6110, 240)], rows := rowsRun8_6110 },
  { segs := [(0x6200, 1)], rows := rowsRun10_6200 },
  { segs := [(0x6000, 32)], rows := rowsRun13_6000 },
  { segs := [(0x6020, 1)], rows := rowsRun14_6020 },
  { segs := [(0x6800, 1)], rows := rowsDbl4_6800 },
  { segs := [(0x6810, 4)], rows := rowsDbl4_6810 },
  { segs := [(0x5000, 1)], rows := rowsFrm13_5000 },
  { segs := [(0x5100, 256)], rows := rowsFrm14_5100 },
  { segs := [(0x5200, 256)], rows := rowsFrx10_5200 },
  { segs := [(0x5300, 64)], rows := rowsFrx11_5300 },
  { segs := [(0x4000, 512)], rows := rowsTly11_4000 },
  { segs := [(0x4200, 1)], rows := rowsTly13_4200 },
  { segs := [(0x4280, 128)], rows := rowsTly13_4280 },
  { segs := [(0x1800, 1)], rows := rowsTim9_1800 },
  { segs := [(0x1813, 1)], rows := rowsTim9_1813 },
  { segs := [(0x1810, 3)], rows := rowsTim10_1810 },
  { segs := [(0x1820, 3)], rows := rowsTim11_1820 },
  { segs := [(0x1830, 4)], rows := rowsTim12_1830 },
  { segs := [(0x1840, 1)], rows := rowsTim13_1840 },
  { segs := [(0x1900, 1)], rows := rowsNet12_1900 },
  { segs := [(0x1920, 1)], rows := rowsNet12_1920 },
  { segs := [(0x1921, 1)], rows := rowsNet12_1921 },
  { segs := [(0x1930, 1)], rows := rowsNet12_1930 },
  { segs := [(0x1940, 1)], rows := rowsNet12_1940 },
  { segs := [(0x1960, 1)], rows := rowsNet12_1960 },
  { segs := [(0x1910, 4)], rows := rowsNet13_1910 },
  { segs := [(0x1950, 16)], rows := rowsNet14_1950 },
  { segs := [(0x1A00, 1)], rows := rowsNet15_1A00 },
  { segs := [(0x1A40, 64)], rows := rowsNet16_1A40 },
  { segs := [(0x3000, 1), (0x3040, 1), (0x3080, 1), (0x30C0, 1)], rows := rowsCan7_3000 },
  { segs := [(0x3001, 1), (0x3041, 1), (0x3081, 1), (0x30C1, 1)], rows := rowsCan8_3001 },
  { segs := [(0x3002, 1), (0x3042, 1), (0x3082, 1), (0x30C2, 1)], rows := rowsCan8_3002 },
  { segs := [(0x3010, 16), (0x3050, 16), (0x3090, 16), (0x30D0, 16)], rows := rowsCan9_3010 },
  { segs := [(0x3020, 32), (0x3060, 32), (0x30A0, 32), (0x30E0, 32)], rows := rowsCan10_3020 },
  { segs := [(0x2000, 24)], rows := rowsDio8_2000 },
  { segs := [(0x2018, 40)], rows := rowsDio8_2018 },
  { segs := [(0x2040, 64)], rows := rowsDio9_2040 },
  { segs := [(0x2080, 8)], rows := rowsDio11_2080 },
  { segs := [(0x2090, 1)], rows := rowsDio11_2090 },
  { segs := [(0x2100, 32)], rows := rowsAna7_2100 },
  { segs := [(0x2120, 16)], rows := rowsAna8_2120 },
  { segs := [(0x2130, 1)], rows := rowsAna9_2130 },
  { segs := [(0x2200, 12)], rows := rowsMov7_2200 },
  { segs := [(0x2210, 1)], rows := rowsMov8_2210 },
  { segs := [(0x6900, 16)], rows := rowsSaf8_6900 },
  { segs := [(0x6910, 4)], rows := rowsSaf8_6910 },
  { segs := [(0x6920, 8)], rows := rowsSaf9_6920 },
  { segs := [(0x6940, 1)], rows := rowsSaf10_6940 },
  { segs := [(0x6950, 16)], rows := rowsSaf10_6950 },
  { segs := [(0x6960, 1)], rows := rowsSaf11_6960 },
  { segs := [(0x6961, 1)], rows := rowsSaf11_6961 },
  { segs := [(0x7400, 1)], rows := rowsTwn10_7400 },
  { segs := [(0x7401, 1)], rows := rowsTwn11_7401 },
  { segs := [(0x7000, 1)], rows := rowsLdg6_7000 },
  { segs := [(0x7001, 1)], rows := rowsLdg6_7001 },
  { segs := [(0x7002, 1)], rows := rowsLdg6_7002 },
  { segs := [(0x7800, 1)], rows := rowsSlt7_7800 },
  { segs := [(0x7801, 1)], rows := rowsSlt7_7801 },
  { segs := [(0x7802, 1)], rows := rowsSlt7_7802 },
  { segs := [(0x1200, 1)], rows := rowsPwr14_1200 },
  { segs := [(0x1201, 1)], rows := rowsPwr14_1201 },
  { segs := [(0x1202, 1)], rows := rowsPwr14_1202 },
  { segs := [(0x1301, 1)], rows := rowsPwr15_1301 },
  { segs := [(0x1302, 1)], rows := rowsPwr15_1302 }]

end Sys2Proof.Machine

namespace Sys2Proof.Machine.E.Ring

/-- `RING_ENTRY_SIZE` of Table ARC-7. -/
def RING_ENTRY_SIZE (k : Nat) : Ent := entN ((0x1B00 + k) * 256 + 0x01) .u16 (([16, 16, 16, 16, 16, 16, 16, 16, 16, 16, 16, 16, 16, 16, 16, 16, 80, 80, 80, 80, 80, 80, 80, 80, 64, 64, 32, 16, 16, 16, 16, 32, 32, 16, 16, 16, 16, 16, 16, 16, 16, 16, 32, 16, 32, 32, 64, 64] : List Nat).getD k 0)
/-- `RING_DEPTH` of Table ARC-7. -/
def RING_DEPTH (k : Nat) : Ent := entN ((0x1B00 + k) * 256 + 0x02) .u16 (([512, 512, 512, 512, 512, 512, 512, 512, 512, 512, 512, 512, 512, 512, 512, 512, 32, 64, 32, 64, 32, 64, 32, 64, 256, 256, 512, 1024, 4096, 512, 512, 64, 64, 64, 64, 64, 64, 64, 64, 128, 128, 1024, 256, 256, 64, 1024, 64, 64] : List Nat).getD k 0)
/-- `RING_POLICY` of Table ARC-7. -/
def RING_POLICY (k : Nat) : Ent := entN ((0x1B00 + k) * 256 + 0x03) .u8 (([0, 0, 1, 1, 0, 0, 1, 1, 0, 0, 1, 1, 0, 0, 1, 1, 0, 1, 0, 1, 0, 1, 0, 1, 0, 0, 3, 1, 1, 0, 3, 0, 3, 0, 0, 1, 1, 0, 2, 0, 3, 1, 0, 1, 0, 1, 0, 0] : List Nat).getD k 0)
/-- `RING_FILL` of Table ARC-7. -/
def RING_FILL (k : Nat) : Ent := entN ((0x1B00 + k) * 256 + 0x04) .u16 0
/-- `RING_HWM` of Table ARC-7. -/
def RING_HWM (k : Nat) : Ent := entN ((0x1B00 + k) * 256 + 0x05) .u16 0
/-- `RING_OVERFLOWS` of Table ARC-7. -/
def RING_OVERFLOWS (k : Nat) : Ent := entN ((0x1B00 + k) * 256 + 0x06) .u32 0
/-- `RING_REFUSALS` of Table ARC-7. -/
def RING_REFUSALS (k : Nat) : Ent := entN ((0x1B00 + k) * 256 + 0x07) .u32 0
/-- `RING_STALL_TIME` of Table ARC-7. -/
def RING_STALL_TIME (k : Nat) : Ent := entN ((0x1B00 + k) * 256 + 0x08) .u32 0
/-- `RING_RESET_HWM` of Table ARC-7. -/
def RING_RESET_HWM (k : Nat) : Ent := entN ((0x1B00 + k) * 256 + 0x09) .bool 0

end Sys2Proof.Machine.E.Ring

namespace Sys2Proof.Machine.E.Id

/-- `PART_NUMBER` of Table DIC-3. -/
def PART_NUMBER : Ent := entB (0x100001) .str [75, 86, 80, 45, 57, 54, 52, 48]
/-- `HW_ISSUE` of Table DIC-3. -/
def HW_ISSUE : Ent := entF (0x100002) .u8
/-- `FW_RELEASE` of Table DIC-3. -/
def FW_RELEASE : Ent := entN (0x100003) .u16 0
/-- `SERIAL_NUMBER` of Table DIC-3. -/
def SERIAL_NUMBER : Ent := entF (0x100004) .str
/-- `NODE_ID` of Table DIC-3. -/
def NODE_ID : Ent := entN (0x100005) .u32 0
/-- `NODE_ID_ACTIVE` of Table DIC-3. -/
def NODE_ID_ACTIVE : Ent := entN (0x100006) .u32 0
/-- `MODULE_STATE` of Table DIC-3. -/
def MODULE_STATE : Ent := entN (0x100007) .u8 0
/-- `RESTART_CAUSE` of Table DIC-3. -/
def RESTART_CAUSE : Ent := entN (0x100008) .u8 0
/-- `RESTART_REQUEST` of Table DIC-3. -/
def RESTART_REQUEST : Ent := entN (0x100009) .u8 0
/-- `OD_ENTRY_COUNT` of Table DIC-3. -/
def OD_ENTRY_COUNT : Ent := entN (0x10000A) .u16 0

end Sys2Proof.Machine.E.Id

namespace Sys2Proof.Machine.E.Restore

/-- `RESTORE_STATE` of Table DIC-4. -/
def RESTORE_STATE : Ent := entN (0x130001) .u8 0
/-- `INVALID_BLOCKS` of Table DIC-4. -/
def INVALID_BLOCKS : Ent := entN (0x130002) .u16 0
/-- `RESTORE_FACTORY` of Table DIC-4. -/
def RESTORE_FACTORY : Ent := entN (0x130003) .u32 0
/-- `RESTORE_NONCE` of Table DIC-4. -/
def RESTORE_NONCE : Ent := entN (0x130004) .u32 0
/-- `RETAINED_WRITES` of Table DIC-4. -/
def RETAINED_WRITES : Ent := entN (0x130005) .u32 0

end Sys2Proof.Machine.E.Restore

namespace Sys2Proof.Machine.E.Auth

/-- `KEY_VIEWER` of Table DIC-15. -/
def KEY_VIEWER : Ent := entB (0x110001) .octets (List.replicate 32 0)
/-- `KEY_OPERATOR` of Table DIC-15. -/
def KEY_OPERATOR : Ent := entB (0x110002) .octets []
/-- `KEY_ENGINEER` of Table DIC-15. -/
def KEY_ENGINEER : Ent := entB (0x110003) .octets []
/-- `KEY_SERVICE` of Table DIC-15. -/
def KEY_SERVICE : Ent := entF (0x110004) .octets
/-- `KEYS_SET` of Table DIC-15. -/
def KEYS_SET : Ent := entN (0x110005) .u8 9
/-- `SESSION_IDLE_TIMEOUT` of Table DIC-15. -/
def SESSION_IDLE_TIMEOUT : Ent := entN (0x110101) .u32 60000
/-- `SESSIONS_OPEN` of Table DIC-15. -/
def SESSIONS_OPEN : Ent := entN (0x110102) .u8 0
/-- `PORT_LEVEL` of Table DIC-15. -/
def PORT_LEVEL : Ent := entN (0x110103) .u8 0
/-- `LOGIN_FAILURES` of Table DIC-15. -/
def LOGIN_FAILURES : Ent := entN (0x110201) .u32 0
/-- `TAG_FAILURES` of Table DIC-15. -/
def TAG_FAILURES : Ent := entN (0x110202) .u32 0
/-- `DROPPED_FRAMES` of Table DIC-15. -/
def DROPPED_FRAMES : Ent := entN (0x110203) .u32 0
/-- `REPEATS_ANSWERED` of Table DIC-15. -/
def REPEATS_ANSWERED : Ent := entN (0x110204) .u32 0

end Sys2Proof.Machine.E.Auth

namespace Sys2Proof.Machine.E.Force

/-- `FORCES_ACTIVE_COUNT` of Table RUN-8. -/
def FORCES_ACTIVE_COUNT : Ent := entN (0x610001) .u8 0
/-- `FORCES_ORPHANED_COUNT` of Table RUN-8. -/
def FORCES_ORPHANED_COUNT : Ent := entN (0x610002) .u8 0
/-- `FORCE_CLEAR_ALL` of Table RUN-8. -/
def FORCE_CLEAR_ALL : Ent := entN (0x610003) .bool 0
/-- `FORCE_POINT` of Table RUN-8. -/
def FORCE_POINT (k : Nat) : Ent := entN ((0x6110 + k) * 256 + 0x01) .u32 0
/-- `FORCE_VALUE` of Table RUN-8. -/
def FORCE_VALUE (k : Nat) : Ent := entN ((0x6110 + k) * 256 + 0x02) .f64 0
/-- `FORCE_ACTIVE` of Table RUN-8. -/
def FORCE_ACTIVE (k : Nat) : Ent := entN ((0x6110 + k) * 256 + 0x03) .bool 0
/-- `FORCE_STATE` of Table RUN-8. -/
def FORCE_STATE (k : Nat) : Ent := entN ((0x6110 + k) * 256 + 0x04) .u8 0
/-- `FORCE_WRITTEN` of Table RUN-8. -/
def FORCE_WRITTEN (k : Nat) : Ent := entN ((0x6110 + k) * 256 + 0x05) .f64 0
/-- `FORCE_SET_BY` of Table RUN-8. -/
def FORCE_SET_BY (k : Nat) : Ent := entN ((0x6110 + k) * 256 + 0x06) .u32 0

end Sys2Proof.Machine.E.Force

namespace Sys2Proof.Machine.E.Online

/-- `STAGE_OFFSET` of Table RUN-10. -/
def STAGE_OFFSET : Ent := entN (0x620001) .u32 0
/-- `STAGE_DATA` of Table RUN-10. -/
def STAGE_DATA : Ent := entB (0x620002) .octets []
/-- `STAGE_LENGTH` of Table RUN-10. -/
def STAGE_LENGTH : Ent := entN (0x620003) .u32 0
/-- `STAGE_CHECK` of Table RUN-10. -/
def STAGE_CHECK : Ent := entN (0x620004) .bool 0
/-- `STAGE_RESULT` of Table RUN-10. -/
def STAGE_RESULT : Ent := entN (0x620005) .u8 255
/-- `STAGE_APPLY` of Table RUN-10. -/
def STAGE_APPLY : Ent := entN (0x620006) .u32 0
/-- `APPLY_NONCE` of Table RUN-10. -/
def APPLY_NONCE : Ent := entN (0x620007) .u32 0
/-- `ONLINE_WINDOW` of Table RUN-10. -/
def ONLINE_WINDOW : Ent := entN (0x620008) .u32 1000
/-- `CHANGEOVER_TB3` of Table RUN-10. -/
def CHANGEOVER_TB3 : Ent := entN (0x620009) .time96 0
/-- `ARCHIVE_ID` of Table RUN-10. -/
def ARCHIVE_ID : Ent := entN (0x62000A) .u32 0
/-- `REVERT` of Table RUN-10. -/
def REVERT : Ent := entN (0x62000B) .u32 0

end Sys2Proof.Machine.E.Online

namespace Sys2Proof.Machine.E.Task

/-- `TASK_PAIR` of Table RUN-13. -/
def TASK_PAIR (k : Nat) : Ent := entN ((0x6000 + k) * 256 + 0x01) .u8 0
/-- `TASK_PERIOD` of Table RUN-13. -/
def TASK_PERIOD (k : Nat) : Ent := entN ((0x6000 + k) * 256 + 0x02) .u32 0
/-- `TASK_PHASE` of Table RUN-13. -/
def TASK_PHASE (k : Nat) : Ent := entN ((0x6000 + k) * 256 + 0x03) .u32 0
/-- `TASK_PRIORITY` of Table RUN-13. -/
def TASK_PRIORITY (k : Nat) : Ent := entN ((0x6000 + k) * 256 + 0x04) .u8 0
/-- `TASK_STATE` of Table RUN-13. -/
def TASK_STATE (k : Nat) : Ent := entN ((0x6000 + k) * 256 + 0x05) .u8 0
/-- `TURNS` of Table RUN-13. -/
def TURNS (k : Nat) : Ent := entN ((0x6000 + k) * 256 + 0x06) .u64 0
/-- `OVERRUNS` of Table RUN-13. -/
def OVERRUNS (k : Nat) : Ent := entN ((0x6000 + k) * 256 + 0x07) .u32 0
/-- `SKIPPED` of Table RUN-13. -/
def SKIPPED (k : Nat) : Ent := entN ((0x6000 + k) * 256 + 0x08) .u32 0
/-- `EXEC_LAST` of Table RUN-13. -/
def EXEC_LAST (k : Nat) : Ent := entN ((0x6000 + k) * 256 + 0x09) .u32 0
/-- `EXEC_MAX` of Table RUN-13. -/
def EXEC_MAX (k : Nat) : Ent := entN ((0x6000 + k) * 256 + 0x0A) .u32 0
/-- `START_LATENCY_MAX` of Table RUN-13. -/
def START_LATENCY_MAX (k : Nat) : Ent := entN ((0x6000 + k) * 256 + 0x0B) .u32 0
/-- `MAX_SKIP` of Table RUN-13. -/
def MAX_SKIP (k : Nat) : Ent := entA ((0x6000 + k) * 256 + 0x0C) .u8
/-- `LAST_RELEASE` of Table RUN-13. -/
def LAST_RELEASE (k : Nat) : Ent := entN ((0x6000 + k) * 256 + 0x0D) .time96 0
/-- `LAST_COMMIT` of Table RUN-13. -/
def LAST_COMMIT (k : Nat) : Ent := entN ((0x6000 + k) * 256 + 0x0E) .time96 0
/-- `ABANDONED` of Table RUN-13. -/
def ABANDONED (k : Nat) : Ent := entN ((0x6000 + k) * 256 + 0x0F) .u32 0
/-- `ERRORS_QUEUED` of Table RUN-13. -/
def ERRORS_QUEUED (k : Nat) : Ent := entN ((0x6000 + k) * 256 + 0x10) .u8 0
/-- `ERRORS_LOST` of Table RUN-13. -/
def ERRORS_LOST (k : Nat) : Ent := entN ((0x6000 + k) * 256 + 0x11) .u32 0
/-- `RESET_STATS` of Table RUN-13. -/
def RESET_STATS (k : Nat) : Ent := entN ((0x6000 + k) * 256 + 0x12) .bool 0

end Sys2Proof.Machine.E.Task

namespace Sys2Proof.Machine.E.Run

/-- `RUNTIME_MODE` of Table RUN-14. -/
def RUNTIME_MODE : Ent := entN (0x602001) .u8 1
/-- `RUNTIME_COMMAND` of Table RUN-14. -/
def RUNTIME_COMMAND : Ent := entN (0x602002) .u8 0
/-- `STOP_CAUSE` of Table RUN-14. -/
def STOP_CAUSE : Ent := entN (0x602003) .u8 0
/-- `HOLD_TASK` of Table RUN-14. -/
def HOLD_TASK : Ent := entN (0x602004) .u8 255
/-- `AUTOSTART` of Table RUN-14. -/
def AUTOSTART : Ent := entN (0x602005) .bool 0
/-- `HOLD_PERMIT` of Table RUN-14. -/
def HOLD_PERMIT : Ent := entN (0x602006) .bool 0
/-- `RETAIN_RESET` of Table RUN-14. -/
def RETAIN_RESET : Ent := entN (0x602007) .bool 0
/-- `HOLD_LIMIT` of Table RUN-14. -/
def HOLD_LIMIT : Ent := entN (0x602008) .u32 60000
/-- `HOLD_SKIPPED` of Table RUN-14. -/
def HOLD_SKIPPED : Ent := entN (0x602009) .u32 0
/-- `BREAKPOINTS` of Table RUN-14. -/
def BREAKPOINTS : Ent := entB (0x60200A) .octets []
/-- `PAIR_UTILISATION` of Table RUN-14. -/
def PAIR_UTILISATION : Ent := entB (0x60200B) .octets []
/-- `STOP_PENDING` of Table RUN-14. -/
def STOP_PENDING : Ent := entN (0x60200C) .bool 0

end Sys2Proof.Machine.E.Run

namespace Sys2Proof.Machine.E.Dbl

/-- `ESCALATE_COUNT` of Table DBL-4. -/
def ESCALATE_COUNT : Ent := entN (0x680001) .u8 3
/-- `ESCALATE_WINDOW` of Table DBL-4. -/
def ESCALATE_WINDOW : Ent := entN (0x680002) .u32 10000
/-- `RESTART_LIMIT` of Table DBL-4. -/
def RESTART_LIMIT : Ent := entN (0x680003) .u32 1200
/-- `MODULE_MISMATCHES` of Table DBL-4. -/
def MODULE_MISMATCHES : Ent := entN (0x680004) .u32 0
/-- `INJECT_TEST_RUN` of Table DBL-4. -/
def INJECT_TEST_RUN : Ent := entN (0x680005) .u8 0
/-- `SERVICES_PAIR` of Table DBL-4. -/
def SERVICES_PAIR : Ent := entN (0x680006) .u8 0
/-- `PAIR_STATE` of Table DBL-4. -/
def PAIR_STATE (k : Nat) : Ent := entN ((0x6810 + k) * 256 + 0x01) .u8 0
/-- `INJECT_RESULT` of Table DBL-4. -/
def INJECT_RESULT (k : Nat) : Ent := entN ((0x6810 + k) * 256 + 0x02) .u8 255
/-- `INJECT_DETAIL` of Table DBL-4. -/
def INJECT_DETAIL (k : Nat) : Ent := entN ((0x6810 + k) * 256 + 0x03) .u32 0
/-- `INJECT_COUNT` of Table DBL-4. -/
def INJECT_COUNT (k : Nat) : Ent := entN ((0x6810 + k) * 256 + 0x04) .u32 0
/-- `INJECT_LAST` of Table DBL-4. -/
def INJECT_LAST (k : Nat) : Ent := entN ((0x6810 + k) * 256 + 0x05) .time96 0
/-- `MISMATCHES` of Table DBL-4. -/
def MISMATCHES (k : Nat) : Ent := entN ((0x6810 + k) * 256 + 0x06) .u32 0
/-- `WINDOW_COUNT` of Table DBL-4. -/
def WINDOW_COUNT (k : Nat) : Ent := entN ((0x6810 + k) * 256 + 0x07) .u8 0
/-- `LAST_MISMATCH` of Table DBL-4. -/
def LAST_MISMATCH (k : Nat) : Ent := entN ((0x6810 + k) * 256 + 0x08) .time96 0
/-- `LAST_GROUPS` of Table DBL-4. -/
def LAST_GROUPS (k : Nat) : Ent := entN ((0x6810 + k) * 256 + 0x09) .u32 0
/-- `LAST_CAUSE` of Table DBL-4. -/
def LAST_CAUSE (k : Nat) : Ent := entN ((0x6810 + k) * 256 + 0x0A) .u8 0
/-- `RESTART_LAST` of Table DBL-4. -/
def RESTART_LAST (k : Nat) : Ent := entN ((0x6810 + k) * 256 + 0x0B) .u32 0
/-- `RESTART_MAX` of Table DBL-4. -/
def RESTART_MAX (k : Nat) : Ent := entN ((0x6810 + k) * 256 + 0x0C) .u32 0
/-- `ECC_CORRECTED` of Table DBL-4. -/
def ECC_CORRECTED (k : Nat) : Ent := entN ((0x6810 + k) * 256 + 0x0D) .u32 0
/-- `FAIL_CAUSE` of Table DBL-4. -/
def FAIL_CAUSE (k : Nat) : Ent := entN ((0x6810 + k) * 256 + 0x0E) .u8 0
/-- `CKPT_GENERATION` of Table DBL-4. -/
def CKPT_GENERATION (k : Nat) : Ent := entN ((0x6810 + k) * 256 + 0x0F) .u32 0
/-- `CKPT_PAGES` of Table DBL-4. -/
def CKPT_PAGES (k : Nat) : Ent := entN ((0x6810 + k) * 256 + 0x10) .u32 0
/-- `MISMATCHES_LIFETIME` of Table DBL-4. -/
def MISMATCHES_LIFETIME (k : Nat) : Ent := entN ((0x6810 + k) * 256 + 0x11) .u32 0
/-- `RESET_STATS` of Table DBL-4. -/
def RESET_STATS (k : Nat) : Ent := entN ((0x6810 + k) * 256 + 0x12) .bool 0

end Sys2Proof.Machine.E.Dbl

namespace Sys2Proof.Machine.E.Frame

/-- `FRAME_PAGES` of Table FRM-13. -/
def FRAME_PAGES : Ent := entN (0x500001) .u16 4032
/-- `FRAME_PAGES_FREE` of Table FRM-13. -/
def FRAME_PAGES_FREE : Ent := entN (0x500002) .u16 4032
/-- `BOARDS_RESIDENT` of Table FRM-13. -/
def BOARDS_RESIDENT : Ent := entN (0x500003) .u16 0
/-- `LOAD_BOARD` of Table FRM-13. -/
def LOAD_BOARD : Ent := entN (0x500004) .u8 0
/-- `LOAD_OFFSET` of Table FRM-13. -/
def LOAD_OFFSET : Ent := entN (0x500005) .u32 0
/-- `LOAD_DATA` of Table FRM-13. -/
def LOAD_DATA : Ent := entB (0x500006) .octets []
/-- `LOAD_LENGTH` of Table FRM-13. -/
def LOAD_LENGTH : Ent := entN (0x500007) .u32 0
/-- `LOAD_COMMIT` of Table FRM-13. -/
def LOAD_COMMIT : Ent := entN (0x500008) .u32 0
/-- `LOAD_NONCE` of Table FRM-13. -/
def LOAD_NONCE : Ent := entN (0x500009) .u32 0
/-- `LOAD_RESULT` of Table FRM-13. -/
def LOAD_RESULT : Ent := entN (0x50000A) .u8 255
/-- `UNLOAD_BOARD` of Table FRM-13. -/
def UNLOAD_BOARD : Ent := entN (0x50000B) .u8 0
/-- `LOAD_CLEAR` of Table FRM-13. -/
def LOAD_CLEAR : Ent := entN (0x50000C) .bool 0
/-- `PERTURBED_TOTAL` of Table FRM-13. -/
def PERTURBED_TOTAL : Ent := entN (0x50000D) .u32 0
/-- `NUMERIC_FAULTS` of Table FRM-13. -/
def NUMERIC_FAULTS : Ent := entN (0x50000E) .u32 0
/-- `REFACTORS_TOTAL` of Table FRM-13. -/
def REFACTORS_TOTAL : Ent := entN (0x50000F) .u32 0

end Sys2Proof.Machine.E.Frame

namespace Sys2Proof.Machine.E.Board

/-- `BOARD_STATE` of Table FRM-14. -/
def BOARD_STATE (k : Nat) : Ent := entN ((0x5100 + k) * 256 + 0x01) .u8 0
/-- `BOARD_SIGNATURE` of Table FRM-14. -/
def BOARD_SIGNATURE (k : Nat) : Ent := entN ((0x5100 + k) * 256 + 0x02) .u32 0
/-- `BOARD_TARGET` of Table FRM-14. -/
def BOARD_TARGET (k : Nat) : Ent := entN ((0x5100 + k) * 256 + 0x03) .u8 0
/-- `BOARD_N` of Table FRM-14. -/
def BOARD_N (k : Nat) : Ent := entN ((0x5100 + k) * 256 + 0x04) .u16 0
/-- `BOARD_M` of Table FRM-14. -/
def BOARD_M (k : Nat) : Ent := entN ((0x5100 + k) * 256 + 0x05) .u16 0
/-- `BOARD_NNZ_P` of Table FRM-14. -/
def BOARD_NNZ_P (k : Nat) : Ent := entN ((0x5100 + k) * 256 + 0x06) .u32 0
/-- `BOARD_NNZ_A` of Table FRM-14. -/
def BOARD_NNZ_A (k : Nat) : Ent := entN ((0x5100 + k) * 256 + 0x07) .u32 0
/-- `BOARD_NNZ_L` of Table FRM-14. -/
def BOARD_NNZ_L (k : Nat) : Ent := entN ((0x5100 + k) * 256 + 0x08) .u32 0
/-- `BOARD_PAGES` of Table FRM-14. -/
def BOARD_PAGES (k : Nat) : Ent := entN ((0x5100 + k) * 256 + 0x09) .u16 0
/-- `BOARD_WRITER` of Table FRM-14. -/
def BOARD_WRITER (k : Nat) : Ent := entN ((0x5100 + k) * 256 + 0x0A) .u8 255
/-- `BOARD_SOURCE` of Table FRM-14. -/
def BOARD_SOURCE (k : Nat) : Ent := entN ((0x5100 + k) * 256 + 0x0B) .u8 255
/-- `BOARD_NAME` of Table FRM-14. -/
def BOARD_NAME (k : Nat) : Ent := entB ((0x5100 + k) * 256 + 0x0C) .str []
/-- `LAST_SEQ` of Table FRM-14. -/
def LAST_SEQ (k : Nat) : Ent := entN ((0x5100 + k) * 256 + 0x0D) .u32 0
/-- `LAST_REJECT` of Table FRM-14. -/
def LAST_REJECT (k : Nat) : Ent := entN ((0x5100 + k) * 256 + 0x0E) .u8 0
/-- `BATCHES_ACCEPTED` of Table FRM-14. -/
def BATCHES_ACCEPTED (k : Nat) : Ent := entN ((0x5100 + k) * 256 + 0x0F) .u32 0
/-- `BATCHES_REJECTED` of Table FRM-14. -/
def BATCHES_REJECTED (k : Nat) : Ent := entN ((0x5100 + k) * 256 + 0x10) .u32 0
/-- `REFACTOR_PENDING` of Table FRM-14. -/
def REFACTOR_PENDING (k : Nat) : Ent := entN ((0x5100 + k) * 256 + 0x11) .bool 0
/-- `REFACTORS` of Table FRM-14. -/
def REFACTORS (k : Nat) : Ent := entN ((0x5100 + k) * 256 + 0x12) .u32 0
/-- `SETTINGS` of Table FRM-14. -/
def SETTINGS (k : Nat) : Ent := entB ((0x5100 + k) * 256 + 0x13) .octets []
/-- `MOVE_BATCH` of Table FRM-14. -/
def MOVE_BATCH (k : Nat) : Ent := entB ((0x5100 + k) * 256 + 0x14) .octets []
/-- `RHO_CURRENT` of Table FRM-14. -/
def RHO_CURRENT (k : Nat) : Ent := entN ((0x5100 + k) * 256 + 0x15) .f32 0
/-- `POSITION` of Table FRM-14. -/
def POSITION (k : Nat) : Ent := entB ((0x5100 + k) * 256 + 0x16) .octets []

end Sys2Proof.Machine.E.Board

namespace Sys2Proof.Machine.E.Solve

/-- `SOLVE_REQUEST` of Table FRX-10. -/
def SOLVE_REQUEST (k : Nat) : Ent := entN ((0x5200 + k) * 256 + 0x01) .u32 0
/-- `SOLVE_ABORT` of Table FRX-10. -/
def SOLVE_ABORT (k : Nat) : Ent := entN ((0x5200 + k) * 256 + 0x02) .u32 0
/-- `LAST_ISSUED_ID` of Table FRX-10. -/
def LAST_ISSUED_ID (k : Nat) : Ent := entN ((0x5200 + k) * 256 + 0x03) .u32 0
/-- `LAST_SOLVE_ID` of Table FRX-10. -/
def LAST_SOLVE_ID (k : Nat) : Ent := entN ((0x5200 + k) * 256 + 0x04) .u32 0
/-- `LAST_STATUS` of Table FRX-10. -/
def LAST_STATUS (k : Nat) : Ent := entN ((0x5200 + k) * 256 + 0x05) .u8 19
/-- `LAST_FLAGS` of Table FRX-10. -/
def LAST_FLAGS (k : Nat) : Ent := entN ((0x5200 + k) * 256 + 0x06) .u8 0
/-- `LAST_OUTCOME_TB3` of Table FRX-10. -/
def LAST_OUTCOME_TB3 (k : Nat) : Ent := entN ((0x5200 + k) * 256 + 0x07) .time96 0
/-- `HOME` of Table FRX-10. -/
def HOME (k : Nat) : Ent := entN ((0x5200 + k) * 256 + 0x08) .u8 255
/-- `HOME_ACTIVE` of Table FRX-10. -/
def HOME_ACTIVE (k : Nat) : Ent := entN ((0x5200 + k) * 256 + 0x09) .u8 255
/-- `FACTOR_WORK` of Table FRX-10. -/
def FACTOR_WORK (k : Nat) : Ent := entN ((0x5200 + k) * 256 + 0x0A) .u32 0
/-- `WCET_BOUND` of Table FRX-10. -/
def WCET_BOUND (k : Nat) : Ent := entN ((0x5200 + k) * 256 + 0x0B) .u32 0
/-- `REQUESTS` of Table FRX-10. -/
def REQUESTS (k : Nat) : Ent := entN ((0x5200 + k) * 256 + 0x0C) .u32 0
/-- `SOLVED_COUNT` of Table FRX-10. -/
def SOLVED_COUNT (k : Nat) : Ent := entN ((0x5200 + k) * 256 + 0x0D) .u32 0
/-- `CAP_COUNT` of Table FRX-10. -/
def CAP_COUNT (k : Nat) : Ent := entN ((0x5200 + k) * 256 + 0x0E) .u32 0
/-- `INFEASIBLE_COUNT` of Table FRX-10. -/
def INFEASIBLE_COUNT (k : Nat) : Ent := entN ((0x5200 + k) * 256 + 0x0F) .u32 0
/-- `DEADLINE_MISSES` of Table FRX-10. -/
def DEADLINE_MISSES (k : Nat) : Ent := entN ((0x5200 + k) * 256 + 0x10) .u32 0
/-- `ABORTS` of Table FRX-10. -/
def ABORTS (k : Nat) : Ent := entN ((0x5200 + k) * 256 + 0x11) .u32 0
/-- `SUPERSEDED` of Table FRX-10. -/
def SUPERSEDED (k : Nat) : Ent := entN ((0x5200 + k) * 256 + 0x12) .u32 0
/-- `NUMERIC_COUNT` of Table FRX-10. -/
def NUMERIC_COUNT (k : Nat) : Ent := entN ((0x5200 + k) * 256 + 0x13) .u32 0
/-- `INVALID_COUNT` of Table FRX-10. -/
def INVALID_COUNT (k : Nat) : Ent := entN ((0x5200 + k) * 256 + 0x14) .u32 0
/-- `WAIT_MAX` of Table FRX-10. -/
def WAIT_MAX (k : Nat) : Ent := entN ((0x5200 + k) * 256 + 0x15) .u32 0
/-- `EXEC_LAST` of Table FRX-10. -/
def EXEC_LAST (k : Nat) : Ent := entN ((0x5200 + k) * 256 + 0x16) .u32 0
/-- `EXEC_MAX` of Table FRX-10. -/
def EXEC_MAX (k : Nat) : Ent := entN ((0x5200 + k) * 256 + 0x17) .u32 0
/-- `SLACK_MIN` of Table FRX-10. -/
def SLACK_MIN (k : Nat) : Ent := entN ((0x5200 + k) * 256 + 0x18) .i32 2147483647
/-- `QUEUE_STALLS` of Table FRX-10. -/
def QUEUE_STALLS (k : Nat) : Ent := entN ((0x5200 + k) * 256 + 0x19) .u32 0
/-- `RESET_STATS` of Table FRX-10. -/
def RESET_STATS (k : Nat) : Ent := entN ((0x5200 + k) * 256 + 0x1A) .bool 0

end Sys2Proof.Machine.E.Solve

namespace Sys2Proof.Machine.E.Bead

/-- `BEAD_ROD` of Table FRX-11. -/
def BEAD_ROD (k : Nat) : Ent := entN ((0x5300 + k) * 256 + 0x01) .u8 (([0, 0, 0, 0, 0, 0, 0, 0, 1, 1, 1, 1, 1, 1, 1, 1, 2, 2, 2, 2, 2, 2, 2, 2, 3, 3, 3, 3, 3, 3, 3, 3, 4, 4, 4, 4, 4, 4, 4, 4, 5, 5, 5, 5, 5, 5, 5, 5, 6, 6, 6, 6, 6, 6, 6, 6, 7, 7, 7, 7, 7, 7, 7, 7] : List Nat).getD k 0)
/-- `BEAD_STATE` of Table FRX-11. -/
def BEAD_STATE (k : Nat) : Ent := entN ((0x5300 + k) * 256 + 0x02) .u8 0
/-- `BEAD_BOARD` of Table FRX-11. -/
def BEAD_BOARD (k : Nat) : Ent := entN ((0x5300 + k) * 256 + 0x03) .u16 65535
/-- `BEAD_HOMED` of Table FRX-11. -/
def BEAD_HOMED (k : Nat) : Ent := entN ((0x5300 + k) * 256 + 0x04) .u16 0
/-- `ROD_HOMED` of Table FRX-11. -/
def ROD_HOMED (k : Nat) : Ent := entN ((0x5300 + k) * 256 + 0x05) .u16 0
/-- `BEAD_SOLVES` of Table FRX-11. -/
def BEAD_SOLVES (k : Nat) : Ent := entN ((0x5300 + k) * 256 + 0x06) .u32 0
/-- `BEAD_BUSY` of Table FRX-11. -/
def BEAD_BUSY (k : Nat) : Ent := entN ((0x5300 + k) * 256 + 0x07) .u16 0
/-- `BEAD_BUSY_MAX` of Table FRX-11. -/
def BEAD_BUSY_MAX (k : Nat) : Ent := entN ((0x5300 + k) * 256 + 0x08) .u16 0
/-- `ECC_CORRECTED` of Table FRX-11. -/
def ECC_CORRECTED (k : Nat) : Ent := entN ((0x5300 + k) * 256 + 0x09) .u32 0
/-- `ECC_FATAL` of Table FRX-11. -/
def ECC_FATAL (k : Nat) : Ent := entN ((0x5300 + k) * 256 + 0x0A) .u8 0
/-- `RESET_STATS` of Table FRX-11. -/
def RESET_STATS (k : Nat) : Ent := entN ((0x5300 + k) * 256 + 0x0B) .bool 0

end Sys2Proof.Machine.E.Bead

namespace Sys2Proof.Machine.E.Loop

/-- `LOOP_STATE` of Table TLY-11. -/
def LOOP_STATE (k : Nat) : Ent := entN ((0x4000 + k) * 256 + 0x01) .u8 0
/-- `LOOP_PIPELINE` of Table TLY-11. -/
def LOOP_PIPELINE (k : Nat) : Ent := entN ((0x4000 + k) * 256 + 0x02) .u8 0
/-- `LOOP_ORDER` of Table TLY-11. -/
def LOOP_ORDER (k : Nat) : Ent := entN ((0x4000 + k) * 256 + 0x03) .u16 0
/-- `LOOP_PERIOD` of Table TLY-11. -/
def LOOP_PERIOD (k : Nat) : Ent := entN ((0x4000 + k) * 256 + 0x04) .u32 0
/-- `LOOP_PHASE` of Table TLY-11. -/
def LOOP_PHASE (k : Nat) : Ent := entN ((0x4000 + k) * 256 + 0x05) .u32 0
/-- `LOOP_SLOTS` of Table TLY-11. -/
def LOOP_SLOTS (k : Nat) : Ent := entN ((0x4000 + k) * 256 + 0x06) .u8 0
/-- `LOOP_MODE` of Table TLY-11. -/
def LOOP_MODE (k : Nat) : Ent := entA ((0x4000 + k) * 256 + 0x07) .u8
/-- `MODE_ACTIVE` of Table TLY-11. -/
def MODE_ACTIVE (k : Nat) : Ent := entN ((0x4000 + k) * 256 + 0x08) .u8 0
/-- `SP_LOCAL` of Table TLY-11. -/
def SP_LOCAL (k : Nat) : Ent := entA ((0x4000 + k) * 256 + 0x09) .f32
/-- `SP_LO` of Table TLY-11. -/
def SP_LO (k : Nat) : Ent := entA ((0x4000 + k) * 256 + 0x0A) .f32
/-- `SP_HI` of Table TLY-11. -/
def SP_HI (k : Nat) : Ent := entA ((0x4000 + k) * 256 + 0x0B) .f32
/-- `SP_ACTIVE` of Table TLY-11. -/
def SP_ACTIVE (k : Nat) : Ent := entN ((0x4000 + k) * 256 + 0x0C) .f32 0
/-- `SP_TRACK` of Table TLY-11. -/
def SP_TRACK (k : Nat) : Ent := entN ((0x4000 + k) * 256 + 0x0D) .bool 1
/-- `OUT_MAN` of Table TLY-11. -/
def OUT_MAN (k : Nat) : Ent := entA ((0x4000 + k) * 256 + 0x0E) .f32
/-- `PV` of Table TLY-11. -/
def PV (k : Nat) : Ent := entN ((0x4000 + k) * 256 + 0x0F) .f32 0
/-- `OUT0` of Table TLY-11. -/
def OUT0 (k : Nat) : Ent := entN ((0x4000 + k) * 256 + 0x10) .f32 0
/-- `OUT1` of Table TLY-11. -/
def OUT1 (k : Nat) : Ent := entN ((0x4000 + k) * 256 + 0x11) .f32 0
/-- `MAN_POINT_VALUE` of Table TLY-11. -/
def MAN_POINT_VALUE (k : Nat) : Ent := entN ((0x4000 + k) * 256 + 0x12) .f32 0
/-- `LOOP_STATUS` of Table TLY-11. -/
def LOOP_STATUS (k : Nat) : Ent := entN ((0x4000 + k) * 256 + 0x13) .u32 0
/-- `BANK_ACTIVE` of Table TLY-11. -/
def BANK_ACTIVE (k : Nat) : Ent := entN ((0x4000 + k) * 256 + 0x14) .u8 0
/-- `BANK_SELECT` of Table TLY-11. -/
def BANK_SELECT (k : Nat) : Ent := entN ((0x4000 + k) * 256 + 0x15) .u8 0
/-- `PRESET_ON_SWAP` of Table TLY-11. -/
def PRESET_ON_SWAP (k : Nat) : Ent := entN ((0x4000 + k) * 256 + 0x16) .bool 1
/-- `FAULT_SWAP` of Table TLY-11. -/
def FAULT_SWAP (k : Nat) : Ent := entN ((0x4000 + k) * 256 + 0x17) .bool 0
/-- `RETURN_SAMPLES` of Table TLY-11. -/
def RETURN_SAMPLES (k : Nat) : Ent := entN ((0x4000 + k) * 256 + 0x18) .u8 0
/-- `PV_LOSS_TIME` of Table TLY-11. -/
def PV_LOSS_TIME (k : Nat) : Ent := entN ((0x4000 + k) * 256 + 0x19) .u32 200
/-- `PV_ACTION` of Table TLY-11. -/
def PV_ACTION (k : Nat) : Ent := entN ((0x4000 + k) * 256 + 0x1A) .u8 0
/-- `ALT_FALLBACK` of Table TLY-11. -/
def ALT_FALLBACK (k : Nat) : Ent := entN ((0x4000 + k) * 256 + 0x1B) .u8 0
/-- `SAFE_VALUE` of Table TLY-11. -/
def SAFE_VALUE (k : Nat) : Ent := entA ((0x4000 + k) * 256 + 0x1C) .f32
/-- `PV_RETURN_TIME` of Table TLY-11. -/
def PV_RETURN_TIME (k : Nat) : Ent := entN ((0x4000 + k) * 256 + 0x1D) .u32 1000
/-- `FREEZE_TIME` of Table TLY-11. -/
def FREEZE_TIME (k : Nat) : Ent := entN ((0x4000 + k) * 256 + 0x1E) .u32 0
/-- `FREEZE_BAND` of Table TLY-11. -/
def FREEZE_BAND (k : Nat) : Ent := entN ((0x4000 + k) * 256 + 0x1F) .f32 0
/-- `FREEZE_OUT_BAND` of Table TLY-11. -/
def FREEZE_OUT_BAND (k : Nat) : Ent := entN ((0x4000 + k) * 256 + 0x20) .f32 0
/-- `FORCE_RESPONSE` of Table TLY-11. -/
def FORCE_RESPONSE (k : Nat) : Ent := entA ((0x4000 + k) * 256 + 0x21) .u8
/-- `LATE_COUNT` of Table TLY-11. -/
def LATE_COUNT (k : Nat) : Ent := entN ((0x4000 + k) * 256 + 0x22) .u32 0
/-- `LATE_CONSEC` of Table TLY-11. -/
def LATE_CONSEC (k : Nat) : Ent := entN ((0x4000 + k) * 256 + 0x23) .u16 0
/-- `SAMPLES` of Table TLY-11. -/
def SAMPLES (k : Nat) : Ent := entN ((0x4000 + k) * 256 + 0x24) .u64 0
/-- `LAST_SAMPLE_TB3` of Table TLY-11. -/
def LAST_SAMPLE_TB3 (k : Nat) : Ent := entN ((0x4000 + k) * 256 + 0x25) .time96 0
/-- `PV_LOST_COUNT` of Table TLY-11. -/
def PV_LOST_COUNT (k : Nat) : Ent := entN ((0x4000 + k) * 256 + 0x26) .u32 0
/-- `PV_FROZEN_COUNT` of Table TLY-11. -/
def PV_FROZEN_COUNT (k : Nat) : Ent := entN ((0x4000 + k) * 256 + 0x27) .u32 0
/-- `SOLVER_FAULT_COUNT` of Table TLY-11. -/
def SOLVER_FAULT_COUNT (k : Nat) : Ent := entN ((0x4000 + k) * 256 + 0x28) .u32 0
/-- `SWAPS` of Table TLY-11. -/
def SWAPS (k : Nat) : Ent := entN ((0x4000 + k) * 256 + 0x29) .u32 0
/-- `SWAP_CLAMPS` of Table TLY-11. -/
def SWAP_CLAMPS (k : Nat) : Ent := entN ((0x4000 + k) * 256 + 0x2A) .u32 0
/-- `STAGE_OVF_COUNT` of Table TLY-11. -/
def STAGE_OVF_COUNT (k : Nat) : Ent := entN ((0x4000 + k) * 256 + 0x2B) .u32 0
/-- `BAD_INPUT_COUNT` of Table TLY-11. -/
def BAD_INPUT_COUNT (k : Nat) : Ent := entN ((0x4000 + k) * 256 + 0x2C) .u32 0
/-- `STAGE_OUT` of Table TLY-11. -/
def STAGE_OUT (k : Nat) : Ent := entB ((0x4000 + k) * 256 + 0x2D) .octets []
/-- `PROGRAM` of Table TLY-11. -/
def PROGRAM (k : Nat) : Ent := entB ((0x4000 + k) * 256 + 0x2E) .octets []
/-- `LOOP_NAME` of Table TLY-11. -/
def LOOP_NAME (k : Nat) : Ent := entB ((0x4000 + k) * 256 + 0x2F) .str []
/-- `RESET_STATS` of Table TLY-11. -/
def RESET_STATS (k : Nat) : Ent := entN ((0x4000 + k) * 256 + 0x30) .bool 0

end Sys2Proof.Machine.E.Loop

namespace Sys2Proof.Machine.E.Tally

/-- `FRAME_PERIOD` of Table TLY-13. -/
def FRAME_PERIOD : Ent := entN (0x420001) .u32 50
/-- `PIPE_SLOTS` of Table TLY-13. -/
def PIPE_SLOTS : Ent := entN (0x420002) .u16 1250
/-- `ADMIT_SLOTS` of Table TLY-13. -/
def ADMIT_SLOTS : Ent := entN (0x420003) .u16 1200
/-- `PIPE_PEAK` of Table TLY-13. -/
def PIPE_PEAK : Ent := entB (0x420004) .octets []
/-- `PIPE_USED_MAX` of Table TLY-13. -/
def PIPE_USED_MAX : Ent := entB (0x420005) .octets []
/-- `LOOPS_DEFINED` of Table TLY-13. -/
def LOOPS_DEFINED : Ent := entN (0x420006) .u16 0
/-- `LATE_TOTAL` of Table TLY-13. -/
def LATE_TOTAL : Ent := entN (0x420007) .u32 0
/-- `OVERLOAD_FRAMES` of Table TLY-13. -/
def OVERLOAD_FRAMES : Ent := entN (0x420008) .u32 0
/-- `FIELD_MISS_FRAMES` of Table TLY-13. -/
def FIELD_MISS_FRAMES : Ent := entN (0x420009) .u32 0
/-- `TASK_WORD_WRITERS` of Table TLY-13. -/
def TASK_WORD_WRITERS : Ent := entB (0x42000A) .octets []
/-- `RESET_STATS` of Table TLY-13. -/
def RESET_STATS : Ent := entN (0x42000B) .bool 0
/-- `POINTS` of Table TLY-13. -/
def POINTS (k : Nat) : Ent := entA ((0x4280 + k) * 256 + 0x01) .u8
/-- `X_i` of Table TLY-13. -/
def X (t i : Nat) : Ent := entA ((0x4280 + t) * 256 + 0x02 + 2 * i) .f32
/-- `Y_i` of Table TLY-13. -/
def Y (t i : Nat) : Ent := entA ((0x4280 + t) * 256 + 0x03 + 2 * i) .f32
/-- `TABLE_VALID` of Table TLY-13. -/
def TABLE_VALID (k : Nat) : Ent := entN ((0x4280 + k) * 256 + 0x22) .bool 0

end Sys2Proof.Machine.E.Tally

namespace Sys2Proof.Machine.E.Time

/-- `TB_SNAPSHOT` of Table TIM-9. -/
def TB_SNAPSHOT : Ent := entB (0x180001) .octets []
/-- `CONVERT_HISTORY` of Table TIM-9. -/
def CONVERT_HISTORY : Ent := entN (0x180002) .u16 16
/-- `TB3_NOW` of Table TIM-9. -/
def TB3_NOW : Ent := entN (0x181301) .time96 0
/-- `PARTNER_OFFSET` of Table TIM-9. -/
def PARTNER_OFFSET : Ent := entN (0x181302) .f64 0
/-- `PARTNER_OFFSET_STATE` of Table TIM-9. -/
def PARTNER_OFFSET_STATE : Ent := entN (0x181303) .u8 0

end Sys2Proof.Machine.E.Time

namespace Sys2Proof.Machine.E.Base

/-- `TB_NOW` of Table TIM-10. -/
def TB_NOW (k : Nat) : Ent := entN ((0x1810 + k) * 256 + 0x01) .time96 0
/-- `SYNC_STATE` of Table TIM-10. -/
def SYNC_STATE (k : Nat) : Ent := entN ((0x1810 + k) * 256 + 0x02) .u8 2
/-- `SERVO_STATE` of Table TIM-10. -/
def SERVO_STATE (k : Nat) : Ent := entN ((0x1810 + k) * 256 + 0x03) .u8 0
/-- `FREQ_ADJ` of Table TIM-10. -/
def FREQ_ADJ (k : Nat) : Ent := entN ((0x1810 + k) * 256 + 0x04) .i32 0
/-- `STEP` of Table TIM-10. -/
def STEP (k : Nat) : Ent := entN ((0x1810 + k) * 256 + 0x05) .u64 0
/-- `SET` of Table TIM-10. -/
def SET (k : Nat) : Ent := entN ((0x1810 + k) * 256 + 0x06) .time96 0
/-- `OFFSET_LAST` of Table TIM-10. -/
def OFFSET_LAST (k : Nat) : Ent := entN ((0x1810 + k) * 256 + 0x07) .f32 0
/-- `OFFSET_MAX` of Table TIM-10. -/
def OFFSET_MAX (k : Nat) : Ent := entN ((0x1810 + k) * 256 + 0x08) .f32 0
/-- `STEP_POLICY` of Table TIM-10. -/
def STEP_POLICY (k : Nat) : Ent := entN ((0x1810 + k) * 256 + 0x09) .u8 1
/-- `STEP_THRESHOLD` of Table TIM-10. -/
def STEP_THRESHOLD (k : Nat) : Ent := entN ((0x1810 + k) * 256 + 0x0A) .u32 1000
/-- `SLEW_MAX` of Table TIM-10. -/
def SLEW_MAX (k : Nat) : Ent := entN ((0x1810 + k) * 256 + 0x0B) .u32 100
/-- `LOCK_THRESHOLD` of Table TIM-10. -/
def LOCK_THRESHOLD (k : Nat) : Ent := entN ((0x1810 + k) * 256 + 0x0C) .u32 100
/-- `SERVO_TC` of Table TIM-10. -/
def SERVO_TC (k : Nat) : Ent := entN ((0x1810 + k) * 256 + 0x0D) .u8 8
/-- `STEPS` of Table TIM-10. -/
def STEPS (k : Nat) : Ent := entN ((0x1810 + k) * 256 + 0x0E) .u32 0
/-- `LAST_STEP` of Table TIM-10. -/
def LAST_STEP (k : Nat) : Ent := entN ((0x1810 + k) * 256 + 0x0F) .u64 0
/-- `LOCK_LOSSES` of Table TIM-10. -/
def LOCK_LOSSES (k : Nat) : Ent := entN ((0x1810 + k) * 256 + 0x10) .u32 0
/-- `HOLDOVER_TIME` of Table TIM-10. -/
def HOLDOVER_TIME (k : Nat) : Ent := entN ((0x1810 + k) * 256 + 0x11) .u32 0
/-- `UTC_OFFSET` of Table TIM-10. -/
def UTC_OFFSET (k : Nat) : Ent := entN ((0x1810 + k) * 256 + 0x12) .i16 0
/-- `LEAP` of Table TIM-10. -/
def LEAP (k : Nat) : Ent := entN ((0x1810 + k) * 256 + 0x13) .u8 0
/-- `RESET_STATS` of Table TIM-10. -/
def RESET_STATS (k : Nat) : Ent := entN ((0x1810 + k) * 256 + 0x14) .bool 0

end Sys2Proof.Machine.E.Base

namespace Sys2Proof.Machine.E.Ptp

/-- `PTP_ROLE` of Table TIM-11. -/
def PTP_ROLE (k : Nat) : Ent := entN ((0x1820 + k) * 256 + 0x01) .u8 (([1, 2, 0] : List Nat).getD k 0)
/-- `PTP_DOMAIN` of Table TIM-11. -/
def PTP_DOMAIN (k : Nat) : Ent := entN ((0x1820 + k) * 256 + 0x02) .u8 (([0, 1, 2] : List Nat).getD k 0)
/-- `TRANSPORT` of Table TIM-11. -/
def TRANSPORT (k : Nat) : Ent := entN ((0x1820 + k) * 256 + 0x03) .u8 0
/-- `DELAY_MECH` of Table TIM-11. -/
def DELAY_MECH (k : Nat) : Ent := entN ((0x1820 + k) * 256 + 0x04) .u8 (([0, 1, 1] : List Nat).getD k 0)
/-- `PRIORITY1` of Table TIM-11. -/
def PRIORITY1 (k : Nat) : Ent := entN ((0x1820 + k) * 256 + 0x05) .u8 128
/-- `PRIORITY2` of Table TIM-11. -/
def PRIORITY2 (k : Nat) : Ent := entN ((0x1820 + k) * 256 + 0x06) .u8 128
/-- `CLOCK_CLASS` of Table TIM-11. -/
def CLOCK_CLASS (k : Nat) : Ent := entN ((0x1820 + k) * 256 + 0x07) .u8 248
/-- `LOG_SYNC` of Table TIM-11. -/
def LOG_SYNC (k : Nat) : Ent := entN ((0x1820 + k) * 256 + 0x08) .i16 (([65533, 65532, 65533] : List Nat).getD k 0)
/-- `LOG_ANNOUNCE` of Table TIM-11. -/
def LOG_ANNOUNCE (k : Nat) : Ent := entN ((0x1820 + k) * 256 + 0x09) .i16 1
/-- `ANNOUNCE_TIMEOUT` of Table TIM-11. -/
def ANNOUNCE_TIMEOUT (k : Nat) : Ent := entN ((0x1820 + k) * 256 + 0x0A) .u8 3
/-- `LOG_DELAY_REQ` of Table TIM-11. -/
def LOG_DELAY_REQ (k : Nat) : Ent := entN ((0x1820 + k) * 256 + 0x0B) .i16 0
/-- `PRIMARY_PATH` of Table TIM-11. -/
def PRIMARY_PATH (k : Nat) : Ent := entN ((0x1820 + k) * 256 + 0x0C) .u8 0
/-- `PATH_ACTIVE` of Table TIM-11. -/
def PATH_ACTIVE (k : Nat) : Ent := entN ((0x1820 + k) * 256 + 0x0D) .u8 0
/-- `MASTER_ID` of Table TIM-11. -/
def MASTER_ID (k : Nat) : Ent := entB ((0x1820 + k) * 256 + 0x0E) .octets []
/-- `GM_ID` of Table TIM-11. -/
def GM_ID (k : Nat) : Ent := entB ((0x1820 + k) * 256 + 0x0F) .octets []
/-- `STEPS_REMOVED` of Table TIM-11. -/
def STEPS_REMOVED (k : Nat) : Ent := entN ((0x1820 + k) * 256 + 0x10) .u16 0
/-- `MEAN_PATH_DELAY` of Table TIM-11. -/
def MEAN_PATH_DELAY (k : Nat) : Ent := entN ((0x1820 + k) * 256 + 0x11) .f32 0
/-- `PATH_DIFF` of Table TIM-11. -/
def PATH_DIFF (k : Nat) : Ent := entN ((0x1820 + k) * 256 + 0x12) .f32 0
/-- `PORT_STATE` of Table TIM-11. -/
def PORT_STATE (k : Nat) : Ent := entN ((0x1820 + k) * 256 + 0x13) .u8 1
/-- `SYNCS_RECEIVED` of Table TIM-11. -/
def SYNCS_RECEIVED (k : Nat) : Ent := entN ((0x1820 + k) * 256 + 0x14) .u32 0
/-- `DISCARDED` of Table TIM-11. -/
def DISCARDED (k : Nat) : Ent := entN ((0x1820 + k) * 256 + 0x15) .u32 0

end Sys2Proof.Machine.E.Ptp

namespace Sys2Proof.Machine.E.Stamp

/-- `TX_LAT_1000` of Table TIM-12. -/
def TX_LAT_1000 (k : Nat) : Ent := entF ((0x1830 + k) * 256 + 0x01) .f32
/-- `RX_LAT_1000` of Table TIM-12. -/
def RX_LAT_1000 (k : Nat) : Ent := entF ((0x1830 + k) * 256 + 0x02) .f32
/-- `TX_LAT_100` of Table TIM-12. -/
def TX_LAT_100 (k : Nat) : Ent := entF ((0x1830 + k) * 256 + 0x03) .f32
/-- `RX_LAT_100` of Table TIM-12. -/
def RX_LAT_100 (k : Nat) : Ent := entF ((0x1830 + k) * 256 + 0x04) .f32
/-- `CAL_VALID` of Table TIM-12. -/
def CAL_VALID (k : Nat) : Ent := entN ((0x1830 + k) * 256 + 0x05) .bool 1
/-- `STAMP_UNCERTAINTY` of Table TIM-12. -/
def STAMP_UNCERTAINTY (k : Nat) : Ent := entN ((0x1830 + k) * 256 + 0x06) .f32 0
/-- `ASYMMETRY` of Table TIM-12. -/
def ASYMMETRY (k : Nat) : Ent := entN ((0x1830 + k) * 256 + 0x07) .f32 0
/-- `PEER_DELAY` of Table TIM-12. -/
def PEER_DELAY (k : Nat) : Ent := entN ((0x1830 + k) * 256 + 0x08) .f32 0
/-- `PEER_DELAY_STATE` of Table TIM-12. -/
def PEER_DELAY_STATE (k : Nat) : Ent := entN ((0x1830 + k) * 256 + 0x09) .u8 0
/-- `EVENTS_STAMPED` of Table TIM-12. -/
def EVENTS_STAMPED (k : Nat) : Ent := entN ((0x1830 + k) * 256 + 0x0A) .u32 0

end Sys2Proof.Machine.E.Stamp

namespace Sys2Proof.Machine.E.Tc

/-- `TC_MODE` of Table TIM-13. -/
def TC_MODE : Ent := entN (0x184001) .u8 2
/-- `TC_FRAMES` of Table TIM-13. -/
def TC_FRAMES : Ent := entN (0x184002) .u32 0
/-- `RESIDENCE_LAST` of Table TIM-13. -/
def RESIDENCE_LAST : Ent := entN (0x184003) .f32 0
/-- `RESIDENCE_MIN` of Table TIM-13. -/
def RESIDENCE_MIN : Ent := entN (0x184004) .f32 0
/-- `RESIDENCE_MAX` of Table TIM-13. -/
def RESIDENCE_MAX : Ent := entN (0x184005) .f32 0
/-- `TC_STORED` of Table TIM-13. -/
def TC_STORED : Ent := entN (0x184006) .u32 0
/-- `TC_FCS_INVALIDATED` of Table TIM-13. -/
def TC_FCS_INVALIDATED : Ent := entN (0x184007) .u32 0
/-- `RESET_STATS` of Table TIM-13. -/
def RESET_STATS : Ent := entN (0x184008) .bool 0

end Sys2Proof.Machine.E.Tc

namespace Sys2Proof.Machine.E.Net

/-- `PLANT_MAC` of Table NET-12. -/
def PLANT_MAC : Ent := entF (0x190001) .octets
/-- `RING_MAC` of Table NET-12. -/
def RING_MAC : Ent := entF (0x190002) .octets
/-- `PLANT_IP` of Table NET-12. -/
def PLANT_IP : Ent := entN (0x190003) .u32 0
/-- `PLANT_MASK` of Table NET-12. -/
def PLANT_MASK : Ent := entN (0x190004) .u32 4294967040
/-- `PLANT_GATEWAY` of Table NET-12. -/
def PLANT_GATEWAY : Ent := entN (0x190005) .u32 0
/-- `RING_IP` of Table NET-12. -/
def RING_IP : Ent := entN (0x190006) .u32 0
/-- `RING_MASK` of Table NET-12. -/
def RING_MASK : Ent := entN (0x190007) .u32 4294967040
/-- `VLAN_ID` of Table NET-12. -/
def VLAN_ID : Ent := entN (0x190008) .u16 0
/-- `DUP_EVENTS` of Table NET-12. -/
def DUP_EVENTS : Ent := entN (0x190009) .u32 0
/-- `DUP_LAST_MAC` of Table NET-12. -/
def DUP_LAST_MAC : Ent := entB (0x19000A) .octets (List.replicate 6 0)
/-- `PRP_LIFE_CHECK_INTERVAL` of Table NET-12. -/
def PRP_LIFE_CHECK_INTERVAL : Ent := entN (0x192001) .u16 2000
/-- `PRP_ENTRY_FORGET_TIME` of Table NET-12. -/
def PRP_ENTRY_FORGET_TIME : Ent := entN (0x192002) .u16 400
/-- `PRP_NODE_FORGET_TIME` of Table NET-12. -/
def PRP_NODE_FORGET_TIME : Ent := entN (0x192003) .u16 60000
/-- `PRP_NODES` of Table NET-12. -/
def PRP_NODES : Ent := entN (0x192004) .u16 0
/-- `WRONG_LAN` of Table NET-12. -/
def WRONG_LAN : Ent := entN (0x192005) .u32 0
/-- `LAN_A_MISSING` of Table NET-12. -/
def LAN_A_MISSING : Ent := entN (0x192006) .u32 0
/-- `LAN_B_MISSING` of Table NET-12. -/
def LAN_B_MISSING : Ent := entN (0x192007) .u32 0
/-- `HSR_LIFE_CHECK_INTERVAL` of Table NET-12. -/
def HSR_LIFE_CHECK_INTERVAL : Ent := entN (0x192101) .u16 2000
/-- `HSR_ENTRY_FORGET_TIME` of Table NET-12. -/
def HSR_ENTRY_FORGET_TIME : Ent := entN (0x192102) .u16 400
/-- `HSR_NODES` of Table NET-12. -/
def HSR_NODES : Ent := entN (0x192103) .u16 0
/-- `RING_STATE` of Table NET-12. -/
def RING_STATE : Ent := entN (0x192104) .u8 1
/-- `FORWARDED` of Table NET-12. -/
def FORWARDED : Ent := entN (0x192105) .u64 0
/-- `RATE_CLASS2` of Table NET-12. -/
def RATE_CLASS2 : Ent := entN (0x193001) .u8 50
/-- `RATE_CLASS1` of Table NET-12. -/
def RATE_CLASS1 : Ent := entN (0x193002) .u8 20
/-- `RATE_CLASS0` of Table NET-12. -/
def RATE_CLASS0 : Ent := entN (0x193003) .u8 10
/-- `CLASS3_RATE` of Table NET-12. -/
def CLASS3_RATE : Ent := entN (0x193004) .u8 10
/-- `CLASS3_SOURCES` of Table NET-12, slot `i`. -/
def CLASS3_SOURCES (i : Nat) : Ent := entN (0x1940 * 256 + 1 + i) .u64 0
/-- `CLASS3_SOURCE_SUM` of Table NET-12. -/
def CLASS3_SOURCE_SUM : Ent := entN (0x19400A) .u8 0
/-- `PROTECTED` of Table NET-12, slot `i`. -/
def PROTECTED (i : Nat) : Ent := entN (0x1960 * 256 + 1 + i) .u64 0

end Sys2Proof.Machine.E.Net

namespace Sys2Proof.Machine.E.Port

/-- `PORT_ENABLE` of Table NET-13. -/
def PORT_ENABLE (k : Nat) : Ent := entN ((0x1910 + k) * 256 + 0x01) .bool 1
/-- `SPEED_MODE` of Table NET-13. -/
def SPEED_MODE (k : Nat) : Ent := entN ((0x1910 + k) * 256 + 0x02) .u8 0
/-- `LINK_STATE` of Table NET-13. -/
def LINK_STATE (k : Nat) : Ent := entN ((0x1910 + k) * 256 + 0x03) .u8 0
/-- `MDI_STATE` of Table NET-13. -/
def MDI_STATE (k : Nat) : Ent := entN ((0x1910 + k) * 256 + 0x04) .u8 0
/-- `CABLE_STATE` of Table NET-13. -/
def CABLE_STATE (k : Nat) : Ent := entN ((0x1910 + k) * 256 + 0x05) .u16 0
/-- `LINK_CHANGES` of Table NET-13. -/
def LINK_CHANGES (k : Nat) : Ent := entN ((0x1910 + k) * 256 + 0x06) .u32 0
/-- `RX_FRAMES` of Table NET-13. -/
def RX_FRAMES (k : Nat) : Ent := entN ((0x1910 + k) * 256 + 0x07) .u64 0
/-- `TX_FRAMES` of Table NET-13. -/
def TX_FRAMES (k : Nat) : Ent := entN ((0x1910 + k) * 256 + 0x08) .u64 0
/-- `RX_FCS_ERRORS` of Table NET-13. -/
def RX_FCS_ERRORS (k : Nat) : Ent := entN ((0x1910 + k) * 256 + 0x09) .u32 0
/-- `DUP_DISCARDED` of Table NET-13. -/
def DUP_DISCARDED (k : Nat) : Ent := entN ((0x1910 + k) * 256 + 0x0A) .u32 0
/-- `QUENCH_DROPS` of Table NET-13. -/
def QUENCH_DROPS (k : Nat) : Ent := entN ((0x1910 + k) * 256 + 0x0B) .u32 0
/-- `POLICE_DROPS` of Table NET-13. -/
def POLICE_DROPS (k : Nat) : Ent := entB ((0x1910 + k) * 256 + 0x0C) .octets []
/-- `BUFFER_DROPS` of Table NET-13. -/
def BUFFER_DROPS (k : Nat) : Ent := entB ((0x1910 + k) * 256 + 0x0D) .octets []
/-- `QUENCH_SLOT_DROPS` of Table NET-13. -/
def QUENCH_SLOT_DROPS (k : Nat) : Ent := entN ((0x1910 + k) * 256 + 0x0E) .u32 0
/-- `RESET_STATS` of Table NET-13. -/
def RESET_STATS (k : Nat) : Ent := entN ((0x1910 + k) * 256 + 0x0F) .bool 0

end Sys2Proof.Machine.E.Port

namespace Sys2Proof.Machine.E.Quench

/-- `FILTER_STATE` of Table NET-14. -/
def FILTER_STATE (k : Nat) : Ent := entN ((0x1950 + k) * 256 + 0x01) .u8 0
/-- `FILTER_MATCH` of Table NET-14. -/
def FILTER_MATCH (k : Nat) : Ent := entB ((0x1950 + k) * 256 + 0x02) .octets []
/-- `FILTER_PORTS` of Table NET-14. -/
def FILTER_PORTS (k : Nat) : Ent := entN ((0x1950 + k) * 256 + 0x03) .u8 0
/-- `FILTER_REMAINING` of Table NET-14. -/
def FILTER_REMAINING (k : Nat) : Ent := entN ((0x1950 + k) * 256 + 0x04) .u32 0
/-- `FILTER_NODE` of Table NET-14. -/
def FILTER_NODE (k : Nat) : Ent := entN ((0x1950 + k) * 256 + 0x05) .u32 0
/-- `FILTER_HITS` of Table NET-14. -/
def FILTER_HITS (k : Nat) : Ent := entN ((0x1950 + k) * 256 + 0x06) .u64 0
/-- `FILTER_INSTALLED` of Table NET-14. -/
def FILTER_INSTALLED (k : Nat) : Ent := entN ((0x1950 + k) * 256 + 0x07) .time96 0
/-- `INSTALL_LATENCY` of Table NET-14. -/
def INSTALL_LATENCY (k : Nat) : Ent := entN ((0x1950 + k) * 256 + 0x08) .u32 0

end Sys2Proof.Machine.E.Quench

namespace Sys2Proof.Machine.E.Ecx

/-- `ECX_ENABLE` of Table NET-15. -/
def ECX_ENABLE : Ent := entN (0x1A0001) .bool 0
/-- `CYCLE_PERIOD` of Table NET-15. -/
def CYCLE_PERIOD : Ent := entN (0x1A0002) .u32 1000
/-- `CYCLE_PHASE` of Table NET-15. -/
def CYCLE_PHASE : Ent := entN (0x1A0003) .u32 0
/-- `OUTPUT_DELAY` of Table NET-15. -/
def OUTPUT_DELAY : Ent := entN (0x1A0004) .u32 100
/-- `RING_TRANSIT` of Table NET-15. -/
def RING_TRANSIT : Ent := entN (0x1A0005) .u32 50
/-- `MISS_LIMIT` of Table NET-15. -/
def MISS_LIMIT : Ent := entN (0x1A0006) .u8 3
/-- `RETURN_CYCLES` of Table NET-15. -/
def RETURN_CYCLES : Ent := entN (0x1A0007) .u8 3
/-- `ECX_CHECK` of Table NET-15. -/
def ECX_CHECK : Ent := entN (0x1A0008) .u8 255
/-- `CYCLE_LOAD` of Table NET-15. -/
def CYCLE_LOAD : Ent := entN (0x1A0009) .u16 0
/-- `MASTER_STATE` of Table NET-15. -/
def MASTER_STATE : Ent := entN (0x1A000A) .u8 0
/-- `CYCLE_NUMBER` of Table NET-15. -/
def CYCLE_NUMBER : Ent := entN (0x1A000B) .u32 0

end Sys2Proof.Machine.E.Ecx

namespace Sys2Proof.Machine.E.Station

/-- `STATION_ENABLE` of Table NET-16. -/
def STATION_ENABLE (k : Nat) : Ent := entN ((0x1A40 + k) * 256 + 0x01) .bool 0
/-- `STATION_MAC` of Table NET-16. -/
def STATION_MAC (k : Nat) : Ent := entB ((0x1A40 + k) * 256 + 0x02) .octets (List.replicate 6 0)
/-- `STATION_NODE` of Table NET-16. -/
def STATION_NODE (k : Nat) : Ent := entN ((0x1A40 + k) * 256 + 0x03) .u32 0
/-- `OUT_LENGTH` of Table NET-16. -/
def OUT_LENGTH (k : Nat) : Ent := entN ((0x1A40 + k) * 256 + 0x04) .u16 0
/-- `IN_LENGTH` of Table NET-16. -/
def IN_LENGTH (k : Nat) : Ent := entN ((0x1A40 + k) * 256 + 0x05) .u16 0
/-- `CONFIG_SIGNATURE` of Table NET-16. -/
def CONFIG_SIGNATURE (k : Nat) : Ent := entN ((0x1A40 + k) * 256 + 0x06) .u32 0
/-- `REDUCTION` of Table NET-16. -/
def REDUCTION (k : Nat) : Ent := entN ((0x1A40 + k) * 256 + 0x07) .u8 1
/-- `WATCHDOG` of Table NET-16. -/
def WATCHDOG (k : Nat) : Ent := entN ((0x1A40 + k) * 256 + 0x08) .u16 100
/-- `STATION_STATE` of Table NET-16. -/
def STATION_STATE (k : Nat) : Ent := entN ((0x1A40 + k) * 256 + 0x09) .u8 0
/-- `MISSES` of Table NET-16. -/
def MISSES (k : Nat) : Ent := entN ((0x1A40 + k) * 256 + 0x0A) .u32 0
/-- `MISS_CONSEC` of Table NET-16. -/
def MISS_CONSEC (k : Nat) : Ent := entN ((0x1A40 + k) * 256 + 0x0B) .u8 0
/-- `DROPOUTS` of Table NET-16. -/
def DROPOUTS (k : Nat) : Ent := entN ((0x1A40 + k) * 256 + 0x0C) .u32 0
/-- `LAST_IN_CYCLE` of Table NET-16. -/
def LAST_IN_CYCLE (k : Nat) : Ent := entN ((0x1A40 + k) * 256 + 0x0D) .u32 0
/-- `LAST_IN_TB3` of Table NET-16. -/
def LAST_IN_TB3 (k : Nat) : Ent := entN ((0x1A40 + k) * 256 + 0x0E) .time96 0
/-- `LATE_FRAMES` of Table NET-16. -/
def LATE_FRAMES (k : Nat) : Ent := entN ((0x1A40 + k) * 256 + 0x0F) .u32 0
/-- `SIG_MISMATCHES` of Table NET-16. -/
def SIG_MISMATCHES (k : Nat) : Ent := entN ((0x1A40 + k) * 256 + 0x10) .u32 0
/-- `SINGLE_PATH` of Table NET-16. -/
def SINGLE_PATH (k : Nat) : Ent := entN ((0x1A40 + k) * 256 + 0x11) .u32 0
/-- `ACYC_REQUEST` of Table NET-16. -/
def ACYC_REQUEST (k : Nat) : Ent := entB ((0x1A40 + k) * 256 + 0x12) .octets []
/-- `ACYC_RESPONSE` of Table NET-16. -/
def ACYC_RESPONSE (k : Nat) : Ent := entB ((0x1A40 + k) * 256 + 0x13) .octets []
/-- `ACYC_STATUS` of Table NET-16. -/
def ACYC_STATUS (k : Nat) : Ent := entN ((0x1A40 + k) * 256 + 0x14) .u8 0
/-- `RESET_STATS` of Table NET-16. -/
def RESET_STATS (k : Nat) : Ent := entN ((0x1A40 + k) * 256 + 0x15) .bool 0

end Sys2Proof.Machine.E.Station

namespace Sys2Proof.Machine.E.Can

/-- `CHANNEL_MODE` of Table CAN-7. -/
def CHANNEL_MODE (c : Nat) : Ent := entN ((0x3000 + 0x40 * c) * 256 + 0x01) .u8 0
/-- `FD_ENABLE` of Table CAN-7. -/
def FD_ENABLE (c : Nat) : Ent := entN ((0x3000 + 0x40 * c) * 256 + 0x02) .bool 0
/-- `TERMINATION` of Table CAN-7. -/
def TERMINATION (c : Nat) : Ent := entN ((0x3000 + 0x40 * c) * 256 + 0x03) .bool 0
/-- `RX_ACCEPT_ALL` of Table CAN-7. -/
def RX_ACCEPT_ALL (c : Nat) : Ent := entN ((0x3000 + 0x40 * c) * 256 + 0x04) .bool 0
/-- `CHANNEL_STATE` of Table CAN-7. -/
def CHANNEL_STATE (c : Nat) : Ent := entN ((0x3000 + 0x40 * c) * 256 + 0x05) .u8 0
/-- `TEC` of Table CAN-7. -/
def TEC (c : Nat) : Ent := entN ((0x3000 + 0x40 * c) * 256 + 0x06) .u16 0
/-- `REC` of Table CAN-7. -/
def REC (c : Nat) : Ent := entN ((0x3000 + 0x40 * c) * 256 + 0x07) .u8 0
/-- `BUSOFF_COUNT` of Table CAN-7. -/
def BUSOFF_COUNT (c : Nat) : Ent := entN ((0x3000 + 0x40 * c) * 256 + 0x08) .u32 0
/-- `LAST_BUSOFF` of Table CAN-7. -/
def LAST_BUSOFF (c : Nat) : Ent := entN ((0x3000 + 0x40 * c) * 256 + 0x09) .time96 0
/-- `RX_FRAMES` of Table CAN-7. -/
def RX_FRAMES (c : Nat) : Ent := entN ((0x3000 + 0x40 * c) * 256 + 0x0A) .u64 0
/-- `TX_FRAMES` of Table CAN-7. -/
def TX_FRAMES (c : Nat) : Ent := entN ((0x3000 + 0x40 * c) * 256 + 0x0B) .u64 0
/-- `ERROR_FRAMES` of Table CAN-7. -/
def ERROR_FRAMES (c : Nat) : Ent := entN ((0x3000 + 0x40 * c) * 256 + 0x0C) .u32 0
/-- `LAST_ERROR` of Table CAN-7. -/
def LAST_ERROR (c : Nat) : Ent := entN ((0x3000 + 0x40 * c) * 256 + 0x0D) .u8 0
/-- `RX_FILTERED` of Table CAN-7. -/
def RX_FILTERED (c : Nat) : Ent := entN ((0x3000 + 0x40 * c) * 256 + 0x0E) .u32 0
/-- `RX_OVERRUNS` of Table CAN-7. -/
def RX_OVERRUNS (c : Nat) : Ent := entN ((0x3000 + 0x40 * c) * 256 + 0x0F) .u32 0
/-- `FD_EXCEPTIONS` of Table CAN-7. -/
def FD_EXCEPTIONS (c : Nat) : Ent := entN ((0x3000 + 0x40 * c) * 256 + 0x10) .u32 0
/-- `COLLISION_THRESHOLD` of Table CAN-7. -/
def COLLISION_THRESHOLD (c : Nat) : Ent := entN ((0x3000 + 0x40 * c) * 256 + 0x11) .u8 2
/-- `COLLISION_ID` of Table CAN-7. -/
def COLLISION_ID (c : Nat) : Ent := entN ((0x3000 + 0x40 * c) * 256 + 0x12) .u32 0
/-- `COLLISIONS` of Table CAN-7. -/
def COLLISIONS (c : Nat) : Ent := entN ((0x3000 + 0x40 * c) * 256 + 0x13) .u32 0
/-- `FOREIGN_SAME_ID` of Table CAN-7. -/
def FOREIGN_SAME_ID (c : Nat) : Ent := entN ((0x3000 + 0x40 * c) * 256 + 0x14) .u32 0
/-- `TXQ_REJECTS` of Table CAN-7. -/
def TXQ_REJECTS (c : Nat) : Ent := entN ((0x3000 + 0x40 * c) * 256 + 0x15) .u32 0
/-- `RX_CONSUMER` of Table CAN-7. -/
def RX_CONSUMER (c : Nat) : Ent := entN ((0x3000 + 0x40 * c) * 256 + 0x16) .u8 254
/-- `RESET_STATS` of Table CAN-7. -/
def RESET_STATS (c : Nat) : Ent := entN ((0x3000 + 0x40 * c) * 256 + 0x17) .bool 0

end Sys2Proof.Machine.E.Can

namespace Sys2Proof.Machine.E.CanT

/-- `NOM_BRP` of Table CAN-8. -/
def NOM_BRP (c : Nat) : Ent := entN ((0x3001 + 0x40 * c) * 256 + 0x01) .u16 1
/-- `NOM_TSEG1` of Table CAN-8. -/
def NOM_TSEG1 (c : Nat) : Ent := entN ((0x3001 + 0x40 * c) * 256 + 0x02) .u16 127
/-- `NOM_TSEG2` of Table CAN-8. -/
def NOM_TSEG2 (c : Nat) : Ent := entN ((0x3001 + 0x40 * c) * 256 + 0x03) .u8 32
/-- `NOM_SJW` of Table CAN-8. -/
def NOM_SJW (c : Nat) : Ent := entN ((0x3001 + 0x40 * c) * 256 + 0x04) .u8 32
/-- `DATA_BRP` of Table CAN-8. -/
def DATA_BRP (c : Nat) : Ent := entN ((0x3001 + 0x40 * c) * 256 + 0x05) .u8 1
/-- `DATA_TSEG1` of Table CAN-8. -/
def DATA_TSEG1 (c : Nat) : Ent := entN ((0x3001 + 0x40 * c) * 256 + 0x06) .u8 29
/-- `DATA_TSEG2` of Table CAN-8. -/
def DATA_TSEG2 (c : Nat) : Ent := entN ((0x3001 + 0x40 * c) * 256 + 0x07) .u8 10
/-- `DATA_SJW` of Table CAN-8. -/
def DATA_SJW (c : Nat) : Ent := entN ((0x3001 + 0x40 * c) * 256 + 0x08) .u8 10
/-- `NOM_RATE` of Table CAN-8. -/
def NOM_RATE (c : Nat) : Ent := entN ((0x3001 + 0x40 * c) * 256 + 0x09) .u32 0
/-- `DATA_RATE` of Table CAN-8. -/
def DATA_RATE (c : Nat) : Ent := entN ((0x3001 + 0x40 * c) * 256 + 0x0A) .u32 0
/-- `TDC_VALUE` of Table CAN-8. -/
def TDC_VALUE (c : Nat) : Ent := entN ((0x3001 + 0x40 * c) * 256 + 0x0B) .u8 0
/-- `TIMING_CHECK` of Table CAN-8. -/
def TIMING_CHECK (c : Nat) : Ent := entN ((0x3001 + 0x40 * c) * 256 + 0x0C) .u8 255
/-- `XCVR_STATE` of Table CAN-8. -/
def XCVR_STATE (c : Nat) : Ent := entN ((0x3002 + 0x40 * c) * 256 + 0x01) .u16 0
/-- `XCVR_FAULTS` of Table CAN-8. -/
def XCVR_FAULTS (c : Nat) : Ent := entN ((0x3002 + 0x40 * c) * 256 + 0x02) .u32 0
/-- `CANH_V` of Table CAN-8. -/
def CANH_V (c : Nat) : Ent := entN ((0x3002 + 0x40 * c) * 256 + 0x03) .f32 0
/-- `CANL_V` of Table CAN-8. -/
def CANL_V (c : Nat) : Ent := entN ((0x3002 + 0x40 * c) * 256 + 0x04) .f32 0

end Sys2Proof.Machine.E.CanT

namespace Sys2Proof.Machine.E.CanF

/-- `FILTER_ENABLE` of Table CAN-9. -/
def FILTER_ENABLE (c k : Nat) : Ent := entN ((0x3010 + 0x40 * c + k) * 256 + 0x01) .bool 0
/-- `FILTER_ID` of Table CAN-9. -/
def FILTER_ID (c k : Nat) : Ent := entN ((0x3010 + 0x40 * c + k) * 256 + 0x02) .u32 0
/-- `FILTER_MASK` of Table CAN-9. -/
def FILTER_MASK (c k : Nat) : Ent := entN ((0x3010 + 0x40 * c + k) * 256 + 0x03) .u32 0
/-- `FILTER_HITS` of Table CAN-9. -/
def FILTER_HITS (c k : Nat) : Ent := entN ((0x3010 + 0x40 * c + k) * 256 + 0x04) .u32 0
/-- `FILTER_LAST` of Table CAN-9. -/
def FILTER_LAST (c k : Nat) : Ent := entB ((0x3010 + 0x40 * c + k) * 256 + 0x05) .octets []

end Sys2Proof.Machine.E.CanF

namespace Sys2Proof.Machine.E.CanObj

/-- `OBJ_ID` of Table CAN-10. -/
def OBJ_ID (c k : Nat) : Ent := entA ((0x3020 + 0x40 * c + k) * 256 + 0x01) .u32
/-- `OBJ_FORMAT` of Table CAN-10. -/
def OBJ_FORMAT (c k : Nat) : Ent := entA ((0x3020 + 0x40 * c + k) * 256 + 0x02) .u8
/-- `OBJ_LENGTH` of Table CAN-10. -/
def OBJ_LENGTH (c k : Nat) : Ent := entA ((0x3020 + 0x40 * c + k) * 256 + 0x03) .u8
/-- `OBJ_MODE` of Table CAN-10. -/
def OBJ_MODE (c k : Nat) : Ent := entA ((0x3020 + 0x40 * c + k) * 256 + 0x04) .u8
/-- `OBJ_PERIOD` of Table CAN-10. -/
def OBJ_PERIOD (c k : Nat) : Ent := entA ((0x3020 + 0x40 * c + k) * 256 + 0x05) .u32
/-- `OBJ_PHASE` of Table CAN-10. -/
def OBJ_PHASE (c k : Nat) : Ent := entA ((0x3020 + 0x40 * c + k) * 256 + 0x06) .u32
/-- `RETRY_LIMIT` of Table CAN-10. -/
def RETRY_LIMIT (c k : Nat) : Ent := entN ((0x3020 + 0x40 * c + k) * 256 + 0x07) .u8 7
/-- `LIFETIME` of Table CAN-10. -/
def LIFETIME (c k : Nat) : Ent := entN ((0x3020 + 0x40 * c + k) * 256 + 0x08) .u32 0
/-- `OBJ_WRITER` of Table CAN-10. -/
def OBJ_WRITER (c k : Nat) : Ent := entN ((0x3020 + 0x40 * c + k) * 256 + 0x09) .u16 65535
/-- `OBJ_DATA` of Table CAN-10. -/
def OBJ_DATA (c k : Nat) : Ent := entB ((0x3020 + 0x40 * c + k) * 256 + 0x0A) .octets []
/-- `OBJ_SEND` of Table CAN-10. -/
def OBJ_SEND (c k : Nat) : Ent := entB ((0x3020 + 0x40 * c + k) * 256 + 0x0B) .octets []
/-- `TX_STATE` of Table CAN-10. -/
def TX_STATE (c k : Nat) : Ent := entN ((0x3020 + 0x40 * c + k) * 256 + 0x0C) .u8 0
/-- `LAST_RESULT` of Table CAN-10. -/
def LAST_RESULT (c k : Nat) : Ent := entN ((0x3020 + 0x40 * c + k) * 256 + 0x0D) .u8 255
/-- `SENT` of Table CAN-10. -/
def SENT (c k : Nat) : Ent := entN ((0x3020 + 0x40 * c + k) * 256 + 0x0E) .u32 0
/-- `DROPPED` of Table CAN-10. -/
def DROPPED (c k : Nat) : Ent := entN ((0x3020 + 0x40 * c + k) * 256 + 0x0F) .u32 0
/-- `ERROR_RETRIES` of Table CAN-10. -/
def ERROR_RETRIES (c k : Nat) : Ent := entN ((0x3020 + 0x40 * c + k) * 256 + 0x10) .u32 0
/-- `ARB_RETRIES` of Table CAN-10. -/
def ARB_RETRIES (c k : Nat) : Ent := entN ((0x3020 + 0x40 * c + k) * 256 + 0x11) .u32 0
/-- `OVERWRITTEN` of Table CAN-10. -/
def OVERWRITTEN (c k : Nat) : Ent := entN ((0x3020 + 0x40 * c + k) * 256 + 0x12) .u32 0
/-- `LAST_SENT_TB3` of Table CAN-10. -/
def LAST_SENT_TB3 (c k : Nat) : Ent := entN ((0x3020 + 0x40 * c + k) * 256 + 0x13) .time96 0
/-- `RESET_STATS` of Table CAN-10. -/
def RESET_STATS (c k : Nat) : Ent := entN ((0x3020 + 0x40 * c + k) * 256 + 0x14) .bool 0

end Sys2Proof.Machine.E.CanObj

namespace Sys2Proof.Machine.E.Di

/-- `DI_TYPE` of Table DIO-8. -/
def DI_TYPE (k : Nat) : Ent := entN ((0x2000 + k) * 256 + 0x01) .u8 1
/-- `DI_FILTER` of Table DIO-8. -/
def DI_FILTER (k : Nat) : Ent := entN ((0x2000 + k) * 256 + 0x02) .u16 30
/-- `LINE_MONITOR` of Table DIO-8. -/
def LINE_MONITOR (k : Nat) : Ent := entN ((0x2000 + k) * 256 + 0x03) .bool 0
/-- `DI_STATE` of Table DIO-8. -/
def DI_STATE (k : Nat) : Ent := entN ((0x2000 + k) * 256 + 0x04) .bool 0
/-- `DI_DIAG` of Table DIO-8. -/
def DI_DIAG (k : Nat) : Ent := entN ((0x2000 + k) * 256 + 0x05) .u8 0
/-- `DI_CHANGES` of Table DIO-8. -/
def DI_CHANGES (k : Nat) : Ent := entN ((0x2000 + k) * 256 + 0x06) .u32 0
/-- `LAST_CHANGE_TB3` of Table DIO-8. -/
def LAST_CHANGE_TB3 (k : Nat) : Ent := entN ((0x2000 + k) * 256 + 0x07) .time96 0
/-- `RESET_STATS` of Table DIO-8. -/
def RESET_STATS (k : Nat) : Ent := entN ((0x2000 + k) * 256 + 0x08) .bool 0
/-- `LATCH_GLITCH` of Table DIO-8. -/
def LATCH_GLITCH (k : Nat) : Ent := entN ((0x2000 + k) * 256 + 0x09) .u16 200
/-- `LAST_EDGE_TB3` of Table DIO-8. -/
def LAST_EDGE_TB3 (k : Nat) : Ent := entN ((0x2000 + k) * 256 + 0x0A) .time96 0

end Sys2Proof.Machine.E.Di

namespace Sys2Proof.Machine.E.Do

/-- `DO_PROFILE` of Table DIO-9. -/
def DO_PROFILE (k : Nat) : Ent := entN ((0x2040 + k) * 256 + 0x01) .u8 0
/-- `DO_SAFE_STATE` of Table DIO-9. -/
def DO_SAFE_STATE (k : Nat) : Ent := entN ((0x2040 + k) * 256 + 0x02) .u8 0
/-- `OFF_DIAG` of Table DIO-9. -/
def OFF_DIAG (k : Nat) : Ent := entN ((0x2040 + k) * 256 + 0x03) .bool 1
/-- `OPEN_ON_CURRENT` of Table DIO-9. -/
def OPEN_ON_CURRENT (k : Nat) : Ent := entN ((0x2040 + k) * 256 + 0x04) .u16 5
/-- `OVERLOAD_TIME` of Table DIO-9. -/
def OVERLOAD_TIME (k : Nat) : Ent := entN ((0x2040 + k) * 256 + 0x05) .u16 10
/-- `RESTART_MODE` of Table DIO-9. -/
def RESTART_MODE (k : Nat) : Ent := entN ((0x2040 + k) * 256 + 0x06) .u8 0
/-- `RETRY_DELAY` of Table DIO-9. -/
def RETRY_DELAY (k : Nat) : Ent := entN ((0x2040 + k) * 256 + 0x07) .u16 1000
/-- `DO_COMMANDED` of Table DIO-9. -/
def DO_COMMANDED (k : Nat) : Ent := entN ((0x2040 + k) * 256 + 0x08) .bool 0
/-- `DO_OUTPUT_STATE` of Table DIO-9. -/
def DO_OUTPUT_STATE (k : Nat) : Ent := entN ((0x2040 + k) * 256 + 0x09) .u8 0
/-- `DO_DIAG` of Table DIO-9. -/
def DO_DIAG (k : Nat) : Ent := entN ((0x2040 + k) * 256 + 0x0A) .u16 0
/-- `DO_CURRENT` of Table DIO-9. -/
def DO_CURRENT (k : Nat) : Ent := entN ((0x2040 + k) * 256 + 0x0B) .f32 0
/-- `DO_VOLTAGE` of Table DIO-9. -/
def DO_VOLTAGE (k : Nat) : Ent := entN ((0x2040 + k) * 256 + 0x0C) .f32 0
/-- `DEMAG_ENERGY` of Table DIO-9. -/
def DEMAG_ENERGY (k : Nat) : Ent := entN ((0x2040 + k) * 256 + 0x0D) .f32 0
/-- `SWITCHINGS` of Table DIO-9. -/
def SWITCHINGS (k : Nat) : Ent := entN ((0x2040 + k) * 256 + 0x0E) .u32 0
/-- `TRIPS` of Table DIO-9. -/
def TRIPS (k : Nat) : Ent := entN ((0x2040 + k) * 256 + 0x0F) .u32 0
/-- `TRIP_RESET` of Table DIO-9. -/
def TRIP_RESET (k : Nat) : Ent := entN ((0x2040 + k) * 256 + 0x10) .bool 0
/-- `RESET_STATS` of Table DIO-9. -/
def RESET_STATS (k : Nat) : Ent := entN ((0x2040 + k) * 256 + 0x11) .bool 0

end Sys2Proof.Machine.E.Do

namespace Sys2Proof.Machine.E.Grp

/-- `GROUP_STATE` of Table DIO-11. -/
def GROUP_STATE (k : Nat) : Ent := entN ((0x2080 + k) * 256 + 0x01) .u8 2
/-- `GROUP_VOLTAGE` of Table DIO-11. -/
def GROUP_VOLTAGE (k : Nat) : Ent := entN ((0x2080 + k) * 256 + 0x02) .f32 0
/-- `GROUP_CURRENT` of Table DIO-11. -/
def GROUP_CURRENT (k : Nat) : Ent := entN ((0x2080 + k) * 256 + 0x03) .f32 0
/-- `GROUP_TEMP` of Table DIO-11. -/
def GROUP_TEMP (k : Nat) : Ent := entN ((0x2080 + k) * 256 + 0x04) .f32 0
/-- `GROUP_UV_THRESHOLD` of Table DIO-11. -/
def GROUP_UV_THRESHOLD (k : Nat) : Ent := entN ((0x2080 + k) * 256 + 0x05) .f32 1098907648
/-- `GROUP_FAULTS` of Table DIO-11. -/
def GROUP_FAULTS (k : Nat) : Ent := entN ((0x2080 + k) * 256 + 0x06) .u32 0
/-- `SILENCE_TIMEOUT` of Table DIO-11. -/
def SILENCE_TIMEOUT : Ent := entN (0x209001) .u16 50
/-- `FIELD_STATE` of Table DIO-11. -/
def FIELD_STATE : Ent := entN (0x209002) .u8 3
/-- `SILENCE_EVENTS` of Table DIO-11. -/
def SILENCE_EVENTS : Ent := entN (0x209003) .u32 0
/-- `LAST_SILENCE_TB3` of Table DIO-11. -/
def LAST_SILENCE_TB3 : Ent := entN (0x209004) .time96 0
/-- `FIELD_FRAME_ERRORS` of Table DIO-11. -/
def FIELD_FRAME_ERRORS : Ent := entN (0x209005) .u32 0
/-- `RESET_STATS` of Table DIO-11. -/
def RESET_STATS : Ent := entN (0x209006) .bool 0

end Sys2Proof.Machine.E.Grp

namespace Sys2Proof.Machine.E.Ai

/-- `AI_SUPPLY_MODE` of Table ANA-7. -/
def AI_SUPPLY_MODE (k : Nat) : Ent := entN ((0x2100 + k) * 256 + 0x01) .u8 1
/-- `TX_VMIN` of Table ANA-7. -/
def TX_VMIN (k : Nat) : Ent := entN ((0x2100 + k) * 256 + 0x02) .f32 1094713344
/-- `WIRE_RESISTANCE` of Table ANA-7. -/
def WIRE_RESISTANCE (k : Nat) : Ent := entN ((0x2100 + k) * 256 + 0x03) .f32 1112014848
/-- `AI_AVERAGE` of Table ANA-7. -/
def AI_AVERAGE (k : Nat) : Ent := entN ((0x2100 + k) * 256 + 0x04) .u16 80
/-- `OPEN_THRESHOLD` of Table ANA-7. -/
def OPEN_THRESHOLD (k : Nat) : Ent := entN ((0x2100 + k) * 256 + 0x05) .f32 1056964608
/-- `AI_CURRENT` of Table ANA-7. -/
def AI_CURRENT (k : Nat) : Ent := entN ((0x2100 + k) * 256 + 0x06) .f32 0
/-- `AI_DIAG` of Table ANA-7. -/
def AI_DIAG (k : Nat) : Ent := entN ((0x2100 + k) * 256 + 0x07) .u16 0
/-- `AI_FAULT_CAUSE` of Table ANA-7. -/
def AI_FAULT_CAUSE (k : Nat) : Ent := entN ((0x2100 + k) * 256 + 0x08) .u8 0
/-- `SUPPLY_VOLTAGE` of Table ANA-7. -/
def SUPPLY_VOLTAGE (k : Nat) : Ent := entN ((0x2100 + k) * 256 + 0x09) .f32 0
/-- `SUPPLY_TARGET` of Table ANA-7. -/
def SUPPLY_TARGET (k : Nat) : Ent := entN ((0x2100 + k) * 256 + 0x0A) .f32 0
/-- `SUPPLY_STAGE_TEMP` of Table ANA-7. -/
def SUPPLY_STAGE_TEMP (k : Nat) : Ent := entN ((0x2100 + k) * 256 + 0x0B) .f32 0
/-- `TRIM_ZERO` of Table ANA-7. -/
def TRIM_ZERO (k : Nat) : Ent := entN ((0x2100 + k) * 256 + 0x0C) .f32 0
/-- `TRIM_SPAN` of Table ANA-7. -/
def TRIM_SPAN (k : Nat) : Ent := entN ((0x2100 + k) * 256 + 0x0D) .f32 1065353216
/-- `TRIM_CAPTURE` of Table ANA-7. -/
def TRIM_CAPTURE (k : Nat) : Ent := entN ((0x2100 + k) * 256 + 0x0E) .u8 0
/-- `TRIM_STATE` of Table ANA-7. -/
def TRIM_STATE (k : Nat) : Ent := entN ((0x2100 + k) * 256 + 0x0F) .u8 0
/-- `CAL_RESIDUAL` of Table ANA-7. -/
def CAL_RESIDUAL (k : Nat) : Ent := entF ((0x2100 + k) * 256 + 0x10) .f32
/-- `FAULT_EVENTS` of Table ANA-7. -/
def FAULT_EVENTS (k : Nat) : Ent := entN ((0x2100 + k) * 256 + 0x11) .u32 0
/-- `RESET_STATS` of Table ANA-7. -/
def RESET_STATS (k : Nat) : Ent := entN ((0x2100 + k) * 256 + 0x12) .bool 0

end Sys2Proof.Machine.E.Ai

namespace Sys2Proof.Machine.E.Ao

/-- `AO_SAFE_MODE` of Table ANA-8. -/
def AO_SAFE_MODE (k : Nat) : Ent := entN ((0x2120 + k) * 256 + 0x01) .u8 0
/-- `AO_SAFE_VALUE` of Table ANA-8. -/
def AO_SAFE_VALUE (k : Nat) : Ent := entN ((0x2120 + k) * 256 + 0x02) .f32 0
/-- `AO_COMMANDED` of Table ANA-8. -/
def AO_COMMANDED (k : Nat) : Ent := entN ((0x2120 + k) * 256 + 0x03) .f32 0
/-- `AO_READBACK` of Table ANA-8. -/
def AO_READBACK (k : Nat) : Ent := entN ((0x2120 + k) * 256 + 0x04) .f32 0
/-- `AO_TERMINAL_V` of Table ANA-8. -/
def AO_TERMINAL_V (k : Nat) : Ent := entN ((0x2120 + k) * 256 + 0x05) .f32 0
/-- `AO_NEED` of Table ANA-8. -/
def AO_NEED (k : Nat) : Ent := entN ((0x2120 + k) * 256 + 0x06) .f32 0
/-- `AO_DIAG` of Table ANA-8. -/
def AO_DIAG (k : Nat) : Ent := entN ((0x2120 + k) * 256 + 0x07) .u16 0
/-- `AO_OUTPUT_STATE` of Table ANA-8. -/
def AO_OUTPUT_STATE (k : Nat) : Ent := entN ((0x2120 + k) * 256 + 0x08) .u8 1
/-- `AO_TRIM_ZERO` of Table ANA-8. -/
def AO_TRIM_ZERO (k : Nat) : Ent := entN ((0x2120 + k) * 256 + 0x09) .f32 0
/-- `AO_TRIM_SPAN` of Table ANA-8. -/
def AO_TRIM_SPAN (k : Nat) : Ent := entN ((0x2120 + k) * 256 + 0x0A) .f32 1065353216
/-- `AO_TRIM_STEP` of Table ANA-8. -/
def AO_TRIM_STEP (k : Nat) : Ent := entN ((0x2120 + k) * 256 + 0x0B) .u8 0
/-- `AO_TRIM_READING` of Table ANA-8. -/
def AO_TRIM_READING (k : Nat) : Ent := entN ((0x2120 + k) * 256 + 0x0C) .f32 0
/-- `AO_TRIM_STATE` of Table ANA-8. -/
def AO_TRIM_STATE (k : Nat) : Ent := entN ((0x2120 + k) * 256 + 0x0D) .u8 0
/-- `COMPLIANCE_EVENTS` of Table ANA-8. -/
def COMPLIANCE_EVENTS (k : Nat) : Ent := entN ((0x2120 + k) * 256 + 0x0E) .u32 0
/-- `RESET_STATS` of Table ANA-8. -/
def RESET_STATS (k : Nat) : Ent := entN ((0x2120 + k) * 256 + 0x0F) .bool 0

end Sys2Proof.Machine.E.Ao

namespace Sys2Proof.Machine.E.Ana

/-- `AO_RAIL_V` of Table ANA-9. -/
def AO_RAIL_V : Ent := entN (0x213001) .f32 0
/-- `AO_COMPLIANCE_V` of Table ANA-9. -/
def AO_COMPLIANCE_V : Ent := entN (0x213002) .f32 0
/-- `AO_RAIL_CHANNEL` of Table ANA-9. -/
def AO_RAIL_CHANNEL : Ent := entN (0x213003) .u8 255
/-- `TX_POWER` of Table ANA-9. -/
def TX_POWER : Ent := entN (0x213004) .f32 0
/-- `ANALOG_STATE` of Table ANA-9. -/
def ANALOG_STATE : Ent := entN (0x213005) .u8 3
/-- `BURDEN_IN_CIRCUIT` of Table ANA-9. -/
def BURDEN_IN_CIRCUIT : Ent := entN (0x213006) .u32 0
/-- `SHED_EVENTS` of Table ANA-9. -/
def SHED_EVENTS : Ent := entN (0x213007) .u32 0

end Sys2Proof.Machine.E.Ana

namespace Sys2Proof.Machine.E.Ax

/-- `PROFILE` of Table MOV-7. -/
def PROFILE (k : Nat) : Ent := entN ((0x2200 + k) * 256 + 0x01) .u8 0
/-- `VEL_MAX` of Table MOV-7. -/
def VEL_MAX (k : Nat) : Ent := entN ((0x2200 + k) * 256 + 0x02) .f32 1176256512
/-- `ACCEL` of Table MOV-7. -/
def ACCEL (k : Nat) : Ent := entN ((0x2200 + k) * 256 + 0x03) .f32 1184645120
/-- `DECEL` of Table MOV-7. -/
def DECEL (k : Nat) : Ent := entN ((0x2200 + k) * 256 + 0x04) .f32 1184645120
/-- `JERK` of Table MOV-7. -/
def JERK (k : Nat) : Ent := entN ((0x2200 + k) * 256 + 0x05) .f32 1232348160
/-- `STOP_DECEL` of Table MOV-7. -/
def STOP_DECEL (k : Nat) : Ent := entN ((0x2200 + k) * 256 + 0x06) .f32 1195593728
/-- `LIMIT_DECEL` of Table MOV-7. -/
def LIMIT_DECEL (k : Nat) : Ent := entN ((0x2200 + k) * 256 + 0x07) .f32 1203982336
/-- `STEP_WIDTH` of Table MOV-7. -/
def STEP_WIDTH (k : Nat) : Ent := entN ((0x2200 + k) * 256 + 0x08) .u16 1000
/-- `DIR_SETUP` of Table MOV-7. -/
def DIR_SETUP (k : Nat) : Ent := entN ((0x2200 + k) * 256 + 0x09) .u16 5000
/-- `DIR_INVERT` of Table MOV-7. -/
def DIR_INVERT (k : Nat) : Ent := entN ((0x2200 + k) * 256 + 0x0A) .bool 0
/-- `ENA_ACTIVE_HIGH` of Table MOV-7. -/
def ENA_ACTIVE_HIGH (k : Nat) : Ent := entN ((0x2200 + k) * 256 + 0x0B) .bool 1
/-- `FLT_ACTIVE_HIGH` of Table MOV-7. -/
def FLT_ACTIVE_HIGH (k : Nat) : Ent := entN ((0x2200 + k) * 256 + 0x0C) .bool 0
/-- `AUTO_ENABLE` of Table MOV-7. -/
def AUTO_ENABLE (k : Nat) : Ent := entN ((0x2200 + k) * 256 + 0x0D) .bool 0
/-- `ENABLE_DELAY` of Table MOV-7. -/
def ENABLE_DELAY (k : Nat) : Ent := entN ((0x2200 + k) * 256 + 0x0E) .u16 50
/-- `IDLE_DISABLE` of Table MOV-7. -/
def IDLE_DISABLE (k : Nat) : Ent := entN ((0x2200 + k) * 256 + 0x0F) .u32 0
/-- `RETENTION` of Table MOV-7. -/
def RETENTION (k : Nat) : Ent := entN ((0x2200 + k) * 256 + 0x10) .u8 1
/-- `AXIS_SAFE_MODE` of Table MOV-7. -/
def AXIS_SAFE_MODE (k : Nat) : Ent := entN ((0x2200 + k) * 256 + 0x11) .u8 0
/-- `LIMIT_POS_INPUT` of Table MOV-7. -/
def LIMIT_POS_INPUT (k : Nat) : Ent := entN ((0x2200 + k) * 256 + 0x12) .u8 255
/-- `LIMIT_NEG_INPUT` of Table MOV-7. -/
def LIMIT_NEG_INPUT (k : Nat) : Ent := entN ((0x2200 + k) * 256 + 0x13) .u8 255
/-- `LIMIT_ACTIVE_LEVEL` of Table MOV-7. -/
def LIMIT_ACTIVE_LEVEL (k : Nat) : Ent := entN ((0x2200 + k) * 256 + 0x14) .u8 0
/-- `REF_INPUT` of Table MOV-7. -/
def REF_INPUT (k : Nat) : Ent := entN ((0x2200 + k) * 256 + 0x15) .u8 255
/-- `REF_EDGE` of Table MOV-7. -/
def REF_EDGE (k : Nat) : Ent := entN ((0x2200 + k) * 256 + 0x16) .u8 0
/-- `HOME_METHOD` of Table MOV-7. -/
def HOME_METHOD (k : Nat) : Ent := entN ((0x2200 + k) * 256 + 0x17) .u8 0
/-- `HOME_DIR` of Table MOV-7. -/
def HOME_DIR (k : Nat) : Ent := entN ((0x2200 + k) * 256 + 0x18) .u8 1
/-- `HOME_FAST_VEL` of Table MOV-7. -/
def HOME_FAST_VEL (k : Nat) : Ent := entN ((0x2200 + k) * 256 + 0x19) .f32 1167867904
/-- `HOME_SLOW_VEL` of Table MOV-7. -/
def HOME_SLOW_VEL (k : Nat) : Ent := entN ((0x2200 + k) * 256 + 0x1A) .f32 1140457472
/-- `HOME_DECEL` of Table MOV-7. -/
def HOME_DECEL (k : Nat) : Ent := entN ((0x2200 + k) * 256 + 0x1B) .f32 1195593728
/-- `HOME_DEBOUNCE` of Table MOV-7. -/
def HOME_DEBOUNCE (k : Nat) : Ent := entN ((0x2200 + k) * 256 + 0x1C) .u16 20
/-- `HOME_MAX_TRAVEL` of Table MOV-7. -/
def HOME_MAX_TRAVEL (k : Nat) : Ent := entN ((0x2200 + k) * 256 + 0x1D) .u64 1000000
/-- `HOME_POSITION` of Table MOV-7. -/
def HOME_POSITION (k : Nat) : Ent := entN ((0x2200 + k) * 256 + 0x1E) .u64 0
/-- `AXIS_COMMAND` of Table MOV-7. -/
def AXIS_COMMAND (k : Nat) : Ent := entB ((0x2200 + k) * 256 + 0x1F) .octets []
/-- `AXIS_STATE` of Table MOV-7. -/
def AXIS_STATE (k : Nat) : Ent := entN ((0x2200 + k) * 256 + 0x20) .u8 0
/-- `POSITION` of Table MOV-7. -/
def POSITION (k : Nat) : Ent := entN ((0x2200 + k) * 256 + 0x21) .u64 0
/-- `POS_VALID` of Table MOV-7. -/
def POS_VALID (k : Nat) : Ent := entN ((0x2200 + k) * 256 + 0x22) .bool 0
/-- `VELOCITY` of Table MOV-7. -/
def VELOCITY (k : Nat) : Ent := entN ((0x2200 + k) * 256 + 0x23) .f32 0
/-- `AXIS_FLAGS` of Table MOV-7. -/
def AXIS_FLAGS (k : Nat) : Ent := entN ((0x2200 + k) * 256 + 0x24) .u16 0
/-- `LAST_MOVE_ID` of Table MOV-7. -/
def LAST_MOVE_ID (k : Nat) : Ent := entN ((0x2200 + k) * 256 + 0x25) .u32 0
/-- `LAST_RESULT` of Table MOV-7. -/
def LAST_RESULT (k : Nat) : Ent := entN ((0x2200 + k) * 256 + 0x26) .u8 255
/-- `LAST_RESULT_TB3` of Table MOV-7. -/
def LAST_RESULT_TB3 (k : Nat) : Ent := entN ((0x2200 + k) * 256 + 0x27) .time96 0
/-- `LAST_ISSUED_MOVE` of Table MOV-7. -/
def LAST_ISSUED_MOVE (k : Nat) : Ent := entN ((0x2200 + k) * 256 + 0x28) .u32 0
/-- `LATCH_POSITION` of Table MOV-7. -/
def LATCH_POSITION (k : Nat) : Ent := entN ((0x2200 + k) * 256 + 0x29) .u64 0
/-- `LATCH_TB3` of Table MOV-7. -/
def LATCH_TB3 (k : Nat) : Ent := entN ((0x2200 + k) * 256 + 0x2A) .time96 0
/-- `HOME_FAIL_CAUSE` of Table MOV-7. -/
def HOME_FAIL_CAUSE (k : Nat) : Ent := entN ((0x2200 + k) * 256 + 0x2B) .u8 0
/-- `STEPS_EMITTED` of Table MOV-7. -/
def STEPS_EMITTED (k : Nat) : Ent := entN ((0x2200 + k) * 256 + 0x2C) .u64 0
/-- `MOVES` of Table MOV-7. -/
def MOVES (k : Nat) : Ent := entN ((0x2200 + k) * 256 + 0x2D) .u32 0
/-- `FAULTS` of Table MOV-7. -/
def FAULTS (k : Nat) : Ent := entN ((0x2200 + k) * 256 + 0x2E) .u32 0
/-- `RESET_STATS` of Table MOV-7. -/
def RESET_STATS (k : Nat) : Ent := entN ((0x2200 + k) * 256 + 0x2F) .bool 0

end Sys2Proof.Machine.E.Ax

namespace Sys2Proof.Machine.E.Mot

/-- `PROFILE_TICK` of Table MOV-8. -/
def PROFILE_TICK : Ent := entN (0x221001) .u16 10
/-- `AXES_MOVING` of Table MOV-8. -/
def AXES_MOVING : Ent := entN (0x221002) .u16 0
/-- `CMD_REJECTS` of Table MOV-8. -/
def CMD_REJECTS : Ent := entN (0x221003) .u32 0
/-- `RESET_STATS` of Table MOV-8. -/
def RESET_STATS : Ent := entN (0x221004) .bool 0

end Sys2Proof.Machine.E.Mot

namespace Sys2Proof.Machine.E.Si

/-- `SI_MODE` of Table SAF-8. -/
def SI_MODE (k : Nat) : Ent := entN ((0x6900 + k) * 256 + 0x01) .u8 0
/-- `SI_TP_A` of Table SAF-8. -/
def SI_TP_A (k : Nat) : Ent := entN ((0x6900 + k) * 256 + 0x02) .u8 0
/-- `SI_TP_B` of Table SAF-8. -/
def SI_TP_B (k : Nat) : Ent := entN ((0x6900 + k) * 256 + 0x03) .u8 0
/-- `SI_FILTER` of Table SAF-8. -/
def SI_FILTER (k : Nat) : Ent := entN ((0x6900 + k) * 256 + 0x04) .u16 0
/-- `SI_DISCREPANCY` of Table SAF-8. -/
def SI_DISCREPANCY (k : Nat) : Ent := entN ((0x6900 + k) * 256 + 0x05) .u16 0
/-- `SI_STATE` of Table SAF-8. -/
def SI_STATE (k : Nat) : Ent := entN ((0x6900 + k) * 256 + 0x06) .bool 0
/-- `SI_CONTACTS` of Table SAF-8. -/
def SI_CONTACTS (k : Nat) : Ent := entN ((0x6900 + k) * 256 + 0x07) .u8 0
/-- `SI_DIAG` of Table SAF-8. -/
def SI_DIAG (k : Nat) : Ent := entN ((0x6900 + k) * 256 + 0x08) .u8 0
/-- `SI_DEMANDS` of Table SAF-8. -/
def SI_DEMANDS (k : Nat) : Ent := entN ((0x6900 + k) * 256 + 0x09) .u32 0
/-- `SI_FAULTS` of Table SAF-8. -/
def SI_FAULTS (k : Nat) : Ent := entN ((0x6900 + k) * 256 + 0x0A) .u32 0
/-- `LAST_DEMAND_TB3` of Table SAF-8. -/
def LAST_DEMAND_TB3 (k : Nat) : Ent := entN ((0x6900 + k) * 256 + 0x0B) .time96 0
/-- `TP_STATE` of Table SAF-8. -/
def TP_STATE (k : Nat) : Ent := entN ((0x6910 + k) * 256 + 0x01) .u8 0
/-- `TP_CURRENT` of Table SAF-8. -/
def TP_CURRENT (k : Nat) : Ent := entN ((0x6910 + k) * 256 + 0x02) .f32 0
/-- `TP_FAULTS` of Table SAF-8. -/
def TP_FAULTS (k : Nat) : Ent := entN ((0x6910 + k) * 256 + 0x03) .u32 0

end Sys2Proof.Machine.E.Si

namespace Sys2Proof.Machine.E.Sb

/-- `SB_STATE` of Table SAF-9. -/
def SB_STATE (k : Nat) : Ent := entN ((0x6920 + k) * 256 + 0x01) .u8 0
/-- `SB_DIAG` of Table SAF-9. -/
def SB_DIAG (k : Nat) : Ent := entN ((0x6920 + k) * 256 + 0x02) .u16 0
/-- `SB_CURRENT` of Table SAF-9. -/
def SB_CURRENT (k : Nat) : Ent := entN ((0x6920 + k) * 256 + 0x03) .f32 0
/-- `SB_PULSE_WIDTH` of Table SAF-9. -/
def SB_PULSE_WIDTH (k : Nat) : Ent := entN ((0x6920 + k) * 256 + 0x04) .u16 0
/-- `SB_TEST_PERIOD` of Table SAF-9. -/
def SB_TEST_PERIOD (k : Nat) : Ent := entN ((0x6920 + k) * 256 + 0x05) .u16 0
/-- `SB_LAST_TEST_TB3` of Table SAF-9. -/
def SB_LAST_TEST_TB3 (k : Nat) : Ent := entN ((0x6920 + k) * 256 + 0x06) .time96 0
/-- `HT_STANDSTILL_SI` of Table SAF-9. -/
def HT_STANDSTILL_SI (k : Nat) : Ent := entN ((0x6920 + k) * 256 + 0x07) .u8 0
/-- `HT_SETTLE` of Table SAF-9. -/
def HT_SETTLE (k : Nat) : Ent := entN ((0x6920 + k) * 256 + 0x08) .u16 0
/-- `HT_DURATION` of Table SAF-9. -/
def HT_DURATION (k : Nat) : Ent := entN ((0x6920 + k) * 256 + 0x09) .u16 0
/-- `HT_INTERVAL` of Table SAF-9. -/
def HT_INTERVAL (k : Nat) : Ent := entN ((0x6920 + k) * 256 + 0x0A) .u16 0
/-- `HT_START` of Table SAF-9. -/
def HT_START (k : Nat) : Ent := entN ((0x6920 + k) * 256 + 0x0B) .bool 0
/-- `HT_STATE` of Table SAF-9. -/
def HT_STATE (k : Nat) : Ent := entN ((0x6920 + k) * 256 + 0x0C) .u8 0
/-- `HT_RESULT` of Table SAF-9. -/
def HT_RESULT (k : Nat) : Ent := entN ((0x6920 + k) * 256 + 0x0D) .u8 255
/-- `HT_AGE` of Table SAF-9. -/
def HT_AGE (k : Nat) : Ent := entN ((0x6920 + k) * 256 + 0x0E) .u32 0
/-- `SB_SWITCHINGS` of Table SAF-9. -/
def SB_SWITCHINGS (k : Nat) : Ent := entN ((0x6920 + k) * 256 + 0x0F) .u32 0
/-- `SB_FAULTS` of Table SAF-9. -/
def SB_FAULTS (k : Nat) : Ent := entN ((0x6920 + k) * 256 + 0x10) .u32 0

end Sys2Proof.Machine.E.Sb

namespace Sys2Proof.Machine.E.Esc

/-- `ESC_INVALID_A` of Table SAF-10. -/
def ESC_INVALID_A : Ent := entN (0x694001) .u32 0
/-- `ESC_INVALID_B` of Table SAF-10. -/
def ESC_INVALID_B : Ent := entN (0x694002) .u32 0
/-- `ESC_STATE` of Table SAF-10. -/
def ESC_STATE (k : Nat) : Ent := entN ((0x6950 + k) * 256 + 0x01) .u8 0
/-- `ESC_PEER_NODE` of Table SAF-10. -/
def ESC_PEER_NODE (k : Nat) : Ent := entN ((0x6950 + k) * 256 + 0x02) .u32 0
/-- `ESC_PEER_IP` of Table SAF-10. -/
def ESC_PEER_IP (k : Nat) : Ent := entN ((0x6950 + k) * 256 + 0x03) .u32 0
/-- `ESC_PEER_CONN` of Table SAF-10. -/
def ESC_PEER_CONN (k : Nat) : Ent := entN ((0x6950 + k) * 256 + 0x04) .u8 0
/-- `ESC_TX_LENGTH` of Table SAF-10. -/
def ESC_TX_LENGTH (k : Nat) : Ent := entN ((0x6950 + k) * 256 + 0x05) .u8 0
/-- `ESC_RX_LENGTH` of Table SAF-10. -/
def ESC_RX_LENGTH (k : Nat) : Ent := entN ((0x6950 + k) * 256 + 0x06) .u8 0
/-- `ESC_PERIOD` of Table SAF-10. -/
def ESC_PERIOD (k : Nat) : Ent := entN ((0x6950 + k) * 256 + 0x07) .u8 0
/-- `ESC_TIMEOUT` of Table SAF-10. -/
def ESC_TIMEOUT (k : Nat) : Ent := entN ((0x6950 + k) * 256 + 0x08) .u16 0
/-- `ESC_DEGRADED_TIME` of Table SAF-10. -/
def ESC_DEGRADED_TIME (k : Nat) : Ent := entN ((0x6950 + k) * 256 + 0x09) .u16 0
/-- `ESC_SIGNATURE` of Table SAF-10. -/
def ESC_SIGNATURE (k : Nat) : Ent := entN ((0x6950 + k) * 256 + 0x0A) .u32 0
/-- `ESC_DEGRADED_LEFT` of Table SAF-10. -/
def ESC_DEGRADED_LEFT (k : Nat) : Ent := entN ((0x6950 + k) * 256 + 0x0B) .u16 0
/-- `ESC_RTT_MAX` of Table SAF-10. -/
def ESC_RTT_MAX (k : Nat) : Ent := entN ((0x6950 + k) * 256 + 0x0C) .u32 0
/-- `ESC_ACCEPTED` of Table SAF-10. -/
def ESC_ACCEPTED (k : Nat) : Ent := entN ((0x6950 + k) * 256 + 0x0D) .u32 0
/-- `ESC_DEGRADED_ACCEPTS` of Table SAF-10. -/
def ESC_DEGRADED_ACCEPTS (k : Nat) : Ent := entN ((0x6950 + k) * 256 + 0x0E) .u32 0
/-- `ESC_TIMEOUTS` of Table SAF-10. -/
def ESC_TIMEOUTS (k : Nat) : Ent := entN ((0x6950 + k) * 256 + 0x0F) .u32 0
/-- `ESC_MISMATCHES` of Table SAF-10. -/
def ESC_MISMATCHES (k : Nat) : Ent := entN ((0x6950 + k) * 256 + 0x10) .u32 0

end Sys2Proof.Machine.E.Esc

namespace Sys2Proof.Machine.E.Saf

/-- `SAFETY_STATE` of Table SAF-11. -/
def SAFETY_STATE : Ent := entN (0x696001) .u8 0
/-- `SAFETY_CAUSE` of Table SAF-11. -/
def SAFETY_CAUSE : Ent := entN (0x696002) .u8 0
/-- `SAFETY_PAIRS` of Table SAF-11. -/
def SAFETY_PAIRS : Ent := entN (0x696003) .u8 0
/-- `SAFETY_CYCLE` of Table SAF-11. -/
def SAFETY_CYCLE : Ent := entN (0x696004) .u32 0
/-- `SAFETY_EXEC_MAX` of Table SAF-11. -/
def SAFETY_EXEC_MAX : Ent := entN (0x696005) .u32 0
/-- `SAFETY_RESET` of Table SAF-11. -/
def SAFETY_RESET : Ent := entN (0x696006) .bool 0
/-- `SAFE_WATCHDOG` of Table SAF-11. -/
def SAFE_WATCHDOG : Ent := entN (0x696007) .u16 0
/-- `TP_WIDTH` of Table SAF-11. -/
def TP_WIDTH : Ent := entN (0x696008) .u16 0
/-- `TP_PERIOD` of Table SAF-11. -/
def TP_PERIOD : Ent := entN (0x696009) .u16 0
/-- `SPS_CRC` of Table SAF-11. -/
def SPS_CRC : Ent := entN (0x69600A) .u32 0
/-- `SPS_ARCHIVE_CRC` of Table SAF-11. -/
def SPS_ARCHIVE_CRC : Ent := entN (0x69600B) .u32 0
/-- `SAFETY_STOPS` of Table SAF-11. -/
def SAFETY_STOPS : Ent := entN (0x69600C) .u32 0
/-- `SPS_OFFSET` of Table SAF-11. -/
def SPS_OFFSET : Ent := entN (0x696101) .u32 0
/-- `SPS_DATA` of Table SAF-11. -/
def SPS_DATA : Ent := entB (0x696102) .octets []
/-- `SPS_LENGTH` of Table SAF-11. -/
def SPS_LENGTH : Ent := entN (0x696103) .u32 0
/-- `SPS_COMMIT` of Table SAF-11. -/
def SPS_COMMIT : Ent := entN (0x696104) .u32 0
/-- `SPS_RESULT` of Table SAF-11. -/
def SPS_RESULT : Ent := entN (0x696105) .u8 255

end Sys2Proof.Machine.E.Saf

namespace Sys2Proof.Machine.E.Twin

/-- `TWIN_POSITION` of Table TWN-10. -/
def TWIN_POSITION : Ent := entN (0x740001) .u8 0
/-- `TWIN_ROLE` of Table TWN-10. -/
def TWIN_ROLE : Ent := entN (0x740002) .u8 2
/-- `READINESS` of Table TWN-10. -/
def READINESS : Ent := entN (0x740003) .u8 1
/-- `NOT_READY_CAUSE` of Table TWN-10. -/
def NOT_READY_CAUSE : Ent := entN (0x740004) .u8 0
/-- `PARTNER_ROLE` of Table TWN-10. -/
def PARTNER_ROLE : Ent := entN (0x740005) .u8 255
/-- `TWIN_STATUS` of Table TWN-10. -/
def TWIN_STATUS : Ent := entN (0x740006) .u16 0
/-- `LINK_STATE` of Table TWN-10. -/
def LINK_STATE : Ent := entN (0x740007) .u8 2
/-- `LANE_ERRORS` of Table TWN-10. -/
def LANE_ERRORS : Ent := entB (0x740008) .octets []
/-- `GEN_SENT` of Table TWN-10. -/
def GEN_SENT : Ent := entN (0x740009) .u32 0
/-- `GEN_COMMITTED` of Table TWN-10. -/
def GEN_COMMITTED : Ent := entN (0x74000A) .u32 0
/-- `CKPT_LAG` of Table TWN-10. -/
def CKPT_LAG : Ent := entN (0x74000B) .u32 0
/-- `DELTA_LAST` of Table TWN-10. -/
def DELTA_LAST : Ent := entN (0x74000C) .u32 0
/-- `DELTA_MAX` of Table TWN-10. -/
def DELTA_MAX : Ent := entN (0x74000D) .u32 0
/-- `RESYNCS` of Table TWN-10. -/
def RESYNCS : Ent := entN (0x74000E) .u32 0
/-- `AUDIT_INTERVAL` of Table TWN-10. -/
def AUDIT_INTERVAL : Ent := entN (0x74000F) .u16 10
/-- `AUDIT_MISMATCHES` of Table TWN-10. -/
def AUDIT_MISMATCHES : Ent := entN (0x740010) .u32 0
/-- `TOKEN_WATCHDOG` of Table TWN-10. -/
def TOKEN_WATCHDOG : Ent := entN (0x740011) .u16 5
/-- `TOKEN_PATH_FAULTS` of Table TWN-10. -/
def TOKEN_PATH_FAULTS : Ent := entN (0x740012) .u32 0
/-- `RESET_STATS` of Table TWN-10. -/
def RESET_STATS : Ent := entN (0x740013) .bool 0

end Sys2Proof.Machine.E.Twin

namespace Sys2Proof.Machine.E.Castle

/-- `AUTO_REJOIN` of Table TWN-11. -/
def AUTO_REJOIN : Ent := entN (0x740101) .bool 1
/-- `REJOIN` of Table TWN-11. -/
def REJOIN : Ent := entN (0x740102) .bool 0
/-- `CASTLE_NONCE` of Table TWN-11. -/
def CASTLE_NONCE : Ent := entN (0x740103) .u32 0
/-- `CASTLE_REQUEST` of Table TWN-11. -/
def CASTLE_REQUEST : Ent := entN (0x740104) .u32 0
/-- `CASTLE_RESULT` of Table TWN-11. -/
def CASTLE_RESULT : Ent := entN (0x740105) .u8 255
/-- `CASTLINGS` of Table TWN-11. -/
def CASTLINGS : Ent := entN (0x740106) .u32 0
/-- `LAST_CASTLING_CAUSE` of Table TWN-11. -/
def LAST_CASTLING_CAUSE : Ent := entN (0x740107) .u8 0
/-- `LAST_GAP` of Table TWN-11. -/
def LAST_GAP : Ent := entN (0x740108) .u32 0
/-- `LAST_COMPLETE` of Table TWN-11. -/
def LAST_COMPLETE : Ent := entN (0x740109) .u32 0
/-- `GAP_BOUND, COMPLETE_BOUND` of Table TWN-11. -/
def GAP_BOUND_COMPLETE_BOUND : Ent := entB (0x74010A) .octets []
/-- `PROOF_TEST` of Table TWN-11. -/
def PROOF_TEST : Ent := entN (0x74010B) .u32 0
/-- `PROOF_RESULT` of Table TWN-11. -/
def PROOF_RESULT : Ent := entN (0x74010C) .u8 255
/-- `PROOF_INTERVAL` of Table TWN-11. -/
def PROOF_INTERVAL : Ent := entN (0x74010D) .u16 2160
/-- `PROOF_AGE` of Table TWN-11. -/
def PROOF_AGE : Ent := entN (0x74010E) .u32 0

end Sys2Proof.Machine.E.Castle

namespace Sys2Proof.Machine.E.Ldg

/-- `BOOK_SIZE` of Table LDG-6. -/
def BOOK_SIZE : Ent := entN (0x700001) .u32 65536
/-- `BOOK_STATE` of Table LDG-6. -/
def BOOK_STATE : Ent := entN (0x700002) .u8 0
/-- `BOOK_OPEN` of Table LDG-6. -/
def BOOK_OPEN : Ent := entN (0x700003) .u32 0
/-- `BOOK_FIRST_SEQ` of Table LDG-6. -/
def BOOK_FIRST_SEQ : Ent := entN (0x700004) .u64 0
/-- `BOOK_COUNT` of Table LDG-6. -/
def BOOK_COUNT : Ent := entN (0x700005) .u32 0
/-- `RING_FIRST_SEQ` of Table LDG-6. -/
def RING_FIRST_SEQ : Ent := entN (0x700006) .u64 0
/-- `LAST_SEQ` of Table LDG-6. -/
def LAST_SEQ : Ent := entN (0x700007) .u64 0
/-- `CLEAR_SEQ` of Table LDG-6. -/
def CLEAR_SEQ : Ent := entN (0x700008) .u64 0
/-- `RING_SEGMENTS` of Table LDG-6. -/
def RING_SEGMENTS : Ent := entN (0x700009) .u16 767
/-- `BUFFER_FILL` of Table LDG-6. -/
def BUFFER_FILL : Ent := entN (0x70000A) .u32 0
/-- `BUFFER_FILL_MAX` of Table LDG-6. -/
def BUFFER_FILL_MAX : Ent := entN (0x70000B) .u32 0
/-- `RECORDS_LOST` of Table LDG-6. -/
def RECORDS_LOST : Ent := entN (0x70000C) .u32 0
/-- `RECORD_RATE` of Table LDG-6. -/
def RECORD_RATE : Ent := entN (0x70000D) .u16 0
/-- `SEGMENTS_RETIRED` of Table LDG-6. -/
def SEGMENTS_RETIRED : Ent := entN (0x70000E) .u16 0
/-- `LEDGER_NONCE` of Table LDG-6. -/
def LEDGER_NONCE : Ent := entN (0x70000F) .u32 0
/-- `BAD_SEGMENT` of Table LDG-6. -/
def BAD_SEGMENT : Ent := entN (0x700010) .u16 65535
/-- `READ_CURSOR` of Table LDG-6. -/
def READ_CURSOR : Ent := entN (0x700101) .u64 1
/-- `READ_BLOCK` of Table LDG-6. -/
def READ_BLOCK : Ent := entB (0x700102) .octets []
/-- `READ_CLEARED` of Table LDG-6. -/
def READ_CLEARED : Ent := entN (0x700103) .bool 0
/-- `READ_SKIPPED` of Table LDG-6. -/
def READ_SKIPPED : Ent := entN (0x700104) .u64 0
/-- `CLEAR_CHALLENGE` of Table LDG-6. -/
def CLEAR_CHALLENGE : Ent := entB (0x700201) .octets []
/-- `CLEAR_RING` of Table LDG-6. -/
def CLEAR_RING : Ent := entB (0x700202) .octets []
/-- `CLEAR_RESULT` of Table LDG-6. -/
def CLEAR_RESULT : Ent := entN (0x700203) .u8 255
/-- `CLEARS` of Table LDG-6. -/
def CLEARS : Ent := entN (0x700204) .u32 0

end Sys2Proof.Machine.E.Ldg

namespace Sys2Proof.Machine.E.Slate

/-- `PANEL_TYPE` of Table SLT-7. -/
def PANEL_TYPE : Ent := entN (0x780001) .u8 0
/-- `H_ACTIVE` of Table SLT-7. -/
def H_ACTIVE : Ent := entN (0x780002) .u16 800
/-- `V_ACTIVE` of Table SLT-7. -/
def V_ACTIVE : Ent := entN (0x780003) .u16 480
/-- `PCLK_DIV` of Table SLT-7. -/
def PCLK_DIV : Ent := entN (0x780004) .u8 2
/-- `H_TOTAL` of Table SLT-7. -/
def H_TOTAL : Ent := entN (0x780005) .u16 880
/-- `V_TOTAL` of Table SLT-7. -/
def V_TOTAL : Ent := entN (0x780006) .u16 500
/-- `POWER_MODE` of Table SLT-7. -/
def POWER_MODE : Ent := entN (0x780007) .u8 0
/-- `PANEL_ENABLE` of Table SLT-7. -/
def PANEL_ENABLE : Ent := entN (0x780008) .bool 1
/-- `PANEL_STATE` of Table SLT-7. -/
def PANEL_STATE : Ent := entN (0x780009) .u8 0
/-- `BACKLIGHT` of Table SLT-7. -/
def BACKLIGHT : Ent := entN (0x78000A) .u8 80
/-- `SLATE_MODE` of Table SLT-7. -/
def SLATE_MODE : Ent := entN (0x78000B) .u8 0
/-- `STRIP_Y` of Table SLT-7. -/
def STRIP_Y : Ent := entN (0x78000C) .u16 448
/-- `STRIP_IDLE` of Table SLT-7. -/
def STRIP_IDLE : Ent := entN (0x78000D) .u32 0
/-- `STRIP_BACKLIGHT` of Table SLT-7. -/
def STRIP_BACKLIGHT : Ent := entN (0x78000E) .u8 20
/-- `SLATE_DRAW` of Table SLT-7. -/
def SLATE_DRAW : Ent := entB (0x78000F) .octets []
/-- `UPDATES_RUNNING` of Table SLT-7. -/
def UPDATES_RUNNING : Ent := entN (0x780010) .u8 0
/-- `UPDATES_PENDING` of Table SLT-7. -/
def UPDATES_PENDING : Ent := entN (0x780011) .u8 0
/-- `LAST_DONE_ID` of Table SLT-7. -/
def LAST_DONE_ID : Ent := entN (0x780012) .u32 0
/-- `LAST_RESULT` of Table SLT-7. -/
def LAST_RESULT : Ent := entN (0x780013) .u8 255
/-- `REPLACED_COUNT` of Table SLT-7. -/
def REPLACED_COUNT : Ent := entN (0x780014) .u32 0
/-- `CRC_ERRORS` of Table SLT-7. -/
def CRC_ERRORS : Ent := entN (0x780015) .u32 0
/-- `DIRTY_REGIONS` of Table SLT-7. -/
def DIRTY_REGIONS : Ent := entN (0x780016) .u8 0
/-- `RESET_STATS` of Table SLT-7. -/
def RESET_STATS : Ent := entN (0x780017) .bool 0
/-- `PANEL_TEMP` of Table SLT-7. -/
def PANEL_TEMP : Ent := entN (0x780101) .f32 0
/-- `TEMP_SOURCE` of Table SLT-7. -/
def TEMP_SOURCE : Ent := entN (0x780102) .u8 1
/-- `TEMP_BAND` of Table SLT-7. -/
def TEMP_BAND : Ent := entN (0x780103) .u8 0
/-- `VCOM_POINTS` of Table SLT-7. -/
def VCOM_POINTS : Ent := entB (0x780104) .octets [51, 51, 131, 64, 154, 153, 121, 64, 205, 204, 108, 64, 51, 51, 99, 64, 205, 204, 92, 64]
/-- `VCOM_NOW` of Table SLT-7. -/
def VCOM_NOW : Ent := entN (0x780105) .f32 0
/-- `DRIVE_V` of Table SLT-7. -/
def DRIVE_V : Ent := entB (0x780106) .octets [0, 0, 112, 65, 0, 0, 112, 65, 0, 0, 112, 65, 0, 0, 104, 65, 0, 0, 96, 65, 0, 0, 88, 65, 0, 0, 80, 65, 0, 0, 72, 65]
/-- `PHASE_TIME` of Table SLT-7. -/
def PHASE_TIME : Ent := entB (0x780107) .octets [40, 0, 30, 0, 25, 0, 20, 0, 20, 0, 20, 0, 20, 0, 20, 0]
/-- `WAVEFORM_SET` of Table SLT-7. -/
def WAVEFORM_SET : Ent := entF (0x780108) .octets
/-- `WAVEFORM_ID` of Table SLT-7. -/
def WAVEFORM_ID : Ent := entN (0x780109) .u32 0
/-- `KEY_STATE` of Table SLT-7. -/
def KEY_STATE : Ent := entN (0x780201) .u8 0
/-- `KEY_PRESSES` of Table SLT-7. -/
def KEY_PRESSES : Ent := entB (0x780202) .octets []
/-- `KEY_LAST_TB3` of Table SLT-7. -/
def KEY_LAST_TB3 : Ent := entN (0x780203) .time96 0
/-- `SERVICE_MODE` of Table SLT-7. -/
def SERVICE_MODE : Ent := entN (0x780204) .bool 0

end Sys2Proof.Machine.E.Slate

namespace Sys2Proof.Machine.E.Pwr

/-- `SUP_VOLTAGE` of Table PWR-14. -/
def SUP_VOLTAGE : Ent := entN (0x120001) .f32 0
/-- `SUP_CURRENT` of Table PWR-14. -/
def SUP_CURRENT : Ent := entN (0x120002) .f32 0
/-- `ELECTRONICS_POWER` of Table PWR-14. -/
def ELECTRONICS_POWER : Ent := entN (0x120003) .f32 0
/-- `SUP_STATE` of Table PWR-14. -/
def SUP_STATE : Ent := entN (0x120004) .u8 0
/-- `SUP_MIN` of Table PWR-14. -/
def SUP_MIN : Ent := entN (0x120005) .f32 0
/-- `SUP_MAX` of Table PWR-14. -/
def SUP_MAX : Ent := entN (0x120006) .f32 0
/-- `HOLDUP_ENERGY` of Table PWR-14. -/
def HOLDUP_ENERGY : Ent := entN (0x120007) .f32 0
/-- `HOLDUP_STATE` of Table PWR-14. -/
def HOLDUP_STATE : Ent := entN (0x120008) .u8 0
/-- `POWER_FAILS` of Table PWR-14. -/
def POWER_FAILS : Ent := entN (0x120009) .u32 0
/-- `PF_CKPT_ENABLE` of Table PWR-14. -/
def PF_CKPT_ENABLE : Ent := entN (0x12000A) .bool 0
/-- `PF_CKPT_SIZE` of Table PWR-14. -/
def PF_CKPT_SIZE : Ent := entN (0x12000B) .u32 0
/-- `PF_CKPT_STATE` of Table PWR-14. -/
def PF_CKPT_STATE : Ent := entN (0x12000C) .u8 0
/-- `RAIL_STATE` of Table PWR-14. -/
def RAIL_STATE : Ent := entN (0x12000D) .u8 0
/-- `CLOCK_STATE` of Table PWR-14. -/
def CLOCK_STATE : Ent := entN (0x120101) .u8 0
/-- `CLOCK_FAULTS` of Table PWR-14. -/
def CLOCK_FAULTS : Ent := entN (0x120102) .u32 0
/-- `CROSSING_BOUNDS` of Table PWR-14. -/
def CROSSING_BOUNDS : Ent := entB (0x120103) .octets [0, 0, 40, 65, 0, 0, 104, 65, 0, 0, 240, 64, 0, 0, 88, 65, 0, 0, 132, 65, 0, 0, 132, 65]
/-- `MOUNT_TEMP` of Table PWR-14. -/
def MOUNT_TEMP : Ent := entN (0x120201) .f32 0
/-- `ASIC_TEMP` of Table PWR-14. -/
def ASIC_TEMP : Ent := entN (0x120202) .f32 0
/-- `MOUNT_TEMP_MAX` of Table PWR-14. -/
def MOUNT_TEMP_MAX : Ent := entN (0x120203) .f32 0
/-- `THERMAL_STATE` of Table PWR-14. -/
def THERMAL_STATE : Ent := entN (0x120204) .u8 0
/-- `OPERATING_HOURS` of Table PWR-14. -/
def OPERATING_HOURS : Ent := entN (0x120205) .u32 0

end Sys2Proof.Machine.E.Pwr

namespace Sys2Proof.Machine.E.Start

/-- `RESTART_KIND` of Table PWR-15. -/
def RESTART_KIND : Ent := entN (0x130101) .u8 0
/-- `START_COUNT` of Table PWR-15. -/
def START_COUNT : Ent := entN (0x130102) .u32 0
/-- `RESUME_TB3` of Table PWR-15. -/
def RESUME_TB3 : Ent := entN (0x130103) .time96 0
/-- `START_STEP` of Table PWR-15. -/
def START_STEP : Ent := entN (0x130104) .u8 0
/-- `FW_ACTIVE_SLOT` of Table PWR-15. -/
def FW_ACTIVE_SLOT : Ent := entN (0x130201) .u8 0
/-- `FW_SLOT_RELEASE` of Table PWR-15. -/
def FW_SLOT_RELEASE : Ent := entB (0x130202) .octets []
/-- `FW_SLOT_STATE` of Table PWR-15. -/
def FW_SLOT_STATE : Ent := entB (0x130203) .octets []
/-- `FW_STAGE_OFFSET` of Table PWR-15. -/
def FW_STAGE_OFFSET : Ent := entN (0x130204) .u32 0
/-- `FW_STAGE_DATA` of Table PWR-15. -/
def FW_STAGE_DATA : Ent := entB (0x130205) .octets []
/-- `FW_STAGE_CHECK` of Table PWR-15. -/
def FW_STAGE_CHECK : Ent := entN (0x130206) .bool 0
/-- `FW_STAGE_RESULT` of Table PWR-15. -/
def FW_STAGE_RESULT : Ent := entN (0x130207) .u8 255
/-- `FW_ACTIVATE` of Table PWR-15. -/
def FW_ACTIVATE : Ent := entN (0x130208) .u32 0
/-- `FW_NONCE` of Table PWR-15. -/
def FW_NONCE : Ent := entN (0x130209) .u32 0
/-- `SECURITY_VERSION` of Table PWR-15. -/
def SECURITY_VERSION : Ent := entN (0x13020A) .u16 0
/-- `FW_FALLBACKS` of Table PWR-15. -/
def FW_FALLBACKS : Ent := entN (0x13020B) .u32 0

end Sys2Proof.Machine.E.Start
end

