-- ==== Sys2Proof/Machine/Maps.lean ====
section
/-!
DEFINITION. Machine/Maps.lean: reading and writing sparse maps and addressed buffers in one canonical form: keys strictly
rising, and no cell equal to what an absent key reads as.
-/
namespace Sys2Proof.Machine

/-- The cell of key `k`, if the map lists one. -/
def cellAt {α : Type} : List (Nat × α) → Nat → Option α
  | [], _ => none
  | (j, v) :: m, k => if j = k then some v else cellAt m k

/-- The cells with key `k` listed with value `v`. -/
def cellPut {α : Type} : List (Nat × α) → Nat → α → List (Nat × α)
  | [], k, v => [(k, v)]
  | (j, w) :: m, k, v =>
    if k < j then (k, v) :: (j, w) :: m
    else if j = k then (k, v) :: m
    else (j, w) :: cellPut m k v

/-- The cells with key `k` not listed. -/
def cellDrop {α : Type} : List (Nat × α) → Nat → List (Nat × α)
  | [], _ => []
  | (j, w) :: m, k => if j = k then cellDrop m k else (j, w) :: cellDrop m k

/-- Every key is greater than `k` and the keys rise strictly. -/
def risingFrom {α : Type} : Nat → List (Nat × α) → Bool
  | _, [] => true
  | k, (j, _) :: m => decide (k < j) && risingFrom j m

/-- The keys rise strictly. -/
def rising {α : Type} : List (Nat × α) → Bool
  | [] => true
  | (j, _) :: m => risingFrom j m

end Sys2Proof.Machine

namespace Sys2Proof.SMap
open Sys2Proof.Machine

/-- The listed value of a key. -/
def find {α : Type} (m : SMap α) (k : Nat) : Option α := cellAt m.cells k

/-- The value of key `k`, `d` where the map lists none. -/
def fetch {α : Type} (m : SMap α) (d : α) (k : Nat) : α := (m.find k).getD d

/-- Key `k` gets value `v`; the default `d` is not listed. -/
def store {α : Type} [DecidableEq α] (m : SMap α) (d : α) (k : Nat) (v : α) : SMap α :=
  if v = d then { cells := cellDrop m.cells k } else { cells := cellPut m.cells k v }

/-- Key `k` gets value `v`, listed whatever it is. -/
def put {α : Type} (m : SMap α) (k : Nat) (v : α) : SMap α := { cells := cellPut m.cells k v }

/-- Key `k` is no longer listed. -/
def drop {α : Type} (m : SMap α) (k : Nat) : SMap α := { cells := cellDrop m.cells k }

/-- The value of key `k` replaced by `f` of it. -/
def modify {α : Type} [DecidableEq α] (m : SMap α) (d : α) (k : Nat) (f : α → α) : SMap α :=
  m.store d k (f (m.fetch d k))

/-- The listed keys. -/
def keys {α : Type} (m : SMap α) : List Nat := m.cells.map (·.1)

/-- The listed values. -/
def vals {α : Type} (m : SMap α) : List α := m.cells.map (·.2)

/-- The cells whose key satisfies `p`. -/
def keep {α : Type} (m : SMap α) (p : Nat → Bool) : SMap α := { cells := m.cells.filter (fun c => p c.1) }

/-- The canonical form: keys strictly rising, no cell equal to the default `d`. -/
def wf {α : Type} [DecidableEq α] (m : SMap α) (d : α) : Bool :=
  rising m.cells && m.cells.all (fun c => decide (c.2 ≠ d))

end Sys2Proof.SMap

namespace Sys2Proof.Memory
open Sys2Proof.Machine

/-- The byte at address `a`. -/
def read (m : Memory) (a : Nat) : Byte := m.fetch 0 a

/-- The byte at address `a` becomes `b`. -/
def write (m : Memory) (a : Nat) (b : Byte) : Memory := m.store 0 a b

/-- `n` bytes from address `a`. -/
def readList (m : Memory) (a n : Nat) : List Byte := (List.range n).map (fun i => read m (a + i))

/-- The bytes `bs` written from address `a`. -/
def writeList (m : Memory) : Nat → List Byte → Memory
  | _, [] => m
  | a, b :: bs => writeList (write m a b) (a + 1) bs

/-- The canonical form of a buffer. -/
def wf (m : Memory) : Bool := SMap.wf m 0

end Sys2Proof.Memory
end

