-- ==== Sys2Proof/Machine/State.lean ====
section
/-!
DEFINITION. Machine/State.lean: the state of the block as plain data: the dictionary (every entry of every chapter), the
rings, and what each unit holds beside its entries.
-/
namespace Sys2Proof.Machine

/-! ## Rings and the log -/

/-- An event on its way to the ledger (Table LDG-4): source, event, payload and TB3 stamp in nanoseconds. -/
structure LogEntry where
  source : Nat
  event : Nat
  payload : List Byte
  tb3 : Int
deriving DecidableEq, Repr

/-! ## The dictionary server, sessions and the Epsil Object Protocol -/

/-- A segmented transfer (R65, R66): its entry, the snapshot of a read or the segments held of a write. -/
structure Transfer where
  write : Bool
  key : Nat
  ty : Ty
  total : Nat
  /-- The snapshot of a read. -/
  data : List Byte := []
  /-- The segments of a write that have arrived. -/
  segs : SMap (List Byte) := {}
  lastReq : Int
deriving DecidableEq, Repr

/-- An item staged in a group (R68). -/
structure GroupItem where
  key : Nat
  value : Value
deriving DecidableEq, Repr

/-- An open group (R68, R70). -/
structure Group where
  id : Nat
  items : List GroupItem := []
  lastReq : Int
deriving DecidableEq, Repr

/-- A subscription (Table DIC-12, R71). -/
structure Subscription where
  id : Nat
  key : Nat
  mode : Nat
  periodMs : Nat
  deadband : Nat
  lastValue : Option Value := none
  lastSample : Int
  lastNotify : Int
  seq : Nat := 0
  port : Nat
  ip : Nat
  udp : Nat
deriving DecidableEq, Repr

/-- A kept response (R82). -/
structure KeptResponse where
  transaction : Nat
  service : Nat
  status : Nat
  payload : List Byte
deriving DecidableEq, Repr

/-- A session (R77 to R80). -/
structure Session where
  id : Nat
  level : Level
  key : List Byte
  port : Nat
  ip : Nat
  udp : Nat
  mac : Nat
  node : Nat
  /-- Highest accepted SEQUENCE. -/
  high : Nat := 0
  /-- Accepted values among the last 32: bit k is `high - k`. -/
  window : Nat := 0
  /-- The values below `high` that it has passed since the session opened, at most 31. -/
  passed : Nat := 0
  txSeq : Nat := 0
  idleMs : Nat
  lastReq : Int
  cache : List KeptResponse := []
  transfer : Option Transfer := none
  /-- The last transfer ended by its idle time (R67). -/
  timedOut : Bool := false
  group : Option Group := none
  subs : List Subscription := []
  /-- The ledger reader of R514: READ_CURSOR, READ_CLEARED, READ_SKIPPED, and rejected clears (R515). -/
  cursor : Nat := 1
  readCleared : Bool := false
  skipped : Nat := 0
  clearRejects : Nat := 0
deriving DecidableEq, Repr

/-- A login challenge (R77, R78). -/
structure Challenge where
  id : Nat
  level : Nat
  client : List Byte
  nonce : List Byte
  issued : Int
deriving DecidableEq, Repr

/-- A response that waits for the owning block's decision of an abort (R83), or for a mirrored write to be stored in the standby too
(R484): who asked, and which SOLVE_ID of which board or,
with `motion`, which MOVE_ID of which axis. -/
structure Deferred where
  motion : Bool := false
  /-- The decision: OK or TOO_LATE. -/
  status : Option Nat := none
  session : Nat
  transaction : Nat
  service : Nat
  board : Nat
  solveId : Nat
  /-- The generation of the delta that mirrors the write: answered once the standby has stored it (R484). -/
  gen : Option Nat := none
  /-- The request's source, its node, and the payload that the response carries. -/
  origin : Origin := { port := 0, ip := 0, udp := 0 }
  node : Nat := 0
  payload : List Byte := []
deriving DecidableEq, Repr

/-- The quench filters' internal side (R73 to R75): the installing session and the end instant. -/
structure QuenchOwner where
  session : Nat
  until_ : Option Int
  node : Nat
deriving DecidableEq, Repr

/-- The dictionary server and the EOP server beside the entries. -/
structure EopSt where
  sessions : List Session := []
  challenges : List Challenge := []
  nextChallenge : Nat := 1
  /-- Failed logins of the last 60 s: source address and instant (R78). -/
  failures : List (Nat × Int) := []
  /-- Blocked source addresses and the end of the block (R78). -/
  blocks : List (Nat × Int) := []
  /-- Instants in the last second of IDENTIFY answers and of refusals, per port (R76, R79). -/
  identified : List (Nat × Int) := []
  refusals : List (Nat × Int) := []
  /-- Next group number and subscription numbers in use. -/
  nextGroup : Nat := 1
  deferred : List Deferred := []
  quench : SMap QuenchOwner := {}
  /-- The dictionary port's own ledger reader (R514, R518). -/
  portCursor : Nat := 1
  portCleared : Bool := false
  portSkipped : Nat := 0
  /-- The dictionary port's own segmented transfer and group (R56, R65, R68). -/
  portTransfer : Option Transfer := none
  portTimedOut : Bool := false
  portGroup : Option Group := none
  /-- Retained entries that are invalid after a failed restore (R54). -/
  invalid : List Nat := []
deriving DecidableEq, Repr

/-- One copy of a block of the retained-settings partition (R53, R582): generation, whether its CRC-32 is valid, the release that
wrote it, and the cells it holds by entry key. -/
structure BlockCopy where
  gen : Nat := 0
  ok : Bool := true
  release : Nat := 0x0302
  cells : SMap Value := {}
deriving DecidableEq, Repr

/-- A block of the retained-settings partition in its two copies X and Y (R53). -/
structure Block where
  x : BlockCopy := {}
  y : BlockCopy := {}
deriving DecidableEq, Repr

/-! ## The cyclic runtime -/

/-- A position (Table FRM-10). -/
structure Position where
  status : Nat := 0x13
  flags : Nat := 0
  valid : Bool := false
  n : Nat := 0
  m : Nat := 0
  iterations : Nat := 0
  refineMax : Nat := 0
  refactors : Nat := 0
  solveId : Nat := 0
  lastSeq : Nat := 0
  lastReject : Nat := 0
  perturbed : Nat := 0
  outcomeTb3 : Nat := 0
  primRes : Nat := 0
  dualRes : Nat := 0
  solvedId : Nat := 0
  solvedTb3 : Nat := 0
  objective : Nat := 0
  x : List Nat := []
  y : List Nat := []
deriving DecidableEq, Repr

/-- The outcome record of a board number (R208), with the position that committed with it. -/
structure Outcome where
  solveId : Nat := 0
  status : Nat := 0x13
  flags : Nat := 0
  tb3 : Nat := 0
  pos : Option Position := none
deriving DecidableEq, Repr

/-- What a turn's copy-in froze at the release (R89, R90, Table RUN-3). -/
structure Snapshot where
  release : Int
  tb0 : Nat
  tb0State : Nat
  di : Nat
  /-- AI channel: binary32 current in mA and diagnostic bits. -/
  ai : SMap (Nat × Nat)
  /-- Station: live or substitute, and its input bytes. -/
  rio : SMap (Bool × List Byte)
  /-- Committed outputs OUT0 and OUT1 of each loop. -/
  loops : SMap (Nat × Nat)
  /-- Outcome record and position of each board (R32, R208). -/
  solves : SMap Outcome
  /-- Axis: position, velocity bits and state. -/
  axes : SMap (Nat × Nat × Nat)
  /-- Frames of each channel's RXQ, and the responses on ring 30 as service, status and payload. -/
  can : List (Nat × List Byte) := []
  rsp : List (Nat × Nat × List Byte) := []
  /-- Packets of MBX0 (R37). -/
  mbx : List (List Byte) := []
deriving DecidableEq, Repr

/-- What a copy-in replaced in its task, which an abandoned turn leaves as it was (R94, R134). -/
structure CopyIn where
  late : Bool
  resumed : Bool
  image : Option Snapshot
  canIn : List (Nat × List Byte)
  rspIn : List (Nat × Nat × List Byte)
  /-- START_LATENCY_MAX before the copy-in. -/
  latency : Nat
deriving DecidableEq, Repr

/-- A turn in progress (R86, R87): frozen at its release, started at its copy-in. -/
structure Turn where
  snap : Snapshot
  started : Bool := false
  startAt : Int := 0
  /-- Overran its next release, and the releases it skipped (R95, R96). -/
  overran : Bool := false
  skips : Nat := 0
  held : Bool := false
  /-- STEP: runs to its next breakpoint or its commit, then holds (R97). -/
  stepping : Bool := false
  first : Bool := false
  header : List Byte := []
  errors : List ErrRec := []
  /-- Writes to the task's exports that its copy-in took (R58). -/
  exports : List (Nat × Value) := []
  /-- Releases between the previous turn's release and this one that started no turn (Table RUN-4). -/
  skipped : Nat := 0
  /-- LAST_RELEASE before this release (R134). -/
  lastRelease : Nat := 0
  before : Option CopyIn := none
deriving DecidableEq, Repr

/-- What a task holds beside its entries. -/
structure RtTask where
  attr : Option TaskAttr := none
  turn : Option Turn := none
  /-- The next turn carries FIRST_TURN, LATE_PREVIOUS, RESUMED (Table RUN-4). -/
  first : Bool := false
  late : Bool := false
  resumed : Bool := false
  /-- Releases since the last turn's release that started no turn (Table RUN-4). -/
  skipped : Nat := 0
  turnNumber : Nat := 0
  errors : List ErrRec := []
  view : SMap BoardView := {}
  /-- Release of the turn that a restart abandoned, for the RESUMED record. -/
  abandonedRelease : Option Int := none
  /-- Input image of the turn in progress or the last one. -/
  image : Option Snapshot := none
  /-- CAN frames and dictionary responses that the copy-in took. -/
  canIn : List (Nat × List Byte) := []
  /-- Service, status and payload of each response. -/
  rspIn : List (Nat × Nat × List Byte) := []
  /-- Last committed output image, by point (R110). -/
  outs : SMap Nat := {}
deriving DecidableEq, Repr

/-- The runtime beside the tasks. -/
structure RuntimeSt where
  tasks : SMap RtTask := {}
  archive : Option Archive := none
  previous : Option Archive := none
  /-- Values of "From archive" entries that an online change kept, where the running archive's differ (R260, R263). -/
  kept : SMap Value := {}
  /-- An archive in flash that the running firmware rejects (R9, R556). -/
  refused : Option Archive := none
  /-- Staging bytes (R113) and the archive that passed the last apply and waits for its changeover boundary (R114). -/
  staging : Memory := {}
  armed : Option (Archive × Int) := none
  /-- The archive that waits is a full load, applied in STOP (R113). -/
  armedFull : Bool := false
  /-- Program variables and function-block instances by path (R103, R115). -/
  vars : SMap (List Byte) := {}
  insts : SMap FbInst := {}
  /-- Retained variables and instances in MRAM (R103, R560). -/
  retained : SMap (List Byte) := {}
  retInsts : SMap FbInst := {}
  /-- Value last committed for each output point by its writer (R92, R110). -/
  outs : SMap Nat := {}
  /-- Value in effect for each output point since the last frame boundary, forces and safe states included. -/
  effective : SMap Nat := {}
  /-- Active forces on output points as of the last frame boundary (R109): point and raw value. -/
  forced : List (Nat × Nat) := []
  /-- Points whose orphaned force was removed and that take their SAFE value at the next frame boundary (R112). -/
  freed : List Nat := []
  /-- STOP was entered and the STOP_ACTIONs await the next frame boundary (R98). -/
  stopApply : Bool := false
  /-- HOLD entry instant (R97). -/
  holdSince : Option Int := none
  /-- Writes accepted to exports that await the owning task's next copy-in (R58). -/
  exportIn : SMap Value := {}
  /-- Exports as of the last commit of the owning task. -/
  exports : SMap Value := {}
deriving DecidableEq, Repr

/-! ## The Doubles -/

/-- What a pair holds beside its entries. -/
structure PairSt where
  /-- Detection stamps of mismatches, newest first (R138). -/
  stamps : List Int := []
  /-- Latest detection of the restart in progress (R133). -/
  detected : Int := 0
  /-- The restart in progress continues from the twin checkpoint (R492). -/
  castling : Bool := false
deriving DecidableEq, Repr

/-! ## The Counting Frame -/

/-- The solver settings of Table FRM-11, as the binary32 bits or integers that the 64-byte block holds. -/
structure Settings where
  maxIter : Nat := 600
  checkInterval : Nat := 8
  epsAbs : Nat := 0x3951B717
  epsRel : Nat := 0x3951B717
  epsPinf : Nat := 0x37FBA882
  epsDinf : Nat := 0x37FBA882
  rho : Nat := 0x3E800000
  rhoEq : Nat := 0x41C80000
  rhoFree : Nat := 0x3727C5AC
  sigma : Nat := 0x360637BD
  omega : Nat := 0x3FC00000
  epsPiv : Nat := 0x358637BD
  delta : Nat := 0x3727C5AC
  refineSteps : Nat := 3
  stepAdapt : Nat := 0
  adaptMax : Nat := 2
  warmStart : Nat := 1
  refineTol : Nat := 0x358637BD
  boundInf : Nat := 0x60AD78EC
deriving DecidableEq, Repr

/-- The structure that a descriptor fixes (Tables FRM-2 and FRM-3): sizes, patterns, ordering, scaling. -/
structure Desc where
  rod : Bool := false
  lo : Bool := false
  n : Nat := 0
  m : Nat := 0
  nnzP : Nat := 0
  nnzA : Nat := 0
  nnzL : Nat := 0
  signature : Nat := 0
  totalLength : Nat := 0
  tag : Nat := 0
  writer : Nat := 0xFF
  name : List Byte := []
  scaleD : List Nat := []
  scaleE : List Nat := []
  pCol : List Nat := []
  pRow : List Nat := []
  aCol : List Nat := []
  aRow : List Nat := []
  perm : List Nat := []
  etree : List Nat := []
  colCount : List Nat := []
deriving DecidableEq, Repr

/-- The numbers of a board in its own units (R166): binary32 bits. -/
structure BoardVals where
  p : List Nat := []
  a : List Nat := []
  q : List Nat := []
  l : List Nat := []
  u : List Nat := []
deriving DecidableEq, Repr

/-- A numeric factor L D_K L^T (R176, R584): per elimination position the entries (i, L[i][k]) below the diagonal, and
the pivots; `perturbed` counts the pivots replaced under R177. -/
structure Factor where
  cols : List (List (Nat × Nat)) := []
  diag : List Nat := []
  perturbed : Nat := 0
deriving DecidableEq, Repr

/-- The warm-start candidate of R203. -/
structure Candidate where
  x : List Nat
  y : List Nat
  z : List Nat
  signature : Nat
deriving DecidableEq, Repr

/-- A solve request as it was taken (Table FRX-1, R197). -/
structure SolveReq where
  solveId : Nat
  source : Nat
  deadline : Int
  cold : Bool
  issued : Int
  taken : Int
  /-- Taken from SUBMIT_HI (R195). -/
  hi : Bool
  /-- Order of the take. -/
  order : Nat
deriving DecidableEq, Repr

/-- An entry of a board's queue (R192): a deferred batch with its source and ring, or the waiting request. -/
inductive QItem where
  | batch (source : Nat) (hi : Bool) (bytes : List Byte)
  | req (r : SolveReq)
deriving DecidableEq, Repr

/-- A dispatched solve: request, home, dispatch instant, start iterates in the scaled problem, flags of Table FRX-4. -/
structure Run where
  req : SolveReq
  home : Nat
  at_ : Int
  x0 : List Nat
  z0 : List Nat
  y0 : List Nat
  startFlags : Nat
  /-- Aborts taken for this solve whose latch is not yet set (R201). -/
  aborts : Nat := 0
deriving DecidableEq, Repr

/-- A board number and what it holds. `pos` and `posOther` are the two buffers of R172; `cur` counts switches. -/
structure Board where
  /-- 0 EMPTY, 1 LOADING, 2 RESIDENT, 3 INVALID. -/
  st : Nat := 0
  /-- 0 archive, 1 dictionary, 0xFF none. -/
  source : Nat := 0xFF
  desc : Desc := {}
  vals : BoardVals := {}
  set : Settings := {}
  /-- Cost scale c of R175 (binary32 bits). -/
  c : Nat := 0x3F800000
  /-- Adaptation factor of R184 (binary32 bits). -/
  adapt : Nat := 0x3F800000
  factor : Option Factor := none
  refactor : Bool := false
  lastSeq : Nat := 0
  lastReject : Nat := 0
  rejectPending : Bool := false
  resetPos : Bool := false
  warm : Option Candidate := none
  pos : Position := {}
  posOther : Position := {}
  cur : Nat := 0
  queue : List QItem := []
  run : Option Run := none
  accepted : Nat := 0
  rejected : Nat := 0
  refactors : Nat := 0
  /-- A load or an unload that waits for the running solve (R160, R161): the descriptor's bytes, none for an unload. -/
  replace : Option (Option (List Byte)) := none
  /-- The new board is being written into the store (R160); the descriptor's bytes. -/
  loading : Option (List Byte) := none
deriving DecidableEq, Repr

/-- An entry of a SUBMIT ring (Table FRX-1), with its batch (R188). -/
structure SubmitEntry where
  item : SubmitItem
  source : Nat
  solveId : Nat
  issued : Int
deriving DecidableEq, Repr

/-- An entry of DONE (Table FRX-6). -/
structure DoneEntry where
  kind : Nat
  board : Nat
  status : Nat
  flags : Nat
  solveId : Nat
  tb3 : Int
  iterations : Nat
  home : Nat
  source : Nat
  waitUs : Nat
  execUs : Nat
deriving DecidableEq, Repr

/-- The Frame beside its boards. -/
structure FrameSt where
  boards : SMap Board := {}
  /-- The last outcome's DONE entry of each board (R209). -/
  ended : SMap DoneEntry := {}
  staging : Memory := {}
  /-- Descriptors of dictionary boards in flash (R152). -/
  flash : SMap (List Byte) := {}
  /-- Requests issued per source (R189). -/
  idCount : SMap Nat := {}
  /-- Board whose full queue pauses a ring (R192): SUBMIT_HI and SUBMIT_LO. -/
  pauseHi : Option Nat := none
  pauseLo : Option Nat := none
  takes : Nat := 0
  /-- Rod reservations (R195): rod to the order of the reserving request plus one. -/
  reserved : SMap Nat := {}
  /-- The outcome of each board before those of the instant of its last outcome (R32, R33). -/
  before : SMap Outcome := {}
  /-- Busy intervals of each bead that ended in the last 1,000 ms (BEAD_BUSY). -/
  busy : SMap (List (Int × Int)) := {}
deriving DecidableEq, Repr

/-- Whom a request of the object protocol is answered (R59, R82): its source, session, transaction and node. -/
structure EopBack where
  origin : Origin
  session : Nat
  transaction : Nat
  node : Nat
deriving DecidableEq, Repr

/-- A request on OD_REQ (R50, R56, R57): service and payload, of a task at the runtime's dictionary port or of a frame of the object
protocol. -/
structure OdReq where
  task : Nat := 0
  req : DictReq
  eop : Option EopBack := none
deriving DecidableEq, Repr

/-- A response on OD_RSP for a task (R57): service, status and payload. -/
structure OdRsp where
  task : Nat
  service : Nat
  status : Nat
  payload : List Byte
  /-- TB3 of its commit on the ring. -/
  at_ : Nat := 0
deriving DecidableEq, Repr

/-- A delivered frame on RXH, RXL or SAFE_RX (Table NET-3). -/
structure RxFrame where
  cls : Nat
  flags : Nat
  ns : Nat
  frame : EthFrame
deriving DecidableEq, Repr

/-- An entry of a ring (Table ARC-6), by what the ring carries. -/
inductive RingEntry where
  | tx (f : TxFrame)
  | rx (f : RxFrame)
  | submit (e : SubmitEntry)
  | done (e : DoneEntry)
  /-- LOOP_EVT, FIELD_DIAG, MOTION_EVT, TS_EVT, MBX0, MBX1, CAN RXQ: the entry's bytes. -/
  | bytes (b : List Byte)
  | log (e : LogEntry)
  | odReq (r : OdReq)
  | odRsp (r : OdRsp)
  /-- CKPT_TX, CKPT_RX: generation and bytes of a delta. -/
  | ckpt (gen size : Nat)
  /-- RIO_OUT, RIO_IN, RIO_ACYC_REQ, RIO_ACYC_RSP: station and bytes. -/
  | rio (station : Nat) (data : List Byte)
  | can (e : CanTx)
  | motion (e : MotionCmd)
  | slate (e : SlateUpd)
  /-- SAFE_TX_A, SAFE_TX_B, SAFE_RX_A, SAFE_RX_B: the ESC payload. -/
  | esc (e : EscFrame)
deriving DecidableEq, Repr

/-- A ring (R36): the tail index, the entries from tail to head, the entries that a STALL has their producer hold, since when its
producer pauses, and for how many nanoseconds it had paused before (R38, R39). -/
structure Ring where
  tail : Nat := 0
  q : List RingEntry := []
  waiting : List RingEntry := []
  stallSince : Option Nat := none
  stalled : Nat := 0
deriving DecidableEq, Repr

/-! ## Tally -/

/-- A range that is being watched for a freeze (R249): since when, the extremes of the input and those of the MAN_POINT values
of the samples in it (binary32 bits). -/
structure FreezeWin where
  since : Int
  lo : Nat
  hi : Nat
  out : Option (Nat × Nat) := none
deriving DecidableEq, Repr

/-- The supervision of one PV input (R248, R249, R252). -/
structure PvWatch where
  badSince : Option Int := none
  goodSince : Option Int := none
  lost : Bool := false
  frozen : Bool := false
  win : Option FreezeWin := none
  /-- Extremes of the input since a freeze was detected (R252). -/
  since : Option (Nat × Nat) := none
deriving DecidableEq, Repr

/-- A PV action in force (R250, R251): the action of Table TLY-9; under ALT_PV the fallback in force. -/
structure PvAct where
  action : Nat
  fallback : Option Nat := none
deriving DecidableEq, Repr

/-- What a loop gives other loops (R220, R242, R243): OUT0, OUT1, PV, SP_ACTIVE, LOOP_MODE, MODE_ACTIVE, and whether its setpoint
source was clamped in its last sample: 1 at SP_HI, 2 at SP_LO. -/
structure LoopVals where
  out0 : Nat := 0
  out1 : Nat := 0
  pv : Nat := 0
  sp : Nat := 0
  mode : Nat := 0
  active : Nat := 0
  clamp : Nat := 0
deriving DecidableEq, Repr

/-- What a loop slot holds beside its entries. States are binary32 bits by 4 * position + state number. -/
structure LoopSt where
  attr : Option LoopDef := none
  states : SMap Nat := {}
  /-- Stage outputs of the last computed sample. -/
  outs : List Nat := []
  lastMan : Nat := 0
  /-- Last good value of each input, and of the CASCADE setpoint source. -/
  good : SMap Nat := {}
  spGood : Option Nat := none
  /-- LOOP_MODE of the last computed sample; none before the first sample. -/
  lastMode : Option Nat := none
  /-- Target of the first sample after a castling (R259); none presets as R258 says. -/
  startMan : Option Nat := none
  bankSel : Option Nat := none
  paramWrite : Bool := false
  /-- RESET_STATS awaits the next frame boundary (R262). -/
  resetStats : Bool := false
  /-- LOOP_EVT entries of the last samples that await the commit (R257, R265). -/
  events : List (List Byte) := []
  faultSwap : Bool := false
  returnCount : Nat := 0
  /-- Outputs computed in this frame that commit at the next boundary: OUT0, OUT1. -/
  staged : Option (Nat × Nat) := none
  /-- Values computed last, and values committed at the current frame's boundary (R220). -/
  cur : LoopVals := {}
  com : LoopVals := {}
  pv0 : PvWatch := {}
  pv1 : PvWatch := {}
  action : Option PvAct := none
  /-- Retained entries that the loop changed and that await their store (R585): key and instant of the change. -/
  dirty : List (Nat × Int) := []
deriving DecidableEq, Repr

/-- Tally beside the loops. -/
structure TallySt where
  loops : SMap LoopSt := {}
  /-- Task words (R221), binary32 bits. -/
  words : SMap Nat := {}
  /-- The RESUME boundary has passed, and the last frame boundary. -/
  running : Bool := false
  frameAt : Option Nat := none
  /-- The record of each loop as it stood at that boundary, before the samples of the frame (R259). -/
  recs : SMap LoopRec := {}
  /-- OUT0 and OUT1 of each loop before the commits of that boundary (R89). -/
  before : SMap (Nat × Nat) := {}
deriving DecidableEq, Repr
/-! ## Time bases -/

/-- A stretch of a base's history (R274): from the TB3 instant on, the value (units of 2^-64 ns) and FREQ_ADJ (ppt). -/
structure TbSeg where
  from_ : Nat
  val : Int
  freq : Int
deriving DecidableEq, Repr

/-- A path of a PTP instance (R285, R286): its last usable Sync, the offset measured on it, its mean path delay. -/
structure PtpPath where
  /-- Syncs without a gap of 4 intervals. -/
  run : Nat := 0
  lastSync : Option Int := none
  /-- Offset, base minus master, in units of 2^-16 ns. -/
  offset : Int := 0
  /-- Sync waiting for its Follow_Up: sequence, receive stamp, instant. -/
  pending : Option (Nat × Int × Int) := none
  /-- t1, t2 of the last usable Sync; t3 and sequence of the last Delay_Req (base units 2^-16 ns). -/
  t1 : Int := 0
  t2 : Int := 0
  t3 : Option (Nat × Int) := none
  /-- Mean path delay in units of 2^-16 ns (E2E), none before it is measured. -/
  delay : Option Int := none
deriving DecidableEq, Repr

/-- A time base TB0 to TB2 with its PTP instance and servo. -/
structure BaseSt where
  /-- Newest first; never empty in a reachable state: an empty list stands for one stretch from 0. -/
  segs : List TbSeg := []
  everLocked : Bool := false
  /-- A SET has made the base LOCKED in role DISABLED (R270). -/
  setLocked : Bool := false
  /-- Consecutive Syncs within LOCK_THRESHOLD, and beyond 8 times it (Table TIM-2). -/
  inside : Nat := 0
  outside : Nat := 0
  /-- The last 64 FREQ_ADJ values while LOCKED. -/
  lockedAdj : List Int := []
  holdSince : Nat := 0
  master : Option Announce := none
  /-- The last Announce of the master, or the start of the instance in its role. -/
  announceAt : Nat := 0
  /-- BC_FROM_TB0: TB1 equals TB0 from this instant on (R282). -/
  bcSince : Nat := 0
  pathA : PtpPath := {}
  pathB : PtpPath := {}
  /-- Sequence numbers of the Sync, Announce, Delay_Req and Pdelay_Req messages that it sends. -/
  txSync : Nat := 0
  txAnnounce : Nat := 0
  txDelay : Nat := 0
  /-- PATH_DISAGREE and SLEW_LIMIT stand reported. -/
  disagree : Bool := false
  slewing : Bool := false
deriving DecidableEq, Repr

/-- Peer delay at a port: sequence and transmit stamp of the outstanding Pdelay_Req, and its responder. -/
structure PeerSt where
  seq : Nat := 0
  t1 : Option Int := none
  responder : Option Nat := none
  several : Bool := false
  answered : Bool := true
  /-- Mean link delay in units of 2^-16 ns. -/
  delay : Option Int := none
deriving DecidableEq, Repr

/-- The time unit beside the entries. -/
structure TimeSt where
  b0 : BaseSt := {}
  b1 : BaseSt := {}
  b2 : BaseSt := {}
  peers : SMap PeerSt := {}
  /-- The last TB_SNAPSHOT: TB0 to TB3 from one TIME cycle. -/
  snapshot : List Nat := []
deriving DecidableEq, Repr

/-! ## Ethernet and ECX -/

/-- A token bucket: content in units of 1/80,000 byte, and the instant of its last filling; `full` at first. -/
structure Bucket where
  level : Option Nat := none
  at_ : Nat := 0
deriving DecidableEq, Repr

/-- A duplicate-table entry (R299, R301): redundancy pair, source, sequence, first port and instant. -/
structure DupEntry where
  hsr : Bool
  src : Nat
  seq : Nat
  port : Nat
  at_ : Nat
  /-- The second copy has arrived. -/
  both : Bool := false
deriving DecidableEq, Repr

/-- A node-table entry (Table NET-2): pair, MAC address, last sight on each of its two ports. -/
structure NodeEntry where
  hsr : Bool
  mac : Nat
  seenA : Option Nat := none
  seenB : Option Nat := none
deriving DecidableEq, Repr

/-- A port beside its entries. -/
structure PortSt where
  /-- Class-3 buckets: 0 to 8 listed sources, 9 unlisted sources, 10 the port; delivery buckets 20 to 22 of classes 0 to 2; 30
  own class-3 shaping. -/
  buckets : SMap Bucket := {}
  /-- Frames of the hardware producers (time unit, ECX engine, forwarding) that wait for egress. -/
  egress : List TxFrame := []
  /-- Forwarded frames that wait for egress. -/
  forward : List EthFrame := []
  /-- The last frame sent, and the last frame forwarded. -/
  wire : Option TxFrame := none
  wireFwd : Option EthFrame := none
  /-- The last PTP frame forwarded from this port's partner, as it left (R287, R288). -/
  tcOut : Option TcFrame := none
  /-- LINK_STATE of the last link, 0 before the first (R279). -/
  speed : Nat := 0
  /-- QUENCH frames per slot of the quench engine (R312). -/
  slots : SMap Nat := {}
deriving DecidableEq, Repr

/-- The network beside its entries. -/
structure NetSt where
  ports : SMap PortSt := {}
  dups : List DupEntry := []
  nodes : List NodeEntry := []
  /-- Instants at which the own supervision frame was last sent under PRP and under HSR, and returned on P3 and on P4 (R304). -/
  supPrp : Option Nat := none
  supHsr : Option Nat := none
  supBackA : Option Nat := none
  supBackB : Option Nat := none
  supSeq : Nat := 0
  /-- HSR and PRP sequence numbers of sent frames. -/
  seqPrp : Nat := 0
  seqHsr : Nat := 0
  /-- Last ledger record per duplicate offender (R317). -/
  dupRecorded : List (Nat × Nat) := []
  /-- PLANT_IP, PLANT_MASK, PLANT_GATEWAY, RING_IP, RING_MASK and VLAN_ID as the last start found them (R49, Table NET-12). -/
  plantIp : Nat := 0
  plantMask : Nat := 0xFFFFFF00
  gateway : Nat := 0
  ringIp : Nat := 0
  ringMask : Nat := 0xFFFFFF00
  vlan : Nat := 0
deriving DecidableEq, Repr

/-- A station as the ECX engine holds it (R320 to R325). -/
structure StationSt where
  /-- The output image that writers commit to, and the snapshot that the current cycle sends. -/
  image : SMap Nat := {}
  sent : List Byte := []
  /-- STATE commanded in the current cycle, and whether the station exchanges in it. -/
  commanded : Nat := 2
  exchanges : Bool := false
  /-- A valid CYCLE_IN of the current cycle, and the ports that carried it. -/
  got : Bool := false
  gotPorts : List Nat := []
  /-- The port of the current cycle's first copy with a wrong signature, and cycle and port of the last late copy: the second copy of
  a frame counts nothing (R301). -/
  badPort : Option Nat := none
  latePort : Option (Nat × Nat) := none
  /-- Consecutive valid cycles in PREOP (Table NET-10). -/
  valid : Nat := 0
  /-- Source address of the latest valid CYCLE_IN's data: live inputs and pending inputs before the return. -/
  live : List Byte := []
  last : List Byte := []
  /-- Commit instant of the last dropout and of the last return. -/
  dropAt : Option Int := none
  /-- Castling (R327): commanded OPERATIONAL from the first cycle. -/
  acycSince : Option Nat := none
  acycSent : Bool := false
deriving DecidableEq, Repr

/-- The ECX engine beside its entries. -/
structure EcxSt where
  stations : SMap StationSt := {}
  running : Bool := false
  /-- Start of the cycle in progress. -/
  start : Option Nat := none
  /-- APPLY_TB1 of the cycle in progress. -/
  applyTb1 : Nat := 0
  /-- Frames that the engine has placed for the cycle. -/
  outFrames : List EcxFrame := []
deriving DecidableEq, Repr

/-! ## CAN -/

/-- The frame of a transmit object (R337 to R340). -/
structure CanPend where
  data : List Byte
  since : Nat
  errors : Nat := 0
  started : Bool := false
  abort : Bool := false
deriving DecidableEq, Repr

/-- A transmit object beside its entries (R335 to R344). -/
structure CanObjSt where
  image : List Byte := []
  /-- Its writer has committed since the start, or since a STOP that applied SAFE (R336). -/
  committed : Bool := false
  pend : Option CanPend := none
  /-- A request arrived during transmission and becomes pending after the attempt (R338). -/
  next : Bool := false
  collRun : Nat := 0
deriving DecidableEq, Repr

/-- A channel beside its entries. -/
structure CanSt where
  /-- CHANNEL_MODE in force (R331), and FD_ENABLE as applied. -/
  mode : Nat := 0
  fd : Bool := false
  /-- Periods of the CAN clock in a nominal bit, as applied (R332). -/
  bit : Nat := 0
  integrated : Bool := false
  /-- Protocol exception until the next bus idle (R331). -/
  exception : Bool := false
  /-- Another node's frame is on the bus (R341). -/
  busy : Bool := false
  inTx : Option Nat := none
  objs : SMap CanObjSt := {}
  /-- Frames lost since RXQ was full (R347). -/
  lost : Nat := 0
  /-- Ledger records of collisions by identifier (R344). -/
  collRec : List (Nat × Nat) := []
deriving DecidableEq, Repr

/-! ## The field side -/

/-- A digital input on the field side (R357): filtered level, consecutive samples of the other level and the first of them,
changes that the logic side has not yet seen. -/
structure DiSt where
  level : Bool := false
  run : Nat := 0
  first : Nat := 0
  changes : Nat := 0
  changedAt : Nat := 0
deriving DecidableEq, Repr

/-- A digital output on the field side. -/
structure DoSt where
  /-- The switch conducts. -/
  on : Bool := false
  changedAt : Nat := 0
  tripped : Bool := false
  /-- The trip is held as under LATCHED (R368). -/
  latched : Bool := false
  tripAt : Nat := 0
  hotTrip : Bool := false
  /-- Consecutive trips without 10 s of trip-free operation, and the instant at which the last trip ended. -/
  trips : Nat := 0
  freeAt : Nat := 0
  /-- Field frames in which the latch has held OFF. -/
  offFrames : Nat := 0
  /-- Own diagnostic bits (Table DIO-10). -/
  diag : Nat := 0
deriving DecidableEq, Repr

/-- A trim capture of an input (R390): the point, its values so far, the requesting node, and whether the front keys run it. -/
structure AiCapture where
  point : Nat
  vals : List Nat := []
  node : Nat := 0
  keys : Bool := false
  /-- The first point, held. -/
  first : Option Nat := none
  running : Bool := true
deriving DecidableEq, Repr

/-- A current-loop input on the field side. -/
structure AiSt where
  /-- Trimmed conversions, newest first. -/
  conv : List Nat := []
  /-- The value that the next frame to the logic side carries. -/
  value : Nat := 0
  /-- Conversions left before the channel has settled (R384). -/
  settle : Nat := 0
  /-- Currents measured in the last 1 s that no later one exceeds: instant and bits, oldest first (R386). -/
  peak : List (Nat × Nat) := []
  /-- SHORT has been set since. -/
  shortAt : Option Nat := none
  /-- The supply was switched off at this instant (R387), or by its temperature (R388). -/
  offAt : Option Nat := none
  hotOff : Bool := false
  reversed : Bool := false
  converter : Bool := false
  /-- The target lay above 26.0 V last at this instant. -/
  overAt : Option Nat := none
  /-- Steps of 0.5 V by which the supply is lowered (R388), and the instant of the last. -/
  steps : Nat := 0
  stepAt : Nat := 0
  /-- Own bits of Table ANA-2 but CHANNEL_FAULT. -/
  diag : Nat := 0
  capture : Option AiCapture := none
  /-- SUPPLY_TARGET that the active module last sent (R398). -/
  partnerTarget : Nat := 0
deriving DecidableEq, Repr

/-- A trim capture of an output (R392): the point being driven, the readings of both points, node, front keys. -/
structure AoCapture where
  point : Nat
  r1 : Option Nat := none
  r2 : Option Nat := none
  node : Nat := 0
  keys : Bool := false
deriving DecidableEq, Repr

/-- A current output on the field side. -/
structure AoSt where
  diag : Nat := 0
  capture : Option AoCapture := none
  /-- The current that the output is set to deliver. -/
  out : Nat := 0
deriving DecidableEq, Repr

/-- The field side beside its entries. -/
structure FieldSt where
  /-- The field side is supplied. -/
  powered : Bool := false
  /-- Field enable is asserted (R374). -/
  enable : Bool := false
  /-- No RESUME frame since the field side's power-up. -/
  hold : Bool := true
  silence : Bool := false
  /-- Shed after power-fail detection (R393). -/
  shed : Bool := false
  /-- The logic side sends RESUME (R373). -/
  resume : Bool := false
  /-- Start of the last valid frame from the logic side, and consecutive invalid ones. -/
  lastValid : Nat := 0
  errors : Nat := 0
  /-- SILENCE_TIMEOUT in force, in ms (R379). -/
  timeout : Nat := 50
  /-- DO_PROFILE in force (R363) and AI_SUPPLY_MODE in force (R385). -/
  profiles : SMap Nat := {}
  supplyModes : SMap Nat := {}
  di : SMap DiSt := {}
  dout : SMap DoSt := {}
  ai : SMap AiSt := {}
  ao : SMap AoSt := {}
  /-- Burden bypasses are open (R397), and the instant at which the field enable asserted. -/
  bypassOpen : Bool := false
  enableAt : Nat := 0
  /-- FIELD_DIAG and MOTION_EVT entries that wait for the next valid frame to the logic side (R375). -/
  diagOut : List (List Byte) := []
  motionOut : List (List Byte) := []
  /-- States and diagnostics of the field side as the last valid frame brought them to the logic side (R27), by key. -/
  shown : SMap Value := {}
  /-- Outputs whose TRIP_RESET the next frame carries (R27, R368). -/
  resets : List Nat := []
  /-- The frame of the current frame period reached the logic side (R223). -/
  frameOk : Bool := true
deriving DecidableEq, Repr

/-! ## Stepper axes -/

/-- What a move aims at: a position or a velocity (binary64 bits), or rest. -/
inductive Goal where
  | pos (target : Int)
  | vel (v : Nat)
  | rest
deriving DecidableEq, Repr

/-- A move in progress. Limits are binary64 bits. -/
structure Move where
  id : Nat
  goal : Goal
  /-- The result of its commit (Table MOV-3); none for a stop whose result is already reported. -/
  result : Option Nat
  v : Nat
  a : Nat
  d : Nat
  j : Nat
  /-- The command gave speed, acceleration, deceleration and jerk itself (R414). -/
  own : Nat := 0
  jerkLimited : Bool := false
  /-- The final ramp towards the target has begun (R414). -/
  ramp : Bool := false
  /-- ENA is deasserted when the axis reaches rest (R413). -/
  disable : Bool := false
  /-- A stop that a limit or the counter range forced. -/
  clamped : Bool := false
deriving DecidableEq, Repr

/-- Homing phases (Table MOV-5). -/
inductive HomePhase where
  | search | backoff | approach | failing
deriving DecidableEq, Repr

/-- A homing in progress (R420 to R422). -/
structure Homing where
  id : Nat
  method : Nat
  phase : HomePhase
  /-- Position at the start of the phase. -/
  from_ : Int
  /-- The phase's end has been met and the axis comes to rest. -/
  braking : Bool := false
  /-- The counter as the first filtered active edge latched it, and the edge's instant (R421). -/
  latched : Option (Int × Nat) := none
  /-- The reference has been inactive since (BACKOFF). -/
  inactive : Option Nat := none
  /-- Cause of a failure that waits for rest. -/
  cause : Nat := 0
deriving DecidableEq, Repr

/-- An axis on the field side. Position in units of 2^-32 microstep; velocity and acceleration as binary64 bits (R411). -/
structure AxisSt where
  x : Int := 0
  v : Nat := 0
  a : Nat := 0
  move : Option Move := none
  homing : Option Homing := none
  /-- Segments on their way to the field side, with the frame that carries them, and those that have arrived (R410). -/
  transit : List (MotionCmd × Nat) := []
  inbox : List MotionCmd := []
  ena : Bool := false
  /-- FLT is asserted; the instant of its release. -/
  flt : Bool := false
  fltFree : Option Nat := none
  valid : Bool := false
  /-- First steps wait until this instant (R417). -/
  goAt : Option Nat := none
  restAt : Nat := 0
  /-- Latch armed: input and falling edge, identifier. -/
  armed : Option (Nat × Bool × Nat) := none
  /-- Limits active. -/
  limPos : Bool := false
  limNeg : Bool := false
  deferred : Bool := false
  clampedV : Bool := false
  steps : Nat := 0
  moves : Nat := 0
  faults : Nat := 0
  lastId : Nat := 0
  lastResult : Nat := 0xFF
  lastAt : Nat := 0
  failCause : Nat := 0
  latchPos : Int := 0
  latchAt : Nat := 0
  state : Nat := 0
  /-- Identifiers that have committed or ended, newest first, for the aborts of R416. -/
  committed : Option Nat := none
deriving DecidableEq, Repr

/-- The motion unit beside its entries. -/
structure MotionSt where
  axes : SMap AxisSt := {}
  /-- Commands issued per source (R409). -/
  idCount : SMap Nat := {}
  /-- Last profile tick. -/
  tickAt : Nat := 0
  /-- POS_VALID as the services last saw it in MOTION_EVT, bit per axis (R429). -/
  seenValid : Nat := 0
deriving DecidableEq, Repr

/-! ## Safety -/

/-- A safe input as one field safety section reads it (R440, R443): filtered contact levels, samples of the other level, contact
faults with the instant of the last failed check, and the discrepancy timer. -/
structure SecSi where
  a : Bool := false
  b : Bool := false
  runA : Nat := 0
  runB : Nat := 0
  crossA : Option Nat := none
  crossB : Option Nat := none
  discAt : Option Nat := none
  disc : Bool := false
deriving DecidableEq, Repr

/-- A field safety section, FSX or FSY (R433 to R435). -/
structure Section where
  /-- Last valid sub-frame from its channel. -/
  lastValid : Nat := 0
  /-- Elements that it holds closed, bit per output. -/
  closed : Nat := 0
  si : SMap SecSi := {}
deriving DecidableEq, Repr

/-- A safe input as one channel evaluates it (R442, R444). -/
structure ChanSi where
  /-- No-demand. -/
  state : Bool := false
  /-- Both contacts have shown demand together since the input entered demand. -/
  both : Bool := true
deriving DecidableEq, Repr

/-- A channel of the safety program, X or Y. -/
structure Chan where
  /-- Its section's latest valid sub-frame, and its instant. -/
  seen : SMap SecSi := {}
  rxAt : Nat := 0
  si : SMap ChanSi := {}
  /-- Element commands of its last committed cycle, bit per output. -/
  cmd : Nat := 0
  latches : List Nat := []
  /-- It runs (its pair is RUNNING). -/
  runs : Bool := true
deriving DecidableEq, Repr

/-- A safe brake output on the field side (R446, R447): bits 0 to 7 of SB_DIAG per section, and the way out of FAULT. -/
structure SbSt where
  diagX : Nat := 0
  diagY : Nat := 0
  fault : Bool := false
  acked : Bool := false
  passHs : Bool := false
  passLs : Bool := false
  /-- Instant of the last element test of this output. -/
  testAt : Option Nat := none
  holdFailed : Bool := false
  /-- A start request waits for the next release (R451). -/
  start : Bool := false
  /-- The request commit of a running holding test; the drive has confirmed. -/
  reqAt : Option Nat := none
  confirmed : Bool := false
deriving DecidableEq, Repr

/-- A valid copy of an ESC frame (R456). -/
structure EscCopy where
  seq : Nat
  echo : Nat
  safe : Bool
  payload : List Byte
  bytes : List Byte
deriving DecidableEq, Repr

/-- An ESC connection (R454 to R461). -/
structure EscConn where
  def_ : Option EscDef := none
  copiesX : List EscCopy := []
  copiesY : List EscCopy := []
  /-- SEQ last accepted, and the instant of the transmission that its frame echoed. -/
  last : Option (Nat × Nat) := none
  txSeq : Nat := 0
  /-- Last transmissions: SEQ and commit instant, newest first. -/
  sent : List (Nat × Nat) := []
  cycles : Nat := 0
  /-- First 1oo2 acceptance since the budget was last full (R460). -/
  degradedFrom : Option Nat := none
  streak : Nat := 0
  /-- Payload presented to the program, its SAFE flag, and RESTARTED. -/
  payload : List Byte := []
  safe : Bool := false
  restarted : Bool := false
deriving DecidableEq, Repr

/-- The decision for a connection at a release (Table SAF-6). -/
inductive EscDecision where
  | mismatch
  | accept (two : Bool) (c : EscCopy) (echoAt : Nat)
deriving DecidableEq, Repr

/-- A safety cycle between its release and its commit. -/
structure SafeCycle where
  release : Nat
  /-- One channel runs alone: Y alone, or X alone (R467). -/
  lone : Option Bool := none
  /-- The first cycle after a rejoin. -/
  rejoined : Bool := false
  esc : List (Nat × EscDecision) := []
  /-- Holding tests that start at this release. -/
  ht : List Nat := []
  /-- Both sections' sub-frames are valid. -/
  sections : Bool := true
deriving DecidableEq, Repr

/-- The safety functions beside their entries. -/
structure SafetySt where
  /-- The two copies of the set in the safety-parameter partition of MRAM (Table ARC-9), and the set in the configuration-backup
  partition of flash (Table ARC-10): set, CRC-32C and generation (R464). -/
  copies : SMap (SafetySet × Nat × Nat) := {}
  backup : Option (SafetySet × Nat) := none
  set : Option SafetySet := none
  staging : Memory := {}
  x : Section := {}
  y : Section := {}
  cx : Chan := {}
  cy : Chan := {}
  /-- Test-pulse sources in TP_FAULT, bit per source; start of the last pulse of each. -/
  tpFault : Nat := 0
  pulseAt : SMap Nat := {}
  /-- Instant at which each source's last TP_FAULT cleared (R440). -/
  tpClear : SMap Nat := {}
  sb : SMap SbSt := {}
  esc : SMap EscConn := {}
  cycle : Option SafeCycle := none
  /-- Good cycles since STARTING. -/
  good : Nat := 0
  /-- The last cycle differed or overran. -/
  bad : Bool := false
  /-- The channel that ran alone at the last release. -/
  lone : Option Bool := none
  /-- Inputs whose channels differ since, in CHANNEL_DISAGREE, and agreeing since (R444). -/
  diffAt : SMap Nat := {}
  disagree : Nat := 0
  agreeAt : SMap Nat := {}
  /-- Permits of the last committed cycle, bit per output. -/
  permit : Nat := 0
deriving DecidableEq, Repr


/-! ## The twin controller -/

/-- The twin controller beside its entries. -/
structure TwinSt where
  /-- Own TOKEN is driven, and since when; when it stopped last. -/
  token : Bool := false
  tokenAt : Nat := 0
  stopAt : Option Nat := none
  /-- The logic-side and field-side detectors read the partner asserted, and since when each reads as it does. -/
  seenLogic : Bool := false
  seenField : Bool := false
  logicAt : Nat := 0
  fieldAt : Nat := 0
  pathFault : Bool := false
  /-- The last heartbeat and its instant; the last valid frame of the link. -/
  partner : Option Heartbeat := none
  heardAt : Nat := 0
  /-- The heartbeat sent last. -/
  sent : Option Heartbeat := none
  laneA : Bool := false
  laneB : Bool := false
  /-- The listen window runs since. -/
  listen : Option Nat := none
  /-- Conditions of Table TWN-3: own tests passed, held out under R496, resynchronised, SUP below 17.5 V last. -/
  selfTest : Bool := true
  held : Bool := false
  synced : Bool := false
  supLowAt : Option Nat := none
  /-- Maintenance (R480): in maintenance, VBUS present, and since when it is or is not. -/
  maintenance : Bool := false
  /-- The twin checkpoint: its generation and what it holds. -/
  gen : Nat := 0
  ckpt : Saved := {}
  /-- Staged archive received from the active module. -/
  staged : Option Archive := none
  staging : Memory := {}
  running : Memory := {}
  /-- What the checkpoint stream has carried last (R484). -/
  last : Saved := {}
  /-- Pages and records, with their sizes, that refused deltas left to send (R485). -/
  owedPages : Nat := 0
  owedRecs : List (Nat × Nat) := []
  /-- END entries that the standby has not yet committed: generation and instant. -/
  unacked : List (Nat × Nat) := []
  /-- A commanded castling that awaits its ACK: cause of Table TWN-11 and instant (R489). -/
  awaiting : Option (Nat × Nat) := none
  /-- The cause and the final generation of a CASTLE that the standby has received and not yet acknowledged. -/
  castle : Option (Nat × Nat) := none
  acked : Bool := false
  /-- Cause of the CASTLE acknowledged last. -/
  castleCause : Option Nat := none
  /-- A takeover in progress: TOKEN stop on the failed module as R502 takes it, and the cause. -/
  taking : Option (Nat × Nat) := none
  /-- The castling is within its bounds so far; a proof test that awaits its step 4, since. -/
  bounded : Bool := true
  /-- The link was DOWN at the takeover (R492, OFFSET_STALE). -/
  stale : Bool := false
  proofFrom : Option Nat := none
  auditAt : Nat := 0
  /-- The services refreshed the TOKEN watchdog last (R476). -/
  refreshAt : Nat := 0
  /-- Role and readiness as last recorded (R501). -/
  told : Nat × Nat × Nat := (2, 1, 0)
deriving DecidableEq, Repr

/-! ## Supply, firmware and starts -/

/-- A firmware slot (R555, R556): the bytes written into it and what the last check of it read. -/
structure FwSlot where
  bytes : Memory := {}
  /-- 0 empty, 1 valid, 2 invalid, 3 trial (Table PWR-15). -/
  state : Nat := 0
  release : Nat := 0
  security : Nat := 0
deriving DecidableEq, Repr

/-- A power-fail checkpoint in one half of its partition (R548). -/
structure PfCkpt where
  gen : Nat
  archive : Nat
  release : Nat
  node : Nat
  consumed : Bool := false
  saved : Saved
deriving DecidableEq, Repr

/-- The supply, the supervisor and the start beside their entries. -/
structure PowerSt where
  /-- The rails are up. -/
  supplied : Bool := true
  /-- A start is due, with this cause (Table PWR-10); none once the module runs. -/
  boot : Option Nat := some 1
  /-- Instant of the power-fail detection (R544), and what stood at the last commits then. -/
  failAt : Option Nat := none
  reduced : Bool := false
  /-- SUP has returned for 100 ms: the reset waits for the checkpoint and for Slate (R549). -/
  supBack : Bool := false
  ckptDone : Bool := false
  /-- Step 7 restored from the checkpoint (R561). -/
  resuming : Bool := false
  /-- The boundary b_R of the RESUME frame (R558), from step 11 on. -/
  resumeAt : Option Nat := none
  /-- Events of the module-state partition that the next start records (R565). -/
  kept : List LogEntry := []
  /-- Cause of the reset in progress that the next start reports. -/
  slots : SMap FwSlot := { cells := [(0, { state := 1, release := 0x0302 })] }
  /-- Fuse minimum and raises. -/
  fuse : Nat := 0
  raises : Nat := 0
  /-- A trial start in progress (R556); it failed when the next start finds it set. -/
  trial : Option Nat := none
  trialAt : Nat := 0
  /-- Neither slot verifies (R555). -/
  bare : Bool := false
  half0 : Option PfCkpt := none
  half1 : Option PfCkpt := none
  hourAt : Nat := 0
  /-- A reset waits at step 3 for the clock or the temperature. -/
  clockBad : Bool := false
  hot : Bool := false
deriving DecidableEq, Repr

/-! ## The ledger -/

/-- A committed record (Table LDG-1). -/
structure Record where
  seq : Nat
  source : Nat
  event : Nat
  tb3 : Nat
  payload : List Byte
deriving DecidableEq, Repr

/-- A journal segment (R511): its records, oldest first, and the bytes that they occupy. -/
structure Segment where
  recs : List Record := []
  bytes : Nat := 0
  retired : Bool := false
deriving DecidableEq, Repr

/-- The ledger beside its entries. -/
structure LedgerSt where
  /-- Sequence number of the next record (R504). -/
  next : Nat := 1
  /-- Records in the MRAM buffer, oldest first: sequence number and LENGTH (R510). -/
  buffer : List (Nat × Nat) := []
  /-- Journal segments by number (R511 to R513), and the segments that the book and the ring fill. -/
  journal : SMap Segment := {}
  bookSeg : Nat := 0
  ringSeg : Nat := 257
  /-- Reserved segments have joined the Endgame Ring, from this number on (R512). -/
  joined : Option Nat := none
  /-- BOOK_STATE, N as the book opened, and the records in it (R512). -/
  bookState : Nat := 0
  bookN : Nat := 0
  bookCount : Nat := 0
  bookFirst : Nat := 0
  /-- Ring records below this sequence number are hidden (R516); CLEAR_SEQ. -/
  hidden : Nat := 0
  /-- Ring-28 entries dropped since the last LOST record. -/
  dropped : Nat := 0
  /-- Bytes of the log staging area in use (R507). -/
  staged : Nat := 0
  /-- The CLOCK relation in force (R506): TB3 in ns, TB0 (2^-16 ns), FREQ_ADJ, SYNC_STATE, start number. -/
  clock : Option (Nat × Int × Int × Nat × Nat) := none
  /-- Bytes found in the buffer at this start, for BUFFER_RECOVERED (R517). -/
  recovered : Nat := 0
  /-- Instants of the records committed in the last second. -/
  recent : List Nat := []
deriving DecidableEq, Repr

/-! ## Slate -/

/-- An update that has been taken and waits (R529, R531); an LCD's keeps its source. -/
structure PanelUpd where
  id : Nat
  wave : Nat
  rect : Rect
  src : Option SlateUpd := none
deriving DecidableEq, Repr

/-- A running update of a bistable panel (R530): waveform and band in force at its start, phases left. -/
structure RunUpd where
  id : Nat
  wave : Nat
  band : Nat
  left : Nat
  rect : Rect
deriving DecidableEq, Repr

/-- A step of a power sequence (Table SLT-4). Rails are bits: 0 VDD, 1 AVDD, 2 VGL, 3 VGH, 4 VCOM, 5 VNEG, 6 VPOS, 7 backlight. -/
inductive PanelStep where
  | rails (on off : List Nat)
  /-- CURRENT is restored from the retained image (R532). -/
  | restore
  /-- WHITE_RESET has ended: of the whole panel, or of the dirty regions. -/
  | white (whole : Bool)
  /-- The sequence ends with this PANEL_STATE; RAIL_FAULT stays. -/
  | done (state : Nat)
deriving DecidableEq, Repr

/-- Slate beside the entries. -/
structure SlateSt where
  /-- PANEL_TYPE in force (R519). -/
  type : Nat := 0
  rails : Nat := 0
  /-- The rest of the power sequence in progress, each step with the delay before it in ns, and the instant of the last step. -/
  seq : List (Nat × PanelStep) := []
  seqAt : Nat := 0
  /-- Power-down waits for the running updates (R526); power-up follows the power-down in progress. -/
  downWanted : Bool := false
  upWanted : Bool := false
  /-- LCD: frame memory and shadow image, pixel words by y * 800 + x; an unlisted word is 0. -/
  lcd : SMap Nat := {}
  lcdShadow : SMap Nat := {}
  /-- BISTABLE: TARGET and its shadow, LATCHED, CURRENT, and the retained image in MRAM; an unlisted pixel is white, 3. -/
  target : SMap Nat := {}
  shadow : SMap Nat := {}
  latched : SMap Nat := {}
  current : SMap Nat := {}
  retained : SMap Nat := {}
  /-- Dirty marks in MRAM (R532): at most 16 rectangles, or the whole panel. -/
  dirty : List Rect := []
  allDirty : Bool := false
  running : List RunUpd := []
  pend : List PanelUpd := []
  phaseAt : Nat := 0
  blankAt : Nat := 0
  /-- Instants of the repairs of each band, newest first; bands that await a rewrite; faulty bands (R522). -/
  repairs : SMap (List Nat) := {}
  rewrite : List Nat := []
  faulty : List Nat := []
  /-- STRIP is in effect (R534). -/
  strip : Bool := false
  /-- A temperature has been read since the start. -/
  tempRead : Bool := false
  /-- Debounced keys; since when ENTER and BACK are held together, and BACK; the last press (R535, R536). -/
  keys : Nat := 0
  bothAt : Option Nat := none
  backAt : Option Nat := none
  lastPress : Nat := 0
  /-- Channel of the key capture: 0 to 31 AI, 32 to 47 AO (R391); the reading being entered, in 0.001 mA. -/
  chan : Nat := 0
  reading : Nat := 0
deriving DecidableEq, Repr
/-! ## The block -/

/-- Faults. No command of the block stops the machine: the spec gives every command an effect. -/
inductive Fault where
deriving DecidableEq, Repr

/-- Refusals. -/
inductive Refusal where
  /-- The arm of a command that has no meaning yet; safe: the model stops where the hardware goes on. -/
  | notModelled (mnemonic : String)
deriving DecidableEq, Repr

/-- The state of the block. -/
structure State where
  /-- TB3 in nanoseconds since the release of the time unit's reset (R268). -/
  now : Nat := 0
  /-- The dictionary: entries that differ from their default, by index * 256 + sub-index. -/
  od : SMap Value := {}
  /-- The retained-settings partition (R53), by block number. -/
  blocks : SMap Block := {}
  /-- Free values drawn so far (the model's own field, log 7). -/
  freeCtr : Nat := 0
  rings : SMap Ring := {}
  /-- Status and value that the last dictionary step answered (R84). -/
  odStatus : Nat := 0
  odValue : List Byte := []
  /-- Responses on J16 that wait for the host, oldest first (R571). -/
  j16 : List TxFrame := []
  eop : EopSt := {}
  rt : RuntimeSt := {}
  pairs : SMap PairSt := {}
  frame : FrameSt := {}
  tally : TallySt := {}
  time : TimeSt := {}
  net : NetSt := {}
  ecx : EcxSt := {}
  can : SMap CanSt := {}
  ledger : LedgerSt := {}
  /-- The field controllers, which run before START (R562). -/
  field : FieldSt := { powered := true }
  motion : MotionSt := {}
  safety : SafetySt := {}
  twin : TwinSt := {}
  slate : SlateSt := {}
  power : PowerSt := {}
  /-- Commands that wait, first in, first out. -/
  pending : List Instr := []
deriving DecidableEq, Repr

/-- The state after reset. -/
def State.reset : State := {}

end Sys2Proof.Machine
end

