-- ==== Sys2Proof/Machine/Store.lean ====
section
/-!
DEFINITION. Machine/Store.lean: the dictionary as the store of the block's registers: reading and writing an entry by name,
counters, the retained-settings partition (R53), TIME96 values and free values.
-/
namespace Sys2Proof.Machine

/-- The number of a value; 0 for bytes. -/
def valNat : Value → Nat
  | .num n => n
  | .bytes _ => 0

/-- The bytes of a value; none for a number. -/
def valBytes : Value → List Byte
  | .num _ => []
  | .bytes b => b

/-- A bank parameter (R246): loop, bank, and 10 * position + parameter, of an entry at 0x4400 + 2L + k. -/
def bankKey (key : Nat) : Option (Nat × Nat × Nat) :=
  let idx := key / 256
  let sub := key % 256
  if 0x4400 ≤ idx && idx < 0x4800 && 1 ≤ sub && sub < 0xF1 then some ((idx - 0x4400) / 2, (idx - 0x4400) % 2, sub - 1) else none

/-- The archive's value of an entry whose default is "From archive" (Table DIC-2); bank contents come with their loop. -/
def archiveValue (a : Archive) (key : Nat) (d : Value) : Value :=
  match a.defaults.find key, bankKey key with
  | some v, _ => v
  | none, some (l, k, i) =>
    (match a.loops.find? (fun x => x.id == l) with
      | some x => .num (((if k = 0 then x.bankA else x.bankB).find? (fun c => c.1 == i)).map (·.2) |>.getD 0)
      | none => d)
  | none, none =>
    if 0x4000 ≤ key / 256 && key / 256 < 0x4200 && key % 256 == 0x21 then
      ((a.loops.find? (fun d => d.id == key / 256 - 0x4000)).map (fun d => Value.num d.forceResponse)).getD d
    else if 0x6000 ≤ key / 256 && key / 256 < 0x6020 && key % 256 == 0x0C then
      ((a.tasks.find? (fun t => t.id == key / 256 - 0x6000)).map (fun t => Value.num t.maxSkip)).getD d
    else d

/-- The value of an entry that nothing has written: its default, or the archive's value (Table DIC-2), or what an online change kept. -/
def State.base (s : State) (e : Ent) : Value :=
  if e.arch then
    match s.rt.kept.find e.key, s.rt.archive with
    | some v, _ => v
    | none, some a => archiveValue a e.key e.d
    | none, none => e.d
  else e.d

/-- Keys of a loop's entries whose default comes from the archive: its settings, and with `banks` its bank parameters. -/
def loopArchKeys (d : LoopDef) (banks : Bool) : List Nat :=
  [0x07, 0x09, 0x0A, 0x0B, 0x0E, 0x1C, 0x21].map (fun k => (0x4000 + d.id) * 256 + k) ++
  (if banks then d.bankA.map (fun c => (0x4400 + 2 * d.id) * 256 + 1 + c.1) ++ d.bankB.map (fun c => (0x4401 + 2 * d.id) * 256 + 1 + c.1) else [])

/-- What an online change from `old` to `a` keeps of the values that its loops had from the archive (R260, R263): the settings of
every loop that stays, and the banks of one whose program is unchanged. -/
def keptValues (kept : SMap Value) (old a : Archive) : SMap Value :=
  a.loops.foldl (fun (m : SMap Value) d =>
    match old.loops.find? (fun x => x.id == d.id) with
    | none => m
    | some w =>
      let same := w.stages == d.stages
      (loopArchKeys d same ++ loopArchKeys w same).foldl (fun (m : SMap Value) k =>
        let v := (kept.find k).getD (archiveValue old k (.num 0))
        if v == archiveValue a k (.num 0) then m else m.put k v) m) {}

/-- The value of an entry. -/
def State.get (s : State) (e : Ent) : Value := (s.od.find e.key).getD (s.base e)

/-- The number an entry holds. -/
def State.rd (s : State) (e : Ent) : Nat := valNat (s.get e)

/-- The signed number an entry holds (R18). -/
def State.rdI (s : State) (e : Ent) : Int := intOf (Ty.bits e.ty) (s.rd e)

/-- The bytes an entry holds. -/
def State.rdB (s : State) (e : Ent) : List Byte := valBytes (s.get e)

/-- A BOOL entry holds true. -/
def State.on (s : State) (e : Ent) : Bool := s.rd e != 0

/-- An entry takes a value; a default is not listed. -/
def State.put (s : State) (e : Ent) (v : Value) : State :=
  { s with od := if e.arch then s.od.put e.key v else s.od.store e.d e.key v }

/-- An entry takes a number, cut to the width of its type. -/
def State.wr (s : State) (e : Ent) (n : Nat) : State := s.put e (.num (n % 2 ^ Ty.bits e.ty))

/-- An entry takes a signed number in two's complement. -/
def State.wrI (s : State) (e : Ent) (i : Int) : State := s.put e (.num (natOf (Ty.bits e.ty) i))

/-- An entry takes bytes. -/
def State.wrB (s : State) (e : Ent) (b : List Byte) : State := s.put e (.bytes b)

/-- A counter rises by `n`, saturating at the largest value of its type. -/
def State.addTo (s : State) (e : Ent) (n : Nat) : State :=
  s.wr e (min (2 ^ Ty.bits e.ty - 1) (s.rd e + n))

/-- A counter rises by 1, saturating. -/
def State.inc (s : State) (e : Ent) : State := s.addTo e 1

/-- An entry keeps the larger of its value and `n`. -/
def State.raise (s : State) (e : Ent) (n : Nat) : State := if s.rd e < n then s.wr e n else s

/-- Entries take 0. -/
def State.clear (s : State) (es : List Ent) : State := es.foldl (fun s e => s.wr e 0) s

/-- Generation `a` is `b` or a later one: U32 generations compare modulo 2^32 (log 181). -/
def genFollows (a b : Nat) : Bool := decide ((a + (2 ^ 32 - b % 2 ^ 32)) % 2 ^ 32 < 2 ^ 31)

/-- The newer valid copy of a block (R54); none when both are invalid. -/
def Block.newest (b : Block) : Option BlockCopy :=
  if b.x.ok && (!b.y.ok || genFollows b.x.gen b.y.gen) then some b.x else if b.y.ok then some b.y else none

/-- A block with a cell written: into the copy that does not hold the newest valid generation, generation plus 1 (R53). -/
def Block.write (b : Block) (release key : Nat) (v : Value) : Block :=
  let old := b.newest.getD {}
  let c : BlockCopy := { gen := (old.gen + 1) % 2 ^ 32, ok := true, release := if release = 0 then old.release else release
                         cells := old.cells.put key v }
  if b.x.ok && (!b.y.ok || genFollows b.x.gen b.y.gen) then { b with y := c } else { b with x := c }

/-- The keys of a table's RETAINED rows. -/
def tableKeys (t : Table) : List Nat :=
  (t.segs.flatMap (fun g => (List.range g.2).map (g.1 + ·))).flatMap (fun i =>
    (t.rows.filter (fun r => r.ret == .retained)).map (fun r => i * 256 + r.sub))

/-- Every RETAINED entry of the running release in ascending order, with the bank parameters of all loop slots (R246, R582). -/
def retainedSorted : List Nat :=
  (tables.flatMap tableKeys ++ (List.range 1024).flatMap (fun i => (List.range 240).map (fun j => (0x4400 + i) * 256 + 1 + j))).mergeSort

/-- Bytes of a block that entries can take: 4 KiB less what it carries beside them (R53). -/
def blockRoom : Nat := 4096 - Config.blockHeader % 4096

/-- An entry of `n` bytes is packed behind block and bytes `p` (R582): into the room that is left, else from a new block on, an entry
longer than a block into as many as it needs. Answers the next place, and the first block and the number of blocks. -/
def packOne (p : Nat × Nat) (n : Nat) : (Nat × Nat) × Nat × Nat :=
  if p.2 + n ≤ blockRoom then ((p.1, p.2 + n), p.1, 1)
  else
    let first := if p.2 = 0 then p.1 else p.1 + 1
    let count := max 1 ((n + blockRoom - 1) / blockRoom)
    ((first + count - 1, if count = 1 then n else blockRoom), first, count)

/-- Entries are packed behind `p` in order. -/
def packAll (p : Nat × Nat) (ks : List Nat) : Nat × Nat := ks.foldl (fun p k => (packOne p (Config.entrySize k)).1) p

/-- The place behind the entries that the minor releases before `m` added: each begins after the last block used (R582). -/
def packUpTo (m : Nat) : Nat × Nat :=
  (List.range m).foldl (fun p j =>
    let ks := retainedSorted.filter (fun k => Config.addedIn k == j)
    if ks.isEmpty then p else ((packAll p ks).1 + 1, 0)) (0, 0)

/-- The blocks that hold a RETAINED entry (R582): one, or more for an entry longer than a block. -/
def blocksOf (key : Nat) : List Nat :=
  let m := Config.addedIn key
  let before := fun (_ : Unit) => retainedSorted.filter (fun k => Config.addedIn k == m && decide (k < key))
  let p := if m = 0 then packAll (0, 0) (before ()) else packAll (packUpTo m) (before ())
  let b := (packOne p (Config.entrySize key)).2
  (List.range b.2).map (fun i => (b.1 + i) % 512)

/-- A value is stored in the blocks of its entry (R53), which the running release writes (R582). -/
def State.storeCell (s : State) (key : Nat) (v : Value) : State :=
  let rel := s.rd E.Id.FW_RELEASE
  { s with blocks := (blocksOf key).foldl (fun m b => m.modify {} b (fun x => x.write rel key v)) s.blocks }

/-- The current value of entry `key` is stored in the retained partition, and the count of block writes, itself RETAINED, with it
(R53, log 10). -/
def State.retain (s : State) (key : Nat) (v : Value) : State :=
  let s := (s.storeCell key v).addTo E.Restore.RETAINED_WRITES (blocksOf key).length
  s.storeCell E.Restore.RETAINED_WRITES.key (.num (s.rd E.Restore.RETAINED_WRITES))

/-- A RETAINED entry takes a value and is stored (R53). -/
def State.putR (s : State) (e : Ent) (v : Value) : State := (s.put e v).retain e.key v

/-- A RETAINED entry takes a number and is stored. -/
def State.wrR (s : State) (e : Ent) (n : Nat) : State := s.putR e (.num (n % 2 ^ Ty.bits e.ty))

/-- A RETAINED counter rises by 1, saturating, and is stored. -/
def State.incR (s : State) (e : Ent) : State := s.wrR e (min (2 ^ Ty.bits e.ty - 1) (s.rd e + 1))

/-- TIME96 of a value in units of 2^-16 ns: seconds rounded towards minus infinity in two's complement over 48 bits (R581). -/
def time96 (v : Int) : Nat :=
  let sec := v / 65536000000000
  let rest := (v % 65536000000000).toNat
  natOf 48 sec * 2 ^ 48 + rest / 65536 * 2 ^ 16 + rest % 65536

/-- TIME96 of a TB3 instant in nanoseconds. -/
def time96ns (t : Int) : Nat := time96 (t * 65536)

/-- The value in units of 2^-16 ns of a TIME96 whose seconds are unsigned. -/
def ofTime96 (n : Nat) : Int := ((n / 2 ^ 48 * 65536000000000 + n / 2 ^ 16 % 2 ^ 32 * 65536 + n % 65536 : Nat) : Int)

/-- A TIME96 as bytes, the fields in the order seconds, nanoseconds, fraction, each little-endian (R16, R61). -/
def time96le (n : Nat) : List Byte := leBytes 6 (n / 2 ^ 48) ++ leBytes 4 (n / 2 ^ 16) ++ leBytes 2 n

/-- A TIME96 as bytes in an EOP payload, big-endian (R61). -/
def time96be (n : Nat) : List Byte := beBytes 6 (n / 2 ^ 48) ++ beBytes 4 (n / 2 ^ 16) ++ beBytes 2 n

/-- An entry takes a TB3 instant in nanoseconds (R581). -/
def State.wrT (s : State) (e : Ent) (t : Int) : State := s.wr e (time96ns t)

/-- The next random number (log 7). -/
def State.rand (s : State) : Nat := Config.random s.freeCtr

/-- The free-value counter moves on. -/
def State.drawn (s : State) : State := { s with freeCtr := s.freeCtr + 1 }

/-- An entry takes a new random number of its width (nonces; log 7). -/
def State.renew (s : State) (e : Ent) : State := (s.wr e s.rand).drawn

/-- An OCTETS entry takes `n` new random bytes (log 7). -/
def State.renewB (s : State) (e : Ent) (n : Nat) : State := (s.wrB e (beBytes n s.rand)).drawn

end Sys2Proof.Machine
end

