-- ==== Sys2Proof/Machine/Ops.lean ====
section
/-!
DEFINITION. Machine/Ops.lean: the operations that all units share: the instant of a command, rings (R36 to R39), values in
records, events on their way to the ledger (R505, R507), modes.
-/
namespace Sys2Proof.Machine

/-- What a command answers. -/
abbrev Result := Host.Outcome State Fault Refusal

/-- The command happens at TB3 instant `at_`; TB3 moves in TIME cycles of 4 ns and never back (R268, log 1). -/
def State.advance (s : State) (at_ : Nat) : State := { s with now := max s.now (at_ / 4 * 4) }

/-! ## Rings -/

/-- Depth of ring `k` (Table ARC-6). -/
def ringDepth (k : Nat) : Nat :=
  if k < 16 then 512 else if k < 24 then (if k % 2 = 0 then 32 else 64)
  else match k with
  | 24 => 256 | 25 => 256 | 26 => 512 | 27 => 1024 | 28 => 4096 | 29 => 512 | 30 => 512
  | 31 => 64 | 32 => 64 | 33 => 64 | 34 => 64 | 35 => 64 | 36 => 64 | 37 => 64 | 38 => 64
  | 39 => 128 | 40 => 128 | 41 => 1024 | 42 => 256 | 43 => 256 | 44 => 64 | 45 => 1024 | 46 => 64 | 47 => 64
  | _ => 0

/-- What a full ring does (R38). -/
inductive Policy where
  | refuse | drop | replace | stall
deriving DecidableEq, Repr

/-- Policy of ring `k` when full (Table ARC-6). -/
def ringPolicy (k : Nat) : Policy :=
  if k < 16 then (if k % 4 < 2 then .refuse else .drop)
  else if k < 24 then (if k % 2 = 0 then .refuse else .drop)
  else match k with
  | 26 => .stall | 27 => .drop | 28 => .drop | 30 => .stall | 32 => .stall | 35 => .drop | 36 => .drop
  | 38 => .replace | 40 => .stall | 41 => .drop | 43 => .drop | 45 => .drop
  | _ => .refuse

/-- Ring `k`. -/
def State.ring (s : State) (k : Nat) : Ring := s.rings.fetch {} k

/-- Fill of ring `k`: head minus tail (R36). -/
def State.fill (s : State) (k : Nat) : Nat := (s.ring k).q.length

/-- Ring `k` replaced. -/
def State.setRing (s : State) (k : Nat) (r : Ring) : State := { s with rings := s.rings.store {} k r }

/-- Room for `n` more entries on ring `k`. -/
def State.room (s : State) (k n : Nat) : Bool := decide (s.fill k + n ≤ ringDepth k)

/-- RING_HWM follows the fill (Table ARC-7). -/
def State.noteFill (s : State) (k : Nat) : State := s.raise (E.Ring.RING_HWM k) (s.fill k)

/-- An entry is appended; its commit is the advance of the head (R36). -/
def State.append (s : State) (k : Nat) (e : RingEntry) : State :=
  let r := s.ring k
  (s.setRing k { r with q := r.q ++ [e] }).noteFill k

/-- Station of an entry of RIO_IN. -/
def entryStation : RingEntry → Option Nat
  | .rio st _ => some st
  | _ => none

/-- A producer places one entry on ring `k` under the ring's policy (R38); true where the entry is on the ring or waits for it. -/
def State.push (s : State) (k : Nat) (e : RingEntry) : State × Bool :=
  let r := s.ring k
  match ringPolicy k with
  | .refuse => if s.room k 1 then (s.append k e, true) else (s.inc (E.Ring.RING_REFUSALS k), false)
  | .drop => if s.room k 1 then (s.append k e, true) else (s.inc (E.Ring.RING_OVERFLOWS k), false)
  | .replace =>
    if r.q.any (fun x => entryStation x == entryStation e) then
      ((s.setRing k { r with q := r.q.map (fun x => if entryStation x == entryStation e then e else x) }).inc
        (E.Ring.RING_OVERFLOWS k), true)
    else if s.room k 1 then (s.append k e, true) else (s.inc (E.Ring.RING_OVERFLOWS k), false)
  | .stall =>
    if r.waiting.isEmpty && s.room k 1 then (s.append k e, true)
    else (s.setRing k { r with waiting := r.waiting ++ [e], stallSince := some (r.stallSince.getD s.now) }, true)

/-- As `push`, without the answer. -/
def State.place (s : State) (k : Nat) (e : RingEntry) : State := (s.push k e).1

/-- A producer places a block of entries whole, or none of them (R93). -/
def State.pushBlock (s : State) (k : Nat) (es : List RingEntry) : State × Bool :=
  if es.isEmpty then (s, true)
  else if s.room k es.length then (es.foldl (fun s e => s.append k e) s, true)
  else (s.inc (E.Ring.RING_REFUSALS k), false)

/-- How long the producers of ring `k` have paused, in nanoseconds: the pauses that have ended, and the one in progress (R39). -/
def State.stallTime (s : State) (k : Nat) : Nat :=
  (s.ring k).stalled + (match (s.ring k).stallSince with
    | some t => s.now - t
    | none => 0)

/-- The entry as its commit on the ring stamps it: a response bears the instant of that commit (R57). -/
def RingEntry.committed (now : Nat) : RingEntry → RingEntry
  | .odRsp y => .odRsp { y with at_ := now }
  | e => e

/-- A paused producer's entry goes onto the ring once an entry is free (R38, STALL); with none left the producer goes on. -/
def State.unstall (s : State) (k : Nat) : State :=
  let r := s.ring k
  match r.waiting with
  | [] => s
  | e :: rest =>
    if !s.room k 1 then s
    else
      let r := if rest.isEmpty then { r with waiting := [], stallSince := none, stalled := s.stallTime k } else { r with waiting := rest }
      (s.setRing k r).append k (RingEntry.committed s.now e)

/-- Every entry that a paused producer holds goes onto the ring while entries are free. -/
def State.unstallAll (s : State) (k : Nat) : State := (s.ring k).waiting.foldl (fun s _ => s.unstall k) s

/-- The consumer takes the oldest entry of ring `k` (R36); a waiting entry of DONE is written by its own event (R209). -/
def State.pop (s : State) (k : Nat) : State × Option RingEntry :=
  let r := s.ring k
  match r.q with
  | [] => (s, none)
  | e :: q =>
    let s := s.setRing k { r with tail := (r.tail + 1) % 65536, q := q }
    (if k = 26 then s else s.unstall k, some e)

/-- Every entry of ring `k` is discarded. -/
def State.emptyRing (s : State) (k : Nat) : State :=
  let r := s.ring k
  s.setRing k { tail := (r.tail + r.q.length) % 65536, stalled := s.stallTime k }

/-! ## Values in records (R61, R505) -/

/-- A BOOL of a record. -/
def vBool (b : Bool) : List Byte := leBytes 1 0x01 ++ leBytes 1 (ofBool b)
/-- A U8 of a record. -/
def vU8 (n : Nat) : List Byte := leBytes 1 0x02 ++ leBytes 1 n
/-- A U16 of a record. -/
def vU16 (n : Nat) : List Byte := leBytes 1 0x03 ++ leBytes 2 n
/-- A U32 of a record. -/
def vU32 (n : Nat) : List Byte := leBytes 1 0x04 ++ leBytes 4 n
/-- A U64 of a record. -/
def vU64 (n : Nat) : List Byte := leBytes 1 0x05 ++ leBytes 8 n
/-- An I32 of a record. -/
def vI32 (i : Int) : List Byte := leBytes 1 0x07 ++ leBytes 4 (natOf 32 i)
/-- An F32 of a record, from its bits. -/
def vF32 (n : Nat) : List Byte := leBytes 1 0x08 ++ leBytes 4 n
/-- An F64 of a record, from its bits. -/
def vF64 (n : Nat) : List Byte := leBytes 1 0x09 ++ leBytes 8 n
/-- An OCTETS value of a record. -/
def vOct (b : List Byte) : List Byte := leBytes 1 0x0B ++ leBytes 2 b.length ++ b
/-- A TIME96 of a record. -/
def vTime (n : Nat) : List Byte := leBytes 1 0x0C ++ time96le n

/-- Room of the log staging area (R507). -/
def stagingSize : Nat := 1048576

/-- An event that its producer stamped `tb3` goes to LOG_IN (R507); where the staging area or the ring has no room it is lost and counted (R38, R508). -/
def State.logAt (s : State) (source event : Nat) (payload : List Byte) (tb3 : Int) : State :=
  if s.ledger.staged + payload.length ≤ stagingSize && s.room 28 1 then
    let s := s.append 28 (.log { source := source, event := event, payload := payload, tb3 := tb3 })
    { s with ledger := { s.ledger with staged := s.ledger.staged + payload.length } }
  else
    let s := s.inc (E.Ring.RING_OVERFLOWS 28)
    { s with ledger := { s.ledger with dropped := s.ledger.dropped + 1 } }

/-- An event of this instant goes to LOG_IN. -/
def State.log (s : State) (source event : Nat) (payload : List Byte) : State := s.logAt source event payload s.now

/-! ## The field link (R27) -/

/-- State and diagnostic entries of field-side units: base index, indices, sub-indices (Tables DIO-8, DIO-9, DIO-11, ANA-7, ANA-8,
ANA-9). -/
def linkEntries : List (Nat × Nat × List Nat) :=
  [(0x2000, 64, [0x05]), (0x2040, 64, [0x09, 0x0A, 0x0D]), (0x2080, 8, [0x01]), (0x2090, 1, [0x02, 0x04]), (0x2100, 32, [0x07, 0x08]),
   (0x2120, 16, [0x07, 0x08]), (0x2130, 1, [0x05, 0x06])]

/-- The logic side knows the entry from the field frames alone. -/
def linkKey (key : Nat) : Bool :=
  linkEntries.any (fun e => decide (e.1 ≤ key / 256) && decide (key / 256 < e.1 + e.2.1) && e.2.2.contains (key % 256))

/-- A field-side entry as the logic side knows it: as the last valid frame brought it (R27). -/
def State.linkGet (s : State) (e : Ent) : Value := (s.field.shown.find e.key).getD e.d

/-- A numeric field-side entry as the logic side knows it. -/
def State.linkRd (s : State) (e : Ent) : Nat :=
  match s.linkGet e with
  | .num n => n
  | .bytes _ => 0

/-- The oldest waiting abort response that `p` names is decided with `status` (R83). -/
def decideFirst (p : Deferred → Bool) (status : Nat) : List Deferred → List Deferred
  | [] => []
  | d :: ds => if p d && d.status.isNone then { d with status := some status } :: ds else d :: decideFirst p status ds

/-! ## Modes -/

/-- RUNTIME_MODE is RUN (R97). -/
def State.isRun (s : State) : Bool := s.rd E.Run.RUNTIME_MODE == 0
/-- RUNTIME_MODE is STOP. -/
def State.isStop (s : State) : Bool := s.rd E.Run.RUNTIME_MODE == 1
/-- RUNTIME_MODE is HOLD. -/
def State.isHold (s : State) : Bool := s.rd E.Run.RUNTIME_MODE == 2
/-- MODULE_STATE is OPERATING. -/
def State.operating (s : State) : Bool := s.rd E.Id.MODULE_STATE == 1
/-- The module is ACTIVE: it drives its own TOKEN (R473). -/
def State.active (s : State) : Bool := s.rd E.Twin.TWIN_ROLE == 0

/-- The module stands on a twin base. -/
def State.twinBase (s : State) : Bool := s.rd E.Twin.TWIN_POSITION == 1 || s.rd E.Twin.TWIN_POSITION == 2

/-- The RESUME boundary of the last start or takeover has come (R558). -/
def State.started (s : State) : Bool :=
  match s.power.resumeAt with
  | some b => decide (b ≤ s.now)
  | none => false

/-- Started, and no power failure has been detected since (R547). -/
def State.resumed (s : State) : Bool := s.started && s.rd E.Pwr.SUP_STATE != 3

/-- Status codes of Table DIC-16. -/
def stOk : Nat := 0x00
/-- OUT_OF_RANGE. -/
def stRange : Nat := 0x08
/-- MODE_CONFLICT. -/
def stMode : Nat := 0x0B

/-- The first status other than OK. -/
def firstBad : List Nat → Nat
  | [] => 0
  | x :: xs => if x = 0 then firstBad xs else x

/-- A check: `bad` unless `ok`. -/
def need (ok : Bool) (bad : Nat) : Nat := if ok then 0 else bad

end Sys2Proof.Machine
end

