-- ==== Sys2Proof/Machine/TimeUnit.lean ====
section
/-!
DEFINITION. Machine/TimeUnit.lean: the time bases, stamps, conversion, PTP instances, servo and transparent clock (R266 to R294).
-/
namespace Sys2Proof.Machine

/-- 4 * 2^48: a TIME cycle of 4 ns in units of 2^-48 ns. -/
def tick48 : Int := 1125899906842624

/-- `n / d` to nearest, ties to even. -/
def divRne (n : Int) (d : Nat) : Int :=
  let q := n / (d : Int)
  let r := (n % (d : Int)).toNat * 2
  if r < d then q else if d < r then q + 1 else if q % 2 = 0 then q else q + 1

/-- INC_b in units of 2^-48 ns for FREQ_ADJ `f` in ppt (R267). -/
def incOf (f : Int) : Int := tick48 + divRne (tick48 * f) 1000000000000

/-- A base counts seconds modulo 2^48; its value in units of 2^-64 ns. -/
def tbModulus : Int := 281474976710656 * 1000000000 * 18446744073709551616

/-- The stretch in force at TB3 instant `t`, newest first; the oldest one before the history (R274). -/
def segAt : List TbSeg → Nat → TbSeg
  | [], _ => { from_ := 0, val := 0, freq := 0 }
  | [g], _ => g
  | g :: gs, t => if g.from_ ≤ t then g else segAt gs t

/-- The value of a base at half-nanosecond `h` of TB3, in units of 2^-64 ns (R267, R274, R277). -/
def tbHalf (segs : List TbSeg) (h : Nat) : Int :=
  let g := segAt segs (h / 2)
  (g.val + ((h : Int) - 2 * g.from_) * incOf g.freq * 65536 / 8) % tbModulus

/-- Base `b` with its PTP instance. -/
def State.tb (s : State) (b : Nat) : BaseSt :=
  match b with
  | 0 => s.time.b0
  | 1 => s.time.b1
  | _ => s.time.b2

/-- Base `b` replaced. -/
def State.setTb (s : State) (b : Nat) (x : BaseSt) : State :=
  match b with
  | 0 => { s with time := { s.time with b0 := x } }
  | 1 => { s with time := { s.time with b1 := x } }
  | _ => { s with time := { s.time with b2 := x } }

/-- PTP_ROLE of an instance. -/
def State.role (s : State) (b : Nat) : Nat := s.rd (E.Ptp.PTP_ROLE b)

/-- Stretches older than the history of 16 s are dropped; the one in force 16 s ago stays (R274). -/
def pruneSegs (now : Nat) : List TbSeg → List TbSeg
  | [] => []
  | g :: gs => if g.from_ + 16000000000 ≤ now then [g] else g :: pruneSegs now gs

/-- The history of a base that equals another one, of history `up`, from instant `since` on, and was its own before (R282). -/
def joinSegs (up own : List TbSeg) (since : Nat) : List TbSeg :=
  up.takeWhile (fun g => decide (since < g.from_)) ++
    { from_ := since, val := tbHalf up (2 * since), freq := (segAt up since).freq } :: own.filter (fun g => decide (g.from_ < since))

/-- The whole history of a base; TB1 equals TB0 exactly in BC_FROM_TB0, from the instant on at which it took the role (R282). -/
def State.history (s : State) (b : Nat) : List TbSeg :=
  if b = 1 && s.role 1 == 4 then joinSegs (s.tb 0).segs (s.tb 1).segs (s.tb 1).bcSince else (s.tb b).segs

/-- The history of a base: the last 16 s of TB3, and the relation in force 16 s ago (R274). -/
def State.segs (s : State) (b : Nat) : List TbSeg := pruneSegs s.now (s.history b)

/-- Base `b` (0 to 2) at half-nanosecond `h` of TB3, in units of 2^-16 ns. -/
def State.tbHalfAt (s : State) (b h : Nat) : Int := tbHalf (s.segs b) h / 281474976710656

/-- Base `b` (0 to 3) at TB3 instant `t` in nanoseconds, in units of 2^-16 ns (R274). -/
def State.tbAt (s : State) (b t : Nat) : Int := if b = 3 then (t : Int) * 65536 else s.tbHalfAt b (2 * t)

/-- A conversion of TB3 instant `t` into base `b`, and whether it is extrapolated: older than 16 s (R274). -/
def State.convert (s : State) (b t : Nat) : Int × Bool := (s.tbAt b t, decide (t + 16000000000 < s.now))

/-- A new stretch of base `b` begins. -/
def State.newSeg (s : State) (b : Nat) (g : TbSeg) : State :=
  let x := s.tb b
  let old := if x.segs.isEmpty then [{ from_ := 0, val := 0, freq := 0 }] else x.segs
  s.setTb b { x with segs := g :: pruneSegs s.now old }

/-- FREQ_ADJ of base `b` becomes `f` ppt, from the next TIME cycle (R267). -/
def State.setFreq (s : State) (b : Nat) (f : Int) : State :=
  let s := s.wrI (E.Base.FREQ_ADJ b) f
  let t := s.now + 4
  s.newSeg b { from_ := t, val := tbHalf (s.tb b).segs (2 * t), freq := f }

/-- The value of base `b` becomes `v` (2^-64 ns) in this TIME cycle (R270, R273), at the rate in force; a FREQ_ADJ written in it still
takes effect with the next (R267). -/
def State.setVal (s : State) (b : Nat) (v : Int) : State :=
  let old := (s.tb b).segs
  let t := s.newSeg b { from_ := s.now, val := v % tbModulus, freq := (segAt old s.now).freq }
  match old.head? with
  | some g => if s.now < g.from_ then t.newSeg b { g with val := tbHalf (t.tb b).segs (2 * g.from_) } else t
  | none => t

/-- An entry goes to TS_EVT (Table TIM-3). -/
def State.tsEvt (s : State) (event base detail : Nat) (value : Int) : State :=
  s.place 45 (.bytes (leBytes 1 event ++ leBytes 1 base ++ leBytes 1 detail ++ leBytes 1 0
    ++ time96le (time96ns s.now) ++ time96le (time96 (s.tbAt base s.now)) ++ leBytes 4 (natOf 32 (clampInt (-2147483648) 2147483647 value))))

/-- SYNC_STATE of an instance from its servo (Table TIM-2, R270, R283); `tb0` is that of TB0. -/
def syncState (role servo : Nat) (everLocked setLocked : Bool) (tb0 : Nat) : Nat :=
  if role = 4 then tb0
  else match servo with
  | 0 => if setLocked then 0 else 2
  | 1 => if everLocked then 1 else 2
  | 2 => 0
  | 3 => if everLocked then 1 else 2
  | _ => if role = 3 then 0 else if everLocked then 0 else 2

/-- A change of TB0's relation calls for a CLOCK record (R506). -/
def State.staleClock (s : State) (b : Nat) : State :=
  if b = 0 then { s with ledger := { s.ledger with clock := none } } else s

/-- SYNC_STATE of base `b` is derived again, and that of TB1 with TB0 in BC_FROM_TB0 (R282). -/
def State.deriveSync (s : State) (b : Nat) : State :=
  let x := s.tb b
  let new := syncState (s.role b) (s.rd (E.Base.SERVO_STATE b)) x.everLocked x.setLocked (s.rd (E.Base.SYNC_STATE 0))
  let s := if s.rd (E.Base.SYNC_STATE b) = new then s else (s.wr (E.Base.SYNC_STATE b) new).staleClock b
  let s := if new = 0 then s.setTb b { s.tb b with everLocked := true } else s
  if b = 0 && s.role 1 == 4 then s.wr (E.Base.SYNC_STATE 1) new else s

/-- The servo of instance `b` enters state `st` (Table TIM-2): a STATE event, and the state's action. -/
def State.setServo (s : State) (b st : Nat) : State :=
  let old := s.rd (E.Base.SERVO_STATE b)
  if old = st then s.deriveSync b
  else
    let s := if old = 2 then s.inc (E.Base.LOCK_LOSSES b) else s
    let s := s.wr (E.Base.SERVO_STATE b) st
    let x := s.tb b
    let s := s.setTb b { x with inside := 0, outside := 0, everLocked := x.everLocked || st == 2
                                holdSince := if st = 3 then s.now else x.holdSince
                                lockedAdj := if st = 2 then [] else x.lockedAdj }
    let s :=
      match st with
      | 3 => if x.lockedAdj.isEmpty then s
             else s.setFreq b (divRne (x.lockedAdj.foldl (· + ·) 0) x.lockedAdj.length)
      | 4 => s.setFreq b 0
      | _ => s
    (s.deriveSync b).tsEvt 0x02 b st 0

/-- The port of path 0 or 1 of an instance: P1 and P2, or P3 and P4 for TB1 (R285, R286). -/
def pathPort (b path : Nat) : Nat := if b = 1 then 2 + path else path

/-- The path of a port. -/
def portPath (port : Nat) : Nat := port % 2

/-- A port belongs to an instance (Table TIM-1). -/
def portOf (b port : Nat) : Bool := if b = 1 then port == 2 || port == 3 else port == 0 || port == 1

/-- Path 0 or 1. -/
def BaseSt.path (x : BaseSt) (p : Nat) : PtpPath := if p = 0 then x.pathA else x.pathB
/-- Path 0 or 1 replaced. -/
def BaseSt.setPath (x : BaseSt) (p : Nat) (q : PtpPath) : BaseSt := if p = 0 then { x with pathA := q } else { x with pathB := q }

/-- A binary32 number of nanoseconds from units of 2^-16 ns. -/
def nsF32 (v : Int) : Nat := fmt32.ofRat v 65536

/-- Nominal latency and spread in ns: dir 0 transmit, 1 receive; speed as in LINK_STATE (Table TIM-5). -/
def nominalLatency (dir speed : Nat) : Nat × Nat :=
  match dir, speed with
  | 0, 2 => (104, 4) | 0, _ => (216, 8)
  | _, 2 => (288, 4) | _, _ => (360, 8)

/-- The measured latency of a port at 25 °C (Table TIM-12). -/
def latencyEntry (dir speed port : Nat) : Ent :=
  match dir, speed with
  | 0, 2 => E.Stamp.TX_LAT_1000 port | 0, _ => E.Stamp.TX_LAT_100 port
  | _, 2 => E.Stamp.RX_LAT_1000 port | _, _ => E.Stamp.RX_LAT_100 port

/-- Latency of a port in units of 2^-16 ns (R277, R278): as measured at 25.0 °C; at another board temperature a value within the nominal
value ± the spread (log 13); nominal where CAL_VALID is false. -/
def State.latency (s : State) (dir port : Nat) : Int :=
  let speed := s.rd (E.Port.LINK_STATE port)
  let n := nominalLatency dir speed
  let temp := s.rd E.Pwr.ASIC_TEMP
  if !s.on (E.Stamp.CAL_VALID port) then (65536 * n.1 : Nat)
  else if temp = 0x41C80000 then fmt32.nearestScaled (s.rd (latencyEntry dir speed port)) 16
  else (65536 * (n.1 - n.2) + Config.latency dir port speed temp % (131072 * n.2 + 1) : Nat)

/-- ASYMMETRY of a port in units of 2^-16 ns (R277). -/
def State.asymmetry (s : State) (port : Nat) : Int := fmt32.nearestScaled (s.rd (E.Stamp.ASYMMETRY port)) 16

/-- The receive stamp in base `b` of an event message whose SFD the MAC captured at half-nanosecond `mac` (R277). -/
def State.rxStamp (s : State) (b port mac : Nat) : Int := s.tbHalfAt b mac - s.latency 1 port

/-- The transmit stamp in base `b` of an event message sent in this TIME cycle, to 0.5 ns (R277, R284): where in the cycle its SFD
passes is a free value (log 167). -/
def State.txStamp (s : State) (b port : Nat) : Int := s.tbHalfAt b (2 * s.now + Config.sfdPhase s.freeCtr % 8) + s.latency 0 port

/-- EVENTS_STAMPED of a port. -/
def State.stamped (s : State) (port : Nat) : State := s.inc (E.Stamp.EVENTS_STAMPED port)

/-- A frame of a hardware producer waits for egress on a port (R284, R305). -/
def State.emit (s : State) (port : Nat) (f : TxFrame) : State :=
  { s with net := { s.net with ports := s.net.ports.modify {} port (fun p => { p with egress := p.egress ++ [f] }) } }

/-- portIdentity of the module on a port: the instance's clockIdentity and the port number from 1. -/
def portIdentity (b port : Nat) : Nat := Config.clockIdentity b % 2 ^ 64 * 65536 + port % 2 + 1

/-- A PTP frame sent by an instance (R280, R285): class 2, on one port, under the configured transport. -/
def State.emitPtp (s : State) (b port : Nat) (event peer : Bool) (body : Body) : State :=
  let udp := s.rd (E.Ptp.TRANSPORT b) == 1
  s.emit port { cls := 2, single := true, event := event, body := body
                dst := if peer then 0x0180C200000E else 0x011B19000000
                ether := if udp then 0x0800 else 0x88F7
                ip := if peer then 0xE000006B else 0xE0000181
                sport := if event then 319 else 320, dport := if event then 319 else 320 }

/-- Sync interval of an instance in nanoseconds: 2^LOG_SYNC s. -/
def logInterval (l : Int) : Nat := if 0 ≤ l then 1000000000 * 2 ^ l.toNat else 1000000000 / 2 ^ (-l).toNat

/-- Sync interval of an instance in nanoseconds. -/
def State.syncInterval (s : State) (b : Nat) : Nat := logInterval (s.rdI (E.Ptp.LOG_SYNC b))

/-- PATH_ACTIVE changes: a PATH_SWITCH event; the base does not step (R285). -/
def State.switchPath (s : State) (b p : Nat) : State :=
  if s.rd (E.Ptp.PATH_ACTIVE b) = p then s
  else (s.wr (E.Ptp.PATH_ACTIVE b) p).tsEvt 0x04 b p 0

/-- A step of base `b` by `d` units of 2^-16 ns: counted, reported, with CLOCK renewed (R272, R506). -/
def State.stepBase (s : State) (b : Nat) (d : Int) : State :=
  let s := s.setVal b (tbHalf (s.tb b).segs (2 * s.now) + d * 281474976710656)
  let ns := divRne d 65536
  let s := (s.inc (E.Base.STEPS b)).wrI (E.Base.LAST_STEP b) ns
  ((s.staleClock b)).tsEvt 0x01 b 0 ns

/-- The adjustment that the servo computes, within plus or minus `lim` ppt: a free value (log 12). -/
def State.servoFreq (s : State) (b : Nat) (lim : Nat) : State :=
  let f : Int := ((Config.servoAdj s.freeCtr % (2 * lim + 1) : Nat) : Int) - lim
  (s.drawn).setFreq b f

/-- The servo acts on offset `o` (2^-16 ns, base minus master) of the active path (R271, R272). -/
def State.servoStep (s : State) (b : Nat) (o : Int) : State :=
  let mag := o.natAbs
  let s := s.wr (E.Base.OFFSET_LAST b) (nsF32 o)
  let lock := s.rd (E.Base.LOCK_THRESHOLD b) * 65536
  match s.rd (E.Base.SERVO_STATE b) with
  | 4 => s
  | 2 =>
    let m := nsF32 (mag : Int)
    let s := if fmt32.lt (s.rd (E.Base.OFFSET_MAX b)) m then s.wr (E.Base.OFFSET_MAX b) m else s
    let x := s.tb b
    let out := if 8 * lock < mag then x.outside + 1 else 0
    let s := s.setTb b { x with outside := out }
    if 4 ≤ out then s.setServo b 1
    else
      let s := s.servoFreq b 500000000
      let x := s.tb b
      s.setTb b { x with lockedAdj := (s.rdI (E.Base.FREQ_ADJ b) :: x.lockedAdj).take 64 }
  | st =>
    let s := if st = 1 then s else s.setServo b 1
    let policy := s.rd (E.Base.STEP_POLICY b)
    let stepNow := s.rd (E.Base.STEP_THRESHOLD b) * 1000 * 65536 < mag && (policy == 0 || !(s.tb b).everLocked)
    if stepNow then
      let s := s.setTb b { s.tb b with inside := 0 }
      s.stepBase b (-o)
    else
      let x := s.tb b
      let inn := if mag ≤ lock then x.inside + 1 else 0
      let s := s.setTb b { x with inside := inn }
      if 16 ≤ inn then s.setServo b 2
      else
        let lim := s.rd (E.Base.SLEW_MAX b) * 1000000
        let s := s.servoFreq b lim
        let atLim := (s.rdI (E.Base.FREQ_ADJ b)).natAbs == lim
        let x := s.tb b
        let s := if atLim && !x.slewing then s.tsEvt 0x06 b 0 0 else s
        s.setTb b { s.tb b with slewing := atLim }

/-- PATH_DIFF and PATH_DISAGREE: the offset of the other path minus that of the active one (R285). -/
def State.comparePaths (s : State) (b : Nat) : State :=
  let x := s.tb b
  if x.pathA.lastSync.isSome && x.pathB.lastSync.isSome then
    let p := s.rd (E.Ptp.PATH_ACTIVE b)
    let d := if p = 1 then x.pathA.offset - x.pathB.offset else x.pathB.offset - x.pathA.offset
    let s := s.wr (E.Ptp.PATH_DIFF b) (nsF32 d)
    let far := decide (65536000 < d.natAbs)
    let s := if far && !x.disagree then s.tsEvt 0x07 b 0 (divRne d 65536) else s
    s.setTb b { s.tb b with disagree := far }
  else s

/-- Mean path delay of an instance on a port, in units of 2^-16 ns. -/
def State.pathDelay (s : State) (b port : Nat) : Option Int :=
  if s.rd (E.Ptp.DELAY_MECH b) = 1 then (s.time.peers.fetch {} port).delay
  else ((s.tb b).path (portPath port)).delay

/-- A usable Sync on a port: t1 with correction, t2 at the MDI, both in units of 2^-16 ns (R271, R285). -/
def State.usableSync (s : State) (b port : Nat) (t1 t2 : Int) : State :=
  let p := portPath port
  let s := s.inc (E.Ptp.SYNCS_RECEIVED b)
  let x := s.tb b
  let q := x.path p
  let o := t2 - t1 - (s.pathDelay b port).getD 0
  let fresh := match q.lastSync with
    | none => true
    | some l => decide (l + 4 * s.syncInterval b ≤ s.now)
  let s := s.setTb b (x.setPath p { q with lastSync := some s.now, offset := o, t1 := t1, t2 := t2, pending := none
                                           run := if fresh then 1 else q.run + 1 })
  let active := s.rd (E.Ptp.PATH_ACTIVE b)
  let primary := s.rd (E.Ptp.PRIMARY_PATH b)
  let s :=
    if active = 0xFF then s.switchPath b p
    else if active ≠ primary && p == primary && 16 ≤ ((s.tb b).path p).run then s.switchPath b p
    else s
  let s := s.comparePaths b
  if s.rd (E.Ptp.PATH_ACTIVE b) = p then
    let s := match s.pathDelay b port with
      | some d => s.wr (E.Ptp.MEAN_PATH_DELAY b) (nsF32 d)
      | none => s
    s.servoStep b o
  else s

/-- A message that the instance discards and counts: Management, Signaling, unicast, wrong domain (R280). -/
def State.ptpDiscards (s : State) (b : Nat) (m : PtpMsg) : Bool := m.unsupported || m.domain != s.rd (E.Ptp.PTP_DOMAIN b)

/-- The instance follows masters: SLAVE_ONLY, ORDINARY, and in a standby GM_FREE, whose instances act as slaves only there (R271,
R281); TB1 in BC_FROM_TB0 equals TB0 there too (R282). -/
def State.follows (s : State) (b : Nat) : Bool :=
  let r := s.role b
  r == 1 || r == 2 || (r == 3 && s.rd E.Twin.TWIN_ROLE == 1)

/-- Two portIdentities of one clock: a master that both paths hear is one master (R285; log 174). -/
def sameClock (a b : Nat) : Bool := a / 65536 == b / 65536

/-- The message comes from the selected master. -/
def State.fromMaster (s : State) (b : Nat) (m : PtpMsg) : Bool :=
  match (s.tb b).master with
  | some a => sameClock a.source m.source
  | none => false

/-- SYNC_RECEIVED (R284, R277): a Sync at a port, its SFD captured at half-nanosecond `mac`. -/
def State.syncReceived (s : State) (b port mac : Nat) (m : PtpMsg) : State :=
  if !portOf b port then s
  else
    let s := s.stamped port
    if s.ptpDiscards b m then s.inc (E.Ptp.DISCARDED b)
    else if !(s.follows b && s.fromMaster b m) then s
    else
      let t2 := s.rxStamp b port mac - s.asymmetry port
      if m.twoStep then
        let x := s.tb b
        let p := portPath port
        s.setTb b (x.setPath p { x.path p with pending := some (m.seq, t2 - m.corr, s.now) })
      else s.usableSync b port (m.ts + m.corr) t2

/-- FOLLOW_UP_RECEIVED (R284): completes the Sync it belongs to, within one Sync interval. -/
def State.followUp (s : State) (b port : Nat) (m : PtpMsg) : State :=
  if !portOf b port then s
  else if s.ptpDiscards b m then s.inc (E.Ptp.DISCARDED b)
  else
    match ((s.tb b).path (portPath port)).pending with
    | some (seq, t2, since) =>
      if seq = m.seq && s.fromMaster b m && decide ((s.now : Int) ≤ since + s.syncInterval b) then
        s.usableSync b port (m.ts + m.corr) t2
      else s
    | none => s

/-- FOLLOW_UP_TIMEOUT (R284): a Follow_Up not received within one Sync interval voids its Sync. -/
def State.followUpTimeout (s : State) (b port : Nat) : State :=
  let x := s.tb b
  let p := portPath port
  match (x.path p).pending with
  | some (_, _, since) =>
    if since + s.syncInterval b ≤ s.now then s.setTb b (x.setPath p { x.path p with pending := none }) else s
  | none => s

/-- The instance sends as a master: it is in MASTER, or BC_FROM_TB0, and the module is no standby (R271, R281, R282). -/
def State.sendsAsMaster (s : State) (b : Nat) : Bool :=
  s.rd (E.Twin.TWIN_ROLE) != 1 && (s.rd (E.Base.SERVO_STATE b) == 4 || s.role b == 4)

/-- SYNC_SEND (R284): the MDI transmit instant in originTimestamp, the sub-nanosecond part in correctionField. -/
def State.syncSend (s : State) (b port : Nat) : State :=
  if portOf b port && s.sendsAsMaster b && s.rd (E.Port.LINK_STATE port) != 0 then
    let t := s.txStamp b port
    let x := s.tb b
    let m : PtpMsg := { domain := s.rd (E.Ptp.PTP_DOMAIN b), source := portIdentity b port, seq := x.txSync
                        ts := t / 65536 * 65536, corr := t % 65536 }
    let s := s.setTb b { x with txSync := (x.txSync + 1) % 65536 }
    ((s.stamped port).drawn).emitPtp b port true false (.ptp .sync m)
  else s

/-- clockClass that a master announces (R281, R282). -/
def State.announcedClass (s : State) (b : Nat) : Nat :=
  if s.role b = 4 then
    match s.rd (E.Base.SYNC_STATE 0) with
    | 0 => match (s.tb 0).master with | some a => a.clockClass | none => s.rd (E.Ptp.CLOCK_CLASS 0)
    | 1 => 7
    | _ => 248
  else s.rd (E.Ptp.CLOCK_CLASS b)

/-- The Announce that instance `b` sends on a port (R281, R282, R293). -/
def State.ownAnnounce (s : State) (b port : Nat) : Announce :=
  let up := if s.role b = 4 then (s.tb 0).master else none
  let src := if s.role b = 4 then 0 else b
  { domain := s.rd (E.Ptp.PTP_DOMAIN b), source := portIdentity b port, priority1 := s.rd (E.Ptp.PRIORITY1 b)
    clockClass := s.announcedClass b
    accuracy := match up with | some a => a.accuracy | none => Config.clockAccuracy src % 256
    variance := match up with | some a => a.variance | none => Config.clockVariance src % 65536
    priority2 := s.rd (E.Ptp.PRIORITY2 b)
    gm := match up with | some a => a.gm | none => Config.clockIdentity src % 2 ^ 64
    stepsRemoved := match up with | some _ => s.rd (E.Ptp.STEPS_REMOVED 0) + 1 | none => if s.role b = 4 then 1 else 0
    utcOffset := s.rdI (E.Base.UTC_OFFSET src)
    leap61 := bitOf (s.rd (E.Base.LEAP src)) 0
    leap59 := bitOf (s.rd (E.Base.LEAP src)) 1 }

/-- ANNOUNCE_SEND (R281, R282). -/
def State.announceSend (s : State) (b port : Nat) : State :=
  if portOf b port && s.sendsAsMaster b && s.rd (E.Port.LINK_STATE port) != 0 then
    s.emitPtp b port false false (.announce (s.ownAnnounce b port))
  else s

/-- The data set comparison of the default best-master algorithm (Table TIM-6; PRESUMED, log 15): the order of its members. -/
def announceRank (a : Announce) : List Nat :=
  [a.priority1, a.clockClass, a.accuracy, a.variance, a.priority2, a.gm, a.stepsRemoved, a.source]

/-- Lexicographic order. -/
def lexLt : List Nat → List Nat → Bool
  | x :: xs, y :: ys => if x < y then true else if y < x then false else lexLt xs ys
  | _, _ => false

/-- `a` is the better master. -/
def betterMaster (a b : Announce) : Bool := lexLt (announceRank a) (announceRank b)

/-- Announce interval times ANNOUNCE_TIMEOUT, in nanoseconds. -/
def State.announceTimeout (s : State) (b : Nat) : Nat :=
  s.rd (E.Ptp.ANNOUNCE_TIMEOUT b) * logInterval (s.rdI (E.Ptp.LOG_ANNOUNCE b))

/-- The properties that an instance takes from its master's Announce (R293). -/
def State.takeAnnounce (s : State) (b : Nat) (a : Announce) : State :=
  let s := s.setTb b { s.tb b with master := some a, announceAt := s.now }
  let s := s.wrB (E.Ptp.MASTER_ID b) (beBytes 10 a.source)
  let s := s.wrB (E.Ptp.GM_ID b) (beBytes 8 a.gm)
  let s := s.wr (E.Ptp.STEPS_REMOVED b) a.stepsRemoved
  let s := s.wrI (E.Base.UTC_OFFSET b) a.utcOffset
  let old := s.rd (E.Base.LEAP b)
  let new := ofBool a.leap61 + 2 * ofBool a.leap59
  let s := s.wr (E.Base.LEAP b) new
  if (bitOf new 0 && !bitOf old 0) || (bitOf new 1 && !bitOf old 1) then s.tsEvt 0x05 b new 0 else s

/-- ANNOUNCE_RECEIVED (R281, R293): the best-master choice between the Announce, the selected master and the module. -/
def State.announceReceived (s : State) (b port : Nat) (a : Announce) : State :=
  if !portOf b port then s
  else if a.domain != s.rd (E.Ptp.PTP_DOMAIN b) then s.inc (E.Ptp.DISCARDED b)
  else if !s.follows b then s
  else
    let own := s.ownAnnounce b port
    let asMaster := s.role b == 2 && s.rd E.Twin.TWIN_ROLE != 1 && betterMaster own a
    match (s.tb b).master with
    | some m =>
      if sameClock m.source a.source then
        if asMaster then ((s.setTb b { s.tb b with master := none }).setServo b 4).wr (E.Ptp.PORT_STATE b) 6
        else s.takeAnnounce b a
      else if betterMaster a m then
        let s := s.takeAnnounce b a
        let s := s.tsEvt 0x03 b 0 (intOf 32 (a.source / 65536))
        if s.rd (E.Base.SERVO_STATE b) = 2 then s.setServo b 1 else s
      else s
    | none =>
      if asMaster then (s.setServo b 4).wr (E.Ptp.PORT_STATE b) 6
      else
        let s := (s.takeAnnounce b a).wr (E.Ptp.PORT_STATE b) 9
        let s := if s.rd (E.Base.SERVO_STATE b) = 4 then s.setServo b 1 else s
        s.tsEvt 0x03 b 0 (intOf 32 (a.source / 65536))

/-- ANNOUNCE_RECEIPT_TIMEOUT (R271, R281, R283): the selected master is lost; an ORDINARY instance that hears none becomes MASTER. -/
def State.announceLost (s : State) (b : Nat) : State :=
  let x := s.tb b
  if s.follows b && decide (x.announceAt + s.announceTimeout b ≤ s.now) then
    let s := s.setTb b { x with master := none }
    if x.master.isNone && (s.role b != 2 || s.rd (E.Base.SERVO_STATE b) == 4) then s
    else if s.role b = 2 && s.rd E.Twin.TWIN_ROLE != 1 then (s.setServo b 4).wr (E.Ptp.PORT_STATE b) 6
    else
      let s := s.wr (E.Ptp.PORT_STATE b) 4
      let st := s.rd (E.Base.SERVO_STATE b)
      if st = 1 || st = 2 then s.setServo b 3 else s
  else s

/-- A path has a usable Sync within the last 4 Sync intervals. -/
def State.pathLive (s : State) (b p : Nat) : Bool :=
  match ((s.tb b).path p).lastSync with
  | some l => decide ((s.now : Int) < l + 4 * s.syncInterval b)
  | none => false

/-- SYNC_INTERVAL_TIMEOUT (R271, R285): 4 Sync intervals without a usable Sync on the active path. -/
def State.syncLost (s : State) (b : Nat) : State :=
  let p := s.rd (E.Ptp.PATH_ACTIVE b)
  let st := s.rd (E.Base.SERVO_STATE b)
  if s.follows b && (st == 1 || st == 2) && !s.pathLive b p then
    if s.pathLive b (1 - p) then s.switchPath b (1 - p)
    else (s.wr (E.Ptp.PATH_ACTIVE b) 0xFF).setServo b 3
  else s

/-- DELAY_REQ_SEND (R277, R280, R284): the transmit instant is kept for the servo; ASYMMETRY enters the correctionField, which the master
returns (IEEE 1588 delay asymmetry). -/
def State.delayReqSend (s : State) (b port : Nat) : State :=
  if portOf b port && s.follows b && s.rd (E.Ptp.DELAY_MECH b) == 0 && (s.tb b).master.isSome
     && s.rd (E.Port.LINK_STATE port) != 0 then
    let t := s.txStamp b port
    let x := s.tb b
    let p := portPath port
    let m : PtpMsg := { domain := s.rd (E.Ptp.PTP_DOMAIN b), source := portIdentity b port, seq := x.txDelay, ts := t
                        corr := -s.asymmetry port }
    let s := s.setTb b ({ x with txDelay := (x.txDelay + 1) % 65536 }.setPath p { x.path p with t3 := some (x.txDelay, t) })
    ((s.stamped port).drawn).emitPtp b port true false (.ptp .delayReq m)
  else s

/-- DELAY_RESP_RECEIVED (R280): `m.ts` is the master's receive instant t4. -/
def State.delayResp (s : State) (b port : Nat) (m : PtpMsg) : State :=
  if !portOf b port then s
  else if s.ptpDiscards b m then s.inc (E.Ptp.DISCARDED b)
  else
    let x := s.tb b
    let p := portPath port
    let q := x.path p
    match q.t3 with
    | some (seq, t3) =>
      if seq = m.seq && m.requester = portIdentity b port && s.fromMaster b m && q.lastSync.isSome then
        let d := ((q.t2 - q.t1) + (m.ts - m.corr - t3)) / 2
        let s := s.setTb b (x.setPath p { q with t3 := none, delay := some d })
        if s.rd (E.Ptp.PATH_ACTIVE b) = p then s.wr (E.Ptp.MEAN_PATH_DELAY b) (nsF32 d) else s
      else s
    | none => s

/-- PDELAY_REQ_SEND (R280): an unanswered earlier request is `no response`. -/
def State.pdelayReqSend (s : State) (b port : Nat) : State :=
  if portOf b port && s.role b != 0 && s.rd (E.Ptp.DELAY_MECH b) == 1 && s.rd (E.Port.LINK_STATE port) != 0 then
    let q := s.time.peers.fetch {} port
    let s := if q.answered then s else s.wr (E.Stamp.PEER_DELAY_STATE port) 2
    let m : PtpMsg := { domain := s.rd (E.Ptp.PTP_DOMAIN b), source := portIdentity b port, seq := q.seq, corr := -s.asymmetry port }
    let q := { q with seq := (q.seq + 1) % 65536, t1 := some (s.txStamp b port), responder := none, answered := false }
    let s := { s with time := { s.time with peers := s.time.peers.store {} port q } }
    ((s.stamped port).drawn).emitPtp b port true true (.ptp .pdelayReq m)
  else s

/-- PDELAY_REQ_RECEIVED (R284, R286): answered on the port, the turnaround time in correctionField. -/
def State.pdelayReqReceived (s : State) (b port mac : Nat) (m : PtpMsg) : State :=
  if !portOf b port then s
  else
    let s := s.stamped port
    if s.ptpDiscards b m then s.inc (E.Ptp.DISCARDED b)
    else if s.rd (E.Ptp.DELAY_MECH b) = 1 && s.role b != 0 then
      let turn := (2 * (s.now : Int) + (Config.sfdPhase s.freeCtr % 8 : Nat) - mac) * 32768 + s.latency 0 port + s.latency 1 port
      let r : PtpMsg := { domain := m.domain, source := portIdentity b port, seq := m.seq, corr := m.corr + turn, requester := m.source }
      ((s.stamped port).drawn).emitPtp b port true true (.ptp .pdelayResp r)
    else s

/-- PDELAY_RESP_RECEIVED (R280): half of the round trip less the turnaround in `m.ts` and `m.corr`. -/
def State.pdelayResp (s : State) (b port mac : Nat) (m : PtpMsg) : State :=
  if !portOf b port then s
  else
    let s := s.stamped port
    if s.ptpDiscards b m then s.inc (E.Ptp.DISCARDED b)
    else
      let q := s.time.peers.fetch {} port
      match q.t1 with
      | some t1 =>
        if m.requester = portIdentity b port && (m.seq + 1) % 65536 = q.seq then
          match q.responder with
          | some r =>
            if r = m.source then s else s.wr (E.Stamp.PEER_DELAY_STATE port) 3
          | none =>
            let d := (s.rxStamp b port mac - t1 - m.ts - (m.corr + s.asymmetry port)) / 2
            let q := { q with responder := some m.source, answered := true, delay := some d }
            let s := { s with time := { s.time with peers := s.time.peers.store {} port q } }
            (s.wr (E.Stamp.PEER_DELAY port) (nsF32 d)).wr (E.Stamp.PEER_DELAY_STATE port) 1
        else s
      | none => s

/-- An event message that the transparent clock in TC_MODE `mode` corrects: a Sync, and a Delay_Req in P2P mode; in E2E mode Delay_Req
keeps its content (R287). -/
def tcCorrects (mode : Nat) : PtpKind → Bool
  | .sync => mode != 0
  | .delayReq => mode == 2
  | _ => false

/-- Peer-delay messages are link-local and not forwarded (R286). -/
def tcForwards : PtpKind → Bool
  | .pdelayReq => false
  | .pdelayResp => false
  | _ => true

/-- An event message, which is stamped at the port (R277). -/
def isEvent : PtpKind → Bool
  | .sync => true | .delayReq => true | .pdelayReq => true | .pdelayResp => true
  | _ => false

/-- Residence time in units of 2^-16 ns: MDI to MDI, at the rate of TB1 (R287, R290). -/
def State.residence (s : State) (f : TcFrame) : Int :=
  let half : Int := (f.tx : Int) - f.rx
  let g := (segAt (s.segs 1) s.now).freq
  half * incOf g / 34359738368 + s.latency 1 (2 + f.ingress.val) + s.latency 0 (3 - f.ingress.val)

/-- TC_EVENT_FORWARD (R287, R288). -/
def State.tcForward (s : State) (f : TcFrame) : State :=
  let inn := 2 + f.ingress.val
  let out := 3 - f.ingress.val
  if !tcForwards f.kind then s
  else
    let mode := s.rd E.Tc.TC_MODE
    let through := s.rd (E.Port.LINK_STATE inn) == s.rd (E.Port.LINK_STATE out) && f.egressIdle && !f.class3Waiting
    if !f.fcsOk && !through then s.inc (E.Port.RX_FCS_ERRORS inn)
    else
      let corrects := tcCorrects mode f.kind
      let res := s.residence f
      let link := if mode = 2 && f.kind = .sync then ((s.time.peers.fetch {} inn).delay).getD 0 + s.asymmetry inn else 0
      let s :=
        if corrects then
          let r := nsF32 res
          let first := s.rd E.Tc.TC_FRAMES == 0
          let s := (s.inc E.Tc.TC_FRAMES).wr E.Tc.RESIDENCE_LAST r
          let s := if first || fmt32.lt r (s.rd E.Tc.RESIDENCE_MIN) then s.wr E.Tc.RESIDENCE_MIN r else s
          if fmt32.lt (s.rd E.Tc.RESIDENCE_MAX) r then s.wr E.Tc.RESIDENCE_MAX r else s
        else s
      let s :=
        if isEvent f.kind then
          let s := (s.stamped inn).stamped out
          let s := if through then s else s.inc E.Tc.TC_STORED
          if f.fcsOk then s else s.inc E.Tc.TC_FCS_INVALIDATED
        else s
      let g := { f with corr := if corrects then f.corr + res + link else f.corr
                        udpChecksum := if corrects then f.udpChecksum.map (fun _ => 0) else f.udpChecksum }
      { s with net := { s.net with ports := s.net.ports.modify {} out (fun p => { p with tcOut := some g }) } }

/-- PARTNER_OFFSET_MEASURE (R292): the measured offset as a binary64, none while the Twin Link is down. -/
def State.partnerOffset (s : State) (m : Option Nat) : State :=
  let pos := s.rd E.Twin.TWIN_POSITION
  if pos = 1 || pos = 2 then
    match m with
    | some v => (s.wr E.Time.PARTNER_OFFSET v).wr E.Time.PARTNER_OFFSET_STATE 1
    | none => s.wr E.Time.PARTNER_OFFSET_STATE 2
  else s.wr E.Time.PARTNER_OFFSET_STATE 0

/-- TB0 to TB3 of one TIME cycle as TIME96 values (R274). -/
def State.snapshotAll (s : State) : List Nat := [0, 1, 2, 3].map (fun b => time96 (s.tbAt b s.now))

/-! ## Dictionary effects -/

/-- FREQ_ADJ, STEP and SET accept writes only in role DISABLED, else OUT_OF_RANGE (R270). -/
def State.chkDisabled (s : State) (b : Nat) : Nat := need (s.role b == 0) stRange

/-- SET of a base: seconds and nanoseconds replaced, fraction cleared, LOCKED while the role is DISABLED (R270). -/
def State.effSet (s : State) (b v : Nat) : State :=
  let u := ofTime96 (v / 65536 * 65536)
  let s := s.setVal b (u * 281474976710656)
  let s := s.setTb b { s.tb b with setLocked := true }
  ((s.inc (E.Base.STEPS b)).staleClock b).deriveSync b

/-- STEP of a base by a two's-complement number of nanoseconds (R270). -/
def State.effStep (s : State) (b v : Nat) : State := s.stepBase b (intOf 64 v * 65536)

/-- A TIME96 whose nanoseconds are valid. -/
def timeOk (v : Nat) : Bool := decide (v / 65536 % 2 ^ 32 < 1000000000)

/-- PTP_ROLE of an instance: 3 and 4 for TB1 only (R281). -/
def chkRole (b v : Nat) : Nat := need (v < 3 || b == 1) stRange

/-- The instance of base `b` starts in its role (R281): master in GM_FREE and BC_FROM_TB0 but for a standby's GM_FREE (R271). -/
def State.startInstance (s : State) (b : Nat) : State :=
  let v := s.role b
  let lead := (v == 3 || v == 4) && !s.follows b
  let s := s.setTb b { s.tb b with announceAt := s.now, bcSince := s.now }
  let s := (s.wr (E.Ptp.PATH_ACTIVE b) (s.rd (E.Ptp.PRIMARY_PATH b))).wr (E.Ptp.PORT_STATE b) (if v = 0 then 3 else if lead then 6 else 4)
  (s.setServo b (if lead then 4 else 0)).deriveSync b

/-- The GM_FREE instances restart where the module becomes ACTIVE or STANDBY: master there, slave here (R271). -/
def State.freeMasters (s : State) : State :=
  (List.range 3).foldl (fun s b => if s.role b == 3 then s.startInstance b else s) s

/-- A role change restarts the instance; its base keeps its value (R281). -/
def State.effRole (s : State) (b v : Nat) : State :=
  if s.role b = v then s.wrR (E.Ptp.PTP_ROLE b) v
  else
    let keep := tbHalf (s.segs b) (2 * s.now)
    let s := s.setTb b { s.tb b with segs := s.history b }
    let s := (s.wrR (E.Ptp.PTP_ROLE b) v).setVal b keep
    (s.setTb b { s.tb b with master := none, pathA := {}, pathB := {}, inside := 0, outside := 0, setLocked := false }).startInstance b

/-- TB0 and TB2 use different domains (Table TIM-11). -/
def State.chkDomain (s : State) (b v : Nat) : Nat :=
  if b = 0 then need (v != s.rd (E.Ptp.PTP_DOMAIN 2)) stRange
  else if b = 2 then need (v != s.rd (E.Ptp.PTP_DOMAIN 0)) stRange
  else stOk

/-- RESET_STATS of a base (Table TIM-10). -/
def State.effBaseStats (s : State) (b : Nat) : State := s.clear [E.Base.OFFSET_MAX b, E.Base.STEPS b, E.Base.LOCK_LOSSES b]

/-- RESET_STATS of the transparent clock (Table TIM-13). -/
def State.effTcStats (s : State) : State :=
  s.clear [E.Tc.TC_FRAMES, E.Tc.RESIDENCE_LAST, E.Tc.RESIDENCE_MIN, E.Tc.RESIDENCE_MAX, E.Tc.TC_STORED, E.Tc.TC_FCS_INVALIDATED]

/-- HOLDOVER_TIME in ms (Table TIM-10). -/
def State.holdoverMs (s : State) (b : Nat) : Nat :=
  if s.rd (E.Base.SERVO_STATE b) = 3 then (s.now - (s.tb b).holdSince) / 1000000 else 0

/-- STAMP_UNCERTAINTY of a port at its speed (Table TIM-5, R278): binary32. -/
def State.stampUncertainty (s : State) (port : Nat) : Nat :=
  match s.rd (E.Port.LINK_STATE port), s.on (E.Stamp.CAL_VALID port) with
  | 2, true => 0x3F800000
  | 2, false => 0x40880000
  | _, true => 0x40100000
  | _, false => 0x41040000

/-! ## Commands -/

/-- SYNC_RECEIVED (R284). -/
def execSyncReceived (at_ : Nat) (b port mac : Nat) (m : PtpMsg) (s : State) : Result :=
  .next ((s.advance at_).syncReceived b port mac m)

/-- FOLLOW_UP_RECEIVED (R284). -/
def execFollowUpReceived (at_ : Nat) (b port : Nat) (m : PtpMsg) (s : State) : Result :=
  .next ((s.advance at_).followUp b port m)

/-- FOLLOW_UP_TIMEOUT (R284). -/
def execFollowUpTimeout (at_ : Nat) (b port : Nat) (s : State) : Result :=
  .next ((s.advance at_).followUpTimeout b port)

/-- SYNC_SEND (R284). -/
def execSyncSend (at_ : Nat) (b port : Nat) (s : State) : Result :=
  .next ((s.advance at_).syncSend b port)

/-- ANNOUNCE_SEND (R281). -/
def execAnnounceSend (at_ : Nat) (b port : Nat) (s : State) : Result :=
  .next ((s.advance at_).announceSend b port)

/-- ANNOUNCE_RECEIVED (R293). -/
def execAnnounceReceived (at_ : Nat) (b port : Nat) (a : Announce) (s : State) : Result :=
  .next ((s.advance at_).announceReceived b port a)

/-- ANNOUNCE_RECEIPT_TIMEOUT (R271). -/
def execAnnounceReceiptTimeout (at_ : Nat) (b : Nat) (s : State) : Result :=
  .next ((s.advance at_).announceLost b)

/-- SYNC_INTERVAL_TIMEOUT (R271). -/
def execSyncIntervalTimeout (at_ : Nat) (b : Nat) (s : State) : Result :=
  .next ((s.advance at_).syncLost b)

/-- DELAY_REQ_SEND (R280). -/
def execDelayReqSend (at_ : Nat) (b port : Nat) (s : State) : Result :=
  .next ((s.advance at_).delayReqSend b port)

/-- DELAY_RESP_RECEIVED (R280). -/
def execDelayRespReceived (at_ : Nat) (b port : Nat) (m : PtpMsg) (s : State) : Result :=
  .next ((s.advance at_).delayResp b port m)

/-- PDELAY_REQ_SEND (R280). -/
def execPdelayReqSend (at_ : Nat) (b port : Nat) (s : State) : Result :=
  .next ((s.advance at_).pdelayReqSend b port)

/-- PDELAY_REQ_RECEIVED (R286). -/
def execPdelayReqReceived (at_ : Nat) (b port mac : Nat) (m : PtpMsg) (s : State) : Result :=
  .next ((s.advance at_).pdelayReqReceived b port mac m)

/-- PDELAY_RESP_RECEIVED (R280). -/
def execPdelayRespReceived (at_ : Nat) (b port mac : Nat) (m : PtpMsg) (s : State) : Result :=
  .next ((s.advance at_).pdelayResp b port mac m)

/-- TC_EVENT_FORWARD (R287). -/
def execTcEventForward (at_ : Nat) (f : TcFrame) (s : State) : Result :=
  .next ((s.advance at_).tcForward f)

/-- PARTNER_OFFSET_MEASURE (R292). -/
def execPartnerOffsetMeasure (at_ : Nat) (m : Option Nat) (s : State) : Result :=
  .next ((s.advance at_).partnerOffset m)

end Sys2Proof.Machine
end

