-- ==== Sys2Proof/Machine/Runtime.lean ====
section
/-!
DEFINITION. Machine/Runtime.lean: tasks, releases, copy-in, modes, function-block instances and forces of the cyclic runtime
(R85 to R111, R118, R122, R583).
-/
namespace Sys2Proof.Machine

/-! ## Tasks -/

/-- Task `t` beside its entries. -/
def State.task (s : State) (t : Nat) : RtTask := s.rt.tasks.fetch {} t

/-- Task `t` replaced. -/
def State.setTask (s : State) (t : Nat) (x : RtTask) : State :=
  { s with rt := { s.rt with tasks := s.rt.tasks.store {} t x } }

/-- Every task changed by `f`. -/
def State.mapTasks (s : State) (f : RtTask → RtTask) : State :=
  { s with rt := { s.rt with tasks := { cells := s.rt.tasks.cells.map (fun c => (c.1, f c.2)) } } }

/-- TASK_STATE (Table RUN-13). -/
def State.taskState (s : State) (t : Nat) : Nat :=
  let x := s.task t
  match x.attr, x.turn with
  | none, _ => 0
  | some _, some u => if u.held then 3 else 2
  | some _, none => if s.isStop then 4 else 1

/-- An error record is queued for a task and recorded in the ledger; beyond 255 the oldest is discarded (R118, Table RUN-13). -/
def State.queueErr (s : State) (t : Nat) (r : ErrRec) : State :=
  let x := s.task t
  let q := x.errors ++ [r]
  let s := if q.length ≤ 255 then s.setTask t { x with errors := q }
           else (s.setTask t { x with errors := q.drop 1 }).inc (E.Task.ERRORS_LOST t)
  let s := s.wr (E.Task.ERRORS_QUEUED t) (min q.length 255)
  s.log 0x03 0x02 (vU8 t ++ vU8 r.cause ++ (r.data.map vU64).flatten ++ (match r.stamp with
    | some i => vTime (time96ns i)
    | none => []))

/-- The task ids that the archive defines. -/
def State.taskIds (s : State) : List Nat := (s.rt.tasks.cells.filter (fun c => c.2.attr.isSome)).map (·.1)

/-- A turn is in progress somewhere. -/
def State.anyTurn (s : State) : Bool := s.rt.tasks.cells.any (fun c => c.2.turn.isSome)

/-- The oldest records beyond 255 are discarded and counted (Table RUN-13). -/
def State.trimErrors (s : State) (t : Nat) : State :=
  let q := (s.task t).errors
  let s := (s.setTask t { s.task t with errors := q.drop (q.length - 255) }).wr (E.Task.ERRORS_QUEUED t) (min 255 q.length)
  s.addTo (E.Task.ERRORS_LOST t) (q.length - 255)

/-- A turn is abandoned: it commits nothing and retires nothing (R94, R135), its release adds 1 to ABANDONED (R121). The task's
images and the flags of its next header are again those before the copy-in, and the releases that its header counted count for the
next turn (Table RUN-4). -/
def State.abandonTurn (s : State) (t : Nat) : State :=
  let x := s.task t
  match x.turn with
  | none => s
  | some u =>
    let x := match u.before with
      | some c => { x with late := c.late, resumed := c.resumed, image := c.image, canIn := c.canIn, rspIn := c.rspIn }
      | none => x
    let s := s.setTask t { x with turn := none, errors := u.errors ++ x.errors, skipped := min 0xFFFF (u.skipped + x.skipped) }
    let s := u.exports.foldl (fun s e =>
      if (s.rt.exportIn.find e.1).isSome then s
      else { s with rt := { s.rt with exportIn := s.rt.exportIn.put e.1 e.2 } }) s
    (s.trimErrors t).inc (E.Task.ABANDONED t)

/-- A turn that a Doubles restart abandons leaves the statistics that it changed as its pair's checkpoint holds them (R134), and its
release is that of the RESUMED record (R121). -/
def State.rollBack (s : State) (t : Nat) : State :=
  match (s.task t).turn with
  | none => s
  | some u =>
    let s := (s.wr (E.Task.LAST_RELEASE t) u.lastRelease).setTask t { s.task t with abandonedRelease := some u.snap.release }
    let s := match u.before with
      | some c => s.wr (E.Task.START_LATENCY_MAX t) c.latency
      | none => s
    s.abandonTurn t

/-- Every turn of the tasks that satisfy `p` is abandoned. -/
def State.abandonWhere (s : State) (p : RtTask → Bool) : State :=
  (s.rt.tasks.cells.filter (fun c => p c.2)).foldl (fun s c => s.abandonTurn c.1) s

/-! ## Modes (R97 to R101, R583) -/

/-- A change of RUNTIME_MODE, recorded with STOP_CAUSE (Table LDG-2, MODE). -/
def State.setMode (s : State) (m : Nat) : State :=
  (s.wr E.Run.RUNTIME_MODE m).log 0x03 0x04 (vU8 m ++ vU8 (s.rd E.Run.STOP_CAUSE))

/-- STOP is entered: STOP_ACTIONs apply at the next frame boundary (R98). -/
def State.enterStop (s : State) (cause : Nat) : State :=
  let s := (s.wr E.Run.STOP_CAUSE cause).wr E.Run.STOP_PENDING 0
  let s := (s.wr E.Run.HOLD_TASK 0xFF).setMode 1
  { s with rt := { s.rt with stopApply := true, holdSince := none } }

/-- STOP_NOW: running and held turns are abandoned and STOP is entered (Table RUN-5); in STOP only the turns end. -/
def State.stopNow (s : State) (cause : Nat) : State :=
  let s := s.abandonWhere (fun _ => true)
  if s.isStop then s else s.enterStop cause

/-- A first-turn event (R102): the first turn of each task carries FIRST_TURN, and every instance is fresh (R104 to R106). -/
def State.firstTurns (s : State) : State :=
  let s := s.mapTasks (fun x =>
    { x with first := true, turnNumber := 0, late := false, resumed := false, skipped := 0, abandonedRelease := none })
  { s with rt := { s.rt with insts := { cells := s.rt.insts.cells.map (fun c => (c.1, { c.2 with fresh := true })) } } }

/-- STOP to RUN (Table RUN-5). -/
def State.enterRun (s : State) : State :=
  let s := (s.wr E.Run.STOP_PENDING 0).setMode 0
  let s := { s with rt := { s.rt with stopApply := false } }
  s.firstTurns

/-- RUNTIME_COMMAND is allowed in the current mode (Table RUN-5, R99, R583). -/
def State.chkCommand (s : State) (v : Nat) : Nat :=
  let pend := s.on E.Run.STOP_PENDING
  need (match v with
    | 1 => s.isStop && s.operating && s.rt.archive.isSome
    | 2 => s.isRun
    | 3 => s.isRun || s.isHold
    | 4 => s.isRun && !pend && s.on E.Run.HOLD_PERMIT
    | 5 => s.isHold
    | 6 => s.isHold
    | _ => false) stMode

/-- HOLD is entered (R99). -/
def State.enterHold (s : State) (task : Nat) : State :=
  let s := (s.wr E.Run.HOLD_TASK task).setMode 2
  { s with rt := { s.rt with holdSince := some s.now } }

/-- A pending STOP is entered when the last running turn has ended (R583). -/
def State.settleStop (s : State) : State :=
  if s.on E.Run.STOP_PENDING && !s.anyTurn then s.enterStop 1 else s

/-- STOP command: pending until the last running turn commits (R97, R583). -/
def State.effStop (s : State) : State := (s.wr E.Run.STOP_PENDING 1).settleStop

/-- CONTINUE: held turns resume (Table RUN-5). -/
def State.effContinue (s : State) : State :=
  let s := s.mapTasks (fun x => { x with turn := x.turn.map (fun u => { u with held := false, stepping := false }) })
  let s := { s with rt := { s.rt with holdSince := none } }
  (s.wr E.Run.HOLD_TASK 0xFF).setMode 0

/-- STEP: the held turn runs until its next breakpoint or its commit (Table RUN-5). -/
def State.effStep_ (s : State) : State :=
  let t := s.rd E.Run.HOLD_TASK
  if t = 0xFF then s
  else
    let x := s.task t
    s.setTask t { x with turn := x.turn.map (fun u => { u with held := false, stepping := true }) }

/-- The effect of RUNTIME_COMMAND (Table RUN-5). -/
def State.effCommand (s : State) (v : Nat) : State :=
  match v with
  | 1 => s.enterRun
  | 2 => s.effStop
  | 3 => s.stopNow 1
  | 4 => s.enterHold 0xFF
  | 5 => s.effContinue
  | 6 => s.effStep_
  | _ => s

/-- Task `c` does not keep the turn of `t` from its pair (R87, R99): `started` says that the turn of `t` has started. A held turn keeps
its pair; a stepping turn has its pair to itself; else the priorities decide. -/
def lets (s : State) (t : Nat) (a : TaskAttr) (u : Turn) (c : Nat × RtTask) : Bool :=
  match c.2.attr, c.2.turn with
  | some b, some v =>
    if c.1 == t || b.pair != a.pair then true
    else if s.isHold && u.stepping then true
    else if v.held || (s.isHold && v.stepping) then false
    else if u.started then decide (a.priority ≤ b.priority)
    else if v.started then decide (a.priority < b.priority)
    else decide (a.priority < b.priority) || (a.priority == b.priority && decide (t < c.1))
  | _, _ => true

/-- The turn `u` of `t` may run now on its pair (R87): its pair runs, it is not held, and no other turn keeps the pair. -/
def State.turnMayRun (s : State) (t : Nat) (a : TaskAttr) (u : Turn) : Bool :=
  !u.held && s.rd (E.Dbl.PAIR_STATE a.pair) == 1 && s.rt.tasks.cells.all (lets s t a u)

/-- BREAKPOINT_REACHED (R99, R583): ignored without HOLD_PERMIT or while a STOP is pending. -/
def State.breakpoint (s : State) (t : Nat) : State :=
  let x := s.task t
  match x.attr, x.turn with
  | some a, some u =>
    let stepping := s.isHold && u.stepping
    if u.started && s.turnMayRun t a u && s.on E.Run.HOLD_PERMIT && !s.on E.Run.STOP_PENDING && (s.isRun || stepping) then
      let s := s.setTask t { x with turn := some { u with held := true, stepping := false } }
      if s.isRun then s.enterHold t else s.wr E.Run.HOLD_TASK t
    else s
  | _, _ => s

/-- HOLD_LIMIT_EXPIRY (R97): as STOP_NOW. -/
def State.holdLimit (s : State) : State :=
  match s.rt.holdSince with
  | some t => if s.isHold && decide (t + 1000000 * (s.rd E.Run.HOLD_LIMIT : Int) ≤ s.now) then s.stopNow 3 else s
  | none => s

/-- A write of false to HOLD_PERMIT in HOLD ends with MODE_CONFLICT (R99). -/
def State.chkHoldPermit (s : State) (v : Nat) : Nat := need (v != 0 || !s.isHold) stMode

/-- RETAIN_RESET: every RETAIN variable takes its initial value, function-block instances with their counters among them (R103,
R106). -/
def State.effRetainReset (s : State) : State :=
  match s.rt.archive with
  | none => s
  | some a =>
    let s := (a.insts.filter (·.retain)).foldl (fun s i =>
      { s with rt := { s.rt with insts := s.rt.insts.put i.path { kind := i.kind }
                                 retInsts := s.rt.retInsts.put i.path { kind := i.kind } } }) s
    (a.vars.filter (·.retain)).foldl (fun s v =>
      { s with rt := { s.rt with vars := s.rt.vars.put v.path v.init, retained := s.rt.retained.put v.path v.init } }) s

/-- RESET_STATS of a task (Table RUN-13). -/
def State.effTaskStats (s : State) (t : Nat) : State :=
  s.clear [E.Task.OVERRUNS t, E.Task.SKIPPED t, E.Task.EXEC_LAST t, E.Task.EXEC_MAX t, E.Task.START_LATENCY_MAX t,
    E.Task.ABANDONED t, E.Task.ERRORS_LOST t]

/-! ## Forces (R107 to R111) -/

/-- CLASS and NUMBER of a point ID (Table RUN-7). -/
def pointClass (p : Nat) : Nat := p / 2 ^ 24
/-- NUMBER of a point ID. -/
def pointNumber (p : Nat) : Nat := p / 256 % 65536
/-- The point ID of a class and a number. -/
def pointId (cls n : Nat) : Nat := cls * 2 ^ 24 + n * 256

/-- A forceable point (R107, Table RUN-7); the reserved bits are ignored (R15). -/
def forceable (p : Nat) : Bool :=
  (match pointClass p with
    | 1 => decide (pointNumber p < 64)
    | 2 => decide (pointNumber p < 64)
    | 3 => decide (pointNumber p < 32)
    | 4 => decide (pointNumber p < 16)
    | 5 => true
    | 6 => true
    | 7 => decide (pointNumber p < 8192)
    | _ => false)

/-- The lead and the width of the bank that holds output `o` under the profiles `prof` (R363); itself and 1 without a bank. -/
def bankWith (prof : Nat → Nat) (o : Nat) : Nat × Nat :=
  if prof (o / 4 * 4) = 2 then (o / 4 * 4, 4)
  else if prof (o / 2 * 2) = 1 then (o / 2 * 2, 2)
  else (o, 1)

/-- The lead and width of an output's bank by the profiles as written. -/
def State.bank (s : State) (o : Nat) : Nat × Nat := bankWith (fun k => s.rd (E.Do.DO_PROFILE k)) o

/-- A point that is a bank member (R365): it is no output point of its own. -/
def State.bankMember (s : State) (p : Nat) : Bool := pointClass p == 2 && (s.bank (pointNumber p)).1 != pointNumber p

/-- An output point: DO, AO, ECX output byte, CAN data byte. -/
def isOutputPoint (p : Nat) : Bool := [2, 4, 6, 7].contains (pointClass p)

/-- Bytes of an encoding. -/
def encWidth : Enc → Nat
  | .u8 => 1 | .u16 => 2 | .i16 => 2 | .i32 => 4 | .f32 => 4

/-- The output points of a destination, in the order of its bytes. -/
def destPoints : OutDest → List Nat
  | .none => []
  | .ao i => [pointId 4 i]
  | .dig i => [pointId 2 i]
  | .can c o off enc _ => (List.range (encWidth enc)).map (fun k => pointId 7 (c * 2048 + o * 64 + off + k))
  | .ecx n off enc => (List.range (encWidth enc)).map (fun k => pointId 6 (n * 1024 + off + k))

/-- The output point whose writer counts: a CAN transmit object is one point (R34). -/
def wholePoint (p : Nat) : Nat := if pointClass p = 7 then pointId 7 (pointNumber p / 64 * 64) else p

/-- The loop whose destination a point is: its writer (R34, R224). -/
def loopWriter (a : Archive) (p : Nat) : Option PointWriter :=
  (a.loops.find? (fun d => (destPoints d.out0 ++ destPoints d.out1).any (fun q => wholePoint q == wholePoint p))).map (fun d => .loop d.id)

/-- The archive's declaration of a point. -/
def State.decl (s : State) (p : Nat) : Option PointDecl :=
  match s.rt.archive with
  | none => none
  | some a => a.points.find? (fun d => d.point == p)

/-- The writer of an output point: as the archive declares it, or the loop whose destination it is (R34). -/
def State.writerOf (s : State) (p : Nat) : Option PointWriter :=
  match (s.decl p).bind (·.writer) with
  | some w => some w
  | none => s.rt.archive.bind (fun a => loopWriter a p)

/-- The point of slot `f`; the reserved bits of its ID are ignored (R15, Table RUN-7). -/
def State.forcePoint (s : State) (f : Nat) : Nat := s.rd (E.Force.FORCE_POINT f) / 256 * 256

/-- Slot `f` holds an active force on a point that exists (R111, Table RUN-8). -/
def State.forceActs (s : State) (f : Nat) : Bool :=
  s.on (E.Force.FORCE_ACTIVE f) && (s.decl (s.forcePoint f)).isSome

/-- MODULE_STATE is SAFE_STATE or RESTORE_FAULT (R140). -/
def State.inSafe (s : State) : Bool := s.rd E.Id.MODULE_STATE == 2 || s.rd E.Id.MODULE_STATE == 3

/-- The active force slot of a point; none acts in SAFE_STATE and RESTORE_FAULT (R140). -/
def State.forceOf (s : State) (p : Nat) : Option Nat :=
  if s.inSafe then none
  else (List.range 240).find? (fun f => s.on (E.Force.FORCE_ACTIVE f) && s.forcePoint f == p && (s.decl p).isSome)

/-- Any force is active (R111). -/
def State.anyForce (s : State) : Bool := (List.range 240).any (fun f => s.on (E.Force.FORCE_ACTIVE f))

/-- FORCE_STATE of a slot (Table RUN-8). -/
def State.forceState (s : State) (f : Nat) : Nat :=
  let p := s.forcePoint f
  if p = 0 then 0
  else match s.decl p with
  | none => 4
  | some _ => if !s.on (E.Force.FORCE_ACTIVE f) then 1 else if isOutputPoint p && (s.writerOf p).isNone then 3 else 2

/-- A binary64 that is an integer from 0 to `hi`. -/
def f64Small (v hi : Nat) : Option Nat := (List.range (hi + 1)).find? (fun n => fmt64.ofNat n == v)

/-- A current within the channel's range, 0 mA to 24 mA (Tables ANA-1 and ANA-4). -/
def channelRange (v : Nat) : Bool := fmt32.le 0 v && fmt32.le v 0x41C00000

/-- The raw value of a force value at a point (R108): 0 or 1, a byte, or the channel's binary32 through its scale; none where
it does not convert within the channel's range. Scale 0 presents the channel's own unit (log 16). -/
def rawForce (p : Nat) (d : Option PointDecl) (v : Nat) : Option Nat :=
  match pointClass p with
  | 1 => f64Small v 1
  | 2 => f64Small v 1
  | 5 => f64Small v 255
  | 6 => f64Small v 255
  | 7 => f64Small v 255
  | _ =>
    let raw := match d with
      | none => fmt64.convert fmt32 v
      | some d => if d.scale = 0 then fmt64.convert fmt32 v else Config.scaleRaw d.scale v % 2 ^ 32
    let inScale := match d with
      | none => true
      | some d => fmt64.le d.lo v && fmt64.le v d.hi
    if fits32 v && inScale && channelRange raw then some raw else none

/-- FORCE_POINT is written only while the slot is inactive, with 0 or a forceable point that is no bank member (Table RUN-8, R365). -/
def State.chkForcePoint (s : State) (f v : Nat) : Nat :=
  firstBad [need (!s.on (E.Force.FORCE_ACTIVE f)) stMode, need (decide (v < 256) || (forceable v && !s.bankMember v)) stRange]

/-- FORCE_VALUE converts at the slot's point (R108). -/
def State.chkForceValue (s : State) (f v : Nat) : Nat :=
  let p := s.forcePoint f
  need (p == 0 || (rawForce p (s.decl p) v).isSome) stRange

/-- FORCE_ACTIVE: the slot has a point whose value converts, and no other slot holds it active (Table RUN-8, R108). -/
def State.chkForceActive (s : State) (f v : Nat) : Nat :=
  if v = 0 then stOk
  else
    let p := s.forcePoint f
    need (p != 0 && !s.bankMember p && (rawForce p (s.decl p) (s.rd (E.Force.FORCE_VALUE f))).isSome
      && !(List.range 240).any (fun g => g != f && s.on (E.Force.FORCE_ACTIVE g) && s.forcePoint g == p)) stRange

/-- The record of an activation, removal or clear (R111): point and requesting node. -/
def State.logForce (s : State) (p node : Nat) : State := s.log 0x03 0x03 (vU32 p ++ vU32 node)

/-- The raw value that an active force gives a point. -/
def State.forcedRaw (s : State) (p : Nat) : Option Nat :=
  match s.forceOf p with
  | some f => rawForce p (s.decl p) (s.rd (E.Force.FORCE_VALUE f))
  | none => none

/-- Active forces: point and raw value (R109); none in SAFE_STATE and RESTORE_FAULT (R140). -/
def State.forceList (s : State) : List (Nat × Nat) :=
  if s.inSafe then []
  else (List.range 240).filterMap (fun f =>
    if s.on (E.Force.FORCE_ACTIVE f) then
      let p := s.forcePoint f
      (s.decl p).bind (fun d => (rawForce p (some d) (s.rd (E.Force.FORCE_VALUE f))).map (fun v => (p, v)))
    else none)

/-- FORCE_WRITTEN of a forced output point follows its writer (R110): the value in the point's type and scale. -/
def State.noteWritten (s : State) (p v : Nat) : State :=
  match s.forceOf p with
  | none => s
  | some f =>
    let w := if pointClass p = 4 then
               (match s.decl p with
                | some d => if d.scale = 0 then fmt32.convert fmt64 v else Config.scaleBack d.scale v % 2 ^ 64
                | none => fmt32.convert fmt64 v)
             else fmt64.ofNat v
    s.wr (E.Force.FORCE_WRITTEN f) w

/-- The value that the writer of an output point committed last (R110): a byte of a station's image or of an object's image, or the
committed output. -/
def State.lastWritten (s : State) (p : Nat) : Nat :=
  let n := pointNumber p
  match pointClass p with
  | 6 => (s.ecx.stations.fetch {} (n / 1024)).image.fetch 0 (n % 1024)
  | 7 => ((((s.can.fetch {} (n / 2048)).objs.fetch {} (n / 64 % 32)).image.getD (n % 64) 0)).toNat
  | _ => s.rt.outs.fetch 0 p

/-- FORCE_ACTIVE takes effect (R109, R111); the point of an orphaned force is free at the next frame boundary (R112). -/
def State.effForceActive (s : State) (f v node : Nat) : State :=
  let p := s.forcePoint f
  let old := s.on (E.Force.FORCE_ACTIVE f)
  let orphan := s.forceState f == 3
  let s := s.wrR (E.Force.FORCE_ACTIVE f) v
  if v != 0 then ((s.wrR (E.Force.FORCE_SET_BY f) node).noteWritten p (s.lastWritten p)).logForce p node
  else if old then
    let s := if orphan then { s with rt := { s.rt with freed := p :: s.rt.freed } } else s
    (s.wr (E.Force.FORCE_WRITTEN f) 0).logForce p node
  else s

/-- FORCE_CLEAR_ALL removes every force at one commit (Table RUN-8). -/
def State.effForceClear (s : State) (node : Nat) : State :=
  ((List.range 240).filter (fun f => s.on (E.Force.FORCE_ACTIVE f))).foldl (fun s f => s.effForceActive f 0 node) s

/-! ## Function-block instances (R104 to R106, Table RUN-6) -/

/-- Counter values of IEC 61131-3 INT (PRESUMED, log 17). -/
def cvMax : Int := 32767
/-- Lowest counter value. -/
def cvMin : Int := -32768

/-- One evaluation of an instance in a turn released at `rel` (TB3, ns). In its first turn the previous input equals the current
one, and a timer behaves as in Table RUN-6. -/
def evalFb (rel : Int) (i : FbInst) (c : FbCall) : FbInst :=
  let prev := if i.fresh then c.in1 else i.prev
  let prev2 := if i.fresh then c.in2 else i.prev2
  let rise := c.in1 && !prev
  let fall := !c.in1 && prev
  let rise2 := c.in2 && !prev2
  let b : FbInst := { i with kind := c.kind, prev := c.in1, prev2 := c.in2, fresh := false }
  let elapsed := fun t : Int => min c.pt (rel - t).toNat
  match c.kind with
  | .rTrig => { b with q := rise }
  | .fTrig => { b with q := fall }
  | .ton =>
    if !c.in1 then { b with q := false, et := 0, since := none }
    else
      let t := if i.fresh then rel else i.since.getD rel
      { b with since := some t, et := elapsed t, q := decide (c.pt ≤ elapsed t) }
  | .tof =>
    if c.in1 then { b with q := true, et := 0, since := none }
    else
      match (if i.fresh then none else if fall then some rel else i.since) with
      | none => { b with q := false, et := if i.fresh then 0 else i.et, since := none }
      | some t =>
        if c.pt ≤ elapsed t then { b with q := false, et := c.pt, since := none }
        else { b with q := true, et := elapsed t, since := some t }
  | .tp =>
    if i.fresh then { b with q := false, et := 0, since := none }
    else
      match i.since with
      | some t =>
        if c.pt ≤ elapsed t then { b with q := false, et := if c.in1 then c.pt else 0, since := none }
        else { b with q := true, et := elapsed t }
      | none =>
        if rise then { b with q := decide (0 < c.pt), et := 0, since := some rel }
        else { b with q := false, et := if c.in1 then i.et else 0 }
  | .ctu =>
    let cv := if c.reset then 0 else if rise && i.cv < cvMax then i.cv + 1 else i.cv
    { b with cv := cv, q := decide (c.pv ≤ cv) }
  | .ctd =>
    let cv := if c.load then c.pv else if rise && cvMin < i.cv then i.cv - 1 else i.cv
    { b with cv := cv, q := decide (cv ≤ 0) }
  | .ctud =>
    let cv := if c.reset then 0 else if c.load then c.pv
              else
                let up := if rise && i.cv < cvMax then i.cv + 1 else i.cv
                if rise2 && cvMin < up then up - 1 else up
    { b with cv := cv, q := decide (c.pv ≤ cv), qd := decide (cv ≤ 0) }

/-! ## Release and copy-in -/

/-- The responses on ring 30 for task `t` that were committed before `now` (R57). -/
def State.responsesFor (s : State) (t : Nat) : List (Nat × Nat × List Byte) :=
  (s.ring 30).q.filterMap (fun e => match e with
    | .odRsp x => if x.task == t && decide (x.at_ < s.now) then some (x.service, x.status, x.payload) else none
    | _ => none)

/-- The frames that the RXQ rings hold whose receiving task is `t`, up to 64 of each (R90, R347). -/
def State.framesFor (s : State) (t : Nat) : List (Nat × List Byte) :=
  (List.range 4).flatMap (fun c =>
    if s.rd (E.Can.RX_CONSUMER c) = t then
      ((s.ring (17 + 2 * c)).q.take 64).filterMap (fun e => match e with
        | .bytes b => some (c, b)
        | _ => none)
    else [])

/-- The packets that MBX0 holds, which the defined task of the lowest number takes (R37, log 157). -/
def State.mailFor (s : State) (t : Nat) : List (List Byte) :=
  if (List.range t).any (fun k => (s.task k).attr.isSome) then []
  else (s.ring 46).q.filterMap (fun e => match e with
    | .bytes b => some b
    | _ => none)

/-- Outcome record and position of board `b` as committed before `now` (R32, R33, R208): an outcome of the same instant is not seen
yet. -/
def State.outcomeSeen (s : State) (b : Nat) : Outcome :=
  let tb3 := s.rd (E.Solve.LAST_OUTCOME_TB3 b)
  if s.rd (E.Solve.LAST_SOLVE_ID b) != 0 && tb3 == time96ns s.now then s.frame.before.fetch {} b
  else
    let x := s.frame.boards.fetch {} b
    { solveId := s.rd (E.Solve.LAST_SOLVE_ID b), status := s.rd (E.Solve.LAST_STATUS b), flags := s.rd (E.Solve.LAST_FLAGS b)
      tb3 := tb3, pos := if x.st = 2 then some x.pos else none }

/-- The board numbers that hold a board or an outcome. -/
def State.recordedBoards (s : State) : List Nat :=
  (List.range 256).filter (fun b => s.rd (E.Solve.LAST_SOLVE_ID b) != 0 || (s.frame.boards.find b).isSome)

/-- OUT0 and OUT1 of loop `l` as committed before `now`: a release comes before the commits of its boundary (R89). -/
def State.loopSeen (s : State) (l : Nat) : Nat × Nat :=
  if s.tally.frameAt = some s.now then s.tally.before.fetch (0, 0) l else (s.rd (E.Loop.OUT0 l), s.rd (E.Loop.OUT1 l))

/-- The stations of the archive, and those that have a state. -/
def State.knownStations (s : State) : List Nat :=
  (List.range 64).filter (fun n => (s.ecx.stations.find n).isSome || s.rt.archive.any (fun a => a.stations.any (fun d => d.station == n)))

/-- A station's status bit and its input bytes: live or substitute values (R90, R117). -/
def State.stationSeen (s : State) (n : Nat) : Bool × List Byte :=
  let live := fitTo 0 (s.rd (E.Station.IN_LENGTH n)) (s.ecx.stations.fetch {} n).live
  if s.rd (E.Station.STATION_STATE n) = 3 then (true, live)
  else (false, match s.rt.archive.bind (fun a => a.stations.find? (fun d => d.station == n)) with
    | some { substitute := .value b, .. } => fitTo 0 (s.rd (E.Station.IN_LENGTH n)) b
    | some { substitute := .holdLast, .. } => live
    | none => List.replicate (s.rd (E.Station.IN_LENGTH n)) 0)

/-- What the fabric orders before a release of task `t` (R89, R90, Table RUN-3). -/
def State.snapshot (s : State) (t : Nat) : Snapshot :=
  { release := s.now
    tb0 := time96 (s.tbAt 0 s.now)
    tb0State := s.rd (E.Base.SYNC_STATE 0)
    di := (List.range 64).foldl (fun a i => a + s.rd (E.Di.DI_STATE i) * 2 ^ i) 0
    ai := { cells := (List.range 32).map (fun i => (i, (s.rd (E.Ai.AI_CURRENT i), s.linkRd (E.Ai.AI_DIAG i)))) }
    rio := { cells := s.knownStations.map (fun n => (n, s.stationSeen n)) }
    loops := { cells := s.tally.loops.cells.map (fun c => (c.1, s.loopSeen c.1)) }
    solves := { cells := s.recordedBoards.map (fun b => (b, s.outcomeSeen b)) }
    axes := { cells := (List.range 12).map (fun a => (a, (s.rd (E.Ax.POSITION a), s.rd (E.Ax.VELOCITY a), s.rd (E.Ax.AXIS_STATE a)))) }
    can := s.framesFor t
    rsp := s.responsesFor t
    mbx := s.mailFor t }

/-- The pair of a task is RUNNING (Table DBL-4). -/
def State.pairRuns (s : State) (d : Nat) : Bool := s.rd (E.Dbl.PAIR_STATE d) == 1

/-- `now` is a release of the task (R86). -/
def isRelease (now : Nat) (a : TaskAttr) : Bool := a.period != 0 && now % (1000 * a.period) == 1000 * a.phase

/-- A release passes while the turn before it still runs (R95, R96): warning once, skipped, escalation beyond MAX_SKIP. -/
def State.overrun (s : State) (t : Nat) (u : Turn) : State :=
  let x := s.task t
  let s := if u.overran then s
           else (s.inc (E.Task.OVERRUNS t)).log 0x03 0x01 (vU8 t ++ vTime (time96ns u.snap.release))
  let n := u.skips + 1
  let s := (s.setTask t { x with turn := some { u with overran := true, skips := n }, skipped := min 0xFFFF (x.skipped + 1) }).inc
    (E.Task.SKIPPED t)
  let limit := s.rd (E.Task.MAX_SKIP t)
  if limit != 0 && limit < n then s.stopNow 2 else s

/-- A release that starts no turn counts in the next turn's header (Table RUN-4). -/
def State.passRelease (s : State) (t : Nat) : State :=
  let x := s.task t
  s.setTask t { x with skipped := min 0xFFFF (x.skipped + 1) }

/-- Task releases count now: after RESUME, or while the module takes over (R121), and before a power failure (Table PWR-4). -/
def State.releasing (s : State) : Bool := s.resumed || (s.twin.taking.isSome && s.rd E.Pwr.SUP_STATE != 3)

/-- TASK_RELEASE (R86, R89, R95, R96, R99, R121). -/
def State.taskRelease (s : State) (t : Nat) : State :=
  let x := s.task t
  match x.attr with
  | none => s
  | some a =>
    if !isRelease s.now a || s.isStop || s.on E.Run.STOP_PENDING || !s.releasing || !s.active then s
    else if s.isHold then (s.passRelease t).inc E.Run.HOLD_SKIPPED
    else if !s.pairRuns a.pair then (s.passRelease t).inc (E.Task.SKIPPED t)
    else
      match x.turn with
      | some u => s.overrun t u
      | none =>
        let u : Turn := { snap := s.snapshot t, first := x.first, skipped := x.skipped, lastRelease := s.rd (E.Task.LAST_RELEASE t) }
        (s.setTask t { x with turn := some u, skipped := 0 }).wrT (E.Task.LAST_RELEASE t) s.now

/-- The 40-byte header of the input image (Table RUN-4). -/
def imageHeader (u : Turn) (flags turnNumber errors : Nat) : List Byte :=
  time96le (time96ns u.snap.release) ++ time96le u.snap.tb0 ++ leBytes 1 u.snap.tb0State ++ leBytes 1 flags
    ++ leBytes 2 u.skipped ++ leBytes 8 turnNumber ++ leBytes 1 errors ++ leBytes 3 0

/-- Forces on input points replace what the snapshot holds (R109). -/
def State.forceInputs (s : State) (n : Snapshot) : Snapshot :=
  (List.range 240).foldl (fun n f =>
    if s.forceActs f then
      let p := s.forcePoint f
      let k := pointNumber p
      match rawForce p (s.decl p) (s.rd (E.Force.FORCE_VALUE f)) with
      | none => n
      | some v =>
        match pointClass p with
        | 1 => { n with di := setBit n.di k (v != 0) }
        | 3 => { n with ai := n.ai.put k (v, ((n.ai.find k).getD (0, 0)).2) }
        | 5 =>
          match n.rio.find (k / 1024) with
          | some (live, bs) => { n with rio := n.rio.put (k / 1024) (live, modifyAt bs (k % 1024) (fun _ => BitVec.ofNat 8 v)) }
          | none => n
        | _ => n
    else n) n

/-- Accepted writes to the task's exports, which its copy-in takes (R58). -/
def State.exportsFor (s : State) (t : Nat) : List (Nat × Value) :=
  match s.rt.archive with
  | none => []
  | some a => (a.exports.filter (fun e => e.task == t)).filterMap (fun e =>
      (s.rt.exportIn.find (e.index * 256 + e.sub)).map (fun v => (e.index * 256 + e.sub, v)))

/-- The first `n` entries of ring `k` that satisfy `p` are retired. -/
def State.retireWhere (s : State) (k n : Nat) (p : RingEntry → Bool) : State :=
  let r := s.ring k
  let q := r.q.foldl (fun (acc : Nat × List RingEntry) e =>
    if p e && decide (acc.1 < n) then (acc.1 + 1, acc.2) else (acc.1, acc.2 ++ [e])) (0, [])
  (s.setRing k { r with tail := (r.tail + q.1) % 65536, q := q.2 }).unstallAll k

/-- An entry of RIO_IN that the copy-in of a release at `rel` took: its station's last frame came no later (R37, R90). -/
def State.readBy (s : State) (rel : Int) : RingEntry → Bool
  | .rio n _ => decide ((s.rd (E.Station.LAST_IN_TB3 n) : Int) ≤ time96ns rel)
  | _ => false

/-- The commit retires the entries that the copy-in took: inputs of stations, packets of MBX0, responses and frames (R37, R135). -/
def State.retireTaken (s : State) (t : Nat) : State :=
  let x := s.task t
  let s := s.retireWhere 30 x.rspIn.length (fun e => match e with
    | .odRsp y => y.task == t
    | _ => false)
  let s := match x.turn with
    | some u => (s.retireWhere 38 64 (s.readBy u.snap.release)).retireWhere 46 u.snap.mbx.length (fun _ => true)
    | none => s
  (List.range 4).foldl (fun s c =>
    s.retireWhere (17 + 2 * c) (x.canIn.filter (fun y => y.1 == c)).length (fun _ => true)) s

/-- TURN_START (R87, R90, R91, R118): copy-in of the snapshot, header, error records, exports. -/
def State.turnStart (s : State) (t : Nat) : State :=
  let x := s.task t
  match x.attr, x.turn with
  | some a, some u =>
    if u.started || !s.turnMayRun t a u then s
    else
      let latency := s.rd (E.Task.START_LATENCY_MAX t)
      let s := s.raise (E.Task.START_LATENCY_MAX t) ((s.now - u.snap.release).toNat / 1000)
      let errs := if a.errorTask then x.errors.take 16 else []
      let rest := if a.errorTask then x.errors.drop 16 else []
      let number := if x.first then 0 else x.turnNumber
      let flags := ofBool x.first + 2 * ofBool x.late + 4 * ofBool x.resumed + 8 * ofBool s.anyForce
      let ex := s.exportsFor t
      let was : CopyIn := { late := x.late, resumed := x.resumed, image := x.image, canIn := x.canIn, rspIn := x.rspIn, latency := latency }
      let u := { u with exports := ex, started := true, startAt := s.now, errors := errs, before := some was
                        header := imageHeader u flags number errs.length }
      let s := s.setTask t { x with turn := some u, errors := rest, turnNumber := number, late := false
                                    resumed := false, image := some (s.forceInputs u.snap)
                                    canIn := u.snap.can, rspIn := u.snap.rsp }
      let s := s.wr (E.Task.ERRORS_QUEUED t) rest.length
      { s with rt := { s.rt with exportIn := ex.foldl (fun m e => m.drop e.1) s.rt.exportIn } }
  | _, _ => s

/-! ## Commands -/

/-- TASK_RELEASE (R86). -/
def execTaskRelease (at_ task : Nat) (s : State) : Result := .next ((s.advance at_).taskRelease task)

/-- TURN_START (R87). -/
def execTurnStart (at_ task : Nat) (s : State) : Result := .next ((s.advance at_).turnStart task)

/-- BREAKPOINT_REACHED (R99). -/
def execBreakpointReached (at_ task : Nat) (s : State) : Result := .next ((s.advance at_).breakpoint task)

/-- HOLD_LIMIT_EXPIRY (R97). -/
def execHoldLimitExpiry (at_ : Nat) (s : State) : Result := .next ((s.advance at_).holdLimit)

end Sys2Proof.Machine
end

