-- ==== Sys2Proof/Machine/Can.lean ====
section
/-!
DEFINITION. Machine/Can.lean: CAN channels: modes, bit timing, transmit objects, retries, bus-off, collisions, reception and
transceivers (R330 to R355).
-/
namespace Sys2Proof.Machine

/-- Channel `c` beside its entries. -/
def State.chan (s : State) (c : Nat) : CanSt := s.can.fetch {} c

/-- Channel `c` replaced. -/
def State.setChan (s : State) (c : Nat) (x : CanSt) : State := { s with can := s.can.store {} c x }

/-- Object `o` of channel `c` beside its entries. -/
def State.obj (s : State) (c o : Nat) : CanObjSt := (s.chan c).objs.fetch {} o

/-- Object `o` of channel `c` replaced. -/
def State.setObj (s : State) (c o : Nat) (x : CanObjSt) : State :=
  let h := s.chan c
  s.setChan c { h with objs := h.objs.store {} o x }

/-! ## Bit timing (R332) -/

/-- Nominal bit rate times bit length: 80 MHz over the clock periods of a bit. -/
def State.nomPeriods (s : State) (c : Nat) : Nat :=
  s.rd (E.CanT.NOM_BRP c) * (1 + s.rd (E.CanT.NOM_TSEG1 c) + s.rd (E.CanT.NOM_TSEG2 c))
/-- Clock periods of a data-phase bit. -/
def State.dataPeriods (s : State) (c : Nat) : Nat :=
  s.rd (E.CanT.DATA_BRP c) * (1 + s.rd (E.CanT.DATA_TSEG1 c) + s.rd (E.CanT.DATA_TSEG2 c))

/-- A sample point from 50 % to 90 %. -/
def samplePointOk (t1 t2 : Nat) : Bool := decide ((1 + t1 + t2) ≤ 2 * (1 + t1)) && decide (10 * (1 + t1) ≤ 9 * (1 + t1 + t2))

/-- The first failing timing check as TIMING_CHECK codes it. -/
def State.timingCheck (s : State) (c : Nat) : Nat :=
  let n := s.nomPeriods c
  let d := s.dataPeriods c
  if !(125000 * n ≤ 80000000 && 80000000 ≤ 1000000 * n) then 1
  else if !(d ≤ n && 80000000 ≤ 5000000 * d) then 2
  else if !(s.rd (E.CanT.NOM_SJW c) ≤ s.rd (E.CanT.NOM_TSEG2 c) && s.rd (E.CanT.DATA_SJW c) ≤ s.rd (E.CanT.DATA_TSEG2 c)) then 3
  else if !(samplePointOk (s.rd (E.CanT.NOM_TSEG1 c)) (s.rd (E.CanT.NOM_TSEG2 c))
         && samplePointOk (s.rd (E.CanT.DATA_TSEG1 c)) (s.rd (E.CanT.DATA_TSEG2 c))) then 4
  else 0

/-- CHANNEL_MODE away from OFF needs the timing checks (R332). -/
def State.chkChannelMode (s : State) (c v : Nat) : Nat :=
  need (v == 0 || s.rd (E.Can.CHANNEL_MODE c) != 0 || s.timingCheck c == 0) stRange

/-- TIMING_CHECK reports at a change away from OFF (R332). -/
def State.noteTiming (s : State) (c v : Nat) : State :=
  if v != 0 && s.rd (E.Can.CHANNEL_MODE c) == 0 then s.wr (E.CanT.TIMING_CHECK c) (s.timingCheck c) else s

/-! ## RXQ (R347, R350) -/

/-- An RXQ entry of Table CAN-5. -/
def rxqEntry (kind flags item code id stamp : Nat) (data : List Byte) : List Byte :=
  leBytes 1 kind ++ leBytes 1 flags ++ leBytes 1 item ++ leBytes 1 code ++ leBytes 4 id ++ leBytes 8 stamp ++ fitTo 0 64 data

/-- Space has returned on RXQ: an OVERRUN event carries the number of frames lost (R347). -/
def State.overrunEvent (s : State) (c : Nat) : State :=
  let h := s.chan c
  if h.lost != 0 && s.room (17 + 2 * c) 1 then
    (s.setChan c { h with lost := 0 }).place (17 + 2 * c) (.bytes (rxqEntry 3 0 6 0 h.lost s.now []))
  else s

/-- An entry enters RXQ, after an OVERRUN event where space has returned; a module without TOKEN fills no RXQ (R347, R353).
True where it did not find room. -/
def State.rxq (s : State) (c : Nat) (b : List Byte) : State × Bool :=
  if !s.active then (s, false)
  else
    let (s, ok) := (s.overrunEvent c).push (17 + 2 * c) (.bytes b)
    (s, !ok)

/-- A channel event: on RXQ and in the ledger (R343, R344, R351, R355). -/
def State.canEvent (s : State) (c item id : Nat) : State :=
  let b := rxqEntry 3 0 item 0 id s.now []
  (s.rxq c b).1.log 0x25 c b

/-- CHANNEL_STATE follows mode, TOKEN and error counters; ERROR_PASSIVE and ERROR_ACTIVE are events (Tables CAN-5, CAN-7, R355). -/
def State.canState (s : State) (c : Nat) : State :=
  let h := s.chan c
  let old := s.rd (E.Can.CHANNEL_STATE c)
  let new :=
    if h.mode = 0 || !h.integrated then 0
    else if !s.active then 5
    else if h.mode = 2 then 4
    else if old = 3 then 3
    else if 127 < s.rd (E.Can.TEC c) || 127 < s.rd (E.Can.REC c) then 2
    else 1
  let s := s.wr (E.Can.CHANNEL_STATE c) new
  if old != 2 && new = 2 then s.canEvent c 3 0
  else if old = 2 && new = 1 then (s.rxq c (rxqEntry 3 0 4 0 0 s.now [])).1
  else s

/-! ## Transmission -/

/-- Arbitration order of ISO 11898-1: base identifier, base frame before extended, extended identifier (R337). -/
def arbKey (id : Nat) : List Nat :=
  let i := id % 2 ^ 29
  if 2 ^ 31 ≤ id then [i / 2 ^ 18, 1, i] else [i % 2048, 0, 0]

/-- TX_STATE of an object (Table CAN-10). -/
def txState (x : CanObjSt) : Nat :=
  match x.pend with
  | none => 0
  | some p => if p.started then 2 else 1

/-- LIFETIME of a frame has elapsed (R339). -/
def State.expired (s : State) (c o : Nat) (p : CanPend) : Bool :=
  let l := s.rd (E.CanObj.LIFETIME c o)
  l != 0 && decide (p.since + 1000 * l ≤ s.now)

/-- The pending object of highest arbitration priority; with FD_ENABLE false the channel sends no FD frame (R331), and a frame whose
lifetime has elapsed does not start (R339). -/
def State.headObj (s : State) (c : Nat) : Option Nat :=
  (((s.chan c).objs.cells.filter (fun x => x.2.pend.any (fun p => !s.expired c x.1 p) && ((s.chan c).fd || s.rd (E.CanObj.OBJ_FORMAT c x.1) == 0))).map (·.1)).foldl (fun best o =>
    match best with
    | none => some o
    | some b => if lexLt (arbKey (s.rd (E.CanObj.OBJ_ID c o))) (arbKey (s.rd (E.CanObj.OBJ_ID c b))) then some o else some b) none

/-- An arbitration opportunity: the bus is idle and the channel takes part, so the highest pending frame starts (R337, log 18). -/
def State.offer (s : State) (c : Nat) : State :=
  let h := s.chan c
  if h.inTx.isSome || h.busy || h.exception || !h.integrated || h.mode != 1 || s.rd (E.Can.CHANNEL_STATE c) == 3 || !s.active || s.inSafe then s
  else
    match s.headObj c with
    | none => s
    | some o =>
      let x := s.obj c o
      let s := s.setObj c o { x with pend := x.pend.map (fun p => { p with started := true }) }
      s.setChan c { s.chan c with inTx := some o }

/-- A frame is dropped with a result: TX_RESULT in RXQ (R342, Table CAN-3); ERROR_LIMIT and COLLISION are recorded (R355). -/
def State.dropFrame (s : State) (c o code : Nat) : State :=
  let x := s.obj c o
  let s := s.setObj c o { x with pend := none, collRun := 0 }
  let s := (s.inc (E.CanObj.DROPPED c o)).wr (E.CanObj.LAST_RESULT c o) code
  let b := rxqEntry 2 0 o code (s.rd (E.CanObj.OBJ_ID c o)) s.now []
  let s := (s.rxq c b).1
  if code = 2 || code = 3 then s.log 0x25 c b else s

/-- The data of a frame is latched from the image; a byte whose force is in effect replaces the image's byte (R109, R335). -/
def State.latchData (s : State) (c o : Nat) : List Byte :=
  let img := (s.obj c o).image
  (List.range (s.rd (E.CanObj.OBJ_LENGTH c o))).map (fun i =>
    match s.rt.forced.find? (fun f => f.1 == pointId 7 (c * 2048 + o * 64 + i)) with
    | some f => BitVec.ofNat 8 f.2
    | none => img.getD i 0)

/-- A transmit request of an object (R338, R343, R348); none in SAFE_STATE and RESTORE_FAULT (R140). -/
def State.canRequest (s : State) (c o : Nat) : State :=
  let h := s.chan c
  let x := s.obj c o
  let d := s.latchData c o
  if s.inSafe then s
  else if h.mode = 0 then s.dropFrame c o 6
  else if h.mode = 2 then s.dropFrame c o 5
  else
    match x.pend with
    | some p =>
      if p.started then s.setObj c o { x with next := true }
      else (s.setObj c o { x with pend := some { data := d, since := s.now }, collRun := 0 }).inc (E.CanObj.OVERWRITTEN c o)
    | none => (s.setObj c o { x with pend := some { data := d, since := s.now }, collRun := 0 }).offer c

/-- OBJ_WRITER (Table CAN-10), from the archive; 0xFFFD stands here for the safety program (log 33). -/
def State.objWriter (s : State) (c o : Nat) : Nat :=
  if s.rd (E.CanObj.OBJ_MODE c o) = 0 then 0xFFFF
  else match s.decl (pointId 7 (c * 2048 + o * 64)) with
  | some { writer := some (.task t), .. } => t
  | some { writer := some (.loop l), .. } => 0x100 + l
  | some { writer := some .safety, .. } => 0xFFFD
  | _ => 0xFFFE

/-- The image of an object takes data (R335). -/
def State.setImage (s : State) (c o : Nat) (d : List Byte) : State :=
  let x := s.obj c o
  s.setObj c o { x with image := overlay x.image 0 d, committed := true }

/-- The 80 bytes of a TXQ entry (Table CAN-4). -/
def txqBytes (e : CanTx) : List Byte :=
  leBytes 1 e.command ++ leBytes 1 e.object ++ leBytes 1 e.data.length ++ leBytes 13 0 ++ fitTo 0 64 e.data

/-- A TXQ entry is well formed for its object (R349). -/
def State.txqOk (s : State) (c : Nat) (e : CanTx) : Bool :=
  e.object < 32 && s.rd (E.CanObj.OBJ_MODE c e.object) != 0 && s.objWriter c e.object == e.producer
    && e.data.length == (if e.command = 3 then 0 else s.rd (E.CanObj.OBJ_LENGTH c e.object))

/-- ABORT of an object (R340). -/
def State.canAbort (s : State) (c o : Nat) : State :=
  let x := s.obj c o
  match x.pend with
  | some p =>
    if p.started then s.setObj c o { x with pend := some { p with abort := true } }
    else s.dropFrame c o 4
  | none => (s.rxq c (rxqEntry 2 0 o 0x38 (s.rd (E.CanObj.OBJ_ID c o)) s.now [])).1

/-- The controller takes the head of TXQ where it is the given command (R349). -/
def State.takeTxq (s : State) (c cmd : Nat) : State :=
  match (s.ring (16 + 2 * c)).q with
  | .can e :: _ =>
    if e.command != cmd then s
    else
      let s := (s.pop (16 + 2 * c)).1
      if !s.txqOk c e then s.inc (E.Can.TXQ_REJECTS c)
      else match cmd with
      | 1 => (s.setImage c e.object e.data).canRequest c e.object
      | 2 => s.setImage c e.object e.data
      | _ => s.canAbort c e.object
  | _ => s

/-- PERIODIC_RELEASE (R336, R348, R353). -/
def State.canRelease (s : State) (c o : Nat) : State :=
  let p := 1000 * s.rd (E.CanObj.OBJ_PERIOD c o)
  if s.rd (E.CanObj.OBJ_MODE c o) = 2 && p != 0 && s.now % p == 1000 * s.rd (E.CanObj.OBJ_PHASE c o)
     && (s.obj c o).committed && (s.chan c).mode == 1 && s.active then s.canRequest c o
  else s

/-- The attempt in progress ends; a request that arrived meanwhile becomes pending with the data of this instant (R335, R338). -/
def State.endAttempt (s : State) (c o : Nat) (keep : Option CanPend) : State :=
  let x := s.obj c o
  let pend := if x.next then some { data := s.latchData c o, since := s.now } else keep
  let s := s.setObj c o { x with pend := pend, next := false, collRun := if x.next then 0 else x.collRun }
  s.setChan c { s.chan c with inTx := none }

/-- A failed attempt: the newer frame takes its place, an abort or a lifetime ends it, or it is retried (R338 to R341). -/
def State.retry (s : State) (c o : Nat) (p : CanPend) : State :=
  let x := s.obj c o
  if x.next then (s.endAttempt c o none).inc (E.CanObj.OVERWRITTEN c o)
  else if p.abort then (s.endAttempt c o none).dropFrame c o 4
  else if s.expired c o p then (s.endAttempt c o none).dropFrame c o 1
  else s.endAttempt c o (some { p with started := false })

/-- CAN_FRAME_SENT (R340, R333): the commit of the frame in transmission; `delay` is the loop delay measured in it. -/
def State.canSent (s : State) (c : Nat) (delay : Nat) : State :=
  match (s.chan c).inTx with
  | none => s
  | some o =>
    let x := s.obj c o
    let aborted := match x.pend with | some p => p.abort | none => false
    let s := ((s.inc (E.CanObj.SENT c o)).wr (E.CanObj.LAST_RESULT c o) 0).wrT (E.CanObj.LAST_SENT_TB3 c o) s.now
    let s := (s.inc (E.Can.TX_FRAMES c)).wr (E.Can.TEC c) (s.rd (E.Can.TEC c) - 1)
    let s := if s.rd (E.CanObj.OBJ_FORMAT c o) = 2 && 1000000 < s.rd (E.CanT.DATA_RATE c) then s.wr (E.CanT.TDC_VALUE c) (min 127 delay) else s
    let s := if aborted then (s.rxq c (rxqEntry 2 0 o 0x38 (s.rd (E.CanObj.OBJ_ID c o)) s.now [])).1 else s
    let s := s.setObj c o { s.obj c o with collRun := 0 }
    ((s.endAttempt c o none).canState c).offer c

/-- ARBITRATION_LOST (R341). -/
def State.arbLost (s : State) (c : Nat) : State :=
  match (s.chan c).inTx with
  | none => s
  | some o =>
    match (s.obj c o).pend with
    | none => s
    | some p =>
      let s := (s.inc (E.CanObj.ARB_RETRIES c o)).setObj c o { s.obj c o with collRun := 0 }
      let s := s.retry c o p
      s.setChan c { s.chan c with busy := true }

/-- Identifier of an object, or 0xFFFFFFFF for none. -/
def State.headId (s : State) (c : Nat) : Nat :=
  match s.headObj c with
  | some o => s.rd (E.CanObj.OBJ_ID c o)
  | none => 0xFFFFFFFF

/-- A collision is reported (R344), recorded once per identifier in 60 s. -/
def State.reportCollision (s : State) (c o : Nat) : State :=
  let id := s.rd (E.CanObj.OBJ_ID c o)
  let s := (s.wr (E.Can.COLLISION_ID c) id).inc (E.Can.COLLISIONS c)
  let b := rxqEntry 3 0 5 0 id s.now []
  let s := (s.rxq c b).1
  let h := s.chan c
  if h.collRec.any (fun x => x.1 == id && decide (s.now < x.2 + 60000000000)) then s
  else (s.setChan c { h with collRec := (id, s.now) :: h.collRec.filter (fun x => x.1 != id) }).log 0x25 c b

/-- Bus-off: TEC exceeds 255 (R343). -/
def State.busOff (s : State) (c : Nat) : State :=
  let s := ((s.wr (E.Can.CHANNEL_STATE c) 3).inc (E.Can.BUSOFF_COUNT c)).wrT (E.Can.LAST_BUSOFF c) s.now
  s.canEvent c 1 (s.headId c)

/-- TRANSMIT_ERROR (R342 to R344): an error of kind LAST_ERROR, `collision` where it is a bit error in the DLC or data field
after arbitration, `quiet` for the ACK error of an error-passive transmitter that leaves TEC as it is (PRESUMED, log 19). -/
def State.txError (s : State) (c kind : Nat) (collision quiet : Bool) : State :=
  match (s.chan c).inTx with
  | none => s
  | some o =>
    match (s.obj c o).pend with
    | none => s
    | some p =>
      let s := ((s.inc (E.Can.ERROR_FRAMES c)).wr (E.Can.LAST_ERROR c) kind).wr (E.Can.TEC c)
        (if quiet && s.rd (E.Can.CHANNEL_STATE c) == 2 then s.rd (E.Can.TEC c) else min 256 (s.rd (E.Can.TEC c) + 8))
      let x := s.obj c o
      let run := if collision then x.collRun + 1 else 0
      let s := s.setObj c o { x with collRun := run }
      let s := if run = s.rd (E.Can.COLLISION_THRESHOLD c) && collision then s.reportCollision c o else s
      if 255 < s.rd (E.Can.TEC c) then
        (s.retry c o p).busOff c
      else
        let n := p.errors + 1
        let s :=
          if !(s.obj c o).next && !p.abort && !s.expired c o p && s.rd (E.CanObj.RETRY_LIMIT c o) < n then
            (s.endAttempt c o none).dropFrame c o (if collision then 3 else 2)
          else
            let s := if !(s.obj c o).next && !p.abort && !s.expired c o p then s.inc (E.CanObj.ERROR_RETRIES c o) else s
            s.retry c o { p with errors := n }
        (s.canState c).offer c

/-- BUS_OFF_RECOVERY (R343): after at least 1,408 nominal bit times. -/
def State.busRecovery (s : State) (c : Nat) : State :=
  let since := ofTime96 (s.rd (E.Can.LAST_BUSOFF c)) / 65536
  if s.rd (E.Can.CHANNEL_STATE c) = 3
     && decide (since + (1408 * (s.chan c).bit * 25 / 2 : Nat) ≤ (s.now : Int)) then
    let s := ((s.wr (E.Can.TEC c) 0).wr (E.Can.REC c) 0).wr (E.Can.CHANNEL_STATE c) 1
    (s.canEvent c 2 (s.headId c)).offer c
  else s

/-- LIFETIME_EXPIRY (R339). -/
def State.lifetimeExpiry (s : State) (c o : Nat) : State :=
  match (s.obj c o).pend with
  | some p => if !p.started && s.expired c o p then s.dropFrame c o 1 else s
  | none => s

/-! ## Reception -/

/-- The lowest-numbered enabled filter that a frame matches (R346). -/
def State.canFilter (s : State) (c : Nat) (f : CanFrame) : Option Nat :=
  (List.range 16).find? (fun k =>
    let id := s.rd (E.CanF.FILTER_ID c k)
    let m := s.rd (E.CanF.FILTER_MASK c k) % 2 ^ 29
    s.on (E.CanF.FILTER_ENABLE c k) && f.id / 2 ^ 31 == id / 2 ^ 31 && (f.id % 2 ^ 29) &&& m == (id % 2 ^ 29) &&& m)

/-- The identifier is that of an enabled object (R344). -/
def State.ownId (s : State) (c id : Nat) : Bool :=
  (List.range 32).any (fun o => s.rd (E.CanObj.OBJ_MODE c o) != 0 && s.rd (E.CanObj.OBJ_ID c o) == id)

/-- A frame is accepted with a filter (R346, R347). -/
def State.acceptFrame (s : State) (c filter : Nat) (f : CanFrame) : State :=
  let flags := ofBool (decide (2 ^ 31 ≤ f.id)) + 2 * ofBool f.fdf + 4 * ofBool f.brs + 8 * ofBool f.esi + 16 * ofBool f.rtr
  let s := s.inc (E.Can.RX_FRAMES c)
  let s := if filter < 16 then s.inc (E.CanF.FILTER_HITS c filter) else s
  let r := s.rxq c (rxqEntry 1 flags f.data.length filter f.id f.sof f.data)
  if r.2 then
    let h := r.1.chan c
    (r.1.setChan c { h with lost := min 0xFFFFFFFF (h.lost + 1) }).inc (E.Can.RX_OVERRUNS c)
  else r.1

/-- REC after a valid reception (ISO 11898-1; PRESUMED, log 19). -/
def recAfterRx (rec_ : Nat) : Nat := if 127 < rec_ then 127 else rec_ - 1

/-- CAN_FRAME_RECEIVED (R346, R331, R344). -/
def State.canReceived (s : State) (c : Nat) (f : CanFrame) : State :=
  let h := s.chan c
  if h.mode = 0 || !h.integrated || h.exception || s.rd (E.Can.CHANNEL_STATE c) == 3 then s
  else if f.fdf && !h.fd then (s.setChan c { h with exception := true }).inc (E.Can.FD_EXCEPTIONS c)
  else
    let s := s.setChan c { h with busy := false }
    let s := if s.ownId c f.id then s.inc (E.Can.FOREIGN_SAME_ID c) else s
    let s := if h.mode = 1 then s.wr (E.Can.REC c) (recAfterRx (s.rd (E.Can.REC c))) else s
    let s := match s.canFilter c f with
      | some k => s.acceptFrame c k f
      | none => if s.on (E.Can.RX_ACCEPT_ALL c) then s.acceptFrame c 0xFF f else s.inc (E.Can.RX_FILTERED c)
    (s.canState c).offer c

/-- CAN_RECEIVE_ERROR (R342): REC rises by 1, by 8 after a dominant bit that follows the error flag (ISO 11898-1; PRESUMED, log 19). -/
def State.rxError (s : State) (c kind : Nat) (dominant : Bool) : State :=
  let h := s.chan c
  if h.mode = 0 || !h.integrated || h.exception || s.rd (E.Can.CHANNEL_STATE c) == 3 then s
  else
    let s := s.setChan c { h with busy := false }
    let s := (s.inc (E.Can.ERROR_FRAMES c)).wr (E.Can.LAST_ERROR c) kind
    let s := if h.mode = 1 then s.wr (E.Can.REC c) (min 255 (s.rd (E.Can.REC c) + (if dominant then 8 else 1))) else s
    (s.canState c).offer c

/-! ## Mode and transceiver -/

/-- CHANNEL_MODE_EFFECT (R331): the first bus idle after a write, and the end of a protocol exception. -/
def State.modeEffect (s : State) (c : Nat) : State :=
  let h := s.chan c
  let want := if (h.mode = 0 && !s.operating) || s.power.reduced then 0 else s.rd (E.Can.CHANNEL_MODE c)
  let h := { h with exception := false, busy := false }
  if h.mode = want || h.inTx.isSome then (s.setChan c h).offer c
  else if want = 0 then (s.setChan c { h with mode := 0, integrated := false }).wr (E.Can.CHANNEL_STATE c) 0
  else if h.mode = 0 then
    let s := s.setChan c { h with mode := want, fd := s.on (E.Can.FD_ENABLE c), bit := s.nomPeriods c, integrated := false }
    (s.wr (E.CanT.NOM_RATE c) (80000000 / max 1 (s.nomPeriods c))).wr (E.CanT.DATA_RATE c) (80000000 / max 1 (s.dataPeriods c))
  else ((s.setChan c { h with mode := want }).canState c).offer c

/-- CAN_INTEGRATION (R331): 11 consecutive recessive bits after leaving OFF. -/
def State.integration (s : State) (c : Nat) : State :=
  let h := s.chan c
  if h.mode = 0 || h.integrated then s
  else
    let s := (s.setChan c { h with integrated := true, exception := false }).wr (E.Can.TEC c) 0
    ((s.wr (E.Can.REC c) 0).canState c).offer c

/-- XCVR_STATE takes new bits; each new fault bit is counted, written to RXQ and recorded (R351). -/
def State.setXcvr (s : State) (c new : Nat) : State :=
  let old := s.rd (E.CanT.XCVR_STATE c)
  let fresh := (List.range 6).filter (fun i => bitOf new i && !bitOf old i)
  let s := (s.wr (E.CanT.XCVR_STATE c) new).addTo (E.CanT.XCVR_FAULTS c) fresh.length
  fresh.foldl (fun s _ => s.canEvent c 7 new) s

/-- A line voltage outside -2 V to +7 V. -/
def lineFault (v : Nat) : Bool := fmt32.lt v 0xC0000000 || fmt32.lt 0x40E00000 v

/-- XCVR_MEASURE (R351). -/
def State.xcvrMeasure (s : State) (c : Nat) (m : XcvrMeasure) : State :=
  let s := (s.wr (E.CanT.CANH_V c) m.canh).wr (E.CanT.CANL_V c) m.canl
  s.setXcvr c (ofBool m.released + 2 * ofBool m.dominant + 4 * ofBool (lineFault m.canh) + 8 * ofBool (lineFault m.canl)
    + 16 * ofBool m.supply + 32 * ofBool m.thermal)

/-- TXD_DOMINANT_TIMEOUT (R351): the driver releases the bus. -/
def State.txdTimeout (s : State) (c : Nat) : State := s.setXcvr c (setBit (s.rd (E.CanT.XCVR_STATE c)) 0 true)

/-- STOP applies SAFE to an object: it stops sending (R98, R336). -/
def State.stopObject (s : State) (c o : Nat) : State := s.setObj c o { s.obj c o with committed := false }

/-! ## Dictionary effects -/

/-- A length that a format admits (R334). -/
def canLength (format n : Nat) : Bool := n ≤ 8 || (format != 0 && [12, 16, 20, 24, 32, 48, 64].contains n)

/-- Object attributes belong to the archive where it names a writer (R334). -/
def State.chkObjAttr (s : State) (c o : Nat) : Nat :=
  need (s.writerOf (pointId 7 (c * 2048 + o * 64))).isNone stMode

/-- No two enabled objects of a channel share identifier and IDE (R334). -/
def State.chkObjId (s : State) (c o id mode : Nat) : Nat :=
  need (mode == 0 || !(List.range 32).any (fun p => p != o && s.rd (E.CanObj.OBJ_MODE c p) != 0 && s.rd (E.CanObj.OBJ_ID c p) == id)) stRange

/-- A valid identifier: 11 bits, or 29 bits with IDE in bit 31. -/
def canIdOk (id : Nat) : Bool := decide (id < 2048) || (2 ^ 31 ≤ id && decide (id < 2 ^ 31 + 2 ^ 29))

/-- OBJ_SEND: an object with writer dictionary, exactly OBJ_LENGTH bytes, room on TXQ (Table CAN-10, R51). -/
def State.chkObjSend (s : State) (c o : Nat) (d : List Byte) : Nat :=
  firstBad [need (s.objWriter c o == 0xFFFE && d.length == s.rd (E.CanObj.OBJ_LENGTH c o)) stRange, need (s.room (16 + 2 * c) 1) 0x0F]

/-- OBJ_SEND places SEND for EVENT, UPDATE for PERIODIC (Table CAN-10). -/
def State.effObjSend (s : State) (c o : Nat) (d : List Byte) : State :=
  s.place (16 + 2 * c) (.can { command := if s.rd (E.CanObj.OBJ_MODE c o) = 2 then 2 else 1, object := o, data := d, producer := 0xFFFE })

/-- RESET_STATS of a channel (Table CAN-7). -/
def State.effCanStats (s : State) (c : Nat) : State :=
  s.clear [E.Can.BUSOFF_COUNT c, E.Can.RX_FRAMES c, E.Can.TX_FRAMES c, E.Can.ERROR_FRAMES c, E.Can.LAST_ERROR c, E.Can.RX_FILTERED c,
    E.Can.RX_OVERRUNS c, E.Can.COLLISIONS c, E.Can.FOREIGN_SAME_ID c, E.Can.TXQ_REJECTS c]

/-- RESET_STATS of an object (Table CAN-10). -/
def State.effObjStats (s : State) (c o : Nat) : State :=
  s.clear [E.CanObj.SENT c o, E.CanObj.DROPPED c o, E.CanObj.ERROR_RETRIES c o, E.CanObj.ARB_RETRIES c o, E.CanObj.OVERWRITTEN c o]

/-- The services consume RXQ where no task does, and keep each filter's last frame (R347). -/
def State.serveRxq (s : State) (c : Nat) : State :=
  if s.rd (E.Can.RX_CONSUMER c) != 0xFE then s
  else
    let q := (s.ring (17 + 2 * c)).q
    q.foldl (fun s e => match e with
      | .bytes b => if leAt b 0 1 = 1 && leAt b 3 1 < 16 then s.wrB (E.CanF.FILTER_LAST c (leAt b 3 1)) b else s
      | _ => s) ((s.emptyRing (17 + 2 * c)).overrunEvent c)

/-! ## Commands -/

/-- CHANNEL_MODE_EFFECT (R331). -/
def execChannelModeEffect (at_ c : Nat) (s : State) : Result := .next ((s.advance at_).modeEffect c)
/-- CAN_INTEGRATION (R331). -/
def execCanIntegration (at_ c : Nat) (s : State) : Result := .next ((s.advance at_).integration c)
/-- TXQ_SEND (R349). -/
def execTxqSend (at_ c : Nat) (s : State) : Result := .next ((s.advance at_).takeTxq c 1)
/-- TXQ_UPDATE (R349). -/
def execTxqUpdate (at_ c : Nat) (s : State) : Result := .next ((s.advance at_).takeTxq c 2)
/-- TXQ_ABORT (R340). -/
def execTxqAbort (at_ c : Nat) (s : State) : Result := .next ((s.advance at_).takeTxq c 3)
/-- PERIODIC_RELEASE (R336). -/
def execPeriodicRelease (at_ c o : Nat) (s : State) : Result := .next ((s.advance at_).canRelease c o)
/-- CAN_FRAME_SENT (R340). -/
def execCanFrameSent (at_ c delay : Nat) (s : State) : Result := .next ((s.advance at_).canSent c delay)
/-- ARBITRATION_LOST (R341). -/
def execArbitrationLost (at_ c : Nat) (s : State) : Result := .next ((s.advance at_).arbLost c)
/-- TRANSMIT_ERROR (R342). -/
def execTransmitError (at_ c kind : Nat) (collision quiet : Bool) (s : State) : Result :=
  .next ((s.advance at_).txError c kind collision quiet)
/-- BUS_OFF_RECOVERY (R343). -/
def execBusOffRecovery (at_ c : Nat) (s : State) : Result := .next ((s.advance at_).busRecovery c)
/-- LIFETIME_EXPIRY (R339). -/
def execLifetimeExpiry (at_ c o : Nat) (s : State) : Result := .next ((s.advance at_).lifetimeExpiry c o)
/-- CAN_FRAME_RECEIVED (R346). -/
def execCanFrameReceived (at_ c : Nat) (f : CanFrame) (s : State) : Result := .next ((s.advance at_).canReceived c f)
/-- CAN_RECEIVE_ERROR (R342). -/
def execCanReceiveError (at_ c kind : Nat) (dominant : Bool) (s : State) : Result := .next ((s.advance at_).rxError c kind dominant)
/-- XCVR_MEASURE (R351). -/
def execXcvrMeasure (at_ c : Nat) (m : XcvrMeasure) (s : State) : Result := .next ((s.advance at_).xcvrMeasure c m)
/-- TXD_DOMINANT_TIMEOUT (R351). -/
def execTxdDominantTimeout (at_ c : Nat) (s : State) : Result := .next ((s.advance at_).txdTimeout c)

end Sys2Proof.Machine
end

