-- ==== Sys2Proof/Machine/Ethernet.lean ====
section
/-!
DEFINITION. Machine/Ethernet.lean: ports, PRP and HSR, the ingress pipeline, policers, quench filters and egress (R295 to R317).
-/
namespace Sys2Proof.Machine

/-! ## Buckets (R309 to R311) -/

/-- A bucket of `depth` bytes filled at `rate` (0.1 % of the link rate; `gig` at 1000BASE-T): content in 1/80,000 byte. -/
def Bucket.content (b : Bucket) (now rate depth : Nat) (gig : Bool) : Nat :=
  match b.level with
  | none => depth * 80000
  | some l => min (depth * 80000) (l + (now - b.at_) * rate * (if gig then 10 else 1))

/-- `bytes` leave the bucket if it holds them. -/
def Bucket.take (b : Bucket) (now rate depth bytes : Nat) (gig : Bool) : Bucket × Bool :=
  let c := b.content now rate depth gig
  if bytes * 80000 ≤ c then ({ level := some (c - bytes * 80000), at_ := now }, true)
  else ({ level := some c, at_ := now }, false)

/-- Port `p` beside its entries. -/
def State.port (s : State) (p : Nat) : PortSt := s.net.ports.fetch {} p

/-- Port `p` replaced. -/
def State.setPort (s : State) (p : Nat) (x : PortSt) : State :=
  { s with net := { s.net with ports := s.net.ports.store {} p x } }

/-- Bucket `k` of port `p` gives `bytes` (each frame's bytes plus 20). -/
def State.police (s : State) (p k rate depth bytes : Nat) : State × Bool :=
  let x := s.port p
  let r := (x.buckets.fetch {} k).take s.now rate depth (bytes + 20) (s.rd (E.Port.LINK_STATE p) == 2)
  (s.setPort p { x with buckets := x.buckets.store {} k r.1 }, r.2)

/-! ## Classification (Table NET-4) -/



/-- An ESC frame (R302). -/
def isEsc (f : EthFrame) : Bool := f.ether == 0x0800 && f.proto == 17 && f.udpDst == 47020
/-- An EOP frame. -/
def isEop (f : EthFrame) : Bool := f.ether == 0x0800 && f.proto == 17 && (f.udpDst == 47010 || f.udpSrc == 47010)
/-- An EOP QUENCH or UNQUENCH. -/
def isQuench (f : EthFrame) : Bool := isEop f && (leAt f.payload 4 1 == 0x50 || leAt f.payload 4 1 == 0x51)
/-- A PTP frame. -/
def isPtp (f : EthFrame) : Bool :=
  f.ether == 0x88F7 || (f.ether == 0x0800 && f.proto == 17 && (f.udpDst == 319 || f.udpDst == 320))
/-- A PRP or HSR supervision frame (Table NET-2). -/
def isSupervision (f : EthFrame) : Bool := f.dst == 0x01154E000100

/-- The class of a frame by its content (R307). -/
def classOf (f : EthFrame) : Nat :=
  if isEsc f || isQuench f then 3
  else if f.ether == 0x88B5 || isPtp f || isSupervision f then 2
  else if isEop f || f.ether == 0x0806 then 1
  else 0

/-! ## Addresses -/

/-- The module's MAC address on a port (R297). -/
def State.macOf (s : State) (p : Nat) : Nat := beNat (s.rdB (if p < 2 then E.Net.PLANT_MAC else E.Net.RING_MAC))
/-- The module's IPv4 address in force on a port; 0 none. -/
def State.ipOf (s : State) (p : Nat) : Nat := if p < 2 then s.net.plantIp else s.net.ringIp
/-- The NEXT START entries of Table NET-12 come into force at a start (R49). -/
def State.netInForce (s : State) : State :=
  { s with net := { s.net with plantIp := s.rd E.Net.PLANT_IP, plantMask := s.rd E.Net.PLANT_MASK, gateway := s.rd E.Net.PLANT_GATEWAY
                               ringIp := s.rd E.Net.RING_IP, ringMask := s.rd E.Net.RING_MASK, vlan := s.rd E.Net.VLAN_ID } }
/-- A group address. -/
def isGroup (mac : Nat) : Bool := bitOf mac 40

/-- Counter `k` of an OCTETS entry of little-endian U32 counters rises by 1, saturating. -/
def State.incAt (s : State) (e : Ent) (n k : Nat) : State :=
  let old := fitTo 0 (4 * n) (s.rdB e)
  s.wrB e (overlay old (4 * k) (leBytes 4 (min 0xFFFFFFFF (leAt old (4 * k) 4 + 1))))

/-! ## Duplicate nodes (R317) -/

/-- An observation of a duplicate node: counted, kept, recorded once per offender in 60 s. -/
def State.duplicateNode (s : State) (mac : Nat) : State :=
  let s := (s.inc E.Net.DUP_EVENTS).wrB E.Net.DUP_LAST_MAC (beBytes 6 mac)
  if s.net.dupRecorded.any (fun x => x.1 == mac && decide (s.now < x.2 + 60000000000)) then s
  else
    let s := { s with net := { s.net with dupRecorded := (mac, s.now) :: s.net.dupRecorded.filter (fun x => x.1 != mac) } }
    s.log 0x07 0x02 (vOct (beBytes 6 mac))

/-- The frame shows a duplicate node (R317); own HSR supervision frames return with the sequence that they were sent with. -/
def State.showsDuplicate (s : State) (p : Nat) (f : EthFrame) : Bool :=
  (isEop f && f.src != s.macOf p && f.payload.length ≥ 28 && beAt f.payload 16 4 == s.rd E.Id.NODE_ID_ACTIVE)
  || (isSupervision f && f.src == s.macOf p && !(2 ≤ p && f.hsr == some s.net.supSeq))
  || (f.ether == 0x0806 && f.src != s.macOf p && s.ipOf p != 0 && beAt f.payload 14 4 == s.ipOf p)
  || (2 ≤ p && f.ether == 0x88B5 && leAt f.payload 1 1 == 1 && f.src != s.macOf p && s.rd E.Ecx.MASTER_STATE == 1
      && !(s.twinBase && s.twin.partner.any (fun h => h.macs.contains f.src))
      && s.on (E.Station.STATION_ENABLE (leAt f.payload 2 1)))

/-! ## Duplicate discard and the node table -/

/-- ENTRY_FORGET_TIME of a pair in nanoseconds. -/
def State.entryForget (s : State) (hsr : Bool) : Nat :=
  1000000 * s.rd (if hsr then E.Net.HSR_ENTRY_FORGET_TIME else E.Net.PRP_ENTRY_FORGET_TIME)

/-- Old duplicate-table entries are forgotten; a PRP frame seen on one LAN only counts (R304). -/
def State.forgetEntries (s : State) : State :=
  let live := s.net.dups.filter (fun d => decide (s.now < d.at_ + s.entryForget d.hsr))
  let old := s.net.dups.filter (fun d => !decide (s.now < d.at_ + s.entryForget d.hsr) && !d.hsr && !d.both)
  let s := { s with net := { s.net with dups := live } }
  (s.addTo E.Net.LAN_B_MISSING (old.filter (fun d => d.port == 0)).length).addTo E.Net.LAN_A_MISSING
    (old.filter (fun d => d.port == 1)).length

/-- The sequence number of the redundancy field that takes part in duplicate discard (R301, R285, R302). -/
def dupKey (p : Nat) (f : EthFrame) : Option (Bool × Nat) :=
  if isPtp f || isEsc f then none
  else if p < 2 then f.rct.map (fun r => (false, r.2))
  else f.hsr.map (fun q => (true, q))

/-- The frame is a second copy. -/
def State.isDuplicate (s : State) (p : Nat) (f : EthFrame) : Bool :=
  match dupKey p f with
  | none => false
  | some (h, q) => s.net.dups.any (fun d => d.hsr == h && d.src == f.src && d.seq == q)

/-- The duplicate table notes a first or a second copy. -/
def State.noteCopy (s : State) (p : Nat) (f : EthFrame) : State :=
  match dupKey p f with
  | none => s
  | some (h, q) =>
    let same := fun d : DupEntry => d.hsr == h && d.src == f.src && d.seq == q
    if s.net.dups.any same then
      { s with net := { s.net with dups := s.net.dups.map (fun d => if same d && d.port != p then { d with both := true } else d) } }
    else
      let d : DupEntry := { hsr := h, src := f.src, seq := q, port := p, at_ := s.now }
      { s with net := { s.net with dups := s.net.dups ++ [d] } }

/-- PRP_NODES and HSR_NODES follow the node table. -/
def State.countNodes (s : State) : State :=
  (s.wr E.Net.PRP_NODES (s.net.nodes.filter (fun n => !n.hsr)).length).wr E.Net.HSR_NODES (s.net.nodes.filter (·.hsr)).length

/-- A supervision frame enters its sender in the node table of 512 entries (Table NET-2). -/
def State.noteNode (s : State) (p : Nat) (f : EthFrame) : State :=
  let h := decide (2 ≤ p)
  let same := fun n : NodeEntry => n.hsr == h && n.mac == f.src
  let see := fun n : NodeEntry => if p % 2 = 0 then { n with seenA := some s.now } else { n with seenB := some s.now }
  let nodes :=
    if s.net.nodes.any same then s.net.nodes.map (fun n => if same n then see n else n)
    else if (s.net.nodes.filter (fun n => n.hsr == h)).length < 512 then s.net.nodes ++ [see { hsr := h, mac := f.src }]
    else s.net.nodes
  { s with net := { s.net with nodes := nodes } }.countNodes

/-- The own supervision frame returns on P3 or P4 (R304). -/
def State.noteReturn (s : State) (p : Nat) : State :=
  { s with net := if p = 2 then { s.net with supBackA := some s.now } else { s.net with supBackB := some s.now } }

/-! ## Quench filters (R73 to R75, R313, R314) -/

/-- A filter covers the frame at a port. -/
def State.filterHits (s : State) (p : Nat) (f : EthFrame) (k : Nat) : Bool :=
  let m := s.rdB (E.Quench.FILTER_MATCH k)
  s.rd (E.Quench.FILTER_STATE k) == 1 && bitOf (s.rd (E.Quench.FILTER_PORTS k)) p
    && (match leAt m 0 1 with
        | 1 => f.src == beAt m 3 6
        | 2 => f.ether == 0x0800 && f.ipSrc == beAt m 5 4
        | _ => false)

/-- The first filter that covers the frame. -/
def State.quenched (s : State) (p : Nat) (f : EthFrame) : Option Nat := (List.range 16).find? (s.filterHits p f)

/-- A filter ends: its slot is free and the end is recorded (R75). -/
def State.endFilter (s : State) (k : Nat) : State :=
  let s := s.log 0x02 0x03 (vOct (s.rdB (E.Quench.FILTER_MATCH k)) ++ vU8 (s.rd (E.Quench.FILTER_PORTS k))
    ++ vU32 (s.rd (E.Quench.FILTER_NODE k)))
  let s := s.clear [E.Quench.FILTER_STATE k, E.Quench.FILTER_PORTS k, E.Quench.FILTER_NODE k, E.Quench.FILTER_HITS k,
    E.Quench.FILTER_INSTALLED k, E.Quench.INSTALL_LATENCY k]
  let s := s.wrB (E.Quench.FILTER_MATCH k) []
  { s with eop := { s.eop with quench := s.eop.quench.drop k } }

/-- The selected masters' clock identities cannot be quenched: the low 3 and high 3 bytes of an EUI-64 clockIdentity (R74). -/
def macOfIdentity (id : Nat) : Nat := id / 2 ^ 56 * 2 ^ 40 + id / 2 ^ 40 % 65536 * 2 ^ 24 + id % 2 ^ 24

/-- The match covers a protected source (R74, R316): the session's source, the twin partner, a selected PTP master, a listed address. -/
def State.isProtected (s : State) (match_ value ip mac : Nat) : Bool :=
  let masters := [s.time.b0.master, s.time.b1.master, s.time.b2.master]
  let listed := (List.range 8).map (fun i => s.rd (E.Net.PROTECTED i))
  let twin := fun (xs : Heartbeat → List Nat) => s.twinBase && s.twin.partner.any (fun h => (xs h).contains value)
  if match_ = 1 then
    value == mac || twin (·.macs) || masters.any (fun m => match m with | some a => macOfIdentity (a.source / 65536) == value | none => false)
      || listed.any (fun l => l / 2 ^ 56 == 1 && l % 2 ^ 48 == value)
  else value == ip || (value != 0 && twin (·.ips)) || masters.any (fun m => match m with | some a => a.ip != 0 && a.ip == value | none => false)
    || listed.any (fun l => l / 2 ^ 56 == 2 && l % 2 ^ 32 == value)

/-- The filter with this match, or the first free one. -/
def State.filterFor (s : State) (m : List Byte) : Option Nat :=
  match (List.range 16).find? (fun k => s.rd (E.Quench.FILTER_STATE k) == 1 && s.rdB (E.Quench.FILTER_MATCH k) == m) with
  | some k => some k
  | none => (List.range 16).find? (fun k => s.rd (E.Quench.FILTER_STATE k) == 0)

/-- Filter `k` becomes active `latency` ns after reception (R73, R313). -/
def State.installFilter (s : State) (k : Nat) (m : List Byte) (ports durMs session node latency : Nat) : State :=
  let s := (s.wr (E.Quench.FILTER_STATE k) 1).wrB (E.Quench.FILTER_MATCH k) m
  let s := (s.wr (E.Quench.FILTER_PORTS k) ports).wr (E.Quench.FILTER_NODE k) node
  let s := (s.wrT (E.Quench.FILTER_INSTALLED k) s.now).wr (E.Quench.INSTALL_LATENCY k) latency
  let o : QuenchOwner := { session := session, node := node, until_ := if durMs = 0 then none else some (s.now + durMs * 1000000) }
  let s := { s with eop := { s.eop with quench := s.eop.quench.put k o } }
  s.log 0x02 0x02 (vOct m ++ vU8 ports ++ vU32 node)

/-- QUENCH_FILTER_EXPIRY (R75): the filter's duration has passed. -/
def State.filterExpiry (s : State) (k : Nat) : State :=
  match s.eop.quench.find k with
  | some o =>
    match o.until_ with
    | some t => if t ≤ s.now then s.endFilter k else s
    | none => s
  | none => s

/-- FILTER_REMAINING in ms (Table NET-14). -/
def State.filterRemaining (s : State) (k : Nat) : Nat :=
  match s.eop.quench.find k with
  | some o => match o.until_ with
    | some t => (t - s.now).toNat / 1000000
    | none => 0
  | none => 0

/-- The slot of the quench engine for a source: its number in CLASS3_SOURCES, 9 for every unlisted source (R312). -/
def State.sourceSlot (s : State) (mac : Nat) : Nat :=
  ((List.range 9).find? (fun i => let v := s.rd (E.Net.CLASS3_SOURCES i); v / 2 ^ 56 != 0 && v % 2 ^ 48 == mac)).getD 9

/-- Class-3 policing of a frame at a port: the source's bucket, then the port's (R309). -/
def State.policeClass3 (s : State) (p : Nat) (f : EthFrame) : State × Bool :=
  let k := s.sourceSlot f.src
  let rate := if k < 9 then s.rd (E.Net.CLASS3_SOURCES k) / 2 ^ 56 else 10
  let (s, ok) := s.police p k rate 3072 f.len
  if ok then s.police p 10 100 32768 f.len else (s, false)

/-! ## Reception -/

/-- The frame is addressed to the module: its address on the port, or a group address. -/
def State.forMe (s : State) (p : Nat) (f : EthFrame) : Bool := f.dst == s.macOf p || isGroup f.dst

/-- A port of the ring forwards the frame (R303): HSR-tagged, not its own, no unicast to itself. -/
def State.forwards (s : State) (p : Nat) (f : EthFrame) : Bool :=
  2 ≤ p && f.hsr.isSome && f.src != s.macOf p && f.dst != s.macOf p && !isPtp f

/-- The frame is forwarded to the other ring port (R303). -/
def State.forwardFrame (s : State) (p : Nat) (f : EthFrame) : State :=
  if s.forwards p f then
    let x := s.port (5 - p)
    (s.setPort (5 - p) { x with forward := x.forward ++ [f] }).inc E.Net.FORWARDED
  else s

/-- The flags of a receive descriptor (Table NET-3). -/
def rxFlags (p : Nat) (f : EthFrame) : Nat :=
  ofBool f.rct.isSome + (if p = 1 then 2 else 0) + (if f.hsr.isSome then 4 else 0) + (if f.vlan.isSome then 8 else 0)

/-- Delivery caps of classes 2, 1 and 0 (R310). -/
def State.deliveryCap (s : State) (p c : Nat) (f : EthFrame) : State × Bool :=
  let pct := s.rd (match c with | 2 => E.Net.RATE_CLASS2 | 1 => E.Net.RATE_CLASS1 | _ => E.Net.RATE_CLASS0)
  if c = 3 then (s, true) else s.police p (20 + c) (10 * pct) 16384 f.len

/-- Step 8 of Table NET-5 for a frame that the module takes: hardware consumer, or RXH or RXL. -/
def State.deliver (s : State) (p c : Nat) (f : EthFrame) : State :=
  let e : RingEntry := .rx { cls := c, flags := rxFlags p f, ns := s.now % 1000000000, frame := f }
  if isEsc f then (if p < 2 then s.place (35 + p) e else s)
  else if isPtp f || f.ether == 0x88B5 then s
  else if isSupervision f then s.noteNode p f
  else if f.ether == 0x0800 && f.fragment then s
  else if isQuench f then
    let x := s.port p
    let k := s.sourceSlot f.src
    if x.slots.fetch 0 k < 2 then (s.setPort p { x with slots := x.slots.store 0 k (x.slots.fetch 0 k + 1) }).place (4 * p + 2) e
    else s.inc (E.Port.QUENCH_SLOT_DROPS p)
  else s.place (if 2 ≤ c then 4 * p + 2 else 4 * p + 3) e

/-- Steps 3 to 8 of Table NET-5; `full` says that the frame's ingress buffer is full. -/
def State.pipeline (s : State) (p : Nat) (full : Bool) (f : EthFrame) : State :=
  match s.quenched p f with
  | some k => (s.inc (E.Port.QUENCH_DROPS p)).inc (E.Quench.FILTER_HITS k)
  | none =>
    let c := classOf f
    let (s, ok) := if c = 3 then s.policeClass3 p f else (s, true)
    if !ok then s.incAt (E.Port.POLICE_DROPS p) 4 3
    else if full then s.incAt (E.Port.BUFFER_DROPS p) 4 c
    else
      let s := s.forwardFrame p f
      if !s.forMe p f then s
      else
        let (s, ok) := s.deliveryCap p c f
        if ok then s.deliver p c f else s.incAt (E.Port.POLICE_DROPS p) 4 c

/-- FRAME_RECEIVED (R308): a frame arrives at port `p` (0 to 3). -/
def State.frameReceived (s : State) (p : Nat) (full : Bool) (f : EthFrame) : State :=
  if !(p < 4) || s.rd (E.Port.LINK_STATE p) == 0 then s
  else if !f.fcsOk || f.len < 64 || 1528 < f.len then s.inc (E.Port.RX_FCS_ERRORS p)
  else
    let s := (s.inc (E.Port.RX_FRAMES p)).forgetEntries
    let vid := s.net.vlan
    if (match f.vlan with | none => false | some v => v != 0 && v != vid) || f.ether == 0x8808 then s
    else
      let s := match f.rct with
        | some (lanB, _) => if (p == 0 && lanB) || (p == 1 && !lanB) then s.inc E.Net.WRONG_LAN else s
        | none => s
      let s := if s.showsDuplicate p f then s.duplicateNode f.src else s
      if 2 ≤ p && f.src == s.macOf p && f.hsr.isSome then
        (if isSupervision f && f.hsr == some s.net.supSeq then s.noteReturn p else s)
      else if s.isDuplicate p f then (s.noteCopy p f).inc (E.Port.DUP_DISCARDED p)
      else (s.noteCopy p f).pipeline p full f

/-! ## Transmission -/

/-- The network stack places a frame: class 3 and 2 on TXH, 1 and 0 on TXL of the port (R306, Table ARC-6). -/
def State.transmit (s : State) (p : Nat) (f : TxFrame) : State :=
  s.place (if 2 ≤ f.cls then 4 * p else 4 * p + 1) (.tx f)

/-- Where the next frame of a port's egress comes from, in the order of R311. -/
inductive EgressFrom where
  | safe | forward (c : Nat) | txh | event | hardware | txl
deriving DecidableEq, Repr

/-- The class of the head of a transmit ring. -/
def State.headClass (s : State) (k : Nat) : Option Nat :=
  match (s.ring k).q with
  | .tx f :: _ => some f.cls
  | _ => none

/-- The module's own class-3 shaping lets `bytes` go (R311). -/
def State.shaperOk (s : State) (p bytes : Nat) : Bool := (s.police p 30 10 2048 bytes).2

/-- Length in bytes on the wire of a frame that the module sends, FCS included. -/
def wireLen (f : TxFrame) : Nat := max 64 (f.len + 4)

/-- The frame that carries an ESC frame: on one LAN only, class 3, to port 47020 (R302). -/
def escTx (e : EscFrame) : TxFrame :=
  { cls := 3, single := true, dport := 47020, body := .bytes e.bytes, len := 42 + e.bytes.length }

/-- The egress queues of a port that hold a frame, highest priority first (R311). -/
def State.egressNext (s : State) (p : Nat) : Option EgressFrom :=
  let x := s.port p
  let fwd := fun c => x.forward.any (fun f => classOf f == c)
  let c3 := fun k => match (s.ring k).q with
    | .tx f :: _ => s.shaperOk p (wireLen f)
    | .esc e :: _ => s.shaperOk p (wireLen (escTx e))
    | _ => false
  if p < 2 && !(s.ring (33 + p)).q.isEmpty && c3 (33 + p) then some .safe
  else if fwd 3 then some (.forward 3)
  else if s.headClass (4 * p) == some 3 && c3 (4 * p) then some .txh
  else if x.egress.any (·.event) then some .event
  else if !x.egress.isEmpty then some .hardware
  else if fwd 2 then some (.forward 2)
  else if s.headClass (4 * p) == some 2 then some .txh
  else if fwd 1 then some (.forward 1)
  else if !(s.ring (4 * p + 1)).q.isEmpty then some .txl
  else if fwd 0 then some (.forward 0)
  else none

/-- A frame leaves on port `p`. -/
def State.sent (s : State) (p : Nat) (f : TxFrame) : State :=
  (s.setPort p { s.port p with wire := some f }).inc (E.Port.TX_FRAMES p)

/-- PCP and DSCP of the classes that the module sends (Table NET-4). -/
def marking (cls : Nat) : Nat × Nat :=
  match cls with
  | 3 => (6, 48)
  | 2 => (5, 46)
  | 1 => (3, 16)
  | _ => (0, 0)

/-- A frame as it leaves: marked by its class, tagged with VLAN_ID where it is not 0 (R297, R307). -/
def State.marked (s : State) (f : TxFrame) : TxFrame :=
  let m := marking f.cls
  { f with dscp := m.2, tci := if s.net.vlan = 0 then none else some (m.1 * 8192 + s.net.vlan) }

/-- A frame of the module leaves: on both ports of the pair with RCT or HSR tag, or on one with SINGLE_PORT (R300). -/
def State.sendFrame (s : State) (p : Nat) (f : TxFrame) : State :=
  let f := s.marked f
  if f.single then s.sent p f
  else
    let a := if p < 2 then 0 else 2
    let f := { f with seq := some (if p < 2 then s.net.seqPrp else s.net.seqHsr) }
    let s := (s.sent a f).sent (a + 1) f
    { s with net := if p < 2 then { s.net with seqPrp := (s.net.seqPrp + 1) % 65536 }
                    else { s.net with seqHsr := (s.net.seqHsr + 1) % 65536
                                      supSeq := if f.ether = 0x88FB then s.net.seqHsr else s.net.supSeq } }

/-- The head of transmit ring `k` leaves on port `p`; class 3 passes the shaper. -/
def State.sendRing (s : State) (p k : Nat) : State :=
  match s.pop k with
  | (s, some (.tx f)) =>
    let s := if f.cls = 3 then (s.police p 30 10 2048 (wireLen f)).1 else s
    s.sendFrame p f
  | (s, some (.esc e)) =>
    let s := (s.police p 30 10 2048 (wireLen (escTx e))).1
    s.sendFrame p (escTx e)
  | (s, _) => s

/-- The first element that satisfies `f`, and the others. -/
def takeFirst {α : Type} (f : α → Bool) : List α → Option (α × List α)
  | [] => none
  | x :: xs => if f x then some (x, xs) else (takeFirst f xs).map (fun r => (r.1, x :: r.2))

/-- PORT_TRANSMIT (R306, R311): the next frame of a port's egress leaves. -/
def State.portTransmit (s : State) (p : Nat) : State :=
  if !(p < 4) || s.rd (E.Port.LINK_STATE p) == 0 then s
  else
    let x := s.port p
    match s.egressNext p with
    | none => s
    | some .safe => s.sendRing p (33 + p)
    | some .txh => s.sendRing p (4 * p)
    | some .txl => s.sendRing p (4 * p + 1)
    | some .event =>
      match takeFirst (fun f : TxFrame => f.event) x.egress with
      | some (f, rest) => (s.setPort p { x with egress := rest }).sendFrame p f
      | none => s
    | some .hardware =>
      match x.egress with
      | f :: rest => (s.setPort p { x with egress := rest }).sendFrame p f
      | [] => s
    | some (.forward c) =>
      match takeFirst (fun f => classOf f == c) x.forward with
      | some (f, rest) => (s.setPort p { x with forward := rest, wireFwd := some f }).inc (E.Port.TX_FRAMES p)
      | none => s

/-! ## Supervision, links and cables -/

/-- LIFE_CHECK_INTERVAL of a pair in nanoseconds. -/
def State.lifeCheck (s : State) (hsr : Bool) : Nat :=
  1000000 * s.rd (if hsr then E.Net.HSR_LIFE_CHECK_INTERVAL else E.Net.PRP_LIFE_CHECK_INTERVAL)

/-- SUPERVISION_SEND (Table NET-2): every LIFE_CHECK_INTERVAL, on both ports of the pair. -/
def State.supervisionSend (s : State) (hsr : Bool) : State :=
  let last := if hsr then s.net.supHsr else s.net.supPrp
  let due := match last with
    | none => true
    | some t => decide (t + s.lifeCheck hsr ≤ s.now)
  if due then
    let p := if hsr then 2 else 0
    let f : TxFrame := { cls := 2, dst := 0x01154E000100, ether := 0x88FB, body := .bytes (beBytes 6 (s.macOf p)) }
    let x := s.port p
    let s := s.setPort p { x with egress := x.egress ++ [f] }
    { s with net := if hsr then { s.net with supHsr := some s.now } else { s.net with supPrp := some s.now } }
  else s

/-- RING_CHECK (R304): closed when the supervision frame came back on both ports within two intervals. -/
def State.ringCheck (s : State) : State :=
  let back := fun t : Option Nat => match t with
    | some t => decide (s.now ≤ t + 2 * s.lifeCheck true)
    | none => false
  let new := if back s.net.supBackA && back s.net.supBackB then 0 else 1
  if s.rd E.Net.RING_STATE = new then s else (s.wr E.Net.RING_STATE new).log 0x07 0x01 (vU8 new)

/-- NODE_FORGET (Table NET-2): nodes not seen for NODE_FORGET_TIME leave the node table. -/
def State.nodeForget (s : State) : State :=
  let t := 1000000 * s.rd E.Net.PRP_NODE_FORGET_TIME
  let seen := fun x : Option Nat => match x with
    | some a => decide (s.now < a + t)
    | none => false
  { s with net := { s.net with nodes := s.net.nodes.filter (fun n => seen n.seenA || seen n.seenB) } }.countNodes

/-- SPEED_MODE allows the link state (R296). -/
def linkAllowed (mode link : Nat) : Bool := link == 0 || (link == 1 && mode != 1) || (link == 2 && mode != 2)

/-- The instances of a pair's ports show no mean path delay where path `q` is their active one (R279). -/
def State.voidShown (s : State) (p : Nat) : State :=
  (if p < 2 then [0, 2] else [1]).foldl (fun s b =>
    if s.rd (E.Ptp.PATH_ACTIVE b) = p % 2 then s.wr (E.Ptp.MEAN_PATH_DELAY b) 0 else s) s

/-- A speed change voids the path and peer-delay measurements of the instances on the port (R279). -/
def State.voidDelays (s : State) (p : Nat) : State :=
  let q := s.time.peers.fetch {} p
  let s := { s with time := { s.time with peers := s.time.peers.store {} p { q with t1 := none, delay := none } } }
  let s := ((s.wr (E.Stamp.PEER_DELAY p) 0).wr (E.Stamp.PEER_DELAY_STATE p) 0).voidShown p
  let wipe := fun x : BaseSt => if p % 2 = 0 then { x with pathA := { x.pathA with delay := none, t3 := none } }
                                else { x with pathB := { x.pathB with delay := none, t3 := none } }
  if p < 2 then { s with time := { s.time with b0 := wipe s.time.b0, b2 := wipe s.time.b2 } }
  else { s with time := { s.time with b1 := wipe s.time.b1 } }

/-- LINK_CHANGE (R279, R296): the link goes to LINK_STATE `link`, with MDI_STATE `mdi`. -/
def State.linkChange (s : State) (p link mdi : Nat) : State :=
  let old := s.rd (E.Port.LINK_STATE p)
  if !(p < 4) || old == link || !(link < 3) || !linkAllowed (s.rd (E.Port.SPEED_MODE p)) link
     || (link != 0 && (!s.on (E.Port.PORT_ENABLE p) || s.power.reduced)) then s
  else
    let s := ((s.wr (E.Port.LINK_STATE p) link).wr (E.Port.MDI_STATE p) mdi).inc (E.Port.LINK_CHANGES p)
    if link = 0 then s
    else
      let x := s.port p
      let s := (s.setPort p { x with speed := link }).wr (E.Port.CABLE_STATE p) 0
      if x.speed = link || x.speed = 0 then s else s.voidDelays p

/-- CABLE_TEST (R298): once per second while the link is down. -/
def State.cableTest (s : State) (p pairs : Nat) : State :=
  if p < 4 && s.rd (E.Port.LINK_STATE p) == 0 && s.on (E.Port.PORT_ENABLE p) then s.wr (E.Port.CABLE_STATE p) pairs else s

/-! ## Dictionary effects -/

/-- The sum of the listed rates with source `k` at `v` (R309). -/
def State.sourceSum (s : State) (k v : Nat) : Nat :=
  sumNat ((List.range 9).map (fun i => (if i = k then v else s.rd (E.Net.CLASS3_SOURCES i)) / 2 ^ 56))

/-- CLASS3_SOURCES: rate 0 to 10, reserved byte zero, sum at most 90 (Table NET-12). -/
def State.chkSource (s : State) (k v : Nat) : Nat :=
  need (decide (v / 2 ^ 56 ≤ 10) && v / 2 ^ 48 % 256 == 0 && decide (s.sourceSum k v ≤ 90)) stRange

/-- CLASS3_SOURCES and its sum. -/
def State.effSource (s : State) (k v : Nat) : State :=
  let s := s.wrR (E.Net.CLASS3_SOURCES k) v
  s.wr E.Net.CLASS3_SOURCE_SUM (s.sourceSum k v)

/-- PROTECTED: 0 unused, 1 MAC, 2 IPv4 (Table NET-12). -/
def chkProtected (v : Nat) : Nat :=
  need (match v / 2 ^ 56 with
    | 0 => true
    | 1 => v / 2 ^ 48 % 256 == 0
    | 2 => v / 2 ^ 32 % 2 ^ 24 == 0
    | _ => false) stRange

/-- A contiguous mask (Table NET-12). -/
def maskOk (v : Nat) : Bool := (List.range 33).any (fun k => v == 2 ^ 32 - 2 ^ k)

/-- False in PORT_ENABLE holds the PHY powered down (Table NET-13). -/
def State.effPortEnable (s : State) (p v : Nat) : State :=
  let s := s.wrR (E.Port.PORT_ENABLE p) v
  if v = 0 && s.rd (E.Port.LINK_STATE p) != 0 then
    ((s.wr (E.Port.LINK_STATE p) 0).wr (E.Port.MDI_STATE p) 0).inc (E.Port.LINK_CHANGES p)
  else s

/-- RESET_STATS of a port (Table NET-13). -/
def State.effPortStats (s : State) (p : Nat) : State :=
  let s := s.clear [E.Port.LINK_CHANGES p, E.Port.RX_FRAMES p, E.Port.TX_FRAMES p, E.Port.RX_FCS_ERRORS p,
    E.Port.DUP_DISCARDED p, E.Port.QUENCH_DROPS p, E.Port.QUENCH_SLOT_DROPS p]
  (s.wrB (E.Port.POLICE_DROPS p) []).wrB (E.Port.BUFFER_DROPS p) []

/-! ## Commands -/

/-- FRAME_RECEIVED (R308). -/
def execFrameReceived (at_ port : Nat) (bufferFull : Bool) (f : EthFrame) (s : State) : Result :=
  .next ((s.advance at_).frameReceived port bufferFull f)

/-- PORT_TRANSMIT (R306). -/
def execPortTransmit (at_ port : Nat) (s : State) : Result := .next ((s.advance at_).portTransmit port)

/-- SUPERVISION_SEND (R299). -/
def execSupervisionSend (at_ : Nat) (hsr : Bool) (s : State) : Result := .next ((s.advance at_).supervisionSend hsr)

/-- RING_CHECK (R304). -/
def execRingCheck (at_ : Nat) (s : State) : Result := .next ((s.advance at_).ringCheck)

/-- NODE_FORGET (R299). -/
def execNodeForget (at_ : Nat) (s : State) : Result := .next ((s.advance at_).nodeForget)

/-- LINK_CHANGE (R279). -/
def execLinkChange (at_ port link mdi : Nat) (s : State) : Result := .next ((s.advance at_).linkChange port link mdi)

/-- CABLE_TEST (R298). -/
def execCableTest (at_ port pairs : Nat) (s : State) : Result := .next ((s.advance at_).cableTest port pairs)

/-- QUENCH_FILTER_EXPIRY (R75). -/
def execQuenchFilterExpiry (at_ filter : Nat) (s : State) : Result := .next ((s.advance at_).filterExpiry filter)

end Sys2Proof.Machine
end

