-- ==== Sys2Proof/Machine/Ecx.lean ====
section
/-!
DEFINITION. Machine/Ecx.lean: the ECX master: admission checks, cycles, stations, dropouts and returns, acyclic requests
(R116, R117, R318 to R328).
-/
namespace Sys2Proof.Machine

/-- Station `n` beside its entries. -/
def State.station (s : State) (n : Nat) : StationSt := s.ecx.stations.fetch {} n

/-- Station `n` replaced. -/
def State.setStation (s : State) (n : Nat) (x : StationSt) : State :=
  { s with ecx := { s.ecx with stations := s.ecx.stations.store {} n x } }

/-- The archive's declaration of a station. -/
def State.stationDecl (s : State) (n : Nat) : Option StationDecl :=
  match s.rt.archive with
  | none => none
  | some a => a.stations.find? (fun d => d.station == n)

/-! ## Admission (R319) -/

/-- Bytes on the wire of an ECX frame with `d` data bytes. -/
def ecxWire (d : Nat) : Nat := max 64 (56 + d) + 20

/-- Byte time in ns. -/
def State.byteTime (s : State) : Nat :=
  if s.rd (E.Port.SPEED_MODE 2) = 1 && s.rd (E.Port.SPEED_MODE 3) = 1 then 8 else 80

/-- The enabled stations. -/
def State.enabledStations (s : State) : List Nat := (List.range 64).filter (fun n => s.on (E.Station.STATION_ENABLE n))

/-- T_out in ns. -/
def State.tOut (s : State) : Nat := sumNat (s.enabledStations.map (fun n => ecxWire (s.rd (E.Station.OUT_LENGTH n)))) * s.byteTime
/-- T_in in ns. -/
def State.tIn (s : State) : Nat := sumNat (s.enabledStations.map (fun n => ecxWire (s.rd (E.Station.IN_LENGTH n)))) * s.byteTime

/-- The first failing check of R319, as ECX_CHECK codes it. -/
def State.ecxCheck (s : State) : Nat :=
  let p := 1000 * s.rd E.Ecx.CYCLE_PERIOD
  let d := 1000 * s.rd E.Ecx.OUTPUT_DELAY
  let r := 1000 * s.rd E.Ecx.RING_TRANSIT
  if 6 * p < 10 * (s.tOut + s.tIn) then 1
  else if d < s.tOut + r then 2
  else if p < d + r + s.tIn then 3
  else 0

/-- ECX_CHECK and CYCLE_LOAD (Table NET-15). -/
def State.noteEcxCheck (s : State) : State :=
  (s.wr E.Ecx.ECX_CHECK s.ecxCheck).wr E.Ecx.CYCLE_LOAD
    (min 0xFFFF ((s.tOut + s.tIn) * 10000 / (1000 * max 1 (s.rd E.Ecx.CYCLE_PERIOD))))

/-- ECX_ENABLE true needs the checks to pass (R319). -/
def State.chkEcxEnable (s : State) (v : Nat) : Nat := need (v == 0 || s.ecxCheck == 0) stRange

/-! ## Images -/

/-- A byte of a station's output image takes a committed value. -/
def State.writeStationByte (s : State) (n off v : Nat) : State :=
  let x := s.station n
  s.setStation n { x with image := x.image.store 0 off (v % 256) }

/-- RIO_OUT entries reach the images: each carries triples of offset and value (Table ARC-6). -/
def State.applyTriples (s : State) (n : Nat) : List Byte → State
  | a :: b :: v :: rest => State.applyTriples (s.writeStationByte n (a.toNat + 256 * b.toNat) v.toNat) n rest
  | _ => s

/-- The engine takes every entry of RIO_OUT (ring 37). -/
def State.takeRioOut (s : State) : State :=
  let es := (s.ring 37).q
  es.foldl (fun s e => match e with
    | .rio n d => s.applyTriples n d
    | _ => s) (s.emptyRing 37)

/-! ## Cycles -/

/-- A station's part of a cycle start: STATE commanded, snapshot of its image, its CYCLE_OUT with the forces in effect (R109, R320, R321, R324). -/
def State.cycleOut (s : State) (n : Nat) : State :=
  let st := s.rd (E.Station.STATION_STATE n)
  let x := s.station n
  let red := max 1 (s.rd (E.Station.REDUCTION n))
  if st = 0 || s.rd E.Ecx.CYCLE_NUMBER % red != 0 then s.setStation n { x with exchanges := false, got := false, gotPorts := [], badPort := none }
  else
    let len := if st = 3 then s.rd (E.Station.OUT_LENGTH n) else 0
    let fs := s.rt.forced
    let data := (List.range len).map (fun i => BitVec.ofNat 8
      (match fs.find? (fun f => f.1 == pointId 6 (n * 1024 + i)) with
        | some f => f.2
        | none => x.image.fetch 0 i))
    let f : EcxFrame := { type := 1, station := n, state := if st = 3 then 3 else 2, master := s.rd E.Id.NODE_ID_ACTIVE
                          cycle := s.rd E.Ecx.CYCLE_NUMBER, applyTb1 := s.ecx.applyTb1
                          watchdog := s.rd (E.Station.WATCHDOG n), signature := s.rd (E.Station.CONFIG_SIGNATURE n), data := data }
    let s := s.setStation n { x with exchanges := true, got := false, gotPorts := [], badPort := none, commanded := f.state, sent := data }
    { s with ecx := { s.ecx with outFrames := s.ecx.outFrames ++ [f] } }

/-- The header of Table NET-9 and the data, big-endian. -/
def ecxBytes (f : EcxFrame) : List Byte :=
  beBytes 1 1 ++ beBytes 1 f.type ++ beBytes 1 f.station ++ beBytes 1 f.state ++ beBytes 4 f.master ++ beBytes 4 f.cycle
    ++ time96be f.applyTb1 ++ beBytes 2 f.data.length ++ beBytes 2 f.watchdog ++ beBytes 4 f.signature ++ f.data

/-- An ECX frame waits for egress on P3 and P4, class 2 (R321, Table NET-4). -/
def State.sendEcx (s : State) (f : EcxFrame) : State :=
  s.emit 2 { cls := 2, ether := 0x88B5, dst := beNat (s.rdB (E.Station.STATION_MAC f.station)), body := .bytes (ecxBytes f)
             len := 14 + 32 + f.data.length }

/-- An acyclic request leaves as ACYC_REQ (R328). -/
def State.sendAcyc (s : State) : RingEntry → State
  | .rio n d =>
    (s.setStation n { s.station n with acycSent := true }).sendEcx
      { type := 3, station := n, state := 0, master := s.rd E.Id.NODE_ID_ACTIVE, cycle := s.rd E.Ecx.CYCLE_NUMBER
        signature := s.rd (E.Station.CONFIG_SIGNATURE n), data := d }
  | _ => s

/-- The acyclic requests on RIO_ACYC_REQ are sent in the time after T_in of the cycle (R328). -/
def State.sendAcyclic (s : State) : State := (s.ring 39).q.foldl State.sendAcyc (s.emptyRing 39)

/-- ECX_CYCLE_START (R318 to R321, R324): at an instant of the cycle grid, with no cycle open. -/
def State.cycleStart (s : State) : State :=
  let p := 1000 * s.rd E.Ecx.CYCLE_PERIOD
  if s.ecx.start.isSome || p == 0 || s.now % p != 1000 * s.rd E.Ecx.CYCLE_PHASE || !s.started || s.power.reduced then s
  else if !s.on E.Ecx.ECX_ENABLE then
    { s with ecx := { s.ecx with running := false } }.wr E.Ecx.MASTER_STATE 0
  else if !s.active then { s with ecx := { s.ecx with running := false } }.wr E.Ecx.MASTER_STATE 2
  else
    let s := (s.wr E.Ecx.MASTER_STATE 1).takeRioOut
    let s := s.wr E.Ecx.CYCLE_NUMBER (s.rd E.Ecx.CYCLE_NUMBER + 1)
    let apply_ := time96 (s.tbAt 1 (s.now + 1000 * s.rd E.Ecx.OUTPUT_DELAY))
    let s := { s with ecx := { s.ecx with running := true, start := some s.now, applyTb1 := apply_, outFrames := [] } }
    let s := (List.range 64).foldl State.cycleOut s
    let s := s.ecx.outFrames.foldl State.sendEcx s
    s.sendAcyclic

/-- CYCLE_IN (R322): a frame of a station at ring port 2 or 3 (P3, P4). -/
def State.cycleIn (s : State) (port src : Nat) (f : EcxFrame) : State :=
  let n := f.station
  if !s.ecx.running || f.type != 2 || !(n < 64) then s
  else
    let x := s.station n
    let cyc := s.rd E.Ecx.CYCLE_NUMBER
    if src != beNat (s.rdB (E.Station.STATION_MAC n)) then s
    else if f.cycle != cyc || s.ecx.start.isNone then
      (if (cyc + 2 ^ 32 - f.cycle) % 2 ^ 32 < 2 ^ 31 && x.latePort != some (f.cycle, 5 - port) then
        (s.inc (E.Station.LATE_FRAMES n)).setStation n { x with latePort := some (f.cycle, port) } else s)
    else if f.signature != s.rd (E.Station.CONFIG_SIGNATURE n) then
      (if x.badPort = some (5 - port) then s
        else (s.inc (E.Station.SIG_MISMATCHES n)).setStation n { x with badPort := some port })
    else if !x.exchanges || f.data.length != s.rd (E.Station.IN_LENGTH n) || f.state != x.commanded then s
    else if x.got then s.setStation n { x with gotPorts := if x.gotPorts.contains port then x.gotPorts else port :: x.gotPorts }
    else
      let live := s.rd (E.Station.STATION_STATE n) == 3
      let s := s.setStation n { x with got := true, gotPorts := [port], last := f.data, live := if live then f.data else x.live }
      let s := s.place 38 (.rio n f.data)
      (s.wr (E.Station.LAST_IN_CYCLE n) f.cycle).wrT (E.Station.LAST_IN_TB3 n) s.now

/-- A station state change is committed, recorded and reported (R323). -/
def State.setStationState (s : State) (n st : Nat) : State :=
  (s.wr (E.Station.STATION_STATE n) st).log 0x07 0x03 (vU8 n ++ vU8 st)

/-- An error record for every task that uses the station (R116, R117). -/
def State.stationErr (s : State) (n cause : Nat) : State :=
  match s.stationDecl n with
  | none => s
  | some d => d.users.foldl (fun s t => s.queueErr t { cause := cause, data := [n], stamp := some s.now }) s

/-- SAFE values of a station's output image at the dropout commit (R325). -/
def State.substituteOutputs (s : State) (n : Nat) : State :=
  let points : List PointDecl := match s.rt.archive with
    | none => []
    | some a => a.points.filter (fun d => pointClass d.point == 6 && pointNumber d.point / 1024 == n)
  let x := s.station n
  points.foldl (fun s d => s.writeStationByte n (pointNumber d.point % 1024) d.safe) (s.setStation n { x with image := {} })

/-- The dropout commit (R116, R323, R325): what was committed before it reaches the image first. -/
def State.dropout (s : State) (n : Nat) : State :=
  let s := (s.takeRioOut.substituteOutputs n).inc (E.Station.DROPOUTS n)
  let s := s.setStation n { s.station n with dropAt := some s.now }
  s.stationErr n 1

/-- The return commit (R117, R323, R324). -/
def State.stationReturn (s : State) (n : Nat) : State :=
  let x := s.station n
  (s.setStation n { x with live := x.last, valid := 0 }).stationErr n 2

/-- A missed cycle: counted, and the run of misses (R322). -/
def State.missCycle (s : State) (n : Nat) : State := (s.inc (E.Station.MISSES n)).inc (E.Station.MISS_CONSEC n)

/-- One station at a cycle close (Table NET-10). -/
def State.closeStation (s : State) (n : Nat) : State :=
  let st := s.rd (E.Station.STATION_STATE n)
  if !s.on (E.Station.STATION_ENABLE n) then
    if st = 0 then s
    else
      let s := if st = 3 then s.dropout n else s
      (s.wr (E.Station.MISS_CONSEC n) 0).setStationState n 0
  else if st = 0 then (s.setStation n { s.station n with valid := 0 }).setStationState n 1
  else
    let x := s.station n
    if !x.exchanges then s
    else
      let s := if x.got && x.gotPorts.length == 1 then s.inc (E.Station.SINGLE_PATH n) else s
      let s := if x.got then s.wr (E.Station.MISS_CONSEC n) 0 else s.missCycle n
      let out := decide (s.rd E.Ecx.MISS_LIMIT ≤ s.rd (E.Station.MISS_CONSEC n))
      match st with
      | 2 =>
        if x.got then
          let v := x.valid + 1
          let s := s.setStation n { x with valid := v }
          if s.rd E.Ecx.RETURN_CYCLES ≤ v then (s.stationReturn n).setStationState n 3 else s
        else
          let s := s.setStation n { x with valid := 0 }
          if out then s.setStationState n 1 else s
      | 3 => if !x.got && out then (s.dropout n).setStationState n 4 else s
      | _ =>
        if x.got && x.commanded == 2 then
          (s.setStation n { x with valid := 0 }).setStationState n 2
        else s

/-- ECX_CYCLE_CLOSE (R320, R323): at the end of the open cycle. -/
def State.cycleClose (s : State) : State :=
  match s.ecx.start with
  | some t =>
    if t + 1000 * s.rd E.Ecx.CYCLE_PERIOD ≤ s.now then
      let s := (List.range 64).foldl State.closeStation s
      { s with ecx := { s.ecx with start := none } }
    else s
  | none => s

/-! ## Acyclic requests (R328) -/

/-- One outstanding request per station, and room on ring 39; else BUSY. -/
def State.chkAcyc (s : State) (n : Nat) : Nat := need (s.rd (E.Station.ACYC_STATUS n) != 1 && s.room 39 1) 0x0F

/-- ACYC_REQUEST is accepted. -/
def State.effAcyc (s : State) (n : Nat) (d : List Byte) : State :=
  let s := (s.place 39 (.rio n d)).wr (E.Station.ACYC_STATUS n) 1
  s.setStation n { s.station n with acycSince := some s.now, acycSent := false }

/-- ACYC_RESPONSE: the station's answer reaches ring 40. -/
def State.acycResponse (s : State) (n : Nat) (d : List Byte) : State :=
  let x := s.station n
  if s.rd (E.Station.ACYC_STATUS n) = 1 && x.acycSent && x.acycSince.isSome then
    (s.setStation n { x with acycSince := none }).place 40 (.rio n (leBytes 1 2 ++ d))
  else s

/-- ACYC_TIMEOUT: 100 ms after the request. -/
def State.acycTimeout (s : State) (n : Nat) : State :=
  let x := s.station n
  match x.acycSince with
  | some t =>
    if t + 100000000 ≤ s.now then (s.setStation n { x with acycSince := none }).place 40 (.rio n (leBytes 1 3)) else s
  | none => s

/-- The services report a response or a timeout (R328). -/
def State.takeAcyc (s : State) (n : Nat) : List Byte → State
  | b :: d =>
    let s := s.wr (E.Station.ACYC_STATUS n) b.toNat
    if b.toNat = 2 then s.wrB (E.Station.ACYC_RESPONSE n) d else s
  | [] => s

/-- RESET_STATS of a station (Table NET-16). -/
def State.effStationStats (s : State) (n : Nat) : State :=
  s.clear [E.Station.MISSES n, E.Station.DROPOUTS n, E.Station.LATE_FRAMES n, E.Station.SIG_MISMATCHES n, E.Station.SINGLE_PATH n]

/-! ## Commands -/

/-- ECX_CYCLE_START (R320). -/
def execEcxCycleStart (at_ : Nat) (s : State) : Result := .next ((s.advance at_).cycleStart)

/-- CYCLE_IN (R322). -/
def execCycleIn (at_ port src : Nat) (f : EcxFrame) (s : State) : Result := .next ((s.advance at_).cycleIn port src f)

/-- ECX_CYCLE_CLOSE (R323). -/
def execEcxCycleClose (at_ : Nat) (s : State) : Result := .next ((s.advance at_).cycleClose)

/-- ACYC_RESPONSE (R328). -/
def execAcycResponse (at_ station : Nat) (payload : List Byte) (s : State) : Result :=
  .next ((s.advance at_).acycResponse station payload)

/-- ACYC_TIMEOUT (R328). -/
def execAcycTimeout (at_ station : Nat) (s : State) : Result := .next ((s.advance at_).acycTimeout station)

end Sys2Proof.Machine
end

