-- ==== Sys2Proof/Machine/Field.lean ====
section
/-!
DEFINITION. Machine/Field.lean: the digital inputs and outputs of the field side: filters, profiles, banks, trips, groups, and
FIELD_DIAG (R356 to R379).
-/
namespace Sys2Proof.Machine

/-- Output `o` on the field side. -/
def State.dout (s : State) (o : Nat) : DoSt := s.field.dout.fetch {} o
/-- Output `o` replaced. -/
def State.setDout (s : State) (o : Nat) (x : DoSt) : State :=
  { s with field := { s.field with dout := s.field.dout.store {} o x } }

/-- A FIELD_DIAG entry waits for the link (Table DIO-7, R375). -/
def State.fieldDiag (s : State) (source channel event detail : Nat) : State :=
  let b := leBytes 1 source ++ leBytes 1 channel ++ leBytes 1 event ++ leBytes 1 detail ++ time96le (time96ns s.now)
  { s with field := { s.field with diagOut := s.field.diagOut ++ [b] } }

/-! ## Output profiles (R363 to R365) -/

/-- The lead and the width of an output's bank by the profiles in force. -/
def State.bankNow (s : State) (o : Nat) : Nat × Nat := bankWith (s.field.profiles.fetch 0) o

/-- The channels of a bank. -/
def members (b : Nat × Nat) : List Nat := (List.range b.2).map (b.1 + ·)

/-- The lead whose settings an output follows (R378). -/
def State.leadOf (s : State) (o : Nat) : Nat := (s.bankNow o).1

/-- A DO_PROFILE write obeys the bank rules (R363, R365). -/
def State.chkProfile (s : State) (o v : Nat) : Nat :=
  let (l, w) := s.bank o
  let banked := w != 1
  let width := if v = 2 then 4 else if v = 1 then 2 else 1
  let taken := (List.range width).drop 1 |>.map (o + ·)
  let ok :=
    if banked && l != o then false
    else if v = 3 then !banked
    else if width = 1 then true
    else o % width == 0
      && taken.all (fun k => let b := s.bank k; b.2 == 1 || (b.1 == o && banked))
      && taken.all (fun k => (s.writerOf (pointId 2 k)).isNone)
  need ok stRange

/-- DO_PROFILE as a read gives it: a member reads BANK_MEMBER (R363). -/
def State.profileView (s : State) (o : Nat) : Nat :=
  if (s.bank o).1 != o then 4 else s.rd (E.Do.DO_PROFILE o)

/-- Profiles take effect at a frame boundary (R363). -/
def State.applyProfiles (s : State) : State :=
  let m := (List.range 64).foldl (fun m o => m.store 0 o (s.rd (E.Do.DO_PROFILE o))) ({} : SMap Nat)
  { s with field := { s.field with profiles := m } }

/-! ## What an output does (Table DIO-5) -/

/-- The group of output `o` can switch a channel on (Table DIO-6). -/
def State.groupFeeds (s : State) (o : Nat) : Bool :=
  let g := s.rd (E.Grp.GROUP_STATE (o / 8))
  g != 2 && g != 3

/-- The field side follows its latches: it has seen RESUME and is not in SILENCE. -/
def State.fieldFollows (s : State) : Bool := !s.field.silence && !s.field.hold

/-- Level and DO_OUTPUT_STATE of an output (Table DIO-5). -/
def State.doDecide (s : State) (o : Nat) : Bool × Nat :=
  let (l, w) := s.bankNow o
  let latch := s.on (E.Do.DO_COMMANDED l)
  if !s.field.powered || !s.field.enable then (false, 3)
  else if (members (l, w)).any (fun k => (s.dout k).tripped) then (false, 2)
  else if s.field.silence then
    ((match s.rd (E.Do.DO_SAFE_STATE l) with
      | 0 => false
      | 1 => true
      | _ => latch) && ((s.dout o).on || s.groupFeeds o), 4)
  else
    let on := latch && ((s.dout o).on || s.groupFeeds o)
    (on, ofBool on)

/-- Output `o` takes the level that Table DIO-5 gives it; a change counts in SWITCHINGS (Table DIO-9). -/
def State.refreshDo (s : State) (o : Nat) : State :=
  let (on, st) := s.doDecide o
  let s := s.wr (E.Do.DO_OUTPUT_STATE o) st
  let x := s.dout o
  if x.on == on then s
  else (s.setDout o { x with on := on, changedAt := s.now }).inc (E.Do.SWITCHINGS o)

/-- Every output takes its level. -/
def State.refreshDos (s : State) : State := (List.range 64).foldl (fun s o => s.refreshDo o) s

/-! ## Diagnostics (Table DIO-4, Table DIO-10) -/

/-- DO_DIAG shows a channel's own bits, on the lead the OR of all members' (R364). -/
def State.showDiag (s : State) (o : Nat) : State :=
  let (l, w) := s.bankNow o
  let s := s.wr (E.Do.DO_DIAG o) (s.dout o).diag
  s.wr (E.Do.DO_DIAG l) ((members (l, w)).foldl (fun a k => a ||| (s.dout k).diag) 0)

/-- A bit of DO_DIAG is set or cleared, with its FIELD_DIAG event (0 for none) and DETAIL (R375). -/
def State.setDoDiag (s : State) (o bit : Nat) (v : Bool) (event : Nat) (extra : Nat := 0) : State :=
  let x := s.dout o
  if bitOf x.diag bit == v then s
  else
    let s := (s.setDout o { x with diag := setBit x.diag bit v }).showDiag o
    if event = 0 then s else s.fieldDiag 0x02 o event (ofBool v + 2 * extra)

/-- An output leaves TRIPPED; OVERLOAD and SHORT clear with it. -/
def State.leaveTrip (s : State) (o : Nat) : State :=
  let (l, w) := s.bankNow o
  let s := (members (l, w)).foldl (fun s k =>
    let s := s.setDout k { s.dout k with tripped := false, latched := false, hotTrip := false, freeAt := s.now }
    let short := bitOf (s.dout k).diag 1
    let s := s.setDoDiag k 1 false 0
    s.setDoDiag k 0 false 0x10 (ofBool short)) s
  (members (l, w)).foldl (fun s k => s.refreshDo k) s

/-- A trip of an output switches its bank off (R364, R368). -/
def State.trip (s : State) (o : Nat) (hot : Bool) : State :=
  let (l, w) := s.bankNow o
  let x := s.dout l
  if x.tripped then s
  else
    let n := if s.now < x.freeAt + 10000000000 then x.trips + 1 else 1
    let auto := s.rd (E.Do.RESTART_MODE l) == 1
    let final := auto && 10 ≤ n
    let s := (members (l, w)).foldl (fun s k =>
      s.setDout k { s.dout k with tripped := true, latched := !auto || final, tripAt := s.now, hotTrip := hot, offFrames := 0
                                  trips := if final then 0 else n }) s
    let s := s.inc (E.Do.TRIPS l)
    let s := (members (l, w)).foldl (fun s k => s.refreshDo k) s
    if final then s.fieldDiag 0x02 l 0x18 1 else s

/-- DO_OVERLOAD (Table DIO-4): SHORT is also set where the current was held at the limit and the output is below 2.0 V. -/
def State.doOverload (s : State) (o : Nat) (atLimit below2V : Bool) : State :=
  if !(s.dout o).on then s
  else
    let short := atLimit && below2V
    let s := if short then s.setDoDiag o 1 true 0 else s
    (s.setDoDiag o 0 true 0x10 (ofBool short)).trip o false

/-- DO_OVERTEMP (Table DIO-4): set above 150 °C with a trip, cleared below 135 °C. -/
def State.doOvertemp (s : State) (o : Nat) (hot : Bool) : State :=
  let s := s.setDoDiag o 4 hot 0x13
  if hot then s.trip o true else s

/-- The group's voltage suppresses OPEN_ON and OPEN_OFF (Table DIO-6). -/
def State.suppressed (s : State) (o : Nat) : Bool := [1, 2, 3].contains (s.rd (E.Grp.GROUP_STATE (o / 8)))

/-- 100 ms have passed since the output changed (R367). -/
def State.settledDo (s : State) (o : Nat) : Bool := decide ((s.dout o).changedAt + 100000000 ≤ s.now)

/-- DO_OPEN_ON (Table DIO-4). -/
def State.doOpenOn (s : State) (o : Nat) (open_ : Bool) : State :=
  if open_ && (!(s.dout o).on || s.rd (E.Do.OPEN_ON_CURRENT (s.leadOf o)) == 0 || s.suppressed o || !s.settledDo o) then s
  else s.setDoDiag o 2 open_ 0x11

/-- DO_OPEN_OFF (Table DIO-4): evaluated with the test current flowing and the field enable asserted (R374). -/
def State.doOpenOff (s : State) (o : Nat) (open_ : Bool) : State :=
  if open_ && ((s.dout o).on || !s.on (E.Do.OFF_DIAG (s.leadOf o)) || s.suppressed o || !s.settledDo o || !s.field.enable) then s
  else s.setDoDiag o 3 open_ 0x12

/-- DO_OFF_VOLTAGE (Table DIO-4, R374). -/
def State.doOffVoltage (s : State) (o : Nat) (high : Bool) : State :=
  if high && ((s.dout o).on || !s.field.enable) then s else s.setDoDiag o 6 high 0x15

/-- SHARE_FAULT (R364): only a member of a bank shares. -/
def State.shareFault (s : State) (o : Nat) (out : Bool) : State :=
  if out && ((s.bankNow o).2 == 1 || !(s.dout o).on) then s else s.setDoDiag o 5 out 0x14

/-- DEMAG_EVENT (R366): the energy of a switch-off in mJ, against the rating of the profile. -/
def State.demag (s : State) (o e : Nat) : State :=
  let s := s.wr (E.Do.DEMAG_ENERGY o) e
  -- 50.0 mJ, 400.0 mJ
  let rating := if s.field.profiles.fetch 0 (s.leadOf o) = 3 then 0x43C80000 else 0x42480000
  s.setDoDiag o 7 (fmt32.lt rating e) 0x16

/-- The output tripped in the SILENCE that lasts (R369). -/
def State.trippedInSilence (s : State) (o : Nat) : Bool :=
  s.field.silence && decide (ofTime96 (s.rd E.Grp.LAST_SILENCE_TB3) / 65536 ≤ ((s.dout o).tripAt : Int))

/-- AUTO_RETRY (R368): after RETRY_DELAY, and for OVERTEMP once cooled, the trip ends; not of a channel that tripped in SILENCE (R369). -/
def State.autoRetry (s : State) (o : Nat) : State :=
  let (l, w) := s.bankNow o
  let x := s.dout l
  let hot := (members (l, w)).any (fun k => bitOf (s.dout k).diag 4)
  if x.tripped && !x.latched && !(x.hotTrip && hot) && !s.trippedInSilence l
      && decide (x.tripAt + 1000000 * s.rd (E.Do.RETRY_DELAY l) ≤ s.now) then
    (s.leaveTrip l).fieldDiag 0x02 l 0x17 1
  else s

/-- TRIP_RESET true travels with the next field frame (R27, R368). -/
def State.effTripReset (s : State) (o v : Nat) : State :=
  if v = 0 then s else { s with field := { s.field with resets := s.field.resets ++ [o] } }

/-- A TRIP_RESET reaches output `o` (R368): ignored on a bank member (R378). -/
def State.tripReset (s : State) (o : Nat) : State :=
  let x := s.dout o
  if s.leadOf o != o || !x.tripped || !x.latched then s else s.leaveTrip o

/-- The field side takes the TRIP_RESETs of a frame, unless no command reaches it (R369). -/
def State.takeResets (s : State) : State :=
  let os := s.field.resets
  let s := { s with field := { s.field with resets := [] } }
  if s.fieldFollows then os.foldl State.tripReset s else s

/-! ## Group supplies (R370) -/

/-- GROUP_STATE_CHANGE. -/
def State.groupChange (s : State) (g st : Nat) : State :=
  let old := s.rd (E.Grp.GROUP_STATE g)
  if 5 < st || old == st then s
  else
    let s := s.wr (E.Grp.GROUP_STATE g) st
    let s := if old = 0 then s.inc (E.Grp.GROUP_FAULTS g) else s
    let s := s.fieldDiag 0x03 g 0x20 st
    (List.range 8).foldl (fun s k =>
      let o := 8 * g + k
      let s := s.setDoDiag o 8 (st != 0) 0
      let s := if s.suppressed o then (s.setDoDiag o 2 false 0x11).setDoDiag o 3 false 0x12 else s
      let s := if st = 5 then s.trip o false else s
      s.refreshDo o) s

/-! ## Digital inputs (R357 to R360) -/

/-- Input `i` on the field side. -/
def State.dinp (s : State) (i : Nat) : DiSt := s.field.di.fetch {} i

/-- A sample of an input passes its filter (R357): the state changes after DI_FILTER of consecutive samples of the new level. -/
def stepDi (x : DiSt) (filter at_ : Nat) (level : Bool) : DiSt :=
  if level == x.level then { x with run := 0 }
  else
    let first := if x.run = 0 then at_ else x.first
    if filter ≤ x.run + 1 then { level := level, run := 0, first := first, changes := x.changes + 1, changedAt := first }
    else { x with run := x.run + 1, first := first }

/-- The samples of a frame that starts at `start`, a multiple of 100 µs (R28, R357). -/
def State.sampleDi (s : State) (start : Nat) (raw : BitVec 64) : State :=
  if start % 100000 != 0 then s
  else
    let m := (List.range 64).foldl (fun m i =>
      m.store {} i (stepDi (m.fetch {} i) (s.rd (E.Di.DI_FILTER i)) start (bitOf raw.toNat i && !bitOf (s.rd (E.Di.DI_DIAG i)) 1)))
      s.field.di
    { s with field := { s.field with di := m } }

/-- DI_STATE_CHANGE (R357): the logic side takes the filtered states from a valid frame. -/
def State.showDi (s : State) : State :=
  (List.range 64).foldl (fun s i =>
    let x := s.dinp i
    if x.changes = 0 then s
    else
      let s := { s with field := { s.field with di := s.field.di.store {} i { x with changes := 0 } } }
      let s := (s.wr (E.Di.DI_STATE i) (ofBool x.level)).addTo (E.Di.DI_CHANGES i) x.changes
      s.wrT (E.Di.LAST_CHANGE_TB3 i) x.changedAt) s

/-- A bit of DI_DIAG is set or cleared (R359, R375). -/
def State.setDiDiag (s : State) (i bit : Nat) (v : Bool) : State :=
  let d := s.rd (E.Di.DI_DIAG i)
  if bitOf d bit == v then s else (s.wr (E.Di.DI_DIAG i) (setBit d bit v)).fieldDiag 0x01 i (bit + 1) (ofBool v)

/-- DI_OPEN_WIRE (R359): set only while monitored and OFF. -/
def State.diOpenWire (s : State) (i : Nat) (open_ : Bool) : State :=
  if open_ && (!s.on (E.Di.LINE_MONITOR i) || (s.dinp i).level) then s else s.setDiDiag i 0 open_

/-- RESET_STATS of an input. -/
def State.effDiStats (s : State) (i : Nat) : State := s.clear [E.Di.DI_CHANGES i]
/-- RESET_STATS of an output. -/
def State.effDoStats (s : State) (o : Nat) : State := s.clear [E.Do.SWITCHINGS o, E.Do.TRIPS o]
/-- RESET_STATS at 0x2090. -/
def State.effGrpStats (s : State) : State :=
  s.clear (E.Grp.FIELD_FRAME_ERRORS :: (List.range 8).map E.Grp.GROUP_FAULTS)

/-- FIELD_STATE (Table DIO-11). -/
def State.showField (s : State) : State :=
  let f := s.field
  s.wr E.Grp.FIELD_STATE (if f.hold then 3 else if !f.enable then 2 else if f.silence then 1 else 0)

/-! ## Commands -/

/-- DI_OPEN_WIRE (R359). -/
def execDiOpenWire (at_ i : Nat) (open_ : Bool) (s : State) : Result :=
  .next (if i < 64 then (s.advance at_).diOpenWire i open_ else s.advance at_)
/-- DI_REVERSED (R359). -/
def execDiReversed (at_ i : Nat) (reversed : Bool) (s : State) : Result :=
  .next (if i < 64 then (s.advance at_).setDiDiag i 1 reversed else s.advance at_)
/-- DO_OVERLOAD (R367). -/
def execDoOverload (at_ o : Nat) (atLimit below2V : Bool) (s : State) : Result :=
  .next (if o < 64 then (s.advance at_).doOverload o atLimit below2V else s.advance at_)
/-- DO_OVERTEMP (R367). -/
def execDoOvertemp (at_ o : Nat) (hot : Bool) (s : State) : Result :=
  .next (if o < 64 then (s.advance at_).doOvertemp o hot else s.advance at_)
/-- DO_OPEN_ON (R367). -/
def execDoOpenOn (at_ o : Nat) (open_ : Bool) (s : State) : Result :=
  .next (if o < 64 then (s.advance at_).doOpenOn o open_ else s.advance at_)
/-- DO_OPEN_OFF (R367). -/
def execDoOpenOff (at_ o : Nat) (open_ : Bool) (s : State) : Result :=
  .next (if o < 64 then (s.advance at_).doOpenOff o open_ else s.advance at_)
/-- DO_OFF_VOLTAGE (R367). -/
def execDoOffVoltage (at_ o : Nat) (high : Bool) (s : State) : Result :=
  .next (if o < 64 then (s.advance at_).doOffVoltage o high else s.advance at_)
/-- SHARE_FAULT (R364). -/
def execShareFault (at_ o : Nat) (out : Bool) (s : State) : Result :=
  .next (if o < 64 then (s.advance at_).shareFault o out else s.advance at_)
/-- AUTO_RETRY (R368). -/
def execAutoRetry (at_ o : Nat) (s : State) : Result :=
  .next (if o < 64 then (s.advance at_).autoRetry o else s.advance at_)
/-- GROUP_STATE_CHANGE (R370). -/
def execGroupStateChange (at_ g st : Nat) (s : State) : Result :=
  .next (if g < 8 then (s.advance at_).groupChange g st else s.advance at_)

end Sys2Proof.Machine
end

