-- ==== Sys2Proof/Machine/Analog.lean ====
section
/-!
DEFINITION. Machine/Analog.lean: current-loop inputs and outputs of the field side (R380 to R402).
-/
namespace Sys2Proof.Machine

/-- Input `i` on the field side. -/
def State.ain (s : State) (i : Nat) : AiSt := s.field.ai.fetch {} i
/-- Input `i` replaced. -/
def State.setAin (s : State) (i : Nat) (x : AiSt) : State :=
  { s with field := { s.field with ai := s.field.ai.store {} i x } }
/-- Output `o` on the field side. -/
def State.aout (s : State) (o : Nat) : AoSt := s.field.ao.fetch {} o
/-- Output `o` replaced. -/
def State.setAout (s : State) (o : Nat) (x : AoSt) : State :=
  { s with field := { s.field with ao := s.field.ao.store {} o x } }

/-! ## binary32 constants -/

/-- The binary32 of a number of thousandths. -/
def milli (n : Int) : Nat := fmt32.ofRat n 1000
/-- `x` clamped to `lo`..`hi`. -/
def clampF (lo hi x : Nat) : Nat := fmt32.min hi (fmt32.max lo x)
/-- A finite binary32 as an integer multiple of 2^-149. -/
def f32Int (x : Nat) : Int := fmt32.floorScaled x 149
/-- The mean of binary32 values, computed exactly and rounded once; 0 of none. -/
def meanF (xs : List Nat) : Nat :=
  let n := xs.foldl (fun a x => a + f32Int x) 0
  fmt32.ofRat n (xs.length * 2 ^ 149)

/-! ## Input diagnostics (R383, R384) -/

/-- AI_FAULT_CAUSE: the first present cause (R384). -/
def State.aiCause (s : State) (i : Nat) : Nat :=
  let x := s.ain i
  if s.field.shed then 1
  else if !s.field.bypassOpen then 2
  else if x.settle != 0 then 3
  else if x.offAt.isSome || x.hotOff then 4
  else if x.reversed then 5
  else if x.converter then 6
  else 0

/-- AI_DIAG and AI_FAULT_CAUSE follow the channel; a change of CHANNEL_FAULT or of its cause is reported (R400). -/
def State.showAi (s : State) (i : Nat) : State :=
  let c := s.aiCause i
  let old := s.rd (E.Ai.AI_FAULT_CAUSE i)
  let d := setBit (s.ain i).diag 3 (c != 0)
  let s := if old = 0 && c != 0 then s.inc (E.Ai.FAULT_EVENTS i) else s
  let s := (s.wr (E.Ai.AI_FAULT_CAUSE i) c).wr (E.Ai.AI_DIAG i) d
  if c = old then s else s.fieldDiag 0x05 i 0x43 (ofBool (c != 0) + 2 * c)

/-- Every input shows its state. -/
def State.showAis (s : State) : State := (List.range 32).foldl (fun s i => s.showAi i) s

/-- A bit of an input is set or cleared, with its event (R400); bits 0 to 2 count in FAULT_EVENTS. -/
def State.setAiDiag (s : State) (i bit : Nat) (v : Bool) (event : Nat) : State :=
  let x := s.ain i
  if bitOf x.diag bit == v then s
  else
    let s := s.setAin i { x with diag := setBit x.diag bit v }
    let s := if v && bit < 3 then s.inc (E.Ai.FAULT_EVENTS i) else s
    (s.showAi i).fieldDiag 0x05 i event (ofBool v)

/-- AI_OPEN_WIRE (R383): not evaluated with OPEN_THRESHOLD 0 or in CHANNEL_FAULT. -/
def State.aiOpenWire (s : State) (i : Nat) (open_ : Bool) : State :=
  if open_ && (fmt32.isZero (s.rd (E.Ai.OPEN_THRESHOLD i)) || s.aiCause i != 0) then s else s.setAiDiag i 0 open_ 0x40

/-- AI_SHORT (R383): SHORT and the instant from which it is set (R387). -/
def State.aiShort (s : State) (i : Nat) (short : Bool) : State :=
  let s := s.setAiDiag i 1 short 0x41
  s.setAin i { s.ain i with shortAt := if short then some ((s.ain i).shortAt.getD s.now) else none }

/-- AI_REVERSED (R384). -/
def State.aiReversed (s : State) (i : Nat) (rev : Bool) : State := (s.setAin i { s.ain i with reversed := rev }).showAi i

/-! ## Transmitter supplies (R385 to R388, R398) -/

/-- The supply mode in force (R385). -/
def State.supplyMode (s : State) (i : Nat) : Nat := s.field.supplyModes.fetch 1 i

/-- AI_SUPPLY_MODE takes effect at a frame boundary (R385). -/
def State.applySupplies (s : State) : State :=
  let m := (List.range 32).foldl (fun m i => m.store 1 i (s.rd (E.Ai.AI_SUPPLY_MODE i))) ({} : SMap Nat)
  { s with field := { s.field with supplyModes := m } }

/-- I_peak: the highest current measured in the last 1 s, never below 4.0 mA (R386). -/
def iPeak (x : AiSt) : Nat := x.peak.foldl (fun a p => fmt32.max a p.2) (milli 4000)

/-- TX_VMIN + I_peak × (50 Ω + WIRE_RESISTANCE) + 1.5 V, the current in mA, before its clamp (R386). -/
def State.vTarget (s : State) (i : Nat) : Nat :=
  let r := fmt32.add (milli 50000) (s.rd (E.Ai.WIRE_RESISTANCE i))
  let drop := fmt32.div (fmt32.mul (iPeak (s.ain i)) r) (milli 1000000)
  fmt32.add (fmt32.add (s.rd (E.Ai.TX_VMIN i)) drop) (milli 1500)

/-- SUPPLY_LIMIT: set while the target exceeds 26.0 V, cleared once it has been 26.0 V or below for 1 s (Table ANA-2). -/
def State.noteLimit (s : State) (i : Nat) (above : Bool) : State :=
  let x := s.ain i
  if above then (s.setAin i { x with overAt := some s.now }).setAiDiag i 5 true 0x45
  else match x.overAt with
    | some t0 => if t0 + 1000000000 ≤ s.now then (s.setAin i { x with overAt := none }).setAiDiag i 5 false 0x45 else s
    | none => s

/-- A module that takes over on a twin base applies its own targets once SETTLING ends (R398). -/
def State.ownTarget (s : State) (i : Nat) : Bool := !s.twinBase || (s.field.bypassOpen && (s.ain i).settle == 0)

/-- A target of an enabled supply, lowered under R388 to no less than 8.0 V. -/
def State.setTarget (s : State) (i v : Nat) : State :=
  s.wr (E.Ai.SUPPLY_TARGET i) (fmt32.max (milli 8000) (fmt32.sub v (fmt32.mul (fmt32.ofNat (s.ain i).steps) (milli 500))))

/-- SUPPLY_TARGET and SUPPLY_LIMIT follow mode and measurement (R385, R386); without field enable the partner's target less 0.5 V
(R398). -/
def State.retarget (s : State) (i : Nat) : State :=
  let mode := s.supplyMode i
  if mode = 0 then (s.wr (E.Ai.SUPPLY_TARGET i) 0).noteLimit i false
  else if !s.field.enable then
    (s.wr (E.Ai.SUPPLY_TARGET i) (clampF (milli 8000) (milli 26000) (fmt32.sub (s.ain i).partnerTarget (milli 500)))).noteLimit i false
  else if !s.ownTarget i then s
  else
    let t := if mode = 1 then s.vTarget i else milli 24000
    (s.setTarget i (clampF (milli 8000) (milli 26000) t)).noteLimit i (fmt32.lt (milli 26000) t)

/-- AI_SUPPLY_OFF (R387): SHORT set for 1 s switches the supply off. -/
def State.aiSupplyOff (s : State) (i : Nat) : State :=
  let x := s.ain i
  match x.shortAt with
  | some t => if t + 1000000000 ≤ s.now && x.offAt.isNone then (s.setAin i { x with offAt := some s.now }).showAi i else s
  | none => s

/-- SUPPLY_RETRY (R387): 5 s after it was switched off, the supply restarts from its target. -/
def State.supplyRetry (s : State) (i : Nat) : State :=
  let x := s.ain i
  match x.offAt with
  | some t =>
    if t + 5000000000 ≤ s.now then
      let s := s.setAin i { x with offAt := none, shortAt := x.shortAt.map (fun _ => s.now) }
      ((s.retarget i).showAi i).fieldDiag 0x05 i 0x46 1
    else s
  | none => s

/-- AI_THERMAL_STEP (R388). `zone`: 3 above 160 °C, 2 above 140 °C, 1 from 130 °C to 140 °C, 0 below 130 °C. -/
def State.aiThermal (s : State) (i zone : Nat) : State :=
  let x := s.ain i
  match zone with
  | 3 => ((s.setAin i { x with hotOff := true }).setAiDiag i 4 true 0x44).showAi i
  | 2 =>
    if s.now < x.stepAt + 100000000 then s
    else ((s.setAin i { x with steps := min 36 (x.steps + 1), stepAt := s.now }).setAiDiag i 4 true 0x44).retarget i
  | 1 => s
  | _ => (((s.setAin i { x with hotOff := false, steps := 0 }).retarget i).setAiDiag i 4 false 0x44).showAi i

/-! ## Conversions and trims (R381, R382, R389 to R391) -/

/-- The trimmed current (R389). -/
def State.trimmed (s : State) (i cal : Nat) : Nat :=
  fmt32.mul (fmt32.sub cal (s.rd (E.Ai.TRIM_ZERO i))) (s.rd (E.Ai.TRIM_SPAN i))

/-- The peak list takes a current; what is older than 1 s or not above it falls out (R386). -/
def notePeak (xs : List (Nat × Nat)) (now v : Nat) : List (Nat × Nat) :=
  xs.filter (fun p => now < p.1 + 1000000000 && fmt32.lt v p.2) ++ [(now, v)]

/-- AI_CONVERSION (R381, R382): a window ends at a multiple of 250 µs; the mean travels in the frame that starts there. -/
def State.aiConversion (s : State) (i : Nat) (m : AiMeas) : State :=
  if s.now % 250000 != 0 || !s.field.powered then s
  else
    let x := s.ain i
    let t := s.trimmed i m.cal
    let n := s.rd (E.Ai.AI_AVERAGE i)
    let conv := (t :: x.conv).take 400
    let v := clampF (milli (-500)) (milli 25000) (meanF (conv.take n))
    let cap := x.capture.map (fun c => if c.running then { c with vals := (m.cal :: c.vals).take 400 } else c)
    let s := s.setAin i { x with conv := conv, value := v, settle := x.settle - 1, converter := !m.checks, capture := cap
                                 peak := notePeak x.peak s.now t }
    let s := (s.wr (E.Ai.SUPPLY_VOLTAGE i) m.supply).wr (E.Ai.SUPPLY_STAGE_TEMP i) m.temp
    let p := (List.range 32).foldl (fun a k =>
      fmt32.add a (fmt32.div (fmt32.mul (s.rd (E.Ai.SUPPLY_VOLTAGE k)) (s.ain k).value) (milli 1000000))) 0
    ((s.wr E.Ana.TX_POWER p).retarget i).showAi i

/-- The logic side takes the values of a frame that starts at a multiple of 250 µs (R28, R381). -/
def State.takeAi (s : State) (start : Nat) : State :=
  if start % 250000 != 0 then s else (List.range 32).foldl (fun s i => s.wr (E.Ai.AI_CURRENT i) (s.ain i).value) s

/-- TRIM_CAPTURE is allowed (R390, R391); the write condition STOP of the entry is checked before it. -/
def State.chkTrimCapture (s : State) (i v : Nat) (keys : Bool) : Nat :=
  match v, (s.ain i).capture with
  | 1, none => stOk
  | 1, some c => need (c.keys == keys) stMode
  | 2, some c => need (c.keys == keys && c.first.isSome && !c.running) stMode
  | 2, none => stMode
  | 3, some c => need (c.keys == keys) stMode
  | 3, none => stOk
  | _, _ => stRange

/-- TRIM_CAPTURE takes effect (R390). -/
def State.effTrimCapture (s : State) (i v node : Nat) (keys : Bool) : State :=
  let x := s.ain i
  match v with
  | 1 => (s.setAin i { x with capture := some { point := 1, node := node, keys := keys } }).wr (E.Ai.TRIM_STATE i) 0
  | 2 => s.setAin i { x with capture := x.capture.map (fun c => { c with point := 2, vals := [], running := true, node := node }) }
  | _ => (s.setAin i { x with capture := none }).wr (E.Ai.TRIM_STATE i) 0

/-- The spread of a capture is more than 0.004 mA (R390). -/
def unstable (xs : List Nat) : Bool :=
  let vs := xs.map f32Int
  let hi := vs.foldl max (vs.headD 0)
  let lo := vs.foldl min (vs.headD 0)
  decide (4 * (2 ^ 149 : Nat) < 1000 * (hi - lo))

/-- The ranges of R389. -/
def trimOk (offs span : Nat) : Bool :=
  fmt32.le (milli (-500)) offs && fmt32.le offs (milli 500) && fmt32.le (milli 980) span && fmt32.le span (milli 1020)

/-- The record of an applied trim (R390, R400): source, channel, old and new values, node. -/
def State.logTrim (s : State) (source ch z0 s0 z1 s1 node : Nat) : State :=
  s.log 0x08 0x01 (vU8 source ++ vU8 ch ++ vF32 z0 ++ vF32 s0 ++ vF32 z1 ++ vF32 s1 ++ vU32 node)

/-- TRIM_POINT_DONE (R390): 400 conversions of a point are complete. -/
def State.trimPointDone (s : State) (i : Nat) : State :=
  let x := s.ain i
  match x.capture with
  | none => s
  | some c =>
    if !c.running || c.vals.length < 400 then s
    else if unstable c.vals then (s.setAin i { x with capture := none }).wr (E.Ai.TRIM_STATE i) 3
    else
      let m := meanF c.vals
      match c.point, c.first with
      | 2, some m4 =>
        let span := fmt32.div (milli 16000) (fmt32.sub m m4)
        let offs := fmt32.sub m4 (fmt32.div (milli 4000) span)
        let s := s.setAin i { x with capture := none }
        if trimOk offs span then
          let s := s.logTrim 0x05 i (s.rd (E.Ai.TRIM_ZERO i)) (s.rd (E.Ai.TRIM_SPAN i)) offs span c.node
          ((s.wrR (E.Ai.TRIM_ZERO i) offs).wrR (E.Ai.TRIM_SPAN i) span).wr (E.Ai.TRIM_STATE i) 2
        else s.wr (E.Ai.TRIM_STATE i) 4
      | _, _ =>
        (s.setAin i { x with capture := some { c with first := some m, vals := [], running := false } }).wr (E.Ai.TRIM_STATE i) 1

/-! ## Current outputs (R392 to R396) -/

/-- A bit of AO_DIAG is set or cleared, with its event (R400). -/
def State.setAoDiag (s : State) (o bit : Nat) (v : Bool) (event : Nat) : State :=
  let x := s.aout o
  if bitOf x.diag bit == v then s
  else
    let d := setBit x.diag bit v
    ((s.setAout o { x with diag := d }).wr (E.Ao.AO_DIAG o) d).fieldDiag 0x06 o event (ofBool v)

/-- The current through the output trims (R392). -/
def State.aoSet (s : State) (o cmd : Nat) : Nat :=
  fmt32.add (fmt32.mul cmd (s.rd (E.Ao.AO_TRIM_SPAN o))) (s.rd (E.Ao.AO_TRIM_ZERO o))

/-- The current and AO_OUTPUT_STATE of an output (Table ANA-6). -/
def State.aoDecide (s : State) (o : Nat) : Nat × Nat :=
  let x := s.aout o
  let latch := s.rd (E.Ao.AO_COMMANDED o)
  if !s.field.powered || !s.field.enable then (0, 1)
  else if s.field.shed then (0, 2)
  else if bitOf x.diag 3 then (0, 3)
  else match x.capture with
    | some c => (if c.point = 2 then milli 20000 else milli 4000, 4)
    | none =>
      if s.field.silence then
        (s.aoSet o (match s.rd (E.Ao.AO_SAFE_MODE o) with
          | 0 => 0
          | 1 => latch
          | _ => s.rd (E.Ao.AO_SAFE_VALUE o)), 5)
      else (s.aoSet o latch, 0)

/-- Output `o` takes its current. -/
def State.refreshAo (s : State) (o : Nat) : State :=
  let (v, st) := s.aoDecide o
  (s.setAout o { s.aout o with out := v }).wr (E.Ao.AO_OUTPUT_STATE o) st

/-- Every current output takes its current. -/
def State.refreshAos (s : State) : State := (List.range 16).foldl (fun s o => s.refreshAo o) s

/-- A command arrives at an output's latch (R392). -/
def State.aoCommand (s : State) (o v : Nat) : State :=
  if fmt32.special v then s.setAoDiag o 5 true 0x55
  else
    let s := s.setAoDiag o 5 false 0x55
    let c := clampF 0 (milli 24000) v
    let s := s.setAoDiag o 4 (fmt32.lt v 0 || fmt32.lt (milli 24000) v) 0x54
    s.wr (E.Ao.AO_COMMANDED o) c

/-- R_o: terminal voltage above readback current in kΩ, 0 below 0.1 mA; N_o of R393. -/
def State.aoNeed (s : State) (o : Nat) : Nat :=
  let rb := s.rd (E.Ao.AO_READBACK o)
  let r := if fmt32.lt rb (milli 100) then 0 else fmt32.div (s.rd (E.Ao.AO_TERMINAL_V o)) rb
  fmt32.add (fmt32.mul (fmt32.max (s.rd (E.Ao.AO_COMMANDED o)) rb) r) (milli 1500)

/-- Readback and terminal voltage of outputs, and the rail, as measured; needs, compliance and the output that sets the rail
(R393). -/
def State.measureAo (s : State) (meas : List (Nat × Nat × Nat)) (rail : Nat) : State :=
  let s := meas.foldl (fun s m =>
    if m.1 < 16 then (s.wr (E.Ao.AO_READBACK m.1) m.2.1).wr (E.Ao.AO_TERMINAL_V m.1) m.2.2 else s) s
  let s := (List.range 16).foldl (fun s o => s.wr (E.Ao.AO_NEED o) (s.aoNeed o)) s
  let live := s.field.enable && !s.field.shed
  let top := (List.range 16).foldl (fun b o =>
    match b with
    | none => some o
    | some k => if fmt32.lt (s.rd (E.Ao.AO_NEED k)) (s.rd (E.Ao.AO_NEED o)) then some o else some k) (none : Option Nat)
  let s := (s.wr E.Ana.AO_RAIL_V rail).wr E.Ana.AO_COMPLIANCE_V (if fmt32.isZero rail then 0 else fmt32.sub rail (milli 1500))
  s.wr E.Ana.AO_RAIL_CHANNEL (if live then top.getD 0xFF else 0xFF)

/-- AO_COMPLIANCE (R394): never together with OPEN_WIRE (R395). -/
def State.aoCompliance (s : State) (o : Nat) (short : Bool) : State :=
  if short && bitOf (s.aout o).diag 1 then s
  else
    let s := if short && !bitOf (s.aout o).diag 0 then s.inc (E.Ao.COMPLIANCE_EVENTS o) else s
    s.setAoDiag o 0 short 0x50

/-- AO_OPEN_WIRE (R395): at a command of 1.0 mA or more; COMPLIANCE clears. -/
def State.aoOpenWire (s : State) (o : Nat) (open_ : Bool) : State :=
  if open_ && fmt32.lt (s.rd (E.Ao.AO_COMMANDED o)) (milli 1000) then s
  else
    let s := if open_ then s.setAoDiag o 0 false 0x50 else s
    s.setAoDiag o 1 open_ 0x51

/-- AO_RAIL_FAULT (R395): the common rail, so every output shows it; one event of the rail (R400). -/
def State.aoRailFault (s : State) (fault : Bool) : State :=
  if bitOf (s.aout 0).diag 2 == fault then s
  else
    let s := (List.range 16).foldl (fun s o =>
      let d := setBit (s.aout o).diag 2 fault
      (s.setAout o { s.aout o with diag := d }).wr (E.Ao.AO_DIAG o) d) s
    s.fieldDiag 0x07 0 0x53 (ofBool fault)

/-- AO_OVERTEMP (R395): the output goes to 0 mA, and returns to its latch. -/
def State.aoOvertemp (s : State) (o : Nat) (hot : Bool) : State := (s.setAoDiag o 3 hot 0x52).refreshAo o

/-- AO_TRIM_STEP is allowed (R390, R392). -/
def State.chkAoTrim (s : State) (o v : Nat) (keys : Bool) : Nat :=
  match v, (s.aout o).capture with
  | 1, none => stOk
  | 1, some c => need (c.keys == keys) stMode
  | 2, some c => need (c.keys == keys && c.r1.isSome) stMode
  | 3, some c => need (c.keys == keys && c.r1.isSome && c.r2.isSome) stMode
  | 4, some c => need (c.keys == keys) stMode
  | 4, none => stOk
  | 2, none => stMode
  | 3, none => stMode
  | _, _ => stRange

/-- AO_TRIM_STEP takes effect (R392). -/
def State.effAoTrim (s : State) (o v node : Nat) (keys : Bool) : State :=
  let x := s.aout o
  match v with
  | 1 => ((s.setAout o { x with capture := some { point := 1, node := node, keys := keys } }).wr (E.Ao.AO_TRIM_STATE o) 0).refreshAo o
  | 2 => (s.setAout o { x with capture := x.capture.map (fun c => { c with point := 2, node := node }) }).refreshAo o
  | 3 =>
    match x.capture with
    | some { r1 := some r1, r2 := some r2, .. } =>
      let a := fmt32.div (fmt32.sub r2 r1) (milli 16000)
      let span := fmt32.div (milli 1000) a
      let offs := fmt32.neg (fmt32.div (fmt32.sub r1 (fmt32.mul (milli 4000) a)) a)
      let s := s.setAout o { x with capture := none }
      let s := if trimOk offs span then
          let s := s.logTrim 0x06 o (s.rd (E.Ao.AO_TRIM_ZERO o)) (s.rd (E.Ao.AO_TRIM_SPAN o)) offs span node
          ((s.wrR (E.Ao.AO_TRIM_ZERO o) offs).wrR (E.Ao.AO_TRIM_SPAN o) span).wr (E.Ao.AO_TRIM_STATE o) 2
        else s.wr (E.Ao.AO_TRIM_STATE o) 4
      s.refreshAo o
    | _ => s
  | _ => ((s.setAout o { x with capture := none }).wr (E.Ao.AO_TRIM_STATE o) 0).refreshAo o

/-- AO_TRIM_READING belongs to the point being driven (R392). -/
def State.chkAoReading (s : State) (o : Nat) (keys : Bool) : Nat :=
  match (s.aout o).capture with
  | some c => need (c.keys == keys) stMode
  | none => stMode

/-- AO_TRIM_READING is recorded. -/
def State.effAoReading (s : State) (o v : Nat) : State :=
  let x := s.aout o
  match x.capture with
  | some c =>
    if c.point = 1 then (s.setAout o { x with capture := some { c with r1 := some v } }).wr (E.Ao.AO_TRIM_STATE o) 1
    else s.setAout o { x with capture := some { c with r2 := some v } }
  | none => s

/-! ## The burden bypass and the shed state (R393, R397) -/

/-- ANALOG_STATE (Table ANA-9) and BURDEN_IN_CIRCUIT. -/
def State.showAnalog (s : State) : State :=
  let f := s.field
  let s := s.wr E.Ana.ANALOG_STATE (if f.hold then 3 else if !f.enable then 2 else if f.shed then 1 else 0)
  s.wr E.Ana.BURDEN_IN_CIRCUIT (if f.bypassOpen then 0xFFFFFFFF else 0)

/-- BYPASS_OPEN (R397): 200 µs to 1 ms after the field enable asserts, the burdens come into circuit and settle (R384). -/
def State.bypassOpens (s : State) : State :=
  if !s.field.enable || s.field.bypassOpen || s.now < s.field.enableAt + 200000 then s
  else
    let s := { s with field := { s.field with bypassOpen := true } }
    let s := (List.range 32).foldl (fun s i => s.setAin i { s.ain i with settle := s.rd (E.Ai.AI_AVERAGE i) }) s
    s.showAis.showAnalog

/-- The bypasses close as the field enable deasserts (R397). -/
def State.bypassCloses (s : State) : State :=
  ({ s with field := { s.field with bypassOpen := false } }).showAis.showAnalog

/-- Power-fail detection sheds the analog field side (R393). -/
def State.shedField (s : State) : State :=
  if s.field.shed then s
  else (({ s with field := { s.field with shed := true } }.incR E.Ana.SHED_EVENTS).showAis.refreshAos).showAnalog

/-- RESET_STATS of an input. -/
def State.effAiStats (s : State) (i : Nat) : State := s.clear [E.Ai.FAULT_EVENTS i]
/-- RESET_STATS of an output. -/
def State.effAoStats (s : State) (o : Nat) : State := s.clear [E.Ao.COMPLIANCE_EVENTS o]

/-! ## Commands -/

/-- A command about input `i` of 32. -/
def onAi (at_ i : Nat) (f : State → State) (s : State) : Result := .next (if i < 32 then f (s.advance at_) else s.advance at_)
/-- A command about output `o` of 16. -/
def onAo (at_ o : Nat) (f : State → State) (s : State) : Result := .next (if o < 16 then f (s.advance at_) else s.advance at_)

/-- AI_CONVERSION (R381). -/
def execAiConversion (at_ i : Nat) (m : AiMeas) (s : State) : Result := onAi at_ i (fun s => s.aiConversion i m) s
/-- AI_OPEN_WIRE (R383). -/
def execAiOpenWire (at_ i : Nat) (open_ : Bool) (s : State) : Result := onAi at_ i (fun s => s.aiOpenWire i open_) s
/-- AI_OVER_RANGE (R383). -/
def execAiOverRange (at_ i : Nat) (above : Bool) (s : State) : Result := onAi at_ i (fun s => s.setAiDiag i 2 above 0x42) s
/-- AI_SHORT (R383). -/
def execAiShort (at_ i : Nat) (short : Bool) (s : State) : Result := onAi at_ i (fun s => s.aiShort i short) s
/-- AI_REVERSED (R384). -/
def execAiReversed (at_ i : Nat) (reversed : Bool) (s : State) : Result := onAi at_ i (fun s => s.aiReversed i reversed) s
/-- AI_SUPPLY_OFF (R387). -/
def execAiSupplyOff (at_ i : Nat) (s : State) : Result := onAi at_ i (fun s => s.aiSupplyOff i) s
/-- SUPPLY_RETRY (R387). -/
def execSupplyRetry (at_ i : Nat) (s : State) : Result := onAi at_ i (fun s => s.supplyRetry i) s
/-- AI_THERMAL_STEP (R388). -/
def execAiThermalStep (at_ i zone : Nat) (s : State) : Result := onAi at_ i (fun s => s.aiThermal i zone) s
/-- TRIM_POINT_DONE (R390). -/
def execTrimPointDone (at_ i : Nat) (s : State) : Result := onAi at_ i (fun s => s.trimPointDone i) s
/-- AO_COMPLIANCE (R394). -/
def execAoCompliance (at_ o : Nat) (short : Bool) (s : State) : Result := onAo at_ o (fun s => s.aoCompliance o short) s
/-- AO_OPEN_WIRE (R395). -/
def execAoOpenWire (at_ o : Nat) (open_ : Bool) (s : State) : Result := onAo at_ o (fun s => s.aoOpenWire o open_) s
/-- AO_RAIL_FAULT (R395). -/
def execAoRailFault (at_ : Nat) (fault : Bool) (s : State) : Result := .next ((s.advance at_).aoRailFault fault)
/-- AO_OVERTEMP (R395). -/
def execAoOvertemp (at_ o : Nat) (hot : Bool) (s : State) : Result := onAo at_ o (fun s => s.aoOvertemp o hot) s
/-- BYPASS_OPEN (R397). -/
def execBypassOpen (at_ : Nat) (s : State) : Result := .next ((s.advance at_).bypassOpens)

end Sys2Proof.Machine
end

