-- ==== Sys2Proof/Machine/Kinematics.lean ====
section
/-!
DEFINITION. Machine/Kinematics.lean: the profile generator's arithmetic over one profile tick (R411, R412): displacement and
velocity in binary64, microsteps and seconds. Positions are multiples of 2^-32 microstep.
-/
namespace Sys2Proof.Machine

/-- binary64 of an integer number of nanoseconds, in seconds. -/
def secs (ns : Nat) : Nat := fmt64.ofRat ns 1000000000
/-- Half of a binary64. -/
def half (x : Nat) : Nat := fmt64.mul x 0x3FE0000000000000
/-- Twice a binary64. -/
def twice (x : Nat) : Nat := fmt64.add x x
/-- A displacement in units of 2^-32 microstep. -/
def toFix (d : Nat) : Int := fmt64.nearestScaled d 32
/-- Units of 2^-32 microstep as a binary64. -/
def ofFix (x : Int) : Nat := fmt64.roundInt x (-32)
/-- A value with the sign turned where `neg`. -/
def signed (neg : Bool) (x : Nat) : Nat := if neg && !fmt64.isZero x then fmt64.neg x else x
/-- The value is below 0. -/
def negative (x : Nat) : Bool := fmt64.lt x 0

/-- What a tick gives: displacement, velocity, acceleration, whether the aim is reached, whether the final ramp has begun. -/
structure Adv where
  ds : Nat
  v : Nat
  a : Nat := 0
  done : Bool := false
  ramp : Bool := false
deriving DecidableEq, Repr

/-- Velocity `v` for a time `t` under acceleration `a`. -/
def coast (v a t : Nat) : Adv :=
  { ds := fmt64.add (fmt64.mul v t) (half (fmt64.mul a (fmt64.mul t t))), v := fmt64.add v (fmt64.mul a t), a := a }

/-- Adv with an earlier displacement added. -/
def Adv.after (x : Adv) (d : Nat) : Adv := { x with ds := fmt64.add d x.ds }

/-- From velocity `v` towards `w` of the same sense for a time `dt`: rate A where the speed rises, D where it falls. -/
def towards (v w a d dt : Nat) : Adv :=
  let up := fmt64.lt (fmt64.abs v) (fmt64.abs w)
  let r := if up then a else d
  let gap := fmt64.sub w v
  let t := fmt64.div (fmt64.abs gap) r
  if fmt64.le t dt then
    { ds := fmt64.add (half (fmt64.mul (fmt64.add v w) t)) (fmt64.mul w (fmt64.sub dt t)), v := w, done := true }
  else coast v (signed (negative gap) r) dt

/-- From velocity `v` towards velocity `w`, through rest where the sense changes (TRAPEZOIDAL, R413). -/
def stepVel (v w a d dt : Nat) : Adv :=
  if !fmt64.isZero v && !fmt64.isZero w && negative v != negative w then
    let t0 := fmt64.div (fmt64.abs v) d
    if fmt64.le dt t0 then { coast v (signed (!negative v) d) dt with done := false }
    else (towards 0 w a d (fmt64.sub dt t0)).after (half (fmt64.mul v t0))
  else towards v w a d dt

/-- Stopping distance from speed `v` at deceleration `d` without jerk limit. -/
def stopDist (v d : Nat) : Nat := fmt64.div (fmt64.mul v v) (twice d)

/-- A position move of distance `s ≥ 0` ahead at velocity `v` over a time `dt` (TRAPEZOIDAL, R411, R412). In the final ramp the
deceleration is the one that reaches the target at rest. -/
def stepPos (ramp : Bool) (s v vmax a d dt : Nat) : Adv :=
  if fmt64.isZero s && fmt64.isZero v then { ds := 0, v := 0, done := true }
  else if negative v then
    let t0 := fmt64.div (fmt64.abs v) d
    if fmt64.le dt t0 then coast v d dt
    else { ds := half (fmt64.mul v t0), v := 0 }
  else if ramp && !fmt64.isZero v && !fmt64.isZero s then
    let t := fmt64.div (twice s) v
    -- the last tick: what is left takes no more than this tick but for the rounding of the position
    if fmt64.le t (fmt64.add dt (fmt64.div dt (fmt64.ofNat 64))) then { ds := s, v := 0, done := true }
    else { coast v (fmt64.neg (fmt64.div (fmt64.mul v v) (twice s))) dt with ramp := true }
  else if fmt64.lt s (stopDist v d) then
    -- the target cannot be reached without overshoot: to rest first
    let t0 := fmt64.div v d
    if fmt64.le dt t0 then coast v (fmt64.neg d) dt
    else { ds := half (fmt64.mul v t0), v := 0 }
  else
    let peak2 := fmt64.div (fmt64.add (fmt64.mul (twice s) (fmt64.mul a d)) (fmt64.mul (fmt64.mul v v) d)) (fmt64.add a d)
    let peak := fmt64.sqrt peak2
    let vm := if fmt64.lt vmax v then vmax else fmt64.max v (fmt64.min vmax peak)
    let r := if fmt64.lt vm v then fmt64.neg d else a
    let t1 := fmt64.div (fmt64.abs (fmt64.sub vm v)) (fmt64.abs r)
    let d1 := half (fmt64.mul (fmt64.add v vm) t1)
    let d3 := stopDist vm d
    let d2 := fmt64.max 0 (fmt64.sub (fmt64.sub s d1) d3)
    let t2 := if fmt64.isZero vm then 0 else fmt64.div d2 vm
    let t3 := fmt64.div vm d
    if fmt64.lt dt t1 then coast v r dt
    else
      let u := fmt64.sub dt t1
      if fmt64.lt u t2 then { ds := fmt64.add d1 (fmt64.mul vm u), v := vm }
      else
        let w := fmt64.sub u t2
        if fmt64.lt w t3 then { (coast vm (fmt64.neg d) w).after (fmt64.add d1 d2) with ramp := true }
        else { ds := s, v := 0, done := true }

/-- From velocity `v` and acceleration `a` towards velocity `w` at jerk `j` over a tick: the acceleration rises towards its limit
until what is left of the gap is what the way back to 0 takes. -/
def stepVelJ (v a w lim d j dt : Nat) : Adv :=
  let gap := fmt64.sub w v
  let neg := negative gap
  let jd := fmt64.mul j dt
  if fmt64.le (fmt64.abs gap) (fmt64.mul jd dt) && fmt64.le (fmt64.abs a) (twice jd) then
    { ds := fmt64.mul (half (fmt64.add v w)) dt, v := w, done := true }
  else
    let up := if fmt64.isZero v then true else negative v == neg
    let top := if up then lim else d
    -- acceleration in the sense of the gap
    let b := signed neg a
    let back := fmt64.div (fmt64.mul b b) (twice j)
    let b' := if !negative b && fmt64.le (fmt64.abs gap) back then fmt64.max 0 (fmt64.sub b jd)
              else fmt64.min top (fmt64.add b jd)
    let a' := signed neg b'
    let v' := fmt64.add v (fmt64.mul (half (fmt64.add a a')) dt)
    let ds := fmt64.mul dt (fmt64.add v (fmt64.div (fmt64.mul dt (fmt64.add (twice a) a')) (fmt64.ofNat 6)))
    { ds := ds, v := v', a := a' }

/-- Jerk-limited stopping distance from speed `v` and zero acceleration (R411). -/
def stopDist0 (v d j : Nat) : Nat :=
  if fmt64.le (fmt64.div (fmt64.mul d d) j) v then
    fmt64.mul (half v) (fmt64.add (fmt64.div v d) (fmt64.div d j))
  else fmt64.mul v (fmt64.sqrt (fmt64.div v j))

/-- Jerk-limited stopping distance from speed `v ≥ 0` and acceleration `a`. -/
def stopDistJ (v a d j : Nat) : Nat :=
  let t := fmt64.div (fmt64.abs a) j
  let a2 := half (fmt64.mul (fmt64.abs a) t)
  if negative a then
    -- the ramp began at the speed v + a²/2J, and has covered what its rise of deceleration took
    let v0 := fmt64.add v a2
    let cov := fmt64.sub (fmt64.mul v0 t) (fmt64.div (fmt64.mul j (fmt64.mul t (fmt64.mul t t))) (fmt64.ofNat 6))
    fmt64.max 0 (fmt64.sub (stopDist0 v0 d j) cov)
  else
    let d1 := fmt64.add (fmt64.mul v t) (fmt64.div (fmt64.mul a (fmt64.mul t t)) (fmt64.ofNat 3))
    fmt64.add d1 (stopDist0 (fmt64.add v a2) d j)

/-- A position move under JERK_LIMITED over one tick: towards the speed limit while the axis can still stop, else towards rest;
at rest beside its target by less than a tick's motion, the counter takes the target. -/
def stepPosJ (s v a vmax acc d j dt : Nat) : Adv :=
  let go := stepVelJ v a vmax acc d j dt
  let fits := fmt64.le (stopDistJ go.v go.a d j) (fmt64.sub s go.ds)
  if !negative go.v && fits then { go with done := false }
  else
    let st := stepVelJ v a 0 acc d j dt
    let rest := fmt64.isZero v && fmt64.isZero a
    if rest then { ds := s, v := 0, done := true }
    else
      let left := fmt64.sub s st.ds
      if fmt64.isZero st.v && fmt64.lt (fmt64.abs left) 0x3FF0000000000000 then { ds := s, v := 0, done := true, ramp := true }
      else { st with done := false, ramp := true }

end Sys2Proof.Machine
end

