-- ==== Sys2Proof/Machine/Motion.lean ====
section
/-!
DEFINITION. Machine/Motion.lean: the motion unit and the axes on the field side (R403 to R430).
-/
namespace Sys2Proof.Machine

/-- Axis `a` on the field side. -/
def State.ax (s : State) (a : Nat) : AxisSt := s.motion.axes.fetch {} a
/-- Axis `a` replaced. -/
def State.setAx (s : State) (a : Nat) (x : AxisSt) : State :=
  { s with motion := { s.motion with axes := s.motion.axes.store {} a x } }

/-- The position counter: the position without its fraction (R406, R411). -/
def counter (x : AxisSt) : Int := x.x / 2 ^ 32
/-- A counter as a position. -/
def atCount (n : Int) : Int := n * 2 ^ 32
/-- The range of the counter (R406). -/
def countOk (n : Int) : Bool := decide (-(2 ^ 47) ≤ n) && decide (n < 2 ^ 47)
/-- The axis does not move. -/
def atRest (x : AxisSt) : Bool := fmt64.isZero x.v && fmt64.isZero x.a
/-- binary64 of a binary32. -/
def f64 (x : Nat) : Nat := fmt32.convert fmt64 x

/-! ## Events and results (R417, R429) -/

/-- A MOTION_EVT entry waits for the link (Table MOV-6). -/
def State.motionEvt (s : State) (a kind code code2 ns : Nat) (pos : Int) : State :=
  let x := s.ax a
  let flags := ofBool x.valid + 2 * ofBool x.deferred + 4 * ofBool x.clampedV
  let b := leBytes 1 kind ++ leBytes 1 a ++ leBytes 1 code ++ leBytes 1 code2 ++ leBytes 4 ns ++ leBytes 6 (natOf 48 pos)
    ++ leBytes 1 flags ++ leBytes 1 0
  { s with field := { s.field with motionOut := s.field.motionOut ++ [b] } }

/-- A command ends with a result (Table MOV-3). -/
def State.result (s : State) (a id code : Nat) (code2 : Nat := 0) : State :=
  let x := s.ax a
  let s := s.setAx a { x with lastId := id, lastResult := code, lastAt := s.now, faults := x.faults + ofBool (code == 0x0A) }
  s.motionEvt a 0x01 code code2 id (counter x)

/-- A move's result, where it still has one to give. -/
def State.endMove (s : State) (a code : Nat) (code2 : Nat := 0) : State :=
  match (s.ax a).move with
  | some { id := id, result := some _, .. } => s.result a id code code2
  | _ => s

/-- AXIS_STATE (Table MOV-7). -/
def axisState (x : AxisSt) : Nat :=
  if x.flt then 5
  else if x.homing.isSome then 4
  else match x.move with
    | some m => if m.goal = .rest then (if atRest x then (if x.ena then 1 else 0) else 3) else 2
    | none => if x.ena then 1 else 0

/-- A change of AXIS_STATE is reported. -/
def State.showAxis (s : State) (a : Nat) : State :=
  let x := s.ax a
  let n := axisState x
  if n = x.state then s else (s.setAx a { x with state := n }).motionEvt a 0x03 n 0 0 (counter x)

/-! ## Settings (R405, R408, R414) -/

/-- V_LIM: the lower of 2,000,000 and 1 / (2 × STEP_WIDTH) (R405). -/
def State.vLim (s : State) (a : Nat) : Nat :=
  fmt64.min (fmt64.ofNat 2000000) (fmt64.ofRat 1000000000 (2 * s.rd (E.Ax.STEP_WIDTH a)))

/-- A field of a command, or the setting of its name where it holds 0.0 (R408). -/
def pick (cmd setting : Nat) : Nat := if fmt32.isZero cmd then f64 setting else f64 (fmt32.abs cmd)

/-- The limits of a move: velocity, acceleration, deceleration, jerk, and which of them the command gave itself. -/
def State.limits (s : State) (a : Nat) (c : MotionCmd) (m : Move) : Move :=
  let v := pick c.velocity (s.rd (E.Ax.VEL_MAX a))
  { m with v := fmt64.min v (s.vLim a), a := pick c.accel (s.rd (E.Ax.ACCEL a)), d := pick c.decel (s.rd (E.Ax.DECEL a))
           j := pick c.jerk (s.rd (E.Ax.JERK a)), jerkLimited := s.rd (E.Ax.PROFILE a) == 1
           own := ofBool (!fmt32.isZero c.velocity) + 2 * ofBool (!fmt32.isZero c.accel) + 4 * ofBool (!fmt32.isZero c.decel)
             + 8 * ofBool (!fmt32.isZero c.jerk) }

/-- A move to rest at a deceleration. -/
def State.restMove (s : State) (a id : Nat) (result : Option Nat) (d : Nat) : Move :=
  { id := id, goal := .rest, result := result, v := 0, a := f64 (s.rd (E.Ax.ACCEL a)), d := d, j := f64 (s.rd (E.Ax.JERK a))
    own := 15, jerkLimited := s.rd (E.Ax.PROFILE a) == 1 }

/-- STOP_DECEL, LIMIT_DECEL and HOME_DECEL as binary64. -/
def State.stopDecel (s : State) (a : Nat) : Nat := f64 (s.rd (E.Ax.STOP_DECEL a))
/-- LIMIT_DECEL. -/
def State.limitDecel (s : State) (a : Nat) : Nat := f64 (s.rd (E.Ax.LIMIT_DECEL a))
/-- HOME_DECEL. -/
def State.homeDecel (s : State) (a : Nat) : Nat := f64 (s.rd (E.Ax.HOME_DECEL a))

/-! ## Taking commands (R407 to R410) -/

/-- The task that writes an axis (R407). -/
def State.axisWriter (s : State) (a : Nat) : Option (Nat × Bool) :=
  s.rt.archive.bind (fun r => (r.axes.find? (fun x => x.1 == a)).map (·.2))

/-- The source may command the axis (R407). -/
def State.mayCommand (s : State) (c : MotionCmd) : Bool :=
  !s.inSafe && match s.axisWriter c.axis with
  | some (t, _) => c.source == t
  | none => c.source == 0xFE

/-- 0.0, or a finite value from 1.0 to the setting's largest. -/
def inSetting (x hi : Nat) : Bool :=
  fmt32.isZero x || (!fmt32.special x && fmt32.le 0x3F800000 x && fmt32.le x hi)

/-- The entry's fields are in range (Table MOV-2, R408). -/
def cmdOk (c : MotionCmd) : Bool :=
  let moves := c.command == 1 || c.command == 2
  1 ≤ c.command && c.command ≤ 9 && c.axis < 12 && c.reserved == 0
    && (if c.command = 9 then decide (c.arg % 128 < 24) && c.arg < 256 else c.arg == 0)
    && (moves || c.target == 0)
    && (if moves then inSetting c.velocity 0x49F42400
        else if c.command = 3 then !fmt32.special c.velocity
        else fmt32.isZero c.velocity)
    && inSetting c.accel 0x4E6E6B28 && inSetting c.decel 0x4E6E6B28 && inSetting c.jerk 0x5368D4A5

/-- A 32-byte MOTION_CMD entry (Table MOV-2). -/
def motionOf (b : List Byte) (source : Nat) : MotionCmd :=
  { command := leAt b 0 1, axis := leAt b 1 1, arg := leAt b 2 1, reserved := leAt b 3 1, id := leAt b 4 4
    target := intOf 64 (leAt b 8 8), velocity := leAt b 16 4, accel := leAt b 20 4, decel := leAt b 24 4, jerk := leAt b 28 4
    source := source }

/-- MOVE_ID is assigned: source in [31:24], a count per source that skips 0; an ABORT names a move and takes none (R409). -/
def State.assignMove (s : State) (c : MotionCmd) : State × MotionCmd :=
  if c.command = 6 then (s, c)
  else
    let n := (s.motion.idCount.fetch 0 c.source + 1) % 2 ^ 24
    let n := if n = 0 then 1 else n
    ({ s with motion := { s.motion with idCount := s.motion.idCount.store 0 c.source n } }, { c with id := c.source * 2 ^ 24 + n })

/-- A command is discarded and counted (R407, R408). -/
def State.rejectCmd (s : State) : State := s.inc E.Mot.CMD_REJECTS

/-- AXIS_COMMAND (R407, R408): the entry's own axis; an ABORT is answered once it is decided (R83). -/
def State.effAxisCommand (s : State) (a : Nat) (b : List Byte) : State :=
  let c := motionOf b 0xFE
  if c.axis != a || !cmdOk c || !s.mayCommand c then s.rejectCmd
  else
    let (s, c) := s.assignMove c
    let s := if c.command = 6 then s else s.wr (E.Ax.LAST_ISSUED_MOVE a) c.id
    s.place 42 (.motion c)

/-- AXIS_COMMAND ends with BUSY where MOTION_CMD has no room for it (R51, Table ARC-6). -/
def State.chkAxisRoom (s : State) (a : Nat) (b : List Byte) : Nat :=
  let c := motionOf b 0xFE
  need (c.axis != a || !cmdOk c || !s.mayCommand c || s.room 42 1) 0x0F

/-- The ABORT `c` of an axis is decided: one from the dictionary is answered, the oldest of its move first (R83, R416). -/
def State.decideAbort (s : State) (a : Nat) (c : MotionCmd) (status : Nat) : State :=
  if c.source != 0xFE then s
  else { s with odStatus := status, eop := { s.eop with
    deferred := decideFirst (fun d => d.motion && d.board == a && d.solveId == c.id) status s.eop.deferred } }

/-- A command is discarded on the field side: an ABORT has come too late (R83). -/
def State.dropCmd (s : State) (a : Nat) (c : MotionCmd) : State := if c.command = 6 then s.decideAbort a c 0x38 else s

/-- The front entry of MOTION_CMD (R407). -/
def State.nextCmd (s : State) : Option MotionCmd :=
  match (s.ring 42).q with
  | .motion c :: _ => some c
  | _ => none

/-- Entries that no command code names are discarded (R408). -/
def State.dropUnknown : Nat → State → State
  | 0, s => s
  | n + 1, s =>
    match s.nextCmd with
    | some c => if 1 ≤ c.command && c.command ≤ 9 then s else State.dropUnknown n ((s.pop 42).1.rejectCmd)
    | none => s

/-- The motion unit takes the next entry, where it holds command `code` (R410): into the first field frame that starts at least
5 µs later. -/
def State.takeCmd (s : State) (code : Nat) : State :=
  let s := s.dropUnknown 256
  match s.nextCmd with
  | none => s
  | some c =>
    if c.command != code then s
    else
      let s := (s.pop 42).1
      if !s.mayCommand c || !cmdOk c then s.rejectCmd.dropCmd c.axis c
      else
        let f := ceilDiv (s.now + 5000) 50000 * 50000
        let x := s.ax c.axis
        s.setAx c.axis { x with transit := x.transit ++ [(c, f)] }

/-- A field frame that starts at `start` brings its segments to the field side (R410). -/
def State.segments (s : State) (start : Nat) : State :=
  (List.range 12).foldl (fun s a =>
    let x := s.ax a
    if x.transit.isEmpty then s
    else s.setAx a { x with inbox := x.inbox ++ (x.transit.filter (fun t => t.2 ≤ start)).map (·.1)
                            transit := x.transit.filter (fun t => start < t.2) }) s

/-! ## Enable, position validity -/

/-- POS_VALID is lost; the loss is reported (R429). -/
def State.loseValid (s : State) (a : Nat) : State :=
  let x := s.ax a
  if !x.valid then s else (s.setAx a { x with valid := false }).motionEvt a 0x03 x.state 0 0 (counter x)

/-- ENA is deasserted at rest: RETENTION decides about the position (R423). -/
def State.enaOff (s : State) (a : Nat) : State :=
  let x := s.ax a
  let s := s.setAx a { x with ena := false, goAt := none }
  if x.ena && s.rd (E.Ax.RETENTION a) == 1 then s.loseValid a else s

/-- Steps stop at once. -/
def State.halt (s : State) (a : Nat) : State := s.setAx a { s.ax a with v := 0, a := 0, move := none, homing := none, goAt := none }

/-! ## Homing (R420 to R422) -/

/-- The reference input is active by its filtered state. -/
def State.refActive (s : State) (a : Nat) : Bool :=
  let i := s.rd (E.Ax.REF_INPUT a)
  i < 64 && ((s.dinp i).level == (s.rd (E.Ax.REF_EDGE a) == 0))

/-- A velocity move of a homing, in `HOME_DIR` or against it. -/
def State.homeMove (s : State) (a id vel : Nat) (against : Bool) : Move :=
  let neg := (s.rd (E.Ax.HOME_DIR a) == 1) != against
  let v := fmt64.min (f64 vel) (s.vLim a)
  { id := id, goal := .vel (signed neg v), result := none, v := v, a := f64 (s.rd (E.Ax.ACCEL a)), d := s.homeDecel a
    j := f64 (s.rd (E.Ax.JERK a)), own := 15, jerkLimited := s.rd (E.Ax.PROFILE a) == 1 }

/-- A homing phase begins (Table MOV-5): travel is counted from here. -/
def State.homePhase (s : State) (a : Nat) (h : Homing) (p : HomePhase) : State :=
  let x := s.ax a
  let slow := s.rd (E.Ax.HOME_SLOW_VEL a)
  let h := { h with phase := p, from_ := x.x, braking := false
                    inactive := if p = .backoff && !s.refActive a then some s.now else none }
  let m := match p with
    | .search => s.homeMove a h.id (s.rd (E.Ax.HOME_FAST_VEL a)) false
    | .backoff => s.homeMove a h.id slow true
    | .approach => s.homeMove a h.id slow false
    | .failing => s.restMove a h.id none (s.homeDecel a)
  s.setAx a { x with homing := some h, move := some m }

/-- The phase's end is met: the axis comes to rest at HOME_DECEL. -/
def State.homeBrake (s : State) (a : Nat) (h : Homing) : State :=
  s.setAx a { s.ax a with homing := some { h with braking := true }, move := some (s.restMove a h.id none (s.homeDecel a)) }

/-- Homing fails with a cause (R421, R422): the axis comes to rest, POS_VALID stays false. -/
def State.homeFail (s : State) (a : Nat) (h : Homing) (cause : Nat) : State :=
  (s.homePhase a { h with cause := cause } .failing).loseValid a

/-- Homing ends with result `code` at once, the axis in motion or not. -/
def State.homeEnd (s : State) (a code cause : Nat) : State :=
  match (s.ax a).homing with
  | none => s
  | some h => ((s.setAx a { s.ax a with homing := none, move := none, failCause := cause }).loseValid a).result a h.id code cause

/-- HOME starts (Table MOV-5, START). -/
def State.homeStart (s : State) (a id : Nat) : State :=
  let x := s.ax a
  let m := s.rd (E.Ax.HOME_METHOD a)
  let s := s.setAx a { x with failCause := 0, moves := if m = 2 || 23 < s.rd (E.Ax.REF_INPUT a) then x.moves else x.moves + 1 }
  let h : Homing := { id := id, method := m, phase := .search, from_ := x.x }
  if m = 2 then
    let p := atCount (intOf 64 (s.rd (E.Ax.HOME_POSITION a)))
    (s.setAx a { s.ax a with x := p, valid := true }).result a id 0x03
  else
    let s := s.loseValid a
    if 23 < s.rd (E.Ax.REF_INPUT a) then
      (s.setAx a { s.ax a with failCause := 1 }).result a id 0x0B 1
    else if s.refActive a then s.homePhase a h .backoff
    else s.homePhase a h (if m = 0 then .search else .approach)

/-- At rest, a homing passes to its next phase or ends (Table MOV-5). -/
def State.homeRest (s : State) (a : Nat) (h : Homing) : State :=
  match h.phase with
  | .search => s.homePhase a h .backoff
  | .backoff => s.homePhase a { h with latched := none } .approach
  | .approach =>
    let x := s.ax a
    let l := (h.latched.map (·.1)).getD (counter x)
    let p := atCount (intOf 64 (s.rd (E.Ax.HOME_POSITION a))) + (x.x - atCount l)
    (s.setAx a { x with x := p, valid := true, homing := none, move := none, restAt := s.now }).result a h.id 0x03
  | .failing =>
    let x := s.ax a
    (s.setAx a { x with homing := none, move := none, failCause := h.cause, restAt := s.now }).result a h.id 0x0B h.cause

/-- Homing at a tick: NO_REFERENCE beyond HOME_MAX_TRAVEL, the debounce of BACKOFF, rest (Table MOV-5, R421). -/
def State.homeTick (s : State) (a : Nat) : State :=
  let x := s.ax a
  match x.homing with
  | none => s
  | some h =>
    if (h.braking || h.phase = .failing) then (if atRest x then s.homeRest a h else s)
    else if ((s.rd (E.Ax.HOME_MAX_TRAVEL a) : Nat) : Int) * 2 ^ 32 < ((x.x - h.from_).natAbs : Int) then s.homeFail a h 1
    else match h.phase, h.inactive with
      | .backoff, some t => if t + 1000000 * s.rd (E.Ax.HOME_DEBOUNCE a) ≤ s.now then s.homeBrake a h else s
      | _, _ => s

/-! ## Starting a command at a tick (R412, R413, R416 to R418) -/

/-- The axis takes a move; what it replaces ends REPLACED (R412); VEL_CLAMPED where the speed asked exceeds V_LIM (R405). -/
def State.startMove (s : State) (a : Nat) (m : Move) (asked : Nat) : State :=
  let s := s.endMove a 0x08
  let x := s.ax a
  s.setAx a { x with move := some m, deferred := false, moves := x.moves + 1
                     clampedV := fmt64.lt (s.vLim a) asked }

/-- A limit in the direction of travel is active (R418). -/
def blocked (x : AxisSt) (neg : Bool) : Bool := if neg then x.limNeg else x.limPos

/-- A refused command ends with its cause (Table MOV-3). -/
def State.refuse (s : State) (a id cause : Nat) : State := s.result a id 0x0C cause

/-- A command that asks for motion: ENA, and AUTO_ENABLE (R417). -/
def State.autoEnable (s : State) (a : Nat) : State :=
  let x := s.ax a
  if x.ena then s else s.setAx a { x with ena := true, goAt := some (s.now + 1000000 * s.rd (E.Ax.ENABLE_DELAY a)) }

/-- ABORT (R416). -/
def State.actAbort (s : State) (a : Nat) (c : MotionCmd) : State :=
  let x := s.ax a
  let id := c.id
  let homing := x.homing.any (fun h => h.id == id)
  let moving := x.move.any (fun m => m.id == id && m.result.isSome)
  if homing then
    let s := (s.homeEnd a 0x11 0).decideAbort a c 0x00
    s.setAx a { s.ax a with move := some (s.restMove a id none (s.stopDecel a)) }
  else if moving then
    let s := (s.endMove a 0x11).decideAbort a c 0x00
    s.setAx a { s.ax a with move := some (s.restMove a id none (s.stopDecel a)) }
  else (s.result a id 0x38).decideAbort a c 0x38

/-- A position move (R417, R418, R412). -/
def State.actPos (s : State) (a : Nat) (c : MotionCmd) (target : Int) : State :=
  let x := s.ax a
  if !x.valid then s.refuse a c.id 2
  else if !countOk target then s.refuse a c.id 4
  else
    let neg := decide (atCount target < x.x)
    if blocked x neg && atCount target != x.x then s.refuse a c.id 3
    else
      let s := s.autoEnable a
      let m := s.limits a c { id := c.id, goal := .pos target, result := some 0x00, v := 0, a := 0, d := 0, j := 0 }
      s.startMove a m (pick c.velocity (s.rd (E.Ax.VEL_MAX a)))

/-- MOVE_VEL (R413). -/
def State.actVel (s : State) (a : Nat) (c : MotionCmd) : State :=
  let x := s.ax a
  let v := f64 c.velocity
  let neg := negative v
  if blocked x neg && !fmt64.isZero v then s.refuse a c.id 3
  else
    let s := s.autoEnable a
    let lim := fmt64.min (fmt64.abs v) (s.vLim a)
    let m := s.limits a { c with velocity := 0 } { id := c.id, goal := .vel (signed neg lim), result := some 0x01, v := 0, a := 0, d := 0, j := 0 }
    s.startMove a { m with v := lim, own := m.own ||| 1 } (fmt64.abs v)

/-- HOME (R418, R420). -/
def State.actHome (s : State) (a : Nat) (c : MotionCmd) : State :=
  let x := s.ax a
  let still := s.rd (E.Ax.HOME_METHOD a) == 2
  let neg := (s.rd (E.Ax.HOME_DIR a) == 1) != s.refActive a
  let refLimit := (s.rd (if neg then E.Ax.LIMIT_NEG_INPUT a else E.Ax.LIMIT_POS_INPUT a)) == s.rd (E.Ax.REF_INPUT a)
  if !still && blocked x neg && !refLimit then s.refuse a c.id 3
  else
    let s := (s.autoEnable a).endMove a 0x08
    let s := s.setAx a { s.ax a with move := none, deferred := false }
    s.homeStart a c.id

/-- STOP: homing ends ABORTED (R422), the axis comes to rest (R413). -/
def State.actStop (s : State) (a : Nat) (c : MotionCmd) (disable : Bool) : State :=
  let s := if (s.ax a).homing.isSome then s.homeEnd a 0x11 0 else s.endMove a 0x08
  let d := if fmt32.isZero c.decel then s.stopDecel a else f64 c.decel
  let m := s.restMove a c.id (some (if disable then 0x04 else 0x02)) d
  s.setAx a { s.ax a with move := some { m with disable := disable } }

/-- One command acts at a tick. -/
def State.act (s : State) (a : Nat) (c : MotionCmd) : State :=
  let x := s.ax a
  let quiet := !s.field.enable
  if s.field.silence || s.field.hold then (s.result a c.id 0x0A).dropCmd a c
  else if x.flt && c.command != 8 then (s.refuse a c.id 5).dropCmd a c
  else if x.homing.isSome && [1, 2, 3, 5].contains c.command then s.refuse a c.id 6
  else if !x.ena && [1, 2, 3, 5].contains c.command && (quiet || !s.on (E.Ax.AUTO_ENABLE a)) then s.refuse a c.id 1
  else match c.command with
    | 1 => s.actPos a c c.target
    | 2 => s.actPos a c (counter x + c.target)
    | 3 => s.actVel a c
    | 4 => s.actStop a c false
    | 5 => s.actHome a c
    | 6 => s.actAbort a c
    | 7 => if quiet then s.refuse a c.id 1 else (s.setAx a { x with ena := true, restAt := s.now }).result a c.id 0x04
    | 8 =>
      if atRest x && x.homing.isNone then
        let s := (s.endMove a 0x08).enaOff a
        (s.setAx a { s.ax a with move := none }).result a c.id 0x04
      else s.actStop a c true
    | _ => (s.setAx a { x with armed := some (c.arg % 32, bitOf c.arg 7, c.id) }).result a c.id 0x04

/-- The commands that have arrived act in ring order; of those that act at one tick only the last starts (R412). -/
def State.actAll (s : State) (a : Nat) : State :=
  let x := s.ax a
  let s := x.inbox.foldl (fun s c => (s.act a c).showAxis a) (s.setAx a { x with inbox := [] })
  s.setAx a { s.ax a with moves := min (s.ax a).moves (x.moves + 1) }

/-! ## The tick (R411, R415) -/

/-- Motion of an axis over `dt` nanoseconds: displacement, velocity, acceleration, aim reached, final ramp. -/
def advance1 (x : AxisSt) (dt : Nat) : Option Adv :=
  match x.move with
  | none => none
  | some m =>
    if x.goAt.isSome && m.goal != .rest then none
    else
      let t := secs dt
      match m.goal with
      | .rest => some (if m.jerkLimited then stepVelJ x.v x.a 0 m.a m.d m.j t else stepVel x.v 0 m.a m.d t)
      | .vel w => some (if m.jerkLimited then stepVelJ x.v x.a w m.a m.d m.j t else stepVel x.v w m.a m.d t)
      | .pos target =>
        let gap := atCount target - x.x
        let neg := decide (gap < 0) || (gap == 0 && negative x.v)
        let sg := fun b => signed neg b
        let r := if m.jerkLimited then stepPosJ (ofFix gap.natAbs) (sg x.v) (sg x.a) m.v m.a m.d m.j t
                 else stepPos m.ramp (ofFix gap.natAbs) (sg x.v) m.v m.a m.d t
        some { r with ds := sg r.ds, v := sg r.v, a := sg r.a }

/-- The position of an axis at an instant after its last tick (R419). -/
def State.posAt (s : State) (a now : Nat) : Int :=
  let x := s.ax a
  match advance1 x (min 10000 (now - s.motion.tickAt)) with
  | none => x.x
  | some r =>
    match r.done, x.move with
    | true, some { goal := .pos t, .. } => atCount t
    | _, _ => x.x + toFix r.ds

/-- A move meets its aim (R415): its commit is reported; a velocity move goes on without a result. -/
def State.commitMove (s : State) (a : Nat) (m : Move) : State :=
  match m.goal with
  | .vel _ =>
    if m.result.isNone then s
    else
      let s := s.endMove a 0x01
      s.setAx a { s.ax a with move := some { m with result := none } }
  | .pos _ =>
    let s := s.endMove a 0x00
    s.setAx a { s.ax a with move := none, restAt := s.now }
  | .rest =>
    if (s.ax a).homing.isSome then s
    else
      let s := if m.disable then s.enaOff a else s
      let s := s.endMove a (m.result.getD 0x02)
      s.setAx a { s.ax a with move := none, restAt := s.now }

/-- An axis moves over the tick that ends now. -/
def State.moveAxis (s : State) (a : Nat) : State :=
  let x := s.ax a
  match x.move, advance1 x 10000 with
  | some m, some r =>
    let p := match r.done, m.goal with
      | true, .pos t => atCount t
      | _, _ => x.x + toFix r.ds
    let n := (p / 2 ^ 32 - counter x).natAbs
    let s := s.setAx a { x with x := p, v := r.v, a := r.a, steps := min (2 ^ 64 - 1) (x.steps + n)
                                move := some { m with ramp := r.ramp } }
    if r.done then s.commitMove a { m with ramp := r.ramp } else s
  | _, _ => s

/-- The stopping distance of an axis from its actual velocity and acceleration (R411). -/
def stopAhead (jerkLimited : Bool) (x : AxisSt) (d j : Nat) : Nat :=
  if jerkLimited then stopDistJ (fmt64.abs x.v) (signed (negative x.v) x.a) d j else stopDist (fmt64.abs x.v) d

/-- A limit in the direction of travel stops the axis (R418, R422); a velocity move stays within the counter (R406). -/
def State.limitStop (s : State) (a : Nat) : State :=
  let x := s.ax a
  if atRest x then s
  else
    let neg := negative x.v
    let input := s.rd (if neg then E.Ax.LIMIT_NEG_INPUT a else E.Ax.LIMIT_POS_INPUT a)
    let hit := blocked x neg
    match x.homing, x.move with
    | some h, _ => if hit && input != s.rd (E.Ax.REF_INPUT a) && h.phase != .failing then s.homeFail a h 2 else s
    | none, some m =>
      let room := if neg then x.x - atCount (-(2 ^ 47)) else atCount (2 ^ 47 - 1) - x.x
      let dist := stopAhead m.jerkLimited x (s.limitDecel a) m.j
      let edge := (match m.goal with
        | .vel _ => true
        | _ => false) && decide (room ≤ toFix dist + toFix (fmt64.mul (fmt64.abs x.v) (secs 20000)))
      if (hit || edge) && !m.clamped then
        let result := if m.goal = .rest && m.result.isNone then none else some 0x09
        s.setAx a { x with move := some { s.restMove a m.id result (s.limitDecel a) with clamped := true, disable := m.disable } }
      else s
    | none, none => s

/-- PROFILE_TICK (R410, R411): every 10 µs each axis moves, then commands act. -/
def State.profileTick (s : State) : State :=
  if s.now % 10000 != 0 || s.now ≤ s.motion.tickAt || !s.field.powered then s
  else
    let s := { s with motion := { s.motion with tickAt := s.now } }
    (List.range 12).foldl (fun s a =>
      let s := (((s.moveAxis a).homeTick a).limitStop a).showAxis a
      s.actAll a) s

/-! ## Events on the field side -/

/-- The limit states follow the filtered inputs (R418); a limit that becomes active fails a homing (R422). -/
def State.readLimits (s : State) : State :=
  (List.range 12).foldl (fun s a =>
    let x := s.ax a
    let active := fun i : Nat => decide (i < 64) && ((s.dinp i).level == (s.rd (E.Ax.LIMIT_ACTIVE_LEVEL a) == 1))
    let p := active (s.rd (E.Ax.LIMIT_POS_INPUT a))
    let n := active (s.rd (E.Ax.LIMIT_NEG_INPUT a))
    if p == x.limPos && n == x.limNeg then s
    else
      let ref := s.rd (E.Ax.REF_INPUT a)
      let fresh := (p && !x.limPos && s.rd (E.Ax.LIMIT_POS_INPUT a) != ref) || (n && !x.limNeg && s.rd (E.Ax.LIMIT_NEG_INPUT a) != ref)
      let s := s.setAx a { x with limPos := p, limNeg := n }
      match x.homing with
      | some h => if fresh && h.phase != .failing then s.homeFail a h 2 else s
      | none => s) s

/-- An edge on a fast input meets the homing of an axis (R420, R421). -/
def State.homeEdge (s : State) (a i : Nat) (rising : Bool) : State :=
  match (s.ax a).homing with
  | none => s
  | some h =>
    if s.rd (E.Ax.REF_INPUT a) != i then s
    else
      let act := rising == (s.rd (E.Ax.REF_EDGE a) == 0)
      let quiet := match h.latched with
        | some (_, t) => decide (s.now < t + 1000000 * s.rd (E.Ax.HOME_DEBOUNCE a))
        | none => false
      let note := fun h : Homing => { h with latched := some (s.posAt a s.now / 2 ^ 32, s.now) }
      match h.phase with
        | .search => if act && !h.braking && !quiet then s.homeBrake a (note h) else s
        | .approach => if act && !h.braking && !quiet then s.homeBrake a (note h) else s
        | .backoff => s.setAx a { s.ax a with homing := some { h with inactive := if act then none else some s.now } }
        | .failing => s

/-- LATCH_EDGE (R360, R419): the edge is stamped to 20 ns; an armed latch of that edge captures the counter and disarms. -/
def State.latchEdge (s : State) (i : Nat) (rising : Bool) : State :=
  if 24 ≤ i || !s.field.powered then s
  else
    let s := s.wrT (E.Di.LAST_EDGE_TB3 i) ((s.now / 20 * 20 : Nat) : Int)
    (List.range 12).foldl (fun s a =>
      let x := s.ax a
      let s := match x.armed with
        | some (k, falling, _) =>
          if k == i && falling != rising then
            let p := s.posAt a s.now / 2 ^ 32
            let t := s.now / 20 * 20
            (s.setAx a { x with armed := none, latchPos := p, latchAt := t }).motionEvt a 0x02 i 0 (t % 1000000000) p
          else s
        | none => s
      s.homeEdge a i rising) s

/-- FLT_ASSERTED (R424). -/
def State.fltAsserted (s : State) (a : Nat) : State :=
  let x := s.ax a
  if x.flt then s
  else
    let s := s.setAx a { x with flt := true }
    let s := if x.homing.isSome then s.homeEnd a 0x0B 3 else s.endMove a 0x0A
    let s := ((s.halt a).loseValid a)
    let s := s.setAx a { s.ax a with ena := false, inbox := [] }
    let s := x.inbox.foldl (fun s c => (s.refuse a c.id 5).dropCmd a c) s
    (s.showAxis a).fieldDiag 0x08 a 0x60 1

/-- FLT_RELEASED (R424): after 100 ms without FLT the axis accepts commands again. -/
def State.fltReleased (s : State) (a : Nat) : State :=
  let x := s.ax a
  if !x.flt then s else ((s.setAx a { x with flt := false }).showAxis a).fieldDiag 0x08 a 0x60 0

/-- IDLE_DISABLE (R423). -/
def State.idleDisable (s : State) (a : Nat) : State :=
  let x := s.ax a
  let d := s.rd (E.Ax.IDLE_DISABLE a)
  if d != 0 && x.ena && atRest x && x.move.isNone && x.homing.isNone && x.restAt + 1000000 * d ≤ s.now then (s.enaOff a).showAxis a else s

/-- ENABLE_DELAY (R417): the first step may follow. -/
def State.enableDelay (s : State) (a : Nat) : State :=
  let x := s.ax a
  match x.goAt with
  | some t => if t ≤ s.now then s.setAx a { x with goAt := none } else s
  | none => s

/-- The axes on entry into SILENCE (R425): running moves end FAULT, segments on the field side are discarded. -/
def State.axesSilence (s : State) : State :=
  (List.range 12).foldl (fun s a =>
    let x := s.ax a
    let s := x.inbox.foldl (fun s c => (s.result a c.id 0x0A).dropCmd a c) (s.setAx a { x with inbox := [] })
    let s := if x.homing.isSome then s.homeEnd a 0x0A 0 else s.endMove a 0x0A
    let mode := s.rd (E.Ax.AXIS_SAFE_MODE a)
    let s :=
      if mode = 2 then
        ((s.halt a).setAx a { (s.halt a).ax a with ena := false }).loseValid a
      else if atRest x then (if mode = 1 then s.enaOff a else s).setAx a { (if mode = 1 then s.enaOff a else s).ax a with move := none }
      else s.setAx a { s.ax a with move := some { s.restMove a 0 none (s.stopDecel a) with disable := mode == 1 } }
    s.showAxis a) s

/-- The axes as the field enable deasserts (R426). -/
def State.axesDisable (s : State) : State :=
  (List.range 12).foldl (fun s a =>
    let x := s.ax a
    let kept := atRest x && x.move.isNone && x.homing.isNone && s.rd (E.Ax.RETENTION a) == 0
    let s := if x.homing.isSome then s.homeEnd a 0x0A 0 else s.endMove a 0x0A
    let s := s.halt a
    let s := s.setAx a { s.ax a with ena := false }
    (if kept then s else s.loseValid a).showAxis a) s

/-- STOP_ACTION SAFE of the axes whose writer is a task (R427). -/
def State.axesStop (s : State) : State :=
  match s.rt.archive with
  | none => s
  | some r => (r.axes.filter (fun x => !x.2.2)).foldl (fun s w =>
      let a := w.1
      let x := s.ax a
      if x.homing.isNone && x.move.isNone then s
      else (s.actStop a { command := 4, axis := a, id := 0 } false).showAxis a) s

/-! ## The status that a frame brings to the logic side (R417) -/

/-- The entries of an axis follow its status. -/
def State.takeAxis (s : State) (a : Nat) : State :=
  let x := s.ax a
  let s := (((s.wr (E.Ax.AXIS_STATE a) x.state).wrI (E.Ax.POSITION a) (counter x)).wr (E.Ax.POS_VALID a) (ofBool x.valid)).wr
    (E.Ax.VELOCITY a) (fmt64.convert fmt32 x.v)
  let flags := ofBool x.ena + 2 * ofBool x.flt + 4 * ofBool x.limPos + 8 * ofBool x.limNeg + 16 * ofBool x.deferred
    + 32 * ofBool x.clampedV + 64 * ofBool x.armed.isSome
  let s := ((s.wr (E.Ax.AXIS_FLAGS a) flags).wr (E.Ax.LAST_MOVE_ID a) x.lastId).wr (E.Ax.LAST_RESULT a) x.lastResult
  let s := s.wr (E.Ax.LAST_RESULT_TB3 a) (if x.lastResult = 0xFF then 0 else time96ns x.lastAt)
  let s := (s.wrI (E.Ax.LATCH_POSITION a) x.latchPos).wr (E.Ax.LATCH_TB3 a) (if x.latchAt = 0 then 0 else time96ns x.latchAt)
  let s := ((s.wr (E.Ax.HOME_FAIL_CAUSE a) x.failCause).wr (E.Ax.STEPS_EMITTED a) x.steps)
  (s.wr (E.Ax.MOVES a) (min x.moves 0xFFFFFFFF)).wr (E.Ax.FAULTS a) (min x.faults 0xFFFFFFFF)

/-- Every axis that has a status; MOTION_EVT and AXES_MOVING (R417, R429). -/
def State.takeAxes (s : State) : State :=
  let s := (List.range 12).foldl (fun s a => if s.ax a == {} then s else s.takeAxis a) s
  let m := (List.range 12).foldl (fun n a => n + ofBool ([2, 3, 4].contains (s.rd (E.Ax.AXIS_STATE a))) * 2 ^ a) 0
  let s := s.wr E.Mot.AXES_MOVING m
  let out := s.field.motionOut
  out.foldl (fun s b => s.place 43 (.bytes b)) { s with field := { s.field with motionOut := [] } }

/-! ## Setting writes (R414, R430) -/

/-- A limit, reference or homing entry is not written while the axis is homing (R430). -/
def State.chkHomingEntry (s : State) (a : Nat) : Nat := need (s.rd (E.Ax.AXIS_STATE a) != 4) stMode

/-- VEL_MAX, ACCEL, DECEL or JERK applies to the move in progress, or is deferred in a final ramp (R414). -/
def State.effAxisSetting (s : State) (a : Nat) : State :=
  let x := s.ax a
  match x.move with
  | none => s
  | some m =>
    if x.homing.isSome || m.goal = .rest then s
    else
      let new := { m with
        v := if bitOf m.own 0 then m.v else fmt64.min (f64 (s.rd (E.Ax.VEL_MAX a))) (s.vLim a)
        a := if bitOf m.own 1 then m.a else f64 (s.rd (E.Ax.ACCEL a))
        d := if bitOf m.own 2 then m.d else f64 (s.rd (E.Ax.DECEL a))
        j := if bitOf m.own 3 then m.j else f64 (s.rd (E.Ax.JERK a)) }
      match m.goal with
      | .pos t =>
        let gap := ofFix ((atCount t - x.x).natAbs : Int)
        let dist := stopAhead m.jerkLimited x new.d new.j
        let x := { x with clampedV := if bitOf m.own 0 then x.clampedV else fmt64.lt (s.vLim a) (f64 (s.rd (E.Ax.VEL_MAX a))) }
        if m.ramp && fmt64.lt gap dist then s.setAx a { x with deferred := true }
        else s.setAx a { x with move := some { new with ramp := false } }
      | _ => s.setAx a { x with move := some new }

/-- RESET_STATS of an axis. -/
def State.effAxStats (s : State) (a : Nat) : State :=
  (s.setAx a { s.ax a with steps := 0, moves := 0, faults := 0 }).clear [E.Ax.STEPS_EMITTED a, E.Ax.MOVES a, E.Ax.FAULTS a]

/-! ## Commands -/

/-- A command about axis `a` of 12. -/
def onAxis (at_ a : Nat) (f : State → State) (s : State) : Result := .next (if a < 12 then f (s.advance at_) else s.advance at_)

/-- MOVE_ABS (R411). -/
def execMoveAbs (at_ : Nat) (s : State) : Result := .next ((s.advance at_).takeCmd 1)
/-- MOVE_REL (R411). -/
def execMoveRel (at_ : Nat) (s : State) : Result := .next ((s.advance at_).takeCmd 2)
/-- MOVE_VEL (R413). -/
def execMoveVel (at_ : Nat) (s : State) : Result := .next ((s.advance at_).takeCmd 3)
/-- AXIS_STOP (R413). -/
def execAxisStop (at_ : Nat) (s : State) : Result := .next ((s.advance at_).takeCmd 4)
/-- AXIS_HOME (R420). -/
def execAxisHome (at_ : Nat) (s : State) : Result := .next ((s.advance at_).takeCmd 5)
/-- AXIS_ABORT (R416). -/
def execAxisAbort (at_ : Nat) (s : State) : Result := .next ((s.advance at_).takeCmd 6)
/-- AXIS_ENABLE (R423). -/
def execAxisEnable (at_ : Nat) (s : State) : Result := .next ((s.advance at_).takeCmd 7)
/-- AXIS_DISABLE (R423). -/
def execAxisDisable (at_ : Nat) (s : State) : Result := .next ((s.advance at_).takeCmd 8)
/-- LATCH_ARM (R419). -/
def execLatchArm (at_ : Nat) (s : State) : Result := .next ((s.advance at_).takeCmd 9)
/-- PROFILE_TICK (R411). -/
def execProfileTick (at_ : Nat) (s : State) : Result := .next ((s.advance at_).profileTick)
/-- LATCH_EDGE (R360). -/
def execLatchEdge (at_ i : Nat) (rising : Bool) (s : State) : Result := .next ((s.advance at_).latchEdge i rising)
/-- FLT_ASSERTED (R424). -/
def execFltAsserted (at_ a : Nat) (s : State) : Result := onAxis at_ a (fun s => s.fltAsserted a) s
/-- FLT_RELEASED (R424). -/
def execFltReleased (at_ a : Nat) (s : State) : Result := onAxis at_ a (fun s => s.fltReleased a) s
/-- IDLE_DISABLE (R423). -/
def execIdleDisable (at_ a : Nat) (s : State) : Result := onAxis at_ a (fun s => s.idleDisable a) s
/-- ENABLE_DELAY (R417). -/
def execEnableDelay (at_ a : Nat) (s : State) : Result := onAxis at_ a (fun s => s.enableDelay a) s

end Sys2Proof.Machine
end

