-- ==== Sys2Proof/Machine/Crypto.lean ====
section
/-!
DEFINITION. Machine/Crypto.lean: CRC-32 and CRC-32C (R158, R459), SHA-256 (FIPS 180-4), HMAC-SHA-256 (RFC 2104, R77).
-/
namespace Sys2Proof.Machine

/-- Eight steps of a reflected CRC register. -/
def crcBits (poly : Nat) : Nat → Nat → Nat
  | 0, c => c
  | k + 1, c => crcBits poly k (if c % 2 = 1 then (c / 2) ^^^ poly else c / 2)

/-- A reflected CRC over bytes from register value `c`. -/
def crcRun (poly c : Nat) (bs : List Byte) : Nat := bs.foldl (fun c b => crcBits poly 8 (c ^^^ b.toNat)) c

/-- CRC-32 of IEEE 802.3: 0x04C11DB7 reflected, initial value and final XOR 0xFFFFFFFF (R158). -/
def crc32 (bs : List Byte) : Nat := crcRun 0xEDB88320 0xFFFFFFFF bs ^^^ 0xFFFFFFFF

/-- CRC-32C, the Castagnoli polynomial, with the same conventions and a given initial value (R459). -/
def crc32cFrom (init : Nat) (bs : List Byte) : Nat := crcRun 0x82F63B78 init bs ^^^ 0xFFFFFFFF

/-- CRC-32C with initial value 0xFFFFFFFF. -/
def crc32c (bs : List Byte) : Nat := crc32cFrom 0xFFFFFFFF bs

/-- The first 64 primes, from which FIPS 180-4 takes the constants of SHA-256. -/
def shaPrimes : List Nat := (List.range 312).filter (fun n => 2 ≤ n && (List.range n).all (fun d => d < 2 || n % d != 0))

/-- The largest number of `bits` more bits, added to `r`, whose `k`-th power is at most `x`. -/
def rootBits (k x : Nat) : Nat → Nat → Nat
  | 0, r => r
  | bits + 1, r => rootBits k x bits (if (r + 2 ^ bits) ^ k ≤ x then r + 2 ^ bits else r)

/-- The first 32 bits of the fractional part of the `k`-th root of `p`. -/
def rootFraction (k p : Nat) : Nat := rootBits k (p * 2 ^ (32 * k)) 37 0 % 2 ^ 32

/-- The round constants of SHA-256: of the cube roots of the primes. -/
def shaK : List Nat := shaPrimes.map (rootFraction 3)

/-- The eight working words of SHA-256. -/
structure Sha where
  a : Nat
  b : Nat
  c : Nat
  d : Nat
  e : Nat
  f : Nat
  g : Nat
  h : Nat
deriving DecidableEq, Repr

/-- The initial hash value of SHA-256: of the square roots of the first eight primes. -/
def shaInit : Sha :=
  let r := fun i => rootFraction 2 (shaPrimes.getD i 0)
  { a := r 0, b := r 1, c := r 2, d := r 3, e := r 4, f := r 5, g := r 6, h := r 7 }

/-- A 32-bit word rotated right by `n`. -/
def rotr (n x : Nat) : Nat := (x / 2 ^ n) ||| (x % 2 ^ n * 2 ^ (32 - n))

/-- Addition modulo 2^32. -/
def add32 (a b : Nat) : Nat := (a + b) % 0x100000000

/-- One round with schedule word `w` and constant `k`. -/
def shaRound (s : Sha) (w k : Nat) : Sha :=
  let s1 := rotr 6 s.e ^^^ rotr 11 s.e ^^^ rotr 25 s.e
  let ch := (s.e &&& s.f) ^^^ ((0xFFFFFFFF - s.e) &&& s.g)
  let t1 := (s.h + s1 + ch + k + w) % 0x100000000
  let s0 := rotr 2 s.a ^^^ rotr 13 s.a ^^^ rotr 22 s.a
  let mj := (s.a &&& s.b) ^^^ (s.a &&& s.c) ^^^ (s.b &&& s.c)
  { a := add32 t1 (add32 s0 mj), b := s.a, c := s.b, d := s.c, e := add32 s.d t1, f := s.e, g := s.f, h := s.g }

/-- All rounds of one block: `w` holds the next 16 schedule words. -/
def shaRounds : List Nat → List Nat → Sha → Sha
  | [], _, s => s
  | k :: ks, w, s =>
    let w0 := w.headD 0
    let x := w.getD 1 0
    let y := w.getD 14 0
    let s0 := rotr 7 x ^^^ rotr 18 x ^^^ (x / 8)
    let s1 := rotr 17 y ^^^ rotr 19 y ^^^ (y / 1024)
    shaRounds ks (w.drop 1 ++ [(w0 + s0 + w.getD 9 0 + s1) % 0x100000000]) (shaRound s w0 k)

/-- The 16 big-endian words of a 64-byte block. -/
def shaWords (bs : List Byte) : List Nat := (List.range 16).map (fun i => beAt bs (4 * i) 4)

/-- The hash after `n` blocks of `bs`. -/
def shaBlocks : Nat → List Byte → Sha → Sha
  | 0, _, s => s
  | n + 1, bs, s =>
    let t := shaRounds shaK (shaWords bs) s
    shaBlocks n (bs.drop 64)
      { a := add32 s.a t.a, b := add32 s.b t.b, c := add32 s.c t.c, d := add32 s.d t.d,
        e := add32 s.e t.e, f := add32 s.f t.f, g := add32 s.g t.g, h := add32 s.h t.h }

/-- SHA-256 (FIPS 180-4). -/
def sha256 (m : List Byte) : List Byte :=
  let pad := (119 - m.length % 64) % 64
  let bs := m ++ [0x80] ++ List.replicate pad 0 ++ beBytes 8 (8 * m.length)
  let s := shaBlocks (bs.length / 64) bs shaInit
  beBytes 4 s.a ++ beBytes 4 s.b ++ beBytes 4 s.c ++ beBytes 4 s.d ++
  beBytes 4 s.e ++ beBytes 4 s.f ++ beBytes 4 s.g ++ beBytes 4 s.h

/-- HMAC-SHA-256 (RFC 2104) under key `k`. -/
def hmac (k m : List Byte) : List Byte :=
  let k0 := fitTo 0 64 (if 64 < k.length then sha256 k else k)
  sha256 (k0.map (· ^^^ 0x5c) ++ sha256 (k0.map (· ^^^ 0x36) ++ m))

end Sys2Proof.Machine
end

