-- ==== Sys2Proof/Machine/SafeIo.lean ====
section
/-!
DEFINITION. Machine/SafeIo.lean: the field safety sections, safe inputs, test pulses and safe brake outputs (R433 to R450,
R463 to R465).
-/
namespace Sys2Proof.Machine

/-- Section FSX, or FSY where `y`. -/
def State.sec (s : State) (y : Bool) : Section := if y then s.safety.y else s.safety.x
/-- A section replaced. -/
def State.setSec (s : State) (y : Bool) (x : Section) : State :=
  { s with safety := if y then { s.safety with y := x } else { s.safety with x := x } }
/-- Channel X, or Y where `y`. -/
def State.chn (s : State) (y : Bool) : Chan := if y then s.safety.cy else s.safety.cx
/-- A channel replaced. -/
def State.setChn (s : State) (y : Bool) (x : Chan) : State :=
  { s with safety := if y then { s.safety with cy := x } else { s.safety with cx := x } }
/-- Output `n` beside its entries. -/
def State.sb (s : State) (n : Nat) : SbSt := s.safety.sb.fetch {} n
/-- Output `n` replaced. -/
def State.setSb (s : State) (n : Nat) (x : SbSt) : State :=
  { s with safety := { s.safety with sb := s.safety.sb.store {} n x } }

/-- SAFETY_STATE. -/
def State.safeState (s : State) : Nat := s.rd E.Saf.SAFETY_STATE
/-- The pair of channel X, of channel Y where `y` (R431). -/
def State.safePair (s : State) (y : Bool) : Nat :=
  match s.rt.archive with
  | some a => if y then a.safePairs.2 else a.safePairs.1
  | none => if y then 2 else 1

/-- A change of SAFETY_STATE is recorded (R470): state and cause. -/
def State.setSafe (s : State) (n : Nat) : State :=
  if s.safeState = n then s
  else (s.wr E.Saf.SAFETY_STATE n).log 0x09 0x01 (vU8 n ++ vU8 (s.rd E.Saf.SAFETY_CAUSE))

/-! ## Elements (R434, R449) -/

/-- SB_STATE and the state of both elements (Table SAF-9); an energisation counts. -/
def State.showSb (s : State) (n : Nat) : State :=
  let x := s.sb n
  let on := bitOf s.safety.x.closed n && bitOf s.safety.y.closed n
  let st := if !s.field.enable then 3 else if x.fault then 2 else if on then 1 else 0
  let s := if st = 1 && s.rd (E.Sb.SB_STATE n) != 1 then s.incR (E.Sb.SB_SWITCHINGS n) else s
  s.wr (E.Sb.SB_STATE n) st

/-- Every safe brake output shows its state. -/
def State.showSbs (s : State) : State := (List.range 8).foldl (fun s n => s.showSb n) s

/-- A section opens every element that it drives. -/
def State.openAll (s : State) (y : Bool) : State := (s.setSec y { s.sec y with closed := 0 }).showSbs

/-- Both sections open every element, and only fresh commands close one again (R449). -/
def State.brakesOff (s : State) : State :=
  let s := (s.setChn false { s.chn false with cmd := 0 }).setChn true { s.chn true with cmd := 0 }
  ((s.setSec false { s.sec false with closed := 0 }).setSec true { s.sec true with closed := 0 }).showSbs

/-- A section takes the commands of a valid sub-frame (R434): a faulted output stays open. -/
def State.takeSub (s : State) (y : Bool) : State :=
  let ok := s.field.enable && s.fieldFollows && !s.field.shed
  let cmd := if ok then (s.chn y).cmd else 0
  let closed := (List.range 8).foldl (fun m n => if bitOf cmd n && !(s.sb n).fault then m + 2 ^ n else m) 0
  (s.setSec y { s.sec y with closed := closed, lastValid := s.now }).showSbs

/-- SAFE_WATCHDOG_EXPIRY (R435). -/
def State.safeWatchdog (s : State) (y : Bool) : State :=
  if (s.sec y).lastValid + 1000000 * s.rd E.Saf.SAFE_WATCHDOG ≤ s.now && s.safety.set.isSome then s.openAll y else s

/-! ## Diagnostics of the outputs (R446, R447, R450) -/

/-- SB_DIAG: both sections' bits ORed (R450), HOLD_FAILED and HT_DUE (R453). -/
def State.showSbDiag (s : State) (n : Nat) : State :=
  let x := s.sb n
  let due := s.rd (E.Sb.HT_STANDSTILL_SI n) != 0xFF && s.safety.set.isSome && decide (s.rd (E.Sb.HT_INTERVAL n) < s.rd (E.Sb.HT_AGE n))
  s.wr (E.Sb.SB_DIAG n) ((x.diagX ||| x.diagY) + 256 * ofBool x.holdFailed + 512 * ofBool due)

/-- A bit of an output is set by a section: FIELD_DIAG, and the output enters FAULT with both elements open (R447, R470). -/
def State.sbFault (s : State) (n bit : Nat) (y : Bool) : State :=
  let x := s.sb n
  let old := if y then x.diagY else x.diagX
  let s := if bitOf old bit then s else s.fieldDiag 0x0A n (0x78 + bit) (1 + 2 * ofBool y)
  let x := if y then { x with diagY := setBit x.diagY bit true } else { x with diagX := setBit x.diagX bit true }
  let s := if x.fault then s else s.inc (E.Sb.SB_FAULTS n)
  let s := s.setSb n { x with fault := true, acked := false, passHs := false, passLs := false }
  let off := fun m : Nat => setBit m n false
  let s := (s.setSec false { s.sec false with closed := off (s.sec false).closed }).setSec true
    { s.sec true with closed := off (s.sec true).closed }
  (s.showSbDiag n).showSb n

/-- An output leaves FAULT once acknowledged in both channels and tested afresh (R447). -/
def State.sbClear (s : State) (n : Nat) : State :=
  let x := s.sb n
  if x.fault && x.acked && x.passHs && x.passLs then
    let clear := fun (s : State) (y : Bool) => (List.range 8).foldl (fun s b =>
      if bitOf (if y then x.diagY else x.diagX) b then s.fieldDiag 0x0A n (0x78 + b) (2 * ofBool y) else s) s
    let s := clear (clear s false) true
    let s := s.setSb n { x with fault := false, acked := false, passHs := false, passLs := false, diagX := 0, diagY := 0 }
    (s.showSbDiag n).showSb n
  else s

/-- SB_PULSE_TEST (R446): a section pulses its element; the off-pulse while energised, the on-pulse while both are open. -/
def State.sbPulse (s : State) (n : Nat) (y pass : Bool) : State :=
  let x := s.sb n
  let cx := bitOf s.safety.x.closed n
  let cy := bitOf s.safety.y.closed n
  let early := match x.testAt with
    | some t => decide (s.now < t + 100000000)
    | none => false
  if 8 ≤ n || early || !s.field.enable then s
  else if cx && cy then
    let s := s.setSb n { x with testAt := some s.now }
    if pass then s.wrT (E.Sb.SB_LAST_TEST_TB3 n) s.now else s.sbFault n (if y then 1 else 0) y
  else if !cx && !cy then
    let s := s.setSb n { x with testAt := some s.now }
    if pass then
      let x := s.sb n
      let fresh := x.fault && x.acked
      let s := s.setSb n (if y then { x with passLs := x.passLs || fresh } else { x with passHs := x.passHs || fresh })
      (s.wrT (E.Sb.SB_LAST_TEST_TB3 n) s.now).sbClear n
    else s.sbFault n (if y then 3 else 2) y
  else s

/-- SB_FAULT (R447): OVERLOAD 4, OPEN_LOAD 5, EXT_VOLTAGE 6, OVERTEMP 7; OVERLOAD and OPEN_LOAD while energised, EXT_VOLTAGE
while de-energised. -/
def State.sbCondition (s : State) (n kind : Nat) (y : Bool) : State :=
  let on := bitOf (s.sec y).closed n
  let holds := match kind with
    | 4 => on
    | 5 => on
    | 6 => !on && s.field.enable
    | 7 => true
    | _ => false
  if n < 8 && holds then s.sbFault n kind y else s

/-! ## Safe inputs (R440 to R443) -/

/-- Mode of a safe input. -/
def State.siMode (s : State) (i : Nat) : Nat := s.rd (E.Si.SI_MODE i)

/-- The contact shows demand (R441). -/
def contactDemand (mode : Nat) (second level : Bool) : Bool := if second && mode == 2 then level else !level

/-- A contact's sample passes its filter (R440): level and consecutive samples of the other level. -/
def stepContact (level : Bool) (run filter : Nat) (raw : Bool) : Bool × Nat :=
  if raw == level then (level, 0) else if filter ≤ run + 1 then (raw, 0) else (level, run + 1)

/-- Samples within TP_WIDTH + 100 µs of a pulse of the contact's own source are masked (R440). -/
def State.masked (s : State) (src start : Nat) : Bool :=
  match s.safety.pulseAt.find src with
  | some t => t ≤ start && start ≤ t + 1000 * s.rd E.Saf.TP_WIDTH + 100000
  | none => false

/-- The discrepancy timer of an input in a section (R443). -/
def stepDisc (x : SecSi) (mode now : Nat) : SecSi :=
  let da := contactDemand mode false x.a
  let db := contactDemand mode true x.b
  { x with discAt := if da == db then none else some (x.discAt.getD now), disc := x.disc && !(da && db) }

/-- The contact bits of an input whose source is in TP_FAULT (R439). -/
def State.siTpFault (s : State) (i : Nat) : Bool :=
  bitOf s.safety.tpFault (s.rd (E.Si.SI_TP_A i)) || bitOf s.safety.tpFault (s.rd (E.Si.SI_TP_B i))

/-- A contact of input `i` has not passed the source check for one full TP_PERIOD since its source's TP_FAULT cleared (R440). -/
def State.siTpHeld (s : State) (i : Nat) : Bool :=
  let held := fun t => match s.safety.tpClear.find t with
    | some c => decide (s.now < c + 1000000 * s.rd E.Saf.TP_PERIOD)
    | none => false
  s.siTpFault i || held (s.rd (E.Si.SI_TP_A i)) || held (s.rd (E.Si.SI_TP_B i))

/-- SI_DIAG of Table SAF-8, both sections' bits ORed. -/
def State.siDiag (s : State) (i : Nat) : Nat :=
  if s.siMode i = 0 then 0
  else
    let x := s.safety.x.si.fetch {} i
    let y := s.safety.y.si.fetch {} i
    let sx := s.safety.cx.si.fetch {} i
    let sy := s.safety.cy.si.fetch {} i
    ofBool (x.disc || y.disc) + 2 * ofBool (x.crossA.isSome || y.crossA.isSome) + 4 * ofBool (x.crossB.isSome || y.crossB.isSome)
      + 8 * ofBool (s.siTpFault i) + 16 * ofBool (bitOf s.safety.disagree i)
      + 32 * ofBool ((!sx.state && !sx.both) || (!sy.state && !sy.both))

/-- SI_DIAG follows; settings of bits 0 to 4 count (Table SAF-8). -/
def State.showSi (s : State) (i : Nat) : State :=
  let old := s.rd (E.Si.SI_DIAG i)
  let new := s.siDiag i
  let n := (List.range 5).foldl (fun a b => a + ofBool (bitOf new b && !bitOf old b)) 0
  let c := s.safety.cx.seen.fetch {} i
  let s := s.wr (E.Si.SI_CONTACTS i) (if s.siMode i = 0 then 0 else ofBool c.a + 2 * ofBool c.b)
  (s.wr (E.Si.SI_DIAG i) new).addTo (E.Si.SI_FAULTS i) n

/-- A section's samples of a frame that starts at `start`, a multiple of 100 µs (R440). -/
def State.sampleSi (s : State) (y : Bool) (start : Nat) (raw : BitVec 32) : State :=
  if start % 100000 != 0 then s
  else
    let z := s.sec y
    let m := (List.range 16).foldl (fun m i =>
      if s.siMode i = 0 then m
      else
        let x := m.fetch {} i
        let f := s.rd (E.Si.SI_FILTER i)
        let (a, ra) := if s.masked (s.rd (E.Si.SI_TP_A i)) start then (x.a, x.runA) else stepContact x.a x.runA f (bitOf raw.toNat (2 * i))
        let (b, rb) := if s.masked (s.rd (E.Si.SI_TP_B i)) start then (x.b, x.runB) else stepContact x.b x.runB f (bitOf raw.toNat (2 * i + 1))
        m.store {} i (stepDisc { x with a := a, b := b, runA := ra, runB := rb } (s.siMode i) start)) z.si
    let s := s.setSec y { z with si := m }
    (List.range 16).foldl (fun s i =>
      if (z.si.fetch {} i).disc && !(m.fetch {} i).disc then (s.fieldDiag 0x09 i 0x70 (2 * ofBool y)).showSi i else s) s

/-- A section's copy reaches its channel (R433). -/
def State.takeSection (s : State) (y : Bool) : State :=
  s.setChn y { s.chn y with seen := (s.sec y).si, rxAt := s.now }

/-- A contact's check at a pulse of source `t` (Table SAF-2): the new instant of its last failed check. -/
def State.contactCheck (s : State) (own t : Nat) (level dropped : Bool) (fail : Option Nat) : Option Nat :=
  let bad := level && (if own = t then !dropped else dropped)
  if bad then some s.now
  else match fail with
    | some f => if f + 1000000 * s.rd E.Saf.TP_PERIOD ≤ s.now then none else some f
    | none => none

/-- TEST_PULSE (R439, R440): source `t` pulses; `dropX` and `dropY` say which contacts FSX and FSY saw drop below 5 V, bit 2i
contact A, bit 2i + 1 contact B of SI i. -/
def State.testPulse (s : State) (t : Nat) (dropX dropY : BitVec 32) : State :=
  if 4 ≤ t || s.safety.set.isNone || !s.field.powered || bitOf s.safety.tpFault t then s
  else
    let s := (s.wr (E.Si.TP_STATE t) 1)
    let s := { s with safety := { s.safety with pulseAt := s.safety.pulseAt.put t s.now } }
    let one := fun (s : State) (y : Bool) (drop : BitVec 32) =>
      (List.range 16).foldl (fun s i =>
        if s.siMode i = 0 then s
        else
          let z := s.sec y
          let x := z.si.fetch {} i
          let ca := s.contactCheck (s.rd (E.Si.SI_TP_A i)) t x.a (bitOf drop.toNat (2 * i)) x.crossA
          let cb := s.contactCheck (s.rd (E.Si.SI_TP_B i)) t x.b (bitOf drop.toNat (2 * i + 1)) x.crossB
          let s := s.setSec y { z with si := z.si.store {} i { x with crossA := ca, crossB := cb } }
          let s := if ca.isSome == x.crossA.isSome then s else s.fieldDiag 0x09 i 0x71 (ofBool ca.isSome + 2 * ofBool y)
          let s := if cb.isSome == x.crossB.isSome then s else s.fieldDiag 0x09 i 0x72 (ofBool cb.isSome + 2 * ofBool y)
          s.showSi i) s
    one (one s false dropX) true dropY

/-- TP_FAULT (R439), set and cleared. -/
def State.tpFault (s : State) (t : Nat) (fault : Bool) : State :=
  if 4 ≤ t || bitOf s.safety.tpFault t == fault then s
  else
    let s := { s with safety := { s.safety with tpFault := setBit s.safety.tpFault t fault } }
    let s := if fault then s.inc (E.Si.TP_FAULTS t)
             else { s with safety := { s.safety with tpClear := s.safety.tpClear.put t s.now } }
    let s := (s.wr (E.Si.TP_STATE t) (if fault then 2 else 1)).fieldDiag 0x0B t 0x74 (ofBool fault)
    (List.range 16).foldl (fun s i => s.showSi i) s

/-- SI_DISCREPANCY (R443): the timer of a section reaches its limit. -/
def State.siDiscrepancy (s : State) (i : Nat) (y : Bool) : State :=
  let z := s.sec y
  let x := z.si.fetch {} i
  match x.discAt with
  | some t =>
    if i < 16 && s.siMode i != 0 && !x.disc && t + 1000000 * s.rd (E.Si.SI_DISCREPANCY i) ≤ s.now then
      (((s.setSec y { z with si := z.si.store {} i { x with disc := true } }).fieldDiag 0x09 i 0x70 (1 + 2 * ofBool y))).showSi i
    else s
  | none => s

/-- A channel evaluates an input at a release, from its section's latest sub-frame (R442). -/
def State.evalSi (s : State) (y : Bool) (i : Nat) : ChanSi :=
  let x := (s.chn y).seen.fetch {} i
  let c := (s.chn y).si.fetch {} i
  let m := s.siMode i
  if m = 0 then {}
  else
    let da := contactDemand m false x.a
    let db := contactDemand m true x.b
    let fault := x.crossA.isSome || x.crossB.isSome || s.siTpHeld i || x.disc || bitOf s.safety.disagree i
    if c.state then
      if da || db || fault then { state := false, both := da && db } else c
    else
      let both := c.both || (da && db)
      if !da && !db && !fault && both then { state := true, both := true } else { state := false, both := both }

/-! ## The parameter set (R463 to R465) -/

/-- Ranges and cross-conditions of this chapter (R439, R440, R464). -/
def setOk (p : SafetySet) : Bool :=
  let r := fun (x lo hi : Nat) => decide (lo ≤ x) && decide (x ≤ hi)
  r p.cycle 1000 20000 && p.cycle % 250 == 0 && r p.watchdog 3 500 && r p.tpWidth 200 1000 && p.tpWidth % 100 == 0
    && r p.tpPeriod 10 1000 && decide (4 * (p.tpWidth + 100) ≤ 1000 * p.tpPeriod)
    && decide (p.si.length ≤ 16) && decide (p.sb.length ≤ 8)
    && p.si.all (fun i => i.mode ≤ 2 && decide (i.tpA < 4) && decide (i.tpB < 4) && i.tpA != i.tpB && r i.filter 5 250 && r i.discrepancy 10 2000)
    && p.sb.all (fun b => r b.pulse 100 300 && r b.testPeriod 1 600 && (b.standstill == 0xFF || decide (b.standstill < 16))
        && r b.settle 50 2000 && r b.duration 100 10000 && r b.interval 1 8760)
    && p.esc.all (fun c => decide (c.1 < 16) && decide (c.2.peerNode < 2 ^ 18) && decide (c.2.peerConn < 16) && c.2.txLen ≤ 32
        && c.2.rxLen ≤ 32 && r c.2.period 1 16 && r c.2.timeout 5 1000 && c.2.degraded ≤ 10000)

/-- The entries "From set" show the active set (R463). -/
def State.showSet (s : State) (p : SafetySet) (crc : Nat) : State :=
  let s := ((s.wr E.Saf.SAFETY_CYCLE p.cycle).wr E.Saf.SAFE_WATCHDOG p.watchdog).wr E.Saf.TP_WIDTH p.tpWidth
  let s := (s.wr E.Saf.TP_PERIOD p.tpPeriod).wr E.Saf.SPS_CRC crc
  let s := (List.range 16).foldl (fun s i =>
    let d := (p.si[i]?).getD {}
    let s := ((s.wr (E.Si.SI_MODE i) d.mode).wr (E.Si.SI_TP_A i) d.tpA).wr (E.Si.SI_TP_B i) d.tpB
    (s.wr (E.Si.SI_FILTER i) d.filter).wr (E.Si.SI_DISCREPANCY i) d.discrepancy) s
  let s := (List.range 8).foldl (fun s n =>
    let d := (p.sb[n]?).getD {}
    let s := ((s.wr (E.Sb.SB_PULSE_WIDTH n) d.pulse).wr (E.Sb.SB_TEST_PERIOD n) d.testPeriod).wr (E.Sb.HT_STANDSTILL_SI n) d.standstill
    ((s.wr (E.Sb.HT_SETTLE n) d.settle).wr (E.Sb.HT_DURATION n) d.duration).wr (E.Sb.HT_INTERVAL n) d.interval) s
  (List.range 16).foldl (fun s k =>
    match p.esc.find? (fun c => c.1 == k) with
    | some (_, d) =>
      let s := ((s.wr (E.Esc.ESC_PEER_NODE k) d.peerNode).wr (E.Esc.ESC_PEER_IP k) d.peerIp).wr (E.Esc.ESC_PEER_CONN k) d.peerConn
      let s := ((s.wr (E.Esc.ESC_TX_LENGTH k) d.txLen).wr (E.Esc.ESC_RX_LENGTH k) d.rxLen).wr (E.Esc.ESC_PERIOD k) d.period
      let s := (s.wr (E.Esc.ESC_TIMEOUT k) d.timeout).wr (E.Esc.ESC_DEGRADED_TIME k) d.degraded
      s.wr (E.Esc.ESC_SIGNATURE k) d.signature
    | none => s) s

/-! ## Commands -/

/-- SAFE_WATCHDOG_EXPIRY (R435). -/
def execSafeWatchdogExpiry (at_ : Nat) (fsy : Bool) (s : State) : Result := .next ((s.advance at_).safeWatchdog fsy)
/-- TEST_PULSE (R439). -/
def execTestPulse (at_ source : Nat) (dropX dropY : BitVec 32) (s : State) : Result :=
  .next ((s.advance at_).testPulse source dropX dropY)
/-- TP_FAULT (R439). -/
def execTpFault (at_ source : Nat) (fault : Bool) (s : State) : Result := .next ((s.advance at_).tpFault source fault)
/-- SI_DISCREPANCY (R443). -/
def execSiDiscrepancy (at_ i : Nat) (fsy : Bool) (s : State) : Result := .next ((s.advance at_).siDiscrepancy i fsy)
/-- SB_PULSE_TEST (R446). -/
def execSbPulseTest (at_ output : Nat) (fsy pass : Bool) (s : State) : Result := .next ((s.advance at_).sbPulse output fsy pass)
/-- SB_FAULT (R447). -/
def execSbFault (at_ output kind : Nat) (fsy : Bool) (s : State) : Result := .next ((s.advance at_).sbCondition output kind fsy)

end Sys2Proof.Machine
end

