-- ==== Sys2Proof/Machine/SafeProgram.lean ====
section
/-!
DEFINITION. Machine/SafeProgram.lean: the safety cycle of the two channels, holding tests, the Epsil Safe Channel and the parameter
set (R436 to R438, R444, R451 to R467).
-/
namespace Sys2Proof.Machine

/-- Connection `k`. -/
def State.conn (s : State) (k : Nat) : EscConn := s.safety.esc.fetch {} k
/-- Connection `k` replaced. -/
def State.setConn (s : State) (k : Nat) (x : EscConn) : State :=
  { s with safety := { s.safety with esc := s.safety.esc.store {} k x } }

/-- A change of ESC_STATE is recorded (R470): connection and state. -/
def State.setEsc (s : State) (k st : Nat) : State :=
  if s.rd (E.Esc.ESC_STATE k) = st then s
  else
    let s := (s.wr (E.Esc.ESC_STATE k) st).log 0x09 0x02 (vU8 k ++ vU8 st)
    if st = 3 then s.log 0x09 0x06 (vU8 k) else s

/-! ## States of the safety program (Table SAF-1) -/

/-- SAFETY_STOP with a cause. -/
def State.safetyStop (s : State) (cause : Nat) : State :=
  if s.safeState != 1 && s.safeState != 2 then s
  else
    let s := ((s.wr E.Saf.SAFETY_CAUSE cause).setSafe 3).incR E.Saf.SAFETY_STOPS
    let s := (s.setChn false { s.chn false with cmd := 0 }).setChn true { s.chn true with cmd := 0 }
    { s with safety := { s.safety with good := 0 } }

/-- FAILED: all de-energised, no ESC frames (R438, R139). -/
def State.safetyFail (s : State) (cause : Nat) : State :=
  let s := (s.wr E.Saf.SAFETY_CAUSE cause).setSafe 4
  let s := { s with safety := { s.safety with cycle := none, good := 0 } }
  (s.setChn false { s.chn false with cmd := 0 }).setChn true { s.chn true with cmd := 0 }

/-- The module's SAFE_STATE de-energises the safety program's outputs; a safety pair that has FAILED without castling ends it
(R438, R449). -/
def State.safetyOff (s : State) : State :=
  if s.rd (E.Dbl.PAIR_STATE (s.safePair false)) = 3 || s.rd (E.Dbl.PAIR_STATE (s.safePair true)) = 3 then s.safetyFail 5
  else (s.setChn false { s.chn false with cmd := 0 }).setChn true { s.chn true with cmd := 0 }

/-- ESC connections start in WAIT with new random SEQ values, those not in the set are CLOSED (R461, R466; log 7). -/
def State.escStart (s : State) : State :=
  (List.range 16).foldl (fun s k =>
    match s.safety.set.bind (fun p => p.esc.find? (fun c => c.1 == k)) with
    | some (_, d) =>
      let s := ((s.setConn k { def_ := some d, txSeq := s.rand % 2 ^ 32 }).drawn).setEsc k 1
      s.wr (E.Esc.ESC_DEGRADED_LEFT k) d.degraded
    | none => (s.setConn k {}).setEsc k 0) s

/-- STARTING: every latch in its initial state (R466). -/
def State.safetyStart (s : State) : State :=
  let s := { s with safety := { s.safety with
    cx := { seen := s.safety.cx.seen, rxAt := s.safety.cx.rxAt }, cy := { seen := s.safety.cy.seen, rxAt := s.safety.cy.rxAt }
    cycle := none, good := 0, bad := false, lone := none, diffAt := {}, disagree := 0, agreeAt := {}, permit := 0
    sb := { cells := s.safety.sb.cells.map (fun (c : Nat × SbSt) => (c.1, { c.2 with start := false, reqAt := none, confirmed := false })) } } }
  let s := (List.range 8).foldl (fun s n => s.wr (E.Sb.HT_STATE n) 0) s
  let s := (List.range 16).foldl (fun s i => s.wr (E.Si.SI_STATE i) 0) s
  ((s.wr E.Saf.SAFETY_CAUSE 0).setSafe 1).escStart

/-- The safety program starts with a set that the archive expects, else NOT_CONFIGURED (R465); FAILED lasts until the next start of
the module (Table SAF-1). -/
def State.safetyConfigure (s : State) : State :=
  let crc := s.rd E.Saf.SPS_CRC
  if s.safeState = 4 then s
  else if s.safety.set.isSome && s.rt.archive.any (fun a => a.spsCrc == crc) then s.safetyStart
  else
    let s := { s with safety := { s.safety with cycle := none, good := 0 } }
    let s := (s.setChn false { s.chn false with cmd := 0 }).setChn true { s.chn true with cmd := 0 }
    s.setSafe 0

/-! ## The release (R436, R442, R458, R461, R467) -/

/-- A frame with this ECHO_SEQ is fresh at instant `t`: the instant of the transmission that it echoes (R457). -/
def freshAt (x : EscConn) (timeout t echo : Nat) : Option Nat :=
  match x.sent.find? (fun p => p.1 == echo) with
  | some (_, i) => if t ≤ i + 1000000 * timeout then some i else none
  | none => none

/-- A SEQ is newer than the last accepted one (R458). -/
def newer (x : EscConn) (seq : Nat) : Bool :=
  match x.last with
  | some (l, _) => let d := (seq + 2 ^ 32 - l) % 2 ^ 32; 1 ≤ d && d ≤ 2 ^ 31
  | none => true

/-- Milliseconds of the degraded budget left at instant `t` (R460). -/
def degradedLeft (x : EscConn) (budget t : Nat) : Nat :=
  match x.degradedFrom with
  | some f => budget - (t - f + 999999) / 1000000
  | none => budget

/-- The newest of several copies by SEQ, from the last accepted one on. -/
def newest (x : EscConn) (cs : List EscCopy) : Option EscCopy :=
  let base := match x.last with
    | some (l, _) => l
    | none => 0
  cs.foldl (fun b c =>
    match b with
    | none => some c
    | some d => if (d.seq + 2 ^ 32 - base) % 2 ^ 32 < (c.seq + 2 ^ 32 - base) % 2 ^ 32 then some c else some d) none

/-- The decision for a connection (Table SAF-6). -/
def escDecide (x : EscConn) (timeout budget t : Nat) : Option EscDecision :=
  let held := fun (cs : List EscCopy) (q : Nat) => cs.any (fun c => c.seq == q)
  let clash := x.copiesX.any (fun c => x.copiesY.any (fun d => d.seq == c.seq && d.bytes != c.bytes))
  if clash then some .mismatch
  else
    let ok := fun c : EscCopy => newer x c.seq && (freshAt x timeout t c.echo).isSome
    let both := x.copiesX.filter (fun c => held x.copiesY c.seq)
    match (newest x both).filter ok with
    | some c => some (.accept true c ((freshAt x timeout t c.echo).getD 0))
    | none =>
      let one := (x.copiesX.filter (fun c => !held x.copiesY c.seq) ++ x.copiesY.filter (fun c => !held x.copiesX c.seq)).filter ok
      match newest x one with
      | some c => if 0 < degradedLeft x budget t then some (.accept false c ((freshAt x timeout t c.echo).getD 0)) else none
      | none => none

/-- A connection whose last accepted frame is no longer fresh enters WAIT with TIMEOUT (R461). -/
def State.escTimeout (s : State) (k : Nat) : State :=
  let x := s.conn k
  let st := s.rd (E.Esc.ESC_STATE k)
  match x.last with
  | some (_, i) =>
    if (st = 2 || st = 3) && decide (i + 1000000 * s.rd (E.Esc.ESC_TIMEOUT k) < s.now) then
      ((s.setConn k { x with payload := [], safe := false, restarted := false }).setEsc k 1).inc (E.Esc.ESC_TIMEOUTS k)
    else s
  | none => s

/-- The decisions of a release for every open connection. -/
def State.escDecisions (s : State) : List (Nat × EscDecision) :=
  (List.range 16).filterMap (fun k =>
    let st := s.rd (E.Esc.ESC_STATE k)
    if st = 0 || st = 4 then none
    else (escDecide (s.conn k) (s.rd (E.Esc.ESC_TIMEOUT k)) (s.rd (E.Esc.ESC_DEGRADED_TIME k)) s.now).map (fun d => (k, d)))

/-- Both channels, or the one that runs, evaluate the safe inputs (R442, R444). -/
def State.evalInputs (s : State) (x y : Bool) : State :=
  (List.range 16).foldl (fun s i =>
    let cx := s.evalSi false i
    let cy := s.evalSi true i
    let s := if x then s.setChn false { s.chn false with si := (s.chn false).si.store {} i cx } else s
    (if y then s.setChn true { s.chn true with si := (s.chn true).si.store {} i cy } else s).showSi i) s

/-- The channels that run evaluate input `i` as no-demand: demand holds where either holds it (R444). -/
def State.siFree (s : State) (lone : Option Bool) (i : Nat) : Bool :=
  let one := fun y => ((s.chn y).si.fetch {} i).state
  match lone with
  | some y => one y
  | none => one false && one true

/-- The commit publishes the inputs' states (R436, R444); LAST_DEMAND_TB3 is the release of the cycle that first saw demand. -/
def State.commitInputs (s : State) (c : SafeCycle) : State :=
  (List.range 16).foldl (fun s i =>
    let free := s.siFree c.lone i
    let was := s.on (E.Si.SI_STATE i)
    let s := s.wr (E.Si.SI_STATE i) (ofBool free)
    if was && !free then (s.inc (E.Si.SI_DEMANDS i)).wrT (E.Si.LAST_DEMAND_TB3 i) c.release else s) s

/-- A holding test ends with a result, recorded (R453): output and result. -/
def State.htEnd (s : State) (n code : Nat) : State :=
  ((s.wr (E.Sb.HT_RESULT n) code)).log 0x09 0x03 (vU8 n ++ vU8 code)

/-- The preconditions of a holding test (R451). -/
def State.htReady (s : State) (lone : Option Bool) (n : Nat) : Bool :=
  let i := s.rd (E.Sb.HT_STANDSTILL_SI n)
  s.rd (E.Sb.SB_STATE n) == 0 && !(s.sb n).fault && i < 16 && s.siFree lone i && bitOf s.safety.permit n

/-- Start requests are met or refused at a release (R451). -/
def State.htRelease (s : State) (lone : Option Bool) : State × List Nat :=
  (List.range 8).foldl (fun (s, l) n =>
    let x := s.sb n
    if !x.start then (s, l)
    else
      let s := s.setSb n { x with start := false }
      if s.htReady lone n then (s, l ++ [n]) else (s.htEnd n 4, l)) (s, [])

/-- The rejoined channel adopts every latch and every open element of the lone channel (R467). -/
def State.rejoin (s : State) (lone : Bool) : State :=
  let a := s.chn lone
  let b := s.chn (!lone)
  s.setChn (!lone) { b with cmd := b.cmd &&& a.cmd, latches := a.latches ++ b.latches.filter (fun l => !a.latches.contains l), si := a.si }

/-- The channel on pair `d` leaves (R145, R467): the other continues alone, in a cycle that is open too. -/
def State.channelOut (s : State) (d : Nat) : State :=
  let x := d == s.safePair false
  let y := d == s.safePair true
  if s.safety.set.isNone || x == y then s
  else
    { s with safety := { s.safety with
        lone := some x
        cycle := s.safety.cycle.map (fun c => if c.lone.isNone then { c with lone := some x } else c) } }

/-- SAFETY_RELEASE (R436). -/
def State.safetyRelease (s : State) : State :=
  let p := 1000 * s.rd E.Saf.SAFETY_CYCLE
  if s.safety.set.isNone || p = 0 || s.now % p != 0 || ! [1, 2, 3].contains s.safeState || !s.active || !s.resumed then s
  else
    -- a cycle that has not committed overran (R437)
    let s := if s.safety.cycle.isSome then
        { s.safetyStop 2 with safety := { (s.safetyStop 2).safety with cycle := none, bad := true } } else s
    let x := s.pairRuns (s.safePair false)
    let y := s.pairRuns (s.safePair true)
    let valid := fun c : Chan => decide (s.now ≤ c.rxAt + 1000000 * s.rd E.Saf.SAFE_WATCHDOG)
    let sections := (valid s.safety.cx || !x) && (valid s.safety.cy || !y)
    let s := if s.safeState = 2 && !sections then s.safetyStop 4 else s
    let lone := if x == y then none else some y
    let rejoined := s.safety.lone.isSome && x && y
    let s := match s.safety.lone with
      | some l => if x && y then s.rejoin l else s
      | none => s
    let s := s.evalInputs x y
    let s := (List.range 16).foldl (fun s k => s.escTimeout k) s
    let esc := if lone.isSome then [] else s.escDecisions
    let (s, ht) := s.htRelease lone
    { s with safety := { s.safety with
        lone := lone
        cycle := some { release := s.now, lone := lone, rejoined := rejoined, esc := esc, ht := ht, sections := sections } } }

/-! ## The commit (R436, R437, R444, R452, R455, R460) -/

/-- The definition of output `n` in the active set. -/
def State.sbDef (s : State) (n : Nat) : Option SbDef :=
  match s.safety.set with
  | some p => p.sb[n]?
  | none => none

/-- A byte of a CAN object or of an ESC payload that the holding test writes (R451). -/
def State.htRequest (s : State) (n : Nat) (on : Bool) : State :=
  match s.sbDef n with
  | some { request := .can c o off, torque := t, .. } =>
    s.setImage c o (overlay (s.obj c o).image off [BitVec.ofNat 8 (if on then t else 0)])
  | _ => s

/-- Bytes that running holding tests put into the payload of connection `k`. -/
def State.htBytes (s : State) (k : Nat) (p : List Byte) : List Byte :=
  (List.range 8).foldl (fun p n =>
    match s.sbDef n, (s.sb n).reqAt with
    | some { request := .esc c off, torque := t, .. }, some _ =>
      if c = k && off < p.length then modifyAt p off (fun _ => BitVec.ofNat 8 t) else p
    | _, _ => p) p

/-- A holding test stops: its request is removed, the result recorded. -/
def State.htStop (s : State) (n code : Nat) : State :=
  let s := (s.setSb n { s.sb n with reqAt := none, confirmed := false }).htRequest n false
  let s := if code = 1 then s.setSb n { s.sb n with holdFailed := true }
           else if code = 0 then (s.setSb n { s.sb n with holdFailed := false }).wrR (E.Sb.HT_AGE n) 0
           else s
  ((s.wr (E.Sb.HT_STATE n) 0).htEnd n code).showSbDiag n

/-- A running holding test at a commit (R452); `lone` commits clear no latch. -/
def State.htCommit (s : State) (c : SafeCycle) (o : SafeOut) (n : Nat) : State :=
  let x := s.sb n
  if c.ht.contains n then
    ((s.setSb n { x with reqAt := some s.now, confirmed := false }).htRequest n true).wr (E.Sb.HT_STATE n) 1
  else match x.reqAt with
    | none => s
    | some t =>
      let settle := 1000000 * s.rd (E.Sb.HT_SETTLE n)
      let i := s.rd (E.Sb.HT_STANDSTILL_SI n)
      if !s.on (E.Si.SI_STATE i) then s.htStop n 1
      else if bitOf o.sb.toNat n then s.htStop n 3
      else if c.release < t + settle then s
      else if !x.confirmed then
        if bitOf o.confirm.toNat n then (s.setSb n { x with confirmed := true }).wr (E.Sb.HT_STATE n) 2 else s.htStop n 2
      else if t + settle + 1000000 * s.rd (E.Sb.HT_DURATION n) ≤ c.release && c.lone.isNone then s.htStop n 0
      else s

/-- Outputs whose test this cycle's command ends: energised only at the next commit (R452). -/
def State.htHolds (s : State) (n : Nat) : Bool := (s.sb n).reqAt.isSome

/-- A connection accepts a copy (R458, R460). -/
def State.escAccept (s : State) (k release : Nat) (two : Bool) (c : EscCopy) (echoAt : Nat) : State :=
  let x := s.conn k
  let streak := if two then min 16 (x.streak + 1) else 0
  let from_ := if two then (if 16 ≤ streak then none else x.degradedFrom) else some (x.degradedFrom.getD release)
  let x := { x with last := some (c.seq, echoAt), payload := c.payload, safe := c.safe
                    restarted := s.rd (E.Esc.ESC_STATE k) == 1, streak := streak, degradedFrom := from_ }
  let s := (s.setConn k x).inc (E.Esc.ESC_ACCEPTED k)
  let s := if two then s else s.inc (E.Esc.ESC_DEGRADED_ACCEPTS k)
  (s.raise (E.Esc.ESC_RTT_MAX k) ((release - echoAt) / 1000)).setEsc k (if two then 2 else 3)

/-- The decision of a connection takes effect at the commit. -/
def State.escApply (s : State) (release k : Nat) (d : EscDecision) : State :=
  match d with
  | .mismatch => ((s.setConn k { s.conn k with payload := [], safe := false }).setEsc k 4).inc (E.Esc.ESC_MISMATCHES k)
  | .accept two c i => s.escAccept k release two c i

/-- An ESC frame (Table SAF-5). -/
def escBytes (safe : Bool) (node dest conn seq echo sig : Nat) (payload : List Byte) : List Byte :=
  let b := beBytes 2 0x4553 ++ beBytes 1 1 ++ beBytes 1 (ofBool safe) ++ beBytes 4 node ++ beBytes 4 dest ++ beBytes 2 conn
    ++ beBytes 2 payload.length ++ beBytes 4 seq ++ beBytes 4 echo ++ beBytes 4 sig ++ payload
  b ++ beBytes 4 (crc32c b)

/-- A connection sends its frame on both LANs every ESC_PERIOD cycles (R454, R455). -/
def State.escSend (s : State) (k : Nat) (o : SafeOut) : State :=
  let x := s.conn k
  match x.def_ with
  | none => s
  | some d =>
    if d.period ≤ x.cycles + 1 then
      let st := s.rd (E.Esc.ESC_STATE k)
      let safe := s.safeState != 2 || (st != 2 && st != 3)
      let data := match o.esc.find? (fun e => e.1 == k) with
        | some (_, b) => fitTo 0 d.txLen b
        | none => List.replicate d.txLen 0
      let data := if safe then List.replicate d.txLen 0 else s.htBytes k data
      let seq := (x.txSeq + 1) % 2 ^ 32
      let echo := match x.last with
        | some (l, _) => l
        | none => 0
      let b := escBytes safe (s.rd E.Id.NODE_ID_ACTIVE) d.peerNode d.peerConn seq echo d.signature data
      let f : TxFrame := { cls := 3, single := true, ip := d.peerIp, sport := 47020, dport := 47020, len := 42 + b.length, body := .bytes b }
      let s := s.setConn k { x with txSeq := seq, sent := ((seq, s.now) :: x.sent).take 64, cycles := 0 }
      (s.place 33 (.tx f)).place 34 (.tx f)
    else s.setConn k { x with cycles := x.cycles + 1 }

/-- The channels' states of an input differ or agree (R444): CHANNEL_DISAGREE of the input. -/
def State.trackDisagree (s : State) (i : Nat) : State :=
  let cx := s.safety.cx.si.fetch {} i
  let cy := s.safety.cy.si.fetch {} i
  if s.siMode i = 0 then s
  else if cx.state != cy.state then
    let t := (s.safety.diffAt.find i).getD s.now
    let s := { s with safety := { s.safety with diffAt := s.safety.diffAt.put i t, agreeAt := s.safety.agreeAt.drop i } }
    let limit := 100000 * s.rd (E.Si.SI_FILTER i) + 2000 * s.rd E.Saf.SAFETY_CYCLE
    if t + limit ≤ s.now && !bitOf s.safety.disagree i then
      (({ s with safety := { s.safety with disagree := setBit s.safety.disagree i true } }.fieldDiag 0x09 i 0x73 1)).showSi i
    else s
  else
    let t := (s.safety.agreeAt.find i).getD s.now
    let s := { s with safety := { s.safety with diffAt := s.safety.diffAt.drop i, agreeAt := s.safety.agreeAt.put i t } }
    if bitOf s.safety.disagree i && t + 1000000000 ≤ s.now then
      (({ s with safety := { s.safety with disagree := setBit s.safety.disagree i false } }.fieldDiag 0x09 i 0x73 0)).showSi i
    else s

/-- The results that the fabric compares (R436); after a rejoin the complete safety states (R467). -/
def sameResults (all : Bool) (x y : SafeOut) : Bool :=
  if all then x == y else ({ x with latches := [] } : SafeOut) == { y with latches := [] }

/-- CAN data that the safety program writes into objects of its own (R335). -/
def State.safeCan (s : State) (o : SafeOut) : State :=
  o.can.foldl (fun s w => if s.objWriter w.1 w.2.1 == 0xFFFD then s.setImage w.1 w.2.1 w.2.2 else s) s

/-- The commit of both channels' equal results. -/
def State.commitBoth (s : State) (c : SafeCycle) (o : SafeOut) : State :=
  let held := fun n => s.htHolds n || c.ht.contains n
  let run := s.safeState == 2 && !s.inSafe
  let s := s.commitInputs c
  let cmd := if run then (List.range 8).foldl (fun m n => if bitOf o.sb.toNat n && !held n then m + 2 ^ n else m) 0 else 0
  let s := (s.setChn false { s.chn false with cmd := cmd, latches := o.latches }).setChn true { s.chn true with cmd := cmd, latches := o.latches }
  let s := (List.range 16).foldl (fun s i => s.trackDisagree i) s
  let s := (List.range 8).foldl (fun s n => s.htCommit c o n) s
  let s := (List.range 8).foldl (fun s n =>
    let s := if bitOf o.ack.toNat n && (s.sb n).fault then s.setSb n { s.sb n with acked := true } else s
    if bitOf o.htStart.toNat n then
      (if (s.sb n).reqAt.isSome then s.htEnd n 4 else s.setSb n { s.sb n with start := true }) else s) s
  let s := { s with safety := { s.safety with permit := o.permit.toNat } }
  let s := (List.range 16).foldl (fun s k =>
    if bitOf o.escAck.toNat k && s.rd (E.Esc.ESC_STATE k) = 4 then
      (s.setConn k { s.conn k with copiesX := [], copiesY := [] }).setEsc k 1
    else s.setConn k { s.conn k with restarted := false }) s
  let s := c.esc.foldl (fun s d => s.escApply c.release d.1 d.2) s
  let s := (List.range 16).foldl (fun s k =>
    let x := s.conn k
    match x.def_ with
    | some d => s.wr (E.Esc.ESC_DEGRADED_LEFT k) (degradedLeft x d.degraded s.now)
    | none => s) s
  let s := (List.range 16).foldl (fun s k => s.escSend k o) s
  let s := s.safeCan o
  let good := if c.sections then s.safety.good + 1 else 0
  let s := { s with safety := { s.safety with good := good, bad := false } }
  if s.safeState = 1 && 2 ≤ good then s.setSafe 2 else s

/-- The commit of a channel that runs alone (R467): it opens elements and sets latches, nothing else. -/
def State.commitLone (s : State) (c : SafeCycle) (y : Bool) (o : SafeOut) : State :=
  let s := s.commitInputs c
  let x := s.chn y
  let s := s.setChn y { x with cmd := x.cmd &&& o.sb.toNat, latches := x.latches ++ o.latches.filter (fun l => !x.latches.contains l) }
  let s := (List.range 8).foldl (fun s n => s.htCommit { c with ht := [] } o n) s
  { s with safety := { s.safety with bad := false } }

/-- SAFETY_COMMIT (R436, R437): `x` and `y` are the results of channels X and Y. -/
def State.safetyCommit (s : State) (x y : SafeOut) : State :=
  match s.safety.cycle with
  | none => s
  | some c =>
    let done := fun s : State =>
      { s.raise E.Saf.SAFETY_EXEC_MAX ((s.now - c.release) / 1000) with
        safety := { (s.raise E.Saf.SAFETY_EXEC_MAX ((s.now - c.release) / 1000)).safety with cycle := none } }
    match c.lone with
    | some l => if s.pairRuns (s.safePair l) then done (s.commitLone c l (if l then y else x)) else s
    | none =>
      if !s.pairRuns (s.safePair false) || !s.pairRuns (s.safePair true) then s
      else if sameResults c.rejoined x y then done (s.commitBoth c x)
      else
        let s := s.safetyStop (if c.rejoined then 3 else 1)
        done { s with safety := { s.safety with bad := true } }

/-! ## Resets, holding-test requests, ESC reception, the parameter set -/

/-- A cause of SAFETY_STOP is present (R438): the last cycle failed, a section is silent, or an injection test of a pair runs, until its
channel has rejoined (R145). -/
def State.causePresent (s : State) : Bool :=
  let silent := fun c : Chan => decide (c.rxAt + 1000000 * s.rd E.Saf.SAFE_WATCHDOG < s.now)
  s.safety.bad || silent s.safety.cx || silent s.safety.cy || !s.pairRuns (s.safePair false) || !s.pairRuns (s.safePair true)
    || (s.rd E.Saf.SAFETY_CAUSE == 6 && s.safety.lone.isSome)

/-- SAFETY_RESET while a cause is present ends with MODE_CONFLICT (R438). -/
def State.chkSafetyReset (s : State) (v : Nat) : Nat := need (v == 0 || s.safeState != 3 || !s.causePresent) stMode

/-- SAFETY_RESET (R438, R470): recorded with the requesting node. -/
def State.effSafetyReset (s : State) (v node : Nat) : State :=
  if v = 0 || s.safeState != 3 then s
  else
    let s := s.log 0x09 0x05 (vU32 node)
    let s := (s.wr E.Saf.SAFETY_CAUSE 0).setSafe 1
    { s with safety := { s.safety with good := 0, cycle := none } }

/-- HT_START (R451): a request during a running test ends REFUSED. -/
def State.effHtStart (s : State) (n v : Nat) : State :=
  if v = 0 then s
  else if (s.sb n).reqAt.isSome then s.htEnd n 4
  else if [1, 2, 3].contains s.safeState then s.setSb n { s.sb n with start := true }
  else s.htEnd n 4

/-- A received copy is valid (R456). -/
def State.escParse (s : State) (b : List Byte) : Option (Nat × EscCopy) :=
  let n := beAt b 14 2
  let k := beAt b 12 2
  match (s.conn k).def_ with
  | some d =>
    if k < 16 && b.length == 32 + n && beAt b 0 2 == 0x4553 && beAt b 2 1 == 1 && beAt b (28 + n) 4 == crc32c (b.take (28 + n))
        && beAt b 24 4 == d.signature && beAt b 4 4 % 2 ^ 18 == d.peerNode && beAt b 8 4 % 2 ^ 18 == s.rd E.Id.NODE_ID_ACTIVE
        && n == d.rxLen then
      some (k, { seq := beAt b 16 4, echo := beAt b 20 4, safe := bitOf (beAt b 3 1) 0, payload := slice b 28 n, bytes := b })
    else none
  | none => none

/-- ESC_FRAME_RECEIVED (R456): the channel's ring gives its oldest copy. -/
def State.escReceived (s : State) (y : Bool) : State :=
  match s.pop (if y then 36 else 35) with
  | (s, some (.rx f)) =>
    (match s.escParse f.frame.payload with
    | some (k, c) =>
      let x := s.conn k
      s.setConn k (if y then { x with copiesY := (c :: x.copiesY).take 4 } else { x with copiesX := (c :: x.copiesX).take 4 })
    | none => s.inc (if y then E.Esc.ESC_INVALID_B else E.Esc.ESC_INVALID_A))
  | (s, _) => s

/-- SPS_DATA fits the staging area (Table SAF-11). -/
def State.chkSpsData (s : State) (b : List Byte) : Nat := need (s.rd E.Saf.SPS_OFFSET + b.length ≤ 262144) stRange

/-- SPS_DATA (R464). -/
def State.effSpsData (s : State) (b : List Byte) : State :=
  let o := s.rd E.Saf.SPS_OFFSET
  let s := { s with safety := { s.safety with staging := s.safety.staging.writeList o b } }
  (s.raise E.Saf.SPS_LENGTH (o + b.length)).wr E.Saf.SPS_OFFSET (o + b.length)

/-- The record of a commit of a parameter set (R464): old and new SPS_CRC and node. -/
def State.logSps (s : State) (old new node : Nat) : State := s.log 0x09 0x04 (vU32 old ++ vU32 new ++ vU32 node)

/-- SPS_COMMIT is accepted only with every brake de-energised and no holding test running (R464). -/
def State.chkSpsCommit (s : State) : Nat :=
  need ((List.range 8).all (fun n => s.rd (E.Sb.SB_STATE n) != 1 && (s.sb n).reqAt.isNone)) stMode

/-- The copy of the safety-parameter partition with the higher generation. -/
def SafetySt.newest (x : SafetySt) : Option (Nat × SafetySet × Nat × Nat) :=
  match x.copies.find 0, x.copies.find 1 with
  | some a, some b => if genFollows a.2.2 b.2.2 then some (0, a) else some (1, b)
  | some a, none => some (0, a)
  | none, some b => some (1, b)
  | none, none => none

/-- The set that a start finds in MRAM, with its CRC. -/
def SafetySt.stored (x : SafetySt) : Option (SafetySet × Nat) := x.newest.map (fun c => (c.2.1, c.2.2.1))

/-- A set is stored in the copy that does not hold the newest one, its generation one higher, and in the backup (R464, Table ARC-9). -/
def SafetySt.keep (x : SafetySt) (p : SafetySet) (crc : Nat) : SafetySt :=
  let c := match x.newest with
    | some (k, _, _, g) => (1 - k, (g + 1) % 2 ^ 32)
    | none => (0, 1)
  { x with copies := x.copies.put c.1 (p, crc, c.2), backup := some (p, crc) }

/-- SPS_COMMIT (R464): the checks in order, then the set is stored and the safety program starts again. -/
def State.effSpsCommit (s : State) (crc node : Nat) : State :=
  let b := s.safety.staging.readList 0 (s.rd E.Saf.SPS_LENGTH)
  let old := s.rd E.Saf.SPS_CRC
  match Config.spsReading b with
  | none => (s.wr E.Saf.SPS_RESULT 1).logSps old crc node
  | some p =>
    if !setOk p then (s.wr E.Saf.SPS_RESULT 2).logSps old crc node
    else if crc32c b != crc then (s.wr E.Saf.SPS_RESULT 3).logSps old crc node
    else
      let s := (s.wr E.Saf.SPS_RESULT 0).logSps old crc node
      let s := { s with safety := { s.safety.keep p crc with set := some p } }
      (s.showSet p crc).safetyConfigure

/-! ## Commands -/

/-- SAFETY_RELEASE (R436). -/
def execSafetyRelease (at_ : Nat) (s : State) : Result := .next ((s.advance at_).safetyRelease)
/-- SAFETY_COMMIT (R436). -/
def execSafetyCommit (at_ : Nat) (x y : SafeOut) (s : State) : Result := .next ((s.advance at_).safetyCommit x y)
/-- ESC_FRAME_RECEIVED (R456). -/
def execEscFrameReceived (at_ : Nat) (lanB : Bool) (s : State) : Result := .next ((s.advance at_).escReceived lanB)

end Sys2Proof.Machine
end

