-- ==== Sys2Proof/Machine/FieldSide.lean ====
section
/-!
DEFINITION. Machine/FieldSide.lean: field frames in both directions, SILENCE, RESUME and the field enable (R27, R28, R369,
R371 to R375, R397, R425, R426, R433, R449).
-/
namespace Sys2Proof.Machine

/-- The field frame in progress started at this frame boundary (R28). -/
def State.frameStart (s : State) : Nat := s.now / 50000 * 50000

/-- Every state of the field side that follows its enable and its mode. -/
def State.showFieldSide (s : State) : State := ((s.refreshDos.refreshAos).showField).showAnalog

/-! ## SILENCE and RESUME (R372, R373) -/

/-- The field side enters SILENCE. -/
def State.enterSilence (s : State) : State :=
  let s := { s with field := { s.field with silence := true } }
  let s := ((s.incR E.Grp.SILENCE_EVENTS).wrT E.Grp.LAST_SILENCE_TB3 s.now).fieldDiag 0x04 0 0x30 1
  (s.showFieldSide.axesSilence).brakesOff

/-- SILENCE_TIMEOUT (R372). -/
def State.silenceTimeout (s : State) : State :=
  let f := s.field
  if f.powered && !f.silence && !f.hold && f.lastValid + 1000000 * f.timeout ≤ s.now then s.enterSilence else s

/-- RESUME (R373): SILENCE, the start hold and the shed state end. -/
def State.fieldResume (s : State) : State :=
  let was := s.field.silence
  let s := { s with field := { s.field with silence := false, hold := false, shed := false } }
  let s := if was then s.fieldDiag 0x04 0 0x31 0 else s
  s.showAis

/-! ## The field enable (R374, R397, R426, R449) -/

/-- The field enable asserts. -/
def State.fieldOn (s : State) : State :=
  if s.field.enable then s
  else ({ s with field := { s.field with enable := true, enableAt := s.now } }.showFieldSide).showSbs

/-- The field enable deasserts. -/
def State.fieldOff (s : State) : State :=
  if !s.field.enable then s
  else
    let s := { s with field := { s.field with enable := false } }
    ((s.showFieldSide.bypassCloses).axesDisable).brakesOff

/-! ## From the logic side (R28, R369, R371, R392) -/

/-- The value in effect for an output point since the last frame boundary. -/
def State.effect (s : State) (p : Nat) : Nat := s.rt.effective.fetch 0 p

/-- A tripped output whose latch has held OFF for a field frame leaves TRIPPED under LATCHED (R368). -/
def State.offReset (s : State) (o : Nat) : State :=
  let x := s.dout o
  if !x.tripped || !x.latched || s.leadOf o != o then s
  else if s.on (E.Do.DO_COMMANDED o) then s.setDout o { x with offFrames := 0 }
  else
    let s := s.setDout o { x with offFrames := x.offFrames + 1 }
    if 2 ≤ x.offFrames + 1 then s.leaveTrip o else s

/-- The latches take the commands of a frame. -/
def State.latchOutputs (s : State) : State :=
  let s := (List.range 64).foldl (fun s o => s.wr (E.Do.DO_COMMANDED o) (ofBool (s.effect (pointId 2 (s.leadOf o)) != 0))) s
  let s := (List.range 64).foldl (fun s o => s.offReset o) s
  (List.range 16).foldl (fun s o => s.aoCommand o (s.effect (pointId 4 o))) s

/-- FIELD_FRAME_TO_FIELD (R371): `ok` says that the frame's check passes, `okX` and `okY` those of the sub-frames (R433); `demag`
lists the energies in mJ of the switch-offs that follow (R366). -/
def State.frameToField (s : State) (ok okX okY : Bool) (demag : List (Nat × Nat)) : State :=
  if !s.field.powered then s
  else if !ok then
    let n := min 255 (s.field.errors + 1)
    ({ s with field := { s.field with errors := n } }.inc E.Grp.FIELD_FRAME_ERRORS).fieldDiag 0x04 0 0x32 n
  else
    let s := { s with field := { s.field with lastValid := s.now, errors := 0, timeout := s.rd E.Grp.SILENCE_TIMEOUT } }
    let s := if s.field.resume && (s.field.silence || s.field.hold || s.field.shed) then s.fieldResume else s
    let s := if okX && s.pairRuns (s.safePair false) then s.takeSub false else s
    let s := if okY && s.pairRuns (s.safePair true) then s.takeSub true else s
    let s := s.takeResets
    let s := if s.fieldFollows then (s.latchOutputs).segments s.frameStart else s
    let s := s.showFieldSide
    demag.foldl (fun s d => if d.1 < 64 && !(s.dout d.1).on then s.demag d.1 d.2 else s) s

/-! ## To the logic side (R28, R357, R375, R381, R417, R433) -/

/-- Measurements of outputs and groups (Tables DIO-9 and DIO-11). -/
def State.measureDo (s : State) (f : FieldIn) : State :=
  let s := f.doMeas.foldl (fun s m => if m.1 < 64 then (s.wr (E.Do.DO_CURRENT m.1) m.2.1).wr (E.Do.DO_VOLTAGE m.1) m.2.2 else s) s
  let s := f.groups.foldl (fun s m => if m.1 < 8 then (s.wr (E.Grp.GROUP_VOLTAGE m.1) m.2.1).wr (E.Grp.GROUP_TEMP m.1) m.2.2 else s) s
  let s := (List.range 8).foldl (fun s g => s.wr (E.Grp.GROUP_CURRENT g)
    ((List.range 8).foldl (fun a k => fmt32.add a (s.rd (E.Do.DO_CURRENT (8 * g + k)))) 0)) s
  let s := f.sbMeas.foldl (fun s m => if m.1 < 8 then s.wr (E.Sb.SB_CURRENT m.1) m.2 else s) s
  f.tpMeas.foldl (fun s m => if m.1 < 4 then s.wr (E.Si.TP_CURRENT m.1) m.2 else s) s

/-- FIELD_DIAG entries go onto ring 41 (R375). -/
def State.takeDiag (s : State) : State :=
  s.field.diagOut.foldl (fun s b => s.place 41 (.bytes b)) { s with field := { s.field with diagOut := [] } }

/-- The states and diagnostics of the field side reach the logic side (R27). -/
def State.takeStates (s : State) : State :=
  { s with field := { s.field with shown := { cells := s.od.cells.filter (fun c => linkKey c.1) } } }

/-- FIELD_FRAME_TO_LOGIC (R28): the field side samples; what a valid frame carries reaches the logic side. -/
def State.frameToLogic (s : State) (ok : Bool) (f : FieldIn) : State :=
  if !s.field.powered then s
  else
    let start := s.frameStart
    let s := (s.sampleDi start f.di).readLimits
    let s := (s.sampleSi false start f.siX).sampleSi true start f.siY
    let s := { s with field := { s.field with frameOk := ok } }
    if !ok then s
    else
      let s := (s.showDi.takeAi start).measureDo f
      let s := s.measureAo f.aoMeas f.rail
      let s := if f.okX then s.takeSection false else s
      let s := if f.okY then s.takeSection true else s
      ((s.takeAxes).takeDiag).takeStates

/-! ## Commands -/

/-- FIELD_FRAME_TO_FIELD (R371). -/
def execFieldFrameToField (at_ : Nat) (ok okX okY : Bool) (demag : List (Nat × Nat)) (s : State) : Result :=
  .next ((s.advance at_).frameToField ok okX okY demag)
/-- FIELD_FRAME_TO_LOGIC (R28). -/
def execFieldFrameToLogic (at_ : Nat) (ok : Bool) (f : FieldIn) (s : State) : Result :=
  .next ((s.advance at_).frameToLogic ok f)
/-- SILENCE_TIMEOUT (R372). -/
def execSilenceTimeout (at_ : Nat) (s : State) : Result := .next ((s.advance at_).silenceTimeout)

end Sys2Proof.Machine
end

