-- ==== Sys2Proof/Machine/Outputs.lean ====
section
/-!
DEFINITION. Machine/Outputs.lean: the value in effect for each output point: the value committed by its writer, a force, or
a safe value (R98, R109, R110, R112, R140, R559); STOP_ACTION; SAFE_STATE.
-/
namespace Sys2Proof.Machine

/-- The safe value of a DO or AO point (R98, R140, R372, R396): HOLD keeps the last committed value; before any commit it
gives OFF and 0 mA (R559). -/
def State.safeValue (s : State) (p : Nat) : Nat :=
  let n := pointNumber p
  let last := s.rt.outs.fetch 0 p
  match pointClass p with
  | 2 =>
    (match s.rd (E.Do.DO_SAFE_STATE n) with
      | 0 => 0
      | 1 => 1
      | _ => last)
  | 4 =>
    (match s.rd (E.Ao.AO_SAFE_MODE n) with
      | 0 => 0
      | 1 => last
      | _ => s.rd (E.Ao.AO_SAFE_VALUE n))
  | _ => 0

/-- The value in effect for a DO or AO point under the active forces `fs`. -/
def State.inEffect (s : State) (fs : List (Nat × Nat)) (p : Nat) : Nat :=
  if s.inSafe then s.safeValue p
  else match fs.find? (fun f => f.1 == p) with
  | some f => f.2
  | none =>
    match s.writerOf p with
    | none => s.safeValue p
    | some _ => (s.rt.outs.find p).getD (s.safeValue p)

/-- DO and AO points. -/
def outputPoints : List Nat := (List.range 64).map (pointId 2) ++ (List.range 16).map (pointId 4)

/-- A point whose orphaned force was removed has no writer and takes its SAFE value (R112): DO and AO as `inEffect` says, a station
byte the archive's value, a CAN object sends nothing. -/
def State.freePoint (s : State) (p : Nat) : State :=
  let n := pointNumber p
  match pointClass p with
  | 6 => s.writeStationByte (n / 1024) (n % 1024) ((s.decl p).map (·.safe) |>.getD 0)
  | 7 => s.stopObject (n / 2048) (n / 64 % 32)
  | _ => s

/-- The logic side sets the values that the field link sends (R28, R109, R140): at a frame boundary the forces on outputs take effect
and end. -/
def State.setEffective (s : State) : State :=
  let fs := s.forceList
  let s := s.rt.freed.foldl State.freePoint s
  { s with rt := { s.rt with forced := fs.filter (fun f => isOutputPoint f.1), freed := []
                             effective := outputPoints.foldl (fun m p => m.store 0 p (s.inEffect fs p)) s.rt.effective } }

/-- A point takes its SAFE value as by STOP_ACTION (R98). -/
def State.stopPoint (s : State) (d : PointDecl) : State :=
  let n := pointNumber d.point
  match pointClass d.point with
  | 2 => { s with rt := { s.rt with outs := s.rt.outs.put d.point (s.safeValue d.point) } }
  | 4 => { s with rt := { s.rt with outs := s.rt.outs.put d.point (s.safeValue d.point) } }
  | 6 => s.writeStationByte (n / 1024) (n % 1024) d.safe
  | 7 => s.stopObject (n / 2048) (n / 64 % 32)
  | _ => s

/-- A point that a task writes. -/
def writtenByTask (d : PointDecl) : Bool :=
  match d.writer with
  | some (.task _) => true
  | _ => false

/-- STOP_ACTIONs at the first frame boundary after STOP is entered (R98, R427). -/
def State.applyStop (s : State) : State :=
  if !s.rt.stopApply then s
  else
    let s := { s with rt := { s.rt with stopApply := false } }
    match s.rt.archive with
    | none => s
    | some a => ((a.points.filter (fun d => writtenByTask d && !d.keep)).foldl State.stopPoint s).axesStop

/-- No CAN object sends in SAFE_STATE (R140): nothing is pending or released until its writer commits after the next start. -/
def State.muteCan (s : State) : State :=
  { s with can := { cells := s.can.cells.map (fun c => (c.1, { c.2 with objs := { cells := c.2.objs.cells.map (fun o =>
    (o.1, { o.2 with committed := false, next := false, pend := o.2.pend.filter (·.started) })) } })) } }

/-- Every output takes its safe value at once (R140): stations their SAFE values, CAN objects send nothing, axes act under
AXIS_SAFE_MODE, the safety program's outputs are de-energised. -/
def State.safeOutputs (s : State) : State :=
  let s := s.setEffective
  let s := s.ecx.stations.keys.foldl (fun s n => s.substituteOutputs n) s
  (s.muteCan.axesSilence).safetyOff

/-- MODULE_STATE becomes SAFE_STATE: STOP as by STOP_NOW with a cause, safe outputs, recorded (R97, R139, R140). In RESTORE_FAULT the
outputs already hold their safe values. -/
def State.enterSafe (s : State) (cause : Nat) : State :=
  if s.rd E.Id.MODULE_STATE = 3 then s
  else
    let safe := s.inSafe
    let s := (((s.wr E.Id.MODULE_STATE 3).log 0x01 0x04 (vU8 3)).stopNow cause).wr E.Run.STOP_CAUSE cause
    let s := { s with rt := { s.rt with stopApply := false } }
    if safe then s else s.safeOutputs

end Sys2Proof.Machine
end

