-- ==== Sys2Proof/Machine/Checkpoint.lean ====
section
/-!
DEFINITION. Machine/Checkpoint.lean: what a checkpoint captures and how a module continues from one (R119, R134, R259, R327,
R353, R428, R492, R495, R548, R561); the Doubles restart of a pair's tasks (R121).
-/
namespace Sys2Proof.Machine

/-- The TB3 instant in nanoseconds that a TIME96 entry reports (R581). -/
def nsOfTime96 (n : Nat) : Int := intOf 48 (n / 2 ^ 48) * 1000000000 + ((n / 2 ^ 16 % 2 ^ 32 : Nat) : Int)

/-- The record of a task (R119, R134). -/
def State.taskRec (s : State) (t : Nat) : TaskRec :=
  let x := s.task t
  let held := match x.turn with
    | some u => u.errors
    | none => []
  { turnNumber := x.turnNumber, errors := held ++ x.errors, view := x.view, first := x.first, outs := x.outs
    abandoned := x.turn.map (·.snap.release)
    lastRelease := nsOfTime96 (s.rd (E.Task.LAST_RELEASE t)), lastCommit := nsOfTime96 (s.rd (E.Task.LAST_COMMIT t)) }

/-- The record of a loop (R259). -/
def State.loopRec (s : State) (l : Nat) (x : LoopSt) : LoopRec :=
  let refs : List (Nat × Nat) := match x.attr with
    | none => []
    | some d => (List.range d.stages.length).filterMap (fun j =>
        if (d.stages[j]?).any (fun g => g.code == 0x0D) then some (j, x.states.fetch 0 (4 * j)) else none)
  { mode := s.rd (E.Loop.LOOP_MODE l), spLocal := s.rd (E.Loop.SP_LOCAL l), outMan := s.rd (E.Loop.OUT_MAN l)
    bank := s.rd (E.Loop.BANK_ACTIVE l), fault := x.faultSwap, lastMan := x.lastMan, refs := { cells := refs } }

/-- The record of an axis (R428). -/
def axisRec (x : AxisSt) : AxisRec :=
  { pos := counter x, state := x.state, valid := x.valid, moving := x.move.isSome || x.homing.isSome || !atRest x }

/-- The committed state of the module at `stamp` (R119, R134, R548, Table TWN-4). -/
def State.capture (s : State) (stamp : Int) : Saved :=
  { stamp := stamp, vars := s.rt.vars, insts := s.rt.insts
    tasks := { cells := s.taskIds.map (fun t => (t, s.taskRec t)) }
    words := s.tally.words, outs := s.rt.outs
    loops := { cells := s.tally.loops.cells.map (fun c => (c.1, (s.tally.recs.find c.1).getD (s.loopRec c.1 c.2))) }
    axes := { cells := s.motion.axes.cells.map (fun c => (c.1, axisRec c.2)) }
    cycle := s.rd E.Ecx.CYCLE_NUMBER
    stations := { cells := s.ecx.stations.cells.map (fun c => (c.1, { state := s.rd (E.Station.STATION_STATE c.1), image := c.2.image })) }
    can := { cells := s.can.cells.flatMap (fun c =>
      (c.2.objs.cells.filter (fun o => o.2.committed)).map (fun o => (64 * c.1 + o.1, o.2.image))) }
    forces := { cells := (List.range 240).filterMap (fun f =>
      if s.forcePoint f = 0 then none
      else some (f, { point := s.forcePoint f, value := s.rd (E.Force.FORCE_VALUE f)
                      active := s.on (E.Force.FORCE_ACTIVE f), setBy := s.rd (E.Force.FORCE_SET_BY f) })) }
    mode := s.rd E.Run.RUNTIME_MODE, cause := s.rd E.Run.STOP_CAUSE
    targets := if s.twinBase then { cells := (List.range 32).map (fun i => (i, s.rd (E.Ai.SUPPLY_TARGET i))) } else {} }

/-- A map overlaid with the cells of another. -/
def overlayMap {α : Type} (m n : SMap α) : SMap α := n.cells.foldl (fun m c => m.put c.1 c.2) m

/-- The twin checkpoint with a delta's pages and its records `recs` (R484, R486, Table TWN-4). -/
def mergeSaved (recs : List Nat) (a b : Saved) : Saved :=
  let has := fun k => recs.contains k
  { stamp := b.stamp, vars := overlayMap a.vars b.vars, insts := overlayMap a.insts b.insts, tasks := overlayMap a.tasks b.tasks
    words := overlayMap a.words b.words, targets := overlayMap a.targets b.targets
    outs := if has 0x01 then overlayMap a.outs b.outs else a.outs
    loops := if has 0x02 then overlayMap a.loops b.loops else a.loops
    axes := if has 0x03 then overlayMap a.axes b.axes else a.axes
    cycle := if has 0x05 then b.cycle else a.cycle
    stations := if has 0x05 then overlayMap a.stations b.stations else a.stations
    can := if has 0x06 then overlayMap a.can b.can else a.can
    forces := if has 0x07 then b.forces else a.forces
    mode := if has 0x08 then b.mode else a.mode
    cause := if has 0x08 then b.cause else a.cause }

/-! ## Continuing from a checkpoint -/

/-- A task resumes (R121): RESUMED in the header of its next turn, and an error record with the restart kind of Table RUN-11 and
the abandoned release, 0 where no turn was abandoned. -/
def State.resumeTask (s : State) (kind t : Nat) : State :=
  let x := s.task t
  (s.setTask t { x with resumed := true, abandonedRelease := none }).queueErr t
    { cause := 5, data := [kind], stamp := some (x.abandonedRelease.getD 0) }

/-- An error record with its instant moved by `shift` (R492, R561). -/
def shiftErr (shift : Int) (r : ErrRec) : ErrRec := { r with stamp := r.stamp.map (· + shift) }

/-- A task takes its record, its instants moved by `shift` (R492, R561). -/
def State.restoreTask (s : State) (shift : Int) (kind t : Nat) (r : TaskRec) : State :=
  let x := s.task t
  if x.attr.isNone then s
  else
    let s := s.setTask t { x with turn := none, turnNumber := r.turnNumber, errors := r.errors.map (shiftErr shift), view := r.view
                                  first := r.first, outs := r.outs, abandonedRelease := r.abandoned.map (· + shift) }
    let s := (s.wrT (E.Task.LAST_RELEASE t) (r.lastRelease + shift)).wrT (E.Task.LAST_COMMIT t) (r.lastCommit + shift)
    s.resumeTask kind t

/-- A loop takes its record (R259): its first sample presets to the recorded MAN_POINT value. -/
def State.restoreLoop (s : State) (l : Nat) (r : LoopRec) : State :=
  match s.tally.loops.find l with
  | none => s
  | some x =>
    let x := { x with lastMan := r.lastMan, startMan := some r.lastMan, faultSwap := r.fault
                      states := r.refs.cells.foldl (fun m c => m.store 0 (4 * c.1) c.2) x.states }
    let s := { s with tally := { s.tally with loops := s.tally.loops.put l x } }
    (((s.wr (E.Loop.LOOP_MODE l) r.mode).wr (E.Loop.SP_LOCAL l) r.spLocal).wr (E.Loop.OUT_MAN l) r.outMan).wr (E.Loop.BANK_ACTIVE l) r.bank

/-- An axis takes its record (R428): its position only at rest, valid, under KEEP; ENA stays deasserted. -/
def State.restoreAxis (s : State) (a : Nat) (r : AxisRec) : State :=
  let keep := !r.moving && r.valid && s.rd (E.Ax.RETENTION a) == 0
  (s.setAx a { (s.ax a) with x := atCount r.pos, v := 0, a := 0, move := none, homing := none, ena := false, valid := keep }).showAxis a

/-- A station takes its record (R327). -/
def State.restoreStation (s : State) (n : Nat) (r : StationRec) : State :=
  let x := s.station n
  ((s.setStation n { x with image := r.image, valid := 0 }).wr (E.Station.STATION_STATE n) r.state).wr (E.Station.MISS_CONSEC n) 0

/-- A force slot as checkpointed (R111). -/
def State.restoreForce (s : State) (f : Nat) (r : ForceRec) : State :=
  (((s.wr (E.Force.FORCE_POINT f) r.point).wr (E.Force.FORCE_VALUE f) r.value).wr (E.Force.FORCE_ACTIVE f) (ofBool r.active)).wr
    (E.Force.FORCE_SET_BY f) r.setBy

/-- An instance's timing start moved by `shift`. -/
def shiftInst (shift : Int) (i : FbInst) : FbInst := { i with since := i.since.map (· + shift) }

/-- The module continues from a checkpoint (R492, R495, R561): every instant moved by `shift`, tasks resumed with restart kind
`kind`, HOLD resumed as STOP (R101). -/
def State.restore (s : State) (c : Saved) (shift : Int) (kind : Nat) : State :=
  let s := { s with rt := { s.rt with
    vars := overlayMap s.rt.vars c.vars
    insts := overlayMap s.rt.insts { cells := c.insts.cells.map (fun (i : Nat × FbInst) => (i.1, shiftInst shift i.2)) }
    outs := overlayMap s.rt.outs c.outs, holdSince := none, stopApply := c.mode != 0 } }
  let s := { s with tally := { s.tally with words := c.words } }
  let s := (List.range 240).foldl (fun s f => s.restoreForce f (c.forces.fetch { point := 0, value := 0, active := false, setBy := 0 } f)) s
  let s := c.tasks.cells.foldl (fun s t => s.restoreTask shift kind t.1 t.2) s
  let s := c.loops.cells.foldl (fun s l => s.restoreLoop l.1 l.2) s
  let s := c.axes.cells.foldl (fun s a => s.restoreAxis a.1 a.2) s
  let s := (c.stations.cells.foldl (fun (s : State) (n : Nat × StationRec) => s.restoreStation n.1 n.2) s).wr E.Ecx.CYCLE_NUMBER c.cycle
  let s := c.can.cells.foldl (fun s o => s.setObj (o.1 / 64) (o.1 % 64) { (s.obj (o.1 / 64) (o.1 % 64)) with image := o.2, committed := true }) s
  let s := (s.wr E.Run.STOP_CAUSE c.cause).wr E.Run.HOLD_TASK 0xFF
  let s := s.setMode (if c.mode = 0 then 0 else 1)
  s.setEffective

/-- Every board of the archive and of flash is loaded anew (R162, R207): LOADING until its load completes; sequences, warm starts,
queues and reservations are gone. -/
def State.frameReload (s : State) : State :=
  let arch := match s.rt.archive with
    | none => []
    | some a => a.boards
  let m := s.frame.flash.cells.foldl (fun m c => m.put c.1 ({ st := 1, source := 1, loading := some c.2 } : Board)) ({} : SMap Board)
  let m := arch.foldl (fun m c => m.put c.1 { st := 1, source := 0, loading := some c.2 }) m
  { s with frame := { flash := s.frame.flash, staging := s.frame.staging, boards := m } }

/-- A nonempty commit of a pair's checkpoint (R136): its generation rises by one modulo 2^32. -/
def State.pairCommit (s : State) (d : Nat) : State := s.wr (E.Dbl.CKPT_GENERATION d) (s.rd (E.Dbl.CKPT_GENERATION d) + 1)

/-- A commit of the services (R134): on the pair that runs them. -/
def State.servicesCommit (s : State) : State :=
  if s.rd E.Dbl.SERVICES_PAIR < 4 then s.pairCommit (s.rd E.Dbl.SERVICES_PAIR) else s

end Sys2Proof.Machine
end

