-- ==== Sys2Proof/Machine/FrameBoard.lean ====
section
/-!
DEFINITION. Machine/FrameBoard.lean: boards of the Counting Frame. Reading and checking a descriptor (R151 to R160), the
settings (R180), batches of moves (R165 to R171), the position's bytes (R172) and the bounds of R163, R210 and R211.
-/
namespace Sys2Proof.Machine

/-- `n` rounded up to a multiple of 4 (R155). -/
def pad4 (n : Nat) : Nat := (n + 3) / 4 * 4

/-- `cnt` little-endian elements of `w` bytes from byte `off`. -/
def leArray (bs : List Byte) (off w cnt : Nat) : List Nat := (List.range cnt).map (fun i => leAt bs (off + w * i) w)

/-- `x` inserted into a rising list, once. -/
def insertRising (x : Nat) : List Nat → List Nat
  | [] => [x]
  | y :: ys => if x < y then x :: y :: ys else if x = y then y :: ys else y :: insertRising x ys

/-- The union of two rising lists. -/
def unionRising (xs ys : List Nat) : List Nat := xs.foldl (fun a x => insertRising x a) ys

/-- The list rises strictly. -/
def isRising : List Nat → Bool
  | [] => true
  | [_] => true
  | x :: y :: r => decide (x < y) && isRising (y :: r)

/-- The list never decreases. -/
def isSorted : List Nat → Bool
  | [] => true
  | [_] => true
  | x :: y :: r => decide (x ≤ y) && isSorted (y :: r)

/-- The entries of a compressed-column pattern as (row, column, position in value order). -/
def triplets (ptr row : List Nat) : List (Nat × Nat × Nat) :=
  (List.range (ptr.length - 1)).flatMap (fun j =>
    let a := ptr.getD j 0
    let b := ptr.getD (j + 1) 0
    (List.range (b - a)).map (fun k => (row.getD (a + k) 0, j, a + k)))

/-- The sizes of the fifteen sections of Table FRM-3, before padding. -/
def sectionSizes (n m nnzP nnzA : Nat) : List Nat :=
  [64, 4 * n, 4 * m, 4 * (n + 1), 2 * nnzP, 4 * (n + 1), 2 * nnzA, 2 * (n + m), 2 * (n + m), 4 * (n + m),
   4 * nnzP, 4 * nnzA, 4 * n, 4 * m, 4 * m]

/-- The byte at which section `k` (from 0) begins (R155). -/
def sectionAt (sizes : List Nat) (k : Nat) : Nat := 128 + sumNat ((sizes.take k).map pad4)

/-- The structure that a descriptor's bytes spell (Tables FRM-2 and FRM-3). -/
def readDesc (bs : List Byte) : Desc :=
  let n := leAt bs 8 2
  let m := leAt bs 10 2
  let nnzP := leAt bs 12 4
  let nnzA := leAt bs 16 4
  let sz := sectionSizes n m nnzP nnzA
  { rod := leAt bs 6 1 == 1, lo := leAt bs 7 1 == 1, n := n, m := m, nnzP := nnzP, nnzA := nnzA,
    nnzL := leAt bs 20 4, signature := leAt bs 24 4, totalLength := leAt bs 28 4, tag := leAt bs 32 4,
    writer := leAt bs 36 1, name := (slice bs 40 24).takeWhile (· != 0),
    scaleD := leArray bs (sectionAt sz 1) 4 n, scaleE := leArray bs (sectionAt sz 2) 4 m,
    pCol := leArray bs (sectionAt sz 3) 4 (n + 1), pRow := leArray bs (sectionAt sz 4) 2 nnzP,
    aCol := leArray bs (sectionAt sz 5) 4 (n + 1), aRow := leArray bs (sectionAt sz 6) 2 nnzA,
    perm := leArray bs (sectionAt sz 7) 2 (n + m), etree := leArray bs (sectionAt sz 8) 2 (n + m),
    colCount := leArray bs (sectionAt sz 9) 4 (n + m) }

/-- The initial numbers of a descriptor (sections 11 to 15). -/
def readVals (bs : List Byte) (d : Desc) : BoardVals :=
  let sz := sectionSizes d.n d.m d.nnzP d.nnzA
  { p := leArray bs (sectionAt sz 10) 4 d.nnzP, a := leArray bs (sectionAt sz 11) 4 d.nnzA,
    q := leArray bs (sectionAt sz 12) 4 d.n, l := leArray bs (sectionAt sz 13) 4 d.m,
    u := leArray bs (sectionAt sz 14) 4 d.m }

/-- The settings that a 64-byte block spells (Table FRM-11). -/
def readSettings (b : List Byte) : Settings :=
  { maxIter := leAt b 0 4, checkInterval := leAt b 4 4, epsAbs := leAt b 8 4, epsRel := leAt b 12 4,
    epsPinf := leAt b 16 4, epsDinf := leAt b 20 4, rho := leAt b 24 4, rhoEq := leAt b 28 4, rhoFree := leAt b 32 4,
    sigma := leAt b 36 4, omega := leAt b 40 4, epsPiv := leAt b 44 4, delta := leAt b 48 4,
    refineSteps := leAt b 52 1, stepAdapt := leAt b 53 1, adaptMax := leAt b 54 1, warmStart := leAt b 55 1,
    refineTol := leAt b 56 4, boundInf := leAt b 60 4 }

/-- The 64-byte block of a board's settings (Table FRM-11). -/
def settingsBytes (s : Settings) : List Byte :=
  leBytes 4 s.maxIter ++ leBytes 4 s.checkInterval ++ leBytes 4 s.epsAbs ++ leBytes 4 s.epsRel ++ leBytes 4 s.epsPinf ++
  leBytes 4 s.epsDinf ++ leBytes 4 s.rho ++ leBytes 4 s.rhoEq ++ leBytes 4 s.rhoFree ++ leBytes 4 s.sigma ++
  leBytes 4 s.omega ++ leBytes 4 s.epsPiv ++ leBytes 4 s.delta ++ leBytes 1 s.refineSteps ++ leBytes 1 s.stepAdapt ++
  leBytes 1 s.adaptMax ++ leBytes 1 s.warmStart ++ leBytes 4 s.refineTol ++ leBytes 4 s.boundInf

/-- Setting `id` of Table FRM-11 gets value `v`; none for an unknown ID. -/
def putSetting (s : Settings) (id v : Nat) : Option Settings :=
  match id with
  | 0x01 => some { s with maxIter := v } | 0x02 => some { s with checkInterval := v }
  | 0x03 => some { s with epsAbs := v } | 0x04 => some { s with epsRel := v }
  | 0x05 => some { s with epsPinf := v } | 0x06 => some { s with epsDinf := v }
  | 0x07 => some { s with rho := v } | 0x08 => some { s with rhoEq := v }
  | 0x09 => some { s with rhoFree := v } | 0x0A => some { s with sigma := v }
  | 0x0B => some { s with omega := v } | 0x0C => some { s with epsPiv := v }
  | 0x0D => some { s with delta := v } | 0x0E => some { s with refineSteps := v }
  | 0x0F => some { s with stepAdapt := v } | 0x10 => some { s with adaptMax := v }
  | 0x11 => some { s with warmStart := v } | 0x12 => some { s with refineTol := v }
  | 0x13 => some { s with boundInf := v } | _ => none

/-- The setting is an integer (Table FRM-11). -/
def settingIsInt (id : Nat) : Bool := id == 1 || id == 2 || (0x0E ≤ id && id ≤ 0x11)
/-- The setting is one byte wide (Table FRM-11). -/
def settingIsU8 (id : Nat) : Bool := 0x0E ≤ id && id ≤ 0x11

/-- binary32 `v` lies within the values with bits `lo` and `hi`, both included (R48, R180). -/
def within32 (lo hi v : Nat) : Bool := fmt32.le lo v && fmt32.le v hi

/-- Every setting is within Table FRM-11 and the cross-conditions of R180 hold. -/
def settingsOk (s : Settings) : Bool :=
  (1 ≤ s.maxIter && s.maxIter ≤ 4000) && (1 ≤ s.checkInterval && s.checkInterval ≤ 100) &&
  (fmt32.isZero s.epsAbs || within32 0x33D6BF95 0x3F800000 s.epsAbs) && within32 0 0x3F800000 s.epsRel &&
  within32 0x322BCC77 0x3F800000 s.epsPinf && within32 0x322BCC77 0x3F800000 s.epsDinf &&
  within32 0x358637BD 0x49742400 s.rho && within32 s.rho 0x501502F9 s.rhoEq && within32 0x3089705F s.rho s.rhoFree &&
  within32 0x3089705F 0x3F800000 s.sigma && within32 0x3DCCCCCD 0x3FF33333 s.omega &&
  within32 0x3089705F 0x3C23D70A s.epsPiv && within32 s.epsPiv 0x3DCCCCCD s.delta &&
  s.refineSteps ≤ 7 && (s.stepAdapt == 0 || (2 ≤ s.stepAdapt && s.stepAdapt ≤ 50)) && s.adaptMax ≤ 4 &&
  s.warmStart ≤ 1 && within32 0x3089705F 0x3DCCCCCD s.refineTol && within32 0x501502F9 0x7149F2CA s.boundInf &&
  fmt32.lt 0 (fmt32.add s.epsAbs s.epsRel)

/-! ### Checks of a load (Table FRM-4) -/

/-- FORMAT (0x01) of Table FRM-4. -/
def descFormatOk (bs : List Byte) : Bool :=
  let d := readDesc bs
  let sz := sectionSizes d.n d.m d.nnzP d.nnzA
  let total := sectionAt sz 15 + 4
  slice bs 0 4 == ascii "KVFB" && leAt bs 4 2 == 1 && leAt bs 6 1 ≤ 1 && leAt bs 7 1 ≤ 1 && leAt bs 37 3 == 0 &&
  (slice bs 64 64).all (· == 0) && d.totalLength == bs.length && total == bs.length &&
  (List.range 15).all (fun k => (slice bs (sectionAt sz k + sz.getD k 0) (pad4 (sz.getD k 0) - sz.getD k 0)).all (· == 0)) &&
  crc32 (bs.take (bs.length - 4)) == leAt bs (bs.length - 4) 4

/-- LIMITS (0x02): Table FRM-1 for the descriptor's target (R151). -/
def descLimitsOk (d : Desc) : Bool :=
  if d.rod then
    1 ≤ d.n && d.n ≤ 2048 && d.m ≤ 4096 && d.nnzP + d.nnzA ≤ 65536 && d.nnzL ≤ 262144
  else
    1 ≤ d.n && d.n ≤ 256 && d.m ≤ 512 && d.nnzP + d.nnzA ≤ 8192 && d.nnzL ≤ 24576

/-- The rows of each column of a compressed-column pattern. -/
def columnsOf (ptr row : List Nat) : List (List Nat) :=
  (List.range (ptr.length - 1)).map (fun j =>
    (row.drop (ptr.getD j 0)).take (ptr.getD (j + 1) 0 - ptr.getD j 0))

/-- PATTERN (0x03): R156. -/
def descPatternOk (d : Desc) : Bool :=
  let okPtr := fun (ptr : List Nat) (nnz : Nat) =>
    ptr.headD 1 == 0 && isSorted ptr && ptr.getLastD 0 == nnz
  let pc := columnsOf d.pCol d.pRow
  let ac := columnsOf d.aCol d.aRow
  okPtr d.pCol d.nnzP && okPtr d.aCol d.nnzA && pc.all isRising && ac.all isRising &&
  ((List.range d.n).all (fun j => (pc.getD j []).all (· ≤ j))) && (ac.all (fun c => c.all (· < d.m)))

/-- The pattern of the KKT matrix off its diagonal as pairs of KKT indices (R156). -/
def kktPairs (d : Desc) : List (Nat × Nat) :=
  ((triplets d.pCol d.pRow).filter (fun t => t.1 != t.2.1)).map (fun t => (t.1, t.2.1)) ++
  (triplets d.aCol d.aRow).map (fun t => (d.n + t.1, t.2.1))

/-- The position at which a KKT index is eliminated (R157). -/
def posOf (perm : List Nat) (i : Nat) : Nat := perm.findIdx (· == i)

/-- For every position, the positions after it that the permuted KKT pattern joins to it. -/
def laterNeighbours (d : Desc) : List (List Nat) :=
  let prs := (kktPairs d).map (fun p => (posOf d.perm p.1, posOf d.perm p.2))
  (List.range (d.n + d.m)).map (fun k =>
    prs.foldl (fun a p => if p.1 = k ∧ k < p.2 then insertRising p.2 a else if p.2 = k ∧ k < p.1 then insertRising p.1 a else a) [])

/-- The columns of the factor's pattern: column k joins its own pattern and that of each child in the elimination tree. -/
def symbolic : List (List Nat) → Nat → List (List Nat) → List (List Nat)
  | [], _, done => done.reverse
  | own :: rest, k, done =>
    -- `done` holds the columns 0 .. k-1, newest first; a child is a column whose first entry is k
    let col := done.foldl (fun a c => if c.headD k = k ∧ c ≠ [] then unionRising (c.drop 1) a else a) own
    symbolic rest (k + 1) (col :: done)

/-- The pattern below the diagonal of every column of L under the descriptor's ordering (R151, R157). -/
def factorPattern (d : Desc) : List (List Nat) := symbolic (laterNeighbours d) 0 []

/-- SYMBOLIC (0x04): R157. -/
def descSymbolicOk (d : Desc) : Bool :=
  let nn := d.n + d.m
  let pat := factorPattern d
  (List.range nn).all (fun i => d.perm.count i == 1) &&
  d.etree == pat.map (fun c => c.headD 0xFFFF) && d.colCount == pat.map List.length && sumNat d.colCount == d.nnzL

/-- The structure signature of R158: bytes 8 to 23 and sections 4 to 10 with their padding. -/
def descSignature (bs : List Byte) (d : Desc) : Nat :=
  let sz := sectionSizes d.n d.m d.nnzP d.nnzA
  crc32 (slice bs 8 16 ++ slice bs (sectionAt sz 3) (sectionAt sz 10 - sectionAt sz 3))

/-- Some lower bound is above its upper bound. -/
def boundsCross (v : BoardVals) : Bool := (List.zip v.l v.u).any (fun p => fmt32.lt p.2 p.1)

/-- VALUES (0x06) of Table FRM-4. -/
def descValuesOk (d : Desc) (v : BoardVals) : Bool :=
  (d.scaleD ++ d.scaleE).all (fun x => !fmt32.special x && fmt32.lt 0 x) &&
  (v.p ++ v.a ++ v.q ++ v.l ++ v.u).all (fun x => !fmt32.special x) && !boundsCross v

/-- The pages of a board (R163). -/
def footPages (d : Desc) : Nat :=
  ceilDiv (1032 + 36 * d.n + 40 * d.m + 6 * (d.nnzP + d.nnzA) + 6 * d.nnzL) 4096

/-- The first failing check of Table FRM-4 from FORMAT to WRITER, 0 where all pass. `writers` are the task numbers that
the WRITER byte may name; none for a dictionary load. -/
def descResult (bs : List Byte) (writers : Option (List Nat)) : Nat :=
  let d := readDesc bs
  let v := readVals bs d
  if !descFormatOk bs then 0x01
  else if !descLimitsOk d then 0x02
  else if !descPatternOk d then 0x03
  else if !descSymbolicOk d then 0x04
  else if descSignature bs d != d.signature then 0x05
  else if !descValuesOk d v then 0x06
  else if !settingsOk (readSettings (slice bs 128 64)) then 0x07
  else
    match writers with
    | none => if d.writer == 0xFE then 0x00 else 0x08
    | some ts => if ts.contains d.writer then 0x00 else 0x08

/-! ### Scaling (R175) -/

/-- Product of binary32 values. -/
def mul32 (a b : Nat) : Nat := fmt32.mul a b

/-- The cost scale c of R175 over the initial values. -/
def costScale (d : Desc) (v : BoardVals) : Nat :=
  let a := ((List.zip d.scaleD v.q).map (fun p => fmt32.abs (mul32 p.1 p.2))).foldl fmt32.max 0
  let b := ((triplets d.pCol d.pRow).map (fun t =>
    fmt32.abs (mul32 (mul32 (d.scaleD.getD t.1 0) (d.scaleD.getD t.2.1 0)) (v.p.getD t.2.2 0)))).foldl fmt32.max 0
  fmt32.div 0x3F800000 (fmt32.max 0x3F800000 (fmt32.max a b))

/-- A bound is absent (R150). -/
def lowerAbsent (s : Settings) (l : Nat) : Bool := fmt32.le l (fmt32.neg s.boundInf)
/-- A bound is absent (R150). -/
def upperAbsent (s : Settings) (u : Nat) : Bool := fmt32.le s.boundInf u

/-- The classes of a constraint row (R150): 0 equality, 1 free, 2 inequality. -/
def rowClass (s : Settings) (l u : Nat) : Nat :=
  if l = u then 0 else if lowerAbsent s l && upperAbsent s u then 1 else 2

/-- The classes of all rows. -/
def rowClasses (s : Settings) (v : BoardVals) : List Nat := (List.zip v.l v.u).map (fun p => rowClass s p.1 p.2)

/-! ### A load onto a board number (R160) -/

/-- The board that a checked descriptor makes resident (R160, R207); the warm-start candidate of the replaced board stays
(R203). -/
def loadBoard (old : Board) (source : Nat) (bs : List Byte) : Board :=
  let d := readDesc bs
  let v := readVals bs d
  let pos : Position := { n := d.n, m := d.m, x := List.replicate d.n 0, y := List.replicate d.m 0 }
  { st := 2, source := source, desc := d, vals := v, set := readSettings (slice bs 128 64), c := costScale d v,
    refactor := true, warm := old.warm, pos := pos, posOther := pos, cur := old.cur + 1, queue := old.queue }

/-! ### Batches (R165 to R171) -/

/-- One move record (Table FRM-6) with the values of a run. -/
structure MoveRec where
  kind : Nat
  reserved : Nat
  index : Nat
  value : Nat
  run : List Nat
deriving DecidableEq, Repr

/-- The kind is a run (Table FRM-7). -/
def isRun (k : Nat) : Bool := k == 0x11 || k == 0x12 || k == 0x13 || k == 0x18 || k == 0x19

/-- `cnt` records from the bytes after a batch header; none where they do not fill the bytes exactly, or where a run
length or a padding byte is wrong. -/
def readRecords : Nat → List Byte → Option (List MoveRec)
  | 0, bs => if bs.isEmpty then some [] else none
  | c + 1, bs =>
    if bs.length < 8 then none
    else
      let k := leAt bs 0 1
      let v := leAt bs 4 4
      if isRun k then
        let sz := (8 + 4 * v + 7) / 8 * 8
        if v = 0 || 8192 < v || bs.length < sz || (slice bs (8 + 4 * v) (sz - 8 - 4 * v)).any (· != 0) then none
        else (readRecords c (bs.drop sz)).map
          ({ kind := k, reserved := leAt bs 1 1, index := leAt bs 2 2, value := v, run := leArray bs 8 4 v } :: ·)
      else (readRecords c (bs.drop 8)).map
          ({ kind := k, reserved := leAt bs 1 1, index := leAt bs 2 2, value := v, run := [] } :: ·)

/-- The records of a batch whose FORMAT is right for board `b` (reason 1 of Table FRM-8 otherwise). -/
def readBatch (b : Nat) (bs : List Byte) : Option (List MoveRec) :=
  if slice bs 0 2 == ascii "MV" && leAt bs 2 1 == b && leAt bs 3 1 ≤ 1 && leAt bs 4 2 == 0 && leAt bs 6 2 ≤ 4096 &&
     16 ≤ bs.length && leAt bs 12 4 == bs.length then
    match readRecords (leAt bs 6 2) (bs.drop 16) with
    | none => none
    | some rs => if rs.all (·.reserved == 0) then some rs else none
  else none

/-- The numbers and settings that a batch is being applied to; `rhoSet` a SETTING of RHO, RHO_EQ or RHO_FREE, `reset` a
RESET_POSITION. -/
structure Applied where
  vals : BoardVals
  set : Settings
  rhoSet : Bool := false
  reset : Bool := false
deriving DecidableEq, Repr

/-- `xs` with elements `i`, `i + 1`, ... replaced by `vs`. -/
def putRun (xs : List Nat) (i : Nat) (vs : List Nat) : List Nat := xs.take i ++ vs ++ xs.drop (i + vs.length)

/-- The result of one record: the changed numbers, or the reason 5 KIND, 6 INDEX or 7 VALUE of Table FRM-8, in that order
(R169). -/
def applyRecord (st : Applied) (r : MoveRec) : Except Nat Applied :=
  let v := st.vals
  let vs := if isRun r.kind then r.run else [r.value]
  let tgt : Option (Nat × (List Nat → BoardVals)) :=
    match r.kind with
    | 0x01 | 0x11 => some (v.q.length, fun x => { v with q := putRun v.q r.index x })
    | 0x02 | 0x12 => some (v.l.length, fun x => { v with l := putRun v.l r.index x })
    | 0x03 | 0x13 => some (v.u.length, fun x => { v with u := putRun v.u r.index x })
    | 0x04 => some (v.l.length, fun x => { v with l := putRun v.l r.index x, u := putRun v.u r.index x })
    | 0x08 | 0x18 => some (v.p.length, fun x => { v with p := putRun v.p r.index x })
    | 0x09 | 0x19 => some (v.a.length, fun x => { v with a := putRun v.a r.index x })
    | _ => none
  match tgt with
  | some (len, f) =>
    if len < r.index + vs.length then .error 6
    else if vs.any fmt32.special then .error 7
    else .ok { st with vals := f vs }
  | none =>
    if r.kind = 0x20 then
      match putSetting st.set r.index r.value with
      | none => .error 5
      | some s' =>
        if settingIsU8 r.index && 255 < r.value then .error 7
        else if !settingIsInt r.index && fmt32.special r.value then .error 7
        else .ok { st with set := s', rhoSet := st.rhoSet || (0x07 ≤ r.index && r.index ≤ 0x09) }
    else if r.kind = 0x30 then
      if r.index ≠ 0 then .error 6
      else if r.value ≠ 0 then .error 7
      else .ok { st with reset := true }
    else .error 5

/-- The records of a batch in order (R167). -/
def applyRecords : List MoveRec → Applied → Except Nat Applied
  | [], st => .ok st
  | r :: rs, st =>
    match applyRecord st r with
    | .error e => .error e
    | .ok st' => applyRecords rs st'

/-- The SEQ that follows `n` (R168). -/
def nextSeq (n : Nat) : Nat := if n = 0xFFFFFFFF then 1 else n + 1

/-- The batch's SEQ and BASE flag fit the board (R168). -/
def seqOk (b : Board) (base : Bool) (seq : Nat) : Bool :=
  if b.lastSeq = 0 then base && seq == 1 else !base && seq == nextSeq b.lastSeq

/-- The reason for which board number `k` rejects a batch from `source`, or the numbers and settings that it leaves (R169,
Table FRM-8). -/
def judgeBatch (b : Board) (k source : Nat) (bs : List Byte) : Except Nat (Applied × Nat) :=
  match readBatch k bs with
  | none => .error 1
  | some rs =>
    if b.st ≠ 2 then .error 2
    else if source ≠ b.desc.writer then .error 4
    else if !seqOk b (leAt bs 3 1 == 1) (leAt bs 8 4) then .error 3
    else
      match applyRecords rs { vals := b.vals, set := b.set } with
      | .error e => .error e
      | .ok st =>
        if !settingsOk st.set then .error 7
        else if boundsCross st.vals then .error 8
        else .ok (st, leAt bs 8 4)

/-- The batch marks the board for refactorisation (R171, Table FRM-9). -/
def batchRefactors (b : Board) (st : Applied) : Bool :=
  st.vals.p != b.vals.p || st.vals.a != b.vals.a || rowClasses st.set st.vals != rowClasses b.set b.vals ||
  st.set.sigma != b.set.sigma || st.set.epsPiv != b.set.epsPiv || st.set.delta != b.set.delta ||
  st.set.boundInf != b.set.boundInf || st.set.rho != b.set.rho || st.set.rhoEq != b.set.rhoEq ||
  st.set.rhoFree != b.set.rhoFree || (st.rhoSet && b.adapt != 0x3F800000)

/-- The position with new batch fields, through a buffer switch of its own (R172). -/
def Board.putBatchFields (b : Board) (seq reject : Nat) : Board :=
  { b with lastSeq := seq, lastReject := reject, posOther := b.pos, cur := b.cur + 1,
           pos := { b.pos with lastSeq := seq, lastReject := reject } }

/-- Board number `k` takes a batch (R168 to R171): accepted whole, or rejected whole with its reason carried to the next
solve request. -/
def applyBatch (b : Board) (k source : Nat) (bs : List Byte) : Board :=
  match judgeBatch b k source bs with
  | .error e =>
    if b.st = 0 then b
    else { (b.putBatchFields b.lastSeq e) with rejectPending := true, rejected := clampTo 0xFFFFFFFF (b.rejected + 1) }
  | .ok (st, seq) =>
    { (b.putBatchFields seq 0) with
      vals := st.vals, set := st.set, accepted := clampTo 0xFFFFFFFF (b.accepted + 1),
      refactor := b.refactor || batchRefactors b st,
      factor := if batchRefactors b st then none else b.factor,
      adapt := if st.rhoSet then 0x3F800000 else b.adapt,
      warm := if st.reset then none else b.warm }

/-! ### The position and the reported bounds -/

/-- The bytes of a position (Table FRM-10). -/
def positionBytes (board : Nat) (p : Position) : List Byte :=
  leBytes 1 board ++ leBytes 1 p.status ++ leBytes 1 p.flags ++ leBytes 1 (ofBool p.valid) ++ leBytes 2 p.n ++ leBytes 2 p.m ++
  leBytes 2 p.iterations ++ leBytes 1 p.refineMax ++ leBytes 1 p.refactors ++ leBytes 4 p.solveId ++ leBytes 4 p.lastSeq ++
  leBytes 1 p.lastReject ++ leBytes 1 0 ++ leBytes 2 p.perturbed ++ time96le (time96ns p.outcomeTb3) ++ leBytes 4 p.primRes ++
  leBytes 4 p.dualRes ++ leBytes 4 p.solvedId ++ time96le (time96ns p.solvedTb3) ++ leBytes 4 p.objective ++
  p.x.flatMap (leBytes 4) ++ p.y.flatMap (leBytes 4)

/-- Element `e` of a position: x for e < n, then y (R173). -/
def positionElem (p : Position) (e : Nat) : Nat := if e < p.n then p.x.getD e 0 else p.y.getD (e - p.n) 0

/-- F of R210: the sum of c (c + 3) over the column counts. -/
def factorWork (d : Desc) : Nat := sumNat (d.colCount.map (fun c => c * (c + 3)))

/-- The cycle terms of Table FRX-7 for a target: C_D, C_F, C_LS, C_R, C_V, C_K, C_P. -/
def cycleTerms (d : Desc) : Nat × Nat × Nat × Nat × Nat × Nat × Nat :=
  let nn := d.n + d.m
  let l := d.nnzL
  let k := 2 * (d.nnzP + d.nnzA) + nn
  let f := factorWork d
  if d.rod then
    (4000 + ceilDiv l 8 + ceilDiv nn 4, 400 + nn + ceilDiv f 8, 400 + ceilDiv l 2 + ceilDiv (3 * nn) 4,
     400 + ceilDiv k 2, 200 + ceilDiv (3 * nn) 2, 200 + ceilDiv (3 * k) 4 + ceilDiv (5 * nn) 4, 800 + 8 * nn)
  else
    (1500 + l + 2 * nn, 100 + 8 * nn + f, 40 + 4 * l + 6 * nn, 40 + 4 * k, 60 + 12 * nn, 60 + 6 * k + 10 * nn, 800 + 8 * nn)

/-- The bound C of R210 without C_B in SOLVE cycles: `a` factorisations, `k` iterations, `h` checks, `j` refinement steps. -/
def cycleBound (d : Desc) (a k h j : Nat) : Nat :=
  let (cd, cf, cls, cr, cv, ck, cp) := cycleTerms d
  let ci := if j = 0 then cls + cv else (1 + j) * (cls + cr) + cv
  cd + a * cf + k * ci + h * ck + cp

/-- `WCET_BOUND` in microseconds (R211), at 995 MHz. -/
def wcetBound (d : Desc) (s : Settings) : Nat :=
  let a := if s.stepAdapt = 0 then 1 else 1 + s.adaptMax
  let j := if s.refineSteps = 0 then 1 else s.refineSteps
  ceilDiv (cycleBound d a s.maxIter (ceilDiv s.maxIter s.checkInterval) j) 995

end Sys2Proof.Machine
end

