-- ==== Sys2Proof/Machine/FrameSolver.lean ====
section
/-!
DEFINITION. Machine/FrameSolver.lean: the arithmetic of a solve (R174 to R184, R584). Every operation is binary32; an operation
that gives an infinity or a NaN ends the solve (R179), which `none` expresses. Where the rules leave the order of a sum
open (triangular solves, matrix products, dot products), it runs in ascending stored order (DESIGN CHOICE, log 30).
-/
namespace Sys2Proof.Machine

/-- A result that is an infinity or a NaN ends the solve (R179). -/
def finite32 (x : Nat) : Option Nat := if fmt32.special x then none else some x

/-- Checked addition. -/
def oadd (a b : Nat) : Option Nat := finite32 (fmt32.add a b)
/-- Checked subtraction. -/
def osub (a b : Nat) : Option Nat := finite32 (fmt32.sub a b)
/-- Checked multiplication. -/
def omul (a b : Nat) : Option Nat := finite32 (fmt32.mul a b)
/-- Checked division. -/
def odiv (a b : Nat) : Option Nat := finite32 (fmt32.div a b)
/-- Checked fused multiply-add. -/
def ofma (a b c : Nat) : Option Nat := finite32 (fmt32.fma a b c)

/-- An operation on each pair of elements. -/
def zipM (f : Nat → Nat → Option Nat) (a b : List Nat) : Option (List Nat) := (List.zip a b).mapM (fun p => f p.1 p.2)

/-- The largest magnitude. -/
def normInf (v : List Nat) : Nat := v.foldl (fun a x => fmt32.max a (fmt32.abs x)) 0

/-- The scaled problem of a board with its row parameters (R175, R176). -/
structure Scaled where
  n : Nat
  m : Nat
  p : List (Nat × Nat × Nat)
  a : List (Nat × Nat × Nat)
  q : List Nat
  l : List Nat
  u : List Nat
  cls : List Nat
  noLo : List Bool
  noHi : List Bool
deriving DecidableEq, Repr

/-- The scaled problem of a board (R175): each value formed with every operation rounded. -/
def scaledOf (b : Board) : Scaled :=
  let d := b.desc
  let v := b.vals
  let dd := fun j => d.scaleD.getD j 0
  let ee := fun i => d.scaleE.getD i 0
  { n := d.n, m := d.m,
    p := (triplets d.pCol d.pRow).map (fun t => (t.1, t.2.1, mul32 (mul32 (mul32 b.c (dd t.1)) (dd t.2.1)) (v.p.getD t.2.2 0))),
    a := (triplets d.aCol d.aRow).map (fun t => (t.1, t.2.1, mul32 (mul32 (ee t.1) (dd t.2.1)) (v.a.getD t.2.2 0))),
    q := (List.zip d.scaleD v.q).map (fun x => mul32 (mul32 b.c x.1) x.2),
    l := (List.zip d.scaleE v.l).map (fun x => mul32 x.1 x.2),
    u := (List.zip d.scaleE v.u).map (fun x => mul32 x.1 x.2),
    cls := rowClasses b.set v,
    noLo := v.l.map (lowerAbsent b.set), noHi := v.u.map (upperAbsent b.set) }

/-- The row parameters under adaptation factor `adapt` (R176); a product outside 1.0e-6 to 1.0e10 is set to the nearer end
(R184). -/
def rhoRows (s : Settings) (adapt : Nat) (cls : List Nat) : List Nat :=
  cls.map (fun c =>
    if c = 1 then s.rhoFree
    else fmt32.max 0x358637BD (fmt32.min 0x501502F9 (mul32 (if c = 0 then s.rhoEq else s.rho) adapt)))

/-- The rows of the KKT matrix: for each KKT index its entries (column, value) in ascending column (R176). -/
def kktRows (s : Settings) (sc : Scaled) (rho : List Nat) : Option (List (List (Nat × Nat))) := do
  let dia ← (List.range sc.n).mapM (fun j =>
    oadd (((sc.p.find? (fun t => t.1 == j && t.2.1 == j)).map (·.2.2)).getD 0) s.sigma)
  let inv ← rho.mapM (fun r => odiv 0x3F800000 r)
  let rowN := fun (r : Nat) =>
    if r < sc.n then
      let ps := sc.p.filterMap (fun t =>
        if t.1 == t.2.1 then none else if t.1 == r then some (t.2.1, t.2.2) else if t.2.1 == r then some (t.1, t.2.2) else none)
      let as := sc.a.filterMap (fun t => if t.2.1 == r then some (sc.n + t.1, t.2.2) else none)
      (r, dia.getD r 0) :: (ps ++ as)
    else
      (r, fmt32.neg (inv.getD (r - sc.n) 0)) :: sc.a.filterMap (fun t => if sc.n + t.1 == r then some (t.2.1, t.2.2) else none)
  pure ((List.range (sc.n + sc.m)).map (fun r => (rowN r).foldl (fun acc e => cellPut acc e.1 e.2) []))

/-- The entry K[i][j], 0 where K has none. -/
def kktAt (rows : List (List (Nat × Nat))) (i j : Nat) : Nat := (cellAt (rows.getD i []) j).getD 0

/-- Column `k` of the factor from the columns before it (R584), with its pivot and whether the pivot was replaced (R177). -/
def factorColumn (s : Settings) (n : Nat) (perm : List Nat) (rows : List (List (Nat × Nat))) (pat : List Nat) (k : Nat)
    (done : List (List (Nat × Nat) × Nat)) : Option (List (Nat × Nat) × Nat × Bool) := do
  let w0 := (k :: pat).map (fun i => (i, kktAt rows (perm.getD i 0) (perm.getD k 0)))
  let w ← done.foldlM (fun w (cj : List (Nat × Nat) × Nat) =>
    match cellAt cj.1 k with
    | none => some w
    | some lkj => do
      let t ← omul lkj cj.2
      w.mapM (fun (iw : Nat × Nat) =>
        if iw.1 = k then do pure (iw.1, ← ofma (fmt32.neg lkj) t iw.2)
        else
          match cellAt cj.1 iw.1 with
          | none => some iw
          | some lij => do pure (iw.1, ← ofma (fmt32.neg lij) t iw.2))) w0
  let d0 := (w.headD (k, 0)).2
  let sk := normInf ((rows.getD (perm.getD k 0) []).map (·.2))
  let primal := perm.getD k 0 < n
  let lim ← omul s.epsPiv sk
  let bad := fmt32.lt (fmt32.abs d0) lim || (if primal then !fmt32.lt 0 d0 else !fmt32.lt d0 0)
  let rep ← omul s.delta sk
  let d := if bad then (if primal then rep else fmt32.neg rep) else d0
  let col ← (w.drop 1).mapM (fun (iw : Nat × Nat) => do pure (iw.1, ← odiv iw.2 d))
  pure (col, d, bad)

/-- All columns of the factor in elimination order (R584). -/
def factorColumns (s : Settings) (n : Nat) (perm : List Nat) (rows : List (List (Nat × Nat))) :
    List (List Nat) → Nat → List (List (Nat × Nat) × Nat) → Nat → Option Factor
  | [], _, done, pert => some { cols := done.map (·.1), diag := done.map (·.2), perturbed := pert }
  | pat :: pats, k, done, pert => do
    let (col, d, bad) ← factorColumn s n perm rows pat k done
    factorColumns s n perm rows pats (k + 1) (done ++ [(col, d)]) (pert + ofBool bad)

/-- The numeric factorisation of K (R584). -/
def factorise (b : Board) (rows : List (List (Nat × Nat))) : Option Factor :=
  factorColumns b.set b.desc.n b.desc.perm rows (factorPattern b.desc) 0 [] 0

/-- Forward substitution with L: `y` is the right-hand side in elimination order. -/
def forwardL : List (List (Nat × Nat)) → Nat → List Nat → Option (List Nat)
  | [], _, y => some y
  | col :: cols, k, y => do
    let yk := y.getD k 0
    let y' ← col.foldlM (fun (y : List Nat) (e : Nat × Nat) => do
      pure (y.set e.1 (← ofma (fmt32.neg e.2) yk (y.getD e.1 0)))) y
    forwardL cols (k + 1) y'

/-- Backward substitution with the transpose of L, over the columns from the last to the first. -/
def backwardL : List (Nat × List (Nat × Nat)) → List Nat → Option (List Nat)
  | [], x => some x
  | (k, col) :: cols, x => do
    let xk ← col.foldlM (fun acc (e : Nat × Nat) => ofma (fmt32.neg e.2) (x.getD e.1 0) acc) (x.getD k 0)
    backwardL cols (x.set k xk)

/-- `(L D_K Lᵀ)⁻¹ r` under the ordering PERM. -/
def solveFactor (perm : List Nat) (f : Factor) (r : List Nat) : Option (List Nat) := do
  let y ← forwardL f.cols 0 (perm.map (fun i => r.getD i 0))
  let z ← zipM odiv y f.diag
  let x ← backwardL (List.zip (List.range f.cols.length) f.cols).reverse z
  pure ((List.range r.length).map (fun i => x.getD (posOf perm i) 0))

/-- The compensated residual `r - K v` of R178. -/
def residual (rows : List (List (Nat × Nat))) (v r : List Nat) : Option (List Nat) :=
  (List.zip rows r).mapM (fun (row : List (Nat × Nat) × Nat) => do
    let (hi, lo) ← row.1.foldlM (fun (acc : Nat × Nat) (e : Nat × Nat) => do
      let vj := v.getD e.1 0
      let p ← omul (fmt32.neg e.2) vj
      let er ← ofma (fmt32.neg e.2) vj (fmt32.neg p)
      let t ← oadd acc.1 p
      let w ← osub t acc.1
      let a ← osub acc.1 (← osub t w)
      let b ← osub p w
      let lo ← oadd (← oadd acc.2 (← oadd a b)) er
      pure (t, lo)) (row.2, 0)
    oadd hi lo)

/-- What a linear solve gives (R178): the solution, none where an operation overflows (R179), the refinement steps completed, and
whether refinement stalled. -/
structure Solved where
  v : Option (List Nat)
  steps : Nat := 0
  stalled : Bool := false

/-- One refinement step of R178 from iterate `best` with residual `s`: the new iterate, its residual, half the old norm; none on
overflow. -/
def refineStep (perm : List Nat) (rows : List (List (Nat × Nat))) (f : Factor) (r best s : List Nat) (nb : Nat) :
    Option (List Nat × List Nat × Nat) := do
  let v ← zipM oadd best (← solveFactor perm f s)
  let s' ← residual rows v r
  pure (v, s', ← omul 0x3F000000 nb)

/-- The refinement steps of R178: at most the first number more; best iterate, its residual and norm, steps completed so far. -/
def refine (perm : List Nat) (rows : List (List (Nat × Nat))) (f : Factor) (tol : Nat) (r : List Nat) :
    Nat → List Nat → List Nat → Nat → Nat → Solved
  | 0, best, _, _, done => { v := some best, steps := done }
  | k + 1, best, s, nb, done =>
    match omul tol (normInf r) with
    | none => { v := none, steps := done }
    | some lim =>
      if fmt32.le nb lim then { v := some best, steps := done }
      else match refineStep perm rows f r best s nb with
        | none => { v := none, steps := done }
        | some (v, s', half) =>
          if fmt32.lt half (normInf s') then { v := some best, steps := done, stalled := true }
          else refine perm rows f tol r k v s' (normInf s') (done + 1)

/-- One linear solve with refinement (R178). -/
def solveRefined (set : Settings) (perm : List Nat) (rows : List (List (Nat × Nat))) (f : Factor) (r : List Nat) : Solved :=
  let steps := if set.refineSteps = 0 && f.perturbed != 0 then 1 else set.refineSteps
  match solveFactor perm f r with
  | none => { v := none }
  | some v =>
    if steps = 0 then { v := some v }
    else match residual rows v r with
      | none => { v := none }
      | some s => refine perm rows f set.refineTol r steps v s (normInf s) 0

/-- `M v` for stored entries (row, column, value). -/
def matVec (rowsN : Nat) (ts : List (Nat × Nat × Nat)) (v : List Nat) : Option (List Nat) :=
  ts.foldlM (fun (y : List Nat) (t : Nat × Nat × Nat) => do
    pure (y.set t.1 (← ofma t.2.2 (v.getD t.2.1 0) (y.getD t.1 0)))) (List.replicate rowsN 0)

/-- The transpose of stored entries. -/
def transposed (ts : List (Nat × Nat × Nat)) : List (Nat × Nat × Nat) := ts.map (fun t => (t.2.1, t.1, t.2.2))

/-- Both triangles of a symmetric matrix whose upper triangle is stored. -/
def bothTriangles (ts : List (Nat × Nat × Nat)) : List (Nat × Nat × Nat) :=
  ts.flatMap (fun t => if t.1 == t.2.1 then [t] else [t, (t.2.1, t.1, t.2.2)])

/-- A dot product. -/
def dot32 (a b : List Nat) : Option Nat := (List.zip a b).foldlM (fun acc p => ofma p.1 p.2 acc) 0

/-- The state of the iteration of R181. -/
structure Iter where
  x : List Nat
  z : List Nat
  y : List Nat
  k : Nat := 0
  refineMax : Nat := 0
  refactors : Nat := 0
  adapts : Nat := 0
  perturbed : Nat := 0
  /-- A factor that the solve used held a perturbed pivot, or one was replaced in it (R177, R206). -/
  pert : Bool := false
  stalled : Bool := false
  primRes : Nat := 0
  dualRes : Nat := 0
  adapt : Nat
  factor : Factor
deriving DecidableEq, Repr

/-- How a solve ended and what it leaves (R172, R205). -/
structure SolveEnd where
  status : Nat
  iterations : Nat := 0
  refineMax : Nat := 0
  refactors : Nat := 0
  perturbed : Nat := 0
  pert : Bool := false
  stalled : Bool := false
  primRes : Nat := 0
  dualRes : Nat := 0
  x : List Nat := []
  y : List Nat := []
  z : List Nat := []
  objective : Nat := 0
  factor : Option Factor := none
  adapt : Nat
deriving DecidableEq, Repr

/-- The projection of R181: each component clamped to its present bounds. -/
def project (sc : Scaled) (w : List Nat) : List Nat :=
  (List.range sc.m).map (fun i =>
    let v := w.getD i 0
    let v := if sc.noLo.getD i false then v else fmt32.max v (sc.l.getD i 0)
    if sc.noHi.getD i false then v else fmt32.min v (sc.u.getD i 0))

/-- The row targets of one iteration and its right-hand side. -/
def iterRhs (b : Board) (sc : Scaled) (rho : List Nat) (it : Iter) : Option (List Nat × List Nat) := do
  let t ← zipM osub it.z (← zipM odiv it.y rho)
  let top ← zipM osub (← it.x.mapM (omul b.set.sigma)) sc.q
  pure (t, top ++ t)

/-- The linear solve of one iteration: the iterate with the steps it took, and the row targets and the solution split in x and ν. -/
def iterSolve (b : Board) (sc : Scaled) (rho : List Nat) (rows : List (List (Nat × Nat))) (it : Iter) :
    Iter × Option (List Nat × List Nat × List Nat) :=
  match iterRhs b sc rho it with
  | none => (it, none)
  | some (t, r) =>
    let o := solveRefined b.set b.desc.perm rows it.factor r
    ({ it with refineMax := max it.refineMax o.steps, stalled := it.stalled || o.stalled },
      o.v.map (fun v => (t, v.take sc.n, v.drop sc.n)))

/-- The updates of one iteration after its linear solve (R181). -/
def iterUpdate (b : Board) (sc : Scaled) (rho t xt nu : List Nat) (it : Iter) : Option Iter := do
  let zt ← zipM oadd t (← zipM odiv nu rho)
  let relax := fun (old new : List Nat) => do
    zipM oadd old (← (← zipM osub new old).mapM (omul b.set.omega))
  let x' ← relax it.x xt
  let w ← relax it.z zt
  let wz ← zipM oadd w (← zipM odiv it.y rho)
  let z' := project sc wz
  let y' ← zipM oadd it.y (← zipM omul rho (← zipM osub w z'))
  pure { it with x := x', z := z', y := y', k := it.k + 1 }

/-- x, y and z in the board's own units (R175, R204). -/
def unscale (b : Board) (x z y : List Nat) : Option (List Nat × List Nat × List Nat) := do
  let x' ← zipM omul b.desc.scaleD x
  let z' ← zipM odiv z b.desc.scaleE
  let y' ← (← zipM omul b.desc.scaleE y).mapM (fun v => odiv v b.c)
  pure (x', z', y')

/-- The unscaled entries of P and A (row, column, value). -/
def rawP (b : Board) : List (Nat × Nat × Nat) :=
  bothTriangles ((triplets b.desc.pCol b.desc.pRow).map (fun t => (t.1, t.2.1, b.vals.p.getD t.2.2 0)))
/-- The unscaled entries of A. -/
def rawA (b : Board) : List (Nat × Nat × Nat) :=
  (triplets b.desc.aCol b.desc.aRow).map (fun t => (t.1, t.2.1, b.vals.a.getD t.2.2 0))

/-- `δy` is a certificate of primal infeasibility (R182). -/
def primalCertificate (b : Board) (sc : Scaled) (dy : List Nat) : Option Bool := do
  let nrm := normInf dy
  if fmt32.isZero nrm then pure false
  else do
    let eps ← omul b.set.epsPinf nrm
    let aty ← matVec sc.n (transposed (rawA b)) dy
    let sum ← (List.range sc.m).foldlM (fun acc i => do
      let d := dy.getD i 0
      let acc ← if sc.noHi.getD i false then some acc else ofma (b.vals.u.getD i 0) (fmt32.max d 0) acc
      if sc.noLo.getD i false then some acc else ofma (b.vals.l.getD i 0) (fmt32.min d 0) acc) 0
    let rowsOk := (List.range sc.m).all (fun i =>
      let d := dy.getD i 0
      (!sc.noHi.getD i false || fmt32.le d eps) && (!sc.noLo.getD i false || fmt32.le (fmt32.neg eps) d))
    pure (fmt32.le (normInf aty) eps && fmt32.le sum (fmt32.neg eps) && rowsOk)

/-- `δx` is a certificate of dual infeasibility (R183). -/
def dualCertificate (b : Board) (sc : Scaled) (dx : List Nat) : Option Bool := do
  let nrm := normInf dx
  if fmt32.isZero nrm then pure false
  else do
    let eps ← omul b.set.epsDinf nrm
    let pdx ← matVec sc.n (rawP b) dx
    let qdx ← dot32 b.vals.q dx
    let adx ← matVec sc.m (rawA b) dx
    let rowsOk := (List.range sc.m).all (fun i =>
      let v := adx.getD i 0
      (sc.noLo.getD i false || fmt32.le (fmt32.neg eps) v) && (sc.noHi.getD i false || fmt32.le v eps))
    pure (fmt32.le (normInf pdx) eps && fmt32.le qdx (fmt32.neg eps) && rowsOk)

/-- A zero denominator of R184 is taken as the smallest positive binary32. -/
def nonZero32 (x : Nat) : Nat := if fmt32.isZero x then 1 else x

/-- The adapted factor of R184, where adaptation acts. -/
def adaptFactor (s : Settings) (it : Iter) (rp ep rd ed : Nat) : Option (Option Nat) := do
  if s.stepAdapt = 0 then pure none
  else do
    let num ← odiv rp (nonZero32 ep)
    let den ← odiv rd (nonZero32 ed)
    let f := fmt32.sqrt (← odiv num (nonZero32 den))
    let lim := fmt32.ofNat s.stepAdapt
    let low ← odiv 0x3F800000 lim
    if (fmt32.lt lim f || fmt32.lt f low) && it.adapts < s.adaptMax then do
      let lo ← odiv 0x358637BD s.rho
      let hi ← odiv 0x501502F9 s.rhoEq
      pure (some (fmt32.max lo (fmt32.min hi (← omul it.adapt f))))
    else pure none

/-- What a check of R181 finds: a status that ends the solve with the unscaled iterates, or the adapted factor. -/
structure Check where
  ends : Option Nat
  x : List Nat
  y : List Nat
  z : List Nat
  rp : Nat
  rd : Nat
  adapted : Option Nat
deriving DecidableEq, Repr

/-- A convergence check (R181 to R184): `old` is the iterate before this iteration. -/
def checkIter (b : Board) (sc : Scaled) (old it : Iter) : Option Check := do
  let (x, z, y) ← unscale b it.x it.z it.y
  let (x0, _, y0) ← unscale b old.x old.z old.y
  let ax ← matVec sc.m (rawA b) x
  let px ← matVec sc.n (rawP b) x
  let aty ← matVec sc.n (transposed (rawA b)) y
  let rp := normInf (← zipM osub ax z)
  let rd := normInf (← zipM oadd (← zipM oadd px b.vals.q) aty)
  let ep ← oadd b.set.epsAbs (← omul b.set.epsRel (fmt32.max (normInf ax) (normInf z)))
  let ed ← oadd b.set.epsAbs (← omul b.set.epsRel (fmt32.max (normInf px) (fmt32.max (normInf aty) (normInf b.vals.q))))
  let mk := fun (e : Option Nat) (a : Option Nat) => ({ ends := e, x := x, y := y, z := z, rp := rp, rd := rd, adapted := a } : Check)
  if fmt32.le rp ep && fmt32.le rd ed then pure (mk (some 0x00) none)
  else do
    let dy ← zipM osub y y0
    let dx ← zipM osub x x0
    if ← primalCertificate b sc dy then pure (mk (some 0x02) none)
    else if ← dualCertificate b sc dx then pure (mk (some 0x03) none)
    else pure (mk none (← adaptFactor b.set it rp ep rd ed))

/-- A solve that ends with `status` at iterate `it`. -/
def endAt (status : Nat) (it : Iter) : SolveEnd :=
  { status := status, iterations := it.k, refineMax := it.refineMax, refactors := it.refactors, perturbed := it.perturbed,
    pert := it.pert, stalled := it.stalled, primRes := it.primRes, dualRes := it.dualRes, factor := some it.factor, adapt := it.adapt }

/-- A solve that ends with NUMERIC_FAULT at iterate `it` (R179): its factor is discarded. -/
def faultAt (it : Iter) : SolveEnd := { endAt 0x12 it with factor := none }

/-- Publication of a SOLVED result (R173, R175). -/
def publish (b : Board) (c : Check) (it : Iter) : SolveEnd :=
  let obj := do
    let px ← matVec b.desc.n (rawP b) c.x
    let h ← omul 0x3F000000 (← dot32 c.x px)
    oadd h (← dot32 b.vals.q c.x)
  match obj with
  | none => faultAt it
  | some o => { endAt 0x00 it with x := c.x, y := c.y, z := c.z, objective := o }

/-- The work of the unfinished iteration in which a solve is cut: at most `steps` steps of its linear solve completed (R172). -/
def iterCut (b : Board) (sc : Scaled) (steps : Nat) (it : Iter) : Iter :=
  let rho := rhoRows b.set it.adapt sc.cls
  match kktRows b.set sc rho, iterRhs b sc rho it with
  | some rows, some (_, r) =>
    let o := solveRefined b.set b.desc.perm rows it.factor r
    { it with refineMax := max it.refineMax (min steps o.steps), stalled := it.stalled || (o.stalled && decide (o.steps < steps)) }
  | _, _ => it

/-- The iterations of R181: at most `fuel` more. `fuel` 0 is CAP_REACHED, or the cut of a deadline or an abort: then `cut` says
whether it falls within the refactorisation after the last iteration, whose partial factor it discards (R172, R200, R202), and else
how many steps of the next linear solve were completed. -/
def iterate (b : Board) (sc : Scaled) (cut : Bool × Nat) : Nat → Iter → SolveEnd
  | 0, it => endAt 0x01 (if cut.2 = 0 then it else iterCut b sc cut.2 it)
  | fuel + 1, it =>
    let rho := rhoRows b.set it.adapt sc.cls
    match kktRows b.set sc rho with
    | none => faultAt it
    | some rows =>
      let (it1, o) := iterSolve b sc rho rows it
      match o with
      | none => faultAt it1
      | some (t, xt, nu) =>
        match iterUpdate b sc rho t xt nu it1 with
        | none => faultAt it1
        | some it2 =>
          if it2.k % b.set.checkInterval = 0 || it2.k = b.set.maxIter then
            match checkIter b sc it it2 with
            | none => faultAt it2
            | some c =>
              let it3 := { it2 with primRes := c.rp, dualRes := c.rd }
              match c.ends with
              | some 0 => publish b c it3
              | some st => endAt st it3
              | none =>
                match c.adapted with
                | none => iterate b sc cut fuel it3
                | some a =>
                  let it4 := { it3 with adapt := a, adapts := it3.adapts + 1 }
                  if cut.1 && fuel = 0 then { endAt 0x01 it4 with factor := none }
                  else match (kktRows b.set sc (rhoRows b.set a sc.cls)).bind (factorise b) with
                  | none => faultAt it4
                  | some f => 
                  iterate b sc cut fuel { it4 with factor := f, refactors := it4.refactors + 1
                                                   perturbed := it4.perturbed + f.perturbed
                                                   pert := it4.pert || f.perturbed != 0 }
          else iterate b sc cut fuel it2

/-- A solve of a board from start values (R181): the factorisation when one is pending, then at most `cap` iterations, with `cut` as
in `iterate`. Start values that overflowed end it at once (R179, R204). -/
def solveBoard (b : Board) (x0 z0 y0 : List Nat) (cap : Nat) (cut : Bool × Nat) : SolveEnd :=
  let sc := scaledOf b
  let none0 : SolveEnd := { status := 0x12, adapt := b.adapt }
  if (x0 ++ z0 ++ y0).any fmt32.special then none0
  else match (if b.refactor then none else b.factor) with
  | some f => iterate b sc cut cap { x := x0, z := z0, y := y0, adapt := b.adapt, factor := f, pert := f.perturbed != 0 }
  | none =>
    match (kktRows b.set sc (rhoRows b.set b.adapt sc.cls)).bind (factorise b) with
    | none => none0
    | some f =>
      iterate b sc cut cap
        { x := x0, z := z0, y := y0, adapt := b.adapt, factor := f, refactors := 1, perturbed := f.perturbed
          pert := f.perturbed != 0 }

/-- The start values of a solve (R204, Table FRX-4) and their flags: bit 0 WARM_REJECT, bit 3 WARM_USED. -/
def startValues (b : Board) (cold : Bool) : List Nat × List Nat × List Nat × Nat :=
  let none0 := (List.replicate b.desc.n 0, List.replicate b.desc.m 0, List.replicate b.desc.m 0)
  match b.warm with
  | none => (none0.1, none0.2.1, none0.2.2, 0)
  | some w =>
    if b.set.warmStart = 0 || cold then (none0.1, none0.2.1, none0.2.2, 0)
    else if w.signature ≠ b.desc.signature then (none0.1, none0.2.1, none0.2.2, 1)
    else
      ((List.zip w.x b.desc.scaleD).map (fun p => fmt32.div p.1 p.2),
       (List.zip b.desc.scaleE w.z).map (fun p => mul32 p.1 p.2),
       (List.zip w.y b.desc.scaleE).map (fun p => fmt32.div (mul32 b.c p.1) p.2), 8)

end Sys2Proof.Machine
end

