-- ==== Sys2Proof/Machine/FrameSched.lean ====
section
/-!
DEFINITION. Machine/FrameSched.lean: the Counting Frame at work: loads (R159 to R162), SUBMIT entries (R186 to R192), homes
(R193 to R196), takes, dispatches, deadlines, aborts and outcomes (R197 to R209), bead faults (R212), records (R215).
-/
namespace Sys2Proof.Machine

/-- Board number `b`. -/
def State.board (s : State) (b : Nat) : Board := s.frame.boards.fetch {} b

/-- Board number `b` replaced. -/
def State.setBoard (s : State) (b : Nat) (x : Board) : State := { s with frame := { s.frame with boards := s.frame.boards.store {} b x } }

/-- The Frame works: no power failure has been detected (R545). -/
def State.frameGoes (s : State) : Bool := s.rd E.Pwr.SUP_STATE != 3

/-- The archive owns the board number (R152). -/
def State.archiveBoard (s : State) (b : Nat) : Bool := s.rt.archive.any (fun a => a.boards.any (fun x => x.1 == b))

/-- The descriptor of a board that is not resident: the one being loaded, the archive's, or that in flash. -/
def State.storedDesc (s : State) (b : Nat) : Option Desc :=
  match (s.board b).loading with
  | some d => some (readDesc d)
  | none =>
    match s.rt.archive.bind (fun a => a.boards.find? (fun x => x.1 == b)) with
    | some x => some (readDesc x.2)
    | none => (s.frame.flash.find b).map readDesc

/-- BOARD_WRITER; 0xFF for an EMPTY board. -/
def State.boardWriter (s : State) (b : Nat) : Nat :=
  let x := s.board b
  if x.st = 0 then 0xFF else if x.st = 2 then x.desc.writer else ((s.storedDesc b).map (·.writer)).getD 0xFF

/-! ## The SUBMIT rings (R186 to R190) -/

/-- The ring that an entry from `source` for board `b` enters (R186). -/
def State.submitRing (s : State) (b source : Nat) : Nat :=
  let x := s.board b
  if x.st = 2 then (if x.desc.lo then 25 else 24)
  else if source = 0xFE then 25
  else match s.storedDesc b with
  | some d => if d.lo then 25 else 24
  | none => 25

/-- Bytes that a SUBMIT item occupies in its ring's submit buffer. -/
def submitBytes : SubmitItem → Nat
  | .batch _ bs => bs.length
  | _ => 0

/-- Bytes in use in the submit buffer of ring `k`: batches on the ring and deferred ones (R188). -/
def State.submitUsed (s : State) (k : Nat) : Nat :=
  sumNat ((s.ring k).q.map (fun e => match e with
    | .submit e => submitBytes e.item
    | _ => 0)) +
  sumNat (s.frame.boards.vals.map (fun b => sumNat (b.queue.map (fun q => match q with
    | .batch _ hi bs => if hi == (k == 24) then bs.length else 0
    | .req _ => 0))))

/-- A SUBMIT entry in the layout of Table FRX-1; where a batch lies in the submit buffer is a free value (log 170). -/
def SubmitEntry.bytes (e : SubmitEntry) : List Byte :=
  let (kind, flags, deadline, off, len) := match e.item with
    | .batch b bs => (1, 0, 0, Config.batchOffset e.source e.issued.toNat (leAt bs 8 4 + b) % (4194304 - bs.length + 1), bs.length)
    | .solve _ d cold => (2, ofBool cold, d, 0, 0)
    | .abort _ _ => (3, 0, 0, 0, 0)
  let board := match e.item with
    | .batch b _ => b
    | .solve b _ _ => b
    | .abort b _ => b
  leBytes 1 kind ++ leBytes 1 board ++ leBytes 1 e.source ++ leBytes 1 flags ++ leBytes 4 e.solveId ++ time96le (time96ns deadline)
    ++ leBytes 4 off ++ leBytes 4 len ++ time96le (time96ns e.issued) ++ leBytes 24 0

/-- A block of entries fits ring `k` and its submit buffer (R93, R188). -/
def State.submitFits (s : State) (k : Nat) (es : List SubmitEntry) : Bool :=
  s.room k es.length && decide (s.submitUsed k + sumNat (es.map (fun e => submitBytes e.item)) ≤ 4194304)

/-- The next SOLVE_ID of a source (R189). -/
def State.issueId (s : State) (source : Nat) : State × Nat :=
  let n := (s.frame.idCount.fetch 0 source + 1) % 16777216
  let n := if n = 0 then 1 else n
  ({ s with frame := { s.frame with idCount := s.frame.idCount.store 0 source n } }, source * 16777216 + n)

/-- A dictionary request or abort names a board without a task writer (R186). -/
def State.chkDictBoard (s : State) (b : Nat) : Nat := need (31 < s.boardWriter b) stRange

/-- MOVE_BATCH: BUSY where the ring refuses (R165, R188). -/
def State.chkMoveBatch (s : State) (b : Nat) (bs : List Byte) : Nat :=
  need (s.submitFits (s.submitRing b 0xFE) [{ item := .batch b bs, source := 0xFE, solveId := 0, issued := s.now }]) 0x0F

/-- MOVE_BATCH is placed on the board's ring. -/
def State.effMoveBatch (s : State) (b : Nat) (bs : List Byte) : State :=
  s.place (s.submitRing b 0xFE) (.submit { item := .batch b bs, source := 0xFE, solveId := 0, issued := s.now })

/-- SOLVE_REQUEST (R186, R190). -/
def State.chkSolveRequest (s : State) (b : Nat) : Nat := firstBad [s.chkDictBoard b, need (s.room (s.submitRing b 0xFE) 1) 0x0F]

/-- SOLVE_REQUEST is placed with its absolute deadline. -/
def State.effSolveRequest (s : State) (b us : Nat) : State :=
  let (s, id) := s.issueId 0xFE
  (s.place (s.submitRing b 0xFE)
    (.submit { item := .solve b (s.now + 1000 * us) false, source := 0xFE, solveId := id, issued := s.now })).wr (E.Solve.LAST_ISSUED_ID b) id

/-- SOLVE_ABORT is placed on the ring; its answer follows at the decision (R83, R201). -/
def State.effSolveAbort (s : State) (b id : Nat) : State :=
  s.place (s.submitRing b 0xFE) (.submit { item := .abort b id, source := 0xFE, solveId := id, issued := s.now })

/-! ## Homes (R193, R194) -/

/-- The bead is OFFLINE (R212). -/
def State.offline (s : State) (k : Nat) : Bool := s.rd (E.Bead.ECC_FATAL k) == 1

/-- The beads of a home: a bead itself, the eight of a rod. -/
def homeBeads (h : Nat) : List Nat := if h < 64 then [h] else if h < 72 then (List.range 8).map (8 * (h - 64) + ·) else []

/-- A rod holds no OFFLINE bead. -/
def State.rodWhole (s : State) (r : Nat) : Bool := (homeBeads (64 + r)).all (fun k => !s.offline k)

/-- Boards other than `b` whose HOME_ACTIVE is `h`. -/
def State.homed (s : State) (b h : Nat) : Nat :=
  (s.frame.boards.keys.filter (fun k => k != b && s.rd (E.Solve.HOME_ACTIVE k) == h)).length

/-- The candidate with the least rank, by ascending number among equals. -/
def leastBy (rank : Nat → Nat) : List Nat → Option Nat
  | [] => none
  | x :: xs =>
    match leastBy rank xs with
    | none => some x
    | some y => if rank x ≤ rank y then some x else some y

/-- The automatic choice of a home (R194). -/
def State.autoHome (s : State) (b : Nat) (rod : Bool) : Nat :=
  if rod then
    let rs := (List.range 8).filter s.rodWhole
    match leastBy (fun r => (s.homed b (64 + r) * 1000 + sumNat ((homeBeads (64 + r)).map (s.homed b))) * 8 + (7 - r)) rs with
    | some r => 64 + r
    | none => 0xFF
  else
    let up := (List.range 64).filter (fun k => !s.offline k)
    let clear := up.filter (fun k => s.homed b (64 + k / 8) == 0)
    match leastBy (s.homed b) (if clear.isEmpty then up else clear) with
    | some k => k
    | none => 0xFF

/-- HOME_ACTIVE as HOME and the beads give it (R193). -/
def State.homeFor (s : State) (b : Nat) : Nat :=
  let h := s.rd (E.Solve.HOME b)
  let rod := (s.board b).desc.rod
  if !rod && h < 64 && !s.offline h then h
  else if rod && 64 ≤ h && h < 72 && s.rodWhole (h - 64) then h
  else s.autoHome b rod

/-! ## Outcomes (R172, R205 to R209) -/

/-- A DONE entry (Table FRX-6). -/
def doneBytes (e : DoneEntry) : List Byte :=
  leBytes 1 e.kind ++ leBytes 1 e.board ++ leBytes 1 e.status ++ leBytes 1 e.flags ++ leBytes 4 e.solveId ++ time96le (time96ns e.tb3) ++
  leBytes 2 e.iterations ++ leBytes 1 e.home ++ leBytes 1 e.source ++ leBytes 4 e.waitUs ++ leBytes 4 e.execUs

/-- The counter of Table FRX-10 that an outcome raises. -/
def outcomeCounter (b status : Nat) : Ent :=
  match status with
  | 0x00 => E.Solve.SOLVED_COUNT b
  | 0x01 => E.Solve.CAP_COUNT b
  | 0x02 => E.Solve.INFEASIBLE_COUNT b
  | 0x03 => E.Solve.INFEASIBLE_COUNT b
  | 0x10 => E.Solve.DEADLINE_MISSES b
  | 0x11 => E.Solve.ABORTS b
  | 0x12 => E.Solve.NUMERIC_COUNT b
  | _ => E.Solve.INVALID_COUNT b

/-- The position after an outcome (Table FRM-10). -/
def outcomePosition (x : Board) (now : Nat) (id status flags : Nat) (e : SolveEnd) : Position :=
  let p := { x.pos with
    status := status, flags := flags, iterations := e.iterations, refineMax := e.refineMax, refactors := e.refactors, solveId := id
    lastSeq := x.lastSeq, lastReject := x.lastReject, perturbed := min 0xFFFF e.perturbed, outcomeTb3 := now
    primRes := e.primRes, dualRes := e.dualRes }
  if status = 0 then { p with valid := true, solvedId := id, solvedTb3 := now, objective := e.objective, x := e.x, y := e.y } else p

/-- An abort is decided (R201, R209, R83): the DONE entry, with what the request concerned reported where it is the board's last to
end (log 171), and the answer of the oldest dictionary abort of it. -/
def State.decideSolveAbort (s : State) (b id source status : Nat) : State :=
  let e : DoneEntry := match s.frame.ended.find b with
    | some e => if e.solveId = id then e else { e with iterations := 0, home := 0xFF, source := source, waitUs := 0, execUs := 0 }
    | none => { kind := 2, board := b, status := 0, flags := 0, solveId := id, tb3 := s.now, iterations := 0
                home := 0xFF, source := source, waitUs := 0, execUs := 0 }
  let s := s.place 26 (.done { e with kind := 2, board := b, status := status, flags := 0, solveId := id, tb3 := s.now })
  if source != 0xFE then s
  else { s with odStatus := status, eop := { s.eop with
    deferred := decideFirst (fun d => !d.motion && d.board == b && d.solveId == id) status s.eop.deferred } }

/-- The share of the last 1,000 ms that bead `k` was busy, in units of 0.01 % (BEAD_BUSY). -/
def State.beadBusy (s : State) (k : Nat) : Nat :=
  let lo : Int := (s.now : Int) - 1000000000
  let run := (s.frame.boards.vals.filterMap (·.run)).filter (fun r => (homeBeads r.home).contains k)
  let parts := s.frame.busy.fetch [] k ++ run.map (fun r => (r.at_, (s.now : Int)))
  (parts.foldl (fun (a : Nat) (p : Int × Int) => a + (min p.2 (s.now : Int) - max p.1 lo).toNat) 0) / 100000

/-- The beads of a home are free again. -/
def State.freeHome (s : State) (r : Run) : State :=
  (homeBeads r.home).foldl (fun s k =>
    let old := (s.frame.busy.fetch [] k).filter (fun p => decide ((s.now : Int) < p.2 + 1000000000))
    let s := { s with frame := { s.frame with busy := s.frame.busy.store [] k (old ++ [(r.at_, (s.now : Int))]) } }
    let s := (if s.offline k then s else s.wr (E.Bead.BEAD_STATE k) 0).wr (E.Bead.BEAD_BOARD k) 0xFFFF
    s.raise (E.Bead.BEAD_BUSY_MAX k) (s.beadBusy k)) s

/-- Deferred batches that precede the next request are applied once no solve runs and no board is being written (R170, R198). -/
def applyLeading (b : Nat) : List QItem → Board → Board
  | .batch source _ bs :: rest, x => applyLeading b rest { (applyBatch x b source bs) with queue := rest }
  | _, x => x

/-- The queue of a board after a change. -/
def State.settleQueue (s : State) (b : Nat) : State :=
  let x := s.board b
  if x.run.isSome || (x.st = 2 && x.loading.isSome) then s else s.setBoard b (applyLeading b x.queue x)

/-- A reservation ends when its request starts or ends (R195). -/
def State.unreserve (s : State) (order : Nat) : State :=
  { s with frame := { s.frame with reserved := { cells := s.frame.reserved.cells.filter (fun c => c.2 != order + 1) } } }

/-- The outcome that stood before this instant stays for those who see it still (R32, R33). -/
def State.keepOutcome (s : State) (b : Nat) : State :=
  { s with frame := { s.frame with before := s.frame.before.put b (s.outcomeSeen b) } }

/-- A request ends (R205, R208): the position of a resident board, the record, counters, DONE; `run` is the solve that was
dispatched, with `e` what it leaves. -/
def State.endRequest (s : State) (b : Nat) (r : SolveReq) (run : Option Run) (status : Nat) (e : SolveEnd) : State :=
  let s := s.keepOutcome b
  let x := s.board b
  let flags := match run with
    | some u => if e.iterations = 0 then 0 else u.startFlags + (if e.pert then 2 else 0) + (if e.stalled then 4 else 0)
    | none => 0
  let x := if x.st != 2 then x
    else { x with pos := outcomePosition x s.now r.solveId status flags e, posOther := x.pos, cur := x.cur + 1
                  warm := if status = 0 then some { x := e.x, y := e.y, z := e.z, signature := x.desc.signature } else x.warm }
  let x := match run with
    | none => x
    | some _ => if x.st != 2 then { x with run := none } else
      { x with run := none, factor := e.factor, refactor := e.factor.isNone, adapt := e.adapt
               refactors := min 0xFFFFFFFF (x.refactors + e.refactors) }
  let s := (s.setBoard b x).unreserve r.order
  let s := match run with
    | some u => s.freeHome u
    | none => s
  let s := (((s.wr (E.Solve.LAST_SOLVE_ID b) r.solveId).wr (E.Solve.LAST_STATUS b) status).wr (E.Solve.LAST_FLAGS b) flags).wrT
    (E.Solve.LAST_OUTCOME_TB3 b) s.now
  let s := s.inc (outcomeCounter b status)
  let wait := ((match run with
    | some u => u.at_ - r.taken
    | none => (s.now : Int) - r.taken).toNat) / 1000
  let exec := match run with
    | some u => ((s.now : Int) - u.at_).toNat / 1000
    | none => 0
  let s := s.raise (E.Solve.WAIT_MAX b) wait
  let s := if run.isSome then (s.wr (E.Solve.EXEC_LAST b) exec).raise (E.Solve.EXEC_MAX b) exec else s
  let slack := (r.deadline - s.now) / 1000
  let s := if status != 0x10 && decide (slack < s.rdI (E.Solve.SLACK_MIN b)) then
      s.wrI (E.Solve.SLACK_MIN b) (clampInt (-2147483648) 2147483647 slack) else s
  let s := ((s.addTo E.Frame.PERTURBED_TOTAL e.perturbed).addTo E.Frame.REFACTORS_TOTAL e.refactors).addTo E.Frame.NUMERIC_FAULTS
    (ofBool (status == 0x12))
  let d : DoneEntry := { kind := 1, board := b, status := status, flags := flags, solveId := r.solveId, tb3 := s.now
                         iterations := e.iterations, home := (run.map (·.home)).getD 0xFF, source := r.source
                         waitUs := wait, execUs := exec }
  let s := ({ s with frame := { s.frame with ended := s.frame.ended.put b d } }).place 26 (.done d)
  let s := (List.range ((run.map (·.aborts)).getD 0)).foldl (fun s _ =>
    s.decideSolveAbort b r.solveId r.source (if status = 0x11 then 0 else 0x38)) s
  s.settleQueue b

/-- An outcome that ran no iteration. -/
def noWork (x : Board) : SolveEnd := { status := 0, factor := if x.refactor then none else x.factor, adapt := x.adapt }

/-- A request that was not dispatched ends (Table FRX-2, R197, R201). -/
def State.endWaiting (s : State) (b : Nat) (r : SolveReq) (status : Nat) : State :=
  let x := s.board b
  let s := s.setBoard b { x with queue := x.queue.filter (fun q => q != .req r) }
  s.endRequest b r none status (noWork x)

/-- The waiting request of a board. -/
def waitingReq (x : Board) : Option SolveReq := x.queue.findSome? (fun q => match q with
  | .req r => some r
  | _ => none)

/-- The first check of Table FRX-2 that ends a request. -/
def State.reqCheck (s : State) (b : Nat) (r : SolveReq) : Option Nat :=
  let x := s.board b
  if x.st != 2 || s.rd (E.Solve.HOME_ACTIVE b) == 0xFF then some 0x13
  else if r.deadline ≤ s.now then some 0x10
  else if x.rejectPending then some 0x14
  else none

/-- A request is ended by a check (Table FRX-2). -/
def State.failReq (s : State) (b : Nat) (r : SolveReq) (status : Nat) : State :=
  let s := if status = 0x14 then s.setBoard b { s.board b with rejectPending := false } else s
  s.endWaiting b r status

/-! ## Choosing homes again, and loads -/

/-- HOME_ACTIVE becomes `h`, recorded with the board's solve (R215). -/
def State.homeChanged (s : State) (b id h : Nat) : State :=
  (s.wr (E.Solve.HOME_ACTIVE b) h).log 0x05 0x01 (vU8 b ++ vU32 id ++ vU8 h ++ vTime (time96ns s.now))

/-- HOME_ACTIVE is chosen (R194); a change is recorded (R215). Without a home the board's requests end with BOARD_INVALID. -/
def State.chooseHome (s : State) (b : Nat) : State :=
  let x := s.board b
  if x.st != 2 then s
  else
    let h := s.homeFor b
    if h = s.rd (E.Solve.HOME_ACTIVE b) then s
    else
      let s := s.homeChanged b ((x.run.map (·.req.solveId)).getD 0) h
      if h != 0xFF then s
      else
        let s := match x.run with
          | some u => if u.home = 0xFF then s.endRequest b u.req (some u) 0x13 (noWork x) else s
          | none => s
        match waitingReq (s.board b) with
        | some r => s.endWaiting b r 0x13
        | none => s

/-- Pages that a board holds or will hold (R163). -/
def boardPages (x : Board) : Nat :=
  match x.loading, x.replace with
  | some d, _ => footPages (readDesc d)
  | none, some (some d) => footPages (readDesc d)
  | none, _ => if x.st = 2 then footPages x.desc else 0

/-- Pages that the resident boards other than `b` hold (FRAME_FULL). -/
def State.pagesUsed (s : State) (b : Nat) : Nat :=
  sumNat ((s.frame.boards.cells.filter (fun c => c.1 != b && c.2.st == 2)).map (fun c => boardPages c.2))

/-- The record of a board that a load resets (R207, R208). -/
def State.clearRecord (s : State) (b : Nat) : State :=
  (((s.wr (E.Solve.LAST_SOLVE_ID b) 0).wr (E.Solve.LAST_STATUS b) 0x13).wr (E.Solve.LAST_FLAGS b) 0).wr (E.Solve.LAST_OUTCOME_TB3 b) 0

/-- A checked descriptor becomes the resident board (R160, R207). -/
def State.makeResident (s : State) (b source : Nat) (bs : List Byte) : State :=
  (((s.setBoard b (loadBoard (s.board b) source bs)).clearRecord b).chooseHome b).settleQueue b

/-- A board is in progress: a solve runs or a request waits (R197). -/
def inProgress (x : Board) : Bool := x.run.isSome || (waitingReq x).isSome

/-- LOAD_DATA beyond 1 MiB is refused (Table FRM-13). -/
def State.chkLoadData (s : State) (n : Nat) : Nat := need (decide (s.rd E.Frame.LOAD_OFFSET + n ≤ 1048576)) stRange

/-- LOAD_DATA (R159). -/
def State.effLoadData (s : State) (bs : List Byte) : State :=
  let o := s.rd E.Frame.LOAD_OFFSET
  let s := { s with frame := { s.frame with staging := s.frame.staging.writeList o bs } }
  (s.wr E.Frame.LOAD_OFFSET (o + bs.length)).raise E.Frame.LOAD_LENGTH (o + bs.length)

/-- Frame staging is emptied (LOAD_CLEAR, R159). -/
def State.effLoadClear (s : State) : State :=
  (({ s with frame := { s.frame with staging := {} } }).wr E.Frame.LOAD_OFFSET 0).wr E.Frame.LOAD_LENGTH 0

/-- The copy of board `b` in the configuration flash becomes `bs` (R161). -/
def State.keepBoard (s : State) (b : Nat) (bs : List Byte) : State :=
  { s with frame := { s.frame with flash := s.frame.flash.put b bs } }

/-- A loaded descriptor `bs` goes to board `b`: it replaces a resident board between solves and else becomes resident (R160, R161). -/
def State.placeBoard (s : State) (b : Nat) (bs : List Byte) : State :=
  if (s.board b).st = 2 then s.setBoard b { s.board b with replace := some (some bs) } else s.makeResident b 1 bs

/-- LOAD_COMMIT (R159, R160): the checks of Table FRM-4; a load over a resident board waits for BOARD_REPLACE. -/
def State.effLoadCommit (s : State) : State :=
  let b := s.rd E.Frame.LOAD_BOARD
  let bs := s.frame.staging.readList 0 (s.rd E.Frame.LOAD_LENGTH)
  let r := descResult bs none
  let r := if r != 0 then r else if 4032 < s.pagesUsed b + footPages (readDesc bs) then 0x09 else if s.archiveBoard b then 0x0A else 0
  let s := s.effLoadClear.wr E.Frame.LOAD_RESULT r
  if r != 0 then s else (s.keepBoard b bs).placeBoard b bs

/-- UNLOAD_BOARD: an archive board or an EMPTY board is refused (R161). -/
def State.chkUnload (s : State) (b : Nat) : Nat := need (!s.archiveBoard b && (s.board b).st != 0) stRange

/-- UNLOAD_BOARD requests the board to become EMPTY (R161). -/
def State.effUnload (s : State) (b : Nat) : State := s.setBoard b { s.board b with replace := some none }

/-- BOARD_REPLACE (R160): the new board begins to be written. -/
def State.boardReplace (s : State) (b : Nat) : State :=
  let x := s.board b
  match x.replace with
  | some (some bs) => if inProgress x then s else s.setBoard b { x with replace := none, loading := some bs }
  | _ => s

/-- BOARD_UNLOAD (R161). -/
def State.boardUnload (s : State) (b : Nat) : State :=
  let x := s.board b
  match x.replace with
  | some none =>
    if inProgress x then s
    else
      let s := ({ s with frame := { s.frame with boards := s.frame.boards.drop b, flash := s.frame.flash.drop b } }).clearRecord b
      if s.rd (E.Solve.HOME_ACTIVE b) = 0xFF then s else s.homeChanged b 0 0xFF
  | _ => s

/-- BOARD_LOAD_DONE (R160, R162): the checks of Table FRM-4 are made, in number order for the loads of the start sequence; a load or
an unload accepted while the board is being written still waits. -/
def State.boardLoadDone (s : State) (b : Nat) : State :=
  let x := s.board b
  match x.loading with
  | none => s
  | some bs =>
    if x.st != 2 && (x.st != 1 || s.frame.boards.cells.any (fun c => decide (c.1 < b) && c.2.st == 1)) then s
    else
      let r := descResult bs (if x.source = 0 then some s.taskIds else none)
      if r = 0 && s.pagesUsed b + footPages (readDesc bs) ≤ 4032 then
        let s := s.makeResident b x.source bs
        s.setBoard b { s.board b with replace := x.replace }
      else (s.setBoard b { x with st := 3, loading := none }).clearRecord b

/-! ## Takes (R191, R192, R197, R198, R201) -/

/-- The ring from which the scheduler takes next (R191, R192). -/
def State.nextSubmit (s : State) : Option Nat :=
  if s.fill 24 != 0 && s.frame.pauseHi.isNone then some 24
  else if s.fill 25 != 0 && s.frame.pauseLo.isNone then some 25
  else none

/-- The board that an item names. -/
def itemBoard : SubmitItem → Nat
  | .batch b _ => b
  | .solve b _ _ => b
  | .abort b _ => b

/-- The next entry, where it satisfies `p`: taken from its ring with that ring's number; a full board queue pauses the ring. -/
def State.takeSubmit (s : State) (p : SubmitItem → Bool) : State × Option (Nat × SubmitEntry) :=
  if !s.frameGoes then (s, none)
  else match s.nextSubmit with
  | none => (s, none)
  | some k =>
    match (s.ring k).q with
    | .submit e :: _ =>
      if !p e.item then (s, none)
      else
        let b := itemBoard e.item
        if 16 ≤ (s.board b).queue.length then
          let s := { s with frame := if k = 24 then { s.frame with pauseHi := some b } else { s.frame with pauseLo := some b } }
          (s.inc (E.Solve.QUEUE_STALLS b), none)
        else ((s.pop k).1, some (k, e))
    | _ => (s, none)

/-- BATCH_TAKE (R170). -/
def State.batchTake (s : State) : State :=
  match s.takeSubmit (fun i => match i with
    | .batch _ _ => true
    | _ => false) with
  | (s, some (k, { item := .batch b bs, source, .. })) =>
    let x := s.board b
    if x.st = 2 && (inProgress x || x.loading.isSome || !x.queue.isEmpty) then
      s.setBoard b { x with queue := x.queue ++ [.batch source (k == 24) bs] }
    else s.setBoard b (applyBatch x b source bs)
  | (s, _) => s

/-- The order of R195: higher class, earlier deadline, earlier take. -/
def reqBefore (a b : SolveReq) : Bool :=
  if a.hi != b.hi then a.hi
  else if a.deadline != b.deadline then decide (a.deadline < b.deadline)
  else decide (a.order < b.order)

/-- The first request by the order of R195. -/
def firstReq : List (Nat × SolveReq) → Option (Nat × SolveReq)
  | [] => none
  | x :: xs =>
    match firstReq xs with
    | none => some x
    | some y => if reqBefore x.2 y.2 then some x else some y

/-- The request of a board that is ready: taken, with no running solve and no replacement under way (R160, R195); a solve that a bead
fault stopped is ready again (R212). -/
def readyReq (x : Board) : Option SolveReq :=
  match x.run with
  | some u => if u.home = 0xFF then some u.req else none
  | none => if x.loading.isSome then none else waitingReq x

/-- Ready requests homed on `h`. -/
def State.readyOn (s : State) (h : Nat) : List (Nat × SolveReq) :=
  s.frame.boards.cells.filterMap (fun c =>
    if c.2.st == 2 && s.rd (E.Solve.HOME_ACTIVE c.1) == h then (readyReq c.2).map (fun r => (c.1, r)) else none)

/-- A bead runs nothing. -/
def State.beadFree (s : State) (k : Nat) : Bool :=
  !s.offline k && !s.frame.boards.vals.any (fun x => x.run.any (fun u => (homeBeads u.home).contains k))

/-- A rod request that heads the order of a free bead of its rod reserves the rod (R195); one that comes to stand before it in the
order takes the reservation over. -/
def State.reserveRods (s : State) : State :=
  (List.range 8).foldl (fun s r =>
    match firstReq (s.readyOn (64 + r)) with
    | none => s
    | some (_, q) =>
      let heads := (homeBeads (64 + r)).any (fun k => s.beadFree k && (s.readyOn k).all (fun x => reqBefore q x.2))
      if heads || (s.frame.reserved.find r).isSome then { s with frame := { s.frame with reserved := s.frame.reserved.put r (q.order + 1) } } else s) s

/-- SOLVE_TAKE (R197, R198). -/
def State.solveTake (s : State) : State :=
  match s.takeSubmit (fun i => match i with
    | .solve _ _ _ => true
    | _ => false) with
  | (s, some (k, { item := .solve b deadline cold, source, solveId, issued })) =>
    let s := s.inc (E.Solve.REQUESTS b)
    let r : SolveReq := { solveId := solveId, source := source, deadline := deadline, cold := cold, issued := issued, taken := s.now
                          hi := k == 24, order := s.frame.takes }
    let s := { s with frame := { s.frame with takes := s.frame.takes + 1 } }
    let s := match waitingReq (s.board b) with
      | some w => (s.endWaiting b w 0x11).inc (E.Solve.SUPERSEDED b)
      | none => s
    (match s.reqCheck b r with
      | some st => s.failReq b r st
      | none => (s.setBoard b { s.board b with queue := (s.board b).queue ++ [.req r] }).reserveRods)
  | (s, _) => s

/-- ABORT_TAKE (R201, Table FRX-3). -/
def State.abortTake (s : State) : State :=
  match s.takeSubmit (fun i => match i with
    | .abort _ _ => true
    | _ => false) with
  | (s, some (_, { item := .abort b id, source, .. })) =>
    let x := s.board b
    let waits := (waitingReq x).filter (fun r => r.solveId == id)
    (match waits, x.run with
      | some r, _ => ((s.endWaiting b r 0x11).decideSolveAbort b id r.source 0).reserveRods
      | none, some u =>
        if u.req.solveId = id then
          (if u.home = 0xFF then ((s.endRequest b u.req (some u) 0x11 (noWork x)).decideSolveAbort b id source 0).reserveRods
           else s.setBoard b { x with run := some { u with aborts := u.aborts + 1 } })
        else s.decideSolveAbort b id source 0x38
      | none, none => s.decideSolveAbort b id source 0x38)
  | (s, _) => s

/-- SUBMIT_QUEUE_ROOM (R192). -/
def State.queueRoom (s : State) : State :=
  let free := fun (p : Option Nat) => p.filter (fun b => decide (16 ≤ (s.board b).queue.length))
  { s with frame := { s.frame with pauseHi := free s.frame.pauseHi, pauseLo := free s.frame.pauseLo } }

/-! ## Dispatch and the end of a solve (R195, R198 to R202) -/

/-- A ready request starts on a home (R198, R204). -/
def State.startReq (s : State) (h b : Nat) (r : SolveReq) : State :=
  let s := s.settleQueue b
  match s.reqCheck b r with
  | some st =>
    (match (s.board b).run with
      | some u => s.endRequest b r (some u) st (noWork (s.board b))
      | none => s.failReq b r st)
  | none =>
    let x := s.board b
    let (x0, z0, y0, fl) := startValues x r.cold
    let u : Run := { req := r, home := h, at_ := s.now, x0 := x0, z0 := z0, y0 := y0, startFlags := fl
                     aborts := (x.run.map (·.aborts)).getD 0 }
    let s := (s.setBoard b { x with queue := x.queue.filter (fun q => q != .req r), run := some u }).unreserve r.order
    (homeBeads h).foldl (fun s k =>
      ((s.wr (E.Bead.BEAD_STATE k) (if h < 64 then 1 else 2)).wr (E.Bead.BEAD_BOARD k) b).inc (E.Bead.BEAD_SOLVES k)) s

/-- SOLVE_DISPATCH on home `h` (R195, R209). -/
def State.solveDispatch (s : State) (h : Nat) : State :=
  if !s.frameGoes || !(s.ring 26).waiting.isEmpty then s
  else
    let s := s.reserveRods
    if h < 64 then
      match firstReq (s.readyOn h) with
      | none => s
      | some (b, r) =>
        let rod := firstReq (s.readyOn (64 + h / 8))
        let held := match s.frame.reserved.find (h / 8) with
          | some o => s.frame.boards.vals.any (fun x => (readyReq x).any (fun q => q.order + 1 == o && (q.hi || !r.hi)))
          | none => rod.any (fun q => reqBefore q.2 r)
        if !s.beadFree h || held then s else (s.startReq h b r).reserveRods
    else if h < 72 then
      let pick := (s.readyOn h).find? (fun x => s.frame.reserved.find (h - 64) == some (x.2.order + 1))
      match pick with
      | none => s
      | some (b, r) => if (homeBeads h).all s.beadFree then (s.startReq h b r).reserveRods else s
    else s

/-- What a running solve gives at its own end. -/
def fullSolve (x : Board) (u : Run) : SolveEnd := solveBoard x u.x0 u.z0 u.y0 x.set.maxIter (false, 0)

/-- What a solve that is cut leaves (R172, R200, R202): a completed factorisation stays cached, a partial one is discarded. -/
def cutSolve (x : Board) (u : Run) (c : Cut) : SolveEnd :=
  if x.refactor && !c.factored then { status := 0, factor := none, adapt := x.adapt }
  else
    let e := solveBoard x u.x0 u.z0 u.y0 (min c.iterations x.set.maxIter) (c.adapting, if c.iterations < x.set.maxIter then c.refined else 0)
    { e with x := [], y := [], z := [] }

/-- u_X of the SOLVE domain, in 0.5 ns (R552, Table PWR-7). -/
def solveCross : Nat := 15

/-- The bead's guard (R199): its copy of TB3, which lags TB3 by at most u_X, plus u_X is earlier than the deadline. -/
def State.beadGuard (s : State) (deadline : Int) : Bool :=
  decide (2 * (s.now : Int) - (Config.beadLag s.freeCtr % (solveCross + 1) : Nat) + solveCross < 2 * deadline)

/-- SOLVE_OUTCOME (R199, R205): the outcome commits where the bead's guard holds; else the bead discards it. -/
def State.solveOutcome (s : State) (b : Nat) : State :=
  match (s.board b).run with
  | some u =>
    if !s.frameGoes || u.home = 0xFF || !s.beadGuard u.req.deadline then s
    else
      let s := s.drawn
      let e := fullSolve (s.board b) u
      (s.endRequest b u.req (some u) e.status e).reserveRods
  | none => s

/-- DEADLINE_MISS (R200): of the running solve, else of the waiting request. -/
def State.deadlineMiss (s : State) (b : Nat) (c : Cut) : State :=
  let x := s.board b
  if !s.frameGoes then s
  else match x.run.filter (fun u => decide (u.req.deadline ≤ (s.now : Int))), waitingReq x with
  | some u, _ => (s.endRequest b u.req (some u) 0x10 (if u.home = 0xFF then noWork x else cutSolve x u c)).reserveRods
  | none, some r => if r.deadline ≤ s.now then (s.endWaiting b r 0x10).reserveRods else s
  | none, none => s

/-- ABORT_LATCH (R201): the solve stops, unless its outcome commits in the same cycle. -/
def State.abortLatch (s : State) (b : Nat) (c : Cut) (sameCycle : Bool) : State :=
  let x := s.board b
  match x.run with
  | some u =>
    if !s.frameGoes || u.aborts = 0 || u.req.deadline ≤ s.now then s
    else if sameCycle then s.solveOutcome b
    else (s.endRequest b u.req (some u) 0x11 (if u.home = 0xFF then noWork x else cutSolve x u c)).reserveRods
  | none => s

/-- DONE_WRITE (R38, R209). -/
def State.doneWrite (s : State) : State := s.unstall 26

/-! ## Bead and store faults (R212) -/

/-- BEAD_SRAM_UNCORRECTABLE: the bead goes OFFLINE, homes are chosen again and the solve waits for its new home. -/
def State.beadFault (s : State) (k : Nat) : State :=
  match s.frame.boards.cells.find? (fun c => c.2.run.any (fun u => (homeBeads u.home).contains k)) with
  | none => s
  | some (b, x) =>
    match x.run with
    | none => s
    | some u =>
      let s := (s.wr (E.Bead.ECC_FATAL k) 1).freeHome u
      let s := (s.wr (E.Bead.BEAD_STATE k) 3).log 0x05 0x02 (vU8 b ++ vU32 u.req.solveId ++ vU8 k ++ vTime (time96ns s.now))
      let s := s.setBoard b { x with run := some { u with home := 0xFF } }
      let bs := s.frame.boards.keys.filter (fun c => s.rd (E.Solve.HOME_ACTIVE c) == k || s.rd (E.Solve.HOME_ACTIVE c) == 64 + k / 8)
      (bs.foldl (fun s c => s.chooseHome c) s).reserveRods

/-- FRAME_STORE_UNCORRECTABLE: the board is INVALID and its solves end with BOARD_INVALID. -/
def State.storeFault (s : State) (b : Nat) : State :=
  let x := s.board b
  if x.st != 2 then s
  else
    let s := s.setBoard b { x with st := 3 }
    let s := match x.run with
      | some u => s.endRequest b u.req (some u) 0x13 (noWork x)
      | none => s
    let s := match waitingReq (s.board b) with
      | some r => s.endWaiting b r 0x13
      | none => s
    s.settleQueue b

/-- HOME: 0x00 to 0x47 or 0xFF (Table FRX-10). -/
def State.chkHome (_s : State) (v : Nat) : Nat := need (v < 0x48 || v == 0xFF) stRange

/-- RESET_STATS of a board (Table FRX-10). -/
def State.effSolveStats (s : State) (b : Nat) : State :=
  (s.clear [E.Solve.REQUESTS b, E.Solve.SOLVED_COUNT b, E.Solve.CAP_COUNT b, E.Solve.INFEASIBLE_COUNT b, E.Solve.DEADLINE_MISSES b,
    E.Solve.ABORTS b, E.Solve.SUPERSEDED b, E.Solve.NUMERIC_COUNT b, E.Solve.INVALID_COUNT b, E.Solve.WAIT_MAX b, E.Solve.EXEC_LAST b,
    E.Solve.EXEC_MAX b, E.Solve.QUEUE_STALLS b]).wr (E.Solve.SLACK_MIN b) 0x7FFFFFFF

/-- RESET_STATS of a bead (Table FRX-11): BEAD_BUSY_MAX is the highest BEAD_BUSY from now on. -/
def State.effBeadStats (s : State) (k : Nat) : State :=
  (s.clear [E.Bead.BEAD_SOLVES k, E.Bead.ECC_CORRECTED k]).wr (E.Bead.BEAD_BUSY_MAX k) (s.beadBusy k)

/-! ## Commands -/

/-- BOARD_REPLACE (R160). -/
def execBoardReplace (at_ board : Nat) (s : State) : Result := .next ((s.advance at_).boardReplace board)
/-- BOARD_UNLOAD (R161). -/
def execBoardUnload (at_ board : Nat) (s : State) : Result := .next ((s.advance at_).boardUnload board)
/-- BOARD_LOAD_DONE (R162). -/
def execBoardLoadDone (at_ board : Nat) (s : State) : Result := .next ((s.advance at_).boardLoadDone board)
/-- BATCH_TAKE (R170). -/
def execBatchTake (at_ : Nat) (s : State) : Result := .next ((s.advance at_).batchTake)
/-- SOLVE_TAKE (R197). -/
def execSolveTake (at_ : Nat) (s : State) : Result := .next ((s.advance at_).solveTake)
/-- ABORT_TAKE (R201). -/
def execAbortTake (at_ : Nat) (s : State) : Result := .next ((s.advance at_).abortTake)
/-- SUBMIT_QUEUE_ROOM (R192). -/
def execSubmitQueueRoom (at_ : Nat) (s : State) : Result := .next ((s.advance at_).queueRoom)
/-- SOLVE_DISPATCH (R198). -/
def execSolveDispatch (at_ home : Nat) (s : State) : Result := .next ((s.advance at_).solveDispatch home)
/-- SOLVE_OUTCOME (R205). -/
def execSolveOutcome (at_ board : Nat) (s : State) : Result := .next ((s.advance at_).solveOutcome board)
/-- DEADLINE_MISS (R200). -/
def execDeadlineMiss (at_ board : Nat) (cut : Cut) (s : State) : Result := .next ((s.advance at_).deadlineMiss board cut)
/-- ABORT_LATCH (R201). -/
def execAbortLatch (at_ board : Nat) (cut : Cut) (sameCycle : Bool) (s : State) : Result :=
  .next ((s.advance at_).abortLatch board cut sameCycle)
/-- DONE_WRITE (R209). -/
def execDoneWrite (at_ : Nat) (s : State) : Result := .next ((s.advance at_).doneWrite)
/-- BEAD_SRAM_UNCORRECTABLE (R212). -/
def execBeadSramUncorrectable (at_ bead : Nat) (s : State) : Result := .next ((s.advance at_).beadFault bead)
/-- BEAD_ECC_CORRECTED (R212). -/
def execBeadEccCorrected (at_ bead : Nat) (s : State) : Result :=
  .next (if bead < 64 then (s.advance at_).inc (E.Bead.ECC_CORRECTED bead) else s.advance at_)
/-- FRAME_STORE_UNCORRECTABLE (R212). -/
def execFrameStoreUncorrectable (at_ board : Nat) (s : State) : Result := .next ((s.advance at_).storeFault board)

end Sys2Proof.Machine
end

