-- ==== Sys2Proof/Machine/TallyStages.lean ====
section
/-!
DEFINITION. Machine/TallyStages.lean: the stage library of Tally in block floating point (R225 to R234, R240). A value between
stages is a binary32; inside a stage it is an integer mantissa with a power of two.
-/
namespace Sys2Proof.Machine

/-- An exact value `n * 2 ^ e`. -/
structure Dy where
  n : Int
  e : Int
deriving DecidableEq, Repr

/-- Zero. -/
def dyZero : Dy := { n := 0, e := 0 }
/-- One. -/
def dyOne : Dy := { n := 1, e := 0 }

/-- The exact value of a binary32; 0 for a NaN or an infinity. -/
def dyOf32 (b : Nat) : Dy :=
  match fmt32.unpack b with
  | .fin neg m e => { n := if neg then -(m : Int) else m, e := e }
  | _ => dyZero

/-- Exact sum. -/
def dyAdd (a b : Dy) : Dy :=
  let e := min a.e b.e
  { n := a.n * (2 ^ (a.e - e).toNat : Nat) + b.n * (2 ^ (b.e - e).toNat : Nat), e := e }
/-- Exact negation. -/
def dyNeg (a : Dy) : Dy := { a with n := -a.n }
/-- Exact difference. -/
def dySub (a b : Dy) : Dy := dyAdd a (dyNeg b)
/-- Exact product. -/
def dyMul (a b : Dy) : Dy := { n := a.n * b.n, e := a.e + b.e }
/-- `a < b`, exactly. -/
def dyLt (a b : Dy) : Bool := decide ((dySub a b).n < 0)
/-- `a ≤ b`, exactly. -/
def dyLe (a b : Dy) : Bool := decide ((dySub a b).n ≤ 0)
/-- Magnitude. -/
def dyAbs (a : Dy) : Dy := { a with n := (a.n.natAbs : Int) }
/-- `a` clamped to `lo`..`hi`. -/
def dyClamp (lo hi a : Dy) : Dy := if dyLt a lo then lo else if dyLt hi a then hi else a

/-- The value in units of `2 ^ k`, rounded to nearest, ties to even. -/
def dyRound (a : Dy) (k : Int) : Int :=
  if k ≤ a.e then a.n * (2 ^ (a.e - k).toNat : Nat)
  else
    let r : Nat := shiftRne a.n.natAbs (k - a.e).toNat
    if a.n < 0 then -(r : Int) else r

/-- The smallest exponent `E` with `|a| < 2 ^ E`; -1000000 for zero. -/
def dyExp (a : Dy) : Int := if a.n = 0 then -1000000 else a.e + (Nat.log2 a.n.natAbs : Int) + 1

/-- The value to which a result saturates: (2^23 - 1) * 2^104 (R233). -/
def dySat : Dy := { n := 8388607, e := 104 }
/-- The magnitude reaches 2^127, rounded at the highest exponent E = 127 (R230, R233; log 172). -/
def dyOverflows (a : Dy) : Bool := decide (8388608 ≤ (dyRound a 104).natAbs)
/-- A value that reaches 2^127 saturates (R233). -/
def dySaturate (a : Dy) : Dy := if !dyOverflows a then a else if a.n < 0 then dyNeg dySat else dySat

/-- The smallest shared exponent of a vector, not below -126 (R230); raised by one where rounding at it carries a mantissa
to 2^23. -/
def sharedExp (vs : List Dy) : Int :=
  let e := (vs.map dyExp).foldl max (-126)
  if vs.any (fun v => (dyRound v (e - 23)).natAbs ≥ 8388608) then e + 1 else e

/-- A vector aligned to the exponent `e`: each element rounded to nearest, ties to even (R230). -/
def alignTo (e : Int) (vs : List Dy) : List Dy := vs.map (fun v => { n := dyRound v (e - 23), e := e - 23 })

/-- A single intermediate value renormalised to a 24-bit mantissa (R232). -/
def renorm (a : Dy) : Dy := let s := dySaturate a; (alignTo (sharedExp [s]) [s]).headD dyZero

/-- A sum of products in the 48-bit accumulator (R232): its least significant bit weighs 2^(F - 43), where 2^F bounds the
largest product. -/
def accum (ps : List Dy) : Dy :=
  let f := (ps.map dyExp).foldl max (-1000000)
  if f ≤ -1000000 then dyZero
  else { n := (ps.map (fun p => dyRound p (f - 43))).foldl (· + ·) 0, e := f - 43 }

/-- The binary32 of a value of a vector aligned at the end of a stage; exact (R233). -/
def dyTo32 (a : Dy) : Nat := fmt32.roundInt a.n a.e

/-- A derived coefficient whose binary32 computation overflowed has no stated value (log 31). -/
def finiteCoef (b : Nat) : Nat :=
  if fmt32.special b then (let v := Config.openCoef b % 2 ^ 32; if fmt32.special v then 0 else v) else b

/-- A value as a coefficient (R231): a mantissa of magnitude 2^22 to 2^23 - 1, rounded to nearest, ties to even, with an exponent of
its own; a mantissa that the rounding carries to 2^23 is halved. -/
def dyCoef (a : Dy) : Dy :=
  if a.n = 0 then dyZero
  else
    let k := dyExp a - 23
    let m := dyRound a k
    if m.natAbs = 8388608 then { n := m / 2, e := k + 1 } else { n := m, e := k }

/-- The coefficient of a binary32 (R231). -/
def coef (b : Nat) : Dy := dyCoef (dyOf32 (finiteCoef b))

/-- What a stage evaluation gives: output, second output, new states, and the flags it raises. -/
structure StageOut where
  y : Nat
  y2 : Nat := 0
  states : List Nat
  ovf : Bool := false
  intHold : Bool := false
  limHi : Bool := false
  limLo : Bool := false
  bad : Bool := false
deriving DecidableEq, Repr

/-- The end of a stage: output, second output and new states renormalised together at an exponent not below that of the
stage's vector (R232, R234). `mids` are the operands and the intermediate values, whose saturation sets STAGE_OVF too (R230, R233). -/
def finish (e0 : Int) (y y2 : Dy) (st mids : List Dy) (o : StageOut) : StageOut :=
  let vs := y :: y2 :: st
  let sat := vs.map dySaturate
  let e := max e0 (sharedExp sat)
  let al := (alignTo e sat).map dyTo32
  { o with y := al.headD 0, y2 := al.getD 1 0, states := al.drop 2, ovf := (vs ++ mids).any dyOverflows }

/-- The sample period T in seconds as a binary32 (R217). -/
def samplePeriod (frames : Nat) : Nat := fmt32.ofRat (50 * frames) 1000000

/-- The KP, KI, KD and TF of a PID stage (R228). -/
def pidGains (code : Nat) (p : Nat → Nat) : Nat × Nat × Nat × Nat :=
  if code = 0x02 then
    (p 0, if fmt32.isZero (p 1) then 0 else fmt32.div (p 0) (p 1), fmt32.mul (p 0) (p 2), fmt32.div (p 2) (p 3))
  else (p 0, p 1, p 2, p 3)

/-- The P and D parts, ei and v of a PID stage from its aligned vector (R228), and the values renormalised on the way: `vec` holds
sp, pv, I, D, v1. -/
def pidParts (code : Nat) (p : Nat → Nat) (t : Nat) (first : Bool) (vec : List Dy) : Dy × Dy × Dy × Dy × List Dy :=
  let (kp, _, kd, tf) := pidGains code p
  let den := fmt32.add tf t
  let alpha := fmt32.div tf den
  let beta := fmt32.div kd den
  let act := coef (p 8)
  let sp := vec.getD 0 dyZero
  let pv := vec.getD 1 dyZero
  let ep0 := dyMul act (accum [dyMul (coef (p 4)) sp, dyNeg pv])
  let ei0 := dyMul act (accum [sp, dyNeg pv])
  let w := dyMul act (accum [dyMul (coef (p 5)) sp, dyNeg pv])
  let ep := renorm ep0
  let ei := renorm ei0
  let v := renorm w
  let v1 := if first then v else vec.getD 4 dyZero
  let dv0 := accum [v, dyNeg v1]
  let dv := renorm dv0
  let d := accum [dyMul (coef alpha) (vec.getD 3 dyZero), dyMul (coef beta) dv]
  (accum [dyMul (coef kp) ep], d, ei, v, [ep0, ei0, w, dv0])

/-- A PID stage (R228). `iSet` is the integrator that a preset gives (R240), `holdUp` and `holdDown` the bounds of R243,
`freeze` FREEZE_I of R244. -/
def evalPid (code : Nat) (p : Nat → Nat) (t : Nat) (first : Bool) (sp pv : Nat) (st : List Nat) (iSet : Option Dy)
    (holdUp holdDown freeze : Bool) : StageOut :=
  let ops := (sp :: pv :: fitTo 0 3 st).map dyOf32
  let raw := ops.map dySaturate
  let e := sharedExp raw
  let vec := alignTo e raw
  let (pp, d, ei, v, mids) := pidParts code p t first vec
  let (_, ki, _, _) := pidGains code p
  let i0 := vec.getD 2 dyZero
  let lo := coef (p 6)
  let hi := coef (p 7)
  let ic := accum [i0, dyMul (coef (fmt32.mul ki t)) ei]
  let s := accum [pp, ic, d]
  let held := (dyLt hi s && dyLt dyZero ei) || (dyLt s lo && dyLt ei dyZero) ||
    (holdUp && dyLt i0 ic) || (holdDown && dyLt ic i0)
  let i1 := match iSet with
    | some i => i
    | none => if freeze then i0 else if held then i0 else ic
  let i2 := if freeze && iSet.isNone then i1 else dyClamp lo hi i1
  let y0 := accum [pp, i2, d]
  let y := dyClamp lo hi y0
  finish e y dyZero [i2, d, v] (ops ++ mids)
    { y := 0, states := [], intHold := iSet.isNone && !freeze && held, limHi := dyLt hi y0, limLo := dyLt y0 lo }

/-- The coefficients b0, b1 and a1 of LEAD_LAG, in binary32 in the written order (R228). -/
def leadLag (p : Nat → Nat) (t : Nat) : Nat × Nat × Nat :=
  let two := 0x40000000
  let d := fmt32.add (fmt32.mul two (p 2)) t
  (fmt32.div (fmt32.mul (p 0) (fmt32.add (fmt32.mul two (p 1)) t)) d,
   fmt32.div (fmt32.mul (p 0) (fmt32.sub t (fmt32.mul two (p 1)))) d,
   fmt32.div (fmt32.sub (fmt32.mul two (p 2)) t) d)

/-- A characteriser table in force: its points, and whether it is valid (R264). -/
structure CharTable where
  xs : List Nat
  ys : List Nat
  valid : Bool
deriving DecidableEq, Repr

/-- The segment of a characteriser that holds `x`: the first `i` with x below X_(i+1). -/
def charSegment (tb : CharTable) (x : Dy) : Nat :=
  ((List.range (tb.xs.length - 1)).find? (fun i => dyLt x (coef (tb.xs.getD (i + 1) 0)))).getD (tb.xs.length - 2)

/-- The output of a characteriser before its renormalisation, and the value renormalised on the way (R228). -/
def charValue (tb : CharTable) (x : Dy) : Dy × Dy :=
  let x0 := coef (tb.xs.headD 0)
  let xl := coef (tb.xs.getLastD 0)
  if dyLe x x0 then (coef (tb.ys.headD 0), dyZero)
  else if dyLe xl x then (coef (tb.ys.getLastD 0), dyZero)
  else
    let i := charSegment tb x
    let yi := tb.ys.getD i 0
    let xi := tb.xs.getD i 0
    let s := fmt32.div (fmt32.sub (tb.ys.getD (i + 1) 0) yi) (fmt32.sub (tb.xs.getD (i + 1) 0) xi)
    let dx := accum [x, dyNeg (coef xi)]
    (accum [coef yi, dyMul (coef s) (renorm dx)], dx)

/-- The number of states of a stage (Table TLY-5). -/
def stageStates (code : Nat) : Nat :=
  match code with
  | 0x01 => 3 | 0x02 => 3 | 0x03 => 2 | 0x04 => 4 | 0x05 => 1 | 0x0D => 1 | _ => 0

/-- The slots of a stage (Table TLY-5). -/
def stageSlots (code : Nat) : Nat :=
  if code = 0x01 || code = 0x02 || code = 0x04 || code = 0x0A || code = 0x0D then 2 else 1

/-- The number of parameters of a stage (Table TLY-5). -/
def stageParams (code : Nat) : Nat :=
  match code with
  | 0x01 => 9 | 0x02 => 9 | 0x03 => 3 | 0x04 => 5 | 0x05 => 2 | 0x06 => 2 | 0x07 => 1 | 0x08 => 1 | 0x09 => 6
  | 0x0A => 1 | 0x0B => 4 | 0x0D => 5 | _ => 0

/-- The median of three. -/
def dyMedian (a b c : Dy) : Dy :=
  if dyLe a b then (if dyLe b c then b else if dyLe a c then c else a)
  else (if dyLe a c then a else if dyLe b c then c else b)

/-- The operands of a stage that are connected, with their values. -/
def connected (ops : List (Option Nat)) : List Nat := ops.filterMap id

/-- A stage other than a PID (R228): operand values (none for an unconnected one), parameters, states, the previous output
(held by a stage with an invalid table, R229). -/
def evalStage (code : Nat) (ops : List (Option Nat)) (p : Nat → Nat) (t : Nat) (st : List Nat) (prevY : Nat) (tb : CharTable) :
    StageOut :=
  let opv := (fitTo none 3 ops).map (fun o => o.getD 0)
  let st := fitTo 0 (stageStates code) st
  let mids := (opv ++ st).map dyOf32
  let raw := mids.map dySaturate
  let e := sharedExp raw
  let vec := alignTo e raw
  let x := vec.getD 0 dyZero
  let o : StageOut := { y := 0, states := [] }
  match code with
  | 0x03 =>
    let (b0, b1, a1) := leadLag p t
    let y := accum [dyMul (coef a1) (vec.getD 4 dyZero), dyMul (coef b0) x, dyMul (coef b1) (vec.getD 3 dyZero)]
    finish e y dyZero [x, y] mids o
  | 0x04 =>
    let x1 := vec.getD 3 dyZero
    let x2 := vec.getD 4 dyZero
    let y1 := vec.getD 5 dyZero
    let y2 := vec.getD 6 dyZero
    let y := accum [dyMul (coef (p 0)) x, dyMul (coef (p 1)) x1, dyMul (coef (p 2)) x2,
      dyNeg (dyMul (coef (p 3)) y1), dyNeg (dyMul (coef (p 4)) y2)]
    finish e y dyZero [x, x1, y, y1] mids o
  | 0x05 =>
    let y1 := vec.getD 3 dyZero
    let dn := dyNeg (coef (fmt32.mul (p 1) t))
    let up := coef (fmt32.mul (p 0) t)
    let y := accum [y1, dyClamp dn up (dySub x y1)]
    finish e y dyZero [y] mids o
  | 0x06 => finish e (dyClamp (coef (p 0)) (coef (p 1)) x) dyZero [] mids o
  | 0x07 =>
    let w := coef (p 0)
    let y := if dyLe (dyAbs x) w then dyZero else if x.n < 0 then accum [x, w] else accum [x, dyNeg w]
    finish e y dyZero [] mids o
  | 0x08 =>
    let cs := (connected (fitTo none 3 ops)).map (fun b => ((alignTo e [dySaturate (dyOf32 b)]).headD dyZero))
    let md := fmt32.nearestScaled (p 0) 0
    let y :=
      if md = 0 then cs.foldl (fun a b => if dyLt b a then b else a) (cs.headD dyZero)
      else if md = 1 then cs.foldl (fun a b => if dyLt a b then b else a) (cs.headD dyZero)
      else dyMedian (vec.getD 0 dyZero) (vec.getD 1 dyZero) (vec.getD 2 dyZero)
    finish e y dyZero [] mids o
  | 0x09 =>
    let span := coef (fmt32.sub (p 5) (p 4))
    let part := fun (a0 a1 : Nat) =>
      let r := coef (fmt32.div 0x3F800000 (fmt32.sub a1 a0))
      let u := renorm (dyClamp dyZero dyOne (accum [dyMul r (renorm (accum [x, dyNeg (coef a0)]))]))
      accum [coef (p 4), dyMul span u]
    finish e (part (p 0) (p 1)) (part (p 2) (p 3)) []
      (mids ++ [accum [x, dyNeg (coef (p 0))], accum [x, dyNeg (coef (p 2))]]) o
  | 0x0A =>
    if tb.valid then finish e (charValue tb x).1 dyZero [] (mids ++ [(charValue tb x).2]) o else { y := prevY, states := [], bad := true }
  | 0x0B =>
    finish e (accum [dyMul (coef (p 0)) x, dyMul (coef (p 1)) (vec.getD 1 dyZero), dyMul (coef (p 2)) (vec.getD 2 dyZero), coef (p 3)])
      dyZero [] mids o
  | 0x0C =>
    let c := vec.getD 2 dyZero
    finish e (if dyLe { n := 1, e := -1 } c then vec.getD 1 dyZero else x) dyZero [] mids o
  | 0x0D =>
    -- the reference is held as the binary32 it was read as, not renormalised with the output (R254)
    let r := vec.getD 3 dyZero
    let f := finish e (accum [dyMul (coef (p 2)) r, coef (p 3)]) dyZero [] mids o
    { f with states := st }
  | _ => { y := 0, states := [] }

/-- A value contained in the range between two values, in either direction. -/
def dyBetween (a b t : Dy) : Bool := (dyLe a t && dyLe t b) || (dyLe b t && dyLe t a)

/-- The back-carry of a target through one stage of the preset chain (R240): the target at its operand a, the states the stage takes,
and whether a value saturated (R233); none where the stage's table is invalid. `b`, `c` are the values of its operands b and c. -/
def backStage (code : Nat) (p : Nat → Nat) (tb : CharTable) (t b c : Nat) (st : List Nat) :
    Option (Nat × List Nat × Bool) :=
  let ops := [t, b, c].map dyOf32
  let raw := ops.map dySaturate
  let e := sharedExp raw
  let vec := alignTo e raw
  let x := vec.getD 0 dyZero
  let out := fun (v : Dy) (mids : List Dy) => finish e v dyZero [] (ops ++ mids) { y := 0, states := [] }
  match code with
  | 0x0B =>
    let rwa := coef (fmt32.div 0x3F800000 (p 0))
    let s := (accum [x, dyNeg (dyMul (coef (p 1)) (vec.getD 1 dyZero)), dyNeg (dyMul (coef (p 2)) (vec.getD 2 dyZero)), dyNeg (coef (p 3))])
    let o := out (accum [dyMul (renorm s) rwa]) [s]
    some (o.y, st, o.ovf)
  | 0x06 =>
    let o := out (dyClamp (coef (p 0)) (coef (p 1)) x) []
    some (o.y, st, o.ovf)
  | 0x05 => some (t, [t], false)
  | 0x03 =>
    let rk := coef (fmt32.div 0x3F800000 (p 0))
    let o := out (accum [dyMul x rk]) []
    some (o.y, [o.y, t], o.ovf)
  | 0x0A =>
    if !tb.valid then none
    else
      let n := tb.xs.length
      let y := fun i => coef (tb.ys.getD i 0)
      let v := match (List.range (n - 1)).find? (fun i => dyBetween (y i) (y (i + 1)) x) with
        | some i =>
          let dy := fmt32.sub (tb.ys.getD (i + 1) 0) (tb.ys.getD i 0)
          if fmt32.isZero dy then (coef (tb.xs.getD i 0), dyZero)
          else
            let r := fmt32.div (fmt32.sub (tb.xs.getD (i + 1) 0) (tb.xs.getD i 0)) dy
            let up := accum [x, dyNeg (y i)]
            (accum [coef (tb.xs.getD i 0), dyMul (coef r) (renorm up)], up)
        | none =>
          let d0 := dyAbs (dySub (y 0) x)
          let dl := dyAbs (dySub (y (n - 1)) x)
          (if dyLt dl d0 then coef (tb.xs.getLastD 0) else coef (tb.xs.headD 0), dyZero)
      let o := out v.1 [v.2]
      some (o.y, st, o.ovf)
  | 0x0C => some (t, st, false)
  | _ => none

/-- The integrator that makes a PID stage's output equal to `tS` (R240): clamp(tS - P - D, LO, HI), whether it was clamped, and whether
a value saturated on the way. -/
def presetI (code : Nat) (p : Nat → Nat) (t : Nat) (first : Bool) (sp pv : Nat) (st : List Nat) (tS : Nat) :
    Dy × Bool × Bool :=
  let ops := (sp :: pv :: fitTo 0 3 st).map dyOf32
  let raw := ops.map dySaturate
  let vec := alignTo (sharedExp raw) raw
  let (pp, d, _, _, mids) := pidParts code p t first vec
  let i := accum [dyOf32 tS, dyNeg pp, dyNeg d]
  (dyClamp (coef (p 6)) (coef (p 7)) i, dyLt i (coef (p 6)) || dyLt (coef (p 7)) i, (ops ++ mids).any dyOverflows)

end Sys2Proof.Machine
end

