-- ==== Sys2Proof/Machine/TallyLoop.lean ====
section
/-!
DEFINITION. Machine/TallyLoop.lean: one sample of a Tally loop (R220 to R224, R239 to R257, R261): inputs, supervision, modes,
presets, evaluation and conversion.
-/
namespace Sys2Proof.Machine

/-- Loop slot `l` beside its entries. -/
def State.loopSt (s : State) (l : Nat) : LoopSt := s.tally.loops.fetch {} l

/-- Loop slot `l` replaced. -/
def State.setLoop (s : State) (l : Nat) (x : LoopSt) : State :=
  { s with tally := { s.tally with loops := s.tally.loops.store {} l x } }

/-- A LOOP_EVT entry (Table TLY-14) of a sample released now; it is written at the sample's commit (Table TLY-10). -/
def State.loopEvt (s : State) (l event detail : Nat) : State :=
  let x := s.loopSt l
  s.setLoop l { x with events := x.events ++ [leBytes 2 l ++ leBytes 1 event ++ leBytes 1 detail ++ time96le (time96ns s.now)] }

/-- Parameter `k` of stage position `j` in bank `bank` of loop `l` (R263). -/
def State.bankParam (s : State) (l bank j k : Nat) : Nat :=
  s.rd { key := (0x4400 + 2 * l + bank) * 256 + 1 + 10 * j + k, ty := .f32, d := .num 0, arch := true }

/-- A characteriser table is valid (R264): 2 to 16 points with rising X. -/
def State.tableValid (s : State) (t : Nat) : Bool :=
  let n := s.rd (E.Tally.POINTS t)
  2 ≤ n && n ≤ 16 && (List.range (n - 1)).all (fun i => fmt32.lt (s.rd (E.Tally.X t i)) (s.rd (E.Tally.X t (i + 1))))

/-- Characteriser table `t` (R264). -/
def State.charTable (s : State) (t : Nat) : CharTable :=
  let n := s.rd (E.Tally.POINTS t)
  { xs := (List.range n).map (fun i => s.rd (E.Tally.X t i)), ys := (List.range n).map (fun i => s.rd (E.Tally.Y t i))
    valid := s.tableValid t }

/-! ## Encodings (R224, Tables TLY-3 and TLY-4) -/

/-- The binary32 of an encoded value. -/
def decodeEnc (e : Enc) (n : Nat) : Nat :=
  match e with
  | .f32 => n
  | .u8 => fmt32.ofNat n
  | .u16 => fmt32.ofNat n
  | .i16 => fmt32.ofInt (intOf 16 n)
  | .i32 => fmt32.ofInt (intOf 32 n)

/-- A binary32 in an encoding, rounded to nearest, ties to even, and whether it saturated (R224). -/
def encodeEnc (e : Enc) (v : Nat) : Nat × Bool :=
  let r := fmt32.nearestScaled v 0
  let fit := fun (w : Nat) (lo hi : Int) => (natOf w (clampInt lo hi r), decide (r < lo) || decide (hi < r))
  match e with
  | .f32 => (v, false)
  | .u8 => fit 8 0 255
  | .u16 => fit 16 0 65535
  | .i16 => fit 16 (-32768) 32767
  | .i32 => fit 32 (-2147483648) 2147483647

/-- The binary32 1.0 or 0.0 of a truth value. -/
def f32Bool (b : Bool) : Nat := if b then 0x3F800000 else 0

/-! ## Inputs (R220, R222) -/

/-- The values that loop `me` reads of loop `l` in frame `f` (R220). -/
def State.loopRead (s : State) (me : LoopDef) (f l : Nat) : LoopVals :=
  let x := s.loopSt l
  match x.attr with
  | some d => if d.pipeline == me.pipeline && decide (d.order < me.order) && f % d.period == d.phase then x.cur else x.com
  | none => x.com

/-- One of the values that a loop gives. -/
def LoopVals.pick (v : LoopVals) : LoopOut → Nat
  | .out0 => v.out0
  | .out1 => v.out1
  | .pv => v.pv
  | .sp => v.sp

/-- The value that a source presents and whether it is bad (Table TLY-3). -/
def State.inputOf (s : State) (me : LoopDef) (f : Nat) (src : InSrc) : Nat × Bool :=
  let r : Nat × Bool := match src with
    | .ai i => (s.rd (E.Ai.AI_CURRENT i), s.linkRd (E.Ai.AI_DIAG i) % 16 != 0)
    | .di i => (f32Bool (s.on (E.Di.DI_STATE i)), false)
    | .ecx n off enc =>
      let w := encWidth enc
      let b := (s.station n).live
      if s.rd (E.Station.STATION_STATE n) = 3 && off + w ≤ s.rd (E.Station.IN_LENGTH n) then
        (decodeEnc enc (beNat (fitTo 0 w (slice b off w))), false)
      else (0, true)
    | .task w => (s.tally.words.fetch 0 w, false)
    | .loop l o => ((s.loopRead me f l).pick o, false)
    | .axis a => (fmt32.ofInt (intOf 64 (s.rd (E.Ax.POSITION a))), !s.on (E.Ax.POS_VALID a))
    | .const v => (v, false)
  (r.1, r.2 || fmt32.special r.1)

/-- A source on the field side (R223). -/
def fieldSide : InSrc → Bool
  | .ai _ => true
  | .di _ => true
  | .axis _ => true
  | _ => false

/-! ## PV supervision (R248 to R252) -/

/-- The extremes of a range with one more value. -/
def widen (r : Nat × Nat) (v : Nat) : Nat × Nat := (fmt32.min r.1 v, fmt32.max r.2 v)

/-- The range is greater than `band`, exactly. -/
def wider (r : Nat × Nat) (band : Nat) : Bool := dyLt (dyOf32 band) (dySub (dyOf32 r.2) (dyOf32 r.1))

/-- Settings of the supervision, times in ms. -/
structure PvSet where
  loss : Nat
  ret : Nat
  freeze : Nat
  band : Nat
  outBand : Nat
deriving DecidableEq, Repr

/-- Loss and return of a PV input at a sample released at `b` (R248, R252). -/
def watchLoss (w : PvWatch) (b : Int) (bad : Bool) (c : PvSet) : PvWatch :=
  if bad then
    let t := w.badSince.getD b
    { w with badSince := some t, goodSince := none, lost := w.lost || decide (t + 1000000 * c.loss ≤ b) }
  else
    let t := w.goodSince.getD b
    { w with goodSince := some t, badSince := none, lost := w.lost && !decide (t + 1000000 * c.ret ≤ b) }

/-- Freeze detection at a sample (R249, R252); `auto` in AUTO and CASCADE. -/
def watchFreeze (w : PvWatch) (b : Int) (v : Nat) (bad auto : Bool) (c : PvSet) : PvWatch :=
  if bad then { w with win := none }
  else
    let fresh : FreezeWin := { since := b, lo := v, hi := v }
    let win := match w.win with
      | none => fresh
      | some k =>
        let r := widen (k.lo, k.hi) v
        if wider r c.band then fresh else { k with lo := r.1, hi := r.2 }
    let w := { w with win := some win }
    if w.frozen then
      let r := widen (w.since.getD (v, v)) v
      if wider r c.band then { w with frozen := false, since := none } else { w with since := some r }
    else if c.freeze != 0 && auto && decide (win.since + 1000000 * c.freeze ≤ b) && win.out.any (fun r => wider r c.outBand) then
      { w with frozen := true, since := some (v, v) }
    else w

/-- The supervision of one sample of a PV input. -/
def watchPv (w : PvWatch) (b : Int) (v : Nat) (bad auto : Bool) (c : PvSet) : PvWatch :=
  watchFreeze (watchLoss w b bad c) b v bad auto c

/-- The MAN_POINT value of a sample enters the window (R249). -/
def watchOut (w : PvWatch) (man : Nat) : PvWatch :=
  { w with win := w.win.map (fun k => { k with out := some (match k.out with
      | none => (man, man)
      | some r => widen r man) }) }

/-- PV_LOST or PV_FROZEN of an input. -/
def PvWatch.flagged (w : PvWatch) : Bool := w.lost || w.frozen

/-- What supervision decides in a sample: the action in force, GO_MANUAL, a switch or an end that presets, the watch of IN1. -/
structure PvPlan where
  action : Option PvAct := none
  goManual : Bool := false
  preset : Bool := false
  pv1 : PvWatch := {}
deriving DecidableEq, Repr

/-- The PV action of a sample (R250 to R252). `w1` is the watch of IN1 in this sample, were ALT_PV in force. -/
def planPv (auto : Bool) (w0 : PvWatch) (old : Option PvAct) (action fallback : Nat) (w1 : PvWatch) : PvPlan :=
  if !auto then {}
  else match old with
  | none =>
    if !w0.flagged then {}
    else if action = 1 then { goManual := true }
    else if action = 3 then
      if !w1.flagged then { action := some { action := 3 }, preset := true, pv1 := w1 }
      else if fallback = 1 then { goManual := true }
      else { action := some { action := 3, fallback := some fallback }, preset := true, pv1 := w1 }
    else { action := some { action := action } }
  | some a =>
    if !w0.flagged then { preset := true }
    else if a.action != 3 then { action := some a }
    else match a.fallback with
    | none =>
      if !w1.flagged then { action := some a, pv1 := w1 }
      else if fallback = 1 then { goManual := true }
      else { action := some { a with fallback := some fallback }, pv1 := w1 }
    | some _ =>
      if w1.flagged then { action := some a, pv1 := w1 }
      else { action := some { a with fallback := none }, preset := true, pv1 := w1 }

/-- HOLD_OUTPUT (0) or SAFE_OUTPUT (2) in force, directly or as the fallback of ALT_PV. -/
def PvPlan.output (p : PvPlan) : Option Nat :=
  match p.action with
  | none => none
  | some a => if a.action = 3 then a.fallback else some a.action

/-! ## SOLVER_REF (R253 to R257) -/

/-- The position of a resident board as the outcomes before this frame left it (R33). -/
def State.positionSeen (s : State) (b : Nat) : Position := (s.outcomeSeen b).pos.getD {}

/-- A read of a SOLVER_REF stage: none when good, else the DETAIL code of Table TLY-14. -/
def State.refFault (s : State) (p : Nat → Nat) : Option Nat :=
  let n := (fmt32.nearestScaled (p 0) 0).toNat
  let pos := s.positionSeen n
  let e := (fmt32.nearestScaled (p 1) 0).toNat
  if (s.frame.boards.fetch {} n).st != 2 then some 0x13
  else if pos.n + pos.m ≤ e then some 0xFD
  else if pos.status != 0 || !pos.valid then some pos.status
  else if !fmt32.isZero (p 4) &&
      dyLt (dyMul (dyOf32 (p 4)) { n := 1000000000, e := 0 }) { n := (s.now : Int) - pos.solvedTb3, e := 0 } then some 0xFE
  else none

/-- The element that a SOLVER_REF stage reads. -/
def State.refValue (s : State) (p : Nat → Nat) : Nat :=
  positionElem (s.positionSeen (fmt32.nearestScaled (p 0) 0).toNat) (fmt32.nearestScaled (p 1) 0).toNat

/-- SOLVER_REF positions of a program. -/
def refStages (d : LoopDef) : List Nat :=
  (List.range d.stages.length).filter (fun j => (d.stages[j]?).any (fun g => g.code == 0x0D))

/-! ## Evaluation (R225, R228, R240) -/

/-- What the evaluation of a sample needs. -/
structure SampleEnv where
  d : LoopDef
  p : Nat → Nat → Nat
  tb : Nat → CharTable
  t : Nat
  first : Bool
  pv : Nat
  sp : Nat
  ins : List Nat
  prev : List Nat
  /-- A preset is made: the integrator of the preset stage. -/
  iSet : Option Dy := none
  holdUp : Bool := false
  holdDown : Bool := false
  freeze : Bool := false
  /-- The value that replaces the output of MAN_POINT. -/
  subst : Option Nat := none

/-- What the evaluation of a sample has given so far. -/
structure Ev where
  outs : List Nat := []
  states : SMap Nat := {}
  ovf : Option Nat := none
  intHold : Bool := false
  limHi : Bool := false
  limLo : Bool := false
  bad : Bool := false
  tracking : Bool := false
  y2 : Nat := 0
deriving DecidableEq, Repr

/-- The states of position `j`. -/
def stageStatesOf (m : SMap Nat) (code j : Nat) : List Nat := (List.range (stageStates code)).map (fun i => m.fetch 0 (4 * j + i))

/-- The states of position `j` replaced. -/
def putStates (m : SMap Nat) (j : Nat) (st : List Nat) : SMap Nat :=
  (List.range st.length).foldl (fun m i => m.store 0 (4 * j + i) (st.getD i 0)) m

/-- The value of an operand; `from_` names the positions that read their output of the previous sample (R240). -/
def SampleEnv.value (v : SampleEnv) (outs : List Nat) (from_ : Option Nat) : Operand → Nat
  | .pv => v.pv
  | .sp => v.sp
  | .inp k => v.ins.getD k 0
  | .zero => 0
  | .pos j => if from_.any (fun k => k ≤ j) then v.prev.getD j 0 else outs.getD j 0

/-- A stage position of the chain (R226). -/
def inChain (d : LoopDef) (j : Nat) : Bool := d.presetStage.any (fun k => k ≤ j) && decide (j ≤ d.manPoint)

/-- Operands a, b and c of position `j`; in a sample with a preset, b and c of a chain stage that name a position from the preset
stage onward read the previous sample's output (R240). -/
def SampleEnv.operands (v : SampleEnv) (outs : List Nat) (j : Nat) (g : StageDef) (preset : Bool) : List (Option Nat) :=
  let from_ := if preset && inChain v.d j then v.d.presetStage else none
  [g.a.map (v.value outs none), g.b.map (v.value outs from_), g.c.map (v.value outs from_)]

/-- Position `j` evaluated after the positions before it. -/
def SampleEnv.evalAt (v : SampleEnv) (ev : Ev) (j : Nat) : Ev :=
  match v.d.stages[j]? with
  | none => ev
  | some g =>
    let ops := v.operands ev.outs j g v.iSet.isSome
    let st := stageStatesOf ev.states g.code j
    let chosen := v.d.presetStage == some j
    let o :=
      if g.code = 0x01 || g.code = 0x02 then
        evalPid g.code (v.p j) v.t v.first ((ops.getD 0 none).getD 0) ((ops.getD 1 none).getD 0) st
          (if chosen then v.iSet else none)
          (v.holdUp && (chosen || v.d.presetStage.isNone)) (v.holdDown && (chosen || v.d.presetStage.isNone)) (v.freeze && chosen)
      else
        evalStage g.code ops (v.p j) v.t st (v.prev.getD j 0) (v.tb (fmt32.nearestScaled (v.p j 0) 0).toNat)
    let y := if j = v.d.manPoint then v.subst.getD o.y else o.y
    { outs := ev.outs ++ [y]
      states := if o.bad then ev.states else putStates ev.states j o.states
      ovf := if o.ovf && ev.ovf.isNone then some j else ev.ovf
      intHold := ev.intHold || o.intHold
      limHi := ev.limHi || (chosen && o.limHi)
      limLo := ev.limLo || (chosen && o.limLo)
      bad := ev.bad || o.bad
      tracking := ev.tracking || (g.code == 0x0C && dyLe { n := 1, e := -1 } (dyOf32 ((ops.getD 2 none).getD 0)))
      y2 := if g.code = 0x09 then o.y2 else ev.y2 }

/-- Positions `lo` to `hi - 1`. -/
def SampleEnv.evalRange (v : SampleEnv) (ev : Ev) (lo hi : Nat) : Ev := ((List.range hi).drop lo).foldl v.evalAt ev

/-- The last TRACK stage of the chain that is enabled, with its track value (Table TLY-8). -/
def SampleEnv.trackTarget (v : SampleEnv) (ev : Ev) : Option (Nat × Nat) :=
  ((List.range v.d.stages.length).reverse).findSome? (fun j =>
    match v.d.stages[j]? with
    | some g =>
      if g.code = 0x0C && inChain v.d j then
        let ops := v.operands ev.outs j g true
        if dyLe { n := 1, e := -1 } (dyOf32 ((ops.getD 2 none).getD 0)) then some (j, (ops.getD 1 none).getD 0) else none
      else none
    | none => none)

/-- The target at position `m` carried back to the preset stage (R240), with the states that the chain takes and the lowest position
where a value saturated. -/
def SampleEnv.backCarry (v : SampleEnv) (ev : Ev) (ps m t : Nat) : Option (Nat × SMap Nat × Option Nat) :=
  (((List.range (m + 1)).drop (ps + 1)).reverse).foldl (fun acc j =>
    match acc, v.d.stages[j]? with
    | some (t, states, ovf), some g =>
      let ops := v.operands ev.outs j g true
      (backStage g.code (v.p j) (v.tb (fmt32.nearestScaled (v.p j 0) 0).toNat) t ((ops.getD 1 none).getD 0) ((ops.getD 2 none).getD 0)
        (stageStatesOf states g.code j)).map (fun r => (r.1, putStates states j r.2.1, if r.2.2 then some j else ovf))
    | _, _ => none) (some (t, ev.states, none))

/-- The lower of two positions that overflowed. -/
def lowest : Option Nat → Option Nat → Option Nat
  | some a, some b => some (min a b)
  | some a, none => some a
  | none, b => b

/-- A sample with the target `t` at position `m` (R240): the evaluation and whether the integrator was clamped; none where the chain
cannot carry the target back. -/
def SampleEnv.presetAt (v : SampleEnv) (ev : Ev) (ps m t : Nat) : Option (Ev × Bool) :=
  match v.backCarry ev ps m t, v.d.stages[ps]? with
  | some (tS, states, ovf), some g =>
    let ops := v.operands ev.outs ps g true
    let (i, cl, sat) := presetI g.code (v.p ps) v.t v.first ((ops.getD 0 none).getD 0) ((ops.getD 1 none).getD 0)
      (stageStatesOf states g.code ps) tS
    let r := ({ v with iSet := some i }).evalRange { ev with states := states } ps v.d.stages.length
    some ({ r with ovf := lowest r.ovf (if sat then some ps else ovf) }, cl)
  | _, _ => none

/-- The integrator of the preset stage clamped to its limits at a swap without a preset (R246). -/
def SampleEnv.clampI (v : SampleEnv) (states : SMap Nat) : SMap Nat × Bool :=
  match v.d.presetStage with
  | none => (states, false)
  | some ps =>
    let i := states.fetch 0 (4 * ps)
    let lo := v.p ps 6
    let hi := v.p ps 7
    if fmt32.lt i lo then (states.store 0 (4 * ps) lo, true)
    else if fmt32.lt hi i then (states.store 0 (4 * ps) hi, true)
    else (states, false)

/-! ## Output destinations (R224, R244) -/

/-- The conversion of a value to a destination saturates (OUT_SAT). -/
def destSat (d : OutDest) (v : Nat) : Bool :=
  match d with
  | .can _ _ _ enc _ => (encodeEnc enc v).2
  | .ecx _ _ enc => (encodeEnc enc v).2
  | _ => false

/-- The bytes of a value at a destination. -/
def destBytes (d : OutDest) (v : Nat) : List Byte :=
  match d with
  | .can _ _ _ enc little =>
    if little then leBytes (encWidth enc) (encodeEnc enc v).1 else beBytes (encWidth enc) (encodeEnc enc v).1
  | .ecx _ _ enc => beBytes (encWidth enc) (encodeEnc enc v).1
  | _ => []

/-- The bytes that stand at a destination, forces over the committed image. -/
def State.destNow (s : State) (fs : List (Nat × Nat)) (d : OutDest) : List Byte :=
  (destPoints d).map (fun p =>
    match fs.find? (fun f => f.1 == p) with
    | some f => BitVec.ofNat 8 f.2
    | none =>
      let n := pointNumber p
      if pointClass p = 7 then (s.obj (n / 2048) (n / 64 % 32)).image.getD (n % 64) 0
      else BitVec.ofNat 8 ((s.station (n / 1024)).image.fetch 0 (n % 1024)))

/-- A destination is forced. -/
def destForced (fs : List (Nat × Nat)) (d : OutDest) : Bool := (destPoints d).any (fun p => fs.any (fun f => f.1 == p))

/-- The forced value of a destination as a binary32 (R244). -/
def State.forcedValue (s : State) (fs : List (Nat × Nat)) (d : OutDest) : Nat :=
  let one := fun p => ((fs.find? (fun f => f.1 == p)).map (·.2)).getD 0
  match d with
  | .none => 0
  | .ao i => one (pointId 4 i)
  | .dig i => f32Bool (one (pointId 2 i) != 0)
  | .can _ _ _ enc little => decodeEnc enc (if little then leNat (s.destNow fs d) else beNat (s.destNow fs d))
  | .ecx _ _ enc => decodeEnc enc (beNat (s.destNow fs d))

/-- FORCE_WRITTEN follows where the point is forced (R110). -/
def State.noteIf (s : State) (fs : List (Nat × Nat)) (p v : Nat) : State :=
  if fs.any (fun f => f.1 == p) then s.noteWritten p v else s

/-- A committed value goes to its destination (R224). -/
def State.writeDest (s : State) (fs : List (Nat × Nat)) (d : OutDest) (v : Nat) : State :=
  let bs := destBytes d v
  let note := fun (s : State) => (List.zip (destPoints d) bs).foldl (fun s e => s.noteIf fs e.1 e.2.toNat) s
  let out := fun (s : State) (p n : Nat) => ({ s with rt := { s.rt with outs := s.rt.outs.put p n } }).noteIf fs p n
  match d with
  | .none => s
  | .ao i => out s (pointId 4 i) v
  | .dig i => out s (pointId 2 i) (ofBool (dyLe { n := 1, e := -1 } (dyOf32 v)))
  | .can c o off _ _ => note (s.setImage c o (overlay (s.obj c o).image off bs))
  | .ecx n off _ =>
    if s.rd (E.Station.STATION_STATE n) = 3 then
      note ((List.range bs.length).foldl (fun s k => s.writeStationByte n (off + k) (bs.getD k 0).toNat) s)
    else s

/-- A loop's staged outputs commit at a frame boundary (R217, R219); to no destination in SAFE_STATE (R140). -/
def State.commitLoop (s : State) (fs : List (Nat × Nat)) (l : Nat) : State :=
  let x := s.loopSt l
  let x' := { x with staged := none, com := { x.cur with mode := x.lastMode.getD (s.rd (E.Loop.LOOP_MODE l)), active := s.rd (E.Loop.MODE_ACTIVE l) }, events := [] }
  let s := x.events.foldl (fun s e => s.place 27 (.bytes e)) s
  match x.staged, x.attr with
  | some (v0, v1), some d =>
    let s := ((s.setLoop l x').wr (E.Loop.OUT0 l) v0).wr (E.Loop.OUT1 l) v1
    if s.inSafe then s else (s.writeDest fs d.out0 v0).writeDest fs d.out1 v1
  | _, _ => s.setLoop l x'

/-! ## A sample (R261) -/

/-- The loop changes a RETAINED entry of its own (R585). -/
def State.selfWrite (s : State) (l : Nat) (e : Ent) (v : Nat) : State :=
  if s.rd e = v then s
  else
    let x := s.loopSt l
    let since : Int := ((x.dirty.find? (fun d => d.1 == e.key)).map (·.2)).getD s.now
    (s.wr e v).setLoop l { x with dirty := x.dirty.filter (fun d => d.1 != e.key) ++ [(e.key, since)] }

/-- A binary32 clamped. -/
def clamp32 (lo hi v : Nat) : Nat := if fmt32.lt v lo then lo else if fmt32.lt hi v then hi else v

/-- The preset target of a sample by the first case that holds (R241, R261): position and value. `track` is that of TRACK. -/
def chooseTarget (d : LoopDef) (forced : Option Nat) (mode : Nat) (outMan lastMan safeVal : Nat) (hold : Option Nat)
    (open_ : Option Nat) (track : Option (Nat × Nat)) (transfer : Option Nat) : Option (Nat × Nat) :=
  match forced with
  | some v => some (d.manPoint, v)
  | none =>
    if mode = 0 then some (d.manPoint, outMan)
    else match hold, open_, track, transfer with
    | some 0, _, _, _ => some (d.manPoint, lastMan)
    | some _, _, _, _ => some (d.manPoint, safeVal)
    | none, some v, _, _ => some (d.manPoint, v)
    | none, none, some t, _ => some t
    | none, none, none, some v => some (d.manPoint, v)
    | none, none, none, none => none

/-- The timers of a watch stand still for `t` ns. -/
def PvWatch.pause (w : PvWatch) (t : Int) : PvWatch :=
  { w with badSince := w.badSince.map (· + t), goodSince := w.goodSince.map (· + t)
           win := w.win.map (fun k => { k with since := k.since + t }) }

/-- A LATE sample (R237, R238); `cause` 0 the field frame, 1 overload. No supervision timer advances over its period. -/
def State.lateSample (s : State) (l cause : Nat) : State :=
  let st := s.rd (E.Loop.LOOP_STATUS l)
  let x := s.loopSt l
  let t : Int := 50000 * ((x.attr.map (·.period)).getD 0 : Nat)
  let s := s.setLoop l { x with pv0 := x.pv0.pause t, pv1 := x.pv1.pause t }
  let s := if bitOf st 0 then s else s.loopEvt l 0x01 cause
  (((s.wr (E.Loop.LOOP_STATUS l) (setBit st 0 true)).inc (E.Loop.LATE_COUNT l)).inc (E.Loop.LATE_CONSEC l)).inc E.Tally.LATE_TOTAL

/-- Bits of LOOP_STATUS that are set (Table TLY-12). -/
def statusBits (bs : List (Nat × Bool)) : Nat := sumNat (bs.map (fun b => if b.2 then 2 ^ b.1 else 0))

/-- What one evaluated sample hands to its closing part: the old and new LOOP_STATUS, the fault and swap findings and the values it shows. -/
structure SampleEnd where
  old : Nat
  status : Nat
  pv0 : PvWatch
  fault : Option Nat
  onset : Bool
  cleared : Bool
  swaps : List Nat
  swapClamp : Bool
  bad : Bool
  ev : Ev
  sp : Nat
  pv : Nat
  man : Nat
  bank : Nat
  active : Nat

/-- The events, counters and registers that close an evaluated sample (R261, R265, Table TLY-14). -/
def State.closeSample (s : State) (l : Nat) (r : SampleEnd) : State :=
  let s := if bitOf r.old 0 then s.loopEvt l 0x02 (min 255 (s.rd (E.Loop.LATE_CONSEC l))) else s
  let s := s.wr (E.Loop.LATE_CONSEC l) 0
  let edge := fun (s : State) (bit event : Nat) => if bitOf r.status bit == bitOf r.old bit then s else s.loopEvt l event (ofBool (bitOf r.status bit))
  let s := edge (edge s 1 0x03) 2 0x04
  let s := if r.pv0.lost && !bitOf r.old 1 then s.inc (E.Loop.PV_LOST_COUNT l) else s
  let s := if r.pv0.frozen && !bitOf r.old 2 then s.inc (E.Loop.PV_FROZEN_COUNT l) else s
  let s := if r.onset then (s.loopEvt l 0x05 (r.fault.getD 0)).inc (E.Loop.SOLVER_FAULT_COUNT l)
           else if r.cleared then s.loopEvt l 0x05 0 else s
  let s := (List.range r.swaps.length).foldl (fun s i =>
    (s.loopEvt l 0x06 (r.swaps.getD i 0 + (if r.swapClamp && i + 1 = r.swaps.length then 128 else 0))).inc (E.Loop.SWAPS l)) s
  let s := if r.swapClamp then s.inc (E.Loop.SWAP_CLAMPS l) else s
  let s := if r.active != s.rd (E.Loop.MODE_ACTIVE l) then s.loopEvt l 0x07 r.active else s
  let s := edge (edge s 9 0x08) 7 0x09
  let s := match r.ev.ovf with
    | some j => (if bitOf r.old 5 then s else s.loopEvt l 0x0A j).inc (E.Loop.STAGE_OVF_COUNT l)
    | none => s
  let s := if r.bad then s.inc (E.Loop.BAD_INPUT_COUNT l) else s
  let s := (((((((s.wr (E.Loop.LOOP_STATUS l) r.status).wr (E.Loop.MODE_ACTIVE l) r.active).wr (E.Loop.SP_ACTIVE l) r.sp).wr (E.Loop.PV l) r.pv).wr
    (E.Loop.MAN_POINT_VALUE l) r.man).wr (E.Loop.BANK_ACTIVE l) r.bank).inc (E.Loop.SAMPLES l)).wrT (E.Loop.LAST_SAMPLE_TB3 l) s.now
  let s := s.wrB (E.Loop.STAGE_OUT l) (((fitTo 0 24 r.ev.outs).map (leBytes 4)).flatten)
  s

/-- A computed sample of loop `l` released at this boundary in frame `f` (R261). -/
def State.computeSample (s : State) (fs : List (Nat × Nat)) (f l : Nat) : State :=
  let x := s.loopSt l
  match x.attr with
  | none => s
  | some d =>
    let b : Int := s.now
    let old := s.rd (E.Loop.LOOP_STATUS l)
    let first := x.lastMode.isNone
    -- inputs
    let raw := (List.range 6).map (fun k => ((d.inputs.getD k none).map (s.inputOf d f)).getD (0, false))
    let ins := (List.range 6).map (fun k => let r := raw.getD k (0, false); if r.2 then x.good.fetch 0 k else r.1)
    let good := (List.range 6).foldl (fun m k => let r := raw.getD k (0, false); if r.2 then m else m.store 0 k r.1) x.good
    let badIn := raw.any (·.2)
    -- bank select and parameter writes due
    let bank0 := s.rd (E.Loop.BANK_ACTIVE l)
    let selected := x.bankSel.any (· != bank0)
    let bank1 := if selected then x.bankSel.getD bank0 else bank0
    -- SOLVER_REF reads, onset, return
    let refs := (refStages d).map (fun j => (j, s.refFault (s.bankParam l bank1 j)))
    let states := refs.foldl (fun m r => if r.2.isNone then m.store 0 (4 * r.1) (s.refValue (s.bankParam l bank1 r.1)) else m) x.states
    let fault := refs.findSome? (·.2)
    let onset := fault.isSome && !bitOf old 3
    let cleared := fault.isNone && bitOf old 3
    let pendingReturn := x.faultSwap && !selected
    let byFault := onset && bank1 == 0 && s.on (E.Loop.FAULT_SWAP l)
    let count := if fault.isNone then (if cleared then 1 else min 255 (x.returnCount + 1)) else 0
    let returns := pendingReturn && !byFault && fault.isNone && bank1 == 1 && s.rd (E.Loop.RETURN_SAMPLES l) != 0
      && s.rd (E.Loop.RETURN_SAMPLES l) ≤ count
    let bank := if byFault then 1 else if returns then 0 else bank1
    let swaps := (if selected then [bank1] else []) ++ (if byFault then [3] else []) ++ (if returns then [4] else [])
    let swapped := !swaps.isEmpty || x.paramWrite
    -- PV supervision
    let mode0 := s.rd (E.Loop.LOOP_MODE l)
    let c : PvSet := { loss := s.rd (E.Loop.PV_LOSS_TIME l), ret := s.rd (E.Loop.PV_RETURN_TIME l), freeze := s.rd (E.Loop.FREEZE_TIME l)
                       band := s.rd (E.Loop.FREEZE_BAND l), outBand := s.rd (E.Loop.FREEZE_OUT_BAND l) }
    let r0 := raw.getD 0 (0, false)
    let r1 := raw.getD 1 (0, false)
    let pv0 := watchPv x.pv0 b r0.1 r0.2 (mode0 != 0) c
    let was1 := if (x.action.map (·.action)) == some 3 then x.pv1 else {}
    let plan := planPv (mode0 != 0) pv0 x.action (s.rd (E.Loop.PV_ACTION l)) (s.rd (E.Loop.ALT_FALLBACK l))
      (watchPv was1 b r1.1 r1.2 (mode0 != 0) c)
    let alt := (plan.action.map (·.action)) == some 3
    let mode := if plan.goManual then 0 else mode0
    let s := if plan.goManual then s.selfWrite l (E.Loop.LOOP_MODE l) 0 else s
    -- the MAN_POINT value that transfers keep
    let start := x.startMan.getD (if mode = 0 then s.rd (E.Loop.OUT_MAN l) else s.rd (E.Loop.SAFE_VALUE l))
    let lastMan := if first then start else x.lastMan
    let toManual := mode == 0 && (plan.goManual || x.lastMode.any (· != 0))
    let s := if toManual then s.selfWrite l (E.Loop.OUT_MAN l) lastMan else s
    let outMan := s.rd (E.Loop.OUT_MAN l)
    -- setpoint
    let pv := if alt then ins.getD 1 0 else ins.getD 0 0
    let lo := s.rd (E.Loop.SP_LO l)
    let hi := s.rd (E.Loop.SP_HI l)
    let track := s.on (E.Loop.SP_TRACK l)
    let s := if track && mode == 0 then s.selfWrite l (E.Loop.SP_LOCAL l) (clamp32 lo hi pv)
             else if track && mode == 1 && x.lastMode == some 2 then s.selfWrite l (E.Loop.SP_LOCAL l) x.cur.sp else s
    let spLocal := s.rd (E.Loop.SP_LOCAL l)
    let spGood := if x.lastMode == some 2 then x.spGood else none
    let src := if mode = 2 then (d.spSource.map (s.inputOf d f)) else none
    let spRaw := match src with
      | none => spLocal
      | some (v, bad) => if bad then spGood.getD spLocal else v
    let spGood := match src with
      | some (v, false) => some v
      | _ => spGood
    let badSp := src.any (·.2)
    let sp := clamp32 lo hi spRaw
    let clamped := if src.isNone then 0 else if fmt32.lt hi spRaw then 1 else if fmt32.lt spRaw lo then 2 else 0
    -- cascade and forces
    let inner := d.cascadeInner.map (s.loopRead d f)
    let isOpen := inner.any (fun v => v.mode != 2 || v.active == 4 || v.active == 5)
    let forced := destForced fs d.out0 || destForced fs d.out1
    let trackForce := forced && s.rd (E.Loop.FORCE_RESPONSE l) == 0 && destForced fs d.out0 && d.manPoint + 1 == d.stages.length
    -- evaluation
    let env : SampleEnv :=
      { d := d, p := fun j k => s.bankParam l bank j k, tb := s.charTable, t := samplePeriod d.period, first := first, pv := pv, sp := sp
        ins := ins, prev := x.outs
        holdUp := !isOpen && inner.any (fun v => v.clamp == 1), holdDown := !isOpen && inner.any (fun v => v.clamp == 2)
        freeze := forced && s.rd (E.Loop.FORCE_RESPONSE l) == 1
        subst := if mode = 0 then some outMan else match plan.output with
          | some 0 => some lastMan
          | some _ => some (s.rd (E.Loop.SAFE_VALUE l))
          | none => none }
    let ps := d.presetStage.getD 0
    let ev0 : Ev := { states := states }
    let head := env.evalRange ev0 0 ps
    let moved := x.lastMode == some 0 || (mode == 2 && x.lastMode == some 1) || plan.preset || (swapped && s.on (E.Loop.PRESET_ON_SWAP l))
    let target := chooseTarget d (if trackForce then some (s.forcedValue fs d.out0) else none) mode outMan lastMan
      (s.rd (E.Loop.SAFE_VALUE l)) plan.output (if isOpen then inner.map (·.sp) else none) (env.trackTarget head)
      (if first then some start else if moved then some lastMan else none)
    let n := d.stages.length
    let kept := if swapped then env.clampI head.states else (head.states, false)
    let free := fun (v : SampleEnv) => (v.evalRange { head with states := kept.1 } ps n, false, kept.2)
    let done : Ev × Bool × Bool := match target, d.presetStage with
      | some (m, t), some ps =>
        (match env.presetAt head ps m t with
          | some (ev, cl) => (ev, true, cl)
          | none => free { env with freeze := true })
      | _, _ => free env
    let ev := done.1
    let preset := done.2.1
    let clampedI := done.2.2
    let out0 := ev.outs.getLastD 0
    let out1 := ev.y2
    let man := ev.outs.getD d.manPoint 0
    let sat := destSat d.out0 out0 || destSat d.out1 out1
    let swapClamp := swapped && d.presetStage.isSome && (clampedI || ev.limHi || ev.limLo)
    let active := if mode = 0 then 0 else match plan.output with
      | some 0 => 4
      | some _ => 5
      | none => if isOpen then 3 else mode
    let bad := badIn || badSp || ev.bad
    let status := statusBits [(1, pv0.lost), (2, pv0.frozen), (3, fault.isSome), (4, if swapped then swapClamp else bitOf old 4),
      (5, ev.ovf.isSome), (6, bad), (7, forced), (8, ev.tracking), (9, isOpen), (10, ev.limHi), (11, ev.limLo),
      (12, ev.intHold || env.holdUp || env.holdDown), (13, alt), (14, sat), (15, refs.any (fun r => r.2 == some 0xFE)), (16, preset)]
    let s := s.closeSample l { old := old, status := status, pv0 := pv0, fault := fault, onset := onset, cleared := cleared, swaps := swaps
                               swapClamp := swapClamp, bad := bad, ev := ev, sp := sp, pv := pv, man := man, bank := bank, active := active }
    s.setLoop l { (s.loopSt l) with
      states := ev.states, outs := ev.outs, lastMan := man, good := good, spGood := spGood, lastMode := some mode, startMan := none
      bankSel := none, paramWrite := false, faultSwap := byFault || (x.faultSwap && !selected && !returns), returnCount := count
      staged := some (out0, out1), pv0 := watchOut pv0 man, pv1 := watchOut plan.pv1 man, action := plan.action
      cur := { out0 := out0, out1 := out1, pv := pv, sp := sp, mode := mode, active := active, clamp := clamped } }

end Sys2Proof.Machine
end

