-- ==== Sys2Proof/Machine/Ledger.lean ====
section
/-!
DEFINITION. Machine/Ledger.lean: the ledger: records, CLOCK, SEAL and LOST, the Opening Book and the Endgame Ring, the writer, the
flush, reading and clearing (R503 to R518).
-/
namespace Sys2Proof.Machine

/-! ## Records (R503 to R506) -/

/-- LENGTH of a record. -/
def recLength (p : List Byte) : Nat := 16 + p.length
/-- Bytes that a record occupies (R503). -/
def recSize (p : List Byte) : Nat := (recLength p + 7) / 8 * 8
/-- Units of a record of LENGTH `n` (R510). -/
def units (n : Nat) : Nat := (n + 255) / 256

/-- A record as it is read (Table LDG-1), padded with zeros. -/
def recBytes (r : Record) : List Byte :=
  fitTo 0 (recSize r.payload) (leBytes 2 (recLength r.payload) ++ leBytes 1 r.source ++ leBytes 1 r.event ++ leBytes 4 r.seq
    ++ leBytes 8 r.tb3 ++ r.payload)

/-- Bytes of a segment (R511). -/
def segmentSize : Nat := 1048576
/-- Bytes that a SEAL record occupies. -/
def sealSize : Nat := 32
/-- The segments that the book uses of its 257 (R512). -/
def bookSegments (n : Nat) : Nat := ceilDiv n 1023

/-- The ledger replaced. -/
def State.setLedger (s : State) (l : LedgerSt) : State := { s with ledger := l }

/-- The book is FILLING. -/
def State.inBook (s : State) : Bool := s.ledger.bookState == 1

/-- Units in the buffer (R510). -/
def State.bufferUnits (s : State) : Nat := sumNat (s.ledger.buffer.map (fun b => units b.2))

/-- The ring segments in the order of their numbers. -/
def State.ringSegments (s : State) : List (Nat × Segment) := s.ledger.journal.cells.filter (fun c => s.ledger.joined.getD 257 ≤ c.1)

/-- The oldest ring record readable at Viewer level (RING_FIRST_SEQ). -/
def State.ringFirst (s : State) : Nat :=
  let seqs := (s.ringSegments.flatMap (fun c => c.2.recs)).filterMap (fun r => if s.ledger.hidden ≤ r.seq then some r.seq else none)
  seqs.foldl (fun a b => if a = 0 || b < a then b else a) 0

/-- The ledger's entries follow its state (Table LDG-6). -/
def State.showLedger (s : State) : State :=
  let l := s.ledger
  let s := ((s.wr E.Ldg.BOOK_STATE l.bookState).wr E.Ldg.BOOK_FIRST_SEQ l.bookFirst).wr E.Ldg.BOOK_COUNT l.bookCount
  let s := ((s.wr E.Ldg.RING_FIRST_SEQ s.ringFirst).wr E.Ldg.LAST_SEQ (l.next - 1)).wr E.Ldg.CLEAR_SEQ l.hidden
  let retired := (s.ringSegments.filter (fun c => c.2.retired)).length
  let s := s.wr E.Ldg.RING_SEGMENTS (1024 - l.joined.getD 257 - retired)
  let fill := sumNat (l.buffer.map (fun b => (b.2 + 7) / 8 * 8))
  let s := (s.wr E.Ldg.BUFFER_FILL fill).raise E.Ldg.BUFFER_FILL_MAX fill
  s.wr E.Ldg.RECORD_RATE (min 0xFFFF (l.recent.filter (fun t => decide (s.now < t + 1000000000))).length)

/-- A record is committed at the end of the segment that its stream fills (R504, R508). -/
def State.appendRec (s : State) (ring : Bool) (source event tb3 : Nat) (p : List Byte) : State :=
  let l := s.ledger
  let k := if ring then l.ringSeg else l.bookSeg
  let g := l.journal.fetch {} k
  let r : Record := { seq := l.next, source := source, event := event, tb3 := tb3, payload := p }
  s.setLedger { l with
    next := l.next + 1
    buffer := l.buffer ++ [(l.next, recLength p)]
    journal := l.journal.put k { g with recs := g.recs ++ [r], bytes := g.bytes + recSize p }
    bookCount := if ring then l.bookCount else l.bookCount + 1
    recent := l.recent.filter (fun t => decide (s.now < t + 1000000000)) ++ [s.now] }

/-- BOOK_CLOSED as the N-th record of the book (R512). -/
def State.closeBook (s : State) : State :=
  let s := s.appendRec false 0x0F 0x06 s.now (vU64 s.ledger.next)
  s.setLedger { s.ledger with bookState := 2 }

/-- The next record of the book is its N-th. -/
def State.bookFull (s : State) : Bool := s.ledger.bookN ≤ s.ledger.bookCount + 1

/-- One of the ledger's own records, CLOCK or SEAL, in a stream. -/
def State.ownRec (s : State) (ring : Bool) (event : Nat) (p : List Byte) : State :=
  if !ring && s.bookFull then s.closeBook else s.appendRec ring 0x0F event s.now p

/-- A CLOCK record (Table LDG-3, R506). -/
def State.commitClock (s : State) (ring : Bool) : State :=
  let tb0 := s.tbAt 0 s.now
  let adj := s.rdI (E.Base.FREQ_ADJ 0)
  let sync := s.rd (E.Base.SYNC_STATE 0)
  let start := s.rd E.Start.START_COUNT
  let s := s.ownRec ring 0x02 (vU64 s.ledger.next ++ vU32 start ++ vTime (time96ns s.now) ++ vTime (time96 tb0) ++ vI32 adj ++ vU8 sync)
  s.setLedger { s.ledger with clock := some (s.now, tb0, adj, sync, start) }

/-- The next segment in circulation that is not retired: up to 1,023, then from the first one on. -/
def nextSegment (retired : Nat → Bool) (first : Nat) : Nat → Nat → Nat
  | 0, k => k
  | fuel + 1, k =>
    let n := if k < 1023 then k + 1 else first
    if retired n then nextSegment retired first fuel n else n

/-- The stream goes on in its next segment; in the ring it loses what it held (R512, R513). -/
def State.nextSeg (s : State) (ring : Bool) : State :=
  let l := s.ledger
  let gone := fun k => (l.journal.fetch {} k).retired
  if !ring then s.setLedger { l with bookSeg := nextSegment gone 0 1024 l.bookSeg }
  else
    let first := if l.bookState = 2 then bookSegments l.bookN else l.joined.getD 257
    let k := nextSegment gone first 1024 l.ringSeg
    let joined := if k ≤ l.ringSeg && l.bookState = 2 then some first else l.joined
    s.setLedger { l with ringSeg := k, joined := joined, journal := l.journal.put k {} }

/-- The segment that a stream fills ends with its SEAL (R511). -/
def State.sealSeg (s : State) (ring : Bool) : State :=
  let k := if ring then s.ledger.ringSeg else s.ledger.bookSeg
  let g := s.ledger.journal.fetch {} k
  s.ownRec ring 0x08 (vU16 k ++ vU32 g.recs.length ++ vU32 (crc32 (g.recs.flatMap recBytes)))

/-- A segment has room for a record of `n` bytes and its SEAL, and begins with a CLOCK (R511). -/
def State.roomFor (s : State) (ring : Bool) (n : Nat) : State :=
  let g := s.ledger.journal.fetch {} (if ring then s.ledger.ringSeg else s.ledger.bookSeg)
  if g.bytes = 0 then (if ring then s.commitClock ring else s)
  else if segmentSize < g.bytes + n + sealSize then
    let s := s.sealSeg ring
    if !ring && !s.inBook then s else (s.nextSeg ring).commitClock ring
  else s

/-- The TB0 that a record at `t` derives from the CLOCK in force (R506), in units of 2^-16 ns. -/
def derivedTb0 (c : Nat × Int × Int × Nat × Nat) (t : Nat) : Int :=
  let d : Int := ((t : Int) - (c.1 : Int)) * 65536
  c.2.1 + d + d * c.2.2.1 / 1000000000000

/-- A new CLOCK record is due before a record at `t` (R506). -/
def State.clockDue (s : State) (t : Nat) : Bool :=
  match s.ledger.clock with
  | none => true
  | some c => c.2.2.2.1 != s.rd (E.Base.SYNC_STATE 0) || decide (6553600 < (derivedTb0 c t - s.tbAt 0 t).natAbs)

/-- A record in the stream `ring`, with the CLOCK or SEAL records that come before it. -/
def State.commitIn (s : State) (ring clocked : Bool) (source event tb3 : Nat) (p : List Byte) : State :=
  let s := s.roomFor ring (recSize p)
  let s := if clocked && s.clockDue tb3 then s.commitClock ring else s
  if ring then s.appendRec true source event tb3 p
  else if !s.inBook then s.appendRec true source event tb3 p
  else if s.bookFull then (s.closeBook.roomFor true (recSize p)).appendRec true source event tb3 p
  else s.appendRec false source event tb3 p

/-- A record is committed: in the book while it is FILLING, else in the Endgame Ring (R512, R513). -/
def State.commitRec (s : State) (source event tb3 : Nat) (p : List Byte) : State := s.commitIn (!s.inBook) true source event tb3 p

/-- The book opens with BOOK_OPENED as its first record (R512, log 38). -/
def State.openBook (s : State) : State :=
  if s.ledger.bookState != 0 then s
  else
    let n := s.rd E.Ldg.BOOK_SIZE
    let s := s.setLedger { s.ledger with bookState := 1, bookN := n, bookFirst := s.ledger.next }
    ((s.appendRec false 0x0F 0x05 s.now (vU32 n)).commitClock false).showLedger

/-! ## The writer (R508, R509, R517) -/

/-- START, directly after it CLOCK, then BUFFER_RECOVERED (R506, R517); the book opens at the first start with a node ID (R512). -/
def State.commitStart (s : State) (e : LogEntry) : State :=
  let s := s.commitIn (!s.inBook) false e.source e.event e.tb3.toNat e.payload
  let s := s.commitClock (!s.inBook)
  let s := if s.ledger.recovered = 0 then s
           else { s with ledger := { s.ledger with recovered := 0 } }.commitRec 0x0F 0x0A s.now (vU32 s.ledger.recovered)
  if s.rd E.Id.NODE_ID_ACTIVE != 0 then s.openBook else s

/-- A LOST record before the first entry taken after a drop (R508). -/
def State.commitLost (s : State) : State :=
  let n := s.ledger.dropped
  if n = 0 then s
  else
    let s := s.wrR E.Ldg.RECORDS_LOST (min 0xFFFFFFFF (s.rd E.Ldg.RECORDS_LOST + n))
    { s with ledger := { s.ledger with dropped := 0 } }.commitRec 0x0F 0x03 s.now (vU8 28 ++ vU32 n)

/-- The writer takes one entry of ring 28, where the buffer has room for it (R508, R510). -/
def State.takeLog (s : State) : State :=
  match (s.ring 28).q with
  | .log e :: _ =>
    if 16000 < s.bufferUnits + units (recLength e.payload) then s
    else
      let s := s.commitLost
      let s := (s.pop 28).1
      let s := { s with ledger := { s.ledger with staged := s.ledger.staged - e.payload.length } }
      if e.source = 0x0F && e.event = 0x01 then s.commitStart e
      else s.commitRec e.source e.event (natOf 64 e.tb3) e.payload
  | _ :: _ => (s.pop 28).1
  | [] => s

/-- `n` entries at most. -/
def State.takeLogs : Nat → State → State
  | 0, s => s
  | n + 1, s => if (s.ring 28).q.isEmpty then s else State.takeLogs n s.takeLog

/-- The writer's part of a service slice: up to 1,024 entries (R508); a CLOCK of its own where TB0's relation changed (R506). -/
def State.ledgerSlice (s : State) : State :=
  let s := State.takeLogs 1024 s
  let s := if s.ledger.clock.isNone && s.ledger.next != 1 && (s.ring 28).q.isEmpty then s.commitClock (!s.inBook) else s
  s.showLedger

/-- FLUSH_PAGE (R510): the page that is programmed completes the oldest `n` records. -/
def State.flushPage (s : State) (n : Nat) : State :=
  (s.setLedger { s.ledger with buffer := s.ledger.buffer.drop n }).showLedger

/-- SEGMENT_RETIRED (R511): the records of segment `k` are written again in the next free segment. -/
def State.segmentRetired (s : State) (k : Nat) : State :=
  let l := s.ledger
  let g := l.journal.fetch {} k
  if 1023 < k || g.retired then s
  else
    let s := s.incR E.Ldg.SEGMENTS_RETIRED
    let l := { s.ledger with journal := s.ledger.journal.put k { retired := true } }
    let ring := decide (l.joined.getD 257 ≤ k)
    let s := s.setLedger l
    let s :=
      if g.recs.isEmpty then s
      else
        let cur := if ring then l.ringSeg else l.bookSeg
        let t := s.nextSeg ring
        let n := if ring then t.ledger.ringSeg else t.ledger.bookSeg
        let t := t.setLedger { t.ledger with journal := t.ledger.journal.put n g }
        if cur = k then t
        else if ring then t.setLedger { t.ledger with ringSeg := cur } else t.setLedger { t.ledger with bookSeg := cur }
    (s.log 0x0F 0x09 (vU16 k)).showLedger

/-! ## Reading (R514) -/

/-- A record in its place by sequence number. -/
def insertRec (r : Record) : List Record → List Record
  | [] => [r]
  | x :: xs => if r.seq ≤ x.seq then r :: x :: xs else x :: insertRec r xs

/-- The records that a reader reads, in sequence order: `cleared` includes the hidden ones (R514, R516). -/
def State.readable (s : State) (cleared : Bool) (cursor : Nat) : List Record :=
  let first := s.ledger.joined.getD 257
  let rs := s.ledger.journal.cells.flatMap (fun c =>
    c.2.recs.filter (fun r => cursor ≤ r.seq && (cleared || c.1 < first || s.ledger.hidden ≤ r.seq)))
  rs.foldr insertRec []

/-- Whole records from the front, up to `room` bytes. -/
def takeRecs : Nat → List Record → List Record
  | _, [] => []
  | room, r :: rs => if recSize r.payload ≤ room then r :: takeRecs (room - recSize r.payload) rs else []

/-- A read of READ_BLOCK: the block, the new cursor, and READ_SKIPPED. -/
def State.readBlock (s : State) (cursor : Nat) (cleared : Bool) : List Byte × Nat × Nat :=
  match takeRecs 16384 (s.readable cleared cursor) with
  | [] => ([], cursor, 0)
  | r :: rs => ((r :: rs).flatMap recBytes, ((r :: rs).getLast?.map (·.seq)).getD cursor + 1, r.seq - cursor)

/-! ## Clearing (R515, R516) -/

/-- The proof that CLEAR_RING asks for (R515). -/
def State.clearProof (s : State) (session : Nat) : List Byte :=
  hmac (s.rdB E.Auth.KEY_SERVICE) (ascii "LDG-CLR" ++ s.rdB E.Ldg.CLEAR_CHALLENGE ++ beBytes 4 (s.rd E.Id.NODE_ID_ACTIVE)
    ++ beBytes 4 session)

/-- An accepted clear (R516): CLEARED is the ring's first readable record. -/
def State.clearRing (s : State) (node : Nat) : State :=
  let s := s.roomFor true 64
  let seq := s.ledger.next
  let rs := ((s.ringSegments.flatMap (fun c => c.2.recs)).map (·.seq)).filter (fun q => s.ledger.hidden ≤ q)
  let lo := rs.foldl min seq
  let hi := rs.foldl max (if rs.isEmpty then seq - 1 else 0)
  let s := s.appendRec true 0x0F 0x04 s.now (vU32 node ++ vU64 lo ++ vU64 hi ++ vU64 rs.length)
  let s := s.setLedger { s.ledger with hidden := seq }
  ((s.incR E.Ldg.CLEARS).wr E.Ldg.CLEAR_RESULT 0).showLedger

/-! ## Commands -/

/-- FLUSH_PAGE (R510). -/
def execFlushPage (at_ records : Nat) (s : State) : Result := .next ((s.advance at_).flushPage records)
/-- SEGMENT_RETIRED (R511). -/
def execSegmentRetired (at_ segment : Nat) (s : State) : Result := .next ((s.advance at_).segmentRetired segment)

end Sys2Proof.Machine
end

