-- ==== Sys2Proof/Machine/Lookup.lean ====
section
/-!
DEFINITION. Machine/Lookup.lean: the entry of a key (R47, R58): the tables' rows, bank parameters and application exports.
-/
namespace Sys2Proof.Machine

/-- The position of index `idx` among the indices of a table. -/
def segPos : List (Nat × Nat) → Nat → Nat → Option Nat
  | [], _, _ => none
  | (b, n) :: rest, idx, skip => if b ≤ idx && idx < b + n then some (skip + (idx - b)) else segPos rest idx (skip + n)

/-- The row and the entry at a key among the tables. -/
def tableRow (key : Nat) : Option (Row × Ent) :=
  let idx := key / 256
  tables.findSome? (fun t =>
    match segPos t.segs idx 0 with
    | none => none
    | some k => (t.rows.find? (fun r => r.sub == key % 256)).map (fun r =>
        let d := if r.fac then factoryValue r.ty key else match r.per[k]? with
          | some n => .num n
          | none => r.d
        (r, { key := key, ty := r.ty, d := d, arch := r.arch })))

/-- A bank parameter or BANK_COPY as a row (R246, Table TLY-12); it exists where the archive defines the loop and the stage its
parameter. -/
def bankRow (key : Nat) : Row × Ent :=
  ({ sub := key % 256, name := "BANK_PARAMETER", ty := .f32, acc := .rw, ret := .retained, d := .num 0, level := .engineer, arch := true },
   { key := key, ty := .f32, d := .num 0, arch := true })

/-- The loop that the archive defines. -/
def State.loopDef (s : State) (l : Nat) : Option LoopDef := s.rt.archive.bind (fun a => a.loops.find? (fun x => x.id == l))

/-- Level of an export as a row. -/
def exportRow (e : ExportDecl) : Row × Ent :=
  let d : Value := match e.ty with
    | .str => .bytes []
    | .octets => .bytes []
    | _ => .num 0
  ({ sub := e.sub, name := "EXPORT", ty := e.ty, acc := if e.access = 0 then .ro else .rw, ret := .volatile, d := d, level := e.level },
   { key := e.index * 256 + e.sub, ty := e.ty, d := d })

/-- The export that an archive gives a key (R58). -/
def State.exportDecl (s : State) (key : Nat) : Option ExportDecl :=
  s.rt.archive.bind (fun a => a.exports.find? (fun e => e.index * 256 + e.sub == key))

/-- An entry takes a value by its key; where no table has the key, as a bank parameter. -/
def State.putKey (s : State) (key : Nat) (v : Value) : State :=
  match tableRow key with
  | some (_, e) => s.put e v
  | none => s.put (bankRow key).2 v

end Sys2Proof.Machine
end

