-- ==== Sys2Proof/Machine/Twin.lean ====
section
/-!
DEFINITION. Machine/Twin.lean: TOKEN, roles, readiness, the Twin Link, the checkpoint stream and castling (R472 to R502).
-/
namespace Sys2Proof.Machine

/-! ## Roles, readiness, status (R473, R478, R501) -/

/-- A twin event is recorded with the generation and the TB0 stamp (R501); in STANDBY the twin controller commits it itself (R509). -/
def State.logTwin (s : State) (event : Nat) (payload : List Byte) : State :=
  let p := payload ++ vU32 (s.rd (if s.active then E.Twin.GEN_SENT else E.Twin.GEN_COMMITTED)) ++ vTime (time96 (s.tbAt 0 s.now))
  if s.rd E.Twin.TWIN_ROLE = 1 then (s.commitRec 0x0A event s.now p).showLedger else s.log 0x0A event p

/-- The module is STANDBY. -/
def State.standby (s : State) : Bool := s.rd E.Twin.TWIN_ROLE == 1
/-- The partner's last heartbeat reports it READY, and the link is not DOWN. -/
def State.partnerReady (s : State) : Bool :=
  s.rd E.Twin.LINK_STATE != 2 && s.twin.partner.any (fun h => h.role == 1 && h.readiness == 0)

/-- What ends at castling: every session with its group, transfer and subscriptions (R80), and every quench filter, with its record (R75). -/
def State.linksEnd (s : State) : State :=
  let s := (List.range 16).foldl (fun s k => if (s.eop.quench.find k).isSome then s.endFilter k else s) s
  ({ s with eop := { s.eop with sessions := [], challenges := [], deferred := [] } }).wr E.Auth.SESSIONS_OPEN 0

/-- The first readiness condition but `code` that fails, in the order of Table TWN-3; 0 when all hold. -/
def State.readyWithout (s : State) (code : Nat) : Nat :=
  let p := s.twin.partner
  let staged : Nat := match s.twin.staged with
    | some a => a.id
    | none => 0
  let conds : List (Nat × Bool) :=
    [ (1, s.twin.selfTest), (2, !s.twin.held), (3, s.rd E.Twin.LINK_STATE != 2)
    , (4, p.any (fun h => h.release == s.rd E.Id.FW_RELEASE)), (5, p.any (fun h => h.spsCrc == s.rd E.Saf.SPS_CRC))
    , (6, p.any (fun h => h.archive == s.rd E.Online.ARCHIVE_ID && (h.staged == 0 || h.staged == staged || h.staged == h.archive)))
    , (7, s.twin.synced), (8, !s.twin.pathFault)
    , (9, s.rd E.Pwr.SUP_STATE != 3 && (match s.twin.supLowAt with
        | some t => decide (t + 1000000000 ≤ s.now)
        | none => true))
    , (10, !s.twin.maintenance) ]
  match conds.find? (fun c => c.1 != code && !c.2) with
  | some c => c.1
  | none => 0

/-- The first readiness condition that fails; 0 when the module is READY. -/
def State.readyCause (s : State) : Nat := s.readyWithout 0

/-- READINESS, NOT_READY_CAUSE, PARTNER_ROLE and TWIN_STATUS follow the state; a change of role or readiness is recorded. -/
def State.showTwin (s : State) : State :=
  let role := s.rd E.Twin.TWIN_ROLE
  let (rdy, cause) : Nat × Nat :=
    if role = 1 then (if s.readyCause = 0 then (0, 0) else (1, s.readyCause))
    else if role = 0 then
      (match s.twin.partner with
        | some h => (h.readiness, h.cause)
        | none => (1, 0))
    else (1, 0)
  let s := ((s.wr E.Twin.READINESS rdy).wr E.Twin.NOT_READY_CAUSE cause).wr E.Twin.PARTNER_ROLE
    (match s.twin.partner with
      | some h => h.role
      | none => 0xFF)
  let due := decide (s.rd E.Castle.PROOF_INTERVAL < s.rd E.Castle.PROOF_AGE)
  let s := s.wr E.Twin.TWIN_STATUS (ofBool s.twin.token + 2 * ofBool s.twin.seenLogic + 4 * ofBool s.twin.seenField
    + 8 * ofBool s.field.enable + 16 * ofBool s.twin.pathFault + 32 * ofBool (s.twin.stale && s.rd E.Time.PARTNER_OFFSET_STATE != 1)
    + 64 * ofBool due + 128 * ofBool (role == 1 && !s.twin.synced))
  if s.twin.told = (role, rdy, cause) || !s.twinBase then s
  else { s with twin := { s.twin with told := (role, rdy, cause) } }.logTwin 0x01 (vU8 role ++ vU8 rdy ++ vU8 cause)

/-- TWIN_ROLE takes a value; the CAN channels follow TOKEN (R353). -/
def State.setRole (s : State) (r : Nat) : State := ((List.range 4).foldl State.canState (s.wr E.Twin.TWIN_ROLE r)).showTwin

/-! ## TOKEN (R474 to R477) -/

/-- The module drives its TOKEN. -/
def State.driveToken (s : State) : State :=
  if s.twin.token then s
  else { s with twin := { s.twin with token := true, tokenAt := s.now, stopAt := none, refreshAt := s.now } }

/-- TOKEN stops: the field enable deasserts; the module is no longer ACTIVE (R474, R496). -/
def State.stopToken (s : State) (hold : Bool) : State :=
  if !s.twin.token then s
  else
    let s := ({ s with twin := { s.twin with token := false, stopAt := some s.now, awaiting := none
                                             held := s.twin.held || (s.twinBase && (hold || !s.on E.Castle.AUTO_REJOIN)) } }).fieldOff
    let s := { s with field := { s.field with resume := false }, power := { s.power with resumeAt := none } }
    s.setRole 2

/-- A resynchronisation starts (R481). -/
def State.startResync (s : State) : State :=
  let s := { s with twin := { s.twin with synced := false } }
  (s.inc E.Twin.RESYNCS).logTwin 0x03 (vBool false)

/-- The module becomes STANDBY: its cores return to reset (R473, R477, Table TWN-1). -/
def State.becomeStandby (s : State) : State :=
  let s := if s.power.resuming then (s.wr E.Start.RESTART_KIND 1) else s
  let s := { s with twin := { s.twin with listen := none, gen := 0, ckpt := {} }, power := { s.power with resuming := false } }
  let s := (List.range 4).foldl (fun s d => if s.rd (E.Dbl.PAIR_STATE d) = 3 then s else s.wr (E.Dbl.PAIR_STATE d) 0) s
  let s := { (s.wr E.Run.RUNTIME_MODE 1) with tally := { s.tally with running := false } }
  ((s.setRole 1).freeMasters).startResync.showTwin

/-- A TOKEN_PATH_FAULT is present while the detectors disagree, or the heartbeat reports TOKEN driven that neither reads (R475, R490). -/
def State.endPathFault (s : State) : State :=
  let t := s.twin
  let contradicted := s.standby && t.partner.any (·.token) && !t.seenLogic && !t.seenField
  if t.pathFault && t.seenLogic == t.seenField && !contradicted then { s with twin := { t with pathFault := false } } else s

/-- PARTNER_TOKEN_ASSERTED (R474, R475, R477): `side` true is the field-side detector. -/
def State.partnerAsserted (s : State) (side : Bool) : State :=
  let t := s.twin
  let s := { s with twin := if side then { t with seenField := true, fieldAt := s.now } else { t with seenLogic := true, logicAt := s.now } }
  let s := s.endPathFault.fieldOff
  if s.twin.token && s.rd E.Twin.TWIN_POSITION == 2 then (s.stopToken false).linksEnd
  else if s.twin.listen.isSome && s.twinBase then s.becomeStandby
  else s.showTwin

/-- PARTNER_TOKEN_DEASSERTED (R474). -/
def State.partnerDeasserted (s : State) (side : Bool) : State :=
  let t := s.twin
  ({ s with twin := if side then { t with seenField := false, fieldAt := s.now } else { t with seenLogic := false, logicAt := s.now } }).endPathFault.showTwin

/-- The detectors have disagreed for more than 10 µs (R475), or the heartbeat contradicts both (R490). -/
def State.reportPathFault (s : State) : State :=
  if s.twin.pathFault then s
  else ((({ s with twin := { s.twin with pathFault := true } }).inc E.Twin.TOKEN_PATH_FAULTS).logTwin 0x05
    (vBool s.twin.seenLogic ++ vBool s.twin.seenField)).showTwin

/-- TOKEN_PATH_FAULT (R475). -/
def State.tokenPathFault (s : State) : State :=
  if s.twin.seenLogic != s.twin.seenField && max s.twin.logicAt s.twin.fieldAt + 10000 < s.now then s.reportPathFault else s

/-- The latches stand at the values in effect (R559, R486). -/
def State.presetLatches (s : State) : State := (s.setEffective).latchOutputs

/-- The next frame boundary after this instant. -/
def State.nextBoundary (s : State) : Nat := (s.now / 50000 + 1) * 50000

/-- LAST_GAP of a takeover as the field enable asserts (R494, R502): 1 ms later every output stands at its value. -/
def State.noteGap (s : State) : State :=
  match s.twin.taking with
  | some (stop, _) =>
    let gap := (s.now - stop) / 1000 + 1000
    let s := s.wrR E.Castle.LAST_GAP gap
    if gap ≤ 1000 * s.rd E.Twin.TOKEN_WATCHDOG + 1200 then s else { s with twin := { s.twin with bounded := false } }
  | none => s

/-- FIELD_ENABLE_ASSERT (R474, R475, steps 11 and 12 of Table PWR-8): own TOKEN driven and both detectors deasserted for 50 µs. -/
def State.fieldEnableAssert (s : State) : State :=
  let t := s.twin
  let quiet := !t.seenLogic && !t.seenField && t.logicAt + 50000 ≤ s.now && t.fieldAt + 50000 ≤ s.now
  if !t.token || s.now < t.tokenAt + 50000 || !quiet || s.field.enable then s
  else
    let s := s.fieldOn
    let s :=
      if s.power.resumeAt.isSome then s
      else if s.twin.taking.isSome then
        (({ s with field := { s.field with resume := true }, power := { s.power with resumeAt := some s.now } }).fieldResume).noteGap
      else
        let b := s.nextBoundary
        let s := ({ s with field := { s.field with resume := true }, power := { s.power with resumeAt := some b } }).presetLatches
        (s.wr E.Start.START_STEP 11).wrT E.Start.RESUME_TB3 b
    s.showTwin

/-! ## The listen window (R477, R557) -/

/-- The module reports an eligible power-fail checkpoint (R557). -/
def State.pfEligible (s : State) : Bool := s.on E.Pwr.PF_CKPT_ENABLE && s.rd E.Pwr.PF_CKPT_STATE == 1

/-- The length of the listen window. -/
def State.listenWindow (s : State) : Nat :=
  if s.twin.partner.any (·.eligible) && !s.pfEligible then 1000000000
  else if s.rd E.Twin.TWIN_POSITION = 1 then 20000000 else 60000000

/-- TOKEN is asserted and the module becomes ACTIVE (step 10 of Table PWR-8). -/
def State.becomeActive (s : State) : State :=
  let s := { s with twin := { s.twin with listen := none } }
  ((s.driveToken).wr E.Start.START_STEP 10).setRole 0

/-- LISTEN_WINDOW_EXPIRY (R477). -/
def State.listenExpiry (s : State) : State :=
  match s.twin.listen with
  | some t => if t + s.listenWindow ≤ s.now && s.operating && !s.twin.seenLogic && !s.twin.seenField then s.becomeActive else s
  | none => s

/-! ## The link (R482, R483) -/

/-- The archive that the staging partition holds, as far as it has been written (R113). -/
def State.stagedArchive (s : State) : Option Archive :=
  Config.archiveReading (s.rt.staging.readList 0 (s.rd E.Online.STAGE_LENGTH))

/-- ARCHIVE_ID of the archive that the module holds staged, 0 for none (R479). -/
def State.stagedId (s : State) : Nat :=
  match if s.standby then s.twin.staged else s.stagedArchive with
  | some a => if a.signed then a.id else 0
  | none => 0

/-- HEARTBEAT_SEND (R483): `sup` is the voltage at SUP (binary32), which readiness compares with 17.5 V. -/
def State.heartbeatSend (s : State) (sup : Nat) : State :=
  let s := if fmt32.lt sup 0x418C0000 then { s with twin := { s.twin with supLowAt := some s.now } } else s
  let s := s.showTwin
  let h : Heartbeat :=
    { role := s.rd E.Twin.TWIN_ROLE, readiness := if s.standby then s.rd E.Twin.READINESS else 1
      cause := if s.standby then s.rd E.Twin.NOT_READY_CAUSE else 0, token := s.twin.token
      gen := s.rd (if s.active then E.Twin.GEN_SENT else E.Twin.GEN_COMMITTED), release := s.rd E.Id.FW_RELEASE
      spsCrc := s.rd E.Saf.SPS_CRC, archive := s.rd E.Online.ARCHIVE_ID, staged := s.stagedId, eligible := s.pfEligible
      macs := [beNat (s.rdB E.Net.PLANT_MAC), beNat (s.rdB E.Net.RING_MAC)], ips := [s.net.plantIp, s.net.ringIp] }
  if !s.twinBase || s.power.reduced then s else { s with twin := { s.twin with sent := some h } }

/-- LINK_STATE from the lanes. -/
def State.showLink (s : State) (up : Bool) : State :=
  s.wr E.Twin.LINK_STATE (if !up || (!s.twin.laneA && !s.twin.laneB) then 2 else if s.twin.laneA && s.twin.laneB then 0 else 1)

/-- LANE_ERRORS rises by the frames that failed their CRC on each lane (R482). -/
def State.laneErrors (s : State) (a b : Nat) : State :=
  if a = 0 && b = 0 then s
  else
    let old := s.rdB E.Twin.LANE_ERRORS
    s.wrB E.Twin.LANE_ERRORS (leBytes 4 (min 0xFFFFFFFF (leAt old 0 4 + a)) ++ leBytes 4 (min 0xFFFFFFFF (leAt old 4 4 + b)))

/-- Generation `g` lies at or before `h`, modulo 2^32. -/
def genUpTo (g h : Nat) : Bool := decide ((h + 2 ^ 32 - g) % 2 ^ 32 < 2 ^ 31)

/-- The partner has committed up to generation `g` (R487): entries of ring 31 retire, CKPT_LAG. -/
def State.committedUpTo (s : State) (g : Nat) : State :=
  let done := s.twin.unacked.filter (fun u => genUpTo u.1 g)
  match done.getLast? with
  | none => s
  | some u =>
    let r := s.ring 31
    let q := r.q.dropWhile (fun e => match e with
      | .bytes b => genUpTo (leAt b 4 4) g
      | _ => true)
    let s := s.setRing 31 { r with tail := (r.tail + (r.q.length - q.length)) % 65536, q := q }
    let s := { s with twin := { s.twin with unacked := s.twin.unacked.filter (fun u => !genUpTo u.1 g) } }
    (s.wr E.Twin.GEN_COMMITTED g).wr E.Twin.CKPT_LAG ((s.now - u.2) / 1000)

/-- Step 4 of a proof test ends as the former active module is READY (Table TWN-9): within 5 s and its resynchronisation. -/
def State.proofStep4 (s : State) : State :=
  match s.twin.proofFrom with
  | some t =>
    if !s.partnerReady then s
    else
      let limit := 5000000000 + 2 * s.rd E.Pwr.PF_CKPT_SIZE + 100000000
      let ok := s.now ≤ t + limit
      let s := { s with twin := { s.twin with proofFrom := none } }
      let s := if ok then s.wrR E.Castle.PROOF_AGE 0 else s
      (s.wrR E.Castle.PROOF_RESULT (if ok then 0 else 4)).logTwin 0x06 (vU8 (if ok then 0 else 4))
  | none => s

/-- HEARTBEAT_RECEIVED (R483, R490): with the CRC errors of each lane since the last one. -/
def State.heartbeatReceived (s : State) (h : Heartbeat) (errA errB : Nat) : State :=
  if !s.twinBase then s
  else
    let down := s.rd E.Twin.LINK_STATE == 2
    let s := { s with twin := { s.twin with partner := some h, heardAt := s.now
                                            laneA := s.twin.laneA || !s.twin.laneB } }
    let s := (s.laneErrors errA errB).showLink true
    let s := if down && s.standby then s.startResync else s
    let s := if s.active then (s.committedUpTo h.gen).proofStep4 else s
    let s := if s.standby && h.token && !s.twin.seenLogic && !s.twin.seenField then s.reportPathFault else s.endPathFault
    s.showTwin

/-- LINK_DOWN_TIMEOUT (R483). -/
def State.linkDown (s : State) : State :=
  if s.rd E.Twin.LINK_STATE = 2 || s.now < s.twin.heardAt + 500000 then s else (s.showLink false).showTwin

/-- LANE_STATE_CHANGE (R482). -/
def State.laneChange (s : State) (lane : Nat) (up : Bool) : State :=
  let was := s.rd E.Twin.LINK_STATE
  let s := { s with twin := if lane = 0 then { s.twin with laneA := up } else { s.twin with laneB := up } }
  (s.showLink (was != 2)).showTwin

/-! ## The checkpoint stream (R484 to R488) -/

/-- The generation after `g`, modulo 2^32, skipping 0 (R485). -/
def nextGen (g : Nat) : Nat := if (g + 1) % 2 ^ 32 = 0 then 1 else (g + 1) % 2 ^ 32

/-- An entry of CKPT_TX (Table TWN-5). Addresses and CRC-32 values of data that the model does not lay out are free values (log 34). -/
def State.ckptEntry (s : State) (kind source count gen len target : Nat) : List Byte :=
  leBytes 1 kind ++ leBytes 1 source ++ leBytes 2 count ++ leBytes 4 gen ++ leBytes 8 (if kind = 1 || kind = 4 then 0 else s.rand)
    ++ leBytes 4 len ++ leBytes 4 s.rand ++ leBytes 4 target ++ leBytes 4 0

/-- The largest delta (R485). -/
def deltaMax : Nat := 8388608

/-- A delta goes onto CKPT_TX (R484, R485): `pages` dirty pages, `recs` the record types that the commit changed with their sizes.
Where ring 31 has no room its pages and records travel with the next one (each record but a block once); beyond 8 MiB the partner is resynchronised. -/
def State.sendDelta (s : State) (source pages : Nat) (recs : List (Nat × Nat)) : State :=
  if !s.twinBase || !s.active || s.rd E.Twin.LINK_STATE = 2 || s.power.reduced then s
  else
    let pages := s.twin.owedPages + pages
    let recs := s.twin.owedRecs.filter (fun r => r.1 == 0x04 || !recs.any (fun q => q.1 == r.1)) ++ recs
    let bytes := 4096 * pages + sumNat (recs.map (·.2))
    if deltaMax < bytes then
      ({ s with twin := { s.twin with owedPages := 0, owedRecs := [] } }).startResync
    else
      let g := nextGen (s.rd E.Twin.GEN_SENT)
      let es : List (List Byte) := [s.ckptEntry 1 source 0 g 0 0]
        ++ (if pages = 0 then [] else [s.ckptEntry 2 source pages g (4096 * pages) 0])
        ++ recs.map (fun r => s.ckptEntry 3 source 0 g r.2 r.1) ++ [s.ckptEntry 4 source 0 g bytes 0]
      let (s, ok) := (s.drawn).pushBlock 31 (es.map .bytes)
      if !ok then { s with twin := { s.twin with owedPages := pages, owedRecs := recs } }
      else
        let s := { s with twin := { s.twin with owedPages := 0, owedRecs := [], unacked := s.twin.unacked ++ [(g, s.now)] } }
        ((s.wr E.Twin.GEN_SENT g).wr E.Twin.DELTA_LAST bytes).raise E.Twin.DELTA_MAX bytes

/-- The records of Table TWN-4 that a commit changed, by what the stream has carried last and the state now. -/
def changedRecords (a b : Saved) : List Nat :=
  let views := fun (c : Saved) => c.tasks.cells.map (fun t => (t.1, t.2.view))
  let put := fun (same : Bool) (k : Nat) => if same then ([] : List Nat) else [k]
  put (a.outs == b.outs) 0x01 ++ put (a.loops == b.loops) 0x02 ++ put (a.axes == b.axes) 0x03 ++
  put (a.cycle == b.cycle && a.stations == b.stations) 0x05 ++ put (a.can == b.can) 0x06 ++ put (a.forces == b.forces) 0x07 ++
  put (a.mode == b.mode && views a == views b) 0x08 ++ [0x0A]

/-- A commit's delta: its dirty pages and the records that it changed (R484). -/
def State.sendChanges (s : State) (source pages : Nat) : State :=
  if !s.twinBase then s
  else
    let c := s.capture s.now
    let recs := (changedRecords s.twin.last c).map (fun k => (k, Config.recordSize k))
    { s with twin := { s.twin with last := c } }.sendDelta source pages recs

/-- Entries of the force slots. -/
def forceEntry (key : Nat) : Bool := decide (0x6110 ≤ key / 256) && decide (key / 256 < 0x6200)

/-- Entries whose retained value is the module's own and is not mirrored (R484). -/
def ownEntry (key : Nat) : Bool :=
  let i := key / 256
  i == 0x1000 || i == 0x1100 || (i == 0x1900 && 3 ≤ key % 256 && key % 256 ≤ 8) || (0x1830 ≤ i && i ≤ 0x1833) || i == 0x7400

/-- A RETAINED write is mirrored as a RETAINED_BLOCK record (R484); a force slot travels in the FORCES record too (R111). -/
def State.mirror (s : State) (key : Nat) : State :=
  if ownEntry key then s
  else s.sendDelta 0xFE 0 ((0x04, 4096) :: (if forceEntry key then [(0x07, Config.recordSize 7)] else []))

/-- FORCE_CLEAR_ALL reaches the partner as one commit (R111). -/
def State.mirrorForces (s : State) : State := s.sendDelta 0xFE 0 [(0x04, 4096), (0x07, Config.recordSize 7)]

/-- A mirrored block is stored: its generation, and every cell but the module's own (R484). -/
def State.storeBlock (s : State) (b gen : Nat) (cells : SMap Value) : State :=
  let mine := cells.cells.filter (fun c => !ownEntry c.1)
  let old := ((s.blocks.fetch {} b).newest.getD {}).cells
  let c : BlockCopy := { gen := gen, cells := mine.foldl (fun m c => m.put c.1 c.2) old }
  let k := s.blocks.fetch {} b
  let k := if k.x.ok && (!k.y.ok || genFollows k.x.gen k.y.gen) then { k with y := c } else { k with x := c }
  let s := ({ s with blocks := s.blocks.store {} b k }).inc E.Restore.RETAINED_WRITES
  mine.foldl (fun s c => s.putKey c.1 c.2) s

/-- The output image is loaded into the field latches (R486). -/
def State.loadLatches (s : State) (outs : SMap Nat) : State :=
  outs.cells.foldl (fun s c =>
    let n := pointNumber c.1
    match pointClass c.1 with
    | 2 => s.wr (E.Do.DO_COMMANDED n) (ofBool (c.2 != 0))
    | 4 => s.wr (E.Ao.AO_COMMANDED n) c.2
    | _ => s) s

/-- An archive takes the place of the running one in the module's flash (R114, R479). -/
def State.swapArchive (s : State) (a : Archive) : State :=
  let kept := match s.rt.archive with
    | some o => keptValues s.rt.kept o a
    | none => {}
  ({ s with rt := { s.rt with previous := s.rt.archive, archive := some a, armed := none, kept := kept } }).wr E.Online.ARCHIVE_ID a.id

/-- The standby acknowledges a CASTLE once it has committed the final generation (R489). -/
def State.ackCastle (s : State) : State :=
  match s.twin.castle with
  | some (cause, g) =>
    if g = s.twin.gen then { s with twin := { s.twin with castle := none, acked := true, castleCause := some cause } } else s
  | none => s

/-- The transmitter supplies follow the targets that the active module sent (R398). -/
def State.takeTargets (s : State) (m : SMap Nat) : State :=
  m.cells.foldl (fun s c => if c.1 < 32 then (s.setAin c.1 { s.ain c.1 with partnerTarget := c.2 }).retarget c.1 else s) s

/-- A delta is committed in the standby (R486). -/
def State.commitDelta (s : State) (d : TwinDelta) : State :=
  let s := { s with twin := { s.twin with gen := d.gen, ckpt := mergeSaved d.recs s.twin.ckpt d.saved } }
  let s := d.blocks.foldl (fun s b => s.storeBlock b.1 b.2.1 b.2.2) s
  let s := if d.changeover then (match s.twin.staged with
      | some a => { (s.swapArchive a) with twin := { s.twin with staged := none } }
      | none => s) else s
  let s := if d.recs.contains 0x01 then s.loadLatches d.saved.outs else s
  let s := s.takeTargets d.saved.targets
  (((s.wr E.Twin.GEN_COMMITTED d.gen).wr E.Twin.DELTA_LAST d.size).raise E.Twin.DELTA_MAX d.size).ackCastle

/-- DELTA_END (R37, R486): the END entry passes through CKPT_RX; a delta that fails its checks, or is not the next generation, is
discarded and a resynchronisation starts. -/
def State.deltaEnd (s : State) (d : TwinDelta) : State :=
  let s := if s.standby then ((s.place 32 (.ckpt d.gen d.size)).pop 32).1 else s
  if !s.standby then s
  else if d.ok && d.gen == nextGen s.twin.gen && d.size ≤ deltaMax then (s.commitDelta d).showTwin
  else s.startResync.showTwin

/-- Every record type of Table TWN-4 but blocks and archives. -/
def allRecords : List Nat := [0x01, 0x02, 0x03, 0x05, 0x06, 0x07, 0x08, 0x0A]

/-- RESYNC_DONE (R481): the standby holds everything up to a generation. -/
def State.resyncDone (s : State) (d : TwinDelta) : State :=
  if !s.standby || s.rd E.Twin.LINK_STATE = 2 then s
  else
    let s := ({ s with twin := { s.twin with ckpt := {} } }).commitDelta { d with recs := allRecords }
    ((({ s with twin := { s.twin with synced := true } }).wr E.Twin.DELTA_LAST d.size).logTwin 0x03 (vBool true)).showTwin

/-- AUDIT (R488): `ok` says that every CRC agrees. -/
def State.audit (s : State) (ok : Bool) : State :=
  if !s.standby || !s.twin.synced || s.now < s.twin.auditAt + 60000000000 * s.rd E.Twin.AUDIT_INTERVAL then s
  else
    let s := { s with twin := { s.twin with auditAt := s.now } }
    if ok then s else (((s.incR E.Twin.AUDIT_MISMATCHES).logTwin 0x04 []).startResync).showTwin

/-- ARCHIVE_PART (R479): bytes at an offset of the running (`staged` false) or staged archive; with the last piece its signature
is checked and the archive held. -/
def State.archivePart (s : State) (staged : Bool) (off : Nat) (bytes : List Byte) (last : Bool) : State :=
  if !s.standby then s
  else
    let m := (if staged then s.twin.staging else s.twin.running).writeList off bytes
    let s := { s with twin := if staged then { s.twin with staging := m } else { s.twin with running := m } }
    if !last then s
    else
      match Config.archiveReading (m.readList 0 (off + bytes.length)) with
      | some a =>
        if !a.signed then s
        else if staged then ({ s with twin := { s.twin with staged := some a } }).showTwin
        else (s.swapArchive a).showTwin
      | none => s

/-! ## Castling (R489 to R497) -/

/-- A commanded castling starts: CASTLE goes out with the final generation (R489); false where it is refused (R497). -/
def State.castleStart (s : State) (cause : Nat) : State × Bool :=
  if !s.active || !s.twinBase || !s.partnerReady || s.twin.awaiting.isSome || s.twin.taking.isSome then (s, false)
  else ({ s with twin := { s.twin with awaiting := some (cause, s.now) } }, true)

/-- A castling request (R489, R497, R499): a refused one leaves CASTLE_RESULT REFUSED. -/
def State.castleRequest (s : State) (cause : Nat) : State :=
  let (t, ok) := s.castleStart cause
  if ok then t.wr E.Castle.CASTLE_RESULT 0xFF else s.wr E.Castle.CASTLE_RESULT 2

/-- CASTLE_RECEIVED (R489). -/
def State.castleReceived (s : State) (gen cause : Nat) : State :=
  if !s.standby || s.readyCause != 0 then s
  else ({ s with twin := { s.twin with castle := some (cause, gen), acked := false } }).ackCastle

/-- CASTLE_ACK (R489): the active module stops TOKEN. -/
def State.castleAck (s : State) : State :=
  match s.twin.awaiting with
  | some (cause, _) =>
    let s := if cause = 1 then s else s.wr E.Castle.CASTLE_RESULT 0
    ((s.stopToken (cause == 1)).logTwin 0x02 (vU8 cause)).linksEnd
  | none => s

/-- The lowest-numbered pair that has not failed takes over the services, where their pair has failed (R141): sessions end, and
every consumed ring is read from its last retired entry. -/
def State.servicesTakeover (s : State) : State :=
  let p := s.rd E.Dbl.SERVICES_PAIR
  if 4 ≤ p || s.rd (E.Dbl.PAIR_STATE p) != 3 then s
  else
    let q := ((List.range 4).find? (fun d => s.rd (E.Dbl.PAIR_STATE d) != 3)).getD 0xFF
    let s := { s with eop := { s.eop with
      sessions := [], challenges := [], deferred := [], failures := [], blocks := [], portGroup := none, portTransfer := none } }
    ((s.wr E.Dbl.SERVICES_PAIR q).wr E.Auth.SESSIONS_OPEN 0).log 0x04 0x05 (vU8 q)

/-- A failed pair without a castling: SAFE_STATE, and the services move on (R139, R141). -/
def State.pairSafe (s : State) : State := ((s.enterSafe 4).safetyOff).servicesTakeover

/-- CASTLE_ACK_TIMEOUT (R489): TOKEN stays; a failed pair leads to SAFE_STATE, a proof test fails in step 3. -/
def State.castleAckTimeout (s : State) : State :=
  match s.twin.awaiting with
  | some (cause, t) =>
    if s.now < t + 1000000 then s
    else
      let s := { s with twin := { s.twin with awaiting := none } }
      if cause = 1 then s.pairSafe
      else
        let s := s.wr E.Castle.CASTLE_RESULT 1
        if cause = 6 then (s.wrR E.Castle.PROOF_RESULT 3).logTwin 0x06 (vU8 3) else s
  | none => s

/-- A pair begins its restart from a checkpoint. -/
def State.pairRestarting (s : State) (d : Nat) : State :=
  { (s.wr (E.Dbl.PAIR_STATE d) 2) with pairs := s.pairs.modify {} d (fun p => { p with detected := s.now, castling := true }) }

/-- STANDBY_TAKE_TOKEN (R490 to R492, R495): both detectors deasserted for 100 µs, and the link DOWN or the last heartbeat, within
200 µs, reporting the partner's TOKEN not driven. `cause` codes what stopped the partner's TOKEN where no CASTLE was received. -/
def State.takeToken (s : State) (cause : Nat) : State :=
  let t := s.twin
  let quiet := !t.seenLogic && !t.seenField && t.logicAt + 100000 ≤ s.now && t.fieldAt + 100000 ≤ s.now
  let link := s.rd E.Twin.LINK_STATE == 2 || (t.partner.any (fun h => !h.token) && s.now ≤ t.heardAt + 200000)
  -- a link that goes DOWN after the partner's TOKEN stopped does not make a READY standby NOT_READY (log 37)
  let ready := s.readyCause == 0 || (s.readyWithout 3 == 0 && max t.logicAt t.fieldAt ≤ t.heardAt + 500000)
  if !s.standby || !quiet || !link || !ready then s
  else
    let stop := max t.logicAt t.fieldAt - 3000
    let cause := t.castleCause.getD cause
    let s := s.linksEnd.driveToken
    let s := (s.incR E.Castle.CASTLINGS).wrR E.Castle.LAST_CASTLING_CAUSE cause
    let s := { s with twin := { s.twin with taking := some (stop, cause), castleCause := none, acked := false, bounded := true
                                            stale := s.rd E.Twin.LINK_STATE == 2
                                            proofFrom := if cause = 6 then some stop else none } }
    let s := (List.range 4).foldl State.pairRestarting s
    let s := s.restore s.twin.ckpt (-(fmt64.nearestScaled (s.rd E.Time.PARTNER_OFFSET) 0)) 1
    let s := s.frameReload
    let s := { s with tally := { s.tally with running := true } }
    let s := (List.range 4).foldl (fun s c => (s.wr (E.Can.TEC c) 0).wr (E.Can.REC c) 0) s
    ((s.safetyConfigure).setRole 0).freeMasters

/-- COMPLETE_BOUND in µs (R493): the greater of 6 × the shortest PERIOD and 15 ms. -/
def State.completeBound (s : State) : Nat :=
  let ps := s.taskIds.filterMap (fun t => (s.task t).attr.map (·.period))
  max 15000 (6 * ps.foldl min (ps.headD 0))

/-- The task with the shortest PERIOD commits its first turn: castling is complete (R493, R500, R501). -/
def State.castleComplete (s : State) (t : Nat) : State :=
  match s.twin.taking, (s.task t).attr with
  | some (stop, cause), some a =>
    let shortest := s.taskIds.all (fun u => match (s.task u).attr with
      | some b => decide (a.period ≤ b.period)
      | none => true)
    if !shortest then s
    else
      let us := (s.now - stop) / 1000
      let ok := s.twin.bounded && us ≤ s.completeBound
      let s := ({ s with twin := { s.twin with taking := none } }).wrR E.Castle.LAST_COMPLETE us
      let s := if ok then s.wrR E.Castle.PROOF_AGE 0 else s
      let s := if !ok && cause = 6 then
          (({ s with twin := { s.twin with proofFrom := none } }).wrR E.Castle.PROOF_RESULT 3).logTwin 0x06 (vU8 3) else s
      s.logTwin 0x02 (vU8 cause ++ vU32 (s.rd E.Castle.LAST_GAP) ++ vU32 us)
  | _, _ => s

/-- REJOIN (R496). -/
def State.effRejoin (s : State) (v : Nat) : State :=
  if v = 0 then s else ({ s with twin := { s.twin with held := false } }).showTwin

/-- PROOF_TEST (R499): with the partner READY and CKPT_LAG below 1 ms. -/
def State.chkProof (s : State) : Nat := need (s.active && s.partnerReady && s.rd E.Twin.CKPT_LAG < 1000) stMode

/-- The steps of Table TWN-9: `step1` and `step2` are the results of the standby's tests and of the audit. -/
def State.effProof (s : State) (step1 step2 : Bool) : State :=
  let fail := fun (s : State) n => (s.wrR E.Castle.PROOF_RESULT n).logTwin 0x06 (vU8 n)
  if !step1 then fail s 1 else if !step2 then fail s 2
  else
    let (t, ok) := s.castleStart 6
    if ok then t else fail s 3

/-- MAINTENANCE_ENTER (R480): a standby whose J16 has had VBUS for 1 s. -/
def State.maintenanceEnter (s : State) : State :=
  if !s.standby || s.twin.maintenance then s
  else
    let s := { s with twin := { s.twin with maintenance := true } }
    if s.rd (E.Dbl.PAIR_STATE 0) = 3 then s.showTwin
    else ((s.wr (E.Dbl.PAIR_STATE 0) 1).wr E.Dbl.SERVICES_PAIR 0).showTwin

/-- RESET_STATS of the twin entries. -/
def State.effTwinStats (s : State) : State :=
  (s.clear [E.Twin.DELTA_MAX, E.Twin.RESYNCS, E.Twin.TOKEN_PATH_FAULTS]).wrB E.Twin.LANE_ERRORS (leBytes 8 0)

end Sys2Proof.Machine
end

