-- ==== Sys2Proof/Machine/TallyFrame.lean ====
section
/-!
DEFINITION. Machine/TallyFrame.lean: a Tally frame (R217 to R219, R223, R236 to R238): commits, the schedule of each pipeline, late
samples; what takes effect at a frame boundary (R49, R98, R109, R363, R558); the stores of R585.
-/
namespace Sys2Proof.Machine

/-- Slots of one sample of a loop (R227, Table TLY-5). -/
def loopSlots (d : LoopDef) : Nat := 1 + sumNat (d.stages.map (fun g => stageSlots g.code))

/-- Tally begins at the RESUME boundary (R258, R558); a restored power-fail checkpoint is consumed (R561). -/
def State.atResume (s : State) : State :=
  let s := if s.tally.running then s else ({ s with tally := { s.tally with running := true } }).wr E.Start.START_STEP 12
  if !s.power.resuming then s
  else
    let use := fun (c : Option PfCkpt) => c.map (fun k => { k with consumed := true })
    ({ s with power := { s.power with resuming := false, half0 := use s.power.half0, half1 := use s.power.half1 } }).wr E.Pwr.PF_CKPT_STATE 3

/-- The loops of pipeline `p` released in frame `f`, in ascending ORDER (R217, R218). -/
def State.releasedLoops (s : State) (p f : Nat) : List LoopDef :=
  let ds := (s.tally.loops.vals.filterMap (·.attr)).filter (fun d => d.pipeline == p && d.period != 0 && f % d.period == d.phase)
  ds.mergeSort (fun a b => decide (a.order ≤ b.order))

/-- The loop reads a field-side input (R223). -/
def readsField (d : LoopDef) : Bool := d.inputs.any (fun i => match i with
  | some x => fieldSide x
  | none => false)

/-- What a pipeline's frame has come to: LOOP cycles used, and whether a loop was left out for want of time (R236). -/
structure PipeRun where
  s : State
  used : Nat := 0
  late : Bool := false

/-- One loop of a pipeline's frame (R223, R236); `stall` is the cycles that its evaluation waits. -/
def PipeRun.loop (r : PipeRun) (fs : List (Nat × Nat)) (f : Nat) (d : LoopDef) (stall : Nat) : PipeRun :=
  if readsField d && !r.s.field.frameOk then { r with s := r.s.lateSample d.id 0 }
  else if r.late || 20000 < r.used + 16 * loopSlots d then { r with s := r.s.lateSample d.id 1, late := true }
  else
    let used := r.used + 16 * loopSlots d + stall
    if 20000 < used then { s := r.s.lateSample d.id 1, used := 20000, late := true }
    else { s := r.s.computeSample fs f d.id, used := used, late := false }

/-- PIPE_USED_MAX of pipeline `p` rises to `n` slots (Table TLY-13). -/
def State.notePipe (s : State) (p n : Nat) : State :=
  let b := fitTo 0 8 (s.rdB E.Tally.PIPE_USED_MAX)
  if leAt b (2 * p) 2 < n then s.wrB E.Tally.PIPE_USED_MAX (b.take (2 * p) ++ leBytes 2 n ++ b.drop (2 * p + 2)) else s

/-- The frame of one pipeline; the answer tells whether it overran. -/
def State.pipeFrame (s : State) (fs stalls : List (Nat × Nat)) (f p : Nat) : State × Bool :=
  let r := (s.releasedLoops p f).foldl (fun (r : PipeRun) d =>
    r.loop fs f d (((stalls.find? (fun x => x.1 == d.id)).map (·.2)).getD 0)) { s := s }
  (r.s.notePipe p ((r.used + 15) / 16), r.late)

/-- RESET_STATS of a loop at a boundary (Table TLY-11). -/
def State.applyLoopStats (s : State) (l : Nat) : State :=
  if !(s.loopSt l).resetStats then s
  else (s.setLoop l { s.loopSt l with resetStats := false }).clear [E.Loop.LATE_COUNT l, E.Loop.PV_LOST_COUNT l, E.Loop.PV_FROZEN_COUNT l, E.Loop.SOLVER_FAULT_COUNT l, E.Loop.SWAPS l,
    E.Loop.SWAP_CLAMPS l, E.Loop.STAGE_OVF_COUNT l, E.Loop.BAD_INPUT_COUNT l]

/-- FRAME_BOUNDARY (R217 to R219): what takes effect at a boundary, the commits of the last frame, then the samples of this frame.
Tally is frozen from the first boundary after a power-fail detection (Table PWR-4). -/
def State.frameBoundary (s : State) (stalls : List (Nat × Nat)) : State :=
  if s.now % 50000 != 0 || !s.resumed || !s.active || s.tally.frameAt.any (fun t => s.now ≤ t) then s
  else
    let s := { s with tally := { s.tally with frameAt := some s.now } }
    let s := (((s.atResume).applyProfiles).applySupplies).applyStop
    let fs := s.forceList
    let s := { s with tally := { s.tally with before := { cells := s.tally.loops.cells.map (fun (c : Nat × LoopSt) =>
      (c.1, (s.rd (E.Loop.OUT0 c.1), s.rd (E.Loop.OUT1 c.1)))) } } }
    let s := s.tally.loops.keys.foldl (fun s l => (s.commitLoop fs l).applyLoopStats l) s
    let s := { s with tally := { s.tally with recs := { cells := s.tally.loops.cells.map (fun (c : Nat × LoopSt) => (c.1, s.loopRec c.1 c.2)) } } }
    let s := s.setEffective
    let s := if s.field.frameOk then s else s.inc E.Tally.FIELD_MISS_FRAMES
    let f := s.now / 50000
    let r := (List.range 4).foldl (fun (r : State × Bool) p => let q := r.1.pipeFrame fs stalls f p; (q.1, r.2 || q.2)) (s, false)
    if r.2 then r.1.inc E.Tally.OVERLOAD_FRAMES else r.1

/-- Every entry that loop `l` changed itself is stored and mirrored (R585). -/
def State.storeLoop (s : State) (l : Nat) : State :=
  let x := s.loopSt l
  let s := s.setLoop l { x with dirty := [] }
  x.dirty.foldl (fun (s : State) (c : Nat × Int) =>
    (s.retain c.1 ((s.od.find c.1).getD (.num 0))).mirror c.1) s

/-- LOOP_RETAINED_STORE (R585): every pending change is stored. -/
def State.storeLoops (s : State) : State := s.tally.loops.keys.foldl (fun s l => s.storeLoop l) s

/-! ## Dictionary effects (R239, R244, R245, R247, R262, R263) -/

/-- LOOP_MODE: CASCADE needs an SP_SOURCE (R239). -/
def State.chkLoopMode (s : State) (l v : Nat) : Nat := need (v != 2 || (s.loopDef l).any (·.spSource.isSome)) stRange

/-- OUT_MAN is accepted only in MANUAL (Table TLY-11). -/
def State.chkOutMan (s : State) (l : Nat) : Nat := need (s.rd (E.Loop.LOOP_MODE l) == 0) stRange

/-- SP_LOCAL lies from SP_LO to SP_HI. -/
def State.chkSpLocal (s : State) (l v : Nat) : Nat :=
  need (fmt32.le (s.rd (E.Loop.SP_LO l)) v && fmt32.le v (s.rd (E.Loop.SP_HI l))) stRange

/-- SP_LO is less than SP_HI. -/
def State.chkSpLo (s : State) (l v : Nat) : Nat := need (fmt32.lt v (s.rd (E.Loop.SP_HI l))) stRange

/-- SP_HI is greater than SP_LO. -/
def State.chkSpHi (s : State) (l v : Nat) : Nat := need (fmt32.lt (s.rd (E.Loop.SP_LO l)) v) stRange

/-- TRACK needs MAN_POINT at the last position and, where an output stands forced, OUT0's destination (R244). -/
def State.chkForceResponse (s : State) (l v : Nat) : Nat :=
  need (v != 0 || (match s.loopDef l with
    | some d => d.manPoint + 1 == d.stages.length && (!destForced s.forceList d.out1 || destForced s.forceList d.out0)
    | none => true)) stRange

/-- BANK_SELECT takes effect at the next boundary's sample (R245). -/
def State.effBankSelect (s : State) (l v : Nat) : State :=
  if (s.loopSt l).attr.isNone then s else s.setLoop l { s.loopSt l with bankSel := some v }

/-- A write to the active bank acts as a swap (R247). -/
def State.noteParam (s : State) (l bank : Nat) : State :=
  if (s.loopSt l).attr.isSome && s.rd (E.Loop.BANK_ACTIVE l) == bank then s.setLoop l { s.loopSt l with paramWrite := true } else s

/-- Parameters of a stage that Table TLY-5 gives a range, with the cross-conditions; `p` gives the bank's parameters. -/
def paramsOk (code : Nat) (p : Nat → Nat) : Bool :=
  let one := 0x3F800000
  let same := fun a b => fmt32.le a b && fmt32.le b a
  let pid := fmt32.le 0 (p 4) && fmt32.le (p 4) one && fmt32.le 0 (p 5) && fmt32.le (p 5) one && fmt32.lt (p 6) (p 7) &&
    (p 8 == one || p 8 == 0xBF800000)
  let whole := fun (k hi : Nat) =>
    let n := fmt32.nearestScaled (p k) 0
    decide (0 ≤ n) && decide (n ≤ (hi : Int)) && same (fmt32.ofInt n) (p k)
  (List.range (stageParams code)).all (fun k => !fmt32.special (p k)) &&
  (match code with
    | 0x01 => fmt32.le 0 (p 3) && pid
    | 0x02 => fmt32.le 0 (p 1) && fmt32.le 0 (p 2) && fmt32.le 0x40000000 (p 3) && fmt32.le (p 3) 0x42C80000 && pid
    | 0x03 => fmt32.le 0 (p 1) && fmt32.le 0 (p 2)
    | 0x05 => fmt32.lt 0 (p 0) && fmt32.lt 0 (p 1)
    | 0x06 => fmt32.lt (p 0) (p 1)
    | 0x07 => fmt32.le 0 (p 0)
    | 0x08 => whole 0 2
    | 0x09 => !same (p 0) (p 1) && !same (p 2) (p 3)
    | 0x0A => whole 0 127
    | 0x0D => whole 0 255 && whole 1 6143 
    | _ => true)

/-- MODE 2 of SELECT needs all three operands (R227); a chain stage keeps WA and K off 0.0 (R226). -/
def stageUse (d : LoopDef) (j : Nat) (p : Nat → Nat) : Bool :=
  match d.stages[j]? with
  | none => false
  | some g =>
    let later := inChain d j && d.presetStage != some j
    (g.code != 0x08 || fmt32.nearestScaled (p 0) 0 != 2 || (g.a.isSome && g.b.isSome && g.c.isSome)) &&
    (!later || (g.code != 0x0B && g.code != 0x03) || !fmt32.isZero (p 0))

/-- A parameter exists (R227, R263). -/
def State.paramExists (s : State) (l j k : Nat) : Bool :=
  match s.loopDef l with
  | some d => (d.stages[j]?).any (fun g => decide (k < stageParams g.code))
  | none => false

/-- A parameter write keeps the ranges and cross-conditions of its stage (R226, R227, R263). -/
def State.chkParam (s : State) (l bank i v : Nat) : Nat :=
  match s.loopDef l with
  | none => stRange
  | some d =>
    let p := fun k => if k = i % 10 then v else s.bankParam l bank (i / 10) k
    need (paramsOk ((d.stages[i / 10]?).map (·.code) |>.getD 0) p && stageUse d (i / 10) p) stRange

/-- BANK_COPY copies the other bank of the loop into this one at one commit (R263). -/
def State.effBankCopy (s : State) (l bank : Nat) : State :=
  match s.loopDef l with
  | none => s
  | some d =>
    let keys := (List.range d.stages.length).flatMap (fun j =>
      (List.range (stageParams ((d.stages[j]?).map (·.code) |>.getD 0))).map (fun k => 10 * j + k))
    let s := keys.foldl (fun s i =>
      let e : Ent := { key := (0x4400 + 2 * l + bank) * 256 + 1 + i, ty := .f32, d := .num 0, arch := true }
      (s.wrR e (s.bankParam l (1 - bank) (i / 10) (i % 10))).mirror e.key) s
    s.noteParam l bank

/-- RESET_STATS of a loop takes effect at the next frame boundary (R262). -/
def State.effLoopStats (s : State) (l : Nat) : State :=
  if (s.loopSt l).attr.isNone then s else s.setLoop l { s.loopSt l with resetStats := true }

/-- RESET_STATS of Tally (Table TLY-13). -/
def State.effTallyStats (s : State) : State :=
  (s.wrB E.Tally.PIPE_USED_MAX (List.replicate 8 0)).clear [E.Tally.LATE_TOTAL, E.Tally.OVERLOAD_FRAMES, E.Tally.FIELD_MISS_FRAMES]

/-- FRAME_BOUNDARY (R218); `stalls` gives the LOOP cycles that the evaluation of a loop waits for reads and ECC in this frame. -/
def execFrameBoundary (at_ : Nat) (stalls : List (Nat × Nat)) (s : State) : Result := .next ((s.advance at_).frameBoundary stalls)

/-- LOOP_RETAINED_STORE (R585). -/
def execLoopRetainedStore (at_ : Nat) (s : State) : Result := .next ((s.advance at_).storeLoops)

end Sys2Proof.Machine
end

