-- ==== Sys2Proof/Machine/Archive.lean ====
section
/-!
DEFINITION. Machine/Archive.lean: the application archive: the checks of a load (R9, R34, R85, R88, R137, R216, R225 to R227, R235,
R334, R365, R431, R432) and its installation, whole or as an online change (R102, R103, R115, R160, R260, R263).
-/
namespace Sys2Proof.Machine

/-! ## Tasks and pairs -/

/-- Task attributes lie in the ranges of Table RUN-1 (R85). -/
def taskOk (t : TaskAttr) : Bool :=
  t.id < 32 && t.pair < 4 && 250 ≤ t.period && t.period ≤ 10000000 && t.period % 250 == 0 && t.phase + 50 ≤ t.period && t.phase % 50 == 0 &&
  t.priority < 16 && 1 ≤ t.wcet && t.wcet ≤ t.period && 40 ≤ t.imageIn && t.imageIn ≤ 1048576 && 40 ≤ t.imageOut && t.imageOut ≤ 1048576 &&
  t.maxSkip < 256

/-- No element occurs twice. -/
def noRepeat : List Nat → Bool
  | [] => true
  | x :: xs => !xs.contains x && noRepeat xs

/-- A sum of fractions as one fraction. -/
def addFrac (a : Nat × Nat) (n d : Nat) : Nat × Nat := if d = 0 then a else (a.1 * d + n * a.2, a.2 * d)

/-- The declared utilisation of a pair (R88, R432) as a fraction; `cycle` is SAFETY_CYCLE in microseconds. -/
def utilisation (a : Archive) (cycle d : Nat) : Nat × Nat :=
  let u := (a.tasks.filter (fun t => t.pair == d)).foldl (fun u t => addFrac u t.wcet t.period) (0, 1)
  let u := if a.safePairs.1 = d then addFrac u a.safeWcet.1 cycle else u
  if a.safePairs.2 = d then addFrac u a.safeWcet.2 cycle else u

/-- The utilisation check of R88: 0.80 for D0, 1.00 for the others. -/
def scheduleOk (a : Archive) (cycle : Nat) : Bool :=
  (List.range 4).all (fun d => let u := utilisation a cycle d; if d = 0 then 10 * u.1 ≤ 8 * u.2 else u.1 ≤ u.2)

/-! ## Loops (R216, R225 to R227, R235) -/

/-- An operand of position `j` refers to an earlier position or an input from IN2 on (R225). -/
def operandOk (j : Nat) : Option Operand → Bool
  | some (.pos k) => decide (k < j)
  | some (.inp k) => 2 ≤ k && k < 6
  | _ => true

/-- Codes that may stand in the preset chain after PRESET_STAGE (R226). -/
def chainCode (c : Nat) : Bool := [0x0B, 0x06, 0x05, 0x03, 0x0A, 0x0C].contains c

/-- A source exists (Table TLY-3). -/
def sourceOk : InSrc → Bool
  | .ai i => i < 32
  | .di i => i < 64
  | .ecx n _ _ => n < 64
  | .task w => w < 1024
  | .loop l _ => l < 512
  | .axis a => a < 12
  | .const v => !fmt32.special v

/-- A destination exists (Table TLY-4). -/
def destOk : OutDest → Bool
  | .none => true
  | .ao i => i < 16
  | .dig i => i < 64
  | .can c o off enc _ => c < 4 && o < 32 && off + encWidth enc ≤ 64
  | .ecx n off enc => n < 64 && off + encWidth enc ≤ 1024

/-- A loop's attributes and stage program keep the ranges and rules of R216 and R225 to R227. -/
def loopOk (a : Archive) (d : LoopDef) : Bool :=
  let n := d.stages.length
  let code := fun j => ((d.stages[j]?).map (·.code)).getD 0
  let bank := fun (b : List (Nat × Nat)) j k => ((b.find? (fun c => c.1 == 10 * j + k)).map (·.2)).getD 0
  let inner := match d.cascadeInner with
    | none => true
    | some l => a.loops.any (fun x => x.id == l && x.spSource == some (.loop d.id .out0))
  let sp := match d.spSource with
    | none => true
    | some (.loop l o) => l < 512 && (o == .out0 || o == .out1)
    | some (.task w) => w < 1024
    | some _ => false
  let preset := match d.presetStage with
    | none => true
    | some p => (code p == 0x01 || code p == 0x02) && p ≤ d.manPoint &&
        ((List.range (d.manPoint + 1)).drop (p + 1)).all (fun j => chainCode (code j) && (d.stages[j]?).any (fun g => g.a == some (.pos (j - 1))))
  d.id < 512 && d.pipeline < 4 && d.order < 512 && 1 ≤ d.period && d.period ≤ 65536 && d.phase < d.period && 1 ≤ n && n ≤ 24 &&
  d.manPoint < n && preset && inner && sp && d.name.length ≤ 24 && d.inputs.length ≤ 6 &&
  d.inputs.all (fun i => match i with
    | some x => sourceOk x
    | none => true) &&
  destOk d.out0 && destOk d.out1 && d.forceResponse < 2 &&
  (List.range n).all (fun j =>
    1 ≤ code j && code j ≤ 0x0D &&
    (d.stages[j]?).any (fun g => operandOk j g.a && operandOk j g.b && operandOk j g.c) &&
    paramsOk (code j) (bank d.bankA j) && paramsOk (code j) (bank d.bankB j) && stageUse d j (bank d.bankA j) && stageUse d j (bank d.bankB j)) &&
  ((List.range n).filter (fun j => code j == 0x09)).length ≤ 1

/-- Loops of one PERIOD and PHASE, with their slots together. -/
structure SlotClass where
  period : Nat
  phase : Nat
  slots : Nat
deriving DecidableEq, Repr

/-- A loop joins the class of its PERIOD and PHASE. -/
def joinClass (c : SlotClass) : List SlotClass → List SlotClass
  | [] => [c]
  | x :: xs => if x.period = c.period && x.phase = c.phase then { x with slots := x.slots + c.slots } :: xs else x :: joinClass c xs

/-- Two classes are released together in some frame (R235). -/
def together (a b : SlotClass) : Bool := let g := Nat.gcd a.period b.period; a.phase % g == b.phase % g

/-- The slots of the busiest set that can be released together with `chosen` (R235). A class whose PERIOD divides that of a chosen
one is released whenever that one is, so it is taken without a choice. -/
def busiest (chosen : List SlotClass) : List SlotClass → Nat
  | [] => 0
  | c :: cs =>
    if chosen.all (together c) then
      let took := c.slots + busiest (c :: chosen) cs
      if chosen.any (fun x => x.period % c.period == 0) then took else max took (busiest chosen cs)
    else busiest chosen cs

/-- The busiest frame of pipeline `p` (R235). -/
def pipePeak (a : Archive) (p : Nat) : Nat :=
  let cs := (a.loops.filter (fun d => d.pipeline == p)).foldl (fun cs d =>
    joinClass { period := d.period, phase := d.phase, slots := loopSlots d } cs) []
  busiest [] (cs.mergeSort (fun x y => decide (y.period ≤ x.period)))

/-! ## Writers (R34, R365, R334) -/

/-- Every writer that the archive names, by output point. -/
def archiveWriters (a : Archive) : List (Nat × PointWriter) :=
  a.points.filterMap (fun d => d.writer.map (fun w => (wholePoint d.point, w))) ++
  a.loops.flatMap (fun d => (destPoints d.out0 ++ destPoints d.out1).map (fun p => (wholePoint p, .loop d.id)))

/-- No output point has two writers (R34). -/
def oneWriter (a : Archive) : Bool :=
  let ws := archiveWriters a
  ws.all (fun w => ws.all (fun v => w.1 != v.1 || w.2 == v.2)) && noRepeat (a.axes.map (·.1))

/-- A bank member has no writer (R365), under the profiles that the archive gives or that stand written. -/
def State.membersFree (s : State) (a : Archive) : Bool := (archiveWriters a).all (fun w => !s.bankMember w.1)

/-- A written or archived entry's value, as the load would leave it. -/
def State.loadedVal (s : State) (a : Archive) (e : Ent) : Nat :=
  match a.defaults.find e.key with
  | some v => valNat v
  | none => s.rd e

/-- Identifiers (with their IDE bit) of the enabled objects of channel `c`. -/
def State.enabledIds (s : State) (a : Archive) (c : Nat) : List Nat :=
  (List.range 32).filterMap (fun o =>
    if s.loadedVal a (E.CanObj.OBJ_MODE c o) = 0 then none else some (s.loadedVal a (E.CanObj.OBJ_ID c o)))

/-- No two enabled objects of a channel share an identifier (R334). -/
def State.canIdsOk (s : State) (a : Archive) : Bool := (List.range 4).all (fun c => noRepeat (s.enabledIds a c))

/-! ## The checks of a load -/

/-- Bytes of the RETAIN variables (Table ARC-9). -/
def retainBytes (a : Archive) : Nat := sumNat ((a.vars.filter (·.retain)).map (fun v => v.init.length))

/-- A FORCE_RESPONSE of a loop is TRACK or FREEZE_I (Table TLY-1). -/
def archiveDefaultOk (key : Nat) (v : Value) : Bool :=
  !(decide (0x4000 ≤ key / 256) && decide (key / 256 < 0x4200) && key % 256 == 0x21) || decide (valNat v < 2)

/-- The first failing check of an archive load as a code of Table RUN-9, 0 where all pass (log 39). -/
def State.archiveCheck (s : State) (a : Archive) : Nat :=
  let sig := a.signed && a.tasks.all taskOk && noRepeat (a.tasks.map (·.id)) && a.loops.all (loopOk a) && noRepeat (a.loops.map (·.id)) &&
    (List.range 4).all (fun p => noRepeat ((a.loops.filter (fun d => d.pipeline == p)).map (·.order))) &&
    a.stateBytes.all (fun n => n ≤ 268435456) && (a.portLevel == .operator || a.portLevel == .engineer) && a.memory ≤ 2147483648 &&
    retainBytes a ≤ 8388608 && a.defaults.cells.all (fun c => archiveDefaultOk c.1 c.2)
  if !sig then 0x01
  else if a.release / 256 != s.rd E.Id.FW_RELEASE / 256 then 0x02
  else if !oneWriter a || !s.membersFree a || !s.canIdsOk a then 0x03
  else if !scheduleOk a (s.rd E.Saf.SAFETY_CYCLE) || (List.range 4).any (fun p => 1200 < pipePeak a p) then 0x06
  else if !(1 ≤ a.safePairs.1 && a.safePairs.1 ≤ 3 && 1 ≤ a.safePairs.2 && a.safePairs.2 ≤ 3 && a.safePairs.1 != a.safePairs.2) then 0x07
  else 0

/-- A rejected archive is recorded (R9, R34, R85). -/
def State.rejectArchive (s : State) (a : Archive) (code : Nat) : State := s.log 0x01 0x01 (vU32 a.id ++ vU8 code)

/-! ## Installation -/

/-- Entries of a table's index `idx` that are not RETAINED read their defaults again; `keep` names the retained sub-indices. -/
def State.forget (s : State) (idx : Nat) (keep : List Nat) : State :=
  { s with od := s.od.keep (fun k => k / 256 != idx || keep.contains (k % 256)) }

/-- Tasks (R85, R122): an online change keeps what a task of the same number holds. -/
def State.installTasks (s : State) (a : Archive) (online : Bool) : State :=
  let old := s.rt.tasks
  let s := { s with rt := { s.rt with tasks := {} } }
  let s := (List.range 32).foldl (fun s t =>
    if a.tasks.any (fun x => x.id == t) then s else s.forget (0x6000 + t) [0x0C]) s
  let s := a.tasks.foldl (fun s x =>
    let base : RtTask := if online then old.fetch {} x.id else {}
    let s := (s.setTask x.id { base with attr := some x, first := base.first || !online }).wr (E.Task.ERRORS_QUEUED x.id) base.errors.length
    (((s.wr (E.Task.TASK_PAIR x.id) x.pair).wr (E.Task.TASK_PERIOD x.id) x.period).wr (E.Task.TASK_PHASE x.id) x.phase).wr
      (E.Task.TASK_PRIORITY x.id) x.priority) s
  s.wrB E.Run.PAIR_UTILISATION ((List.range 4).flatMap (fun d =>
    let u := utilisation a (s.rd E.Saf.SAFETY_CYCLE) d
    leBytes 2 (10000 * u.1 / u.2)))

/-- Variables and instances (R103, R115): an online change keeps what is unchanged; a full load keeps RETAIN variables. -/
def State.installVars (s : State) (a : Archive) (online : Bool) : State :=
  let vars : SMap (List Byte) := a.vars.foldl (fun (m : SMap (List Byte)) v =>
    let keep := if online then s.rt.vars.find v.path else if v.retain then s.rt.retained.find v.path else none
    m.put v.path (keep.getD v.init)) {}
  let ret : SMap (List Byte) := (a.vars.filter (·.retain)).foldl (fun (m : SMap (List Byte)) v => m.put v.path (vars.fetch v.init v.path)) {}
  let insts : SMap FbInst := a.insts.foldl (fun (m : SMap FbInst) i =>
    let keep := (if online then s.rt.insts.find i.path else if i.retain then s.rt.retInsts.find i.path else none).filter (fun x => x.kind == i.kind)
    m.put i.path (match keep with
      | some x => if online then x else { x with fresh := true }
      | none => { kind := i.kind })) {}
  let retI : SMap FbInst := (a.insts.filter (·.retain)).foldl (fun (m : SMap FbInst) i => m.put i.path (insts.fetch { kind := i.kind } i.path)) {}
  let kept := fun k => online && a.exports.any (fun e => e.index * 256 + e.sub == k)
  { s with rt := { s.rt with vars := vars, retained := ret, insts := insts, retInsts := retI
                             exports := s.rt.exports.keep kept, exportIn := s.rt.exportIn.keep kept } }

/-- RETAINED sub-indices of a loop slot (Table TLY-11). -/
def loopRetained : List Nat :=
  [0x07, 0x09, 0x0A, 0x0B, 0x0D, 0x0E, 0x16, 0x17, 0x18, 0x19, 0x1A, 0x1B, 0x1C, 0x1D, 0x1E, 0x1F, 0x20, 0x21]

/-- The banks of loop `l` take the archive's values (R263). -/
def State.resetBanks (s : State) (l : Nat) : State :=
  let keep := fun k => match bankKey k with
    | some (m, _, _) => m != l
    | none => true
  let copy := fun (c : BlockCopy) => { c with cells := c.cells.keep keep }
  { s with od := s.od.keep keep, rt := { s.rt with kept := s.rt.kept.keep keep }
           blocks := { cells := s.blocks.cells.map (fun (b : Nat × Block) => (b.1, { b.2 with x := copy b.2.x, y := copy b.2.y })) } }

/-- A loop starts under R258 with its retained entries kept, those among them that await their store (R585). -/
def State.installLoop (s : State) (d : LoopDef) : State :=
  let s := (s.forget (0x4000 + d.id) loopRetained).setLoop d.id { attr := some d, dirty := (s.loopSt d.id).dirty }
  let s := (((((s.wr (E.Loop.LOOP_STATE d.id) 1).wr (E.Loop.LOOP_PIPELINE d.id) d.pipeline).wr (E.Loop.LOOP_ORDER d.id) d.order).wr
    (E.Loop.LOOP_PERIOD d.id) d.period).wr (E.Loop.LOOP_PHASE d.id) d.phase).wr (E.Loop.LOOP_SLOTS d.id) (loopSlots d)
  (s.wrB (E.Loop.PROGRAM d.id) (d.stages.map (fun g => BitVec.ofNat 8 g.code))).wrB (E.Loop.LOOP_NAME d.id) d.name

/-- The attributes and the stage program of two loops are identical (Table TLY-1, R260). -/
def sameLoop (x y : LoopDef) : Bool := { x with name := [] } == { y with name := [] }

/-- Loops (R258, R260, R263): an online change leaves an identical loop alone. -/
def State.installLoops (s : State) (a : Archive) (online : Bool) : State :=
  let old := s.tally.loops
  let gone := old.keys.filter (fun l => !a.loops.any (fun d => d.id == l))
  let s := gone.foldl (fun (s : State) l =>
    let s := s.storeLoop l
    { s.forget (0x4000 + l) loopRetained with tally := { s.tally with loops := s.tally.loops.drop l } }) s
  let s := a.loops.foldl (fun s d =>
    let was := (old.find d.id).bind (·.attr)
    if online && was.any (sameLoop d) then
      (s.setLoop d.id { s.loopSt d.id with attr := some d }).wrB (E.Loop.LOOP_NAME d.id) d.name
    else
      let s := if online && was.any (fun w => w.stages == d.stages) then s else s.resetBanks d.id
      s.installLoop d) s
  let s := if online then s else { s with tally := { s.tally with words := {} } }
  (s.wr E.Tally.LOOPS_DEFINED a.loops.length).wrB E.Tally.PIPE_PEAK ((List.range 4).flatMap (fun p => leBytes 2 (pipePeak a p)))

/-- Boards (R152, R160): a board whose descriptor an online change leaves byte-identical stays; any other is loaded or unloaded. -/
def State.installBoards (s : State) (old : Option Archive) (a : Archive) (online : Bool) : State :=
  let was := fun (b : Nat) => (old.bind (fun (o : Archive) => o.boards.find? (fun (x : Nat × List Byte) => x.1 == b))).map (·.2)
  let gone : List Nat := match old with
    | none => []
    | some o => (o.boards.filter (fun (x : Nat × List Byte) => !a.boards.any (fun (y : Nat × List Byte) => y.1 == x.1))).map (·.1)
  let s := gone.foldl (fun (s : State) b => s.setBoard b { s.board b with replace := some none }) s
  a.boards.foldl (fun s x =>
    let b := s.board x.1
    if online && was x.1 == some x.2 && b.st = 2 then s
    else if b.st = 2 then s.setBoard x.1 { b with replace := some (some x.2), source := 0 }
    else s.setBoard x.1 { b with st := 1, source := 0, loading := some x.2 }) s

/-- An archive becomes the running one (R115): whole, as a first-turn event, or as an online change. -/
def State.installArchive (s : State) (a : Archive) (online : Bool) : State :=
  let old := s.rt.archive
  let kept := match old with
    | some o => if online then keptValues s.rt.kept o a else {}
    | none => {}
  let s := { s with rt := { s.rt with archive := some a, armed := none, kept := kept } }
  let s := (((s.installTasks a online).installVars a online).installLoops a online).wr E.Online.ARCHIVE_ID a.id
  let s := s.wr E.Saf.SAFETY_PAIRS (a.safePairs.1 + 16 * a.safePairs.2)
  let s := if online then s else s.firstTurns
  s.installBoards old a online

/-- A change of archive is a commit of every pair's checkpoint (R115). -/
def State.commitAll (s : State) : State := (List.range 4).foldl (fun s d => s.pairCommit d) s

/-- ARCHIVE_LOAD: in STOP a full archive is loaded and checked, then replaces the running one, which stays as the fallback. -/
def State.archiveLoad (s : State) (a : Archive) : State :=
  if !s.isStop || !s.active then s
  else
    let r := s.archiveCheck a
    if r != 0 then s.rejectArchive a r
    else
      let s := { s with rt := { s.rt with previous := s.rt.archive } }
      (((s.installArchive a false).safetyConfigure).commitAll).log 0x03 0x05 (vU32 a.id ++ vU8 0)

/-- ARCHIVE_LOAD (R85). -/
def execArchiveLoad (at_ : Nat) (archive : Archive) (s : State) : Result := .next ((s.advance at_).archiveLoad archive)

end Sys2Proof.Machine
end

