-- ==== Sys2Proof/Machine/Online.lean ====
section
/-!
DEFINITION. Machine/Online.lean: online change: staging, checks, apply, changeover and revert (R112 to R115, Tables RUN-9, RUN-10).
-/
namespace Sys2Proof.Machine

/-- STAGE_DATA ends within the staging partition (Table RUN-10). -/
def State.chkStageData (s : State) (n : Nat) : Nat := need (decide (s.rd E.Online.STAGE_OFFSET + n ≤ 2147483648)) stRange

/-- STAGE_DATA stores its bytes at STAGE_OFFSET and advances it (R113). -/
def State.effStageData (s : State) (bs : List Byte) : State :=
  let off := s.rd E.Online.STAGE_OFFSET
  let s := { s with rt := { s.rt with staging := s.rt.staging.writeList off bs } }
  (s.raise E.Online.STAGE_LENGTH (off + bs.length)).wr E.Online.STAGE_OFFSET (off + bs.length)

/-- The declaration of a point in an archive. -/
def declIn (a : Archive) (p : Nat) : Option PointDecl := a.points.find? (fun d => d.point == p)

/-- The type or the scale of a point with an active force changes (R112). -/
def State.forcedChanged (s : State) (a : Archive) : Bool :=
  (List.range 240).any (fun f =>
    let p := s.forcePoint f
    s.on (E.Force.FORCE_ACTIVE f) && (match s.decl p, declIn a p with
      | some d, some e => d.kind != e.kind || d.scale != e.scale || d.lo != e.lo || d.hi != e.hi
      | _, _ => false))

/-- TASK_CHANGE of Table RUN-9. -/
def State.taskChange (s : State) (a : Archive) : Bool :=
  match s.rt.archive with
  | none => false
  | some o =>
    let moved := a.tasks.any (fun t => o.tasks.any (fun u =>
      t.id == u.id && (t.pair != u.pair || t.period != u.period || t.phase != u.phase || t.priority != u.priority)))
    let ids := fun (x : Archive) => x.tasks.map (·.id)
    moved || (s.isRun && ((ids a).any (fun t => !(ids o).contains t) || (ids o).any (fun t => !(ids a).contains t)))

/-- SAFETY_CHANGE of Table RUN-9. -/
def State.safetyChange (s : State) (a : Archive) : Bool :=
  s.rt.archive.any (fun o => o.safety != a.safety || o.spsCrc != a.spsCrc || o.safePairs != a.safePairs)

/-- The standby has confirmed that it holds the archive (R113, R479). -/
def State.standbyHolds (s : State) (a : Archive) : Bool :=
  !s.twinBase || (s.rd E.Twin.LINK_STATE != 2 && s.twin.partner.any (fun h => h.role == 1 && (h.staged == a.id || h.archive == a.id)))

/-- The first failing check of Table RUN-9; 0 READY. In STOP, checks 4 to 6 do not apply (R113). -/
def State.onlineCheck (s : State) (x : Option Archive) : Nat :=
  match x with
  | none => 1
  | some a =>
    let r := s.archiveCheck a
    let run := !s.isStop
    if 1 ≤ r && r ≤ 3 then r
    else if run && s.forcedChanged a then 4
    else if run && s.taskChange a then 5
    else if run && r = 6 then 6
    else if r = 7 || s.safetyChange a then 7
    else if !s.standbyHolds a then 8
    else 0

/-- STAGE_CHECK (R113). -/
def State.effStageCheck (s : State) (v : Nat) : State :=
  if v = 0 then s else s.wr E.Online.STAGE_RESULT (s.onlineCheck s.stagedArchive)

/-- An archive is applied under the checks: it waits for its changeover boundary within ONLINE_WINDOW (R114), in STOP as a full archive
load (R113), which meets the checks of every load (R88). An archive that a load rejects is recorded (R9, R34, R85, R216, R235). -/
def State.applyArchive (s : State) (x : Option Archive) : State :=
  let r := s.onlineCheck x
  match x with
  | none => s.wr E.Online.STAGE_RESULT r
  | some a =>
    let q := s.archiveCheck a
    let r := if r = 0 then q else r
    let s := s.wr E.Online.STAGE_RESULT r
    if q != 0 then s.rejectArchive a q
    else if r != 0 then s
    else { s with rt := { s.rt with armed := some (a, s.now + 1000000 * s.rd E.Online.ONLINE_WINDOW), armedFull := s.isStop } }

/-- STAGE_APPLY and REVERT take the value of APPLY_NONCE. -/
def State.chkApply (s : State) (v : Nat) : Nat := need (v == s.rd E.Online.APPLY_NONCE) stRange

/-- STAGE_APPLY (R114). -/
def State.effStageApply (s : State) : State := s.applyArchive s.stagedArchive

/-- REVERT applies the previous archive (Table RUN-10). -/
def State.effRevert (s : State) : State := s.applyArchive s.rt.previous

/-! ## The changeover -/

/-- A force whose point loses its writer is orphaned: its former writer's task gets the record (R112, Table RUN-11). -/
def State.orphan (s : State) (old : Archive) (f : Nat) : State :=
  let p := s.forcePoint f
  match declIn old p with
  | some { writer := some (.task t), .. } =>
    if s.on (E.Force.FORCE_ACTIVE f) && (s.decl p).isSome && (s.writerOf p).isNone && (s.task t).attr.isSome then s.queueErr t { cause := 6, data := [f] } else s
  | _ => s

/-- No task is released at this instant; in STOP and HOLD none is. -/
def State.noneReleased (s : State) : Bool :=
  !s.isRun || s.rt.tasks.cells.all (fun c => match c.2.attr with
    | some a => !isRelease s.now a
    | none => true)

/-- ONLINE_CHANGEOVER (R114, R115): a frame boundary within the window with every turn committed and no task released. -/
def State.changeover (s : State) : State :=
  match s.rt.armed with
  | none => s
  | some (a, until_) =>
    if s.now % 50000 != 0 || until_ < s.now || s.anyTurn || !s.noneReleased || !s.active || !s.resumed then s
    else
      let old := s.rt.archive
      let s := { s with rt := { s.rt with previous := old } }
      let s := if s.rt.armedFull then (s.installArchive a false).safetyConfigure else s.installArchive a true
      let s := (s.wrT E.Online.CHANGEOVER_TB3 s.now).commitAll
      let s := match old with
        | some o => (List.range 240).foldl (fun (s : State) f => s.orphan o f) s
        | none => s
      (s.log 0x03 0x05 (vU32 a.id ++ vU8 0)).sendChanges 0xFE 0

/-- ONLINE_WINDOW_EXPIRY (R114): NO_WINDOW. -/
def State.windowExpiry (s : State) : State :=
  match s.rt.armed with
  | some (a, until_) =>
    if (s.now : Int) < until_ then s
    else (({ s with rt := { s.rt with armed := none } }).wr E.Online.STAGE_RESULT 9).log 0x03 0x05 (vU32 a.id ++ vU8 9)
  | none => s

/-- ONLINE_CHANGEOVER (R114). -/
def execOnlineChangeover (at_ : Nat) (s : State) : Result := .next ((s.advance at_).changeover)

/-- ONLINE_WINDOW_EXPIRY (R114). -/
def execOnlineWindowExpiry (at_ : Nat) (s : State) : Result := .next ((s.advance at_).windowExpiry)

end Sys2Proof.Machine
end

