-- ==== Sys2Proof/Machine/Doubles.lean ====
section
/-!
DEFINITION. Machine/Doubles.lean: the lockstep pairs: comparison, mismatch, restart, escalation, failed pairs and injection
tests (R124 to R147).
-/
namespace Sys2Proof.Machine

/-- The 27-bit group vector of two copies' outputs (R128): group g holds bits 8g to 8g + 7, group 26 the last six. -/
def groupVector (a b : BitVec 214) : Nat :=
  let x := (a ^^^ b).toNat
  (List.range 27).foldl (fun v g => v + 2 ^ g * ofBool (x / 2 ^ (8 * g) % 256 != 0)) 0

/-- Every turn in progress on a pair is abandoned (R130); a held one leaves HOLD_TASK 0xFF (R133), and a pending STOP may end (R583). -/
def State.abandonPair (s : State) (d : Nat) : State :=
  let held := s.rd E.Run.HOLD_TASK
  let mine := fun x : RtTask => x.attr.any (fun a => a.pair == d)
  let s := if held != 0xFF && mine (s.task held) then s.wr E.Run.HOLD_TASK 0xFF else s
  ((s.rt.tasks.cells.filter (fun c => mine c.2)).foldl (fun s c => s.rollBack c.1) s).settleStop

/-- A pair is declared failed (R138, R139): castling where the partner is READY, else SAFE_STATE. -/
def State.pairFail (s : State) (d cause : Nat) : State :=
  let s := ((s.wr (E.Dbl.PAIR_STATE d) 3).wr (E.Dbl.FAIL_CAUSE d) cause).log 0x04 0x04 (vU8 d ++ vU8 cause)
  let s := s.abandonPair d
  let (t, ok) := s.castleStart 1
  if ok then t else s.pairSafe

/-- A mismatch (R129, R133, R138): `groups` is the latched vector of a comparator mismatch. -/
def State.mismatch (s : State) (d cause : Nat) (groups : Option Nat) : State :=
  let st := s.rd (E.Dbl.PAIR_STATE d)
  if st != 1 && st != 2 then s
  else
    let stamps := ((s.now : Int) :: (s.pairs.fetch {} d).stamps).take 3
    let s := { s with pairs := s.pairs.modify {} d (fun p => { p with stamps := stamps, detected := s.now }) }
    let s := ((s.inc (E.Dbl.MISMATCHES d)).incR (E.Dbl.MISMATCHES_LIFETIME d)).incR E.Dbl.MODULE_MISMATCHES
    let s := (s.wrT (E.Dbl.LAST_MISMATCH d) s.now).wr (E.Dbl.LAST_CAUSE d) cause
    let s := match groups with
      | some g => s.wr (E.Dbl.LAST_GROUPS d) g
      | none => s
    let s := s.log 0x04 0x01 (vU8 d ++ vU8 cause ++ vU32 (groups.getD 0))
    let third : Bool := match stamps with
      | [c, _, a] => decide (c - a ≤ 10000000000)
      | _ => false
    if third then s.pairFail d 2 else ((s.wr (E.Dbl.PAIR_STATE d) 2).channelOut d).abandonPair d

/-- WINDOW_COUNT (Table DBL-4): mismatches within the last 10,000 ms. -/
def State.windowCount (s : State) (d : Nat) : Nat :=
  ((s.pairs.fetch {} d).stamps.filter (fun t => decide ((s.now : Int) - t ≤ 10000000000))).length

/-- COMPARATOR_MISMATCH (R128, R129): copies that agree report nothing. -/
def State.compare (s : State) (d : Nat) (a b : BitVec 214) : State :=
  if groupVector a b = 0 then s else s.mismatch d 0 (some (groupVector a b))

/-- CACHE_CORRECTED (R127). -/
def State.cacheCorrected (s : State) (d : Nat) : State :=
  if s.rd (E.Dbl.PAIR_STATE d) = 3 || s.standby then s else s.inc (E.Dbl.ECC_CORRECTED d)

/-- RESTART_COMPLETE (R121, R132, R136): `rootOk` says that the committed checkpoint is usable. -/
def State.restartComplete (s : State) (d : Nat) (rootOk : Bool) : State :=
  if s.rd (E.Dbl.PAIR_STATE d) != 2 then s
  else if (s.pairs.fetch {} d).detected + 1200000 < s.now then s.pairFail d 4
  else if !rootOk then s.pairFail d 3
  else
    let castling := (s.pairs.fetch {} d).castling
    let s := { s with pairs := s.pairs.modify {} d (fun p => { p with castling := false }) }
    let us := ((s.now : Int) - (s.pairs.fetch {} d).detected).toNat / 1000
    let s := ((s.wr (E.Dbl.PAIR_STATE d) 1).wr (E.Dbl.RESTART_LAST d) us).raise (E.Dbl.RESTART_MAX d) us
    let s := s.log 0x04 0x02 (vU8 d ++ vU32 us)
    if castling then s
    else (s.taskIds.filter (fun t => (s.task t).attr.any (fun a => a.pair == d))).foldl (fun s t => s.resumeTask 0 t) s

/-- RESTART_TIMEOUT (R132, R138): 1,200 µs from the latest detection. -/
def State.restartTimeout (s : State) (d : Nat) : State :=
  if s.rd (E.Dbl.PAIR_STATE d) = 2 && decide ((s.pairs.fetch {} d).detected + 1200000 < s.now) then s.pairFail d 4 else s

/-- INJECT_TEST_RUN (R145): in STOP, on a pair that is RUNNING. -/
def State.chkInject (s : State) (d : Nat) : Nat :=
  firstBad [need (1 ≤ d && d ≤ 3) stRange, need (s.isStop && s.rd (E.Dbl.PAIR_STATE d) == 1) stMode]

/-- The test starts; a channel of the safety program leaves (R145). -/
def State.effInject (s : State) (d : Nat) : State :=
  let safe := d == s.safePair false || d == s.safePair true
  let s := if safe then (s.safetyStop 6).channelOut d else s
  s.wr (E.Dbl.PAIR_STATE d) 0

/-- INJECT_DETAIL (Table DBL-4). -/
def injectDetail (f : InjectFail) : Nat := f.step % 256 * 65536 + f.bit % 256 * 256 + f.group % 256

/-- The result of an injection test (R144, R147). -/
def State.noteInject (s : State) (d : Nat) (r : Option InjectFail) : State :=
  match r with
  | none =>
    let s := (s.wr (E.Dbl.INJECT_RESULT d) 0).incR (E.Dbl.INJECT_COUNT d)
    let s := s.wrR (E.Dbl.INJECT_LAST d) (if s.rd (E.Base.SYNC_STATE 0) = 2 then 0 else time96 (s.tbAt 0 s.now))
    s.log 0x04 0x03 (vU8 d ++ vU8 0)
  | some f =>
    let s := (s.wr (E.Dbl.INJECT_RESULT d) (f.result.val + 1)).wr (E.Dbl.INJECT_DETAIL d) (injectDetail f)
    s.log 0x04 0x03 (vU8 d ++ vU8 (f.result.val + 1))

/-- INJECTION_TEST_DONE (R144, R145). -/
def State.injectDone (s : State) (d : Nat) (r : Option InjectFail) : State :=
  if s.rd (E.Dbl.PAIR_STATE d) != 0 || s.standby || s.power.boot.isSome then s
  else
    let s := s.noteInject d r
    match r with
    | none => s.wr (E.Dbl.PAIR_STATE d) 1
    | some _ => s.pairFail d 1

/-- RESET_STATS of a pair (Table DBL-4). -/
def State.effPairStats (s : State) (d : Nat) : State :=
  s.clear [E.Dbl.MISMATCHES d, E.Dbl.RESTART_MAX d, E.Dbl.ECC_CORRECTED d]

/-! ## Commands -/

/-- A command about pair `d` of four. -/
def onPair (at_ d : Nat) (f : State → State) (s : State) : Result := .next (if d < 4 then f (s.advance at_) else s.advance at_)

/-- COMPARATOR_MISMATCH (R129). -/
def execComparatorMismatch (at_ d : Nat) (copyA copyB : BitVec 214) (s : State) : Result :=
  onPair at_ d (fun s => s.compare d copyA copyB) s
/-- CACHE_UNCORRECTABLE (R127). -/
def execCacheUncorrectable (at_ d : Nat) (s : State) : Result := onPair at_ d (fun s => s.mismatch d 1 none) s
/-- CACHE_CORRECTED (R127). -/
def execCacheCorrected (at_ d : Nat) (s : State) : Result := onPair at_ d (fun s => s.cacheCorrected d) s
/-- RESTART_COMPLETE (R132). -/
def execRestartComplete (at_ d : Nat) (rootOk : Bool) (s : State) : Result := onPair at_ d (fun s => s.restartComplete d rootOk) s
/-- RESTART_TIMEOUT (R138). -/
def execRestartTimeout (at_ d : Nat) (s : State) : Result := onPair at_ d (fun s => s.restartTimeout d) s
/-- INJECTION_TEST_DONE (R144). -/
def execInjectionTestDone (at_ d : Nat) (r : Option InjectFail) (s : State) : Result := onPair at_ d (fun s => s.injectDone d r) s

end Sys2Proof.Machine
end

