-- ==== Sys2Proof/Machine/Slate.lean ====
section
/-!
DEFINITION. Machine/Slate.lean: the front panel (R519 to R538): frame memory and its bands, temperature, power sequences, updates,
the strip, keys, service mode and the key captures of R391.
-/
namespace Sys2Proof.Machine

/-! ## Rectangles and images -/

/-- Two rectangles share a pixel. -/
def Rect.overlaps (a b : Sys2Proof.Rect) : Bool := a.x < b.x + b.w && b.x < a.x + a.w && a.y < b.y + b.h && b.y < a.y + a.h

/-- The smallest rectangle that covers both (R531). -/
def Rect.cover (a b : Sys2Proof.Rect) : Sys2Proof.Rect :=
  let x := min a.x b.x
  let y := min a.y b.y
  { x := x, y := y, w := max (a.x + a.w) (b.x + b.w) - x, h := max (a.y + a.h) (b.y + b.h) - y }

/-- `a` lies wholly within `b`. -/
def Rect.within (a b : Sys2Proof.Rect) : Bool := b.x ≤ a.x && b.y ≤ a.y && a.x + a.w ≤ b.x + b.w && a.y + a.h ≤ b.y + b.h

/-- Pixel `k`, y * 800 + x, lies in the rectangle. -/
def Rect.has (r : Sys2Proof.Rect) (k : Nat) : Bool := r.x ≤ k % 800 && k % 800 < r.x + r.w && r.y ≤ k / 800 && k / 800 < r.y + r.h

/-- The source pixels of an entry, row by row (R528). -/
def sourcePixels (e : SlateUpd) : List Nat := if e.kind = 2 then List.replicate (e.rect.w * e.rect.h) e.fill else e.pixels

/-- An image, `d` where it lists nothing, with the pixels of an entry, cut to `bits`. -/
def paint (m : SMap Nat) (d bits : Nat) (e : SlateUpd) : SMap Nat :=
  (sourcePixels e).zipIdx.foldl (fun m p =>
    m.store d ((e.rect.y + p.2 / e.rect.w) * 800 + e.rect.x + p.2 % e.rect.w) (p.1 % 2 ^ bits)) m

/-- An image in which the pixels that satisfy `p` are those of another, through `f`. -/
def copyWhere (p : Nat → Bool) (f : Nat → Nat) (d : Nat) (old src : SMap Nat) : SMap Nat :=
  (src.cells.filter (fun c => p c.1)).foldl (fun m c => m.store d c.1 (f c.2)) (old.keep (fun k => !p k))

/-! ## Settings -/

/-- Slate replaced. -/
def State.setSlate (s : State) (x : SlateSt) : State := { s with slate := x }

/-- The panel is ON. -/
def State.panelOn (s : State) : Bool := s.rd E.Slate.PANEL_STATE == 2

/-- PANEL_STATE takes a value; a change is recorded (R537). -/
def State.setPanel (s : State) (n : Nat) : State :=
  if s.rd E.Slate.PANEL_STATE = n then s else (s.wr E.Slate.PANEL_STATE n).log 0x0C 0x05 (vU8 n)

/-- UPDATES_RUNNING and UPDATES_PENDING. -/
def State.showSlate (s : State) : State :=
  (s.wr E.Slate.UPDATES_RUNNING s.slate.running.length).wr E.Slate.UPDATES_PENDING s.slate.pend.length

/-- An update ends with a result: 0 DONE, 1 REPLACED, 2 CUT (R532). -/
def State.updEnd (s : State) (id result : Nat) : State :=
  let s := (s.wr E.Slate.LAST_DONE_ID id).wr E.Slate.LAST_RESULT result
  if result = 1 then s.inc E.Slate.REPLACED_COUNT else s

/-- The frame period of an LCD in ns (R520). -/
def framePeriod (div h v : Nat) : Nat := 20 * div * h * v

/-- The frame period by the entries. -/
def State.panelFrame (s : State) : Nat := framePeriod (s.rd E.Slate.PCLK_DIV) (s.rd E.Slate.H_TOTAL) (s.rd E.Slate.V_TOTAL)

/-- A frame period is allowed (R520). -/
def frameOk (div h v : Nat) : Bool := 10000000 ≤ framePeriod div h v && framePeriod div h v ≤ 40000000

/-- Phase time of a band in ns. -/
def State.phaseTime (s : State) (band : Nat) : Nat := 1000000 * leAt (s.rdB E.Slate.PHASE_TIME) (2 * band) 2

/-- The factory phase counts (Table SLT-3): FULL4, DIRECT2, WHITE_RESET per band. -/
def factoryPhases : List Nat :=
  [40, 12, 80, 32, 10, 64, 24, 8, 48, 20, 6, 40, 16, 5, 32, 14, 4, 28, 12, 4, 24, 12, 4, 24]

/-- PHASES of the `k`-th sequence of a waveform set, whose header is cut off (R524). -/
def phasesAt : Nat → List Byte → Nat
  | 0, b => leAt b 0 1
  | k + 1, b => phasesAt k (b.drop (1 + 4 * leAt b 0 1))

/-- Phases of a waveform, 0 FULL4, 1 DIRECT2, 2 WHITE_RESET, in a band; the factory set has those of Table SLT-3. -/
def State.phases (s : State) (band wave : Nat) : Nat :=
  match s.od.find E.Slate.WAVEFORM_SET.key with
  | some v => phasesAt (3 * band + wave) ((valBytes v).drop 16)
  | none => factoryPhases.getD (3 * band + wave) 0

/-- A word of a waveform has no drive code 0b11 (R524). -/
def driveOk (w : Nat) : Bool := (List.range 16).all (fun k => w / 4 ^ k % 4 != 3)

/-- `n` sequences of a waveform set, and nothing after them (R524). -/
def sequencesOk : Nat → List Byte → Bool
  | 0, b => b.isEmpty
  | n + 1, b =>
    let p := leAt b 0 1
    !b.isEmpty && 1 ≤ p && p ≤ 96 && 1 + 4 * p ≤ b.length && (List.range p).all (fun i => driveOk (leAt b (1 + 4 * i) 4)) &&
      sequencesOk n (b.drop (1 + 4 * p))

/-- A waveform set that R524 accepts. -/
def waveformOk (b : List Byte) : Bool :=
  let body := b.take (b.length - 4)
  20 ≤ b.length && b.take 4 == ascii "KVWF" && leAt b 4 2 == 1 && crc32 body == leAt b (b.length - 4) 4 && sequencesOk 24 (body.drop 16)

/-- `n` binary32 values from `lo` to `hi`. -/
def floatsOk (b : List Byte) (n lo hi : Nat) : Bool :=
  (List.range n).all (fun k => let v := leAt b (4 * k) 4; fmt32.le lo v && fmt32.le v hi)

/-! ## Temperature (R523, R525) -/

/-- Upper ends of the bands 0 to 6 in °C (Table SLT-3). -/
def bandEnds : List Int := [-15, -5, 5, 15, 30, 45, 60]

/-- Bands that end at or below `t`, each end moved by `d` °C. -/
def bandOf (t : Nat) (d : Int) : Nat := (bandEnds.filter (fun e => fmt32.le (fmt32.ofInt (e + d)) t)).length

/-- The band at `t`, with 2 °C of hysteresis around each boundary (R523, log 40). -/
def nextBand (first : Bool) (cur t : Nat) : Nat :=
  if first then bandOf t 0
  else if cur < bandOf t 1 then bandOf t 1
  else if bandOf t (-1) < cur then bandOf t (-1) else cur

/-- The straight line through (t0, v0) and (t1, v1) at `t`. -/
def lineAt (t t0 t1 v0 v1 : Nat) : Nat :=
  fmt32.add v0 (fmt32.div (fmt32.mul (fmt32.sub v1 v0) (fmt32.sub t t0)) (fmt32.sub t1 t0))

/-- VCOM of an LCD at `t` (R525). -/
def State.vcomAt (s : State) (t : Nat) : Nat :=
  let v := fun k => leAt (s.rdB E.Slate.VCOM_POINTS) (4 * k) 4
  let c := fun (n : Int) => fmt32.ofInt n
  if fmt32.le t (c (-25)) then v 0
  else if fmt32.le t (c 0) then lineAt t (c (-25)) (c 0) (v 0) (v 1)
  else if fmt32.le t (c 25) then lineAt t (c 0) (c 25) (v 1) (v 2)
  else if fmt32.le t (c 50) then lineAt t (c 25) (c 50) (v 2) (v 3)
  else if fmt32.le t (c 70) then lineAt t (c 50) (c 70) (v 3) (v 4)
  else v 4

/-- VCOM_NOW moves towards its value by at most 20 mV (R525). -/
def State.moveVcom (s : State) : State :=
  if s.slate.type != 2 || !bitOf s.slate.rails 4 then s
  else
    let now := s.rd E.Slate.VCOM_NOW
    let goal := s.vcomAt (s.rd E.Slate.PANEL_TEMP)
    s.wr E.Slate.VCOM_NOW (fmt32.min (fmt32.max goal (fmt32.sub now (milli 20))) (fmt32.add now (milli 20)))

/-- PANEL_TEMP_READ (R523): the NTC's temperature, none where it reads open or shorted. -/
def State.panelTemp (s : State) (ntc : Option Nat) : State :=
  let s := (s.wr E.Slate.PANEL_TEMP (ntc.getD (s.rd E.Pwr.MOUNT_TEMP))).wr E.Slate.TEMP_SOURCE (if ntc.isSome then 0 else 1)
  let s := s.wr E.Slate.TEMP_BAND (nextBand (!s.slate.tempRead) (s.rd E.Slate.TEMP_BAND) (s.rd E.Slate.PANEL_TEMP))
  (s.setSlate { s.slate with tempRead := true }).moveVcom

/-! ## Dirty marks and WHITE_RESET (R532, R533) -/

/-- A dirty mark is stored; a seventeenth makes the whole panel dirty (R532). -/
def markDirty (x : SlateSt) (r : Rect) : SlateSt :=
  if x.allDirty then x else if x.dirty.length < 16 then { x with dirty := x.dirty ++ [r] } else { x with dirty := [], allDirty := true }

/-- A pixel of a dirty region. -/
def isDirty (x : SlateSt) (k : Nat) : Bool := x.allDirty || x.dirty.any (fun r => Rect.has r k)

/-- WHITE_RESET of the whole panel or of the dirty regions ends (R523, R533). -/
def State.whiteReset (s : State) (whole : Bool) : State :=
  let x := s.slate
  let n := if x.allDirty then 1 else x.dirty.length
  let keep := fun (m : SMap Nat) => if whole then {} else m.keep (fun k => !isDirty x k)
  let s := s.setSlate { x with current := keep x.current, retained := keep x.retained, dirty := [], allDirty := false }
  if n = 0 then s else (s.wr E.Slate.DIRTY_REGIONS n).log 0x0C 0x02 (vU8 n)

/-! ## Power sequences (Table SLT-4) -/

/-- One step of a sequence. -/
def State.panelStep (s : State) (p : PanelStep) : State :=
  match p with
  | .rails on off =>
    let r := off.foldl (fun r k => setBit r k false) (on.foldl (fun r k => setBit r k true) s.slate.rails)
    let was := bitOf s.slate.rails 4
    let s := s.setSlate { s.slate with rails := r }
    if s.slate.type != 2 then s
    else if bitOf r 4 && !was then s.wr E.Slate.VCOM_NOW (s.vcomAt (s.rd E.Slate.PANEL_TEMP))
    else if bitOf r 4 then s else s.wr E.Slate.VCOM_NOW 0
  | .restore => s.setSlate { s.slate with current := s.slate.retained }
  | .white whole => s.whiteReset whole
  | .done n => if s.rd E.Slate.PANEL_STATE = 4 then s else s.setPanel n

/-- The steps of the running sequence that are still to come. -/
def State.setSeq (s : State) (l : List (Nat × PanelStep)) : State := s.setSlate { s.slate with seq := l }

/-- One step of a sequence is taken now. -/
def State.takeStep (s : State) (p : PanelStep) : State :=
  let t := s.panelStep p
  t.setSlate { t.slate with seqAt := s.now }

/-- The first step, and the steps after it that have no delay. -/
def State.takeSteps : List (Nat × PanelStep) → State → State
  | [], s => s.setSeq []
  | p :: rest, s =>
    match rest with
    | [] => (s.takeStep p.2).setSeq []
    | q :: _ => if q.1 = 0 then State.takeSteps rest (s.takeStep p.2) else (s.takeStep p.2).setSeq rest

/-- A sequence starts. -/
def State.startSeq (s : State) (l : List (Nat × PanelStep)) : State :=
  let s := s.setSlate { s.slate with seq := l, seqAt := s.now }
  match l with
  | [] => s
  | p :: _ => if p.1 = 0 then State.takeSteps l s else s

/-- Milliseconds. -/
def ms (n : Nat) : Nat := 1000000 * n

/-- The duration of WHITE_RESET in the band in force (R523). -/
def State.whiteTime (s : State) : Nat :=
  let b := s.rd E.Slate.TEMP_BAND
  s.phases b 2 * s.phaseTime b

/-- The power-up sequence of the panel type in force. -/
def State.upSteps (s : State) : List (Nat × PanelStep) :=
  let dump := s.rd E.Slate.POWER_MODE == 1
  let clean := s.slate.dirty.isEmpty && !s.slate.allDirty
  if s.slate.type = 2 then
    if dump then [(0, .rails [0, 1, 2, 3, 4] []), (ms 1 + s.panelFrame, .rails [7] []), (0, .done 2)]
    else [(0, .rails [0] []), (ms 10, .rails [1] []), (ms 5, .rails [2] []), (ms 5, .rails [3, 4] []),
      (ms 10 + 2 * s.panelFrame, .rails [7] []), (ms 100, .done 2)]
  else if dump then [(0, .rails [0, 2, 3, 4, 5, 6] []), (ms 1, .restore), (if clean then 0 else s.whiteTime, .white false), (0, .done 2)]
  else [(0, .rails [0] []), (ms 5, .rails [2, 5] []), (ms 2, .rails [3, 6] []), (ms 2, .rails [4] []), (s.whiteTime, .white true), (0, .done 2)]

/-- Power-up starts. -/
def State.panelUp (s : State) : State :=
  if s.slate.type = 0 then s
  else
    let s := (s.setPanel 1).setSlate { s.slate with downWanted := false, upWanted := false }
    s.startSeq s.upSteps

/-- The rails of an LCD or of a bistable panel go down one by one, after `wait`, to PANEL_STATE OFF. -/
def railsDown (type wait : Nat) : List (Nat × PanelStep) :=
  if type = 2 then [(wait, .rails [] [3, 4]), (ms 5, .rails [] [2]), (ms 5, .rails [] [1]), (ms 5, .rails [] [0]), (0, .done 0)]
  else [(wait, .rails [] [4]), (ms 2, .rails [] [3, 6]), (ms 2, .rails [] [2, 5]), (ms 2, .rails [] [0]), (0, .done 0)]

/-- Time until the phase in progress and a neutral phase have ended (R526). -/
def State.neutralTime (s : State) : Nat :=
  let t := s.phaseTime (match s.slate.running with
    | u :: _ => u.band
    | [] => s.rd E.Slate.TEMP_BAND)
  (if s.panelOn then s.slate.phaseAt + t - s.now else 0) + t

/-- The power-fail sequence of the mode in force, and PANEL_ENABLE false under DUMP (Table SLT-4). -/
def State.failSteps (s : State) : List (Nat × PanelStep) :=
  let dump := s.rd E.Slate.POWER_MODE == 1
  let lcd := s.slate.type == 2
  let wait := if lcd then s.panelFrame else s.neutralTime
  (if lcd then [(0, .rails [] [7])] else []) ++
  (if !dump then railsDown s.slate.type wait
   else if lcd then [(0, .rails [] [0, 1, 2, 3, 4, 7]), (ms 5, .done 0)]
   else [(wait, .rails [] [0, 2, 3, 4, 5, 6]), (ms 10, .done 0)])

/-- Running updates end CUT; their dirty marks stay (R527, R533). -/
def State.cutRunning (s : State) : State :=
  let us := s.slate.running
  (us.foldl (fun s u => s.updEnd u.id 2) (s.setSlate { s.slate with running := [] })).showSlate

/-- Pending updates end CUT (R526). -/
def State.cutPending (s : State) : State :=
  let us := s.slate.pend
  (us.foldl (fun s u => s.updEnd u.id 2) (s.setSlate { s.slate with pend := [] })).showSlate

/-- Power-down begins once no update runs (R526). -/
def State.panelDown (s : State) : State :=
  if !s.slate.downWanted || !s.slate.running.isEmpty then s
  else
    let s := (s.cutPending).setPanel 3
    let s := s.setSlate { s.slate with downWanted := false }
    let wait := if s.slate.type = 2 then s.panelFrame else s.phaseTime (s.rd E.Slate.TEMP_BAND)
    s.startSeq (if s.rd E.Slate.POWER_MODE = 1 then s.failSteps
      else (if s.slate.type = 2 then [(0, .rails [] [7])] else []) ++ railsDown s.slate.type wait)

/-- A sequence has ended: the panel type written takes effect while the panel is off, and power-up follows where it is due. -/
def State.afterSeq (s : State) : State :=
  let st := s.rd E.Slate.PANEL_STATE
  if !s.slate.seq.isEmpty || (st != 0 && st != 4) then s
  else
    let s := s.setSlate { s.slate with type := s.rd E.Slate.PANEL_TYPE }
    if s.slate.upWanted && s.on E.Slate.PANEL_ENABLE then (if s.slate.type = 0 then s else s.panelUp) else s

/-- PANEL_SEQUENCE_STEP (R526). -/
def State.sequenceStep (s : State) : State :=
  match s.slate.seq with
  | [] => s
  | p :: _ => if s.now < s.slate.seqAt + p.1 then s else (State.takeSteps s.slate.seq s).afterSeq

/-- PANEL_ENABLE (R526, R527). -/
def State.effPanelEnable (s : State) (v : Nat) : State :=
  let st := s.rd E.Slate.PANEL_STATE
  if v != 0 then
    if !s.slate.seq.isEmpty && (st = 3 || st = 4) then s.setSlate { s.slate with upWanted := true }
    else if st = 0 || st = 4 then
      let s := s.setSlate { s.slate with type := s.rd E.Slate.PANEL_TYPE }
      s.panelUp
    else s.setSlate { s.slate with downWanted := false }
  else
    let s := s.setSlate { s.slate with upWanted := false }
    if st = 1 || st = 2 then (s.setSlate { s.slate with downWanted := true }).panelDown else s

/-- PANEL_TYPE (R519): through power-down and power-up. -/
def State.effPanelType (s : State) : State :=
  let st := s.rd E.Slate.PANEL_STATE
  if s.rd E.Slate.PANEL_TYPE = s.slate.type then s
  else if st = 1 || st = 2 then (s.setSlate { s.slate with downWanted := true, upWanted := true }).panelDown
  else if st = 0 then (s.setSlate { s.slate with upWanted := true }).afterSeq
  else s.afterSeq

/-- SLATE_RAIL_FAULT (R527): a rail and its voltage. -/
def State.panelRailFault (s : State) (rail volts : Nat) : State :=
  let st := s.rd E.Slate.PANEL_STATE
  if st = 0 || st = 4 || s.slate.type = 0 then s
  else
    let steps := s.failSteps
    let s := (s.log 0x0C 0x03 (vU8 rail ++ vF32 volts)).setPanel 4
    let s := (s.setSlate { s.slate with downWanted := false, upWanted := false }).cutRunning
    (s.startSeq steps).afterSeq

/-- Power-fail detection (R526, R545). -/
def State.slateFail (s : State) : State :=
  let st := s.rd E.Slate.PANEL_STATE
  if (st != 1 && st != 2) || s.slate.type = 0 then s
  else
    let steps := s.failSteps
    let s := (s.setPanel 3).setSlate { s.slate with downWanted := false, upWanted := false }
    (s.cutRunning).startSeq steps

/-- Slate has ended its power-fail sequence (R549). -/
def State.slateEnded (s : State) : Bool := s.slate.seq.isEmpty

/-- What a reset leaves of Slate: the retained image and the dirty marks in MRAM; keys as they stand. -/
def resetSlate (x : SlateSt) : SlateSt :=
  { retained := x.retained, dirty := x.dirty, allDirty := x.allDirty, keys := x.keys, bothAt := x.bothAt.map (fun _ => 0)
    backAt := x.backAt.map (fun _ => 0) }

/-- A start runs power-up (R526, R533): `bad` says that the retained image fails its CRC-32. -/
def State.slateStart (s : State) (bad : Bool) : State :=
  let x := s.slate
  let x := { x with type := s.rd E.Slate.PANEL_TYPE, current := x.retained }
  let s := s.setSlate (if bad then { x with allDirty := true, dirty := [] } else x)
  if s.on E.Slate.PANEL_ENABLE then s.panelUp else s

/-! ## Updates (R528 to R531, R534) -/

/-- The bytes of a source pixel: 4 for an LCD, else 1. -/
def State.pixelSize (s : State) : Nat := if s.rd E.Slate.PANEL_TYPE = 2 then 4 else 1

/-- The entry that SLATE_DRAW carries, with its pixels (R528, Table SLT-5). -/
def drawOf (b : List Byte) (size : Nat) : SlateUpd :=
  let r : Rect := { x := leAt b 16 2, y := leAt b 18 2, w := leAt b 20 2, h := leAt b 22 2 }
  { kind := leAt b 0 1, wave := leAt b 1 1, id := leAt b 4 4, rect := r, fill := leAt b 24 4
    pixels := if leAt b 0 1 = 1 then (List.range (r.w * r.h)).map (fun k => leAt b (32 + size * k) size) else [] }

/-- SLATE_DRAW is accepted (R528); with panel type NONE no region lies on the panel. -/
def State.chkDraw (s : State) (b : List Byte) : Nat :=
  let size := s.pixelSize
  let e := drawOf (b.take 32) 1
  let n := if e.kind = 1 then 32 + size * e.rect.w * e.rect.h else 32
  firstBad
    [ need (s.rd E.Slate.PANEL_TYPE != 0 && (e.kind == 1 || e.kind == 2) && (size == 4 || e.wave < 2) && e.id != 0
        && 1 ≤ e.rect.w && 1 ≤ e.rect.h && e.rect.x + e.rect.w ≤ s.rd E.Slate.H_ACTIVE && e.rect.y + e.rect.h ≤ s.rd E.Slate.V_ACTIVE
        && b.length == n) stRange
    , need (s.room 44 1) 0x0F ]

/-- SLATE_DRAW places its entry on ring 44. -/
def State.effDraw (s : State) (b : List Byte) : State := s.place 44 (.slate (drawOf b s.pixelSize))

/-- A new rectangle with every pending update that it overlaps, step by step (R531): the rectangle, the rest, the replaced. -/
def coalesce : Nat → Rect → List PanelUpd → List PanelUpd → Rect × List PanelUpd × List PanelUpd
  | 0, r, ps, gone => (r, ps, gone)
  | n + 1, r, ps, gone =>
    let hit := ps.filter (fun p => Rect.overlaps p.rect r)
    if hit.isEmpty then (r, ps, gone)
    else coalesce n (hit.foldl (fun r p => Rect.cover r p.rect) r) (ps.filter (fun p => !Rect.overlaps p.rect r)) (gone ++ hit)

/-- SLATE_UPD_TAKE (R529 to R531): at most 16 updates wait. -/
def State.updTake (s : State) : State :=
  if s.slate.type = 0 || 16 ≤ s.slate.pend.length then s
  else
    match (s.ring 44).q with
    | .slate e :: _ =>
      let s := (s.pop 44).1
      let x := s.slate
      if x.type = 2 then
        (s.setSlate { x with pend := x.pend ++ [{ id := e.id, wave := e.wave, rect := e.rect, src := some e }] }).showSlate
      else
        let (r, rest, gone) := coalesce 16 e.rect x.pend []
        let s := s.setSlate { x with target := paint x.target 3 2 e, shadow := paint x.shadow 3 2 e
                                     pend := rest ++ [{ id := e.id, wave := e.wave, rect := r }] }
        (gone.foldl (fun s p => s.updEnd p.id 1) s).showSlate
    | _ => s

/-- The strip (R534). -/
def State.stripRect (s : State) : Rect := { x := 0, y := s.rd E.Slate.STRIP_Y, w := 800, h := 32 }

/-- A pending update may run: not in service mode, in STANDBY or before a power-down; in STRIP only within the strip. -/
def State.mayRun (s : State) (r : Rect) : Bool :=
  s.panelOn && !s.slate.downWanted && !s.standby && !s.on E.Slate.SERVICE_MODE && (!s.slate.strip || Rect.within r s.stripRect)

/-- Entry into STRIP and exit from it, once no update runs (R534). -/
def State.settleStrip (s : State) : State :=
  if s.slate.running.isEmpty then s.setSlate { s.slate with strip := s.rd E.Slate.SLATE_MODE == 1 } else s

/-- A pixel of a band that is not marked faulty (R522). -/
def drivable (x : SlateSt) (k : Nat) : Bool := !x.faulty.contains (k / 800 / 64)

/-- A running update commits (R530): CURRENT takes the level driven, the retained image follows, the dirty mark is cleared. -/
def State.updCommit (s : State) (u : RunUpd) : State :=
  let x := s.slate
  let level := fun v => if u.wave = 1 then (if v < 2 then 0 else 3) else v
  let p := fun k => Rect.has u.rect k && drivable x k
  let s := s.setSlate { x with current := copyWhere p level 3 x.current x.latched, retained := copyWhere p level 3 x.retained x.latched
                               dirty := x.dirty.erase u.rect, running := x.running.erase u }
  s.updEnd u.id 0

/-- A pending update starts (R530): LATCHED takes TARGET, and its dirty mark is stored. -/
def State.updStart (s : State) (p : PanelUpd) : State :=
  let x := s.slate
  let band := s.rd E.Slate.TEMP_BAND
  let wave := if x.strip then 1 else p.wave
  s.setSlate (markDirty { x with latched := copyWhere (Rect.has p.rect) id 3 x.latched x.target, pend := x.pend.erase p
                                 running := x.running ++ [{ id := p.id, wave := wave, band := band, left := s.phases band wave, rect := p.rect }] } p.rect)

/-- PHASE_BOUNDARY (R530, R531): running updates end their phase and commit, then pending ones start, the oldest first. -/
def State.phaseBoundary (s : State) : State :=
  let x := s.slate
  let t := s.phaseTime (match x.running with
    | u :: _ => u.band
    | [] => s.rd E.Slate.TEMP_BAND)
  if x.type != 1 || !s.panelOn || s.now < x.phaseAt + t then s
  else
    let s := s.setSlate { x with phaseAt := s.now, running := x.running.map (fun u => { u with left := u.left - 1 }) }
    let s := (s.slate.running.filter (fun u => u.left == 0)).foldl (fun s u => s.updCommit u) s
    let s := s.settleStrip
    let s := s.slate.pend.foldl (fun s p =>
      if s.mayRun p.rect && s.slate.running.length < 8 && !s.slate.running.any (fun u => Rect.overlaps u.rect p.rect) then s.updStart p else s) s
    (s.panelDown).showSlate

/-- LCD_VBLANK (R529): bands that failed are rewritten from the shadow image; the oldest update that may run is written and commits. -/
def State.vblank (s : State) : State :=
  let x := s.slate
  if x.type != 2 || !s.panelOn || s.now < x.blankAt + s.panelFrame then s
  else
    let s := s.setSlate { x with blankAt := s.now, rewrite := []
                                 lcd := copyWhere (fun k => x.rewrite.contains (k / 800 / 64)) id 0 x.lcd x.lcdShadow }
    let s := s.settleStrip
    let s := match s.slate.pend.find? (fun p => s.mayRun p.rect) with
      | some p =>
        let x := s.slate
        let s := match p.src with
          | some e => s.setSlate { x with lcd := paint x.lcd 0 18 e, lcdShadow := paint x.lcdShadow 0 18 e, pend := x.pend.erase p }
          | none => s.setSlate { x with pend := x.pend.erase p }
        s.updEnd p.id 0
      | none => s
    (s.panelDown).showSlate

/-- The word that an LCD shows at pixel `k` (R522, R534): black in a faulty band and outside the live strip; in the strip black or
white. -/
def State.scanned (s : State) (k : Nat) : Nat :=
  let w := s.slate.lcd.fetch 0 k
  if !drivable s.slate k then 0
  else if !s.slate.strip then w
  else if !Rect.has s.stripRect k then 0
  else if 95 ≤ w / 4096 % 64 + w / 64 % 64 + w % 64 then 2 ^ 18 - 1 else 0

/-- The backlight in percent (R534, R536). -/
def State.lightLevel (s : State) : Nat :=
  if !bitOf s.slate.rails 7 || s.standby then 0
  else if s.slate.strip then s.rd E.Slate.STRIP_BACKLIGHT else s.rd E.Slate.BACKLIGHT

/-! ## Bands (R521, R522) -/

/-- BAND_CHECK (R521, R522): `bad` says that the band fails its CRC-32. -/
def State.bandCheck (s : State) (band : Nat) (bad : Bool) : State :=
  let x := s.slate
  if !bad || x.type = 0 || s.rd E.Slate.V_ACTIVE ≤ 64 * band then s
  else
    let recent := (x.repairs.fetch [] band).filter (fun t => s.now ≤ t + 10000000000)
    let dead := decide (2 ≤ recent.length)
    let s := (s.inc E.Slate.CRC_ERRORS).log 0x0C 0x01 (vU8 band ++ vBool dead)
    let inBand := fun k => k / 800 / 64 == band
    let x := { x with repairs := x.repairs.put band ((s.now :: recent).take 2)
                      faulty := if dead && !x.faulty.contains band then x.faulty ++ [band] else x.faulty }
    s.setSlate (if x.type = 2 then { x with rewrite := if x.rewrite.contains band then x.rewrite else x.rewrite ++ [band] }
      else { x with target := copyWhere inBand id 3 x.target x.shadow, current := copyWhere inBand id 3 x.current x.retained })

/-! ## Keys, the strip's idle time, service mode (R391, R534 to R536) -/

/-- The node that a trim applied from the keys names (R390). -/
def keyNode : Nat := 0x40001

/-- Key captures are abandoned (R536). -/
def State.abandonKeys (s : State) : State :=
  let s := (List.range 32).foldl (fun s i => if (s.ain i).capture.any (·.keys) then s.effTrimCapture i 3 keyNode true else s) s
  (List.range 16).foldl (fun s o => if (s.aout o).capture.any (·.keys) then s.effAoTrim o 4 keyNode true else s) s

/-- A key in service mode for an AI channel (R391): UP 0, DOWN 1, ENTER 2, BACK 3. -/
def State.keyAi (s : State) (i key : Nat) : State :=
  let run := fun (s : State) v => if s.chkTrimCapture i v true = 0 then s.effTrimCapture i v keyNode true else s
  match (s.ain i).capture.any (·.keys), key with
  | false, 2 => run s 1
  | true, 2 => run s 2
  | true, 3 => run s 3
  | _, _ => s

/-- A key in service mode for an AO channel (R391, R392): UP and DOWN enter the reading in steps of 0.001 mA. -/
def State.keyAo (s : State) (o key : Nat) : State :=
  let run := fun (s : State) v => if s.chkAoTrim o v true = 0 then s.effAoTrim o v keyNode true else s
  match (s.aout o).capture.filter (·.keys), key with
  | none, 2 => run (s.setSlate { s.slate with reading := 4000 }) 1
  | some _, 0 => s.setSlate { s.slate with reading := s.slate.reading + 1 }
  | some _, 1 => s.setSlate { s.slate with reading := s.slate.reading - 1 }
  | some c, 2 =>
    let s := s.effAoReading o (milli s.slate.reading)
    if c.point = 1 then run (s.setSlate { s.slate with reading := 20000 }) 2 else run s 3
  | some _, 3 => run s 4
  | _, _ => s

/-- A key pressed in service mode: UP and DOWN select the channel while no key capture runs on it. -/
def State.serviceKey (s : State) (key : Nat) : State :=
  let c := s.slate.chan
  let busy := if c < 32 then (s.ain c).capture.any (·.keys) else (s.aout (c - 32)).capture.any (·.keys)
  if !busy && key = 0 then s.setSlate { s.slate with chan := (c + 1) % 48 }
  else if !busy && key = 1 then s.setSlate { s.slate with chan := (c + 47) % 48 }
  else if c < 32 then s.keyAi c key else s.keyAo (c - 32) key

/-- A reported press is counted and stamped (R535). -/
def State.countKey (s : State) (key : Nat) : State :=
  let b := fitTo 0 16 (s.rdB E.Slate.KEY_PRESSES)
  (s.wrB E.Slate.KEY_PRESSES (overlay b (4 * key) (leBytes 4 (min 0xFFFFFFFF (leAt b (4 * key) 4 + 1))))).wrT E.Slate.KEY_LAST_TB3 s.now

/-- One press: consumed in STRIP, used in service mode, else reported; a STANDBY module reports none. -/
def State.pressKey (s : State) (key : Nat) : State :=
  let s := s.setSlate { s.slate with lastPress := s.now }
  if s.standby then s
  else if s.rd E.Slate.SLATE_MODE = 1 then s.wr E.Slate.SLATE_MODE 0
  else if s.on E.Slate.SERVICE_MODE then s.serviceKey key
  else s.countKey key

/-- KEY_PRESS (R535): the debounced levels, bit 0 UP, 1 DOWN, 2 ENTER, 3 BACK. -/
def State.keyPress (s : State) (keys : Nat) : State :=
  let keys := keys % 16
  let old := s.slate.keys
  let both := bitOf keys 2 && bitOf keys 3
  let s := s.setSlate { s.slate with
    keys := keys
    bothAt := if !both then none else if bitOf old 2 && bitOf old 3 then s.slate.bothAt else some s.now
    backAt := if !bitOf keys 3 then none else if bitOf old 3 then s.slate.backAt else some s.now }
  let s := (List.range 4).foldl (fun s k => if bitOf keys k && !bitOf old k then s.pressKey k else s) s
  s.wr E.Slate.KEY_STATE (if s.standby || s.on E.Slate.SERVICE_MODE then 0 else keys)

/-- STRIP_IDLE_EXPIRY (R534). -/
def State.stripIdle (s : State) : State :=
  let t := s.rd E.Slate.STRIP_IDLE
  if t != 0 && s.rd E.Slate.SLATE_MODE = 0 && s.slate.lastPress + 1000000000 * t ≤ s.now then s.wr E.Slate.SLATE_MODE 1 else s

/-- SERVICE_MODE_ENTER (R536): ENTER and BACK held together for 3 s in STOP. -/
def State.serviceEnter (s : State) : State :=
  match s.slate.bothAt with
  | some t =>
    if s.isStop && !s.standby && !s.on E.Slate.SERVICE_MODE && t + 3000000000 ≤ s.now then
      let s := s.setSlate { s.slate with backAt := none, chan := 0, lastPress := s.now }
      (s.wr E.Slate.SERVICE_MODE 1).log 0x0C 0x04 (vBool true)
    else s
  | none => s

/-- Service mode ends. -/
def State.serviceLeave (s : State) : State :=
  if !s.on E.Slate.SERVICE_MODE then s else ((s.wr E.Slate.SERVICE_MODE 0).log 0x0C 0x04 (vBool false)).abandonKeys

/-- SERVICE_MODE_EXIT (R536): BACK held for 3 s, 300 s without a press, or the runtime has left STOP. -/
def State.serviceExit (s : State) : State :=
  let back := match s.slate.backAt with
    | some t => decide (t + 3000000000 ≤ s.now)
    | none => false
  if back || s.slate.lastPress + 300000000000 ≤ s.now || !s.isStop then s.serviceLeave else s

/-! ## Dictionary checks -/

/-- The settings of a write are allowed (Table SLT-7, R520, R524): `k` is the sub-index at 0x7800. -/
def State.chkPanel (s : State) (k v : Nat) : Nat :=
  let div := s.rd E.Slate.PCLK_DIV
  let h := s.rd E.Slate.H_TOTAL
  let w := s.rd E.Slate.V_TOTAL
  need (match k with
    | 0x04 => frameOk v h w
    | 0x05 => s.rd E.Slate.H_ACTIVE + 16 ≤ v && frameOk div v w
    | 0x06 => s.rd E.Slate.V_ACTIVE + 4 ≤ v && frameOk div h v
    | 0x0C => v + 32 ≤ s.rd E.Slate.V_ACTIVE
    | _ => true) stRange

/-- VCOM_POINTS, DRIVE_V, PHASE_TIME and WAVEFORM_SET (R524, R525). -/
def chkPanelTable (k : Nat) (b : List Byte) : Nat :=
  need (match k with
    | 0x04 => floatsOk b 5 0x40200000 0x40B00000
    | 0x06 => floatsOk b 8 0x41200000 0x41800000
    | 0x07 => (List.range 8).all (fun j => 10 ≤ leAt b (2 * j) 2 && leAt b (2 * j) 2 ≤ 60)
    | 0x08 => waveformOk b
    | _ => true) stRange

/-- RESET_STATS of the panel. -/
def State.effPanelStats (s : State) : State := s.clear [E.Slate.REPLACED_COUNT, E.Slate.CRC_ERRORS]

/-! ## Commands -/

/-- SLATE_UPD_TAKE (R530). -/
def execSlateUpdTake (at_ : Nat) (s : State) : Result := .next ((s.advance at_).updTake)
/-- LCD_VBLANK (R529). -/
def execLcdVblank (at_ : Nat) (s : State) : Result := .next ((s.advance at_).vblank)
/-- PHASE_BOUNDARY (R530). -/
def execPhaseBoundary (at_ : Nat) (s : State) : Result := .next ((s.advance at_).phaseBoundary)
/-- PANEL_TEMP_READ (R523). -/
def execPanelTempRead (at_ : Nat) (ntc : Option Nat) (s : State) : Result := .next ((s.advance at_).panelTemp ntc)
/-- BAND_CHECK (R522). -/
def execBandCheck (at_ band : Nat) (bad : Bool) (s : State) : Result := .next ((s.advance at_).bandCheck band bad)
/-- SLATE_RAIL_FAULT (R527). -/
def execSlateRailFault (at_ rail volts : Nat) (s : State) : Result := .next ((s.advance at_).panelRailFault rail volts)
/-- STRIP_IDLE_EXPIRY (R534). -/
def execStripIdleExpiry (at_ : Nat) (s : State) : Result := .next ((s.advance at_).stripIdle)
/-- KEY_PRESS (R535). -/
def execKeyPress (at_ : Nat) (keys : Nat) (s : State) : Result := .next ((s.advance at_).keyPress keys)
/-- SERVICE_MODE_ENTER (R536). -/
def execServiceModeEnter (at_ : Nat) (s : State) : Result := .next ((s.advance at_).serviceEnter)
/-- SERVICE_MODE_EXIT (R536). -/
def execServiceModeExit (at_ : Nat) (s : State) : Result := .next ((s.advance at_).serviceExit)

end Sys2Proof.Machine
end

