-- ==== Sys2Proof/Machine/Power.lean ====
section
/-!
DEFINITION. Machine/Power.lean: supply, power failure, resets and starts (R539 to R566), the restore of retained settings (R53 to R55,
R582), firmware slots (R554 to R556), restart kinds (R560, R561) and what else a start does in every unit.
-/
namespace Sys2Proof.Machine

/-! ## Retained settings (R53 to R55, R582) -/

/-- The key of a RETAINED entry. -/
def retainedKey (key : Nat) : Bool :=
  match tableRow key with
  | some (r, _) => r.ret == .retained
  | none => (bankKey key).isSome

/-- The keys of the bank parameters that the archive's loops have (R246). -/
def bankKeys (a : Archive) : List Nat :=
  a.loops.flatMap (fun d => [0, 1].flatMap (fun b => d.stages.zipIdx.flatMap (fun g =>
    (List.range (stageParams g.1.code)).map (fun k => (0x4400 + 2 * d.id + b) * 256 + 1 + 10 * g.2 + k))))

/-- Every RETAINED entry of the running release (R582). -/
def State.retainedKeys (s : State) : List Nat :=
  tables.flatMap tableKeys ++ (match s.rt.archive with
    | some a => bankKeys a
    | none => [])

/-- Blocks whose copies the start finds with a wrong CRC-32 lose them (R54). -/
def readBlocks (m : SMap Block) (badX badY : List Nat) : SMap Block :=
  (List.range 512).foldl (fun m b =>
    if badX.contains b || badY.contains b then
      m.modify {} b (fun k => { x := if badX.contains b then { ok := false } else k.x, y := if badY.contains b then { ok := false } else k.y })
    else m) m

/-- An entry of block `b` has no value: the block was lost and nothing has written it since (R54). -/
def missing (m : SMap Block) (b key : Nat) : Bool :=
  (blocksOf key).contains b && (((m.fetch {} b).newest.getD {}).cells.find key).isNone

/-- The blocks that are invalid at this start (R54): lost now, or lost before with an entry still unwritten. -/
def State.lostBlocks (s : State) (m : SMap Block) : List Nat :=
  (List.range 512).filter (fun b => (m.fetch {} b).newest.isNone || (s.eop.invalid.contains b && s.retainedKeys.any (missing m b)))

/-- Every block is restored from its newer valid copy (R54); an entry of several blocks only where each of them restores (R582). An
entry that this leaves invalid acts as its default (log 166). -/
def State.restoreBlocks (s : State) : State :=
  let s := { s with od := s.od.keep (fun k => !retainedKey k) }
  s.blocks.cells.foldl (fun s b => match b.2.newest with
    | some c => c.cells.cells.foldl (fun s x =>
        if (blocksOf x.1).all (fun j => (s.blocks.fetch {} j).newest.isSome) then s.putKey x.1 x.2 else s) s
    | none => s) s

/-- Release `now` takes an entry from a block that release `rel` wrote last (R582): the same release; a release of the same major that
defines the entry; else one that has the entry with its type. -/
def keptFrom (rel now key : Nat) : Bool :=
  rel == now || (if rel / 256 = now / 256 then decide (Config.addedIn key ≤ rel % 256) else Config.unchangedSince (rel / 256) key)

/-- The running release restores what the release that wrote each block gave it; after a new major release the blocks are converted to
its layout (R582). -/
def State.convertBlocks (s : State) : State :=
  let now := s.rd E.Id.FW_RELEASE
  let from_ := fun b => ((s.blocks.fetch {} b).newest.map (·.release)).getD now
  let kept := fun k => (blocksOf k).all (fun b => keptFrom (from_ b) now k)
  let s := { s with od := s.od.keep (fun k => !retainedKey k || kept k) }
  { s with blocks := { cells := s.blocks.cells.map (fun (b : Nat × Block) => match b.2.newest with
      | some c =>
        if c.release / 256 = now / 256 then b
        else
          let d : BlockCopy := { gen := (c.gen + 1) % 2 ^ 32, release := now, cells := c.cells.keep kept }
          (b.1, if b.2.x.ok && (!b.2.y.ok || b.2.y.gen ≤ b.2.x.gen) then { b.2 with y := d } else { b.2 with x := d })
      | none => b) } }

/-- RETAINED_RESTORE (R54). -/
def State.retainedRestore (s : State) (badX badY : List Nat) (factory : Bool) : State :=
  let m := readBlocks s.blocks badX badY
  let lost := s.lostBlocks m
  let s := ({ s with blocks := m, eop := { s.eop with invalid := lost } }).restoreBlocks
  let s := lost.foldl (fun s b => s.log 0x01 0x03 (vU16 b)) s
  (s.wr E.Restore.INVALID_BLOCKS lost.length).wr E.Restore.RESTORE_STATE (if !lost.isEmpty then 1 else if factory then 2 else 0)

/-- A block with every entry but the keys at 0x1100 back at its default, in both copies (R55). -/
def factoryBlock (b : Block) : Block :=
  let c := b.newest.getD {}
  let c : BlockCopy := { gen := (c.gen + 1) % 2 ^ 32, release := c.release, cells := c.cells.keep (fun k => k / 256 == 0x1100) }
  { x := c, y := c }

/-- RESTORE_FACTORY resets every RETAINED entry to its default (R55). -/
def State.factoryReset (s : State) : State :=
  { s with blocks := { cells := (s.blocks.cells.map (fun (b : Nat × Block) => (b.1, factoryBlock b.2))) }
           od := s.od.keep (fun k => !retainedKey k || k / 256 == 0x1100), eop := { s.eop with invalid := [] } }

/-! ## Resets -/

/-- Keys of the output latches on the field side. -/
def latchKeys : List Nat := (List.range 64).map (fun o => (E.Do.DO_COMMANDED o).key) ++ (List.range 16).map (fun o => (E.Ao.AO_COMMANDED o).key)

/-- The field side through a reset of the logic side that does not take its supply; TB3 starts again from 0. -/
def fieldThrough (f : FieldSt) : FieldSt :=
  { f with enable := false, resume := false, lastValid := 0, enableAt := 0, bypassOpen := false, diagOut := [], motionOut := [], shown := {}, resets := []
           di := { cells := f.di.cells.map (fun (c : Nat × DiSt) => (c.1, { c.2 with first := 0, changedAt := 0 })) }
           dout := { cells := f.dout.cells.map (fun (c : Nat × DoSt) => (c.1, { c.2 with changedAt := 0, tripAt := 0 })) }
           ai := { cells := f.ai.cells.map (fun (c : Nat × AiSt) => (c.1, { c.2 with
             peak := [], shortAt := c.2.shortAt.map (fun _ => 0), offAt := c.2.offAt.map (fun _ => 0), overAt := none, stepAt := 0
             capture := none })) }
           ao := { cells := f.ao.cells.map (fun (c : Nat × AoSt) => (c.1, { c.2 with capture := none })) } }

/-- The safety functions through a reset: the stored set, and what the field safety sections hold. -/
def safetyThrough (x : SafetySt) : SafetySt :=
  { copies := x.copies, backup := x.backup, tpFault := x.tpFault
    sb := { cells := x.sb.cells.map (fun (c : Nat × SbSt) => (c.1, { diagX := c.2.diagX, diagY := c.2.diagY, fault := c.2.fault })) } }

/-- The logic side is reset and a start with `cause` is due (Table PWR-10); `lost` says that the module's supply is gone, and the
field side with it. TOKEN stops, TB3 starts again from 0, and only MRAM, flash and what the field side holds survive (R26, R268,
R475, R542). -/
def State.logicReset (s : State) (cause : Nat) (lost : Bool) : State :=
  let s := (s.stopToken false).fieldOff
  { now := 0
    od := s.od.keep (fun k => retainedKey k || (!lost && latchKeys.contains k))
    blocks := s.blocks, freeCtr := s.freeCtr, odStatus := s.odStatus, odValue := s.odValue
    eop := { invalid := s.eop.invalid }
    rt := { archive := s.rt.archive, kept := s.rt.kept, previous := s.rt.previous, staging := s.rt.staging, retained := s.rt.retained, retInsts := s.rt.retInsts }
    frame := { flash := s.frame.flash }
    ledger := { s.ledger with dropped := 0, staged := 0, clock := none, recent := [] }
    field := if lost then {} else fieldThrough s.field
    safety := if lost then { copies := s.safety.copies, backup := s.safety.backup } else safetyThrough s.safety
    twin := if lost then {} else { held := s.twin.held, seenLogic := s.twin.seenLogic, seenField := s.twin.seenField }
    slate := resetSlate s.slate
    power := { supplied := !lost, boot := some cause, kept := s.power.kept, slots := s.power.slots, fuse := s.power.fuse
               raises := s.power.raises, trial := s.power.trial, half0 := s.power.half0, half1 := s.power.half1
               clockBad := s.power.clockBad, hot := s.power.hot }
    pending := s.pending }

/-- Every entry of ring 28 is committed before a commanded restart (R508). -/
def State.settleLog (s : State) : State := (State.takeLogs (s.fill 28) s).showLedger

/-- An event that ends in a reset is kept for the next start (R565). -/
def State.keepEvent (s : State) (event : Nat) (payload : List Byte) : State :=
  { s with power := { s.power with kept := s.power.kept ++ [{ source := 0x0B, event := event, payload := payload, tb3 := s.now }] } }

/-! ## Firmware slots (R554 to R556) -/

/-- Slot `k` of firmware: 0 A, 1 B. -/
def State.slot (s : State) (k : Nat) : FwSlot := s.power.slots.fetch {} k

/-- A slot replaced. -/
def State.setSlot (s : State) (k : Nat) (x : FwSlot) : State := { s with power := { s.power with slots := s.power.slots.store {} k x } }

/-- The slot that the module does not run from. -/
def State.otherSlot (s : State) : Nat := 1 - s.rd E.Start.FW_ACTIVE_SLOT

/-- FW_STAGE_DATA fits its slot of 256 MiB. -/
def State.chkFwData (s : State) (n : Nat) : Nat := need (s.rd E.Start.FW_STAGE_OFFSET + n ≤ 268435456) stRange

/-- FW_STAGE_DATA (R556). -/
def State.effFwData (s : State) (b : List Byte) : State :=
  let k := s.otherSlot
  let off := s.rd E.Start.FW_STAGE_OFFSET
  let s := s.setSlot k { bytes := (s.slot k).bytes.writeList off b, state := 2 }
  (s.wr E.Start.FW_STAGE_OFFSET (off + b.length)).wr E.Start.FW_STAGE_RESULT 0xFF

/-- The first check of R554 that an image fails (Table PWR-15, log 36): 0 VALID. -/
def fwCheck (img : Option FwImage) (fuse : Nat) : Nat :=
  match img with
  | none => 1
  | some f => if !f.key then 2 else if !f.signature then 3 else if f.security < fuse then 4 else 0

/-- FW_STAGE_CHECK verifies the inactive slot (R556). -/
def State.effFwCheck (s : State) (v : Nat) : State :=
  if v = 0 then s
  else
    let k := s.otherSlot
    let x := s.slot k
    let n := match x.bytes.cells.getLast? with
      | some c => c.1 + 1
      | none => 0
    let img := Config.fwReading (x.bytes.readList 0 n)
    let r := fwCheck img s.power.fuse
    let f := img.getD {}
    let s := s.setSlot k (if r = 0 then { x with state := 1, release := f.release, security := f.security } else { x with state := 2, release := 0 })
    s.wr E.Start.FW_STAGE_RESULT r

/-- FW_ACTIVATE needs STOP, which maintenance counts as (R480), a VALID stage, and the nonce (R556). -/
def State.chkFwActivate (s : State) (v : Nat) : Nat :=
  firstBad [need ((s.isStop || s.twin.maintenance) && s.rd E.Start.FW_STAGE_RESULT == 0 && (s.slot s.otherSlot).state == 1) stMode,
    need (v == s.rd E.Start.FW_NONCE) stRange]

/-- FW_ACTIVATE (R556): FIRMWARE_CHANGE is recorded and the module makes a cold start into the new slot as a trial. -/
def State.effFwActivate (s : State) : State :=
  let k := s.otherSlot
  let x := s.slot k
  let s := ((s.log 0x01 0x05 (vU8 k ++ vU16 x.release)).settleLog).setSlot k { x with state := 3 }
  let s := s.wrR E.Start.FW_ACTIVE_SLOT k
  ({ s with power := { s.power with trial := some k } }).logicReset 6 false

/-- Slot `k` holds an image that R554 accepts, and no failed trial. -/
def State.slotOk (s : State) (k : Nat) (bad : Bool) : Bool :=
  let x := s.slot k
  !bad && (x.state == 1 || x.state == 3) && s.power.fuse ≤ x.security

/-- Boot (R555): the slot that the start uses, none where neither verifies; a trial that the last start did not confirm has failed. -/
def State.bootSlot (s : State) (cause : Nat) (badA badB : Bool) : State × Option Nat :=
  let s := match s.power.trial with
    | some k =>
      if cause = 6 then s
      else { (s.setSlot k { s.slot k with state := 2 }) with power := { (s.setSlot k { s.slot k with state := 2 }).power with trial := none } }
    | none => s
  let k := s.rd E.Start.FW_ACTIVE_SLOT
  let bad := fun n => if n = 0 then badA else badB
  if s.slotOk k (bad k) then (s, some k)
  else if s.slotOk (1 - k) (bad (1 - k)) then (s, some (1 - k))
  else (s, none)

/-- A trial is confirmed as MODULE_STATE becomes OPERATING within 120 s (R556); the fuse minimum is raised at most 32 times. -/
def State.confirmTrial (s : State) : State :=
  match s.power.trial with
  | some k =>
    if !s.operating || 120000000000 < s.now then s
    else
      let x := s.slot k
      let up := s.power.fuse < x.security && s.power.raises < 32
      let s := s.setSlot k { x with state := 1 }
      { s with power := { s.power with trial := none, fuse := if up then x.security else s.power.fuse
                                       raises := if up then s.power.raises + 1 else s.power.raises } }
  | none => s

/-- TRIAL_TIMEOUT (R556): the image of a trial not confirmed within 120 s is not used again. -/
def State.trialTimeout (s : State) : State :=
  match s.power.trial with
  | some k => if s.power.boot.isSome || s.now < 120000000000 then s else s.setSlot k { s.slot k with state := 2 }
  | none => s

/-! ## The power-fail checkpoint (R548, R561) -/

/-- Size of one half of the partition. -/
def halfSize : Nat := 7340032

/-- The newest checkpoint, and whether the second half holds it. -/
def State.newestHalf (s : State) : Option (PfCkpt × Bool) :=
  match s.power.half0, s.power.half1 with
  | none, none => none
  | some a, none => some (a, false)
  | none, some b => some (b, true)
  | some a, some b => if genFollows a.gen b.gen then some (a, false) else some (b, true)

/-- PF_CHECKPOINT (R548): into the half that does not hold the newest valid checkpoint. -/
def State.pfCheckpoint (s : State) : State :=
  match s.power.failAt with
  | none => s
  | some t =>
    if s.power.ckptDone || s.standby || s.power.boot.isSome then s
    else
      let s := { s with power := { s.power with ckptDone := true } }
      let size := s.rd E.Pwr.PF_CKPT_SIZE
      let (g, second) := match s.newestHalf with
        | some (c, b) => ((c.gen + 1) % 2 ^ 32, !b)
        | none => (1, false)
      if halfSize < size then (s.wr E.Pwr.PF_CKPT_STATE 2).log 0x0B 0x02 (vBool false ++ vU32 size ++ vU32 0)
      else
        let c : PfCkpt := { gen := g, archive := s.rd E.Online.ARCHIVE_ID, release := s.rd E.Id.FW_RELEASE
                            node := s.rd E.Id.NODE_ID_ACTIVE, saved := s.capture t }
        let s := { s with power := if second then { s.power with half1 := some c } else { s.power with half0 := some c } }
        (s.wr E.Pwr.PF_CKPT_STATE 1).log 0x0B 0x02 (vBool true ++ vU32 size ++ vU32 g)

/-- The checkpoint that a checkpoint restart uses (R561). -/
def State.restartFrom (s : State) (ok : Bool) : Option PfCkpt :=
  match s.newestHalf with
  | some (c, _) =>
    if ok && s.on E.Pwr.PF_CKPT_ENABLE && !c.consumed && c.archive == s.rd E.Online.ARCHIVE_ID && c.release == s.rd E.Id.FW_RELEASE
      && c.node == s.rd E.Id.NODE_ID_ACTIVE && s.eop.invalid.isEmpty then some c else none
  | none => none

/-! ## The start (Table PWR-8) -/

/-- Every nonce and challenge is new at a start. -/
def State.renewNonces (s : State) : State :=
  let s := (((s.renew E.Restore.RESTORE_NONCE).renew E.Online.APPLY_NONCE).renew E.Frame.LOAD_NONCE).renew E.Castle.CASTLE_NONCE
  ((s.renew E.Ldg.LEDGER_NONCE).renewB E.Ldg.CLEAR_CHALLENGE 16).renew E.Start.FW_NONCE

/-- STARTUP_INJECTION_TEST (R142 to R144): `tests` lists the pairs that fail. -/
def State.startTests (s : State) (tests : List (Nat × InjectFail)) : State :=
  (List.range 4).foldl (fun s d =>
    let r := (tests.find? (fun t => t.1 == d)).map (·.2)
    let s := s.noteInject d r
    match r with
    | none => s.wr (E.Dbl.PAIR_STATE d) 1
    | some _ => ((s.wr (E.Dbl.PAIR_STATE d) 3).wr (E.Dbl.FAIL_CAUSE d) 1).log 0x04 0x04 (vU8 d ++ vU8 1)) s

/-- The START record of the restart cause `cause` (R111, R517). -/
def State.startRecord (s : State) (cause : Nat) : LogEntry :=
  { source := 0x0F, event := 0x01, tb3 := s.now
    payload := vU32 (s.rd E.Start.START_COUNT) ++ vU8 cause ++ vU16 (s.rd E.Id.FW_RELEASE) ++ vU8 (s.rd E.Id.HW_ISSUE) ++ vU32 (s.rd E.Id.NODE_ID_ACTIVE) }

/-- Records stand at the head of ring 28, which keeps its depth (R111). -/
def State.headRecords (s : State) (es : List LogEntry) : State :=
  s.setRing 28 { s.ring 28 with q := (es.map RingEntry.log ++ (s.ring 28).q).take (ringDepth 28) }

/-- The records staged through the reset are recovered, and those of the power unit are taken over (R111, R565). -/
def State.recoverRecords (s : State) (size : Nat) : State :=
  { s with power := { s.power with kept := [] }
           ledger := { s.ledger with staged := s.ledger.staged + size, recovered := sumNat (s.ledger.buffer.map (·.2)), buffer := [] } }

/-- The START record comes first on ring 28; events kept through the reset and the forces found active follow (R111, R517, R565). -/
def State.startRecords (s : State) (cause : Nat) : State :=
  let es := s.startRecord cause :: s.power.kept
  let s := ((s.headRecords es).noteFill 28).recoverRecords (sumNat (es.map (fun k => k.payload.length)))
  ((List.range 240).filter (fun f => s.on (E.Force.FORCE_ACTIVE f))).foldl (fun s f =>
    s.logForce (s.forcePoint f) (s.rd (E.Force.FORCE_SET_BY f))) s

/-- The archive in flash becomes the running one, with its loops' banks as they were restored (R102, R258). -/
def State.startArchive (s : State) (a : Archive) : State :=
  let s := ((s.installTasks a false).installVars a false)
  let s := a.loops.foldl (fun s d => s.installLoop d) s
  let s := (s.wr E.Tally.LOOPS_DEFINED a.loops.length).wrB E.Tally.PIPE_PEAK ((List.range 4).flatMap (fun p => leBytes 2 (pipePeak a p)))
  ((s.wr E.Online.ARCHIVE_ID a.id).wr E.Saf.SAFETY_PAIRS (a.safePairs.1 + 16 * a.safePairs.2)).firstTurns

/-- An archive that a start finds in flash starts, unless it was built for another major release (R9, R556): then the module records
the rejection and runs none. -/
def State.startRelease (s : State) (a : Archive) : State :=
  if a.release / 256 = s.rd E.Id.FW_RELEASE / 256 then
    { s with rt := { s.rt with archive := some a, refused := none } }.startArchive a
  else { s with rt := { s.rt with archive := none, refused := some a } }.rejectArchive a 2

/-- Steps 7 and 8: the program's state under the restart kind (Table PWR-9), boards, the safety parameter set. A cold start gives the
program its initial values and leaves the partition of retained variables to the next commit (R55, R560). -/
def State.startProgram (s : State) (cold : Bool) (ckpt : Option PfCkpt) (restoreAt : Nat) (archiveOk : Bool) : State :=
  let kept := s.rt
  let s := if cold then { s with rt := { s.rt with retained := {}, retInsts := {} } } else s
  let s := if archiveOk then s else { s with rt := { s.rt with archive := none } }
  let s := match s.rt.archive.orElse (fun _ => s.rt.refused) with
    | some a => if archiveOk then s.startRelease a else s
    | none => s
  let s := if cold then { s with rt := { s.rt with retained := kept.retained, retInsts := kept.retInsts } } else s
  let s := s.frameReload
  let s := match s.safety.stored with
    | some (p, crc) => ({ s with safety := { s.safety with set := some p } }).showSet p crc
    | none => s
  match ckpt with
  | some c => { (s.restore c.saved ((restoreAt : Int) - c.saved.stamp) 2) with power := { s.power with resuming := true } }
  | none => s

/-- MODULE_STATE at step 8: RESTORE_FAULT, SAFE_STATE with a failed pair or an invalid base, or OPERATING (R54, R144, R472). -/
def State.startState (s : State) : State :=
  let failed := (List.range 4).any (fun d => s.rd (E.Dbl.PAIR_STATE d) == 3)
  if failed then ((s.wr E.Run.RUNTIME_MODE 1).enterSafe 4).servicesTakeover
  else if s.rd E.Twin.TWIN_POSITION = 3 then (s.wr E.Run.RUNTIME_MODE 1).enterSafe 5
  else if !s.eop.invalid.isEmpty then
    (((s.wr E.Run.RUNTIME_MODE 1).wr E.Run.STOP_CAUSE 6).wr E.Id.MODULE_STATE 2).safeOutputs
  else s.wr E.Id.MODULE_STATE 1

/-- Step 10 (R472, R473, R477). -/
def State.startRole (s : State) : State :=
  let pos := s.rd E.Twin.TWIN_POSITION
  if pos = 0 then s.becomeActive
  else if pos = 3 || s.rd E.Id.MODULE_STATE = 3 then s
  else
    let s := { s with twin := { s.twin with listen := some s.now } }
    if s.twin.seenLogic || s.twin.seenField then s.becomeStandby else s

/-- Causes of a cold start (Table PWR-9). -/
def coldCause (c : Nat) : Bool := [4, 5, 6, 0x0C].contains c

/-- A start from which neither slot verifies: the boot controller serves J16 alone (R555). -/
def State.startBare (s : State) (cause : Nat) : State :=
  let s := { s with power := { s.power with boot := none, bare := true } }
  ((s.wr E.Id.RESTART_CAUSE cause).renewNonces).wr E.Start.START_STEP 5

/-- The firmware of slot `k` runs after a reset with cause `c`: identity, cause and, after a fallback, its record (R555, R562, R565). -/
def State.startSlot (s : State) (c k : Nat) (fallback : Bool) (i : StartIn) : State :=
  let s := { s with power := { s.power with boot := none, bare := false } }
  let s := (((s.wr E.Id.FW_RELEASE (s.slot k).release).wr E.Id.NODE_ID_ACTIVE (s.rd E.Id.NODE_ID)).wr E.Id.RESTART_CAUSE c).wr
    E.Twin.TWIN_POSITION i.base.val
  let s := s.convertBlocks
  if fallback then ((s.incR E.Start.FW_FALLBACKS).wrR E.Start.FW_ACTIVE_SLOT k).log 0x0B 0x08 (vU8 k ++ vU16 (s.slot k).release ++ vBool true) else s

/-- The count of starts, the self-tests and the archive found (R557). -/
def State.startChecks (s : State) (i : StartIn) : State :=
  let s := ((s.incR E.Start.START_COUNT).renewNonces).startTests i.tests
  let s := { s with twin := { s.twin with selfTest := i.tests.isEmpty && i.fieldOk } }
  s.wr E.Online.ARCHIVE_ID (match s.rt.archive with
    | some a => if i.archiveOk then a.id else 0
    | none => 0)

/-- The checkpoint from which this start may restore, and what PF_CKPT_STATE shows of it (R561). -/
def State.startCkpt (s : State) (i : StartIn) : State :=
  s.wr E.Pwr.PF_CKPT_STATE (match s.newestHalf with
    | some (k, _) => if !i.ckptOk then 0 else if k.consumed then 3 else 1
    | none => 0)

/-- Steps 8 to 10: the safety functions, the program, the field, the panel and the role. -/
def State.startFunctions (s : State) (restored : Bool) (i : StartIn) : State :=
  let s := (((List.range 3).foldl State.startInstance s.startState).noteEcxCheck).wr E.Start.START_STEP 8
  let s := if i.fieldOk then s else s.safetyFail 4
  let s := if s.operating then s.safetyConfigure else s
  let s := if s.operating && !restored && s.on E.Run.AUTOSTART && s.rt.archive.isSome then s.enterRun else s
  let s := if s.field.hold || s.field.silence then s else s.enterSilence
  let s := ((s.slateStart i.imageBad).wr E.Start.START_STEP 9).startRole
  (s.confirmTrial).ledgerSlice

/-- START (R557): from the reset with cause `c` to step 10. -/
def State.startWith (s : State) (c : Nat) (i : StartIn) : State :=
  let b := (s.retainedRestore i.badX i.badY (c == 5)).netInForce.bootSlot c i.badA i.badB
  match b.2 with
  | none => b.1.startBare c
  | some k =>
    let fallback := k != b.1.rd E.Start.FW_ACTIVE_SLOT
    let c := if fallback then 0x0C else c
    let cold := coldCause c || b.1.rd E.Start.START_COUNT == 0
    let s := (b.1.startSlot c k fallback i).startChecks i
    let ckpt := if (c == 1 || c == 2) && !cold && i.tests.isEmpty && i.base.val != 3 then s.restartFrom i.ckptOk else none
    let s := ((s.startCkpt i).wr E.Start.RESTART_KIND (if cold then 0 else if ckpt.isSome then 2 else 1)).wr E.Run.RUNTIME_MODE 1
    ((s.startRecords c).startProgram cold ckpt i.restoreAt i.archiveOk).startFunctions ckpt.isSome i

/-- START: nothing starts without supply, with a faulty clock, too hot, or after a power failure. -/
def State.startUp (s : State) (i : StartIn) : State :=
  match s.power.boot with
  | some c => if !s.power.supplied || s.power.clockBad || s.power.hot || s.power.failAt.isSome then s else s.startWith c i
  | none => s

/-! ## SUP (R539 to R545) -/

/-- A voltage at SUP is measured (Table PWR-14). -/
def State.measureSup (s : State) (v : Nat) : State :=
  let s := s.wr E.Pwr.SUP_VOLTAGE v
  let s := if s.rd E.Pwr.SUP_MIN = 0 || fmt32.lt v (s.rd E.Pwr.SUP_MIN) then s.wr E.Pwr.SUP_MIN v else s
  if fmt32.lt (s.rd E.Pwr.SUP_MAX) v then s.wr E.Pwr.SUP_MAX v else s

/-- SUP_STATE takes a value, recorded (R541, R565). -/
def State.setSup (s : State) (st v : Nat) : State := (s.wr E.Pwr.SUP_STATE st).log 0x0B 0x01 (vU8 st ++ vF32 v)

/-- 18.0 V, 32.0 V and 16.5 V. -/
def supLow : Nat := 0x41900000
/-- 32.0 V. -/
def supHigh : Nat := 0x42000000
/-- 16.5 V. -/
def supFail : Nat := 0x41840000

/-- SUP_LOW (R541). -/
def State.supLow (s : State) (v : Nat) : State :=
  let st := s.rd E.Pwr.SUP_STATE
  if !s.power.supplied || !fmt32.lt v Sys2Proof.Machine.supLow || st = 1 || st = 3 then s else (s.measureSup v).setSup 1 v

/-- SUP_HIGH (R541). -/
def State.supHigh (s : State) (v : Nat) : State :=
  let st := s.rd E.Pwr.SUP_STATE
  if !s.power.supplied || !fmt32.lt Sys2Proof.Machine.supHigh v || st = 2 || st = 3 then s else (s.measureSup v).setSup 2 v

/-- SUP_NORMAL (R541). -/
def State.supNormal (s : State) (v : Nat) : State :=
  let st := s.rd E.Pwr.SUP_STATE
  let ok := fmt32.le Sys2Proof.Machine.supLow v && fmt32.le v Sys2Proof.Machine.supHigh
  if !s.power.supplied || !ok || (st != 1 && st != 2) then s else (s.measureSup v).setSup 0 v

/-- POWER_ON (R557): SUP has been within range for 10 ms; the field side comes up in its start hold. -/
def State.powerOn (s : State) : State :=
  if s.power.supplied then s
  else { (s.logicReset 1 true) with power := { (s.logicReset 1 true).power with supplied := true }, field := { powered := true } }

/-- HOLDUP_CHARGED (R543): the measured energy in J. -/
def State.holdup (s : State) (energy : Nat) : State :=
  if !s.power.supplied || s.power.failAt.isSome then s
  else
    let s := s.wr E.Pwr.HOLDUP_ENERGY energy
    if fmt32.lt energy 0x40900000 then (s.wr E.Pwr.HOLDUP_STATE 2).log 0x0B 0x07 (vU8 2 ++ vF32 energy) else s.wr E.Pwr.HOLDUP_STATE 1

/-- The Frame stops at once; a running solve ends with no outcome (R545). -/
def State.stopFrame (s : State) : State :=
  { s with frame := { s.frame with boards := { cells := s.frame.boards.cells.map (fun (c : Nat × Board) => (c.1, { c.2 with run := none })) } } }

/-- POWER_FAIL (R544, R545, R585): SUP below 16.5 V for 100 µs, and the sequence runs to its end. -/
def State.powerFail (s : State) (v : Nat) : State :=
  if !s.power.supplied || s.power.failAt.isSome || !fmt32.lt v supFail then s
  else
    let fill := s.fill 28
    let ready := s.partnerReady && s.twinBase
    let s := { (s.measureSup v) with power := { s.power with failAt := some s.now } }
    let s := ((s.stopFrame).slateFail).shedField.brakesOff
    let s := if ready then s.stopToken false else s
    let s := if s.power.boot.isSome || s.standby then s else s.commitRec 0x0F 0x07 s.now (vU16 fill)
    let s := (s.incR E.Pwr.POWER_FAILS).setSup 3 v
    (s.storeLoops).showLedger

/-- POWER_FAIL_REDUCE (R546, R94): running turns are abandoned, PHYs, Twin Link and CAN transceivers go down. -/
def State.powerReduce (s : State) : State :=
  match s.power.failAt with
  | none => s
  | some t =>
    if s.power.reduced || s.now < t + 2000000 then s
    else
      let s := { (s.abandonWhere (fun _ => true)) with power := { s.power with reduced := true } }
      let s := (List.range 4).foldl (fun s p => s.linkChange p 0 0) s
      let s := (List.range 4).foldl (fun s c => (s.setChan c { s.chan c with inTx := none }).modeEffect c) s
      { s with twin := { s.twin with laneA := false, laneB := false } }.showLink false

/-- SUP has returned: after the checkpoint and the end of Slate's sequence the module resets itself (R549). -/
def State.returnReset (s : State) : State :=
  match s.power.failAt with
  | none => s
  | some t =>
    if !s.power.supBack || !(s.power.ckptDone || s.standby || s.power.boot.isSome) || !s.slateEnded then s
    else (s.keepEvent 0x03 (vU32 ((s.now - t) / 1000000))).logicReset 2 false

/-- SUP_RETURNED (R549): SUP has been within its range for 100 ms. -/
def State.supReturned (s : State) : State :=
  if s.power.failAt.isNone then s else { s with power := { s.power with supBack := true } }.returnReset

/-- STORE_DEPLETED (R547, R549): the module powers down. -/
def State.storeDepleted (s : State) : State := if s.power.failAt.isNone then s else s.logicReset 1 true

/-! ## Faults that reset, temperature, hours (R542, R553, R563) -/

/-- RAIL_FAULT (R542): rails that the power-fail sequence sheds or discharges do not count. -/
def State.railFault (s : State) (rail volts : Nat) : State :=
  if !s.power.supplied || 7 < rail || (5 ≤ rail && s.power.failAt.isSome) then s
  else
    let s := (s.keepEvent 0x04 (vU8 rail ++ vF32 volts)).logicReset 0x0A false
    s.wr E.Pwr.RAIL_STATE (2 ^ rail)

/-- CLOCK_FAULT (R553): 0 TCXO, 1 PLL lock; `present` false is the end of the fault. -/
def State.clockFault (s : State) (kind : Nat) (present : Bool) : State :=
  if !s.power.supplied then s
  else if !present then ({ s with power := { s.power with clockBad := false } }).wr E.Pwr.CLOCK_STATE 0
  else
    let s := ((s.incR E.Pwr.CLOCK_FAULTS).keepEvent 0x05 (vU8 (min 1 kind))).logicReset 9 false
    ({ s with power := { s.power with clockBad := true } }).wr E.Pwr.CLOCK_STATE (min 1 kind + 1)

/-- THERMAL (R563): the junction above 125 °C resets; below 100 °C the next start goes on. -/
def State.thermal (s : State) (junction : Nat) : State :=
  if !s.power.supplied then s
  else if fmt32.lt 0x42FA0000 junction then
    let s := (s.keepEvent 0x06 (vU8 (s.rd E.Pwr.THERMAL_STATE) ++ vF32 (s.rd E.Pwr.MOUNT_TEMP) ++ vF32 junction)).logicReset 0x0B false
    { s with power := { s.power with hot := true } }
  else
    let s := s.wr E.Pwr.ASIC_TEMP junction
    if fmt32.lt junction 0x42C80000 then { s with power := { s.power with hot := false } } else s

/-- THERMAL_STATE_CHANGE (R563): the temperature of the mounting face, and the junction's. -/
def State.thermalState (s : State) (mount junction : Nat) : State :=
  let st := if fmt32.lt 0x428C0000 mount then 2 else if fmt32.lt 0x42700000 mount then 1 else 0
  let old := s.rd E.Pwr.THERMAL_STATE
  let s := (s.wr E.Pwr.MOUNT_TEMP mount).wr E.Pwr.ASIC_TEMP junction
  let s := if fmt32.lt (s.rd E.Pwr.MOUNT_TEMP_MAX) mount then s.wrR E.Pwr.MOUNT_TEMP_MAX mount else s
  let s := s.wr E.Pwr.THERMAL_STATE st
  if st = 2 && old != 2 then s.log 0x0B 0x06 (vU8 2 ++ vF32 mount ++ vF32 junction) else s

/-- OPERATING_HOUR (R453, R500, R563): OPERATING_HOURS, HT_AGE and PROOF_AGE. -/
def State.operatingHour (s : State) : State :=
  if !s.power.supplied || s.power.boot.isSome || s.now < s.power.hourAt + 3600000000000 then s
  else
    let s := { s with power := { s.power with hourAt := s.now } }
    let s := (s.incR E.Pwr.OPERATING_HOURS).incR E.Castle.PROOF_AGE
    let s := (List.range 8).foldl (fun s n => (s.incR (E.Sb.HT_AGE n)).showSbDiag n) s
    s.showTwin

/-! ## Commanded restarts -/

/-- RESTART_REQUEST (R560): 1 a warm start, 2 a cold start. -/
def State.effRestart (s : State) (v : Nat) : State := (s.settleLog).logicReset (if v = 1 then 3 else 4) false

/-- RESTORE_FACTORY takes the nonce (R55). -/
def State.chkRestore (s : State) (v : Nat) : Nat := need (v == s.rd E.Restore.RESTORE_NONCE) stRange

/-- RESTORE_FACTORY (R55): recorded before the restart. -/
def State.effRestore (s : State) (node : Nat) : State :=
  (((s.log 0x01 0x02 (vU32 node)).settleLog).factoryReset).logicReset 5 false

/-- TOKEN_WATCHDOG_EXPIRY (R476, R562): the services have not refreshed the watchdog. -/
def State.watchdogExpiry (s : State) : State :=
  if s.power.boot.isSome || !s.twin.token || s.rd E.Dbl.SERVICES_PAIR = 0xFF || s.now < s.twin.refreshAt + 1000000 * s.rd E.Twin.TOKEN_WATCHDOG then s
  else s.logicReset (if s.twinBase then 7 else 0x0D) false

/-- CASTLING_RELEASE (R496): within 10 ms after TOKEN stops the module that released it makes a warm start. -/
def State.castlingRelease (s : State) : State :=
  if !s.twinBase || s.twin.token || s.twin.stopAt.isNone || s.standby || s.power.boot.isSome || s.power.failAt.isSome then s
  else s.logicReset 8 false

/-- MAINTENANCE_EXIT (R480). -/
def State.maintenanceExit (s : State) : State := if s.twin.maintenance && s.power.boot.isNone then s.logicReset 0x0E false else s

/-! ## Commands -/

/-- START (R557). -/
def execStart (at_ : Nat) (i : StartIn) (s : State) : Result := .next ((s.advance at_).startUp i)
/-- POWER_ON (R557). -/
def execPowerOn (at_ : Nat) (s : State) : Result := .next ((s.advance at_).powerOn)
/-- HOLDUP_CHARGED (R543). -/
def execHoldupCharged (at_ energy : Nat) (s : State) : Result := .next ((s.advance at_).holdup energy)
/-- SUP_LOW (R541). -/
def execSupLow (at_ v : Nat) (s : State) : Result := .next ((s.advance at_).supLow v)
/-- SUP_HIGH (R541). -/
def execSupHigh (at_ v : Nat) (s : State) : Result := .next ((s.advance at_).supHigh v)
/-- SUP_NORMAL (R541). -/
def execSupNormal (at_ v : Nat) (s : State) : Result := .next ((s.advance at_).supNormal v)
/-- POWER_FAIL (R544). -/
def execPowerFail (at_ v : Nat) (s : State) : Result := .next ((s.advance at_).powerFail v)
/-- POWER_FAIL_REDUCE (R546). -/
def execPowerFailReduce (at_ : Nat) (s : State) : Result := .next ((s.advance at_).powerReduce)
/-- PF_CHECKPOINT (R548). -/
def execPfCheckpoint (at_ : Nat) (s : State) : Result := .next ((s.advance at_).pfCheckpoint.returnReset)
/-- PANEL_SEQUENCE_STEP (R526, R549). -/
def execPanelSequenceStep (at_ : Nat) (s : State) : Result := .next ((s.advance at_).sequenceStep.returnReset)
/-- SUP_RETURNED (R549). -/
def execSupReturned (at_ : Nat) (s : State) : Result := .next ((s.advance at_).supReturned)
/-- STORE_DEPLETED (R547). -/
def execStoreDepleted (at_ : Nat) (s : State) : Result := .next ((s.advance at_).storeDepleted)
/-- RAIL_FAULT (R542). -/
def execRailFault (at_ rail v : Nat) (s : State) : Result := .next ((s.advance at_).railFault rail v)
/-- CLOCK_FAULT (R553). -/
def execClockFault (at_ kind : Nat) (present : Bool) (s : State) : Result := .next ((s.advance at_).clockFault kind present)
/-- THERMAL (R563). -/
def execThermal (at_ junction : Nat) (s : State) : Result := .next ((s.advance at_).thermal junction)
/-- THERMAL_STATE_CHANGE (R563). -/
def execThermalStateChange (at_ mount junction : Nat) (s : State) : Result := .next ((s.advance at_).thermalState mount junction)
/-- OPERATING_HOUR (R563). -/
def execOperatingHour (at_ : Nat) (s : State) : Result := .next ((s.advance at_).operatingHour)
/-- TRIAL_TIMEOUT (R556). -/
def execTrialTimeout (at_ : Nat) (s : State) : Result := .next ((s.advance at_).trialTimeout)
/-- TOKEN_WATCHDOG_EXPIRY (R476). -/
def execTokenWatchdogExpiry (at_ : Nat) (s : State) : Result := .next ((s.advance at_).watchdogExpiry)
/-- CASTLING_RELEASE (R496). -/
def execCastlingRelease (at_ : Nat) (s : State) : Result := .next ((s.advance at_).castlingRelease)
/-- MAINTENANCE_EXIT (R480). -/
def execMaintenanceExit (at_ : Nat) (s : State) : Result := .next ((s.advance at_).maintenanceExit)

end Sys2Proof.Machine
end

