-- ==== Sys2Proof/Machine/DictView.lean ====
section
/-!
DEFINITION. Machine/DictView.lean: what a read of an entry returns (R44 to R50, R54, R58): the stored value, or the value that the
owning block gives when the read is served.
-/
namespace Sys2Proof.Machine

/-- Who reads or writes: a request with SESSION 0, the application's dictionary port, or a session. -/
inductive Reader where
  | anon
  | port
  | session (id : Nat)
deriving DecidableEq, Repr

/-- The reader that a writer is. -/
def readerOf (w : Writer) : Reader :=
  match w.session with
  | some n => .session n
  | none => .port

/-! ## Existence (R44, R46) -/

/-- Highest sub-index defined at an index (R46), none for an index that does not exist (R44). -/
def State.subCount (s : State) (idx : Nat) : Option Nat :=
  if 0x4400 ≤ idx && idx < 0x4800 then some 0xF1
  else if 0x8000 ≤ idx && idx < 0xC000 then
    (match s.rt.archive with
      | none => none
      | some a =>
        let subs := (a.exports.filter (fun e => e.index == idx)).map (·.sub)
        if subs.isEmpty then none else some (subs.foldl max 0))
  else (tables.find? (fun t => (segPos t.segs idx 0).isSome)).map (fun t => (t.rows.map (·.sub)).foldl max 0)

/-- BANK_COPY (R263). -/
def bankCopyRow (key : Nat) : Row × Ent :=
  ({ sub := 0xF1, name := "BANK_COPY", ty := .bool, acc := .wo, ret := .volatile, d := .num 0, level := .engineer, cond := 4 },
   { key := key, ty := .bool, d := .num 0 })

/-- SUB_COUNT of an index (R46). -/
def subCountRow (key n : Nat) : Row × Ent :=
  ({ sub := 0, name := "SUB_COUNT", ty := .u8, acc := .const, ret := .factory, d := .num n }, { key := key, ty := .u8, d := .num n })

/-- The entry at a key: its row, or the status NO_SUCH_INDEX or NO_SUCH_SUB. A module without valid firmware has the entries at
0x1302 only (R555). -/
def State.entryAt (s : State) (key : Nat) : Except Nat (Row × Ent) :=
  match if s.power.bare && key / 256 != 0x1302 then none else s.subCount (key / 256) with
  | none => .error 0x04
  | some n =>
    if key % 256 = 0 then .ok (subCountRow key n)
    else
      match tableRow key, s.exportDecl key, bankKey key with
      | some r, _, _ => .ok r
      | none, some e, _ => .ok (exportRow e)
      | none, none, some (l, _, i) => if s.paramExists l (i / 10) (i % 10) then .ok (bankRow key) else .error 0x05
      | none, none, none => if 0x4400 ≤ key / 256 && key / 256 < 0x4800 && key % 256 == 0xF1 then .ok (bankCopyRow key) else .error 0x05

/-! ## Views -/

/-- Bytes of fixed length that a volatile OCTETS entry holds, filled with zeros (the Meaning columns). -/
def fixedLength (key : Nat) : Option Nat :=
  let i := key / 256
  match key % 256 with
  | 0x2D => if 0x4000 ≤ i && i < 0x4200 then some 96 else none
  | 0x0B => if i = 0x6020 then some 8 else none
  | 0x04 => if i = 0x4200 then some 8 else none
  | 0x05 => if i = 0x4200 then some 8 else if 0x3000 ≤ i && i < 0x3100 && 0x10 ≤ i % 64 && i % 64 < 0x20 then some 80 else none
  | 0x0E => if 0x1820 ≤ i && i < 0x1823 then some 10 else none
  | 0x0F => if 0x1820 ≤ i && i < 0x1823 then some 8 else none
  | 0x0C => if 0x1910 ≤ i && i < 0x1914 then some 16 else none
  | 0x0D => if 0x1910 ≤ i && i < 0x1914 then some 16 else none
  | 0x02 => if 0x1950 ≤ i && i < 0x1960 then some 9 else if i = 0x7802 then some 16 else none
  | 0x08 => if i = 0x7400 then some 8 else none
  | 0x01 => if i = 0x7002 then some 16 else none
  | _ => none

/-- The number a BOARD entry of Table FRM-14 reads. -/
def State.boardView (s : State) (b sub : Nat) : Option Value :=
  let x := s.board b
  let d := x.desc
  let res := x.st == 2
  let n := fun v => some (.num (if res then v else 0))
  let held := fun v => some (.num (if x.st = 0 then 0 else v))
  match sub with
  | 0x01 => some (.num x.st)
  | 0x02 => n d.signature
  | 0x03 => n (ofBool d.rod)
  | 0x04 => n d.n
  | 0x05 => n d.m
  | 0x06 => n d.nnzP
  | 0x07 => n d.nnzA
  | 0x08 => n d.nnzL
  | 0x09 => n (footPages d)
  | 0x0A => some (.num (s.boardWriter b))
  | 0x0B => some (.num (if x.st = 0 then 0xFF else x.source))
  | 0x0C => some (.bytes (if res then d.name else []))
  | 0x0D => held x.lastSeq
  | 0x0E => held x.lastReject
  | 0x0F => held x.accepted
  | 0x10 => held x.rejected
  | 0x11 => n (ofBool x.refactor)
  | 0x12 => held x.refactors
  | 0x13 => some (.bytes (if res then settingsBytes x.set else []))
  | 0x15 => n (fmt32.mul x.set.rho x.adapt)
  | 0x16 => some (.bytes (if x.st = 0 then [] else positionBytes b x.pos))
  | _ => none

/-- Boards whose HOME_ACTIVE is `h`. -/
def State.homedOn (s : State) (h : Nat) : Nat :=
  ((List.range 256).filter (fun b => (s.board b).st == 2 && s.rd (E.Solve.HOME_ACTIVE b) == h)).length

/-- Loop, CAN and field entries that their units give. -/
def State.fieldView (s : State) (i sub : Nat) : Option Value :=
  if 0x2040 ≤ i && i < 0x2080 && sub = 0x01 then some (.num (s.profileView (i - 0x2040)))
  else if 0x3000 ≤ i && i < 0x3100 && 0x20 ≤ i % 64 then
    let c := (i - 0x3000) / 64
    let o := i % 64 - 0x20
    match sub with
    | 0x09 => some (.num (s.objWriter c o))
    | 0x0A => some (.bytes (fitTo 0 (s.rd (E.CanObj.OBJ_LENGTH c o)) (s.obj c o).image))
    | 0x0C => some (.num (txState (s.obj c o)))
    | _ => none
  else if 0x4280 ≤ i && i < 0x4300 && sub = 0x22 then some (.num (ofBool (s.tableValid (i - 0x4280))))
  else if i = 0x4200 && sub = 0x0A then
    some (.bytes ((List.range 1024).map (fun w => BitVec.ofNat 8 ((s.rt.archive.bind (fun a => a.wordWriters.find w)).getD 0xFF))))
  else none

/-- Time, network and module entries that their units give. -/
def State.moduleView (s : State) (i sub : Nat) : Option Value :=
  if 0x1B00 ≤ i && i < 0x1B30 && sub = 0x04 then some (.num (s.fill (i - 0x1B00)))
  else if 0x1B00 ≤ i && i < 0x1B30 && sub = 0x08 then some (.num (min 0xFFFFFFFF (s.stallTime (i - 0x1B00) / 1000)))
  else if i = 0x1000 && sub = 0x0A then
    some (.num (7680 + (match s.rt.archive with
      | some a => a.exports.length
      | none => 0)))
  else if i = 0x1100 && sub = 0x05 then
    some (.num (ofBool (!(s.rdB E.Auth.KEY_VIEWER).isEmpty) + 2 * ofBool (!(s.rdB E.Auth.KEY_OPERATOR).isEmpty)
      + 4 * ofBool (!(s.rdB E.Auth.KEY_ENGINEER).isEmpty) + 8))
  else if i = 0x1101 && sub = 0x03 then
    some (.num (match s.rt.archive with
      | some a => if a.portLevel = .engineer then 2 else 1
      | none => 1))
  else if i = 0x1200 && (sub = 0x02 || sub = 0x03) then some (.num (Config.measured (i * 256 + sub) s.now % 2 ^ 32))
  else if i = 0x1302 then
    (match sub with
      | 0x02 => some (.bytes (leBytes 2 (s.slot 0).release ++ leBytes 2 (s.slot 1).release))
      | 0x03 => some (.bytes (leBytes 1 (s.slot 0).state ++ leBytes 1 (s.slot 1).state))
      | 0x0A => some (.num s.power.fuse)
      | _ => none)
  else if i = 0x1800 && sub = 0x01 then some (.bytes (s.snapshotAll.flatMap time96be))
  else if i = 0x1813 && sub = 0x01 then some (.num (time96 (s.tbAt 3 s.now)))
  else if 0x1810 ≤ i && i < 0x1813 then
    (match sub with
      | 0x01 => some (.num (time96 (s.tbAt (i - 0x1810) s.now)))
      | 0x11 => some (.num (s.holdoverMs (i - 0x1810)))
      | _ => none)
  else if 0x1830 ≤ i && i < 0x1834 && sub = 0x06 then some (.num (s.stampUncertainty (i - 0x1830)))
  else if 0x1950 ≤ i && i < 0x1960 && sub = 0x04 then some (.num (s.filterRemaining (i - 0x1950)))
  else if i = 0x6960 && sub = 0x0B then
    some (.num (match s.rt.archive with
      | some a => a.spsCrc
      | none => 0))
  else if i = 0x7401 && sub = 0x0A then
    some (.bytes (leBytes 4 (1000 * s.rd E.Twin.TOKEN_WATCHDOG + 1200) ++ leBytes 4 s.completeBound))
  else if i = 0x7801 && sub = 0x09 then some (.num (leAt (s.rdB E.Slate.WAVEFORM_SET) 6 4))
  else none

/-- Runtime, pair and Frame entries that their units give. -/
def State.runView (s : State) (i sub : Nat) : Option Value :=
  if 0x6000 ≤ i && i < 0x6020 && sub = 0x05 then some (.num (s.taskState (i - 0x6000)))
  else if i = 0x6100 then
    (match sub with
      | 0x01 => some (.num ((List.range 240).filter (fun f => s.on (E.Force.FORCE_ACTIVE f))).length)
      | 0x02 => some (.num ((List.range 240).filter (fun f => s.forceState f == 3)).length)
      | _ => none)
  else if 0x6110 ≤ i && i < 0x6200 && sub = 0x04 then some (.num (s.forceState (i - 0x6110)))
  else if 0x6810 ≤ i && i < 0x6814 && sub = 0x07 then
    some (.num (min 3 ((s.pairs.fetch {} (i - 0x6810)).stamps.filter (fun t => decide ((s.now : Int) ≤ t + 10000000000))).length))
  else if i = 0x5000 then
    (match sub with
      | 0x02 => some (.num (4032 - sumNat (s.frame.boards.vals.map boardPages)))
      | 0x03 => some (.num (s.frame.boards.vals.filter (fun x => x.st == 2)).length)
      | _ => none)
  else if 0x5100 ≤ i && i < 0x5200 then s.boardView (i - 0x5100) sub
  else if 0x5200 ≤ i && i < 0x5300 then
    let x := s.board (i - 0x5200)
    (match sub with
      | 0x0A => some (.num (if x.st = 2 then factorWork x.desc else 0))
      | 0x0B => some (.num (if x.st = 2 then wcetBound x.desc x.set else 0))
      | _ => none)
  else if 0x5300 ≤ i && i < 0x5340 then
    (match sub with
      | 0x04 => some (.num (s.homedOn (i - 0x5300)))
      | 0x05 => some (.num (s.homedOn (64 + (i - 0x5300) / 8)))
      | 0x07 => some (.num (s.beadBusy (i - 0x5300)))
      | 0x08 => some (.num (max (s.rd (E.Bead.BEAD_BUSY_MAX (i - 0x5300))) (s.beadBusy (i - 0x5300))))
      | _ => none)
  else none

/-- Cursor, READ_CLEARED and READ_SKIPPED of a reader of the ledger (R514, R518); none without a session. -/
def State.ledgerReader (s : State) (r : Reader) : Option (Nat × Bool × Nat) :=
  match r with
  | .anon => none
  | .port => some (s.eop.portCursor, s.eop.portCleared, s.eop.portSkipped)
  | .session n => (s.eop.sessions.find? (fun x => x.id == n)).map (fun x => (x.cursor, x.readCleared, x.skipped))

/-- The entries at 0x7001 as a reader sees them. -/
def State.ledgerView (s : State) (r : Reader) (sub : Nat) : Option Value :=
  (s.ledgerReader r).map (fun x => match sub with
    | 0x01 => .num x.1
    | 0x02 => .bytes (s.readBlock x.1 x.2.1).1
    | 0x03 => .num (ofBool x.2.1)
    | _ => .num x.2.2)

/-- The value that an export reads (R58). -/
def State.exportValue (s : State) (key : Nat) (e : Ent) : Value := (s.rt.exports.find key).getD e.d

/-- A RETAINED entry is invalid after a failed restore (R54). -/
def State.invalidEntry (s : State) (key : Nat) : Bool :=
  retainedKey key && (blocksOf key).any (fun b => s.eop.invalid.contains b && missing s.blocks b key)

/-- The value of an existing entry to a reader. -/
def State.valueOf (s : State) (r : Reader) (key : Nat) (e : Ent) : Value :=
  let i := key / 256
  let sub := key % 256
  if sub = 0 then e.d
  else if 0x4000 ≤ i && i < 0x4200 && (s.loopSt (i - 0x4000)).attr.isNone then e.d
  else if 0x6000 ≤ i && i < 0x6020 && (s.task (i - 0x6000)).attr.isNone then e.d
  else if 0x8000 ≤ i then s.exportValue key e
  else
    match s.moduleView i sub, s.runView i sub, s.fieldView i sub, (if i = 0x7001 then s.ledgerView r sub else none) with
    | some v, _, _, _ => v
    | none, some v, _, _ => v
    | none, none, some v, _ => v
    | none, none, none, some v => v
    | none, none, none, none =>
      if linkKey key then s.linkGet e
      else
      match s.get e, fixedLength key with
      | .bytes b, some n => .bytes (fitTo 0 n b)
      | v, _ => v

/-- A read of an entry: status, type and value (R44, R45, R54). The entries at 0x7001 belong to a reader: without a session there is
none (R514, R518). -/
def State.readEntry (s : State) (r : Reader) (key : Nat) : Nat × Ty × Value :=
  match s.entryAt key with
  | .error st => (st, .u8, .num 0)
  | .ok (row, e) =>
    if row.acc = .wo then (0x09, row.ty, .num 0)
    else if key / 256 = 0x7001 && key % 256 != 0 && (s.ledgerReader r).isNone then (0x10, row.ty, .num 0)
    else if s.invalidEntry key then (0x0C, row.ty, .num 0)
    else (0, row.ty, s.valueOf r key e)

/-- A value that was read reaches its reader: a READ_BLOCK advances the reader's cursor (R514). -/
def State.delivered (s : State) (r : Reader) (key : Nat) : State :=
  if key != 0x700102 then s
  else
    match s.ledgerReader r with
    | none => s
    | some (c, cleared, _) =>
      let (_, c, k) := s.readBlock c cleared
      match r with
      | .session n => { s with eop := { s.eop with sessions := s.eop.sessions.map (fun x => if x.id == n then { x with cursor := c, skipped := k } else x) } }
      | _ => { s with eop := { s.eop with portCursor := c, portSkipped := k } }

/-! ## Values on the wire (R61, Table DIC-7) -/

/-- The code of a type. -/
def tyCode : Ty → Nat
  | .bool => 1 | .u8 => 2 | .u16 => 3 | .u32 => 4 | .u64 => 5 | .i16 => 6 | .i32 => 7 | .f32 => 8 | .f64 => 9 | .str => 10
  | .octets => 11 | .time96 => 12

/-- The type that a code names. -/
def codeTy (n : Nat) : Option Ty :=
  [.bool, .u8, .u16, .u32, .u64, .i16, .i32, .f32, .f64, .str, .octets, .time96].find? (fun t => tyCode t == n)

/-- A value as an EOP payload carries it. -/
def valueBe (ty : Ty) : Value → List Byte
  | .num n => beBytes (Ty.bits ty / 8) n
  | .bytes b => b

/-- A type whose values are bytes of varying length. -/
def byteType : Ty → Bool
  | .str => true
  | .octets => true
  | _ => false

/-- The value that bytes of an EOP payload give; none where their number is wrong for the type. -/
def beValue (ty : Ty) (b : List Byte) : Option Value :=
  if byteType ty then (if b.length ≤ (if ty = .str then 255 else 65535) then some (.bytes b) else none)
  else if b.length = Ty.bits ty / 8 then some (.num (beAt b 0 b.length))
  else none

end Sys2Proof.Machine
end

