-- ==== Sys2Proof/Machine/TwinSteps.lean ====
section
/-!
DEFINITION. Machine/TwinSteps.lean: the commands of the twin controller (R472 to R502).
-/
namespace Sys2Proof.Machine

/-- A standby that has taken over a running archive holds its tasks, loops and boards (R479); its runtime stays in reset. -/
def State.installTaken (before s : State) : State :=
  match s.rt.archive with
  | some a => if before.rt.archive == some a then s else s.installArchive a false
  | none => s

/-- The twin controller works once the module has left its reset. -/
def State.twinUp (s : State) (f : State → State) : State := if s.power.boot.isSome || !s.power.supplied then s else f s

/-- PARTNER_TOKEN_ASSERTED (R474). -/
def execPartnerTokenAsserted (at_ : Nat) (side : Bool) (s : State) : Result :=
  .next ((s.advance at_).partnerAsserted side)

/-- PARTNER_TOKEN_DEASSERTED (R474). -/
def execPartnerTokenDeasserted (at_ : Nat) (side : Bool) (s : State) : Result :=
  .next ((s.advance at_).partnerDeasserted side)

/-- FIELD_ENABLE_ASSERT (R475). -/
def execFieldEnableAssert (at_ : Nat) (s : State) : Result :=
  .next ((s.advance at_).fieldEnableAssert)

/-- TOKEN_PATH_FAULT (R475). -/
def execTokenPathFault (at_ : Nat) (s : State) : Result :=
  .next ((s.advance at_).twinUp (fun s => s.tokenPathFault))

/-- LISTEN_WINDOW_EXPIRY (R477). -/
def execListenWindowExpiry (at_ : Nat) (s : State) : Result :=
  .next ((s.advance at_).listenExpiry)

/-- HEARTBEAT_SEND (R483). -/
def execHeartbeatSend (at_ : Nat) (sup : Nat) (s : State) : Result :=
  .next ((s.advance at_).twinUp (fun s => s.heartbeatSend sup))

/-- HEARTBEAT_RECEIVED (R483). -/
def execHeartbeatReceived (at_ : Nat) (h : Heartbeat) (errA : Nat) (errB : Nat) (s : State) : Result :=
  .next ((s.advance at_).twinUp (fun s => s.heartbeatReceived h errA errB))

/-- LINK_DOWN_TIMEOUT (R483). -/
def execLinkDownTimeout (at_ : Nat) (s : State) : Result :=
  .next ((s.advance at_).twinUp (fun s => s.linkDown))

/-- LANE_STATE_CHANGE (R482). -/
def execLaneStateChange (at_ : Nat) (lane : Nat) (up : Bool) (s : State) : Result :=
  .next ((s.advance at_).twinUp (fun s => s.laneChange lane up))

/-- DELTA_END (R486). -/
def execDeltaEnd (at_ : Nat) (d : TwinDelta) (s : State) : Result :=
  let s := s.advance at_
  .next (State.installTaken s (s.deltaEnd d))

/-- RESYNC_DONE (R481). -/
def execResyncDone (at_ : Nat) (d : TwinDelta) (s : State) : Result :=
  let s := s.advance at_
  .next (State.installTaken s (s.resyncDone d))

/-- AUDIT (R488). -/
def execAudit (at_ : Nat) (ok : Bool) (s : State) : Result :=
  .next ((s.advance at_).audit ok)

/-- ARCHIVE_PART (R479). -/
def execArchivePart (at_ : Nat) (staged : Bool) (off : Nat) (bytes : List Byte) (last : Bool) (s : State) : Result :=
  let s := s.advance at_
  .next (State.installTaken s (s.archivePart staged off bytes last))

/-- CASTLE_RECEIVED (R489). -/
def execCastleReceived (at_ : Nat) (gen : Nat) (cause : Nat) (s : State) : Result :=
  .next ((s.advance at_).castleReceived gen cause)

/-- CASTLE_ACK (R489). -/
def execCastleAck (at_ : Nat) (s : State) : Result :=
  .next ((s.advance at_).castleAck)

/-- CASTLE_ACK_TIMEOUT (R489). -/
def execCastleAckTimeout (at_ : Nat) (s : State) : Result :=
  .next ((s.advance at_).castleAckTimeout)

/-- STANDBY_TAKE_TOKEN (R490). -/
def execStandbyTakeToken (at_ : Nat) (cause : Nat) (s : State) : Result :=
  .next ((s.advance at_).takeToken cause)

/-- MAINTENANCE_ENTER (R480). -/
def execMaintenanceEnter (at_ : Nat) (s : State) : Result :=
  .next ((s.advance at_).maintenanceEnter)

end Sys2Proof.Machine
end

