-- ==== Sys2Proof/Machine/Dictionary.lean ====
section
/-!
DEFINITION. Machine/Dictionary.lean: a write to the dictionary (R45 to R50, R81): its checks in order, its store at one commit, and
its effect in the owning block. The commands that write an entry and the EOP services share this one path.
-/
namespace Sys2Proof.Machine

/-! ## Form: existence, access, level, type, length (R44 to R47, R56, R81) -/

/-- Rank of a level (Table DIC-14). -/
def levelNum : Level → Nat
  | .viewer => 0 | .operator => 1 | .engineer => 2 | .service => 3

/-- The level of a rank. -/
def levelOf (n : Nat) : Option Level := [Level.viewer, .operator, .engineer, .service][n]?

/-- Largest number of bytes of a type of varying length (Table SCP-5). -/
def maxBytes : Ty → Nat
  | .str => 255
  | _ => 65535

/-- A value has the length of its type. -/
def lengthOk (ty : Ty) : Value → Bool
  | .num n => !byteType ty && decide (n < 2 ^ Ty.bits ty)
  | .bytes b => byteType ty && decide (b.length ≤ maxBytes ty)

/-- UTF-8 continuation bytes: `k` of them, then the rest. -/
def utf8Tail : Nat → List Byte → Option (List Byte)
  | 0, bs => some bs
  | _ + 1, [] => none
  | k + 1, b :: bs => if b.toNat / 64 = 2 then utf8Tail k bs else none

/-- One UTF-8 sequence at the head: the rest; none where it is not valid. -/
def utf8Step (b : Byte) (bs : List Byte) : Option (List Byte) :=
  let n := b.toNat
  let second := (bs.headD 0).toNat
  if n < 0x80 then some bs
  else if 0xC2 ≤ n && n < 0xE0 then utf8Tail 1 bs
  else if 0xE0 ≤ n && n < 0xF0 then
    if (n = 0xE0 && second < 0xA0) || (n = 0xED && 0xA0 ≤ second) then none else utf8Tail 2 bs
  else if 0xF0 ≤ n && n < 0xF5 then
    if (n = 0xF0 && second < 0x90) || (n = 0xF4 && 0x90 ≤ second) then none else utf8Tail 3 bs
  else none

/-- The bytes are UTF-8 (R48); the first argument bounds the sequences. -/
def utf8Go : Nat → List Byte → Bool
  | _, [] => true
  | 0, _ => false
  | k + 1, b :: bs => match utf8Step b bs with
    | some rest => utf8Go k rest
    | none => false

/-- The bytes are valid UTF-8 (R48). -/
def utf8Ok (bs : List Byte) : Bool := utf8Go bs.length bs

/-- A value lies within a stated range (R48). -/
def inRange (r : Range) (ty : Ty) (v : Value) : Bool :=
  let n := valNat v
  let w := Ty.bits ty
  match r with
  | .any => true
  | .u lo hi step => lo ≤ n && n ≤ hi && (n - lo) % step == 0
  | .orEq x lo hi => n == x || (lo ≤ n && n ≤ hi)
  | .i m => -(m : Int) ≤ intOf w n && intOf w n ≤ (m : Int)
  | .ir lo hi => lo ≤ intOf w n && intOf w n ≤ hi
  | .f lo hi => fmt32.le lo n && fmt32.le n hi
  | .fs m hi => fmt32.le (fmt32.neg m) n && fmt32.le n hi
  | .orF x lo hi => (fmt32.le x n && fmt32.le n x) || (fmt32.le lo n && fmt32.le n hi)
  | .len lo hi => lo ≤ (valBytes v).length && (valBytes v).length ≤ hi

/-- A value that its type admits (R48): a BOOL of 0 or 1, no NaN or infinity, nanoseconds below 10^9, UTF-8. -/
def valid (ty : Ty) (v : Value) : Bool :=
  match ty with
  | .bool => decide (valNat v < 2)
  | .f32 => !fmt32.special (valNat v)
  | .f64 => !fmt64.special (valNat v)
  | .time96 => timeOk (valNat v)
  | .str => utf8Ok (valBytes v)
  | _ => true

/-- In maintenance a STANDBY module accepts writes only to the keys, the firmware entries, the parameter-set entries and REJOIN
(R480). -/
def maintenanceKey (key : Nat) : Bool :=
  let i := key / 256
  i == 0x1100 || i == 0x1302 || i == 0x6961 || key == 0x740102

/-- The level that a write needs (R45): RUNTIME_COMMAND by its value (Table RUN-14). -/
def writeLevel (key : Nat) (row : Row) (v : Option Value) : Level :=
  if key = 0x602002 then (match v with
    | some (.num n) => if 4 ≤ n && n ≤ 6 then .engineer else .operator
    | _ => .operator)
  else row.level

/-- Five rejected writes to CLEAR_RING bar the session's further ones (R515). -/
def State.clearBarred (s : State) (w : Writer) : Bool :=
  match w.session with
  | some n => s.eop.sessions.any (fun x => x.id == n && decide (5 ≤ x.clearRejects))
  | none => false

/-- Address, access, level, type and length of a write (R44 to R47, R68, R81): `ty` and `v` are none where the request names no type
or gives no value of it. -/
def State.chkForm (s : State) (w : Writer) (key : Nat) (ty : Option Ty) (v : Option Value) : Nat :=
  match s.entryAt key with
  | .error st => st
  | .ok (row, _) =>
    firstBad
      [ need (row.acc == .rw || row.acc == .wo) 0x09
      , need (!s.standby || maintenanceKey key) 0x09
      , need (key / 256 != 0x1100 || (w.j16 && w.level == .service && w.session.isSome)) 0x16
      , need (decide (levelNum (writeLevel key row v) ≤ levelNum w.level) && !(key == 0x700202 && s.clearBarred w)) 0x0A
      , need (ty == some row.ty) 0x06
      , need (v.any (lengthOk row.ty)) 0x07 ]

/-! ## What the owning blocks check (R69) -/

/-- Module, supply and firmware entries. -/
def State.chkModule (s : State) (i sub n : Nat) (b : List Byte) : Nat :=
  match i, sub with
  | 0x1300, 0x03 => s.chkRestore n
  | 0x1302, 0x05 => s.chkFwData b.length
  | 0x1302, 0x08 => s.chkFwActivate n
  | _, _ => 0

/-- Runtime, forces, online change, injection tests. -/
def State.chkRuntime (s : State) (i sub n : Nat) (b : List Byte) : Nat :=
  if 0x6110 ≤ i && i < 0x6200 then
    (match sub with
      | 0x01 => s.chkForcePoint (i - 0x6110) n
      | 0x02 => s.chkForceValue (i - 0x6110) n
      | 0x03 => s.chkForceActive (i - 0x6110) n
      | _ => 0)
  else match i, sub with
  | 0x6020, 0x02 => s.chkCommand n
  | 0x6020, 0x06 => s.chkHoldPermit n
  | 0x6200, 0x02 => s.chkStageData b.length
  | 0x6200, 0x06 => s.chkApply n
  | 0x6200, 0x0B => s.chkApply n
  | 0x6800, 0x05 => s.chkInject n
  | _, _ => 0

/-- SOLVE_ABORT needs a dictionary board and room (R186, R201). -/
def State.chkSolveAbort (s : State) (b : Nat) : Nat := s.chkSolveRequest b

/-- Counting Frame entries. -/
def State.chkFrameEntry (s : State) (i sub n : Nat) (b : List Byte) : Nat :=
  if 0x5100 ≤ i && i < 0x5200 then (if sub = 0x14 then s.chkMoveBatch (i - 0x5100) b else 0)
  else if 0x5200 ≤ i && i < 0x5300 then
    (match sub with
      | 0x01 => s.chkSolveRequest (i - 0x5200)
      | 0x02 => s.chkSolveAbort (i - 0x5200)
      | 0x08 => s.chkHome n
      | _ => 0)
  else match i, sub with
  | 0x5000, 0x06 => s.chkLoadData b.length
  | 0x5000, 0x08 => need (n == s.rd E.Frame.LOAD_NONCE) stRange
  | 0x5000, 0x0B => s.chkUnload n
  | _, _ => 0

/-- Tally entries: loops and banks. -/
def State.chkTally (s : State) (i sub n : Nat) : Nat :=
  if 0x4000 ≤ i && i < 0x4200 then
    let l := i - 0x4000
    (match sub with
      | 0x07 => s.chkLoopMode l n
      | 0x09 => s.chkSpLocal l n
      | 0x0A => s.chkSpLo l n
      | 0x0B => s.chkSpHi l n
      | 0x0E => s.chkOutMan l
      | 0x21 => s.chkForceResponse l n
      | _ => 0)
  else match bankKey (i * 256 + sub) with
  | some (l, k, j) => s.chkParam l k j n
  | none => 0

/-- Time bases and PTP instances. -/
def State.chkTime (s : State) (i sub n : Nat) : Nat :=
  if 0x1810 ≤ i && i < 0x1813 then
    (if [0x04, 0x05, 0x06, 0x12].contains sub then s.chkDisabled (i - 0x1810) else 0)
  else if 0x1820 ≤ i && i < 0x1823 then
    (match sub with
      | 0x01 => chkRole (i - 0x1820) n
      | 0x02 => s.chkDomain (i - 0x1820) n
      | _ => 0)
  else 0

/-- Network and ECX entries. -/
def State.chkNet (s : State) (i sub n : Nat) : Nat :=
  if 0x1A40 ≤ i && i < 0x1A80 then (if sub = 0x12 then s.chkAcyc (i - 0x1A40) else 0)
  else match i, sub with
  | 0x1900, 0x04 => need (maskOk n) stRange
  | 0x1900, 0x07 => need (maskOk n) stRange
  | 0x1940, k => s.chkSource (k - 1) n
  | 0x1960, _ => chkProtected n
  | 0x1A00, 0x01 => s.chkEcxEnable n
  | 0x1A00, 0x03 => need (n + 50 ≤ s.rd E.Ecx.CYCLE_PERIOD) stRange
  | 0x1A00, 0x04 => need (n ≤ s.rd E.Ecx.CYCLE_PERIOD) stRange
  | 0x1A00, 0x05 => need (n ≤ s.rd E.Ecx.CYCLE_PERIOD) stRange
  | _, _ => 0

/-- Attributes of a CAN transmit object (Table CAN-10, R334). -/
def State.chkObj (s : State) (c o sub n : Nat) (b : List Byte) : Nat :=
  let own := fun st => firstBad [s.chkObjAttr c o, st]
  match sub with
  | 0x01 => own (firstBad [need (canIdOk n) stRange, s.chkObjId c o n (s.rd (E.CanObj.OBJ_MODE c o))])
  | 0x02 => own (need (canLength n (s.rd (E.CanObj.OBJ_LENGTH c o))) stRange)
  | 0x03 => own (need (canLength (s.rd (E.CanObj.OBJ_FORMAT c o)) n) stRange)
  | 0x04 => own (s.chkObjId c o (s.rd (E.CanObj.OBJ_ID c o)) n)
  | 0x05 => own 0
  | 0x06 => own (need (n + 50 ≤ s.rd (E.CanObj.OBJ_PERIOD c o)) stRange)
  | 0x0B => s.chkObjSend c o b
  | _ => 0

/-- CAN entries. -/
def State.chkCan (s : State) (i sub n : Nat) (b : List Byte) : Nat :=
  let c := (i - 0x3000) / 64
  let k := i % 64
  if k = 0 then (if sub = 0x01 then s.chkChannelMode c n else 0)
  else if 0x10 ≤ k && k < 0x20 then (if sub = 0x02 then need (n / 2 ^ 29 % 4 == 0) stRange else 0)
  else if 0x20 ≤ k then s.chkObj c (k - 0x20) sub n b
  else 0

/-- Field entries: outputs, current loops, axes. -/
def State.chkField (s : State) (i sub n : Nat) (b : List Byte) : Nat :=
  if 0x2040 ≤ i && i < 0x2080 then (if sub = 0x01 then s.chkProfile (i - 0x2040) n else 0)
  else if 0x2100 ≤ i && i < 0x2120 then (if sub = 0x0E then s.chkTrimCapture (i - 0x2100) n false else 0)
  else if 0x2120 ≤ i && i < 0x2130 then
    (match sub with
      | 0x0B => s.chkAoTrim (i - 0x2120) n false
      | 0x0C => s.chkAoReading (i - 0x2120) false
      | _ => 0)
  else if 0x2200 ≤ i && i < 0x220C then
    (if 0x12 ≤ sub && sub ≤ 0x1E then s.chkHomingEntry (i - 0x2200) else if sub = 0x1F then s.chkAxisRoom (i - 0x2200) b else 0)
  else 0

/-- The proof of a clear of the Endgame Ring (R515). -/
def State.chkClear (s : State) (w : Writer) (b : List Byte) : Nat :=
  match w.session with
  | some n => need (b == s.clearProof n) stRange
  | none => stRange

/-- Safety, twin, ledger and panel entries. -/
def State.chkSystem (s : State) (w : Writer) (i sub n : Nat) (b : List Byte) : Nat :=
  match i, sub with
  | 0x6960, 0x06 => s.chkSafetyReset n
  | 0x6961, 0x02 => s.chkSpsData b
  | 0x6961, 0x04 => s.chkSpsCommit
  | 0x7000, 0x01 => need (s.ledger.bookState == 0) stMode
  | 0x7000, 0x03 => firstBad [need (n == s.rd E.Ldg.LEDGER_NONCE) stRange, need (s.ledger.bookState == 0) stMode]
  | 0x7002, 0x02 => s.chkClear w b
  | 0x7401, 0x04 => firstBad [need (n == s.rd E.Castle.CASTLE_NONCE) stRange, need s.active stMode]
  | 0x7401, 0x0B => firstBad [need (n == s.rd E.Castle.CASTLE_NONCE) stRange, s.chkProof]
  | 0x7800, 0x0F => s.chkDraw b
  | 0x7800, k => s.chkPanel k n
  | 0x7801, k => chkPanelTable k b
  | _, _ => 0

/-- What the block that owns an entry requires of a write (R69). -/
def State.chkOwner (s : State) (w : Writer) (key : Nat) (v : Value) : Nat :=
  let i := key / 256
  let sub := key % 256
  let n := valNat v
  let b := valBytes v
  if i < 0x1800 then s.chkModule i sub n b
  else if i < 0x1900 then s.chkTime i sub n
  else if i < 0x2000 then s.chkNet i sub n
  else if i < 0x3000 then s.chkField i sub n b
  else if i < 0x4000 then s.chkCan i sub n b
  else if i < 0x5000 then s.chkTally i sub n
  else if i < 0x6000 then s.chkFrameEntry i sub n b
  else if i < 0x6900 then s.chkRuntime i sub n b
  else s.chkSystem w i sub n b

/-- The condition STOP (Table DIC-2). In maintenance the module counts as one in STOP (R480). -/
def State.stopMet (s : State) : Bool := s.isStop || (s.standby && s.twin.maintenance) || s.power.bare

/-- Range, write condition and the owning block's conditions of a write in form (R48, R69). -/
def State.chkStore (s : State) (w : Writer) (key : Nat) (v : Value) : Nat :=
  match s.entryAt key with
  | .error st => st
  | .ok (row, _) =>
    firstBad
      [ need (valid row.ty v && inRange row.range row.ty v) stRange
      , need (row.cond % 2 == 0 || s.stopMet) stMode
      , s.chkOwner w key v ]

/-- Every check of a write (R69). -/
def State.chkWrite (s : State) (w : Writer) (key : Nat) (ty : Option Ty) (v : Option Value) : Nat :=
  firstBad [s.chkForm w key ty v, s.chkStore w key (v.getD (.num 0))]

/-! ## What a write does -/

/-- What a write does once it reaches its block, accepted or not: nonces and the challenge are renewed, check results reported
(R55, R114, R159, R319, R332, R489, R512, R515, R556). -/
def State.reached (s : State) (key : Nat) (v : Value) : State :=
  let n := valNat v
  match key with
  | 0x130003 => s.renew E.Restore.RESTORE_NONCE
  | 0x130208 => s.renew E.Start.FW_NONCE
  | 0x1A0001 => if n != 0 then s.noteEcxCheck else s
  | 0x500008 => s.renew E.Frame.LOAD_NONCE
  | 0x620006 => s.renew E.Online.APPLY_NONCE
  | 0x700003 => s.renew E.Ldg.LEDGER_NONCE
  | 0x700202 => s.renewB E.Ldg.CLEAR_CHALLENGE 16
  | 0x740104 => s.renew E.Castle.CASTLE_NONCE
  | 0x74010B => s.renew E.Castle.CASTLE_NONCE
  | _ => if key / 256 % 64 == 0 && key % 256 == 1 && 0x3000 ≤ key / 256 && key / 256 < 0x3100 then
      s.noteTiming ((key / 256 - 0x3000) / 64) n else s

/-- A rejected clear of the Endgame Ring is counted for its session and recorded (R515). -/
def State.rejectedClear (s : State) (w : Writer) : State :=
  let n := w.session.getD 0
  let s := { s with eop := { s.eop with sessions := s.eop.sessions.map (fun (x : Session) =>
    if x.id == n then { x with clearRejects := x.clearRejects + 1 } else x) } }
  (s.wr E.Ldg.CLEAR_RESULT 1).log 0x02 0x06 (vU32 w.node ++ vU32 n)

/-- Entries whose effect stores them. -/
def selfStored (key : Nat) : Bool :=
  let i := key / 256
  let sub := key % 256
  i == 0x1940 || (0x1910 ≤ i && i < 0x1914 && sub == 0x01) || (0x1820 ≤ i && i < 0x1823 && sub == 0x01)
    || (0x6110 ≤ i && i < 0x6200 && sub == 0x03) || i == 0x7001

/-- The store of an accepted write (R49, R53, R58): a RETAINED entry in its block as well, an export for its task's next copy-in. A
command stores nothing. -/
def State.storeValue (s : State) (key : Nat) (v : Value) : State :=
  match s.entryAt key with
  | .error _ => s
  | .ok (row, e) =>
    if 0x8000 ≤ key / 256 then { s with rt := { s.rt with exportIn := s.rt.exportIn.put key v } }
    else if selfStored key then s
    else if row.ret = .retained then s.putR e v
    else if row.acc = .rw then s.put e v
    else s

/-- The reader of a session or of the port takes READ_CURSOR or READ_CLEARED (R514, R516, R518). -/
def State.writeReader (s : State) (w : Writer) (sub n : Nat) : State :=
  match w.session with
  | some k => { s with eop := { s.eop with sessions := s.eop.sessions.map (fun (x : Session) =>
      if x.id == k then (if sub = 0x01 then { x with cursor := n } else { x with readCleared := n != 0 }) else x) } }
  | none => if sub = 0x01 then { s with eop := { s.eop with portCursor := n } } else { s with eop := { s.eop with portCleared := n != 0 } }

/-- Effects of module and firmware entries. -/
def State.effModule (s : State) (w : Writer) (i sub n : Nat) (b : List Byte) : State :=
  match i, sub with
  | 0x1000, 0x09 => s.effRestart n
  | 0x1100, 0x01 => s.log 0x02 0x04 (vU8 0 ++ vU32 w.node)
  | 0x1100, 0x02 => s.log 0x02 0x04 (vU8 1 ++ vU32 w.node)
  | 0x1100, 0x03 => s.log 0x02 0x04 (vU8 2 ++ vU32 w.node)
  | 0x1100, 0x04 => s.log 0x02 0x04 (vU8 3 ++ vU32 w.node)
  | 0x1300, 0x03 => s.effRestore w.node
  | 0x1302, 0x05 => s.effFwData b
  | 0x1302, 0x06 => s.effFwCheck n
  | 0x1302, 0x08 => s.effFwActivate
  | _, _ => s

/-- RUNTIME_COMMAND; leaving STOP ends the service mode of the panel (R536). -/
def State.effRuntimeCommand (s : State) (n : Nat) : State :=
  let s := s.effCommand n
  if s.isStop then s else s.serviceLeave

/-- Effects of runtime entries. -/
def State.effRuntime (s : State) (w : Writer) (i sub n : Nat) (b : List Byte) : State :=
  if 0x6110 ≤ i && i < 0x6200 then (if sub = 0x03 then s.effForceActive (i - 0x6110) n w.node else s)
  else if 0x6000 ≤ i && i < 0x6020 then (if sub = 0x12 && n != 0 then s.effTaskStats (i - 0x6000) else s)
  else if 0x6810 ≤ i && i < 0x6814 then (if sub = 0x12 && n != 0 then s.effPairStats (i - 0x6810) else s)
  else match i, sub with
  | 0x6020, 0x02 => s.effRuntimeCommand n
  | 0x6020, 0x07 => if n != 0 then s.effRetainReset else s
  | 0x6100, 0x03 => if n != 0 then s.effForceClear w.node |>.mirrorForces else s
  | 0x6200, 0x02 => s.effStageData b
  | 0x6200, 0x04 => s.effStageCheck n
  | 0x6200, 0x06 => s.effStageApply
  | 0x6200, 0x0B => s.effRevert
  | 0x6800, 0x05 => s.effInject n
  | _, _ => s

/-- Effects of Counting Frame entries. -/
def State.effFrameEntry (s : State) (i sub n : Nat) (b : List Byte) : State :=
  if 0x5100 ≤ i && i < 0x5200 then (if sub = 0x14 then s.effMoveBatch (i - 0x5100) b else s)
  else if 0x5200 ≤ i && i < 0x5300 then
    (match sub with
      | 0x01 => s.effSolveRequest (i - 0x5200) n
      | 0x02 => s.effSolveAbort (i - 0x5200) n
      | 0x08 => s.chooseHome (i - 0x5200)
      | 0x1A => if n != 0 then s.effSolveStats (i - 0x5200) else s
      | _ => s)
  else if 0x5300 ≤ i && i < 0x5340 then (if sub = 0x0B && n != 0 then s.effBeadStats (i - 0x5300) else s)
  else match i, sub with
  | 0x5000, 0x06 => s.effLoadData b
  | 0x5000, 0x08 => s.effLoadCommit
  | 0x5000, 0x0B => s.effUnload n
  | 0x5000, 0x0C => if n != 0 then s.effLoadClear else s
  | _, _ => s

/-- Effects of Tally entries. -/
def State.effTally (s : State) (i sub n : Nat) : State :=
  if 0x4000 ≤ i && i < 0x4200 then
    (match sub with
      | 0x15 => s.effBankSelect (i - 0x4000) n
      | 0x30 => if n != 0 then s.effLoopStats (i - 0x4000) else s
      | _ => s)
  else if i = 0x4200 then (if sub = 0x0B && n != 0 then s.effTallyStats else s)
  else if 0x4400 ≤ i && i < 0x4800 then
    let l := (i - 0x4400) / 2
    let k := (i - 0x4400) % 2
    if sub = 0xF1 then (if n != 0 then s.effBankCopy l k else s) else s.noteParam l k
  else s

/-- Effects of time entries. -/
def State.effTime (s : State) (i sub n : Nat) : State :=
  if 0x1810 ≤ i && i < 0x1813 then
    let b := i - 0x1810
    (match sub with
      | 0x04 => s.setFreq b (intOf 32 n)
      | 0x05 => s.effStep b n
      | 0x06 => s.effSet b n
      | 0x14 => if n != 0 then s.effBaseStats b else s
      | _ => s)
  else if 0x1820 ≤ i && i < 0x1823 then (if sub = 0x01 then s.effRole (i - 0x1820) n else s)
  else if i = 0x1840 then (if sub = 0x08 && n != 0 then s.effTcStats else s)
  else s

/-- A checked entry of R319: the cycle's settings, the stations' lengths and enables, the ring ports' speed modes. -/
def ecxChecked (i sub : Nat) : Bool :=
  (i == 0x1A00 && 0x01 ≤ sub && sub ≤ 0x05) || (0x1A40 ≤ i && i < 0x1A80 && (sub == 0x01 || sub == 0x04 || sub == 0x05))
    || ((i == 0x1912 || i == 0x1913) && sub == 0x02)

/-- Effects of ring, network and ECX entries. -/
def State.effNet (s : State) (i sub n : Nat) (b : List Byte) : State :=
  let s := if ecxChecked i sub then s.noteEcxCheck else s
  if 0x1B00 ≤ i then (if sub = 0x09 && n != 0 then s.wr (E.Ring.RING_HWM (i - 0x1B00)) (s.fill (i - 0x1B00)) else s)
  else if 0x1A40 ≤ i then
    (match sub with
      | 0x12 => s.effAcyc (i - 0x1A40) b
      | 0x15 => if n != 0 then s.effStationStats (i - 0x1A40) else s
      | _ => s)
  else if 0x1910 ≤ i && i < 0x1914 then
    (match sub with
      | 0x01 => s.effPortEnable (i - 0x1910) n
      | 0x0F => if n != 0 then s.effPortStats (i - 0x1910) else s
      | _ => s)
  else if i = 0x1940 then s.effSource (sub - 1) n
  else s

/-- Effects of CAN entries. -/
def State.effCan (s : State) (i sub n : Nat) (b : List Byte) : State :=
  let c := (i - 0x3000) / 64
  let k := i % 64
  if k = 0 then (if sub = 0x17 && n != 0 then s.effCanStats c else s)
  else if 0x20 ≤ k then
    (match sub with
      | 0x0B => s.effObjSend c (k - 0x20) b
      | 0x14 => if n != 0 then s.effObjStats c (k - 0x20) else s
      | _ => s)
  else s

/-- Effects of field entries. -/
def State.effField (s : State) (w : Writer) (i sub n : Nat) (b : List Byte) : State :=
  if i < 0x2040 then (if sub = 0x08 && n != 0 then s.effDiStats (i - 0x2000) else s)
  else if i < 0x2080 then
    (match sub with
      | 0x10 => s.effTripReset (i - 0x2040) n
      | 0x11 => if n != 0 then s.effDoStats (i - 0x2040) else s
      | _ => s)
  else if i = 0x2090 then (if sub = 0x06 && n != 0 then s.effGrpStats else s)
  else if 0x2100 ≤ i && i < 0x2120 then
    (match sub with
      | 0x0E => s.effTrimCapture (i - 0x2100) n w.node false
      | 0x12 => if n != 0 then s.effAiStats (i - 0x2100) else s
      | _ => s)
  else if 0x2120 ≤ i && i < 0x2130 then
    (match sub with
      | 0x0B => s.effAoTrim (i - 0x2120) n w.node false
      | 0x0C => s.effAoReading (i - 0x2120) n
      | 0x0F => if n != 0 then s.effAoStats (i - 0x2120) else s
      | _ => s)
  else if 0x2200 ≤ i && i < 0x220C then
    let a := i - 0x2200
    if 0x02 ≤ sub && sub ≤ 0x05 then s.effAxisSetting a
    else if sub = 0x1F then s.effAxisCommand a b
    else if sub = 0x2F && n != 0 then s.effAxStats a
    else s
  else if i = 0x2210 then (if sub = 0x04 && n != 0 then s.clear [E.Mot.CMD_REJECTS] else s)
  else s

/-- Effects of safety, twin, ledger and panel entries. -/
def State.effSystem (s : State) (w : Writer) (i sub n : Nat) (b : List Byte) : State :=
  if 0x6920 ≤ i && i < 0x6928 then (if sub = 0x0B then s.effHtStart (i - 0x6920) n else s)
  else match i, sub with
  | 0x6960, 0x06 => s.effSafetyReset n w.node
  | 0x6961, 0x02 => s.effSpsData b
  | 0x6961, 0x04 => s.effSpsCommit n w.node
  | 0x7000, 0x03 => s.openBook
  | 0x7001, k => s.writeReader w k n
  | 0x7002, 0x02 => (s.wr E.Ldg.CLEAR_RESULT 0).clearRing w.node
  | 0x7400, 0x13 => if n != 0 then s.effTwinStats else s
  | 0x7401, 0x02 => s.effRejoin n
  | 0x7401, 0x04 => s.castleRequest 2
  | 0x7401, 0x0B => s.effProof (Config.measured 0x74010B (2 * s.freeCtr) % 2 == 0) (Config.measured 0x74010B (2 * s.freeCtr + 1) % 2 == 0)
  | 0x7800, 0x01 => s.effPanelType
  | 0x7800, 0x08 => s.effPanelEnable n
  | 0x7800, 0x0F => s.effDraw b
  | 0x7800, 0x17 => if n != 0 then s.effPanelStats else s
  | _, _ => s

/-- The effect of an accepted write in the block that owns the entry. -/
def State.effOwner (s : State) (w : Writer) (key : Nat) (v : Value) : State :=
  let i := key / 256
  let sub := key % 256
  let n := valNat v
  let b := valBytes v
  if i < 0x1800 then s.effModule w i sub n b
  else if i < 0x1900 then s.effTime i sub n
  else if i < 0x2000 then s.effNet i sub n b
  else if i < 0x3000 then s.effField w i sub n b
  else if i < 0x4000 then s.effCan i sub n b
  else if i < 0x5000 then s.effTally i sub n
  else if i < 0x6000 then s.effFrameEntry i sub n b
  else if i < 0x6900 then s.effRuntime w i sub n b
  else s.effSystem w i sub n b

/-- A RETAINED entry's write is mirrored to the standby (R484). -/
def State.mirrored (s : State) (key : Nat) : State :=
  if s.active && s.twinBase && retainedKey key then s.mirror key else s

/-- The store and the effect of a write that passed every check. -/
def State.commitWrite (s : State) (w : Writer) (key : Nat) (v : Value) : State :=
  (((s.reached key v).storeValue key v).effOwner w key v).mirrored key

/-- What a refused write leaves behind: nothing, unless it reached its block. -/
def State.refuseWrite (s : State) (w : Writer) (key : Nat) (v : Value) (st : Nat) : State :=
  let s := s.reached key v
  if key = 0x700202 && st = stRange then s.rejectedClear w else s

/-- A write (R45 to R50): its status, and the state with the value stored and its effect, or the entry unchanged. -/
def State.write (s : State) (w : Writer) (key : Nat) (ty : Option Ty) (v : Option Value) : State × Nat :=
  let st := s.chkForm w key ty v
  match st, v with
  | 0, some x =>
    let st := s.chkStore w key x
    if st = 0 then ((s.commitWrite w key x).servicesCommit, 0) else (s.refuseWrite w key x st, st)
  | 0, none => (s, 0x07)
  | st, _ => (s, st)

end Sys2Proof.Machine
end

