-- ==== Sys2Proof/Machine/DictSteps.lean ====
section
/-!
DEFINITION. Machine/DictSteps.lean: the commands that write one entry, and the two reads that act (R274, R514). Each is the one write
path of Machine/Dictionary.lean at its entry.
-/
namespace Sys2Proof.Machine

/-! ## The shared step -/

/-- The services run: on their pair, or on D0 of a STANDBY module in maintenance (R29, R480). -/
def State.servicesUp (s : State) : Bool :=
  s.power.boot.isNone && !s.power.bare
    && (if s.standby then s.twin.maintenance else s.rd E.Dbl.SERVICES_PAIR < 4 && s.pairRuns (s.rd E.Dbl.SERVICES_PAIR))

/-- Level of the dictionary port (R56). -/
def State.portLevel (s : State) : Level :=
  match s.rt.archive with
  | some a => if a.portLevel == .engineer then .engineer else .operator
  | none => .operator

/-- The writer is a session that is open, as it is open, or the dictionary port at its level (R56, R80). -/
def State.writerOk (s : State) (w : Writer) : Bool :=
  match w.session with
  | some n => s.eop.sessions.any (fun x => x.id == n && x.level == w.level && (x.port == 4) == w.j16 && x.node == w.node)
  | none => !w.j16 && w.level == s.portLevel && w.node == 0x40000

/-- A dictionary step of `w`: nothing while the services do not run, NO_SESSION for a writer that is not there. -/
def State.dictStep (s : State) (w : Writer) (f : State → State × Nat) : State :=
  if !s.servicesUp then s
  else if !s.writerOk w then { s with odStatus := 0x10 }
  else
    let (t, st) := f s
    { t with odStatus := st }

/-- The abort that an accepted write placed, whose decision its response awaits (R83). -/
def abortOf (before after : State) (key : Nat) (v : Value) : Option (Bool × Nat × Nat) :=
  let i := key / 256
  if 0x5200 ≤ i && i < 0x5300 && key % 256 == 0x02 then some (false, i - 0x5200, valNat v)
  else if 0x2200 ≤ i && i < 0x220C && key % 256 == 0x1F then
    let c := motionOf (valBytes v) 0xFE
    if c.command = 6 && (before.ring 42).q.length < (after.ring 42).q.length then some (true, i - 0x2200, c.id) else none
  else none

/-- A write of entry `key`; the status of an accepted abort follows at its decision (R83). -/
def State.writeStep (s : State) (w : Writer) (key : Nat) (ty : Ty) (v : Value) : State :=
  s.dictStep w (fun s =>
    let (t, st) := s.write w key (some ty) (some v)
    (t, if st = 0 && (abortOf s t key v).isSome then t.odStatus else st))

/-- A read of entry `key`: its value as an EOP payload carries it (R61). -/
def State.readStep (s : State) (w : Writer) (key : Nat) : State :=
  s.dictStep w (fun s =>
    let (st, ty, v) := s.readEntry (readerOf w) key
    ({ s.delivered (readerOf w) key with odValue := if st = 0 then valueBe ty v else [] }, st))

/-- The key of sub-index `sub` of instance `n` of `cnt` at `base`; 0, which no entry has, for an instance that does not exist. -/
def inst (base n cnt sub : Nat) : Nat := if n < cnt then (base + n) * 256 + sub else 0

/-- A dictionary step at TB3 `at_`. -/
def dictWrite (at_ : Nat) (w : Writer) (key : Nat) (ty : Ty) (v : Value) (s : State) : Result :=
  .next ((s.advance at_).writeStep w key ty v)

/-- A BOOL as a value. -/
def vb (b : Bool) : Value := .num (ofBool b)

/-! ## Commands -/

/-- REGISTER_WRITE (R49): any entry. -/
def execRegisterWrite (at_ : Nat) (w : Writer) (key : Nat) (ty : Ty) (v : Value) (s : State) : Result := dictWrite at_ w key ty v s
/-- WARM_RESTART_REQUEST (R560). -/
def execWarmRestartRequest (at_ : Nat) (w : Writer) (s : State) : Result := dictWrite at_ w E.Id.RESTART_REQUEST.key .u8 (.num 1) s
/-- COLD_RESTART_REQUEST (R560). -/
def execColdRestartRequest (at_ : Nat) (w : Writer) (s : State) : Result := dictWrite at_ w E.Id.RESTART_REQUEST.key .u8 (.num 2) s
/-- RESTORE_FACTORY (R55). -/
def execRestoreFactory (at_ : Nat) (w : Writer) (nonce : Nat) (s : State) : Result := dictWrite at_ w E.Restore.RESTORE_FACTORY.key .u32 (.num nonce) s
/-- KEY_WRITE (R81). -/
def execKeyWrite (at_ : Nat) (w : Writer) (level : Level) (k : List Byte) (s : State) : Result :=
  dictWrite at_ w (0x110001 + levelNum level) .octets (.bytes k) s
/-- RING_RESET_HWM (R39). -/
def execRingResetHwm (at_ : Nat) (w : Writer) (ring : Nat) (s : State) : Result := dictWrite at_ w (inst 0x1B00 ring 48 0x09) .bool (vb true) s
/-- The entry at a key is a RESET_STATS. -/
def State.isStats (s : State) (key : Nat) : Bool :=
  match s.entryAt key with
  | .ok (row, _) => row.name == "RESET_STATS"
  | .error _ => false
/-- RESET_STATS (R122): the entry at `key` is one. -/
def execResetStats (at_ : Nat) (w : Writer) (key : Nat) (s : State) : Result :=
  dictWrite at_ w (if s.isStats key then key else 0) .bool (vb true) s
/-- RUN_COMMAND (R97). -/
def execRunCommand (at_ : Nat) (w : Writer) (s : State) : Result := dictWrite at_ w E.Run.RUNTIME_COMMAND.key .u8 (.num 1) s
/-- STOP_COMMAND (R583). -/
def execStopCommand (at_ : Nat) (w : Writer) (s : State) : Result := dictWrite at_ w E.Run.RUNTIME_COMMAND.key .u8 (.num 2) s
/-- STOP_NOW_COMMAND (R97). -/
def execStopNowCommand (at_ : Nat) (w : Writer) (s : State) : Result := dictWrite at_ w E.Run.RUNTIME_COMMAND.key .u8 (.num 3) s
/-- HOLD_COMMAND (R99). -/
def execHoldCommand (at_ : Nat) (w : Writer) (s : State) : Result := dictWrite at_ w E.Run.RUNTIME_COMMAND.key .u8 (.num 4) s
/-- CONTINUE_COMMAND (R97). -/
def execContinueCommand (at_ : Nat) (w : Writer) (s : State) : Result := dictWrite at_ w E.Run.RUNTIME_COMMAND.key .u8 (.num 5) s
/-- STEP_COMMAND (R97). -/
def execStepCommand (at_ : Nat) (w : Writer) (s : State) : Result := dictWrite at_ w E.Run.RUNTIME_COMMAND.key .u8 (.num 6) s
/-- HOLD_PERMIT_WRITE (R99). -/
def execHoldPermitWrite (at_ : Nat) (w : Writer) (v : Bool) (s : State) : Result := dictWrite at_ w E.Run.HOLD_PERMIT.key .bool (vb v) s
/-- RETAIN_RESET (R103). -/
def execRetainReset (at_ : Nat) (w : Writer) (s : State) : Result := dictWrite at_ w E.Run.RETAIN_RESET.key .bool (vb true) s
/-- FORCE_POINT_WRITE (R107). -/
def execForcePointWrite (at_ : Nat) (w : Writer) (slot point : Nat) (s : State) : Result := dictWrite at_ w (inst 0x6110 slot 240 0x01) .u32 (.num point) s
/-- FORCE_VALUE_WRITE (R108): binary64 bits. -/
def execForceValueWrite (at_ : Nat) (w : Writer) (slot value : Nat) (s : State) : Result := dictWrite at_ w (inst 0x6110 slot 240 0x02) .f64 (.num value) s
/-- FORCE_ACTIVATE (R109). -/
def execForceActivate (at_ : Nat) (w : Writer) (slot : Nat) (s : State) : Result := dictWrite at_ w (inst 0x6110 slot 240 0x03) .bool (vb true) s
/-- FORCE_REMOVE (R109). -/
def execForceRemove (at_ : Nat) (w : Writer) (slot : Nat) (s : State) : Result := dictWrite at_ w (inst 0x6110 slot 240 0x03) .bool (vb false) s
/-- FORCE_CLEAR_ALL (R111). -/
def execForceClearAll (at_ : Nat) (w : Writer) (s : State) : Result := dictWrite at_ w E.Force.FORCE_CLEAR_ALL.key .bool (vb true) s
/-- STAGE_DATA (R113). -/
def execStageData (at_ : Nat) (w : Writer) (b : List Byte) (s : State) : Result := dictWrite at_ w E.Online.STAGE_DATA.key .octets (.bytes b) s
/-- STAGE_CHECK (R113). -/
def execStageCheck (at_ : Nat) (w : Writer) (s : State) : Result := dictWrite at_ w E.Online.STAGE_CHECK.key .bool (vb true) s
/-- STAGE_APPLY (R114). -/
def execStageApply (at_ : Nat) (w : Writer) (nonce : Nat) (s : State) : Result := dictWrite at_ w E.Online.STAGE_APPLY.key .u32 (.num nonce) s
/-- REVERT (R114). -/
def execRevert (at_ : Nat) (w : Writer) (nonce : Nat) (s : State) : Result := dictWrite at_ w E.Online.REVERT.key .u32 (.num nonce) s
/-- INJECT_TEST_RUN (R145). -/
def execInjectTestRun (at_ : Nat) (w : Writer) (pair : Nat) (s : State) : Result := dictWrite at_ w E.Dbl.INJECT_TEST_RUN.key .u8 (.num pair) s
/-- LOAD_DATA (R159). -/
def execLoadData (at_ : Nat) (w : Writer) (b : List Byte) (s : State) : Result := dictWrite at_ w E.Frame.LOAD_DATA.key .octets (.bytes b) s
/-- LOAD_COMMIT (R159). -/
def execLoadCommit (at_ : Nat) (w : Writer) (nonce : Nat) (s : State) : Result := dictWrite at_ w E.Frame.LOAD_COMMIT.key .u32 (.num nonce) s
/-- LOAD_CLEAR (R159). -/
def execLoadClear (at_ : Nat) (w : Writer) (s : State) : Result := dictWrite at_ w E.Frame.LOAD_CLEAR.key .bool (vb true) s
/-- UNLOAD_BOARD (R161). -/
def execUnloadBoard (at_ : Nat) (w : Writer) (board : Nat) (s : State) : Result := dictWrite at_ w E.Frame.UNLOAD_BOARD.key .u8 (.num board) s
/-- MOVE_BATCH (R165). -/
def execMoveBatch (at_ : Nat) (w : Writer) (board : Nat) (b : List Byte) (s : State) : Result := dictWrite at_ w (inst 0x5100 board 256 0x14) .octets (.bytes b) s
/-- SOLVE_REQUEST (R190): deadline in µs after the commit. -/
def execSolveRequest (at_ : Nat) (w : Writer) (board us : Nat) (s : State) : Result := dictWrite at_ w (inst 0x5200 board 256 0x01) .u32 (.num us) s
/-- SOLVE_ABORT (R201): the status of the dictionary follows at the decision (R83). -/
def execSolveAbort (at_ : Nat) (w : Writer) (board id : Nat) (s : State) : Result := dictWrite at_ w (inst 0x5200 board 256 0x02) .u32 (.num id) s
/-- HOME_WRITE (R194). -/
def execHomeWrite (at_ : Nat) (w : Writer) (board home : Nat) (s : State) : Result := dictWrite at_ w (inst 0x5200 board 256 0x08) .u8 (.num home) s
/-- BANK_SELECT (R245). -/
def execBankSelect (at_ : Nat) (w : Writer) (loop bank : Nat) (s : State) : Result := dictWrite at_ w (inst 0x4000 loop 512 0x15) .u8 (.num bank) s
/-- LOOP_MODE_WRITE (R239). -/
def execLoopModeWrite (at_ : Nat) (w : Writer) (loop mode : Nat) (s : State) : Result := dictWrite at_ w (inst 0x4000 loop 512 0x07) .u8 (.num mode) s
/-- OUT_MAN_WRITE (R239): binary32 bits. -/
def execOutManWrite (at_ : Nat) (w : Writer) (loop value : Nat) (s : State) : Result := dictWrite at_ w (inst 0x4000 loop 512 0x0E) .f32 (.num value) s
/-- BANK_PARAMETER_WRITE (R247): parameter `k` of position `j` of a bank. -/
def execBankParameterWrite (at_ : Nat) (w : Writer) (loop bank j k value : Nat) (s : State) : Result :=
  dictWrite at_ w (if bank < 2 && j < 24 && k < 10 then inst 0x4400 (2 * loop + bank) 1024 (1 + 10 * j + k) else 0) .f32 (.num value) s
/-- BANK_COPY (R263). -/
def execBankCopy (at_ : Nat) (w : Writer) (loop bank : Nat) (s : State) : Result :=
  dictWrite at_ w (if bank < 2 then inst 0x4400 (2 * loop + bank) 1024 0xF1 else 0) .bool (vb true) s
/-- CHARACTERISER_TABLE_WRITE (R264): POINTS, X_i or Y_i by its sub-index. -/
def execCharacteriserTableWrite (at_ : Nat) (w : Writer) (table sub value : Nat) (s : State) : Result :=
  dictWrite at_ w (if sub < 34 then inst 0x4280 table 128 sub else 0) (if sub = 1 then .u8 else .f32) (.num value) s
/-- FREQ_ADJ_WRITE (R270): ppt. -/
def execFreqAdjWrite (at_ : Nat) (w : Writer) (base : Nat) (ppt : Int) (s : State) : Result := dictWrite at_ w (inst 0x1810 base 3 0x04) .i32 (.num (natOf 32 ppt)) s
/-- BASE_STEP (R270): nanoseconds. -/
def execBaseStep (at_ : Nat) (w : Writer) (base : Nat) (ns : Int) (s : State) : Result := dictWrite at_ w (inst 0x1810 base 3 0x05) .u64 (.num (natOf 64 ns)) s
/-- BASE_SET (R270): a TIME96. -/
def execBaseSet (at_ : Nat) (w : Writer) (base time : Nat) (s : State) : Result := dictWrite at_ w (inst 0x1810 base 3 0x06) .time96 (.num time) s
/-- PTP_ROLE_WRITE (R281). -/
def execPtpRoleWrite (at_ : Nat) (w : Writer) (base role : Nat) (s : State) : Result := dictWrite at_ w (inst 0x1820 base 3 0x01) .u8 (.num role) s
/-- TB_SNAPSHOT (R274): the read captures all bases. -/
def execTbSnapshot (at_ : Nat) (w : Writer) (s : State) : Result := .next ((s.advance at_).readStep w E.Time.TB_SNAPSHOT.key)
/-- ECX_ENABLE_WRITE (R319). -/
def execEcxEnableWrite (at_ : Nat) (w : Writer) (v : Bool) (s : State) : Result := dictWrite at_ w E.Ecx.ECX_ENABLE.key .bool (vb v) s
/-- STATION_ENABLE_WRITE (R323). -/
def execStationEnableWrite (at_ : Nat) (w : Writer) (station : Nat) (v : Bool) (s : State) : Result := dictWrite at_ w (inst 0x1A40 station 64 0x01) .bool (vb v) s
/-- ACYC_REQUEST (R328). -/
def execAcycRequest (at_ : Nat) (w : Writer) (station : Nat) (b : List Byte) (s : State) : Result := dictWrite at_ w (inst 0x1A40 station 64 0x12) .octets (.bytes b) s
/-- The key of sub-index `sub` of offset `o` of a channel. -/
def canKey (channel o sub : Nat) : Nat := if channel < 4 then (0x3000 + 64 * channel + o) * 256 + sub else 0
/-- CHANNEL_MODE_WRITE (R332). -/
def execChannelModeWrite (at_ : Nat) (w : Writer) (channel mode : Nat) (s : State) : Result := dictWrite at_ w (canKey channel 0 0x01) .u8 (.num mode) s
/-- OBJ_SEND (R335). -/
def execObjSend (at_ : Nat) (w : Writer) (channel object : Nat) (b : List Byte) (s : State) : Result :=
  dictWrite at_ w (if object < 32 then canKey channel (0x20 + object) 0x0B else 0) .octets (.bytes b) s
/-- DO_PROFILE_WRITE (R363). -/
def execDoProfileWrite (at_ : Nat) (w : Writer) (output profile : Nat) (s : State) : Result := dictWrite at_ w (inst 0x2040 output 64 0x01) .u8 (.num profile) s
/-- TRIP_RESET (R368). -/
def execTripReset (at_ : Nat) (w : Writer) (output : Nat) (s : State) : Result := dictWrite at_ w (inst 0x2040 output 64 0x10) .bool (vb true) s
/-- TRIM_CAPTURE_FIRST (R390). -/
def execTrimCaptureFirst (at_ : Nat) (w : Writer) (input : Nat) (s : State) : Result := dictWrite at_ w (inst 0x2100 input 32 0x0E) .u8 (.num 1) s
/-- TRIM_CAPTURE_SECOND (R390). -/
def execTrimCaptureSecond (at_ : Nat) (w : Writer) (input : Nat) (s : State) : Result := dictWrite at_ w (inst 0x2100 input 32 0x0E) .u8 (.num 2) s
/-- TRIM_CAPTURE_ABANDON (R390). -/
def execTrimCaptureAbandon (at_ : Nat) (w : Writer) (input : Nat) (s : State) : Result := dictWrite at_ w (inst 0x2100 input 32 0x0E) .u8 (.num 3) s
/-- AO_TRIM_DRIVE_4 (R392). -/
def execAoTrimDrive4 (at_ : Nat) (w : Writer) (output : Nat) (s : State) : Result := dictWrite at_ w (inst 0x2120 output 16 0x0B) .u8 (.num 1) s
/-- AO_TRIM_DRIVE_20 (R392). -/
def execAoTrimDrive20 (at_ : Nat) (w : Writer) (output : Nat) (s : State) : Result := dictWrite at_ w (inst 0x2120 output 16 0x0B) .u8 (.num 2) s
/-- AO_TRIM_APPLY (R392). -/
def execAoTrimApply (at_ : Nat) (w : Writer) (output : Nat) (s : State) : Result := dictWrite at_ w (inst 0x2120 output 16 0x0B) .u8 (.num 3) s
/-- AO_TRIM_ABANDON (R392). -/
def execAoTrimAbandon (at_ : Nat) (w : Writer) (output : Nat) (s : State) : Result := dictWrite at_ w (inst 0x2120 output 16 0x0B) .u8 (.num 4) s
/-- AO_TRIM_READING (R392): binary32 bits, mA. -/
def execAoTrimReading (at_ : Nat) (w : Writer) (output value : Nat) (s : State) : Result := dictWrite at_ w (inst 0x2120 output 16 0x0C) .f32 (.num value) s
/-- AXIS_SETTING_WRITE (R414): VEL_MAX, ACCEL, DECEL or JERK by its sub-index 0x02 to 0x05; binary32 bits. -/
def execAxisSettingWrite (at_ : Nat) (w : Writer) (axis sub value : Nat) (s : State) : Result :=
  dictWrite at_ w (if 2 ≤ sub && sub ≤ 5 then inst 0x2200 axis 12 sub else 0) .f32 (.num value) s
/-- HT_START (R451). -/
def execHtStart (at_ : Nat) (w : Writer) (sb : Nat) (s : State) : Result := dictWrite at_ w (inst 0x6920 sb 8 0x0B) .bool (vb true) s
/-- SAFETY_RESET (R438). -/
def execSafetyReset (at_ : Nat) (w : Writer) (s : State) : Result := dictWrite at_ w E.Saf.SAFETY_RESET.key .bool (vb true) s
/-- SPS_DATA (R464). -/
def execSpsData (at_ : Nat) (w : Writer) (b : List Byte) (s : State) : Result := dictWrite at_ w E.Saf.SPS_DATA.key .octets (.bytes b) s
/-- SPS_COMMIT (R464). -/
def execSpsCommit (at_ : Nat) (w : Writer) (crc : Nat) (s : State) : Result := dictWrite at_ w E.Saf.SPS_COMMIT.key .u32 (.num crc) s
/-- CASTLE_REQUEST (R489). -/
def execCastleRequest (at_ : Nat) (w : Writer) (nonce : Nat) (s : State) : Result := dictWrite at_ w E.Castle.CASTLE_REQUEST.key .u32 (.num nonce) s
/-- REJOIN (R496). -/
def execRejoin (at_ : Nat) (w : Writer) (s : State) : Result := dictWrite at_ w E.Castle.REJOIN.key .bool (vb true) s
/-- A write to PROOF_TEST whose first two steps answer as observed (Table TWN-9). -/
def State.proofStep (s : State) (w : Writer) (nonce : Nat) (step1 step2 : Bool) : State × Nat :=
  let key := E.Castle.PROOF_TEST.key
  let st := s.chkWrite w key (some .u32) (some (.num nonce))
  if st = 0 then (((s.reached key (.num nonce)).effProof step1 step2).servicesCommit, 0)
  else if s.chkForm w key (some .u32) (some (.num nonce)) = 0 then (s.reached key (.num nonce), st)
  else (s, st)
/-- PROOF_TEST (R499): the results of the standby's tests and of the audit. -/
def execProofTest (at_ : Nat) (w : Writer) (nonce : Nat) (step1 step2 : Bool) (s : State) : Result :=
  .next ((s.advance at_).dictStep w (fun s => s.proofStep w nonce step1 step2))
/-- BOOK_OPEN (R512). -/
def execBookOpen (at_ : Nat) (w : Writer) (nonce : Nat) (s : State) : Result := dictWrite at_ w E.Ldg.BOOK_OPEN.key .u32 (.num nonce) s
/-- READ_BLOCK (R514): the read advances the reader's cursor. -/
def execReadBlock (at_ : Nat) (w : Writer) (s : State) : Result := .next ((s.advance at_).readStep w E.Ldg.READ_BLOCK.key)
/-- CLEAR_RING (R515). -/
def execClearRing (at_ : Nat) (w : Writer) (proof : List Byte) (s : State) : Result := dictWrite at_ w E.Ldg.CLEAR_RING.key .octets (.bytes proof) s
/-- SLATE_DRAW (R528). -/
def execSlateDraw (at_ : Nat) (w : Writer) (b : List Byte) (s : State) : Result := dictWrite at_ w E.Slate.SLATE_DRAW.key .octets (.bytes b) s
/-- PANEL_ENABLE_WRITE (R526). -/
def execPanelEnableWrite (at_ : Nat) (w : Writer) (v : Bool) (s : State) : Result := dictWrite at_ w E.Slate.PANEL_ENABLE.key .bool (vb v) s
/-- PANEL_TYPE_WRITE (R519). -/
def execPanelTypeWrite (at_ : Nat) (w : Writer) (type : Nat) (s : State) : Result := dictWrite at_ w E.Slate.PANEL_TYPE.key .u8 (.num type) s
/-- WAVEFORM_SET_WRITE (R524). -/
def execWaveformSetWrite (at_ : Nat) (w : Writer) (b : List Byte) (s : State) : Result := dictWrite at_ w E.Slate.WAVEFORM_SET.key .octets (.bytes b) s
/-- SLATE_MODE_WRITE (R534). -/
def execSlateModeWrite (at_ : Nat) (w : Writer) (mode : Nat) (s : State) : Result := dictWrite at_ w E.Slate.SLATE_MODE.key .u8 (.num mode) s
/-- FW_STAGE_DATA (R556). -/
def execFwStageData (at_ : Nat) (w : Writer) (b : List Byte) (s : State) : Result := dictWrite at_ w E.Start.FW_STAGE_DATA.key .octets (.bytes b) s
/-- FW_STAGE_CHECK (R556). -/
def execFwStageCheck (at_ : Nat) (w : Writer) (s : State) : Result := dictWrite at_ w E.Start.FW_STAGE_CHECK.key .bool (vb true) s
/-- FW_ACTIVATE (R556). -/
def execFwActivate (at_ : Nat) (w : Writer) (nonce : Nat) (s : State) : Result := dictWrite at_ w E.Start.FW_ACTIVATE.key .u32 (.num nonce) s

end Sys2Proof.Machine
end

