-- ==== Sys2Proof/Machine/DictServices.lean ====
section
/-!
DEFINITION. Machine/DictServices.lean: the services of the dictionary server, which EOP and the application's dictionary port share
(R56): READ, WRITE, READ_MULTI, DESCRIBE, segmented transfers and groups, by their payloads (Tables DIC-9 to DIC-11).
-/
namespace Sys2Proof.Machine

/-- Who asks: as a reader, and as a writer. -/
structure Client where
  r : Reader
  w : Writer

/-- What a service answers: status and payload; with `abort`, the response waits for the decision on an abort (R83): whether it is
one of a motion command, its board or axis, and the identifier. -/
structure Ans where
  st : Nat
  pay : List Byte := []
  abort : Option (Bool × Nat × Nat) := none

/-- An answer without payload. -/
def ans (st : Nat) : Ans := { st := st }

/-- The key that three bytes of a payload give. -/
def keyAt (p : List Byte) (off : Nat) : Nat := beAt p off 3

/-- All of these bytes are zero. -/
def zeros (p : List Byte) : Bool := p.all (· == 0)

/-! ## READ, WRITE, READ_MULTI (R64) -/

/-- A write with the type code and the bytes of a payload. -/
def State.writeBytes (s : State) (c : Client) (key code : Nat) (raw : List Byte) : State × Ans :=
  let ty := codeTy code
  let v := ty.bind (fun t => beValue t raw)
  let (t, st) := s.write c.w key ty v
  (t, { st := st, abort := if st = 0 then abortOf s t key (v.getD (.num 0)) else none })

/-- READ. -/
def State.svcRead (s : State) (c : Client) (p : List Byte) : State × Ans :=
  if p.length != 4 || beAt p 3 1 != 0 then (s, ans 0x02)
  else
    let (st, ty, v) := s.readEntry c.r (keyAt p 0)
    let b := valueBe ty v
    if st != 0 then (s, ans st)
    else if 1024 < b.length then (s, { st := 0x0D, pay := beBytes 4 b.length })
    else (s.delivered c.r (keyAt p 0), { st := 0, pay := beBytes 1 (tyCode ty) ++ beBytes 1 0 ++ beBytes 2 b.length ++ b })

/-- WRITE. -/
def State.svcWrite (s : State) (c : Client) (p : List Byte) : State × Ans :=
  if p.length < 6 || p.length != 6 + beAt p 4 2 then (s, ans 0x02)
  else if 1024 < beAt p 4 2 then (s, ans 0x0D)
  else s.writeBytes c (keyAt p 0) (beAt p 3 1) (p.drop 6)

/-- One address of a READ_MULTI: the answer's bytes, of at most `room`. -/
def State.multiOne (s : State) (c : Client) (key room : Nat) : State × List Byte :=
  let (st, ty, v) := s.readEntry c.r key
  let b := if st = 0 then valueBe ty v else []
  let head := fun (st n : Nat) => beBytes 1 st ++ beBytes 1 (if st = 4 || st = 5 then 0 else tyCode ty) ++ beBytes 2 n
  if st != 0 then (s, head st 0)
  else if 1024 < b.length then (s, head 0x0D 0)
  else if room < 4 + b.length then (s, head 0x0E 0)
  else (s.delivered c.r key, head 0 b.length ++ b)

/-- The addresses of a READ_MULTI in order, 4 bytes kept for each one still to come. -/
def State.multi (s : State) (c : Client) : List Nat → Nat → State × List Byte
  | [], _ => (s, [])
  | key :: rest, room =>
    let (s, b) := s.multiOne c key (room - 4 * rest.length)
    let (s, bs) := s.multi c rest (room - b.length)
    (s, b ++ bs)

/-- READ_MULTI. -/
def State.svcReadMulti (s : State) (c : Client) (p : List Byte) : State × Ans :=
  let n := beAt p 0 1
  if n < 1 || 32 < n || p.length != 4 + 4 * n || !zeros (slice p 1 3) || !(List.range n).all (fun i => beAt p (7 + 4 * i) 1 == 0) then (s, ans 0x02)
  else
    let (s, b) := s.multi c ((List.range n).map (fun i => keyAt p (4 + 4 * i))) 1396
    (s, { st := 0, pay := beBytes 1 n ++ beBytes 3 0 ++ b })

/-! ## DESCRIBE (R63) -/

/-- Code of an access class. -/
def accCode : Access → Nat
  | .ro => 0 | .rw => 1 | .wo => 2 | .const => 3

/-- Code of a retention class. -/
def retCode : Retention → Nat
  | .volatile => 0 | .retained => 1 | .factory => 2

/-- Smallest and largest value of a numeric type, as bits. -/
def typeEnds : Ty → Nat × Nat
  | .i16 => (0x8000, 0x7FFF)
  | .i32 => (0x80000000, 0x7FFFFFFF)
  | .f32 => (0xFF7FFFFF, 0x7F7FFFFF)
  | .f64 => (0xFFEFFFFFFFFFFFFF, 0x7FEFFFFFFFFFFFFF)
  | ty => (0, 2 ^ Ty.bits ty - 1)

/-- MIN and MAX of an entry. -/
def rangeEnds (ty : Ty) : Range → Nat × Nat
  | .any => if byteType ty then (0, maxBytes ty) else typeEnds ty
  | .u lo hi _ => (lo, hi)
  | .orEq x lo hi => (min x lo, max x hi)
  | .i m => (natOf (Ty.bits ty) (-(m : Int)), m)
  | .ir lo hi => (natOf (Ty.bits ty) lo, natOf (Ty.bits ty) hi)
  | .f lo hi => (lo, hi)
  | .fs m hi => (fmt32.neg m, hi)
  | .orF x _ hi => (x, hi)
  | .len lo hi => (lo, hi)

/-- MIN and MAX as bytes: absent for BOOL and TIME96, lengths for STR and OCTETS. -/
def endsBe (ty : Ty) (r : Range) : List Byte :=
  let (lo, hi) := rangeEnds ty r
  match ty with
  | .bool => []
  | .time96 => []
  | ty => let n := if byteType ty then 2 else Ty.bits ty / 8
          beBytes n lo ++ beBytes n hi

/-- A name in ASCII. -/
def nameBytes (n : String) : List Byte := (n.toList.map (fun c => BitVec.ofNat 8 c.toNat)).take 32

/-- The description of an entry. A default that leaves no room for the rest of the payload is left out. -/
def State.describe (s : State) (row : Row) (e : Ent) : List Byte :=
  let writable := row.acc == .rw || row.acc == .wo
  let d := if row.acc = .wo then [] else valueBe row.ty (s.base e)
  let d := if 1300 < d.length then [] else d
  let n := nameBytes row.name
  beBytes 1 (tyCode row.ty) ++ beBytes 1 (accCode row.acc) ++ beBytes 1 (retCode row.ret)
    ++ beBytes 1 (if writable then levelNum row.level else 0xFF) ++ beBytes 1 row.cond ++ beBytes 1 n.length ++ beBytes 2 d.length
    ++ d ++ endsBe row.ty row.range ++ n

/-- DESCRIBE. -/
def State.svcDescribe (s : State) (p : List Byte) : State × Ans :=
  if p.length != 4 || beAt p 3 1 != 0 then (s, ans 0x02)
  else
    match s.entryAt (keyAt p 0) with
    | .error st => (s, ans st)
    | .ok (row, e) => (s, { st := 0, pay := s.describe row e })

/-! ## Segmented transfers (R65 to R67) -/

/-- The open transfer of a client, and whether its last one ended by its idle time. -/
def State.transferOf (s : State) (r : Reader) : Option Transfer × Bool :=
  match r with
  | .session n => ((s.eop.sessions.find? (fun (x : Session) => x.id == n)).map (fun x => (x.transfer, x.timedOut))).getD (none, false)
  | .port => (s.eop.portTransfer, s.eop.portTimedOut)
  | .anon => (none, false)

/-- The client's transfer replaced. -/
def State.setTransfer (s : State) (r : Reader) (t : Option Transfer) (timedOut : Bool := false) : State :=
  match r with
  | .session n => { s with eop := { s.eop with sessions := s.eop.sessions.map (fun (x : Session) =>
      if x.id == n then { x with transfer := t, timedOut := timedOut } else x) } }
  | .port => { s with eop := { s.eop with portTransfer := t, portTimedOut := timedOut } }
  | .anon => s

/-- A transfer with no request for 5 s has ended (R67). -/
def State.staleTransfer (s : State) (t : Transfer) : Bool := decide (t.lastReq + 5000000000 ≤ (s.now : Int))

/-- SEGMENTS of a value of `n` bytes. -/
def segCount (n : Nat) : Nat := if n = 0 then 1 else (n + 1023) / 1024

/-- SEG_READ_START. -/
def State.segReadStart (s : State) (c : Client) (p : List Byte) : State × Ans :=
  let s := s.setTransfer c.r none
  if p.length != 4 || beAt p 3 1 != 0 then (s, ans 0x02)
  else
    let key := keyAt p 0
    let (st, ty, v) := s.readEntry c.r key
    let b := valueBe ty v
    if st != 0 then (s, ans st)
    else
      let t : Transfer := { write := false, key := key, ty := ty, total := b.length, data := b, lastReq := s.now }
      ((s.delivered c.r key).setTransfer c.r (some t),
        { st := 0, pay := beBytes 1 (tyCode ty) ++ beBytes 1 0 ++ beBytes 2 (segCount b.length) ++ beBytes 4 b.length })

/-- A value of `n` bytes has the length of the type. -/
def totalOk (ty : Ty) (n : Nat) : Bool := if byteType ty then n ≤ maxBytes ty else n == Ty.bits ty / 8

/-- SEG_WRITE_START. -/
def State.segWriteStart (s : State) (c : Client) (p : List Byte) : State × Ans :=
  let s := s.setTransfer c.r none
  if p.length != 8 then (s, ans 0x02)
  else
    let key := keyAt p 0
    let total := beAt p 4 4
    match codeTy (beAt p 3 1) with
    | none => let st := s.chkForm c.w key none none
              (s, ans (if st = 0 then 0x06 else st))
    | some ty =>
      let st := s.chkForm c.w key (some ty) (some (if byteType ty then .bytes [] else .num 0))
      if st != 0 then (s, ans st)
      else if !totalOk ty total then (s, ans 0x07)
      else
        (s.setTransfer c.r (some { write := true, key := key, ty := ty, total := total, lastReq := s.now }),
          { st := 0, pay := beBytes 2 (segCount total) ++ beBytes 2 0 })

/-- SEG_READ_PART of the open read transfer. -/
def readPart (t : Transfer) (p : List Byte) : Ans :=
  let k := beAt p 0 2
  if p.length != 4 || beAt p 2 2 != 0 then ans 0x02
  else if segCount t.total ≤ k then ans 0x19
  else
    let d := slice t.data (1024 * k) (min 1024 (t.total - 1024 * k))
    { st := 0, pay := beBytes 2 k ++ beBytes 2 d.length ++ d }

/-- The value that all segments give. -/
def joined (t : Transfer) : List Byte := (List.range (segCount t.total)).flatMap (fun k => t.segs.fetch [] k)

/-- SEG_WRITE_PART of the open write transfer: the write commits at its last missing segment (R66). -/
def State.writePart (s : State) (c : Client) (t : Transfer) (p : List Byte) : State × Ans :=
  let k := beAt p 0 2
  let d := p.drop 4
  if p.length < 4 || d.length != beAt p 2 2 then (s, ans 0x02)
  else if segCount t.total ≤ k then (s, ans 0x19)
  else if d.length != (if k + 1 = segCount t.total then t.total - 1024 * k else 1024) then (s, ans 0x07)
  else
    let t := { t with segs := t.segs.put k d }
    let got := t.segs.cells.length
    let head := beBytes 2 k ++ beBytes 2 got
    if got < segCount t.total then (s.setTransfer c.r (some t), { st := 0, pay := head })
    else
      let (s, a) := (s.setTransfer c.r none).writeBytes c t.key (tyCode t.ty) (joined t)
      (s, { a with pay := head })

/-- SEG_READ_PART, SEG_WRITE_PART (R65, R67). -/
def State.segPart (s : State) (c : Client) (write : Bool) (p : List Byte) : State × Ans :=
  match s.transferOf c.r with
  | (none, true) => (s.setTransfer c.r none, ans 0x1A)
  | (none, false) => (s, ans 0x18)
  | (some t, _) =>
    if s.staleTransfer t then (s.setTransfer c.r none, ans 0x1A)
    else if t.write != write then (s, ans 0x18)
    else
      let t := { t with lastReq := s.now }
      let s := s.setTransfer c.r (some t)
      if write then s.writePart c t p else (s, readPart t p)

/-- SEG_ABORT. -/
def State.segAbort (s : State) (c : Client) (p : List Byte) : State × Ans :=
  if !p.isEmpty then (s, ans 0x02)
  else
    match s.transferOf c.r with
    | (none, true) => (s.setTransfer c.r none, ans 0x1A)
    | (some t, _) => (s.setTransfer c.r none, ans (if s.staleTransfer t then 0x1A else 0))
    | (none, false) => (s, ans 0)

/-! ## Groups (R68 to R70) -/

/-- The open group of a client; one without a request for 10 s is discarded (R70). -/
def State.groupOf (s : State) (r : Reader) : Option Group :=
  let g := match r with
    | .session n => (s.eop.sessions.find? (fun (x : Session) => x.id == n)).bind (fun x => x.group)
    | .port => s.eop.portGroup
    | .anon => none
  match g with
  | some g => if g.lastReq + 10000000000 ≤ (s.now : Int) then none else some g
  | none => none

/-- The client's group replaced. -/
def State.setGroup (s : State) (r : Reader) (g : Option Group) : State :=
  match r with
  | .session n => { s with eop := { s.eop with sessions := s.eop.sessions.map (fun (x : Session) =>
      if x.id == n then { x with group := g } else x) } }
  | .port => { s with eop := { s.eop with portGroup := g } }
  | .anon => s

/-- GROUP_BEGIN. -/
def State.groupBegin (s : State) (c : Client) (p : List Byte) : State × Ans :=
  if !p.isEmpty then (s, ans 0x02)
  else if (s.groupOf c.r).isSome then (s, ans 0x21)
  else
    let n := s.eop.nextGroup % 65536
    let s := { s with eop := { s.eop with nextGroup := (s.eop.nextGroup + 1) % 65536 } }
    (s.setGroup c.r (some { id := n, lastReq := s.now }), { st := 0, pay := beBytes 2 n ++ beBytes 2 0 })

/-- `n` items of a GROUP_STAGE from `off` on: key, type code, bytes; none where they do not fill the payload. -/
def itemsOf (p : List Byte) : Nat → Nat → Option (List (Nat × Nat × List Byte))
  | 0, off => if off = p.length then some [] else none
  | n + 1, off =>
    if p.length < off + 6 || p.length < off + 6 + beAt p (off + 4) 2 then none
    else (itemsOf p n (off + 6 + beAt p (off + 4) 2)).map (fun r =>
      (keyAt p off, beAt p (off + 3) 1, slice p (off + 6) (beAt p (off + 4) 2)) :: r)

/-- Bytes of a staged value. -/
def valueSize (s : State) (i : GroupItem) : Nat :=
  match s.entryAt i.key with
  | .ok (row, _) => (valueBe row.ty i.value).length
  | .error _ => 0

/-- An item is staged; staging the same entry again keeps the later value (R68). -/
def stageItem (items : List GroupItem) (i : GroupItem) : List GroupItem :=
  if items.any (fun x => x.key == i.key) then items.map (fun x => if x.key == i.key then i else x) else items ++ [i]

/-- Status of an item in its form. -/
def State.itemForm (s : State) (c : Client) (i : Nat × Nat × List Byte) : Nat :=
  let ty := codeTy i.2.1
  s.chkForm c.w i.1 ty (ty.bind (fun t => beValue t i.2.2))

/-- A GROUP_STAGE on the open group. -/
def State.stageInto (s : State) (c : Client) (g : Group) (its : List (Nat × Nat × List Byte)) : State × Ans :=
  let st := firstBad (its.map (s.itemForm c))
  let items := its.foldl (fun items i =>
    match (codeTy i.2.1).bind (fun t => beValue t i.2.2) with
    | some v => stageItem items { key := i.1, value := v }
    | none => items) g.items
  if st != 0 then (s, ans st)
  else if its.any (fun i => 1024 < i.2.2.length) || 64 < items.length || 8192 < sumNat (items.map (valueSize s)) then (s, ans 0x21)
  else (s.setGroup c.r (some { g with items := items }), { st := 0, pay := beBytes 2 items.length })

/-- GROUP_STAGE. -/
def State.groupStage (s : State) (c : Client) (p : List Byte) : State × Ans :=
  if p.length < 4 then (s, ans 0x02)
  else
    match s.groupOf c.r with
    | none => (s, ans 0x20)
    | some g =>
      if g.id != beAt p 0 2 then (s, ans 0x20)
      else
        let g := { g with lastReq := s.now }
        let s := s.setGroup c.r (some g)
        if beAt p 2 1 < 1 || 16 < beAt p 2 1 || beAt p 3 1 != 0 then (s, ans 0x02)
        else
          match itemsOf p (beAt p 2 1) 4 with
          | none => (s, ans 0x02)
          | some its => s.stageInto c g its

/-- The ring on which a write of `key` places an entry. -/
def State.ringOf (s : State) (key : Nat) : Option Nat :=
  let i := key / 256
  let sub := key % 256
  if 0x5100 ≤ i && i < 0x5200 && sub = 0x14 then some (s.submitRing (i - 0x5100) 0xFE)
  else if 0x5200 ≤ i && i < 0x5300 && (sub = 0x01 || sub = 0x02) then some (s.submitRing (i - 0x5200) 0xFE)
  else if 0x3000 ≤ i && i < 0x3100 && 0x20 ≤ i % 64 && sub = 0x0B then some (16 + 2 * ((i - 0x3000) / 64))
  else if 0x1A40 ≤ i && i < 0x1A80 && sub = 0x12 then some 39
  else if key = 0x78000F then some 44
  else if 0x2200 ≤ i && i < 0x220C && sub = 0x1F then some 42
  else none

/-- Bytes of the submit buffer that a write of `key` takes. -/
def batchBytes (i : GroupItem) : Nat :=
  if 0x5100 ≤ i.key / 256 && i.key / 256 < 0x5200 && i.key % 256 = 0x14 then (valBytes i.value).length else 0

/-- Room for the entries of the items before this one and its own on the ring that it uses (R69). -/
def State.itemRoom (s : State) (before : List GroupItem) (i : GroupItem) : Bool :=
  match s.ringOf i.key with
  | none => true
  | some k =>
    let same := (before ++ [i]).filter (fun x => s.ringOf x.key == some k)
    s.room k same.length && decide (s.submitUsed k + sumNat (same.map batchBytes) ≤ 4194304)

/-- Statuses of the items at the commit (R69). -/
def State.itemChecks (s : State) (c : Client) : List GroupItem → List GroupItem → List Nat
  | _, [] => []
  | before, i :: rest =>
    let ty := match s.entryAt i.key with
      | .ok (row, _) => some row.ty
      | .error _ => none
    firstBad [s.chkWrite c.w i.key ty (some i.value), need (s.itemRoom before i) 0x0F] :: s.itemChecks c (before ++ [i]) rest

/-- Writes that reset the module come last among a group's effects. -/
def resetKey (key : Nat) : Bool := key == 0x100009 || key == 0x130003 || key == 0x130208

/-- All items stored at one commit, then their effects (R69). -/
def State.commitItems (s : State) (c : Client) (items : List GroupItem) : State :=
  let s := items.foldl (fun s i => (s.reached i.key i.value).storeValue i.key i.value) s
  let late := items.filter (fun i => resetKey i.key)
  let s := (items.filter (fun i => !resetKey i.key) ++ late).foldl (fun s i => (s.effOwner c.w i.key i.value).mirrored i.key) s
  s.servicesCommit

/-- The first failing item: its ordinal and its status. -/
def firstFailing : Nat → List Nat → Option (Nat × Nat)
  | _, [] => none
  | k, x :: xs => if x = 0 then firstFailing (k + 1) xs else some (k, x)

/-- GROUP_COMMIT and GROUP_DISCARD: the group closes in either case (R69, R70). -/
def State.groupEnd (s : State) (c : Client) (commit : Bool) (p : List Byte) : State × Ans :=
  if p.length < 4 then (s, ans 0x02)
  else
    match s.groupOf c.r with
    | none => (s, ans 0x20)
    | some g =>
      if g.id != beAt p 0 2 then (s, ans 0x20)
      else if p.length != 4 || beAt p 2 2 != 0 then (s.setGroup c.r (some { g with lastReq := s.now }), ans 0x02)
      else
        let s := s.setGroup c.r none
        if !commit then (s, ans 0)
        else
          match firstFailing 0 (s.itemChecks c [] g.items) with
          | some (k, st) => (s, { st := 0x22, pay := beBytes 2 k ++ beBytes 1 st ++ beBytes 1 0 })
          | none => (s.commitItems c g.items, { st := 0, pay := time96be (time96ns s.now) })

/-! ## By service code -/

/-- The minimum level of a service of its own (Table DIC-8). -/
def serviceLevel (code : Nat) : Nat := if code = 0x20 || code = 0x22 || code = 0x23 || code = 0x50 || code = 0x51 then 1 else 0

/-- The services that the dictionary port shares (R56). -/
def dictService (code : Nat) : Bool := [0x01, 0x02, 0x03, 0x04, 0x10, 0x11, 0x12, 0x13, 0x14, 0x20, 0x21, 0x22, 0x23].contains code

/-- A request to the dictionary server. -/
def State.serve (s : State) (c : Client) (code : Nat) (p : List Byte) : State × Ans :=
  if levelNum c.w.level < serviceLevel code then (s, ans 0x0A)
  else match code with
  | 0x01 => s.svcRead c p
  | 0x02 => s.svcWrite c p
  | 0x03 => s.svcReadMulti c p
  | 0x04 => s.svcDescribe p
  | 0x10 => s.segReadStart c p
  | 0x11 => s.segPart c false p
  | 0x12 => s.segWriteStart c p
  | 0x13 => s.segPart c true p
  | 0x14 => s.segAbort c p
  | 0x20 => s.groupBegin c p
  | 0x21 => s.groupStage c p
  | 0x22 => s.groupEnd c true p
  | 0x23 => s.groupEnd c false p
  | _ => (s, ans 0x01)

/-! ## The dictionary port (R56, R57) -/

/-- The port as a client. -/
def State.portClient (s : State) : Client := { r := .port, w := { level := s.portLevel, node := 0x40000 } }

/-- The delta that mirrors what was written since `before`, where the response waits for a READY standby to store it (R484). -/
def State.mirrorWait (s before : State) : Option Nat :=
  let g := s.rd E.Twin.GEN_SENT
  if !(s.active && s.twinBase && s.rd E.Twin.LINK_STATE != 2 && s.twin.partner.any (fun h => h.role == 1 && h.readiness == 0)) then none
  else if g != before.rd E.Twin.GEN_SENT then some g
  else if s.twin.owedRecs != before.twin.owedRecs then some (if (g + 1) % 2 ^ 32 = 0 then 1 else (g + 1) % 2 ^ 32)
  else none

/-- A response of the port, or the abort or the mirrored write that it awaits; `gen` is the delta of the write. -/
def State.answerPort (s : State) (task code : Nat) (gen : Option Nat) (a : Ans) : State :=
  match a.abort with
  | some (m, b, id) => { s with eop := { s.eop with deferred := s.eop.deferred ++
      [{ motion := m, session := 0, transaction := task, service := code, board := b, solveId := id, payload := a.pay, origin := { port := 4, ip := 0, udp := 0 } }] } }
  | none =>
    if s.power.boot.isSome then s
    else if gen.isSome then { s with eop := { s.eop with deferred := s.eop.deferred ++
      [{ gen := gen, status := some a.st, session := 0, transaction := task, service := code, board := 0, solveId := 0, payload := a.pay
         origin := { port := 4, ip := 0, udp := 0 } }] } }
    else s.place 30 (.odRsp { task := task, service := code, status := a.st, payload := a.pay, at_ := s.now })

end Sys2Proof.Machine
end

