-- ==== Sys2Proof/Machine/Eop.lean ====
section
/-!
DEFINITION. Machine/Eop.lean: the Epsil Object Protocol (R59 to R84): frames, sessions and login, repeated requests, subscriptions,
quench and identify; the dictionary services are those of Machine/DictServices.lean.
-/
namespace Sys2Proof.Machine

/-! ## Frames (R59, Table DIC-5) -/

/-- A request as its header gives it; `signed` is the header and the payload, which the tag covers. -/
structure EopReq where
  flags : Nat
  service : Nat
  status : Nat
  transaction : Nat
  session : Nat
  sequence : Nat
  source : Nat
  dest : Nat
  reserved : Nat
  payload : List Byte
  tag : List Byte
  signed : List Byte

/-- The request carries a tag. -/
def EopReq.tagged (q : EopReq) : Bool := bitOf q.flags 6

/-- A datagram as a frame; none where the module drops it (R59). -/
def eopParse (d : List Byte) : Option EopReq :=
  let n := beAt d 24 2
  let tagged := bitOf (beAt d 3 1) 6
  if d.length < 28 || beAt d 0 2 != 0x4550 || beAt d 2 1 != 1 || d.length != 28 + n + (if tagged then 16 else 0) then none
  else some { flags := beAt d 3 1, service := beAt d 4 1, status := beAt d 5 1, transaction := beAt d 6 2, session := beAt d 8 4
              sequence := beAt d 12 4, source := beAt d 16 4, dest := beAt d 20 4, reserved := beAt d 26 2
              payload := slice d 28 n, tag := d.drop (28 + n), signed := d.take (28 + n) }

/-- A frame of the module: header and payload, without tag. -/
def eopFrame (flags service status transaction session sequence source dest : Nat) (pay : List Byte) : List Byte :=
  beBytes 2 0x4550 ++ beBytes 1 1 ++ beBytes 1 flags ++ beBytes 1 service ++ beBytes 1 status ++ beBytes 2 transaction
    ++ beBytes 4 session ++ beBytes 4 sequence ++ beBytes 4 source ++ beBytes 4 dest ++ beBytes 2 pay.length ++ beBytes 2 0 ++ pay

/-- Traffic class of a service (Table DIC-8). -/
def serviceClass (code : Nat) : Nat := if code = 0x50 || code = 0x51 then 3 else 1

/-- A datagram leaves for `o` from port 47010; on J16 to the host (R59). -/
def State.sendEop (s : State) (o : Origin) (cls : Nat) (b : List Byte) : State :=
  let f : TxFrame := { cls := cls, dst := o.mac.toNat, ip := o.ip.toNat, dport := o.udp.toNat, len := 42 + b.length, body := .bytes b }
  if o.port.val = 4 then { s with j16 := s.j16 ++ [f] } else s.transmit o.port.val f

/-- An answer outside a session: untagged, SESSION 0. -/
def State.answerPlain (s : State) (o : Origin) (service transaction node : Nat) (a : Ans) : State :=
  s.sendEop o (serviceClass service) (eopFrame 0x80 service a.st transaction 0 0 (s.rd E.Id.NODE_ID_ACTIVE) node a.pay)

/-- An answer to request `q` outside a session. -/
def State.answerReq (s : State) (o : Origin) (q : EopReq) (a : Ans) : State := s.answerPlain o q.service q.transaction q.source a

/-! ## Sessions (R79, R80) -/

/-- The open session with an identifier. -/
def State.session (s : State) (id : Nat) : Option Session := s.eop.sessions.find? (fun (x : Session) => x.id == id)

/-- A session replaced. -/
def State.setSession (s : State) (x : Session) : State :=
  { s with eop := { s.eop with sessions := s.eop.sessions.map (fun (y : Session) => if y.id == x.id then x else y) } }

/-- SESSIONS_OPEN follows the sessions. -/
def State.countSessions (s : State) : State := s.wr E.Auth.SESSIONS_OPEN s.eop.sessions.length

/-- A session ends with its transfer, group and subscriptions (R80); its quench filters stay (R75). -/
def State.endSession (s : State) (id : Nat) : State :=
  ({ s with eop := { s.eop with sessions := s.eop.sessions.filter (fun (x : Session) => x.id != id)
                                deferred := s.eop.deferred.filter (fun (d : Deferred) => d.session != id || id == 0) } }).countSessions

/-- A frame of the module within a session, under its next SEQUENCE and tagged with its key (R77, R79). -/
def State.sendTagged (s : State) (o : Origin) (x : Session) (service status transaction dest : Nat) (pay : List Byte) : State :=
  let n := (x.txSeq + 1) % 2 ^ 32
  let b := eopFrame 0xC0 service status transaction x.id n (s.rd E.Id.NODE_ID_ACTIVE) dest pay
  (s.setSession { x with txSeq := n }).sendEop o (serviceClass service) (b ++ (hmac x.key b).take 16)

/-- The response is kept with the last 32 (R82). -/
def State.keepResponse (s : State) (id : Nat) (k : KeptResponse) : State :=
  match s.session id with
  | none => s
  | some x =>
    let c := x.cache.filter (fun y => y.transaction != k.transaction) ++ [k]
    s.setSession { x with cache := c.drop (c.length - 32) }

/-- A response within a session, kept for a repetition. -/
def State.answerSession (s : State) (o : Origin) (id service transaction dest st : Nat) (pay : List Byte) : State :=
  let s := s.keepResponse id { transaction := transaction, service := service, status := st, payload := pay }
  match s.session id with
  | some x => s.sendTagged o x service st transaction dest pay
  | none => s

/-- Instants of the last second among those kept for a limit. -/
def lastSecond (now : Nat) (xs : List (Nat × Int)) : List (Nat × Int) := xs.filter (fun x => (now : Int) < x.2 + 1000000000)

/-- NO_SESSION, TAG_INVALID, SEQUENCE_REJECTED and WRONG_NODE: untagged, at most 100 per second and port (R60, R79). -/
def State.refuseEop (s : State) (o : Origin) (q : EopReq) (st : Nat) : State :=
  let xs := lastSecond s.now s.eop.refusals
  let s := { s with eop := { s.eop with refusals := xs } }
  if 100 ≤ (xs.filter (fun x => x.1 == o.port.val)).length then s.inc E.Auth.DROPPED_FRAMES
  else ({ s with eop := { s.eop with refusals := xs ++ [(o.port.val, (s.now : Int))] } }).answerReq o q (ans st)

/-- The window of accepted values after SEQUENCE `n`; none where it is refused (R79). -/
def admitSeq (x : Session) (n : Nat) : Option Session :=
  let ahead := (n + 2 ^ 32 - x.high) % 2 ^ 32
  let back := (x.high + 2 ^ 32 - n) % 2 ^ 32
  if 1 ≤ ahead && ahead ≤ 2 ^ 31 then
    let w := if 32 ≤ ahead then 1 else (x.window * 2 ^ ahead + 1) % 2 ^ 32
    let p := if x.window = 0 then ahead - 1 else x.passed + ahead
    some { x with high := n, window := w, passed := min 31 p }
  else if 1 ≤ back && back ≤ x.passed && !bitOf x.window back then some { x with window := setBit x.window back true }
  else none

/-- The session has had no valid request for its IDLE_TIMEOUT (R80). -/
def State.idle (s : State) (x : Session) : Bool := decide (x.lastReq + 1000000 * (x.idleMs : Int) ≤ (s.now : Int))

/-- A request of a session: the status of R79, and the session with its window and idle time moved on. -/
def State.admitReq (s : State) (q : EopReq) : State × Nat :=
  match s.session q.session with
  | none => (s, 0x10)
  | some x =>
    if s.idle x then (s.endSession x.id, 0x10)
    else if !q.tagged || q.tag != (hmac x.key q.signed).take 16 then (s.inc E.Auth.TAG_FAILURES, 0x11)
    else
      match admitSeq x q.sequence with
      | none => (s, 0x12)
      | some y => (s.setSession { y with lastReq := s.now }, 0)

/-! ## Login (R77, R78) -/

/-- The node ID in a proof. -/
def State.nodeBe (s : State) : List Byte := beBytes 4 (s.rd E.Id.NODE_ID_ACTIVE)

/-- The key of a level; empty while it is unset or invalid. -/
def State.levelKey (s : State) (level : Nat) : List Byte :=
  if s.invalidEntry (0x110001 + level) then []
  else match level with
  | 0 => s.rdB E.Auth.KEY_VIEWER
  | 1 => s.rdB E.Auth.KEY_OPERATOR
  | 2 => s.rdB E.Auth.KEY_ENGINEER
  | _ => s.rdB E.Auth.KEY_SERVICE

/-- Logins from an address are blocked. -/
def State.blocked (s : State) (ip : Nat) : Bool := s.eop.blocks.any (fun x => x.1 == ip && decide ((s.now : Int) < x.2))

/-- A failed login: counted, and the fifth from its address within 60 s blocks it for 60 s (R78). -/
def State.failLogin (s : State) (ip : Nat) : State :=
  let s := s.inc E.Auth.LOGIN_FAILURES
  let xs := s.eop.failures.filter (fun (x : Nat × Int) => decide ((s.now : Int) < x.2 + 60000000000)) ++ [(ip, (s.now : Int))]
  if (xs.filter (fun x => x.1 == ip)).length < 5 then { s with eop := { s.eop with failures := xs } }
  else
    ({ s with eop := { s.eop with failures := xs.filter (fun x => x.1 != ip)
                                  blocks := s.eop.blocks.filter (fun (x : Nat × Int) => x.1 != ip) ++ [(ip, (s.now : Int) + 60000000000)] } }).log 0x02 0x01 (vU32 ip)

/-- LOGIN_CHALLENGE; a LEVEL above 3 is answered MALFORMED (log 173). -/
def State.loginChallenge (s : State) (o : Origin) (p : List Byte) : State × Ans :=
  if s.blocked o.ip.toNat then (s, ans 0x15)
  else if p.length != 20 || 3 < beAt p 0 1 || !zeros (slice p 1 3) then (s, ans 0x02)
  else
    let n := s.eop.nextChallenge % 2 ^ 32
    let nonce := beBytes 16 s.rand
    let c : Challenge := { id := n, level := beAt p 0 1, client := slice p 4 16, nonce := nonce, issued := s.now }
    let s := { s.drawn with eop := { s.eop with challenges := s.eop.challenges ++ [c], nextChallenge := (n + 1) % 2 ^ 32 } }
    (s, { st := 0, pay := beBytes 4 n ++ nonce })

/-- A session number that no open session has, never 0 (Table DIC-14). -/
def State.newSession (s : State) : Nat :=
  let first := s.rand % (2 ^ 32 - 17) + 1
  ((List.range 17).map (first + ·)).find? (fun n => (s.session n).isNone) |>.getD first

/-- The levels at which a session opens: in maintenance Viewer and Service alone (R480). -/
def State.levelOpen (s : State) (level : Nat) : Bool := !s.standby || level == 0 || level == 3

/-- LOGIN_RESPONSE: the proof of a challenge opens a session. -/
def State.loginResponse (s : State) (o : Origin) (source : Nat) (p : List Byte) : State × Ans :=
  let level := beAt p 4 1
  let ip := o.ip.toNat
  if s.blocked ip then (s, ans 0x15)
  else if p.length != 40 || !zeros (slice p 5 3) then (s, ans 0x02)
  else
    let c := s.eop.challenges.find? (fun (c : Challenge) => c.id == beAt p 0 4)
    let s := { s with eop := { s.eop with challenges := s.eop.challenges.filter (fun (c : Challenge) => c.id != beAt p 0 4) } }
    let key := s.levelKey level
    match c, levelOf level with
    | some c, some lev =>
      if (s.now : Int) < c.issued + 10000000000 && c.level == level && !key.isEmpty && s.levelOpen level
          && slice p 8 32 == hmac key (c.nonce ++ c.client ++ s.nodeBe ++ beBytes 1 level) then
        if 16 ≤ s.eop.sessions.length then (s, ans 0x13)
        else
          let id := s.newSession
          let idle := s.rd E.Auth.SESSION_IDLE_TIMEOUT
          let x : Session := { id := id, level := lev, key := hmac key (ascii "EOP-SK" ++ c.nonce ++ c.client ++ beBytes 4 id)
                               port := o.port.val, ip := ip, udp := o.udp.toNat, mac := o.mac.toNat, node := source
                               idleMs := idle, lastReq := s.now }
          let t := { s.drawn with eop := { s.eop with sessions := s.eop.sessions ++ [x] } }
          (t.countSessions, { st := 0, pay := beBytes 4 id ++ beBytes 4 idle ++ hmac key (c.client ++ c.nonce ++ s.nodeBe ++ beBytes 1 level) })
      else (s.failLogin ip, ans 0x14)
    | _, _ => (s.failLogin ip, ans 0x14)

/-! ## Subscriptions (R71, R72) -/

/-- Bytes that a value of an entry may have. -/
def entryMax (key : Nat) (row : Row) : Nat :=
  if !byteType row.ty then Ty.bits row.ty / 8
  else match row.range, fixedLength key with
  | .len _ hi, _ => hi
  | _, some n => n
  | _, none => if row.ty = .str then 255
    else if key / 256 = 0x7001 || key / 256 = 0x7801 || (0x5100 ≤ key / 256 && key / 256 < 0x5200 && key % 256 == 0x16) then 65535
    else if 0x8000 ≤ key / 256 then 65535
    else 1024

/-- SUBSCRIBE. -/
def State.subscribe (s : State) (o : Origin) (x : Session) (p : List Byte) : State × Ans :=
  let key := keyAt p 0
  let mode := beAt p 3 1
  let period := beAt p 4 4
  let band := beAt p 8 8
  let used := s.eop.sessions.flatMap (fun (x : Session) => x.subs.map (·.id))
  if p.length != 16 then (s, ans 0x02)
  else
    match s.entryAt key with
    | .error st => (s, ans st)
    | .ok (row, _) =>
      let st := firstBad
        [ need (row.acc != .wo) 0x09
        , need (entryMax key row ≤ 1024) 0x0D
        , need (mode < 3 && (mode == 1 || (10 ≤ period && period ≤ 60000)) && !fmt64.special band && fmt64.le 0 band) stRange
        , need (x.subs.length < 64 && used.length < 256) 0x28 ]
      if st != 0 then (s, ans st)
      else
        let n := ((List.range 256).find? (fun k => !used.contains k)).getD 0
        let sub : Subscription := { id := n, key := key, mode := mode, periodMs := period, deadband := band, lastSample := s.now
                                    lastNotify := s.now, port := o.port.val, ip := o.ip.toNat, udp := o.udp.toNat }
        (s.setSession { x with subs := x.subs ++ [sub] }, { st := 0, pay := beBytes 2 n })

/-- UNSUBSCRIBE. -/
def State.unsubscribe (s : State) (x : Session) (p : List Byte) : State × Ans :=
  let n := beAt p 0 2
  if p.length != 2 then (s, ans 0x02)
  else if n = 0xFFFF then (s.setSession { x with subs := [] }, ans 0)
  else if x.subs.any (fun u => u.id == n) then (s.setSession { x with subs := x.subs.filter (fun u => u.id != n) }, ans 0)
  else (s, ans stRange)

/-- A numeric value as binary64, for a comparison; none for a type that is not numeric. -/
def asF64 (ty : Ty) (v : Value) : Option Nat :=
  match ty with
  | .f32 => some (fmt32.convert fmt64 (valNat v))
  | .f64 => some (valNat v)
  | .i16 => some (fmt64.ofInt (intOf 16 (valNat v)))
  | .i32 => some (fmt64.ofInt (intOf 32 (valNat v)))
  | .u8 => some (fmt64.ofNat (valNat v))
  | .u16 => some (fmt64.ofNat (valNat v))
  | .u32 => some (fmt64.ofNat (valNat v))
  | .u64 => some (fmt64.ofNat (valNat v))
  | _ => none

/-- The value differs from the last notified one by more than the deadband (R71). -/
def changed (ty : Ty) (u : Subscription) (v : Value) : Bool :=
  match u.lastValue with
  | none => true
  | some w =>
    (match asF64 ty v, asF64 ty w with
      | some a, some b => if fmt64.isZero u.deadband then v != w else fmt64.lt u.deadband (fmt64.abs (fmt64.sub a b))
      | _, _ => v != w)

/-- A NOTIFY of a subscription of `x` (R72, Table DIC-12). -/
def State.notify (s : State) (x : Session) (u : Subscription) (ty : Ty) (v : Value) : State :=
  let b := valueBe ty v
  let pay := beBytes 2 u.id ++ beBytes 2 u.seq ++ time96be (time96 (s.tbAt 0 s.now)) ++ beBytes 1 (s.rd (E.Base.SYNC_STATE 0))
    ++ beBytes 1 (tyCode ty) ++ beBytes 2 b.length ++ b
  let o : Origin := { port := Fin.ofNat 5 u.port, ip := BitVec.ofNat 32 u.ip, udp := BitVec.ofNat 16 u.udp, mac := BitVec.ofNat 48 x.mac }
  s.sendTagged o x 0x32 0 0 x.node pay

/-- SUBSCRIPTION_CHECK: the entry is sampled at PERIOD in mode 0, every 10 ms in modes 1 and 2 (R71). -/
def State.checkSubscription (s : State) (id n : Nat) : State :=
  match s.session id with
  | none => s
  | some x =>
    match x.subs.find? (fun u => u.id == n) with
    | none => s
    | some u =>
      let step : Int := if u.mode = 0 then 1000000 * (u.periodMs : Int) else 10000000
      if (s.now : Int) < u.lastSample + step then s
      else
        let (st, ty, v) := s.readEntry (.session id) u.key
        let refresh := u.mode = 2 && u.lastNotify + 1000000 * (u.periodMs : Int) ≤ (s.now : Int)
        let due := st == 0 && (u.mode == 0 || changed ty u v || refresh)
        let w := if due then { u with lastSample := s.now, lastNotify := s.now, lastValue := some v, seq := (u.seq + 1) % 65536 }
                 else { u with lastSample := s.now }
        let y := { x with subs := x.subs.map (fun z => if z.id == n then w else z) }
        let s := s.setSession y
        if due then s.notify y u ty v else s

/-! ## Quench and identify (R73 to R76) -/

/-- QUENCH: checked and installed by the MAC of the receiving port within 20 µs of reception; the measured latency is a free value
(R73, R313). -/
def State.quench (s : State) (o : Origin) (x : Session) (p : List Byte) : State × Ans :=
  let kind := beAt p 1 1
  let v := beAt p 4 8
  let ms := beAt p 12 4
  if p.length != 16 || 16 ≤ beAt p 0 1 || beAt p 2 2 != 0 then (s, ans 0x02)
  else if (kind != 1 && kind != 2) || 3600000 < ms then (s, ans stRange)
  else if 2 ^ (if kind = 1 then 48 else 32) ≤ v then (s, ans 0x02)
  else if s.isProtected kind v o.ip.toNat o.mac.toNat then (s, ans 0x31)
  else
    let m := slice p 1 1 ++ slice p 4 8
    match s.filterFor m with
    | none => (s, ans 0x30)
    | some k =>
      (s.installFilter k m (beAt p 0 1) ms x.id x.node (Config.measured (0x195000 + k) s.now % 20001), { st := 0, pay := beBytes 1 k ++ beBytes 3 0 })

/-- UNQUENCH: one filter, or every filter that the session installed. -/
def State.unquench (s : State) (x : Session) (p : List Byte) : State × Ans :=
  let k := beAt p 0 1
  if p.length != 1 then (s, ans 0x02)
  else if k = 0xFF then
    (((List.range 16).filter (fun i => match s.eop.quench.find i with
      | some q => q.session == x.id
      | none => false)).foldl (fun s i => s.endFilter i) s, ans 0)
  else if (s.eop.quench.find k).isSome then (s.endFilter k, ans 0)
  else (s, ans stRange)

/-- IDENTIFY. -/
def State.identity (s : State) : List Byte :=
  s.nodeBe ++ beBytes 1 (s.rd E.Id.HW_ISSUE) ++ beBytes 1 (s.rd E.Id.MODULE_STATE) ++ beBytes 2 (s.rd E.Id.FW_RELEASE)
    ++ fitTo 0 10 (s.rdB E.Id.SERIAL_NUMBER) ++ fitTo 0 8 (s.rdB E.Id.PART_NUMBER)

/-! ## The server -/

/-- How a service stands to sessions (R62): 0 not needed, 1 needed, 2 none; none for a code that no request may carry. -/
def sessionNeed (code : Nat) : Option Nat :=
  if [0x01, 0x03, 0x04, 0x60].contains code then some 0
  else if [0x02, 0x10, 0x11, 0x12, 0x13, 0x14, 0x20, 0x21, 0x22, 0x23, 0x30, 0x31, 0x42, 0x43, 0x50, 0x51].contains code then some 1
  else if code = 0x40 || code = 0x41 then some 2
  else none

/-- A service outside the dictionary within a session, or a login. -/
def State.otherService (s : State) (o : Origin) (q : EopReq) : State × Ans :=
  match q.service, s.session q.session with
  | 0x40, _ => s.loginChallenge o q.payload
  | 0x41, _ => s.loginResponse o q.source q.payload
  | 0x30, some x => s.subscribe o x q.payload
  | 0x31, some x => s.unsubscribe x q.payload
  | 0x42, some _ => (s, ans (if q.payload.isEmpty then 0 else 0x02))
  | 0x43, some _ => (s, ans (if q.payload.isEmpty then 0 else 0x02))
  | 0x50, some x => if levelNum x.level < 1 then (s, ans 0x0A) else s.quench o x q.payload
  | 0x51, some x => if levelNum x.level < 1 then (s, ans 0x0A) else s.unquench x q.payload
  | 0x60, _ => if q.payload.isEmpty then (s, { st := 0, pay := s.identity }) else (s, ans 0x02)
  | _, _ => (s, ans 0x01)

/-- The client of a request: its session, else its node. -/
def State.clientOf (s : State) (session node : Nat) : Client :=
  match s.session session with
  | some x => { r := .session x.id, w := { level := x.level, j16 := x.port == 4, session := some x.id, node := x.node } }
  | none => { r := .anon, w := { level := .viewer, node := node } }

/-- Whom the request is answered. -/
def EopReq.back (q : EopReq) (o : Origin) : EopBack := { origin := o, session := q.session, transaction := q.transaction, node := q.source }

/-- The answer to an executed request goes out, or waits for the decision on an abort (R83) or for the delta `gen` of a mirrored write
(R484). A reset by the request sends none. -/
def State.answer (s : State) (b : EopBack) (service : Nat) (gen : Option Nat) (a : Ans) : State :=
  if s.power.boot.isSome then s
  else if b.session = 0 then s.answerPlain b.origin service b.transaction b.node a
  else
    match a.abort with
    | some (m, n, id) => { s with eop := { s.eop with deferred := s.eop.deferred ++
        [{ motion := m, session := b.session, transaction := b.transaction, service := service, board := n, solveId := id
           origin := b.origin, node := b.node, payload := a.pay }] } }
    | none =>
      if gen.isSome then { s with eop := { s.eop with deferred := s.eop.deferred ++
        [{ gen := gen, status := some a.st, session := b.session, transaction := b.transaction, service := service, board := 0, solveId := 0
           origin := b.origin, node := b.node, payload := a.pay }] } }
      else
      let s := s.answerSession b.origin b.session service b.transaction b.node a.st a.pay
      if service = 0x42 && a.st = 0 then s.endSession b.session else s

/-! ## The dictionary server (R50) -/

/-- A full OD_RSP holds a response of the server: it pauses (R38, STALL). -/
def State.serverPaused (s : State) : Bool := !(s.ring 30).waiting.isEmpty

/-- The oldest request of ring 29 is served and answered (R50). -/
def State.servePort (s : State) : State :=
  match s.pop 29 with
  | (t, some (.odReq r)) =>
    match r.eop with
    | none =>
      let (u, a) := t.serve t.portClient r.req.service r.req.payload
      u.answerPort r.task r.req.service (u.mirrorWait t) a
    | some b =>
      if b.session != 0 && (t.session b.session).isNone then t
      else
      let (u, a) := t.serve (t.clientOf b.session b.node) r.req.service r.req.payload
      u.answer b r.req.service (u.mirrorWait t) a
  | (t, _) => t

/-- The requests that wait on ring 29 are served in order while the server does not pause. -/
def State.drainPort (s : State) : State :=
  (s.ring 29).q.foldl (fun s _ => if s.power.boot.isSome || s.serverPaused then s else s.servePort) s

/-- A request that passed the checks of its header and session is executed. A dictionary request goes through ring 29 behind those
that wait there, and waits there itself while the server pauses (R38); a full ring refuses it (R50, R51). -/
def State.execute (s : State) (o : Origin) (q : EopReq) : State × Option (Ans × Option Nat) :=
  if !dictService q.service then
    let (s, a) := s.otherService o q
    (s, some (a, none))
  else if !s.room 29 1 then (s.inc (E.Ring.RING_REFUSALS 29), some (ans 0x0F, none))
  else
    let s := s.drainPort
    if s.serverPaused then
      (s.place 29 (.odReq { req := { service := q.service, payload := q.payload }, eop := some (q.back o) }), none)
    else
      let (t, a) := s.serve (s.clientOf q.session q.source) q.service q.payload
      (t, some (a, t.mirrorWait s))

/-- Request `r` on ring 29 is transaction `n` of session `id`. -/
def waitsOn29 (id n : Nat) : RingEntry → Bool
  | .odReq r => r.eop.any (fun b => b.session == id && b.transaction == n)
  | _ => false

/-- A request that repeats a kept response is answered with it; one whose response still waits is not executed again (R82). -/
def State.repeated (s : State) (o : Origin) (q : EopReq) : Option State :=
  match s.session q.session with
  | none => none
  | some x =>
    match x.cache.find? (fun k => k.transaction == q.transaction) with
    | some k => some ((s.inc E.Auth.REPEATS_ANSWERED).sendTagged o x k.service k.status k.transaction q.source k.payload)
    | none =>
      if s.eop.deferred.any (fun (d : Deferred) => d.session == x.id && d.transaction == q.transaction)
          || (s.ring 29).q.any (waitsOn29 x.id q.transaction) then some s else none

/-- At most 20 IDENTIFY answers per second and port (R76). -/
def State.mayIdentify (s : State) (o : Origin) : State × Bool :=
  let xs := lastSecond s.now s.eop.identified
  if 20 ≤ (xs.filter (fun x => x.1 == o.port.val)).length then (({ s with eop := { s.eop with identified := xs } }).inc E.Auth.DROPPED_FRAMES, false)
  else ({ s with eop := { s.eop with identified := xs ++ [(o.port.val, (s.now : Int))] } }, true)

/-- Execution and answer of an admitted request. -/
def State.perform (s : State) (o : Origin) (q : EopReq) : State :=
  let (s, ok) := if q.service = 0x60 then s.mayIdentify o else (s, true)
  if !ok then s
  else
    match s.execute o q with
    | (s, some (a, gen)) => s.answer (q.back o) q.service gen a
    | (s, none) => s

/-- Services of a module without valid firmware (R555). -/
def bareService (code : Nat) : Bool := [0x40, 0x41, 0x01, 0x02, 0x03, 0x04, 0x10, 0x11, 0x12, 0x13, 0x14].contains code

/-- A frame addressed to the module: header, service, session, tag and sequence, then execution (R60, R62, R79, R82). -/
def State.request (s : State) (o : Origin) (q : EopReq) : State :=
  if q.dest != s.rd E.Id.NODE_ID_ACTIVE && !(q.service == 0x60 && q.dest == 0xFFFFFFFF) then s.refuseEop o q 0x03
  else if q.flags % 64 != 0 || bitOf q.flags 7 || q.status != 0 || q.reserved != 0 || 2 ^ 18 ≤ q.source || 1400 < q.payload.length
      || (q.session == 0 && q.sequence != 0) then s.answerReq o q (ans 0x02)
  else
    match sessionNeed q.service with
    | none => s.answerReq o q (ans 0x01)
    | some n =>
      if s.power.bare && !bareService q.service then s.answerReq o q (ans 0x01)
      else if q.session = 0 then
        (if n = 1 then s.refuseEop o q 0x10 else if q.tagged then s.answerReq o q (ans 0x02) else s.perform o q)
      else if n = 2 then s.answerReq o q (ans 0x02)
      else
        match s.admitReq q with
        | (s, 0) => (match s.repeated o q with
          | some t => t
          | none => s.perform o q)
        | (s, st) => s.refuseEop o q st

/-- The module answers EOP on this port: not while a start is due, in STANDBY only in maintenance on J16 (R80, R480), in RESTORE_FAULT
and without valid firmware only on J16 (R54, R555), with the PHYs down not on P1 to P4 (R546). QUENCH and UNQUENCH need no services
(R73). -/
def State.eopUp (s : State) (o : Origin) (code : Nat) : Bool :=
  let usb := o.port.val == 4
  s.power.boot.isNone
    && (if s.power.bare then usb
        else (s.servicesUp || (!s.standby && (code == 0x50 || code == 0x51)))
          && (usb || (!s.standby && s.rd E.Id.MODULE_STATE != 2 && !s.power.reduced)))

/-- A datagram on port 47010. -/
def State.datagram (s : State) (o : Origin) (d : List Byte) : State :=
  match eopParse d with
  | none => s.inc E.Auth.DROPPED_FRAMES
  | some q => s.request o q

/-- The oldest frame of receive ring `k` that carries the datagram leaves it. -/
def State.takeFrame (s : State) (k : Nat) (d : List Byte) : State × Option RxFrame :=
  let r := s.ring k
  let is := fun e : RingEntry => match e with
    | .rx f => isEop f.frame && f.frame.payload == d
    | _ => false
  match takeFirst is r.q with
  | some (.rx f, rest) => (s.setRing k { r with tail := (r.tail + 1) % 65536, q := rest }, some f)
  | _ => (s, none)

/-- The quench engine's slot of a frame that it has handled is free (R312). -/
def State.freeSlot (s : State) (p : Nat) (f : RxFrame) : State :=
  let x := s.port p
  let k := s.sourceSlot f.frame.src
  s.setPort p { x with slots := x.slots.store 0 k (x.slots.fetch 0 k - 1) }

/-- A received datagram leaves its receive ring: RXH for QUENCH and UNQUENCH, RXL otherwise. -/
def State.takeDatagram (s : State) (o : Origin) (d : List Byte) : State :=
  if o.port.val = 4 then s
  else
    let p := o.port.val
    match s.takeFrame (4 * p + 2) d with
    | (s, some f) => s.freeSlot p f
    | (s, none) => (s.takeFrame (4 * p + 3) d).1

/-- A service row: a datagram of that service, or one that is dropped. A datagram of another service is not this command. -/
def State.eopRow (s : State) (o : Origin) (code : Nat) (d : List Byte) : State :=
  if (eopParse d).any (fun q => q.service != code) || !s.eopUp o code then s else (s.takeDatagram o d).datagram o d

/-! ## Commands -/

/-- A datagram at TB3 `at_`. -/
def eopStep (code at_ : Nat) (o : Origin) (d : List Byte) (s : State) : Result := .next ((s.advance at_).eopRow o code d)

/-- READ (R64). -/
def execRead (at_ : Nat) (o : Origin) (d : List Byte) (s : State) : Result := eopStep 0x01 at_ o d s
/-- WRITE (R49). -/
def execWrite (at_ : Nat) (o : Origin) (d : List Byte) (s : State) : Result := eopStep 0x02 at_ o d s
/-- READ_MULTI (R64). -/
def execReadMulti (at_ : Nat) (o : Origin) (d : List Byte) (s : State) : Result := eopStep 0x03 at_ o d s
/-- DESCRIBE (R63). -/
def execDescribe (at_ : Nat) (o : Origin) (d : List Byte) (s : State) : Result := eopStep 0x04 at_ o d s
/-- SEG_READ_START (R65). -/
def execSegReadStart (at_ : Nat) (o : Origin) (d : List Byte) (s : State) : Result := eopStep 0x10 at_ o d s
/-- SEG_READ_PART (R65). -/
def execSegReadPart (at_ : Nat) (o : Origin) (d : List Byte) (s : State) : Result := eopStep 0x11 at_ o d s
/-- SEG_WRITE_START (R66). -/
def execSegWriteStart (at_ : Nat) (o : Origin) (d : List Byte) (s : State) : Result := eopStep 0x12 at_ o d s
/-- SEG_WRITE_PART (R66). -/
def execSegWritePart (at_ : Nat) (o : Origin) (d : List Byte) (s : State) : Result := eopStep 0x13 at_ o d s
/-- SEG_ABORT (R67). -/
def execSegAbort (at_ : Nat) (o : Origin) (d : List Byte) (s : State) : Result := eopStep 0x14 at_ o d s
/-- The transfer of a client ends where it has been idle for 5 s. -/
def State.expireTransfer (s : State) (r : Reader) : State :=
  match (s.transferOf r).1 with
  | some t => if s.staleTransfer t then s.setTransfer r none true else s
  | none => s
/-- TRANSFER_TIMEOUT (R67): of a session, or of the dictionary port. -/
def execTransferTimeout (at_ : Nat) (session : Option Nat) (s : State) : Result :=
  .next ((s.advance at_).expireTransfer (readerOf { level := .viewer, session := session }))
/-- GROUP_BEGIN (R68). -/
def execGroupBegin (at_ : Nat) (o : Origin) (d : List Byte) (s : State) : Result := eopStep 0x20 at_ o d s
/-- GROUP_STAGE (R68). -/
def execGroupStage (at_ : Nat) (o : Origin) (d : List Byte) (s : State) : Result := eopStep 0x21 at_ o d s
/-- GROUP_COMMIT (R69). -/
def execGroupCommit (at_ : Nat) (o : Origin) (d : List Byte) (s : State) : Result := eopStep 0x22 at_ o d s
/-- GROUP_DISCARD (R70). -/
def execGroupDiscard (at_ : Nat) (o : Origin) (d : List Byte) (s : State) : Result := eopStep 0x23 at_ o d s
/-- GROUP_TIMEOUT (R70): of a session, or of the dictionary port. -/
def execGroupTimeout (at_ : Nat) (session : Option Nat) (s : State) : Result :=
  let r := readerOf { level := .viewer, session := session }
  .next (let s := s.advance at_
         if (s.groupOf r).isNone then s.setGroup r none else s)
/-- SUBSCRIBE (R71). -/
def execSubscribe (at_ : Nat) (o : Origin) (d : List Byte) (s : State) : Result := eopStep 0x30 at_ o d s
/-- UNSUBSCRIBE (R71). -/
def execUnsubscribe (at_ : Nat) (o : Origin) (d : List Byte) (s : State) : Result := eopStep 0x31 at_ o d s
/-- SUBSCRIPTION_CHECK (R71). -/
def execSubscriptionCheck (at_ session subscription : Nat) (s : State) : Result :=
  .next (let s := s.advance at_
         if s.servicesUp then s.checkSubscription session subscription else s)
/-- LOGIN_CHALLENGE (R77). -/
def execLoginChallenge (at_ : Nat) (o : Origin) (d : List Byte) (s : State) : Result := eopStep 0x40 at_ o d s
/-- CHALLENGE_EXPIRY (R78). -/
def execChallengeExpiry (at_ challenge : Nat) (s : State) : Result :=
  .next (let s := s.advance at_
         { s with eop := { s.eop with challenges := s.eop.challenges.filter (fun (c : Challenge) =>
           c.id != challenge || decide ((s.now : Int) < c.issued + 10000000000)) } })
/-- LOGIN_RESPONSE (R78). -/
def execLoginResponse (at_ : Nat) (o : Origin) (d : List Byte) (s : State) : Result := eopStep 0x41 at_ o d s
/-- LOGIN_BLOCK_EXPIRY (R78). -/
def execLoginBlockExpiry (at_ ip : Nat) (s : State) : Result :=
  .next (let s := s.advance at_
         { s with eop := { s.eop with blocks := s.eop.blocks.filter (fun x => x.1 != ip || decide ((s.now : Int) < x.2)) } })
/-- LOGOUT (R80). -/
def execLogout (at_ : Nat) (o : Origin) (d : List Byte) (s : State) : Result := eopStep 0x42 at_ o d s
/-- KEEPALIVE (R80). -/
def execKeepalive (at_ : Nat) (o : Origin) (d : List Byte) (s : State) : Result := eopStep 0x43 at_ o d s
/-- SESSION_IDLE_TIMEOUT (R80). -/
def execSessionIdleTimeout (at_ session : Nat) (s : State) : Result :=
  .next (let s := s.advance at_
         match s.session session with
         | some x => if s.idle x then s.endSession session else s
         | none => s)
/-- QUENCH (R73). -/
def execQuench (at_ : Nat) (o : Origin) (d : List Byte) (s : State) : Result := eopStep 0x50 at_ o d s
/-- UNQUENCH (R75). -/
def execUnquench (at_ : Nat) (o : Origin) (d : List Byte) (s : State) : Result := eopStep 0x51 at_ o d s
/-- IDENTIFY (R76). -/
def execIdentify (at_ : Nat) (o : Origin) (d : List Byte) (s : State) : Result := eopStep 0x60 at_ o d s

end Sys2Proof.Machine
end

