-- ==== Sys2Proof/Machine/RuntimeCommit.lean ====
section
/-!
DEFINITION. Machine/RuntimeCommit.lean: the commit of a turn (R31, R57, R58, R92, R93, R103, R110, R116, R118 to R120, R186 to R190,
R409, R583).
-/
namespace Sys2Proof.Machine

/-! ## Exports (R58) -/

/-- The bytes of a value of a type, little-endian (R16). -/
def valueLe (ty : Ty) : Value → List Byte
  | .num n => if ty = .time96 then time96le n else leBytes (Ty.bits ty / 8) n
  | .bytes b => b

/-- The value of a type that little-endian bytes give. -/
def leValue (ty : Ty) (b : List Byte) : Value :=
  match ty with
  | .str => .bytes b
  | .octets => .bytes b
  | .time96 => .num (leAt b 0 6 * 2 ^ 48 + leAt b 6 4 * 2 ^ 16 + leAt b 10 2)
  | .bool => .num (ofBool (leAt b 0 1 != 0))
  | _ => .num (leAt b 0 (Ty.bits ty / 8))

/-- Writes to exports that the turn's copy-in took reach their variables. -/
def State.takeExports (s : State) (es : List (Nat × Value)) : State :=
  es.foldl (fun s e => match s.exportDecl e.1 with
    | some d => { s with rt := { s.rt with vars := s.rt.vars.put d.var (valueLe d.ty e.2) } }
    | none => s) s

/-- The exports of task `t` read the values of this commit. -/
def State.showExports (s : State) (t : Nat) : State :=
  match s.rt.archive with
  | none => s
  | some a => (a.exports.filter (fun e => e.task == t)).foldl (fun s e =>
      { s with rt := { s.rt with exports := s.rt.exports.put (e.index * 256 + e.sub) (leValue e.ty (s.rt.vars.fetch [] e.var)) } }) s

/-! ## Rings -/

/-- A refused block reaches the task as an error record (R93). -/
def State.ringRefused (s : State) (t ring n : Nat) : State := s.queueErr t { cause := 4, data := [ring, n] }

/-- A task's block of entries goes onto ring `k` whole, or is refused whole (R93). -/
def State.commitBlock (s : State) (t k : Nat) (es : List RingEntry) : State × Bool :=
  let (s, ok) := s.pushBlock k es
  if ok then (s, true) else (s.ringRefused t k es.length, false)

/-! ## Outputs -/

/-- An output byte of a station is accepted: OPERATIONAL in the snapshot and at the commit (R116). -/
def State.stationTakes (s : State) (n : Snapshot) (st : Nat) : Bool :=
  s.rd (E.Station.STATION_STATE st) == 3 && (match n.rio.find st with
    | some (live, _) => live
    | none => false)

/-- One output point of the output image (R92, R110): the point's writer is the task. -/
def State.commitOut (s : State) (t : Nat) (n : Snapshot) (w : OutWrite) : State :=
  let p := w.point
  let mine := (s.decl p).any (fun d => d.writer == some (.task t))
  let v := match pointClass p with
    | 2 => ofBool (w.value != 0)
    | 4 => w.value % 2 ^ 32
    | _ => w.value % 256
  let takes := match pointClass p with
    | 2 => !s.bankMember p
    | 4 => true
    | 6 => s.stationTakes n (pointNumber p / 1024)
    | _ => false
  if !mine || !takes then s
  else
    let x := s.task t
    ({ s with rt := { s.rt with outs := s.rt.outs.put p v } }.setTask t { x with outs := x.outs.put p v }).noteWritten p v

/-- RIO_OUT: one entry per station with its accepted bytes as offset and value. -/
def State.rioBlock (s : State) (t : Nat) (n : Snapshot) (ws : List OutWrite) : List RingEntry :=
  let mine := ws.filter (fun w => pointClass w.point == 6 && (s.decl w.point).any (fun d => d.writer == some (.task t))
    && s.stationTakes n (pointNumber w.point / 1024))
  (List.range 64).filterMap (fun st =>
    let bs := mine.filter (fun w => pointNumber w.point / 1024 == st)
    if bs.isEmpty then none
    else some (.rio st (bs.flatMap (fun w => leBytes 2 (pointNumber w.point % 1024) ++ leBytes 1 w.value))))

/-- FORCE_WRITTEN of forced object bytes follows the data that the task gives (R110). -/
def State.noteCan (s : State) (c : Nat) (e : CanTx) : State :=
  if e.command = 3 then s
  else e.data.zipIdx.foldl (fun s b => s.noteWritten (pointId 7 (c * 2048 + e.object * 64 + b.2)) b.1.toNat) s

/-- The block for the TXQ of channel `c` (R349): the task is the producer. -/
def State.commitCan (s : State) (t c : Nat) (es : List (Nat × CanTx)) : State :=
  let mine := (es.filter (fun e => e.1 == c)).map (fun e => { e.2 with producer := t })
  let (s, ok) := s.commitBlock t (16 + 2 * c) (mine.map RingEntry.can)
  if ok then mine.foldl (fun s e => s.noteCan c e) s else s

/-- One command for MOTION_CMD gets its source and its move, and joins the block (R409). -/
def State.placeCmd (t : Nat) (acc : State × List RingEntry) (c : MotionCmd) : State × List RingEntry :=
  let r := acc.1.assignMove { c with source := t }
  (r.1, acc.2 ++ [.motion r.2])

/-- The block for MOTION_CMD (R409). -/
def State.commitMotion (s : State) (t : Nat) (cs : List MotionCmd) : State :=
  let r := cs.foldl (State.placeCmd t) (s, [])
  (r.1.commitBlock t 42 r.2).1

/-! ## SUBMIT (R31, R120, R186 to R190) -/

/-- The runtime accepts an item at issue: a request or abort of the board's writer, with a deadline from 100 µs to 60 s after the
release (R186, R190). -/
def State.submitOk (s : State) (t : Nat) (rel : Int) : SubmitItem → Bool
  | .batch _ _ => true
  | .solve b d _ => s.boardWriter b == t && decide (rel + 100000 ≤ d) && decide (d ≤ rel + 60000000000)
  | .abort b _ => s.boardWriter b == t

/-- An item takes its place with its SOLVE_ID (R189). -/
def State.submitEntry (s : State) (t : Nat) (i : SubmitItem) : State × SubmitEntry :=
  match i with
  | .solve _ _ _ =>
    let (s, id) := s.issueId t
    (s, { item := i, source := t, solveId := id, issued := s.now })
  | .abort _ id => (s, { item := i, source := t, solveId := id, issued := s.now })
  | .batch _ _ => (s, { item := i, source := t, solveId := 0, issued := s.now })

/-- The view of a board after an entry of the task on a ring (R120). -/
def viewAfter (v : SMap BoardView) (e : SubmitEntry) : SMap BoardView :=
  match e.item with
  | .batch b bs => v.modify {} b (fun x => { x with seq := leAt bs 8 4 })
  | .solve b _ _ => v.modify {} b (fun x => { x with open_ := x.open_ ++ [e.solveId] })
  | .abort _ _ => v

/-- Requests whose outcome the turn has seen leave the view (R120, log 127): those of the outcome's source up to its SOLVE_ID; SOLVE_ID
0 on a board drops them all (R207). -/
def reported (n : Snapshot) (b : Nat) (v : BoardView) : BoardView :=
  match n.solves.find b with
  | some o =>
    if o.solveId = 0 then { v with open_ := [] }
    else { v with open_ := v.open_.filter (fun x => x / 2 ^ 24 != o.solveId / 2 ^ 24 || decide (2 ^ 23 ≤ (o.solveId + 2 ^ 24 - x) % 2 ^ 24)) }
  | none => v

/-- The task's entries on one SUBMIT ring (R93, R188): refused whole, the view of every board in them stays. -/
def State.commitSubmit (s : State) (t k : Nat) (es : List SubmitEntry) : State :=
  let mine := es.filter (fun e => s.submitRing (itemBoard e.item) t == k)
  if mine.isEmpty then s
  else if s.submitFits k mine then
    let s := (s.pushBlock k (mine.map .submit)).1
    s.setTask t { s.task t with view := mine.foldl viewAfter (s.task t).view }
  else (s.inc (E.Ring.RING_REFUSALS k)).ringRefused t k mine.length

/-- Everything that the task gives the Frame in the turn. -/
def State.commitFrame (s : State) (t : Nat) (n : Snapshot) (is_ : List SubmitItem) : State :=
  let x := s.task t
  let s := s.setTask t { x with view := { cells := x.view.cells.map (fun (c : Nat × BoardView) => (c.1, reported n c.1 c.2)) } }
  let (s, es) := (is_.filter (s.submitOk t n.release)).foldl (fun (acc : State × List SubmitEntry) i =>
    let (s, e) := acc.1.submitEntry t i
    (s, acc.2 ++ [e])) (s, [])
  (s.commitSubmit t 24 es).commitSubmit t 25 es

/-! ## Dictionary requests (R57, R93) -/

/-- The task's requests go onto ring 29; a refused block gives each the status BUSY. -/
def State.commitRequests (s : State) (t : Nat) (rs : List DictReq) : State :=
  let (s, ok) := s.commitBlock t 29 (rs.map (fun r => .odReq { task := t, req := r }))
  if ok then s else rs.foldl (fun s r => s.place 30 (.odRsp { task := t, service := r.service, status := 0x0F, payload := [], at_ := s.now })) s

/-! ## Program state -/

/-- Variables, instances and task words of the turn (R92, R103 to R106, R221). -/
def State.commitProgram (s : State) (t : Nat) (rel : Int) (o : TurnOutput) : State :=
  let a := s.rt.archive
  let keepV := fun p => a.any (fun a => a.vars.any (fun v => v.path == p && v.retain))
  let keepI := fun p => a.any (fun a => a.insts.any (fun v => v.path == p && v.retain))
  let vars := o.vars.foldl (fun (m : SMap (List Byte)) v => m.put v.1 v.2) s.rt.vars
  let insts := o.calls.foldl (fun (m : SMap FbInst) c => m.put c.inst (evalFb rel (m.fetch { kind := c.kind } c.inst) c)) s.rt.insts
  let words := o.words.foldl (fun (m : SMap Nat) w =>
    if a.any (fun a => a.wordWriters.find w.1 == some t) then m.put w.1 (w.2 % 2 ^ 32) else m) s.tally.words
  { s with rt := { s.rt with vars := vars, insts := insts
                             retained := { cells := vars.cells.filter (fun v => keepV v.1) }
                             retInsts := { cells := insts.cells.filter (fun v => keepI v.1) } }
           tally := { s.tally with words := words } }

/-! ## The commit (R92) -/

/-- TURN_COMMIT of task `t`. -/
def State.turnCommit (s : State) (t : Nat) (o : TurnOutput) : State :=
  let x := s.task t
  match x.attr, x.turn with
  | some a, some u =>
    if !u.started || !s.turnMayRun t a u then s
    else
      let s := (s.takeExports u.exports).commitProgram t u.snap.release o
      let s := o.outs.foldl (fun s w => s.commitOut t u.snap w) s
      let s := (s.commitBlock t 37 (s.rioBlock t u.snap o.outs)).1
      let s := (List.range 4).foldl (fun s c => s.commitCan t c o.can) s
      let s := (s.commitMotion t o.motion).commitFrame t u.snap o.submits
      let s := s.commitRequests t o.requests
      let s := (s.commitBlock t 47 (o.mailbox.map .bytes)).1
      let s := ((List.range 4).foldl State.overrunEvent (s.retireTaken t)).showExports t
      let s := if u.overran then s.queueErr t { cause := 3, data := [u.skips] } else s
      let x := s.task t
      let s := s.setTask t { x with turn := none, turnNumber := x.turnNumber + 1, first := false, late := u.overran, abandonedRelease := none }
      let s := (((s.addTo (E.Task.TURNS t) 1).wr (E.Task.EXEC_LAST t) o.exec).raise (E.Task.EXEC_MAX t) o.exec).wrT (E.Task.LAST_COMMIT t) s.now
      let s := ((s.pairCommit a.pair).wr (E.Dbl.CKPT_PAGES a.pair) o.pages).wr E.Pwr.PF_CKPT_SIZE o.pfSize
      let s := if s.isHold && s.rd E.Run.HOLD_TASK = t then s.wr E.Run.HOLD_TASK 0xFF else s
      let s := s.sendChanges a.pair o.dirty
      (s.castleComplete t).settleStop
  | _, _ => s

/-- TURN_COMMIT (R92). -/
def execTurnCommit (at_ task : Nat) (o : TurnOutput) (s : State) : Result := .next ((s.advance at_).turnCommit task o)

end Sys2Proof.Machine
end

