-- ==== Sys2Proof/Machine/Services.lean ====
section
/-!
DEFINITION. Machine/Services.lean: the slice of the module services (R29): the network stack, the rings that the services consume,
the ledger writer, and the refresh of the TOKEN watchdog; and the mailbox of J16 (R571).
-/
namespace Sys2Proof.Machine

/-! ## Ring events (R215, R265, R275, R376, R400, R429) -/

/-- The instant in a TIME96 field of an entry, in nanoseconds. -/
def stampAt (b : List Byte) (off : Nat) : Int := intOf 48 (leAt b off 6) * 1000000000 + (leAt b (off + 6) 4 : Int)

/-- A DONE entry that the ledger records (R215). -/
def recordsDone (e : DoneEntry) : Bool := e.kind == 1 && [0x10, 0x12, 0x13].contains e.status

/-- A FIELD_DIAG entry that the ledger records (R376, R400, R470). -/
def recordsDiag (b : List Byte) : Bool :=
  let event := leAt b 2 1
  let detail := leAt b 3 1
  match leAt b 0 1 with
  | 0x02 => event == 0x10 || event == 0x16 || event == 0x18 || (event == 0x13 && bitOf detail 0)
  | 0x03 => event == 0x20
  | 0x04 => event == 0x30 || event == 0x31
  | 0x05 => event == 0x41 || event == 0x46 || (event == 0x43 && (detail / 2 == 5 || detail / 2 == 6))
  | 0x06 => event == 0x50 || event == 0x51 || event == 0x52
  | 0x08 => event == 0x60
  | 0x09 => true
  | 0x0A => true
  | 0x0B => true
  | _ => false

/-- A DONE entry at the services. -/
def State.serveDone (s : State) : RingEntry → State
  | .done e => if recordsDone e then s.logAt 0x20 e.kind (doneBytes e) e.tb3 else s
  | _ => s

/-- A LOOP_EVT entry at the services (R265). -/
def State.serveLoopEvt (s : State) : RingEntry → State
  | .bytes b => if [1, 3, 4, 5, 6, 7].contains (leAt b 2 1) then s.logAt 0x21 (leAt b 2 1) b (stampAt b 4) else s
  | _ => s

/-- A FIELD_DIAG entry at the services. -/
def State.serveDiag (s : State) : RingEntry → State
  | .bytes b => if recordsDiag b then s.logAt 0x23 (leAt b 2 1) b (stampAt b 4) else s
  | _ => s

/-- A MOTION_EVT entry at the services: results FAULT, LIMIT, HOMING_FAILED and HOMED, and each change of POS_VALID to false (R429).
The entry carries no stamp that the record could take but the latch's, so the record takes the instant of the slice. -/
def State.serveMotion (s : State) : RingEntry → State
  | .bytes b =>
    let a := leAt b 1 1
    let valid := bitOf (leAt b 14 1) 0
    let lost := !valid && bitOf s.motion.seenValid a
    let s := { s with motion := { s.motion with seenValid := setBit s.motion.seenValid a valid } }
    if lost || (leAt b 0 1 == 1 && [0x03, 0x09, 0x0A, 0x0B].contains (leAt b 2 1)) then s.log 0x24 (leAt b 0 1) b else s
  | _ => s

/-- A TS_EVT entry at the services (R275). -/
def State.serveTime (s : State) : RingEntry → State
  | .bytes b => if [1, 2, 3, 4].contains (leAt b 0 1) then s.logAt 0x22 (leAt b 0 1) b (stampAt b 4) else s
  | _ => s

/-- A response of a station (R323). -/
def State.serveAcyc (s : State) : RingEntry → State
  | .rio n b => s.takeAcyc n b
  | _ => s

/-- The services take every entry of ring `k`, the oldest first. -/
def State.drain (s : State) (k : Nat) (f : State → RingEntry → State) : State :=
  (s.ring k).q.foldl (fun s _ => match s.pop k with
    | (s, some e) => f s e
    | (s, none) => s) s

/-! ## The network stack (R29, R297) -/

/-- The Internet checksum of a block of octets. -/
def inetSum (b : List Byte) : Nat :=
  let w := sumNat ((List.range ((b.length + 1) / 2)).map (fun i => beAt (b ++ [0]) (2 * i) 2))
  let fold := fun n => n % 65536 + n / 65536
  65535 - fold (fold (fold w))

/-- The answer to an ARP request for the address of port `p` (R297). -/
def State.arpReply (s : State) (p : Nat) (f : EthFrame) : State :=
  if beAt f.payload 6 2 == 1 && s.ipOf p != 0 && beAt f.payload 24 4 == s.ipOf p then
    s.transmit p { cls := 1, dst := f.src, ether := 0x0806, len := 42
                   body := .bytes (beBytes 2 1 ++ beBytes 2 0x0800 ++ beBytes 1 6 ++ beBytes 1 4 ++ beBytes 2 2
                     ++ beBytes 6 (s.macOf p) ++ beBytes 4 (s.ipOf p) ++ slice f.payload 8 10) }
  else s

/-- The answer to an ICMP echo request (R297). -/
def State.echoReply (s : State) (p : Nat) (f : EthFrame) : State :=
  if beAt f.payload 0 2 == 0x0800 && f.ipDst == s.ipOf p && inetSum f.payload == 0 then
    let rest := f.payload.drop 4
    let sum := inetSum (beBytes 4 0 ++ rest)
    s.transmit p { cls := 0, dst := f.src, ip := f.ipSrc, proto := 1, len := 34 + f.payload.length
                   body := .bytes (beBytes 2 0 ++ beBytes 2 sum ++ rest) }
  else s

/-- The datagram is for an address of the module. -/
def State.ipForMe (s : State) (p : Nat) (f : EthFrame) : Bool := s.ipOf p != 0 && (f.ipDst == s.ipOf p || isGroup f.dst)

/-- A frame that the network stack takes from a receive ring of port `p`. -/
def State.netFrame (s : State) (p : Nat) (f : EthFrame) : State :=
  if f.ether == 0x0806 then s.arpReply p f
  else if f.ether != 0x0800 || !s.ipForMe p f then s
  else if f.proto == 1 then s.echoReply p f
  else if f.proto == 17 && f.udpDst == 47010 then
    let o : Origin := { port := Fin.ofNat 5 p, ip := BitVec.ofNat 32 f.ipSrc, udp := BitVec.ofNat 16 f.udpSrc, mac := BitVec.ofNat 48 f.src }
    if s.eopUp o (beAt f.payload 4 1) then s.datagram o f.payload else s
  else s

/-- A received frame at the services; a QUENCH frame leaves its slot (R312). A reset by an earlier request ends the slice. -/
def State.serveFrame (p : Nat) (s : State) : RingEntry → State
  | .rx r =>
    let s := if isQuench r.frame then s.freeSlot p r else s
    if s.power.boot.isSome then s else s.netFrame p r.frame
  | _ => s

/-- The receive rings of the four ports. -/
def State.serveFrames (s : State) : State :=
  (List.range 4).foldl (fun s p => (s.drain (4 * p + 2) (State.serveFrame p)).drain (4 * p + 3) (State.serveFrame p)) s

/-- An abort that its owning block has decided is answered (R83). -/
def State.answerDecided (s : State) (d : Deferred) : State :=
  match d.status with
  | none => s
  | some st =>
    if d.session = 0 then s.place 30 (.odRsp { task := d.transaction, service := d.service, status := st, payload := d.payload, at_ := s.now })
    else s.answerSession d.origin d.session d.service d.transaction d.node st d.payload

/-- A response is due: its abort is decided; its mirrored write is stored in the standby too, or the standby is no longer READY. -/
def State.responseDue (s : State) (d : Deferred) : Bool :=
  d.status.isSome && (match d.gen with
    | some g => !(s.twin.partner.any (fun h => h.role == 1 && h.readiness == 0)) || s.rd E.Twin.LINK_STATE == 2
        || !(s.twin.owedRecs != [] || s.twin.unacked.any (fun u => decide ((g + 2 ^ 32 - u.1) % 2 ^ 32 < 2 ^ 31)))
    | none => true)

/-- Every response that is due is sent. -/
def State.answerAborts (s : State) : State :=
  let ds := s.eop.deferred
  (ds.filter s.responseDue).foldl State.answerDecided { s with eop := { s.eop with deferred := ds.filter (fun d => !s.responseDue d) } }

/-! ## The slice -/

/-- The rings of events (R29). -/
def State.serveRings (s : State) : State :=
  let s := (s.drain 26 State.serveDone).drain 27 State.serveLoopEvt
  let s := (s.drain 41 State.serveDiag).drain 43 State.serveMotion
  let s := (s.drain 45 State.serveTime).drain 40 State.serveAcyc
  (List.range 4).foldl (fun s c => s.serveRxq c) s

/-- What the services do in a slice (R29). -/
def State.serveAll (s : State) : State :=
  let s := { s with twin := { s.twin with refreshAt := s.now } }
  let s := s.serveFrames
  if s.power.boot.isSome then s
  else
    let s := s.drainPort
    if s.power.boot.isSome then s else s.answerAborts.serveRings.ledgerSlice

/-- A slice of the module services (R29): it refreshes the TOKEN watchdog (R476) and commits; one that changed nothing else commits
empty (R135, R136). -/
def State.slice (s : State) : State :=
  if !s.servicesUp then s
  else
    let t := s.serveAll
    if t = { s with twin := { s.twin with refreshAt := s.now } } || t.power.boot.isSome then t else t.servicesCommit

/-! ## Commands -/

/-- SERVICE_SLICE (R29). -/
def execServiceSlice (at_ : Nat) (s : State) : Result := .next ((s.advance at_).slice)

/-- MBX0_PACKET (R571): a packet of the bulk interface is one entry of MBX0. -/
def execMbx0Packet (at_ : Nat) (b : List Byte) (s : State) : Result :=
  .next (let s := s.advance at_
         if s.power.boot.isSome || b.length != 64 then s else s.place 46 (.bytes b))

end Sys2Proof.Machine
end

