-- ==== Sys2Proof/Machine/Dispatch.lean ====
section
/-!
DEFINITION. Machine/Dispatch.lean: the one dispatch of a command to its meaning. `exec` acts on everything but the queue.
-/
namespace Sys2Proof.Machine

/-- The effect of one command (its row of spec/opcode_table.json names the rule). -/
def exec (i : Instr) (s : State) : Host.Outcome State Fault Refusal :=
  match i with
  | .archiveLoad at_ archive => Sys2Proof.Machine.execArchiveLoad at_ archive s
  | .serviceSlice at_ => Sys2Proof.Machine.execServiceSlice at_ s
  | .read at_ o d => Sys2Proof.Machine.execRead at_ o d s
  | .write at_ o d => Sys2Proof.Machine.execWrite at_ o d s
  | .readMulti at_ o d => Sys2Proof.Machine.execReadMulti at_ o d s
  | .describe at_ o d => Sys2Proof.Machine.execDescribe at_ o d s
  | .segReadStart at_ o d => Sys2Proof.Machine.execSegReadStart at_ o d s
  | .segReadPart at_ o d => Sys2Proof.Machine.execSegReadPart at_ o d s
  | .segWriteStart at_ o d => Sys2Proof.Machine.execSegWriteStart at_ o d s
  | .segWritePart at_ o d => Sys2Proof.Machine.execSegWritePart at_ o d s
  | .segAbort at_ o d => Sys2Proof.Machine.execSegAbort at_ o d s
  | .transferTimeout at_ session => Sys2Proof.Machine.execTransferTimeout at_ session s
  | .groupBegin at_ o d => Sys2Proof.Machine.execGroupBegin at_ o d s
  | .groupStage at_ o d => Sys2Proof.Machine.execGroupStage at_ o d s
  | .groupCommit at_ o d => Sys2Proof.Machine.execGroupCommit at_ o d s
  | .groupDiscard at_ o d => Sys2Proof.Machine.execGroupDiscard at_ o d s
  | .groupTimeout at_ session => Sys2Proof.Machine.execGroupTimeout at_ session s
  | .subscribe at_ o d => Sys2Proof.Machine.execSubscribe at_ o d s
  | .unsubscribe at_ o d => Sys2Proof.Machine.execUnsubscribe at_ o d s
  | .subscriptionCheck at_ session subscription => Sys2Proof.Machine.execSubscriptionCheck at_ session subscription s
  | .loginChallenge at_ o d => Sys2Proof.Machine.execLoginChallenge at_ o d s
  | .challengeExpiry at_ challenge => Sys2Proof.Machine.execChallengeExpiry at_ challenge s
  | .loginResponse at_ o d => Sys2Proof.Machine.execLoginResponse at_ o d s
  | .loginBlockExpiry at_ ip => Sys2Proof.Machine.execLoginBlockExpiry at_ ip s
  | .logout at_ o d => Sys2Proof.Machine.execLogout at_ o d s
  | .keepalive at_ o d => Sys2Proof.Machine.execKeepalive at_ o d s
  | .sessionIdleTimeout at_ session => Sys2Proof.Machine.execSessionIdleTimeout at_ session s
  | .quench at_ o d => Sys2Proof.Machine.execQuench at_ o d s
  | .unquench at_ o d => Sys2Proof.Machine.execUnquench at_ o d s
  | .quenchFilterExpiry at_ filter => Sys2Proof.Machine.execQuenchFilterExpiry at_ filter s
  | .identify at_ o d => Sys2Proof.Machine.execIdentify at_ o d s
  | .registerWrite at_ w key ty v => Sys2Proof.Machine.execRegisterWrite at_ w key ty v s
  | .warmRestartRequest at_ w => Sys2Proof.Machine.execWarmRestartRequest at_ w s
  | .coldRestartRequest at_ w => Sys2Proof.Machine.execColdRestartRequest at_ w s
  | .restoreFactory at_ w nonce => Sys2Proof.Machine.execRestoreFactory at_ w nonce s
  | .keyWrite at_ w level k => Sys2Proof.Machine.execKeyWrite at_ w level k s
  | .ringResetHwm at_ w ring => Sys2Proof.Machine.execRingResetHwm at_ w ring s
  | .resetStats at_ w key => Sys2Proof.Machine.execResetStats at_ w key s
  | .taskRelease at_ task => Sys2Proof.Machine.execTaskRelease at_ task s
  | .turnStart at_ task => Sys2Proof.Machine.execTurnStart at_ task s
  | .turnCommit at_ task o => Sys2Proof.Machine.execTurnCommit at_ task o s
  | .runCommand at_ w => Sys2Proof.Machine.execRunCommand at_ w s
  | .stopCommand at_ w => Sys2Proof.Machine.execStopCommand at_ w s
  | .stopNowCommand at_ w => Sys2Proof.Machine.execStopNowCommand at_ w s
  | .holdCommand at_ w => Sys2Proof.Machine.execHoldCommand at_ w s
  | .continueCommand at_ w => Sys2Proof.Machine.execContinueCommand at_ w s
  | .stepCommand at_ w => Sys2Proof.Machine.execStepCommand at_ w s
  | .breakpointReached at_ task => Sys2Proof.Machine.execBreakpointReached at_ task s
  | .holdLimitExpiry at_ => Sys2Proof.Machine.execHoldLimitExpiry at_ s
  | .holdPermitWrite at_ w v => Sys2Proof.Machine.execHoldPermitWrite at_ w v s
  | .retainReset at_ w => Sys2Proof.Machine.execRetainReset at_ w s
  | .forcePointWrite at_ w slot point => Sys2Proof.Machine.execForcePointWrite at_ w slot point s
  | .forceValueWrite at_ w slot value => Sys2Proof.Machine.execForceValueWrite at_ w slot value s
  | .forceActivate at_ w slot => Sys2Proof.Machine.execForceActivate at_ w slot s
  | .forceRemove at_ w slot => Sys2Proof.Machine.execForceRemove at_ w slot s
  | .forceClearAll at_ w => Sys2Proof.Machine.execForceClearAll at_ w s
  | .stageData at_ w b => Sys2Proof.Machine.execStageData at_ w b s
  | .stageCheck at_ w => Sys2Proof.Machine.execStageCheck at_ w s
  | .stageApply at_ w nonce => Sys2Proof.Machine.execStageApply at_ w nonce s
  | .revert at_ w nonce => Sys2Proof.Machine.execRevert at_ w nonce s
  | .onlineChangeover at_ => Sys2Proof.Machine.execOnlineChangeover at_ s
  | .onlineWindowExpiry at_ => Sys2Proof.Machine.execOnlineWindowExpiry at_ s
  | .comparatorMismatch at_ d copyA copyB => Sys2Proof.Machine.execComparatorMismatch at_ d copyA copyB s
  | .cacheUncorrectable at_ d => Sys2Proof.Machine.execCacheUncorrectable at_ d s
  | .cacheCorrected at_ d => Sys2Proof.Machine.execCacheCorrected at_ d s
  | .restartComplete at_ d rootOk => Sys2Proof.Machine.execRestartComplete at_ d rootOk s
  | .restartTimeout at_ d => Sys2Proof.Machine.execRestartTimeout at_ d s
  | .injectTestRun at_ w pair => Sys2Proof.Machine.execInjectTestRun at_ w pair s
  | .injectionTestDone at_ d r => Sys2Proof.Machine.execInjectionTestDone at_ d r s
  | .loadData at_ w b => Sys2Proof.Machine.execLoadData at_ w b s
  | .loadCommit at_ w nonce => Sys2Proof.Machine.execLoadCommit at_ w nonce s
  | .loadClear at_ w => Sys2Proof.Machine.execLoadClear at_ w s
  | .unloadBoard at_ w board => Sys2Proof.Machine.execUnloadBoard at_ w board s
  | .boardReplace at_ board => Sys2Proof.Machine.execBoardReplace at_ board s
  | .boardUnload at_ board => Sys2Proof.Machine.execBoardUnload at_ board s
  | .boardLoadDone at_ board => Sys2Proof.Machine.execBoardLoadDone at_ board s
  | .moveBatch at_ w board b => Sys2Proof.Machine.execMoveBatch at_ w board b s
  | .solveRequest at_ w board us => Sys2Proof.Machine.execSolveRequest at_ w board us s
  | .solveAbort at_ w board id => Sys2Proof.Machine.execSolveAbort at_ w board id s
  | .homeWrite at_ w board home => Sys2Proof.Machine.execHomeWrite at_ w board home s
  | .batchTake at_ => Sys2Proof.Machine.execBatchTake at_ s
  | .solveTake at_ => Sys2Proof.Machine.execSolveTake at_ s
  | .abortTake at_ => Sys2Proof.Machine.execAbortTake at_ s
  | .submitQueueRoom at_ => Sys2Proof.Machine.execSubmitQueueRoom at_ s
  | .solveDispatch at_ home => Sys2Proof.Machine.execSolveDispatch at_ home s
  | .solveOutcome at_ board => Sys2Proof.Machine.execSolveOutcome at_ board s
  | .deadlineMiss at_ board cut => Sys2Proof.Machine.execDeadlineMiss at_ board cut s
  | .abortLatch at_ board cut sameCycle => Sys2Proof.Machine.execAbortLatch at_ board cut sameCycle s
  | .doneWrite at_ => Sys2Proof.Machine.execDoneWrite at_ s
  | .beadSramUncorrectable at_ bead => Sys2Proof.Machine.execBeadSramUncorrectable at_ bead s
  | .beadEccCorrected at_ bead => Sys2Proof.Machine.execBeadEccCorrected at_ bead s
  | .frameStoreUncorrectable at_ board => Sys2Proof.Machine.execFrameStoreUncorrectable at_ board s
  | .frameBoundary at_ stalls => Sys2Proof.Machine.execFrameBoundary at_ stalls s
  | .bankSelect at_ w loop bank => Sys2Proof.Machine.execBankSelect at_ w loop bank s
  | .loopModeWrite at_ w loop mode => Sys2Proof.Machine.execLoopModeWrite at_ w loop mode s
  | .outManWrite at_ w loop value => Sys2Proof.Machine.execOutManWrite at_ w loop value s
  | .bankParameterWrite at_ w loop bank j k value => Sys2Proof.Machine.execBankParameterWrite at_ w loop bank j k value s
  | .bankCopy at_ w loop bank => Sys2Proof.Machine.execBankCopy at_ w loop bank s
  | .characteriserTableWrite at_ w table sub value => Sys2Proof.Machine.execCharacteriserTableWrite at_ w table sub value s
  | .loopRetainedStore at_ => Sys2Proof.Machine.execLoopRetainedStore at_ s
  | .freqAdjWrite at_ w base ppt => Sys2Proof.Machine.execFreqAdjWrite at_ w base ppt s
  | .baseStep at_ w base ns => Sys2Proof.Machine.execBaseStep at_ w base ns s
  | .baseSet at_ w base time => Sys2Proof.Machine.execBaseSet at_ w base time s
  | .ptpRoleWrite at_ w base role => Sys2Proof.Machine.execPtpRoleWrite at_ w base role s
  | .tbSnapshot at_ w => Sys2Proof.Machine.execTbSnapshot at_ w s
  | .syncReceived at_ b port mac m => Sys2Proof.Machine.execSyncReceived at_ b port mac m s
  | .followUpReceived at_ b port m => Sys2Proof.Machine.execFollowUpReceived at_ b port m s
  | .followUpTimeout at_ b port => Sys2Proof.Machine.execFollowUpTimeout at_ b port s
  | .syncSend at_ b port => Sys2Proof.Machine.execSyncSend at_ b port s
  | .announceSend at_ b port => Sys2Proof.Machine.execAnnounceSend at_ b port s
  | .announceReceived at_ b port a => Sys2Proof.Machine.execAnnounceReceived at_ b port a s
  | .announceReceiptTimeout at_ b => Sys2Proof.Machine.execAnnounceReceiptTimeout at_ b s
  | .syncIntervalTimeout at_ b => Sys2Proof.Machine.execSyncIntervalTimeout at_ b s
  | .delayReqSend at_ b port => Sys2Proof.Machine.execDelayReqSend at_ b port s
  | .delayRespReceived at_ b port m => Sys2Proof.Machine.execDelayRespReceived at_ b port m s
  | .pdelayReqSend at_ b port => Sys2Proof.Machine.execPdelayReqSend at_ b port s
  | .pdelayReqReceived at_ b port mac m => Sys2Proof.Machine.execPdelayReqReceived at_ b port mac m s
  | .pdelayRespReceived at_ b port mac m => Sys2Proof.Machine.execPdelayRespReceived at_ b port mac m s
  | .tcEventForward at_ f => Sys2Proof.Machine.execTcEventForward at_ f s
  | .partnerOffsetMeasure at_ m => Sys2Proof.Machine.execPartnerOffsetMeasure at_ m s
  | .frameReceived at_ port bufferFull f => Sys2Proof.Machine.execFrameReceived at_ port bufferFull f s
  | .portTransmit at_ port => Sys2Proof.Machine.execPortTransmit at_ port s
  | .supervisionSend at_ hsr => Sys2Proof.Machine.execSupervisionSend at_ hsr s
  | .ringCheck at_ => Sys2Proof.Machine.execRingCheck at_ s
  | .nodeForget at_ => Sys2Proof.Machine.execNodeForget at_ s
  | .linkChange at_ port link mdi => Sys2Proof.Machine.execLinkChange at_ port link mdi s
  | .cableTest at_ port pairs => Sys2Proof.Machine.execCableTest at_ port pairs s
  | .ecxEnableWrite at_ w v => Sys2Proof.Machine.execEcxEnableWrite at_ w v s
  | .stationEnableWrite at_ w station v => Sys2Proof.Machine.execStationEnableWrite at_ w station v s
  | .ecxCycleStart at_ => Sys2Proof.Machine.execEcxCycleStart at_ s
  | .cycleIn at_ port src f => Sys2Proof.Machine.execCycleIn at_ port src f s
  | .ecxCycleClose at_ => Sys2Proof.Machine.execEcxCycleClose at_ s
  | .acycRequest at_ w station b => Sys2Proof.Machine.execAcycRequest at_ w station b s
  | .acycResponse at_ station payload => Sys2Proof.Machine.execAcycResponse at_ station payload s
  | .acycTimeout at_ station => Sys2Proof.Machine.execAcycTimeout at_ station s
  | .channelModeWrite at_ w channel mode => Sys2Proof.Machine.execChannelModeWrite at_ w channel mode s
  | .channelModeEffect at_ c => Sys2Proof.Machine.execChannelModeEffect at_ c s
  | .canIntegration at_ c => Sys2Proof.Machine.execCanIntegration at_ c s
  | .txqSend at_ c => Sys2Proof.Machine.execTxqSend at_ c s
  | .txqUpdate at_ c => Sys2Proof.Machine.execTxqUpdate at_ c s
  | .txqAbort at_ c => Sys2Proof.Machine.execTxqAbort at_ c s
  | .objSend at_ w channel object b => Sys2Proof.Machine.execObjSend at_ w channel object b s
  | .periodicRelease at_ c o => Sys2Proof.Machine.execPeriodicRelease at_ c o s
  | .canFrameSent at_ c delay => Sys2Proof.Machine.execCanFrameSent at_ c delay s
  | .arbitrationLost at_ c => Sys2Proof.Machine.execArbitrationLost at_ c s
  | .transmitError at_ c kind collision quiet => Sys2Proof.Machine.execTransmitError at_ c kind collision quiet s
  | .busOffRecovery at_ c => Sys2Proof.Machine.execBusOffRecovery at_ c s
  | .lifetimeExpiry at_ c o => Sys2Proof.Machine.execLifetimeExpiry at_ c o s
  | .canFrameReceived at_ c f => Sys2Proof.Machine.execCanFrameReceived at_ c f s
  | .xcvrMeasure at_ c m => Sys2Proof.Machine.execXcvrMeasure at_ c m s
  | .txdDominantTimeout at_ c => Sys2Proof.Machine.execTxdDominantTimeout at_ c s
  | .fieldFrameToField at_ ok okX okY demag => Sys2Proof.Machine.execFieldFrameToField at_ ok okX okY demag s
  | .fieldFrameToLogic at_ ok f => Sys2Proof.Machine.execFieldFrameToLogic at_ ok f s
  | .diOpenWire at_ ix open_ => Sys2Proof.Machine.execDiOpenWire at_ ix open_ s
  | .diReversed at_ ix reversed => Sys2Proof.Machine.execDiReversed at_ ix reversed s
  | .latchEdge at_ ix rising => Sys2Proof.Machine.execLatchEdge at_ ix rising s
  | .doProfileWrite at_ w output profile => Sys2Proof.Machine.execDoProfileWrite at_ w output profile s
  | .doOverload at_ o atLimit below2V => Sys2Proof.Machine.execDoOverload at_ o atLimit below2V s
  | .doOvertemp at_ o hot => Sys2Proof.Machine.execDoOvertemp at_ o hot s
  | .doOpenOn at_ o open_ => Sys2Proof.Machine.execDoOpenOn at_ o open_ s
  | .doOpenOff at_ o open_ => Sys2Proof.Machine.execDoOpenOff at_ o open_ s
  | .doOffVoltage at_ o high => Sys2Proof.Machine.execDoOffVoltage at_ o high s
  | .shareFault at_ o out => Sys2Proof.Machine.execShareFault at_ o out s
  | .autoRetry at_ o => Sys2Proof.Machine.execAutoRetry at_ o s
  | .tripReset at_ w output => Sys2Proof.Machine.execTripReset at_ w output s
  | .groupStateChange at_ g st => Sys2Proof.Machine.execGroupStateChange at_ g st s
  | .silenceTimeout at_ => Sys2Proof.Machine.execSilenceTimeout at_ s
  | .aiConversion at_ ix m => Sys2Proof.Machine.execAiConversion at_ ix m s
  | .aiOpenWire at_ ix open_ => Sys2Proof.Machine.execAiOpenWire at_ ix open_ s
  | .aiOverRange at_ ix above => Sys2Proof.Machine.execAiOverRange at_ ix above s
  | .aiShort at_ ix short => Sys2Proof.Machine.execAiShort at_ ix short s
  | .aiReversed at_ ix reversed => Sys2Proof.Machine.execAiReversed at_ ix reversed s
  | .aiSupplyOff at_ ix => Sys2Proof.Machine.execAiSupplyOff at_ ix s
  | .supplyRetry at_ ix => Sys2Proof.Machine.execSupplyRetry at_ ix s
  | .aiThermalStep at_ ix zone => Sys2Proof.Machine.execAiThermalStep at_ ix zone s
  | .trimCaptureFirst at_ w input => Sys2Proof.Machine.execTrimCaptureFirst at_ w input s
  | .trimCaptureSecond at_ w input => Sys2Proof.Machine.execTrimCaptureSecond at_ w input s
  | .trimCaptureAbandon at_ w input => Sys2Proof.Machine.execTrimCaptureAbandon at_ w input s
  | .trimPointDone at_ ix => Sys2Proof.Machine.execTrimPointDone at_ ix s
  | .aoTrimDrive4 at_ w output => Sys2Proof.Machine.execAoTrimDrive4 at_ w output s
  | .aoTrimDrive20 at_ w output => Sys2Proof.Machine.execAoTrimDrive20 at_ w output s
  | .aoTrimApply at_ w output => Sys2Proof.Machine.execAoTrimApply at_ w output s
  | .aoTrimAbandon at_ w output => Sys2Proof.Machine.execAoTrimAbandon at_ w output s
  | .aoTrimReading at_ w output value => Sys2Proof.Machine.execAoTrimReading at_ w output value s
  | .aoCompliance at_ o short => Sys2Proof.Machine.execAoCompliance at_ o short s
  | .aoOpenWire at_ o open_ => Sys2Proof.Machine.execAoOpenWire at_ o open_ s
  | .aoRailFault at_ fault => Sys2Proof.Machine.execAoRailFault at_ fault s
  | .aoOvertemp at_ o hot => Sys2Proof.Machine.execAoOvertemp at_ o hot s
  | .bypassOpen at_ => Sys2Proof.Machine.execBypassOpen at_ s
  | .moveAbs at_ => Sys2Proof.Machine.execMoveAbs at_ s
  | .moveRel at_ => Sys2Proof.Machine.execMoveRel at_ s
  | .moveVel at_ => Sys2Proof.Machine.execMoveVel at_ s
  | .axisStop at_ => Sys2Proof.Machine.execAxisStop at_ s
  | .axisHome at_ => Sys2Proof.Machine.execAxisHome at_ s
  | .axisAbort at_ => Sys2Proof.Machine.execAxisAbort at_ s
  | .axisEnable at_ => Sys2Proof.Machine.execAxisEnable at_ s
  | .axisDisable at_ => Sys2Proof.Machine.execAxisDisable at_ s
  | .latchArm at_ => Sys2Proof.Machine.execLatchArm at_ s
  | .profileTick at_ => Sys2Proof.Machine.execProfileTick at_ s
  | .axisSettingWrite at_ w axis sub value => Sys2Proof.Machine.execAxisSettingWrite at_ w axis sub value s
  | .fltAsserted at_ a => Sys2Proof.Machine.execFltAsserted at_ a s
  | .fltReleased at_ a => Sys2Proof.Machine.execFltReleased at_ a s
  | .idleDisable at_ a => Sys2Proof.Machine.execIdleDisable at_ a s
  | .enableDelay at_ a => Sys2Proof.Machine.execEnableDelay at_ a s
  | .safetyRelease at_ => Sys2Proof.Machine.execSafetyRelease at_ s
  | .safetyCommit at_ x y => Sys2Proof.Machine.execSafetyCommit at_ x y s
  | .safeWatchdogExpiry at_ fsy => Sys2Proof.Machine.execSafeWatchdogExpiry at_ fsy s
  | .testPulse at_ source dropX dropY => Sys2Proof.Machine.execTestPulse at_ source dropX dropY s
  | .tpFault at_ source fault => Sys2Proof.Machine.execTpFault at_ source fault s
  | .siDiscrepancy at_ ix fsy => Sys2Proof.Machine.execSiDiscrepancy at_ ix fsy s
  | .sbPulseTest at_ output fsy pass => Sys2Proof.Machine.execSbPulseTest at_ output fsy pass s
  | .sbFault at_ output kind fsy => Sys2Proof.Machine.execSbFault at_ output kind fsy s
  | .escFrameReceived at_ lanB => Sys2Proof.Machine.execEscFrameReceived at_ lanB s
  | .htStart at_ w sb => Sys2Proof.Machine.execHtStart at_ w sb s
  | .safetyReset at_ w => Sys2Proof.Machine.execSafetyReset at_ w s
  | .spsData at_ w b => Sys2Proof.Machine.execSpsData at_ w b s
  | .spsCommit at_ w crc => Sys2Proof.Machine.execSpsCommit at_ w crc s
  | .partnerTokenAsserted at_ side => Sys2Proof.Machine.execPartnerTokenAsserted at_ side s
  | .partnerTokenDeasserted at_ side => Sys2Proof.Machine.execPartnerTokenDeasserted at_ side s
  | .fieldEnableAssert at_ => Sys2Proof.Machine.execFieldEnableAssert at_ s
  | .tokenPathFault at_ => Sys2Proof.Machine.execTokenPathFault at_ s
  | .tokenWatchdogExpiry at_ => Sys2Proof.Machine.execTokenWatchdogExpiry at_ s
  | .listenWindowExpiry at_ => Sys2Proof.Machine.execListenWindowExpiry at_ s
  | .heartbeatSend at_ sup => Sys2Proof.Machine.execHeartbeatSend at_ sup s
  | .heartbeatReceived at_ h errA errB => Sys2Proof.Machine.execHeartbeatReceived at_ h errA errB s
  | .linkDownTimeout at_ => Sys2Proof.Machine.execLinkDownTimeout at_ s
  | .deltaEnd at_ d => Sys2Proof.Machine.execDeltaEnd at_ d s
  | .resyncDone at_ d => Sys2Proof.Machine.execResyncDone at_ d s
  | .audit at_ ok => Sys2Proof.Machine.execAudit at_ ok s
  | .archivePart at_ staged off bytes last => Sys2Proof.Machine.execArchivePart at_ staged off bytes last s
  | .castleRequest at_ w nonce => Sys2Proof.Machine.execCastleRequest at_ w nonce s
  | .castleReceived at_ gen cause => Sys2Proof.Machine.execCastleReceived at_ gen cause s
  | .castleAck at_ => Sys2Proof.Machine.execCastleAck at_ s
  | .castleAckTimeout at_ => Sys2Proof.Machine.execCastleAckTimeout at_ s
  | .standbyTakeToken at_ cause => Sys2Proof.Machine.execStandbyTakeToken at_ cause s
  | .castlingRelease at_ => Sys2Proof.Machine.execCastlingRelease at_ s
  | .rejoin at_ w => Sys2Proof.Machine.execRejoin at_ w s
  | .proofTest at_ w nonce step1 step2 => Sys2Proof.Machine.execProofTest at_ w nonce step1 step2 s
  | .maintenanceEnter at_ => Sys2Proof.Machine.execMaintenanceEnter at_ s
  | .maintenanceExit at_ => Sys2Proof.Machine.execMaintenanceExit at_ s
  | .flushPage at_ records => Sys2Proof.Machine.execFlushPage at_ records s
  | .segmentRetired at_ segment => Sys2Proof.Machine.execSegmentRetired at_ segment s
  | .bookOpen at_ w nonce => Sys2Proof.Machine.execBookOpen at_ w nonce s
  | .readBlock at_ w => Sys2Proof.Machine.execReadBlock at_ w s
  | .clearRing at_ w proof => Sys2Proof.Machine.execClearRing at_ w proof s
  | .slateDraw at_ w b => Sys2Proof.Machine.execSlateDraw at_ w b s
  | .slateUpdTake at_ => Sys2Proof.Machine.execSlateUpdTake at_ s
  | .lcdVblank at_ => Sys2Proof.Machine.execLcdVblank at_ s
  | .phaseBoundary at_ => Sys2Proof.Machine.execPhaseBoundary at_ s
  | .panelTempRead at_ ntc => Sys2Proof.Machine.execPanelTempRead at_ ntc s
  | .bandCheck at_ band bad => Sys2Proof.Machine.execBandCheck at_ band bad s
  | .slateRailFault at_ rail volts => Sys2Proof.Machine.execSlateRailFault at_ rail volts s
  | .panelSequenceStep at_ => Sys2Proof.Machine.execPanelSequenceStep at_ s
  | .panelEnableWrite at_ w v => Sys2Proof.Machine.execPanelEnableWrite at_ w v s
  | .panelTypeWrite at_ w type => Sys2Proof.Machine.execPanelTypeWrite at_ w type s
  | .waveformSetWrite at_ w b => Sys2Proof.Machine.execWaveformSetWrite at_ w b s
  | .slateModeWrite at_ w mode => Sys2Proof.Machine.execSlateModeWrite at_ w mode s
  | .stripIdleExpiry at_ => Sys2Proof.Machine.execStripIdleExpiry at_ s
  | .keyPress at_ keys => Sys2Proof.Machine.execKeyPress at_ keys s
  | .serviceModeEnter at_ => Sys2Proof.Machine.execServiceModeEnter at_ s
  | .serviceModeExit at_ => Sys2Proof.Machine.execServiceModeExit at_ s
  | .powerOn at_ => Sys2Proof.Machine.execPowerOn at_ s
  | .start at_ ix => Sys2Proof.Machine.execStart at_ ix s
  | .holdupCharged at_ energy => Sys2Proof.Machine.execHoldupCharged at_ energy s
  | .supLow at_ v => Sys2Proof.Machine.execSupLow at_ v s
  | .supHigh at_ v => Sys2Proof.Machine.execSupHigh at_ v s
  | .powerFail at_ v => Sys2Proof.Machine.execPowerFail at_ v s
  | .powerFailReduce at_ => Sys2Proof.Machine.execPowerFailReduce at_ s
  | .pfCheckpoint at_ => Sys2Proof.Machine.execPfCheckpoint at_ s
  | .supReturned at_ => Sys2Proof.Machine.execSupReturned at_ s
  | .storeDepleted at_ => Sys2Proof.Machine.execStoreDepleted at_ s
  | .railFault at_ rail v => Sys2Proof.Machine.execRailFault at_ rail v s
  | .clockFault at_ kind present => Sys2Proof.Machine.execClockFault at_ kind present s
  | .thermal at_ junction => Sys2Proof.Machine.execThermal at_ junction s
  | .operatingHour at_ => Sys2Proof.Machine.execOperatingHour at_ s
  | .fwStageData at_ w b => Sys2Proof.Machine.execFwStageData at_ w b s
  | .fwStageCheck at_ w => Sys2Proof.Machine.execFwStageCheck at_ w s
  | .fwActivate at_ w nonce => Sys2Proof.Machine.execFwActivate at_ w nonce s
  | .trialTimeout at_ => Sys2Proof.Machine.execTrialTimeout at_ s
  | .supNormal at_ v => Sys2Proof.Machine.execSupNormal at_ v s
  | .thermalStateChange at_ mount junction => Sys2Proof.Machine.execThermalStateChange at_ mount junction s
  | .laneStateChange at_ lane up => Sys2Proof.Machine.execLaneStateChange at_ lane up s
  | .canReceiveError at_ c kind dominant => Sys2Proof.Machine.execCanReceiveError at_ c kind dominant s
  | .mbx0Packet at_ b => Sys2Proof.Machine.execMbx0Packet at_ b s

end Sys2Proof.Machine
end

