-- ==== Sys2Proof/Safety.lean ====
section
/-!
DEFINITION. Safety.lean: the terms in which claims speak: what a command leaves alone, when a dictionary write is accepted, and
what holds of the block in every state that a run can reach.
-/
namespace Sys2Proof.Machine

/-! ## Frames -/

/-- The parts of the state beside the dictionary, the rings, the queue and the instant. -/
inductive Part where
  | blocks | free | answer | j16 | eop | rt | pairs | frame | tally | time | net | ecx | can | ledger | field | motion | safety
  | twin | slate | power
deriving DecidableEq, Repr

/-- A part holds the same in both states. -/
def Part.same : Part → State → State → Prop
  | .blocks, s, t => t.blocks = s.blocks
  | .free, s, t => t.freeCtr = s.freeCtr
  | .answer, s, t => t.odStatus = s.odStatus ∧ t.odValue = s.odValue
  | .j16, s, t => t.j16 = s.j16
  | .eop, s, t => t.eop = s.eop
  | .rt, s, t => t.rt = s.rt
  | .pairs, s, t => t.pairs = s.pairs
  | .frame, s, t => t.frame = s.frame
  | .tally, s, t => t.tally = s.tally
  | .time, s, t => t.time = s.time
  | .net, s, t => t.net = s.net
  | .ecx, s, t => t.ecx = s.ecx
  | .can, s, t => t.can = s.can
  | .ledger, s, t => t.ledger = s.ledger
  | .field, s, t => t.field = s.field
  | .motion, s, t => t.motion = s.motion
  | .safety, s, t => t.safety = s.safety
  | .twin, s, t => t.twin = s.twin
  | .slate, s, t => t.slate = s.slate
  | .power, s, t => t.power = s.power

/-- `t` differs from `s` at most in the parts `ps`, the entries `es`, the rings `rs` and the entries of those rings (Table ARC-7): every
other part, every other entry of the dictionary, every other ring and the queue of commands are as they were. -/
def Frame (ps : List Part) (es : List Ent) (rs : List Nat) (s t : State) : Prop :=
  t.pending = s.pending
  ∧ (∀ p : Part, p ∉ ps → p.same s t)
  ∧ (∀ k : Nat, (∀ e ∈ es, k ≠ e.key) → (∀ r ∈ rs, k / 256 ≠ 0x1B00 + r) → t.od.find k = s.od.find k)
  ∧ (∀ k : Nat, k ∉ rs → t.ring k = s.ring k)

/-- From `s` to `t` the queue of commands stands and no part but `ps` differs, whatever the dictionary and the rings do. -/
def Keeps (ps : List Part) (s t : State) : Prop := t.pending = s.pending ∧ ∀ p : Part, p ∉ ps → p.same s t

/-- Command `c` answers a next state of which `P` holds. -/
def Completes (c : Instr) (s : State) (P : State → Prop) : Prop := ∃ t, exec c s = .next t ∧ P t

/-- The instant that a command of TB3 `at_` leaves (R268): TIME cycles of 4 ns, never back. -/
def State.instant (s : State) (at_ : Nat) : Nat := max s.now (at_ / 4 * 4)

/-! ## Accepted writes -/

/-- A write of a dictionary row passes every check at TB3 `at_`: the services run, the writer is there, and no check fails. -/
def State.accepts (s : State) (at_ : Nat) (w : Writer) (key : Nat) (ty : Ty) (v : Value) : Prop :=
  (s.advance at_).servicesUp = true ∧ (s.advance at_).writerOk w = true ∧ (s.advance at_).chkWrite w key (some ty) (some v) = 0

/-- The checkpoint generations of the pairs: a commit of the services advances that of their pair (R134, R136). -/
def genEnts : List Ent := (List.range 4).map E.Dbl.CKPT_GENERATION

/-- What storing a RETAINED entry may touch beside it: the count of writes to the partition (R53) and, on a twin base, the delta to the
standby (R484, R485). -/
def retainEnts : List Ent :=
  genEnts ++ [E.Restore.RETAINED_WRITES, E.Twin.GEN_SENT, E.Twin.DELTA_LAST, E.Twin.DELTA_MAX, E.Twin.RESYNCS]

/-- The parts that storing a RETAINED entry may touch. -/
def retainParts : List Part := [.answer, .blocks, .free, .twin, .ledger]

/-- A write that stores entry `e` and nothing else: accepted, `e` holds the value, stored in the retained partition (R49, R53). -/
def StoresRetained (e : Ent) (v : Nat) (s : State) (at_ : Nat) (t : State) : Prop :=
  t.odStatus = 0 ∧ t.rd e = v ∧ t.now = s.instant at_ ∧ Frame retainParts (e :: retainEnts) [28, 31] s t

/-- A write that stores the volatile entry `e` and nothing else (R49). -/
def StoresVolatile (e : Ent) (v : Nat) (s : State) (at_ : Nat) (t : State) : Prop :=
  t.odStatus = 0 ∧ t.rd e = v ∧ t.now = s.instant at_ ∧ Frame [.answer] (e :: genEnts) [] s t

/-- What a logged event may touch: nothing but RING_HWM and the loss counter of ring 28, or, in a STANDBY, what the ledger reports
of itself (R501, R507, R509). -/
def ledgerEnts : List Ent :=
  [E.Ldg.BOOK_STATE, E.Ldg.BOOK_FIRST_SEQ, E.Ldg.BOOK_COUNT, E.Ldg.RING_FIRST_SEQ, E.Ldg.LAST_SEQ, E.Ldg.CLEAR_SEQ, E.Ldg.RING_SEGMENTS,
   E.Ldg.BUFFER_FILL, E.Ldg.BUFFER_FILL_MAX, E.Ldg.RECORDS_LOST, E.Ldg.RECORD_RATE]

/-- What the report of roles, readiness and their records may touch (R473, R478, R501). -/
def twinEnts : List Ent := [E.Twin.READINESS, E.Twin.NOT_READY_CAUSE, E.Twin.PARTNER_ROLE, E.Twin.TWIN_STATUS] ++ ledgerEnts

/-- `t` is the module right after a reset of its logic side with a start of `cause` due: TB3 at 0, TOKEN stopped, the field side not
enabled, every ring empty; what is RETAINED, the queue and the supply survive (R26, R268, R474, R562). -/
def RestartDue (cause : Nat) (s t : State) : Prop :=
  t.power.boot = some cause ∧ t.now = 0 ∧ t.twin.token = false ∧ t.field.enable = false ∧ t.rings = {} ∧ t.eop.sessions = []
  ∧ t.power.supplied = true ∧ t.pending = s.pending

/-! ## Requests of the object protocol -/

/-- The module as it executes a request of a session: the datagram has left its receive ring, and the session's window and idle time
have moved on (R79, R80). -/
def State.admitted (s : State) (at_ : Nat) (o : Origin) (d : List Byte) (q : EopReq) : State :=
  (((s.advance at_).takeDatagram o d).admitReq q).1

/-- The window of session `x` takes SEQUENCE `n`: ahead of the highest one by at most 2^31, or behind it by no more than the values
passed and not taken before (R79). -/
def Session.takesSeq (x : Session) (n : Nat) : Prop :=
  (1 ≤ (n + 2 ^ 32 - x.high) % 2 ^ 32 ∧ (n + 2 ^ 32 - x.high) % 2 ^ 32 ≤ 2 ^ 31)
  ∨ (1 ≤ (x.high + 2 ^ 32 - n) % 2 ^ 32 ∧ (x.high + 2 ^ 32 - n) % 2 ^ 32 ≤ x.passed ∧ bitOf x.window ((x.high + 2 ^ 32 - n) % 2 ^ 32) = false)

/-- The writer that a session is. -/
def Session.writer (x : Session) : Writer := { level := x.level, j16 := x.port == 4, session := some x.id, node := x.node }

/-- The module answers EOP on the port of `o`: it runs with valid firmware and its services, on P1 to P4 as an ACTIVE without
RESTORE_FAULT whose PHYs have power, on J16 also in maintenance (R54, R80, R480, R546, R555). -/
def State.answersEop (s : State) (o : Origin) : Prop :=
  s.power.boot = none ∧ s.power.bare = false ∧ s.servicesUp = true
  ∧ (o.port.val = 4 ∨ (s.standby = false ∧ s.rd E.Id.MODULE_STATE ≠ 2 ∧ s.power.reduced = false))

/-- Datagram `d`, which spells request `q`, is a request of service `code` within a session that the module answers on this port: its
header passes (R59, R60), its session is open and not idle (R80), its tag is the session's and its SEQUENCE in the window (R79), it
repeats no request (R82), and the dictionary server is free (R50, R38). -/
def State.admits (s : State) (at_ : Nat) (o : Origin) (code : Nat) (d : List Byte) (q : EopReq) : Prop :=
  q.service = code ∧ s.answersEop o ∧ q.dest = s.rd E.Id.NODE_ID_ACTIVE
  ∧ q.flags % 64 = 0 ∧ bitOf q.flags 7 = false ∧ q.status = 0 ∧ q.reserved = 0 ∧ q.source < 2 ^ 18 ∧ q.payload.length ≤ 1400
  ∧ q.session ≠ 0
  ∧ (∃ x, s.session q.session = some x ∧ (s.instant at_ : Int) < x.lastReq + 1000000 * (x.idleMs : Int)
      ∧ q.tagged = true ∧ q.tag = (hmac x.key q.signed).take 16 ∧ x.takesSeq q.sequence ∧ ∀ k ∈ x.cache, k.transaction ≠ q.transaction)
  ∧ (∀ k ∈ s.eop.deferred, k.session ≠ q.session ∨ k.transaction ≠ q.transaction)
  ∧ (s.ring 29).q = [] ∧ (s.ring 30).waiting = []

/-- The same for a request outside a session, which carries no tag (R62). -/
def State.admitsPlain (s : State) (o : Origin) (code : Nat) (q : EopReq) : Prop :=
  q.service = code ∧ s.answersEop o ∧ q.dest = s.rd E.Id.NODE_ID_ACTIVE
  ∧ q.flags = 0 ∧ q.status = 0 ∧ q.reserved = 0 ∧ q.source < 2 ^ 18 ∧ q.payload.length ≤ 1400 ∧ q.session = 0 ∧ q.sequence = 0
  ∧ (s.ring 29).q = [] ∧ (s.ring 30).waiting = []

/-- The answer that the session keeps for the request (R82): status and payload. -/
def State.reply (t : State) (q : EopReq) : Option (Nat × List Byte) :=
  (t.session q.session).bind (fun x => (x.cache.find? (fun k => k.transaction == q.transaction)).map (fun k => (k.status, k.payload)))

/-- The transmit and receive rings of the four ports (Table ARC-6). -/
def portRings : List Nat := List.range 16

/-- Nothing but sessions, the rings of the ports and J16 differ: what a request that reads may touch. -/
def AnswersOnly (s t : State) : Prop := Frame [.eop, .net, .j16] [] portRings s t

/-! ## Frames at a port -/

/-- Frame `f` passes steps 1 and 2 of Table NET-5 at port `p`: the link is up, it is whole and in the module's VLAN, it is no pause
frame, no sign of a duplicate node (R317), not the module's own frame, and no second copy (R301). -/
def State.admitsFrame (s : State) (at_ p : Nat) (f : EthFrame) : Prop :=
  p < 4 ∧ s.rd (E.Port.LINK_STATE p) ≠ 0 ∧ f.fcsOk = true ∧ 64 ≤ f.len ∧ f.len ≤ 1528
  ∧ f.vlan.all (fun v => v == 0 || v == s.net.vlan) = true ∧ f.ether ≠ 0x8808 ∧ s.showsDuplicate p f = false ∧ f.src ≠ s.macOf p
  ∧ (s.advance at_).forgetEntries.isDuplicate p f = false

/-- What every admitted frame touches beside what becomes of it: counts of frames, and of frames seen on one LAN or the wrong one. -/
def frameEnts (p : Nat) : List Ent := [E.Port.RX_FRAMES p, E.Net.LAN_A_MISSING, E.Net.LAN_B_MISSING, E.Net.WRONG_LAN]

/-! ## What every step keeps -/

/-- TB3 stands at a TIME cycle (R268). -/
def State.onCycle (s : State) : Prop := s.now % 4 = 0

/-- No ring holds more entries than its depth (R36, Table ARC-6). -/
def State.ringsFit (s : State) : Prop := ∀ k, s.fill k ≤ ringDepth k

/-- The dictionary and the rings list each key once, in rising order. -/
def State.canonical (s : State) : Prop := rising s.od.cells = true ∧ rising s.rings.cells = true

/-- What holds of the block in every state that a run reaches. -/
def State.Sound (s : State) : Prop := s.onCycle ∧ s.ringsFit ∧ s.canonical

end Sys2Proof.Machine
end

