-- ==== Sys2Proof/WellFormed.lean ====
section
/-!
DEFINITION. WellFormed.lean: which commands are well formed: the instant fits the counter of TB3, every number names a thing that the
block has, every value fits its type. A command that is not well formed has a meaning too: it names nothing, and changes nothing but
the instant.
-/
namespace Sys2Proof

/-- An instant fits TB3, a count of nanoseconds of 64 bits (R268, Table LDG-1). -/
def okAt (t : Nat) : Bool := decide (t < 2 ^ 64)
/-- A number of a unit that the block has `n` of. -/
def below (k n : Nat) : Bool := decide (k < n)
/-- An entry's key: 16 bits of index and 8 of sub-index, which is never 0 (Table DIC-1). -/
def okKey (k : Nat) : Bool := decide (k < 2 ^ 24) && k % 256 != 0
/-- An unsigned number of `w` bits. -/
def word (n w : Nat) : Bool := decide (n < 2 ^ w)
/-- A signed number of `w` bits. -/
def signed (i : Int) (w : Nat) : Bool := decide (-(2 ^ (w - 1) : Int) ≤ i) && decide (i < (2 ^ (w - 1) : Int))
/-- A block of octets. -/
def okBytes (b : List Byte) : Bool := decide (b.length ≤ 65535)
/-- A block of octets of one size. -/
def exactly (b : List Byte) (n : Nat) : Bool := b.length == n
/-- A value of the form that its type has. -/
def okValue (ty : Ty) : Value → Bool
  | .num n => ty != .str && ty != .octets && decide (n < 2 ^ Machine.Ty.bits ty)
  | .bytes b => (ty == .str || ty == .octets) && okBytes b

/-- A command is well formed. -/
def Instr.wf : Instr → Bool
  | .archiveLoad at_ _ => okAt at_
  | .serviceSlice at_ => okAt at_
  | .read at_ _ d => okAt at_ && okBytes d
  | .write at_ _ d => okAt at_ && okBytes d
  | .readMulti at_ _ d => okAt at_ && okBytes d
  | .describe at_ _ d => okAt at_ && okBytes d
  | .segReadStart at_ _ d => okAt at_ && okBytes d
  | .segReadPart at_ _ d => okAt at_ && okBytes d
  | .segWriteStart at_ _ d => okAt at_ && okBytes d
  | .segWritePart at_ _ d => okAt at_ && okBytes d
  | .segAbort at_ _ d => okAt at_ && okBytes d
  | .transferTimeout at_ _ => okAt at_
  | .groupBegin at_ _ d => okAt at_ && okBytes d
  | .groupStage at_ _ d => okAt at_ && okBytes d
  | .groupCommit at_ _ d => okAt at_ && okBytes d
  | .groupDiscard at_ _ d => okAt at_ && okBytes d
  | .groupTimeout at_ _ => okAt at_
  | .subscribe at_ _ d => okAt at_ && okBytes d
  | .unsubscribe at_ _ d => okAt at_ && okBytes d
  | .subscriptionCheck at_ session _ => okAt at_ && word session 32
  | .loginChallenge at_ _ d => okAt at_ && okBytes d
  | .challengeExpiry at_ challenge => okAt at_ && word challenge 32
  | .loginResponse at_ _ d => okAt at_ && okBytes d
  | .loginBlockExpiry at_ ip => okAt at_ && word ip 32
  | .logout at_ _ d => okAt at_ && okBytes d
  | .keepalive at_ _ d => okAt at_ && okBytes d
  | .sessionIdleTimeout at_ session => okAt at_ && word session 32
  | .quench at_ _ d => okAt at_ && okBytes d
  | .unquench at_ _ d => okAt at_ && okBytes d
  | .quenchFilterExpiry at_ filter => okAt at_ && below filter 16
  | .identify at_ _ d => okAt at_ && okBytes d
  | .registerWrite at_ _ key ty v => okAt at_ && okKey key && okValue ty v
  | .warmRestartRequest at_ _ => okAt at_
  | .coldRestartRequest at_ _ => okAt at_
  | .restoreFactory at_ _ nonce => okAt at_ && word nonce 32
  | .keyWrite at_ _ _ k => okAt at_ && okBytes k
  | .ringResetHwm at_ _ ring => okAt at_ && below ring 48
  | .resetStats at_ _ key => okAt at_ && okKey key
  | .taskRelease at_ task => okAt at_ && below task 32
  | .turnStart at_ task => okAt at_ && below task 32
  | .turnCommit at_ task _ => okAt at_ && below task 32
  | .runCommand at_ _ => okAt at_
  | .stopCommand at_ _ => okAt at_
  | .stopNowCommand at_ _ => okAt at_
  | .holdCommand at_ _ => okAt at_
  | .continueCommand at_ _ => okAt at_
  | .stepCommand at_ _ => okAt at_
  | .breakpointReached at_ task => okAt at_ && below task 32
  | .holdLimitExpiry at_ => okAt at_
  | .holdPermitWrite at_ _ _ => okAt at_
  | .retainReset at_ _ => okAt at_
  | .forcePointWrite at_ _ slot _ => okAt at_ && below slot 240
  | .forceValueWrite at_ _ slot _ => okAt at_ && below slot 240
  | .forceActivate at_ _ slot => okAt at_ && below slot 240
  | .forceRemove at_ _ slot => okAt at_ && below slot 240
  | .forceClearAll at_ _ => okAt at_
  | .stageData at_ _ b => okAt at_ && okBytes b
  | .stageCheck at_ _ => okAt at_
  | .stageApply at_ _ nonce => okAt at_ && word nonce 32
  | .revert at_ _ nonce => okAt at_ && word nonce 32
  | .onlineChangeover at_ => okAt at_
  | .onlineWindowExpiry at_ => okAt at_
  | .comparatorMismatch at_ d _ _ => okAt at_ && below d 4
  | .cacheUncorrectable at_ d => okAt at_ && below d 4
  | .cacheCorrected at_ d => okAt at_ && below d 4
  | .restartComplete at_ d _ => okAt at_ && below d 4
  | .restartTimeout at_ d => okAt at_ && below d 4
  | .injectTestRun at_ _ pair => okAt at_ && below pair 4
  | .injectionTestDone at_ d _ => okAt at_ && below d 4
  | .loadData at_ _ b => okAt at_ && okBytes b
  | .loadCommit at_ _ nonce => okAt at_ && word nonce 32
  | .loadClear at_ _ => okAt at_
  | .unloadBoard at_ _ board => okAt at_ && below board 256
  | .boardReplace at_ board => okAt at_ && below board 256
  | .boardUnload at_ board => okAt at_ && below board 256
  | .boardLoadDone at_ board => okAt at_ && below board 256
  | .moveBatch at_ _ board b => okAt at_ && below board 256 && okBytes b
  | .solveRequest at_ _ board _ => okAt at_ && below board 256
  | .solveAbort at_ _ board id => okAt at_ && below board 256 && word id 32
  | .homeWrite at_ _ board home => okAt at_ && below board 256 && below home 256
  | .batchTake at_ => okAt at_
  | .solveTake at_ => okAt at_
  | .abortTake at_ => okAt at_
  | .submitQueueRoom at_ => okAt at_
  | .solveDispatch at_ home => okAt at_ && below home 72
  | .solveOutcome at_ board => okAt at_ && below board 256
  | .deadlineMiss at_ board _ => okAt at_ && below board 256
  | .abortLatch at_ board _ _ => okAt at_ && below board 256
  | .doneWrite at_ => okAt at_
  | .beadSramUncorrectable at_ bead => okAt at_ && below bead 64
  | .beadEccCorrected at_ bead => okAt at_ && below bead 64
  | .frameStoreUncorrectable at_ board => okAt at_ && below board 256
  | .frameBoundary at_ _ => okAt at_
  | .bankSelect at_ _ loop bank => okAt at_ && below loop 512 && below bank 2
  | .loopModeWrite at_ _ loop _ => okAt at_ && below loop 512
  | .outManWrite at_ _ loop _ => okAt at_ && below loop 512
  | .bankParameterWrite at_ _ loop bank j k _ => okAt at_ && below loop 512 && below bank 2 && below j 24 && below k 10
  | .bankCopy at_ _ loop bank => okAt at_ && below loop 512 && below bank 2
  | .characteriserTableWrite at_ _ table _ _ => okAt at_ && below table 128
  | .loopRetainedStore at_ => okAt at_
  | .freqAdjWrite at_ _ base ppt => okAt at_ && below base 3 && signed ppt 32
  | .baseStep at_ _ base ns => okAt at_ && below base 3 && signed ns 64
  | .baseSet at_ _ base _ => okAt at_ && below base 3
  | .ptpRoleWrite at_ _ base _ => okAt at_ && below base 3
  | .tbSnapshot at_ _ => okAt at_
  | .syncReceived at_ b port mac _ => okAt at_ && below b 3 && below port 4 && word mac 48
  | .followUpReceived at_ b port _ => okAt at_ && below b 3 && below port 4
  | .followUpTimeout at_ b port => okAt at_ && below b 3 && below port 4
  | .syncSend at_ b port => okAt at_ && below b 3 && below port 4
  | .announceSend at_ b port => okAt at_ && below b 3 && below port 4
  | .announceReceived at_ b port _ => okAt at_ && below b 3 && below port 4
  | .announceReceiptTimeout at_ b => okAt at_ && below b 3
  | .syncIntervalTimeout at_ b => okAt at_ && below b 3
  | .delayReqSend at_ b port => okAt at_ && below b 3 && below port 4
  | .delayRespReceived at_ b port _ => okAt at_ && below b 3 && below port 4
  | .pdelayReqSend at_ b port => okAt at_ && below b 3 && below port 4
  | .pdelayReqReceived at_ b port mac _ => okAt at_ && below b 3 && below port 4 && word mac 48
  | .pdelayRespReceived at_ b port mac _ => okAt at_ && below b 3 && below port 4 && word mac 48
  | .tcEventForward at_ _ => okAt at_
  | .partnerOffsetMeasure at_ _ => okAt at_
  | .frameReceived at_ port _ _ => okAt at_ && below port 4
  | .portTransmit at_ port => okAt at_ && below port 4
  | .supervisionSend at_ _ => okAt at_
  | .ringCheck at_ => okAt at_
  | .nodeForget at_ => okAt at_
  | .linkChange at_ port _ _ => okAt at_ && below port 4
  | .cableTest at_ port _ => okAt at_ && below port 4
  | .ecxEnableWrite at_ _ _ => okAt at_
  | .stationEnableWrite at_ _ station _ => okAt at_ && below station 64
  | .ecxCycleStart at_ => okAt at_
  | .cycleIn at_ port src _ => okAt at_ && below port 4 && word src 48
  | .ecxCycleClose at_ => okAt at_
  | .acycRequest at_ _ station b => okAt at_ && below station 64 && okBytes b
  | .acycResponse at_ station payload => okAt at_ && below station 64 && okBytes payload
  | .acycTimeout at_ station => okAt at_ && below station 64
  | .channelModeWrite at_ _ channel _ => okAt at_ && below channel 4
  | .channelModeEffect at_ c => okAt at_ && below c 4
  | .canIntegration at_ c => okAt at_ && below c 4
  | .txqSend at_ c => okAt at_ && below c 4
  | .txqUpdate at_ c => okAt at_ && below c 4
  | .txqAbort at_ c => okAt at_ && below c 4
  | .objSend at_ _ channel object b => okAt at_ && below channel 4 && below object 32 && okBytes b
  | .periodicRelease at_ c o => okAt at_ && below c 4 && below o 32
  | .canFrameSent at_ c _ => okAt at_ && below c 4
  | .arbitrationLost at_ c => okAt at_ && below c 4
  | .transmitError at_ c _ _ _ => okAt at_ && below c 4
  | .busOffRecovery at_ c => okAt at_ && below c 4
  | .lifetimeExpiry at_ c o => okAt at_ && below c 4 && below o 32
  | .canFrameReceived at_ c _ => okAt at_ && below c 4
  | .xcvrMeasure at_ c _ => okAt at_ && below c 4
  | .txdDominantTimeout at_ c => okAt at_ && below c 4
  | .fieldFrameToField at_ _ _ _ _ => okAt at_
  | .fieldFrameToLogic at_ _ _ => okAt at_
  | .diOpenWire at_ i _ => okAt at_ && below i 64
  | .diReversed at_ i _ => okAt at_ && below i 64
  | .latchEdge at_ i _ => okAt at_ && below i 64
  | .doProfileWrite at_ _ output _ => okAt at_ && below output 64
  | .doOverload at_ o _ _ => okAt at_ && below o 64
  | .doOvertemp at_ o _ => okAt at_ && below o 64
  | .doOpenOn at_ o _ => okAt at_ && below o 64
  | .doOpenOff at_ o _ => okAt at_ && below o 64
  | .doOffVoltage at_ o _ => okAt at_ && below o 64
  | .shareFault at_ o _ => okAt at_ && below o 64
  | .autoRetry at_ o => okAt at_ && below o 64
  | .tripReset at_ _ output => okAt at_ && below output 64
  | .groupStateChange at_ g _ => okAt at_ && below g 8
  | .silenceTimeout at_ => okAt at_
  | .aiConversion at_ i _ => okAt at_ && below i 32
  | .aiOpenWire at_ i _ => okAt at_ && below i 32
  | .aiOverRange at_ i _ => okAt at_ && below i 32
  | .aiShort at_ i _ => okAt at_ && below i 32
  | .aiReversed at_ i _ => okAt at_ && below i 32
  | .aiSupplyOff at_ i => okAt at_ && below i 32
  | .supplyRetry at_ i => okAt at_ && below i 32
  | .aiThermalStep at_ i zone => okAt at_ && below i 32 && below zone 2
  | .trimCaptureFirst at_ _ input => okAt at_ && below input 32
  | .trimCaptureSecond at_ _ input => okAt at_ && below input 32
  | .trimCaptureAbandon at_ _ input => okAt at_ && below input 32
  | .trimPointDone at_ i => okAt at_ && below i 32
  | .aoTrimDrive4 at_ _ output => okAt at_ && below output 16
  | .aoTrimDrive20 at_ _ output => okAt at_ && below output 16
  | .aoTrimApply at_ _ output => okAt at_ && below output 16
  | .aoTrimAbandon at_ _ output => okAt at_ && below output 16
  | .aoTrimReading at_ _ output _ => okAt at_ && below output 16
  | .aoCompliance at_ o _ => okAt at_ && below o 16
  | .aoOpenWire at_ o _ => okAt at_ && below o 16
  | .aoRailFault at_ _ => okAt at_
  | .aoOvertemp at_ o _ => okAt at_ && below o 16
  | .bypassOpen at_ => okAt at_
  | .moveAbs at_ => okAt at_
  | .moveRel at_ => okAt at_
  | .moveVel at_ => okAt at_
  | .axisStop at_ => okAt at_
  | .axisHome at_ => okAt at_
  | .axisAbort at_ => okAt at_
  | .axisEnable at_ => okAt at_
  | .axisDisable at_ => okAt at_
  | .latchArm at_ => okAt at_
  | .profileTick at_ => okAt at_
  | .axisSettingWrite at_ _ axis _ _ => okAt at_ && below axis 12
  | .fltAsserted at_ a => okAt at_ && below a 12
  | .fltReleased at_ a => okAt at_ && below a 12
  | .idleDisable at_ a => okAt at_ && below a 12
  | .enableDelay at_ a => okAt at_ && below a 12
  | .safetyRelease at_ => okAt at_
  | .safetyCommit at_ _ _ => okAt at_
  | .safeWatchdogExpiry at_ _ => okAt at_
  | .testPulse at_ source _ _ => okAt at_ && below source 4
  | .tpFault at_ source _ => okAt at_ && below source 4
  | .siDiscrepancy at_ i _ => okAt at_ && below i 16
  | .sbPulseTest at_ output _ _ => okAt at_ && below output 8
  | .sbFault at_ output _ _ => okAt at_ && below output 8
  | .escFrameReceived at_ _ => okAt at_
  | .htStart at_ _ sb => okAt at_ && below sb 8
  | .safetyReset at_ _ => okAt at_
  | .spsData at_ _ b => okAt at_ && okBytes b
  | .spsCommit at_ _ crc => okAt at_ && word crc 32
  | .partnerTokenAsserted at_ _ => okAt at_
  | .partnerTokenDeasserted at_ _ => okAt at_
  | .fieldEnableAssert at_ => okAt at_
  | .tokenPathFault at_ => okAt at_
  | .tokenWatchdogExpiry at_ => okAt at_
  | .listenWindowExpiry at_ => okAt at_
  | .heartbeatSend at_ _ => okAt at_
  | .heartbeatReceived at_ _ _ _ => okAt at_
  | .linkDownTimeout at_ => okAt at_
  | .deltaEnd at_ _ => okAt at_
  | .resyncDone at_ _ => okAt at_
  | .audit at_ _ => okAt at_
  | .archivePart at_ _ _ bytes _ => okAt at_ && okBytes bytes
  | .castleRequest at_ _ nonce => okAt at_ && word nonce 32
  | .castleReceived at_ _ _ => okAt at_
  | .castleAck at_ => okAt at_
  | .castleAckTimeout at_ => okAt at_
  | .standbyTakeToken at_ _ => okAt at_
  | .castlingRelease at_ => okAt at_
  | .rejoin at_ _ => okAt at_
  | .proofTest at_ _ nonce _ _ => okAt at_ && word nonce 32
  | .maintenanceEnter at_ => okAt at_
  | .maintenanceExit at_ => okAt at_
  | .flushPage at_ _ => okAt at_
  | .segmentRetired at_ segment => okAt at_ && below segment 1024
  | .bookOpen at_ _ nonce => okAt at_ && word nonce 32
  | .readBlock at_ _ => okAt at_
  | .clearRing at_ _ proof => okAt at_ && okBytes proof
  | .slateDraw at_ _ b => okAt at_ && okBytes b
  | .slateUpdTake at_ => okAt at_
  | .lcdVblank at_ => okAt at_
  | .phaseBoundary at_ => okAt at_
  | .panelTempRead at_ _ => okAt at_
  | .bandCheck at_ _ _ => okAt at_
  | .slateRailFault at_ _ _ => okAt at_
  | .panelSequenceStep at_ => okAt at_
  | .panelEnableWrite at_ _ _ => okAt at_
  | .panelTypeWrite at_ _ _ => okAt at_
  | .waveformSetWrite at_ _ b => okAt at_ && okBytes b
  | .slateModeWrite at_ _ _ => okAt at_
  | .stripIdleExpiry at_ => okAt at_
  | .keyPress at_ _ => okAt at_
  | .serviceModeEnter at_ => okAt at_
  | .serviceModeExit at_ => okAt at_
  | .powerOn at_ => okAt at_
  | .start at_ _ => okAt at_
  | .holdupCharged at_ _ => okAt at_
  | .supLow at_ _ => okAt at_
  | .supHigh at_ _ => okAt at_
  | .powerFail at_ _ => okAt at_
  | .powerFailReduce at_ => okAt at_
  | .pfCheckpoint at_ => okAt at_
  | .supReturned at_ => okAt at_
  | .storeDepleted at_ => okAt at_
  | .railFault at_ _ _ => okAt at_
  | .clockFault at_ _ _ => okAt at_
  | .thermal at_ _ => okAt at_
  | .operatingHour at_ => okAt at_
  | .fwStageData at_ _ b => okAt at_ && okBytes b
  | .fwStageCheck at_ _ => okAt at_
  | .fwActivate at_ _ nonce => okAt at_ && word nonce 32
  | .trialTimeout at_ => okAt at_
  | .supNormal at_ _ => okAt at_
  | .thermalStateChange at_ _ _ => okAt at_
  | .laneStateChange at_ lane _ => okAt at_ && below lane 2
  | .canReceiveError at_ c _ _ => okAt at_ && below c 4
  | .mbx0Packet at_ b => okAt at_ && exactly b 64

end Sys2Proof
end

