-- ==== Sys2Proof/Certificates/Slice0/Obligations.lean ====
section
/-!
DEFINITION. Certificates/Slice0/Obligations.lean: the statements for the provers, chapter by chapter of the spec. A clause about a
command says on which states and operands it completes, what it leaves behind, and what it leaves alone.
-/
set_option linter.unusedVariables false
open Sys2Proof Sys2Proof.Machine

/-- A step runs the command at the front of the queue on the state with the rest of the queue. For every command, every queue behind
it and every state, a step of the state with that command at the front of its queue is exec of the command on the state with the
queue's rest (the model's queue; log entry 2). (01_module_architecture) -/
def Obligations.StepRunsFrontCommand : Prop :=
  ∀ (c : Instr) (rest : List Instr) (s : State), step { s with pending := c :: rest } = exec c { s with pending := rest }

/-- A step on an empty queue leaves the state as it is. With no command waiting a step answers the same state (the model's choice; log
entry 2). (01_module_architecture) -/
def Obligations.StepOnAnEmptyQueueIdles : Prop :=
  ∀ s : State, s.pending = [] → step s = .next s

/-- The state after reset is sound and every entry reads its default. The state after reset meets what every step keeps: TB3 stands on
a cycle of TIME, no ring holds more than its depth, the dictionary and the rings are listed once each in rising order. TB3 is 0,
TOKEN and the field enable are off, no session is open, no command waits, and every entry reads its default; that a start of cause
1 is due is the model's choice (log entry 5). (01_module_architecture R36; 08_time_bases R268; 02_object_dictionary R47) -/
def Obligations.ResetIsSound : Prop :=
  State.reset.Sound ∧ State.reset.now = 0 ∧ State.reset.twin.token = false ∧ State.reset.field.enable = false ∧ State.reset.eop.sessions = []
  ∧ State.reset.pending = [] ∧ State.reset.power.boot = some 1 ∧ (∀ e : Ent, State.reset.get e = e.d) ∧ (∀ k : Nat, State.reset.fill k = 0)

/-- Every step keeps TB3 on a cycle of TIME, every ring within its depth, and the stores in canonical form. From every sound state
every step that answers a next state answers a sound one, whatever the command: TB3 is a multiple of 4 ns, no ring holds more
entries than its depth of Table ARC-6, and the dictionary and the rings list each key once in rising order.
(01_module_architecture R36; 01_module_architecture R38; 08_time_bases R268) -/
def Obligations.EveryStepKeepsTheStateSound : Prop :=
  ∀ s t : State, s.Sound → step s = .next t → t.Sound

/-- Every command of the table completes, and a step takes one command from the queue and leaves the others in order. For each of the
284 rows of the command table, from ARCHIVE_LOAD to MBX0_PACKET, all operands and all states, exec answers a next state and leaves
the queue as it is: the spec stops no command. A step on a queue with a command in front completes and leaves exactly the rest of
that queue, also where the command resets the module (the model's queue; log entry 2). What each command does is stated beside,
row by row. (01_module_architecture) -/
def Obligations.EveryStepTakesOneCommand : Prop :=
  (∀ (c : Instr) (s : State), ∃ t, exec c s = .next t ∧ t.pending = s.pending)
  ∧ (∀ (s : State) (c : Instr) (rest : List Instr), s.pending = c :: rest → ∃ t, step s = .next t ∧ t.pending = rest)

/-- What a producer and a consumer do to a ring: room, REFUSE, DROP, REPLACE, STALL and the oldest entry. A producer's entry joins the
end of a ring with room and no entry of its station to replace. On a full ring REFUSE leaves the ring and counts a refusal; DROP
discards the entry and counts an overflow; REPLACE puts the entry in the place of the unread one of its station and counts an
overflow; STALL keeps the entry waiting and loses nothing. The consumer takes the oldest entry and advances the tail modulo
65,536. No other ring changes. (01_module_architecture R36; 01_module_architecture R38) -/
def Obligations.RingsFollowTheirPolicies : Prop :=
  (∀ (s : State) (k : Nat) (e : RingEntry), s.fill k < ringDepth k → ringPolicy k ≠ .replace → (s.ring k).waiting = [] →
    ((s.push k e).1.ring k = { s.ring k with q := (s.ring k).q ++ [e] }) ∧ (s.push k e).2 = true ∧ Frame [] [] [k] s (s.push k e).1)
  ∧ (∀ (s : State) (k : Nat) (e : RingEntry), ringDepth k ≤ s.fill k → ringPolicy k = .refuse →
    (s.push k e).1.ring k = s.ring k ∧ (s.push k e).2 = false
      ∧ (s.push k e).1.rd (E.Ring.RING_REFUSALS k) = min (2 ^ 32 - 1) (s.rd (E.Ring.RING_REFUSALS k) + 1)
      ∧ Frame [] [E.Ring.RING_REFUSALS k] [] s (s.push k e).1)
  ∧ (∀ (s : State) (k : Nat) (e : RingEntry), ringDepth k ≤ s.fill k → ringPolicy k = .drop →
    (s.push k e).1.ring k = s.ring k ∧ (s.push k e).1.rd (E.Ring.RING_OVERFLOWS k) = min (2 ^ 32 - 1) (s.rd (E.Ring.RING_OVERFLOWS k) + 1)
      ∧ Frame [] [E.Ring.RING_OVERFLOWS k] [] s (s.push k e).1)
  ∧ (∀ (s : State) (k : Nat) (e : RingEntry), ringPolicy k = .replace → (s.ring k).q.any (fun x => entryStation x == entryStation e) = true →
    ((s.push k e).1.ring k).q = (s.ring k).q.map (fun x => if entryStation x = entryStation e then e else x)
      ∧ ((s.push k e).1.ring k).tail = (s.ring k).tail
      ∧ (s.push k e).1.rd (E.Ring.RING_OVERFLOWS k) = min (2 ^ 32 - 1) (s.rd (E.Ring.RING_OVERFLOWS k) + 1)
      ∧ Frame [] [] [k] s (s.push k e).1)
  ∧ (∀ (s : State) (k : Nat) (e : RingEntry), ringDepth k ≤ s.fill k → ringPolicy k = .stall →
    (s.push k e).1.ring k = { s.ring k with waiting := (s.ring k).waiting ++ [e], stallSince := some ((s.ring k).stallSince.getD s.now) } ∧ (s.push k e).2 = true
      ∧ Frame [] [] [k] s (s.push k e).1)
  ∧ (∀ (s : State) (k : Nat), ∀ (e : RingEntry) (rest : List RingEntry), (s.ring k).q = e :: rest → (s.ring k).waiting = [] →
    (s.pop k).2 = some e ∧ (s.pop k).1.ring k = { s.ring k with tail := ((s.ring k).tail + 1) % 65536, q := rest }
      ∧ Frame [] [] [k] s (s.pop k).1)

/-- A task is released where TB3 modulo PERIOD equals PHASE, always on a frame boundary. In RUN, with the task's pair running,
TASK_RELEASE of a task without a turn starts a turn, released at that instant, at every TB3 instant that is PHASE modulo PERIOD in
nanoseconds, and starts none at any other instant. Every task of an archive that passes the checks of a load has its releases on
frame boundaries of 50 us. (03_cyclic_runtime R86) -/
def Obligations.ReleasesOfTasks : Prop :=
  (∀ (s : State) (at_ n : Nat), ∀ a, (s.task n).attr = some a → a.period ≠ 0 → s.instant at_ % (1000 * a.period) = 1000 * a.phase →
      s.rd E.Run.RUNTIME_MODE = 0 → s.rd E.Run.STOP_PENDING = 0 → (s.advance at_).resumed = true → s.active = true →
      s.rd (E.Dbl.PAIR_STATE a.pair) = 1 → (s.task n).turn = none →
    Completes (.taskRelease at_ n) s (fun t => (t.task n).turn.map (fun u => u.snap.release) = some (s.instant at_ : Int)
      ∧ t.now = s.instant at_ ∧ Frame [.rt] [E.Task.LAST_RELEASE n] [] s t))
  ∧ (∀ (s : State) (at_ n : Nat), ∀ a, (s.task n).attr = some a → s.instant at_ % (1000 * a.period) ≠ 1000 * a.phase →
    Completes (.taskRelease at_ n) s (fun t => t.now = s.instant at_ ∧ Frame [] [] [] s t))
  ∧ (∀ (s : State) (a : Archive) (n : Nat), s.archiveCheck a = 0 → ∀ x ∈ a.tasks, isRelease n x = true → n % 50000 = 0)

/-- READ, READ_MULTI, DESCRIBE, WRITE and segmented transfers of an admitted request in a session. An admitted request always
completes: it is answered, and its answer kept. READ of a readable entry gives its type, length and value, in a session or, over
J16, without one, and of any other the status of the read; READ_MULTI of 1 to 32 addresses answers OK, with type, length and value
of a single one; DESCRIBE gives the description. These change nothing but sessions and the rings of the ports. WRITE does what a
dictionary write of its entry does and answers that status where no standby must store it first; a write of SESSION_IDLE_TIMEOUT
in its range, off a twin base, from Engineer up stores it. SEG_READ_START opens a read transfer of the whole value; SEG_READ_PART
gives a segment of 1,024 bytes or the rest; SEG_WRITE_START of an allowed write opens a write transfer; SEG_WRITE_PART before the
last missing segment keeps its segment; SEG_ABORT ends the transfer. An admitted request is one whose header, session, tag and
SEQUENCE pass (State.admits). (02_object_dictionary R49; 02_object_dictionary R63; 02_object_dictionary R64; 02_object_dictionary
R65; 02_object_dictionary R66; 02_object_dictionary R67; 02_object_dictionary R82) -/
def Obligations.DictionaryServicesOfASession : Prop :=
  (∀ (s : State) (at_ : Nat) (o : Origin) (d : List Byte), ∀ q, eopParse d = some q → s.admits at_ o 0x01 d q →
      q.payload.length = 4 → beAt q.payload 3 1 = 0 →
      ∀ r, (s.entryAt (keyAt q.payload 0)).toOption = some r → r.1.acc ≠ .wo → s.invalidEntry (keyAt q.payload 0) = false →
      ∀ b, b = valueBe r.1.ty ((s.admitted at_ o d q).valueOf (.session q.session) (keyAt q.payload 0) r.2) → b.length ≤ 1024 →
      keyAt q.payload 0 ≠ 0x700102 →
    Completes (.read at_ o d) s (fun t => t.reply q = some (0, beBytes 1 (tyCode r.1.ty) ++ beBytes 1 0 ++ beBytes 2 b.length ++ b)
      ∧ t.now = s.instant at_ ∧ AnswersOnly s t))
  ∧ (∀ (s : State) (at_ : Nat) (o : Origin) (d : List Byte), ∀ q, eopParse d = some q → s.admits at_ o 0x01 d q →
      q.payload.length = 4 → beAt q.payload 3 1 = 0 → ∀ x, x = (s.admitted at_ o d q).readEntry (.session q.session) (keyAt q.payload 0) →
      x.1 ≠ 0 →
    Completes (.read at_ o d) s (fun t => t.reply q = some (x.1, []) ∧ t.now = s.instant at_ ∧ AnswersOnly s t))
  ∧ (∀ (s : State) (at_ : Nat) (o : Origin) (d : List Byte), ∀ q, eopParse d = some q → s.admitsPlain o 0x01 q → o.port.val = 4 →
      q.payload.length = 4 → beAt q.payload 3 1 = 0 →
      ∀ r, (s.entryAt (keyAt q.payload 0)).toOption = some r → r.1.acc ≠ .wo → s.invalidEntry (keyAt q.payload 0) = false →
      keyAt q.payload 0 / 256 ≠ 0x7001 →
      ∀ b, b = valueBe r.1.ty ((s.advance at_).valueOf .anon (keyAt q.payload 0) r.2) → b.length ≤ 1024 →
    Completes (.read at_ o d) s (fun t => t.j16.dropLast = s.j16 ∧ t.j16.getLast?.map (fun f => (f.dst, f.body))
        = some (o.mac.toNat, .bytes (eopFrame 0x80 0x01 0 q.transaction 0 0 (s.rd E.Id.NODE_ID_ACTIVE) q.source
            (beBytes 1 (tyCode r.1.ty) ++ beBytes 1 0 ++ beBytes 2 b.length ++ b)))
      ∧ t.now = s.instant at_ ∧ Frame [.j16] [] [] s t))
  ∧ (∀ (s : State) (at_ : Nat) (o : Origin) (d : List Byte), ∀ q, eopParse d = some q → s.admits at_ o 0x03 d q →
      ∀ n, 1 ≤ n → n ≤ 32 → beAt q.payload 0 4 = 0x01000000 * n → q.payload.length = 4 + 4 * n →
      (∀ i < n, beAt q.payload (7 + 4 * i) 1 = 0) →
    Completes (.readMulti at_ o d) s (fun t => (t.reply q).map (·.1) = some 0
      ∧ (t.reply q).map (fun x => x.2.take 4) = some (beBytes 1 n ++ beBytes 3 0) ∧ (t.reply q).all (fun x => decide (x.2.length ≤ 1400)) = true
      ∧ t.now = s.instant at_ ∧ AnswersOnly s t))
  ∧ (∀ (s : State) (at_ : Nat) (o : Origin) (d : List Byte), ∀ q, eopParse d = some q → s.admits at_ o 0x03 d q →
      beAt q.payload 0 4 = 0x01000000 → q.payload.length = 8 → beAt q.payload 7 1 = 0 →
      ∀ r, (s.entryAt (keyAt q.payload 4)).toOption = some r → r.1.acc ≠ .wo → s.invalidEntry (keyAt q.payload 4) = false →
      ∀ b, b = valueBe r.1.ty ((s.admitted at_ o d q).valueOf (.session q.session) (keyAt q.payload 4) r.2) → b.length ≤ 1024 →
      keyAt q.payload 4 / 256 ≠ 0x7001 →
    Completes (.readMulti at_ o d) s (fun t => t.reply q = some (0, beBytes 1 1 ++ beBytes 3 0 ++ (beBytes 1 0 ++ beBytes 1 (tyCode r.1.ty)
        ++ beBytes 2 b.length ++ b))
      ∧ t.now = s.instant at_ ∧ AnswersOnly s t))
  ∧ (∀ (s : State) (at_ : Nat) (o : Origin) (d : List Byte), ∀ q, eopParse d = some q → s.admits at_ o 0x04 d q →
      q.payload.length = 4 → beAt q.payload 3 1 = 0 → ∀ x, (s.entryAt (keyAt q.payload 0)).toOption = some x →
    Completes (.describe at_ o d) s (fun t => t.reply q = some (0, s.describe x.1 x.2) ∧ t.now = s.instant at_ ∧ AnswersOnly s t))
  ∧ (∀ (s : State) (at_ : Nat) (o : Origin) (d : List Byte), ∀ q, eopParse d = some q → s.admits at_ o 0x02 d q →
      s.standby = false → s.twinBase = false → ∀ y, s.session q.session = some y → 2 ≤ levelNum y.level → ∀ n, 5000 ≤ n → n ≤ 3600000 →
      q.payload = beBytes 3 E.Auth.SESSION_IDLE_TIMEOUT.key ++ beBytes 1 (tyCode .u32) ++ beBytes 2 4 ++ beBytes 4 n →
    Completes (.write at_ o d) s (fun t => t.reply q = some (0, []) ∧ t.rd E.Auth.SESSION_IDLE_TIMEOUT = n ∧ t.now = s.instant at_
      ∧ Frame (.eop :: .net :: .j16 :: retainParts) (E.Auth.SESSION_IDLE_TIMEOUT :: retainEnts) (28 :: 31 :: portRings) s t))
  ∧ (∀ (s : State) (at_ : Nat) (o : Origin) (d : List Byte), ∀ q, eopParse d = some q → s.admits at_ o 0x02 d q →
      q.payload.length = 6 + beAt q.payload 4 2 → beAt q.payload 4 2 ≤ 1024 →
      ∀ ty, codeTy (beAt q.payload 3 1) = some ty → ∀ y, s.session q.session = some y → ∀ u, u = s.admitted at_ o d q → ∀ x,
      x = u.write y.writer (keyAt q.payload 0) (some ty) (beValue ty (q.payload.drop 6)) →
      x.1.power.boot = none → abortOf u x.1 (keyAt q.payload 0) ((beValue ty (q.payload.drop 6)).getD (.num 0)) = none →
      x.1.eop.sessions = u.eop.sessions → x.1.mirrorWait u = none →
    Completes (.write at_ o d) s (fun t => t.reply q = some (x.2, []) ∧ t.now = s.instant at_ ∧ AnswersOnly x.1 t))
  ∧ (∀ (s : State) (at_ : Nat) (o : Origin) (d : List Byte), ∀ q, eopParse d = some q → s.admits at_ o 0x10 d q →
      q.payload.length = 4 → beAt q.payload 3 1 = 0 →
      ∀ r, (s.entryAt (keyAt q.payload 0)).toOption = some r → r.1.acc ≠ .wo → s.invalidEntry (keyAt q.payload 0) = false →
      ∀ b, b = valueBe r.1.ty ((s.admitted at_ o d q).valueOf (.session q.session) (keyAt q.payload 0) r.2) → keyAt q.payload 0 / 256 ≠ 0x7001 →
    Completes (.segReadStart at_ o d) s (fun t => t.reply q = some (0, beBytes 1 (tyCode r.1.ty) ++ beBytes 1 0
        ++ beBytes 2 (segCount b.length) ++ beBytes 4 b.length)
      ∧ (t.transferOf (.session q.session)).1 = some
        { write := false, key := keyAt q.payload 0, ty := r.1.ty, total := b.length, data := b, lastReq := s.instant at_ }
      ∧ t.now = s.instant at_ ∧ AnswersOnly s t))
  ∧ (∀ (s : State) (at_ : Nat) (o : Origin) (d : List Byte), ∀ q, eopParse d = some q → s.admits at_ o 0x11 d q →
      q.payload.length = 4 → beAt q.payload 2 2 = 0 → ∀ x, (s.transferOf (.session q.session)).1 = some x → x.write = false →
      (s.instant at_ : Int) < x.lastReq + 5000000000 → beAt q.payload 0 2 < segCount x.total →
    Completes (.segReadPart at_ o d) s (fun t =>
      t.reply q = some (0, beBytes 2 (beAt q.payload 0 2)
        ++ beBytes 2 (slice x.data (1024 * beAt q.payload 0 2) (min 1024 (x.total - 1024 * beAt q.payload 0 2))).length
        ++ slice x.data (1024 * beAt q.payload 0 2) (min 1024 (x.total - 1024 * beAt q.payload 0 2)))
      ∧ (t.transferOf (.session q.session)).1 = some { x with lastReq := s.instant at_ }
      ∧ t.now = s.instant at_ ∧ AnswersOnly s t))
  ∧ (∀ (s : State) (at_ : Nat) (o : Origin) (d : List Byte), ∀ q, eopParse d = some q → s.admits at_ o 0x12 d q →
      q.payload.length = 8 → ∀ ty, codeTy (beAt q.payload 3 1) = some ty → ∀ y, s.session q.session = some y →
      s.chkForm y.writer (keyAt q.payload 0) (some ty) (some (if byteType ty then .bytes [] else .num 0)) = 0 → totalOk ty (beAt q.payload 4 4) = true →
    Completes (.segWriteStart at_ o d) s (fun t => t.reply q = some (0, beBytes 2 (segCount (beAt q.payload 4 4)) ++ beBytes 2 0)
      ∧ (t.transferOf (.session q.session)).1 = some
        { write := true, key := keyAt q.payload 0, ty := ty, total := beAt q.payload 4 4, lastReq := s.instant at_ }
      ∧ t.now = s.instant at_ ∧ AnswersOnly s t))
  ∧ (∀ (s : State) (at_ : Nat) (o : Origin) (d : List Byte), ∀ q, eopParse d = some q → s.admits at_ o 0x13 d q →
      ∀ x, (s.transferOf (.session q.session)).1 = some x → x.write = true → (s.instant at_ : Int) < x.lastReq + 5000000000 →
      4 ≤ q.payload.length → q.payload.length = 4 + beAt q.payload 2 2 → beAt q.payload 0 2 < segCount x.total →
      beAt q.payload 2 2 = (if beAt q.payload 0 2 + 1 = segCount x.total then x.total - 1024 * beAt q.payload 0 2 else 1024) →
      (x.segs.put (beAt q.payload 0 2) (q.payload.drop 4)).cells.length < segCount x.total →
    Completes (.segWritePart at_ o d) s (fun t => t.reply q = some (0, beBytes 2 (beAt q.payload 0 2)
        ++ beBytes 2 (x.segs.put (beAt q.payload 0 2) (q.payload.drop 4)).cells.length)
      ∧ (t.transferOf (.session q.session)).1 = some
        { x with segs := x.segs.put (beAt q.payload 0 2) (q.payload.drop 4), lastReq := s.instant at_ }
      ∧ t.now = s.instant at_ ∧ AnswersOnly s t))
  ∧ (∀ (s : State) (at_ : Nat) (o : Origin) (d : List Byte), ∀ q, eopParse d = some q → s.admits at_ o 0x14 d q → q.payload = [] →
      ∀ x, (s.transferOf (.session q.session)).1 = some x → (s.instant at_ : Int) < x.lastReq + 5000000000 →
    Completes (.segAbort at_ o d) s (fun t => t.reply q = some (0, []) ∧ (t.transferOf (.session q.session)).1 = none
      ∧ t.now = s.instant at_ ∧ AnswersOnly s t))

/-- Groups, subscriptions, KEEPALIVE and LOGOUT of an admitted request in a session. Each admitted request here completes with a next
state. GROUP_BEGIN of a session without a group opens one under the next number. GROUP_STAGE of items in form adds them to the
group, stores nothing. GROUP_COMMIT closes the group: with every check passed all items are committed at one instant, which the
answer gives (shown for a staged SESSION_IDLE_TIMEOUT in full); with a failing item nothing is stored, and the answer names it.
GROUP_DISCARD closes the group and stores nothing. SUBSCRIBE with allowed fields adds a subscription under a number not in use;
UNSUBSCRIBE of 0xFFFF ends them all. KEEPALIVE moves the idle time of its session; LOGOUT ends it. (02_object_dictionary R68;
02_object_dictionary R69; 02_object_dictionary R70; 02_object_dictionary R71; 02_object_dictionary R80) -/
def Obligations.GroupsAndSubscriptionsOfASession : Prop :=
  (∀ (s : State) (at_ : Nat) (o : Origin) (d : List Byte), ∀ q, eopParse d = some q → s.admits at_ o 0x20 d q → q.payload = [] →
      ∀ y, s.session q.session = some y → 1 ≤ levelNum y.level → (∀ g, y.group = some g → g.lastReq + 10000000000 ≤ (s.instant at_ : Int)) →
    Completes (.groupBegin at_ o d) s (fun t => t.reply q = some (0, beBytes 2 (s.eop.nextGroup % 65536) ++ beBytes 2 0)
      ∧ t.groupOf (.session q.session) = some { id := s.eop.nextGroup % 65536, lastReq := s.instant at_ }
      ∧ t.eop.nextGroup = (s.eop.nextGroup + 1) % 65536 ∧ t.now = s.instant at_ ∧ AnswersOnly s t))
  ∧ (∀ (s : State) (at_ : Nat) (o : Origin) (d : List Byte), ∀ q, eopParse d = some q → s.admits at_ o 0x21 d q → 4 ≤ q.payload.length →
      beAt q.payload 2 2 = 0x0100 → ∀ y, s.session q.session = some y → ∀ g, y.group = some g →
      (s.instant at_ : Int) < g.lastReq + 10000000000 → g.id = beAt q.payload 0 2 → g.items = [] → ∀ its, itemsOf q.payload 1 4 = some its → ∀ i, its.head? = some i → i.2.2.length ≤ 1024 →
      ∀ v, (codeTy i.2.1).bind (fun t => beValue t i.2.2) = some v →
      s.chkForm y.writer i.1 (codeTy i.2.1) (some v) = 0 →
    Completes (.groupStage at_ o d) s (fun t => t.reply q = some (0, beBytes 2 1)
      ∧ t.groupOf (.session q.session) = some { g with items := [{ key := i.1, value := v }], lastReq := s.instant at_ }
      ∧ t.now = s.instant at_ ∧ AnswersOnly s t))
  ∧ (∀ (s : State) (at_ : Nat) (o : Origin) (d : List Byte), ∀ q, eopParse d = some q → s.admits at_ o 0x22 d q → q.payload.length = 4 →
      beAt q.payload 2 2 = 0 → ∀ y, s.session q.session = some y → 1 ≤ levelNum y.level →
      ∀ g, y.group = some g → (s.instant at_ : Int) < g.lastReq + 10000000000 → g.id = beAt q.payload 0 2 →
      ∀ x, firstFailing 0 (((s.admitted at_ o d q).setGroup (.session q.session) none).itemChecks
        { r := .session q.session, w := y.writer } [] g.items) = some x →
    Completes (.groupCommit at_ o d) s (fun t => t.reply q = some (0x22, beBytes 2 x.1 ++ beBytes 1 x.2 ++ beBytes 1 0)
      ∧ t.groupOf (.session q.session) = none ∧ t.now = s.instant at_ ∧ AnswersOnly s t))
  ∧ (∀ (s : State) (at_ : Nat) (o : Origin) (d : List Byte), ∀ q, eopParse d = some q → s.admits at_ o 0x22 d q → q.payload.length = 4 →
      beAt q.payload 2 2 = 0 → ∀ y, s.session q.session = some y → 1 ≤ levelNum y.level →
      ∀ g, y.group = some g → (s.instant at_ : Int) < g.lastReq + 10000000000 → g.id = beAt q.payload 0 2 →
      ∀ u', u' = (s.admitted at_ o d q).setGroup (.session q.session) none → ∀ c : Client, c = { r := .session q.session, w := y.writer } →
      firstFailing 0 (u'.itemChecks c [] g.items) = none → ∀ x, x = u'.commitItems c g.items →
      x.power.boot = none → x.eop.sessions = u'.eop.sessions → x.mirrorWait (s.admitted at_ o d q) = none →
    Completes (.groupCommit at_ o d) s (fun t => t.reply q = some (0, time96be (time96ns (s.instant at_)))
      ∧ t.groupOf (.session q.session) = none ∧ t.now = s.instant at_ ∧ AnswersOnly x t))
  ∧ (∀ (s : State) (at_ : Nat) (o : Origin) (d : List Byte), ∀ q, eopParse d = some q → s.admits at_ o 0x22 d q → q.payload.length = 4 →
      beAt q.payload 2 2 = 0 → s.standby = false → s.twinBase = false → ∀ y, s.session q.session = some y → 2 ≤ levelNum y.level →
      ∀ g, y.group = some g → (s.instant at_ : Int) < g.lastReq + 10000000000 → g.id = beAt q.payload 0 2 →
      ∀ n, 5000 ≤ n → n ≤ 3600000 → g.items = [{ key := E.Auth.SESSION_IDLE_TIMEOUT.key, value := .num n }] →
    Completes (.groupCommit at_ o d) s (fun t => t.reply q = some (0, time96be (time96ns (s.instant at_)))
      ∧ t.groupOf (.session q.session) = none ∧ t.rd E.Auth.SESSION_IDLE_TIMEOUT = n ∧ t.now = s.instant at_
      ∧ Frame (.eop :: .net :: .j16 :: retainParts) (E.Auth.SESSION_IDLE_TIMEOUT :: retainEnts) (28 :: 31 :: portRings) s t))
  ∧ (∀ (s : State) (at_ : Nat) (o : Origin) (d : List Byte), ∀ q, eopParse d = some q → s.admits at_ o 0x23 d q → q.payload.length = 4 →
      beAt q.payload 2 2 = 0 → ∀ y, s.session q.session = some y → 1 ≤ levelNum y.level →
      ∀ g, y.group = some g → (s.instant at_ : Int) < g.lastReq + 10000000000 → g.id = beAt q.payload 0 2 →
    Completes (.groupDiscard at_ o d) s (fun t => t.reply q = some (0, []) ∧ t.groupOf (.session q.session) = none
      ∧ t.now = s.instant at_ ∧ AnswersOnly s t))
  ∧ (∀ (s : State) (at_ : Nat) (o : Origin) (d : List Byte), ∀ q, eopParse d = some q → s.admits at_ o 0x30 d q → q.payload.length = 16 →
      ∀ x, s.session q.session = some x → x.subs.length < 64 → (s.eop.sessions.flatMap (fun y => y.subs.map (·.id))).length < 256 →
      ∀ r, (s.entryAt (keyAt q.payload 0)).toOption = some r → r.1.acc ≠ .wo → entryMax (keyAt q.payload 0) r.1 ≤ 1024 →
      beAt q.payload 3 1 < 3 → 10 ≤ beAt q.payload 4 4 → beAt q.payload 4 4 ≤ 60000 → beAt q.payload 8 8 = 0 →
      ∀ n, n = ((List.range 256).find? (fun k => !(s.eop.sessions.flatMap (fun y => y.subs.map (·.id))).contains k)).getD 0 →
    Completes (.subscribe at_ o d) s (fun t => t.reply q = some (0, beBytes 2 n)
      ∧ (t.session q.session).map (·.subs) = some (x.subs ++
          [{ id := n, key := keyAt q.payload 0, mode := beAt q.payload 3 1,
             periodMs := beAt q.payload 4 4, deadband := 0, lastSample := s.instant at_,
             lastNotify := s.instant at_, port := o.port.val, ip := o.ip.toNat, udp := o.udp.toNat }])
      ∧ t.now = s.instant at_ ∧ AnswersOnly s t))
  ∧ (∀ (s : State) (at_ : Nat) (o : Origin) (d : List Byte), ∀ q, eopParse d = some q → s.admits at_ o 0x31 d q →
      q.payload = beBytes 2 0xFFFF →
    Completes (.unsubscribe at_ o d) s (fun t => t.reply q = some (0, []) ∧ (t.session q.session).map (·.subs) = some []
      ∧ t.now = s.instant at_ ∧ AnswersOnly s t))
  ∧ (∀ (s : State) (at_ : Nat) (o : Origin) (d : List Byte), ∀ q, eopParse d = some q → s.admits at_ o 0x43 d q → q.payload = [] →
    Completes (.keepalive at_ o d) s (fun t => t.reply q = some (0, []) ∧ (t.session q.session).map (·.lastReq) = some (s.instant at_ : Int)
      ∧ t.now = s.instant at_ ∧ AnswersOnly s t))
  ∧ (∀ (s : State) (at_ : Nat) (o : Origin) (d : List Byte), ∀ q, eopParse d = some q → s.admits at_ o 0x42 d q → q.payload = [] →
    Completes (.logout at_ o d) s (fun t => (t.session q.session).isNone = true ∧ t.rd E.Auth.SESSIONS_OPEN = t.eop.sessions.length % 256
      ∧ (∀ x ∈ s.eop.sessions, x.id ≠ q.session → x ∈ t.eop.sessions)
      ∧ t.now = s.instant at_ ∧ Frame [.eop, .net, .j16] [E.Auth.SESSIONS_OPEN] portRings s t))

/-- Login challenge and response, quench filters and IDENTIFY. LOGIN_CHALLENGE outside a session from an address that is not blocked
adds a challenge of the next number with the client's nonce; the module's nonce is a free value. LOGIN_RESPONSE with the proof of
an open challenge of its level, within 10 s and with fewer than 16 sessions, ends the challenge and opens a session of that level;
with a wrong proof it ends the challenge, opens none and counts the failure. An admitted QUENCH of Operator level or above whose
match is allowed and not protected installs its filter and answers its number; UNQUENCH of a filter in use ends it; an admitted
IDENTIFY answers the module's identity. (02_object_dictionary R73; 02_object_dictionary R75; 02_object_dictionary R76;
02_object_dictionary R77; 02_object_dictionary R78) -/
def Obligations.LoginsQuenchAndIdentify : Prop :=
  (∀ (s : State) (at_ : Nat) (o : Origin) (d : List Byte), ∀ q, eopParse d = some q → s.admitsPlain o 0x40 q → q.payload.length = 20 →
      beAt q.payload 0 1 ≤ 3 → beAt q.payload 1 3 = 0 → (s.advance at_).blocked o.ip.toNat = false →
    Completes (.loginChallenge at_ o d) s (fun t => t.eop.sessions = s.eop.sessions
      ∧ t.eop.nextChallenge = (s.eop.nextChallenge % 2 ^ 32 + 1) % 2 ^ 32
      ∧ t.eop.challenges.length = s.eop.challenges.length + 1
      ∧ (∀ c, t.eop.challenges.getLast? = some c → c.id = s.eop.nextChallenge % 2 ^ 32 ∧ c.level = beAt q.payload 0 1
          ∧ c.client = slice q.payload 4 16 ∧ c.issued = (s.instant at_ : Int))
      ∧ t.now = s.instant at_ ∧ Frame [.eop, .net, .j16, .free] [] portRings s t))
  ∧ (∀ (s : State) (at_ : Nat) (o : Origin) (d : List Byte), ∀ q, eopParse d = some q → s.admitsPlain o 0x41 q → q.payload.length = 40 →
      beAt q.payload 5 3 = 0 → (s.advance at_).blocked o.ip.toNat = false →
      ∀ c, s.eop.challenges.find? (fun c => c.id == beAt q.payload 0 4) = some c → (s.instant at_ : Int) < c.issued + 10000000000 →
      c.level = beAt q.payload 4 1 → ∀ lev, levelOf (beAt q.payload 4 1) = some lev → s.levelKey (beAt q.payload 4 1) ≠ [] →
      s.levelOpen (beAt q.payload 4 1) = true → s.eop.sessions.length < 16 →
      slice q.payload 8 32 = hmac (s.levelKey (beAt q.payload 4 1)) (c.nonce ++ c.client ++ s.nodeBe ++ beBytes 1 (beAt q.payload 4 1)) →
    Completes (.loginResponse at_ o d) s (fun t => t.eop.challenges = s.eop.challenges.filter (fun c => c.id != beAt q.payload 0 4)
      ∧ t.eop.sessions.length = s.eop.sessions.length + 1 ∧ t.rd E.Auth.SESSIONS_OPEN = s.eop.sessions.length + 1
      ∧ (∀ x ∈ s.eop.sessions, x ∈ t.eop.sessions)
      ∧ (∀ x, t.eop.sessions.getLast? = some x → x.level = lev ∧ x.port = o.port.val ∧ x.node = q.source ∧ x.lastReq = (s.instant at_ : Int)
          ∧ x.idleMs = s.rd E.Auth.SESSION_IDLE_TIMEOUT ∧ x.key = hmac (s.levelKey (beAt q.payload 4 1)) (ascii "EOP-SK" ++ c.nonce ++ c.client ++ beBytes 4 x.id))
      ∧ t.now = s.instant at_ ∧ Frame [.eop, .net, .j16, .free] [E.Auth.SESSIONS_OPEN] portRings s t))
  ∧ (∀ (s : State) (at_ : Nat) (o : Origin) (d : List Byte), ∀ q, eopParse d = some q → s.admitsPlain o 0x41 q → q.payload.length = 40 →
      beAt q.payload 4 1 ≤ 3 → beAt q.payload 5 3 = 0 → (s.advance at_).blocked o.ip.toNat = false →
      ∀ c, s.eop.challenges.find? (fun c => c.id == beAt q.payload 0 4) = some c →
      slice q.payload 8 32 ≠ hmac (s.levelKey (beAt q.payload 4 1)) (c.nonce ++ c.client ++ s.nodeBe ++ beBytes 1 (beAt q.payload 4 1)) →
    Completes (.loginResponse at_ o d) s (fun t => t.eop.challenges = s.eop.challenges.filter (fun c => c.id != beAt q.payload 0 4)
      ∧ t.eop.sessions = s.eop.sessions ∧ t.rd E.Auth.LOGIN_FAILURES = min (2 ^ 32 - 1) (s.rd E.Auth.LOGIN_FAILURES + 1)
      ∧ t.now = s.instant at_ ∧ Frame [.eop, .net, .j16, .ledger] [E.Auth.LOGIN_FAILURES] (28 :: portRings) s t))
  ∧ (∀ (s : State) (at_ : Nat) (o : Origin) (d : List Byte), ∀ q, eopParse d = some q → s.admits at_ o 0x50 d q → q.payload.length = 16 →
      beAt q.payload 0 1 < 16 → beAt q.payload 1 1 = 1 ∨ beAt q.payload 1 1 = 2 → beAt q.payload 2 2 = 0 →
      beAt q.payload 4 8 < 2 ^ (if beAt q.payload 1 1 = 1 then 48 else 32) → beAt q.payload 12 4 ≤ 3600000 →
      s.isProtected (beAt q.payload 1 1) (beAt q.payload 4 8) o.ip.toNat o.mac.toNat = false →
      ∀ x, s.session q.session = some x → 1 ≤ levelNum x.level → ∀ k, s.filterFor (slice q.payload 1 1 ++ slice q.payload 4 8) = some k →
    Completes (.quench at_ o d) s (fun t => t.reply q = some (0, beBytes 1 k ++ beBytes 3 0) ∧ t.rd (E.Quench.FILTER_STATE k) = 1
      ∧ t.rdB (E.Quench.FILTER_MATCH k) = slice q.payload 1 1 ++ slice q.payload 4 8 ∧ t.rd (E.Quench.FILTER_PORTS k) = beAt q.payload 0 1
      ∧ t.rd (E.Quench.FILTER_INSTALLED k) = time96ns (s.instant at_)
      ∧ t.eop.quench.find k = some { session := x.id, node := x.node,
                                     until_ := if beAt q.payload 12 4 = 0 then none else some (s.instant at_ + beAt q.payload 12 4 * 1000000) }
      ∧ t.now = s.instant at_
      ∧ Frame [.eop, .net, .j16, .ledger] [E.Quench.FILTER_STATE k, E.Quench.FILTER_MATCH k, E.Quench.FILTER_PORTS k, E.Quench.FILTER_NODE k,
          E.Quench.FILTER_INSTALLED k, E.Quench.INSTALL_LATENCY k] (28 :: portRings) s t))
  ∧ (∀ (s : State) (at_ : Nat) (o : Origin) (d : List Byte), ∀ q, eopParse d = some q → s.admits at_ o 0x51 d q → q.payload.length = 1 →
      ∀ k, k = beAt q.payload 0 1 → k < 16 → (s.eop.quench.find k).isSome = true → ∀ x, s.session q.session = some x → 1 ≤ levelNum x.level →
    Completes (.unquench at_ o d) s (fun t => t.reply q = some (0, []) ∧ t.rd (E.Quench.FILTER_STATE k) = 0
      ∧ t.rdB (E.Quench.FILTER_MATCH k) = [] ∧ t.eop.quench.find k = none ∧ (∀ j < 16, j ≠ k → t.eop.quench.find j = s.eop.quench.find j)
      ∧ t.now = s.instant at_
      ∧ Frame [.eop, .net, .j16, .ledger] [E.Quench.FILTER_STATE k, E.Quench.FILTER_MATCH k, E.Quench.FILTER_PORTS k, E.Quench.FILTER_NODE k,
          E.Quench.FILTER_HITS k, E.Quench.FILTER_INSTALLED k, E.Quench.INSTALL_LATENCY k] (28 :: portRings) s t))
  ∧ (∀ (s : State) (at_ : Nat) (o : Origin) (d : List Byte), ∀ q, eopParse d = some q → s.admits at_ o 0x60 d q → q.payload = [] →
      s.eop.identified = [] →
    Completes (.identify at_ o d) s (fun t => t.reply q = some (0, s.identity) ∧ t.now = s.instant at_ ∧ AnswersOnly s t))

/-- Timeouts of transfers, groups, challenges, blocks, sessions and quench filters; the subscription check. TRANSFER_TIMEOUT after 5 s
ends the transfer of its session, GROUP_TIMEOUT after 10 s its group, CHALLENGE_EXPIRY after 10 s its challenge,
LOGIN_BLOCK_EXPIRY the block of its address at its end, SESSION_IDLE_TIMEOUT after the idle time its session, QUENCH_FILTER_EXPIRY
at the end of its duration its filter. SUBSCRIPTION_CHECK of a subscription of mode 0 at its period samples the entry and notifies
the value. Nothing else changes. (02_object_dictionary R67; 02_object_dictionary R70; 02_object_dictionary R71;
02_object_dictionary R75; 02_object_dictionary R78; 02_object_dictionary R80) -/
def Obligations.TimeoutsOfTheObjectProtocol : Prop :=
  (∀ (s : State) (at_ n : Nat), ∀ x, s.session n = some x → ∀ f, x.transfer = some f → (f.lastReq + 5000000000 : Int) ≤ (s.instant at_ : Int) →
    Completes (.transferTimeout at_ (some n)) s (fun t => (t.session n).map (·.transfer) = some none
      ∧ (t.session n).map (·.timedOut) = some true ∧ (∀ m, m ≠ n → t.session m = s.session m)
      ∧ t.now = s.instant at_ ∧ Frame [.eop] [] [] s t))
  ∧ (∀ (s : State) (at_ n : Nat), ∀ x, s.session n = some x → ∀ g, x.group = some g → (g.lastReq + 10000000000 : Int) ≤ (s.instant at_ : Int) →
    Completes (.groupTimeout at_ (some n)) s (fun t => (t.session n).map (·.group) = some none ∧ (∀ m, m ≠ n → t.session m = s.session m)
      ∧ t.now = s.instant at_ ∧ Frame [.eop] [] [] s t))
  ∧ (∀ (s : State) (at_ n k : Nat), (s.advance at_).servicesUp = true → ∀ x, s.session n = some x → ∀ u, x.subs.find? (fun u => u.id == k) = some u →
      u.mode = 0 → (u.lastSample + 1000000 * (u.periodMs : Int)) ≤ (s.instant at_ : Int) →
      ∀ v, v = (s.advance at_).readEntry (.session n) u.key → v.1 = 0 →
    Completes (.subscriptionCheck at_ n k) s (fun t =>
      (t.session n).map (fun y => y.subs.find? (fun u => u.id == k)) = some (some { u with lastSample := s.instant at_, lastNotify := s.instant at_,
                                                                                            lastValue := some v.2.2, seq := (u.seq + 1) % 65536 })
      ∧ (t.session n).map (·.txSeq) = some ((x.txSeq + 1) % 2 ^ 32) ∧ (∀ m, m ≠ n → t.session m = s.session m)
      ∧ t.now = s.instant at_ ∧ AnswersOnly s t))
  ∧ (∀ (s : State) (at_ k : Nat),
    Completes (.challengeExpiry at_ k) s (fun t =>
      (∀ c ∈ s.eop.challenges, (c ∈ t.eop.challenges ↔ (c.id = k → (s.instant at_ : Int) < c.issued + 10000000000)))
      ∧ t.eop.sessions = s.eop.sessions ∧ t.now = s.instant at_ ∧ Frame [.eop] [] [] s t))
  ∧ (∀ (s : State) (at_ ip : Nat),
    Completes (.loginBlockExpiry at_ ip) s (fun t =>
      (∀ b ∈ s.eop.blocks, (b ∈ t.eop.blocks ↔ (b.1 = ip → (s.instant at_ : Int) < b.2)))
      ∧ t.eop.sessions = s.eop.sessions ∧ t.now = s.instant at_ ∧ Frame [.eop] [] [] s t))
  ∧ (∀ (s : State) (at_ n : Nat), ∀ x, s.session n = some x → x.lastReq + 1000000 * (x.idleMs : Int) ≤ (s.instant at_ : Int) →
    Completes (.sessionIdleTimeout at_ n) s (fun t => (t.session n).isNone = true ∧ t.rd E.Auth.SESSIONS_OPEN = t.eop.sessions.length % 256
      ∧ (∀ y ∈ s.eop.sessions, y.id ≠ n → y ∈ t.eop.sessions) ∧ t.eop.quench = s.eop.quench
      ∧ t.now = s.instant at_ ∧ Frame [.eop] [E.Auth.SESSIONS_OPEN] [] s t))
  ∧ (∀ (s : State) (at_ k : Nat), k < 16 → ∀ q, s.eop.quench.find k = some q → ∀ e, q.until_ = some e → e ≤ s.instant at_ →
    Completes (.quenchFilterExpiry at_ k) s (fun t => t.eop.quench.find k = none ∧ t.rd (E.Quench.FILTER_STATE k) = 0
      ∧ (∀ j < 16, j ≠ k → t.eop.quench.find j = s.eop.quench.find j) ∧ t.now = s.instant at_
      ∧ Frame [.eop, .ledger] [E.Quench.FILTER_STATE k, E.Quench.FILTER_MATCH k, E.Quench.FILTER_PORTS k, E.Quench.FILTER_NODE k,
          E.Quench.FILTER_HITS k, E.Quench.FILTER_INSTALLED k, E.Quench.INSTALL_LATENCY k] [28] s t))

/-- Key entries take writes of a Service session over J16 alone. A KEY_WRITE of 32 bytes from a Service session over J16 stores the
key, which logins of its level then take, and leaves every open session as it is; a write from any other source, session or not,
ends with LINK_NOT_PERMITTED (0x16) and changes nothing but the answer. (02_object_dictionary R81) -/
def Obligations.KeysAreWrittenByAServiceSessionOfJ16Alone : Prop :=
  (∀ (s : State) (at_ : Nat) (w : Writer) (l : Level) (b : List Byte), (s.advance at_).servicesUp = true → (s.advance at_).writerOk w = true →
      w.j16 = true → w.level = .service → w.session.isSome = true → b.length = 32 →
    Completes (.keyWrite at_ w l b) s (fun t => t.odStatus = 0 ∧ t.levelKey (levelNum l) = b ∧ t.eop.sessions = s.eop.sessions
      ∧ t.now = s.instant at_
      ∧ Frame (.eop :: retainParts) ([E.Auth.KEY_VIEWER, E.Auth.KEY_OPERATOR, E.Auth.KEY_ENGINEER, E.Auth.KEY_SERVICE] ++ retainEnts) [28, 31] s t))
  ∧ (∀ (s : State) (at_ : Nat) (w : Writer) (l : Level) (b : List Byte), (s.advance at_).servicesUp = true → (s.advance at_).writerOk w = true →
      w.j16 = false ∨ w.level ≠ .service ∨ w.session = none →
    Completes (.keyWrite at_ w l b) s (fun t => t.odStatus = 0x16 ∧ t.now = s.instant at_ ∧ Frame [.answer] [] [] s t))

/-- An accepted register write is stored in its retention class; a refused one leaves its entry as it was. REGISTER_WRITE of a setting
whose block has nothing else to do stores it, in the retained partition where it is RETAINED, and changes nothing else. While the
services do not run, a write changes nothing but the instant; without its session it ends with NO_SESSION; refused by the form
checks it answers that status and changes nothing else. A refused value of an entry keeps the entry. An accepted RESTORE_FACTORY
resets with start cause 5 and leaves each listed setting at its default. An accepted RING_RESET_HWM sets the high-water mark of
its ring to its fill; an accepted RESET_STATS of an axis clears its counters. (02_object_dictionary R45; 02_object_dictionary R49;
02_object_dictionary R53; 02_object_dictionary R55; 01_module_architecture R39; 03_cyclic_runtime R122) -/
def Obligations.WritesAreCheckedBeforeTheyAreStored : Prop :=
  (∀ (s : State) (at_ n : Nat) (w : Writer), ∀ e ∈ [E.Auth.SESSION_IDLE_TIMEOUT, E.Twin.TOKEN_WATCHDOG, E.Slate.BACKLIGHT, E.Slate.STRIP_IDLE,
        E.Castle.PROOF_INTERVAL, E.Pwr.PF_CKPT_ENABLE, E.Run.AUTOSTART], s.accepts at_ w e.key e.ty (.num n) →
    Completes (.registerWrite at_ w e.key e.ty (.num n)) s (fun t => StoresRetained e n s at_ t))
  ∧ (∀ (s : State) (at_ n : Nat) (w : Writer), ∀ e ∈ [E.Slate.SLATE_MODE, E.Start.FW_STAGE_OFFSET, E.Saf.SPS_OFFSET],
      s.accepts at_ w e.key e.ty (.num n) →
    Completes (.registerWrite at_ w e.key e.ty (.num n)) s (fun t => StoresVolatile e n s at_ t))
  ∧ (∀ (s : State) (at_ key : Nat) (w : Writer) (ty : Ty) (v : Value), (s.advance at_).servicesUp = false →
    Completes (.registerWrite at_ w key ty v) s (fun t => t.odStatus = s.odStatus ∧ t.now = s.instant at_ ∧ Frame [] [] [] s t))
  ∧ (∀ (s : State) (at_ key : Nat) (w : Writer) (ty : Ty) (v : Value), (s.advance at_).servicesUp = true → (s.advance at_).writerOk w = false →
    Completes (.registerWrite at_ w key ty v) s (fun t => t.odStatus = 0x10 ∧ t.odValue = s.odValue ∧ t.now = s.instant at_ ∧ Frame [.answer] [] [] s t))
  ∧ (∀ (s : State) (at_ key : Nat) (w : Writer) (ty : Ty) (v : Value), (s.advance at_).servicesUp = true → (s.advance at_).writerOk w = true →
      (s.advance at_).chkForm w key (some ty) (some v) ≠ 0 →
    Completes (.registerWrite at_ w key ty v) s (fun t => t.odStatus = (s.advance at_).chkForm w key (some ty) (some v)
      ∧ t.now = s.instant at_ ∧ Frame [.answer] [] [] s t))
  ∧ (∀ (s : State) (at_ key : Nat) (w : Writer) (ty : Ty) (v : Value), (s.advance at_).servicesUp = true → (s.advance at_).writerOk w = true →
      (s.advance at_).chkWrite w key (some ty) (some v) ≠ 0 →
    Completes (.registerWrite at_ w key ty v) s (fun t => t.odStatus = (s.advance at_).chkWrite w key (some ty) (some v)
      ∧ t.od.find key = s.od.find key ∧ t.blocks = s.blocks ∧ t.now = s.instant at_ ∧ t.pending = s.pending))
  ∧ (∀ (s : State) (at_ n : Nat) (w : Writer), s.accepts at_ w E.Restore.RESTORE_FACTORY.key .u32 (.num n) → s.power.supplied = true →
    Completes (.restoreFactory at_ w n) s (fun t => t.odStatus = 0 ∧ RestartDue 5 s t
      ∧ ∀ e ∈ [E.Id.NODE_ID, E.Auth.SESSION_IDLE_TIMEOUT, E.Twin.TOKEN_WATCHDOG, E.Slate.BACKLIGHT, E.Pwr.PF_CKPT_ENABLE], t.get e = e.d))
  ∧ (∀ (s : State) (at_ k : Nat) (w : Writer), k < 48 → s.accepts at_ w (E.Ring.RING_RESET_HWM k).key .bool (.num 1) →
    Completes (.ringResetHwm at_ w k) s (fun t => t.odStatus = 0 ∧ t.rd (E.Ring.RING_HWM k) = s.fill k % 65536
      ∧ t.now = s.instant at_ ∧ Frame [.answer] (E.Ring.RING_HWM k :: genEnts) [] s t))
  ∧ (∀ (s : State) (at_ a : Nat) (w : Writer), a < 12 → s.accepts at_ w (E.Ax.RESET_STATS a).key .bool (.num 1) →
    Completes (.resetStats at_ w (E.Ax.RESET_STATS a).key) s (fun t => t.odStatus = 0 ∧ t.rd (E.Ax.MOVES a) = 0 ∧ t.rd (E.Ax.FAULTS a) = 0
      ∧ t.now = s.instant at_ ∧ Frame [.answer, .motion] ([E.Ax.STEPS_EMITTED a, E.Ax.MOVES a, E.Ax.FAULTS a] ++ genEnts) [] s t))

/-- A service slice refreshes the TOKEN watchdog and takes what waits on the rings of the services. While the services run,
SERVICE_SLICE refreshes the TOKEN watchdog, and, where no reset comes of it, leaves rings 26, 27, 29, 41, 43 and 45 and the
receive rings of the ports without entries; while they do not run it changes nothing but the instant. MBX0_PACKET of 64 bytes with
room on ring 46 puts its packet at the end of that ring and changes nothing else; of any other length it is no packet.
(01_module_architecture R29; 15_twin_redundancy R476; 02_object_dictionary R50; 01_module_architecture R36) -/
def Obligations.ServiceSlicesServeTheRings : Prop :=
  (∀ (s : State) (at_ : Nat), (s.advance at_).servicesUp = true →
      (∀ k ∈ [26, 27, 29, 41, 43, 45] ++ portRings, (s.ring k).waiting = []) →
    Completes (.serviceSlice at_) s (fun t => (t.power.boot = none → t.now = s.instant at_ ∧ t.twin.refreshAt = s.instant at_
        ∧ ∀ k ∈ [2, 3, 6, 7, 10, 11, 14, 15, 26, 27, 29, 41, 43, 45], (t.ring k).q = [])
      ∧ t.pending = s.pending))
  ∧ (∀ (s : State) (at_ : Nat), (s.advance at_).servicesUp = false →
    Completes (.serviceSlice at_) s (fun t => t.now = s.instant at_ ∧ Frame [] [] [] s t))
  ∧ (∀ (s : State) (at_ : Nat) (b : List Byte), s.power.boot = none → b.length = 64 → s.fill 46 < 64 →
    Completes (.mbx0Packet at_ b) s (fun t => (t.ring 46).q = (s.ring 46).q ++ [.bytes b] ∧ t.now = s.instant at_ ∧ Frame [] [] [46] s t))
  ∧ (∀ (s : State) (at_ : Nat) (b : List Byte), b.length ≠ 64 →
    Completes (.mbx0Packet at_ b) s (fun t => t.now = s.instant at_ ∧ Frame [] [] [] s t))

/-- RUN, STOP, STOP_NOW, HOLD, CONTINUE, STEP, breakpoints, the hold limit, HOLD_PERMIT and RETAIN_RESET. An accepted RUN enters RUN
as a first-turn event of every task and makes every instance fresh. An accepted STOP with a turn in progress is pending, with RUN
still reported; without one it enters STOP. An accepted STOP_NOW abandons every turn and enters STOP. An accepted HOLD enters HOLD
without a held task; CONTINUE returns to RUN with every held turn resumed; STEP resumes the held turn alone. HOLD_PERMIT_WRITE
stores its value. RETAIN_RESET gives every RETAIN variable and function-block instance its initial value. BREAKPOINT_REACHED by a
running turn that no other turn of its pair holds back with HOLD_PERMIT and no STOP pending holds that turn; without HOLD_PERMIT
or with a STOP pending it is ignored. HOLD_LIMIT_EXPIRY at the limit abandons every turn and enters STOP with STOP_CAUSE
HOLD_LIMIT. (03_cyclic_runtime R97; 03_cyclic_runtime R99; 03_cyclic_runtime R102; 03_cyclic_runtime R103; 03_cyclic_runtime R583) -/
def Obligations.ModesOfTheRuntime : Prop :=
  (∀ (s : State) (at_ : Nat) (w : Writer), s.accepts at_ w E.Run.RUNTIME_COMMAND.key .u8 (.num 1) →
    Completes (.runCommand at_ w) s (fun t => t.odStatus = 0 ∧ t.rd E.Run.RUNTIME_MODE = 0 ∧ t.rd E.Run.STOP_PENDING = 0 ∧ t.rt.stopApply = false
      ∧ (∀ k, (s.task k).attr.isSome = true → (t.task k).attr = (s.task k).attr ∧ (t.task k).turn = (s.task k).turn
          ∧ (t.task k).first = true ∧ (t.task k).turnNumber = 0)
      ∧ (∀ k, (t.rt.insts.find k).map (·.fresh) = (s.rt.insts.find k).map (fun _ => true))
      ∧ t.rt.vars = s.rt.vars ∧ t.rt.archive = s.rt.archive ∧ t.now = s.instant at_
      ∧ Frame [.answer, .rt, .ledger, .slate] ([E.Run.RUNTIME_MODE, E.Run.STOP_PENDING, E.Slate.SERVICE_MODE] ++ genEnts) [28] s t))
  ∧ (∀ (s : State) (at_ : Nat) (w : Writer), s.accepts at_ w E.Run.RUNTIME_COMMAND.key .u8 (.num 2) → s.anyTurn = true →
    Completes (.stopCommand at_ w) s (fun t => t.odStatus = 0 ∧ t.rd E.Run.STOP_PENDING = 1 ∧ t.rd E.Run.RUNTIME_MODE = 0
      ∧ t.now = s.instant at_ ∧ Frame [.answer, .ledger, .slate] ([E.Run.STOP_PENDING, E.Slate.SERVICE_MODE] ++ genEnts) [28] s t))
  ∧ (∀ (s : State) (at_ : Nat) (w : Writer), s.accepts at_ w E.Run.RUNTIME_COMMAND.key .u8 (.num 2) → s.anyTurn = false →
    Completes (.stopCommand at_ w) s (fun t => t.odStatus = 0 ∧ t.rd E.Run.STOP_PENDING = 0 ∧ t.rd E.Run.RUNTIME_MODE = 1
      ∧ t.rd E.Run.STOP_CAUSE = 1 ∧ t.rt = { s.rt with stopApply := true, holdSince := none } ∧ t.now = s.instant at_
      ∧ Frame [.answer, .rt, .ledger] ([E.Run.STOP_PENDING, E.Run.RUNTIME_MODE, E.Run.STOP_CAUSE, E.Run.HOLD_TASK] ++ genEnts) [28] s t))
  ∧ (∀ (s : State) (at_ : Nat) (w : Writer), s.accepts at_ w E.Run.RUNTIME_COMMAND.key .u8 (.num 3) →
    Completes (.stopNowCommand at_ w) s (fun t => t.odStatus = 0 ∧ t.rd E.Run.STOP_PENDING = 0 ∧ t.rd E.Run.RUNTIME_MODE = 1
      ∧ t.rd E.Run.STOP_CAUSE = 1 ∧ t.anyTurn = false ∧ t.rt.stopApply = true ∧ t.rt.outs = s.rt.outs ∧ t.rt.vars = s.rt.vars
      ∧ (∀ k, (t.task k).attr = (s.task k).attr ∧ (t.task k).outs = (s.task k).outs ∧ (t.task k).view = (s.task k).view)
      ∧ t.now = s.instant at_
      ∧ Frame [.answer, .rt, .ledger] ([E.Run.STOP_PENDING, E.Run.RUNTIME_MODE, E.Run.STOP_CAUSE, E.Run.HOLD_TASK]
          ++ s.rt.tasks.keys.map E.Task.ABANDONED ++ s.rt.tasks.keys.map E.Task.ERRORS_QUEUED ++ genEnts) [28] s t))
  ∧ (∀ (s : State) (at_ : Nat) (w : Writer), s.accepts at_ w E.Run.RUNTIME_COMMAND.key .u8 (.num 4) →
    Completes (.holdCommand at_ w) s (fun t => t.odStatus = 0 ∧ t.rd E.Run.RUNTIME_MODE = 2 ∧ t.rd E.Run.HOLD_TASK = 0xFF
      ∧ t.rt = { s.rt with holdSince := some (s.instant at_ : Int) } ∧ t.now = s.instant at_
      ∧ Frame [.answer, .rt, .ledger, .slate] ([E.Run.RUNTIME_MODE, E.Run.HOLD_TASK, E.Slate.SERVICE_MODE] ++ genEnts) [28] s t))
  ∧ (∀ (s : State) (at_ : Nat) (w : Writer), s.accepts at_ w E.Run.RUNTIME_COMMAND.key .u8 (.num 5) →
    Completes (.continueCommand at_ w) s (fun t => t.odStatus = 0 ∧ t.rd E.Run.RUNTIME_MODE = 0 ∧ t.rd E.Run.HOLD_TASK = 0xFF
      ∧ t.rt.holdSince = none
      ∧ (∀ k, (t.task k).turn = (s.task k).turn.map (fun u => { u with held := false, stepping := false }) ∧ (t.task k).first = (s.task k).first)
      ∧ t.now = s.instant at_
      ∧ Frame [.answer, .rt, .ledger, .slate] ([E.Run.RUNTIME_MODE, E.Run.HOLD_TASK, E.Slate.SERVICE_MODE] ++ genEnts) [28] s t))
  ∧ (∀ (s : State) (at_ : Nat) (w : Writer), s.accepts at_ w E.Run.RUNTIME_COMMAND.key .u8 (.num 6) →
      ∀ u, (s.task (s.rd E.Run.HOLD_TASK)).turn = some u → s.rd E.Run.HOLD_TASK ≠ 0xFF →
    Completes (.stepCommand at_ w) s (fun t => t.odStatus = 0 ∧ t.rd E.Run.RUNTIME_MODE = 2
      ∧ (t.task (s.rd E.Run.HOLD_TASK)).turn = some { u with held := false, stepping := true }
      ∧ (∀ k, k ≠ s.rd E.Run.HOLD_TASK → t.task k = s.task k)
      ∧ t.now = s.instant at_ ∧ Frame [.answer, .rt, .ledger, .slate] (E.Slate.SERVICE_MODE :: genEnts) [28] s t))
  ∧ (∀ (s : State) (at_ : Nat) (w : Writer) (v : Bool), s.accepts at_ w E.Run.HOLD_PERMIT.key .bool (.num v.toNat) →
    Completes (.holdPermitWrite at_ w v) s (fun t => StoresRetained E.Run.HOLD_PERMIT v.toNat s at_ t))
  ∧ (∀ (s : State) (at_ : Nat) (w : Writer), s.accepts at_ w E.Run.RETAIN_RESET.key .bool (.num 1) → ∀ a, s.rt.archive = some a →
    Completes (.retainReset at_ w) s (fun t => t.odStatus = 0
      ∧ (∀ v ∈ a.vars, v.retain = true → (∀ u ∈ a.vars, u.path = v.path → u = v) →
          t.rt.vars.find v.path = some v.init ∧ t.rt.retained.find v.path = some v.init)
      ∧ (∀ i ∈ a.insts, i.retain = true → (∀ j ∈ a.insts, j.path = i.path → j = i) →
          t.rt.insts.find i.path = some { kind := i.kind } ∧ t.rt.retInsts.find i.path = some { kind := i.kind })
      ∧ (∀ k, a.insts.all (fun i => !i.retain || i.path != k) = true → t.rt.insts.find k = s.rt.insts.find k)
      ∧ t.rt.tasks = s.rt.tasks ∧ t.now = s.instant at_ ∧ Frame [.answer, .rt] genEnts [] s t))
  ∧ (∀ (s : State) (at_ n : Nat), ∀ a, (s.task n).attr = some a → ∀ u, (s.task n).turn = some u → u.started = true →
      s.turnMayRun n a u = true → s.rd E.Run.HOLD_PERMIT = 1 →
      s.rd E.Run.STOP_PENDING = 0 → s.rd E.Run.RUNTIME_MODE = 0 → n < 32 →
    Completes (.breakpointReached at_ n) s (fun t => t.rd E.Run.RUNTIME_MODE = 2 ∧ t.rd E.Run.HOLD_TASK = n
      ∧ (t.task n).turn = some { u with held := true, stepping := false } ∧ (∀ k, k ≠ n → t.task k = s.task k)
      ∧ t.rt.holdSince = some (s.instant at_ : Int) ∧ t.now = s.instant at_
      ∧ Frame [.rt, .ledger] [E.Run.RUNTIME_MODE, E.Run.HOLD_TASK] [28] s t))
  ∧ (∀ (s : State) (at_ n : Nat), s.rd E.Run.HOLD_PERMIT = 0 ∨ s.rd E.Run.STOP_PENDING ≠ 0 →
    Completes (.breakpointReached at_ n) s (fun t => t.now = s.instant at_ ∧ Frame [] [] [] s t))
  ∧ (∀ (s : State) (at_ : Nat), s.rd E.Run.RUNTIME_MODE = 2 → ∀ h, s.rt.holdSince = some h →
      h + 1000000 * (s.rd E.Run.HOLD_LIMIT : Int) ≤ (s.instant at_ : Int) →
    Completes (.holdLimitExpiry at_) s (fun t => t.rd E.Run.RUNTIME_MODE = 1 ∧ t.rd E.Run.STOP_CAUSE = 3 ∧ t.rd E.Run.STOP_PENDING = 0
      ∧ t.anyTurn = false ∧ t.rt.stopApply = true ∧ t.rt.holdSince = none ∧ t.rt.outs = s.rt.outs ∧ t.now = s.instant at_
      ∧ Frame [.rt, .ledger] ([E.Run.STOP_PENDING, E.Run.RUNTIME_MODE, E.Run.STOP_CAUSE, E.Run.HOLD_TASK]
          ++ s.rt.tasks.keys.map E.Task.ABANDONED ++ s.rt.tasks.keys.map E.Task.ERRORS_QUEUED) [28] s t))

/-- TASK_RELEASE, TURN_START, TURN_COMMIT and ARCHIVE_LOAD. TASK_RELEASE at a release in RUN of a task without a turn freezes its
snapshot; in HOLD it counts HOLD_SKIPPED alone; with its pair not running it counts SKIPPED; with a turn in progress it counts
OVERRUNS once and SKIPPED and lets the turn continue, and beyond MAX_SKIP it abandons every turn and enters STOP with
OVERRUN_LIMIT. TURN_START of a turn that may run takes the copy-in. TURN_COMMIT of a started turn that may run ends it, counts
TURNS, stamps LAST_COMMIT, advances its pair's checkpoint and commits its outputs; a mailbox block that ring 47 cannot take whole
is refused whole, one that fits is placed whole; of a turn that has not started it changes nothing. ARCHIVE_LOAD in STOP of an
ACTIVE module installs an archive that passes every check; one that fails a check changes nothing but the ledger.
(03_cyclic_runtime R85; 03_cyclic_runtime R86; 03_cyclic_runtime R87; 03_cyclic_runtime R92; 03_cyclic_runtime R93;
03_cyclic_runtime R95; 03_cyclic_runtime R96; 03_cyclic_runtime R99; 03_cyclic_runtime R121; 04_doubles_lockstep R136) -/
def Obligations.TurnsAreReleasedStartedAndCommitted : Prop :=
  (∀ (s : State) (at_ n : Nat), ∀ a, (s.task n).attr = some a → isRelease (s.instant at_) a = true → s.rd E.Run.RUNTIME_MODE = 0 →
      s.rd E.Run.STOP_PENDING = 0 → (s.advance at_).releasing = true → s.active = true → s.rd (E.Dbl.PAIR_STATE a.pair) = 1 → (s.task n).turn = none →
    Completes (.taskRelease at_ n) s (fun t => (t.task n).turn = some
        { snap := (s.advance at_).snapshot n, first := (s.task n).first, skipped := (s.task n).skipped,
          lastRelease := s.rd (E.Task.LAST_RELEASE n) }
      ∧ (t.task n).skipped = 0
      ∧ (∀ k, k ≠ n → t.task k = s.task k) ∧ t.rd (E.Task.LAST_RELEASE n) = time96ns (s.instant at_)
      ∧ t.now = s.instant at_ ∧ Frame [.rt] [E.Task.LAST_RELEASE n] [] s t))
  ∧ (∀ (s : State) (at_ n : Nat), ∀ a, (s.task n).attr = some a → isRelease (s.instant at_) a = true → s.rd E.Run.RUNTIME_MODE = 2 →
      s.rd E.Run.STOP_PENDING = 0 → (s.advance at_).releasing = true → s.active = true →
    Completes (.taskRelease at_ n) s (fun t => t.rd E.Run.HOLD_SKIPPED = min (2 ^ 32 - 1) (s.rd E.Run.HOLD_SKIPPED + 1)
      ∧ (t.task n).turn = (s.task n).turn ∧ (t.task n).skipped = min 0xFFFF ((s.task n).skipped + 1) ∧ (∀ k, k ≠ n → t.task k = s.task k)
      ∧ t.now = s.instant at_ ∧ Frame [.rt] [E.Run.HOLD_SKIPPED] [] s t))
  ∧ (∀ (s : State) (at_ n : Nat), ∀ a, (s.task n).attr = some a → isRelease (s.instant at_) a = true → s.rd E.Run.RUNTIME_MODE = 0 →
      s.rd E.Run.STOP_PENDING = 0 → (s.advance at_).releasing = true → s.active = true → s.rd (E.Dbl.PAIR_STATE a.pair) ≠ 1 →
    Completes (.taskRelease at_ n) s (fun t => t.rd (E.Task.SKIPPED n) = min (2 ^ 32 - 1) (s.rd (E.Task.SKIPPED n) + 1)
      ∧ (t.task n).turn = (s.task n).turn ∧ (t.task n).skipped = min 0xFFFF ((s.task n).skipped + 1) ∧ (∀ k, k ≠ n → t.task k = s.task k)
      ∧ t.now = s.instant at_ ∧ Frame [.rt] [E.Task.SKIPPED n] [] s t))
  ∧ (∀ (s : State) (at_ n : Nat), ∀ a, (s.task n).attr = some a → isRelease (s.instant at_) a = true → s.rd E.Run.RUNTIME_MODE = 0 →
      s.rd E.Run.STOP_PENDING = 0 → (s.advance at_).releasing = true → s.active = true → s.rd (E.Dbl.PAIR_STATE a.pair) = 1 →
      ∀ u, (s.task n).turn = some u → s.rd (E.Task.MAX_SKIP n) = 0 ∨ u.skips + 1 ≤ s.rd (E.Task.MAX_SKIP n) →
    Completes (.taskRelease at_ n) s (fun t => (t.task n).turn = some { u with overran := true, skips := u.skips + 1 }
      ∧ t.rd (E.Task.OVERRUNS n) = (if u.overran then s.rd (E.Task.OVERRUNS n) else min (2 ^ 32 - 1) (s.rd (E.Task.OVERRUNS n) + 1))
      ∧ t.rd (E.Task.SKIPPED n) = min (2 ^ 32 - 1) (s.rd (E.Task.SKIPPED n) + 1) ∧ (∀ k, k ≠ n → t.task k = s.task k)
      ∧ t.now = s.instant at_ ∧ Frame [.rt, .ledger] [E.Task.SKIPPED n, E.Task.OVERRUNS n] [28] s t))
  ∧ (∀ (s : State) (at_ n : Nat), ∀ a, (s.task n).attr = some a → isRelease (s.instant at_) a = true → s.rd E.Run.RUNTIME_MODE = 0 →
      s.rd E.Run.STOP_PENDING = 0 → (s.advance at_).releasing = true → s.active = true → s.rd (E.Dbl.PAIR_STATE a.pair) = 1 →
      ∀ u, (s.task n).turn = some u → s.rd (E.Task.MAX_SKIP n) ≠ 0 → s.rd (E.Task.MAX_SKIP n) < u.skips + 1 →
    Completes (.taskRelease at_ n) s (fun t => t.anyTurn = false ∧ t.rd E.Run.RUNTIME_MODE = 1 ∧ t.rd E.Run.STOP_CAUSE = 2
      ∧ t.rt.outs = s.rt.outs ∧ t.now = s.instant at_ ∧ Keeps [.rt, .ledger] s t))
  ∧ (∀ (s : State) (at_ n : Nat), ∀ a, (s.task n).attr = some a → ∀ u, (s.task n).turn = some u → u.started = false →
      s.turnMayRun n a u = true →
    Completes (.turnStart at_ n) s (fun t => (t.task n).turn.map (·.started) = some true ∧ (t.task n).turn.map (·.snap) = some u.snap
      ∧ (t.task n).turn.map (·.startAt) = some (s.instant at_ : Int)
      ∧ (t.task n).turn.map (·.header) = some (imageHeader u (ofBool (s.task n).first + 2 * ofBool (s.task n).late + 4 * ofBool (s.task n).resumed
          + 8 * ofBool s.anyForce) (if (s.task n).first then 0 else (s.task n).turnNumber)
          (if a.errorTask then ((s.task n).errors.take 16).length else 0))
      ∧ (t.task n).turn.map (·.errors) = some (if a.errorTask then (s.task n).errors.take 16 else [])
      ∧ (t.task n).errors = (if a.errorTask then (s.task n).errors.drop 16 else []) ∧ (t.task n).skipped = (s.task n).skipped
      ∧ (t.task n).image = some (s.forceInputs u.snap) ∧ (t.task n).rspIn = u.snap.rsp ∧ (t.task n).canIn = u.snap.can
      ∧ (∀ k, k ≠ n → t.task k = s.task k)
      ∧ t.now = s.instant at_ ∧ Frame [.rt] [E.Task.START_LATENCY_MAX n, E.Task.ERRORS_QUEUED n] [] s t))
  ∧ (∀ (s : State) (at_ n : Nat) (o : TurnOutput), ∀ a, (s.task n).attr = some a → ∀ u, (s.task n).turn = some u → u.started = true →
      s.turnMayRun n a u = true →
    Completes (.turnCommit at_ n o) s (fun t => (t.task n).turn = none ∧ (t.task n).first = false ∧ (t.task n).late = u.overran
      ∧ (t.task n).turnNumber = (s.task n).turnNumber + 1
      ∧ t.rd (E.Task.TURNS n) = min (2 ^ 64 - 1) (s.rd (E.Task.TURNS n) + 1) ∧ t.rd (E.Task.EXEC_LAST n) = o.exec % 2 ^ 32
      ∧ t.rd (E.Task.LAST_COMMIT n) = time96ns (s.instant at_)
      ∧ t.rd (E.Dbl.CKPT_GENERATION a.pair) = (s.rd (E.Dbl.CKPT_GENERATION a.pair) + 1) % 2 ^ 32
      ∧ (∀ k, k ≠ n → (t.task k).turn = (s.task k).turn ∧ (t.task k).attr = (s.task k).attr)
      ∧ t.now = s.instant at_ ∧ Keeps [.rt, .ledger, .tally, .motion, .frame, .can, .twin, .free, .blocks] s t))
  ∧ (∀ (s : State) (at_ n : Nat) (o : TurnOutput), ∀ a, (s.task n).attr = some a → ∀ u, (s.task n).turn = some u → u.started = true →
      s.turnMayRun n a u = true → o.mailbox ≠ [] →
    Completes (.turnCommit at_ n o) s (fun t =>
      (t.ring 47).q = (if s.fill 47 + o.mailbox.length ≤ 64 then (s.ring 47).q ++ o.mailbox.map .bytes else (s.ring 47).q)
      ∧ t.rd (E.Ring.RING_REFUSALS 47) = (if s.fill 47 + o.mailbox.length ≤ 64 then s.rd (E.Ring.RING_REFUSALS 47)
          else min (2 ^ 32 - 1) (s.rd (E.Ring.RING_REFUSALS 47) + 1))
      ∧ t.now = s.instant at_ ∧ Keeps [.rt, .ledger, .tally, .motion, .frame, .can, .twin, .free, .blocks] s t))
  ∧ (∀ (s : State) (at_ n : Nat) (o : TurnOutput) (x : OutWrite), ∀ a, (s.task n).attr = some a → ∀ u, (s.task n).turn = some u →
      u.started = true → s.turnMayRun n a u = true → pointClass x.point = 2 → s.bankMember x.point = false →
      (s.decl x.point).map (·.writer) = some (some (.task n)) →
    Completes (.turnCommit at_ n { o with outs := [x] }) s (fun t => t.rt.outs.fetch 0 x.point = ofBool (x.value != 0)
      ∧ (t.task n).outs.fetch 0 x.point = ofBool (x.value != 0) ∧ (∀ k, k ≠ x.point → t.rt.outs.find k = s.rt.outs.find k)
      ∧ t.now = s.instant at_ ∧ Keeps [.rt, .ledger, .tally, .motion, .frame, .can, .twin, .free, .blocks] s t))
  ∧ (∀ (s : State) (at_ n : Nat) (o : TurnOutput), (s.task n).turn.any (fun u => u.started && !u.held) = false →
    Completes (.turnCommit at_ n o) s (fun t => t.now = s.instant at_ ∧ Frame [] [] [] s t))
  ∧ (∀ (s : State) (at_ : Nat) (a : Archive), s.rd E.Run.RUNTIME_MODE = 1 → s.active = true → s.archiveCheck a = 0 → a.id < 2 ^ 32 →
    Completes (.archiveLoad at_ a) s (fun t => t.rt.archive = some a ∧ t.rt.previous = s.rt.archive ∧ t.rt.armed = none
      ∧ t.rd E.Online.ARCHIVE_ID = a.id ∧ (∀ x ∈ a.tasks, (t.task x.id).attr = some x ∧ (t.task x.id).turn = none ∧ (t.task x.id).first = true)
      ∧ (∀ k, a.tasks.all (fun x => x.id != k) = true → (t.task k).attr = none)
      ∧ (∀ d < 4, t.rd (E.Dbl.CKPT_GENERATION d) = (s.rd (E.Dbl.CKPT_GENERATION d) + 1) % 2 ^ 32)
      ∧ t.now = s.instant at_ ∧ Keeps [.rt, .tally, .frame, .safety, .ledger, .blocks, .twin, .free] s t))
  ∧ (∀ (s : State) (at_ : Nat) (a : Archive), s.rd E.Run.RUNTIME_MODE = 1 → s.active = true → s.archiveCheck a ≠ 0 →
    Completes (.archiveLoad at_ a) s (fun t => t.rt = s.rt ∧ t.now = s.instant at_ ∧ Frame [.ledger] [] [28] s t))
  ∧ (∀ (s : State) (at_ : Nat) (a : Archive), s.rd E.Run.RUNTIME_MODE ≠ 1 →
    Completes (.archiveLoad at_ a) s (fun t => t.now = s.instant at_ ∧ Frame [] [] [] s t))

/-- Force slots: point, value, activation, removal and the clearing of all forces. Accepted writes store FORCE_POINT and FORCE_VALUE
of their slot. An accepted activation makes the slot active, stores the node that requested it in FORCE_SET_BY and leaves every
other slot as it is; an accepted removal makes it inactive. FORCE_CLEAR_ALL makes every slot inactive and keeps every point and
value. A point ID that is not forceable ends with OUT_OF_RANGE and changes nothing but the answer. (03_cyclic_runtime R107;
03_cyclic_runtime R108; 03_cyclic_runtime R109; 03_cyclic_runtime R111) -/
def Obligations.ForcesOfImagePoints : Prop :=
  (∀ (s : State) (at_ f p : Nat) (w : Writer), f < 240 → s.accepts at_ w (E.Force.FORCE_POINT f).key .u32 (.num p) →
    Completes (.forcePointWrite at_ w f p) s (fun t => StoresRetained (E.Force.FORCE_POINT f) p s at_ t))
  ∧ (∀ (s : State) (at_ f v : Nat) (w : Writer), f < 240 → s.accepts at_ w (E.Force.FORCE_VALUE f).key .f64 (.num v) →
    Completes (.forceValueWrite at_ w f v) s (fun t => StoresRetained (E.Force.FORCE_VALUE f) v s at_ t))
  ∧ (∀ (s : State) (at_ f : Nat) (w : Writer), f < 240 → s.accepts at_ w (E.Force.FORCE_ACTIVE f).key .bool (.num 1) → w.node < 2 ^ 32 →
    Completes (.forceActivate at_ w f) s (fun t => t.odStatus = 0 ∧ t.rd (E.Force.FORCE_ACTIVE f) = 1 ∧ t.rd (E.Force.FORCE_SET_BY f) = w.node
      ∧ t.now = s.instant at_
      ∧ Frame retainParts ([E.Force.FORCE_ACTIVE f, E.Force.FORCE_SET_BY f, E.Force.FORCE_WRITTEN f] ++ retainEnts) [28, 31] s t))
  ∧ (∀ (s : State) (at_ f : Nat) (w : Writer), f < 240 → s.accepts at_ w (E.Force.FORCE_ACTIVE f).key .bool (.num 0) →
    Completes (.forceRemove at_ w f) s (fun t => t.odStatus = 0 ∧ t.rd (E.Force.FORCE_ACTIVE f) = 0
      ∧ (s.rd (E.Force.FORCE_ACTIVE f) ≠ 0 → t.rd (E.Force.FORCE_WRITTEN f) = 0) ∧ t.now = s.instant at_
      ∧ Frame retainParts ([E.Force.FORCE_ACTIVE f, E.Force.FORCE_WRITTEN f] ++ retainEnts) [28, 31] s t))
  ∧ (∀ (s : State) (at_ : Nat) (w : Writer), s.accepts at_ w E.Force.FORCE_CLEAR_ALL.key .bool (.num 1) →
    Completes (.forceClearAll at_ w) s (fun t => t.odStatus = 0 ∧ t.anyForce = false ∧ t.now = s.instant at_
      ∧ Frame (.rt :: retainParts) ((List.range 240).map E.Force.FORCE_ACTIVE ++ (List.range 240).map E.Force.FORCE_WRITTEN
          ++ retainEnts) [28, 31] s t))
  ∧ (∀ (s : State) (at_ f p : Nat) (w : Writer), f < 240 → (s.advance at_).servicesUp = true → (s.advance at_).writerOk w = true →
      (s.advance at_).chkForm w (E.Force.FORCE_POINT f).key (some .u32) (some (.num p)) = 0 → s.rd (E.Force.FORCE_ACTIVE f) = 0 →
      256 ≤ p → forceable p = false →
    Completes (.forcePointWrite at_ w f p) s (fun t => t.odStatus = 0x08 ∧ t.now = s.instant at_ ∧ Frame [.answer] [] [] s t))

/-- Staging, checks, apply, revert, changeover and the end of the online window. STAGE_DATA stores its bytes at STAGE_OFFSET and
advances it. STAGE_CHECK reports the first failing check and leaves the running application as it is. STAGE_APPLY renews
APPLY_NONCE; a staged archive that passes waits for its changeover until ONLINE_WINDOW ends, as a full load where the runtime is
in STOP; one that fails leaves its code and the running archive. REVERT does the same with the previous archive. ONLINE_CHANGEOVER
at a frame boundary within the window without a turn and without a release makes the armed archive the running one and stamps
CHANGEOVER_TB3. ONLINE_WINDOW_EXPIRY at the end of the window reports NO_WINDOW and keeps the running archive. (03_cyclic_runtime
R113; 03_cyclic_runtime R114; 03_cyclic_runtime R115) -/
def Obligations.OnlineChangeOfTheArchive : Prop :=
  (∀ (s : State) (at_ : Nat) (w : Writer) (b : List Byte), s.accepts at_ w E.Online.STAGE_DATA.key .octets (.bytes b) →
      ∀ off, off = s.rd E.Online.STAGE_OFFSET →
    Completes (.stageData at_ w b) s (fun t => t.odStatus = 0 ∧ t.rd E.Online.STAGE_OFFSET = off + b.length
      ∧ t.rd E.Online.STAGE_LENGTH = max (s.rd E.Online.STAGE_LENGTH) (off + b.length)
      ∧ (∀ i < b.length, t.rt.staging.read (off + i) = b.getD i 0)
      ∧ (∀ k, k < off ∨ off + b.length ≤ k → t.rt.staging.read k = s.rt.staging.read k) ∧ t.rt.archive = s.rt.archive
      ∧ t.rt.tasks = s.rt.tasks ∧ t.now = s.instant at_
      ∧ Frame [.answer, .rt] ([E.Online.STAGE_OFFSET, E.Online.STAGE_LENGTH] ++ genEnts) [] s t))
  ∧ (∀ (s : State) (at_ : Nat) (w : Writer), s.accepts at_ w E.Online.STAGE_CHECK.key .bool (.num 1) →
    Completes (.stageCheck at_ w) s (fun t => t.odStatus = 0 ∧ t.rd E.Online.STAGE_RESULT = s.onlineCheck s.stagedArchive
      ∧ t.now = s.instant at_ ∧ Frame [.answer] (E.Online.STAGE_RESULT :: genEnts) [] s t))
  ∧ (∀ (s : State) (at_ n : Nat) (w : Writer), s.accepts at_ w E.Online.STAGE_APPLY.key .u32 (.num n) →
      ∀ a, s.stagedArchive = some a → s.onlineCheck (some a) = 0 → s.archiveCheck a = 0 →
    Completes (.stageApply at_ w n) s (fun t => t.odStatus = 0 ∧ t.rd E.Online.STAGE_RESULT = 0
      ∧ t.rt = { s.rt with armed := some (a, (s.instant at_ : Int) + 1000000 * s.rd E.Online.ONLINE_WINDOW), armedFull := s.isStop } ∧ t.now = s.instant at_
      ∧ Frame [.answer, .rt, .free] ([E.Online.STAGE_RESULT, E.Online.APPLY_NONCE] ++ genEnts) [] s t))
  ∧ (∀ (s : State) (at_ n : Nat) (w : Writer), s.accepts at_ w E.Online.STAGE_APPLY.key .u32 (.num n) → s.onlineCheck s.stagedArchive ≠ 0 →
    Completes (.stageApply at_ w n) s (fun t => t.odStatus = 0 ∧ t.rd E.Online.STAGE_RESULT = s.onlineCheck s.stagedArchive
      ∧ t.now = s.instant at_ ∧ Frame [.answer, .free, .ledger] ([E.Online.STAGE_RESULT, E.Online.APPLY_NONCE] ++ genEnts) [28] s t))
  ∧ (∀ (s : State) (at_ n : Nat) (w : Writer), s.accepts at_ w E.Online.REVERT.key .u32 (.num n) →
      ∀ a, s.rt.previous = some a → s.onlineCheck (some a) = 0 → s.archiveCheck a = 0 →
    Completes (.revert at_ w n) s (fun t => t.odStatus = 0 ∧ t.rd E.Online.STAGE_RESULT = 0
      ∧ t.rt = { s.rt with armed := some (a, (s.instant at_ : Int) + 1000000 * s.rd E.Online.ONLINE_WINDOW), armedFull := s.isStop }
      ∧ t.now = s.instant at_ ∧ Frame [.answer, .rt, .free] ([E.Online.STAGE_RESULT, E.Online.APPLY_NONCE] ++ genEnts) [] s t))
  ∧ (∀ (s : State) (at_ : Nat), ∀ a u, s.rt.armed = some (a, u) → s.instant at_ % 50000 = 0 → (s.instant at_ : Int) ≤ u →
      s.anyTurn = false → (s.advance at_).noneReleased = true → s.active = true → (s.advance at_).resumed = true → a.id < 2 ^ 32 →
    Completes (.onlineChangeover at_) s (fun t => t.rt.archive = some a ∧ t.rt.armed = none ∧ t.rt.previous = s.rt.archive
      ∧ t.rd E.Online.CHANGEOVER_TB3 = time96ns (s.instant at_) ∧ t.rd E.Online.ARCHIVE_ID = a.id ∧ t.rd E.Run.RUNTIME_MODE = s.rd E.Run.RUNTIME_MODE
      ∧ (∀ d < 4, t.rd (E.Dbl.CKPT_GENERATION d) = (s.rd (E.Dbl.CKPT_GENERATION d) + 1) % 2 ^ 32)
      ∧ (∀ v ∈ a.vars, (∀ u ∈ a.vars, u.path = v.path → u = v) → t.rt.vars.find v.path = some ((s.rt.vars.find v.path).getD v.init))
      ∧ t.now = s.instant at_ ∧ Keeps [.rt, .tally, .frame, .safety, .ledger, .blocks, .twin, .free] s t))
  ∧ (∀ (s : State) (at_ : Nat), ∀ a u, s.rt.armed = some (a, u) → u ≤ (s.instant at_ : Int) →
    Completes (.onlineWindowExpiry at_) s (fun t => t.rt = { s.rt with armed := none } ∧ t.rd E.Online.STAGE_RESULT = 9
      ∧ t.now = s.instant at_ ∧ Frame [.rt, .ledger] [E.Online.STAGE_RESULT] [28] s t))

/-- Comparator and cache mismatches, corrected errors, the restart of a pair, its limit, and the failed pair. Bit g of the group
vector is set exactly where the copies differ within group g. A mismatch of a RUNNING or RESTARTING pair that is not the third
within 10,000 ms makes the pair RESTARTING, counts and stamps the mismatch, abandons every turn of its tasks and leaves the turns
and states of the other pairs; copies that agree change nothing. A third one makes it FAILED with ESCALATION; without a twin base
the module enters SAFE_STATE and STOP. CACHE_CORRECTED of a pair that is not FAILED adds 1 to ECC_CORRECTED and does nothing else.
RESTART_COMPLETE within 1,200 us with a usable checkpoint makes the pair RUNNING, stamps RESTART_LAST and marks its tasks RESUMED;
without one the pair fails with CHECKPOINT_INVALID. Past 1,200 us RESTART_COMPLETE and RESTART_TIMEOUT fail it with
RESTART_TIMEOUT. (04_doubles_lockstep R127; 04_doubles_lockstep R128; 04_doubles_lockstep R129; 04_doubles_lockstep R130;
04_doubles_lockstep R131; 04_doubles_lockstep R132; 04_doubles_lockstep R133; 04_doubles_lockstep R138; 04_doubles_lockstep R139) -/
def Obligations.MismatchesRestartAndFailPairs : Prop :=
  (∀ (a b : BitVec 214) (g : Nat), g < 27 → groupVector a b < 2 ^ 27
    ∧ (groupVector a b / 2 ^ g % 2 = 1 ↔ ∃ i < 8, (a ^^^ b).toNat / 2 ^ (8 * g + i) % 2 = 1))
  ∧ (∀ (s : State) (at_ d : Nat) (a b : BitVec 214), d < 4 → a ≠ b → s.rd (E.Dbl.PAIR_STATE d) = 1 ∨ s.rd (E.Dbl.PAIR_STATE d) = 2 →
      (s.pairs.fetch {} d).stamps.length < 2 ∨ 10000000000 < (s.instant at_ : Int) - (s.pairs.fetch {} d).stamps.getD 1 0 →
    Completes (.comparatorMismatch at_ d a b) s (fun t => t.rd (E.Dbl.PAIR_STATE d) = 2
      ∧ (∀ e < 4, e ≠ d → t.rd (E.Dbl.PAIR_STATE e) = s.rd (E.Dbl.PAIR_STATE e))
      ∧ t.rd (E.Dbl.MISMATCHES d) = min (2 ^ 32 - 1) (s.rd (E.Dbl.MISMATCHES d) + 1)
      ∧ t.rd (E.Dbl.MISMATCHES_LIFETIME d) = min (2 ^ 32 - 1) (s.rd (E.Dbl.MISMATCHES_LIFETIME d) + 1)
      ∧ t.rd E.Dbl.MODULE_MISMATCHES = min (2 ^ 32 - 1) (s.rd E.Dbl.MODULE_MISMATCHES + 1)
      ∧ t.rd (E.Dbl.LAST_CAUSE d) = 0 ∧ t.rd (E.Dbl.LAST_GROUPS d) = groupVector a b
      ∧ t.rd (E.Dbl.LAST_MISMATCH d) = time96ns (s.instant at_)
      ∧ (∀ k, (t.task k).turn = (if (s.task k).attr.any (fun x => x.pair == d) then none else (s.task k).turn))
      ∧ t.rt.outs = s.rt.outs ∧ t.now = s.instant at_ ∧ Keeps [.pairs, .blocks, .rt, .ledger, .safety] s t))
  ∧ (∀ (s : State) (at_ d : Nat) (a : BitVec 214), d < 4 →
    Completes (.comparatorMismatch at_ d a a) s (fun t => t.now = s.instant at_ ∧ Frame [] [] [] s t))
  ∧ (∀ (s : State) (at_ d : Nat), d < 4 → s.rd (E.Dbl.PAIR_STATE d) = 1 ∨ s.rd (E.Dbl.PAIR_STATE d) = 2 →
      2 ≤ (s.pairs.fetch {} d).stamps.length → (s.instant at_ : Int) - (s.pairs.fetch {} d).stamps.getD 1 0 ≤ 10000000000 →
      s.twinBase = false → s.inSafe = false →
    Completes (.cacheUncorrectable at_ d) s (fun t => t.rd (E.Dbl.PAIR_STATE d) = 3 ∧ t.rd (E.Dbl.FAIL_CAUSE d) = 2
      ∧ t.rd (E.Dbl.LAST_CAUSE d) = 1 ∧ t.rd E.Id.MODULE_STATE = 3 ∧ t.rd E.Run.RUNTIME_MODE = 1 ∧ t.anyTurn = false
      ∧ t.rd (E.Dbl.MISMATCHES d) = min (2 ^ 32 - 1) (s.rd (E.Dbl.MISMATCHES d) + 1) ∧ t.now = s.instant at_ ∧ t.pending = s.pending))
  ∧ (∀ (s : State) (at_ d : Nat), d < 4 → s.rd (E.Dbl.PAIR_STATE d) = 1 ∨ s.rd (E.Dbl.PAIR_STATE d) = 2 →
      (s.pairs.fetch {} d).stamps.length < 2 ∨ 10000000000 < (s.instant at_ : Int) - (s.pairs.fetch {} d).stamps.getD 1 0 →
    Completes (.cacheUncorrectable at_ d) s (fun t => t.rd (E.Dbl.PAIR_STATE d) = 2 ∧ t.rd (E.Dbl.LAST_CAUSE d) = 1
      ∧ t.rd (E.Dbl.LAST_GROUPS d) = s.rd (E.Dbl.LAST_GROUPS d)
      ∧ t.rd (E.Dbl.MISMATCHES d) = min (2 ^ 32 - 1) (s.rd (E.Dbl.MISMATCHES d) + 1)
      ∧ (∀ k, (t.task k).turn = (if (s.task k).attr.any (fun x => x.pair == d) then none else (s.task k).turn))
      ∧ t.now = s.instant at_ ∧ Keeps [.pairs, .blocks, .rt, .ledger, .safety] s t))
  ∧ (∀ (s : State) (at_ d : Nat), d < 4 → s.rd (E.Dbl.PAIR_STATE d) ≠ 3 → s.standby = false →
    Completes (.cacheCorrected at_ d) s (fun t => t.rd (E.Dbl.ECC_CORRECTED d) = min (2 ^ 32 - 1) (s.rd (E.Dbl.ECC_CORRECTED d) + 1)
      ∧ t.now = s.instant at_ ∧ Frame [] [E.Dbl.ECC_CORRECTED d] [] s t))
  ∧ (∀ (s : State) (at_ d : Nat), d < 4 → s.rd (E.Dbl.PAIR_STATE d) = 2 → (s.pairs.fetch {} d).castling = false →
      (s.instant at_ : Int) ≤ (s.pairs.fetch {} d).detected + 1200000 →
      ∀ us, us = ((s.instant at_ : Int) - (s.pairs.fetch {} d).detected).toNat / 1000 → us < 2 ^ 32 →
    Completes (.restartComplete at_ d true) s (fun t => t.rd (E.Dbl.PAIR_STATE d) = 1 ∧ t.rd (E.Dbl.RESTART_LAST d) = us
      ∧ t.rd (E.Dbl.RESTART_MAX d) = max (s.rd (E.Dbl.RESTART_MAX d)) us
      ∧ (∀ k, (s.task k).attr.any (fun x => x.pair == d) = true → (t.task k).resumed = true ∧ (t.task k).turn = (s.task k).turn)
      ∧ (∀ k, (s.task k).attr.any (fun x => x.pair == d) = false → t.task k = s.task k)
      ∧ t.now = s.instant at_
      ∧ Frame [.rt, .ledger, .pairs] ([E.Dbl.PAIR_STATE d, E.Dbl.RESTART_LAST d, E.Dbl.RESTART_MAX d] ++ s.rt.tasks.keys.map E.Task.ERRORS_QUEUED
          ++ s.rt.tasks.keys.map E.Task.ERRORS_LOST) [28] s t))
  ∧ (∀ (s : State) (at_ d : Nat) (ok : Bool), d < 4 → s.rd (E.Dbl.PAIR_STATE d) = 2 →
      ok = false ∨ (s.pairs.fetch {} d).detected + 1200000 < (s.instant at_ : Int) →
    Completes (.restartComplete at_ d ok) s (fun t => t.rd (E.Dbl.PAIR_STATE d) = 3
      ∧ t.rd (E.Dbl.FAIL_CAUSE d) = (if (s.pairs.fetch {} d).detected + 1200000 < (s.instant at_ : Int) then 4 else 3)
      ∧ (s.twinBase = false → s.inSafe = false → t.rd E.Id.MODULE_STATE = 3 ∧ t.rd E.Run.RUNTIME_MODE = 1 ∧ t.anyTurn = false)
      ∧ t.now = s.instant at_ ∧ t.pending = s.pending))
  ∧ (∀ (s : State) (at_ d : Nat), d < 4 → s.rd (E.Dbl.PAIR_STATE d) = 2 → (s.pairs.fetch {} d).detected + 1200000 < (s.instant at_ : Int) →
    Completes (.restartTimeout at_ d) s (fun t => t.rd (E.Dbl.PAIR_STATE d) = 3 ∧ t.rd (E.Dbl.FAIL_CAUSE d) = 4
      ∧ (s.twinBase = false → s.inSafe = false → t.rd E.Id.MODULE_STATE = 3 ∧ t.rd E.Run.RUNTIME_MODE = 1 ∧ t.anyTurn = false)
      ∧ t.now = s.instant at_ ∧ t.pending = s.pending))

/-- INJECT_TEST_RUN puts a pair into TESTING; the test's end releases or fails it. An accepted INJECT_TEST_RUN of D1 to D3 makes the
pair TESTING and leaves every other pair; a pair that carries a safety channel takes the safety program to SAFETY_STOP.
INJECTION_TEST_DONE without a failure of a TESTING pair makes it RUNNING with INJECT_RESULT PASS and counts the pass; with a
failure it reports result and detail and the pair is FAILED with cause INJECTION_TEST, in SAFE_STATE without a twin base. In a
mode that is not STOP the write ends with MODE_CONFLICT and changes nothing but the answer. (04_doubles_lockstep R144;
04_doubles_lockstep R145; 04_doubles_lockstep R147) -/
def Obligations.InjectionTestsOfPairs : Prop :=
  (∀ (s : State) (at_ d : Nat) (w : Writer), s.accepts at_ w E.Dbl.INJECT_TEST_RUN.key .u8 (.num d) →
    Completes (.injectTestRun at_ w d) s (fun t => t.odStatus = 0 ∧ t.rd (E.Dbl.PAIR_STATE d) = 0
      ∧ (∀ e < 4, e ≠ d → t.rd (E.Dbl.PAIR_STATE e) = s.rd (E.Dbl.PAIR_STATE e))
      ∧ (d = s.safePair false ∨ d = s.safePair true → s.rd E.Saf.SAFETY_STATE = 1 ∨ s.rd E.Saf.SAFETY_STATE = 2 → t.rd E.Saf.SAFETY_STATE = 3)
      ∧ t.rt.tasks = s.rt.tasks ∧ t.now = s.instant at_ ∧ Keeps [.answer, .safety, .ledger, .blocks] s t))
  ∧ (∀ (s : State) (at_ d : Nat), d < 4 → s.rd (E.Dbl.PAIR_STATE d) = 0 → s.standby = false → s.power.boot = none →
    Completes (.injectionTestDone at_ d none) s (fun t => t.rd (E.Dbl.PAIR_STATE d) = 1 ∧ t.rd (E.Dbl.INJECT_RESULT d) = 0
      ∧ t.rd (E.Dbl.INJECT_COUNT d) = min (2 ^ 32 - 1) (s.rd (E.Dbl.INJECT_COUNT d) + 1)
      ∧ t.now = s.instant at_
      ∧ Frame [.blocks, .ledger] [E.Dbl.PAIR_STATE d, E.Dbl.INJECT_RESULT d, E.Dbl.INJECT_COUNT d, E.Dbl.INJECT_LAST d, E.Restore.RETAINED_WRITES]
          [28] s t))
  ∧ (∀ (s : State) (at_ d : Nat) (f : InjectFail), d < 4 → s.rd (E.Dbl.PAIR_STATE d) = 0 → s.standby = false → s.power.boot = none →
    Completes (.injectionTestDone at_ d (some f)) s (fun t => t.rd (E.Dbl.PAIR_STATE d) = 3 ∧ t.rd (E.Dbl.FAIL_CAUSE d) = 1
      ∧ t.rd (E.Dbl.INJECT_RESULT d) = f.result.val + 1 ∧ t.rd (E.Dbl.INJECT_DETAIL d) = injectDetail f
      ∧ (s.twinBase = false → s.inSafe = false → t.rd E.Id.MODULE_STATE = 3 ∧ t.rd E.Run.RUNTIME_MODE = 1)
      ∧ t.now = s.instant at_ ∧ t.pending = s.pending))
  ∧ (∀ (s : State) (at_ d : Nat) (w : Writer), (s.advance at_).servicesUp = true → (s.advance at_).writerOk w = true →
      (s.advance at_).chkForm w E.Dbl.INJECT_TEST_RUN.key (some .u8) (some (.num d)) = 0 → s.stopMet = false →
      inRange (.u 1 3 1) .u8 (.num d) = true →
    Completes (.injectTestRun at_ w d) s (fun t => t.odStatus = 0x0B ∧ t.now = s.instant at_ ∧ Frame [.answer] [] [] s t))

/-- Frame staging, LOAD_COMMIT, replacement, unload and the end of a load. LOAD_DATA stores its bytes at LOAD_OFFSET and advances it;
LOAD_CLEAR empties the staging. LOAD_COMMIT empties the staging, renews LOAD_NONCE and reports LOAD_RESULT: a descriptor that
fails a check leaves every board; one that passes is kept in flash and becomes the resident board of its number, or waits to
replace the one that is resident. UNLOAD_BOARD asks for the board to become EMPTY. BOARD_REPLACE of a board without a solve in
progress begins to write the new one; BOARD_UNLOAD leaves the number EMPTY, without its flash copy. BOARD_LOAD_DONE makes the
written descriptor the resident board, with no outcome since the load, and an archive board that fails its checks INVALID.
(05_counting_frame_model R152; 05_counting_frame_model R159; 05_counting_frame_model R160; 05_counting_frame_model R161;
05_counting_frame_model R162; 06_counting_frame_execution R207) -/
def Obligations.BoardsAreLoadedReplacedAndUnloaded : Prop :=
  (∀ (s : State) (at_ : Nat) (w : Writer) (b : List Byte), s.accepts at_ w E.Frame.LOAD_DATA.key .octets (.bytes b) →
      ∀ off, off = s.rd E.Frame.LOAD_OFFSET →
    Completes (.loadData at_ w b) s (fun t => t.odStatus = 0 ∧ t.rd E.Frame.LOAD_OFFSET = off + b.length
      ∧ t.rd E.Frame.LOAD_LENGTH = max (s.rd E.Frame.LOAD_LENGTH) (off + b.length)
      ∧ (∀ i < b.length, t.frame.staging.read (off + i) = b.getD i 0)
      ∧ (∀ k, k < off ∨ off + b.length ≤ k → t.frame.staging.read k = s.frame.staging.read k) ∧ t.frame.boards = s.frame.boards
      ∧ t.now = s.instant at_ ∧ Frame [.answer, .frame] ([E.Frame.LOAD_OFFSET, E.Frame.LOAD_LENGTH] ++ genEnts) [] s t))
  ∧ (∀ (s : State) (at_ : Nat) (w : Writer), s.accepts at_ w E.Frame.LOAD_CLEAR.key .bool (.num 1) →
    Completes (.loadClear at_ w) s (fun t => t.odStatus = 0 ∧ t.rd E.Frame.LOAD_OFFSET = 0 ∧ t.rd E.Frame.LOAD_LENGTH = 0
      ∧ t.frame = { s.frame with staging := {} } ∧ t.now = s.instant at_
      ∧ Frame [.answer, .frame] ([E.Frame.LOAD_OFFSET, E.Frame.LOAD_LENGTH] ++ genEnts) [] s t))
  ∧ (∀ (s : State) (at_ n : Nat) (w : Writer), s.accepts at_ w E.Frame.LOAD_COMMIT.key .u32 (.num n) →
      ∀ bs, bs = s.frame.staging.readList 0 (s.rd E.Frame.LOAD_LENGTH) → descResult bs none ≠ 0 →
    Completes (.loadCommit at_ w n) s (fun t => t.odStatus = 0 ∧ t.rd E.Frame.LOAD_RESULT = descResult bs none ∧ t.rd E.Frame.LOAD_LENGTH = 0
      ∧ t.rd E.Frame.LOAD_OFFSET = 0 ∧ t.frame = { s.frame with staging := {} } ∧ t.now = s.instant at_
      ∧ Frame [.answer, .frame, .free] ([E.Frame.LOAD_OFFSET, E.Frame.LOAD_LENGTH, E.Frame.LOAD_RESULT, E.Frame.LOAD_NONCE] ++ genEnts) [] s t))
  ∧ (∀ (s : State) (at_ n : Nat) (w : Writer), s.accepts at_ w E.Frame.LOAD_COMMIT.key .u32 (.num n) →
      ∀ bs, bs = s.frame.staging.readList 0 (s.rd E.Frame.LOAD_LENGTH) → descResult bs none = 0 → ∀ b, b = s.rd E.Frame.LOAD_BOARD →
      s.pagesUsed b + footPages (readDesc bs) ≤ 4032 → s.archiveBoard b = false → (s.board b).st ≠ 2 → (s.board b).run = none →
    Completes (.loadCommit at_ w n) s (fun t => t.odStatus = 0 ∧ t.rd E.Frame.LOAD_RESULT = 0 ∧ t.frame.flash.find b = some bs
      ∧ (t.board b).st = 2 ∧ (t.board b).source = 1 ∧ (t.board b).desc = readDesc bs
      ∧ (t.rd (E.Solve.HOME_ACTIVE b) ≠ 0xFF → (t.board b).pos.status = 0x13 ∧ (t.board b).pos.valid = false ∧ (t.board b).pos.solveId = 0
          ∧ t.rd (E.Solve.LAST_STATUS b) = 0x13 ∧ t.rd (E.Solve.LAST_SOLVE_ID b) = 0)
      ∧ (∀ k, k ≠ b → t.board k = s.board k) ∧ t.now = s.instant at_ ∧ Keeps [.answer, .frame, .free, .ledger] s t))
  ∧ (∀ (s : State) (at_ n : Nat) (w : Writer), s.accepts at_ w E.Frame.LOAD_COMMIT.key .u32 (.num n) →
      ∀ bs, bs = s.frame.staging.readList 0 (s.rd E.Frame.LOAD_LENGTH) → descResult bs none = 0 → ∀ b, b = s.rd E.Frame.LOAD_BOARD →
      s.pagesUsed b + footPages (readDesc bs) ≤ 4032 → s.archiveBoard b = false → (s.board b).st = 2 →
    Completes (.loadCommit at_ w n) s (fun t => t.odStatus = 0 ∧ t.rd E.Frame.LOAD_RESULT = 0 ∧ t.frame.flash.find b = some bs
      ∧ t.board b = { s.board b with replace := some (some bs) } ∧ (∀ k, k ≠ b → t.board k = s.board k) ∧ t.now = s.instant at_
      ∧ Frame [.answer, .frame, .free] ([E.Frame.LOAD_OFFSET, E.Frame.LOAD_LENGTH, E.Frame.LOAD_RESULT, E.Frame.LOAD_NONCE] ++ genEnts) [] s t))
  ∧ (∀ (s : State) (at_ b : Nat) (w : Writer), s.accepts at_ w E.Frame.UNLOAD_BOARD.key .u8 (.num b) →
    Completes (.unloadBoard at_ w b) s (fun t => t.odStatus = 0 ∧ t.board b = { s.board b with replace := some none }
      ∧ (∀ k, k ≠ b → t.board k = s.board k) ∧ t.frame.flash = s.frame.flash ∧ t.now = s.instant at_ ∧ Frame [.answer, .frame] genEnts [] s t))
  ∧ (∀ (s : State) (at_ b : Nat), ∀ bs, (s.board b).replace = some (some bs) → inProgress (s.board b) = false →
    Completes (.boardReplace at_ b) s (fun t => t.board b = { s.board b with replace := none, loading := some bs }
      ∧ (∀ k, k ≠ b → t.board k = s.board k) ∧ t.now = s.instant at_ ∧ Frame [.frame] [] [] s t))
  ∧ (∀ (s : State) (at_ b : Nat), inProgress (s.board b) = true →
    Completes (.boardReplace at_ b) s (fun t => t.now = s.instant at_ ∧ Frame [] [] [] s t))
  ∧ (∀ (s : State) (at_ b : Nat), (s.board b).replace = some none → inProgress (s.board b) = false → b < 256 →
    Completes (.boardUnload at_ b) s (fun t => t.board b = {} ∧ t.frame.flash.find b = none ∧ t.rd (E.Solve.HOME_ACTIVE b) = 0xFF
      ∧ t.rd (E.Solve.LAST_STATUS b) = 0x13 ∧ t.rd (E.Solve.LAST_SOLVE_ID b) = 0
      ∧ (∀ k, k ≠ b → t.board k = s.board k) ∧ t.now = s.instant at_
      ∧ Frame [.frame, .ledger] [E.Solve.HOME_ACTIVE b, E.Solve.LAST_SOLVE_ID b, E.Solve.LAST_STATUS b, E.Solve.LAST_FLAGS b, E.Solve.LAST_OUTCOME_TB3 b] [28] s t))
  ∧ (∀ (s : State) (at_ b : Nat), b < 256 → ∀ bs, (s.board b).loading = some bs → (s.board b).st = 2 → (s.board b).run = none →
      descResult bs (if (s.board b).source = 0 then some s.taskIds else none) = 0 → s.pagesUsed b + footPages (readDesc bs) ≤ 4032 →
    Completes (.boardLoadDone at_ b) s (fun t => (t.board b).st = 2 ∧ (t.board b).desc = readDesc bs ∧ (t.board b).loading = none
      ∧ (t.rd (E.Solve.HOME_ACTIVE b) ≠ 0xFF → (t.board b).pos.status = 0x13 ∧ (t.board b).pos.valid = false ∧ (t.board b).pos.solveId = 0
          ∧ t.rd (E.Solve.LAST_STATUS b) = 0x13 ∧ t.rd (E.Solve.LAST_SOLVE_ID b) = 0)
      ∧ (∀ k, k ≠ b → t.board k = s.board k) ∧ t.now = s.instant at_ ∧ Keeps [.frame, .ledger, .answer, .eop] s t))
  ∧ (∀ (s : State) (at_ b : Nat), b < 256 → ∀ bs, (s.board b).loading = some bs → (s.board b).st = 1 → (s.board b).source = 0 →
      s.frame.boards.cells.all (fun c => decide (b ≤ c.1) || c.2.st != 1) = true → descResult bs (some s.taskIds) ≠ 0 →
    Completes (.boardLoadDone at_ b) s (fun t => t.board b = { s.board b with st := 3, loading := none }
      ∧ t.rd (E.Solve.LAST_STATUS b) = 0x13 ∧ t.rd (E.Solve.LAST_SOLVE_ID b) = 0 ∧ (∀ k, k ≠ b → t.board k = s.board k) ∧ t.now = s.instant at_
      ∧ Frame [.frame] [E.Solve.LAST_SOLVE_ID b, E.Solve.LAST_STATUS b, E.Solve.LAST_FLAGS b, E.Solve.LAST_OUTCOME_TB3 b] [] s t))

/-- A batch of moves enters its ring whole, is applied whole or deferred, and a rejected one leaves the numbers. An accepted
MOVE_BATCH puts one entry at the end of the ring of its board. BATCH_TAKE of a batch at the front of SUBMIT_HI applies it at once
to a board without a solve in progress, a load or a queue, and else defers it to the end of the board's queue. A batch that a
board rejects leaves its numbers and settings as they are and reports its reason; one that it accepts leaves the reason 0 and the
batch's SEQ. (05_counting_frame_model R165; 05_counting_frame_model R167; 05_counting_frame_model R168; 05_counting_frame_model
R169; 05_counting_frame_model R170; 06_counting_frame_execution R186) -/
def Obligations.BatchesOfMovesAreTakenWhole : Prop :=
  (∀ (s : State) (at_ b : Nat) (w : Writer) (bs : List Byte), b < 256 → s.accepts at_ w (E.Board.MOVE_BATCH b).key .octets (.bytes bs) →
    Completes (.moveBatch at_ w b bs) s (fun t => t.odStatus = 0
      ∧ (t.ring (s.submitRing b 0xFE)).q = (s.ring (s.submitRing b 0xFE)).q
          ++ [.submit { item := .batch b bs, source := 0xFE, solveId := 0, issued := (s.instant at_ : Int) }]
      ∧ t.now = s.instant at_ ∧ Frame [.answer] genEnts [s.submitRing b 0xFE] s t))
  ∧ (∀ (s : State) (at_ b src : Nat) (bs : List Byte) (id : Nat) (iss : Int) (rest : List RingEntry),
      (s.ring 24).q = .submit { item := .batch b bs, source := src, solveId := id, issued := iss } :: rest → s.rd E.Pwr.SUP_STATE ≠ 3 →
      s.frame.pauseHi = none → (s.board b).queue.length < 16 → (s.ring 24).waiting = [] →
    Completes (.batchTake at_) s (fun t => (t.ring 24).q = rest
      ∧ t.board b = (if (s.board b).st = 2 ∧ (inProgress (s.board b) = true ∨ (s.board b).loading.isSome = true ∨ (s.board b).queue ≠ [])
          then { s.board b with queue := (s.board b).queue ++ [.batch src true bs] } else applyBatch (s.board b) b src bs)
      ∧ (∀ k, k ≠ b → t.board k = s.board k) ∧ t.now = s.instant at_ ∧ Frame [.frame] [] [24] s t))
  ∧ (∀ (x : Board) (b src r : Nat) (bs : List Byte), judgeBatch x b src bs = .error r → x.st ≠ 0 →
    (applyBatch x b src bs).vals = x.vals ∧ (applyBatch x b src bs).set = x.set ∧ (applyBatch x b src bs).lastReject = r
      ∧ (applyBatch x b src bs).lastSeq = x.lastSeq ∧ (applyBatch x b src bs).rejectPending = true ∧ (applyBatch x b src bs).pos.x = x.pos.x
      ∧ (applyBatch x b src bs).rejected = min (2 ^ 32 - 1) (x.rejected + 1) ∧ (applyBatch x b src bs).accepted = x.accepted)
  ∧ (∀ (x : Board) (b src q : Nat) (y : Applied) (bs : List Byte), judgeBatch x b src bs = .ok (y, q) →
    (applyBatch x b src bs).vals = y.vals ∧ (applyBatch x b src bs).set = y.set ∧ (applyBatch x b src bs).lastReject = 0
      ∧ (applyBatch x b src bs).lastSeq = leAt bs 8 4 ∧ (applyBatch x b src bs).rejectPending = x.rejectPending
      ∧ (applyBatch x b src bs).accepted = min (2 ^ 32 - 1) (x.accepted + 1) ∧ (applyBatch x b src bs).rejected = x.rejected
      ∧ settingsOk y.set = true ∧ boundsCross y.vals = false ∧ src = x.desc.writer ∧ x.st = 2)

/-- Solve requests, aborts, homes, and how the scheduler takes them. SOLVE_REQUEST puts a request with the next SOLVE_ID of the
dictionary and its absolute deadline at the end of the board's ring; SOLVE_ABORT puts an abort there. HOME_WRITE stores HOME and
chooses HOME_ACTIVE. SOLVE_TAKE of a request at the front of SUBMIT_HI that passes the checks joins its board's queue and counts
it; one that fails ends with the status of that check. ABORT_TAKE ends the named waiting request ABORTED, marks the named running
solve, and answers TOO_LATE for any other, with the figures of the board's last ended request where it names that one.
SUBMIT_QUEUE_ROOM lets a ring go on once the queue that paused it has room. (06_counting_frame_execution R186;
06_counting_frame_execution R189; 06_counting_frame_execution R190; 06_counting_frame_execution R191; 06_counting_frame_execution
R192; 06_counting_frame_execution R193; 06_counting_frame_execution R197; 06_counting_frame_execution R198;
06_counting_frame_execution R201) -/
def Obligations.RequestsAreIssuedAndTaken : Prop :=
  (∀ (s : State) (at_ b us : Nat) (w : Writer), b < 256 → s.accepts at_ w (E.Solve.SOLVE_REQUEST b).key .u32 (.num us) →
      ∀ n, n = (s.frame.idCount.fetch 0 0xFE + 1) % 16777216 → ∀ id, id = 0xFE * 16777216 + (if n = 0 then 1 else n) →
    Completes (.solveRequest at_ w b us) s (fun t => t.odStatus = 0 ∧ t.rd (E.Solve.LAST_ISSUED_ID b) = id
      ∧ (t.ring (s.submitRing b 0xFE)).q = (s.ring (s.submitRing b 0xFE)).q
          ++ [.submit { item := .solve b ((s.instant at_ : Int) + 1000 * us) false, source := 0xFE, solveId := id, issued := (s.instant at_ : Int) }]
      ∧ t.frame.boards = s.frame.boards ∧ t.frame.idCount.fetch 0 0xFE = (if n = 0 then 1 else n)
      ∧ t.now = s.instant at_ ∧ Frame [.answer, .frame] (E.Solve.LAST_ISSUED_ID b :: genEnts) [s.submitRing b 0xFE] s t))
  ∧ (∀ (s : State) (at_ b id : Nat) (w : Writer), b < 256 → s.accepts at_ w (E.Solve.SOLVE_ABORT b).key .u32 (.num id) →
    Completes (.solveAbort at_ w b id) s (fun t =>
      (t.ring (s.submitRing b 0xFE)).q = (s.ring (s.submitRing b 0xFE)).q
          ++ [.submit { item := .abort b id, source := 0xFE, solveId := id, issued := (s.instant at_ : Int) }]
      ∧ t.now = s.instant at_ ∧ Frame [.answer] genEnts [s.submitRing b 0xFE] s t))
  ∧ (∀ (s : State) (at_ b h : Nat) (w : Writer), b < 256 → s.accepts at_ w (E.Solve.HOME b).key .u8 (.num h) → (s.board b).st = 2 →
      (s.board b).desc.rod = false → h < 64 → s.offline h = false →
    Completes (.homeWrite at_ w b h) s (fun t => t.odStatus = 0 ∧ t.rd (E.Solve.HOME b) = h ∧ t.rd (E.Solve.HOME_ACTIVE b) = h
      ∧ t.frame.boards = s.frame.boards ∧ t.now = s.instant at_
      ∧ Frame retainParts ([E.Solve.HOME b, E.Solve.HOME_ACTIVE b] ++ retainEnts) [28, 31] s t))
  ∧ (∀ (s : State) (at_ b src id : Nat) (dl iss : Int) (cold : Bool) (rest : List RingEntry),
      (s.ring 24).q = .submit { item := .solve b dl cold, source := src, solveId := id, issued := iss } :: rest → (s.ring 24).waiting = [] →
      s.rd E.Pwr.SUP_STATE ≠ 3 → s.frame.pauseHi = none → (s.board b).queue.length < 16 → waitingReq (s.board b) = none →
      (s.board b).st = 2 → s.rd (E.Solve.HOME_ACTIVE b) ≠ 0xFF → (s.instant at_ : Int) < dl → (s.board b).rejectPending = false →
      ∀ r, r = ({ solveId := id, source := src, deadline := dl, cold := cold, issued := iss, taken := (s.instant at_ : Int), hi := true, order := s.frame.takes } : SolveReq) →
    Completes (.solveTake at_) s (fun t => (t.ring 24).q = rest
      ∧ t.board b = { s.board b with queue := (s.board b).queue ++ [.req r] }
      ∧ (∀ k, k ≠ b → t.board k = s.board k) ∧ t.frame.takes = s.frame.takes + 1
      ∧ t.rd (E.Solve.REQUESTS b) = min (2 ^ 32 - 1) (s.rd (E.Solve.REQUESTS b) + 1)
      ∧ t.now = s.instant at_ ∧ Frame [.frame] [E.Solve.REQUESTS b] [24] s t))
  ∧ (∀ (s : State) (at_ b src id : Nat) (dl iss : Int) (cold : Bool) (rest : List RingEntry),
      (s.ring 24).q = .submit { item := .solve b dl cold, source := src, solveId := id, issued := iss } :: rest → (s.ring 24).waiting = [] →
      s.rd E.Pwr.SUP_STATE ≠ 3 → s.frame.pauseHi = none → (s.board b).queue = [] → (s.board b).run = none → id < 2 ^ 32 →
      ∀ st, st = (if (s.board b).st ≠ 2 ∨ s.rd (E.Solve.HOME_ACTIVE b) = 0xFF then 0x13 else if dl ≤ (s.instant at_ : Int) then 0x10
        else if (s.board b).rejectPending then 0x14 else 0) → st ≠ 0 →
    Completes (.solveTake at_) s (fun t => (t.ring 24).q = rest ∧ t.rd (E.Solve.LAST_STATUS b) = st ∧ t.rd (E.Solve.LAST_SOLVE_ID b) = id
      ∧ t.rd (E.Solve.LAST_FLAGS b) = 0 ∧ t.rd (E.Solve.LAST_OUTCOME_TB3 b) = time96ns (s.instant at_)
      ∧ ((s.board b).st = 2 → (t.board b).pos.status = st ∧ (t.board b).pos.solveId = id ∧ (t.board b).pos.x = (s.board b).pos.x
          ∧ (t.board b).pos.valid = (s.board b).pos.valid ∧ (t.board b).warm = (s.board b).warm)
      ∧ (t.board b).vals = (s.board b).vals ∧ (t.board b).queue = [] ∧ (st = 0x14 → (t.board b).rejectPending = false)
      ∧ (∀ k, k ≠ b → t.board k = s.board k) ∧ t.now = s.instant at_ ∧ Keeps [.frame] s t))
  ∧ (∀ (s : State) (at_ b src id : Nat) (iss : Int) (rest : List RingEntry),
      (s.ring 24).q = .submit { item := .abort b id, source := src, solveId := id, issued := iss } :: rest → (s.ring 24).waiting = [] →
      s.rd E.Pwr.SUP_STATE ≠ 3 → s.frame.pauseHi = none → (s.board b).queue.length < 16 →
      ∀ r, waitingReq (s.board b) = some r → r.solveId = id → id < 2 ^ 32 →
    Completes (.abortTake at_) s (fun t => (t.ring 24).q = rest ∧ t.rd (E.Solve.LAST_STATUS b) = 0x11 ∧ t.rd (E.Solve.LAST_SOLVE_ID b) = id
      ∧ t.rd (E.Solve.ABORTS b) = min (2 ^ 32 - 1) (s.rd (E.Solve.ABORTS b) + 1) ∧ (t.board b).warm = (s.board b).warm
      ∧ ((s.board b).queue = [.req r] → (t.board b).queue = []) ∧ (s.board b).run = (t.board b).run
      ∧ (∀ k, k ≠ b → t.board k = s.board k) ∧ t.now = s.instant at_ ∧ Keeps [.frame, .answer, .eop] s t))
  ∧ (∀ (s : State) (at_ b src id : Nat) (iss : Int) (rest : List RingEntry),
      (s.ring 24).q = .submit { item := .abort b id, source := src, solveId := id, issued := iss } :: rest → (s.ring 24).waiting = [] →
      s.rd E.Pwr.SUP_STATE ≠ 3 → s.frame.pauseHi = none → (s.board b).queue.length < 16 →
      (waitingReq (s.board b)).all (fun r => r.solveId != id) = true → ∀ u, (s.board b).run = some u → u.req.solveId = id → u.home ≠ 0xFF →
    Completes (.abortTake at_) s (fun t => (t.ring 24).q = rest ∧ t.board b = { s.board b with run := some { u with aborts := u.aborts + 1 } }
      ∧ (∀ k, k ≠ b → t.board k = s.board k) ∧ t.now = s.instant at_ ∧ Frame [.frame] [] [24] s t))
  ∧ (∀ (s : State) (at_ b src id : Nat) (iss : Int) (rest : List RingEntry),
      (s.ring 24).q = .submit { item := .abort b id, source := src, solveId := id, issued := iss } :: rest → (s.ring 24).waiting = [] →
      s.rd E.Pwr.SUP_STATE ≠ 3 → s.frame.pauseHi = none → (s.board b).queue.length < 16 → s.fill 26 < 512 → (s.ring 26).waiting = [] →
      (waitingReq (s.board b)).all (fun r => r.solveId != id) = true → (s.board b).run.all (fun u => u.req.solveId != id) = true →
      ∀ m, m = (s.frame.ended.find b).filter (fun e => e.solveId == id) →
    Completes (.abortTake at_) s (fun t => (t.ring 24).q = rest ∧ t.frame = s.frame
      ∧ (t.ring 26).q = (s.ring 26).q ++ [.done
        { kind := 2, board := b, status := 0x38, flags := 0, solveId := id, tb3 := (s.instant at_ : Int), 
          iterations := (m.map (·.iterations)).getD 0, home := (m.map (·.home)).getD 0xFF, source := (m.map (·.source)).getD src, 
          waitUs := (m.map (·.waitUs)).getD 0, execUs := (m.map (·.execUs)).getD 0 }]
      ∧ (src = 0xFE → t.odStatus = 0x38) ∧ t.now = s.instant at_ ∧ Frame [.answer, .eop] [] [24, 26] s t))
  ∧ (∀ (s : State) (at_ : Nat),
    Completes (.submitQueueRoom at_) s (fun t =>
      t.frame = { s.frame with pauseHi := s.frame.pauseHi.filter (fun b => decide (16 ≤ (s.board b).queue.length)),
                               pauseLo := s.frame.pauseLo.filter (fun b => decide (16 ≤ (s.board b).queue.length)) }
      ∧ t.now = s.instant at_ ∧ Frame [.frame] [] [] s t))

/-- Dispatch, outcome, deadline miss, the abort latch and the DONE ring. SOLVE_DISPATCH on a free bead whose rod has no ready request
starts the first ready request in order that passes the checks: it runs on that home from this instant, and the bead is busy with
its board. SOLVE_OUTCOME with more than u_X left to the deadline ends the running solve with the status that the solve gives; a
SOLVED outcome publishes its position. DEADLINE_MISS of a running or of a waiting request at its deadline, and ABORT_LATCH of a
solve that an abort has taken, end it with DEADLINE_MISS or ABORTED, publish nothing and leave the warm start; an abort in the
cycle of the outcome leaves the outcome. DONE_WRITE puts the waiting entry on DONE once an entry is free.
(06_counting_frame_execution R195; 06_counting_frame_execution R198; 06_counting_frame_execution R199; 06_counting_frame_execution
R200; 06_counting_frame_execution R201; 06_counting_frame_execution R202; 06_counting_frame_execution R205;
06_counting_frame_execution R208; 06_counting_frame_execution R209) -/
def Obligations.SolvesAreDispatchedAndEndOnce : Prop :=
  (∀ (s : State) (at_ h : Nat), h < 64 → s.rd E.Pwr.SUP_STATE ≠ 3 → (s.ring 26).waiting = [] → ∀ c, firstReq (s.readyOn h) = some c →
      s.beadFree h = true → s.readyOn (64 + h / 8) = [] → s.frame.reserved.find (h / 8) = none → ∀ b, b = c.1 → ∀ r, r = c.2 →
      (s.board b).st = 2 → (s.board b).queue = [.req r] → (s.board b).run = none → (s.board b).loading = none →
      (s.instant at_ : Int) < r.deadline → (s.board b).rejectPending = false → b < 256 →
    Completes (.solveDispatch at_ h) s (fun t => (t.board b).queue = [] ∧ (t.board b).run.map (fun u => (u.req, u.home)) = some (r, h)
      ∧ (t.board b).run.map (fun u => u.at_) = some (s.instant at_ : Int) ∧ (t.board b).pos = (s.board b).pos
      ∧ t.rd (E.Bead.BEAD_STATE h) = 1 ∧ t.rd (E.Bead.BEAD_BOARD h) = b
      ∧ t.rd (E.Bead.BEAD_SOLVES h) = min (2 ^ 32 - 1) (s.rd (E.Bead.BEAD_SOLVES h) + 1)
      ∧ (∀ k, k ≠ b → t.board k = s.board k) ∧ t.now = s.instant at_
      ∧ Frame [.frame] [E.Bead.BEAD_STATE h, E.Bead.BEAD_BOARD h, E.Bead.BEAD_SOLVES h] [] s t))
  ∧ (∀ (s : State) (at_ h : Nat), s.rd E.Pwr.SUP_STATE = 3 ∨ (s.ring 26).waiting ≠ [] →
    Completes (.solveDispatch at_ h) s (fun t => t.now = s.instant at_ ∧ Frame [] [] [] s t))
  ∧ (∀ (s : State) (at_ b : Nat), s.rd E.Pwr.SUP_STATE ≠ 3 → ∀ u, (s.board b).run = some u → u.home ≠ 0xFF →
      2 * (s.instant at_ : Int) + solveCross < 2 * u.req.deadline → (s.board b).st = 2 → u.req.solveId < 2 ^ 32 →
      ∀ e, e = fullSolve (s.board b) u →
    Completes (.solveOutcome at_ b) s (fun t => (t.board b).run = none ∧ t.rd (E.Solve.LAST_STATUS b) = e.status % 256
      ∧ t.rd (E.Solve.LAST_SOLVE_ID b) = u.req.solveId ∧ t.rd (E.Solve.LAST_OUTCOME_TB3 b) = time96ns (s.instant at_)
      ∧ (t.board b).pos.status = e.status ∧ (t.board b).pos.solveId = u.req.solveId
      ∧ (e.status = 0 → (t.board b).pos.valid = true ∧ (t.board b).pos.x = e.x ∧ (t.board b).pos.y = e.y
          ∧ (t.board b).pos.solvedId = u.req.solveId ∧ (t.board b).pos.objective = e.objective)
      ∧ (e.status ≠ 0 → (t.board b).pos.x = (s.board b).pos.x ∧ (t.board b).pos.y = (s.board b).pos.y
          ∧ (t.board b).pos.valid = (s.board b).pos.valid)
      ∧ (∀ k, k ≠ b → t.board k = s.board k) ∧ t.now = s.instant at_ ∧ Keeps [.frame, .answer, .eop, .free] s t))
  ∧ (∀ (s : State) (at_ b : Nat) (c : Cut), s.rd E.Pwr.SUP_STATE ≠ 3 → ∀ u, (s.board b).run = some u →
      u.req.deadline ≤ (s.instant at_ : Int) → u.req.solveId < 2 ^ 32 →
    Completes (.deadlineMiss at_ b c) s (fun t => (t.board b).run = none ∧ t.rd (E.Solve.LAST_STATUS b) = 0x10
      ∧ t.rd (E.Solve.LAST_SOLVE_ID b) = u.req.solveId
      ∧ t.rd (E.Solve.DEADLINE_MISSES b) = min (2 ^ 32 - 1) (s.rd (E.Solve.DEADLINE_MISSES b) + 1)
      ∧ ((s.board b).queue = [] → (t.board b).warm = (s.board b).warm ∧ (t.board b).vals = (s.board b).vals)
      ∧ (t.board b).pos.x = (s.board b).pos.x ∧ (t.board b).pos.valid = (s.board b).pos.valid
      ∧ (∀ k, k ≠ b → t.board k = s.board k) ∧ t.now = s.instant at_ ∧ Keeps [.frame, .answer, .eop] s t))
  ∧ (∀ (s : State) (at_ b : Nat) (c : Cut), s.rd E.Pwr.SUP_STATE ≠ 3 → (s.board b).run = none → ∀ r, waitingReq (s.board b) = some r →
      r.deadline ≤ (s.instant at_ : Int) → r.solveId < 2 ^ 32 →
    Completes (.deadlineMiss at_ b c) s (fun t => t.rd (E.Solve.LAST_STATUS b) = 0x10 ∧ t.rd (E.Solve.LAST_SOLVE_ID b) = r.solveId
      ∧ t.rd (E.Solve.DEADLINE_MISSES b) = min (2 ^ 32 - 1) (s.rd (E.Solve.DEADLINE_MISSES b) + 1)
      ∧ ((s.board b).queue = [.req r] → (t.board b).queue = []) ∧ (t.board b).pos.x = (s.board b).pos.x
      ∧ (∀ k, k ≠ b → t.board k = s.board k) ∧ t.now = s.instant at_ ∧ Keeps [.frame] s t))
  ∧ (∀ (s : State) (at_ b : Nat) (c : Cut), s.rd E.Pwr.SUP_STATE ≠ 3 → ∀ u, (s.board b).run = some u → u.aborts ≠ 0 →
      (s.instant at_ : Int) < u.req.deadline → u.req.solveId < 2 ^ 32 →
    Completes (.abortLatch at_ b c false) s (fun t => (t.board b).run = none ∧ t.rd (E.Solve.LAST_STATUS b) = 0x11
      ∧ t.rd (E.Solve.LAST_SOLVE_ID b) = u.req.solveId
      ∧ t.rd (E.Solve.ABORTS b) = min (2 ^ 32 - 1) (s.rd (E.Solve.ABORTS b) + 1)
      ∧ ((s.board b).queue = [] → (t.board b).warm = (s.board b).warm ∧ (t.board b).vals = (s.board b).vals)
      ∧ (t.board b).pos.x = (s.board b).pos.x ∧ (t.board b).pos.valid = (s.board b).pos.valid
      ∧ (u.req.source = 0xFE → t.odStatus = 0)
      ∧ (∀ k, k ≠ b → t.board k = s.board k) ∧ t.now = s.instant at_ ∧ Keeps [.frame, .answer, .eop] s t))
  ∧ (∀ (s : State) (at_ b : Nat) (c : Cut), s.rd E.Pwr.SUP_STATE ≠ 3 → ∀ u, (s.board b).run = some u → u.aborts ≠ 0 → u.home ≠ 0xFF →
      2 * (s.instant at_ : Int) + solveCross < 2 * u.req.deadline → (s.board b).st = 2 →
    Completes (.abortLatch at_ b c true) s (fun t => (t.board b).run = none ∧ (t.board b).pos.status = (fullSolve (s.board b) u).status
      ∧ (u.req.source = 0xFE → (fullSolve (s.board b) u).status ≠ 0x11 → t.odStatus = 0x38)
      ∧ (∀ k, k ≠ b → t.board k = s.board k) ∧ t.now = s.instant at_ ∧ Keeps [.frame, .answer, .eop, .free] s t))
  ∧ (∀ (s : State) (at_ : Nat), ∀ (e : RingEntry) (rest : List RingEntry), (s.ring 26).waiting = e :: rest → s.fill 26 < 512 →
    Completes (.doneWrite at_) s (fun t => (t.ring 26).q = (s.ring 26).q ++ [e.committed (s.instant at_)] ∧ (t.ring 26).waiting = rest
      ∧ t.now = s.instant at_ ∧ Frame [] [] [26] s t))

/-- Corrected and uncorrectable errors of bead SRAM and of the Frame store. BEAD_ECC_CORRECTED adds 1 to the bead's ECC_CORRECTED and
has no other effect. BEAD_SRAM_UNCORRECTABLE during a solve puts the bead OFFLINE; the solve keeps its request and waits for its
board's new home where one is found. FRAME_STORE_UNCORRECTABLE makes a resident board INVALID and ends its running solve with
BOARD_INVALID. (06_counting_frame_execution R194; 06_counting_frame_execution R212) -/
def Obligations.FaultsOfBeadsAndOfTheFrameStore : Prop :=
  (∀ (s : State) (at_ k : Nat), k < 64 →
    Completes (.beadEccCorrected at_ k) s (fun t => t.rd (E.Bead.ECC_CORRECTED k) = min (2 ^ 32 - 1) (s.rd (E.Bead.ECC_CORRECTED k) + 1)
      ∧ t.now = s.instant at_ ∧ Frame [] [E.Bead.ECC_CORRECTED k] [] s t))
  ∧ (∀ (s : State) (at_ b k : Nat), k < 64 → b < 256 → ∀ u, (s.board b).run = some u → (homeBeads u.home).contains k = true →
      s.frame.boards.cells.all (fun c => c.1 == b || !c.2.run.any (fun v => (homeBeads v.home).contains k)) = true →
      rising s.frame.boards.cells = true →
    Completes (.beadSramUncorrectable at_ k) s (fun t => t.rd (E.Bead.ECC_FATAL k) = 1 ∧ t.rd (E.Bead.BEAD_STATE k) = 3
      ∧ t.rd (E.Bead.BEAD_BOARD k) = 0xFFFF
      ∧ (t.rd (E.Solve.HOME_ACTIVE b) ≠ 0xFF → (t.board b).run = some { u with home := 0xFF } ∧ (t.board b).pos = (s.board b).pos)
      ∧ t.now = s.instant at_ ∧ Keeps [.frame, .ledger, .answer, .eop] s t))
  ∧ (∀ (s : State) (at_ b : Nat), b < 256 → (s.board b).st = 2 →
    Completes (.frameStoreUncorrectable at_ b) s (fun t => (t.board b).st = 3 ∧ (t.board b).run = none ∧ waitingReq (t.board b) = none
      ∧ ((s.board b).run.isSome = true → t.rd (E.Solve.LAST_STATUS b) = 0x13) ∧ t.rd (E.Solve.HOME_ACTIVE b) = s.rd (E.Solve.HOME_ACTIVE b)
      ∧ (∀ k, k ≠ b → t.board k = s.board k) ∧ t.now = s.instant at_ ∧ Keeps [.frame, .answer, .eop] s t))

/-- What a frame boundary commits and samples, late samples, and the store of what loops change. FRAME_BOUNDARY at a multiple of 50 us
of a running module commits the outputs that every loop computed in the last frame to OUT0 and OUT1, counts a failed field frame,
and samples each released loop: a loop that is computed counts the sample with its instant and stages its outputs; in MANUAL,
MAN_POINT gives OUT_MAN. A loop that reads the field side in a frame whose field frame failed, or that is not finished at cycle
20,000, is LATE: it counts and keeps its outputs and states. A loop that is not released in the frame keeps its states. A
RESET_STATS written since the last boundary clears the counts first. At any other instant nothing happens. LOOP_RETAINED_STORE
stores every retained entry that a loop changed. (07_tally_loop_engine R217; 07_tally_loop_engine R219; 07_tally_loop_engine R223;
07_tally_loop_engine R236; 07_tally_loop_engine R237; 07_tally_loop_engine R238; 07_tally_loop_engine R239; 07_tally_loop_engine
R258; 07_tally_loop_engine R585) -/
def Obligations.FramesCommitAndSampleTheLoops : Prop :=
  (∀ (s : State) (at_ : Nat) (st : List (Nat × Nat)),
      s.instant at_ % 50000 ≠ 0 ∨ s.resumed = false ∨ s.active = false ∨ (∃ b ∈ s.tally.frameAt, s.instant at_ ≤ b) →
    Completes (.frameBoundary at_ st) s (fun t => t.now = s.instant at_ ∧ Frame [] [] [] s t))
  ∧ (∀ (s : State) (at_ : Nat) (st : List (Nat × Nat)), s.instant at_ % 50000 = 0 → s.resumed = true → s.active = true →
      (∀ b ∈ s.tally.frameAt, b < s.instant at_) →
    Completes (.frameBoundary at_ st) s (fun t => t.tally.frameAt = some (s.instant at_) ∧ t.tally.running = true
      ∧ (s.tally.running = false → t.rd E.Start.START_STEP = 12) ∧ t.power.resuming = false
      ∧ (∀ l < 512, ∀ v, (s.loopSt l).staged = some v → (s.loopSt l).attr.isSome = true →
          t.rd (E.Loop.OUT0 l) = v.1 % 2 ^ 32 ∧ t.rd (E.Loop.OUT1 l) = v.2 % 2 ^ 32)
      ∧ (∀ l < 512, (s.loopSt l).staged = none → t.rd (E.Loop.OUT0 l) = s.rd (E.Loop.OUT0 l) ∧ t.rd (E.Loop.OUT1 l) = s.rd (E.Loop.OUT1 l))
      ∧ (∀ l < 512, (∀ p < 4, (s.releasedLoops p (s.instant at_ / 50000)).all (fun d => d.id != l) = true) →
          (t.loopSt l).states = (s.loopSt l).states ∧ (t.loopSt l).staged = none ∧ t.rd (E.Loop.SAMPLES l) = s.rd (E.Loop.SAMPLES l)
          ∧ t.rd (E.Loop.LATE_COUNT l) = (if (s.loopSt l).resetStats then 0 else s.rd (E.Loop.LATE_COUNT l)))
      ∧ t.rd E.Tally.FIELD_MISS_FRAMES = (if s.field.frameOk then s.rd E.Tally.FIELD_MISS_FRAMES
          else min (2 ^ 32 - 1) (s.rd E.Tally.FIELD_MISS_FRAMES + 1))
      ∧ (∀ o < 64, t.field.profiles.fetch 0 o = s.rd (E.Do.DO_PROFILE o)) ∧ t.field.frameOk = s.field.frameOk
      ∧ t.now = s.instant at_ ∧ Keeps [.tally, .rt, .field, .power, .can, .ecx, .motion, .free] s t))
  ∧ (∀ (s : State) (at_ : Nat) (st : List (Nat × Nat)) (d : LoopDef), s.instant at_ % 50000 = 0 → s.resumed = true → s.active = true →
      (∀ b ∈ s.tally.frameAt, b < s.instant at_) → d.id < 512 → (s.loopSt d.id).attr = some d →
      (∀ p < 4, s.releasedLoops p (s.instant at_ / 50000) = (if p = d.pipeline then [d] else [])) → d.pipeline < 4 →
      readsField d = false ∨ s.field.frameOk = true →
      16 * loopSlots d + ((st.find? (fun x => x.1 == d.id)).map (·.2)).getD 0 ≤ 20000 →
    Completes (.frameBoundary at_ st) s (fun t => t.rd (E.Loop.SAMPLES d.id) = min (2 ^ 64 - 1) (s.rd (E.Loop.SAMPLES d.id) + 1)
      ∧ t.rd (E.Loop.LAST_SAMPLE_TB3 d.id) = time96ns (s.instant at_) ∧ t.rd (E.Loop.LATE_CONSEC d.id) = 0
      ∧ t.rd (E.Loop.LATE_COUNT d.id) = (if (s.loopSt d.id).resetStats then 0 else s.rd (E.Loop.LATE_COUNT d.id)) ∧ bitOf (t.rd (E.Loop.LOOP_STATUS d.id)) 0 = false
      ∧ (t.loopSt d.id).staged.isSome = true ∧ t.rd E.Tally.OVERLOAD_FRAMES = s.rd E.Tally.OVERLOAD_FRAMES
      ∧ (s.rd (E.Loop.LOOP_MODE d.id) = 0 → d.manPoint < d.stages.length →
          t.rd (E.Loop.MODE_ACTIVE d.id) = 0 ∧ t.rd (E.Loop.MAN_POINT_VALUE d.id) = t.rd (E.Loop.OUT_MAN d.id) % 2 ^ 32
          ∧ ((s.loopSt d.id).lastMode = some 0 → t.rd (E.Loop.OUT_MAN d.id) = s.rd (E.Loop.OUT_MAN d.id))
          ∧ (d.manPoint + 1 = d.stages.length → (t.loopSt d.id).staged.map (·.1) = some (t.rd (E.Loop.OUT_MAN d.id))))
      ∧ t.now = s.instant at_))
  ∧ (∀ (s : State) (at_ : Nat) (st : List (Nat × Nat)) (d : LoopDef), s.instant at_ % 50000 = 0 → s.resumed = true → s.active = true →
      (∀ b ∈ s.tally.frameAt, b < s.instant at_) → d.id < 512 → (s.loopSt d.id).attr = some d →
      (∀ p < 4, s.releasedLoops p (s.instant at_ / 50000) = (if p = d.pipeline then [d] else [])) → d.pipeline < 4 →
      ∀ miss, miss = (readsField d && !s.field.frameOk) →
      miss = true ∨ 20000 < 16 * loopSlots d + ((st.find? (fun x => x.1 == d.id)).map (·.2)).getD 0 →
    Completes (.frameBoundary at_ st) s (fun t => t.rd (E.Loop.LATE_COUNT d.id) = min (2 ^ 32 - 1) ((if (s.loopSt d.id).resetStats then 0 else s.rd (E.Loop.LATE_COUNT d.id)) + 1)
      ∧ bitOf (t.rd (E.Loop.LOOP_STATUS d.id)) 0 = true ∧ t.rd (E.Loop.SAMPLES d.id) = s.rd (E.Loop.SAMPLES d.id)
      ∧ t.rd E.Tally.LATE_TOTAL = min (2 ^ 32 - 1) (s.rd E.Tally.LATE_TOTAL + 1)
      ∧ t.rd E.Tally.OVERLOAD_FRAMES = (if miss then s.rd E.Tally.OVERLOAD_FRAMES else min (2 ^ 32 - 1) (s.rd E.Tally.OVERLOAD_FRAMES + 1))
      ∧ (t.loopSt d.id).staged = none ∧ (t.loopSt d.id).states = (s.loopSt d.id).states
      ∧ ((s.loopSt d.id).staged = none → t.rd (E.Loop.OUT0 d.id) = s.rd (E.Loop.OUT0 d.id)) ∧ t.now = s.instant at_))
  ∧ (∀ (s : State) (at_ : Nat), s.tally.loops.cells.all (fun x => x.2.dirty.all (fun c => decide (0x4000 ≤ c.1 / 256 ∧ c.1 / 256 < 0x4200))) = true →
    Completes (.loopRetainedStore at_) s (fun t => (∀ l < 512, t.loopSt l = { s.loopSt l with dirty := [] })
      ∧ (∀ l < 512, ∀ c ∈ (s.loopSt l).dirty,
          ∀ b ∈ blocksOf c.1, (t.blocks.fetch {} b).newest.bind (fun x => x.cells.find c.1) = some ((s.od.find c.1).getD (.num 0)))
      ∧ t.now = s.instant at_ ∧ Frame (.tally :: retainParts) retainEnts [28, 31] s t))

/-- BANK_SELECT, LOOP_MODE, OUT_MAN, bank parameters, BANK_COPY and characteriser tables. An accepted BANK_SELECT makes the named bank
the one that the next boundary selects. LOOP_MODE, OUT_MAN, a bank parameter and a point of a characteriser table are stored in
the retained partition; CASCADE is refused and changes nothing for a loop without an SP_SOURCE; OUT_MAN is accepted only in
MANUAL. A parameter of the active bank is marked for the swap rules at the next boundary; a parameter of the other bank is only
stored. BANK_COPY makes every parameter of the bank what the other bank holds. (07_tally_loop_engine R239; 07_tally_loop_engine
R245; 07_tally_loop_engine R247; 07_tally_loop_engine R262; 07_tally_loop_engine R263; 07_tally_loop_engine R264) -/
def Obligations.LoopsAreSetByWrites : Prop :=
  (∀ (s : State) (at_ l b : Nat) (w : Writer), l < 512 → b < 2 → s.accepts at_ w (E.Loop.BANK_SELECT l).key .u8 (.num b) →
    Completes (.bankSelect at_ w l b) s (fun t => t.odStatus = 0
      ∧ ((s.loopSt l).attr.isSome = true → t.loopSt l = { s.loopSt l with bankSel := some b })
      ∧ ((s.loopSt l).attr = none → t.tally = s.tally) ∧ (∀ k, k ≠ l → t.loopSt k = s.loopSt k)
      ∧ t.tally.words = s.tally.words ∧ t.tally.frameAt = s.tally.frameAt
      ∧ t.rd (E.Loop.BANK_ACTIVE l) = s.rd (E.Loop.BANK_ACTIVE l) ∧ t.now = s.instant at_
      ∧ Frame [.answer, .tally] (E.Loop.BANK_SELECT l :: genEnts) [] s t))
  ∧ (∀ (s : State) (at_ l m : Nat) (w : Writer), l < 512 → m < 3 → s.accepts at_ w (E.Loop.LOOP_MODE l).key .u8 (.num m) →
      m ≠ 2 ∨ (s.loopDef l).any (fun d => d.spSource.isSome) = true →
    Completes (.loopModeWrite at_ w l m) s (StoresRetained (E.Loop.LOOP_MODE l) m s at_))
  ∧ (∀ (s : State) (at_ l : Nat) (w : Writer), l < 512 → (s.loopDef l).all (fun d => d.spSource.isNone) = true →
      (s.advance at_).servicesUp = true → (s.advance at_).writerOk w = true →
    ¬ s.accepts at_ w (E.Loop.LOOP_MODE l).key .u8 (.num 2)
    ∧ Completes (.loopModeWrite at_ w l 2) s (fun t => t.odStatus ≠ 0 ∧ t.rd (E.Loop.LOOP_MODE l) = s.rd (E.Loop.LOOP_MODE l)
      ∧ t.now = s.instant at_ ∧ Frame [.answer] genEnts [] s t))
  ∧ (∀ (s : State) (at_ l v : Nat) (w : Writer), l < 512 → v < 2 ^ 32 → s.accepts at_ w (E.Loop.OUT_MAN l).key .f32 (.num v) →
      s.rd (E.Loop.LOOP_MODE l) = 0
    ∧ Completes (.outManWrite at_ w l v) s (StoresRetained (E.Loop.OUT_MAN l) v s at_))
  ∧ (∀ (s : State) (at_ l b j k v : Nat) (w : Writer), l < 512 → b < 2 → j < 24 → k < 10 → v < 2 ^ 32 →
      ∀ e, e = ({ key := (0x4400 + 2 * l + b) * 256 + 1 + 10 * j + k, ty := .f32, d := .num 0, arch := true } : Ent) →
      s.accepts at_ w e.key .f32 (.num v) →
    Completes (.bankParameterWrite at_ w l b j k v) s (fun t => t.odStatus = 0 ∧ t.bankParam l b j k = v
      ∧ (∀ y, y ≠ b → y < 2 → t.bankParam l y j k = s.bankParam l y j k)
      ∧ t.loopSt l = (if (s.loopSt l).attr.isSome = true ∧ s.rd (E.Loop.BANK_ACTIVE l) = b then { s.loopSt l with paramWrite := true } else s.loopSt l)
      ∧ (∀ y, y ≠ l → t.loopSt y = s.loopSt y) ∧ t.now = s.instant at_ ∧ Frame (.tally :: retainParts) (e :: retainEnts) [28, 31] s t))
  ∧ (∀ (s : State) (at_ l b : Nat) (w : Writer), l < 512 → b < 2 → ∀ d, s.loopDef l = some d → d.stages.length ≤ 24 →
      s.accepts at_ w ((0x4400 + 2 * l + b) * 256 + 0xF1) .bool (.num 1) →
      (∀ j < 24, ∀ k < 10, s.bankParam l (1 - b) j k < 2 ^ 32) →
    Completes (.bankCopy at_ w l b) s (fun t => t.odStatus = 0
      ∧ (∀ j < d.stages.length, ∀ k < 10, ∀ c, d.stages[j]? = some c → k < stageParams c.code →
          t.bankParam l b j k = s.bankParam l (1 - b) j k)
      ∧ (∀ j < 24, ∀ k < 10, t.bankParam l (1 - b) j k = s.bankParam l (1 - b) j k)
      ∧ ((s.loopSt l).attr.isSome = true → s.rd (E.Loop.BANK_ACTIVE l) = b → (t.loopSt l).paramWrite = true)
      ∧ (∀ y, y ≠ l → t.loopSt y = s.loopSt y) ∧ t.now = s.instant at_ ∧ Keeps (.tally :: retainParts) s t))
  ∧ (∀ (s : State) (at_ k n : Nat) (w : Writer), k < 128 → s.accepts at_ w (E.Tally.POINTS k).key .u8 (.num n) → n < 256 →
    Completes (.characteriserTableWrite at_ w k 1 n) s (StoresRetained (E.Tally.POINTS k) n s at_))
  ∧ (∀ (s : State) (at_ k i v : Nat) (w : Writer), k < 128 → i < 16 → v < 2 ^ 32 → s.accepts at_ w (E.Tally.X k i).key .f32 (.num v) →
    Completes (.characteriserTableWrite at_ w k (2 + 2 * i) v) s (StoresRetained (E.Tally.X k i) v s at_))
  ∧ (∀ (s : State) (at_ k i v : Nat) (w : Writer), k < 128 → i < 16 → v < 2 ^ 32 → s.accepts at_ w (E.Tally.Y k i).key .f32 (.num v) →
    Completes (.characteriserTableWrite at_ w k (3 + 2 * i) v) s (StoresRetained (E.Tally.Y k i) v s at_))

/-- FREQ_ADJ, STEP, SET and PTP_ROLE of a base, its history, TB_SNAPSHOT, and the partner's offset. FREQ_ADJ, STEP and SET of a base
are accepted only in role DISABLED. FREQ_ADJ changes the rate from the next TIME cycle; STEP adds its nanoseconds and SET replaces
the value with its fraction cleared in this cycle, each counted, and SET makes an idle base LOCKED. Every instant before the
change, within 16 s, keeps the value that it had. A role change restarts the instance without a master, its servo IDLE or MASTER,
and the base keeps its value. No such write touches another base. TB_SNAPSHOT answers the four bases of one cycle. PARTNER_OFFSET
follows the measurement on a twin base, and only the state changes while the Twin Link is down. (08_time_bases R267; 08_time_bases
R270; 08_time_bases R273; 08_time_bases R274; 08_time_bases R281; 08_time_bases R292) -/
def Obligations.BasesAreAdjustedByWrites : Prop :=
  (∀ (s : State) (at_ b : Nat) (w : Writer) (f : Int), b < 3 → -500000000 ≤ f → f ≤ 500000000 →
      s.accepts at_ w (E.Base.FREQ_ADJ b).key .i32 (.num (natOf 32 f)) → ∀ n, n = s.instant at_ →
    s.role b = 0
    ∧ Completes (.freqAdjWrite at_ w b f) s (fun t => t.odStatus = 0 ∧ t.rdI (E.Base.FREQ_ADJ b) = f
      ∧ (t.tb b).segs.head? = some { from_ := n + 4, val := tbHalf (s.tb b).segs (2 * (n + 4)), freq := f }
      ∧ (∀ k < 3, k ≠ b → t.tb k = s.tb k) ∧ t.time.peers = s.time.peers ∧ (t.tb b).setLocked = (s.tb b).setLocked
      ∧ t.now = n ∧ Frame [.answer, .time] (E.Base.FREQ_ADJ b :: genEnts) [] s t))
  ∧ (∀ (s : State) (at_ b h : Nat) (w : Writer) (f : Int), b < 3 → -500000000 ≤ f → f ≤ 500000000 →
      s.accepts at_ w (E.Base.FREQ_ADJ b).key .i32 (.num (natOf 32 f)) → ∀ n, n = s.instant at_ → n ≤ h / 2 + 16000000000 →
    Completes (.freqAdjWrite at_ w b f) s (fun t =>
      (h / 2 < n + 4 → tbHalf (t.tb b).segs h = tbHalf (s.tb b).segs h)
      ∧ (n + 4 ≤ h / 2 → tbHalf (t.tb b).segs h
          = (tbHalf (s.tb b).segs (2 * (n + 4)) + (((h : Int) - 2 * (n + 4)) * incOf f * 65536) / 8) % tbModulus)))
  ∧ (∀ (s : State) (at_ b h : Nat) (w : Writer) (ns : Int), b < 3 → -1000000000000000 ≤ ns → ns ≤ 1000000000000000 →
      s.accepts at_ w (E.Base.STEP b).key .u64 (.num (natOf 64 ns)) → ∀ n, n = s.instant at_ → h / 2 < n → n ≤ h / 2 + 16000000000 →
    s.role b = 0
    ∧ Completes (.baseStep at_ w b ns) s (fun t => t.odStatus = 0
      ∧ tbHalf (t.tb b).segs (2 * n) = (tbHalf (s.tb b).segs (2 * n) + ns * 18446744073709551616) % tbModulus
      ∧ tbHalf (t.tb b).segs h = tbHalf (s.tb b).segs h
      ∧ t.rd (E.Base.STEPS b) = min (2 ^ 32 - 1) (s.rd (E.Base.STEPS b) + 1) ∧ t.rdI (E.Base.LAST_STEP b) = ns
      ∧ (∀ k < 3, k ≠ b → t.tb k = s.tb k) ∧ t.now = n
      ∧ Frame [.answer, .time, .ledger] ([E.Base.STEPS b, E.Base.LAST_STEP b] ++ genEnts) [45] s t))
  ∧ (∀ (s : State) (at_ b v h : Nat) (w : Writer), b < 3 → v < 2 ^ 96 →
      s.accepts at_ w (E.Base.SET b).key .time96 (.num v) → ∀ n, n = s.instant at_ → h / 2 < n → n ≤ h / 2 + 16000000000 →
    s.role b = 0
    ∧ Completes (.baseSet at_ w b v) s (fun t => t.odStatus = 0
      ∧ tbHalf (t.tb b).segs (2 * n) = (v / 2 ^ 48 * 1000000000 + v / 65536 % 2 ^ 32) * 18446744073709551616
      ∧ tbHalf (t.tb b).segs h = tbHalf (s.tb b).segs h
      ∧ (s.rd (E.Base.SERVO_STATE b) = 0 → t.rd (E.Base.SYNC_STATE b) = 0)
      ∧ t.rd (E.Base.STEPS b) = min (2 ^ 32 - 1) (s.rd (E.Base.STEPS b) + 1)
      ∧ (∀ k < 3, k ≠ b → t.tb k = s.tb k) ∧ t.now = n
      ∧ Frame [.answer, .time, .ledger] ([E.Base.STEPS b, E.Base.SYNC_STATE b, E.Base.SYNC_STATE 1] ++ genEnts) [] s t))
  ∧ (∀ (s : State) (at_ b v : Nat) (w : Writer), b < 3 → v < 5 → s.accepts at_ w (E.Ptp.PTP_ROLE b).key .u8 (.num v) → v ≠ s.role b →
      ∀ n, n = s.instant at_ →
    (2 < v → b = 1)
    ∧ Completes (.ptpRoleWrite at_ w b v) s (fun t => t.odStatus = 0 ∧ t.role b = v
      ∧ (v ≠ 4 → tbHalf (t.segs b) (2 * n) = tbHalf (s.segs b) (2 * n))
      ∧ t.rd (E.Base.SERVO_STATE b) = (if v = 3 ∨ v = 4 then 4 else 0) ∧ (t.tb b).master = none
      ∧ (t.tb b).setLocked = false ∧ t.rd (E.Ptp.PATH_ACTIVE b) = s.rd (E.Ptp.PRIMARY_PATH b) % 256
      ∧ (∀ k < 3, k ≠ b → t.tb k = s.tb k) ∧ t.now = n
      ∧ Frame (.time :: retainParts) ([E.Ptp.PTP_ROLE b, E.Ptp.PATH_ACTIVE b, E.Ptp.PORT_STATE b, E.Base.SERVO_STATE b,
          E.Base.LOCK_LOSSES b, E.Base.FREQ_ADJ b, E.Base.SYNC_STATE b, E.Base.SYNC_STATE 1] ++ retainEnts) [28, 31, 45] s t))
  ∧ (∀ (s : State) (at_ : Nat) (w : Writer), (s.advance at_).servicesUp = true → (s.advance at_).writerOk w = true →
      ∀ n, n = s.instant at_ →
    Completes (.tbSnapshot at_ w) s (fun t => t.odStatus = 0
      ∧ t.odValue = ([0, 1, 2, 3].map (fun b => time96be (time96 (s.tbAt b n)))).flatten
      ∧ t.now = n ∧ Frame [.answer] [] [] s t))
  ∧ (∀ (s : State) (at_ v : Nat), s.rd E.Twin.TWIN_POSITION = 1 ∨ s.rd E.Twin.TWIN_POSITION = 2 → v < 2 ^ 64 →
    Completes (.partnerOffsetMeasure at_ (some v)) s (fun t => t.rd E.Time.PARTNER_OFFSET = v ∧ t.rd E.Time.PARTNER_OFFSET_STATE = 1
      ∧ t.now = s.instant at_ ∧ Frame [] [E.Time.PARTNER_OFFSET, E.Time.PARTNER_OFFSET_STATE] [] s t))
  ∧ (∀ (s : State) (at_ : Nat), s.rd E.Twin.TWIN_POSITION = 1 ∨ s.rd E.Twin.TWIN_POSITION = 2 →
    Completes (.partnerOffsetMeasure at_ none) s (fun t => t.rd E.Time.PARTNER_OFFSET_STATE = 2
      ∧ t.now = s.instant at_ ∧ Frame [] [E.Time.PARTNER_OFFSET_STATE] [] s t))
  ∧ (∀ (s : State) (at_ : Nat) (m : Option Nat), s.rd E.Twin.TWIN_POSITION ≠ 1 → s.rd E.Twin.TWIN_POSITION ≠ 2 →
    Completes (.partnerOffsetMeasure at_ m) s (fun t => t.rd E.Time.PARTNER_OFFSET_STATE = 0
      ∧ t.now = s.instant at_ ∧ Frame [] [E.Time.PARTNER_OFFSET_STATE] [] s t))

/-- What received Sync and Follow_Up messages and missing ones do to an instance and its servo. A message of another domain, or one
that the module does not support, is counted and discarded. A two-step Sync from the master waits for its Follow_Up; the Follow_Up
within one Sync interval completes it, and after that it is void. A usable Sync counts, gives its path the offset t2 - t1 - mean
path delay, and on the active path sets OFFSET_LAST. From HOLDOVER the servo goes to ACQUIRING. In ACQUIRING an offset beyond
STEP_THRESHOLD steps the base by it where STEP_POLICY allows; the 16th consecutive offset within LOCK_THRESHOLD locks; in LOCKED
the 4th consecutive offset beyond 8 times it goes back to ACQUIRING. The servo's adjustment lies within its limit. After 4 Sync
intervals without a usable Sync the instance switches to a live path, and without one enters HOLDOVER with no path. (Which
adjustment the servo computes is a free value, log 12.) (08_time_bases R271; 08_time_bases R272; 08_time_bases R277; 08_time_bases
R280; 08_time_bases R284; 08_time_bases R285) -/
def Obligations.SyncsSteerTheServo : Prop :=
  (∀ (s : State) (at_ b port mac : Nat) (m : PtpMsg), b < 3 → portOf b port = true → m.unsupported = true ∨ m.domain ≠ s.rd (E.Ptp.PTP_DOMAIN b) →
    Completes (.syncReceived at_ b port mac m) s (fun t => t.rd (E.Ptp.DISCARDED b) = min (2 ^ 32 - 1) (s.rd (E.Ptp.DISCARDED b) + 1)
      ∧ t.rd (E.Stamp.EVENTS_STAMPED port) = min (2 ^ 32 - 1) (s.rd (E.Stamp.EVENTS_STAMPED port) + 1)
      ∧ t.now = s.instant at_ ∧ Frame [] [E.Ptp.DISCARDED b, E.Stamp.EVENTS_STAMPED port] [] s t))
  ∧ (∀ (s : State) (at_ b port mac : Nat) (m : PtpMsg), b < 3 → portOf b port = true → m.unsupported = false →
      m.domain = s.rd (E.Ptp.PTP_DOMAIN b) → s.follows b = true → s.fromMaster b m = true → m.twoStep = true →
    Completes (.syncReceived at_ b port mac m) s (fun t =>
      ((t.tb b).path (portPath port)).pending
        = some (m.seq, s.tbHalfAt b mac - s.latency 1 port - s.asymmetry port - m.corr, (s.instant at_ : Int))
      ∧ ((t.tb b).path (1 - portPath port)) = ((s.tb b).path (1 - portPath port)) ∧ (∀ k < 3, k ≠ b → t.tb k = s.tb k)
      ∧ t.now = s.instant at_ ∧ Frame [.time] [E.Stamp.EVENTS_STAMPED port] [] s t))
  ∧ (∀ (s : State) (at_ b port mac : Nat) (m : PtpMsg), b < 3 → portOf b port = true → m.unsupported = false →
      m.domain = s.rd (E.Ptp.PTP_DOMAIN b) → s.follows b = true → s.fromMaster b m = true → m.twoStep = false →
      ∀ p, p = portPath port → ∀ o, o = s.tbHalfAt b mac - s.latency 1 port - s.asymmetry port - (m.ts + m.corr) - (s.pathDelay b port).getD 0 →
    Completes (.syncReceived at_ b port mac m) s (fun t => t.rd (E.Ptp.SYNCS_RECEIVED b) = min (2 ^ 32 - 1) (s.rd (E.Ptp.SYNCS_RECEIVED b) + 1)
      ∧ ((t.tb b).path p).offset = o ∧ ((t.tb b).path p).lastSync = some (s.instant at_ : Int) ∧ ((t.tb b).path p).pending = none
      ∧ ((t.tb b).path (1 - p)) = ((s.tb b).path (1 - p)) ∧ (∀ k < 3, k ≠ b → t.tb k = s.tb k) ∧ (t.tb b).master = (s.tb b).master
      ∧ (s.rd (E.Ptp.PATH_ACTIVE b) = 0xFF → t.rd (E.Ptp.PATH_ACTIVE b) = p)
      ∧ (s.rd (E.Ptp.PATH_ACTIVE b) = p → t.rd (E.Ptp.PATH_ACTIVE b) = p)
      ∧ (t.rd (E.Ptp.PATH_ACTIVE b) = p → t.rd (E.Base.OFFSET_LAST b) = nsF32 o % 2 ^ 32)
      ∧ (t.rd (E.Ptp.PATH_ACTIVE b) ≠ p → t.rd (E.Base.SERVO_STATE b) = s.rd (E.Base.SERVO_STATE b)
          ∧ t.rd (E.Base.FREQ_ADJ b) = s.rd (E.Base.FREQ_ADJ b) ∧ t.segs b = s.segs b)
      ∧ t.now = s.instant at_
      ∧ Frame [.time, .free, .ledger] [E.Stamp.EVENTS_STAMPED port, E.Ptp.SYNCS_RECEIVED b, E.Ptp.PATH_ACTIVE b, E.Ptp.PATH_DIFF b,
          E.Ptp.MEAN_PATH_DELAY b, E.Base.OFFSET_LAST b, E.Base.OFFSET_MAX b, E.Base.SERVO_STATE b, E.Base.SYNC_STATE b,
          E.Base.SYNC_STATE 1, E.Base.LOCK_LOSSES b, E.Base.FREQ_ADJ b, E.Base.STEPS b, E.Base.LAST_STEP b] [45] s t))
  ∧ (∀ (s : State) (at_ b port : Nat) (m : PtpMsg), b < 3 → portOf b port = true → m.unsupported = false →
      m.domain = s.rd (E.Ptp.PTP_DOMAIN b) → s.fromMaster b m = true → ∀ p, p = portPath port →
      ∀ q, ((s.tb b).path p).pending = some q → q.1 = m.seq → (s.instant at_ : Int) ≤ q.2.2 + s.syncInterval b →
      ∀ o, o = q.2.1 - (m.ts + m.corr) - (s.pathDelay b port).getD 0 → s.rd (E.Ptp.PATH_ACTIVE b) = p →
      ∀ lock, lock = s.rd (E.Base.LOCK_THRESHOLD b) * 65536 →
    Completes (.followUpReceived at_ b port m) s (fun t => ((t.tb b).path p).pending = none ∧ ((t.tb b).path p).offset = o
      ∧ t.rd (E.Ptp.SYNCS_RECEIVED b) = min (2 ^ 32 - 1) (s.rd (E.Ptp.SYNCS_RECEIVED b) + 1)
      ∧ t.rd (E.Base.OFFSET_LAST b) = nsF32 o % 2 ^ 32
      ∧ (s.rd (E.Base.SERVO_STATE b) = 2 →
          t.rd (E.Base.SERVO_STATE b) = (if 8 * lock < o.natAbs ∧ 3 ≤ (s.tb b).outside then 1 else 2)
          ∧ t.rd (E.Base.STEPS b) = s.rd (E.Base.STEPS b))
      ∧ (s.rd (E.Base.SERVO_STATE b) = 1 →
          ∀ far, far = decide (s.rd (E.Base.STEP_THRESHOLD b) * 65536000 < o.natAbs ∧ (s.rd (E.Base.STEP_POLICY b) = 0 ∨ (s.tb b).everLocked = false)) →
          t.rd (E.Base.STEPS b) = (if far then min (2 ^ 32 - 1) (s.rd (E.Base.STEPS b) + 1) else s.rd (E.Base.STEPS b))
          ∧ (far = true → tbHalf (t.tb b).segs (2 * s.instant at_) = (tbHalf (s.tb b).segs (2 * s.instant at_) - o * 281474976710656) % tbModulus)
          ∧ (far = false → t.rd (E.Base.SERVO_STATE b) = (if o.natAbs ≤ lock ∧ 15 ≤ (s.tb b).inside then 2 else 1)))
      ∧ (s.rd (E.Base.SERVO_STATE b) = 3 → t.rd (E.Base.SERVO_STATE b) = 1)
      ∧ t.now = s.instant at_ ∧ Keeps [.time, .free, .ledger] s t))
  ∧ (∀ (s : State) (b lim : Nat), b < 3 → lim ≤ 500000000 → ∀ t, t = s.servoFreq b lim →
      (t.rdI (E.Base.FREQ_ADJ b)).natAbs ≤ lim ∧ t.freeCtr = s.freeCtr + 1)
  ∧ (∀ (s : State) (at_ b port : Nat), b < 3 → ∀ q, ((s.tb b).path (portPath port)).pending = some q →
    Completes (.followUpTimeout at_ b port) s (fun t =>
      ((t.tb b).path (portPath port)).pending = (if q.2.2 + s.syncInterval b ≤ (s.instant at_ : Int) then none else some q)
      ∧ ((t.tb b).path (1 - portPath port)) = ((s.tb b).path (1 - portPath port)) ∧ (∀ k < 3, k ≠ b → t.tb k = s.tb k)
      ∧ t.now = s.instant at_ ∧ Frame [.time] [] [] s t))
  ∧ (∀ (s : State) (at_ b : Nat), b < 3 → s.follows b = true → s.rd (E.Base.SERVO_STATE b) = 1 ∨ s.rd (E.Base.SERVO_STATE b) = 2 →
      ∀ p, p = s.rd (E.Ptp.PATH_ACTIVE b) → p < 2 →
      ∀ live, live = (fun k => ((s.tb b).path k).lastSync.any (fun l => decide ((s.instant at_ : Int) < l + 4 * s.syncInterval b))) → live p = false →
    Completes (.syncIntervalTimeout at_ b) s (fun t =>
      (live (1 - p) = true → t.rd (E.Ptp.PATH_ACTIVE b) = 1 - p ∧ t.rd (E.Base.SERVO_STATE b) = s.rd (E.Base.SERVO_STATE b) ∧ t.tb b = s.tb b)
      ∧ (live (1 - p) = false → t.rd (E.Ptp.PATH_ACTIVE b) = 0xFF ∧ t.rd (E.Base.SERVO_STATE b) = 3
          ∧ t.rd (E.Base.SYNC_STATE b) = (if (s.tb b).everLocked then 1 else 2) ∧ (t.tb b).holdSince = s.instant at_
          ∧ ((s.tb b).lockedAdj ≠ [] → ((t.tb b).segs.head?).map (·.freq)
              = some (divRne ((s.tb b).lockedAdj.foldl (· + ·) 0) (s.tb b).lockedAdj.length)))
      ∧ (∀ k < 3, k ≠ b → t.tb k = s.tb k) ∧ t.now = s.instant at_
      ∧ Frame [.time, .ledger] [E.Ptp.PATH_ACTIVE b, E.Base.SERVO_STATE b, E.Base.SYNC_STATE b, E.Base.SYNC_STATE 1, E.Base.LOCK_LOSSES b,
          E.Base.FREQ_ADJ b] [45] s t))

/-- Announce messages: taking a master, its properties, its loss, and what the module announces. An Announce of another domain is
counted and ignored. A slave-only instance without a master takes the sender: MASTER_ID, GM_ID, STEPS_REMOVED, UTC_OFFSET and LEAP
come from the message. An Announce of its master, on whichever path, renews them; one of a worse master changes nothing. An
instance whose master is not heard within the announce receipt timeout loses it, and a slave that was ACQUIRING or LOCKED enters
HOLDOVER; an ORDINARY instance that hears none becomes MASTER. A master that is no standby sends its Announce on a port with a
link: clockClass 7 in holdover and 248 before the first lock for BC_FROM_TB0, with the steps of TB0 plus one. (08_time_bases R271;
08_time_bases R281; 08_time_bases R282; 08_time_bases R283; 08_time_bases R293) -/
def Obligations.MastersAreSelectedAndLost : Prop :=
  (∀ (s : State) (at_ b port : Nat) (a : Announce), b < 3 → portOf b port = true → a.domain ≠ s.rd (E.Ptp.PTP_DOMAIN b) →
    Completes (.announceReceived at_ b port a) s (fun t => t.rd (E.Ptp.DISCARDED b) = min (2 ^ 32 - 1) (s.rd (E.Ptp.DISCARDED b) + 1)
      ∧ t.now = s.instant at_ ∧ Frame [] [E.Ptp.DISCARDED b] [] s t))
  ∧ (∀ (s : State) (at_ b port : Nat) (a : Announce), b < 3 → portOf b port = true → a.domain = s.rd (E.Ptp.PTP_DOMAIN b) → s.role b = 1 →
      (s.tb b).master = none ∨ (∃ m ∈ (s.tb b).master, sameClock m.source a.source = true ∨ betterMaster a m = true) →
      a.stepsRemoved < 2 ^ 16 → -32768 ≤ a.utcOffset → a.utcOffset < 32768 →
    Completes (.announceReceived at_ b port a) s (fun t => (t.tb b).master = some a ∧ (t.tb b).announceAt = s.instant at_
      ∧ t.rdB (E.Ptp.MASTER_ID b) = beBytes 10 a.source ∧ t.rdB (E.Ptp.GM_ID b) = beBytes 8 a.gm
      ∧ t.rd (E.Ptp.STEPS_REMOVED b) = a.stepsRemoved ∧ t.rdI (E.Base.UTC_OFFSET b) = a.utcOffset
      ∧ bitOf (t.rd (E.Base.LEAP b)) 0 = a.leap61 ∧ bitOf (t.rd (E.Base.LEAP b)) 1 = a.leap59
      ∧ ((s.tb b).master = none → t.rd (E.Ptp.PORT_STATE b) = 9)
      ∧ (∀ m ∈ (s.tb b).master, sameClock m.source a.source = false → s.rd (E.Base.SERVO_STATE b) = 2 → t.rd (E.Base.SERVO_STATE b) = 1)
      ∧ (∀ m ∈ (s.tb b).master, sameClock m.source a.source = true → t.rd (E.Base.SERVO_STATE b) = s.rd (E.Base.SERVO_STATE b))
      ∧ (∀ k < 3, k ≠ b → t.tb k = s.tb k) ∧ t.now = s.instant at_
      ∧ Frame [.time, .ledger] [E.Ptp.MASTER_ID b, E.Ptp.GM_ID b, E.Ptp.STEPS_REMOVED b, E.Base.UTC_OFFSET b, E.Base.LEAP b, E.Ptp.PORT_STATE b,
          E.Base.SERVO_STATE b, E.Base.SYNC_STATE b, E.Base.SYNC_STATE 1, E.Base.LOCK_LOSSES b] [45] s t))
  ∧ (∀ (s : State) (at_ b port : Nat) (a : Announce), b < 3 → portOf b port = true → a.domain = s.rd (E.Ptp.PTP_DOMAIN b) →
      s.role b = 1 ∨ s.role b = 2 → ∀ m, (s.tb b).master = some m → sameClock m.source a.source = false → betterMaster a m = false →
    Completes (.announceReceived at_ b port a) s (fun t => t.now = s.instant at_ ∧ Frame [] [] [] s t))
  ∧ (∀ (s : State) (at_ b : Nat), b < 3 → s.role b = 1 → (s.tb b).master.isSome = true →
      (s.tb b).announceAt + s.announceTimeout b ≤ s.instant at_ →
    Completes (.announceReceiptTimeout at_ b) s (fun t => (t.tb b).master = none ∧ t.rd (E.Ptp.PORT_STATE b) = 4
      ∧ t.rd (E.Base.SERVO_STATE b) = (if s.rd (E.Base.SERVO_STATE b) = 1 ∨ s.rd (E.Base.SERVO_STATE b) = 2 then 3 else s.rd (E.Base.SERVO_STATE b))
      ∧ (∀ k < 3, k ≠ b → t.tb k = s.tb k) ∧ t.now = s.instant at_
      ∧ Frame [.time, .ledger] [E.Ptp.PORT_STATE b, E.Base.SERVO_STATE b, E.Base.SYNC_STATE b, E.Base.SYNC_STATE 1, E.Base.LOCK_LOSSES b,
          E.Base.FREQ_ADJ b] [45] s t))
  ∧ (∀ (s : State) (at_ b : Nat), b < 3 → s.role b = 2 → s.rd E.Twin.TWIN_ROLE ≠ 1 → s.rd (E.Base.SERVO_STATE b) ≠ 4 →
      (s.tb b).announceAt + s.announceTimeout b ≤ s.instant at_ →
    Completes (.announceReceiptTimeout at_ b) s (fun t => (t.tb b).master = none ∧ t.rd (E.Ptp.PORT_STATE b) = 6
      ∧ t.rd (E.Base.SERVO_STATE b) = 4 ∧ (∀ k < 3, k ≠ b → t.tb k = s.tb k) ∧ t.now = s.instant at_
      ∧ Frame [.time, .ledger] [E.Ptp.PORT_STATE b, E.Base.SERVO_STATE b, E.Base.SYNC_STATE b, E.Base.SYNC_STATE 1, E.Base.LOCK_LOSSES b,
          E.Base.FREQ_ADJ b] [45] s t))
  ∧ (∀ (s : State) (at_ b : Nat), b < 3 → ((s.tb b).master = none ∧ s.role b ≠ 2) ∨ s.instant at_ < (s.tb b).announceAt + s.announceTimeout b →
    Completes (.announceReceiptTimeout at_ b) s (fun t => t.now = s.instant at_ ∧ Frame [] [] [] s t))
  ∧ (∀ (s : State) (at_ b port : Nat), b < 3 → portOf b port = true → s.rd E.Twin.TWIN_ROLE ≠ 1 →
      s.rd (E.Base.SERVO_STATE b) = 4 ∨ s.role b = 4 → s.rd (E.Port.LINK_STATE port) ≠ 0 → ∀ a, a = s.ownAnnounce b port →
    Completes (.announceSend at_ b port) s (fun t =>
      (t.net.ports.fetch {} port).egress.length = (s.net.ports.fetch {} port).egress.length + 1
      ∧ ((t.net.ports.fetch {} port).egress.getLast?).map (fun f => (f.cls, f.event, f.body)) = some (2, false, .announce a)
      ∧ a.domain = s.rd (E.Ptp.PTP_DOMAIN b) ∧ a.priority1 = s.rd (E.Ptp.PRIORITY1 b) ∧ a.priority2 = s.rd (E.Ptp.PRIORITY2 b)
      ∧ (s.role b ≠ 4 → a.clockClass = s.rd (E.Ptp.CLOCK_CLASS b) ∧ a.stepsRemoved = 0)
      ∧ (s.role b = 4 → (s.rd (E.Base.SYNC_STATE 0) = 1 → a.clockClass = 7) ∧ (s.rd (E.Base.SYNC_STATE 0) = 2 → a.clockClass = 248)
          ∧ ((s.tb 0).master.isSome = true → a.stepsRemoved = s.rd (E.Ptp.STEPS_REMOVED 0) + 1))
      ∧ (∀ k, k ≠ port → t.net.ports.fetch {} k = s.net.ports.fetch {} k) ∧ t.now = s.instant at_ ∧ Frame [.net] [] [] s t))

/-- Sync, delay and peer-delay messages, the transparent clock, and a change of a link. SYNC_SEND of a master puts a one-step Sync on
the port whose originTimestamp and correctionField sum to its MDI transmit instant. DELAY_REQ_SEND keeps its transmit instant, and
the Delay_Resp that answers it gives the path's mean delay ((t2 - t1) + (t4 - t3)) / 2. PDELAY_REQ_SEND keeps its instant; the
first Pdelay_Resp gives half the round trip less the turnaround, a second responder is reported. A Pdelay_Req is answered on its
port with the turnaround in correctionField. TC_EVENT_FORWARD adds the residence time, and in P2P mode for a Sync the link delay
and asymmetry of the ingress port, to correctionField of the messages that its mode corrects; peer-delay messages are not
forwarded. A link that comes up sets LINK_STATE; at another speed than the last one it voids the delays measured on the port. The
phase of a transmitted SFD within its 4 ns cycle is a free value (log entry 167). (08_time_bases R277; 08_time_bases R279;
08_time_bases R280; 08_time_bases R284; 08_time_bases R286; 08_time_bases R287; 08_time_bases R288) -/
def Obligations.PtpMessagesAreSentAndMeasured : Prop :=
  (∀ (s : State) (at_ b port : Nat), b < 3 → portOf b port = true → s.rd E.Twin.TWIN_ROLE ≠ 1 →
      s.rd (E.Base.SERVO_STATE b) = 4 ∨ s.role b = 4 → s.rd (E.Port.LINK_STATE port) ≠ 0 → ∀ x, x = (s.advance at_).txStamp b port →
      ∀ m, m = ({ domain := s.rd (E.Ptp.PTP_DOMAIN b), source := portIdentity b port, seq := (s.tb b).txSync, ts := x / 65536 * 65536, corr := x % 65536 } : PtpMsg) →
    Completes (.syncSend at_ b port) s (fun t =>
      (t.net.ports.fetch {} port).egress.length = (s.net.ports.fetch {} port).egress.length + 1
      ∧ ((t.net.ports.fetch {} port).egress.getLast?).map (fun f => (f.cls, f.single, f.event, f.dst, f.body))
          = some (2, true, true, 0x011B19000000, .ptp .sync m)
      ∧ (t.tb b).txSync = ((s.tb b).txSync + 1) % 65536 ∧ (t.tb b).segs = (s.tb b).segs ∧ (∀ k < 3, k ≠ b → t.tb k = s.tb k)
      ∧ t.rd (E.Stamp.EVENTS_STAMPED port) = min (2 ^ 32 - 1) (s.rd (E.Stamp.EVENTS_STAMPED port) + 1)
      ∧ (∀ k, k ≠ port → t.net.ports.fetch {} k = s.net.ports.fetch {} k) ∧ t.now = s.instant at_
      ∧ Frame [.time, .net, .free] [E.Stamp.EVENTS_STAMPED port] [] s t))
  ∧ (∀ (s : State) (at_ b port : Nat), b < 3 → portOf b port = true → s.role b = 1 ∨ s.role b = 2 → s.rd (E.Ptp.DELAY_MECH b) = 0 →
      (s.tb b).master.isSome = true → s.rd (E.Port.LINK_STATE port) ≠ 0 → ∀ x, x = (s.advance at_).txStamp b port →
      ∀ m, m = ({ domain := s.rd (E.Ptp.PTP_DOMAIN b), source := portIdentity b port, seq := (s.tb b).txDelay, ts := x, corr := -s.asymmetry port } : PtpMsg) →
    Completes (.delayReqSend at_ b port) s (fun t =>
      ((t.tb b).path (portPath port)).t3 = some ((s.tb b).txDelay, x)
      ∧ (t.tb b).txDelay = ((s.tb b).txDelay + 1) % 65536
      ∧ ((t.net.ports.fetch {} port).egress.getLast?).map (fun f => (f.cls, f.event, f.body)) = some (2, true, .ptp .delayReq m)
      ∧ (∀ k < 3, k ≠ b → t.tb k = s.tb k) ∧ (∀ k, k ≠ port → t.net.ports.fetch {} k = s.net.ports.fetch {} k)
      ∧ t.now = s.instant at_ ∧ Frame [.time, .net, .free] [E.Stamp.EVENTS_STAMPED port] [] s t))
  ∧ (∀ (s : State) (at_ b port : Nat) (m : PtpMsg), b < 3 → portOf b port = true → m.unsupported = false →
      m.domain = s.rd (E.Ptp.PTP_DOMAIN b) → s.fromMaster b m = true → m.requester = portIdentity b port →
      ∀ q, q = (s.tb b).path (portPath port) → q.lastSync.isSome = true → ∀ r, q.t3 = some r → r.1 = m.seq →
      ∀ d, d = ((q.t2 - q.t1) + (m.ts - m.corr - r.2)) / 2 →
    Completes (.delayRespReceived at_ b port m) s (fun t =>
      ((t.tb b).path (portPath port)) = { q with t3 := none, delay := some d }
      ∧ (s.rd (E.Ptp.PATH_ACTIVE b) = portPath port → t.rd (E.Ptp.MEAN_PATH_DELAY b) = nsF32 d % 2 ^ 32)
      ∧ (s.rd (E.Ptp.PATH_ACTIVE b) ≠ portPath port → t.rd (E.Ptp.MEAN_PATH_DELAY b) = s.rd (E.Ptp.MEAN_PATH_DELAY b))
      ∧ ((t.tb b).path (1 - portPath port)) = ((s.tb b).path (1 - portPath port)) ∧ (∀ k < 3, k ≠ b → t.tb k = s.tb k)
      ∧ t.now = s.instant at_ ∧ Frame [.time] [E.Ptp.MEAN_PATH_DELAY b] [] s t))
  ∧ (∀ (s : State) (at_ b port : Nat), b < 3 → portOf b port = true → s.role b ≠ 0 → s.rd (E.Ptp.DELAY_MECH b) = 1 →
      s.rd (E.Port.LINK_STATE port) ≠ 0 → ∀ q, q = s.time.peers.fetch {} port →
    Completes (.pdelayReqSend at_ b port) s (fun t =>
      t.time.peers.fetch {} port = { q with seq := (q.seq + 1) % 65536, t1 := some ((s.advance at_).txStamp b port), responder := none, answered := false }
      ∧ t.rd (E.Stamp.PEER_DELAY_STATE port) = (if q.answered then s.rd (E.Stamp.PEER_DELAY_STATE port) else 2)
      ∧ ((t.net.ports.fetch {} port).egress.getLast?).map (fun f => (f.cls, f.event, f.dst)) = some (2, true, 0x0180C200000E)
      ∧ (∀ k < 3, t.tb k = s.tb k) ∧ (∀ k, k ≠ port → t.time.peers.fetch {} k = s.time.peers.fetch {} k)
      ∧ t.now = s.instant at_ ∧ Frame [.time, .net, .free] [E.Stamp.EVENTS_STAMPED port, E.Stamp.PEER_DELAY_STATE port] [] s t))
  ∧ (∀ (s : State) (at_ b port mac : Nat) (m : PtpMsg), b < 3 → portOf b port = true → m.unsupported = false →
      m.domain = s.rd (E.Ptp.PTP_DOMAIN b) → s.rd (E.Ptp.DELAY_MECH b) = 1 → s.role b ≠ 0 →
      ∀ c, c = m.corr + (2 * (s.instant at_ : Int) + (Config.sfdPhase s.freeCtr % 8 : Nat) - mac) * 32768 + s.latency 0 port + s.latency 1 port →
      ∀ r, r = ({ domain := m.domain, source := portIdentity b port, seq := m.seq, corr := c, requester := m.source } : PtpMsg) →
    Completes (.pdelayReqReceived at_ b port mac m) s (fun t =>
      (t.net.ports.fetch {} port).egress.length = (s.net.ports.fetch {} port).egress.length + 1
      ∧ ((t.net.ports.fetch {} port).egress.getLast?).map (fun f => (f.cls, f.event, f.dst, f.body)) = some (2, true, 0x0180C200000E, .ptp .pdelayResp r)
      ∧ (∀ k, k ≠ port → t.net.ports.fetch {} k = s.net.ports.fetch {} k) ∧ t.now = s.instant at_
      ∧ Frame [.net, .free] [E.Stamp.EVENTS_STAMPED port] [] s t))
  ∧ (∀ (s : State) (at_ b port mac : Nat) (m : PtpMsg), b < 3 → portOf b port = true → m.unsupported = false →
      m.domain = s.rd (E.Ptp.PTP_DOMAIN b) → m.requester = portIdentity b port → ∀ q, q = s.time.peers.fetch {} port →
      (m.seq + 1) % 65536 = q.seq → ∀ t1, q.t1 = some t1 → ∀ d, d = (s.tbHalfAt b mac - s.latency 1 port - t1 - m.ts - m.corr) / 2 →
    Completes (.pdelayRespReceived at_ b port mac m) s (fun t =>
      (q.responder = none → t.time.peers.fetch {} port = { q with responder := some m.source, answered := true, delay := some d }
        ∧ t.rd (E.Stamp.PEER_DELAY port) = nsF32 d % 2 ^ 32 ∧ t.rd (E.Stamp.PEER_DELAY_STATE port) = 1)
      ∧ (∀ r, q.responder = some r → t.time = s.time ∧ t.rd (E.Stamp.PEER_DELAY port) = s.rd (E.Stamp.PEER_DELAY port)
        ∧ t.rd (E.Stamp.PEER_DELAY_STATE port) = (if r = m.source then s.rd (E.Stamp.PEER_DELAY_STATE port) else 3))
      ∧ (∀ k < 3, t.tb k = s.tb k) ∧ t.now = s.instant at_
      ∧ Frame [.time] [E.Stamp.EVENTS_STAMPED port, E.Stamp.PEER_DELAY port, E.Stamp.PEER_DELAY_STATE port] [] s t))
  ∧ (∀ (s : State) (at_ : Nat) (f : TcFrame), tcForwards f.kind = true → f.fcsOk = true → ∀ i, i = 2 + f.ingress.val → ∀ o, o = 3 - f.ingress.val →
      ∀ fix, fix = tcCorrects (s.rd E.Tc.TC_MODE) f.kind →
      ∀ through, through = (s.rd (E.Port.LINK_STATE i) == s.rd (E.Port.LINK_STATE o) && f.egressIdle && !f.class3Waiting) →
      ∀ res, res = ((f.tx : Int) - f.rx) * incOf (segAt (s.segs 1) (s.instant at_)).freq / 34359738368 + s.latency 1 i + s.latency 0 o →
    Completes (.tcEventForward at_ f) s (fun t =>
      (t.net.ports.fetch {} o).tcOut.map (fun g => (g.kind, g.corr)) = some (f.kind, f.corr + (if fix then res
          + (if s.rd E.Tc.TC_MODE = 2 ∧ f.kind = .sync then ((s.time.peers.fetch {} i).delay).getD 0 + s.asymmetry i else 0) else 0))
      ∧ (fix = true → ∀ u, f.udpChecksum = some u → (t.net.ports.fetch {} o).tcOut.map (fun g => g.udpChecksum) = some (some 0))
      ∧ t.rd E.Tc.TC_FRAMES = (if fix then min (2 ^ 32 - 1) (s.rd E.Tc.TC_FRAMES + 1) else s.rd E.Tc.TC_FRAMES)
      ∧ t.rd E.Tc.TC_STORED = (if through || !isEvent f.kind then s.rd E.Tc.TC_STORED else min (2 ^ 32 - 1) (s.rd E.Tc.TC_STORED + 1))
      ∧ (∀ k, k ≠ o → t.net.ports.fetch {} k = s.net.ports.fetch {} k) ∧ t.now = s.instant at_
      ∧ Frame [.net] [E.Tc.TC_FRAMES, E.Tc.RESIDENCE_LAST, E.Tc.RESIDENCE_MIN, E.Tc.RESIDENCE_MAX, E.Tc.TC_STORED, E.Stamp.EVENTS_STAMPED i,
          E.Stamp.EVENTS_STAMPED o] [] s t))
  ∧ (∀ (s : State) (at_ : Nat) (f : TcFrame), tcForwards f.kind = false →
    Completes (.tcEventForward at_ f) s (fun t => t.now = s.instant at_ ∧ Frame [] [] [] s t))
  ∧ (∀ (s : State) (at_ p link mdi : Nat), p < 4 → link < 3 → mdi < 256 → s.rd (E.Port.LINK_STATE p) ≠ link →
      linkAllowed (s.rd (E.Port.SPEED_MODE p)) link = true → link = 0 ∨ (s.on (E.Port.PORT_ENABLE p) = true ∧ s.power.reduced = false) →
    Completes (.linkChange at_ p link mdi) s (fun t => t.rd (E.Port.LINK_STATE p) = link ∧ t.rd (E.Port.MDI_STATE p) = mdi
      ∧ t.rd (E.Port.LINK_CHANGES p) = min (2 ^ 32 - 1) (s.rd (E.Port.LINK_CHANGES p) + 1)
      ∧ (link = 0 ∨ (s.port p).speed = 0 ∨ (s.port p).speed = link → t.time = s.time)
      ∧ (link ≠ 0 → (t.port p).speed = link)
      ∧ (link ≠ 0 → (s.port p).speed ≠ 0 → (s.port p).speed ≠ link → (t.time.peers.fetch {} p).delay = none ∧ (t.time.peers.fetch {} p).t1 = none ∧ t.rd (E.Stamp.PEER_DELAY_STATE p) = 0
          ∧ (∀ b < 3, portOf b p = true → ((t.tb b).path (portPath p)).delay = none ∧ ((t.tb b).path (portPath p)).t3 = none)
          ∧ (∀ b < 3, portOf b p = false → t.tb b = s.tb b))
      ∧ (∀ b < 3, (t.tb b).segs = (s.tb b).segs) ∧ (∀ k, k ≠ p → t.port k = s.port k) ∧ t.now = s.instant at_
      ∧ Frame [.time, .net] [E.Port.LINK_STATE p, E.Port.MDI_STATE p, E.Port.LINK_CHANGES p, E.Port.CABLE_STATE p, E.Stamp.PEER_DELAY p,
          E.Stamp.PEER_DELAY_STATE p, E.Ptp.MEAN_PATH_DELAY 0, E.Ptp.MEAN_PATH_DELAY 1, E.Ptp.MEAN_PATH_DELAY 2] [] s t))

/-- What becomes of a frame that arrives at a port: counted, discarded, quenched, policed, forwarded, delivered. A frame at a port
without a link does nothing; one with a bad FCS or length is only counted. The second copy of a redundant frame is counted and
goes nowhere. A frame that a quench filter covers is dropped and counted at the port and at the filter. A class 3 frame beyond its
bucket is counted in POLICE_DROPS; a frame whose buffer is full in BUFFER_DROPS of its class. An HSR frame that is not for the
module is forwarded to the other ring port. A frame for the module of class 0 or 1 within its cap is placed on RXL of the port
with its class, flags and stamp; an ESC frame at P1 or P2 is placed on the safety ring of that port. (09_ethernet_prp_hsr_ecx
R301; 09_ethernet_prp_hsr_ecx R302; 09_ethernet_prp_hsr_ecx R303; 09_ethernet_prp_hsr_ecx R306; 09_ethernet_prp_hsr_ecx R307;
09_ethernet_prp_hsr_ecx R308; 09_ethernet_prp_hsr_ecx R309; 09_ethernet_prp_hsr_ecx R310; 09_ethernet_prp_hsr_ecx R314) -/
def Obligations.FramesPassTheIngressPipeline : Prop :=
  (∀ (s : State) (at_ p : Nat) (full : Bool) (f : EthFrame), 4 ≤ p ∨ s.rd (E.Port.LINK_STATE p) = 0 →
    Completes (.frameReceived at_ p full f) s (fun t => t.now = s.instant at_ ∧ Frame [] [] [] s t))
  ∧ (∀ (s : State) (at_ p : Nat) (full : Bool) (f : EthFrame), p < 4 → s.rd (E.Port.LINK_STATE p) ≠ 0 →
      f.fcsOk = false ∨ f.len < 64 ∨ 1528 < f.len →
    Completes (.frameReceived at_ p full f) s (fun t => t.rd (E.Port.RX_FCS_ERRORS p) = min (2 ^ 32 - 1) (s.rd (E.Port.RX_FCS_ERRORS p) + 1)
      ∧ t.now = s.instant at_ ∧ Frame [] [E.Port.RX_FCS_ERRORS p] [] s t))
  ∧ (∀ (s : State) (at_ p : Nat) (full : Bool) (f : EthFrame), p < 4 → s.rd (E.Port.LINK_STATE p) ≠ 0 →
      f.fcsOk = true → 64 ≤ f.len → f.len ≤ 1528 → f.vlan = none → f.ether ≠ 0x8808 → s.showsDuplicate p f = false →
      f.src ≠ s.macOf p → (s.advance at_).forgetEntries.isDuplicate p f = true →
    Completes (.frameReceived at_ p full f) s (fun t => t.rd (E.Port.DUP_DISCARDED p) = min (2 ^ 32 - 1) (s.rd (E.Port.DUP_DISCARDED p) + 1)
      ∧ t.rd (E.Port.RX_FRAMES p) = min (2 ^ 64 - 1) (s.rd (E.Port.RX_FRAMES p) + 1) ∧ t.net.ports = s.net.ports ∧ t.net.nodes = s.net.nodes
      ∧ t.now = s.instant at_ ∧ Frame [.net] (E.Port.DUP_DISCARDED p :: frameEnts p) [] s t))
  ∧ (∀ (s : State) (at_ p : Nat) (full : Bool) (f : EthFrame), s.admitsFrame at_ p f → ∀ k, s.quenched p f = some k →
    Completes (.frameReceived at_ p full f) s (fun t => t.rd (E.Port.QUENCH_DROPS p) = min (2 ^ 64 - 1) (s.rd (E.Port.QUENCH_DROPS p) + 1)
      ∧ t.rd (E.Quench.FILTER_HITS k) = min (2 ^ 64 - 1) (s.rd (E.Quench.FILTER_HITS k) + 1)
      ∧ t.net.ports = s.net.ports ∧ t.net.nodes = s.net.nodes
      ∧ t.now = s.instant at_ ∧ Frame [.net] ([E.Port.QUENCH_DROPS p, E.Quench.FILTER_HITS k] ++ frameEnts p) [] s t))
  ∧ (∀ (s : State) (at_ p : Nat) (full : Bool) (f : EthFrame), s.admitsFrame at_ p f → s.quenched p f = none → classOf f = 3 →
      ((s.advance at_).policeClass3 p f).2 = false →
    Completes (.frameReceived at_ p full f) s (fun t =>
      leAt (t.rdB (E.Port.POLICE_DROPS p)) 12 4 = min 0xFFFFFFFF (leAt (fitTo 0 16 (s.rdB (E.Port.POLICE_DROPS p))) 12 4 + 1)
      ∧ (∀ k, k ≠ p → t.port k = s.port k) ∧ (t.port p).forward = (s.port p).forward
      ∧ t.now = s.instant at_ ∧ Frame [.net] (E.Port.POLICE_DROPS p :: frameEnts p) [] s t))
  ∧ (∀ (s : State) (at_ p : Nat) (f : EthFrame), s.admitsFrame at_ p f → s.quenched p f = none → ∀ c, c = classOf f → c < 3 →
    Completes (.frameReceived at_ p true f) s (fun t =>
      leAt (t.rdB (E.Port.BUFFER_DROPS p)) (4 * c) 4 = min 0xFFFFFFFF (leAt (fitTo 0 16 (s.rdB (E.Port.BUFFER_DROPS p))) (4 * c) 4 + 1)
      ∧ t.net.ports = s.net.ports ∧ t.net.nodes = s.net.nodes
      ∧ t.now = s.instant at_ ∧ Frame [.net] (E.Port.BUFFER_DROPS p :: frameEnts p) [] s t))
  ∧ (∀ (s : State) (at_ p : Nat) (f : EthFrame), s.admitsFrame at_ p f → s.quenched p f = none → classOf f < 3 →
      2 ≤ p → f.hsr.isSome = true → isPtp f = false → s.forMe p f = false →
    Completes (.frameReceived at_ p false f) s (fun t => (t.port (5 - p)).forward = (s.port (5 - p)).forward ++ [f]
      ∧ t.rd E.Net.FORWARDED = min (2 ^ 64 - 1) (s.rd E.Net.FORWARDED + 1) ∧ (∀ k, k ≠ 5 - p → t.port k = s.port k)
      ∧ t.now = s.instant at_ ∧ Frame [.net] (E.Net.FORWARDED :: frameEnts p) [] s t))
  ∧ (∀ (s : State) (at_ p : Nat) (f : EthFrame), s.admitsFrame at_ p f → s.quenched p f = none → classOf f < 2 →
      f.dst = s.macOf p → isSupervision f = false → f.fragment = false →
      ((s.advance at_).deliveryCap p (classOf f) f).2 = true → s.room (4 * p + 3) 1 = true →
    Completes (.frameReceived at_ p false f) s (fun t =>
      (t.ring (4 * p + 3)).q = (s.ring (4 * p + 3)).q
          ++ [.rx { cls := classOf f, flags := rxFlags p f, ns := s.instant at_ % 1000000000, frame := f }]
      ∧ (∀ k, k ≠ p → t.port k = s.port k) ∧ (t.port p).forward = (s.port p).forward ∧ t.net.nodes = s.net.nodes
      ∧ t.rd (E.Port.RX_FRAMES p) = min (2 ^ 64 - 1) (s.rd (E.Port.RX_FRAMES p) + 1)
      ∧ t.now = s.instant at_ ∧ Frame [.net] (frameEnts p) [4 * p + 3] s t))
  ∧ (∀ (s : State) (at_ p : Nat) (f : EthFrame), s.admitsFrame at_ p f → s.quenched p f = none → isEsc f = true → p < 2 →
      f.dst = s.macOf p → ((s.advance at_).policeClass3 p f).2 = true → s.room (35 + p) 1 = true →
    Completes (.frameReceived at_ p false f) s (fun t =>
      (t.ring (35 + p)).q = (s.ring (35 + p)).q
          ++ [.rx { cls := 3, flags := rxFlags p f, ns := s.instant at_ % 1000000000, frame := f }]
      ∧ (∀ k, k ≠ p → t.port k = s.port k) ∧ t.net.dups = (s.advance at_).forgetEntries.net.dups
      ∧ t.now = s.instant at_ ∧ Frame [.net] (frameEnts p) [35 + p] s t))

/-- Egress in priority order, redundant sending, supervision frames, the ring's state, old nodes and cable tests. PORT_TRANSMIT sends
nothing without a link or a waiting frame; the head of TXL leaves only when no other frame waits; a single-port frame leaves on
its port with the marking of its class, any other leaves on both ports of the pair with one sequence number, which advances. A
waiting class 3 forward goes before every frame but a safety frame. SUPERVISION_SEND queues a supervision frame once per
LIFE_CHECK_INTERVAL. RING_CHECK reports the ring closed when the own frame came back on both ports within two intervals and
records a change. NODE_FORGET drops the nodes not seen for the forget time. CABLE_TEST reports the pairs of a port without a link.
(09_ethernet_prp_hsr_ecx R297; 09_ethernet_prp_hsr_ecx R298; 09_ethernet_prp_hsr_ecx R299; 09_ethernet_prp_hsr_ecx R300;
09_ethernet_prp_hsr_ecx R303; 09_ethernet_prp_hsr_ecx R304; 09_ethernet_prp_hsr_ecx R306; 09_ethernet_prp_hsr_ecx R311) -/
def Obligations.PortsTransmitAndSupervise : Prop :=
  (∀ (s : State) (at_ p : Nat), 4 ≤ p ∨ s.rd (E.Port.LINK_STATE p) = 0 ∨ (s.advance at_).egressNext p = none →
    Completes (.portTransmit at_ p) s (fun t => t.now = s.instant at_ ∧ Frame [] [] [] s t))
  ∧ (∀ (s : State) (at_ p : Nat), p < 4 → s.rd (E.Port.LINK_STATE p) ≠ 0 → (2 ≤ p ∨ (s.ring (33 + p)).q = []) →
      ∀ f, (s.port p).forward = [f] → classOf f = 3 →
    Completes (.portTransmit at_ p) s (fun t => t.port p = { s.port p with forward := [], wireFwd := some f }
      ∧ t.rd (E.Port.TX_FRAMES p) = min (2 ^ 64 - 1) (s.rd (E.Port.TX_FRAMES p) + 1) ∧ (∀ k, k ≠ p → t.port k = s.port k)
      ∧ t.now = s.instant at_ ∧ Frame [.net] [E.Port.TX_FRAMES p] [] s t))
  ∧ (∀ (s : State) (at_ p : Nat), p < 4 → s.rd (E.Port.LINK_STATE p) ≠ 0 → (2 ≤ p ∨ (s.ring (33 + p)).q = []) →
      (s.port p).forward = [] → (s.port p).egress = [] → (s.ring (4 * p)).q = [] →
      ∀ (f : TxFrame) (rest : List RingEntry), (s.ring (4 * p + 1)).q = .tx f :: rest → (s.ring (4 * p + 1)).waiting = [] → f.cls < 2 →
      ∀ g, g = { f with dscp := (if f.cls = 1 then 16 else 0), tci := (if s.net.vlan = 0 then none else some ((if f.cls = 1 then 3 else 0) * 8192 + s.net.vlan)) } →
    Completes (.portTransmit at_ p) s (fun t => (t.ring (4 * p + 1)).q = rest
      ∧ (f.single = true → (t.port p).wire = some g ∧ t.net.seqPrp = s.net.seqPrp ∧ t.net.seqHsr = s.net.seqHsr ∧ (∀ k, k ≠ p → t.port k = s.port k)
          ∧ t.rd (E.Port.TX_FRAMES p) = min (2 ^ 64 - 1) (s.rd (E.Port.TX_FRAMES p) + 1))
      ∧ (f.single = false → p < 2 → (t.port 0).wire = some { g with seq := some s.net.seqPrp } ∧ (t.port 1).wire = some { g with seq := some s.net.seqPrp }
          ∧ t.net.seqPrp = (s.net.seqPrp + 1) % 65536 ∧ t.port 2 = s.port 2 ∧ t.port 3 = s.port 3)
      ∧ (f.single = false → 2 ≤ p → (t.port 2).wire = some { g with seq := some s.net.seqHsr } ∧ (t.port 3).wire = some { g with seq := some s.net.seqHsr }
          ∧ t.net.seqHsr = (s.net.seqHsr + 1) % 65536 ∧ t.port 0 = s.port 0 ∧ t.port 1 = s.port 1)
      ∧ t.now = s.instant at_ ∧ Frame [.net] ((List.range 4).map E.Port.TX_FRAMES) [4 * p + 1] s t))
  ∧ (∀ (s : State) (at_ : Nat) (hsr : Bool), ∀ last, last = (if hsr then s.net.supHsr else s.net.supPrp) →
      ∀ due, due = last.all (fun x => decide (x + s.lifeCheck hsr ≤ s.instant at_)) → ∀ p, p = (if hsr then 2 else 0) →
    Completes (.supervisionSend at_ hsr) s (fun t =>
      (due = true → ((t.port p).egress.getLast?).map (fun f => (f.cls, f.dst, f.ether, f.body)) = some (2, 0x01154E000100, 0x88FB, .bytes (beBytes 6 (s.macOf p)))
        ∧ (t.port p).egress.length = (s.port p).egress.length + 1 ∧ (if hsr then t.net.supHsr else t.net.supPrp) = some (s.instant at_)
        ∧ (∀ k, k ≠ p → t.port k = s.port k))
      ∧ (due = false → t.net = s.net) ∧ t.now = s.instant at_ ∧ Frame [.net] [] [] s t))
  ∧ (∀ (s : State) (at_ : Nat), ∀ back, back = (fun (x : Option Nat) => x.any (fun v => decide (s.instant at_ ≤ v + 2 * s.lifeCheck true))) →
    Completes (.ringCheck at_) s (fun t => t.rd E.Net.RING_STATE = (if back s.net.supBackA && back s.net.supBackB then 0 else 1)
      ∧ (t.rd E.Net.RING_STATE = s.rd E.Net.RING_STATE → Frame [] [] [] s t)
      ∧ t.now = s.instant at_ ∧ Frame [.ledger] (E.Net.RING_STATE :: ledgerEnts) [28] s t))
  ∧ (∀ (s : State) (at_ : Nat), ∀ seen, seen = (fun (x : Option Nat) => x.any (fun v => decide (s.instant at_ < v + 1000000 * s.rd E.Net.PRP_NODE_FORGET_TIME))) →
    Completes (.nodeForget at_) s (fun t => t.net.nodes = s.net.nodes.filter (fun n => seen n.seenA || seen n.seenB)
      ∧ t.rd E.Net.PRP_NODES = (t.net.nodes.filter (fun n => !n.hsr)).length % 65536
      ∧ t.rd E.Net.HSR_NODES = (t.net.nodes.filter (fun n => n.hsr)).length % 65536
      ∧ t.net.dups = s.net.dups ∧ t.net.ports = s.net.ports
      ∧ t.now = s.instant at_ ∧ Frame [.net] [E.Net.PRP_NODES, E.Net.HSR_NODES] [] s t))
  ∧ (∀ (s : State) (at_ p pairs : Nat), p < 4 → s.rd (E.Port.LINK_STATE p) = 0 → s.on (E.Port.PORT_ENABLE p) = true →
    Completes (.cableTest at_ p pairs) s (fun t => t.rd (E.Port.CABLE_STATE p) = pairs % 65536
      ∧ t.now = s.instant at_ ∧ Frame [] [E.Port.CABLE_STATE p] [] s t))
  ∧ (∀ (s : State) (at_ p pairs : Nat), p < 4 → s.rd (E.Port.LINK_STATE p) ≠ 0 →
    Completes (.cableTest at_ p pairs) s (fun t => t.now = s.instant at_ ∧ Frame [] [] [] s t))

/-- Enabling the ECX master and its stations, the start of a cycle, CYCLE_IN, the close, and acyclic requests. ECX_ENABLE true is
accepted only where the checks of R319 pass. A cycle starts at its grid instant on the master that holds TOKEN: the cycle number
advances, RIO_OUT is taken, and every enabled station whose reduction divides the number exchanges, commanded OPERATIONAL with its
image or PREOP with no data. The first valid CYCLE_IN of a station is committed to RIO_IN with cycle and instant; late frames and
wrong signatures are only counted, a frame once for its two copies. At the close every station moves as Table NET-10 says: to
OFFLINE when enabled, to PREOP after a valid PREOP frame, to OPERATIONAL after RETURN_CYCLES valid cycles with its inputs live, to
LOST after MISS_LIMIT misses with one dropout counted, to DISABLED when not enabled. An acyclic request waits on ring 39, and its
answer or its timeout after 100 ms reaches ring 40; while one is outstanding no second one is accepted. (09_ethernet_prp_hsr_ecx
R318; 09_ethernet_prp_hsr_ecx R319; 09_ethernet_prp_hsr_ecx R320; 09_ethernet_prp_hsr_ecx R321; 09_ethernet_prp_hsr_ecx R322;
09_ethernet_prp_hsr_ecx R323; 09_ethernet_prp_hsr_ecx R324; 09_ethernet_prp_hsr_ecx R325; 09_ethernet_prp_hsr_ecx R328) -/
def Obligations.TheEcxMasterCyclesItsStations : Prop :=
  (∀ (s : State) (at_ : Nat) (w : Writer) (v : Bool), s.accepts at_ w E.Ecx.ECX_ENABLE.key .bool (.num v.toNat) →
    (v = true → s.ecxCheck = 0)
    ∧ Completes (.ecxEnableWrite at_ w v) s (fun t => t.odStatus = 0 ∧ t.rd E.Ecx.ECX_ENABLE = v.toNat
      ∧ t.rd E.Ecx.ECX_CHECK = s.ecxCheck
      ∧ t.now = s.instant at_ ∧ Frame retainParts ([E.Ecx.ECX_ENABLE, E.Ecx.ECX_CHECK, E.Ecx.CYCLE_LOAD] ++ retainEnts) [28, 31] s t))
  ∧ (∀ (s : State) (at_ n : Nat) (w : Writer) (v : Bool), n < 64 → s.accepts at_ w (E.Station.STATION_ENABLE n).key .bool (.num v.toNat) →
    Completes (.stationEnableWrite at_ w n v) s (fun t => t.odStatus = 0 ∧ t.rd (E.Station.STATION_ENABLE n) = v.toNat
      ∧ t.rd E.Ecx.ECX_CHECK = t.ecxCheck ∧ t.now = s.instant at_
      ∧ Frame retainParts ([E.Station.STATION_ENABLE n, E.Ecx.ECX_CHECK, E.Ecx.CYCLE_LOAD] ++ retainEnts) [28, 31] s t))
  ∧ (∀ (s : State) (at_ : Nat), s.ecx.start.isSome = true ∨ s.rd E.Ecx.CYCLE_PERIOD = 0 ∨ s.started = false ∨ s.power.reduced = true
        ∨ s.instant at_ % (1000 * s.rd E.Ecx.CYCLE_PERIOD) ≠ 1000 * s.rd E.Ecx.CYCLE_PHASE →
    Completes (.ecxCycleStart at_) s (fun t => t.now = s.instant at_ ∧ Frame [] [] [] s t))
  ∧ (∀ (s : State) (at_ : Nat), s.ecx.start = none → s.rd E.Ecx.CYCLE_PERIOD ≠ 0 → s.started = true → s.power.reduced = false →
      s.instant at_ % (1000 * s.rd E.Ecx.CYCLE_PERIOD) = 1000 * s.rd E.Ecx.CYCLE_PHASE → s.on E.Ecx.ECX_ENABLE = false ∨ s.active = false →
    Completes (.ecxCycleStart at_) s (fun t => t.rd E.Ecx.MASTER_STATE = (if s.on E.Ecx.ECX_ENABLE then 2 else 0)
      ∧ t.ecx = { s.ecx with running := false } ∧ t.now = s.instant at_ ∧ Frame [.ecx] [E.Ecx.MASTER_STATE] [] s t))
  ∧ (∀ (s : State) (at_ : Nat), s.ecx.start = none → s.rd E.Ecx.CYCLE_PERIOD ≠ 0 → s.started = true → s.power.reduced = false →
      s.instant at_ % (1000 * s.rd E.Ecx.CYCLE_PERIOD) = 1000 * s.rd E.Ecx.CYCLE_PHASE → s.on E.Ecx.ECX_ENABLE = true → s.active = true →
      ∀ c, c = (s.rd E.Ecx.CYCLE_NUMBER + 1) % 2 ^ 32 →
      ∀ due, due = (fun n => s.rd (E.Station.STATION_STATE n) != 0 && c % max 1 (s.rd (E.Station.REDUCTION n)) == 0) →
    Completes (.ecxCycleStart at_) s (fun t => t.rd E.Ecx.MASTER_STATE = 1 ∧ t.rd E.Ecx.CYCLE_NUMBER = c ∧ (t.ring 37).q = []
      ∧ t.ecx.start = some (s.instant at_) ∧ t.ecx.running = true
      ∧ t.ecx.applyTb1 = time96 (s.tbAt 1 (s.instant at_ + 1000 * s.rd E.Ecx.OUTPUT_DELAY))
      ∧ t.ecx.outFrames.map (fun f => (f.station, f.state, f.data.length)) = ((List.range 64).filter due).map (fun n =>
          if s.rd (E.Station.STATION_STATE n) = 3 then (n, 3, s.rd (E.Station.OUT_LENGTH n)) else (n, 2, 0))
      ∧ t.ecx.outFrames.all (fun f => decide (f.type = 1 ∧ f.cycle = c ∧ f.signature = s.rd (E.Station.CONFIG_SIGNATURE f.station))) = true
      ∧ (∀ n < 64, (t.station n).exchanges = due n ∧ (t.station n).got = false ∧ (t.station n).valid = (s.station n).valid)
      ∧ t.now = s.instant at_ ∧ Frame [.ecx, .net] [E.Ecx.MASTER_STATE, E.Ecx.CYCLE_NUMBER] [37, 39] s t))
  ∧ (∀ (s : State) (at_ port n : Nat) (f : EcxFrame), n < 64 → n = f.station → s.ecx.running = true → s.ecx.start.isSome = true → f.type = 2 →
      f.cycle = s.rd E.Ecx.CYCLE_NUMBER → f.cycle < 2 ^ 32 → f.signature = s.rd (E.Station.CONFIG_SIGNATURE n) →
      ∀ x, x = s.station n → x.exchanges = true → f.data.length = s.rd (E.Station.IN_LENGTH n) → f.state = x.commanded →
      s.room 38 1 = true → (s.ring 38).q.all (fun e => entryStation e != some n) = true →
    Completes (.cycleIn at_ port (beNat (s.rdB (E.Station.STATION_MAC n))) f) s (fun t =>
      (x.got = false → t.station n = { x with got := true, gotPorts := [port], last := f.data, live := if s.rd (E.Station.STATION_STATE n) = 3 then f.data else x.live }
        ∧ (t.ring 38).q = (s.ring 38).q ++ [.rio n f.data] ∧ t.rd (E.Station.LAST_IN_CYCLE n) = f.cycle
        ∧ t.rd (E.Station.LAST_IN_TB3 n) = time96ns (s.instant at_))
      ∧ (x.got = true → (t.station n).last = x.last ∧ (t.station n).gotPorts.contains port = true ∧ t.ring 38 = s.ring 38)
      ∧ (∀ k, k ≠ n → t.station k = s.station k) ∧ t.ecx.start = s.ecx.start
      ∧ t.now = s.instant at_ ∧ Frame [.ecx] [E.Station.LAST_IN_CYCLE n, E.Station.LAST_IN_TB3 n] [38] s t))
  ∧ (∀ (s : State) (at_ port n : Nat) (f : EcxFrame), n < 64 → n = f.station → s.ecx.running = true → f.type = 2 →
      f.cycle < s.rd E.Ecx.CYCLE_NUMBER → s.rd E.Ecx.CYCLE_NUMBER < 2 ^ 31 → (s.station n).latePort ≠ some (f.cycle, 5 - port) →
    Completes (.cycleIn at_ port (beNat (s.rdB (E.Station.STATION_MAC n))) f) s (fun t =>
      t.rd (E.Station.LATE_FRAMES n) = min (2 ^ 32 - 1) (s.rd (E.Station.LATE_FRAMES n) + 1)
      ∧ t.station n = { s.station n with latePort := some (f.cycle, port) } ∧ (∀ k, k ≠ n → t.station k = s.station k)
      ∧ t.now = s.instant at_ ∧ Frame [.ecx] [E.Station.LATE_FRAMES n] [] s t))
  ∧ (∀ (s : State) (at_ port n : Nat) (f : EcxFrame), n < 64 → n = f.station → s.ecx.running = true → s.ecx.start.isSome = true → f.type = 2 →
      f.cycle = s.rd E.Ecx.CYCLE_NUMBER → f.signature ≠ s.rd (E.Station.CONFIG_SIGNATURE n) → (s.station n).badPort ≠ some (5 - port) →
    Completes (.cycleIn at_ port (beNat (s.rdB (E.Station.STATION_MAC n))) f) s (fun t =>
      t.rd (E.Station.SIG_MISMATCHES n) = min (2 ^ 32 - 1) (s.rd (E.Station.SIG_MISMATCHES n) + 1)
      ∧ t.station n = { s.station n with badPort := some port } ∧ (∀ k, k ≠ n → t.station k = s.station k)
      ∧ t.now = s.instant at_ ∧ Frame [.ecx] [E.Station.SIG_MISMATCHES n] [] s t))
  ∧ (∀ (s : State) (at_ : Nat), ∀ b, s.ecx.start = some b → s.instant at_ < b + 1000 * s.rd E.Ecx.CYCLE_PERIOD →
    Completes (.ecxCycleClose at_) s (fun t => t.now = s.instant at_ ∧ Frame [] [] [] s t))
  ∧ (∀ (s : State) (at_ n : Nat), n < 64 → ∀ b, s.ecx.start = some b → b + 1000 * s.rd E.Ecx.CYCLE_PERIOD ≤ s.instant at_ →
      ∀ x, x = s.station n → ∀ st, st = s.rd (E.Station.STATION_STATE n) → st < 256 → ∀ en, en = s.on (E.Station.STATION_ENABLE n) →
      ∀ out, out = decide (s.rd E.Ecx.MISS_LIMIT ≤ min 65535 (s.rd (E.Station.MISS_CONSEC n) + 1)) →
    Completes (.ecxCycleClose at_) s (fun t => t.ecx.start = none
      ∧ t.rd (E.Station.STATION_STATE n) = (if !en then 0 else if st = 0 then 1 else if !x.exchanges then st
          else if st = 2 then (if x.got then (if s.rd E.Ecx.RETURN_CYCLES ≤ x.valid + 1 then 3 else 2) else if out then 1 else 2)
          else if st = 3 then (if !x.got && out then 4 else 3)
          else if x.got && x.commanded == 2 then 2 else st)
      ∧ (t.rd (E.Station.STATION_STATE n) = 3 → st = 2 → (t.station n).live = x.last)
      ∧ t.rd (E.Station.DROPOUTS n) = (if st = 3 ∧ t.rd (E.Station.STATION_STATE n) ≠ 3 then min (2 ^ 32 - 1) (s.rd (E.Station.DROPOUTS n) + 1)
          else s.rd (E.Station.DROPOUTS n))
      ∧ (en = true → st ≠ 0 → x.exchanges = true → x.got = true → t.rd (E.Station.MISS_CONSEC n) = 0 ∧ t.rd (E.Station.MISSES n) = s.rd (E.Station.MISSES n))
      ∧ (en = true → st ≠ 0 → x.exchanges = true → x.got = false → t.rd (E.Station.MISSES n) = min (2 ^ 32 - 1) (s.rd (E.Station.MISSES n) + 1))
      ∧ t.rd E.Ecx.CYCLE_NUMBER = s.rd E.Ecx.CYCLE_NUMBER ∧ t.now = s.instant at_ ∧ Keeps [.ecx, .rt, .ledger] s t))
  ∧ (∀ (s : State) (at_ n : Nat) (w : Writer) (b : List Byte), n < 64 → s.accepts at_ w (E.Station.ACYC_REQUEST n).key .octets (.bytes b) →
    s.rd (E.Station.ACYC_STATUS n) ≠ 1
    ∧ Completes (.acycRequest at_ w n b) s (fun t => t.odStatus = 0 ∧ t.rd (E.Station.ACYC_STATUS n) = 1
      ∧ (t.ring 39).q = (s.ring 39).q ++ [.rio n b] ∧ t.station n = { s.station n with acycSince := some (s.instant at_), acycSent := false }
      ∧ (∀ k, k ≠ n → t.station k = s.station k) ∧ t.now = s.instant at_
      ∧ Frame [.answer, .ecx] (E.Station.ACYC_STATUS n :: genEnts) [39] s t))
  ∧ (∀ (s : State) (at_ n : Nat) (b : List Byte), s.rd (E.Station.ACYC_STATUS n) = 1 → (s.station n).acycSent = true →
      (s.station n).acycSince.isSome = true → (s.ring 40).waiting = [] → s.room 40 1 = true →
    Completes (.acycResponse at_ n b) s (fun t => (t.ring 40).q = (s.ring 40).q ++ [.rio n (2 :: b)]
      ∧ t.station n = { s.station n with acycSince := none } ∧ (∀ k, k ≠ n → t.station k = s.station k)
      ∧ t.now = s.instant at_ ∧ Frame [.ecx] [] [40] s t))
  ∧ (∀ (s : State) (at_ n : Nat), ∀ b, (s.station n).acycSince = some b → (s.ring 40).waiting = [] → s.room 40 1 = true →
    Completes (.acycTimeout at_ n) s (fun t =>
      (b + 100000000 ≤ s.instant at_ → (t.ring 40).q = (s.ring 40).q ++ [.rio n [3]] ∧ t.station n = { s.station n with acycSince := none })
      ∧ (s.instant at_ < b + 100000000 → Frame [] [] [] s t) ∧ (∀ k, k ≠ n → t.station k = s.station k)
      ∧ t.now = s.instant at_ ∧ Frame [.ecx] [] [40] s t))

/-- CAN channels: mode write, its effect at bus idle, integration, recovery from bus-off and the transceiver. An accepted CHANNEL_MODE
write is stored and retained. CHANNEL_MODE_EFFECT with no frame in transmission takes a channel out of OFF with the bit timing and
FD_ENABLE in force and not yet integrated, takes it to OFF with CHANNEL_STATE 0, and leaves the mode while a frame is in
transmission. CAN_INTEGRATION of a channel that is not OFF and not integrated sets TEC and REC to 0 and CHANNEL_STATE by its mode.
BUS_OFF_RECOVERY after 1,408 nominal bit times returns to state 1 with TEC and REC 0. XCVR_MEASURE stores both voltages and the
observed bits and counts each new fault bit; TXD_DOMINANT_TIMEOUT sets bit 0 of XCVR_STATE alone and counts it where it is new.
The frames name what may change. (10_can_channels R331; 10_can_channels R332; 10_can_channels R343; 10_can_channels R351) -/
def Obligations.CanChannelsFollowTheirMode : Prop :=
  (∀ (s : State) (at_ c m : Nat) (w : Writer), c < 4 → s.accepts at_ w (E.Can.CHANNEL_MODE c).key .u8 (.num m) →
    Completes (.channelModeWrite at_ w c m) s (fun t => t.odStatus = 0 ∧ t.rd (E.Can.CHANNEL_MODE c) = m
      ∧ t.rd (E.CanT.TIMING_CHECK c) = (if m ≠ 0 ∧ s.rd (E.Can.CHANNEL_MODE c) = 0 then 0 else s.rd (E.CanT.TIMING_CHECK c))
      ∧ t.now = s.instant at_ ∧ Frame retainParts ([E.Can.CHANNEL_MODE c, E.CanT.TIMING_CHECK c] ++ retainEnts) [28, 31] s t))
  ∧ (∀ (s : State) (at_ c : Nat), c < 4 → (s.chan c).mode = 0 → (s.chan c).inTx = none → s.operating = true → s.power.reduced = false →
      s.rd (E.Can.CHANNEL_MODE c) ≠ 0 →
    Completes (.channelModeEffect at_ c) s (fun t =>
      t.chan c = { s.chan c with mode := s.rd (E.Can.CHANNEL_MODE c), fd := s.on (E.Can.FD_ENABLE c), bit := s.nomPeriods c
                                 integrated := false, exception := false, busy := false }
      ∧ t.rd (E.CanT.NOM_RATE c) = 80000000 / max 1 (s.nomPeriods c) ∧ t.rd (E.CanT.DATA_RATE c) = 80000000 / max 1 (s.dataPeriods c)
      ∧ (∀ d, d ≠ c → t.chan d = s.chan d)
      ∧ t.now = s.instant at_ ∧ Frame [.can] [E.CanT.NOM_RATE c, E.CanT.DATA_RATE c] [] s t))
  ∧ (∀ (s : State) (at_ c : Nat), c < 4 → (s.chan c).mode ≠ 0 → (s.chan c).inTx = none → s.rd (E.Can.CHANNEL_MODE c) = 0 →
    Completes (.channelModeEffect at_ c) s (fun t =>
      t.chan c = { s.chan c with mode := 0, integrated := false, exception := false, busy := false } ∧ t.rd (E.Can.CHANNEL_STATE c) = 0
      ∧ (∀ d, d ≠ c → t.chan d = s.chan d) ∧ t.now = s.instant at_ ∧ Frame [.can] [E.Can.CHANNEL_STATE c] [] s t))
  ∧ (∀ (s : State) (at_ c : Nat), c < 4 → (s.chan c).inTx.isSome = true →
    Completes (.channelModeEffect at_ c) s (fun t => t.chan c = { s.chan c with exception := false, busy := false }
      ∧ (∀ d, d ≠ c → t.chan d = s.chan d) ∧ t.now = s.instant at_ ∧ Frame [.can] [] [] s t))
  ∧ (∀ (s : State) (at_ c : Nat), c < 4 → (s.chan c).mode ≠ 0 → (s.chan c).integrated = false →
    Completes (.canIntegration at_ c) s (fun t => (t.chan c).integrated = true ∧ (t.chan c).mode = (s.chan c).mode
      ∧ t.rd (E.Can.TEC c) = 0 ∧ t.rd (E.Can.REC c) = 0
      ∧ (s.rd (E.Can.CHANNEL_STATE c) ≠ 3 →
          t.rd (E.Can.CHANNEL_STATE c) = (if s.active then (if (s.chan c).mode = 2 then 4 else 1) else 5))
      ∧ (∀ d, d ≠ c → t.chan d = s.chan d) ∧ t.now = s.instant at_
      ∧ Frame [.can] [E.Can.CHANNEL_STATE c, E.Can.TEC c, E.Can.REC c] [17 + 2 * c] s t))
  ∧ (∀ (s : State) (at_ c : Nat), c < 4 → s.rd (E.Can.CHANNEL_STATE c) = 3 →
      ofTime96 (s.rd (E.Can.LAST_BUSOFF c)) / 65536 + (1408 * (s.chan c).bit * 25 / 2 : Nat) ≤ (s.instant at_ : Int) →
    Completes (.busOffRecovery at_ c) s (fun t => t.rd (E.Can.CHANNEL_STATE c) = 1 ∧ t.rd (E.Can.TEC c) = 0 ∧ t.rd (E.Can.REC c) = 0
      ∧ t.now = s.instant at_ ∧ Frame [.can, .ledger] [E.Can.CHANNEL_STATE c, E.Can.TEC c, E.Can.REC c] [17 + 2 * c, 28] s t))
  ∧ (∀ (s : State) (at_ c : Nat) (m : XcvrMeasure), c < 4 → m.canh < 2 ^ 32 → m.canl < 2 ^ 32 →
      ∀ x, x = ofBool m.released + 2 * ofBool m.dominant + 4 * ofBool (lineFault m.canh) + 8 * ofBool (lineFault m.canl)
        + 16 * ofBool m.supply + 32 * ofBool m.thermal →
    Completes (.xcvrMeasure at_ c m) s (fun t => t.rd (E.CanT.CANH_V c) = m.canh ∧ t.rd (E.CanT.CANL_V c) = m.canl
      ∧ t.rd (E.CanT.XCVR_STATE c) = x
      ∧ t.rd (E.CanT.XCVR_FAULTS c) = min (2 ^ 32 - 1) (s.rd (E.CanT.XCVR_FAULTS c)
          + ((List.range 6).filter (fun i => bitOf x i && !bitOf (s.rd (E.CanT.XCVR_STATE c)) i)).length)
      ∧ t.now = s.instant at_
      ∧ Frame [.can, .ledger] [E.CanT.CANH_V c, E.CanT.CANL_V c, E.CanT.XCVR_STATE c, E.CanT.XCVR_FAULTS c] [17 + 2 * c, 28] s t))
  ∧ (∀ (s : State) (at_ c : Nat), c < 4 →
    Completes (.txdDominantTimeout at_ c) s (fun t => bitOf (t.rd (E.CanT.XCVR_STATE c)) 0 = true
      ∧ (∀ i < 6, i ≠ 0 → bitOf (t.rd (E.CanT.XCVR_STATE c)) i = bitOf (s.rd (E.CanT.XCVR_STATE c)) i)
      ∧ t.rd (E.CanT.XCVR_FAULTS c) = min (2 ^ 32 - 1) (s.rd (E.CanT.XCVR_FAULTS c) + (if bitOf (s.rd (E.CanT.XCVR_STATE c)) 0 then 0 else 1))
      ∧ t.now = s.instant at_ ∧ Frame [.can, .ledger] [E.CanT.XCVR_STATE c, E.CanT.XCVR_FAULTS c] [17 + 2 * c, 28] s t))

/-- TXQ entries, OBJ_SEND and periodic releases make frames pending; a sent frame commits. A well-formed SEND or UPDATE at the front
of TXQ leaves the ring and writes its object's image, any other entry is counted in TXQ_REJECTS. SEND in NORMAL makes a frame
pending with the image's data (forced bytes replaced), replaces one that has not started and counts OVERWRITTEN, or waits behind
one in transmission; in LISTEN_ONLY and OFF it ends with results 5 and 6. ABORT drops a frame not started with result 4, marks one
in transmission, and answers TOO_LATE in RXQ where there is none. An accepted OBJ_SEND puts its entry at the end of TXQ.
PERIODIC_RELEASE at its phase makes a frame of a committed object pending. CAN_FRAME_SENT commits the frame in transmission:
counts, LAST_RESULT 0, its TB3, and no frame of the object is left pending. (10_can_channels R335; 10_can_channels R336;
10_can_channels R338; 10_can_channels R340; 10_can_channels R348; 10_can_channels R349) -/
def Obligations.CanRequestsBecomePendingFrames : Prop :=
  (∀ (s : State) (at_ c : Nat) (e : CanTx) (rest : List RingEntry), (s.ring (16 + 2 * c)).q = .can e :: rest → c < 4 →
      (s.ring (16 + 2 * c)).waiting = [] → e.command = 1 → s.txqOk c e = true → s.inSafe = false → (s.chan c).mode = 1 →
      ((s.obj c e.object).pend.any (fun p => p.started) = false →
        Completes (.txqSend at_ c) s (fun t => (t.ring (16 + 2 * c)).q = rest ∧ (t.obj c e.object).pend.map (fun p => p.since) = some (s.instant at_)
          ∧ (t.obj c e.object).pend.map (fun p => p.data) = some ((s.setImage c e.object e.data).latchData c e.object)
          ∧ (t.obj c e.object).image = overlay (s.obj c e.object).image 0 e.data
          ∧ t.rd (E.CanObj.OVERWRITTEN c e.object) = (if (s.obj c e.object).pend = none then s.rd (E.CanObj.OVERWRITTEN c e.object)
              else min (2 ^ 32 - 1) (s.rd (E.CanObj.OVERWRITTEN c e.object) + 1))
          ∧ t.now = s.instant at_ ∧ Frame [.can] [E.CanObj.OVERWRITTEN c e.object] [16 + 2 * c] s t))
      ∧ ((s.obj c e.object).pend.any (fun p => p.started) = true →
        Completes (.txqSend at_ c) s (fun t => (t.ring (16 + 2 * c)).q = rest ∧ (t.obj c e.object).next = true
          ∧ (t.obj c e.object).pend = (s.obj c e.object).pend
          ∧ (t.obj c e.object).image = overlay (s.obj c e.object).image 0 e.data
          ∧ t.now = s.instant at_ ∧ Frame [.can] [] [16 + 2 * c] s t)))
  ∧ (∀ (s : State) (at_ c : Nat) (e : CanTx) (rest : List RingEntry), (s.ring (16 + 2 * c)).q = .can e :: rest → c < 4 →
      (s.ring (16 + 2 * c)).waiting = [] → e.command = 1 → s.txqOk c e = true → s.inSafe = false → (s.chan c).mode = 0 ∨ (s.chan c).mode = 2 →
    Completes (.txqSend at_ c) s (fun t => (t.ring (16 + 2 * c)).q = rest ∧ (t.obj c e.object).pend = none
      ∧ t.rd (E.CanObj.LAST_RESULT c e.object) = (if (s.chan c).mode = 0 then 6 else 5)
      ∧ t.rd (E.CanObj.DROPPED c e.object) = min (2 ^ 32 - 1) (s.rd (E.CanObj.DROPPED c e.object) + 1)
      ∧ t.now = s.instant at_
      ∧ Frame [.can] [E.CanObj.LAST_RESULT c e.object, E.CanObj.DROPPED c e.object] [16 + 2 * c, 17 + 2 * c] s t))
  ∧ (∀ (s : State) (at_ c : Nat) (e : CanTx) (rest : List RingEntry), (s.ring (16 + 2 * c)).q = .can e :: rest → c < 4 →
      (s.ring (16 + 2 * c)).waiting = [] → s.txqOk c e = false →
    let bad := fun t : State => (t.ring (16 + 2 * c)).q = rest
      ∧ t.rd (E.Can.TXQ_REJECTS c) = min (2 ^ 32 - 1) (s.rd (E.Can.TXQ_REJECTS c) + 1)
      ∧ t.now = s.instant at_ ∧ Frame [] [E.Can.TXQ_REJECTS c] [16 + 2 * c] s t
    (e.command = 1 → Completes (.txqSend at_ c) s bad) ∧ (e.command = 2 → Completes (.txqUpdate at_ c) s bad)
    ∧ (e.command = 3 → Completes (.txqAbort at_ c) s bad))
  ∧ (∀ (s : State) (at_ c : Nat) (e : CanTx) (rest : List RingEntry), (s.ring (16 + 2 * c)).q = .can e :: rest → c < 4 →
      (s.ring (16 + 2 * c)).waiting = [] → e.command = 2 → s.txqOk c e = true →
    Completes (.txqUpdate at_ c) s (fun t => (t.ring (16 + 2 * c)).q = rest
      ∧ t.obj c e.object = { s.obj c e.object with image := overlay (s.obj c e.object).image 0 e.data, committed := true }
      ∧ (∀ o, o ≠ e.object → t.obj c o = s.obj c o) ∧ t.now = s.instant at_ ∧ Frame [.can] [] [16 + 2 * c] s t))
  ∧ (∀ (s : State) (at_ c : Nat) (e : CanTx) (rest : List RingEntry), (s.ring (16 + 2 * c)).q = .can e :: rest → c < 4 →
      (s.ring (16 + 2 * c)).waiting = [] → e.command = 3 → s.txqOk c e = true →
      ((s.obj c e.object).pend = none →
        Completes (.txqAbort at_ c) s (fun t => (t.ring (16 + 2 * c)).q = rest ∧ t.obj c e.object = s.obj c e.object
          ∧ (s.active = true → (s.chan c).lost = 0 → s.fill (17 + 2 * c) < 64 → (t.ring (17 + 2 * c)).q = (s.ring (17 + 2 * c)).q
              ++ [.bytes (rxqEntry 2 0 e.object 0x38 (s.rd (E.CanObj.OBJ_ID c e.object)) (s.instant at_) [])])
          ∧ t.now = s.instant at_ ∧ Frame [.can] [] [16 + 2 * c, 17 + 2 * c] s t))
      ∧ (∀ p, (s.obj c e.object).pend = some p → p.started = true →
        Completes (.txqAbort at_ c) s (fun t => (t.ring (16 + 2 * c)).q = rest
          ∧ t.obj c e.object = { s.obj c e.object with pend := some { p with abort := true } }
          ∧ t.now = s.instant at_ ∧ Frame [.can] [] [16 + 2 * c] s t))
      ∧ (∀ p, (s.obj c e.object).pend = some p → p.started = false →
        Completes (.txqAbort at_ c) s (fun t => (t.ring (16 + 2 * c)).q = rest
          ∧ t.obj c e.object = { s.obj c e.object with pend := none, collRun := 0 } ∧ t.rd (E.CanObj.LAST_RESULT c e.object) = 4
          ∧ t.rd (E.CanObj.DROPPED c e.object) = min (2 ^ 32 - 1) (s.rd (E.CanObj.DROPPED c e.object) + 1)
          ∧ t.now = s.instant at_
          ∧ Frame [.can] [E.CanObj.LAST_RESULT c e.object, E.CanObj.DROPPED c e.object] [16 + 2 * c, 17 + 2 * c] s t)))
  ∧ (∀ (s : State) (at_ c o : Nat) (w : Writer) (b : List Byte), c < 4 → o < 32 → s.accepts at_ w (E.CanObj.OBJ_SEND c o).key .octets (.bytes b) →
    Completes (.objSend at_ w c o b) s (fun t => t.odStatus = 0
      ∧ (t.ring (16 + 2 * c)).q = (s.ring (16 + 2 * c)).q
          ++ [.can { command := if s.rd (E.CanObj.OBJ_MODE c o) = 2 then 2 else 1, object := o, data := b, producer := 0xFFFE }]
      ∧ t.now = s.instant at_ ∧ Frame [.answer] genEnts [16 + 2 * c] s t))
  ∧ (∀ (s : State) (at_ c o : Nat), c < 4 → o < 32 → s.rd (E.CanObj.OBJ_MODE c o) = 2 → s.rd (E.CanObj.OBJ_PERIOD c o) ≠ 0 →
      s.instant at_ % (1000 * s.rd (E.CanObj.OBJ_PERIOD c o)) = 1000 * s.rd (E.CanObj.OBJ_PHASE c o) → (s.obj c o).committed = true →
      (s.chan c).mode = 1 → s.active = true → s.inSafe = false → (s.obj c o).pend = none →
    Completes (.periodicRelease at_ c o) s (fun t => (t.obj c o).pend.map (fun p => p.data) = some (s.latchData c o)
      ∧ (t.obj c o).pend.map (fun p => p.since) = some (s.instant at_) ∧ (t.obj c o).image = (s.obj c o).image
      ∧ t.now = s.instant at_ ∧ Frame [.can] [] [] s t))
  ∧ (∀ (s : State) (at_ c delay : Nat), c < 4 → ∀ o, (s.chan c).inTx = some o → o < 32 → (s.obj c o).next = false →
    Completes (.canFrameSent at_ c delay) s (fun t => (t.obj c o).pend = none
      ∧ t.rd (E.CanObj.SENT c o) = min (2 ^ 32 - 1) (s.rd (E.CanObj.SENT c o) + 1) ∧ t.rd (E.CanObj.LAST_RESULT c o) = 0
      ∧ t.rd (E.CanObj.LAST_SENT_TB3 c o) = time96ns (s.instant at_)
      ∧ t.rd (E.Can.TX_FRAMES c) = min (2 ^ 64 - 1) (s.rd (E.Can.TX_FRAMES c) + 1)
      ∧ t.rd (E.Can.TEC c) = s.rd (E.Can.TEC c) - 1 ∧ t.now = s.instant at_
      ∧ Frame [.can, .ledger] [E.CanObj.SENT c o, E.CanObj.LAST_RESULT c o, E.CanObj.LAST_SENT_TB3 c o, E.Can.TX_FRAMES c, E.Can.TEC c,
          E.CanT.TDC_VALUE c, E.Can.CHANNEL_STATE c] [17 + 2 * c, 28] s t))

/-- Lost arbitration, transmit errors up to RETRY_LIMIT, collisions, bus-off and lifetimes. ARBITRATION_LOST counts ARB_RETRIES and
returns the frame to pending unchanged, or drops it with result 4 where it was aborted and 1 where its lifetime has elapsed.
TRANSMIT_ERROR with TEC at most 247 counts the error and adds 8 to TEC; while the frame's errors do not exceed RETRY_LIMIT the
frame is pending again with its data and one error more, else it is dropped with result 2, or 3 after a collision error. The error
that makes the run of collisions reach COLLISION_THRESHOLD reports the identifier. With TEC from 248 the channel is BUS_OFF, the
frame pending again with its error count as it was. LIFETIME_EXPIRY drops a frame not started with result 1. (10_can_channels
R339; 10_can_channels R341; 10_can_channels R342; 10_can_channels R343; 10_can_channels R344) -/
def Obligations.CanAttemptsThatFailAreRetriedOrDropped : Prop :=
  (∀ (s : State) (at_ c : Nat), c < 4 → ∀ o, (s.chan c).inTx = some o → o < 32 → ∀ p, (s.obj c o).pend = some p → (s.obj c o).next = false →
      ∀ ex, ex = (s.advance at_).expired c o p →
    Completes (.arbitrationLost at_ c) s (fun t => (t.chan c).inTx = none ∧ (t.chan c).busy = true
      ∧ t.rd (E.CanObj.ARB_RETRIES c o) = min (2 ^ 32 - 1) (s.rd (E.CanObj.ARB_RETRIES c o) + 1)
      ∧ (t.obj c o).pend = (if p.abort || ex then none else some { p with started := false })
      ∧ (p.abort = true ∨ ex = true → t.rd (E.CanObj.LAST_RESULT c o) = (if p.abort then 4 else 1)
          ∧ t.rd (E.CanObj.DROPPED c o) = min (2 ^ 32 - 1) (s.rd (E.CanObj.DROPPED c o) + 1))
      ∧ (p.abort = false → ex = false → t.rd (E.CanObj.LAST_RESULT c o) = s.rd (E.CanObj.LAST_RESULT c o)
          ∧ t.rd (E.CanObj.DROPPED c o) = s.rd (E.CanObj.DROPPED c o))
      ∧ t.now = s.instant at_
      ∧ Frame [.can] [E.CanObj.ARB_RETRIES c o, E.CanObj.LAST_RESULT c o, E.CanObj.DROPPED c o] [17 + 2 * c] s t))
  ∧ (∀ (s : State) (at_ c kind : Nat) (coll : Bool), c < 4 → kind < 256 → ∀ o, (s.chan c).inTx = some o → o < 32 → ∀ p, (s.obj c o).pend = some p →
      (s.obj c o).next = false → p.abort = false → (s.advance at_).expired c o p = false → s.rd (E.Can.TEC c) ≤ 247 →
      ∀ e, e = [E.Can.ERROR_FRAMES c, E.Can.LAST_ERROR c, E.Can.TEC c, E.Can.CHANNEL_STATE c, E.Can.COLLISION_ID c, E.Can.COLLISIONS c,
        E.CanObj.ERROR_RETRIES c o, E.CanObj.LAST_RESULT c o, E.CanObj.DROPPED c o] →
    Completes (.transmitError at_ c kind coll false) s (fun t => t.rd (E.Can.LAST_ERROR c) = kind
      ∧ t.rd (E.Can.ERROR_FRAMES c) = min (2 ^ 32 - 1) (s.rd (E.Can.ERROR_FRAMES c) + 1) ∧ t.rd (E.Can.TEC c) = s.rd (E.Can.TEC c) + 8
      ∧ (p.errors < s.rd (E.CanObj.RETRY_LIMIT c o) → (t.obj c o).pend.map (fun q => (q.data, q.since, q.errors)) = some (p.data, p.since, p.errors + 1)
          ∧ t.rd (E.CanObj.ERROR_RETRIES c o) = min (2 ^ 32 - 1) (s.rd (E.CanObj.ERROR_RETRIES c o) + 1))
      ∧ (s.rd (E.CanObj.RETRY_LIMIT c o) ≤ p.errors → (t.obj c o).pend = none ∧ t.rd (E.CanObj.LAST_RESULT c o) = (if coll then 3 else 2)
          ∧ t.rd (E.CanObj.DROPPED c o) = min (2 ^ 32 - 1) (s.rd (E.CanObj.DROPPED c o) + 1))
      ∧ t.rd (E.Can.COLLISIONS c) = (if coll = true ∧ (s.obj c o).collRun + 1 = s.rd (E.Can.COLLISION_THRESHOLD c)
          then min (2 ^ 32 - 1) (s.rd (E.Can.COLLISIONS c) + 1) else s.rd (E.Can.COLLISIONS c))
      ∧ t.now = s.instant at_ ∧ Frame [.can, .ledger] e [17 + 2 * c, 28] s t))
  ∧ (∀ (s : State) (at_ c kind : Nat), c < 4 → kind < 256 → ∀ o, (s.chan c).inTx = some o → o < 32 → ∀ p, (s.obj c o).pend = some p →
      (s.obj c o).next = false → p.abort = false → (s.advance at_).expired c o p = false → 248 ≤ s.rd (E.Can.TEC c) →
    Completes (.transmitError at_ c kind false false) s (fun t => t.rd (E.Can.CHANNEL_STATE c) = 3 ∧ 255 < t.rd (E.Can.TEC c)
      ∧ t.rd (E.Can.BUSOFF_COUNT c) = min (2 ^ 32 - 1) (s.rd (E.Can.BUSOFF_COUNT c) + 1)
      ∧ t.rd (E.Can.LAST_BUSOFF c) = time96ns (s.instant at_)
      ∧ (t.obj c o).pend = some { p with started := false } ∧ (t.chan c).inTx = none
      ∧ t.now = s.instant at_ ∧ Frame [.can, .ledger] [E.Can.ERROR_FRAMES c, E.Can.LAST_ERROR c, E.Can.TEC c, E.Can.CHANNEL_STATE c,
          E.Can.BUSOFF_COUNT c, E.Can.LAST_BUSOFF c] [17 + 2 * c, 28] s t))
  ∧ (∀ (s : State) (at_ c o : Nat), c < 4 → o < 32 → ∀ p, (s.obj c o).pend = some p → p.started = false → s.rd (E.CanObj.LIFETIME c o) ≠ 0 →
      p.since + 1000 * s.rd (E.CanObj.LIFETIME c o) ≤ s.instant at_ →
    Completes (.lifetimeExpiry at_ c o) s (fun t => (t.obj c o).pend = none ∧ t.rd (E.CanObj.LAST_RESULT c o) = 1
      ∧ t.rd (E.CanObj.DROPPED c o) = min (2 ^ 32 - 1) (s.rd (E.CanObj.DROPPED c o) + 1)
      ∧ t.now = s.instant at_ ∧ Frame [.can] [E.CanObj.LAST_RESULT c o, E.CanObj.DROPPED c o] [17 + 2 * c] s t))

/-- Received CAN frames: filters, RXQ, FD exceptions and receive errors. CAN_FRAME_RECEIVED on an ACTIVE module's channel that takes
part, of a frame that matches a filter, counts RX_FRAMES and the hits of the lowest-numbered matching filter and, where RXQ has
room and lost no frame before, puts the frame's entry at the end of RXQ; one that matches none is counted in RX_FILTERED and
enters no ring, or is accepted with filter 0xFF under RX_ACCEPT_ALL. A frame with an own enabled identifier counts
FOREIGN_SAME_ID. An FD frame with FD_ENABLE false starts the protocol exception and counts FD_EXCEPTIONS. CAN_RECEIVE_ERROR counts
the error and stores its kind. OFF, an unintegrated, an excepted or a bus-off channel takes nothing. Receive error counts are the
model's (log 19). (10_can_channels R331; 10_can_channels R342; 10_can_channels R344; 10_can_channels R346; 10_can_channels R347) -/
def Obligations.CanFramesAreFilteredIntoRxq : Prop :=
  (∀ (s : State) (at_ c : Nat) (f : CanFrame), c < 4 → (s.chan c).mode ≠ 0 → (s.chan c).integrated = true → (s.chan c).exception = false →
      s.rd (E.Can.CHANNEL_STATE c) ≠ 3 → f.fdf = false ∨ (s.chan c).fd = true → s.active = true → (s.chan c).lost = 0 → s.fill (17 + 2 * c) < 64 →
      (∀ k, k < 16 → s.canFilter c f = some k ∨ (s.canFilter c f = none ∧ s.on (E.Can.RX_ACCEPT_ALL c) = true ∧ k = 15) →
        Completes (.canFrameReceived at_ c f) s (fun t => (t.ring (17 + 2 * c)).q.take ((s.ring (17 + 2 * c)).q.length + 1) = (s.ring (17 + 2 * c)).q
            ++ [.bytes (rxqEntry 1 (ofBool (decide (2 ^ 31 ≤ f.id)) + 2 * ofBool f.fdf + 4 * ofBool f.brs + 8 * ofBool f.esi + 16 * ofBool f.rtr)
                f.data.length (if s.canFilter c f = none then 0xFF else k) f.id f.sof f.data)]
          ∧ t.rd (E.Can.RX_FRAMES c) = min (2 ^ 64 - 1) (s.rd (E.Can.RX_FRAMES c) + 1)
          ∧ t.rd (E.CanF.FILTER_HITS c k) = (if s.canFilter c f = none then s.rd (E.CanF.FILTER_HITS c k)
              else min (2 ^ 32 - 1) (s.rd (E.CanF.FILTER_HITS c k) + 1))
          ∧ t.rd (E.Can.FOREIGN_SAME_ID c) = (if s.ownId c f.id then min (2 ^ 32 - 1) (s.rd (E.Can.FOREIGN_SAME_ID c) + 1)
              else s.rd (E.Can.FOREIGN_SAME_ID c))
          ∧ t.now = s.instant at_ ∧ Frame [.can, .ledger] [E.Can.RX_FRAMES c, E.CanF.FILTER_HITS c k, E.Can.FOREIGN_SAME_ID c, E.Can.REC c,
              E.Can.CHANNEL_STATE c] [17 + 2 * c, 28] s t))
      ∧ (s.canFilter c f = none → s.on (E.Can.RX_ACCEPT_ALL c) = false →
        Completes (.canFrameReceived at_ c f) s (fun t => t.rd (E.Can.RX_FILTERED c) = min (2 ^ 32 - 1) (s.rd (E.Can.RX_FILTERED c) + 1)
          ∧ t.rd (E.Can.RX_FRAMES c) = s.rd (E.Can.RX_FRAMES c)
          ∧ t.now = s.instant at_ ∧ Frame [.can, .ledger] [E.Can.RX_FILTERED c, E.Can.FOREIGN_SAME_ID c, E.Can.REC c,
              E.Can.CHANNEL_STATE c] [17 + 2 * c, 28] s t)))
  ∧ (∀ (s : State) (at_ c : Nat) (f : CanFrame), c < 4 → (s.chan c).mode ≠ 0 → (s.chan c).integrated = true → (s.chan c).exception = false →
      s.rd (E.Can.CHANNEL_STATE c) ≠ 3 → f.fdf = true → (s.chan c).fd = false →
    Completes (.canFrameReceived at_ c f) s (fun t => t.chan c = { s.chan c with exception := true }
      ∧ t.rd (E.Can.FD_EXCEPTIONS c) = min (2 ^ 32 - 1) (s.rd (E.Can.FD_EXCEPTIONS c) + 1)
      ∧ t.now = s.instant at_ ∧ Frame [.can] [E.Can.FD_EXCEPTIONS c] [] s t))
  ∧ (∀ (s : State) (at_ c kind : Nat) (dominant : Bool), c < 4 → kind < 256 → (s.chan c).mode ≠ 0 → (s.chan c).integrated = true →
      (s.chan c).exception = false → s.rd (E.Can.CHANNEL_STATE c) ≠ 3 →
    Completes (.canReceiveError at_ c kind dominant) s (fun t => t.rd (E.Can.LAST_ERROR c) = kind
      ∧ t.rd (E.Can.ERROR_FRAMES c) = min (2 ^ 32 - 1) (s.rd (E.Can.ERROR_FRAMES c) + 1)
      ∧ ((s.chan c).mode = 2 → t.rd (E.Can.REC c) = s.rd (E.Can.REC c))
      ∧ t.now = s.instant at_ ∧ Frame [.can, .ledger] [E.Can.ERROR_FRAMES c, E.Can.LAST_ERROR c, E.Can.REC c, E.Can.CHANNEL_STATE c]
          [17 + 2 * c, 28] s t))
  ∧ (∀ (s : State) (at_ c kind : Nat) (dominant : Bool) (f : CanFrame), c < 4 →
      (s.chan c).mode = 0 ∨ (s.chan c).integrated = false ∨ (s.chan c).exception = true ∨ s.rd (E.Can.CHANNEL_STATE c) = 3 →
    Completes (.canReceiveError at_ c kind dominant) s (fun t => t.now = s.instant at_ ∧ Frame [] [] [] s t)
      ∧ Completes (.canFrameReceived at_ c f) s (fun t => t.now = s.instant at_ ∧ Frame [] [] [] s t))

/-- Each diagnostic command of a digital channel sets or clears its own bit, and the condition under which it may set. DI_OPEN_WIRE,
DI_REVERSED, DO_OPEN_ON, DO_OPEN_OFF, DO_OFF_VOLTAGE, SHARE_FAULT and DO_OVERTEMP of a channel that exists complete and make their
bit of the channel's diagnostics equal to the observed condition. A condition that Table DIO-4 evaluates only in one state sets
its bit in that state only; clearing is not restricted. Every other bit of the channel's diagnostics stays, one FIELD_DIAG record
waits on the field side where the bit changed, and nothing else changes but the instant (DO_OVERTEMP is stated for the clearing,
whose setting trips the output). (11_field_digital_io Table DIO-4; 11_field_digital_io R359; 11_field_digital_io R364;
11_field_digital_io R367; 11_field_digital_io R374) -/
def Obligations.FieldDiagnosticsFollowTheObservation : Prop :=
  (∀ (s : State) (at_ i : Nat) (b : Bool), i < 64 →
    Completes (.diReversed at_ i b) s (fun t => bitOf (t.rd (E.Di.DI_DIAG i)) 1 = b
      ∧ (∀ k < 8, k ≠ 1 → bitOf (t.rd (E.Di.DI_DIAG i)) k = bitOf (s.rd (E.Di.DI_DIAG i)) k)
      ∧ t.field.diagOut.length = s.field.diagOut.length + ofBool (bitOf (s.rd (E.Di.DI_DIAG i)) 1 != b)
      ∧ t.now = s.instant at_ ∧ Frame [.field] [E.Di.DI_DIAG i] [] s t))
  ∧ (∀ (s : State) (at_ i : Nat) (b : Bool), i < 64 →
      (b = true → s.on (E.Di.LINE_MONITOR i) = true ∧ (s.dinp i).level = false) →
    Completes (.diOpenWire at_ i b) s (fun t => bitOf (t.rd (E.Di.DI_DIAG i)) 0 = b
      ∧ (∀ k < 8, k ≠ 0 → bitOf (t.rd (E.Di.DI_DIAG i)) k = bitOf (s.rd (E.Di.DI_DIAG i)) k)
      ∧ t.now = s.instant at_ ∧ Frame [.field] [E.Di.DI_DIAG i] [] s t))
  ∧ (∀ (s : State) (at_ o : Nat) (b : Bool), o < 64 →
      (b = true → (s.dout o).on = true ∧ s.rd (E.Do.OPEN_ON_CURRENT (s.leadOf o)) ≠ 0 ∧ s.suppressed o = false
        ∧ (s.dout o).changedAt + 100000000 ≤ s.instant at_) →
    Completes (.doOpenOn at_ o b) s (fun t => bitOf (t.dout o).diag 2 = b
      ∧ (∀ k, k ≠ 2 → bitOf (t.dout o).diag k = bitOf (s.dout o).diag k)
      ∧ t.now = s.instant at_ ∧ Frame [.field] [E.Do.DO_DIAG o, E.Do.DO_DIAG (s.leadOf o)] [] s t))
  ∧ (∀ (s : State) (at_ o : Nat) (b : Bool), o < 64 →
      (b = true → (s.dout o).on = false ∧ s.on (E.Do.OFF_DIAG (s.leadOf o)) = true ∧ s.suppressed o = false ∧ s.field.enable = true
        ∧ (s.dout o).changedAt + 100000000 ≤ s.instant at_) →
    Completes (.doOpenOff at_ o b) s (fun t => bitOf (t.dout o).diag 3 = b
      ∧ (∀ k, k ≠ 3 → bitOf (t.dout o).diag k = bitOf (s.dout o).diag k)
      ∧ t.now = s.instant at_ ∧ Frame [.field] [E.Do.DO_DIAG o, E.Do.DO_DIAG (s.leadOf o)] [] s t))
  ∧ (∀ (s : State) (at_ o : Nat) (b : Bool), o < 64 →
      (b = true → (s.dout o).on = false ∧ s.field.enable = true) →
    Completes (.doOffVoltage at_ o b) s (fun t => bitOf (t.dout o).diag 6 = b
      ∧ (∀ k, k ≠ 6 → bitOf (t.dout o).diag k = bitOf (s.dout o).diag k)
      ∧ t.now = s.instant at_ ∧ Frame [.field] [E.Do.DO_DIAG o, E.Do.DO_DIAG (s.leadOf o)] [] s t))
  ∧ (∀ (s : State) (at_ o : Nat) (b : Bool), o < 64 →
      (b = true → (s.bankNow o).2 ≠ 1 ∧ (s.dout o).on = true) →
    Completes (.shareFault at_ o b) s (fun t => bitOf (t.dout o).diag 5 = b
      ∧ (∀ k, k ≠ 5 → bitOf (t.dout o).diag k = bitOf (s.dout o).diag k)
      ∧ t.now = s.instant at_ ∧ Frame [.field] [E.Do.DO_DIAG o, E.Do.DO_DIAG (s.leadOf o)] [] s t))
  ∧ (∀ (s : State) (at_ o : Nat), o < 64 →
    Completes (.doOvertemp at_ o false) s (fun t => bitOf (t.dout o).diag 4 = false
      ∧ (∀ k, k ≠ 4 → bitOf (t.dout o).diag k = bitOf (s.dout o).diag k)
      ∧ t.now = s.instant at_ ∧ Frame [.field] [E.Do.DO_DIAG o, E.Do.DO_DIAG (s.leadOf o)] [] s t))

/-- A protective trip switches the whole bank off, and AUTO_RETRY and TRIP_RESET end it. DO_OVERLOAD of an output that is on and
DO_OVERTEMP with the junction hot, where the bank has not tripped, complete with every member of the bank tripped and off,
OVERLOAD or OVERTEMP set in the channel's own diagnostics and TRIPS of the lead one higher, saturating. AUTO_RETRY after
RETRY_DELAY (and, for OVERTEMP, once every member has cooled) completes with no member tripped and OVERLOAD and SHORT clear. An
accepted TRIP_RESET completes with its output waiting for the next field frame; a valid frame that carries it to a latched trip of
a lead, while commands reach the field side, completes with no member tripped and OVERLOAD and SHORT clear. The frames name the
members' entries; the latches (DO_COMMANDED) stay. (11_field_digital_io R364; 11_field_digital_io R367; 11_field_digital_io R368;
11_field_digital_io R378) -/
def Obligations.TripsSwitchTheWholeBank : Prop :=
  (∀ (s : State) (at_ o : Nat) (atLimit low : Bool), o < 64 → (s.dout o).on = true → (s.dout (s.leadOf o)).tripped = false →
    Completes (.doOverload at_ o atLimit low) s (fun t =>
      (∀ k ∈ members (s.bankNow o), (t.dout k).tripped = true ∧ (t.dout k).on = false)
      ∧ bitOf (t.dout o).diag 0 = true ∧ bitOf (t.dout o).diag 1 = (bitOf (s.dout o).diag 1 || (atLimit && low))
      ∧ t.rd (E.Do.TRIPS (s.leadOf o)) = min (2 ^ 32 - 1) (s.rd (E.Do.TRIPS (s.leadOf o)) + 1)
      ∧ t.now = s.instant at_
      ∧ Frame [.field] (E.Do.TRIPS (s.leadOf o) :: (members (s.bankNow o)).flatMap
          (fun k => [E.Do.DO_DIAG k, E.Do.DO_OUTPUT_STATE k, E.Do.SWITCHINGS k])) [] s t))
  ∧ (∀ (s : State) (at_ o : Nat), o < 64 → (s.dout (s.leadOf o)).tripped = false →
    Completes (.doOvertemp at_ o true) s (fun t =>
      (∀ k ∈ members (s.bankNow o), (t.dout k).tripped = true ∧ (t.dout k).hotTrip = true ∧ (t.dout k).on = false)
      ∧ bitOf (t.dout o).diag 4 = true
      ∧ t.rd (E.Do.TRIPS (s.leadOf o)) = min (2 ^ 32 - 1) (s.rd (E.Do.TRIPS (s.leadOf o)) + 1)
      ∧ t.now = s.instant at_
      ∧ Frame [.field] (E.Do.TRIPS (s.leadOf o) :: (members (s.bankNow o)).flatMap
          (fun k => [E.Do.DO_DIAG k, E.Do.DO_OUTPUT_STATE k, E.Do.SWITCHINGS k])) [] s t))
  ∧ (∀ (s : State) (at_ o : Nat), o < 64 → (s.dout (s.leadOf o)).tripped = true → (s.dout (s.leadOf o)).latched = false →
      (∀ k ∈ members (s.bankNow o), bitOf (s.dout k).diag 4 = false) →
      (s.dout (s.leadOf o)).tripAt + 1000000 * s.rd (E.Do.RETRY_DELAY (s.leadOf o)) ≤ s.instant at_ →
    Completes (.autoRetry at_ o) s (fun t =>
      (∀ k ∈ members (s.bankNow o), (t.dout k).tripped = false ∧ bitOf (t.dout k).diag 0 = false ∧ bitOf (t.dout k).diag 1 = false)
      ∧ t.now = s.instant at_
      ∧ Frame [.field] ((members (s.bankNow o)).flatMap (fun k => [E.Do.DO_DIAG k, E.Do.DO_OUTPUT_STATE k, E.Do.SWITCHINGS k])) [] s t))
  ∧ (∀ (s : State) (at_ o : Nat) (w : Writer), o < 64 → s.accepts at_ w (E.Do.TRIP_RESET o).key .bool (.num 1) →
    Completes (.tripReset at_ w o) s (fun t => t.odStatus = 0 ∧ t.field = { s.field with resets := s.field.resets ++ [o] }
      ∧ t.now = s.instant at_ ∧ Frame [.field, .answer] genEnts [] s t))
  ∧ (∀ (s : State) (at_ o : Nat) (okX okY : Bool), s.field.powered = true → s.fieldFollows = true → s.field.resets = [o] → o < 64 →
      s.leadOf o = o → (s.dout o).tripped = true → (s.dout o).latched = true →
    Completes (.fieldFrameToField at_ true okX okY []) s (fun t => t.field.resets = []
      ∧ (∀ k ∈ members (s.bankNow o), (t.dout k).tripped = false ∧ bitOf (t.dout k).diag 0 = false ∧ bitOf (t.dout k).diag 1 = false)
      ∧ t.now = s.instant at_ ∧ Keeps [.field, .motion, .safety, .blocks] s t))

/-- Group supplies, the silence timer, the latch path, output profiles and discarded field frames. GROUP_STATE_CHANGE to another state
sets GROUP_STATE, counts a departure from OK in GROUP_FAULTS, saturating, sets GROUP_FAULT of every channel exactly in a state
other than OK, and trips every channel's bank in OVERTEMP. SILENCE_TIMEOUT after the time without a valid frame enters SILENCE:
every output whose field enable and trips allow it stands at its safe state, off where that is OFF. LATCH_EDGE on DI00 to DI23
stamps LAST_EDGE_TB3 to 20 ns. An accepted DO_PROFILE write is stored and retained. A field frame whose check fails is counted and
changes nothing else on the field side but its error run and its record; a valid one restarts the silence timer. A valid frame to
the logic side shows every filtered input change that waits (in a frame between two samples of the inputs, exactly those) and
hands over every waiting diagnostic record; one that fails its check shows nothing. The instants are those of the commands.
(11_field_digital_io R360; 11_field_digital_io R363; 11_field_digital_io R369; 11_field_digital_io R370; 11_field_digital_io R371;
11_field_digital_io R372) -/
def Obligations.FieldSideFollowsItsSuppliesAndItsLink : Prop :=
  (∀ (s : State) (at_ g st : Nat), g < 8 → st ≤ 5 → s.rd (E.Grp.GROUP_STATE g) ≠ st →
    Completes (.groupStateChange at_ g st) s (fun t => t.rd (E.Grp.GROUP_STATE g) = st
      ∧ t.rd (E.Grp.GROUP_FAULTS g) = (if s.rd (E.Grp.GROUP_STATE g) = 0 then min (2 ^ 32 - 1) (s.rd (E.Grp.GROUP_FAULTS g) + 1)
          else s.rd (E.Grp.GROUP_FAULTS g))
      ∧ (∀ k < 8, bitOf (t.dout (8 * g + k)).diag 8 = (st != 0))
      ∧ (st = 5 → ∀ k < 8, (t.dout (s.leadOf (8 * g + k))).tripped = true)
      ∧ t.now = s.instant at_
      ∧ Frame [.field] ([E.Grp.GROUP_STATE g, E.Grp.GROUP_FAULTS g] ++ (List.range 8).flatMap (fun k =>
          [E.Do.DO_DIAG (8 * g + k), E.Do.DO_OUTPUT_STATE (8 * g + k), E.Do.SWITCHINGS (8 * g + k), E.Do.TRIPS (8 * g + k)])) [] s t))
  ∧ (∀ (s : State) (at_ : Nat), s.field.powered = true → s.field.silence = false → s.field.hold = false →
      s.field.lastValid + 1000000 * s.field.timeout ≤ s.instant at_ →
    Completes (.silenceTimeout at_) s (fun t => t.field.silence = true
      ∧ t.rd E.Grp.SILENCE_EVENTS = min (2 ^ 32 - 1) (s.rd E.Grp.SILENCE_EVENTS + 1)
      ∧ t.rd E.Grp.LAST_SILENCE_TB3 = time96ns (s.instant at_)
      ∧ (∀ o < 64, s.rd (E.Do.DO_SAFE_STATE (s.leadOf o)) = 0 → (t.dout o).on = false)
      ∧ t.now = s.instant at_ ∧ Keeps [.field, .motion, .safety, .blocks] s t))
  ∧ (∀ (s : State) (at_ i : Nat) (rising : Bool), i < 24 → s.field.powered = true →
    Completes (.latchEdge at_ i rising) s (fun t => t.rd (E.Di.LAST_EDGE_TB3 i) = time96ns ((s.instant at_ / 20 * 20 : Nat))
      ∧ t.now = s.instant at_ ∧ Frame [.field, .motion] [E.Di.LAST_EDGE_TB3 i] [] s t))
  ∧ (∀ (s : State) (at_ o v : Nat) (w : Writer), o < 64 → s.accepts at_ w (E.Do.DO_PROFILE o).key .u8 (.num v) →
    Completes (.doProfileWrite at_ w o v) s (StoresRetained (E.Do.DO_PROFILE o) v s at_))
  ∧ (∀ (s : State) (at_ : Nat) (okX okY : Bool) (demag : List (Nat × Nat)), s.field.powered = true →
    Completes (.fieldFrameToField at_ false okX okY demag) s (fun t =>
      t.rd E.Grp.FIELD_FRAME_ERRORS = min (2 ^ 32 - 1) (s.rd E.Grp.FIELD_FRAME_ERRORS + 1)
      ∧ t.field = { s.field with errors := min 255 (s.field.errors + 1), diagOut := t.field.diagOut }
      ∧ t.now = s.instant at_ ∧ Frame [.field] [E.Grp.FIELD_FRAME_ERRORS] [] s t))
  ∧ (∀ (s : State) (at_ : Nat) (okX okY : Bool), s.field.powered = true →
    Completes (.fieldFrameToField at_ true okX okY []) s (fun t => t.field.lastValid = s.instant at_ ∧ t.field.errors = 0
      ∧ t.field.timeout = s.rd E.Grp.SILENCE_TIMEOUT ∧ t.now = s.instant at_ ∧ Keeps [.field, .motion, .safety, .blocks] s t))
  ∧ (∀ (s : State) (at_ : Nat) (f : FieldIn), s.field.powered = true →
    Completes (.fieldFrameToLogic at_ true f) s (fun t => t.field.diagOut = []
      ∧ (∀ i < 64, (t.dinp i).changes = 0)
      ∧ (∀ i < 64, s.instant at_ / 50000 % 2 = 1 → t.dinp i = { s.dinp i with changes := 0 }
          ∧ t.rd (E.Di.DI_STATE i) = (if (s.dinp i).changes = 0 then s.rd (E.Di.DI_STATE i) else ofBool (s.dinp i).level))
      ∧ t.now = s.instant at_ ∧ Keeps [.field, .motion, .safety, .ledger] s t))
  ∧ (∀ (s : State) (at_ : Nat) (f : FieldIn), s.field.powered = true →
    Completes (.fieldFrameToLogic at_ false f) s (fun t => t.field.frameOk = false
      ∧ (∀ i < 64, t.rd (E.Di.DI_STATE i) = s.rd (E.Di.DI_STATE i))
      ∧ t.now = s.instant at_ ∧ Keeps [.field, .motion, .safety] s t))

/-- Conversions, diagnostics, transmitter supplies and the burden bypass of the current-loop inputs. AI_CONVERSION at a multiple of
250 µs enters the trimmed current at the head of the last 400 conversions, makes the mean of AI_AVERAGE of them, clamped to -0.5
mA to 25 mA, the value of the channel, and shows supply voltage and stage temperature. AI_OPEN_WIRE (set only where OPEN_THRESHOLD
and the channel allow it), AI_SHORT and AI_OVER_RANGE make their bit equal to the observation and leave the other bits;
AI_REVERSED enters the cause; AI_SUPPLY_OFF after 1 s of SHORT switches the supply off and SUPPLY_RETRY after 5 s on again;
AI_THERMAL_STEP steps, switches off or recovers by its zone; BYPASS_OPEN 200 µs after the field enable brings every burden into
circuit and starts its settling. Each frame names the entries that may change. (12_field_analog_loops R381; 12_field_analog_loops
R383; 12_field_analog_loops R384; 12_field_analog_loops R386; 12_field_analog_loops R387; 12_field_analog_loops R388;
12_field_analog_loops R397) -/
def Obligations.CurrentInputsFollowTheirConditions : Prop :=
  (∀ (s : State) (at_ i : Nat) (m : AiMeas), i < 32 → s.instant at_ % 250000 = 0 → s.field.powered = true →
    Completes (.aiConversion at_ i m) s (fun t =>
      (t.ain i).conv = ((s.trimmed i m.cal) :: (s.ain i).conv).take 400
      ∧ (t.ain i).value = clampF (milli (-500)) (milli 25000) (meanF ((t.ain i).conv.take (s.rd (E.Ai.AI_AVERAGE i))))
      ∧ (t.ain i).converter = !m.checks ∧ (t.ain i).settle = (s.ain i).settle - 1
      ∧ t.rd (E.Ai.SUPPLY_VOLTAGE i) = m.supply % 2 ^ 32 ∧ t.rd (E.Ai.SUPPLY_STAGE_TEMP i) = m.temp % 2 ^ 32
      ∧ t.rd (E.Ai.AI_FAULT_CAUSE i) = t.aiCause i ∧ t.now = s.instant at_
      ∧ Frame [.field] [E.Ai.SUPPLY_VOLTAGE i, E.Ai.SUPPLY_STAGE_TEMP i, E.Ana.TX_POWER, E.Ai.SUPPLY_TARGET i, E.Ai.AI_DIAG i,
          E.Ai.AI_FAULT_CAUSE i, E.Ai.FAULT_EVENTS i] [] s t))
  ∧ (∀ (s : State) (at_ i : Nat) (b : Bool), i < 32 →
      (b = true → fmt32.isZero (s.rd (E.Ai.OPEN_THRESHOLD i)) = false ∧ s.aiCause i = 0) →
    Completes (.aiOpenWire at_ i b) s (fun t => bitOf (t.ain i).diag 0 = b
      ∧ (∀ k, k ≠ 0 → bitOf (t.ain i).diag k = bitOf (s.ain i).diag k)
      ∧ t.now = s.instant at_ ∧ Frame [.field] [E.Ai.AI_DIAG i, E.Ai.AI_FAULT_CAUSE i, E.Ai.FAULT_EVENTS i] [] s t))
  ∧ (∀ (s : State) (at_ i : Nat) (b : Bool), i < 32 →
    Completes (.aiOverRange at_ i b) s (fun t => bitOf (t.ain i).diag 2 = b
      ∧ (∀ k, k ≠ 2 → bitOf (t.ain i).diag k = bitOf (s.ain i).diag k)
      ∧ t.now = s.instant at_ ∧ Frame [.field] [E.Ai.AI_DIAG i, E.Ai.AI_FAULT_CAUSE i, E.Ai.FAULT_EVENTS i] [] s t))
  ∧ (∀ (s : State) (at_ i : Nat) (b : Bool), i < 32 →
    Completes (.aiShort at_ i b) s (fun t => bitOf (t.ain i).diag 1 = b
      ∧ (∀ k, k ≠ 1 → bitOf (t.ain i).diag k = bitOf (s.ain i).diag k)
      ∧ (t.ain i).shortAt = (if b then some ((s.ain i).shortAt.getD (s.instant at_)) else none)
      ∧ t.now = s.instant at_ ∧ Frame [.field] [E.Ai.AI_DIAG i, E.Ai.AI_FAULT_CAUSE i, E.Ai.FAULT_EVENTS i] [] s t))
  ∧ (∀ (s : State) (at_ i : Nat) (b : Bool), i < 32 →
    Completes (.aiReversed at_ i b) s (fun t => t.ain i = { s.ain i with reversed := b } ∧ t.rd (E.Ai.AI_FAULT_CAUSE i) = t.aiCause i
      ∧ bitOf (t.rd (E.Ai.AI_DIAG i)) 3 = (t.aiCause i != 0)
      ∧ t.now = s.instant at_ ∧ Frame [.field] [E.Ai.AI_DIAG i, E.Ai.AI_FAULT_CAUSE i, E.Ai.FAULT_EVENTS i] [] s t))
  ∧ (∀ (s : State) (at_ i : Nat), i < 32 → ∀ t0, (s.ain i).shortAt = some t0 → t0 + 1000000000 ≤ s.instant at_ → (s.ain i).offAt = none →
    Completes (.aiSupplyOff at_ i) s (fun t => t.ain i = { s.ain i with offAt := some (s.instant at_) }
      ∧ t.rd (E.Ai.AI_FAULT_CAUSE i) = t.aiCause i ∧ t.aiCause i ≠ 0
      ∧ t.now = s.instant at_ ∧ Frame [.field] [E.Ai.AI_DIAG i, E.Ai.AI_FAULT_CAUSE i, E.Ai.FAULT_EVENTS i] [] s t))
  ∧ (∀ (s : State) (at_ i : Nat), i < 32 → ∀ t0, (s.ain i).offAt = some t0 → t0 + 5000000000 ≤ s.instant at_ →
    Completes (.supplyRetry at_ i) s (fun t => (t.ain i).offAt = none ∧ t.rd (E.Ai.AI_FAULT_CAUSE i) = t.aiCause i
      ∧ (t.ain i).shortAt = (s.ain i).shortAt.map (fun _ => s.instant at_)
      ∧ t.now = s.instant at_
      ∧ Frame [.field] [E.Ai.SUPPLY_TARGET i, E.Ai.AI_DIAG i, E.Ai.AI_FAULT_CAUSE i, E.Ai.FAULT_EVENTS i] [] s t))
  ∧ (∀ (s : State) (at_ i zone : Nat), i < 32 → (zone = 2 → (s.ain i).stepAt + 100000000 ≤ s.instant at_) →
    Completes (.aiThermalStep at_ i zone) s (fun t =>
      (t.ain i).hotOff = (if zone = 3 then true else if zone = 1 ∨ zone = 2 then (s.ain i).hotOff else false)
      ∧ (t.ain i).steps = (if zone = 2 then min 36 ((s.ain i).steps + 1) else if zone = 1 ∨ zone = 3 then (s.ain i).steps else 0)
      ∧ bitOf (t.ain i).diag 4 = (if zone = 1 then bitOf (s.ain i).diag 4 else zone == 2 || zone == 3)
      ∧ t.now = s.instant at_
      ∧ Frame [.field] [E.Ai.SUPPLY_TARGET i, E.Ai.AI_DIAG i, E.Ai.AI_FAULT_CAUSE i, E.Ai.FAULT_EVENTS i] [] s t))
  ∧ (∀ (s : State) (at_ : Nat), s.field.enable = true → s.field.bypassOpen = false → s.field.enableAt + 200000 ≤ s.instant at_ →
    Completes (.bypassOpen at_) s (fun t => t.field.bypassOpen = true ∧ t.rd E.Ana.BURDEN_IN_CIRCUIT = 0xFFFFFFFF
      ∧ (∀ i < 32, t.ain i = { s.ain i with settle := s.rd (E.Ai.AI_AVERAGE i) } ∧ t.rd (E.Ai.AI_FAULT_CAUSE i) = t.aiCause i)
      ∧ t.now = s.instant at_
      ∧ Frame [.field] ([E.Ana.BURDEN_IN_CIRCUIT, E.Ana.ANALOG_STATE] ++ (List.range 32).flatMap
          (fun i => [E.Ai.AI_DIAG i, E.Ai.AI_FAULT_CAUSE i, E.Ai.FAULT_EVENTS i])) [] s t))

/-- The trim capture of an input: first point, second point, abandonment and completion. An accepted TRIM_CAPTURE 1 opens a capture of
the first point, 2 turns it to the second with no values, 3 abandons it. TRIM_POINT_DONE with 400 conversions ends the capture as
unstable where they spread by more than 0.004 mA; else it keeps the mean of the first point, or computes zero and span from both
means, applies and records them where they lie in range and reports the failure where they do not. TRIM_STATE shows each outcome.
(12_field_analog_loops R389; 12_field_analog_loops R390; 12_field_analog_loops R391) -/
def Obligations.InputTrimsRunInTwoPoints : Prop :=
  (∀ (s : State) (at_ i : Nat) (w : Writer), i < 32 → s.accepts at_ w (E.Ai.TRIM_CAPTURE i).key .u8 (.num 1) →
    Completes (.trimCaptureFirst at_ w i) s (fun t => t.odStatus = 0
      ∧ (t.ain i).capture = some { point := 1, node := w.node } ∧ t.rd (E.Ai.TRIM_STATE i) = 0
      ∧ t.now = s.instant at_ ∧ Frame [.answer, .field] (E.Ai.TRIM_STATE i :: genEnts) [] s t))
  ∧ (∀ (s : State) (at_ i : Nat) (w : Writer), i < 32 → s.accepts at_ w (E.Ai.TRIM_CAPTURE i).key .u8 (.num 2) →
    Completes (.trimCaptureSecond at_ w i) s (fun t => t.odStatus = 0 ∧ (t.ain i).capture.isSome = true
      ∧ (t.ain i).capture = (s.ain i).capture.map (fun c => { c with point := 2, vals := [], running := true, node := w.node })
      ∧ t.now = s.instant at_ ∧ Frame [.answer, .field] genEnts [] s t))
  ∧ (∀ (s : State) (at_ i : Nat) (w : Writer), i < 32 → s.accepts at_ w (E.Ai.TRIM_CAPTURE i).key .u8 (.num 3) →
    Completes (.trimCaptureAbandon at_ w i) s (fun t => t.odStatus = 0 ∧ (t.ain i).capture = none ∧ t.rd (E.Ai.TRIM_STATE i) = 0
      ∧ t.now = s.instant at_ ∧ Frame [.answer, .field] (E.Ai.TRIM_STATE i :: genEnts) [] s t))
  ∧ (∀ (s : State) (at_ i : Nat), i < 32 → ∀ c, (s.ain i).capture = some c → c.running = true → 400 ≤ c.vals.length →
      unstable c.vals = true →
    Completes (.trimPointDone at_ i) s (fun t => (t.ain i).capture = none ∧ t.rd (E.Ai.TRIM_STATE i) = 3
      ∧ t.now = s.instant at_ ∧ Frame [.field] [E.Ai.TRIM_STATE i] [] s t))
  ∧ (∀ (s : State) (at_ i : Nat), i < 32 → ∀ c, (s.ain i).capture = some c → c.running = true → 400 ≤ c.vals.length →
      unstable c.vals = false → c.point = 1 →
    Completes (.trimPointDone at_ i) s (fun t =>
      (t.ain i).capture = some { c with first := some (meanF c.vals), vals := [], running := false } ∧ t.rd (E.Ai.TRIM_STATE i) = 1
      ∧ t.now = s.instant at_ ∧ Frame [.field] [E.Ai.TRIM_STATE i] [] s t))
  ∧ (∀ (s : State) (at_ i : Nat), i < 32 → ∀ c, (s.ain i).capture = some c → c.running = true →
      400 ≤ c.vals.length → unstable c.vals = false → c.point = 2 → ∀ m4, c.first = some m4 →
      ∀ span, span = fmt32.div (milli 16000) (fmt32.sub (meanF c.vals) m4) → ∀ offs, offs = fmt32.sub m4 (fmt32.div (milli 4000) span) →
    Completes (.trimPointDone at_ i) s (fun t => (t.ain i).capture = none
      ∧ t.rd (E.Ai.TRIM_STATE i) = (if trimOk offs span then 2 else 4)
      ∧ (trimOk offs span = true → t.rd (E.Ai.TRIM_ZERO i) = offs % 2 ^ 32 ∧ t.rd (E.Ai.TRIM_SPAN i) = span % 2 ^ 32)
      ∧ t.now = s.instant at_
      ∧ Frame [.field, .blocks, .ledger] [E.Ai.TRIM_STATE i, E.Ai.TRIM_ZERO i, E.Ai.TRIM_SPAN i, E.Restore.RETAINED_WRITES] [28] s t
      ∧ (trimOk offs span = false → Frame [.field] [E.Ai.TRIM_STATE i] [] s t)))

/-- The trim of a current output: driving 4 mA and 20 mA, the readings, applying and abandoning. An accepted AO_TRIM_STEP 1 opens a
trim that drives 4 mA, 2 drives 20 mA, 4 abandons it; AO_TRIM_READING keeps the reading of the point being driven; AO_TRIM_STEP 3
ends the trim and, where zero and span computed from both readings lie in range, stores them (TRIM_STATE 2), and else reports 4.
While the field enable is asserted, the output is not shed and not hot, the output itself stands at 4 mA or 20 mA as driven. Each
frame names the entries that may change. (12_field_analog_loops R389; 12_field_analog_loops R392) -/
def Obligations.OutputTrimsDriveAndApply : Prop :=
  (∀ (s : State) (at_ o : Nat) (w : Writer), o < 16 → s.accepts at_ w (E.Ao.AO_TRIM_STEP o).key .u8 (.num 1) →
    Completes (.aoTrimDrive4 at_ w o) s (fun t => t.odStatus = 0
      ∧ (t.aout o).capture = some { point := 1, node := w.node } ∧ t.rd (E.Ao.AO_TRIM_STATE o) = 0
      ∧ (s.field.powered = true → s.field.enable = true → s.field.shed = false → bitOf (s.aout o).diag 3 = false →
          (t.aout o).out = milli 4000 ∧ t.rd (E.Ao.AO_OUTPUT_STATE o) = 4)
      ∧ t.now = s.instant at_
      ∧ Frame [.answer, .field] ([E.Ao.AO_TRIM_STATE o, E.Ao.AO_OUTPUT_STATE o] ++ genEnts) [] s t))
  ∧ (∀ (s : State) (at_ o : Nat) (w : Writer), o < 16 → s.accepts at_ w (E.Ao.AO_TRIM_STEP o).key .u8 (.num 2) →
    Completes (.aoTrimDrive20 at_ w o) s (fun t => t.odStatus = 0 ∧ (t.aout o).capture.isSome = true
      ∧ (t.aout o).capture = (s.aout o).capture.map (fun c => { c with point := 2, node := w.node })
      ∧ (s.field.powered = true → s.field.enable = true → s.field.shed = false → bitOf (s.aout o).diag 3 = false →
          (t.aout o).out = milli 20000 ∧ t.rd (E.Ao.AO_OUTPUT_STATE o) = 4)
      ∧ t.now = s.instant at_ ∧ Frame [.answer, .field] (E.Ao.AO_OUTPUT_STATE o :: genEnts) [] s t))
  ∧ (∀ (s : State) (at_ o : Nat) (w : Writer), o < 16 →
      s.accepts at_ w (E.Ao.AO_TRIM_STEP o).key .u8 (.num 3) →
      ∀ c, (s.aout o).capture = some c → ∀ r1, c.r1 = some r1 → ∀ r2, c.r2 = some r2 →
      ∀ a, a = fmt32.div (fmt32.sub r2 r1) (milli 16000) → ∀ span, span = fmt32.div (milli 1000) a →
      ∀ offs, offs = fmt32.neg (fmt32.div (fmt32.sub r1 (fmt32.mul (milli 4000) a)) a) →
    Completes (.aoTrimApply at_ w o) s (fun t => t.odStatus = 0 ∧ (t.aout o).capture = none
      ∧ t.rd (E.Ao.AO_TRIM_STATE o) = (if trimOk offs span then 2 else 4)
      ∧ (trimOk offs span = true → t.rd (E.Ao.AO_TRIM_ZERO o) = offs % 2 ^ 32 ∧ t.rd (E.Ao.AO_TRIM_SPAN o) = span % 2 ^ 32)
      ∧ t.now = s.instant at_
      ∧ Frame [.answer, .field, .blocks, .ledger] ([E.Ao.AO_TRIM_STATE o, E.Ao.AO_OUTPUT_STATE o, E.Ao.AO_TRIM_ZERO o,
          E.Ao.AO_TRIM_SPAN o, E.Restore.RETAINED_WRITES] ++ genEnts) [28] s t))
  ∧ (∀ (s : State) (at_ o : Nat) (w : Writer), o < 16 → s.accepts at_ w (E.Ao.AO_TRIM_STEP o).key .u8 (.num 4) →
    Completes (.aoTrimAbandon at_ w o) s (fun t => t.odStatus = 0 ∧ (t.aout o).capture = none ∧ t.rd (E.Ao.AO_TRIM_STATE o) = 0
      ∧ t.now = s.instant at_
      ∧ Frame [.answer, .field] ([E.Ao.AO_TRIM_STATE o, E.Ao.AO_OUTPUT_STATE o] ++ genEnts) [] s t))
  ∧ (∀ (s : State) (at_ o v : Nat) (w : Writer), o < 16 → s.accepts at_ w (E.Ao.AO_TRIM_READING o).key .f32 (.num v) →
      ∀ c, (s.aout o).capture = some c →
    Completes (.aoTrimReading at_ w o v) s (fun t => t.odStatus = 0
      ∧ (t.aout o).capture = some (if c.point = 1 then { c with r1 := some v } else { c with r2 := some v })
      ∧ t.rd (E.Ao.AO_TRIM_STATE o) = (if c.point = 1 then 1 else s.rd (E.Ao.AO_TRIM_STATE o))
      ∧ t.now = s.instant at_ ∧ Frame [.answer, .field] (E.Ao.AO_TRIM_STATE o :: genEnts) [] s t))

/-- Compliance, open wire, rail fault and over-temperature of the current outputs. AO_COMPLIANCE (set only without OPEN_WIRE) and
AO_OPEN_WIRE (set only at a command of 1.0 mA or more, clearing COMPLIANCE as it sets) make their bit of AO_DIAG equal to the
observation; a new COMPLIANCE counts one event, saturating. AO_RAIL_FAULT shows on every output. AO_OVERTEMP takes the output to 0
mA with state 3 while the enable is asserted and nothing is shed. Other bits stay, and each frame names the entries that may
change. (12_field_analog_loops R394; 12_field_analog_loops R395) -/
def Obligations.CurrentOutputsReportTheirConditions : Prop :=
  (∀ (s : State) (at_ o : Nat) (b : Bool), o < 16 → (b = true → bitOf (s.aout o).diag 1 = false) →
    Completes (.aoCompliance at_ o b) s (fun t => bitOf (t.aout o).diag 0 = b
      ∧ (∀ k, k ≠ 0 → bitOf (t.aout o).diag k = bitOf (s.aout o).diag k)
      ∧ t.rd (E.Ao.COMPLIANCE_EVENTS o) = (if b = true ∧ bitOf (s.aout o).diag 0 = false
          then min (2 ^ 32 - 1) (s.rd (E.Ao.COMPLIANCE_EVENTS o) + 1) else s.rd (E.Ao.COMPLIANCE_EVENTS o))
      ∧ t.now = s.instant at_ ∧ Frame [.field] [E.Ao.AO_DIAG o, E.Ao.COMPLIANCE_EVENTS o] [] s t))
  ∧ (∀ (s : State) (at_ o : Nat) (b : Bool), o < 16 → (b = true → fmt32.lt (s.rd (E.Ao.AO_COMMANDED o)) (milli 1000) = false) →
    Completes (.aoOpenWire at_ o b) s (fun t => bitOf (t.aout o).diag 1 = b
      ∧ bitOf (t.aout o).diag 0 = (if b then false else bitOf (s.aout o).diag 0)
      ∧ (∀ k, 2 ≤ k → bitOf (t.aout o).diag k = bitOf (s.aout o).diag k)
      ∧ t.now = s.instant at_ ∧ Frame [.field] [E.Ao.AO_DIAG o] [] s t))
  ∧ (∀ (s : State) (at_ : Nat) (b : Bool), bitOf (s.aout 0).diag 2 ≠ b →
    Completes (.aoRailFault at_ b) s (fun t => (∀ o < 16, t.aout o = { s.aout o with diag := setBit (s.aout o).diag 2 b }
        ∧ t.rd (E.Ao.AO_DIAG o) = setBit (s.aout o).diag 2 b % 2 ^ 16)
      ∧ t.field.diagOut.length = s.field.diagOut.length + 1
      ∧ t.now = s.instant at_ ∧ Frame [.field] ((List.range 16).map E.Ao.AO_DIAG) [] s t))
  ∧ (∀ (s : State) (at_ o : Nat) (b : Bool), o < 16 →
    Completes (.aoOvertemp at_ o b) s (fun t => bitOf (t.aout o).diag 3 = b
      ∧ (∀ k, k ≠ 3 → bitOf (t.aout o).diag k = bitOf (s.aout o).diag k)
      ∧ (b = true → s.field.powered = true → s.field.enable = true → s.field.shed = false →
          (t.aout o).out = 0 ∧ t.rd (E.Ao.AO_OUTPUT_STATE o) = 3)
      ∧ t.now = s.instant at_ ∧ Frame [.field] [E.Ao.AO_DIAG o, E.Ao.AO_OUTPUT_STATE o] [] s t))

/-- Each motion command is taken from MOTION_CMD in order and goes to its axis with a coming field frame. With a command of its own
code at the front of MOTION_CMD (ring 42), whose source may command the axis and whose fields are in range, each of MOVE_ABS,
MOVE_REL, MOVE_VEL, AXIS_STOP, AXIS_HOME, AXIS_ABORT, AXIS_ENABLE, AXIS_DISABLE and LATCH_ARM completes: the entry leaves the ring
and is on its way to the axis with the first field frame that starts at least 5 µs later; no other axis, ring or entry changes. An
entry out of range, or of a source that may not command the axis, leaves the ring, is counted in CMD_REJECTS, saturating, and
reaches no axis. No producer waits on ring 42, whose policy refuses. (13_stepper_axes R407; 13_stepper_axes R408; 13_stepper_axes
R410) -/
def Obligations.MotionUnitTakesTheFrontCommand : Prop :=
  (∀ (s : State) (at_ : Nat) (c : MotionCmd) (rest : List RingEntry), (s.ring 42).q = .motion c :: rest → (s.ring 42).waiting = [] →
      s.mayCommand c = true → cmdOk c = true →
    let good := fun t : State => (t.ring 42).q = rest
      ∧ t.ax c.axis = { s.ax c.axis with transit := (s.ax c.axis).transit ++ [(c, ceilDiv (s.instant at_ + 5000) 50000 * 50000)] }
      ∧ (∀ a, a ≠ c.axis → t.ax a = s.ax a) ∧ t.now = s.instant at_ ∧ Frame [.motion] [] [42] s t
    (c.command = 1 → Completes (.moveAbs at_) s good) ∧ (c.command = 2 → Completes (.moveRel at_) s good)
    ∧ (c.command = 3 → Completes (.moveVel at_) s good) ∧ (c.command = 4 → Completes (.axisStop at_) s good)
    ∧ (c.command = 5 → Completes (.axisHome at_) s good) ∧ (c.command = 6 → Completes (.axisAbort at_) s good)
    ∧ (c.command = 7 → Completes (.axisEnable at_) s good) ∧ (c.command = 8 → Completes (.axisDisable at_) s good)
    ∧ (c.command = 9 → Completes (.latchArm at_) s good))
  ∧ (∀ (s : State) (at_ : Nat) (c : MotionCmd) (rest : List RingEntry), (s.ring 42).q = .motion c :: rest → (s.ring 42).waiting = [] →
      s.mayCommand c = false ∨ cmdOk c = false →
    let bad := fun t : State => (t.ring 42).q = rest ∧ t.rd E.Mot.CMD_REJECTS = min (2 ^ 32 - 1) (s.rd E.Mot.CMD_REJECTS + 1)
      ∧ t.now = s.instant at_ ∧ Frame [] [E.Mot.CMD_REJECTS] [42] s t
    (c.command = 1 → Completes (.moveAbs at_) s bad) ∧ (c.command = 2 → Completes (.moveRel at_) s bad)
    ∧ (c.command = 3 → Completes (.moveVel at_) s bad) ∧ (c.command = 4 → Completes (.axisStop at_) s bad)
    ∧ (c.command = 5 → Completes (.axisHome at_) s bad) ∧ (c.command = 6 → Completes (.axisAbort at_) s bad)
    ∧ (c.command = 7 → Completes (.axisEnable at_) s bad) ∧ (c.command = 8 → Completes (.axisDisable at_) s bad)
    ∧ (c.command = 9 → Completes (.latchArm at_) s bad))

/-- Driver faults, idle disable, enable delay, the profile tick and settings of an axis. FLT_ASSERTED on an axis without FLT sets it,
deasserts ENA, discards the commands that wait at the axis and writes one FIELD_DIAG record behind those waiting; FLT_RELEASED
clears it with its record. IDLE_DISABLE deasserts ENA of an axis at rest without a move for the time of its setting. ENABLE_DELAY
ends the delay of an axis at its instant. PROFILE_TICK at a new multiple of 10 µs advances the tick, and an axis at rest with
nothing to do keeps its position. An accepted write of VEL_MAX, ACCEL, DECEL or JERK is stored and retained. The frames name what
may change. (13_stepper_axes R411; 13_stepper_axes R414; 13_stepper_axes R417; 13_stepper_axes R423; 13_stepper_axes R424) -/
def Obligations.AxesFollowTheirDriversAndTheirTicks : Prop :=
  (∀ (s : State) (at_ a : Nat), a < 12 → (s.ax a).flt = false →
    Completes (.fltAsserted at_ a) s (fun t => (t.ax a).flt = true ∧ (t.ax a).ena = false ∧ (t.ax a).inbox = []
      ∧ (t.ax a).move = none ∧ (t.ax a).homing = none ∧ (t.ax a).v = 0
      ∧ t.field.diagOut = s.field.diagOut ++ [leBytes 1 0x08 ++ leBytes 1 a ++ leBytes 1 0x60 ++ leBytes 1 1 ++ time96le (time96ns (s.instant at_))]
      ∧ (∀ b, b ≠ a → t.ax b = s.ax b) ∧ t.now = s.instant at_ ∧ Frame [.field, .motion] [] [] s t))
  ∧ (∀ (s : State) (at_ a : Nat), a < 12 → (s.ax a).flt = true →
    Completes (.fltReleased at_ a) s (fun t => (t.ax a).flt = false ∧ (t.ax a).x = (s.ax a).x
      ∧ t.field.diagOut = s.field.diagOut ++ [leBytes 1 0x08 ++ leBytes 1 a ++ leBytes 1 0x60 ++ leBytes 1 0 ++ time96le (time96ns (s.instant at_))]
      ∧ (∀ b, b ≠ a → t.ax b = s.ax b) ∧ t.now = s.instant at_ ∧ Frame [.field, .motion] [] [] s t))
  ∧ (∀ (s : State) (at_ a : Nat), a < 12 → s.rd (E.Ax.IDLE_DISABLE a) ≠ 0 → (s.ax a).ena = true → atRest (s.ax a) = true →
      (s.ax a).move = none → (s.ax a).homing = none → (s.ax a).restAt + 1000000 * s.rd (E.Ax.IDLE_DISABLE a) ≤ s.instant at_ →
    Completes (.idleDisable at_ a) s (fun t => (t.ax a).ena = false ∧ (t.ax a).x = (s.ax a).x
      ∧ (∀ b, b ≠ a → t.ax b = s.ax b) ∧ t.now = s.instant at_ ∧ Frame [.field, .motion] [] [] s t))
  ∧ (∀ (s : State) (at_ a : Nat), a < 12 → ∀ g, (s.ax a).goAt = some g → g ≤ s.instant at_ →
    Completes (.enableDelay at_ a) s (fun t => t.ax a = { s.ax a with goAt := none } ∧ (∀ b, b ≠ a → t.ax b = s.ax b)
      ∧ t.now = s.instant at_ ∧ Frame [.motion] [] [] s t))
  ∧ (∀ (s : State) (at_ : Nat), s.instant at_ % 10000 = 0 → s.motion.tickAt < s.instant at_ → s.field.powered = true →
    Completes (.profileTick at_) s (fun t => t.motion.tickAt = s.instant at_
      ∧ (∀ a < 12, (s.ax a).move = none → (s.ax a).homing = none → (s.ax a).inbox = [] → atRest (s.ax a) = true →
          (t.ax a).x = (s.ax a).x ∧ (t.ax a).move = none)
      ∧ t.now = s.instant at_ ∧ Frame [.field, .motion] [] [] s t))
  ∧ (∀ (s : State) (at_ a sub v : Nat) (w : Writer), a < 12 → 2 ≤ sub → sub ≤ 5 → ∀ e, e = (if sub = 2 then E.Ax.VEL_MAX a else if sub = 3 then
        E.Ax.ACCEL a else if sub = 4 then E.Ax.DECEL a else E.Ax.JERK a) → s.accepts at_ w e.key .f32 (.num v) →
    Completes (.axisSettingWrite at_ w a sub v) s (fun t => t.odStatus = 0 ∧ t.rd e = v
      ∧ (∀ b, b ≠ a → t.ax b = s.ax b) ∧ (t.ax a).x = (s.ax a).x ∧ t.now = s.instant at_
      ∧ Frame (.motion :: retainParts) (e :: retainEnts) [28, 31] s t))

/-- Release and commit of the safety cycle, the safe watchdog, SAFETY_RESET, holding-test requests and received ESC copies.
SAFETY_RELEASE at a multiple of SAFETY_CYCLE on a resumed ACTIVE module with a set, in STARTING, RUNNING or STOPPED and with no
cycle open, opens a cycle of this release, lone exactly where one channel's pair runs alone. SAFETY_COMMIT of equal results with
both pairs running ends the cycle as good; of different results it ends the cycle as bad, stops a starting or running program
(SAFETY_STATE 3) and withdraws both channels' commands; alone, one channel only opens elements. SAFE_WATCHDOG_EXPIRY opens every
element of its section. An accepted SAFETY_RESET starts a stopped program; an accepted HT_START asks for a test, or ends REFUSED.
ESC_FRAME_RECEIVED takes the oldest copy from its ring: a valid one is held, any other counted. (14_safety_functions R435;
14_safety_functions R436; 14_safety_functions R437; 14_safety_functions R438; 14_safety_functions R451; 14_safety_functions R456;
14_safety_functions R467) -/
def Obligations.SafetyCycleReleasesAndCommits : Prop :=
  (∀ (s : State) (at_ : Nat), s.safety.set.isSome = true → s.rd E.Saf.SAFETY_CYCLE ≠ 0 →
      s.instant at_ % (1000 * s.rd E.Saf.SAFETY_CYCLE) = 0 → 1 ≤ s.safeState → s.safeState ≤ 3 → s.active = true →
      (s.advance at_).resumed = true → s.safety.cycle = none →
    Completes (.safetyRelease at_) s (fun t => t.safety.cycle.map (·.release) = some (s.instant at_)
      ∧ t.safety.lone = (if s.pairRuns (s.safePair false) = s.pairRuns (s.safePair true) then none else some (s.pairRuns (s.safePair true)))
      ∧ t.safety.cycle.map (·.lone) = some t.safety.lone
      ∧ t.now = s.instant at_ ∧ Keeps [.safety, .ledger, .blocks] s t))
  ∧ (∀ (s : State) (at_ : Nat) (x y : SafeOut), s.pairRuns (s.safePair false) = true → s.pairRuns (s.safePair true) = true →
      ∀ c, s.safety.cycle = some c → c.lone = none → sameResults c.rejoined x y = true →
    Completes (.safetyCommit at_ x y) s (fun t => t.safety.cycle = none ∧ t.safety.bad = false
      ∧ t.safety.good = (if c.sections then s.safety.good + 1 else 0) ∧ t.safety.permit = x.permit.toNat
      ∧ t.safety.cx.latches = x.latches ∧ t.safety.cy.latches = x.latches
      ∧ (s.safeState ≠ 2 → t.safety.cx.cmd = 0 ∧ t.safety.cy.cmd = 0)
      ∧ t.now = s.instant at_ ∧ Keeps [.safety, .ledger, .blocks, .field, .can] s t))
  ∧ (∀ (s : State) (at_ : Nat) (x y : SafeOut), s.pairRuns (s.safePair false) = true → s.pairRuns (s.safePair true) = true →
      ∀ c, s.safety.cycle = some c → c.lone = none → sameResults c.rejoined x y = false →
    Completes (.safetyCommit at_ x y) s (fun t => t.safety.cycle = none ∧ t.safety.bad = true
      ∧ (s.safeState = 1 ∨ s.safeState = 2 → t.safeState = 3 ∧ t.safety.cx.cmd = 0 ∧ t.safety.cy.cmd = 0
          ∧ t.rd E.Saf.SAFETY_CAUSE = (if c.rejoined then 3 else 1))
      ∧ t.now = s.instant at_ ∧ Frame [.safety, .ledger, .blocks] [E.Saf.SAFETY_STATE, E.Saf.SAFETY_CAUSE, E.Saf.SAFETY_STOPS,
          E.Saf.SAFETY_EXEC_MAX, E.Restore.RETAINED_WRITES] [28] s t))
  ∧ (∀ (s : State) (at_ : Nat) (x y : SafeOut), ∀ c, s.safety.cycle = some c → ∀ l, c.lone = some l → s.pairRuns (s.safePair l) = true →
    Completes (.safetyCommit at_ x y) s (fun t => t.safety.cycle = none ∧ t.safety.bad = false
      ∧ (t.chn l).cmd = (s.chn l).cmd &&& (if l then y else x).sb.toNat ∧ t.chn (!l) = s.chn (!l)
      ∧ t.now = s.instant at_ ∧ Keeps [.safety, .ledger, .blocks, .can] s t))
  ∧ (∀ (s : State) (at_ : Nat) (fsy : Bool), s.safety.set.isSome = true →
      (s.sec fsy).lastValid + 1000000 * s.rd E.Saf.SAFE_WATCHDOG ≤ s.instant at_ →
    Completes (.safeWatchdogExpiry at_ fsy) s (fun t => t.sec fsy = { s.sec fsy with closed := 0 } ∧ t.sec (!fsy) = s.sec (!fsy)
      ∧ (∀ n < 8, t.rd (E.Sb.SB_STATE n) ≠ 1)
      ∧ t.now = s.instant at_ ∧ Frame [.safety] ((List.range 8).map E.Sb.SB_STATE) [] s t))
  ∧ (∀ (s : State) (at_ : Nat) (w : Writer), s.accepts at_ w E.Saf.SAFETY_RESET.key .bool (.num 1) → s.safeState = 3 →
    Completes (.safetyReset at_ w) s (fun t => t.odStatus = 0 ∧ t.safeState = 1 ∧ t.rd E.Saf.SAFETY_CAUSE = 0 ∧ t.safety.good = 0
      ∧ t.safety.cycle = none ∧ t.now = s.instant at_
      ∧ Frame [.answer, .safety, .ledger] ([E.Saf.SAFETY_STATE, E.Saf.SAFETY_CAUSE] ++ genEnts) [28] s t))
  ∧ (∀ (s : State) (at_ n : Nat) (w : Writer), n < 8 → s.accepts at_ w (E.Sb.HT_START n).key .bool (.num 1) →
    Completes (.htStart at_ w n) s (fun t => t.odStatus = 0
      ∧ (if (s.sb n).reqAt = none ∧ 1 ≤ s.safeState ∧ s.safeState ≤ 3 then t.sb n = { s.sb n with start := true }
         else t.sb n = s.sb n ∧ t.rd (E.Sb.HT_RESULT n) = 4)
      ∧ t.now = s.instant at_ ∧ Frame [.answer, .safety, .ledger] (E.Sb.HT_RESULT n :: genEnts) [28] s t))
  ∧ (∀ (s : State) (at_ : Nat) (lanB : Bool) (f : RxFrame) (rest : List RingEntry), (s.ring (if lanB then 36 else 35)).q = .rx f :: rest →
      ∀ p, s.escParse f.frame.payload = some p →
    Completes (.escFrameReceived at_ lanB) s (fun t =>
      t.conn p.1 = (if lanB then { s.conn p.1 with copiesY := (p.2 :: (s.conn p.1).copiesY).take 4 }
        else { s.conn p.1 with copiesX := (p.2 :: (s.conn p.1).copiesX).take 4 })
      ∧ (∀ k, k ≠ p.1 → t.conn k = s.conn k)
      ∧ t.now = s.instant at_ ∧ Frame [.safety] [] [if lanB then 36 else 35] s t))
  ∧ (∀ (s : State) (at_ : Nat) (lanB : Bool) (f : RxFrame) (rest : List RingEntry), (s.ring (if lanB then 36 else 35)).q = .rx f :: rest →
      s.escParse f.frame.payload = none →
    Completes (.escFrameReceived at_ lanB) s (fun t =>
      t.rd (if lanB then E.Esc.ESC_INVALID_B else E.Esc.ESC_INVALID_A)
        = min (2 ^ 32 - 1) (s.rd (if lanB then E.Esc.ESC_INVALID_B else E.Esc.ESC_INVALID_A) + 1)
      ∧ t.now = s.instant at_
      ∧ Frame [] [if lanB then E.Esc.ESC_INVALID_B else E.Esc.ESC_INVALID_A] [if lanB then 36 else 35] s t))

/-- Test pulses, test-pulse faults, discrepancies, pulse tests and faults of safe inputs and safe brake outputs. TEST_PULSE of a
source without fault, with a set in force, marks its instant and TP_STATE 1. TP_FAULT sets or clears the source's fault, shown in
TP_STATE, and counts a new one. SI_DISCREPANCY at the limit of the discrepancy timer sets the discrepancy of its section with one
FIELD_DIAG record. SB_PULSE_TEST of an energised or released output stamps a passed test; a failed one, and SB_FAULT of a
condition that holds, put the output into FAULT with both elements open, and count a new FAULT. The frames name the entries that
may change. (14_safety_functions R439; 14_safety_functions R443; 14_safety_functions R446; 14_safety_functions R447) -/
def Obligations.SafeInputsAndBrakesReportTheirFaults : Prop :=
  (∀ (s : State) (at_ src : Nat) (dx dy : BitVec 32), src < 4 → s.safety.set.isSome = true → s.field.powered = true →
      bitOf s.safety.tpFault src = false →
    Completes (.testPulse at_ src dx dy) s (fun t => t.rd (E.Si.TP_STATE src) = 1 ∧ t.safety.pulseAt.find src = some (s.instant at_)
      ∧ (∀ i < 16, s.rd (E.Si.SI_MODE i) ≠ 0 → (t.safety.x.si.fetch {} i).crossA =
          (s.advance at_).contactCheck (s.rd (E.Si.SI_TP_A i)) src (s.safety.x.si.fetch {} i).a (bitOf dx.toNat (2 * i)) (s.safety.x.si.fetch {} i).crossA)
      ∧ t.now = s.instant at_
      ∧ Frame [.field, .safety] (E.Si.TP_STATE src :: (List.range 16).flatMap (fun i => [E.Si.SI_CONTACTS i, E.Si.SI_DIAG i, E.Si.SI_FAULTS i])) [] s t))
  ∧ (∀ (s : State) (at_ src : Nat) (b : Bool), src < 4 → bitOf s.safety.tpFault src ≠ b →
    Completes (.tpFault at_ src b) s (fun t => bitOf t.safety.tpFault src = b ∧ t.rd (E.Si.TP_STATE src) = (if b then 2 else 1)
      ∧ t.rd (E.Si.TP_FAULTS src) = (if b then min (2 ^ 32 - 1) (s.rd (E.Si.TP_FAULTS src) + 1) else s.rd (E.Si.TP_FAULTS src))
      ∧ t.now = s.instant at_
      ∧ Frame [.field, .safety] ([E.Si.TP_STATE src, E.Si.TP_FAULTS src] ++ (List.range 16).flatMap
          (fun i => [E.Si.SI_CONTACTS i, E.Si.SI_DIAG i, E.Si.SI_FAULTS i])) [] s t))
  ∧ (∀ (s : State) (at_ i : Nat) (y : Bool), i < 16 → s.rd (E.Si.SI_MODE i) ≠ 0 → ((s.sec y).si.fetch {} i).disc = false →
      ∀ d, ((s.sec y).si.fetch {} i).discAt = some d → d + 1000000 * s.rd (E.Si.SI_DISCREPANCY i) ≤ s.instant at_ →
    Completes (.siDiscrepancy at_ i y) s (fun t => ((t.sec y).si.fetch {} i).disc = true ∧ t.sec (!y) = s.sec (!y)
      ∧ t.field.diagOut = s.field.diagOut
          ++ [leBytes 1 0x09 ++ leBytes 1 i ++ leBytes 1 0x70 ++ leBytes 1 (1 + 2 * ofBool y) ++ time96le (time96ns (s.instant at_))]
      ∧ t.now = s.instant at_ ∧ Frame [.field, .safety] [E.Si.SI_CONTACTS i, E.Si.SI_DIAG i, E.Si.SI_FAULTS i] [] s t))
  ∧ (∀ (s : State) (at_ n : Nat) (y pass : Bool), n < 8 → s.field.enable = true →
      bitOf s.safety.x.closed n = bitOf s.safety.y.closed n → (s.sb n).testAt = none →
    Completes (.sbPulseTest at_ n y pass) s (fun t => (t.sb n).testAt = some (s.instant at_)
      ∧ (pass = true → t.rd (E.Sb.SB_LAST_TEST_TB3 n) = time96ns (s.instant at_))
      ∧ (pass = false → (t.sb n).fault = true ∧ bitOf t.safety.x.closed n = false ∧ bitOf t.safety.y.closed n = false)
      ∧ t.now = s.instant at_
      ∧ Frame [.field, .safety] [E.Sb.SB_LAST_TEST_TB3 n, E.Sb.SB_DIAG n, E.Sb.SB_STATE n, E.Sb.SB_FAULTS n] [] s t))
  ∧ (∀ (s : State) (at_ n kind : Nat) (y : Bool), n < 8 → (kind = 4 ∨ kind = 5 ∨ kind = 6 ∨ kind = 7) →
      (kind = 4 ∨ kind = 5 → bitOf (s.sec y).closed n = true) →
      (kind = 6 → bitOf (s.sec y).closed n = false ∧ s.field.enable = true) →
    Completes (.sbFault at_ n kind y) s (fun t => (t.sb n).fault = true
      ∧ bitOf (if y then (t.sb n).diagY else (t.sb n).diagX) kind = true
      ∧ bitOf t.safety.x.closed n = false ∧ bitOf t.safety.y.closed n = false ∧ t.rd (E.Sb.SB_STATE n) ≠ 1
      ∧ t.rd (E.Sb.SB_FAULTS n) = (if (s.sb n).fault then s.rd (E.Sb.SB_FAULTS n) else min (2 ^ 32 - 1) (s.rd (E.Sb.SB_FAULTS n) + 1))
      ∧ t.now = s.instant at_ ∧ Frame [.field, .safety] [E.Sb.SB_DIAG n, E.Sb.SB_STATE n, E.Sb.SB_FAULTS n] [] s t))

/-- The parameter set of the safety functions is staged by SPS_DATA and put in force by SPS_COMMIT. An accepted SPS_DATA write stores
its bytes in the staging area from SPS_OFFSET on, byte by byte, leaves every other byte, and advances offset and length. An
accepted SPS_COMMIT with bytes that spell no set answers result 1, with a set out of range 2, with another CRC 3, and changes
nothing else but its record; else it answers 0 and the set is stored and in force with its CRC in SPS_CRC. What bytes spell is the
model's opaque reading (a free value of Config). (14_safety_functions R463; 14_safety_functions R464) -/
def Obligations.SafetyParameterSetsAreStagedAndCommitted : Prop :=
  (∀ (s : State) (at_ : Nat) (w : Writer) (b : List Byte), s.accepts at_ w E.Saf.SPS_DATA.key .octets (.bytes b) →
    Completes (.spsData at_ w b) s (fun t => t.odStatus = 0
      ∧ (∀ i < b.length, t.safety.staging.read (s.rd E.Saf.SPS_OFFSET + i) = b.getD i 0)
      ∧ (∀ a, a < s.rd E.Saf.SPS_OFFSET ∨ s.rd E.Saf.SPS_OFFSET + b.length ≤ a → t.safety.staging.read a = s.safety.staging.read a)
      ∧ t.rd E.Saf.SPS_OFFSET = s.rd E.Saf.SPS_OFFSET + b.length
      ∧ t.now = s.instant at_ ∧ Frame [.answer, .safety] ([E.Saf.SPS_OFFSET, E.Saf.SPS_LENGTH] ++ genEnts) [] s t))
  ∧ (∀ (s : State) (at_ crc : Nat) (w : Writer), s.accepts at_ w E.Saf.SPS_COMMIT.key .u32 (.num crc) →
      ∀ b, b = s.safety.staging.readList 0 (s.rd E.Saf.SPS_LENGTH) → Config.spsReading b = none →
    Completes (.spsCommit at_ w crc) s (fun t => t.odStatus = 0 ∧ t.rd E.Saf.SPS_RESULT = 1
      ∧ t.now = s.instant at_ ∧ Frame [.answer, .ledger] (E.Saf.SPS_RESULT :: genEnts) [28] s t))
  ∧ (∀ (s : State) (at_ crc : Nat) (w : Writer), s.accepts at_ w E.Saf.SPS_COMMIT.key .u32 (.num crc) →
      ∀ b, b = s.safety.staging.readList 0 (s.rd E.Saf.SPS_LENGTH) → ∀ p, Config.spsReading b = some p → setOk p = false ∨ crc32c b ≠ crc →
    Completes (.spsCommit at_ w crc) s (fun t => t.odStatus = 0 ∧ t.rd E.Saf.SPS_RESULT = (if setOk p then 3 else 2)
      ∧ t.now = s.instant at_ ∧ Frame [.answer, .ledger] (E.Saf.SPS_RESULT :: genEnts) [28] s t))
  ∧ (∀ (s : State) (at_ crc : Nat) (w : Writer), s.accepts at_ w E.Saf.SPS_COMMIT.key .u32 (.num crc) →
      ∀ b, b = s.safety.staging.readList 0 (s.rd E.Saf.SPS_LENGTH) → ∀ p, Config.spsReading b = some p → setOk p = true → crc32c b = crc →
    Completes (.spsCommit at_ w crc) s (fun t => t.odStatus = 0 ∧ t.rd E.Saf.SPS_RESULT = 0 ∧ t.rd E.Saf.SPS_CRC = crc
      ∧ t.safety.stored = some (p, crc) ∧ t.safety.set = some p ∧ t.rd E.Saf.SAFETY_CYCLE = p.cycle ∧ t.rd E.Saf.SAFE_WATCHDOG = p.watchdog
      ∧ t.now = s.instant at_ ∧ Keeps [.answer, .safety, .ledger, .free] s t))

/-- TOKEN, its detectors, the field enable, the listen window and the TOKEN watchdog. PARTNER_TOKEN_ASSERTED marks its detector and
takes the field enable away; of a module that drives TOKEN in position TWIN_B it also stops TOKEN and ends the ACTIVE role; of a
listening module on a twin base it makes a STANDBY in STOP that starts a resynchronisation. PARTNER_TOKEN_DEASSERTED clears its
detector. FIELD_ENABLE_ASSERT with own TOKEN driven and both detectors deasserted for 50 us asserts the field enable; at a start
it sets START_STEP 11 and resumes at the next frame boundary. TOKEN_PATH_FAULT of detectors that disagree for more than 10 us is
reported and counted once. LISTEN_WINDOW_EXPIRY of an OPERATING module that reads no partner drives TOKEN and becomes ACTIVE.
TOKEN_WATCHDOG_EXPIRY resets the logic side with its start cause. (15_twin_redundancy R474; 15_twin_redundancy R475;
15_twin_redundancy R476; 15_twin_redundancy R477) -/
def Obligations.TokensAndTheFieldEnable : Prop :=
  (∀ (s : State) (at_ : Nat) (side : Bool), (s.twin.token = true → s.rd E.Twin.TWIN_POSITION ≠ 2) → s.twin.listen = none →
    Completes (.partnerTokenAsserted at_ side) s (fun t =>
      (if side then t.twin.seenField else t.twin.seenLogic) = true ∧ t.twin.token = s.twin.token ∧ t.field.enable = false
      ∧ t.rd E.Twin.TWIN_ROLE = s.rd E.Twin.TWIN_ROLE ∧ t.now = s.instant at_ ∧ Keeps [.twin, .field, .motion, .ledger, .safety] s t))
  ∧ (∀ (s : State) (at_ : Nat) (side : Bool), s.twin.token = true → s.rd E.Twin.TWIN_POSITION = 2 →
    Completes (.partnerTokenAsserted at_ side) s (fun t =>
      (if side then t.twin.seenField else t.twin.seenLogic) = true ∧ t.twin.token = false ∧ t.twin.stopAt = some (s.instant at_)
      ∧ t.field.enable = false ∧ t.rd E.Twin.TWIN_ROLE = 2 ∧ t.eop.sessions = [] ∧ t.now = s.instant at_
      ∧ Keeps [.twin, .field, .motion, .ledger, .safety, .power, .eop] s t))
  ∧ (∀ (s : State) (at_ : Nat) (side : Bool), s.twin.token = false → s.twin.listen.isSome = true → s.twinBase = true →
    Completes (.partnerTokenAsserted at_ side) s (fun t =>
      (if side then t.twin.seenField else t.twin.seenLogic) = true ∧ t.twin.token = false ∧ t.twin.listen = none
      ∧ t.rd E.Twin.TWIN_ROLE = 1 ∧ t.rd E.Run.RUNTIME_MODE = 1 ∧ t.twin.synced = false ∧ t.tally.running = false ∧ t.field.enable = false
      ∧ t.rd E.Twin.RESYNCS = min (2 ^ 32 - 1) (s.rd E.Twin.RESYNCS + 1)
      ∧ t.now = s.instant at_ ∧ Keeps [.twin, .field, .motion, .ledger, .safety, .power, .tally, .eop, .time] s t))
  ∧ (∀ (s : State) (at_ : Nat) (side : Bool),
    Completes (.partnerTokenDeasserted at_ side) s (fun t =>
      (if side then t.twin.seenField else t.twin.seenLogic) = false
      ∧ (if side then t.twin.fieldAt else t.twin.logicAt) = s.instant at_ ∧ t.twin.token = s.twin.token
      ∧ t.now = s.instant at_ ∧ Frame [.twin, .ledger] twinEnts [28] s t))
  ∧ (∀ (s : State) (at_ : Nat), s.twin.token = true → s.twin.tokenAt + 50000 ≤ s.instant at_ → s.twin.seenLogic = false →
      s.twin.seenField = false → s.twin.logicAt + 50000 ≤ s.instant at_ → s.twin.fieldAt + 50000 ≤ s.instant at_ →
    Completes (.fieldEnableAssert at_) s (fun t => t.field.enable = true ∧ t.twin.token = true
      ∧ (s.field.enable = false → s.power.resumeAt = none → s.twin.taking = none → t.rd E.Start.START_STEP = 11 ∧ t.field.resume = true
          ∧ t.power.resumeAt = some ((s.instant at_ / 50000 + 1) * 50000))
      ∧ (s.field.enable = false → s.power.resumeAt = none → s.twin.taking.isSome = true → t.power.resumeAt = some (s.instant at_))
      ∧ t.now = s.instant at_ ∧ Keeps [.twin, .field, .motion, .ledger, .safety, .power, .rt, .blocks, .free] s t))
  ∧ (∀ (s : State) (at_ : Nat), s.power.boot = none → s.power.supplied = true → s.twin.seenLogic ≠ s.twin.seenField →
      max s.twin.logicAt s.twin.fieldAt + 10000 < s.instant at_ →
    Completes (.tokenPathFault at_) s (fun t => t.twin.pathFault = true
      ∧ t.rd E.Twin.TOKEN_PATH_FAULTS = (if s.twin.pathFault then s.rd E.Twin.TOKEN_PATH_FAULTS else min (2 ^ 32 - 1) (s.rd E.Twin.TOKEN_PATH_FAULTS + 1))
      ∧ t.now = s.instant at_ ∧ Frame [.twin, .ledger] (E.Twin.TOKEN_PATH_FAULTS :: twinEnts) [28] s t))
  ∧ (∀ (s : State) (at_ : Nat), ∀ l, s.twin.listen = some l → l + s.listenWindow ≤ s.instant at_ → s.operating = true →
      s.twin.seenLogic = false → s.twin.seenField = false →
    Completes (.listenWindowExpiry at_) s (fun t => t.twin.token = true ∧ t.twin.listen = none ∧ t.rd E.Twin.TWIN_ROLE = 0
      ∧ t.rd E.Start.START_STEP = 10 ∧ (s.twin.token = false → t.twin.tokenAt = s.instant at_)
      ∧ t.now = s.instant at_ ∧ Frame [.twin, .ledger, .can] ([E.Start.START_STEP, E.Twin.TWIN_ROLE] ++ (List.range 4).map E.Can.CHANNEL_STATE ++ twinEnts)
          [17, 19, 21, 23, 28] s t))
  ∧ (∀ (s : State) (at_ : Nat), s.power.boot = none → s.power.supplied = true → s.twin.token = true → s.rd E.Dbl.SERVICES_PAIR ≠ 0xFF →
      s.twin.refreshAt + 1000000 * s.rd E.Twin.TOKEN_WATCHDOG ≤ s.instant at_ →
    Completes (.tokenWatchdogExpiry at_) s (fun t => RestartDue (if s.twinBase then 7 else 0x0D) s t))

/-- Heartbeats, lanes, the Twin Link, archives and maintenance of a STANDBY module. HEARTBEAT_SEND on a twin base sends role,
readiness, TOKEN and generation. HEARTBEAT_RECEIVED takes the partner's heartbeat and the instant, and adds the CRC errors of each
lane, saturating. LINK_DOWN_TIMEOUT 500 us after the last frame makes the link DOWN. LANE_STATE_CHANGE of a link that is not DOWN
makes it UP, DEGRADED or DOWN by its lanes. ARCHIVE_PART in a STANDBY stores its bytes at their offset. MAINTENANCE_ENTER of a
STANDBY runs D0 with the services on it; MAINTENANCE_EXIT resets the logic side with start cause 0x0E. (15_twin_redundancy R479;
15_twin_redundancy R480; 15_twin_redundancy R482; 15_twin_redundancy R483) -/
def Obligations.TwinLinkAndHeartbeats : Prop :=
  (∀ (s : State) (at_ sup : Nat), s.power.boot = none → s.power.supplied = true → s.twinBase = true → s.power.reduced = false →
    Completes (.heartbeatSend at_ sup) s (fun t =>
      (∃ h, t.twin.sent = some h ∧ h.role = s.rd E.Twin.TWIN_ROLE ∧ h.token = s.twin.token
        ∧ h.gen = (if s.active then s.rd E.Twin.GEN_SENT else s.rd E.Twin.GEN_COMMITTED) ∧ h.release = s.rd E.Id.FW_RELEASE
        ∧ h.spsCrc = s.rd E.Saf.SPS_CRC ∧ h.archive = s.rd E.Online.ARCHIVE_ID ∧ (s.standby = true → h.readiness = t.rd E.Twin.READINESS))
      ∧ t.now = s.instant at_ ∧ Frame [.twin, .ledger] twinEnts [28] s t))
  ∧ (∀ (s : State) (at_ a b : Nat) (h : Heartbeat), s.power.boot = none → s.power.supplied = true → s.twinBase = true → h.role < 256 →
    Completes (.heartbeatReceived at_ h a b) s (fun t => t.twin.partner = some h ∧ t.twin.heardAt = s.instant at_
      ∧ t.rd E.Twin.LINK_STATE ≠ 2 ∧ t.rd E.Twin.PARTNER_ROLE = h.role ∧ t.twin.token = s.twin.token
      ∧ (a ≠ 0 ∨ b ≠ 0 → t.rdB E.Twin.LANE_ERRORS = leBytes 4 (min 0xFFFFFFFF (leAt (s.rdB E.Twin.LANE_ERRORS) 0 4 + a))
          ++ leBytes 4 (min 0xFFFFFFFF (leAt (s.rdB E.Twin.LANE_ERRORS) 4 4 + b)))
      ∧ t.now = s.instant at_ ∧ Keeps [.twin, .ledger, .blocks, .free] s t))
  ∧ (∀ (s : State) (at_ : Nat), s.power.boot = none → s.power.supplied = true → s.rd E.Twin.LINK_STATE ≠ 2 →
      s.twin.heardAt + 500000 ≤ s.instant at_ →
    Completes (.linkDownTimeout at_) s (fun t => t.rd E.Twin.LINK_STATE = 2
      ∧ t.now = s.instant at_ ∧ Frame [.twin, .ledger] (E.Twin.LINK_STATE :: twinEnts) [28] s t))
  ∧ (∀ (s : State) (at_ lane : Nat) (up : Bool), s.power.boot = none → s.power.supplied = true → s.rd E.Twin.LINK_STATE ≠ 2 →
    Completes (.laneStateChange at_ lane up) s (fun t =>
      (if lane = 0 then t.twin.laneA else t.twin.laneB) = up ∧ (if lane = 0 then t.twin.laneB = s.twin.laneB else t.twin.laneA = s.twin.laneA)
      ∧ t.rd E.Twin.LINK_STATE = (if t.twin.laneA && t.twin.laneB then 0 else if t.twin.laneA || t.twin.laneB then 1 else 2)
      ∧ t.now = s.instant at_ ∧ Frame [.twin, .ledger] (E.Twin.LINK_STATE :: twinEnts) [28] s t))
  ∧ (∀ (s : State) (at_ off : Nat) (staged : Bool) (b : List Byte), s.standby = true →
    Completes (.archivePart at_ staged off b false) s (fun t =>
      (∀ i < b.length, (if staged then t.twin.staging else t.twin.running).read (off + i) = b.getD i 0)
      ∧ (∀ a, a < off ∨ off + b.length ≤ a →
          (if staged then t.twin.staging else t.twin.running).read a = (if staged then s.twin.staging else s.twin.running).read a)
      ∧ t.rt = s.rt ∧ t.now = s.instant at_ ∧ Frame [.twin] [] [] s t))
  ∧ (∀ (s : State) (at_ : Nat), s.standby = true → s.twin.maintenance = false →
    Completes (.maintenanceEnter at_) s (fun t => t.twin.maintenance = true ∧ t.rd (E.Dbl.PAIR_STATE 0) = 1 ∧ t.rd E.Dbl.SERVICES_PAIR = 0
      ∧ t.now = s.instant at_ ∧ Frame [.twin, .ledger] ([E.Dbl.PAIR_STATE 0, E.Dbl.SERVICES_PAIR] ++ twinEnts) [28] s t))
  ∧ (∀ (s : State) (at_ : Nat), s.twin.maintenance = true → s.power.boot = none → s.power.supplied = true →
    Completes (.maintenanceExit at_) s (fun t => RestartDue 0x0E s t))

/-- Deltas, resynchronisation and audit in a STANDBY module. DELTA_END in a STANDBY of a delta that passes its checks, is the next
generation and at most 8 MiB commits it: GEN_COMMITTED, DELTA_LAST, the output image in the latches; any other delta is discarded
whole and starts a resynchronisation. RESYNC_DONE in a STANDBY with the link up leaves the module synchronised at the delta's
generation. AUDIT at its interval in a synchronised STANDBY moves its instant; a difference is counted and starts a
resynchronisation. (15_twin_redundancy R481; 15_twin_redundancy R486; 15_twin_redundancy R488) -/
def Obligations.CheckpointStreamOfTheStandby : Prop :=
  (∀ (s : State) (at_ : Nat) (d : TwinDelta), s.standby = true → d.ok = true → d.gen = nextGen s.twin.gen → d.size ≤ 8388608 →
      d.changeover = false → d.blocks = [] →
    Completes (.deltaEnd at_ d) s (fun t => t.twin.gen = d.gen ∧ t.twin.ckpt = mergeSaved d.recs s.twin.ckpt d.saved
      ∧ t.rd E.Twin.GEN_COMMITTED = d.gen ∧ t.rd E.Twin.DELTA_LAST = d.size ∧ t.rd E.Twin.DELTA_MAX = max (s.rd E.Twin.DELTA_MAX) d.size
      ∧ t.twin.synced = s.twin.synced ∧ t.now = s.instant at_ ∧ Keeps [.twin, .ledger, .field] s t))
  ∧ (∀ (s : State) (at_ : Nat) (d : TwinDelta), s.standby = true → d.ok = false ∨ d.gen ≠ nextGen s.twin.gen ∨ 8388608 < d.size →
    Completes (.deltaEnd at_ d) s (fun t => t.twin.gen = s.twin.gen ∧ t.twin.ckpt = s.twin.ckpt ∧ t.twin.synced = false
      ∧ t.rd E.Twin.RESYNCS = min (2 ^ 32 - 1) (s.rd E.Twin.RESYNCS + 1)
      ∧ t.now = s.instant at_ ∧ Frame [.twin, .ledger] (E.Twin.RESYNCS :: twinEnts) [28, 32] s t))
  ∧ (∀ (s : State) (at_ : Nat) (d : TwinDelta), s.standby = true → s.rd E.Twin.LINK_STATE ≠ 2 → d.gen < 2 ^ 32 → d.size < 2 ^ 32 →
      d.changeover = false → d.blocks = [] →
    Completes (.resyncDone at_ d) s (fun t => t.twin.synced = true ∧ t.twin.gen = d.gen ∧ t.twin.ckpt = mergeSaved allRecords {} d.saved
      ∧ t.rd E.Twin.GEN_COMMITTED = d.gen ∧ t.rd E.Twin.DELTA_LAST = d.size
      ∧ t.now = s.instant at_ ∧ Keeps [.twin, .ledger, .field] s t))
  ∧ (∀ (s : State) (at_ : Nat) (ok : Bool), s.standby = true → s.twin.synced = true →
      s.twin.auditAt + 60000000000 * s.rd E.Twin.AUDIT_INTERVAL ≤ s.instant at_ →
    Completes (.audit at_ ok) s (fun t => t.twin.auditAt = s.instant at_ ∧ t.twin.synced = ok ∧ t.twin.gen = s.twin.gen
      ∧ t.rd E.Twin.AUDIT_MISMATCHES = (if ok then s.rd E.Twin.AUDIT_MISMATCHES else min (2 ^ 32 - 1) (s.rd E.Twin.AUDIT_MISMATCHES + 1))
      ∧ t.now = s.instant at_ ∧ Keeps [.twin, .ledger, .blocks, .free] s t))

/-- Castling: request, CASTLE, ACK, its timeout, the takeover of TOKEN, release, rejoin and the proof test. An accepted CASTLE_REQUEST
of an ACTIVE module with a READY partner and no castling awaits the ACK; else CASTLE_RESULT is REFUSED; both renew CASTLE_NONCE
from the free value. CASTLE_RECEIVED by a READY standby at the final generation is acknowledged. CASTLE_ACK stops TOKEN, which
ends the ACTIVE role. CASTLE_ACK_TIMEOUT after 1 ms of a requested castling keeps TOKEN with CASTLE_RESULT NO_ACK.
STANDBY_TAKE_TOKEN of a READY standby under its conditions drives TOKEN, becomes ACTIVE, counts the castling and restarts all four
pairs. CASTLING_RELEASE resets the module that released TOKEN with start cause 8. An accepted REJOIN ends the hold. An accepted
PROOF_TEST whose first step fails reports step 1 and keeps the roles; with its steps passed it starts a castling.
(15_twin_redundancy R489; 15_twin_redundancy R490; 15_twin_redundancy R492; 15_twin_redundancy R496; 15_twin_redundancy R497;
15_twin_redundancy R499) -/
def Obligations.CastlingMovesTheToken : Prop :=
  (∀ (s : State) (at_ n : Nat) (w : Writer), s.accepts at_ w E.Castle.CASTLE_REQUEST.key .u32 (.num n) →
      s.active = true → s.twinBase = true → s.partnerReady = true → s.twin.awaiting = none → s.twin.taking = none →
    Completes (.castleRequest at_ w n) s (fun t => t.odStatus = 0 ∧ t.twin.awaiting = some (2, s.instant at_) ∧ t.twin.token = s.twin.token
      ∧ t.rd E.Castle.CASTLE_RESULT = 0xFF
      ∧ t.now = s.instant at_ ∧ Frame [.answer, .twin, .free] ([E.Castle.CASTLE_RESULT, E.Castle.CASTLE_NONCE] ++ genEnts) [] s t))
  ∧ (∀ (s : State) (at_ n : Nat) (w : Writer), s.accepts at_ w E.Castle.CASTLE_REQUEST.key .u32 (.num n) →
      s.active = false ∨ s.partnerReady = false ∨ s.twin.awaiting.isSome = true →
    Completes (.castleRequest at_ w n) s (fun t => t.odStatus = 0 ∧ t.rd E.Castle.CASTLE_RESULT = 2
      ∧ t.now = s.instant at_ ∧ Frame [.answer, .free] ([E.Castle.CASTLE_RESULT, E.Castle.CASTLE_NONCE] ++ genEnts) [] s t))
  ∧ (∀ (s : State) (at_ cause : Nat), s.standby = true → (s.advance at_).readyCause = 0 →
    Completes (.castleReceived at_ s.twin.gen cause) s (fun t => t.twin.acked = true ∧ t.twin.castleCause = some cause ∧ t.twin.castle = none
      ∧ t.twin.token = s.twin.token ∧ t.now = s.instant at_ ∧ Frame [.twin] [] [] s t))
  ∧ (∀ (s : State) (at_ : Nat), s.twin.token = true → ∀ a, s.twin.awaiting = some a →
    Completes (.castleAck at_) s (fun t => t.twin.token = false ∧ t.twin.stopAt = some (s.instant at_) ∧ t.twin.awaiting = none
      ∧ t.field.enable = false ∧ t.rd E.Twin.TWIN_ROLE = 2 ∧ (a.1 ≠ 1 → t.rd E.Castle.CASTLE_RESULT = 0) ∧ t.eop.sessions = []
      ∧ t.now = s.instant at_ ∧ Keeps [.twin, .field, .motion, .ledger, .safety, .power, .eop] s t))
  ∧ (∀ (s : State) (at_ : Nat), ∀ a, s.twin.awaiting = some a → a.1 ≠ 1 → a.1 ≠ 6 → a.2 + 1000000 ≤ s.instant at_ →
    Completes (.castleAckTimeout at_) s (fun t => t.twin.token = s.twin.token ∧ t.twin.awaiting = none ∧ t.rd E.Castle.CASTLE_RESULT = 1
      ∧ t.now = s.instant at_ ∧ Frame [.twin] [E.Castle.CASTLE_RESULT] [] s t))
  ∧ (∀ (s : State) (at_ cause : Nat), s.standby = true → s.twin.seenLogic = false → s.twin.seenField = false →
      s.twin.logicAt + 100000 ≤ s.instant at_ → s.twin.fieldAt + 100000 ≤ s.instant at_ →
      s.rd E.Twin.LINK_STATE = 2 ∨ (s.twin.partner.any (fun h => !h.token) = true ∧ s.instant at_ ≤ s.twin.heardAt + 200000) →
      (s.advance at_).readyCause = 0 ∨ ((s.advance at_).readyWithout 3 = 0 ∧ max s.twin.logicAt s.twin.fieldAt ≤ s.twin.heardAt + 500000) →
      s.twin.castleCause.getD cause < 256 →
    Completes (.standbyTakeToken at_ cause) s (fun t => t.twin.token = true ∧ t.rd E.Twin.TWIN_ROLE = 0 ∧ t.tally.running = true
      ∧ t.rd E.Castle.LAST_CASTLING_CAUSE = s.twin.castleCause.getD cause
      ∧ t.rd E.Castle.CASTLINGS = min (2 ^ 32 - 1) (s.rd E.Castle.CASTLINGS + 1)
      ∧ t.twin.taking = some (max s.twin.logicAt s.twin.fieldAt - 3000, s.twin.castleCause.getD cause)
      ∧ t.rd (E.Dbl.PAIR_STATE 0) = 2 ∧ t.rd (E.Dbl.PAIR_STATE 3) = 2
      ∧ t.now = s.instant at_ ∧ t.pending = s.pending))
  ∧ (∀ (s : State) (at_ : Nat), s.twinBase = true → s.twin.token = false → s.twin.stopAt.isSome = true → s.standby = false →
      s.power.boot = none → s.power.supplied = true → s.power.failAt = none →
    Completes (.castlingRelease at_) s (fun t => RestartDue 8 s t))
  ∧ (∀ (s : State) (at_ : Nat) (w : Writer), s.accepts at_ w E.Castle.REJOIN.key .bool (.num 1) →
    Completes (.rejoin at_ w) s (fun t => t.odStatus = 0 ∧ t.twin.held = false ∧ t.twin.token = s.twin.token
      ∧ t.now = s.instant at_ ∧ Frame [.answer, .twin, .ledger] (twinEnts ++ genEnts) [28] s t))
  ∧ (∀ (s : State) (at_ n : Nat) (w : Writer) (b : Bool), s.accepts at_ w E.Castle.PROOF_TEST.key .u32 (.num n) →
    Completes (.proofTest at_ w n false b) s (fun t => t.odStatus = 0 ∧ t.rd E.Castle.PROOF_RESULT = 1 ∧ t.twin.token = s.twin.token
      ∧ t.rd E.Twin.TWIN_ROLE = s.rd E.Twin.TWIN_ROLE
      ∧ t.now = s.instant at_ ∧ Frame retainParts (E.Castle.PROOF_RESULT :: E.Castle.CASTLE_NONCE :: ledgerEnts ++ retainEnts) [28, 31] s t))
  ∧ (∀ (s : State) (at_ n : Nat) (w : Writer), s.accepts at_ w E.Castle.PROOF_TEST.key .u32 (.num n) → s.twinBase = true →
      s.twin.awaiting = none → s.twin.taking = none →
    Completes (.proofTest at_ w n true true) s (fun t => t.odStatus = 0 ∧ t.twin.awaiting = some (6, s.instant at_) ∧ t.twin.token = s.twin.token
      ∧ t.now = s.instant at_ ∧ Frame [.answer, .twin, .free] (E.Castle.CASTLE_NONCE :: genEnts) [] s t))

/-- Pages, retired segments, the opening of the book, READ_BLOCK and the clearing of the Endgame Ring. FLUSH_PAGE takes its oldest
records out of the MRAM buffer and changes nothing else of the ledger. SEGMENT_RETIRED of a segment in use retires it, counts it,
and keeps the sequence and the buffer. An accepted BOOK_OPEN of a book that is UNOPENED opens it at the next sequence number with
N from BOOK_SIZE, and renews LEDGER_NONCE. An accepted READ_BLOCK answers whole records from the reader's cursor on and advances
that cursor past them, leaving every record in place. An accepted CLEAR_RING reports CLEARED, counts the clear and hides every
ring record before its own CLEARED record; the records themselves stay. (16_ledger R510; 16_ledger R511; 16_ledger R512; 16_ledger
R514; 16_ledger R515; 16_ledger R516) -/
def Obligations.LedgerPagesSegmentsAndReaders : Prop :=
  (∀ (s : State) (at_ n : Nat),
    Completes (.flushPage at_ n) s (fun t => t.ledger = { s.ledger with buffer := s.ledger.buffer.drop n }
      ∧ t.now = s.instant at_ ∧ Frame [.ledger] ledgerEnts [] s t))
  ∧ (∀ (s : State) (at_ k : Nat), k < 1024 → (s.ledger.journal.fetch {} k).retired = false →
    Completes (.segmentRetired at_ k) s (fun t =>
      ((s.ledger.journal.fetch {} k).recs = [] → (t.ledger.journal.fetch {} k).retired = true)
      ∧ t.rd E.Ldg.SEGMENTS_RETIRED = min (2 ^ 16 - 1) (s.rd E.Ldg.SEGMENTS_RETIRED + 1)
      ∧ t.ledger.next = s.ledger.next ∧ t.ledger.buffer = s.ledger.buffer ∧ t.ledger.hidden = s.ledger.hidden
      ∧ t.now = s.instant at_ ∧ Frame (.ledger :: retainParts) (E.Ldg.SEGMENTS_RETIRED :: ledgerEnts ++ retainEnts) [28, 31] s t))
  ∧ (∀ (s : State) (at_ n : Nat) (w : Writer), s.accepts at_ w E.Ldg.BOOK_OPEN.key .u32 (.num n) → s.ledger.bookState = 0 →
    Completes (.bookOpen at_ w n) s (fun t => t.odStatus = 0 ∧ t.ledger.bookFirst = s.ledger.next ∧ t.ledger.bookN = s.rd E.Ldg.BOOK_SIZE
      ∧ t.ledger.bookState ≠ 0 ∧ s.ledger.next < t.ledger.next
      ∧ t.now = s.instant at_ ∧ Frame [.answer, .ledger, .free] (E.Ldg.LEDGER_NONCE :: ledgerEnts ++ genEnts) [] s t))
  ∧ (∀ (s : State) (at_ : Nat) (w : Writer), (s.advance at_).servicesUp = true → (s.advance at_).writerOk w = true →
      ((s.advance at_).readEntry (readerOf w) E.Ldg.READ_BLOCK.key).1 = 0 → ∀ x, (s.advance at_).ledgerReader (readerOf w) = some x →
    Completes (.readBlock at_ w) s (fun t => t.odStatus = 0 ∧ t.odValue = (s.readBlock x.1 x.2.1).1
      ∧ (t.ledgerReader (readerOf w)).map (·.1) = some (s.readBlock x.1 x.2.1).2.1
      ∧ t.now = s.instant at_ ∧ Frame [.answer, .eop] [] [] s t))
  ∧ (∀ (s : State) (at_ : Nat) (w : Writer) (p : List Byte), s.accepts at_ w E.Ldg.CLEAR_RING.key .octets (.bytes p) →
    Completes (.clearRing at_ w p) s (fun t => t.odStatus = 0 ∧ t.rd E.Ldg.CLEAR_RESULT = 0
      ∧ t.rd E.Ldg.CLEARS = min (2 ^ 32 - 1) (s.rd E.Ldg.CLEARS + 1) ∧ t.ledger.hidden + 1 = t.ledger.next ∧ s.ledger.next ≤ t.ledger.hidden
      ∧ t.now = s.instant at_
      ∧ Frame retainParts ([E.Ldg.CLEAR_RESULT, E.Ldg.CLEARS, E.Ldg.CLEAR_CHALLENGE] ++ ledgerEnts ++ retainEnts) [28, 31] s t))

/-- Draw entries, updates, blanking intervals, phases, band checks and the panel temperature. An accepted SLATE_DRAW puts its entry at
the end of ring 44. SLATE_UPD_TAKE of a panel with fewer than 16 pending updates takes the oldest entry: an LCD's update waits
with its source; a bistable panel's is painted into TARGET and its shadow. LCD_VBLANK of an LCD that is ON writes the oldest
pending update into frame memory and shadow, and reports it DONE. PHASE_BOUNDARY of a bistable panel commits an update in its last
phase: each of its pixels in a good band takes the level driven, and the update is DONE; with none running it starts the oldest
pending update that may run. BAND_CHECK of a bad band of the panel counts it, and marks the band faulty where two repairs lie
within 10 s. PANEL_TEMP_READ stores the NTC's temperature, or the module's with TEMP_SOURCE 1. (17_slate_panel R521;
17_slate_panel R522; 17_slate_panel R523; 17_slate_panel R528; 17_slate_panel R529; 17_slate_panel R530) -/
def Obligations.PanelUpdatesReachThePanel : Prop :=
  (∀ (s : State) (at_ : Nat) (w : Writer) (b : List Byte), s.accepts at_ w E.Slate.SLATE_DRAW.key .octets (.bytes b) →
    Completes (.slateDraw at_ w b) s (fun t => t.odStatus = 0 ∧ (t.ring 44).q = (s.ring 44).q ++ [.slate (drawOf b s.pixelSize)]
      ∧ t.now = s.instant at_ ∧ Frame [.answer] genEnts [44] s t))
  ∧ (∀ (s : State) (at_ : Nat) (e : SlateUpd) (rest : List RingEntry), (s.ring 44).q = .slate e :: rest → (s.ring 44).waiting = [] →
      s.slate.type = 2 → s.slate.pend.length < 16 →
    Completes (.slateUpdTake at_) s (fun t => (t.ring 44).q = rest
      ∧ t.slate = { s.slate with pend := s.slate.pend ++ [{ id := e.id, wave := e.wave, rect := e.rect, src := some e }] }
      ∧ t.rd E.Slate.UPDATES_PENDING = s.slate.pend.length + 1
      ∧ t.now = s.instant at_ ∧ Frame [.slate] [E.Slate.UPDATES_RUNNING, E.Slate.UPDATES_PENDING] [44] s t))
  ∧ (∀ (s : State) (at_ : Nat) (e : SlateUpd) (rest : List RingEntry), (s.ring 44).q = .slate e :: rest → (s.ring 44).waiting = [] →
      s.slate.type = 1 → s.slate.pend.length < 16 →
    Completes (.slateUpdTake at_) s (fun t => (t.ring 44).q = rest ∧ t.slate.target = paint s.slate.target 3 2 e
      ∧ t.slate.shadow = paint s.slate.shadow 3 2 e ∧ t.slate.current = s.slate.current ∧ t.slate.running = s.slate.running
      ∧ t.slate.pend.getLast?.map (·.id) = some e.id
      ∧ (s.slate.pend = [] → t.slate.pend = [{ id := e.id, wave := e.wave, rect := e.rect }])
      ∧ t.now = s.instant at_ ∧ Frame [.slate] [E.Slate.UPDATES_RUNNING, E.Slate.UPDATES_PENDING, E.Slate.LAST_DONE_ID,
          E.Slate.LAST_RESULT, E.Slate.REPLACED_COUNT] [44] s t))
  ∧ (∀ (s : State) (at_ : Nat) (p : PanelUpd) (rest : List PanelUpd), s.slate.pend = p :: rest → ∀ e, p.src = some e →
      s.slate.type = 2 → s.panelOn = true → s.slate.blankAt + s.panelFrame ≤ s.instant at_ → s.slate.rewrite = [] → s.slate.running = [] →
      s.slate.downWanted = false → s.standby = false → s.on E.Slate.SERVICE_MODE = false → s.rd E.Slate.SLATE_MODE ≠ 1 → p.id < 2 ^ 32 →
    Completes (.lcdVblank at_) s (fun t => t.slate.lcd = paint s.slate.lcd 0 18 e ∧ t.slate.lcdShadow = paint s.slate.lcdShadow 0 18 e
      ∧ t.slate.pend = rest ∧ t.slate.blankAt = s.instant at_ ∧ t.rd E.Slate.LAST_DONE_ID = p.id ∧ t.rd E.Slate.LAST_RESULT = 0
      ∧ t.now = s.instant at_ ∧ Frame [.slate] [E.Slate.UPDATES_RUNNING, E.Slate.UPDATES_PENDING, E.Slate.LAST_DONE_ID,
          E.Slate.LAST_RESULT] [] s t))
  ∧ (∀ (s : State) (at_ : Nat) (u : RunUpd) (rest : List RunUpd), s.slate.running = u :: rest → rest = [] → u.left = 1 → s.slate.pend = [] →
      s.slate.type = 1 → s.panelOn = true → s.slate.phaseAt + s.phaseTime u.band ≤ s.instant at_ → s.slate.downWanted = false → u.id < 2 ^ 32 →
    Completes (.phaseBoundary at_) s (fun t => t.slate.running = [] ∧ t.slate.phaseAt = s.instant at_
      ∧ t.rd E.Slate.LAST_DONE_ID = u.id ∧ t.rd E.Slate.LAST_RESULT = 0
      ∧ (∀ k, Rect.has u.rect k = false ∨ drivable s.slate k = false → t.slate.current.fetch 3 k = s.slate.current.fetch 3 k
          ∧ t.slate.retained.fetch 3 k = s.slate.retained.fetch 3 k)
      ∧ (∀ k, Rect.has u.rect k = true → drivable s.slate k = true → u.wave ≠ 1 → t.slate.current.fetch 3 k = s.slate.latched.fetch 3 k)
      ∧ t.slate.target = s.slate.target
      ∧ t.now = s.instant at_ ∧ Frame [.slate] [E.Slate.UPDATES_RUNNING, E.Slate.UPDATES_PENDING, E.Slate.LAST_DONE_ID,
          E.Slate.LAST_RESULT] [] s t))
  ∧ (∀ (s : State) (at_ : Nat) (p : PanelUpd) (rest : List PanelUpd), s.slate.pend = p :: rest → s.slate.running = [] →
      s.slate.type = 1 → s.panelOn = true → s.slate.phaseAt + s.phaseTime (s.rd E.Slate.TEMP_BAND) ≤ s.instant at_ →
      s.slate.downWanted = false → s.standby = false → s.on E.Slate.SERVICE_MODE = false → s.rd E.Slate.SLATE_MODE ≠ 1 →
    Completes (.phaseBoundary at_) s (fun t => t.slate.running.head?.map (·.id) = some p.id
      ∧ t.slate.running.head?.map (·.band) = some (s.rd E.Slate.TEMP_BAND) ∧ t.slate.current = s.slate.current
      ∧ t.slate.retained = s.slate.retained ∧ t.slate.target = s.slate.target
      ∧ t.now = s.instant at_ ∧ Frame [.slate] [E.Slate.UPDATES_RUNNING, E.Slate.UPDATES_PENDING] [] s t))
  ∧ (∀ (s : State) (at_ band : Nat), s.slate.type ≠ 0 → 64 * band < s.rd E.Slate.V_ACTIVE →
    Completes (.bandCheck at_ band true) s (fun t => t.rd E.Slate.CRC_ERRORS = min (2 ^ 32 - 1) (s.rd E.Slate.CRC_ERRORS + 1)
      ∧ (band ∈ t.slate.faulty ↔ (band ∈ s.slate.faulty
          ∨ 2 ≤ ((s.slate.repairs.fetch [] band).filter (fun r => s.instant at_ ≤ r + 10000000000)).length))
      ∧ t.slate.shadow = s.slate.shadow ∧ t.slate.retained = s.slate.retained ∧ t.slate.lcdShadow = s.slate.lcdShadow
      ∧ (s.slate.type = 2 → band ∈ t.slate.rewrite)
      ∧ t.now = s.instant at_ ∧ Frame [.slate, .ledger] [E.Slate.CRC_ERRORS] [28] s t))
  ∧ (∀ (s : State) (at_ n : Nat), n < 2 ^ 32 →
    Completes (.panelTempRead at_ (some n)) s (fun t => t.rd E.Slate.PANEL_TEMP = n ∧ t.rd E.Slate.TEMP_SOURCE = 0 ∧ t.slate.tempRead = true
      ∧ (s.slate.tempRead = false → t.rd E.Slate.TEMP_BAND = bandOf n 0)
      ∧ t.now = s.instant at_ ∧ Frame [.slate] [E.Slate.PANEL_TEMP, E.Slate.TEMP_SOURCE, E.Slate.TEMP_BAND, E.Slate.VCOM_NOW] [] s t))
  ∧ (∀ (s : State) (at_ : Nat),
    Completes (.panelTempRead at_ none) s (fun t => t.rd E.Slate.PANEL_TEMP = s.rd E.Pwr.MOUNT_TEMP ∧ t.rd E.Slate.TEMP_SOURCE = 1
      ∧ t.now = s.instant at_ ∧ Frame [.slate] [E.Slate.PANEL_TEMP, E.Slate.TEMP_SOURCE, E.Slate.TEMP_BAND, E.Slate.VCOM_NOW] [] s t))

/-- Panel power sequences, rail faults, panel settings, the strip, the keys and service mode. SLATE_RAIL_FAULT of a panel in use
faults it: PANEL_STATE 4 and no update runs. PANEL_SEQUENCE_STEP at its time, outside the return of SUP in a power failure, takes
one step: a step of rails switches those rails on and off. An accepted PANEL_ENABLE true of a panel that is OFF starts its power-
up; false with updates running waits for them. An accepted PANEL_TYPE of a panel that is OFF and not enabled is in force at once;
an accepted WAVEFORM_SET is stored, and an accepted SLATE_MODE takes its value. STRIP_IDLE_EXPIRY at its time enters STRIP.
KEY_PRESS with keys in no special mode stores the levels and counts each new press. SERVICE_MODE_ENTER after 3 s of ENTER and BACK
in STOP enters service mode; SERVICE_MODE_EXIT after BACK held, 300 s without a press, or out of STOP leaves it. (17_slate_panel
R519; 17_slate_panel R524; 17_slate_panel R526; 17_slate_panel R527; 17_slate_panel R534; 17_slate_panel R535; 17_slate_panel
R536) -/
def Obligations.PanelPowerKeysAndModes : Prop :=
  (∀ (s : State) (at_ rail v : Nat), s.rd E.Slate.PANEL_STATE ≠ 0 → s.rd E.Slate.PANEL_STATE ≠ 4 → s.slate.type ≠ 0 →
    Completes (.slateRailFault at_ rail v) s (fun t => t.rd E.Slate.PANEL_STATE = 4 ∧ t.slate.running = [] ∧ t.slate.upWanted = false
      ∧ t.slate.downWanted = false ∧ t.slate.retained = s.slate.retained ∧ t.slate.dirty = s.slate.dirty
      ∧ t.now = s.instant at_ ∧ Frame [.slate, .ledger] [E.Slate.PANEL_STATE, E.Slate.LAST_DONE_ID, E.Slate.LAST_RESULT,
          E.Slate.UPDATES_RUNNING, E.Slate.UPDATES_PENDING, E.Slate.VCOM_NOW] [28] s t))
  ∧ (∀ (s : State) (at_ : Nat) (p : Nat × PanelStep) (rest : List (Nat × PanelStep)), s.slate.seq = p :: rest →
      s.slate.seqAt + p.1 ≤ s.instant at_ → (∀ q, rest.head? = some q → q.1 ≠ 0) → (rest = [] → s.slate.upWanted = false) → s.power.failAt = none ∨ s.power.supBack = false →
    Completes (.panelSequenceStep at_) s (fun t => t.slate.seq = rest ∧ t.slate.seqAt = s.instant at_
      ∧ (∀ on off, p.2 = .rails on off → ∀ k < 8, bitOf t.slate.rails k = (!off.contains k && (on.contains k || bitOf s.slate.rails k)))
      ∧ t.now = s.instant at_ ∧ Frame [.slate, .ledger] [E.Slate.PANEL_STATE, E.Slate.VCOM_NOW, E.Slate.DIRTY_REGIONS] [28] s t))
  ∧ (∀ (s : State) (at_ : Nat) (w : Writer), s.accepts at_ w E.Slate.PANEL_ENABLE.key .bool (.num 1) → s.rd E.Slate.PANEL_STATE = 0 →
      s.slate.seq = [] → s.rd E.Slate.PANEL_TYPE ≠ 0 →
    Completes (.panelEnableWrite at_ w true) s (fun t => t.odStatus = 0 ∧ t.rd E.Slate.PANEL_ENABLE = 1 ∧ t.rd E.Slate.PANEL_STATE = 1
      ∧ t.slate.type = s.rd E.Slate.PANEL_TYPE ∧ t.slate.seq ≠ [] ∧ t.now = s.instant at_
      ∧ Frame (.slate :: retainParts) ([E.Slate.PANEL_ENABLE, E.Slate.PANEL_STATE, E.Slate.VCOM_NOW, E.Slate.DIRTY_REGIONS] ++ retainEnts) [28, 31] s t))
  ∧ (∀ (s : State) (at_ : Nat) (w : Writer), s.accepts at_ w E.Slate.PANEL_ENABLE.key .bool (.num 0) → s.rd E.Slate.PANEL_STATE = 2 →
      s.slate.running ≠ [] →
    Completes (.panelEnableWrite at_ w false) s (fun t => t.odStatus = 0 ∧ t.rd E.Slate.PANEL_ENABLE = 0 ∧ t.rd E.Slate.PANEL_STATE = 2
      ∧ t.slate = { s.slate with upWanted := false, downWanted := true } ∧ t.now = s.instant at_
      ∧ Frame (.slate :: retainParts) (E.Slate.PANEL_ENABLE :: retainEnts) [28, 31] s t))
  ∧ (∀ (s : State) (at_ n : Nat) (w : Writer), s.accepts at_ w E.Slate.PANEL_TYPE.key .u8 (.num n) → s.rd E.Slate.PANEL_STATE = 0 →
      s.slate.seq = [] → s.on E.Slate.PANEL_ENABLE = false →
    Completes (.panelTypeWrite at_ w n) s (fun t => t.odStatus = 0 ∧ t.rd E.Slate.PANEL_TYPE = n ∧ t.slate.type = n
      ∧ t.slate.pend = s.slate.pend ∧ t.now = s.instant at_
      ∧ Frame (.slate :: retainParts) (E.Slate.PANEL_TYPE :: retainEnts) [28, 31] s t))
  ∧ (∀ (s : State) (at_ : Nat) (w : Writer) (b : List Byte), s.accepts at_ w E.Slate.WAVEFORM_SET.key .octets (.bytes b) →
    Completes (.waveformSetWrite at_ w b) s (fun t => t.odStatus = 0 ∧ t.rdB E.Slate.WAVEFORM_SET = b ∧ waveformOk b = true
      ∧ t.now = s.instant at_ ∧ Frame retainParts (E.Slate.WAVEFORM_SET :: retainEnts) [28, 31] s t))
  ∧ (∀ (s : State) (at_ n : Nat) (w : Writer), s.accepts at_ w E.Slate.SLATE_MODE.key .u8 (.num n) →
    Completes (.slateModeWrite at_ w n) s (fun t => StoresVolatile E.Slate.SLATE_MODE n s at_ t))
  ∧ (∀ (s : State) (at_ : Nat), s.rd E.Slate.STRIP_IDLE ≠ 0 → s.rd E.Slate.SLATE_MODE = 0 →
      s.slate.lastPress + 1000000000 * s.rd E.Slate.STRIP_IDLE ≤ s.instant at_ →
    Completes (.stripIdleExpiry at_) s (fun t => t.rd E.Slate.SLATE_MODE = 1 ∧ t.now = s.instant at_ ∧ Frame [] [E.Slate.SLATE_MODE] [] s t))
  ∧ (∀ (s : State) (at_ keys : Nat), s.standby = false → s.on E.Slate.SERVICE_MODE = false → s.rd E.Slate.SLATE_MODE ≠ 1 →
    Completes (.keyPress at_ keys) s (fun t => t.slate.keys = keys % 16 ∧ t.rd E.Slate.KEY_STATE = keys % 16
      ∧ (∀ k < 4, leAt (t.rdB E.Slate.KEY_PRESSES) (4 * k) 4 = if bitOf keys k && !bitOf s.slate.keys k
          then min 0xFFFFFFFF (leAt (s.rdB E.Slate.KEY_PRESSES) (4 * k) 4 + 1) else leAt (s.rdB E.Slate.KEY_PRESSES) (4 * k) 4)
      ∧ t.slate.pend = s.slate.pend ∧ t.now = s.instant at_
      ∧ Frame [.slate] [E.Slate.KEY_STATE, E.Slate.KEY_PRESSES, E.Slate.KEY_LAST_TB3] [] s t))
  ∧ (∀ (s : State) (at_ : Nat), s.standby = false → s.isStop = true → s.on E.Slate.SERVICE_MODE = false →
      ∀ b, s.slate.bothAt = some b → b + 3000000000 ≤ s.instant at_ →
    Completes (.serviceModeEnter at_) s (fun t => t.rd E.Slate.SERVICE_MODE = 1 ∧ t.slate.chan = 0 ∧ t.slate.pend = s.slate.pend
      ∧ t.now = s.instant at_ ∧ Frame [.slate, .ledger] [E.Slate.SERVICE_MODE] [28] s t))
  ∧ (∀ (s : State) (at_ : Nat), s.on E.Slate.SERVICE_MODE = true →
      s.slate.backAt.any (fun b => b + 3000000000 ≤ s.instant at_) = true ∨ s.slate.lastPress + 300000000000 ≤ s.instant at_ ∨ s.isStop = false →
    Completes (.serviceModeExit at_) s (fun t => t.rd E.Slate.SERVICE_MODE = 0
      ∧ (∀ i < 32, ∀ c, (t.ain i).capture = some c → c.keys = false)
      ∧ t.now = s.instant at_ ∧ Keeps [.field, .ledger, .blocks, .free, .twin] s t))

/-- SUP states, holdup energy, rail and clock faults, temperatures and operating hours. SUP_LOW below 18.0 V, SUP_HIGH above 32.0 V
and SUP_NORMAL back within the range set SUP_STATE and SUP_VOLTAGE, each recorded. HOLDUP_CHARGED stores the energy. RAIL_FAULT
outside a power failure and CLOCK_FAULT reset the logic side with start causes 0x0A and 9 and show RAIL_STATE and CLOCK_STATE; the
end of a clock fault clears CLOCK_STATE. THERMAL above 125 C resets with start cause 0x0B and holds the start; else it stores
ASIC_TEMP. THERMAL_STATE_CHANGE stores both temperatures and the state by the mounting face. OPERATING_HOUR counts the hours of
the module, of the proof test and of each brake output. (18_power_clocks_startup R541; 18_power_clocks_startup R542;
18_power_clocks_startup R543; 18_power_clocks_startup R553; 18_power_clocks_startup R563) -/
def Obligations.SupplyTemperatureAndClock : Prop :=
  (∀ (s : State) (at_ v : Nat), v < 2 ^ 32 → s.power.supplied = true → fmt32.lt v 0x41900000 = true → s.rd E.Pwr.SUP_STATE ≠ 1 →
      s.rd E.Pwr.SUP_STATE ≠ 3 →
    Completes (.supLow at_ v) s (fun t => t.rd E.Pwr.SUP_STATE = 1 ∧ t.rd E.Pwr.SUP_VOLTAGE = v ∧ t.now = s.instant at_
      ∧ Frame [.ledger] [E.Pwr.SUP_STATE, E.Pwr.SUP_VOLTAGE, E.Pwr.SUP_MIN, E.Pwr.SUP_MAX] [28] s t))
  ∧ (∀ (s : State) (at_ v : Nat), v < 2 ^ 32 → s.power.supplied = true → fmt32.lt 0x42000000 v = true → s.rd E.Pwr.SUP_STATE ≠ 2 →
      s.rd E.Pwr.SUP_STATE ≠ 3 →
    Completes (.supHigh at_ v) s (fun t => t.rd E.Pwr.SUP_STATE = 2 ∧ t.rd E.Pwr.SUP_VOLTAGE = v ∧ t.now = s.instant at_
      ∧ Frame [.ledger] [E.Pwr.SUP_STATE, E.Pwr.SUP_VOLTAGE, E.Pwr.SUP_MIN, E.Pwr.SUP_MAX] [28] s t))
  ∧ (∀ (s : State) (at_ v : Nat), v < 2 ^ 32 → s.power.supplied = true → fmt32.le 0x41900000 v = true → fmt32.le v 0x42000000 = true →
      s.rd E.Pwr.SUP_STATE = 1 ∨ s.rd E.Pwr.SUP_STATE = 2 →
    Completes (.supNormal at_ v) s (fun t => t.rd E.Pwr.SUP_STATE = 0 ∧ t.rd E.Pwr.SUP_VOLTAGE = v ∧ t.now = s.instant at_
      ∧ Frame [.ledger] [E.Pwr.SUP_STATE, E.Pwr.SUP_VOLTAGE, E.Pwr.SUP_MIN, E.Pwr.SUP_MAX] [28] s t))
  ∧ (∀ (s : State) (at_ e : Nat), e < 2 ^ 32 → s.power.supplied = true → s.power.failAt = none →
    Completes (.holdupCharged at_ e) s (fun t => t.rd E.Pwr.HOLDUP_ENERGY = e
      ∧ t.rd E.Pwr.HOLDUP_STATE = (if fmt32.lt e 0x40900000 then 2 else 1) ∧ t.now = s.instant at_
      ∧ Frame [.ledger] [E.Pwr.HOLDUP_ENERGY, E.Pwr.HOLDUP_STATE] [28] s t))
  ∧ (∀ (s : State) (at_ rail v : Nat), rail < 8 → s.power.supplied = true → s.power.failAt = none →
    Completes (.railFault at_ rail v) s (fun t => t.rd E.Pwr.RAIL_STATE = 2 ^ rail ∧ RestartDue 0x0A s t))
  ∧ (∀ (s : State) (at_ kind : Nat), s.power.supplied = true →
    Completes (.clockFault at_ kind true) s (fun t => t.rd E.Pwr.CLOCK_STATE = min 1 kind + 1 ∧ t.power.clockBad = true
      ∧ t.rd E.Pwr.CLOCK_FAULTS = min (2 ^ 32 - 1) (s.rd E.Pwr.CLOCK_FAULTS + 1) ∧ RestartDue 9 s t))
  ∧ (∀ (s : State) (at_ kind : Nat), s.power.supplied = true →
    Completes (.clockFault at_ kind false) s (fun t => t.rd E.Pwr.CLOCK_STATE = 0 ∧ t.power = { s.power with clockBad := false }
      ∧ t.now = s.instant at_ ∧ Frame [.power] [E.Pwr.CLOCK_STATE] [] s t))
  ∧ (∀ (s : State) (at_ j : Nat), s.power.supplied = true → fmt32.lt 0x42FA0000 j = true →
    Completes (.thermal at_ j) s (fun t => t.power.hot = true ∧ RestartDue 0x0B s t))
  ∧ (∀ (s : State) (at_ j : Nat), j < 2 ^ 32 → s.power.supplied = true → fmt32.lt 0x42FA0000 j = false →
    Completes (.thermal at_ j) s (fun t => t.rd E.Pwr.ASIC_TEMP = j ∧ t.power.boot = s.power.boot
      ∧ t.power.hot = (if fmt32.lt j 0x42C80000 then false else s.power.hot)
      ∧ t.now = s.instant at_ ∧ Frame [.power] [E.Pwr.ASIC_TEMP] [] s t))
  ∧ (∀ (s : State) (at_ m j : Nat), m < 2 ^ 32 → j < 2 ^ 32 →
    Completes (.thermalStateChange at_ m j) s (fun t => t.rd E.Pwr.MOUNT_TEMP = m ∧ t.rd E.Pwr.ASIC_TEMP = j
      ∧ t.rd E.Pwr.THERMAL_STATE = (if fmt32.lt 0x428C0000 m then 2 else if fmt32.lt 0x42700000 m then 1 else 0)
      ∧ t.rd E.Pwr.MOUNT_TEMP_MAX = (if fmt32.lt (s.rd E.Pwr.MOUNT_TEMP_MAX) m then m else s.rd E.Pwr.MOUNT_TEMP_MAX)
      ∧ t.now = s.instant at_
      ∧ Frame retainParts ([E.Pwr.MOUNT_TEMP, E.Pwr.ASIC_TEMP, E.Pwr.THERMAL_STATE, E.Pwr.MOUNT_TEMP_MAX] ++ retainEnts) [28, 31] s t))
  ∧ (∀ (s : State) (at_ : Nat), s.power.supplied = true → s.power.boot = none → s.power.hourAt + 3600000000000 ≤ s.instant at_ →
    Completes (.operatingHour at_) s (fun t => t.power = { s.power with hourAt := s.instant at_ }
      ∧ t.rd E.Pwr.OPERATING_HOURS = min (2 ^ 32 - 1) (s.rd E.Pwr.OPERATING_HOURS + 1)
      ∧ t.rd E.Castle.PROOF_AGE = min (2 ^ 32 - 1) (s.rd E.Castle.PROOF_AGE + 1)
      ∧ (∀ n < 8, t.rd (E.Sb.HT_AGE n) = min (2 ^ 32 - 1) (s.rd (E.Sb.HT_AGE n) + 1))
      ∧ t.now = s.instant at_ ∧ Keeps [.power, .twin, .ledger, .blocks, .free] s t))

/-- Power failure from its detection to its checkpoint, depletion or return, commanded restarts and starts. POWER_FAIL below 16.5 V
marks its instant, counts, sets SUP_STATE 3 and stops the Frame; with a READY partner TOKEN stops. POWER_FAIL_REDUCE 2 ms later
abandons every turn and takes the Twin Link down. PF_CHECKPOINT of at most a half, while SUP has not returned, stores the
committed state as the newest checkpoint, leaving the newest one before it. SUP_RETURNED after the checkpoint resets with start
cause 2. STORE_DEPLETED takes the supply away. POWER_ON supplies the module with a start of cause 1 due. Accepted restart requests
reset with causes 3 and 4. START without an acceptable slot leaves the boot controller alone with START_STEP 5; with both slots
acceptable the module starts, on a single base as ACTIVE with TOKEN driven when no pair failed its test. (18_power_clocks_startup
R544; 18_power_clocks_startup R546; 18_power_clocks_startup R547; 18_power_clocks_startup R548; 18_power_clocks_startup R549;
18_power_clocks_startup R555; 18_power_clocks_startup R557; 18_power_clocks_startup R560) -/
def Obligations.PowerFailureAndStarts : Prop :=
  (∀ (s : State) (at_ v : Nat), v < 2 ^ 32 → s.power.supplied = true → s.power.failAt = none → fmt32.lt v 0x41840000 = true →
    Completes (.powerFail at_ v) s (fun t => t.power.failAt = some (s.instant at_) ∧ t.rd E.Pwr.SUP_STATE = 3 ∧ t.rd E.Pwr.SUP_VOLTAGE = v
      ∧ t.rd E.Pwr.POWER_FAILS = min (2 ^ 32 - 1) (s.rd E.Pwr.POWER_FAILS + 1)
      ∧ t.twin.token = (s.twin.token && !((s.advance at_).partnerReady && s.twinBase))
      ∧ (∀ c ∈ t.frame.boards.cells, c.2.run = none) ∧ t.now = s.instant at_ ∧ t.pending = s.pending))
  ∧ (∀ (s : State) (at_ : Nat), ∀ f, s.power.failAt = some f → f + 2000000 ≤ s.instant at_ → s.power.reduced = false →
    Completes (.powerFailReduce at_) s (fun t => t.power.reduced = true ∧ t.power.failAt = some f ∧ t.rd E.Twin.LINK_STATE = 2
      ∧ t.twin.laneA = false ∧ t.twin.laneB = false ∧ (∀ k < 32, (t.task k).turn = none) ∧ t.now = s.instant at_ ∧ t.pending = s.pending))
  ∧ (∀ (s : State) (at_ : Nat), ∀ f, s.power.failAt = some f → s.power.ckptDone = false → s.standby = false → s.power.boot = none →
      s.power.supBack = false → s.rd E.Pwr.PF_CKPT_SIZE ≤ 7340032 →
    Completes (.pfCheckpoint at_) s (fun t => t.power.ckptDone = true ∧ t.rd E.Pwr.PF_CKPT_STATE = 1
      ∧ (∀ c, t.newestHalf.map (·.1) = some c → c.gen = ((s.newestHalf.map (·.1.gen)).getD 0 + 1) % 2 ^ 32
          ∧ c.archive = s.rd E.Online.ARCHIVE_ID ∧ c.node = s.rd E.Id.NODE_ID_ACTIVE ∧ c.saved = (s.advance at_).capture f)
      ∧ t.newestHalf ≠ none ∧ (∀ c, s.newestHalf = some c → (if c.2 then t.power.half1 else t.power.half0) = some c.1)
      ∧ t.now = s.instant at_ ∧ Frame [.power, .ledger] [E.Pwr.PF_CKPT_STATE] [28] s t))
  ∧ (∀ (s : State) (at_ : Nat), ∀ f, s.power.failAt = some f → s.power.ckptDone = true → s.slate.seq = [] → s.power.supplied = true →
    Completes (.supReturned at_) s (fun t => RestartDue 2 s t))
  ∧ (∀ (s : State) (at_ : Nat), s.power.failAt.isSome = true →
    Completes (.storeDepleted at_) s (fun t => t.power.supplied = false ∧ t.power.boot = some 1 ∧ t.now = 0 ∧ t.twin.token = false
      ∧ t.field.powered = false ∧ t.blocks = s.blocks ∧ t.pending = s.pending))
  ∧ (∀ (s : State) (at_ : Nat), s.power.supplied = false →
    Completes (.powerOn at_) s (fun t => RestartDue 1 s t ∧ t.field.powered = true ∧ t.blocks = s.blocks))
  ∧ (∀ (s : State) (at_ : Nat) (w : Writer), s.accepts at_ w E.Id.RESTART_REQUEST.key .u8 (.num 1) → s.power.supplied = true →
    Completes (.warmRestartRequest at_ w) s (fun t => t.odStatus = 0 ∧ RestartDue 3 s t))
  ∧ (∀ (s : State) (at_ : Nat) (w : Writer), s.accepts at_ w E.Id.RESTART_REQUEST.key .u8 (.num 2) → s.power.supplied = true →
    Completes (.coldRestartRequest at_ w) s (fun t => t.odStatus = 0 ∧ RestartDue 4 s t))
  ∧ (∀ (s : State) (at_ : Nat) (i : StartIn), s.power.boot.isSome = true → s.power.supplied = true → s.power.clockBad = false →
      s.power.hot = false → s.power.failAt = none → i.badA = true → i.badB = true →
    Completes (.start at_ i) s (fun t => t.power.boot = none ∧ t.power.bare = true ∧ t.rd E.Start.START_STEP = 5
      ∧ t.twin.token = s.twin.token ∧ t.now = s.instant at_ ∧ t.pending = s.pending))
  ∧ (∀ (s : State) (at_ : Nat) (i : StartIn), s.power.boot.isSome = true → s.power.supplied = true → s.power.clockBad = false →
      s.power.hot = false → s.power.failAt = none → i.badA = false → i.badB = false → s.power.trial = none →
      (s.slot 0).state = 1 → (s.slot 1).state = 1 → s.power.fuse ≤ (s.slot 0).security → s.power.fuse ≤ (s.slot 1).security →
    Completes (.start at_ i) s (fun t => t.power.boot = none ∧ t.power.bare = false ∧ t.rd E.Twin.TWIN_POSITION = i.base.val
      ∧ (i.base.val = 0 → t.twin.token = true ∧ t.rd E.Twin.TWIN_ROLE = 0 ∧ t.rd E.Start.START_STEP = 10)
      ∧ (i.tests = [] → i.base.val ≠ 3 → t.eop.invalid = [] → t.rd E.Id.MODULE_STATE = 1 ∧ ∀ d < 4, t.rd (E.Dbl.PAIR_STATE d) = 1 ∨ t.rd E.Twin.TWIN_ROLE = 1)
      ∧ t.now = s.instant at_ ∧ t.pending = s.pending))

/-- Firmware is staged in the slot not in use, checked, activated as a trial, and given up after its timeout. An accepted
FW_STAGE_DATA writes its bytes into the inactive slot from FW_STAGE_OFFSET on, leaves every other byte and advances the offset. An
accepted FW_STAGE_CHECK reports the first check that the image fails, and makes the slot VALID only where none fails; what the
bytes spell is an opaque reading of Config. An accepted FW_ACTIVATE makes the other slot the active one as a trial and resets with
start cause 6. TRIAL_TIMEOUT 120 s after the start of a trial makes its image unusable. (18_power_clocks_startup R554;
18_power_clocks_startup R556) -/
def Obligations.FirmwareSlotsAreStagedCheckedAndTried : Prop :=
  (∀ (s : State) (at_ : Nat) (w : Writer) (b : List Byte), s.accepts at_ w E.Start.FW_STAGE_DATA.key .octets (.bytes b) →
      ∀ k, k = s.otherSlot → ∀ o, o = s.rd E.Start.FW_STAGE_OFFSET →
    Completes (.fwStageData at_ w b) s (fun t => t.odStatus = 0
      ∧ (∀ i < b.length, (t.slot k).bytes.read (o + i) = b.getD i 0)
      ∧ (∀ a, a < o ∨ o + b.length ≤ a → (t.slot k).bytes.read a = (s.slot k).bytes.read a)
      ∧ (∀ j, j ≠ k → t.slot j = s.slot j) ∧ t.rd E.Start.FW_STAGE_OFFSET = o + b.length ∧ t.rd E.Start.FW_STAGE_RESULT = 0xFF
      ∧ t.now = s.instant at_ ∧ Frame [.answer, .power] ([E.Start.FW_STAGE_OFFSET, E.Start.FW_STAGE_RESULT] ++ genEnts) [] s t))
  ∧ (∀ (s : State) (at_ : Nat) (w : Writer), s.accepts at_ w E.Start.FW_STAGE_CHECK.key .bool (.num 1) →
      ∀ k, k = s.otherSlot →
    Completes (.fwStageCheck at_ w) s (fun t => t.odStatus = 0 ∧ ((t.slot k).state = 1 ↔ t.rd E.Start.FW_STAGE_RESULT = 0)
      ∧ t.rd E.Start.FW_STAGE_RESULT = fwCheck (Config.fwReading ((s.slot k).bytes.readList 0
          ((s.slot k).bytes.cells.getLast?.elim 0 (fun c => c.1 + 1)))) s.power.fuse
      ∧ (t.slot k).bytes = (s.slot k).bytes ∧ (∀ j, j ≠ k → t.slot j = s.slot j)
      ∧ t.now = s.instant at_ ∧ Frame [.answer, .power] (E.Start.FW_STAGE_RESULT :: genEnts) [] s t))
  ∧ (∀ (s : State) (at_ n : Nat) (w : Writer), s.accepts at_ w E.Start.FW_ACTIVATE.key .u32 (.num n) → s.power.supplied = true →
    Completes (.fwActivate at_ w n) s (fun t => t.odStatus = 0 ∧ t.power.trial = some s.otherSlot ∧ (t.slot s.otherSlot).state = 3
      ∧ RestartDue 6 s t))
  ∧ (∀ (s : State) (at_ : Nat), ∀ k, s.power.trial = some k → s.power.boot = none → 120000000000 ≤ s.instant at_ →
    Completes (.trialTimeout at_) s (fun t => t.slot k = { s.slot k with state := 2 } ∧ (∀ j, j ≠ k → t.slot j = s.slot j)
      ∧ t.power.trial = some k ∧ t.now = s.instant at_ ∧ Frame [.power] [] [] s t))
end

