-- ==== Sys2Proof/Laws/Bits.lean ====
section
/-!
SUPPORT. Laws/Bits.lean: setting one bit of a number and reading another.
-/
namespace Sys2Proof.Machine

/-- The bit that was set reads as it was set. -/
@[simp] theorem bitOf_setBit_self (n i : Nat) (b : Bool) : bitOf (setBit n i b) i = b := by
  unfold setBit; split
  · rename_i h; simpa using h
  · rename_i h
    have hp := Nat.two_pow_pos i
    unfold bitOf at *
    cases b
    · simp only [Bool.false_eq_true, if_false] at *
      have h1 : n / 2 ^ i % 2 = 1 := by simpa using h
      have h2 : (n - 2 ^ i) / 2 ^ i = n / 2 ^ i - 1 := by
        rw [show n - 2 ^ i = n - 2 ^ i * 1 by simp, Nat.sub_mul_div]
      rw [h2]; simp; omega
    · simp only [if_true] at *
      have h1 : ¬ n / 2 ^ i % 2 = 1 := by simpa using h
      rw [Nat.add_div_right _ hp]; simp; omega

theorem div_two_pow_add (n i k : Nat) : n / 2 ^ (i + 1 + k) = n / 2 ^ i / 2 / 2 ^ k := by
  rw [Nat.pow_add, Nat.pow_succ, ← Nat.div_div_eq_div_mul, ← Nat.div_div_eq_div_mul]

/-- Setting a bit leaves every other bit alone. -/
@[simp] theorem bitOf_setBit_ne (n : Nat) {i j : Nat} (b : Bool) (h : j ≠ i) : bitOf (setBit n i b) j = bitOf n j := by
  have hp := Nat.two_pow_pos i
  unfold setBit; split
  · rfl
  · rename_i hb
    unfold bitOf at *
    have key : ∀ m, m / 2 ^ i % 2 = 0 → (m + 2 ^ i) / 2 ^ j % 2 = m / 2 ^ j % 2 := by
      intro m hm
      rcases Nat.lt_or_gt_of_ne h with hl | hg
      · obtain ⟨k, rfl⟩ := Nat.exists_eq_add_of_lt hl
        have : m + 2 ^ (j + k + 1) = m + 2 ^ j * (2 * 2 ^ k) := by
          rw [show j + k + 1 = j + (k + 1) by omega, Nat.pow_add, Nat.pow_succ]; ring
        rw [this, Nat.add_mul_div_left _ _ (Nat.two_pow_pos j)]; omega
      · obtain ⟨k, rfl⟩ := Nat.exists_eq_add_of_lt hg
        rw [show i + k + 1 = i + 1 + k by omega, div_two_pow_add, div_two_pow_add, Nat.add_div_right _ hp]
        congr 2; omega
    cases b
    · simp only [Bool.false_eq_true, if_false]
      have h1 : n / 2 ^ i % 2 = 1 := by simpa using hb
      have hle : 2 ^ i ≤ n := by
        rcases Nat.lt_or_ge n (2 ^ i) with hlt | hge
        · rw [Nat.div_eq_of_lt hlt] at h1; omega
        · exact hge
      have h2 : (n - 2 ^ i) / 2 ^ i % 2 = 0 := by
        rw [show n - 2 ^ i = n - 2 ^ i * 1 by simp, Nat.sub_mul_div]; omega
      have := key (n - 2 ^ i) h2
      rw [Nat.sub_add_cancel hle] at this
      rw [this]
    · simp only [if_true]
      have h1 : ¬ n / 2 ^ i % 2 = 1 := by simpa using hb
      rw [key n (by omega)]

/-- A number cut to `w` bits has the same bits below `w`. -/
theorem bitOf_mod (n : Nat) {i w : Nat} (h : i < w) : bitOf (n % 2 ^ w) i = bitOf n i := by
  unfold bitOf
  obtain ⟨k, rfl⟩ := Nat.exists_eq_add_of_lt h
  rw [show i + k + 1 = i + (k + 1) by omega, Nat.pow_add, Nat.mod_mul_right_div_self, Nat.pow_succ,
    Nat.mod_mul_left_mod]

end Sys2Proof.Machine
end

