-- ==== Sys2Proof/Laws/Maps.lean ====
section
/-!
SUPPORT. Laws/Maps.lean: reading after writing a sparse map or an addressed buffer, and that every operation keeps the
canonical form.
-/
namespace Sys2Proof.Machine

theorem cellAt_put_self {α : Type} (m : List (Nat × α)) (k : Nat) (v : α) : cellAt (cellPut m k v) k = some v := by
  induction m with
  | nil => simp [cellPut, cellAt]
  | cons c m ih =>
    obtain ⟨j, w⟩ := c
    by_cases h1 : k < j
    · simp [cellPut, cellAt, h1]
    · by_cases h2 : j = k
      · simp [cellPut, cellAt, h2]
      · simp [cellPut, cellAt, h1, h2, ih]

theorem cellAt_put_ne {α : Type} (m : List (Nat × α)) {k j : Nat} (v : α) (h : j ≠ k) : cellAt (cellPut m k v) j = cellAt m j := by
  induction m with
  | nil => simp [cellPut, cellAt, Ne.symm h]
  | cons c m ih =>
    obtain ⟨i, w⟩ := c
    by_cases h1 : k < i
    · simp [cellPut, cellAt, h1, Ne.symm h]
    · by_cases h2 : i = k
      · subst h2; simp [cellPut, cellAt, Ne.symm h]
      · simp [cellPut, cellAt, h1, h2, ih]

theorem cellAt_drop_self {α : Type} (m : List (Nat × α)) (k : Nat) : cellAt (cellDrop m k) k = none := by
  induction m with
  | nil => rfl
  | cons c m ih =>
    obtain ⟨j, w⟩ := c
    by_cases h : j = k
    · simp [cellDrop, h, ih]
    · simp [cellDrop, cellAt, h, ih]

theorem cellAt_drop_ne {α : Type} (m : List (Nat × α)) {k j : Nat} (h : j ≠ k) : cellAt (cellDrop m k) j = cellAt m j := by
  induction m with
  | nil => rfl
  | cons c m ih =>
    obtain ⟨i, w⟩ := c
    by_cases h1 : i = k
    · subst h1; simp [cellDrop, cellAt, ih, Ne.symm h]
    · simp [cellDrop, cellAt, h1, ih]

theorem risingFrom_mono {α : Type} {m : List (Nat × α)} {a b : Nat} (h : a ≤ b) (hm : risingFrom b m = true) : risingFrom a m = true := by
  cases m with
  | nil => rfl
  | cons c m => obtain ⟨j, w⟩ := c; simp only [risingFrom, Bool.and_eq_true, decide_eq_true_eq] at *; exact ⟨by omega, hm.2⟩

theorem risingFrom_put {α : Type} (m : List (Nat × α)) (a k : Nat) (v : α) (h : risingFrom a m = true) (hk : a < k) :
    risingFrom a (cellPut m k v) = true := by
  induction m generalizing a with
  | nil => simp [cellPut, risingFrom, hk]
  | cons c m ih =>
    obtain ⟨j, w⟩ := c
    simp only [risingFrom, Bool.and_eq_true, decide_eq_true_eq] at h
    by_cases h1 : k < j
    · simp [cellPut, risingFrom, h1, hk, h.2]
    · by_cases h2 : j = k
      · subst h2; simp [cellPut, risingFrom, h]
      · simp only [cellPut, h1, h2, if_false, risingFrom, Bool.and_eq_true, decide_eq_true_eq]
        exact ⟨h.1, ih j h.2 (by omega)⟩

theorem risingFrom_drop {α : Type} (m : List (Nat × α)) (a k : Nat) (h : risingFrom a m = true) : risingFrom a (cellDrop m k) = true := by
  induction m generalizing a with
  | nil => rfl
  | cons c m ih =>
    obtain ⟨j, w⟩ := c
    simp only [risingFrom, Bool.and_eq_true, decide_eq_true_eq] at h
    by_cases h1 : j = k
    · simp only [cellDrop, h1, if_true]
      exact ih a (risingFrom_mono (Nat.le_of_lt h.1) h.2)
    · simp only [cellDrop, h1, if_false, risingFrom, Bool.and_eq_true, decide_eq_true_eq]
      exact ⟨h.1, ih j h.2⟩

theorem risingFrom_filter {α : Type} (p : Nat × α → Bool) (m : List (Nat × α)) (a : Nat) (h : risingFrom a m = true) :
    risingFrom a (m.filter p) = true := by
  induction m generalizing a with
  | nil => rfl
  | cons c m ih =>
    obtain ⟨j, w⟩ := c
    simp only [risingFrom, Bool.and_eq_true, decide_eq_true_eq] at h
    by_cases hp : p (j, w) = true
    · simp only [List.filter_cons, hp, if_true, risingFrom, Bool.and_eq_true, decide_eq_true_eq]
      exact ⟨h.1, ih j h.2⟩
    · simp only [List.filter_cons, hp]
      exact ih a (risingFrom_mono (Nat.le_of_lt h.1) h.2)

theorem rising_of_from {α : Type} {m : List (Nat × α)} {a : Nat} (h : risingFrom a m = true) : rising m = true := by
  cases m with
  | nil => rfl
  | cons c m => obtain ⟨j, w⟩ := c; simp [risingFrom] at h; simpa [rising] using h.2

theorem rising_put {α : Type} (m : List (Nat × α)) (k : Nat) (v : α) (h : rising m = true) : rising (cellPut m k v) = true := by
  cases m with
  | nil => rfl
  | cons c m =>
    obtain ⟨j, w⟩ := c
    by_cases h1 : k < j
    · simp [cellPut, rising, risingFrom, h1]; exact h
    · by_cases h2 : j = k
      · subst h2; simpa [cellPut, rising] using h
      · simp only [cellPut, h1, h2, if_false, rising]
        exact risingFrom_put m j k v h (by omega)

theorem rising_drop {α : Type} (m : List (Nat × α)) (k : Nat) (h : rising m = true) : rising (cellDrop m k) = true := by
  cases m with
  | nil => rfl
  | cons c m =>
    obtain ⟨j, w⟩ := c
    by_cases h1 : j = k
    · simp only [cellDrop, h1, if_true]; exact rising_of_from (risingFrom_drop m j k h)
    · simp only [cellDrop, h1, if_false, rising]; exact risingFrom_drop m j k h

theorem rising_filter {α : Type} (p : Nat × α → Bool) (m : List (Nat × α)) (h : rising m = true) : rising (m.filter p) = true := by
  cases m with
  | nil => rfl
  | cons c m =>
    obtain ⟨j, w⟩ := c
    by_cases hp : p (j, w) = true
    · simp only [List.filter_cons, hp, if_true, rising]; exact risingFrom_filter p m j h
    · simp only [List.filter_cons, hp]; exact rising_of_from (risingFrom_filter p m j h)

theorem all_put {α : Type} (q : Nat × α → Bool) (m : List (Nat × α)) (k : Nat) (v : α) (h : m.all q = true) (hv : q (k, v) = true) :
    (cellPut m k v).all q = true := by
  induction m with
  | nil => simp [cellPut, hv]
  | cons c m ih =>
    obtain ⟨j, w⟩ := c
    simp only [List.all_cons, Bool.and_eq_true] at h
    by_cases h1 : k < j
    · simp [cellPut, h1, hv, h.1]; simpa using h.2
    · by_cases h2 : j = k
      · simp [cellPut, h2, hv]; simpa using h.2
      · simp only [cellPut, h1, h2, if_false, List.all_cons, Bool.and_eq_true]; exact ⟨h.1, ih h.2⟩

theorem all_drop {α : Type} (q : Nat × α → Bool) (m : List (Nat × α)) (k : Nat) (h : m.all q = true) : (cellDrop m k).all q = true := by
  induction m with
  | nil => rfl
  | cons c m ih =>
    obtain ⟨j, w⟩ := c
    simp only [List.all_cons, Bool.and_eq_true] at h
    by_cases h1 : j = k
    · simp only [cellDrop, h1, if_true]; exact ih h.2
    · simp only [cellDrop, h1, if_false, List.all_cons, Bool.and_eq_true]; exact ⟨h.1, ih h.2⟩

end Sys2Proof.Machine

namespace Sys2Proof.SMap
open Sys2Proof.Machine

variable {α : Type}

@[simp] theorem find_put_self (m : SMap α) (k : Nat) (v : α) : (m.put k v).find k = some v := cellAt_put_self m.cells k v
@[simp] theorem find_put_ne (m : SMap α) {k j : Nat} (v : α) (h : j ≠ k) : (m.put k v).find j = m.find j := cellAt_put_ne m.cells v h
@[simp] theorem find_drop_self (m : SMap α) (k : Nat) : (m.drop k).find k = none := cellAt_drop_self m.cells k
@[simp] theorem find_drop_ne (m : SMap α) {k j : Nat} (h : j ≠ k) : (m.drop k).find j = m.find j := cellAt_drop_ne m.cells h

/-- Reading the key that was just written gives the value. -/
@[simp] theorem fetch_put_self (m : SMap α) (d : α) (k : Nat) (v : α) : (m.put k v).fetch d k = v := by simp [fetch]
@[simp] theorem fetch_put_ne (m : SMap α) (d : α) {k j : Nat} (v : α) (h : j ≠ k) : (m.put k v).fetch d j = m.fetch d j := by simp [fetch, h]

variable [DecidableEq α]

theorem find_store_self (m : SMap α) (d : α) (k : Nat) (v : α) : (m.store d k v).find k = if v = d then none else some v := by
  unfold store; split
  · exact find_drop_self m k
  · exact find_put_self m k v

@[simp] theorem find_store_ne (m : SMap α) (d : α) {k j : Nat} (v : α) (h : j ≠ k) : (m.store d k v).find j = m.find j := by
  unfold store; split
  · exact find_drop_ne m h
  · exact find_put_ne m v h

/-- Reading the key that was just written gives the value; a default is read though it is not listed. -/
@[simp] theorem fetch_store_self (m : SMap α) (d : α) (k : Nat) (v : α) : (m.store d k v).fetch d k = v := by
  simp only [fetch, find_store_self]; split
  · next h => simp [h]
  · rfl
@[simp] theorem fetch_store_ne (m : SMap α) (d : α) {k j : Nat} (v : α) (h : j ≠ k) : (m.store d k v).fetch d j = m.fetch d j := by
  simp [fetch, h]
@[simp] theorem fetch_modify_self (m : SMap α) (d : α) (k : Nat) (f : α → α) : (m.modify d k f).fetch d k = f (m.fetch d k) := by
  simp [modify]
@[simp] theorem fetch_modify_ne (m : SMap α) (d : α) {k j : Nat} (f : α → α) (h : j ≠ k) : (m.modify d k f).fetch d j = m.fetch d j := by
  simp [modify, h]

theorem rising_store (m : SMap α) (d : α) (k : Nat) (v : α) (h : rising m.cells = true) : rising (m.store d k v).cells = true := by
  unfold store; split
  · exact rising_drop m.cells k h
  · exact rising_put m.cells k v h

/-- A write keeps the canonical form. -/
theorem wf_store (m : SMap α) (d : α) (k : Nat) (v : α) (h : m.wf d = true) : (m.store d k v).wf d = true := by
  simp only [wf, Bool.and_eq_true] at *
  refine ⟨rising_store m d k v h.1, ?_⟩
  unfold store; split
  · exact all_drop _ m.cells k h.2
  · next hv => exact all_put _ m.cells k v h.2 (by simpa using hv)

theorem wf_modify (m : SMap α) (d : α) (k : Nat) (f : α → α) (h : m.wf d = true) : (m.modify d k f).wf d = true :=
  wf_store m d k _ h

theorem wf_drop (m : SMap α) (d : α) (k : Nat) (h : m.wf d = true) : (m.drop k).wf d = true := by
  simp only [wf, Bool.and_eq_true] at *
  exact ⟨rising_drop m.cells k h.1, all_drop _ m.cells k h.2⟩

theorem wf_keep (m : SMap α) (d : α) (p : Nat → Bool) (h : m.wf d = true) : (m.keep p).wf d = true := by
  simp only [wf, Bool.and_eq_true] at *
  refine ⟨rising_filter _ m.cells h.1, ?_⟩
  rw [List.all_eq_true] at *
  intro x hx
  exact h.2 x (List.mem_of_mem_filter hx)

end Sys2Proof.SMap

namespace Sys2Proof.Memory
open Sys2Proof.Machine

/-- A read after a write to the same address gives the byte written. -/
@[simp] theorem read_write_self (m : Memory) (a : Nat) (b : Byte) : read (write m a b) a = b := SMap.fetch_store_self m 0 a b

/-- A write leaves every other address alone. -/
@[simp] theorem read_write_ne (m : Memory) {a c : Nat} (b : Byte) (h : c ≠ a) : read (write m a b) c = read m c :=
  SMap.fetch_store_ne m 0 b h

theorem wf_write (m : Memory) (a : Nat) (b : Byte) (h : wf m = true) : wf (write m a b) = true := SMap.wf_store m 0 a b h

theorem wf_writeList (bs : List Byte) (m : Memory) (a : Nat) (h : wf m = true) : wf (writeList m a bs) = true := by
  induction bs generalizing m a with
  | nil => exact h
  | cons b bs ih => exact ih (write m a b) (a + 1) (wf_write m a b h)

/-- Bytes written at `a` leave every address outside them alone. -/
theorem read_writeList_outside (bs : List Byte) (m : Memory) (a c : Nat) (h : c < a ∨ a + bs.length ≤ c) :
    read (writeList m a bs) c = read m c := by
  induction bs generalizing m a with
  | nil => rfl
  | cons b bs ih =>
    simp only [List.length_cons] at h
    simp only [writeList]
    rw [ih (write m a b) (a + 1) (by omega), read_write_ne m b (by omega)]

/-- Bytes written at `a` are read there. -/
theorem read_writeList_inside (bs : List Byte) (m : Memory) (a i : Nat) (h : i < bs.length) :
    read (writeList m a bs) (a + i) = bs[i] := by
  induction bs generalizing m a i with
  | nil => simp at h
  | cons b bs ih =>
    simp only [writeList]
    cases i with
    | zero => rw [read_writeList_outside bs _ _ _ (by omega)]; simp
    | succ i =>
      simp only [List.length_cons] at h
      have := ih (write m a b) (a + 1) i (by omega)
      simpa [Nat.add_assoc, Nat.add_comm 1] using this

theorem wf_empty : wf {} = true := rfl

end Sys2Proof.Memory
end

