-- ==== Sys2Proof/Laws/State.lean ====
section
/-!
SUPPORT. Laws/State.lean: what the named updates of the state leave alone, one lemma per field per update, and what an entry of
the dictionary reads after a write.
-/
namespace Sys2Proof.Machine

@[simp] theorem State.put_now (s : State) (e : Ent) (v : Value) : (s.put e v).now = s.now := rfl
@[simp] theorem State.put_blocks (s : State) (e : Ent) (v : Value) : (s.put e v).blocks = s.blocks := rfl
@[simp] theorem State.put_freeCtr (s : State) (e : Ent) (v : Value) : (s.put e v).freeCtr = s.freeCtr := rfl
@[simp] theorem State.put_rings (s : State) (e : Ent) (v : Value) : (s.put e v).rings = s.rings := rfl
@[simp] theorem State.put_odStatus (s : State) (e : Ent) (v : Value) : (s.put e v).odStatus = s.odStatus := rfl
@[simp] theorem State.put_odValue (s : State) (e : Ent) (v : Value) : (s.put e v).odValue = s.odValue := rfl
@[simp] theorem State.put_j16 (s : State) (e : Ent) (v : Value) : (s.put e v).j16 = s.j16 := rfl
@[simp] theorem State.put_eop (s : State) (e : Ent) (v : Value) : (s.put e v).eop = s.eop := rfl
@[simp] theorem State.put_rt (s : State) (e : Ent) (v : Value) : (s.put e v).rt = s.rt := rfl
@[simp] theorem State.put_pairs (s : State) (e : Ent) (v : Value) : (s.put e v).pairs = s.pairs := rfl
@[simp] theorem State.put_frame (s : State) (e : Ent) (v : Value) : (s.put e v).frame = s.frame := rfl
@[simp] theorem State.put_tally (s : State) (e : Ent) (v : Value) : (s.put e v).tally = s.tally := rfl
@[simp] theorem State.put_time (s : State) (e : Ent) (v : Value) : (s.put e v).time = s.time := rfl
@[simp] theorem State.put_net (s : State) (e : Ent) (v : Value) : (s.put e v).net = s.net := rfl
@[simp] theorem State.put_ecx (s : State) (e : Ent) (v : Value) : (s.put e v).ecx = s.ecx := rfl
@[simp] theorem State.put_can (s : State) (e : Ent) (v : Value) : (s.put e v).can = s.can := rfl
@[simp] theorem State.put_ledger (s : State) (e : Ent) (v : Value) : (s.put e v).ledger = s.ledger := rfl
@[simp] theorem State.put_field (s : State) (e : Ent) (v : Value) : (s.put e v).field = s.field := rfl
@[simp] theorem State.put_motion (s : State) (e : Ent) (v : Value) : (s.put e v).motion = s.motion := rfl
@[simp] theorem State.put_safety (s : State) (e : Ent) (v : Value) : (s.put e v).safety = s.safety := rfl
@[simp] theorem State.put_twin (s : State) (e : Ent) (v : Value) : (s.put e v).twin = s.twin := rfl
@[simp] theorem State.put_slate (s : State) (e : Ent) (v : Value) : (s.put e v).slate = s.slate := rfl
@[simp] theorem State.put_power (s : State) (e : Ent) (v : Value) : (s.put e v).power = s.power := rfl
@[simp] theorem State.put_pending (s : State) (e : Ent) (v : Value) : (s.put e v).pending = s.pending := rfl

@[simp] theorem State.wr_now (s : State) (e : Ent) (n : Nat) : (s.wr e n).now = s.now := rfl
@[simp] theorem State.wr_blocks (s : State) (e : Ent) (n : Nat) : (s.wr e n).blocks = s.blocks := rfl
@[simp] theorem State.wr_freeCtr (s : State) (e : Ent) (n : Nat) : (s.wr e n).freeCtr = s.freeCtr := rfl
@[simp] theorem State.wr_rings (s : State) (e : Ent) (n : Nat) : (s.wr e n).rings = s.rings := rfl
@[simp] theorem State.wr_odStatus (s : State) (e : Ent) (n : Nat) : (s.wr e n).odStatus = s.odStatus := rfl
@[simp] theorem State.wr_odValue (s : State) (e : Ent) (n : Nat) : (s.wr e n).odValue = s.odValue := rfl
@[simp] theorem State.wr_j16 (s : State) (e : Ent) (n : Nat) : (s.wr e n).j16 = s.j16 := rfl
@[simp] theorem State.wr_eop (s : State) (e : Ent) (n : Nat) : (s.wr e n).eop = s.eop := rfl
@[simp] theorem State.wr_rt (s : State) (e : Ent) (n : Nat) : (s.wr e n).rt = s.rt := rfl
@[simp] theorem State.wr_pairs (s : State) (e : Ent) (n : Nat) : (s.wr e n).pairs = s.pairs := rfl
@[simp] theorem State.wr_frame (s : State) (e : Ent) (n : Nat) : (s.wr e n).frame = s.frame := rfl
@[simp] theorem State.wr_tally (s : State) (e : Ent) (n : Nat) : (s.wr e n).tally = s.tally := rfl
@[simp] theorem State.wr_time (s : State) (e : Ent) (n : Nat) : (s.wr e n).time = s.time := rfl
@[simp] theorem State.wr_net (s : State) (e : Ent) (n : Nat) : (s.wr e n).net = s.net := rfl
@[simp] theorem State.wr_ecx (s : State) (e : Ent) (n : Nat) : (s.wr e n).ecx = s.ecx := rfl
@[simp] theorem State.wr_can (s : State) (e : Ent) (n : Nat) : (s.wr e n).can = s.can := rfl
@[simp] theorem State.wr_ledger (s : State) (e : Ent) (n : Nat) : (s.wr e n).ledger = s.ledger := rfl
@[simp] theorem State.wr_field (s : State) (e : Ent) (n : Nat) : (s.wr e n).field = s.field := rfl
@[simp] theorem State.wr_motion (s : State) (e : Ent) (n : Nat) : (s.wr e n).motion = s.motion := rfl
@[simp] theorem State.wr_safety (s : State) (e : Ent) (n : Nat) : (s.wr e n).safety = s.safety := rfl
@[simp] theorem State.wr_twin (s : State) (e : Ent) (n : Nat) : (s.wr e n).twin = s.twin := rfl
@[simp] theorem State.wr_slate (s : State) (e : Ent) (n : Nat) : (s.wr e n).slate = s.slate := rfl
@[simp] theorem State.wr_power (s : State) (e : Ent) (n : Nat) : (s.wr e n).power = s.power := rfl
@[simp] theorem State.wr_pending (s : State) (e : Ent) (n : Nat) : (s.wr e n).pending = s.pending := rfl

@[simp] theorem State.wrI_now (s : State) (e : Ent) (i : Int) : (s.wrI e i).now = s.now := rfl
@[simp] theorem State.wrI_blocks (s : State) (e : Ent) (i : Int) : (s.wrI e i).blocks = s.blocks := rfl
@[simp] theorem State.wrI_freeCtr (s : State) (e : Ent) (i : Int) : (s.wrI e i).freeCtr = s.freeCtr := rfl
@[simp] theorem State.wrI_rings (s : State) (e : Ent) (i : Int) : (s.wrI e i).rings = s.rings := rfl
@[simp] theorem State.wrI_odStatus (s : State) (e : Ent) (i : Int) : (s.wrI e i).odStatus = s.odStatus := rfl
@[simp] theorem State.wrI_odValue (s : State) (e : Ent) (i : Int) : (s.wrI e i).odValue = s.odValue := rfl
@[simp] theorem State.wrI_j16 (s : State) (e : Ent) (i : Int) : (s.wrI e i).j16 = s.j16 := rfl
@[simp] theorem State.wrI_eop (s : State) (e : Ent) (i : Int) : (s.wrI e i).eop = s.eop := rfl
@[simp] theorem State.wrI_rt (s : State) (e : Ent) (i : Int) : (s.wrI e i).rt = s.rt := rfl
@[simp] theorem State.wrI_pairs (s : State) (e : Ent) (i : Int) : (s.wrI e i).pairs = s.pairs := rfl
@[simp] theorem State.wrI_frame (s : State) (e : Ent) (i : Int) : (s.wrI e i).frame = s.frame := rfl
@[simp] theorem State.wrI_tally (s : State) (e : Ent) (i : Int) : (s.wrI e i).tally = s.tally := rfl
@[simp] theorem State.wrI_time (s : State) (e : Ent) (i : Int) : (s.wrI e i).time = s.time := rfl
@[simp] theorem State.wrI_net (s : State) (e : Ent) (i : Int) : (s.wrI e i).net = s.net := rfl
@[simp] theorem State.wrI_ecx (s : State) (e : Ent) (i : Int) : (s.wrI e i).ecx = s.ecx := rfl
@[simp] theorem State.wrI_can (s : State) (e : Ent) (i : Int) : (s.wrI e i).can = s.can := rfl
@[simp] theorem State.wrI_ledger (s : State) (e : Ent) (i : Int) : (s.wrI e i).ledger = s.ledger := rfl
@[simp] theorem State.wrI_field (s : State) (e : Ent) (i : Int) : (s.wrI e i).field = s.field := rfl
@[simp] theorem State.wrI_motion (s : State) (e : Ent) (i : Int) : (s.wrI e i).motion = s.motion := rfl
@[simp] theorem State.wrI_safety (s : State) (e : Ent) (i : Int) : (s.wrI e i).safety = s.safety := rfl
@[simp] theorem State.wrI_twin (s : State) (e : Ent) (i : Int) : (s.wrI e i).twin = s.twin := rfl
@[simp] theorem State.wrI_slate (s : State) (e : Ent) (i : Int) : (s.wrI e i).slate = s.slate := rfl
@[simp] theorem State.wrI_power (s : State) (e : Ent) (i : Int) : (s.wrI e i).power = s.power := rfl
@[simp] theorem State.wrI_pending (s : State) (e : Ent) (i : Int) : (s.wrI e i).pending = s.pending := rfl

@[simp] theorem State.wrB_now (s : State) (e : Ent) (b : List Byte) : (s.wrB e b).now = s.now := rfl
@[simp] theorem State.wrB_blocks (s : State) (e : Ent) (b : List Byte) : (s.wrB e b).blocks = s.blocks := rfl
@[simp] theorem State.wrB_freeCtr (s : State) (e : Ent) (b : List Byte) : (s.wrB e b).freeCtr = s.freeCtr := rfl
@[simp] theorem State.wrB_rings (s : State) (e : Ent) (b : List Byte) : (s.wrB e b).rings = s.rings := rfl
@[simp] theorem State.wrB_odStatus (s : State) (e : Ent) (b : List Byte) : (s.wrB e b).odStatus = s.odStatus := rfl
@[simp] theorem State.wrB_odValue (s : State) (e : Ent) (b : List Byte) : (s.wrB e b).odValue = s.odValue := rfl
@[simp] theorem State.wrB_j16 (s : State) (e : Ent) (b : List Byte) : (s.wrB e b).j16 = s.j16 := rfl
@[simp] theorem State.wrB_eop (s : State) (e : Ent) (b : List Byte) : (s.wrB e b).eop = s.eop := rfl
@[simp] theorem State.wrB_rt (s : State) (e : Ent) (b : List Byte) : (s.wrB e b).rt = s.rt := rfl
@[simp] theorem State.wrB_pairs (s : State) (e : Ent) (b : List Byte) : (s.wrB e b).pairs = s.pairs := rfl
@[simp] theorem State.wrB_frame (s : State) (e : Ent) (b : List Byte) : (s.wrB e b).frame = s.frame := rfl
@[simp] theorem State.wrB_tally (s : State) (e : Ent) (b : List Byte) : (s.wrB e b).tally = s.tally := rfl
@[simp] theorem State.wrB_time (s : State) (e : Ent) (b : List Byte) : (s.wrB e b).time = s.time := rfl
@[simp] theorem State.wrB_net (s : State) (e : Ent) (b : List Byte) : (s.wrB e b).net = s.net := rfl
@[simp] theorem State.wrB_ecx (s : State) (e : Ent) (b : List Byte) : (s.wrB e b).ecx = s.ecx := rfl
@[simp] theorem State.wrB_can (s : State) (e : Ent) (b : List Byte) : (s.wrB e b).can = s.can := rfl
@[simp] theorem State.wrB_ledger (s : State) (e : Ent) (b : List Byte) : (s.wrB e b).ledger = s.ledger := rfl
@[simp] theorem State.wrB_field (s : State) (e : Ent) (b : List Byte) : (s.wrB e b).field = s.field := rfl
@[simp] theorem State.wrB_motion (s : State) (e : Ent) (b : List Byte) : (s.wrB e b).motion = s.motion := rfl
@[simp] theorem State.wrB_safety (s : State) (e : Ent) (b : List Byte) : (s.wrB e b).safety = s.safety := rfl
@[simp] theorem State.wrB_twin (s : State) (e : Ent) (b : List Byte) : (s.wrB e b).twin = s.twin := rfl
@[simp] theorem State.wrB_slate (s : State) (e : Ent) (b : List Byte) : (s.wrB e b).slate = s.slate := rfl
@[simp] theorem State.wrB_power (s : State) (e : Ent) (b : List Byte) : (s.wrB e b).power = s.power := rfl
@[simp] theorem State.wrB_pending (s : State) (e : Ent) (b : List Byte) : (s.wrB e b).pending = s.pending := rfl

@[simp] theorem State.wrT_now (s : State) (e : Ent) (t : Int) : (s.wrT e t).now = s.now := rfl
@[simp] theorem State.wrT_blocks (s : State) (e : Ent) (t : Int) : (s.wrT e t).blocks = s.blocks := rfl
@[simp] theorem State.wrT_freeCtr (s : State) (e : Ent) (t : Int) : (s.wrT e t).freeCtr = s.freeCtr := rfl
@[simp] theorem State.wrT_rings (s : State) (e : Ent) (t : Int) : (s.wrT e t).rings = s.rings := rfl
@[simp] theorem State.wrT_odStatus (s : State) (e : Ent) (t : Int) : (s.wrT e t).odStatus = s.odStatus := rfl
@[simp] theorem State.wrT_odValue (s : State) (e : Ent) (t : Int) : (s.wrT e t).odValue = s.odValue := rfl
@[simp] theorem State.wrT_j16 (s : State) (e : Ent) (t : Int) : (s.wrT e t).j16 = s.j16 := rfl
@[simp] theorem State.wrT_eop (s : State) (e : Ent) (t : Int) : (s.wrT e t).eop = s.eop := rfl
@[simp] theorem State.wrT_rt (s : State) (e : Ent) (t : Int) : (s.wrT e t).rt = s.rt := rfl
@[simp] theorem State.wrT_pairs (s : State) (e : Ent) (t : Int) : (s.wrT e t).pairs = s.pairs := rfl
@[simp] theorem State.wrT_frame (s : State) (e : Ent) (t : Int) : (s.wrT e t).frame = s.frame := rfl
@[simp] theorem State.wrT_tally (s : State) (e : Ent) (t : Int) : (s.wrT e t).tally = s.tally := rfl
@[simp] theorem State.wrT_time (s : State) (e : Ent) (t : Int) : (s.wrT e t).time = s.time := rfl
@[simp] theorem State.wrT_net (s : State) (e : Ent) (t : Int) : (s.wrT e t).net = s.net := rfl
@[simp] theorem State.wrT_ecx (s : State) (e : Ent) (t : Int) : (s.wrT e t).ecx = s.ecx := rfl
@[simp] theorem State.wrT_can (s : State) (e : Ent) (t : Int) : (s.wrT e t).can = s.can := rfl
@[simp] theorem State.wrT_ledger (s : State) (e : Ent) (t : Int) : (s.wrT e t).ledger = s.ledger := rfl
@[simp] theorem State.wrT_field (s : State) (e : Ent) (t : Int) : (s.wrT e t).field = s.field := rfl
@[simp] theorem State.wrT_motion (s : State) (e : Ent) (t : Int) : (s.wrT e t).motion = s.motion := rfl
@[simp] theorem State.wrT_safety (s : State) (e : Ent) (t : Int) : (s.wrT e t).safety = s.safety := rfl
@[simp] theorem State.wrT_twin (s : State) (e : Ent) (t : Int) : (s.wrT e t).twin = s.twin := rfl
@[simp] theorem State.wrT_slate (s : State) (e : Ent) (t : Int) : (s.wrT e t).slate = s.slate := rfl
@[simp] theorem State.wrT_power (s : State) (e : Ent) (t : Int) : (s.wrT e t).power = s.power := rfl
@[simp] theorem State.wrT_pending (s : State) (e : Ent) (t : Int) : (s.wrT e t).pending = s.pending := rfl

@[simp] theorem State.addTo_now (s : State) (e : Ent) (n : Nat) : (s.addTo e n).now = s.now := rfl
@[simp] theorem State.addTo_blocks (s : State) (e : Ent) (n : Nat) : (s.addTo e n).blocks = s.blocks := rfl
@[simp] theorem State.addTo_freeCtr (s : State) (e : Ent) (n : Nat) : (s.addTo e n).freeCtr = s.freeCtr := rfl
@[simp] theorem State.addTo_rings (s : State) (e : Ent) (n : Nat) : (s.addTo e n).rings = s.rings := rfl
@[simp] theorem State.addTo_odStatus (s : State) (e : Ent) (n : Nat) : (s.addTo e n).odStatus = s.odStatus := rfl
@[simp] theorem State.addTo_odValue (s : State) (e : Ent) (n : Nat) : (s.addTo e n).odValue = s.odValue := rfl
@[simp] theorem State.addTo_j16 (s : State) (e : Ent) (n : Nat) : (s.addTo e n).j16 = s.j16 := rfl
@[simp] theorem State.addTo_eop (s : State) (e : Ent) (n : Nat) : (s.addTo e n).eop = s.eop := rfl
@[simp] theorem State.addTo_rt (s : State) (e : Ent) (n : Nat) : (s.addTo e n).rt = s.rt := rfl
@[simp] theorem State.addTo_pairs (s : State) (e : Ent) (n : Nat) : (s.addTo e n).pairs = s.pairs := rfl
@[simp] theorem State.addTo_frame (s : State) (e : Ent) (n : Nat) : (s.addTo e n).frame = s.frame := rfl
@[simp] theorem State.addTo_tally (s : State) (e : Ent) (n : Nat) : (s.addTo e n).tally = s.tally := rfl
@[simp] theorem State.addTo_time (s : State) (e : Ent) (n : Nat) : (s.addTo e n).time = s.time := rfl
@[simp] theorem State.addTo_net (s : State) (e : Ent) (n : Nat) : (s.addTo e n).net = s.net := rfl
@[simp] theorem State.addTo_ecx (s : State) (e : Ent) (n : Nat) : (s.addTo e n).ecx = s.ecx := rfl
@[simp] theorem State.addTo_can (s : State) (e : Ent) (n : Nat) : (s.addTo e n).can = s.can := rfl
@[simp] theorem State.addTo_ledger (s : State) (e : Ent) (n : Nat) : (s.addTo e n).ledger = s.ledger := rfl
@[simp] theorem State.addTo_field (s : State) (e : Ent) (n : Nat) : (s.addTo e n).field = s.field := rfl
@[simp] theorem State.addTo_motion (s : State) (e : Ent) (n : Nat) : (s.addTo e n).motion = s.motion := rfl
@[simp] theorem State.addTo_safety (s : State) (e : Ent) (n : Nat) : (s.addTo e n).safety = s.safety := rfl
@[simp] theorem State.addTo_twin (s : State) (e : Ent) (n : Nat) : (s.addTo e n).twin = s.twin := rfl
@[simp] theorem State.addTo_slate (s : State) (e : Ent) (n : Nat) : (s.addTo e n).slate = s.slate := rfl
@[simp] theorem State.addTo_power (s : State) (e : Ent) (n : Nat) : (s.addTo e n).power = s.power := rfl
@[simp] theorem State.addTo_pending (s : State) (e : Ent) (n : Nat) : (s.addTo e n).pending = s.pending := rfl

@[simp] theorem State.inc_now (s : State) (e : Ent) : (s.inc e).now = s.now := rfl
@[simp] theorem State.inc_blocks (s : State) (e : Ent) : (s.inc e).blocks = s.blocks := rfl
@[simp] theorem State.inc_freeCtr (s : State) (e : Ent) : (s.inc e).freeCtr = s.freeCtr := rfl
@[simp] theorem State.inc_rings (s : State) (e : Ent) : (s.inc e).rings = s.rings := rfl
@[simp] theorem State.inc_odStatus (s : State) (e : Ent) : (s.inc e).odStatus = s.odStatus := rfl
@[simp] theorem State.inc_odValue (s : State) (e : Ent) : (s.inc e).odValue = s.odValue := rfl
@[simp] theorem State.inc_j16 (s : State) (e : Ent) : (s.inc e).j16 = s.j16 := rfl
@[simp] theorem State.inc_eop (s : State) (e : Ent) : (s.inc e).eop = s.eop := rfl
@[simp] theorem State.inc_rt (s : State) (e : Ent) : (s.inc e).rt = s.rt := rfl
@[simp] theorem State.inc_pairs (s : State) (e : Ent) : (s.inc e).pairs = s.pairs := rfl
@[simp] theorem State.inc_frame (s : State) (e : Ent) : (s.inc e).frame = s.frame := rfl
@[simp] theorem State.inc_tally (s : State) (e : Ent) : (s.inc e).tally = s.tally := rfl
@[simp] theorem State.inc_time (s : State) (e : Ent) : (s.inc e).time = s.time := rfl
@[simp] theorem State.inc_net (s : State) (e : Ent) : (s.inc e).net = s.net := rfl
@[simp] theorem State.inc_ecx (s : State) (e : Ent) : (s.inc e).ecx = s.ecx := rfl
@[simp] theorem State.inc_can (s : State) (e : Ent) : (s.inc e).can = s.can := rfl
@[simp] theorem State.inc_ledger (s : State) (e : Ent) : (s.inc e).ledger = s.ledger := rfl
@[simp] theorem State.inc_field (s : State) (e : Ent) : (s.inc e).field = s.field := rfl
@[simp] theorem State.inc_motion (s : State) (e : Ent) : (s.inc e).motion = s.motion := rfl
@[simp] theorem State.inc_safety (s : State) (e : Ent) : (s.inc e).safety = s.safety := rfl
@[simp] theorem State.inc_twin (s : State) (e : Ent) : (s.inc e).twin = s.twin := rfl
@[simp] theorem State.inc_slate (s : State) (e : Ent) : (s.inc e).slate = s.slate := rfl
@[simp] theorem State.inc_power (s : State) (e : Ent) : (s.inc e).power = s.power := rfl
@[simp] theorem State.inc_pending (s : State) (e : Ent) : (s.inc e).pending = s.pending := rfl

@[simp] theorem State.raise_now (s : State) (e : Ent) (n : Nat) : (s.raise e n).now = s.now := by unfold State.raise; split <;> rfl
@[simp] theorem State.raise_blocks (s : State) (e : Ent) (n : Nat) : (s.raise e n).blocks = s.blocks := by unfold State.raise; split <;> rfl
@[simp] theorem State.raise_freeCtr (s : State) (e : Ent) (n : Nat) : (s.raise e n).freeCtr = s.freeCtr := by unfold State.raise; split <;> rfl
@[simp] theorem State.raise_rings (s : State) (e : Ent) (n : Nat) : (s.raise e n).rings = s.rings := by unfold State.raise; split <;> rfl
@[simp] theorem State.raise_odStatus (s : State) (e : Ent) (n : Nat) : (s.raise e n).odStatus = s.odStatus := by unfold State.raise; split <;> rfl
@[simp] theorem State.raise_odValue (s : State) (e : Ent) (n : Nat) : (s.raise e n).odValue = s.odValue := by unfold State.raise; split <;> rfl
@[simp] theorem State.raise_j16 (s : State) (e : Ent) (n : Nat) : (s.raise e n).j16 = s.j16 := by unfold State.raise; split <;> rfl
@[simp] theorem State.raise_eop (s : State) (e : Ent) (n : Nat) : (s.raise e n).eop = s.eop := by unfold State.raise; split <;> rfl
@[simp] theorem State.raise_rt (s : State) (e : Ent) (n : Nat) : (s.raise e n).rt = s.rt := by unfold State.raise; split <;> rfl
@[simp] theorem State.raise_pairs (s : State) (e : Ent) (n : Nat) : (s.raise e n).pairs = s.pairs := by unfold State.raise; split <;> rfl
@[simp] theorem State.raise_frame (s : State) (e : Ent) (n : Nat) : (s.raise e n).frame = s.frame := by unfold State.raise; split <;> rfl
@[simp] theorem State.raise_tally (s : State) (e : Ent) (n : Nat) : (s.raise e n).tally = s.tally := by unfold State.raise; split <;> rfl
@[simp] theorem State.raise_time (s : State) (e : Ent) (n : Nat) : (s.raise e n).time = s.time := by unfold State.raise; split <;> rfl
@[simp] theorem State.raise_net (s : State) (e : Ent) (n : Nat) : (s.raise e n).net = s.net := by unfold State.raise; split <;> rfl
@[simp] theorem State.raise_ecx (s : State) (e : Ent) (n : Nat) : (s.raise e n).ecx = s.ecx := by unfold State.raise; split <;> rfl
@[simp] theorem State.raise_can (s : State) (e : Ent) (n : Nat) : (s.raise e n).can = s.can := by unfold State.raise; split <;> rfl
@[simp] theorem State.raise_ledger (s : State) (e : Ent) (n : Nat) : (s.raise e n).ledger = s.ledger := by unfold State.raise; split <;> rfl
@[simp] theorem State.raise_field (s : State) (e : Ent) (n : Nat) : (s.raise e n).field = s.field := by unfold State.raise; split <;> rfl
@[simp] theorem State.raise_motion (s : State) (e : Ent) (n : Nat) : (s.raise e n).motion = s.motion := by unfold State.raise; split <;> rfl
@[simp] theorem State.raise_safety (s : State) (e : Ent) (n : Nat) : (s.raise e n).safety = s.safety := by unfold State.raise; split <;> rfl
@[simp] theorem State.raise_twin (s : State) (e : Ent) (n : Nat) : (s.raise e n).twin = s.twin := by unfold State.raise; split <;> rfl
@[simp] theorem State.raise_slate (s : State) (e : Ent) (n : Nat) : (s.raise e n).slate = s.slate := by unfold State.raise; split <;> rfl
@[simp] theorem State.raise_power (s : State) (e : Ent) (n : Nat) : (s.raise e n).power = s.power := by unfold State.raise; split <;> rfl
@[simp] theorem State.raise_pending (s : State) (e : Ent) (n : Nat) : (s.raise e n).pending = s.pending := by unfold State.raise; split <;> rfl

@[simp] theorem State.storeCell_now (s : State) (k : Nat) (v : Value) : (s.storeCell k v).now = s.now := by unfold State.storeCell; rfl
@[simp] theorem State.storeCell_od (s : State) (k : Nat) (v : Value) : (s.storeCell k v).od = s.od := by unfold State.storeCell; rfl
@[simp] theorem State.storeCell_freeCtr (s : State) (k : Nat) (v : Value) : (s.storeCell k v).freeCtr = s.freeCtr := by unfold State.storeCell; rfl
@[simp] theorem State.storeCell_rings (s : State) (k : Nat) (v : Value) : (s.storeCell k v).rings = s.rings := by unfold State.storeCell; rfl
@[simp] theorem State.storeCell_odStatus (s : State) (k : Nat) (v : Value) : (s.storeCell k v).odStatus = s.odStatus := by unfold State.storeCell; rfl
@[simp] theorem State.storeCell_odValue (s : State) (k : Nat) (v : Value) : (s.storeCell k v).odValue = s.odValue := by unfold State.storeCell; rfl
@[simp] theorem State.storeCell_j16 (s : State) (k : Nat) (v : Value) : (s.storeCell k v).j16 = s.j16 := by unfold State.storeCell; rfl
@[simp] theorem State.storeCell_eop (s : State) (k : Nat) (v : Value) : (s.storeCell k v).eop = s.eop := by unfold State.storeCell; rfl
@[simp] theorem State.storeCell_rt (s : State) (k : Nat) (v : Value) : (s.storeCell k v).rt = s.rt := by unfold State.storeCell; rfl
@[simp] theorem State.storeCell_pairs (s : State) (k : Nat) (v : Value) : (s.storeCell k v).pairs = s.pairs := by unfold State.storeCell; rfl
@[simp] theorem State.storeCell_frame (s : State) (k : Nat) (v : Value) : (s.storeCell k v).frame = s.frame := by unfold State.storeCell; rfl
@[simp] theorem State.storeCell_tally (s : State) (k : Nat) (v : Value) : (s.storeCell k v).tally = s.tally := by unfold State.storeCell; rfl
@[simp] theorem State.storeCell_time (s : State) (k : Nat) (v : Value) : (s.storeCell k v).time = s.time := by unfold State.storeCell; rfl
@[simp] theorem State.storeCell_net (s : State) (k : Nat) (v : Value) : (s.storeCell k v).net = s.net := by unfold State.storeCell; rfl
@[simp] theorem State.storeCell_ecx (s : State) (k : Nat) (v : Value) : (s.storeCell k v).ecx = s.ecx := by unfold State.storeCell; rfl
@[simp] theorem State.storeCell_can (s : State) (k : Nat) (v : Value) : (s.storeCell k v).can = s.can := by unfold State.storeCell; rfl
@[simp] theorem State.storeCell_ledger (s : State) (k : Nat) (v : Value) : (s.storeCell k v).ledger = s.ledger := by unfold State.storeCell; rfl
@[simp] theorem State.storeCell_field (s : State) (k : Nat) (v : Value) : (s.storeCell k v).field = s.field := by unfold State.storeCell; rfl
@[simp] theorem State.storeCell_motion (s : State) (k : Nat) (v : Value) : (s.storeCell k v).motion = s.motion := by unfold State.storeCell; rfl
@[simp] theorem State.storeCell_safety (s : State) (k : Nat) (v : Value) : (s.storeCell k v).safety = s.safety := by unfold State.storeCell; rfl
@[simp] theorem State.storeCell_twin (s : State) (k : Nat) (v : Value) : (s.storeCell k v).twin = s.twin := by unfold State.storeCell; rfl
@[simp] theorem State.storeCell_slate (s : State) (k : Nat) (v : Value) : (s.storeCell k v).slate = s.slate := by unfold State.storeCell; rfl
@[simp] theorem State.storeCell_power (s : State) (k : Nat) (v : Value) : (s.storeCell k v).power = s.power := by unfold State.storeCell; rfl
@[simp] theorem State.storeCell_pending (s : State) (k : Nat) (v : Value) : (s.storeCell k v).pending = s.pending := by unfold State.storeCell; rfl

@[simp] theorem State.retain_now (s : State) (k : Nat) (v : Value) : (s.retain k v).now = s.now := by unfold State.retain; simp
@[simp] theorem State.retain_freeCtr (s : State) (k : Nat) (v : Value) : (s.retain k v).freeCtr = s.freeCtr := by unfold State.retain; simp
@[simp] theorem State.retain_rings (s : State) (k : Nat) (v : Value) : (s.retain k v).rings = s.rings := by unfold State.retain; simp
@[simp] theorem State.retain_odStatus (s : State) (k : Nat) (v : Value) : (s.retain k v).odStatus = s.odStatus := by unfold State.retain; simp
@[simp] theorem State.retain_odValue (s : State) (k : Nat) (v : Value) : (s.retain k v).odValue = s.odValue := by unfold State.retain; simp
@[simp] theorem State.retain_j16 (s : State) (k : Nat) (v : Value) : (s.retain k v).j16 = s.j16 := by unfold State.retain; simp
@[simp] theorem State.retain_eop (s : State) (k : Nat) (v : Value) : (s.retain k v).eop = s.eop := by unfold State.retain; simp
@[simp] theorem State.retain_rt (s : State) (k : Nat) (v : Value) : (s.retain k v).rt = s.rt := by unfold State.retain; simp
@[simp] theorem State.retain_pairs (s : State) (k : Nat) (v : Value) : (s.retain k v).pairs = s.pairs := by unfold State.retain; simp
@[simp] theorem State.retain_frame (s : State) (k : Nat) (v : Value) : (s.retain k v).frame = s.frame := by unfold State.retain; simp
@[simp] theorem State.retain_tally (s : State) (k : Nat) (v : Value) : (s.retain k v).tally = s.tally := by unfold State.retain; simp
@[simp] theorem State.retain_time (s : State) (k : Nat) (v : Value) : (s.retain k v).time = s.time := by unfold State.retain; simp
@[simp] theorem State.retain_net (s : State) (k : Nat) (v : Value) : (s.retain k v).net = s.net := by unfold State.retain; simp
@[simp] theorem State.retain_ecx (s : State) (k : Nat) (v : Value) : (s.retain k v).ecx = s.ecx := by unfold State.retain; simp
@[simp] theorem State.retain_can (s : State) (k : Nat) (v : Value) : (s.retain k v).can = s.can := by unfold State.retain; simp
@[simp] theorem State.retain_ledger (s : State) (k : Nat) (v : Value) : (s.retain k v).ledger = s.ledger := by unfold State.retain; simp
@[simp] theorem State.retain_field (s : State) (k : Nat) (v : Value) : (s.retain k v).field = s.field := by unfold State.retain; simp
@[simp] theorem State.retain_motion (s : State) (k : Nat) (v : Value) : (s.retain k v).motion = s.motion := by unfold State.retain; simp
@[simp] theorem State.retain_safety (s : State) (k : Nat) (v : Value) : (s.retain k v).safety = s.safety := by unfold State.retain; simp
@[simp] theorem State.retain_twin (s : State) (k : Nat) (v : Value) : (s.retain k v).twin = s.twin := by unfold State.retain; simp
@[simp] theorem State.retain_slate (s : State) (k : Nat) (v : Value) : (s.retain k v).slate = s.slate := by unfold State.retain; simp
@[simp] theorem State.retain_power (s : State) (k : Nat) (v : Value) : (s.retain k v).power = s.power := by unfold State.retain; simp
@[simp] theorem State.retain_pending (s : State) (k : Nat) (v : Value) : (s.retain k v).pending = s.pending := by unfold State.retain; simp

@[simp] theorem State.putR_now (s : State) (e : Ent) (v : Value) : (s.putR e v).now = s.now := by simp [State.putR]
@[simp] theorem State.putR_freeCtr (s : State) (e : Ent) (v : Value) : (s.putR e v).freeCtr = s.freeCtr := by simp [State.putR]
@[simp] theorem State.putR_rings (s : State) (e : Ent) (v : Value) : (s.putR e v).rings = s.rings := by simp [State.putR]
@[simp] theorem State.putR_odStatus (s : State) (e : Ent) (v : Value) : (s.putR e v).odStatus = s.odStatus := by simp [State.putR]
@[simp] theorem State.putR_odValue (s : State) (e : Ent) (v : Value) : (s.putR e v).odValue = s.odValue := by simp [State.putR]
@[simp] theorem State.putR_j16 (s : State) (e : Ent) (v : Value) : (s.putR e v).j16 = s.j16 := by simp [State.putR]
@[simp] theorem State.putR_eop (s : State) (e : Ent) (v : Value) : (s.putR e v).eop = s.eop := by simp [State.putR]
@[simp] theorem State.putR_rt (s : State) (e : Ent) (v : Value) : (s.putR e v).rt = s.rt := by simp [State.putR]
@[simp] theorem State.putR_pairs (s : State) (e : Ent) (v : Value) : (s.putR e v).pairs = s.pairs := by simp [State.putR]
@[simp] theorem State.putR_frame (s : State) (e : Ent) (v : Value) : (s.putR e v).frame = s.frame := by simp [State.putR]
@[simp] theorem State.putR_tally (s : State) (e : Ent) (v : Value) : (s.putR e v).tally = s.tally := by simp [State.putR]
@[simp] theorem State.putR_time (s : State) (e : Ent) (v : Value) : (s.putR e v).time = s.time := by simp [State.putR]
@[simp] theorem State.putR_net (s : State) (e : Ent) (v : Value) : (s.putR e v).net = s.net := by simp [State.putR]
@[simp] theorem State.putR_ecx (s : State) (e : Ent) (v : Value) : (s.putR e v).ecx = s.ecx := by simp [State.putR]
@[simp] theorem State.putR_can (s : State) (e : Ent) (v : Value) : (s.putR e v).can = s.can := by simp [State.putR]
@[simp] theorem State.putR_ledger (s : State) (e : Ent) (v : Value) : (s.putR e v).ledger = s.ledger := by simp [State.putR]
@[simp] theorem State.putR_field (s : State) (e : Ent) (v : Value) : (s.putR e v).field = s.field := by simp [State.putR]
@[simp] theorem State.putR_motion (s : State) (e : Ent) (v : Value) : (s.putR e v).motion = s.motion := by simp [State.putR]
@[simp] theorem State.putR_safety (s : State) (e : Ent) (v : Value) : (s.putR e v).safety = s.safety := by simp [State.putR]
@[simp] theorem State.putR_twin (s : State) (e : Ent) (v : Value) : (s.putR e v).twin = s.twin := by simp [State.putR]
@[simp] theorem State.putR_slate (s : State) (e : Ent) (v : Value) : (s.putR e v).slate = s.slate := by simp [State.putR]
@[simp] theorem State.putR_power (s : State) (e : Ent) (v : Value) : (s.putR e v).power = s.power := by simp [State.putR]
@[simp] theorem State.putR_pending (s : State) (e : Ent) (v : Value) : (s.putR e v).pending = s.pending := by simp [State.putR]

@[simp] theorem State.wrR_now (s : State) (e : Ent) (n : Nat) : (s.wrR e n).now = s.now := by simp [State.wrR]
@[simp] theorem State.wrR_freeCtr (s : State) (e : Ent) (n : Nat) : (s.wrR e n).freeCtr = s.freeCtr := by simp [State.wrR]
@[simp] theorem State.wrR_rings (s : State) (e : Ent) (n : Nat) : (s.wrR e n).rings = s.rings := by simp [State.wrR]
@[simp] theorem State.wrR_odStatus (s : State) (e : Ent) (n : Nat) : (s.wrR e n).odStatus = s.odStatus := by simp [State.wrR]
@[simp] theorem State.wrR_odValue (s : State) (e : Ent) (n : Nat) : (s.wrR e n).odValue = s.odValue := by simp [State.wrR]
@[simp] theorem State.wrR_j16 (s : State) (e : Ent) (n : Nat) : (s.wrR e n).j16 = s.j16 := by simp [State.wrR]
@[simp] theorem State.wrR_eop (s : State) (e : Ent) (n : Nat) : (s.wrR e n).eop = s.eop := by simp [State.wrR]
@[simp] theorem State.wrR_rt (s : State) (e : Ent) (n : Nat) : (s.wrR e n).rt = s.rt := by simp [State.wrR]
@[simp] theorem State.wrR_pairs (s : State) (e : Ent) (n : Nat) : (s.wrR e n).pairs = s.pairs := by simp [State.wrR]
@[simp] theorem State.wrR_frame (s : State) (e : Ent) (n : Nat) : (s.wrR e n).frame = s.frame := by simp [State.wrR]
@[simp] theorem State.wrR_tally (s : State) (e : Ent) (n : Nat) : (s.wrR e n).tally = s.tally := by simp [State.wrR]
@[simp] theorem State.wrR_time (s : State) (e : Ent) (n : Nat) : (s.wrR e n).time = s.time := by simp [State.wrR]
@[simp] theorem State.wrR_net (s : State) (e : Ent) (n : Nat) : (s.wrR e n).net = s.net := by simp [State.wrR]
@[simp] theorem State.wrR_ecx (s : State) (e : Ent) (n : Nat) : (s.wrR e n).ecx = s.ecx := by simp [State.wrR]
@[simp] theorem State.wrR_can (s : State) (e : Ent) (n : Nat) : (s.wrR e n).can = s.can := by simp [State.wrR]
@[simp] theorem State.wrR_ledger (s : State) (e : Ent) (n : Nat) : (s.wrR e n).ledger = s.ledger := by simp [State.wrR]
@[simp] theorem State.wrR_field (s : State) (e : Ent) (n : Nat) : (s.wrR e n).field = s.field := by simp [State.wrR]
@[simp] theorem State.wrR_motion (s : State) (e : Ent) (n : Nat) : (s.wrR e n).motion = s.motion := by simp [State.wrR]
@[simp] theorem State.wrR_safety (s : State) (e : Ent) (n : Nat) : (s.wrR e n).safety = s.safety := by simp [State.wrR]
@[simp] theorem State.wrR_twin (s : State) (e : Ent) (n : Nat) : (s.wrR e n).twin = s.twin := by simp [State.wrR]
@[simp] theorem State.wrR_slate (s : State) (e : Ent) (n : Nat) : (s.wrR e n).slate = s.slate := by simp [State.wrR]
@[simp] theorem State.wrR_power (s : State) (e : Ent) (n : Nat) : (s.wrR e n).power = s.power := by simp [State.wrR]
@[simp] theorem State.wrR_pending (s : State) (e : Ent) (n : Nat) : (s.wrR e n).pending = s.pending := by simp [State.wrR]

@[simp] theorem State.incR_now (s : State) (e : Ent) : (s.incR e).now = s.now := by simp [State.incR]
@[simp] theorem State.incR_freeCtr (s : State) (e : Ent) : (s.incR e).freeCtr = s.freeCtr := by simp [State.incR]
@[simp] theorem State.incR_rings (s : State) (e : Ent) : (s.incR e).rings = s.rings := by simp [State.incR]
@[simp] theorem State.incR_odStatus (s : State) (e : Ent) : (s.incR e).odStatus = s.odStatus := by simp [State.incR]
@[simp] theorem State.incR_odValue (s : State) (e : Ent) : (s.incR e).odValue = s.odValue := by simp [State.incR]
@[simp] theorem State.incR_j16 (s : State) (e : Ent) : (s.incR e).j16 = s.j16 := by simp [State.incR]
@[simp] theorem State.incR_eop (s : State) (e : Ent) : (s.incR e).eop = s.eop := by simp [State.incR]
@[simp] theorem State.incR_rt (s : State) (e : Ent) : (s.incR e).rt = s.rt := by simp [State.incR]
@[simp] theorem State.incR_pairs (s : State) (e : Ent) : (s.incR e).pairs = s.pairs := by simp [State.incR]
@[simp] theorem State.incR_frame (s : State) (e : Ent) : (s.incR e).frame = s.frame := by simp [State.incR]
@[simp] theorem State.incR_tally (s : State) (e : Ent) : (s.incR e).tally = s.tally := by simp [State.incR]
@[simp] theorem State.incR_time (s : State) (e : Ent) : (s.incR e).time = s.time := by simp [State.incR]
@[simp] theorem State.incR_net (s : State) (e : Ent) : (s.incR e).net = s.net := by simp [State.incR]
@[simp] theorem State.incR_ecx (s : State) (e : Ent) : (s.incR e).ecx = s.ecx := by simp [State.incR]
@[simp] theorem State.incR_can (s : State) (e : Ent) : (s.incR e).can = s.can := by simp [State.incR]
@[simp] theorem State.incR_ledger (s : State) (e : Ent) : (s.incR e).ledger = s.ledger := by simp [State.incR]
@[simp] theorem State.incR_field (s : State) (e : Ent) : (s.incR e).field = s.field := by simp [State.incR]
@[simp] theorem State.incR_motion (s : State) (e : Ent) : (s.incR e).motion = s.motion := by simp [State.incR]
@[simp] theorem State.incR_safety (s : State) (e : Ent) : (s.incR e).safety = s.safety := by simp [State.incR]
@[simp] theorem State.incR_twin (s : State) (e : Ent) : (s.incR e).twin = s.twin := by simp [State.incR]
@[simp] theorem State.incR_slate (s : State) (e : Ent) : (s.incR e).slate = s.slate := by simp [State.incR]
@[simp] theorem State.incR_power (s : State) (e : Ent) : (s.incR e).power = s.power := by simp [State.incR]
@[simp] theorem State.incR_pending (s : State) (e : Ent) : (s.incR e).pending = s.pending := by simp [State.incR]

@[simp] theorem State.drawn_now (s : State)  : (s.drawn).now = s.now := rfl
@[simp] theorem State.drawn_od (s : State)  : (s.drawn).od = s.od := rfl
@[simp] theorem State.drawn_blocks (s : State)  : (s.drawn).blocks = s.blocks := rfl
@[simp] theorem State.drawn_rings (s : State)  : (s.drawn).rings = s.rings := rfl
@[simp] theorem State.drawn_odStatus (s : State)  : (s.drawn).odStatus = s.odStatus := rfl
@[simp] theorem State.drawn_odValue (s : State)  : (s.drawn).odValue = s.odValue := rfl
@[simp] theorem State.drawn_j16 (s : State)  : (s.drawn).j16 = s.j16 := rfl
@[simp] theorem State.drawn_eop (s : State)  : (s.drawn).eop = s.eop := rfl
@[simp] theorem State.drawn_rt (s : State)  : (s.drawn).rt = s.rt := rfl
@[simp] theorem State.drawn_pairs (s : State)  : (s.drawn).pairs = s.pairs := rfl
@[simp] theorem State.drawn_frame (s : State)  : (s.drawn).frame = s.frame := rfl
@[simp] theorem State.drawn_tally (s : State)  : (s.drawn).tally = s.tally := rfl
@[simp] theorem State.drawn_time (s : State)  : (s.drawn).time = s.time := rfl
@[simp] theorem State.drawn_net (s : State)  : (s.drawn).net = s.net := rfl
@[simp] theorem State.drawn_ecx (s : State)  : (s.drawn).ecx = s.ecx := rfl
@[simp] theorem State.drawn_can (s : State)  : (s.drawn).can = s.can := rfl
@[simp] theorem State.drawn_ledger (s : State)  : (s.drawn).ledger = s.ledger := rfl
@[simp] theorem State.drawn_field (s : State)  : (s.drawn).field = s.field := rfl
@[simp] theorem State.drawn_motion (s : State)  : (s.drawn).motion = s.motion := rfl
@[simp] theorem State.drawn_safety (s : State)  : (s.drawn).safety = s.safety := rfl
@[simp] theorem State.drawn_twin (s : State)  : (s.drawn).twin = s.twin := rfl
@[simp] theorem State.drawn_slate (s : State)  : (s.drawn).slate = s.slate := rfl
@[simp] theorem State.drawn_power (s : State)  : (s.drawn).power = s.power := rfl
@[simp] theorem State.drawn_pending (s : State)  : (s.drawn).pending = s.pending := rfl

@[simp] theorem State.renew_now (s : State) (e : Ent) : (s.renew e).now = s.now := rfl
@[simp] theorem State.renew_blocks (s : State) (e : Ent) : (s.renew e).blocks = s.blocks := rfl
@[simp] theorem State.renew_rings (s : State) (e : Ent) : (s.renew e).rings = s.rings := rfl
@[simp] theorem State.renew_odStatus (s : State) (e : Ent) : (s.renew e).odStatus = s.odStatus := rfl
@[simp] theorem State.renew_odValue (s : State) (e : Ent) : (s.renew e).odValue = s.odValue := rfl
@[simp] theorem State.renew_j16 (s : State) (e : Ent) : (s.renew e).j16 = s.j16 := rfl
@[simp] theorem State.renew_eop (s : State) (e : Ent) : (s.renew e).eop = s.eop := rfl
@[simp] theorem State.renew_rt (s : State) (e : Ent) : (s.renew e).rt = s.rt := rfl
@[simp] theorem State.renew_pairs (s : State) (e : Ent) : (s.renew e).pairs = s.pairs := rfl
@[simp] theorem State.renew_frame (s : State) (e : Ent) : (s.renew e).frame = s.frame := rfl
@[simp] theorem State.renew_tally (s : State) (e : Ent) : (s.renew e).tally = s.tally := rfl
@[simp] theorem State.renew_time (s : State) (e : Ent) : (s.renew e).time = s.time := rfl
@[simp] theorem State.renew_net (s : State) (e : Ent) : (s.renew e).net = s.net := rfl
@[simp] theorem State.renew_ecx (s : State) (e : Ent) : (s.renew e).ecx = s.ecx := rfl
@[simp] theorem State.renew_can (s : State) (e : Ent) : (s.renew e).can = s.can := rfl
@[simp] theorem State.renew_ledger (s : State) (e : Ent) : (s.renew e).ledger = s.ledger := rfl
@[simp] theorem State.renew_field (s : State) (e : Ent) : (s.renew e).field = s.field := rfl
@[simp] theorem State.renew_motion (s : State) (e : Ent) : (s.renew e).motion = s.motion := rfl
@[simp] theorem State.renew_safety (s : State) (e : Ent) : (s.renew e).safety = s.safety := rfl
@[simp] theorem State.renew_twin (s : State) (e : Ent) : (s.renew e).twin = s.twin := rfl
@[simp] theorem State.renew_slate (s : State) (e : Ent) : (s.renew e).slate = s.slate := rfl
@[simp] theorem State.renew_power (s : State) (e : Ent) : (s.renew e).power = s.power := rfl
@[simp] theorem State.renew_pending (s : State) (e : Ent) : (s.renew e).pending = s.pending := rfl

@[simp] theorem State.renewB_now (s : State) (e : Ent) (n : Nat) : (s.renewB e n).now = s.now := rfl
@[simp] theorem State.renewB_blocks (s : State) (e : Ent) (n : Nat) : (s.renewB e n).blocks = s.blocks := rfl
@[simp] theorem State.renewB_rings (s : State) (e : Ent) (n : Nat) : (s.renewB e n).rings = s.rings := rfl
@[simp] theorem State.renewB_odStatus (s : State) (e : Ent) (n : Nat) : (s.renewB e n).odStatus = s.odStatus := rfl
@[simp] theorem State.renewB_odValue (s : State) (e : Ent) (n : Nat) : (s.renewB e n).odValue = s.odValue := rfl
@[simp] theorem State.renewB_j16 (s : State) (e : Ent) (n : Nat) : (s.renewB e n).j16 = s.j16 := rfl
@[simp] theorem State.renewB_eop (s : State) (e : Ent) (n : Nat) : (s.renewB e n).eop = s.eop := rfl
@[simp] theorem State.renewB_rt (s : State) (e : Ent) (n : Nat) : (s.renewB e n).rt = s.rt := rfl
@[simp] theorem State.renewB_pairs (s : State) (e : Ent) (n : Nat) : (s.renewB e n).pairs = s.pairs := rfl
@[simp] theorem State.renewB_frame (s : State) (e : Ent) (n : Nat) : (s.renewB e n).frame = s.frame := rfl
@[simp] theorem State.renewB_tally (s : State) (e : Ent) (n : Nat) : (s.renewB e n).tally = s.tally := rfl
@[simp] theorem State.renewB_time (s : State) (e : Ent) (n : Nat) : (s.renewB e n).time = s.time := rfl
@[simp] theorem State.renewB_net (s : State) (e : Ent) (n : Nat) : (s.renewB e n).net = s.net := rfl
@[simp] theorem State.renewB_ecx (s : State) (e : Ent) (n : Nat) : (s.renewB e n).ecx = s.ecx := rfl
@[simp] theorem State.renewB_can (s : State) (e : Ent) (n : Nat) : (s.renewB e n).can = s.can := rfl
@[simp] theorem State.renewB_ledger (s : State) (e : Ent) (n : Nat) : (s.renewB e n).ledger = s.ledger := rfl
@[simp] theorem State.renewB_field (s : State) (e : Ent) (n : Nat) : (s.renewB e n).field = s.field := rfl
@[simp] theorem State.renewB_motion (s : State) (e : Ent) (n : Nat) : (s.renewB e n).motion = s.motion := rfl
@[simp] theorem State.renewB_safety (s : State) (e : Ent) (n : Nat) : (s.renewB e n).safety = s.safety := rfl
@[simp] theorem State.renewB_twin (s : State) (e : Ent) (n : Nat) : (s.renewB e n).twin = s.twin := rfl
@[simp] theorem State.renewB_slate (s : State) (e : Ent) (n : Nat) : (s.renewB e n).slate = s.slate := rfl
@[simp] theorem State.renewB_power (s : State) (e : Ent) (n : Nat) : (s.renewB e n).power = s.power := rfl
@[simp] theorem State.renewB_pending (s : State) (e : Ent) (n : Nat) : (s.renewB e n).pending = s.pending := rfl

@[simp] theorem State.advance_od (s : State) (a : Nat) : (s.advance a).od = s.od := rfl
@[simp] theorem State.advance_blocks (s : State) (a : Nat) : (s.advance a).blocks = s.blocks := rfl
@[simp] theorem State.advance_freeCtr (s : State) (a : Nat) : (s.advance a).freeCtr = s.freeCtr := rfl
@[simp] theorem State.advance_rings (s : State) (a : Nat) : (s.advance a).rings = s.rings := rfl
@[simp] theorem State.advance_odStatus (s : State) (a : Nat) : (s.advance a).odStatus = s.odStatus := rfl
@[simp] theorem State.advance_odValue (s : State) (a : Nat) : (s.advance a).odValue = s.odValue := rfl
@[simp] theorem State.advance_j16 (s : State) (a : Nat) : (s.advance a).j16 = s.j16 := rfl
@[simp] theorem State.advance_eop (s : State) (a : Nat) : (s.advance a).eop = s.eop := rfl
@[simp] theorem State.advance_rt (s : State) (a : Nat) : (s.advance a).rt = s.rt := rfl
@[simp] theorem State.advance_pairs (s : State) (a : Nat) : (s.advance a).pairs = s.pairs := rfl
@[simp] theorem State.advance_frame (s : State) (a : Nat) : (s.advance a).frame = s.frame := rfl
@[simp] theorem State.advance_tally (s : State) (a : Nat) : (s.advance a).tally = s.tally := rfl
@[simp] theorem State.advance_time (s : State) (a : Nat) : (s.advance a).time = s.time := rfl
@[simp] theorem State.advance_net (s : State) (a : Nat) : (s.advance a).net = s.net := rfl
@[simp] theorem State.advance_ecx (s : State) (a : Nat) : (s.advance a).ecx = s.ecx := rfl
@[simp] theorem State.advance_can (s : State) (a : Nat) : (s.advance a).can = s.can := rfl
@[simp] theorem State.advance_ledger (s : State) (a : Nat) : (s.advance a).ledger = s.ledger := rfl
@[simp] theorem State.advance_field (s : State) (a : Nat) : (s.advance a).field = s.field := rfl
@[simp] theorem State.advance_motion (s : State) (a : Nat) : (s.advance a).motion = s.motion := rfl
@[simp] theorem State.advance_safety (s : State) (a : Nat) : (s.advance a).safety = s.safety := rfl
@[simp] theorem State.advance_twin (s : State) (a : Nat) : (s.advance a).twin = s.twin := rfl
@[simp] theorem State.advance_slate (s : State) (a : Nat) : (s.advance a).slate = s.slate := rfl
@[simp] theorem State.advance_power (s : State) (a : Nat) : (s.advance a).power = s.power := rfl
@[simp] theorem State.advance_pending (s : State) (a : Nat) : (s.advance a).pending = s.pending := rfl

@[simp] theorem State.setRing_now (s : State) (k : Nat) (r : Ring) : (s.setRing k r).now = s.now := rfl
@[simp] theorem State.setRing_od (s : State) (k : Nat) (r : Ring) : (s.setRing k r).od = s.od := rfl
@[simp] theorem State.setRing_blocks (s : State) (k : Nat) (r : Ring) : (s.setRing k r).blocks = s.blocks := rfl
@[simp] theorem State.setRing_freeCtr (s : State) (k : Nat) (r : Ring) : (s.setRing k r).freeCtr = s.freeCtr := rfl
@[simp] theorem State.setRing_odStatus (s : State) (k : Nat) (r : Ring) : (s.setRing k r).odStatus = s.odStatus := rfl
@[simp] theorem State.setRing_odValue (s : State) (k : Nat) (r : Ring) : (s.setRing k r).odValue = s.odValue := rfl
@[simp] theorem State.setRing_j16 (s : State) (k : Nat) (r : Ring) : (s.setRing k r).j16 = s.j16 := rfl
@[simp] theorem State.setRing_eop (s : State) (k : Nat) (r : Ring) : (s.setRing k r).eop = s.eop := rfl
@[simp] theorem State.setRing_rt (s : State) (k : Nat) (r : Ring) : (s.setRing k r).rt = s.rt := rfl
@[simp] theorem State.setRing_pairs (s : State) (k : Nat) (r : Ring) : (s.setRing k r).pairs = s.pairs := rfl
@[simp] theorem State.setRing_frame (s : State) (k : Nat) (r : Ring) : (s.setRing k r).frame = s.frame := rfl
@[simp] theorem State.setRing_tally (s : State) (k : Nat) (r : Ring) : (s.setRing k r).tally = s.tally := rfl
@[simp] theorem State.setRing_time (s : State) (k : Nat) (r : Ring) : (s.setRing k r).time = s.time := rfl
@[simp] theorem State.setRing_net (s : State) (k : Nat) (r : Ring) : (s.setRing k r).net = s.net := rfl
@[simp] theorem State.setRing_ecx (s : State) (k : Nat) (r : Ring) : (s.setRing k r).ecx = s.ecx := rfl
@[simp] theorem State.setRing_can (s : State) (k : Nat) (r : Ring) : (s.setRing k r).can = s.can := rfl
@[simp] theorem State.setRing_ledger (s : State) (k : Nat) (r : Ring) : (s.setRing k r).ledger = s.ledger := rfl
@[simp] theorem State.setRing_field (s : State) (k : Nat) (r : Ring) : (s.setRing k r).field = s.field := rfl
@[simp] theorem State.setRing_motion (s : State) (k : Nat) (r : Ring) : (s.setRing k r).motion = s.motion := rfl
@[simp] theorem State.setRing_safety (s : State) (k : Nat) (r : Ring) : (s.setRing k r).safety = s.safety := rfl
@[simp] theorem State.setRing_twin (s : State) (k : Nat) (r : Ring) : (s.setRing k r).twin = s.twin := rfl
@[simp] theorem State.setRing_slate (s : State) (k : Nat) (r : Ring) : (s.setRing k r).slate = s.slate := rfl
@[simp] theorem State.setRing_power (s : State) (k : Nat) (r : Ring) : (s.setRing k r).power = s.power := rfl
@[simp] theorem State.setRing_pending (s : State) (k : Nat) (r : Ring) : (s.setRing k r).pending = s.pending := rfl

@[simp] theorem State.noteFill_now (s : State) (k : Nat) : (s.noteFill k).now = s.now := by simp [State.noteFill]
@[simp] theorem State.noteFill_blocks (s : State) (k : Nat) : (s.noteFill k).blocks = s.blocks := by simp [State.noteFill]
@[simp] theorem State.noteFill_freeCtr (s : State) (k : Nat) : (s.noteFill k).freeCtr = s.freeCtr := by simp [State.noteFill]
@[simp] theorem State.noteFill_rings (s : State) (k : Nat) : (s.noteFill k).rings = s.rings := by simp [State.noteFill]
@[simp] theorem State.noteFill_odStatus (s : State) (k : Nat) : (s.noteFill k).odStatus = s.odStatus := by simp [State.noteFill]
@[simp] theorem State.noteFill_odValue (s : State) (k : Nat) : (s.noteFill k).odValue = s.odValue := by simp [State.noteFill]
@[simp] theorem State.noteFill_j16 (s : State) (k : Nat) : (s.noteFill k).j16 = s.j16 := by simp [State.noteFill]
@[simp] theorem State.noteFill_eop (s : State) (k : Nat) : (s.noteFill k).eop = s.eop := by simp [State.noteFill]
@[simp] theorem State.noteFill_rt (s : State) (k : Nat) : (s.noteFill k).rt = s.rt := by simp [State.noteFill]
@[simp] theorem State.noteFill_pairs (s : State) (k : Nat) : (s.noteFill k).pairs = s.pairs := by simp [State.noteFill]
@[simp] theorem State.noteFill_frame (s : State) (k : Nat) : (s.noteFill k).frame = s.frame := by simp [State.noteFill]
@[simp] theorem State.noteFill_tally (s : State) (k : Nat) : (s.noteFill k).tally = s.tally := by simp [State.noteFill]
@[simp] theorem State.noteFill_time (s : State) (k : Nat) : (s.noteFill k).time = s.time := by simp [State.noteFill]
@[simp] theorem State.noteFill_net (s : State) (k : Nat) : (s.noteFill k).net = s.net := by simp [State.noteFill]
@[simp] theorem State.noteFill_ecx (s : State) (k : Nat) : (s.noteFill k).ecx = s.ecx := by simp [State.noteFill]
@[simp] theorem State.noteFill_can (s : State) (k : Nat) : (s.noteFill k).can = s.can := by simp [State.noteFill]
@[simp] theorem State.noteFill_ledger (s : State) (k : Nat) : (s.noteFill k).ledger = s.ledger := by simp [State.noteFill]
@[simp] theorem State.noteFill_field (s : State) (k : Nat) : (s.noteFill k).field = s.field := by simp [State.noteFill]
@[simp] theorem State.noteFill_motion (s : State) (k : Nat) : (s.noteFill k).motion = s.motion := by simp [State.noteFill]
@[simp] theorem State.noteFill_safety (s : State) (k : Nat) : (s.noteFill k).safety = s.safety := by simp [State.noteFill]
@[simp] theorem State.noteFill_twin (s : State) (k : Nat) : (s.noteFill k).twin = s.twin := by simp [State.noteFill]
@[simp] theorem State.noteFill_slate (s : State) (k : Nat) : (s.noteFill k).slate = s.slate := by simp [State.noteFill]
@[simp] theorem State.noteFill_power (s : State) (k : Nat) : (s.noteFill k).power = s.power := by simp [State.noteFill]
@[simp] theorem State.noteFill_pending (s : State) (k : Nat) : (s.noteFill k).pending = s.pending := by simp [State.noteFill]

@[simp] theorem State.append_now (s : State) (k : Nat) (e : RingEntry) : (s.append k e).now = s.now := by simp [State.append]
@[simp] theorem State.append_blocks (s : State) (k : Nat) (e : RingEntry) : (s.append k e).blocks = s.blocks := by simp [State.append]
@[simp] theorem State.append_freeCtr (s : State) (k : Nat) (e : RingEntry) : (s.append k e).freeCtr = s.freeCtr := by simp [State.append]
@[simp] theorem State.append_odStatus (s : State) (k : Nat) (e : RingEntry) : (s.append k e).odStatus = s.odStatus := by simp [State.append]
@[simp] theorem State.append_odValue (s : State) (k : Nat) (e : RingEntry) : (s.append k e).odValue = s.odValue := by simp [State.append]
@[simp] theorem State.append_j16 (s : State) (k : Nat) (e : RingEntry) : (s.append k e).j16 = s.j16 := by simp [State.append]
@[simp] theorem State.append_eop (s : State) (k : Nat) (e : RingEntry) : (s.append k e).eop = s.eop := by simp [State.append]
@[simp] theorem State.append_rt (s : State) (k : Nat) (e : RingEntry) : (s.append k e).rt = s.rt := by simp [State.append]
@[simp] theorem State.append_pairs (s : State) (k : Nat) (e : RingEntry) : (s.append k e).pairs = s.pairs := by simp [State.append]
@[simp] theorem State.append_frame (s : State) (k : Nat) (e : RingEntry) : (s.append k e).frame = s.frame := by simp [State.append]
@[simp] theorem State.append_tally (s : State) (k : Nat) (e : RingEntry) : (s.append k e).tally = s.tally := by simp [State.append]
@[simp] theorem State.append_time (s : State) (k : Nat) (e : RingEntry) : (s.append k e).time = s.time := by simp [State.append]
@[simp] theorem State.append_net (s : State) (k : Nat) (e : RingEntry) : (s.append k e).net = s.net := by simp [State.append]
@[simp] theorem State.append_ecx (s : State) (k : Nat) (e : RingEntry) : (s.append k e).ecx = s.ecx := by simp [State.append]
@[simp] theorem State.append_can (s : State) (k : Nat) (e : RingEntry) : (s.append k e).can = s.can := by simp [State.append]
@[simp] theorem State.append_ledger (s : State) (k : Nat) (e : RingEntry) : (s.append k e).ledger = s.ledger := by simp [State.append]
@[simp] theorem State.append_field (s : State) (k : Nat) (e : RingEntry) : (s.append k e).field = s.field := by simp [State.append]
@[simp] theorem State.append_motion (s : State) (k : Nat) (e : RingEntry) : (s.append k e).motion = s.motion := by simp [State.append]
@[simp] theorem State.append_safety (s : State) (k : Nat) (e : RingEntry) : (s.append k e).safety = s.safety := by simp [State.append]
@[simp] theorem State.append_twin (s : State) (k : Nat) (e : RingEntry) : (s.append k e).twin = s.twin := by simp [State.append]
@[simp] theorem State.append_slate (s : State) (k : Nat) (e : RingEntry) : (s.append k e).slate = s.slate := by simp [State.append]
@[simp] theorem State.append_power (s : State) (k : Nat) (e : RingEntry) : (s.append k e).power = s.power := by simp [State.append]
@[simp] theorem State.append_pending (s : State) (k : Nat) (e : RingEntry) : (s.append k e).pending = s.pending := by simp [State.append]

@[simp] theorem State.push_fst_now (s : State) (k : Nat) (e : RingEntry) : ((s.push k e).1).now = s.now := by unfold State.push; repeat' (first | split | simp)
@[simp] theorem State.push_fst_blocks (s : State) (k : Nat) (e : RingEntry) : ((s.push k e).1).blocks = s.blocks := by unfold State.push; repeat' (first | split | simp)
@[simp] theorem State.push_fst_freeCtr (s : State) (k : Nat) (e : RingEntry) : ((s.push k e).1).freeCtr = s.freeCtr := by unfold State.push; repeat' (first | split | simp)
@[simp] theorem State.push_fst_odStatus (s : State) (k : Nat) (e : RingEntry) : ((s.push k e).1).odStatus = s.odStatus := by unfold State.push; repeat' (first | split | simp)
@[simp] theorem State.push_fst_odValue (s : State) (k : Nat) (e : RingEntry) : ((s.push k e).1).odValue = s.odValue := by unfold State.push; repeat' (first | split | simp)
@[simp] theorem State.push_fst_j16 (s : State) (k : Nat) (e : RingEntry) : ((s.push k e).1).j16 = s.j16 := by unfold State.push; repeat' (first | split | simp)
@[simp] theorem State.push_fst_eop (s : State) (k : Nat) (e : RingEntry) : ((s.push k e).1).eop = s.eop := by unfold State.push; repeat' (first | split | simp)
@[simp] theorem State.push_fst_rt (s : State) (k : Nat) (e : RingEntry) : ((s.push k e).1).rt = s.rt := by unfold State.push; repeat' (first | split | simp)
@[simp] theorem State.push_fst_pairs (s : State) (k : Nat) (e : RingEntry) : ((s.push k e).1).pairs = s.pairs := by unfold State.push; repeat' (first | split | simp)
@[simp] theorem State.push_fst_frame (s : State) (k : Nat) (e : RingEntry) : ((s.push k e).1).frame = s.frame := by unfold State.push; repeat' (first | split | simp)
@[simp] theorem State.push_fst_tally (s : State) (k : Nat) (e : RingEntry) : ((s.push k e).1).tally = s.tally := by unfold State.push; repeat' (first | split | simp)
@[simp] theorem State.push_fst_time (s : State) (k : Nat) (e : RingEntry) : ((s.push k e).1).time = s.time := by unfold State.push; repeat' (first | split | simp)
@[simp] theorem State.push_fst_net (s : State) (k : Nat) (e : RingEntry) : ((s.push k e).1).net = s.net := by unfold State.push; repeat' (first | split | simp)
@[simp] theorem State.push_fst_ecx (s : State) (k : Nat) (e : RingEntry) : ((s.push k e).1).ecx = s.ecx := by unfold State.push; repeat' (first | split | simp)
@[simp] theorem State.push_fst_can (s : State) (k : Nat) (e : RingEntry) : ((s.push k e).1).can = s.can := by unfold State.push; repeat' (first | split | simp)
@[simp] theorem State.push_fst_ledger (s : State) (k : Nat) (e : RingEntry) : ((s.push k e).1).ledger = s.ledger := by unfold State.push; repeat' (first | split | simp)
@[simp] theorem State.push_fst_field (s : State) (k : Nat) (e : RingEntry) : ((s.push k e).1).field = s.field := by unfold State.push; repeat' (first | split | simp)
@[simp] theorem State.push_fst_motion (s : State) (k : Nat) (e : RingEntry) : ((s.push k e).1).motion = s.motion := by unfold State.push; repeat' (first | split | simp)
@[simp] theorem State.push_fst_safety (s : State) (k : Nat) (e : RingEntry) : ((s.push k e).1).safety = s.safety := by unfold State.push; repeat' (first | split | simp)
@[simp] theorem State.push_fst_twin (s : State) (k : Nat) (e : RingEntry) : ((s.push k e).1).twin = s.twin := by unfold State.push; repeat' (first | split | simp)
@[simp] theorem State.push_fst_slate (s : State) (k : Nat) (e : RingEntry) : ((s.push k e).1).slate = s.slate := by unfold State.push; repeat' (first | split | simp)
@[simp] theorem State.push_fst_power (s : State) (k : Nat) (e : RingEntry) : ((s.push k e).1).power = s.power := by unfold State.push; repeat' (first | split | simp)
@[simp] theorem State.push_fst_pending (s : State) (k : Nat) (e : RingEntry) : ((s.push k e).1).pending = s.pending := by unfold State.push; repeat' (first | split | simp)

@[simp] theorem State.place_now (s : State) (k : Nat) (e : RingEntry) : (s.place k e).now = s.now := by simp [State.place]
@[simp] theorem State.place_blocks (s : State) (k : Nat) (e : RingEntry) : (s.place k e).blocks = s.blocks := by simp [State.place]
@[simp] theorem State.place_freeCtr (s : State) (k : Nat) (e : RingEntry) : (s.place k e).freeCtr = s.freeCtr := by simp [State.place]
@[simp] theorem State.place_odStatus (s : State) (k : Nat) (e : RingEntry) : (s.place k e).odStatus = s.odStatus := by simp [State.place]
@[simp] theorem State.place_odValue (s : State) (k : Nat) (e : RingEntry) : (s.place k e).odValue = s.odValue := by simp [State.place]
@[simp] theorem State.place_j16 (s : State) (k : Nat) (e : RingEntry) : (s.place k e).j16 = s.j16 := by simp [State.place]
@[simp] theorem State.place_eop (s : State) (k : Nat) (e : RingEntry) : (s.place k e).eop = s.eop := by simp [State.place]
@[simp] theorem State.place_rt (s : State) (k : Nat) (e : RingEntry) : (s.place k e).rt = s.rt := by simp [State.place]
@[simp] theorem State.place_pairs (s : State) (k : Nat) (e : RingEntry) : (s.place k e).pairs = s.pairs := by simp [State.place]
@[simp] theorem State.place_frame (s : State) (k : Nat) (e : RingEntry) : (s.place k e).frame = s.frame := by simp [State.place]
@[simp] theorem State.place_tally (s : State) (k : Nat) (e : RingEntry) : (s.place k e).tally = s.tally := by simp [State.place]
@[simp] theorem State.place_time (s : State) (k : Nat) (e : RingEntry) : (s.place k e).time = s.time := by simp [State.place]
@[simp] theorem State.place_net (s : State) (k : Nat) (e : RingEntry) : (s.place k e).net = s.net := by simp [State.place]
@[simp] theorem State.place_ecx (s : State) (k : Nat) (e : RingEntry) : (s.place k e).ecx = s.ecx := by simp [State.place]
@[simp] theorem State.place_can (s : State) (k : Nat) (e : RingEntry) : (s.place k e).can = s.can := by simp [State.place]
@[simp] theorem State.place_ledger (s : State) (k : Nat) (e : RingEntry) : (s.place k e).ledger = s.ledger := by simp [State.place]
@[simp] theorem State.place_field (s : State) (k : Nat) (e : RingEntry) : (s.place k e).field = s.field := by simp [State.place]
@[simp] theorem State.place_motion (s : State) (k : Nat) (e : RingEntry) : (s.place k e).motion = s.motion := by simp [State.place]
@[simp] theorem State.place_safety (s : State) (k : Nat) (e : RingEntry) : (s.place k e).safety = s.safety := by simp [State.place]
@[simp] theorem State.place_twin (s : State) (k : Nat) (e : RingEntry) : (s.place k e).twin = s.twin := by simp [State.place]
@[simp] theorem State.place_slate (s : State) (k : Nat) (e : RingEntry) : (s.place k e).slate = s.slate := by simp [State.place]
@[simp] theorem State.place_power (s : State) (k : Nat) (e : RingEntry) : (s.place k e).power = s.power := by simp [State.place]
@[simp] theorem State.place_pending (s : State) (k : Nat) (e : RingEntry) : (s.place k e).pending = s.pending := by simp [State.place]

@[simp] theorem State.unstall_now (s : State) (k : Nat) : (s.unstall k).now = s.now := by unfold State.unstall; repeat' (first | split | simp)
@[simp] theorem State.unstall_blocks (s : State) (k : Nat) : (s.unstall k).blocks = s.blocks := by unfold State.unstall; repeat' (first | split | simp)
@[simp] theorem State.unstall_freeCtr (s : State) (k : Nat) : (s.unstall k).freeCtr = s.freeCtr := by unfold State.unstall; repeat' (first | split | simp)
@[simp] theorem State.unstall_odStatus (s : State) (k : Nat) : (s.unstall k).odStatus = s.odStatus := by unfold State.unstall; repeat' (first | split | simp)
@[simp] theorem State.unstall_odValue (s : State) (k : Nat) : (s.unstall k).odValue = s.odValue := by unfold State.unstall; repeat' (first | split | simp)
@[simp] theorem State.unstall_j16 (s : State) (k : Nat) : (s.unstall k).j16 = s.j16 := by unfold State.unstall; repeat' (first | split | simp)
@[simp] theorem State.unstall_eop (s : State) (k : Nat) : (s.unstall k).eop = s.eop := by unfold State.unstall; repeat' (first | split | simp)
@[simp] theorem State.unstall_rt (s : State) (k : Nat) : (s.unstall k).rt = s.rt := by unfold State.unstall; repeat' (first | split | simp)
@[simp] theorem State.unstall_pairs (s : State) (k : Nat) : (s.unstall k).pairs = s.pairs := by unfold State.unstall; repeat' (first | split | simp)
@[simp] theorem State.unstall_frame (s : State) (k : Nat) : (s.unstall k).frame = s.frame := by unfold State.unstall; repeat' (first | split | simp)
@[simp] theorem State.unstall_tally (s : State) (k : Nat) : (s.unstall k).tally = s.tally := by unfold State.unstall; repeat' (first | split | simp)
@[simp] theorem State.unstall_time (s : State) (k : Nat) : (s.unstall k).time = s.time := by unfold State.unstall; repeat' (first | split | simp)
@[simp] theorem State.unstall_net (s : State) (k : Nat) : (s.unstall k).net = s.net := by unfold State.unstall; repeat' (first | split | simp)
@[simp] theorem State.unstall_ecx (s : State) (k : Nat) : (s.unstall k).ecx = s.ecx := by unfold State.unstall; repeat' (first | split | simp)
@[simp] theorem State.unstall_can (s : State) (k : Nat) : (s.unstall k).can = s.can := by unfold State.unstall; repeat' (first | split | simp)
@[simp] theorem State.unstall_ledger (s : State) (k : Nat) : (s.unstall k).ledger = s.ledger := by unfold State.unstall; repeat' (first | split | simp)
@[simp] theorem State.unstall_field (s : State) (k : Nat) : (s.unstall k).field = s.field := by unfold State.unstall; repeat' (first | split | simp)
@[simp] theorem State.unstall_motion (s : State) (k : Nat) : (s.unstall k).motion = s.motion := by unfold State.unstall; repeat' (first | split | simp)
@[simp] theorem State.unstall_safety (s : State) (k : Nat) : (s.unstall k).safety = s.safety := by unfold State.unstall; repeat' (first | split | simp)
@[simp] theorem State.unstall_twin (s : State) (k : Nat) : (s.unstall k).twin = s.twin := by unfold State.unstall; repeat' (first | split | simp)
@[simp] theorem State.unstall_slate (s : State) (k : Nat) : (s.unstall k).slate = s.slate := by unfold State.unstall; repeat' (first | split | simp)
@[simp] theorem State.unstall_power (s : State) (k : Nat) : (s.unstall k).power = s.power := by unfold State.unstall; repeat' (first | split | simp)
@[simp] theorem State.unstall_pending (s : State) (k : Nat) : (s.unstall k).pending = s.pending := by unfold State.unstall; repeat' (first | split | simp)

@[simp] theorem State.pop_fst_now (s : State) (k : Nat) : ((s.pop k).1).now = s.now := by unfold State.pop; repeat' (first | split | simp)
@[simp] theorem State.pop_fst_blocks (s : State) (k : Nat) : ((s.pop k).1).blocks = s.blocks := by unfold State.pop; repeat' (first | split | simp)
@[simp] theorem State.pop_fst_freeCtr (s : State) (k : Nat) : ((s.pop k).1).freeCtr = s.freeCtr := by unfold State.pop; repeat' (first | split | simp)
@[simp] theorem State.pop_fst_odStatus (s : State) (k : Nat) : ((s.pop k).1).odStatus = s.odStatus := by unfold State.pop; repeat' (first | split | simp)
@[simp] theorem State.pop_fst_odValue (s : State) (k : Nat) : ((s.pop k).1).odValue = s.odValue := by unfold State.pop; repeat' (first | split | simp)
@[simp] theorem State.pop_fst_j16 (s : State) (k : Nat) : ((s.pop k).1).j16 = s.j16 := by unfold State.pop; repeat' (first | split | simp)
@[simp] theorem State.pop_fst_eop (s : State) (k : Nat) : ((s.pop k).1).eop = s.eop := by unfold State.pop; repeat' (first | split | simp)
@[simp] theorem State.pop_fst_rt (s : State) (k : Nat) : ((s.pop k).1).rt = s.rt := by unfold State.pop; repeat' (first | split | simp)
@[simp] theorem State.pop_fst_pairs (s : State) (k : Nat) : ((s.pop k).1).pairs = s.pairs := by unfold State.pop; repeat' (first | split | simp)
@[simp] theorem State.pop_fst_frame (s : State) (k : Nat) : ((s.pop k).1).frame = s.frame := by unfold State.pop; repeat' (first | split | simp)
@[simp] theorem State.pop_fst_tally (s : State) (k : Nat) : ((s.pop k).1).tally = s.tally := by unfold State.pop; repeat' (first | split | simp)
@[simp] theorem State.pop_fst_time (s : State) (k : Nat) : ((s.pop k).1).time = s.time := by unfold State.pop; repeat' (first | split | simp)
@[simp] theorem State.pop_fst_net (s : State) (k : Nat) : ((s.pop k).1).net = s.net := by unfold State.pop; repeat' (first | split | simp)
@[simp] theorem State.pop_fst_ecx (s : State) (k : Nat) : ((s.pop k).1).ecx = s.ecx := by unfold State.pop; repeat' (first | split | simp)
@[simp] theorem State.pop_fst_can (s : State) (k : Nat) : ((s.pop k).1).can = s.can := by unfold State.pop; repeat' (first | split | simp)
@[simp] theorem State.pop_fst_ledger (s : State) (k : Nat) : ((s.pop k).1).ledger = s.ledger := by unfold State.pop; repeat' (first | split | simp)
@[simp] theorem State.pop_fst_field (s : State) (k : Nat) : ((s.pop k).1).field = s.field := by unfold State.pop; repeat' (first | split | simp)
@[simp] theorem State.pop_fst_motion (s : State) (k : Nat) : ((s.pop k).1).motion = s.motion := by unfold State.pop; repeat' (first | split | simp)
@[simp] theorem State.pop_fst_safety (s : State) (k : Nat) : ((s.pop k).1).safety = s.safety := by unfold State.pop; repeat' (first | split | simp)
@[simp] theorem State.pop_fst_twin (s : State) (k : Nat) : ((s.pop k).1).twin = s.twin := by unfold State.pop; repeat' (first | split | simp)
@[simp] theorem State.pop_fst_slate (s : State) (k : Nat) : ((s.pop k).1).slate = s.slate := by unfold State.pop; repeat' (first | split | simp)
@[simp] theorem State.pop_fst_power (s : State) (k : Nat) : ((s.pop k).1).power = s.power := by unfold State.pop; repeat' (first | split | simp)
@[simp] theorem State.pop_fst_pending (s : State) (k : Nat) : ((s.pop k).1).pending = s.pending := by unfold State.pop; repeat' (first | split | simp)

@[simp] theorem State.emptyRing_now (s : State) (k : Nat) : (s.emptyRing k).now = s.now := rfl
@[simp] theorem State.emptyRing_od (s : State) (k : Nat) : (s.emptyRing k).od = s.od := rfl
@[simp] theorem State.emptyRing_blocks (s : State) (k : Nat) : (s.emptyRing k).blocks = s.blocks := rfl
@[simp] theorem State.emptyRing_freeCtr (s : State) (k : Nat) : (s.emptyRing k).freeCtr = s.freeCtr := rfl
@[simp] theorem State.emptyRing_odStatus (s : State) (k : Nat) : (s.emptyRing k).odStatus = s.odStatus := rfl
@[simp] theorem State.emptyRing_odValue (s : State) (k : Nat) : (s.emptyRing k).odValue = s.odValue := rfl
@[simp] theorem State.emptyRing_j16 (s : State) (k : Nat) : (s.emptyRing k).j16 = s.j16 := rfl
@[simp] theorem State.emptyRing_eop (s : State) (k : Nat) : (s.emptyRing k).eop = s.eop := rfl
@[simp] theorem State.emptyRing_rt (s : State) (k : Nat) : (s.emptyRing k).rt = s.rt := rfl
@[simp] theorem State.emptyRing_pairs (s : State) (k : Nat) : (s.emptyRing k).pairs = s.pairs := rfl
@[simp] theorem State.emptyRing_frame (s : State) (k : Nat) : (s.emptyRing k).frame = s.frame := rfl
@[simp] theorem State.emptyRing_tally (s : State) (k : Nat) : (s.emptyRing k).tally = s.tally := rfl
@[simp] theorem State.emptyRing_time (s : State) (k : Nat) : (s.emptyRing k).time = s.time := rfl
@[simp] theorem State.emptyRing_net (s : State) (k : Nat) : (s.emptyRing k).net = s.net := rfl
@[simp] theorem State.emptyRing_ecx (s : State) (k : Nat) : (s.emptyRing k).ecx = s.ecx := rfl
@[simp] theorem State.emptyRing_can (s : State) (k : Nat) : (s.emptyRing k).can = s.can := rfl
@[simp] theorem State.emptyRing_ledger (s : State) (k : Nat) : (s.emptyRing k).ledger = s.ledger := rfl
@[simp] theorem State.emptyRing_field (s : State) (k : Nat) : (s.emptyRing k).field = s.field := rfl
@[simp] theorem State.emptyRing_motion (s : State) (k : Nat) : (s.emptyRing k).motion = s.motion := rfl
@[simp] theorem State.emptyRing_safety (s : State) (k : Nat) : (s.emptyRing k).safety = s.safety := rfl
@[simp] theorem State.emptyRing_twin (s : State) (k : Nat) : (s.emptyRing k).twin = s.twin := rfl
@[simp] theorem State.emptyRing_slate (s : State) (k : Nat) : (s.emptyRing k).slate = s.slate := rfl
@[simp] theorem State.emptyRing_power (s : State) (k : Nat) : (s.emptyRing k).power = s.power := rfl
@[simp] theorem State.emptyRing_pending (s : State) (k : Nat) : (s.emptyRing k).pending = s.pending := rfl

@[simp] theorem State.logAt_now (s : State) (a b : Nat) (p : List Byte) (t : Int) : (s.logAt a b p t).now = s.now := by unfold State.logAt; split <;> simp
@[simp] theorem State.logAt_blocks (s : State) (a b : Nat) (p : List Byte) (t : Int) : (s.logAt a b p t).blocks = s.blocks := by unfold State.logAt; split <;> simp
@[simp] theorem State.logAt_freeCtr (s : State) (a b : Nat) (p : List Byte) (t : Int) : (s.logAt a b p t).freeCtr = s.freeCtr := by unfold State.logAt; split <;> simp
@[simp] theorem State.logAt_odStatus (s : State) (a b : Nat) (p : List Byte) (t : Int) : (s.logAt a b p t).odStatus = s.odStatus := by unfold State.logAt; split <;> simp
@[simp] theorem State.logAt_odValue (s : State) (a b : Nat) (p : List Byte) (t : Int) : (s.logAt a b p t).odValue = s.odValue := by unfold State.logAt; split <;> simp
@[simp] theorem State.logAt_j16 (s : State) (a b : Nat) (p : List Byte) (t : Int) : (s.logAt a b p t).j16 = s.j16 := by unfold State.logAt; split <;> simp
@[simp] theorem State.logAt_eop (s : State) (a b : Nat) (p : List Byte) (t : Int) : (s.logAt a b p t).eop = s.eop := by unfold State.logAt; split <;> simp
@[simp] theorem State.logAt_rt (s : State) (a b : Nat) (p : List Byte) (t : Int) : (s.logAt a b p t).rt = s.rt := by unfold State.logAt; split <;> simp
@[simp] theorem State.logAt_pairs (s : State) (a b : Nat) (p : List Byte) (t : Int) : (s.logAt a b p t).pairs = s.pairs := by unfold State.logAt; split <;> simp
@[simp] theorem State.logAt_frame (s : State) (a b : Nat) (p : List Byte) (t : Int) : (s.logAt a b p t).frame = s.frame := by unfold State.logAt; split <;> simp
@[simp] theorem State.logAt_tally (s : State) (a b : Nat) (p : List Byte) (t : Int) : (s.logAt a b p t).tally = s.tally := by unfold State.logAt; split <;> simp
@[simp] theorem State.logAt_time (s : State) (a b : Nat) (p : List Byte) (t : Int) : (s.logAt a b p t).time = s.time := by unfold State.logAt; split <;> simp
@[simp] theorem State.logAt_net (s : State) (a b : Nat) (p : List Byte) (t : Int) : (s.logAt a b p t).net = s.net := by unfold State.logAt; split <;> simp
@[simp] theorem State.logAt_ecx (s : State) (a b : Nat) (p : List Byte) (t : Int) : (s.logAt a b p t).ecx = s.ecx := by unfold State.logAt; split <;> simp
@[simp] theorem State.logAt_can (s : State) (a b : Nat) (p : List Byte) (t : Int) : (s.logAt a b p t).can = s.can := by unfold State.logAt; split <;> simp
@[simp] theorem State.logAt_field (s : State) (a b : Nat) (p : List Byte) (t : Int) : (s.logAt a b p t).field = s.field := by unfold State.logAt; split <;> simp
@[simp] theorem State.logAt_motion (s : State) (a b : Nat) (p : List Byte) (t : Int) : (s.logAt a b p t).motion = s.motion := by unfold State.logAt; split <;> simp
@[simp] theorem State.logAt_safety (s : State) (a b : Nat) (p : List Byte) (t : Int) : (s.logAt a b p t).safety = s.safety := by unfold State.logAt; split <;> simp
@[simp] theorem State.logAt_twin (s : State) (a b : Nat) (p : List Byte) (t : Int) : (s.logAt a b p t).twin = s.twin := by unfold State.logAt; split <;> simp
@[simp] theorem State.logAt_slate (s : State) (a b : Nat) (p : List Byte) (t : Int) : (s.logAt a b p t).slate = s.slate := by unfold State.logAt; split <;> simp
@[simp] theorem State.logAt_power (s : State) (a b : Nat) (p : List Byte) (t : Int) : (s.logAt a b p t).power = s.power := by unfold State.logAt; split <;> simp
@[simp] theorem State.logAt_pending (s : State) (a b : Nat) (p : List Byte) (t : Int) : (s.logAt a b p t).pending = s.pending := by unfold State.logAt; split <;> simp

@[simp] theorem State.log_now (s : State) (a b : Nat) (p : List Byte) : (s.log a b p).now = s.now := by simp [State.log]
@[simp] theorem State.log_blocks (s : State) (a b : Nat) (p : List Byte) : (s.log a b p).blocks = s.blocks := by simp [State.log]
@[simp] theorem State.log_freeCtr (s : State) (a b : Nat) (p : List Byte) : (s.log a b p).freeCtr = s.freeCtr := by simp [State.log]
@[simp] theorem State.log_odStatus (s : State) (a b : Nat) (p : List Byte) : (s.log a b p).odStatus = s.odStatus := by simp [State.log]
@[simp] theorem State.log_odValue (s : State) (a b : Nat) (p : List Byte) : (s.log a b p).odValue = s.odValue := by simp [State.log]
@[simp] theorem State.log_j16 (s : State) (a b : Nat) (p : List Byte) : (s.log a b p).j16 = s.j16 := by simp [State.log]
@[simp] theorem State.log_eop (s : State) (a b : Nat) (p : List Byte) : (s.log a b p).eop = s.eop := by simp [State.log]
@[simp] theorem State.log_rt (s : State) (a b : Nat) (p : List Byte) : (s.log a b p).rt = s.rt := by simp [State.log]
@[simp] theorem State.log_pairs (s : State) (a b : Nat) (p : List Byte) : (s.log a b p).pairs = s.pairs := by simp [State.log]
@[simp] theorem State.log_frame (s : State) (a b : Nat) (p : List Byte) : (s.log a b p).frame = s.frame := by simp [State.log]
@[simp] theorem State.log_tally (s : State) (a b : Nat) (p : List Byte) : (s.log a b p).tally = s.tally := by simp [State.log]
@[simp] theorem State.log_time (s : State) (a b : Nat) (p : List Byte) : (s.log a b p).time = s.time := by simp [State.log]
@[simp] theorem State.log_net (s : State) (a b : Nat) (p : List Byte) : (s.log a b p).net = s.net := by simp [State.log]
@[simp] theorem State.log_ecx (s : State) (a b : Nat) (p : List Byte) : (s.log a b p).ecx = s.ecx := by simp [State.log]
@[simp] theorem State.log_can (s : State) (a b : Nat) (p : List Byte) : (s.log a b p).can = s.can := by simp [State.log]
@[simp] theorem State.log_field (s : State) (a b : Nat) (p : List Byte) : (s.log a b p).field = s.field := by simp [State.log]
@[simp] theorem State.log_motion (s : State) (a b : Nat) (p : List Byte) : (s.log a b p).motion = s.motion := by simp [State.log]
@[simp] theorem State.log_safety (s : State) (a b : Nat) (p : List Byte) : (s.log a b p).safety = s.safety := by simp [State.log]
@[simp] theorem State.log_twin (s : State) (a b : Nat) (p : List Byte) : (s.log a b p).twin = s.twin := by simp [State.log]
@[simp] theorem State.log_slate (s : State) (a b : Nat) (p : List Byte) : (s.log a b p).slate = s.slate := by simp [State.log]
@[simp] theorem State.log_power (s : State) (a b : Nat) (p : List Byte) : (s.log a b p).power = s.power := by simp [State.log]
@[simp] theorem State.log_pending (s : State) (a b : Nat) (p : List Byte) : (s.log a b p).pending = s.pending := by simp [State.log]

/-! ## Entries -/

@[simp] theorem State.advance_now (s : State) (a : Nat) : (s.advance a).now = max s.now (a / 4 * 4) := rfl

theorem State.base_congr {s t : State} (h : t.rt = s.rt) (e : Ent) : t.base e = s.base e := by simp [State.base, h]

/-- What an entry holds depends on its cell and on the archive only. -/
theorem State.get_congr {s t : State} {e : Ent} (h : t.od.find e.key = s.od.find e.key) (hr : t.rt = s.rt) : t.get e = s.get e := by
  simp [State.get, h, State.base_congr hr]

theorem State.put_find_ne (s : State) (e : Ent) (v : Value) {k : Nat} (h : k ≠ e.key) : (s.put e v).od.find k = s.od.find k := by
  unfold State.put
  cases e.arch <;> simp [h]

/-- An entry holds what was just written to it. -/
@[simp] theorem State.get_put_self (s : State) (e : Ent) (v : Value) : (s.put e v).get e = v := by
  simp only [State.get, State.put, State.base]
  cases he : e.arch
  · simp only [Bool.false_eq_true, if_false, SMap.find_store_self]
    split
    · next h => simp [h]
    · rfl
  · simp

/-- A write leaves every other entry alone. -/
@[simp] theorem State.get_put_ne (s : State) (e f : Ent) (v : Value) (h : f.key ≠ e.key) : (s.put e v).get f = s.get f :=
  State.get_congr (State.put_find_ne s e v h) rfl

@[simp] theorem State.rd_put_self (s : State) (e : Ent) (v : Value) : (s.put e v).rd e = valNat v := by simp [State.rd]
@[simp] theorem State.rd_put_ne (s : State) (e f : Ent) (v : Value) (h : f.key ≠ e.key) : (s.put e v).rd f = s.rd f := by
  simp [State.rd, h]
@[simp] theorem State.rdB_put_self (s : State) (e : Ent) (v : Value) : (s.put e v).rdB e = valBytes v := by simp [State.rdB]
@[simp] theorem State.rdB_put_ne (s : State) (e f : Ent) (v : Value) (h : f.key ≠ e.key) : (s.put e v).rdB f = s.rdB f := by
  simp [State.rdB, h]

/-- A number is cut to the width of its entry. -/
@[simp] theorem State.rd_wr_self (s : State) (e : Ent) (n : Nat) : (s.wr e n).rd e = n % 2 ^ Ty.bits e.ty := by
  simp [State.wr, valNat]
@[simp] theorem State.rd_wr_ne (s : State) (e f : Ent) (n : Nat) (h : f.key ≠ e.key) : (s.wr e n).rd f = s.rd f := by
  simp [State.wr, h]
@[simp] theorem State.rdB_wr_ne (s : State) (e f : Ent) (n : Nat) (h : f.key ≠ e.key) : (s.wr e n).rdB f = s.rdB f := by
  simp [State.wr, h]
@[simp] theorem State.rdB_wrB_self (s : State) (e : Ent) (b : List Byte) : (s.wrB e b).rdB e = b := by
  simp [State.wrB, valBytes]
@[simp] theorem State.rd_wrB_ne (s : State) (e f : Ent) (b : List Byte) (h : f.key ≠ e.key) : (s.wrB e b).rd f = s.rd f := by
  simp [State.wrB, h]
@[simp] theorem State.rdB_wrB_ne (s : State) (e f : Ent) (b : List Byte) (h : f.key ≠ e.key) : (s.wrB e b).rdB f = s.rdB f := by
  simp [State.wrB, h]
@[simp] theorem State.rd_wrI_self (s : State) (e : Ent) (i : Int) : (s.wrI e i).rd e = natOf (Ty.bits e.ty) i := by
  simp [State.wrI, valNat]
@[simp] theorem State.rd_wrI_ne (s : State) (e f : Ent) (i : Int) (h : f.key ≠ e.key) : (s.wrI e i).rd f = s.rd f := by
  simp [State.wrI, h]
@[simp] theorem State.rd_wrT_ne (s : State) (e f : Ent) (t : Int) (h : f.key ≠ e.key) : (s.wrT e t).rd f = s.rd f := by
  simp [State.wrT, h]
/-- A counter saturates at the largest value of its type. -/
@[simp] theorem State.rd_inc_self (s : State) (e : Ent) : (s.inc e).rd e = min (2 ^ Ty.bits e.ty - 1) (s.rd e + 1) := by
  have : min (2 ^ Ty.bits e.ty - 1) (s.rd e + 1) < 2 ^ Ty.bits e.ty := by
    have := Nat.two_pow_pos (Ty.bits e.ty); omega
  simp [State.inc, State.addTo, Nat.mod_eq_of_lt this]
@[simp] theorem State.rd_inc_ne (s : State) (e f : Ent) (h : f.key ≠ e.key) : (s.inc e).rd f = s.rd f := by
  simp [State.inc, State.addTo, h]
@[simp] theorem State.rd_addTo_ne (s : State) (e f : Ent) (n : Nat) (h : f.key ≠ e.key) : (s.addTo e n).rd f = s.rd f := by
  simp [State.addTo, h]
@[simp] theorem State.rd_raise_ne (s : State) (e f : Ent) (n : Nat) (h : f.key ≠ e.key) : (s.raise e n).rd f = s.rd f := by
  unfold State.raise; split
  · simp [h]
  · rfl
@[simp] theorem State.rd_advance (s : State) (a : Nat) (e : Ent) : (s.advance a).rd e = s.rd e := rfl
@[simp] theorem State.rdI_advance (s : State) (a : Nat) (e : Ent) : (s.advance a).rdI e = s.rdI e := rfl
@[simp] theorem State.rdB_advance (s : State) (a : Nat) (e : Ent) : (s.advance a).rdB e = s.rdB e := rfl
@[simp] theorem State.get_advance (s : State) (a : Nat) (e : Ent) : (s.advance a).get e = s.get e := rfl
@[simp] theorem State.on_advance (s : State) (a : Nat) (e : Ent) : (s.advance a).on e = s.on e := rfl
@[simp] theorem State.ring_advance (s : State) (a k : Nat) : (s.advance a).ring k = s.ring k := rfl
@[simp] theorem State.rd_setRing (s : State) (k : Nat) (r : Ring) (e : Ent) : (s.setRing k r).rd e = s.rd e := rfl
@[simp] theorem State.rd_drawn (s : State) (e : Ent) : (s.drawn).rd e = s.rd e := rfl

/-! ## Rings -/

@[simp] theorem State.ring_put (s : State) (e : Ent) (v : Value) (k : Nat) : (s.put e v).ring k = s.ring k := rfl
@[simp] theorem State.ring_wr (s : State) (e : Ent) (n k : Nat) : (s.wr e n).ring k = s.ring k := rfl
@[simp] theorem State.ring_setRing_self (s : State) (k : Nat) (r : Ring) : (s.setRing k r).ring k = r := by
  simp [State.ring, State.setRing]
@[simp] theorem State.ring_setRing_ne (s : State) {k j : Nat} (r : Ring) (h : j ≠ k) : (s.setRing k r).ring j = s.ring j := by
  simp [State.ring, State.setRing, h]

theorem State.ring_congr {s t : State} (h : t.rings = s.rings) (k : Nat) : t.ring k = s.ring k := by simp [State.ring, h]

/-- An append puts the entry behind the others of its ring. -/
theorem State.ring_append_self (s : State) (k : Nat) (e : RingEntry) : (s.append k e).ring k = { s.ring k with q := (s.ring k).q ++ [e] } := by
  simp only [State.append]
  rw [State.ring_congr (State.noteFill_rings _ _), State.ring_setRing_self]

theorem State.ring_append_ne (s : State) {k j : Nat} (e : RingEntry) (h : j ≠ k) : (s.append k e).ring j = s.ring j := by
  simp only [State.append]
  rw [State.ring_congr (State.noteFill_rings _ _), State.ring_setRing_ne _ _ h]

/-- A ring whose policy is REFUSE or DROP takes an entry behind the others where it has room, and none where it is full. -/
theorem State.ring_place_self (s : State) (k : Nat) (e : RingEntry) (hp : ringPolicy k = .refuse ∨ ringPolicy k = .drop) :
    (s.place k e).ring k = if s.room k 1 then { s.ring k with q := (s.ring k).q ++ [e] } else s.ring k := by
  rcases hp with hp | hp <;>
  · simp only [State.place, State.push, hp]
    split
    · exact State.ring_append_self s k e
    · exact State.ring_congr rfl k

/-- A placed entry touches no other ring. -/
theorem State.ring_place_ne (s : State) {k j : Nat} (e : RingEntry) (h : j ≠ k) : (s.place k e).ring j = s.ring j := by
  simp only [State.place, State.push]
  split
  · split
    · exact State.ring_append_ne s e h
    · exact State.ring_congr rfl j
  · split
    · exact State.ring_append_ne s e h
    · exact State.ring_congr rfl j
  · split
    · exact (State.ring_congr rfl j).trans (State.ring_setRing_ne _ _ h)
    · split
      · exact State.ring_append_ne s e h
      · exact State.ring_congr rfl j
  · split
    · exact State.ring_append_ne s e h
    · exact State.ring_setRing_ne _ _ h

/-- An event on its way to the ledger touches no ring but LOG_IN. -/
theorem State.ring_logAt_ne (s : State) (a b : Nat) (p : List Byte) (t : Int) {j : Nat} (h : j ≠ 28) : (s.logAt a b p t).ring j = s.ring j := by
  unfold State.logAt
  split
  · exact (State.ring_congr rfl j).trans (State.ring_append_ne s _ h)
  · exact State.ring_congr rfl j

end Sys2Proof.Machine
end

