-- ==== Sys2Proof/Laws/Frame.lean ====
section
/-!
SUPPORT. Laws/Frame.lean: frames compose, one lemma per named update.
-/
namespace Sys2Proof.Machine

variable {ps : List Part} {es : List Ent} {rs : List Nat} {s x y : State}

theorem Frame.refl (ps : List Part) (es : List Ent) (rs : List Nat) (s : State) : Frame ps es rs s s :=
  ⟨rfl, fun p _ => by cases p <;> simp [Part.same], fun _ _ _ => rfl, fun _ _ => rfl⟩

theorem Part.same_trans {p : Part} (h : p.same s x) (g : p.same x y) : p.same s y := by
  cases p <;> simp only [Part.same] at * <;> first | exact g.trans h | exact ⟨g.1.trans h.1, g.2.trans h.2⟩

theorem Frame.trans (h : Frame ps es rs s x) (g : Frame ps es rs x y) : Frame ps es rs s y :=
  ⟨g.1.trans h.1, fun p hp => Part.same_trans (h.2.1 p hp) (g.2.1 p hp),
   fun k he hr => (g.2.2.1 k he hr).trans (h.2.2.1 k he hr), fun k hk => (g.2.2.2 k hk).trans (h.2.2.2 k hk)⟩

theorem Frame.mono {ps' : List Part} {es' : List Ent} {rs' : List Nat} (h : Frame ps es rs s x) (hp : ∀ p ∈ ps, p ∈ ps')
    (he : ∀ e ∈ es, e ∈ es') (hr : ∀ r ∈ rs, r ∈ rs') : Frame ps' es' rs' s x :=
  ⟨h.1, fun p n => h.2.1 p (fun m => n (hp p m)), fun k a b => h.2.2.1 k (fun e m => a e (he e m)) (fun r m => b r (hr r m)),
   fun k n => h.2.2.2 k (fun m => n (hr k m))⟩

/-- An update of the dictionary alone, at keys that the frame lets change. -/
theorem Frame.od (h : Frame ps es rs s x) (hy : y = { x with od := y.od })
    (hk : ∀ k : Nat, (∀ e ∈ es, k ≠ e.key) → (∀ r ∈ rs, k / 256 ≠ 0x1B00 + r) → y.od.find k = x.od.find k) : Frame ps es rs s y := by
  refine h.trans ⟨?_, fun p _ => ?_, hk, fun k _ => ?_⟩ <;> rw [hy]
  · cases p <;> simp [Part.same]
  · rfl

theorem Frame.put {e : Ent} {v : Value} (h : Frame ps es rs s x) (he : e ∈ es) : Frame ps es rs s (x.put e v) :=
  h.od rfl (fun _ a _ => State.put_find_ne x e v (a e he))
theorem Frame.wr {e : Ent} {n : Nat} (h : Frame ps es rs s x) (he : e ∈ es) : Frame ps es rs s (x.wr e n) := h.put he
theorem Frame.wrI {e : Ent} {n : Int} (h : Frame ps es rs s x) (he : e ∈ es) : Frame ps es rs s (x.wrI e n) := h.put he
theorem Frame.wrB {e : Ent} {b : List Byte} (h : Frame ps es rs s x) (he : e ∈ es) : Frame ps es rs s (x.wrB e b) := h.put he
theorem Frame.wrT {e : Ent} {n : Int} (h : Frame ps es rs s x) (he : e ∈ es) : Frame ps es rs s (x.wrT e n) := h.put he
theorem Frame.addTo {e : Ent} {n : Nat} (h : Frame ps es rs s x) (he : e ∈ es) : Frame ps es rs s (x.addTo e n) := h.put he
theorem Frame.inc {e : Ent} (h : Frame ps es rs s x) (he : e ∈ es) : Frame ps es rs s (x.inc e) := h.put he
theorem Frame.raise {e : Ent} {n : Nat} (h : Frame ps es rs s x) (he : e ∈ es) : Frame ps es rs s (x.raise e n) := by
  unfold State.raise; split
  · exact h.put he
  · exact h

/-- An entry of a ring of the frame. -/
theorem Frame.ringEnt {e : Ent} {v : Value} {r : Nat} (h : Frame ps es rs s x) (hr : r ∈ rs) (he : e.key / 256 = 0x1B00 + r) :
    Frame ps es rs s (x.put e v) :=
  h.od rfl (fun k _ b => State.put_find_ne x e v (fun c => b r hr (by rw [c, he])))

theorem ringHwm_index (k : Nat) : (E.Ring.RING_HWM k).key / 256 = 0x1B00 + k := by simp only [E.Ring.RING_HWM, entN]; omega
theorem ringOverflows_index (k : Nat) : (E.Ring.RING_OVERFLOWS k).key / 256 = 0x1B00 + k := by simp only [E.Ring.RING_OVERFLOWS, entN]; omega
theorem ringRefusals_index (k : Nat) : (E.Ring.RING_REFUSALS k).key / 256 = 0x1B00 + k := by simp only [E.Ring.RING_REFUSALS, entN]; omega

theorem Frame.setRing {k : Nat} {r : Ring} (h : Frame ps es rs s x) (hk : k ∈ rs) : Frame ps es rs s (x.setRing k r) := by
  refine h.trans ⟨rfl, fun p _ => by cases p <;> simp [Part.same], fun _ _ _ => rfl, fun j hj => ?_⟩
  exact State.ring_setRing_ne x r (fun c => hj (c ▸ hk))

theorem Frame.noteFill {k : Nat} (h : Frame ps es rs s x) (hk : k ∈ rs) : Frame ps es rs s (x.noteFill k) := by
  unfold State.noteFill State.raise; split
  · exact h.ringEnt hk (ringHwm_index k)
  · exact h

theorem Frame.append {k : Nat} {e : RingEntry} (h : Frame ps es rs s x) (hk : k ∈ rs) : Frame ps es rs s (x.append k e) :=
  (h.setRing hk).noteFill hk

theorem Frame.push {k : Nat} {e : RingEntry} (h : Frame ps es rs s x) (hk : k ∈ rs) : Frame ps es rs s (x.push k e).1 := by
  unfold State.push
  dsimp only
  split <;> split
  · exact h.append hk
  · exact h.ringEnt hk (ringRefusals_index k)
  · exact h.append hk
  · exact h.ringEnt hk (ringOverflows_index k)
  · exact (h.setRing hk).ringEnt hk (ringOverflows_index k)
  · split
    · exact h.append hk
    · exact h.ringEnt hk (ringOverflows_index k)
  · exact h.append hk
  · exact h.setRing hk

theorem Frame.place {k : Nat} {e : RingEntry} (h : Frame ps es rs s x) (hk : k ∈ rs) : Frame ps es rs s (x.place k e) := h.push hk

theorem Frame.unstall {k : Nat} (h : Frame ps es rs s x) (hk : k ∈ rs) : Frame ps es rs s (x.unstall k) := by
  unfold State.unstall
  dsimp only
  split
  · exact h
  · split
    · exact h
    · exact (h.setRing hk).append hk

theorem Frame.pop {k : Nat} (h : Frame ps es rs s x) (hk : k ∈ rs) : Frame ps es rs s (x.pop k).1 := by
  unfold State.pop
  dsimp only
  split
  · exact h
  · dsimp only
    split
    · exact h.setRing hk
    · exact (h.setRing hk).unstall hk

theorem Frame.foldl {β : Type} {f : State → β → State} {l : List β} (h : Frame ps es rs s x)
    (hf : ∀ (y : State) (b : β), b ∈ l → Frame ps es rs s y → Frame ps es rs s (f y b)) : Frame ps es rs s (l.foldl f x) := by
  induction l generalizing x with
  | nil => exact h
  | cons b l ih => exact ih (hf x b (by simp) h) (fun y c hc => hf y c (by simp [hc]))

theorem Frame.ite {c : Prop} [Decidable c] {t u : State} (h : c → Frame ps es rs s t) (g : ¬c → Frame ps es rs s u) :
    Frame ps es rs s (if c then t else u) := by
  split
  · exact h ‹_›
  · exact g ‹_›

theorem Frame.advance {a : Nat} (h : Frame ps es rs s x) : Frame ps es rs s (x.advance a) :=
  h.trans ⟨rfl, fun p _ => by cases p <;> simp [Part.same], fun _ _ _ => rfl, fun _ _ => rfl⟩

theorem Frame.with_blocks {v : _} (h : Frame ps es rs s x) (hp : Part.blocks ∈ ps) : Frame ps es rs s { x with blocks := v } := by
  refine h.trans ⟨rfl, fun p hn => ?_, fun _ _ _ => rfl, fun _ _ => rfl⟩
  cases p <;> simp_all [Part.same]

theorem Frame.with_freeCtr {v : _} (h : Frame ps es rs s x) (hp : Part.free ∈ ps) : Frame ps es rs s { x with freeCtr := v } := by
  refine h.trans ⟨rfl, fun p hn => ?_, fun _ _ _ => rfl, fun _ _ => rfl⟩
  cases p <;> simp_all [Part.same]

theorem Frame.with_j16 {v : _} (h : Frame ps es rs s x) (hp : Part.j16 ∈ ps) : Frame ps es rs s { x with j16 := v } := by
  refine h.trans ⟨rfl, fun p hn => ?_, fun _ _ _ => rfl, fun _ _ => rfl⟩
  cases p <;> simp_all [Part.same]

theorem Frame.with_eop {v : _} (h : Frame ps es rs s x) (hp : Part.eop ∈ ps) : Frame ps es rs s { x with eop := v } := by
  refine h.trans ⟨rfl, fun p hn => ?_, fun _ _ _ => rfl, fun _ _ => rfl⟩
  cases p <;> simp_all [Part.same]

theorem Frame.with_rt {v : _} (h : Frame ps es rs s x) (hp : Part.rt ∈ ps) : Frame ps es rs s { x with rt := v } := by
  refine h.trans ⟨rfl, fun p hn => ?_, fun _ _ _ => rfl, fun _ _ => rfl⟩
  cases p <;> simp_all [Part.same]

theorem Frame.with_pairs {v : _} (h : Frame ps es rs s x) (hp : Part.pairs ∈ ps) : Frame ps es rs s { x with pairs := v } := by
  refine h.trans ⟨rfl, fun p hn => ?_, fun _ _ _ => rfl, fun _ _ => rfl⟩
  cases p <;> simp_all [Part.same]

theorem Frame.with_frame {v : _} (h : Frame ps es rs s x) (hp : Part.frame ∈ ps) : Frame ps es rs s { x with frame := v } := by
  refine h.trans ⟨rfl, fun p hn => ?_, fun _ _ _ => rfl, fun _ _ => rfl⟩
  cases p <;> simp_all [Part.same]

theorem Frame.with_tally {v : _} (h : Frame ps es rs s x) (hp : Part.tally ∈ ps) : Frame ps es rs s { x with tally := v } := by
  refine h.trans ⟨rfl, fun p hn => ?_, fun _ _ _ => rfl, fun _ _ => rfl⟩
  cases p <;> simp_all [Part.same]

theorem Frame.with_time {v : _} (h : Frame ps es rs s x) (hp : Part.time ∈ ps) : Frame ps es rs s { x with time := v } := by
  refine h.trans ⟨rfl, fun p hn => ?_, fun _ _ _ => rfl, fun _ _ => rfl⟩
  cases p <;> simp_all [Part.same]

theorem Frame.with_net {v : _} (h : Frame ps es rs s x) (hp : Part.net ∈ ps) : Frame ps es rs s { x with net := v } := by
  refine h.trans ⟨rfl, fun p hn => ?_, fun _ _ _ => rfl, fun _ _ => rfl⟩
  cases p <;> simp_all [Part.same]

theorem Frame.with_ecx {v : _} (h : Frame ps es rs s x) (hp : Part.ecx ∈ ps) : Frame ps es rs s { x with ecx := v } := by
  refine h.trans ⟨rfl, fun p hn => ?_, fun _ _ _ => rfl, fun _ _ => rfl⟩
  cases p <;> simp_all [Part.same]

theorem Frame.with_can {v : _} (h : Frame ps es rs s x) (hp : Part.can ∈ ps) : Frame ps es rs s { x with can := v } := by
  refine h.trans ⟨rfl, fun p hn => ?_, fun _ _ _ => rfl, fun _ _ => rfl⟩
  cases p <;> simp_all [Part.same]

theorem Frame.with_ledger {v : _} (h : Frame ps es rs s x) (hp : Part.ledger ∈ ps) : Frame ps es rs s { x with ledger := v } := by
  refine h.trans ⟨rfl, fun p hn => ?_, fun _ _ _ => rfl, fun _ _ => rfl⟩
  cases p <;> simp_all [Part.same]

theorem Frame.with_field {v : _} (h : Frame ps es rs s x) (hp : Part.field ∈ ps) : Frame ps es rs s { x with field := v } := by
  refine h.trans ⟨rfl, fun p hn => ?_, fun _ _ _ => rfl, fun _ _ => rfl⟩
  cases p <;> simp_all [Part.same]

theorem Frame.with_motion {v : _} (h : Frame ps es rs s x) (hp : Part.motion ∈ ps) : Frame ps es rs s { x with motion := v } := by
  refine h.trans ⟨rfl, fun p hn => ?_, fun _ _ _ => rfl, fun _ _ => rfl⟩
  cases p <;> simp_all [Part.same]

theorem Frame.with_safety {v : _} (h : Frame ps es rs s x) (hp : Part.safety ∈ ps) : Frame ps es rs s { x with safety := v } := by
  refine h.trans ⟨rfl, fun p hn => ?_, fun _ _ _ => rfl, fun _ _ => rfl⟩
  cases p <;> simp_all [Part.same]

theorem Frame.with_twin {v : _} (h : Frame ps es rs s x) (hp : Part.twin ∈ ps) : Frame ps es rs s { x with twin := v } := by
  refine h.trans ⟨rfl, fun p hn => ?_, fun _ _ _ => rfl, fun _ _ => rfl⟩
  cases p <;> simp_all [Part.same]

theorem Frame.with_slate {v : _} (h : Frame ps es rs s x) (hp : Part.slate ∈ ps) : Frame ps es rs s { x with slate := v } := by
  refine h.trans ⟨rfl, fun p hn => ?_, fun _ _ _ => rfl, fun _ _ => rfl⟩
  cases p <;> simp_all [Part.same]

theorem Frame.with_power {v : _} (h : Frame ps es rs s x) (hp : Part.power ∈ ps) : Frame ps es rs s { x with power := v } := by
  refine h.trans ⟨rfl, fun p hn => ?_, fun _ _ _ => rfl, fun _ _ => rfl⟩
  cases p <;> simp_all [Part.same]

theorem Frame.drawn (h : Frame ps es rs s x) (hp : Part.free ∈ ps) : Frame ps es rs s x.drawn := h.with_freeCtr hp
theorem Frame.renew {e : Ent} (h : Frame ps es rs s x) (he : e ∈ es) (hp : Part.free ∈ ps) : Frame ps es rs s (x.renew e) := (h.wr he).drawn hp

theorem Frame.storeCell {k : Nat} {v : Value} (h : Frame ps es rs s x) (hp : Part.blocks ∈ ps) : Frame ps es rs s (x.storeCell k v) := by
  unfold State.storeCell
  exact h.with_blocks hp
theorem Frame.retain {k : Nat} {v : Value} (h : Frame ps es rs s x) (hp : Part.blocks ∈ ps) (he : E.Restore.RETAINED_WRITES ∈ es) :
    Frame ps es rs s (x.retain k v) := by
  unfold State.retain
  exact ((h.storeCell hp).addTo he).storeCell hp
theorem Frame.putR {e : Ent} {v : Value} (h : Frame ps es rs s x) (h1 : e ∈ es) (hp : Part.blocks ∈ ps) (he : E.Restore.RETAINED_WRITES ∈ es) :
    Frame ps es rs s (x.putR e v) := (h.put h1).retain hp he
theorem Frame.wrR {e : Ent} {n : Nat} (h : Frame ps es rs s x) (h1 : e ∈ es) (hp : Part.blocks ∈ ps) (he : E.Restore.RETAINED_WRITES ∈ es) :
    Frame ps es rs s (x.wrR e n) := h.putR h1 hp he

theorem Frame.logAt {a b : Nat} {p : List Byte} {t : Int} (h : Frame ps es rs s x) (hp : Part.ledger ∈ ps) (hr : 28 ∈ rs) :
    Frame ps es rs s (x.logAt a b p t) := by
  unfold State.logAt
  split
  · exact (h.append hr).with_ledger hp
  · exact (h.ringEnt hr (ringOverflows_index 28)).with_ledger hp
theorem Frame.log {a b : Nat} {p : List Byte} (h : Frame ps es rs s x) (hp : Part.ledger ∈ ps) (hr : 28 ∈ rs) :
    Frame ps es rs s (x.log a b p) := h.logAt hp hr

end Sys2Proof.Machine
end

