-- ==== Sys2Proof/Laws/Moves.lean ====
section
/-!
SUPPORT. Laws/Moves.lean: `Moves ps s t`: from `s` to `t` the queue stands, only the parts `ps` may differ beside the dictionary and the
rings, and a sound state stays sound. It composes; every operation on the state has one lemma that says which parts it may change.
-/
namespace Sys2Proof.Machine

/-- From `s` to `t` the queue stands, no part but `ps` differs, and a sound state stays sound. -/
def Moves (ps : List Part) (s t : State) : Prop := Keeps ps s t ∧ (s.Sound → t.Sound)

variable {ps qs : List Part} {s x y z t : State}

theorem Moves.refl (ps : List Part) (s : State) : Moves ps s s := ⟨⟨rfl, fun p _ => by cases p <;> simp [Part.same]⟩, id⟩

/-- A move within fewer parts follows a move. -/
theorem Moves.step (h : Moves ps s y) (g : Moves qs y z) (hq : ∀ p ∈ qs, p ∈ ps := by decide) : Moves ps s z :=
  ⟨⟨g.1.1.trans h.1.1, fun p hp => Part.same_trans (h.1.2 p hp) (g.1.2 p (fun m => hp (hq p m)))⟩, fun k => g.2 (h.2 k)⟩

theorem Moves.cut (h : Moves ps s x) (k : Moves ps s x → Moves qs s y) : Moves qs s y := k h

theorem Moves.ite {c : Prop} [Decidable c] {t u : State} (h : c → Moves ps s t) (g : ¬c → Moves ps s u) :
    Moves ps s (if c then t else u) := by
  split
  · exact h ‹_›
  · exact g ‹_›

theorem Moves.foldl {β : Type} {f : State → β → State} {l : List β} (h : Moves ps s x)
    (hf : ∀ (y : State) (b : β), Moves ps s y → Moves ps s (f y b)) : Moves ps s (l.foldl f x) := by
  induction l generalizing x with
  | nil => exact h
  | cons b l ih => exact ih (hf x b h)

theorem Moves.foldl_fst {β γ : Type} {f : State × γ → β → State × γ} {l : List β} {c : γ} (h : Moves ps s x)
    (hf : ∀ (y : State) (k : γ) (b : β), Moves ps s y → Moves ps s (f (y, k) b).1) : Moves ps s (l.foldl f (x, c)).1 := by
  induction l generalizing x c with
  | nil => exact h
  | cons b l ih => exact ih (x := (f (x, c) b).1) (c := (f (x, c) b).2) (hf x c b h)

/-- An update of the dictionary alone that keeps its cells in order. -/
theorem Moves.od {d : SMap Value} (hd : rising x.od.cells = true → rising d.cells = true) : Moves [] x { x with od := d } :=
  ⟨⟨rfl, fun p _ => by cases p <;> simp [Part.same]⟩, fun ⟨a, b, c, e⟩ => ⟨a, b, hd c, e⟩⟩

theorem State.put_moves {e : Ent} {v : Value} : Moves [] x (x.put e v) := by
  refine .od fun h => ?_
  cases e.arch
  · exact SMap.rising_store _ _ _ _ h
  · exact rising_put _ _ _ h
theorem State.wr_moves {e : Ent} {n : Nat} : Moves [] x (x.wr e n) := put_moves
theorem State.wrI_moves {e : Ent} {n : Int} : Moves [] x (x.wrI e n) := put_moves
theorem State.wrB_moves {e : Ent} {b : List Byte} : Moves [] x (x.wrB e b) := put_moves
theorem State.wrT_moves {e : Ent} {n : Int} : Moves [] x (x.wrT e n) := put_moves
theorem State.addTo_moves {e : Ent} {n : Nat} : Moves [] x (x.addTo e n) := put_moves
theorem State.inc_moves {e : Ent} : Moves [] x (x.inc e) := put_moves
theorem State.raise_moves {e : Ent} {n : Nat} : Moves [] x (x.raise e n) := by
  unfold State.raise; split
  · exact put_moves
  · exact .refl ..
theorem State.clear_moves {l : List Ent} : Moves [] x (x.clear l) := .foldl (.refl ..) (fun _ _ h => h.step wr_moves (by simp))

/-- A ring that holds no more than its depth replaces one. -/
theorem State.setRing_moves {k : Nat} {r : Ring} (h : x.ringsFit → r.q.length ≤ ringDepth k) : Moves [] x (x.setRing k r) := by
  refine ⟨⟨rfl, fun p _ => by cases p <;> simp [Part.same]⟩, fun ⟨a, b, c, d⟩ => ⟨a, fun j => ?_, c, SMap.rising_store _ _ _ _ d⟩⟩
  unfold State.fill
  by_cases hj : j = k
  · subst hj; rw [ring_setRing_self]; exact h b
  · rw [ring_setRing_ne _ _ hj]; exact b j

theorem State.noteFill_moves {k : Nat} : Moves [] x (x.noteFill k) := raise_moves

theorem State.append_moves {k : Nat} {e : RingEntry} (h : x.ringsFit → x.room k 1 = true) : Moves [] x (x.append k e) := by
  refine Moves.step (y := x.setRing k _) (setRing_moves fun hf => ?_) noteFill_moves (by simp)
  have := h hf
  simp only [room, fill, decide_eq_true_eq] at this
  simpa using this

theorem State.push_moves {k : Nat} {e : RingEntry} : Moves [] x (x.push k e).1 := by
  unfold State.push
  extract_lets r
  split <;> split
  · exact append_moves (fun _ => ‹_›)
  · exact inc_moves
  · exact append_moves (fun _ => ‹_›)
  · exact inc_moves
  · exact Moves.step (setRing_moves fun hf => by simpa [r, fill] using hf k) inc_moves (by simp)
  · split
    · exact append_moves (fun _ => ‹_›)
    · exact inc_moves
  · rename_i h
    simp only [Bool.and_eq_true] at h
    exact append_moves (fun _ => h.2)
  · exact setRing_moves fun hf => by simpa [r, fill] using hf k

theorem State.place_moves {k : Nat} {e : RingEntry} : Moves [] x (x.place k e) := push_moves

theorem State.appends_moves {k : Nat} (es : List RingEntry) (h : x.ringsFit → x.room k es.length = true) :
    Moves [] x (es.foldl (fun s e => s.append k e) x) := by
  induction es generalizing x with
  | nil => exact .refl ..
  | cons e es ih =>
    have hr : ∀ hf : x.ringsFit, x.fill k + (es.length + 1) ≤ ringDepth k := fun hf => by
      have := h hf; simpa [room] using this
    have h1 : Moves [] x (x.append k e) := append_moves fun hf => by
      have := hr hf; simp only [room, decide_eq_true_eq]; omega
    by_cases hf : x.ringsFit
    · refine h1.step (ih fun _ => ?_) (by simp)
      have := hr hf
      simp only [room, decide_eq_true_eq, fill, ring_append_self, List.length_append, List.length_singleton]
      simp only [fill] at this
      omega
    · have k2 : ∀ (l : List RingEntry) (y : State), Keeps [] y (l.foldl (fun s e => s.append k e) y) := by
        intro l
        induction l with
        | nil => exact fun y => (Moves.refl [] y).1
        | cons b l ih2 =>
          intro y
          have a : Keeps [] y (y.append k b) := ⟨by simp, fun p _ => by cases p <;> simp [Part.same]⟩
          exact ⟨(ih2 _).1.trans a.1, fun p hp => Part.same_trans (a.2 p hp) ((ih2 _).2 p hp)⟩
      exact ⟨k2 (e :: es) x, fun hs => absurd hs.2.1 hf⟩

theorem State.pushBlock_moves {k : Nat} {es : List RingEntry} : Moves [] x (x.pushBlock k es).1 := by
  unfold State.pushBlock
  split
  · exact .refl ..
  · split
    · exact appends_moves es (fun _ => ‹_›)
    · exact inc_moves

theorem State.unstall_moves {k : Nat} : Moves [] x (x.unstall k) := by
  unfold State.unstall
  extract_lets r
  split
  · exact .refl ..
  · split
    · exact .refl ..
    · rename_i hr
      have hl : ∀ q : Ring, q.q = r.q → Moves [] x ((x.setRing k q).append k (RingEntry.committed x.now ‹_›)) := fun q hq =>
        Moves.step (setRing_moves fun hf => by rw [hq]; simpa [fill] using hf k)
          (append_moves fun _ => by simpa [room, fill, hq] using hr) (by simp)
      dsimp only
      refine hl _ ?_
      split <;> rfl

theorem State.unstallAll_moves {k : Nat} : Moves [] x (x.unstallAll k) := Moves.foldl (.refl ..) (fun _ _ h => h.step unstall_moves (by simp))

theorem State.pop_moves {k : Nat} : Moves [] x (x.pop k).1 := by
  unfold State.pop
  extract_lets r
  split
  · exact .refl ..
  · rename_i e q hq
    have h1 : Moves [] x (x.setRing k { r with tail := (r.tail + 1) % 65536, q := q }) := setRing_moves fun hf => by
      have := hf k
      simp only [fill] at this
      have h2 : r.q.length = q.length + 1 := by rw [hq]; simp
      simp only [r] at h2; simp only; omega
    extract_lets x1
    split
    · exact h1
    · exact h1.step unstall_moves (by simp)

theorem State.emptyRing_moves {k : Nat} : Moves [] x (x.emptyRing k) := setRing_moves fun _ => by simp

theorem State.advance_moves {a : Nat} : Moves [] x (x.advance a) :=
  ⟨⟨rfl, fun p _ => by cases p <;> simp [Part.same]⟩, fun ⟨h, r⟩ => ⟨by
    simp only [onCycle, advance_now] at *; omega, r⟩⟩

theorem Moves.with_blocks {v0 : _} (h : Moves ps s x) (h0 : Part.blocks ∈ ps := by decide) : Moves ps s { x with blocks := v0 } := by
  refine h.step (qs := [.blocks]) ⟨⟨rfl, fun p hn => ?_⟩, id⟩ (by simp_all)
  cases p <;> simp_all [Part.same]

theorem Moves.with_freeCtr {v0 : _} (h : Moves ps s x) (h0 : Part.free ∈ ps := by decide) : Moves ps s { x with freeCtr := v0 } := by
  refine h.step (qs := [.free]) ⟨⟨rfl, fun p hn => ?_⟩, id⟩ (by simp_all)
  cases p <;> simp_all [Part.same]

theorem Moves.with_j16 {v0 : _} (h : Moves ps s x) (h0 : Part.j16 ∈ ps := by decide) : Moves ps s { x with j16 := v0 } := by
  refine h.step (qs := [.j16]) ⟨⟨rfl, fun p hn => ?_⟩, id⟩ (by simp_all)
  cases p <;> simp_all [Part.same]

theorem Moves.with_eop {v0 : _} (h : Moves ps s x) (h0 : Part.eop ∈ ps := by decide) : Moves ps s { x with eop := v0 } := by
  refine h.step (qs := [.eop]) ⟨⟨rfl, fun p hn => ?_⟩, id⟩ (by simp_all)
  cases p <;> simp_all [Part.same]

theorem Moves.with_rt {v0 : _} (h : Moves ps s x) (h0 : Part.rt ∈ ps := by decide) : Moves ps s { x with rt := v0 } := by
  refine h.step (qs := [.rt]) ⟨⟨rfl, fun p hn => ?_⟩, id⟩ (by simp_all)
  cases p <;> simp_all [Part.same]

theorem Moves.with_pairs {v0 : _} (h : Moves ps s x) (h0 : Part.pairs ∈ ps := by decide) : Moves ps s { x with pairs := v0 } := by
  refine h.step (qs := [.pairs]) ⟨⟨rfl, fun p hn => ?_⟩, id⟩ (by simp_all)
  cases p <;> simp_all [Part.same]

theorem Moves.with_frame {v0 : _} (h : Moves ps s x) (h0 : Part.frame ∈ ps := by decide) : Moves ps s { x with frame := v0 } := by
  refine h.step (qs := [.frame]) ⟨⟨rfl, fun p hn => ?_⟩, id⟩ (by simp_all)
  cases p <;> simp_all [Part.same]

theorem Moves.with_tally {v0 : _} (h : Moves ps s x) (h0 : Part.tally ∈ ps := by decide) : Moves ps s { x with tally := v0 } := by
  refine h.step (qs := [.tally]) ⟨⟨rfl, fun p hn => ?_⟩, id⟩ (by simp_all)
  cases p <;> simp_all [Part.same]

theorem Moves.with_time {v0 : _} (h : Moves ps s x) (h0 : Part.time ∈ ps := by decide) : Moves ps s { x with time := v0 } := by
  refine h.step (qs := [.time]) ⟨⟨rfl, fun p hn => ?_⟩, id⟩ (by simp_all)
  cases p <;> simp_all [Part.same]

theorem Moves.with_net {v0 : _} (h : Moves ps s x) (h0 : Part.net ∈ ps := by decide) : Moves ps s { x with net := v0 } := by
  refine h.step (qs := [.net]) ⟨⟨rfl, fun p hn => ?_⟩, id⟩ (by simp_all)
  cases p <;> simp_all [Part.same]

theorem Moves.with_ecx {v0 : _} (h : Moves ps s x) (h0 : Part.ecx ∈ ps := by decide) : Moves ps s { x with ecx := v0 } := by
  refine h.step (qs := [.ecx]) ⟨⟨rfl, fun p hn => ?_⟩, id⟩ (by simp_all)
  cases p <;> simp_all [Part.same]

theorem Moves.with_can {v0 : _} (h : Moves ps s x) (h0 : Part.can ∈ ps := by decide) : Moves ps s { x with can := v0 } := by
  refine h.step (qs := [.can]) ⟨⟨rfl, fun p hn => ?_⟩, id⟩ (by simp_all)
  cases p <;> simp_all [Part.same]

theorem Moves.with_ledger {v0 : _} (h : Moves ps s x) (h0 : Part.ledger ∈ ps := by decide) : Moves ps s { x with ledger := v0 } := by
  refine h.step (qs := [.ledger]) ⟨⟨rfl, fun p hn => ?_⟩, id⟩ (by simp_all)
  cases p <;> simp_all [Part.same]

theorem Moves.with_field {v0 : _} (h : Moves ps s x) (h0 : Part.field ∈ ps := by decide) : Moves ps s { x with field := v0 } := by
  refine h.step (qs := [.field]) ⟨⟨rfl, fun p hn => ?_⟩, id⟩ (by simp_all)
  cases p <;> simp_all [Part.same]

theorem Moves.with_motion {v0 : _} (h : Moves ps s x) (h0 : Part.motion ∈ ps := by decide) : Moves ps s { x with motion := v0 } := by
  refine h.step (qs := [.motion]) ⟨⟨rfl, fun p hn => ?_⟩, id⟩ (by simp_all)
  cases p <;> simp_all [Part.same]

theorem Moves.with_safety {v0 : _} (h : Moves ps s x) (h0 : Part.safety ∈ ps := by decide) : Moves ps s { x with safety := v0 } := by
  refine h.step (qs := [.safety]) ⟨⟨rfl, fun p hn => ?_⟩, id⟩ (by simp_all)
  cases p <;> simp_all [Part.same]

theorem Moves.with_twin {v0 : _} (h : Moves ps s x) (h0 : Part.twin ∈ ps := by decide) : Moves ps s { x with twin := v0 } := by
  refine h.step (qs := [.twin]) ⟨⟨rfl, fun p hn => ?_⟩, id⟩ (by simp_all)
  cases p <;> simp_all [Part.same]

theorem Moves.with_slate {v0 : _} (h : Moves ps s x) (h0 : Part.slate ∈ ps := by decide) : Moves ps s { x with slate := v0 } := by
  refine h.step (qs := [.slate]) ⟨⟨rfl, fun p hn => ?_⟩, id⟩ (by simp_all)
  cases p <;> simp_all [Part.same]

theorem Moves.with_power {v0 : _} (h : Moves ps s x) (h0 : Part.power ∈ ps := by decide) : Moves ps s { x with power := v0 } := by
  refine h.step (qs := [.power]) ⟨⟨rfl, fun p hn => ?_⟩, id⟩ (by simp_all)
  cases p <;> simp_all [Part.same]

theorem Moves.with_odStatus {v0 : _} (h : Moves ps s x) (h0 : Part.answer ∈ ps := by decide) : Moves ps s { x with odStatus := v0 } := by
  refine h.step (qs := [.answer]) ⟨⟨rfl, fun p hn => ?_⟩, id⟩ (by simp_all)
  cases p <;> simp_all [Part.same]

theorem Moves.with_odValue {v0 : _} (h : Moves ps s x) (h0 : Part.answer ∈ ps := by decide) : Moves ps s { x with odValue := v0 } := by
  refine h.step (qs := [.answer]) ⟨⟨rfl, fun p hn => ?_⟩, id⟩ (by simp_all)
  cases p <;> simp_all [Part.same]

theorem Moves.with_twin_power {v0 : _} {v1 : _} (h : Moves ps s x) (h0 : Part.twin ∈ ps := by decide) (h1 : Part.power ∈ ps := by decide) : Moves ps s { x with twin := v0, power := v1 } := by
  refine h.step (qs := [.twin, .power]) ⟨⟨rfl, fun p hn => ?_⟩, id⟩ (by simp_all)
  cases p <;> simp_all [Part.same]

theorem Moves.with_field_power {v0 : _} {v1 : _} (h : Moves ps s x) (h0 : Part.field ∈ ps := by decide) (h1 : Part.power ∈ ps := by decide) : Moves ps s { x with field := v0, power := v1 } := by
  refine h.step (qs := [.field, .power]) ⟨⟨rfl, fun p hn => ?_⟩, id⟩ (by simp_all)
  cases p <;> simp_all [Part.same]

theorem Moves.with_odStatus_eop {v0 : _} {v1 : _} (h : Moves ps s x) (h0 : Part.answer ∈ ps := by decide) (h1 : Part.eop ∈ ps := by decide) : Moves ps s { x with odStatus := v0, eop := v1 } := by
  refine h.step (qs := [.answer, .eop]) ⟨⟨rfl, fun p hn => ?_⟩, id⟩ (by simp_all)
  cases p <;> simp_all [Part.same]

theorem Moves.with_rt_tally {v0 : _} {v1 : _} (h : Moves ps s x) (h0 : Part.rt ∈ ps := by decide) (h1 : Part.tally ∈ ps := by decide) : Moves ps s { x with rt := v0, tally := v1 } := by
  refine h.step (qs := [.rt, .tally]) ⟨⟨rfl, fun p hn => ?_⟩, id⟩ (by simp_all)
  cases p <;> simp_all [Part.same]

theorem Moves.with_odStatus_odValue {v0 : _} {v1 : _} (h : Moves ps s x) (h0 : Part.answer ∈ ps := by decide) : Moves ps s { x with odStatus := v0, odValue := v1 } := by
  refine h.step (qs := [.answer]) ⟨⟨rfl, fun p hn => ?_⟩, id⟩ (by simp_all)
  cases p <;> simp_all [Part.same]

theorem Moves.with_ledger_power {v0 : _} {v1 : _} (h : Moves ps s x) (h0 : Part.ledger ∈ ps := by decide) (h1 : Part.power ∈ ps := by decide) : Moves ps s { x with ledger := v0, power := v1 } := by
  refine h.step (qs := [.ledger, .power]) ⟨⟨rfl, fun p hn => ?_⟩, id⟩ (by simp_all)
  cases p <;> simp_all [Part.same]

theorem Moves.with_blocks_eop {v0 : _} {v1 : _} (h : Moves ps s x) (h0 : Part.blocks ∈ ps := by decide) (h1 : Part.eop ∈ ps := by decide) : Moves ps s { x with blocks := v0, eop := v1 } := by
  refine h.step (qs := [.blocks, .eop]) ⟨⟨rfl, fun p hn => ?_⟩, id⟩ (by simp_all)
  cases p <;> simp_all [Part.same]

theorem State.drawn_moves : Moves [.free] x x.drawn := Moves.with_freeCtr (.refl ..) (by simp)
theorem State.renew_moves {e : Ent} : Moves [.free] x (x.renew e) := Moves.with_freeCtr (.step (.refl ..) wr_moves (by simp)) (by simp)
theorem State.renewB_moves {e : Ent} {n : Nat} : Moves [.free] x (x.renewB e n) := Moves.with_freeCtr (.step (.refl ..) wrB_moves (by simp)) (by simp)
theorem State.storeCell_moves {k : Nat} {v : Value} : Moves [.blocks] x (x.storeCell k v) := by
  unfold State.storeCell
  exact Moves.with_blocks (.refl ..) (by simp)
theorem State.retain_moves {k : Nat} {v : Value} : Moves [.blocks] x (x.retain k v) := by
  unfold State.retain
  exact .step (.step storeCell_moves addTo_moves (by simp)) storeCell_moves (by simp)
theorem State.putR_moves {e : Ent} {v : Value} : Moves [.blocks] x (x.putR e v) := .step (.step (.refl ..) put_moves (by simp)) retain_moves (by simp)
theorem State.wrR_moves {e : Ent} {n : Nat} : Moves [.blocks] x (x.wrR e n) := putR_moves
theorem State.incR_moves {e : Ent} : Moves [.blocks] x (x.incR e) := wrR_moves

theorem State.logAt_moves {a b : Nat} {p : List Byte} {t : Int} : Moves [.ledger] x (x.logAt a b p t) := by
  unfold State.logAt
  split
  · rename_i h
    simp only [Bool.and_eq_true] at h
    exact Moves.with_ledger (.step (.refl ..) (append_moves fun _ => h.2) (by simp)) (by simp)
  · exact Moves.with_ledger (.step (.refl ..) inc_moves (by simp)) (by simp)
theorem State.log_moves {a b : Nat} {p : List Byte} : Moves [.ledger] x (x.log a b p) := logAt_moves

end Sys2Proof.Machine
end

