-- ==== Sys2Proof/Laws/MovesNet.lean ====
section
/-!
SUPPORT. Laws/MovesNet.lean: what each operation of the time unit, the ports, the runtime, ECX and CAN may change: one lemma per operation (`Moves`).
-/
set_option linter.unusedVariables false
set_option Elab.async false
namespace Sys2Proof.Machine

/-! ## Machine/TimeUnit.lean -/

theorem State.setTb_moves {s0 : State} {a1 a2 : _} : Moves [.time] s0 (State.setTb s0 a1 a2) := by
  have e0 := @State.setTb.eq_def
  unfold State.setTb
  clear e0
  split
  · rename_i y1
    exact .with_time (.refl ..)
  · rename_i y2
    exact .with_time (.refl ..)
  · rename_i y3 y4 y5
    exact .with_time (.refl ..)

theorem State.staleClock_moves {s0 : State} {a1 : _} : Moves [.ledger] s0 (State.staleClock s0 a1) := by
  have e0 := @State.staleClock.eq_def
  unfold State.staleClock
  clear e0
  refine .ite (fun _ => ?_) (fun _ => ?_)
  · exact .with_ledger (.refl ..)
  · exact .refl ..

theorem State.deriveSync_moves {s0 : State} {a1 : _} : Moves [.ledger, .time] s0 (State.deriveSync s0 a1) := by
  have e0 := @State.deriveSync.eq_def
  unfold State.deriveSync
  clear e0
  extract_lets +onlyGivenNames x1 x2
  clear_value x1 x2
  extract_lets +onlyGivenNames x3
  have h3 : Moves [.ledger, .time] s0 x3 := by
    unfold x3
    refine .ite (fun _ => ?_) (fun _ => ?_)
    · exact .refl ..
    · exact .step (.step (.refl ..) State.wr_moves) State.staleClock_moves
  clear_value x3
  extract_lets +onlyGivenNames x4
  clear_value x4
  extract_lets +onlyGivenNames x5
  have h5 : Moves [.ledger, .time] s0 x5 := by
    unfold x5
    refine .ite (fun _ => ?_) (fun _ => ?_)
    · exact .step h3 State.setTb_moves
    · exact h3
  clear_value x5
  refine .ite (fun _ => ?_) (fun _ => ?_)
  · exact .step h5 State.wr_moves
  · exact h5

theorem State.newSeg_moves {s0 : State} {a1 a2 : _} : Moves [.time] s0 (State.newSeg s0 a1 a2) := by
  have e0 := @State.newSeg.eq_def
  unfold State.newSeg
  clear e0
  extract_lets +onlyGivenNames x1 x2
  clear_value x1 x2
  exact .step (.refl ..) State.setTb_moves

theorem State.setFreq_moves {s0 : State} {a1 a2 : _} : Moves [.time] s0 (State.setFreq s0 a1 a2) := by
  have e0 := @State.setFreq.eq_def
  unfold State.setFreq
  clear e0
  extract_lets +onlyGivenNames x1
  have h1 : Moves [.time] s0 x1 := by
    unfold x1
    exact .step (.refl ..) State.wrI_moves
  clear_value x1
  extract_lets +onlyGivenNames x2
  clear_value x2
  exact .step h1 State.newSeg_moves

theorem State.tsEvt_moves {s0 : State} {a1 a2 a3 a4 : _} : Moves [] s0 (State.tsEvt s0 a1 a2 a3 a4) := by
  have e0 := @State.tsEvt.eq_def
  unfold State.tsEvt
  clear e0
  exact .step (.refl ..) State.place_moves

theorem State.setServo_moves {s0 : State} {a1 a2 : _} : Moves [.ledger, .time] s0 (State.setServo s0 a1 a2) := by
  have e0 := @State.setServo.eq_def
  unfold State.setServo
  clear e0
  extract_lets +onlyGivenNames x1
  clear_value x1
  refine .ite (fun _ => ?_) (fun _ => ?_)
  · exact .step (.refl ..) State.deriveSync_moves
  · extract_lets +onlyGivenNames x2
    have h2 : Moves [.ledger, .time] s0 x2 := by
      unfold x2
      refine .ite (fun _ => ?_) (fun _ => ?_)
      · exact .step (.refl ..) State.inc_moves
      · exact .refl ..
    clear_value x2
    extract_lets +onlyGivenNames x3
    have h3 : Moves [.ledger, .time] s0 x3 := by
      unfold x3
      exact .step h2 State.wr_moves
    clear_value x3
    extract_lets +onlyGivenNames x4
    clear_value x4
    extract_lets +onlyGivenNames x5
    have h5 : Moves [.ledger, .time] s0 x5 := by
      unfold x5
      exact .step h3 State.setTb_moves
    clear_value x5
    extract_lets +onlyGivenNames x6
    have h6 : Moves [.ledger, .time] s0 x6 := by
      unfold x6
      split
      · rename_i y7 y8
        refine .ite (fun _ => ?_) (fun _ => ?_)
        · exact h5
        · exact .step h5 State.setFreq_moves
      · rename_i y9 y10
        exact .step h5 State.setFreq_moves
      · rename_i y11 y12 y13
        exact h5
    clear_value x6
    exact .step (.step h6 State.deriveSync_moves) State.tsEvt_moves

theorem State.announceLost_moves {s0 : State} {a1 : _} : Moves [.time, .ledger] s0 (State.announceLost s0 a1) := by
  have e0 := @State.announceLost.eq_def
  unfold State.announceLost
  clear e0
  extract_lets +onlyGivenNames x1
  clear_value x1
  refine .ite (fun _ => ?_) (fun _ => ?_)
  · extract_lets +onlyGivenNames x2
    have h2 : Moves [.time, .ledger] s0 x2 := by
      unfold x2
      exact .step (.refl ..) State.setTb_moves
    clear_value x2
    refine .ite (fun _ => ?_) (fun _ => ?_)
    · exact h2
    · refine .ite (fun _ => ?_) (fun _ => ?_)
      · exact .step (.step h2 State.setServo_moves) State.wr_moves
      · extract_lets +onlyGivenNames x3
        have h3 : Moves [.time, .ledger] s0 x3 := by
          unfold x3
          exact .step h2 State.wr_moves
        clear_value x3
        extract_lets +onlyGivenNames x4
        clear_value x4
        refine .ite (fun _ => ?_) (fun _ => ?_)
        · exact .step h3 State.setServo_moves
        · exact h3
  · exact .refl ..

theorem State.takeAnnounce_moves {s0 : State} {a1 a2 : _} : Moves [.time] s0 (State.takeAnnounce s0 a1 a2) := by
  have e0 := @State.takeAnnounce.eq_def
  unfold State.takeAnnounce
  clear e0
  extract_lets +onlyGivenNames x1
  clear_value x1
  extract_lets +onlyGivenNames x2
  have h2 : Moves [.time] s0 x2 := by
    unfold x2
    exact .step (.refl ..) State.setTb_moves
  clear_value x2
  extract_lets +onlyGivenNames x3
  have h3 : Moves [.time] s0 x3 := by
    unfold x3
    exact .step h2 State.wrB_moves
  clear_value x3
  extract_lets +onlyGivenNames x4
  have h4 : Moves [.time] s0 x4 := by
    unfold x4
    exact .step h3 State.wrB_moves
  clear_value x4
  extract_lets +onlyGivenNames x5
  have h5 : Moves [.time] s0 x5 := by
    unfold x5
    exact .step h4 State.wr_moves
  clear_value x5
  extract_lets +onlyGivenNames x6
  have h6 : Moves [.time] s0 x6 := by
    unfold x6
    exact .step h5 State.wrI_moves
  clear_value x6
  extract_lets +onlyGivenNames x7 x8
  clear_value x7 x8
  extract_lets +onlyGivenNames x9
  have h9 : Moves [.time] s0 x9 := by
    unfold x9
    exact .step h6 State.wr_moves
  clear_value x9
  refine .ite (fun _ => ?_) (fun _ => ?_)
  · exact .step h9 State.tsEvt_moves
  · exact h9

theorem State.announceReceived_moves {s0 : State} {a1 a2 a3 : _} : Moves [.ledger, .time] s0 (State.announceReceived s0 a1 a2 a3) := by
  have e0 := @State.announceReceived.eq_def
  unfold State.announceReceived
  clear e0
  refine .ite (fun _ => ?_) (fun _ => ?_)
  · exact .refl ..
  · refine .ite (fun _ => ?_) (fun _ => ?_)
    · exact .step (.refl ..) State.inc_moves
    · refine .ite (fun _ => ?_) (fun _ => ?_)
      · exact .refl ..
      · extract_lets +onlyGivenNames x1
        clear_value x1
        extract_lets +onlyGivenNames x2
        clear_value x2
        split
        · rename_i y3 y4 y5
          refine .ite (fun _ => ?_) (fun _ => ?_)
          · refine .ite (fun _ => ?_) (fun _ => ?_)
            · exact .step (.step (.step (.refl ..) State.setTb_moves) State.setServo_moves) State.wr_moves
            · exact .step (.refl ..) State.takeAnnounce_moves
          · refine .ite (fun _ => ?_) (fun _ => ?_)
            · extract_lets +onlyGivenNames x6
              have h6 : Moves [.ledger, .time] s0 x6 := by
                unfold x6
                exact .step (.refl ..) State.takeAnnounce_moves
              clear_value x6
              extract_lets +onlyGivenNames x7
              have h7 : Moves [.ledger, .time] s0 x7 := by
                unfold x7
                exact .step h6 State.tsEvt_moves
              clear_value x7
              refine .ite (fun _ => ?_) (fun _ => ?_)
              · exact .step h7 State.setServo_moves
              · exact h7
            · exact .refl ..
        · rename_i y8 y9
          refine .ite (fun _ => ?_) (fun _ => ?_)
          · exact .step (.step (.refl ..) State.setServo_moves) State.wr_moves
          · extract_lets +onlyGivenNames x10
            have h10 : Moves [.ledger, .time] s0 x10 := by
              unfold x10
              exact .step (.step (.refl ..) State.takeAnnounce_moves) State.wr_moves
            clear_value x10
            extract_lets +onlyGivenNames x11
            have h11 : Moves [.ledger, .time] s0 x11 := by
              unfold x11
              refine .ite (fun _ => ?_) (fun _ => ?_)
              · exact .step h10 State.setServo_moves
              · exact h10
            clear_value x11
            exact .step h11 State.tsEvt_moves

theorem State.emit_moves {s0 : State} {a1 a2 : _} : Moves [.net] s0 (State.emit s0 a1 a2) := by
  have e0 := @State.emit.eq_def
  unfold State.emit
  clear e0
  exact .with_net (.refl ..)

theorem State.emitPtp_moves {s0 : State} {a1 a2 a3 a4 a5 : _} : Moves [.net] s0 (State.emitPtp s0 a1 a2 a3 a4 a5) := by
  have e0 := @State.emitPtp.eq_def
  unfold State.emitPtp
  clear e0
  extract_lets +onlyGivenNames x1
  clear_value x1
  exact .step (.refl ..) State.emit_moves

theorem State.announceSend_moves {s0 : State} {a1 a2 : _} : Moves [.net] s0 (State.announceSend s0 a1 a2) := by
  have e0 := @State.announceSend.eq_def
  unfold State.announceSend
  clear e0
  refine .ite (fun _ => ?_) (fun _ => ?_)
  · exact .step (.refl ..) State.emitPtp_moves
  · exact .refl ..

theorem State.comparePaths_moves {s0 : State} {a1 : _} : Moves [.time] s0 (State.comparePaths s0 a1) := by
  have e0 := @State.comparePaths.eq_def
  unfold State.comparePaths
  clear e0
  extract_lets +onlyGivenNames x1
  clear_value x1
  refine .ite (fun _ => ?_) (fun _ => ?_)
  · extract_lets +onlyGivenNames x2
    clear_value x2
    extract_lets +onlyGivenNames x3
    clear_value x3
    extract_lets +onlyGivenNames x4
    have h4 : Moves [.time] s0 x4 := by
      unfold x4
      exact .step (.refl ..) State.wr_moves
    clear_value x4
    extract_lets +onlyGivenNames x5
    clear_value x5
    extract_lets +onlyGivenNames x6
    have h6 : Moves [.time] s0 x6 := by
      unfold x6
      refine .ite (fun _ => ?_) (fun _ => ?_)
      · exact .step h4 State.tsEvt_moves
      · exact h4
    clear_value x6
    exact .step h6 State.setTb_moves
  · exact .refl ..

theorem State.stamped_moves {s0 : State} {a1 : _} : Moves [] s0 (State.stamped s0 a1) := by
  have e0 := @State.stamped.eq_def
  unfold State.stamped
  clear e0
  exact .step (.refl ..) State.inc_moves

theorem State.delayReqSend_moves {s0 : State} {a1 a2 : _} : Moves [.time, .net, .free] s0 (State.delayReqSend s0 a1 a2) := by
  have e0 := @State.delayReqSend.eq_def
  unfold State.delayReqSend
  clear e0
  refine .ite (fun _ => ?_) (fun _ => ?_)
  · extract_lets +onlyGivenNames x1
    clear_value x1
    extract_lets +onlyGivenNames x2 x3 x4 x5
    clear_value x2 x3 x4 x5
    extract_lets +onlyGivenNames x6
    have h6 : Moves [.time, .net, .free] s0 x6 := by
      unfold x6
      exact .step (.refl ..) State.setTb_moves
    clear_value x6
    exact .step (.step (.step h6 State.stamped_moves) State.drawn_moves) State.emitPtp_moves
  · exact .refl ..

theorem State.delayResp_moves {s0 : State} {a1 a2 a3 : _} : Moves [.time] s0 (State.delayResp s0 a1 a2 a3) := by
  have e0 := @State.delayResp.eq_def
  unfold State.delayResp
  clear e0
  refine .ite (fun _ => ?_) (fun _ => ?_)
  · exact .refl ..
  · refine .ite (fun _ => ?_) (fun _ => ?_)
    · exact .step (.refl ..) State.inc_moves
    · extract_lets +onlyGivenNames x1
      clear_value x1
      extract_lets +onlyGivenNames x2 x3
      clear_value x2 x3
      split
      · rename_i y4 y5 y6 y7
        refine .ite (fun _ => ?_) (fun _ => ?_)
        · extract_lets +onlyGivenNames x8
          clear_value x8
          extract_lets +onlyGivenNames x9
          have h9 : Moves [.time] s0 x9 := by
            unfold x9
            exact .step (.refl ..) State.setTb_moves
          clear_value x9
          refine .ite (fun _ => ?_) (fun _ => ?_)
          · exact .step h9 State.wr_moves
          · exact h9
        · exact .refl ..
      · rename_i y10 y11
        exact .refl ..

theorem State.effBaseStats_moves {s0 : State} {a1 : _} : Moves [] s0 (State.effBaseStats s0 a1) := by
  have e0 := @State.effBaseStats.eq_def
  unfold State.effBaseStats
  clear e0
  exact .step (.refl ..) State.clear_moves

theorem State.setVal_moves {s0 : State} {a1 a2 : _} : Moves [.time] s0 (State.setVal s0 a1 a2) := by
  have e0 := @State.setVal.eq_def
  unfold State.setVal
  clear e0
  extract_lets +onlyGivenNames x1
  clear_value x1
  extract_lets +onlyGivenNames x2
  have h2 : Moves [.time] s0 x2 := by
    unfold x2
    exact .step (.refl ..) State.newSeg_moves
  clear_value x2
  split
  · rename_i y3 y4 y5
    refine .ite (fun _ => ?_) (fun _ => ?_)
    · exact .step h2 State.newSeg_moves
    · exact h2
  · rename_i y6 y7
    exact h2

theorem State.startInstance_moves {s0 : State} {a1 : _} : Moves [.time, .ledger] s0 (State.startInstance s0 a1) := by
  have e0 := @State.startInstance.eq_def
  unfold State.startInstance
  clear e0
  extract_lets +onlyGivenNames x1 x2 x3
  clear_value x1 x2 x3
  extract_lets +onlyGivenNames x4
  have h4 : Moves [.time, .ledger] s0 x4 := by
    unfold x4
    exact .step (.refl ..) State.setTb_moves
  clear_value x4
  extract_lets +onlyGivenNames x5
  have h5 : Moves [.time, .ledger] s0 x5 := by
    unfold x5
    exact .step (.step h4 State.wr_moves) State.wr_moves
  clear_value x5
  exact .step (.step h5 State.setServo_moves) State.deriveSync_moves

theorem State.effRole_moves {s0 : State} {a1 a2 : _} : Moves [.blocks, .time, .ledger] s0 (State.effRole s0 a1 a2) := by
  have e0 := @State.effRole.eq_def
  unfold State.effRole
  clear e0
  refine .ite (fun _ => ?_) (fun _ => ?_)
  · exact .step (.refl ..) State.wrR_moves
  · extract_lets +onlyGivenNames x1
    clear_value x1
    extract_lets +onlyGivenNames x2
    clear_value x2
    extract_lets +onlyGivenNames x3
    have h3 : Moves [.blocks, .time, .ledger] s0 x3 := by
      unfold x3
      exact .step (.refl ..) State.setTb_moves
    clear_value x3
    extract_lets +onlyGivenNames x4
    have h4 : Moves [.blocks, .time, .ledger] s0 x4 := by
      unfold x4
      exact .step (.step h3 State.wrR_moves) State.setVal_moves
    clear_value x4
    exact .step (.step h4 State.setTb_moves) State.startInstance_moves

theorem State.effSet_moves {s0 : State} {a1 a2 : _} : Moves [.time, .ledger] s0 (State.effSet s0 a1 a2) := by
  have e0 := @State.effSet.eq_def
  unfold State.effSet
  clear e0
  extract_lets +onlyGivenNames x1
  clear_value x1
  extract_lets +onlyGivenNames x2
  have h2 : Moves [.time, .ledger] s0 x2 := by
    unfold x2
    exact .step (.refl ..) State.setVal_moves
  clear_value x2
  extract_lets +onlyGivenNames x3
  clear_value x3
  extract_lets +onlyGivenNames x4
  have h4 : Moves [.time, .ledger] s0 x4 := by
    unfold x4
    exact .step h2 State.setTb_moves
  clear_value x4
  exact .step (.step (.step h4 State.inc_moves) State.staleClock_moves) State.deriveSync_moves

theorem State.stepBase_moves {s0 : State} {a1 a2 : _} : Moves [.time, .ledger] s0 (State.stepBase s0 a1 a2) := by
  have e0 := @State.stepBase.eq_def
  unfold State.stepBase
  clear e0
  extract_lets +onlyGivenNames x1
  have h1 : Moves [.time, .ledger] s0 x1 := by
    unfold x1
    exact .step (.refl ..) State.setVal_moves
  clear_value x1
  extract_lets +onlyGivenNames x2
  clear_value x2
  extract_lets +onlyGivenNames x3
  have h3 : Moves [.time, .ledger] s0 x3 := by
    unfold x3
    exact .step (.step h1 State.inc_moves) State.wrI_moves
  clear_value x3
  exact .step (.step h3 State.staleClock_moves) State.tsEvt_moves

theorem State.effStep_moves {s0 : State} {a1 a2 : _} : Moves [.time, .ledger] s0 (State.effStep s0 a1 a2) := by
  have e0 := @State.effStep.eq_def
  unfold State.effStep
  clear e0
  exact .step (.refl ..) State.stepBase_moves

theorem State.effTcStats_moves {s0 : State} : Moves [] s0 (State.effTcStats s0) := by
  have e0 := @State.effTcStats.eq_def
  unfold State.effTcStats
  clear e0
  exact .step (.refl ..) State.clear_moves

theorem State.switchPath_moves {s0 : State} {a1 a2 : _} : Moves [] s0 (State.switchPath s0 a1 a2) := by
  have e0 := @State.switchPath.eq_def
  unfold State.switchPath
  clear e0
  refine .ite (fun _ => ?_) (fun _ => ?_)
  · exact .refl ..
  · exact .step (.step (.refl ..) State.wr_moves) State.tsEvt_moves

theorem State.servoFreq_moves {s0 : State} {a1 a2 : _} : Moves [.time, .free] s0 (State.servoFreq s0 a1 a2) := by
  have e0 := @State.servoFreq.eq_def
  unfold State.servoFreq
  clear e0
  extract_lets +onlyGivenNames x1
  clear_value x1
  exact .step (.step (.refl ..) State.drawn_moves) State.setFreq_moves

theorem State.servoStep_moves {s0 : State} {a1 a2 : _} : Moves [.time, .ledger, .free] s0 (State.servoStep s0 a1 a2) := by
  have e0 := @State.servoStep.eq_def
  unfold State.servoStep
  clear e0
  extract_lets +onlyGivenNames x1
  clear_value x1
  extract_lets +onlyGivenNames x2
  have h2 : Moves [.time, .ledger, .free] s0 x2 := by
    unfold x2
    exact .step (.refl ..) State.wr_moves
  clear_value x2
  extract_lets +onlyGivenNames x3
  clear_value x3
  split
  · rename_i y4 y5
    exact h2
  · rename_i y6 y7
    extract_lets +onlyGivenNames x8
    clear_value x8
    extract_lets +onlyGivenNames x9
    have h9 : Moves [.time, .ledger, .free] s0 x9 := by
      unfold x9
      refine .ite (fun _ => ?_) (fun _ => ?_)
      · exact .step h2 State.wr_moves
      · exact h2
    clear_value x9
    extract_lets +onlyGivenNames x10 x11
    clear_value x10 x11
    extract_lets +onlyGivenNames x12
    have h12 : Moves [.time, .ledger, .free] s0 x12 := by
      unfold x12
      exact .step h9 State.setTb_moves
    clear_value x12
    refine .ite (fun _ => ?_) (fun _ => ?_)
    · exact .step h12 State.setServo_moves
    · extract_lets +onlyGivenNames x13
      have h13 : Moves [.time, .ledger, .free] s0 x13 := by
        unfold x13
        exact .step h12 State.servoFreq_moves
      clear_value x13
      extract_lets +onlyGivenNames x14
      clear_value x14
      exact .step h13 State.setTb_moves
  · rename_i y15 y16 y17
    extract_lets +onlyGivenNames x18
    have h18 : Moves [.time, .ledger, .free] s0 x18 := by
      unfold x18
      refine .ite (fun _ => ?_) (fun _ => ?_)
      · exact h2
      · exact .step h2 State.setServo_moves
    clear_value x18
    extract_lets +onlyGivenNames x19 x20
    clear_value x19 x20
    refine .ite (fun _ => ?_) (fun _ => ?_)
    · extract_lets +onlyGivenNames x21
      clear_value x21
      extract_lets +onlyGivenNames x22
      have h22 : Moves [.time, .ledger, .free] s0 x22 := by
        unfold x22
        exact .step h18 State.setTb_moves
      clear_value x22
      exact .step h22 State.stepBase_moves
    · extract_lets +onlyGivenNames x23
      clear_value x23
      extract_lets +onlyGivenNames x24
      clear_value x24
      extract_lets +onlyGivenNames x25
      have h25 : Moves [.time, .ledger, .free] s0 x25 := by
        unfold x25
        exact .step h18 State.setTb_moves
      clear_value x25
      refine .ite (fun _ => ?_) (fun _ => ?_)
      · exact .step h25 State.setServo_moves
      · extract_lets +onlyGivenNames x26
        clear_value x26
        extract_lets +onlyGivenNames x27
        have h27 : Moves [.time, .ledger, .free] s0 x27 := by
          unfold x27
          exact .step h25 State.servoFreq_moves
        clear_value x27
        extract_lets +onlyGivenNames x28 x29
        clear_value x28 x29
        extract_lets +onlyGivenNames x30
        have h30 : Moves [.time, .ledger, .free] s0 x30 := by
          unfold x30
          refine .ite (fun _ => ?_) (fun _ => ?_)
          · exact .step h27 State.tsEvt_moves
          · exact h27
        clear_value x30
        exact .step h30 State.setTb_moves

theorem State.usableSync_moves {s0 : State} {a1 a2 a3 a4 : _} : Moves [.time, .ledger, .free] s0 (State.usableSync s0 a1 a2 a3 a4) := by
  have e0 := @State.usableSync.eq_def
  unfold State.usableSync
  clear e0
  extract_lets +onlyGivenNames x1
  clear_value x1
  extract_lets +onlyGivenNames x2
  have h2 : Moves [.time, .ledger, .free] s0 x2 := by
    unfold x2
    exact .step (.refl ..) State.inc_moves
  clear_value x2
  extract_lets +onlyGivenNames x3 x4 x5 x6
  clear_value x3 x4 x5 x6
  extract_lets +onlyGivenNames x7
  have h7 : Moves [.time, .ledger, .free] s0 x7 := by
    unfold x7
    exact .step h2 State.setTb_moves
  clear_value x7
  extract_lets +onlyGivenNames x8 x9
  clear_value x8 x9
  extract_lets +onlyGivenNames x10
  have h10 : Moves [.time, .ledger, .free] s0 x10 := by
    unfold x10
    refine .ite (fun _ => ?_) (fun _ => ?_)
    · exact .step h7 State.switchPath_moves
    · refine .ite (fun _ => ?_) (fun _ => ?_)
      · exact .step h7 State.switchPath_moves
      · exact h7
  clear_value x10
  extract_lets +onlyGivenNames x11
  have h11 : Moves [.time, .ledger, .free] s0 x11 := by
    unfold x11
    exact .step h10 State.comparePaths_moves
  clear_value x11
  refine .ite (fun _ => ?_) (fun _ => ?_)
  · extract_lets +onlyGivenNames x12
    have h12 : Moves [.time, .ledger, .free] s0 x12 := by
      unfold x12
      split
      · rename_i y13 y14 y15
        exact .step h11 State.wr_moves
      · rename_i y16 y17
        exact h11
    clear_value x12
    exact .step h12 State.servoStep_moves
  · exact h11

theorem State.followUp_moves {s0 : State} {a1 a2 a3 : _} : Moves [.time, .ledger, .free] s0 (State.followUp s0 a1 a2 a3) := by
  have e0 := @State.followUp.eq_def
  unfold State.followUp
  clear e0
  refine .ite (fun _ => ?_) (fun _ => ?_)
  · exact .refl ..
  · refine .ite (fun _ => ?_) (fun _ => ?_)
    · exact .step (.refl ..) State.inc_moves
    · split
      · rename_i y1 y2 y3 y4 y5
        refine .ite (fun _ => ?_) (fun _ => ?_)
        · exact .step (.refl ..) State.usableSync_moves
        · exact .refl ..
      · rename_i y6 y7
        exact .refl ..

theorem State.followUpTimeout_moves {s0 : State} {a1 a2 : _} : Moves [.time] s0 (State.followUpTimeout s0 a1 a2) := by
  have e0 := @State.followUpTimeout.eq_def
  unfold State.followUpTimeout
  clear e0
  extract_lets +onlyGivenNames x1 x2
  clear_value x1 x2
  split
  · rename_i y3 y4 y5 y6 y7
    refine .ite (fun _ => ?_) (fun _ => ?_)
    · exact .step (.refl ..) State.setTb_moves
    · exact .refl ..
  · rename_i y8 y9
    exact .refl ..

theorem State.freeMasters_moves {s0 : State} : Moves [.time, .ledger] s0 (State.freeMasters s0) := by
  have e0 := @State.freeMasters.eq_def
  unfold State.freeMasters
  clear e0
  refine .foldl ?_ (fun y1 b3 hy2 => ?_)
  · exact .refl ..
  · refine .ite (fun _ => ?_) (fun _ => ?_)
    · exact .step hy2 State.startInstance_moves
    · exact hy2

theorem State.partnerOffset_moves {s0 : State} {a1 : _} : Moves [] s0 (State.partnerOffset s0 a1) := by
  have e0 := @State.partnerOffset.eq_def
  unfold State.partnerOffset
  clear e0
  extract_lets +onlyGivenNames x1
  clear_value x1
  refine .ite (fun _ => ?_) (fun _ => ?_)
  · split
    · rename_i y2 y3
      exact .step (.step (.refl ..) State.wr_moves) State.wr_moves
    · rename_i y4
      exact .step (.refl ..) State.wr_moves
  · exact .step (.refl ..) State.wr_moves

theorem State.pdelayReqReceived_moves {s0 : State} {a1 a2 a3 a4 : _} : Moves [.net, .free] s0 (State.pdelayReqReceived s0 a1 a2 a3 a4) := by
  have e0 := @State.pdelayReqReceived.eq_def
  unfold State.pdelayReqReceived
  clear e0
  refine .ite (fun _ => ?_) (fun _ => ?_)
  · exact .refl ..
  · extract_lets +onlyGivenNames x1
    have h1 : Moves [.net, .free] s0 x1 := by
      unfold x1
      exact .step (.refl ..) State.stamped_moves
    clear_value x1
    refine .ite (fun _ => ?_) (fun _ => ?_)
    · exact .step h1 State.inc_moves
    · refine .ite (fun _ => ?_) (fun _ => ?_)
      · extract_lets +onlyGivenNames x2
        clear_value x2
        extract_lets +onlyGivenNames x3
        clear_value x3
        exact .step (.step (.step h1 State.stamped_moves) State.drawn_moves) State.emitPtp_moves
      · exact h1

theorem State.pdelayReqSend_moves {s0 : State} {a1 a2 : _} : Moves [.net, .free, .time] s0 (State.pdelayReqSend s0 a1 a2) := by
  have e0 := @State.pdelayReqSend.eq_def
  unfold State.pdelayReqSend
  clear e0
  refine .ite (fun _ => ?_) (fun _ => ?_)
  · extract_lets +onlyGivenNames x1
    clear_value x1
    extract_lets +onlyGivenNames x2
    have h2 : Moves [.net, .free, .time] s0 x2 := by
      unfold x2
      refine .ite (fun _ => ?_) (fun _ => ?_)
      · exact .refl ..
      · exact .step (.refl ..) State.wr_moves
    clear_value x2
    extract_lets +onlyGivenNames x3 x4 x5
    clear_value x3 x4 x5
    extract_lets +onlyGivenNames x6
    have h6 : Moves [.net, .free, .time] s0 x6 := by
      unfold x6
      exact .with_time h2
    clear_value x6
    exact .step (.step (.step h6 State.stamped_moves) State.drawn_moves) State.emitPtp_moves
  · exact .refl ..

theorem State.pdelayResp_moves {s0 : State} {a1 a2 a3 a4 : _} : Moves [.time] s0 (State.pdelayResp s0 a1 a2 a3 a4) := by
  have e0 := @State.pdelayResp.eq_def
  unfold State.pdelayResp
  clear e0
  refine .ite (fun _ => ?_) (fun _ => ?_)
  · exact .refl ..
  · extract_lets +onlyGivenNames x1
    have h1 : Moves [.time] s0 x1 := by
      unfold x1
      exact .step (.refl ..) State.stamped_moves
    clear_value x1
    refine .ite (fun _ => ?_) (fun _ => ?_)
    · exact .step h1 State.inc_moves
    · extract_lets +onlyGivenNames x2
      clear_value x2
      split
      · rename_i y3 y4 y5
        refine .ite (fun _ => ?_) (fun _ => ?_)
        · split
          · rename_i y6 y7 y8
            refine .ite (fun _ => ?_) (fun _ => ?_)
            · exact h1
            · exact .step h1 State.wr_moves
          · rename_i y9 y10
            extract_lets +onlyGivenNames x11 x12 x13
            clear_value x11 x12 x13
            extract_lets +onlyGivenNames x14
            have h14 : Moves [.time] s0 x14 := by
              unfold x14
              exact .with_time h1
            clear_value x14
            exact .step (.step h14 State.wr_moves) State.wr_moves
        · exact h1
      · rename_i y15 y16
        exact h1

theorem State.syncLost_moves {s0 : State} {a1 : _} : Moves [.ledger, .time] s0 (State.syncLost s0 a1) := by
  have e0 := @State.syncLost.eq_def
  unfold State.syncLost
  clear e0
  extract_lets +onlyGivenNames x1 x2
  clear_value x1 x2
  refine .ite (fun _ => ?_) (fun _ => ?_)
  · refine .ite (fun _ => ?_) (fun _ => ?_)
    · exact .step (.refl ..) State.switchPath_moves
    · exact .step (.step (.refl ..) State.wr_moves) State.setServo_moves
  · exact .refl ..

theorem State.syncReceived_moves {s0 : State} {a1 a2 a3 a4 : _} : Moves [.time, .ledger, .free] s0 (State.syncReceived s0 a1 a2 a3 a4) := by
  have e0 := @State.syncReceived.eq_def
  unfold State.syncReceived
  clear e0
  refine .ite (fun _ => ?_) (fun _ => ?_)
  · exact .refl ..
  · extract_lets +onlyGivenNames x1
    have h1 : Moves [.time, .ledger, .free] s0 x1 := by
      unfold x1
      exact .step (.refl ..) State.stamped_moves
    clear_value x1
    refine .ite (fun _ => ?_) (fun _ => ?_)
    · exact .step h1 State.inc_moves
    · refine .ite (fun _ => ?_) (fun _ => ?_)
      · exact h1
      · extract_lets +onlyGivenNames x2
        clear_value x2
        refine .ite (fun _ => ?_) (fun _ => ?_)
        · extract_lets +onlyGivenNames x3
          clear_value x3
          extract_lets +onlyGivenNames x4
          clear_value x4
          exact .step h1 State.setTb_moves
        · exact .step h1 State.usableSync_moves

theorem State.syncSend_moves {s0 : State} {a1 a2 : _} : Moves [.time, .net, .free] s0 (State.syncSend s0 a1 a2) := by
  have e0 := @State.syncSend.eq_def
  unfold State.syncSend
  clear e0
  refine .ite (fun _ => ?_) (fun _ => ?_)
  · extract_lets +onlyGivenNames x1
    clear_value x1
    extract_lets +onlyGivenNames x2 x3
    clear_value x2 x3
    extract_lets +onlyGivenNames x4
    have h4 : Moves [.time, .net, .free] s0 x4 := by
      unfold x4
      exact .step (.refl ..) State.setTb_moves
    clear_value x4
    exact .step (.step (.step h4 State.stamped_moves) State.drawn_moves) State.emitPtp_moves
  · exact .refl ..

theorem State.tcForward_moves {s0 : State} {a1 : _} : Moves [.net] s0 (State.tcForward s0 a1) := by
  have e0 := @State.tcForward.eq_def
  unfold State.tcForward
  clear e0
  extract_lets +onlyGivenNames x1 x2
  clear_value x1 x2
  refine .ite (fun _ => ?_) (fun _ => ?_)
  · exact .refl ..
  · extract_lets +onlyGivenNames x3
    clear_value x3
    extract_lets +onlyGivenNames x4
    clear_value x4
    refine .ite (fun _ => ?_) (fun _ => ?_)
    · exact .step (.refl ..) State.inc_moves
    · extract_lets +onlyGivenNames x5
      clear_value x5
      extract_lets +onlyGivenNames x6 x7 x8 x9
      clear_value x6 x7 x8 x9
      extract_lets +onlyGivenNames x10
      have h10 : Moves [.net] s0 x10 := by
        unfold x10
        exact .step (.step (.refl ..) State.inc_moves) State.wr_moves
      clear_value x10
      extract_lets +onlyGivenNames x11
      have h11 : Moves [.net] s0 x11 := by
        unfold x11
        refine .ite (fun _ => ?_) (fun _ => ?_)
        · exact .step h10 State.wr_moves
        · exact h10
      clear_value x11
      extract_lets +onlyGivenNames x12
      have h12 : Moves [.net] s0 x12 := by
        unfold x12
        refine .ite (fun _ => ?_) (fun _ => ?_)
        · refine .ite (fun _ => ?_) (fun _ => ?_)
          · exact .step h11 State.wr_moves
          · exact h11
        · exact .refl ..
      clear_value x12
      extract_lets +onlyGivenNames x13
      have h13 : Moves [.net] s0 x13 := by
        unfold x13
        exact .step (.step h12 State.stamped_moves) State.stamped_moves
      clear_value x13
      extract_lets +onlyGivenNames x14
      have h14 : Moves [.net] s0 x14 := by
        unfold x14
        refine .ite (fun _ => ?_) (fun _ => ?_)
        · exact h13
        · exact .step h13 State.inc_moves
      clear_value x14
      extract_lets +onlyGivenNames x15
      have h15 : Moves [.net] s0 x15 := by
        unfold x15
        refine .ite (fun _ => ?_) (fun _ => ?_)
        · refine .ite (fun _ => ?_) (fun _ => ?_)
          · exact h14
          · exact .step h14 State.inc_moves
        · exact h12
      clear_value x15
      extract_lets +onlyGivenNames x16
      clear_value x16
      exact .with_net h15

/-! ## Machine/Ethernet.lean -/

theorem State.cableTest_moves {s0 : State} {a1 a2 : _} : Moves [] s0 (State.cableTest s0 a1 a2) := by
  have e0 := @State.cableTest.eq_def
  unfold State.cableTest
  clear e0
  refine .ite (fun _ => ?_) (fun _ => ?_)
  · exact .step (.refl ..) State.wr_moves
  · exact .refl ..

theorem State.countNodes_moves {s0 : State} : Moves [] s0 (State.countNodes s0) := by
  have e0 := @State.countNodes.eq_def
  unfold State.countNodes
  clear e0
  exact .step (.step (.refl ..) State.wr_moves) State.wr_moves

theorem State.noteNode_moves {s0 : State} {a1 a2 : _} : Moves [.net] s0 (State.noteNode s0 a1 a2) := by
  have e0 := @State.noteNode.eq_def
  unfold State.noteNode
  clear e0
  extract_lets +onlyGivenNames x1
  clear_value x1
  extract_lets +onlyGivenNames x2
  extract_lets +onlyGivenNames x3
  extract_lets +onlyGivenNames x4
  clear_value x4
  exact .step (.with_net (.refl ..)) State.countNodes_moves

theorem State.setPort_moves {s0 : State} {a1 a2 : _} : Moves [.net] s0 (State.setPort s0 a1 a2) := by
  have e0 := @State.setPort.eq_def
  unfold State.setPort
  clear e0
  exact .with_net (.refl ..)

theorem State.deliver_moves {s0 : State} {a1 a2 a3 : _} : Moves [.net] s0 (State.deliver s0 a1 a2 a3) := by
  have e0 := @State.deliver.eq_def
  unfold State.deliver
  clear e0
  extract_lets +onlyGivenNames x1
  clear_value x1
  refine .ite (fun _ => ?_) (fun _ => ?_)
  · refine .ite (fun _ => ?_) (fun _ => ?_)
    · exact .step (.refl ..) State.place_moves
    · exact .refl ..
  · refine .ite (fun _ => ?_) (fun _ => ?_)
    · exact .refl ..
    · refine .ite (fun _ => ?_) (fun _ => ?_)
      · exact .step (.refl ..) State.noteNode_moves
      · refine .ite (fun _ => ?_) (fun _ => ?_)
        · exact .refl ..
        · refine .ite (fun _ => ?_) (fun _ => ?_)
          · extract_lets +onlyGivenNames x2
            clear_value x2
            extract_lets +onlyGivenNames x3
            clear_value x3
            refine .ite (fun _ => ?_) (fun _ => ?_)
            · exact .step (.step (.refl ..) State.setPort_moves) State.place_moves
            · exact .step (.refl ..) State.inc_moves
          · exact .step (.refl ..) State.place_moves

theorem State.police_moves {s0 : State} {a1 a2 a3 a4 a5 : _} : Moves [.net] s0 (State.police s0 a1 a2 a3 a4 a5).1 := by
  have e0 := @State.police.eq_def
  unfold State.police
  clear e0
  extract_lets +onlyGivenNames x1 x2
  clear_value x1 x2
  dsimp -zeta only
  exact .step (.refl ..) State.setPort_moves

theorem State.deliveryCap_moves {s0 : State} {a1 a2 a3 : _} : Moves [.net] s0 (State.deliveryCap s0 a1 a2 a3).1 := by
  have e0 := @State.deliveryCap.eq_def
  unfold State.deliveryCap
  clear e0
  extract_lets +onlyGivenNames x1
  clear_value x1
  split
  · rename_i y2
    dsimp -zeta only
    exact .refl ..
  · rename_i y3
    exact .step (.refl ..) State.police_moves

theorem State.duplicateNode_moves {s0 : State} {a1 : _} : Moves [.ledger, .net] s0 (State.duplicateNode s0 a1) := by
  have e0 := @State.duplicateNode.eq_def
  unfold State.duplicateNode
  clear e0
  extract_lets +onlyGivenNames x1
  have h1 : Moves [.ledger, .net] s0 x1 := by
    unfold x1
    exact .step (.step (.refl ..) State.inc_moves) State.wrB_moves
  clear_value x1
  refine .ite (fun _ => ?_) (fun _ => ?_)
  · exact h1
  · extract_lets +onlyGivenNames x2
    clear_value x2
    extract_lets +onlyGivenNames x3
    have h3 : Moves [.ledger, .net] s0 x3 := by
      unfold x3
      exact .with_net h1
    clear_value x3
    exact .step h3 State.log_moves

theorem State.effPortEnable_moves {s0 : State} {a1 a2 : _} : Moves [.blocks] s0 (State.effPortEnable s0 a1 a2) := by
  have e0 := @State.effPortEnable.eq_def
  unfold State.effPortEnable
  clear e0
  extract_lets +onlyGivenNames x1
  have h1 : Moves [.blocks] s0 x1 := by
    unfold x1
    exact .step (.refl ..) State.wrR_moves
  clear_value x1
  refine .ite (fun _ => ?_) (fun _ => ?_)
  · exact .step (.step (.step h1 State.wr_moves) State.wr_moves) State.inc_moves
  · exact h1

theorem State.effPortStats_moves {s0 : State} {a1 : _} : Moves [] s0 (State.effPortStats s0 a1) := by
  have e0 := @State.effPortStats.eq_def
  unfold State.effPortStats
  clear e0
  extract_lets +onlyGivenNames x1
  have h1 : Moves [] s0 x1 := by
    unfold x1
    exact .step (.refl ..) State.clear_moves
  clear_value x1
  exact .step (.step h1 State.wrB_moves) State.wrB_moves

theorem State.effSource_moves {s0 : State} {a1 a2 : _} : Moves [.blocks] s0 (State.effSource s0 a1 a2) := by
  have e0 := @State.effSource.eq_def
  unfold State.effSource
  clear e0
  extract_lets +onlyGivenNames x1
  have h1 : Moves [.blocks] s0 x1 := by
    unfold x1
    exact .step (.refl ..) State.wrR_moves
  clear_value x1
  exact .step h1 State.wr_moves

theorem State.endFilter_moves {s0 : State} {a1 : _} : Moves [.ledger, .eop] s0 (State.endFilter s0 a1) := by
  have e0 := @State.endFilter.eq_def
  unfold State.endFilter
  clear e0
  extract_lets +onlyGivenNames x1
  have h1 : Moves [.ledger, .eop] s0 x1 := by
    unfold x1
    exact .step (.refl ..) State.log_moves
  clear_value x1
  extract_lets +onlyGivenNames x2
  have h2 : Moves [.ledger, .eop] s0 x2 := by
    unfold x2
    exact .step h1 State.clear_moves
  clear_value x2
  extract_lets +onlyGivenNames x3
  have h3 : Moves [.ledger, .eop] s0 x3 := by
    unfold x3
    exact .step h2 State.wrB_moves
  clear_value x3
  exact .with_eop h3

theorem State.filterExpiry_moves {s0 : State} {a1 : _} : Moves [.ledger, .eop] s0 (State.filterExpiry s0 a1) := by
  have e0 := @State.filterExpiry.eq_def
  unfold State.filterExpiry
  clear e0
  split
  · rename_i y1 y2 y3
    split
    · rename_i y4 y5 y6
      refine .ite (fun _ => ?_) (fun _ => ?_)
      · exact .step (.refl ..) State.endFilter_moves
      · exact .refl ..
    · rename_i y7 y8
      exact .refl ..
  · rename_i y9 y10
    exact .refl ..

theorem State.forgetEntries_moves {s0 : State} : Moves [.net] s0 (State.forgetEntries s0) := by
  have e0 := @State.forgetEntries.eq_def
  unfold State.forgetEntries
  clear e0
  extract_lets +onlyGivenNames x1 x2 x3
  clear_value x1 x2 x3
  extract_lets +onlyGivenNames x4
  have h4 : Moves [.net] s0 x4 := by
    unfold x4
    exact .with_net (.refl ..)
  clear_value x4
  exact .step (.step h4 State.addTo_moves) State.addTo_moves

theorem State.forwardFrame_moves {s0 : State} {a1 a2 : _} : Moves [.net] s0 (State.forwardFrame s0 a1 a2) := by
  have e0 := @State.forwardFrame.eq_def
  unfold State.forwardFrame
  clear e0
  refine .ite (fun _ => ?_) (fun _ => ?_)
  · extract_lets +onlyGivenNames x1
    clear_value x1
    exact .step (.step (.refl ..) State.setPort_moves) State.inc_moves
  · exact .refl ..

theorem State.noteReturn_moves {s0 : State} {a1 : _} : Moves [.net] s0 (State.noteReturn s0 a1) := by
  have e0 := @State.noteReturn.eq_def
  unfold State.noteReturn
  clear e0
  exact .with_net (.refl ..)

theorem State.noteCopy_moves {s0 : State} {a1 a2 : _} : Moves [.net] s0 (State.noteCopy s0 a1 a2) := by
  have e0 := @State.noteCopy.eq_def
  unfold State.noteCopy
  clear e0
  split
  · rename_i y1 y2
    exact .refl ..
  · rename_i y3 y4 y5 y6
    extract_lets +onlyGivenNames x7
    refine .ite (fun _ => ?_) (fun _ => ?_)
    · exact .with_net (.refl ..)
    · extract_lets +onlyGivenNames x8
      clear_value x8
      exact .with_net (.refl ..)

theorem State.policeClass3_moves {s0 : State} {p : Nat} {f : EthFrame} : Moves [.net] s0 (s0.policeClass3 p f).1 := by
  unfold State.policeClass3
  extract_lets +onlyGivenNames k
  clear_value k
  have key : ∀ rate, Moves [.net] s0 (match s0.police p k rate 3072 f.len with
      | (s, ok) => if ok then s.police p 10 100 32768 f.len else (s, false)).1 := by
    intro rate
    have h := State.police_moves (s0 := s0) (a1 := p) (a2 := k) (a3 := rate) (a4 := 3072) (a5 := f.len)
    revert h
    generalize s0.police p k rate 3072 f.len = q
    intro h
    obtain ⟨y, b⟩ := q
    cases b with
    | false => exact h
    | true => exact h.step State.police_moves
  exact key _

theorem State.incAt_moves {s0 : State} {a1 a2 a3 : _} : Moves [] s0 (State.incAt s0 a1 a2 a3) := by
  have e0 := @State.incAt.eq_def
  unfold State.incAt
  clear e0
  extract_lets +onlyGivenNames x1
  clear_value x1
  exact .step (.refl ..) State.wrB_moves

theorem State.pipeline_moves {s0 : State} {a1 a2 a3 : _} : Moves [.net] s0 (State.pipeline s0 a1 a2 a3) := by
  have e0 := @State.pipeline.eq_def
  unfold State.pipeline
  clear e0
  split
  · rename_i y1 y2 y3
    exact .step (.step (.refl ..) State.inc_moves) State.inc_moves
  · rename_i y4 y5
    extract_lets +onlyGivenNames x6
    clear_value x6
    split
    · rename_i y7 y8 y9 y10
      have h_y8 : Moves [.net] s0 y8 := by
        rw [show y8 = _ from (congrArg Prod.fst y10).symm]
        split
        · rename_i y11
          exact .step (.refl ..) State.policeClass3_moves
        · rename_i y12
          dsimp -zeta only
          exact .refl ..
      refine .ite (fun _ => ?_) (fun _ => ?_)
      · exact .step h_y8 State.incAt_moves
      · refine .ite (fun _ => ?_) (fun _ => ?_)
        · exact .step h_y8 State.incAt_moves
        · extract_lets +onlyGivenNames x13
          have h13 : Moves [.net] s0 x13 := by
            unfold x13
            exact .step h_y8 State.forwardFrame_moves
          clear_value x13
          refine .ite (fun _ => ?_) (fun _ => ?_)
          · exact h13
          · split
            · rename_i y14 y15 y16 y17
              have h_y15 : Moves [.net] s0 y15 := by
                rw [show y15 = _ from (congrArg Prod.fst y17).symm]
                exact .step h13 State.deliveryCap_moves
              refine .ite (fun _ => ?_) (fun _ => ?_)
              · exact .step h_y15 State.deliver_moves
              · exact .step h_y15 State.incAt_moves

theorem State.frameReceived_moves {s0 : State} {a1 a2 a3 : _} : Moves [.net, .ledger] s0 (State.frameReceived s0 a1 a2 a3) := by
  have e0 := @State.frameReceived.eq_def
  unfold State.frameReceived
  clear e0
  refine .ite (fun _ => ?_) (fun _ => ?_)
  · exact .refl ..
  · refine .ite (fun _ => ?_) (fun _ => ?_)
    · exact .step (.refl ..) State.inc_moves
    · extract_lets +onlyGivenNames x1
      have h1 : Moves [.net, .ledger] s0 x1 := by
        unfold x1
        exact .step (.step (.refl ..) State.inc_moves) State.forgetEntries_moves
      clear_value x1
      extract_lets +onlyGivenNames x2
      clear_value x2
      refine .ite (fun _ => ?_) (fun _ => ?_)
      · exact h1
      · extract_lets +onlyGivenNames x3
        have h3 : Moves [.net, .ledger] s0 x3 := by
          unfold x3
          split
          · rename_i y4 y5 y6 y7
            refine .ite (fun _ => ?_) (fun _ => ?_)
            · exact .step h1 State.inc_moves
            · exact h1
          · rename_i y8 y9
            exact h1
        clear_value x3
        extract_lets +onlyGivenNames x10
        have h10 : Moves [.net, .ledger] s0 x10 := by
          unfold x10
          refine .ite (fun _ => ?_) (fun _ => ?_)
          · exact .step h3 State.duplicateNode_moves
          · exact h3
        clear_value x10
        refine .ite (fun _ => ?_) (fun _ => ?_)
        · refine .ite (fun _ => ?_) (fun _ => ?_)
          · exact .step h10 State.noteReturn_moves
          · exact h10
        · refine .ite (fun _ => ?_) (fun _ => ?_)
          · exact .step (.step h10 State.noteCopy_moves) State.inc_moves
          · exact .step (.step h10 State.noteCopy_moves) State.pipeline_moves

theorem State.installFilter_moves {s0 : State} {a1 a2 a3 a4 a5 a6 a7 : _} : Moves [.ledger, .eop] s0 (State.installFilter s0 a1 a2 a3 a4 a5 a6 a7) := by
  have e0 := @State.installFilter.eq_def
  unfold State.installFilter
  clear e0
  extract_lets +onlyGivenNames x1
  have h1 : Moves [.ledger, .eop] s0 x1 := by
    unfold x1
    exact .step (.step (.refl ..) State.wr_moves) State.wrB_moves
  clear_value x1
  extract_lets +onlyGivenNames x2
  have h2 : Moves [.ledger, .eop] s0 x2 := by
    unfold x2
    exact .step (.step h1 State.wr_moves) State.wr_moves
  clear_value x2
  extract_lets +onlyGivenNames x3
  have h3 : Moves [.ledger, .eop] s0 x3 := by
    unfold x3
    exact .step (.step h2 State.wrT_moves) State.wr_moves
  clear_value x3
  extract_lets +onlyGivenNames x4 x5
  clear_value x4 x5
  extract_lets +onlyGivenNames x6
  have h6 : Moves [.ledger, .eop] s0 x6 := by
    unfold x6
    exact .with_eop h3
  clear_value x6
  exact .step h6 State.log_moves

theorem State.voidShown_moves {s0 : State} {a1 : _} : Moves [] s0 (State.voidShown s0 a1) := by
  have e0 := @State.voidShown.eq_def
  unfold State.voidShown
  clear e0
  refine .foldl ?_ (fun y1 b3 hy2 => ?_)
  · exact .refl ..
  · refine .ite (fun _ => ?_) (fun _ => ?_)
    · exact .step hy2 State.wr_moves
    · exact hy2

theorem State.voidDelays_moves {s0 : State} {a1 : _} : Moves [.time] s0 (State.voidDelays s0 a1) := by
  have e0 := @State.voidDelays.eq_def
  unfold State.voidDelays
  clear e0
  extract_lets +onlyGivenNames x1 x2
  clear_value x1 x2
  extract_lets +onlyGivenNames x3
  have h3 : Moves [.time] s0 x3 := by
    unfold x3
    exact .with_time (.refl ..)
  clear_value x3
  extract_lets +onlyGivenNames x4
  have h4 : Moves [.time] s0 x4 := by
    unfold x4
    exact .step (.step (.step h3 State.wr_moves) State.wr_moves) State.voidShown_moves
  clear_value x4
  extract_lets +onlyGivenNames x5
  refine .ite (fun _ => ?_) (fun _ => ?_)
  · exact .with_time h4
  · exact .with_time h4

theorem State.linkChange_moves {s0 : State} {a1 a2 a3 : _} : Moves [.net, .time] s0 (State.linkChange s0 a1 a2 a3) := by
  have e0 := @State.linkChange.eq_def
  unfold State.linkChange
  clear e0
  extract_lets +onlyGivenNames x1
  clear_value x1
  refine .ite (fun _ => ?_) (fun _ => ?_)
  · exact .refl ..
  · extract_lets +onlyGivenNames x2
    have h2 : Moves [.net, .time] s0 x2 := by
      unfold x2
      exact .step (.step (.step (.refl ..) State.wr_moves) State.wr_moves) State.inc_moves
    clear_value x2
    refine .ite (fun _ => ?_) (fun _ => ?_)
    · exact h2
    · extract_lets +onlyGivenNames x3
      clear_value x3
      extract_lets +onlyGivenNames x4
      have h4 : Moves [.net, .time] s0 x4 := by
        unfold x4
        exact .step (.step h2 State.setPort_moves) State.wr_moves
      clear_value x4
      refine .ite (fun _ => ?_) (fun _ => ?_)
      · exact h4
      · exact .step h4 State.voidDelays_moves

theorem State.netInForce_moves {s0 : State} : Moves [.net] s0 (State.netInForce s0) := by
  have e0 := @State.netInForce.eq_def
  unfold State.netInForce
  clear e0
  exact .with_net (.refl ..)

theorem State.nodeForget_moves {s0 : State} : Moves [.net] s0 (State.nodeForget s0) := by
  have e0 := @State.nodeForget.eq_def
  unfold State.nodeForget
  clear e0
  extract_lets +onlyGivenNames x1
  clear_value x1
  extract_lets +onlyGivenNames x2
  exact .step (.with_net (.refl ..)) State.countNodes_moves

theorem State.sent_moves {s0 : State} {a1 a2 : _} : Moves [.net] s0 (State.sent s0 a1 a2) := by
  have e0 := @State.sent.eq_def
  unfold State.sent
  clear e0
  exact .step (.step (.refl ..) State.setPort_moves) State.inc_moves

theorem State.sendFrame_moves {s0 : State} {a1 a2 : _} : Moves [.net] s0 (State.sendFrame s0 a1 a2) := by
  have e0 := @State.sendFrame.eq_def
  unfold State.sendFrame
  clear e0
  extract_lets +onlyGivenNames x1
  clear_value x1
  refine .ite (fun _ => ?_) (fun _ => ?_)
  · exact .step (.refl ..) State.sent_moves
  · extract_lets +onlyGivenNames x2
    clear_value x2
    extract_lets +onlyGivenNames x3
    clear_value x3
    extract_lets +onlyGivenNames x4
    have h4 : Moves [.net] s0 x4 := by
      unfold x4
      exact .step (.step (.refl ..) State.sent_moves) State.sent_moves
    clear_value x4
    exact .with_net h4

theorem State.sendRing_moves {s0 : State} {a1 a2 : _} : Moves [.net] s0 (State.sendRing s0 a1 a2) := by
  have e0 := @State.sendRing.eq_def
  unfold State.sendRing
  clear e0
  split
  · rename_i y1 y2 y3 y4
    have h_y2 : Moves [.net] s0 y2 := by
      rw [show y2 = _ from (congrArg Prod.fst y4).symm]
      exact .step (.refl ..) State.pop_moves
    extract_lets +onlyGivenNames x5
    have h5 : Moves [.net] s0 x5 := by
      unfold x5
      refine .ite (fun _ => ?_) (fun _ => ?_)
      · exact .step h_y2 State.police_moves
      · exact h_y2
    clear_value x5
    exact .step h5 State.sendFrame_moves
  · rename_i y6 y7 y8 y9
    have h_y7 : Moves [.net] s0 y7 := by
      rw [show y7 = _ from (congrArg Prod.fst y9).symm]
      exact .step (.refl ..) State.pop_moves
    extract_lets +onlyGivenNames x10
    have h10 : Moves [.net] s0 x10 := by
      unfold x10
      exact .step h_y7 State.police_moves
    clear_value x10
    exact .step h10 State.sendFrame_moves
  · rename_i y11 y12 y13 y14 y15 y16
    have h_y12 : Moves [.net] s0 y12 := by
      rw [show y12 = _ from (congrArg Prod.fst y16).symm]
      exact .step (.refl ..) State.pop_moves
    exact h_y12

theorem State.portTransmit_moves {s0 : State} {a1 : _} : Moves [.net] s0 (State.portTransmit s0 a1) := by
  have e0 := @State.portTransmit.eq_def
  unfold State.portTransmit
  clear e0
  refine .ite (fun _ => ?_) (fun _ => ?_)
  · exact .refl ..
  · extract_lets +onlyGivenNames x1
    clear_value x1
    split
    · rename_i y2 y3
      exact .refl ..
    · rename_i y4 y5
      exact .step (.refl ..) State.sendRing_moves
    · rename_i y6 y7
      exact .step (.refl ..) State.sendRing_moves
    · rename_i y8 y9
      exact .step (.refl ..) State.sendRing_moves
    · rename_i y10 y11
      split
      · rename_i y12 y13 y14 y15
        exact .step (.step (.refl ..) State.setPort_moves) State.sendFrame_moves
      · rename_i y16 y17
        exact .refl ..
    · rename_i y18 y19
      split
      · rename_i y20 y21 y22 y23
        exact .step (.step (.refl ..) State.setPort_moves) State.sendFrame_moves
      · rename_i y24 y25
        exact .refl ..
    · rename_i y26 y27 y28
      split
      · rename_i y29 y30 y31 y32
        exact .step (.step (.refl ..) State.setPort_moves) State.inc_moves
      · rename_i y33 y34
        exact .refl ..

theorem State.ringCheck_moves {s0 : State} : Moves [.ledger] s0 (State.ringCheck s0) := by
  have e0 := @State.ringCheck.eq_def
  unfold State.ringCheck
  clear e0
  extract_lets +onlyGivenNames x1
  extract_lets +onlyGivenNames x2
  clear_value x2
  refine .ite (fun _ => ?_) (fun _ => ?_)
  · exact .refl ..
  · exact .step (.step (.refl ..) State.wr_moves) State.log_moves

theorem State.supervisionSend_moves {s0 : State} {a1 : _} : Moves [.net] s0 (State.supervisionSend s0 a1) := by
  have e0 := @State.supervisionSend.eq_def
  unfold State.supervisionSend
  clear e0
  extract_lets +onlyGivenNames x1 x2
  clear_value x1 x2
  refine .ite (fun _ => ?_) (fun _ => ?_)
  · extract_lets +onlyGivenNames x3
    clear_value x3
    extract_lets +onlyGivenNames x4 x5
    clear_value x4 x5
    extract_lets +onlyGivenNames x6
    have h6 : Moves [.net] s0 x6 := by
      unfold x6
      exact .step (.refl ..) State.setPort_moves
    clear_value x6
    exact .with_net h6
  · exact .refl ..

theorem State.transmit_moves {s0 : State} {a1 a2 : _} : Moves [] s0 (State.transmit s0 a1 a2) := by
  have e0 := @State.transmit.eq_def
  unfold State.transmit
  clear e0
  exact .step (.refl ..) State.place_moves

/-! ## Machine/Runtime.lean -/

theorem State.setTask_moves {s0 : State} {a1 a2 : _} : Moves [.rt] s0 (State.setTask s0 a1 a2) := by
  have e0 := @State.setTask.eq_def
  unfold State.setTask
  clear e0
  exact .with_rt (.refl ..)

theorem State.trimErrors_moves {s0 : State} {a1 : _} : Moves [.rt] s0 (State.trimErrors s0 a1) := by
  have e0 := @State.trimErrors.eq_def
  unfold State.trimErrors
  clear e0
  extract_lets +onlyGivenNames x1 x2
  clear_value x1 x2
  extract_lets +onlyGivenNames x3
  have h3 : Moves [.rt] s0 x3 := by
    unfold x3
    exact .step (.step (.refl ..) State.setTask_moves) State.wr_moves
  clear_value x3
  exact .step h3 State.addTo_moves

theorem State.abandonTurn_moves {s0 : State} {a1 : _} : Moves [.rt] s0 (State.abandonTurn s0 a1) := by
  have e0 := @State.abandonTurn.eq_def
  unfold State.abandonTurn
  clear e0
  extract_lets +onlyGivenNames x1
  clear_value x1
  split
  · rename_i y2 y3
    exact .refl ..
  · rename_i y4 y5 y6
    extract_lets +onlyGivenNames x7
    clear_value x7
    extract_lets +onlyGivenNames x8
    have h8 : Moves [.rt] s0 x8 := by
      unfold x8
      exact .step (.refl ..) State.setTask_moves
    clear_value x8
    extract_lets +onlyGivenNames x9
    have h9 : Moves [.rt] s0 x9 := by
      unfold x9
      refine .foldl ?_ (fun y10 b12 hy11 => ?_)
      · exact h8
      · refine .ite (fun _ => ?_) (fun _ => ?_)
        · exact hy11
        · exact .with_rt hy11
    clear_value x9
    exact .step (.step h9 State.trimErrors_moves) State.inc_moves

theorem State.abandonWhere_moves {s0 : State} {a1 : _} : Moves [.rt] s0 (State.abandonWhere s0 a1) := by
  have e0 := @State.abandonWhere.eq_def
  unfold State.abandonWhere
  clear e0
  refine .foldl ?_ (fun y1 b3 hy2 => ?_)
  · exact .refl ..
  · exact .step hy2 State.abandonTurn_moves

theorem State.setMode_moves {s0 : State} {a1 : _} : Moves [.ledger] s0 (State.setMode s0 a1) := by
  have e0 := @State.setMode.eq_def
  unfold State.setMode
  clear e0
  exact .step (.step (.refl ..) State.wr_moves) State.log_moves

theorem State.enterHold_moves {s0 : State} {a1 : _} : Moves [.ledger, .rt] s0 (State.enterHold s0 a1) := by
  have e0 := @State.enterHold.eq_def
  unfold State.enterHold
  clear e0
  extract_lets +onlyGivenNames x1
  have h1 : Moves [.ledger, .rt] s0 x1 := by
    unfold x1
    exact .step (.step (.refl ..) State.wr_moves) State.setMode_moves
  clear_value x1
  exact .with_rt h1

theorem State.breakpoint_moves {s0 : State} {a1 : _} : Moves [.rt, .ledger] s0 (State.breakpoint s0 a1) := by
  have e0 := @State.breakpoint.eq_def
  unfold State.breakpoint
  clear e0
  extract_lets +onlyGivenNames x1
  clear_value x1
  split
  · rename_i y2 y3 y4 y5 y6 y7
    extract_lets +onlyGivenNames x8
    clear_value x8
    refine .ite (fun _ => ?_) (fun _ => ?_)
    · extract_lets +onlyGivenNames x9
      have h9 : Moves [.rt, .ledger] s0 x9 := by
        unfold x9
        exact .step (.refl ..) State.setTask_moves
      clear_value x9
      refine .ite (fun _ => ?_) (fun _ => ?_)
      · exact .step h9 State.enterHold_moves
      · exact .step h9 State.wr_moves
    · exact .refl ..
  · rename_i y10 y11 y12
    exact .refl ..

theorem State.mapTasks_moves {s0 : State} {a1 : _} : Moves [.rt] s0 (State.mapTasks s0 a1) := by
  have e0 := @State.mapTasks.eq_def
  unfold State.mapTasks
  clear e0
  exact .with_rt (.refl ..)

theorem State.firstTurns_moves {s0 : State} : Moves [.rt] s0 (State.firstTurns s0) := by
  have e0 := @State.firstTurns.eq_def
  unfold State.firstTurns
  clear e0
  extract_lets +onlyGivenNames x1
  have h1 : Moves [.rt] s0 x1 := by
    unfold x1
    exact .step (.refl ..) State.mapTasks_moves
  clear_value x1
  exact .with_rt h1

theorem State.enterRun_moves {s0 : State} : Moves [.ledger, .rt] s0 (State.enterRun s0) := by
  have e0 := @State.enterRun.eq_def
  unfold State.enterRun
  clear e0
  extract_lets +onlyGivenNames x1
  have h1 : Moves [.ledger, .rt] s0 x1 := by
    unfold x1
    exact .step (.step (.refl ..) State.wr_moves) State.setMode_moves
  clear_value x1
  extract_lets +onlyGivenNames x2
  clear_value x2
  extract_lets +onlyGivenNames x3
  have h3 : Moves [.ledger, .rt] s0 x3 := by
    unfold x3
    exact .with_rt h1
  clear_value x3
  exact .step h3 State.firstTurns_moves

theorem State.enterStop_moves {s0 : State} {a1 : _} : Moves [.ledger, .rt] s0 (State.enterStop s0 a1) := by
  have e0 := @State.enterStop.eq_def
  unfold State.enterStop
  clear e0
  extract_lets +onlyGivenNames x1
  have h1 : Moves [.ledger, .rt] s0 x1 := by
    unfold x1
    exact .step (.step (.refl ..) State.wr_moves) State.wr_moves
  clear_value x1
  extract_lets +onlyGivenNames x2
  have h2 : Moves [.ledger, .rt] s0 x2 := by
    unfold x2
    exact .step (.step h1 State.wr_moves) State.setMode_moves
  clear_value x2
  exact .with_rt h2

theorem State.settleStop_moves {s0 : State} : Moves [.ledger, .rt] s0 (State.settleStop s0) := by
  have e0 := @State.settleStop.eq_def
  unfold State.settleStop
  clear e0
  refine .ite (fun _ => ?_) (fun _ => ?_)
  · exact .step (.refl ..) State.enterStop_moves
  · exact .refl ..

theorem State.effStop_moves {s0 : State} : Moves [.ledger, .rt] s0 (State.effStop s0) := by
  have e0 := @State.effStop.eq_def
  unfold State.effStop
  clear e0
  exact .step (.step (.refl ..) State.wr_moves) State.settleStop_moves

theorem State.stopNow_moves {s0 : State} {a1 : _} : Moves [.rt, .ledger] s0 (State.stopNow s0 a1) := by
  have e0 := @State.stopNow.eq_def
  unfold State.stopNow
  clear e0
  extract_lets +onlyGivenNames x1
  have h1 : Moves [.rt, .ledger] s0 x1 := by
    unfold x1
    exact .step (.refl ..) State.abandonWhere_moves
  clear_value x1
  refine .ite (fun _ => ?_) (fun _ => ?_)
  · exact h1
  · exact .step h1 State.enterStop_moves

theorem State.effContinue_moves {s0 : State} : Moves [.rt, .ledger] s0 (State.effContinue s0) := by
  have e0 := @State.effContinue.eq_def
  unfold State.effContinue
  clear e0
  extract_lets +onlyGivenNames x1
  have h1 : Moves [.rt, .ledger] s0 x1 := by
    unfold x1
    exact .step (.refl ..) State.mapTasks_moves
  clear_value x1
  extract_lets +onlyGivenNames x2
  clear_value x2
  extract_lets +onlyGivenNames x3
  have h3 : Moves [.rt, .ledger] s0 x3 := by
    unfold x3
    exact .with_rt h1
  clear_value x3
  exact .step (.step h3 State.wr_moves) State.setMode_moves

theorem State.effStep__moves {s0 : State} : Moves [.rt] s0 (State.effStep_ s0) := by
  have e0 := @State.effStep_.eq_def
  unfold State.effStep_
  clear e0
  extract_lets +onlyGivenNames x1
  clear_value x1
  refine .ite (fun _ => ?_) (fun _ => ?_)
  · exact .refl ..
  · extract_lets +onlyGivenNames x2
    clear_value x2
    exact .step (.refl ..) State.setTask_moves

theorem State.effCommand_moves {s0 : State} {a1 : _} : Moves [.ledger, .rt] s0 (State.effCommand s0 a1) := by
  have e0 := @State.effCommand.eq_def
  unfold State.effCommand
  clear e0
  split
  · rename_i y1
    exact .step (.refl ..) State.enterRun_moves
  · rename_i y2
    exact .step (.refl ..) State.effStop_moves
  · rename_i y3
    exact .step (.refl ..) State.stopNow_moves
  · rename_i y4
    exact .step (.refl ..) State.enterHold_moves
  · rename_i y5
    exact .step (.refl ..) State.effContinue_moves
  · rename_i y6
    exact .step (.refl ..) State.effStep__moves
  · rename_i y7 y8 y9 y10 y11 y12 y13
    exact .refl ..

theorem State.logForce_moves {s0 : State} {a1 a2 : _} : Moves [.ledger] s0 (State.logForce s0 a1 a2) := by
  have e0 := @State.logForce.eq_def
  unfold State.logForce
  clear e0
  exact .step (.refl ..) State.log_moves

theorem State.noteWritten_moves {s0 : State} {a1 a2 : _} : Moves [] s0 (State.noteWritten s0 a1 a2) := by
  have e0 := @State.noteWritten.eq_def
  unfold State.noteWritten
  clear e0
  split
  · rename_i y1 y2
    exact .refl ..
  · rename_i y3 y4 y5
    extract_lets +onlyGivenNames x6
    clear_value x6
    exact .step (.refl ..) State.wr_moves

theorem State.effForceActive_moves {s0 : State} {a1 a2 a3 : _} : Moves [.blocks, .ledger, .rt] s0 (State.effForceActive s0 a1 a2 a3) := by
  have e0 := @State.effForceActive.eq_def
  unfold State.effForceActive
  clear e0
  extract_lets +onlyGivenNames x1 x2 x3
  clear_value x1 x2 x3
  extract_lets +onlyGivenNames x4
  have h4 : Moves [.blocks, .ledger, .rt] s0 x4 := by
    unfold x4
    exact .step (.refl ..) State.wrR_moves
  clear_value x4
  refine .ite (fun _ => ?_) (fun _ => ?_)
  · exact .step (.step (.step h4 State.wrR_moves) State.noteWritten_moves) State.logForce_moves
  · refine .ite (fun _ => ?_) (fun _ => ?_)
    · extract_lets +onlyGivenNames x5
      clear_value x5
      extract_lets +onlyGivenNames x6
      have h6 : Moves [.blocks, .ledger, .rt] s0 x6 := by
        unfold x6
        refine .ite (fun _ => ?_) (fun _ => ?_)
        · exact .with_rt h4
        · exact h4
      clear_value x6
      exact .step (.step h6 State.wr_moves) State.logForce_moves
    · exact h4

theorem State.effForceClear_moves {s0 : State} {a1 : _} : Moves [.blocks, .ledger, .rt] s0 (State.effForceClear s0 a1) := by
  have e0 := @State.effForceClear.eq_def
  unfold State.effForceClear
  clear e0
  refine .foldl ?_ (fun y1 b3 hy2 => ?_)
  · exact .refl ..
  · exact .step hy2 State.effForceActive_moves

theorem State.effRetainReset_moves {s0 : State} : Moves [.rt] s0 (State.effRetainReset s0) := by
  have e0 := @State.effRetainReset.eq_def
  unfold State.effRetainReset
  clear e0
  split
  · rename_i y1 y2
    exact .refl ..
  · rename_i y3 y4 y5
    extract_lets +onlyGivenNames x6
    have h6 : Moves [.rt] s0 x6 := by
      unfold x6
      refine .foldl ?_ (fun y7 b9 hy8 => ?_)
      · exact .refl ..
      · exact .with_rt hy8
    clear_value x6
    refine .foldl ?_ (fun y10 b12 hy11 => ?_)
    · exact h6
    · exact .with_rt hy11

theorem State.effTaskStats_moves {s0 : State} {a1 : _} : Moves [] s0 (State.effTaskStats s0 a1) := by
  have e0 := @State.effTaskStats.eq_def
  unfold State.effTaskStats
  clear e0
  exact .step (.refl ..) State.clear_moves

theorem State.holdLimit_moves {s0 : State} : Moves [.rt, .ledger] s0 (State.holdLimit s0) := by
  have e0 := @State.holdLimit.eq_def
  unfold State.holdLimit
  clear e0
  split
  · rename_i y1 y2 y3
    refine .ite (fun _ => ?_) (fun _ => ?_)
    · exact .step (.refl ..) State.stopNow_moves
    · exact .refl ..
  · rename_i y4 y5
    exact .refl ..

theorem State.overrun_moves {s0 : State} {a1 a2 : _} : Moves [.ledger, .rt] s0 (State.overrun s0 a1 a2) := by
  have e0 := @State.overrun.eq_def
  unfold State.overrun
  clear e0
  extract_lets +onlyGivenNames x1
  clear_value x1
  extract_lets +onlyGivenNames x2
  have h2 : Moves [.ledger, .rt] s0 x2 := by
    unfold x2
    refine .ite (fun _ => ?_) (fun _ => ?_)
    · exact .refl ..
    · exact .step (.step (.refl ..) State.inc_moves) State.log_moves
  clear_value x2
  extract_lets +onlyGivenNames x3
  clear_value x3
  extract_lets +onlyGivenNames x4
  have h4 : Moves [.ledger, .rt] s0 x4 := by
    unfold x4
    exact .step (.step h2 State.setTask_moves) State.inc_moves
  clear_value x4
  extract_lets +onlyGivenNames x5
  clear_value x5
  refine .ite (fun _ => ?_) (fun _ => ?_)
  · exact .step h4 State.stopNow_moves
  · exact h4

theorem State.passRelease_moves {s0 : State} {a1 : _} : Moves [.rt] s0 (State.passRelease s0 a1) := by
  have e0 := @State.passRelease.eq_def
  unfold State.passRelease
  clear e0
  extract_lets +onlyGivenNames x1
  clear_value x1
  exact .step (.refl ..) State.setTask_moves

theorem State.queueErr_moves {s0 : State} {a1 a2 : _} : Moves [.rt, .ledger] s0 (State.queueErr s0 a1 a2) := by
  have e0 := @State.queueErr.eq_def
  unfold State.queueErr
  clear e0
  extract_lets +onlyGivenNames x1 x2
  clear_value x1 x2
  extract_lets +onlyGivenNames x3
  have h3 : Moves [.rt, .ledger] s0 x3 := by
    unfold x3
    refine .ite (fun _ => ?_) (fun _ => ?_)
    · exact .step (.refl ..) State.setTask_moves
    · exact .step (.step (.refl ..) State.setTask_moves) State.inc_moves
  clear_value x3
  extract_lets +onlyGivenNames x4
  have h4 : Moves [.rt, .ledger] s0 x4 := by
    unfold x4
    exact .step h3 State.wr_moves
  clear_value x4
  exact .step h4 State.log_moves

theorem State.retireWhere_moves {s0 : State} {k n : Nat} {p : RingEntry → Bool} : Moves [] s0 (s0.retireWhere k n p) := by
  have e0 := @State.retireWhere.eq_def
  unfold State.retireWhere
  clear e0
  extract_lets +onlyGivenNames r q
  refine Moves.step (State.setRing_moves fun hf => ?_) State.unstallAll_moves
  have key : ∀ (l : List RingEntry) (c : Nat) (m : List RingEntry), (l.foldl (fun (acc : Nat × List RingEntry) e =>
      if p e && decide (acc.1 < n) then (acc.1 + 1, acc.2) else (acc.1, acc.2 ++ [e])) (c, m)).2.length ≤ m.length + l.length := by
    intro l
    induction l with
    | nil => intro c m; simp
    | cons e l ih =>
      intro c m
      simp only [List.foldl_cons, List.length_cons]
      split
      · exact (ih _ _).trans (by omega)
      · refine (ih _ _).trans ?_
        simp only [List.length_append, List.length_singleton]; omega
  have h1 := key r.q 0 []
  have h2 := hf k
  simp only [State.fill] at h2
  simp only [List.length_nil, Nat.zero_add] at h1
  exact h1.trans h2

theorem State.retireTaken_moves {s0 : State} {a1 : _} : Moves [] s0 (State.retireTaken s0 a1) := by
  have e0 := @State.retireTaken.eq_def
  unfold State.retireTaken
  clear e0
  extract_lets +onlyGivenNames x1
  clear_value x1
  extract_lets +onlyGivenNames x2
  have h2 : Moves [] s0 x2 := by
    unfold x2
    exact .step (.refl ..) State.retireWhere_moves
  clear_value x2
  extract_lets +onlyGivenNames x3
  have h3 : Moves [] s0 x3 := by
    unfold x3
    split
    · rename_i y4 y5 y6
      exact .step (.step h2 State.retireWhere_moves) State.retireWhere_moves
    · rename_i y7 y8
      exact h2
  clear_value x3
  refine .foldl ?_ (fun y9 b11 hy10 => ?_)
  · exact h3
  · exact .step hy10 State.retireWhere_moves

theorem State.rollBack_moves {s0 : State} {a1 : _} : Moves [.rt] s0 (State.rollBack s0 a1) := by
  have e0 := @State.rollBack.eq_def
  unfold State.rollBack
  clear e0
  split
  · rename_i y1 y2
    exact .refl ..
  · rename_i y3 y4 y5
    extract_lets +onlyGivenNames x6
    clear_value x6
    extract_lets +onlyGivenNames x7
    have h7 : Moves [.rt] s0 x7 := by
      unfold x7
      exact .step (.step (.refl ..) State.wr_moves) State.setTask_moves
    clear_value x7
    extract_lets +onlyGivenNames x8
    have h8 : Moves [.rt] s0 x8 := by
      unfold x8
      split
      · rename_i y9 y10 y11
        exact .step h7 State.wr_moves
      · rename_i y12 y13
        exact h7
    clear_value x8
    exact .step h8 State.abandonTurn_moves

theorem State.taskRelease_moves {s0 : State} {a1 : _} : Moves [.rt, .ledger] s0 (State.taskRelease s0 a1) := by
  have e0 := @State.taskRelease.eq_def
  unfold State.taskRelease
  clear e0
  extract_lets +onlyGivenNames x1
  clear_value x1
  split
  · rename_i y2 y3
    exact .refl ..
  · rename_i y4 y5 y6
    refine .ite (fun _ => ?_) (fun _ => ?_)
    · exact .refl ..
    · refine .ite (fun _ => ?_) (fun _ => ?_)
      · exact .step (.step (.refl ..) State.passRelease_moves) State.inc_moves
      · refine .ite (fun _ => ?_) (fun _ => ?_)
        · exact .step (.step (.refl ..) State.passRelease_moves) State.inc_moves
        · split
          · rename_i y7 y8 y9
            exact .step (.refl ..) State.overrun_moves
          · rename_i y10 y11
            extract_lets +onlyGivenNames x12
            clear_value x12
            exact .step (.step (.refl ..) State.setTask_moves) State.wrT_moves

theorem State.turnStart_moves {s0 : State} {a1 : _} : Moves [.rt] s0 (State.turnStart s0 a1) := by
  have e0 := @State.turnStart.eq_def
  unfold State.turnStart
  clear e0
  extract_lets +onlyGivenNames x1
  clear_value x1
  split
  · rename_i y2 y3 y4 y5 y6 y7
    refine .ite (fun _ => ?_) (fun _ => ?_)
    · exact .refl ..
    · extract_lets +onlyGivenNames x8
      clear_value x8
      extract_lets +onlyGivenNames x9
      have h9 : Moves [.rt] s0 x9 := by
        unfold x9
        exact .step (.refl ..) State.raise_moves
      clear_value x9
      extract_lets +onlyGivenNames x10 x11 x12 x13 x14 x15 x16
      clear_value x10 x11 x12 x13 x14 x15 x16
      extract_lets +onlyGivenNames x17
      have h17 : Moves [.rt] s0 x17 := by
        unfold x17
        exact .step h9 State.setTask_moves
      clear_value x17
      extract_lets +onlyGivenNames x18
      have h18 : Moves [.rt] s0 x18 := by
        unfold x18
        exact .step h17 State.wr_moves
      clear_value x18
      exact .with_rt h18
  · rename_i y19 y20 y21
    exact .refl ..

/-! ## Machine/Ecx.lean -/

theorem State.setStation_moves {s0 : State} {a1 a2 : _} : Moves [.ecx] s0 (State.setStation s0 a1 a2) := by
  have e0 := @State.setStation.eq_def
  unfold State.setStation
  clear e0
  exact .with_ecx (.refl ..)

theorem State.acycResponse_moves {s0 : State} {a1 a2 : _} : Moves [.ecx] s0 (State.acycResponse s0 a1 a2) := by
  have e0 := @State.acycResponse.eq_def
  unfold State.acycResponse
  clear e0
  extract_lets +onlyGivenNames x1
  clear_value x1
  refine .ite (fun _ => ?_) (fun _ => ?_)
  · exact .step (.step (.refl ..) State.setStation_moves) State.place_moves
  · exact .refl ..

theorem State.acycTimeout_moves {s0 : State} {a1 : _} : Moves [.ecx] s0 (State.acycTimeout s0 a1) := by
  have e0 := @State.acycTimeout.eq_def
  unfold State.acycTimeout
  clear e0
  extract_lets +onlyGivenNames x1
  clear_value x1
  split
  · rename_i y2 y3 y4
    refine .ite (fun _ => ?_) (fun _ => ?_)
    · exact .step (.step (.refl ..) State.setStation_moves) State.place_moves
    · exact .refl ..
  · rename_i y5 y6
    exact .refl ..

theorem State.writeStationByte_moves {s0 : State} {a1 a2 a3 : _} : Moves [.ecx] s0 (State.writeStationByte s0 a1 a2 a3) := by
  have e0 := @State.writeStationByte.eq_def
  unfold State.writeStationByte
  clear e0
  extract_lets +onlyGivenNames x1
  clear_value x1
  exact .step (.refl ..) State.setStation_moves

theorem State.applyTriples_moves {s0 : State} {n : Nat} {b : List Byte} : Moves [.rt, .ecx] s0 (s0.applyTriples n b) := by
  fun_induction State.applyTriples s0 n b
  · rename_i ih
    exact Moves.step (Moves.step (.refl ..) State.writeStationByte_moves) ih
  · exact .refl ..

theorem State.substituteOutputs_moves {s0 : State} {a1 : _} : Moves [.ecx] s0 (State.substituteOutputs s0 a1) := by
  have e0 := @State.substituteOutputs.eq_def
  unfold State.substituteOutputs
  clear e0
  extract_lets +onlyGivenNames x1 x2
  clear_value x1 x2
  refine .foldl ?_ (fun y3 b5 hy4 => ?_)
  · exact .step (.refl ..) State.setStation_moves
  · exact .step hy4 State.writeStationByte_moves

theorem State.takeRioOut_moves {s0 : State} : Moves [.rt, .ecx] s0 (State.takeRioOut s0) := by
  have e0 := @State.takeRioOut.eq_def
  unfold State.takeRioOut
  clear e0
  extract_lets +onlyGivenNames x1
  clear_value x1
  refine .foldl ?_ (fun y2 b4 hy3 => ?_)
  · exact .step (.refl ..) State.emptyRing_moves
  · split
    · rename_i y5 y6 y7
      exact .step hy3 State.applyTriples_moves
    · rename_i y8 y9
      exact hy3

theorem State.stationErr_moves {s0 : State} {a1 a2 : _} : Moves [.rt, .ledger] s0 (State.stationErr s0 a1 a2) := by
  have e0 := @State.stationErr.eq_def
  unfold State.stationErr
  clear e0
  split
  · rename_i y1 y2
    exact .refl ..
  · rename_i y3 y4 y5
    refine .foldl ?_ (fun y6 b8 hy7 => ?_)
    · exact .refl ..
    · exact .step hy7 State.queueErr_moves

theorem State.dropout_moves {s0 : State} {a1 : _} : Moves [.ecx, .rt, .ledger] s0 (State.dropout s0 a1) := by
  have e0 := @State.dropout.eq_def
  unfold State.dropout
  clear e0
  extract_lets +onlyGivenNames x1
  have h1 : Moves [.ecx, .rt, .ledger] s0 x1 := by
    unfold x1
    exact .step (.step (.step (.refl ..) State.takeRioOut_moves) State.substituteOutputs_moves) State.inc_moves
  clear_value x1
  extract_lets +onlyGivenNames x2
  clear_value x2
  extract_lets +onlyGivenNames x3
  have h3 : Moves [.ecx, .rt, .ledger] s0 x3 := by
    unfold x3
    exact .step h1 State.setStation_moves
  clear_value x3
  exact .step h3 State.stationErr_moves

theorem State.setStationState_moves {s0 : State} {a1 a2 : _} : Moves [.ledger] s0 (State.setStationState s0 a1 a2) := by
  have e0 := @State.setStationState.eq_def
  unfold State.setStationState
  clear e0
  exact .step (.step (.refl ..) State.wr_moves) State.log_moves

theorem State.missCycle_moves {s0 : State} {a1 : _} : Moves [] s0 (State.missCycle s0 a1) := by
  have e0 := @State.missCycle.eq_def
  unfold State.missCycle
  clear e0
  exact .step (.step (.refl ..) State.inc_moves) State.inc_moves

theorem State.stationReturn_moves {s0 : State} {a1 : _} : Moves [.rt, .ledger, .ecx] s0 (State.stationReturn s0 a1) := by
  have e0 := @State.stationReturn.eq_def
  unfold State.stationReturn
  clear e0
  extract_lets +onlyGivenNames x1
  clear_value x1
  exact .step (.step (.refl ..) State.setStation_moves) State.stationErr_moves

theorem State.closeStation_moves {s0 : State} {a1 : _} : Moves [.ecx, .rt, .ledger] s0 (State.closeStation s0 a1) := by
  have e0 := @State.closeStation.eq_def
  unfold State.closeStation
  clear e0
  extract_lets +onlyGivenNames x1
  clear_value x1
  refine .ite (fun _ => ?_) (fun _ => ?_)
  · refine .ite (fun _ => ?_) (fun _ => ?_)
    · exact .refl ..
    · extract_lets +onlyGivenNames x2
      have h2 : Moves [.ecx, .rt, .ledger] s0 x2 := by
        unfold x2
        refine .ite (fun _ => ?_) (fun _ => ?_)
        · exact .step (.refl ..) State.dropout_moves
        · exact .refl ..
      clear_value x2
      exact .step (.step h2 State.wr_moves) State.setStationState_moves
  · refine .ite (fun _ => ?_) (fun _ => ?_)
    · exact .step (.step (.refl ..) State.setStation_moves) State.setStationState_moves
    · extract_lets +onlyGivenNames x3
      clear_value x3
      refine .ite (fun _ => ?_) (fun _ => ?_)
      · exact .refl ..
      · extract_lets +onlyGivenNames x4
        have h4 : Moves [.ecx, .rt, .ledger] s0 x4 := by
          unfold x4
          refine .ite (fun _ => ?_) (fun _ => ?_)
          · exact .step (.refl ..) State.inc_moves
          · exact .refl ..
        clear_value x4
        extract_lets +onlyGivenNames x5
        have h5 : Moves [.ecx, .rt, .ledger] s0 x5 := by
          unfold x5
          refine .ite (fun _ => ?_) (fun _ => ?_)
          · exact .step h4 State.wr_moves
          · exact .step h4 State.missCycle_moves
        clear_value x5
        extract_lets +onlyGivenNames x6
        clear_value x6
        split
        · rename_i y7 y8
          refine .ite (fun _ => ?_) (fun _ => ?_)
          · extract_lets +onlyGivenNames x9
            clear_value x9
            extract_lets +onlyGivenNames x10
            have h10 : Moves [.ecx, .rt, .ledger] s0 x10 := by
              unfold x10
              exact .step h5 State.setStation_moves
            clear_value x10
            refine .ite (fun _ => ?_) (fun _ => ?_)
            · exact .step (.step h10 State.stationReturn_moves) State.setStationState_moves
            · exact h10
          · extract_lets +onlyGivenNames x11
            have h11 : Moves [.ecx, .rt, .ledger] s0 x11 := by
              unfold x11
              exact .step h5 State.setStation_moves
            clear_value x11
            refine .ite (fun _ => ?_) (fun _ => ?_)
            · exact .step h11 State.setStationState_moves
            · exact h11
        · rename_i y12 y13
          refine .ite (fun _ => ?_) (fun _ => ?_)
          · exact .step (.step h5 State.dropout_moves) State.setStationState_moves
          · exact h5
        · rename_i y14 y15 y16
          refine .ite (fun _ => ?_) (fun _ => ?_)
          · exact .step (.step h5 State.setStation_moves) State.setStationState_moves
          · exact h5

theorem State.cycleClose_moves {s0 : State} : Moves [.ecx, .rt, .ledger] s0 (State.cycleClose s0) := by
  have e0 := @State.cycleClose.eq_def
  unfold State.cycleClose
  clear e0
  split
  · rename_i y1 y2 y3
    refine .ite (fun _ => ?_) (fun _ => ?_)
    · extract_lets +onlyGivenNames x4
      have h4 : Moves [.ecx, .rt, .ledger] s0 x4 := by
        unfold x4
        refine .foldl ?_ (fun y5 b7 hy6 => ?_)
        · exact .refl ..
        · exact .step hy6 State.closeStation_moves
      clear_value x4
      exact .with_ecx h4
    · exact .refl ..
  · rename_i y8 y9
    exact .refl ..

theorem State.cycleIn_moves {s0 : State} {a1 a2 a3 : _} : Moves [.ecx] s0 (State.cycleIn s0 a1 a2 a3) := by
  have e0 := @State.cycleIn.eq_def
  unfold State.cycleIn
  clear e0
  extract_lets +onlyGivenNames x1
  clear_value x1
  refine .ite (fun _ => ?_) (fun _ => ?_)
  · exact .refl ..
  · extract_lets +onlyGivenNames x2
    clear_value x2
    extract_lets +onlyGivenNames x3
    clear_value x3
    refine .ite (fun _ => ?_) (fun _ => ?_)
    · exact .refl ..
    · refine .ite (fun _ => ?_) (fun _ => ?_)
      · refine .ite (fun _ => ?_) (fun _ => ?_)
        · exact .step (.step (.refl ..) State.inc_moves) State.setStation_moves
        · exact .refl ..
      · refine .ite (fun _ => ?_) (fun _ => ?_)
        · refine .ite (fun _ => ?_) (fun _ => ?_)
          · exact .refl ..
          · exact .step (.step (.refl ..) State.inc_moves) State.setStation_moves
        · refine .ite (fun _ => ?_) (fun _ => ?_)
          · exact .refl ..
          · refine .ite (fun _ => ?_) (fun _ => ?_)
            · exact .step (.refl ..) State.setStation_moves
            · extract_lets +onlyGivenNames x4
              clear_value x4
              extract_lets +onlyGivenNames x5
              have h5 : Moves [.ecx] s0 x5 := by
                unfold x5
                exact .step (.refl ..) State.setStation_moves
              clear_value x5
              extract_lets +onlyGivenNames x6
              have h6 : Moves [.ecx] s0 x6 := by
                unfold x6
                exact .step h5 State.place_moves
              clear_value x6
              exact .step (.step h6 State.wr_moves) State.wrT_moves

theorem State.cycleOut_moves {s0 : State} {a1 : _} : Moves [.ecx] s0 (State.cycleOut s0 a1) := by
  have e0 := @State.cycleOut.eq_def
  unfold State.cycleOut
  clear e0
  extract_lets +onlyGivenNames x1 x2 x3
  clear_value x1 x2 x3
  refine .ite (fun _ => ?_) (fun _ => ?_)
  · exact .step (.refl ..) State.setStation_moves
  · extract_lets +onlyGivenNames x4
    clear_value x4
    extract_lets +onlyGivenNames x5 x6 x7
    clear_value x5 x6 x7
    extract_lets +onlyGivenNames x8
    have h8 : Moves [.ecx] s0 x8 := by
      unfold x8
      exact .step (.refl ..) State.setStation_moves
    clear_value x8
    exact .with_ecx h8

theorem State.sendEcx_moves {s0 : State} {a1 : _} : Moves [.net] s0 (State.sendEcx s0 a1) := by
  have e0 := @State.sendEcx.eq_def
  unfold State.sendEcx
  clear e0
  exact .step (.refl ..) State.emit_moves

theorem State.sendAcyc_moves {s0 : State} {a1 : _} : Moves [.net, .ecx] s0 (State.sendAcyc s0 a1) := by
  have e0 := @State.sendAcyc.eq_def
  unfold State.sendAcyc
  clear e0
  split
  · rename_i y1 y2 y3
    exact .step (.step (.refl ..) State.setStation_moves) State.sendEcx_moves
  · rename_i y4 y5
    exact .refl ..

theorem State.sendAcyclic_moves {s0 : State} : Moves [.net, .ecx] s0 (State.sendAcyclic s0) := by
  have e0 := @State.sendAcyclic.eq_def
  unfold State.sendAcyclic
  clear e0
  refine .foldl ?_ (fun y1 b3 hy2 => ?_)
  · exact .step (.refl ..) State.emptyRing_moves
  · exact .step hy2 State.sendAcyc_moves

theorem State.cycleStart_moves {s0 : State} : Moves [.rt, .ecx, .net] s0 (State.cycleStart s0) := by
  have e0 := @State.cycleStart.eq_def
  unfold State.cycleStart
  clear e0
  extract_lets +onlyGivenNames x1
  clear_value x1
  refine .ite (fun _ => ?_) (fun _ => ?_)
  · exact .refl ..
  · refine .ite (fun _ => ?_) (fun _ => ?_)
    · exact .step (.with_ecx (.refl ..)) State.wr_moves
    · refine .ite (fun _ => ?_) (fun _ => ?_)
      · exact .step (.with_ecx (.refl ..)) State.wr_moves
      · extract_lets +onlyGivenNames x2
        have h2 : Moves [.rt, .ecx, .net] s0 x2 := by
          unfold x2
          exact .step (.step (.refl ..) State.wr_moves) State.takeRioOut_moves
        clear_value x2
        extract_lets +onlyGivenNames x3
        have h3 : Moves [.rt, .ecx, .net] s0 x3 := by
          unfold x3
          exact .step h2 State.wr_moves
        clear_value x3
        extract_lets +onlyGivenNames x4 x5
        clear_value x4 x5
        extract_lets +onlyGivenNames x6
        have h6 : Moves [.rt, .ecx, .net] s0 x6 := by
          unfold x6
          exact .with_ecx h3
        clear_value x6
        extract_lets +onlyGivenNames x7
        have h7 : Moves [.rt, .ecx, .net] s0 x7 := by
          unfold x7
          refine .foldl ?_ (fun y8 b10 hy9 => ?_)
          · exact h6
          · exact .step hy9 State.cycleOut_moves
        clear_value x7
        extract_lets +onlyGivenNames x11
        have h11 : Moves [.rt, .ecx, .net] s0 x11 := by
          unfold x11
          refine .foldl ?_ (fun y12 b14 hy13 => ?_)
          · exact h7
          · exact .step hy13 State.sendEcx_moves
        clear_value x11
        exact .step h11 State.sendAcyclic_moves

theorem State.effAcyc_moves {s0 : State} {a1 a2 : _} : Moves [.ecx] s0 (State.effAcyc s0 a1 a2) := by
  have e0 := @State.effAcyc.eq_def
  unfold State.effAcyc
  clear e0
  extract_lets +onlyGivenNames x1
  have h1 : Moves [.ecx] s0 x1 := by
    unfold x1
    exact .step (.step (.refl ..) State.place_moves) State.wr_moves
  clear_value x1
  exact .step h1 State.setStation_moves

theorem State.effStationStats_moves {s0 : State} {a1 : _} : Moves [] s0 (State.effStationStats s0 a1) := by
  have e0 := @State.effStationStats.eq_def
  unfold State.effStationStats
  clear e0
  exact .step (.refl ..) State.clear_moves

theorem State.noteEcxCheck_moves {s0 : State} : Moves [] s0 (State.noteEcxCheck s0) := by
  have e0 := @State.noteEcxCheck.eq_def
  unfold State.noteEcxCheck
  clear e0
  exact .step (.step (.refl ..) State.wr_moves) State.wr_moves

theorem State.takeAcyc_moves {s0 : State} {a1 a2 : _} : Moves [] s0 (State.takeAcyc s0 a1 a2) := by
  have e0 := @State.takeAcyc.eq_def
  unfold State.takeAcyc
  clear e0
  split
  · rename_i y1 y2 y3
    extract_lets +onlyGivenNames x4
    have h4 : Moves [] s0 x4 := by
      unfold x4
      exact .step (.refl ..) State.wr_moves
    clear_value x4
    refine .ite (fun _ => ?_) (fun _ => ?_)
    · exact .step h4 State.wrB_moves
    · exact h4
  · rename_i y5
    exact .refl ..

/-! ## Machine/Can.lean -/

theorem State.setChan_moves {s0 : State} {a1 a2 : _} : Moves [.can] s0 (State.setChan s0 a1 a2) := by
  have e0 := @State.setChan.eq_def
  unfold State.setChan
  clear e0
  exact .with_can (.refl ..)

theorem State.overrunEvent_moves {s0 : State} {a1 : _} : Moves [.can] s0 (State.overrunEvent s0 a1) := by
  have e0 := @State.overrunEvent.eq_def
  unfold State.overrunEvent
  clear e0
  extract_lets +onlyGivenNames x1
  clear_value x1
  refine .ite (fun _ => ?_) (fun _ => ?_)
  · exact .step (.step (.refl ..) State.setChan_moves) State.place_moves
  · exact .refl ..

theorem State.rxq_moves {s0 : State} {a1 a2 : _} : Moves [.can] s0 (State.rxq s0 a1 a2).1 := by
  have e0 := @State.rxq.eq_def
  unfold State.rxq
  clear e0
  split
  · rename_i y1
    dsimp -zeta only
    exact .refl ..
  · rename_i y2
    split
    · rename_i y3 y4 y5 y6
      have h_y4 : Moves [.can] s0 y4 := by
        rw [show y4 = _ from (congrArg Prod.fst y6).symm]
        exact .step (.step (.refl ..) State.overrunEvent_moves) State.push_moves
      dsimp -zeta only
      exact h_y4

theorem State.acceptFrame_moves {s0 : State} {a1 a2 a3 : _} : Moves [.can] s0 (State.acceptFrame s0 a1 a2 a3) := by
  have e0 := @State.acceptFrame.eq_def
  unfold State.acceptFrame
  clear e0
  extract_lets +onlyGivenNames x1
  clear_value x1
  extract_lets +onlyGivenNames x2
  have h2 : Moves [.can] s0 x2 := by
    unfold x2
    exact .step (.refl ..) State.inc_moves
  clear_value x2
  extract_lets +onlyGivenNames x3
  have h3 : Moves [.can] s0 x3 := by
    unfold x3
    refine .ite (fun _ => ?_) (fun _ => ?_)
    · exact .step h2 State.inc_moves
    · exact h2
  clear_value x3
  extract_lets +onlyGivenNames x4
  refine .ite (fun _ => ?_) (fun _ => ?_)
  · extract_lets +onlyGivenNames x5
    clear_value x5
    refine .step ?_ State.inc_moves
    refine .step ?_ State.setChan_moves
    unfold x4
    exact .step h3 State.rxq_moves
  · unfold x4
    exact .step h3 State.rxq_moves

theorem State.setObj_moves {s0 : State} {a1 a2 a3 : _} : Moves [.can] s0 (State.setObj s0 a1 a2 a3) := by
  have e0 := @State.setObj.eq_def
  unfold State.setObj
  clear e0
  extract_lets +onlyGivenNames x1
  clear_value x1
  exact .step (.refl ..) State.setChan_moves

theorem State.endAttempt_moves {s0 : State} {a1 a2 a3 : _} : Moves [.can] s0 (State.endAttempt s0 a1 a2 a3) := by
  have e0 := @State.endAttempt.eq_def
  unfold State.endAttempt
  clear e0
  extract_lets +onlyGivenNames x1 x2
  clear_value x1 x2
  extract_lets +onlyGivenNames x3
  have h3 : Moves [.can] s0 x3 := by
    unfold x3
    exact .step (.refl ..) State.setObj_moves
  clear_value x3
  exact .step h3 State.setChan_moves

theorem State.dropFrame_moves {s0 : State} {a1 a2 a3 : _} : Moves [.can, .ledger] s0 (State.dropFrame s0 a1 a2 a3) := by
  have e0 := @State.dropFrame.eq_def
  unfold State.dropFrame
  clear e0
  extract_lets +onlyGivenNames x1
  clear_value x1
  extract_lets +onlyGivenNames x2
  have h2 : Moves [.can, .ledger] s0 x2 := by
    unfold x2
    exact .step (.refl ..) State.setObj_moves
  clear_value x2
  extract_lets +onlyGivenNames x3
  have h3 : Moves [.can, .ledger] s0 x3 := by
    unfold x3
    exact .step (.step h2 State.inc_moves) State.wr_moves
  clear_value x3
  extract_lets +onlyGivenNames x4
  clear_value x4
  extract_lets +onlyGivenNames x5
  have h5 : Moves [.can, .ledger] s0 x5 := by
    unfold x5
    exact .step h3 State.rxq_moves
  clear_value x5
  refine .ite (fun _ => ?_) (fun _ => ?_)
  · exact .step h5 State.log_moves
  · exact h5

theorem State.retry_moves {s0 : State} {a1 a2 a3 : _} : Moves [.can, .ledger] s0 (State.retry s0 a1 a2 a3) := by
  have e0 := @State.retry.eq_def
  unfold State.retry
  clear e0
  extract_lets +onlyGivenNames x1
  clear_value x1
  refine .ite (fun _ => ?_) (fun _ => ?_)
  · exact .step (.step (.refl ..) State.endAttempt_moves) State.inc_moves
  · refine .ite (fun _ => ?_) (fun _ => ?_)
    · exact .step (.step (.refl ..) State.endAttempt_moves) State.dropFrame_moves
    · refine .ite (fun _ => ?_) (fun _ => ?_)
      · exact .step (.step (.refl ..) State.endAttempt_moves) State.dropFrame_moves
      · exact .step (.refl ..) State.endAttempt_moves

theorem State.arbLost_moves {s0 : State} {a1 : _} : Moves [.can, .ledger] s0 (State.arbLost s0 a1) := by
  have e0 := @State.arbLost.eq_def
  unfold State.arbLost
  clear e0
  split
  · rename_i y1 y2
    exact .refl ..
  · rename_i y3 y4 y5
    split
    · rename_i y6 y7
      exact .refl ..
    · rename_i y8 y9 y10
      extract_lets +onlyGivenNames x11
      clear_value x11
      extract_lets +onlyGivenNames x12
      have h12 : Moves [.can, .ledger] s0 x12 := by
        unfold x12
        exact .step (.step (.refl ..) State.inc_moves) State.setObj_moves
      clear_value x12
      extract_lets +onlyGivenNames x13
      have h13 : Moves [.can, .ledger] s0 x13 := by
        unfold x13
        exact .step h12 State.retry_moves
      clear_value x13
      exact .step h13 State.setChan_moves

theorem State.canEvent_moves {s0 : State} {a1 a2 a3 : _} : Moves [.ledger, .can] s0 (State.canEvent s0 a1 a2 a3) := by
  have e0 := @State.canEvent.eq_def
  unfold State.canEvent
  clear e0
  extract_lets +onlyGivenNames x1
  clear_value x1
  exact .step (.step (.refl ..) State.rxq_moves) State.log_moves

theorem State.busOff_moves {s0 : State} {a1 : _} : Moves [.ledger, .can] s0 (State.busOff s0 a1) := by
  have e0 := @State.busOff.eq_def
  unfold State.busOff
  clear e0
  extract_lets +onlyGivenNames x1
  have h1 : Moves [.ledger, .can] s0 x1 := by
    unfold x1
    exact .step (.step (.step (.refl ..) State.wr_moves) State.inc_moves) State.wrT_moves
  clear_value x1
  exact .step h1 State.canEvent_moves

theorem State.offer_moves {s0 : State} {a1 : _} : Moves [.can] s0 (State.offer s0 a1) := by
  have e0 := @State.offer.eq_def
  unfold State.offer
  clear e0
  extract_lets +onlyGivenNames x1
  clear_value x1
  refine .ite (fun _ => ?_) (fun _ => ?_)
  · exact .refl ..
  · split
    · rename_i y2 y3
      exact .refl ..
    · rename_i y4 y5 y6
      extract_lets +onlyGivenNames x7
      clear_value x7
      extract_lets +onlyGivenNames x8
      have h8 : Moves [.can] s0 x8 := by
        unfold x8
        exact .step (.refl ..) State.setObj_moves
      clear_value x8
      exact .step h8 State.setChan_moves

theorem State.busRecovery_moves {s0 : State} {a1 : _} : Moves [.can, .ledger] s0 (State.busRecovery s0 a1) := by
  have e0 := @State.busRecovery.eq_def
  unfold State.busRecovery
  clear e0
  extract_lets +onlyGivenNames x1
  clear_value x1
  refine .ite (fun _ => ?_) (fun _ => ?_)
  · extract_lets +onlyGivenNames x2
    have h2 : Moves [.can, .ledger] s0 x2 := by
      unfold x2
      exact .step (.step (.step (.refl ..) State.wr_moves) State.wr_moves) State.wr_moves
    clear_value x2
    exact .step (.step h2 State.canEvent_moves) State.offer_moves
  · exact .refl ..

theorem State.canAbort_moves {s0 : State} {a1 a2 : _} : Moves [.can, .ledger] s0 (State.canAbort s0 a1 a2) := by
  have e0 := @State.canAbort.eq_def
  unfold State.canAbort
  clear e0
  extract_lets +onlyGivenNames x1
  clear_value x1
  split
  · rename_i y2 y3 y4
    refine .ite (fun _ => ?_) (fun _ => ?_)
    · exact .step (.refl ..) State.setObj_moves
    · exact .step (.refl ..) State.dropFrame_moves
  · rename_i y5 y6
    exact .step (.refl ..) State.rxq_moves

theorem State.canState_moves {s0 : State} {a1 : _} : Moves [.ledger, .can] s0 (State.canState s0 a1) := by
  have e0 := @State.canState.eq_def
  unfold State.canState
  clear e0
  extract_lets +onlyGivenNames x1 x2 x3
  clear_value x1 x2 x3
  extract_lets +onlyGivenNames x4
  have h4 : Moves [.ledger, .can] s0 x4 := by
    unfold x4
    exact .step (.refl ..) State.wr_moves
  clear_value x4
  refine .ite (fun _ => ?_) (fun _ => ?_)
  · exact .step h4 State.canEvent_moves
  · refine .ite (fun _ => ?_) (fun _ => ?_)
    · exact .step h4 State.rxq_moves
    · exact h4

theorem State.canReceived_moves {s0 : State} {a1 a2 : _} : Moves [.can, .ledger] s0 (State.canReceived s0 a1 a2) := by
  have e0 := @State.canReceived.eq_def
  unfold State.canReceived
  clear e0
  extract_lets +onlyGivenNames x1
  clear_value x1
  refine .ite (fun _ => ?_) (fun _ => ?_)
  · exact .refl ..
  · refine .ite (fun _ => ?_) (fun _ => ?_)
    · exact .step (.step (.refl ..) State.setChan_moves) State.inc_moves
    · extract_lets +onlyGivenNames x2
      have h2 : Moves [.can, .ledger] s0 x2 := by
        unfold x2
        exact .step (.refl ..) State.setChan_moves
      clear_value x2
      extract_lets +onlyGivenNames x3
      have h3 : Moves [.can, .ledger] s0 x3 := by
        unfold x3
        refine .ite (fun _ => ?_) (fun _ => ?_)
        · exact .step h2 State.inc_moves
        · exact h2
      clear_value x3
      extract_lets +onlyGivenNames x4
      have h4 : Moves [.can, .ledger] s0 x4 := by
        unfold x4
        refine .ite (fun _ => ?_) (fun _ => ?_)
        · exact .step h3 State.wr_moves
        · exact h3
      clear_value x4
      extract_lets +onlyGivenNames x5
      have h5 : Moves [.can, .ledger] s0 x5 := by
        unfold x5
        split
        · rename_i y6 y7 y8
          exact .step h4 State.acceptFrame_moves
        · rename_i y9 y10
          refine .ite (fun _ => ?_) (fun _ => ?_)
          · exact .step h4 State.acceptFrame_moves
          · exact .step h4 State.inc_moves
      clear_value x5
      exact .step (.step h5 State.canState_moves) State.offer_moves

theorem State.canRequest_moves {s0 : State} {a1 a2 : _} : Moves [.can, .ledger] s0 (State.canRequest s0 a1 a2) := by
  have e0 := @State.canRequest.eq_def
  unfold State.canRequest
  clear e0
  extract_lets +onlyGivenNames x1 x2 x3
  clear_value x1 x2 x3
  refine .ite (fun _ => ?_) (fun _ => ?_)
  · exact .refl ..
  · refine .ite (fun _ => ?_) (fun _ => ?_)
    · exact .step (.refl ..) State.dropFrame_moves
    · refine .ite (fun _ => ?_) (fun _ => ?_)
      · exact .step (.refl ..) State.dropFrame_moves
      · split
        · rename_i y4 y5 y6
          refine .ite (fun _ => ?_) (fun _ => ?_)
          · exact .step (.refl ..) State.setObj_moves
          · exact .step (.step (.refl ..) State.setObj_moves) State.inc_moves
        · rename_i y7 y8
          exact .step (.step (.refl ..) State.setObj_moves) State.offer_moves

theorem State.canRelease_moves {s0 : State} {a1 a2 : _} : Moves [.can, .ledger] s0 (State.canRelease s0 a1 a2) := by
  have e0 := @State.canRelease.eq_def
  unfold State.canRelease
  clear e0
  extract_lets +onlyGivenNames x1
  clear_value x1
  refine .ite (fun _ => ?_) (fun _ => ?_)
  · exact .step (.refl ..) State.canRequest_moves
  · exact .refl ..

theorem State.canSent_moves {s0 : State} {a1 a2 : _} : Moves [.can, .ledger] s0 (State.canSent s0 a1 a2) := by
  have e0 := @State.canSent.eq_def
  unfold State.canSent
  clear e0
  split
  · rename_i y1 y2
    exact .refl ..
  · rename_i y3 y4 y5
    extract_lets +onlyGivenNames x6 x7
    clear_value x6 x7
    extract_lets +onlyGivenNames x8
    have h8 : Moves [.can, .ledger] s0 x8 := by
      unfold x8
      exact .step (.step (.step (.refl ..) State.inc_moves) State.wr_moves) State.wrT_moves
    clear_value x8
    extract_lets +onlyGivenNames x9
    have h9 : Moves [.can, .ledger] s0 x9 := by
      unfold x9
      exact .step (.step h8 State.inc_moves) State.wr_moves
    clear_value x9
    extract_lets +onlyGivenNames x10
    have h10 : Moves [.can, .ledger] s0 x10 := by
      unfold x10
      refine .ite (fun _ => ?_) (fun _ => ?_)
      · exact .step h9 State.wr_moves
      · exact h9
    clear_value x10
    extract_lets +onlyGivenNames x11
    have h11 : Moves [.can, .ledger] s0 x11 := by
      unfold x11
      refine .ite (fun _ => ?_) (fun _ => ?_)
      · exact .step h10 State.rxq_moves
      · exact h10
    clear_value x11
    extract_lets +onlyGivenNames x12
    clear_value x12
    extract_lets +onlyGivenNames x13
    have h13 : Moves [.can, .ledger] s0 x13 := by
      unfold x13
      exact .step h11 State.setObj_moves
    clear_value x13
    exact .step (.step (.step h13 State.endAttempt_moves) State.canState_moves) State.offer_moves

theorem State.effCanStats_moves {s0 : State} {a1 : _} : Moves [] s0 (State.effCanStats s0 a1) := by
  have e0 := @State.effCanStats.eq_def
  unfold State.effCanStats
  clear e0
  exact .step (.refl ..) State.clear_moves

theorem State.effObjSend_moves {s0 : State} {a1 a2 a3 : _} : Moves [] s0 (State.effObjSend s0 a1 a2 a3) := by
  have e0 := @State.effObjSend.eq_def
  unfold State.effObjSend
  clear e0
  exact .step (.refl ..) State.place_moves

theorem State.effObjStats_moves {s0 : State} {a1 a2 : _} : Moves [] s0 (State.effObjStats s0 a1 a2) := by
  have e0 := @State.effObjStats.eq_def
  unfold State.effObjStats
  clear e0
  exact .step (.refl ..) State.clear_moves

theorem State.integration_moves {s0 : State} {a1 : _} : Moves [.can, .ledger] s0 (State.integration s0 a1) := by
  have e0 := @State.integration.eq_def
  unfold State.integration
  clear e0
  extract_lets +onlyGivenNames x1
  clear_value x1
  refine .ite (fun _ => ?_) (fun _ => ?_)
  · exact .refl ..
  · extract_lets +onlyGivenNames x2
    have h2 : Moves [.can, .ledger] s0 x2 := by
      unfold x2
      exact .step (.step (.refl ..) State.setChan_moves) State.wr_moves
    clear_value x2
    exact .step (.step (.step h2 State.wr_moves) State.canState_moves) State.offer_moves

theorem State.lifetimeExpiry_moves {s0 : State} {a1 a2 : _} : Moves [.can, .ledger] s0 (State.lifetimeExpiry s0 a1 a2) := by
  have e0 := @State.lifetimeExpiry.eq_def
  unfold State.lifetimeExpiry
  clear e0
  split
  · rename_i y1 y2 y3
    refine .ite (fun _ => ?_) (fun _ => ?_)
    · exact .step (.refl ..) State.dropFrame_moves
    · exact .refl ..
  · rename_i y4 y5
    exact .refl ..

theorem State.modeEffect_moves {s0 : State} {a1 : _} : Moves [.can, .ledger] s0 (State.modeEffect s0 a1) := by
  have e0 := @State.modeEffect.eq_def
  unfold State.modeEffect
  clear e0
  extract_lets +onlyGivenNames x1 x2 x3
  clear_value x1 x2 x3
  refine .ite (fun _ => ?_) (fun _ => ?_)
  · exact .step (.step (.refl ..) State.setChan_moves) State.offer_moves
  · refine .ite (fun _ => ?_) (fun _ => ?_)
    · exact .step (.step (.refl ..) State.setChan_moves) State.wr_moves
    · refine .ite (fun _ => ?_) (fun _ => ?_)
      · extract_lets +onlyGivenNames x4
        have h4 : Moves [.can, .ledger] s0 x4 := by
          unfold x4
          exact .step (.refl ..) State.setChan_moves
        clear_value x4
        exact .step (.step h4 State.wr_moves) State.wr_moves
      · exact .step (.step (.step (.refl ..) State.setChan_moves) State.canState_moves) State.offer_moves

theorem State.noteTiming_moves {s0 : State} {a1 a2 : _} : Moves [] s0 (State.noteTiming s0 a1 a2) := by
  have e0 := @State.noteTiming.eq_def
  unfold State.noteTiming
  clear e0
  refine .ite (fun _ => ?_) (fun _ => ?_)
  · exact .step (.refl ..) State.wr_moves
  · exact .refl ..

theorem State.reportCollision_moves {s0 : State} {a1 a2 : _} : Moves [.can, .ledger] s0 (State.reportCollision s0 a1 a2) := by
  have e0 := @State.reportCollision.eq_def
  unfold State.reportCollision
  clear e0
  extract_lets +onlyGivenNames x1
  clear_value x1
  extract_lets +onlyGivenNames x2
  have h2 : Moves [.can, .ledger] s0 x2 := by
    unfold x2
    exact .step (.step (.refl ..) State.wr_moves) State.inc_moves
  clear_value x2
  extract_lets +onlyGivenNames x3
  clear_value x3
  extract_lets +onlyGivenNames x4
  have h4 : Moves [.can, .ledger] s0 x4 := by
    unfold x4
    exact .step h2 State.rxq_moves
  clear_value x4
  extract_lets +onlyGivenNames x5
  clear_value x5
  refine .ite (fun _ => ?_) (fun _ => ?_)
  · exact h4
  · exact .step (.step h4 State.setChan_moves) State.log_moves

theorem State.rxError_moves {s0 : State} {a1 a2 a3 : _} : Moves [.can, .ledger] s0 (State.rxError s0 a1 a2 a3) := by
  have e0 := @State.rxError.eq_def
  unfold State.rxError
  clear e0
  extract_lets +onlyGivenNames x1
  clear_value x1
  refine .ite (fun _ => ?_) (fun _ => ?_)
  · exact .refl ..
  · extract_lets +onlyGivenNames x2
    have h2 : Moves [.can, .ledger] s0 x2 := by
      unfold x2
      exact .step (.refl ..) State.setChan_moves
    clear_value x2
    extract_lets +onlyGivenNames x3
    have h3 : Moves [.can, .ledger] s0 x3 := by
      unfold x3
      exact .step (.step h2 State.inc_moves) State.wr_moves
    clear_value x3
    extract_lets +onlyGivenNames x4
    have h4 : Moves [.can, .ledger] s0 x4 := by
      unfold x4
      refine .ite (fun _ => ?_) (fun _ => ?_)
      · exact .step h3 State.wr_moves
      · exact h3
    clear_value x4
    exact .step (.step h4 State.canState_moves) State.offer_moves

theorem State.serveRxq_moves {s0 : State} {a1 : _} : Moves [.can] s0 (State.serveRxq s0 a1) := by
  have e0 := @State.serveRxq.eq_def
  unfold State.serveRxq
  clear e0
  refine .ite (fun _ => ?_) (fun _ => ?_)
  · exact .refl ..
  · extract_lets +onlyGivenNames x1
    clear_value x1
    refine .foldl ?_ (fun y2 b4 hy3 => ?_)
    · exact .step (.step (.refl ..) State.emptyRing_moves) State.overrunEvent_moves
    · split
      · rename_i y5 y6
        refine .ite (fun _ => ?_) (fun _ => ?_)
        · exact .step hy3 State.wrB_moves
        · exact hy3
      · rename_i y7 y8
        exact hy3

theorem State.setImage_moves {s0 : State} {a1 a2 a3 : _} : Moves [.can] s0 (State.setImage s0 a1 a2 a3) := by
  have e0 := @State.setImage.eq_def
  unfold State.setImage
  clear e0
  extract_lets +onlyGivenNames x1
  clear_value x1
  exact .step (.refl ..) State.setObj_moves

theorem State.setXcvr_moves {s0 : State} {a1 a2 : _} : Moves [.ledger, .can] s0 (State.setXcvr s0 a1 a2) := by
  have e0 := @State.setXcvr.eq_def
  unfold State.setXcvr
  clear e0
  extract_lets +onlyGivenNames x1 x2
  clear_value x1 x2
  extract_lets +onlyGivenNames x3
  have h3 : Moves [.ledger, .can] s0 x3 := by
    unfold x3
    exact .step (.step (.refl ..) State.wr_moves) State.addTo_moves
  clear_value x3
  refine .foldl ?_ (fun y4 b6 hy5 => ?_)
  · exact h3
  · exact .step hy5 State.canEvent_moves

theorem State.stopObject_moves {s0 : State} {a1 a2 : _} : Moves [.can] s0 (State.stopObject s0 a1 a2) := by
  have e0 := @State.stopObject.eq_def
  unfold State.stopObject
  clear e0
  exact .step (.refl ..) State.setObj_moves

theorem State.takeTxq_moves {s0 : State} {a1 a2 : _} : Moves [.can, .ledger] s0 (State.takeTxq s0 a1 a2) := by
  have e0 := @State.takeTxq.eq_def
  unfold State.takeTxq
  clear e0
  split
  · rename_i y1 y2 y3 y4
    refine .ite (fun _ => ?_) (fun _ => ?_)
    · exact .refl ..
    · extract_lets +onlyGivenNames x5
      have h5 : Moves [.can, .ledger] s0 x5 := by
        unfold x5
        exact .step (.refl ..) State.pop_moves
      clear_value x5
      refine .ite (fun _ => ?_) (fun _ => ?_)
      · exact .step h5 State.inc_moves
      · split
        · rename_i y6 y7
          exact .step (.step h5 State.setImage_moves) State.canRequest_moves
        · rename_i y8 y9
          exact .step h5 State.setImage_moves
        · rename_i y10 y11 y12
          exact .step h5 State.canAbort_moves
  · rename_i y13 y14
    exact .refl ..

theorem State.txError_moves {s0 : State} {a1 a2 a3 a4 : _} : Moves [.can, .ledger] s0 (State.txError s0 a1 a2 a3 a4) := by
  have e0 := @State.txError.eq_def
  unfold State.txError
  clear e0
  split
  · rename_i y1 y2
    exact .refl ..
  · rename_i y3 y4 y5
    split
    · rename_i y6 y7
      exact .refl ..
    · rename_i y8 y9 y10
      extract_lets +onlyGivenNames x11
      have h11 : Moves [.can, .ledger] s0 x11 := by
        unfold x11
        exact .step (.step (.step (.refl ..) State.inc_moves) State.wr_moves) State.wr_moves
      clear_value x11
      extract_lets +onlyGivenNames x12 x13
      clear_value x12 x13
      extract_lets +onlyGivenNames x14
      have h14 : Moves [.can, .ledger] s0 x14 := by
        unfold x14
        exact .step h11 State.setObj_moves
      clear_value x14
      extract_lets +onlyGivenNames x15
      have h15 : Moves [.can, .ledger] s0 x15 := by
        unfold x15
        refine .ite (fun _ => ?_) (fun _ => ?_)
        · exact .step h14 State.reportCollision_moves
        · exact h14
      clear_value x15
      refine .ite (fun _ => ?_) (fun _ => ?_)
      · exact .step (.step h15 State.retry_moves) State.busOff_moves
      · extract_lets +onlyGivenNames x16
        clear_value x16
        extract_lets +onlyGivenNames x17
        have h17 : Moves [.can, .ledger] s0 x17 := by
          unfold x17
          refine .ite (fun _ => ?_) (fun _ => ?_)
          · exact .step h15 State.inc_moves
          · exact h15
        clear_value x17
        extract_lets +onlyGivenNames x18
        have h18 : Moves [.can, .ledger] s0 x18 := by
          unfold x18
          refine .ite (fun _ => ?_) (fun _ => ?_)
          · exact .step (.step h15 State.endAttempt_moves) State.dropFrame_moves
          · exact .step h17 State.retry_moves
        clear_value x18
        exact .step (.step h18 State.canState_moves) State.offer_moves

theorem State.txdTimeout_moves {s0 : State} {a1 : _} : Moves [.ledger, .can] s0 (State.txdTimeout s0 a1) := by
  have e0 := @State.txdTimeout.eq_def
  unfold State.txdTimeout
  clear e0
  exact .step (.refl ..) State.setXcvr_moves

theorem State.xcvrMeasure_moves {s0 : State} {a1 a2 : _} : Moves [.ledger, .can] s0 (State.xcvrMeasure s0 a1 a2) := by
  have e0 := @State.xcvrMeasure.eq_def
  unfold State.xcvrMeasure
  clear e0
  extract_lets +onlyGivenNames x1
  have h1 : Moves [.ledger, .can] s0 x1 := by
    unfold x1
    exact .step (.step (.refl ..) State.wr_moves) State.wr_moves
  clear_value x1
  exact .step h1 State.setXcvr_moves

end Sys2Proof.Machine
end

