-- ==== Sys2Proof/Laws/MovesField.lean ====
section
/-!
SUPPORT. Laws/MovesField.lean: what each operation of the field side, motion and the safety functions may change: one lemma per operation (`Moves`).
-/
set_option linter.unusedVariables false
set_option Elab.async false
namespace Sys2Proof.Machine

/-! ## Machine/Field.lean -/

theorem State.applyProfiles_moves {s0 : State} : Moves [.field] s0 (State.applyProfiles s0) := by
  have e0 := @State.applyProfiles.eq_def
  unfold State.applyProfiles
  clear e0
  extract_lets +onlyGivenNames x1
  clear_value x1
  exact .with_field (.refl ..)

theorem State.fieldDiag_moves {s0 : State} {a1 a2 a3 a4 : _} : Moves [.field] s0 (State.fieldDiag s0 a1 a2 a3 a4) := by
  have e0 := @State.fieldDiag.eq_def
  unfold State.fieldDiag
  clear e0
  extract_lets +onlyGivenNames x1
  clear_value x1
  exact .with_field (.refl ..)

theorem State.setDout_moves {s0 : State} {a1 a2 : _} : Moves [.field] s0 (State.setDout s0 a1 a2) := by
  have e0 := @State.setDout.eq_def
  unfold State.setDout
  clear e0
  exact .with_field (.refl ..)

theorem State.showDiag_moves {s0 : State} {a1 : _} : Moves [] s0 (State.showDiag s0 a1) := by
  have e0 := @State.showDiag.eq_def
  unfold State.showDiag
  clear e0
  extract_lets +onlyGivenNames x1
  have h1 : Moves [] s0 x1 := by
    unfold x1
    exact .step (.refl ..) State.wr_moves
  clear_value x1
  exact .step h1 State.wr_moves

theorem State.setDoDiag_moves {s0 : State} {a1 a2 a3 a4 a5 : _} : Moves [.field] s0 (State.setDoDiag s0 a1 a2 a3 a4 a5) := by
  have e0 := @State.setDoDiag.eq_def
  unfold State.setDoDiag
  clear e0
  extract_lets +onlyGivenNames x1
  clear_value x1
  refine .ite (fun _ => ?_) (fun _ => ?_)
  · exact .refl ..
  · extract_lets +onlyGivenNames x2
    have h2 : Moves [.field] s0 x2 := by
      unfold x2
      exact .step (.step (.refl ..) State.setDout_moves) State.showDiag_moves
    clear_value x2
    refine .ite (fun _ => ?_) (fun _ => ?_)
    · exact h2
    · exact .step h2 State.fieldDiag_moves

theorem State.refreshDo_moves {s0 : State} {a1 : _} : Moves [.field] s0 (State.refreshDo s0 a1) := by
  have e0 := @State.refreshDo.eq_def
  unfold State.refreshDo
  clear e0
  extract_lets +onlyGivenNames x1
  have h1 : Moves [.field] s0 x1 := by
    unfold x1
    exact .step (.refl ..) State.wr_moves
  clear_value x1
  extract_lets +onlyGivenNames x2
  clear_value x2
  refine .ite (fun _ => ?_) (fun _ => ?_)
  · exact h1
  · exact .step (.step h1 State.setDout_moves) State.inc_moves

theorem State.leaveTrip_moves {s0 : State} {a1 : _} : Moves [.field] s0 (State.leaveTrip s0 a1) := by
  have e0 := @State.leaveTrip.eq_def
  unfold State.leaveTrip
  clear e0
  extract_lets +onlyGivenNames x1
  have h1 : Moves [.field] s0 x1 := by
    unfold x1
    refine .foldl ?_ (fun y2 b4 hy3 => ?_)
    · exact .refl ..
    · extract_lets +onlyGivenNames x5
      clear_value x5
      extract_lets +onlyGivenNames x6
      have h6 : Moves [.field] s0 x6 := by
        unfold x6
        exact .step hy3 State.setDout_moves
      clear_value x6
      extract_lets +onlyGivenNames x7
      clear_value x7
      extract_lets +onlyGivenNames x8
      have h8 : Moves [.field] s0 x8 := by
        unfold x8
        exact .step h6 State.setDoDiag_moves
      clear_value x8
      exact .step h8 State.setDoDiag_moves
  clear_value x1
  refine .foldl ?_ (fun y9 b11 hy10 => ?_)
  · exact h1
  · exact .step hy10 State.refreshDo_moves

theorem State.autoRetry_moves {s0 : State} {a1 : _} : Moves [.field] s0 (State.autoRetry s0 a1) := by
  have e0 := @State.autoRetry.eq_def
  unfold State.autoRetry
  clear e0
  extract_lets +onlyGivenNames x1 x2
  clear_value x1 x2
  refine .ite (fun _ => ?_) (fun _ => ?_)
  · exact .step (.step (.refl ..) State.leaveTrip_moves) State.fieldDiag_moves
  · exact .refl ..

theorem State.demag_moves {s0 : State} {a1 a2 : _} : Moves [.field] s0 (State.demag s0 a1 a2) := by
  have e0 := @State.demag.eq_def
  unfold State.demag
  clear e0
  extract_lets +onlyGivenNames x1
  have h1 : Moves [.field] s0 x1 := by
    unfold x1
    exact .step (.refl ..) State.wr_moves
  clear_value x1
  extract_lets +onlyGivenNames x2
  clear_value x2
  exact .step h1 State.setDoDiag_moves

theorem State.setDiDiag_moves {s0 : State} {a1 a2 a3 : _} : Moves [.field] s0 (State.setDiDiag s0 a1 a2 a3) := by
  have e0 := @State.setDiDiag.eq_def
  unfold State.setDiDiag
  clear e0
  extract_lets +onlyGivenNames x1
  clear_value x1
  refine .ite (fun _ => ?_) (fun _ => ?_)
  · exact .refl ..
  · exact .step (.step (.refl ..) State.wr_moves) State.fieldDiag_moves

theorem State.diOpenWire_moves {s0 : State} {a1 a2 : _} : Moves [.field] s0 (State.diOpenWire s0 a1 a2) := by
  have e0 := @State.diOpenWire.eq_def
  unfold State.diOpenWire
  clear e0
  refine .ite (fun _ => ?_) (fun _ => ?_)
  · exact .refl ..
  · exact .step (.refl ..) State.setDiDiag_moves

theorem State.doOffVoltage_moves {s0 : State} {a1 a2 : _} : Moves [.field] s0 (State.doOffVoltage s0 a1 a2) := by
  have e0 := @State.doOffVoltage.eq_def
  unfold State.doOffVoltage
  clear e0
  refine .ite (fun _ => ?_) (fun _ => ?_)
  · exact .refl ..
  · exact .step (.refl ..) State.setDoDiag_moves

theorem State.doOpenOff_moves {s0 : State} {a1 a2 : _} : Moves [.field] s0 (State.doOpenOff s0 a1 a2) := by
  have e0 := @State.doOpenOff.eq_def
  unfold State.doOpenOff
  clear e0
  refine .ite (fun _ => ?_) (fun _ => ?_)
  · exact .refl ..
  · exact .step (.refl ..) State.setDoDiag_moves

theorem State.doOpenOn_moves {s0 : State} {a1 a2 : _} : Moves [.field] s0 (State.doOpenOn s0 a1 a2) := by
  have e0 := @State.doOpenOn.eq_def
  unfold State.doOpenOn
  clear e0
  refine .ite (fun _ => ?_) (fun _ => ?_)
  · exact .refl ..
  · exact .step (.refl ..) State.setDoDiag_moves

theorem State.trip_moves {s0 : State} {a1 a2 : _} : Moves [.field] s0 (State.trip s0 a1 a2) := by
  have e0 := @State.trip.eq_def
  unfold State.trip
  clear e0
  extract_lets +onlyGivenNames x1
  clear_value x1
  refine .ite (fun _ => ?_) (fun _ => ?_)
  · exact .refl ..
  · extract_lets +onlyGivenNames x2
    clear_value x2
    extract_lets +onlyGivenNames x3 x4
    clear_value x3 x4
    extract_lets +onlyGivenNames x5
    have h5 : Moves [.field] s0 x5 := by
      unfold x5
      refine .foldl ?_ (fun y6 b8 hy7 => ?_)
      · exact .refl ..
      · exact .step hy7 State.setDout_moves
    clear_value x5
    extract_lets +onlyGivenNames x9
    have h9 : Moves [.field] s0 x9 := by
      unfold x9
      exact .step h5 State.inc_moves
    clear_value x9
    extract_lets +onlyGivenNames x10
    have h10 : Moves [.field] s0 x10 := by
      unfold x10
      refine .foldl ?_ (fun y11 b13 hy12 => ?_)
      · exact h9
      · exact .step hy12 State.refreshDo_moves
    clear_value x10
    refine .ite (fun _ => ?_) (fun _ => ?_)
    · exact .step h10 State.fieldDiag_moves
    · exact h10

theorem State.doOverload_moves {s0 : State} {a1 a2 a3 : _} : Moves [.field] s0 (State.doOverload s0 a1 a2 a3) := by
  have e0 := @State.doOverload.eq_def
  unfold State.doOverload
  clear e0
  refine .ite (fun _ => ?_) (fun _ => ?_)
  · exact .refl ..
  · extract_lets +onlyGivenNames x1
    clear_value x1
    extract_lets +onlyGivenNames x2
    have h2 : Moves [.field] s0 x2 := by
      unfold x2
      refine .ite (fun _ => ?_) (fun _ => ?_)
      · exact .step (.refl ..) State.setDoDiag_moves
      · exact .refl ..
    clear_value x2
    exact .step (.step h2 State.setDoDiag_moves) State.trip_moves

theorem State.doOvertemp_moves {s0 : State} {a1 a2 : _} : Moves [.field] s0 (State.doOvertemp s0 a1 a2) := by
  have e0 := @State.doOvertemp.eq_def
  unfold State.doOvertemp
  clear e0
  extract_lets +onlyGivenNames x1
  have h1 : Moves [.field] s0 x1 := by
    unfold x1
    exact .step (.refl ..) State.setDoDiag_moves
  clear_value x1
  refine .ite (fun _ => ?_) (fun _ => ?_)
  · exact .step h1 State.trip_moves
  · exact h1

theorem State.effDiStats_moves {s0 : State} {a1 : _} : Moves [] s0 (State.effDiStats s0 a1) := by
  have e0 := @State.effDiStats.eq_def
  unfold State.effDiStats
  clear e0
  exact .step (.refl ..) State.clear_moves

theorem State.effDoStats_moves {s0 : State} {a1 : _} : Moves [] s0 (State.effDoStats s0 a1) := by
  have e0 := @State.effDoStats.eq_def
  unfold State.effDoStats
  clear e0
  exact .step (.refl ..) State.clear_moves

theorem State.effGrpStats_moves {s0 : State} : Moves [] s0 (State.effGrpStats s0) := by
  have e0 := @State.effGrpStats.eq_def
  unfold State.effGrpStats
  clear e0
  exact .step (.refl ..) State.clear_moves

theorem State.effTripReset_moves {s0 : State} {a1 a2 : _} : Moves [.field] s0 (State.effTripReset s0 a1 a2) := by
  have e0 := @State.effTripReset.eq_def
  unfold State.effTripReset
  clear e0
  refine .ite (fun _ => ?_) (fun _ => ?_)
  · exact .refl ..
  · exact .with_field (.refl ..)

theorem State.groupChange_moves {s0 : State} {a1 a2 : _} : Moves [.field] s0 (State.groupChange s0 a1 a2) := by
  have e0 := @State.groupChange.eq_def
  unfold State.groupChange
  clear e0
  extract_lets +onlyGivenNames x1
  clear_value x1
  refine .ite (fun _ => ?_) (fun _ => ?_)
  · exact .refl ..
  · extract_lets +onlyGivenNames x2
    have h2 : Moves [.field] s0 x2 := by
      unfold x2
      exact .step (.refl ..) State.wr_moves
    clear_value x2
    extract_lets +onlyGivenNames x3
    have h3 : Moves [.field] s0 x3 := by
      unfold x3
      refine .ite (fun _ => ?_) (fun _ => ?_)
      · exact .step h2 State.inc_moves
      · exact h2
    clear_value x3
    extract_lets +onlyGivenNames x4
    have h4 : Moves [.field] s0 x4 := by
      unfold x4
      exact .step h3 State.fieldDiag_moves
    clear_value x4
    refine .foldl ?_ (fun y5 b7 hy6 => ?_)
    · exact h4
    · extract_lets +onlyGivenNames x8
      clear_value x8
      extract_lets +onlyGivenNames x9
      have h9 : Moves [.field] s0 x9 := by
        unfold x9
        exact .step hy6 State.setDoDiag_moves
      clear_value x9
      extract_lets +onlyGivenNames x10
      have h10 : Moves [.field] s0 x10 := by
        unfold x10
        refine .ite (fun _ => ?_) (fun _ => ?_)
        · exact .step (.step h9 State.setDoDiag_moves) State.setDoDiag_moves
        · exact h9
      clear_value x10
      extract_lets +onlyGivenNames x11
      have h11 : Moves [.field] s0 x11 := by
        unfold x11
        refine .ite (fun _ => ?_) (fun _ => ?_)
        · exact .step h10 State.trip_moves
        · exact h10
      clear_value x11
      exact .step h11 State.refreshDo_moves

theorem State.refreshDos_moves {s0 : State} : Moves [.field] s0 (State.refreshDos s0) := by
  have e0 := @State.refreshDos.eq_def
  unfold State.refreshDos
  clear e0
  refine .foldl ?_ (fun y1 b3 hy2 => ?_)
  · exact .refl ..
  · exact .step hy2 State.refreshDo_moves

theorem State.sampleDi_moves {s0 : State} {a1 a2 : _} : Moves [.field] s0 (State.sampleDi s0 a1 a2) := by
  have e0 := @State.sampleDi.eq_def
  unfold State.sampleDi
  clear e0
  refine .ite (fun _ => ?_) (fun _ => ?_)
  · exact .refl ..
  · extract_lets +onlyGivenNames x1
    clear_value x1
    exact .with_field (.refl ..)

theorem State.shareFault_moves {s0 : State} {a1 a2 : _} : Moves [.field] s0 (State.shareFault s0 a1 a2) := by
  have e0 := @State.shareFault.eq_def
  unfold State.shareFault
  clear e0
  refine .ite (fun _ => ?_) (fun _ => ?_)
  · exact .refl ..
  · exact .step (.refl ..) State.setDoDiag_moves

theorem State.showDi_moves {s0 : State} : Moves [.field] s0 (State.showDi s0) := by
  have e0 := @State.showDi.eq_def
  unfold State.showDi
  clear e0
  refine .foldl ?_ (fun y1 b3 hy2 => ?_)
  · exact .refl ..
  · extract_lets +onlyGivenNames x4
    clear_value x4
    refine .ite (fun _ => ?_) (fun _ => ?_)
    · exact hy2
    · extract_lets +onlyGivenNames x5
      clear_value x5
      extract_lets +onlyGivenNames x6
      have h6 : Moves [.field] s0 x6 := by
        unfold x6
        exact .with_field hy2
      clear_value x6
      extract_lets +onlyGivenNames x7
      have h7 : Moves [.field] s0 x7 := by
        unfold x7
        exact .step (.step h6 State.wr_moves) State.addTo_moves
      clear_value x7
      exact .step h7 State.wrT_moves

theorem State.showField_moves {s0 : State} : Moves [] s0 (State.showField s0) := by
  have e0 := @State.showField.eq_def
  unfold State.showField
  clear e0
  extract_lets +onlyGivenNames x1
  clear_value x1
  exact .step (.refl ..) State.wr_moves

theorem State.tripReset_moves {s0 : State} {a1 : _} : Moves [.field] s0 (State.tripReset s0 a1) := by
  have e0 := @State.tripReset.eq_def
  unfold State.tripReset
  clear e0
  extract_lets +onlyGivenNames x1
  clear_value x1
  refine .ite (fun _ => ?_) (fun _ => ?_)
  · exact .refl ..
  · exact .step (.refl ..) State.leaveTrip_moves

theorem State.takeResets_moves {s0 : State} : Moves [.field] s0 (State.takeResets s0) := by
  have e0 := @State.takeResets.eq_def
  unfold State.takeResets
  clear e0
  extract_lets +onlyGivenNames x1 x2
  clear_value x1 x2
  extract_lets +onlyGivenNames x3
  have h3 : Moves [.field] s0 x3 := by
    unfold x3
    exact .with_field (.refl ..)
  clear_value x3
  refine .ite (fun _ => ?_) (fun _ => ?_)
  · refine .foldl ?_ (fun y4 b6 hy5 => ?_)
    · exact h3
    · exact .step hy5 State.tripReset_moves
  · exact h3

/-! ## Machine/Analog.lean -/

theorem State.setAin_moves {s0 : State} {a1 a2 : _} : Moves [.field] s0 (State.setAin s0 a1 a2) := by
  have e0 := @State.setAin.eq_def
  unfold State.setAin
  clear e0
  exact .with_field (.refl ..)

theorem State.showAi_moves {s0 : State} {a1 : _} : Moves [.field] s0 (State.showAi s0 a1) := by
  have e0 := @State.showAi.eq_def
  unfold State.showAi
  clear e0
  extract_lets +onlyGivenNames x1 x2 x3
  clear_value x1 x2 x3
  extract_lets +onlyGivenNames x4
  have h4 : Moves [.field] s0 x4 := by
    unfold x4
    refine .ite (fun _ => ?_) (fun _ => ?_)
    · exact .step (.refl ..) State.inc_moves
    · exact .refl ..
  clear_value x4
  extract_lets +onlyGivenNames x5
  have h5 : Moves [.field] s0 x5 := by
    unfold x5
    exact .step (.step h4 State.wr_moves) State.wr_moves
  clear_value x5
  refine .ite (fun _ => ?_) (fun _ => ?_)
  · exact h5
  · exact .step h5 State.fieldDiag_moves

theorem State.setAiDiag_moves {s0 : State} {a1 a2 a3 a4 : _} : Moves [.field] s0 (State.setAiDiag s0 a1 a2 a3 a4) := by
  have e0 := @State.setAiDiag.eq_def
  unfold State.setAiDiag
  clear e0
  extract_lets +onlyGivenNames x1
  clear_value x1
  refine .ite (fun _ => ?_) (fun _ => ?_)
  · exact .refl ..
  · extract_lets +onlyGivenNames x2
    have h2 : Moves [.field] s0 x2 := by
      unfold x2
      exact .step (.refl ..) State.setAin_moves
    clear_value x2
    extract_lets +onlyGivenNames x3
    have h3 : Moves [.field] s0 x3 := by
      unfold x3
      refine .ite (fun _ => ?_) (fun _ => ?_)
      · exact .step h2 State.inc_moves
      · exact h2
    clear_value x3
    exact .step (.step h3 State.showAi_moves) State.fieldDiag_moves

theorem State.noteLimit_moves {s0 : State} {a1 a2 : _} : Moves [.field] s0 (State.noteLimit s0 a1 a2) := by
  have e0 := @State.noteLimit.eq_def
  unfold State.noteLimit
  clear e0
  extract_lets +onlyGivenNames x1
  clear_value x1
  refine .ite (fun _ => ?_) (fun _ => ?_)
  · exact .step (.step (.refl ..) State.setAin_moves) State.setAiDiag_moves
  · split
    · rename_i y2 y3 y4
      refine .ite (fun _ => ?_) (fun _ => ?_)
      · exact .step (.step (.refl ..) State.setAin_moves) State.setAiDiag_moves
      · exact .refl ..
    · rename_i y5 y6
      exact .refl ..

theorem State.setTarget_moves {s0 : State} {a1 a2 : _} : Moves [] s0 (State.setTarget s0 a1 a2) := by
  have e0 := @State.setTarget.eq_def
  unfold State.setTarget
  clear e0
  exact .step (.refl ..) State.wr_moves

theorem State.retarget_moves {s0 : State} {a1 : _} : Moves [.field] s0 (State.retarget s0 a1) := by
  have e0 := @State.retarget.eq_def
  unfold State.retarget
  clear e0
  extract_lets +onlyGivenNames x1
  clear_value x1
  refine .ite (fun _ => ?_) (fun _ => ?_)
  · exact .step (.step (.refl ..) State.wr_moves) State.noteLimit_moves
  · refine .ite (fun _ => ?_) (fun _ => ?_)
    · exact .step (.step (.refl ..) State.wr_moves) State.noteLimit_moves
    · refine .ite (fun _ => ?_) (fun _ => ?_)
      · exact .refl ..
      · extract_lets +onlyGivenNames x2
        clear_value x2
        exact .step (.step (.refl ..) State.setTarget_moves) State.noteLimit_moves

theorem State.aiConversion_moves {s0 : State} {a1 a2 : _} : Moves [.field] s0 (State.aiConversion s0 a1 a2) := by
  have e0 := @State.aiConversion.eq_def
  unfold State.aiConversion
  clear e0
  refine .ite (fun _ => ?_) (fun _ => ?_)
  · exact .refl ..
  · extract_lets +onlyGivenNames x1
    clear_value x1
    extract_lets +onlyGivenNames x2 x3 x4 x5 x6
    clear_value x2 x3 x4 x5 x6
    extract_lets +onlyGivenNames x7
    have h7 : Moves [.field] s0 x7 := by
      unfold x7
      exact .step (.refl ..) State.setAin_moves
    clear_value x7
    extract_lets +onlyGivenNames x8
    have h8 : Moves [.field] s0 x8 := by
      unfold x8
      exact .step (.step h7 State.wr_moves) State.wr_moves
    clear_value x8
    extract_lets +onlyGivenNames x9
    clear_value x9
    exact .step (.step (.step h8 State.wr_moves) State.retarget_moves) State.showAi_moves

theorem State.aiOpenWire_moves {s0 : State} {a1 a2 : _} : Moves [.field] s0 (State.aiOpenWire s0 a1 a2) := by
  have e0 := @State.aiOpenWire.eq_def
  unfold State.aiOpenWire
  clear e0
  refine .ite (fun _ => ?_) (fun _ => ?_)
  · exact .refl ..
  · exact .step (.refl ..) State.setAiDiag_moves

theorem State.aiReversed_moves {s0 : State} {a1 a2 : _} : Moves [.field] s0 (State.aiReversed s0 a1 a2) := by
  have e0 := @State.aiReversed.eq_def
  unfold State.aiReversed
  clear e0
  exact .step (.step (.refl ..) State.setAin_moves) State.showAi_moves

theorem State.aiShort_moves {s0 : State} {a1 a2 : _} : Moves [.field] s0 (State.aiShort s0 a1 a2) := by
  have e0 := @State.aiShort.eq_def
  unfold State.aiShort
  clear e0
  extract_lets +onlyGivenNames x1
  have h1 : Moves [.field] s0 x1 := by
    unfold x1
    exact .step (.refl ..) State.setAiDiag_moves
  clear_value x1
  exact .step h1 State.setAin_moves

theorem State.aiSupplyOff_moves {s0 : State} {a1 : _} : Moves [.field] s0 (State.aiSupplyOff s0 a1) := by
  have e0 := @State.aiSupplyOff.eq_def
  unfold State.aiSupplyOff
  clear e0
  extract_lets +onlyGivenNames x1
  clear_value x1
  split
  · rename_i y2 y3 y4
    refine .ite (fun _ => ?_) (fun _ => ?_)
    · exact .step (.step (.refl ..) State.setAin_moves) State.showAi_moves
    · exact .refl ..
  · rename_i y5 y6
    exact .refl ..

theorem State.aiThermal_moves {s0 : State} {a1 a2 : _} : Moves [.field] s0 (State.aiThermal s0 a1 a2) := by
  have e0 := @State.aiThermal.eq_def
  unfold State.aiThermal
  clear e0
  extract_lets +onlyGivenNames x1
  clear_value x1
  split
  · rename_i y2
    exact .step (.step (.step (.refl ..) State.setAin_moves) State.setAiDiag_moves) State.showAi_moves
  · rename_i y3
    refine .ite (fun _ => ?_) (fun _ => ?_)
    · exact .refl ..
    · exact .step (.step (.step (.refl ..) State.setAin_moves) State.setAiDiag_moves) State.retarget_moves
  · rename_i y4
    exact .refl ..
  · rename_i y5 y6 y7 y8
    exact .step (.step (.step (.step (.refl ..) State.setAin_moves) State.retarget_moves) State.setAiDiag_moves) State.showAi_moves

theorem State.setAout_moves {s0 : State} {a1 a2 : _} : Moves [.field] s0 (State.setAout s0 a1 a2) := by
  have e0 := @State.setAout.eq_def
  unfold State.setAout
  clear e0
  exact .with_field (.refl ..)

theorem State.setAoDiag_moves {s0 : State} {a1 a2 a3 a4 : _} : Moves [.field] s0 (State.setAoDiag s0 a1 a2 a3 a4) := by
  have e0 := @State.setAoDiag.eq_def
  unfold State.setAoDiag
  clear e0
  extract_lets +onlyGivenNames x1
  clear_value x1
  refine .ite (fun _ => ?_) (fun _ => ?_)
  · exact .refl ..
  · extract_lets +onlyGivenNames x2
    clear_value x2
    exact .step (.step (.step (.refl ..) State.setAout_moves) State.wr_moves) State.fieldDiag_moves

theorem State.aoCommand_moves {s0 : State} {a1 a2 : _} : Moves [.field] s0 (State.aoCommand s0 a1 a2) := by
  have e0 := @State.aoCommand.eq_def
  unfold State.aoCommand
  clear e0
  refine .ite (fun _ => ?_) (fun _ => ?_)
  · exact .step (.refl ..) State.setAoDiag_moves
  · extract_lets +onlyGivenNames x1
    have h1 : Moves [.field] s0 x1 := by
      unfold x1
      exact .step (.refl ..) State.setAoDiag_moves
    clear_value x1
    extract_lets +onlyGivenNames x2
    clear_value x2
    extract_lets +onlyGivenNames x3
    have h3 : Moves [.field] s0 x3 := by
      unfold x3
      exact .step h1 State.setAoDiag_moves
    clear_value x3
    exact .step h3 State.wr_moves

theorem State.aoCompliance_moves {s0 : State} {a1 a2 : _} : Moves [.field] s0 (State.aoCompliance s0 a1 a2) := by
  have e0 := @State.aoCompliance.eq_def
  unfold State.aoCompliance
  clear e0
  refine .ite (fun _ => ?_) (fun _ => ?_)
  · exact .refl ..
  · extract_lets +onlyGivenNames x1
    have h1 : Moves [.field] s0 x1 := by
      unfold x1
      refine .ite (fun _ => ?_) (fun _ => ?_)
      · exact .step (.refl ..) State.inc_moves
      · exact .refl ..
    clear_value x1
    exact .step h1 State.setAoDiag_moves

theorem State.aoOpenWire_moves {s0 : State} {a1 a2 : _} : Moves [.field] s0 (State.aoOpenWire s0 a1 a2) := by
  have e0 := @State.aoOpenWire.eq_def
  unfold State.aoOpenWire
  clear e0
  refine .ite (fun _ => ?_) (fun _ => ?_)
  · exact .refl ..
  · extract_lets +onlyGivenNames x1
    have h1 : Moves [.field] s0 x1 := by
      unfold x1
      refine .ite (fun _ => ?_) (fun _ => ?_)
      · exact .step (.refl ..) State.setAoDiag_moves
      · exact .refl ..
    clear_value x1
    exact .step h1 State.setAoDiag_moves

theorem State.refreshAo_moves {s0 : State} {a1 : _} : Moves [.field] s0 (State.refreshAo s0 a1) := by
  have e0 := @State.refreshAo.eq_def
  unfold State.refreshAo
  clear e0
  exact .step (.step (.refl ..) State.setAout_moves) State.wr_moves

theorem State.aoOvertemp_moves {s0 : State} {a1 a2 : _} : Moves [.field] s0 (State.aoOvertemp s0 a1 a2) := by
  have e0 := @State.aoOvertemp.eq_def
  unfold State.aoOvertemp
  clear e0
  exact .step (.step (.refl ..) State.setAoDiag_moves) State.refreshAo_moves

theorem State.aoRailFault_moves {s0 : State} {a1 : _} : Moves [.field] s0 (State.aoRailFault s0 a1) := by
  have e0 := @State.aoRailFault.eq_def
  unfold State.aoRailFault
  clear e0
  refine .ite (fun _ => ?_) (fun _ => ?_)
  · exact .refl ..
  · extract_lets +onlyGivenNames x1
    have h1 : Moves [.field] s0 x1 := by
      unfold x1
      refine .foldl ?_ (fun y2 b4 hy3 => ?_)
      · exact .refl ..
      · extract_lets +onlyGivenNames x5
        clear_value x5
        exact .step (.step hy3 State.setAout_moves) State.wr_moves
    clear_value x1
    exact .step h1 State.fieldDiag_moves

theorem State.applySupplies_moves {s0 : State} : Moves [.field] s0 (State.applySupplies s0) := by
  have e0 := @State.applySupplies.eq_def
  unfold State.applySupplies
  clear e0
  extract_lets +onlyGivenNames x1
  clear_value x1
  exact .with_field (.refl ..)

theorem State.showAnalog_moves {s0 : State} : Moves [] s0 (State.showAnalog s0) := by
  have e0 := @State.showAnalog.eq_def
  unfold State.showAnalog
  clear e0
  extract_lets +onlyGivenNames x1
  clear_value x1
  extract_lets +onlyGivenNames x2
  have h2 : Moves [] s0 x2 := by
    unfold x2
    exact .step (.refl ..) State.wr_moves
  clear_value x2
  exact .step h2 State.wr_moves

theorem State.showAis_moves {s0 : State} : Moves [.field] s0 (State.showAis s0) := by
  have e0 := @State.showAis.eq_def
  unfold State.showAis
  clear e0
  refine .foldl ?_ (fun y1 b3 hy2 => ?_)
  · exact .refl ..
  · exact .step hy2 State.showAi_moves

theorem State.bypassCloses_moves {s0 : State} : Moves [.field] s0 (State.bypassCloses s0) := by
  have e0 := @State.bypassCloses.eq_def
  unfold State.bypassCloses
  clear e0
  exact .step (.step (.with_field (.refl ..)) State.showAis_moves) State.showAnalog_moves

theorem State.bypassOpens_moves {s0 : State} : Moves [.field] s0 (State.bypassOpens s0) := by
  have e0 := @State.bypassOpens.eq_def
  unfold State.bypassOpens
  clear e0
  refine .ite (fun _ => ?_) (fun _ => ?_)
  · exact .refl ..
  · extract_lets +onlyGivenNames x1
    clear_value x1
    extract_lets +onlyGivenNames x2
    have h2 : Moves [.field] s0 x2 := by
      unfold x2
      exact .with_field (.refl ..)
    clear_value x2
    extract_lets +onlyGivenNames x3
    have h3 : Moves [.field] s0 x3 := by
      unfold x3
      refine .foldl ?_ (fun y4 b6 hy5 => ?_)
      · exact h2
      · exact .step hy5 State.setAin_moves
    clear_value x3
    exact .step (.step h3 State.showAis_moves) State.showAnalog_moves

theorem State.effAiStats_moves {s0 : State} {a1 : _} : Moves [] s0 (State.effAiStats s0 a1) := by
  have e0 := @State.effAiStats.eq_def
  unfold State.effAiStats
  clear e0
  exact .step (.refl ..) State.clear_moves

theorem State.effAoReading_moves {s0 : State} {a1 a2 : _} : Moves [.field] s0 (State.effAoReading s0 a1 a2) := by
  have e0 := @State.effAoReading.eq_def
  unfold State.effAoReading
  clear e0
  extract_lets +onlyGivenNames x1
  clear_value x1
  split
  · rename_i y2 y3 y4
    refine .ite (fun _ => ?_) (fun _ => ?_)
    · exact .step (.step (.refl ..) State.setAout_moves) State.wr_moves
    · exact .step (.refl ..) State.setAout_moves
  · rename_i y5 y6
    exact .refl ..

theorem State.effAoStats_moves {s0 : State} {a1 : _} : Moves [] s0 (State.effAoStats s0 a1) := by
  have e0 := @State.effAoStats.eq_def
  unfold State.effAoStats
  clear e0
  exact .step (.refl ..) State.clear_moves

theorem State.logTrim_moves {s0 : State} {a1 a2 a3 a4 a5 a6 a7 : _} : Moves [.ledger] s0 (State.logTrim s0 a1 a2 a3 a4 a5 a6 a7) := by
  have e0 := @State.logTrim.eq_def
  unfold State.logTrim
  clear e0
  exact .step (.refl ..) State.log_moves

theorem State.effAoTrim_moves {s0 : State} {a1 a2 a3 a4 : _} : Moves [.field, .ledger, .blocks] s0 (State.effAoTrim s0 a1 a2 a3 a4) := by
  have e0 := @State.effAoTrim.eq_def
  unfold State.effAoTrim
  clear e0
  extract_lets +onlyGivenNames x1
  clear_value x1
  split
  · rename_i y2
    exact .step (.step (.step (.refl ..) State.setAout_moves) State.wr_moves) State.refreshAo_moves
  · rename_i y3
    exact .step (.step (.refl ..) State.setAout_moves) State.refreshAo_moves
  · rename_i y4
    split
    · rename_i y5 y6 y7 y8 y9 y10 y11
      extract_lets +onlyGivenNames x12 x13 x14
      clear_value x12 x13 x14
      extract_lets +onlyGivenNames x15
      have h15 : Moves [.field, .ledger, .blocks] s0 x15 := by
        unfold x15
        exact .step (.refl ..) State.setAout_moves
      clear_value x15
      extract_lets +onlyGivenNames x16
      have h16 : Moves [.field, .ledger, .blocks] s0 x16 := by
        unfold x16
        exact .step h15 State.logTrim_moves
      clear_value x16
      extract_lets +onlyGivenNames x17
      have h17 : Moves [.field, .ledger, .blocks] s0 x17 := by
        unfold x17
        refine .ite (fun _ => ?_) (fun _ => ?_)
        · exact .step (.step (.step h16 State.wrR_moves) State.wrR_moves) State.wr_moves
        · exact .step h15 State.wr_moves
      clear_value x17
      exact .step h17 State.refreshAo_moves
    · rename_i y18 y19
      exact .refl ..
  · rename_i y20 y21 y22 y23
    exact .step (.step (.step (.refl ..) State.setAout_moves) State.wr_moves) State.refreshAo_moves

theorem State.effTrimCapture_moves {s0 : State} {a1 a2 a3 a4 : _} : Moves [.field] s0 (State.effTrimCapture s0 a1 a2 a3 a4) := by
  have e0 := @State.effTrimCapture.eq_def
  unfold State.effTrimCapture
  clear e0
  extract_lets +onlyGivenNames x1
  clear_value x1
  split
  · rename_i y2
    exact .step (.step (.refl ..) State.setAin_moves) State.wr_moves
  · rename_i y3
    exact .step (.refl ..) State.setAin_moves
  · rename_i y4 y5 y6
    exact .step (.step (.refl ..) State.setAin_moves) State.wr_moves

theorem State.measureAo_moves {s0 : State} {a1 a2 : _} : Moves [] s0 (State.measureAo s0 a1 a2) := by
  have e0 := @State.measureAo.eq_def
  unfold State.measureAo
  clear e0
  extract_lets +onlyGivenNames x1
  have h1 : Moves [] s0 x1 := by
    unfold x1
    refine .foldl ?_ (fun y2 b4 hy3 => ?_)
    · exact .refl ..
    · refine .ite (fun _ => ?_) (fun _ => ?_)
      · exact .step (.step hy3 State.wr_moves) State.wr_moves
      · exact hy3
  clear_value x1
  extract_lets +onlyGivenNames x5
  have h5 : Moves [] s0 x5 := by
    unfold x5
    refine .foldl ?_ (fun y6 b8 hy7 => ?_)
    · exact h1
    · exact .step hy7 State.wr_moves
  clear_value x5
  extract_lets +onlyGivenNames x9 x10
  clear_value x9 x10
  extract_lets +onlyGivenNames x11
  have h11 : Moves [] s0 x11 := by
    unfold x11
    exact .step (.step h5 State.wr_moves) State.wr_moves
  clear_value x11
  exact .step h11 State.wr_moves

theorem State.refreshAos_moves {s0 : State} : Moves [.field] s0 (State.refreshAos s0) := by
  have e0 := @State.refreshAos.eq_def
  unfold State.refreshAos
  clear e0
  refine .foldl ?_ (fun y1 b3 hy2 => ?_)
  · exact .refl ..
  · exact .step hy2 State.refreshAo_moves

theorem State.shedField_moves {s0 : State} : Moves [.field, .blocks] s0 (State.shedField s0) := by
  have e0 := @State.shedField.eq_def
  unfold State.shedField
  clear e0
  refine .ite (fun _ => ?_) (fun _ => ?_)
  · exact .refl ..
  · exact .step (.step (.step (.step (.with_field (.refl ..)) State.incR_moves) State.showAis_moves) State.refreshAos_moves) State.showAnalog_moves

theorem State.supplyRetry_moves {s0 : State} {a1 : _} : Moves [.field] s0 (State.supplyRetry s0 a1) := by
  have e0 := @State.supplyRetry.eq_def
  unfold State.supplyRetry
  clear e0
  extract_lets +onlyGivenNames x1
  clear_value x1
  split
  · rename_i y2 y3 y4
    refine .ite (fun _ => ?_) (fun _ => ?_)
    · extract_lets +onlyGivenNames x5
      have h5 : Moves [.field] s0 x5 := by
        unfold x5
        exact .step (.refl ..) State.setAin_moves
      clear_value x5
      exact .step (.step (.step h5 State.retarget_moves) State.showAi_moves) State.fieldDiag_moves
    · exact .refl ..
  · rename_i y6 y7
    exact .refl ..

theorem State.takeAi_moves {s0 : State} {a1 : _} : Moves [] s0 (State.takeAi s0 a1) := by
  have e0 := @State.takeAi.eq_def
  unfold State.takeAi
  clear e0
  refine .ite (fun _ => ?_) (fun _ => ?_)
  · exact .refl ..
  · refine .foldl ?_ (fun y1 b3 hy2 => ?_)
    · exact .refl ..
    · exact .step hy2 State.wr_moves

theorem State.trimPointDone_moves {s0 : State} {a1 : _} : Moves [.field, .ledger, .blocks] s0 (State.trimPointDone s0 a1) := by
  have e0 := @State.trimPointDone.eq_def
  unfold State.trimPointDone
  clear e0
  extract_lets +onlyGivenNames x1
  clear_value x1
  split
  · rename_i y2 y3
    exact .refl ..
  · rename_i y4 y5 y6
    refine .ite (fun _ => ?_) (fun _ => ?_)
    · exact .refl ..
    · refine .ite (fun _ => ?_) (fun _ => ?_)
      · exact .step (.step (.refl ..) State.setAin_moves) State.wr_moves
      · extract_lets +onlyGivenNames x7
        clear_value x7
        split
        · rename_i y8 y9 y10 y11 y12
          extract_lets +onlyGivenNames x13 x14
          clear_value x13 x14
          extract_lets +onlyGivenNames x15
          have h15 : Moves [.field, .ledger, .blocks] s0 x15 := by
            unfold x15
            exact .step (.refl ..) State.setAin_moves
          clear_value x15
          refine .ite (fun _ => ?_) (fun _ => ?_)
          · extract_lets +onlyGivenNames x16
            have h16 : Moves [.field, .ledger, .blocks] s0 x16 := by
              unfold x16
              exact .step h15 State.logTrim_moves
            clear_value x16
            exact .step (.step (.step h16 State.wrR_moves) State.wrR_moves) State.wr_moves
          · exact .step h15 State.wr_moves
        · rename_i y17 y18 y19
          exact .step (.step (.refl ..) State.setAin_moves) State.wr_moves

/-! ## Machine/Motion.lean -/

theorem State.decideAbort_moves {s0 : State} {a1 a2 a3 : _} : Moves [.answer, .eop] s0 (State.decideAbort s0 a1 a2 a3) := by
  have e0 := @State.decideAbort.eq_def
  unfold State.decideAbort
  clear e0
  refine .ite (fun _ => ?_) (fun _ => ?_)
  · exact .refl ..
  · exact .with_odStatus_eop (.refl ..)

theorem State.dropCmd_moves {s0 : State} {a1 a2 : _} : Moves [.answer, .eop] s0 (State.dropCmd s0 a1 a2) := by
  have e0 := @State.dropCmd.eq_def
  unfold State.dropCmd
  clear e0
  refine .ite (fun _ => ?_) (fun _ => ?_)
  · exact .step (.refl ..) State.decideAbort_moves
  · exact .refl ..

theorem State.setAx_moves {s0 : State} {a1 a2 : _} : Moves [.motion] s0 (State.setAx s0 a1 a2) := by
  have e0 := @State.setAx.eq_def
  unfold State.setAx
  clear e0
  exact .with_motion (.refl ..)

theorem State.motionEvt_moves {s0 : State} {a1 a2 a3 a4 a5 a6 : _} : Moves [.field] s0 (State.motionEvt s0 a1 a2 a3 a4 a5 a6) := by
  have e0 := @State.motionEvt.eq_def
  unfold State.motionEvt
  clear e0
  extract_lets +onlyGivenNames x1 x2 x3
  clear_value x1 x2 x3
  exact .with_field (.refl ..)

theorem State.result_moves {s0 : State} {a1 a2 a3 a4 : _} : Moves [.motion, .field] s0 (State.result s0 a1 a2 a3 a4) := by
  have e0 := @State.result.eq_def
  unfold State.result
  clear e0
  extract_lets +onlyGivenNames x1
  clear_value x1
  extract_lets +onlyGivenNames x2
  have h2 : Moves [.motion, .field] s0 x2 := by
    unfold x2
    exact .step (.refl ..) State.setAx_moves
  clear_value x2
  exact .step h2 State.motionEvt_moves

theorem State.refuse_moves {s0 : State} {a1 a2 a3 : _} : Moves [.motion, .field] s0 (State.refuse s0 a1 a2 a3) := by
  have e0 := @State.refuse.eq_def
  unfold State.refuse
  clear e0
  exact .step (.refl ..) State.result_moves

theorem State.autoEnable_moves {s0 : State} {a1 : _} : Moves [.motion] s0 (State.autoEnable s0 a1) := by
  have e0 := @State.autoEnable.eq_def
  unfold State.autoEnable
  clear e0
  extract_lets +onlyGivenNames x1
  clear_value x1
  refine .ite (fun _ => ?_) (fun _ => ?_)
  · exact .refl ..
  · exact .step (.refl ..) State.setAx_moves

theorem State.endMove_moves {s0 : State} {a1 a2 a3 : _} : Moves [.motion, .field] s0 (State.endMove s0 a1 a2 a3) := by
  have e0 := @State.endMove.eq_def
  unfold State.endMove
  clear e0
  split
  · rename_i y1 y2 y3 y4 y5 y6 y7 y8 y9 y10 y11 y12 y13 y14
    exact .step (.refl ..) State.result_moves
  · rename_i y15 y16
    exact .refl ..

theorem State.startMove_moves {s0 : State} {a1 a2 a3 : _} : Moves [.motion, .field] s0 (State.startMove s0 a1 a2 a3) := by
  have e0 := @State.startMove.eq_def
  unfold State.startMove
  clear e0
  extract_lets +onlyGivenNames x1
  have h1 : Moves [.motion, .field] s0 x1 := by
    unfold x1
    exact .step (.refl ..) State.endMove_moves
  clear_value x1
  extract_lets +onlyGivenNames x2
  clear_value x2
  exact .step h1 State.setAx_moves

theorem State.actPos_moves {s0 : State} {a1 a2 a3 : _} : Moves [.motion, .field] s0 (State.actPos s0 a1 a2 a3) := by
  have e0 := @State.actPos.eq_def
  unfold State.actPos
  clear e0
  extract_lets +onlyGivenNames x1
  clear_value x1
  refine .ite (fun _ => ?_) (fun _ => ?_)
  · exact .step (.refl ..) State.refuse_moves
  · refine .ite (fun _ => ?_) (fun _ => ?_)
    · exact .step (.refl ..) State.refuse_moves
    · extract_lets +onlyGivenNames x2
      clear_value x2
      refine .ite (fun _ => ?_) (fun _ => ?_)
      · exact .step (.refl ..) State.refuse_moves
      · extract_lets +onlyGivenNames x3
        have h3 : Moves [.motion, .field] s0 x3 := by
          unfold x3
          exact .step (.refl ..) State.autoEnable_moves
        clear_value x3
        extract_lets +onlyGivenNames x4
        clear_value x4
        exact .step h3 State.startMove_moves

theorem State.actVel_moves {s0 : State} {a1 a2 : _} : Moves [.motion, .field] s0 (State.actVel s0 a1 a2) := by
  have e0 := @State.actVel.eq_def
  unfold State.actVel
  clear e0
  extract_lets +onlyGivenNames x1 x2 x3
  clear_value x1 x2 x3
  refine .ite (fun _ => ?_) (fun _ => ?_)
  · exact .step (.refl ..) State.refuse_moves
  · extract_lets +onlyGivenNames x4
    have h4 : Moves [.motion, .field] s0 x4 := by
      unfold x4
      exact .step (.refl ..) State.autoEnable_moves
    clear_value x4
    extract_lets +onlyGivenNames x5 x6
    clear_value x5 x6
    exact .step h4 State.startMove_moves

theorem State.loseValid_moves {s0 : State} {a1 : _} : Moves [.field, .motion] s0 (State.loseValid s0 a1) := by
  have e0 := @State.loseValid.eq_def
  unfold State.loseValid
  clear e0
  extract_lets +onlyGivenNames x1
  clear_value x1
  refine .ite (fun _ => ?_) (fun _ => ?_)
  · exact .refl ..
  · exact .step (.step (.refl ..) State.setAx_moves) State.motionEvt_moves

theorem State.homeEnd_moves {s0 : State} {a1 a2 a3 : _} : Moves [.motion, .field] s0 (State.homeEnd s0 a1 a2 a3) := by
  have e0 := @State.homeEnd.eq_def
  unfold State.homeEnd
  clear e0
  split
  · rename_i y1 y2
    exact .refl ..
  · rename_i y3 y4 y5
    exact .step (.step (.step (.refl ..) State.setAx_moves) State.loseValid_moves) State.result_moves

theorem State.actStop_moves {s0 : State} {a1 a2 a3 : _} : Moves [.motion, .field] s0 (State.actStop s0 a1 a2 a3) := by
  have e0 := @State.actStop.eq_def
  unfold State.actStop
  clear e0
  extract_lets +onlyGivenNames x1
  have h1 : Moves [.motion, .field] s0 x1 := by
    unfold x1
    refine .ite (fun _ => ?_) (fun _ => ?_)
    · exact .step (.refl ..) State.homeEnd_moves
    · exact .step (.refl ..) State.endMove_moves
  clear_value x1
  extract_lets +onlyGivenNames x2 x3
  clear_value x2 x3
  exact .step h1 State.setAx_moves

theorem State.homePhase_moves {s0 : State} {a1 a2 a3 : _} : Moves [.motion] s0 (State.homePhase s0 a1 a2 a3) := by
  have e0 := @State.homePhase.eq_def
  unfold State.homePhase
  clear e0
  extract_lets +onlyGivenNames x1 x2 x3 x4
  clear_value x1 x2 x3 x4
  exact .step (.refl ..) State.setAx_moves

theorem State.homeStart_moves {s0 : State} {a1 a2 : _} : Moves [.motion, .field] s0 (State.homeStart s0 a1 a2) := by
  have e0 := @State.homeStart.eq_def
  unfold State.homeStart
  clear e0
  extract_lets +onlyGivenNames x1 x2
  clear_value x1 x2
  extract_lets +onlyGivenNames x3
  have h3 : Moves [.motion, .field] s0 x3 := by
    unfold x3
    exact .step (.refl ..) State.setAx_moves
  clear_value x3
  extract_lets +onlyGivenNames x4
  clear_value x4
  refine .ite (fun _ => ?_) (fun _ => ?_)
  · extract_lets +onlyGivenNames x5
    clear_value x5
    exact .step (.step h3 State.setAx_moves) State.result_moves
  · extract_lets +onlyGivenNames x6
    have h6 : Moves [.motion, .field] s0 x6 := by
      unfold x6
      exact .step h3 State.loseValid_moves
    clear_value x6
    refine .ite (fun _ => ?_) (fun _ => ?_)
    · exact .step (.step h6 State.setAx_moves) State.result_moves
    · refine .ite (fun _ => ?_) (fun _ => ?_)
      · exact .step h6 State.homePhase_moves
      · exact .step h6 State.homePhase_moves

theorem State.actHome_moves {s0 : State} {a1 a2 : _} : Moves [.motion, .field] s0 (State.actHome s0 a1 a2) := by
  have e0 := @State.actHome.eq_def
  unfold State.actHome
  clear e0
  extract_lets +onlyGivenNames x1 x2 x3 x4
  clear_value x1 x2 x3 x4
  refine .ite (fun _ => ?_) (fun _ => ?_)
  · exact .step (.refl ..) State.refuse_moves
  · extract_lets +onlyGivenNames x5
    have h5 : Moves [.motion, .field] s0 x5 := by
      unfold x5
      exact .step (.step (.refl ..) State.autoEnable_moves) State.endMove_moves
    clear_value x5
    extract_lets +onlyGivenNames x6
    clear_value x6
    extract_lets +onlyGivenNames x7
    have h7 : Moves [.motion, .field] s0 x7 := by
      unfold x7
      exact .step h5 State.setAx_moves
    clear_value x7
    exact .step h7 State.homeStart_moves

theorem State.actAbort_moves {s0 : State} {a1 a2 : _} : Moves [.answer, .eop, .motion, .field] s0 (State.actAbort s0 a1 a2) := by
  have e0 := @State.actAbort.eq_def
  unfold State.actAbort
  clear e0
  extract_lets +onlyGivenNames x1 x2 x3 x4
  clear_value x1 x2 x3 x4
  refine .ite (fun _ => ?_) (fun _ => ?_)
  · extract_lets +onlyGivenNames x5
    have h5 : Moves [.answer, .eop, .motion, .field] s0 x5 := by
      unfold x5
      exact .step (.step (.refl ..) State.homeEnd_moves) State.decideAbort_moves
    clear_value x5
    exact .step h5 State.setAx_moves
  · refine .ite (fun _ => ?_) (fun _ => ?_)
    · extract_lets +onlyGivenNames x6
      have h6 : Moves [.answer, .eop, .motion, .field] s0 x6 := by
        unfold x6
        exact .step (.step (.refl ..) State.endMove_moves) State.decideAbort_moves
      clear_value x6
      exact .step h6 State.setAx_moves
    · exact .step (.step (.refl ..) State.result_moves) State.decideAbort_moves

theorem State.enaOff_moves {s0 : State} {a1 : _} : Moves [.motion, .field] s0 (State.enaOff s0 a1) := by
  have e0 := @State.enaOff.eq_def
  unfold State.enaOff
  clear e0
  extract_lets +onlyGivenNames x1
  clear_value x1
  extract_lets +onlyGivenNames x2
  have h2 : Moves [.motion, .field] s0 x2 := by
    unfold x2
    exact .step (.refl ..) State.setAx_moves
  clear_value x2
  refine .ite (fun _ => ?_) (fun _ => ?_)
  · exact .step h2 State.loseValid_moves
  · exact h2

theorem State.act_moves {s0 : State} {a1 a2 : _} : Moves [.answer, .eop, .motion, .field] s0 (State.act s0 a1 a2) := by
  have e0 := @State.act.eq_def
  unfold State.act
  clear e0
  extract_lets +onlyGivenNames x1 x2
  clear_value x1 x2
  refine .ite (fun _ => ?_) (fun _ => ?_)
  · exact .step (.step (.refl ..) State.result_moves) State.dropCmd_moves
  · refine .ite (fun _ => ?_) (fun _ => ?_)
    · exact .step (.step (.refl ..) State.refuse_moves) State.dropCmd_moves
    · refine .ite (fun _ => ?_) (fun _ => ?_)
      · exact .step (.refl ..) State.refuse_moves
      · refine .ite (fun _ => ?_) (fun _ => ?_)
        · exact .step (.refl ..) State.refuse_moves
        · split
          · rename_i y3 y4
            exact .step (.refl ..) State.actPos_moves
          · rename_i y5 y6
            exact .step (.refl ..) State.actPos_moves
          · rename_i y7 y8
            exact .step (.refl ..) State.actVel_moves
          · rename_i y9 y10
            exact .step (.refl ..) State.actStop_moves
          · rename_i y11 y12
            exact .step (.refl ..) State.actHome_moves
          · rename_i y13 y14
            exact .step (.refl ..) State.actAbort_moves
          · rename_i y15 y16
            refine .ite (fun _ => ?_) (fun _ => ?_)
            · exact .step (.refl ..) State.refuse_moves
            · exact .step (.step (.refl ..) State.setAx_moves) State.result_moves
          · rename_i y17 y18
            refine .ite (fun _ => ?_) (fun _ => ?_)
            · extract_lets +onlyGivenNames x19
              have h19 : Moves [.answer, .eop, .motion, .field] s0 x19 := by
                unfold x19
                exact .step (.step (.refl ..) State.endMove_moves) State.enaOff_moves
              clear_value x19
              exact .step (.step h19 State.setAx_moves) State.result_moves
            · exact .step (.refl ..) State.actStop_moves
          · rename_i y20 y21 y22 y23 y24 y25 y26 y27 y28
            exact .step (.step (.refl ..) State.setAx_moves) State.result_moves

theorem State.showAxis_moves {s0 : State} {a1 : _} : Moves [.field, .motion] s0 (State.showAxis s0 a1) := by
  have e0 := @State.showAxis.eq_def
  unfold State.showAxis
  clear e0
  extract_lets +onlyGivenNames x1 x2
  clear_value x1 x2
  refine .ite (fun _ => ?_) (fun _ => ?_)
  · exact .refl ..
  · exact .step (.step (.refl ..) State.setAx_moves) State.motionEvt_moves

theorem State.actAll_moves {s0 : State} {a1 : _} : Moves [.field, .motion, .answer, .eop] s0 (State.actAll s0 a1) := by
  have e0 := @State.actAll.eq_def
  unfold State.actAll
  clear e0
  extract_lets +onlyGivenNames x1
  clear_value x1
  extract_lets +onlyGivenNames x2
  have h2 : Moves [.field, .motion, .answer, .eop] s0 x2 := by
    unfold x2
    refine .foldl ?_ (fun y3 b5 hy4 => ?_)
    · exact .step (.refl ..) State.setAx_moves
    · exact .step (.step hy4 State.act_moves) State.showAxis_moves
  clear_value x2
  exact .step h2 State.setAx_moves

theorem State.assignMove_moves {s0 : State} {a1 : _} : Moves [.motion] s0 (State.assignMove s0 a1).1 := by
  have e0 := @State.assignMove.eq_def
  unfold State.assignMove
  clear e0
  split
  · rename_i y1
    dsimp -zeta only
    exact .refl ..
  · rename_i y2
    extract_lets +onlyGivenNames x3
    extract_lets +onlyGivenNames x4
    clear_value x4
    dsimp -zeta only
    exact .with_motion (.refl ..)

theorem State.halt_moves {s0 : State} {a1 : _} : Moves [.motion] s0 (State.halt s0 a1) := by
  have e0 := @State.halt.eq_def
  unfold State.halt
  clear e0
  exact .step (.refl ..) State.setAx_moves

theorem State.axesDisable_moves {s0 : State} : Moves [.motion, .field] s0 (State.axesDisable s0) := by
  have e0 := @State.axesDisable.eq_def
  unfold State.axesDisable
  clear e0
  refine .foldl ?_ (fun y1 b3 hy2 => ?_)
  · exact .refl ..
  · extract_lets +onlyGivenNames x4
    clear_value x4
    extract_lets +onlyGivenNames x5
    clear_value x5
    extract_lets +onlyGivenNames x6
    have h6 : Moves [.motion, .field] s0 x6 := by
      unfold x6
      refine .ite (fun _ => ?_) (fun _ => ?_)
      · exact .step hy2 State.homeEnd_moves
      · exact .step hy2 State.endMove_moves
    clear_value x6
    extract_lets +onlyGivenNames x7
    have h7 : Moves [.motion, .field] s0 x7 := by
      unfold x7
      exact .step h6 State.halt_moves
    clear_value x7
    extract_lets +onlyGivenNames x8
    clear_value x8
    extract_lets +onlyGivenNames x9
    have h9 : Moves [.motion, .field] s0 x9 := by
      unfold x9
      exact .step h7 State.setAx_moves
    clear_value x9
    refine .step ?_ State.showAxis_moves
    refine .ite (fun _ => ?_) (fun _ => ?_)
    · exact h9
    · exact .step h9 State.loseValid_moves

theorem State.axesSilence_moves {s0 : State} : Moves [.answer, .eop, .motion, .field] s0 (State.axesSilence s0) := by
  have e0 := @State.axesSilence.eq_def
  unfold State.axesSilence
  clear e0
  refine .foldl ?_ (fun y1 b3 hy2 => ?_)
  · exact .refl ..
  · extract_lets +onlyGivenNames x4
    clear_value x4
    extract_lets +onlyGivenNames x5
    have h5 : Moves [.answer, .eop, .motion, .field] s0 x5 := by
      unfold x5
      refine .foldl ?_ (fun y6 b8 hy7 => ?_)
      · exact .step hy2 State.setAx_moves
      · exact .step (.step hy7 State.result_moves) State.dropCmd_moves
    clear_value x5
    extract_lets +onlyGivenNames x9
    have h9 : Moves [.answer, .eop, .motion, .field] s0 x9 := by
      unfold x9
      refine .ite (fun _ => ?_) (fun _ => ?_)
      · exact .step h5 State.homeEnd_moves
      · exact .step h5 State.endMove_moves
    clear_value x9
    extract_lets +onlyGivenNames x10 x11 x12 x13 x14
    clear_value x10 x11 x12 x13 x14
    extract_lets +onlyGivenNames x15
    have h15 : Moves [.answer, .eop, .motion, .field] s0 x15 := by
      unfold x15
      refine .ite (fun _ => ?_) (fun _ => ?_)
      · exact .step (.step (.step h9 State.halt_moves) State.setAx_moves) State.loseValid_moves
      · refine .ite (fun _ => ?_) (fun _ => ?_)
        · refine .step ?_ State.setAx_moves
          refine .ite (fun _ => ?_) (fun _ => ?_)
          · exact .step h9 State.enaOff_moves
          · exact h9
        · exact .step h9 State.setAx_moves
    clear_value x15
    exact .step h15 State.showAxis_moves

theorem State.axesStop_moves {s0 : State} : Moves [.field, .motion] s0 (State.axesStop s0) := by
  have e0 := @State.axesStop.eq_def
  unfold State.axesStop
  clear e0
  split
  · rename_i y1 y2
    exact .refl ..
  · rename_i y3 y4 y5
    refine .foldl ?_ (fun y6 b8 hy7 => ?_)
    · exact .refl ..
    · extract_lets +onlyGivenNames x9
      clear_value x9
      extract_lets +onlyGivenNames x10
      clear_value x10
      refine .ite (fun _ => ?_) (fun _ => ?_)
      · exact hy7
      · exact .step (.step hy7 State.actStop_moves) State.showAxis_moves

theorem State.commitMove_moves {s0 : State} {a1 a2 : _} : Moves [.motion, .field] s0 (State.commitMove s0 a1 a2) := by
  have e0 := @State.commitMove.eq_def
  unfold State.commitMove
  clear e0
  split
  · rename_i y1 y2 y3
    refine .ite (fun _ => ?_) (fun _ => ?_)
    · exact .refl ..
    · extract_lets +onlyGivenNames x4
      have h4 : Moves [.motion, .field] s0 x4 := by
        unfold x4
        exact .step (.refl ..) State.endMove_moves
      clear_value x4
      exact .step h4 State.setAx_moves
  · rename_i y5 y6 y7
    extract_lets +onlyGivenNames x8
    have h8 : Moves [.motion, .field] s0 x8 := by
      unfold x8
      exact .step (.refl ..) State.endMove_moves
    clear_value x8
    exact .step h8 State.setAx_moves
  · rename_i y9 y10
    refine .ite (fun _ => ?_) (fun _ => ?_)
    · exact .refl ..
    · extract_lets +onlyGivenNames x11
      have h11 : Moves [.motion, .field] s0 x11 := by
        unfold x11
        refine .ite (fun _ => ?_) (fun _ => ?_)
        · exact .step (.refl ..) State.enaOff_moves
        · exact .refl ..
      clear_value x11
      extract_lets +onlyGivenNames x12
      have h12 : Moves [.motion, .field] s0 x12 := by
        unfold x12
        exact .step h11 State.endMove_moves
      clear_value x12
      exact .step h12 State.setAx_moves

theorem State.rejectCmd_moves {s0 : State} : Moves [] s0 (State.rejectCmd s0) := by
  have e0 := @State.rejectCmd.eq_def
  unfold State.rejectCmd
  clear e0
  exact .step (.refl ..) State.inc_moves

theorem State.dropUnknown_moves {n : Nat} {s0 : State} : Moves [.motion] s0 (State.dropUnknown n s0) := by
  induction n generalizing s0 with
  | zero => exact .refl ..
  | succ n ih =>
    unfold State.dropUnknown
    split
    · split
      · exact .refl ..
      · exact Moves.step (Moves.step (Moves.step (.refl ..) State.pop_moves) State.rejectCmd_moves) ih
    · exact .refl ..

theorem State.effAxStats_moves {s0 : State} {a1 : _} : Moves [.motion] s0 (State.effAxStats s0 a1) := by
  have e0 := @State.effAxStats.eq_def
  unfold State.effAxStats
  clear e0
  exact .step (.step (.refl ..) State.setAx_moves) State.clear_moves

theorem State.effAxisCommand_moves {s0 : State} {a1 a2 : _} : Moves [.motion] s0 (State.effAxisCommand s0 a1 a2) := by
  have e0 := @State.effAxisCommand.eq_def
  unfold State.effAxisCommand
  clear e0
  extract_lets +onlyGivenNames x1
  clear_value x1
  refine .ite (fun _ => ?_) (fun _ => ?_)
  · exact .step (.refl ..) State.rejectCmd_moves
  · split
    · rename_i y2 y3 y4 y5
      have h_y3 : Moves [.motion] s0 y3 := by
        rw [show y3 = _ from (congrArg Prod.fst y5).symm]
        exact .step (.refl ..) State.assignMove_moves
      extract_lets +onlyGivenNames x6
      have h6 : Moves [.motion] s0 x6 := by
        unfold x6
        refine .ite (fun _ => ?_) (fun _ => ?_)
        · exact h_y3
        · exact .step h_y3 State.wr_moves
      clear_value x6
      exact .step h6 State.place_moves

theorem State.effAxisSetting_moves {s0 : State} {a1 : _} : Moves [.motion] s0 (State.effAxisSetting s0 a1) := by
  have e0 := @State.effAxisSetting.eq_def
  unfold State.effAxisSetting
  clear e0
  extract_lets +onlyGivenNames x1
  clear_value x1
  split
  · rename_i y2 y3
    exact .refl ..
  · rename_i y4 y5 y6
    refine .ite (fun _ => ?_) (fun _ => ?_)
    · exact .refl ..
    · extract_lets +onlyGivenNames x7
      clear_value x7
      split
      · rename_i y8 y9 y10
        extract_lets +onlyGivenNames x11 x12 x13
        clear_value x11 x12 x13
        refine .ite (fun _ => ?_) (fun _ => ?_)
        · exact .step (.refl ..) State.setAx_moves
        · exact .step (.refl ..) State.setAx_moves
      · rename_i y14 y15
        exact .step (.refl ..) State.setAx_moves

theorem State.enableDelay_moves {s0 : State} {a1 : _} : Moves [.motion] s0 (State.enableDelay s0 a1) := by
  have e0 := @State.enableDelay.eq_def
  unfold State.enableDelay
  clear e0
  extract_lets +onlyGivenNames x1
  clear_value x1
  split
  · rename_i y2 y3 y4
    refine .ite (fun _ => ?_) (fun _ => ?_)
    · exact .step (.refl ..) State.setAx_moves
    · exact .refl ..
  · rename_i y5 y6
    exact .refl ..

theorem State.fltAsserted_moves {s0 : State} {a1 : _} : Moves [.motion, .field, .answer, .eop] s0 (State.fltAsserted s0 a1) := by
  have e0 := @State.fltAsserted.eq_def
  unfold State.fltAsserted
  clear e0
  extract_lets +onlyGivenNames x1
  clear_value x1
  refine .ite (fun _ => ?_) (fun _ => ?_)
  · exact .refl ..
  · extract_lets +onlyGivenNames x2
    have h2 : Moves [.motion, .field, .answer, .eop] s0 x2 := by
      unfold x2
      exact .step (.refl ..) State.setAx_moves
    clear_value x2
    extract_lets +onlyGivenNames x3
    have h3 : Moves [.motion, .field, .answer, .eop] s0 x3 := by
      unfold x3
      refine .ite (fun _ => ?_) (fun _ => ?_)
      · exact .step h2 State.homeEnd_moves
      · exact .step h2 State.endMove_moves
    clear_value x3
    extract_lets +onlyGivenNames x4
    have h4 : Moves [.motion, .field, .answer, .eop] s0 x4 := by
      unfold x4
      exact .step (.step h3 State.halt_moves) State.loseValid_moves
    clear_value x4
    extract_lets +onlyGivenNames x5
    clear_value x5
    extract_lets +onlyGivenNames x6
    have h6 : Moves [.motion, .field, .answer, .eop] s0 x6 := by
      unfold x6
      exact .step h4 State.setAx_moves
    clear_value x6
    extract_lets +onlyGivenNames x7
    have h7 : Moves [.motion, .field, .answer, .eop] s0 x7 := by
      unfold x7
      refine .foldl ?_ (fun y8 b10 hy9 => ?_)
      · exact h6
      · exact .step (.step hy9 State.refuse_moves) State.dropCmd_moves
    clear_value x7
    exact .step (.step h7 State.showAxis_moves) State.fieldDiag_moves

theorem State.fltReleased_moves {s0 : State} {a1 : _} : Moves [.field, .motion] s0 (State.fltReleased s0 a1) := by
  have e0 := @State.fltReleased.eq_def
  unfold State.fltReleased
  clear e0
  extract_lets +onlyGivenNames x1
  clear_value x1
  refine .ite (fun _ => ?_) (fun _ => ?_)
  · exact .refl ..
  · exact .step (.step (.step (.refl ..) State.setAx_moves) State.showAxis_moves) State.fieldDiag_moves

theorem State.homeBrake_moves {s0 : State} {a1 a2 : _} : Moves [.motion] s0 (State.homeBrake s0 a1 a2) := by
  have e0 := @State.homeBrake.eq_def
  unfold State.homeBrake
  clear e0
  exact .step (.refl ..) State.setAx_moves

theorem State.homeEdge_moves {s0 : State} {a1 a2 a3 : _} : Moves [.motion] s0 (State.homeEdge s0 a1 a2 a3) := by
  have e0 := @State.homeEdge.eq_def
  unfold State.homeEdge
  clear e0
  split
  · rename_i y1 y2
    exact .refl ..
  · rename_i y3 y4 y5
    refine .ite (fun _ => ?_) (fun _ => ?_)
    · exact .refl ..
    · extract_lets +onlyGivenNames x6
      clear_value x6
      extract_lets +onlyGivenNames x7
      clear_value x7
      extract_lets +onlyGivenNames x8
      split
      · rename_i y9 y10
        refine .ite (fun _ => ?_) (fun _ => ?_)
        · exact .step (.refl ..) State.homeBrake_moves
        · exact .refl ..
      · rename_i y11 y12
        refine .ite (fun _ => ?_) (fun _ => ?_)
        · exact .step (.refl ..) State.homeBrake_moves
        · exact .refl ..
      · rename_i y13 y14
        exact .step (.refl ..) State.setAx_moves
      · rename_i y15 y16
        exact .refl ..

theorem State.homeFail_moves {s0 : State} {a1 a2 a3 : _} : Moves [.field, .motion] s0 (State.homeFail s0 a1 a2 a3) := by
  have e0 := @State.homeFail.eq_def
  unfold State.homeFail
  clear e0
  exact .step (.step (.refl ..) State.homePhase_moves) State.loseValid_moves

theorem State.homeRest_moves {s0 : State} {a1 a2 : _} : Moves [.motion, .field] s0 (State.homeRest s0 a1 a2) := by
  have e0 := @State.homeRest.eq_def
  unfold State.homeRest
  clear e0
  split
  · rename_i y1 y2
    exact .step (.refl ..) State.homePhase_moves
  · rename_i y3 y4
    exact .step (.refl ..) State.homePhase_moves
  · rename_i y5 y6
    extract_lets +onlyGivenNames x7 x8 x9
    clear_value x7 x8 x9
    exact .step (.step (.refl ..) State.setAx_moves) State.result_moves
  · rename_i y10 y11
    extract_lets +onlyGivenNames x12
    clear_value x12
    exact .step (.step (.refl ..) State.setAx_moves) State.result_moves

theorem State.homeTick_moves {s0 : State} {a1 : _} : Moves [.motion, .field] s0 (State.homeTick s0 a1) := by
  have e0 := @State.homeTick.eq_def
  unfold State.homeTick
  clear e0
  extract_lets +onlyGivenNames x1
  clear_value x1
  split
  · rename_i y2 y3
    exact .refl ..
  · rename_i y4 y5 y6
    refine .ite (fun _ => ?_) (fun _ => ?_)
    · refine .ite (fun _ => ?_) (fun _ => ?_)
      · exact .step (.refl ..) State.homeRest_moves
      · exact .refl ..
    · refine .ite (fun _ => ?_) (fun _ => ?_)
      · exact .step (.refl ..) State.homeFail_moves
      · split
        · rename_i y7 y8 y9 y10 y11
          refine .ite (fun _ => ?_) (fun _ => ?_)
          · exact .step (.refl ..) State.homeBrake_moves
          · exact .refl ..
        · rename_i y12 y13 y14
          exact .refl ..

theorem State.idleDisable_moves {s0 : State} {a1 : _} : Moves [.field, .motion] s0 (State.idleDisable s0 a1) := by
  have e0 := @State.idleDisable.eq_def
  unfold State.idleDisable
  clear e0
  extract_lets +onlyGivenNames x1 x2
  clear_value x1 x2
  refine .ite (fun _ => ?_) (fun _ => ?_)
  · exact .step (.step (.refl ..) State.enaOff_moves) State.showAxis_moves
  · exact .refl ..

theorem State.latchEdge_moves {s0 : State} {a1 a2 : _} : Moves [.field, .motion] s0 (State.latchEdge s0 a1 a2) := by
  have e0 := @State.latchEdge.eq_def
  unfold State.latchEdge
  clear e0
  refine .ite (fun _ => ?_) (fun _ => ?_)
  · exact .refl ..
  · extract_lets +onlyGivenNames x1
    have h1 : Moves [.field, .motion] s0 x1 := by
      unfold x1
      exact .step (.refl ..) State.wrT_moves
    clear_value x1
    refine .foldl ?_ (fun y2 b4 hy3 => ?_)
    · exact h1
    · extract_lets +onlyGivenNames x5
      clear_value x5
      extract_lets +onlyGivenNames x6 x7
      clear_value x6 x7
      extract_lets +onlyGivenNames x8
      have h8 : Moves [.field, .motion] s0 x8 := by
        unfold x8
        split
        · rename_i y9 y10 y11 y12 y13
          refine .ite (fun _ => ?_) (fun _ => ?_)
          · exact .step (.step hy3 State.setAx_moves) State.motionEvt_moves
          · exact hy3
        · rename_i y14 y15
          exact hy3
      clear_value x8
      exact .step h8 State.homeEdge_moves

theorem State.limitStop_moves {s0 : State} {a1 : _} : Moves [.field, .motion] s0 (State.limitStop s0 a1) := by
  have e0 := @State.limitStop.eq_def
  unfold State.limitStop
  clear e0
  extract_lets +onlyGivenNames x1
  clear_value x1
  refine .ite (fun _ => ?_) (fun _ => ?_)
  · exact .refl ..
  · extract_lets +onlyGivenNames x2
    clear_value x2
    extract_lets +onlyGivenNames x3 x4
    clear_value x3 x4
    split
    · rename_i y5 y6 y7 y8
      refine .ite (fun _ => ?_) (fun _ => ?_)
      · exact .step (.refl ..) State.homeFail_moves
      · exact .refl ..
    · rename_i y9 y10 y11 y12 y13
      extract_lets +onlyGivenNames x14 x15 x16
      clear_value x14 x15 x16
      refine .ite (fun _ => ?_) (fun _ => ?_)
      · extract_lets +onlyGivenNames x17
        clear_value x17
        exact .step (.refl ..) State.setAx_moves
      · exact .refl ..
    · rename_i y18 y19 y20 y21
      exact .refl ..

theorem State.moveAxis_moves {s0 : State} {a1 : _} : Moves [.motion, .field] s0 (State.moveAxis s0 a1) := by
  have e0 := @State.moveAxis.eq_def
  unfold State.moveAxis
  clear e0
  extract_lets +onlyGivenNames x1
  clear_value x1
  split
  · rename_i y2 y3 y4 y5 y6 y7
    extract_lets +onlyGivenNames x8 x9
    clear_value x8 x9
    extract_lets +onlyGivenNames x10
    have h10 : Moves [.motion, .field] s0 x10 := by
      unfold x10
      exact .step (.refl ..) State.setAx_moves
    clear_value x10
    refine .ite (fun _ => ?_) (fun _ => ?_)
    · exact .step h10 State.commitMove_moves
    · exact h10
  · rename_i y11 y12 y13
    exact .refl ..

theorem State.profileTick_moves {s0 : State} : Moves [.field, .motion, .answer, .eop] s0 (State.profileTick s0) := by
  have e0 := @State.profileTick.eq_def
  unfold State.profileTick
  clear e0
  refine .ite (fun _ => ?_) (fun _ => ?_)
  · exact .refl ..
  · extract_lets +onlyGivenNames x1
    clear_value x1
    extract_lets +onlyGivenNames x2
    have h2 : Moves [.field, .motion, .answer, .eop] s0 x2 := by
      unfold x2
      exact .with_motion (.refl ..)
    clear_value x2
    refine .foldl ?_ (fun y3 b5 hy4 => ?_)
    · exact h2
    · extract_lets +onlyGivenNames x6
      have h6 : Moves [.field, .motion, .answer, .eop] s0 x6 := by
        unfold x6
        exact .step (.step (.step (.step hy4 State.moveAxis_moves) State.homeTick_moves) State.limitStop_moves) State.showAxis_moves
      clear_value x6
      exact .step h6 State.actAll_moves

theorem State.readLimits_moves {s0 : State} : Moves [.motion, .field] s0 (State.readLimits s0) := by
  have e0 := @State.readLimits.eq_def
  unfold State.readLimits
  clear e0
  refine .foldl ?_ (fun y1 b3 hy2 => ?_)
  · exact .refl ..
  · extract_lets +onlyGivenNames x4
    clear_value x4
    extract_lets +onlyGivenNames x5
    extract_lets +onlyGivenNames x6 x7
    clear_value x6 x7
    refine .ite (fun _ => ?_) (fun _ => ?_)
    · exact hy2
    · extract_lets +onlyGivenNames x8
      clear_value x8
      extract_lets +onlyGivenNames x9
      clear_value x9
      extract_lets +onlyGivenNames x10
      have h10 : Moves [.motion, .field] s0 x10 := by
        unfold x10
        exact .step hy2 State.setAx_moves
      clear_value x10
      split
      · rename_i y11 y12 y13
        refine .ite (fun _ => ?_) (fun _ => ?_)
        · exact .step h10 State.homeFail_moves
        · exact h10
      · rename_i y14 y15
        exact h10

theorem State.segments_moves {s0 : State} {a1 : _} : Moves [.motion] s0 (State.segments s0 a1) := by
  have e0 := @State.segments.eq_def
  unfold State.segments
  clear e0
  refine .foldl ?_ (fun y1 b3 hy2 => ?_)
  · exact .refl ..
  · extract_lets +onlyGivenNames x4
    clear_value x4
    refine .ite (fun _ => ?_) (fun _ => ?_)
    · exact hy2
    · exact .step hy2 State.setAx_moves

theorem State.takeAxis_moves {s0 : State} {a1 : _} : Moves [] s0 (State.takeAxis s0 a1) := by
  have e0 := @State.takeAxis.eq_def
  unfold State.takeAxis
  clear e0
  extract_lets +onlyGivenNames x1
  clear_value x1
  extract_lets +onlyGivenNames x2
  have h2 : Moves [] s0 x2 := by
    unfold x2
    exact .step (.step (.step (.step (.refl ..) State.wr_moves) State.wrI_moves) State.wr_moves) State.wr_moves
  clear_value x2
  extract_lets +onlyGivenNames x3
  clear_value x3
  extract_lets +onlyGivenNames x4
  have h4 : Moves [] s0 x4 := by
    unfold x4
    exact .step (.step (.step h2 State.wr_moves) State.wr_moves) State.wr_moves
  clear_value x4
  extract_lets +onlyGivenNames x5
  have h5 : Moves [] s0 x5 := by
    unfold x5
    exact .step h4 State.wr_moves
  clear_value x5
  extract_lets +onlyGivenNames x6
  have h6 : Moves [] s0 x6 := by
    unfold x6
    exact .step (.step h5 State.wrI_moves) State.wr_moves
  clear_value x6
  extract_lets +onlyGivenNames x7
  have h7 : Moves [] s0 x7 := by
    unfold x7
    exact .step (.step h6 State.wr_moves) State.wr_moves
  clear_value x7
  exact .step (.step h7 State.wr_moves) State.wr_moves

theorem State.takeAxes_moves {s0 : State} : Moves [.field] s0 (State.takeAxes s0) := by
  have e0 := @State.takeAxes.eq_def
  unfold State.takeAxes
  clear e0
  extract_lets +onlyGivenNames x1
  have h1 : Moves [.field] s0 x1 := by
    unfold x1
    refine .foldl ?_ (fun y2 b4 hy3 => ?_)
    · exact .refl ..
    · refine .ite (fun _ => ?_) (fun _ => ?_)
      · exact hy3
      · exact .step hy3 State.takeAxis_moves
  clear_value x1
  extract_lets +onlyGivenNames x5
  clear_value x5
  extract_lets +onlyGivenNames x6
  have h6 : Moves [.field] s0 x6 := by
    unfold x6
    exact .step h1 State.wr_moves
  clear_value x6
  extract_lets +onlyGivenNames x7
  clear_value x7
  refine .foldl ?_ (fun y8 b10 hy9 => ?_)
  · exact .with_field h6
  · exact .step hy9 State.place_moves

theorem State.takeCmd_moves {s0 : State} {a1 : _} : Moves [.motion, .answer, .eop] s0 (State.takeCmd s0 a1) := by
  have e0 := @State.takeCmd.eq_def
  unfold State.takeCmd
  clear e0
  extract_lets +onlyGivenNames x1
  have h1 : Moves [.motion, .answer, .eop] s0 x1 := by
    unfold x1
    exact .step (.refl ..) State.dropUnknown_moves
  clear_value x1
  split
  · rename_i y2 y3
    exact h1
  · rename_i y4 y5 y6
    refine .ite (fun _ => ?_) (fun _ => ?_)
    · exact h1
    · extract_lets +onlyGivenNames x7
      have h7 : Moves [.motion, .answer, .eop] s0 x7 := by
        unfold x7
        exact .step h1 State.pop_moves
      clear_value x7
      refine .ite (fun _ => ?_) (fun _ => ?_)
      · exact .step (.step h7 State.rejectCmd_moves) State.dropCmd_moves
      · extract_lets +onlyGivenNames x8
        clear_value x8
        extract_lets +onlyGivenNames x9
        clear_value x9
        exact .step h7 State.setAx_moves

/-! ## Machine/SafeIo.lean -/

theorem State.setChn_moves {s0 : State} {a1 a2 : _} : Moves [.safety] s0 (State.setChn s0 a1 a2) := by
  have e0 := @State.setChn.eq_def
  unfold State.setChn
  clear e0
  exact .with_safety (.refl ..)

theorem State.showSb_moves {s0 : State} {a1 : _} : Moves [.blocks] s0 (State.showSb s0 a1) := by
  have e0 := @State.showSb.eq_def
  unfold State.showSb
  clear e0
  extract_lets +onlyGivenNames x1 x2 x3
  clear_value x1 x2 x3
  extract_lets +onlyGivenNames x4
  have h4 : Moves [.blocks] s0 x4 := by
    unfold x4
    refine .ite (fun _ => ?_) (fun _ => ?_)
    · exact .step (.refl ..) State.incR_moves
    · exact .refl ..
  clear_value x4
  exact .step h4 State.wr_moves

theorem State.showSbs_moves {s0 : State} : Moves [.blocks] s0 (State.showSbs s0) := by
  have e0 := @State.showSbs.eq_def
  unfold State.showSbs
  clear e0
  refine .foldl ?_ (fun y1 b3 hy2 => ?_)
  · exact .refl ..
  · exact .step hy2 State.showSb_moves

theorem State.setSec_moves {s0 : State} {a1 a2 : _} : Moves [.safety] s0 (State.setSec s0 a1 a2) := by
  have e0 := @State.setSec.eq_def
  unfold State.setSec
  clear e0
  exact .with_safety (.refl ..)

theorem State.brakesOff_moves {s0 : State} : Moves [.safety, .blocks] s0 (State.brakesOff s0) := by
  have e0 := @State.brakesOff.eq_def
  unfold State.brakesOff
  clear e0
  extract_lets +onlyGivenNames x1 x2
  clear_value x1 x2
  extract_lets +onlyGivenNames x3
  have h3 : Moves [.safety, .blocks] s0 x3 := by
    unfold x3
    exact .step (.step (.refl ..) State.setChn_moves) State.setChn_moves
  clear_value x3
  exact .step (.step (.step h3 State.setSec_moves) State.setSec_moves) State.showSbs_moves

theorem State.openAll_moves {s0 : State} {a1 : _} : Moves [.blocks, .safety] s0 (State.openAll s0 a1) := by
  have e0 := @State.openAll.eq_def
  unfold State.openAll
  clear e0
  exact .step (.step (.refl ..) State.setSec_moves) State.showSbs_moves

theorem State.safeWatchdog_moves {s0 : State} {a1 : _} : Moves [.blocks, .safety] s0 (State.safeWatchdog s0 a1) := by
  have e0 := @State.safeWatchdog.eq_def
  unfold State.safeWatchdog
  clear e0
  refine .ite (fun _ => ?_) (fun _ => ?_)
  · exact .step (.refl ..) State.openAll_moves
  · exact .refl ..

theorem State.showSi_moves {s0 : State} {a1 : _} : Moves [] s0 (State.showSi s0 a1) := by
  have e0 := @State.showSi.eq_def
  unfold State.showSi
  clear e0
  extract_lets +onlyGivenNames x1 x2 x3 x4
  clear_value x1 x2 x3 x4
  extract_lets +onlyGivenNames x5
  have h5 : Moves [] s0 x5 := by
    unfold x5
    exact .step (.refl ..) State.wr_moves
  clear_value x5
  exact .step (.step h5 State.wr_moves) State.addTo_moves

theorem State.sampleSi_moves {s0 : State} {a1 a2 a3 : _} : Moves [.safety, .field] s0 (State.sampleSi s0 a1 a2 a3) := by
  have e0 := @State.sampleSi.eq_def
  unfold State.sampleSi
  clear e0
  refine .ite (fun _ => ?_) (fun _ => ?_)
  · exact .refl ..
  · extract_lets +onlyGivenNames x1
    clear_value x1
    extract_lets +onlyGivenNames x2
    clear_value x2
    extract_lets +onlyGivenNames x3
    have h3 : Moves [.safety, .field] s0 x3 := by
      unfold x3
      exact .step (.refl ..) State.setSec_moves
    clear_value x3
    refine .foldl ?_ (fun y4 b6 hy5 => ?_)
    · exact h3
    · refine .ite (fun _ => ?_) (fun _ => ?_)
      · exact .step (.step hy5 State.fieldDiag_moves) State.showSi_moves
      · exact hy5

theorem State.setSb_moves {s0 : State} {a1 a2 : _} : Moves [.safety] s0 (State.setSb s0 a1 a2) := by
  have e0 := @State.setSb.eq_def
  unfold State.setSb
  clear e0
  exact .with_safety (.refl ..)

theorem State.showSbDiag_moves {s0 : State} {a1 : _} : Moves [] s0 (State.showSbDiag s0 a1) := by
  have e0 := @State.showSbDiag.eq_def
  unfold State.showSbDiag
  clear e0
  extract_lets +onlyGivenNames x1 x2
  clear_value x1 x2
  exact .step (.refl ..) State.wr_moves

theorem State.sbClear_moves {s0 : State} {a1 : _} : Moves [.field, .safety, .blocks] s0 (State.sbClear s0 a1) := by
  have e0 := @State.sbClear.eq_def
  unfold State.sbClear
  clear e0
  extract_lets +onlyGivenNames x1
  clear_value x1
  refine .ite (fun _ => ?_) (fun _ => ?_)
  · extract_lets +onlyGivenNames x2
    extract_lets +onlyGivenNames x3
    have h3 : Moves [.field, .safety, .blocks] s0 x3 := by
      unfold x3
      unfold x2
      refine .foldl ?_ (fun y7 b9 hy8 => ?_)
      · refine .foldl ?_ (fun y4 b6 hy5 => ?_)
        · exact .refl ..
        · refine .ite (fun _ => ?_) (fun _ => ?_)
          · exact .step hy5 State.fieldDiag_moves
          · exact hy5
      · refine .ite (fun _ => ?_) (fun _ => ?_)
        · exact .step hy8 State.fieldDiag_moves
        · exact hy8
    clear_value x3
    extract_lets +onlyGivenNames x10
    have h10 : Moves [.field, .safety, .blocks] s0 x10 := by
      unfold x10
      exact .step h3 State.setSb_moves
    clear_value x10
    exact .step (.step h10 State.showSbDiag_moves) State.showSb_moves
  · exact .refl ..

theorem State.sbFault_moves {s0 : State} {a1 a2 a3 : _} : Moves [.field, .safety, .blocks] s0 (State.sbFault s0 a1 a2 a3) := by
  have e0 := @State.sbFault.eq_def
  unfold State.sbFault
  clear e0
  extract_lets +onlyGivenNames x1 x2
  clear_value x1 x2
  extract_lets +onlyGivenNames x3
  have h3 : Moves [.field, .safety, .blocks] s0 x3 := by
    unfold x3
    refine .ite (fun _ => ?_) (fun _ => ?_)
    · exact .refl ..
    · exact .step (.refl ..) State.fieldDiag_moves
  clear_value x3
  extract_lets +onlyGivenNames x4
  clear_value x4
  extract_lets +onlyGivenNames x5
  have h5 : Moves [.field, .safety, .blocks] s0 x5 := by
    unfold x5
    refine .ite (fun _ => ?_) (fun _ => ?_)
    · exact h3
    · exact .step h3 State.inc_moves
  clear_value x5
  extract_lets +onlyGivenNames x6
  have h6 : Moves [.field, .safety, .blocks] s0 x6 := by
    unfold x6
    exact .step h5 State.setSb_moves
  clear_value x6
  extract_lets +onlyGivenNames x7
  extract_lets +onlyGivenNames x8 x9
  clear_value x8 x9
  extract_lets +onlyGivenNames x10
  have h10 : Moves [.field, .safety, .blocks] s0 x10 := by
    unfold x10
    exact .step (.step h6 State.setSec_moves) State.setSec_moves
  clear_value x10
  exact .step (.step h10 State.showSbDiag_moves) State.showSb_moves

theorem State.sbCondition_moves {s0 : State} {a1 a2 a3 : _} : Moves [.field, .safety, .blocks] s0 (State.sbCondition s0 a1 a2 a3) := by
  have e0 := @State.sbCondition.eq_def
  unfold State.sbCondition
  clear e0
  extract_lets +onlyGivenNames x1 x2
  clear_value x1 x2
  refine .ite (fun _ => ?_) (fun _ => ?_)
  · exact .step (.refl ..) State.sbFault_moves
  · exact .refl ..

theorem State.sbPulse_moves {s0 : State} {a1 a2 a3 : _} : Moves [.safety, .field, .blocks] s0 (State.sbPulse s0 a1 a2 a3) := by
  have e0 := @State.sbPulse.eq_def
  unfold State.sbPulse
  clear e0
  extract_lets +onlyGivenNames x1 x2 x3 x4
  clear_value x1 x2 x3 x4
  refine .ite (fun _ => ?_) (fun _ => ?_)
  · exact .refl ..
  · refine .ite (fun _ => ?_) (fun _ => ?_)
    · extract_lets +onlyGivenNames x5
      have h5 : Moves [.safety, .field, .blocks] s0 x5 := by
        unfold x5
        exact .step (.refl ..) State.setSb_moves
      clear_value x5
      refine .ite (fun _ => ?_) (fun _ => ?_)
      · exact .step h5 State.wrT_moves
      · exact .step h5 State.sbFault_moves
    · refine .ite (fun _ => ?_) (fun _ => ?_)
      · extract_lets +onlyGivenNames x6
        have h6 : Moves [.safety, .field, .blocks] s0 x6 := by
          unfold x6
          exact .step (.refl ..) State.setSb_moves
        clear_value x6
        refine .ite (fun _ => ?_) (fun _ => ?_)
        · extract_lets +onlyGivenNames x7
          clear_value x7
          extract_lets +onlyGivenNames x8
          clear_value x8
          extract_lets +onlyGivenNames x9
          have h9 : Moves [.safety, .field, .blocks] s0 x9 := by
            unfold x9
            exact .step h6 State.setSb_moves
          clear_value x9
          exact .step (.step h9 State.wrT_moves) State.sbClear_moves
        · exact .step h6 State.sbFault_moves
      · exact .refl ..

theorem State.setSafe_moves {s0 : State} {a1 : _} : Moves [.ledger] s0 (State.setSafe s0 a1) := by
  have e0 := @State.setSafe.eq_def
  unfold State.setSafe
  clear e0
  refine .ite (fun _ => ?_) (fun _ => ?_)
  · exact .refl ..
  · exact .step (.step (.refl ..) State.wr_moves) State.log_moves

theorem State.showSet_moves {s0 : State} {a1 a2 : _} : Moves [] s0 (State.showSet s0 a1 a2) := by
  have e0 := @State.showSet.eq_def
  unfold State.showSet
  clear e0
  extract_lets +onlyGivenNames x1
  have h1 : Moves [] s0 x1 := by
    unfold x1
    exact .step (.step (.step (.refl ..) State.wr_moves) State.wr_moves) State.wr_moves
  clear_value x1
  extract_lets +onlyGivenNames x2
  have h2 : Moves [] s0 x2 := by
    unfold x2
    exact .step (.step h1 State.wr_moves) State.wr_moves
  clear_value x2
  extract_lets +onlyGivenNames x3
  have h3 : Moves [] s0 x3 := by
    unfold x3
    refine .foldl ?_ (fun y4 b6 hy5 => ?_)
    · exact h2
    · extract_lets +onlyGivenNames x7
      clear_value x7
      extract_lets +onlyGivenNames x8
      have h8 : Moves [] s0 x8 := by
        unfold x8
        exact .step (.step (.step hy5 State.wr_moves) State.wr_moves) State.wr_moves
      clear_value x8
      exact .step (.step h8 State.wr_moves) State.wr_moves
  clear_value x3
  extract_lets +onlyGivenNames x9
  have h9 : Moves [] s0 x9 := by
    unfold x9
    refine .foldl ?_ (fun y10 b12 hy11 => ?_)
    · exact h3
    · extract_lets +onlyGivenNames x13
      clear_value x13
      extract_lets +onlyGivenNames x14
      have h14 : Moves [] s0 x14 := by
        unfold x14
        exact .step (.step (.step hy11 State.wr_moves) State.wr_moves) State.wr_moves
      clear_value x14
      exact .step (.step (.step h14 State.wr_moves) State.wr_moves) State.wr_moves
  clear_value x9
  refine .foldl ?_ (fun y15 b17 hy16 => ?_)
  · exact h9
  · split
    · rename_i y18 y19 y20 y21
      extract_lets +onlyGivenNames x22
      have h22 : Moves [] s0 x22 := by
        unfold x22
        exact .step (.step (.step hy16 State.wr_moves) State.wr_moves) State.wr_moves
      clear_value x22
      extract_lets +onlyGivenNames x23
      have h23 : Moves [] s0 x23 := by
        unfold x23
        exact .step (.step (.step h22 State.wr_moves) State.wr_moves) State.wr_moves
      clear_value x23
      extract_lets +onlyGivenNames x24
      have h24 : Moves [] s0 x24 := by
        unfold x24
        exact .step (.step h23 State.wr_moves) State.wr_moves
      clear_value x24
      exact .step h24 State.wr_moves
    · rename_i y25 y26
      exact hy16

theorem State.siDiscrepancy_moves {s0 : State} {a1 a2 : _} : Moves [.field, .safety] s0 (State.siDiscrepancy s0 a1 a2) := by
  have e0 := @State.siDiscrepancy.eq_def
  unfold State.siDiscrepancy
  clear e0
  extract_lets +onlyGivenNames x1 x2
  clear_value x1 x2
  split
  · rename_i y3 y4 y5
    refine .ite (fun _ => ?_) (fun _ => ?_)
    · exact .step (.step (.step (.refl ..) State.setSec_moves) State.fieldDiag_moves) State.showSi_moves
    · exact .refl ..
  · rename_i y6 y7
    exact .refl ..

theorem State.takeSection_moves {s0 : State} {a1 : _} : Moves [.safety] s0 (State.takeSection s0 a1) := by
  have e0 := @State.takeSection.eq_def
  unfold State.takeSection
  clear e0
  exact .step (.refl ..) State.setChn_moves

theorem State.takeSub_moves {s0 : State} {a1 : _} : Moves [.blocks, .safety] s0 (State.takeSub s0 a1) := by
  have e0 := @State.takeSub.eq_def
  unfold State.takeSub
  clear e0
  extract_lets +onlyGivenNames x1 x2 x3
  clear_value x1 x2 x3
  exact .step (.step (.refl ..) State.setSec_moves) State.showSbs_moves

theorem State.testPulse_moves {s0 : State} {a1 a2 a3 : _} : Moves [.safety, .field] s0 (State.testPulse s0 a1 a2 a3) := by
  have e0 := @State.testPulse.eq_def
  unfold State.testPulse
  clear e0
  refine .ite (fun _ => ?_) (fun _ => ?_)
  · exact .refl ..
  · extract_lets +onlyGivenNames x1
    have h1 : Moves [.safety, .field] s0 x1 := by
      unfold x1
      exact .step (.refl ..) State.wr_moves
    clear_value x1
    extract_lets +onlyGivenNames x2
    clear_value x2
    extract_lets +onlyGivenNames x3
    have h3 : Moves [.safety, .field] s0 x3 := by
      unfold x3
      exact .with_safety h1
    clear_value x3
    extract_lets +onlyGivenNames x4
    unfold x4
    refine .foldl ?_ (fun y15 b17 hy16 => ?_)
    · refine .foldl ?_ (fun y5 b7 hy6 => ?_)
      · exact h3
      · refine .ite (fun _ => ?_) (fun _ => ?_)
        · exact hy6
        · extract_lets +onlyGivenNames x8
          clear_value x8
          extract_lets +onlyGivenNames x9 x10 x11
          clear_value x9 x10 x11
          extract_lets +onlyGivenNames x12
          have h12 : Moves [.safety, .field] s0 x12 := by
            unfold x12
            exact .step hy6 State.setSec_moves
          clear_value x12
          extract_lets +onlyGivenNames x13
          have h13 : Moves [.safety, .field] s0 x13 := by
            unfold x13
            refine .ite (fun _ => ?_) (fun _ => ?_)
            · exact h12
            · exact .step h12 State.fieldDiag_moves
          clear_value x13
          extract_lets +onlyGivenNames x14
          have h14 : Moves [.safety, .field] s0 x14 := by
            unfold x14
            refine .ite (fun _ => ?_) (fun _ => ?_)
            · exact h13
            · exact .step h13 State.fieldDiag_moves
          clear_value x14
          exact .step h14 State.showSi_moves
    · refine .ite (fun _ => ?_) (fun _ => ?_)
      · exact hy16
      · extract_lets +onlyGivenNames x18
        clear_value x18
        extract_lets +onlyGivenNames x19 x20 x21
        clear_value x19 x20 x21
        extract_lets +onlyGivenNames x22
        have h22 : Moves [.safety, .field] s0 x22 := by
          unfold x22
          exact .step hy16 State.setSec_moves
        clear_value x22
        extract_lets +onlyGivenNames x23
        have h23 : Moves [.safety, .field] s0 x23 := by
          unfold x23
          refine .ite (fun _ => ?_) (fun _ => ?_)
          · exact h22
          · exact .step h22 State.fieldDiag_moves
        clear_value x23
        extract_lets +onlyGivenNames x24
        have h24 : Moves [.safety, .field] s0 x24 := by
          unfold x24
          refine .ite (fun _ => ?_) (fun _ => ?_)
          · exact h23
          · exact .step h23 State.fieldDiag_moves
        clear_value x24
        exact .step h24 State.showSi_moves

theorem State.tpFault_moves {s0 : State} {a1 a2 : _} : Moves [.field, .safety] s0 (State.tpFault s0 a1 a2) := by
  have e0 := @State.tpFault.eq_def
  unfold State.tpFault
  clear e0
  refine .ite (fun _ => ?_) (fun _ => ?_)
  · exact .refl ..
  · extract_lets +onlyGivenNames x1
    clear_value x1
    extract_lets +onlyGivenNames x2
    have h2 : Moves [.field, .safety] s0 x2 := by
      unfold x2
      exact .with_safety (.refl ..)
    clear_value x2
    extract_lets +onlyGivenNames x3
    clear_value x3
    extract_lets +onlyGivenNames x4
    have h4 : Moves [.field, .safety] s0 x4 := by
      unfold x4
      refine .ite (fun _ => ?_) (fun _ => ?_)
      · exact .step h2 State.inc_moves
      · exact .with_safety h2
    clear_value x4
    extract_lets +onlyGivenNames x5
    have h5 : Moves [.field, .safety] s0 x5 := by
      unfold x5
      exact .step (.step h4 State.wr_moves) State.fieldDiag_moves
    clear_value x5
    refine .foldl ?_ (fun y6 b8 hy7 => ?_)
    · exact h5
    · exact .step hy7 State.showSi_moves

/-! ## Machine/SafeProgram.lean -/

theorem State.channelOut_moves {s0 : State} {a1 : _} : Moves [.safety] s0 (State.channelOut s0 a1) := by
  have e0 := @State.channelOut.eq_def
  unfold State.channelOut
  clear e0
  extract_lets +onlyGivenNames x1 x2
  clear_value x1 x2
  refine .ite (fun _ => ?_) (fun _ => ?_)
  · exact .refl ..
  · exact .with_safety (.refl ..)

theorem State.commitInputs_moves {s0 : State} {a1 : _} : Moves [] s0 (State.commitInputs s0 a1) := by
  have e0 := @State.commitInputs.eq_def
  unfold State.commitInputs
  clear e0
  refine .foldl ?_ (fun y1 b3 hy2 => ?_)
  · exact .refl ..
  · extract_lets +onlyGivenNames x4
    clear_value x4
    extract_lets +onlyGivenNames x5
    clear_value x5
    extract_lets +onlyGivenNames x6
    have h6 : Moves [] s0 x6 := by
      unfold x6
      exact .step hy2 State.wr_moves
    clear_value x6
    refine .ite (fun _ => ?_) (fun _ => ?_)
    · exact .step (.step h6 State.inc_moves) State.wrT_moves
    · exact h6

theorem State.trackDisagree_moves {s0 : State} {a1 : _} : Moves [.field, .safety] s0 (State.trackDisagree s0 a1) := by
  have e0 := @State.trackDisagree.eq_def
  unfold State.trackDisagree
  clear e0
  extract_lets +onlyGivenNames x1 x2
  clear_value x1 x2
  refine .ite (fun _ => ?_) (fun _ => ?_)
  · exact .refl ..
  · refine .ite (fun _ => ?_) (fun _ => ?_)
    · extract_lets +onlyGivenNames x3
      clear_value x3
      extract_lets +onlyGivenNames x4
      clear_value x4
      extract_lets +onlyGivenNames x5
      have h5 : Moves [.field, .safety] s0 x5 := by
        unfold x5
        exact .with_safety (.refl ..)
      clear_value x5
      extract_lets +onlyGivenNames x6
      clear_value x6
      refine .ite (fun _ => ?_) (fun _ => ?_)
      · exact .step (.step (.with_safety h5) State.fieldDiag_moves) State.showSi_moves
      · exact h5
    · extract_lets +onlyGivenNames x7
      clear_value x7
      extract_lets +onlyGivenNames x8
      clear_value x8
      extract_lets +onlyGivenNames x9
      have h9 : Moves [.field, .safety] s0 x9 := by
        unfold x9
        exact .with_safety (.refl ..)
      clear_value x9
      refine .ite (fun _ => ?_) (fun _ => ?_)
      · exact .step (.step (.with_safety h9) State.fieldDiag_moves) State.showSi_moves
      · exact h9

theorem State.htRequest_moves {s0 : State} {a1 a2 : _} : Moves [.can] s0 (State.htRequest s0 a1 a2) := by
  have e0 := @State.htRequest.eq_def
  unfold State.htRequest
  clear e0
  split
  · rename_i y1 y2 y3 y4 y5 y6 y7 y8 y9 y10 y11 y12
    exact .step (.refl ..) State.setImage_moves
  · rename_i y13 y14
    exact .refl ..

theorem State.htEnd_moves {s0 : State} {a1 a2 : _} : Moves [.ledger] s0 (State.htEnd s0 a1 a2) := by
  have e0 := @State.htEnd.eq_def
  unfold State.htEnd
  clear e0
  exact .step (.step (.refl ..) State.wr_moves) State.log_moves

theorem State.htStop_moves {s0 : State} {a1 a2 : _} : Moves [.can, .safety, .blocks, .ledger] s0 (State.htStop s0 a1 a2) := by
  have e0 := @State.htStop.eq_def
  unfold State.htStop
  clear e0
  extract_lets +onlyGivenNames x1
  clear_value x1
  extract_lets +onlyGivenNames x2
  have h2 : Moves [.can, .safety, .blocks, .ledger] s0 x2 := by
    unfold x2
    exact .step (.step (.refl ..) State.setSb_moves) State.htRequest_moves
  clear_value x2
  extract_lets +onlyGivenNames x3
  clear_value x3
  extract_lets +onlyGivenNames x4
  have h4 : Moves [.can, .safety, .blocks, .ledger] s0 x4 := by
    unfold x4
    refine .ite (fun _ => ?_) (fun _ => ?_)
    · exact .step h2 State.setSb_moves
    · refine .ite (fun _ => ?_) (fun _ => ?_)
      · exact .step (.step h2 State.setSb_moves) State.wrR_moves
      · exact h2
  clear_value x4
  exact .step (.step (.step h4 State.wr_moves) State.htEnd_moves) State.showSbDiag_moves

theorem State.htCommit_moves {s0 : State} {a1 a2 a3 : _} : Moves [.can, .safety, .blocks, .ledger] s0 (State.htCommit s0 a1 a2 a3) := by
  have e0 := @State.htCommit.eq_def
  unfold State.htCommit
  clear e0
  extract_lets +onlyGivenNames x1
  clear_value x1
  refine .ite (fun _ => ?_) (fun _ => ?_)
  · exact .step (.step (.step (.refl ..) State.setSb_moves) State.htRequest_moves) State.wr_moves
  · split
    · rename_i y2 y3
      exact .refl ..
    · rename_i y4 y5 y6
      extract_lets +onlyGivenNames x7 x8
      clear_value x7 x8
      refine .ite (fun _ => ?_) (fun _ => ?_)
      · exact .step (.refl ..) State.htStop_moves
      · refine .ite (fun _ => ?_) (fun _ => ?_)
        · exact .step (.refl ..) State.htStop_moves
        · refine .ite (fun _ => ?_) (fun _ => ?_)
          · exact .refl ..
          · refine .ite (fun _ => ?_) (fun _ => ?_)
            · refine .ite (fun _ => ?_) (fun _ => ?_)
              · exact .step (.step (.refl ..) State.setSb_moves) State.wr_moves
              · exact .step (.refl ..) State.htStop_moves
            · refine .ite (fun _ => ?_) (fun _ => ?_)
              · exact .step (.refl ..) State.htStop_moves
              · exact .refl ..

theorem State.setEsc_moves {s0 : State} {a1 a2 : _} : Moves [.ledger] s0 (State.setEsc s0 a1 a2) := by
  have e0 := @State.setEsc.eq_def
  unfold State.setEsc
  clear e0
  refine .ite (fun _ => ?_) (fun _ => ?_)
  · exact .refl ..
  · extract_lets +onlyGivenNames x1
    have h1 : Moves [.ledger] s0 x1 := by
      unfold x1
      exact .step (.step (.refl ..) State.wr_moves) State.log_moves
    clear_value x1
    refine .ite (fun _ => ?_) (fun _ => ?_)
    · exact .step h1 State.log_moves
    · exact h1

theorem State.setConn_moves {s0 : State} {a1 a2 : _} : Moves [.safety] s0 (State.setConn s0 a1 a2) := by
  have e0 := @State.setConn.eq_def
  unfold State.setConn
  clear e0
  exact .with_safety (.refl ..)

theorem State.escAccept_moves {s0 : State} {a1 a2 a3 a4 a5 : _} : Moves [.safety, .ledger] s0 (State.escAccept s0 a1 a2 a3 a4 a5) := by
  have e0 := @State.escAccept.eq_def
  unfold State.escAccept
  clear e0
  extract_lets +onlyGivenNames x1 x2 x3 x4
  clear_value x1 x2 x3 x4
  extract_lets +onlyGivenNames x5
  have h5 : Moves [.safety, .ledger] s0 x5 := by
    unfold x5
    exact .step (.step (.refl ..) State.setConn_moves) State.inc_moves
  clear_value x5
  extract_lets +onlyGivenNames x6
  have h6 : Moves [.safety, .ledger] s0 x6 := by
    unfold x6
    refine .ite (fun _ => ?_) (fun _ => ?_)
    · exact h5
    · exact .step h5 State.inc_moves
  clear_value x6
  exact .step (.step h6 State.raise_moves) State.setEsc_moves

theorem State.escApply_moves {s0 : State} {a1 a2 a3 : _} : Moves [.ledger, .safety] s0 (State.escApply s0 a1 a2 a3) := by
  have e0 := @State.escApply.eq_def
  unfold State.escApply
  clear e0
  split
  · rename_i y1
    exact .step (.step (.step (.refl ..) State.setConn_moves) State.setEsc_moves) State.inc_moves
  · rename_i y2 y3 y4 y5
    exact .step (.refl ..) State.escAccept_moves

theorem State.escSend_moves {s0 : State} {a1 a2 : _} : Moves [.safety] s0 (State.escSend s0 a1 a2) := by
  have e0 := @State.escSend.eq_def
  unfold State.escSend
  clear e0
  extract_lets +onlyGivenNames x1
  clear_value x1
  split
  · rename_i y2 y3
    exact .refl ..
  · rename_i y4 y5 y6
    refine .ite (fun _ => ?_) (fun _ => ?_)
    · extract_lets +onlyGivenNames x7
      clear_value x7
      extract_lets +onlyGivenNames x8 x9 x10 x11 x12 x13 x14
      clear_value x8 x9 x10 x11 x12 x13 x14
      extract_lets +onlyGivenNames x15
      have h15 : Moves [.safety] s0 x15 := by
        unfold x15
        exact .step (.refl ..) State.setConn_moves
      clear_value x15
      exact .step (.step h15 State.place_moves) State.place_moves
    · exact .step (.refl ..) State.setConn_moves

theorem State.safeCan_moves {s0 : State} {a1 : _} : Moves [.can] s0 (State.safeCan s0 a1) := by
  have e0 := @State.safeCan.eq_def
  unfold State.safeCan
  clear e0
  refine .foldl ?_ (fun y1 b3 hy2 => ?_)
  · exact .refl ..
  · refine .ite (fun _ => ?_) (fun _ => ?_)
    · exact .step hy2 State.setImage_moves
    · exact hy2

theorem State.commitBoth_moves {s0 : State} {a1 a2 : _} : Moves [.safety, .field, .can, .blocks, .ledger] s0 (State.commitBoth s0 a1 a2) := by
  have e0 := @State.commitBoth.eq_def
  unfold State.commitBoth
  clear e0
  extract_lets +onlyGivenNames x1
  extract_lets +onlyGivenNames x2
  clear_value x2
  extract_lets +onlyGivenNames x3
  have h3 : Moves [.safety, .field, .can, .blocks, .ledger] s0 x3 := by
    unfold x3
    exact .step (.refl ..) State.commitInputs_moves
  clear_value x3
  extract_lets +onlyGivenNames x4 x5 x6
  clear_value x4 x5 x6
  extract_lets +onlyGivenNames x7
  have h7 : Moves [.safety, .field, .can, .blocks, .ledger] s0 x7 := by
    unfold x7
    exact .step (.step h3 State.setChn_moves) State.setChn_moves
  clear_value x7
  extract_lets +onlyGivenNames x8
  have h8 : Moves [.safety, .field, .can, .blocks, .ledger] s0 x8 := by
    unfold x8
    refine .foldl ?_ (fun y9 b11 hy10 => ?_)
    · exact h7
    · exact .step hy10 State.trackDisagree_moves
  clear_value x8
  extract_lets +onlyGivenNames x12
  have h12 : Moves [.safety, .field, .can, .blocks, .ledger] s0 x12 := by
    unfold x12
    refine .foldl ?_ (fun y13 b15 hy14 => ?_)
    · exact h8
    · exact .step hy14 State.htCommit_moves
  clear_value x12
  extract_lets +onlyGivenNames x16
  have h16 : Moves [.safety, .field, .can, .blocks, .ledger] s0 x16 := by
    unfold x16
    refine .foldl ?_ (fun y17 b19 hy18 => ?_)
    · exact h12
    · extract_lets +onlyGivenNames x20
      clear_value x20
      extract_lets +onlyGivenNames x21
      have h21 : Moves [.safety, .field, .can, .blocks, .ledger] s0 x21 := by
        unfold x21
        refine .ite (fun _ => ?_) (fun _ => ?_)
        · exact .step hy18 State.setSb_moves
        · exact hy18
      clear_value x21
      refine .ite (fun _ => ?_) (fun _ => ?_)
      · refine .ite (fun _ => ?_) (fun _ => ?_)
        · exact .step h21 State.htEnd_moves
        · exact .step h21 State.setSb_moves
      · exact h21
  clear_value x16
  extract_lets +onlyGivenNames x22
  clear_value x22
  extract_lets +onlyGivenNames x23
  have h23 : Moves [.safety, .field, .can, .blocks, .ledger] s0 x23 := by
    unfold x23
    exact .with_safety h16
  clear_value x23
  extract_lets +onlyGivenNames x24
  have h24 : Moves [.safety, .field, .can, .blocks, .ledger] s0 x24 := by
    unfold x24
    refine .foldl ?_ (fun y25 b27 hy26 => ?_)
    · exact h23
    · refine .ite (fun _ => ?_) (fun _ => ?_)
      · exact .step (.step hy26 State.setConn_moves) State.setEsc_moves
      · exact .step hy26 State.setConn_moves
  clear_value x24
  extract_lets +onlyGivenNames x28
  have h28 : Moves [.safety, .field, .can, .blocks, .ledger] s0 x28 := by
    unfold x28
    refine .foldl ?_ (fun y29 b31 hy30 => ?_)
    · exact h24
    · exact .step hy30 State.escApply_moves
  clear_value x28
  extract_lets +onlyGivenNames x32
  have h32 : Moves [.safety, .field, .can, .blocks, .ledger] s0 x32 := by
    unfold x32
    refine .foldl ?_ (fun y33 b35 hy34 => ?_)
    · exact h28
    · extract_lets +onlyGivenNames x36
      clear_value x36
      split
      · rename_i y37 y38 y39
        exact .step hy34 State.wr_moves
      · rename_i y40 y41
        exact hy34
  clear_value x32
  extract_lets +onlyGivenNames x42
  have h42 : Moves [.safety, .field, .can, .blocks, .ledger] s0 x42 := by
    unfold x42
    refine .foldl ?_ (fun y43 b45 hy44 => ?_)
    · exact h32
    · exact .step hy44 State.escSend_moves
  clear_value x42
  extract_lets +onlyGivenNames x46
  have h46 : Moves [.safety, .field, .can, .blocks, .ledger] s0 x46 := by
    unfold x46
    exact .step h42 State.safeCan_moves
  clear_value x46
  extract_lets +onlyGivenNames x47 x48
  clear_value x47 x48
  extract_lets +onlyGivenNames x49
  have h49 : Moves [.safety, .field, .can, .blocks, .ledger] s0 x49 := by
    unfold x49
    exact .with_safety h46
  clear_value x49
  refine .ite (fun _ => ?_) (fun _ => ?_)
  · exact .step h49 State.setSafe_moves
  · exact h49

theorem State.commitLone_moves {s0 : State} {a1 a2 a3 : _} : Moves [.safety, .can, .blocks, .ledger] s0 (State.commitLone s0 a1 a2 a3) := by
  have e0 := @State.commitLone.eq_def
  unfold State.commitLone
  clear e0
  extract_lets +onlyGivenNames x1
  have h1 : Moves [.safety, .can, .blocks, .ledger] s0 x1 := by
    unfold x1
    exact .step (.refl ..) State.commitInputs_moves
  clear_value x1
  extract_lets +onlyGivenNames x2
  clear_value x2
  extract_lets +onlyGivenNames x3
  have h3 : Moves [.safety, .can, .blocks, .ledger] s0 x3 := by
    unfold x3
    exact .step h1 State.setChn_moves
  clear_value x3
  extract_lets +onlyGivenNames x4
  have h4 : Moves [.safety, .can, .blocks, .ledger] s0 x4 := by
    unfold x4
    refine .foldl ?_ (fun y5 b7 hy6 => ?_)
    · exact h3
    · exact .step hy6 State.htCommit_moves
  clear_value x4
  exact .with_safety h4

theorem State.effHtStart_moves {s0 : State} {a1 a2 : _} : Moves [.ledger, .safety] s0 (State.effHtStart s0 a1 a2) := by
  have e0 := @State.effHtStart.eq_def
  unfold State.effHtStart
  clear e0
  refine .ite (fun _ => ?_) (fun _ => ?_)
  · exact .refl ..
  · refine .ite (fun _ => ?_) (fun _ => ?_)
    · exact .step (.refl ..) State.htEnd_moves
    · refine .ite (fun _ => ?_) (fun _ => ?_)
      · exact .step (.refl ..) State.setSb_moves
      · exact .step (.refl ..) State.htEnd_moves

theorem State.effSafetyReset_moves {s0 : State} {a1 a2 : _} : Moves [.ledger, .safety] s0 (State.effSafetyReset s0 a1 a2) := by
  have e0 := @State.effSafetyReset.eq_def
  unfold State.effSafetyReset
  clear e0
  refine .ite (fun _ => ?_) (fun _ => ?_)
  · exact .refl ..
  · extract_lets +onlyGivenNames x1
    have h1 : Moves [.ledger, .safety] s0 x1 := by
      unfold x1
      exact .step (.refl ..) State.log_moves
    clear_value x1
    extract_lets +onlyGivenNames x2
    have h2 : Moves [.ledger, .safety] s0 x2 := by
      unfold x2
      exact .step (.step h1 State.wr_moves) State.setSafe_moves
    clear_value x2
    exact .with_safety h2

theorem State.logSps_moves {s0 : State} {a1 a2 a3 : _} : Moves [.ledger] s0 (State.logSps s0 a1 a2 a3) := by
  have e0 := @State.logSps.eq_def
  unfold State.logSps
  clear e0
  exact .step (.refl ..) State.log_moves

theorem State.escStart_moves {s0 : State} : Moves [.ledger, .free, .safety] s0 (State.escStart s0) := by
  have e0 := @State.escStart.eq_def
  unfold State.escStart
  clear e0
  refine .foldl ?_ (fun y1 b3 hy2 => ?_)
  · exact .refl ..
  · split
    · rename_i y4 y5 y6 y7
      extract_lets +onlyGivenNames x8
      have h8 : Moves [.ledger, .free, .safety] s0 x8 := by
        unfold x8
        exact .step (.step (.step hy2 State.setConn_moves) State.drawn_moves) State.setEsc_moves
      clear_value x8
      exact .step h8 State.wr_moves
    · rename_i y9 y10
      exact .step (.step hy2 State.setConn_moves) State.setEsc_moves

theorem State.safetyStart_moves {s0 : State} : Moves [.ledger, .free, .safety] s0 (State.safetyStart s0) := by
  have e0 := @State.safetyStart.eq_def
  unfold State.safetyStart
  clear e0
  extract_lets +onlyGivenNames x1
  clear_value x1
  extract_lets +onlyGivenNames x2
  have h2 : Moves [.ledger, .free, .safety] s0 x2 := by
    unfold x2
    exact .with_safety (.refl ..)
  clear_value x2
  extract_lets +onlyGivenNames x3
  have h3 : Moves [.ledger, .free, .safety] s0 x3 := by
    unfold x3
    refine .foldl ?_ (fun y4 b6 hy5 => ?_)
    · exact h2
    · exact .step hy5 State.wr_moves
  clear_value x3
  extract_lets +onlyGivenNames x7
  have h7 : Moves [.ledger, .free, .safety] s0 x7 := by
    unfold x7
    refine .foldl ?_ (fun y8 b10 hy9 => ?_)
    · exact h3
    · exact .step hy9 State.wr_moves
  clear_value x7
  exact .step (.step (.step h7 State.wr_moves) State.setSafe_moves) State.escStart_moves

theorem State.safetyConfigure_moves {s0 : State} : Moves [.ledger, .free, .safety] s0 (State.safetyConfigure s0) := by
  have e0 := @State.safetyConfigure.eq_def
  unfold State.safetyConfigure
  clear e0
  extract_lets +onlyGivenNames x1
  clear_value x1
  refine .ite (fun _ => ?_) (fun _ => ?_)
  · exact .refl ..
  · refine .ite (fun _ => ?_) (fun _ => ?_)
    · exact .step (.refl ..) State.safetyStart_moves
    · extract_lets +onlyGivenNames x2
      clear_value x2
      extract_lets +onlyGivenNames x3
      have h3 : Moves [.ledger, .free, .safety] s0 x3 := by
        unfold x3
        exact .with_safety (.refl ..)
      clear_value x3
      extract_lets +onlyGivenNames x4 x5
      clear_value x4 x5
      extract_lets +onlyGivenNames x6
      have h6 : Moves [.ledger, .free, .safety] s0 x6 := by
        unfold x6
        exact .step (.step h3 State.setChn_moves) State.setChn_moves
      clear_value x6
      exact .step h6 State.setSafe_moves

theorem State.effSpsCommit_moves {s0 : State} {a1 a2 : _} : Moves [.ledger, .free, .safety] s0 (State.effSpsCommit s0 a1 a2) := by
  have e0 := @State.effSpsCommit.eq_def
  unfold State.effSpsCommit
  clear e0
  extract_lets +onlyGivenNames x1 x2
  clear_value x1 x2
  split
  · rename_i y3 y4
    exact .step (.step (.refl ..) State.wr_moves) State.logSps_moves
  · rename_i y5 y6 y7
    refine .ite (fun _ => ?_) (fun _ => ?_)
    · exact .step (.step (.refl ..) State.wr_moves) State.logSps_moves
    · refine .ite (fun _ => ?_) (fun _ => ?_)
      · exact .step (.step (.refl ..) State.wr_moves) State.logSps_moves
      · extract_lets +onlyGivenNames x8
        have h8 : Moves [.ledger, .free, .safety] s0 x8 := by
          unfold x8
          exact .step (.step (.refl ..) State.wr_moves) State.logSps_moves
        clear_value x8
        extract_lets +onlyGivenNames x9
        clear_value x9
        extract_lets +onlyGivenNames x10
        have h10 : Moves [.ledger, .free, .safety] s0 x10 := by
          unfold x10
          exact .with_safety h8
        clear_value x10
        exact .step (.step h10 State.showSet_moves) State.safetyConfigure_moves

theorem State.effSpsData_moves {s0 : State} {a1 : _} : Moves [.safety] s0 (State.effSpsData s0 a1) := by
  have e0 := @State.effSpsData.eq_def
  unfold State.effSpsData
  clear e0
  extract_lets +onlyGivenNames x1 x2
  clear_value x1 x2
  extract_lets +onlyGivenNames x3
  have h3 : Moves [.safety] s0 x3 := by
    unfold x3
    exact .with_safety (.refl ..)
  clear_value x3
  exact .step (.step h3 State.raise_moves) State.wr_moves

theorem State.escReceived_moves {s0 : State} {a1 : _} : Moves [.safety] s0 (State.escReceived s0 a1) := by
  have e0 := @State.escReceived.eq_def
  unfold State.escReceived
  clear e0
  split
  · rename_i y1 y2 y3 y4
    have h_y2 : Moves [.safety] s0 y2 := by
      rw [show y2 = _ from (congrArg Prod.fst y4).symm]
      exact .step (.refl ..) State.pop_moves
    split
    · rename_i y5 y6 y7 y8
      extract_lets +onlyGivenNames x9
      clear_value x9
      exact .step h_y2 State.setConn_moves
    · rename_i y10 y11
      exact .step h_y2 State.inc_moves
  · rename_i y12 y13 y14 y15 y16
    have h_y13 : Moves [.safety] s0 y13 := by
      rw [show y13 = _ from (congrArg Prod.fst y16).symm]
      exact .step (.refl ..) State.pop_moves
    exact h_y13

theorem State.escTimeout_moves {s0 : State} {a1 : _} : Moves [.ledger, .safety] s0 (State.escTimeout s0 a1) := by
  have e0 := @State.escTimeout.eq_def
  unfold State.escTimeout
  clear e0
  extract_lets +onlyGivenNames x1 x2
  clear_value x1 x2
  split
  · rename_i y3 y4 y5 y6
    refine .ite (fun _ => ?_) (fun _ => ?_)
    · exact .step (.step (.step (.refl ..) State.setConn_moves) State.setEsc_moves) State.inc_moves
    · exact .refl ..
  · rename_i y7 y8
    exact .refl ..

theorem State.evalInputs_moves {s0 : State} {a1 a2 : _} : Moves [.safety] s0 (State.evalInputs s0 a1 a2) := by
  have e0 := @State.evalInputs.eq_def
  unfold State.evalInputs
  clear e0
  refine .foldl ?_ (fun y1 b3 hy2 => ?_)
  · exact .refl ..
  · extract_lets +onlyGivenNames x4
    clear_value x4
    extract_lets +onlyGivenNames x5 x6
    clear_value x5 x6
    extract_lets +onlyGivenNames x7
    have h7 : Moves [.safety] s0 x7 := by
      unfold x7
      refine .ite (fun _ => ?_) (fun _ => ?_)
      · exact .step hy2 State.setChn_moves
      · exact hy2
    clear_value x7
    refine .step ?_ State.showSi_moves
    refine .ite (fun _ => ?_) (fun _ => ?_)
    · exact .step h7 State.setChn_moves
    · exact h7

theorem State.htRelease_moves {s0 : State} {a1 : _} : Moves [.safety, .ledger] s0 (State.htRelease s0 a1).1 := by
  have e0 := @State.htRelease.eq_def
  unfold State.htRelease
  clear e0
  refine .foldl_fst ?_ (fun y1 k3 b4 hy2 => ?_)
  · exact .refl ..
  · dsimp -zeta only
    extract_lets +onlyGivenNames x5
    clear_value x5
    split
    · rename_i y6
      dsimp -zeta only
      exact hy2
    · rename_i y7
      extract_lets +onlyGivenNames x8
      have h8 : Moves [.safety, .ledger] s0 x8 := by
        unfold x8
        exact .step hy2 State.setSb_moves
      clear_value x8
      split
      · rename_i y9
        dsimp -zeta only
        exact h8
      · rename_i y10
        dsimp -zeta only
        exact .step h8 State.htEnd_moves

theorem State.rejoin_moves {s0 : State} {a1 : _} : Moves [.safety] s0 (State.rejoin s0 a1) := by
  have e0 := @State.rejoin.eq_def
  unfold State.rejoin
  clear e0
  extract_lets +onlyGivenNames x1 x2
  clear_value x1 x2
  exact .step (.refl ..) State.setChn_moves

theorem State.safetyStop_moves {s0 : State} {a1 : _} : Moves [.blocks, .ledger, .safety] s0 (State.safetyStop s0 a1) := by
  have e0 := @State.safetyStop.eq_def
  unfold State.safetyStop
  clear e0
  refine .ite (fun _ => ?_) (fun _ => ?_)
  · exact .refl ..
  · extract_lets +onlyGivenNames x1
    have h1 : Moves [.blocks, .ledger, .safety] s0 x1 := by
      unfold x1
      exact .step (.step (.step (.refl ..) State.wr_moves) State.setSafe_moves) State.incR_moves
    clear_value x1
    extract_lets +onlyGivenNames x2 x3
    clear_value x2 x3
    extract_lets +onlyGivenNames x4
    have h4 : Moves [.blocks, .ledger, .safety] s0 x4 := by
      unfold x4
      exact .step (.step h1 State.setChn_moves) State.setChn_moves
    clear_value x4
    exact .with_safety h4

theorem State.safetyCommit_moves {s0 : State} {a1 a2 : _} : Moves [.safety, .can, .blocks, .ledger, .field] s0 (State.safetyCommit s0 a1 a2) := by
  have e0 := @State.safetyCommit.eq_def
  unfold State.safetyCommit
  clear e0
  split
  · rename_i y1 y2
    exact .refl ..
  · rename_i y3 y4 y5
    extract_lets +onlyGivenNames x6
    split
    · rename_i y7 y8 y9
      refine .ite (fun _ => ?_) (fun _ => ?_)
      · unfold x6
        extract_lets +onlyGivenNames x10
        have h10 : Moves [.safety, .can, .blocks, .ledger, .field] s0 x10 := by
          unfold x10
          exact .step (.step (.refl ..) State.commitLone_moves) State.raise_moves
        clear_value x10
        exact .with_safety h10
      · exact .refl ..
    · rename_i y11 y12
      refine .ite (fun _ => ?_) (fun _ => ?_)
      · exact .refl ..
      · refine .ite (fun _ => ?_) (fun _ => ?_)
        · unfold x6
          extract_lets +onlyGivenNames x13
          have h13 : Moves [.safety, .can, .blocks, .ledger, .field] s0 x13 := by
            unfold x13
            exact .step (.step (.refl ..) State.commitBoth_moves) State.raise_moves
          clear_value x13
          exact .with_safety h13
        · extract_lets +onlyGivenNames x14
          have h14 : Moves [.safety, .can, .blocks, .ledger, .field] s0 x14 := by
            unfold x14
            exact .step (.refl ..) State.safetyStop_moves
          clear_value x14
          unfold x6
          extract_lets +onlyGivenNames x15
          clear_value x15
          extract_lets +onlyGivenNames x16
          have h16 : Moves [.safety, .can, .blocks, .ledger, .field] s0 x16 := by
            unfold x16
            exact .step (.with_safety h14) State.raise_moves
          clear_value x16
          exact .with_safety h16

theorem State.safetyFail_moves {s0 : State} {a1 : _} : Moves [.ledger, .safety] s0 (State.safetyFail s0 a1) := by
  have e0 := @State.safetyFail.eq_def
  unfold State.safetyFail
  clear e0
  extract_lets +onlyGivenNames x1
  have h1 : Moves [.ledger, .safety] s0 x1 := by
    unfold x1
    exact .step (.step (.refl ..) State.wr_moves) State.setSafe_moves
  clear_value x1
  extract_lets +onlyGivenNames x2
  clear_value x2
  extract_lets +onlyGivenNames x3
  have h3 : Moves [.ledger, .safety] s0 x3 := by
    unfold x3
    exact .with_safety h1
  clear_value x3
  exact .step (.step h3 State.setChn_moves) State.setChn_moves

theorem State.safetyOff_moves {s0 : State} : Moves [.ledger, .safety] s0 (State.safetyOff s0) := by
  have e0 := @State.safetyOff.eq_def
  unfold State.safetyOff
  clear e0
  refine .ite (fun _ => ?_) (fun _ => ?_)
  · exact .step (.refl ..) State.safetyFail_moves
  · exact .step (.step (.refl ..) State.setChn_moves) State.setChn_moves

theorem State.safetyRelease_moves {s0 : State} : Moves [.blocks, .ledger, .safety] s0 (State.safetyRelease s0) := by
  have e0 := @State.safetyRelease.eq_def
  unfold State.safetyRelease
  clear e0
  extract_lets +onlyGivenNames x1
  clear_value x1
  refine .ite (fun _ => ?_) (fun _ => ?_)
  · exact .refl ..
  · extract_lets +onlyGivenNames x2
    have h2 : Moves [.blocks, .ledger, .safety] s0 x2 := by
      unfold x2
      exact .step (.refl ..) State.safetyStop_moves
    clear_value x2
    extract_lets +onlyGivenNames x3
    clear_value x3
    extract_lets +onlyGivenNames x4
    have h4 : Moves [.blocks, .ledger, .safety] s0 x4 := by
      unfold x4
      refine .ite (fun _ => ?_) (fun _ => ?_)
      · exact .with_safety h2
      · exact .refl ..
    clear_value x4
    extract_lets +onlyGivenNames x5 x6
    clear_value x5 x6
    extract_lets +onlyGivenNames x7
    extract_lets +onlyGivenNames x8
    clear_value x8
    extract_lets +onlyGivenNames x9
    have h9 : Moves [.blocks, .ledger, .safety] s0 x9 := by
      unfold x9
      refine .ite (fun _ => ?_) (fun _ => ?_)
      · exact .step h4 State.safetyStop_moves
      · exact h4
    clear_value x9
    extract_lets +onlyGivenNames x10 x11
    clear_value x10 x11
    extract_lets +onlyGivenNames x12
    have h12 : Moves [.blocks, .ledger, .safety] s0 x12 := by
      unfold x12
      split
      · rename_i y13 y14 y15
        refine .ite (fun _ => ?_) (fun _ => ?_)
        · exact .step h9 State.rejoin_moves
        · exact h9
      · rename_i y16 y17
        exact h9
    clear_value x12
    extract_lets +onlyGivenNames x18
    have h18 : Moves [.blocks, .ledger, .safety] s0 x18 := by
      unfold x18
      exact .step h12 State.evalInputs_moves
    clear_value x18
    extract_lets +onlyGivenNames x19
    have h19 : Moves [.blocks, .ledger, .safety] s0 x19 := by
      unfold x19
      refine .foldl ?_ (fun y20 b22 hy21 => ?_)
      · exact h18
      · exact .step hy21 State.escTimeout_moves
    clear_value x19
    extract_lets +onlyGivenNames x23
    clear_value x23
    split
    · rename_i y24 y25 y26 y27
      have h_y25 : Moves [.blocks, .ledger, .safety] s0 y25 := by
        rw [show y25 = _ from (congrArg Prod.fst y27).symm]
        exact .step h19 State.htRelease_moves
      exact .with_safety h_y25

/-! ## Machine/FieldSide.lean -/

theorem State.showFieldSide_moves {s0 : State} : Moves [.field] s0 (State.showFieldSide s0) := by
  have e0 := @State.showFieldSide.eq_def
  unfold State.showFieldSide
  clear e0
  exact .step (.step (.step (.step (.refl ..) State.refreshDos_moves) State.refreshAos_moves) State.showField_moves) State.showAnalog_moves

theorem State.enterSilence_moves {s0 : State} : Moves [.field, .blocks, .safety, .answer, .eop, .motion] s0 (State.enterSilence s0) := by
  have e0 := @State.enterSilence.eq_def
  unfold State.enterSilence
  clear e0
  extract_lets +onlyGivenNames x1
  clear_value x1
  extract_lets +onlyGivenNames x2
  have h2 : Moves [.field, .blocks, .safety, .answer, .eop, .motion] s0 x2 := by
    unfold x2
    exact .with_field (.refl ..)
  clear_value x2
  extract_lets +onlyGivenNames x3
  have h3 : Moves [.field, .blocks, .safety, .answer, .eop, .motion] s0 x3 := by
    unfold x3
    exact .step (.step (.step h2 State.incR_moves) State.wrT_moves) State.fieldDiag_moves
  clear_value x3
  exact .step (.step (.step h3 State.showFieldSide_moves) State.axesSilence_moves) State.brakesOff_moves

theorem State.fieldOff_moves {s0 : State} : Moves [.safety, .blocks, .motion, .field] s0 (State.fieldOff s0) := by
  have e0 := @State.fieldOff.eq_def
  unfold State.fieldOff
  clear e0
  refine .ite (fun _ => ?_) (fun _ => ?_)
  · exact .refl ..
  · extract_lets +onlyGivenNames x1
    clear_value x1
    extract_lets +onlyGivenNames x2
    have h2 : Moves [.safety, .blocks, .motion, .field] s0 x2 := by
      unfold x2
      exact .with_field (.refl ..)
    clear_value x2
    exact .step (.step (.step (.step h2 State.showFieldSide_moves) State.bypassCloses_moves) State.axesDisable_moves) State.brakesOff_moves

theorem State.fieldOn_moves {s0 : State} : Moves [.blocks, .field] s0 (State.fieldOn s0) := by
  have e0 := @State.fieldOn.eq_def
  unfold State.fieldOn
  clear e0
  refine .ite (fun _ => ?_) (fun _ => ?_)
  · exact .refl ..
  · exact .step (.step (.with_field (.refl ..)) State.showFieldSide_moves) State.showSbs_moves

theorem State.fieldResume_moves {s0 : State} : Moves [.field] s0 (State.fieldResume s0) := by
  have e0 := @State.fieldResume.eq_def
  unfold State.fieldResume
  clear e0
  extract_lets +onlyGivenNames x1 x2
  clear_value x1 x2
  extract_lets +onlyGivenNames x3
  have h3 : Moves [.field] s0 x3 := by
    unfold x3
    exact .with_field (.refl ..)
  clear_value x3
  extract_lets +onlyGivenNames x4
  have h4 : Moves [.field] s0 x4 := by
    unfold x4
    refine .ite (fun _ => ?_) (fun _ => ?_)
    · exact .step h3 State.fieldDiag_moves
    · exact h3
  clear_value x4
  exact .step h4 State.showAis_moves

theorem State.offReset_moves {s0 : State} {a1 : _} : Moves [.field] s0 (State.offReset s0 a1) := by
  have e0 := @State.offReset.eq_def
  unfold State.offReset
  clear e0
  extract_lets +onlyGivenNames x1
  clear_value x1
  refine .ite (fun _ => ?_) (fun _ => ?_)
  · exact .refl ..
  · refine .ite (fun _ => ?_) (fun _ => ?_)
    · exact .step (.refl ..) State.setDout_moves
    · extract_lets +onlyGivenNames x2
      have h2 : Moves [.field] s0 x2 := by
        unfold x2
        exact .step (.refl ..) State.setDout_moves
      clear_value x2
      refine .ite (fun _ => ?_) (fun _ => ?_)
      · exact .step h2 State.leaveTrip_moves
      · exact h2

theorem State.latchOutputs_moves {s0 : State} : Moves [.field] s0 (State.latchOutputs s0) := by
  have e0 := @State.latchOutputs.eq_def
  unfold State.latchOutputs
  clear e0
  extract_lets +onlyGivenNames x1
  have h1 : Moves [.field] s0 x1 := by
    unfold x1
    refine .foldl ?_ (fun y2 b4 hy3 => ?_)
    · exact .refl ..
    · exact .step hy3 State.wr_moves
  clear_value x1
  extract_lets +onlyGivenNames x5
  have h5 : Moves [.field] s0 x5 := by
    unfold x5
    refine .foldl ?_ (fun y6 b8 hy7 => ?_)
    · exact h1
    · exact .step hy7 State.offReset_moves
  clear_value x5
  refine .foldl ?_ (fun y9 b11 hy10 => ?_)
  · exact h5
  · exact .step hy10 State.aoCommand_moves

theorem State.frameToField_moves {s0 : State} {a1 a2 a3 a4 : _} : Moves [.field, .blocks, .safety, .motion] s0 (State.frameToField s0 a1 a2 a3 a4) := by
  have e0 := @State.frameToField.eq_def
  unfold State.frameToField
  clear e0
  refine .ite (fun _ => ?_) (fun _ => ?_)
  · exact .refl ..
  · refine .ite (fun _ => ?_) (fun _ => ?_)
    · extract_lets +onlyGivenNames x1
      clear_value x1
      exact .step (.step (.with_field (.refl ..)) State.inc_moves) State.fieldDiag_moves
    · extract_lets +onlyGivenNames x2
      clear_value x2
      extract_lets +onlyGivenNames x3
      have h3 : Moves [.field, .blocks, .safety, .motion] s0 x3 := by
        unfold x3
        exact .with_field (.refl ..)
      clear_value x3
      extract_lets +onlyGivenNames x4
      have h4 : Moves [.field, .blocks, .safety, .motion] s0 x4 := by
        unfold x4
        refine .ite (fun _ => ?_) (fun _ => ?_)
        · exact .step h3 State.fieldResume_moves
        · exact h3
      clear_value x4
      extract_lets +onlyGivenNames x5
      have h5 : Moves [.field, .blocks, .safety, .motion] s0 x5 := by
        unfold x5
        refine .ite (fun _ => ?_) (fun _ => ?_)
        · exact .step h4 State.takeSub_moves
        · exact h4
      clear_value x5
      extract_lets +onlyGivenNames x6
      have h6 : Moves [.field, .blocks, .safety, .motion] s0 x6 := by
        unfold x6
        refine .ite (fun _ => ?_) (fun _ => ?_)
        · exact .step h5 State.takeSub_moves
        · exact h5
      clear_value x6
      extract_lets +onlyGivenNames x7
      have h7 : Moves [.field, .blocks, .safety, .motion] s0 x7 := by
        unfold x7
        exact .step h6 State.takeResets_moves
      clear_value x7
      extract_lets +onlyGivenNames x8
      have h8 : Moves [.field, .blocks, .safety, .motion] s0 x8 := by
        unfold x8
        refine .ite (fun _ => ?_) (fun _ => ?_)
        · exact .step (.step h7 State.latchOutputs_moves) State.segments_moves
        · exact h7
      clear_value x8
      extract_lets +onlyGivenNames x9
      have h9 : Moves [.field, .blocks, .safety, .motion] s0 x9 := by
        unfold x9
        exact .step h8 State.showFieldSide_moves
      clear_value x9
      refine .foldl ?_ (fun y10 b12 hy11 => ?_)
      · exact h9
      · refine .ite (fun _ => ?_) (fun _ => ?_)
        · exact .step hy11 State.demag_moves
        · exact hy11

theorem State.measureDo_moves {s0 : State} {a1 : _} : Moves [] s0 (State.measureDo s0 a1) := by
  have e0 := @State.measureDo.eq_def
  unfold State.measureDo
  clear e0
  extract_lets +onlyGivenNames x1
  have h1 : Moves [] s0 x1 := by
    unfold x1
    refine .foldl ?_ (fun y2 b4 hy3 => ?_)
    · exact .refl ..
    · refine .ite (fun _ => ?_) (fun _ => ?_)
      · exact .step (.step hy3 State.wr_moves) State.wr_moves
      · exact hy3
  clear_value x1
  extract_lets +onlyGivenNames x5
  have h5 : Moves [] s0 x5 := by
    unfold x5
    refine .foldl ?_ (fun y6 b8 hy7 => ?_)
    · exact h1
    · refine .ite (fun _ => ?_) (fun _ => ?_)
      · exact .step (.step hy7 State.wr_moves) State.wr_moves
      · exact hy7
  clear_value x5
  extract_lets +onlyGivenNames x9
  have h9 : Moves [] s0 x9 := by
    unfold x9
    refine .foldl ?_ (fun y10 b12 hy11 => ?_)
    · exact h5
    · exact .step hy11 State.wr_moves
  clear_value x9
  extract_lets +onlyGivenNames x13
  have h13 : Moves [] s0 x13 := by
    unfold x13
    refine .foldl ?_ (fun y14 b16 hy15 => ?_)
    · exact h9
    · refine .ite (fun _ => ?_) (fun _ => ?_)
      · exact .step hy15 State.wr_moves
      · exact hy15
  clear_value x13
  refine .foldl ?_ (fun y17 b19 hy18 => ?_)
  · exact h13
  · refine .ite (fun _ => ?_) (fun _ => ?_)
    · exact .step hy18 State.wr_moves
    · exact hy18

theorem State.takeStates_moves {s0 : State} : Moves [.field] s0 (State.takeStates s0) := by
  have e0 := @State.takeStates.eq_def
  unfold State.takeStates
  clear e0
  exact .with_field (.refl ..)

theorem State.takeDiag_moves {s0 : State} : Moves [.field] s0 (State.takeDiag s0) := by
  have e0 := @State.takeDiag.eq_def
  unfold State.takeDiag
  clear e0
  refine .foldl ?_ (fun y1 b3 hy2 => ?_)
  · exact .with_field (.refl ..)
  · exact .step hy2 State.place_moves

theorem State.frameToLogic_moves {s0 : State} {a1 a2 : _} : Moves [.motion, .field, .safety] s0 (State.frameToLogic s0 a1 a2) := by
  have e0 := @State.frameToLogic.eq_def
  unfold State.frameToLogic
  clear e0
  refine .ite (fun _ => ?_) (fun _ => ?_)
  · exact .refl ..
  · extract_lets +onlyGivenNames x1
    clear_value x1
    extract_lets +onlyGivenNames x2
    have h2 : Moves [.motion, .field, .safety] s0 x2 := by
      unfold x2
      exact .step (.step (.refl ..) State.sampleDi_moves) State.readLimits_moves
    clear_value x2
    extract_lets +onlyGivenNames x3
    have h3 : Moves [.motion, .field, .safety] s0 x3 := by
      unfold x3
      exact .step (.step h2 State.sampleSi_moves) State.sampleSi_moves
    clear_value x3
    extract_lets +onlyGivenNames x4
    clear_value x4
    extract_lets +onlyGivenNames x5
    have h5 : Moves [.motion, .field, .safety] s0 x5 := by
      unfold x5
      exact .with_field h3
    clear_value x5
    refine .ite (fun _ => ?_) (fun _ => ?_)
    · exact h5
    · extract_lets +onlyGivenNames x6
      have h6 : Moves [.motion, .field, .safety] s0 x6 := by
        unfold x6
        exact .step (.step (.step h5 State.showDi_moves) State.takeAi_moves) State.measureDo_moves
      clear_value x6
      extract_lets +onlyGivenNames x7
      have h7 : Moves [.motion, .field, .safety] s0 x7 := by
        unfold x7
        exact .step h6 State.measureAo_moves
      clear_value x7
      extract_lets +onlyGivenNames x8
      have h8 : Moves [.motion, .field, .safety] s0 x8 := by
        unfold x8
        refine .ite (fun _ => ?_) (fun _ => ?_)
        · exact .step h7 State.takeSection_moves
        · exact h7
      clear_value x8
      extract_lets +onlyGivenNames x9
      have h9 : Moves [.motion, .field, .safety] s0 x9 := by
        unfold x9
        refine .ite (fun _ => ?_) (fun _ => ?_)
        · exact .step h8 State.takeSection_moves
        · exact h8
      clear_value x9
      exact .step (.step (.step h9 State.takeAxes_moves) State.takeDiag_moves) State.takeStates_moves

theorem State.silenceTimeout_moves {s0 : State} : Moves [.field, .blocks, .safety, .answer, .eop, .motion] s0 (State.silenceTimeout s0) := by
  have e0 := @State.silenceTimeout.eq_def
  unfold State.silenceTimeout
  clear e0
  extract_lets +onlyGivenNames x1
  clear_value x1
  refine .ite (fun _ => ?_) (fun _ => ?_)
  · exact .step (.refl ..) State.enterSilence_moves
  · exact .refl ..

/-! ## Machine/Outputs.lean -/

theorem State.stopPoint_moves {s0 : State} {a1 : _} : Moves [.ecx, .can, .rt] s0 (State.stopPoint s0 a1) := by
  have e0 := @State.stopPoint.eq_def
  unfold State.stopPoint
  clear e0
  extract_lets +onlyGivenNames x1
  clear_value x1
  split
  · rename_i y2 y3
    exact .with_rt (.refl ..)
  · rename_i y4 y5
    exact .with_rt (.refl ..)
  · rename_i y6 y7
    exact .step (.refl ..) State.writeStationByte_moves
  · rename_i y8 y9
    exact .step (.refl ..) State.stopObject_moves
  · rename_i y10 y11 y12 y13 y14
    exact .refl ..

theorem State.applyStop_moves {s0 : State} : Moves [.field, .motion, .ecx, .can, .rt] s0 (State.applyStop s0) := by
  have e0 := @State.applyStop.eq_def
  unfold State.applyStop
  clear e0
  refine .ite (fun _ => ?_) (fun _ => ?_)
  · exact .refl ..
  · extract_lets +onlyGivenNames x1
    clear_value x1
    extract_lets +onlyGivenNames x2
    have h2 : Moves [.field, .motion, .ecx, .can, .rt] s0 x2 := by
      unfold x2
      exact .with_rt (.refl ..)
    clear_value x2
    split
    · rename_i y3 y4
      exact h2
    · rename_i y5 y6 y7
      refine .step ?_ State.axesStop_moves
      refine .foldl ?_ (fun y8 b10 hy9 => ?_)
      · exact h2
      · exact .step hy9 State.stopPoint_moves

theorem State.freePoint_moves {s0 : State} {a1 : _} : Moves [.ecx, .can] s0 (State.freePoint s0 a1) := by
  have e0 := @State.freePoint.eq_def
  unfold State.freePoint
  clear e0
  extract_lets +onlyGivenNames x1
  clear_value x1
  split
  · rename_i y2 y3
    exact .step (.refl ..) State.writeStationByte_moves
  · rename_i y4 y5
    exact .step (.refl ..) State.stopObject_moves
  · rename_i y6 y7 y8
    exact .refl ..

theorem State.setEffective_moves {s0 : State} : Moves [.ecx, .can, .rt] s0 (State.setEffective s0) := by
  have e0 := @State.setEffective.eq_def
  unfold State.setEffective
  clear e0
  extract_lets +onlyGivenNames x1
  clear_value x1
  extract_lets +onlyGivenNames x2
  have h2 : Moves [.ecx, .can, .rt] s0 x2 := by
    unfold x2
    refine .foldl ?_ (fun y3 b5 hy4 => ?_)
    · exact .refl ..
    · exact .step hy4 State.freePoint_moves
  clear_value x2
  exact .with_rt h2

theorem State.muteCan_moves {s0 : State} : Moves [.can] s0 (State.muteCan s0) := by
  have e0 := @State.muteCan.eq_def
  unfold State.muteCan
  clear e0
  exact .with_can (.refl ..)

theorem State.safeOutputs_moves {s0 : State} : Moves [.ecx, .can, .rt, .ledger, .safety, .answer, .eop, .motion, .field] s0 (State.safeOutputs s0) := by
  have e0 := @State.safeOutputs.eq_def
  unfold State.safeOutputs
  clear e0
  extract_lets +onlyGivenNames x1
  have h1 : Moves [.ecx, .can, .rt, .ledger, .safety, .answer, .eop, .motion, .field] s0 x1 := by
    unfold x1
    exact .step (.refl ..) State.setEffective_moves
  clear_value x1
  extract_lets +onlyGivenNames x2
  have h2 : Moves [.ecx, .can, .rt, .ledger, .safety, .answer, .eop, .motion, .field] s0 x2 := by
    unfold x2
    refine .foldl ?_ (fun y3 b5 hy4 => ?_)
    · exact h1
    · exact .step hy4 State.substituteOutputs_moves
  clear_value x2
  exact .step (.step (.step h2 State.muteCan_moves) State.axesSilence_moves) State.safetyOff_moves

theorem State.enterSafe_moves {s0 : State} {a1 : _} : Moves [.rt, .ledger, .ecx, .can, .safety, .answer, .eop, .motion, .field] s0 (State.enterSafe s0 a1) := by
  have e0 := @State.enterSafe.eq_def
  unfold State.enterSafe
  clear e0
  refine .ite (fun _ => ?_) (fun _ => ?_)
  · exact .refl ..
  · extract_lets +onlyGivenNames x1
    clear_value x1
    extract_lets +onlyGivenNames x2
    have h2 : Moves [.rt, .ledger, .ecx, .can, .safety, .answer, .eop, .motion, .field] s0 x2 := by
      unfold x2
      exact .step (.step (.step (.step (.refl ..) State.wr_moves) State.log_moves) State.stopNow_moves) State.wr_moves
    clear_value x2
    extract_lets +onlyGivenNames x3
    clear_value x3
    extract_lets +onlyGivenNames x4
    have h4 : Moves [.rt, .ledger, .ecx, .can, .safety, .answer, .eop, .motion, .field] s0 x4 := by
      unfold x4
      exact .with_rt h2
    clear_value x4
    refine .ite (fun _ => ?_) (fun _ => ?_)
    · exact h4
    · exact .step h4 State.safeOutputs_moves

end Sys2Proof.Machine
end

