-- ==== Sys2Proof/Laws/MovesTwin.lean ====
section
/-!
SUPPORT. Laws/MovesTwin.lean: what each operation of checkpoints, the ledger, the twin and the doubles may change: one lemma per operation (`Moves`).
-/
set_option linter.unusedVariables false
set_option Elab.async false
namespace Sys2Proof.Machine

/-! ## Machine/Checkpoint.lean -/

theorem State.frameReload_moves {s0 : State} : Moves [.frame] s0 (State.frameReload s0) := by
  have e0 := @State.frameReload.eq_def
  unfold State.frameReload
  clear e0
  extract_lets +onlyGivenNames x1 x2 x3
  clear_value x1 x2 x3
  exact .with_frame (.refl ..)

theorem State.pairCommit_moves {s0 : State} {a1 : _} : Moves [] s0 (State.pairCommit s0 a1) := by
  have e0 := @State.pairCommit.eq_def
  unfold State.pairCommit
  clear e0
  exact .step (.refl ..) State.wr_moves

theorem State.restoreForce_moves {s0 : State} {a1 a2 : _} : Moves [] s0 (State.restoreForce s0 a1 a2) := by
  have e0 := @State.restoreForce.eq_def
  unfold State.restoreForce
  clear e0
  exact .step (.step (.step (.step (.refl ..) State.wr_moves) State.wr_moves) State.wr_moves) State.wr_moves

theorem State.resumeTask_moves {s0 : State} {a1 a2 : _} : Moves [.rt, .ledger] s0 (State.resumeTask s0 a1 a2) := by
  have e0 := @State.resumeTask.eq_def
  unfold State.resumeTask
  clear e0
  extract_lets +onlyGivenNames x1
  clear_value x1
  exact .step (.step (.refl ..) State.setTask_moves) State.queueErr_moves

theorem State.restoreTask_moves {s0 : State} {a1 a2 a3 a4 : _} : Moves [.rt, .ledger] s0 (State.restoreTask s0 a1 a2 a3 a4) := by
  have e0 := @State.restoreTask.eq_def
  unfold State.restoreTask
  clear e0
  extract_lets +onlyGivenNames x1
  clear_value x1
  refine .ite (fun _ => ?_) (fun _ => ?_)
  · exact .refl ..
  · extract_lets +onlyGivenNames x2
    have h2 : Moves [.rt, .ledger] s0 x2 := by
      unfold x2
      exact .step (.refl ..) State.setTask_moves
    clear_value x2
    extract_lets +onlyGivenNames x3
    have h3 : Moves [.rt, .ledger] s0 x3 := by
      unfold x3
      exact .step (.step h2 State.wrT_moves) State.wrT_moves
    clear_value x3
    exact .step h3 State.resumeTask_moves

theorem State.restoreLoop_moves {s0 : State} {a1 a2 : _} : Moves [.tally] s0 (State.restoreLoop s0 a1 a2) := by
  have e0 := @State.restoreLoop.eq_def
  unfold State.restoreLoop
  clear e0
  split
  · rename_i y1 y2
    exact .refl ..
  · rename_i y3 y4 y5
    extract_lets +onlyGivenNames x6 x7
    clear_value x6 x7
    extract_lets +onlyGivenNames x8
    have h8 : Moves [.tally] s0 x8 := by
      unfold x8
      exact .with_tally (.refl ..)
    clear_value x8
    exact .step (.step (.step (.step h8 State.wr_moves) State.wr_moves) State.wr_moves) State.wr_moves

theorem State.restoreAxis_moves {s0 : State} {a1 a2 : _} : Moves [.field, .motion] s0 (State.restoreAxis s0 a1 a2) := by
  have e0 := @State.restoreAxis.eq_def
  unfold State.restoreAxis
  clear e0
  extract_lets +onlyGivenNames x1
  clear_value x1
  exact .step (.step (.refl ..) State.setAx_moves) State.showAxis_moves

theorem State.restoreStation_moves {s0 : State} {a1 a2 : _} : Moves [.ecx] s0 (State.restoreStation s0 a1 a2) := by
  have e0 := @State.restoreStation.eq_def
  unfold State.restoreStation
  clear e0
  extract_lets +onlyGivenNames x1
  clear_value x1
  exact .step (.step (.step (.refl ..) State.setStation_moves) State.wr_moves) State.wr_moves

theorem State.restore_moves {s0 : State} {a1 a2 a3 : _} : Moves [.rt, .ledger, .tally, .field, .motion, .ecx, .can] s0 (State.restore s0 a1 a2 a3) := by
  have e0 := @State.restore.eq_def
  unfold State.restore
  clear e0
  extract_lets +onlyGivenNames x1
  clear_value x1
  extract_lets +onlyGivenNames x2
  have h2 : Moves [.rt, .ledger, .tally, .field, .motion, .ecx, .can] s0 x2 := by
    unfold x2
    exact .with_rt (.refl ..)
  clear_value x2
  extract_lets +onlyGivenNames x3
  clear_value x3
  extract_lets +onlyGivenNames x4
  have h4 : Moves [.rt, .ledger, .tally, .field, .motion, .ecx, .can] s0 x4 := by
    unfold x4
    exact .with_tally h2
  clear_value x4
  extract_lets +onlyGivenNames x5
  have h5 : Moves [.rt, .ledger, .tally, .field, .motion, .ecx, .can] s0 x5 := by
    unfold x5
    refine .foldl ?_ (fun y6 b8 hy7 => ?_)
    · exact h4
    · exact .step hy7 State.restoreForce_moves
  clear_value x5
  extract_lets +onlyGivenNames x9
  have h9 : Moves [.rt, .ledger, .tally, .field, .motion, .ecx, .can] s0 x9 := by
    unfold x9
    refine .foldl ?_ (fun y10 b12 hy11 => ?_)
    · exact h5
    · exact .step hy11 State.restoreTask_moves
  clear_value x9
  extract_lets +onlyGivenNames x13
  have h13 : Moves [.rt, .ledger, .tally, .field, .motion, .ecx, .can] s0 x13 := by
    unfold x13
    refine .foldl ?_ (fun y14 b16 hy15 => ?_)
    · exact h9
    · exact .step hy15 State.restoreLoop_moves
  clear_value x13
  extract_lets +onlyGivenNames x17
  have h17 : Moves [.rt, .ledger, .tally, .field, .motion, .ecx, .can] s0 x17 := by
    unfold x17
    refine .foldl ?_ (fun y18 b20 hy19 => ?_)
    · exact h13
    · exact .step hy19 State.restoreAxis_moves
  clear_value x17
  extract_lets +onlyGivenNames x21
  have h21 : Moves [.rt, .ledger, .tally, .field, .motion, .ecx, .can] s0 x21 := by
    unfold x21
    refine .step ?_ State.wr_moves
    refine .foldl ?_ (fun y22 b24 hy23 => ?_)
    · exact h17
    · exact .step hy23 State.restoreStation_moves
  clear_value x21
  extract_lets +onlyGivenNames x25
  have h25 : Moves [.rt, .ledger, .tally, .field, .motion, .ecx, .can] s0 x25 := by
    unfold x25
    refine .foldl ?_ (fun y26 b28 hy27 => ?_)
    · exact h21
    · exact .step hy27 State.setObj_moves
  clear_value x25
  extract_lets +onlyGivenNames x29
  have h29 : Moves [.rt, .ledger, .tally, .field, .motion, .ecx, .can] s0 x29 := by
    unfold x29
    exact .step (.step h25 State.wr_moves) State.wr_moves
  clear_value x29
  extract_lets +onlyGivenNames x30
  have h30 : Moves [.rt, .ledger, .tally, .field, .motion, .ecx, .can] s0 x30 := by
    unfold x30
    exact .step h29 State.setMode_moves
  clear_value x30
  exact .step h30 State.setEffective_moves

theorem State.servicesCommit_moves {s0 : State} : Moves [] s0 (State.servicesCommit s0) := by
  have e0 := @State.servicesCommit.eq_def
  unfold State.servicesCommit
  clear e0
  refine .ite (fun _ => ?_) (fun _ => ?_)
  · exact .step (.refl ..) State.pairCommit_moves
  · exact .refl ..

/-! ## Machine/Lookup.lean -/

theorem State.putKey_moves {s0 : State} {a1 a2 : _} : Moves [] s0 (State.putKey s0 a1 a2) := by
  have e0 := @State.putKey.eq_def
  unfold State.putKey
  clear e0
  split
  · rename_i y1 y2 y3 y4
    exact .step (.refl ..) State.put_moves
  · rename_i y5 y6
    exact .step (.refl ..) State.put_moves

/-! ## Machine/Ledger.lean -/

theorem State.setLedger_moves {s0 : State} {a1 : _} : Moves [.ledger] s0 (State.setLedger s0 a1) := by
  have e0 := @State.setLedger.eq_def
  unfold State.setLedger
  clear e0
  exact .with_ledger (.refl ..)

theorem State.appendRec_moves {s0 : State} {a1 a2 a3 a4 a5 : _} : Moves [.ledger] s0 (State.appendRec s0 a1 a2 a3 a4 a5) := by
  have e0 := @State.appendRec.eq_def
  unfold State.appendRec
  clear e0
  extract_lets +onlyGivenNames x1 x2 x3 x4
  clear_value x1 x2 x3 x4
  exact .step (.refl ..) State.setLedger_moves

theorem State.closeBook_moves {s0 : State} : Moves [.ledger] s0 (State.closeBook s0) := by
  have e0 := @State.closeBook.eq_def
  unfold State.closeBook
  clear e0
  extract_lets +onlyGivenNames x1
  have h1 : Moves [.ledger] s0 x1 := by
    unfold x1
    exact .step (.refl ..) State.appendRec_moves
  clear_value x1
  exact .step h1 State.setLedger_moves

theorem State.ownRec_moves {s0 : State} {a1 a2 a3 : _} : Moves [.ledger] s0 (State.ownRec s0 a1 a2 a3) := by
  have e0 := @State.ownRec.eq_def
  unfold State.ownRec
  clear e0
  refine .ite (fun _ => ?_) (fun _ => ?_)
  · exact .step (.refl ..) State.closeBook_moves
  · exact .step (.refl ..) State.appendRec_moves

theorem State.commitClock_moves {s0 : State} {a1 : _} : Moves [.ledger] s0 (State.commitClock s0 a1) := by
  have e0 := @State.commitClock.eq_def
  unfold State.commitClock
  clear e0
  extract_lets +onlyGivenNames x1 x2 x3 x4
  clear_value x1 x2 x3 x4
  extract_lets +onlyGivenNames x5
  have h5 : Moves [.ledger] s0 x5 := by
    unfold x5
    exact .step (.refl ..) State.ownRec_moves
  clear_value x5
  exact .step h5 State.setLedger_moves

theorem State.sealSeg_moves {s0 : State} {a1 : _} : Moves [.ledger] s0 (State.sealSeg s0 a1) := by
  have e0 := @State.sealSeg.eq_def
  unfold State.sealSeg
  clear e0
  extract_lets +onlyGivenNames x1 x2
  clear_value x1 x2
  exact .step (.refl ..) State.ownRec_moves

theorem State.nextSeg_moves {s0 : State} {a1 : _} : Moves [.ledger] s0 (State.nextSeg s0 a1) := by
  have e0 := @State.nextSeg.eq_def
  unfold State.nextSeg
  clear e0
  extract_lets +onlyGivenNames x1
  clear_value x1
  extract_lets +onlyGivenNames x2
  refine .ite (fun _ => ?_) (fun _ => ?_)
  · exact .step (.refl ..) State.setLedger_moves
  · extract_lets +onlyGivenNames x3
    clear_value x3
    extract_lets +onlyGivenNames x4 x5
    clear_value x4 x5
    exact .step (.refl ..) State.setLedger_moves

theorem State.roomFor_moves {s0 : State} {a1 a2 : _} : Moves [.ledger] s0 (State.roomFor s0 a1 a2) := by
  have e0 := @State.roomFor.eq_def
  unfold State.roomFor
  clear e0
  extract_lets +onlyGivenNames x1
  clear_value x1
  refine .ite (fun _ => ?_) (fun _ => ?_)
  · refine .ite (fun _ => ?_) (fun _ => ?_)
    · exact .step (.refl ..) State.commitClock_moves
    · exact .refl ..
  · refine .ite (fun _ => ?_) (fun _ => ?_)
    · extract_lets +onlyGivenNames x2
      have h2 : Moves [.ledger] s0 x2 := by
        unfold x2
        exact .step (.refl ..) State.sealSeg_moves
      clear_value x2
      refine .ite (fun _ => ?_) (fun _ => ?_)
      · exact h2
      · exact .step (.step h2 State.nextSeg_moves) State.commitClock_moves
    · exact .refl ..

theorem State.showLedger_moves {s0 : State} : Moves [] s0 (State.showLedger s0) := by
  have e0 := @State.showLedger.eq_def
  unfold State.showLedger
  clear e0
  extract_lets +onlyGivenNames x1
  clear_value x1
  extract_lets +onlyGivenNames x2
  have h2 : Moves [] s0 x2 := by
    unfold x2
    exact .step (.step (.step (.refl ..) State.wr_moves) State.wr_moves) State.wr_moves
  clear_value x2
  extract_lets +onlyGivenNames x3
  have h3 : Moves [] s0 x3 := by
    unfold x3
    exact .step (.step (.step h2 State.wr_moves) State.wr_moves) State.wr_moves
  clear_value x3
  extract_lets +onlyGivenNames x4
  clear_value x4
  extract_lets +onlyGivenNames x5
  have h5 : Moves [] s0 x5 := by
    unfold x5
    exact .step h3 State.wr_moves
  clear_value x5
  extract_lets +onlyGivenNames x6
  clear_value x6
  extract_lets +onlyGivenNames x7
  have h7 : Moves [] s0 x7 := by
    unfold x7
    exact .step (.step h5 State.wr_moves) State.raise_moves
  clear_value x7
  exact .step h7 State.wr_moves

theorem State.clearRing_moves {s0 : State} {a1 : _} : Moves [.ledger, .blocks] s0 (State.clearRing s0 a1) := by
  have e0 := @State.clearRing.eq_def
  unfold State.clearRing
  clear e0
  extract_lets +onlyGivenNames x1
  have h1 : Moves [.ledger, .blocks] s0 x1 := by
    unfold x1
    exact .step (.refl ..) State.roomFor_moves
  clear_value x1
  extract_lets +onlyGivenNames x2 x3 x4 x5
  clear_value x2 x3 x4 x5
  extract_lets +onlyGivenNames x6
  have h6 : Moves [.ledger, .blocks] s0 x6 := by
    unfold x6
    exact .step h1 State.appendRec_moves
  clear_value x6
  extract_lets +onlyGivenNames x7
  clear_value x7
  extract_lets +onlyGivenNames x8
  have h8 : Moves [.ledger, .blocks] s0 x8 := by
    unfold x8
    exact .step h6 State.setLedger_moves
  clear_value x8
  exact .step (.step (.step h8 State.incR_moves) State.wr_moves) State.showLedger_moves

theorem State.commitIn_moves {s0 : State} {a1 a2 a3 a4 a5 a6 : _} : Moves [.ledger] s0 (State.commitIn s0 a1 a2 a3 a4 a5 a6) := by
  have e0 := @State.commitIn.eq_def
  unfold State.commitIn
  clear e0
  extract_lets +onlyGivenNames x1
  have h1 : Moves [.ledger] s0 x1 := by
    unfold x1
    exact .step (.refl ..) State.roomFor_moves
  clear_value x1
  extract_lets +onlyGivenNames x2
  have h2 : Moves [.ledger] s0 x2 := by
    unfold x2
    refine .ite (fun _ => ?_) (fun _ => ?_)
    · exact .step h1 State.commitClock_moves
    · exact h1
  clear_value x2
  refine .ite (fun _ => ?_) (fun _ => ?_)
  · exact .step h2 State.appendRec_moves
  · refine .ite (fun _ => ?_) (fun _ => ?_)
    · exact .step h2 State.appendRec_moves
    · refine .ite (fun _ => ?_) (fun _ => ?_)
      · exact .step (.step (.step h2 State.closeBook_moves) State.roomFor_moves) State.appendRec_moves
      · exact .step h2 State.appendRec_moves

theorem State.commitRec_moves {s0 : State} {a1 a2 a3 a4 : _} : Moves [.ledger] s0 (State.commitRec s0 a1 a2 a3 a4) := by
  have e0 := @State.commitRec.eq_def
  unfold State.commitRec
  clear e0
  exact .step (.refl ..) State.commitIn_moves

theorem State.commitLost_moves {s0 : State} : Moves [.blocks, .ledger] s0 (State.commitLost s0) := by
  have e0 := @State.commitLost.eq_def
  unfold State.commitLost
  clear e0
  extract_lets +onlyGivenNames x1
  clear_value x1
  refine .ite (fun _ => ?_) (fun _ => ?_)
  · exact .refl ..
  · extract_lets +onlyGivenNames x2
    have h2 : Moves [.blocks, .ledger] s0 x2 := by
      unfold x2
      exact .step (.refl ..) State.wrR_moves
    clear_value x2
    exact .step (.with_ledger h2) State.commitRec_moves

theorem State.openBook_moves {s0 : State} : Moves [.ledger] s0 (State.openBook s0) := by
  have e0 := @State.openBook.eq_def
  unfold State.openBook
  clear e0
  refine .ite (fun _ => ?_) (fun _ => ?_)
  · exact .refl ..
  · extract_lets +onlyGivenNames x1
    clear_value x1
    extract_lets +onlyGivenNames x2
    clear_value x2
    extract_lets +onlyGivenNames x3
    have h3 : Moves [.ledger] s0 x3 := by
      unfold x3
      exact .step (.refl ..) State.setLedger_moves
    clear_value x3
    exact .step (.step (.step h3 State.appendRec_moves) State.commitClock_moves) State.showLedger_moves

theorem State.commitStart_moves {s0 : State} {a1 : _} : Moves [.ledger] s0 (State.commitStart s0 a1) := by
  have e0 := @State.commitStart.eq_def
  unfold State.commitStart
  clear e0
  extract_lets +onlyGivenNames x1
  have h1 : Moves [.ledger] s0 x1 := by
    unfold x1
    exact .step (.refl ..) State.commitIn_moves
  clear_value x1
  extract_lets +onlyGivenNames x2
  have h2 : Moves [.ledger] s0 x2 := by
    unfold x2
    exact .step h1 State.commitClock_moves
  clear_value x2
  extract_lets +onlyGivenNames x3
  clear_value x3
  extract_lets +onlyGivenNames x4
  have h4 : Moves [.ledger] s0 x4 := by
    unfold x4
    refine .ite (fun _ => ?_) (fun _ => ?_)
    · exact h2
    · exact .step (.with_ledger h2) State.commitRec_moves
  clear_value x4
  refine .ite (fun _ => ?_) (fun _ => ?_)
  · exact .step h4 State.openBook_moves
  · exact h4

theorem State.flushPage_moves {s0 : State} {a1 : _} : Moves [.ledger] s0 (State.flushPage s0 a1) := by
  have e0 := @State.flushPage.eq_def
  unfold State.flushPage
  clear e0
  exact .step (.step (.refl ..) State.setLedger_moves) State.showLedger_moves

theorem State.takeLog_moves {s0 : State} : Moves [.blocks, .ledger] s0 (State.takeLog s0) := by
  have e0 := @State.takeLog.eq_def
  unfold State.takeLog
  clear e0
  split
  · rename_i y1 y2 y3 y4
    refine .ite (fun _ => ?_) (fun _ => ?_)
    · exact .refl ..
    · extract_lets +onlyGivenNames x5
      have h5 : Moves [.blocks, .ledger] s0 x5 := by
        unfold x5
        exact .step (.refl ..) State.commitLost_moves
      clear_value x5
      extract_lets +onlyGivenNames x6
      have h6 : Moves [.blocks, .ledger] s0 x6 := by
        unfold x6
        exact .step h5 State.pop_moves
      clear_value x6
      extract_lets +onlyGivenNames x7
      clear_value x7
      extract_lets +onlyGivenNames x8
      have h8 : Moves [.blocks, .ledger] s0 x8 := by
        unfold x8
        exact .with_ledger h6
      clear_value x8
      refine .ite (fun _ => ?_) (fun _ => ?_)
      · exact .step h8 State.commitStart_moves
      · exact .step h8 State.commitRec_moves
  · rename_i y9 y10 y11 y12 y13
    exact .step (.refl ..) State.pop_moves
  · rename_i y14 y15
    exact .refl ..

theorem State.takeLogs_moves {n : Nat} {s0 : State} : Moves [.blocks, .ledger] s0 (State.takeLogs n s0) := by
  induction n generalizing s0 with
  | zero => exact .refl ..
  | succ n ih =>
    unfold State.takeLogs
    split
    · exact .refl ..
    · exact Moves.step (Moves.step (.refl ..) State.takeLog_moves) ih

theorem State.ledgerSlice_moves {s0 : State} : Moves [.blocks, .ledger] s0 (State.ledgerSlice s0) := by
  have e0 := @State.ledgerSlice.eq_def
  unfold State.ledgerSlice
  clear e0
  extract_lets +onlyGivenNames x1
  have h1 : Moves [.blocks, .ledger] s0 x1 := by
    unfold x1
    exact .step (.refl ..) State.takeLogs_moves
  clear_value x1
  extract_lets +onlyGivenNames x2
  have h2 : Moves [.blocks, .ledger] s0 x2 := by
    unfold x2
    refine .ite (fun _ => ?_) (fun _ => ?_)
    · exact .step h1 State.commitClock_moves
    · exact h1
  clear_value x2
  exact .step h2 State.showLedger_moves

theorem State.segmentRetired_moves {s0 : State} {a1 : _} : Moves [.blocks, .ledger] s0 (State.segmentRetired s0 a1) := by
  have e0 := @State.segmentRetired.eq_def
  unfold State.segmentRetired
  clear e0
  extract_lets +onlyGivenNames x1 x2
  clear_value x1 x2
  refine .ite (fun _ => ?_) (fun _ => ?_)
  · exact .refl ..
  · extract_lets +onlyGivenNames x3
    have h3 : Moves [.blocks, .ledger] s0 x3 := by
      unfold x3
      exact .step (.refl ..) State.incR_moves
    clear_value x3
    extract_lets +onlyGivenNames x4 x5 x6
    clear_value x4 x5 x6
    extract_lets +onlyGivenNames x7
    have h7 : Moves [.blocks, .ledger] s0 x7 := by
      unfold x7
      exact .step h3 State.setLedger_moves
    clear_value x7
    extract_lets +onlyGivenNames x8
    clear_value x8
    extract_lets +onlyGivenNames x9
    have h9 : Moves [.blocks, .ledger] s0 x9 := by
      unfold x9
      exact .step h7 State.nextSeg_moves
    clear_value x9
    extract_lets +onlyGivenNames x10 x11
    clear_value x10 x11
    extract_lets +onlyGivenNames x12
    have h12 : Moves [.blocks, .ledger] s0 x12 := by
      unfold x12
      exact .step h9 State.setLedger_moves
    clear_value x12
    extract_lets +onlyGivenNames x13
    clear_value x13
    extract_lets +onlyGivenNames x14
    have h14 : Moves [.blocks, .ledger] s0 x14 := by
      unfold x14
      refine .ite (fun _ => ?_) (fun _ => ?_)
      · exact h7
      · refine .ite (fun _ => ?_) (fun _ => ?_)
        · exact h12
        · refine .ite (fun _ => ?_) (fun _ => ?_)
          · exact .step h12 State.setLedger_moves
          · exact .step h12 State.setLedger_moves
    clear_value x14
    exact .step (.step h14 State.log_moves) State.showLedger_moves

/-! ## Machine/Twin.lean -/

theorem State.ackCastle_moves {s0 : State} : Moves [.twin] s0 (State.ackCastle s0) := by
  have e0 := @State.ackCastle.eq_def
  unfold State.ackCastle
  clear e0
  split
  · rename_i y1 y2 y3 y4
    refine .ite (fun _ => ?_) (fun _ => ?_)
    · exact .with_twin (.refl ..)
    · exact .refl ..
  · rename_i y5 y6
    exact .refl ..

theorem State.logTwin_moves {s0 : State} {a1 a2 : _} : Moves [.ledger] s0 (State.logTwin s0 a1 a2) := by
  have e0 := @State.logTwin.eq_def
  unfold State.logTwin
  clear e0
  extract_lets +onlyGivenNames x1
  clear_value x1
  refine .ite (fun _ => ?_) (fun _ => ?_)
  · exact .step (.step (.refl ..) State.commitRec_moves) State.showLedger_moves
  · exact .step (.refl ..) State.log_moves

theorem State.showTwin_moves {s0 : State} : Moves [.ledger, .twin] s0 (State.showTwin s0) := by
  have e0 := @State.showTwin.eq_def
  unfold State.showTwin
  clear e0
  extract_lets +onlyGivenNames x1
  clear_value x1
  split
  · rename_i y2 y3 y4 y5
    extract_lets +onlyGivenNames x6
    have h6 : Moves [.ledger, .twin] s0 x6 := by
      unfold x6
      exact .step (.step (.step (.refl ..) State.wr_moves) State.wr_moves) State.wr_moves
    clear_value x6
    extract_lets +onlyGivenNames x7
    clear_value x7
    extract_lets +onlyGivenNames x8
    have h8 : Moves [.ledger, .twin] s0 x8 := by
      unfold x8
      exact .step h6 State.wr_moves
    clear_value x8
    refine .ite (fun _ => ?_) (fun _ => ?_)
    · exact h8
    · exact .step (.with_twin h8) State.logTwin_moves

theorem State.swapArchive_moves {s0 : State} {a1 : _} : Moves [.rt] s0 (State.swapArchive s0 a1) := by
  have e0 := @State.swapArchive.eq_def
  unfold State.swapArchive
  clear e0
  extract_lets +onlyGivenNames x1
  clear_value x1
  exact .step (.with_rt (.refl ..)) State.wr_moves

theorem State.archivePart_moves {s0 : State} {a1 a2 a3 a4 : _} : Moves [.ledger, .twin, .rt] s0 (State.archivePart s0 a1 a2 a3 a4) := by
  have e0 := @State.archivePart.eq_def
  unfold State.archivePart
  clear e0
  refine .ite (fun _ => ?_) (fun _ => ?_)
  · exact .refl ..
  · extract_lets +onlyGivenNames x1
    clear_value x1
    extract_lets +onlyGivenNames x2
    clear_value x2
    extract_lets +onlyGivenNames x3
    have h3 : Moves [.ledger, .twin, .rt] s0 x3 := by
      unfold x3
      exact .with_twin (.refl ..)
    clear_value x3
    refine .ite (fun _ => ?_) (fun _ => ?_)
    · exact h3
    · split
      · rename_i y4 y5 y6
        refine .ite (fun _ => ?_) (fun _ => ?_)
        · exact h3
        · refine .ite (fun _ => ?_) (fun _ => ?_)
          · exact .step (.with_twin h3) State.showTwin_moves
          · exact .step (.step h3 State.swapArchive_moves) State.showTwin_moves
      · rename_i y7 y8
        exact h3

theorem State.startResync_moves {s0 : State} : Moves [.ledger, .twin] s0 (State.startResync s0) := by
  have e0 := @State.startResync.eq_def
  unfold State.startResync
  clear e0
  extract_lets +onlyGivenNames x1
  clear_value x1
  extract_lets +onlyGivenNames x2
  have h2 : Moves [.ledger, .twin] s0 x2 := by
    unfold x2
    exact .with_twin (.refl ..)
  clear_value x2
  exact .step (.step h2 State.inc_moves) State.logTwin_moves

theorem State.audit_moves {s0 : State} {a1 : _} : Moves [.ledger, .twin, .blocks] s0 (State.audit s0 a1) := by
  have e0 := @State.audit.eq_def
  unfold State.audit
  clear e0
  refine .ite (fun _ => ?_) (fun _ => ?_)
  · exact .refl ..
  · extract_lets +onlyGivenNames x1
    clear_value x1
    extract_lets +onlyGivenNames x2
    have h2 : Moves [.ledger, .twin, .blocks] s0 x2 := by
      unfold x2
      exact .with_twin (.refl ..)
    clear_value x2
    refine .ite (fun _ => ?_) (fun _ => ?_)
    · exact h2
    · exact .step (.step (.step (.step h2 State.incR_moves) State.logTwin_moves) State.startResync_moves) State.showTwin_moves

theorem State.setRole_moves {s0 : State} {a1 : _} : Moves [.ledger, .twin, .can] s0 (State.setRole s0 a1) := by
  have e0 := @State.setRole.eq_def
  unfold State.setRole
  clear e0
  refine .step ?_ State.showTwin_moves
  refine .foldl ?_ (fun y1 b3 hy2 => ?_)
  · exact .step (.refl ..) State.wr_moves
  · exact .step hy2 State.canState_moves

theorem State.driveToken_moves {s0 : State} : Moves [.twin] s0 (State.driveToken s0) := by
  have e0 := @State.driveToken.eq_def
  unfold State.driveToken
  clear e0
  refine .ite (fun _ => ?_) (fun _ => ?_)
  · exact .refl ..
  · exact .with_twin (.refl ..)

theorem State.becomeActive_moves {s0 : State} : Moves [.ledger, .twin, .can] s0 (State.becomeActive s0) := by
  have e0 := @State.becomeActive.eq_def
  unfold State.becomeActive
  clear e0
  extract_lets +onlyGivenNames x1
  clear_value x1
  extract_lets +onlyGivenNames x2
  have h2 : Moves [.ledger, .twin, .can] s0 x2 := by
    unfold x2
    exact .with_twin (.refl ..)
  clear_value x2
  exact .step (.step (.step h2 State.driveToken_moves) State.wr_moves) State.setRole_moves

theorem State.becomeStandby_moves {s0 : State} : Moves [.ledger, .twin, .time, .can, .power, .tally] s0 (State.becomeStandby s0) := by
  have e0 := @State.becomeStandby.eq_def
  unfold State.becomeStandby
  clear e0
  extract_lets +onlyGivenNames x1
  have h1 : Moves [.ledger, .twin, .time, .can, .power, .tally] s0 x1 := by
    unfold x1
    refine .ite (fun _ => ?_) (fun _ => ?_)
    · exact .step (.refl ..) State.wr_moves
    · exact .refl ..
  clear_value x1
  extract_lets +onlyGivenNames x2 x3
  clear_value x2 x3
  extract_lets +onlyGivenNames x4
  have h4 : Moves [.ledger, .twin, .time, .can, .power, .tally] s0 x4 := by
    unfold x4
    exact .with_twin_power h1
  clear_value x4
  extract_lets +onlyGivenNames x5
  have h5 : Moves [.ledger, .twin, .time, .can, .power, .tally] s0 x5 := by
    unfold x5
    refine .foldl ?_ (fun y6 b8 hy7 => ?_)
    · exact h4
    · refine .ite (fun _ => ?_) (fun _ => ?_)
      · exact hy7
      · exact .step hy7 State.wr_moves
  clear_value x5
  extract_lets +onlyGivenNames x9
  have h9 : Moves [.ledger, .twin, .time, .can, .power, .tally] s0 x9 := by
    unfold x9
    exact .step h5 State.wr_moves
  clear_value x9
  extract_lets +onlyGivenNames x10
  clear_value x10
  extract_lets +onlyGivenNames x11
  have h11 : Moves [.ledger, .twin, .time, .can, .power, .tally] s0 x11 := by
    unfold x11
    exact .with_tally h9
  clear_value x11
  exact .step (.step (.step (.step h11 State.setRole_moves) State.freeMasters_moves) State.startResync_moves) State.showTwin_moves

theorem State.linksEnd_moves {s0 : State} : Moves [.ledger, .eop] s0 (State.linksEnd s0) := by
  have e0 := @State.linksEnd.eq_def
  unfold State.linksEnd
  clear e0
  extract_lets +onlyGivenNames x1
  have h1 : Moves [.ledger, .eop] s0 x1 := by
    unfold x1
    refine .foldl ?_ (fun y2 b4 hy3 => ?_)
    · exact .refl ..
    · refine .ite (fun _ => ?_) (fun _ => ?_)
      · exact .step hy3 State.endFilter_moves
      · exact hy3
  clear_value x1
  exact .step (.with_eop h1) State.wr_moves

theorem State.stopToken_moves {s0 : State} {a1 : _} : Moves [.safety, .blocks, .motion, .field, .ledger, .twin, .can, .power] s0 (State.stopToken s0 a1) := by
  have e0 := @State.stopToken.eq_def
  unfold State.stopToken
  clear e0
  refine .ite (fun _ => ?_) (fun _ => ?_)
  · exact .refl ..
  · extract_lets +onlyGivenNames x1
    clear_value x1
    extract_lets +onlyGivenNames x2
    have h2 : Moves [.safety, .blocks, .motion, .field, .ledger, .twin, .can, .power] s0 x2 := by
      unfold x2
      exact .step (.with_twin (.refl ..)) State.fieldOff_moves
    clear_value x2
    extract_lets +onlyGivenNames x3 x4
    clear_value x3 x4
    extract_lets +onlyGivenNames x5
    have h5 : Moves [.safety, .blocks, .motion, .field, .ledger, .twin, .can, .power] s0 x5 := by
      unfold x5
      exact .with_field_power h2
    clear_value x5
    exact .step h5 State.setRole_moves

theorem State.castleAck_moves {s0 : State} : Moves [.ledger, .eop, .safety, .blocks, .motion, .field, .twin, .can, .power] s0 (State.castleAck s0) := by
  have e0 := @State.castleAck.eq_def
  unfold State.castleAck
  clear e0
  split
  · rename_i y1 y2 y3 y4
    extract_lets +onlyGivenNames x5
    have h5 : Moves [.ledger, .eop, .safety, .blocks, .motion, .field, .twin, .can, .power] s0 x5 := by
      unfold x5
      refine .ite (fun _ => ?_) (fun _ => ?_)
      · exact .refl ..
      · exact .step (.refl ..) State.wr_moves
    clear_value x5
    exact .step (.step (.step h5 State.stopToken_moves) State.logTwin_moves) State.linksEnd_moves
  · rename_i y6 y7
    exact .refl ..

theorem State.servicesTakeover_moves {s0 : State} : Moves [.ledger, .eop] s0 (State.servicesTakeover s0) := by
  have e0 := @State.servicesTakeover.eq_def
  unfold State.servicesTakeover
  clear e0
  extract_lets +onlyGivenNames x1
  clear_value x1
  refine .ite (fun _ => ?_) (fun _ => ?_)
  · exact .refl ..
  · extract_lets +onlyGivenNames x2
    clear_value x2
    extract_lets +onlyGivenNames x3
    clear_value x3
    extract_lets +onlyGivenNames x4
    have h4 : Moves [.ledger, .eop] s0 x4 := by
      unfold x4
      exact .with_eop (.refl ..)
    clear_value x4
    exact .step (.step (.step h4 State.wr_moves) State.wr_moves) State.log_moves

theorem State.pairSafe_moves {s0 : State} : Moves [.ledger, .eop, .safety, .rt, .ecx, .can, .answer, .motion, .field] s0 (State.pairSafe s0) := by
  have e0 := @State.pairSafe.eq_def
  unfold State.pairSafe
  clear e0
  exact .step (.step (.step (.refl ..) State.enterSafe_moves) State.safetyOff_moves) State.servicesTakeover_moves

theorem State.castleAckTimeout_moves {s0 : State} : Moves [.ledger, .eop, .safety, .rt, .ecx, .can, .answer, .motion, .field, .blocks, .twin] s0 (State.castleAckTimeout s0) := by
  have e0 := @State.castleAckTimeout.eq_def
  unfold State.castleAckTimeout
  clear e0
  split
  · rename_i y1 y2 y3 y4
    refine .ite (fun _ => ?_) (fun _ => ?_)
    · exact .refl ..
    · extract_lets +onlyGivenNames x5
      clear_value x5
      extract_lets +onlyGivenNames x6
      have h6 : Moves [.ledger, .eop, .safety, .rt, .ecx, .can, .answer, .motion, .field, .blocks, .twin] s0 x6 := by
        unfold x6
        exact .with_twin (.refl ..)
      clear_value x6
      refine .ite (fun _ => ?_) (fun _ => ?_)
      · exact .step h6 State.pairSafe_moves
      · extract_lets +onlyGivenNames x7
        have h7 : Moves [.ledger, .eop, .safety, .rt, .ecx, .can, .answer, .motion, .field, .blocks, .twin] s0 x7 := by
          unfold x7
          exact .step h6 State.wr_moves
        clear_value x7
        refine .ite (fun _ => ?_) (fun _ => ?_)
        · exact .step (.step h7 State.wrR_moves) State.logTwin_moves
        · exact h7
  · rename_i y8 y9
    exact .refl ..

theorem State.castleComplete_moves {s0 : State} {a1 : _} : Moves [.blocks, .ledger, .twin] s0 (State.castleComplete s0 a1) := by
  have e0 := @State.castleComplete.eq_def
  unfold State.castleComplete
  clear e0
  split
  · rename_i y1 y2 y3 y4 y5 y6 y7
    extract_lets +onlyGivenNames x8
    clear_value x8
    refine .ite (fun _ => ?_) (fun _ => ?_)
    · exact .refl ..
    · extract_lets +onlyGivenNames x9
      clear_value x9
      extract_lets +onlyGivenNames x10 x11
      clear_value x10 x11
      extract_lets +onlyGivenNames x12
      have h12 : Moves [.blocks, .ledger, .twin] s0 x12 := by
        unfold x12
        exact .step (.with_twin (.refl ..)) State.wrR_moves
      clear_value x12
      extract_lets +onlyGivenNames x13
      have h13 : Moves [.blocks, .ledger, .twin] s0 x13 := by
        unfold x13
        refine .ite (fun _ => ?_) (fun _ => ?_)
        · exact .step h12 State.wrR_moves
        · exact h12
      clear_value x13
      extract_lets +onlyGivenNames x14
      clear_value x14
      extract_lets +onlyGivenNames x15
      have h15 : Moves [.blocks, .ledger, .twin] s0 x15 := by
        unfold x15
        refine .ite (fun _ => ?_) (fun _ => ?_)
        · exact .step (.step (.with_twin h13) State.wrR_moves) State.logTwin_moves
        · exact h13
      clear_value x15
      exact .step h15 State.logTwin_moves
  · rename_i y16 y17 y18
    exact .refl ..

theorem State.castleReceived_moves {s0 : State} {a1 a2 : _} : Moves [.twin] s0 (State.castleReceived s0 a1 a2) := by
  have e0 := @State.castleReceived.eq_def
  unfold State.castleReceived
  clear e0
  refine .ite (fun _ => ?_) (fun _ => ?_)
  · exact .refl ..
  · exact .step (.with_twin (.refl ..)) State.ackCastle_moves

theorem State.castleStart_moves {s0 : State} {a1 : _} : Moves [.twin] s0 (State.castleStart s0 a1).1 := by
  have e0 := @State.castleStart.eq_def
  unfold State.castleStart
  clear e0
  split
  · rename_i y1
    dsimp -zeta only
    exact .refl ..
  · rename_i y2
    dsimp -zeta only
    exact .with_twin (.refl ..)

theorem State.castleRequest_moves {s0 : State} {a1 : _} : Moves [.twin] s0 (State.castleRequest s0 a1) := by
  have e0 := @State.castleRequest.eq_def
  unfold State.castleRequest
  clear e0
  refine .ite (fun _ => ?_) (fun _ => ?_)
  · exact .step (.step (.refl ..) State.castleStart_moves) State.wr_moves
  · exact .step (.refl ..) State.wr_moves

theorem State.storeBlock_moves {s0 : State} {a1 a2 a3 : _} : Moves [.blocks] s0 (State.storeBlock s0 a1 a2 a3) := by
  have e0 := @State.storeBlock.eq_def
  unfold State.storeBlock
  clear e0
  extract_lets +onlyGivenNames x1 x2 x3 x4 x5
  clear_value x1 x2 x3 x4 x5
  extract_lets +onlyGivenNames x6
  have h6 : Moves [.blocks] s0 x6 := by
    unfold x6
    exact .step (.with_blocks (.refl ..)) State.inc_moves
  clear_value x6
  refine .foldl ?_ (fun y7 b9 hy8 => ?_)
  · exact h6
  · exact .step hy8 State.putKey_moves

theorem State.loadLatches_moves {s0 : State} {a1 : _} : Moves [] s0 (State.loadLatches s0 a1) := by
  have e0 := @State.loadLatches.eq_def
  unfold State.loadLatches
  clear e0
  refine .foldl ?_ (fun y1 b3 hy2 => ?_)
  · exact .refl ..
  · extract_lets +onlyGivenNames x4
    clear_value x4
    split
    · rename_i y5 y6
      exact .step hy2 State.wr_moves
    · rename_i y7 y8
      exact .step hy2 State.wr_moves
    · rename_i y9 y10 y11
      exact hy2

theorem State.takeTargets_moves {s0 : State} {a1 : _} : Moves [.field] s0 (State.takeTargets s0 a1) := by
  have e0 := @State.takeTargets.eq_def
  unfold State.takeTargets
  clear e0
  refine .foldl ?_ (fun y1 b3 hy2 => ?_)
  · exact .refl ..
  · refine .ite (fun _ => ?_) (fun _ => ?_)
    · exact .step (.step hy2 State.setAin_moves) State.retarget_moves
    · exact hy2

theorem State.commitDelta_moves {s0 : State} {a1 : _} : Moves [.blocks, .rt, .field, .twin] s0 (State.commitDelta s0 a1) := by
  have e0 := @State.commitDelta.eq_def
  unfold State.commitDelta
  clear e0
  extract_lets +onlyGivenNames x1
  clear_value x1
  extract_lets +onlyGivenNames x2
  have h2 : Moves [.blocks, .rt, .field, .twin] s0 x2 := by
    unfold x2
    exact .with_twin (.refl ..)
  clear_value x2
  extract_lets +onlyGivenNames x3
  have h3 : Moves [.blocks, .rt, .field, .twin] s0 x3 := by
    unfold x3
    refine .foldl ?_ (fun y4 b6 hy5 => ?_)
    · exact h2
    · exact .step hy5 State.storeBlock_moves
  clear_value x3
  extract_lets +onlyGivenNames x7
  clear_value x7
  extract_lets +onlyGivenNames x8
  have h8 : Moves [.blocks, .rt, .field, .twin] s0 x8 := by
    unfold x8
    refine .ite (fun _ => ?_) (fun _ => ?_)
    · split
      · rename_i y9 y10 y11
        extract_lets +onlyGivenNames x12
        have h12 : Moves [.blocks, .rt, .field, .twin] s0 x12 := by
          unfold x12
          exact .step h3 State.swapArchive_moves
        clear_value x12
        exact .with_twin h12
      · rename_i y13 y14
        exact h3
    · exact h3
  clear_value x8
  extract_lets +onlyGivenNames x15
  have h15 : Moves [.blocks, .rt, .field, .twin] s0 x15 := by
    unfold x15
    refine .ite (fun _ => ?_) (fun _ => ?_)
    · exact .step h8 State.loadLatches_moves
    · exact h8
  clear_value x15
  extract_lets +onlyGivenNames x16
  have h16 : Moves [.blocks, .rt, .field, .twin] s0 x16 := by
    unfold x16
    exact .step h15 State.takeTargets_moves
  clear_value x16
  exact .step (.step (.step (.step h16 State.wr_moves) State.wr_moves) State.raise_moves) State.ackCastle_moves

theorem State.committedUpTo_moves {s0 : State} {g : Nat} : Moves [.twin] s0 (s0.committedUpTo g) := by
  have e0 := @State.committedUpTo.eq_def
  unfold State.committedUpTo
  clear e0
  extract_lets +onlyGivenNames done
  split
  · exact .refl ..
  · extract_lets +onlyGivenNames r q x1 x2
    have h1 : Moves [.twin] s0 x1 := Moves.step (.refl ..) (State.setRing_moves fun hf => by
      have h2 := hf 31
      simp only [State.fill] at h2
      have h3 : q.length ≤ r.q.length := (List.dropWhile_sublist _).length_le
      exact h3.trans h2)
    exact Moves.step (Moves.step (Moves.with_twin h1) State.wr_moves) State.wr_moves

theorem State.deltaEnd_moves {s0 : State} {a1 : _} : Moves [.ledger, .twin, .blocks, .rt, .field] s0 (State.deltaEnd s0 a1) := by
  have e0 := @State.deltaEnd.eq_def
  unfold State.deltaEnd
  clear e0
  extract_lets +onlyGivenNames x1
  have h1 : Moves [.ledger, .twin, .blocks, .rt, .field] s0 x1 := by
    unfold x1
    refine .ite (fun _ => ?_) (fun _ => ?_)
    · exact .step (.step (.refl ..) State.place_moves) State.pop_moves
    · exact .refl ..
  clear_value x1
  refine .ite (fun _ => ?_) (fun _ => ?_)
  · exact h1
  · refine .ite (fun _ => ?_) (fun _ => ?_)
    · exact .step (.step h1 State.commitDelta_moves) State.showTwin_moves
    · exact .step (.step h1 State.startResync_moves) State.showTwin_moves

theorem State.effProof_moves {s0 : State} {a1 a2 : _} : Moves [.ledger, .blocks, .twin] s0 (State.effProof s0 a1 a2) := by
  have e0 := @State.effProof.eq_def
  unfold State.effProof
  clear e0
  extract_lets +onlyGivenNames x1
  refine .ite (fun _ => ?_) (fun _ => ?_)
  · unfold x1
    exact .step (.step (.refl ..) State.wrR_moves) State.logTwin_moves
  · refine .ite (fun _ => ?_) (fun _ => ?_)
    · unfold x1
      exact .step (.step (.refl ..) State.wrR_moves) State.logTwin_moves
    · split
      · rename_i y2 y3 y4 y5
        have h_y3 : Moves [.ledger, .blocks, .twin] s0 y3 := by
          rw [show y3 = _ from (congrArg Prod.fst y5).symm]
          exact .step (.refl ..) State.castleStart_moves
        refine .ite (fun _ => ?_) (fun _ => ?_)
        · exact h_y3
        · unfold x1
          exact .step (.step (.refl ..) State.wrR_moves) State.logTwin_moves

theorem State.effRejoin_moves {s0 : State} {a1 : _} : Moves [.ledger, .twin] s0 (State.effRejoin s0 a1) := by
  have e0 := @State.effRejoin.eq_def
  unfold State.effRejoin
  clear e0
  refine .ite (fun _ => ?_) (fun _ => ?_)
  · exact .refl ..
  · exact .step (.with_twin (.refl ..)) State.showTwin_moves

theorem State.effTwinStats_moves {s0 : State} : Moves [] s0 (State.effTwinStats s0) := by
  have e0 := @State.effTwinStats.eq_def
  unfold State.effTwinStats
  clear e0
  exact .step (.step (.refl ..) State.clear_moves) State.wrB_moves

theorem State.endPathFault_moves {s0 : State} : Moves [.twin] s0 (State.endPathFault s0) := by
  have e0 := @State.endPathFault.eq_def
  unfold State.endPathFault
  clear e0
  extract_lets +onlyGivenNames x1 x2
  clear_value x1 x2
  refine .ite (fun _ => ?_) (fun _ => ?_)
  · exact .with_twin (.refl ..)
  · exact .refl ..

theorem State.noteGap_moves {s0 : State} : Moves [.blocks, .twin] s0 (State.noteGap s0) := by
  have e0 := @State.noteGap.eq_def
  unfold State.noteGap
  clear e0
  split
  · rename_i y1 y2 y3 y4
    extract_lets +onlyGivenNames x5
    clear_value x5
    extract_lets +onlyGivenNames x6
    have h6 : Moves [.blocks, .twin] s0 x6 := by
      unfold x6
      exact .step (.refl ..) State.wrR_moves
    clear_value x6
    refine .ite (fun _ => ?_) (fun _ => ?_)
    · exact h6
    · exact .with_twin h6
  · rename_i y7 y8
    exact .refl ..

theorem State.presetLatches_moves {s0 : State} : Moves [.field, .ecx, .can, .rt] s0 (State.presetLatches s0) := by
  have e0 := @State.presetLatches.eq_def
  unfold State.presetLatches
  clear e0
  exact .step (.step (.refl ..) State.setEffective_moves) State.latchOutputs_moves

theorem State.fieldEnableAssert_moves {s0 : State} : Moves [.blocks, .field, .twin, .ecx, .can, .rt, .ledger, .power] s0 (State.fieldEnableAssert s0) := by
  have e0 := @State.fieldEnableAssert.eq_def
  unfold State.fieldEnableAssert
  clear e0
  extract_lets +onlyGivenNames x1 x2
  clear_value x1 x2
  refine .ite (fun _ => ?_) (fun _ => ?_)
  · exact .refl ..
  · extract_lets +onlyGivenNames x3
    have h3 : Moves [.blocks, .field, .twin, .ecx, .can, .rt, .ledger, .power] s0 x3 := by
      unfold x3
      exact .step (.refl ..) State.fieldOn_moves
    clear_value x3
    extract_lets +onlyGivenNames x4 x5 x6
    clear_value x4 x5 x6
    extract_lets +onlyGivenNames x7
    have h7 : Moves [.blocks, .field, .twin, .ecx, .can, .rt, .ledger, .power] s0 x7 := by
      unfold x7
      exact .step (.with_field_power h3) State.presetLatches_moves
    clear_value x7
    extract_lets +onlyGivenNames x8
    have h8 : Moves [.blocks, .field, .twin, .ecx, .can, .rt, .ledger, .power] s0 x8 := by
      unfold x8
      refine .ite (fun _ => ?_) (fun _ => ?_)
      · exact h3
      · refine .ite (fun _ => ?_) (fun _ => ?_)
        · exact .step (.step (.with_field_power h3) State.fieldResume_moves) State.noteGap_moves
        · exact .step (.step h7 State.wr_moves) State.wrT_moves
    clear_value x8
    exact .step h8 State.showTwin_moves

theorem State.showLink_moves {s0 : State} {a1 : _} : Moves [] s0 (State.showLink s0 a1) := by
  have e0 := @State.showLink.eq_def
  unfold State.showLink
  clear e0
  exact .step (.refl ..) State.wr_moves

theorem State.laneErrors_moves {s0 : State} {a1 a2 : _} : Moves [] s0 (State.laneErrors s0 a1 a2) := by
  have e0 := @State.laneErrors.eq_def
  unfold State.laneErrors
  clear e0
  refine .ite (fun _ => ?_) (fun _ => ?_)
  · exact .refl ..
  · extract_lets +onlyGivenNames x1
    clear_value x1
    exact .step (.refl ..) State.wrB_moves

theorem State.proofStep4_moves {s0 : State} : Moves [.blocks, .ledger, .twin] s0 (State.proofStep4 s0) := by
  have e0 := @State.proofStep4.eq_def
  unfold State.proofStep4
  clear e0
  split
  · rename_i y1 y2 y3
    refine .ite (fun _ => ?_) (fun _ => ?_)
    · exact .refl ..
    · extract_lets +onlyGivenNames x4
      clear_value x4
      extract_lets +onlyGivenNames x5
      extract_lets +onlyGivenNames x6
      clear_value x6
      extract_lets +onlyGivenNames x7
      have h7 : Moves [.blocks, .ledger, .twin] s0 x7 := by
        unfold x7
        exact .with_twin (.refl ..)
      clear_value x7
      extract_lets +onlyGivenNames x8
      have h8 : Moves [.blocks, .ledger, .twin] s0 x8 := by
        unfold x8
        refine .ite (fun _ => ?_) (fun _ => ?_)
        · exact .step h7 State.wrR_moves
        · exact h7
      clear_value x8
      exact .step (.step h8 State.wrR_moves) State.logTwin_moves
  · rename_i y9 y10
    exact .refl ..

theorem State.reportPathFault_moves {s0 : State} : Moves [.ledger, .twin] s0 (State.reportPathFault s0) := by
  have e0 := @State.reportPathFault.eq_def
  unfold State.reportPathFault
  clear e0
  refine .ite (fun _ => ?_) (fun _ => ?_)
  · exact .refl ..
  · exact .step (.step (.step (.with_twin (.refl ..)) State.inc_moves) State.logTwin_moves) State.showTwin_moves

theorem State.heartbeatReceived_moves {s0 : State} {a1 a2 a3 : _} : Moves [.ledger, .twin, .blocks] s0 (State.heartbeatReceived s0 a1 a2 a3) := by
  have e0 := @State.heartbeatReceived.eq_def
  unfold State.heartbeatReceived
  clear e0
  refine .ite (fun _ => ?_) (fun _ => ?_)
  · exact .refl ..
  · extract_lets +onlyGivenNames x1
    clear_value x1
    extract_lets +onlyGivenNames x2
    clear_value x2
    extract_lets +onlyGivenNames x3
    have h3 : Moves [.ledger, .twin, .blocks] s0 x3 := by
      unfold x3
      exact .with_twin (.refl ..)
    clear_value x3
    extract_lets +onlyGivenNames x4
    have h4 : Moves [.ledger, .twin, .blocks] s0 x4 := by
      unfold x4
      exact .step (.step h3 State.laneErrors_moves) State.showLink_moves
    clear_value x4
    extract_lets +onlyGivenNames x5
    have h5 : Moves [.ledger, .twin, .blocks] s0 x5 := by
      unfold x5
      refine .ite (fun _ => ?_) (fun _ => ?_)
      · exact .step h4 State.startResync_moves
      · exact h4
    clear_value x5
    extract_lets +onlyGivenNames x6
    have h6 : Moves [.ledger, .twin, .blocks] s0 x6 := by
      unfold x6
      refine .ite (fun _ => ?_) (fun _ => ?_)
      · exact .step (.step h5 State.committedUpTo_moves) State.proofStep4_moves
      · exact h5
    clear_value x6
    extract_lets +onlyGivenNames x7
    have h7 : Moves [.ledger, .twin, .blocks] s0 x7 := by
      unfold x7
      refine .ite (fun _ => ?_) (fun _ => ?_)
      · exact .step h6 State.reportPathFault_moves
      · exact .step h6 State.endPathFault_moves
    clear_value x7
    exact .step h7 State.showTwin_moves

theorem State.heartbeatSend_moves {s0 : State} {a1 : _} : Moves [.ledger, .twin] s0 (State.heartbeatSend s0 a1) := by
  have e0 := @State.heartbeatSend.eq_def
  unfold State.heartbeatSend
  clear e0
  extract_lets +onlyGivenNames x1
  clear_value x1
  extract_lets +onlyGivenNames x2
  have h2 : Moves [.ledger, .twin] s0 x2 := by
    unfold x2
    refine .ite (fun _ => ?_) (fun _ => ?_)
    · exact .with_twin (.refl ..)
    · exact .refl ..
  clear_value x2
  extract_lets +onlyGivenNames x3
  have h3 : Moves [.ledger, .twin] s0 x3 := by
    unfold x3
    exact .step h2 State.showTwin_moves
  clear_value x3
  extract_lets +onlyGivenNames x4
  clear_value x4
  refine .ite (fun _ => ?_) (fun _ => ?_)
  · exact h3
  · exact .with_twin h3

theorem State.laneChange_moves {s0 : State} {a1 a2 : _} : Moves [.ledger, .twin] s0 (State.laneChange s0 a1 a2) := by
  have e0 := @State.laneChange.eq_def
  unfold State.laneChange
  clear e0
  extract_lets +onlyGivenNames x1 x2
  clear_value x1 x2
  extract_lets +onlyGivenNames x3
  have h3 : Moves [.ledger, .twin] s0 x3 := by
    unfold x3
    exact .with_twin (.refl ..)
  clear_value x3
  exact .step (.step h3 State.showLink_moves) State.showTwin_moves

theorem State.linkDown_moves {s0 : State} : Moves [.ledger, .twin] s0 (State.linkDown s0) := by
  have e0 := @State.linkDown.eq_def
  unfold State.linkDown
  clear e0
  refine .ite (fun _ => ?_) (fun _ => ?_)
  · exact .refl ..
  · exact .step (.step (.refl ..) State.showLink_moves) State.showTwin_moves

theorem State.listenExpiry_moves {s0 : State} : Moves [.ledger, .twin, .can] s0 (State.listenExpiry s0) := by
  have e0 := @State.listenExpiry.eq_def
  unfold State.listenExpiry
  clear e0
  split
  · rename_i y1 y2 y3
    refine .ite (fun _ => ?_) (fun _ => ?_)
    · exact .step (.refl ..) State.becomeActive_moves
    · exact .refl ..
  · rename_i y4 y5
    exact .refl ..

theorem State.maintenanceEnter_moves {s0 : State} : Moves [.ledger, .twin] s0 (State.maintenanceEnter s0) := by
  have e0 := @State.maintenanceEnter.eq_def
  unfold State.maintenanceEnter
  clear e0
  refine .ite (fun _ => ?_) (fun _ => ?_)
  · exact .refl ..
  · extract_lets +onlyGivenNames x1
    clear_value x1
    extract_lets +onlyGivenNames x2
    have h2 : Moves [.ledger, .twin] s0 x2 := by
      unfold x2
      exact .with_twin (.refl ..)
    refine .ite (fun _ => ?_) (fun _ => ?_)
    · exact .step h2 State.showTwin_moves
    · exact .step (.step (.step h2 State.wr_moves) State.wr_moves) State.showTwin_moves

theorem State.sendDelta_moves {s0 : State} {a1 a2 a3 : _} : Moves [.ledger, .twin, .free] s0 (State.sendDelta s0 a1 a2 a3) := by
  have e0 := @State.sendDelta.eq_def
  unfold State.sendDelta
  clear e0
  refine .ite (fun _ => ?_) (fun _ => ?_)
  · exact .refl ..
  · extract_lets +onlyGivenNames x1
    clear_value x1
    extract_lets +onlyGivenNames x2 x3
    clear_value x2 x3
    refine .ite (fun _ => ?_) (fun _ => ?_)
    · exact .step (.with_twin (.refl ..)) State.startResync_moves
    · extract_lets +onlyGivenNames x4
      clear_value x4
      extract_lets +onlyGivenNames x5
      clear_value x5
      split
      · rename_i y6 y7 y8 y9
        have h_y7 : Moves [.ledger, .twin, .free] s0 y7 := by
          rw [show y7 = _ from (congrArg Prod.fst y9).symm]
          exact .step (.step (.refl ..) State.drawn_moves) State.pushBlock_moves
        refine .ite (fun _ => ?_) (fun _ => ?_)
        · exact .with_twin h_y7
        · extract_lets +onlyGivenNames x10
          clear_value x10
          extract_lets +onlyGivenNames x11
          have h11 : Moves [.ledger, .twin, .free] s0 x11 := by
            unfold x11
            exact .with_twin h_y7
          clear_value x11
          exact .step (.step (.step h11 State.wr_moves) State.wr_moves) State.raise_moves

theorem State.mirror_moves {s0 : State} {a1 : _} : Moves [.ledger, .twin, .free] s0 (State.mirror s0 a1) := by
  have e0 := @State.mirror.eq_def
  unfold State.mirror
  clear e0
  refine .ite (fun _ => ?_) (fun _ => ?_)
  · exact .refl ..
  · exact .step (.refl ..) State.sendDelta_moves

theorem State.mirrorForces_moves {s0 : State} : Moves [.ledger, .twin, .free] s0 (State.mirrorForces s0) := by
  have e0 := @State.mirrorForces.eq_def
  unfold State.mirrorForces
  clear e0
  exact .step (.refl ..) State.sendDelta_moves

theorem State.pairRestarting_moves {s0 : State} {a1 : _} : Moves [.pairs] s0 (State.pairRestarting s0 a1) := by
  have e0 := @State.pairRestarting.eq_def
  unfold State.pairRestarting
  clear e0
  extract_lets +onlyGivenNames x1
  have h1 : Moves [.pairs] s0 x1 := by
    unfold x1
    exact .step (.refl ..) State.wr_moves
  clear_value x1
  exact .with_pairs h1

theorem State.partnerAsserted_moves {s0 : State} {a1 : _} : Moves [.safety, .blocks, .motion, .field, .twin, .ledger, .eop, .can, .power, .time, .tally] s0 (State.partnerAsserted s0 a1) := by
  have e0 := @State.partnerAsserted.eq_def
  unfold State.partnerAsserted
  clear e0
  extract_lets +onlyGivenNames x1
  clear_value x1
  extract_lets +onlyGivenNames x2
  have h2 : Moves [.safety, .blocks, .motion, .field, .twin, .ledger, .eop, .can, .power, .time, .tally] s0 x2 := by
    unfold x2
    exact .with_twin (.refl ..)
  clear_value x2
  extract_lets +onlyGivenNames x3
  have h3 : Moves [.safety, .blocks, .motion, .field, .twin, .ledger, .eop, .can, .power, .time, .tally] s0 x3 := by
    unfold x3
    exact .step (.step h2 State.endPathFault_moves) State.fieldOff_moves
  clear_value x3
  refine .ite (fun _ => ?_) (fun _ => ?_)
  · exact .step (.step h3 State.stopToken_moves) State.linksEnd_moves
  · refine .ite (fun _ => ?_) (fun _ => ?_)
    · exact .step h3 State.becomeStandby_moves
    · exact .step h3 State.showTwin_moves

theorem State.partnerDeasserted_moves {s0 : State} {a1 : _} : Moves [.ledger, .twin] s0 (State.partnerDeasserted s0 a1) := by
  have e0 := @State.partnerDeasserted.eq_def
  unfold State.partnerDeasserted
  clear e0
  extract_lets +onlyGivenNames x1
  clear_value x1
  exact .step (.step (.with_twin (.refl ..)) State.endPathFault_moves) State.showTwin_moves

theorem State.resyncDone_moves {s0 : State} {a1 : _} : Moves [.blocks, .rt, .field, .twin, .ledger] s0 (State.resyncDone s0 a1) := by
  have e0 := @State.resyncDone.eq_def
  unfold State.resyncDone
  clear e0
  refine .ite (fun _ => ?_) (fun _ => ?_)
  · exact .refl ..
  · extract_lets +onlyGivenNames x1
    clear_value x1
    extract_lets +onlyGivenNames x2
    have h2 : Moves [.blocks, .rt, .field, .twin, .ledger] s0 x2 := by
      unfold x2
      exact .step (.with_twin (.refl ..)) State.commitDelta_moves
    clear_value x2
    exact .step (.step (.step (.with_twin h2) State.wr_moves) State.logTwin_moves) State.showTwin_moves

theorem State.sendChanges_moves {s0 : State} {a1 a2 : _} : Moves [.ledger, .twin, .free] s0 (State.sendChanges s0 a1 a2) := by
  have e0 := @State.sendChanges.eq_def
  unfold State.sendChanges
  clear e0
  refine .ite (fun _ => ?_) (fun _ => ?_)
  · exact .refl ..
  · extract_lets +onlyGivenNames x1
    clear_value x1
    extract_lets +onlyGivenNames x2
    clear_value x2
    exact .step (.with_twin (.refl ..)) State.sendDelta_moves

theorem State.takeToken_moves {s0 : State} {a1 : _} : Moves [.twin, .ledger, .eop, .blocks, .pairs, .rt, .tally, .field, .motion, .ecx, .can, .frame, .time, .free, .safety] s0 (State.takeToken s0 a1) := by
  have e0 := @State.takeToken.eq_def
  unfold State.takeToken
  clear e0
  extract_lets +onlyGivenNames x1 x2 x3 x4
  clear_value x1 x2 x3 x4
  refine .ite (fun _ => ?_) (fun _ => ?_)
  · exact .refl ..
  · extract_lets +onlyGivenNames x5
    clear_value x5
    extract_lets +onlyGivenNames x6
    clear_value x6
    extract_lets +onlyGivenNames x7
    have h7 : Moves [.twin, .ledger, .eop, .blocks, .pairs, .rt, .tally, .field, .motion, .ecx, .can, .frame, .time, .free, .safety] s0 x7 := by
      unfold x7
      exact .step (.step (.refl ..) State.linksEnd_moves) State.driveToken_moves
    clear_value x7
    extract_lets +onlyGivenNames x8
    have h8 : Moves [.twin, .ledger, .eop, .blocks, .pairs, .rt, .tally, .field, .motion, .ecx, .can, .frame, .time, .free, .safety] s0 x8 := by
      unfold x8
      exact .step (.step h7 State.incR_moves) State.wrR_moves
    clear_value x8
    extract_lets +onlyGivenNames x9
    clear_value x9
    extract_lets +onlyGivenNames x10
    have h10 : Moves [.twin, .ledger, .eop, .blocks, .pairs, .rt, .tally, .field, .motion, .ecx, .can, .frame, .time, .free, .safety] s0 x10 := by
      unfold x10
      exact .with_twin h8
    clear_value x10
    extract_lets +onlyGivenNames x11
    have h11 : Moves [.twin, .ledger, .eop, .blocks, .pairs, .rt, .tally, .field, .motion, .ecx, .can, .frame, .time, .free, .safety] s0 x11 := by
      unfold x11
      refine .foldl ?_ (fun y12 b14 hy13 => ?_)
      · exact h10
      · exact .step hy13 State.pairRestarting_moves
    clear_value x11
    extract_lets +onlyGivenNames x15
    have h15 : Moves [.twin, .ledger, .eop, .blocks, .pairs, .rt, .tally, .field, .motion, .ecx, .can, .frame, .time, .free, .safety] s0 x15 := by
      unfold x15
      exact .step h11 State.restore_moves
    clear_value x15
    extract_lets +onlyGivenNames x16
    have h16 : Moves [.twin, .ledger, .eop, .blocks, .pairs, .rt, .tally, .field, .motion, .ecx, .can, .frame, .time, .free, .safety] s0 x16 := by
      unfold x16
      exact .step h15 State.frameReload_moves
    clear_value x16
    extract_lets +onlyGivenNames x17
    clear_value x17
    extract_lets +onlyGivenNames x18
    have h18 : Moves [.twin, .ledger, .eop, .blocks, .pairs, .rt, .tally, .field, .motion, .ecx, .can, .frame, .time, .free, .safety] s0 x18 := by
      unfold x18
      exact .with_tally h16
    clear_value x18
    extract_lets +onlyGivenNames x19
    have h19 : Moves [.twin, .ledger, .eop, .blocks, .pairs, .rt, .tally, .field, .motion, .ecx, .can, .frame, .time, .free, .safety] s0 x19 := by
      unfold x19
      refine .foldl ?_ (fun y20 b22 hy21 => ?_)
      · exact h18
      · exact .step (.step hy21 State.wr_moves) State.wr_moves
    clear_value x19
    exact .step (.step (.step h19 State.safetyConfigure_moves) State.setRole_moves) State.freeMasters_moves

theorem State.tokenPathFault_moves {s0 : State} : Moves [.ledger, .twin] s0 (State.tokenPathFault s0) := by
  have e0 := @State.tokenPathFault.eq_def
  unfold State.tokenPathFault
  clear e0
  refine .ite (fun _ => ?_) (fun _ => ?_)
  · exact .step (.refl ..) State.reportPathFault_moves
  · exact .refl ..

/-! ## Machine/Doubles.lean -/

theorem State.abandonPair_moves {s0 : State} {a1 : _} : Moves [.ledger, .rt] s0 (State.abandonPair s0 a1) := by
  have e0 := @State.abandonPair.eq_def
  unfold State.abandonPair
  clear e0
  extract_lets +onlyGivenNames x1
  clear_value x1
  extract_lets +onlyGivenNames x2
  extract_lets +onlyGivenNames x3
  have h3 : Moves [.ledger, .rt] s0 x3 := by
    unfold x3
    refine .ite (fun _ => ?_) (fun _ => ?_)
    · exact .step (.refl ..) State.wr_moves
    · exact .refl ..
  clear_value x3
  refine .step ?_ State.settleStop_moves
  refine .foldl ?_ (fun y4 b6 hy5 => ?_)
  · exact h3
  · exact .step hy5 State.rollBack_moves

theorem State.cacheCorrected_moves {s0 : State} {a1 : _} : Moves [] s0 (State.cacheCorrected s0 a1) := by
  have e0 := @State.cacheCorrected.eq_def
  unfold State.cacheCorrected
  clear e0
  refine .ite (fun _ => ?_) (fun _ => ?_)
  · exact .refl ..
  · exact .step (.refl ..) State.inc_moves

theorem State.pairFail_moves {s0 : State} {a1 a2 : _} : Moves [.ledger, .rt, .twin, .eop, .safety, .ecx, .can, .answer, .motion, .field] s0 (State.pairFail s0 a1 a2) := by
  have e0 := @State.pairFail.eq_def
  unfold State.pairFail
  clear e0
  extract_lets +onlyGivenNames x1
  have h1 : Moves [.ledger, .rt, .twin, .eop, .safety, .ecx, .can, .answer, .motion, .field] s0 x1 := by
    unfold x1
    exact .step (.step (.step (.refl ..) State.wr_moves) State.wr_moves) State.log_moves
  clear_value x1
  extract_lets +onlyGivenNames x2
  have h2 : Moves [.ledger, .rt, .twin, .eop, .safety, .ecx, .can, .answer, .motion, .field] s0 x2 := by
    unfold x2
    exact .step h1 State.abandonPair_moves
  clear_value x2
  split
  · rename_i y3 y4 y5 y6
    have h_y4 : Moves [.ledger, .rt, .twin, .eop, .safety, .ecx, .can, .answer, .motion, .field] s0 y4 := by
      rw [show y4 = _ from (congrArg Prod.fst y6).symm]
      exact .step h2 State.castleStart_moves
    refine .ite (fun _ => ?_) (fun _ => ?_)
    · exact h_y4
    · exact .step h2 State.pairSafe_moves

theorem State.mismatch_moves {s0 : State} {a1 a2 a3 : _} : Moves [.blocks, .ledger, .rt, .twin, .eop, .safety, .ecx, .can, .answer, .motion, .field, .pairs] s0 (State.mismatch s0 a1 a2 a3) := by
  have e0 := @State.mismatch.eq_def
  unfold State.mismatch
  clear e0
  extract_lets +onlyGivenNames x1
  clear_value x1
  refine .ite (fun _ => ?_) (fun _ => ?_)
  · exact .refl ..
  · extract_lets +onlyGivenNames x2
    clear_value x2
    extract_lets +onlyGivenNames x3
    have h3 : Moves [.blocks, .ledger, .rt, .twin, .eop, .safety, .ecx, .can, .answer, .motion, .field, .pairs] s0 x3 := by
      unfold x3
      exact .with_pairs (.refl ..)
    clear_value x3
    extract_lets +onlyGivenNames x4
    have h4 : Moves [.blocks, .ledger, .rt, .twin, .eop, .safety, .ecx, .can, .answer, .motion, .field, .pairs] s0 x4 := by
      unfold x4
      exact .step (.step (.step h3 State.inc_moves) State.incR_moves) State.incR_moves
    clear_value x4
    extract_lets +onlyGivenNames x5
    have h5 : Moves [.blocks, .ledger, .rt, .twin, .eop, .safety, .ecx, .can, .answer, .motion, .field, .pairs] s0 x5 := by
      unfold x5
      exact .step (.step h4 State.wrT_moves) State.wr_moves
    clear_value x5
    extract_lets +onlyGivenNames x6
    have h6 : Moves [.blocks, .ledger, .rt, .twin, .eop, .safety, .ecx, .can, .answer, .motion, .field, .pairs] s0 x6 := by
      unfold x6
      split
      · rename_i y7 y8
        exact .step h5 State.wr_moves
      · rename_i y9
        exact h5
    clear_value x6
    extract_lets +onlyGivenNames x10
    have h10 : Moves [.blocks, .ledger, .rt, .twin, .eop, .safety, .ecx, .can, .answer, .motion, .field, .pairs] s0 x10 := by
      unfold x10
      exact .step h6 State.log_moves
    clear_value x10
    extract_lets +onlyGivenNames x11
    clear_value x11
    refine .ite (fun _ => ?_) (fun _ => ?_)
    · exact .step h10 State.pairFail_moves
    · exact .step (.step (.step h10 State.wr_moves) State.channelOut_moves) State.abandonPair_moves

theorem State.compare_moves {s0 : State} {a1 a2 a3 : _} : Moves [.blocks, .ledger, .rt, .twin, .eop, .safety, .ecx, .can, .answer, .motion, .field, .pairs] s0 (State.compare s0 a1 a2 a3) := by
  have e0 := @State.compare.eq_def
  unfold State.compare
  clear e0
  refine .ite (fun _ => ?_) (fun _ => ?_)
  · exact .refl ..
  · exact .step (.refl ..) State.mismatch_moves

theorem State.effInject_moves {s0 : State} {a1 : _} : Moves [.safety, .blocks, .ledger] s0 (State.effInject s0 a1) := by
  have e0 := @State.effInject.eq_def
  unfold State.effInject
  clear e0
  extract_lets +onlyGivenNames x1
  clear_value x1
  extract_lets +onlyGivenNames x2
  have h2 : Moves [.safety, .blocks, .ledger] s0 x2 := by
    unfold x2
    refine .ite (fun _ => ?_) (fun _ => ?_)
    · exact .step (.step (.refl ..) State.safetyStop_moves) State.channelOut_moves
    · exact .refl ..
  clear_value x2
  exact .step h2 State.wr_moves

theorem State.effPairStats_moves {s0 : State} {a1 : _} : Moves [] s0 (State.effPairStats s0 a1) := by
  have e0 := @State.effPairStats.eq_def
  unfold State.effPairStats
  clear e0
  exact .step (.refl ..) State.clear_moves

theorem State.noteInject_moves {s0 : State} {a1 a2 : _} : Moves [.blocks, .ledger] s0 (State.noteInject s0 a1 a2) := by
  have e0 := @State.noteInject.eq_def
  unfold State.noteInject
  clear e0
  split
  · rename_i y1
    extract_lets +onlyGivenNames x2
    have h2 : Moves [.blocks, .ledger] s0 x2 := by
      unfold x2
      exact .step (.step (.refl ..) State.wr_moves) State.incR_moves
    clear_value x2
    extract_lets +onlyGivenNames x3
    have h3 : Moves [.blocks, .ledger] s0 x3 := by
      unfold x3
      exact .step h2 State.wrR_moves
    clear_value x3
    exact .step h3 State.log_moves
  · rename_i y4 y5
    extract_lets +onlyGivenNames x6
    have h6 : Moves [.blocks, .ledger] s0 x6 := by
      unfold x6
      exact .step (.step (.refl ..) State.wr_moves) State.wr_moves
    clear_value x6
    exact .step h6 State.log_moves

theorem State.injectDone_moves {s0 : State} {a1 a2 : _} : Moves [.blocks, .ledger, .rt, .twin, .eop, .safety, .ecx, .can, .answer, .motion, .field] s0 (State.injectDone s0 a1 a2) := by
  have e0 := @State.injectDone.eq_def
  unfold State.injectDone
  clear e0
  refine .ite (fun _ => ?_) (fun _ => ?_)
  · exact .refl ..
  · extract_lets +onlyGivenNames x1
    have h1 : Moves [.blocks, .ledger, .rt, .twin, .eop, .safety, .ecx, .can, .answer, .motion, .field] s0 x1 := by
      unfold x1
      exact .step (.refl ..) State.noteInject_moves
    clear_value x1
    split
    · rename_i y2
      exact .step h1 State.wr_moves
    · rename_i y3 y4
      exact .step h1 State.pairFail_moves

theorem State.restartComplete_moves {s0 : State} {a1 a2 : _} : Moves [.ledger, .rt, .twin, .eop, .safety, .ecx, .can, .answer, .motion, .field, .pairs] s0 (State.restartComplete s0 a1 a2) := by
  have e0 := @State.restartComplete.eq_def
  unfold State.restartComplete
  clear e0
  refine .ite (fun _ => ?_) (fun _ => ?_)
  · exact .refl ..
  · refine .ite (fun _ => ?_) (fun _ => ?_)
    · exact .step (.refl ..) State.pairFail_moves
    · refine .ite (fun _ => ?_) (fun _ => ?_)
      · exact .step (.refl ..) State.pairFail_moves
      · extract_lets +onlyGivenNames x1
        clear_value x1
        extract_lets +onlyGivenNames x2
        have h2 : Moves [.ledger, .rt, .twin, .eop, .safety, .ecx, .can, .answer, .motion, .field, .pairs] s0 x2 := by
          unfold x2
          exact .with_pairs (.refl ..)
        clear_value x2
        extract_lets +onlyGivenNames x3
        clear_value x3
        extract_lets +onlyGivenNames x4
        have h4 : Moves [.ledger, .rt, .twin, .eop, .safety, .ecx, .can, .answer, .motion, .field, .pairs] s0 x4 := by
          unfold x4
          exact .step (.step (.step h2 State.wr_moves) State.wr_moves) State.raise_moves
        clear_value x4
        extract_lets +onlyGivenNames x5
        have h5 : Moves [.ledger, .rt, .twin, .eop, .safety, .ecx, .can, .answer, .motion, .field, .pairs] s0 x5 := by
          unfold x5
          exact .step h4 State.log_moves
        clear_value x5
        refine .ite (fun _ => ?_) (fun _ => ?_)
        · exact h5
        · refine .foldl ?_ (fun y6 b8 hy7 => ?_)
          · exact h5
          · exact .step hy7 State.resumeTask_moves

theorem State.restartTimeout_moves {s0 : State} {a1 : _} : Moves [.ledger, .rt, .twin, .eop, .safety, .ecx, .can, .answer, .motion, .field] s0 (State.restartTimeout s0 a1) := by
  have e0 := @State.restartTimeout.eq_def
  unfold State.restartTimeout
  clear e0
  refine .ite (fun _ => ?_) (fun _ => ?_)
  · exact .step (.refl ..) State.pairFail_moves
  · exact .refl ..

end Sys2Proof.Machine
end

