-- ==== Sys2Proof/Laws/MovesFrame.lean ====
section
/-!
SUPPORT. Laws/MovesFrame.lean: what each operation of Tally, the Counting Frame and archives may change: one lemma per operation (`Moves`).
-/
set_option linter.unusedVariables false
set_option Elab.async false
namespace Sys2Proof.Machine

/-! ## Machine/TallyLoop.lean -/

theorem State.setLoop_moves {s0 : State} {a1 a2 : _} : Moves [.tally] s0 (State.setLoop s0 a1 a2) := by
  have e0 := @State.setLoop.eq_def
  unfold State.setLoop
  clear e0
  exact .with_tally (.refl ..)

theorem State.loopEvt_moves {s0 : State} {a1 a2 a3 : _} : Moves [.tally] s0 (State.loopEvt s0 a1 a2 a3) := by
  have e0 := @State.loopEvt.eq_def
  unfold State.loopEvt
  clear e0
  extract_lets +onlyGivenNames x1
  clear_value x1
  exact .step (.refl ..) State.setLoop_moves

theorem State.closeSample_moves {s0 : State} {a1 a2 : _} : Moves [.tally] s0 (State.closeSample s0 a1 a2) := by
  have e0 := @State.closeSample.eq_def
  unfold State.closeSample
  clear e0
  extract_lets +onlyGivenNames x1
  have h1 : Moves [.tally] s0 x1 := by
    unfold x1
    refine .ite (fun _ => ?_) (fun _ => ?_)
    · exact .step (.refl ..) State.loopEvt_moves
    · exact .refl ..
  clear_value x1
  extract_lets +onlyGivenNames x2
  have h2 : Moves [.tally] s0 x2 := by
    unfold x2
    exact .step h1 State.wr_moves
  clear_value x2
  extract_lets +onlyGivenNames x3
  extract_lets +onlyGivenNames x4
  have h4 : Moves [.tally] s0 x4 := by
    unfold x4
    unfold x3
    refine .ite (fun _ => ?_) (fun _ => ?_)
    · refine .ite (fun _ => ?_) (fun _ => ?_)
      · exact h2
      · exact .step h2 State.loopEvt_moves
    · refine .step ?_ State.loopEvt_moves
      refine .ite (fun _ => ?_) (fun _ => ?_)
      · exact h2
      · exact .step h2 State.loopEvt_moves
  clear_value x4
  extract_lets +onlyGivenNames x5
  have h5 : Moves [.tally] s0 x5 := by
    unfold x5
    refine .ite (fun _ => ?_) (fun _ => ?_)
    · exact .step h4 State.inc_moves
    · exact h4
  clear_value x5
  extract_lets +onlyGivenNames x6
  have h6 : Moves [.tally] s0 x6 := by
    unfold x6
    refine .ite (fun _ => ?_) (fun _ => ?_)
    · exact .step h5 State.inc_moves
    · exact h5
  clear_value x6
  extract_lets +onlyGivenNames x7
  have h7 : Moves [.tally] s0 x7 := by
    unfold x7
    refine .ite (fun _ => ?_) (fun _ => ?_)
    · exact .step (.step h6 State.loopEvt_moves) State.inc_moves
    · refine .ite (fun _ => ?_) (fun _ => ?_)
      · exact .step h6 State.loopEvt_moves
      · exact h6
  clear_value x7
  extract_lets +onlyGivenNames x8
  have h8 : Moves [.tally] s0 x8 := by
    unfold x8
    refine .foldl ?_ (fun y9 b11 hy10 => ?_)
    · exact h7
    · exact .step (.step hy10 State.loopEvt_moves) State.inc_moves
  clear_value x8
  extract_lets +onlyGivenNames x12
  have h12 : Moves [.tally] s0 x12 := by
    unfold x12
    refine .ite (fun _ => ?_) (fun _ => ?_)
    · exact .step h8 State.inc_moves
    · exact h8
  clear_value x12
  extract_lets +onlyGivenNames x13
  have h13 : Moves [.tally] s0 x13 := by
    unfold x13
    refine .ite (fun _ => ?_) (fun _ => ?_)
    · exact .step h12 State.loopEvt_moves
    · exact h12
  clear_value x13
  extract_lets +onlyGivenNames x14
  have h14 : Moves [.tally] s0 x14 := by
    unfold x14
    unfold x3
    refine .ite (fun _ => ?_) (fun _ => ?_)
    · refine .ite (fun _ => ?_) (fun _ => ?_)
      · exact h13
      · exact .step h13 State.loopEvt_moves
    · refine .step ?_ State.loopEvt_moves
      refine .ite (fun _ => ?_) (fun _ => ?_)
      · exact h13
      · exact .step h13 State.loopEvt_moves
  clear_value x14
  extract_lets +onlyGivenNames x15
  have h15 : Moves [.tally] s0 x15 := by
    unfold x15
    split
    · rename_i y16 y17 y18
      refine .step ?_ State.inc_moves
      refine .ite (fun _ => ?_) (fun _ => ?_)
      · exact h14
      · exact .step h14 State.loopEvt_moves
    · rename_i y19 y20
      exact h14
  clear_value x15
  extract_lets +onlyGivenNames x21
  have h21 : Moves [.tally] s0 x21 := by
    unfold x21
    refine .ite (fun _ => ?_) (fun _ => ?_)
    · exact .step h15 State.inc_moves
    · exact h15
  clear_value x21
  extract_lets +onlyGivenNames x22
  have h22 : Moves [.tally] s0 x22 := by
    unfold x22
    exact .step (.step (.step (.step (.step (.step (.step (.step h21 State.wr_moves) State.wr_moves) State.wr_moves) State.wr_moves) State.wr_moves) State.wr_moves) State.inc_moves) State.wrT_moves
  clear_value x22
  extract_lets +onlyGivenNames x23
  have h23 : Moves [.tally] s0 x23 := by
    unfold x23
    exact .step h22 State.wrB_moves
  clear_value x23
  exact h23

theorem State.noteIf_moves {s0 : State} {a1 a2 a3 : _} : Moves [] s0 (State.noteIf s0 a1 a2 a3) := by
  have e0 := @State.noteIf.eq_def
  unfold State.noteIf
  clear e0
  refine .ite (fun _ => ?_) (fun _ => ?_)
  · exact .step (.refl ..) State.noteWritten_moves
  · exact .refl ..

theorem State.writeDest_moves {s0 : State} {a1 a2 a3 : _} : Moves [.can, .ecx, .rt] s0 (State.writeDest s0 a1 a2 a3) := by
  have e0 := @State.writeDest.eq_def
  unfold State.writeDest
  clear e0
  extract_lets +onlyGivenNames x1
  clear_value x1
  extract_lets +onlyGivenNames x2
  extract_lets +onlyGivenNames x3
  split
  · rename_i y4
    exact .refl ..
  · rename_i y5 y6
    unfold x3
    exact .step (.with_rt (.refl ..)) State.noteIf_moves
  · rename_i y7 y8
    unfold x3
    exact .step (.with_rt (.refl ..)) State.noteIf_moves
  · rename_i y9 y10 y11 y12 y13 y14
    unfold x2
    refine .foldl ?_ (fun y15 b17 hy16 => ?_)
    · exact .step (.refl ..) State.setImage_moves
    · exact .step hy16 State.noteIf_moves
  · rename_i y18 y19 y20 y21
    refine .ite (fun _ => ?_) (fun _ => ?_)
    · unfold x2
      refine .foldl ?_ (fun y25 b27 hy26 => ?_)
      · refine .foldl ?_ (fun y22 b24 hy23 => ?_)
        · exact .refl ..
        · exact .step hy23 State.writeStationByte_moves
      · exact .step hy26 State.noteIf_moves
    · exact .refl ..

theorem State.commitLoop_moves {s0 : State} {a1 a2 : _} : Moves [.tally, .can, .ecx, .rt] s0 (State.commitLoop s0 a1 a2) := by
  have e0 := @State.commitLoop.eq_def
  unfold State.commitLoop
  clear e0
  extract_lets +onlyGivenNames x1 x2 x3
  clear_value x1 x2 x3
  extract_lets +onlyGivenNames x4
  have h4 : Moves [.tally, .can, .ecx, .rt] s0 x4 := by
    unfold x4
    refine .foldl ?_ (fun y5 b7 hy6 => ?_)
    · exact .refl ..
    · exact .step hy6 State.place_moves
  clear_value x4
  split
  · rename_i y8 y9 y10 y11 y12 y13 y14
    extract_lets +onlyGivenNames x15
    have h15 : Moves [.tally, .can, .ecx, .rt] s0 x15 := by
      unfold x15
      exact .step (.step (.step h4 State.setLoop_moves) State.wr_moves) State.wr_moves
    clear_value x15
    refine .ite (fun _ => ?_) (fun _ => ?_)
    · exact h15
    · exact .step (.step h15 State.writeDest_moves) State.writeDest_moves
  · rename_i y16 y17 y18
    exact .step h4 State.setLoop_moves

theorem State.selfWrite_moves {s0 : State} {a1 a2 a3 : _} : Moves [.tally] s0 (State.selfWrite s0 a1 a2 a3) := by
  have e0 := @State.selfWrite.eq_def
  unfold State.selfWrite
  clear e0
  refine .ite (fun _ => ?_) (fun _ => ?_)
  · exact .refl ..
  · extract_lets +onlyGivenNames x1
    clear_value x1
    extract_lets +onlyGivenNames x2
    clear_value x2
    exact .step (.step (.refl ..) State.wr_moves) State.setLoop_moves

theorem State.computeSample_moves {s0 : State} {a1 a2 a3 : _} : Moves [.tally] s0 (State.computeSample s0 a1 a2 a3) := by
  have e0 := @State.computeSample.eq_def
  unfold State.computeSample
  clear e0
  extract_lets +onlyGivenNames x1
  clear_value x1
  split
  · rename_i y2 y3
    exact .refl ..
  · rename_i y4 y5 y6
    extract_lets +onlyGivenNames x7 x8 x9 x10 x11 x12 x13 x14 x15 x16 x17 x18 x19 x20 x21 x22 x23 x24 x25 x26 x27 x28 x29 x30 x31 x32 x33 x34 x35 x36 x37
    clear_value x7 x8 x9 x10 x11 x12 x13 x14 x15 x16 x17 x18 x19 x20 x21 x22 x23 x24 x25 x26 x27 x28 x29 x30 x31 x32 x33 x34 x35 x36 x37
    extract_lets +onlyGivenNames x38
    have h38 : Moves [.tally] s0 x38 := by
      unfold x38
      refine .ite (fun _ => ?_) (fun _ => ?_)
      · exact .step (.refl ..) State.selfWrite_moves
      · exact .refl ..
    clear_value x38
    extract_lets +onlyGivenNames x39 x40 x41
    clear_value x39 x40 x41
    extract_lets +onlyGivenNames x42
    have h42 : Moves [.tally] s0 x42 := by
      unfold x42
      refine .ite (fun _ => ?_) (fun _ => ?_)
      · exact .step h38 State.selfWrite_moves
      · exact h38
    clear_value x42
    extract_lets +onlyGivenNames x43 x44 x45 x46 x47
    clear_value x43 x44 x45 x46 x47
    extract_lets +onlyGivenNames x48
    have h48 : Moves [.tally] s0 x48 := by
      unfold x48
      refine .ite (fun _ => ?_) (fun _ => ?_)
      · exact .step h42 State.selfWrite_moves
      · refine .ite (fun _ => ?_) (fun _ => ?_)
        · exact .step h42 State.selfWrite_moves
        · exact h42
    clear_value x48
    extract_lets +onlyGivenNames x49 x50 x51 x52 x53 x54 x55 x56 x57 x58 x59 x60 x61 x62 x63 x64 x65 x66 x67 x68
    clear_value x49 x50 x51 x52 x53 x54 x55 x56 x57 x58 x59 x60 x61 x62 x63 x64 x65 x66 x67 x68
    extract_lets +onlyGivenNames x69
    extract_lets +onlyGivenNames x70 x71 x72 x73 x74 x75 x76 x77 x78 x79 x80 x81
    clear_value x70 x71 x72 x73 x74 x75 x76 x77 x78 x79 x80 x81
    extract_lets +onlyGivenNames x82
    have h82 : Moves [.tally] s0 x82 := by
      unfold x82
      exact .step h48 State.closeSample_moves
    clear_value x82
    exact .step h82 State.setLoop_moves

theorem State.lateSample_moves {s0 : State} {a1 a2 : _} : Moves [.tally] s0 (State.lateSample s0 a1 a2) := by
  have e0 := @State.lateSample.eq_def
  unfold State.lateSample
  clear e0
  extract_lets +onlyGivenNames x1 x2 x3
  clear_value x1 x2 x3
  extract_lets +onlyGivenNames x4
  have h4 : Moves [.tally] s0 x4 := by
    unfold x4
    exact .step (.refl ..) State.setLoop_moves
  clear_value x4
  extract_lets +onlyGivenNames x5
  have h5 : Moves [.tally] s0 x5 := by
    unfold x5
    refine .ite (fun _ => ?_) (fun _ => ?_)
    · exact h4
    · exact .step h4 State.loopEvt_moves
  clear_value x5
  exact .step (.step (.step (.step h5 State.wr_moves) State.inc_moves) State.inc_moves) State.inc_moves

/-! ## Machine/TallyFrame.lean -/

theorem PipeRun.loop_moves {r : PipeRun} {fs : List (Nat × Nat)} {f stall : Nat} {d : LoopDef} : Moves [.tally] r.s (r.loop fs f d stall).s := by
  have e0 := @PipeRun.loop.eq_def
  unfold PipeRun.loop
  clear e0
  extract_lets +onlyGivenNames used
  split
  · exact Moves.step (.refl ..) State.lateSample_moves
  · split
    · exact Moves.step (.refl ..) State.lateSample_moves
    · split
      · exact Moves.step (.refl ..) State.lateSample_moves
      · exact State.computeSample_moves

theorem State.applyLoopStats_moves {s0 : State} {a1 : _} : Moves [.tally] s0 (State.applyLoopStats s0 a1) := by
  have e0 := @State.applyLoopStats.eq_def
  unfold State.applyLoopStats
  clear e0
  refine .ite (fun _ => ?_) (fun _ => ?_)
  · exact .refl ..
  · exact .step (.step (.refl ..) State.setLoop_moves) State.clear_moves

theorem State.atResume_moves {s0 : State} : Moves [.tally, .power] s0 (State.atResume s0) := by
  have e0 := @State.atResume.eq_def
  unfold State.atResume
  clear e0
  extract_lets +onlyGivenNames x1
  clear_value x1
  extract_lets +onlyGivenNames x2
  have h2 : Moves [.tally, .power] s0 x2 := by
    unfold x2
    refine .ite (fun _ => ?_) (fun _ => ?_)
    · exact .refl ..
    · exact .step (.with_tally (.refl ..)) State.wr_moves
  clear_value x2
  refine .ite (fun _ => ?_) (fun _ => ?_)
  · exact h2
  · extract_lets +onlyGivenNames x3
    exact .step (.with_power h2) State.wr_moves

theorem State.noteParam_moves {s0 : State} {a1 a2 : _} : Moves [.tally] s0 (State.noteParam s0 a1 a2) := by
  have e0 := @State.noteParam.eq_def
  unfold State.noteParam
  clear e0
  refine .ite (fun _ => ?_) (fun _ => ?_)
  · exact .step (.refl ..) State.setLoop_moves
  · exact .refl ..

theorem State.effBankCopy_moves {s0 : State} {a1 a2 : _} : Moves [.ledger, .twin, .free, .blocks, .tally] s0 (State.effBankCopy s0 a1 a2) := by
  have e0 := @State.effBankCopy.eq_def
  unfold State.effBankCopy
  clear e0
  split
  · rename_i y1 y2
    exact .refl ..
  · rename_i y3 y4 y5
    extract_lets +onlyGivenNames x6
    clear_value x6
    extract_lets +onlyGivenNames x7
    have h7 : Moves [.ledger, .twin, .free, .blocks, .tally] s0 x7 := by
      unfold x7
      refine .foldl ?_ (fun y8 b10 hy9 => ?_)
      · exact .refl ..
      · extract_lets +onlyGivenNames x11
        clear_value x11
        exact .step (.step hy9 State.wrR_moves) State.mirror_moves
    clear_value x7
    exact .step h7 State.noteParam_moves

theorem State.effBankSelect_moves {s0 : State} {a1 a2 : _} : Moves [.tally] s0 (State.effBankSelect s0 a1 a2) := by
  have e0 := @State.effBankSelect.eq_def
  unfold State.effBankSelect
  clear e0
  refine .ite (fun _ => ?_) (fun _ => ?_)
  · exact .refl ..
  · exact .step (.refl ..) State.setLoop_moves

theorem State.effLoopStats_moves {s0 : State} {a1 : _} : Moves [.tally] s0 (State.effLoopStats s0 a1) := by
  have e0 := @State.effLoopStats.eq_def
  unfold State.effLoopStats
  clear e0
  refine .ite (fun _ => ?_) (fun _ => ?_)
  · exact .refl ..
  · exact .step (.refl ..) State.setLoop_moves

theorem State.effTallyStats_moves {s0 : State} : Moves [] s0 (State.effTallyStats s0) := by
  have e0 := @State.effTallyStats.eq_def
  unfold State.effTallyStats
  clear e0
  exact .step (.step (.refl ..) State.wrB_moves) State.clear_moves

theorem State.notePipe_moves {s0 : State} {a1 a2 : _} : Moves [] s0 (State.notePipe s0 a1 a2) := by
  have e0 := @State.notePipe.eq_def
  unfold State.notePipe
  clear e0
  extract_lets +onlyGivenNames x1
  clear_value x1
  refine .ite (fun _ => ?_) (fun _ => ?_)
  · exact .step (.refl ..) State.wrB_moves
  · exact .refl ..

theorem State.pipeFrame_moves {s0 : State} {fs stalls : List (Nat × Nat)} {f p : Nat} : Moves [.tally] s0 (s0.pipeFrame fs stalls f p).1 := by
  have e0 := @State.pipeFrame.eq_def
  unfold State.pipeFrame
  clear e0
  extract_lets +onlyGivenNames r
  have key : ∀ (l : List LoopDef) (x : PipeRun), Moves [.tally] s0 x.s → Moves [.tally] s0 (l.foldl (fun (r : PipeRun) d =>
      r.loop fs f d (((stalls.find? (fun x => x.1 == d.id)).map (·.2)).getD 0)) x).s := by
    intro l
    induction l with
    | nil => exact fun x h => h
    | cons d l ih => exact fun x h => ih _ (h.step PipeRun.loop_moves)
  exact Moves.step (key _ _ (.refl ..)) State.notePipe_moves

theorem State.frameBoundary_moves {s0 : State} {a1 : _} : Moves [.field, .motion, .ecx, .can, .rt, .tally, .power] s0 (State.frameBoundary s0 a1) := by
  have e0 := @State.frameBoundary.eq_def
  unfold State.frameBoundary
  clear e0
  refine .ite (fun _ => ?_) (fun _ => ?_)
  · exact .refl ..
  · extract_lets +onlyGivenNames x1
    clear_value x1
    extract_lets +onlyGivenNames x2
    have h2 : Moves [.field, .motion, .ecx, .can, .rt, .tally, .power] s0 x2 := by
      unfold x2
      exact .with_tally (.refl ..)
    clear_value x2
    extract_lets +onlyGivenNames x3
    have h3 : Moves [.field, .motion, .ecx, .can, .rt, .tally, .power] s0 x3 := by
      unfold x3
      exact .step (.step (.step (.step h2 State.atResume_moves) State.applyProfiles_moves) State.applySupplies_moves) State.applyStop_moves
    clear_value x3
    extract_lets +onlyGivenNames x4 x5
    clear_value x4 x5
    extract_lets +onlyGivenNames x6
    have h6 : Moves [.field, .motion, .ecx, .can, .rt, .tally, .power] s0 x6 := by
      unfold x6
      exact .with_tally h3
    clear_value x6
    extract_lets +onlyGivenNames x7
    have h7 : Moves [.field, .motion, .ecx, .can, .rt, .tally, .power] s0 x7 := by
      unfold x7
      refine .foldl ?_ (fun y8 b10 hy9 => ?_)
      · exact h6
      · exact .step (.step hy9 State.commitLoop_moves) State.applyLoopStats_moves
    clear_value x7
    extract_lets +onlyGivenNames x11
    clear_value x11
    extract_lets +onlyGivenNames x12
    have h12 : Moves [.field, .motion, .ecx, .can, .rt, .tally, .power] s0 x12 := by
      unfold x12
      exact .with_tally h7
    clear_value x12
    extract_lets +onlyGivenNames x13
    have h13 : Moves [.field, .motion, .ecx, .can, .rt, .tally, .power] s0 x13 := by
      unfold x13
      exact .step h12 State.setEffective_moves
    clear_value x13
    extract_lets +onlyGivenNames x14
    have h14 : Moves [.field, .motion, .ecx, .can, .rt, .tally, .power] s0 x14 := by
      unfold x14
      refine .ite (fun _ => ?_) (fun _ => ?_)
      · exact h13
      · exact .step h13 State.inc_moves
    clear_value x14
    extract_lets +onlyGivenNames x15
    clear_value x15
    extract_lets +onlyGivenNames x16
    refine .ite (fun _ => ?_) (fun _ => ?_)
    · refine .step ?_ State.inc_moves
      unfold x16
      refine .foldl_fst ?_ (fun y17 k19 b20 hy18 => ?_)
      · exact h14
      · dsimp -zeta only
        extract_lets +onlyGivenNames x21
        dsimp -zeta only
        unfold x21
        exact .step hy18 State.pipeFrame_moves
    · unfold x16
      refine .foldl_fst ?_ (fun y22 k24 b25 hy23 => ?_)
      · exact h14
      · dsimp -zeta only
        extract_lets +onlyGivenNames x26
        dsimp -zeta only
        unfold x26
        exact .step hy23 State.pipeFrame_moves

theorem State.storeLoop_moves {s0 : State} {a1 : _} : Moves [.tally, .ledger, .twin, .free, .blocks] s0 (State.storeLoop s0 a1) := by
  have e0 := @State.storeLoop.eq_def
  unfold State.storeLoop
  clear e0
  extract_lets +onlyGivenNames x1
  clear_value x1
  extract_lets +onlyGivenNames x2
  have h2 : Moves [.tally, .ledger, .twin, .free, .blocks] s0 x2 := by
    unfold x2
    exact .step (.refl ..) State.setLoop_moves
  clear_value x2
  refine .foldl ?_ (fun y3 b5 hy4 => ?_)
  · exact h2
  · exact .step (.step hy4 State.retain_moves) State.mirror_moves

theorem State.storeLoops_moves {s0 : State} : Moves [.tally, .ledger, .twin, .free, .blocks] s0 (State.storeLoops s0) := by
  have e0 := @State.storeLoops.eq_def
  unfold State.storeLoops
  clear e0
  refine .foldl ?_ (fun y1 b3 hy2 => ?_)
  · exact .refl ..
  · exact .step hy2 State.storeLoop_moves

/-! ## Machine/FrameSched.lean -/

theorem State.reserveRods_moves {s0 : State} : Moves [.frame] s0 (State.reserveRods s0) := by
  have e0 := @State.reserveRods.eq_def
  unfold State.reserveRods
  clear e0
  refine .foldl ?_ (fun y1 b3 hy2 => ?_)
  · exact .refl ..
  · split
    · rename_i y4 y5
      exact hy2
    · rename_i y6 y7 y8 y9
      extract_lets +onlyGivenNames x10
      clear_value x10
      refine .ite (fun _ => ?_) (fun _ => ?_)
      · exact .with_frame hy2
      · exact hy2

theorem State.keepOutcome_moves {s0 : State} {a1 : _} : Moves [.frame] s0 (State.keepOutcome s0 a1) := by
  have e0 := @State.keepOutcome.eq_def
  unfold State.keepOutcome
  clear e0
  exact .with_frame (.refl ..)

theorem State.unreserve_moves {s0 : State} {a1 : _} : Moves [.frame] s0 (State.unreserve s0 a1) := by
  have e0 := @State.unreserve.eq_def
  unfold State.unreserve
  clear e0
  exact .with_frame (.refl ..)

theorem State.setBoard_moves {s0 : State} {a1 a2 : _} : Moves [.frame] s0 (State.setBoard s0 a1 a2) := by
  have e0 := @State.setBoard.eq_def
  unfold State.setBoard
  clear e0
  exact .with_frame (.refl ..)

theorem State.freeHome_moves {s0 : State} {a1 : _} : Moves [.frame] s0 (State.freeHome s0 a1) := by
  have e0 := @State.freeHome.eq_def
  unfold State.freeHome
  clear e0
  refine .foldl ?_ (fun y1 b3 hy2 => ?_)
  · exact .refl ..
  · extract_lets +onlyGivenNames x4
    clear_value x4
    extract_lets +onlyGivenNames x5
    clear_value x5
    extract_lets +onlyGivenNames x6
    have h6 : Moves [.frame] s0 x6 := by
      unfold x6
      exact .with_frame hy2
    clear_value x6
    extract_lets +onlyGivenNames x7
    have h7 : Moves [.frame] s0 x7 := by
      unfold x7
      refine .step ?_ State.wr_moves
      refine .ite (fun _ => ?_) (fun _ => ?_)
      · exact h6
      · exact .step h6 State.wr_moves
    clear_value x7
    exact .step h7 State.raise_moves

theorem State.decideSolveAbort_moves {s0 : State} {a1 a2 a3 a4 : _} : Moves [.answer, .eop] s0 (State.decideSolveAbort s0 a1 a2 a3 a4) := by
  have e0 := @State.decideSolveAbort.eq_def
  unfold State.decideSolveAbort
  clear e0
  extract_lets +onlyGivenNames x1
  clear_value x1
  extract_lets +onlyGivenNames x2
  have h2 : Moves [.answer, .eop] s0 x2 := by
    unfold x2
    exact .step (.refl ..) State.place_moves
  clear_value x2
  refine .ite (fun _ => ?_) (fun _ => ?_)
  · exact h2
  · exact .with_odStatus_eop h2

theorem State.settleQueue_moves {s0 : State} {a1 : _} : Moves [.frame] s0 (State.settleQueue s0 a1) := by
  have e0 := @State.settleQueue.eq_def
  unfold State.settleQueue
  clear e0
  extract_lets +onlyGivenNames x1
  clear_value x1
  refine .ite (fun _ => ?_) (fun _ => ?_)
  · exact .refl ..
  · exact .step (.refl ..) State.setBoard_moves

theorem State.endRequest_moves {s0 : State} {a1 a2 a3 a4 a5 : _} : Moves [.frame, .answer, .eop] s0 (State.endRequest s0 a1 a2 a3 a4 a5) := by
  have e0 := @State.endRequest.eq_def
  unfold State.endRequest
  clear e0
  extract_lets +onlyGivenNames x1
  have h1 : Moves [.frame, .answer, .eop] s0 x1 := by
    unfold x1
    exact .step (.refl ..) State.keepOutcome_moves
  clear_value x1
  extract_lets +onlyGivenNames x2 x3 x4 x5
  clear_value x2 x3 x4 x5
  extract_lets +onlyGivenNames x6
  have h6 : Moves [.frame, .answer, .eop] s0 x6 := by
    unfold x6
    exact .step (.step h1 State.setBoard_moves) State.unreserve_moves
  clear_value x6
  extract_lets +onlyGivenNames x7
  have h7 : Moves [.frame, .answer, .eop] s0 x7 := by
    unfold x7
    split
    · rename_i y8 y9
      exact .step h6 State.freeHome_moves
    · rename_i y10
      exact h6
  clear_value x7
  extract_lets +onlyGivenNames x11
  have h11 : Moves [.frame, .answer, .eop] s0 x11 := by
    unfold x11
    exact .step (.step (.step (.step h7 State.wr_moves) State.wr_moves) State.wr_moves) State.wrT_moves
  clear_value x11
  extract_lets +onlyGivenNames x12
  have h12 : Moves [.frame, .answer, .eop] s0 x12 := by
    unfold x12
    exact .step h11 State.inc_moves
  clear_value x12
  extract_lets +onlyGivenNames x13 x14
  clear_value x13 x14
  extract_lets +onlyGivenNames x15
  have h15 : Moves [.frame, .answer, .eop] s0 x15 := by
    unfold x15
    exact .step h12 State.raise_moves
  clear_value x15
  extract_lets +onlyGivenNames x16
  have h16 : Moves [.frame, .answer, .eop] s0 x16 := by
    unfold x16
    refine .ite (fun _ => ?_) (fun _ => ?_)
    · exact .step (.step h15 State.wr_moves) State.raise_moves
    · exact h15
  clear_value x16
  extract_lets +onlyGivenNames x17
  clear_value x17
  extract_lets +onlyGivenNames x18
  have h18 : Moves [.frame, .answer, .eop] s0 x18 := by
    unfold x18
    refine .ite (fun _ => ?_) (fun _ => ?_)
    · exact .step h16 State.wrI_moves
    · exact h16
  clear_value x18
  extract_lets +onlyGivenNames x19
  have h19 : Moves [.frame, .answer, .eop] s0 x19 := by
    unfold x19
    exact .step (.step (.step h18 State.addTo_moves) State.addTo_moves) State.addTo_moves
  clear_value x19
  extract_lets +onlyGivenNames x20 x21
  clear_value x20 x21
  extract_lets +onlyGivenNames x22
  have h22 : Moves [.frame, .answer, .eop] s0 x22 := by
    unfold x22
    exact .step (.with_frame h19) State.place_moves
  clear_value x22
  extract_lets +onlyGivenNames x23
  have h23 : Moves [.frame, .answer, .eop] s0 x23 := by
    unfold x23
    refine .foldl ?_ (fun y24 b26 hy25 => ?_)
    · exact h22
    · exact .step hy25 State.decideSolveAbort_moves
  clear_value x23
  exact .step h23 State.settleQueue_moves

theorem State.solveOutcome_moves {s0 : State} {a1 : _} : Moves [.free, .frame, .answer, .eop] s0 (State.solveOutcome s0 a1) := by
  have e0 := @State.solveOutcome.eq_def
  unfold State.solveOutcome
  clear e0
  split
  · rename_i y1 y2 y3
    refine .ite (fun _ => ?_) (fun _ => ?_)
    · exact .refl ..
    · extract_lets +onlyGivenNames x4
      have h4 : Moves [.free, .frame, .answer, .eop] s0 x4 := by
        unfold x4
        exact .step (.refl ..) State.drawn_moves
      clear_value x4
      extract_lets +onlyGivenNames x5
      clear_value x5
      exact .step (.step h4 State.endRequest_moves) State.reserveRods_moves
  · rename_i y6 y7
    exact .refl ..

theorem State.abortLatch_moves {s0 : State} {a1 a2 a3 : _} : Moves [.free, .frame, .answer, .eop] s0 (State.abortLatch s0 a1 a2 a3) := by
  have e0 := @State.abortLatch.eq_def
  unfold State.abortLatch
  clear e0
  extract_lets +onlyGivenNames x1
  clear_value x1
  split
  · rename_i y2 y3 y4
    refine .ite (fun _ => ?_) (fun _ => ?_)
    · exact .refl ..
    · refine .ite (fun _ => ?_) (fun _ => ?_)
      · exact .step (.refl ..) State.solveOutcome_moves
      · exact .step (.step (.refl ..) State.endRequest_moves) State.reserveRods_moves
  · rename_i y5 y6
    exact .refl ..

theorem State.takeSubmit_moves {s0 : State} {a1 : _} : Moves [.frame] s0 (State.takeSubmit s0 a1).1 := by
  have e0 := @State.takeSubmit.eq_def
  unfold State.takeSubmit
  clear e0
  split
  · rename_i y1
    dsimp -zeta only
    exact .refl ..
  · rename_i y2
    split
    · rename_i y3 y4
      dsimp -zeta only
      exact .refl ..
    · rename_i y5 y6 y7
      split
      · rename_i y8 y9 y10 y11
        split
        · rename_i y12
          dsimp -zeta only
          exact .refl ..
        · rename_i y13
          extract_lets +onlyGivenNames x14
          clear_value x14
          split
          · rename_i y15
            extract_lets +onlyGivenNames x16
            clear_value x16
            extract_lets +onlyGivenNames x17
            have h17 : Moves [.frame] s0 x17 := by
              unfold x17
              exact .with_frame (.refl ..)
            clear_value x17
            dsimp -zeta only
            exact .step h17 State.inc_moves
          · rename_i y18
            dsimp -zeta only
            exact .step (.refl ..) State.pop_moves
      · rename_i y19 y20
        dsimp -zeta only
        exact .refl ..

theorem State.endWaiting_moves {s0 : State} {a1 a2 a3 : _} : Moves [.frame, .answer, .eop] s0 (State.endWaiting s0 a1 a2 a3) := by
  have e0 := @State.endWaiting.eq_def
  unfold State.endWaiting
  clear e0
  extract_lets +onlyGivenNames x1
  clear_value x1
  extract_lets +onlyGivenNames x2
  have h2 : Moves [.frame, .answer, .eop] s0 x2 := by
    unfold x2
    exact .step (.refl ..) State.setBoard_moves
  clear_value x2
  exact .step h2 State.endRequest_moves

theorem State.abortTake_moves {s0 : State} : Moves [.frame, .answer, .eop] s0 (State.abortTake s0) := by
  have e0 := @State.abortTake.eq_def
  unfold State.abortTake
  clear e0
  split
  · rename_i y1 y2 y3 y4 y5 y6 y7 y8 y9
    have h_y2 : Moves [.frame, .answer, .eop] s0 y2 := by
      rw [show y2 = _ from (congrArg Prod.fst y9).symm]
      exact .step (.refl ..) State.takeSubmit_moves
    extract_lets +onlyGivenNames x10 x11
    clear_value x10 x11
    split
    · rename_i y12 y13 y14
      exact .step (.step (.step h_y2 State.endWaiting_moves) State.decideSolveAbort_moves) State.reserveRods_moves
    · rename_i y15 y16 y17 y18
      refine .ite (fun _ => ?_) (fun _ => ?_)
      · refine .ite (fun _ => ?_) (fun _ => ?_)
        · exact .step (.step (.step h_y2 State.endRequest_moves) State.decideSolveAbort_moves) State.reserveRods_moves
        · exact .step h_y2 State.setBoard_moves
      · exact .step h_y2 State.decideSolveAbort_moves
    · rename_i y19 y20 y21
      exact .step h_y2 State.decideSolveAbort_moves
  · rename_i y22 y23 y24 y25 y26
    have h_y23 : Moves [.frame, .answer, .eop] s0 y23 := by
      rw [show y23 = _ from (congrArg Prod.fst y26).symm]
      exact .step (.refl ..) State.takeSubmit_moves
    exact h_y23

theorem State.batchTake_moves {s0 : State} : Moves [.frame] s0 (State.batchTake s0) := by
  have e0 := @State.batchTake.eq_def
  unfold State.batchTake
  clear e0
  split
  · rename_i y1 y2 y3 y4 y5 y6 y7 y8 y9
    have h_y2 : Moves [.frame] s0 y2 := by
      rw [show y2 = _ from (congrArg Prod.fst y9).symm]
      exact .step (.refl ..) State.takeSubmit_moves
    extract_lets +onlyGivenNames x10
    clear_value x10
    refine .ite (fun _ => ?_) (fun _ => ?_)
    · exact .step h_y2 State.setBoard_moves
    · exact .step h_y2 State.setBoard_moves
  · rename_i y11 y12 y13 y14 y15
    have h_y12 : Moves [.frame] s0 y12 := by
      rw [show y12 = _ from (congrArg Prod.fst y15).symm]
      exact .step (.refl ..) State.takeSubmit_moves
    exact h_y12

theorem State.homeChanged_moves {s0 : State} {a1 a2 a3 : _} : Moves [.ledger] s0 (State.homeChanged s0 a1 a2 a3) := by
  have e0 := @State.homeChanged.eq_def
  unfold State.homeChanged
  clear e0
  exact .step (.step (.refl ..) State.wr_moves) State.log_moves

theorem State.chooseHome_moves {s0 : State} {a1 : _} : Moves [.ledger, .frame, .answer, .eop] s0 (State.chooseHome s0 a1) := by
  have e0 := @State.chooseHome.eq_def
  unfold State.chooseHome
  clear e0
  extract_lets +onlyGivenNames x1
  clear_value x1
  refine .ite (fun _ => ?_) (fun _ => ?_)
  · exact .refl ..
  · extract_lets +onlyGivenNames x2
    clear_value x2
    refine .ite (fun _ => ?_) (fun _ => ?_)
    · exact .refl ..
    · extract_lets +onlyGivenNames x3
      have h3 : Moves [.ledger, .frame, .answer, .eop] s0 x3 := by
        unfold x3
        exact .step (.refl ..) State.homeChanged_moves
      clear_value x3
      refine .ite (fun _ => ?_) (fun _ => ?_)
      · exact h3
      · extract_lets +onlyGivenNames x4
        have h4 : Moves [.ledger, .frame, .answer, .eop] s0 x4 := by
          unfold x4
          split
          · rename_i y5 y6 y7
            refine .ite (fun _ => ?_) (fun _ => ?_)
            · exact .step h3 State.endRequest_moves
            · exact h3
          · rename_i y8 y9
            exact h3
        clear_value x4
        split
        · rename_i y10 y11 y12
          exact .step h4 State.endWaiting_moves
        · rename_i y13 y14
          exact h4

theorem State.beadFault_moves {s0 : State} {a1 : _} : Moves [.frame, .ledger, .answer, .eop] s0 (State.beadFault s0 a1) := by
  have e0 := @State.beadFault.eq_def
  unfold State.beadFault
  clear e0
  split
  · rename_i y1 y2
    exact .refl ..
  · rename_i y3 y4 y5 y6
    split
    · rename_i y7 y8
      exact .refl ..
    · rename_i y9 y10 y11
      extract_lets +onlyGivenNames x12
      have h12 : Moves [.frame, .ledger, .answer, .eop] s0 x12 := by
        unfold x12
        exact .step (.step (.refl ..) State.wr_moves) State.freeHome_moves
      clear_value x12
      extract_lets +onlyGivenNames x13
      have h13 : Moves [.frame, .ledger, .answer, .eop] s0 x13 := by
        unfold x13
        exact .step (.step h12 State.wr_moves) State.log_moves
      clear_value x13
      extract_lets +onlyGivenNames x14
      have h14 : Moves [.frame, .ledger, .answer, .eop] s0 x14 := by
        unfold x14
        exact .step h13 State.setBoard_moves
      clear_value x14
      extract_lets +onlyGivenNames x15
      clear_value x15
      refine .step ?_ State.reserveRods_moves
      refine .foldl ?_ (fun y16 b18 hy17 => ?_)
      · exact h14
      · exact .step hy17 State.chooseHome_moves

theorem State.clearRecord_moves {s0 : State} {a1 : _} : Moves [] s0 (State.clearRecord s0 a1) := by
  have e0 := @State.clearRecord.eq_def
  unfold State.clearRecord
  clear e0
  exact .step (.step (.step (.step (.refl ..) State.wr_moves) State.wr_moves) State.wr_moves) State.wr_moves

theorem State.makeResident_moves {s0 : State} {a1 a2 a3 : _} : Moves [.frame, .ledger, .answer, .eop] s0 (State.makeResident s0 a1 a2 a3) := by
  have e0 := @State.makeResident.eq_def
  unfold State.makeResident
  clear e0
  exact .step (.step (.step (.step (.refl ..) State.setBoard_moves) State.clearRecord_moves) State.chooseHome_moves) State.settleQueue_moves

theorem State.boardLoadDone_moves {s0 : State} {a1 : _} : Moves [.frame, .ledger, .answer, .eop] s0 (State.boardLoadDone s0 a1) := by
  have e0 := @State.boardLoadDone.eq_def
  unfold State.boardLoadDone
  clear e0
  extract_lets +onlyGivenNames x1
  clear_value x1
  split
  · rename_i y2 y3
    exact .refl ..
  · rename_i y4 y5 y6
    refine .ite (fun _ => ?_) (fun _ => ?_)
    · exact .refl ..
    · extract_lets +onlyGivenNames x7
      clear_value x7
      refine .ite (fun _ => ?_) (fun _ => ?_)
      · extract_lets +onlyGivenNames x8
        have h8 : Moves [.frame, .ledger, .answer, .eop] s0 x8 := by
          unfold x8
          exact .step (.refl ..) State.makeResident_moves
        clear_value x8
        exact .step h8 State.setBoard_moves
      · exact .step (.step (.refl ..) State.setBoard_moves) State.clearRecord_moves

theorem State.boardReplace_moves {s0 : State} {a1 : _} : Moves [.frame] s0 (State.boardReplace s0 a1) := by
  have e0 := @State.boardReplace.eq_def
  unfold State.boardReplace
  clear e0
  extract_lets +onlyGivenNames x1
  clear_value x1
  split
  · rename_i y2 y3 y4
    refine .ite (fun _ => ?_) (fun _ => ?_)
    · exact .refl ..
    · exact .step (.refl ..) State.setBoard_moves
  · rename_i y5 y6
    exact .refl ..

theorem State.boardUnload_moves {s0 : State} {a1 : _} : Moves [.ledger, .frame] s0 (State.boardUnload s0 a1) := by
  have e0 := @State.boardUnload.eq_def
  unfold State.boardUnload
  clear e0
  extract_lets +onlyGivenNames x1
  clear_value x1
  split
  · rename_i y2 y3
    refine .ite (fun _ => ?_) (fun _ => ?_)
    · exact .refl ..
    · extract_lets +onlyGivenNames x4
      clear_value x4
      extract_lets +onlyGivenNames x5
      have h5 : Moves [.ledger, .frame] s0 x5 := by
        unfold x5
        exact .step (.with_frame (.refl ..)) State.clearRecord_moves
      refine .ite (fun _ => ?_) (fun _ => ?_)
      · exact h5
      · exact .step h5 State.homeChanged_moves
  · rename_i y6 y7
    exact .refl ..

theorem State.deadlineMiss_moves {s0 : State} {a1 a2 : _} : Moves [.frame, .answer, .eop] s0 (State.deadlineMiss s0 a1 a2) := by
  have e0 := @State.deadlineMiss.eq_def
  unfold State.deadlineMiss
  clear e0
  extract_lets +onlyGivenNames x1
  clear_value x1
  refine .ite (fun _ => ?_) (fun _ => ?_)
  · exact .refl ..
  · split
    · rename_i y2 y3 y4 y5
      exact .step (.step (.refl ..) State.endRequest_moves) State.reserveRods_moves
    · rename_i y6 y7 y8 y9 y10
      refine .ite (fun _ => ?_) (fun _ => ?_)
      · exact .step (.step (.refl ..) State.endWaiting_moves) State.reserveRods_moves
      · exact .refl ..
    · rename_i y11 y12 y13 y14
      exact .refl ..

theorem State.doneWrite_moves {s0 : State} : Moves [] s0 (State.doneWrite s0) := by
  have e0 := @State.doneWrite.eq_def
  unfold State.doneWrite
  clear e0
  exact .step (.refl ..) State.unstall_moves

theorem State.effBeadStats_moves {s0 : State} {a1 : _} : Moves [] s0 (State.effBeadStats s0 a1) := by
  have e0 := @State.effBeadStats.eq_def
  unfold State.effBeadStats
  clear e0
  exact .step (.step (.refl ..) State.clear_moves) State.wr_moves

theorem State.effLoadClear_moves {s0 : State} : Moves [.frame] s0 (State.effLoadClear s0) := by
  have e0 := @State.effLoadClear.eq_def
  unfold State.effLoadClear
  clear e0
  exact .step (.step (.with_frame (.refl ..)) State.wr_moves) State.wr_moves

theorem State.placeBoard_moves {s0 : State} {a1 a2 : _} : Moves [.frame, .ledger, .answer, .eop] s0 (State.placeBoard s0 a1 a2) := by
  have e0 := @State.placeBoard.eq_def
  unfold State.placeBoard
  clear e0
  refine .ite (fun _ => ?_) (fun _ => ?_)
  · exact .step (.refl ..) State.setBoard_moves
  · exact .step (.refl ..) State.makeResident_moves

theorem State.keepBoard_moves {s0 : State} {a1 a2 : _} : Moves [.frame] s0 (State.keepBoard s0 a1 a2) := by
  have e0 := @State.keepBoard.eq_def
  unfold State.keepBoard
  clear e0
  exact .with_frame (.refl ..)

theorem State.effLoadCommit_moves {s0 : State} : Moves [.frame, .ledger, .answer, .eop] s0 (State.effLoadCommit s0) := by
  have e0 := @State.effLoadCommit.eq_def
  unfold State.effLoadCommit
  clear e0
  extract_lets +onlyGivenNames x1 x2 x3 x4
  clear_value x1 x2 x3 x4
  extract_lets +onlyGivenNames x5
  have h5 : Moves [.frame, .ledger, .answer, .eop] s0 x5 := by
    unfold x5
    exact .step (.step (.refl ..) State.effLoadClear_moves) State.wr_moves
  clear_value x5
  refine .ite (fun _ => ?_) (fun _ => ?_)
  · exact h5
  · exact .step (.step h5 State.keepBoard_moves) State.placeBoard_moves

theorem State.effLoadData_moves {s0 : State} {a1 : _} : Moves [.frame] s0 (State.effLoadData s0 a1) := by
  have e0 := @State.effLoadData.eq_def
  unfold State.effLoadData
  clear e0
  extract_lets +onlyGivenNames x1 x2
  clear_value x1 x2
  extract_lets +onlyGivenNames x3
  have h3 : Moves [.frame] s0 x3 := by
    unfold x3
    exact .with_frame (.refl ..)
  clear_value x3
  exact .step (.step h3 State.wr_moves) State.raise_moves

theorem State.effMoveBatch_moves {s0 : State} {a1 a2 : _} : Moves [] s0 (State.effMoveBatch s0 a1 a2) := by
  have e0 := @State.effMoveBatch.eq_def
  unfold State.effMoveBatch
  clear e0
  exact .step (.refl ..) State.place_moves

theorem State.effSolveAbort_moves {s0 : State} {a1 a2 : _} : Moves [] s0 (State.effSolveAbort s0 a1 a2) := by
  have e0 := @State.effSolveAbort.eq_def
  unfold State.effSolveAbort
  clear e0
  exact .step (.refl ..) State.place_moves

theorem State.issueId_moves {s0 : State} {a1 : _} : Moves [.frame] s0 (State.issueId s0 a1).1 := by
  have e0 := @State.issueId.eq_def
  unfold State.issueId
  clear e0
  extract_lets +onlyGivenNames x1 x2
  clear_value x1 x2
  dsimp -zeta only
  exact .with_frame (.refl ..)

theorem State.effSolveRequest_moves {s0 : State} {a1 a2 : _} : Moves [.frame] s0 (State.effSolveRequest s0 a1 a2) := by
  have e0 := @State.effSolveRequest.eq_def
  unfold State.effSolveRequest
  clear e0
  exact .step (.step (.step (.refl ..) State.issueId_moves) State.place_moves) State.wr_moves

theorem State.effSolveStats_moves {s0 : State} {a1 : _} : Moves [] s0 (State.effSolveStats s0 a1) := by
  have e0 := @State.effSolveStats.eq_def
  unfold State.effSolveStats
  clear e0
  exact .step (.step (.refl ..) State.clear_moves) State.wr_moves

theorem State.effUnload_moves {s0 : State} {a1 : _} : Moves [.frame] s0 (State.effUnload s0 a1) := by
  have e0 := @State.effUnload.eq_def
  unfold State.effUnload
  clear e0
  exact .step (.refl ..) State.setBoard_moves

theorem State.failReq_moves {s0 : State} {a1 a2 a3 : _} : Moves [.frame, .answer, .eop] s0 (State.failReq s0 a1 a2 a3) := by
  have e0 := @State.failReq.eq_def
  unfold State.failReq
  clear e0
  extract_lets +onlyGivenNames x1
  clear_value x1
  extract_lets +onlyGivenNames x2
  have h2 : Moves [.frame, .answer, .eop] s0 x2 := by
    unfold x2
    refine .ite (fun _ => ?_) (fun _ => ?_)
    · exact .step (.refl ..) State.setBoard_moves
    · exact .refl ..
  clear_value x2
  exact .step h2 State.endWaiting_moves

theorem State.queueRoom_moves {s0 : State} : Moves [.frame] s0 (State.queueRoom s0) := by
  have e0 := @State.queueRoom.eq_def
  unfold State.queueRoom
  clear e0
  extract_lets +onlyGivenNames x1
  exact .with_frame (.refl ..)

theorem State.startReq_moves {s0 : State} {a1 a2 a3 : _} : Moves [.frame, .answer, .eop] s0 (State.startReq s0 a1 a2 a3) := by
  have e0 := @State.startReq.eq_def
  unfold State.startReq
  clear e0
  extract_lets +onlyGivenNames x1
  have h1 : Moves [.frame, .answer, .eop] s0 x1 := by
    unfold x1
    exact .step (.refl ..) State.settleQueue_moves
  clear_value x1
  split
  · rename_i y2 y3 y4
    split
    · rename_i y5 y6 y7
      exact .step h1 State.endRequest_moves
    · rename_i y8 y9
      exact .step h1 State.failReq_moves
  · rename_i y10 y11
    extract_lets +onlyGivenNames x12
    clear_value x12
    split
    · rename_i y13 y14 y15 y16 y17 y18
      extract_lets +onlyGivenNames x19
      clear_value x19
      extract_lets +onlyGivenNames x20
      have h20 : Moves [.frame, .answer, .eop] s0 x20 := by
        unfold x20
        exact .step (.step h1 State.setBoard_moves) State.unreserve_moves
      clear_value x20
      refine .foldl ?_ (fun y21 b23 hy22 => ?_)
      · exact h20
      · exact .step (.step (.step hy22 State.wr_moves) State.wr_moves) State.inc_moves

theorem State.solveDispatch_moves {s0 : State} {a1 : _} : Moves [.frame, .answer, .eop] s0 (State.solveDispatch s0 a1) := by
  have e0 := @State.solveDispatch.eq_def
  unfold State.solveDispatch
  clear e0
  refine .ite (fun _ => ?_) (fun _ => ?_)
  · exact .refl ..
  · extract_lets +onlyGivenNames x1
    have h1 : Moves [.frame, .answer, .eop] s0 x1 := by
      unfold x1
      exact .step (.refl ..) State.reserveRods_moves
    clear_value x1
    refine .ite (fun _ => ?_) (fun _ => ?_)
    · split
      · rename_i y2 y3
        exact h1
      · rename_i y4 y5 y6 y7
        extract_lets +onlyGivenNames x8 x9
        clear_value x8 x9
        refine .ite (fun _ => ?_) (fun _ => ?_)
        · exact h1
        · exact .step (.step h1 State.startReq_moves) State.reserveRods_moves
    · refine .ite (fun _ => ?_) (fun _ => ?_)
      · extract_lets +onlyGivenNames x10
        clear_value x10
        split
        · rename_i y11
          exact h1
        · rename_i y12 y13 y14
          refine .ite (fun _ => ?_) (fun _ => ?_)
          · exact .step (.step h1 State.startReq_moves) State.reserveRods_moves
          · exact h1
      · exact h1

theorem State.solveTake_moves {s0 : State} : Moves [.frame, .answer, .eop] s0 (State.solveTake s0) := by
  have e0 := @State.solveTake.eq_def
  unfold State.solveTake
  clear e0
  split
  · rename_i y1 y2 y3 y4 y5 y6 y7 y8 y9 y10
    have h_y2 : Moves [.frame, .answer, .eop] s0 y2 := by
      rw [show y2 = _ from (congrArg Prod.fst y10).symm]
      exact .step (.refl ..) State.takeSubmit_moves
    extract_lets +onlyGivenNames x11
    have h11 : Moves [.frame, .answer, .eop] s0 x11 := by
      unfold x11
      exact .step h_y2 State.inc_moves
    clear_value x11
    extract_lets +onlyGivenNames x12 x13
    clear_value x12 x13
    extract_lets +onlyGivenNames x14
    have h14 : Moves [.frame, .answer, .eop] s0 x14 := by
      unfold x14
      exact .with_frame h11
    clear_value x14
    extract_lets +onlyGivenNames x15
    have h15 : Moves [.frame, .answer, .eop] s0 x15 := by
      unfold x15
      split
      · rename_i y16 y17 y18
        exact .step (.step h14 State.endWaiting_moves) State.inc_moves
      · rename_i y19 y20
        exact h14
    clear_value x15
    split
    · rename_i y21 y22 y23
      exact .step h15 State.failReq_moves
    · rename_i y24 y25
      exact .step (.step h15 State.setBoard_moves) State.reserveRods_moves
  · rename_i y26 y27 y28 y29 y30
    have h_y27 : Moves [.frame, .answer, .eop] s0 y27 := by
      rw [show y27 = _ from (congrArg Prod.fst y30).symm]
      exact .step (.refl ..) State.takeSubmit_moves
    exact h_y27

theorem State.storeFault_moves {s0 : State} {a1 : _} : Moves [.frame, .answer, .eop] s0 (State.storeFault s0 a1) := by
  have e0 := @State.storeFault.eq_def
  unfold State.storeFault
  clear e0
  extract_lets +onlyGivenNames x1
  clear_value x1
  refine .ite (fun _ => ?_) (fun _ => ?_)
  · exact .refl ..
  · extract_lets +onlyGivenNames x2
    have h2 : Moves [.frame, .answer, .eop] s0 x2 := by
      unfold x2
      exact .step (.refl ..) State.setBoard_moves
    clear_value x2
    extract_lets +onlyGivenNames x3
    have h3 : Moves [.frame, .answer, .eop] s0 x3 := by
      unfold x3
      split
      · rename_i y4 y5 y6
        exact .step h2 State.endRequest_moves
      · rename_i y7 y8
        exact h2
    clear_value x3
    extract_lets +onlyGivenNames x9
    have h9 : Moves [.frame, .answer, .eop] s0 x9 := by
      unfold x9
      split
      · rename_i y10 y11 y12
        exact .step h3 State.endWaiting_moves
      · rename_i y13 y14
        exact h3
    clear_value x9
    exact .step h9 State.settleQueue_moves

/-! ## Machine/Archive.lean -/

theorem State.rejectArchive_moves {s0 : State} {a1 a2 : _} : Moves [.ledger] s0 (State.rejectArchive s0 a1 a2) := by
  have e0 := @State.rejectArchive.eq_def
  unfold State.rejectArchive
  clear e0
  exact .step (.refl ..) State.log_moves

theorem State.commitAll_moves {s0 : State} : Moves [] s0 (State.commitAll s0) := by
  have e0 := @State.commitAll.eq_def
  unfold State.commitAll
  clear e0
  refine .foldl ?_ (fun y1 b3 hy2 => ?_)
  · exact .refl ..
  · exact .step hy2 State.pairCommit_moves

theorem State.forget_moves {s0 : State} {a : Nat} {b : List Nat} : Moves [] s0 (s0.forget a b) :=
  Moves.od (fun h => rising_filter _ _ h)

theorem State.resetBanks_moves {s0 : State} {a : Nat} : Moves [.rt, .blocks] s0 (s0.resetBanks a) := by
  have e0 := @State.resetBanks.eq_def
  unfold State.resetBanks
  clear e0
  extract_lets +onlyGivenNames keep copy
  exact Moves.with_blocks (Moves.with_rt (Moves.step (.refl ..) (Moves.od (fun h => rising_filter _ _ h))))

theorem State.installLoop_moves {s0 : State} {a1 : _} : Moves [.tally] s0 (State.installLoop s0 a1) := by
  have e0 := @State.installLoop.eq_def
  unfold State.installLoop
  clear e0
  extract_lets +onlyGivenNames x1
  have h1 : Moves [.tally] s0 x1 := by
    unfold x1
    exact .step (.step (.refl ..) State.forget_moves) State.setLoop_moves
  clear_value x1
  extract_lets +onlyGivenNames x2
  have h2 : Moves [.tally] s0 x2 := by
    unfold x2
    exact .step (.step (.step (.step (.step (.step h1 State.wr_moves) State.wr_moves) State.wr_moves) State.wr_moves) State.wr_moves) State.wr_moves
  clear_value x2
  exact .step (.step h2 State.wrB_moves) State.wrB_moves

theorem State.installLoops_moves {s0 : State} {a1 a2 : _} : Moves [.tally, .ledger, .twin, .free, .blocks, .rt] s0 (State.installLoops s0 a1 a2) := by
  have e0 := @State.installLoops.eq_def
  unfold State.installLoops
  clear e0
  extract_lets +onlyGivenNames x1 x2
  clear_value x1 x2
  extract_lets +onlyGivenNames x3
  have h3 : Moves [.tally, .ledger, .twin, .free, .blocks, .rt] s0 x3 := by
    unfold x3
    refine .foldl ?_ (fun y4 b6 hy5 => ?_)
    · exact .refl ..
    · extract_lets +onlyGivenNames x7
      have h7 : Moves [.tally, .ledger, .twin, .free, .blocks, .rt] s0 x7 := by
        unfold x7
        exact .step hy5 State.storeLoop_moves
      clear_value x7
      extract_lets +onlyGivenNames x8
      have h8 : Moves [.tally, .ledger, .twin, .free, .blocks, .rt] s0 x8 := by
        unfold x8
        exact .step h7 State.forget_moves
      clear_value x8
      exact .with_tally h8
  clear_value x3
  extract_lets +onlyGivenNames x9
  have h9 : Moves [.tally, .ledger, .twin, .free, .blocks, .rt] s0 x9 := by
    unfold x9
    refine .foldl ?_ (fun y10 b12 hy11 => ?_)
    · exact h3
    · extract_lets +onlyGivenNames x13
      clear_value x13
      refine .ite (fun _ => ?_) (fun _ => ?_)
      · exact .step (.step hy11 State.setLoop_moves) State.wrB_moves
      · extract_lets +onlyGivenNames x14
        have h14 : Moves [.tally, .ledger, .twin, .free, .blocks, .rt] s0 x14 := by
          unfold x14
          refine .ite (fun _ => ?_) (fun _ => ?_)
          · exact hy11
          · exact .step hy11 State.resetBanks_moves
        clear_value x14
        exact .step h14 State.installLoop_moves
  clear_value x9
  extract_lets +onlyGivenNames x15
  clear_value x15
  extract_lets +onlyGivenNames x16
  have h16 : Moves [.tally, .ledger, .twin, .free, .blocks, .rt] s0 x16 := by
    unfold x16
    refine .ite (fun _ => ?_) (fun _ => ?_)
    · exact h9
    · exact .with_tally h9
  clear_value x16
  exact .step (.step h16 State.wr_moves) State.wrB_moves

theorem State.installVars_moves {s0 : State} {a1 a2 : _} : Moves [.rt] s0 (State.installVars s0 a1 a2) := by
  have e0 := @State.installVars.eq_def
  unfold State.installVars
  clear e0
  extract_lets +onlyGivenNames x1 x2 x3 x4
  clear_value x1 x2 x3 x4
  extract_lets +onlyGivenNames x5
  exact .with_rt (.refl ..)

theorem State.installTasks_moves {s0 : State} {a1 a2 : _} : Moves [.rt] s0 (State.installTasks s0 a1 a2) := by
  have e0 := @State.installTasks.eq_def
  unfold State.installTasks
  clear e0
  extract_lets +onlyGivenNames x1 x2
  clear_value x1 x2
  extract_lets +onlyGivenNames x3
  have h3 : Moves [.rt] s0 x3 := by
    unfold x3
    exact .with_rt (.refl ..)
  clear_value x3
  extract_lets +onlyGivenNames x4
  have h4 : Moves [.rt] s0 x4 := by
    unfold x4
    refine .foldl ?_ (fun y5 b7 hy6 => ?_)
    · exact h3
    · refine .ite (fun _ => ?_) (fun _ => ?_)
      · exact hy6
      · exact .step hy6 State.forget_moves
  clear_value x4
  extract_lets +onlyGivenNames x8
  have h8 : Moves [.rt] s0 x8 := by
    unfold x8
    refine .foldl ?_ (fun y9 b11 hy10 => ?_)
    · exact h4
    · extract_lets +onlyGivenNames x12
      clear_value x12
      extract_lets +onlyGivenNames x13
      have h13 : Moves [.rt] s0 x13 := by
        unfold x13
        exact .step (.step hy10 State.setTask_moves) State.wr_moves
      clear_value x13
      exact .step (.step (.step (.step h13 State.wr_moves) State.wr_moves) State.wr_moves) State.wr_moves
  clear_value x8
  exact .step h8 State.wrB_moves

theorem State.installBoards_moves {s0 : State} {a1 a2 a3 : _} : Moves [.frame] s0 (State.installBoards s0 a1 a2 a3) := by
  have e0 := @State.installBoards.eq_def
  unfold State.installBoards
  clear e0
  extract_lets +onlyGivenNames x1
  extract_lets +onlyGivenNames x2
  clear_value x2
  extract_lets +onlyGivenNames x3
  have h3 : Moves [.frame] s0 x3 := by
    unfold x3
    refine .foldl ?_ (fun y4 b6 hy5 => ?_)
    · exact .refl ..
    · exact .step hy5 State.setBoard_moves
  clear_value x3
  refine .foldl ?_ (fun y7 b9 hy8 => ?_)
  · exact h3
  · extract_lets +onlyGivenNames x10
    clear_value x10
    refine .ite (fun _ => ?_) (fun _ => ?_)
    · exact hy8
    · refine .ite (fun _ => ?_) (fun _ => ?_)
      · exact .step hy8 State.setBoard_moves
      · exact .step hy8 State.setBoard_moves

theorem State.installArchive_moves {s0 : State} {a1 a2 : _} : Moves [.tally, .ledger, .twin, .free, .blocks, .rt, .frame] s0 (State.installArchive s0 a1 a2) := by
  have e0 := @State.installArchive.eq_def
  unfold State.installArchive
  clear e0
  extract_lets +onlyGivenNames x1 x2 x3
  clear_value x1 x2 x3
  extract_lets +onlyGivenNames x4
  have h4 : Moves [.tally, .ledger, .twin, .free, .blocks, .rt, .frame] s0 x4 := by
    unfold x4
    exact .with_rt (.refl ..)
  clear_value x4
  extract_lets +onlyGivenNames x5
  have h5 : Moves [.tally, .ledger, .twin, .free, .blocks, .rt, .frame] s0 x5 := by
    unfold x5
    exact .step (.step (.step (.step h4 State.installTasks_moves) State.installVars_moves) State.installLoops_moves) State.wr_moves
  clear_value x5
  extract_lets +onlyGivenNames x6
  have h6 : Moves [.tally, .ledger, .twin, .free, .blocks, .rt, .frame] s0 x6 := by
    unfold x6
    exact .step h5 State.wr_moves
  clear_value x6
  extract_lets +onlyGivenNames x7
  have h7 : Moves [.tally, .ledger, .twin, .free, .blocks, .rt, .frame] s0 x7 := by
    unfold x7
    refine .ite (fun _ => ?_) (fun _ => ?_)
    · exact h6
    · exact .step h6 State.firstTurns_moves
  clear_value x7
  exact .step h7 State.installBoards_moves

theorem State.archiveLoad_moves {s0 : State} {a1 : _} : Moves [.ledger, .free, .safety, .tally, .twin, .blocks, .rt, .frame] s0 (State.archiveLoad s0 a1) := by
  have e0 := @State.archiveLoad.eq_def
  unfold State.archiveLoad
  clear e0
  refine .ite (fun _ => ?_) (fun _ => ?_)
  · exact .refl ..
  · extract_lets +onlyGivenNames x1
    clear_value x1
    refine .ite (fun _ => ?_) (fun _ => ?_)
    · exact .step (.refl ..) State.rejectArchive_moves
    · extract_lets +onlyGivenNames x2
      clear_value x2
      extract_lets +onlyGivenNames x3
      have h3 : Moves [.ledger, .free, .safety, .tally, .twin, .blocks, .rt, .frame] s0 x3 := by
        unfold x3
        exact .with_rt (.refl ..)
      clear_value x3
      exact .step (.step (.step (.step h3 State.installArchive_moves) State.safetyConfigure_moves) State.commitAll_moves) State.log_moves

end Sys2Proof.Machine
end

