-- ==== Sys2Proof/Laws/MovesPower.lean ====
section
/-!
SUPPORT. Laws/MovesPower.lean: what each operation of the panel, supply and start, turn commits and online changes may change: one lemma per operation (`Moves`).
-/
set_option linter.unusedVariables false
set_option Elab.async false
namespace Sys2Proof.Machine

/-! ## Machine/Slate.lean -/

theorem State.abandonKeys_moves {s0 : State} : Moves [.field, .ledger, .blocks] s0 (State.abandonKeys s0) := by
  have e0 := @State.abandonKeys.eq_def
  unfold State.abandonKeys
  clear e0
  extract_lets +onlyGivenNames x1
  have h1 : Moves [.field, .ledger, .blocks] s0 x1 := by
    unfold x1
    refine .foldl ?_ (fun y2 b4 hy3 => ?_)
    · exact .refl ..
    · refine .ite (fun _ => ?_) (fun _ => ?_)
      · exact .step hy3 State.effTrimCapture_moves
      · exact hy3
  clear_value x1
  refine .foldl ?_ (fun y5 b7 hy6 => ?_)
  · exact h1
  · refine .ite (fun _ => ?_) (fun _ => ?_)
    · exact .step hy6 State.effAoTrim_moves
    · exact hy6

theorem State.setSlate_moves {s0 : State} {a1 : _} : Moves [.slate] s0 (State.setSlate s0 a1) := by
  have e0 := @State.setSlate.eq_def
  unfold State.setSlate
  clear e0
  exact .with_slate (.refl ..)

theorem State.setPanel_moves {s0 : State} {a1 : _} : Moves [.ledger] s0 (State.setPanel s0 a1) := by
  have e0 := @State.setPanel.eq_def
  unfold State.setPanel
  clear e0
  refine .ite (fun _ => ?_) (fun _ => ?_)
  · exact .refl ..
  · exact .step (.step (.refl ..) State.wr_moves) State.log_moves

theorem State.whiteReset_moves {s0 : State} {a1 : _} : Moves [.slate, .ledger] s0 (State.whiteReset s0 a1) := by
  have e0 := @State.whiteReset.eq_def
  unfold State.whiteReset
  clear e0
  extract_lets +onlyGivenNames x1 x2
  clear_value x1 x2
  extract_lets +onlyGivenNames x3
  extract_lets +onlyGivenNames x4
  have h4 : Moves [.slate, .ledger] s0 x4 := by
    unfold x4
    exact .step (.refl ..) State.setSlate_moves
  clear_value x4
  refine .ite (fun _ => ?_) (fun _ => ?_)
  · exact h4
  · exact .step (.step h4 State.wr_moves) State.log_moves

theorem State.panelStep_moves {s0 : State} {a1 : _} : Moves [.slate, .ledger] s0 (State.panelStep s0 a1) := by
  have e0 := @State.panelStep.eq_def
  unfold State.panelStep
  clear e0
  split
  · rename_i y1 y2 y3
    extract_lets +onlyGivenNames x4 x5 x6
    clear_value x4 x5 x6
    extract_lets +onlyGivenNames x7
    have h7 : Moves [.slate, .ledger] s0 x7 := by
      unfold x7
      exact .step (.refl ..) State.setSlate_moves
    clear_value x7
    refine .ite (fun _ => ?_) (fun _ => ?_)
    · exact h7
    · refine .ite (fun _ => ?_) (fun _ => ?_)
      · exact .step h7 State.wr_moves
      · refine .ite (fun _ => ?_) (fun _ => ?_)
        · exact h7
        · exact .step h7 State.wr_moves
  · rename_i y8
    exact .step (.refl ..) State.setSlate_moves
  · rename_i y9 y10
    exact .step (.refl ..) State.whiteReset_moves
  · rename_i y11 y12
    refine .ite (fun _ => ?_) (fun _ => ?_)
    · exact .refl ..
    · exact .step (.refl ..) State.setPanel_moves

theorem State.takeStep_moves {s0 : State} {a1 : _} : Moves [.slate, .ledger] s0 (State.takeStep s0 a1) := by
  have e0 := @State.takeStep.eq_def
  unfold State.takeStep
  clear e0
  extract_lets +onlyGivenNames x1
  have h1 : Moves [.slate, .ledger] s0 x1 := by
    unfold x1
    exact .step (.refl ..) State.panelStep_moves
  clear_value x1
  exact .step h1 State.setSlate_moves

theorem State.setSeq_moves {s0 : State} {a1 : _} : Moves [.slate] s0 (State.setSeq s0 a1) := by
  have e0 := @State.setSeq.eq_def
  unfold State.setSeq
  clear e0
  exact .step (.refl ..) State.setSlate_moves

theorem State.takeSteps_moves {l : List (Nat × PanelStep)} {s0 : State} : Moves [.slate, .ledger] s0 (State.takeSteps l s0) := by
  induction l generalizing s0 with
  | nil => exact Moves.step (.refl ..) State.setSeq_moves
  | cons p l ih =>
    cases l with
    | nil => exact Moves.step (Moves.step (.refl ..) State.takeStep_moves) State.setSeq_moves
    | cons q l => exact .ite (fun _ => Moves.step (Moves.step (.refl ..) State.takeStep_moves) ih) (fun _ => Moves.step (Moves.step (.refl ..) State.takeStep_moves) State.setSeq_moves)

theorem State.startSeq_moves {s0 : State} {a1 : _} : Moves [.slate, .ledger] s0 (State.startSeq s0 a1) := by
  have e0 := @State.startSeq.eq_def
  unfold State.startSeq
  clear e0
  extract_lets +onlyGivenNames x1
  clear_value x1
  extract_lets +onlyGivenNames x2
  have h2 : Moves [.slate, .ledger] s0 x2 := by
    unfold x2
    exact .step (.refl ..) State.setSlate_moves
  clear_value x2
  split
  · rename_i y3
    exact h2
  · rename_i y4 y5 y6
    refine .ite (fun _ => ?_) (fun _ => ?_)
    · exact .step h2 State.takeSteps_moves
    · exact h2

theorem State.panelUp_moves {s0 : State} : Moves [.slate, .ledger] s0 (State.panelUp s0) := by
  have e0 := @State.panelUp.eq_def
  unfold State.panelUp
  clear e0
  refine .ite (fun _ => ?_) (fun _ => ?_)
  · exact .refl ..
  · extract_lets +onlyGivenNames x1
    clear_value x1
    extract_lets +onlyGivenNames x2
    have h2 : Moves [.slate, .ledger] s0 x2 := by
      unfold x2
      exact .step (.step (.refl ..) State.setPanel_moves) State.setSlate_moves
    clear_value x2
    exact .step h2 State.startSeq_moves

theorem State.afterSeq_moves {s0 : State} : Moves [.slate, .ledger] s0 (State.afterSeq s0) := by
  have e0 := @State.afterSeq.eq_def
  unfold State.afterSeq
  clear e0
  extract_lets +onlyGivenNames x1
  clear_value x1
  refine .ite (fun _ => ?_) (fun _ => ?_)
  · exact .refl ..
  · extract_lets +onlyGivenNames x2
    clear_value x2
    extract_lets +onlyGivenNames x3
    have h3 : Moves [.slate, .ledger] s0 x3 := by
      unfold x3
      exact .step (.refl ..) State.setSlate_moves
    clear_value x3
    refine .ite (fun _ => ?_) (fun _ => ?_)
    · refine .ite (fun _ => ?_) (fun _ => ?_)
      · exact h3
      · exact .step h3 State.panelUp_moves
    · exact h3

theorem State.bandCheck_moves {s0 : State} {a1 a2 : _} : Moves [.ledger, .slate] s0 (State.bandCheck s0 a1 a2) := by
  have e0 := @State.bandCheck.eq_def
  unfold State.bandCheck
  clear e0
  extract_lets +onlyGivenNames x1
  refine .ite (fun _ => ?_) (fun _ => ?_)
  · exact .refl ..
  · extract_lets +onlyGivenNames x2
    clear_value x2
    extract_lets +onlyGivenNames x3
    clear_value x3
    extract_lets +onlyGivenNames x4
    have h4 : Moves [.ledger, .slate] s0 x4 := by
      unfold x4
      exact .step (.step (.refl ..) State.inc_moves) State.log_moves
    clear_value x4
    extract_lets +onlyGivenNames x5
    extract_lets +onlyGivenNames x6
    exact .step h4 State.setSlate_moves

theorem State.countKey_moves {s0 : State} {a1 : _} : Moves [] s0 (State.countKey s0 a1) := by
  have e0 := @State.countKey.eq_def
  unfold State.countKey
  clear e0
  extract_lets +onlyGivenNames x1
  clear_value x1
  exact .step (.step (.refl ..) State.wrB_moves) State.wrT_moves

theorem State.showSlate_moves {s0 : State} : Moves [] s0 (State.showSlate s0) := by
  have e0 := @State.showSlate.eq_def
  unfold State.showSlate
  clear e0
  exact .step (.step (.refl ..) State.wr_moves) State.wr_moves

theorem State.updEnd_moves {s0 : State} {a1 a2 : _} : Moves [] s0 (State.updEnd s0 a1 a2) := by
  have e0 := @State.updEnd.eq_def
  unfold State.updEnd
  clear e0
  extract_lets +onlyGivenNames x1
  have h1 : Moves [] s0 x1 := by
    unfold x1
    exact .step (.step (.refl ..) State.wr_moves) State.wr_moves
  clear_value x1
  refine .ite (fun _ => ?_) (fun _ => ?_)
  · exact .step h1 State.inc_moves
  · exact h1

theorem State.cutPending_moves {s0 : State} : Moves [.slate] s0 (State.cutPending s0) := by
  have e0 := @State.cutPending.eq_def
  unfold State.cutPending
  clear e0
  extract_lets +onlyGivenNames x1
  clear_value x1
  refine .step ?_ State.showSlate_moves
  refine .foldl ?_ (fun y2 b4 hy3 => ?_)
  · exact .step (.refl ..) State.setSlate_moves
  · exact .step hy3 State.updEnd_moves

theorem State.cutRunning_moves {s0 : State} : Moves [.slate] s0 (State.cutRunning s0) := by
  have e0 := @State.cutRunning.eq_def
  unfold State.cutRunning
  clear e0
  extract_lets +onlyGivenNames x1
  clear_value x1
  refine .step ?_ State.showSlate_moves
  refine .foldl ?_ (fun y2 b4 hy3 => ?_)
  · exact .step (.refl ..) State.setSlate_moves
  · exact .step hy3 State.updEnd_moves

theorem State.effDraw_moves {s0 : State} {a1 : _} : Moves [] s0 (State.effDraw s0 a1) := by
  have e0 := @State.effDraw.eq_def
  unfold State.effDraw
  clear e0
  exact .step (.refl ..) State.place_moves

theorem State.panelDown_moves {s0 : State} : Moves [.ledger, .slate] s0 (State.panelDown s0) := by
  have e0 := @State.panelDown.eq_def
  unfold State.panelDown
  clear e0
  refine .ite (fun _ => ?_) (fun _ => ?_)
  · exact .refl ..
  · extract_lets +onlyGivenNames x1
    have h1 : Moves [.ledger, .slate] s0 x1 := by
      unfold x1
      exact .step (.step (.refl ..) State.cutPending_moves) State.setPanel_moves
    clear_value x1
    extract_lets +onlyGivenNames x2
    clear_value x2
    extract_lets +onlyGivenNames x3
    have h3 : Moves [.ledger, .slate] s0 x3 := by
      unfold x3
      exact .step h1 State.setSlate_moves
    clear_value x3
    extract_lets +onlyGivenNames x4
    clear_value x4
    exact .step h3 State.startSeq_moves

theorem State.effPanelEnable_moves {s0 : State} {a1 : _} : Moves [.slate, .ledger] s0 (State.effPanelEnable s0 a1) := by
  have e0 := @State.effPanelEnable.eq_def
  unfold State.effPanelEnable
  clear e0
  extract_lets +onlyGivenNames x1
  clear_value x1
  refine .ite (fun _ => ?_) (fun _ => ?_)
  · refine .ite (fun _ => ?_) (fun _ => ?_)
    · exact .step (.refl ..) State.setSlate_moves
    · refine .ite (fun _ => ?_) (fun _ => ?_)
      · extract_lets +onlyGivenNames x2
        clear_value x2
        extract_lets +onlyGivenNames x3
        have h3 : Moves [.slate, .ledger] s0 x3 := by
          unfold x3
          exact .step (.refl ..) State.setSlate_moves
        clear_value x3
        exact .step h3 State.panelUp_moves
      · exact .step (.refl ..) State.setSlate_moves
  · extract_lets +onlyGivenNames x4
    clear_value x4
    extract_lets +onlyGivenNames x5
    have h5 : Moves [.slate, .ledger] s0 x5 := by
      unfold x5
      exact .step (.refl ..) State.setSlate_moves
    clear_value x5
    refine .ite (fun _ => ?_) (fun _ => ?_)
    · exact .step (.step h5 State.setSlate_moves) State.panelDown_moves
    · exact h5

theorem State.effPanelStats_moves {s0 : State} : Moves [] s0 (State.effPanelStats s0) := by
  have e0 := @State.effPanelStats.eq_def
  unfold State.effPanelStats
  clear e0
  exact .step (.refl ..) State.clear_moves

theorem State.effPanelType_moves {s0 : State} : Moves [.ledger, .slate] s0 (State.effPanelType s0) := by
  have e0 := @State.effPanelType.eq_def
  unfold State.effPanelType
  clear e0
  extract_lets +onlyGivenNames x1
  clear_value x1
  refine .ite (fun _ => ?_) (fun _ => ?_)
  · exact .refl ..
  · refine .ite (fun _ => ?_) (fun _ => ?_)
    · exact .step (.step (.refl ..) State.setSlate_moves) State.panelDown_moves
    · refine .ite (fun _ => ?_) (fun _ => ?_)
      · exact .step (.step (.refl ..) State.setSlate_moves) State.afterSeq_moves
      · exact .step (.refl ..) State.afterSeq_moves

theorem State.keyAi_moves {s0 : State} {a1 a2 : _} : Moves [.field] s0 (State.keyAi s0 a1 a2) := by
  have e0 := @State.keyAi.eq_def
  unfold State.keyAi
  clear e0
  extract_lets +onlyGivenNames x1
  split
  · rename_i y2 y3 y4
    unfold x1
    refine .ite (fun _ => ?_) (fun _ => ?_)
    · exact .step (.refl ..) State.effTrimCapture_moves
    · exact .refl ..
  · rename_i y5 y6 y7
    unfold x1
    refine .ite (fun _ => ?_) (fun _ => ?_)
    · exact .step (.refl ..) State.effTrimCapture_moves
    · exact .refl ..
  · rename_i y8 y9 y10
    unfold x1
    refine .ite (fun _ => ?_) (fun _ => ?_)
    · exact .step (.refl ..) State.effTrimCapture_moves
    · exact .refl ..
  · rename_i y11 y12 y13 y14 y15 y16
    exact .refl ..

theorem State.keyAo_moves {s0 : State} {a1 a2 : _} : Moves [.field, .ledger, .blocks, .slate] s0 (State.keyAo s0 a1 a2) := by
  have e0 := @State.keyAo.eq_def
  unfold State.keyAo
  clear e0
  extract_lets +onlyGivenNames x1
  split
  · rename_i y2 y3 y4
    unfold x1
    refine .ite (fun _ => ?_) (fun _ => ?_)
    · exact .step (.step (.refl ..) State.setSlate_moves) State.effAoTrim_moves
    · exact .step (.refl ..) State.setSlate_moves
  · rename_i y5 y6 y7 y8
    exact .step (.refl ..) State.setSlate_moves
  · rename_i y9 y10 y11 y12
    exact .step (.refl ..) State.setSlate_moves
  · rename_i y13 y14 y15 y16
    extract_lets +onlyGivenNames x17
    have h17 : Moves [.field, .ledger, .blocks, .slate] s0 x17 := by
      unfold x17
      exact .step (.refl ..) State.effAoReading_moves
    clear_value x17
    refine .ite (fun _ => ?_) (fun _ => ?_)
    · unfold x1
      refine .ite (fun _ => ?_) (fun _ => ?_)
      · exact .step (.step h17 State.setSlate_moves) State.effAoTrim_moves
      · exact .step h17 State.setSlate_moves
    · unfold x1
      refine .ite (fun _ => ?_) (fun _ => ?_)
      · exact .step h17 State.effAoTrim_moves
      · exact h17
  · rename_i y18 y19 y20 y21
    unfold x1
    refine .ite (fun _ => ?_) (fun _ => ?_)
    · exact .step (.refl ..) State.effAoTrim_moves
    · exact .refl ..
  · rename_i y22 y23 y24 y25 y26 y27 y28 y29
    exact .refl ..

theorem State.serviceKey_moves {s0 : State} {a1 : _} : Moves [.slate, .field, .ledger, .blocks] s0 (State.serviceKey s0 a1) := by
  have e0 := @State.serviceKey.eq_def
  unfold State.serviceKey
  clear e0
  extract_lets +onlyGivenNames x1 x2
  clear_value x1 x2
  refine .ite (fun _ => ?_) (fun _ => ?_)
  · exact .step (.refl ..) State.setSlate_moves
  · refine .ite (fun _ => ?_) (fun _ => ?_)
    · exact .step (.refl ..) State.setSlate_moves
    · refine .ite (fun _ => ?_) (fun _ => ?_)
      · exact .step (.refl ..) State.keyAi_moves
      · exact .step (.refl ..) State.keyAo_moves

theorem State.pressKey_moves {s0 : State} {a1 : _} : Moves [.slate, .field, .ledger, .blocks] s0 (State.pressKey s0 a1) := by
  have e0 := @State.pressKey.eq_def
  unfold State.pressKey
  clear e0
  extract_lets +onlyGivenNames x1
  clear_value x1
  extract_lets +onlyGivenNames x2
  have h2 : Moves [.slate, .field, .ledger, .blocks] s0 x2 := by
    unfold x2
    exact .step (.refl ..) State.setSlate_moves
  clear_value x2
  refine .ite (fun _ => ?_) (fun _ => ?_)
  · exact h2
  · refine .ite (fun _ => ?_) (fun _ => ?_)
    · exact .step h2 State.wr_moves
    · refine .ite (fun _ => ?_) (fun _ => ?_)
      · exact .step h2 State.serviceKey_moves
      · exact .step h2 State.countKey_moves

theorem State.keyPress_moves {s0 : State} {a1 : _} : Moves [.slate, .field, .ledger, .blocks] s0 (State.keyPress s0 a1) := by
  have e0 := @State.keyPress.eq_def
  unfold State.keyPress
  clear e0
  extract_lets +onlyGivenNames x1 x2 x3 x4
  clear_value x1 x2 x3 x4
  extract_lets +onlyGivenNames x5
  have h5 : Moves [.slate, .field, .ledger, .blocks] s0 x5 := by
    unfold x5
    exact .step (.refl ..) State.setSlate_moves
  clear_value x5
  extract_lets +onlyGivenNames x6
  have h6 : Moves [.slate, .field, .ledger, .blocks] s0 x6 := by
    unfold x6
    refine .foldl ?_ (fun y7 b9 hy8 => ?_)
    · exact h5
    · refine .ite (fun _ => ?_) (fun _ => ?_)
      · exact .step hy8 State.pressKey_moves
      · exact hy8
  clear_value x6
  exact .step h6 State.wr_moves

theorem State.moveVcom_moves {s0 : State} : Moves [] s0 (State.moveVcom s0) := by
  have e0 := @State.moveVcom.eq_def
  unfold State.moveVcom
  clear e0
  refine .ite (fun _ => ?_) (fun _ => ?_)
  · exact .refl ..
  · extract_lets +onlyGivenNames x1
    clear_value x1
    extract_lets +onlyGivenNames x2
    clear_value x2
    exact .step (.refl ..) State.wr_moves

theorem State.panelRailFault_moves {s0 : State} {a1 a2 : _} : Moves [.ledger, .slate] s0 (State.panelRailFault s0 a1 a2) := by
  have e0 := @State.panelRailFault.eq_def
  unfold State.panelRailFault
  clear e0
  extract_lets +onlyGivenNames x1
  clear_value x1
  refine .ite (fun _ => ?_) (fun _ => ?_)
  · exact .refl ..
  · extract_lets +onlyGivenNames x2
    clear_value x2
    extract_lets +onlyGivenNames x3
    have h3 : Moves [.ledger, .slate] s0 x3 := by
      unfold x3
      exact .step (.step (.refl ..) State.log_moves) State.setPanel_moves
    clear_value x3
    extract_lets +onlyGivenNames x4
    clear_value x4
    extract_lets +onlyGivenNames x5
    have h5 : Moves [.ledger, .slate] s0 x5 := by
      unfold x5
      exact .step (.step h3 State.setSlate_moves) State.cutRunning_moves
    clear_value x5
    exact .step (.step h5 State.startSeq_moves) State.afterSeq_moves

theorem State.panelTemp_moves {s0 : State} {a1 : _} : Moves [.slate] s0 (State.panelTemp s0 a1) := by
  have e0 := @State.panelTemp.eq_def
  unfold State.panelTemp
  clear e0
  extract_lets +onlyGivenNames x1
  have h1 : Moves [.slate] s0 x1 := by
    unfold x1
    exact .step (.step (.refl ..) State.wr_moves) State.wr_moves
  clear_value x1
  extract_lets +onlyGivenNames x2
  have h2 : Moves [.slate] s0 x2 := by
    unfold x2
    exact .step h1 State.wr_moves
  clear_value x2
  exact .step (.step h2 State.setSlate_moves) State.moveVcom_moves

theorem State.updCommit_moves {s0 : State} {a1 : _} : Moves [.slate] s0 (State.updCommit s0 a1) := by
  have e0 := @State.updCommit.eq_def
  unfold State.updCommit
  clear e0
  extract_lets +onlyGivenNames x1
  clear_value x1
  extract_lets +onlyGivenNames x2
  extract_lets +onlyGivenNames x3
  extract_lets +onlyGivenNames x4
  have h4 : Moves [.slate] s0 x4 := by
    unfold x4
    exact .step (.refl ..) State.setSlate_moves
  clear_value x4
  exact .step h4 State.updEnd_moves

theorem State.settleStrip_moves {s0 : State} : Moves [.slate] s0 (State.settleStrip s0) := by
  have e0 := @State.settleStrip.eq_def
  unfold State.settleStrip
  clear e0
  refine .ite (fun _ => ?_) (fun _ => ?_)
  · exact .step (.refl ..) State.setSlate_moves
  · exact .refl ..

theorem State.updStart_moves {s0 : State} {a1 : _} : Moves [.slate] s0 (State.updStart s0 a1) := by
  have e0 := @State.updStart.eq_def
  unfold State.updStart
  clear e0
  extract_lets +onlyGivenNames x1 x2 x3
  clear_value x1 x2 x3
  exact .step (.refl ..) State.setSlate_moves

theorem State.phaseBoundary_moves {s0 : State} : Moves [.slate, .ledger] s0 (State.phaseBoundary s0) := by
  have e0 := @State.phaseBoundary.eq_def
  unfold State.phaseBoundary
  clear e0
  extract_lets +onlyGivenNames x1 x2
  clear_value x1 x2
  refine .ite (fun _ => ?_) (fun _ => ?_)
  · exact .refl ..
  · extract_lets +onlyGivenNames x3
    have h3 : Moves [.slate, .ledger] s0 x3 := by
      unfold x3
      exact .step (.refl ..) State.setSlate_moves
    clear_value x3
    extract_lets +onlyGivenNames x4
    have h4 : Moves [.slate, .ledger] s0 x4 := by
      unfold x4
      refine .foldl ?_ (fun y5 b7 hy6 => ?_)
      · exact h3
      · exact .step hy6 State.updCommit_moves
    clear_value x4
    extract_lets +onlyGivenNames x8
    have h8 : Moves [.slate, .ledger] s0 x8 := by
      unfold x8
      exact .step h4 State.settleStrip_moves
    clear_value x8
    extract_lets +onlyGivenNames x9
    have h9 : Moves [.slate, .ledger] s0 x9 := by
      unfold x9
      refine .foldl ?_ (fun y10 b12 hy11 => ?_)
      · exact h8
      · refine .ite (fun _ => ?_) (fun _ => ?_)
        · exact .step hy11 State.updStart_moves
        · exact hy11
    clear_value x9
    exact .step (.step h9 State.panelDown_moves) State.showSlate_moves

theorem State.sequenceStep_moves {s0 : State} : Moves [.slate, .ledger] s0 (State.sequenceStep s0) := by
  have e0 := @State.sequenceStep.eq_def
  unfold State.sequenceStep
  clear e0
  split
  · rename_i y1 y2
    exact .refl ..
  · rename_i y3 y4 y5 y6
    refine .ite (fun _ => ?_) (fun _ => ?_)
    · exact .refl ..
    · exact .step (.step (.refl ..) State.takeSteps_moves) State.afterSeq_moves

theorem State.serviceEnter_moves {s0 : State} : Moves [.slate, .ledger] s0 (State.serviceEnter s0) := by
  have e0 := @State.serviceEnter.eq_def
  unfold State.serviceEnter
  clear e0
  split
  · rename_i y1 y2 y3
    refine .ite (fun _ => ?_) (fun _ => ?_)
    · extract_lets +onlyGivenNames x4
      clear_value x4
      extract_lets +onlyGivenNames x5
      have h5 : Moves [.slate, .ledger] s0 x5 := by
        unfold x5
        exact .step (.refl ..) State.setSlate_moves
      clear_value x5
      exact .step (.step h5 State.wr_moves) State.log_moves
    · exact .refl ..
  · rename_i y6 y7
    exact .refl ..

theorem State.serviceLeave_moves {s0 : State} : Moves [.field, .ledger, .blocks] s0 (State.serviceLeave s0) := by
  have e0 := @State.serviceLeave.eq_def
  unfold State.serviceLeave
  clear e0
  refine .ite (fun _ => ?_) (fun _ => ?_)
  · exact .refl ..
  · exact .step (.step (.step (.refl ..) State.wr_moves) State.log_moves) State.abandonKeys_moves

theorem State.serviceExit_moves {s0 : State} : Moves [.field, .ledger, .blocks] s0 (State.serviceExit s0) := by
  have e0 := @State.serviceExit.eq_def
  unfold State.serviceExit
  clear e0
  extract_lets +onlyGivenNames x1
  clear_value x1
  refine .ite (fun _ => ?_) (fun _ => ?_)
  · exact .step (.refl ..) State.serviceLeave_moves
  · exact .refl ..

theorem State.slateFail_moves {s0 : State} : Moves [.slate, .ledger] s0 (State.slateFail s0) := by
  have e0 := @State.slateFail.eq_def
  unfold State.slateFail
  clear e0
  extract_lets +onlyGivenNames x1
  clear_value x1
  refine .ite (fun _ => ?_) (fun _ => ?_)
  · exact .refl ..
  · extract_lets +onlyGivenNames x2
    clear_value x2
    extract_lets +onlyGivenNames x3
    clear_value x3
    extract_lets +onlyGivenNames x4
    have h4 : Moves [.slate, .ledger] s0 x4 := by
      unfold x4
      exact .step (.step (.refl ..) State.setPanel_moves) State.setSlate_moves
    clear_value x4
    exact .step (.step h4 State.cutRunning_moves) State.startSeq_moves

theorem State.slateStart_moves {s0 : State} {a1 : _} : Moves [.slate, .ledger] s0 (State.slateStart s0 a1) := by
  have e0 := @State.slateStart.eq_def
  unfold State.slateStart
  clear e0
  extract_lets +onlyGivenNames x1 x2
  clear_value x1 x2
  extract_lets +onlyGivenNames x3
  have h3 : Moves [.slate, .ledger] s0 x3 := by
    unfold x3
    exact .step (.refl ..) State.setSlate_moves
  clear_value x3
  refine .ite (fun _ => ?_) (fun _ => ?_)
  · exact .step h3 State.panelUp_moves
  · exact h3

theorem State.stripIdle_moves {s0 : State} : Moves [] s0 (State.stripIdle s0) := by
  have e0 := @State.stripIdle.eq_def
  unfold State.stripIdle
  clear e0
  extract_lets +onlyGivenNames x1
  clear_value x1
  refine .ite (fun _ => ?_) (fun _ => ?_)
  · exact .step (.refl ..) State.wr_moves
  · exact .refl ..

theorem State.updTake_moves {s0 : State} : Moves [.slate] s0 (State.updTake s0) := by
  have e0 := @State.updTake.eq_def
  unfold State.updTake
  clear e0
  refine .ite (fun _ => ?_) (fun _ => ?_)
  · exact .refl ..
  · split
    · rename_i y1 y2 y3 y4
      extract_lets +onlyGivenNames x5
      have h5 : Moves [.slate] s0 x5 := by
        unfold x5
        exact .step (.refl ..) State.pop_moves
      clear_value x5
      extract_lets +onlyGivenNames x6
      clear_value x6
      refine .ite (fun _ => ?_) (fun _ => ?_)
      · exact .step (.step h5 State.setSlate_moves) State.showSlate_moves
      · split
        · rename_i y7 y8 y9 y10 y11
          extract_lets +onlyGivenNames x12
          have h12 : Moves [.slate] s0 x12 := by
            unfold x12
            exact .step h5 State.setSlate_moves
          clear_value x12
          refine .step ?_ State.showSlate_moves
          refine .foldl ?_ (fun y13 b15 hy14 => ?_)
          · exact h12
          · exact .step hy14 State.updEnd_moves
    · rename_i y16 y17
      exact .refl ..

theorem State.vblank_moves {s0 : State} : Moves [.slate, .ledger] s0 (State.vblank s0) := by
  have e0 := @State.vblank.eq_def
  unfold State.vblank
  clear e0
  extract_lets +onlyGivenNames x1
  clear_value x1
  refine .ite (fun _ => ?_) (fun _ => ?_)
  · exact .refl ..
  · extract_lets +onlyGivenNames x2
    have h2 : Moves [.slate, .ledger] s0 x2 := by
      unfold x2
      exact .step (.refl ..) State.setSlate_moves
    clear_value x2
    extract_lets +onlyGivenNames x3
    have h3 : Moves [.slate, .ledger] s0 x3 := by
      unfold x3
      exact .step h2 State.settleStrip_moves
    clear_value x3
    extract_lets +onlyGivenNames x4
    clear_value x4
    extract_lets +onlyGivenNames x5
    have h5 : Moves [.slate, .ledger] s0 x5 := by
      unfold x5
      split
      · rename_i y6 y7 y8
        extract_lets +onlyGivenNames x9
        have h9 : Moves [.slate, .ledger] s0 x9 := by
          unfold x9
          split
          · rename_i y10 y11 y12
            exact .step h3 State.setSlate_moves
          · rename_i y13 y14
            exact .step h3 State.setSlate_moves
        clear_value x9
        exact .step h9 State.updEnd_moves
      · rename_i y15 y16
        exact h3
    clear_value x5
    exact .step (.step h5 State.panelDown_moves) State.showSlate_moves

/-! ## Machine/Power.lean -/

theorem State.setSlot_moves {s0 : State} {a1 a2 : _} : Moves [.power] s0 (State.setSlot s0 a1 a2) := by
  have e0 := @State.setSlot.eq_def
  unfold State.setSlot
  clear e0
  exact .with_power (.refl ..)

theorem State.bootSlot_moves {s0 : State} {a1 a2 a3 : _} : Moves [.power] s0 (State.bootSlot s0 a1 a2 a3).1 := by
  have e0 := @State.bootSlot.eq_def
  unfold State.bootSlot
  clear e0
  extract_lets +onlyGivenNames x1
  have h1 : Moves [.power] s0 x1 := by
    unfold x1
    split
    · rename_i y2 y3 y4
      refine .ite (fun _ => ?_) (fun _ => ?_)
      · exact .refl ..
      · extract_lets +onlyGivenNames x5
        clear_value x5
        extract_lets +onlyGivenNames x6
        have h6 : Moves [.power] s0 x6 := by
          unfold x6
          exact .step (.refl ..) State.setSlot_moves
        clear_value x6
        exact .with_power h6
    · rename_i y7 y8
      exact .refl ..
  clear_value x1
  extract_lets +onlyGivenNames x9
  clear_value x9
  extract_lets +onlyGivenNames x10
  split
  · rename_i y11
    dsimp -zeta only
    exact h1
  · rename_i y12
    split
    · rename_i y13
      dsimp -zeta only
      exact h1
    · rename_i y14
      dsimp -zeta only
      exact h1

theorem State.logicReset_moves {s0 : State} {c : Nat} {lost : Bool} :
    Moves [.j16, .eop, .rt, .pairs, .frame, .tally, .time, .net, .ecx, .can, .ledger, .field, .motion, .safety, .twin, .slate, .power, .blocks] s0 (s0.logicReset c lost) := by
  have e0 := @State.logicReset.eq_def
  unfold State.logicReset
  clear e0
  extract_lets +onlyGivenNames x1
  have h1 : Moves [.j16, .eop, .rt, .pairs, .frame, .tally, .time, .net, .ecx, .can, .ledger, .field, .motion, .safety, .twin, .slate, .power, .blocks] s0 x1 :=
    Moves.step (Moves.step (.refl ..) State.stopToken_moves) State.fieldOff_moves
  clear_value x1
  refine h1.step (qs := [.j16, .eop, .rt, .pairs, .frame, .tally, .time, .net, .ecx, .can, .ledger, .field, .motion, .safety, .twin, .slate, .power]) ⟨⟨rfl, fun p hp => ?_⟩, fun h => ⟨rfl, fun k => ?_, rising_filter _ _ h.2.2.1, rfl⟩⟩
  · cases p <;> simp_all [Part.same]
  · exact Nat.zero_le _

theorem State.castlingRelease_moves {s0 : State} : Moves [.j16, .eop, .rt, .pairs, .frame, .tally, .time, .net, .ecx, .can, .ledger, .field, .motion, .safety, .twin, .slate, .power, .blocks] s0 (State.castlingRelease s0) := by
  have e0 := @State.castlingRelease.eq_def
  unfold State.castlingRelease
  clear e0
  refine .ite (fun _ => ?_) (fun _ => ?_)
  · exact .refl ..
  · exact .step (.refl ..) State.logicReset_moves

theorem State.keepEvent_moves {s0 : State} {a1 a2 : _} : Moves [.power] s0 (State.keepEvent s0 a1 a2) := by
  have e0 := @State.keepEvent.eq_def
  unfold State.keepEvent
  clear e0
  exact .with_power (.refl ..)

theorem State.clockFault_moves {s0 : State} {a1 a2 : _} : Moves [.j16, .eop, .rt, .pairs, .frame, .tally, .time, .net, .ecx, .can, .ledger, .field, .motion, .safety, .twin, .slate, .power, .blocks] s0 (State.clockFault s0 a1 a2) := by
  have e0 := @State.clockFault.eq_def
  unfold State.clockFault
  clear e0
  refine .ite (fun _ => ?_) (fun _ => ?_)
  · exact .refl ..
  · refine .ite (fun _ => ?_) (fun _ => ?_)
    · exact .step (.with_power (.refl ..)) State.wr_moves
    · extract_lets +onlyGivenNames x1
      have h1 : Moves [.j16, .eop, .rt, .pairs, .frame, .tally, .time, .net, .ecx, .can, .ledger, .field, .motion, .safety, .twin, .slate, .power, .blocks] s0 x1 := by
        unfold x1
        exact .step (.step (.step (.refl ..) State.incR_moves) State.keepEvent_moves) State.logicReset_moves
      clear_value x1
      exact .step (.with_power h1) State.wr_moves

theorem State.confirmTrial_moves {s0 : State} : Moves [.power] s0 (State.confirmTrial s0) := by
  have e0 := @State.confirmTrial.eq_def
  unfold State.confirmTrial
  clear e0
  split
  · rename_i y1 y2 y3
    refine .ite (fun _ => ?_) (fun _ => ?_)
    · exact .refl ..
    · extract_lets +onlyGivenNames x4
      clear_value x4
      extract_lets +onlyGivenNames x5
      clear_value x5
      extract_lets +onlyGivenNames x6
      have h6 : Moves [.power] s0 x6 := by
        unfold x6
        exact .step (.refl ..) State.setSlot_moves
      clear_value x6
      exact .with_power h6
  · rename_i y7 y8
    exact .refl ..

theorem State.convertBlocks_moves {s0 : State} : Moves [.blocks] s0 s0.convertBlocks := by
  have e0 := @State.convertBlocks.eq_def
  unfold State.convertBlocks
  clear e0
  extract_lets +onlyGivenNames now from_ kept x1
  have h1 : Moves [] s0 x1 := Moves.od (fun h => rising_filter _ _ h)
  clear_value x1
  exact Moves.with_blocks (Moves.step (.refl ..) h1)

theorem State.settleLog_moves {s0 : State} : Moves [.blocks, .ledger] s0 (State.settleLog s0) := by
  have e0 := @State.settleLog.eq_def
  unfold State.settleLog
  clear e0
  exact .step (.step (.refl ..) State.takeLogs_moves) State.showLedger_moves

theorem State.effFwActivate_moves {s0 : State} : Moves [.power, .blocks, .ledger, .j16, .eop, .rt, .pairs, .frame, .tally, .time, .net, .ecx, .can, .field, .motion, .safety, .twin, .slate] s0 (State.effFwActivate s0) := by
  have e0 := @State.effFwActivate.eq_def
  unfold State.effFwActivate
  clear e0
  extract_lets +onlyGivenNames x1 x2
  clear_value x1 x2
  extract_lets +onlyGivenNames x3
  have h3 : Moves [.power, .blocks, .ledger, .j16, .eop, .rt, .pairs, .frame, .tally, .time, .net, .ecx, .can, .field, .motion, .safety, .twin, .slate] s0 x3 := by
    unfold x3
    exact .step (.step (.step (.refl ..) State.log_moves) State.settleLog_moves) State.setSlot_moves
  clear_value x3
  extract_lets +onlyGivenNames x4
  have h4 : Moves [.power, .blocks, .ledger, .j16, .eop, .rt, .pairs, .frame, .tally, .time, .net, .ecx, .can, .field, .motion, .safety, .twin, .slate] s0 x4 := by
    unfold x4
    exact .step h3 State.wrR_moves
  clear_value x4
  exact .step (.with_power h4) State.logicReset_moves

theorem State.effFwCheck_moves {s0 : State} {a1 : _} : Moves [.power] s0 (State.effFwCheck s0 a1) := by
  have e0 := @State.effFwCheck.eq_def
  unfold State.effFwCheck
  clear e0
  refine .ite (fun _ => ?_) (fun _ => ?_)
  · exact .refl ..
  · extract_lets +onlyGivenNames x1
    clear_value x1
    extract_lets +onlyGivenNames x2 x3 x4 x5 x6
    clear_value x2 x3 x4 x5 x6
    extract_lets +onlyGivenNames x7
    have h7 : Moves [.power] s0 x7 := by
      unfold x7
      exact .step (.refl ..) State.setSlot_moves
    clear_value x7
    exact .step h7 State.wr_moves

theorem State.effFwData_moves {s0 : State} {a1 : _} : Moves [.power] s0 (State.effFwData s0 a1) := by
  have e0 := @State.effFwData.eq_def
  unfold State.effFwData
  clear e0
  extract_lets +onlyGivenNames x1 x2
  clear_value x1 x2
  extract_lets +onlyGivenNames x3
  have h3 : Moves [.power] s0 x3 := by
    unfold x3
    exact .step (.refl ..) State.setSlot_moves
  clear_value x3
  exact .step (.step h3 State.wr_moves) State.wr_moves

theorem State.effRestart_moves {s0 : State} {a1 : _} : Moves [.j16, .eop, .rt, .pairs, .frame, .tally, .time, .net, .ecx, .can, .ledger, .field, .motion, .safety, .twin, .slate, .power, .blocks] s0 (State.effRestart s0 a1) := by
  have e0 := @State.effRestart.eq_def
  unfold State.effRestart
  clear e0
  exact .step (.step (.refl ..) State.settleLog_moves) State.logicReset_moves

theorem State.factoryReset_moves {s0 : State} : Moves [.blocks, .eop] s0 s0.factoryReset := by
  have e0 := @State.factoryReset.eq_def
  unfold State.factoryReset
  clear e0
  exact Moves.with_eop (Moves.with_blocks (Moves.step (.refl ..) (Moves.od (fun h => rising_filter _ _ h))))

theorem State.effRestore_moves {s0 : State} {a1 : _} : Moves [.j16, .eop, .rt, .pairs, .frame, .tally, .time, .net, .ecx, .can, .ledger, .field, .motion, .safety, .twin, .slate, .power, .blocks] s0 (State.effRestore s0 a1) := by
  have e0 := @State.effRestore.eq_def
  unfold State.effRestore
  clear e0
  exact .step (.step (.step (.step (.refl ..) State.log_moves) State.settleLog_moves) State.factoryReset_moves) State.logicReset_moves

theorem State.headRecords_moves {s0 : State} {es : List LogEntry} : Moves [] s0 (s0.headRecords es) :=
  State.setRing_moves fun hf => List.length_take_le _ _

theorem State.holdup_moves {s0 : State} {a1 : _} : Moves [.ledger] s0 (State.holdup s0 a1) := by
  have e0 := @State.holdup.eq_def
  unfold State.holdup
  clear e0
  refine .ite (fun _ => ?_) (fun _ => ?_)
  · exact .refl ..
  · extract_lets +onlyGivenNames x1
    have h1 : Moves [.ledger] s0 x1 := by
      unfold x1
      exact .step (.refl ..) State.wr_moves
    clear_value x1
    refine .ite (fun _ => ?_) (fun _ => ?_)
    · exact .step (.step h1 State.wr_moves) State.log_moves
    · exact .step h1 State.wr_moves

theorem State.maintenanceExit_moves {s0 : State} : Moves [.j16, .eop, .rt, .pairs, .frame, .tally, .time, .net, .ecx, .can, .ledger, .field, .motion, .safety, .twin, .slate, .power, .blocks] s0 (State.maintenanceExit s0) := by
  have e0 := @State.maintenanceExit.eq_def
  unfold State.maintenanceExit
  clear e0
  refine .ite (fun _ => ?_) (fun _ => ?_)
  · exact .step (.refl ..) State.logicReset_moves
  · exact .refl ..

theorem State.measureSup_moves {s0 : State} {a1 : _} : Moves [] s0 (State.measureSup s0 a1) := by
  have e0 := @State.measureSup.eq_def
  unfold State.measureSup
  clear e0
  extract_lets +onlyGivenNames x1
  have h1 : Moves [] s0 x1 := by
    unfold x1
    exact .step (.refl ..) State.wr_moves
  clear_value x1
  extract_lets +onlyGivenNames x2
  have h2 : Moves [] s0 x2 := by
    unfold x2
    refine .ite (fun _ => ?_) (fun _ => ?_)
    · exact .step h1 State.wr_moves
    · exact h1
  clear_value x2
  refine .ite (fun _ => ?_) (fun _ => ?_)
  · exact .step h2 State.wr_moves
  · exact h2

theorem State.operatingHour_moves {s0 : State} : Moves [.blocks, .ledger, .twin, .power] s0 (State.operatingHour s0) := by
  have e0 := @State.operatingHour.eq_def
  unfold State.operatingHour
  clear e0
  refine .ite (fun _ => ?_) (fun _ => ?_)
  · exact .refl ..
  · extract_lets +onlyGivenNames x1
    clear_value x1
    extract_lets +onlyGivenNames x2
    have h2 : Moves [.blocks, .ledger, .twin, .power] s0 x2 := by
      unfold x2
      exact .with_power (.refl ..)
    clear_value x2
    extract_lets +onlyGivenNames x3
    have h3 : Moves [.blocks, .ledger, .twin, .power] s0 x3 := by
      unfold x3
      exact .step (.step h2 State.incR_moves) State.incR_moves
    clear_value x3
    extract_lets +onlyGivenNames x4
    have h4 : Moves [.blocks, .ledger, .twin, .power] s0 x4 := by
      unfold x4
      refine .foldl ?_ (fun y5 b7 hy6 => ?_)
      · exact h3
      · exact .step (.step hy6 State.incR_moves) State.showSbDiag_moves
    clear_value x4
    exact .step h4 State.showTwin_moves

theorem State.pfCheckpoint_moves {s0 : State} : Moves [.ledger, .power] s0 (State.pfCheckpoint s0) := by
  have e0 := @State.pfCheckpoint.eq_def
  unfold State.pfCheckpoint
  clear e0
  split
  · rename_i y1 y2
    exact .refl ..
  · rename_i y3 y4 y5
    refine .ite (fun _ => ?_) (fun _ => ?_)
    · exact .refl ..
    · extract_lets +onlyGivenNames x6
      clear_value x6
      extract_lets +onlyGivenNames x7
      have h7 : Moves [.ledger, .power] s0 x7 := by
        unfold x7
        exact .with_power (.refl ..)
      clear_value x7
      extract_lets +onlyGivenNames x8
      clear_value x8
      split
      · rename_i y9 y10 y11 y12
        refine .ite (fun _ => ?_) (fun _ => ?_)
        · exact .step (.step h7 State.wr_moves) State.log_moves
        · extract_lets +onlyGivenNames x13
          clear_value x13
          extract_lets +onlyGivenNames x14
          clear_value x14
          extract_lets +onlyGivenNames x15
          have h15 : Moves [.ledger, .power] s0 x15 := by
            unfold x15
            exact .with_power h7
          clear_value x15
          exact .step (.step h15 State.wr_moves) State.log_moves

theorem State.stopFrame_moves {s0 : State} : Moves [.frame] s0 (State.stopFrame s0) := by
  have e0 := @State.stopFrame.eq_def
  unfold State.stopFrame
  clear e0
  exact .with_frame (.refl ..)

theorem State.setSup_moves {s0 : State} {a1 a2 : _} : Moves [.ledger] s0 (State.setSup s0 a1 a2) := by
  have e0 := @State.setSup.eq_def
  unfold State.setSup
  clear e0
  exact .step (.step (.refl ..) State.wr_moves) State.log_moves

theorem State.powerFail_moves {s0 : State} {a1 : _} : Moves [.safety, .blocks, .field, .slate, .ledger, .frame, .motion, .twin, .can, .power, .tally, .free] s0 (State.powerFail s0 a1) := by
  have e0 := @State.powerFail.eq_def
  unfold State.powerFail
  clear e0
  refine .ite (fun _ => ?_) (fun _ => ?_)
  · exact .refl ..
  · extract_lets +onlyGivenNames x1
    clear_value x1
    extract_lets +onlyGivenNames x2
    clear_value x2
    extract_lets +onlyGivenNames x3
    have h3 : Moves [.safety, .blocks, .field, .slate, .ledger, .frame, .motion, .twin, .can, .power, .tally, .free] s0 x3 := by
      unfold x3
      exact .step (.refl ..) State.measureSup_moves
    clear_value x3
    extract_lets +onlyGivenNames x4
    clear_value x4
    extract_lets +onlyGivenNames x5
    have h5 : Moves [.safety, .blocks, .field, .slate, .ledger, .frame, .motion, .twin, .can, .power, .tally, .free] s0 x5 := by
      unfold x5
      exact .with_power h3
    clear_value x5
    extract_lets +onlyGivenNames x6
    have h6 : Moves [.safety, .blocks, .field, .slate, .ledger, .frame, .motion, .twin, .can, .power, .tally, .free] s0 x6 := by
      unfold x6
      exact .step (.step (.step (.step h5 State.stopFrame_moves) State.slateFail_moves) State.shedField_moves) State.brakesOff_moves
    clear_value x6
    extract_lets +onlyGivenNames x7
    have h7 : Moves [.safety, .blocks, .field, .slate, .ledger, .frame, .motion, .twin, .can, .power, .tally, .free] s0 x7 := by
      unfold x7
      refine .ite (fun _ => ?_) (fun _ => ?_)
      · exact .step h6 State.stopToken_moves
      · exact h6
    clear_value x7
    extract_lets +onlyGivenNames x8
    have h8 : Moves [.safety, .blocks, .field, .slate, .ledger, .frame, .motion, .twin, .can, .power, .tally, .free] s0 x8 := by
      unfold x8
      refine .ite (fun _ => ?_) (fun _ => ?_)
      · exact h7
      · exact .step h7 State.commitRec_moves
    clear_value x8
    extract_lets +onlyGivenNames x9
    have h9 : Moves [.safety, .blocks, .field, .slate, .ledger, .frame, .motion, .twin, .can, .power, .tally, .free] s0 x9 := by
      unfold x9
      exact .step (.step h8 State.incR_moves) State.setSup_moves
    clear_value x9
    exact .step (.step h9 State.storeLoops_moves) State.showLedger_moves

theorem State.powerOn_moves {s0 : State} : Moves [.j16, .eop, .rt, .pairs, .frame, .tally, .time, .net, .ecx, .can, .ledger, .field, .motion, .safety, .twin, .slate, .power, .blocks] s0 (State.powerOn s0) := by
  have e0 := @State.powerOn.eq_def
  unfold State.powerOn
  clear e0
  refine .ite (fun _ => ?_) (fun _ => ?_)
  · exact .refl ..
  · extract_lets +onlyGivenNames x1
    have h1 : Moves [.j16, .eop, .rt, .pairs, .frame, .tally, .time, .net, .ecx, .can, .ledger, .field, .motion, .safety, .twin, .slate, .power, .blocks] s0 x1 := by
      unfold x1
      exact .step (.refl ..) State.logicReset_moves
    clear_value x1
    exact .with_field_power h1

theorem State.powerReduce_moves {s0 : State} : Moves [.rt, .net, .time, .can, .ledger, .power, .twin] s0 (State.powerReduce s0) := by
  have e0 := @State.powerReduce.eq_def
  unfold State.powerReduce
  clear e0
  split
  · rename_i y1 y2
    exact .refl ..
  · rename_i y3 y4 y5
    refine .ite (fun _ => ?_) (fun _ => ?_)
    · exact .refl ..
    · extract_lets +onlyGivenNames x6
      have h6 : Moves [.rt, .net, .time, .can, .ledger, .power, .twin] s0 x6 := by
        unfold x6
        exact .step (.refl ..) State.abandonWhere_moves
      clear_value x6
      extract_lets +onlyGivenNames x7
      clear_value x7
      extract_lets +onlyGivenNames x8
      have h8 : Moves [.rt, .net, .time, .can, .ledger, .power, .twin] s0 x8 := by
        unfold x8
        exact .with_power h6
      clear_value x8
      extract_lets +onlyGivenNames x9
      have h9 : Moves [.rt, .net, .time, .can, .ledger, .power, .twin] s0 x9 := by
        unfold x9
        refine .foldl ?_ (fun y10 b12 hy11 => ?_)
        · exact h8
        · exact .step hy11 State.linkChange_moves
      clear_value x9
      extract_lets +onlyGivenNames x13
      have h13 : Moves [.rt, .net, .time, .can, .ledger, .power, .twin] s0 x13 := by
        unfold x13
        refine .foldl ?_ (fun y14 b16 hy15 => ?_)
        · exact h9
        · exact .step (.step hy15 State.setChan_moves) State.modeEffect_moves
      clear_value x13
      exact .step (.with_twin h13) State.showLink_moves

theorem State.railFault_moves {s0 : State} {a1 a2 : _} : Moves [.j16, .eop, .rt, .pairs, .frame, .tally, .time, .net, .ecx, .can, .ledger, .field, .motion, .safety, .twin, .slate, .power, .blocks] s0 (State.railFault s0 a1 a2) := by
  have e0 := @State.railFault.eq_def
  unfold State.railFault
  clear e0
  refine .ite (fun _ => ?_) (fun _ => ?_)
  · exact .refl ..
  · extract_lets +onlyGivenNames x1
    have h1 : Moves [.j16, .eop, .rt, .pairs, .frame, .tally, .time, .net, .ecx, .can, .ledger, .field, .motion, .safety, .twin, .slate, .power, .blocks] s0 x1 := by
      unfold x1
      exact .step (.step (.refl ..) State.keepEvent_moves) State.logicReset_moves
    clear_value x1
    exact .step h1 State.wr_moves

theorem State.recoverRecords_moves {s0 : State} {a1 : _} : Moves [.ledger, .power] s0 (State.recoverRecords s0 a1) := by
  have e0 := @State.recoverRecords.eq_def
  unfold State.recoverRecords
  clear e0
  exact .with_ledger_power (.refl ..)

theorem State.renewNonces_moves {s0 : State} : Moves [.free] s0 (State.renewNonces s0) := by
  have e0 := @State.renewNonces.eq_def
  unfold State.renewNonces
  clear e0
  extract_lets +onlyGivenNames x1
  have h1 : Moves [.free] s0 x1 := by
    unfold x1
    exact .step (.step (.step (.step (.refl ..) State.renew_moves) State.renew_moves) State.renew_moves) State.renew_moves
  clear_value x1
  exact .step (.step (.step h1 State.renew_moves) State.renewB_moves) State.renew_moves

theorem State.restoreBlocks_moves {s0 : State} : Moves [] s0 s0.restoreBlocks := by
  have e0 := @State.restoreBlocks.eq_def
  unfold State.restoreBlocks
  clear e0
  extract_lets +onlyGivenNames x1
  have h1 : Moves [] s0 x1 := Moves.od (fun h => rising_filter _ _ h)
  refine .foldl h1 (fun y b hy => ?_)
  split
  · refine .foldl hy (fun z c hz => ?_)
    split
    · exact Moves.step hz State.putKey_moves
    · exact hz
  · exact hy

theorem State.retainedRestore_moves {s0 : State} {a1 a2 a3 : _} : Moves [.ledger, .blocks, .eop] s0 (State.retainedRestore s0 a1 a2 a3) := by
  have e0 := @State.retainedRestore.eq_def
  unfold State.retainedRestore
  clear e0
  extract_lets +onlyGivenNames x1 x2 x3
  clear_value x1 x2 x3
  extract_lets +onlyGivenNames x4
  have h4 : Moves [.ledger, .blocks, .eop] s0 x4 := by
    unfold x4
    exact .step (.with_blocks_eop (.refl ..)) State.restoreBlocks_moves
  clear_value x4
  extract_lets +onlyGivenNames x5
  have h5 : Moves [.ledger, .blocks, .eop] s0 x5 := by
    unfold x5
    refine .foldl ?_ (fun y6 b8 hy7 => ?_)
    · exact h4
    · exact .step hy7 State.log_moves
  clear_value x5
  exact .step (.step h5 State.wr_moves) State.wr_moves

theorem State.returnReset_moves {s0 : State} : Moves [.j16, .eop, .rt, .pairs, .frame, .tally, .time, .net, .ecx, .can, .ledger, .field, .motion, .safety, .twin, .slate, .power, .blocks] s0 (State.returnReset s0) := by
  have e0 := @State.returnReset.eq_def
  unfold State.returnReset
  clear e0
  split
  · rename_i y1 y2
    exact .refl ..
  · rename_i y3 y4 y5
    refine .ite (fun _ => ?_) (fun _ => ?_)
    · exact .refl ..
    · exact .step (.step (.refl ..) State.keepEvent_moves) State.logicReset_moves

theorem State.startArchive_moves {s0 : State} {a1 : _} : Moves [.rt, .tally] s0 (State.startArchive s0 a1) := by
  have e0 := @State.startArchive.eq_def
  unfold State.startArchive
  clear e0
  extract_lets +onlyGivenNames x1
  have h1 : Moves [.rt, .tally] s0 x1 := by
    unfold x1
    exact .step (.step (.refl ..) State.installTasks_moves) State.installVars_moves
  clear_value x1
  extract_lets +onlyGivenNames x2
  have h2 : Moves [.rt, .tally] s0 x2 := by
    unfold x2
    refine .foldl ?_ (fun y3 b5 hy4 => ?_)
    · exact h1
    · exact .step hy4 State.installLoop_moves
  clear_value x2
  extract_lets +onlyGivenNames x6
  have h6 : Moves [.rt, .tally] s0 x6 := by
    unfold x6
    exact .step (.step h2 State.wr_moves) State.wrB_moves
  clear_value x6
  exact .step (.step (.step h6 State.wr_moves) State.wr_moves) State.firstTurns_moves

theorem State.startBare_moves {s0 : State} {a1 : _} : Moves [.free, .power] s0 (State.startBare s0 a1) := by
  have e0 := @State.startBare.eq_def
  unfold State.startBare
  clear e0
  extract_lets +onlyGivenNames x1
  clear_value x1
  extract_lets +onlyGivenNames x2
  have h2 : Moves [.free, .power] s0 x2 := by
    unfold x2
    exact .with_power (.refl ..)
  clear_value x2
  exact .step (.step (.step h2 State.wr_moves) State.renewNonces_moves) State.wr_moves

theorem State.startTests_moves {s0 : State} {a1 : _} : Moves [.blocks, .ledger] s0 (State.startTests s0 a1) := by
  have e0 := @State.startTests.eq_def
  unfold State.startTests
  clear e0
  refine .foldl ?_ (fun y1 b3 hy2 => ?_)
  · exact .refl ..
  · extract_lets +onlyGivenNames x4
    clear_value x4
    extract_lets +onlyGivenNames x5
    have h5 : Moves [.blocks, .ledger] s0 x5 := by
      unfold x5
      exact .step hy2 State.noteInject_moves
    clear_value x5
    split
    · rename_i y6
      exact .step h5 State.wr_moves
    · rename_i y7 y8
      exact .step (.step (.step h5 State.wr_moves) State.wr_moves) State.log_moves

theorem State.startChecks_moves {s0 : State} {a1 : _} : Moves [.blocks, .ledger, .free, .twin] s0 (State.startChecks s0 a1) := by
  have e0 := @State.startChecks.eq_def
  unfold State.startChecks
  clear e0
  extract_lets +onlyGivenNames x1
  have h1 : Moves [.blocks, .ledger, .free, .twin] s0 x1 := by
    unfold x1
    exact .step (.step (.step (.refl ..) State.incR_moves) State.renewNonces_moves) State.startTests_moves
  clear_value x1
  extract_lets +onlyGivenNames x2
  clear_value x2
  extract_lets +onlyGivenNames x3
  have h3 : Moves [.blocks, .ledger, .free, .twin] s0 x3 := by
    unfold x3
    exact .with_twin h1
  clear_value x3
  exact .step h3 State.wr_moves

theorem State.startCkpt_moves {s0 : State} {a1 : _} : Moves [] s0 (State.startCkpt s0 a1) := by
  have e0 := @State.startCkpt.eq_def
  unfold State.startCkpt
  clear e0
  exact .step (.refl ..) State.wr_moves

theorem State.startState_moves {s0 : State} : Moves [.ledger, .eop, .rt, .ecx, .can, .safety, .answer, .motion, .field] s0 (State.startState s0) := by
  have e0 := @State.startState.eq_def
  unfold State.startState
  clear e0
  extract_lets +onlyGivenNames x1
  clear_value x1
  refine .ite (fun _ => ?_) (fun _ => ?_)
  · exact .step (.step (.step (.refl ..) State.wr_moves) State.enterSafe_moves) State.servicesTakeover_moves
  · refine .ite (fun _ => ?_) (fun _ => ?_)
    · exact .step (.step (.refl ..) State.wr_moves) State.enterSafe_moves
    · refine .ite (fun _ => ?_) (fun _ => ?_)
      · exact .step (.step (.step (.step (.refl ..) State.wr_moves) State.wr_moves) State.wr_moves) State.safeOutputs_moves
      · exact .step (.refl ..) State.wr_moves

theorem State.startRole_moves {s0 : State} : Moves [.ledger, .twin, .can, .time, .power, .tally] s0 (State.startRole s0) := by
  have e0 := @State.startRole.eq_def
  unfold State.startRole
  clear e0
  extract_lets +onlyGivenNames x1
  clear_value x1
  refine .ite (fun _ => ?_) (fun _ => ?_)
  · exact .step (.refl ..) State.becomeActive_moves
  · refine .ite (fun _ => ?_) (fun _ => ?_)
    · exact .refl ..
    · extract_lets +onlyGivenNames x2
      clear_value x2
      extract_lets +onlyGivenNames x3
      have h3 : Moves [.ledger, .twin, .can, .time, .power, .tally] s0 x3 := by
        unfold x3
        exact .with_twin (.refl ..)
      clear_value x3
      refine .ite (fun _ => ?_) (fun _ => ?_)
      · exact .step h3 State.becomeStandby_moves
      · exact h3

theorem State.startFunctions_moves {s0 : State} {a1 a2 : _} : Moves [.time, .ledger, .eop, .rt, .ecx, .can, .safety, .answer, .motion, .field, .free, .blocks, .twin, .power, .tally, .slate] s0 (State.startFunctions s0 a1 a2) := by
  have e0 := @State.startFunctions.eq_def
  unfold State.startFunctions
  clear e0
  extract_lets +onlyGivenNames x1
  have h1 : Moves [.time, .ledger, .eop, .rt, .ecx, .can, .safety, .answer, .motion, .field, .free, .blocks, .twin, .power, .tally, .slate] s0 x1 := by
    unfold x1
    refine .step ?_ State.wr_moves
    refine .step ?_ State.noteEcxCheck_moves
    refine .foldl ?_ (fun y2 b4 hy3 => ?_)
    · exact .step (.refl ..) State.startState_moves
    · exact .step hy3 State.startInstance_moves
  clear_value x1
  extract_lets +onlyGivenNames x5
  have h5 : Moves [.time, .ledger, .eop, .rt, .ecx, .can, .safety, .answer, .motion, .field, .free, .blocks, .twin, .power, .tally, .slate] s0 x5 := by
    unfold x5
    refine .ite (fun _ => ?_) (fun _ => ?_)
    · exact h1
    · exact .step h1 State.safetyFail_moves
  clear_value x5
  extract_lets +onlyGivenNames x6
  have h6 : Moves [.time, .ledger, .eop, .rt, .ecx, .can, .safety, .answer, .motion, .field, .free, .blocks, .twin, .power, .tally, .slate] s0 x6 := by
    unfold x6
    refine .ite (fun _ => ?_) (fun _ => ?_)
    · exact .step h5 State.safetyConfigure_moves
    · exact h5
  clear_value x6
  extract_lets +onlyGivenNames x7
  have h7 : Moves [.time, .ledger, .eop, .rt, .ecx, .can, .safety, .answer, .motion, .field, .free, .blocks, .twin, .power, .tally, .slate] s0 x7 := by
    unfold x7
    refine .ite (fun _ => ?_) (fun _ => ?_)
    · exact .step h6 State.enterRun_moves
    · exact h6
  clear_value x7
  extract_lets +onlyGivenNames x8
  have h8 : Moves [.time, .ledger, .eop, .rt, .ecx, .can, .safety, .answer, .motion, .field, .free, .blocks, .twin, .power, .tally, .slate] s0 x8 := by
    unfold x8
    refine .ite (fun _ => ?_) (fun _ => ?_)
    · exact h7
    · exact .step h7 State.enterSilence_moves
  clear_value x8
  extract_lets +onlyGivenNames x9
  have h9 : Moves [.time, .ledger, .eop, .rt, .ecx, .can, .safety, .answer, .motion, .field, .free, .blocks, .twin, .power, .tally, .slate] s0 x9 := by
    unfold x9
    exact .step (.step (.step h8 State.slateStart_moves) State.wr_moves) State.startRole_moves
  clear_value x9
  exact .step (.step h9 State.confirmTrial_moves) State.ledgerSlice_moves

theorem State.startRelease_moves {s0 : State} {a1 : _} : Moves [.rt, .tally, .ledger] s0 (State.startRelease s0 a1) := by
  have e0 := @State.startRelease.eq_def
  unfold State.startRelease
  clear e0
  refine .ite (fun _ => ?_) (fun _ => ?_)
  · exact .step (.with_rt (.refl ..)) State.startArchive_moves
  · exact .step (.with_rt (.refl ..)) State.rejectArchive_moves

theorem State.startProgram_moves {s0 : State} {a1 a2 a3 a4 : _} : Moves [.rt, .tally, .ledger, .frame, .field, .motion, .ecx, .can, .safety, .power] s0 (State.startProgram s0 a1 a2 a3 a4) := by
  have e0 := @State.startProgram.eq_def
  unfold State.startProgram
  clear e0
  extract_lets +onlyGivenNames x1
  clear_value x1
  extract_lets +onlyGivenNames x2
  have h2 : Moves [.rt, .tally, .ledger, .frame, .field, .motion, .ecx, .can, .safety, .power] s0 x2 := by
    unfold x2
    refine .ite (fun _ => ?_) (fun _ => ?_)
    · exact .with_rt (.refl ..)
    · exact .refl ..
  clear_value x2
  extract_lets +onlyGivenNames x3
  clear_value x3
  extract_lets +onlyGivenNames x4
  have h4 : Moves [.rt, .tally, .ledger, .frame, .field, .motion, .ecx, .can, .safety, .power] s0 x4 := by
    unfold x4
    refine .ite (fun _ => ?_) (fun _ => ?_)
    · exact h2
    · exact .with_rt h2
  clear_value x4
  extract_lets +onlyGivenNames x5
  have h5 : Moves [.rt, .tally, .ledger, .frame, .field, .motion, .ecx, .can, .safety, .power] s0 x5 := by
    unfold x5
    split
    · rename_i y6 y7 y8
      refine .ite (fun _ => ?_) (fun _ => ?_)
      · exact .step h4 State.startRelease_moves
      · exact h4
    · rename_i y9 y10
      exact h4
  clear_value x5
  extract_lets +onlyGivenNames x11
  clear_value x11
  extract_lets +onlyGivenNames x12
  have h12 : Moves [.rt, .tally, .ledger, .frame, .field, .motion, .ecx, .can, .safety, .power] s0 x12 := by
    unfold x12
    refine .ite (fun _ => ?_) (fun _ => ?_)
    · exact .with_rt h5
    · exact h5
  clear_value x12
  extract_lets +onlyGivenNames x13
  have h13 : Moves [.rt, .tally, .ledger, .frame, .field, .motion, .ecx, .can, .safety, .power] s0 x13 := by
    unfold x13
    exact .step h12 State.frameReload_moves
  clear_value x13
  extract_lets +onlyGivenNames x14
  clear_value x14
  extract_lets +onlyGivenNames x15
  have h15 : Moves [.rt, .tally, .ledger, .frame, .field, .motion, .ecx, .can, .safety, .power] s0 x15 := by
    unfold x15
    split
    · rename_i y16 y17 y18 y19
      exact .step (.with_safety h13) State.showSet_moves
    · rename_i y20 y21
      exact h13
  clear_value x15
  split
  · rename_i y22 y23
    extract_lets +onlyGivenNames x24
    have h24 : Moves [.rt, .tally, .ledger, .frame, .field, .motion, .ecx, .can, .safety, .power] s0 x24 := by
      unfold x24
      exact .step h15 State.restore_moves
    clear_value x24
    exact .with_power h24
  · rename_i y25
    exact h15

theorem State.startRecords_moves {s0 : State} {a1 : _} : Moves [.ledger, .power] s0 (State.startRecords s0 a1) := by
  have e0 := @State.startRecords.eq_def
  unfold State.startRecords
  clear e0
  extract_lets +onlyGivenNames x1
  clear_value x1
  extract_lets +onlyGivenNames x2
  have h2 : Moves [.ledger, .power] s0 x2 := by
    unfold x2
    exact .step (.step (.step (.refl ..) State.headRecords_moves) State.noteFill_moves) State.recoverRecords_moves
  clear_value x2
  refine .foldl ?_ (fun y3 b5 hy4 => ?_)
  · exact h2
  · exact .step hy4 State.logForce_moves

theorem State.startSlot_moves {s0 : State} {a1 a2 a3 a4 : _} : Moves [.blocks, .ledger, .power] s0 (State.startSlot s0 a1 a2 a3 a4) := by
  have e0 := @State.startSlot.eq_def
  unfold State.startSlot
  clear e0
  extract_lets +onlyGivenNames x1
  clear_value x1
  extract_lets +onlyGivenNames x2
  have h2 : Moves [.blocks, .ledger, .power] s0 x2 := by
    unfold x2
    exact .with_power (.refl ..)
  clear_value x2
  extract_lets +onlyGivenNames x3
  have h3 : Moves [.blocks, .ledger, .power] s0 x3 := by
    unfold x3
    exact .step (.step (.step (.step h2 State.wr_moves) State.wr_moves) State.wr_moves) State.wr_moves
  clear_value x3
  extract_lets +onlyGivenNames x4
  have h4 : Moves [.blocks, .ledger, .power] s0 x4 := by
    unfold x4
    exact .step h3 State.convertBlocks_moves
  clear_value x4
  refine .ite (fun _ => ?_) (fun _ => ?_)
  · exact .step (.step (.step h4 State.incR_moves) State.wrR_moves) State.log_moves
  · exact h4

theorem State.startWith_moves {s0 : State} {a1 a2 : _} : Moves [.power, .net, .ledger, .blocks, .eop, .free, .twin, .time, .rt, .ecx, .can, .safety, .answer, .motion, .field, .tally, .slate, .frame] s0 (State.startWith s0 a1 a2) := by
  delta State.startWith
  extract_lets +onlyGivenNames x1
  split
  · rename_i y2 y3
    refine .step ?_ State.startBare_moves
    unfold x1
    exact .step (.step (.step (.refl ..) State.retainedRestore_moves) State.netInForce_moves) State.bootSlot_moves
  · rename_i y4 y5 y6
    extract_lets +onlyGivenNames x7 x8 x9
    clear_value x7 x8 x9
    extract_lets +onlyGivenNames x10
    have h10 : Moves [.power, .net, .ledger, .blocks, .eop, .free, .twin, .time, .rt, .ecx, .can, .safety, .answer, .motion, .field, .tally, .slate, .frame] s0 x10 := by
      unfold x10
      refine .step ?_ State.startChecks_moves
      refine .step ?_ State.startSlot_moves
      unfold x1
      exact .step (.step (.step (.refl ..) State.retainedRestore_moves) State.netInForce_moves) State.bootSlot_moves
    clear_value x10
    extract_lets +onlyGivenNames x11
    clear_value x11
    extract_lets +onlyGivenNames x12
    have h12 : Moves [.power, .net, .ledger, .blocks, .eop, .free, .twin, .time, .rt, .ecx, .can, .safety, .answer, .motion, .field, .tally, .slate, .frame] s0 x12 := by
      unfold x12
      exact .step (.step (.step h10 State.startCkpt_moves) State.wr_moves) State.wr_moves
    clear_value x12
    exact .step (.step (.step h12 State.startRecords_moves) State.startProgram_moves) State.startFunctions_moves

theorem State.startUp_moves {s0 : State} {a1 : _} : Moves [.power, .net, .ledger, .blocks, .eop, .free, .twin, .time, .rt, .ecx, .can, .safety, .answer, .motion, .field, .tally, .slate, .frame] s0 (State.startUp s0 a1) := by
  have e0 := @State.startUp.eq_def
  unfold State.startUp
  clear e0
  split
  · rename_i y1 y2 y3
    refine .ite (fun _ => ?_) (fun _ => ?_)
    · exact .refl ..
    · exact .step (.refl ..) State.startWith_moves
  · rename_i y4 y5
    exact .refl ..

theorem State.storeDepleted_moves {s0 : State} : Moves [.j16, .eop, .rt, .pairs, .frame, .tally, .time, .net, .ecx, .can, .ledger, .field, .motion, .safety, .twin, .slate, .power, .blocks] s0 (State.storeDepleted s0) := by
  have e0 := @State.storeDepleted.eq_def
  unfold State.storeDepleted
  clear e0
  refine .ite (fun _ => ?_) (fun _ => ?_)
  · exact .refl ..
  · exact .step (.refl ..) State.logicReset_moves

theorem State.supHigh_moves {s0 : State} {a1 : _} : Moves [.ledger] s0 (State.supHigh s0 a1) := by
  have e0 := @State.supHigh.eq_def
  unfold State.supHigh
  clear e0
  extract_lets +onlyGivenNames x1
  clear_value x1
  refine .ite (fun _ => ?_) (fun _ => ?_)
  · exact .refl ..
  · exact .step (.step (.refl ..) State.measureSup_moves) State.setSup_moves

theorem State.supLow_moves {s0 : State} {a1 : _} : Moves [.ledger] s0 (State.supLow s0 a1) := by
  have e0 := @State.supLow.eq_def
  unfold State.supLow
  clear e0
  extract_lets +onlyGivenNames x1
  clear_value x1
  refine .ite (fun _ => ?_) (fun _ => ?_)
  · exact .refl ..
  · exact .step (.step (.refl ..) State.measureSup_moves) State.setSup_moves

theorem State.supNormal_moves {s0 : State} {a1 : _} : Moves [.ledger] s0 (State.supNormal s0 a1) := by
  have e0 := @State.supNormal.eq_def
  unfold State.supNormal
  clear e0
  extract_lets +onlyGivenNames x1 x2
  clear_value x1 x2
  refine .ite (fun _ => ?_) (fun _ => ?_)
  · exact .refl ..
  · exact .step (.step (.refl ..) State.measureSup_moves) State.setSup_moves

theorem State.supReturned_moves {s0 : State} : Moves [.j16, .eop, .rt, .pairs, .frame, .tally, .time, .net, .ecx, .can, .ledger, .field, .motion, .safety, .twin, .slate, .power, .blocks] s0 (State.supReturned s0) := by
  have e0 := @State.supReturned.eq_def
  unfold State.supReturned
  clear e0
  refine .ite (fun _ => ?_) (fun _ => ?_)
  · exact .refl ..
  · exact .step (.with_power (.refl ..)) State.returnReset_moves

theorem State.thermal_moves {s0 : State} {a1 : _} : Moves [.j16, .eop, .rt, .pairs, .frame, .tally, .time, .net, .ecx, .can, .ledger, .field, .motion, .safety, .twin, .slate, .power, .blocks] s0 (State.thermal s0 a1) := by
  have e0 := @State.thermal.eq_def
  unfold State.thermal
  clear e0
  refine .ite (fun _ => ?_) (fun _ => ?_)
  · exact .refl ..
  · refine .ite (fun _ => ?_) (fun _ => ?_)
    · extract_lets +onlyGivenNames x1
      have h1 : Moves [.j16, .eop, .rt, .pairs, .frame, .tally, .time, .net, .ecx, .can, .ledger, .field, .motion, .safety, .twin, .slate, .power, .blocks] s0 x1 := by
        unfold x1
        exact .step (.step (.refl ..) State.keepEvent_moves) State.logicReset_moves
      clear_value x1
      exact .with_power h1
    · extract_lets +onlyGivenNames x2
      have h2 : Moves [.j16, .eop, .rt, .pairs, .frame, .tally, .time, .net, .ecx, .can, .ledger, .field, .motion, .safety, .twin, .slate, .power, .blocks] s0 x2 := by
        unfold x2
        exact .step (.refl ..) State.wr_moves
      clear_value x2
      refine .ite (fun _ => ?_) (fun _ => ?_)
      · exact .with_power h2
      · exact h2

theorem State.thermalState_moves {s0 : State} {a1 a2 : _} : Moves [.blocks, .ledger] s0 (State.thermalState s0 a1 a2) := by
  have e0 := @State.thermalState.eq_def
  unfold State.thermalState
  clear e0
  extract_lets +onlyGivenNames x1 x2
  clear_value x1 x2
  extract_lets +onlyGivenNames x3
  have h3 : Moves [.blocks, .ledger] s0 x3 := by
    unfold x3
    exact .step (.step (.refl ..) State.wr_moves) State.wr_moves
  clear_value x3
  extract_lets +onlyGivenNames x4
  have h4 : Moves [.blocks, .ledger] s0 x4 := by
    unfold x4
    refine .ite (fun _ => ?_) (fun _ => ?_)
    · exact .step h3 State.wrR_moves
    · exact h3
  clear_value x4
  extract_lets +onlyGivenNames x5
  have h5 : Moves [.blocks, .ledger] s0 x5 := by
    unfold x5
    exact .step h4 State.wr_moves
  clear_value x5
  refine .ite (fun _ => ?_) (fun _ => ?_)
  · exact .step h5 State.log_moves
  · exact h5

theorem State.trialTimeout_moves {s0 : State} : Moves [.power] s0 (State.trialTimeout s0) := by
  have e0 := @State.trialTimeout.eq_def
  unfold State.trialTimeout
  clear e0
  split
  · rename_i y1 y2 y3
    refine .ite (fun _ => ?_) (fun _ => ?_)
    · exact .refl ..
    · exact .step (.refl ..) State.setSlot_moves
  · rename_i y4 y5
    exact .refl ..

theorem State.watchdogExpiry_moves {s0 : State} : Moves [.j16, .eop, .rt, .pairs, .frame, .tally, .time, .net, .ecx, .can, .ledger, .field, .motion, .safety, .twin, .slate, .power, .blocks] s0 (State.watchdogExpiry s0) := by
  have e0 := @State.watchdogExpiry.eq_def
  unfold State.watchdogExpiry
  clear e0
  refine .ite (fun _ => ?_) (fun _ => ?_)
  · exact .refl ..
  · exact .step (.refl ..) State.logicReset_moves

/-! ## Machine/RuntimeCommit.lean -/

theorem State.ringRefused_moves {s0 : State} {a1 a2 a3 : _} : Moves [.rt, .ledger] s0 (State.ringRefused s0 a1 a2 a3) := by
  have e0 := @State.ringRefused.eq_def
  unfold State.ringRefused
  clear e0
  exact .step (.refl ..) State.queueErr_moves

theorem State.commitBlock_moves {s0 : State} {a1 a2 a3 : _} : Moves [.rt, .ledger] s0 (State.commitBlock s0 a1 a2 a3).1 := by
  have e0 := @State.commitBlock.eq_def
  unfold State.commitBlock
  clear e0
  split
  · rename_i y1
    dsimp -zeta only
    exact .step (.refl ..) State.pushBlock_moves
  · rename_i y2
    dsimp -zeta only
    exact .step (.step (.refl ..) State.pushBlock_moves) State.ringRefused_moves

theorem State.noteCan_moves {s0 : State} {a1 a2 : _} : Moves [] s0 (State.noteCan s0 a1 a2) := by
  have e0 := @State.noteCan.eq_def
  unfold State.noteCan
  clear e0
  refine .ite (fun _ => ?_) (fun _ => ?_)
  · exact .refl ..
  · refine .foldl ?_ (fun y1 b3 hy2 => ?_)
    · exact .refl ..
    · exact .step hy2 State.noteWritten_moves

theorem State.commitCan_moves {s0 : State} {a1 a2 a3 : _} : Moves [.rt, .ledger] s0 (State.commitCan s0 a1 a2 a3) := by
  have e0 := @State.commitCan.eq_def
  unfold State.commitCan
  clear e0
  extract_lets +onlyGivenNames x1
  clear_value x1
  split
  · rename_i y2 y3 y4 y5
    have h_y3 : Moves [.rt, .ledger] s0 y3 := by
      rw [show y3 = _ from (congrArg Prod.fst y5).symm]
      exact .step (.refl ..) State.commitBlock_moves
    refine .ite (fun _ => ?_) (fun _ => ?_)
    · refine .foldl ?_ (fun y6 b8 hy7 => ?_)
      · exact h_y3
      · exact .step hy7 State.noteCan_moves
    · exact h_y3

theorem State.submitEntry_moves {s0 : State} {a1 a2 : _} : Moves [.frame] s0 (State.submitEntry s0 a1 a2).1 := by
  have e0 := @State.submitEntry.eq_def
  unfold State.submitEntry
  clear e0
  split
  · rename_i y1 y2 y3 y4
    split
    · rename_i y5 y6 y7 y8
      have h_y6 : Moves [.frame] s0 y6 := by
        rw [show y6 = _ from (congrArg Prod.fst y8).symm]
        exact .step (.refl ..) State.issueId_moves
      dsimp -zeta only
      exact h_y6
  · rename_i y9 y10 y11
    dsimp -zeta only
    exact .refl ..
  · rename_i y12 y13 y14
    dsimp -zeta only
    exact .refl ..

theorem State.commitSubmit_moves {s0 : State} {a1 a2 a3 : _} : Moves [.rt, .ledger] s0 (State.commitSubmit s0 a1 a2 a3) := by
  have e0 := @State.commitSubmit.eq_def
  unfold State.commitSubmit
  clear e0
  extract_lets +onlyGivenNames x1
  clear_value x1
  refine .ite (fun _ => ?_) (fun _ => ?_)
  · exact .refl ..
  · refine .ite (fun _ => ?_) (fun _ => ?_)
    · extract_lets +onlyGivenNames x2
      have h2 : Moves [.rt, .ledger] s0 x2 := by
        unfold x2
        exact .step (.refl ..) State.pushBlock_moves
      clear_value x2
      exact .step h2 State.setTask_moves
    · exact .step (.step (.refl ..) State.inc_moves) State.ringRefused_moves

theorem State.commitFrame_moves {s0 : State} {a1 a2 a3 : _} : Moves [.rt, .frame, .ledger] s0 (State.commitFrame s0 a1 a2 a3) := by
  have e0 := @State.commitFrame.eq_def
  unfold State.commitFrame
  clear e0
  extract_lets +onlyGivenNames x1
  clear_value x1
  extract_lets +onlyGivenNames x2
  have h2 : Moves [.rt, .frame, .ledger] s0 x2 := by
    unfold x2
    exact .step (.refl ..) State.setTask_moves
  clear_value x2
  split
  · rename_i y3 y4 y5 y6
    have h_y4 : Moves [.rt, .frame, .ledger] s0 y4 := by
      rw [show y4 = _ from (congrArg Prod.fst y6).symm]
      refine .foldl_fst ?_ (fun y7 k9 b10 hy8 => ?_)
      · exact h2
      · dsimp -zeta only
        exact .step hy8 State.submitEntry_moves
    exact .step (.step h_y4 State.commitSubmit_moves) State.commitSubmit_moves

theorem State.commitMotion_moves {s0 : State} {t : Nat} {cs : List MotionCmd} : Moves [.rt, .ledger, .motion] s0 (s0.commitMotion t cs) := by
  have h : Moves [.rt, .ledger, .motion] s0 (cs.foldl (State.placeCmd t) (s0, [])).1 := by
    refine .foldl_fst (.refl ..) (fun z k b hz => ?_)
    have hp : Moves [.motion] z (State.placeCmd t (z, k) b).1 := State.assignMove_moves
    exact hz.step hp
  exact h.step State.commitBlock_moves

theorem State.commitOut_moves {s0 : State} {a1 a2 a3 : _} : Moves [.rt] s0 (State.commitOut s0 a1 a2 a3) := by
  have e0 := @State.commitOut.eq_def
  unfold State.commitOut
  clear e0
  extract_lets +onlyGivenNames x1 x2 x3 x4
  clear_value x1 x2 x3 x4
  refine .ite (fun _ => ?_) (fun _ => ?_)
  · exact .refl ..
  · extract_lets +onlyGivenNames x5
    clear_value x5
    exact .step (.step (.with_rt (.refl ..)) State.setTask_moves) State.noteWritten_moves

theorem State.commitProgram_moves {s0 : State} {a1 a2 a3 : _} : Moves [.rt, .tally] s0 (State.commitProgram s0 a1 a2 a3) := by
  have e0 := @State.commitProgram.eq_def
  unfold State.commitProgram
  clear e0
  extract_lets +onlyGivenNames x1
  clear_value x1
  extract_lets +onlyGivenNames x2
  extract_lets +onlyGivenNames x3
  extract_lets +onlyGivenNames x4 x5 x6
  clear_value x4 x5 x6
  exact .with_rt_tally (.refl ..)

theorem State.commitRequests_moves {s0 : State} {a1 a2 : _} : Moves [.rt, .ledger] s0 (State.commitRequests s0 a1 a2) := by
  have e0 := @State.commitRequests.eq_def
  unfold State.commitRequests
  clear e0
  refine .ite (fun _ => ?_) (fun _ => ?_)
  · exact .step (.refl ..) State.commitBlock_moves
  · refine .foldl ?_ (fun y1 b3 hy2 => ?_)
    · exact .step (.refl ..) State.commitBlock_moves
    · exact .step hy2 State.place_moves

theorem State.showExports_moves {s0 : State} {a1 : _} : Moves [.rt] s0 (State.showExports s0 a1) := by
  have e0 := @State.showExports.eq_def
  unfold State.showExports
  clear e0
  split
  · rename_i y1 y2
    exact .refl ..
  · rename_i y3 y4 y5
    refine .foldl ?_ (fun y6 b8 hy7 => ?_)
    · exact .refl ..
    · exact .with_rt hy7

theorem State.takeExports_moves {s0 : State} {a1 : _} : Moves [.rt] s0 (State.takeExports s0 a1) := by
  have e0 := @State.takeExports.eq_def
  unfold State.takeExports
  clear e0
  refine .foldl ?_ (fun y1 b3 hy2 => ?_)
  · exact .refl ..
  · split
    · rename_i y4 y5 y6
      exact .with_rt hy2
    · rename_i y7 y8
      exact hy2

theorem State.turnCommit_moves {s0 : State} {a1 a2 : _} : Moves [.rt, .tally, .ledger, .frame, .motion, .can, .twin, .free, .blocks] s0 (State.turnCommit s0 a1 a2) := by
  have e0 := @State.turnCommit.eq_def
  unfold State.turnCommit
  clear e0
  extract_lets +onlyGivenNames x1
  clear_value x1
  split
  · rename_i y2 y3 y4 y5 y6 y7
    refine .ite (fun _ => ?_) (fun _ => ?_)
    · exact .refl ..
    · extract_lets +onlyGivenNames x8
      have h8 : Moves [.rt, .tally, .ledger, .frame, .motion, .can, .twin, .free, .blocks] s0 x8 := by
        unfold x8
        exact .step (.step (.refl ..) State.takeExports_moves) State.commitProgram_moves
      clear_value x8
      extract_lets +onlyGivenNames x9
      have h9 : Moves [.rt, .tally, .ledger, .frame, .motion, .can, .twin, .free, .blocks] s0 x9 := by
        unfold x9
        refine .foldl ?_ (fun y10 b12 hy11 => ?_)
        · exact h8
        · exact .step hy11 State.commitOut_moves
      clear_value x9
      extract_lets +onlyGivenNames x13
      have h13 : Moves [.rt, .tally, .ledger, .frame, .motion, .can, .twin, .free, .blocks] s0 x13 := by
        unfold x13
        exact .step h9 State.commitBlock_moves
      clear_value x13
      extract_lets +onlyGivenNames x14
      have h14 : Moves [.rt, .tally, .ledger, .frame, .motion, .can, .twin, .free, .blocks] s0 x14 := by
        unfold x14
        refine .foldl ?_ (fun y15 b17 hy16 => ?_)
        · exact h13
        · exact .step hy16 State.commitCan_moves
      clear_value x14
      extract_lets +onlyGivenNames x18
      have h18 : Moves [.rt, .tally, .ledger, .frame, .motion, .can, .twin, .free, .blocks] s0 x18 := by
        unfold x18
        exact .step (.step h14 State.commitMotion_moves) State.commitFrame_moves
      clear_value x18
      extract_lets +onlyGivenNames x19
      have h19 : Moves [.rt, .tally, .ledger, .frame, .motion, .can, .twin, .free, .blocks] s0 x19 := by
        unfold x19
        exact .step h18 State.commitRequests_moves
      clear_value x19
      extract_lets +onlyGivenNames x20
      have h20 : Moves [.rt, .tally, .ledger, .frame, .motion, .can, .twin, .free, .blocks] s0 x20 := by
        unfold x20
        exact .step h19 State.commitBlock_moves
      clear_value x20
      extract_lets +onlyGivenNames x21
      have h21 : Moves [.rt, .tally, .ledger, .frame, .motion, .can, .twin, .free, .blocks] s0 x21 := by
        unfold x21
        refine .step ?_ State.showExports_moves
        refine .foldl ?_ (fun y22 b24 hy23 => ?_)
        · exact .step h20 State.retireTaken_moves
        · exact .step hy23 State.overrunEvent_moves
      clear_value x21
      extract_lets +onlyGivenNames x25
      have h25 : Moves [.rt, .tally, .ledger, .frame, .motion, .can, .twin, .free, .blocks] s0 x25 := by
        unfold x25
        refine .ite (fun _ => ?_) (fun _ => ?_)
        · exact .step h21 State.queueErr_moves
        · exact h21
      clear_value x25
      extract_lets +onlyGivenNames x26
      clear_value x26
      extract_lets +onlyGivenNames x27
      have h27 : Moves [.rt, .tally, .ledger, .frame, .motion, .can, .twin, .free, .blocks] s0 x27 := by
        unfold x27
        exact .step h25 State.setTask_moves
      clear_value x27
      extract_lets +onlyGivenNames x28
      have h28 : Moves [.rt, .tally, .ledger, .frame, .motion, .can, .twin, .free, .blocks] s0 x28 := by
        unfold x28
        exact .step (.step (.step (.step h27 State.addTo_moves) State.wr_moves) State.raise_moves) State.wrT_moves
      clear_value x28
      extract_lets +onlyGivenNames x29
      have h29 : Moves [.rt, .tally, .ledger, .frame, .motion, .can, .twin, .free, .blocks] s0 x29 := by
        unfold x29
        exact .step (.step (.step h28 State.pairCommit_moves) State.wr_moves) State.wr_moves
      clear_value x29
      extract_lets +onlyGivenNames x30
      have h30 : Moves [.rt, .tally, .ledger, .frame, .motion, .can, .twin, .free, .blocks] s0 x30 := by
        unfold x30
        refine .ite (fun _ => ?_) (fun _ => ?_)
        · exact .step h29 State.wr_moves
        · exact h29
      clear_value x30
      extract_lets +onlyGivenNames x31
      have h31 : Moves [.rt, .tally, .ledger, .frame, .motion, .can, .twin, .free, .blocks] s0 x31 := by
        unfold x31
        exact .step h30 State.sendChanges_moves
      clear_value x31
      exact .step (.step h31 State.castleComplete_moves) State.settleStop_moves
  · rename_i y32 y33 y34
    exact .refl ..

/-! ## Machine/Online.lean -/

theorem State.applyArchive_moves {s0 : State} {a1 : _} : Moves [.ledger, .rt] s0 (State.applyArchive s0 a1) := by
  have e0 := @State.applyArchive.eq_def
  unfold State.applyArchive
  clear e0
  extract_lets +onlyGivenNames x1
  clear_value x1
  split
  · rename_i y2
    exact .step (.refl ..) State.wr_moves
  · rename_i y3 y4
    extract_lets +onlyGivenNames x5 x6
    clear_value x5 x6
    extract_lets +onlyGivenNames x7
    have h7 : Moves [.ledger, .rt] s0 x7 := by
      unfold x7
      exact .step (.refl ..) State.wr_moves
    clear_value x7
    refine .ite (fun _ => ?_) (fun _ => ?_)
    · exact .step h7 State.rejectArchive_moves
    · refine .ite (fun _ => ?_) (fun _ => ?_)
      · exact h7
      · exact .with_rt h7

theorem State.orphan_moves {s0 : State} {a1 a2 : _} : Moves [.rt, .ledger] s0 (State.orphan s0 a1 a2) := by
  have e0 := @State.orphan.eq_def
  unfold State.orphan
  clear e0
  extract_lets +onlyGivenNames x1
  clear_value x1
  split
  · rename_i y2 y3 y4 y5 y6 y7 y8 y9 y10 y11 y12
    refine .ite (fun _ => ?_) (fun _ => ?_)
    · exact .step (.refl ..) State.queueErr_moves
    · exact .refl ..
  · rename_i y13 y14
    exact .refl ..

theorem State.changeover_moves {s0 : State} : Moves [.ledger, .free, .safety, .tally, .twin, .blocks, .rt, .frame] s0 (State.changeover s0) := by
  have e0 := @State.changeover.eq_def
  unfold State.changeover
  clear e0
  split
  · rename_i y1 y2
    exact .refl ..
  · rename_i y3 y4 y5 y6
    refine .ite (fun _ => ?_) (fun _ => ?_)
    · exact .refl ..
    · extract_lets +onlyGivenNames x7
      clear_value x7
      extract_lets +onlyGivenNames x8
      clear_value x8
      extract_lets +onlyGivenNames x9
      have h9 : Moves [.ledger, .free, .safety, .tally, .twin, .blocks, .rt, .frame] s0 x9 := by
        unfold x9
        exact .with_rt (.refl ..)
      clear_value x9
      extract_lets +onlyGivenNames x10
      have h10 : Moves [.ledger, .free, .safety, .tally, .twin, .blocks, .rt, .frame] s0 x10 := by
        unfold x10
        refine .ite (fun _ => ?_) (fun _ => ?_)
        · exact .step (.step h9 State.installArchive_moves) State.safetyConfigure_moves
        · exact .step h9 State.installArchive_moves
      clear_value x10
      extract_lets +onlyGivenNames x11
      have h11 : Moves [.ledger, .free, .safety, .tally, .twin, .blocks, .rt, .frame] s0 x11 := by
        unfold x11
        exact .step (.step h10 State.wrT_moves) State.commitAll_moves
      clear_value x11
      extract_lets +onlyGivenNames x12
      have h12 : Moves [.ledger, .free, .safety, .tally, .twin, .blocks, .rt, .frame] s0 x12 := by
        unfold x12
        split
        · rename_i y13 y14
          refine .foldl ?_ (fun y15 b17 hy16 => ?_)
          · exact h11
          · exact .step hy16 State.orphan_moves
        · rename_i y18
          exact h11
      clear_value x12
      exact .step (.step h12 State.log_moves) State.sendChanges_moves

theorem State.effRevert_moves {s0 : State} : Moves [.ledger, .rt] s0 (State.effRevert s0) := by
  have e0 := @State.effRevert.eq_def
  unfold State.effRevert
  clear e0
  exact .step (.refl ..) State.applyArchive_moves

theorem State.effStageApply_moves {s0 : State} : Moves [.ledger, .rt] s0 (State.effStageApply s0) := by
  have e0 := @State.effStageApply.eq_def
  unfold State.effStageApply
  clear e0
  exact .step (.refl ..) State.applyArchive_moves

theorem State.effStageCheck_moves {s0 : State} {a1 : _} : Moves [] s0 (State.effStageCheck s0 a1) := by
  have e0 := @State.effStageCheck.eq_def
  unfold State.effStageCheck
  clear e0
  refine .ite (fun _ => ?_) (fun _ => ?_)
  · exact .refl ..
  · exact .step (.refl ..) State.wr_moves

theorem State.effStageData_moves {s0 : State} {a1 : _} : Moves [.rt] s0 (State.effStageData s0 a1) := by
  have e0 := @State.effStageData.eq_def
  unfold State.effStageData
  clear e0
  extract_lets +onlyGivenNames x1 x2
  clear_value x1 x2
  extract_lets +onlyGivenNames x3
  have h3 : Moves [.rt] s0 x3 := by
    unfold x3
    exact .with_rt (.refl ..)
  clear_value x3
  exact .step (.step h3 State.raise_moves) State.wr_moves

theorem State.windowExpiry_moves {s0 : State} : Moves [.ledger, .rt] s0 (State.windowExpiry s0) := by
  have e0 := @State.windowExpiry.eq_def
  unfold State.windowExpiry
  clear e0
  split
  · rename_i y1 y2 y3 y4
    refine .ite (fun _ => ?_) (fun _ => ?_)
    · exact .refl ..
    · exact .step (.step (.with_rt (.refl ..)) State.wr_moves) State.log_moves
  · rename_i y5 y6
    exact .refl ..

end Sys2Proof.Machine
end

