-- ==== Sys2Proof/Laws/MovesDict.lean ====
section
/-!
SUPPORT. Laws/MovesDict.lean: what each operation of the dictionary, EOP and the services may change: one lemma per operation (`Moves`).
-/
set_option linter.unusedVariables false
set_option Elab.async false
namespace Sys2Proof.Machine

/-! ## Machine/DictView.lean -/

theorem State.delivered_moves {s0 : State} {a1 a2 : _} : Moves [.eop] s0 (State.delivered s0 a1 a2) := by
  have e0 := @State.delivered.eq_def
  unfold State.delivered
  clear e0
  refine .ite (fun _ => ?_) (fun _ => ?_)
  · exact .refl ..
  · split
    · rename_i y1 y2
      exact .refl ..
    · rename_i y3 y4 y5 y6 y7
      split
      · rename_i y8 y9 y10 y11 y12
        split
        · rename_i y13 y14
          exact .with_eop (.refl ..)
        · rename_i y15 y16
          exact .with_eop (.refl ..)

/-! ## Machine/Dictionary.lean -/

theorem State.mirrored_moves {s0 : State} {a1 : _} : Moves [.ledger, .twin, .free] s0 (State.mirrored s0 a1) := by
  have e0 := @State.mirrored.eq_def
  unfold State.mirrored
  clear e0
  refine .ite (fun _ => ?_) (fun _ => ?_)
  · exact .step (.refl ..) State.mirror_moves
  · exact .refl ..

theorem State.effModule_moves {s0 : State} {a1 a2 a3 a4 a5 : _} : Moves [.j16, .eop, .rt, .pairs, .frame, .tally, .time, .net, .ecx, .can, .ledger, .field, .motion, .safety, .twin, .slate, .power, .blocks] s0 (State.effModule s0 a1 a2 a3 a4 a5) := by
  have e0 := @State.effModule.eq_def
  unfold State.effModule
  clear e0
  split
  · rename_i y1 y2
    exact .step (.refl ..) State.effRestart_moves
  · rename_i y3 y4
    exact .step (.refl ..) State.log_moves
  · rename_i y5 y6
    exact .step (.refl ..) State.log_moves
  · rename_i y7 y8
    exact .step (.refl ..) State.log_moves
  · rename_i y9 y10
    exact .step (.refl ..) State.log_moves
  · rename_i y11 y12
    exact .step (.refl ..) State.effRestore_moves
  · rename_i y13 y14
    exact .step (.refl ..) State.effFwData_moves
  · rename_i y15 y16
    exact .step (.refl ..) State.effFwCheck_moves
  · rename_i y17 y18
    exact .step (.refl ..) State.effFwActivate_moves
  · rename_i y19 y20 y21 y22 y23 y24 y25 y26 y27 y28 y29
    exact .refl ..

theorem State.effTime_moves {s0 : State} {a1 a2 a3 : _} : Moves [.time, .ledger, .blocks] s0 (State.effTime s0 a1 a2 a3) := by
  have e0 := @State.effTime.eq_def
  unfold State.effTime
  clear e0
  refine .ite (fun _ => ?_) (fun _ => ?_)
  · extract_lets +onlyGivenNames x1
    clear_value x1
    split
    · rename_i y2
      exact .step (.refl ..) State.setFreq_moves
    · rename_i y3
      exact .step (.refl ..) State.effStep_moves
    · rename_i y4
      exact .step (.refl ..) State.effSet_moves
    · rename_i y5
      refine .ite (fun _ => ?_) (fun _ => ?_)
      · exact .step (.refl ..) State.effBaseStats_moves
      · exact .refl ..
    · rename_i y6 y7 y8 y9 y10
      exact .refl ..
  · refine .ite (fun _ => ?_) (fun _ => ?_)
    · refine .ite (fun _ => ?_) (fun _ => ?_)
      · exact .step (.refl ..) State.effRole_moves
      · exact .refl ..
    · refine .ite (fun _ => ?_) (fun _ => ?_)
      · refine .ite (fun _ => ?_) (fun _ => ?_)
        · exact .step (.refl ..) State.effTcStats_moves
        · exact .refl ..
      · exact .refl ..

theorem State.effNet_moves {s0 : State} {a1 a2 a3 a4 : _} : Moves [.ecx, .blocks] s0 (State.effNet s0 a1 a2 a3 a4) := by
  have e0 := @State.effNet.eq_def
  unfold State.effNet
  clear e0
  extract_lets +onlyGivenNames x1
  have h1 : Moves [.ecx, .blocks] s0 x1 := by
    unfold x1
    refine .ite (fun _ => ?_) (fun _ => ?_)
    · exact .step (.refl ..) State.noteEcxCheck_moves
    · exact .refl ..
  clear_value x1
  refine .ite (fun _ => ?_) (fun _ => ?_)
  · refine .ite (fun _ => ?_) (fun _ => ?_)
    · exact .step h1 State.wr_moves
    · exact h1
  · refine .ite (fun _ => ?_) (fun _ => ?_)
    · split
      · rename_i y2
        exact .step h1 State.effAcyc_moves
      · rename_i y3
        refine .ite (fun _ => ?_) (fun _ => ?_)
        · exact .step h1 State.effStationStats_moves
        · exact h1
      · rename_i y4 y5 y6
        exact h1
    · refine .ite (fun _ => ?_) (fun _ => ?_)
      · split
        · rename_i y7
          exact .step h1 State.effPortEnable_moves
        · rename_i y8
          refine .ite (fun _ => ?_) (fun _ => ?_)
          · exact .step h1 State.effPortStats_moves
          · exact h1
        · rename_i y9 y10 y11
          exact h1
      · refine .ite (fun _ => ?_) (fun _ => ?_)
        · exact .step h1 State.effSource_moves
        · exact h1

theorem State.effField_moves {s0 : State} {a1 a2 a3 a4 a5 : _} : Moves [.field, .ledger, .blocks, .motion] s0 (State.effField s0 a1 a2 a3 a4 a5) := by
  have e0 := @State.effField.eq_def
  unfold State.effField
  clear e0
  refine .ite (fun _ => ?_) (fun _ => ?_)
  · refine .ite (fun _ => ?_) (fun _ => ?_)
    · exact .step (.refl ..) State.effDiStats_moves
    · exact .refl ..
  · refine .ite (fun _ => ?_) (fun _ => ?_)
    · split
      · rename_i y1
        exact .step (.refl ..) State.effTripReset_moves
      · rename_i y2
        refine .ite (fun _ => ?_) (fun _ => ?_)
        · exact .step (.refl ..) State.effDoStats_moves
        · exact .refl ..
      · rename_i y3 y4 y5
        exact .refl ..
    · refine .ite (fun _ => ?_) (fun _ => ?_)
      · refine .ite (fun _ => ?_) (fun _ => ?_)
        · exact .step (.refl ..) State.effGrpStats_moves
        · exact .refl ..
      · refine .ite (fun _ => ?_) (fun _ => ?_)
        · split
          · rename_i y6
            exact .step (.refl ..) State.effTrimCapture_moves
          · rename_i y7
            refine .ite (fun _ => ?_) (fun _ => ?_)
            · exact .step (.refl ..) State.effAiStats_moves
            · exact .refl ..
          · rename_i y8 y9 y10
            exact .refl ..
        · refine .ite (fun _ => ?_) (fun _ => ?_)
          · split
            · rename_i y11
              exact .step (.refl ..) State.effAoTrim_moves
            · rename_i y12
              exact .step (.refl ..) State.effAoReading_moves
            · rename_i y13
              refine .ite (fun _ => ?_) (fun _ => ?_)
              · exact .step (.refl ..) State.effAoStats_moves
              · exact .refl ..
            · rename_i y14 y15 y16 y17
              exact .refl ..
          · refine .ite (fun _ => ?_) (fun _ => ?_)
            · extract_lets +onlyGivenNames x18
              clear_value x18
              refine .ite (fun _ => ?_) (fun _ => ?_)
              · exact .step (.refl ..) State.effAxisSetting_moves
              · refine .ite (fun _ => ?_) (fun _ => ?_)
                · exact .step (.refl ..) State.effAxisCommand_moves
                · refine .ite (fun _ => ?_) (fun _ => ?_)
                  · exact .step (.refl ..) State.effAxStats_moves
                  · exact .refl ..
            · refine .ite (fun _ => ?_) (fun _ => ?_)
              · refine .ite (fun _ => ?_) (fun _ => ?_)
                · exact .step (.refl ..) State.clear_moves
                · exact .refl ..
              · exact .refl ..

theorem State.effCan_moves {s0 : State} {a1 a2 a3 a4 : _} : Moves [] s0 (State.effCan s0 a1 a2 a3 a4) := by
  have e0 := @State.effCan.eq_def
  unfold State.effCan
  clear e0
  extract_lets +onlyGivenNames x1 x2
  clear_value x1 x2
  refine .ite (fun _ => ?_) (fun _ => ?_)
  · refine .ite (fun _ => ?_) (fun _ => ?_)
    · exact .step (.refl ..) State.effCanStats_moves
    · exact .refl ..
  · refine .ite (fun _ => ?_) (fun _ => ?_)
    · split
      · rename_i y3
        exact .step (.refl ..) State.effObjSend_moves
      · rename_i y4
        refine .ite (fun _ => ?_) (fun _ => ?_)
        · exact .step (.refl ..) State.effObjStats_moves
        · exact .refl ..
      · rename_i y5 y6 y7
        exact .refl ..
    · exact .refl ..

theorem State.effTally_moves {s0 : State} {a1 a2 a3 : _} : Moves [.tally, .ledger, .twin, .free, .blocks] s0 (State.effTally s0 a1 a2 a3) := by
  have e0 := @State.effTally.eq_def
  unfold State.effTally
  clear e0
  refine .ite (fun _ => ?_) (fun _ => ?_)
  · split
    · rename_i y1
      exact .step (.refl ..) State.effBankSelect_moves
    · rename_i y2
      refine .ite (fun _ => ?_) (fun _ => ?_)
      · exact .step (.refl ..) State.effLoopStats_moves
      · exact .refl ..
    · rename_i y3 y4 y5
      exact .refl ..
  · refine .ite (fun _ => ?_) (fun _ => ?_)
    · refine .ite (fun _ => ?_) (fun _ => ?_)
      · exact .step (.refl ..) State.effTallyStats_moves
      · exact .refl ..
    · refine .ite (fun _ => ?_) (fun _ => ?_)
      · extract_lets +onlyGivenNames x6
        clear_value x6
        extract_lets +onlyGivenNames x7
        clear_value x7
        refine .ite (fun _ => ?_) (fun _ => ?_)
        · refine .ite (fun _ => ?_) (fun _ => ?_)
          · exact .step (.refl ..) State.effBankCopy_moves
          · exact .refl ..
        · exact .step (.refl ..) State.noteParam_moves
      · exact .refl ..

theorem State.effFrameEntry_moves {s0 : State} {a1 a2 a3 a4 : _} : Moves [.frame, .ledger, .answer, .eop] s0 (State.effFrameEntry s0 a1 a2 a3 a4) := by
  have e0 := @State.effFrameEntry.eq_def
  unfold State.effFrameEntry
  clear e0
  refine .ite (fun _ => ?_) (fun _ => ?_)
  · refine .ite (fun _ => ?_) (fun _ => ?_)
    · exact .step (.refl ..) State.effMoveBatch_moves
    · exact .refl ..
  · refine .ite (fun _ => ?_) (fun _ => ?_)
    · split
      · rename_i y1
        exact .step (.refl ..) State.effSolveRequest_moves
      · rename_i y2
        exact .step (.refl ..) State.effSolveAbort_moves
      · rename_i y3
        exact .step (.refl ..) State.chooseHome_moves
      · rename_i y4
        refine .ite (fun _ => ?_) (fun _ => ?_)
        · exact .step (.refl ..) State.effSolveStats_moves
        · exact .refl ..
      · rename_i y5 y6 y7 y8 y9
        exact .refl ..
    · refine .ite (fun _ => ?_) (fun _ => ?_)
      · refine .ite (fun _ => ?_) (fun _ => ?_)
        · exact .step (.refl ..) State.effBeadStats_moves
        · exact .refl ..
      · split
        · rename_i y10 y11 y12 y13 y14
          exact .step (.refl ..) State.effLoadData_moves
        · rename_i y15 y16 y17 y18 y19
          exact .step (.refl ..) State.effLoadCommit_moves
        · rename_i y20 y21 y22 y23 y24
          exact .step (.refl ..) State.effUnload_moves
        · rename_i y25 y26 y27 y28 y29
          refine .ite (fun _ => ?_) (fun _ => ?_)
          · exact .step (.refl ..) State.effLoadClear_moves
          · exact .refl ..
        · rename_i y30 y31 y32 y33 y34 y35
          exact .refl ..

theorem State.effRuntimeCommand_moves {s0 : State} {a1 : _} : Moves [.ledger, .rt, .field, .blocks] s0 (State.effRuntimeCommand s0 a1) := by
  have e0 := @State.effRuntimeCommand.eq_def
  unfold State.effRuntimeCommand
  clear e0
  extract_lets +onlyGivenNames x1
  have h1 : Moves [.ledger, .rt, .field, .blocks] s0 x1 := by
    unfold x1
    exact .step (.refl ..) State.effCommand_moves
  clear_value x1
  refine .ite (fun _ => ?_) (fun _ => ?_)
  · exact h1
  · exact .step h1 State.serviceLeave_moves

theorem State.effRuntime_moves {s0 : State} {a1 a2 a3 a4 a5 : _} : Moves [.blocks, .ledger, .rt, .field, .twin, .free, .safety] s0 (State.effRuntime s0 a1 a2 a3 a4 a5) := by
  have e0 := @State.effRuntime.eq_def
  unfold State.effRuntime
  clear e0
  refine .ite (fun _ => ?_) (fun _ => ?_)
  · refine .ite (fun _ => ?_) (fun _ => ?_)
    · exact .step (.refl ..) State.effForceActive_moves
    · exact .refl ..
  · refine .ite (fun _ => ?_) (fun _ => ?_)
    · refine .ite (fun _ => ?_) (fun _ => ?_)
      · exact .step (.refl ..) State.effTaskStats_moves
      · exact .refl ..
    · refine .ite (fun _ => ?_) (fun _ => ?_)
      · refine .ite (fun _ => ?_) (fun _ => ?_)
        · exact .step (.refl ..) State.effPairStats_moves
        · exact .refl ..
      · split
        · rename_i y1 y2 y3 y4 y5
          exact .step (.refl ..) State.effRuntimeCommand_moves
        · rename_i y6 y7 y8 y9 y10
          refine .ite (fun _ => ?_) (fun _ => ?_)
          · exact .step (.refl ..) State.effRetainReset_moves
          · exact .refl ..
        · rename_i y11 y12 y13 y14 y15
          refine .ite (fun _ => ?_) (fun _ => ?_)
          · exact .step (.step (.refl ..) State.effForceClear_moves) State.mirrorForces_moves
          · exact .refl ..
        · rename_i y16 y17 y18 y19 y20
          exact .step (.refl ..) State.effStageData_moves
        · rename_i y21 y22 y23 y24 y25
          exact .step (.refl ..) State.effStageCheck_moves
        · rename_i y26 y27 y28 y29 y30
          exact .step (.refl ..) State.effStageApply_moves
        · rename_i y31 y32 y33 y34 y35
          exact .step (.refl ..) State.effRevert_moves
        · rename_i y36 y37 y38 y39 y40
          exact .step (.refl ..) State.effInject_moves
        · rename_i y41 y42 y43 y44 y45 y46 y47 y48 y49 y50
          exact .refl ..

theorem State.writeReader_moves {s0 : State} {a1 a2 a3 : _} : Moves [.eop] s0 (State.writeReader s0 a1 a2 a3) := by
  have e0 := @State.writeReader.eq_def
  unfold State.writeReader
  clear e0
  split
  · rename_i y1 y2 y3
    exact .with_eop (.refl ..)
  · rename_i y4 y5
    refine .ite (fun _ => ?_) (fun _ => ?_)
    · exact .with_eop (.refl ..)
    · exact .with_eop (.refl ..)

theorem State.effSystem_moves {s0 : State} {a1 a2 a3 a4 a5 : _} : Moves [.ledger, .safety, .free, .eop, .blocks, .twin, .slate] s0 (State.effSystem s0 a1 a2 a3 a4 a5) := by
  have e0 := @State.effSystem.eq_def
  unfold State.effSystem
  clear e0
  refine .ite (fun _ => ?_) (fun _ => ?_)
  · refine .ite (fun _ => ?_) (fun _ => ?_)
    · exact .step (.refl ..) State.effHtStart_moves
    · exact .refl ..
  · split
    · rename_i y1 y2 y3
      exact .step (.refl ..) State.effSafetyReset_moves
    · rename_i y4 y5 y6
      exact .step (.refl ..) State.effSpsData_moves
    · rename_i y7 y8 y9
      exact .step (.refl ..) State.effSpsCommit_moves
    · rename_i y10 y11 y12
      exact .step (.refl ..) State.openBook_moves
    · rename_i y13 y14 y15
      exact .step (.refl ..) State.writeReader_moves
    · rename_i y16 y17 y18
      exact .step (.step (.refl ..) State.wr_moves) State.clearRing_moves
    · rename_i y19 y20 y21
      refine .ite (fun _ => ?_) (fun _ => ?_)
      · exact .step (.refl ..) State.effTwinStats_moves
      · exact .refl ..
    · rename_i y22 y23 y24
      exact .step (.refl ..) State.effRejoin_moves
    · rename_i y25 y26 y27
      exact .step (.refl ..) State.castleRequest_moves
    · rename_i y28 y29 y30
      exact .step (.refl ..) State.effProof_moves
    · rename_i y31 y32 y33
      exact .step (.refl ..) State.effPanelType_moves
    · rename_i y34 y35 y36
      exact .step (.refl ..) State.effPanelEnable_moves
    · rename_i y37 y38 y39
      exact .step (.refl ..) State.effDraw_moves
    · rename_i y40 y41 y42
      refine .ite (fun _ => ?_) (fun _ => ?_)
      · exact .step (.refl ..) State.effPanelStats_moves
      · exact .refl ..
    · rename_i y43 y44 y45 y46 y47 y48 y49 y50 y51 y52 y53 y54 y55 y56 y57 y58
      exact .refl ..

theorem State.effOwner_moves {s0 : State} {a1 a2 a3 : _} : Moves [.j16, .eop, .rt, .pairs, .frame, .tally, .time, .net, .ecx, .can, .ledger, .field, .motion, .safety, .twin, .slate, .power, .blocks, .free, .answer] s0 (State.effOwner s0 a1 a2 a3) := by
  have e0 := @State.effOwner.eq_def
  unfold State.effOwner
  clear e0
  extract_lets +onlyGivenNames x1 x2 x3 x4
  clear_value x1 x2 x3 x4
  refine .ite (fun _ => ?_) (fun _ => ?_)
  · exact .step (.refl ..) State.effModule_moves
  · refine .ite (fun _ => ?_) (fun _ => ?_)
    · exact .step (.refl ..) State.effTime_moves
    · refine .ite (fun _ => ?_) (fun _ => ?_)
      · exact .step (.refl ..) State.effNet_moves
      · refine .ite (fun _ => ?_) (fun _ => ?_)
        · exact .step (.refl ..) State.effField_moves
        · refine .ite (fun _ => ?_) (fun _ => ?_)
          · exact .step (.refl ..) State.effCan_moves
          · refine .ite (fun _ => ?_) (fun _ => ?_)
            · exact .step (.refl ..) State.effTally_moves
            · refine .ite (fun _ => ?_) (fun _ => ?_)
              · exact .step (.refl ..) State.effFrameEntry_moves
              · refine .ite (fun _ => ?_) (fun _ => ?_)
                · exact .step (.refl ..) State.effRuntime_moves
                · exact .step (.refl ..) State.effSystem_moves

theorem State.storeValue_moves {s0 : State} {a1 a2 : _} : Moves [.blocks, .rt] s0 (State.storeValue s0 a1 a2) := by
  have e0 := @State.storeValue.eq_def
  unfold State.storeValue
  clear e0
  split
  · rename_i y1 y2 y3
    exact .refl ..
  · rename_i y4 y5 y6 y7
    refine .ite (fun _ => ?_) (fun _ => ?_)
    · exact .with_rt (.refl ..)
    · refine .ite (fun _ => ?_) (fun _ => ?_)
      · exact .refl ..
      · refine .ite (fun _ => ?_) (fun _ => ?_)
        · exact .step (.refl ..) State.putR_moves
        · refine .ite (fun _ => ?_) (fun _ => ?_)
          · exact .step (.refl ..) State.put_moves
          · exact .refl ..

theorem State.reached_moves {s0 : State} {a1 a2 : _} : Moves [.free] s0 (State.reached s0 a1 a2) := by
  have e0 := @State.reached.eq_def
  unfold State.reached
  clear e0
  extract_lets +onlyGivenNames x1
  clear_value x1
  split
  · rename_i y2
    exact .step (.refl ..) State.renew_moves
  · rename_i y3
    exact .step (.refl ..) State.renew_moves
  · rename_i y4
    refine .ite (fun _ => ?_) (fun _ => ?_)
    · exact .step (.refl ..) State.noteEcxCheck_moves
    · exact .refl ..
  · rename_i y5
    exact .step (.refl ..) State.renew_moves
  · rename_i y6
    exact .step (.refl ..) State.renew_moves
  · rename_i y7
    exact .step (.refl ..) State.renew_moves
  · rename_i y8
    exact .step (.refl ..) State.renewB_moves
  · rename_i y9
    exact .step (.refl ..) State.renew_moves
  · rename_i y10
    exact .step (.refl ..) State.renew_moves
  · rename_i y11 y12 y13 y14 y15 y16 y17 y18 y19 y20
    refine .ite (fun _ => ?_) (fun _ => ?_)
    · exact .step (.refl ..) State.noteTiming_moves
    · exact .refl ..

theorem State.commitWrite_moves {s0 : State} {a1 a2 a3 : _} : Moves [.ledger, .twin, .free, .j16, .eop, .rt, .pairs, .frame, .tally, .time, .net, .ecx, .can, .field, .motion, .safety, .slate, .power, .blocks, .answer] s0 (State.commitWrite s0 a1 a2 a3) := by
  have e0 := @State.commitWrite.eq_def
  unfold State.commitWrite
  clear e0
  exact .step (.step (.step (.step (.refl ..) State.reached_moves) State.storeValue_moves) State.effOwner_moves) State.mirrored_moves

theorem State.rejectedClear_moves {s0 : State} {a1 : _} : Moves [.ledger, .eop] s0 (State.rejectedClear s0 a1) := by
  have e0 := @State.rejectedClear.eq_def
  unfold State.rejectedClear
  clear e0
  extract_lets +onlyGivenNames x1 x2
  clear_value x1 x2
  extract_lets +onlyGivenNames x3
  have h3 : Moves [.ledger, .eop] s0 x3 := by
    unfold x3
    exact .with_eop (.refl ..)
  clear_value x3
  exact .step (.step h3 State.wr_moves) State.log_moves

theorem State.refuseWrite_moves {s0 : State} {a1 a2 a3 a4 : _} : Moves [.free, .ledger, .eop] s0 (State.refuseWrite s0 a1 a2 a3 a4) := by
  have e0 := @State.refuseWrite.eq_def
  unfold State.refuseWrite
  clear e0
  extract_lets +onlyGivenNames x1
  have h1 : Moves [.free, .ledger, .eop] s0 x1 := by
    unfold x1
    exact .step (.refl ..) State.reached_moves
  clear_value x1
  refine .ite (fun _ => ?_) (fun _ => ?_)
  · exact .step h1 State.rejectedClear_moves
  · exact h1

theorem State.write_moves {s0 : State} {a1 a2 a3 a4 : _} : Moves [.ledger, .twin, .free, .j16, .eop, .rt, .pairs, .frame, .tally, .time, .net, .ecx, .can, .field, .motion, .safety, .slate, .power, .blocks, .answer] s0 (State.write s0 a1 a2 a3 a4).1 := by
  have e0 := @State.write.eq_def
  unfold State.write
  clear e0
  extract_lets +onlyGivenNames x1
  clear_value x1
  split
  · rename_i y2 y3 y4
    extract_lets +onlyGivenNames x5
    clear_value x5
    split
    · rename_i y6
      dsimp -zeta only
      exact .step (.step (.refl ..) State.commitWrite_moves) State.servicesCommit_moves
    · rename_i y7
      dsimp -zeta only
      exact .step (.refl ..) State.refuseWrite_moves
  · rename_i y8 y9
    dsimp -zeta only
    exact .refl ..
  · rename_i y10 y11 y12 y13
    dsimp -zeta only
    exact .refl ..

/-! ## Machine/DictSteps.lean -/

theorem State.dictStep_moves {ps : List Part} {s0 : State} {w : Writer} {f : State → State × Nat} (ha : Part.answer ∈ ps) (hf : ∀ y, Moves ps y (f y).1) :
    Moves ps s0 (s0.dictStep w f) := by
  have e0 := @State.dictStep.eq_def
  unfold State.dictStep
  clear e0
  refine .ite (fun _ => .refl ..) (fun _ => .ite (fun _ => Moves.with_odStatus (.refl ..) ha) (fun _ => ?_))
  have h := hf s0
  revert h
  generalize f s0 = q
  intro h
  exact Moves.with_odStatus (x := q.1) h ha

theorem State.proofStep_moves {s0 : State} {a1 a2 a3 a4 : _} : Moves [.ledger, .blocks, .twin, .free] s0 (State.proofStep s0 a1 a2 a3 a4).1 := by
  have e0 := @State.proofStep.eq_def
  unfold State.proofStep
  clear e0
  extract_lets +onlyGivenNames x1 x2
  clear_value x1 x2
  split
  · rename_i y3
    dsimp -zeta only
    exact .step (.step (.step (.refl ..) State.reached_moves) State.effProof_moves) State.servicesCommit_moves
  · rename_i y4
    split
    · rename_i y5
      dsimp -zeta only
      exact .step (.refl ..) State.reached_moves
    · rename_i y6
      dsimp -zeta only
      exact .refl ..

theorem State.readStep_moves {s0 : State} {w : Writer} {k : Nat} : Moves [.eop, .answer] s0 (s0.readStep w k) := by
  refine State.dictStep_moves (by decide) (fun y => ?_)
  split
  exact Moves.with_odValue (Moves.step (.refl ..) State.delivered_moves (by decide)) (by decide)

theorem State.writeStep_moves {s0 : State} {w : Writer} {k : Nat} {ty : Ty} {v : Value} : Moves [.free, .ledger, .eop, .answer, .j16, .rt, .pairs, .frame, .tally, .time, .net, .ecx, .can, .field, .motion, .safety, .twin, .slate, .power, .blocks] s0 (s0.writeStep w k ty v) :=
  State.dictStep_moves (by decide) (fun _ => Moves.step (.refl ..) State.write_moves (by decide))

/-! ## Machine/DictServices.lean -/

theorem State.answerPort_moves {s0 : State} {a1 a2 a3 a4 : _} : Moves [.eop] s0 (State.answerPort s0 a1 a2 a3 a4) := by
  have e0 := @State.answerPort.eq_def
  unfold State.answerPort
  clear e0
  split
  · rename_i y1 y2 y3 y4 y5
    exact .with_eop (.refl ..)
  · rename_i y6 y7
    refine .ite (fun _ => ?_) (fun _ => ?_)
    · exact .refl ..
    · refine .ite (fun _ => ?_) (fun _ => ?_)
      · exact .with_eop (.refl ..)
      · exact .step (.refl ..) State.place_moves

theorem State.commitItems_moves {s0 : State} {a1 a2 : _} : Moves [.blocks, .rt, .free, .ledger, .twin, .j16, .eop, .pairs, .frame, .tally, .time, .net, .ecx, .can, .field, .motion, .safety, .slate, .power, .answer] s0 (State.commitItems s0 a1 a2) := by
  have e0 := @State.commitItems.eq_def
  unfold State.commitItems
  clear e0
  extract_lets +onlyGivenNames x1
  have h1 : Moves [.blocks, .rt, .free, .ledger, .twin, .j16, .eop, .pairs, .frame, .tally, .time, .net, .ecx, .can, .field, .motion, .safety, .slate, .power, .answer] s0 x1 := by
    unfold x1
    refine .foldl ?_ (fun y2 b4 hy3 => ?_)
    · exact .refl ..
    · exact .step (.step hy3 State.reached_moves) State.storeValue_moves
  clear_value x1
  extract_lets +onlyGivenNames x5
  clear_value x5
  extract_lets +onlyGivenNames x6
  have h6 : Moves [.blocks, .rt, .free, .ledger, .twin, .j16, .eop, .pairs, .frame, .tally, .time, .net, .ecx, .can, .field, .motion, .safety, .slate, .power, .answer] s0 x6 := by
    unfold x6
    refine .foldl ?_ (fun y7 b9 hy8 => ?_)
    · exact h1
    · exact .step (.step hy8 State.effOwner_moves) State.mirrored_moves
  clear_value x6
  exact .step h6 State.servicesCommit_moves

theorem State.setGroup_moves {s0 : State} {a1 a2 : _} : Moves [.eop] s0 (State.setGroup s0 a1 a2) := by
  have e0 := @State.setGroup.eq_def
  unfold State.setGroup
  clear e0
  split
  · rename_i y1 y2
    exact .with_eop (.refl ..)
  · rename_i y3
    exact .with_eop (.refl ..)
  · rename_i y4
    exact .refl ..

theorem State.groupBegin_moves {s0 : State} {a1 a2 : _} : Moves [.eop] s0 (State.groupBegin s0 a1 a2).1 := by
  have e0 := @State.groupBegin.eq_def
  unfold State.groupBegin
  clear e0
  split
  · rename_i y1
    dsimp -zeta only
    exact .refl ..
  · rename_i y2
    split
    · rename_i y3
      dsimp -zeta only
      exact .refl ..
    · rename_i y4
      extract_lets +onlyGivenNames x5 x6
      clear_value x5 x6
      extract_lets +onlyGivenNames x7
      have h7 : Moves [.eop] s0 x7 := by
        unfold x7
        exact .with_eop (.refl ..)
      clear_value x7
      dsimp -zeta only
      exact .step h7 State.setGroup_moves

theorem State.groupEnd_moves {s0 : State} {a1 a2 a3 : _} : Moves [.eop, .blocks, .rt, .free, .ledger, .twin, .j16, .pairs, .frame, .tally, .time, .net, .ecx, .can, .field, .motion, .safety, .slate, .power, .answer] s0 (State.groupEnd s0 a1 a2 a3).1 := by
  have e0 := @State.groupEnd.eq_def
  unfold State.groupEnd
  clear e0
  split
  · rename_i y1
    dsimp -zeta only
    exact .refl ..
  · rename_i y2
    split
    · rename_i y3 y4
      dsimp -zeta only
      exact .refl ..
    · rename_i y5 y6 y7
      split
      · rename_i y8
        dsimp -zeta only
        exact .refl ..
      · rename_i y9
        split
        · rename_i y10
          dsimp -zeta only
          exact .step (.refl ..) State.setGroup_moves
        · rename_i y11
          extract_lets +onlyGivenNames x12
          have h12 : Moves [.eop, .blocks, .rt, .free, .ledger, .twin, .j16, .pairs, .frame, .tally, .time, .net, .ecx, .can, .field, .motion, .safety, .slate, .power, .answer] s0 x12 := by
            unfold x12
            exact .step (.refl ..) State.setGroup_moves
          clear_value x12
          split
          · rename_i y13
            dsimp -zeta only
            exact h12
          · rename_i y14
            split
            · rename_i y15 y16 y17 y18
              dsimp -zeta only
              exact h12
            · rename_i y19 y20
              dsimp -zeta only
              exact .step h12 State.commitItems_moves

theorem State.stageInto_moves {s0 : State} {a1 a2 a3 : _} : Moves [.eop] s0 (State.stageInto s0 a1 a2 a3).1 := by
  have e0 := @State.stageInto.eq_def
  unfold State.stageInto
  clear e0
  extract_lets +onlyGivenNames x1 x2
  clear_value x1 x2
  split
  · rename_i y3
    dsimp -zeta only
    exact .refl ..
  · rename_i y4
    split
    · rename_i y5
      dsimp -zeta only
      exact .refl ..
    · rename_i y6
      dsimp -zeta only
      exact .step (.refl ..) State.setGroup_moves

theorem State.groupStage_moves {s0 : State} {a1 a2 : _} : Moves [.eop] s0 (State.groupStage s0 a1 a2).1 := by
  have e0 := @State.groupStage.eq_def
  unfold State.groupStage
  clear e0
  split
  · rename_i y1
    dsimp -zeta only
    exact .refl ..
  · rename_i y2
    split
    · rename_i y3 y4
      dsimp -zeta only
      exact .refl ..
    · rename_i y5 y6 y7
      split
      · rename_i y8
        dsimp -zeta only
        exact .refl ..
      · rename_i y9
        extract_lets +onlyGivenNames x10
        clear_value x10
        extract_lets +onlyGivenNames x11
        have h11 : Moves [.eop] s0 x11 := by
          unfold x11
          exact .step (.refl ..) State.setGroup_moves
        clear_value x11
        split
        · rename_i y12
          dsimp -zeta only
          exact h11
        · rename_i y13
          split
          · rename_i y14 y15
            dsimp -zeta only
            exact h11
          · rename_i y16 y17 y18
            exact .step h11 State.stageInto_moves

theorem State.multiOne_moves {s0 : State} {a1 a2 a3 : _} : Moves [.eop] s0 (State.multiOne s0 a1 a2 a3).1 := by
  have e0 := @State.multiOne.eq_def
  unfold State.multiOne
  clear e0
  extract_lets +onlyGivenNames x1
  clear_value x1
  extract_lets +onlyGivenNames x2
  split
  · rename_i y3
    dsimp -zeta only
    exact .refl ..
  · rename_i y4
    split
    · rename_i y5
      dsimp -zeta only
      exact .refl ..
    · rename_i y6
      split
      · rename_i y7
        dsimp -zeta only
        exact .refl ..
      · rename_i y8
        dsimp -zeta only
        exact .step (.refl ..) State.delivered_moves

theorem State.multi_moves {l : List Nat} {s0 : State} {c : Client} {n : Nat} : Moves [.eop] s0 (s0.multi c l n).1 := by
  induction l generalizing s0 n with
  | nil => exact .refl ..
  | cons k l ih =>
    unfold State.multi
    split
    rename_i y b heq
    have h : Moves [.eop] s0 y := by
      rw [show y = _ from (congrArg Prod.fst heq).symm]
      exact Moves.step (.refl ..) State.multiOne_moves
    split
    rename_i z bs heq2
    rw [show z = _ from (congrArg Prod.fst heq2).symm]
    exact h.step ih

theorem State.setTransfer_moves {s0 : State} {a1 a2 a3 : _} : Moves [.eop] s0 (State.setTransfer s0 a1 a2 a3) := by
  have e0 := @State.setTransfer.eq_def
  unfold State.setTransfer
  clear e0
  split
  · rename_i y1 y2
    exact .with_eop (.refl ..)
  · rename_i y3
    exact .with_eop (.refl ..)
  · rename_i y4
    exact .refl ..

theorem State.segAbort_moves {s0 : State} {a1 a2 : _} : Moves [.eop] s0 (State.segAbort s0 a1 a2).1 := by
  have e0 := @State.segAbort.eq_def
  unfold State.segAbort
  clear e0
  split
  · rename_i y1
    dsimp -zeta only
    exact .refl ..
  · rename_i y2
    split
    · rename_i y3 y4
      dsimp -zeta only
      exact .step (.refl ..) State.setTransfer_moves
    · rename_i y5 y6 y7 y8
      dsimp -zeta only
      exact .step (.refl ..) State.setTransfer_moves
    · rename_i y9 y10
      dsimp -zeta only
      exact .refl ..

theorem State.writeBytes_moves {s0 : State} {a1 a2 a3 a4 : _} : Moves [.ledger, .twin, .free, .j16, .eop, .rt, .pairs, .frame, .tally, .time, .net, .ecx, .can, .field, .motion, .safety, .slate, .power, .blocks, .answer] s0 (State.writeBytes s0 a1 a2 a3 a4).1 := by
  have e0 := @State.writeBytes.eq_def
  unfold State.writeBytes
  clear e0
  extract_lets +onlyGivenNames x1 x2
  clear_value x1 x2
  split
  · rename_i y3 y4 y5 y6
    have h_y4 : Moves [.ledger, .twin, .free, .j16, .eop, .rt, .pairs, .frame, .tally, .time, .net, .ecx, .can, .field, .motion, .safety, .slate, .power, .blocks, .answer] s0 y4 := by
      rw [show y4 = _ from (congrArg Prod.fst y6).symm]
      exact .step (.refl ..) State.write_moves
    dsimp -zeta only
    exact h_y4

theorem State.writePart_moves {s0 : State} {a1 a2 a3 : _} : Moves [.eop, .ledger, .twin, .free, .j16, .rt, .pairs, .frame, .tally, .time, .net, .ecx, .can, .field, .motion, .safety, .slate, .power, .blocks, .answer] s0 (State.writePart s0 a1 a2 a3).1 := by
  have e0 := @State.writePart.eq_def
  unfold State.writePart
  clear e0
  extract_lets +onlyGivenNames x1 x2
  clear_value x1 x2
  split
  · rename_i y3
    dsimp -zeta only
    exact .refl ..
  · rename_i y4
    split
    · rename_i y5
      dsimp -zeta only
      exact .refl ..
    · rename_i y6
      split
      · rename_i y7
        split
        · rename_i y8
          dsimp -zeta only
          exact .refl ..
        · rename_i y9
          extract_lets +onlyGivenNames x10 x11 x12
          clear_value x10 x11 x12
          split
          · rename_i y13
            dsimp -zeta only
            exact .step (.refl ..) State.setTransfer_moves
          · rename_i y14
            split
            · rename_i y15 y16 y17 y18
              have h_y16 : Moves [.eop, .ledger, .twin, .free, .j16, .rt, .pairs, .frame, .tally, .time, .net, .ecx, .can, .field, .motion, .safety, .slate, .power, .blocks, .answer] s0 y16 := by
                rw [show y16 = _ from (congrArg Prod.fst y18).symm]
                exact .step (.step (.refl ..) State.setTransfer_moves) State.writeBytes_moves
              dsimp -zeta only
              exact h_y16
      · rename_i y19
        split
        · rename_i y20
          dsimp -zeta only
          exact .refl ..
        · rename_i y21
          extract_lets +onlyGivenNames x22 x23 x24
          clear_value x22 x23 x24
          split
          · rename_i y25
            dsimp -zeta only
            exact .step (.refl ..) State.setTransfer_moves
          · rename_i y26
            split
            · rename_i y27 y28 y29 y30
              have h_y28 : Moves [.eop, .ledger, .twin, .free, .j16, .rt, .pairs, .frame, .tally, .time, .net, .ecx, .can, .field, .motion, .safety, .slate, .power, .blocks, .answer] s0 y28 := by
                rw [show y28 = _ from (congrArg Prod.fst y30).symm]
                exact .step (.step (.refl ..) State.setTransfer_moves) State.writeBytes_moves
              dsimp -zeta only
              exact h_y28

theorem State.segPart_moves {s0 : State} {a1 a2 a3 : _} : Moves [.eop, .ledger, .twin, .free, .j16, .rt, .pairs, .frame, .tally, .time, .net, .ecx, .can, .field, .motion, .safety, .slate, .power, .blocks, .answer] s0 (State.segPart s0 a1 a2 a3).1 := by
  have e0 := @State.segPart.eq_def
  unfold State.segPart
  clear e0
  split
  · rename_i y1 y2
    dsimp -zeta only
    exact .step (.refl ..) State.setTransfer_moves
  · rename_i y3 y4
    dsimp -zeta only
    exact .refl ..
  · rename_i y5 y6 y7 y8
    split
    · rename_i y9
      dsimp -zeta only
      exact .step (.refl ..) State.setTransfer_moves
    · rename_i y10
      split
      · rename_i y11
        dsimp -zeta only
        exact .refl ..
      · rename_i y12
        extract_lets +onlyGivenNames x13
        clear_value x13
        extract_lets +onlyGivenNames x14
        have h14 : Moves [.eop, .ledger, .twin, .free, .j16, .rt, .pairs, .frame, .tally, .time, .net, .ecx, .can, .field, .motion, .safety, .slate, .power, .blocks, .answer] s0 x14 := by
          unfold x14
          exact .step (.refl ..) State.setTransfer_moves
        clear_value x14
        split
        · rename_i y15
          exact .step h14 State.writePart_moves
        · rename_i y16
          dsimp -zeta only
          exact h14

theorem State.segReadStart_moves {s0 : State} {a1 a2 : _} : Moves [.eop] s0 (State.segReadStart s0 a1 a2).1 := by
  have e0 := @State.segReadStart.eq_def
  unfold State.segReadStart
  clear e0
  extract_lets +onlyGivenNames x1
  have h1 : Moves [.eop] s0 x1 := by
    unfold x1
    exact .step (.refl ..) State.setTransfer_moves
  clear_value x1
  split
  · rename_i y2
    dsimp -zeta only
    exact h1
  · rename_i y3
    extract_lets +onlyGivenNames x4
    clear_value x4
    split
    · rename_i y5 y6 y7 y8 y9
      extract_lets +onlyGivenNames x10
      clear_value x10
      split
      · rename_i y11
        dsimp -zeta only
        exact h1
      · rename_i y12
        extract_lets +onlyGivenNames x13
        clear_value x13
        dsimp -zeta only
        exact .step (.step h1 State.delivered_moves) State.setTransfer_moves

theorem State.segWriteStart_moves {s0 : State} {a1 a2 : _} : Moves [.eop] s0 (State.segWriteStart s0 a1 a2).1 := by
  have e0 := @State.segWriteStart.eq_def
  unfold State.segWriteStart
  clear e0
  extract_lets +onlyGivenNames x1
  have h1 : Moves [.eop] s0 x1 := by
    unfold x1
    exact .step (.refl ..) State.setTransfer_moves
  clear_value x1
  split
  · rename_i y2
    dsimp -zeta only
    exact h1
  · rename_i y3
    extract_lets +onlyGivenNames x4 x5
    clear_value x4 x5
    split
    · rename_i y6 y7
      extract_lets +onlyGivenNames x8
      clear_value x8
      dsimp -zeta only
      exact h1
    · rename_i y9 y10 y11
      extract_lets +onlyGivenNames x12
      clear_value x12
      split
      · rename_i y13
        dsimp -zeta only
        exact h1
      · rename_i y14
        split
        · rename_i y15
          dsimp -zeta only
          exact h1
        · rename_i y16
          dsimp -zeta only
          exact .step h1 State.setTransfer_moves

theorem State.svcRead_moves {s0 : State} {a1 a2 : _} : Moves [.eop] s0 (State.svcRead s0 a1 a2).1 := by
  have e0 := @State.svcRead.eq_def
  unfold State.svcRead
  clear e0
  split
  · rename_i y1
    dsimp -zeta only
    exact .refl ..
  · rename_i y2
    split
    · rename_i y3 y4 y5 y6 y7
      extract_lets +onlyGivenNames x8
      clear_value x8
      split
      · rename_i y9
        dsimp -zeta only
        exact .refl ..
      · rename_i y10
        split
        · rename_i y11
          dsimp -zeta only
          exact .refl ..
        · rename_i y12
          dsimp -zeta only
          exact .step (.refl ..) State.delivered_moves

theorem State.svcWrite_moves {s0 : State} {a1 a2 : _} : Moves [.ledger, .twin, .free, .j16, .eop, .rt, .pairs, .frame, .tally, .time, .net, .ecx, .can, .field, .motion, .safety, .slate, .power, .blocks, .answer] s0 (State.svcWrite s0 a1 a2).1 := by
  have e0 := @State.svcWrite.eq_def
  unfold State.svcWrite
  clear e0
  split
  · rename_i y1
    dsimp -zeta only
    exact .refl ..
  · rename_i y2
    split
    · rename_i y3
      dsimp -zeta only
      exact .refl ..
    · rename_i y4
      exact .step (.refl ..) State.writeBytes_moves

theorem State.svcReadMulti_moves {s0 : State} {a1 a2 : _} : Moves [.eop] s0 (State.svcReadMulti s0 a1 a2).1 := by
  have e0 := @State.svcReadMulti.eq_def
  unfold State.svcReadMulti
  clear e0
  extract_lets +onlyGivenNames x1
  clear_value x1
  split
  · rename_i y2
    dsimp -zeta only
    exact .refl ..
  · rename_i y3
    split
    · rename_i y4 y5 y6 y7
      have h_y5 : Moves [.eop] s0 y5 := by
        rw [show y5 = _ from (congrArg Prod.fst y7).symm]
        exact .step (.refl ..) State.multi_moves
      dsimp -zeta only
      exact h_y5

theorem State.svcDescribe_moves {s0 : State} {a1 : _} : Moves [] s0 (State.svcDescribe s0 a1).1 := by
  have e0 := @State.svcDescribe.eq_def
  unfold State.svcDescribe
  clear e0
  split
  · rename_i y1
    dsimp -zeta only
    exact .refl ..
  · rename_i y2
    split
    · rename_i y3 y4 y5
      dsimp -zeta only
      exact .refl ..
    · rename_i y6 y7 y8 y9
      dsimp -zeta only
      exact .refl ..

theorem State.serve_moves {s0 : State} {a1 a2 a3 : _} : Moves [.eop, .ledger, .twin, .free, .j16, .rt, .pairs, .frame, .tally, .time, .net, .ecx, .can, .field, .motion, .safety, .slate, .power, .blocks, .answer] s0 (State.serve s0 a1 a2 a3).1 := by
  have e0 := @State.serve.eq_def
  unfold State.serve
  clear e0
  split
  · rename_i y1
    dsimp -zeta only
    exact .refl ..
  · rename_i y2
    split
    · rename_i y3
      exact .step (.refl ..) State.svcRead_moves
    · rename_i y4
      exact .step (.refl ..) State.svcWrite_moves
    · rename_i y5
      exact .step (.refl ..) State.svcReadMulti_moves
    · rename_i y6
      exact .step (.refl ..) State.svcDescribe_moves
    · rename_i y7
      exact .step (.refl ..) State.segReadStart_moves
    · rename_i y8
      exact .step (.refl ..) State.segPart_moves
    · rename_i y9
      exact .step (.refl ..) State.segWriteStart_moves
    · rename_i y10
      exact .step (.refl ..) State.segPart_moves
    · rename_i y11
      exact .step (.refl ..) State.segAbort_moves
    · rename_i y12
      exact .step (.refl ..) State.groupBegin_moves
    · rename_i y13
      exact .step (.refl ..) State.groupStage_moves
    · rename_i y14
      exact .step (.refl ..) State.groupEnd_moves
    · rename_i y15
      exact .step (.refl ..) State.groupEnd_moves
    · rename_i y16 y17 y18 y19 y20 y21 y22 y23 y24 y25 y26 y27 y28 y29
      dsimp -zeta only
      exact .refl ..

/-! ## Machine/Eop.lean -/

theorem State.countSessions_moves {s0 : State} : Moves [] s0 (State.countSessions s0) := by
  have e0 := @State.countSessions.eq_def
  unfold State.countSessions
  clear e0
  exact .step (.refl ..) State.wr_moves

theorem State.endSession_moves {s0 : State} {a1 : _} : Moves [.eop] s0 (State.endSession s0 a1) := by
  have e0 := @State.endSession.eq_def
  unfold State.endSession
  clear e0
  exact .step (.with_eop (.refl ..)) State.countSessions_moves

theorem State.setSession_moves {s0 : State} {a1 : _} : Moves [.eop] s0 (State.setSession s0 a1) := by
  have e0 := @State.setSession.eq_def
  unfold State.setSession
  clear e0
  exact .with_eop (.refl ..)

theorem State.admitReq_moves {s0 : State} {a1 : _} : Moves [.eop] s0 (State.admitReq s0 a1).1 := by
  have e0 := @State.admitReq.eq_def
  unfold State.admitReq
  clear e0
  split
  · rename_i y1 y2
    dsimp -zeta only
    exact .refl ..
  · rename_i y3 y4 y5
    split
    · rename_i y6
      dsimp -zeta only
      exact .step (.refl ..) State.endSession_moves
    · rename_i y7
      split
      · rename_i y8
        dsimp -zeta only
        exact .step (.refl ..) State.inc_moves
      · rename_i y9
        split
        · rename_i y10 y11
          dsimp -zeta only
          exact .refl ..
        · rename_i y12 y13 y14
          dsimp -zeta only
          exact .step (.refl ..) State.setSession_moves

theorem State.sendEop_moves {s0 : State} {a1 a2 a3 : _} : Moves [.j16] s0 (State.sendEop s0 a1 a2 a3) := by
  have e0 := @State.sendEop.eq_def
  unfold State.sendEop
  clear e0
  extract_lets +onlyGivenNames x1
  clear_value x1
  refine .ite (fun _ => ?_) (fun _ => ?_)
  · exact .with_j16 (.refl ..)
  · exact .step (.refl ..) State.transmit_moves

theorem State.answerPlain_moves {s0 : State} {a1 a2 a3 a4 a5 : _} : Moves [.j16] s0 (State.answerPlain s0 a1 a2 a3 a4 a5) := by
  have e0 := @State.answerPlain.eq_def
  unfold State.answerPlain
  clear e0
  exact .step (.refl ..) State.sendEop_moves

theorem State.keepResponse_moves {s0 : State} {a1 a2 : _} : Moves [.eop] s0 (State.keepResponse s0 a1 a2) := by
  have e0 := @State.keepResponse.eq_def
  unfold State.keepResponse
  clear e0
  split
  · rename_i y1 y2
    exact .refl ..
  · rename_i y3 y4 y5
    extract_lets +onlyGivenNames x6
    clear_value x6
    exact .step (.refl ..) State.setSession_moves

theorem State.sendTagged_moves {s0 : State} {a1 a2 a3 a4 a5 a6 a7 : _} : Moves [.j16, .eop] s0 (State.sendTagged s0 a1 a2 a3 a4 a5 a6 a7) := by
  have e0 := @State.sendTagged.eq_def
  unfold State.sendTagged
  clear e0
  extract_lets +onlyGivenNames x1 x2
  clear_value x1 x2
  exact .step (.step (.refl ..) State.setSession_moves) State.sendEop_moves

theorem State.answerSession_moves {s0 : State} {a1 a2 a3 a4 a5 a6 a7 : _} : Moves [.eop, .j16] s0 (State.answerSession s0 a1 a2 a3 a4 a5 a6 a7) := by
  have e0 := @State.answerSession.eq_def
  unfold State.answerSession
  clear e0
  extract_lets +onlyGivenNames x1
  have h1 : Moves [.eop, .j16] s0 x1 := by
    unfold x1
    exact .step (.refl ..) State.keepResponse_moves
  clear_value x1
  split
  · rename_i y2 y3 y4
    exact .step h1 State.sendTagged_moves
  · rename_i y5 y6
    exact h1

theorem State.answer_moves {s0 : State} {a1 a2 a3 a4 : _} : Moves [.j16, .eop] s0 (State.answer s0 a1 a2 a3 a4) := by
  have e0 := @State.answer.eq_def
  unfold State.answer
  clear e0
  refine .ite (fun _ => ?_) (fun _ => ?_)
  · exact .refl ..
  · refine .ite (fun _ => ?_) (fun _ => ?_)
    · exact .step (.refl ..) State.answerPlain_moves
    · split
      · rename_i y1 y2 y3 y4 y5
        exact .with_eop (.refl ..)
      · rename_i y6 y7
        refine .ite (fun _ => ?_) (fun _ => ?_)
        · exact .with_eop (.refl ..)
        · extract_lets +onlyGivenNames x8
          have h8 : Moves [.j16, .eop] s0 x8 := by
            unfold x8
            exact .step (.refl ..) State.answerSession_moves
          clear_value x8
          refine .ite (fun _ => ?_) (fun _ => ?_)
          · exact .step h8 State.endSession_moves
          · exact h8

theorem State.answerReq_moves {s0 : State} {a1 a2 a3 : _} : Moves [.j16] s0 (State.answerReq s0 a1 a2 a3) := by
  have e0 := @State.answerReq.eq_def
  unfold State.answerReq
  clear e0
  exact .step (.refl ..) State.answerPlain_moves

theorem State.notify_moves {s0 : State} {a1 a2 a3 a4 : _} : Moves [.j16, .eop] s0 (State.notify s0 a1 a2 a3 a4) := by
  have e0 := @State.notify.eq_def
  unfold State.notify
  clear e0
  extract_lets +onlyGivenNames x1 x2 x3
  clear_value x1 x2 x3
  exact .step (.refl ..) State.sendTagged_moves

theorem State.checkSubscription_moves {s0 : State} {a1 a2 : _} : Moves [.eop, .j16] s0 (State.checkSubscription s0 a1 a2) := by
  have e0 := @State.checkSubscription.eq_def
  unfold State.checkSubscription
  clear e0
  split
  · rename_i y1 y2
    exact .refl ..
  · rename_i y3 y4 y5
    split
    · rename_i y6 y7
      exact .refl ..
    · rename_i y8 y9 y10
      extract_lets +onlyGivenNames x11
      clear_value x11
      refine .ite (fun _ => ?_) (fun _ => ?_)
      · exact .refl ..
      · split
        · rename_i y12 y13 y14 y15 y16
          extract_lets +onlyGivenNames x17 x18 x19 x20
          clear_value x17 x18 x19 x20
          extract_lets +onlyGivenNames x21
          have h21 : Moves [.eop, .j16] s0 x21 := by
            unfold x21
            exact .step (.refl ..) State.setSession_moves
          clear_value x21
          refine .ite (fun _ => ?_) (fun _ => ?_)
          · exact .step h21 State.notify_moves
          · exact h21

theorem State.refuseEop_moves {s0 : State} {a1 a2 a3 : _} : Moves [.j16, .eop] s0 (State.refuseEop s0 a1 a2 a3) := by
  have e0 := @State.refuseEop.eq_def
  unfold State.refuseEop
  clear e0
  extract_lets +onlyGivenNames x1 x2
  clear_value x1 x2
  extract_lets +onlyGivenNames x3
  have h3 : Moves [.j16, .eop] s0 x3 := by
    unfold x3
    exact .with_eop (.refl ..)
  clear_value x3
  refine .ite (fun _ => ?_) (fun _ => ?_)
  · exact .step h3 State.inc_moves
  · exact .step (.with_eop h3) State.answerReq_moves

theorem State.mayIdentify_moves {s0 : State} {a1 : _} : Moves [.eop] s0 (State.mayIdentify s0 a1).1 := by
  have e0 := @State.mayIdentify.eq_def
  unfold State.mayIdentify
  clear e0
  extract_lets +onlyGivenNames x1
  clear_value x1
  split
  · rename_i y2
    dsimp -zeta only
    exact .step (.with_eop (.refl ..)) State.inc_moves
  · rename_i y3
    dsimp -zeta only
    exact .with_eop (.refl ..)

theorem State.loginChallenge_moves {s0 : State} {a1 a2 : _} : Moves [.free, .eop] s0 (State.loginChallenge s0 a1 a2).1 := by
  have e0 := @State.loginChallenge.eq_def
  unfold State.loginChallenge
  clear e0
  split
  · rename_i y1
    dsimp -zeta only
    exact .refl ..
  · rename_i y2
    split
    · rename_i y3
      dsimp -zeta only
      exact .refl ..
    · rename_i y4
      extract_lets +onlyGivenNames x5 x6 x7
      clear_value x5 x6 x7
      extract_lets +onlyGivenNames x8
      have h8 : Moves [.free, .eop] s0 x8 := by
        unfold x8
        exact .step (.refl ..) State.drawn_moves
      clear_value x8
      extract_lets +onlyGivenNames x9
      clear_value x9
      extract_lets +onlyGivenNames x10
      have h10 : Moves [.free, .eop] s0 x10 := by
        unfold x10
        exact .with_eop h8
      clear_value x10
      dsimp -zeta only
      exact h10

theorem State.failLogin_moves {s0 : State} {a1 : _} : Moves [.ledger, .eop] s0 (State.failLogin s0 a1) := by
  have e0 := @State.failLogin.eq_def
  unfold State.failLogin
  clear e0
  extract_lets +onlyGivenNames x1
  have h1 : Moves [.ledger, .eop] s0 x1 := by
    unfold x1
    exact .step (.refl ..) State.inc_moves
  clear_value x1
  extract_lets +onlyGivenNames x2
  clear_value x2
  refine .ite (fun _ => ?_) (fun _ => ?_)
  · exact .with_eop h1
  · exact .step (.with_eop h1) State.log_moves

theorem State.loginResponse_moves {s0 : State} {a1 a2 a3 : _} : Moves [.free, .ledger, .eop] s0 (State.loginResponse s0 a1 a2 a3).1 := by
  have e0 := @State.loginResponse.eq_def
  unfold State.loginResponse
  clear e0
  extract_lets +onlyGivenNames x1 x2
  clear_value x1 x2
  split
  · rename_i y3
    dsimp -zeta only
    exact .refl ..
  · rename_i y4
    split
    · rename_i y5
      dsimp -zeta only
      exact .refl ..
    · rename_i y6
      extract_lets +onlyGivenNames x7 x8
      clear_value x7 x8
      extract_lets +onlyGivenNames x9
      have h9 : Moves [.free, .ledger, .eop] s0 x9 := by
        unfold x9
        exact .with_eop (.refl ..)
      clear_value x9
      extract_lets +onlyGivenNames x10
      clear_value x10
      split
      · rename_i y11 y12 y13 y14 y15
        split
        · rename_i y16
          split
          · rename_i y17
            dsimp -zeta only
            exact h9
          · rename_i y18
            extract_lets +onlyGivenNames x19 x20 x21
            clear_value x19 x20 x21
            extract_lets +onlyGivenNames x22
            have h22 : Moves [.free, .ledger, .eop] s0 x22 := by
              unfold x22
              exact .step h9 State.drawn_moves
            clear_value x22
            extract_lets +onlyGivenNames x23
            clear_value x23
            extract_lets +onlyGivenNames x24
            have h24 : Moves [.free, .ledger, .eop] s0 x24 := by
              unfold x24
              exact .with_eop h22
            clear_value x24
            dsimp -zeta only
            exact .step h24 State.countSessions_moves
        · rename_i y25
          dsimp -zeta only
          exact .step h9 State.failLogin_moves
      · rename_i y26 y27 y28 y29
        dsimp -zeta only
        exact .step h9 State.failLogin_moves

theorem State.subscribe_moves {s0 : State} {a1 a2 a3 : _} : Moves [.eop] s0 (State.subscribe s0 a1 a2 a3).1 := by
  have e0 := @State.subscribe.eq_def
  unfold State.subscribe
  clear e0
  extract_lets +onlyGivenNames x1 x2 x3 x4 x5
  clear_value x1 x2 x3 x4 x5
  split
  · rename_i y6
    dsimp -zeta only
    exact .refl ..
  · rename_i y7
    split
    · rename_i y8 y9 y10
      dsimp -zeta only
      exact .refl ..
    · rename_i y11 y12 y13 y14
      extract_lets +onlyGivenNames x15
      clear_value x15
      split
      · rename_i y16
        dsimp -zeta only
        exact .refl ..
      · rename_i y17
        extract_lets +onlyGivenNames x18 x19
        clear_value x18 x19
        dsimp -zeta only
        exact .step (.refl ..) State.setSession_moves

theorem State.unsubscribe_moves {s0 : State} {a1 a2 : _} : Moves [.eop] s0 (State.unsubscribe s0 a1 a2).1 := by
  have e0 := @State.unsubscribe.eq_def
  unfold State.unsubscribe
  clear e0
  extract_lets +onlyGivenNames x1
  clear_value x1
  split
  · rename_i y2
    dsimp -zeta only
    exact .refl ..
  · rename_i y3
    split
    · rename_i y4
      dsimp -zeta only
      exact .step (.refl ..) State.setSession_moves
    · rename_i y5
      split
      · rename_i y6
        dsimp -zeta only
        exact .step (.refl ..) State.setSession_moves
      · rename_i y7
        dsimp -zeta only
        exact .refl ..

theorem State.quench_moves {s0 : State} {a1 a2 a3 : _} : Moves [.ledger, .eop] s0 (State.quench s0 a1 a2 a3).1 := by
  have e0 := @State.quench.eq_def
  unfold State.quench
  clear e0
  extract_lets +onlyGivenNames x1 x2 x3
  clear_value x1 x2 x3
  split
  · rename_i y4
    dsimp -zeta only
    exact .refl ..
  · rename_i y5
    split
    · rename_i y6
      dsimp -zeta only
      exact .refl ..
    · rename_i y7
      split
      · rename_i y8
        split
        · rename_i y9
          dsimp -zeta only
          exact .refl ..
        · rename_i y10
          split
          · rename_i y11
            dsimp -zeta only
            exact .refl ..
          · rename_i y12
            extract_lets +onlyGivenNames x13
            clear_value x13
            split
            · rename_i y14 y15
              dsimp -zeta only
              exact .refl ..
            · rename_i y16 y17 y18
              dsimp -zeta only
              exact .step (.refl ..) State.installFilter_moves
      · rename_i y19
        split
        · rename_i y20
          dsimp -zeta only
          exact .refl ..
        · rename_i y21
          split
          · rename_i y22
            dsimp -zeta only
            exact .refl ..
          · rename_i y23
            extract_lets +onlyGivenNames x24
            clear_value x24
            split
            · rename_i y25 y26
              dsimp -zeta only
              exact .refl ..
            · rename_i y27 y28 y29
              dsimp -zeta only
              exact .step (.refl ..) State.installFilter_moves

theorem State.unquench_moves {s0 : State} {a1 a2 : _} : Moves [.ledger, .eop] s0 (State.unquench s0 a1 a2).1 := by
  have e0 := @State.unquench.eq_def
  unfold State.unquench
  clear e0
  extract_lets +onlyGivenNames x1
  clear_value x1
  split
  · rename_i y2
    dsimp -zeta only
    exact .refl ..
  · rename_i y3
    split
    · rename_i y4
      dsimp -zeta only
      refine .foldl ?_ (fun y5 b7 hy6 => ?_)
      · exact .refl ..
      · exact .step hy6 State.endFilter_moves
    · rename_i y8
      split
      · rename_i y9
        dsimp -zeta only
        exact .step (.refl ..) State.endFilter_moves
      · rename_i y10
        dsimp -zeta only
        exact .refl ..

theorem State.otherService_moves {s0 : State} {a1 a2 : _} : Moves [.free, .eop, .ledger] s0 (State.otherService s0 a1 a2).1 := by
  have e0 := @State.otherService.eq_def
  unfold State.otherService
  clear e0
  split
  · rename_i y1 y2 y3
    exact .step (.refl ..) State.loginChallenge_moves
  · rename_i y4 y5 y6
    exact .step (.refl ..) State.loginResponse_moves
  · rename_i y7 y8 y9 y10 y11
    exact .step (.refl ..) State.subscribe_moves
  · rename_i y12 y13 y14 y15 y16
    exact .step (.refl ..) State.unsubscribe_moves
  · rename_i y17 y18 y19 y20 y21
    dsimp -zeta only
    exact .refl ..
  · rename_i y22 y23 y24 y25 y26
    dsimp -zeta only
    exact .refl ..
  · rename_i y27 y28 y29 y30 y31
    split
    · rename_i y32
      dsimp -zeta only
      exact .refl ..
    · rename_i y33
      exact .step (.refl ..) State.quench_moves
  · rename_i y34 y35 y36 y37 y38
    split
    · rename_i y39
      dsimp -zeta only
      exact .refl ..
    · rename_i y40
      exact .step (.refl ..) State.unquench_moves
  · rename_i y41 y42 y43
    split
    · rename_i y44
      dsimp -zeta only
      exact .refl ..
    · rename_i y45
      dsimp -zeta only
      exact .refl ..
  · rename_i y46 y47 y48 y49 y50 y51 y52 y53 y54 y55 y56
    dsimp -zeta only
    exact .refl ..

theorem State.servePort_moves {s0 : State} : Moves [.eop, .ledger, .twin, .free, .j16, .rt, .pairs, .frame, .tally, .time, .net, .ecx, .can, .field, .motion, .safety, .slate, .power, .blocks, .answer] s0 (State.servePort s0) := by
  have e0 := @State.servePort.eq_def
  unfold State.servePort
  clear e0
  split
  · rename_i y1 y2 y3 y4
    have h_y2 : Moves [.eop, .ledger, .twin, .free, .j16, .rt, .pairs, .frame, .tally, .time, .net, .ecx, .can, .field, .motion, .safety, .slate, .power, .blocks, .answer] s0 y2 := by
      rw [show y2 = _ from (congrArg Prod.fst y4).symm]
      exact .step (.refl ..) State.pop_moves
    split
    · rename_i y5 y6
      split
      · rename_i y7 y8 y9 y10
        have h_y8 : Moves [.eop, .ledger, .twin, .free, .j16, .rt, .pairs, .frame, .tally, .time, .net, .ecx, .can, .field, .motion, .safety, .slate, .power, .blocks, .answer] s0 y8 := by
          rw [show y8 = _ from (congrArg Prod.fst y10).symm]
          exact .step h_y2 State.serve_moves
        exact .step h_y8 State.answerPort_moves
    · rename_i y11 y12 y13
      refine .ite (fun _ => ?_) (fun _ => ?_)
      · exact h_y2
      · split
        · rename_i y14 y15 y16 y17
          have h_y15 : Moves [.eop, .ledger, .twin, .free, .j16, .rt, .pairs, .frame, .tally, .time, .net, .ecx, .can, .field, .motion, .safety, .slate, .power, .blocks, .answer] s0 y15 := by
            rw [show y15 = _ from (congrArg Prod.fst y17).symm]
            exact .step h_y2 State.serve_moves
          exact .step h_y15 State.answer_moves
  · rename_i y18 y19 y20 y21 y22
    have h_y19 : Moves [.eop, .ledger, .twin, .free, .j16, .rt, .pairs, .frame, .tally, .time, .net, .ecx, .can, .field, .motion, .safety, .slate, .power, .blocks, .answer] s0 y19 := by
      rw [show y19 = _ from (congrArg Prod.fst y22).symm]
      exact .step (.refl ..) State.pop_moves
    exact h_y19

theorem State.drainPort_moves {s0 : State} : Moves [.eop, .ledger, .twin, .free, .j16, .rt, .pairs, .frame, .tally, .time, .net, .ecx, .can, .field, .motion, .safety, .slate, .power, .blocks, .answer] s0 (State.drainPort s0) := by
  have e0 := @State.drainPort.eq_def
  unfold State.drainPort
  clear e0
  refine .foldl ?_ (fun y1 b3 hy2 => ?_)
  · exact .refl ..
  · refine .ite (fun _ => ?_) (fun _ => ?_)
    · exact hy2
    · exact .step hy2 State.servePort_moves

theorem State.execute_moves {s0 : State} {a1 a2 : _} : Moves [.free, .eop, .ledger, .twin, .j16, .rt, .pairs, .frame, .tally, .time, .net, .ecx, .can, .field, .motion, .safety, .slate, .power, .blocks, .answer] s0 (State.execute s0 a1 a2).1 := by
  have e0 := @State.execute.eq_def
  unfold State.execute
  clear e0
  split
  · rename_i y1
    split
    · rename_i y2 y3 y4 y5
      have h_y3 : Moves [.free, .eop, .ledger, .twin, .j16, .rt, .pairs, .frame, .tally, .time, .net, .ecx, .can, .field, .motion, .safety, .slate, .power, .blocks, .answer] s0 y3 := by
        rw [show y3 = _ from (congrArg Prod.fst y5).symm]
        exact .step (.refl ..) State.otherService_moves
      dsimp -zeta only
      exact h_y3
  · rename_i y6
    split
    · rename_i y7
      dsimp -zeta only
      exact .step (.refl ..) State.inc_moves
    · rename_i y8
      extract_lets +onlyGivenNames x9
      have h9 : Moves [.free, .eop, .ledger, .twin, .j16, .rt, .pairs, .frame, .tally, .time, .net, .ecx, .can, .field, .motion, .safety, .slate, .power, .blocks, .answer] s0 x9 := by
        unfold x9
        exact .step (.refl ..) State.drainPort_moves
      clear_value x9
      split
      · rename_i y10
        dsimp -zeta only
        exact .step h9 State.place_moves
      · rename_i y11
        split
        · rename_i y12 y13 y14 y15
          have h_y13 : Moves [.free, .eop, .ledger, .twin, .j16, .rt, .pairs, .frame, .tally, .time, .net, .ecx, .can, .field, .motion, .safety, .slate, .power, .blocks, .answer] s0 y13 := by
            rw [show y13 = _ from (congrArg Prod.fst y15).symm]
            exact .step h9 State.serve_moves
          dsimp -zeta only
          exact h_y13

theorem State.perform_moves {s0 : State} {a1 a2 : _} : Moves [.eop, .free, .ledger, .twin, .j16, .rt, .pairs, .frame, .tally, .time, .net, .ecx, .can, .field, .motion, .safety, .slate, .power, .blocks, .answer] s0 (State.perform s0 a1 a2) := by
  have e0 := @State.perform.eq_def
  unfold State.perform
  clear e0
  refine .ite (fun _ => ?_) (fun _ => ?_)
  · split
    · rename_i y1
      exact .step (.refl ..) State.mayIdentify_moves
    · rename_i y2
      dsimp -zeta only
      exact .refl ..
  · split
    · rename_i y3 y4 y5 y6 y7
      have h_y4 : Moves [.eop, .free, .ledger, .twin, .j16, .rt, .pairs, .frame, .tally, .time, .net, .ecx, .can, .field, .motion, .safety, .slate, .power, .blocks, .answer] s0 y4 := by
        rw [show y4 = _ from (congrArg Prod.fst y7).symm]
        refine .step ?_ State.execute_moves
        split
        · rename_i y8
          exact .step (.refl ..) State.mayIdentify_moves
        · rename_i y9
          dsimp -zeta only
          exact .refl ..
      exact .step h_y4 State.answer_moves
    · rename_i y10 y11 y12
      have h_y11 : Moves [.eop, .free, .ledger, .twin, .j16, .rt, .pairs, .frame, .tally, .time, .net, .ecx, .can, .field, .motion, .safety, .slate, .power, .blocks, .answer] s0 y11 := by
        rw [show y11 = _ from (congrArg Prod.fst y12).symm]
        refine .step ?_ State.execute_moves
        split
        · rename_i y13
          exact .step (.refl ..) State.mayIdentify_moves
        · rename_i y14
          dsimp -zeta only
          exact .refl ..
      exact h_y11

theorem State.repeated_moves {s0 t : State} {o : Origin} {q : EopReq} (h : s0.repeated o q = some t) : Moves [.j16, .eop] s0 t := by
  unfold State.repeated at h
  split at h
  · cases h
  · split at h
    · cases h
      exact Moves.step (Moves.step (.refl ..) State.inc_moves) State.sendTagged_moves
    · split at h
      · cases h; exact .refl ..
      · cases h

theorem State.request_moves {s0 : State} {o : Origin} {q : EopReq} : Moves [.eop, .free, .ledger, .twin, .j16, .rt, .pairs, .frame, .tally, .time, .net, .ecx, .can, .field, .motion, .safety, .slate, .power, .blocks, .answer] s0 (s0.request o q) := by
  have e0 := @State.request.eq_def
  unfold State.request
  clear e0
  refine .ite (fun _ => Moves.step (.refl ..) State.refuseEop_moves) (fun _ => ?_)
  refine .ite (fun _ => Moves.step (.refl ..) State.answerPlain_moves) (fun _ => ?_)
  split
  · exact Moves.step (.refl ..) State.answerPlain_moves
  · refine .ite (fun _ => Moves.step (.refl ..) State.answerPlain_moves) (fun _ => ?_)
    refine .ite (fun _ => ?_) (fun _ => ?_)
    · refine .ite (fun _ => Moves.step (.refl ..) State.refuseEop_moves) (fun _ => ?_)
      exact .ite (fun _ => Moves.step (.refl ..) State.answerPlain_moves) (fun _ => Moves.step (.refl ..) State.perform_moves)
    · refine .ite (fun _ => Moves.step (.refl ..) State.answerPlain_moves) (fun _ => ?_)
      have ha := State.admitReq_moves (s0 := s0) (a1 := q)
      revert ha
      generalize s0.admitReq q = r
      intro ha
      split
      · split
        · rename_i h
          exact Moves.step (Moves.step (.refl ..) ha) (State.repeated_moves h)
        · exact Moves.step (Moves.step (.refl ..) ha) State.perform_moves
      · exact Moves.step (Moves.step (.refl ..) ha) State.refuseEop_moves

theorem State.datagram_moves {s0 : State} {a1 a2 : _} : Moves [.eop, .free, .ledger, .twin, .j16, .rt, .pairs, .frame, .tally, .time, .net, .ecx, .can, .field, .motion, .safety, .slate, .power, .blocks, .answer] s0 (State.datagram s0 a1 a2) := by
  have e0 := @State.datagram.eq_def
  unfold State.datagram
  clear e0
  split
  · rename_i y1 y2
    exact .step (.refl ..) State.inc_moves
  · rename_i y3 y4 y5
    exact .step (.refl ..) State.request_moves

theorem State.takeFrame_moves {s0 : State} {k : Nat} {d : List Byte} : Moves [] s0 (s0.takeFrame k d).1 := by
  have e0 := @State.takeFrame.eq_def
  unfold State.takeFrame
  clear e0
  extract_lets +onlyGivenNames r is
  have key : ∀ (l : List RingEntry) (f : RingEntry → Bool) (a : RingEntry) (b : List RingEntry), takeFirst f l = some (a, b) → b.length ≤ l.length := by
    intro l f
    induction l with
    | nil => intro a b h; simp [takeFirst] at h
    | cons x l ih =>
      intro a b h
      simp only [takeFirst] at h
      split at h
      · simp only [Option.some.injEq, Prod.mk.injEq] at h; rw [← h.2]; simp
      · cases hh : takeFirst f l with
        | none => simp [hh] at h
        | some v =>
          simp only [hh, Option.map_some, Option.some.injEq, Prod.mk.injEq] at h
          rw [← h.2]
          have := ih v.1 v.2 hh
          simp; omega
  split
  · rename_i f rest he
    refine State.setRing_moves fun hf => ?_
    have h1 := key _ _ _ _ he
    have h2 := hf k
    simp only [State.fill] at h2
    exact h1.trans h2
  · exact .refl ..

theorem State.freeSlot_moves {s0 : State} {a1 a2 : _} : Moves [.net] s0 (State.freeSlot s0 a1 a2) := by
  have e0 := @State.freeSlot.eq_def
  unfold State.freeSlot
  clear e0
  extract_lets +onlyGivenNames x1 x2
  clear_value x1 x2
  exact .step (.refl ..) State.setPort_moves

theorem State.takeDatagram_moves {s0 : State} {a1 a2 : _} : Moves [.net] s0 (State.takeDatagram s0 a1 a2) := by
  have e0 := @State.takeDatagram.eq_def
  unfold State.takeDatagram
  clear e0
  refine .ite (fun _ => ?_) (fun _ => ?_)
  · exact .refl ..
  · extract_lets +onlyGivenNames x1
    clear_value x1
    split
    · rename_i y2 y3 y4 y5
      have h_y3 : Moves [.net] s0 y3 := by
        rw [show y3 = _ from (congrArg Prod.fst y5).symm]
        exact .step (.refl ..) State.takeFrame_moves
      exact .step h_y3 State.freeSlot_moves
    · rename_i y6 y7 y8
      have h_y7 : Moves [.net] s0 y7 := by
        rw [show y7 = _ from (congrArg Prod.fst y8).symm]
        exact .step (.refl ..) State.takeFrame_moves
      exact .step h_y7 State.takeFrame_moves

theorem State.eopRow_moves {s0 : State} {a1 a2 a3 : _} : Moves [.eop, .free, .ledger, .twin, .j16, .rt, .pairs, .frame, .tally, .time, .net, .ecx, .can, .field, .motion, .safety, .slate, .power, .blocks, .answer] s0 (State.eopRow s0 a1 a2 a3) := by
  have e0 := @State.eopRow.eq_def
  unfold State.eopRow
  clear e0
  refine .ite (fun _ => ?_) (fun _ => ?_)
  · exact .refl ..
  · exact .step (.step (.refl ..) State.takeDatagram_moves) State.datagram_moves

theorem State.expireTransfer_moves {s0 : State} {a1 : _} : Moves [.eop] s0 (State.expireTransfer s0 a1) := by
  have e0 := @State.expireTransfer.eq_def
  unfold State.expireTransfer
  clear e0
  split
  · rename_i y1 y2 y3
    refine .ite (fun _ => ?_) (fun _ => ?_)
    · exact .step (.refl ..) State.setTransfer_moves
    · exact .refl ..
  · rename_i y4 y5
    exact .refl ..

/-! ## Machine/Services.lean -/

theorem State.answerDecided_moves {s0 : State} {a1 : _} : Moves [.eop, .j16] s0 (State.answerDecided s0 a1) := by
  have e0 := @State.answerDecided.eq_def
  unfold State.answerDecided
  clear e0
  split
  · rename_i y1 y2
    exact .refl ..
  · rename_i y3 y4 y5
    refine .ite (fun _ => ?_) (fun _ => ?_)
    · exact .step (.refl ..) State.place_moves
    · exact .step (.refl ..) State.answerSession_moves

theorem State.answerAborts_moves {s0 : State} : Moves [.eop, .j16] s0 (State.answerAborts s0) := by
  have e0 := @State.answerAborts.eq_def
  unfold State.answerAborts
  clear e0
  extract_lets +onlyGivenNames x1
  clear_value x1
  refine .foldl ?_ (fun y2 b4 hy3 => ?_)
  · exact .with_eop (.refl ..)
  · exact .step hy3 State.answerDecided_moves

theorem State.arpReply_moves {s0 : State} {a1 a2 : _} : Moves [] s0 (State.arpReply s0 a1 a2) := by
  have e0 := @State.arpReply.eq_def
  unfold State.arpReply
  clear e0
  refine .ite (fun _ => ?_) (fun _ => ?_)
  · exact .step (.refl ..) State.transmit_moves
  · exact .refl ..

theorem State.drain_moves {ps : List Part} {s0 : State} {k : Nat} {f : State → RingEntry → State} (hf : ∀ y e, Moves ps y (f y e)) :
    Moves ps s0 (s0.drain k f) := by
  have e0 := @State.drain.eq_def
  unfold State.drain
  clear e0
  refine .foldl (.refl ..) (fun y b hy => ?_)
  have h : Moves ps s0 (y.pop k).1 := hy.step State.pop_moves (by simp)
  beta_reduce
  revert h
  generalize y.pop k = q
  intro h
  obtain ⟨z, e⟩ := q
  cases e with
  | none => exact h
  | some e => exact h.step (hf z e) (fun _ a => a)

theorem State.echoReply_moves {s0 : State} {a1 a2 : _} : Moves [] s0 (State.echoReply s0 a1 a2) := by
  have e0 := @State.echoReply.eq_def
  unfold State.echoReply
  clear e0
  refine .ite (fun _ => ?_) (fun _ => ?_)
  · extract_lets +onlyGivenNames x1
    clear_value x1
    extract_lets +onlyGivenNames x2
    clear_value x2
    exact .step (.refl ..) State.transmit_moves
  · exact .refl ..

theorem State.netFrame_moves {s0 : State} {a1 a2 : _} : Moves [.eop, .free, .ledger, .twin, .j16, .rt, .pairs, .frame, .tally, .time, .net, .ecx, .can, .field, .motion, .safety, .slate, .power, .blocks, .answer] s0 (State.netFrame s0 a1 a2) := by
  have e0 := @State.netFrame.eq_def
  unfold State.netFrame
  clear e0
  refine .ite (fun _ => ?_) (fun _ => ?_)
  · exact .step (.refl ..) State.arpReply_moves
  · refine .ite (fun _ => ?_) (fun _ => ?_)
    · exact .refl ..
    · refine .ite (fun _ => ?_) (fun _ => ?_)
      · exact .step (.refl ..) State.echoReply_moves
      · refine .ite (fun _ => ?_) (fun _ => ?_)
        · extract_lets +onlyGivenNames x1
          clear_value x1
          refine .ite (fun _ => ?_) (fun _ => ?_)
          · exact .step (.refl ..) State.datagram_moves
          · exact .refl ..
        · exact .refl ..

theorem State.serveAcyc_moves {s0 : State} {a1 : _} : Moves [] s0 (State.serveAcyc s0 a1) := by
  have e0 := @State.serveAcyc.eq_def
  unfold State.serveAcyc
  clear e0
  split
  · rename_i y1 y2 y3
    exact .step (.refl ..) State.takeAcyc_moves
  · rename_i y4 y5
    exact .refl ..

theorem State.serveFrame_moves {s0 : State} {a1 a2 : _} : Moves [.net, .eop, .free, .ledger, .twin, .j16, .rt, .pairs, .frame, .tally, .time, .ecx, .can, .field, .motion, .safety, .slate, .power, .blocks, .answer] s0 (State.serveFrame a1 s0 a2) := by
  have e0 := @State.serveFrame.eq_def
  unfold State.serveFrame
  clear e0
  split
  · rename_i y1 y2
    extract_lets +onlyGivenNames x3
    have h3 : Moves [.net, .eop, .free, .ledger, .twin, .j16, .rt, .pairs, .frame, .tally, .time, .ecx, .can, .field, .motion, .safety, .slate, .power, .blocks, .answer] s0 x3 := by
      unfold x3
      refine .ite (fun _ => ?_) (fun _ => ?_)
      · exact .step (.refl ..) State.freeSlot_moves
      · exact .refl ..
    clear_value x3
    refine .ite (fun _ => ?_) (fun _ => ?_)
    · exact h3
    · exact .step h3 State.netFrame_moves
  · rename_i y4 y5
    exact .refl ..

theorem State.serveFrames_moves {s0 : State} : Moves [.free, .ledger, .eop, .answer, .j16, .rt, .pairs, .frame, .tally, .time, .net, .ecx, .can, .field, .motion, .safety, .twin, .slate, .power, .blocks] s0 s0.serveFrames := by
  have e0 := @State.serveFrames.eq_def
  unfold State.serveFrames
  clear e0
  have hd : ∀ k p (z : State), Moves [.free, .ledger, .eop, .answer, .j16, .rt, .pairs, .frame, .tally, .time, .net, .ecx, .can, .field, .motion, .safety, .twin, .slate, .power, .blocks] z (z.drain k (State.serveFrame p)) := fun k p z =>
    State.drain_moves fun _ _ => Moves.step (.refl ..) State.serveFrame_moves (by decide)
  exact Moves.foldl (.refl ..) (fun y b h => Moves.step (Moves.step h (hd ..) (fun _ a => a)) (hd ..) (fun _ a => a))

theorem State.serveDone_moves {s0 : State} {a1 : _} : Moves [.ledger] s0 (State.serveDone s0 a1) := by
  have e0 := @State.serveDone.eq_def
  unfold State.serveDone
  clear e0
  split
  · rename_i y1 y2
    refine .ite (fun _ => ?_) (fun _ => ?_)
    · exact .step (.refl ..) State.logAt_moves
    · exact .refl ..
  · rename_i y3 y4
    exact .refl ..

theorem State.serveLoopEvt_moves {s0 : State} {a1 : _} : Moves [.ledger] s0 (State.serveLoopEvt s0 a1) := by
  have e0 := @State.serveLoopEvt.eq_def
  unfold State.serveLoopEvt
  clear e0
  split
  · rename_i y1 y2
    refine .ite (fun _ => ?_) (fun _ => ?_)
    · exact .step (.refl ..) State.logAt_moves
    · exact .refl ..
  · rename_i y3 y4
    exact .refl ..

theorem State.serveDiag_moves {s0 : State} {a1 : _} : Moves [.ledger] s0 (State.serveDiag s0 a1) := by
  have e0 := @State.serveDiag.eq_def
  unfold State.serveDiag
  clear e0
  split
  · rename_i y1 y2
    refine .ite (fun _ => ?_) (fun _ => ?_)
    · exact .step (.refl ..) State.logAt_moves
    · exact .refl ..
  · rename_i y3 y4
    exact .refl ..

theorem State.serveMotion_moves {s0 : State} {a1 : _} : Moves [.ledger, .motion] s0 (State.serveMotion s0 a1) := by
  have e0 := @State.serveMotion.eq_def
  unfold State.serveMotion
  clear e0
  split
  · rename_i y1 y2
    extract_lets +onlyGivenNames x3 x4 x5 x6
    clear_value x3 x4 x5 x6
    extract_lets +onlyGivenNames x7
    have h7 : Moves [.ledger, .motion] s0 x7 := by
      unfold x7
      exact .with_motion (.refl ..)
    clear_value x7
    refine .ite (fun _ => ?_) (fun _ => ?_)
    · exact .step h7 State.log_moves
    · exact h7
  · rename_i y8 y9
    exact .refl ..

theorem State.serveTime_moves {s0 : State} {a1 : _} : Moves [.ledger] s0 (State.serveTime s0 a1) := by
  have e0 := @State.serveTime.eq_def
  unfold State.serveTime
  clear e0
  split
  · rename_i y1 y2
    refine .ite (fun _ => ?_) (fun _ => ?_)
    · exact .step (.refl ..) State.logAt_moves
    · exact .refl ..
  · rename_i y3 y4
    exact .refl ..

theorem State.serveRings_moves {s0 : State} : Moves [.can, .ledger, .motion] s0 s0.serveRings := by
  have e0 := @State.serveRings.eq_def
  unfold State.serveRings
  clear e0
  extract_lets +onlyGivenNames x1 x2 x3
  have h1 : Moves [.can, .ledger, .motion] s0 x1 := Moves.step (Moves.step (.refl ..) (State.drain_moves fun _ _ => State.serveDone_moves) (by decide)) (State.drain_moves fun _ _ => State.serveLoopEvt_moves) (by decide)
  have h2 : Moves [.can, .ledger, .motion] s0 x2 := Moves.step (Moves.step h1 (State.drain_moves fun _ _ => State.serveDiag_moves) (by decide)) (State.drain_moves fun _ _ => State.serveMotion_moves) (by decide)
  have h3 : Moves [.can, .ledger, .motion] s0 x3 := Moves.step (Moves.step h2 (State.drain_moves fun _ _ => State.serveTime_moves) (by decide)) (State.drain_moves fun _ _ => State.serveAcyc_moves) (by decide)
  exact Moves.foldl h3 (fun _ _ h => h.step State.serveRxq_moves (by decide))

theorem State.serveAll_moves {s0 : State} : Moves [.free, .ledger, .eop, .answer, .j16, .rt, .pairs, .frame, .tally, .time, .net, .ecx, .can, .field, .motion, .safety, .twin, .slate, .power, .blocks] s0 (State.serveAll s0) := by
  have e0 := @State.serveAll.eq_def
  unfold State.serveAll
  clear e0
  extract_lets +onlyGivenNames x1
  clear_value x1
  extract_lets +onlyGivenNames x2
  have h2 : Moves [.free, .ledger, .eop, .answer, .j16, .rt, .pairs, .frame, .tally, .time, .net, .ecx, .can, .field, .motion, .safety, .twin, .slate, .power, .blocks] s0 x2 := by
    unfold x2
    exact .with_twin (.refl ..)
  clear_value x2
  extract_lets +onlyGivenNames x3
  have h3 : Moves [.free, .ledger, .eop, .answer, .j16, .rt, .pairs, .frame, .tally, .time, .net, .ecx, .can, .field, .motion, .safety, .twin, .slate, .power, .blocks] s0 x3 := by
    unfold x3
    exact .step h2 State.serveFrames_moves
  clear_value x3
  refine .ite (fun _ => ?_) (fun _ => ?_)
  · exact h3
  · extract_lets +onlyGivenNames x4
    have h4 : Moves [.free, .ledger, .eop, .answer, .j16, .rt, .pairs, .frame, .tally, .time, .net, .ecx, .can, .field, .motion, .safety, .twin, .slate, .power, .blocks] s0 x4 := by
      unfold x4
      exact .step h3 State.drainPort_moves
    clear_value x4
    refine .ite (fun _ => ?_) (fun _ => ?_)
    · exact h4
    · exact .step (.step (.step h4 State.answerAborts_moves) State.serveRings_moves) State.ledgerSlice_moves

theorem State.slice_moves {s0 : State} : Moves [.free, .ledger, .eop, .answer, .j16, .rt, .pairs, .frame, .tally, .time, .net, .ecx, .can, .field, .motion, .safety, .twin, .slate, .power, .blocks] s0 (State.slice s0) := by
  have e0 := @State.slice.eq_def
  unfold State.slice
  clear e0
  refine .ite (fun _ => ?_) (fun _ => ?_)
  · exact .refl ..
  · extract_lets +onlyGivenNames x1
    have h1 : Moves [.free, .ledger, .eop, .answer, .j16, .rt, .pairs, .frame, .tally, .time, .net, .ecx, .can, .field, .motion, .safety, .twin, .slate, .power, .blocks] s0 x1 := by
      unfold x1
      exact .step (.refl ..) State.serveAll_moves
    clear_value x1
    refine .ite (fun _ => ?_) (fun _ => ?_)
    · exact h1
    · exact .step h1 State.servicesCommit_moves

end Sys2Proof.Machine
end

