-- ==== Sys2Proof/Tests/Slice0.lean ====
section
/-!
SUPPORT. Tests/Slice0.lean: the model's own tests: reset, the refusals of well-formedness, single steps against values that the spec
states, and for every statement a state and operands that meet its hypotheses.
-/
namespace Sys2Proof.Machine

-- One test at a time: each evaluates on a stack of its own, and many at once ask for more memory than a check has.
set_option Elab.async false

/-! ## States to test on -/

/-- A Service session over J16. -/
def sess : Session :=
  { id := 7, level := .service, key := [1], port := 4, ip := 0, udp := 0, mac := 0, node := 9, idleMs := 300000, lastReq := 1000000000 }
/-- The module in operation, ACTIVE, in STOP, with its four pairs running and the session open. -/
def up : State :=
  let s := { State.reset with now := 1000000000, power := { State.reset.power with boot := none, resumeAt := some 50000 },
                              eop := { State.reset.eop with sessions := [sess] } }
  let s := (((((s.wr E.Id.FW_RELEASE 0x0302).wr E.Id.MODULE_STATE 1).wr E.Run.RUNTIME_MODE 1).wr E.Pwr.SUP_STATE 0).wr E.Dbl.SERVICES_PAIR 0).wr E.Twin.TWIN_ROLE 0
  (List.range 4).foldl (fun s d => s.wr (E.Dbl.PAIR_STATE d) 1) s
/-- The same in RUN. -/
def running : State := up.wr E.Run.RUNTIME_MODE 0
/-- A member of a twin base. -/
def twin : State := up.wr E.Twin.TWIN_POSITION 1
/-- A standby whose logic and field side see no TOKEN. -/
def standing : State := (twin.wr E.Twin.TWIN_ROLE 1).wr E.Twin.LINK_STATE 0
/-- The session's user. -/
def host : Writer := { level := .service, j16 := true, session := some 7, node := 9 }
/-- The application's dictionary port. -/
def port : Writer := { level := .operator, node := 0x40000 }
/-- Where a host on J16 sends from. -/
def fromHost : Origin := { port := 4, ip := 1, udp := 2, mac := 3 }
/-- A request of the session as a datagram. -/
def gram (code : Nat) (pay : List Byte) : List Byte :=
  let b := eopFrame 0x40 code 0 300 7 1 9 0 pay
  b ++ (hmac [1] b).take 16
/-- The request that it spells. -/
def ask (code : Nat) (pay : List Byte) : EopReq :=
  let b := eopFrame 0x40 code 0 300 7 1 9 0 pay
  { flags := 0x40, service := code, status := 0, transaction := 300, session := 7, sequence := 1, source := 9, dest := 0,
    reserved := 0, payload := pay, tag := (hmac [1] b).take 16, signed := b }
/-- A request outside a session. -/
def gram0 (code : Nat) (pay : List Byte) : List Byte := eopFrame 0 code 0 300 0 0 9 0 pay
/-- The request that it spells. -/
def ask0 (code : Nat) (pay : List Byte) : EopReq :=
  { flags := 0, service := code, status := 0, transaction := 300, session := 0, sequence := 0, source := 9, dest := 0,
    reserved := 0, payload := pay, tag := [], signed := gram0 code pay }
/-- `up` with its session changed. -/
def upWith (x : Session) : State := { up with eop := { up.eop with sessions := [x] } }

/-- What `State.admits` asks of a request `ask`, with its session named. -/
theorem State.admits_ask {s : State} {at_ code : Nat} {pay : List Byte} (x : Session)
    (h : (s.power.boot = none ∧ s.power.bare = false ∧ s.servicesUp = true ∧ s.rd E.Id.NODE_ID_ACTIVE = 0 ∧ pay.length ≤ 1400)
      ∧ (s.session 7 = some x ∧ (s.instant at_ : Int) < x.lastReq + 1000000 * (x.idleMs : Int) ∧ x.key = [1] ∧ x.high = 0 ∧ x.cache = [])
      ∧ s.eop.deferred = [] ∧ (s.ring 29).q = [] ∧ (s.ring 30).waiting = []) : s.admits at_ fromHost code (gram code pay) (ask code pay) := by
  obtain ⟨⟨h1, h2, h3, h4, h5⟩, ⟨g1, g2, g3, g4, g5⟩, k1, k2, k3⟩ := h
  refine ⟨rfl, ⟨h1, h2, h3, .inl rfl⟩, h4.symm, (by decide : 0x40 % 64 = 0), (by decide : bitOf 0x40 7 = false), rfl, rfl, (by decide : (9 : Nat) < 2 ^ 18), h5,
    (by decide : (7 : Nat) ≠ 0), ⟨x, g1, g2, (by decide : bitOf 0x40 6 = true), by rw [g3]; rfl, .inl ?_, by simp [g5]⟩, by simp [k1], k2, k3⟩
  rw [g4]; exact (by decide : 1 ≤ (1 + 2 ^ 32 - 0) % 2 ^ 32 ∧ (1 + 2 ^ 32 - 0) % 2 ^ 32 ≤ 2 ^ 31)

/-! ## Reset and well-formed commands -/

theorem test_reset_pending : State.reset.pending = [] := by decide
/-- R268: TB3 starts at 0, and a start is due. -/
theorem test_reset_instant : State.reset.now = 0 ∧ State.reset.power.boot = some 1 ∧ State.reset.servicesUp = false := by decide +kernel
/-- R80, R474: no session, no TOKEN, no field enable. -/
theorem test_reset_quiet : State.reset.eop.sessions = [] ∧ State.reset.twin.token = false ∧ State.reset.field.enable = false := by decide

theorem test_wf_instant : (Instr.serviceSlice (2 ^ 64)).wf = false ∧ (Instr.serviceSlice (2 ^ 64 - 1)).wf = true := by decide
theorem test_wf_number : (Instr.taskRelease 0 32).wf = false ∧ (Instr.taskRelease 0 31).wf = true := by decide
theorem test_wf_key : (Instr.resetStats 0 host (2 ^ 24)).wf = false ∧ (Instr.resetStats 0 host 0x100200).wf = false
    ∧ (Instr.resetStats 0 host 0x100201).wf = true := by decide
theorem test_wf_word : (Instr.restoreFactory 0 host (2 ^ 32)).wf = false ∧ (Instr.restoreFactory 0 host (2 ^ 32 - 1)).wf = true := by decide
theorem test_wf_signed : (Instr.freqAdjWrite 0 host 0 (2 ^ 31)).wf = false ∧ (Instr.freqAdjWrite 0 host 0 (-(2 ^ 31))).wf = true := by decide
theorem test_wf_value : (Instr.registerWrite 0 host 0x100201 .u8 (.num 256)).wf = false
    ∧ (Instr.registerWrite 0 host 0x100201 .u8 (.bytes [])).wf = false ∧ (Instr.registerWrite 0 host 0x100201 .u8 (.num 255)).wf = true := by decide
theorem test_wf_bytes : okBytes (List.replicate 65536 0) = false ∧ okBytes [0] = true := by decide +kernel

/-! ## Single steps -/

/-- R36, Table ARC-6: ring 24 holds 256 entries; the 257th is refused and counted. -/
theorem test_ring_refuses : ((up.setRing 24 { q := List.replicate 256 (.bytes []) }).push 24 (.bytes [])).2 = false
    ∧ ((up.setRing 24 { q := List.replicate 256 (.bytes []) }).push 24 (.bytes [])).1.rd (E.Ring.RING_REFUSALS 24) = 1 := by decide +kernel
/-- Check value of CRC-32C over "123456789" (R459). -/
theorem test_crc32c : crc32c [0x31, 0x32, 0x33, 0x34, 0x35, 0x36, 0x37, 0x38, 0x39] = 0xE3069283 := by decide +kernel
/-- R86: a task of period 1,000 us and phase 50 us is released at 50 us past each millisecond. -/
theorem test_release : isRelease 1050000 { id := 0, pair := 0, period := 1000, phase := 50, priority := 0, wcet := 100, imageIn := 0, imageOut := 0, errorTask := false, maxSkip := 0 } = true
    ∧ isRelease 1000000 { id := 0, pair := 0, period := 1000, phase := 50, priority := 0, wcet := 100, imageIn := 0, imageOut := 0, errorTask := false, maxSkip := 0 } = false := by decide
/-- R268: an instant is a TIME cycle of 4 ns, and TB3 does not go back. -/
theorem test_instant : up.instant 1000000007 = 1000000004 ∧ up.instant 5 = 1000000000 := by decide +kernel

/-! ## States that meet the hypotheses of the statements, chapters 01 and 02 -/

theorem wit_RingsFollowTheirPolicies :
    (up.fill 24 < ringDepth 24 ∧ ringPolicy 24 ≠ .replace ∧ (up.ring 24).waiting = [])
    ∧ (let s := up.setRing 24 { q := List.replicate 256 (.bytes []) }; ringDepth 24 ≤ s.fill 24 ∧ ringPolicy 24 = .refuse)
    ∧ (let s := up.setRing 40 { q := List.replicate 128 (.bytes []) }; ringDepth 40 ≤ s.fill 40 ∧ ringPolicy 40 = .stall)
    ∧ (let s := up.setRing 35 { q := List.replicate 64 (.bytes []) }; ringDepth 35 ≤ s.fill 35 ∧ ringPolicy 35 = .drop)
    ∧ (let s := up.setRing 38 { q := [.rio 3 [1]] }; ringPolicy 38 = .replace
        ∧ (s.ring 38).q.any (fun x => entryStation x == entryStation (.rio 3 [2])) = true)
    ∧ (let s := up.setRing 24 { q := [.bytes []] }; (s.ring 24).q = .bytes [] :: [] ∧ (s.ring 24).waiting = []) := by decide +kernel

theorem wit_StepOnAnEmptyQueueIdles : State.reset.pending = [] := by decide

theorem wit_EveryStepTakesOneCommand : ({ up with pending := [.serviceSlice 0] } : State).pending = .serviceSlice 0 :: [] := by rfl

theorem wit_EveryStepKeepsTheStateSound : State.reset.Sound ∧ ∃ t, step State.reset = .next t := by
  refine ⟨⟨by unfold State.onCycle; decide, fun k => Nat.zero_le _, by unfold State.canonical; decide⟩, State.reset, rfl⟩

/-- READ and DESCRIBE of SESSION_IDLE_TIMEOUT, within a session. -/
theorem wit_DictionaryServicesOfASession_read :
    ∃ r, eopParse (gram 0x01 (beBytes 3 E.Auth.SESSION_IDLE_TIMEOUT.key ++ [0])) = some (ask 0x01 (beBytes 3 E.Auth.SESSION_IDLE_TIMEOUT.key ++ [0]))
    ∧ up.admits 0 fromHost 0x01 (gram 0x01 (beBytes 3 E.Auth.SESSION_IDLE_TIMEOUT.key ++ [0])) (ask 0x01 (beBytes 3 E.Auth.SESSION_IDLE_TIMEOUT.key ++ [0]))
    ∧ (up.entryAt E.Auth.SESSION_IDLE_TIMEOUT.key).toOption = some r ∧ r.1.acc ≠ .wo ∧ up.invalidEntry E.Auth.SESSION_IDLE_TIMEOUT.key = false
    ∧ (valueBe r.1.ty ((up.admitted 0 fromHost (gram 0x01 (beBytes 3 E.Auth.SESSION_IDLE_TIMEOUT.key ++ [0])) (ask 0x01 (beBytes 3 E.Auth.SESSION_IDLE_TIMEOUT.key ++ [0]))).valueOf
        (.session 7) E.Auth.SESSION_IDLE_TIMEOUT.key r.2)).length ≤ 1024 :=
  ⟨_, by rfl, State.admits_ask sess (by decide +kernel), by rfl, by decide +kernel, by simp [State.invalidEntry, show up.eop.invalid = [] by decide +kernel], by decide +kernel⟩

/-- The write of SESSION_IDLE_TIMEOUT at both ends of its range. -/
theorem wit_DictionaryServicesOfASession_write :
    (∀ n ∈ [5000, 3600000], up.admits 0 fromHost 0x02
        (gram 0x02 (beBytes 3 E.Auth.SESSION_IDLE_TIMEOUT.key ++ beBytes 1 (tyCode .u32) ++ beBytes 2 4 ++ beBytes 4 n))
        (ask 0x02 (beBytes 3 E.Auth.SESSION_IDLE_TIMEOUT.key ++ beBytes 1 (tyCode .u32) ++ beBytes 2 4 ++ beBytes 4 n)))
    ∧ up.standby = false ∧ up.twinBase = false ∧ up.session 7 = some sess ∧ 2 ≤ levelNum sess.level := by
  refine ⟨?_, by decide +kernel⟩
  intro n hn
  simp only [List.mem_cons, List.not_mem_nil, or_false] at hn
  rcases hn with rfl | rfl <;> exact State.admits_ask sess (by decide +kernel)

/-- The session with a read transfer of 1,500 bytes. -/
def reading : Session :=
  { sess with transfer := some { write := false, key := 0x100101, ty := .octets, total := 1500, data := List.replicate 1500 1, lastReq := 1000000000 } }
/-- The session with a group open. -/
def grouping : Session := { sess with group := some { id := 5, lastReq := 1000000000 } }

/-- The second segment of a read transfer of 1,500 bytes. -/
theorem wit_DictionaryServicesOfASession_part :
    eopParse (gram 0x11 [0, 1, 0, 0]) = some (ask 0x11 [0, 1, 0, 0])
    ∧ (upWith reading).admits 0 fromHost 0x11 (gram 0x11 [0, 1, 0, 0]) (ask 0x11 [0, 1, 0, 0])
    ∧ (((upWith reading).transferOf (.session 7)).1 = reading.transfer
      ∧ reading.transfer.all (fun x => !x.write && decide (((upWith reading).instant 0 : Int) < x.lastReq + 5000000000) && decide (1 < segCount x.total)) = true
      ∧ reading.transfer.isSome = true) :=
  ⟨by rfl, State.admits_ask reading (by decide +kernel), by decide +kernel⟩

/-- The session with a write transfer of 1,500 bytes. -/
def writing : Session :=
  { sess with transfer := some { write := true, key := 0x100101, ty := .octets, total := 1500, lastReq := 1000000000 } }
/-- READ_MULTI of `n` addresses. -/
def multi (n : Nat) : List Byte := beBytes 4 (0x01000000 * n) ++ (List.replicate n (beBytes 3 E.Id.MODULE_STATE.key ++ [0])).flatten

/-- READ_MULTI of 1 and of 32 addresses, SEG_READ_START, SEG_WRITE_PART and SEG_ABORT. -/
theorem wit_DictionaryServicesOfASession_others :
    (∀ n ∈ [1, 32], up.admits 0 fromHost 0x03 (gram 0x03 (multi n)) (ask 0x03 (multi n)) ∧ beAt (multi n) 0 4 = 0x01000000 * n
      ∧ (multi n).length = 4 + 4 * n ∧ ∀ i < n, beAt (multi n) (7 + 4 * i) 1 = 0)
    ∧ up.admits 0 fromHost 0x10 (gram 0x10 (beBytes 3 E.Id.MODULE_STATE.key ++ [0])) (ask 0x10 (beBytes 3 E.Id.MODULE_STATE.key ++ [0]))
    ∧ (upWith writing).admits 0 fromHost 0x13 (gram 0x13 ([0, 0, 4, 0] ++ List.replicate 1024 1)) (ask 0x13 ([0, 0, 4, 0] ++ List.replicate 1024 1))
    ∧ ((upWith writing).transferOf (.session 7)).1 = writing.transfer
    ∧ (upWith writing).admits 0 fromHost 0x14 (gram 0x14 []) (ask 0x14 []) := by
  refine ⟨?_, State.admits_ask sess (by decide +kernel), State.admits_ask writing (by decide +kernel), by decide +kernel,
    State.admits_ask writing (by decide +kernel)⟩
  intro n hn
  simp only [List.mem_cons, List.not_mem_nil, or_false] at hn
  rcases hn with rfl | rfl <;> exact ⟨State.admits_ask sess (by decide +kernel), by decide +kernel⟩

/-- GROUP_BEGIN with no group open, and GROUP_DISCARD of the open one. -/
theorem wit_GroupsAndSubscriptionsOfASession :
    (eopParse (gram 0x20 []) = some (ask 0x20 []) ∧ up.admits 0 fromHost 0x20 (gram 0x20 []) (ask 0x20 []) ∧ up.session 7 = some sess
      ∧ 1 ≤ levelNum sess.level ∧ sess.group = none)
    ∧ ((upWith grouping).admits 0 fromHost 0x23 (gram 0x23 [0, 5, 0, 0]) (ask 0x23 [0, 5, 0, 0])
       ∧ ((upWith grouping).instant 0 : Int) < 1000000000 + 10000000000
       ∧ (upWith grouping).admits 0 fromHost 0x22 (gram 0x22 [0, 5, 0, 0]) (ask 0x22 [0, 5, 0, 0]))
    ∧ up.admits 0 fromHost 0x31 (gram 0x31 [255, 255]) (ask 0x31 [255, 255]) ∧ up.admits 0 fromHost 0x43 (gram 0x43 []) (ask 0x43 [])
    ∧ up.admits 0 fromHost 0x42 (gram 0x42 []) (ask 0x42 []) :=
  ⟨⟨by rfl, State.admits_ask sess (by decide +kernel), by rfl, by decide, by rfl⟩,
   ⟨State.admits_ask grouping (by decide +kernel), by decide +kernel, State.admits_ask grouping (by decide +kernel)⟩,
   State.admits_ask sess (by decide +kernel), State.admits_ask sess (by decide +kernel), State.admits_ask sess (by decide +kernel)⟩

/-- LOGIN_CHALLENGE at levels 0 and 3; UNQUENCH of filter 15; IDENTIFY. -/
theorem wit_LoginsQuenchAndIdentify :
    (∀ l ∈ [0, 3], eopParse (gram0 0x40 ([l, 0, 0, 0] ++ List.replicate 16 7)) = some (ask0 0x40 ([l, 0, 0, 0] ++ List.replicate 16 7))
      ∧ up.admitsPlain fromHost 0x40 (ask0 0x40 ([l, 0, 0, 0] ++ List.replicate 16 7))) ∧ (up.advance 0).blocked 1 = false
    ∧ (let s := { up with eop := { up.eop with quench := up.eop.quench.put 15 { session := 7, until_ := none, node := 9 } } }
       s.admits 0 fromHost 0x51 (gram 0x51 [15]) (ask 0x51 [15]) ∧ (s.eop.quench.find 15).isSome = true)
    ∧ up.admits 0 fromHost 0x60 (gram 0x60 []) (ask 0x60 []) ∧ up.eop.identified = [] := by
  refine ⟨?_, by decide +kernel, ⟨State.admits_ask sess (by decide +kernel), by decide +kernel⟩, State.admits_ask sess (by decide +kernel), by decide +kernel⟩
  intro l hl
  simp only [List.mem_cons, List.not_mem_nil, or_false] at hl
  unfold State.admitsPlain State.answersEop
  rcases hl with rfl | rfl <;> exact ⟨by rfl, by decide +kernel⟩

theorem wit_TimeoutsOfTheObjectProtocol :
    (let f : Transfer := { write := true, key := 0x100101, ty := .octets, total := 9, lastReq := 1000000000 }
     let s := upWith { sess with transfer := some f }
     s.session 7 = some { sess with transfer := some f } ∧ (f.lastReq + 5000000000 : Int) ≤ (s.instant 6000000000 : Int))
    ∧ (let g : Group := { id := 5, lastReq := 1000000000 }
       (g.lastReq + 10000000000 : Int) ≤ ((upWith { sess with group := some g }).instant 11000000000 : Int))
    ∧ sess.lastReq + 1000000 * (sess.idleMs : Int) ≤ (up.instant 301000000000 : Int)
    ∧ (let s := { up with eop := { up.eop with quench := up.eop.quench.put 15 { session := 7, until_ := some 2000000000, node := 9 } } }
       s.eop.quench.find 15 = some { session := 7, until_ := some 2000000000, node := 9 } ∧ 2000000000 ≤ s.instant 2000000000)
    ∧ (let u : Subscription := { id := 3, key := E.Id.MODULE_STATE.key, mode := 0, periodMs := 10, deadband := 0, lastSample := 1000000000,
                                 lastNotify := 1000000000, port := 4, ip := 0, udp := 0 }
       let s := upWith { sess with subs := [u] }
       (s.advance 1010000000).servicesUp = true ∧ u.lastSample + 1000000 * (u.periodMs : Int) ≤ (s.instant 1010000000 : Int)
       ∧ ((s.advance 1010000000).readEntry (.session 7) u.key).1 = 0) := by decide +kernel

theorem wit_KeysAreWrittenByAServiceSessionOfJ16Alone :
    (up.advance 0).servicesUp = true ∧ (up.advance 0).writerOk host = true ∧ host.j16 = true ∧ host.level = .service
    ∧ host.session.isSome = true ∧ (List.replicate 32 (1 : Byte)).length = 32 ∧ (up.advance 0).writerOk port = true ∧ port.j16 = false := by decide +kernel

theorem wit_WritesAreCheckedBeforeTheyAreStored :
    up.accepts 0 host E.Auth.SESSION_IDLE_TIMEOUT.key .u32 (.num 5000) ∧ up.accepts 0 host E.Auth.SESSION_IDLE_TIMEOUT.key .u32 (.num 3600000)
    ∧ up.accepts 0 host E.Slate.SLATE_MODE.key .u8 (.num 1) ∧ State.reset.servicesUp = false
    ∧ ((up.advance 0).servicesUp = true ∧ (up.advance 0).writerOk { host with session := some 8 } = false)
    ∧ (up.advance 0).chkForm host E.Id.MODULE_STATE.key (some .u8) (some (.num 1)) ≠ 0
    ∧ (up.advance 0).chkWrite host E.Auth.SESSION_IDLE_TIMEOUT.key (some .u32) (some (.num 4999)) ≠ 0
    ∧ up.accepts 0 host (E.Ring.RING_RESET_HWM 47).key .bool (.num 1) ∧ up.accepts 0 host (E.Ax.RESET_STATS 11).key .bool (.num 1)
    ∧ up.power.supplied = true := by unfold State.accepts; decide +kernel

theorem wit_ServiceSlicesServeTheRings :
    ((up.advance 0).servicesUp = true ∧ (∀ k ∈ [26, 27, 29, 41, 43, 45] ++ portRings, (up.ring k).waiting = []))
    ∧ (State.reset.advance 0).servicesUp = false ∧ (up.power.boot = none ∧ (List.replicate 64 (1 : Byte)).length = 64 ∧ up.fill 46 < 64)
    ∧ ([] : List Byte).length ≠ 64 := by decide +kernel

/-! ## Chapters 03 and 04 -/

/-- A task of pair D0, every 1,000 us at 50 us. -/
def tk : TaskAttr :=
  { id := 0, pair := 0, period := 1000, phase := 50, priority := 1, wcet := 100, imageIn := 100, imageOut := 100, errorTask := false, maxSkip := 0 }
/-- A frozen snapshot. -/
def snap0 : Snapshot :=
  { release := 1000050000, tb0 := 0, tb0State := 0, di := 0, ai := {}, rio := {}, loops := {}, solves := {}, axes := {} }
/-- `running` with the task in the given turn. -/
def tasked (u : Option Turn) : State := running.setTask 0 { attr := some tk, turn := u }
/-- A turn that has started. -/
def began : Turn := { snap := snap0, started := true }

theorem wit_ReleasesOfTasks :
    (((tasked none).task 0).attr = some tk ∧ tk.period ≠ 0 ∧ (tasked none).instant 1000050000 % (1000 * tk.period) = 1000 * tk.phase
      ∧ (tasked none).rd E.Run.RUNTIME_MODE = 0 ∧ (tasked none).rd E.Run.STOP_PENDING = 0 ∧ ((tasked none).advance 1000050000).resumed = true
      ∧ (tasked none).active = true ∧ (tasked none).rd (E.Dbl.PAIR_STATE tk.pair) = 1 ∧ ((tasked none).task 0).turn = none)
    ∧ (tasked none).instant 1000050004 % (1000 * tk.period) ≠ 1000 * tk.phase
    ∧ up.archiveCheck { release := 0x0302, id := 5, tasks := [tk] } = 0 ∧ isRelease 1000050000 tk = true := by decide +kernel

theorem wit_ModesOfTheRuntime :
    (let s := { up with rt := { up.rt with archive := some { release := 0x0302, id := 5 } } }
     s.accepts 0 host E.Run.RUNTIME_COMMAND.key .u8 (.num 1))
    ∧ (∀ n ∈ [2, 3], running.accepts 0 host E.Run.RUNTIME_COMMAND.key .u8 (.num n)) ∧ running.anyTurn = false
    ∧ (running.wr E.Run.HOLD_PERMIT 1).accepts 0 host E.Run.RUNTIME_COMMAND.key .u8 (.num 4)
    ∧ ((tasked (some began)).accepts 0 host E.Run.RUNTIME_COMMAND.key .u8 (.num 2) ∧ (tasked (some began)).anyTurn = true)
    ∧ (let s := ((tasked (some { began with held := true })).wr E.Run.RUNTIME_MODE 2).wr E.Run.HOLD_TASK 0
       s.accepts 0 host E.Run.RUNTIME_COMMAND.key .u8 (.num 5) ∧ s.accepts 0 host E.Run.RUNTIME_COMMAND.key .u8 (.num 6)
       ∧ (s.task (s.rd E.Run.HOLD_TASK)).turn = some { began with held := true } ∧ s.rd E.Run.HOLD_TASK ≠ 0xFF)
    ∧ up.accepts 0 host E.Run.HOLD_PERMIT.key .bool (.num 1)
    ∧ (let s := { up with rt := { up.rt with archive := some { release := 0x0302, id := 5 } } }
       s.accepts 0 host E.Run.RETAIN_RESET.key .bool (.num 1) ∧ s.rt.archive.isSome = true)
    ∧ ((tasked (some began)).turnMayRun 0 tk began = true ∧ (tasked (some began)).rd E.Run.STOP_PENDING = 0)
    ∧ (let s := { up.wr E.Run.RUNTIME_MODE 2 with rt := { up.rt with holdSince := some 1000000000 } }
       s.rd E.Run.RUNTIME_MODE = 2 ∧ s.rt.holdSince = some 1000000000
       ∧ (1000000000 : Int) + 1000000 * (s.rd E.Run.HOLD_LIMIT : Int) ≤ (s.instant (1000000000 + 1000000 * s.rd E.Run.HOLD_LIMIT) : Int)) := by
  unfold State.accepts; decide +kernel

theorem wit_TurnsAreReleasedStartedAndCommitted :
    (let s := tasked none
     isRelease (s.instant 1000050000) tk = true ∧ (s.advance 1000050000).releasing = true ∧ (s.task 0).turn = none)
    ∧ (let s := tasked (some began)
       isRelease (s.instant 1001050000) tk = true ∧ (s.task 0).turn = some began ∧ (s.wr (E.Task.MAX_SKIP 0) 1).rd (E.Task.MAX_SKIP 0) = 1
       ∧ began.skips + 1 ≤ 1 ∧ ¬ ({ began with skips := 1 } : Turn).skips + 1 ≤ 1)
    ∧ (let u : Turn := { snap := snap0 }
       ((tasked (some u)).task 0).turn = some u ∧ u.started = false ∧ (tasked (some u)).turnMayRun 0 tk u = true)
    ∧ (tasked (some began)).turnMayRun 0 tk began = true
    ∧ ((tasked none).task 0).turn.any (fun u => u.started && !u.held) = false
    ∧ (up.rd E.Run.RUNTIME_MODE = 1 ∧ up.active = true ∧ up.archiveCheck { release := 0x0302, id := 5, tasks := [tk] } = 0
       ∧ up.archiveCheck { release := 0x0302, id := 5, signed := false } ≠ 0) := by decide +kernel

theorem wit_ForcesOfImagePoints :
    up.accepts 0 host (E.Force.FORCE_POINT 239).key .u32 (.num 0x01000000)
    ∧ (let s := up.wr (E.Force.FORCE_POINT 239) 0x01000000
       s.accepts 0 host (E.Force.FORCE_VALUE 239).key .f64 (.num 0) ∧ s.accepts 0 host (E.Force.FORCE_ACTIVE 239).key .bool (.num 0))
    ∧ up.accepts 0 host E.Force.FORCE_CLEAR_ALL.key .bool (.num 1)
    ∧ ((up.advance 0).chkForm host (E.Force.FORCE_POINT 0).key (some .u32) (some (.num 0x09000000)) = 0 ∧ forceable 0x09000000 = false
       ∧ up.rd (E.Force.FORCE_ACTIVE 0) = 0) := by unfold State.accepts; decide +kernel

theorem wit_OnlineChangeOfTheArchive :
    up.accepts 0 host E.Online.STAGE_DATA.key .octets (.bytes [1])
    ∧ (let s := { running with rt := { running.rt with armed := some ({ release := 0x0302, id := 5 }, 2000000000) } }
       s.rt.armed = some ({ release := 0x0302, id := 5 }, 2000000000) ∧ s.instant 1000050000 % 50000 = 0 ∧ (s.instant 1000050000 : Int) ≤ 2000000000
       ∧ s.anyTurn = false ∧ (s.advance 1000050000).noneReleased = true ∧ s.active = true ∧ (s.advance 1000050000).resumed = true
       ∧ (2000000000 : Int) ≤ (s.instant 2000000000 : Int)) := by unfold State.accepts; decide +kernel

theorem wit_MismatchesRestartAndFailPairs :
    ((0 : BitVec 214) ≠ 1 ∧ (∀ d < 4, up.rd (E.Dbl.PAIR_STATE d) = 1 ∧ (up.pairs.fetch {} d).stamps.length < 2))
    ∧ (let s := { up with pairs := up.pairs.put 3 { stamps := [1000000000, 990000000] } }
       2 ≤ (s.pairs.fetch {} 3).stamps.length ∧ (s.instant 0 : Int) - (s.pairs.fetch {} 3).stamps.getD 1 0 ≤ 10000000000
       ∧ s.twinBase = false ∧ s.inSafe = false)
    ∧ (let s := { up.wr (E.Dbl.PAIR_STATE 3) 2 with pairs := up.pairs.put 3 { detected := 1000000000 } }
       s.rd (E.Dbl.PAIR_STATE 3) = 2 ∧ (s.pairs.fetch {} 3).castling = false ∧ (s.instant 1001200000 : Int) ≤ (s.pairs.fetch {} 3).detected + 1200000
       ∧ (s.pairs.fetch {} 3).detected + 1200000 < (s.instant 1001200004 : Int)) := by decide +kernel

theorem wit_InjectionTestsOfPairs :
    (∀ d ∈ [1, 3], up.accepts 0 host E.Dbl.INJECT_TEST_RUN.key .u8 (.num d))
    ∧ (let s := up.wr (E.Dbl.PAIR_STATE 3) 0; s.rd (E.Dbl.PAIR_STATE 3) = 0 ∧ s.standby = false ∧ s.power.boot = none)
    ∧ ((running.advance 0).chkForm host E.Dbl.INJECT_TEST_RUN.key (some .u8) (some (.num 1)) = 0 ∧ running.stopMet = false
       ∧ inRange (.u 1 3 1) .u8 (.num 1) = true) := by unfold State.accepts; decide +kernel

/-! ## Chapters 05 to 08 -/

/-- A request that a task issued. -/
def rq (id : Nat) : SolveReq :=
  { solveId := id, source := 0, deadline := 2000000000, cold := true, issued := 1000000000, taken := 1000000000, hi := true, order := 0 }
/-- A resident board. -/
def board : Board := { st := 2, source := 1 }
/-- The same with a solve running on bead 0. -/
def solving (aborts : Nat) : Board := { board with run := some { req := rq 1, home := 0, at_ := 1000000000, x0 := [], z0 := [], y0 := [], startFlags := 0, aborts := aborts } }
/-- `up` with an entry at the head of ring `k`. -/
def head (s : State) (k : Nat) (e : RingEntry) : State := s.setRing k { q := [e] }

theorem wit_BoardsAreLoadedReplacedAndUnloaded :
    up.accepts 0 host E.Frame.LOAD_DATA.key .octets (.bytes [1]) ∧ up.accepts 0 host E.Frame.LOAD_CLEAR.key .bool (.num 1)
    ∧ (let s := (up.wr E.Frame.LOAD_BOARD 255).wr E.Frame.LOAD_LENGTH 4
       s.accepts 0 host E.Frame.LOAD_COMMIT.key .u32 (.num 0) ∧ descResult (s.frame.staging.readList 0 (s.rd E.Frame.LOAD_LENGTH)) none ≠ 0)
    ∧ (let s := up.setBoard 255 board
       s.accepts 0 host E.Frame.UNLOAD_BOARD.key .u8 (.num 255))
    ∧ (let s := up.setBoard 255 { board with replace := some (some [1]) }
       (s.board 255).replace = some (some [1]) ∧ inProgress (s.board 255) = false)
    ∧ (let s := up.setBoard 255 { board with replace := some none }; (s.board 255).replace = some none ∧ inProgress (s.board 255) = false)
    ∧ inProgress ((up.setBoard 3 (solving 0)).board 3) = true
    ∧ (let s := up.setBoard 3 { st := 1, source := 0, loading := some [1] }
       (s.board 3).loading = some [1] ∧ (s.board 3).st = 1 ∧ (s.board 3).source = 0
       ∧ s.frame.boards.cells.all (fun c => decide (3 ≤ c.1) || c.2.st != 1) = true ∧ descResult [1] (some s.taskIds) ≠ 0) := by
  unfold State.accepts; decide +kernel

theorem wit_BatchesOfMovesAreTakenWhole :
    (up.setBoard 3 { board with desc := { writer := 0xFE } }).accepts 0 host (E.Board.MOVE_BATCH 3).key .octets (.bytes (List.replicate 32 0))
    ∧ (let s := head up 24 (.submit { item := .batch 3 [1], source := 0, solveId := 0, issued := 0 })
       (s.ring 24).q = .submit { item := .batch 3 [1], source := 0, solveId := 0, issued := 0 } :: [] ∧ s.rd E.Pwr.SUP_STATE ≠ 3
       ∧ s.frame.pauseHi = none ∧ (s.board 3).queue.length < 16 ∧ (s.ring 24).waiting = [])
    ∧ ((judgeBatch board 3 0 [1]).toOption = none ∧ board.st ≠ 0) := by unfold State.accepts; decide +kernel

theorem wit_RequestsAreIssuedAndTaken :
    (up.setBoard 3 board).accepts 0 host (E.Solve.SOLVE_REQUEST 3).key .u32 (.num 1000)
    ∧ (up.setBoard 3 board).accepts 0 host (E.Solve.SOLVE_ABORT 3).key .u32 (.num 1)
    ∧ ((up.setBoard 3 board).accepts 0 host (E.Solve.HOME 3).key .u8 (.num 63) ∧ ((up.setBoard 3 board).board 3).desc.rod = false
       ∧ (up.setBoard 3 board).offline 63 = false)
    ∧ (let s := (head up 24 (.submit { item := .solve 3 2000000000 true, source := 0, solveId := 1, issued := 0 })).setBoard 3 board
       (s.ring 24).q = [.submit { item := .solve 3 2000000000 true, source := 0, solveId := 1, issued := 0 }]
       ∧ waitingReq (s.board 3) = none ∧ (s.board 3).st = 2 ∧ (s.wr (E.Solve.HOME_ACTIVE 3) 0).rd (E.Solve.HOME_ACTIVE 3) ≠ 0xFF
       ∧ (s.instant 0 : Int) < 2000000000 ∧ (s.board 3).rejectPending = false ∧ s.frame.pauseHi = none)
    ∧ (let s := (head up 24 (.submit { item := .abort 3 1, source := 0, solveId := 1, issued := 0 })).setBoard 3 { board with queue := [.req (rq 1)] }
       waitingReq (s.board 3) = some (rq 1) ∧ (rq 1).solveId = 1 ∧ (s.board 3).queue.length < 16) := by unfold State.accepts; decide +kernel

theorem wit_SolvesAreDispatchedAndEndOnce :
    (let s := (up.wr (E.Solve.HOME_ACTIVE 3) 0).setBoard 3 { board with queue := [.req (rq 1)] }
     s.rd E.Pwr.SUP_STATE ≠ 3 ∧ (s.ring 26).waiting = [] ∧ firstReq (s.readyOn 0) = some (3, rq 1) ∧ s.beadFree 0 = true
       ∧ s.readyOn 64 = [] ∧ s.frame.reserved.find 0 = none ∧ (s.board 3).queue = [.req (rq 1)] ∧ (s.board 3).run = none
       ∧ (s.board 3).loading = none ∧ (s.instant 0 : Int) < (rq 1).deadline ∧ (s.board 3).rejectPending = false)
    ∧ (let s := up.setBoard 3 (solving 0)
       (s.board 3).run = (solving 0).run ∧ (solving 0).run.any (fun u => u.home != 0xFF) = true
       ∧ 2 * (s.instant 0 : Int) + solveCross < 2 * (rq 1).deadline ∧ (rq 1).deadline ≤ (s.instant 2000000000 : Int))
    ∧ ((up.setBoard 3 (solving 1)).board 3).run.any (fun u => u.aborts != 0) = true
    ∧ (let s := up.setRing 26 { waiting := [.bytes []] }; (s.ring 26).waiting = .bytes [] :: [] ∧ s.fill 26 < 512) := by decide +kernel

theorem wit_FaultsOfBeadsAndOfTheFrameStore :
    (let s := up.setBoard 3 (solving 0)
     (s.board 3).run.any (fun u => (homeBeads u.home).contains 0) = true
       ∧ s.frame.boards.cells.all (fun c => c.1 == 3 || !c.2.run.any (fun v => (homeBeads v.home).contains 0)) = true
       ∧ rising s.frame.boards.cells = true ∧ (s.board 3).st = 2) := by decide +kernel

/-- A loop of one stage. -/
def lp : LoopDef :=
  { id := 511, pipeline := 3, order := 0, period := 1, phase := 0, stages := [{ code := 0x0D, a := some .zero, b := none, c := none }],
    presetStage := none, manPoint := 0, inputs := [], spSource := none, cascadeInner := none, out0 := .none, out1 := .none,
    name := [], bankA := [], bankB := [] }

theorem wit_FramesCommitAndSampleTheLoops :
    (let s := running.setLoop 511 { attr := some lp }
     s.instant 1000050000 % 50000 = 0 ∧ s.resumed = true ∧ s.active = true ∧ s.tally.frameAt = none ∧ (s.loopSt 511).attr = some lp
       ∧ (∀ p < 4, s.releasedLoops p (s.instant 1000050000 / 50000) = (if p = lp.pipeline then [lp] else [])) ∧ readsField lp = false
       ∧ 16 * loopSlots lp + 0 ≤ 20000 ∧ 20000 < 16 * loopSlots lp + 20000 ∧ s.instant 1000050004 % 50000 ≠ 0)
    ∧ up.tally.loops.cells.all (fun x => x.2.dirty.all (fun c => decide (0x4000 ≤ c.1 / 256 ∧ c.1 / 256 < 0x4200))) = true := by
  have h : (running.setLoop 511 { attr := some lp }).tally.loops.vals.filterMap (·.attr) = [lp] := by decide +kernel
  refine ⟨⟨?_, ?_, ?_, ?_, ?_, ?_, ?_, ?_⟩, ?_⟩
  case refine_6 =>
    intro p hp
    simp only [State.releasedLoops, h]
    rcases (by omega : p = 0 ∨ p = 1 ∨ p = 2 ∨ p = 3) with rfl | rfl | rfl | rfl <;> simp [lp, Nat.mod_one]
  all_goals decide +kernel

theorem wit_LoopsAreSetByWrites :
    (let s := running.setLoop 511 { attr := some lp }
     (∀ b < 2, s.accepts 0 host (E.Loop.BANK_SELECT 511).key .u8 (.num b)) ∧ (∀ m < 2, s.accepts 0 host (E.Loop.LOOP_MODE 511).key .u8 (.num m))
       ∧ (s.loopDef 511).all (fun d => d.spSource.isNone) = true ∧ (s.advance 0).servicesUp = true ∧ (s.advance 0).writerOk host = true
       ∧ ((s.wr (E.Loop.LOOP_MODE 511) 0).accepts 0 host (E.Loop.OUT_MAN 511).key .f32 (.num 0))
       ∧ s.accepts 0 host ((0x4400 + 2 * 511 + 1) * 256 + 0xF1) .bool (.num 1))
    ∧ (∀ n ∈ [2, 16], up.accepts 0 host (E.Tally.POINTS 127).key .u8 (.num n)) ∧ up.accepts 0 host (E.Tally.X 127 15).key .f32 (.num 0x3F800000)
    ∧ up.accepts 0 host (E.Tally.Y 127 15).key .f32 (.num 0x3F800000) := by unfold State.accepts; decide +kernel

/-- A message of a master's portIdentity. -/
def msg : PtpMsg := { domain := 0, source := 5 * 65536 + 1, seq := 1 }
/-- The Announce by which a base selected that master. -/
def ann : Announce :=
  { domain := 0, source := 5 * 65536 + 1, priority1 := 1, clockClass := 6, accuracy := 0x20, variance := 0, priority2 := 1, gm := 5,
    stepsRemoved := 0, utcOffset := 37, leap61 := false, leap59 := false }
/-- Base TB0 in role ORDINARY with that master. -/
def slave : State := ((up.wr (E.Ptp.PTP_ROLE 0) 1).wr (E.Ptp.PTP_DOMAIN 0) 0).setTb 0 { master := some ann, announceAt := 1000000000 }

theorem wit_BasesAreAdjustedByWrites :
    (∀ f ∈ [(-500000000 : Int), 500000000], ∀ b < 3, (up.wr (E.Ptp.PTP_ROLE b) 0).accepts 0 host (E.Base.FREQ_ADJ b).key .i32 (.num (natOf 32 f)))
    ∧ (∀ v ∈ [(-1000000000000000 : Int), 1000000000000000], (up.wr (E.Ptp.PTP_ROLE 2) 0).accepts 0 host (E.Base.STEP 2).key .u64 (.num (natOf 64 v)))
    ∧ (up.wr (E.Ptp.PTP_ROLE 2) 0).accepts 0 host (E.Base.SET 2).key .time96 (.num 0)
    ∧ (up.wr (E.Ptp.PTP_ROLE 1) 0).accepts 0 host (E.Ptp.PTP_ROLE 1).key .u8 (.num 4)
    ∧ (twin.rd E.Twin.TWIN_POSITION = 1 ∧ up.rd E.Twin.TWIN_POSITION = 0) := by unfold State.accepts; decide +kernel

theorem wit_SyncsSteerTheServo :
    (portOf 0 0 = true ∧ msg.unsupported = false ∧ msg.domain = slave.rd (E.Ptp.PTP_DOMAIN 0) ∧ slave.follows 0 = true ∧ slave.fromMaster 0 msg = true)
    ∧ (let s := slave.setTb 0 { master := some ann, pathA := { pending := some (1, 0, 1000000000) } }
       ((s.tb 0).path (portPath 0)).pending = some (1, 0, 1000000000) ∧ (s.instant 0 : Int) ≤ 1000000000 + s.syncInterval 0)
    ∧ (let s := slave.wr (E.Base.SERVO_STATE 0) 2
       s.rd (E.Base.SERVO_STATE 0) = 2 ∧ s.rd (E.Ptp.PATH_ACTIVE 0) < 2 ∧ ((s.tb 0).path (s.rd (E.Ptp.PATH_ACTIVE 0))).lastSync = none) := by decide +kernel

theorem wit_MastersAreSelectedAndLost :
    (ann.domain = slave.rd (E.Ptp.PTP_DOMAIN 0) ∧ slave.role 0 = 1 ∧ (slave.tb 0).master = some ann ∧ sameClock ann.source ann.source = true)
    ∧ ({ ann with domain := 9 } : Announce).domain ≠ slave.rd (E.Ptp.PTP_DOMAIN 0)
    ∧ (let a : Announce := { ann with source := 9 * 65536, priority1 := 200, gm := 9 }; sameClock ann.source a.source = false ∧ betterMaster a ann = false)
    ∧ (slave.tb 0).announceAt + slave.announceTimeout 0 ≤ slave.instant (1000000000 + slave.announceTimeout 0)
    ∧ (let s := (slave.wr (E.Base.SERVO_STATE 0) 4).wr (E.Port.LINK_STATE 0) 2
       s.rd (E.Base.SERVO_STATE 0) = 4 ∧ s.rd (E.Port.LINK_STATE 0) ≠ 0 ∧ s.rd E.Twin.TWIN_ROLE ≠ 1) := by decide +kernel

theorem wit_PtpMessagesAreSentAndMeasured :
    (let s := slave.wr (E.Port.LINK_STATE 0) 2
     s.rd (E.Ptp.DELAY_MECH 0) = 0 ∧ (s.tb 0).master.isSome = true ∧ s.rd (E.Port.LINK_STATE 0) ≠ 0)
    ∧ (let s := slave.wr (E.Ptp.DELAY_MECH 0) 1; s.role 0 ≠ 0 ∧ s.rd (E.Ptp.DELAY_MECH 0) = 1)
    ∧ (tcForwards .sync = true ∧ up.rd (E.Port.LINK_STATE 3) = 0 ∧ (2 : Nat) ≠ up.rd (E.Port.LINK_STATE 3)
       ∧ linkAllowed (up.rd (E.Port.SPEED_MODE 3)) 2 = true ∧ up.on (E.Port.PORT_ENABLE 3) = true ∧ up.power.reduced = false) := by decide +kernel

/-! ## Chapters 09 to 12 -/

/-- `up` with its links at 1,000 Mbit/s. -/
def linked : State := (List.range 4).foldl (fun s p => s.wr (E.Port.LINK_STATE p) 2)
  { up with od := (up.od.put E.Net.PLANT_MAC.key (.bytes (beBytes 6 0x020000000009))).put E.Net.RING_MAC.key (.bytes (beBytes 6 0x02000000000A)) }
/-- A plain frame of 64 bytes. -/
def eth : EthFrame := { len := 64, dst := 0xFFFFFFFFFFFF, src := 0x020000000001, ether := 0x0800 }

theorem wit_FramesPassTheIngressPipeline :
    (∀ p < 4, linked.admitsFrame 0 p eth) ∧ (∀ p < 4, linked.quenched p eth = none) ∧ classOf eth = 0 ∧ classOf eth < 2
    ∧ isSupervision eth = false ∧ up.rd (E.Port.LINK_STATE 3) = 0
    ∧ ({ eth with len := 63 } : EthFrame).len < 64 ∧ linked.admitsFrame 0 0 { eth with len := 1528 }
    ∧ (linked.admitsFrame 0 3 { eth with hsr := some 1, dst := 0x020000000002 } ∧ isPtp { eth with hsr := some 1, dst := 0x020000000002 } = false
       ∧ linked.forMe 3 { eth with hsr := some 1, dst := 0x020000000002 } = false)
    ∧ linked.room 3 1 = true := by unfold State.admitsFrame; decide +kernel

theorem wit_PortsTransmitAndSupervise :
    up.rd (E.Port.LINK_STATE 3) = 0
    ∧ (let s := head linked 13 (.tx { cls := 1 })
       s.rd (E.Port.LINK_STATE 3) ≠ 0 ∧ (s.port 3).forward = [] ∧ (s.port 3).egress = [] ∧ (s.ring 12).q = []
         ∧ (s.ring 13).q = .tx { cls := 1 } :: [] ∧ (s.ring 13).waiting = [] ∧ ({ cls := 1 } : TxFrame).cls < 2)
    ∧ (up.rd (E.Port.LINK_STATE 0) = 0 ∧ up.on (E.Port.PORT_ENABLE 0) = true) ∧ linked.rd (E.Port.LINK_STATE 0) ≠ 0 := by decide +kernel

/-- `up` with the ECX master in a cycle of 1,000 us. -/
def cycling : State := { (up.wr E.Ecx.CYCLE_PERIOD 1000).wr E.Ecx.ECX_ENABLE 1 with ecx := { running := true, start := some 1000000000 } }
/-- Station 63's input frame for that cycle. -/
def inFrame : EcxFrame := { type := 2, station := 63, state := 8, cycle := 0, signature := 0, data := [] }

theorem wit_TheEcxMasterCyclesItsStations :
    up.accepts 0 host E.Ecx.ECX_ENABLE.key .bool (.num 0) ∧ up.accepts 0 host (E.Station.STATION_ENABLE 63).key .bool (.num 0)
    ∧ cycling.ecx.start.isSome = true
    ∧ (let s := (up.wr E.Ecx.CYCLE_PERIOD 1000).wr E.Ecx.CYCLE_PHASE 0
       s.ecx.start = none ∧ s.rd E.Ecx.CYCLE_PERIOD ≠ 0 ∧ s.started = true ∧ s.power.reduced = false
         ∧ s.instant 1001000000 % (1000 * s.rd E.Ecx.CYCLE_PERIOD) = 1000 * s.rd E.Ecx.CYCLE_PHASE ∧ s.on E.Ecx.ECX_ENABLE = false
         ∧ (s.wr E.Ecx.ECX_ENABLE 1).on E.Ecx.ECX_ENABLE = true ∧ s.active = true)
    ∧ (let s := cycling.setStation 63 { exchanges := true, commanded := 8 }
       s.ecx.running = true ∧ inFrame.cycle = s.rd E.Ecx.CYCLE_NUMBER ∧ inFrame.signature = s.rd (E.Station.CONFIG_SIGNATURE 63)
         ∧ (s.station 63).exchanges = true ∧ inFrame.data.length = s.rd (E.Station.IN_LENGTH 63) ∧ inFrame.state = (s.station 63).commanded
         ∧ s.room 38 1 = true ∧ (s.ring 38).q.all (fun e => entryStation e != some 63) = true)
    ∧ (cycling.instant 1000999996 < 1000000000 + 1000 * cycling.rd E.Ecx.CYCLE_PERIOD
       ∧ 1000000000 + 1000 * cycling.rd E.Ecx.CYCLE_PERIOD ≤ cycling.instant 1001000000)
    ∧ (let s := (up.setStation 63 { acycSince := some 1000000000, acycSent := true }).wr (E.Station.ACYC_STATUS 63) 1
       s.rd (E.Station.ACYC_STATUS 63) = 1 ∧ (s.station 63).acycSent = true ∧ (s.station 63).acycSince.isSome = true
         ∧ (s.ring 40).waiting = [] ∧ s.room 40 1 = true) := by unfold State.accepts; decide +kernel

/-- `up` with CAN channel 3 in a mode and an object. -/
def canUp (x : CanSt) (o : CanObjSt) : State := ((up.setChan 3 x).setObj 3 31 o).wr (E.CanObj.OBJ_LENGTH 3 31) 1

theorem wit_CanChannelsFollowTheirMode :
    up.accepts 0 host (E.Can.CHANNEL_MODE 3).key .u8 (.num 0)
    ∧ (let s := (up.wr (E.Can.CHANNEL_MODE 3) 1)
       (s.chan 3).mode = 0 ∧ (s.chan 3).inTx = none ∧ s.operating = true ∧ s.power.reduced = false ∧ s.rd (E.Can.CHANNEL_MODE 3) ≠ 0)
    ∧ (let s := (up.setChan 3 { mode := 1 }).wr (E.Can.CHANNEL_MODE 3) 0
       (s.chan 3).mode ≠ 0 ∧ (s.chan 3).inTx = none ∧ s.rd (E.Can.CHANNEL_MODE 3) = 0 ∧ (s.chan 3).integrated = false)
    ∧ (up.setChan 3 { mode := 1, inTx := some 31 }).chan 3 = { mode := 1, inTx := some 31 }
    ∧ (let s := (up.setChan 3 { mode := 1, bit := 8 }).wr (E.Can.CHANNEL_STATE 3) 3
       s.rd (E.Can.CHANNEL_STATE 3) = 3
         ∧ ofTime96 (s.rd (E.Can.LAST_BUSOFF 3)) / 65536 + (1408 * (s.chan 3).bit * 25 / 2 : Nat) ≤ (s.instant 0 : Int)) := by
  unfold State.accepts; decide +kernel

theorem wit_CanRequestsBecomePendingFrames :
    (∀ k ∈ [1, 2, 3], let e : CanTx := { command := k, object := 40, data := [1], producer := 0 }
      let s := head (canUp { mode := 1 } {}) 22 (.can e); (s.ring 22).q = .can e :: [] ∧ (s.ring 22).waiting = [] ∧ s.txqOk 3 e = false)
    ∧ (let s := (((canUp { mode := 1 } { committed := true }).wr (E.CanObj.OBJ_MODE 3 31) 2).wr (E.CanObj.OBJ_PERIOD 3 31) 1000).wr (E.CanObj.OBJ_PHASE 3 31) 0
       s.rd (E.CanObj.OBJ_MODE 3 31) = 2 ∧ s.rd (E.CanObj.OBJ_PERIOD 3 31) ≠ 0
         ∧ s.instant 1001000000 % (1000 * s.rd (E.CanObj.OBJ_PERIOD 3 31)) = 1000 * s.rd (E.CanObj.OBJ_PHASE 3 31)
         ∧ (s.obj 3 31).committed = true ∧ (s.chan 3).mode = 1 ∧ s.active = true ∧ s.inSafe = false ∧ (s.obj 3 31).pend = none)
    ∧ (let s := canUp { mode := 1, inTx := some 31 } {}; (s.chan 3).inTx = some 31 ∧ (s.obj 3 31).next = false) := by decide +kernel

/-- A pending frame. -/
def pend : CanPend := { data := [1], since := 1000000000 }

theorem wit_CanAttemptsThatFailAreRetriedOrDropped :
    (let s := canUp { mode := 1, inTx := some 31 } { pend := some pend }
     (s.chan 3).inTx = some 31 ∧ (s.obj 3 31).pend = some pend ∧ (s.obj 3 31).next = false ∧ pend.abort = false
       ∧ (s.advance 0).expired 3 31 pend = false ∧ s.rd (E.Can.TEC 3) ≤ 247 ∧ 248 ≤ (s.wr (E.Can.TEC 3) 248).rd (E.Can.TEC 3))
    ∧ (let s := (canUp { mode := 1 } { pend := some pend }).wr (E.CanObj.LIFETIME 3 31) 1
       (s.obj 3 31).pend = some pend ∧ pend.started = false ∧ s.rd (E.CanObj.LIFETIME 3 31) ≠ 0
         ∧ pend.since + 1000 * s.rd (E.CanObj.LIFETIME 3 31) ≤ s.instant 1000001000) := by decide +kernel

theorem wit_CanFramesAreFilteredIntoRxq :
    (let s := (up.setChan 3 { mode := 1, integrated := true }).wr (E.Can.RX_ACCEPT_ALL 3) 1
     let f : CanFrame := { id := 5, sof := 1000000000 }
     (s.chan 3).mode ≠ 0 ∧ (s.chan 3).integrated = true ∧ (s.chan 3).exception = false ∧ s.rd (E.Can.CHANNEL_STATE 3) ≠ 3 ∧ f.fdf = false
       ∧ s.active = true ∧ (s.chan 3).lost = 0 ∧ s.fill 23 < 64 ∧ s.canFilter 3 f = none ∧ s.on (E.Can.RX_ACCEPT_ALL 3) = true)
    ∧ (up.chan 3).mode = 0 := by decide +kernel

theorem wit_FieldDiagnosticsFollowTheObservation :
    (let s := up.wr (E.Di.LINE_MONITOR 63) 1; s.on (E.Di.LINE_MONITOR 63) = true ∧ (s.dinp 63).level = false)
    ∧ (let s := ((up.setDout 63 { on := true, changedAt := 900000000 }).wr (E.Do.OPEN_ON_CURRENT (up.leadOf 63)) 5).wr (E.Grp.GROUP_STATE 7) 0
       (s.dout 63).on = true ∧ s.rd (E.Do.OPEN_ON_CURRENT (s.leadOf 63)) ≠ 0 ∧ s.suppressed 63 = false
         ∧ (s.dout 63).changedAt + 100000000 ≤ s.instant 0)
    ∧ (let s := { (up.setDout 63 { changedAt := 900000000 }).wr (E.Do.OFF_DIAG (up.leadOf 63)) 1 with field := { up.field with enable := true } }
       (s.dout 63).on = false ∧ s.on (E.Do.OFF_DIAG (s.leadOf 63)) = true ∧ s.field.enable = true) := by decide +kernel

theorem wit_TripsSwitchTheWholeBank :
    (let s := up.setDout 63 { on := true }; (s.dout 63).on = true ∧ (s.dout (s.leadOf 63)).tripped = false)
    ∧ (let s := up.setDout 63 { tripped := true, tripAt := 0 }
       (s.dout (s.leadOf 63)).tripped = true ∧ (s.dout (s.leadOf 63)).latched = false ∧ (∀ k ∈ members (s.bankNow 63), bitOf (s.dout k).diag 4 = false)
         ∧ (s.dout (s.leadOf 63)).tripAt + 1000000 * s.rd (E.Do.RETRY_DELAY (s.leadOf 63)) ≤ s.instant (1000000 * s.rd (E.Do.RETRY_DELAY (s.leadOf 63))))
    ∧ (up.setDout 63 { tripped := true, latched := true }).accepts 0 host (E.Do.TRIP_RESET 63).key .bool (.num 1)
    ∧ (let s := { up.setDout 63 { tripped := true, latched := true } with field := { (up.setDout 63 { tripped := true, latched := true }).field with resets := [63] } }
       s.field.powered = true ∧ s.field.resets = [63] ∧ s.leadOf 63 = 63 ∧ (s.dout 63).tripped = true ∧ (s.dout 63).latched = true) := by
  unfold State.accepts; decide +kernel

theorem wit_FieldSideFollowsItsSuppliesAndItsLink :
    (∀ st ≤ 5, st = up.rd (E.Grp.GROUP_STATE 7) ∨ up.rd (E.Grp.GROUP_STATE 7) ≠ st)
    ∧ (let s := { up with field := { up.field with hold := false } }
       s.field.powered = true ∧ s.field.silence = false ∧ s.field.hold = false ∧ s.field.lastValid + 1000000 * s.field.timeout ≤ s.instant 0)
    ∧ up.accepts 0 host (E.Do.DO_PROFILE 63).key .u8 (.num 0) := by unfold State.accepts; decide +kernel

theorem wit_CurrentInputsFollowTheirConditions :
    (up.instant 1000250000 % 250000 = 0 ∧ up.field.powered = true)
    ∧ (let s := up.setAin 31 { shortAt := some 1000000000 }
       (s.ain 31).shortAt = some 1000000000 ∧ 1000000000 + 1000000000 ≤ s.instant 2000000000 ∧ (s.ain 31).offAt = none)
    ∧ (let s := up.setAin 31 { offAt := some 1000000000 }; (s.ain 31).offAt = some 1000000000 ∧ 1000000000 + 5000000000 ≤ s.instant 6000000000)
    ∧ (let s := { up with field := { up.field with enable := true, enableAt := 1000000000 } }
       s.field.bypassOpen = false ∧ s.field.enableAt + 200000 ≤ s.instant 1000200000)
    ∧ fmt32.isZero ((up.wr (E.Ai.OPEN_THRESHOLD 31) 0x40600000).rd (E.Ai.OPEN_THRESHOLD 31)) = false := by decide +kernel

theorem wit_InputTrimsRunInTwoPoints :
    up.accepts 0 host (E.Ai.TRIM_CAPTURE 31).key .u8 (.num 1)
    ∧ (let s := up.setAin 31 { capture := some { point := 1, first := some 0x40800000, running := false } }
       s.accepts 0 host (E.Ai.TRIM_CAPTURE 31).key .u8 (.num 2) ∧ s.accepts 0 host (E.Ai.TRIM_CAPTURE 31).key .u8 (.num 3))
    ∧ (let c : AiCapture := { point := 1, vals := List.replicate 400 0x40800000 }
       c.running = true ∧ 400 ≤ c.vals.length ∧ unstable c.vals = false) := by unfold State.accepts; decide +kernel

theorem wit_OutputTrimsDriveAndApply :
    up.accepts 0 host (E.Ao.AO_TRIM_STEP 15).key .u8 (.num 1)
    ∧ (let s := up.setAout 15 { capture := some { point := 2, r1 := some 0x40800000, r2 := some 0x41A00000 } }
       s.accepts 0 host (E.Ao.AO_TRIM_STEP 15).key .u8 (.num 2) ∧ s.accepts 0 host (E.Ao.AO_TRIM_STEP 15).key .u8 (.num 3)
         ∧ s.accepts 0 host (E.Ao.AO_TRIM_STEP 15).key .u8 (.num 4) ∧ s.accepts 0 host (E.Ao.AO_TRIM_READING 15).key .f32 (.num 0x41A00000)
         ∧ (s.aout 15).capture.isSome = true) := by unfold State.accepts; decide +kernel

theorem wit_CurrentOutputsReportTheirConditions :
    bitOf (up.aout 15).diag 1 = false ∧ bitOf (up.aout 0).diag 2 ≠ true
    ∧ (let s := up.wr (E.Ao.AO_COMMANDED 15) 0x40800000; fmt32.lt (s.rd (E.Ao.AO_COMMANDED 15)) (milli 1000) = false) := by decide +kernel

/-! ## Chapters 13 to 18 -/

theorem wit_MotionUnitTakesTheFrontCommand :
    (∀ n ∈ [3, 5, 8], let c : MotionCmd := { command := n, axis := 11 }; let s := head up 42 (.motion c)
      (s.ring 42).q = .motion c :: [] ∧ (s.ring 42).waiting = [] ∧ s.mayCommand c = true ∧ cmdOk c = true)
    ∧ (let c : MotionCmd := { command := 10, axis := 11 }; (head up 42 (.motion c)).mayCommand c = false ∨ cmdOk c = false)
    ∧ (let c : MotionCmd := { command := 3, axis := 11, source := 0 }; (head up 42 (.motion c)).mayCommand c = false ∨ cmdOk c = false) := by decide +kernel

theorem wit_AxesFollowTheirDriversAndTheirTicks :
    ((up.ax 11).flt = false ∧ ((up.setAx 11 { flt := true }).ax 11).flt = true)
    ∧ (let s := (up.setAx 11 { ena := true, restAt := 1000000000 }).wr (E.Ax.IDLE_DISABLE 11) 1000
       s.rd (E.Ax.IDLE_DISABLE 11) ≠ 0 ∧ (s.ax 11).ena = true ∧ atRest (s.ax 11) = true ∧ (s.ax 11).move = none ∧ (s.ax 11).homing = none
         ∧ (s.ax 11).restAt + 1000000 * s.rd (E.Ax.IDLE_DISABLE 11) ≤ s.instant 2000000000)
    ∧ (let s := up.setAx 11 { goAt := some 1000000000 }; (s.ax 11).goAt = some 1000000000 ∧ 1000000000 ≤ s.instant 0)
    ∧ (up.instant 1000010000 % 10000 = 0 ∧ up.motion.tickAt < up.instant 1000010000 ∧ up.field.powered = true)
    ∧ up.accepts 0 host (E.Ax.VEL_MAX 11).key .f32 (.num 0x447A0000) := by unfold State.accepts; decide +kernel

/-- A safety parameter set. -/
def safeSet : SafetySet := { cycle := 4000, watchdog := 20 }
/-- `up` with the safety functions in RUN and a set. -/
def safeUp (c : Option SafeCycle) : State :=
  { (up.wr E.Saf.SAFETY_CYCLE 4000).wr E.Saf.SAFETY_STATE 2 with safety := { up.safety with set := some safeSet, cycle := c } }

theorem wit_SafetyCycleReleasesAndCommits :
    (let s := safeUp none
     s.safety.set.isSome = true ∧ s.rd E.Saf.SAFETY_CYCLE ≠ 0 ∧ s.instant 1004000000 % (1000 * s.rd E.Saf.SAFETY_CYCLE) = 0 ∧ 1 ≤ s.safeState
       ∧ s.safeState ≤ 3 ∧ s.active = true ∧ (s.advance 1004000000).resumed = true ∧ s.safety.cycle = none)
    ∧ (let s := safeUp (some { release := 1000000000 })
       s.pairRuns (s.safePair false) = true ∧ s.pairRuns (s.safePair true) = true ∧ s.safety.cycle = some { release := 1000000000 }
         ∧ sameResults false ({} : SafeOut) {} = true ∧ sameResults false ({ sb := 1 } : SafeOut) {} = false)
    ∧ (let s := safeUp (some { release := 1000000000, lone := some true })
       s.safety.cycle = some { release := 1000000000, lone := some true } ∧ s.pairRuns (s.safePair true) = true)
    ∧ (safeUp none).accepts 0 host (E.Sb.HT_START 7).key .bool (.num 1)
    ∧ (let s := safeUp none; (s.sec true).lastValid + 1000000 * s.rd E.Saf.SAFE_WATCHDOG ≤ s.instant (1000000 * s.rd E.Saf.SAFE_WATCHDOG)) := by
  unfold State.accepts; decide +kernel

theorem wit_SafeInputsAndBrakesReportTheirFaults :
    (let s := safeUp none; s.safety.set.isSome = true ∧ s.field.powered = true ∧ bitOf s.safety.tpFault 3 = false)
    ∧ (let s := (safeUp none).wr (E.Si.SI_MODE 15) 1
       let t := s.setSec true { si := (s.sec true).si.put 15 { discAt := some 1000000000 } }
       t.rd (E.Si.SI_MODE 15) ≠ 0 ∧ ((t.sec true).si.fetch {} 15).disc = false ∧ ((t.sec true).si.fetch {} 15).discAt = some 1000000000
         ∧ 1000000000 + 1000000 * t.rd (E.Si.SI_DISCREPANCY 15) ≤ t.instant (1000000000 + 1000000 * t.rd (E.Si.SI_DISCREPANCY 15)))
    ∧ (let s := { safeUp none with field := { up.field with enable := true } }
       s.field.enable = true ∧ bitOf s.safety.x.closed 7 = bitOf s.safety.y.closed 7 ∧ (s.sb 7).testAt = none
         ∧ bitOf (s.sec false).closed 7 = false) := by decide +kernel

theorem wit_SafetyParameterSetsAreStagedAndCommitted :
    up.accepts 0 host E.Saf.SPS_DATA.key .octets (.bytes [1]) ∧ up.accepts 0 host E.Saf.SPS_COMMIT.key .u32 (.num 0)
    ∧ setOk safeSet = true ∧ setOk { safeSet with cycle := 1100 } = false := by unfold State.accepts; decide +kernel

theorem wit_TokensAndTheFieldEnable :
    (let s := { twin with twin := { twin.twin with token := true } }
     (s.twin.token = true → s.rd E.Twin.TWIN_POSITION ≠ 2) ∧ s.twin.listen = none)
    ∧ (let s := { up.wr E.Twin.TWIN_POSITION 2 with twin := { up.twin with token := true } }; s.twin.token = true ∧ s.rd E.Twin.TWIN_POSITION = 2)
    ∧ (let s := { twin with twin := { twin.twin with listen := some 1000000000 } }
       s.twin.token = false ∧ s.twin.listen = some 1000000000 ∧ s.twinBase = true ∧ 1000000000 + s.listenWindow ≤ s.instant 3000000000
         ∧ s.operating = true ∧ s.twin.seenLogic = false ∧ s.twin.seenField = false)
    ∧ (let s := { twin with twin := { twin.twin with token := true, tokenAt := 999950000, logicAt := 999950000, fieldAt := 999950000 } }
       s.twin.tokenAt + 50000 ≤ s.instant 0 ∧ s.twin.logicAt + 50000 ≤ s.instant 0 ∧ s.twin.fieldAt + 50000 ≤ s.instant 0)
    ∧ (let s := { twin with twin := { twin.twin with token := true, seenLogic := true, refreshAt := 0 } }
       s.power.boot = none ∧ s.power.supplied = true ∧ s.twin.seenLogic ≠ s.twin.seenField ∧ max s.twin.logicAt s.twin.fieldAt + 10000 < s.instant 0
         ∧ s.rd E.Dbl.SERVICES_PAIR ≠ 0xFF ∧ s.twin.refreshAt + 1000000 * s.rd E.Twin.TOKEN_WATCHDOG ≤ s.instant 0) := by decide +kernel

theorem wit_TwinLinkAndHeartbeats :
    (twin.power.boot = none ∧ twin.power.supplied = true ∧ twin.twinBase = true ∧ twin.power.reduced = false)
    ∧ (let s := standing; s.rd E.Twin.LINK_STATE ≠ 2 ∧ s.twin.heardAt + 500000 ≤ s.instant 0 ∧ s.standby = true ∧ s.twin.maintenance = false)
    ∧ (let s := { standing with twin := { standing.twin with maintenance := true } }; s.twin.maintenance = true) := by decide +kernel

theorem wit_CheckpointStreamOfTheStandby :
    (let d : TwinDelta := { gen := nextGen standing.twin.gen, source := 1, size := 8388608 }
     standing.standby = true ∧ d.ok = true ∧ d.gen = nextGen standing.twin.gen ∧ d.size ≤ 8388608 ∧ d.changeover = false ∧ d.blocks = []
       ∧ standing.rd E.Twin.LINK_STATE ≠ 2 ∧ d.gen < 2 ^ 32)
    ∧ 8388608 < ({ gen := 0, source := 1, size := 8388609 } : TwinDelta).size
    ∧ (let s := { standing with twin := { standing.twin with synced := true } }
       s.twin.synced = true ∧ s.twin.auditAt + 60000000000 * s.rd E.Twin.AUDIT_INTERVAL ≤ s.instant (60000000000 * s.rd E.Twin.AUDIT_INTERVAL + 4)) := by decide +kernel

/-- The partner's heartbeat: STANDBY and READY. -/
def beat : Heartbeat := { role := 1, readiness := 0, cause := 0, token := false, gen := 0, release := 0x0302, spsCrc := 0, archive := 0 }

theorem wit_CastlingMovesTheToken :
    (let s := { twin.wr E.Twin.LINK_STATE 0 with twin := { twin.twin with partner := some beat } }
     s.accepts 0 host E.Castle.CASTLE_REQUEST.key .u32 (.num (s.rd E.Castle.CASTLE_NONCE)) ∧ s.active = true ∧ s.twinBase = true
       ∧ s.partnerReady = true ∧ s.twin.awaiting = none ∧ s.twin.taking = none
       ∧ s.accepts 0 host E.Castle.PROOF_TEST.key .u32 (.num (s.rd E.Castle.CASTLE_NONCE)))
    ∧ (let s := { standing with twin := { standing.twin with partner := some beat, synced := true, heardAt := 1000000000 } }
       s.standby = true ∧ s.twin.seenLogic = false ∧ s.twin.seenField = false ∧ s.twin.logicAt + 100000 ≤ s.instant 0
         ∧ s.twin.fieldAt + 100000 ≤ s.instant 0 ∧ s.twin.partner.any (fun h => !h.token) = true ∧ s.instant 0 ≤ s.twin.heardAt + 200000)
    ∧ (let s := { twin with twin := { twin.twin with token := true, awaiting := some (2, 999000000) } }
       s.twin.token = true ∧ s.twin.awaiting = some (2, 999000000) ∧ 999000000 + 1000000 ≤ s.instant 0)
    ∧ (let s := { twin with twin := { twin.twin with stopAt := some 0 } }
       s.twinBase = true ∧ s.twin.token = false ∧ s.twin.stopAt.isSome = true ∧ s.standby = false ∧ s.power.failAt = none) := by
  unfold State.accepts; decide +kernel

theorem wit_LedgerPagesSegmentsAndReaders :
    (up.ledger.journal.fetch {} 1023).retired = false ∧ up.ledger.bookState = 0
    ∧ up.accepts 0 host E.Ldg.BOOK_OPEN.key .u32 (.num (up.rd E.Ldg.LEDGER_NONCE))
    ∧ ((up.advance 0).readEntry (readerOf host) E.Ldg.READ_BLOCK.key).1 = 0 ∧ ((up.advance 0).ledgerReader (readerOf host)).isSome = true := by
  unfold State.accepts; decide +kernel

theorem wit_PanelUpdatesReachThePanel :
    (∀ n ∈ [1, 2], let e : SlateUpd := { kind := 2, wave := 0, id := 1, rect := { w := 1, h := 1 } }
      let s := head { up with slate := { up.slate with type := n } } 44 (.slate e)
      (s.ring 44).q = .slate e :: [] ∧ (s.ring 44).waiting = [] ∧ s.slate.type = n ∧ s.slate.pend.length < 16)
    ∧ (let p : PanelUpd := { id := 1, wave := 0, rect := { w := 1, h := 1 }, src := some { kind := 2, wave := 0, id := 1, rect := { w := 1, h := 1 } } }
       let s := ({ up with slate := { up.slate with type := 2, pend := [p] } }).wr E.Slate.PANEL_STATE 2
       s.slate.pend = [p] ∧ p.src.isSome = true ∧ s.panelOn = true ∧ s.slate.blankAt + s.panelFrame ≤ s.instant 0 ∧ s.slate.rewrite = []
         ∧ s.slate.running = [] ∧ s.slate.downWanted = false ∧ s.standby = false ∧ s.on E.Slate.SERVICE_MODE = false ∧ s.rd E.Slate.SLATE_MODE ≠ 1)
    ∧ (let u : RunUpd := { id := 1, wave := 0, band := 0, left := 1, rect := { w := 1, h := 1 } }
       let s := ({ up with slate := { up.slate with type := 1, running := [u] } }).wr E.Slate.PANEL_STATE 2
       s.slate.running = u :: [] ∧ u.left = 1 ∧ s.slate.pend = [] ∧ s.panelOn = true ∧ s.slate.downWanted = false) := by decide +kernel

theorem wit_PanelPowerKeysAndModes :
    (let s := ({ up with slate := { up.slate with type := 2 } }).wr E.Slate.PANEL_STATE 2
     s.rd E.Slate.PANEL_STATE ≠ 0 ∧ s.rd E.Slate.PANEL_STATE ≠ 4 ∧ s.slate.type ≠ 0)
    ∧ (let s := { up with slate := { up.slate with seq := [(0, .restore)] } }
       s.slate.seq = (0, .restore) :: [] ∧ s.slate.seqAt + 0 ≤ s.instant 0 ∧ s.slate.upWanted = false ∧ s.power.failAt = none)
    ∧ (let s := up.wr E.Slate.PANEL_TYPE 2
       s.accepts 0 host E.Slate.PANEL_ENABLE.key .bool (.num 1) ∧ s.rd E.Slate.PANEL_STATE = 0 ∧ s.slate.seq = [] ∧ s.rd E.Slate.PANEL_TYPE ≠ 0)
    ∧ ((up.wr E.Slate.PANEL_ENABLE 0).accepts 0 host E.Slate.PANEL_TYPE.key .u8 (.num 2) ∧ (up.wr E.Slate.PANEL_ENABLE 0).on E.Slate.PANEL_ENABLE = false)
    ∧ up.accepts 0 host E.Slate.SLATE_MODE.key .u8 (.num 1)
    ∧ (let s := { (up.wr E.Slate.STRIP_IDLE 1) with slate := { up.slate with bothAt := some 1000000000 } }
       s.rd E.Slate.STRIP_IDLE ≠ 0 ∧ s.rd E.Slate.SLATE_MODE = 0 ∧ s.slate.lastPress + 1000000000 * s.rd E.Slate.STRIP_IDLE ≤ s.instant 1000000000
         ∧ s.isStop = true ∧ s.slate.bothAt = some 1000000000 ∧ 1000000000 + 3000000000 ≤ s.instant 4000000000)
    ∧ ((up.wr E.Slate.SERVICE_MODE 1).on E.Slate.SERVICE_MODE = true ∧ up.slate.lastPress + 300000000000 ≤ up.instant 300000000000) := by
  unfold State.accepts; decide +kernel

theorem wit_SupplyTemperatureAndClock :
    (up.power.supplied = true ∧ fmt32.lt 0x418FFFFF 0x41900000 = true ∧ up.rd E.Pwr.SUP_STATE ≠ 1 ∧ up.rd E.Pwr.SUP_STATE ≠ 3)
    ∧ (fmt32.lt 0x42000000 0x42000001 = true ∧ up.rd E.Pwr.SUP_STATE ≠ 2)
    ∧ (fmt32.le 0x41900000 0x41900000 = true ∧ fmt32.le 0x41900000 0x42000000 = true ∧ (up.wr E.Pwr.SUP_STATE 1).rd E.Pwr.SUP_STATE = 1)
    ∧ up.power.failAt = none ∧ (fmt32.lt 0x42FA0000 0x42FA0001 = true ∧ fmt32.lt 0x42FA0000 0x42FA0000 = false)
    ∧ (up.power.boot = none ∧ up.power.hourAt + 3600000000000 ≤ up.instant 3600000000000) := by decide +kernel

theorem wit_PowerFailureAndStarts :
    (up.power.supplied = true ∧ up.power.failAt = none ∧ fmt32.lt 0x4183FFFF 0x41840000 = true)
    ∧ (let s := { up with power := { up.power with failAt := some 1000000000 } }
       s.power.failAt = some 1000000000 ∧ 1000000000 + 2000000 ≤ s.instant 1002000000 ∧ s.power.reduced = false ∧ s.power.ckptDone = false
         ∧ s.standby = false ∧ s.power.boot = none ∧ s.power.supBack = false ∧ s.rd E.Pwr.PF_CKPT_SIZE ≤ 7340032)
    ∧ (let s := { up with power := { up.power with failAt := some 1000000000, ckptDone := true } }
       s.power.ckptDone = true ∧ s.slate.seq = [] ∧ s.power.supplied = true)
    ∧ ({ up.power with supplied := false } : PowerSt).supplied = false
    ∧ up.accepts 0 host E.Id.RESTART_REQUEST.key .u8 (.num 1) ∧ up.accepts 0 host E.Id.RESTART_REQUEST.key .u8 (.num 2)
    ∧ (let s := State.reset
       s.power.boot.isSome = true ∧ s.power.supplied = true ∧ s.power.clockBad = false ∧ s.power.hot = false ∧ s.power.failAt = none
         ∧ s.power.trial = none ∧ (s.slot 0).state = 1) := by unfold State.accepts; decide +kernel

theorem wit_FirmwareSlotsAreStagedCheckedAndTried :
    up.accepts 0 host E.Start.FW_STAGE_DATA.key .octets (.bytes [1]) ∧ up.accepts 0 host E.Start.FW_STAGE_CHECK.key .bool (.num 1)
    ∧ (let s := (up.setSlot up.otherSlot { state := 1 }).wr E.Start.FW_STAGE_RESULT 0
       s.accepts 0 host E.Start.FW_ACTIVATE.key .u32 (.num (s.rd E.Start.FW_NONCE)))
    ∧ (let s := { up with power := { up.power with trial := some 1 } }
       s.power.trial = some 1 ∧ s.power.boot = none ∧ 120000000000 ≤ s.instant 120000000000) := by unfold State.accepts; decide +kernel

/-! ## Single steps against what the spec states -/

/-- The state that a command answers. -/
def after (c : Instr) (s : State) : State :=
  match exec c s with
  | .next t => t
  | _ => s

/-- Table RUN-5: STOP without a turn enters STOP with cause 1 (R97). -/
theorem test_stop : (after (.stopCommand 0 host) running).rd E.Run.RUNTIME_MODE = 1
    ∧ (after (.stopCommand 0 host) running).rd E.Run.STOP_CAUSE = 1 := by decide +kernel
/-- Table RUN-5: HOLD without HOLD_PERMIT is a mode conflict, 0x0B (R97, R99). -/
theorem test_hold_needs_permit : (after (.holdCommand 0 host) (running.wr E.Run.HOLD_PERMIT 0)).odStatus = 0x0B := by decide +kernel
/-- R86, R89: a release freezes the snapshot at its own instant. -/
theorem test_task_release : ((after (.taskRelease 1000050000 0) (tasked none)).task 0).turn.map (fun u => u.snap.release) = some 1000050000 := by decide +kernel
/-- R96: a release with the turn still running skips and counts once. -/
theorem test_overrun : (after (.taskRelease 1001050000 0) (tasked (some began))).rd (E.Task.OVERRUNS 0) = 1
    ∧ (after (.taskRelease 1001050000 0) (tasked (some began))).rd (E.Task.SKIPPED 0) = 1 := by decide +kernel
/-- R84: an unknown entry answers NO_SUCH_ENTRY or NO_SUCH_INDEX, not OK. -/
theorem test_unknown_entry : (after (.registerWrite 0 host 0x123401 .u8 (.num 1)) up).odStatus ≠ 0 := by decide +kernel
/-- Table DIC-16: a value below the range of SESSION_IDLE_TIMEOUT is OUT_OF_RANGE, 0x08. -/
theorem test_out_of_range : (after (.registerWrite 0 host E.Auth.SESSION_IDLE_TIMEOUT.key .u32 (.num 4999)) up).odStatus = 0x08 := by decide +kernel
/-- R81: a key over the dictionary port is refused and stays. -/
theorem test_key_link : (after (.keyWrite 0 port .viewer (List.replicate 32 1)) up).odStatus ≠ 0 := by decide +kernel
/-- R128: group g of the vector holds bits 8g to 8g + 7, and group 26 the last six. -/
theorem test_group_vector : groupVector 0 (1 <<< 9) = 2 ∧ groupVector 0 (1 <<< 213) = 2 ^ 26 := by decide +kernel
/-- R407, R408: an entry with an unknown command is rejected. -/
theorem test_motion_reject : (after (.moveAbs 0) (head up 42 (.motion { command := 10, axis := 0 }))).rd E.Mot.CMD_REJECTS = 1 := by decide +kernel
/-- R541: below 18 V the supply is LOW, up to 32 V NORMAL, above HIGH. -/
theorem test_supply_low : (after (.supLow 0 0x418F0000) up).rd E.Pwr.SUP_STATE = 1 := by rfl
theorem test_supply_normal : (after (.supLow 0 0x41900000) up).rd E.Pwr.SUP_STATE = 0 := by decide +kernel
theorem test_supply_high : (after (.supHigh 0 0x42010000) up).rd E.Pwr.SUP_STATE = 2 := by decide +kernel
/-- R544: 16.5 V is no power failure. -/
theorem test_power_fail : (after (.powerFail 0 0x41840000) up).power.failAt = none := by decide +kernel
/-- R308, Table NET-5: a frame with a bad FCS reaches no receive ring; a whole one of class 0 reaches RXL. -/
theorem test_bad_fcs : (after (.frameReceived 0 0 false { eth with fcsOk := false }) linked).fill 3 = 0
    ∧ (after (.frameReceived 0 0 false eth) linked).fill 3 = 1 := by decide +kernel
/-- R331: a channel takes its mode when it has no frame on the bus. -/
theorem test_can_mode : ((after (.channelModeEffect 0 3) (up.wr (E.Can.CHANNEL_MODE 3) 1)).chan 3).mode = 1 := by decide +kernel
/-- R195: a dispatched solve runs on the bead. -/
theorem test_dispatch : ((after (.solveDispatch 0 0) ((up.wr (E.Solve.HOME_ACTIVE 3) 0).setBoard 3 { board with queue := [.req (rq 1)] })).board 3).run.map (·.home) = some 0 := by decide +kernel
/-- R200: at the deadline the solve ends with DEADLINE_MISS, 0x10. -/
theorem test_deadline : ((after (.deadlineMiss 2000000000 3 { factored := false, iterations := 0 }) (up.setBoard 3 { board with queue := [.req (rq 1)] })).board 3).pos.status = 0x10 := by decide +kernel
/-- A step on a queue takes its front. -/
theorem test_step : (match step { up with pending := [.stopNowCommand 0 host, .serviceSlice 0] } with
    | .next t => t.pending.length
    | _ => 0) = 1 := by decide +kernel

end Sys2Proof.Machine
end

section
/-!
SUPPORT. What every command does to the queue and to a sound state: it answers a next state, leaves the queue as it is, and keeps the
state sound. Each case cites the law of the operation that the command runs (`Moves`).
-/
namespace Sys2Proof.Machine

/-- `r` is a next state whose queue is that of `s`, and which is sound where `s` is. -/
def Continues (s : State) (r : Result) : Prop := ∃ t, r = .next t ∧ t.pending = s.pending ∧ (s.Sound → t.Sound)

section
variable {ps qs : List Part} {s t u : State} {at_ : Nat}

/-- An operation that follows the command's instant continues. -/
theorem Moves.continues (h : Moves ps (s.advance at_) t) : Continues s (.next t) :=
  ⟨t, rfl, h.1.1, fun hs => h.2 (State.advance_moves.2 hs)⟩

/-- So does one that runs for operands within their range only. -/
theorem Moves.continues_within {c : Prop} [Decidable c] (h : Moves ps (s.advance at_) t) :
    Continues s (.next (if c then t else s.advance at_)) :=
  (Moves.ite (fun _ => h) (fun _ => .refl ..)).continues

/-- And one that a condition holds back. -/
theorem Moves.continues_unless {c : Prop} [Decidable c] (h : Moves ps (s.advance at_) t) :
    Continues s (.next (if c then s.advance at_ else t)) :=
  (Moves.ite (fun _ => .refl ..) (fun _ => h)).continues

/-- A second operation follows the first. -/
theorem Continues.step (h : Continues s (.next t)) (g : Moves qs t u) : Continues s (.next u) := by
  obtain ⟨_, ⟨⟩, hp, hs⟩ := h
  exact ⟨u, rfl, g.1.1.trans hp, fun k => g.2 (hs k)⟩

end

theorem dictWrite_continues {s : State} {at_ key : Nat} {w : Writer} {ty : Ty} {v : Value} :
    Continues s (dictWrite at_ w key ty v s) := State.writeStep_moves.continues

theorem eopStep_continues {s : State} {code at_ : Nat} {o : Origin} {d : List Byte} : Continues s (eopStep code at_ o d s) :=
  State.eopRow_moves.continues

theorem State.twinUp_moves {ps : List Part} {s : State} {f : State → State} (h : Moves ps s (f s)) : Moves ps s (s.twinUp f) :=
  .ite (fun _ => .refl ..) (fun _ => h)

theorem State.installTaken_moves {before s : State} :
    Moves [.tally, .ledger, .twin, .free, .blocks, .rt, .frame] s (State.installTaken before s) := by
  unfold State.installTaken
  split
  · exact .ite (fun _ => .refl ..) (fun _ => State.installArchive_moves)
  · exact .refl ..

/-- SESSION_IDLE_TIMEOUT ends a session that is idle, and no other (R80). -/
theorem execSessionIdleTimeout_continues {s : State} {at_ session : Nat} : Continues s (execSessionIdleTimeout at_ session s) := by
  unfold execSessionIdleTimeout
  extract_lets s1
  split
  · exact State.endSession_moves.continues_within
  · exact (Moves.refl [] _).continues

/-- PROOF_TEST runs its write as a step of the dictionary (R499). -/
theorem execProofTest_continues {s : State} {at_ nonce : Nat} {w : Writer} {step1 step2 : Bool} :
    Continues s (execProofTest at_ w nonce step1 step2 s) :=
  (State.dictStep_moves (ps := [.answer, .ledger, .blocks, .twin, .free]) (by decide)
    fun _ => (Moves.refl ..).step State.proofStep_moves).continues

/-- Every command of the table answers a next state, leaves the queue as it is and keeps a sound state sound. -/
theorem exec_continues (c : Instr) (s : State) : Continues s (exec c s) := by
  cases c with
  | archiveLoad => exact State.archiveLoad_moves.continues
  | serviceSlice => exact State.slice_moves.continues
  | read | write | readMulti | describe | segReadStart | segReadPart | segWriteStart | segWritePart | segAbort | groupBegin
  | groupStage | groupCommit | groupDiscard | subscribe | unsubscribe | loginChallenge | loginResponse | logout | keepalive
  | quench | unquench | identify =>
    exact eopStep_continues
  | transferTimeout => exact State.expireTransfer_moves.continues
  | groupTimeout => exact State.setGroup_moves.continues_within
  | subscriptionCheck => exact State.checkSubscription_moves.continues_within
  | challengeExpiry => exact (Moves.with_eop (ps := [.eop]) (.refl ..)).continues
  | loginBlockExpiry => exact (Moves.with_eop (ps := [.eop]) (.refl ..)).continues
  | sessionIdleTimeout => exact execSessionIdleTimeout_continues
  | quenchFilterExpiry => exact State.filterExpiry_moves.continues
  | registerWrite | warmRestartRequest | coldRestartRequest | restoreFactory | keyWrite | ringResetHwm | resetStats | runCommand
  | stopCommand | stopNowCommand | holdCommand | continueCommand | stepCommand | holdPermitWrite | retainReset | forcePointWrite
  | forceValueWrite | forceActivate | forceRemove | forceClearAll | stageData | stageCheck | stageApply | revert | injectTestRun
  | loadData | loadCommit | loadClear | unloadBoard | moveBatch | solveRequest | solveAbort | homeWrite | bankSelect
  | loopModeWrite | outManWrite | bankParameterWrite | bankCopy | characteriserTableWrite | freqAdjWrite | baseStep | baseSet
  | ptpRoleWrite | ecxEnableWrite | stationEnableWrite | acycRequest | channelModeWrite | objSend | doProfileWrite | tripReset
  | trimCaptureFirst | trimCaptureSecond | trimCaptureAbandon | aoTrimDrive4 | aoTrimDrive20 | aoTrimApply | aoTrimAbandon
  | aoTrimReading | axisSettingWrite | htStart | safetyReset | spsData | spsCommit | castleRequest | rejoin | bookOpen
  | clearRing | slateDraw | panelEnableWrite | panelTypeWrite | waveformSetWrite | slateModeWrite | fwStageData | fwStageCheck
  | fwActivate =>
    exact dictWrite_continues
  | taskRelease => exact State.taskRelease_moves.continues
  | turnStart => exact State.turnStart_moves.continues
  | turnCommit => exact State.turnCommit_moves.continues
  | breakpointReached => exact State.breakpoint_moves.continues
  | holdLimitExpiry => exact State.holdLimit_moves.continues
  | onlineChangeover => exact State.changeover_moves.continues
  | onlineWindowExpiry => exact State.windowExpiry_moves.continues
  | comparatorMismatch => exact State.compare_moves.continues_within
  | cacheUncorrectable => exact State.mismatch_moves.continues_within
  | cacheCorrected => exact State.cacheCorrected_moves.continues_within
  | restartComplete => exact State.restartComplete_moves.continues_within
  | restartTimeout => exact State.restartTimeout_moves.continues_within
  | injectionTestDone => exact State.injectDone_moves.continues_within
  | boardReplace => exact State.boardReplace_moves.continues
  | boardUnload => exact State.boardUnload_moves.continues
  | boardLoadDone => exact State.boardLoadDone_moves.continues
  | batchTake => exact State.batchTake_moves.continues
  | solveTake => exact State.solveTake_moves.continues
  | abortTake => exact State.abortTake_moves.continues
  | submitQueueRoom => exact State.queueRoom_moves.continues
  | solveDispatch => exact State.solveDispatch_moves.continues
  | solveOutcome => exact State.solveOutcome_moves.continues
  | deadlineMiss => exact State.deadlineMiss_moves.continues
  | abortLatch => exact State.abortLatch_moves.continues
  | doneWrite => exact State.doneWrite_moves.continues
  | beadSramUncorrectable => exact State.beadFault_moves.continues
  | beadEccCorrected => exact State.inc_moves.continues_within
  | frameStoreUncorrectable => exact State.storeFault_moves.continues
  | frameBoundary => exact State.frameBoundary_moves.continues
  | loopRetainedStore => exact State.storeLoops_moves.continues
  | tbSnapshot => exact State.readStep_moves.continues
  | syncReceived => exact State.syncReceived_moves.continues
  | followUpReceived => exact State.followUp_moves.continues
  | followUpTimeout => exact State.followUpTimeout_moves.continues
  | syncSend => exact State.syncSend_moves.continues
  | announceSend => exact State.announceSend_moves.continues
  | announceReceived => exact State.announceReceived_moves.continues
  | announceReceiptTimeout => exact State.announceLost_moves.continues
  | syncIntervalTimeout => exact State.syncLost_moves.continues
  | delayReqSend => exact State.delayReqSend_moves.continues
  | delayRespReceived => exact State.delayResp_moves.continues
  | pdelayReqSend => exact State.pdelayReqSend_moves.continues
  | pdelayReqReceived => exact State.pdelayReqReceived_moves.continues
  | pdelayRespReceived => exact State.pdelayResp_moves.continues
  | tcEventForward => exact State.tcForward_moves.continues
  | partnerOffsetMeasure => exact State.partnerOffset_moves.continues
  | frameReceived => exact State.frameReceived_moves.continues
  | portTransmit => exact State.portTransmit_moves.continues
  | supervisionSend => exact State.supervisionSend_moves.continues
  | ringCheck => exact State.ringCheck_moves.continues
  | nodeForget => exact State.nodeForget_moves.continues
  | linkChange => exact State.linkChange_moves.continues
  | cableTest => exact State.cableTest_moves.continues
  | ecxCycleStart => exact State.cycleStart_moves.continues
  | cycleIn => exact State.cycleIn_moves.continues
  | ecxCycleClose => exact State.cycleClose_moves.continues
  | acycResponse => exact State.acycResponse_moves.continues
  | acycTimeout => exact State.acycTimeout_moves.continues
  | channelModeEffect => exact State.modeEffect_moves.continues
  | canIntegration => exact State.integration_moves.continues
  | txqSend | txqUpdate | txqAbort => exact State.takeTxq_moves.continues
  | periodicRelease => exact State.canRelease_moves.continues
  | canFrameSent => exact State.canSent_moves.continues
  | arbitrationLost => exact State.arbLost_moves.continues
  | transmitError => exact State.txError_moves.continues
  | busOffRecovery => exact State.busRecovery_moves.continues
  | lifetimeExpiry => exact State.lifetimeExpiry_moves.continues
  | canFrameReceived => exact State.canReceived_moves.continues
  | xcvrMeasure => exact State.xcvrMeasure_moves.continues
  | txdDominantTimeout => exact State.txdTimeout_moves.continues
  | fieldFrameToField => exact State.frameToField_moves.continues
  | fieldFrameToLogic => exact State.frameToLogic_moves.continues
  | diOpenWire => exact State.diOpenWire_moves.continues_within
  | diReversed => exact State.setDiDiag_moves.continues_within
  | latchEdge => exact State.latchEdge_moves.continues
  | doOverload => exact State.doOverload_moves.continues_within
  | doOvertemp => exact State.doOvertemp_moves.continues_within
  | doOpenOn => exact State.doOpenOn_moves.continues_within
  | doOpenOff => exact State.doOpenOff_moves.continues_within
  | doOffVoltage => exact State.doOffVoltage_moves.continues_within
  | shareFault => exact State.shareFault_moves.continues_within
  | autoRetry => exact State.autoRetry_moves.continues_within
  | groupStateChange => exact State.groupChange_moves.continues_within
  | silenceTimeout => exact State.silenceTimeout_moves.continues
  | aiConversion => exact State.aiConversion_moves.continues_within
  | aiOpenWire => exact State.aiOpenWire_moves.continues_within
  | aiOverRange => exact State.setAiDiag_moves.continues_within
  | aiShort => exact State.aiShort_moves.continues_within
  | aiReversed => exact State.aiReversed_moves.continues_within
  | aiSupplyOff => exact State.aiSupplyOff_moves.continues_within
  | supplyRetry => exact State.supplyRetry_moves.continues_within
  | aiThermalStep => exact State.aiThermal_moves.continues_within
  | trimPointDone => exact State.trimPointDone_moves.continues_within
  | aoCompliance => exact State.aoCompliance_moves.continues_within
  | aoOpenWire => exact State.aoOpenWire_moves.continues_within
  | aoRailFault => exact State.aoRailFault_moves.continues
  | aoOvertemp => exact State.aoOvertemp_moves.continues_within
  | bypassOpen => exact State.bypassOpens_moves.continues
  | moveAbs | moveRel | moveVel | axisStop | axisHome | axisAbort | axisEnable | axisDisable | latchArm =>
    exact State.takeCmd_moves.continues
  | profileTick => exact State.profileTick_moves.continues
  | fltAsserted => exact State.fltAsserted_moves.continues_within
  | fltReleased => exact State.fltReleased_moves.continues_within
  | idleDisable => exact State.idleDisable_moves.continues_within
  | enableDelay => exact State.enableDelay_moves.continues_within
  | safetyRelease => exact State.safetyRelease_moves.continues
  | safetyCommit => exact State.safetyCommit_moves.continues
  | safeWatchdogExpiry => exact State.safeWatchdog_moves.continues
  | testPulse => exact State.testPulse_moves.continues
  | tpFault => exact State.tpFault_moves.continues
  | siDiscrepancy => exact State.siDiscrepancy_moves.continues
  | sbPulseTest => exact State.sbPulse_moves.continues
  | sbFault => exact State.sbCondition_moves.continues
  | escFrameReceived => exact State.escReceived_moves.continues
  | partnerTokenAsserted => exact State.partnerAsserted_moves.continues
  | partnerTokenDeasserted => exact State.partnerDeasserted_moves.continues
  | fieldEnableAssert => exact State.fieldEnableAssert_moves.continues
  | tokenPathFault => exact (State.twinUp_moves State.tokenPathFault_moves).continues
  | tokenWatchdogExpiry => exact State.watchdogExpiry_moves.continues
  | listenWindowExpiry => exact State.listenExpiry_moves.continues
  | heartbeatSend => exact (State.twinUp_moves State.heartbeatSend_moves).continues
  | heartbeatReceived => exact (State.twinUp_moves State.heartbeatReceived_moves).continues
  | linkDownTimeout => exact (State.twinUp_moves State.linkDown_moves).continues
  | deltaEnd => exact State.deltaEnd_moves.continues.step State.installTaken_moves
  | resyncDone => exact State.resyncDone_moves.continues.step State.installTaken_moves
  | audit => exact State.audit_moves.continues
  | archivePart => exact State.archivePart_moves.continues.step State.installTaken_moves
  | castleReceived => exact State.castleReceived_moves.continues
  | castleAck => exact State.castleAck_moves.continues
  | castleAckTimeout => exact State.castleAckTimeout_moves.continues
  | standbyTakeToken => exact State.takeToken_moves.continues
  | castlingRelease => exact State.castlingRelease_moves.continues
  | proofTest => exact execProofTest_continues
  | maintenanceEnter => exact State.maintenanceEnter_moves.continues
  | maintenanceExit => exact State.maintenanceExit_moves.continues
  | flushPage => exact State.flushPage_moves.continues
  | segmentRetired => exact State.segmentRetired_moves.continues
  | readBlock => exact State.readStep_moves.continues
  | slateUpdTake => exact State.updTake_moves.continues
  | lcdVblank => exact State.vblank_moves.continues
  | phaseBoundary => exact State.phaseBoundary_moves.continues
  | panelTempRead => exact State.panelTemp_moves.continues
  | bandCheck => exact State.bandCheck_moves.continues
  | slateRailFault => exact State.panelRailFault_moves.continues
  | panelSequenceStep => exact State.sequenceStep_moves.continues.step State.returnReset_moves
  | stripIdleExpiry => exact State.stripIdle_moves.continues
  | keyPress => exact State.keyPress_moves.continues
  | serviceModeEnter => exact State.serviceEnter_moves.continues
  | serviceModeExit => exact State.serviceExit_moves.continues
  | powerOn => exact State.powerOn_moves.continues
  | start => exact State.startUp_moves.continues
  | holdupCharged => exact State.holdup_moves.continues
  | supLow => exact State.supLow_moves.continues
  | supHigh => exact State.supHigh_moves.continues
  | powerFail => exact State.powerFail_moves.continues
  | powerFailReduce => exact State.powerReduce_moves.continues
  | pfCheckpoint => exact State.pfCheckpoint_moves.continues.step State.returnReset_moves
  | supReturned => exact State.supReturned_moves.continues
  | storeDepleted => exact State.storeDepleted_moves.continues
  | railFault => exact State.railFault_moves.continues
  | clockFault => exact State.clockFault_moves.continues
  | thermal => exact State.thermal_moves.continues
  | operatingHour => exact State.operatingHour_moves.continues
  | trialTimeout => exact State.trialTimeout_moves.continues
  | supNormal => exact State.supNormal_moves.continues
  | thermalStateChange => exact State.thermalState_moves.continues
  | laneStateChange => exact (State.twinUp_moves State.laneChange_moves).continues
  | canReceiveError => exact State.rxError_moves.continues
  | mbx0Packet => exact State.place_moves.continues_unless

/-- Settles O4: the step idles or runs the front command, and `exec_continues` says of each command that it keeps the state sound. -/
theorem everyStepKeepsTheStateSound : Obligations.EveryStepKeepsTheStateSound := by
  unfold Obligations.EveryStepKeepsTheStateSound
  intro s t hs h
  unfold step at h
  split at h
  · cases h
    exact hs
  · next c rest _ =>
    obtain ⟨u, hu, _, hsound⟩ := exec_continues c { s with pending := rest }
    rw [hu] at h
    cases h
    exact hsound hs

end Sys2Proof.Machine
end

section
/-!
SUPPORT. The rings of Table ARC-6: what one entry of a producer, and one take of the consumer, leaves on the ring under each policy of
R38 (O6).
-/
namespace Sys2Proof.Machine

section
variable {s : State} {k : Nat} {e : RingEntry}

theorem State.room_of_fill_lt (h : s.fill k < ringDepth k) : s.room k 1 = true := by
  simpa [State.room] using h

theorem State.no_room_of_full (h : ringDepth k ≤ s.fill k) : s.room k 1 = false := by
  simpa [State.room, Nat.lt_succ_iff] using h

/-- With room, nothing to replace and no producer that waits, an entry joins the end of its ring (R36). -/
theorem State.push_of_room (hr : s.room k 1 = true) (hp : ringPolicy k ≠ .replace) (hw : (s.ring k).waiting = []) :
    s.push k e = (s.append k e, true) := by
  unfold State.push
  cases h : ringPolicy k with
  | replace => exact absurd h hp
  | refuse | drop => simp [hr]
  | stall => simp [hr, hw]

/-- REFUSE: a full ring counts the refusal (R38). -/
theorem State.push_of_full_refuse (hr : s.room k 1 = false) (hp : ringPolicy k = .refuse) :
    s.push k e = (s.inc (E.Ring.RING_REFUSALS k), false) := by
  simp [State.push, hp, hr]

/-- DROP: a full ring counts the discarded entry as an overflow (R38). -/
theorem State.push_of_full_drop (hr : s.room k 1 = false) (hp : ringPolicy k = .drop) :
    s.push k e = (s.inc (E.Ring.RING_OVERFLOWS k), false) := by
  simp [State.push, hp, hr]

/-- REPLACE: the new entry stands in the place of the unread one of its station (R38). -/
theorem State.push_of_replace (hp : ringPolicy k = .replace) (ha : (s.ring k).q.any (fun x => entryStation x == entryStation e) = true) :
    s.push k e = ((s.setRing k { s.ring k with q := (s.ring k).q.map (fun x => if entryStation x = entryStation e then e else x) }).inc
      (E.Ring.RING_OVERFLOWS k), true) := by
  simp [State.push, hp, ha]

/-- STALL: with a full ring the entry waits behind those that wait (R38). -/
theorem State.push_of_full_stall (hr : s.room k 1 = false) (hp : ringPolicy k = .stall) :
    s.push k e = (s.setRing k { s.ring k with waiting := (s.ring k).waiting ++ [e]
                                              stallSince := some ((s.ring k).stallSince.getD s.now) }, true) := by
  simp [State.push, hp, hr]

theorem State.unstall_of_none_waiting (hw : (s.ring k).waiting = []) : s.unstall k = s := by
  simp [State.unstall, hw]

/-- The consumer takes the oldest entry and advances the tail; no producer waits for the freed place (R36). -/
theorem State.pop_of_none_waiting {rest : List RingEntry} (hq : (s.ring k).q = e :: rest) (hw : (s.ring k).waiting = []) :
    s.pop k = (s.setRing k { s.ring k with tail := ((s.ring k).tail + 1) % 65536, q := rest }, some e) := by
  have hu (r : Ring) (hr : r.waiting = []) : (s.setRing k r).unstall k = s.setRing k r :=
    State.unstall_of_none_waiting ((congrArg Ring.waiting (State.ring_setRing_self s k r)).trans hr)
  simp only [State.pop, hq, hu { s.ring k with tail := ((s.ring k).tail + 1) % 65536, q := rest } hw, ite_self]

theorem State.ring_inc (f : Ent) (j : Nat) : (s.inc f).ring j = s.ring j := State.ring_congr (State.inc_rings s f) j

end

/-- Settles O6: one lemma per policy says what `push` answers, and `Frame.push` and `Frame.pop` say that no other ring changes. -/
theorem ringsFollowTheirPolicies : Obligations.RingsFollowTheirPolicies := by
  unfold Obligations.RingsFollowTheirPolicies
  refine ⟨fun s k e hf hp hw => ?_, fun s k e hf hp => ?_, fun s k e hf hp => ?_, fun s k e hp ha => ?_, fun s k e hf hp => ?_,
    fun s k e rest hq hw => ?_⟩
  · have h := State.push_of_room (e := e) (State.room_of_fill_lt hf) hp hw
    refine ⟨?_, ?_, (Frame.refl ..).push (by simp)⟩ <;> rw [h]
    exact State.ring_append_self s k e
  · rw [State.push_of_full_refuse (State.no_room_of_full hf) hp]
    exact ⟨State.ring_inc _ k, rfl, State.rd_inc_self s _, (Frame.refl ..).inc (by simp)⟩
  · rw [State.push_of_full_drop (State.no_room_of_full hf) hp]
    exact ⟨State.ring_inc _ k, State.rd_inc_self s _, (Frame.refl ..).inc (by simp)⟩
  · have hframe : Frame [] [] [k] s (s.push k e).1 := (Frame.refl ..).push (by simp)
    rw [State.push_of_replace hp ha] at hframe ⊢
    refine ⟨?_, ?_, State.rd_inc_self _ _, hframe⟩ <;> rw [State.ring_inc, State.ring_setRing_self]
  · rw [State.push_of_full_stall (State.no_room_of_full hf) hp]
    exact ⟨State.ring_setRing_self .., rfl, (Frame.refl ..).setRing (by simp)⟩
  · rw [State.pop_of_none_waiting hq hw]
    exact ⟨rfl, State.ring_setRing_self .., (Frame.refl ..).setRing (by simp)⟩

end Sys2Proof.Machine
end

section
/-!
SUPPORT. The state after reset (O3).
-/
namespace Sys2Proof.Machine

/-- The dictionary lists nothing after reset and no archive runs, so an entry reads its default (R47). -/
theorem State.get_reset (e : Ent) : State.reset.get e = e.d := by
  have hb : State.reset.base e = e.d := by
    unfold State.base
    cases e.arch <;> rfl
  exact hb

theorem State.fill_reset (k : Nat) : State.reset.fill k = 0 := rfl

theorem State.reset_sound : State.reset.Sound :=
  ⟨rfl, fun k => (State.fill_reset k).le.trans (Nat.zero_le _), rfl, rfl⟩

/-- Settles O3: every store of the state after reset is empty. -/
theorem resetIsSound : Obligations.ResetIsSound :=
  ⟨State.reset_sound, rfl, rfl, rfl, rfl, rfl, rfl, State.get_reset, State.fill_reset⟩

end Sys2Proof.Machine
end

section
/-!
SUPPORT. A slice of the services with the dictionary server paused (O14): the server holds a response that the full ring 30 (STALL) has
no room for, and serves no request until the application has taken one (R38, R50).
-/
namespace Sys2Proof.Machine

/-- A response of the server to the application. -/
def someResponse : RingEntry := .odRsp { task := 0, service := 0x01, status := 0, payload := [] }

/-- The module with its services on pair 0, as ACTIVE: ring 30 is full, one more response waits for it, and ring 29 holds a request. -/
def pausedServer : State :=
  let s := { State.reset with power := { State.reset.power with boot := none } }
  let s := ((s.wr E.Twin.TWIN_ROLE 0).wr E.Dbl.SERVICES_PAIR 0).wr (E.Dbl.PAIR_STATE 0) 1
  (s.setRing 29 { q := [.odReq { req := { service := 0x01, payload := [] } }] }).setRing 30
    { q := List.replicate 512 someResponse, waiting := [someResponse], stallSince := some 0 }

/-- The services run, and no producer waits for a ring that O14 names. -/
theorem pausedServer_servicesUp :
    (pausedServer.advance 0).servicesUp = true
      ∧ ∀ k ∈ [26, 27, 29, 41, 43, 45] ++ portRings, (pausedServer.ring k).waiting = [] := by decide +kernel

/-- The slice takes no reset, and the request still waits on ring 29 after it. -/
theorem pausedServer_slice :
    ((pausedServer.advance 0).slice).power.boot = none ∧ (((pausedServer.advance 0).slice).ring 29).q.length = 1 := by decide +kernel

/-- Refutes O14: with ring 30 full and a response waiting for it the dictionary server pauses (R38, R50), so a slice leaves the
request of ring 29 where it is; the statement asks that no producer waits for the rings it names, and ring 30 is not among them. -/
theorem not_serviceSlicesServeTheRings : ¬ Obligations.ServiceSlicesServeTheRings := by
  unfold Obligations.ServiceSlicesServeTheRings
  rintro ⟨hslice, -⟩
  obtain ⟨hup, hnone⟩ := pausedServer_servicesUp
  obtain ⟨hboot, hlength⟩ := pausedServer_slice
  obtain ⟨t, ht, hserved, -⟩ := hslice pausedServer 0 hup hnone
  obtain rfl : (pausedServer.advance 0).slice = t := by injection ht
  obtain ⟨-, -, hempty⟩ := hserved hboot
  rw [hempty 29 (by decide)] at hlength
  exact absurd hlength (by decide)

end Sys2Proof.Machine
end

section
/-!
SUPPORT. Sessions of the object protocol: the one way in which the units change a session, what it leaves, and what a frame on its way out
leaves alone.
-/
namespace Sys2Proof.Machine

/-! ## One session changed -/

/-- The sessions with identifier `n` changed by `f`: what `setSession`, `setTransfer`, `setGroup` and `delivered` do. -/
def State.mapSession (s : State) (n : Nat) (f : Session → Session) : State :=
  { s with eop := { s.eop with sessions := s.eop.sessions.map (fun y => if y.id == n then f y else y) } }

/-- `f` leaves the identifier `n` of a session alone. -/
def KeepsId (n : Nat) (f : Session → Session) : Prop := ∀ y : Session, y.id = n → (f y).id = n

section
variable {s : State} {x : Session} {n m : Nat} {f g : Session → Session}

theorem State.session_id (h : s.session n = some x) : x.id = n := by
  simpa using List.find?_some h

@[simp] theorem State.session_advance (at_ : Nat) : (s.advance at_).session n = s.session n := rfl

theorem State.session_mapSession (hf : KeepsId n f) (m : Nat) :
    (s.mapSession n f).session m = (s.session m).map (fun y => if y.id == n then f y else y) := by
  have hp : ((fun y : Session => y.id == m) ∘ fun y => if y.id == n then f y else y) = fun y => y.id == m := by
    funext y
    by_cases hy : y.id = n
    · simp [hy, hf y hy]
    · simp [hy]
  simp only [State.session, State.mapSession, List.find?_map, hp]

theorem State.session_mapSession_self (hf : KeepsId n f) (h : s.session n = some x) : (s.mapSession n f).session n = some (f x) := by
  simp [State.session_mapSession hf, h, State.session_id h]

theorem State.session_mapSession_ne (hf : KeepsId n f) (hm : m ≠ n) : (s.mapSession n f).session m = s.session m := by
  rw [State.session_mapSession hf]
  cases h : s.session m with
  | none => rfl
  | some y => simp [State.session_id h, hm]

/-- Two changes of one session are one. -/
theorem State.mapSession_mapSession (hf : KeepsId n f) : (s.mapSession n f).mapSession n g = s.mapSession n (fun y => g (f y)) := by
  have h (y : Session) : (if (if y.id == n then f y else y).id == n then g (if y.id == n then f y else y) else if y.id == n then f y else y)
      = if y.id == n then g (f y) else y := by
    by_cases hy : y.id = n
    · simp [hy, hf y hy]
    · simp [hy]
  simp only [State.mapSession, List.map_map, Function.comp_def, h]

theorem State.session_setSession_self (h : s.session n = some x) (y : Session) (hy : y.id = n) : (s.setSession y).session n = some y := by
  subst hy
  exact State.session_mapSession_self (fun _ _ => rfl) h

theorem State.session_setSession_ne (y : Session) (hm : m ≠ y.id) : (s.setSession y).session m = s.session m :=
  State.session_mapSession_ne (fun _ _ => rfl) hm

theorem State.session_setTransfer_self (h : s.session n = some x) (t : Option Transfer) (b : Bool) :
    (s.setTransfer (.session n) t b).session n = some { x with transfer := t, timedOut := b } :=
  State.session_mapSession_self (f := fun x => { x with transfer := t, timedOut := b }) (fun _ h => h) h

theorem State.session_setTransfer_ne (t : Option Transfer) (b : Bool) (hm : m ≠ n) :
    (s.setTransfer (.session n) t b).session m = s.session m :=
  State.session_mapSession_ne (f := fun x => { x with transfer := t, timedOut := b }) (fun _ h => h) hm

theorem State.session_setGroup_self (h : s.session n = some x) (g : Option Group) :
    (s.setGroup (.session n) g).session n = some { x with group := g } :=
  State.session_mapSession_self (f := fun x => { x with group := g }) (fun _ h => h) h

theorem State.session_setGroup_ne (g : Option Group) (hm : m ≠ n) : (s.setGroup (.session n) g).session m = s.session m :=
  State.session_mapSession_ne (f := fun x => { x with group := g }) (fun _ h => h) hm

end

/-! ## Frames -/

section
variable {ps : List Part} {es : List Ent} {rs : List Nat} {s x : State}

theorem Frame.mapSession {n : Nat} {f : Session → Session} (h : Frame ps es rs s x) (hp : Part.eop ∈ ps) :
    Frame ps es rs s (x.mapSession n f) := h.with_eop hp

theorem Frame.setSession {y : Session} (h : Frame ps es rs s x) (hp : Part.eop ∈ ps) : Frame ps es rs s (x.setSession y) := h.with_eop hp

theorem Frame.setTransfer {n : Nat} {t : Option Transfer} {b : Bool} (h : Frame ps es rs s x) (hp : Part.eop ∈ ps) :
    Frame ps es rs s (x.setTransfer (.session n) t b) := h.with_eop hp

theorem Frame.setGroup {n : Nat} {g : Option Group} (h : Frame ps es rs s x) (hp : Part.eop ∈ ps) :
    Frame ps es rs s (x.setGroup (.session n) g) := h.with_eop hp

theorem Frame.clear {l : List Ent} (h : Frame ps es rs s x) (hl : ∀ e ∈ l, e ∈ es) : Frame ps es rs s (x.clear l) :=
  h.foldl (fun _ e he hy => hy.wr (hl e he))

theorem mem_portRings {k : Nat} : k ∈ portRings ↔ k < 16 := List.mem_range

/-- A datagram leaves on a transmit ring of its port, or on J16. -/
theorem Frame.sendEop {o : Origin} {c : Nat} {b : List Byte} (h : Frame ps es rs s x) (hp : Part.j16 ∈ ps) (hr : ∀ k ∈ portRings, k ∈ rs) :
    Frame ps es rs s (x.sendEop o c b) := by
  unfold State.sendEop
  refine Frame.ite (fun _ => h.with_j16 hp) (fun ho => h.place (hr _ (mem_portRings.2 ?_)))
  have := o.port.isLt
  dsimp only
  split <;> omega

theorem Frame.sendTagged {o : Origin} {y : Session} {a b c d : Nat} {p : List Byte} (h : Frame ps es rs s x) (he : Part.eop ∈ ps)
    (hp : Part.j16 ∈ ps) (hr : ∀ k ∈ portRings, k ∈ rs) : Frame ps es rs s (x.sendTagged o y a b c d p) :=
  (h.setSession he).sendEop hp hr

/-- The entries of filter `k` (Table NET-14). -/
def filterEnts (k : Nat) : List Ent :=
  [E.Quench.FILTER_STATE k, E.Quench.FILTER_MATCH k, E.Quench.FILTER_PORTS k, E.Quench.FILTER_NODE k, E.Quench.FILTER_HITS k,
    E.Quench.FILTER_INSTALLED k, E.Quench.INSTALL_LATENCY k]

theorem Frame.endFilter {k : Nat} (h : Frame ps es rs s x) (he : Part.eop ∈ ps) (hl : Part.ledger ∈ ps) (hr : 28 ∈ rs)
    (hk : ∀ e ∈ filterEnts k, e ∈ es) : Frame ps es rs s (x.endFilter k) := by
  have hnum : ∀ e ∈ (filterEnts k).eraseIdx 1, e ∈ es := fun e m => hk e ((List.eraseIdx_sublist ..).subset m)
  exact (((h.log hl hr).clear hnum).wrB (hk _ (.tail _ (.head _)))).with_eop he

theorem Frame.countSessions (h : Frame ps es rs s x) (he : E.Auth.SESSIONS_OPEN ∈ es) : Frame ps es rs s x.countSessions := h.wr he

theorem Frame.endSession {n : Nat} (h : Frame ps es rs s x) (hp : Part.eop ∈ ps) (he : E.Auth.SESSIONS_OPEN ∈ es) :
    Frame ps es rs s (x.endSession n) := (h.with_eop hp).countSessions he

end

/-! ## What a frame on its way out leaves -/

section
variable {s : State} {o : Origin} {c : Nat} {b : List Byte}

@[simp] theorem State.transmit_now (p : Nat) (f : TxFrame) : (s.transmit p f).now = s.now := by simp [State.transmit]
@[simp] theorem State.transmit_eop (p : Nat) (f : TxFrame) : (s.transmit p f).eop = s.eop := by simp [State.transmit]

@[simp] theorem State.sendEop_now : (s.sendEop o c b).now = s.now := by
  unfold State.sendEop
  split <;> simp

@[simp] theorem State.sendEop_eop : (s.sendEop o c b).eop = s.eop := by
  unfold State.sendEop
  split <;> simp

@[simp] theorem State.session_sendEop (n : Nat) : (s.sendEop o c b).session n = s.session n := by
  simp only [State.session, State.sendEop_eop]

@[simp] theorem State.mapSession_now (n : Nat) (f : Session → Session) : (s.mapSession n f).now = s.now := rfl
@[simp] theorem State.setSession_now (x : Session) : (s.setSession x).now = s.now := rfl

@[simp] theorem State.sendTagged_now (x : Session) (a d e g : Nat) (p : List Byte) : (s.sendTagged o x a d e g p).now = s.now := by
  simp [State.sendTagged]

/-- A frame within a session takes its next SEQUENCE (R79). -/
theorem State.sendTagged_eop (x : Session) (a d e g : Nat) (p : List Byte) :
    (s.sendTagged o x a d e g p).eop = (s.setSession { x with txSeq := (x.txSeq + 1) % 2 ^ 32 }).eop := by
  simp [State.sendTagged]

end

/-! ## The entries of a filter -/

section
variable {s : State} {k : Nat}

/-- An entry below the entries of the rings holds through an event on its way to the ledger. -/
theorem State.od_find_log (a b : Nat) (p : List Byte) {key : Nat} (hk : key / 256 ≠ 0x1B1C) : (s.log a b p).od.find key = s.od.find key :=
  (Frame.refl [.ledger] [] [28] s |>.log (by simp) (by simp)).2.2.1 key (by simp) (by simpa using hk)

theorem State.get_log (a b : Nat) (p : List Byte) {e : Ent} (he : e.key / 256 ≠ 0x1B1C) : (s.log a b p).get e = s.get e :=
  State.get_congr (State.od_find_log a b p he) (by simp)

@[simp] theorem State.clear_nil : s.clear [] = s := rfl
@[simp] theorem State.clear_cons (e : Ent) (l : List Ent) : s.clear (e :: l) = (s.wr e 0).clear l := rfl

@[simp] theorem State.rd_with_eop (v : EopSt) (e : Ent) : ({ s with eop := v } : State).rd e = s.rd e := rfl
@[simp] theorem State.rdB_with_eop (v : EopSt) (e : Ent) : ({ s with eop := v } : State).rdB e = s.rdB e := rfl

/-- A filter that has ended is in use no more (R75). -/
theorem State.endFilter_eop : (s.endFilter k).eop = { s.eop with quench := s.eop.quench.drop k } := by
  simp [State.endFilter]

@[simp] theorem State.endFilter_now : (s.endFilter k).now = s.now := by simp [State.endFilter]

theorem State.rd_clear_ne {l : List Ent} {e : Ent} (h : ∀ f ∈ l, e.key ≠ f.key) : (s.clear l).rd e = s.rd e := by
  induction l generalizing s with
  | nil => rfl
  | cons f l ih =>
    rw [State.clear_cons, ih fun g hg => h g (.tail _ hg), State.rd_wr_ne _ _ _ _ (h f (.head _))]

/-- An entry among those that are cleared reads 0. -/
theorem State.rd_clear_of_mem {l : List Ent} {e : Ent} (he : e ∈ l) (hl : ∀ f ∈ l, e.key = f.key → f = e) : (s.clear l).rd e = 0 := by
  induction l generalizing s with
  | nil => cases he
  | cons f l ih =>
    by_cases hm : e ∈ l
    · exact ih hm fun g hg => hl g (.tail _ hg)
    · obtain rfl : e = f := by simpa [hm] using he
      have hne : ∀ g ∈ l, e.key ≠ g.key := fun g hg hk => hm (hl g (.tail _ hg) hk ▸ hg)
      rw [State.clear_cons, State.rd_clear_ne hne, State.rd_wr_self, Nat.zero_mod]

theorem State.rd_endFilter_state : (s.endFilter k).rd (E.Quench.FILTER_STATE k) = 0 := by
  have hmatch : (E.Quench.FILTER_STATE k).key ≠ (E.Quench.FILTER_MATCH k).key := by
    simp [E.Quench.FILTER_STATE, E.Quench.FILTER_MATCH, entN, entB]
  simp only [State.endFilter, State.rd_with_eop, State.rd_wrB_ne _ _ _ _ hmatch]
  refine State.rd_clear_of_mem (.head _) fun f hf hk => ?_
  simp only [List.mem_cons, List.not_mem_nil, or_false] at hf
  rcases hf with rfl | rfl | rfl | rfl | rfl | rfl
  · rfl
  all_goals
    simp only [E.Quench.FILTER_STATE, E.Quench.FILTER_PORTS, E.Quench.FILTER_NODE, E.Quench.FILTER_HITS, E.Quench.FILTER_INSTALLED,
      E.Quench.INSTALL_LATENCY, entN] at hk
    omega

theorem State.rdB_endFilter_match : (s.endFilter k).rdB (E.Quench.FILTER_MATCH k) = [] := by
  simp only [State.endFilter, State.rdB_with_eop, State.rdB_wrB_self]

end

end Sys2Proof.Machine
end

section
/-!
SUPPORT. The timeouts of the object protocol (O11).
-/
namespace Sys2Proof.Machine

section
variable {s : State} {x : Session} {n : Nat}

theorem State.transferOf_session (n : Nat) :
    s.transferOf (.session n) = ((s.session n).map (fun x => (x.transfer, x.timedOut))).getD (none, false) := rfl

theorem State.expireTransfer_of_stale (hx : s.session n = some x) {f : Transfer} (hf : x.transfer = some f)
    (hstale : f.lastReq + 5000000000 ≤ (s.now : Int)) :
    s.expireTransfer (.session n) = s.setTransfer (.session n) none true := by
  simp [State.expireTransfer, State.transferOf_session, hx, hf, State.staleTransfer, hstale]

/-- The group of a session counts while its last request is younger than 10 s (R70). -/
theorem State.groupOf_session (hx : s.session n = some x) :
    s.groupOf (.session n) = x.group.bind (fun g => if g.lastReq + 10000000000 ≤ (s.now : Int) then none else some g) := by
  change (match (s.session n).bind (fun x => x.group) with
    | some g => if g.lastReq + 10000000000 ≤ (s.now : Int) then none else some g
    | none => none) = _
  rw [hx, Option.bind_some]
  cases x.group <;> rfl

theorem State.groupOf_of_stale (hx : s.session n = some x) {g : Group} (hg : x.group = some g)
    (hstale : g.lastReq + 10000000000 ≤ (s.now : Int)) : s.groupOf (.session n) = none := by
  simp [State.groupOf_session hx, hg, hstale]

theorem State.session_endSession_self : (s.endSession n).session n = none := by
  change List.find? _ (List.filter _ _) = none
  simp [List.find?_filter]

theorem State.rd_endSession_open : (s.endSession n).rd E.Auth.SESSIONS_OPEN = (s.endSession n).eop.sessions.length % 256 := by
  rw [State.endSession, State.countSessions, State.rd_wr_self]
  rfl

/-- The sampled subscription of a session: its instants, its last value and its number move on (R71, R72). -/
def Subscription.sampled (u : Subscription) (now : Nat) (v : Value) : Subscription :=
  { u with lastSample := now, lastNotify := now, lastValue := some v, seq := (u.seq + 1) % 65536 }

/-- The session with the subscription `k` replaced. -/
def Session.withSub (x : Session) (k : Nat) (w : Subscription) : Session :=
  { x with subs := x.subs.map (fun z => if z.id == k then w else z) }

theorem find_map_sub {l : List Subscription} {k : Nat} {u w : Subscription} (hu : l.find? (fun z => z.id == k) = some u) (hw : w.id = k) :
    (l.map (fun z => if z.id == k then w else z)).find? (fun z => z.id == k) = some w := by
  have hp : ((fun z : Subscription => z.id == k) ∘ fun z => if z.id == k then w else z) = fun z => z.id == k := by
    funext z
    by_cases hz : z.id = k <;> simp [hz, hw]
  have hk : u.id = k := by simpa using List.find?_some hu
  rw [List.find?_map, hp, hu]
  simp [hk]

/-- A subscription of mode 0 whose period has passed is sampled and notified (R71). -/
theorem State.checkSubscription_of_due {k : Nat} {u : Subscription} (hx : s.session n = some x) (hu : x.subs.find? (fun u => u.id == k) = some u)
    (hmode : u.mode = 0) (hdue : u.lastSample + 1000000 * (u.periodMs : Int) ≤ (s.now : Int)) {ty : Ty} {v : Value}
    (hv : s.readEntry (.session n) u.key = (0, ty, v)) :
    s.checkSubscription n k = (s.setSession (x.withSub k (u.sampled s.now v))).notify (x.withSub k (u.sampled s.now v)) u ty v := by
  have hnot : ¬ (s.now : Int) < u.lastSample + 1000000 * (u.periodMs : Int) := by omega
  simp [State.checkSubscription, hx, hu, hmode, hnot, hv, Session.withSub, Subscription.sampled]

theorem State.session_notify_self {u : Subscription} {ty : Ty} {v : Value} (hx : s.session n = some x) :
    (s.notify x u ty v).session n = some { x with txSeq := (x.txSeq + 1) % 2 ^ 32 } := by
  unfold State.notify State.sendTagged
  rw [State.session_sendEop]
  exact State.session_setSession_self hx { x with txSeq := _ } (show x.id = n from State.session_id hx)

theorem State.session_notify_ne {u : Subscription} {ty : Ty} {v : Value} {m : Nat} (hm : m ≠ x.id) :
    (s.notify x u ty v).session m = s.session m := by
  unfold State.notify State.sendTagged
  rw [State.session_sendEop]
  exact State.session_setSession_ne { x with txSeq := _ } hm

/-- What an expiry keeps of a list: all but the elements of its key whose end has come. -/
theorem mem_filter_unless {α : Type} {l : List α} {c : α} {key : α → Nat} {k : Nat} {p : α → Prop} [DecidablePred p] (hc : c ∈ l) :
    c ∈ l.filter (fun c => key c != k || decide (p c)) ↔ (key c = k → p c) := by
  simp only [List.mem_filter, hc, true_and, Bool.or_eq_true, bne_iff_ne, decide_eq_true_eq, imp_iff_not_or, ne_eq]

theorem Frame.notify {ps : List Part} {es : List Ent} {rs : List Nat} {t : State} {u : Subscription} {ty : Ty} {v : Value}
    (h : Frame ps es rs s t) (he : Part.eop ∈ ps) (hp : Part.j16 ∈ ps) (hr : ∀ k ∈ portRings, k ∈ rs) :
    Frame ps es rs s (t.notify x u ty v) := h.sendTagged he hp hr

end

/-- Settles O11: each timeout is one change of one session, of a list, or of a filter; a due check of mode 0 samples and notifies. -/
theorem timeoutsOfTheObjectProtocol : Obligations.TimeoutsOfTheObjectProtocol := by
  unfold Obligations.TimeoutsOfTheObjectProtocol
  refine ⟨fun s at_ n x hx f hf hstale => ?_, fun s at_ n x hx g hg hstale => ?_, fun s at_ n k hup x hx u hu hmode hdue v hv hst => ?_,
    fun s at_ k => ?_, fun s at_ ip => ?_, fun s at_ n x hx hidle => ?_, fun s at_ k hk q hq e he hend => ?_⟩
  · have hself := State.session_setTransfer_self (s := s.advance at_) hx none true
    refine ⟨(s.advance at_).setTransfer (.session n) none true, ?_, by rw [hself]; rfl, by rw [hself]; rfl,
      fun m hm => State.session_setTransfer_ne (s := s.advance at_) _ _ hm, rfl, (Frame.refl ..).advance.setTransfer (by simp)⟩
    exact congrArg Host.Outcome.next (State.expireTransfer_of_stale (s := s.advance at_) hx hf hstale)
  · have hnone := State.groupOf_of_stale (s := s.advance at_) hx hg hstale
    refine ⟨(s.advance at_).setGroup (.session n) none, ?_, by rw [State.session_setGroup_self (s := s.advance at_) hx]; rfl,
        fun m hm => State.session_setGroup_ne (s := s.advance at_) _ hm, rfl, (Frame.refl ..).advance.setGroup (by simp)⟩
    change Host.Outcome.next (if ((s.advance at_).groupOf (.session n)).isNone then _ else _) = _
    rw [hnone]
    rfl
  · obtain ⟨st, ty, v⟩ := v
    obtain rfl : st = 0 := hst
    have hid : x.id = n := State.session_id hx
    have huid : u.id = k := by simpa using List.find?_some hu
    have hnow : (s.advance at_).now = s.instant at_ := rfl
    refine ⟨(s.advance at_).checkSubscription n k, by simp [exec, execSubscriptionCheck, hup], ?_⟩
    rw [State.checkSubscription_of_due (s := s.advance at_) hx hu hmode hdue hv.symm, hnow]
    generalize hy : x.withSub k (u.sampled (s.instant at_) v) = y
    have hyid : y.id = n := hy ▸ hid
    have hself := State.session_notify_self (u := u) (ty := ty) (v := v) (State.session_setSession_self (s := s.advance at_) hx y hyid)
    refine ⟨?_, ?_, fun m hm => ?_, ?_, ?_⟩
    · rw [hself, ← hy]
      exact congrArg some (find_map_sub hu huid)
    · rw [hself, ← hy]
      rfl
    · rw [State.session_notify_ne (by omega), State.session_setSession_ne _ (by omega)]
      rfl
    · exact State.sendTagged_now ..
    · exact ((Frame.refl ..).advance.setSession (by simp)).notify (by simp) (by simp) (by simp)
  · exact ⟨_, rfl, fun c hc => mem_filter_unless hc, rfl, rfl, (Frame.refl ..).advance.with_eop (by simp)⟩
  · exact ⟨_, rfl, fun b hb => mem_filter_unless hb, rfl, rfl, (Frame.refl ..).advance.with_eop (by simp)⟩
  · refine ⟨(s.advance at_).endSession n, ?_, ?_, State.rd_endSession_open, fun y hy hne => ?_, rfl, rfl,
      (Frame.refl ..).advance.endSession (by simp) (by simp)⟩
    · have : (s.advance at_).idle x = true := decide_eq_true hidle
      simp [exec, execSessionIdleTimeout, hx, this]
    · rw [State.session_endSession_self]
      rfl
    · exact List.mem_filter.2 ⟨hy, by simpa using hne⟩
  · have hexec : exec (.quenchFilterExpiry at_ k) s = .next ((s.advance at_).endFilter k) := by
      have hdue : e ≤ (s.advance at_).now := hend
      simp only [exec, execQuenchFilterExpiry, State.filterExpiry, State.advance_eop, hq, he, hdue, if_true]
    refine ⟨_, hexec, ?_, State.rd_endFilter_state, fun j _ hj => ?_, State.endFilter_now,
      (Frame.refl ..).advance.endFilter (by simp) (by simp) (by simp) (fun _ h => h)⟩
    · rw [State.endFilter_eop, SMap.find_drop_self]
    · rw [State.endFilter_eop, SMap.find_drop_ne _ hj]
      rfl

end Sys2Proof.Machine
end

section
/-!
SUPPORT. A write of the dictionary: what its checks answer (R45 to R48, R69), what an accepted and a refused one leave (R49, R53), and the
entry at a key of the tables (R44, R46).
-/
namespace Sys2Proof.Machine

/-! ## Checks in order -/

theorem firstBad_pair (a b : Nat) : firstBad [a, b] = if a = 0 then b else a := by
  simp only [firstBad]
  split
  · split <;> simp_all
  · rfl

theorem firstBad_eq_zero {l : List Nat} : firstBad l = 0 ↔ ∀ n ∈ l, n = 0 := by
  induction l with
  | nil => simp [firstBad]
  | cons n l ih =>
    by_cases hn : n = 0 <;> simp [firstBad, hn, ih]

section
variable {s : State} {w : Writer} {key : Nat} {ty : Option Ty} {v : Value} {at_ : Nat} {f : State → State × Nat}

theorem State.chkWrite_eq (s : State) (w : Writer) (key : Nat) (ty : Option Ty) (v : Value) :
    s.chkWrite w key ty (some v) = if s.chkForm w key ty (some v) = 0 then s.chkStore w key v else s.chkForm w key ty (some v) :=
  firstBad_pair _ _

theorem State.chkWrite_eq_zero : s.chkWrite w key ty (some v) = 0 ↔ s.chkForm w key ty (some v) = 0 ∧ s.chkStore w key v = 0 := by
  rw [State.chkWrite_eq]
  split <;> simp_all

/-! ## The shared step -/

theorem State.dictStep_of_down (h : s.servicesUp = false) : s.dictStep w f = s := by
  simp [State.dictStep, h]

theorem State.dictStep_of_absent (hup : s.servicesUp = true) (hw : s.writerOk w = false) : s.dictStep w f = { s with odStatus := 0x10 } := by
  simp [State.dictStep, hup, hw]

theorem State.dictStep_of_present (hup : s.servicesUp = true) (hw : s.writerOk w = true) :
    s.dictStep w f = { (f s).1 with odStatus := (f s).2 } := by
  simp [State.dictStep, hup, hw]

/-- A write that its form refuses changes nothing (R44 to R47). -/
theorem State.write_of_badForm (h : s.chkForm w key ty (some v) ≠ 0) : s.write w key ty (some v) = (s, s.chkForm w key ty (some v)) := by
  unfold State.write
  generalize s.chkForm w key ty (some v) = st at h
  cases st with
  | zero => exact absurd rfl h
  | succ n => rfl

/-- A write in form that its value or its block refuses leaves what `refuseWrite` leaves (R48, R69). -/
theorem State.write_of_badStore (hf : s.chkForm w key ty (some v) = 0) (hs : s.chkStore w key v ≠ 0) :
    s.write w key ty (some v) = (s.refuseWrite w key v (s.chkStore w key v), s.chkStore w key v) := by
  simp [State.write, hf, hs]

/-- A write that passes every check is stored, has its effect, and is a commit of the services (R49, R134). -/
theorem State.write_of_accepted (h : s.chkWrite w key ty (some v) = 0) :
    s.write w key ty (some v) = ((s.commitWrite w key v).servicesCommit, 0) := by
  obtain ⟨hf, hs⟩ := State.chkWrite_eq_zero.1 h
  simp [State.write, hf, hs]

/-- A write of an entry whose response awaits no abort answers its own status (R83). -/
theorem State.writeStep_eq {ty : Ty} {t : State} {st : Nat} (hup : s.servicesUp = true) (hw : s.writerOk w = true)
    (h : s.write w key (some ty) (some v) = (t, st)) (ha : st = 0 → abortOf s t key v = none) :
    s.writeStep w key ty v = { t with odStatus := st } := by
  rw [State.writeStep, State.dictStep_of_present hup hw, h]
  by_cases hst : st = 0
  · simp [hst, ha hst]
  · simp [hst]

/-- An accepted write of an entry outside the aborts. -/
theorem State.writeStep_of_accepts {ty : Ty} (h : s.accepts at_ w key ty v)
    (ha : ∀ t : State, abortOf (s.advance at_) t key v = none) :
    (s.advance at_).writeStep w key ty v = { ((s.advance at_).commitWrite w key v).servicesCommit with odStatus := 0 } := by
  obtain ⟨hup, hw, hc⟩ := h
  exact State.writeStep_eq hup hw (State.write_of_accepted hc) fun _ => ha _

end

/-! ## The entry at a key of the tables -/

section
variable {s : State} {key : Nat} {r : Row × Ent}

theorem tableRow_index (h : tableRow key = some r) : (tables.find? (fun t => (segPos t.segs (key / 256) 0).isSome)).isSome = true := by
  obtain ⟨t, ht, hr⟩ := List.exists_of_findSome?_eq_some h
  refine List.find?_isSome.2 ⟨t, ht, ?_⟩
  split at hr
  · cases hr
  · next k hk => simp [hk]

/-- A module with valid firmware has the entries of the tables (R44, R46). -/
theorem State.entryAt_of_tableRow (hb : s.power.bare = false) (hi : key / 256 < 0x4400 ∨ 0x4800 ≤ key / 256) (hx : key / 256 < 0x8000)
    (hsub : key % 256 ≠ 0) (h : tableRow key = some r) : s.entryAt key = .ok r := by
  have hn : ∃ n, s.subCount (key / 256) = some n := by
    have hbank : ¬ (0x4400 ≤ key / 256 ∧ key / 256 < 0x4800) := by omega
    have hexp : ¬ (0x8000 ≤ key / 256 ∧ key / 256 < 0xC000) := by omega
    simp only [State.subCount, Bool.and_eq_true, decide_eq_true_eq, hbank, hexp, if_false]
    exact Option.isSome_iff_exists.1 (by rw [Option.isSome_map]; exact tableRow_index h)
  obtain ⟨n, hn⟩ := hn
  simp [State.entryAt, hb, hn, hsub, h]

end

end Sys2Proof.Machine
end

section
/-!
SUPPORT. What the store of an accepted write touches: the retained partition (R53), the delta to the standby (R484, R485) and the commit of
the services (R134).
-/
namespace Sys2Proof.Machine

/-! ## Frames of a commit -/

section
variable {ps : List Part} {es : List Ent} {rs : List Nat} {s x : State} {e : Ent}

/-- An entry outside a frame holds what it held. -/
theorem Frame.get (h : Frame ps es rs s x) (hp : Part.rt ∉ ps) (he : ∀ f ∈ es, e.key ≠ f.key) (hr : ∀ r ∈ rs, e.key / 256 ≠ 0x1B00 + r) :
    x.get e = s.get e := State.get_congr (h.2.2.1 e.key he hr) (h.2.1 .rt hp)

theorem Frame.rd (h : Frame ps es rs s x) (hp : Part.rt ∉ ps) (he : ∀ f ∈ es, e.key ≠ f.key) (hr : ∀ r ∈ rs, e.key / 256 ≠ 0x1B00 + r) :
    x.rd e = s.rd e := congrArg valNat (h.get hp he hr)

theorem Frame.with_odStatus {n : Nat} (h : Frame ps es rs s x) (hp : Part.answer ∈ ps) : Frame ps es rs s { x with odStatus := n } := by
  refine h.trans ⟨rfl, fun p hn => ?_, fun _ _ _ => rfl, fun _ _ => rfl⟩
  cases p <;> simp_all [Part.same]

theorem Frame.pushBlock {k : Nat} {l : List RingEntry} (h : Frame ps es rs s x) (hk : k ∈ rs) : Frame ps es rs s (x.pushBlock k l).1 := by
  unfold State.pushBlock
  split
  · exact h
  · split
    · exact h.foldl (fun _ _ _ hy => hy.append hk)
    · exact h.ringEnt hk (ringRefusals_index k)

/-- In an ACTIVE module a resynchronisation is counted and recorded (R481, R501). -/
theorem Frame.startResync (h : Frame ps es rs s x) (ha : x.rd E.Twin.TWIN_ROLE = 0) (ht : Part.twin ∈ ps) (hl : Part.ledger ∈ ps) (hr : 28 ∈ rs)
    (he : E.Twin.RESYNCS ∈ es) : Frame ps es rs s x.startResync := by
  have hrole : (({ x with twin := { x.twin with synced := false } } : State).inc E.Twin.RESYNCS).rd E.Twin.TWIN_ROLE ≠ 1 := by
    rw [State.rd_inc_ne _ _ _ (by decide)]
    exact fun hc => absurd (ha.symm.trans hc) (by decide)
  unfold State.startResync State.logTwin
  rw [if_neg hrole]
  exact ((h.with_twin ht).inc he).log hl hr

theorem Frame.sendDelta {a b : Nat} {l : List (Nat × Nat)} (h : Frame ps es rs s x) (hp : ∀ p ∈ [Part.free, .twin, .ledger], p ∈ ps)
    (hr : ∀ r ∈ [28, 31], r ∈ rs) (he : ∀ f ∈ [E.Twin.GEN_SENT, E.Twin.DELTA_LAST, E.Twin.DELTA_MAX, E.Twin.RESYNCS], f ∈ es) :
    Frame ps es rs s (x.sendDelta a b l) := by
  unfold State.sendDelta
  refine Frame.ite (fun _ => h) (fun hx => ?_)
  have ha : x.rd E.Twin.TWIN_ROLE = 0 := by
    simp only [Bool.or_eq_true, Bool.not_eq_true', not_or, State.active] at hx
    simpa using hx.1.1.2
  extract_lets +onlyGivenNames pages recs bytes
  clear_value pages recs bytes
  refine Frame.ite (fun _ => ?_) (fun _ => ?_)
  · exact (h.with_twin (hp _ (by simp))).startResync ha (hp _ (by simp)) (hp _ (by simp)) (hr _ (by simp)) (he _ (by simp))
  · extract_lets +onlyGivenNames g entries
    clear_value g entries
    split
    next y ok hy =>
    have hpush : Frame ps es rs s y := by
      rw [← show _ = y from congrArg Prod.fst hy]
      exact (h.drawn (hp _ (by simp))).pushBlock (hr _ (by simp))
    refine Frame.ite (fun _ => hpush.with_twin (hp _ (by simp))) (fun _ => ?_)
    exact (((hpush.with_twin (hp _ (by simp))).wr (he _ (by simp))).wr (he _ (by simp))).raise (he _ (by simp))

theorem Frame.mirror {key : Nat} (h : Frame ps es rs s x) (hp : ∀ p ∈ [Part.free, .twin, .ledger], p ∈ ps)
    (hr : ∀ r ∈ [28, 31], r ∈ rs) (he : ∀ f ∈ [E.Twin.GEN_SENT, E.Twin.DELTA_LAST, E.Twin.DELTA_MAX, E.Twin.RESYNCS], f ∈ es) :
    Frame ps es rs s (x.mirror key) := by
  unfold State.mirror
  exact Frame.ite (fun _ => h) (fun _ => h.sendDelta hp hr he)

theorem Frame.mirrored {key : Nat} (h : Frame ps es rs s x) (hp : ∀ p ∈ [Part.free, .twin, .ledger], p ∈ ps)
    (hr : ∀ r ∈ [28, 31], r ∈ rs) (he : ∀ f ∈ [E.Twin.GEN_SENT, E.Twin.DELTA_LAST, E.Twin.DELTA_MAX, E.Twin.RESYNCS], f ∈ es) :
    Frame ps es rs s (x.mirrored key) := by
  unfold State.mirrored
  exact Frame.ite (fun _ => h.mirror hp hr he) (fun _ => h)

theorem Frame.servicesCommit (h : Frame ps es rs s x) (he : ∀ f ∈ genEnts, f ∈ es) : Frame ps es rs s x.servicesCommit := by
  unfold State.servicesCommit
  refine Frame.ite (fun hn => h.wr (he _ ?_)) (fun _ => h)
  exact List.mem_map.2 ⟨_, List.mem_range.2 hn, rfl⟩

end

/-! ## TB3 through a commit -/

section
variable {s : State}

@[simp] theorem State.servicesCommit_now : s.servicesCommit.now = s.now := by
  unfold State.servicesCommit
  split <;> rfl

theorem State.startResync_now (h : s.rd E.Twin.TWIN_ROLE ≠ 1) : s.startResync.now = s.now := by
  have hrole : (({ s with twin := { s.twin with synced := false } } : State).inc E.Twin.RESYNCS).rd E.Twin.TWIN_ROLE ≠ 1 := by
    rwa [State.rd_inc_ne _ _ _ (by decide)]
  unfold State.startResync State.logTwin
  rw [if_neg hrole]
  simp

@[simp] theorem State.pushBlock_now (k : Nat) (l : List RingEntry) : (s.pushBlock k l).1.now = s.now := by
  have happend (s : State) : (l.foldl (fun s e => s.append k e) s).now = s.now := by
    induction l generalizing s with
    | nil => rfl
    | cons e l ih => exact (ih _).trans (by simp)
  unfold State.pushBlock
  split
  · rfl
  · split
    · exact happend s
    · rfl

@[simp] theorem State.sendDelta_now (a b : Nat) (l : List (Nat × Nat)) : (s.sendDelta a b l).now = s.now := by
  unfold State.sendDelta
  split
  · rfl
  · next hx =>
    have ha : s.rd E.Twin.TWIN_ROLE ≠ 1 := by
      simp only [Bool.or_eq_true, Bool.not_eq_true', not_or, State.active] at hx
      simp [show s.rd E.Twin.TWIN_ROLE = 0 by simpa using hx.1.1.2]
    have hpush (l : List RingEntry) (y : State) (ok : Bool) (hy : s.drawn.pushBlock 31 l = (y, ok)) : y.now = s.now := by
      rw [← show _ = y from congrArg Prod.fst hy]
      simp
    extract_lets +onlyGivenNames pages recs bytes
    clear_value pages recs bytes
    split
    · exact State.startResync_now (s := { s with twin := { s.twin with owedPages := 0, owedRecs := [] } }) ha
    · extract_lets +onlyGivenNames g entries
      clear_value g entries
      split
      next y ok hy => split <;> simp [hpush _ _ _ hy]

@[simp] theorem State.mirrored_now (key : Nat) : (s.mirrored key).now = s.now := by
  simp only [State.mirrored, State.mirror]
  split
  · split
    · rfl
    · exact State.sendDelta_now ..
  · rfl

end

end Sys2Proof.Machine
end

section
/-!
SUPPORT. The retained-settings partition (R53): a block written holds its cell in the newest copy, so an entry that was just stored is
restored and is not invalid (R54).
-/
namespace Sys2Proof.Machine

/-- A generation does not follow its successor, and the successor follows it (log 181). -/
theorem genFollows_succ (g : Nat) : genFollows g ((g + 1) % 2 ^ 32) = false ∧ genFollows ((g + 1) % 2 ^ 32) g = true := by
  simp only [genFollows, decide_eq_false_iff_not, decide_eq_true_eq]
  omega

/-- A block that was written has a newest copy, with the cells of the old one and the written cell. -/
theorem Block.newest_write (b : Block) (release key : Nat) (v : Value) :
    ∃ c : BlockCopy, (b.write release key v).newest = some c ∧ c.cells = (b.newest.getD {}).cells.put key v := by
  obtain ⟨hold, hnew⟩ := genFollows_succ b.x.gen
  obtain ⟨hold', hnew'⟩ := genFollows_succ b.y.gen
  cases hx : b.x.ok <;> cases hy : b.y.ok <;> cases hg : genFollows b.x.gen b.y.gen <;>
    simp_all [Block.write, Block.newest]

/-- Block `b` of the partition has a value for entry `key`. -/
def BlockHolds (m : SMap Block) (b key : Nat) : Prop := (((m.fetch {} b).newest.getD {}).cells.find key).isSome = true

theorem missing_of_holds {m : SMap Block} {b key : Nat} (h : BlockHolds m b key) : missing m b key = false := by
  unfold BlockHolds at h
  simp [missing]
  exact fun _ => h

section
variable {m : SMap Block} {release key k b j : Nat} {v : Value}

/-- A block written with the cell of `key` holds it. -/
theorem blockHolds_write_self : BlockHolds (m.modify {} b (fun x => x.write release key v)) b key := by
  obtain ⟨c, hc, hcells⟩ := (m.fetch {} b).newest_write release key v
  simp [BlockHolds, hc, hcells]

/-- A write takes no cell from a block. -/
theorem BlockHolds.write (h : BlockHolds m j k) : BlockHolds (m.modify {} b (fun x => x.write release key v)) j k := by
  by_cases hj : j = b
  · subst hj
    obtain ⟨c, hc, hcells⟩ := (m.fetch {} j).newest_write release key v
    by_cases hk : k = key
    · simp [BlockHolds, hc, hcells, hk]
    · simpa [BlockHolds, hc, hcells, hk] using h
  · simpa [BlockHolds, hj] using h

theorem BlockHolds.writes {l : List Nat} (h : BlockHolds m j k) :
    BlockHolds (l.foldl (fun m b => m.modify {} b (fun x => x.write release key v)) m) j k := by
  induction l generalizing m with
  | nil => exact h
  | cons b l ih => exact ih h.write

theorem blockHolds_writes_self {l : List Nat} (hj : j ∈ l) :
    BlockHolds (l.foldl (fun m b => m.modify {} b (fun x => x.write release key v)) m) j key := by
  induction l generalizing m with
  | nil => cases hj
  | cons b l ih =>
    rcases List.mem_cons.1 hj with rfl | hj
    · exact blockHolds_write_self.writes
    · exact ih hj

/-- What is stored in the partition is missing in none of its blocks. -/
theorem State.blockHolds_retain {s : State} (hj : j ∈ blocksOf key) : BlockHolds (s.retain key v).blocks j key :=
  BlockHolds.writes (blockHolds_writes_self hj)

end

/-- An entry that was just stored is not invalid (R54). -/
theorem State.invalidEntry_of_stored {s t : State} {key : Nat} {v : Value} (h : t.blocks = (s.retain key v).blocks) :
    t.invalidEntry key = false := by
  have hany : (blocksOf key).any (fun b => t.eop.invalid.contains b && missing t.blocks b key) = false := by
    refine List.any_eq_false.2 fun b hb => ?_
    rw [h, missing_of_holds (State.blockHolds_retain hb)]
    simp
  rw [State.invalidEntry, hany, Bool.and_false]

end Sys2Proof.Machine
end

section
/-!
SUPPORT. How a write is stored by the retention of its row (R49, R53).
-/
namespace Sys2Proof.Machine

section
variable {s : State} {w : Writer} {key : Nat} {v : Value} {row : Row} {e : Ent}

theorem State.bare_of_servicesUp (h : s.servicesUp = true) : s.power.bare = false := by
  simp only [State.servicesUp, Bool.and_eq_true] at h
  simpa using h.1.2

theorem State.get_putR_self (he : e.key ≠ E.Restore.RETAINED_WRITES.key) : (s.putR e v).get e = v := by
  have hod : (s.putR e v).od.find e.key = (s.put e v).od.find e.key := by
    simp [State.putR, State.retain, State.addTo, State.wr, State.put_find_ne _ _ _ he]
  rw [State.get_congr hod (by simp), State.get_put_self]

/-- A RETAINED entry is stored in its block as well (R53). -/
theorem State.storeValue_retained (he : s.entryAt key = .ok (row, e)) (hx : key / 256 < 0x8000) (hs : selfStored key = false)
    (hr : row.ret = .retained) : s.storeValue key v = s.putR e v := by
  simp [State.storeValue, he, hs, hr, Nat.not_le.2 hx]

theorem State.storeValue_volatile (he : s.entryAt key = .ok (row, e)) (hx : key / 256 < 0x8000) (hs : selfStored key = false)
    (hr : row.ret ≠ .retained) (ha : row.acc = .rw) : s.storeValue key v = s.put e v := by
  simp [State.storeValue, he, hs, hr, ha, Nat.not_le.2 hx]

/-- A command stores nothing. -/
theorem State.storeValue_command (he : s.entryAt key = .ok (row, e)) (hx : key / 256 < 0x8000)
    (hr : row.ret ≠ .retained) (ha : row.acc ≠ .rw) : s.storeValue key v = s := by
  simp [State.storeValue, he, hr, ha, Nat.not_le.2 hx]

end

end Sys2Proof.Machine
end
section
/-!
O12. The keys of the levels (Table DIC-15, R81).
-/
namespace Sys2Proof.Machine

/-- The entry of the key of a level (Table DIC-15). -/
def keyEnt : Level → Ent
  | .viewer => E.Auth.KEY_VIEWER
  | .operator => E.Auth.KEY_OPERATOR
  | .engineer => E.Auth.KEY_ENGINEER
  | .service => E.Auth.KEY_SERVICE

theorem keyEnt_key (l : Level) : (keyEnt l).key = 0x110001 + levelNum l := by
  cases l <;> rfl

/-- The row of a key: 32 bytes, write-only, RETAINED, written in any mode. -/
theorem tableRow_key (l : Level) : ∃ row : Row, tableRow (keyEnt l).key = some (row, keyEnt l) ∧ row.acc = .wo ∧ row.ret = .retained
    ∧ row.ty = .octets ∧ row.level = .service ∧ row.cond = 0 ∧ row.range = .len 32 32 := by
  cases l <;> exact ⟨_, rfl, rfl, rfl, rfl, rfl, rfl, rfl⟩

section
variable {s : State} {w : Writer} {l : Level} {b : List Byte} {v : Value} {st : Nat}

theorem State.levelKey_eq (s : State) (l : Level) :
    s.levelKey (levelNum l) = if s.invalidEntry (keyEnt l).key then [] else s.rdB (keyEnt l) := by
  cases l <;> rfl

theorem keyEnt_index (l : Level) : (keyEnt l).key / 256 = 0x1100 := by
  cases l <;> rfl

theorem keyEnt_plain (l : Level) : (keyEnt l).key % 256 ≠ 0 ∧ selfStored (keyEnt l).key = false ∧ ownEntry (keyEnt l).key = true
    ∧ maintenanceKey (keyEnt l).key = true ∧ (keyEnt l).key ≠ 0x602002 ∧ (keyEnt l).key ≠ 0x700202 := by
  cases l <;> decide

theorem State.reached_key (s : State) (l : Level) (v : Value) : s.reached (keyEnt l).key v = s := by
  cases l <;> rfl

/-- A new key is recorded with its level and the writing node (R81, R505). -/
theorem State.effOwner_key (s : State) (w : Writer) (l : Level) (v : Value) :
    s.effOwner w (keyEnt l).key v = s.log 0x02 0x04 (vU8 (levelNum l) ++ vU32 w.node) := by
  cases l <;> rfl

theorem State.chkOwner_key (s : State) (w : Writer) (l : Level) (v : Value) : s.chkOwner w (keyEnt l).key v = 0 := by
  cases l <;> rfl

theorem abortOf_key (s t : State) (l : Level) (v : Value) : abortOf s t (keyEnt l).key v = none := by
  cases l <;> rfl

/-- A Service session over J16 may write a key. -/
theorem State.chkForm_key_of_service (hb : s.power.bare = false) (hj : w.j16 = true) (hl : w.level = .service) (hn : w.session.isSome = true)
    (hv : b.length ≤ maxBytes .octets) : s.chkForm w (keyEnt l).key (some .octets) (some (.bytes b)) = 0 := by
  obtain ⟨row, hrow, hacc, -, hty, hlevel, -⟩ := tableRow_key l
  obtain ⟨hsub, -, -, hmaint, hrun, hclear⟩ := keyEnt_plain l
  have he := State.entryAt_of_tableRow (s := s) hb (by simp [keyEnt_index]) (by simp [keyEnt_index]) hsub hrow
  have hlen : lengthOk .octets (.bytes b) = true := by simpa [lengthOk, byteType] using hv
  simp [State.chkForm, he, hacc, hmaint, keyEnt_index, writeLevel, hrun, hlevel, beq_false_of_ne hclear, hty, hlen, hj, hl, hn, firstBad, need]

/-- No other writer may (R81). -/
theorem State.chkForm_key_of_other (hb : s.power.bare = false) (hw : w.j16 = false ∨ w.level ≠ .service ∨ w.session = none)
    (ty : Option Ty) (v : Option Value) : s.chkForm w (keyEnt l).key ty v = 0x16 := by
  obtain ⟨row, hrow, hacc, -⟩ := tableRow_key l
  obtain ⟨hsub, -, -, hmaint, -⟩ := keyEnt_plain l
  have he := State.entryAt_of_tableRow (s := s) hb (by simp [keyEnt_index]) (by simp [keyEnt_index]) hsub hrow
  have hbad : (w.j16 && w.level == .service && w.session.isSome) = false := by
    rcases hw with h | h | h <;> simp [h]
  simp [State.chkForm, he, hacc, hmaint, keyEnt_index, hbad, firstBad, need]

theorem State.chkStore_key (hb : s.power.bare = false) (hv : b.length = 32) : s.chkStore w (keyEnt l).key (.bytes b) = 0 := by
  obtain ⟨row, hrow, -, -, hty, -, hcond, hrange⟩ := tableRow_key l
  have he := State.entryAt_of_tableRow (s := s) hb (by simp [keyEnt_index]) (by simp [keyEnt_index]) (keyEnt_plain l).1 hrow
  simp [State.chkStore, he, State.chkOwner_key, hty, hcond, hrange, valid, inRange, valBytes, hv, firstBad, need]

/-- What the write of a key leaves: the key in its entry and its block, and a record. -/
theorem State.commitWrite_key (hb : s.power.bare = false) :
    s.commitWrite w (keyEnt l).key v = (s.putR (keyEnt l) v).log 0x02 0x04 (vU8 (levelNum l) ++ vU32 w.node) := by
  obtain ⟨row, hrow, -, hret, -⟩ := tableRow_key l
  obtain ⟨hsub, hself, hown, -⟩ := keyEnt_plain l
  have he := State.entryAt_of_tableRow (s := s) hb (by simp [keyEnt_index]) (by simp [keyEnt_index]) hsub hrow
  simp [State.commitWrite, State.reached_key, State.storeValue_retained he (by simp [keyEnt_index]) hself hret, State.effOwner_key,
    State.mirrored, State.mirror, hown]

/-- Between the store of a key and the end of its write nothing but the ledger, the answer and a checkpoint generation changes. -/
theorem State.frame_after_key (s : State) (st : Nat) (p : List Byte) :
    Frame [.answer, .ledger] genEnts [28] s { (s.log 0x02 0x04 p).servicesCommit with odStatus := st } :=
  (((Frame.refl ..).log (by simp) (by simp)).servicesCommit fun _ h => h).with_odStatus (by simp)

theorem exec_keyWrite (at_ : Nat) (w : Writer) (l : Level) (b : List Byte) (s : State) :
    exec (.keyWrite at_ w l b) s = .next ((s.advance at_).writeStep w (keyEnt l).key .octets (.bytes b)) := by
  rw [keyEnt_key]
  rfl

/-- A stored key is the key of its level. -/
theorem State.levelKey_of_stored (st : Nat) (p : List Byte) :
    ({ ((s.putR (keyEnt l) (.bytes b)).log 0x02 0x04 p).servicesCommit with odStatus := st } : State).levelKey (levelNum l) = b := by
  have hf := State.frame_after_key (s.putR (keyEnt l) (.bytes b)) st p
  have hblocks := hf.2.1 .blocks (by simp)
  have hget := hf.get (e := keyEnt l) (by simp) (by cases l <;> decide) (by simp [keyEnt_index])
  rw [State.levelKey_eq, State.invalidEntry_of_stored (key := (keyEnt l).key) (v := .bytes b) hblocks, if_neg (by simp), State.rdB, hget,
    State.get_putR_self (by cases l <;> decide), valBytes]

end

/-- Settles O12: a key is stored, in its entry and its block, exactly by a Service session of J16; the form checks refuse every other writer
before anything changes. -/
theorem keysAreWrittenByAServiceSessionOfJ16Alone : Obligations.KeysAreWrittenByAServiceSessionOfJ16Alone := by
  unfold Obligations.KeysAreWrittenByAServiceSessionOfJ16Alone
  refine ⟨fun s at_ w l b hup hw hj hl hn hb => ?_, fun s at_ w l b hup hw hbad => ?_⟩
  · have hbare := State.bare_of_servicesUp hup
    have hform := State.chkForm_key_of_service (l := l) hbare hj hl hn (b := b) (by simp [hb, maxBytes])
    have hacc := (State.chkWrite_eq_zero (ty := some .octets)).2 ⟨hform, State.chkStore_key (w := w) hbare hb⟩
    have hstep := State.writeStep_of_accepts ⟨hup, hw, hacc⟩ fun t => abortOf_key _ t l _
    rw [State.commitWrite_key hbare] at hstep
    refine ⟨_, (exec_keyWrite ..).trans (by rw [hstep]), rfl, State.levelKey_of_stored .., ?_, ?_, ?_⟩
    · exact congrArg EopSt.sessions (((State.frame_after_key ..).2.1 .eop (by simp)).trans (State.putR_eop ..))
    · simp [State.instant]
    · have hput := (Frame.refl (.eop :: retainParts) ([E.Auth.KEY_VIEWER, E.Auth.KEY_OPERATOR, E.Auth.KEY_ENGINEER, E.Auth.KEY_SERVICE] ++ retainEnts)
        [28, 31] s).advance (a := at_) |>.putR (e := keyEnt l) (v := .bytes b) (by cases l <;> simp [keyEnt]) (by simp [retainParts]) (by simp [retainEnts])
      refine hput.trans ((State.frame_after_key ..).mono ?_ ?_ ?_)
      · simp [retainParts]
      · exact fun e he => by simp [retainEnts, he]
      · simp
  · have hform := State.chkForm_key_of_other (l := l) (State.bare_of_servicesUp hup) hbad (some .octets) (some (.bytes b))
    have hstep : (s.advance at_).writeStep w (keyEnt l).key .octets (.bytes b) = { s.advance at_ with odStatus := 0x16 } :=
      State.writeStep_eq hup hw ((State.write_of_badForm (by rw [hform]; decide)).trans (by rw [hform])) fun h => absurd h (by decide)
    refine ⟨_, (exec_keyWrite ..).trans (by rw [hstep]), rfl, ?_, ?_⟩
    · simp [State.instant]
    · exact (Frame.refl ..).advance.with_odStatus (by simp)

end Sys2Proof.Machine
end

section
/-!
SUPPORT. Writes of plain settings: stored, and nothing else (R49, R53).
-/
namespace Sys2Proof.Machine

/-- `e` is the entry of a read-write row of retention `ret` whose write has no effect but its store. -/
structure PlainSetting (ret : Retention) (e : Ent) : Prop where
  row : ∃ r : Row, tableRow e.key = some (r, e) ∧ r.ret = ret ∧ r.acc = .rw
  sub : e.key % 256 ≠ 0
  index : (e.key / 256 < 0x1B00 ∨ 0x4800 ≤ e.key / 256) ∧ e.key / 256 < 0x8000
  aside : selfStored e.key = false
  alone : ∀ f ∈ retainEnts, e.key ≠ f.key
  reached : ∀ (s : State) (v : Value), s.reached e.key v = s
  effOwner : ∀ (s : State) (w : Writer) (v : Value), s.effOwner w e.key v = s
  noAbort : ∀ (s t : State) (v : Value), abortOf s t e.key v = none

section
variable {ret : Retention} {e : Ent} {s : State} {at_ : Nat} {w : Writer} {ty : Ty} {v : Value} {n : Nat}

theorem PlainSetting.entryAt (h : PlainSetting ret e) (hb : s.power.bare = false) :
    ∃ r : Row, s.entryAt e.key = .ok (r, e) ∧ r.ret = ret ∧ r.acc = .rw := by
  obtain ⟨r, hr, hret, hacc⟩ := h.row
  have hi := h.index
  exact ⟨r, State.entryAt_of_tableRow hb (by omega) hi.2 h.sub hr, hret, hacc⟩

theorem genEnts_sub_retainEnts : ∀ f ∈ genEnts, f ∈ retainEnts := fun _ h => List.mem_append_left _ h

/-- What an accepted write of a RETAINED setting leaves. -/
theorem PlainSetting.storesRetained (h : PlainSetting .retained e) (ha : s.accepts at_ w e.key ty (.num n)) :
    ∃ t, (s.advance at_).writeStep w e.key ty (.num n) = t ∧ StoresRetained e n s at_ t := by
  refine ⟨_, rfl, ?_⟩
  obtain ⟨r, he, hret, -⟩ := h.entryAt (State.bare_of_servicesUp ha.1)
  have hidx := h.index
  rw [State.writeStep_of_accepts ha fun t => h.noAbort _ _ _, State.commitWrite, h.reached,
    State.storeValue_retained he hidx.2 h.aside hret, h.effOwner]
  have hafter : Frame [.answer, .free, .twin, .ledger] retainEnts [28, 31] ((s.advance at_).putR e (.num n))
      { (((s.advance at_).putR e (.num n)).mirrored e.key).servicesCommit with odStatus := 0 } :=
    (((Frame.refl ..).mirrored (by simp) (by simp) (by simp [retainEnts])).servicesCommit genEnts_sub_retainEnts).with_odStatus (by simp)
  have hput : Frame retainParts (e :: retainEnts) [28, 31] s ((s.advance at_).putR e (.num n)) :=
    (Frame.refl ..).advance.putR (by simp) (by simp [retainParts]) (by simp [retainEnts])
  refine ⟨rfl, ?_, ?_, hput.trans (hafter.mono (by simp [retainParts]) (fun _ hf => .tail _ hf) (by simp))⟩
  · rw [hafter.rd (by simp) h.alone (by simp; omega), State.rd, State.get_putR_self (h.alone _ (by simp [retainEnts])), valNat]
  · simp [State.instant]

/-- What an accepted write of a volatile setting leaves. -/
theorem PlainSetting.storesVolatile (h : PlainSetting .volatile e) (ha : s.accepts at_ w e.key ty (.num n)) :
    ∃ t, (s.advance at_).writeStep w e.key ty (.num n) = t ∧ StoresVolatile e n s at_ t := by
  refine ⟨_, rfl, ?_⟩
  obtain ⟨r, he, hret, hacc⟩ := h.entryAt (State.bare_of_servicesUp ha.1)
  obtain ⟨r', hr', hret', -⟩ := h.row
  have hkey : retainedKey e.key = false := by simp [retainedKey, hr', hret']
  rw [State.writeStep_of_accepts ha fun t => h.noAbort _ _ _, State.commitWrite, h.reached,
    State.storeValue_volatile he h.index.2 h.aside (by simp [hret]) hacc, h.effOwner, State.mirrored, hkey, Bool.and_false, if_neg (by simp)]
  have hafter : Frame [.answer] genEnts [] ((s.advance at_).put e (.num n))
      { ((s.advance at_).put e (.num n)).servicesCommit with odStatus := 0 } :=
    ((Frame.refl ..).servicesCommit fun _ hf => hf).with_odStatus (by simp)
  have hput : Frame [.answer] (e :: genEnts) [] s ((s.advance at_).put e (.num n)) := (Frame.refl ..).advance.put (by simp)
  refine ⟨rfl, ?_, ?_, hput.trans (hafter.mono (by simp) (fun _ hf => .tail _ hf) (by simp))⟩
  · rw [hafter.rd (by simp) (fun f hf => h.alone f (genEnts_sub_retainEnts f hf)) (by simp), State.rd_put_self, valNat]
  · simp [State.instant]

end

theorem plainSetting_retained : ∀ e ∈ [E.Auth.SESSION_IDLE_TIMEOUT, E.Twin.TOKEN_WATCHDOG, E.Slate.BACKLIGHT, E.Slate.STRIP_IDLE,
    E.Castle.PROOF_INTERVAL, E.Pwr.PF_CKPT_ENABLE, E.Run.AUTOSTART], PlainSetting .retained e := by
  intro e he
  simp only [List.mem_cons, List.not_mem_nil, or_false] at he
  rcases he with rfl | rfl | rfl | rfl | rfl | rfl | rfl <;>
    exact ⟨⟨_, rfl, rfl, rfl⟩, by decide, by decide, by decide, by decide, fun _ _ => rfl, fun _ _ _ => rfl, fun _ _ _ => rfl⟩

theorem plainSetting_volatile : ∀ e ∈ [E.Slate.SLATE_MODE, E.Start.FW_STAGE_OFFSET, E.Saf.SPS_OFFSET], PlainSetting .volatile e := by
  intro e he
  simp only [List.mem_cons, List.not_mem_nil, or_false] at he
  rcases he with rfl | rfl | rfl <;>
    exact ⟨⟨_, rfl, rfl, rfl⟩, by decide, by decide, by decide, by decide, fun _ _ => rfl, fun _ _ _ => rfl, fun _ _ _ => rfl⟩

end Sys2Proof.Machine
end
section
/-!
SUPPORT. What a refused value leaves (R48, R53), and the two resets of counters that O13 names (R39, R122).
-/
namespace Sys2Proof.Machine

/-! ## A refused value -/

section
variable {s : State} {w : Writer} {key : Nat} {v : Value} {st : Nat}

/-- From `s` to `t` TB3, the partition, the queue and the entry at `key` stand. -/
def KeepsEntry (key : Nat) (s t : State) : Prop := t.od.find key = s.od.find key ∧ t.blocks = s.blocks ∧ t.now = s.now ∧ t.pending = s.pending

theorem KeepsEntry.wr {x : State} {e : Ent} {n : Nat} (h : KeepsEntry key s x) (he : key ≠ e.key) : KeepsEntry key s (x.wr e n) :=
  ⟨(State.put_find_ne _ _ _ he).trans h.1, h.2⟩

theorem KeepsEntry.wrB {x : State} {e : Ent} {b : List Byte} (h : KeepsEntry key s x) (he : key ≠ e.key) : KeepsEntry key s (x.wrB e b) :=
  ⟨(State.put_find_ne _ _ _ he).trans h.1, h.2⟩

theorem KeepsEntry.refl (key : Nat) (s : State) : KeepsEntry key s s := ⟨rfl, rfl, rfl, rfl⟩

/-- The nonce that a write with a condition renews is no entry that is written so, and no check entry is the setting that it checks. -/
theorem State.reached_keepsEntry : KeepsEntry key s (s.reached key v) := by
  unfold State.reached
  split
  case h_10 =>
    split
    next hk =>
      simp only [Bool.and_eq_true, beq_iff_eq, decide_eq_true_eq] at hk
      dsimp only [State.noteTiming]
      split
      · exact (KeepsEntry.refl ..).wr (by simp only [E.CanT.TIMING_CHECK, entN]; omega)
      · exact .refl ..
    · exact .refl ..
  case h_3 =>
    dsimp only
    split
    · exact ((KeepsEntry.refl ..).wr (by decide)).wr (by decide)
    · exact .refl ..
  case h_7 => exact (KeepsEntry.refl ..).wrB (by decide)
  all_goals exact (KeepsEntry.refl ..).wr (by decide)

theorem State.rejectedClear_keepsEntry : KeepsEntry 0x700202 s (s.rejectedClear w) := by
  refine ⟨?_, by simp [State.rejectedClear], by simp [State.rejectedClear], by simp [State.rejectedClear]⟩
  simp only [State.rejectedClear]
  rw [State.od_find_log _ _ _ (by decide)]
  exact State.put_find_ne _ _ _ (by decide)

theorem State.refuseWrite_keepsEntry : KeepsEntry key s (s.refuseWrite w key v st) := by
  have h := State.reached_keepsEntry (s := s) (key := key) (v := v)
  unfold State.refuseWrite
  split
  · next hk =>
    obtain ⟨rfl, -⟩ : key = 0x700202 ∧ st = stRange := by simpa using hk
    obtain ⟨ho, hb, hn, hp⟩ := State.rejectedClear_keepsEntry (s := s.reached 0x700202 v) (w := w)
    exact ⟨ho.trans h.1, hb.trans h.2.1, hn.trans h.2.2.1, hp.trans h.2.2.2⟩
  · exact h

theorem State.write_of_refused {ty : Option Ty} (h : s.chkWrite w key ty (some v) ≠ 0) :
    ∃ t, s.write w key ty (some v) = (t, s.chkWrite w key ty (some v)) ∧ KeepsEntry key s t := by
  rw [State.chkWrite_eq] at h ⊢
  by_cases hf : s.chkForm w key ty (some v) = 0
  · rw [if_pos hf] at h ⊢
    exact ⟨_, State.write_of_badStore hf h, State.refuseWrite_keepsEntry⟩
  · rw [if_neg hf]
    exact ⟨s, State.write_of_badForm hf, .refl ..⟩

end

/-! ## Commands that clear -/

section
variable {s : State} {at_ : Nat} {w : Writer} {key : Nat} {ty : Ty} {v : Value}

/-- Row `r` at `key` is a command of the field, the network or an axis: nothing is stored. -/
theorem State.commitWrite_command {r : Row} {e : Ent} (hb : s.power.bare = false) (hr : tableRow key = some (r, e)) (hret : r.ret = .volatile)
    (hacc : r.acc = .wo) (hi : key / 256 < 0x4400) (hsub : key % 256 ≠ 0) (hreached : s.reached key v = s) :
    s.commitWrite w key v = s.effOwner w key v := by
  have he := State.entryAt_of_tableRow hb (.inl hi) (by omega) hsub hr
  rw [State.commitWrite, hreached, State.storeValue_command he (by omega) (by simp [hret]) (by simp [hacc])]
  simp [State.mirrored, retainedKey, hr, hret]

end

theorem tableRow_ringResetHwm : ∀ k < 48, (tableRow (E.Ring.RING_RESET_HWM k).key).any (fun r => r.1.acc == .wo && r.1.ret == .volatile) = true := by
  decide +kernel

theorem tableRow_axisResetStats : ∀ a < 12, (tableRow (E.Ax.RESET_STATS a).key).any
    (fun r => r.1.acc == .wo && r.1.ret == .volatile && r.1.name == "RESET_STATS") = true := by
  decide +kernel

end Sys2Proof.Machine
end

section
/-!
SUPPORT. RING_RESET_HWM and RESET_STATS of an axis (R39, R122).
-/
namespace Sys2Proof.Machine

section
variable {s : State} {at_ k a : Nat} {w : Writer} {v : Value}

@[simp] theorem State.clear_now (l : List Ent) : (s.clear l).now = s.now := by
  induction l generalizing s with
  | nil => rfl
  | cons e l ih => exact ih.trans (State.put_now ..)

theorem ringResetHwm_key (k : Nat) : (E.Ring.RING_RESET_HWM k).key = (0x1B00 + k) * 256 + 0x09 := rfl

theorem axisResetStats_key (a : Nat) : (E.Ax.RESET_STATS a).key = (0x2200 + a) * 256 + 0x2F := rfl

/-- A write below index 0x3000 outside those that a nonce guards and ECX_ENABLE renews nothing as it reaches its entry. -/
theorem State.reached_of_plain {key : Nat} (hi : key / 256 < 0x3000) (hk : ∀ k ∈ [0x130003, 0x130208, 0x1A0001], key ≠ k) :
    s.reached key v = s := by
  simp only [List.mem_cons, List.not_mem_nil, or_false, forall_eq_or_imp, forall_eq] at hk
  unfold State.reached
  split
  case h_10 => exact if_neg (by simp; omega)
  all_goals omega

theorem State.effOwner_ringResetHwm (s : State) (w : Writer) (hk : k < 48) :
    s.effOwner w (E.Ring.RING_RESET_HWM k).key (.num 1) = s.wr (E.Ring.RING_HWM k) (s.fill k) := by
  have hi : (E.Ring.RING_RESET_HWM k).key / 256 = 0x1B00 + k := by rw [ringResetHwm_key]; omega
  have hs : (E.Ring.RING_RESET_HWM k).key % 256 = 0x09 := by rw [ringResetHwm_key]; omega
  have hmod : ¬ 0x1B00 + k < 0x1800 := by omega
  have htime : ¬ 0x1B00 + k < 0x1900 := by omega
  have hnet : 0x1B00 + k < 0x2000 := by omega
  have hc : ecxChecked (0x1B00 + k) 0x09 = false := by simp [ecxChecked]
  simp [State.effOwner, hi, hs, hmod, htime, hnet, State.effNet, hc, valNat]

theorem State.effOwner_axisResetStats (s : State) (w : Writer) (ha : a < 12) :
    s.effOwner w (E.Ax.RESET_STATS a).key (.num 1) = s.effAxStats a := by
  have hi : (E.Ax.RESET_STATS a).key / 256 = 0x2200 + a := by rw [axisResetStats_key]; omega
  have hs : (E.Ax.RESET_STATS a).key % 256 = 0x2F := by rw [axisResetStats_key]; omega
  have hnet : ¬ 0x2200 + a < 0x2000 := by omega
  have hfield : 0x2200 + a < 0x3000 := by omega
  have haxis : 0x2200 + a < 0x220C := by omega
  have hbefore : ∀ n ∈ [0x1800, 0x1900, 0x2040, 0x2080, 0x2120, 0x2130], ¬ 0x2200 + a < n := by simp; omega
  simp only [List.mem_cons, List.not_mem_nil, or_false, forall_eq_or_imp, forall_eq] at hbefore
  obtain ⟨h1, h2, h3, h4, h5, h6⟩ := hbefore
  have hgroup : 0x2200 + a ≠ 0x2090 := by omega
  simp [State.effOwner, hi, hs, hnet, hfield, haxis, h1, h2, h3, h4, h5, h6, hgroup, State.effField, valNat]

theorem abortOf_eq_none {t : State} {key : Nat} (hi : key / 256 < 0x5200) (hm : key % 256 ≠ 0x1F) : abortOf s t key v = none := by
  simp [abortOf, Nat.not_le.2 hi, hm]

/-- The row of a command that stores nothing, found in its table. -/
theorem exists_row_of_any {key : Nat} {p : Row × Ent → Bool} (h : (tableRow key).any p = true) : ∃ r, tableRow key = some r ∧ p r = true := by
  cases hr : tableRow key with
  | none => simp [hr] at h
  | some r => exact ⟨r, rfl, by simpa [hr] using h⟩

/-- A command that stores nothing ends in its effect and a commit of the services. -/
theorem State.writeStep_command {key : Nat} {ty : Ty} (h : s.accepts at_ w key ty v)
    (hrow : (tableRow key).any (fun r => r.1.acc == .wo && r.1.ret == .volatile) = true) (hi : key / 256 < 0x3000)
    (hs : key % 256 ≠ 0 ∧ key % 256 ≠ 0x1F) (hk : ∀ k ∈ [0x130003, 0x130208, 0x1A0001], key ≠ k) :
    (s.advance at_).writeStep w key ty v = { ((s.advance at_).effOwner w key v).servicesCommit with odStatus := 0 } := by
  obtain ⟨⟨r, e⟩, hrow, hr⟩ := exists_row_of_any hrow
  simp only [Bool.and_eq_true, beq_iff_eq] at hr
  rw [State.writeStep_of_accepts h fun t => abortOf_eq_none (by omega) hs.2, State.commitWrite_command (State.bare_of_servicesUp h.1) hrow hr.2 hr.1
    (by omega) hs.1 (State.reached_of_plain hi hk)]

theorem State.frame_servicesCommit (x : State) : Frame [.answer] genEnts [] x { x.servicesCommit with odStatus := 0 } :=
  ((Frame.refl ..).servicesCommit fun _ hf => hf).with_odStatus (by simp)

theorem State.ringResetHwm_completes (hk : k < 48) (h : s.accepts at_ w (E.Ring.RING_RESET_HWM k).key .bool (.num 1)) :
    Completes (.ringResetHwm at_ w k) s (fun t => t.odStatus = 0 ∧ t.rd (E.Ring.RING_HWM k) = s.fill k % 65536
      ∧ t.now = s.instant at_ ∧ Frame [.answer] (E.Ring.RING_HWM k :: genEnts) [] s t) := by
  have hkey := ringResetHwm_key k
  have hinst : inst 0x1B00 k 48 0x09 = (E.Ring.RING_RESET_HWM k).key := by simp [inst, hk, hkey]
  have hstep := State.writeStep_command h (tableRow_ringResetHwm k hk) (by omega) (by omega) (by simp; omega)
  rw [State.effOwner_ringResetHwm _ _ hk] at hstep
  have hafter := State.frame_servicesCommit ((s.advance at_).wr (E.Ring.RING_HWM k) ((s.advance at_).fill k))
  refine ⟨{ ((s.advance at_).wr (E.Ring.RING_HWM k) ((s.advance at_).fill k)).servicesCommit with odStatus := 0 }, ?_, rfl, ?_, ?_, ?_⟩
  · rw [← hstep, ← hinst]; rfl
  · rw [hafter.rd (by simp) ?_ (by simp), State.rd_wr_self]
    · rfl
    · simp [genEnts, E.Ring.RING_HWM, E.Dbl.CKPT_GENERATION, entN]; omega
  · simp [State.instant]
  · exact ((Frame.refl ..).advance.wr (by simp)).trans (hafter.mono (by simp) (fun _ hf => .tail _ hf) (by simp))

theorem State.isStats_axis (hb : s.power.bare = false) (ha : a < 12) : s.isStats (E.Ax.RESET_STATS a).key = true := by
  have hkey := axisResetStats_key a
  obtain ⟨⟨r, e⟩, hrow, hr⟩ := exists_row_of_any (tableRow_axisResetStats a ha)
  simp only [Bool.and_eq_true, beq_iff_eq] at hr
  simp [State.isStats, State.entryAt_of_tableRow hb (by omega) (by omega) (by omega) hrow, hr.2]

theorem State.axisResetStats_completes (ha : a < 12) (h : s.accepts at_ w (E.Ax.RESET_STATS a).key .bool (.num 1)) :
    Completes (.resetStats at_ w (E.Ax.RESET_STATS a).key) s (fun t => t.odStatus = 0 ∧ t.rd (E.Ax.MOVES a) = 0 ∧ t.rd (E.Ax.FAULTS a) = 0
      ∧ t.now = s.instant at_ ∧ Frame [.answer, .motion] ([E.Ax.STEPS_EMITTED a, E.Ax.MOVES a, E.Ax.FAULTS a] ++ genEnts) [] s t) := by
  have hkey := axisResetStats_key a
  obtain ⟨⟨r, e⟩, hrow, hr⟩ := exists_row_of_any (tableRow_axisResetStats a ha)
  have hstep := State.writeStep_command h (by rw [hrow]; simp_all) (by omega) (by omega) (by simp; omega)
  rw [State.effOwner_axisResetStats _ _ ha] at hstep
  have hafter := State.frame_servicesCommit ((s.advance at_).effAxStats a)
  have hcleared (e : Ent) (he : e ∈ [E.Ax.STEPS_EMITTED a, E.Ax.MOVES a, E.Ax.FAULTS a]) (hg : ∀ f ∈ genEnts, e.key ≠ f.key) :
      ({ ((s.advance at_).effAxStats a).servicesCommit with odStatus := 0 } : State).rd e = 0 := by
    rw [hafter.rd (by simp) hg (by simp)]
    refine State.rd_clear_of_mem he fun f hf hk => ?_
    simp only [List.mem_cons, List.not_mem_nil, or_false] at he hf
    rcases he with rfl | rfl | rfl <;> rcases hf with rfl | rfl | rfl <;>
      simp [E.Ax.STEPS_EMITTED, E.Ax.MOVES, E.Ax.FAULTS, entN] at hk ⊢
  refine ⟨{ ((s.advance at_).effAxStats a).servicesCommit with odStatus := 0 }, ?_, rfl, ?_, ?_, ?_, ?_⟩
  · rw [← hstep]
    have hstats : (if s.isStats (E.Ax.RESET_STATS a).key then (E.Ax.RESET_STATS a).key else 0) = (E.Ax.RESET_STATS a).key :=
      if_pos (State.isStats_axis (State.bare_of_servicesUp h.1) ha)
    exact congrArg (fun key => Host.Outcome.next ((s.advance at_).writeStep w key .bool (.num 1))) hstats
  · exact hcleared _ (by simp) (by simp [genEnts, E.Ax.MOVES, E.Dbl.CKPT_GENERATION, entN]; omega)
  · exact hcleared _ (by simp) (by simp [genEnts, E.Ax.FAULTS, E.Dbl.CKPT_GENERATION, entN]; omega)
  · simp [State.instant, State.effAxStats, State.setAx]
  · refine Frame.trans ?_ (hafter.mono (by simp) (fun _ hf => List.mem_append_right _ hf) (by simp))
    exact ((Frame.refl ..).advance.with_motion (by simp)).clear (by simp)

end

end Sys2Proof.Machine
end

section
/-!
SUPPORT. What the ledger stores of its events stands in the ledger alone (R501 to R509).
-/
namespace Sys2Proof.Machine

/-- From `x` to `y` nothing but the ledger changes. -/
structure LedgerOnly (x y : State) : Prop where
  eq : y = { x with ledger := y.ledger }

section
variable {x y z : State}

theorem LedgerOnly.refl (x : State) : LedgerOnly x x := ⟨rfl⟩

theorem LedgerOnly.od (h : LedgerOnly x y) : y.od = x.od := by rw [h.eq]
theorem LedgerOnly.now (h : LedgerOnly x y) : y.now = x.now := by rw [h.eq]

theorem LedgerOnly.setLedger {l : LedgerSt} (h : LedgerOnly x y) : LedgerOnly x (y.setLedger l) := ⟨by rw [h.eq]; rfl⟩

theorem LedgerOnly.ite {c : Prop} [Decidable c] (h : c → LedgerOnly x y) (g : ¬c → LedgerOnly x z) : LedgerOnly x (if c then y else z) := by
  split
  · exact h ‹_›
  · exact g ‹_›

theorem LedgerOnly.appendRec {ring : Bool} {a b t : Nat} {p : List Byte} (h : LedgerOnly x y) : LedgerOnly x (y.appendRec ring a b t p) :=
  h.setLedger

theorem LedgerOnly.closeBook (h : LedgerOnly x y) : LedgerOnly x y.closeBook := h.appendRec.setLedger

theorem LedgerOnly.ownRec {ring : Bool} {e : Nat} {p : List Byte} (h : LedgerOnly x y) : LedgerOnly x (y.ownRec ring e p) :=
  .ite (fun _ => h.closeBook) fun _ => h.appendRec

theorem LedgerOnly.commitClock {ring : Bool} (h : LedgerOnly x y) : LedgerOnly x (y.commitClock ring) := h.ownRec.setLedger

theorem LedgerOnly.nextSeg {ring : Bool} (h : LedgerOnly x y) : LedgerOnly x (y.nextSeg ring) :=
  .ite (fun _ => h.setLedger) fun _ => h.setLedger

theorem LedgerOnly.roomFor {ring : Bool} {n : Nat} (h : LedgerOnly x y) : LedgerOnly x (y.roomFor ring n) := by
  unfold State.roomFor State.sealSeg
  exact .ite (fun _ => .ite (fun _ => h.commitClock) fun _ => h) fun _ =>
    .ite (fun _ => .ite (fun _ => h.ownRec) fun _ => h.ownRec.nextSeg.commitClock) fun _ => h

theorem LedgerOnly.commitRec {a b t : Nat} {p : List Byte} (h : LedgerOnly x y) : LedgerOnly x (y.commitRec a b t p) := by
  unfold State.commitRec State.commitIn
  extract_lets +onlyGivenNames y1 y2
  have h1 : LedgerOnly x y1 := h.roomFor
  have h2 : LedgerOnly x y2 := .ite (fun _ => h1.commitClock) fun _ => h1
  exact .ite (fun _ => h2.appendRec) fun _ => .ite (fun _ => h2.appendRec) fun _ =>
    .ite (fun _ => h2.closeBook.roomFor.appendRec) fun _ => h2.appendRec

end

end Sys2Proof.Machine
end

section
/-!
SUPPORT. The reset that RESTORE_FACTORY ends in leaves the settings that the restore made defaults: what TOKEN, the field side, the ledger and
the channels write as they stop are other entries (R55, Table PWR-10).
-/
namespace Sys2Proof.Machine

/-- The settings whose default O13 asks for after RESTORE_FACTORY. -/
def restoredEnts : List Ent := [E.Id.NODE_ID, E.Auth.SESSION_IDLE_TIMEOUT, E.Twin.TOKEN_WATCHDOG, E.Slate.BACKLIGHT, E.Pwr.PF_CKPT_ENABLE]

/-- From `s` to `t` none of the restored settings is written. -/
structure Spares (s t : State) : Prop where
  find : ∀ e ∈ restoredEnts, t.od.find e.key = s.od.find e.key

/-- `k` is the key of none of the restored settings. -/
abbrev Apart (k : Nat) : Prop := ∀ e ∈ restoredEnts, e.key ≠ k

theorem apart_iff {k : Nat} : Apart k ↔ k ≠ 0x100005 ∧ k ≠ 0x110101 ∧ k ≠ 0x740011 ∧ k ≠ 0x78000A ∧ k ≠ 0x12000A := by
  simp [Apart, restoredEnts, E.Id.NODE_ID, E.Auth.SESSION_IDLE_TIMEOUT, E.Twin.TOKEN_WATCHDOG, E.Slate.BACKLIGHT, E.Pwr.PF_CKPT_ENABLE, entN,
    eq_comm]

section
variable {s x y t : State} {e : Ent}

theorem Spares.refl (s : State) : Spares s s := ⟨fun _ _ => rfl⟩

theorem Spares.trans (h : Spares s x) (g : Spares x y) : Spares s y :=
  ⟨fun e he => (g.find e he).trans (h.find e he)⟩

/-- A change that is none of the dictionary's. -/
theorem Spares.of_od (h : Spares s x) (ho : y.od = x.od) : Spares s y :=
  ⟨fun e he => by rw [ho]; exact h.find e he⟩

theorem Spares.put {v : Value} (h : Spares s x) (he : Apart e.key) : Spares s (x.put e v) :=
  h.trans ⟨fun f hf => State.put_find_ne _ _ _ (he f hf)⟩

theorem Spares.wr {n : Nat} (h : Spares s x) (he : Apart e.key) : Spares s (x.wr e n) := h.put he
theorem Spares.inc (h : Spares s x) (he : Apart e.key) : Spares s (x.inc e) := h.put he

theorem Spares.raise {n : Nat} (h : Spares s x) (he : Apart e.key) : Spares s (x.raise e n) := by
  unfold State.raise
  split
  · exact h.put he
  · exact h

theorem Spares.incR (h : Spares s x) (he : Apart e.key) : Spares s (x.incR e) := by
  have hcells (k : Nat) (v : Value) : Spares (x.put e v) ((x.put e v).storeCell k v) := (Spares.refl _).of_od (State.storeCell_od ..)
  exact (((h.put he).trans (hcells ..)).put (e := E.Restore.RETAINED_WRITES) (by decide)).of_od (State.storeCell_od ..)

theorem Spares.ite {c : Prop} [Decidable c] (h : c → Spares s x) (g : ¬c → Spares s y) : Spares s (if c then x else y) := by
  split
  · exact h ‹_›
  · exact g ‹_›

theorem Spares.foldl {β : Type} {f : State → β → State} {l : List β} (h : Spares s x) (hf : ∀ (y : State), ∀ b ∈ l, Spares y (f y b)) :
    Spares s (l.foldl f x) := by
  induction l generalizing x with
  | nil => exact h
  | cons b l ih => exact ih (h.trans (hf x b (.head _))) fun y c hc => hf y c (.tail _ hc)

/-- An operation on the module's rings spares the settings. -/
theorem Spares.of_frame {ps : List Part} {es : List Ent} {rs : List Nat} (h : Frame ps es rs s t) (he : ∀ e ∈ es, Apart e.key)
    (hr : ∀ r ∈ rs, r < 48) : Spares s t := by
  have hidx : ∀ f ∈ restoredEnts, f.key / 256 < 0x1B00 ∨ 0x1B00 + 48 ≤ f.key / 256 := by decide
  refine ⟨fun f hf => h.2.2.1 f.key (fun e m => he e m f hf) fun r m => ?_⟩
  have := hidx f hf
  have := hr r m
  omega

/-! ## The field side -/

theorem Spares.with_field {v : FieldSt} (h : Spares s x) : Spares s { x with field := v } := h.of_od rfl
theorem Spares.setDout {o : Nat} {v : DoSt} (h : Spares s x) : Spares s (x.setDout o v) := h.of_od rfl
theorem Spares.setAout {o : Nat} {v : AoSt} (h : Spares s x) : Spares s (x.setAout o v) := h.of_od rfl
theorem Spares.setAx {a : Nat} {v : AxisSt} (h : Spares s x) : Spares s (x.setAx a v) := h.of_od rfl
theorem Spares.setSec {y : Bool} {v : Section} (h : Spares s x) : Spares s (x.setSec y v) := h.of_od rfl
theorem Spares.setChn {y : Bool} {v : Chan} (h : Spares s x) : Spares s (x.setChn y v) := h.of_od rfl
theorem Spares.fieldDiag {a b c d : Nat} (h : Spares s x) : Spares s (x.fieldDiag a b c d) := h.of_od rfl
theorem Spares.motionEvt {a b c d n : Nat} {p : Int} (h : Spares s x) : Spares s (x.motionEvt a b c d n p) := h.of_od rfl

theorem Spares.refreshDo (h : Spares s x) (o : Nat) : Spares s (x.refreshDo o) := by
  have hst : Apart (E.Do.DO_OUTPUT_STATE o).key := apart_iff.2 (by simp only [E.Do.DO_OUTPUT_STATE, entN]; omega)
  have hsw : Apart (E.Do.SWITCHINGS o).key := apart_iff.2 (by simp only [E.Do.SWITCHINGS, entN]; omega)
  unfold State.refreshDo
  obtain ⟨on, st⟩ := x.doDecide o
  exact .ite (fun _ => h.wr hst) fun _ => (h.wr hst).setDout.inc hsw

theorem Spares.refreshAo (h : Spares s x) (o : Nat) : Spares s (x.refreshAo o) := by
  unfold State.refreshAo
  obtain ⟨v, st⟩ := x.aoDecide o
  exact h.setAout.wr (apart_iff.2 (by simp only [E.Ao.AO_OUTPUT_STATE, entN]; omega))

theorem Spares.showAi {i : Nat} (h : Spares s x) (hi : i < 32) : Spares s (x.showAi i) := by
  have hev : Apart (E.Ai.FAULT_EVENTS i).key := apart_iff.2 (by simp only [E.Ai.FAULT_EVENTS, entN]; omega)
  have hcause : Apart (E.Ai.AI_FAULT_CAUSE i).key := apart_iff.2 (by simp only [E.Ai.AI_FAULT_CAUSE, entN]; omega)
  have hdiag : Apart (E.Ai.AI_DIAG i).key := apart_iff.2 (by simp only [E.Ai.AI_DIAG, entN]; omega)
  unfold State.showAi
  extract_lets c old d y
  have hy : Spares s y := .ite (fun _ => h.inc hev) fun _ => h
  exact .ite (fun _ => (hy.wr hcause).wr hdiag) fun _ => ((hy.wr hcause).wr hdiag).fieldDiag

theorem Spares.showAnalog (h : Spares s x) : Spares s x.showAnalog := (h.wr (by decide)).wr (by decide)

theorem Spares.showFieldSide (h : Spares s x) : Spares s x.showFieldSide := by
  have hdo : Spares s x.refreshDos := h.foldl fun y o _ => (Spares.refl y).refreshDo o
  have hao : Spares s x.refreshDos.refreshAos := hdo.foldl fun y o _ => (Spares.refl y).refreshAo o
  exact (hao.wr (e := E.Grp.FIELD_STATE) (by decide)).showAnalog

theorem Spares.bypassCloses (h : Spares s x) : Spares s x.bypassCloses := by
  have hais : Spares s ({ x with field := { x.field with bypassOpen := false } } : State).showAis :=
    h.with_field.foldl fun y _ hi => (Spares.refl y).showAi (List.mem_range.1 hi)
  exact hais.showAnalog

theorem Spares.loseValid (h : Spares s x) (a : Nat) : Spares s (x.loseValid a) := .ite (fun _ => h) fun _ => h.setAx.motionEvt

theorem Spares.showAxis (h : Spares s x) (a : Nat) : Spares s (x.showAxis a) := .ite (fun _ => h) fun _ => h.setAx.motionEvt

theorem Spares.result (h : Spares s x) (a b c d : Nat) : Spares s (x.result a b c d) := h.setAx.motionEvt

theorem Spares.endMove (h : Spares s x) (a b c : Nat) : Spares s (x.endMove a b c) := by
  unfold State.endMove
  split
  · exact h.result ..
  · exact h

theorem Spares.homeEnd (h : Spares s x) (a b c : Nat) : Spares s (x.homeEnd a b c) := by
  unfold State.homeEnd
  split
  · exact h
  · exact (h.setAx.loseValid a).result ..

theorem Spares.axesDisable (h : Spares s x) : Spares s x.axesDisable := by
  refine h.foldl fun y a _ => ?_
  extract_lets +onlyGivenNames z kept y1 y2
  have hend : Spares y y1 := .ite (fun _ => (Spares.refl y).homeEnd ..) fun _ => (Spares.refl y).endMove ..
  have hhalt : Spares y (y2.setAx a { y2.ax a with ena := false }) := Spares.setAx (Spares.setAx (a := a) hend)
  exact Spares.showAxis (.ite (fun _ => hhalt) fun _ => hhalt.loseValid a) a

theorem Spares.showSb (h : Spares s x) (n : Nat) : Spares s (x.showSb n) := by
  have hst : Apart (E.Sb.SB_STATE n).key := apart_iff.2 (by simp only [E.Sb.SB_STATE, entN]; omega)
  have hsw : Apart (E.Sb.SB_SWITCHINGS n).key := apart_iff.2 (by simp only [E.Sb.SB_SWITCHINGS, entN]; omega)
  unfold State.showSb
  extract_lets z on st y
  have hy : Spares s y := .ite (fun _ => h.incR hsw) fun _ => h
  exact hy.wr hst

theorem Spares.showSbs (h : Spares s x) : Spares s x.showSbs := h.foldl fun y n _ => (Spares.refl y).showSb n

theorem Spares.brakesOff (h : Spares s x) : Spares s x.brakesOff := Spares.showSbs (h.setChn.setChn.setSec.setSec)

theorem Spares.fieldOff (h : Spares s x) : Spares s x.fieldOff :=
  .ite (fun _ => h) fun _ => h.with_field.showFieldSide.bypassCloses.axesDisable.brakesOff

/-! ## The channels, the ledger and the role -/

theorem Spares.with_twin {v : TwinSt} (h : Spares s x) : Spares s { x with twin := v } := h.of_od rfl

theorem Spares.log (h : Spares s x) (a b : Nat) (p : List Byte) : Spares s (x.log a b p) :=
  h.trans (.of_frame (((Frame.refl [.ledger] [] [28] x)).log (by simp) (by simp)) (by simp) (by simp))

theorem Spares.rxq {c : Nat} {b : List Byte} (h : Spares s x) (hc : c < 4) : Spares s (x.rxq c b).1 := by
  have hover : Frame [.can] [] [17 + 2 * c] x (x.overrunEvent c) :=
    .ite (fun _ => ((Frame.refl ..).with_can (by simp)).place (by simp)) fun _ => .refl ..
  unfold State.rxq
  split
  · exact h
  · exact h.trans (.of_frame (hover.push (by simp)) (by simp) (by simp; omega))

theorem Spares.canState {c : Nat} (h : Spares s x) (hc : c < 4) : Spares s (x.canState c) := by
  have hst : Apart (E.Can.CHANNEL_STATE c).key := apart_iff.2 (by simp only [E.Can.CHANNEL_STATE, entN]; omega)
  exact .ite (fun _ => ((h.wr hst).rxq hc).log ..) fun _ => .ite (fun _ => (h.wr hst).rxq hc) fun _ => h.wr hst

theorem Spares.showLedger (h : Spares s x) : Spares s x.showLedger := by
  unfold State.showLedger
  extract_lets +onlyGivenNames l y1 y2 retired y3 fill y4
  have h1 : Spares s y1 := ((h.wr (by decide)).wr (by decide)).wr (by decide)
  have h2 : Spares s y2 := ((h1.wr (by decide)).wr (by decide)).wr (by decide)
  have h3 : Spares s y3 := h2.wr (by decide)
  have h4 : Spares s y4 := (h3.wr (by decide)).raise (by decide)
  exact h4.wr (by decide)

theorem Spares.logTwin (h : Spares s x) (a : Nat) (p : List Byte) : Spares s (x.logTwin a p) :=
  .ite (fun _ => (h.of_od (LedgerOnly.refl x).commitRec.od).showLedger) fun _ => h.log ..

theorem Spares.showTwin (h : Spares s x) : Spares s x.showTwin := by
  unfold State.showTwin
  extract_lets +onlyGivenNames role
  split
  extract_lets +onlyGivenNames y1 due y2
  have h1 : Spares s y1 := ((h.wr (by decide)).wr (by decide)).wr (by decide)
  have h2 : Spares s y2 := h1.wr (by decide)
  exact .ite (fun _ => h2) fun _ => h2.with_twin.logTwin ..

theorem Spares.setRole (h : Spares s x) (r : Nat) : Spares s (x.setRole r) :=
  ((h.wr (e := E.Twin.TWIN_ROLE) (by decide)).foldl fun y _ hc => (Spares.refl y).canState (List.mem_range.1 hc)).showTwin

theorem Spares.stopToken (h : Spares s x) (hold : Bool) : Spares s (x.stopToken hold) := by
  unfold State.stopToken
  refine .ite (fun _ => h) fun _ => ?_
  extract_lets +onlyGivenNames t y1 f p y2
  have h1 : Spares s y1 := h.with_twin.fieldOff
  have h2 : Spares s y2 := h1.of_od rfl
  exact h2.setRole 2

end

/-! ## The restore -/

section
variable {s : State} {e : Ent} {node : Nat}

theorem SMap.find_keep {α : Type} (m : SMap α) (p : Nat → Bool) (k : Nat) : (m.keep p).find k = if p k then m.find k else none := by
  obtain ⟨cells⟩ := m
  simp only [SMap.keep, SMap.find]
  induction cells with
  | nil => simp [cellAt]
  | cons c cells ih =>
    by_cases hc : p c.1 <;> by_cases hk : c.1 = k <;> simp_all [cellAt]

theorem retainedKey_restored : ∀ e ∈ restoredEnts, retainedKey e.key = true ∧ e.key / 256 ≠ 0x1100 ∧ e.arch = false := by decide +kernel

/-- A restored setting has no cell after the factory reset. -/
theorem State.find_factoryReset (he : e ∈ restoredEnts) : s.factoryReset.od.find e.key = none := by
  obtain ⟨hr, hi, -⟩ := retainedKey_restored e he
  simp [State.factoryReset, SMap.find_keep, hr, hi]

/-- The reset of the logic side keeps the cell of a restored setting as it stood. -/
theorem State.find_logicReset (he : e ∈ restoredEnts) (c : Nat) (lost : Bool) : (s.logicReset c lost).od.find e.key = s.od.find e.key := by
  obtain ⟨hr, -⟩ := retainedKey_restored e he
  simp only [State.logicReset, SMap.find_keep, hr, Bool.true_or, if_true]
  exact ((Spares.refl s).stopToken false).fieldOff.find e he

theorem State.get_effRestore (he : e ∈ restoredEnts) : (s.effRestore node).get e = e.d := by
  have hfind : (s.effRestore node).od.find e.key = none := (State.find_logicReset he 5 false).trans (State.find_factoryReset he)
  simp [State.get, hfind, State.base, (retainedKey_restored e he).2.2]

end

end Sys2Proof.Machine
end

section
/-!
O13.
-/
namespace Sys2Proof.Machine

section
variable {s : State} {at_ n : Nat} {w : Writer}

/-- A commit of the services is a write of the dictionary. -/
theorem State.servicesCommit_eq (s : State) : s.servicesCommit = { s with od := s.servicesCommit.od } := by
  unfold State.servicesCommit
  split <;> rfl

theorem State.restoreFactory_step (h : s.accepts at_ w E.Restore.RESTORE_FACTORY.key .u32 (.num n)) :
    (s.advance at_).writeStep w E.Restore.RESTORE_FACTORY.key .u32 (.num n)
      = { (((s.advance at_).renew E.Restore.RESTORE_NONCE).effRestore w.node).servicesCommit with odStatus := 0 } := by
  obtain ⟨r, hrow, hret, hacc⟩ : ∃ r : Row, tableRow E.Restore.RESTORE_FACTORY.key = some (r, E.Restore.RESTORE_FACTORY) ∧ r.ret = .volatile
      ∧ r.acc = .wo := ⟨_, rfl, rfl, rfl⟩
  have hbare : ((s.advance at_).renew E.Restore.RESTORE_NONCE).power.bare = false := by simpa using State.bare_of_servicesUp h.1
  have he := State.entryAt_of_tableRow hbare (.inl (by decide)) (by decide) (by decide) hrow
  have hkey : retainedKey E.Restore.RESTORE_FACTORY.key = false := by simp [retainedKey, hrow, hret]
  have heff (x : State) : x.effOwner w E.Restore.RESTORE_FACTORY.key (.num n) = x.effRestore w.node := rfl
  rw [State.writeStep_of_accepts h fun t => rfl, State.commitWrite,
    show (s.advance at_).reached E.Restore.RESTORE_FACTORY.key (.num n) = (s.advance at_).renew E.Restore.RESTORE_NONCE from rfl,
    State.storeValue_command he (by decide) (by simp [hret]) (by simp [hacc]), heff, State.mirrored, hkey, Bool.and_false, if_neg (by simp)]

theorem State.restartDue_logicReset {x : State} (c : Nat) (h : x.pending = s.pending) : RestartDue c s (x.logicReset c false) :=
  ⟨rfl, rfl, rfl, rfl, rfl, rfl, rfl, State.logicReset_moves.1.1.trans h⟩

theorem RestartDue.servicesCommit {x : State} {c : Nat} (h : RestartDue c s x) (st : Nat) :
    RestartDue c s { x.servicesCommit with odStatus := st } := by
  rw [State.servicesCommit_eq]
  exact h

theorem State.restoreFactory_completes (h : s.accepts at_ w E.Restore.RESTORE_FACTORY.key .u32 (.num n)) :
    Completes (.restoreFactory at_ w n) s (fun t => t.odStatus = 0 ∧ RestartDue 5 s t ∧ ∀ e ∈ restoredEnts, t.get e = e.d) := by
  refine ⟨_, congrArg Host.Outcome.next (State.restoreFactory_step h), rfl, ?_, fun e he => ?_⟩
  · refine (State.restartDue_logicReset 5 ?_).servicesCommit 0
    exact State.factoryReset_moves.1.1.trans (State.settleLog_moves.1.1.trans (by simp))
  · have hfar : ∀ e ∈ restoredEnts, ∀ f ∈ genEnts, e.key ≠ f.key := by decide
    rw [(State.frame_servicesCommit _).get (by simp) (hfar e he) (by simp), State.get_effRestore he]

end

/-- Settles O13: the form checks and the value checks come before the store; what a setting, a command of O13 and the factory reset leave is
said by the lemma of each. -/
theorem writesAreCheckedBeforeTheyAreStored : Obligations.WritesAreCheckedBeforeTheyAreStored := by
  unfold Obligations.WritesAreCheckedBeforeTheyAreStored
  refine ⟨fun s at_ n w e he ha => ?_, fun s at_ n w e he ha => ?_, fun s at_ key w ty v hdown => ?_, fun s at_ key w ty v hup hw => ?_,
    fun s at_ key w ty v hup hw hform => ?_, fun s at_ key w ty v hup hw hbad => ?_, fun s at_ n w ha _ => State.restoreFactory_completes ha,
    fun s at_ k w hk ha => State.ringResetHwm_completes hk ha, fun s at_ a w ha h => State.axisResetStats_completes ha h⟩
  case _ =>
    obtain ⟨t, ht, hst⟩ := (plainSetting_retained e he).storesRetained ha
    exact ⟨t, congrArg Host.Outcome.next ht, hst⟩
  case _ =>
    obtain ⟨t, ht, hst⟩ := (plainSetting_volatile e he).storesVolatile ha
    exact ⟨t, congrArg Host.Outcome.next ht, hst⟩
  case _ => exact ⟨_, congrArg Host.Outcome.next (State.dictStep_of_down hdown), rfl, by simp [State.instant], (Frame.refl ..).advance⟩
  case _ =>
    exact ⟨_, congrArg Host.Outcome.next (State.dictStep_of_absent hup hw), rfl, rfl, by simp [State.instant],
      (Frame.refl ..).advance.with_odStatus (by simp)⟩
  case _ =>
    exact ⟨_, congrArg Host.Outcome.next (State.writeStep_eq hup hw (State.write_of_badForm hform) fun h => absurd h hform), rfl,
      by simp [State.instant], (Frame.refl ..).advance.with_odStatus (by simp)⟩
  case _ =>
    obtain ⟨t, ht, hod, hblocks, hnow, hpending⟩ := State.write_of_refused hbad
    exact ⟨_, congrArg Host.Outcome.next (State.writeStep_eq hup hw ht fun h => absurd h hbad), rfl, hod, hblocks,
      hnow.trans (by simp [State.instant]), hpending⟩

end Sys2Proof.Machine
end

section
/-!
O9. The statement holds of every state, also of one that lists two sessions under one identifier. No run reaches such a state (R78 opens a
session under a number that no open one has), but there the clause of SUBSCRIBE fails: the window of the request moves on both entries of
the list, so both then are the first session, and the subscription numbers of the second are no longer in use when the new one is chosen.
-/
namespace Sys2Proof.Machine.SharedId

/-- The session that the request names, without a subscription. -/
def first : Session :=
  { id := 7, level := .service, key := [1], port := 4, ip := 0, udp := 0, mac := 0, node := 9, idleMs := 300000, lastReq := 0 }

/-- Subscription number 0. -/
def held : Subscription :=
  { id := 0, key := E.Id.MODULE_STATE.key, mode := 0, periodMs := 10, deadband := 0, lastSample := 0, lastNotify := 0, port := 4, ip := 0, udp := 0 }

/-- A module in operation, ACTIVE with pair 0 running, that lists `first` and a second session of the same identifier, which holds number 0. -/
def state : State :=
  let s := { State.reset with power := { State.reset.power with boot := none, resumeAt := some 0 }
                              eop := { State.reset.eop with sessions := [first, { first with subs := [held] }] } }
  ((s.wr E.Id.MODULE_STATE 1).wr E.Dbl.SERVICES_PAIR 0).wr (E.Dbl.PAIR_STATE 0) 1

/-- A host on J16. -/
def origin : Origin := { port := 4, ip := 1, udp := 2, mac := 3 }

/-- SUBSCRIBE to MODULE_STATE in mode 0 with a period of 10 ms (Table DIC-12). -/
def payload : List Byte := beBytes 3 E.Id.MODULE_STATE.key ++ beBytes 1 0 ++ beBytes 4 10 ++ beBytes 8 0

/-- The request under session 7, SEQUENCE 1. -/
def frame : List Byte := eopFrame 0x40 0x30 0 300 7 1 9 0 payload

def datagram : List Byte := frame ++ (hmac [1] frame).take 16

/-- The datagram spells a request (Table DIC-5). -/
theorem isSome_parse : (eopParse datagram).isSome = true := by decide +kernel

def request : EopReq := (eopParse datagram).get isSome_parse

theorem parse_datagram : eopParse datagram = some request := (Option.some_get _).symm

theorem admits : state.admits 0 origin 0x30 datagram request := by
  have hup : state.servicesUp = true := by decide +kernel
  have htag : request.tag = (hmac first.key request.signed).take 16 := by decide +kernel
  exact ⟨by decide +kernel, ⟨rfl, rfl, hup, .inl rfl⟩, by decide +kernel, by decide +kernel, by decide +kernel, by decide +kernel,
    by decide +kernel, by decide +kernel, by decide +kernel, by decide +kernel,
    ⟨first, by decide +kernel, by decide +kernel, by decide +kernel, htag, .inl (by decide +kernel), by decide +kernel⟩, by decide +kernel,
    by decide +kernel, by decide +kernel⟩

/-- The answer gives number 0, which the second session of the list held. -/
theorem reply_subscribe : ((state.advance 0).eopRow origin 0x30 datagram).reply request = some (0, beBytes 2 0) := by decide +kernel

end Sys2Proof.Machine.SharedId
namespace Sys2Proof.Machine

/-- Refutes O9: where two sessions share an identifier, SUBSCRIBE answers a number that the statement counts as in use. -/
theorem not_groupsAndSubscriptionsOfASession : ¬ Obligations.GroupsAndSubscriptionsOfASession := by
  unfold Obligations.GroupsAndSubscriptionsOfASession
  rintro ⟨-, -, -, -, -, -, hsubscribe, -⟩
  have hrow : (SharedId.state.entryAt (keyAt SharedId.request.payload 0)).toOption.any
      (fun r => r.1.acc != .wo && decide (entryMax (keyAt SharedId.request.payload 0) r.1 ≤ 1024)) = true := by decide +kernel
  obtain ⟨r, hr, hread⟩ := Option.any_eq_true .. |>.1 hrow
  simp only [Bool.and_eq_true, bne_iff_ne, decide_eq_true_eq] at hread
  obtain ⟨t, ht, hreply, -⟩ := hsubscribe SharedId.state 0 SharedId.origin SharedId.datagram SharedId.request SharedId.parse_datagram
    SharedId.admits (by decide +kernel) SharedId.first (by decide +kernel) (by decide) (by decide +kernel) r hr hread.1 hread.2 (by decide +kernel)
    (by decide +kernel) (by decide +kernel) (by decide +kernel) 1 (by decide +kernel)
  obtain rfl : (SharedId.state.advance 0).eopRow SharedId.origin 0x30 SharedId.datagram = t := by injection ht
  rw [SharedId.reply_subscribe] at hreply
  exact absurd hreply (by decide)

end Sys2Proof.Machine
end

section
/-!
SUPPORT. A request of the object protocol from its datagram to its answer (R59, R60, R79, R82): what the datagram's frame leaves as it is taken,
what the checks of a request that passes leave, and what its answer leaves.
-/
namespace Sys2Proof.Machine

/-! ## The datagram leaves its ring -/

section
variable {s : State} {at_ : Nat} {o : Origin} {d : List Byte} {q : EopReq}

/-- From `s` to `t` nothing but the receive rings and the sources of the ports changes. -/
structure Received (s t : State) : Prop where
  eq : t = { s with rings := t.rings, net := t.net }
  ring : ∀ k, k ∉ portRings → t.ring k = s.ring k

theorem Received.refl (s : State) : Received s s := ⟨rfl, fun _ _ => rfl⟩

theorem Received.trans {x t : State} (h : Received s x) (g : Received x t) : Received s t :=
  ⟨by rw [g.eq, h.eq], fun k hk => (g.ring k hk).trans (h.ring k hk)⟩

theorem State.takeFrame_received {k : Nat} (hk : k ∈ portRings) : Received s (s.takeFrame k d).1 := by
  unfold State.takeFrame
  dsimp only
  split
  · exact ⟨rfl, fun j hj => State.ring_setRing_ne _ _ (fun h => hj (h ▸ hk))⟩
  · exact .refl s

theorem State.takeDatagram_received (s : State) (o : Origin) (d : List Byte) : Received s (s.takeDatagram o d) := by
  have hport := o.port.isLt
  unfold State.takeDatagram
  split
  · exact .refl s
  · have hhi := State.takeFrame_received (s := s) (d := d) (k := 4 * o.port.val + 2) (mem_portRings.2 (by omega))
    have hlo (t : State) := State.takeFrame_received (s := t) (d := d) (k := 4 * o.port.val + 3) (mem_portRings.2 (by omega))
    dsimp only
    split
    next t f ht => rw [ht] at hhi; exact hhi.trans ⟨rfl, fun _ _ => rfl⟩
    next t ht => rw [ht] at hhi; exact hhi.trans (hlo t)

theorem Received.frame {t : State} (h : Received s t) : Frame [.net] [] portRings s t := by
  rw [h.eq]
  exact ⟨rfl, fun p hp => by cases p <;> simp_all [Part.same], fun _ _ _ => rfl, h.ring⟩

theorem Received.od {t : State} (h : Received s t) : t.od = s.od := by rw [h.eq]
theorem Received.rt {t : State} (h : Received s t) : t.rt = s.rt := by rw [h.eq]
theorem Received.now {t : State} (h : Received s t) : t.now = s.now := by rw [h.eq]
theorem Received.eop {t : State} (h : Received s t) : t.eop = s.eop := by rw [h.eq]
theorem Received.power {t : State} (h : Received s t) : t.power = s.power := by rw [h.eq]
theorem Received.rd {t : State} (h : Received s t) (e : Ent) : t.rd e = s.rd e := by rw [h.eq]; rfl
theorem Received.session {t : State} (h : Received s t) (n : Nat) : t.session n = s.session n := by rw [h.eq]; rfl

end

/-! ## The checks of a request -/

/-- The session as an accepted SEQUENCE `n` at `now` leaves it (R79, R80). -/
def Session.admittedAs (x : Session) (n now : Nat) : Session := { (admitSeq x n).getD x with lastReq := now }

section
variable {x y : Session} {n now : Nat}

/-- SEQUENCE moves the window alone. -/
theorem admitSeq_keeps (h : admitSeq x n = some y) : y = { x with high := y.high, window := y.window, passed := y.passed } := by
  unfold admitSeq at h
  dsimp only at h
  split at h
  · rw [← Option.some.inj h]
  · split at h
    · rw [← Option.some.inj h]
    · cases h

theorem admitSeq_isSome (h : x.takesSeq n) : (admitSeq x n).isSome = true := by
  unfold admitSeq
  dsimp only
  split
  · rfl
  next hahead =>
    rcases h with h | ⟨hback, hpassed, hfree⟩
    · exact absurd (by simpa using h) hahead
    · rw [if_pos (by simpa using ⟨⟨hback, hpassed⟩, hfree⟩)]
      rfl

theorem Session.admittedAs_eq (x : Session) (n now : Nat) : ∃ h w p, x.admittedAs n now
    = { x with high := h, window := w, passed := p, lastReq := now } := by
  unfold Session.admittedAs
  cases hs : admitSeq x n with
  | none => exact ⟨x.high, x.window, x.passed, rfl⟩
  | some y => exact ⟨y.high, y.window, y.passed, by rw [Option.getD_some, admitSeq_keeps hs]⟩

@[simp] theorem Session.admittedAs_lastReq : (x.admittedAs n now).lastReq = now := rfl

@[simp] theorem Session.admittedAs_id : (x.admittedAs n now).id = x.id := by
  obtain ⟨h, w, p, he⟩ := x.admittedAs_eq n now; rw [he]
@[simp] theorem Session.admittedAs_node : (x.admittedAs n now).node = x.node := by
  obtain ⟨h, w, p, he⟩ := x.admittedAs_eq n now; rw [he]
@[simp] theorem Session.admittedAs_level : (x.admittedAs n now).level = x.level := by
  obtain ⟨h, w, p, he⟩ := x.admittedAs_eq n now; rw [he]
@[simp] theorem Session.admittedAs_cache : (x.admittedAs n now).cache = x.cache := by
  obtain ⟨h, w, p, he⟩ := x.admittedAs_eq n now; rw [he]
@[simp] theorem Session.admittedAs_transfer : (x.admittedAs n now).transfer = x.transfer := by
  obtain ⟨h, w, p, he⟩ := x.admittedAs_eq n now; rw [he]
@[simp] theorem Session.admittedAs_writer : (x.admittedAs n now).writer = x.writer := by
  obtain ⟨h, w, p, he⟩ := x.admittedAs_eq n now; rw [he]; rfl
@[simp] theorem Session.admittedAs_clearRejects : (x.admittedAs n now).clearRejects = x.clearRejects := by
  obtain ⟨h, w, p, he⟩ := x.admittedAs_eq n now; rw [he]

end

section
variable {s : State} {at_ code : Nat} {o : Origin} {d : List Byte} {q : EopReq} {x : Session}

/-- What the request finds: the datagram has left its ring. -/
def State.received (s : State) (at_ : Nat) (o : Origin) (d : List Byte) : State := (s.advance at_).takeDatagram o d

theorem State.received_received (s : State) (at_ : Nat) (o : Origin) (d : List Byte) : Received (s.advance at_) (s.received at_ o d) :=
  State.takeDatagram_received ..

theorem State.admitReq_of_admits (h : s.admits at_ o code d q) (hx : s.session q.session = some x) :
    (s.received at_ o d).admitReq q = ((s.received at_ o d).setSession (x.admittedAs q.sequence (s.instant at_)), 0) := by
  obtain ⟨-, -, -, -, -, -, -, -, -, -, ⟨y, hy, hidle, htag, hkey, hseq, -⟩, -⟩ := h
  obtain rfl : y = x := Option.some.inj (hy.symm.trans hx)
  have hr := s.received_received at_ o d
  have hnow : (s.received at_ o d).now = s.instant at_ := hr.now
  have hses : (s.received at_ o d).session q.session = some y := (hr.session _).trans hx
  have hbusy : (s.received at_ o d).idle y = false := by
    simp only [State.idle, hnow, decide_eq_false_iff_not]
    omega
  obtain ⟨z, hz⟩ := Option.isSome_iff_exists.1 (admitSeq_isSome hseq)
  simp [State.admitReq, hses, hbusy, htag, hkey, hz, Session.admittedAs, hnow]

theorem State.admitted_eq (h : s.admits at_ o code d q) (hx : s.session q.session = some x) :
    s.admitted at_ o d q = (s.received at_ o d).setSession (x.admittedAs q.sequence (s.instant at_)) :=
  congrArg Prod.fst (State.admitReq_of_admits h hx)

theorem State.session_admitted (h : s.admits at_ o code d q) (hx : s.session q.session = some x) :
    (s.admitted at_ o d q).session q.session = some (x.admittedAs q.sequence (s.instant at_)) := by
  rw [State.admitted_eq h hx]
  refine State.session_setSession_self (((s.received_received at_ o d).session _).trans hx) _ ?_
  rw [Session.admittedAs_id, State.session_id hx]

theorem State.admitted_now (h : s.admits at_ o code d q) (hx : s.session q.session = some x) :
    (s.admitted at_ o d q).now = s.instant at_ := by
  rw [State.admitted_eq h hx]
  exact (s.received_received at_ o d).now

/-- An admitted request has touched the session, the receive ring and the sources of the port. -/
theorem State.admitted_frame (h : s.admits at_ o code d q) (hx : s.session q.session = some x) :
    Frame [.eop, .net, .j16] [] portRings s (s.admitted at_ o d q) := by
  rw [State.admitted_eq h hx]
  exact ((Frame.refl ..).advance.trans ((s.received_received at_ o d).frame.mono (by simp) (by simp) (by simp))).setSession (by simp)

@[simp] theorem State.setSession_deferred (t : State) (y : Session) : (t.setSession y).eop.deferred = t.eop.deferred := rfl

theorem State.eopUp_of_answers (h : s.answersEop o) : (s.advance at_).eopUp o code = true := by
  obtain ⟨hboot, hbare, hup, hport⟩ := h
  have hup' : (s.advance at_).servicesUp = true := hup
  have hstandby : (s.advance at_).standby = s.standby := rfl
  rcases hport with hport | ⟨hactive, hstate, hpower⟩
  · simp [State.eopUp, hboot, hbare, hup', hport]
  · simp [State.eopUp, hboot, hbare, hup', hstandby, hactive, hstate, hpower]

/-- The checks of the header pass (R59, R60). -/
theorem State.request_of_admits (h : s.admits at_ o code d q) (hx : s.session q.session = some x)
    (hneed : sessionNeed code = some 0 ∨ sessionNeed code = some 1) (hnew : (s.admitted at_ o d q).repeated o q = none) :
    (s.received at_ o d).request o q = (s.admitted at_ o d q).perform o q := by
  have hadm := State.admitReq_of_admits h hx
  rw [State.admitted_eq h hx] at hnew ⊢
  obtain ⟨rfl, ⟨-, hbare, -⟩, hdest, hflags, hresp, hst, hres, hsrc, hlen, hne, -⟩ := h
  have hr := s.received_received at_ o d
  have hnode : q.dest = (s.received at_ o d).rd E.Id.NODE_ID_ACTIVE := hdest.trans (hr.rd _).symm
  have hvalid : (s.received at_ o d).power.bare = false := by rw [hr.power]; exact hbare
  obtain ⟨n, hn, hn2⟩ : ∃ n, sessionNeed q.service = some n ∧ n ≠ 2 := by rcases hneed with h | h <;> exact ⟨_, h, by decide⟩
  have hsource : ¬ 262144 ≤ q.source := Nat.not_le.2 hsrc
  simp [State.request, hnode, hflags, hresp, hst, hres, hsource, Nat.not_lt.2 hlen, hne, hn, hn2, hvalid, hadm, hnew]

theorem State.repeated_eq_none (hx : s.session q.session = some x) (hcache : ∀ k ∈ x.cache, k.transaction ≠ q.transaction)
    (hdef : ∀ k ∈ s.eop.deferred, k.session ≠ q.session ∨ k.transaction ≠ q.transaction) (hring : (s.ring 29).q = []) :
    s.repeated o q = none := by
  have hkept : x.cache.find? (fun k => k.transaction == q.transaction) = none := List.find?_eq_none.2 (by simpa using hcache)
  have hwaits : s.eop.deferred.any (fun k => k.session == x.id && k.transaction == q.transaction) = false :=
    List.any_eq_false.2 fun k hk => by simpa [State.session_id hx, imp_iff_not_or] using hdef k hk
  simp [State.repeated, hx, hkept, hring, hwaits]

/-- An admitted request repeats none (R82). -/
theorem State.repeated_of_admits (h : s.admits at_ o code d q) (hx : s.session q.session = some x) :
    (s.admitted at_ o d q).repeated o q = none := by
  have hses := State.session_admitted h hx
  have hring : (s.admitted at_ o d q).ring 29 = s.ring 29 := (State.admitted_frame h hx).2.2.2 29 (by decide)
  have hdefer : (s.admitted at_ o d q).eop.deferred = s.eop.deferred := by
    rw [State.admitted_eq h hx, State.setSession_deferred, (s.received_received at_ o d).eop, State.advance_eop]
  obtain ⟨-, -, -, -, -, -, -, -, -, -, ⟨y, hy, -, -, -, -, hcache⟩, hdef, hempty, -⟩ := h
  obtain rfl : y = x := Option.some.inj (hy.symm.trans hx)
  exact State.repeated_eq_none hses (by rwa [Session.admittedAs_cache]) (by rwa [hdefer]) (by rw [hring, hempty])

/-- An admitted request is executed. -/
theorem State.eopRow_of_admits (hq : eopParse d = some q) (h : s.admits at_ o code d q) (hx : s.session q.session = some x)
    (hneed : sessionNeed code = some 0 ∨ sessionNeed code = some 1) :
    (s.advance at_).eopRow o code d = (s.admitted at_ o d q).perform o q := by
  have hreq := State.request_of_admits h hx hneed (State.repeated_of_admits h hx)
  simp only [State.eopRow, hq, Option.any_some, h.1, bne_self_eq_false, State.eopUp_of_answers h.2.1, Bool.not_true, Bool.or_false,
    Bool.false_eq_true, if_false, State.datagram]
  exact hreq

end

end Sys2Proof.Machine
end

section
/-!
SUPPORT. The answer to a request of a session: sent, and kept for a repetition (R77, R79, R82).
-/
namespace Sys2Proof.Machine

/-! ## The kept answer -/

/-- The last 32 answers, the new one among them (R82). -/
def keptWith (c : List KeptResponse) (k : KeptResponse) : List KeptResponse :=
  (c.filter (fun y => y.transaction != k.transaction) ++ [k]).drop ((c.filter (fun y => y.transaction != k.transaction) ++ [k]).length - 32)

/-- Session `y` with answer `k` kept. -/
def Session.keeping (y : Session) (k : KeptResponse) : Session := { y with cache := keptWith y.cache k }

theorem find_keptWith (c : List KeptResponse) (k : KeptResponse) : (keptWith c k).find? (fun y => y.transaction == k.transaction) = some k := by
  unfold keptWith
  generalize hl : c.filter (fun y => y.transaction != k.transaction) = l
  have hother : ∀ y ∈ l, y.transaction ≠ k.transaction := fun y hy => by
    rw [← hl] at hy
    simpa using (List.mem_filter.1 hy).2
  have hdrop : (l ++ [k]).length - 32 ≤ l.length := by simp
  rw [List.drop_append_of_le_length hdrop, List.find?_append, List.find?_eq_none.2 fun y hy => by simpa using hother y (List.mem_of_mem_drop hy)]
  simp

section
variable {s v t : State} {o : Origin} {q : EopReq} {y : Session} {n svc tr dest st : Nat} {pay : List Byte}

/-- From `v` to `t` request `q` has been answered `st` and `pay`. -/
structure Answered (q : EopReq) (st : Nat) (pay : List Byte) (v t : State) : Prop where
  reply : t.reply q = some (st, pay)
  now : t.now = v.now
  frame : AnswersOnly v t
  eop : t.eop = { v.eop with sessions := t.eop.sessions }
  session : ∃ c n, t.session q.session = (v.session q.session).map fun y => { y with cache := c, txSeq := n }

theorem State.session_sendTagged_self (h : s.session n = some y) {z : Session} (hz : z.id = n) (a b c d : Nat) (p : List Byte) :
    (s.sendTagged o z a b c d p).session n = some { z with txSeq := (z.txSeq + 1) % 2 ^ 32 } := by
  simp only [State.session, State.sendTagged_eop]
  exact State.session_setSession_self h _ hz

theorem State.keepResponse_eq (h : s.session n = some y) (k : KeptResponse) : s.keepResponse n k = s.setSession (y.keeping k) := by
  simp [State.keepResponse, h, keptWith, Session.keeping]

theorem Session.id_keeping (h : s.session n = some y) (k : KeptResponse) : (y.keeping k).id = n := State.session_id (x := y) h

theorem State.answerSession_eq (h : s.session n = some y) : s.answerSession o n svc tr dest st pay
    = (s.setSession (y.keeping ⟨tr, svc, st, pay⟩)).sendTagged o (y.keeping ⟨tr, svc, st, pay⟩) svc st tr dest pay := by
  unfold State.answerSession
  rw [State.keepResponse_eq h]
  simp only [State.session_setSession_self h _ (Session.id_keeping h ⟨tr, svc, st, pay⟩)]

theorem State.answerSession_answered (h : v.session q.session = some y) :
    Answered q st pay v (v.answerSession o q.session svc q.transaction dest st pay) := by
  have hfound := State.session_setSession_self h _ (Session.id_keeping h ⟨q.transaction, svc, st, pay⟩)
  have hses := State.session_sendTagged_self (o := o) hfound (Session.id_keeping h ⟨q.transaction, svc, st, pay⟩) svc st
    q.transaction dest pay
  have hkept := find_keptWith y.cache ⟨q.transaction, svc, st, pay⟩
  rw [State.answerSession_eq h]
  refine ⟨?_, by simp, ((Frame.refl ..).setSession (by simp)).sendTagged (by simp) (by simp) (fun _ h => h), by rw [State.sendTagged_eop]; rfl,
    ⟨_, _, hses.trans (by rw [h]; rfl)⟩⟩
  rw [State.reply, hses, Option.bind_some, Session.keeping, hkept, Option.map_some]

end

end Sys2Proof.Machine
end

section
/-!
SUPPORT. The execution of an admitted request (R50, R62): a dictionary service by the free server, another one by the module itself, then
the answer.
-/
namespace Sys2Proof.Machine

section
variable {s u v : State} {at_ code node : Nat} {o : Origin} {d : List Byte} {q : EopReq} {x y : Session} {a : Ans}

/-- The client that a session is. -/
def Session.client (x : Session) : Client := { r := .session x.id, w := x.writer }

theorem State.clientOf_session (h : u.session q.session = some x) : u.clientOf q.session node = x.client := by
  simp [State.clientOf, h, Session.client, Session.writer]

theorem State.execute_dict (hd : dictService q.service = true) (hfree : (u.ring 29).q = []) (hopen : (u.ring 30).waiting = []) :
    u.execute o q = ((u.serve (u.clientOf q.session q.source) q.service q.payload).1,
      some ((u.serve (u.clientOf q.session q.source) q.service q.payload).2,
        (u.serve (u.clientOf q.session q.source) q.service q.payload).1.mirrorWait u)) := by
  have hroom : u.room 29 1 = true := by simp [State.room, State.fill, hfree, ringDepth]
  have hdrain : u.drainPort = u := by simp [State.drainPort, hfree]
  simp [State.execute, hd, hroom, hdrain, State.serverPaused, hopen]

theorem State.perform_dict (hd : dictService q.service = true) (hfree : (u.ring 29).q = []) (hopen : (u.ring 30).waiting = [])
    (hserve : u.serve (u.clientOf q.session q.source) q.service q.payload = (v, a)) :
    u.perform o q = v.answer (q.back o) q.service (v.mirrorWait u) a := by
  have hne : q.service ≠ 0x60 := fun h => by simp [h, dictService] at hd
  simp [State.perform, hne, State.execute_dict hd hfree hopen, hserve]

theorem State.perform_other (hd : dictService q.service = false) (hne : q.service ≠ 0x60) (hserve : u.otherService o q = (v, a)) :
    u.perform o q = v.answer (q.back o) q.service none a := by
  simp [State.perform, hne, State.execute, hd, hserve]

theorem State.answer_answered (hb : v.power.boot = none) (hn : q.session ≠ 0) (hs : q.service ≠ 0x42) (ha : a.abort = none)
    (hy : v.session q.session = some y) : Answered q a.st a.pay v (v.answer (q.back o) q.service none a) := by
  have heq : v.answer (q.back o) q.service none a
      = v.answerSession o q.session q.service q.transaction q.source a.st a.pay := by
    simp [State.answer, hb, EopReq.back, hn, ha, hs]
  rw [heq]
  exact State.answerSession_answered hy

/-- A dictionary service of an admitted request: served, then answered. -/
theorem State.served_of_admits (hq : eopParse d = some q) (h : s.admits at_ o code d q) (hx : s.session q.session = some x)
    (hcode : dictService code = true) (hneed : sessionNeed code = some 0 ∨ sessionNeed code = some 1)
    (hserve : (s.admitted at_ o d q).serve (x.admittedAs q.sequence (s.instant at_)).client code q.payload = (v, a))
    (hb : v.power.boot = none) (ha : a.abort = none) (hw : v.mirrorWait (s.admitted at_ o d q) = none) (hy : v.session q.session = some y) :
    ∃ t, (s.advance at_).eopRow o code d = t ∧ Answered q a.st a.pay v t := by
  refine ⟨_, rfl, ?_⟩
  have hframe := State.admitted_frame h hx
  have h29 : (s.admitted at_ o d q).ring 29 = s.ring 29 := hframe.2.2.2 29 (by decide)
  have h30 : (s.admitted at_ o d q).ring 30 = s.ring 30 := hframe.2.2.2 30 (by decide)
  have hses := State.session_admitted h hx
  rw [State.eopRow_of_admits hq h hx hneed]
  obtain ⟨rfl, -, -, -, -, -, -, -, -, hne, -, -, hfree, hopen⟩ := h
  rw [State.perform_dict hcode (by rw [h29, hfree]) (by rw [h30, hopen]) ((congrArg (fun c => State.serve _ c _ _)
    (State.clientOf_session hses)).trans hserve), hw]
  exact State.answer_answered hb hne (fun hc => by simp [hc, dictService] at hcode) ha hy

/-- Another service within a session: served, then answered. -/
theorem State.otherServed_of_admits (hq : eopParse d = some q) (h : s.admits at_ o code d q) (hx : s.session q.session = some x)
    (hcode : dictService code = false) (hown : code ≠ 0x60 ∧ code ≠ 0x42) (hneed : sessionNeed code = some 0 ∨ sessionNeed code = some 1)
    (hserve : (s.admitted at_ o d q).otherService o q = (v, a)) (hb : v.power.boot = none) (ha : a.abort = none)
    (hy : v.session q.session = some y) : ∃ t, (s.advance at_).eopRow o code d = t ∧ Answered q a.st a.pay v t := by
  refine ⟨_, rfl, ?_⟩
  rw [State.eopRow_of_admits hq h hx hneed]
  obtain ⟨rfl, -, -, -, -, -, -, -, -, hne, -⟩ := h
  rw [State.perform_other hcode hown.1 hserve]
  exact State.answer_answered hb hne hown.2 ha hy

/-- What keeps the part and entries of twins waits for no standby (R484). -/
theorem State.mirrorWait_eq_none (htwin : v.twin = u.twin) (hgen : v.rd E.Twin.GEN_SENT = u.rd E.Twin.GEN_SENT) : v.mirrorWait u = none := by
  simp [State.mirrorWait, htwin, hgen]

end

end Sys2Proof.Machine
end

section
/-!
SUPPORT. A request outside a session (R62) and its answer.
-/
namespace Sys2Proof.Machine

theorem foldl_be_eq_zero {l : List Byte} {a : Nat} : l.foldl (fun a b => 256 * a + b.toNat) a = 0 ↔ a = 0 ∧ zeros l = true := by
  induction l generalizing a with
  | nil => simp [zeros]
  | cons b l ih =>
    have hb : b.toNat = 0 ↔ b = 0 := by simp [← BitVec.toNat_inj]
    simp [ih, hb, zeros, and_assoc]

/-- A field that reads 0 is all zeros. -/
theorem zeros_of_beAt {p : List Byte} {i n : Nat} (h : beAt p i n = 0) : zeros (slice p i n) = true := (foldl_be_eq_zero.1 h).2

section
variable {s u v : State} {at_ code : Nat} {o : Origin} {d : List Byte} {q : EopReq} {a : Ans}

theorem Received.blocked (h : Received s u) (ip : Nat) : u.blocked ip = s.blocked ip := by simp only [State.blocked, h.eop, h.now]

theorem State.received_frame (s : State) : Frame [.net] [] portRings s (s.received at_ o d) :=
  (Frame.refl ..).advance.trans (s.received_received at_ o d).frame

/-- A request outside a session is executed where it needs none. -/
theorem State.eopRow_of_plain (hq : eopParse d = some q) (h : s.admitsPlain o code q)
    (hneed : sessionNeed code = some 0 ∨ sessionNeed code = some 2) :
    (s.advance at_).eopRow o code d = (s.received at_ o d).perform o q := by
  have hup : (s.advance at_).eopUp o code = true := State.eopUp_of_answers h.2.1
  obtain ⟨rfl, ⟨-, hbare, -⟩, hdest, hflags, hst, hres, hsrc, hlen, hnone, hseq, -⟩ := h
  have hr := s.received_received at_ o d
  have hnode : q.dest = (s.received at_ o d).rd E.Id.NODE_ID_ACTIVE := hdest.trans (hr.rd _).symm
  have hvalid : (s.received at_ o d).power.bare = false := by rw [hr.power]; exact hbare
  have hsource : ¬ 262144 ≤ q.source := Nat.not_le.2 hsrc
  have htag : q.tagged = false := by simp [EopReq.tagged, hflags, bitOf]
  have hbit : bitOf 0 7 = false := by decide
  obtain ⟨n, hn, hn1⟩ : ∃ n, sessionNeed q.service = some n ∧ n ≠ 1 := by rcases hneed with h | h <;> exact ⟨_, h, by decide⟩
  have hreq : (s.received at_ o d).request o q = (s.received at_ o d).perform o q := by
    simp [State.request, hnode, hflags, hbit, hst, hres, hsource, Nat.not_lt.2 hlen, hnone, hseq, hn, hn1, hvalid, htag]
  simp only [State.eopRow, hq, Option.any_some, bne_self_eq_false, hup, Bool.not_true, Bool.or_false, Bool.false_eq_true, if_false, State.datagram]
  exact hreq

theorem State.answer_plain {b : EopBack} {svc : Nat} {gen : Option Nat} (hb : v.power.boot = none) (hn : b.session = 0) :
    v.answer b svc gen a = v.answerPlain b.origin svc b.transaction b.node a := by
  simp [State.answer, hb, hn]

@[simp] theorem State.answerPlain_now {svc tr node : Nat} : (v.answerPlain o svc tr node a).now = v.now := State.sendEop_now
@[simp] theorem State.answerPlain_eop {svc tr node : Nat} : (v.answerPlain o svc tr node a).eop = v.eop := State.sendEop_eop

theorem State.answerPlain_frame {svc tr node : Nat} : Frame [.j16] [] portRings v (v.answerPlain o svc tr node a) :=
  (Frame.refl ..).sendEop (by simp) fun _ h => h

/-- Another service outside a session: served, then answered. -/
theorem State.otherServed_of_plain (hq : eopParse d = some q) (h : s.admitsPlain o code q) (hcode : dictService code = false) (hown : code ≠ 0x60)
    (hneed : sessionNeed code = some 0 ∨ sessionNeed code = some 2) (hserve : (s.received at_ o d).otherService o q = (v, a))
    (hb : v.power.boot = none) : (s.advance at_).eopRow o code d = v.answerPlain o code q.transaction q.source a := by
  have hnone : q.session = 0 := h.2.2.2.2.2.2.2.2.1
  rw [State.eopRow_of_plain hq h hneed]
  obtain ⟨rfl, -⟩ := h
  rw [State.perform_other hcode hown hserve, State.answer_plain hb hnone]
  rfl

end

end Sys2Proof.Machine
end
section
/-!
O10. Logins (R77, R78).
-/
namespace Sys2Proof.Machine

section
variable {s : State} {at_ : Nat} {o : Origin} {d : List Byte} {q : EopReq} {c : Challenge}

/-- What a challenge leaves of the state that finds its request. -/
def State.challenged (s : State) (p : List Byte) : State :=
  let n := s.eop.nextChallenge % 2 ^ 32
  let c : Challenge := { id := n, level := beAt p 0 1, client := Machine.slice p 4 16, nonce := beBytes 16 s.rand, issued := s.now }
  { s.drawn with eop := { s.eop with challenges := s.eop.challenges ++ [c], nextChallenge := (n + 1) % 2 ^ 32 } }

theorem loginChallenge_of_free {u : State} (hlen : q.payload.length = 20) (hlevel : beAt q.payload 0 1 ≤ 3) (hzero : beAt q.payload 1 3 = 0)
    (hfree : u.blocked o.ip.toNat = false) : ∃ a : Ans, u.loginChallenge o q.payload = (u.challenged q.payload, a) := by
  simp [State.loginChallenge, hfree, hlen, Nat.not_lt.2 hlevel, zeros_of_beAt hzero, State.challenged]

theorem loginChallenge_completes (hq : eopParse d = some q) (h : s.admitsPlain o 0x40 q) (hlen : q.payload.length = 20)
    (hlevel : beAt q.payload 0 1 ≤ 3) (hzero : beAt q.payload 1 3 = 0) (hfree : (s.advance at_).blocked o.ip.toNat = false) :
    Completes (.loginChallenge at_ o d) s (fun t => t.eop.sessions = s.eop.sessions
      ∧ t.eop.nextChallenge = (s.eop.nextChallenge % 2 ^ 32 + 1) % 2 ^ 32
      ∧ t.eop.challenges.length = s.eop.challenges.length + 1
      ∧ (∀ c, t.eop.challenges.getLast? = some c → c.id = s.eop.nextChallenge % 2 ^ 32 ∧ c.level = beAt q.payload 0 1
          ∧ c.client = slice q.payload 4 16 ∧ c.issued = (s.instant at_ : Int))
      ∧ t.now = s.instant at_ ∧ Frame [.eop, .net, .j16, .free] [] portRings s t) := by
  have hr := s.received_received at_ o d
  have heop : (s.received at_ o d).eop = s.eop := hr.eop
  have hnow : (s.received at_ o d).now = s.instant at_ := hr.now
  have hblocked : (s.received at_ o d).blocked o.ip.toNat = false := (hr.blocked _).trans hfree
  obtain ⟨a, hserve⟩ := loginChallenge_of_free hlen hlevel hzero hblocked
  have hother : (s.received at_ o d).otherService o q = ((s.received at_ o d).challenged q.payload, a) := by
    simp only [State.otherService, h.1, hserve]
  have hrow := State.otherServed_of_plain hq h (by decide) (by decide) (.inr (by decide)) hother
    ((congrArg PowerSt.boot hr.power).trans h.2.1.1)
  refine ⟨_, congrArg Host.Outcome.next hrow, ?_, ?_, ?_, ?_, ?_, ?_⟩
  · simp [State.challenged, heop]
  · simp [State.challenged, heop]
  · simp [State.challenged, heop]
  · simp [State.challenged, heop, hnow]
  · exact State.answerPlain_now.trans hnow
  · refine Frame.trans (x := (s.received at_ o d).challenged q.payload) ?_ (State.answerPlain_frame.mono (by simp) (by simp) (by simp))
    exact ((s.received_frame.mono (by simp) (by simp) (fun _ h => h)).drawn (by simp)).with_eop (by simp)

end

end Sys2Proof.Machine
end

section
/-!
O10. LOGIN_RESPONSE (R77, R78).
-/
namespace Sys2Proof.Machine

section
variable {s u : State} {at_ src : Nat} {o : Origin} {d p : List Byte} {q : EopReq} {c : Challenge} {lev : Level}

/-- Challenge `n` is open no more. -/
def State.spent (u : State) (n : Nat) : State := { u with eop := { u.eop with challenges := u.eop.challenges.filter (fun c => c.id != n) } }

/-- The session that a login with `key` on challenge `c` opens (R77). -/
def State.loggedIn (u : State) (o : Origin) (src : Nat) (lev : Level) (key : List Byte) (c : Challenge) : Session :=
  { id := u.newSession, level := lev, key := hmac key (ascii "EOP-SK" ++ c.nonce ++ c.client ++ beBytes 4 u.newSession)
    port := o.port.val, ip := o.ip.toNat, udp := o.udp.toNat, mac := o.mac.toNat, node := src
    idleMs := u.rd E.Auth.SESSION_IDLE_TIMEOUT, lastReq := u.now }

/-- Session `x` is open beside the others. -/
def State.withSession (u : State) (x : Session) : State :=
  ({ u.drawn with eop := { u.eop with sessions := u.eop.sessions ++ [x] } } : State).countSessions

/-- The proof that challenge `c` asks for at a level (R77). -/
def State.proofOf (u : State) (level : Nat) (c : Challenge) : List Byte :=
  hmac (u.levelKey level) (c.nonce ++ c.client ++ u.nodeBe ++ beBytes 1 level)

theorem Received.levelKey {v : State} (h : Received s v) (n : Nat) : v.levelKey n = s.levelKey n := by rw [h.eq]; rfl
theorem Received.levelOpen {v : State} (h : Received s v) (n : Nat) : v.levelOpen n = s.levelOpen n := by rw [h.eq]; rfl
theorem Received.proofOf {v : State} (h : Received s v) (n : Nat) (c : Challenge) : v.proofOf n c = s.proofOf n c := by rw [h.eq]; rfl

theorem loginResponse_of_proof (hlen : p.length = 40) (hzero : beAt p 5 3 = 0) (hfree : u.blocked o.ip.toNat = false)
    (hc : u.eop.challenges.find? (fun c => c.id == beAt p 0 4) = some c) (htime : (u.now : Int) < c.issued + 10000000000)
    (hlevel : c.level = beAt p 4 1) (hlev : levelOf (beAt p 4 1) = some lev) (hkey : u.levelKey (beAt p 4 1) ≠ [])
    (hopen : u.levelOpen (beAt p 4 1) = true) (hroom : u.eop.sessions.length < 16) (hproof : slice p 8 32 = u.proofOf (beAt p 4 1) c) :
    ∃ a : Ans, u.loginResponse o src p
      = ((u.spent (beAt p 0 4)).withSession ((u.spent (beAt p 0 4)).loggedIn o src lev (u.levelKey (beAt p 4 1)) c), a) := by
  have htaken : ((decide ((u.now : Int) < c.issued + 10000000000) && c.level == beAt p 4 1 && !(u.levelKey (beAt p 4 1)).isEmpty
      && u.levelOpen (beAt p 4 1) && slice p 8 32 == u.proofOf (beAt p 4 1) c) = true) := by
    simp [htime, hlevel, hkey, hopen, hproof]
  simp only [State.loginResponse, hfree, hlen, zeros_of_beAt hzero, hc, hlev, bne_self_eq_false, Bool.not_true, Bool.or_self, Bool.false_eq_true,
    if_false]
  exact ⟨_, (if_pos htaken).trans (if_neg (Nat.not_le.2 hroom))⟩

theorem loginResponse_of_badProof (hlen : p.length = 40) (hmax : beAt p 4 1 ≤ 3) (hzero : beAt p 5 3 = 0) (hfree : u.blocked o.ip.toNat = false)
    (hc : u.eop.challenges.find? (fun c => c.id == beAt p 0 4) = some c) (hproof : slice p 8 32 ≠ u.proofOf (beAt p 4 1) c) :
    u.loginResponse o src p = ((u.spent (beAt p 0 4)).failLogin o.ip.toNat, ans 0x14) := by
  obtain ⟨lev, hlev⟩ : ∃ lev, levelOf (beAt p 4 1) = some lev := by
    refine Option.isSome_iff_exists.1 ?_
    simpa [levelOf] using Nat.lt_succ_of_le hmax
  have hrefused : ¬ (decide ((u.now : Int) < c.issued + 10000000000) && c.level == beAt p 4 1 && !(u.levelKey (beAt p 4 1)).isEmpty
      && u.levelOpen (beAt p 4 1) && slice p 8 32 == u.proofOf (beAt p 4 1) c) = true := by
    simp [hproof]
  simp only [State.loginResponse, hfree, hlen, zeros_of_beAt hzero, hc, hlev, bne_self_eq_false, Bool.not_true, Bool.or_self, Bool.false_eq_true,
    if_false]
  exact if_neg hrefused

/-! ## What each leaves -/

theorem State.failLogin_eop (u : State) (ip : Nat) : (u.failLogin ip).eop.sessions = u.eop.sessions ∧ (u.failLogin ip).eop.challenges = u.eop.challenges := by
  simp only [State.failLogin]
  split <;> simp

theorem State.failLogin_now (u : State) (ip : Nat) : (u.failLogin ip).now = u.now := by
  simp only [State.failLogin]
  split <;> simp

theorem State.rd_failLogin (u : State) (ip : Nat) :
    (u.failLogin ip).rd E.Auth.LOGIN_FAILURES = min (2 ^ 32 - 1) (u.rd E.Auth.LOGIN_FAILURES + 1) := by
  have hinc := u.rd_inc_self E.Auth.LOGIN_FAILURES
  simp only [State.failLogin]
  split
  · exact hinc
  · rw [State.rd, State.get_log _ _ _ (by decide)]
    exact hinc

theorem State.failLogin_frame (u : State) (ip : Nat) : Frame [.eop, .ledger] [E.Auth.LOGIN_FAILURES] [28] u (u.failLogin ip) :=
  .ite (fun _ => ((Frame.refl ..).inc (by simp)).with_eop (by simp)) fun _ =>
    (((Frame.refl ..).inc (by simp)).with_eop (by simp)).log (by simp) (by simp)

theorem State.withSession_sessions (u : State) (x : Session) : (u.withSession x).eop.sessions = u.eop.sessions ++ [x] := rfl

theorem State.rd_withSession (u : State) (x : Session) : (u.withSession x).rd E.Auth.SESSIONS_OPEN = (u.eop.sessions.length + 1) % 256 := by
  rw [State.withSession, State.countSessions, State.rd_wr_self, List.length_append, List.length_singleton]
  rfl

theorem State.otherService_loginResponse {v : State} {a : Ans} (hs : q.service = 0x41) (h : u.loginResponse o q.source q.payload = (v, a)) :
    u.otherService o q = (v, a) := by
  simp only [State.otherService, hs, h]

theorem loginFailure_completes (hq : eopParse d = some q) (h : s.admitsPlain o 0x41 q) (hlen : q.payload.length = 40) (hmax : beAt q.payload 4 1 ≤ 3)
    (hzero : beAt q.payload 5 3 = 0) (hfree : (s.advance at_).blocked o.ip.toNat = false)
    (hc : s.eop.challenges.find? (fun c => c.id == beAt q.payload 0 4) = some c) (hproof : slice q.payload 8 32 ≠ s.proofOf (beAt q.payload 4 1) c) :
    Completes (.loginResponse at_ o d) s (fun t => t.eop.challenges = s.eop.challenges.filter (fun c => c.id != beAt q.payload 0 4)
      ∧ t.eop.sessions = s.eop.sessions ∧ t.rd E.Auth.LOGIN_FAILURES = min (2 ^ 32 - 1) (s.rd E.Auth.LOGIN_FAILURES + 1)
      ∧ t.now = s.instant at_ ∧ Frame [.eop, .net, .j16, .ledger] [E.Auth.LOGIN_FAILURES] (28 :: portRings) s t) := by
  have hr := s.received_received at_ o d
  have heop : (s.received at_ o d).eop = s.eop := hr.eop
  have hserve := loginResponse_of_badProof (u := s.received at_ o d) (src := q.source) hlen hmax hzero ((hr.blocked _).trans hfree)
    (by rw [heop]; exact hc) (by rw [hr.proofOf]; exact hproof)
  have hother : (s.received at_ o d).otherService o q
      = (((s.received at_ o d).spent (beAt q.payload 0 4)).failLogin o.ip.toNat, ans 0x14) := State.otherService_loginResponse h.1 hserve
  have hfail := ((s.received at_ o d).spent (beAt q.payload 0 4)).failLogin_frame o.ip.toNat
  have hframe := s.received_frame (at_ := at_) (o := o) (d := d)
  have hboot : (((s.received at_ o d).spent (beAt q.payload 0 4)).failLogin o.ip.toNat).power.boot = none := by
    rw [hfail.2.1 .power (by simp)]
    exact (congrArg PowerSt.boot hr.power).trans h.2.1.1
  have hrow := State.otherServed_of_plain hq h (by decide) (by decide) (.inr (by decide)) hother hboot
  obtain ⟨hsessions, hchallenges⟩ := ((s.received at_ o d).spent (beAt q.payload 0 4)).failLogin_eop o.ip.toNat
  refine ⟨_, congrArg Host.Outcome.next hrow, ?_, ?_, ?_, ?_, ?_⟩
  · rw [State.answerPlain_eop, hchallenges, ← heop]
    rfl
  · rw [State.answerPlain_eop, hsessions, ← heop]
    rfl
  · rw [State.answerPlain_frame.rd (by simp) (by simp) (by decide), State.rd_failLogin]
    exact congrArg (fun n => min _ (n + 1)) (hr.rd _)
  · rw [State.answerPlain_now, State.failLogin_now]
    exact hr.now
  · refine Frame.trans ?_ (State.answerPlain_frame.mono (by simp) (by simp) (fun _ h => .tail _ h))
    refine Frame.trans ?_ (hfail.mono (by simp) (by simp) (by simp))
    exact (hframe.mono (by simp) (by simp) (fun _ h => .tail _ h)).with_eop (by simp)

theorem login_completes (hq : eopParse d = some q) (h : s.admitsPlain o 0x41 q) (hlen : q.payload.length = 40)
    (hzero : beAt q.payload 5 3 = 0) (hfree : (s.advance at_).blocked o.ip.toNat = false)
    (hc : s.eop.challenges.find? (fun c => c.id == beAt q.payload 0 4) = some c) (htime : (s.instant at_ : Int) < c.issued + 10000000000)
    (hlevel : c.level = beAt q.payload 4 1) (hlev : levelOf (beAt q.payload 4 1) = some lev) (hkey : s.levelKey (beAt q.payload 4 1) ≠ [])
    (hopen : s.levelOpen (beAt q.payload 4 1) = true) (hroom : s.eop.sessions.length < 16)
    (hproof : slice q.payload 8 32 = s.proofOf (beAt q.payload 4 1) c) :
    Completes (.loginResponse at_ o d) s (fun t => t.eop.challenges = s.eop.challenges.filter (fun c => c.id != beAt q.payload 0 4)
      ∧ t.eop.sessions.length = s.eop.sessions.length + 1 ∧ t.rd E.Auth.SESSIONS_OPEN = s.eop.sessions.length + 1
      ∧ (∀ x ∈ s.eop.sessions, x ∈ t.eop.sessions)
      ∧ (∀ x, t.eop.sessions.getLast? = some x → x.level = lev ∧ x.port = o.port.val ∧ x.node = q.source ∧ x.lastReq = (s.instant at_ : Int)
          ∧ x.idleMs = s.rd E.Auth.SESSION_IDLE_TIMEOUT ∧ x.key = hmac (s.levelKey (beAt q.payload 4 1)) (ascii "EOP-SK" ++ c.nonce ++ c.client ++ beBytes 4 x.id))
      ∧ t.now = s.instant at_ ∧ Frame [.eop, .net, .j16, .free] [E.Auth.SESSIONS_OPEN] portRings s t) := by
  have hr := s.received_received at_ o d
  have heop : (s.received at_ o d).eop = s.eop := hr.eop
  have hnow : (s.received at_ o d).now = s.instant at_ := hr.now
  have hkeys : (s.received at_ o d).levelKey (beAt q.payload 4 1) = s.levelKey (beAt q.payload 4 1) := hr.levelKey _
  obtain ⟨a, hserve⟩ := loginResponse_of_proof (u := s.received at_ o d) (src := q.source) (c := c) hlen hzero ((hr.blocked _).trans hfree)
    (by rw [heop]; exact hc) (by rw [hnow]; exact htime) hlevel hlev (by rw [hkeys]; exact hkey) ((hr.levelOpen _).trans hopen) (by rw [heop]; exact hroom)
    (by rw [hr.proofOf]; exact hproof)
  rw [hkeys] at hserve
  have hother := State.otherService_loginResponse h.1 hserve
  have hrow := State.otherServed_of_plain hq h (by decide) (by decide) (.inr (by decide)) hother ((congrArg PowerSt.boot hr.power).trans h.2.1.1)
  have hsessions := State.withSession_sessions ((s.received at_ o d).spent (beAt q.payload 0 4))
    (((s.received at_ o d).spent (beAt q.payload 0 4)).loggedIn o q.source lev (s.levelKey (beAt q.payload 4 1)) c)
  have hopenBefore : ((s.received at_ o d).spent (beAt q.payload 0 4)).eop.sessions = s.eop.sessions := by
    rw [← heop]
    rfl
  rw [hopenBefore] at hsessions
  refine ⟨_, congrArg Host.Outcome.next hrow, ?_, ?_, ?_, ?_, ?_, ?_, ?_⟩
  · rw [State.answerPlain_eop, ← heop]
    rfl
  · rw [State.answerPlain_eop, hsessions, List.length_append, List.length_singleton]
  · rw [State.answerPlain_frame.rd (by simp) (by simp) (by decide), State.rd_withSession, hopenBefore]
    omega
  · intro x hx
    rw [State.answerPlain_eop, hsessions]
    exact List.mem_append_left _ hx
  · intro x hx
    rw [State.answerPlain_eop, hsessions, List.getLast?_append, List.getLast?_singleton, Option.some_or, Option.some.injEq] at hx
    subst hx
    exact ⟨rfl, rfl, rfl, congrArg Int.ofNat hnow, hr.rd _, rfl⟩
  · exact State.answerPlain_now.trans hnow
  · refine Frame.trans ?_ (State.answerPlain_frame.mono (by simp) (by simp) (fun _ h => h))
    exact ((((s.received_frame.mono (by simp) (by simp) (fun _ h => h)).with_eop (by simp)).drawn (by simp)).with_eop (by simp)).countSessions (by simp)

end

end Sys2Proof.Machine
end

section
/-!
SUPPORT. What an admitted request finds beside its session.
-/
namespace Sys2Proof.Machine

section
variable {s : State} {at_ code : Nat} {o : Origin} {d : List Byte} {q : EopReq} {x : Session}

/-- From `s` to `u` nothing but the receive rings, the sources of the ports, the instant and sessions changes: what a request finds. -/
structure Found (s u : State) : Prop where
  eq : u = { s with now := u.now, rings := u.rings, net := u.net, eop := { s.eop with sessions := u.eop.sessions } }

theorem Received.found {r : State} (h : Received (s.advance at_) r) (y : Session) : Found s (r.setSession y) :=
  ⟨by rw [h.eq]; rfl⟩

/-- An admitted request finds the module as it was, but for the ports, the instant and the session's window. -/
theorem State.admitted_found (h : s.admits at_ o code d q) (hx : s.session q.session = some x) : Found s (s.admitted at_ o d q) := by
  rw [State.admitted_eq h hx]
  exact (s.received_received at_ o d).found _

theorem State.session_of_admits (h : s.admits at_ o code d q) : ∃ x, s.session q.session = some x := by
  obtain ⟨-, -, -, -, -, -, -, -, -, -, ⟨x, hx, -⟩, -⟩ := h
  exact ⟨x, hx⟩

section
variable {u : State} (h : Found s u)
include h

theorem Found.power : u.power = s.power := by rw [h.eq]
theorem Found.twin : u.twin = s.twin := by rw [h.eq]
theorem Found.od : u.od = s.od := by rw [h.eq]
theorem Found.rt : u.rt = s.rt := by rw [h.eq]
theorem Found.rd (e : Ent) : u.rd e = s.rd e := by rw [h.eq]; rfl
theorem Found.quench : u.eop.quench = s.eop.quench := by rw [h.eq]
theorem Found.identified : u.eop.identified = s.eop.identified := by rw [h.eq]
theorem Found.isProtected (a b c e : Nat) : u.isProtected a b c e = s.isProtected a b c e := by rw [h.eq]; rfl
theorem Found.filterFor (m : List Byte) : u.filterFor m = s.filterFor m := by rw [h.eq]; rfl
theorem Found.identity : u.identity = s.identity := by rw [h.eq]; rfl

end

end

end Sys2Proof.Machine
end
section
/-!
O10. Quench filters and IDENTIFY (R73 to R76).
-/
namespace Sys2Proof.Machine

section
variable {s u : State} {at_ k : Nat} {o : Origin} {d p : List Byte} {q : EopReq} {x : Session}

/-- The match of a QUENCH (Table DIC-13). -/
def quenchMatch (p : List Byte) : List Byte := slice p 1 1 ++ slice p 4 8

theorem quench_of_allowed (hlen : p.length = 16) (hports : beAt p 0 1 < 16) (hkind : beAt p 1 1 = 1 ∨ beAt p 1 1 = 2) (hzero : beAt p 2 2 = 0)
    (hvalue : beAt p 4 8 < 2 ^ (if beAt p 1 1 = 1 then 48 else 32)) (hms : beAt p 12 4 ≤ 3600000)
    (hfree : u.isProtected (beAt p 1 1) (beAt p 4 8) o.ip.toNat o.mac.toNat = false) (hk : u.filterFor (quenchMatch p) = some k) :
    ∃ lat, u.quench o x p = (u.installFilter k (quenchMatch p) (beAt p 0 1) (beAt p 12 4) x.id x.node lat, { st := 0, pay := beBytes 1 k ++ beBytes 3 0 }) := by
  have hform : (p.length != 16 || decide (16 ≤ beAt p 0 1) || beAt p 2 2 != 0) = false := by simp [hlen, hports, hzero]
  have hrange : (beAt p 1 1 != 1 && beAt p 1 1 != 2 || decide (3600000 < beAt p 12 4)) = false := by
    rcases hkind with h | h <;> simp [h, hms]
  unfold quenchMatch at hk
  refine ⟨Config.measured (0x195000 + k) u.now % 20001, ?_⟩
  simp only [State.quench, hform, hrange, hfree, hk, if_neg (Nat.not_le.2 hvalue), Bool.false_eq_true, if_false]
  rfl

/-- The entries of a filter are apart (Table NET-14). -/
theorem filterKeys_apart : (E.Quench.FILTER_STATE k).key ≠ (E.Quench.FILTER_MATCH k).key ∧ (E.Quench.FILTER_STATE k).key ≠ (E.Quench.FILTER_PORTS k).key
    ∧ (E.Quench.FILTER_STATE k).key ≠ (E.Quench.FILTER_NODE k).key ∧ (E.Quench.FILTER_STATE k).key ≠ (E.Quench.FILTER_INSTALLED k).key
    ∧ (E.Quench.FILTER_STATE k).key ≠ (E.Quench.INSTALL_LATENCY k).key ∧ (E.Quench.FILTER_MATCH k).key ≠ (E.Quench.FILTER_PORTS k).key
    ∧ (E.Quench.FILTER_MATCH k).key ≠ (E.Quench.FILTER_NODE k).key ∧ (E.Quench.FILTER_MATCH k).key ≠ (E.Quench.FILTER_INSTALLED k).key
    ∧ (E.Quench.FILTER_MATCH k).key ≠ (E.Quench.INSTALL_LATENCY k).key ∧ (E.Quench.FILTER_PORTS k).key ≠ (E.Quench.FILTER_NODE k).key
    ∧ (E.Quench.FILTER_PORTS k).key ≠ (E.Quench.FILTER_INSTALLED k).key ∧ (E.Quench.FILTER_PORTS k).key ≠ (E.Quench.INSTALL_LATENCY k).key
    ∧ (E.Quench.FILTER_INSTALLED k).key ≠ (E.Quench.INSTALL_LATENCY k).key := by
  simp [E.Quench.FILTER_STATE, E.Quench.FILTER_MATCH, E.Quench.FILTER_PORTS, E.Quench.FILTER_NODE, E.Quench.FILTER_INSTALLED,
    E.Quench.INSTALL_LATENCY, entN, entB]

theorem State.filterFor_lt {m : List Byte} (h : u.filterFor m = some k) : k < 16 := by
  unfold State.filterFor at h
  split at h
  next j hj =>
    obtain rfl : j = k := Option.some.inj h
    exact List.mem_range.1 (List.mem_of_find?_eq_some hj)
  next => exact List.mem_range.1 (List.mem_of_find?_eq_some h)

theorem filterEnts_index (hk : k < 16) : ∀ e ∈ filterEnts k, e.key / 256 < 0x1B00 := by
  simp only [filterEnts, List.mem_cons, List.not_mem_nil, or_false, forall_eq_or_imp, forall_eq, E.Quench.FILTER_STATE, E.Quench.FILTER_MATCH,
    E.Quench.FILTER_PORTS, E.Quench.FILTER_NODE, E.Quench.FILTER_HITS, E.Quench.FILTER_INSTALLED, E.Quench.INSTALL_LATENCY, entN, entB]
  omega

theorem time96ns_lt (t : Int) : time96ns t < 2 ^ 96 := by
  simp only [time96ns, time96, natOf]
  omega

/-- What the install of filter `k` leaves in its entries (Table NET-14). -/
theorem State.installFilter_entries (hk : k < 16) (m : List Byte) {ports : Nat} (hp : ports < 256) (ms n node lat : Nat) :
    (u.installFilter k m ports ms n node lat).rd (E.Quench.FILTER_STATE k) = 1
      ∧ (u.installFilter k m ports ms n node lat).rdB (E.Quench.FILTER_MATCH k) = m
      ∧ (u.installFilter k m ports ms n node lat).rd (E.Quench.FILTER_PORTS k) = ports
      ∧ (u.installFilter k m ports ms n node lat).rd (E.Quench.FILTER_INSTALLED k) = time96ns u.now := by
  have hlog (e : Ent) (he : e ∈ filterEnts k) : e.key / 256 ≠ 0x1B1C := by
    have := filterEnts_index hk e he
    omega
  obtain ⟨h1, h2, h3, h4, h5, h6, h7, h8, h9, h10, h11, h12, h13⟩ := filterKeys_apart (k := k)
  have hget (e : Ent) (he : e ∈ filterEnts k) (x : State) (v : EopSt) (p : List Byte) :
      (({ x with eop := v } : State).log 0x02 0x02 p).get e = x.get e := (State.get_log _ _ _ (hlog e he)).trans rfl
  have hrd (e : Ent) (he : e ∈ filterEnts k) (x : State) (v : EopSt) (p : List Byte) :
      (({ x with eop := v } : State).log 0x02 0x02 p).rd e = x.rd e := congrArg valNat (hget e he x v p)
  have hrdB (e : Ent) (he : e ∈ filterEnts k) (x : State) (v : EopSt) (p : List Byte) :
      (({ x with eop := v } : State).log 0x02 0x02 p).rdB e = x.rdB e := congrArg valBytes (hget e he x v p)
  unfold State.installFilter
  extract_lets +onlyGivenNames x1 x2 x3 w x4
  rw [hrd _ (by simp [filterEnts]), hrdB _ (by simp [filterEnts]), hrd _ (by simp [filterEnts]), hrd _ (by simp [filterEnts])]
  refine ⟨?_, ?_, ?_, ?_⟩
  · rw [State.rd_wr_ne _ _ _ _ h5, State.rd_wrT_ne _ _ _ _ h4, State.rd_wr_ne _ _ _ _ h3, State.rd_wr_ne _ _ _ _ h2, State.rd_wrB_ne _ _ _ _ h1,
      State.rd_wr_self]
    rfl
  · rw [State.rdB_wr_ne _ _ _ _ h9, State.wrT, State.rdB_wr_ne _ _ _ _ h8, State.rdB_wr_ne _ _ _ _ h7, State.rdB_wr_ne _ _ _ _ h6,
      State.rdB_wrB_self]
  · rw [State.rd_wr_ne _ _ _ _ h12, State.rd_wrT_ne _ _ _ _ h11, State.rd_wr_ne _ _ _ _ h10, State.rd_wr_self]
    exact Nat.mod_eq_of_lt hp
  · rw [State.rd_wr_ne _ _ _ _ h13, State.wrT, State.rd_wr_self]
    exact Nat.mod_eq_of_lt (time96ns_lt _)

theorem State.installFilter_frame (m : List Byte) (ports ms n node lat : Nat) :
    Frame [.eop, .ledger] [E.Quench.FILTER_STATE k, E.Quench.FILTER_MATCH k, E.Quench.FILTER_PORTS k, E.Quench.FILTER_NODE k,
      E.Quench.FILTER_INSTALLED k, E.Quench.INSTALL_LATENCY k] [28] u (u.installFilter k m ports ms n node lat) :=
  ((((((((Frame.refl ..).wr (by simp)).wrB (by simp)).wr (by simp)).wr (by simp)).wrT (by simp)).wr (by simp)).with_eop (by simp)).log
    (by simp) (by simp)

theorem State.installFilter_now (m : List Byte) (ports ms n node lat : Nat) : (u.installFilter k m ports ms n node lat).now = u.now := by
  simp -implicitDefEqProofs [State.installFilter]

theorem State.installFilter_eop (m : List Byte) (ports ms n node lat : Nat) : (u.installFilter k m ports ms n node lat).eop
    = { u.eop with quench := u.eop.quench.put k { session := n, node := node, until_ := if ms = 0 then none else some (u.now + ms * 1000000) } } := by
  simp -implicitDefEqProofs [State.installFilter]

theorem State.otherService_quench {v : State} {a : Ans} (hs : q.service = 0x50) (hx : u.session q.session = some x) (hl : 1 ≤ levelNum x.level)
    (h : u.quench o x q.payload = (v, a)) : u.otherService o q = (v, a) := by
  simp only [State.otherService, hs, hx, if_neg (Nat.not_lt.2 hl), h]

theorem quench_completes (hq : eopParse d = some q) (h : s.admits at_ o 0x50 d q) (hlen : q.payload.length = 16)
    (hports : beAt q.payload 0 1 < 16) (hkind : beAt q.payload 1 1 = 1 ∨ beAt q.payload 1 1 = 2) (hzero : beAt q.payload 2 2 = 0)
    (hvalue : beAt q.payload 4 8 < 2 ^ (if beAt q.payload 1 1 = 1 then 48 else 32)) (hms : beAt q.payload 12 4 ≤ 3600000)
    (hfree : s.isProtected (beAt q.payload 1 1) (beAt q.payload 4 8) o.ip.toNat o.mac.toNat = false) (hx : s.session q.session = some x)
    (hlevel : 1 ≤ levelNum x.level) (hk : s.filterFor (quenchMatch q.payload) = some k) :
    Completes (.quench at_ o d) s (fun t => t.reply q = some (0, beBytes 1 k ++ beBytes 3 0) ∧ t.rd (E.Quench.FILTER_STATE k) = 1
      ∧ t.rdB (E.Quench.FILTER_MATCH k) = quenchMatch q.payload ∧ t.rd (E.Quench.FILTER_PORTS k) = beAt q.payload 0 1
      ∧ t.rd (E.Quench.FILTER_INSTALLED k) = time96ns (s.instant at_)
      ∧ t.eop.quench.find k = some { session := x.id, node := x.node,
                                     until_ := if beAt q.payload 12 4 = 0 then none else some (s.instant at_ + beAt q.payload 12 4 * 1000000) }
      ∧ t.now = s.instant at_
      ∧ Frame [.eop, .net, .j16, .ledger] [E.Quench.FILTER_STATE k, E.Quench.FILTER_MATCH k, E.Quench.FILTER_PORTS k, E.Quench.FILTER_NODE k,
          E.Quench.FILTER_INSTALLED k, E.Quench.INSTALL_LATENCY k] (28 :: portRings) s t) := by
  have hfound := State.admitted_found h hx
  have hses := State.session_admitted h hx
  have hnow := State.admitted_now h hx
  have hbefore := State.admitted_frame h hx
  obtain ⟨lat, hserve⟩ := quench_of_allowed (u := s.admitted at_ o d q) (x := x.admittedAs q.sequence (s.instant at_)) hlen hports hkind hzero hvalue
    hms ((hfound.isProtected ..).trans hfree) ((hfound.filterFor _).trans hk)
  have hother := State.otherService_quench h.1 hses (by simpa using hlevel) hserve
  rw [Session.admittedAs_id, Session.admittedAs_node] at hother
  have hframe := State.installFilter_frame (u := s.admitted at_ o d q) (k := k) (quenchMatch q.payload) (beAt q.payload 0 1) (beAt q.payload 12 4)
    x.id x.node lat
  have heop := State.installFilter_eop (u := s.admitted at_ o d q) (k := k) (quenchMatch q.payload) (beAt q.payload 0 1) (beAt q.payload 12 4)
    x.id x.node lat
  have hinow := State.installFilter_now (u := s.admitted at_ o d q) (k := k) (quenchMatch q.payload) (beAt q.payload 0 1) (beAt q.payload 12 4)
    x.id x.node lat
  obtain ⟨hstate, hmatch, hport, hinst⟩ := State.installFilter_entries (u := s.admitted at_ o d q) (State.filterFor_lt hk) (quenchMatch q.payload)
    (ports := beAt q.payload 0 1) (by omega) (beAt q.payload 12 4) x.id x.node lat
  generalize (s.admitted at_ o d q).installFilter k (quenchMatch q.payload) (beAt q.payload 0 1) (beAt q.payload 12 4) x.id x.node lat = v
    at hother hframe heop hinow hstate hmatch hport hinst
  have hboot : v.power.boot = none := by rw [hframe.2.1 .power (by simp), hfound.power, h.2.1.1]
  have hvses : v.session q.session = some (x.admittedAs q.sequence (s.instant at_)) := by rw [State.session, heop]; exact hses
  obtain ⟨t, ht, hans⟩ := State.otherServed_of_admits hq h hx (by decide) (by decide) (.inr (by decide)) hother hboot rfl hvses
  have hkeep (e : Ent) (he : e ∈ filterEnts k) : t.get e = v.get e := by
    have hi := filterEnts_index (State.filterFor_lt hk) e he
    exact hans.frame.get (by simp) (by simp) fun r _ => by omega
  refine ⟨t, congrArg Host.Outcome.next ht, hans.reply, ?_, ?_, ?_, ?_, ?_, ?_, ?_⟩
  · exact (congrArg valNat (hkeep _ (by simp [filterEnts]))).trans hstate
  · exact (congrArg valBytes (hkeep _ (by simp [filterEnts]))).trans hmatch
  · exact (congrArg valNat (hkeep _ (by simp [filterEnts]))).trans hport
  · rw [← hnow, ← hinst]
    exact congrArg valNat (hkeep _ (by simp [filterEnts]))
  · rw [hans.eop, heop, hnow]
    exact SMap.find_put_self ..
  · rw [hans.now, hinow, hnow]
  · exact ((hbefore.mono (by simp) (by simp) (fun _ h => .tail _ h)).trans (hframe.mono (by simp) (by simp) (by simp))).trans
      (hans.frame.mono (by simp) (by simp) (fun _ h => .tail _ h))

theorem unquench_of_used (hlen : p.length = 1) (hk : beAt p 0 1 < 16) (hused : (u.eop.quench.find (beAt p 0 1)).isSome = true) :
    u.unquench x p = (u.endFilter (beAt p 0 1), ans 0) := by
  have hone : beAt p 0 1 ≠ 0xFF := by omega
  simp [State.unquench, hlen, hone, hused]

theorem State.otherService_unquench {v : State} {a : Ans} (hs : q.service = 0x51) (hx : u.session q.session = some x) (hl : 1 ≤ levelNum x.level)
    (h : u.unquench x q.payload = (v, a)) : u.otherService o q = (v, a) := by
  simp only [State.otherService, hs, hx, if_neg (Nat.not_lt.2 hl), h]

theorem unquench_completes (hq : eopParse d = some q) (h : s.admits at_ o 0x51 d q) (hlen : q.payload.length = 1) (hk : beAt q.payload 0 1 < 16)
    (hused : (s.eop.quench.find (beAt q.payload 0 1)).isSome = true) (hx : s.session q.session = some x) (hlevel : 1 ≤ levelNum x.level) :
    Completes (.unquench at_ o d) s (fun t => t.reply q = some (0, []) ∧ t.rd (E.Quench.FILTER_STATE (beAt q.payload 0 1)) = 0
      ∧ t.rdB (E.Quench.FILTER_MATCH (beAt q.payload 0 1)) = [] ∧ t.eop.quench.find (beAt q.payload 0 1) = none
      ∧ (∀ j < 16, j ≠ beAt q.payload 0 1 → t.eop.quench.find j = s.eop.quench.find j) ∧ t.now = s.instant at_
      ∧ Frame [.eop, .net, .j16, .ledger] (filterEnts (beAt q.payload 0 1)) (28 :: portRings) s t) := by
  have hfound := State.admitted_found h hx
  have hses := State.session_admitted h hx
  have hnow := State.admitted_now h hx
  have hbefore := State.admitted_frame h hx
  have hserve := unquench_of_used (u := s.admitted at_ o d q) (x := x.admittedAs q.sequence (s.instant at_)) hlen hk (by rw [hfound.quench]; exact hused)
  have hother := State.otherService_unquench (o := o) h.1 hses (by simpa using hlevel) hserve
  have hframe : Frame [.eop, .ledger] (filterEnts (beAt q.payload 0 1)) [28] (s.admitted at_ o d q) ((s.admitted at_ o d q).endFilter (beAt q.payload 0 1)) :=
    (Frame.refl ..).endFilter (by simp) (by simp) (by simp) fun _ h => h
  have hboot : ((s.admitted at_ o d q).endFilter (beAt q.payload 0 1)).power.boot = none := by
    rw [hframe.2.1 .power (by simp), hfound.power, h.2.1.1]
  have hvses : ((s.admitted at_ o d q).endFilter (beAt q.payload 0 1)).session q.session = some (x.admittedAs q.sequence (s.instant at_)) := by
    rw [State.session, State.endFilter_eop]
    exact hses
  obtain ⟨t, ht, hans⟩ := State.otherServed_of_admits hq h hx (by decide) (by decide) (.inr (by decide)) hother hboot rfl hvses
  have hkeep (e : Ent) (he : e ∈ filterEnts (beAt q.payload 0 1)) : t.get e = ((s.admitted at_ o d q).endFilter (beAt q.payload 0 1)).get e := by
    have hi := filterEnts_index hk e he
    exact hans.frame.get (by simp) (by simp) fun r _ => by omega
  have hquench : t.eop.quench = s.eop.quench.drop (beAt q.payload 0 1) := by
    rw [hans.eop, State.endFilter_eop, ← hfound.quench]
  refine ⟨t, congrArg Host.Outcome.next ht, hans.reply, ?_, ?_, ?_, ?_, ?_, ?_⟩
  · exact (congrArg valNat (hkeep _ (by simp [filterEnts]))).trans State.rd_endFilter_state
  · exact (congrArg valBytes (hkeep _ (by simp [filterEnts]))).trans State.rdB_endFilter_match
  · rw [hquench, SMap.find_drop_self]
  · intro j _ hj
    rw [hquench, SMap.find_drop_ne _ hj]
  · rw [hans.now, State.endFilter_now, hnow]
  · exact ((hbefore.mono (by simp) (by simp) (fun _ h => .tail _ h)).trans (hframe.mono (by simp) (by simp) (by simp))).trans
      (hans.frame.mono (by simp) (by simp) (fun _ h => .tail _ h))

/-- The first IDENTIFY of a port within a second is noted and answered (R76). -/
def State.identified (u : State) (o : Origin) : State :=
  { u with eop := { u.eop with identified := lastSecond u.now u.eop.identified ++ [(o.port.val, (u.now : Int))] } }

theorem State.perform_identify (hs : q.service = 0x60) (hp : q.payload = []) (hnone : u.eop.identified = []) :
    u.perform o q = (u.identified o).answer (q.back o) q.service none { st := 0, pay := u.identity } := by
  have hmay : u.mayIdentify o = (u.identified o, true) := by
    simp [State.mayIdentify, hnone, lastSecond, State.identified]
  have hserve : (u.identified o).otherService o q = (u.identified o, { st := 0, pay := u.identity }) := by
    simp only [State.otherService, hs, hp]
    rfl
  simp [State.perform, hs, hmay, State.execute, dictService, hserve]

theorem identify_completes (hq : eopParse d = some q) (h : s.admits at_ o 0x60 d q) (hp : q.payload = []) (hnone : s.eop.identified = []) :
    Completes (.identify at_ o d) s (fun t => t.reply q = some (0, s.identity) ∧ t.now = s.instant at_ ∧ AnswersOnly s t) := by
  obtain ⟨x, hx⟩ := State.session_of_admits h
  have hfound := State.admitted_found h hx
  have hses : ((s.admitted at_ o d q).identified o).session q.session = _ := State.session_admitted h hx
  have hbefore : Frame [.eop, .net, .j16] [] portRings s ((s.admitted at_ o d q).identified o) := (State.admitted_frame h hx).with_eop (by simp)
  have hrow := State.eopRow_of_admits hq h hx (.inl (by decide))
  rw [State.perform_identify h.1 hp (hfound.identified.trans hnone)] at hrow
  have hboot : ((s.admitted at_ o d q).identified o).power.boot = none := (congrArg PowerSt.boot hfound.power).trans h.2.1.1
  have hne : q.session ≠ 0 := h.2.2.2.2.2.2.2.2.2.1
  have hans := State.answer_answered (o := o) (a := { st := 0, pay := (s.admitted at_ o d q).identity }) hboot hne (by rw [h.1]; decide) rfl hses
  refine ⟨_, congrArg Host.Outcome.next hrow, ?_, hans.now.trans (State.admitted_now h hx), hbefore.trans hans.frame⟩
  rw [hans.reply, hfound.identity]

end

/-- Settles O10: each request is followed from its datagram to what it leaves. -/
theorem loginsQuenchAndIdentify : Obligations.LoginsQuenchAndIdentify := by
  unfold Obligations.LoginsQuenchAndIdentify
  refine ⟨fun s at_ o d q hq h hlen hlevel hzero hfree => loginChallenge_completes hq h hlen hlevel hzero hfree, ?_, ?_, ?_, ?_,
    fun s at_ o d q hq h hp hnone => identify_completes hq h hp hnone⟩
  case _ =>
    intro s at_ o d q hq h hlen hzero hfree c hc htime hlevel lev hlev hkey hopen hroom hproof
    exact login_completes hq h hlen hzero hfree hc htime hlevel hlev hkey hopen hroom hproof
  case _ =>
    intro s at_ o d q hq h hlen hmax hzero hfree c hc hproof
    exact loginFailure_completes hq h hlen hmax hzero hfree hc hproof
  case _ =>
    intro s at_ o d q hq h hlen hports hkind hzero hvalue hms hfree x hx hlevel k hk
    exact quench_completes hq h hlen hports hkind hzero hvalue hms hfree hx hlevel hk
  case _ =>
    rintro s at_ o d q hq h hlen k rfl hk hused x hx hlevel
    exact unquench_completes hq h hlen hk hused hx hlevel

end Sys2Proof.Machine
end

section
/-!
SUPPORT. Reads of the dictionary within a session (R44, R63, R64): they leave everything but the cursor of READ_BLOCK.
-/
namespace Sys2Proof.Machine

section
variable {s u : State} {at_ code key : Nat} {o : Origin} {d p b : List Byte} {q : EopReq} {x y : Session} {c : Client} {r : Row × Ent}

theorem Found.entryAt (h : Found s u) (key : Nat) : u.entryAt key = s.entryAt key := by rw [h.eq]; rfl
theorem Found.invalidEntry (h : Found s u) (key : Nat) : u.invalidEntry key = s.invalidEntry key := by rw [h.eq]; rfl
theorem Found.describe (h : Found s u) (row : Row) (e : Ent) : u.describe row e = s.describe row e := by rw [h.eq]; rfl

theorem ok_of_toOption {e : Except Nat (Row × Ent)} (h : e.toOption = some r) : e = .ok r := by
  cases e with
  | error n => cases h
  | ok a => rw [Option.some.inj h]

/-- An entry that can be read reads its value (R44, R45). -/
theorem State.readEntry_of_readable {rd : Reader} (he : (u.entryAt key).toOption = some r) (hacc : r.1.acc ≠ .wo) (hv : u.invalidEntry key = false)
    (hown : key / 256 = 0x7001 → key % 256 ≠ 0 → (u.ledgerReader rd).isSome = true) :
    u.readEntry rd key = (0, r.1.ty, u.valueOf rd key r.2) := by
  have hreader : ¬ (key / 256 = 0x7001 ∧ key % 256 ≠ 0 ∧ u.ledgerReader rd = none) :=
    fun ⟨hi, hsub, hnone⟩ => absurd (hown hi hsub) (by simp [hnone])
  simp only [State.readEntry, ok_of_toOption he, hacc, if_false, hv, Bool.false_eq_true]
  rw [if_neg]
  simpa [and_assoc] using hreader

theorem State.delivered_of_ne {rd : Reader} (h : key ≠ 0x700102) : u.delivered rd key = u := by
  simp [State.delivered, h]

/-- READ of a value of at most 1,024 bytes (R64). -/
theorem State.svcRead_of_value (hlen : p.length = 4) (hzero : beAt p 3 1 = 0) {ty : Ty} {v : Value}
    (hread : u.readEntry c.r (keyAt p 0) = (0, ty, v)) (hb : (valueBe ty v).length ≤ 1024) :
    u.svcRead c p = (u.delivered c.r (keyAt p 0),
      { st := 0, pay := beBytes 1 (tyCode ty) ++ beBytes 1 0 ++ beBytes 2 (valueBe ty v).length ++ valueBe ty v }) := by
  simp [State.svcRead, hlen, hzero, hread, Nat.not_lt.2 hb]

theorem State.svcRead_of_refused (hlen : p.length = 4) (hzero : beAt p 3 1 = 0) (hread : (u.readEntry c.r (keyAt p 0)).1 ≠ 0) :
    u.svcRead c p = (u, ans (u.readEntry c.r (keyAt p 0)).1) := by
  simp [State.svcRead, hlen, hzero, hread]

theorem State.svcDescribe_of_entry (hlen : p.length = 4) (hzero : beAt p 3 1 = 0) (he : (u.entryAt (keyAt p 0)).toOption = some r) :
    u.svcDescribe p = (u, { st := 0, pay := u.describe r.1 r.2 }) := by
  simp [State.svcDescribe, hlen, hzero, ok_of_toOption he]

end

/-! ## A service that changes its session alone -/

section
variable {s u : State} {at_ code key : Nat} {o : Origin} {d p b : List Byte} {q : EopReq} {x y : Session} {a : Ans} {f : Session → Session}

/-- The client of an admitted request. -/
theorem Session.client_admittedAs (hx : s.session q.session = some x) (n now : Nat) :
    (x.admittedAs n now).client = { r := .session q.session, w := x.writer } := by
  rw [Session.client, Session.admittedAs_writer, Session.admittedAs_id, State.session_id hx]

theorem State.mapSession_id (u : State) (n : Nat) : u.mapSession n (fun y => y) = u := by
  simp [State.mapSession]

/-- A dictionary service of an admitted request that changes nothing but its session `x`, by `f`. -/
theorem State.answered_of_map (hq : eopParse d = some q) (h : s.admits at_ o code d q) (hx : s.session q.session = some x)
    (hcode : dictService code = true) (hneed : sessionNeed code = some 0 ∨ sessionNeed code = some 1)
    (hserve : (s.admitted at_ o d q).serve { r := .session q.session, w := x.writer } code q.payload
      = ((s.admitted at_ o d q).mapSession q.session f, a)) (hf : KeepsId q.session f) (ha : a.abort = none) :
    ∃ t, (s.advance at_).eopRow o code d = t ∧ t.reply q = some (a.st, a.pay)
      ∧ (∃ c n, t.session q.session = some { f (x.admittedAs q.sequence (s.instant at_)) with cache := c, txSeq := n })
      ∧ t.now = s.instant at_ ∧ AnswersOnly s t := by
  have hfound := State.admitted_found h hx
  have hses := State.session_mapSession_self hf (State.session_admitted h hx)
  have hnow := State.admitted_now h hx
  have hbefore := (State.admitted_frame h hx).mapSession (n := q.session) (f := f) (by simp)
  rw [← Session.client_admittedAs hx q.sequence (s.instant at_)] at hserve
  obtain ⟨t, ht, hans⟩ := State.served_of_admits hq h hx hcode hneed hserve ((congrArg PowerSt.boot hfound.power).trans h.2.1.1) ha
    (State.mirrorWait_eq_none rfl rfl) hses
  obtain ⟨c, n, hsession⟩ := hans.session
  exact ⟨t, ht, hans.reply, ⟨c, n, by rw [hsession, hses]; rfl⟩, hans.now.trans hnow, hbefore.trans hans.frame⟩

/-- The same of a service that leaves its session alone. -/
theorem State.answered_of_same (hq : eopParse d = some q) (h : s.admits at_ o code d q) (hx : s.session q.session = some x)
    (hcode : dictService code = true) (hneed : sessionNeed code = some 0 ∨ sessionNeed code = some 1)
    (hserve : (s.admitted at_ o d q).serve { r := .session q.session, w := x.writer } code q.payload = (s.admitted at_ o d q, a))
    (ha : a.abort = none) : ∃ t, (s.advance at_).eopRow o code d = t ∧ t.reply q = some (a.st, a.pay) ∧ t.now = s.instant at_ ∧ AnswersOnly s t := by
  obtain ⟨t, ht, hreply, -, hnow, hframe⟩ := State.answered_of_map hq h hx hcode hneed
    (hserve.trans (congrArg (·, a) (State.mapSession_id ..).symm)) (fun _ h => h) ha
  exact ⟨t, ht, hreply, hnow, hframe⟩

end

end Sys2Proof.Machine
end

section
/-!
O8. READ and DESCRIBE (R63, R64).
-/
namespace Sys2Proof.Machine

section
variable {s u : State} {at_ code key : Nat} {o : Origin} {d p b : List Byte} {q : EopReq} {x : Session} {c : Client} {r : Row × Ent}

/-- A reader of a session has a cursor in the ledger (R514). -/
theorem State.ledgerReader_session (h : u.session q.session = some x) : (u.ledgerReader (.session q.session)).isSome = true := by
  change ((u.session q.session).map _).isSome = true
  rw [h]
  rfl

/-- A readable entry reads its value to an admitted request. -/
theorem State.readEntry_admitted (h : s.admits at_ o code d q) (hx : s.session q.session = some x)
    (he : (s.entryAt key).toOption = some r) (hacc : r.1.acc ≠ .wo) (hv : s.invalidEntry key = false) :
    (s.admitted at_ o d q).readEntry (.session q.session) key
      = (0, r.1.ty, (s.admitted at_ o d q).valueOf (.session q.session) key r.2) := by
  have hfound := State.admitted_found h hx
  exact State.readEntry_of_readable (by rw [hfound.entryAt]; exact he) hacc (by rw [hfound.invalidEntry]; exact hv)
    fun _ _ => State.ledgerReader_session (State.session_admitted h hx)

theorem read_completes (hq : eopParse d = some q) (h : s.admits at_ o 0x01 d q) (hlen : q.payload.length = 4) (hzero : beAt q.payload 3 1 = 0)
    (he : (s.entryAt (keyAt q.payload 0)).toOption = some r) (hacc : r.1.acc ≠ .wo) (hv : s.invalidEntry (keyAt q.payload 0) = false)
    (hb : b = valueBe r.1.ty ((s.admitted at_ o d q).valueOf (.session q.session) (keyAt q.payload 0) r.2)) (hmax : b.length ≤ 1024)
    (hkey : keyAt q.payload 0 ≠ 0x700102) :
    Completes (.read at_ o d) s (fun t => t.reply q = some (0, beBytes 1 (tyCode r.1.ty) ++ beBytes 1 0 ++ beBytes 2 b.length ++ b)
      ∧ t.now = s.instant at_ ∧ AnswersOnly s t) := by
  obtain ⟨x, hx⟩ := State.session_of_admits h
  subst hb
  have hread := State.readEntry_admitted h hx he hacc hv
  have hserve := State.svcRead_of_value (c := { r := .session q.session, w := x.writer }) hlen hzero hread hmax
  rw [State.delivered_of_ne hkey] at hserve
  obtain ⟨t, ht, hans⟩ := State.answered_of_same hq h hx (by decide) (.inl (by decide)) hserve rfl
  exact ⟨t, congrArg Host.Outcome.next ht, hans⟩

theorem read_refused_completes (hq : eopParse d = some q) (h : s.admits at_ o 0x01 d q) (hlen : q.payload.length = 4)
    (hzero : beAt q.payload 3 1 = 0) (hbad : ((s.admitted at_ o d q).readEntry (.session q.session) (keyAt q.payload 0)).1 ≠ 0) :
    Completes (.read at_ o d) s (fun t => t.reply q = some (((s.admitted at_ o d q).readEntry (.session q.session) (keyAt q.payload 0)).1, [])
      ∧ t.now = s.instant at_ ∧ AnswersOnly s t) := by
  obtain ⟨x, hx⟩ := State.session_of_admits h
  have hserve := State.svcRead_of_refused (c := { r := .session q.session, w := x.writer }) hlen hzero hbad
  obtain ⟨t, ht, hans⟩ := State.answered_of_same hq h hx (by decide) (.inl (by decide)) hserve rfl
  exact ⟨t, congrArg Host.Outcome.next ht, hans⟩

theorem describe_completes (hq : eopParse d = some q) (h : s.admits at_ o 0x04 d q) (hlen : q.payload.length = 4)
    (hzero : beAt q.payload 3 1 = 0) (he : (s.entryAt (keyAt q.payload 0)).toOption = some r) :
    Completes (.describe at_ o d) s (fun t => t.reply q = some (0, s.describe r.1 r.2) ∧ t.now = s.instant at_ ∧ AnswersOnly s t) := by
  obtain ⟨x, hx⟩ := State.session_of_admits h
  have hfound := State.admitted_found h hx
  have hserve := State.svcDescribe_of_entry (u := s.admitted at_ o d q) hlen hzero (by rw [hfound.entryAt]; exact he)
  rw [hfound.describe] at hserve
  obtain ⟨t, ht, hans⟩ := State.answered_of_same hq h hx (by decide) (.inl (by decide)) hserve rfl
  exact ⟨t, congrArg Host.Outcome.next ht, hans⟩

/-- A reader matters to the ledger's own entries alone (R514). -/
theorem State.valueOf_reader (u : State) (a b : Reader) (e : Ent) (hkey : key / 256 ≠ 0x7001) : u.valueOf a key e = u.valueOf b key e := by
  simp only [State.valueOf, hkey, if_false]

theorem State.answerPlain_j16 {v : State} {a : Ans} {svc tr node : Nat} (hport : o.port.val = 4) : ∃ f : TxFrame, v.answerPlain o svc tr node a = { v with j16 := v.j16 ++ [f] }
    ∧ f.dst = o.mac.toNat ∧ f.body = .bytes (eopFrame 0x80 svc a.st tr 0 0 (v.rd E.Id.NODE_ID_ACTIVE) node a.pay) :=
  ⟨_, if_pos hport, rfl, rfl⟩

/-- READ over J16 outside a session (R62). -/
theorem read_plain_completes (hq : eopParse d = some q) (h : s.admitsPlain o 0x01 q) (hport : o.port.val = 4) (hlen : q.payload.length = 4)
    (hzero : beAt q.payload 3 1 = 0) (he : (s.entryAt (keyAt q.payload 0)).toOption = some r) (hacc : r.1.acc ≠ .wo)
    (hv : s.invalidEntry (keyAt q.payload 0) = false) (hkey : keyAt q.payload 0 / 256 ≠ 0x7001)
    (hb : b = valueBe r.1.ty ((s.advance at_).valueOf .anon (keyAt q.payload 0) r.2)) (hmax : b.length ≤ 1024) :
    Completes (.read at_ o d) s (fun t => t.j16.dropLast = s.j16 ∧ t.j16.getLast?.map (fun f => (f.dst, f.body))
        = some (o.mac.toNat, .bytes (eopFrame 0x80 0x01 0 q.transaction 0 0 (s.rd E.Id.NODE_ID_ACTIVE) q.source
            (beBytes 1 (tyCode r.1.ty) ++ beBytes 1 0 ++ beBytes 2 b.length ++ b)))
      ∧ t.now = s.instant at_ ∧ Frame [.j16] [] [] s t) := by
  subst hb
  have hsame : s.received at_ o d = s.advance at_ := if_pos hport
  have hrow := State.eopRow_of_plain (at_ := at_) hq h (.inl (by decide))
  rw [hsame] at hrow
  have hfree : ((s.advance at_).ring 29).q = [] := h.2.2.2.2.2.2.2.2.2.2.1
  have hopen : ((s.advance at_).ring 30).waiting = [] := h.2.2.2.2.2.2.2.2.2.2.2
  have hnone : q.session = 0 := h.2.2.2.2.2.2.2.2.1
  have hread := State.readEntry_of_readable (u := s.advance at_) (rd := ((s.advance at_).clientOf q.session q.source).r) he hacc hv
    fun hi => absurd hi hkey
  rw [State.valueOf_reader _ _ .anon _ hkey] at hread
  have hserve := State.svcRead_of_value hlen hzero hread hmax
  rw [State.delivered_of_ne fun hk => hkey (by rw [hk])] at hserve
  have hserved (a : Ans) (ha : (s.advance at_).svcRead ((s.advance at_).clientOf q.session q.source) q.payload = (s.advance at_, a)) :
      (s.advance at_).serve ((s.advance at_).clientOf q.session q.source) q.service q.payload = (s.advance at_, a) := by
    rw [h.1]
    exact ha
  rw [State.perform_dict (by rw [h.1]; decide) hfree hopen (hserved _ hserve), State.answer_plain (v := s.advance at_) h.2.1.1 hnone] at hrow
  obtain ⟨f, hf, hdst, hbody⟩ := State.answerPlain_j16 (v := s.advance at_) hport
  refine ⟨_, congrArg Host.Outcome.next (hrow.trans hf), ?_, ?_, ?_, ?_⟩
  · simp
  · rw [List.getLast?_append, List.getLast?_singleton, Option.some_or, Option.map_some, hdst, hbody, h.1]
    rfl
  · simp [State.instant]
  · exact (Frame.refl ..).advance.with_j16 (by simp)

end

end Sys2Proof.Machine
end

section
/-!
SUPPORT. Big-endian fields of a payload (R16, R61).
-/
namespace Sys2Proof.Machine

@[simp] theorem length_leBytes (w n : Nat) : (leBytes w n).length = w := by
  induction w generalizing n with
  | zero => rfl
  | succ w ih => rw [leBytes, List.length_cons, ih]

@[simp] theorem length_beBytes (w n : Nat) : (beBytes w n).length = w := by
  simp [beBytes]

theorem foldl_be (l : List Byte) (a : Nat) : l.foldl (fun a b => 256 * a + b.toNat) a = a * 256 ^ l.length + beNat l := by
  induction l generalizing a with
  | nil => simp [beNat]
  | cons b l ih =>
    rw [beNat, List.foldl_cons, List.foldl_cons, ih, ih (256 * 0 + b.toNat), List.length_cons]
    ring

theorem beNat_append (l m : List Byte) : beNat (l ++ m) = beNat l * 256 ^ m.length + beNat m := by
  rw [beNat, List.foldl_append, foldl_be]
  rfl

theorem beNat_lt (l : List Byte) : beNat l < 256 ^ l.length := by
  induction l with
  | nil => simp [beNat]
  | cons b l ih =>
    have hb := b.isLt
    have : beNat (b :: l) = b.toNat * 256 ^ l.length + beNat l := by rw [beNat, List.foldl_cons, foldl_be]; simp
    rw [this, List.length_cons, Nat.pow_succ]
    nlinarith

theorem beNat_beBytes (w n : Nat) : beNat (beBytes w n) = n % 256 ^ w := by
  induction w generalizing n with
  | zero => simp [beBytes, leBytes, beNat, Nat.mod_one]
  | succ w ih =>
    have hsplit : beBytes (w + 1) n = beBytes w (n / 256) ++ [BitVec.ofNat 8 n] := by simp [beBytes, leBytes]
    have hlast : beNat [BitVec.ofNat 8 n] = n % 256 := by simp [beNat]
    rw [hsplit, beNat_append, ih, hlast, Nat.pow_succ', Nat.mod_mul]
    simp
    ring

section
variable {p q : List Byte} {i n m : Nat}

/-- A field within the first part of a payload. -/
theorem beAt_append_left (h : i + n ≤ p.length) : beAt (p ++ q) i n = beAt p i n := by
  unfold beAt slice
  rw [List.drop_append_of_le_length (by omega), List.take_append_of_le_length (by simp; omega)]

/-- A field of two parts. -/
theorem beAt_add (h : i + n + m ≤ p.length) : beAt p i (n + m) = beAt p i n * 256 ^ m + beAt p (i + n) m := by
  have hlen : (slice p (i + n) m).length = m := by simp [slice]; omega
  have hsplit : slice p i (n + m) = slice p i n ++ slice p (i + n) m := by
    rw [slice, slice, slice, List.take_add, List.drop_drop]
  rw [beAt, hsplit, beNat_append, hlen]
  rfl

theorem beAt_lt (h : i + n ≤ p.length) : beAt p i n < 256 ^ n := by
  have hlen : (slice p i n).length = n := by simp [slice]; omega
  have := beNat_lt (slice p i n)
  rwa [hlen] at this

end

end Sys2Proof.Machine
end

section
/-!
O8. READ_MULTI (R64).
-/
namespace Sys2Proof.Machine

section
variable {s u v : State} {at_ n key room : Nat} {o : Origin} {d p b : List Byte} {q : EopReq} {x : Session} {w : Writer} {r : Row × Ent}

/-- From `u` to `v` nothing changes but sessions `n`, whose number stays. -/
def OnSession (n : Nat) (u v : State) : Prop := ∃ f, KeepsId n f ∧ v = u.mapSession n f

theorem OnSession.refl (n : Nat) (u : State) : OnSession n u u := ⟨fun y => y, fun _ h => h, (State.mapSession_id u n).symm⟩

theorem OnSession.trans {t : State} (h : OnSession n u v) (g : OnSession n v t) : OnSession n u t := by
  obtain ⟨f, hf, rfl⟩ := h
  obtain ⟨g, hg, rfl⟩ := g
  exact ⟨fun y => g (f y), fun y hy => hg _ (hf y hy), State.mapSession_mapSession hf⟩

/-- A value that was read moves the cursor of its reader at most (R514). -/
theorem State.delivered_onSession (u : State) (n key : Nat) : OnSession n u (u.delivered (.session n) key) := by
  unfold State.delivered
  split
  · exact .refl n u
  · split
    next => exact .refl n u
    next c cleared k _ =>
      exact ⟨fun y => { y with cursor := (u.readBlock c cleared).2.1, skipped := (u.readBlock c cleared).2.2 }, fun _ h => h, rfl⟩

/-- What an address of a READ_MULTI answers (R64): its value where it is read and fits, and else four bytes alone. -/
theorem State.multiOne_cases (u : State) (c : Client) (key room : Nat) :
    (∃ h : List Byte, h.length = 4 ∧ u.multiOne c key room = (u, h))
    ∨ ∃ h b : List Byte, h.length = 4 ∧ 4 + b.length ≤ room ∧ u.multiOne c key room = (u.delivered c.r key, h ++ b) := by
  unfold State.multiOne
  generalize u.readEntry c.r key = e
  obtain ⟨st, ty, v⟩ := e
  by_cases hst : st = 0
  · subst hst
    by_cases hbig : 1024 < (valueBe ty v).length
    · exact .inl ⟨beBytes 1 0x0D ++ beBytes 1 (tyCode ty) ++ beBytes 2 0, by simp, by simp [hbig]⟩
    · by_cases hfit : room < 4 + (valueBe ty v).length
      · exact .inl ⟨beBytes 1 0x0E ++ beBytes 1 (tyCode ty) ++ beBytes 2 0, by simp, by simp [hbig, hfit]⟩
      · exact .inr ⟨beBytes 1 0 ++ beBytes 1 (tyCode ty) ++ beBytes 2 (valueBe ty v).length, valueBe ty v, by simp, by omega,
          by simp [hbig, hfit]⟩
  · exact .inl ⟨beBytes 1 st ++ beBytes 1 (if st = 4 || st = 5 then 0 else tyCode ty) ++ beBytes 2 0, by simp, by simp [hst]⟩

theorem State.multiOne_onSession (u : State) (n key room : Nat) (w : Writer) :
    OnSession n u (u.multiOne { r := .session n, w := w } key room).1 := by
  obtain ⟨h, -, he⟩ | ⟨h, b, -, -, he⟩ := u.multiOne_cases { r := .session n, w := w } key room
  · rw [he]
    exact .refl n u
  · rw [he]
    exact u.delivered_onSession n key

/-- The answer for an address fits the room that is left for it. -/
theorem State.length_multiOne (u : State) (c : Client) (key : Nat) (hroom : 4 ≤ room) : (u.multiOne c key room).2.length ≤ room := by
  obtain ⟨h, hh, he⟩ | ⟨h, b, hh, hb, he⟩ := u.multiOne_cases c key room
  · rw [he, hh]
    exact hroom
  · rw [he, List.length_append, hh]
    exact hb

theorem State.multi_onSession (l : List Nat) (u : State) (n room : Nat) (w : Writer) : OnSession n u (u.multi { r := .session n, w := w } l room).1 := by
  induction l generalizing u room with
  | nil => exact .refl n u
  | cons key l ih => exact (u.multiOne_onSession n key _ w).trans (ih _ _)

theorem State.length_multi (l : List Nat) (u : State) (c : Client) (hroom : 4 * l.length ≤ room) : (u.multi c l room).2.length ≤ room := by
  induction l generalizing u room with
  | nil => simp [State.multi]
  | cons key l ih =>
    rw [List.length_cons] at hroom
    have hone := u.length_multiOne c key (room := room - 4 * l.length) (by omega)
    have hrest := ih (u.multiOne c key (room - 4 * l.length)).1 (room := room - (u.multiOne c key (room - 4 * l.length)).2.length) (by omega)
    rw [State.multi, List.length_append]
    omega

/-- The addresses of a READ_MULTI. -/
def multiKeys (p : List Byte) (n : Nat) : List Nat := (List.range n).map (fun i => keyAt p (4 + 4 * i))

theorem svcReadMulti_eq (c : Client) (h1 : 1 ≤ n) (h32 : n ≤ 32) (hhead : beAt p 0 4 = 0x01000000 * n) (hlen : p.length = 4 + 4 * n)
    (hzero : ∀ i < n, beAt p (7 + 4 * i) 1 = 0) :
    u.svcReadMulti c p = ((u.multi c (multiKeys p n) 1396).1,
      { st := 0, pay := beBytes 1 n ++ beBytes 3 0 ++ (u.multi c (multiKeys p n) 1396).2 }) := by
  have hsplit : beAt p 0 4 = beAt p 0 1 * 256 ^ 3 + beAt p 1 3 := beAt_add (n := 1) (m := 3) (by omega)
  have hlow : beAt p 1 3 < 256 ^ 3 := beAt_lt (by omega)
  have hn : beAt p 0 1 = n := by omega
  have hz : zeros (slice p 1 3) = true := zeros_of_beAt (p := p) (i := 1) (n := 3) (by omega)
  have hreserved : (List.range n).all (fun i => beAt p (7 + 4 * i) 1 == 0) = true := by simpa using hzero
  simp [State.svcReadMulti, hn, hlen, hz, hreserved, Nat.not_lt.2 h1, Nat.not_lt.2 h32, multiKeys]

/-- A dictionary service of an admitted request that changes sessions of its number alone. -/
theorem State.answered_of_onSession {code : Nat} {a : Ans} (hq : eopParse d = some q) (h : s.admits at_ o code d q) (hx : s.session q.session = some x)
    (hcode : dictService code = true) (hneed : sessionNeed code = some 0 ∨ sessionNeed code = some 1)
    (hserve : (s.admitted at_ o d q).serve { r := .session q.session, w := x.writer } code q.payload = (v, a))
    (hv : OnSession q.session (s.admitted at_ o d q) v) (ha : a.abort = none) :
    ∃ t, (s.advance at_).eopRow o code d = t ∧ t.reply q = some (a.st, a.pay) ∧ t.now = s.instant at_ ∧ AnswersOnly s t := by
  obtain ⟨f, hf, rfl⟩ := hv
  obtain ⟨t, ht, hreply, -, hrest⟩ := State.answered_of_map hq h hx hcode hneed hserve hf ha
  exact ⟨t, ht, hreply, hrest⟩

theorem readMulti_completes (hq : eopParse d = some q) (h : s.admits at_ o 0x03 d q) (h1 : 1 ≤ n) (h32 : n ≤ 32)
    (hhead : beAt q.payload 0 4 = 0x01000000 * n) (hlen : q.payload.length = 4 + 4 * n) (hzero : ∀ i < n, beAt q.payload (7 + 4 * i) 1 = 0) :
    Completes (.readMulti at_ o d) s (fun t => (t.reply q).map (·.1) = some 0
      ∧ (t.reply q).map (fun x => x.2.take 4) = some (beBytes 1 n ++ beBytes 3 0) ∧ (t.reply q).all (fun x => decide (x.2.length ≤ 1400)) = true
      ∧ t.now = s.instant at_ ∧ AnswersOnly s t) := by
  obtain ⟨x, hx⟩ := State.session_of_admits h
  have hserve := svcReadMulti_eq (u := s.admitted at_ o d q) { r := .session q.session, w := x.writer } h1 h32 hhead hlen hzero
  have hfit := State.length_multi (multiKeys q.payload n) (s.admitted at_ o d q) { r := .session q.session, w := x.writer } (room := 1396)
    (by simp [multiKeys]; omega)
  obtain ⟨t, ht, hreply, hans⟩ := State.answered_of_onSession hq h hx (by decide) (.inl (by decide)) hserve (State.multi_onSession ..) rfl
  refine ⟨t, congrArg Host.Outcome.next ht, by rw [hreply]; rfl, ?_, ?_, hans⟩
  · have hfour : (beBytes 1 n ++ beBytes 3 0).length = 4 := by simp
    rw [hreply, Option.map_some, List.take_left' hfour]
  · simp only [hreply, Option.all_some, List.length_append, length_beBytes, decide_eq_true_eq]
    omega

theorem readMulti_one_completes (hq : eopParse d = some q) (h : s.admits at_ o 0x03 d q) (hhead : beAt q.payload 0 4 = 0x01000000)
    (hlen : q.payload.length = 8) (hzero : beAt q.payload 7 1 = 0) (he : (s.entryAt (keyAt q.payload 4)).toOption = some r) (hacc : r.1.acc ≠ .wo)
    (hv : s.invalidEntry (keyAt q.payload 4) = false)
    (hb : b = valueBe r.1.ty ((s.admitted at_ o d q).valueOf (.session q.session) (keyAt q.payload 4) r.2)) (hmax : b.length ≤ 1024)
    (hkey : keyAt q.payload 4 / 256 ≠ 0x7001) :
    Completes (.readMulti at_ o d) s (fun t => t.reply q = some (0, beBytes 1 1 ++ beBytes 3 0 ++ (beBytes 1 0 ++ beBytes 1 (tyCode r.1.ty)
        ++ beBytes 2 b.length ++ b))
      ∧ t.now = s.instant at_ ∧ AnswersOnly s t) := by
  obtain ⟨x, hx⟩ := State.session_of_admits h
  subst hb
  have hread := State.readEntry_admitted h hx he hacc hv
  have hserve := svcReadMulti_eq (u := s.admitted at_ o d q) (n := 1) { r := .session q.session, w := x.writer } (by decide) (by decide) hhead hlen
    (by simpa using hzero)
  have hne : keyAt q.payload 4 ≠ 0x700102 := fun hk => hkey (by rw [hk])
  have hmulti : (s.admitted at_ o d q).multi { r := .session q.session, w := x.writer } (multiKeys q.payload 1) 1396
      = (s.admitted at_ o d q, beBytes 1 0 ++ beBytes 1 (tyCode r.1.ty) ++ beBytes 2 (valueBe r.1.ty ((s.admitted at_ o d q).valueOf
          (.session q.session) (keyAt q.payload 4) r.2)).length ++ valueBe r.1.ty ((s.admitted at_ o d q).valueOf (.session q.session) (keyAt q.payload 4) r.2)) := by
    have hroom : ¬ 1396 < 4 + (valueBe r.1.ty ((s.admitted at_ o d q).valueOf (.session q.session) (keyAt q.payload 4) r.2)).length := by omega
    simp [multiKeys, State.multi, State.multiOne, hread, Nat.not_lt.2 hmax, hroom, State.delivered_of_ne hne]
  rw [hmulti] at hserve
  obtain ⟨t, ht, hans⟩ := State.answered_of_same hq h hx (by decide) (.inl (by decide)) hserve rfl
  exact ⟨t, congrArg Host.Outcome.next ht, hans⟩

end

end Sys2Proof.Machine
end

section
/-!
O8. Segmented transfers (R65 to R67).
-/
namespace Sys2Proof.Machine

section
variable {s u v : State} {at_ code n key : Nat} {o : Origin} {d p b : List Byte} {q : EopReq} {x : Session} {w : Writer} {r : Row × Ent}
  {f : Session → Session} {tr : Transfer} {ty : Ty} {c : Client}

theorem State.moduleView_mapSession : (u.mapSession n f).moduleView = u.moduleView := by
  have hsnap : (u.mapSession n f).snapshotAll = u.snapshotAll := rfl
  have htb : (u.mapSession n f).tbAt = u.tbAt := rfl
  have hhold : (u.mapSession n f).holdoverMs = u.holdoverMs := rfl
  have hstamp : (u.mapSession n f).stampUncertainty = u.stampUncertainty := rfl
  have hbound : (u.mapSession n f).completeBound = u.completeBound := rfl
  funext i sub
  unfold State.moduleView
  rw [hsnap, htb, hhold, hstamp, hbound]
  rfl

theorem State.runView_mapSession : (u.mapSession n f).runView = u.runView := rfl

theorem State.fieldView_mapSession : (u.mapSession n f).fieldView = u.fieldView := rfl

/-- Sessions matter to the ledger's own entries alone (R514). -/
theorem State.valueOf_mapSession (rd : Reader) (e : Ent) (hkey : key / 256 ≠ 0x7001) :
    (u.mapSession n f).valueOf rd key e = u.valueOf rd key e := by
  unfold State.valueOf
  rw [State.moduleView_mapSession, State.runView_mapSession, State.fieldView_mapSession]
  simp only [hkey, if_false]
  rfl

/-- The session with its transfer replaced. -/
def Session.withTransfer (tr : Option Transfer) (y : Session) : Session := { y with transfer := tr, timedOut := false }

theorem State.setTransfer_eq (u : State) (n : Nat) (tr : Option Transfer) : u.setTransfer (.session n) tr = u.mapSession n (Session.withTransfer tr) := rfl

theorem KeepsId.withTransfer (tr : Option Transfer) : KeepsId n (Session.withTransfer tr) := fun _ h => h

theorem State.setTransfer_setTransfer (u : State) (n : Nat) (t₁ t₂ : Option Transfer) :
    (u.setTransfer (.session n) t₁).setTransfer (.session n) t₂ = u.setTransfer (.session n) t₂ :=
  State.mapSession_mapSession (KeepsId.withTransfer t₁)

/-- A service of an admitted request that leaves `tr` as the transfer of its session. -/
theorem State.answered_of_transfer {a : Ans} (hq : eopParse d = some q) (h : s.admits at_ o code d q) (hx : s.session q.session = some x)
    (hcode : dictService code = true) (hneed : sessionNeed code = some 0 ∨ sessionNeed code = some 1) {tr : Option Transfer}
    (hserve : (s.admitted at_ o d q).serve { r := .session q.session, w := x.writer } code q.payload
      = ((s.admitted at_ o d q).setTransfer (.session q.session) tr, a)) (ha : a.abort = none) :
    ∃ t, (s.advance at_).eopRow o code d = t ∧ t.reply q = some (a.st, a.pay) ∧ (t.transferOf (.session q.session)).1 = tr
      ∧ t.now = s.instant at_ ∧ AnswersOnly s t := by
  obtain ⟨t, ht, hreply, ⟨c, n, hses⟩, hrest⟩ := State.answered_of_map hq h hx hcode hneed hserve (KeepsId.withTransfer tr) ha
  refine ⟨t, ht, hreply, ?_, hrest⟩
  rw [State.transferOf_session, hses]
  rfl

/-- The transfer that an admitted request finds. -/
theorem State.transferOf_admitted (h : s.admits at_ o code d q) (htr : (s.transferOf (.session q.session)).1 = some tr) :
    ∃ b, (s.admitted at_ o d q).transferOf (.session q.session) = (some tr, b) := by
  obtain ⟨x, hx⟩ := State.session_of_admits h
  rw [State.transferOf_session, hx] at htr
  have hx' : x.transfer = some tr := htr
  refine ⟨(x.admittedAs q.sequence (s.instant at_)).timedOut, ?_⟩
  rw [State.transferOf_session, State.session_admitted h hx, ← hx', ← Session.admittedAs_transfer (x := x)]
  rfl

/-- SEG_READ_START (R65). -/
theorem State.segReadStart_of_value (hlen : p.length = 4) (hzero : beAt p 3 1 = 0) {val : Value}
    (hread : (u.setTransfer (.session n) none).readEntry (.session n) (keyAt p 0) = (0, ty, val)) (hkey : keyAt p 0 ≠ 0x700102) :
    u.segReadStart { r := .session n, w := w } p = (u.setTransfer (.session n) (some
        { write := false, key := keyAt p 0, ty := ty, total := (valueBe ty val).length, data := valueBe ty val, lastReq := u.now }),
      { st := 0, pay := beBytes 1 (tyCode ty) ++ beBytes 1 0 ++ beBytes 2 (segCount (valueBe ty val).length) ++ beBytes 4 (valueBe ty val).length }) := by
  simp [State.segReadStart, hlen, hzero, hread, State.delivered_of_ne hkey, State.setTransfer_setTransfer]
  rfl

theorem segReadStart_completes (hq : eopParse d = some q) (h : s.admits at_ o 0x10 d q) (hlen : q.payload.length = 4) (hzero : beAt q.payload 3 1 = 0)
    (he : (s.entryAt (keyAt q.payload 0)).toOption = some r) (hacc : r.1.acc ≠ .wo) (hv : s.invalidEntry (keyAt q.payload 0) = false)
    (hb : b = valueBe r.1.ty ((s.admitted at_ o d q).valueOf (.session q.session) (keyAt q.payload 0) r.2)) (hkey : keyAt q.payload 0 / 256 ≠ 0x7001) :
    Completes (.segReadStart at_ o d) s (fun t => t.reply q = some (0, beBytes 1 (tyCode r.1.ty) ++ beBytes 1 0
        ++ beBytes 2 (segCount b.length) ++ beBytes 4 b.length)
      ∧ (t.transferOf (.session q.session)).1 = some
        { write := false, key := keyAt q.payload 0, ty := r.1.ty, total := b.length, data := b, lastReq := s.instant at_ }
      ∧ t.now = s.instant at_ ∧ AnswersOnly s t) := by
  obtain ⟨x, hx⟩ := State.session_of_admits h
  subst hb
  have hfound := State.admitted_found h hx
  have hread := State.readEntry_of_readable (u := (s.admitted at_ o d q).setTransfer (.session q.session) none) (rd := .session q.session)
    (by rw [← he, ← hfound.entryAt]; rfl) hacc (by rw [← hv, ← hfound.invalidEntry]; rfl) fun hi => absurd hi hkey
  rw [State.setTransfer_eq, State.valueOf_mapSession _ _ hkey, ← State.setTransfer_eq] at hread
  have hserve := State.segReadStart_of_value (w := x.writer) hlen hzero hread fun hk => hkey (by rw [hk])
  rw [State.admitted_now h hx] at hserve
  obtain ⟨t, ht, hans⟩ := State.answered_of_transfer hq h hx (by decide) (.inr (by decide)) hserve rfl
  exact ⟨t, congrArg Host.Outcome.next ht, hans⟩

theorem State.staleTransfer_admitted (h : s.admits at_ o code d q) (hfresh : (s.instant at_ : Int) < tr.lastReq + 5000000000) :
    (s.admitted at_ o d q).staleTransfer tr = false := by
  obtain ⟨x, hx⟩ := State.session_of_admits h
  rw [State.staleTransfer, State.admitted_now h hx, decide_eq_false_iff_not]
  omega

/-- SEG_READ_PART of an open read transfer (R65). -/
theorem State.segPart_of_read {bo : Bool} (hlen : p.length = 4) (hzero : beAt p 2 2 = 0) (htr : u.transferOf c.r = (some tr, bo))
    (hwrite : tr.write = false) (hfresh : u.staleTransfer tr = false) (hk : beAt p 0 2 < segCount tr.total) :
    u.segPart c false p = (u.setTransfer c.r (some { tr with lastReq := u.now }),
      { st := 0, pay := beBytes 2 (beAt p 0 2) ++ beBytes 2 (Machine.slice tr.data (1024 * beAt p 0 2) (min 1024 (tr.total - 1024 * beAt p 0 2))).length
        ++ Machine.slice tr.data (1024 * beAt p 0 2) (min 1024 (tr.total - 1024 * beAt p 0 2)) }) := by
  simp [State.segPart, htr, hfresh, hwrite, readPart, hlen, hzero, Nat.not_le.2 hk]

theorem segReadPart_completes (hq : eopParse d = some q) (h : s.admits at_ o 0x11 d q) (hlen : q.payload.length = 4) (hzero : beAt q.payload 2 2 = 0)
    (htr : (s.transferOf (.session q.session)).1 = some tr) (hwrite : tr.write = false) (hfresh : (s.instant at_ : Int) < tr.lastReq + 5000000000)
    (hk : beAt q.payload 0 2 < segCount tr.total) :
    Completes (.segReadPart at_ o d) s (fun t =>
      t.reply q = some (0, beBytes 2 (beAt q.payload 0 2)
        ++ beBytes 2 (slice tr.data (1024 * beAt q.payload 0 2) (min 1024 (tr.total - 1024 * beAt q.payload 0 2))).length
        ++ slice tr.data (1024 * beAt q.payload 0 2) (min 1024 (tr.total - 1024 * beAt q.payload 0 2)))
      ∧ (t.transferOf (.session q.session)).1 = some { tr with lastReq := s.instant at_ }
      ∧ t.now = s.instant at_ ∧ AnswersOnly s t) := by
  obtain ⟨x, hx⟩ := State.session_of_admits h
  obtain ⟨bo, hopen⟩ := State.transferOf_admitted h htr
  have hserve := State.segPart_of_read (c := { r := .session q.session, w := x.writer }) hlen hzero hopen hwrite (State.staleTransfer_admitted h hfresh) hk
  rw [State.admitted_now h hx] at hserve
  obtain ⟨t, ht, hans⟩ := State.answered_of_transfer hq h hx (by decide) (.inr (by decide)) hserve rfl
  exact ⟨t, congrArg Host.Outcome.next ht, hans⟩

/-- SEG_ABORT of an open transfer (R67). -/
theorem State.segAbort_of_open {bo : Bool} (htr : u.transferOf c.r = (some tr, bo)) (hfresh : u.staleTransfer tr = false) :
    u.segAbort c [] = (u.setTransfer c.r none, ans 0) := by
  simp [State.segAbort, htr, hfresh]

theorem segAbort_completes (hq : eopParse d = some q) (h : s.admits at_ o 0x14 d q) (hp : q.payload = [])
    (htr : (s.transferOf (.session q.session)).1 = some tr) (hfresh : (s.instant at_ : Int) < tr.lastReq + 5000000000) :
    Completes (.segAbort at_ o d) s (fun t => t.reply q = some (0, []) ∧ (t.transferOf (.session q.session)).1 = none
      ∧ t.now = s.instant at_ ∧ AnswersOnly s t) := by
  obtain ⟨x, hx⟩ := State.session_of_admits h
  obtain ⟨bo, hopen⟩ := State.transferOf_admitted h htr
  have hserve := State.segAbort_of_open (c := { r := .session q.session, w := x.writer }) hopen (State.staleTransfer_admitted h hfresh)
  rw [← hp] at hserve
  obtain ⟨t, ht, hans⟩ := State.answered_of_transfer hq h hx (by decide) (.inr (by decide)) hserve rfl
  exact ⟨t, congrArg Host.Outcome.next ht, hans⟩

/-- SEG_WRITE_PART before the last missing segment (R66). -/
theorem State.segPart_of_write {bo : Bool} (hlen : 4 ≤ p.length) (hsize : p.length = 4 + beAt p 2 2) (htr : u.transferOf (.session n) = (some tr, bo))
    (hwrite : tr.write = true) (hfresh : u.staleTransfer tr = false) (hk : beAt p 0 2 < segCount tr.total)
    (hseg : beAt p 2 2 = if beAt p 0 2 + 1 = segCount tr.total then tr.total - 1024 * beAt p 0 2 else 1024)
    (hmore : (tr.segs.put (beAt p 0 2) (p.drop 4)).cells.length < segCount tr.total) :
    u.segPart { r := .session n, w := w } true p
      = (u.setTransfer (.session n) (some { tr with segs := tr.segs.put (beAt p 0 2) (p.drop 4), lastReq := u.now }),
        { st := 0, pay := beBytes 2 (beAt p 0 2) ++ beBytes 2 (tr.segs.put (beAt p 0 2) (p.drop 4)).cells.length }) := by
  have hdrop : p.length - 4 = beAt p 2 2 := by omega
  simp [State.segPart, htr, hfresh, hwrite, State.writePart, Nat.not_lt.2 hlen, hdrop, Nat.not_le.2 hk, ← hseg, hmore,
    State.setTransfer_setTransfer]

theorem segWritePart_completes (hq : eopParse d = some q) (h : s.admits at_ o 0x13 d q) (htr : (s.transferOf (.session q.session)).1 = some tr)
    (hwrite : tr.write = true) (hfresh : (s.instant at_ : Int) < tr.lastReq + 5000000000) (hlen : 4 ≤ q.payload.length)
    (hsize : q.payload.length = 4 + beAt q.payload 2 2) (hk : beAt q.payload 0 2 < segCount tr.total)
    (hseg : beAt q.payload 2 2 = if beAt q.payload 0 2 + 1 = segCount tr.total then tr.total - 1024 * beAt q.payload 0 2 else 1024)
    (hmore : (tr.segs.put (beAt q.payload 0 2) (q.payload.drop 4)).cells.length < segCount tr.total) :
    Completes (.segWritePart at_ o d) s (fun t => t.reply q = some (0, beBytes 2 (beAt q.payload 0 2)
        ++ beBytes 2 (tr.segs.put (beAt q.payload 0 2) (q.payload.drop 4)).cells.length)
      ∧ (t.transferOf (.session q.session)).1 = some
        { tr with segs := tr.segs.put (beAt q.payload 0 2) (q.payload.drop 4), lastReq := s.instant at_ }
      ∧ t.now = s.instant at_ ∧ AnswersOnly s t) := by
  obtain ⟨x, hx⟩ := State.session_of_admits h
  obtain ⟨bo, hopen⟩ := State.transferOf_admitted h htr
  have hserve := State.segPart_of_write (w := x.writer) hlen hsize hopen hwrite (State.staleTransfer_admitted h hfresh) hk hseg hmore
  rw [State.admitted_now h hx] at hserve
  obtain ⟨t, ht, hans⟩ := State.answered_of_transfer hq h hx (by decide) (.inr (by decide)) hserve rfl
  exact ⟨t, congrArg Host.Outcome.next ht, hans⟩

end

end Sys2Proof.Machine
end

section
/-!
O8. SEG_WRITE_START (R66): the checks of a write see the module, and of the sessions only the rejected clears of the writer's own.
-/
namespace Sys2Proof.Machine

section
variable {s u v : State} {at_ n key : Nat} {o : Origin} {d p : List Byte} {q : EopReq} {x : Session} {w : Writer} {ty : Ty}

theorem State.chkForm_of_unbarred {ot : Option Ty} {ov : Option Value} (h : u.chkForm w key ot ov = 0) (he : v.entryAt key = u.entryAt key)
    (hst : v.standby = u.standby) (hbar : u.clearBarred w = false → v.clearBarred w = false) : v.chkForm w key ot ov = 0 := by
  unfold State.chkForm at h ⊢
  rw [he, hst]
  cases hu : u.clearBarred w with
  | false => rwa [hbar hu, ← hu]
  | true =>
    cases hv : v.clearBarred w with
    | true => rwa [← hu]
    | false =>
      cases hent : u.entryAt key with
      | error st => rwa [hent] at h
      | ok e =>
        obtain ⟨row, e⟩ := e
        rw [hent, hu] at h
        have hall := firstBad_eq_zero.1 h
        refine firstBad_eq_zero.2 fun m hm => ?_
        by_cases hkey : key = 0x700202
        · exact absurd (hall 0x0A (by simp [need, hkey])) (by decide)
        · exact hall m (by simpa [beq_false_of_ne hkey] using hm)

/-- The admitted session of a number is the first one with it: the writer is barred no more than before. -/
theorem State.clearBarred_admitted {code : Nat} (h : s.admits at_ o code d q) (hx : s.session q.session = some x)
    (hbar : s.clearBarred x.writer = false) : (s.admitted at_ o d q).clearBarred x.writer = false := by
  rw [State.admitted_eq h hx]
  have hses : (s.received at_ o d).eop.sessions = s.eop.sessions := by rw [(s.received_received at_ o d).eq]; rfl
  simp only [State.clearBarred, Session.writer, State.setSession, hses, List.any_map, List.any_eq_false, Function.comp] at hbar ⊢
  intro y hy
  have hin : x ∈ s.eop.sessions := List.mem_of_find?_eq_some hx
  by_cases hid : y.id = x.id
  · simpa [hid] using hbar x hin
  · simp [hid]

theorem State.segWriteStart_of_allowed (hlen : p.length = 8) (hty : codeTy (beAt p 3 1) = some ty) (htot : totalOk ty (beAt p 4 4) = true)
    (hform : (u.setTransfer (.session n) none).chkForm w (keyAt p 0) (some ty) (some (if byteType ty then .bytes [] else .num 0)) = 0) :
    u.segWriteStart { r := .session n, w := w } p = (u.setTransfer (.session n) (some
        { write := true, key := keyAt p 0, ty := ty, total := beAt p 4 4, lastReq := u.now }),
      { st := 0, pay := beBytes 2 (segCount (beAt p 4 4)) ++ beBytes 2 0 }) := by
  simp [State.segWriteStart, hlen, hty, hform, htot, State.setTransfer_setTransfer]
  rfl

theorem State.clearBarred_setTransfer (u : State) (n : Nat) (tr : Option Transfer) (w : Writer) :
    (u.setTransfer (.session n) tr).clearBarred w = u.clearBarred w := by
  rw [State.setTransfer_eq]
  unfold State.clearBarred
  cases w.session with
  | none => rfl
  | some m =>
    simp only [State.mapSession, List.any_map]
    congr 1
    funext y
    by_cases hy : y.id = n <;> simp [hy, Session.withTransfer]

theorem segWriteStart_completes (hq : eopParse d = some q) (h : s.admits at_ o 0x12 d q) (hlen : q.payload.length = 8)
    (hty : codeTy (beAt q.payload 3 1) = some ty) (hx : s.session q.session = some x)
    (hform : s.chkForm x.writer (keyAt q.payload 0) (some ty) (some (if byteType ty then .bytes [] else .num 0)) = 0)
    (htot : totalOk ty (beAt q.payload 4 4) = true) :
    Completes (.segWriteStart at_ o d) s (fun t => t.reply q = some (0, beBytes 2 (segCount (beAt q.payload 4 4)) ++ beBytes 2 0)
      ∧ (t.transferOf (.session q.session)).1 = some
        { write := true, key := keyAt q.payload 0, ty := ty, total := beAt q.payload 4 4, lastReq := s.instant at_ }
      ∧ t.now = s.instant at_ ∧ AnswersOnly s t) := by
  have hfound := State.admitted_found h hx
  have hform' : ((s.admitted at_ o d q).setTransfer (.session q.session) none).chkForm x.writer (keyAt q.payload 0) (some ty)
      (some (if byteType ty then .bytes [] else .num 0)) = 0 := by
    refine State.chkForm_of_unbarred hform (hfound.entryAt _) ?_ fun hbar => ?_
    · exact congrArg (· == 1) (hfound.rd E.Twin.TWIN_ROLE)
    · rw [State.clearBarred_setTransfer]
      exact State.clearBarred_admitted h hx hbar
  have hserve := State.segWriteStart_of_allowed hlen hty htot hform'
  rw [State.admitted_now h hx] at hserve
  obtain ⟨t, ht, hans⟩ := State.answered_of_transfer hq h hx (by decide) (.inr (by decide)) hserve rfl
  exact ⟨t, congrArg Host.Outcome.next ht, hans⟩

end

end Sys2Proof.Machine
end

section
/-!
O8. WRITE of SESSION_IDLE_TIMEOUT (R64, R80), which a module off a twin base stores without a standby (R484).
-/
namespace Sys2Proof.Machine

section
variable {s u v : State} {at_ key code n : Nat} {o : Origin} {d p raw : List Byte} {q : EopReq} {x : Session} {w : Writer} {ty : Ty} {val : Value}
  {c : Client}

/-- The fields of a WRITE (Table DIC-9). -/
theorem State.svcWrite_of_fields (hlen : p.length = 6 + beAt p 4 2) (hmax : beAt p 4 2 ≤ 1024) :
    u.svcWrite c p = u.writeBytes c (keyAt p 0) (beAt p 3 1) (p.drop 6) := by
  have hsix : ¬ p.length < 6 := by omega
  rw [State.svcWrite, if_neg (by simp [hlen]), if_neg (by omega)]

theorem State.serve_write (u : State) (c : Client) (p : List Byte) : u.serve c 0x02 p = u.svcWrite c p := rfl

/-- A write of `val` as its type's bytes, when no abort awaits its decision. -/
theorem State.writeBytes_of_write {st : Nat} (hty : codeTy code = some ty) (hv : beValue ty raw = some val)
    (hwrite : u.write c.w key (some ty) (some val) = (s, st)) (ha : abortOf u s key val = none) : u.writeBytes c key code raw = (s, ans st) := by
  simp [State.writeBytes, hty, hv, hwrite, ha, ans]

theorem beValue_u32 (hn : n < 2 ^ 32) : beValue .u32 (beBytes 4 n) = some (.num n) := by
  have hbe : beAt (beBytes 4 n) 0 4 = n := by
    rw [beAt, slice, List.drop_zero, List.take_of_length_le (by simp), beNat_beBytes, Nat.mod_eq_of_lt (by omega)]
  rw [beValue, if_neg (by decide), if_pos (by simp [Ty.bits]), length_beBytes, hbe]

/-- What a payload in the form of a WRITE spells. -/
theorem write_fields (hkey : key < 256 ^ 3) (hcode : code < 256) (hraw : raw.length < 65536)
    (hp : p = beBytes 3 key ++ beBytes 1 code ++ beBytes 2 raw.length ++ raw) :
    p.length = 6 + beAt p 4 2 ∧ beAt p 4 2 = raw.length ∧ keyAt p 0 = key ∧ beAt p 3 1 = code ∧ p.drop 6 = raw := by
  have hbytes (i m : Nat) (a b c : List Byte) (ha : a.length = i) (hb : b.length = m) : beAt (a ++ b ++ c) i m = beNat b := by
    rw [beAt_append_left (by simp; omega)]
    simp [beAt, slice, ← ha, ← hb]
  have hlength : beAt p 4 2 = raw.length := by
    rw [hp, hbytes 4 2 _ _ _ (by simp) (by simp), beNat_beBytes, Nat.mod_eq_of_lt (by omega)]
  refine ⟨?_, hlength, ?_, ?_, ?_⟩
  · rw [hlength, hp]
    simp
    omega
  · rw [keyAt, hp, List.append_assoc, List.append_assoc, ← List.nil_append (beBytes 3 key ++ _), ← List.append_assoc,
      hbytes 0 3 _ _ _ rfl (by simp), beNat_beBytes, Nat.mod_eq_of_lt hkey]
  · rw [hp, List.append_assoc, hbytes 3 1 _ _ _ (by simp) (by simp), beNat_beBytes, Nat.mod_eq_of_lt (by omega)]
  · rw [hp, List.drop_left' (by simp)]

theorem tableRow_idle : ∃ r : Row, tableRow E.Auth.SESSION_IDLE_TIMEOUT.key = some (r, E.Auth.SESSION_IDLE_TIMEOUT)
    ∧ r.acc = .rw ∧ r.ret = .retained ∧ r.ty = .u32 ∧ r.level = .engineer ∧ r.cond = 0 ∧ r.range = .u 5000 3600000 1 :=
  ⟨_, rfl, rfl, rfl, rfl, rfl, rfl, rfl⟩

theorem State.entryAt_idle (hb : u.power.bare = false) : ∃ r : Row, u.entryAt E.Auth.SESSION_IDLE_TIMEOUT.key = .ok (r, E.Auth.SESSION_IDLE_TIMEOUT)
    ∧ r.acc = .rw ∧ r.ret = .retained ∧ r.ty = .u32 ∧ r.level = .engineer ∧ r.cond = 0 ∧ r.range = .u 5000 3600000 1 := by
  obtain ⟨r, hr, hrest⟩ := tableRow_idle
  exact ⟨r, State.entryAt_of_tableRow hb (by decide) (by decide) (by decide) hr, hrest⟩

theorem State.chkOwner_idle (u : State) (w : Writer) (v : Value) : u.chkOwner w E.Auth.SESSION_IDLE_TIMEOUT.key v = 0 := rfl

/-- From Engineer up, in a module that is not STANDBY, the idle timeout takes every value of its range. -/
theorem State.chkWrite_idle (hb : u.power.bare = false) (hst : u.standby = false) (hlevel : 2 ≤ levelNum w.level) (hlo : 5000 ≤ n) (hhi : n ≤ 3600000) :
    u.chkWrite w E.Auth.SESSION_IDLE_TIMEOUT.key (some .u32) (some (.num n)) = 0 := by
  obtain ⟨r, he, hacc, -, hty, hlvl, hcond, hrange⟩ := State.entryAt_idle hb
  refine State.chkWrite_eq_zero.2 ⟨?_, ?_⟩
  · have hkey : (E.Auth.SESSION_IDLE_TIMEOUT.key == 0x700202) = false := by decide
    have hindex : (E.Auth.SESSION_IDLE_TIMEOUT.key / 256 != 0x1100) = true := by decide
    have hwrite : writeLevel E.Auth.SESSION_IDLE_TIMEOUT.key r (some (.num n)) = .engineer := by rw [writeLevel, if_neg (by decide), hlvl]
    have hlength : lengthOk .u32 (.num n) = true := decide_eq_true (show n < 2 ^ 32 by omega)
    have hrank : levelNum .engineer ≤ levelNum w.level := hlevel
    simp [State.chkForm, he, hacc, hst, hkey, hindex, hwrite, hty, hlength, hrank, firstBad, need]
  · have hin : inRange (.u 5000 3600000 1) .u32 (.num n) = true := by simp [inRange, valNat, hlo, hhi, Nat.mod_one]
    simp [State.chkStore, he, hty, hcond, hrange, State.chkOwner_idle, valid, hin, firstBad, need]

/-- Stored in its block, off a twin base with no mirror, and a commit of the services. -/
theorem State.write_idle (hchk : u.chkWrite w E.Auth.SESSION_IDLE_TIMEOUT.key (some .u32) (some (.num n)) = 0) (hb : u.power.bare = false)
    (hbase : u.twinBase = false) : u.write w E.Auth.SESSION_IDLE_TIMEOUT.key (some .u32) (some (.num n))
      = ((u.putR E.Auth.SESSION_IDLE_TIMEOUT (.num n)).servicesCommit, 0) := by
  have hplain := plainSetting_retained E.Auth.SESSION_IDLE_TIMEOUT (by simp)
  obtain ⟨r, he, -, hret, -⟩ := State.entryAt_idle hb
  have hbase' : (u.putR E.Auth.SESSION_IDLE_TIMEOUT (.num n)).twinBase = false := by
    have hframe : Frame retainParts (E.Auth.SESSION_IDLE_TIMEOUT :: retainEnts) [] u (u.putR E.Auth.SESSION_IDLE_TIMEOUT (.num n)) :=
      (Frame.refl ..).putR (by simp) (by simp [retainParts]) (by simp [retainEnts])
    rwa [State.twinBase, hframe.rd (by simp [retainParts]) (by decide) (by simp)]
  rw [State.write_of_accepted hchk, State.commitWrite, hplain.reached, State.storeValue_retained he hplain.index.2 hplain.aside hret,
    hplain.effOwner, State.mirrored, hbase', Bool.and_false, Bool.false_and, if_neg Bool.false_ne_true]

theorem State.storedIdle_frame (u : State) (n : Nat) : Frame [.blocks] (E.Auth.SESSION_IDLE_TIMEOUT :: E.Restore.RETAINED_WRITES :: genEnts) []
    u (u.putR E.Auth.SESSION_IDLE_TIMEOUT (.num n)).servicesCommit :=
  ((Frame.refl ..).putR (by simp) (by simp) (by simp)).servicesCommit fun _ hf => .tail _ (.tail _ hf)

theorem State.rd_storedIdle (u : State) (n : Nat) : (u.putR E.Auth.SESSION_IDLE_TIMEOUT (.num n)).servicesCommit.rd E.Auth.SESSION_IDLE_TIMEOUT = n := by
  have hcommit : Frame [] genEnts [] (u.putR E.Auth.SESSION_IDLE_TIMEOUT (.num n)) (u.putR E.Auth.SESSION_IDLE_TIMEOUT (.num n)).servicesCommit :=
    (Frame.refl ..).servicesCommit fun _ hf => hf
  rw [hcommit.rd (by simp) (by decide) (by simp), State.rd, State.get_putR_self (by decide), valNat]

theorem State.session_congr (h : v.eop = u.eop) (n : Nat) : v.session n = u.session n := by
  rw [State.session, h, State.session]

theorem writeIdle_completes (hq : eopParse d = some q) (h : s.admits at_ o 0x02 d q) (hst : s.standby = false) (hbase : s.twinBase = false)
    (hx : s.session q.session = some x) (hlevel : 2 ≤ levelNum x.level) (hlo : 5000 ≤ n) (hhi : n ≤ 3600000)
    (hp : q.payload = beBytes 3 E.Auth.SESSION_IDLE_TIMEOUT.key ++ beBytes 1 (tyCode .u32) ++ beBytes 2 4 ++ beBytes 4 n) :
    Completes (.write at_ o d) s (fun t => t.reply q = some (0, []) ∧ t.rd E.Auth.SESSION_IDLE_TIMEOUT = n ∧ t.now = s.instant at_
      ∧ Frame (.eop :: .net :: .j16 :: retainParts) (E.Auth.SESSION_IDLE_TIMEOUT :: retainEnts) (28 :: 31 :: portRings) s t) := by
  have hfound := State.admitted_found h hx
  have hports : ∀ r ∈ portRings, r ∈ 28 :: 31 :: portRings := fun _ hr => .tail _ (.tail _ hr)
  have hents : ∀ e ∈ E.Auth.SESSION_IDLE_TIMEOUT :: E.Restore.RETAINED_WRITES :: genEnts, e ∈ E.Auth.SESSION_IDLE_TIMEOUT :: retainEnts := by
    simp +contextual [retainEnts]
  have hbare : (s.admitted at_ o d q).power.bare = false := (congrArg PowerSt.bare hfound.power).trans h.2.1.2.1
  obtain ⟨hlen, hsize, hkey, hcode, hdrop⟩ := write_fields (key := E.Auth.SESSION_IDLE_TIMEOUT.key) (code := tyCode .u32) (p := q.payload)
    (raw := beBytes 4 n) (by decide) (by decide) (by simp) (by rw [hp, length_beBytes])
  have hchk := State.chkWrite_idle (w := x.writer) hbare ((congrArg (· == 1) (hfound.rd _)).trans hst) hlevel hlo hhi
  have hwrite := State.write_idle hchk hbare (by rw [← hbase]; simp only [State.twinBase, hfound.rd])
  have hserve : (s.admitted at_ o d q).svcWrite { r := .session q.session, w := x.writer } q.payload
      = (((s.admitted at_ o d q).putR E.Auth.SESSION_IDLE_TIMEOUT (.num n)).servicesCommit, ans 0) := by
    rw [State.svcWrite_of_fields hlen (by rw [hsize]; simp), hkey, hcode, hdrop]
    exact State.writeBytes_of_write (ty := .u32) (by decide) (beValue_u32 (by omega)) hwrite rfl
  rw [← State.serve_write, ← Session.client_admittedAs hx q.sequence (s.instant at_)] at hserve
  have hstored := State.storedIdle_frame (s.admitted at_ o d q) n
  have htwin : Part.same .twin (s.admitted at_ o d q) _ := hstored.2.1 .twin (by decide)
  have hpower : Part.same .power (s.admitted at_ o d q) _ := hstored.2.1 .power (by decide)
  have heop : Part.same .eop (s.admitted at_ o d q) _ := hstored.2.1 .eop (by decide)
  obtain ⟨t, ht, hans⟩ := State.served_of_admits hq h hx (by decide) (.inr (by decide)) hserve
    ((congrArg PowerSt.boot (hpower.trans hfound.power)).trans h.2.1.1) rfl
    (State.mirrorWait_eq_none htwin (hstored.rd (by decide) (by decide) (by simp)))
    ((State.session_congr heop _).trans (State.session_admitted h hx))
  refine ⟨t, congrArg Host.Outcome.next ht, hans.reply, ?_, ?_, ?_⟩
  · rw [hans.frame.rd (by decide) (by simp) (by decide)]
    exact State.rd_storedIdle _ n
  · rw [hans.now, State.servicesCommit_now, State.putR_now, State.admitted_now h hx]
  · exact (((State.admitted_frame h hx).mono (by simp) (by simp) hports).trans (hstored.mono (by simp [retainParts]) hents (by simp))).trans
      (hans.frame.mono (by simp) (by simp) hports)

end

end Sys2Proof.Machine
end

section
/-!
SUPPORT. TB3 through a write: no operation that the write of an entry reaches moves it, but for the resets (R268).
-/
namespace Sys2Proof.Machine

section
variable {s : State}

@[simp] theorem foldl_now {α : Type} {f : State → α → State} (l : List α) (h : ∀ s b, (f s b).now = s.now) : (l.foldl f s).now = s.now := by
  induction l generalizing s with
  | nil => rfl
  | cons b l ih => exact ih.trans (h s b)

/-! ## Machine/TimeUnit.lean -/

@[simp] theorem State.setTb_now (a b : _) : (s.setTb a b).now = s.now := by
  unfold State.setTb
  split <;> simp

@[simp] theorem State.newSeg_now (a b : _) : (s.newSeg a b).now = s.now := by simp [State.newSeg]

@[simp] theorem State.setFreq_now (a b : _) : (s.setFreq a b).now = s.now := by simp [State.setFreq]

@[simp] theorem State.setVal_now (a b : _) : (s.setVal a b).now = s.now := by
  unfold State.setVal
  dsimp only
  repeat' split
  all_goals simp

@[simp] theorem State.tsEvt_now (a b c d : _) : (s.tsEvt a b c d).now = s.now := by simp [State.tsEvt]

@[simp] theorem State.staleClock_now (a : _) : (s.staleClock a).now = s.now := by
  simp [State.staleClock, apply_ite State.now]

@[simp] theorem State.deriveSync_now (a : _) : (s.deriveSync a).now = s.now := by
  simp [State.deriveSync, apply_ite State.now]

@[simp] theorem State.setServo_now (a b : _) : (s.setServo a b).now = s.now := by
  unfold State.setServo
  repeat' split
  all_goals simp [apply_ite State.now]

@[simp] theorem State.stepBase_now (a b : _) : (s.stepBase a b).now = s.now := by simp [State.stepBase]

@[simp] theorem State.effSet_now (a b : _) : (s.effSet a b).now = s.now := by simp [State.effSet]

@[simp] theorem State.effStep_now (a b : _) : (s.effStep a b).now = s.now := by simp [State.effStep]

@[simp] theorem State.startInstance_now (a : _) : (s.startInstance a).now = s.now := by simp [State.startInstance]

@[simp] theorem State.effRole_now (a b : _) : (s.effRole a b).now = s.now := by
  simp [State.effRole, apply_ite State.now]

@[simp] theorem State.effBaseStats_now (a : _) : (s.effBaseStats a).now = s.now := rfl

@[simp] theorem State.effTcStats_now : s.effTcStats.now = s.now := rfl

/-! ## Machine/Runtime.lean -/

@[simp] theorem State.setTask_now (a b : _) : (s.setTask a b).now = s.now := rfl

@[simp] theorem State.mapTasks_now (a : _) : (s.mapTasks a).now = s.now := rfl

@[simp] theorem State.trimErrors_now (a : _) : (s.trimErrors a).now = s.now := by
  unfold State.trimErrors
  rw [State.addTo_now, State.wr_now, State.setTask_now]

@[simp] theorem State.abandonTurn_now (a : _) : (s.abandonTurn a).now = s.now := by
  unfold State.abandonTurn
  dsimp only
  repeat' split
  all_goals simp [apply_ite State.now]

@[simp] theorem State.abandonWhere_now (a : _) : (s.abandonWhere a).now = s.now := by simp [State.abandonWhere]

@[simp] theorem State.setMode_now (a : _) : (s.setMode a).now = s.now := by simp [State.setMode]

@[simp] theorem State.enterStop_now (a : _) : (s.enterStop a).now = s.now := by simp [State.enterStop]

@[simp] theorem State.stopNow_now (a : _) : (s.stopNow a).now = s.now := by
  simp [State.stopNow, apply_ite State.now]

@[simp] theorem State.firstTurns_now : s.firstTurns.now = s.now := rfl

@[simp] theorem State.enterRun_now : s.enterRun.now = s.now := by simp [State.enterRun]

@[simp] theorem State.enterHold_now (a : _) : (s.enterHold a).now = s.now := by simp [State.enterHold]

@[simp] theorem State.settleStop_now : s.settleStop.now = s.now := by
  simp [State.settleStop, apply_ite State.now]

@[simp] theorem State.effStop_now : s.effStop.now = s.now := by simp [State.effStop]

@[simp] theorem State.effContinue_now : s.effContinue.now = s.now := by simp [State.effContinue]

@[simp] theorem State.holdStep_now : s.effStep_.now = s.now := by
  unfold State.effStep_
  dsimp only
  split <;> simp

@[simp] theorem State.effCommand_now (a : _) : (s.effCommand a).now = s.now := by
  unfold State.effCommand
  split <;> simp

@[simp] theorem State.effRetainReset_now : s.effRetainReset.now = s.now := by
  unfold State.effRetainReset
  split <;> simp

@[simp] theorem State.effTaskStats_now (a : _) : (s.effTaskStats a).now = s.now := rfl

@[simp] theorem State.logForce_now (a b : _) : (s.logForce a b).now = s.now := by simp [State.logForce]

@[simp] theorem State.noteWritten_now (a b : _) : (s.noteWritten a b).now = s.now := by
  unfold State.noteWritten
  split <;> simp

@[simp] theorem State.effForceActive_now (a b c : _) : (s.effForceActive a b c).now = s.now := by
  simp [State.effForceActive, apply_ite State.now]

@[simp] theorem State.effForceClear_now (a : _) : (s.effForceClear a).now = s.now := by simp [State.effForceClear]

/-! ## Machine/Can.lean -/

@[simp] theorem State.noteTiming_now (a b : _) : (s.noteTiming a b).now = s.now := by
  simp [State.noteTiming, apply_ite State.now]

@[simp] theorem State.effObjSend_now (a b c : _) : (s.effObjSend a b c).now = s.now := by simp [State.effObjSend]

@[simp] theorem State.effCanStats_now (a : _) : (s.effCanStats a).now = s.now := rfl

@[simp] theorem State.effObjStats_now (a b : _) : (s.effObjStats a b).now = s.now := rfl

/-! ## Machine/Ethernet.lean -/

@[simp] theorem State.effSource_now (a b : _) : (s.effSource a b).now = s.now := rfl

@[simp] theorem State.effPortEnable_now (a b : _) : (s.effPortEnable a b).now = s.now := by
  simp [State.effPortEnable, apply_ite State.now]

@[simp] theorem State.effPortStats_now (a : _) : (s.effPortStats a).now = s.now := rfl

/-! ## Machine/Ecx.lean -/

@[simp] theorem State.setStation_now (a b : _) : (s.setStation a b).now = s.now := rfl

@[simp] theorem State.noteEcxCheck_now : s.noteEcxCheck.now = s.now := rfl

@[simp] theorem State.effAcyc_now (a b : _) : (s.effAcyc a b).now = s.now := by simp [State.effAcyc]

@[simp] theorem State.effStationStats_now (a : _) : (s.effStationStats a).now = s.now := rfl

/-! ## Machine/Field.lean -/

@[simp] theorem State.effTripReset_now (a b : _) : (s.effTripReset a b).now = s.now := by
  simp [State.effTripReset, apply_ite State.now]

@[simp] theorem State.effDiStats_now (a : _) : (s.effDiStats a).now = s.now := rfl

@[simp] theorem State.effDoStats_now (a : _) : (s.effDoStats a).now = s.now := rfl

@[simp] theorem State.effGrpStats_now : s.effGrpStats.now = s.now := rfl

/-! ## Machine/Analog.lean -/

@[simp] theorem State.setAin_now (a b : _) : (s.setAin a b).now = s.now := rfl

@[simp] theorem State.setAout_now (a b : _) : (s.setAout a b).now = s.now := rfl

@[simp] theorem State.effTrimCapture_now (a b c d : _) : (s.effTrimCapture a b c d).now = s.now := by
  unfold State.effTrimCapture
  split <;> simp

@[simp] theorem State.logTrim_now (a b c d e f g : _) : (s.logTrim a b c d e f g).now = s.now := by simp [State.logTrim]

@[simp] theorem State.refreshAo_now (a : _) : (s.refreshAo a).now = s.now := rfl

@[simp] theorem State.effAoTrim_now (a b c d : _) : (s.effAoTrim a b c d).now = s.now := by
  unfold State.effAoTrim
  dsimp only
  repeat' split
  all_goals simp

@[simp] theorem State.effAoReading_now (a b : _) : (s.effAoReading a b).now = s.now := by
  unfold State.effAoReading
  dsimp only
  repeat' split
  all_goals simp

@[simp] theorem State.effAiStats_now (a : _) : (s.effAiStats a).now = s.now := rfl

@[simp] theorem State.effAoStats_now (a : _) : (s.effAoStats a).now = s.now := rfl

/-! ## Machine/Motion.lean -/

@[simp] theorem State.setAx_now (a b : _) : (s.setAx a b).now = s.now := rfl

@[simp] theorem State.assignMove_fst_now (a : _) : (s.assignMove a).1.now = s.now := by
  unfold State.assignMove
  split <;> simp

@[simp] theorem State.rejectCmd_now : s.rejectCmd.now = s.now := rfl

@[simp] theorem State.effAxisCommand_now (a b : _) : (s.effAxisCommand a b).now = s.now := by
  simp [State.effAxisCommand, apply_ite State.now]

@[simp] theorem State.effAxisSetting_now (a : _) : (s.effAxisSetting a).now = s.now := by
  unfold State.effAxisSetting
  dsimp only
  repeat' split
  all_goals simp

@[simp] theorem State.effAxStats_now (a : _) : (s.effAxStats a).now = s.now := rfl

/-! ## Machine/SafeIo.lean -/

@[simp] theorem State.setChn_now (a b : _) : (s.setChn a b).now = s.now := rfl

@[simp] theorem State.setSb_now (a b : _) : (s.setSb a b).now = s.now := rfl

@[simp] theorem State.setSafe_now (a : _) : (s.setSafe a).now = s.now := by
  simp [State.setSafe, apply_ite State.now]

@[simp] theorem State.showSet_now (a b : _) : (s.showSet a b).now = s.now := by
  unfold State.showSet
  dsimp only
  refine (foldl_now _ fun s k => ?_).trans ((foldl_now _ fun s k => ?_).trans ((foldl_now _ fun s k => ?_).trans ?_))
  · split <;> simp
  all_goals simp

/-! ## Machine/SafeProgram.lean -/

@[simp] theorem State.setConn_now (a b : _) : (s.setConn a b).now = s.now := rfl

@[simp] theorem State.setEsc_now (a b : _) : (s.setEsc a b).now = s.now := by
  simp [State.setEsc, apply_ite State.now]

@[simp] theorem State.safetyStop_now (a : _) : (s.safetyStop a).now = s.now := by
  simp [State.safetyStop, apply_ite State.now]

@[simp] theorem State.escStart_now : s.escStart.now = s.now := by
  unfold State.escStart
  refine foldl_now _ fun s k => ?_
  split <;> simp

@[simp] theorem State.safetyStart_now : s.safetyStart.now = s.now := by
  unfold State.safetyStart
  dsimp only
  rw [State.escStart_now, State.setSafe_now, State.wr_now, foldl_now _ fun s k => State.wr_now .., foldl_now _ fun s k => State.wr_now ..]

@[simp] theorem State.safetyConfigure_now : s.safetyConfigure.now = s.now := by
  simp [State.safetyConfigure, apply_ite State.now]

@[simp] theorem State.htEnd_now (a b : _) : (s.htEnd a b).now = s.now := by simp [State.htEnd]

@[simp] theorem State.channelOut_now (a : _) : (s.channelOut a).now = s.now := by
  simp [State.channelOut, apply_ite State.now]

@[simp] theorem State.effSafetyReset_now (a b : _) : (s.effSafetyReset a b).now = s.now := by
  simp [State.effSafetyReset, apply_ite State.now]

@[simp] theorem State.effHtStart_now (a b : _) : (s.effHtStart a b).now = s.now := by
  simp [State.effHtStart, apply_ite State.now]

@[simp] theorem State.effSpsData_now (a : _) : (s.effSpsData a).now = s.now := by simp [State.effSpsData]

@[simp] theorem State.logSps_now (a b c : _) : (s.logSps a b c).now = s.now := by simp [State.logSps]

@[simp] theorem State.effSpsCommit_now (a b : _) : (s.effSpsCommit a b).now = s.now := by
  unfold State.effSpsCommit
  dsimp only
  repeat' split
  all_goals simp

/-! ## Machine/Checkpoint.lean -/

@[simp] theorem State.pairCommit_now (a : _) : (s.pairCommit a).now = s.now := rfl

/-! ## Machine/FrameSched.lean -/

@[simp] theorem State.setBoard_now (a b : _) : (s.setBoard a b).now = s.now := rfl

@[simp] theorem State.issueId_fst_now (a : _) : (s.issueId a).1.now = s.now := rfl

@[simp] theorem State.effMoveBatch_now (a b : _) : (s.effMoveBatch a b).now = s.now := by simp [State.effMoveBatch]

@[simp] theorem State.effSolveRequest_now (a b : _) : (s.effSolveRequest a b).now = s.now := by simp [State.effSolveRequest]

@[simp] theorem State.effSolveAbort_now (a b : _) : (s.effSolveAbort a b).now = s.now := by simp [State.effSolveAbort]

@[simp] theorem State.decideSolveAbort_now (a b c d : _) : (s.decideSolveAbort a b c d).now = s.now := by
  simp [State.decideSolveAbort, apply_ite State.now]

@[simp] theorem State.freeHome_now (a : _) : (s.freeHome a).now = s.now := by
  simp [State.freeHome, apply_ite State.now]

@[simp] theorem State.settleQueue_now (a : _) : (s.settleQueue a).now = s.now := by
  simp [State.settleQueue, apply_ite State.now]

@[simp] theorem State.unreserve_now (a : _) : (s.unreserve a).now = s.now := rfl

@[simp] theorem State.keepOutcome_now (a : _) : (s.keepOutcome a).now = s.now := rfl

@[simp] theorem State.endRequest_now (a b c d e : _) : (s.endRequest a b c d e).now = s.now := by
  unfold State.endRequest
  simp -implicitDefEqProofs [apply_ite State.now]
  cases c <;> simp -implicitDefEqProofs

@[simp] theorem State.endWaiting_now (a b c : _) : (s.endWaiting a b c).now = s.now := by simp [State.endWaiting]

@[simp] theorem State.homeChanged_now (a b c : _) : (s.homeChanged a b c).now = s.now := by simp [State.homeChanged]

@[simp] theorem State.chooseHome_now (a : _) : (s.chooseHome a).now = s.now := by
  unfold State.chooseHome
  dsimp only
  repeat' split
  all_goals simp

@[simp] theorem State.clearRecord_now (a : _) : (s.clearRecord a).now = s.now := rfl

@[simp] theorem State.makeResident_now (a b c : _) : (s.makeResident a b c).now = s.now := by simp [State.makeResident]

@[simp] theorem State.effLoadData_now (a : _) : (s.effLoadData a).now = s.now := by simp [State.effLoadData]

@[simp] theorem State.effLoadClear_now : s.effLoadClear.now = s.now := rfl

@[simp] theorem State.keepBoard_now (a b : _) : (s.keepBoard a b).now = s.now := rfl

@[simp] theorem State.placeBoard_now (a b : _) : (s.placeBoard a b).now = s.now := by
  simp [State.placeBoard, apply_ite State.now]

@[simp] theorem State.effLoadCommit_now : s.effLoadCommit.now = s.now := by
  simp [State.effLoadCommit, apply_ite State.now]

@[simp] theorem State.effUnload_now (a : _) : (s.effUnload a).now = s.now := rfl

@[simp] theorem State.effSolveStats_now (a : _) : (s.effSolveStats a).now = s.now := by
  rw [State.effSolveStats, State.wr_now, State.clear_now]

@[simp] theorem State.effBeadStats_now (a : _) : (s.effBeadStats a).now = s.now := rfl

/-! ## Machine/TallyLoop.lean -/

@[simp] theorem State.setLoop_now (a b : _) : (s.setLoop a b).now = s.now := rfl

/-! ## Machine/Ledger.lean -/

@[simp] theorem State.setLedger_now (a : _) : (s.setLedger a).now = s.now := rfl

@[simp] theorem State.showLedger_now : s.showLedger.now = s.now := by simp [State.showLedger]

@[simp] theorem State.appendRec_now (a b c d e : _) : (s.appendRec a b c d e).now = s.now := rfl

@[simp] theorem State.closeBook_now : s.closeBook.now = s.now := rfl

@[simp] theorem State.ownRec_now (a b c : _) : (s.ownRec a b c).now = s.now := by
  simp [State.ownRec, apply_ite State.now]

@[simp] theorem State.commitClock_now (a : _) : (s.commitClock a).now = s.now := by simp [State.commitClock]

@[simp] theorem State.nextSeg_now (a : _) : (s.nextSeg a).now = s.now := by
  simp [State.nextSeg, apply_ite State.now]

@[simp] theorem State.sealSeg_now (a : _) : (s.sealSeg a).now = s.now := by simp [State.sealSeg]

@[simp] theorem State.roomFor_now (a b : _) : (s.roomFor a b).now = s.now := by
  simp [State.roomFor, apply_ite State.now]

@[simp] theorem State.commitIn_now (a b c d e f : _) : (s.commitIn a b c d e f).now = s.now := by
  simp [State.commitIn, apply_ite State.now]

@[simp] theorem State.commitRec_now (a b c d : _) : (s.commitRec a b c d).now = s.now := by simp [State.commitRec]

@[simp] theorem State.openBook_now : s.openBook.now = s.now := by
  simp [State.openBook, apply_ite State.now]

@[simp] theorem State.clearRing_now (a : _) : (s.clearRing a).now = s.now := by simp [State.clearRing]

/-! ## Machine/Twin.lean -/

@[simp] theorem State.logTwin_now (a b : _) : (s.logTwin a b).now = s.now := by
  simp [State.logTwin, apply_ite State.now]

@[simp] theorem State.showTwin_now : s.showTwin.now = s.now := by
  simp [State.showTwin, apply_ite State.now]

@[simp] theorem State.mirror_now (a : _) : (s.mirror a).now = s.now := by
  simp [State.mirror, apply_ite State.now]

@[simp] theorem State.mirrorForces_now : s.mirrorForces.now = s.now := by simp [State.mirrorForces]

@[simp] theorem State.castleStart_fst_now (a : _) : (s.castleStart a).1.now = s.now := by
  unfold State.castleStart
  split <;> simp

@[simp] theorem State.castleRequest_now (a : _) : (s.castleRequest a).now = s.now := by
  simp [State.castleRequest, apply_ite State.now]

@[simp] theorem State.effRejoin_now (a : _) : (s.effRejoin a).now = s.now := by
  simp [State.effRejoin, apply_ite State.now]

@[simp] theorem State.effProof_now (a b : _) : (s.effProof a b).now = s.now := by
  simp [State.effProof, apply_ite State.now]

@[simp] theorem State.effTwinStats_now : s.effTwinStats.now = s.now := rfl

/-! ## Machine/TallyFrame.lean -/

@[simp] theorem State.effBankSelect_now (a b : _) : (s.effBankSelect a b).now = s.now := by
  simp [State.effBankSelect, apply_ite State.now]

@[simp] theorem State.noteParam_now (a b : _) : (s.noteParam a b).now = s.now := by
  simp [State.noteParam, apply_ite State.now]

@[simp] theorem State.effBankCopy_now (a b : _) : (s.effBankCopy a b).now = s.now := by
  unfold State.effBankCopy
  split <;> simp

@[simp] theorem State.effLoopStats_now (a : _) : (s.effLoopStats a).now = s.now := by
  simp [State.effLoopStats, apply_ite State.now]

@[simp] theorem State.effTallyStats_now : s.effTallyStats.now = s.now := rfl

/-! ## Machine/Archive.lean -/

@[simp] theorem State.rejectArchive_now (a b : _) : (s.rejectArchive a b).now = s.now := by simp [State.rejectArchive]

/-! ## Machine/Online.lean -/

@[simp] theorem State.effStageData_now (a : _) : (s.effStageData a).now = s.now := by simp [State.effStageData]

@[simp] theorem State.effStageCheck_now (a : _) : (s.effStageCheck a).now = s.now := by
  simp [State.effStageCheck, apply_ite State.now]

@[simp] theorem State.applyArchive_now (a : _) : (s.applyArchive a).now = s.now := by
  unfold State.applyArchive
  split <;> simp [apply_ite State.now]

@[simp] theorem State.effStageApply_now : s.effStageApply.now = s.now := by simp [State.effStageApply]

@[simp] theorem State.effRevert_now : s.effRevert.now = s.now := by simp [State.effRevert]

/-! ## Machine/Doubles.lean -/

@[simp] theorem State.effInject_now (a : _) : (s.effInject a).now = s.now := by
  simp [State.effInject, apply_ite State.now]

@[simp] theorem State.effPairStats_now (a : _) : (s.effPairStats a).now = s.now := rfl

/-! ## Machine/Slate.lean -/

@[simp] theorem State.setSlate_now (a : _) : (s.setSlate a).now = s.now := rfl

@[simp] theorem State.setPanel_now (a : _) : (s.setPanel a).now = s.now := by
  simp [State.setPanel, apply_ite State.now]

@[simp] theorem State.showSlate_now : s.showSlate.now = s.now := rfl

@[simp] theorem State.updEnd_now (a b : _) : (s.updEnd a b).now = s.now := by
  simp [State.updEnd, apply_ite State.now]

@[simp] theorem State.whiteReset_now (a : _) : (s.whiteReset a).now = s.now := by
  simp [State.whiteReset, apply_ite State.now]

@[simp] theorem State.panelStep_now (a : _) : (s.panelStep a).now = s.now := by
  unfold State.panelStep
  split <;> simp [apply_ite State.now]

@[simp] theorem State.setSeq_now (a : _) : (s.setSeq a).now = s.now := rfl

@[simp] theorem State.takeStep_now (a : _) : (s.takeStep a).now = s.now := by simp [State.takeStep]

@[simp] theorem State.takeSteps_now (l : List (Nat × PanelStep)) : (State.takeSteps l s).now = s.now := by
  induction l generalizing s with
  | nil => rfl
  | cons p rest ih =>
    unfold State.takeSteps
    split
    · simp
    · split <;> simp [ih]

@[simp] theorem State.startSeq_now (a : _) : (s.startSeq a).now = s.now := by
  unfold State.startSeq
  split <;> simp [apply_ite State.now]

@[simp] theorem State.panelUp_now : s.panelUp.now = s.now := by
  simp [State.panelUp, apply_ite State.now]

@[simp] theorem State.cutPending_now : s.cutPending.now = s.now := by simp [State.cutPending]

@[simp] theorem State.panelDown_now : s.panelDown.now = s.now := by
  simp [State.panelDown, apply_ite State.now]

@[simp] theorem State.afterSeq_now : s.afterSeq.now = s.now := by
  simp [State.afterSeq, apply_ite State.now]

@[simp] theorem State.effPanelEnable_now (a : _) : (s.effPanelEnable a).now = s.now := by
  simp [State.effPanelEnable, apply_ite State.now]

@[simp] theorem State.effPanelType_now : s.effPanelType.now = s.now := by
  simp [State.effPanelType, apply_ite State.now]

@[simp] theorem State.effDraw_now (a : _) : (s.effDraw a).now = s.now := by simp [State.effDraw]

@[simp] theorem State.abandonKeys_now : s.abandonKeys.now = s.now := by
  unfold State.abandonKeys
  refine (foldl_now _ fun s k => ?_).trans (foldl_now _ fun s k => ?_)
  all_goals split <;> simp

@[simp] theorem State.serviceLeave_now : s.serviceLeave.now = s.now := by
  simp [State.serviceLeave, apply_ite State.now]

@[simp] theorem State.effPanelStats_now : s.effPanelStats.now = s.now := rfl

/-! ## Machine/Power.lean -/

@[simp] theorem State.setSlot_now (a b : _) : (s.setSlot a b).now = s.now := rfl

@[simp] theorem State.effFwData_now (a : _) : (s.effFwData a).now = s.now := rfl

@[simp] theorem State.effFwCheck_now (a : _) : (s.effFwCheck a).now = s.now := by
  simp [State.effFwCheck, apply_ite State.now]

/-! ## Machine/Dictionary.lean -/

@[simp] theorem State.reached_now (a b : _) : (s.reached a b).now = s.now := by
  unfold State.reached
  split <;> simp [apply_ite State.now]

@[simp] theorem State.rejectedClear_now (a : _) : (s.rejectedClear a).now = s.now := by simp [State.rejectedClear]

@[simp] theorem State.storeValue_now (a b : _) : (s.storeValue a b).now = s.now := by
  unfold State.storeValue
  split <;> simp [apply_ite State.now]

@[simp] theorem State.writeReader_now (a b c : _) : (s.writeReader a b c).now = s.now := by
  unfold State.writeReader
  split <;> simp [apply_ite State.now]

@[simp] theorem State.effRuntimeCommand_now (a : _) : (s.effRuntimeCommand a).now = s.now := by
  simp [State.effRuntimeCommand, apply_ite State.now]

@[simp] theorem State.effRuntime_now (a b c d e : _) : (s.effRuntime a b c d e).now = s.now := by
  unfold State.effRuntime
  repeat' split
  all_goals simp

@[simp] theorem State.effFrameEntry_now (a b c d : _) : (s.effFrameEntry a b c d).now = s.now := by
  unfold State.effFrameEntry
  repeat' split
  all_goals simp

@[simp] theorem State.effTally_now (a b c : _) : (s.effTally a b c).now = s.now := by
  unfold State.effTally
  repeat' split
  all_goals simp

@[simp] theorem State.effTime_now (a b c : _) : (s.effTime a b c).now = s.now := by
  unfold State.effTime
  split
  · dsimp only
    split <;> simp -implicitDefEqProofs [apply_ite State.now]
  · simp -implicitDefEqProofs [apply_ite State.now]

@[simp] theorem State.effNet_now (a b c d : _) : (s.effNet a b c d).now = s.now := by
  unfold State.effNet
  repeat' split
  all_goals simp

@[simp] theorem State.effCan_now (a b c d : _) : (s.effCan a b c d).now = s.now := by
  unfold State.effCan
  repeat' split
  all_goals simp [apply_ite State.now]

@[simp] theorem State.effField_now (a b c d e : _) : (s.effField a b c d e).now = s.now := by
  unfold State.effField
  repeat' split
  all_goals simp

@[simp] theorem State.effSystem_now (a b c d e : _) : (s.effSystem a b c d e).now = s.now := by
  unfold State.effSystem
  repeat' split
  all_goals simp

@[simp] theorem State.refuseWrite_now (a b c d : _) : (s.refuseWrite a b c d).now = s.now := by
  simp [State.refuseWrite, apply_ite State.now]

end

end Sys2Proof.Machine
end

section
/-!
SUPPORT. A write that leaves the module running leaves TB3 as it was (R268); what resets it makes a start due (Table PWR-10).
-/
namespace Sys2Proof.Machine

/-- From `s` to `t` TB3 stands, unless a start is due. -/
def StandsOrStarts (s t : State) : Prop := t.power.boot = none → t.now = s.now

section
variable {s t u : State}

theorem StandsOrStarts.of_now (h : t.now = s.now) : StandsOrStarts s t := fun _ => h

theorem StandsOrStarts.of_boot (h : t.power.boot ≠ none) : StandsOrStarts s t := fun hb => absurd hb h

theorem StandsOrStarts.trans (h : StandsOrStarts s t) (hnow : u.now = t.now) (hpower : u.power = t.power) : StandsOrStarts s u :=
  fun hb => hnow.trans (h (hpower ▸ hb))

theorem State.effModule_stands (w : Writer) (i sub n : Nat) (b : List Byte) : StandsOrStarts s (s.effModule w i sub n b) := by
  unfold State.effModule
  split
  case h_1 => exact .of_boot (by simp [State.effRestart, State.logicReset])
  case h_6 => exact .of_boot (by simp [State.effRestore, State.logicReset])
  case h_9 => exact .of_boot (by simp [State.effFwActivate, State.logicReset])
  all_goals exact .of_now (by simp)

theorem State.effOwner_stands (w : Writer) (key : Nat) (v : Value) : StandsOrStarts s (s.effOwner w key v) := by
  unfold State.effOwner
  dsimp only
  split
  · exact State.effModule_stands _ _ _ _ _
  · exact .of_now (by simp -implicitDefEqProofs [apply_ite State.now])

theorem State.commitWrite_stands (w : Writer) (key : Nat) (v : Value) : StandsOrStarts s (s.commitWrite w key v) := by
  have howner : StandsOrStarts s (((s.reached key v).storeValue key v).effOwner w key v) := fun hb =>
    (State.effOwner_stands w key v hb).trans (by simp)
  exact howner.trans (State.mirrored_now _) (State.mirrored_moves.1.2 .power (by decide))

theorem State.write_stands (w : Writer) (key : Nat) (ty : Option Ty) (v : Option Value) : StandsOrStarts s (s.write w key ty v).1 := by
  unfold State.write
  dsimp only
  split
  · split
    · refine (State.commitWrite_stands w key _).trans State.servicesCommit_now ?_
      rw [State.servicesCommit_eq]
    · exact .of_now (by simp)
  · exact .of_now rfl
  · exact .of_now rfl

end

end Sys2Proof.Machine
end

section
/-!
O8. WRITE (R49, R64): it does what the write of its entry does, and answers that status; then the statement.
-/
namespace Sys2Proof.Machine

section
variable {s : State} {at_ : Nat} {o : Origin} {d : List Byte} {q : EopReq} {y : Session} {ty : Ty} {x : State × Nat}

theorem write_completes (hq : eopParse d = some q) (h : s.admits at_ o 0x02 d q) (hlen : q.payload.length = 6 + beAt q.payload 4 2)
    (hmax : beAt q.payload 4 2 ≤ 1024) (hty : codeTy (beAt q.payload 3 1) = some ty) (hy : s.session q.session = some y)
    (hx : x = (s.admitted at_ o d q).write y.writer (keyAt q.payload 0) (some ty) (beValue ty (q.payload.drop 6)))
    (hboot : x.1.power.boot = none)
    (habort : abortOf (s.admitted at_ o d q) x.1 (keyAt q.payload 0) ((beValue ty (q.payload.drop 6)).getD (.num 0)) = none)
    (hses : x.1.eop.sessions = (s.admitted at_ o d q).eop.sessions) (hwait : x.1.mirrorWait (s.admitted at_ o d q) = none) :
    Completes (.write at_ o d) s (fun t => t.reply q = some (x.2, []) ∧ t.now = s.instant at_ ∧ AnswersOnly x.1 t) := by
  have hnow : x.1.now = (s.admitted at_ o d q).now := by
    subst hx
    exact State.write_stands _ _ _ _ hboot
  have hserve : (s.admitted at_ o d q).svcWrite { r := .session q.session, w := y.writer } q.payload = (x.1, ans x.2) := by
    rw [State.svcWrite_of_fields hlen hmax, State.writeBytes]
    simp only [hty, Option.bind_some, ← hx, habort, ite_self, ans]
  rw [← State.serve_write, ← Session.client_admittedAs hy q.sequence (s.instant at_)] at hserve
  have hfind : x.1.session q.session = (s.admitted at_ o d q).session q.session := by rw [State.session, hses, State.session]
  obtain ⟨t, ht, hans⟩ := State.served_of_admits hq h hy (by decide) (.inr (by decide)) hserve hboot rfl hwait
    (hfind.trans (State.session_admitted h hy))
  exact ⟨t, congrArg Host.Outcome.next ht, hans.reply, hans.now.trans (hnow.trans (State.admitted_now h hy)), hans.frame⟩

end

/-- Settles O8: each service by its own lemma; the requests that read or keep a transfer change their session alone, WRITE is the write
of its entry, then the answer. -/
theorem dictionaryServicesOfASession : Obligations.DictionaryServicesOfASession := by
  refine ⟨fun s at_ o d q hq h hlen hzero r he hacc hv b hb hmax hkey => read_completes hq h hlen hzero he hacc hv hb hmax hkey,
    fun s at_ o d q hq h hlen hzero x hx hbad => ?_,
    fun s at_ o d q hq h hport hlen hzero r he hacc hv hkey b hb hmax => read_plain_completes hq h hport hlen hzero he hacc hv hkey hb hmax,
    fun s at_ o d q hq h n h1 h32 hhead hlen hzero => readMulti_completes hq h h1 h32 hhead hlen hzero,
    fun s at_ o d q hq h hhead hlen hzero r he hacc hv b hb hmax hkey => readMulti_one_completes hq h hhead hlen hzero he hacc hv hb hmax hkey,
    fun s at_ o d q hq h hlen hzero x he => describe_completes hq h hlen hzero he,
    fun s at_ o d q hq h hst hbase y hy hlevel n hlo hhi hp => writeIdle_completes hq h hst hbase hy hlevel hlo hhi hp,
    fun s at_ o d q hq h hlen hmax ty hty y hy u hu x hx hboot habort hses hwait => ?_,
    fun s at_ o d q hq h hlen hzero r he hacc hv b hb hkey => segReadStart_completes hq h hlen hzero he hacc hv hb hkey,
    fun s at_ o d q hq h hlen hzero x htr hread hfresh hk => segReadPart_completes hq h hlen hzero htr hread hfresh hk,
    fun s at_ o d q hq h hlen ty hty y hy hform htot => segWriteStart_completes hq h hlen hty hy hform htot,
    fun s at_ o d q hq h x htr hwrite hfresh hlen hsize hk hseg hmore => segWritePart_completes hq h htr hwrite hfresh hlen hsize hk hseg hmore,
    fun s at_ o d q hq h hp x htr hfresh => segAbort_completes hq h hp htr hfresh⟩
  case _ =>
    subst hx
    exact read_refused_completes hq h hlen hzero hbad
  case _ =>
    subst hu
    exact write_completes hq h hlen hmax hty hy hx hboot habort hses hwait

end Sys2Proof.Machine
end

section
/-!
O7. The releases of a task (R86).
-/
namespace Sys2Proof.Machine

section
variable {s : State} {n now : Nat} {a : TaskAttr}

theorem isRelease_iff : isRelease now a = true ↔ a.period ≠ 0 ∧ now % (1000 * a.period) = 1000 * a.phase := by
  simp [isRelease]

@[simp] theorem State.task_setTask_self (s : State) (n : Nat) (x : RtTask) : (s.setTask n x).task n = x := by
  simp [State.task, State.setTask]

theorem State.taskRelease_of_no_release (ha : (s.task n).attr = some a) (hrel : isRelease s.now a = false) : s.taskRelease n = s := by
  simp [State.taskRelease, ha, hrel]

/-- The turn that a release of task `n` starts, its snapshot frozen (R89). -/
def State.releasedTurn (s : State) (n : Nat) : Turn :=
  { snap := s.snapshot n, first := (s.task n).first, skipped := (s.task n).skipped, lastRelease := s.rd (E.Task.LAST_RELEASE n) }

/-- In RUN a release of a task without a turn starts one on a running pair (R86, R89). -/
theorem State.taskRelease_of_free (ha : (s.task n).attr = some a) (hrel : isRelease s.now a = true) (hrun : s.rd E.Run.RUNTIME_MODE = 0)
    (hpend : s.rd E.Run.STOP_PENDING = 0) (hres : s.resumed = true) (hact : s.active = true) (hpair : s.rd (E.Dbl.PAIR_STATE a.pair) = 1)
    (hfree : (s.task n).turn = none) :
    s.taskRelease n = (s.setTask n { s.task n with turn := some (s.releasedTurn n), skipped := 0 }).wrT (E.Task.LAST_RELEASE n) s.now := by
  simp [State.taskRelease, State.releasing, State.isStop, State.isHold, State.on, State.pairRuns, State.releasedTurn, ha, hrel, hrun, hpend, hres,
    hact, hpair, hfree]

/-- PERIOD is a multiple of 250 us and PHASE of 50 us (Table RUN-1), so a release is a frame boundary (R30, R86). -/
theorem boundary_of_isRelease (hok : taskOk a = true) (hrel : isRelease now a = true) : now % 50000 = 0 := by
  obtain ⟨-, hnow⟩ := isRelease_iff.1 hrel
  have hattr : a.period % 250 = 0 ∧ a.phase % 50 = 0 := by
    simp only [taskOk, Bool.and_eq_true, beq_iff_eq] at hok
    tauto
  have hdvd : 50000 ∣ 1000 * a.period := by omega
  rw [← Nat.mod_mod_of_dvd now hdvd, hnow]
  omega

/-- An archive that passes the checks of a load has its tasks in the ranges of Table RUN-1 (R85). -/
theorem State.taskOk_of_archiveCheck {b : Archive} (h : s.archiveCheck b = 0) : ∀ x ∈ b.tasks, taskOk x = true := by
  by_contra hbad
  have hall : b.tasks.all taskOk = false := by simpa using hbad
  simp [State.archiveCheck, hall] at h

end

/-- Settles O7: `taskRelease` starts a turn at a release and is idle at any other instant; the checks of a load put releases on boundaries. -/
theorem releasesOfTasks : Obligations.ReleasesOfTasks := by
  unfold Obligations.ReleasesOfTasks
  refine ⟨fun s at_ n a ha hperiod hinst hrun hpend hres hact hpair hfree => ?_, fun s at_ n a ha hinst => ?_,
    fun s b n hcheck x hx hrel => boundary_of_isRelease (State.taskOk_of_archiveCheck hcheck x hx) hrel⟩
  case _ =>
    have hstep := State.taskRelease_of_free (s := s.advance at_) ha (isRelease_iff.2 ⟨hperiod, hinst⟩) hrun hpend hres hact hpair hfree
    refine ⟨_, congrArg Host.Outcome.next hstep, ?_, rfl, ((Frame.refl ..).advance.with_rt (by simp)).wrT (by simp)⟩
    rw [show ∀ (x : State) (e : Ent) (t : Int), (x.wrT e t).task n = x.task n from fun _ _ _ => rfl, State.task_setTask_self]
    rfl
  case _ =>
    have hidle : isRelease (s.advance at_).now a = false := Bool.eq_false_iff.2 fun hrel => hinst (isRelease_iff.1 hrel).2
    exact ⟨_, congrArg Host.Outcome.next (State.taskRelease_of_no_release ha hidle), rfl, (Frame.refl ..).advance⟩

end Sys2Proof.Machine
end

section
/-!
O17. Removing an orphaned force (R112). Where an online change has deleted the writer of a forced output point, the removal of the force
frees the point, which takes its SAFE value at the next frame boundary: the runtime notes the point. The statement lets a removal touch the
slot and the retained partition alone, and the runtime is not among the parts that it names.
-/
namespace Sys2Proof.Machine

/-- A module in operation under archive `a`, ACTIVE with its services on pair 0, which runs; in STOP. -/
def inOperation (a : Archive) : State :=
  let s := { State.reset with power := { State.reset.power with boot := none }, rt := { State.reset.rt with archive := some a } }
  (((s.wr E.Id.MODULE_STATE 1).wr E.Twin.TWIN_ROLE 0).wr E.Dbl.SERVICES_PAIR 0).wr (E.Dbl.PAIR_STATE 0) 1

end Sys2Proof.Machine
namespace Sys2Proof.Machine.OrphanedForce

/-- The application's dictionary port, at the Engineer level that its archive gives it (R56). -/
def writer : Writer := { level := .engineer, node := 0x40000 }

/-- Digital output 0. -/
def point : Nat := pointId 2 0

/-- An archive that declares the point without a writer. -/
def archive : Archive := { release := 0x0302, id := 5, portLevel := .engineer, points := [{ point := point, writer := none, kind := 0 }] }

/-- Slot 0 holds an active force on the point. -/
def state : State := ((inOperation archive).wr (E.Force.FORCE_POINT 0) point).wr (E.Force.FORCE_ACTIVE 0) 1

theorem orphaned : state.forceState 0 = 3 := by decide +kernel

theorem accepts : state.accepts 0 writer (E.Force.FORCE_ACTIVE 0).key .bool (.num 0) := by
  unfold State.accepts
  decide +kernel

end Sys2Proof.Machine.OrphanedForce
namespace Sys2Proof.Machine

section
variable {s : State} {f node at_ : Nat} {w : Writer}

/-- An entry whose effect stores it is not stored before. -/
theorem State.storeValue_selfStored {key : Nat} {v : Value} (hx : key / 256 < 0x8000) (hs : selfStored key = true) : s.storeValue key v = s := by
  unfold State.storeValue
  split
  · rfl
  · rw [if_neg (Nat.not_le.2 hx), if_pos hs]

theorem State.on_of_orphaned (h : s.forceState f = 3) : s.on (E.Force.FORCE_ACTIVE f) = true := by
  cases hon : s.on (E.Force.FORCE_ACTIVE f) with
  | true => rfl
  | false =>
    simp only [State.forceState, hon] at h
    split at h
    · cases h
    · split at h <;> simp at h

/-- The removal of an orphaned force frees its point (R112). -/
theorem State.effForceActive_orphaned_rt (h : s.forceState f = 3) :
    (s.effForceActive f 0 node).rt = { s.rt with freed := s.forcePoint f :: s.rt.freed } := by
  simp [State.effForceActive, State.logForce, h, State.on_of_orphaned h]

theorem State.servicesCommit_rt (s : State) : s.servicesCommit.rt = s.rt := by rw [State.servicesCommit_eq]

theorem State.mirrored_rt (s : State) (key : Nat) : (s.mirrored key).rt = s.rt := by
  have hframe : Frame [.free, .twin, .ledger] retainEnts [28, 31] s (s.mirrored key) :=
    (Frame.refl ..).mirrored (by simp) (by simp) (by simp [retainEnts])
  exact hframe.2.1 .rt (by decide)

/-- An accepted removal of the orphaned force of slot 0 leaves its point freed. -/
theorem State.writeStep_orphaned_rt (ha : s.accepts at_ w (E.Force.FORCE_ACTIVE 0).key .bool (.num 0)) (h : s.forceState 0 = 3) :
    ((s.advance at_).writeStep w (E.Force.FORCE_ACTIVE 0).key .bool (.num 0)).rt = { s.rt with freed := s.forcePoint 0 :: s.rt.freed } := by
  have heffect : (s.advance at_).effOwner w (E.Force.FORCE_ACTIVE 0).key (.num 0) = (s.advance at_).effForceActive 0 0 w.node := rfl
  have hreached : (s.advance at_).reached (E.Force.FORCE_ACTIVE 0).key (.num 0) = s.advance at_ := rfl
  rw [State.writeStep_of_accepts ha fun _ => rfl, State.commitWrite, hreached, State.storeValue_selfStored (by decide) (by decide), heffect]
  exact (State.servicesCommit_rt _).trans ((State.mirrored_rt ..).trans (State.effForceActive_orphaned_rt (s := s.advance at_) h))

end

/-- Refutes O17: removing an orphaned force adds its point to the freed points of the runtime, outside the frame that the statement gives. -/
theorem not_forcesOfImagePoints : ¬ Obligations.ForcesOfImagePoints := by
  unfold Obligations.ForcesOfImagePoints
  rintro ⟨-, -, -, hremove, -⟩
  obtain ⟨t, ht, -, -, -, -, hframe⟩ := hremove OrphanedForce.state 0 0 OrphanedForce.writer (by decide) OrphanedForce.accepts
  obtain rfl : (OrphanedForce.state.advance 0).writeStep OrphanedForce.writer (E.Force.FORCE_ACTIVE 0).key .bool (.num 0) = t := by injection ht
  obtain ⟨-, hparts, -⟩ := hframe
  have hsame : _ = OrphanedForce.state.rt := hparts .rt (by decide)
  rw [State.writeStep_orphaned_rt OrphanedForce.accepts OrphanedForce.orphaned] at hsame
  exact List.cons_ne_self _ _ (congrArg RuntimeSt.freed hsame)

end Sys2Proof.Machine
end

section
/-!
O15. RUN while the front keys run a trim capture (R536). A module in STOP may be in service mode, and its keys may run a capture of R391; a
RUN command leaves STOP, which ends service mode and abandons the capture. The statement lets RUN touch the runtime, the ledger and the
panel, and the field side, where the capture runs, is not among the parts that it names.
-/
namespace Sys2Proof.Machine.KeyCapture

/-- The application's dictionary port (R56). -/
def writer : Writer := { level := .operator, node := 0x40000 }

/-- A capture that the keys started (R391). -/
def capture : AiCapture := { point := 1, node := keyNode, keys := true }

/-- The module in service mode: the keys capture the first point of input 0. -/
def state : State := ((inOperation { release := 0x0302, id := 5 }).wr E.Slate.SERVICE_MODE 1).setAin 0 { capture := some capture }

theorem accepts : state.accepts 0 writer E.Run.RUNTIME_COMMAND.key .u8 (.num 1) := by
  unfold State.accepts
  decide +kernel

/-- RUN abandons the capture. -/
theorem capture_run : (((state.advance 0).writeStep writer E.Run.RUNTIME_COMMAND.key .u8 (.num 1)).ain 0).capture = none
    ∧ (state.ain 0).capture = some capture := by
  decide +kernel

end Sys2Proof.Machine.KeyCapture
namespace Sys2Proof.Machine

/-- Refutes O15: a RUN command that ends service mode abandons the capture of the keys, outside the frame that the statement gives. -/
theorem not_modesOfTheRuntime : ¬ Obligations.ModesOfTheRuntime := by
  unfold Obligations.ModesOfTheRuntime
  rintro ⟨hrun, -⟩
  obtain ⟨t, ht, -, -, -, -, -, -, -, -, -, hframe⟩ := hrun KeyCapture.state 0 KeyCapture.writer KeyCapture.accepts
  obtain rfl : (KeyCapture.state.advance 0).writeStep KeyCapture.writer E.Run.RUNTIME_COMMAND.key .u8 (.num 1) = t := by injection ht
  obtain ⟨-, hparts, -⟩ := hframe
  obtain ⟨habandoned, hheld⟩ := KeyCapture.capture_run
  have hfield : _ = KeyCapture.state.field := hparts .field (by decide)
  rw [State.ain, hfield, ← State.ain, hheld] at habandoned
  exact absurd habandoned (by decide)

end Sys2Proof.Machine
end

section
/-!
O16. The statement holds of every state, also of one that lists a task twice. No run reaches such a state (the runtime stores its tasks by
their number, in rising order), but there the clause of MAX_SKIP fails: every turn that the runtime reads is abandoned, and the second
entry of the list, which no read of the task reaches, still counts as a turn in progress.
-/
namespace Sys2Proof.Machine.ListedTwice

/-- Task 0 on pair 0, released every 1 ms (Table RUN-1). -/
def attr : TaskAttr :=
  { id := 0, pair := 0, period := 1000, phase := 0, priority := 0, wcet := 100, imageIn := 40, imageOut := 40, errorTask := false, maxSkip := 1 }

/-- A turn that one release has passed already. -/
def turn : Turn :=
  { snap := { release := 0, tb0 := 0, tb0State := 0, di := 0, ai := {}, rio := {}, loops := {}, solves := {}, axes := {} }, started := true
    overran := true, skips := 1 }

/-- A module in RUN, ACTIVE with pair 0 running and RESUME given, that lists task 0 twice, each time with the turn in progress. -/
def state : State :=
  let x : RtTask := { attr := some attr, turn := some turn }
  let s := { State.reset with power := { State.reset.power with boot := none, resumeAt := some 0 }
                              rt := { State.reset.rt with tasks := { cells := [(0, x), (0, x)] } } }
  (((s.wr E.Run.RUNTIME_MODE 0).wr E.Twin.TWIN_ROLE 0).wr (E.Dbl.PAIR_STATE 0) 1).wr (E.Task.MAX_SKIP 0) 1

/-- After the release beyond MAX_SKIP the second entry still holds its turn. -/
theorem anyTurn_release : ((state.advance 1000000).taskRelease 0).anyTurn = true := by decide +kernel

end Sys2Proof.Machine.ListedTwice
namespace Sys2Proof.Machine

/-- Refutes O16: where a task is listed twice, a release beyond MAX_SKIP leaves a turn in the list. -/
theorem not_turnsAreReleasedStartedAndCommitted : ¬ Obligations.TurnsAreReleasedStartedAndCommitted := by
  unfold Obligations.TurnsAreReleasedStartedAndCommitted
  rintro ⟨-, -, -, -, hskip, -⟩
  obtain ⟨t, ht, hnone, -⟩ := hskip ListedTwice.state 1000000 0 ListedTwice.attr (by decide +kernel) (by decide +kernel) (by decide +kernel)
    (by decide +kernel) (by decide +kernel) (by decide +kernel) (by decide +kernel) ListedTwice.turn (by decide +kernel) (by decide +kernel)
    (by decide +kernel)
  obtain rfl : (ListedTwice.state.advance 1000000).taskRelease 0 = t := by injection ht
  rw [ListedTwice.anyTurn_release] at hnone
  exact absurd hnone (by decide)

end Sys2Proof.Machine
end

section
/-!
O19. Like O16, the statement holds of every state, also of one that lists a task twice. No run reaches such a state, but there the clauses
of a pair that fails without a twin base do not hold: SAFE_STATE abandons every turn that the runtime reads, and the second entry of the
list, which no read of the task reaches, still counts as a turn in progress.
-/
namespace Sys2Proof.Machine

section
variable {s : State} {at_ d : Nat}

/-- A command about one of the four pairs has its effect at its instant. -/
theorem onPair_of_lt (hd : d < 4) (f : State → State) : onPair at_ d f s = .next (f (s.advance at_)) := by
  simp [onPair, hd]

theorem exec_restartTimeout (hd : d < 4) : exec (.restartTimeout at_ d) s = .next ((s.advance at_).restartTimeout d) :=
  onPair_of_lt hd _

end

end Sys2Proof.Machine
namespace Sys2Proof.Machine.ListedTwice

/-- The module that lists task 0 twice, its pair RESTARTING since TB3 0. -/
def restarting : State := state.wr (E.Dbl.PAIR_STATE 0) 2

/-- After the restart has timed out and the pair has failed, the second entry still holds its turn. -/
theorem anyTurn_restartTimeout : ((restarting.advance 1200004).restartTimeout 0).anyTurn = true := by decide +kernel

end Sys2Proof.Machine.ListedTwice
namespace Sys2Proof.Machine

/-- Refutes O19: where a task is listed twice, a pair that fails at RESTART_TIMEOUT leaves a turn in the list. -/
theorem not_mismatchesRestartAndFailPairs : ¬ Obligations.MismatchesRestartAndFailPairs := by
  unfold Obligations.MismatchesRestartAndFailPairs
  rintro ⟨-, -, -, -, -, -, -, -, htimeout⟩
  obtain ⟨t, ht, -, -, hsafe, -⟩ := htimeout ListedTwice.restarting 1200004 0 (by decide) (by decide +kernel) (by decide +kernel)
  obtain rfl := Host.Outcome.next.inj ((exec_restartTimeout (by decide)).symm.trans ht)
  obtain ⟨-, -, hnone⟩ := hsafe (by decide +kernel) (by decide +kernel)
  rw [ListedTwice.anyTurn_restartTimeout] at hnone
  exact absurd hnone (by decide)

end Sys2Proof.Machine
end

section
/-!
SUPPORT. What the failure of a pair leaves (R130, R138, R139, R140): the entry of a key that is none of those which the abandoned turns, STOP,
SAFE_STATE and the takeover of the services write, the time and the queue; and what SAFE_STATE writes.
-/
namespace Sys2Proof.Machine

section
variable {key : Nat} {s x y : State}

theorem KeepsEntry.trans (h : KeepsEntry key s x) (g : KeepsEntry key x y) : KeepsEntry key s y := by
  obtain ⟨hod, hblocks, hnow, hpending⟩ := h
  obtain ⟨god, gblocks, gnow, gpending⟩ := g
  exact ⟨god.trans hod, gblocks.trans hblocks, gnow.trans hnow, gpending.trans hpending⟩

theorem KeepsEntry.ite {c : Prop} [Decidable c] (h : c → KeepsEntry key s x) (g : ¬c → KeepsEntry key s y) :
    KeepsEntry key s (if c then x else y) := by
  split
  · exact h ‹_›
  · exact g ‹_›

theorem KeepsEntry.foldl {β : Type} {f : State → β → State} {l : List β} (h : KeepsEntry key s x)
    (hf : ∀ (y : State) (b : β), KeepsEntry key s y → KeepsEntry key s (f y b)) : KeepsEntry key s (l.foldl f x) := by
  induction l generalizing x with
  | nil => exact h
  | cons b l ih => exact ih (hf x b h)

theorem KeepsEntry.log {a b : Nat} {p : List Byte} (h : KeepsEntry key s x) (hk : key / 256 ≠ 0x1B1C) :
    KeepsEntry key s (x.log a b p) :=
  h.trans ⟨State.od_find_log a b p hk, by simp, by simp, by simp⟩

theorem KeepsEntry.with_rt {v : RuntimeSt} (h : KeepsEntry key s x) : KeepsEntry key s { x with rt := v } := h
theorem KeepsEntry.with_eop {v : EopSt} (h : KeepsEntry key s x) : KeepsEntry key s { x with eop := v } := h
theorem KeepsEntry.with_safety {v : SafetySt} (h : KeepsEntry key s x) : KeepsEntry key s { x with safety := v } := h

/-- What an entry reads that has no default in the archive. -/
theorem KeepsEntry.rd {e : Ent} (h : KeepsEntry e.key s x) (he : e.arch = false) : x.rd e = s.rd e := by
  simp [State.rd, State.get, State.base, he, h.1]

/-! ## The outputs of SAFE_STATE (R140) -/

theorem KeepsEntry.setAx {a : Nat} {v : AxisSt} (h : KeepsEntry key s x) : KeepsEntry key s (x.setAx a v) := h

theorem KeepsEntry.motionEvt {a kind code code2 ns : Nat} {pos : Int} (h : KeepsEntry key s x) :
    KeepsEntry key s (x.motionEvt a kind code code2 ns pos) := h

theorem KeepsEntry.result {a id code code2 : Nat} (h : KeepsEntry key s x) : KeepsEntry key s (x.result a id code code2) :=
  h.setAx.motionEvt

theorem KeepsEntry.endMove {a code code2 : Nat} (h : KeepsEntry key s x) : KeepsEntry key s (x.endMove a code code2) := by
  unfold State.endMove
  split
  · exact h.result
  · exact h

theorem KeepsEntry.loseValid {a : Nat} (h : KeepsEntry key s x) : KeepsEntry key s (x.loseValid a) := by
  unfold State.loseValid
  exact .ite (fun _ => h) (fun _ => h.setAx.motionEvt)

theorem KeepsEntry.enaOff {a : Nat} (h : KeepsEntry key s x) : KeepsEntry key s (x.enaOff a) := by
  unfold State.enaOff
  exact .ite (fun _ => h.setAx.loseValid) (fun _ => h.setAx)

theorem KeepsEntry.homeEnd {a code cause : Nat} (h : KeepsEntry key s x) : KeepsEntry key s (x.homeEnd a code cause) := by
  unfold State.homeEnd
  split
  · exact h
  · exact h.setAx.loseValid.result

theorem KeepsEntry.dropCmd {a : Nat} {c : MotionCmd} (h : KeepsEntry key s x) : KeepsEntry key s (x.dropCmd a c) := by
  unfold State.dropCmd State.decideAbort
  exact .ite (fun _ => .ite (fun _ => h) (fun _ => h)) (fun _ => h)

theorem KeepsEntry.showAxis {a : Nat} (h : KeepsEntry key s x) : KeepsEntry key s (x.showAxis a) := by
  unfold State.showAxis
  exact .ite (fun _ => h) (fun _ => h.setAx.motionEvt)

theorem KeepsEntry.axesSilence (h : KeepsEntry key s x) : KeepsEntry key s x.axesSilence := by
  unfold State.axesSilence
  refine h.foldl fun y a hy => ?_
  extract_lets ax cleared ended mode
  have hcleared : KeepsEntry key s cleared := hy.setAx.foldl fun z c hz => hz.result.dropCmd
  have hended : KeepsEntry key s ended := .ite (fun _ => hcleared.homeEnd) (fun _ => hcleared.endMove)
  clear_value ended
  refine KeepsEntry.showAxis (.ite (fun _ => ?_) fun _ => .ite (fun _ => ?_) (fun _ => hended.setAx))
  · exact hended.setAx.setAx.loseValid
  · exact (KeepsEntry.ite (fun _ => hended.enaOff) (fun _ => hended)).setAx

theorem KeepsEntry.freePoint {p : Nat} (h : KeepsEntry key s x) : KeepsEntry key s (x.freePoint p) := by
  unfold State.freePoint
  dsimp only
  split <;> exact h

theorem KeepsEntry.setEffective (h : KeepsEntry key s x) : KeepsEntry key s x.setEffective :=
  h.foldl fun _ _ => KeepsEntry.freePoint

theorem KeepsEntry.substituteOutputs {n : Nat} (h : KeepsEntry key s x) : KeepsEntry key s (x.substituteOutputs n) :=
  KeepsEntry.foldl (x := State.setStation ..) h fun _ _ hy => hy

/-! ## Turns, the safety program and the services of a failed pair (R130, R139, R141, R438) -/

/-- Sub-indices of the statistics of a task that an abandoned turn changes (Table RUN-13). -/
def turnSubs : List Nat := [0x0B, 0x0D, 0x0F, 0x10, 0x11]

/-- What a failed pair changes of the runtime, the safety program and the services, beside RUNTIME_MODE. -/
def failEnts : List Ent :=
  [E.Run.HOLD_TASK, E.Run.STOP_CAUSE, E.Run.STOP_PENDING, E.Saf.SAFETY_CAUSE, E.Saf.SAFETY_STATE, E.Dbl.SERVICES_PAIR, E.Auth.SESSIONS_OPEN]

/-- The entry at `key` is none of a task's statistics, of ring 28 or of `failEnts`. -/
def Spared (key : Nat) : Prop := key % 256 ∉ turnSubs ∧ key / 256 ≠ 0x1B1C ∧ ∀ e ∈ failEnts, key ≠ e.key

theorem Spared.ne_turnStat (h : Spared key) {i n : Nat} (hn : n ∈ turnSubs) : key ≠ i * 256 + n := by
  rintro rfl
  have hlt : ∀ m ∈ turnSubs, m < 256 := by decide
  have hsub : (i * 256 + n) % 256 = n := by have := hlt n hn; omega
  exact h.1 (by rwa [hsub])

theorem KeepsEntry.wrFail {e : Ent} {n : Nat} (h : KeepsEntry key s x) (hk : Spared key) (he : e ∈ failEnts := by decide) :
    KeepsEntry key s (x.wr e n) := h.wr (hk.2.2 e he)

theorem KeepsEntry.trimErrors {t : Nat} (h : KeepsEntry key s x) (hk : Spared key) : KeepsEntry key s (x.trimErrors t) :=
  (KeepsEntry.wr (x := State.setTask ..) h (hk.ne_turnStat (by decide))).wr (hk.ne_turnStat (by decide))

theorem KeepsEntry.abandonTurn {t : Nat} (h : KeepsEntry key s x) (hk : Spared key) : KeepsEntry key s (x.abandonTurn t) := by
  unfold State.abandonTurn
  extract_lets task
  split
  · exact h
  · next u _ =>
    extract_lets before cleared exported
    have hexported : KeepsEntry key s exported :=
      KeepsEntry.foldl (x := cleared) h fun y e hy => .ite (fun _ => hy) (fun _ => hy)
    exact (hexported.trimErrors hk).wr (hk.ne_turnStat (by decide))

theorem KeepsEntry.rollBack {t : Nat} (h : KeepsEntry key s x) (hk : Spared key) : KeepsEntry key s (x.rollBack t) := by
  unfold State.rollBack
  split
  · exact h
  · next u _ =>
    extract_lets task released restored
    have hreleased : KeepsEntry key s released := h.wr (hk.ne_turnStat (by decide))
    have hrestored : KeepsEntry key s restored := by
      unfold restored
      split
      · exact hreleased.wr (hk.ne_turnStat (by decide))
      · exact hreleased
    exact hrestored.abandonTurn hk

theorem KeepsEntry.enterStop {cause : Nat} (h : KeepsEntry key s x) (hk : Spared key) (hm : key ≠ E.Run.RUNTIME_MODE.key) :
    KeepsEntry key s (x.enterStop cause) := by
  unfold State.enterStop State.setMode
  extract_lets cleared stopped
  have hstopped : KeepsEntry key s stopped := ((((h.wrFail hk).wrFail hk).wrFail hk).wr hm).log hk.2.1
  exact hstopped.with_rt

theorem KeepsEntry.stopNow {cause : Nat} (h : KeepsEntry key s x) (hk : Spared key) (hm : key ≠ E.Run.RUNTIME_MODE.key) :
    KeepsEntry key s (x.stopNow cause) := by
  unfold State.stopNow
  extract_lets abandoned
  have habandoned : KeepsEntry key s abandoned := h.foldl fun _ _ hy => hy.abandonTurn hk
  exact .ite (fun _ => habandoned) (fun _ => habandoned.enterStop hk hm)

theorem KeepsEntry.settleStop (h : KeepsEntry key s x) (hk : Spared key) (hm : key ≠ E.Run.RUNTIME_MODE.key) :
    KeepsEntry key s x.settleStop := by
  unfold State.settleStop
  exact .ite (fun _ => h.enterStop hk hm) (fun _ => h)

theorem KeepsEntry.abandonPair {d : Nat} (h : KeepsEntry key s x) (hk : Spared key) (hm : key ≠ E.Run.RUNTIME_MODE.key) :
    KeepsEntry key s (x.abandonPair d) := by
  unfold State.abandonPair
  extract_lets held mine freed
  have hfreed : KeepsEntry key s freed := .ite (fun _ => h.wrFail hk) (fun _ => h)
  exact (hfreed.foldl fun _ _ hy => hy.rollBack hk).settleStop hk hm

theorem KeepsEntry.setSafe {n : Nat} (h : KeepsEntry key s x) (hk : Spared key) : KeepsEntry key s (x.setSafe n) := by
  unfold State.setSafe
  exact .ite (fun _ => h) (fun _ => (h.wrFail hk).log hk.2.1)

theorem KeepsEntry.setChn {b : Bool} {c : Chan} (h : KeepsEntry key s x) : KeepsEntry key s (x.setChn b c) := h

theorem KeepsEntry.safetyFail {cause : Nat} (h : KeepsEntry key s x) (hk : Spared key) : KeepsEntry key s (x.safetyFail cause) := by
  unfold State.safetyFail
  extract_lets failed safety ended
  have hfailed : KeepsEntry key s failed := (h.wrFail hk).setSafe hk
  have hended : KeepsEntry key s ended := hfailed.with_safety
  exact hended.setChn.setChn

theorem KeepsEntry.safetyOff (h : KeepsEntry key s x) (hk : Spared key) : KeepsEntry key s x.safetyOff := by
  unfold State.safetyOff
  exact .ite (fun _ => h.safetyFail hk) (fun _ => h.setChn.setChn)

theorem KeepsEntry.safeOutputs (h : KeepsEntry key s x) (hk : Spared key) : KeepsEntry key s x.safeOutputs := by
  unfold State.safeOutputs
  extract_lets effective substituted
  have hsubstituted : KeepsEntry key s substituted := h.setEffective.foldl fun _ _ hy => hy.substituteOutputs
  exact (KeepsEntry.axesSilence (x := State.muteCan _) hsubstituted).safetyOff hk

theorem KeepsEntry.servicesTakeover (h : KeepsEntry key s x) (hk : Spared key) : KeepsEntry key s x.servicesTakeover := by
  unfold State.servicesTakeover
  extract_lets pair next eop emptied
  have hemptied : KeepsEntry key s emptied := h.with_eop
  exact .ite (fun _ => h) (fun _ => ((hemptied.wrFail hk).wrFail hk).log hk.2.1)

/-- The module as SAFE_STATE has stopped the runtime, before its outputs take their safe values (R140). -/
def State.safeStopped (s : State) (cause : Nat) : State :=
  (((s.wr E.Id.MODULE_STATE 3).log 0x01 0x04 (vU8 3)).stopNow cause).wr E.Run.STOP_CAUSE cause

theorem KeepsEntry.enterSafe_of_stopped {cause : Nat} (hs : x.rd E.Id.MODULE_STATE ≠ 3) (hk : Spared key)
    (h : KeepsEntry key s (x.safeStopped cause)) : KeepsEntry key s (x.enterSafe cause) := by
  unfold State.enterSafe
  rw [if_neg hs]
  exact .ite (fun _ => h.with_rt) (fun _ => h.with_rt.safeOutputs hk)

theorem KeepsEntry.enterSafe {cause : Nat} (h : KeepsEntry key s x) (hk : Spared key) (hm : key ≠ E.Run.RUNTIME_MODE.key)
    (hs : key ≠ E.Id.MODULE_STATE.key) : KeepsEntry key s (x.enterSafe cause) := by
  by_cases hsafe : x.rd E.Id.MODULE_STATE = 3
  · unfold State.enterSafe
    rwa [if_pos hsafe]
  · exact .enterSafe_of_stopped hsafe hk ((((h.wr hs).log hk.2.1).stopNow hk hm).wrFail hk)

theorem KeepsEntry.pairSafe (h : KeepsEntry key s x) (hk : Spared key) (hm : key ≠ E.Run.RUNTIME_MODE.key)
    (hs : key ≠ E.Id.MODULE_STATE.key) : KeepsEntry key s x.pairSafe := by
  unfold State.pairSafe
  exact ((h.enterSafe hk hm hs).safetyOff hk).servicesTakeover hk

/-! ## A failed pair (R138, R139) -/

/-- The state as a pair has been declared failed and its turns have been abandoned. -/
def State.pairDown (s : State) (d cause : Nat) : State :=
  (((s.wr (E.Dbl.PAIR_STATE d) 3).wr (E.Dbl.FAIL_CAUSE d) cause).log 0x04 0x04 (vU8 d ++ vU8 cause)).abandonPair d

theorem State.pairFail_eq (s : State) (d cause : Nat) :
    s.pairFail d cause = if ((s.pairDown d cause).castleStart 1).2 then ((s.pairDown d cause).castleStart 1).1
      else (s.pairDown d cause).pairSafe := by
  unfold State.pairFail
  extract_lets failed down
  have hdown : s.pairDown d cause = down := rfl
  rw [hdown]

theorem KeepsEntry.castleStart {cause : Nat} (h : KeepsEntry key s x) : KeepsEntry key s (x.castleStart cause).1 := by
  unfold State.castleStart
  split <;> exact h

theorem KeepsEntry.pairDown {d cause : Nat} (h : KeepsEntry key s x) (hk : Spared key) (hm : key ≠ E.Run.RUNTIME_MODE.key)
    (hp : key ≠ (E.Dbl.PAIR_STATE d).key) (hc : key ≠ (E.Dbl.FAIL_CAUSE d).key) : KeepsEntry key s (x.pairDown d cause) :=
  (((h.wr hp).wr hc).log hk.2.1).abandonPair hk hm

theorem KeepsEntry.pairFail_of_pairDown {d cause : Nat} (h : KeepsEntry key s (x.pairDown d cause)) (hk : Spared key)
    (hm : key ≠ E.Run.RUNTIME_MODE.key) (hs : key ≠ E.Id.MODULE_STATE.key) : KeepsEntry key s (x.pairFail d cause) := by
  rw [State.pairFail_eq]
  exact .ite (fun _ => h.castleStart) (fun _ => h.pairSafe hk hm hs)

/-! ## What a failed pair leaves -/

theorem State.rd_enterStop_mode (cause : Nat) : (s.enterStop cause).rd E.Run.RUNTIME_MODE = 1 := by
  have hafter : KeepsEntry E.Run.RUNTIME_MODE.key
      ((((s.wr E.Run.STOP_CAUSE cause).wr E.Run.STOP_PENDING 0).wr E.Run.HOLD_TASK 0xFF).wr E.Run.RUNTIME_MODE 1) (s.enterStop cause) := by
    unfold State.enterStop State.setMode
    exact ((KeepsEntry.refl ..).log (by decide)).with_rt
  rw [hafter.rd rfl, State.rd_wr_self]
  rfl

theorem State.rd_stopNow_mode (cause : Nat) : (s.stopNow cause).rd E.Run.RUNTIME_MODE = 1 := by
  unfold State.stopNow
  extract_lets abandoned
  split
  next hstop => exact beq_iff_eq.1 hstop
  next => exact State.rd_enterStop_mode cause

theorem spared_modes : Spared E.Run.RUNTIME_MODE.key ∧ Spared E.Id.MODULE_STATE.key ∧ Spared E.Twin.TWIN_POSITION.key := by
  unfold Spared
  decide

theorem State.rd_safeStopped (cause : Nat) :
    (s.safeStopped cause).rd E.Id.MODULE_STATE = 3 ∧ (s.safeStopped cause).rd E.Run.RUNTIME_MODE = 1 := by
  constructor
  · have hafter : KeepsEntry E.Id.MODULE_STATE.key (s.wr E.Id.MODULE_STATE 3) (s.safeStopped cause) :=
      (((KeepsEntry.refl ..).log (by decide)).stopNow spared_modes.2.1 (by decide)).wrFail spared_modes.2.1
    rw [hafter.rd rfl, State.rd_wr_self]
    rfl
  · rw [State.safeStopped, State.rd_wr_ne _ _ _ _ (by decide), State.rd_stopNow_mode]

/-- SAFE_STATE of a failed pair (R139, R140). -/
theorem State.rd_pairSafe (h : s.inSafe = false) : s.pairSafe.rd E.Id.MODULE_STATE = 3 ∧ s.pairSafe.rd E.Run.RUNTIME_MODE = 1 := by
  have hs : s.rd E.Id.MODULE_STATE ≠ 3 := fun hc => by simp [State.inSafe, hc] at h
  have hafter {key : Nat} (hk : Spared key) : KeepsEntry key (s.safeStopped 4) s.pairSafe :=
    ((KeepsEntry.enterSafe_of_stopped hs hk (.refl ..)).safetyOff hk).servicesTakeover hk
  rw [(hafter spared_modes.2.1).rd rfl, (hafter spared_modes.1).rd rfl]
  exact State.rd_safeStopped 4

section
variable {d cause : Nat}

/-- From the declaration on, a failed pair's module holds what the declaration wrote. -/
theorem State.pairFail_keepsEntry (hk : Spared key) (hm : key ≠ E.Run.RUNTIME_MODE.key) (hs : key ≠ E.Id.MODULE_STATE.key) :
    KeepsEntry key ((s.wr (E.Dbl.PAIR_STATE d) 3).wr (E.Dbl.FAIL_CAUSE d) cause) (s.pairFail d cause) :=
  .pairFail_of_pairDown (((KeepsEntry.refl ..).log hk.2.1).abandonPair hk hm) hk hm hs

/-- The declaration of a failed pair leaves the state and the position of the module alone. -/
theorem State.rd_pairDown (hd : d < 4) : (s.pairDown d cause).rd E.Id.MODULE_STATE = s.rd E.Id.MODULE_STATE
    ∧ (s.pairDown d cause).rd E.Twin.TWIN_POSITION = s.rd E.Twin.TWIN_POSITION := by
  have hne : ∀ d < 4, ∀ e ∈ [E.Dbl.PAIR_STATE d, E.Dbl.FAIL_CAUSE d], E.Id.MODULE_STATE.key ≠ e.key ∧ E.Twin.TWIN_POSITION.key ≠ e.key := by
    decide
  obtain ⟨hstate, hposition⟩ := hne d hd _ (.head _)
  obtain ⟨hstate', hposition'⟩ := hne d hd _ (.tail _ (.head _))
  exact ⟨((KeepsEntry.refl ..).pairDown spared_modes.2.1 (by decide) hstate hstate').rd rfl,
    ((KeepsEntry.refl ..).pairDown spared_modes.2.2 (by decide) hposition hposition').rd rfl⟩

/-- A failed pair of a module that is not on a twin base (R139). -/
theorem State.rd_pairFail_alone (hd : d < 4) (ht : s.twinBase = false) (hs : s.inSafe = false) :
    (s.pairFail d cause).rd E.Id.MODULE_STATE = 3 ∧ (s.pairFail d cause).rd E.Run.RUNTIME_MODE = 1 := by
  obtain ⟨hstate, hposition⟩ := State.rd_pairDown (s := s) (cause := cause) hd
  have htwin : (s.pairDown d cause).twinBase = false := by simpa only [State.twinBase, hposition] using ht
  have hsafe : (s.pairDown d cause).inSafe = false := by simpa only [State.inSafe, hstate] using hs
  have hcastle : ((s.pairDown d cause).castleStart 1).2 = false := by simp [State.castleStart, htwin]
  rw [State.pairFail_eq, hcastle, if_neg (by decide)]
  exact State.rd_pairSafe hsafe

end

end
end Sys2Proof.Machine
end

section
/-!
O20. INJECT_TEST_RUN is one accepted write whose effect is the state TESTING; the end of a test without a failure is a chain of stored
entries; a failure is a report that the pair's failure leaves as it stands.
-/
namespace Sys2Proof.Machine

section
variable {s : State} {at_ d : Nat} {w : Writer} {r : InjectFail}

theorem injectTestRun_row : ∃ row : Row, tableRow E.Dbl.INJECT_TEST_RUN.key = some (row, E.Dbl.INJECT_TEST_RUN) ∧ row.acc = .wo
    ∧ row.ret = .volatile ∧ row.ty = .u8 ∧ row.cond = 1 ∧ row.range = .u 1 3 1 := ⟨_, rfl, rfl, rfl, rfl, rfl, rfl⟩

theorem State.commitWrite_injectTestRun (hb : s.power.bare = false) :
    s.commitWrite w E.Dbl.INJECT_TEST_RUN.key (.num d) = s.effInject d := by
  obtain ⟨row, hrow, hacc, hret, -⟩ := injectTestRun_row
  have he := State.entryAt_of_tableRow (s := s) hb (by decide) (by decide) (by decide) hrow
  have hreached : s.reached E.Dbl.INJECT_TEST_RUN.key (.num d) = s := rfl
  have heffect : s.effOwner w E.Dbl.INJECT_TEST_RUN.key (.num d) = s.effInject d := rfl
  rw [State.commitWrite, hreached, State.storeValue_command he (by decide) (by simp [hret]) (by simp [hacc]), heffect]
  simp [State.mirrored, retainedKey, hrow, hret]

theorem State.chkStore_injectTestRun (hb : s.power.bare = false) : s.chkStore w E.Dbl.INJECT_TEST_RUN.key (.num d)
    = firstBad [need (inRange (.u 1 3 1) .u8 (.num d)) stRange, need s.stopMet stMode, s.chkInject d] := by
  obtain ⟨row, hrow, -, -, hty, hcond, hrange⟩ := injectTestRun_row
  have he := State.entryAt_of_tableRow (s := s) hb (by decide) (by decide) (by decide) hrow
  have howner : s.chkOwner w E.Dbl.INJECT_TEST_RUN.key (.num d) = s.chkInject d := rfl
  simp [State.chkStore, he, howner, hty, hcond, hrange, valid]

theorem State.injectTestRun_range (h : s.accepts at_ w E.Dbl.INJECT_TEST_RUN.key .u8 (.num d)) : 1 ≤ d ∧ d ≤ 3 := by
  obtain ⟨hup, -, hc⟩ := h
  obtain ⟨-, hs⟩ := State.chkWrite_eq_zero.1 hc
  rw [State.chkStore_injectTestRun (State.bare_of_servicesUp hup), firstBad_eq_zero] at hs
  have hi := firstBad_eq_zero.1 (hs _ (.tail _ (.tail _ (.head _)))) _ (.head _)
  simpa [need, stRange] using hi

/-! ## The test starts (R145) -/

/-- What INJECT_TEST_RUN may change beside the state of its pair: the safety program leaves operation. -/
def injectEnts : List Ent := [E.Saf.SAFETY_CAUSE, E.Saf.SAFETY_STATE, E.Saf.SAFETY_STOPS, E.Restore.RETAINED_WRITES]

theorem Frame.setSafe {ps : List Part} {es : List Ent} {rs : List Nat} {x : State} {n : Nat} (h : Frame ps es rs s x) (hl : Part.ledger ∈ ps)
    (he : E.Saf.SAFETY_STATE ∈ es) (hr : 28 ∈ rs) : Frame ps es rs s (x.setSafe n) := by
  unfold State.setSafe
  exact .ite (fun _ => h) (fun _ => (h.wr he).log hl hr)

theorem State.safetyStop_frame (cause : Nat) : Frame [.safety, .ledger, .blocks] injectEnts [28] s (s.safetyStop cause) := by
  unfold State.safetyStop
  refine .ite (fun _ => .refl ..) (fun _ => ?_)
  extract_lets stopped
  have hstopped : Frame [.safety, .ledger, .blocks] injectEnts [28] s stopped :=
    (((Frame.refl ..).wr (by simp [injectEnts])).setSafe (by simp) (by simp [injectEnts]) (by simp)).wrR (by simp [injectEnts]) (by simp)
      (by simp [injectEnts])
  exact ((hstopped.with_safety (by simp)).with_safety (by simp)).with_safety (by simp)

theorem State.channelOut_frame (d : Nat) : Frame [.safety] [] [] s (s.channelOut d) := by
  unfold State.channelOut
  exact .ite (fun _ => .refl ..) (fun _ => (Frame.refl ..).with_safety (by simp))

theorem State.effInject_frame (d : Nat) : Frame [.safety, .ledger, .blocks] (E.Dbl.PAIR_STATE d :: injectEnts) [28] s (s.effInject d) := by
  have hstop : Frame [.safety, .ledger, .blocks] (E.Dbl.PAIR_STATE d :: injectEnts) [28] s ((s.safetyStop 6).channelOut d) :=
    ((s.safetyStop_frame 6).mono (by simp) (fun _ he => .tail _ he) (by simp)).trans
      ((State.channelOut_frame d).mono (by simp) (by simp) (by simp))
  unfold State.effInject
  exact Frame.wr (.ite (fun _ => hstop) (fun _ => .refl ..)) (.head _)

theorem State.safeState_setSafe {n : Nat} (hn : n < 256) : (s.setSafe n).safeState = n := by
  unfold State.setSafe
  split
  next h => exact h
  next =>
    rw [State.safeState, ((KeepsEntry.refl E.Saf.SAFETY_STATE.key _).log (by decide)).rd rfl, State.rd_wr_self]
    exact Nat.mod_eq_of_lt hn

/-- A safety program in operation enters SAFETY_STOP (Table SAF-1). -/
theorem State.safeState_safetyStop (h : s.safeState = 1 ∨ s.safeState = 2) (cause : Nat) : (s.safetyStop cause).safeState = 3 := by
  have hrun : ¬ (s.safeState != 1 && s.safeState != 2) = true := by rcases h with h | h <;> simp [h]
  have hafter : Frame [.blocks, .safety] [E.Saf.SAFETY_STOPS, E.Restore.RETAINED_WRITES] [] ((s.wr E.Saf.SAFETY_CAUSE cause).setSafe 3)
      (s.safetyStop cause) := by
    unfold State.safetyStop
    rw [if_neg hrun]
    exact ((((Frame.refl ..).wrR (by simp) (by simp) (by simp)).with_safety (by simp)).with_safety (by simp)).with_safety (by simp)
  exact (hafter.rd (by simp) (by decide) (by simp)).trans (State.safeState_setSafe (by decide))

theorem pairState_ne {e : Nat} (h : e ≠ d) : (E.Dbl.PAIR_STATE e).key ≠ (E.Dbl.PAIR_STATE d).key := by
  simp only [E.Dbl.PAIR_STATE, entN]
  omega

theorem pairState_alone : ∀ d < 4, ∀ f ∈ genEnts ++ injectEnts, (E.Dbl.PAIR_STATE d).key ≠ f.key := by decide

theorem State.rd_effInject_other {e : Nat} (he : e < 4) (hne : e ≠ d) : (s.effInject d).rd (E.Dbl.PAIR_STATE e) = s.rd (E.Dbl.PAIR_STATE e) := by
  refine (s.effInject_frame d).rd (by simp) (fun f hf => ?_) (by simp [E.Dbl.PAIR_STATE, entN]; omega)
  rcases List.mem_cons.1 hf with rfl | hf
  · exact pairState_ne hne
  · exact pairState_alone e he f (List.mem_append_right _ hf)

/-- The test of a pair that carries a safety channel takes the safety program out of operation (R145). -/
theorem State.safeState_effInject (hd : d < 4) (hpair : d = s.safePair false ∨ d = s.safePair true) (h : s.safeState = 1 ∨ s.safeState = 2) :
    (s.effInject d).safeState = 3 := by
  have hsafe : (d == s.safePair false || d == s.safePair true) = true := by simpa using hpair
  have hne : E.Saf.SAFETY_STATE.key ≠ (E.Dbl.PAIR_STATE d).key := fun hc => pairState_alone d hd E.Saf.SAFETY_STATE (by simp [injectEnts]) hc.symm
  have heffect : s.effInject d = ((s.safetyStop 6).channelOut d).wr (E.Dbl.PAIR_STATE d) 0 := by simp [State.effInject, hsafe]
  rw [heffect, State.safeState, State.rd_wr_ne _ _ _ _ hne, (State.channelOut_frame d).rd (by simp) (by simp) (by simp)]
  exact State.safeState_safetyStop h 6

theorem exec_injectTestRun : exec (.injectTestRun at_ w d) s = .next ((s.advance at_).writeStep w E.Dbl.INJECT_TEST_RUN.key .u8 (.num d)) := rfl

theorem State.injectTestRun_completes (h : s.accepts at_ w E.Dbl.INJECT_TEST_RUN.key .u8 (.num d)) :
    Completes (.injectTestRun at_ w d) s (fun t => t.odStatus = 0 ∧ t.rd (E.Dbl.PAIR_STATE d) = 0
      ∧ (∀ e < 4, e ≠ d → t.rd (E.Dbl.PAIR_STATE e) = s.rd (E.Dbl.PAIR_STATE e))
      ∧ (d = s.safePair false ∨ d = s.safePair true → s.rd E.Saf.SAFETY_STATE = 1 ∨ s.rd E.Saf.SAFETY_STATE = 2 → t.rd E.Saf.SAFETY_STATE = 3)
      ∧ t.rt.tasks = s.rt.tasks ∧ t.now = s.instant at_ ∧ Keeps [.answer, .safety, .ledger, .blocks] s t) := by
  obtain ⟨-, hd⟩ := State.injectTestRun_range h
  have hstep := State.writeStep_of_accepts h fun _ => rfl
  rw [State.commitWrite_injectTestRun (State.bare_of_servicesUp h.1)] at hstep
  have hafter := State.frame_servicesCommit ((s.advance at_).effInject d)
  have hstate {e : Nat} (he : e < 4) := hafter.rd (e := E.Dbl.PAIR_STATE e) (by simp)
    (fun f hf => pairState_alone e he f (List.mem_append_left _ hf)) (by simp)
  have hframe : Frame [.answer, .safety, .ledger, .blocks] (E.Dbl.PAIR_STATE d :: (injectEnts ++ genEnts)) [28] s
      { ((s.advance at_).effInject d).servicesCommit with odStatus := 0 } :=
    ((Frame.refl ..).advance.trans ((State.effInject_frame d).mono (by simp) (by simp; tauto) (by simp))).trans
      (hafter.mono (by simp) (by simp; tauto) (by simp))
  refine ⟨_, exec_injectTestRun.trans (by rw [hstep]), rfl, ?_, fun e he hne => ?_, fun hpair hrun => ?_, ?_, ?_, hframe.1, hframe.2.1⟩
  · rw [hstate (by omega), State.effInject, State.rd_wr_self, Nat.zero_mod]
  · exact (hstate he).trans (State.rd_effInject_other he hne)
  · exact (hafter.rd (by simp) (by decide) (by simp)).trans (State.safeState_effInject (by omega) hpair hrun)
  · exact congrArg RuntimeSt.tasks (hframe.2.1 .rt (by simp))
  · simp [State.instant]

/-- In a mode other than STOP the write is refused (R145). -/
theorem State.injectTestRun_refused (hup : (s.advance at_).servicesUp = true) (hw : (s.advance at_).writerOk w = true)
    (hform : (s.advance at_).chkForm w E.Dbl.INJECT_TEST_RUN.key (some .u8) (some (.num d)) = 0) (hstop : s.stopMet = false)
    (hrange : inRange (.u 1 3 1) .u8 (.num d) = true) :
    Completes (.injectTestRun at_ w d) s (fun t => t.odStatus = 0x0B ∧ t.now = s.instant at_ ∧ Frame [.answer] [] [] s t) := by
  have hstop' : (s.advance at_).stopMet = false := hstop
  have hstore : (s.advance at_).chkStore w E.Dbl.INJECT_TEST_RUN.key (.num d) = 0x0B := by
    rw [State.chkStore_injectTestRun (State.bare_of_servicesUp hup), hrange, hstop']
    rfl
  have hwrite : (s.advance at_).write w E.Dbl.INJECT_TEST_RUN.key (some .u8) (some (.num d)) = (s.advance at_, 0x0B) := by
    rw [State.write_of_badStore hform (by rw [hstore]; decide), hstore]
    rfl
  have hstep : (s.advance at_).writeStep w E.Dbl.INJECT_TEST_RUN.key .u8 (.num d) = { s.advance at_ with odStatus := 0x0B } :=
    State.writeStep_eq hup hw hwrite fun hc => absurd hc (by decide)
  exact ⟨_, exec_injectTestRun.trans (by rw [hstep]), rfl, by simp [State.instant], (Frame.refl ..).advance.with_odStatus (by simp)⟩

/-! ## The test ends (R144, R147) -/

theorem exec_injectionTestDone {o : Option InjectFail} (hd : d < 4) :
    exec (.injectionTestDone at_ d o) s = .next ((s.advance at_).injectDone d o) :=
  onPair_of_lt hd (fun s => s.injectDone d o)

theorem State.injectDone_of_testing (o : Option InjectFail) (hp : s.rd (E.Dbl.PAIR_STATE d) = 0) (hs : s.standby = false) (hb : s.power.boot = none) :
    s.injectDone d o = match o with
      | none => (s.noteInject d none).wr (E.Dbl.PAIR_STATE d) 1
      | some r => (s.noteInject d (some r)).pairFail d 1 := by
  cases o <;> simp [State.injectDone, hp, hs, hb]

theorem State.rd_incR_self {e : Ent} (he : e.key ≠ E.Restore.RETAINED_WRITES.key) : (s.incR e).rd e = min (2 ^ Ty.bits e.ty - 1) (s.rd e + 1) := by
  have hlt : min (2 ^ Ty.bits e.ty - 1) (s.rd e + 1) < 2 ^ Ty.bits e.ty := by have := Nat.two_pow_pos (Ty.bits e.ty); omega
  rw [State.incR, State.wrR, State.rd, State.get_putR_self he, valNat, Nat.mod_eq_of_lt hlt]

/-- What a test without a failure may report (R144). -/
def passEnts (d : Nat) : List Ent :=
  [E.Dbl.PAIR_STATE d, E.Dbl.INJECT_RESULT d, E.Dbl.INJECT_COUNT d, E.Dbl.INJECT_LAST d, E.Restore.RETAINED_WRITES]

theorem injectResult_alone : ∀ d < 4, ∀ f ∈ [E.Dbl.PAIR_STATE d, E.Dbl.INJECT_COUNT d, E.Dbl.INJECT_LAST d, E.Restore.RETAINED_WRITES],
    (E.Dbl.INJECT_RESULT d).key ≠ f.key := by decide

theorem injectCount_alone : ∀ d < 4, ∀ f ∈ [E.Dbl.PAIR_STATE d, E.Dbl.INJECT_RESULT d, E.Dbl.INJECT_LAST d, E.Restore.RETAINED_WRITES],
    (E.Dbl.INJECT_COUNT d).key ≠ f.key := by decide

theorem pairEnt_index : ∀ d < 4, ∀ e ∈ passEnts d, ∀ r ∈ [28], e.key / 256 ≠ 0x1B00 + r := by decide

/-- After PASS has been reported and counted, the instant of the test is stored and the test recorded. -/
theorem State.noteInject_pass_frame (d : Nat) : Frame [.blocks, .ledger] [E.Dbl.INJECT_LAST d, E.Restore.RETAINED_WRITES] [28]
    ((s.wr (E.Dbl.INJECT_RESULT d) 0).incR (E.Dbl.INJECT_COUNT d)) (s.noteInject d none) :=
  ((Frame.refl ..).wrR (by simp) (by simp) (by simp)).log (by simp) (by simp)

theorem State.rd_noteInject_pass (hd : d < 4) : (s.noteInject d none).rd (E.Dbl.INJECT_RESULT d) = 0
    ∧ (s.noteInject d none).rd (E.Dbl.INJECT_COUNT d) = min (2 ^ 32 - 1) (s.rd (E.Dbl.INJECT_COUNT d) + 1) := by
  have hresult := injectResult_alone d hd
  have hcount := injectCount_alone d hd
  have hindex := pairEnt_index d hd
  have hcounted : Frame [.blocks] [E.Dbl.INJECT_COUNT d, E.Restore.RETAINED_WRITES] [] (s.wr (E.Dbl.INJECT_RESULT d) 0)
      ((s.wr (E.Dbl.INJECT_RESULT d) 0).incR (E.Dbl.INJECT_COUNT d)) := (Frame.refl ..).wrR (by simp) (by simp) (by simp)
  constructor
  · rw [(State.noteInject_pass_frame d).rd (by simp) (fun f hf => hresult f (.tail _ (.tail _ hf))) (hindex _ (by simp [passEnts])),
      hcounted.rd (by simp) (by simp_all) (by simp), State.rd_wr_self, Nat.zero_mod]
  · rw [(State.noteInject_pass_frame d).rd (by simp) (fun f hf => hcount f (.tail _ (.tail _ hf))) (hindex _ (by simp [passEnts])),
      State.rd_incR_self (hcount _ (by simp)), State.rd_wr_ne _ _ _ _ (hcount _ (by simp))]
    rfl

theorem State.noteInject_pass_now (d : Nat) : (s.noteInject d none).now = s.now := by simp [State.noteInject]

theorem State.injectionTestDone_passed (hd : d < 4) (hp : s.rd (E.Dbl.PAIR_STATE d) = 0) (hs : s.standby = false) (hb : s.power.boot = none) :
    Completes (.injectionTestDone at_ d none) s (fun t => t.rd (E.Dbl.PAIR_STATE d) = 1 ∧ t.rd (E.Dbl.INJECT_RESULT d) = 0
      ∧ t.rd (E.Dbl.INJECT_COUNT d) = min (2 ^ 32 - 1) (s.rd (E.Dbl.INJECT_COUNT d) + 1)
      ∧ t.now = s.instant at_ ∧ Frame [.blocks, .ledger] (passEnts d) [28] s t) := by
  have hdone := State.injectDone_of_testing (s := s.advance at_) none hp hs hb
  obtain ⟨hresult, hcount⟩ := State.rd_noteInject_pass (s := s.advance at_) hd
  refine ⟨_, (exec_injectionTestDone hd).trans (congrArg _ hdone), ?_, ?_, ?_, ?_, ?_⟩
  · exact (State.rd_wr_self ..).trans rfl
  · exact (State.rd_wr_ne _ _ _ _ (injectResult_alone d hd _ (.head _))).trans hresult
  · exact (State.rd_wr_ne _ _ _ _ (injectCount_alone d hd _ (.head _))).trans hcount
  · exact State.noteInject_pass_now d
  · have hnoted : Frame [.blocks, .ledger] (passEnts d) [28] s ((s.advance at_).noteInject d none) :=
      (((Frame.refl ..).advance.wr (by simp [passEnts])).wrR (by simp [passEnts]) (by simp) (by simp [passEnts])).trans
        ((State.noteInject_pass_frame d).mono (by simp) (by simp [passEnts]) (by simp))
    exact hnoted.wr (by simp [passEnts])

/-- What a failed test and its pair report. -/
def failReport (d : Nat) : List Ent := [E.Dbl.PAIR_STATE d, E.Dbl.FAIL_CAUSE d, E.Dbl.INJECT_RESULT d, E.Dbl.INJECT_DETAIL d]

theorem failReport_spared : ∀ d < 4, ∀ e ∈ failReport d, Spared e.key ∧ e.key ≠ E.Run.RUNTIME_MODE.key ∧ e.key ≠ E.Id.MODULE_STATE.key := by
  unfold Spared
  decide

theorem failReport_distinct : ∀ d < 4, ((failReport d).map Ent.key).Pairwise (· ≠ ·) := by decide

theorem moduleEnts_ne_failReport : ∀ d < 4, ∀ e ∈ failReport d, E.Id.MODULE_STATE.key ≠ e.key ∧ E.Twin.TWIN_POSITION.key ≠ e.key := by decide

theorem injectDetail_lt (f : InjectFail) : injectDetail f < 2 ^ 32 := by
  unfold injectDetail
  omega

section
variable {key : Nat}

theorem State.noteInject_fail_keepsEntry (hk : Spared key) :
    KeepsEntry key ((s.wr (E.Dbl.INJECT_RESULT d) (r.result.val + 1)).wr (E.Dbl.INJECT_DETAIL d) (injectDetail r)) (s.noteInject d (some r)) :=
  (KeepsEntry.refl ..).log hk.2.1

theorem KeepsEntry.noteInject_fail {x : State} (h : KeepsEntry key s x) (hk : Spared key) (hr : key ≠ (E.Dbl.INJECT_RESULT d).key)
    (hdetail : key ≠ (E.Dbl.INJECT_DETAIL d).key) : KeepsEntry key s (x.noteInject d (some r)) :=
  ((h.wr hr).wr hdetail).trans (State.noteInject_fail_keepsEntry hk)

end

/-- What a failed test reports, and the cause of its pair's failure. -/
theorem State.rd_injectFailed (hd : d < 4) : ((s.noteInject d (some r)).pairFail d 1).rd (E.Dbl.PAIR_STATE d) = 3
    ∧ ((s.noteInject d (some r)).pairFail d 1).rd (E.Dbl.FAIL_CAUSE d) = 1
    ∧ ((s.noteInject d (some r)).pairFail d 1).rd (E.Dbl.INJECT_RESULT d) = r.result.val + 1
    ∧ ((s.noteInject d (some r)).pairFail d 1).rd (E.Dbl.INJECT_DETAIL d) = injectDetail r := by
  have hdown {e : Ent} (he : e ∈ failReport d) := by
    obtain ⟨hk, hm, hs⟩ := failReport_spared d hd e he
    exact State.pairFail_keepsEntry (s := s.noteInject d (some r)) (d := d) (cause := 1) hk hm hs
  have hnoted {e : Ent} (he : e ∈ failReport d) := State.noteInject_fail_keepsEntry (s := s) (d := d) (r := r) (failReport_spared d hd e he).1
  have hdistinct := failReport_distinct d hd
  simp only [failReport, List.map_cons, List.map_nil, List.pairwise_cons, List.forall_mem_cons] at hdistinct
  obtain ⟨⟨hsc, hsr, hsd, -⟩, ⟨hcr, hcd, -⟩, ⟨hrd, -⟩, -⟩ := hdistinct
  refine ⟨?_, ?_, ?_, ?_⟩
  · rw [(hdown (by simp [failReport])).rd rfl, State.rd_wr_ne _ _ _ _ hsc, State.rd_wr_self]
    rfl
  · rw [(hdown (by simp [failReport])).rd rfl, State.rd_wr_self]
    rfl
  · rw [(hdown (by simp [failReport])).rd rfl, State.rd_wr_ne _ _ _ _ hcr.symm, State.rd_wr_ne _ _ _ _ hsr.symm,
      (hnoted (by simp [failReport])).rd rfl, State.rd_wr_ne _ _ _ _ hrd, State.rd_wr_self]
    exact Nat.mod_eq_of_lt (show r.result.val + 1 < 256 by omega)
  · rw [(hdown (by simp [failReport])).rd rfl, State.rd_wr_ne _ _ _ _ hcd.symm, State.rd_wr_ne _ _ _ _ hsd.symm,
      (hnoted (by simp [failReport])).rd rfl, State.rd_wr_self]
    exact Nat.mod_eq_of_lt (injectDetail_lt r)

/-- Neither the report nor the failure of its pair moves the module's clock, and SAFE_STATE follows without a twin base (R139). -/
theorem State.injectFailed_module (hd : d < 4) :
    (s.twinBase = false → s.inSafe = false → ((s.noteInject d (some r)).pairFail d 1).rd E.Id.MODULE_STATE = 3
      ∧ ((s.noteInject d (some r)).pairFail d 1).rd E.Run.RUNTIME_MODE = 1)
    ∧ ((s.noteInject d (some r)).pairFail d 1).now = s.now ∧ ((s.noteInject d (some r)).pairFail d 1).pending = s.pending := by
  have hne := moduleEnts_ne_failReport d hd
  simp only [failReport, List.forall_mem_cons] at hne
  obtain ⟨⟨-, hps⟩, ⟨-, hpc⟩, ⟨hmr, hpr⟩, ⟨hmd, hpd⟩, -⟩ := hne
  obtain ⟨-, hmode, hposition⟩ := spared_modes
  have hmodule : KeepsEntry E.Id.MODULE_STATE.key s (s.noteInject d (some r)) := (KeepsEntry.refl ..).noteInject_fail hmode hmr hmd
  have htwin : KeepsEntry E.Twin.TWIN_POSITION.key s (s.noteInject d (some r)) := (KeepsEntry.refl ..).noteInject_fail hposition hpr hpd
  obtain ⟨-, -, hnow, hpending⟩ :=
    KeepsEntry.pairFail_of_pairDown (cause := 1) (htwin.pairDown hposition (by decide) hps hpc) hposition (by decide) (by decide)
  refine ⟨fun ht hs => ?_, hnow, hpending⟩
  exact State.rd_pairFail_alone hd (by simpa only [State.twinBase, htwin.rd rfl] using ht) (by simpa only [State.inSafe, hmodule.rd rfl] using hs)

theorem State.injectionTestDone_failed (hd : d < 4) (hp : s.rd (E.Dbl.PAIR_STATE d) = 0) (hs : s.standby = false) (hb : s.power.boot = none) :
    Completes (.injectionTestDone at_ d (some r)) s (fun t => t.rd (E.Dbl.PAIR_STATE d) = 3 ∧ t.rd (E.Dbl.FAIL_CAUSE d) = 1
      ∧ t.rd (E.Dbl.INJECT_RESULT d) = r.result.val + 1 ∧ t.rd (E.Dbl.INJECT_DETAIL d) = injectDetail r
      ∧ (s.twinBase = false → s.inSafe = false → t.rd E.Id.MODULE_STATE = 3 ∧ t.rd E.Run.RUNTIME_MODE = 1)
      ∧ t.now = s.instant at_ ∧ t.pending = s.pending) := by
  have hdone := State.injectDone_of_testing (s := s.advance at_) (some r) hp hs hb
  obtain ⟨hstate, hcause, hresult, hdetail⟩ := State.rd_injectFailed (s := s.advance at_) (r := r) hd
  obtain ⟨hsafe, hnow, hpending⟩ := State.injectFailed_module (s := s.advance at_) (r := r) hd
  exact ⟨_, (exec_injectionTestDone hd).trans (congrArg _ hdone), hstate, hcause, hresult, hdetail, hsafe, hnow, hpending⟩

end

/-- Settles O20: a test in STOP releases its pair or fails it, and a write in another mode is refused. -/
theorem injectionTestsOfPairs : Obligations.InjectionTestsOfPairs := by
  unfold Obligations.InjectionTestsOfPairs
  exact ⟨fun _ _ _ _ h => State.injectTestRun_completes h, fun _ _ _ hd hp hs hb => State.injectionTestDone_passed hd hp hs hb,
    fun _ _ _ _ hd hp hs hb => State.injectionTestDone_failed hd hp hs hb,
    fun _ _ _ _ hup hw hform hstop hrange => State.injectTestRun_refused hup hw hform hstop hrange⟩

end Sys2Proof.Machine
end

section
/-!
SUPPORT. Writes of the commands of the Counting Frame at 0x5000 and 0x5100 (Tables FRM-13, FRM-14): the owning block's check, the effect, and the
commit of the services after it; and what a change of one board leaves.
-/
namespace Sys2Proof.Machine

section
variable {s x : State} {at_ key b : Nat} {w : Writer} {ty : Ty} {v : Value} {e : Ent} {row : Row}

/-- The commit of the services and the status of an accepted write, after its effect (R49, R134). -/
def State.answered (x : State) : State := { x.servicesCommit with odStatus := 0 }

theorem State.answered_frame (x : State) : Frame [.answer] genEnts [] x x.answered := State.frame_servicesCommit x

@[simp] theorem State.answered_odStatus (x : State) : x.answered.odStatus = 0 := rfl

@[simp] theorem State.answered_now (x : State) : x.answered.now = x.now := State.servicesCommit_now

@[simp] theorem State.frame_answered (x : State) : x.answered.frame = x.frame := (State.answered_frame x).2.1 .frame (by simp)

@[simp] theorem State.ring_answered (x : State) (k : Nat) : x.answered.ring k = x.ring k := (State.answered_frame x).2.2.2 k (by simp)

/-- The checkpoint generations stand behind the Counting Frame, at sub-index 0x0F (Table DBL-4). -/
theorem ne_genEnts (hk : key / 256 < 0x6800 ∨ key % 256 ≠ 0x0F) : ∀ f ∈ genEnts, key ≠ f.key := by
  intro f hf heq
  obtain ⟨d, -, rfl⟩ := List.mem_map.1 hf
  simp only [E.Dbl.CKPT_GENERATION, entN] at heq
  omega

theorem State.rd_answered (x : State) (hk : e.key / 256 < 0x6800 ∨ e.key % 256 ≠ 0x0F) : x.answered.rd e = x.rd e :=
  (State.answered_frame x).rd (by simp) (ne_genEnts hk) (by simp)

theorem Frame.answered {ps : List Part} {es : List Ent} {rs : List Nat} (h : Frame ps es rs s x) (ha : Part.answer ∈ ps) :
    Frame ps (es ++ genEnts) rs s x.answered :=
  (h.mono (by simp) (fun _ he => List.mem_append_left _ he) (by simp)).trans
    ((State.answered_frame x).mono (by simpa) (fun _ he => List.mem_append_right _ he) (by simp))

/-- An accepted write of an entry of the tables passed its owner's check (R69). -/
theorem State.chkOwner_of_accepts (h : s.accepts at_ w key ty v)
    (he : (s.advance at_).entryAt key = .ok (row, e)) : (s.advance at_).chkOwner w key v = 0 := by
  obtain ⟨-, -, hc⟩ := h
  obtain ⟨-, hs⟩ := State.chkWrite_eq_zero.1 hc
  simp only [State.chkStore, he] at hs
  exact firstBad_eq_zero.1 hs _ (by simp)

/-- A command of the Counting Frame stores nothing: it has its effect, on a module whose nonces are renewed. -/
theorem State.writeStep_frameCommand (h : s.accepts at_ w key ty v) (hr : tableRow key = some (row, e))
    (hrow : row.ret = .volatile ∧ row.acc = .wo) (hi : 0x5000 ≤ key / 256 ∧ key / 256 < 0x5200) (hsub : key % 256 ≠ 0 ∧ key % 256 ≠ 0x1F)
    (hx : (s.advance at_).reached key v = x) (hp : x.power = s.power) :
    (s.advance at_).writeStep w key ty v = (x.effOwner w key v).answered ∧ (s.advance at_).chkOwner w key v = 0 := by
  have hb := State.bare_of_servicesUp h.1
  have he := State.entryAt_of_tableRow hb (by omega) (by omega) hsub.1 hr
  have hex : x.entryAt key = .ok (row, e) := State.entryAt_of_tableRow (by rw [hp]; exact hb) (by omega) (by omega) hsub.1 hr
  refine ⟨?_, State.chkOwner_of_accepts h he⟩
  rw [State.writeStep_of_accepts h fun _ => abortOf_eq_none hi.2 hsub.2, State.commitWrite, hx,
    State.storeValue_command hex (by omega) (by simp [hrow]) (by simp [hrow])]
  simp [State.mirrored, retainedKey, hr, hrow, State.answered]

end

/-! ## One board changed -/

@[simp] theorem State.board_setBoard_self (s : State) (b : Nat) (x : Board) : (s.setBoard b x).board b = x := by
  simp [State.board, State.setBoard]

theorem State.board_setBoard_ne (s : State) {b k : Nat} (x : Board) (h : k ≠ b) : (s.setBoard b x).board k = s.board k := by
  simp [State.board, State.setBoard, h]

theorem Frame.setBoard {ps : List Part} {es : List Ent} {rs : List Nat} {s y : State} {b : Nat} {x : Board} (h : Frame ps es rs s y)
    (hp : Part.frame ∈ ps) : Frame ps es rs s (y.setBoard b x) := h.with_frame hp

end Sys2Proof.Machine
end

section
/-!
O22. A batch of moves from its write to its board (R165 to R170): MOVE_BATCH puts it on a ring, BATCH_TAKE takes it from SUBMIT_HI, and
`judgeBatch` alone says what the board makes of it.
-/
namespace Sys2Proof.Machine

section
variable {s : State} {at_ b src id : Nat} {w : Writer} {bs : List Byte} {iss : Int} {rest : List RingEntry}

/-! ## MOVE_BATCH (R165, R186, R188) -/

theorem tableRow_moveBatch : ∀ b < 256, (tableRow (E.Board.MOVE_BATCH b).key).any (fun r => r.1.ret == .volatile && r.1.acc == .wo) = true := by
  decide +kernel

theorem moveBatch_key (b : Nat) : (E.Board.MOVE_BATCH b).key = (0x5100 + b) * 256 + 0x14 := rfl

/-- A board's batches are written without a nonce. -/
theorem State.reached_moveBatch (s : State) (b : Nat) (v : Value) : s.reached (E.Board.MOVE_BATCH b).key v = s := by
  have hkey := moveBatch_key b
  unfold State.reached
  split
  case h_10 => exact if_neg (by simp; omega)
  all_goals omega

theorem State.frameEntry_moveBatch (s : State) (hb : b < 256) (n : Nat) :
    s.chkFrameEntry (0x5100 + b) 0x14 n bs = s.chkMoveBatch b bs ∧ s.effFrameEntry (0x5100 + b) 0x14 n bs = s.effMoveBatch b bs := by
  have hboard : (decide (0x5100 ≤ 0x5100 + b) && decide (0x5100 + b < 0x5200)) = true := by simp; omega
  unfold State.chkFrameEntry State.effFrameEntry
  rw [if_pos hboard, if_pos hboard, if_pos rfl, if_pos rfl, Nat.add_sub_cancel_left]
  exact ⟨rfl, rfl⟩

/-- The owner of MOVE_BATCH is the Counting Frame: its check and its effect. -/
theorem State.owner_moveBatch (s : State) (w : Writer) (hb : b < 256) :
    s.chkOwner w (E.Board.MOVE_BATCH b).key (.bytes bs) = s.chkMoveBatch b bs
      ∧ s.effOwner w (E.Board.MOVE_BATCH b).key (.bytes bs) = s.effMoveBatch b bs := by
  have hi : (E.Board.MOVE_BATCH b).key / 256 = 0x5100 + b := by rw [moveBatch_key]; omega
  have hs : (E.Board.MOVE_BATCH b).key % 256 = 0x14 := by rw [moveBatch_key]; omega
  have hbefore : ∀ n ∈ [0x1800, 0x1900, 0x2000, 0x3000, 0x4000, 0x5000], ¬ 0x5100 + b < n := by simp; omega
  simp only [List.mem_cons, List.not_mem_nil, or_false, forall_eq_or_imp, forall_eq] at hbefore
  obtain ⟨h1, h2, h3, h4, h5, h6⟩ := hbefore
  have hframe : 0x5100 + b < 0x6000 := by omega
  simp [State.chkOwner, State.effOwner, hi, hs, h1, h2, h3, h4, h5, h6, hframe, valBytes, s.frameEntry_moveBatch hb]

/-- A dictionary batch as an entry of its ring. -/
def batchEntry (b : Nat) (bs : List Byte) (now : Nat) : RingEntry :=
  .submit { item := .batch b bs, source := 0xFE, solveId := 0, issued := (now : Int) }

/-- Boards' entries go by the two rings SUBMIT_HI and SUBMIT_LO, which refuse when full (Table ARC-6). -/
theorem State.submitRing_refuses (s : State) (b source : Nat) : ringPolicy (s.submitRing b source) = .refuse := by
  have hring : s.submitRing b source = 25 ∨ s.submitRing b source = 24 := by
    unfold State.submitRing
    dsimp only
    repeat' split
    all_goals simp
  rcases hring with h | h <;> rw [h] <;> rfl

theorem State.room_of_chkMoveBatch (h : s.chkMoveBatch b bs = 0) : s.room (s.submitRing b 0xFE) 1 = true := by
  have hfits : s.submitFits (s.submitRing b 0xFE) [{ item := .batch b bs, source := 0xFE, solveId := 0, issued := s.now }] = true := by
    by_contra hn
    simp [State.chkMoveBatch, need, hn] at h
  simp only [State.submitFits, Bool.and_eq_true] at hfits
  exact hfits.1

theorem State.moveBatch_completes (hb : b < 256) (h : s.accepts at_ w (E.Board.MOVE_BATCH b).key .octets (.bytes bs)) :
    Completes (.moveBatch at_ w b bs) s (fun t => t.odStatus = 0
      ∧ (t.ring (s.submitRing b 0xFE)).q = (s.ring (s.submitRing b 0xFE)).q ++ [batchEntry b bs (s.instant at_)]
      ∧ t.now = s.instant at_ ∧ Frame [.answer] genEnts [s.submitRing b 0xFE] s t) := by
  have hkey := moveBatch_key b
  have hinst : inst 0x5100 b 256 0x14 = (E.Board.MOVE_BATCH b).key := by simp [inst, hb, hkey]
  obtain ⟨⟨row, e⟩, hr, hrow⟩ := exists_row_of_any (tableRow_moveBatch b hb)
  obtain ⟨hstep, hcheck⟩ := State.writeStep_frameCommand h hr (by simpa using hrow) (by omega) (by omega) (State.reached_moveBatch ..) rfl
  obtain ⟨hchk, heff⟩ := (s.advance at_).owner_moveBatch w hb (bs := bs)
  rw [hchk] at hcheck
  rw [heff] at hstep
  have hnum : (s.advance at_).submitRing b 0xFE = s.submitRing b 0xFE := rfl
  have hroom := State.room_of_chkMoveBatch hcheck
  have hring := State.ring_place_self (s.advance at_) (s.submitRing b 0xFE) (batchEntry b bs (s.instant at_)) (.inl (s.submitRing_refuses ..))
  refine ⟨((s.advance at_).effMoveBatch b bs).answered, ?_, rfl, ?_, ?_, ?_⟩
  · rw [← hstep, ← hinst]; rfl
  · exact congrArg Ring.q ((State.ring_answered ..).trans (hring.trans (if_pos hroom)))
  · simp [State.instant]
  · exact Frame.answered (es := []) ((Frame.refl ..).advance.place (by simp [hnum])) (by simp)

/-! ## BATCH_TAKE (R170, R191) -/

/-- The scheduler takes the batch at the front of SUBMIT_HI, whose board's queue has a place. -/
theorem State.takeSubmit_batch {p : SubmitItem → Bool} (hp : p (.batch b bs) = true)
    (hq : (s.ring 24).q = .submit { item := .batch b bs, source := src, solveId := id, issued := iss } :: rest)
    (hsup : s.rd E.Pwr.SUP_STATE ≠ 3) (hpause : s.frame.pauseHi = none) (hfree : (s.board b).queue.length < 16) :
    s.takeSubmit p = ((s.pop 24).1, some (24, { item := .batch b bs, source := src, solveId := id, issued := iss })) := by
  simp [State.takeSubmit, State.frameGoes, hsup, State.nextSubmit, State.fill, hq, hpause, hp, itemBoard, Nat.not_le.2 hfree]

theorem State.batchTake_eq (hq : (s.ring 24).q = .submit { item := .batch b bs, source := src, solveId := id, issued := iss } :: rest)
    (hsup : s.rd E.Pwr.SUP_STATE ≠ 3) (hpause : s.frame.pauseHi = none) (hfree : (s.board b).queue.length < 16) :
    s.batchTake = (s.pop 24).1.setBoard b
      (if (s.board b).st = 2 ∧ (inProgress (s.board b) = true ∨ (s.board b).loading.isSome = true ∨ (s.board b).queue ≠ [])
        then { s.board b with queue := (s.board b).queue ++ [.batch src true bs] } else applyBatch (s.board b) b src bs) := by
  have hboard : (s.pop 24).1.board b = s.board b := by simp [State.board]
  unfold State.batchTake
  rw [State.takeSubmit_batch rfl hq hsup hpause hfree]
  dsimp only
  rw [hboard, apply_ite ((s.pop 24).1.setBoard b)]
  exact if_congr (by simp [or_assoc]) rfl rfl

theorem State.batchTake_completes (hq : (s.ring 24).q = .submit { item := .batch b bs, source := src, solveId := id, issued := iss } :: rest)
    (hsup : s.rd E.Pwr.SUP_STATE ≠ 3) (hpause : s.frame.pauseHi = none) (hfree : (s.board b).queue.length < 16) (hw : (s.ring 24).waiting = []) :
    Completes (.batchTake at_) s (fun t => (t.ring 24).q = rest
      ∧ t.board b = (if (s.board b).st = 2 ∧ (inProgress (s.board b) = true ∨ (s.board b).loading.isSome = true ∨ (s.board b).queue ≠ [])
          then { s.board b with queue := (s.board b).queue ++ [.batch src true bs] } else applyBatch (s.board b) b src bs)
      ∧ (∀ k, k ≠ b → t.board k = s.board k) ∧ t.now = s.instant at_ ∧ Frame [.frame] [] [24] s t) := by
  have hpop := State.pop_of_none_waiting (s := s.advance at_) (k := 24) hq hw
  refine ⟨_, congrArg Host.Outcome.next (State.batchTake_eq (s := s.advance at_) hq hsup hpause hfree), ?_, State.board_setBoard_self ..,
    fun k hk => ?_, ?_, ((Frame.refl ..).advance.pop (by simp)).setBoard (by simp)⟩
  · exact congrArg Ring.q ((congrArg (fun y => y.1.ring 24) hpop).trans (State.ring_setRing_self ..))
  · exact (State.board_setBoard_ne _ _ hk).trans (by simp [State.board])
  · simp [State.instant]

end

/-! ## What a board makes of a batch (R168 to R171) -/

theorem clampTo_eq_min (hi n : Nat) : clampTo hi n = min hi n := Nat.min_comm ..

section
variable {x : Board} {b src q r : Nat} {y : Applied} {bs : List Byte}

theorem applyBatch_of_rejected (h : judgeBatch x b src bs = .error r) (hst : x.st ≠ 0) :
    applyBatch x b src bs
      = { (x.putBatchFields x.lastSeq r) with rejectPending := true, rejected := clampTo 0xFFFFFFFF (x.rejected + 1) } := by
  simp [applyBatch, h, hst]

theorem applyBatch_of_accepted (h : judgeBatch x b src bs = .ok (y, q)) :
    applyBatch x b src bs = { (x.putBatchFields q 0) with
      vals := y.vals, set := y.set, accepted := clampTo 0xFFFFFFFF (x.accepted + 1), refactor := x.refactor || batchRefactors x y
      factor := if batchRefactors x y then none else x.factor, adapt := if y.rhoSet then 0x3F800000 else x.adapt
      warm := if y.reset then none else x.warm } := by
  simp [applyBatch, h]

/-- An accepted batch comes from the board's writer for a resident board, and leaves numbers and settings that pass the checks (R169). -/
theorem judgeBatch_ok (h : judgeBatch x b src bs = .ok (y, q)) :
    q = leAt bs 8 4 ∧ settingsOk y.set = true ∧ boundsCross y.vals = false ∧ src = x.desc.writer ∧ x.st = 2 := by
  unfold judgeBatch at h
  repeat' split at h
  all_goals simp_all

end

/-- Settles O22: MOVE_BATCH and BATCH_TAKE by their own lemmas; what a board makes of a batch is what `judgeBatch` answers. -/
theorem batchesOfMovesAreTakenWhole : Obligations.BatchesOfMovesAreTakenWhole := by
  unfold Obligations.BatchesOfMovesAreTakenWhole
  refine ⟨fun _ _ _ _ _ hb h => State.moveBatch_completes hb h,
    fun _ _ _ _ _ _ _ _ hq hsup hpause hfree hw => State.batchTake_completes hq hsup hpause hfree hw,
    fun x b src r bs hbad hst => ?_, fun x b src q y bs hok => ?_⟩
  · rw [applyBatch_of_rejected hbad hst]
    exact ⟨rfl, rfl, rfl, rfl, rfl, rfl, clampTo_eq_min .., rfl⟩
  · obtain ⟨rfl, hset, hcross, hwriter, hst⟩ := judgeBatch_ok hok
    rw [applyBatch_of_accepted hok]
    exact ⟨rfl, rfl, rfl, rfl, rfl, clampTo_eq_min .., rfl, hset, hcross, hwriter, hst⟩

end Sys2Proof.Machine
end

section
/-!
SUPPORT. What happens to a board number beside its numbers: deferred batches, a waiting request that ends, and the choice of a home leave
what a load gave the board (R160, R194, R207).
-/
namespace Sys2Proof.Machine

/-- What a load gives a board: its state, source and descriptor, and that none is being written. -/
def Board.loaded (x : Board) : Nat × Nat × Desc × Option (List Byte) := (x.st, x.source, x.desc, x.loading)

/-- What a board's position says of its last outcome: status, validity and SOLVE_ID. -/
def Board.outcome (x : Board) : Nat × Bool × Nat := (x.pos.status, x.pos.valid, x.pos.solveId)

section
variable {b src : Nat} {bs : List Byte} {x : Board}

/-- A batch changes neither the board's descriptor nor its outcome. -/
theorem applyBatch_keeps : (applyBatch x b src bs).loaded = x.loaded ∧ (applyBatch x b src bs).outcome = x.outcome := by
  unfold applyBatch
  split
  · split <;> exact ⟨rfl, rfl⟩
  · exact ⟨rfl, rfl⟩

theorem applyLeading_keeps (l : List QItem) : (applyLeading b l x).loaded = x.loaded ∧ (applyLeading b l x).outcome = x.outcome := by
  induction l generalizing x with
  | nil => exact ⟨rfl, rfl⟩
  | cons i l ih =>
    cases i with
    | req r => exact ⟨rfl, rfl⟩
    | batch src hi bs =>
      obtain ⟨hl, ho⟩ := ih (x := { applyBatch x b src bs with queue := l })
      obtain ⟨hl', ho'⟩ := applyBatch_keeps (x := x) (b := b) (src := src) (bs := bs)
      exact ⟨hl.trans hl', ho.trans ho'⟩

end

/-- From `s` to `t` the copies in flash, every other board and what a load gave board `b` stand. -/
structure KeepsLoads (b : Nat) (s t : State) : Prop where
  flash : t.frame.flash = s.frame.flash
  others : ∀ k, k ≠ b → t.board k = s.board k
  loaded : (t.board b).loaded = (s.board b).loaded

section
variable {b id h : Nat} {s t u : State} {x : Board} {r : SolveReq} {e : SolveEnd}

theorem State.board_congr (hf : t.frame = s.frame) (k : Nat) : t.board k = s.board k := by rw [State.board, hf, State.board]

theorem KeepsLoads.trans (hs : KeepsLoads b s t) (ht : KeepsLoads b t u) : KeepsLoads b s u :=
  ⟨ht.flash.trans hs.flash, fun k hk => (ht.others k hk).trans (hs.others k hk), ht.loaded.trans hs.loaded⟩

theorem KeepsLoads.of_frame (hf : t.frame = s.frame) : KeepsLoads b s t :=
  ⟨congrArg FrameSt.flash hf, fun k _ => State.board_congr hf k, congrArg Board.loaded (State.board_congr hf b)⟩

theorem KeepsLoads.setBoard (hx : x.loaded = (s.board b).loaded) : KeepsLoads b s (s.setBoard b x) :=
  ⟨rfl, fun _ hk => State.board_setBoard_ne s x hk, by rw [State.board_setBoard_self, hx]⟩

/-- The parts of the Frame that record an outcome hold no board. -/
theorem KeepsLoads.of_boards (hb : t.frame.boards = s.frame.boards) (hf : t.frame.flash = s.frame.flash) : KeepsLoads b s t := by
  have hboard (k : Nat) : t.board k = s.board k := by rw [State.board, hb, State.board]
  exact ⟨hf, fun k _ => hboard k, congrArg Board.loaded (hboard b)⟩

/-! ## Deferred batches (R170, R198) -/

theorem State.settleQueue_keepsLoads : KeepsLoads b s (s.settleQueue b) := by
  unfold State.settleQueue
  dsimp only
  split
  · exact .of_frame rfl
  · exact .setBoard (applyLeading_keeps _).1

theorem State.outcome_settleQueue : ((s.settleQueue b).board b).outcome = (s.board b).outcome := by
  unfold State.settleQueue
  dsimp only
  split
  · rfl
  · rw [State.board_setBoard_self]
    exact (applyLeading_keeps _).2

theorem Frame.settleQueue {ps : List Part} {es : List Ent} {rs : List Nat} (hs : Frame ps es rs s t) (hp : Part.frame ∈ ps) :
    Frame ps es rs s (t.settleQueue b) := by
  unfold State.settleQueue
  exact .ite (fun _ => hs) (fun _ => hs.setBoard hp)

/-! ## The end of a request that was not dispatched (R205, R208) -/

/-- What a request that ends with BOARD_INVALID may report. -/
def invalidEnts (b : Nat) : List Ent :=
  [E.Solve.LAST_SOLVE_ID b, E.Solve.LAST_STATUS b, E.Solve.LAST_FLAGS b, E.Solve.LAST_OUTCOME_TB3 b, E.Solve.INVALID_COUNT b, E.Solve.WAIT_MAX b,
   E.Solve.SLACK_MIN b, E.Frame.PERTURBED_TOTAL, E.Frame.REFACTORS_TOTAL, E.Frame.NUMERIC_FAULTS]

/-- From `s` to `y` such an end is reported; the Frame holds `f`. -/
structure ReportsEnd (b : Nat) (f : FrameSt) (s y : State) : Prop where
  report : Frame [.frame] (invalidEnts b) [26] s y
  frame : y.frame = f

theorem ReportsEnd.put {f : FrameSt} {a : Ent} {v : Value} (hs : ReportsEnd b f s t) (ha : a ∈ invalidEnts b) : ReportsEnd b f s (t.put a v) :=
  ⟨hs.report.put ha, hs.frame⟩

theorem ReportsEnd.raise {f : FrameSt} {a : Ent} {n : Nat} (hs : ReportsEnd b f s t) (ha : a ∈ invalidEnts b) : ReportsEnd b f s (t.raise a n) :=
  ⟨hs.report.raise ha, (State.raise_frame ..).trans hs.frame⟩

theorem ReportsEnd.ite {f : FrameSt} {c : Prop} [Decidable c] (ht : c → ReportsEnd b f s t) (hu : ¬c → ReportsEnd b f s u) :
    ReportsEnd b f s (if c then t else u) := by
  split
  · exact ht ‹_›
  · exact hu ‹_›

/-- It is a record of the outcome, a new position of the board and then the batches that the request held up. -/
theorem State.endRequest_undispatched : ∃ (y : State) (x : Board), s.endRequest b r none 0x13 e = y.settleQueue b
    ∧ Frame [.frame] (invalidEnts b) [26] s y ∧ x.loaded = (s.board b).loaded ∧ y.frame.boards = (s.setBoard b x).frame.boards
    ∧ y.frame.flash = s.frame.flash := by
  unfold State.endRequest
  extract_lets +onlyGivenNames s1 x flags x2 x3 s4 s5 s6 s7 wait exec s8 s9 slack s10 s11 d s12 s13
  have hx : x3.loaded = (s.board b).loaded := by
    unfold x3 x2
    dsimp only
    split <;> rfl
  have h5 : ReportsEnd b s4.frame s s5 := ⟨(((Frame.refl ..).with_frame (by simp)).setBoard (by simp)).with_frame (by simp), rfl⟩
  have h4 : s4.frame.boards = (s.setBoard b x3).frame.boards ∧ s4.frame.flash = s.frame.flash := ⟨rfl, rfl⟩
  generalize s4.frame = f at h5 h4
  clear_value s5 x3
  have h7 : ReportsEnd b f s s7 :=
    ((((h5.put (by simp [invalidEnts])).put (by simp [invalidEnts])).put (by simp [invalidEnts])).put (by simp [invalidEnts])).put
      (by simp [invalidEnts, outcomeCounter])
  clear_value s7
  have h9 : ReportsEnd b f s s9 := .ite (fun hn => nomatch hn) (fun _ => h7.raise (by simp [invalidEnts]))
  clear_value s9
  have h10 : ReportsEnd b f s s10 := .ite (fun _ => h9.put (by simp [invalidEnts])) (fun _ => h9)
  clear_value s10
  have h11 : ReportsEnd b f s s11 := ((h10.put (by simp [invalidEnts])).put (by simp [invalidEnts])).put (by simp [invalidEnts])
  clear_value s11
  have h13 : s13.frame = { f with ended := f.ended.put b d } :=
    (State.place_frame ..).trans (congrArg (fun f : FrameSt => { f with ended := f.ended.put b d }) h11.frame)
  have hstore : s13.frame.boards = (s.setBoard b x3).frame.boards ∧ s13.frame.flash = s.frame.flash := by
    rw [h13]
    exact h4
  exact ⟨s13, x3, congrArg (State.settleQueue · b) (List.foldl_nil ..), (h11.report.with_frame (by simp)).place (by simp), hx, hstore⟩

/-- A waiting request that ends with BOARD_INVALID leaves what a load gave its board. -/
theorem State.endWaiting_keepsLoads : KeepsLoads b s (s.endWaiting b r 0x13) := by
  unfold State.endWaiting
  dsimp only
  obtain ⟨y, x, hy, -, hx, hboards, hflash⟩ := State.endRequest_undispatched (b := b) (r := r) (e := noWork (s.board b))
    (s := s.setBoard b { s.board b with queue := (s.board b).queue.filter (fun q => q != .req r) })
  have hqueue : KeepsLoads b s (s.setBoard b { s.board b with queue := (s.board b).queue.filter (fun q => q != .req r) }) := .setBoard rfl
  rw [hy]
  exact ((hqueue.trans (.setBoard hx)).trans (.of_boards hboards hflash)).trans State.settleQueue_keepsLoads

theorem State.endWaiting_frame : Frame [.frame] (invalidEnts b) [26] s (s.endWaiting b r 0x13) := by
  unfold State.endWaiting
  dsimp only
  obtain ⟨y, x, hy, hframe, -⟩ := State.endRequest_undispatched (b := b) (r := r) (e := noWork (s.board b))
    (s := s.setBoard b { s.board b with queue := (s.board b).queue.filter (fun q => q != .req r) })
  rw [hy]
  exact (((Frame.refl ..).setBoard (by simp)).trans hframe).settleQueue (by simp)

/-! ## The choice of a home (R193, R194, R215) -/

theorem Frame.homeChanged {ps : List Part} {es : List Ent} {rs : List Nat} (hs : Frame ps es rs s t) (hp : Part.ledger ∈ ps)
    (he : E.Solve.HOME_ACTIVE b ∈ es) (hr : 28 ∈ rs) : Frame ps es rs s (t.homeChanged b id h) := (hs.wr he).log hp hr

theorem State.rd_homeChanged : (s.homeChanged b id 0xFF).rd (E.Solve.HOME_ACTIVE b) = 0xFF := by
  have hlog : Frame [.ledger] [] [28] (s.wr (E.Solve.HOME_ACTIVE b) 0xFF) (s.homeChanged b id 0xFF) := (Frame.refl ..).log (by simp) (by simp)
  exact (hlog.rd (by simp) (by simp) (by simp [E.Solve.HOME_ACTIVE, entN]; omega)).trans (State.rd_wr_self ..)

/-- For a board that runs no solve the choice leaves HOME_ACTIVE, changes it, or finds no home and ends the waiting request. -/
theorem State.chooseHome_of_idle (hrun : (s.board b).run = none) :
    s.chooseHome b = s ∨ (∃ h, s.chooseHome b = s.homeChanged b 0 h)
      ∨ ∃ r, s.chooseHome b = (s.homeChanged b 0 0xFF).endWaiting b r 0x13 := by
  unfold State.chooseHome
  dsimp only
  rw [hrun]
  split
  · exact .inl rfl
  · split
    · exact .inl rfl
    · split
      · exact .inr (.inl ⟨_, rfl⟩)
      · next hh =>
        have hff : s.homeFor b = 0xFF := by simpa using hh
        rw [hff]
        split
        · exact .inr (.inr ⟨_, rfl⟩)
        · exact .inr (.inl ⟨_, rfl⟩)

theorem State.frame_homeChanged : (s.homeChanged b id h).frame = s.frame := by simp [State.homeChanged]

theorem State.homeChanged_keepsLoads : KeepsLoads b s (s.homeChanged b id h) := .of_frame State.frame_homeChanged

theorem State.chooseHome_keepsLoads (hrun : (s.board b).run = none) : KeepsLoads b s (s.chooseHome b) := by
  rcases State.chooseHome_of_idle hrun with hc | ⟨h, hc⟩ | ⟨r, hc⟩ <;> rw [hc]
  · exact .of_frame rfl
  · exact State.homeChanged_keepsLoads
  · exact State.homeChanged_keepsLoads.trans State.endWaiting_keepsLoads

/-- What the choice of a home may report. -/
def homeEnts (b : Nat) : List Ent := E.Solve.HOME_ACTIVE b :: invalidEnts b

theorem State.chooseHome_frame (hrun : (s.board b).run = none) : Frame [.frame, .ledger] (homeEnts b) [26, 28] s (s.chooseHome b) := by
  have hchanged (h : Nat) : Frame [.frame, .ledger] (homeEnts b) [26, 28] s (s.homeChanged b 0 h) :=
    (Frame.refl ..).homeChanged (by simp) (by simp [homeEnts]) (by simp)
  rcases State.chooseHome_of_idle hrun with hc | ⟨h, hc⟩ | ⟨r, hc⟩ <;> rw [hc]
  · exact .refl ..
  · exact hchanged h
  · exact (hchanged 0xFF).trans (State.endWaiting_frame.mono (by simp) (fun _ he => .tail _ he) (by simp))

theorem homeActive_alone (b : Nat) : ∀ f ∈ invalidEnts b, (E.Solve.HOME_ACTIVE b).key ≠ f.key := by
  simp [invalidEnts, E.Solve.HOME_ACTIVE, E.Solve.LAST_SOLVE_ID, E.Solve.LAST_STATUS, E.Solve.LAST_FLAGS, E.Solve.LAST_OUTCOME_TB3,
    E.Solve.INVALID_COUNT, E.Solve.WAIT_MAX, E.Solve.SLACK_MIN, E.Frame.PERTURBED_TOTAL, E.Frame.REFACTORS_TOTAL, E.Frame.NUMERIC_FAULTS, entN]
  omega

/-- A board that has a home after the choice had no request ended by it. -/
theorem State.chooseHome_of_home (hrun : (s.board b).run = none) (hh : (s.chooseHome b).rd (E.Solve.HOME_ACTIVE b) ≠ 0xFF) :
    s.chooseHome b = s ∨ ∃ h, s.chooseHome b = s.homeChanged b 0 h := by
  rcases State.chooseHome_of_idle hrun with hc | hc | ⟨r, hc⟩
  · exact .inl hc
  · exact .inr hc
  · have hkept := (State.endWaiting_frame (b := b) (r := r) (s := s.homeChanged b 0 0xFF)).rd (e := E.Solve.HOME_ACTIVE b) (by simp)
      (homeActive_alone b) (by simp [E.Solve.HOME_ACTIVE, entN]; omega)
    rw [hc, hkept, State.rd_homeChanged] at hh
    exact absurd rfl hh

end

end Sys2Proof.Machine
end

section
/-!
SUPPORT. A descriptor that becomes the resident board of its number (R160, R207), and the staging of the Frame (R159).
-/
namespace Sys2Proof.Machine

section
variable {s t : State} {b src : Nat} {bs : List Byte}

/-! ## The record of a board (R207, R208) -/

/-- The entries that say what a board's last outcome was. -/
def recordEnts (b : Nat) : List Ent := [E.Solve.LAST_SOLVE_ID b, E.Solve.LAST_STATUS b, E.Solve.LAST_FLAGS b, E.Solve.LAST_OUTCOME_TB3 b]

theorem Frame.clearRecord {ps : List Part} {es : List Ent} {rs : List Nat} (h : Frame ps es rs s t) (he : ∀ e ∈ recordEnts b, e ∈ es) :
    Frame ps es rs s (t.clearRecord b) := by
  simp only [recordEnts, List.forall_mem_cons] at he
  obtain ⟨hid, hstatus, hflags, htb3, -⟩ := he
  exact (((h.wr hid).wr hstatus).wr hflags).wr htb3

theorem State.frame_clearRecord : (s.clearRecord b).frame = s.frame := by simp [State.clearRecord]

/-- The record says that no outcome came since the load. -/
def State.noOutcome (s : State) (b : Nat) : Prop := s.rd (E.Solve.LAST_STATUS b) = 0x13 ∧ s.rd (E.Solve.LAST_SOLVE_ID b) = 0

theorem State.noOutcome_clearRecord : (s.clearRecord b).noOutcome b := by
  constructor
  · rw [State.clearRecord, State.rd_wr_ne _ _ _ _ (by simp [E.Solve.LAST_STATUS, E.Solve.LAST_OUTCOME_TB3, entN]),
      State.rd_wr_ne _ _ _ _ (by simp [E.Solve.LAST_STATUS, E.Solve.LAST_FLAGS, entN]), State.rd_wr_self]
    rfl
  · rw [State.clearRecord, State.rd_wr_ne _ _ _ _ (by simp [E.Solve.LAST_SOLVE_ID, E.Solve.LAST_OUTCOME_TB3, entN]),
      State.rd_wr_ne _ _ _ _ (by simp [E.Solve.LAST_SOLVE_ID, E.Solve.LAST_FLAGS, entN]),
      State.rd_wr_ne _ _ _ _ (by simp [E.Solve.LAST_SOLVE_ID, E.Solve.LAST_STATUS, entN]), State.rd_wr_self, Nat.zero_mod]

/-- What leaves those two entries alone leaves the record. -/
theorem Frame.noOutcome {ps : List Part} {es : List Ent} {rs : List Nat} (h : Frame ps es rs s t) (hp : Part.rt ∉ ps)
    (he : ∀ f ∈ es, (E.Solve.LAST_STATUS b).key ≠ f.key ∧ (E.Solve.LAST_SOLVE_ID b).key ≠ f.key) (hr : ∀ r ∈ rs, r < 48)
    (hs : s.noOutcome b) : t.noOutcome b := by
  obtain ⟨hstatus, hid⟩ := hs
  refine ⟨(h.rd hp (fun f hf => (he f hf).1) fun r hr' => ?_).trans hstatus, (h.rd hp (fun f hf => (he f hf).2) fun r hr' => ?_).trans hid⟩ <;>
  · have := hr r hr'
    simp only [E.Solve.LAST_STATUS, E.Solve.LAST_SOLVE_ID, entN]
    omega

/-! ## A checked descriptor becomes resident (R160, R207) -/

/-- The module right after the descriptor has become the board, before its home is chosen. -/
def State.seated (s : State) (b src : Nat) (bs : List Byte) : State := (s.setBoard b (loadBoard (s.board b) src bs)).clearRecord b

theorem State.makeResident_eq : s.makeResident b src bs = ((s.seated b src bs).chooseHome b).settleQueue b := rfl

theorem State.board_seated : (s.seated b src bs).board b = loadBoard (s.board b) src bs :=
  (State.board_congr State.frame_clearRecord b).trans (State.board_setBoard_self ..)

theorem State.seated_frame : Frame [.frame, .ledger] (homeEnts b) [26, 28] s (s.seated b src bs) :=
  ((Frame.refl ..).setBoard (by simp)).clearRecord (by simp [recordEnts, homeEnts, invalidEnts])

theorem State.makeResident_frame : Frame [.frame, .ledger] (homeEnts b) [26, 28] s (s.makeResident b src bs) :=
  (State.seated_frame.trans (State.chooseHome_frame (by rw [State.board_seated]; rfl))).settleQueue (by simp)

/-- A load gives the board its state, source and descriptor, and touches no other board and no copy in flash. -/
theorem State.makeResident_loads :
    (((s.makeResident b src bs).board b).st = 2 ∧ ((s.makeResident b src bs).board b).source = src
      ∧ ((s.makeResident b src bs).board b).desc = readDesc bs ∧ ((s.makeResident b src bs).board b).loading = none)
    ∧ (∀ k, k ≠ b → (s.makeResident b src bs).board k = s.board k) ∧ (s.makeResident b src bs).frame.flash = s.frame.flash := by
  obtain ⟨hflash, hothers, hloaded⟩ := (State.chooseHome_keepsLoads (b := b) (s := s.seated b src bs) (by rw [State.board_seated]; rfl)).trans
    State.settleQueue_keepsLoads
  have hseated : (s.seated b src bs).frame = (s.setBoard b (loadBoard (s.board b) src bs)).frame := State.frame_clearRecord
  refine ⟨?_, fun k hk => (hothers k hk).trans ((State.board_congr hseated k).trans (State.board_setBoard_ne _ _ hk)),
    hflash.trans ((congrArg FrameSt.flash hseated).trans rfl)⟩
  rw [← State.makeResident_eq, State.board_seated] at hloaded
  simp only [Board.loaded, Prod.mk.injEq] at hloaded
  exact hloaded

/-- A board that has a home shows no outcome since its load (R207). -/
theorem State.makeResident_fresh (hh : (s.makeResident b src bs).rd (E.Solve.HOME_ACTIVE b) ≠ 0xFF) :
    ((s.makeResident b src bs).board b).pos.status = 0x13 ∧ ((s.makeResident b src bs).board b).pos.valid = false
      ∧ ((s.makeResident b src bs).board b).pos.solveId = 0 ∧ (s.makeResident b src bs).noOutcome b := by
  have hrun : ((s.seated b src bs).board b).run = none := by rw [State.board_seated]; rfl
  have hsettled : Frame [.frame] [] [] ((s.seated b src bs).chooseHome b) (s.makeResident b src bs) := (Frame.refl ..).settleQueue (by simp)
  have hchosen : Frame [.ledger] [E.Solve.HOME_ACTIVE b] [28] (s.seated b src bs) ((s.seated b src bs).chooseHome b)
      ∧ ((s.seated b src bs).chooseHome b).frame = (s.seated b src bs).frame := by
    rw [hsettled.rd (by simp) (by simp) (by simp)] at hh
    rcases State.chooseHome_of_home hrun hh with hc | ⟨h, hc⟩ <;> rw [hc]
    · exact ⟨.refl .., rfl⟩
    · exact ⟨(Frame.refl ..).homeChanged (by simp) (by simp) (by simp), State.frame_homeChanged⟩
  have hout : ((s.makeResident b src bs).board b).outcome = (loadBoard (s.board b) src bs).outcome := by
    rw [State.makeResident_eq, State.outcome_settleQueue, State.board_congr hchosen.2, State.board_seated]
  have hrecord : (s.makeResident b src bs).noOutcome b := by
    refine hsettled.noOutcome (by simp) (by simp) (by simp) (hchosen.1.noOutcome (by simp) ?_ (by simp) State.noOutcome_clearRecord)
    simp [E.Solve.LAST_STATUS, E.Solve.LAST_SOLVE_ID, E.Solve.HOME_ACTIVE, entN]
  simp only [Board.outcome, Prod.mk.injEq] at hout
  obtain ⟨hstatus, hvalid, hid⟩ := hout
  exact ⟨hstatus, hvalid, hid, hrecord⟩

/-! ## Frame staging (R159) -/

theorem State.rd_raise_self (s : State) {e : Ent} {n : Nat} (hn : n < 2 ^ Ty.bits e.ty) : (s.raise e n).rd e = max (s.rd e) n := by
  unfold State.raise
  split
  · rw [State.rd_wr_self, Nat.mod_eq_of_lt hn]
    omega
  · omega

/-- No check of a load numbers more than 8 before the store is asked for room (Table FRM-4). -/
theorem descResult_le (bs : List Byte) (ts : Option (List Nat)) : descResult bs ts ≤ 8 := by
  unfold descResult
  dsimp only
  repeat' split
  all_goals omega

end

end Sys2Proof.Machine
end

section
/-!
O21. The writes of Frame staging and the three events of a board number, each by what its effect leaves.
-/
namespace Sys2Proof.Machine

section
variable {s : State} {at_ b n : Nat} {w : Writer} {bs : List Byte}

/-! ## LOAD_DATA and LOAD_CLEAR (R159) -/

/-- The commands of Table FRM-13 store nothing. -/
theorem tableRow_frameCommand : ∀ e ∈ [E.Frame.LOAD_DATA, E.Frame.LOAD_CLEAR, E.Frame.LOAD_COMMIT, E.Frame.UNLOAD_BOARD],
    ∃ row : Row, tableRow e.key = some (row, e) ∧ row.ret = .volatile ∧ row.acc = .wo := by
  simp only [List.forall_mem_cons, List.not_mem_nil, false_implies, implies_true, and_true]
  exact ⟨⟨_, rfl, rfl, rfl⟩, ⟨_, rfl, rfl, rfl⟩, ⟨_, rfl, rfl, rfl⟩, ⟨_, rfl, rfl, rfl⟩⟩

/-- Where staging and its length stand. -/
def stagingEnts : List Ent := [E.Frame.LOAD_OFFSET, E.Frame.LOAD_LENGTH]

theorem State.effLoadData_frame : Frame [.frame] stagingEnts [] s (s.effLoadData bs) :=
  (((Frame.refl ..).with_frame (by simp)).wr (by simp [stagingEnts])).raise (by simp [stagingEnts])

theorem State.rd_effLoadData (hroom : s.rd E.Frame.LOAD_OFFSET + bs.length ≤ 1048576) :
    (s.effLoadData bs).rd E.Frame.LOAD_OFFSET = s.rd E.Frame.LOAD_OFFSET + bs.length
      ∧ (s.effLoadData bs).rd E.Frame.LOAD_LENGTH = max (s.rd E.Frame.LOAD_LENGTH) (s.rd E.Frame.LOAD_OFFSET + bs.length) := by
  have hlt : s.rd E.Frame.LOAD_OFFSET + bs.length < 2 ^ Ty.bits .u32 := by
    have : 2 ^ Ty.bits .u32 = 4294967296 := rfl
    omega
  constructor
  · rw [State.effLoadData, State.rd_raise_ne _ _ _ _ (by decide), State.rd_wr_self]
    exact Nat.mod_eq_of_lt hlt
  · rw [State.effLoadData, State.rd_raise_self _ hlt, State.rd_wr_ne _ _ _ _ (by decide)]
    rfl

theorem State.loadData_completes (h : s.accepts at_ w E.Frame.LOAD_DATA.key .octets (.bytes bs)) :
    Completes (.loadData at_ w bs) s (fun t => t.odStatus = 0 ∧ t.rd E.Frame.LOAD_OFFSET = s.rd E.Frame.LOAD_OFFSET + bs.length
      ∧ t.rd E.Frame.LOAD_LENGTH = max (s.rd E.Frame.LOAD_LENGTH) (s.rd E.Frame.LOAD_OFFSET + bs.length)
      ∧ (∀ i < bs.length, t.frame.staging.read (s.rd E.Frame.LOAD_OFFSET + i) = bs.getD i 0)
      ∧ (∀ k, k < s.rd E.Frame.LOAD_OFFSET ∨ s.rd E.Frame.LOAD_OFFSET + bs.length ≤ k → t.frame.staging.read k = s.frame.staging.read k)
      ∧ t.frame.boards = s.frame.boards ∧ t.now = s.instant at_ ∧ Frame [.answer, .frame] (stagingEnts ++ genEnts) [] s t) := by
  obtain ⟨row, hr, hrow⟩ := tableRow_frameCommand E.Frame.LOAD_DATA (by simp)
  obtain ⟨hstep, hcheck⟩ := State.writeStep_frameCommand h hr hrow (by decide) (by decide) rfl rfl
  have hroom : s.rd E.Frame.LOAD_OFFSET + bs.length ≤ 1048576 := by
    by_contra hn
    have hbad : (s.advance at_).chkLoadData bs.length = 0 := hcheck
    simp [State.chkLoadData, need, stRange, hn] at hbad
  obtain ⟨hoffset, hlength⟩ := State.rd_effLoadData (s := s.advance at_) hroom
  have hframe : ((s.advance at_).effLoadData bs).frame
      = { s.frame with staging := s.frame.staging.writeList (s.rd E.Frame.LOAD_OFFSET) bs } := State.raise_frame ..
  refine ⟨((s.advance at_).effLoadData bs).answered, congrArg Host.Outcome.next hstep, rfl, ?_, ?_, fun i hi => ?_, fun k hk => ?_, ?_, ?_,
    ((Frame.refl ..).advance.trans (State.effLoadData_frame.mono (by simp) (by simp) (by simp))).answered (by simp)⟩
  · rw [State.rd_answered _ (by decide), hoffset]
    rfl
  · rw [State.rd_answered _ (by decide), hlength]
    rfl
  · rw [State.frame_answered, hframe, List.getD_eq_getElem _ _ hi]
    exact Memory.read_writeList_inside _ _ _ _ hi
  · rw [State.frame_answered, hframe]
    exact Memory.read_writeList_outside _ _ _ _ hk
  · rw [State.frame_answered, hframe]
  · simp [State.instant]

theorem State.effLoadClear_frame : Frame [.frame] stagingEnts [] s s.effLoadClear :=
  (((Frame.refl ..).with_frame (by simp)).wr (by simp [stagingEnts])).wr (by simp [stagingEnts])

theorem State.effLoadClear_empty : s.effLoadClear.rd E.Frame.LOAD_OFFSET = 0 ∧ s.effLoadClear.rd E.Frame.LOAD_LENGTH = 0
    ∧ s.effLoadClear.frame = { s.frame with staging := {} } := by
  refine ⟨?_, ?_, rfl⟩
  · rw [State.effLoadClear, State.rd_wr_ne _ _ _ _ (by decide), State.rd_wr_self, Nat.zero_mod]
  · rw [State.effLoadClear, State.rd_wr_self, Nat.zero_mod]

theorem State.loadClear_completes (h : s.accepts at_ w E.Frame.LOAD_CLEAR.key .bool (.num 1)) :
    Completes (.loadClear at_ w) s (fun t => t.odStatus = 0 ∧ t.rd E.Frame.LOAD_OFFSET = 0 ∧ t.rd E.Frame.LOAD_LENGTH = 0
      ∧ t.frame = { s.frame with staging := {} } ∧ t.now = s.instant at_ ∧ Frame [.answer, .frame] (stagingEnts ++ genEnts) [] s t) := by
  obtain ⟨row, hr, hrow⟩ := tableRow_frameCommand E.Frame.LOAD_CLEAR (by simp)
  obtain ⟨hstep, -⟩ := State.writeStep_frameCommand h hr hrow (by decide) (by decide) rfl rfl
  obtain ⟨hoffset, hlength, hframe⟩ := State.effLoadClear_empty (s := s.advance at_)
  refine ⟨(s.advance at_).effLoadClear.answered, congrArg Host.Outcome.next hstep, rfl, ?_, ?_, ?_, ?_,
    ((Frame.refl ..).advance.trans (State.effLoadClear_frame.mono (by simp) (by simp) (by simp))).answered (by simp)⟩
  · rw [State.rd_answered _ (by decide), hoffset]
  · rw [State.rd_answered _ (by decide), hlength]
  · exact (State.frame_answered _).trans hframe
  · simp [State.instant]

/-! ## LOAD_COMMIT (R159, R160) -/

/-- The module as a LOAD_COMMIT with LOAD_RESULT `r` leaves staging, its nonce renewed (R159). -/
def State.loadReported (s : State) (at_ r : Nat) : State := ((s.advance at_).renew E.Frame.LOAD_NONCE).effLoadClear.wr E.Frame.LOAD_RESULT r

/-- What LOAD_COMMIT reports. -/
def commitEnts : List Ent := [E.Frame.LOAD_OFFSET, E.Frame.LOAD_LENGTH, E.Frame.LOAD_RESULT, E.Frame.LOAD_NONCE]

theorem State.loadReported_frame (r : Nat) : Frame [.frame, .free] commitEnts [] s (s.loadReported at_ r) :=
  (((Frame.refl ..).advance.renew (by simp [commitEnts]) (by simp)).trans
    (State.effLoadClear_frame.mono (by simp) (by simp [stagingEnts, commitEnts]) (by simp))).wr (by simp [commitEnts])

theorem State.loadReported_now (r : Nat) : (s.loadReported at_ r).now = s.instant at_ := rfl

theorem State.frame_loadReported (r : Nat) : (s.loadReported at_ r).frame = { s.frame with staging := {} } := rfl

theorem State.rd_loadReported {r : Nat} (hr : r < 256) : (s.loadReported at_ r).rd E.Frame.LOAD_RESULT = r
    ∧ (s.loadReported at_ r).rd E.Frame.LOAD_LENGTH = 0 ∧ (s.loadReported at_ r).rd E.Frame.LOAD_OFFSET = 0 := by
  obtain ⟨hoffset, hlength, -⟩ := State.effLoadClear_empty (s := (s.advance at_).renew E.Frame.LOAD_NONCE)
  refine ⟨?_, ?_, ?_⟩
  · rw [State.loadReported, State.rd_wr_self]
    exact Nat.mod_eq_of_lt hr
  · rw [State.loadReported, State.rd_wr_ne _ _ _ _ (by decide), hlength]
  · rw [State.loadReported, State.rd_wr_ne _ _ _ _ (by decide), hoffset]

/-- The result of a load of descriptor `bs` onto board `b`: the checks of Table FRM-4 in order. -/
def State.loadResult (s : State) (b : Nat) (bs : List Byte) : Nat :=
  if descResult bs none != 0 then descResult bs none
  else if 4032 < s.pagesUsed b + footPages (readDesc bs) then 0x09 else if s.archiveBoard b then 0x0A else 0

/-- An accepted LOAD_COMMIT: its result, and a descriptor that passes goes to its board. -/
theorem State.writeStep_loadCommit (h : s.accepts at_ w E.Frame.LOAD_COMMIT.key .u32 (.num n))
    (hbs : bs = s.frame.staging.readList 0 (s.rd E.Frame.LOAD_LENGTH)) (hb : b = s.rd E.Frame.LOAD_BOARD) :
    (s.advance at_).writeStep w E.Frame.LOAD_COMMIT.key .u32 (.num n)
      = (if s.loadResult b bs != 0 then s.loadReported at_ (s.loadResult b bs)
          else ((s.loadReported at_ (s.loadResult b bs)).keepBoard b bs).placeBoard b bs).answered := by
  obtain ⟨row, hr, hrow⟩ := tableRow_frameCommand E.Frame.LOAD_COMMIT (by simp)
  obtain ⟨hstep, -⟩ := State.writeStep_frameCommand (x := (s.advance at_).renew E.Frame.LOAD_NONCE) h hr hrow (by decide) (by decide) rfl rfl
  have hrenew : Frame [.free] [E.Frame.LOAD_NONCE] [] s ((s.advance at_).renew E.Frame.LOAD_NONCE) :=
    (Frame.refl ..).advance.renew (by simp) (by simp)
  have hboard := hrenew.rd (e := E.Frame.LOAD_BOARD) (by simp) (by decide) (by simp)
  have hlength := hrenew.rd (e := E.Frame.LOAD_LENGTH) (by simp) (by decide) (by simp)
  have heff : ((s.advance at_).renew E.Frame.LOAD_NONCE).effLoadCommit
      = if s.loadResult b bs != 0 then s.loadReported at_ (s.loadResult b bs)
          else ((s.loadReported at_ (s.loadResult b bs)).keepBoard b bs).placeBoard b bs := by
    rw [State.effLoadCommit, hboard, hlength, ← hb]
    subst hbs
    rfl
  exact hstep.trans (congrArg State.answered heff)

theorem State.loadCommit_refused (h : s.accepts at_ w E.Frame.LOAD_COMMIT.key .u32 (.num n))
    (hbs : bs = s.frame.staging.readList 0 (s.rd E.Frame.LOAD_LENGTH)) (hbad : descResult bs none ≠ 0) :
    Completes (.loadCommit at_ w n) s (fun t => t.odStatus = 0 ∧ t.rd E.Frame.LOAD_RESULT = descResult bs none ∧ t.rd E.Frame.LOAD_LENGTH = 0
      ∧ t.rd E.Frame.LOAD_OFFSET = 0 ∧ t.frame = { s.frame with staging := {} } ∧ t.now = s.instant at_
      ∧ Frame [.answer, .frame, .free] (commitEnts ++ genEnts) [] s t) := by
  have hresult : s.loadResult (s.rd E.Frame.LOAD_BOARD) bs = descResult bs none := by simp [State.loadResult, hbad]
  have hstep := State.writeStep_loadCommit h hbs rfl
  rw [hresult, if_pos (by simpa using hbad)] at hstep
  have hle := descResult_le bs none
  obtain ⟨hreported, hlength, hoffset⟩ := State.rd_loadReported (s := s) (at_ := at_) (r := descResult bs none) (by omega)
  refine ⟨_, congrArg Host.Outcome.next hstep, rfl, ?_, ?_, ?_, (State.frame_answered _).trans (State.frame_loadReported _),
    (State.answered_now _).trans (State.loadReported_now _),
    ((State.loadReported_frame _).mono (by simp) (by simp) (by simp)).answered (by simp)⟩
  · rw [State.rd_answered _ (by decide), hreported]
  · rw [State.rd_answered _ (by decide), hlength]
  · rw [State.rd_answered _ (by decide), hoffset]

/-- The module with the descriptor in flash, before it goes to its board (R161). -/
def State.loadKept (s : State) (at_ b : Nat) (bs : List Byte) : State := (s.loadReported at_ 0).keepBoard b bs

theorem State.board_loadKept (k : Nat) : (s.loadKept at_ b bs).board k = s.board k := rfl

theorem State.flash_loadKept : (s.loadKept at_ b bs).frame.flash.find b = some bs := SMap.find_put_self ..

theorem State.loadKept_frame : Frame [.frame, .free] commitEnts [] s (s.loadKept at_ b bs) := (State.loadReported_frame 0).with_frame (by simp)

/-- A descriptor that passes every check, fits the store and names no board of the archive goes to its board. -/
theorem State.writeStep_loadCommit_passed (h : s.accepts at_ w E.Frame.LOAD_COMMIT.key .u32 (.num n))
    (hbs : bs = s.frame.staging.readList 0 (s.rd E.Frame.LOAD_LENGTH)) (hok : descResult bs none = 0) (hb : b = s.rd E.Frame.LOAD_BOARD)
    (hfits : s.pagesUsed b + footPages (readDesc bs) ≤ 4032) (harchive : s.archiveBoard b = false) :
    (s.advance at_).writeStep w E.Frame.LOAD_COMMIT.key .u32 (.num n) = ((s.loadKept at_ b bs).placeBoard b bs).answered := by
  have hresult : s.loadResult b bs = 0 := by simp [State.loadResult, hok, Nat.not_lt.2 hfits, harchive]
  rw [State.writeStep_loadCommit h hbs hb, hresult]
  rfl

theorem State.loadCommit_waits (h : s.accepts at_ w E.Frame.LOAD_COMMIT.key .u32 (.num n))
    (hbs : bs = s.frame.staging.readList 0 (s.rd E.Frame.LOAD_LENGTH)) (hok : descResult bs none = 0) (hb : b = s.rd E.Frame.LOAD_BOARD)
    (hfits : s.pagesUsed b + footPages (readDesc bs) ≤ 4032) (harchive : s.archiveBoard b = false) (hst : (s.board b).st = 2) :
    Completes (.loadCommit at_ w n) s (fun t => t.odStatus = 0 ∧ t.rd E.Frame.LOAD_RESULT = 0 ∧ t.frame.flash.find b = some bs
      ∧ t.board b = { s.board b with replace := some (some bs) } ∧ (∀ k, k ≠ b → t.board k = s.board k) ∧ t.now = s.instant at_
      ∧ Frame [.answer, .frame, .free] (commitEnts ++ genEnts) [] s t) := by
  have hstep := State.writeStep_loadCommit_passed h hbs hok hb hfits harchive
  have hplace : (s.loadKept at_ b bs).placeBoard b bs = (s.loadKept at_ b bs).setBoard b { s.board b with replace := some (some bs) } := if_pos hst
  rw [hplace] at hstep
  have hboard (k : Nat) := State.board_congr
    (State.frame_answered ((s.loadKept at_ b bs).setBoard b { s.board b with replace := some (some bs) })) k
  refine ⟨_, congrArg Host.Outcome.next hstep, rfl, ?_, ?_, (hboard b).trans (State.board_setBoard_self ..),
    fun k hk => (hboard k).trans ((State.board_setBoard_ne _ _ hk).trans (State.board_loadKept k)), State.answered_now _,
    ((State.loadKept_frame.setBoard (by simp)).mono (by simp) (by simp) (by simp)).answered (by simp)⟩
  · rw [State.rd_answered _ (by decide)]
    exact (State.rd_loadReported (s := s) (at_ := at_) (by decide)).1
  · rw [State.frame_answered]
    exact State.flash_loadKept

theorem homeActive_sub (b : Nat) : (E.Solve.HOME_ACTIVE b).key % 256 ≠ 0x0F := by
  simp only [E.Solve.HOME_ACTIVE, entN]
  omega

/-- LOAD_RESULT is none of a board's entries. -/
theorem loadResult_alone (b : Nat) : ∀ f ∈ homeEnts b, E.Frame.LOAD_RESULT.key ≠ f.key := by
  simp [homeEnts, invalidEnts, E.Solve.HOME_ACTIVE, E.Solve.LAST_SOLVE_ID, E.Solve.LAST_STATUS, E.Solve.LAST_FLAGS, E.Solve.LAST_OUTCOME_TB3,
    E.Solve.INVALID_COUNT, E.Solve.WAIT_MAX, E.Solve.SLACK_MIN, E.Frame.PERTURBED_TOTAL, E.Frame.REFACTORS_TOTAL, E.Frame.NUMERIC_FAULTS,
    E.Frame.LOAD_RESULT, entN]
  omega

theorem State.loadCommit_resident (h : s.accepts at_ w E.Frame.LOAD_COMMIT.key .u32 (.num n))
    (hbs : bs = s.frame.staging.readList 0 (s.rd E.Frame.LOAD_LENGTH)) (hok : descResult bs none = 0) (hb : b = s.rd E.Frame.LOAD_BOARD)
    (hfits : s.pagesUsed b + footPages (readDesc bs) ≤ 4032) (harchive : s.archiveBoard b = false) (hst : (s.board b).st ≠ 2) :
    Completes (.loadCommit at_ w n) s (fun t => t.odStatus = 0 ∧ t.rd E.Frame.LOAD_RESULT = 0 ∧ t.frame.flash.find b = some bs
      ∧ (t.board b).st = 2 ∧ (t.board b).source = 1 ∧ (t.board b).desc = readDesc bs
      ∧ (t.rd (E.Solve.HOME_ACTIVE b) ≠ 0xFF → (t.board b).pos.status = 0x13 ∧ (t.board b).pos.valid = false ∧ (t.board b).pos.solveId = 0
          ∧ t.rd (E.Solve.LAST_STATUS b) = 0x13 ∧ t.rd (E.Solve.LAST_SOLVE_ID b) = 0)
      ∧ (∀ k, k ≠ b → t.board k = s.board k) ∧ t.now = s.instant at_ ∧ Keeps [.answer, .frame, .free, .ledger] s t) := by
  have hstep := State.writeStep_loadCommit_passed h hbs hok hb hfits harchive
  have hplace : (s.loadKept at_ b bs).placeBoard b bs = (s.loadKept at_ b bs).makeResident b 1 bs := if_neg hst
  rw [hplace] at hstep
  obtain ⟨⟨hstate, hsource, hdesc, -⟩, hothers, hflash⟩ := State.makeResident_loads (s := s.loadKept at_ b bs) (b := b) (src := 1) (bs := bs)
  have hframe := State.makeResident_frame (s := s.loadKept at_ b bs) (b := b) (src := 1) (bs := bs)
  have hfresh := State.makeResident_fresh (s := s.loadKept at_ b bs) (b := b) (src := 1) (bs := bs)
  have hnow := State.makeResident_now (s := s.loadKept at_ b bs) b 1 bs
  generalize (s.loadKept at_ b bs).makeResident b 1 bs = y at *
  have hboard (k : Nat) : y.answered.board k = y.board k := State.board_congr (State.frame_answered y) k
  have hwhole : Frame [.answer, .frame, .free, .ledger] ((commitEnts ++ homeEnts b) ++ genEnts) [26, 28] s y.answered :=
    ((State.loadKept_frame.mono (by simp) (by simp; tauto) (by simp)).trans (hframe.mono (by simp) (by simp; tauto) (by simp))).answered (by simp)
  refine ⟨_, congrArg Host.Outcome.next hstep, rfl, ?_, ?_, ?_, ?_, ?_, fun hh => ?_, fun k hk => ?_, ?_, hwhole.1, hwhole.2.1⟩
  · rw [State.rd_answered _ (by decide), hframe.rd (by simp) (loadResult_alone b) (by decide)]
    exact (State.rd_loadReported (s := s) (at_ := at_) (by decide)).1
  · rw [State.frame_answered, hflash]
    exact State.flash_loadKept
  · rw [hboard, hstate]
  · rw [hboard, hsource]
  · rw [hboard, hdesc]
  · rw [State.rd_answered _ (.inr (homeActive_sub b))] at hh
    obtain ⟨hstatus, hvalid, hid, hlast, hlastId⟩ := hfresh hh
    rw [hboard, State.rd_answered _ (.inr (by simp only [E.Solve.LAST_STATUS, entN]; omega)),
      State.rd_answered _ (.inr (by simp only [E.Solve.LAST_SOLVE_ID, entN]; omega))]
    exact ⟨hstatus, hvalid, hid, hlast, hlastId⟩
  · exact (hboard k).trans (hothers k hk)
  · exact (State.answered_now _).trans hnow

/-! ## UNLOAD_BOARD (R161) -/

theorem State.unloadBoard_completes (h : s.accepts at_ w E.Frame.UNLOAD_BOARD.key .u8 (.num b)) :
    Completes (.unloadBoard at_ w b) s (fun t => t.odStatus = 0 ∧ t.board b = { s.board b with replace := some none }
      ∧ (∀ k, k ≠ b → t.board k = s.board k) ∧ t.frame.flash = s.frame.flash ∧ t.now = s.instant at_
      ∧ Frame [.answer, .frame] genEnts [] s t) := by
  obtain ⟨row, hr, hrow⟩ := tableRow_frameCommand E.Frame.UNLOAD_BOARD (by simp)
  obtain ⟨hstep, -⟩ := State.writeStep_frameCommand h hr hrow (by decide) (by decide) rfl rfl
  have hboard (k : Nat) : ((s.advance at_).effUnload b).answered.board k = ((s.advance at_).effUnload b).board k :=
    State.board_congr (State.frame_answered _) k
  exact ⟨_, congrArg Host.Outcome.next hstep, rfl, (hboard b).trans (State.board_setBoard_self ..),
    fun k hk => (hboard k).trans (State.board_setBoard_ne _ _ hk),
    (congrArg FrameSt.flash (State.frame_answered ((s.advance at_).effUnload b))).trans rfl,
    State.answered_now _,
    Frame.answered (es := []) ((Frame.refl ..).advance.setBoard (by simp)) (by simp)⟩

/-! ## BOARD_REPLACE and BOARD_UNLOAD (R160, R161) -/

theorem State.boardReplace_writes (hreplace : (s.board b).replace = some (some bs)) (hidle : inProgress (s.board b) = false) :
    s.boardReplace b = s.setBoard b { s.board b with replace := none, loading := some bs } := by
  simp [State.boardReplace, hreplace, hidle]

/-- A load waits while a solve runs or a request waits. -/
theorem State.boardReplace_waits (hbusy : inProgress (s.board b) = true) : s.boardReplace b = s := by
  unfold State.boardReplace
  dsimp only
  split
  · exact if_pos hbusy
  · rfl

/-- The module with board number `b` empty, before its home is given up. -/
def State.vacated (s : State) (b : Nat) : State :=
  ({ s with frame := { s.frame with boards := s.frame.boards.drop b, flash := s.frame.flash.drop b } } : State).clearRecord b

theorem State.boardUnload_eq (hreplace : (s.board b).replace = some none) (hidle : inProgress (s.board b) = false) :
    s.boardUnload b = if (s.vacated b).rd (E.Solve.HOME_ACTIVE b) = 0xFF then s.vacated b else (s.vacated b).homeChanged b 0 0xFF := by
  simp only [State.boardUnload, hreplace, hidle, Bool.false_eq_true, if_false]
  rfl

theorem State.boardUnload_completes (hreplace : (s.board b).replace = some none) (hidle : inProgress (s.board b) = false) :
    Completes (.boardUnload at_ b) s (fun t => t.board b = {} ∧ t.frame.flash.find b = none ∧ t.rd (E.Solve.HOME_ACTIVE b) = 0xFF
      ∧ t.rd (E.Solve.LAST_STATUS b) = 0x13 ∧ t.rd (E.Solve.LAST_SOLVE_ID b) = 0
      ∧ (∀ k, k ≠ b → t.board k = s.board k) ∧ t.now = s.instant at_
      ∧ Frame [.frame, .ledger] (E.Solve.HOME_ACTIVE b :: recordEnts b) [28] s t) := by
  have hunload := State.boardUnload_eq (s := s.advance at_) hreplace hidle
  have hhome : Frame [.ledger] [E.Solve.HOME_ACTIVE b] [28] ((s.advance at_).vacated b) ((s.advance at_).boardUnload b)
      ∧ ((s.advance at_).boardUnload b).frame = ((s.advance at_).vacated b).frame
      ∧ ((s.advance at_).boardUnload b).rd (E.Solve.HOME_ACTIVE b) = 0xFF
      ∧ ((s.advance at_).boardUnload b).now = ((s.advance at_).vacated b).now := by
    rw [hunload]
    split
    next hff => exact ⟨.refl .., rfl, hff, rfl⟩
    next => exact ⟨(Frame.refl ..).homeChanged (by simp) (by simp) (by simp), State.frame_homeChanged, State.rd_homeChanged,
        State.homeChanged_now ..⟩
  obtain ⟨hframe, hparts, hff, hnow⟩ := hhome
  have hvacated : ((s.advance at_).vacated b).frame = { s.frame with boards := s.frame.boards.drop b, flash := s.frame.flash.drop b } :=
    State.frame_clearRecord
  obtain ⟨hstatus, hid⟩ : ((s.advance at_).boardUnload b).noOutcome b := by
    refine hframe.noOutcome (by simp) ?_ (by simp) State.noOutcome_clearRecord
    simp [E.Solve.LAST_STATUS, E.Solve.LAST_SOLVE_ID, E.Solve.HOME_ACTIVE, entN]
  refine ⟨_, rfl, ?_, ?_, hff, hstatus, hid, fun k hk => ?_, hnow, ?_⟩
  · rw [State.board, hparts, hvacated]
    simp [SMap.fetch]
  · rw [hparts, hvacated]
    exact SMap.find_drop_self ..
  · rw [State.board, hparts, hvacated]
    simp [SMap.fetch, State.board, hk]
  · exact (((Frame.refl ..).advance.with_frame (by simp)).clearRecord fun _ he => .tail _ he).trans (hframe.mono (by simp) (by simp) (by simp))

/-! ## BOARD_LOAD_DONE (R160, R162) -/

theorem State.boardLoadDone_passed (hload : (s.board b).loading = some bs) (hst : (s.board b).st = 2)
    (hok : descResult bs (if (s.board b).source = 0 then some s.taskIds else none) = 0) (hfits : s.pagesUsed b + footPages (readDesc bs) ≤ 4032) :
    s.boardLoadDone b = (s.makeResident b (s.board b).source bs).setBoard b
      { (s.makeResident b (s.board b).source bs).board b with replace := (s.board b).replace } := by
  simp [State.boardLoadDone, hload, hst, hok, hfits]

theorem State.boardLoadDone_completes (hload : (s.board b).loading = some bs) (hst : (s.board b).st = 2)
    (hok : descResult bs (if (s.board b).source = 0 then some s.taskIds else none) = 0) (hfits : s.pagesUsed b + footPages (readDesc bs) ≤ 4032) :
    Completes (.boardLoadDone at_ b) s (fun t => (t.board b).st = 2 ∧ (t.board b).desc = readDesc bs ∧ (t.board b).loading = none
      ∧ (t.rd (E.Solve.HOME_ACTIVE b) ≠ 0xFF → (t.board b).pos.status = 0x13 ∧ (t.board b).pos.valid = false ∧ (t.board b).pos.solveId = 0
          ∧ t.rd (E.Solve.LAST_STATUS b) = 0x13 ∧ t.rd (E.Solve.LAST_SOLVE_ID b) = 0)
      ∧ (∀ k, k ≠ b → t.board k = s.board k) ∧ t.now = s.instant at_ ∧ Keeps [.frame, .ledger, .answer, .eop] s t) := by
  have hdone := State.boardLoadDone_passed (s := s.advance at_) hload hst hok hfits
  obtain ⟨⟨hstate, -, hdesc, hnone⟩, hothers, -⟩ :=
    State.makeResident_loads (s := s.advance at_) (b := b) (src := (s.board b).source) (bs := bs)
  have hframe := State.makeResident_frame (s := s.advance at_) (b := b) (src := (s.board b).source) (bs := bs)
  have hfresh := State.makeResident_fresh (s := s.advance at_) (b := b) (src := (s.board b).source) (bs := bs)
  have hnow := State.makeResident_now (s := s.advance at_) b (s.board b).source bs
  rw [show ((s.advance at_).board b) = s.board b from rfl] at hdone
  generalize (s.advance at_).makeResident b (s.board b).source bs = y at *
  have hwhole : Frame [.frame, .ledger, .answer, .eop] (homeEnts b) [26, 28] s (y.setBoard b { y.board b with replace := (s.board b).replace }) :=
    ((Frame.refl ..).advance.trans (hframe.mono (by simp) (by simp) (by simp))).setBoard (by simp)
  refine ⟨_, congrArg Host.Outcome.next hdone, ?_, ?_, ?_, fun hh => ?_, fun k hk => (State.board_setBoard_ne _ _ hk).trans (hothers k hk), hnow,
    hwhole.1, hwhole.2.1⟩
  · rw [State.board_setBoard_self, ← hstate]
  · rw [State.board_setBoard_self, ← hdesc]
  · rw [State.board_setBoard_self, ← hnone]
  · rw [State.board_setBoard_self]
    exact hfresh hh

/-- An archive board whose turn it is in the start sequence and whose descriptor fails a check (R162). -/
theorem State.boardLoadDone_failed (hload : (s.board b).loading = some bs) (hst : (s.board b).st = 1) (hsource : (s.board b).source = 0)
    (hturn : s.frame.boards.cells.all (fun c => decide (b ≤ c.1) || c.2.st != 1) = true) (hbad : descResult bs (some s.taskIds) ≠ 0) :
    s.boardLoadDone b = (s.setBoard b { s.board b with st := 3, loading := none }).clearRecord b := by
  have hfirst : s.frame.boards.cells.any (fun c => decide (c.1 < b) && c.2.st == 1) = false := by
    rw [List.any_eq_false]
    intro c hc
    have := List.all_eq_true.1 hturn c hc
    simp only [Bool.or_eq_true, decide_eq_true_eq, bne_iff_ne] at this
    simp only [Bool.and_eq_true, decide_eq_true_eq, beq_iff_eq]
    omega
  simp [State.boardLoadDone, hload, hst, hsource, hbad, hfirst]

theorem State.boardLoadDone_invalid (hload : (s.board b).loading = some bs) (hst : (s.board b).st = 1) (hsource : (s.board b).source = 0)
    (hturn : s.frame.boards.cells.all (fun c => decide (b ≤ c.1) || c.2.st != 1) = true) (hbad : descResult bs (some s.taskIds) ≠ 0) :
    Completes (.boardLoadDone at_ b) s (fun t => t.board b = { s.board b with st := 3, loading := none }
      ∧ t.rd (E.Solve.LAST_STATUS b) = 0x13 ∧ t.rd (E.Solve.LAST_SOLVE_ID b) = 0 ∧ (∀ k, k ≠ b → t.board k = s.board k)
      ∧ t.now = s.instant at_ ∧ Frame [.frame] (recordEnts b) [] s t) := by
  have hdone := State.boardLoadDone_failed (s := s.advance at_) hload hst hsource hturn hbad
  have hboard (k : Nat) (x : Board) : (((s.advance at_).setBoard b x).clearRecord b).board k = ((s.advance at_).setBoard b x).board k :=
    State.board_congr State.frame_clearRecord k
  obtain ⟨hstatus, hid⟩ := State.noOutcome_clearRecord (s := (s.advance at_).setBoard b { s.board b with st := 3, loading := none }) (b := b)
  exact ⟨_, congrArg Host.Outcome.next hdone, (hboard b _).trans (State.board_setBoard_self ..), hstatus, hid,
    fun k hk => (hboard k _).trans (State.board_setBoard_ne _ _ hk), rfl,
    ((Frame.refl ..).advance.setBoard (by simp)).clearRecord fun _ he => he⟩

end

/-- Settles O21: each command and each event by its own lemma; what a load makes resident is `makeResident`. -/
theorem boardsAreLoadedReplacedAndUnloaded : Obligations.BoardsAreLoadedReplacedAndUnloaded := by
  unfold Obligations.BoardsAreLoadedReplacedAndUnloaded
  refine ⟨fun s at_ w bs h off hoff => ?_, fun _ _ _ h => State.loadClear_completes h,
    fun _ _ _ _ h _ hbs hbad => State.loadCommit_refused h hbs hbad,
    fun _ _ _ _ h _ hbs hok _ hb hfits harchive hst _ => State.loadCommit_resident h hbs hok hb hfits harchive hst,
    fun _ _ _ _ h _ hbs hok _ hb hfits harchive hst => State.loadCommit_waits h hbs hok hb hfits harchive hst,
    fun _ _ _ _ h => State.unloadBoard_completes h, fun s at_ b bs hreplace hidle => ?_, fun s at_ b hbusy => ?_,
    fun _ _ _ hreplace hidle _ => State.boardUnload_completes hreplace hidle,
    fun _ _ _ _ _ hload hst _ hok hfits => State.boardLoadDone_completes hload hst hok hfits,
    fun _ _ _ _ _ hload hst hsource hturn hbad => State.boardLoadDone_invalid hload hst hsource hturn hbad⟩
  · subst hoff
    exact State.loadData_completes h
  · exact ⟨_, congrArg Host.Outcome.next (State.boardReplace_writes (s := s.advance at_) hreplace hidle), State.board_setBoard_self ..,
      fun k hk => State.board_setBoard_ne _ _ hk, rfl, (Frame.refl ..).advance.setBoard (by simp)⟩
  · exact ⟨_, congrArg Host.Outcome.next (State.boardReplace_waits (s := s.advance at_) hbusy), rfl, (Frame.refl ..).advance⟩

end Sys2Proof.Machine
end

section
/-!
O23. A board applies the batches that waited behind a request once that request has ended and none runs (R170, R198), and RESET_POSITION
discards the warm-start candidate (R171, R203). The clause of ABORT_TAKE says of every waiting request that its abort leaves the candidate,
whatever stands behind it in the queue.
-/
namespace Sys2Proof.Machine.ResetBehindRequest

/-- A request of task 0 that waits on its board (Table FRX-1). -/
def request : SolveReq :=
  { solveId := 1, source := 0, deadline := 2000000000, cold := false, issued := 0, taken := 0, hi := true, order := 0 }

/-- The first batch of task 0 to board 3, of the one record RESET_POSITION (Tables FRM-5 to FRM-7). -/
def resetBatch : List Byte := ascii "MV" ++ leBytes 1 3 ++ leBytes 1 1 ++ leBytes 2 0 ++ leBytes 2 1 ++ leBytes 4 1 ++ leBytes 4 24 ++ leBytes 8 0x30

/-- A resident board with a warm-start candidate, whose waiting request has the batch behind it. -/
def waitingBoard : Board :=
  { st := 2, source := 0, desc := { writer := 0 }, warm := some { x := [], y := [], z := [], signature := 0 }
    queue := [.req request, .batch 0 true resetBatch] }

/-- The module with that board as number 3 and an abort of its request at the front of SUBMIT_HI. -/
def state : State :=
  (State.reset.setBoard 3 waitingBoard).setRing 24 { q := [.submit { item := .abort 3 1, source := 0, solveId := 1, issued := 0 }] }

/-- With the request ended the batch is applied, and its record discards the candidate. -/
theorem warm_abortTake : (((state.advance 0).abortTake).board 3).warm = none ∧ (state.board 3).warm ≠ none := by decide +kernel

end Sys2Proof.Machine.ResetBehindRequest
namespace Sys2Proof.Machine

/-- Refutes O23: the batch behind the aborted request is applied, and its RESET_POSITION discards the warm-start candidate. -/
theorem not_requestsAreIssuedAndTaken : ¬ Obligations.RequestsAreIssuedAndTaken := by
  unfold Obligations.RequestsAreIssuedAndTaken
  rintro ⟨-, -, -, -, -, habort, -⟩
  obtain ⟨t, ht, -, -, -, -, hwarm, -⟩ := habort ResetBehindRequest.state 0 3 0 1 0 [] rfl rfl (by decide +kernel) rfl (by decide +kernel)
    ResetBehindRequest.request (by decide +kernel) rfl (by decide)
  obtain rfl : (ResetBehindRequest.state.advance 0).abortTake = t := by injection ht
  obtain ⟨hnone, hsome⟩ := ResetBehindRequest.warm_abortTake
  exact hsome (hwarm.symm.trans hnone)

end Sys2Proof.Machine
end

section
/-!
SUPPORT. The scheduler's own bookkeeping around an outcome: rods that it reserves (R195), beads that it frees, and the batches that a board
applies once no solve runs (R170, R198). None of it touches what a board published.
-/
namespace Sys2Proof.Machine

/-! ## Batches behind a request -/

/-- What batches leave alone: the running solve and the position, but for the fields that report the last batch (Table FRM-10). -/
def Board.published (x : Board) : Option Run × Position := (x.run, { x.pos with lastSeq := 0, lastReject := 0 })

/-- The board once the batches at the front of its queue are applied, where no solve runs and no board is being written. -/
def Board.settled (x : Board) (b : Nat) : Board :=
  if x.run.isSome || (x.st = 2 && x.loading.isSome) then x else applyLeading b x.queue x

section
variable {b k src : Nat} {bs : List Byte} {x : Board} {s y : State} {e : Ent}

theorem applyBatch_published : (applyBatch x b src bs).published = x.published := by
  unfold applyBatch
  split
  · split <;> rfl
  · rfl

theorem applyLeading_published (l : List QItem) : (applyLeading b l x).published = x.published := by
  induction l generalizing x with
  | nil => rfl
  | cons i l ih =>
    cases i with
    | req r => rfl
    | batch src hi bs => exact (ih (x := { applyBatch x b src bs with queue := l })).trans applyBatch_published

theorem Board.settled_published : (x.settled b).published = x.published := by
  unfold Board.settled
  split
  · rfl
  · exact applyLeading_published _

/-- A queue without a batch at its front stays as it is. -/
theorem Board.settled_of_request (h : ∀ i ∈ x.queue, ∃ r, i = .req r) : x.settled b = x := by
  unfold Board.settled
  split
  · rfl
  · cases hq : x.queue with
    | nil => rfl
    | cons i l =>
      obtain ⟨r, rfl⟩ := h i (by simp [hq])
      rfl

theorem Board.settled_of_empty (h : x.queue = []) : x.settled b = x := Board.settled_of_request (by simp [h])

theorem State.board_settleQueue : (s.settleQueue b).board b = (s.board b).settled b := by
  unfold State.settleQueue Board.settled
  dsimp only
  split
  · rfl
  · exact State.board_setBoard_self ..

theorem State.settleQueue_frame : Frame [.frame] [] [] s (s.settleQueue b) := (Frame.refl ..).settleQueue (by simp)

@[simp] theorem State.rd_settleQueue : (s.settleQueue b).rd e = s.rd e := State.settleQueue_frame.rd (by simp) (by simp) (by simp)

@[simp] theorem State.settleQueue_odStatus : (s.settleQueue b).odStatus = s.odStatus := (State.settleQueue_frame.2.1 .answer (by simp)).1

end

/-! ## Rods reserved (R195) -/

/-- One rod looked at: the request that heads the order of its beads reserves it. -/
def State.reserveRod (s : State) (r : Nat) : State :=
  match firstReq (s.readyOn (64 + r)) with
  | none => s
  | some (_, q) =>
    let heads := (homeBeads (64 + r)).any (fun k => s.beadFree k && (s.readyOn k).all (fun x => reqBefore q x.2))
    if heads || (s.frame.reserved.find r).isSome then { s with frame := { s.frame with reserved := s.frame.reserved.put r (q.order + 1) } } else s

/-- `t` differs from `s` in its reservations alone, and not in that of a rod without a ready request. -/
structure Reserves (s t : State) : Prop where
  only : t = { s with frame := { s.frame with reserved := t.frame.reserved } }
  unready : ∀ j, s.readyOn (64 + j) = [] → t.frame.reserved.find j = s.frame.reserved.find j

section
variable {s t u x : State} {h k r : Nat} {e : Ent}

theorem Reserves.refl (s : State) : Reserves s s := ⟨rfl, fun _ _ => rfl⟩

theorem Reserves.readyOn (hs : Reserves s t) : t.readyOn h = s.readyOn h := by rw [hs.only]; rfl

theorem Reserves.trans (hs : Reserves s t) (ht : Reserves t u) : Reserves s u :=
  ⟨by rw [ht.only, hs.only], fun j hj => (ht.unready j (hs.readyOn.trans hj)).trans (hs.unready j hj)⟩

theorem State.reserveRod_reserves : Reserves s (s.reserveRod r) := by
  unfold State.reserveRod
  split
  · exact .refl s
  next q hfirst =>
    dsimp only
    split
    · refine ⟨rfl, fun j hj => SMap.find_put_ne _ _ fun hr => ?_⟩
      rw [← hr, hj] at hfirst
      cases hfirst
    · exact .refl s

theorem State.reserveRods_reserves (s : State) : Reserves s s.reserveRods := by
  have hfold : ∀ (l : List Nat) (x : State), Reserves x (l.foldl State.reserveRod x) := by
    intro l
    induction l with
    | nil => exact .refl
    | cons r l ih => exact fun x => State.reserveRod_reserves.trans (ih _)
  exact hfold (List.range 8) s

theorem Reserves.board (hs : Reserves s t) : t.board k = s.board k := by rw [hs.only]; rfl

theorem Reserves.rd (hs : Reserves s t) : t.rd e = s.rd e := by rw [hs.only]; rfl

theorem Reserves.beadFree (hs : Reserves s t) : t.beadFree k = s.beadFree k := by rw [hs.only]; rfl

theorem Reserves.now (hs : Reserves s t) : t.now = s.now := by rw [hs.only]

theorem Reserves.odStatus (hs : Reserves s t) : t.odStatus = s.odStatus := by rw [hs.only]

theorem Reserves.frame (hs : Reserves s t) : Frame [.frame] [] [] s t := by
  rw [hs.only]
  exact (Frame.refl ..).with_frame (by simp)

end

/-! ## Beads freed -/

/-- What the bead of a solve that ends reports (Table FRX-11). -/
def beadEnts (k : Nat) : List Ent := [E.Bead.BEAD_STATE k, E.Bead.BEAD_BOARD k, E.Bead.BEAD_BUSY_MAX k]

section
variable {s x : State} {u : Run} {e : Ent} {k : Nat}

/-- The Frame notes the busy time of each bead, which reports that it is free. -/
theorem State.freeHome_frame : Frame [.frame] ((homeBeads u.home).flatMap beadEnts) [] s (s.freeHome u) := by
  unfold State.freeHome
  refine Frame.foldl (.refl ..) fun y k hk hy => ?_
  have hents : ∀ e ∈ beadEnts k, e ∈ (homeBeads u.home).flatMap beadEnts := fun e he => List.mem_flatMap.2 ⟨k, hk, he⟩
  simp only [beadEnts, List.forall_mem_cons] at hents
  obtain ⟨hstate, hboard, hbusy, -⟩ := hents
  have hnoted {v : FrameSt} : Frame [.frame] ((homeBeads u.home).flatMap beadEnts) [] s { y with frame := v } := hy.with_frame (by simp)
  exact ((Frame.ite (fun _ => hnoted) fun _ => hnoted.wr hstate).wr hboard).raise hbusy

theorem State.boards_freeHome : (s.freeHome u).frame.boards = s.frame.boards := by
  unfold State.freeHome
  generalize homeBeads u.home = l
  induction l generalizing s with
  | nil => rfl
  | cons k l ih => exact ih.trans (by simp [apply_ite State.frame])

/-- An entry behind sub-index 8 is none of those that a freed bead reports. -/
theorem beadEnts_alone (hsub : 8 < e.key % 256) : ∀ f ∈ (homeBeads u.home).flatMap beadEnts, e.key ≠ f.key := by
  intro f hf heq
  obtain ⟨k, -, hk⟩ := List.mem_flatMap.1 hf
  simp only [beadEnts, List.mem_cons, List.not_mem_nil, or_false] at hk
  rcases hk with rfl | rfl | rfl <;>
  · simp only [E.Bead.BEAD_STATE, E.Bead.BEAD_BOARD, E.Bead.BEAD_BUSY_MAX, entN] at heq
    omega

end

end Sys2Proof.Machine
end

section
/-!
SUPPORT. The end of a request (R172, R205 to R209) in its parts: the outcome stands on its board and in LAST_*, it is counted, the statistics
and DONE follow, every abort that its solve had taken is decided, and the board applies the batches that waited for it.
-/
namespace Sys2Proof.Machine

/-- LAST_FLAGS of an outcome (Table FRX-4). -/
def outcomeFlags (run : Option Run) (e : SolveEnd) : Nat :=
  match run with
  | some u => if e.iterations = 0 then 0 else u.startFlags + (if e.pert then 2 else 0) + (if e.stalled then 4 else 0)
  | none => 0

/-- The board with an outcome: its position where it is resident, and what the solve that ran leaves (R172, R203). -/
def Board.ended (x : Board) (now : Nat) (r : SolveReq) (run : Option Run) (status : Nat) (e : SolveEnd) : Board :=
  let x := if x.st != 2 then x
    else { x with pos := outcomePosition x now r.solveId status (outcomeFlags run e) e, posOther := x.pos, cur := x.cur + 1
                  warm := if status = 0 then some { x := e.x, y := e.y, z := e.z, signature := x.desc.signature } else x.warm }
  match run with
  | none => x
  | some _ => if x.st != 2 then { x with run := none } else
    { x with run := none, factor := e.factor, refactor := e.factor.isNone, adapt := e.adapt
             refactors := min 0xFFFFFFFF (x.refactors + e.refactors) }

section
variable {x : Board} {now status : Nat} {r : SolveReq} {run : Option Run} {u : Run} {e : SolveEnd}

theorem Board.ended_run : (x.ended now r (some u) status e).run = none := by
  unfold Board.ended
  dsimp only
  split <;> rfl

/-- An outcome leaves the board's numbers and its queue. -/
theorem Board.ended_keeps : (x.ended now r run status e).vals = x.vals ∧ (x.ended now r run status e).queue = x.queue := by
  by_cases hst : x.st = 2 <;> cases run <;> simp [Board.ended, hst]

/-- An outcome other than SOLVED publishes no solution and leaves the warm start (R172, R203). -/
theorem Board.ended_unsolved (h : status ≠ 0) : (x.ended now r run status e).warm = x.warm
    ∧ (x.ended now r run status e).pos.x = x.pos.x ∧ (x.ended now r run status e).pos.y = x.pos.y
    ∧ (x.ended now r run status e).pos.valid = x.pos.valid := by
  by_cases hst : x.st = 2 <;> cases run <;> simp [Board.ended, hst, outcomePosition, h]

/-- The position of a resident board is the outcome's. -/
theorem Board.ended_pos (h : x.st = 2) :
    (x.ended now r run status e).pos = outcomePosition x now r.solveId status (outcomeFlags run e) e := by
  cases run <;> simp [Board.ended, h]

end

/-- The outcome stands on its board, and the beads of the solve that ran are free. -/
def State.outcomePut (s : State) (b : Nat) (r : SolveReq) (run : Option Run) (status : Nat) (e : SolveEnd) : State :=
  let s := ((s.keepOutcome b).setBoard b ((s.board b).ended s.now r run status e)).unreserve r.order
  match run with
  | some u => s.freeHome u
  | none => s

/-- The outcome also stands in LAST_*, and the counter of its status is raised (Tables FRX-2, FRX-10). -/
def State.outcomeNoted (s : State) (b : Nat) (r : SolveReq) (run : Option Run) (status : Nat) (e : SolveEnd) : State :=
  let s := s.outcomePut b r run status e
  ((((s.wr (E.Solve.LAST_SOLVE_ID b) r.solveId).wr (E.Solve.LAST_STATUS b) status).wr (E.Solve.LAST_FLAGS b) (outcomeFlags run e)).wrT
    (E.Solve.LAST_OUTCOME_TB3 b) s.now).inc (outcomeCounter b status)

/-- The statistics of a board and of the Frame that follow an outcome. -/
def outcomeStats (b : Nat) : List Ent :=
  [E.Solve.WAIT_MAX b, E.Solve.EXEC_LAST b, E.Solve.EXEC_MAX b, E.Solve.SLACK_MIN b, E.Frame.PERTURBED_TOTAL, E.Frame.REFACTORS_TOTAL,
   E.Frame.NUMERIC_FAULTS]

/-- `n` aborts of the request are decided with `answer` (R201). -/
def State.abortsDecided (s : State) (b n : Nat) (r : SolveReq) (answer : Nat) : State :=
  (List.range n).foldl (fun s _ => s.decideSolveAbort b r.solveId r.source answer) s

section
variable {s t : State} {b k id source status n answer : Nat} {r : SolveReq} {run : Option Run} {u : Run} {e : SolveEnd}

/-! ## The parts of the end -/

/-- The last outcome of a board is kept for its aborts and goes to DONE (R209). -/
def State.outcomeReported (s : State) (b : Nat) (d : DoneEntry) : State :=
  ({ s with frame := { s.frame with ended := s.frame.ended.put b d } } : State).place 26 (.done d)

theorem State.endRequest_eq : ∃ (z : State) (d : DoneEntry), Frame [] (outcomeStats b) [] (s.outcomeNoted b r run status e) z
    ∧ s.endRequest b r run status e = ((z.outcomeReported b d).abortsDecided b ((run.map (·.aborts)).getD 0) r
        (if status = 0x11 then 0 else 0x38)).settleQueue b := by
  unfold State.endRequest
  extract_lets +onlyGivenNames s1 x flags x2 x3 s4 s5 s6 s7 wait exec s8 s9 slack s10 s11 d s12 s13
  have h7 : s7 = s.outcomeNoted b r run status e := by
    cases run <;> rfl
  have h8 : Frame [] (outcomeStats b) [] s7 s8 := (Frame.refl ..).raise (by simp [outcomeStats])
  have h9 : Frame [] (outcomeStats b) [] s7 s9 :=
    .ite (fun _ => (h8.wr (by simp [outcomeStats])).raise (by simp [outcomeStats])) fun _ => h8
  have h10 : Frame [] (outcomeStats b) [] s7 s10 := .ite (fun _ => h9.wrI (by simp [outcomeStats])) fun _ => h9
  have h11 : Frame [] (outcomeStats b) [] s7 s11 :=
    ((h10.addTo (by simp [outcomeStats])).addTo (by simp [outcomeStats])).addTo (by simp [outcomeStats])
  exact ⟨s11, d, h7 ▸ h11, rfl⟩

/-- What the beads of the solve that ran report of its end. -/
def freedEnts (run : Option Run) : List Ent := (run.map (fun u => (homeBeads u.home).flatMap beadEnts)).getD []

theorem State.outcomePut_frame : Frame [.frame] (freedEnts run) [] s (s.outcomePut b r run status e) := by
  have hboard {x : Board} {es : List Ent} : Frame [.frame] es [] s (((s.keepOutcome b).setBoard b x).unreserve r.order) :=
    (((Frame.refl ..).with_frame (by simp)).setBoard (by simp)).with_frame (by simp)
  cases run with
  | none => exact hboard
  | some u => exact hboard.trans State.freeHome_frame

theorem State.boards_outcomePut :
    (s.outcomePut b r run status e).frame.boards = (s.setBoard b ((s.board b).ended s.now r run status e)).frame.boards := by
  cases run with
  | none => rfl
  | some u => exact State.boards_freeHome

theorem State.outcomeNoted_frame :
    Frame [] (outcomeCounter b status :: recordEnts b) [] (s.outcomePut b r run status e) (s.outcomeNoted b r run status e) :=
  (((((Frame.refl ..).wr (by simp [recordEnts])).wr (by simp [recordEnts])).wr (by simp [recordEnts])).wrT (by simp [recordEnts])).inc (by simp)

theorem Frame.with_answer {ps : List Part} {es : List Ent} {rs : List Nat} {m : Nat} {v : EopSt} (h : Frame ps es rs s t) (ha : Part.answer ∈ ps)
    (hp : Part.eop ∈ ps) : Frame ps es rs s { t with odStatus := m, eop := v } := by
  refine h.trans ⟨rfl, fun p hn => ?_, fun _ _ _ => rfl, fun _ _ => rfl⟩
  cases p <;> simp_all [Part.same]

theorem Frame.decideSolveAbort {ps : List Part} {es : List Ent} {rs : List Nat} (h : Frame ps es rs s t) (ha : Part.answer ∈ ps)
    (hp : Part.eop ∈ ps) (hr : 26 ∈ rs) : Frame ps es rs s (t.decideSolveAbort b id source answer) := by
  unfold State.decideSolveAbort
  exact .ite (fun _ => h.place hr) fun _ => (h.place hr).with_answer ha hp

theorem State.abortsDecided_frame : Frame [.answer, .eop] [] [26] s (s.abortsDecided b n r answer) :=
  Frame.foldl (.refl ..) fun _ _ _ h => h.decideSolveAbort (by simp) (by simp) (by simp)

/-- A dictionary abort is answered when its request is decided. -/
theorem State.abortsDecided_odStatus (hsource : r.source = 0xFE) (hn : n ≠ 0) : (s.abortsDecided b n r answer).odStatus = answer := by
  obtain ⟨m, rfl⟩ := Nat.exists_eq_succ_of_ne_zero hn
  rw [State.abortsDecided, List.range_succ, List.foldl_append]
  simp [State.decideSolveAbort, hsource]

theorem State.outcomeReported_frame {d : DoneEntry} : Frame [.frame] [] [26] s (s.outcomeReported b d) :=
  ((Frame.refl ..).with_frame (by simp)).place (by simp)

/-- Before the batches behind it are applied, the end of a request has left its outcome, the statistics and the answers to its aborts. -/
theorem State.endRequest_settles : ∃ y : State, s.endRequest b r run status e = y.settleQueue b
    ∧ Frame [.frame, .answer, .eop] (outcomeStats b) [26] (s.outcomeNoted b r run status e) y
    ∧ y.frame.boards = (s.setBoard b ((s.board b).ended s.now r run status e)).frame.boards
    ∧ (r.source = 0xFE → (run.map (·.aborts)).getD 0 ≠ 0 → y.odStatus = if status = 0x11 then 0 else 0x38) := by
  obtain ⟨z, d, hz, hend⟩ := State.endRequest_eq (s := s) (b := b) (r := r) (run := run) (status := status) (e := e)
  have hdecided := State.abortsDecided_frame (s := z.outcomeReported b d) (b := b) (n := (run.map (·.aborts)).getD 0) (r := r)
    (answer := if status = 0x11 then 0 else 0x38)
  have hreported : (z.outcomeReported b d).frame.boards = z.frame.boards := by rw [State.outcomeReported, State.place_frame]
  have hboards : z.frame.boards = (s.outcomePut b r run status e).frame.boards :=
    congrArg FrameSt.boards ((hz.2.1 .frame (by simp)).trans (State.outcomeNoted_frame.2.1 .frame (by simp)))
  refine ⟨_, hend, ?_, ?_, fun hsource hn => State.abortsDecided_odStatus hsource hn⟩
  · exact ((hz.mono (by simp) (by simp) (by simp)).trans (State.outcomeReported_frame.mono (by simp) (by simp) (by simp))).trans
      (hdecided.mono (by simp) (by simp) (by simp))
  · exact (congrArg FrameSt.boards (hdecided.2.1 .frame (by simp))).trans (hreported.trans (hboards.trans State.boards_outcomePut))

/-! ## What the end leaves -/

theorem State.board_endRequest : (s.endRequest b r run status e).board b = ((s.board b).ended s.now r run status e).settled b := by
  obtain ⟨y, hy, -, hboards, -⟩ := State.endRequest_settles (s := s) (b := b) (r := r) (run := run) (status := status) (e := e)
  rw [hy, State.board_settleQueue, State.board, hboards, ← State.board, State.board_setBoard_self]

theorem State.board_endRequest_ne (hk : k ≠ b) : (s.endRequest b r run status e).board k = s.board k := by
  obtain ⟨y, hy, -, hboards, -⟩ := State.endRequest_settles (s := s) (b := b) (r := r) (run := run) (status := status) (e := e)
  rw [hy, State.settleQueue_keepsLoads.others k hk, State.board, hboards, ← State.board, State.board_setBoard_ne _ _ hk]

theorem State.endRequest_odStatus (hsource : r.source = 0xFE) (hn : u.aborts ≠ 0) :
    (s.endRequest b r (some u) status e).odStatus = if status = 0x11 then 0 else 0x38 := by
  obtain ⟨y, hy, -, -, hanswer⟩ := State.endRequest_settles (s := s) (b := b) (r := r) (run := some u) (status := status) (e := e)
  rw [hy, State.settleQueue_odStatus, hanswer hsource hn]

/-- An entry of the board that is no statistic stands as the outcome was noted. -/
theorem State.rd_endRequest {f : Ent} (hsub : f.key % 256 < 0x15) (hidx : 0x5200 ≤ f.key / 256) :
    (s.endRequest b r run status e).rd f = (s.outcomeNoted b r run status e).rd f := by
  obtain ⟨y, hy, hframe, -⟩ := State.endRequest_settles (s := s) (b := b) (r := r) (run := run) (status := status) (e := e)
  rw [hy, State.rd_settleQueue]
  refine hframe.rd (by simp) ?_ (by simp; omega)
  simp only [outcomeStats, E.Solve.WAIT_MAX, E.Solve.EXEC_LAST, E.Solve.EXEC_MAX, E.Solve.SLACK_MIN, E.Frame.PERTURBED_TOTAL,
    E.Frame.REFACTORS_TOTAL, E.Frame.NUMERIC_FAULTS, entN, List.forall_mem_cons, List.not_mem_nil, false_implies, implies_true, and_true]
  omega

/-- The counters of Table FRX-10 that an outcome may raise. -/
theorem outcomeCounter_key (b status : Nat) : (outcomeCounter b status).key / 256 = 0x5200 + b
    ∧ 8 < (outcomeCounter b status).key % 256 ∧ (outcomeCounter b status).key % 256 < 0x15 ∧ (outcomeCounter b status).ty = .u32 := by
  unfold outcomeCounter
  split <;>
  · simp only [E.Solve.SOLVED_COUNT, E.Solve.CAP_COUNT, E.Solve.INFEASIBLE_COUNT, E.Solve.DEADLINE_MISSES, E.Solve.ABORTS, E.Solve.NUMERIC_COUNT,
      E.Solve.INVALID_COUNT, entN, and_true]
    omega

/-- The record of an outcome before it is counted reads what was written (Table FRX-10). -/
theorem State.record_outcomeNoted : (s.outcomeNoted b r run status e).rd (E.Solve.LAST_STATUS b) = status % 256
    ∧ (s.outcomeNoted b r run status e).rd (E.Solve.LAST_SOLVE_ID b) = r.solveId % 2 ^ 32
    ∧ (s.outcomeNoted b r run status e).rd (E.Solve.LAST_OUTCOME_TB3 b) = time96ns s.now := by
  have hcount : ∀ f ∈ recordEnts b, f.key ≠ (outcomeCounter b status).key := by
    have hc := outcomeCounter_key b status
    simp only [recordEnts, E.Solve.LAST_SOLVE_ID, E.Solve.LAST_STATUS, E.Solve.LAST_FLAGS, E.Solve.LAST_OUTCOME_TB3, entN, List.forall_mem_cons,
      List.not_mem_nil, false_implies, implies_true, and_true]
    omega
  simp only [recordEnts, List.forall_mem_cons] at hcount
  obtain ⟨hid, hstatus, -, htb3, -⟩ := hcount
  have hnow : (s.outcomePut b r run status e).now = s.now := by cases run <;> simp [State.outcomePut]
  unfold State.outcomeNoted
  dsimp only
  rw [State.rd_inc_ne _ _ _ hstatus, State.rd_inc_ne _ _ _ hid, State.rd_inc_ne _ _ _ htb3, hnow]
  refine ⟨?_, ?_, ?_⟩
  · rw [State.rd_wrT_ne _ _ _ _ (by simp [E.Solve.LAST_STATUS, E.Solve.LAST_OUTCOME_TB3, entN]),
      State.rd_wr_ne _ _ _ _ (by simp [E.Solve.LAST_STATUS, E.Solve.LAST_FLAGS, entN]), State.rd_wr_self]
    rfl
  · rw [State.rd_wrT_ne _ _ _ _ (by simp [E.Solve.LAST_SOLVE_ID, E.Solve.LAST_OUTCOME_TB3, entN]),
      State.rd_wr_ne _ _ _ _ (by simp [E.Solve.LAST_SOLVE_ID, E.Solve.LAST_FLAGS, entN]),
      State.rd_wr_ne _ _ _ _ (by simp [E.Solve.LAST_SOLVE_ID, E.Solve.LAST_STATUS, entN]), State.rd_wr_self]
    rfl
  · rw [State.wrT, State.rd_wr_self]
    exact Nat.mod_eq_of_lt (time96ns_lt _)

/-- LAST_* say which outcome it was and when. -/
theorem State.last_endRequest : (s.endRequest b r run status e).rd (E.Solve.LAST_STATUS b) = status % 256
    ∧ (s.endRequest b r run status e).rd (E.Solve.LAST_SOLVE_ID b) = r.solveId % 2 ^ 32
    ∧ (s.endRequest b r run status e).rd (E.Solve.LAST_OUTCOME_TB3 b) = time96ns s.now := by
  rw [State.rd_endRequest (f := E.Solve.LAST_STATUS b), State.rd_endRequest (f := E.Solve.LAST_SOLVE_ID b),
    State.rd_endRequest (f := E.Solve.LAST_OUTCOME_TB3 b)]
  · exact State.record_outcomeNoted
  all_goals
    simp only [E.Solve.LAST_STATUS, E.Solve.LAST_SOLVE_ID, E.Solve.LAST_OUTCOME_TB3, entN]
    omega

/-- The counter of its status is raised. -/
theorem State.counted_endRequest :
    (s.endRequest b r run status e).rd (outcomeCounter b status) = min (2 ^ 32 - 1) (s.rd (outcomeCounter b status) + 1) := by
  obtain ⟨hidx, hlow, hhigh, hty⟩ := outcomeCounter_key b status
  have hrecord : ∀ f ∈ recordEnts b, (outcomeCounter b status).key ≠ f.key := by
    simp only [recordEnts, E.Solve.LAST_SOLVE_ID, E.Solve.LAST_STATUS, E.Solve.LAST_FLAGS, E.Solve.LAST_OUTCOME_TB3, entN, List.forall_mem_cons,
      List.not_mem_nil, false_implies, implies_true, and_true]
    omega
  have hfreed : ∀ f ∈ freedEnts run, (outcomeCounter b status).key ≠ f.key := by
    cases run with
    | none => simp [freedEnts]
    | some u => exact beadEnts_alone hlow
  simp only [recordEnts, List.forall_mem_cons] at hrecord
  obtain ⟨hid, hstatus, hflags, htb3, -⟩ := hrecord
  rw [State.rd_endRequest hhigh (by omega), State.outcomeNoted, State.rd_inc_self, State.rd_wrT_ne _ _ _ _ htb3, State.rd_wr_ne _ _ _ _ hflags,
    State.rd_wr_ne _ _ _ _ hstatus, State.rd_wr_ne _ _ _ _ hid, State.outcomePut_frame.rd (by simp) hfreed (by simp), hty]
  rfl

end

end Sys2Proof.Machine
end

section
/-!
O24. A request from its dispatch to its one end (R195, R198 to R202, R205 to R209): what each event of the scheduler makes of the request, and
what the end of a solve leaves of its board.
-/
namespace Sys2Proof.Machine

section
variable {s t : State} {at_ b h k status : Nat} {r : SolveReq} {u : Run} {e : SolveEnd} {x : Board} {c : Cut}

/-! ## What a board publishes at an end -/

theorem Board.settled_run : (x.settled b).run = x.run := congrArg Prod.fst Board.settled_published

/-- The batches behind a request change the position in its two fields of batches alone. -/
theorem Board.settled_pos : (x.settled b).pos
    = { x.pos with lastSeq := (x.settled b).pos.lastSeq, lastReject := (x.settled b).pos.lastReject } := by
  have hpos : { (x.settled b).pos with lastSeq := 0, lastReject := 0 } = { x.pos with lastSeq := 0, lastReject := 0 } :=
    congrArg Prod.snd Board.settled_published
  exact congrArg (fun p : Position => { p with lastSeq := (x.settled b).pos.lastSeq, lastReject := (x.settled b).pos.lastReject }) hpos

/-- A board whose outcome is not SOLVED publishes the solution that it had (R172). -/
theorem State.unsolved_endRequest {run : Option Run} (hs : status ≠ 0) :
    ((s.endRequest b r run status e).board b).pos.x = (s.board b).pos.x
      ∧ ((s.endRequest b r run status e).board b).pos.y = (s.board b).pos.y
      ∧ ((s.endRequest b r run status e).board b).pos.valid = (s.board b).pos.valid := by
  rw [State.board_endRequest, Board.settled_pos]
  exact (Board.ended_unsolved hs).2

/-- `t` is `s` with the solve of request `r` on board `b` ended with a status that publishes nothing. -/
structure EndsUnsolved (b status : Nat) (r : SolveReq) (s t : State) : Prop where
  run : (t.board b).run = none
  lastStatus : t.rd (E.Solve.LAST_STATUS b) = status
  lastId : t.rd (E.Solve.LAST_SOLVE_ID b) = r.solveId
  counted : t.rd (outcomeCounter b status) = min (2 ^ 32 - 1) (s.rd (outcomeCounter b status) + 1)
  kept : (s.board b).queue = [] → (t.board b).warm = (s.board b).warm ∧ (t.board b).vals = (s.board b).vals
  solution : (t.board b).pos.x = (s.board b).pos.x ∧ (t.board b).pos.valid = (s.board b).pos.valid
  others : ∀ k, k ≠ b → t.board k = s.board k
  now : t.now = s.now

theorem State.endRequest_endsUnsolved (hs : status ≠ 0) (hlt : status < 256) (hid : r.solveId < 2 ^ 32) :
    EndsUnsolved b status r s (s.endRequest b r (some u) status e).reserveRods := by
  have hres := (s.endRequest b r (some u) status e).reserveRods_reserves
  obtain ⟨hstatus, hlast, -⟩ := State.last_endRequest (s := s) (b := b) (r := r) (run := some u) (status := status) (e := e)
  obtain ⟨hx, -, hvalid⟩ := State.unsolved_endRequest (s := s) (b := b) (r := r) (run := some u) (e := e) hs
  constructor
  case run => rw [hres.board, State.board_endRequest, Board.settled_run, Board.ended_run]
  case lastStatus => rw [hres.rd, hstatus, Nat.mod_eq_of_lt hlt]
  case lastId => rw [hres.rd, hlast, Nat.mod_eq_of_lt hid]
  case counted => rw [hres.rd, State.counted_endRequest]
  case kept =>
    intro hq
    obtain ⟨hvals, hqueue⟩ := Board.ended_keeps (x := s.board b) (now := s.now) (r := r) (run := some u) (status := status) (e := e)
    rw [hres.board, State.board_endRequest, Board.settled_of_empty (hqueue.trans hq)]
    exact ⟨(Board.ended_unsolved hs).1, hvals⟩
  case solution => exact ⟨by rw [hres.board, hx], by rw [hres.board, hvalid]⟩
  case others => exact fun k hk => by rw [hres.board, State.board_endRequest_ne hk]
  case now => exact hres.now.trans (State.endRequest_now ..)

/-! ## DEADLINE_MISS (R200) -/

theorem State.frameGoes_of_supply (hsup : s.rd E.Pwr.SUP_STATE ≠ 3) : s.frameGoes = true := by simp [State.frameGoes, hsup]

theorem State.deadlineMiss_running (hsup : s.rd E.Pwr.SUP_STATE ≠ 3) (hrun : (s.board b).run = some u) (hdl : u.req.deadline ≤ (s.now : Int)) :
    s.deadlineMiss b c = (s.endRequest b u.req (some u) 0x10
      (if u.home = 0xFF then noWork (s.board b) else cutSolve (s.board b) u c)).reserveRods := by
  simp [State.deadlineMiss, State.frameGoes_of_supply hsup, hrun, Option.filter, hdl]

theorem State.deadlineMiss_waiting (hsup : s.rd E.Pwr.SUP_STATE ≠ 3) (hrun : (s.board b).run = none) (hw : waitingReq (s.board b) = some r)
    (hdl : r.deadline ≤ (s.now : Int)) : s.deadlineMiss b c = (s.endWaiting b r 0x10).reserveRods := by
  simp [State.deadlineMiss, State.frameGoes_of_supply hsup, hrun, hw, hdl]

/-! ## SOLVE_OUTCOME and ABORT_LATCH (R199, R201) -/

/-- With more than u_X left the bead's copy of TB3, which lags by at most u_X, shows it too (R199, R552). -/
theorem State.beadGuard_of_left {deadline : Int} (h : 2 * (s.now : Int) + solveCross < 2 * deadline) : s.beadGuard deadline = true := by
  unfold State.beadGuard
  rw [decide_eq_true_eq]
  omega

theorem State.solveOutcome_eq (hsup : s.rd E.Pwr.SUP_STATE ≠ 3) (hrun : (s.board b).run = some u) (hhome : u.home ≠ 0xFF)
    (hleft : 2 * (s.now : Int) + solveCross < 2 * u.req.deadline) :
    s.solveOutcome b = (s.drawn.endRequest b u.req (some u) (fullSolve (s.board b) u).status (fullSolve (s.board b) u)).reserveRods := by
  simp only [State.solveOutcome, hrun, State.frameGoes_of_supply hsup, State.beadGuard_of_left hleft]
  simp only [hhome, decide_false, Bool.not_true, Bool.or_false, Bool.false_eq_true, if_false]
  rfl

theorem State.abortLatch_stops (hsup : s.rd E.Pwr.SUP_STATE ≠ 3) (hrun : (s.board b).run = some u) (hab : u.aborts ≠ 0)
    (hdl : (s.now : Int) < u.req.deadline) : s.abortLatch b c false = (s.endRequest b u.req (some u) 0x11
      (if u.home = 0xFF then noWork (s.board b) else cutSolve (s.board b) u c)).reserveRods := by
  simp [State.abortLatch, hrun, State.frameGoes_of_supply hsup, hab, hdl]

/-- In the cycle of the outcome the latch comes too late (R201). -/
theorem State.abortLatch_sameCycle (hsup : s.rd E.Pwr.SUP_STATE ≠ 3) (hrun : (s.board b).run = some u) (hab : u.aborts ≠ 0)
    (hdl : (s.now : Int) < u.req.deadline) : s.abortLatch b c true = s.solveOutcome b := by
  simp [State.abortLatch, hrun, State.frameGoes_of_supply hsup, hab, hdl]

/-- What a solve that runs to its end reports of a resident board (R172, R205). -/
theorem State.outcome_endRequest (hst : (s.board b).st = 2) :
    ((s.endRequest b r (some u) status e).board b).pos.status = status
      ∧ ((s.endRequest b r (some u) status e).board b).pos.solveId = r.solveId
      ∧ (status = 0 → ((s.endRequest b r (some u) status e).board b).pos.valid = true
          ∧ ((s.endRequest b r (some u) status e).board b).pos.x = e.x ∧ ((s.endRequest b r (some u) status e).board b).pos.y = e.y
          ∧ ((s.endRequest b r (some u) status e).board b).pos.solvedId = r.solveId
          ∧ ((s.endRequest b r (some u) status e).board b).pos.objective = e.objective) := by
  rw [State.board_endRequest, Board.settled_pos, Board.ended_pos hst]
  refine ⟨?_, ?_, fun hs => ?_⟩ <;> unfold outcomePosition
  · split <;> rfl
  · split <;> rfl
  · simp [hs]

/-! ## SOLVE_DISPATCH (R195, R198, R204) -/

theorem firstReq_mem {l : List (Nat × SolveReq)} {p : Nat × SolveReq} (h : firstReq l = some p) : p ∈ l := by
  induction l generalizing p with
  | nil => cases h
  | cons a l ih =>
    unfold firstReq at h
    split at h
    · cases h
      exact List.mem_cons_self
    next y hy =>
      split at h <;> cases h
      · exact List.mem_cons_self
      · exact List.mem_cons_of_mem _ (ih hy)

/-- A request that is ready on a home stands on a board that has that home. -/
theorem State.homeActive_of_readyOn {p : Nat × SolveReq} (hp : p ∈ s.readyOn h) : s.rd (E.Solve.HOME_ACTIVE p.1) = h := by
  obtain ⟨⟨k, x⟩, -, hx⟩ := List.mem_filterMap.1 hp
  dsimp only at hx
  split at hx
  next hc =>
    obtain ⟨q, -, rfl⟩ := Option.map_eq_some_iff.1 hx
    simp only [Bool.and_eq_true, beq_iff_eq] at hc
    exact hc.2
  · cases hx

/-- Request `r` has left the queue of its board and runs as `u`. -/
def State.runPut (s : State) (b : Nat) (r : SolveReq) (u : Run) : State :=
  ((s.settleQueue b).setBoard b { s.board b with queue := (s.board b).queue.filter (fun q => q != .req r), run := some u }).unreserve r.order

/-- Its bead is busy with the board. -/
def State.dispatched (s : State) (h b : Nat) (r : SolveReq) (u : Run) : State :=
  (((s.runPut b r u).wr (E.Bead.BEAD_STATE h) 1).wr (E.Bead.BEAD_BOARD h) b).inc (E.Bead.BEAD_SOLVES h)

/-- A request that no check ends starts at once on a bead. -/
theorem State.startReq_starts (hh : h < 64) (hq : (s.board b).queue = [.req r]) (hcheck : s.reqCheck b r = none) :
    ∃ u, u.req = r ∧ u.home = h ∧ u.at_ = (s.now : Int) ∧ s.startReq h b r = s.dispatched h b r u := by
  have hboard : (s.settleQueue b).board b = s.board b :=
    State.board_settleQueue.trans (Board.settled_of_request (by simp [hq]))
  have hsettled : (s.settleQueue b).reqCheck b r = none := by
    rw [← hcheck]
    simp [State.reqCheck, hboard]
  unfold State.startReq
  simp only [hsettled, hboard, State.settleQueue_now, homeBeads, hh, if_true]
  exact ⟨_, rfl, rfl, rfl, rfl⟩

/-- A free bead whose rod has no ready request takes the first of its own (R195). -/
theorem State.solveDispatch_starts (hh : h < 64) (hsup : s.rd E.Pwr.SUP_STATE ≠ 3) (hw : (s.ring 26).waiting = [])
    (hfirst : firstReq (s.readyOn h) = some (b, r)) (hfree : s.beadFree h = true) (hrod : s.readyOn (64 + h / 8) = [])
    (hres : s.frame.reserved.find (h / 8) = none) : s.solveDispatch h = (s.reserveRods.startReq h b r).reserveRods := by
  have hreserves := s.reserveRods_reserves
  simp only [State.solveDispatch, State.frameGoes_of_supply hsup, hw, List.isEmpty_nil, Bool.not_true, Bool.or_false, Bool.false_eq_true, if_false,
    hh, if_true, hreserves.readyOn, hfirst, hrod, (hreserves.unready _ hrod).trans hres, hreserves.beadFree, hfree]
  rfl

/-- What a dispatch reports of its bead (Table FRX-11). -/
def dispatchEnts (h : Nat) : List Ent := [E.Bead.BEAD_STATE h, E.Bead.BEAD_BOARD h, E.Bead.BEAD_SOLVES h]

theorem State.runPut_frame : Frame [.frame] [] [] s (s.runPut b r u) :=
  (((Frame.refl ..).settleQueue (by simp)).setBoard (by simp)).with_frame (by simp)

theorem State.dispatched_frame : Frame [] (dispatchEnts h) [] (s.runPut b r u) (s.dispatched h b r u) :=
  (((Frame.refl ..).wr (by simp [dispatchEnts])).wr (by simp [dispatchEnts])).inc (by simp [dispatchEnts])

theorem State.board_dispatched : (s.dispatched h b r u).board b
    = { s.board b with queue := (s.board b).queue.filter (fun q => q != .req r), run := some u } :=
  (State.board_congr (State.dispatched_frame.2.1 .frame (by simp)) b).trans (State.board_setBoard_self ..)

theorem State.board_dispatched_ne (hk : k ≠ b) : (s.dispatched h b r u).board k = s.board k :=
  (State.board_congr (State.dispatched_frame.2.1 .frame (by simp)) k).trans
    ((State.board_setBoard_ne _ _ hk).trans (State.settleQueue_keepsLoads.others k hk))

theorem State.beads_dispatched (hb : b < 256) : (s.dispatched h b r u).rd (E.Bead.BEAD_STATE h) = 1
    ∧ (s.dispatched h b r u).rd (E.Bead.BEAD_BOARD h) = b
    ∧ (s.dispatched h b r u).rd (E.Bead.BEAD_SOLVES h) = min (2 ^ 32 - 1) (s.rd (E.Bead.BEAD_SOLVES h) + 1) := by
  have hsolves : (E.Bead.BEAD_SOLVES h).key ≠ (E.Bead.BEAD_STATE h).key ∧ (E.Bead.BEAD_SOLVES h).key ≠ (E.Bead.BEAD_BOARD h).key
      ∧ (E.Bead.BEAD_BOARD h).key ≠ (E.Bead.BEAD_STATE h).key := by
    simp [E.Bead.BEAD_SOLVES, E.Bead.BEAD_STATE, E.Bead.BEAD_BOARD, entN]
  obtain ⟨hss, hsb, hbs⟩ := hsolves
  unfold State.dispatched
  refine ⟨?_, ?_, ?_⟩
  · rw [State.rd_inc_ne _ _ _ hss.symm, State.rd_wr_ne _ _ _ _ hbs.symm, State.rd_wr_self]
    rfl
  · rw [State.rd_inc_ne _ _ _ hsb.symm, State.rd_wr_self]
    exact Nat.mod_eq_of_lt (show b < 65536 by omega)
  · rw [State.rd_inc_self, State.rd_wr_ne _ _ _ _ hsb, State.rd_wr_ne _ _ _ _ hss, State.runPut_frame.rd (by simp) (by simp) (by simp)]
    rfl

theorem State.solveDispatch_completes (hh : h < 64) (hsup : s.rd E.Pwr.SUP_STATE ≠ 3) (hw : (s.ring 26).waiting = [])
    (hfirst : firstReq (s.readyOn h) = some (b, r)) (hfree : s.beadFree h = true) (hrod : s.readyOn (64 + h / 8) = [])
    (hres : s.frame.reserved.find (h / 8) = none) (hst : (s.board b).st = 2) (hq : (s.board b).queue = [.req r])
    (hdl : (s.instant at_ : Int) < r.deadline) (hrej : (s.board b).rejectPending = false) (hb : b < 256) :
    Completes (.solveDispatch at_ h) s (fun t => (t.board b).queue = [] ∧ (t.board b).run.map (fun u => (u.req, u.home)) = some (r, h)
      ∧ (t.board b).run.map (fun u => u.at_) = some (s.instant at_ : Int) ∧ (t.board b).pos = (s.board b).pos
      ∧ t.rd (E.Bead.BEAD_STATE h) = 1 ∧ t.rd (E.Bead.BEAD_BOARD h) = b
      ∧ t.rd (E.Bead.BEAD_SOLVES h) = min (2 ^ 32 - 1) (s.rd (E.Bead.BEAD_SOLVES h) + 1)
      ∧ (∀ k, k ≠ b → t.board k = s.board k) ∧ t.now = s.instant at_ ∧ Frame [.frame] (dispatchEnts h) [] s t) := by
  have hdispatch := State.solveDispatch_starts (s := s.advance at_) hh hsup hw hfirst hfree hrod hres
  have hbefore := (s.advance at_).reserveRods_reserves
  have hhome : s.rd (E.Solve.HOME_ACTIVE b) = h := State.homeActive_of_readyOn (p := (b, r)) (firstReq_mem hfirst)
  generalize (s.advance at_).reserveRods = y at hdispatch hbefore
  have hboard (k : Nat) : y.board k = s.board k := hbefore.board
  have hnow : y.now = s.instant at_ := hbefore.now
  have hcheck : y.reqCheck b r = none := by
    have hactive : y.rd (E.Solve.HOME_ACTIVE b) = h := hbefore.rd.trans hhome
    have hne : h ≠ 255 := by omega
    simp [State.reqCheck, hboard, hst, hactive, hne, hnow, hdl, hrej]
  obtain ⟨u, hreq, huhome, huat, hstart⟩ := State.startReq_starts hh (by rw [hboard, hq]) hcheck
  obtain ⟨hbead, hbeadBoard, hsolves⟩ := State.beads_dispatched (s := y) (h := h) (r := r) (u := u) hb
  have hafter := (y.dispatched h b r u).reserveRods_reserves
  rw [hstart] at hdispatch
  have hrun : (y.dispatched h b r u).reserveRods.board b = { s.board b with queue := [], run := some u } := by
    rw [hafter.board, State.board_dispatched, hboard, hq]
    simp
  refine ⟨_, congrArg Host.Outcome.next hdispatch, by rw [hrun], by rw [hrun, ← hreq, ← huhome]; rfl, by rw [hrun, ← hnow, ← huat]; rfl,
    by rw [hrun], hafter.rd.trans hbead, hafter.rd.trans hbeadBoard, ?_, fun k hk => ?_, ?_, ?_⟩
  · rw [hafter.rd, hsolves, hbefore.rd]
    rfl
  · rw [hafter.board, State.board_dispatched_ne hk, hboard]
  · rw [hafter.now, ← hnow]
    simp [State.dispatched, State.runPut]
  · exact (((Frame.refl ..).advance.trans (hbefore.frame.mono (by simp) (by simp) (by simp))).trans
      ((State.runPut_frame.mono (by simp) (by simp) (by simp)).trans (State.dispatched_frame.mono (by simp) (by simp) (by simp)))).trans
        (hafter.frame.mono (by simp) (by simp) (by simp))

/-- Without power, or with an entry that waits for DONE, nothing is dispatched (R209, R545). -/
theorem State.solveDispatch_held (h0 : s.rd E.Pwr.SUP_STATE = 3 ∨ (s.ring 26).waiting ≠ []) : s.solveDispatch h = s := by
  unfold State.solveDispatch
  refine if_pos ?_
  rcases h0 with hsup | hw
  · simp [State.frameGoes, hsup]
  · simp [hw]

/-! ## The ends of a running solve as events -/

/-- `t` is `s` with the running solve `u` of the resident board `b` ended as `e`, the solution published where it is SOLVED (R172, R205). -/
structure CommitsOutcome (b : Nat) (u : Run) (e : SolveEnd) (s t : State) : Prop where
  run : (t.board b).run = none
  lastStatus : t.rd (E.Solve.LAST_STATUS b) = e.status % 256
  lastId : t.rd (E.Solve.LAST_SOLVE_ID b) = u.req.solveId % 2 ^ 32
  lastTb3 : t.rd (E.Solve.LAST_OUTCOME_TB3 b) = time96ns s.now
  status : (t.board b).pos.status = e.status ∧ (t.board b).pos.solveId = u.req.solveId
  solved : e.status = 0 → (t.board b).pos.valid = true ∧ (t.board b).pos.x = e.x ∧ (t.board b).pos.y = e.y
    ∧ (t.board b).pos.solvedId = u.req.solveId ∧ (t.board b).pos.objective = e.objective
  unsolved : e.status ≠ 0 → (t.board b).pos.x = (s.board b).pos.x ∧ (t.board b).pos.y = (s.board b).pos.y
    ∧ (t.board b).pos.valid = (s.board b).pos.valid
  answered : u.req.source = 0xFE → u.aborts ≠ 0 → t.odStatus = if e.status = 0x11 then 0 else 0x38
  others : ∀ k, k ≠ b → t.board k = s.board k
  now : t.now = s.now

theorem State.solveOutcome_commits (hsup : s.rd E.Pwr.SUP_STATE ≠ 3) (hrun : (s.board b).run = some u) (hhome : u.home ≠ 0xFF)
    (hleft : 2 * (s.now : Int) + solveCross < 2 * u.req.deadline) (hst : (s.board b).st = 2) :
    CommitsOutcome b u (fullSolve (s.board b) u) s (s.solveOutcome b) := by
  rw [State.solveOutcome_eq hsup hrun hhome hleft]
  generalize fullSolve (s.board b) u = e
  have hres := (s.drawn.endRequest b u.req (some u) e.status e).reserveRods_reserves
  obtain ⟨hstatus, hlast, htb3⟩ := State.last_endRequest (s := s.drawn) (b := b) (r := u.req) (run := some u) (status := e.status) (e := e)
  obtain ⟨hpos, hposId, hsolved⟩ := State.outcome_endRequest (s := s.drawn) (r := u.req) (u := u) (status := e.status) (e := e) hst
  constructor
  case run => rw [hres.board, State.board_endRequest, Board.settled_run, Board.ended_run]
  case lastStatus => exact hres.rd.trans hstatus
  case lastId => exact hres.rd.trans hlast
  case lastTb3 => exact hres.rd.trans htb3
  case status => exact ⟨by rw [hres.board, hpos], by rw [hres.board, hposId]⟩
  case solved => exact fun hs => by rw [hres.board]; exact hsolved hs
  case unsolved => exact fun hs => by rw [hres.board]; exact State.unsolved_endRequest hs
  case answered => exact fun hsource hab => hres.odStatus.trans (State.endRequest_odStatus hsource hab)
  case others => exact fun k hk => by rw [hres.board, State.board_endRequest_ne hk]; rfl
  case now => exact hres.now.trans (State.endRequest_now ..)

theorem State.solveOutcome_keeps : Keeps [.frame, .answer, .eop, .free] s ((s.advance at_).solveOutcome b) :=
  (((Moves.refl [.frame, .answer, .eop, .free] s).step State.advance_moves).step State.solveOutcome_moves).1

theorem State.solveOutcome_completes (hsup : s.rd E.Pwr.SUP_STATE ≠ 3) (hrun : (s.board b).run = some u) (hhome : u.home ≠ 0xFF)
    (hleft : 2 * (s.instant at_ : Int) + solveCross < 2 * u.req.deadline) (hst : (s.board b).st = 2) (hid : u.req.solveId < 2 ^ 32)
    (he : e = fullSolve (s.board b) u) :
    Completes (.solveOutcome at_ b) s (fun t => (t.board b).run = none ∧ t.rd (E.Solve.LAST_STATUS b) = e.status % 256
      ∧ t.rd (E.Solve.LAST_SOLVE_ID b) = u.req.solveId ∧ t.rd (E.Solve.LAST_OUTCOME_TB3 b) = time96ns (s.instant at_)
      ∧ (t.board b).pos.status = e.status ∧ (t.board b).pos.solveId = u.req.solveId
      ∧ (e.status = 0 → (t.board b).pos.valid = true ∧ (t.board b).pos.x = e.x ∧ (t.board b).pos.y = e.y
          ∧ (t.board b).pos.solvedId = u.req.solveId ∧ (t.board b).pos.objective = e.objective)
      ∧ (e.status ≠ 0 → (t.board b).pos.x = (s.board b).pos.x ∧ (t.board b).pos.y = (s.board b).pos.y
          ∧ (t.board b).pos.valid = (s.board b).pos.valid)
      ∧ (∀ k, k ≠ b → t.board k = s.board k) ∧ t.now = s.instant at_ ∧ Keeps [.frame, .answer, .eop, .free] s t) := by
  have hout : CommitsOutcome b u e (s.advance at_) ((s.advance at_).solveOutcome b) :=
    he ▸ State.solveOutcome_commits (s := s.advance at_) hsup hrun hhome hleft hst
  exact ⟨_, rfl, hout.run, hout.lastStatus, hout.lastId.trans (Nat.mod_eq_of_lt hid), hout.lastTb3, hout.status.1, hout.status.2, hout.solved,
    hout.unsolved, hout.others, hout.now, State.solveOutcome_keeps⟩

theorem State.deadlineMiss_running_completes (hsup : s.rd E.Pwr.SUP_STATE ≠ 3) (hrun : (s.board b).run = some u)
    (hdl : u.req.deadline ≤ (s.instant at_ : Int)) (hid : u.req.solveId < 2 ^ 32) :
    Completes (.deadlineMiss at_ b c) s (fun t => (t.board b).run = none ∧ t.rd (E.Solve.LAST_STATUS b) = 0x10
      ∧ t.rd (E.Solve.LAST_SOLVE_ID b) = u.req.solveId
      ∧ t.rd (E.Solve.DEADLINE_MISSES b) = min (2 ^ 32 - 1) (s.rd (E.Solve.DEADLINE_MISSES b) + 1)
      ∧ ((s.board b).queue = [] → (t.board b).warm = (s.board b).warm ∧ (t.board b).vals = (s.board b).vals)
      ∧ (t.board b).pos.x = (s.board b).pos.x ∧ (t.board b).pos.valid = (s.board b).pos.valid
      ∧ (∀ k, k ≠ b → t.board k = s.board k) ∧ t.now = s.instant at_ ∧ Keeps [.frame, .answer, .eop] s t) := by
  have hmoves : Moves [.frame, .answer, .eop] s ((s.advance at_).deadlineMiss b c) :=
    ((Moves.refl ..).step State.advance_moves).step State.deadlineMiss_moves
  have hend : EndsUnsolved b 0x10 u.req (s.advance at_) ((s.advance at_).deadlineMiss b c) := by
    rw [State.deadlineMiss_running (s := s.advance at_) hsup hrun hdl]
    exact State.endRequest_endsUnsolved (by decide) (by decide) hid
  exact ⟨_, rfl, hend.run, hend.lastStatus, hend.lastId, hend.counted, hend.kept, hend.solution.1, hend.solution.2, hend.others, hend.now, hmoves.1⟩

theorem State.abortLatch_completes (hsup : s.rd E.Pwr.SUP_STATE ≠ 3) (hrun : (s.board b).run = some u) (hab : u.aborts ≠ 0)
    (hdl : (s.instant at_ : Int) < u.req.deadline) (hid : u.req.solveId < 2 ^ 32) :
    Completes (.abortLatch at_ b c false) s (fun t => (t.board b).run = none ∧ t.rd (E.Solve.LAST_STATUS b) = 0x11
      ∧ t.rd (E.Solve.LAST_SOLVE_ID b) = u.req.solveId
      ∧ t.rd (E.Solve.ABORTS b) = min (2 ^ 32 - 1) (s.rd (E.Solve.ABORTS b) + 1)
      ∧ ((s.board b).queue = [] → (t.board b).warm = (s.board b).warm ∧ (t.board b).vals = (s.board b).vals)
      ∧ (t.board b).pos.x = (s.board b).pos.x ∧ (t.board b).pos.valid = (s.board b).pos.valid
      ∧ (u.req.source = 0xFE → t.odStatus = 0)
      ∧ (∀ k, k ≠ b → t.board k = s.board k) ∧ t.now = s.instant at_ ∧ Keeps [.frame, .answer, .eop] s t) := by
  have hstop := State.abortLatch_stops (s := s.advance at_) (c := c) hsup hrun hab hdl
  generalize (if u.home = 0xFF then noWork ((s.advance at_).board b) else cutSolve ((s.advance at_).board b) u c) = e at hstop
  have hmoves : Moves [.frame, .answer, .eop] s ((s.advance at_).endRequest b u.req (some u) 0x11 e).reserveRods :=
    (((Moves.refl ..).step State.advance_moves).step State.endRequest_moves).step State.reserveRods_moves
  have hend : EndsUnsolved b 0x11 u.req (s.advance at_) ((s.advance at_).endRequest b u.req (some u) 0x11 e).reserveRods :=
    State.endRequest_endsUnsolved (by decide) (by decide) hid
  refine ⟨_, congrArg Host.Outcome.next hstop, hend.run, hend.lastStatus, hend.lastId, hend.counted, hend.kept, hend.solution.1, hend.solution.2,
    fun hsource => ?_, hend.others, hend.now, hmoves.1⟩
  exact (State.reserveRods_reserves _).odStatus.trans (State.endRequest_odStatus hsource hab)

/-- An abort in the cycle of the outcome leaves the outcome, and is answered TOO_LATE (R201). -/
theorem State.abortLatch_sameCycle_completes (hsup : s.rd E.Pwr.SUP_STATE ≠ 3) (hrun : (s.board b).run = some u) (hab : u.aborts ≠ 0)
    (hhome : u.home ≠ 0xFF) (hleft : 2 * (s.instant at_ : Int) + solveCross < 2 * u.req.deadline) (hst : (s.board b).st = 2) :
    Completes (.abortLatch at_ b c true) s (fun t => (t.board b).run = none ∧ (t.board b).pos.status = (fullSolve (s.board b) u).status
      ∧ (u.req.source = 0xFE → (fullSolve (s.board b) u).status ≠ 0x11 → t.odStatus = 0x38)
      ∧ (∀ k, k ≠ b → t.board k = s.board k) ∧ t.now = s.instant at_ ∧ Keeps [.frame, .answer, .eop, .free] s t) := by
  have hdl : (s.instant at_ : Int) < u.req.deadline := by omega
  have hout := State.solveOutcome_commits (s := s.advance at_) hsup hrun hhome hleft hst
  exact ⟨_, congrArg Host.Outcome.next (State.abortLatch_sameCycle (s := s.advance at_) hsup hrun hab hdl), hout.run, hout.status.1,
    fun hsource hs => (hout.answered hsource hab).trans (if_neg hs), hout.others, hout.now, State.solveOutcome_keeps⟩

/-! ## A waiting request at its deadline, and DONE (R200, R209) -/

/-- A request that was not dispatched has taken no abort: its end touches the Frame and what reports of it. -/
theorem State.endRequest_undispatched_frame :
    Frame [.frame] (outcomeCounter b status :: recordEnts b ++ outcomeStats b) [26] s (s.endRequest b r none status e) := by
  obtain ⟨z, d, hz, hend⟩ := State.endRequest_eq (s := s) (b := b) (r := r) (run := none) (status := status) (e := e)
  have hput := State.outcomePut_frame (s := s) (b := b) (r := r) (run := none) (status := status) (e := e)
  have hnoted := State.outcomeNoted_frame (s := s) (b := b) (r := r) (run := none) (status := status) (e := e)
  rw [hend]
  exact Frame.settleQueue (((hput.mono (by simp) (by simp [freedEnts]) (by simp)).trans
    (hnoted.mono (by simp) (fun _ hf => List.mem_append_left _ hf) (by simp))).trans
      ((hz.mono (by simp) (fun _ hf => List.mem_append_right _ hf) (by simp)).trans
        (State.outcomeReported_frame.mono (by simp) (by simp) (by simp)))) (by simp)

/-- The request has left the queue of its board. -/
def State.unqueued (s : State) (b : Nat) (r : SolveReq) : State :=
  s.setBoard b { s.board b with queue := (s.board b).queue.filter (fun q => q != .req r) }

theorem State.board_unqueued : (s.unqueued b r).board b = { s.board b with queue := (s.board b).queue.filter (fun q => q != .req r) } :=
  State.board_setBoard_self ..

theorem State.endWaiting_eq : s.endWaiting b r status = (s.unqueued b r).endRequest b r none status (noWork (s.board b)) := rfl

theorem State.deadlineMiss_waiting_completes (hsup : s.rd E.Pwr.SUP_STATE ≠ 3) (hrun : (s.board b).run = none)
    (hw : waitingReq (s.board b) = some r) (hdl : r.deadline ≤ (s.instant at_ : Int)) (hid : r.solveId < 2 ^ 32) :
    Completes (.deadlineMiss at_ b c) s (fun t => t.rd (E.Solve.LAST_STATUS b) = 0x10 ∧ t.rd (E.Solve.LAST_SOLVE_ID b) = r.solveId
      ∧ t.rd (E.Solve.DEADLINE_MISSES b) = min (2 ^ 32 - 1) (s.rd (E.Solve.DEADLINE_MISSES b) + 1)
      ∧ ((s.board b).queue = [.req r] → (t.board b).queue = []) ∧ (t.board b).pos.x = (s.board b).pos.x
      ∧ (∀ k, k ≠ b → t.board k = s.board k) ∧ t.now = s.instant at_ ∧ Keeps [.frame] s t) := by
  have hend := State.deadlineMiss_waiting (s := s.advance at_) (c := c) hsup hrun hw hdl
  rw [State.endWaiting_eq] at hend
  generalize noWork ((s.advance at_).board b) = e at hend
  have hres := (((s.advance at_).unqueued b r).endRequest b r none 0x10 e).reserveRods_reserves
  obtain ⟨hstatus, hlast, -⟩ := State.last_endRequest (s := (s.advance at_).unqueued b r) (b := b) (r := r) (run := none) (status := 0x10) (e := e)
  obtain ⟨hx, -⟩ := State.unsolved_endRequest (s := (s.advance at_).unqueued b r) (b := b) (r := r) (run := none) (status := 0x10) (e := e) (by decide)
  have hcount := State.counted_endRequest (s := (s.advance at_).unqueued b r) (b := b) (r := r) (run := none) (status := 0x10) (e := e)
  have hframe : Frame [.frame] (outcomeCounter b 0x10 :: recordEnts b ++ outcomeStats b) [26] s
      (((s.advance at_).unqueued b r).endRequest b r none 0x10 e).reserveRods :=
    (((Frame.refl ..).advance.setBoard (by simp)).trans State.endRequest_undispatched_frame).trans
      (hres.frame.mono (by simp) (by simp) (by simp))
  refine ⟨_, congrArg Host.Outcome.next hend, hres.rd.trans hstatus, ?_, hres.rd.trans hcount, fun hq => ?_, ?_, fun k hk => ?_,
    hres.now.trans (State.endRequest_now ..), hframe.1, hframe.2.1⟩
  · rw [hres.rd, hlast, Nat.mod_eq_of_lt hid]
  · have hempty : (((s.advance at_).unqueued b r).board b).queue = [] := by
      rw [State.board_unqueued, show (s.advance at_).board b = s.board b from rfl, hq]
      simp
    obtain ⟨-, hqueue⟩ := Board.ended_keeps (x := ((s.advance at_).unqueued b r).board b) (now := ((s.advance at_).unqueued b r).now) (r := r)
      (run := none) (status := 0x10) (e := e)
    rw [hres.board, State.board_endRequest, Board.settled_of_empty (hqueue.trans hempty), hqueue, hempty]
  · rw [hres.board, hx, State.board_unqueued]
    rfl
  · rw [hres.board, State.board_endRequest_ne hk]
    exact State.board_setBoard_ne _ _ hk

/-- On a ring with room the entry that waited longest joins the others. -/
theorem State.unstall_of_room {d : RingEntry} {rest : List RingEntry} (hw : (s.ring k).waiting = d :: rest) (hroom : s.room k 1 = true) :
    ∃ q : Ring, q.q = (s.ring k).q ∧ q.waiting = rest ∧ s.unstall k = (s.setRing k q).append k (d.committed s.now) := by
  simp only [State.unstall, hw, hroom, Bool.not_true, Bool.false_eq_true, if_false]
  refine ⟨_, ?_, ?_, rfl⟩ <;> cases rest <;> rfl

theorem State.doneWrite_completes {d : RingEntry} {rest : List RingEntry} (hw : (s.ring 26).waiting = d :: rest) (hroom : s.fill 26 < 512) :
    Completes (.doneWrite at_) s (fun t => (t.ring 26).q = (s.ring 26).q ++ [d.committed (s.instant at_)] ∧ (t.ring 26).waiting = rest
      ∧ t.now = s.instant at_ ∧ Frame [] [] [26] s t) := by
  obtain ⟨q, hq, hrest, hwrite⟩ := State.unstall_of_room (s := s.advance at_) hw (State.room_of_fill_lt (s := s.advance at_) hroom)
  change (s.advance at_).doneWrite = _ at hwrite
  have hring : ((s.advance at_).doneWrite).ring 26 = { q with q := q.q ++ [d.committed (s.instant at_)] } := by
    rw [hwrite, State.ring_append_self, State.ring_setRing_self]
    rfl
  refine ⟨_, rfl, ?_, ?_, ?_, Frame.unstall (Frame.refl ..).advance (by simp)⟩
  · rw [hring, hq, State.ring_advance]
  · rw [hring, hrest]
  · rw [hwrite]
    simp [State.instant]

end

/-- Settles O24: each event by its own lemma; what an end leaves is what `endRequest` leaves, whichever event it is. -/
theorem solvesAreDispatchedAndEndOnce : Obligations.SolvesAreDispatchedAndEndOnce := by
  unfold Obligations.SolvesAreDispatchedAndEndOnce
  refine ⟨?_, fun s at_ h h0 => ?_, fun _ _ _ hsup _ hrun hhome hleft hst hid _ he => State.solveOutcome_completes hsup hrun hhome hleft hst hid he,
    fun _ _ _ _ hsup _ hrun hdl hid => State.deadlineMiss_running_completes hsup hrun hdl hid,
    fun _ _ _ _ hsup hrun _ hw hdl hid => State.deadlineMiss_waiting_completes hsup hrun hw hdl hid,
    fun _ _ _ _ hsup _ hrun hab hdl hid => State.abortLatch_completes hsup hrun hab hdl hid,
    fun _ _ _ _ hsup _ hrun hab hhome hleft hst => State.abortLatch_sameCycle_completes hsup hrun hab hhome hleft hst,
    fun _ _ _ _ hw hroom => State.doneWrite_completes hw hroom⟩
  · rintro s at_ h hh hsup hw ⟨b, r⟩ hfirst hfree hrod hres _ rfl _ rfl hst hq - - hdl hrej hb
    exact State.solveDispatch_completes hh hsup hw hfirst hfree hrod hres hst hq hdl hrej hb
  · exact ⟨_, congrArg Host.Outcome.next (State.solveDispatch_held (s := s.advance at_) h0), rfl, (Frame.refl ..).advance⟩

end Sys2Proof.Machine
end

section
/-!
O25. The statement holds of every state, also of one whose board has two requests waiting. No run reaches such a state (a request that is
taken ends the one that waits, R197), but there FRAME_STORE_UNCORRECTABLE ends the first of them and leaves the second in the queue.
-/
namespace Sys2Proof.Machine.TwoWaiting

/-- A request of task 0 with SOLVE_ID `id`, taken as number `id`. -/
def request (id : Nat) : SolveReq :=
  { solveId := id, source := 0, deadline := 2000000000, cold := false, issued := 0, taken := 0, hi := true, order := id }

/-- The module whose resident board 3 has two requests in its queue. -/
def state : State := State.reset.setBoard 3 { st := 2, source := 0, queue := [.req (request 1), .req (request 2)] }

/-- After the fault of the store the second request still waits. -/
theorem waitingReq_storeFault : waitingReq (((state.advance 0).storeFault 3).board 3) = some (request 2) := by decide +kernel

end Sys2Proof.Machine.TwoWaiting
namespace Sys2Proof.Machine

/-- Refutes O25: of two requests that wait on a board, a fault of the Frame store ends the first one only. -/
theorem not_faultsOfBeadsAndOfTheFrameStore : ¬ Obligations.FaultsOfBeadsAndOfTheFrameStore := by
  unfold Obligations.FaultsOfBeadsAndOfTheFrameStore
  rintro ⟨-, -, hstore⟩
  obtain ⟨t, ht, -, -, hnone, -⟩ := hstore TwoWaiting.state 0 3 (by decide) (by decide +kernel)
  obtain rfl : (TwoWaiting.state.advance 0).storeFault 3 = t := by injection ht
  rw [TwoWaiting.waitingReq_storeFault] at hnone
  exact absurd hnone (by decide)

end Sys2Proof.Machine
end

section
/-!
O26. The statement speaks of every state, also of one that has a loop beyond the 512 slots of Tally. The checks of a load refuse an archive
with such a loop (R216, R262), but in such a state the entries of slot 512 lie on those of Tally: its SP_LOCAL is FIELD_MISS_FRAMES. In
MANUAL it takes the loop's PV (Table TLY-8), so the count of failed field frames changes though no field frame has failed.
-/
namespace Sys2Proof.Machine.SlotBeyond

/-- A loop without stages in slot 512, released in every frame, whose PV is 1.0. -/
def loop : LoopDef :=
  { id := 512, pipeline := 0, order := 0, period := 1, phase := 0, stages := [], presetStage := none, manPoint := 0
    inputs := [some (.const 0x3F800000)], spSource := none, cascadeInner := none, out0 := .none, out1 := .none, name := [], bankA := []
    bankB := [] }

/-- A module that runs, ACTIVE, with the loop, whose setpoint lies from 0.0 to 1.0. -/
def state : State :=
  let s := { State.reset with power := { State.reset.power with boot := none, resumeAt := some 0 } }
  ((s.wr E.Twin.TWIN_ROLE 0).wr (E.Loop.SP_HI 512) 0x3F800000).setLoop 512 { attr := some loop }

/-- The sample in MANUAL leaves the binary32 of 1.0 in FIELD_MISS_FRAMES, which read 0. -/
theorem fieldMiss_frameBoundary : ((state.advance 50000).frameBoundary []).rd E.Tally.FIELD_MISS_FRAMES = 0x3F800000
    ∧ state.rd E.Tally.FIELD_MISS_FRAMES = 0 ∧ state.field.frameOk = true := by
  decide +kernel

end Sys2Proof.Machine.SlotBeyond
namespace Sys2Proof.Machine

/-- Refutes O26: the sample of a loop beyond the last slot changes the count of failed field frames. -/
theorem not_framesCommitAndSampleTheLoops : ¬ Obligations.FramesCommitAndSampleTheLoops := by
  unfold Obligations.FramesCommitAndSampleTheLoops
  rintro ⟨-, hframe, -⟩
  obtain ⟨t, ht, -, -, -, -, -, -, -, hmiss, -⟩ := hframe SlotBeyond.state 50000 [] (by decide +kernel) (by decide +kernel) (by decide +kernel)
    (by decide +kernel)
  obtain rfl : (SlotBeyond.state.advance 50000).frameBoundary [] = t := by injection ht
  obtain ⟨hafter, hbefore, hok⟩ := SlotBeyond.fieldMiss_frameBoundary
  rw [hafter, hok, if_pos rfl, hbefore] at hmiss
  exact absurd hmiss (by decide)

end Sys2Proof.Machine
end

section
/-!
O27. A bank parameter at whose key the archive publishes a variable. R58 gives published variables the indices 0x8000 to 0xBFFF, but the
checks of a load do not look at them, so ARCHIVE_LOAD takes an archive that publishes one at the key of a bank parameter, and the entry at
that key is then the variable's. A write of its default, 0, lists no value, so the parameter still reads what the archive gives it (R263).
-/
namespace Sys2Proof.Machine.ExportedParameter

/-- The application's dictionary port (R56). -/
def writer : Writer := { level := .operator, node := 0x40000 }

/-- Loop 0, released in every frame: one FF_SUM stage (Table TLY-5), whose WA is 1.0 in bank A. -/
def loop : LoopDef :=
  { id := 0, pipeline := 0, order := 0, period := 1, phase := 0, stages := [{ code := 0x0B, a := none, b := none, c := none }]
    presetStage := none, manPoint := 0, inputs := [], spSource := none, cascadeInner := none, out0 := .none, out1 := .none, name := []
    bankA := [(0, 0x3F800000)], bankB := [] }

/-- An archive with the loop that publishes a variable at the key of that WA. -/
def archive : Archive :=
  { release := 0x0302, id := 5, loops := [loop]
    exports := [{ index := 0x4400, sub := 1, ty := .f32, access := 1, level := .operator, var := 0, task := 0 }] }

/-- The module in STOP after it has loaded the archive. -/
def state : State := ((inOperation { release := 0x0302, id := 4 }).wr E.Id.FW_RELEASE 0x0302).archiveLoad archive

theorem accepts : state.accepts 0 writer 0x440001 .f32 (.num 0) := by
  unfold State.accepts
  decide +kernel

/-- After the accepted write of 0.0 the parameter is 1.0. -/
theorem bankParam_written : ((state.advance 0).writeStep writer 0x440001 .f32 (.num 0)).bankParam 0 0 0 0 = 0x3F800000 := by decide +kernel

end Sys2Proof.Machine.ExportedParameter
namespace Sys2Proof.Machine

/-- Refutes O27: a write of 0 to a parameter at whose key the archive publishes a variable leaves the parameter at the archive's value. -/
theorem not_loopsAreSetByWrites : ¬ Obligations.LoopsAreSetByWrites := by
  unfold Obligations.LoopsAreSetByWrites
  rintro ⟨-, -, -, -, hparam, -⟩
  obtain ⟨t, ht, -, hv, -⟩ := hparam ExportedParameter.state 0 0 0 0 0 0 ExportedParameter.writer (by decide) (by decide) (by decide) (by decide)
    (by decide) _ rfl ExportedParameter.accepts
  obtain rfl : (ExportedParameter.state.advance 0).writeStep ExportedParameter.writer 0x440001 .f32 (.num 0) = t := by injection ht
  rw [ExportedParameter.bankParam_written] at hv
  exact absurd hv (by decide)

end Sys2Proof.Machine
end

section
/-!
SUPPORT. A time base after a change: its stretches (R274), and what the operations of its PTP clock and its servo leave (R267 to R273,
Table TIM-2).
-/
namespace Sys2Proof.Machine

/-! ## The history of a base (R274) -/

section
variable {l : List TbSeg} {g : TbSeg} {now t h : Nat}

theorem pruneSegs_ne_nil (hl : l ≠ []) : pruneSegs now l ≠ [] := by
  cases l with
  | nil => exact absurd rfl hl
  | cons g gs => unfold pruneSegs; split <;> simp

theorem segAt_cons_of_le (hg : g.from_ ≤ t) : segAt (g :: l) t = g := by
  cases l with
  | nil => rfl
  | cons => simp [segAt, hg]

theorem segAt_cons_of_lt (hl : l ≠ []) (hg : t < g.from_) : segAt (g :: l) t = segAt l t := by
  cases l with
  | nil => exact absurd rfl hl
  | cons => simp [segAt, Nat.not_le.2 hg]

/-- Within 16 s the history that is kept says what the whole one says. -/
theorem segAt_pruneSegs (hn : now ≤ t + 16000000000) : segAt (pruneSegs now l) t = segAt l t := by
  induction l with
  | nil => rfl
  | cons g gs ih =>
    unfold pruneSegs
    split
    · rw [segAt_cons_of_le (l := gs) (by omega)]
      rfl
    · by_cases hg : g.from_ ≤ t
      · rw [segAt_cons_of_le hg, segAt_cons_of_le hg]
      · cases gs with
        | nil => rfl
        | cons => rw [segAt_cons_of_lt (pruneSegs_ne_nil (by simp)) (by omega), segAt_cons_of_lt (by simp) (by omega), ih]

theorem tbHalf_pruneSegs (hn : now ≤ h / 2 + 16000000000) : tbHalf (pruneSegs now l) h = tbHalf l h := by
  simp only [tbHalf, segAt_pruneSegs hn]

theorem tbHalf_mod (l : List TbSeg) (h : Nat) : tbHalf l h % tbModulus = tbHalf l h := Int.emod_emod ..

end

/-! ## One base changed -/

/-- From `s` to `t` no base but `b` differs, and no peer delay. -/
structure OnBase (b : Nat) (s t : State) : Prop where
  others : ∀ k < 3, k ≠ b → t.tb k = s.tb k
  peers : t.time.peers = s.time.peers

section
variable {s x y : State} {b k : Nat} {z : BaseSt} {ps : List Part} {es : List Ent} {rs : List Nat}

theorem State.tb_congr (ht : y.time = x.time) : y.tb k = x.tb k := by simp only [State.tb, ht]

@[simp] theorem State.tb_setTb_self (s : State) (b : Nat) (z : BaseSt) : (s.setTb b z).tb b = z := by
  rcases b with _ | _ | b <;> rfl

theorem State.tb_setTb_ne (hb : b < 3) (hk : k < 3) (h : k ≠ b) : (s.setTb b z).tb k = s.tb k := by
  rcases (by omega : b = 0 ∨ b = 1 ∨ b = 2) with rfl | rfl | rfl <;>
    rcases (by omega : k = 0 ∨ k = 1 ∨ k = 2) with rfl | rfl | rfl <;> simp_all [State.setTb, State.tb]

theorem State.setTb_eq (s : State) (b : Nat) (z : BaseSt) : ∃ v, s.setTb b z = { s with time := v } := by
  unfold State.setTb
  split <;> exact ⟨_, rfl⟩

theorem State.setTb_tb_self (s : State) (b : Nat) : s.setTb b (s.tb b) = s := by
  rcases b with _ | _ | b <;> rfl

@[simp] theorem State.rd_setTb (e : Ent) : (s.setTb b z).rd e = s.rd e := by
  obtain ⟨v, hv⟩ := s.setTb_eq b z
  rw [hv]
  rfl

@[simp] theorem State.rdI_setTb (e : Ent) : (s.setTb b z).rdI e = s.rdI e := by simp only [State.rdI, State.rd_setTb]

@[simp] theorem State.setTb_peers : (s.setTb b z).time.peers = s.time.peers := by
  unfold State.setTb
  split <;> rfl

theorem Frame.setTb (h : Frame ps es rs s x) (hp : Part.time ∈ ps) : Frame ps es rs s (x.setTb b z) := by
  obtain ⟨v, hv⟩ := x.setTb_eq b z
  rw [hv]
  exact h.with_time hp

theorem OnBase.refl (b : Nat) (s : State) : OnBase b s s := ⟨fun _ _ _ => rfl, rfl⟩

theorem OnBase.trans (h : OnBase b s x) (g : OnBase b x y) : OnBase b s y :=
  ⟨fun k hk hne => (g.others k hk hne).trans (h.others k hk hne), g.peers.trans h.peers⟩

theorem OnBase.of_time (h : OnBase b s x) (ht : y.time = x.time) : OnBase b s y :=
  h.trans ⟨fun _ _ _ => State.tb_congr ht, by rw [ht]⟩

theorem OnBase.setTb (h : OnBase b s x) (hb : b < 3) : OnBase b s (x.setTb b z) :=
  h.trans ⟨fun _ hk hne => State.tb_setTb_ne hb hk hne, State.setTb_peers⟩

theorem OnBase.ite {c : Prop} [Decidable c] (h : c → OnBase b s x) (g : ¬c → OnBase b s y) : OnBase b s (if c then x else y) := by
  split
  · exact h ‹_›
  · exact g ‹_›

end

/-! ## What is reported of a base -/

section
variable {s x : State} {b k ev d : Nat} {v : Int} {ps : List Part} {es : List Ent} {rs : List Nat}

@[simp] theorem State.tsEvt_time : (s.tsEvt ev b d v).time = s.time := by simp [State.tsEvt]
@[simp] theorem State.staleClock_time : (s.staleClock b).time = s.time := by simp [State.staleClock, apply_ite State.time]
@[simp] theorem State.staleClock_rd (e : Ent) : (s.staleClock b).rd e = s.rd e := by
  unfold State.staleClock
  split <;> rfl

@[simp] theorem State.tb_wr (e : Ent) (n : Nat) : (s.wr e n).tb k = s.tb k := rfl
@[simp] theorem State.tb_wrI (e : Ent) (i : Int) : (s.wrI e i).tb k = s.tb k := rfl
@[simp] theorem State.tb_wrB (e : Ent) (l : List Byte) : (s.wrB e l).tb k = s.tb k := rfl
@[simp] theorem State.tb_inc (e : Ent) : (s.inc e).tb k = s.tb k := rfl
@[simp] theorem State.tb_advance (a : Nat) : (s.advance a).tb k = s.tb k := rfl
@[simp] theorem State.tb_tsEvt : (s.tsEvt ev b d v).tb k = s.tb k := State.tb_congr State.tsEvt_time
@[simp] theorem State.tb_staleClock : (s.staleClock b).tb k = s.tb k := State.tb_congr State.staleClock_time

theorem Frame.tsEvt (h : Frame ps es rs s x) (hr : 45 ∈ rs) : Frame ps es rs s (x.tsEvt ev b d v) := h.place hr

theorem Frame.staleClock (h : Frame ps es rs s x) (hl : Part.ledger ∈ ps) : Frame ps es rs s (x.staleClock b) :=
  .ite (fun _ => h.with_ledger hl) (fun _ => h)

/-- An event touches no entry but those of its ring. -/
theorem State.rd_tsEvt {e : Ent} (he : e.key / 256 ≠ 0x1B2D) : (s.tsEvt ev b d v).rd e = s.rd e :=
  ((Frame.refl [] [] [45] s).tsEvt (by simp)).rd (by simp) (by simp) (by simpa using he)

theorem State.rdB_tsEvt {e : Ent} (he : e.key / 256 ≠ 0x1B2D) : (s.tsEvt ev b d v).rdB e = s.rdB e :=
  congrArg valBytes (((Frame.refl [] [] [45] s).tsEvt (by simp)).get (by simp) (by simp) (by simpa using he))

end

/-! ## A new stretch (R267, R270) -/

section
variable {s x : State} {b h : Nat} {g : TbSeg} {f v : Int} {ps : List Part} {es : List Ent} {rs : List Nat}

theorem State.tb_newSeg_self : (s.newSeg b g).tb b = { s.tb b with
    segs := g :: pruneSegs s.now (if (s.tb b).segs.isEmpty then [{ from_ := 0, val := 0, freq := 0 }] else (s.tb b).segs) } :=
  State.tb_setTb_self ..

theorem Frame.newSeg (hf : Frame ps es rs s x) (hp : Part.time ∈ ps) : Frame ps es rs s (x.newSeg b g) := hf.setTb hp

theorem OnBase.newSeg (ho : OnBase b s x) (hb : b < 3) : OnBase b s (x.newSeg b g) := ho.setTb hb

@[simp] theorem State.rd_newSeg (e : Ent) : (s.newSeg b g).rd e = s.rd e := State.rd_setTb e

/-- Before a stretch begins, and within 16 s, the base keeps the value that it had. -/
theorem State.tbHalf_newSeg_before (hh : h / 2 < g.from_) (hn : s.now ≤ h / 2 + 16000000000) :
    tbHalf ((s.newSeg b g).tb b).segs h = tbHalf (s.tb b).segs h := by
  rw [State.tb_newSeg_self]
  simp only [tbHalf]
  split
  · next he => rw [segAt_cons_of_lt (pruneSegs_ne_nil (by simp)) hh, segAt_pruneSegs hn, List.isEmpty_iff.1 he]; rfl
  · next he => rw [segAt_cons_of_lt (pruneSegs_ne_nil (by simpa using he)) hh, segAt_pruneSegs hn]

theorem State.tbHalf_newSeg_from (hh : g.from_ ≤ h / 2) :
    tbHalf ((s.newSeg b g).tb b).segs h = (g.val + ((h : Int) - 2 * g.from_) * incOf g.freq * 65536 / 8) % tbModulus := by
  rw [State.tb_newSeg_self]
  simp only [tbHalf, segAt_cons_of_le hh]

theorem State.setFreq_eq : s.setFreq b f = (s.wrI (E.Base.FREQ_ADJ b) f).newSeg b
    { from_ := s.now + 4, val := tbHalf (s.tb b).segs (2 * (s.now + 4)), freq := f } := rfl

theorem Frame.setFreq (hf : Frame ps es rs s x) (hp : Part.time ∈ ps) (he : E.Base.FREQ_ADJ b ∈ es) : Frame ps es rs s (x.setFreq b f) :=
  (hf.wrI he).newSeg hp

theorem OnBase.setFreq (ho : OnBase b s x) (hb : b < 3) : OnBase b s (x.setFreq b f) :=
  OnBase.newSeg (ho.of_time (y := x.wrI (E.Base.FREQ_ADJ b) f) rfl) hb

theorem State.tbHalf_setFreq_before (hh : h / 2 < s.now + 4) (hn : s.now ≤ h / 2 + 16000000000) :
    tbHalf ((s.setFreq b f).tb b).segs h = tbHalf (s.tb b).segs h := by
  rw [State.setFreq_eq, State.tbHalf_newSeg_before hh (by simpa using hn), State.tb_wrI]

/-- A base that is set to `v` has a stretch of that value from this instant on, and behind it the change of rate of this TIME cycle. -/
theorem State.setVal_cases (s : State) (b : Nat) (v : Int) : ∃ g : TbSeg, g.from_ = s.now ∧ g.val = v % tbModulus
    ∧ (s.setVal b v = s.newSeg b g ∨ ∃ a : TbSeg, s.now < a.from_ ∧ s.setVal b v = (s.newSeg b g).newSeg b a) := by
  refine ⟨{ from_ := s.now, val := v % tbModulus, freq := (segAt (s.tb b).segs s.now).freq }, rfl, rfl, ?_⟩
  unfold State.setVal
  dsimp only
  split
  · next a _ =>
    split
    · next ha =>
      refine .inr ⟨_, ?_, rfl⟩
      exact ha
    · exact .inl rfl
  · exact .inl rfl

theorem Frame.setVal (hf : Frame ps es rs s x) (hp : Part.time ∈ ps) : Frame ps es rs s (x.setVal b v) := by
  obtain ⟨g, -, -, hset | ⟨a, -, hset⟩⟩ := x.setVal_cases b v <;> rw [hset]
  · exact hf.newSeg hp
  · exact (hf.newSeg hp).newSeg hp

theorem OnBase.setVal (ho : OnBase b s x) (hb : b < 3) : OnBase b s (x.setVal b v) := by
  obtain ⟨g, -, -, hset | ⟨a, -, hset⟩⟩ := x.setVal_cases b v <;> rw [hset]
  · exact ho.newSeg hb
  · exact (ho.newSeg hb).newSeg hb

@[simp] theorem State.rd_setVal (e : Ent) : (s.setVal b v).rd e = s.rd e := by
  obtain ⟨g, -, -, hset | ⟨a, -, hset⟩⟩ := s.setVal_cases b v <;> rw [hset] <;> simp

/-- A base that is set shows the new value in this TIME cycle (R270). -/
theorem State.tbHalf_setVal_now : tbHalf ((s.setVal b v).tb b).segs (2 * s.now) = v % tbModulus := by
  obtain ⟨g, hg, hv, hset | ⟨a, ha, hset⟩⟩ := s.setVal_cases b v
  · rw [hset, State.tbHalf_newSeg_from (by omega), hg, hv]
    simp
  · rw [hset, State.tbHalf_newSeg_before (by omega) (by rw [State.newSeg_now]; omega), State.tbHalf_newSeg_from (by omega), hg, hv]
    simp

theorem State.tbHalf_setVal_before (hh : h / 2 < s.now) (hn : s.now ≤ h / 2 + 16000000000) :
    tbHalf ((s.setVal b v).tb b).segs h = tbHalf (s.tb b).segs h := by
  obtain ⟨g, hg, -, hset | ⟨a, ha, hset⟩⟩ := s.setVal_cases b v
  · rw [hset, State.tbHalf_newSeg_before (by omega) hn]
  · rw [hset, State.tbHalf_newSeg_before (by omega) (by simpa using hn), State.tbHalf_newSeg_before (by omega) hn]

end

/-! ## The servo's state (Table TIM-2) -/

/-- What a base holds of its master and of a SET, which no servo state touches. -/
def BaseSt.followed (x : BaseSt) : Option Announce × Nat × Bool := (x.master, x.announceAt, x.setLocked)

/-- The entries that follow the servo of base `b`, but for its rate. -/
def servoEnts (b : Nat) : List Ent := [E.Base.SERVO_STATE b, E.Base.SYNC_STATE b, E.Base.SYNC_STATE 1, E.Base.LOCK_LOSSES b]

section
variable {s x : State} {b h st : Nat} {ps : List Part} {es : List Ent} {rs : List Nat}

theorem Frame.deriveSync (hf : Frame ps es rs s x) (hp : Part.time ∈ ps) (hl : Part.ledger ∈ ps) (hb : E.Base.SYNC_STATE b ∈ es)
    (h1 : E.Base.SYNC_STATE 1 ∈ es) : Frame ps es rs s (x.deriveSync b) := by
  unfold State.deriveSync
  extract_lets base new y old z
  have hy : Frame ps es rs s y := .ite (fun _ => hf) (fun _ => (hf.wr hb).staleClock hl)
  have hz : Frame ps es rs s z := .ite (fun _ => hy.setTb hp) (fun _ => hy)
  exact .ite (fun _ => hz.wr h1) (fun _ => hz)

theorem OnBase.deriveSync (ho : OnBase b s x) (hb : b < 3) : OnBase b s (x.deriveSync b) := by
  unfold State.deriveSync
  extract_lets base new y old z
  have hy : OnBase b s y := .ite (fun _ => ho) (fun _ => ho.of_time (by simp))
  have hz : OnBase b s z := .ite (fun _ => hy.setTb hb) (fun _ => hy)
  exact .ite (fun _ => hz.of_time rfl) (fun _ => hz)

/-- SYNC_STATE that follows makes a base one that has been LOCKED, and nothing else of it. -/
theorem State.tb_deriveSync_self : ∃ e : Bool, (s.deriveSync b).tb b = { s.tb b with everLocked := e } := by
  unfold State.deriveSync
  extract_lets base new y old z
  have hy : y.tb b = s.tb b := by
    rw [apply_ite (fun u : State => u.tb b)]
    simp
  refine ⟨if new = 0 then true else (s.tb b).everLocked, ?_⟩
  have hz : z.tb b = { s.tb b with everLocked := if new = 0 then true else (s.tb b).everLocked } := by
    rw [apply_ite (fun u : State => u.tb b), hy]
    split <;> simp [old, hy]
  split <;> exact hz

theorem State.rd_deriveSync {e : Ent} (he : e.key % 256 ≠ 2) : (s.deriveSync b).rd e = s.rd e :=
  ((Frame.refl [.time, .ledger] [E.Base.SYNC_STATE b, E.Base.SYNC_STATE 1] [] s).deriveSync (by simp) (by simp) (by simp) (by simp)).rd (by simp)
    (by simp [E.Base.SYNC_STATE, entN]; omega) (by simp)

/-- SYNC_STATE of a base that does not equal TB0 follows its servo. -/
theorem State.rd_deriveSync_self (hr : s.role b ≠ 4) : (s.deriveSync b).rd (E.Base.SYNC_STATE b)
    = syncState (s.role b) (s.rd (E.Base.SERVO_STATE b)) (s.tb b).everLocked (s.tb b).setLocked 0 := by
  unfold State.deriveSync
  extract_lets base new y old z
  have hnew : new = syncState (s.role b) (s.rd (E.Base.SERVO_STATE b)) (s.tb b).everLocked (s.tb b).setLocked 0 := by
    simp [new, base, syncState, hr]
  have hlt : new < 256 := by
    rw [hnew]
    simp only [syncState, hr, if_false]
    repeat' split
    all_goals decide
  have hy : y.rd (E.Base.SYNC_STATE b) = new := by
    rw [apply_ite (fun u : State => u.rd _)]
    split
    · assumption
    · rw [State.staleClock_rd, State.rd_wr_self]
      exact Nat.mod_eq_of_lt hlt
  have hz : z.rd (E.Base.SYNC_STATE b) = new := by
    rw [apply_ite (fun u : State => u.rd _)]
    simp [hy]
  rw [← hnew]
  split
  · next h0 =>
    simp only [Bool.and_eq_true, decide_eq_true_eq] at h0
    rw [State.rd_wr_ne _ _ _ _ (by simp [E.Base.SYNC_STATE, entN]; omega), hz]
  · exact hz

/-- The servo of base `b` as it has entered state `st`, before the state acts. -/
def State.servoEntered (s : State) (b st : Nat) : State :=
  let x := s.tb b
  let y := (if s.rd (E.Base.SERVO_STATE b) = 2 then s.inc (E.Base.LOCK_LOSSES b) else s).wr (E.Base.SERVO_STATE b) st
  y.setTb b { x with inside := 0, outside := 0, everLocked := x.everLocked || st == 2, holdSince := if st = 3 then y.now else x.holdSince
                     lockedAdj := if st = 2 then [] else x.lockedAdj }

/-- A servo that changes its state enters it, holds its rate in HOLDOVER and takes none in MASTER, and reports it. -/
theorem State.setServo_of_ne (hne : s.rd (E.Base.SERVO_STATE b) ≠ st) : ∃ y, s.setServo b st = (y.deriveSync b).tsEvt 0x02 b st 0
    ∧ (y = s.servoEntered b st ∨ (st = 3 ∨ st = 4) ∧ ∃ f, y = (s.servoEntered b st).setFreq b f) := by
  have htb : ((if s.rd (E.Base.SERVO_STATE b) = 2 then s.inc (E.Base.LOCK_LOSSES b) else s).wr (E.Base.SERVO_STATE b) st).tb b = s.tb b := by
    rw [State.tb_wr, apply_ite (fun u : State => u.tb b)]
    simp
  unfold State.setServo
  simp only [hne, if_false, htb]
  refine ⟨_, rfl, ?_⟩
  split
  · split
    · exact .inl rfl
    · exact .inr ⟨.inl rfl, _, rfl⟩
  · exact .inr ⟨.inr rfl, _, rfl⟩
  · exact .inl rfl

theorem State.setServo_of_eq (heq : s.rd (E.Base.SERVO_STATE b) = st) : s.setServo b st = s.deriveSync b := by
  simp [State.setServo, heq]

theorem State.servoEntered_frame : Frame [.time] (servoEnts b) [] s (s.servoEntered b st) := by
  unfold State.servoEntered
  refine Frame.setTb (Frame.wr (.ite (fun _ => ?_) (fun _ => Frame.refl ..)) ?_) (by simp)
  · exact (Frame.refl ..).inc (by simp [servoEnts])
  · simp [servoEnts]

theorem State.tb_servoEntered : ∃ e h l, (s.servoEntered b st).tb b
    = { s.tb b with inside := 0, outside := 0, everLocked := e, holdSince := h, lockedAdj := l } := ⟨_, _, _, State.tb_setTb_self ..⟩

@[simp] theorem State.servoEntered_now : (s.servoEntered b st).now = s.now := by
  unfold State.servoEntered
  simp [apply_ite State.now]

theorem OnBase.servoEntered (ho : OnBase b s x) (hb : b < 3) : OnBase b s (x.servoEntered b st) := by
  unfold State.servoEntered
  exact OnBase.setTb (ho.of_time (by simp [apply_ite State.time])) hb

theorem State.rd_servoEntered (hst : st < 256) : (s.servoEntered b st).rd (E.Base.SERVO_STATE b) = st := by
  unfold State.servoEntered
  rw [State.rd_setTb, State.rd_wr_self]
  exact Nat.mod_eq_of_lt hst

theorem Frame.setServo (hf : Frame ps es rs s x) (hp : Part.time ∈ ps) (hl : Part.ledger ∈ ps) (he : ∀ e ∈ servoEnts b, e ∈ es)
    (hrate : st = 3 ∨ st = 4 → E.Base.FREQ_ADJ b ∈ es) (hr : 45 ∈ rs) : Frame ps es rs s (x.setServo b st) := by
  have hsync := he (E.Base.SYNC_STATE b) (by simp [servoEnts])
  have hsync1 := he (E.Base.SYNC_STATE 1) (by simp [servoEnts])
  by_cases heq : x.rd (E.Base.SERVO_STATE b) = st
  · rw [State.setServo_of_eq heq]
    exact hf.deriveSync hp hl hsync hsync1
  · obtain ⟨y, hy, hcases⟩ := State.setServo_of_ne heq
    have hentered : Frame ps es rs s (x.servoEntered b st) :=
      hf.trans (State.servoEntered_frame.mono (by simpa using hp) he (by simp))
    rw [hy]
    refine Frame.tsEvt (Frame.deriveSync ?_ hp hl hsync hsync1) hr
    obtain rfl | ⟨hst, f, rfl⟩ := hcases
    · exact hentered
    · exact hentered.setFreq hp (hrate hst)

theorem OnBase.setServo (ho : OnBase b s x) (hb : b < 3) : OnBase b s (x.setServo b st) := by
  by_cases heq : x.rd (E.Base.SERVO_STATE b) = st
  · rw [State.setServo_of_eq heq]
    exact ho.deriveSync hb
  · obtain ⟨y, hy, hcases⟩ := State.setServo_of_ne heq
    rw [hy]
    refine OnBase.of_time (OnBase.deriveSync ?_ hb) State.tsEvt_time
    obtain rfl | ⟨-, f, rfl⟩ := hcases
    · exact ho.servoEntered hb
    · exact (ho.servoEntered hb).setFreq hb

theorem State.followed_deriveSync : ((s.deriveSync b).tb b).followed = (s.tb b).followed := by
  obtain ⟨e, he⟩ := State.tb_deriveSync_self (s := s) (b := b)
  rw [he]
  rfl

/-- The servo's state leaves the base its master. -/
theorem State.followed_setServo : ((s.setServo b st).tb b).followed = (s.tb b).followed := by
  by_cases heq : s.rd (E.Base.SERVO_STATE b) = st
  · rw [State.setServo_of_eq heq, State.followed_deriveSync]
  · obtain ⟨y, hy, hcases⟩ := State.setServo_of_ne heq
    obtain ⟨e, h, l, hentered⟩ := State.tb_servoEntered (s := s) (b := b) (st := st)
    rw [hy, State.tb_tsEvt, State.followed_deriveSync]
    obtain rfl | ⟨-, f, rfl⟩ := hcases
    · rw [hentered]
      rfl
    · rw [State.setFreq_eq, State.tb_newSeg_self, State.tb_wrI, hentered]
      rfl

theorem State.rd_setServo_self (hb : b < 3) (hst : st < 256) : (s.setServo b st).rd (E.Base.SERVO_STATE b) = st := by
  have hderive (y : State) : (y.deriveSync b).rd (E.Base.SERVO_STATE b) = y.rd (E.Base.SERVO_STATE b) :=
    State.rd_deriveSync (by simp [E.Base.SERVO_STATE, entN])
  by_cases heq : s.rd (E.Base.SERVO_STATE b) = st
  · rw [State.setServo_of_eq heq, hderive, heq]
  · obtain ⟨y, hy, hcases⟩ := State.setServo_of_ne heq
    rw [hy, State.rd_tsEvt (by simp [E.Base.SERVO_STATE, entN]; omega), hderive]
    obtain rfl | ⟨-, f, rfl⟩ := hcases
    · exact State.rd_servoEntered hst
    · rw [State.setFreq_eq, State.rd_newSeg, State.wrI, State.rd_put_ne _ _ _ _ (by simp [E.Base.SERVO_STATE, E.Base.FREQ_ADJ, entN]),
        State.rd_servoEntered hst]

theorem State.segs_deriveSync : ((s.deriveSync b).tb b).segs = (s.tb b).segs := by
  obtain ⟨e, he⟩ := State.tb_deriveSync_self (s := s) (b := b)
  rw [he]

/-- The servo's state acts on the rate from the next TIME cycle on. -/
theorem State.tbHalf_setServo_before (hh : h / 2 < s.now + 4) (hn : s.now ≤ h / 2 + 16000000000) :
    tbHalf ((s.setServo b st).tb b).segs h = tbHalf (s.tb b).segs h := by
  by_cases heq : s.rd (E.Base.SERVO_STATE b) = st
  · rw [State.setServo_of_eq heq, State.segs_deriveSync]
  · obtain ⟨y, hy, hcases⟩ := State.setServo_of_ne heq
    obtain ⟨e, k, l, hentered⟩ := State.tb_servoEntered (s := s) (b := b) (st := st)
    rw [hy, State.tb_tsEvt, State.segs_deriveSync]
    obtain rfl | ⟨-, f, rfl⟩ := hcases
    · rw [hentered]
    · rw [State.tbHalf_setFreq_before (by simpa using hh) (by simpa using hn), hentered]

end

end Sys2Proof.Machine
end

section
/-!
SUPPORT. Writes of the entries of a base and of its PTP clock (Tables TIM-10, TIM-11): the owner's check (R270, R281), and the state that an
accepted write leaves.
-/
namespace Sys2Proof.Machine

/-- A signed number in the range of its width is read back from its two's complement (R18). -/
theorem intOf_natOf {w : Nat} {i : Int} (hw : 0 < w) (hlo : -2 ^ (w - 1) ≤ i) (hhi : i < 2 ^ (w - 1)) : intOf w (natOf w i) = i := by
  obtain ⟨k, rfl⟩ := Nat.exists_eq_add_of_lt hw
  simp only [Nat.zero_add, Nat.add_sub_cancel] at hlo hhi
  have hpow : (2 : Int) ^ (k + 1) = 2 * 2 ^ k := by rw [pow_succ, mul_comm]
  have hcast : ((2 ^ (k + 1) : Nat) : Int) = 2 * 2 ^ k := by push_cast; exact hpow
  have hk : ((2 ^ k : Nat) : Int) = 2 ^ k := by push_cast; rfl
  simp only [intOf, natOf, Nat.zero_add, Nat.add_sub_cancel, hcast]
  generalize hM : (2 : Int) ^ k = M at *
  have hmod : i % (2 * M) = if 0 ≤ i then i else i + 2 * M := by
    split
    · exact Int.emod_eq_of_lt (by omega) (by omega)
    · rw [← Int.add_emod_right, Int.emod_eq_of_lt (by omega) (by omega)]
  have hnat : (i % (2 * M)).toNat % 2 ^ (k + 1) = (i % (2 * M)).toNat := by
    refine Nat.mod_eq_of_lt ?_
    zify
    rw [hpow, hmod]
    split <;> omega
  rw [hnat, hmod]
  split <;> split <;> omega

section
variable {s x : State} {at_ b n : Nat} {w : Writer} {v : Value} {ty : Ty} {f : Int}

@[simp] theorem State.time_answered (x : State) : x.answered.time = x.time := (State.answered_frame x).2.1 .time (by simp)
@[simp] theorem State.tb_answered (x : State) (k : Nat) : x.answered.tb k = x.tb k := State.tb_congr (State.time_answered x)

theorem State.rdI_answered (x : State) {e : Ent} (hk : e.key / 256 < 0x6800 ∨ e.key % 256 ≠ 0x0F) : x.answered.rdI e = x.rdI e := by
  rw [State.rdI, State.rd_answered x hk, State.rdI]

theorem State.rdI_wrI_self (s : State) (e : Ent) (i : Int) : (s.wrI e i).rdI e = intOf (Ty.bits e.ty) (natOf (Ty.bits e.ty) i) := by
  rw [State.rdI, State.rd_wrI_self]

/-- The time unit owns the entries at 0x1800 to 0x18FF. -/
theorem State.effOwner_time {i sub : Nat} (hi : 0x1800 ≤ i ∧ i < 0x1900) (hsub : sub < 256) :
    s.effOwner w (i * 256 + sub) v = s.effTime i sub (valNat v) := by
  have hidx : (i * 256 + sub) / 256 = i := by omega
  have hrest : (i * 256 + sub) % 256 = sub := by omega
  simp [State.effOwner, hidx, hrest, hi.2, Nat.not_lt.2 hi.1]

/-! ## FREQ_ADJ, STEP and SET (R270) -/

theorem tableRow_baseWrites : ∀ b < 3, ∀ sub ∈ [4, 5, 6], (tableRow ((0x1810 + b) * 256 + sub)).isSome = true := by decide +kernel

/-- A write of FREQ_ADJ, STEP or SET that was accepted found its base in role DISABLED. -/
theorem State.role_of_accepts {sub : Nat} (hb : b < 3) (hsub : sub ∈ [4, 5, 6])
    (h : s.accepts at_ w ((0x1810 + b) * 256 + sub) ty v) : s.role b = 0 := by
  obtain ⟨r, hr⟩ := Option.isSome_iff_exists.1 (tableRow_baseWrites b hb sub hsub)
  have hlt : 0 < sub ∧ sub < 256 := by simp at hsub; omega
  have he := State.entryAt_of_tableRow (State.bare_of_servicesUp h.1) (by omega) (by omega) (by omega) hr
  have hown := State.chkOwner_of_accepts h he
  have hdis : (s.advance at_).chkOwner w ((0x1810 + b) * 256 + sub) v = s.chkDisabled b := by
    simp only [List.mem_cons, List.not_mem_nil, or_false] at hsub
    rcases (by omega : b = 0 ∨ b = 1 ∨ b = 2) with rfl | rfl | rfl <;> rcases hsub with rfl | rfl | rfl <;> rfl
  rw [hdis] at hown
  simpa [State.chkDisabled, need, stRange] using hown

theorem tableRow_freqAdj (hb : b < 3) : ∃ row : Row, tableRow (E.Base.FREQ_ADJ b).key = some (row, E.Base.FREQ_ADJ b) ∧ row.acc = .rw
    ∧ row.ret = .volatile := by
  rcases (by omega : b = 0 ∨ b = 1 ∨ b = 2) with rfl | rfl | rfl <;> exact ⟨_, rfl, rfl, rfl⟩

theorem State.exec_freqAdjWrite (hb : b < 3) (hlo : -500000000 ≤ f) (hhi : f ≤ 500000000)
    (h : s.accepts at_ w (E.Base.FREQ_ADJ b).key .i32 (.num (natOf 32 f))) : exec (.freqAdjWrite at_ w b f) s
      = .next (((s.advance at_).put (E.Base.FREQ_ADJ b) (.num (natOf 32 f))).setFreq b f).answered := by
  obtain ⟨row, hrow, hacc, hret⟩ := tableRow_freqAdj hb
  have hkey : (E.Base.FREQ_ADJ b).key = (0x1810 + b) * 256 + 4 := rfl
  have he := State.entryAt_of_tableRow (State.bare_of_servicesUp h.1) (by omega) (by omega) (by omega) hrow
  have heff (y : State) (n : Nat) : y.effOwner w (E.Base.FREQ_ADJ b).key (.num n) = y.setFreq b (intOf 32 n) := by
    have hbase : 0x1810 + b < 0x1813 := by omega
    rw [hkey, State.effOwner_time (by omega) (by omega)]
    simp [State.effTime, valNat, hbase]
  have hself : selfStored (E.Base.FREQ_ADJ b).key = false := by
    rcases (by omega : b = 0 ∨ b = 1 ∨ b = 2) with rfl | rfl | rfl <;> rfl
  have hstep : exec (.freqAdjWrite at_ w b f) s = .next ((s.advance at_).writeStep w (E.Base.FREQ_ADJ b).key .i32 (.num (natOf 32 f))) := by
    have hinst : inst 0x1810 b 3 0x04 = (E.Base.FREQ_ADJ b).key := if_pos hb
    rw [← hinst]
    rfl
  rw [hstep, State.writeStep_of_accepts h fun _ => abortOf_eq_none (by omega) (by omega), State.commitWrite,
    State.reached_of_plain (by omega) (by simp; omega), State.storeValue_volatile he (by omega) hself (by simp [hret]) hacc, heff,
    intOf_natOf (by omega) (by norm_num; omega) (by norm_num; omega)]
  simp [State.mirrored, retainedKey, hrow, hret, State.answered]

theorem tableRow_baseCommands : ∀ b < 3, ∀ sub ∈ [5, 6],
    (tableRow ((0x1810 + b) * 256 + sub)).any (fun r => r.1.acc == .wo && r.1.ret == .volatile) = true := by decide +kernel

theorem State.exec_baseStep {ns : Int} (hb : b < 3) (hlo : -1000000000000000 ≤ ns) (hhi : ns ≤ 1000000000000000)
    (h : s.accepts at_ w (E.Base.STEP b).key .u64 (.num (natOf 64 ns))) :
    exec (.baseStep at_ w b ns) s = .next ((s.advance at_).stepBase b (ns * 65536)).answered := by
  have hkey : (E.Base.STEP b).key = (0x1810 + b) * 256 + 5 := rfl
  have hinst : inst 0x1810 b 3 0x05 = (E.Base.STEP b).key := if_pos hb
  have heff (y : State) (n : Nat) : y.effOwner w (E.Base.STEP b).key (.num n) = y.stepBase b (intOf 64 n * 65536) := by
    have hbase : 0x1810 + b < 0x1813 := by omega
    rw [hkey, State.effOwner_time (by omega) (by omega)]
    simp [State.effTime, State.effStep, valNat, hbase]
  have hstep := State.writeStep_command h (tableRow_baseCommands b hb 5 (by simp)) (by omega) (by omega) (by simp; omega)
  rw [heff, intOf_natOf (by omega) (by norm_num; omega) (by norm_num; omega)] at hstep
  exact congrArg Host.Outcome.next ((congrArg (fun key => (s.advance at_).writeStep w key .u64 _) hinst).trans hstep)

theorem State.exec_baseSet (hb : b < 3) (h : s.accepts at_ w (E.Base.SET b).key .time96 (.num n)) :
    exec (.baseSet at_ w b n) s = .next ((s.advance at_).effSet b n).answered := by
  have hkey : (E.Base.SET b).key = (0x1810 + b) * 256 + 6 := rfl
  have hinst : inst 0x1810 b 3 0x06 = (E.Base.SET b).key := if_pos hb
  have heff (y : State) (n : Nat) : y.effOwner w (E.Base.SET b).key (.num n) = y.effSet b n := by
    have hbase : 0x1810 + b < 0x1813 := by omega
    rw [hkey, State.effOwner_time (by omega) (by omega)]
    simp [State.effTime, valNat, hbase]
  have hstep := State.writeStep_command h (tableRow_baseCommands b hb 6 (by simp)) (by omega) (by omega) (by simp; omega)
  rw [heff] at hstep
  exact congrArg Host.Outcome.next ((congrArg (fun key => (s.advance at_).writeStep w key .time96 _) hinst).trans hstep)

/-- A TIME96 that was accepted has nanoseconds below one second (R48). -/
theorem State.timeOk_of_accepts (hb : b < 3) (h : s.accepts at_ w (E.Base.SET b).key .time96 (.num n)) : n / 65536 % 2 ^ 32 < 1000000000 := by
  have hrow : ∃ row : Row, tableRow (E.Base.SET b).key = some (row, E.Base.SET b) ∧ row.ty = .time96 := by
    rcases (by omega : b = 0 ∨ b = 1 ∨ b = 2) with rfl | rfl | rfl <;> exact ⟨_, rfl, rfl⟩
  obtain ⟨row, hrow, hty⟩ := hrow
  have hkey : (E.Base.SET b).key = (0x1810 + b) * 256 + 6 := rfl
  have he := State.entryAt_of_tableRow (State.bare_of_servicesUp h.1) (by omega) (by omega) (by omega) hrow
  obtain ⟨-, -, hc⟩ := h
  obtain ⟨-, hs⟩ := State.chkWrite_eq_zero.1 hc
  simp only [State.chkStore, he] at hs
  have hvalid := firstBad_eq_zero.1 hs _ (.head _)
  by_contra hn
  have htime : timeOk n = false := decide_eq_false hn
  simp [need, stRange, hty, valid, valNat, htime] at hvalid

/-! ## PTP_ROLE (R281) -/

theorem tableRow_ptpRole : ∀ b < 3, (tableRow (E.Ptp.PTP_ROLE b).key).isSome = true := by decide +kernel

theorem State.exec_ptpRoleWrite (hb : b < 3) (h : s.accepts at_ w (E.Ptp.PTP_ROLE b).key .u8 (.num n)) :
    exec (.ptpRoleWrite at_ w b n) s = .next (((s.advance at_).effRole b n).mirrored (E.Ptp.PTP_ROLE b).key).answered := by
  obtain ⟨row, hrow⟩ := Option.isSome_iff_exists.1 (tableRow_ptpRole b hb)
  have hkey : (E.Ptp.PTP_ROLE b).key = (0x1820 + b) * 256 + 1 := rfl
  have hinst : inst 0x1820 b 3 0x01 = (E.Ptp.PTP_ROLE b).key := if_pos hb
  have he := State.entryAt_of_tableRow (State.bare_of_servicesUp h.1) (by omega) (by omega) (by omega) hrow
  have heff (y : State) : y.effOwner w (E.Ptp.PTP_ROLE b).key (.num n) = y.effRole b n := by
    have hbase : ¬ 0x1820 + b < 0x1813 := by omega
    have hptp : 0x1820 + b < 0x1823 := by omega
    rw [hkey, State.effOwner_time (by omega) (by omega)]
    simp [State.effTime, valNat, hbase, hptp]
  have hstored (y : State) (hy : y.entryAt (E.Ptp.PTP_ROLE b).key = .ok row) :
      y.storeValue (E.Ptp.PTP_ROLE b).key (.num n) = y := by
    have hself : selfStored (E.Ptp.PTP_ROLE b).key = true := by
      rcases (by omega : b = 0 ∨ b = 1 ∨ b = 2) with rfl | rfl | rfl <;> rfl
    have hexp : ¬ 0x8000 ≤ (E.Ptp.PTP_ROLE b).key / 256 := by omega
    simp [State.storeValue, hy, hself, hexp]
  have hstep := State.writeStep_of_accepts h fun _ => abortOf_eq_none (by omega) (by omega)
  rw [State.commitWrite, State.reached_of_plain (by omega) (by simp; omega), hstored _ he, heff] at hstep
  exact congrArg Host.Outcome.next ((congrArg (fun key => (s.advance at_).writeStep w key .u8 _) hinst).trans hstep)

/-- An accepted write of PTP_ROLE: 3 and 4 for TB1 only, and in no STANDBY (R281, R480). -/
theorem State.ptpRole_of_accepts (hb : b < 3) (h : s.accepts at_ w (E.Ptp.PTP_ROLE b).key .u8 (.num n)) :
    (2 < n → b = 1) ∧ s.rd E.Twin.TWIN_ROLE ≠ 1 := by
  obtain ⟨row, hrow⟩ := Option.isSome_iff_exists.1 (tableRow_ptpRole b hb)
  have hkey : (E.Ptp.PTP_ROLE b).key = (0x1820 + b) * 256 + 1 := rfl
  have he := State.entryAt_of_tableRow (State.bare_of_servicesUp h.1) (by omega) (by omega) (by omega) hrow
  have hown := State.chkOwner_of_accepts h he
  have hrole : (s.advance at_).chkOwner w (E.Ptp.PTP_ROLE b).key (.num n) = chkRole b n := by
    have hidx : (E.Ptp.PTP_ROLE b).key / 256 = 0x1820 + b := by omega
    have hsub : (E.Ptp.PTP_ROLE b).key % 256 = 1 := by omega
    have hbase : ¬ 0x1820 + b < 0x1813 := by omega
    have hptp : 0x1820 + b < 0x1823 := by omega
    have htime : ¬ 0x1820 + b < 0x1800 ∧ 0x1820 + b < 0x1900 := by omega
    simp [State.chkOwner, hidx, hsub, htime, State.chkTime, valNat, hbase, hptp]
  constructor
  · rw [hrole] at hown
    intro hn
    by_contra hne
    simp [chkRole, need, stRange, hne, Nat.not_lt.2 hn] at hown
  · obtain ⟨-, -, hc⟩ := h
    obtain ⟨hf, -⟩ := State.chkWrite_eq_zero.1 hc
    simp only [State.chkForm, he] at hf
    have hstandby := firstBad_eq_zero.1 hf _ (.tail _ (.head _))
    have hmaint : maintenanceKey (E.Ptp.PTP_ROLE b).key = false := by
      rcases (by omega : b = 0 ∨ b = 1 ∨ b = 2) with rfl | rfl | rfl <;> rfl
    intro htwin
    have hst : (s.advance at_).standby = true := by simp [State.standby, htwin]
    simp [need, hmaint, hst] at hstandby

end

end Sys2Proof.Machine
end

section
/-!
O28. The bases as their writes leave them (R267, R270, R273, R274, R281), the snapshot of one TIME cycle (R274) and the offset of the partner's
TB3 (R292).
-/
namespace Sys2Proof.Machine

section
variable {s x : State} {at_ b h n v : Nat} {w : Writer} {f ns d : Int} {ps : List Part} {es : List Ent} {rs : List Nat}

/-! ## FREQ_ADJ (R267) -/

/-- The module as an accepted FREQ_ADJ leaves it, before the commit of the services. -/
def State.rateSet (s : State) (at_ b : Nat) (f : Int) : State :=
  ((s.advance at_).put (E.Base.FREQ_ADJ b) (.num (natOf 32 f))).setFreq b f

theorem State.rateSet_frame : Frame [.time] [E.Base.FREQ_ADJ b] [] s (s.rateSet at_ b f) :=
  ((Frame.refl ..).advance.put (by simp)).setFreq (by simp) (by simp)

theorem OnBase.rateSet (hb : b < 3) : OnBase b s (s.rateSet at_ b f) :=
  OnBase.setFreq ((OnBase.refl b s).of_time (y := (s.advance at_).put (E.Base.FREQ_ADJ b) (.num (natOf 32 f))) rfl) hb

theorem State.tb_rateSet : ∃ old, (s.rateSet at_ b f).tb b = { s.tb b with
    segs := { from_ := s.instant at_ + 4, val := tbHalf (s.tb b).segs (2 * (s.instant at_ + 4)), freq := f } :: old } :=
  ⟨_, State.tb_newSeg_self ..⟩

theorem State.freqAdj_completes (hb : b < 3) (hlo : -500000000 ≤ f) (hhi : f ≤ 500000000)
    (ha : s.accepts at_ w (E.Base.FREQ_ADJ b).key .i32 (.num (natOf 32 f))) :
    Completes (.freqAdjWrite at_ w b f) s (fun t => t.odStatus = 0 ∧ t.rdI (E.Base.FREQ_ADJ b) = f
      ∧ (t.tb b).segs.head? = some { from_ := s.instant at_ + 4, val := tbHalf (s.tb b).segs (2 * (s.instant at_ + 4)), freq := f }
      ∧ (∀ k < 3, k ≠ b → t.tb k = s.tb k) ∧ t.time.peers = s.time.peers ∧ (t.tb b).setLocked = (s.tb b).setLocked
      ∧ t.now = s.instant at_ ∧ Frame [.answer, .time] (E.Base.FREQ_ADJ b :: genEnts) [] s t) := by
  obtain ⟨old, htb⟩ := State.tb_rateSet (s := s) (at_ := at_) (b := b) (f := f)
  have hon := OnBase.rateSet (s := s) (at_ := at_) (f := f) hb
  refine ⟨(s.rateSet at_ b f).answered, State.exec_freqAdjWrite hb hlo hhi ha, rfl, ?_, ?_, fun k hk hne => ?_, ?_, ?_, ?_, ?_⟩
  · have hread (y : State) (g : TbSeg) : ((y.wrI (E.Base.FREQ_ADJ b) f).newSeg b g).rdI (E.Base.FREQ_ADJ b) = f := by
      rw [State.rdI, State.rd_newSeg, State.rd_wrI_self]
      exact intOf_natOf (w := 32) (by decide) (by norm_num; omega) (by norm_num; omega)
    rw [State.rdI_answered _ (by simp [E.Base.FREQ_ADJ, entN])]
    exact hread _ _
  · rw [State.tb_answered, htb]
    rfl
  · rw [State.tb_answered, hon.others k hk hne]
  · rw [State.time_answered, hon.peers]
  · rw [State.tb_answered, htb]
  · simp [State.rateSet, State.instant]
  · exact (State.rateSet_frame.mono (by simp) (fun _ he => he) (by simp)).answered (by simp)

theorem State.freqAdj_history (hb : b < 3) (hlo : -500000000 ≤ f) (hhi : f ≤ 500000000)
    (ha : s.accepts at_ w (E.Base.FREQ_ADJ b).key .i32 (.num (natOf 32 f))) (hn : s.instant at_ ≤ h / 2 + 16000000000) :
    Completes (.freqAdjWrite at_ w b f) s (fun t => (h / 2 < s.instant at_ + 4 → tbHalf (t.tb b).segs h = tbHalf (s.tb b).segs h)
      ∧ (s.instant at_ + 4 ≤ h / 2 → tbHalf (t.tb b).segs h
          = (tbHalf (s.tb b).segs (2 * (s.instant at_ + 4)) + (((h : Int) - 2 * (s.instant at_ + 4)) * incOf f * 65536) / 8) % tbModulus)) := by
  refine ⟨(s.rateSet at_ b f).answered, State.exec_freqAdjWrite hb hlo hhi ha, fun hh => ?_, fun hh => ?_⟩
  · rw [State.tb_answered, State.rateSet, State.tbHalf_setFreq_before hh hn]
    rfl
  · rw [State.tb_answered, State.rateSet, State.setFreq_eq, State.tbHalf_newSeg_from hh]
    push_cast
    rfl

/-! ## STEP and SET (R270, R273) -/

theorem divRne_mul (n : Int) {d : Nat} (hd : 0 < d) : divRne (n * d) d = n := by
  have hd' : (d : Int) ≠ 0 := by omega
  simp [divRne, Int.mul_ediv_cancel _ hd', hd]

theorem State.tb_stepBase : (s.stepBase b d).tb b = (s.setVal b (tbHalf (s.tb b).segs (2 * s.now) + d * 281474976710656)).tb b := by
  simp [State.stepBase]

theorem OnBase.stepBase (ho : OnBase b s x) (hb : b < 3) : OnBase b s (x.stepBase b d) :=
  OnBase.of_time (x := x.setVal b (tbHalf (x.tb b).segs (2 * x.now) + d * 281474976710656)) (ho.setVal hb) (by simp [State.stepBase])

theorem Frame.stepBase (hf : Frame ps es rs s x) (hp : Part.time ∈ ps) (hl : Part.ledger ∈ ps)
    (he : ∀ e ∈ [E.Base.STEPS b, E.Base.LAST_STEP b], e ∈ es) (hr : 45 ∈ rs) : Frame ps es rs s (x.stepBase b d) :=
  ((((hf.setVal hp).inc (he _ (by simp))).wrI (he _ (by simp))).staleClock hl).tsEvt hr

theorem State.rd_stepBase (hb : b < 3) : (s.stepBase b d).rd (E.Base.STEPS b) = min (2 ^ 32 - 1) (s.rd (E.Base.STEPS b) + 1)
    ∧ (s.stepBase b d).rd (E.Base.LAST_STEP b) = natOf 64 (divRne d 65536) := by
  unfold State.stepBase
  constructor
  · rw [State.rd_tsEvt (by simp only [E.Base.STEPS, entN]; omega), State.staleClock_rd,
      State.rd_wrI_ne _ _ _ _ (by simp [E.Base.STEPS, E.Base.LAST_STEP, entN]), State.rd_inc_self, State.rd_setVal]
    rfl
  · rw [State.rd_tsEvt (by simp only [E.Base.LAST_STEP, entN]; omega), State.staleClock_rd, State.rd_wrI_self]
    rfl

theorem State.baseStep_completes (hb : b < 3) (hlo : -1000000000000000 ≤ ns) (hhi : ns ≤ 1000000000000000)
    (ha : s.accepts at_ w (E.Base.STEP b).key .u64 (.num (natOf 64 ns))) (hh : h / 2 < s.instant at_)
    (hn : s.instant at_ ≤ h / 2 + 16000000000) :
    Completes (.baseStep at_ w b ns) s (fun t => t.odStatus = 0
      ∧ tbHalf (t.tb b).segs (2 * s.instant at_) = (tbHalf (s.tb b).segs (2 * s.instant at_) + ns * 18446744073709551616) % tbModulus
      ∧ tbHalf (t.tb b).segs h = tbHalf (s.tb b).segs h
      ∧ t.rd (E.Base.STEPS b) = min (2 ^ 32 - 1) (s.rd (E.Base.STEPS b) + 1) ∧ t.rdI (E.Base.LAST_STEP b) = ns
      ∧ (∀ k < 3, k ≠ b → t.tb k = s.tb k) ∧ t.now = s.instant at_
      ∧ Frame [.answer, .time, .ledger] ([E.Base.STEPS b, E.Base.LAST_STEP b] ++ genEnts) [45] s t) := by
  have hon := (OnBase.stepBase (d := ns * 65536) ((OnBase.refl b s).of_time (y := s.advance at_) rfl) hb)
  obtain ⟨hsteps, hlast⟩ := State.rd_stepBase (s := s.advance at_) (d := ns * 65536) hb
  refine ⟨((s.advance at_).stepBase b (ns * 65536)).answered, State.exec_baseStep hb hlo hhi ha, rfl, ?_, ?_, ?_, ?_, fun k hk hne => ?_, ?_, ?_⟩
  · rw [State.tb_answered, State.tb_stepBase]
    refine State.tbHalf_setVal_now.trans (congrArg (· % tbModulus) ?_)
    rw [mul_assoc]
    rfl
  · rw [State.tb_answered, State.tb_stepBase]
    exact State.tbHalf_setVal_before hh hn
  · rw [State.rd_answered _ (by simp [E.Base.STEPS, entN]), hsteps]
    rfl
  · rw [State.rdI_answered _ (by simp only [E.Base.LAST_STEP, entN]; omega), State.rdI, hlast, show (65536 : Int) = (65536 : Nat) from rfl,
      divRne_mul _ (by decide)]
    exact intOf_natOf (w := 64) (by decide) (by norm_num; omega) (by norm_num; omega)
  · rw [State.tb_answered, hon.others k hk hne]
  · simp [State.instant]
  · exact ((Frame.refl ..).advance.stepBase (by simp) (by simp) (by simp) (by simp)).answered (by simp)

theorem ofTime96_seconds : ofTime96 (n / 65536 * 65536) = ((n / 2 ^ 48 * 1000000000 + n / 65536 % 2 ^ 32 : Nat) : Int) * 65536 := by
  have hsec : n / 65536 * 65536 / 2 ^ 48 = n / 2 ^ 48 := by norm_num; omega
  have hnano : n / 65536 * 65536 / 2 ^ 16 % 2 ^ 32 = n / 65536 % 2 ^ 32 := by norm_num
  have hfrac : n / 65536 * 65536 % 65536 = 0 := by omega
  rw [ofTime96, hsec, hnano, hfrac]
  push_cast
  ring

theorem State.effSet_eq (s : State) (b n : Nat) : ∃ y : State, s.effSet b n = ((y.inc (E.Base.STEPS b)).staleClock b).deriveSync b
    ∧ y = (s.setVal b (ofTime96 (n / 65536 * 65536) * 281474976710656)).setTb b
      { (s.setVal b (ofTime96 (n / 65536 * 65536) * 281474976710656)).tb b with setLocked := true } := ⟨_, rfl, rfl⟩

theorem Frame.effSet (hf : Frame ps es rs s x) (hp : Part.time ∈ ps) (hl : Part.ledger ∈ ps)
    (he : ∀ e ∈ [E.Base.STEPS b, E.Base.SYNC_STATE b, E.Base.SYNC_STATE 1], e ∈ es) : Frame ps es rs s (x.effSet b n) :=
  ((((hf.setVal hp).setTb hp).inc (he _ (by simp))).staleClock hl).deriveSync hp hl (he _ (by simp)) (he _ (by simp))

theorem OnBase.effSet (ho : OnBase b s x) (hb : b < 3) : OnBase b s (x.effSet b n) :=
  OnBase.deriveSync (OnBase.of_time ((ho.setVal hb).setTb hb) (by rw [State.staleClock_time]; rfl)) hb

theorem State.segs_effSet : ((s.effSet b n).tb b).segs = ((s.setVal b (ofTime96 (n / 65536 * 65536) * 281474976710656)).tb b).segs := by
  obtain ⟨y, hset, hy⟩ := s.effSet_eq b n
  rw [hset, State.segs_deriveSync, State.tb_staleClock, State.tb_inc, hy, State.tb_setTb_self]

theorem State.rd_effSet_steps : (s.effSet b n).rd (E.Base.STEPS b) = min (2 ^ 32 - 1) (s.rd (E.Base.STEPS b) + 1) := by
  obtain ⟨y, hset, hy⟩ := s.effSet_eq b n
  rw [hset, State.rd_deriveSync (by simp [E.Base.STEPS, entN]), State.staleClock_rd, State.rd_inc_self, hy, State.rd_setTb, State.rd_setVal]
  rfl

/-- A SET makes an idle base LOCKED. -/
theorem State.rd_effSet_sync (hrole : s.role b = 0) (hidle : s.rd (E.Base.SERVO_STATE b) = 0) : (s.effSet b n).rd (E.Base.SYNC_STATE b) = 0 := by
  obtain ⟨y, hset, hy⟩ := s.effSet_eq b n
  have hread (e : Ent) (he : e.key ≠ (E.Base.STEPS b).key) : ((y.inc (E.Base.STEPS b)).staleClock b).rd e = s.rd e := by
    rw [State.staleClock_rd, State.rd_inc_ne _ _ _ he, hy, State.rd_setTb, State.rd_setVal]
  have hrole' : ((y.inc (E.Base.STEPS b)).staleClock b).role b = 0 :=
    (hread _ (by simp [E.Ptp.PTP_ROLE, E.Base.STEPS, entN]; omega)).trans hrole
  have hlocked : (((y.inc (E.Base.STEPS b)).staleClock b).tb b).setLocked = true := by
    rw [State.tb_staleClock, State.tb_inc, hy, State.tb_setTb_self]
  rw [hset, State.rd_deriveSync_self (by rw [hrole']; decide), hrole', hlocked,
    hread _ (by simp [E.Base.SERVO_STATE, E.Base.STEPS, entN]), hidle]
  rfl

theorem State.baseSet_completes (hb : b < 3) (hv : n < 2 ^ 96) (ha : s.accepts at_ w (E.Base.SET b).key .time96 (.num n))
    (hh : h / 2 < s.instant at_) (hn : s.instant at_ ≤ h / 2 + 16000000000) :
    Completes (.baseSet at_ w b n) s (fun t => t.odStatus = 0
      ∧ tbHalf (t.tb b).segs (2 * s.instant at_) = (n / 2 ^ 48 * 1000000000 + n / 65536 % 2 ^ 32) * 18446744073709551616
      ∧ tbHalf (t.tb b).segs h = tbHalf (s.tb b).segs h
      ∧ (s.rd (E.Base.SERVO_STATE b) = 0 → t.rd (E.Base.SYNC_STATE b) = 0)
      ∧ t.rd (E.Base.STEPS b) = min (2 ^ 32 - 1) (s.rd (E.Base.STEPS b) + 1)
      ∧ (∀ k < 3, k ≠ b → t.tb k = s.tb k) ∧ t.now = s.instant at_
      ∧ Frame [.answer, .time, .ledger] ([E.Base.STEPS b, E.Base.SYNC_STATE b, E.Base.SYNC_STATE 1] ++ genEnts) [] s t) := by
  have hrole := State.role_of_accepts hb (sub := 6) (by simp) ha
  have hon := OnBase.effSet (n := n) ((OnBase.refl b s).of_time (y := s.advance at_) rfl) hb
  refine ⟨((s.advance at_).effSet b n).answered, State.exec_baseSet hb ha, rfl, ?_, ?_, fun hidle => ?_, ?_, fun k hk hne => ?_, ?_, ?_⟩
  · have hnano := State.timeOk_of_accepts hb ha
    have hsec : n / 2 ^ 48 < 2 ^ 48 := by norm_num at hv ⊢; omega
    rw [State.tb_answered, State.segs_effSet]
    refine State.tbHalf_setVal_now.trans ?_
    rw [ofTime96_seconds, Int.emod_eq_of_lt (by positivity) ?_]
    · push_cast
      ring
    · simp only [tbModulus]
      norm_num at hsec hnano ⊢
      omega
  · rw [State.tb_answered, State.segs_effSet]
    exact State.tbHalf_setVal_before hh hn
  · rw [State.rd_answered _ (by simp [E.Base.SYNC_STATE, entN])]
    exact State.rd_effSet_sync hrole hidle
  · rw [State.rd_answered _ (by simp [E.Base.STEPS, entN]), State.rd_effSet_steps]
    rfl
  · rw [State.tb_answered, hon.others k hk hne]
  · simp [State.instant]
  · exact ((Frame.refl ..).advance.effSet (by simp) (by simp) (by simp)).answered (by simp)

end

end Sys2Proof.Machine
end

section
/-!
O28. A change of role (R281), the snapshot (R274) and the offset of the partner's TB3 (R292); then the statement.
-/
namespace Sys2Proof.Machine

section
variable {s x : State} {at_ b n v : Nat} {w : Writer} {m : Option Nat} {ps : List Part} {es : List Ent} {rs : List Nat}

/-! ## A PTP clock starts in its role (R281) -/

/-- The PTP clock of base `b` as it starts, before its servo takes its state. -/
def State.instanceBegun (s : State) (b : Nat) : State :=
  let y := s.setTb b { s.tb b with announceAt := s.now, bcSince := s.now }
  (y.wr (E.Ptp.PATH_ACTIVE b) (y.rd (E.Ptp.PRIMARY_PATH b))).wr (E.Ptp.PORT_STATE b)
    (if s.role b = 0 then 3 else if (s.role b == 3 || s.role b == 4) && !s.follows b then 6 else 4)

theorem State.startInstance_eq : s.startInstance b
    = ((s.instanceBegun b).setServo b (if (s.role b == 3 || s.role b == 4) && !s.follows b then 4 else 0)).deriveSync b := rfl

theorem State.instanceBegun_frame : Frame [.time] [E.Ptp.PATH_ACTIVE b, E.Ptp.PORT_STATE b] [] s (s.instanceBegun b) :=
  (((Frame.refl ..).setTb (by simp)).wr (by simp)).wr (by simp)

@[simp] theorem State.instanceBegun_now : (s.instanceBegun b).now = s.now := by simp [State.instanceBegun]

theorem State.tb_instanceBegun : (s.instanceBegun b).tb b = { s.tb b with announceAt := s.now, bcSince := s.now } := State.tb_setTb_self ..

theorem OnBase.instanceBegun (ho : OnBase b s x) (hb : b < 3) : OnBase b s (x.instanceBegun b) :=
  OnBase.of_time (x := x.setTb b { x.tb b with announceAt := x.now, bcSince := x.now }) (ho.setTb hb) rfl

theorem State.rd_pathActive_instanceBegun : (s.instanceBegun b).rd (E.Ptp.PATH_ACTIVE b) = s.rd (E.Ptp.PRIMARY_PATH b) % 256 := by
  rw [State.instanceBegun, State.rd_wr_ne _ _ _ _ (by simp [E.Ptp.PATH_ACTIVE, E.Ptp.PORT_STATE, entN]), State.rd_wr_self, State.rd_setTb]
  rfl

/-! ## A change of role -/

/-- The module as base `b` takes role `v`, its value kept, before its PTP clock starts. -/
def State.roleTaken (s : State) (b v : Nat) : State :=
  let y := ((s.setTb b { s.tb b with segs := s.history b }).wrR (E.Ptp.PTP_ROLE b) v).setVal b (tbHalf (s.segs b) (2 * s.now))
  y.setTb b { y.tb b with master := none, pathA := {}, pathB := {}, inside := 0, outside := 0, setLocked := false }

theorem State.effRole_of_ne (hne : v ≠ s.role b) : s.effRole b v = (s.roleTaken b v).startInstance b := by
  rw [State.effRole, if_neg (Ne.symm hne)]
  rfl

theorem State.roleTaken_frame : Frame [.time, .blocks] [E.Ptp.PTP_ROLE b, E.Restore.RETAINED_WRITES] [] s (s.roleTaken b v) :=
  ((((Frame.refl ..).setTb (by simp)).wrR (by simp) (by simp) (by simp)).setVal (by simp)).setTb (by simp)

@[simp] theorem State.roleTaken_now : (s.roleTaken b v).now = s.now := by simp [State.roleTaken]

theorem OnBase.roleTaken (ho : OnBase b s x) (hb : b < 3) : OnBase b s (x.roleTaken b v) :=
  OnBase.setTb (OnBase.setVal ((ho.setTb hb).of_time (State.wrR_time ..)) hb) hb

theorem State.role_roleTaken (hb : b < 3) (hv : v < 256) : (s.roleTaken b v).role b = v := by
  rw [State.role, State.roleTaken, State.rd_setTb, State.rd_setVal, State.rd, State.wrR, State.get_putR_self]
  · exact Nat.mod_eq_of_lt hv
  · simp [E.Ptp.PTP_ROLE, E.Restore.RETAINED_WRITES, entN]
    omega

/-- A base that changes its role keeps its value. -/
theorem State.tbHalf_roleTaken : tbHalf ((s.roleTaken b v).tb b).segs (2 * s.now) = tbHalf (s.history b) (2 * s.now) := by
  have hval := State.tbHalf_setVal_now (s := (s.setTb b { s.tb b with segs := s.history b }).wrR (E.Ptp.PTP_ROLE b) v) (b := b)
    (v := tbHalf (s.segs b) (2 * s.now))
  simp only [State.wrR_now, State.setTb_now, tbHalf_mod] at hval
  rw [State.roleTaken, State.tb_setTb_self]
  refine hval.trans (tbHalf_pruneSegs ?_)
  omega

/-- The servo of a new role, and the commit of its write, touch nothing but these entries. -/
def roleAfterEnts (b : Nat) : List Ent := E.Base.FREQ_ADJ b :: servoEnts b ++ retainEnts

/-- The module as an accepted PTP_ROLE of another value leaves it. -/
def State.roleChanged (s : State) (b v : Nat) : State := (((s.roleTaken b v).startInstance b).mirrored (E.Ptp.PTP_ROLE b).key).answered

theorem State.mirroredAnswered_frame (x : State) (key : Nat) :
    Frame [.answer, .free, .twin, .ledger] retainEnts [28, 31] x (x.mirrored key).answered :=
  (((Frame.refl ..).mirrored (by simp) (by simp) (by simp [retainEnts])).servicesCommit genEnts_sub_retainEnts).with_odStatus (by simp)

theorem State.roleChanged_frame : Frame [.time, .answer, .free, .twin, .ledger] (roleAfterEnts b) [28, 31, 45]
    ((s.roleTaken b v).instanceBegun b) (s.roleChanged b v) := by
  refine Frame.trans ?_ ((State.mirroredAnswered_frame ..).mono (by simp) (fun e he => by simp [roleAfterEnts, he]) (by simp))
  rw [State.startInstance_eq]
  exact ((Frame.refl ..).setServo (by simp) (by simp) (fun e he => by simp [roleAfterEnts, he]) (by simp [roleAfterEnts]) (by simp)).deriveSync
    (by simp) (by simp) (by simp [roleAfterEnts, servoEnts]) (by simp [roleAfterEnts, servoEnts])

theorem State.tb_roleChanged (k : Nat) : (s.roleChanged b v).tb k = ((s.roleTaken b v).startInstance b).tb k :=
  State.tb_congr ((State.mirroredAnswered_frame ..).2.1 .time (by simp))

theorem OnBase.roleChanged (hb : b < 3) : OnBase b s (s.roleChanged b v) := by
  refine OnBase.of_time ?_ ((State.mirroredAnswered_frame ..).2.1 .time (by simp))
  rw [State.startInstance_eq]
  exact ((((OnBase.refl b s).roleTaken hb).instanceBegun hb).setServo hb).deriveSync hb

/-- An entry of a PTP clock is neither one of its servo nor one of the commit. -/
theorem roleAfterEnts_alone {e : Ent} (hb : b < 3) (hi : e.key / 256 = 0x1820 + b) : ∀ f ∈ roleAfterEnts b, e.key ≠ f.key := by
  have hout : ∀ f ∈ roleAfterEnts b, f.key / 256 < 0x1820 ∨ 0x1823 ≤ f.key / 256 := by
    rcases (by omega : b = 0 ∨ b = 1 ∨ b = 2) with rfl | rfl | rfl <;> decide
  intro f hf hkey
  have := hout f hf
  omega

theorem State.rd_roleChanged {e : Ent} (hb : b < 3) (hi : e.key / 256 = 0x1820 + b) :
    (s.roleChanged b v).rd e = ((s.roleTaken b v).instanceBegun b).rd e :=
  State.roleChanged_frame.rd (by simp) (roleAfterEnts_alone hb hi) (by simp; omega)

theorem State.role_roleChanged (hb : b < 3) (hv : v < 256) : (s.roleChanged b v).role b = v := by
  rw [State.role, State.rd_roleChanged hb (by simp only [E.Ptp.PTP_ROLE, entN]; omega),
    State.instanceBegun_frame.rd (by simp) (by simp [E.Ptp.PTP_ROLE, E.Ptp.PATH_ACTIVE, E.Ptp.PORT_STATE, entN]) (by simp)]
  exact State.role_roleTaken hb hv

theorem State.pathActive_roleChanged (hb : b < 3) : (s.roleChanged b v).rd (E.Ptp.PATH_ACTIVE b) = s.rd (E.Ptp.PRIMARY_PATH b) % 256 := by
  rw [State.rd_roleChanged hb (by simp only [E.Ptp.PATH_ACTIVE, entN]; omega), State.rd_pathActive_instanceBegun]
  refine congrArg (· % 256) (State.roleTaken_frame.rd (by simp) ?_ (by simp))
  simp [E.Ptp.PRIMARY_PATH, E.Ptp.PTP_ROLE, E.Restore.RETAINED_WRITES, entN]
  omega

/-- A master leads its own base but in a STANDBY (R271). -/
theorem State.leads_roleTaken (hb : b < 3) (hv : v < 256) (hactive : s.rd E.Twin.TWIN_ROLE ≠ 1) :
    (((s.roleTaken b v).role b == 3 || (s.roleTaken b v).role b == 4) && !(s.roleTaken b v).follows b) = decide (v = 3 ∨ v = 4) := by
  have htwin : (s.roleTaken b v).rd E.Twin.TWIN_ROLE = s.rd E.Twin.TWIN_ROLE :=
    State.roleTaken_frame.rd (by simp) (by simp [E.Twin.TWIN_ROLE, E.Ptp.PTP_ROLE, E.Restore.RETAINED_WRITES, entN]; omega) (by simp)
  rw [State.follows, State.role_roleTaken hb hv, htwin, beq_false_of_ne hactive]
  by_cases h3 : v = 3
  · simp [h3]
  · by_cases h4 : v = 4 <;> simp [h3, h4]

theorem State.servo_roleChanged (hb : b < 3) (hv : v < 256) (hactive : s.rd E.Twin.TWIN_ROLE ≠ 1) :
    (s.roleChanged b v).rd (E.Base.SERVO_STATE b) = if v = 3 ∨ v = 4 then 4 else 0 := by
  have hcommit := (State.mirroredAnswered_frame ((s.roleTaken b v).startInstance b) (E.Ptp.PTP_ROLE b).key).rd (e := E.Base.SERVO_STATE b) (by simp)
    (by rcases (by omega : b = 0 ∨ b = 1 ∨ b = 2) with rfl | rfl | rfl <;> decide) (by simp [E.Base.SERVO_STATE, entN]; omega)
  rw [State.roleChanged, hcommit, State.startInstance_eq, State.rd_deriveSync (by simp [E.Base.SERVO_STATE, entN]),
    State.rd_setServo_self hb (by split <;> decide), State.leads_roleTaken hb hv hactive]
  simp

theorem State.followed_roleChanged : ((s.roleChanged b v).tb b).followed = (none, s.now, false) := by
  rw [State.tb_roleChanged, State.startInstance_eq, State.followed_deriveSync, State.followed_setServo, State.tb_instanceBegun, State.roleTaken,
    State.tb_setTb_self]
  simp [BaseSt.followed]

/-- A base that changes to a role other than BC_FROM_TB0 shows in this instant what it showed before. -/
theorem State.tbHalf_roleChanged (hb : b < 3) (hv : v < 256) (hbc : v ≠ 4) :
    tbHalf ((s.roleChanged b v).segs b) (2 * s.now) = tbHalf (s.history b) (2 * s.now) := by
  have hnow : (s.roleChanged b v).now = s.now := by simp [State.roleChanged]
  have hown : (s.roleChanged b v).history b = ((s.roleChanged b v).tb b).segs := by
    have hrole := State.role_roleChanged (s := s) hb hv
    refine if_neg ?_
    simp only [Bool.and_eq_true, decide_eq_true_eq, beq_iff_eq, not_and]
    rintro rfl
    omega
  rw [State.segs, hnow, tbHalf_pruneSegs (by omega), hown, State.tb_roleChanged, State.startInstance_eq, State.segs_deriveSync,
    State.tbHalf_setServo_before (by simp) (by simp), State.tb_instanceBegun]
  exact State.tbHalf_roleTaken

theorem State.ptpRole_completes (hb : b < 3) (hv : v < 5) (ha : s.accepts at_ w (E.Ptp.PTP_ROLE b).key .u8 (.num v)) (hne : v ≠ s.role b) :
    Completes (.ptpRoleWrite at_ w b v) s (fun t => t.odStatus = 0 ∧ t.role b = v
      ∧ (v ≠ 4 → tbHalf (t.segs b) (2 * s.instant at_) = tbHalf (s.segs b) (2 * s.instant at_))
      ∧ t.rd (E.Base.SERVO_STATE b) = (if v = 3 ∨ v = 4 then 4 else 0) ∧ (t.tb b).master = none
      ∧ (t.tb b).setLocked = false ∧ t.rd (E.Ptp.PATH_ACTIVE b) = s.rd (E.Ptp.PRIMARY_PATH b) % 256
      ∧ (∀ k < 3, k ≠ b → t.tb k = s.tb k) ∧ t.now = s.instant at_
      ∧ Frame (.time :: retainParts) ([E.Ptp.PTP_ROLE b, E.Ptp.PATH_ACTIVE b, E.Ptp.PORT_STATE b, E.Base.SERVO_STATE b,
          E.Base.LOCK_LOSSES b, E.Base.FREQ_ADJ b, E.Base.SYNC_STATE b, E.Base.SYNC_STATE 1] ++ retainEnts) [28, 31, 45] s t) := by
  have hexec : exec (.ptpRoleWrite at_ w b v) s = .next ((s.advance at_).roleChanged b v) := by
    rw [State.exec_ptpRoleWrite hb ha, State.effRole_of_ne (s := s.advance at_) hne, State.roleChanged]
  have hfollowed := State.followed_roleChanged (s := s.advance at_) (b := b) (v := v)
  simp only [BaseSt.followed, Prod.mk.injEq] at hfollowed
  obtain ⟨hmaster, -, hlocked⟩ := hfollowed
  refine ⟨(s.advance at_).roleChanged b v, hexec, rfl, State.role_roleChanged hb (by omega), fun hbc => ?_,
    State.servo_roleChanged hb (by omega) (State.ptpRole_of_accepts hb ha).2, hmaster, hlocked, State.pathActive_roleChanged hb,
    (OnBase.roleChanged (s := s.advance at_) hb).others, ?_, ?_⟩
  · refine (State.tbHalf_roleChanged (s := s.advance at_) hb (by omega) hbc).trans (Eq.symm (tbHalf_pruneSegs ?_))
    simp only [State.instant]
    omega
  · simp [State.roleChanged, State.instant]
  · have hbegun := ((Frame.refl [.time, .blocks] [E.Ptp.PTP_ROLE b, E.Restore.RETAINED_WRITES, E.Ptp.PATH_ACTIVE b, E.Ptp.PORT_STATE b] [] s).advance (a := at_)).trans
      ((State.roleTaken_frame (b := b) (v := v)).mono (by simp) (by simp) (by simp)) |>.trans
      ((State.instanceBegun_frame (b := b)).mono (by simp) (by simp) (by simp))
    refine (hbegun.mono (by simp [retainParts]) ?_ (by simp)).trans (State.roleChanged_frame.mono (by simp [retainParts]) ?_ (by simp))
    · simp [retainEnts]
    · intro e he
      rcases List.mem_append.1 he with hservo | hcommit
      · simp only [servoEnts, List.mem_cons, List.not_mem_nil, or_false] at hservo
        rcases hservo with rfl | rfl | rfl | rfl | rfl <;> simp
      · exact List.mem_append_right _ hcommit

/-! ## The snapshot (R274) -/

/-- The history of 16 s that is kept at a later instant says the same of that instant. -/
theorem State.tbAt_advance : (s.advance at_).tbAt b (s.instant at_) = s.tbAt b (s.instant at_) := by
  have hlate : tbHalf ((s.advance at_).segs b) (2 * s.instant at_) = tbHalf (s.segs b) (2 * s.instant at_) := by
    refine (tbHalf_pruneSegs ?_).trans (Eq.symm (tbHalf_pruneSegs ?_))
    · simp only [State.advance_now, State.instant]
      omega
    · simp only [State.instant]
      omega
  simp only [State.tbAt, State.tbHalfAt, hlate]

theorem State.readEntry_snapshot (r : Reader) (hb : s.power.bare = false) :
    s.readEntry r E.Time.TB_SNAPSHOT.key = (0, .octets, .bytes (s.snapshotAll.flatMap time96be)) := by
  have hrow : ∃ row : Row, tableRow E.Time.TB_SNAPSHOT.key = some (row, E.Time.TB_SNAPSHOT) ∧ row.acc = .ro ∧ row.ty = .octets ∧ row.ret = .volatile :=
    ⟨_, rfl, rfl, rfl, rfl⟩
  obtain ⟨row, hrow, hacc, hty, hret⟩ := hrow
  have he := State.entryAt_of_tableRow (s := s) hb (by decide) (by decide) (by decide) hrow
  have hvalid : s.invalidEntry E.Time.TB_SNAPSHOT.key = false := by simp [State.invalidEntry, retainedKey, hrow, hret]
  have hindex : E.Time.TB_SNAPSHOT.key / 256 ≠ 0x7001 := by decide
  simp only [State.readEntry, he, hacc, hty, hvalid, hindex]
  rfl

theorem State.tbSnapshot_completes (hup : (s.advance at_).servicesUp = true) (hw : (s.advance at_).writerOk w = true) :
    Completes (.tbSnapshot at_ w) s (fun t => t.odStatus = 0
      ∧ t.odValue = ([0, 1, 2, 3].map (fun b => time96be (time96 (s.tbAt b (s.instant at_))))).flatten
      ∧ t.now = s.instant at_ ∧ Frame [.answer] [] [] s t) := by
  have hread := State.readEntry_snapshot (readerOf w) (State.bare_of_servicesUp hup)
  have hstep : (s.advance at_).readStep w E.Time.TB_SNAPSHOT.key
      = { s.advance at_ with odValue := (s.advance at_).snapshotAll.flatMap time96be, odStatus := 0 } := by
    rw [State.readStep, State.dictStep_of_present hup hw, hread, State.delivered_of_ne (by decide)]
    rfl
  refine ⟨_, congrArg Host.Outcome.next hstep, rfl, ?_, rfl, rfl, fun p hp => ?_, fun _ _ _ => rfl, fun _ _ => rfl⟩
  · have hnow : (s.advance at_).now = s.instant at_ := rfl
    simp only [State.snapshotAll, hnow, State.tbAt_advance]
    rfl
  · cases p <;> simp_all [Part.same]

/-! ## The partner's TB3 (R292) -/

theorem State.partnerOffset_measured (hpos : s.rd E.Twin.TWIN_POSITION = 1 ∨ s.rd E.Twin.TWIN_POSITION = 2) (hv : v < 2 ^ 64) :
    Completes (.partnerOffsetMeasure at_ (some v)) s (fun t => t.rd E.Time.PARTNER_OFFSET = v ∧ t.rd E.Time.PARTNER_OFFSET_STATE = 1
      ∧ t.now = s.instant at_ ∧ Frame [] [E.Time.PARTNER_OFFSET, E.Time.PARTNER_OFFSET_STATE] [] s t) := by
  have hoff : (s.advance at_).partnerOffset (some v) = ((s.advance at_).wr E.Time.PARTNER_OFFSET v).wr E.Time.PARTNER_OFFSET_STATE 1 := by
    rcases hpos with h | h <;> simp [State.partnerOffset, h]
  refine ⟨_, congrArg Host.Outcome.next hoff, ?_, ?_, rfl, ((Frame.refl ..).advance.wr (by simp)).wr (by simp)⟩
  · rw [State.rd_wr_ne _ _ _ _ (by decide), State.rd_wr_self]
    exact Nat.mod_eq_of_lt hv
  · rw [State.rd_wr_self]
    rfl

theorem State.partnerOffset_state {st : Nat} (hst : st < 256) (hoff : (s.advance at_).partnerOffset m = (s.advance at_).wr E.Time.PARTNER_OFFSET_STATE st) :
    Completes (.partnerOffsetMeasure at_ m) s (fun t => t.rd E.Time.PARTNER_OFFSET_STATE = st
      ∧ t.now = s.instant at_ ∧ Frame [] [E.Time.PARTNER_OFFSET_STATE] [] s t) := by
  refine ⟨_, congrArg Host.Outcome.next hoff, ?_, rfl, (Frame.refl ..).advance.wr (by simp)⟩
  rw [State.rd_wr_self]
  exact Nat.mod_eq_of_lt hst

end

/-- Settles O28: a new stretch of a base begins behind those that it keeps, so its value before stays; the owner's check found the role. -/
theorem basesAreAdjustedByWrites : Obligations.BasesAreAdjustedByWrites := by
  unfold Obligations.BasesAreAdjustedByWrites
  refine ⟨fun s at_ b w f hb hlo hhi ha n hn => ?_, fun s at_ b h w f hb hlo hhi ha n hn hh => ?_,
    fun s at_ b h w ns hb hlo hhi ha n hn hh hold => ?_, fun s at_ b v h w hb hv ha n hn hh hold => ?_, fun s at_ b v w hb hv ha hne n hn => ?_,
    fun s at_ w hup hw n hn => ?_, fun s at_ v hpos hv => State.partnerOffset_measured hpos hv, fun s at_ hpos => ?_, fun s at_ m h1 h2 => ?_⟩
  · subst hn
    exact ⟨State.role_of_accepts hb (sub := 4) (by simp) ha, State.freqAdj_completes hb hlo hhi ha⟩
  · subst hn
    exact State.freqAdj_history hb hlo hhi ha hh
  · subst hn
    exact ⟨State.role_of_accepts hb (sub := 5) (by simp) ha, State.baseStep_completes hb hlo hhi ha hh hold⟩
  · subst hn
    exact ⟨State.role_of_accepts hb (sub := 6) (by simp) ha, State.baseSet_completes hb hv ha hh hold⟩
  · subst hn
    exact ⟨(State.ptpRole_of_accepts hb ha).1, State.ptpRole_completes hb hv ha hne⟩
  · subst hn
    exact State.tbSnapshot_completes hup hw
  · refine State.partnerOffset_state (by decide) ?_
    rcases hpos with h | h <;> simp [State.partnerOffset, h]
  · exact State.partnerOffset_state (by decide) (by simp [State.partnerOffset, h1, h2])

end Sys2Proof.Machine
end

section
/-!
O31. The statement gives the peer delay of a Pdelay_Resp without the port's ASYMMETRY. The module corrects each event message that it
receives by it (R277), so with an ASYMMETRY of 1.0 ns the peer delay is half a nanosecond less than the statement says.
-/
namespace Sys2Proof.Machine

/-- The first response to the request of a port measures its delay, ASYMMETRY taken from the round trip (R277, R280). -/
theorem State.delay_pdelayResp {s : State} {b port mac : Nat} {m : PtpMsg} {t1 : Int} (hp : portOf b port = true)
    (hm : (s.stamped port).ptpDiscards b m = false) (ht1 : (s.time.peers.fetch {} port).t1 = some t1) (hreq : m.requester = portIdentity b port)
    (hseq : (m.seq + 1) % 65536 = (s.time.peers.fetch {} port).seq) (hfirst : (s.time.peers.fetch {} port).responder = none) :
    ((s.pdelayResp b port mac m).time.peers.fetch {} port).delay
      = some (((s.stamped port).rxStamp b port mac - t1 - m.ts - (m.corr + (s.stamped port).asymmetry port)) / 2) := by
  have hkept : (s.stamped port).time = s.time := rfl
  simp only [State.pdelayResp, hp, hm, hkept, ht1, hreq, hseq, hfirst, Bool.not_true, Bool.false_eq_true, if_false, decide_true, Bool.and_self, if_true]
  simp

end Sys2Proof.Machine
namespace Sys2Proof.Machine.AsymmetricPeer

/-- Pdelay_Req 0 has been sent on port 0 at the start of the base, and no response has arrived. -/
def request : PeerSt := { seq := 1, t1 := some 0, responder := none, answered := false }

/-- A module whose port 0 has an ASYMMETRY of 1.0 ns and nominal latencies (R278), and waits for the response to its request. -/
def state : State :=
  let s := (State.reset.wr (E.Stamp.CAL_VALID 0) 0).wr (E.Stamp.ASYMMETRY 0) 0x3F800000
  { s with time := { s.time with peers := s.time.peers.store {} 0 request } }

/-- The response to the request, its turnaround 0. -/
def message : PtpMsg :=
  { domain := state.rd (E.Ptp.PTP_DOMAIN 0), source := 0x0A00000000000001, seq := 0, ts := 0, corr := 0, requester := portIdentity 0 0 }

theorem request_waits : state.time.peers.fetch {} 0 = request := by decide +kernel

/-- The response is received 360 ns before the base starts, at the MDI, and half of this less 1.0 ns is the delay. -/
theorem delay_pdelayResp : (((state.advance 0).pdelayResp 0 0 0 message).time.peers.fetch {} 0).delay = some (-11829248) := by
  rw [State.delay_pdelayResp (t1 := 0) rfl (by decide +kernel) (by decide +kernel) rfl (by decide +kernel) (by decide +kernel)]
  decide +kernel

theorem stated_delay : (state.tbHalfAt 0 0 - state.latency 1 0 - 0 - message.ts - message.corr) / 2 = -11796480 := by decide +kernel

end Sys2Proof.Machine.AsymmetricPeer
namespace Sys2Proof.Machine

/-- Refutes O31: the peer delay of a port with an ASYMMETRY is not half of the round trip less the turnaround. -/
theorem not_ptpMessagesAreSentAndMeasured : ¬ Obligations.PtpMessagesAreSentAndMeasured := by
  unfold Obligations.PtpMessagesAreSentAndMeasured
  rintro ⟨-, -, -, -, -, hresp, -⟩
  obtain ⟨t, ht, hfirst, -⟩ := hresp AsymmetricPeer.state 0 0 0 0 AsymmetricPeer.message (by decide) (by decide) rfl rfl rfl _
    AsymmetricPeer.request_waits.symm rfl 0 rfl _ rfl
  obtain rfl : (AsymmetricPeer.state.advance 0).pdelayResp 0 0 0 AsymmetricPeer.message = t := by injection ht
  obtain ⟨hpeer, -⟩ := hfirst rfl
  have hdelay := AsymmetricPeer.delay_pdelayResp
  rw [hpeer, Option.some.injEq, AsymmetricPeer.stated_delay] at hdelay
  exact absurd hdelay (by decide)

end Sys2Proof.Machine
end

section
/-!
O29. The statement says that a Sync on the path that is not active leaves the history of the base as it was. The history reaches back 16 s
from the present instant (R274), so the instant of the Sync drops a stretch that ended more than 16 s ago, on whichever path it arrives.
-/
namespace Sys2Proof.Machine.IdlePathSync

/-- The master. -/
def master : Announce :=
  { domain := 0, source := 0x0A00000000000001, priority1 := 128, clockClass := 6, accuracy := 0x21, variance := 0, priority2 := 128, gm := 0x0A
    stepsRemoved := 0, utcOffset := 37, leap61 := false, leap59 := false }

/-- A slave whose active path is path 0; its base has begun a second stretch at instant 4. -/
def state : State :=
  State.reset.setTb 0 { master := some master, segs := [{ from_ := 4, val := 0, freq := 0 }, { from_ := 0, val := 0, freq := 0 }] }

/-- A one-step Sync of the master. -/
def message : PtpMsg := { domain := 0, source := 0x0A00000000000001, seq := 0 }

/-- The module 16 s after the stretch began, with the Sync received on path 1. -/
def received : State := (state.advance 16000000004).syncReceived 0 1 0 message

theorem pathActive_received : received.rd (E.Ptp.PATH_ACTIVE 0) = 0 := by decide +kernel

theorem segs_received : (received.segs 0).length = 1 ∧ (state.segs 0).length = 2 := by decide +kernel

end Sys2Proof.Machine.IdlePathSync
namespace Sys2Proof.Machine

/-- Refutes O29: a Sync on the idle path, 16 s after a change of rate, drops the stretch before it from the base's history. -/
theorem not_syncsSteerTheServo : ¬ Obligations.SyncsSteerTheServo := by
  unfold Obligations.SyncsSteerTheServo
  rintro ⟨-, -, hsync, -⟩
  obtain ⟨t, ht, -, -, -, -, -, -, -, -, -, -, hidle, -⟩ := hsync IdlePathSync.state 16000000004 0 1 0 IdlePathSync.message (by decide) (by decide)
    rfl (by decide +kernel) (by decide +kernel) (by decide +kernel) rfl _ rfl _ rfl
  obtain rfl : IdlePathSync.received = t := by injection ht
  obtain ⟨-, -, hsegs⟩ := hidle (by rw [IdlePathSync.pathActive_received]; decide)
  obtain ⟨hafter, hbefore⟩ := IdlePathSync.segs_received
  rw [hsegs, hbefore] at hafter
  exact absurd hafter (by decide)

end Sys2Proof.Machine
end

section
/-!
O30. Announce messages: a master taken and lost (R281, R283, R293), and the Announce that a master sends (R282); then the statement. Which
of two masters is the better (log 15), and when two senders are one clock (log 174), enters only through `betterMaster` and `sameClock`.
-/
namespace Sys2Proof.Machine

/-! ## The properties of a master (R293) -/

/-- The entries that hold the properties of the selected master. -/
def announceEnts (b : Nat) : List Ent := [E.Ptp.MASTER_ID b, E.Ptp.GM_ID b, E.Ptp.STEPS_REMOVED b, E.Base.UTC_OFFSET b, E.Base.LEAP b]

/-- The entries that follow the choice of a master, but for the rate of the base. -/
def portEnts (b : Nat) : List Ent := E.Ptp.PORT_STATE b :: servoEnts b

/-- The module as it has taken the properties of Announce `a`, before it reports a leap second. -/
def State.announced (s : State) (b : Nat) (a : Announce) : State :=
  (((((s.setTb b { s.tb b with master := some a, announceAt := s.now }).wrB (E.Ptp.MASTER_ID b) (beBytes 10 a.source)).wrB (E.Ptp.GM_ID b)
    (beBytes 8 a.gm)).wr (E.Ptp.STEPS_REMOVED b) a.stepsRemoved).wrI (E.Base.UTC_OFFSET b) a.utcOffset).wr (E.Base.LEAP b)
    (ofBool a.leap61 + 2 * ofBool a.leap59)

/-- In `t` PTP clock `b` follows the sender of Announce `a`, received at `now`. -/
structure Followed (b : Nat) (a : Announce) (now : Nat) (t : State) : Prop where
  master : (t.tb b).master = some a
  announceAt : (t.tb b).announceAt = now
  masterId : t.rdB (E.Ptp.MASTER_ID b) = beBytes 10 a.source
  gmId : t.rdB (E.Ptp.GM_ID b) = beBytes 8 a.gm
  stepsRemoved : t.rd (E.Ptp.STEPS_REMOVED b) = a.stepsRemoved
  utcOffset : t.rdI (E.Base.UTC_OFFSET b) = a.utcOffset
  leap61 : bitOf (t.rd (E.Base.LEAP b)) 0 = a.leap61
  leap59 : bitOf (t.rd (E.Base.LEAP b)) 1 = a.leap59

/-- From `x` to `y` PTP clock `b` keeps its master, and nothing but its port state and its servo changes. -/
structure Onward (b : Nat) (x y : State) : Prop where
  frame : Frame [.time, .ledger] (portEnts b) [45] x y
  onBase : OnBase b x y
  followed : (y.tb b).followed = (x.tb b).followed
  now : y.now = x.now

section
variable {s x y : State} {at_ b port now : Nat} {a m : Announce}

theorem State.takeAnnounce_eq (s : State) (b : Nat) (a : Announce) : ∃ (c : Bool) (n : Nat),
    s.takeAnnounce b a = if c then (s.announced b a).tsEvt 0x05 b n 0 else s.announced b a := ⟨_, _, rfl⟩

theorem State.announced_frame : Frame [.time] (announceEnts b) [] s (s.announced b a) := by
  refine Frame.wr (Frame.wrI (Frame.wr (Frame.wrB (Frame.wrB ((Frame.refl ..).setTb ?_) ?_) ?_) ?_) ?_) ?_ <;> simp [announceEnts]

theorem OnBase.announced (hb : b < 3) : OnBase b s (s.announced b a) :=
  ((OnBase.refl b s).setTb (z := { s.tb b with master := some a, announceAt := s.now }) hb).of_time rfl

@[simp] theorem State.announced_now : (s.announced b a).now = s.now := by simp [State.announced]

theorem State.tb_announced : (s.announced b a).tb b = { s.tb b with master := some a, announceAt := s.now } := State.tb_setTb_self ..

theorem State.rdB_wrI_ne {e f : Ent} {i : Int} (h : f.key ≠ e.key) : (s.wrI e i).rdB f = s.rdB f := State.rdB_put_ne _ _ _ _ h

theorem bitOf_leap (p q : Bool) : bitOf ((ofBool p + 2 * ofBool q) % 256) 0 = p ∧ bitOf ((ofBool p + 2 * ofBool q) % 256) 1 = q := by
  cases p <;> cases q <;> decide

theorem Followed.announced (hsteps : a.stepsRemoved < 2 ^ 16) (hlo : -32768 ≤ a.utcOffset) (hhi : a.utcOffset < 32768) :
    Followed b a s.now (s.announced b a) := by
  have hleap : (s.announced b a).rd (E.Base.LEAP b) = (ofBool a.leap61 + 2 * ofBool a.leap59) % 256 := State.rd_wr_self ..
  obtain ⟨h61, h59⟩ := bitOf_leap a.leap61 a.leap59
  refine ⟨by rw [State.tb_announced], by rw [State.tb_announced], ?_, ?_, ?_, ?_, by rw [hleap, h61], by rw [hleap, h59]⟩
  · simp (disch := simp only [E.Ptp.MASTER_ID, E.Ptp.GM_ID, E.Ptp.STEPS_REMOVED, E.Base.UTC_OFFSET, E.Base.LEAP, entN, entB]; omega) only
      [State.announced, State.rdB_wr_ne, State.rdB_wrI_ne, State.rdB_wrB_ne, State.rdB_wrB_self]
  · simp (disch := simp only [E.Ptp.MASTER_ID, E.Ptp.GM_ID, E.Ptp.STEPS_REMOVED, E.Base.UTC_OFFSET, E.Base.LEAP, entN, entB]; omega) only
      [State.announced, State.rdB_wr_ne, State.rdB_wrI_ne, State.rdB_wrB_self]
  · simp (disch := simp only [E.Ptp.STEPS_REMOVED, E.Base.UTC_OFFSET, E.Base.LEAP, entN]; omega) only
      [State.announced, State.rd_wr_ne, State.rd_wrI_ne, State.rd_wr_self]
    exact Nat.mod_eq_of_lt hsteps
  · rw [State.announced, State.rdI, State.rd_wr_ne _ _ _ _ (by simp [E.Base.UTC_OFFSET, E.Base.LEAP, entN]), State.rd_wrI_self]
    exact intOf_natOf (w := 16) (by decide) hlo (by omega)

/-- A master followed is followed still as the port and the servo go on. -/
theorem Followed.onward (h : Followed b a now x) (hb : b < 3) (g : Onward b x y) : Followed b a now y := by
  have hkeys : ∀ e ∈ announceEnts b, (∀ f ∈ portEnts b, e.key ≠ f.key) ∧ ∀ r ∈ [45], e.key / 256 ≠ 0x1B00 + r := by
    rcases (by omega : b = 0 ∨ b = 1 ∨ b = 2) with rfl | rfl | rfl <;> decide
  have hget (e : Ent) (he : e ∈ announceEnts b) : y.get e = x.get e := g.frame.get (by simp) (hkeys e he).1 (hkeys e he).2
  have hfollowed := g.followed
  simp only [BaseSt.followed, Prod.mk.injEq] at hfollowed
  obtain ⟨hmaster, hat, -⟩ := hfollowed
  have hleap : y.rd (E.Base.LEAP b) = x.rd (E.Base.LEAP b) := congrArg valNat (hget _ (by simp [announceEnts]))
  exact {
    master := hmaster.trans h.master
    announceAt := hat.trans h.announceAt
    masterId := (congrArg valBytes (hget _ (by simp [announceEnts]))).trans h.masterId
    gmId := (congrArg valBytes (hget _ (by simp [announceEnts]))).trans h.gmId
    stepsRemoved := (congrArg valNat (hget _ (by simp [announceEnts]))).trans h.stepsRemoved
    utcOffset := (congrArg (intOf 16 <| valNat ·) (hget _ (by simp [announceEnts]))).trans h.utcOffset
    leap61 := (congrArg (bitOf · 0) hleap).trans h.leap61
    leap59 := (congrArg (bitOf · 1) hleap).trans h.leap59 }

theorem Onward.refl (b : Nat) (x : State) : Onward b x x := ⟨.refl .., .refl .., rfl, rfl⟩

theorem Onward.tsEvt {ev d : Nat} {v : Int} (h : Onward b x y) : Onward b x (y.tsEvt ev b d v) :=
  ⟨h.frame.tsEvt (by simp), h.onBase.of_time State.tsEvt_time, by rw [State.tb_tsEvt, h.followed], by rw [State.tsEvt_now, h.now]⟩

theorem Onward.portState {n : Nat} (h : Onward b x y) : Onward b x (y.wr (E.Ptp.PORT_STATE b) n) :=
  ⟨h.frame.wr (by simp [portEnts]), h.onBase.of_time rfl, h.followed, h.now⟩

/-- The servo enters ACQUIRING, or a state that leaves its rate. -/
theorem Onward.setServo {st : Nat} (h : Onward b x y) (hb : b < 3) (hst : ¬(st = 3 ∨ st = 4)) : Onward b x (y.setServo b st) :=
  ⟨h.frame.setServo (by simp) (by simp) (fun _ he => List.mem_cons_of_mem _ he) (fun hrate => absurd hrate hst) (by simp), h.onBase.setServo hb,
    by rw [State.followed_setServo, h.followed], by rw [State.setServo_now, h.now]⟩

theorem Onward.ite {c : Prop} [Decidable c] {z : State} (h : c → Onward b x y) (g : ¬c → Onward b x z) : Onward b x (if c then y else z) := by
  split
  · exact h ‹_›
  · exact g ‹_›

theorem Onward.takeAnnounce : Onward b (s.announced b a) (s.takeAnnounce b a) := by
  obtain ⟨c, n, h⟩ := s.takeAnnounce_eq b a
  rw [h]
  exact .ite (fun _ => (Onward.refl ..).tsEvt) (fun _ => Onward.refl ..)

/-! ## A slave hears an Announce (R281) -/

theorem State.rd_portState_setServo {st : Nat} (hb : b < 3) : (s.setServo b st).rd (E.Ptp.PORT_STATE b) = s.rd (E.Ptp.PORT_STATE b) :=
  ((Frame.refl [.time, .ledger] (E.Base.FREQ_ADJ b :: servoEnts b) [45] s).setServo (by simp) (by simp) (fun _ he => List.mem_cons_of_mem _ he)
    (by simp) (by simp)).rd (by simp) (by rcases (by omega : b = 0 ∨ b = 1 ∨ b = 2) with rfl | rfl | rfl <;> decide)
    (by simp [E.Ptp.PORT_STATE, entN]; omega)

theorem State.rd_servo_takeAnnounce (hb : b < 3) : (s.takeAnnounce b a).rd (E.Base.SERVO_STATE b) = s.rd (E.Base.SERVO_STATE b) := by
  have hrd : (s.announced b a).rd (E.Base.SERVO_STATE b) = s.rd (E.Base.SERVO_STATE b) :=
    State.announced_frame.rd (by simp) (by rcases (by omega : b = 0 ∨ b = 1 ∨ b = 2) with rfl | rfl | rfl <;> decide) (by simp)
  obtain ⟨c, n, h⟩ := s.takeAnnounce_eq b a
  rw [h, apply_ite (fun u : State => u.rd _), State.rd_tsEvt (by simp [E.Base.SERVO_STATE, entN]; omega), hrd, ite_self]

/-- An Announce of its master renews the properties. -/
theorem State.announceReceived_renewal (hp : portOf b port = true) (hd : a.domain = s.rd (E.Ptp.PTP_DOMAIN b)) (hr : s.role b = 1)
    (hm : (s.tb b).master = some m) (hsame : sameClock m.source a.source = true) : s.announceReceived b port a = s.takeAnnounce b a := by
  simp [State.announceReceived, State.follows, hp, hd, hr, hm, hsame]

/-- An Announce of a better master makes its sender the master. -/
theorem State.announceReceived_better (hp : portOf b port = true) (hd : a.domain = s.rd (E.Ptp.PTP_DOMAIN b)) (hr : s.role b = 1)
    (hm : (s.tb b).master = some m) (hother : sameClock m.source a.source = false) (hbetter : betterMaster a m = true) :
    ∃ y, y = (s.takeAnnounce b a).tsEvt 0x03 b 0 (intOf 32 (a.source / 65536))
      ∧ s.announceReceived b port a = if y.rd (E.Base.SERVO_STATE b) = 2 then y.setServo b 1 else y := by
  refine ⟨_, rfl, ?_⟩
  simp [State.announceReceived, State.follows, hp, hd, hr, hm, hother, hbetter]

/-- A slave without a master takes the sender. -/
theorem State.announceReceived_first (hp : portOf b port = true) (hd : a.domain = s.rd (E.Ptp.PTP_DOMAIN b)) (hr : s.role b = 1)
    (hm : (s.tb b).master = none) : ∃ y, y = (s.takeAnnounce b a).wr (E.Ptp.PORT_STATE b) 9
      ∧ s.announceReceived b port a
        = (if y.rd (E.Base.SERVO_STATE b) = 4 then y.setServo b 1 else y).tsEvt 0x03 b 0 (intOf 32 (a.source / 65536)) := by
  refine ⟨_, rfl, ?_⟩
  simp [State.announceReceived, State.follows, hp, hd, hr, hm]

/-- An Announce of a worse master changes nothing. -/
theorem State.announceReceived_worse (hp : portOf b port = true) (hd : a.domain = s.rd (E.Ptp.PTP_DOMAIN b))
    (hm : (s.tb b).master = some m) (hother : sameClock m.source a.source = false) (hworse : betterMaster a m = false) :
    s.announceReceived b port a = s := by
  simp [State.announceReceived, hp, hd, hm, hother, hworse]

theorem State.announceReceived_takes (hb : b < 3) (hp : portOf b port = true) (hd : a.domain = s.rd (E.Ptp.PTP_DOMAIN b)) (hr : s.role b = 1)
    (hm : (s.tb b).master = none ∨ ∃ m ∈ (s.tb b).master, sameClock m.source a.source = true ∨ betterMaster a m = true) :
    ∃ t, s.announceReceived b port a = t ∧ Onward b (s.announced b a) t
      ∧ ((s.tb b).master = none → t.rd (E.Ptp.PORT_STATE b) = 9)
      ∧ (∀ m ∈ (s.tb b).master, sameClock m.source a.source = false → s.rd (E.Base.SERVO_STATE b) = 2 → t.rd (E.Base.SERVO_STATE b) = 1)
      ∧ (∀ m ∈ (s.tb b).master, sameClock m.source a.source = true → t.rd (E.Base.SERVO_STATE b) = s.rd (E.Base.SERVO_STATE b)) := by
  rcases hm with hnone | ⟨m, hm, hmaster⟩
  · obtain ⟨y, hy, ht⟩ := State.announceReceived_first hp hd hr hnone
    have hstate : Onward b (s.announced b a) y := hy ▸ Onward.takeAnnounce.portState
    refine ⟨_, ht, (Onward.ite (fun _ => hstate.setServo hb (by decide)) (fun _ => hstate)).tsEvt, fun _ => ?_, by simp [hnone], by simp [hnone]⟩
    have h9 : y.rd (E.Ptp.PORT_STATE b) = 9 := by rw [hy, State.rd_wr_self]; rfl
    rw [State.rd_tsEvt (by simp [E.Ptp.PORT_STATE, entN]; omega), apply_ite (fun u : State => u.rd _), State.rd_portState_setServo hb, ite_self, h9]
  · by_cases hsame : sameClock m.source a.source = true
    · refine ⟨_, State.announceReceived_renewal hp hd hr hm hsame, Onward.takeAnnounce, by simp [Option.mem_def.1 hm], ?_, ?_⟩
      · intro m' hm' hother
        rw [Option.mem_unique hm' hm, hsame] at hother
        cases hother
      · exact fun _ _ _ => State.rd_servo_takeAnnounce hb
    · rw [Bool.not_eq_true] at hsame
      obtain ⟨y, hy, ht⟩ := State.announceReceived_better hp hd hr hm hsame (hmaster.resolve_left (by simp [hsame]))
      have hevent : Onward b (s.announced b a) y := hy ▸ Onward.takeAnnounce.tsEvt
      refine ⟨_, ht, .ite (fun _ => hevent.setServo hb (by decide)) (fun _ => hevent), by simp [Option.mem_def.1 hm], ?_, ?_⟩
      · intro _ _ _ hlocked
        have hy2 : y.rd (E.Base.SERVO_STATE b) = 2 := by
          rw [hy, State.rd_tsEvt (by simp [E.Base.SERVO_STATE, entN]; omega), State.rd_servo_takeAnnounce hb, hlocked]
        rw [if_pos hy2]
        exact State.rd_setServo_self hb (by decide)
      · intro m' hm' hsame'
        rw [Option.mem_unique hm' hm, hsame] at hsame'
        cases hsame'

/-! ## A master is lost (R271, R283) -/

/-- From `s` to `t` PTP clock `b` has lost its master at `now`; its port state, its servo and the rate of its base may have changed. -/
structure Orphaned (b now : Nat) (s t : State) : Prop where
  master : (t.tb b).master = none
  others : ∀ k < 3, k ≠ b → t.tb k = s.tb k
  now : t.now = now
  frame : Frame [.time, .ledger] (portEnts b ++ [E.Base.FREQ_ADJ b]) [45] s t

theorem Orphaned.of_advance (hb : b < 3) :
    Orphaned b (s.instant at_) s ((s.advance at_).setTb b { (s.advance at_).tb b with master := none }) where
  master := by rw [State.tb_setTb_self]
  others := fun k hk hne => (State.tb_setTb_ne hb hk hne).trans (State.tb_advance ..)
  now := by simp [State.instant]
  frame := (Frame.refl ..).advance.setTb (by simp)

theorem Orphaned.portState {n : Nat} (h : Orphaned b now s x) : Orphaned b now s (x.wr (E.Ptp.PORT_STATE b) n) :=
  ⟨h.master, h.others, h.now, h.frame.wr (by simp [portEnts])⟩

theorem Orphaned.setServo {st : Nat} (h : Orphaned b now s x) (hb : b < 3) : Orphaned b now s (x.setServo b st) where
  master := by
    have hfollowed := State.followed_setServo (s := x) (b := b) (st := st)
    simp only [BaseSt.followed, Prod.mk.injEq] at hfollowed
    exact hfollowed.1.trans h.master
  others := fun k hk hne => (((OnBase.refl b x).setServo hb).others k hk hne).trans (h.others k hk hne)
  now := (State.setServo_now ..).trans h.now
  frame := h.frame.setServo (by simp) (by simp) (fun _ he => List.mem_append_left _ (List.mem_cons_of_mem _ he)) (by simp) (by simp)

theorem State.announceLost_slave (hr : s.role b = 1) (hm : (s.tb b).master.isSome = true)
    (hlate : (s.tb b).announceAt + s.announceTimeout b ≤ s.now) : ∃ y, y = (s.setTb b { s.tb b with master := none }).wr (E.Ptp.PORT_STATE b) 4
      ∧ s.announceLost b = if s.rd (E.Base.SERVO_STATE b) = 1 ∨ s.rd (E.Base.SERVO_STATE b) = 2 then y.setServo b 3 else y := by
  refine ⟨_, rfl, ?_⟩
  have hsome : (s.tb b).master ≠ none := by simpa [Option.isSome_iff_ne_none] using hm
  have hservo (z : BaseSt) : ((s.setTb b z).wr (E.Ptp.PORT_STATE b) 4).rd (E.Base.SERVO_STATE b) = s.rd (E.Base.SERVO_STATE b) := by
    rw [State.rd_wr_ne _ _ _ _ (by simp [E.Base.SERVO_STATE, E.Ptp.PORT_STATE, entN]; omega), State.rd_setTb]
  simp [State.announceLost, State.follows, State.role, hservo, hsome, hlate, show s.rd (E.Ptp.PTP_ROLE b) = 1 from hr]

/-- An ORDINARY clock that hears no master becomes one. -/
theorem State.announceLost_ordinary (hr : s.role b = 2) (hactive : s.rd E.Twin.TWIN_ROLE ≠ 1) (hservo : s.rd (E.Base.SERVO_STATE b) ≠ 4)
    (hlate : (s.tb b).announceAt + s.announceTimeout b ≤ s.now) :
    s.announceLost b = ((s.setTb b { s.tb b with master := none }).setServo b 4).wr (E.Ptp.PORT_STATE b) 6 := by
  simp [State.announceLost, State.follows, State.role, hservo, hlate, hactive, show s.rd (E.Ptp.PTP_ROLE b) = 2 from hr]

/-- Without a master a clock other than ORDINARY, and before the timeout any, stays as it is. -/
theorem State.announceLost_idle (h : ((s.tb b).master = none ∧ s.role b ≠ 2) ∨ s.now < (s.tb b).announceAt + s.announceTimeout b) :
    s.announceLost b = s := by
  rcases h with ⟨hnone, hr⟩ | hearly
  · have hkept : s.setTb b { s.tb b with master := none } = s := by
      conv_rhs => rw [← State.setTb_tb_self s b]
      rw [← hnone]
    simp [State.announceLost, hnone, hkept, show s.rd (E.Ptp.PTP_ROLE b) ≠ 2 from hr, State.role]
  · simp [State.announceLost, Nat.not_le.2 hearly]

/-! ## A master sends its Announce (R282) -/

theorem State.announceSend_eq (hp : portOf b port = true) (hactive : s.rd E.Twin.TWIN_ROLE ≠ 1)
    (hm : s.rd (E.Base.SERVO_STATE b) = 4 ∨ s.role b = 4) (hl : s.rd (E.Port.LINK_STATE port) ≠ 0) :
    s.announceSend b port = s.emitPtp b port false false (.announce (s.ownAnnounce b port)) := by
  simp [State.announceSend, State.sendsAsMaster, hp, hactive, hm, hl]

/-- What a frame that waits for egress leaves (R284, R305). -/
theorem State.emitPtp_net {event peer : Bool} {body : Body} (s : State) (b port : Nat) : ∃ f : TxFrame,
    f.cls = 2 ∧ f.event = event ∧ f.body = body ∧ s.emitPtp b port event peer body
      = { s with net := { s.net with ports := s.net.ports.modify {} port (fun p => { p with egress := p.egress ++ [f] }) } } :=
  ⟨_, rfl, rfl, rfl, rfl⟩

/-- The Announce of a master of its own base (R282, R293). -/
theorem State.ownAnnounce_own (hr : s.role b ≠ 4) :
    (s.ownAnnounce b port).clockClass = s.rd (E.Ptp.CLOCK_CLASS b) ∧ (s.ownAnnounce b port).stepsRemoved = 0 := by
  simp [State.ownAnnounce, State.announcedClass, hr]

/-- The Announce of BC_FROM_TB0 (R282). -/
theorem State.ownAnnounce_bc (hr : s.role b = 4) :
    (s.rd (E.Base.SYNC_STATE 0) = 1 → (s.ownAnnounce b port).clockClass = 7)
    ∧ (s.rd (E.Base.SYNC_STATE 0) = 2 → (s.ownAnnounce b port).clockClass = 248)
    ∧ ((s.tb 0).master.isSome = true → (s.ownAnnounce b port).stepsRemoved = s.rd (E.Ptp.STEPS_REMOVED 0) + 1) := by
  refine ⟨fun h => ?_, fun h => ?_, fun h => ?_⟩
  · simp [State.ownAnnounce, State.announcedClass, hr, h]
  · simp [State.ownAnnounce, State.announcedClass, hr, h]
  · obtain ⟨m, hm⟩ := Option.isSome_iff_exists.1 h
    simp [State.ownAnnounce, hr, hm]

/-! ## The commands -/

theorem State.announce_discarded (hp : portOf b port = true) (hd : a.domain ≠ s.rd (E.Ptp.PTP_DOMAIN b)) :
    Completes (.announceReceived at_ b port a) s (fun t => t.rd (E.Ptp.DISCARDED b) = min (2 ^ 32 - 1) (s.rd (E.Ptp.DISCARDED b) + 1)
      ∧ t.now = s.instant at_ ∧ Frame [] [E.Ptp.DISCARDED b] [] s t) := by
  have hexec : (s.advance at_).announceReceived b port a = (s.advance at_).inc (E.Ptp.DISCARDED b) := by
    simp [State.announceReceived, hp, hd]
  exact ⟨_, congrArg Host.Outcome.next hexec, State.rd_inc_self .., rfl, (Frame.refl ..).advance.inc (by simp)⟩

theorem State.announce_takes (hb : b < 3) (hp : portOf b port = true) (hd : a.domain = s.rd (E.Ptp.PTP_DOMAIN b)) (hr : s.role b = 1)
    (hm : (s.tb b).master = none ∨ ∃ m ∈ (s.tb b).master, sameClock m.source a.source = true ∨ betterMaster a m = true)
    (hsteps : a.stepsRemoved < 2 ^ 16) (hlo : -32768 ≤ a.utcOffset) (hhi : a.utcOffset < 32768) :
    Completes (.announceReceived at_ b port a) s (fun t => (t.tb b).master = some a ∧ (t.tb b).announceAt = s.instant at_
      ∧ t.rdB (E.Ptp.MASTER_ID b) = beBytes 10 a.source ∧ t.rdB (E.Ptp.GM_ID b) = beBytes 8 a.gm
      ∧ t.rd (E.Ptp.STEPS_REMOVED b) = a.stepsRemoved ∧ t.rdI (E.Base.UTC_OFFSET b) = a.utcOffset
      ∧ bitOf (t.rd (E.Base.LEAP b)) 0 = a.leap61 ∧ bitOf (t.rd (E.Base.LEAP b)) 1 = a.leap59
      ∧ ((s.tb b).master = none → t.rd (E.Ptp.PORT_STATE b) = 9)
      ∧ (∀ m ∈ (s.tb b).master, sameClock m.source a.source = false → s.rd (E.Base.SERVO_STATE b) = 2 → t.rd (E.Base.SERVO_STATE b) = 1)
      ∧ (∀ m ∈ (s.tb b).master, sameClock m.source a.source = true → t.rd (E.Base.SERVO_STATE b) = s.rd (E.Base.SERVO_STATE b))
      ∧ (∀ k < 3, k ≠ b → t.tb k = s.tb k) ∧ t.now = s.instant at_
      ∧ Frame [.time, .ledger] (announceEnts b ++ portEnts b) [45] s t) := by
  obtain ⟨t, ht, honward, hport, hacquires, hkept⟩ := State.announceReceived_takes (s := s.advance at_) hb hp hd hr hm
  obtain ⟨hmaster, hat, hid, hgm, hsr, hutc, h61, h59⟩ := (Followed.announced (s := s.advance at_) (b := b) hsteps hlo hhi).onward hb honward
  refine ⟨t, congrArg Host.Outcome.next ht, hmaster, hat, hid, hgm, hsr, hutc, h61, h59, hport, hacquires, hkept,
    ((OnBase.announced hb).trans honward.onBase).others, honward.now.trans State.announced_now, ?_⟩
  exact ((Frame.refl ..).advance.trans (State.announced_frame.mono (by simp) (fun _ he => List.mem_append_left _ he) (by simp))).trans
    (honward.frame.mono (by simp) (fun _ he => List.mem_append_right _ he) (by simp))

theorem State.announceTimeout_slave (hb : b < 3) (hr : s.role b = 1) (hm : (s.tb b).master.isSome = true)
    (hlate : (s.tb b).announceAt + s.announceTimeout b ≤ s.instant at_) :
    Completes (.announceReceiptTimeout at_ b) s (fun t => (t.tb b).master = none ∧ t.rd (E.Ptp.PORT_STATE b) = 4
      ∧ t.rd (E.Base.SERVO_STATE b) = (if s.rd (E.Base.SERVO_STATE b) = 1 ∨ s.rd (E.Base.SERVO_STATE b) = 2 then 3 else s.rd (E.Base.SERVO_STATE b))
      ∧ (∀ k < 3, k ≠ b → t.tb k = s.tb k) ∧ t.now = s.instant at_
      ∧ Frame [.time, .ledger] (portEnts b ++ [E.Base.FREQ_ADJ b]) [45] s t) := by
  obtain ⟨y, rfl, ht⟩ := State.announceLost_slave (s := s.advance at_) hr hm hlate
  have horphan := (Orphaned.of_advance (s := s) (at_ := at_) hb).portState (n := 4)
  generalize hy : State.wr _ (E.Ptp.PORT_STATE b) 4 = y at ht horphan
  have hport : y.rd (E.Ptp.PORT_STATE b) = 4 := by rw [← hy, State.rd_wr_self]; rfl
  have hservo : y.rd (E.Base.SERVO_STATE b) = s.rd (E.Base.SERVO_STATE b) := by
    rw [← hy, State.rd_wr_ne _ _ _ _ (by simp [E.Base.SERVO_STATE, E.Ptp.PORT_STATE, entN]; omega), State.rd_setTb, State.rd_advance]
  rw [State.rd_advance] at ht
  by_cases hsync : s.rd (E.Base.SERVO_STATE b) = 1 ∨ s.rd (E.Base.SERVO_STATE b) = 2
  · rw [if_pos hsync] at ht
    obtain ⟨hmaster, hothers, hnow, hframe⟩ := horphan.setServo (st := 3) hb
    exact ⟨_, congrArg Host.Outcome.next ht, hmaster, (State.rd_portState_setServo hb).trans hport,
      by rw [if_pos hsync, State.rd_setServo_self hb (by decide)], hothers, hnow, hframe⟩
  · rw [if_neg hsync] at ht
    obtain ⟨hmaster, hothers, hnow, hframe⟩ := horphan
    exact ⟨_, congrArg Host.Outcome.next ht, hmaster, hport, by rw [if_neg hsync, hservo], hothers, hnow, hframe⟩

theorem State.announceTimeout_ordinary (hb : b < 3) (hr : s.role b = 2) (hactive : s.rd E.Twin.TWIN_ROLE ≠ 1)
    (hservo : s.rd (E.Base.SERVO_STATE b) ≠ 4) (hlate : (s.tb b).announceAt + s.announceTimeout b ≤ s.instant at_) :
    Completes (.announceReceiptTimeout at_ b) s (fun t => (t.tb b).master = none ∧ t.rd (E.Ptp.PORT_STATE b) = 6
      ∧ t.rd (E.Base.SERVO_STATE b) = 4 ∧ (∀ k < 3, k ≠ b → t.tb k = s.tb k) ∧ t.now = s.instant at_
      ∧ Frame [.time, .ledger] (portEnts b ++ [E.Base.FREQ_ADJ b]) [45] s t) := by
  obtain ⟨hmaster, hothers, hnow, hframe⟩ := ((Orphaned.of_advance (s := s) (at_ := at_) hb).setServo (st := 4) hb).portState (n := 6)
  refine ⟨_, congrArg Host.Outcome.next (State.announceLost_ordinary (s := s.advance at_) hr hactive hservo hlate), hmaster, ?_, ?_, hothers, hnow,
    hframe⟩
  · rw [State.rd_wr_self]
    rfl
  · rw [State.rd_wr_ne _ _ _ _ (by simp [E.Base.SERVO_STATE, E.Ptp.PORT_STATE, entN]; omega)]
    exact State.rd_setServo_self hb (by decide)

theorem State.announce_sent (hp : portOf b port = true) (hactive : s.rd E.Twin.TWIN_ROLE ≠ 1)
    (hm : s.rd (E.Base.SERVO_STATE b) = 4 ∨ s.role b = 4) (hl : s.rd (E.Port.LINK_STATE port) ≠ 0) :
    Completes (.announceSend at_ b port) s (fun t =>
      (t.net.ports.fetch {} port).egress.length = (s.net.ports.fetch {} port).egress.length + 1
      ∧ ((t.net.ports.fetch {} port).egress.getLast?).map (fun f => (f.cls, f.event, f.body)) = some (2, false, .announce (s.ownAnnounce b port))
      ∧ (∀ k, k ≠ port → t.net.ports.fetch {} k = s.net.ports.fetch {} k) ∧ t.now = s.instant at_ ∧ Frame [.net] [] [] s t) := by
  have hsent : (s.advance at_).announceSend b port = (s.advance at_).emitPtp b port false false (.announce (s.ownAnnounce b port)) :=
    State.announceSend_eq (s := s.advance at_) hp hactive hm hl
  obtain ⟨f, hcls, hevent, hbody, hemit⟩ := (s.advance at_).emitPtp_net b port (event := false) (peer := false) (body := .announce (s.ownAnnounce b port))
  refine ⟨_, congrArg Host.Outcome.next (hsent.trans hemit), ?_, ?_, fun k hk => ?_, rfl, (Frame.refl ..).advance.with_net (by simp)⟩
  · simp
  · simp [hcls, hevent, hbody]
  · simp [hk]

end

/-- Settles O30: what follows a taken Announce touches neither the master nor the entries of its properties. -/
theorem mastersAreSelectedAndLost : Obligations.MastersAreSelectedAndLost := by
  unfold Obligations.MastersAreSelectedAndLost
  refine ⟨fun s at_ b port a _ hp hd => State.announce_discarded hp hd,
    fun s at_ b port a hb hp hd hr hm hsteps hlo hhi => State.announce_takes hb hp hd hr hm hsteps hlo hhi,
    fun s at_ b port a _ hp hd _ m hm hother hworse => ?_, fun s at_ b hb hr hm hlate => State.announceTimeout_slave hb hr hm hlate,
    fun s at_ b hb hr hactive hservo hlate => State.announceTimeout_ordinary hb hr hactive hservo hlate, fun s at_ b _ h => ?_,
    fun s at_ b port _ hp hactive hm hl a ha => ?_⟩
  · exact ⟨_, congrArg Host.Outcome.next (State.announceReceived_worse (s := s.advance at_) hp hd hm hother hworse), rfl, (Frame.refl ..).advance⟩
  · exact ⟨_, congrArg Host.Outcome.next (State.announceLost_idle (s := s.advance at_) h), rfl, (Frame.refl ..).advance⟩
  · subst ha
    obtain ⟨t, ht, hlength, hlast, hothers, hnow, hframe⟩ := State.announce_sent (at_ := at_) hp hactive hm hl
    exact ⟨t, ht, hlength, hlast, rfl, rfl, rfl, State.ownAnnounce_own, State.ownAnnounce_bc, hothers, hnow, hframe⟩

end Sys2Proof.Machine
end

section
/-!
O32. The statement gives the count of quenched frames 64 bits. QUENCH_DROPS is U32 (Table NET-13), so at its largest value it holds where
the statement asks for 2^32.
-/
namespace Sys2Proof.Machine.FullQuenchCount

/-- A frame of a source that the filter names. -/
def frame : EthFrame := { len := 64, dst := 0xFFFFFFFFFFFF, src := 0x020000000001, ether := 0x0800 }

/-- A module whose port 0 has a link and whose filter 0 covers the source at that port, its QUENCH_DROPS at the largest U32. -/
def state : State :=
  let s := { State.reset with od := State.reset.od.put E.Net.PLANT_MAC.key (.bytes (beBytes 6 0x020000000009)) }
  let s := ((s.wr (E.Port.LINK_STATE 0) 2).wr (E.Quench.FILTER_STATE 0) 1).wr (E.Quench.FILTER_PORTS 0) 1
  (s.wrB (E.Quench.FILTER_MATCH 0) ([1, 0, 0] ++ beBytes 6 0x020000000001)).wr (E.Port.QUENCH_DROPS 0) 0xFFFFFFFF

theorem admits : state.admitsFrame 0 0 frame := by
  unfold State.admitsFrame
  decide +kernel

theorem quenched : state.quenched 0 frame = some 0 := by decide +kernel

/-- The frame is dropped, and the full count stays full. -/
theorem quenchDrops_received : ((state.advance 0).frameReceived 0 false frame).rd (E.Port.QUENCH_DROPS 0) = 0xFFFFFFFF
    ∧ state.rd (E.Port.QUENCH_DROPS 0) = 0xFFFFFFFF := by decide +kernel

end Sys2Proof.Machine.FullQuenchCount
namespace Sys2Proof.Machine

/-- Refutes O32: a quenched frame at a port whose QUENCH_DROPS is full leaves it at 2^32 - 1. -/
theorem not_framesPassTheIngressPipeline : ¬ Obligations.FramesPassTheIngressPipeline := by
  unfold Obligations.FramesPassTheIngressPipeline
  rintro ⟨-, -, -, hquench, -⟩
  obtain ⟨t, ht, hdrops, -⟩ := hquench FullQuenchCount.state 0 0 false FullQuenchCount.frame FullQuenchCount.admits 0 FullQuenchCount.quenched
  obtain rfl : (FullQuenchCount.state.advance 0).frameReceived 0 false FullQuenchCount.frame = t := by injection ht
  obtain ⟨hafter, hbefore⟩ := FullQuenchCount.quenchDrops_received
  rw [hafter, hbefore] at hdrops
  exact absurd hdrops (by decide)

end Sys2Proof.Machine
end

section
/-!
SUPPORT. Ports of the network: what a frame that leaves a port touches, which queue of the egress is next, and the supervision of the
redundant networks (O33).
-/
namespace Sys2Proof.Machine

/-! ## One port changed -/

section
variable {ps : List Part} {es : List Ent} {rs : List Nat} {s x : State} {p k : Nat} {y : PortSt} {e : Ent}

@[simp] theorem State.port_setPort_self : (s.setPort p y).port p = y := by simp [State.port, State.setPort]

@[simp] theorem State.port_setPort_ne (h : k ≠ p) : (s.setPort p y).port k = s.port k := by simp [State.port, State.setPort, h]

@[simp] theorem State.port_advance (a : Nat) : (s.advance a).port k = s.port k := rfl

@[simp] theorem State.port_inc : (s.inc e).port k = s.port k := rfl

theorem Frame.setPort (h : Frame ps es rs s x) (hp : Part.net ∈ ps) : Frame ps es rs s (x.setPort p y) := h.with_net hp

end

/-! ## A frame leaves (R297, R300, R307) -/

section
variable {ps : List Part} {es : List Ent} {rs : List Nat} {s x : State} {p k : Nat} {f g : TxFrame} {rest : List RingEntry}

@[simp] theorem State.wire_sent_self : ((s.sent p f).port p).wire = some f := by simp [State.sent]

@[simp] theorem State.port_sent_ne (h : k ≠ p) : (s.sent p f).port k = s.port k := by simp [State.sent, h]

theorem State.rd_sent_self : (s.sent p f).rd (E.Port.TX_FRAMES p) = min (2 ^ 64 - 1) (s.rd (E.Port.TX_FRAMES p) + 1) :=
  State.rd_inc_self ..

theorem State.sent_seqPrp (s : State) (p : Nat) (f : TxFrame) : (s.sent p f).net.seqPrp = s.net.seqPrp := rfl

theorem State.sent_seqHsr (s : State) (p : Nat) (f : TxFrame) : (s.sent p f).net.seqHsr = s.net.seqHsr := rfl

/-- A frame that leaves on both ports of a pair (R300). -/
theorem State.port_sent_pair {a b : Nat} (h : a ≠ b) : (((s.sent a f).sent b f).port a).wire = some f
    ∧ (((s.sent a f).sent b f).port b).wire = some f ∧ ∀ k, k ≠ a → k ≠ b → ((s.sent a f).sent b f).port k = s.port k :=
  ⟨by simp [h], by simp, fun k ha hb => by simp [ha, hb]⟩

/-- The counts of the frames that the four ports send. -/
def txFramesEnts : List Ent := (List.range 4).map E.Port.TX_FRAMES

theorem mem_txFramesEnts (hp : p < 4) : E.Port.TX_FRAMES p ∈ txFramesEnts := List.mem_map.2 ⟨p, List.mem_range.2 hp, rfl⟩

theorem Frame.sent (h : Frame ps es rs s x) (hn : Part.net ∈ ps) (he : E.Port.TX_FRAMES p ∈ es) : Frame ps es rs s (x.sent p f) :=
  (h.setPort hn).inc he

/-- The marking of classes 1 and 0 (Table NET-4). -/
theorem State.marked_low (h : f.cls < 2) : s.marked f
    = { f with dscp := if f.cls = 1 then 16 else 0
               tci := if s.net.vlan = 0 then none else some ((if f.cls = 1 then 3 else 0) * 8192 + s.net.vlan) } := by
  obtain h0 | h1 : f.cls = 0 ∨ f.cls = 1 := by omega
  · simp [State.marked, marking, h0]
  · simp [State.marked, marking, h1]

@[simp] theorem State.marked_single : (s.marked f).single = f.single := rfl

theorem State.sendFrame_single (hf : f.single = true) : s.sendFrame p f = s.sent p (s.marked f) := by simp [State.sendFrame, hf]

/-- A frame of the plant network leaves on P1 and P2 with the sequence number of their RCT. -/
theorem State.sendFrame_plant (hf : f.single = false) (hp : p < 2) (hg : g = { s.marked f with seq := some s.net.seqPrp }) :
    s.sendFrame p f = { (s.sent 0 g).sent 1 g with
      net := { ((s.sent 0 g).sent 1 g).net with seqPrp := (s.net.seqPrp + 1) % 65536 } } := by
  subst hg
  simp only [State.sendFrame, State.marked_single, hf, hp, if_true, Bool.false_eq_true, if_false]
  rfl

/-- A frame of the ring leaves on P3 and P4 with the sequence number of their HSR tag. -/
theorem State.sendFrame_ring (hf : f.single = false) (hp : 2 ≤ p) (hg : g = { s.marked f with seq := some s.net.seqHsr }) :
    ∃ q, s.sendFrame p f = { (s.sent 2 g).sent 3 g with
      net := { ((s.sent 2 g).sent 3 g).net with seqHsr := (s.net.seqHsr + 1) % 65536, supSeq := q } } := by
  subst hg
  simp only [State.sendFrame, State.marked_single, hf, Nat.not_lt.2 hp, Bool.false_eq_true, if_false]
  exact ⟨_, rfl⟩

@[simp] theorem State.sendFrame_now : (s.sendFrame p f).now = s.now := by
  unfold State.sendFrame
  dsimp only
  split <;> rfl

theorem Frame.sendFrame (h : Frame ps es rs s x) (hp : p < 4) (hn : Part.net ∈ ps) (he : ∀ e ∈ txFramesEnts, e ∈ es) :
    Frame ps es rs s (x.sendFrame p f) := by
  have hsent {x : State} {q : Nat} {g : TxFrame} (h : Frame ps es rs s x) (hq : q < 4) : Frame ps es rs s (x.sent q g) :=
    h.sent hn (he _ (mem_txFramesEnts hq))
  cases hf : f.single with
  | true =>
    rw [State.sendFrame_single hf]
    exact hsent h hp
  | false =>
    obtain hp | hp := Nat.lt_or_ge p 2
    · rw [State.sendFrame_plant hf hp rfl]
      exact (hsent (hsent h (by omega)) (by omega)).with_net hn
    · obtain ⟨q, hq⟩ := State.sendFrame_ring (s := x) hf hp rfl
      rw [hq]
      exact (hsent (hsent h (by omega)) (by omega)).with_net hn

/-- The head of a transmit ring leaves; classes below 3 pass no shaper. -/
theorem State.sendRing_low (hq : (s.ring k).q = .tx f :: rest) (hw : (s.ring k).waiting = []) (hc : f.cls < 2) :
    s.sendRing p k = (s.setRing k { s.ring k with tail := ((s.ring k).tail + 1) % 65536, q := rest }).sendFrame p f := by
  have hcls : f.cls ≠ 3 := by omega
  simp [State.sendRing, State.pop_of_none_waiting hq hw, hcls]

end

/-! ## The next frame of a port's egress (R306, R311) -/

section
variable {s : State} {p : Nat} {f : EthFrame} {e : RingEntry} {rest : List RingEntry}

theorem State.portTransmit_idle (h : 4 ≤ p ∨ s.rd (E.Port.LINK_STATE p) = 0 ∨ s.egressNext p = none) : s.portTransmit p = s := by
  unfold State.portTransmit
  split
  · rfl
  · next hup =>
    obtain ⟨hp, hl⟩ : p < 4 ∧ s.rd (E.Port.LINK_STATE p) ≠ 0 := by simpa using hup
    obtain h | h | h := h
    · omega
    · exact absurd h hl
    · simp [h]

/-- No safety frame waits at the port. -/
theorem State.no_safe_waits (hs : 2 ≤ p ∨ (s.ring (33 + p)).q = []) : (decide (p < 2) && !(s.ring (33 + p)).q.isEmpty) = false := by
  obtain hp | hq := hs
  · simp [Nat.not_lt.2 hp]
  · simp [hq]

theorem State.egressNext_forward (hs : 2 ≤ p ∨ (s.ring (33 + p)).q = []) (hf : (s.port p).forward = [f]) (hc : classOf f = 3) :
    s.egressNext p = some (.forward 3) := by
  simp only [State.egressNext, State.no_safe_waits hs, Bool.false_and]
  simp [hf, hc]

theorem State.egressNext_txl (hs : 2 ≤ p ∨ (s.ring (33 + p)).q = []) (hf : (s.port p).forward = []) (he : (s.port p).egress = [])
    (hh : (s.ring (4 * p)).q = []) (hl : (s.ring (4 * p + 1)).q = e :: rest) : s.egressNext p = some .txl := by
  simp only [State.egressNext, State.no_safe_waits hs, Bool.false_and]
  simp [State.headClass, hf, he, hh, hl]

theorem State.portTransmit_forward (hp : p < 4) (hl : s.rd (E.Port.LINK_STATE p) ≠ 0) (hs : 2 ≤ p ∨ (s.ring (33 + p)).q = [])
    (hf : (s.port p).forward = [f]) (hc : classOf f = 3) :
    s.portTransmit p = (s.setPort p { s.port p with forward := [], wireFwd := some f }).inc (E.Port.TX_FRAMES p) := by
  simp [State.portTransmit, hp, hl, State.egressNext_forward hs hf hc, hf, hc, takeFirst]

theorem State.portTransmit_txl (hp : p < 4) (hl : s.rd (E.Port.LINK_STATE p) ≠ 0) (hn : s.egressNext p = some .txl) :
    s.portTransmit p = s.sendRing p (4 * p + 1) := by
  simp [State.portTransmit, hp, hl, hn]

end

/-! ## Supervision, the ring, the node table and cables (R298, R299, R304) -/

section
variable {s : State} {hsr : Bool} {p : Nat}

/-- The instant of the last supervision frame of a pair. -/
def State.supLast (s : State) (hsr : Bool) : Option Nat := if hsr then s.net.supHsr else s.net.supPrp

/-- A supervision frame of a pair is due. -/
def State.supDue (s : State) (hsr : Bool) : Bool := (s.supLast hsr).all (fun t => decide (t + s.lifeCheck hsr ≤ s.now))

/-- The supervision frame of a pair, from the address of its first port (Table NET-2). -/
def State.supFrame (s : State) (p : Nat) : TxFrame :=
  { cls := 2, dst := 0x01154E000100, ether := 0x88FB, body := .bytes (beBytes 6 (s.macOf p)) }

/-- The instant of a supervision frame is noted for its pair. -/
def State.noteSup (s : State) (hsr : Bool) : State :=
  { s with net := if hsr then { s.net with supHsr := some s.now } else { s.net with supPrp := some s.now } }

@[simp] theorem State.port_noteSup (k : Nat) : (s.noteSup hsr).port k = s.port k := by cases hsr <;> rfl

@[simp] theorem State.supLast_noteSup : (s.noteSup hsr).supLast hsr = some s.now := by cases hsr <;> rfl

theorem State.supervisionSend_eq (hp : p = if hsr then 2 else 0) : s.supervisionSend hsr
    = if s.supDue hsr then (s.setPort p { s.port p with egress := (s.port p).egress ++ [s.supFrame p] }).noteSup hsr else s := by
  subst hp
  unfold State.supervisionSend State.supDue State.supLast
  cases hsr with
  | true => cases s.net.supHsr <;> rfl
  | false => cases s.net.supPrp <;> rfl

/-- The own supervision frame came back within two intervals (R304). -/
def State.cameBack (s : State) (x : Option Nat) : Bool := x.any (fun v => decide (s.now ≤ v + 2 * s.lifeCheck true))

/-- RING_STATE as the returns of the own supervision frame show it (R304). -/
def State.ringSeen (s : State) : Nat := if s.cameBack s.net.supBackA && s.cameBack s.net.supBackB then 0 else 1

theorem State.ringSeen_lt : s.ringSeen < 2 := by
  unfold State.ringSeen
  split <;> decide

theorem State.ringCheck_eq : s.ringCheck
    = if s.rd E.Net.RING_STATE = s.ringSeen then s else (s.wr E.Net.RING_STATE s.ringSeen).log 0x07 0x01 (vU8 s.ringSeen) := by
  unfold State.ringCheck State.ringSeen State.cameBack
  cases s.net.supBackA <;> cases s.net.supBackB <;> rfl

/-- A node was seen within the forget time (Table NET-2). -/
def State.seenLately (s : State) (x : Option Nat) : Bool := x.any (fun v => decide (s.now < v + 1000000 * s.rd E.Net.PRP_NODE_FORGET_TIME))

/-- The nodes that stay in the node table (R299). -/
def State.nodesKept (s : State) : List NodeEntry := s.net.nodes.filter (fun n => s.seenLately n.seenA || s.seenLately n.seenB)

theorem State.nodeForget_eq : s.nodeForget = { s with net := { s.net with nodes := s.nodesKept } }.countNodes := by
  refine congrArg (fun l => State.countNodes { s with net := { s.net with nodes := l } }) (List.filter_congr fun n _ => ?_)
  cases n.seenA <;> cases n.seenB <;> rfl

theorem State.rd_countNodes : s.countNodes.rd E.Net.PRP_NODES = (s.net.nodes.filter (fun n => !n.hsr)).length % 65536
    ∧ s.countNodes.rd E.Net.HSR_NODES = (s.net.nodes.filter (fun n => n.hsr)).length % 65536 := by
  unfold State.countNodes
  exact ⟨by rw [State.rd_wr_ne _ _ _ _ (by decide), State.rd_wr_self]; rfl, State.rd_wr_self ..⟩

@[simp] theorem State.countNodes_net : s.countNodes.net = s.net := rfl

theorem State.cableTest_down (hp : p < 4) (hl : s.rd (E.Port.LINK_STATE p) = 0) (he : s.on (E.Port.PORT_ENABLE p) = true) (pairs : Nat) :
    s.cableTest p pairs = s.wr (E.Port.CABLE_STATE p) pairs := by
  simp [State.cableTest, hp, hl, he]

theorem State.cableTest_up (hl : s.rd (E.Port.LINK_STATE p) ≠ 0) (pairs : Nat) : s.cableTest p pairs = s := by
  simp [State.cableTest, hl]

end

/-! ## The commands -/

section
variable {s : State} {at_ p : Nat} {f g : TxFrame} {rest : List RingEntry}

/-- The head of TXL leaves when no other frame waits (R297, R300, R311). -/
theorem State.portTransmit_low (hp : p < 4) (hl : s.rd (E.Port.LINK_STATE p) ≠ 0) (hs : 2 ≤ p ∨ (s.ring (33 + p)).q = [])
    (hfwd : (s.port p).forward = []) (heg : (s.port p).egress = []) (hh : (s.ring (4 * p)).q = [])
    (hq : (s.ring (4 * p + 1)).q = .tx f :: rest) (hw : (s.ring (4 * p + 1)).waiting = []) (hc : f.cls < 2) (hg : g = s.marked f) :
    Completes (.portTransmit at_ p) s (fun t => (t.ring (4 * p + 1)).q = rest
      ∧ (f.single = true → (t.port p).wire = some g ∧ t.net.seqPrp = s.net.seqPrp ∧ t.net.seqHsr = s.net.seqHsr ∧ (∀ k, k ≠ p → t.port k = s.port k)
          ∧ t.rd (E.Port.TX_FRAMES p) = min (2 ^ 64 - 1) (s.rd (E.Port.TX_FRAMES p) + 1))
      ∧ (f.single = false → p < 2 → (t.port 0).wire = some { g with seq := some s.net.seqPrp } ∧ (t.port 1).wire = some { g with seq := some s.net.seqPrp }
          ∧ t.net.seqPrp = (s.net.seqPrp + 1) % 65536 ∧ t.port 2 = s.port 2 ∧ t.port 3 = s.port 3)
      ∧ (f.single = false → 2 ≤ p → (t.port 2).wire = some { g with seq := some s.net.seqHsr } ∧ (t.port 3).wire = some { g with seq := some s.net.seqHsr }
          ∧ t.net.seqHsr = (s.net.seqHsr + 1) % 65536 ∧ t.port 0 = s.port 0 ∧ t.port 1 = s.port 1)
      ∧ t.now = s.instant at_ ∧ Frame [.net] txFramesEnts [4 * p + 1] s t) := by
  have hnext := State.egressNext_txl (s := s.advance at_) hs hfwd heg hh hq
  have hexec := (State.portTransmit_txl (s := s.advance at_) hp hl hnext).trans (State.sendRing_low (s := s.advance at_) hq hw hc)
  generalize hx : (s.advance at_).setRing (4 * p + 1) _ = x at hexec
  have hring : (x.ring (4 * p + 1)).q = rest := by rw [← hx, State.ring_setRing_self]
  have hnow : x.now = s.instant at_ := by rw [← hx]; rfl
  have hnet : x.net = s.net := by rw [← hx]; rfl
  have hcount : x.rd (E.Port.TX_FRAMES p) = s.rd (E.Port.TX_FRAMES p) := by rw [← hx]; rfl
  have hmarked : x.marked f = g := by rw [hg, ← hx]; rfl
  have hport (k : Nat) : x.port k = s.port k := by rw [← hx]; rfl
  have hframe : Frame [.net] txFramesEnts [4 * p + 1] s x := by
    rw [← hx]
    exact (Frame.refl ..).advance.setRing (by simp)
  have hsend : Frame [.net] txFramesEnts [] x (x.sendFrame p f) := (Frame.refl ..).sendFrame hp (by simp) (fun _ h => h)
  refine ⟨_, congrArg Host.Outcome.next hexec, ?_, fun hf => ?_, fun hf hp2 => ?_, fun hf hp2 => ?_, ?_,
    hframe.trans (hsend.mono (fun _ h => h) (fun _ h => h) (by simp))⟩
  · rw [hsend.2.2.2 _ (by simp), hring]
  · rw [State.sendFrame_single hf, hmarked]
    exact ⟨State.wire_sent_self, (State.sent_seqPrp ..).trans (congrArg NetSt.seqPrp hnet), (State.sent_seqHsr ..).trans (congrArg NetSt.seqHsr hnet), fun k hk => (State.port_sent_ne hk).trans (hport k),
      State.rd_sent_self.trans (by rw [hcount])⟩
  · rw [State.sendFrame_plant hf hp2 rfl, hmarked, hnet]
    obtain ⟨h0, h1, hothers⟩ := State.port_sent_pair (s := x) (f := { g with seq := some s.net.seqPrp }) (a := 0) (b := 1) (by decide)
    exact ⟨h0, h1, rfl, (hothers 2 (by decide) (by decide)).trans (hport 2), (hothers 3 (by decide) (by decide)).trans (hport 3)⟩
  · obtain ⟨q, hq⟩ := State.sendFrame_ring (s := x) hf hp2 rfl
    rw [hq, hmarked, hnet]
    obtain ⟨h2, h3, hothers⟩ := State.port_sent_pair (s := x) (f := { g with seq := some s.net.seqHsr }) (a := 2) (b := 3) (by decide)
    exact ⟨h2, h3, rfl, (hothers 0 (by decide) (by decide)).trans (hport 0), (hothers 1 (by decide) (by decide)).trans (hport 1)⟩
  · rw [State.sendFrame_now, hnow]

theorem State.supervisionSend_completes {hsr : Bool} :
    Completes (.supervisionSend at_ hsr) s (fun t =>
      ((s.advance at_).supDue hsr = true →
        ((t.port (if hsr then 2 else 0)).egress.getLast?).map (fun f => (f.cls, f.dst, f.ether, f.body))
          = some (2, 0x01154E000100, 0x88FB, .bytes (beBytes 6 (s.macOf (if hsr then 2 else 0))))
        ∧ (t.port (if hsr then 2 else 0)).egress.length = (s.port (if hsr then 2 else 0)).egress.length + 1
        ∧ t.supLast hsr = some (s.instant at_) ∧ (∀ k, k ≠ (if hsr then 2 else 0) → t.port k = s.port k))
      ∧ ((s.advance at_).supDue hsr = false → t.net = s.net) ∧ t.now = s.instant at_ ∧ Frame [.net] [] [] s t) := by
  refine ⟨_, congrArg Host.Outcome.next (State.supervisionSend_eq (s := s.advance at_) rfl), fun h => ?_, fun h => ?_, ?_, ?_⟩
  · rw [if_pos h]
    refine ⟨?_, by simp, State.supLast_noteSup, fun k hk => by simp [hk]⟩
    rw [State.port_noteSup, State.port_setPort_self, List.getLast?_concat]
    rfl
  · simp [h]
  · split <;> rfl
  · exact Frame.ite (fun _ => ((Frame.refl ..).advance.setPort (by simp)).with_net (by simp)) (fun _ => (Frame.refl ..).advance)

theorem State.ringCheck_completes :
    Completes (.ringCheck at_) s (fun t => t.rd E.Net.RING_STATE = (s.advance at_).ringSeen
      ∧ (t.rd E.Net.RING_STATE = s.rd E.Net.RING_STATE → Frame [] [] [] s t)
      ∧ t.now = s.instant at_ ∧ Frame [.ledger] (E.Net.RING_STATE :: ledgerEnts) [28] s t) := by
  refine ⟨_, congrArg Host.Outcome.next State.ringCheck_eq, ?_⟩
  by_cases hsame : (s.advance at_).rd E.Net.RING_STATE = (s.advance at_).ringSeen
  · rw [if_pos hsame]
    exact ⟨hsame, fun _ => (Frame.refl ..).advance, rfl, (Frame.refl ..).advance⟩
  · rw [if_neg hsame]
    have hlt := State.ringSeen_lt (s := s.advance at_)
    have hrd (n : Nat) (hn : n < 2) (p : List Byte) : (((s.advance at_).wr E.Net.RING_STATE n).log 0x07 0x01 p).rd E.Net.RING_STATE = n := by
      rw [State.rd, State.get_log _ _ _ (by decide), ← State.rd, State.rd_wr_self]
      exact Nat.mod_eq_of_lt (hn.trans (by decide))
    have hnew := hrd _ hlt (vU8 (s.advance at_).ringSeen)
    exact ⟨hnew, fun h => absurd (h.symm.trans hnew) hsame, by simp [State.instant], ((Frame.refl ..).advance.wr (by simp)).log (by simp) (by simp)⟩

end

/-- Settles O33: the next frame is chosen by the order of the queues, and the supervision of the networks reads their last sights alone. -/
theorem portsTransmitAndSupervise : Obligations.PortsTransmitAndSupervise := by
  unfold Obligations.PortsTransmitAndSupervise
  refine ⟨fun s at_ p h => ?_, fun s at_ p hp hl hs f hf hc => ?_, fun s at_ p hp hl hs hfwd heg hh f rest hq hw hc g hg => ?_,
    fun s at_ hsr last hlast due hdue p hp => ?_, fun s at_ back hback => ?_, fun s at_ seen hseen => ?_,
    fun s at_ p pairs hp hl he => ?_, fun s at_ p pairs hp hl => ?_⟩
  · exact ⟨_, congrArg Host.Outcome.next (State.portTransmit_idle (s := s.advance at_) h), rfl, (Frame.refl ..).advance⟩
  · refine ⟨_, congrArg Host.Outcome.next (State.portTransmit_forward (s := s.advance at_) hp hl hs hf hc), ?_, State.rd_inc_self .., fun k hk => ?_,
      rfl, ((Frame.refl ..).advance.setPort (by simp)).inc (by simp)⟩
    · simp
    · simp [hk]
  · exact State.portTransmit_low hp hl hs hfwd heg hh hq hw hc (hg.trans (State.marked_low hc).symm)
  · obtain rfl : due = (s.advance at_).supDue hsr := by
      rw [hdue, hlast]
      rfl
    subst hp
    exact State.supervisionSend_completes
  · subst hback
    exact State.ringCheck_completes
  · subst hseen
    refine ⟨_, congrArg Host.Outcome.next (State.nodeForget_eq (s := s.advance at_)), rfl, ?_, ?_, rfl, rfl, rfl,
      (((Frame.refl ..).advance.with_net (by simp)).wr (by simp)).wr (by simp)⟩
    · exact State.rd_countNodes.1
    · exact State.rd_countNodes.2
  · exact ⟨_, congrArg Host.Outcome.next (State.cableTest_down (s := s.advance at_) hp hl he pairs), State.rd_wr_self .., rfl,
      (Frame.refl ..).advance.wr (by simp)⟩
  · exact ⟨_, congrArg Host.Outcome.next (State.cableTest_up (s := s.advance at_) hl pairs), rfl, (Frame.refl ..).advance⟩

end Sys2Proof.Machine
end

section
/-!
O34. The statement takes "started" as the state says it before the instant of the command. The RESUME boundary may lie between the two
(R558): then the module has started at the instant of the cycle grid, and the first cycle starts there.
-/
namespace Sys2Proof.Machine.FirstCycle

/-- An ACTIVE module at TB3 0 with the ECX master enabled and its RESUME boundary at 1 ms, a whole CYCLE_PERIOD. -/
def state : State :=
  let s := { State.reset with power := { State.reset.power with boot := none, resumeAt := some 1000000 } }
  (s.wr E.Twin.TWIN_ROLE 0).wr E.Ecx.ECX_ENABLE 1

theorem not_started : state.started = false := rfl

/-- At 1 ms the module is the master, which it was not. -/
theorem masterState_cycleStart : ((state.advance 1000000).cycleStart).rd E.Ecx.MASTER_STATE = 1 ∧ state.rd E.Ecx.MASTER_STATE = 0 := by
  decide +kernel

end Sys2Proof.Machine.FirstCycle
namespace Sys2Proof.Machine

/-- Refutes O34: a module that starts between the last instant and that of the command starts its first cycle. -/
theorem not_theEcxMasterCyclesItsStations : ¬ Obligations.TheEcxMasterCyclesItsStations := by
  unfold Obligations.TheEcxMasterCyclesItsStations
  rintro ⟨-, -, hidle, -⟩
  obtain ⟨t, ht, -, hframe⟩ := hidle FirstCycle.state 1000000 (.inr (.inr (.inl FirstCycle.not_started)))
  obtain rfl : (FirstCycle.state.advance 1000000).cycleStart = t := by injection ht
  obtain ⟨hafter, hbefore⟩ := FirstCycle.masterState_cycleStart
  have hkept := hframe.rd (e := E.Ecx.MASTER_STATE) (by simp) (by simp) (by simp)
  rw [hafter, hbefore] at hkept
  exact absurd hkept (by decide)

end Sys2Proof.Machine
end

section
/-!
SUPPORT. CAN channels: a channel or an object of it changed, and what an entry reads after an operation that does not touch it (O35 to O38).
-/
namespace Sys2Proof.Machine

section
variable {ps : List Part} {es : List Ent} {rs : List Nat} {s x : State} {c d o p a n : Nat} {h : CanSt} {y : CanObjSt} {e : Ent}

theorem State.chan_congr (hx : x.can = s.can) (d : Nat) : x.chan d = s.chan d := by simp [State.chan, hx]

@[simp] theorem State.chan_advance : (s.advance a).chan d = s.chan d := rfl
@[simp] theorem State.chan_wr : (s.wr e n).chan d = s.chan d := rfl
@[simp] theorem State.chan_inc : (s.inc e).chan d = s.chan d := rfl
@[simp] theorem State.obj_advance : (s.advance a).obj d o = s.obj d o := rfl
@[simp] theorem State.obj_wr : (s.wr e n).obj d o = s.obj d o := rfl
@[simp] theorem State.obj_inc : (s.inc e).obj d o = s.obj d o := rfl

@[simp] theorem State.chan_setChan_self : (s.setChan c h).chan c = h := by simp [State.chan, State.setChan]
@[simp] theorem State.chan_setChan_ne (hd : d ≠ c) : (s.setChan c h).chan d = s.chan d := by simp [State.chan, State.setChan, hd]
@[simp] theorem State.now_setChan : (s.setChan c h).now = s.now := rfl
@[simp] theorem State.rd_setChan : (s.setChan c h).rd e = s.rd e := rfl
@[simp] theorem State.ring_setChan (k : Nat) : (s.setChan c h).ring k = s.ring k := rfl

/-- The objects of a channel that is replaced are those of the new one. -/
theorem State.obj_setChan_self : (s.setChan c h).obj c o = h.objs.fetch {} o := by simp [State.obj]

@[simp] theorem State.chan_setObj_self : (s.setObj c o y).chan c = { s.chan c with objs := (s.chan c).objs.store {} o y } := by
  simp [State.setObj]
@[simp] theorem State.chan_setObj_ne (hd : d ≠ c) : (s.setObj c o y).chan d = s.chan d := by simp [State.setObj, hd]
@[simp] theorem State.obj_setObj_self : (s.setObj c o y).obj c o = y := by simp [State.obj]
@[simp] theorem State.obj_setObj_ne (hp : p ≠ o) : (s.setObj c o y).obj c p = s.obj c p := by simp [State.obj, hp]
@[simp] theorem State.now_setObj : (s.setObj c o y).now = s.now := rfl
@[simp] theorem State.rd_setObj : (s.setObj c o y).rd e = s.rd e := rfl
@[simp] theorem State.ring_setObj (k : Nat) : (s.setObj c o y).ring k = s.ring k := rfl

theorem Frame.setChan (hf : Frame ps es rs s x) (hp : Part.can ∈ ps) : Frame ps es rs s (x.setChan c h) := hf.with_can hp
theorem Frame.setObj (hf : Frame ps es rs s x) (hp : Part.can ∈ ps) : Frame ps es rs s (x.setObj c o y) := hf.with_can hp

/-- A command's operation begins at the instant of the command. -/
theorem Frame.of_advance (hf : Frame ps es rs (s.advance a) x) : Frame ps es rs s x := (Frame.refl ..).advance.trans hf

/-- An entry of the CAN channels is no entry of a ring. -/
theorem Frame.rd_can (hf : Frame ps es rs s x) (he : 0x3000 ≤ e.key / 256 ∧ ∀ f ∈ es, e.key ≠ f.key) (hp : Part.rt ∉ ps := by simp)
    (hr : ∀ r ∈ rs, r < 48 := by simp <;> omega) : x.rd e = s.rd e :=
  hf.rd hp he.2 fun r hm => by have := hr r hm; omega

end

end Sys2Proof.Machine
end

section
/-!
SUPPORT. RXQ and the events of a CAN channel (R343, R347, R355): they change a channel in nothing but the count of frames lost.
-/
namespace Sys2Proof.Machine

/-- From `s` to `t` channel `c` differs at most in the count of frames lost to RXQ and in its records of collisions, and every other channel stands. -/
structure ChanKept (c : Nat) (s t : State) : Prop where
  self : ∃ n r, t.chan c = { s.chan c with lost := n, collRec := r }
  other : ∀ d, d ≠ c → t.chan d = s.chan d

section
variable {ps : List Part} {es : List Ent} {rs : List Nat} {s x y : State} {c o k : Nat} {b : List Byte} {e : Ent}

theorem ChanKept.refl (c : Nat) (s : State) : ChanKept c s s := ⟨⟨_, _, rfl⟩, fun _ _ => rfl⟩

theorem ChanKept.trans (h : ChanKept c s x) (g : ChanKept c x y) : ChanKept c s y := by
  obtain ⟨_, _, hn⟩ := h.self
  obtain ⟨m, r, hm⟩ := g.self
  exact ⟨⟨m, r, by rw [hm, hn]⟩, fun d hd => (g.other d hd).trans (h.other d hd)⟩

theorem ChanKept.of_can (h : x.can = s.can) : ChanKept c s x :=
  ⟨⟨_, _, State.chan_congr h c⟩, fun d _ => State.chan_congr h d⟩

theorem ChanKept.obj (h : ChanKept c s x) (d o : Nat) : x.obj d o = s.obj d o := by
  by_cases hd : d = c
  · subst hd
    obtain ⟨_, _, hn⟩ := h.self
    rw [State.obj, hn, State.obj]
  · rw [State.obj, h.other d hd, State.obj]

theorem ChanKept.overrunEvent (c : Nat) (s : State) : ChanKept c s (s.overrunEvent c) := by
  unfold State.overrunEvent
  dsimp only
  split
  · exact ChanKept.trans (x := s.setChan c { s.chan c with lost := 0 }) ⟨⟨0, _, State.chan_setChan_self⟩, fun _ => State.chan_setChan_ne⟩
      (.of_can (State.place_can ..))
  · exact .refl c s

theorem ChanKept.rxq (c : Nat) (s : State) (b : List Byte) : ChanKept c s (s.rxq c b).1 := by
  unfold State.rxq
  split
  · exact .refl c s
  · exact (ChanKept.overrunEvent c s).trans (.of_can (State.push_fst_can ..))

theorem ChanKept.canEvent (c : Nat) (s : State) (item id : Nat) : ChanKept c s (s.canEvent c item id) :=
  (ChanKept.rxq c s _).trans (.of_can (State.log_can ..))

@[simp] theorem State.now_overrunEvent : (s.overrunEvent c).now = s.now := by
  unfold State.overrunEvent
  dsimp only
  split
  · exact State.place_now ..
  · rfl

@[simp] theorem State.now_rxq : (s.rxq c b).1.now = s.now := by
  unfold State.rxq
  split
  · rfl
  · simp

@[simp] theorem State.now_canEvent (item id : Nat) : (s.canEvent c item id).now = s.now := by simp [State.canEvent]

theorem Frame.overrunEvent (h : Frame ps es rs s x) (hp : Part.can ∈ ps) (hr : 17 + 2 * c ∈ rs) : Frame ps es rs s (x.overrunEvent c) :=
  .ite (fun _ => (h.setChan hp).place hr) fun _ => h

theorem Frame.rxq (h : Frame ps es rs s x) (hp : Part.can ∈ ps) (hr : 17 + 2 * c ∈ rs) : Frame ps es rs s (x.rxq c b).1 := by
  unfold State.rxq
  split
  · exact h
  · exact (h.overrunEvent hp hr).push hr

theorem Frame.canEvent {item id : Nat} (h : Frame ps es rs s x) (hp : ∀ p ∈ [Part.can, .ledger], p ∈ ps) (hr : ∀ r ∈ [17 + 2 * c, 28], r ∈ rs) :
    Frame ps es rs s (x.canEvent c item id) :=
  (h.rxq (hp _ (by simp)) (hr _ (by simp))).log (hp _ (by simp)) (hr _ (by simp))

/-! ## An entry of RXQ where it has room -/

theorem ringDepth_rxq (hc : c < 4) : ringDepth (17 + 2 * c) = 64 ∧ ringPolicy (17 + 2 * c) = .drop := by
  have hlow : ¬ 17 + 2 * c < 16 := by omega
  have hcan : 17 + 2 * c < 24 := by omega
  simp [ringDepth, ringPolicy, hlow, hcan]

/-- With nothing lost before, an ACTIVE module puts the entry at the end of RXQ (R347). -/
theorem State.rxq_of_room (hc : c < 4) (ha : s.active = true) (hl : (s.chan c).lost = 0) (hf : s.fill (17 + 2 * c) < 64) :
    s.rxq c b = (s.append (17 + 2 * c) (.bytes b), false) := by
  obtain ⟨hdepth, hpol⟩ := ringDepth_rxq hc
  have hroom : s.room (17 + 2 * c) 1 = true := State.room_of_fill_lt (hdepth ▸ hf)
  simp [State.rxq, ha, State.overrunEvent, hl, State.push, hpol, hroom]

/-- Entries of RXQ leave it to its consumer alone: what stood on the ring stands before what an event adds. -/
theorem State.prefix_push (hk : ringPolicy k = .drop) (e : RingEntry) : (s.ring k).q <+: ((s.push k e).1.ring k).q := by
  change _ <+: ((s.place k e).ring k).q
  rw [State.ring_place_self _ _ _ (.inr hk)]
  split
  · exact List.prefix_append ..
  · exact List.prefix_refl _

theorem State.prefix_rxq (hc : c < 4) : (s.ring (17 + 2 * c)).q <+: ((s.rxq c b).1.ring (17 + 2 * c)).q := by
  have hpol := (ringDepth_rxq hc).2
  have hover : (s.ring (17 + 2 * c)).q <+: ((s.overrunEvent c).ring (17 + 2 * c)).q := by
    unfold State.overrunEvent
    dsimp only
    split
    · exact State.prefix_push (s := s.setChan c { s.chan c with lost := 0 }) hpol _
    · exact List.prefix_refl _
  unfold State.rxq
  split
  · exact List.prefix_refl _
  · exact hover.trans (State.prefix_push hpol _)

theorem State.prefix_canEvent (hc : c < 4) (item id : Nat) : (s.ring (17 + 2 * c)).q <+: ((s.canEvent c item id).ring (17 + 2 * c)).q := by
  rw [State.canEvent, State.log, State.ring_logAt_ne _ _ _ _ _ (by omega)]
  exact State.prefix_rxq hc

end

end Sys2Proof.Machine
end

section
/-!
SUPPORT. CHANNEL_STATE and the next frame of a CAN channel (R337, Table CAN-7).
-/
namespace Sys2Proof.Machine

section
variable {ps : List Part} {es : List Ent} {rs : List Nat} {s x : State} {c d o : Nat} {e : Ent}

/-! ## CHANNEL_STATE -/

/-- The CHANNEL_STATE that `canState` writes. -/
def State.nextChannelState (s : State) (c : Nat) : Nat :=
  if (s.chan c).mode = 0 || !(s.chan c).integrated then 0
  else if !s.active then 5
  else if (s.chan c).mode = 2 then 4
  else if s.rd (E.Can.CHANNEL_STATE c) = 3 then 3
  else if 127 < s.rd (E.Can.TEC c) || 127 < s.rd (E.Can.REC c) then 2
  else 1

/-- CHANNEL_STATE as `canState` writes it, before the event that the change may be. -/
def State.stateNoted (s : State) (c : Nat) : State := s.wr (E.Can.CHANNEL_STATE c) (s.nextChannelState c)

/-- The change to ERROR_PASSIVE is an event and recorded; the return to ERROR_ACTIVE is an event (R355, Table CAN-5). -/
theorem State.canState_cases (s : State) (c : Nat) :
    (s.nextChannelState c = 2 ∧ s.canState c = (s.stateNoted c).canEvent c 3 0)
    ∨ (∃ b, s.canState c = ((s.stateNoted c).rxq c b).1) ∨ s.canState c = s.stateNoted c := by
  have heq : s.canState c = if s.rd (E.Can.CHANNEL_STATE c) != 2 && s.nextChannelState c = 2 then (s.stateNoted c).canEvent c 3 0
      else if s.rd (E.Can.CHANNEL_STATE c) = 2 && s.nextChannelState c = 1 then
        ((s.stateNoted c).rxq c (rxqEntry 3 0 4 0 0 s.now [])).1
      else s.stateNoted c := rfl
  rw [heq]
  split
  next hp =>
    simp only [Bool.and_eq_true, decide_eq_true_eq] at hp
    exact .inl ⟨hp.2, rfl⟩
  · split
    · exact .inr (.inl ⟨_, rfl⟩)
    · exact .inr (.inr rfl)

theorem State.frame_stateNoted : Frame [] [E.Can.CHANNEL_STATE c] [] s (s.stateNoted c) := (Frame.refl ..).wr (by simp)

/-- What follows the write of CHANNEL_STATE touches RXQ, and the ledger where the channel becomes ERROR_PASSIVE. -/
theorem State.frame_canState_event : Frame [.can, .ledger] [] [17 + 2 * c, 28] (s.stateNoted c) (s.canState c) := by
  obtain ⟨-, h⟩ | ⟨b, h⟩ | h := s.canState_cases c <;> rw [h]
  · exact (Frame.refl ..).canEvent (by simp) (by simp)
  · exact (Frame.refl ..).rxq (by simp) (by simp)
  · exact .refl ..

theorem State.frame_canState : Frame [.can, .ledger] [E.Can.CHANNEL_STATE c] [17 + 2 * c, 28] s (s.canState c) :=
  (State.frame_stateNoted.mono (by simp) (by simp) (by simp)).trans (State.frame_canState_event.mono (by simp) (by simp) (by simp))

theorem State.frame_canState_unrecorded (h2 : s.nextChannelState c ≠ 2) :
    Frame [.can] [E.Can.CHANNEL_STATE c] [17 + 2 * c] s (s.canState c) := by
  have hnoted : Frame [.can] [E.Can.CHANNEL_STATE c] [17 + 2 * c] s (s.stateNoted c) := (Frame.refl ..).wr (by simp)
  obtain ⟨h, -⟩ | ⟨b, h⟩ | h := s.canState_cases c
  · exact absurd h h2
  · rw [h]
    exact hnoted.rxq (by simp) (by simp)
  · rw [h]
    exact hnoted

theorem Frame.canState (h : Frame ps es rs s x) (hp : ∀ p ∈ [Part.can, .ledger], p ∈ ps) (he : E.Can.CHANNEL_STATE c ∈ es)
    (hr : ∀ r ∈ [17 + 2 * c, 28], r ∈ rs) : Frame ps es rs s (x.canState c) :=
  h.trans (State.frame_canState.mono hp (by simpa using he) hr)

theorem ChanKept.canState (c : Nat) (s : State) : ChanKept c s (s.canState c) := by
  have hnoted : ChanKept c s (s.stateNoted c) := .of_can rfl
  obtain ⟨-, h⟩ | ⟨b, h⟩ | h := s.canState_cases c <;> rw [h]
  · exact hnoted.trans (.canEvent ..)
  · exact hnoted.trans (.rxq ..)
  · exact hnoted

@[simp] theorem State.now_canState : (s.canState c).now = s.now := by
  have hnoted : (s.stateNoted c).now = s.now := rfl
  obtain ⟨-, h⟩ | ⟨b, h⟩ | h := s.canState_cases c <;> simp [h, hnoted]

theorem State.nextChannelState_lt (s : State) (c : Nat) : s.nextChannelState c < 256 := by
  unfold State.nextChannelState
  repeat' split
  all_goals omega

theorem State.rd_canState_self (hc : c < 4) : (s.canState c).rd (E.Can.CHANNEL_STATE c) = s.nextChannelState c := by
  rw [State.frame_canState_event.rd_can (by simp [E.Can.CHANNEL_STATE, entN]; omega), State.stateNoted, State.rd_wr_self]
  exact Nat.mod_eq_of_lt (s.nextChannelState_lt c)

theorem State.prefix_canState (hc : c < 4) : (s.ring (17 + 2 * c)).q <+: ((s.canState c).ring (17 + 2 * c)).q := by
  obtain ⟨-, h⟩ | ⟨b, h⟩ | h := s.canState_cases c <;> rw [h]
  · exact State.prefix_canEvent (s := s.stateNoted c) hc 3 0
  · exact State.prefix_rxq (s := s.stateNoted c) hc
  · exact List.prefix_refl _

/-! ## The next frame -/

/-- The pending frame of object `o` starts. -/
def State.frameStarted (s : State) (c o : Nat) : State :=
  let y := s.setObj c o { s.obj c o with pend := (s.obj c o).pend.map (fun p => { p with started := true }) }
  y.setChan c { y.chan c with inTx := some o }

theorem State.offer_cases (s : State) (c : Nat) : s.offer c = s ∨ ∃ o, s.offer c = s.frameStarted c o := by
  unfold State.offer
  dsimp only
  split
  · exact .inl rfl
  · split
    · exact .inl rfl
    next o _ => exact .inr ⟨o, rfl⟩

/-- No frame starts while one is in transmission (R337). -/
theorem State.offer_of_inTx (h : (s.chan c).inTx.isSome = true) : s.offer c = s := by
  simp [State.offer, h]

theorem Frame.offer (h : Frame ps es rs s x) (hp : Part.can ∈ ps) : Frame ps es rs s (x.offer c) := by
  obtain h0 | ⟨o, h0⟩ := x.offer_cases c <;> rw [h0]
  · exact h
  · exact (h.setObj hp).setChan hp

@[simp] theorem State.now_offer : (s.offer c).now = s.now := by
  obtain h | ⟨o, h⟩ := s.offer_cases c <;> rw [h]
  rfl

@[simp] theorem State.rd_offer : (s.offer c).rd e = s.rd e := by
  obtain h | ⟨o, h⟩ := s.offer_cases c <;> rw [h]
  rfl

@[simp] theorem State.ring_offer (k : Nat) : (s.offer c).ring k = s.ring k := by
  obtain h | ⟨o, h⟩ := s.offer_cases c <;> rw [h]
  rfl

/-- The start of a frame changes of its channel nothing but the objects and which of them is in transmission. -/
theorem State.chan_offer_self (s : State) (c : Nat) : ∃ m i, (s.offer c).chan c = { s.chan c with objs := m, inTx := i } := by
  obtain h | ⟨o, h⟩ := s.offer_cases c <;> rw [h]
  · exact ⟨_, _, rfl⟩
  · exact ⟨_, _, by rw [State.frameStarted, State.chan_setChan_self, State.chan_setObj_self]⟩

@[simp] theorem State.chan_offer_ne (hd : d ≠ c) : (s.offer c).chan d = s.chan d := by
  obtain h | ⟨o, h⟩ := s.offer_cases c <;> rw [h]
  rw [State.frameStarted, State.chan_setChan_ne hd, State.chan_setObj_ne hd]

/-- Of an object the start of a frame changes nothing but that its frame has started. -/
theorem State.obj_offer (s : State) (c o : Nat) : (s.offer c).obj c o = s.obj c o
    ∨ (s.offer c).obj c o = { s.obj c o with pend := (s.obj c o).pend.map (fun p => { p with started := true }) } := by
  obtain h | ⟨q, h⟩ := s.offer_cases c <;> rw [h]
  · exact .inl rfl
  · have hobjs (y : State) : (y.setChan c { y.chan c with inTx := some q }).obj c o = y.obj c o := State.obj_setChan_self
    rw [State.frameStarted, hobjs]
    by_cases hq : o = q
    · subst hq
      exact .inr State.obj_setObj_self
    · exact .inl (State.obj_setObj_ne hq)

/-- What a frame holds beside its start is the same after it. -/
theorem State.pend_offer_map {β : Type} (f : CanPend → β) (hf : ∀ p : CanPend, f { p with started := true } = f p) (o : Nat) :
    ((s.offer c).obj c o).pend.map f = (s.obj c o).pend.map f := by
  obtain h | h := s.obj_offer c o <;> rw [h]
  cases (s.obj c o).pend with
  | none => rfl
  | some p => exact congrArg some (hf p)

theorem State.pend_offer_none {o : Nat} (h : (s.obj c o).pend = none) : ((s.offer c).obj c o).pend = none := by
  obtain h0 | h0 := s.obj_offer c o <;> simp [h0, h]

end

end Sys2Proof.Machine
end

section
/-!
SUPPORT. The end of an attempt to send a CAN frame: it is pending again, or dropped with a result (R338 to R342, Table CAN-3).
-/
namespace Sys2Proof.Machine

section
variable {ps : List Part} {es : List Ent} {rs : List Nat} {s x : State} {c d o code : Nat} {e : Ent} {p : CanPend} {keep : Option CanPend}

/-! ## A dropped frame -/

/-- The drop of a frame before its TX_RESULT on RXQ. -/
def State.dropNoted (s : State) (c o code : Nat) : State :=
  ((s.setObj c o { s.obj c o with pend := none, collRun := 0 }).inc (E.CanObj.DROPPED c o)).wr (E.CanObj.LAST_RESULT c o) code

/-- A drop goes to RXQ, and ERROR_LIMIT and COLLISION to the ledger (R355). -/
theorem State.dropFrame_eq (s : State) (c o code : Nat) : ∃ b, s.dropFrame c o code
    = if code = 2 || code = 3 then ((s.dropNoted c o code).rxq c b).1.log 0x25 c b else ((s.dropNoted c o code).rxq c b).1 := ⟨_, rfl⟩

theorem State.frame_dropNoted : Frame [.can] [E.CanObj.LAST_RESULT c o, E.CanObj.DROPPED c o] [] s (s.dropNoted c o code) :=
  (((Frame.refl ..).setObj (by simp)).inc (by simp)).wr (by simp)

theorem State.frame_dropFrame_result : Frame [.can, .ledger] [] [17 + 2 * c, 28] (s.dropNoted c o code) (s.dropFrame c o code) := by
  obtain ⟨b, h⟩ := s.dropFrame_eq c o code
  have hrxq : Frame [.can, .ledger] [] [17 + 2 * c, 28] (s.dropNoted c o code) ((s.dropNoted c o code).rxq c b).1 :=
    (Frame.refl ..).rxq (by simp) (by simp)
  rw [h]
  exact .ite (fun _ => hrxq.log (by simp) (by simp)) fun _ => hrxq

theorem State.frame_dropFrame : Frame [.can, .ledger] [E.CanObj.LAST_RESULT c o, E.CanObj.DROPPED c o] [17 + 2 * c, 28] s (s.dropFrame c o code) :=
  (State.frame_dropNoted.mono (by simp) (by simp) (by simp)).trans (State.frame_dropFrame_result.mono (by simp) (by simp) (by simp))

/-- A drop with any other result is not recorded (R355). -/
theorem State.frame_dropFrame_unrecorded (h2 : code ≠ 2) (h3 : code ≠ 3) :
    Frame [.can] [E.CanObj.LAST_RESULT c o, E.CanObj.DROPPED c o] [17 + 2 * c] s (s.dropFrame c o code) := by
  obtain ⟨b, h⟩ := s.dropFrame_eq c o code
  rw [h, if_neg (by simp [h2, h3])]
  exact (State.frame_dropNoted.mono (by simp) (by simp) (by simp)).rxq (by simp) (by simp)

theorem State.chanKept_dropFrame : ChanKept c (s.dropNoted c o code) (s.dropFrame c o code) := by
  obtain ⟨b, h⟩ := s.dropFrame_eq c o code
  rw [h]
  split
  · exact (ChanKept.rxq ..).trans (.of_can (State.log_can ..))
  · exact .rxq ..

@[simp] theorem State.now_dropFrame : (s.dropFrame c o code).now = s.now := by
  have hnoted : (s.dropNoted c o code).now = s.now := rfl
  obtain ⟨b, h⟩ := s.dropFrame_eq c o code
  rw [h]
  split <;> simp [hnoted]

theorem State.obj_dropFrame_self : (s.dropFrame c o code).obj c o = { s.obj c o with pend := none, collRun := 0 } := by
  rw [State.chanKept_dropFrame.obj]
  exact State.obj_setObj_self

/-- A drop leaves which frame is in transmission. -/
theorem State.inTx_dropFrame : ((s.dropFrame c o code).chan c).inTx = (s.chan c).inTx := by
  obtain ⟨_, _, h⟩ := (State.chanKept_dropFrame (s := s) (c := c) (o := o) (code := code)).self
  rw [h]
  change ((s.setObj c o { s.obj c o with pend := none, collRun := 0 }).chan c).inTx = _
  rw [State.chan_setObj_self]

theorem State.rd_dropFrame_result (hc : c < 4) (hcode : code < 256) : (s.dropFrame c o code).rd (E.CanObj.LAST_RESULT c o) = code := by
  rw [State.frame_dropFrame_result.rd_can (by simp [E.CanObj.LAST_RESULT, entN]; omega), State.dropNoted, State.rd_wr_self]
  exact Nat.mod_eq_of_lt hcode

theorem State.rd_dropFrame_dropped (hc : c < 4) :
    (s.dropFrame c o code).rd (E.CanObj.DROPPED c o) = min (2 ^ 32 - 1) (s.rd (E.CanObj.DROPPED c o) + 1) := by
  rw [State.frame_dropFrame_result.rd_can (by simp [E.CanObj.DROPPED, entN]; omega), State.dropNoted,
    State.rd_wr_ne _ _ _ _ (by simp [E.CanObj.DROPPED, E.CanObj.LAST_RESULT, entN]), State.rd_inc_self]
  rfl

/-! ## The end of an attempt -/

/-- With no newer request the attempt leaves the object its frame, or none. -/
theorem State.endAttempt_eq (hn : (s.obj c o).next = false) : s.endAttempt c o keep
    = (s.setObj c o { s.obj c o with pend := keep }).setChan c
        { (s.setObj c o { s.obj c o with pend := keep }).chan c with inTx := none } := by
  simp only [State.endAttempt, hn, Bool.false_eq_true, if_false]

theorem Frame.endAttempt (h : Frame ps es rs s x) (hp : Part.can ∈ ps) : Frame ps es rs s (x.endAttempt c o keep) :=
  (h.setObj hp).setChan hp

@[simp] theorem State.now_endAttempt : (s.endAttempt c o keep).now = s.now := rfl
@[simp] theorem State.rd_endAttempt : (s.endAttempt c o keep).rd e = s.rd e := rfl

theorem State.inTx_endAttempt : ((s.endAttempt c o keep).chan c).inTx = none := by simp [State.endAttempt]

theorem State.obj_endAttempt_self (hn : (s.obj c o).next = false) : (s.endAttempt c o keep).obj c o = { s.obj c o with pend := keep } := by
  rw [State.endAttempt_eq hn]
  exact State.obj_setChan_self.trans State.obj_setObj_self

/-! ## A failed attempt -/

/-- What becomes of a frame whose attempt failed with no newer request: an abort or its lifetime ends it, else it is retried (R339 to R341). -/
theorem State.retry_eq (hn : (s.obj c o).next = false) : s.retry c o p
    = if p.abort then (s.endAttempt c o none).dropFrame c o 4
      else if s.expired c o p then (s.endAttempt c o none).dropFrame c o 1
      else s.endAttempt c o (some { p with started := false }) := by
  simp [State.retry, hn]

theorem State.retry_of_live (hn : (s.obj c o).next = false) (ha : p.abort = false) (he : s.expired c o p = false) :
    s.retry c o p = s.endAttempt c o (some { p with started := false }) := by
  simp [State.retry_eq hn, ha, he]

theorem State.retry_of_dead (hn : (s.obj c o).next = false) (h : p.abort = true ∨ s.expired c o p = true) :
    s.retry c o p = (s.endAttempt c o none).dropFrame c o (if p.abort then 4 else 1) := by
  rw [State.retry_eq hn]
  cases ha : p.abort with
  | true => rfl
  | false => simp [h.resolve_left (by simp [ha])]

/-- Whether a frame has expired depends on its LIFETIME and the instant alone (R339). -/
theorem State.expired_congr (hl : x.rd (E.CanObj.LIFETIME c o) = s.rd (E.CanObj.LIFETIME c o)) (hn : x.now = s.now) :
    x.expired c o p = s.expired c o p := by
  simp only [State.expired, hl, hn]

end

end Sys2Proof.Machine
end

section
/-!
SUPPORT. ARBITRATION_LOST and LIFETIME_EXPIRY (R339, R341).
-/
namespace Sys2Proof.Machine

section
variable {s : State} {c o : Nat} {p : CanPend}

/-- A lost arbitration before what becomes of the frame. -/
def State.lossNoted (s : State) (c o : Nat) : State := (s.inc (E.CanObj.ARB_RETRIES c o)).setObj c o { s.obj c o with collRun := 0 }

theorem State.arbLost_eq (ht : (s.chan c).inTx = some o) (hp : (s.obj c o).pend = some p) : s.arbLost c
    = ((s.lossNoted c o).retry c o p).setChan c { ((s.lossNoted c o).retry c o p).chan c with busy := true } := by
  unfold State.arbLost
  split
  next h => cases ht.symm.trans h
  next q h =>
    obtain rfl : o = q := Option.some.inj (ht.symm.trans h)
    split
    next h => cases hp.symm.trans h
    next r h =>
      obtain rfl : p = r := Option.some.inj (hp.symm.trans h)
      rfl

theorem State.obj_lossNoted : (s.lossNoted c o).obj c o = { s.obj c o with collRun := 0 } := State.obj_setObj_self

theorem State.frame_lossNoted : Frame [.can] [E.CanObj.ARB_RETRIES c o] [] s (s.lossNoted c o) :=
  ((Frame.refl ..).inc (by simp)).setObj (by simp)

theorem State.rd_lossNoted : (s.lossNoted c o).rd (E.CanObj.ARB_RETRIES c o) = min (2 ^ 32 - 1) (s.rd (E.CanObj.ARB_RETRIES c o) + 1) :=
  State.rd_inc_self ..

theorem State.expired_lossNoted : (s.lossNoted c o).expired c o p = s.expired c o p :=
  State.expired_congr (State.rd_inc_ne _ _ _ (by simp [E.CanObj.LIFETIME, E.CanObj.ARB_RETRIES, entN])) rfl

end

end Sys2Proof.Machine
end

section
/-!
SUPPORT. A transmit error (R342 to R344): its counts, the run of collisions, and the retry, the drop or the bus-off that follows.
-/
namespace Sys2Proof.Machine

section
variable {ps : List Part} {es : List Ent} {rs : List Nat} {s x : State} {c d o kind : Nat} {coll : Bool} {p : CanPend}

/-! ## The counts -/

/-- A transmit error raises ERROR_FRAMES and TEC and is LAST_ERROR. -/
def State.errorNoted (s : State) (c kind : Nat) : State :=
  ((s.inc (E.Can.ERROR_FRAMES c)).wr (E.Can.LAST_ERROR c) kind).wr (E.Can.TEC c) (min 256 (s.rd (E.Can.TEC c) + 8))

theorem State.frame_errorNoted : Frame [] [E.Can.ERROR_FRAMES c, E.Can.LAST_ERROR c, E.Can.TEC c] [] s (s.errorNoted c kind) :=
  (((Frame.refl ..).inc (by simp)).wr (by simp)).wr (by simp)

theorem State.rd_errorNoted_tec : (s.errorNoted c kind).rd (E.Can.TEC c) = min 256 (s.rd (E.Can.TEC c) + 8) := by
  rw [State.errorNoted, State.rd_wr_self]
  exact Nat.mod_eq_of_lt (by simp only [E.Can.TEC, entN, Ty.bits]; omega)

theorem State.rd_errorNoted_kind (hk : kind < 256) : (s.errorNoted c kind).rd (E.Can.LAST_ERROR c) = kind := by
  rw [State.errorNoted, State.rd_wr_ne _ _ _ _ (by simp [E.Can.LAST_ERROR, E.Can.TEC, entN]), State.rd_wr_self]
  exact Nat.mod_eq_of_lt hk

theorem State.rd_errorNoted_count :
    (s.errorNoted c kind).rd (E.Can.ERROR_FRAMES c) = min (2 ^ 32 - 1) (s.rd (E.Can.ERROR_FRAMES c) + 1) := by
  rw [State.errorNoted, State.rd_wr_ne _ _ _ _ (by simp [E.Can.ERROR_FRAMES, E.Can.TEC, entN]),
    State.rd_wr_ne _ _ _ _ (by simp [E.Can.ERROR_FRAMES, E.Can.LAST_ERROR, entN]), State.rd_inc_self]
  rfl

/-! ## The run of collisions (R344) -/

/-- The run of collision errors of an object after one more error. -/
def State.nextRun (s : State) (c o : Nat) (coll : Bool) : Nat := if coll then (s.obj c o).collRun + 1 else 0

/-- The run of an object is noted, and a collision reported where it reaches the threshold. -/
def State.runNoted (s : State) (c o : Nat) (coll : Bool) : State :=
  let y := s.setObj c o { s.obj c o with collRun := s.nextRun c o coll }
  if s.nextRun c o coll = y.rd (E.Can.COLLISION_THRESHOLD c) && coll then y.reportCollision c o else y

theorem State.frame_reportCollision :
    Frame [.can, .ledger] [E.Can.COLLISION_ID c, E.Can.COLLISIONS c] [17 + 2 * c, 28] s (s.reportCollision c o) := by
  have hrxq (b : List Byte) : Frame [.can, .ledger] [E.Can.COLLISION_ID c, E.Can.COLLISIONS c] [17 + 2 * c, 28] s
      (((s.wr (E.Can.COLLISION_ID c) (s.rd (E.CanObj.OBJ_ID c o))).inc (E.Can.COLLISIONS c)).rxq c b).1 :=
    (((Frame.refl ..).wr (by simp)).inc (by simp)).rxq (by simp) (by simp)
  exact .ite (fun _ => hrxq _) fun _ => ((hrxq _).setChan (by simp)).log (by simp) (by simp)

theorem State.chanKept_reportCollision : ChanKept c s (s.reportCollision c o) := by
  unfold State.reportCollision
  extract_lets id y b z h
  have hz : ChanKept c s z := .trans (x := y) (.of_can rfl) (.rxq ..)
  split
  · exact hz
  · exact hz.trans (.trans (x := z.setChan c _) ⟨⟨_, _, State.chan_setChan_self⟩, fun _ => State.chan_setChan_ne⟩ (.of_can (State.log_can ..)))

@[simp] theorem State.now_reportCollision : (s.reportCollision c o).now = s.now := by
  unfold State.reportCollision
  extract_lets id y b z h
  have hz : z.now = s.now := State.now_rxq
  split
  · exact hz
  · rw [State.log_now, State.now_setChan, hz]

/-- What follows the count of a reported collision leaves it. -/
theorem State.rd_reportCollision (hc : c < 4) :
    (s.reportCollision c o).rd (E.Can.COLLISIONS c) = min (2 ^ 32 - 1) (s.rd (E.Can.COLLISIONS c) + 1) := by
  unfold State.reportCollision
  extract_lets id y b z h
  have hz : Frame [.can, .ledger] [] [17 + 2 * c, 28] y z := (Frame.refl ..).rxq (by simp) (by simp)
  have hy : y.rd (E.Can.COLLISIONS c) = min (2 ^ 32 - 1) (s.rd (E.Can.COLLISIONS c) + 1) := by
    rw [State.rd_inc_self, State.rd_wr_ne _ _ _ _ (by simp [E.Can.COLLISIONS, E.Can.COLLISION_ID, entN])]
    rfl
  refine Eq.trans ?_ hy
  refine Frame.rd_can (ps := [.can, .ledger]) (es := []) (rs := [17 + 2 * c, 28]) ?_ (by simp [E.Can.COLLISIONS, entN]; omega)
  exact .ite (fun _ => hz) fun _ => (hz.setChan (by simp)).log (by simp) (by simp)

theorem State.frame_runNoted :
    Frame [.can, .ledger] [E.Can.COLLISION_ID c, E.Can.COLLISIONS c] [17 + 2 * c, 28] s (s.runNoted c o coll) := by
  have hset : Frame [.can, .ledger] [E.Can.COLLISION_ID c, E.Can.COLLISIONS c] [17 + 2 * c, 28] s
      (s.setObj c o { s.obj c o with collRun := s.nextRun c o coll }) := (Frame.refl ..).setObj (by simp)
  exact .ite (fun _ => hset.trans State.frame_reportCollision) fun _ => hset

theorem State.frame_runNoted_plain : Frame [.can] [] [] s (s.runNoted c o false) := by
  rw [State.runNoted, if_neg (by simp)]
  exact (Frame.refl ..).setObj (by simp)

theorem State.obj_runNoted : (s.runNoted c o coll).obj c o = { s.obj c o with collRun := s.nextRun c o coll } := by
  unfold State.runNoted
  dsimp only
  split
  · rw [State.chanKept_reportCollision.obj, State.obj_setObj_self]
  · exact State.obj_setObj_self

@[simp] theorem State.now_runNoted : (s.runNoted c o coll).now = s.now := by
  unfold State.runNoted
  dsimp only
  split
  · exact State.now_reportCollision
  · rfl

theorem State.rd_runNoted_collisions (hc : c < 4) : (s.runNoted c o coll).rd (E.Can.COLLISIONS c)
    = if coll = true ∧ (s.obj c o).collRun + 1 = s.rd (E.Can.COLLISION_THRESHOLD c) then min (2 ^ 32 - 1) (s.rd (E.Can.COLLISIONS c) + 1)
      else s.rd (E.Can.COLLISIONS c) := by
  cases coll with
  | false => simp [State.runNoted]
  | true =>
    simp only [State.runNoted, State.nextRun, State.rd_setObj, if_true, Bool.and_true, decide_eq_true_eq, true_and]
    split
    · exact State.rd_reportCollision hc
    · rfl

/-! ## Bus-off (R343) -/

/-- CHANNEL_STATE and the counts at the entry into bus-off. -/
def State.busOffNoted (s : State) (c : Nat) : State :=
  ((s.wr (E.Can.CHANNEL_STATE c) 3).inc (E.Can.BUSOFF_COUNT c)).wrT (E.Can.LAST_BUSOFF c) s.now

theorem State.busOff_eq (s : State) (c : Nat) : s.busOff c = (s.busOffNoted c).canEvent c 1 ((s.busOffNoted c).headId c) := rfl

theorem State.frame_busOffNoted :
    Frame [] [E.Can.CHANNEL_STATE c, E.Can.BUSOFF_COUNT c, E.Can.LAST_BUSOFF c] [] s (s.busOffNoted c) :=
  (((Frame.refl ..).wr (by simp)).inc (by simp)).wrT (by simp)

theorem State.frame_busOff_event : Frame [.can, .ledger] [] [17 + 2 * c, 28] (s.busOffNoted c) (s.busOff c) := by
  rw [State.busOff_eq]
  exact (Frame.refl ..).canEvent (by simp) (by simp)

theorem State.frame_busOff :
    Frame [.can, .ledger] [E.Can.CHANNEL_STATE c, E.Can.BUSOFF_COUNT c, E.Can.LAST_BUSOFF c] [17 + 2 * c, 28] s (s.busOff c) :=
  (State.frame_busOffNoted.mono (by simp) (by simp) (by simp)).trans (State.frame_busOff_event.mono (by simp) (by simp) (by simp))

theorem State.chanKept_busOff : ChanKept c s (s.busOff c) := by
  have hnoted : ChanKept c s (s.busOffNoted c) := .of_can (by rw [State.busOffNoted, State.wrT_can, State.inc_can, State.wr_can])
  rw [State.busOff_eq]
  exact hnoted.trans (.canEvent ..)

@[simp] theorem State.now_busOff : (s.busOff c).now = s.now := by
  rw [State.busOff_eq, State.now_canEvent, State.busOffNoted, State.wrT_now, State.inc_now, State.wr_now]

theorem State.rd_busOff (hc : c < 4) : (s.busOff c).rd (E.Can.CHANNEL_STATE c) = 3
    ∧ (s.busOff c).rd (E.Can.BUSOFF_COUNT c) = min (2 ^ 32 - 1) (s.rd (E.Can.BUSOFF_COUNT c) + 1)
    ∧ (s.busOff c).rd (E.Can.LAST_BUSOFF c) = time96ns s.now := by
  refine ⟨?_, ?_, ?_⟩
  · rw [State.frame_busOff_event.rd_can (by simp [E.Can.CHANNEL_STATE, entN]; omega), State.busOffNoted,
      State.rd_wrT_ne _ _ _ _ (by simp [E.Can.CHANNEL_STATE, E.Can.LAST_BUSOFF, entN]),
      State.rd_inc_ne _ _ _ (by simp [E.Can.CHANNEL_STATE, E.Can.BUSOFF_COUNT, entN]), State.rd_wr_self]
    rfl
  · rw [State.frame_busOff_event.rd_can (by simp [E.Can.BUSOFF_COUNT, entN]; omega), State.busOffNoted,
      State.rd_wrT_ne _ _ _ _ (by simp [E.Can.BUSOFF_COUNT, E.Can.LAST_BUSOFF, entN]), State.rd_inc_self,
      State.rd_wr_ne _ _ _ _ (by simp [E.Can.BUSOFF_COUNT, E.Can.CHANNEL_STATE, entN])]
    rfl
  · rw [State.frame_busOff_event.rd_can (by simp [E.Can.LAST_BUSOFF, entN]; omega), State.busOffNoted, State.wrT, State.rd_wr_self]
    exact Nat.mod_eq_of_lt (time96ns_lt _)

/-! ## What a transmit error does -/

/-- The state in which a transmit error decides what becomes of the frame. -/
def State.attemptFailed (s : State) (c o kind : Nat) (coll : Bool) : State := (s.errorNoted c kind).runNoted c o coll

theorem State.frame_attemptFailed : Frame [.can, .ledger]
    [E.Can.ERROR_FRAMES c, E.Can.LAST_ERROR c, E.Can.TEC c, E.Can.COLLISION_ID c, E.Can.COLLISIONS c] [17 + 2 * c, 28]
    s (s.attemptFailed c o kind coll) :=
  (State.frame_errorNoted.mono (by simp) (by simp) (by simp)).trans (State.frame_runNoted.mono (by simp) (by simp) (by simp))

theorem State.obj_attemptFailed :
    (s.attemptFailed c o kind coll).obj c o = { s.obj c o with collRun := (s.errorNoted c kind).nextRun c o coll } := State.obj_runNoted

@[simp] theorem State.now_attemptFailed : (s.attemptFailed c o kind coll).now = s.now := State.now_runNoted

theorem State.expired_attemptFailed (hc : c < 4) : (s.attemptFailed c o kind coll).expired c o p = s.expired c o p :=
  State.expired_congr (State.frame_attemptFailed.rd_can (by
    simp [E.CanObj.LIFETIME, E.Can.ERROR_FRAMES, E.Can.LAST_ERROR, E.Can.TEC, E.Can.COLLISION_ID, E.Can.COLLISIONS, entN]; omega))
    State.now_attemptFailed

theorem State.rd_attemptFailed_tec (hc : c < 4) : (s.attemptFailed c o kind coll).rd (E.Can.TEC c) = min 256 (s.rd (E.Can.TEC c) + 8) := by
  rw [State.attemptFailed,
    State.frame_runNoted.rd_can (by simp [E.Can.TEC, E.Can.COLLISION_ID, E.Can.COLLISIONS, entN]; omega), State.rd_errorNoted_tec]

/-- A transmit error in the terms of `attemptFailed`, where TEC is not left as it is. -/
theorem State.txError_eq (ht : (s.chan c).inTx = some o) (hp : (s.obj c o).pend = some p) : ∃ y, y = s.attemptFailed c o kind coll
    ∧ s.txError c kind coll false
      = if 255 < y.rd (E.Can.TEC c) then (y.retry c o p).busOff c
        else ((if !(y.obj c o).next && !p.abort && !y.expired c o p && y.rd (E.CanObj.RETRY_LIMIT c o) < p.errors + 1 then
            (y.endAttempt c o none).dropFrame c o (if coll then 3 else 2)
          else (if !(y.obj c o).next && !p.abort && !y.expired c o p then y.inc (E.CanObj.ERROR_RETRIES c o) else y).retry c o
            { p with errors := p.errors + 1 }).canState c).offer c := by
  refine ⟨_, rfl, ?_⟩
  unfold State.txError
  split
  next h => cases ht.symm.trans h
  next q h =>
    obtain rfl : o = q := Option.some.inj (ht.symm.trans h)
    split
    next h => cases hp.symm.trans h
    next r h =>
      obtain rfl : p = r := Option.some.inj (hp.symm.trans h)
      simp only [Bool.false_and, Bool.false_eq_true, if_false]
      rfl

end

end Sys2Proof.Machine
end

section
/-!
O37. Attempts that fail (R339 to R344).
-/
namespace Sys2Proof.Machine

/-- The frame `p` of object `o` is in transmission, and an attempt of it that fails may be retried (R338 to R341). -/
structure LiveAttempt (s : State) (c o : Nat) (p : CanPend) : Prop where
  inTx : (s.chan c).inTx = some o
  pend : (s.obj c o).pend = some p
  newest : (s.obj c o).next = false
  kept : p.abort = false
  live : s.expired c o p = false

section
variable {s : State} {at_ c o kind : Nat} {coll : Bool} {p : CanPend}

/-! ## ARBITRATION_LOST -/

/-- What a lost arbitration leaves is what `retry` leaves, on a bus that carries the other node's frame. -/
theorem State.obj_arbLost {y : State} : (y.setChan c { y.chan c with busy := true }).obj c o = y.obj c o := State.obj_setChan_self

theorem State.inTx_arbLost {y : State} : ((y.setChan c { y.chan c with busy := true }).chan c).inTx = (y.chan c).inTx := by
  rw [State.chan_setChan_self]

theorem State.arbLost_live (ha : LiveAttempt s c o p) : ((s.arbLost c).chan c).inTx = none ∧ ((s.arbLost c).chan c).busy = true
    ∧ ((s.arbLost c).obj c o).pend = some { p with started := false } ∧ (s.arbLost c).now = s.now
    ∧ (s.arbLost c).rd (E.CanObj.ARB_RETRIES c o) = min (2 ^ 32 - 1) (s.rd (E.CanObj.ARB_RETRIES c o) + 1)
    ∧ Frame [.can] [E.CanObj.ARB_RETRIES c o] [] s (s.arbLost c) := by
  have hnext : ((s.lossNoted c o).obj c o).next = false := by rw [State.obj_lossNoted]; exact ha.newest
  rw [State.arbLost_eq ha.inTx ha.pend, State.retry_of_live hnext ha.kept (by rw [State.expired_lossNoted]; exact ha.live)]
  refine ⟨?_, ?_, ?_, ?_, ?_, (State.frame_lossNoted.endAttempt (by simp)).setChan (by simp)⟩
  · rw [State.inTx_arbLost, State.inTx_endAttempt]
  · rw [State.chan_setChan_self]
  · rw [State.obj_arbLost, State.obj_endAttempt_self hnext]
  · rw [State.now_setChan, State.now_endAttempt, State.lossNoted, State.now_setObj, State.inc_now]
  · rw [State.rd_setChan, State.rd_endAttempt, State.rd_lossNoted]

theorem State.arbLost_dead (hc : c < 4) (ht : (s.chan c).inTx = some o) (hp : (s.obj c o).pend = some p) (hn : (s.obj c o).next = false)
    (hdead : p.abort = true ∨ s.expired c o p = true) :
    ((s.arbLost c).chan c).inTx = none ∧ ((s.arbLost c).chan c).busy = true
    ∧ ((s.arbLost c).obj c o).pend = none ∧ (s.arbLost c).now = s.now
    ∧ (s.arbLost c).rd (E.CanObj.ARB_RETRIES c o) = min (2 ^ 32 - 1) (s.rd (E.CanObj.ARB_RETRIES c o) + 1)
    ∧ (s.arbLost c).rd (E.CanObj.LAST_RESULT c o) = (if p.abort then 4 else 1)
    ∧ (s.arbLost c).rd (E.CanObj.DROPPED c o) = min (2 ^ 32 - 1) (s.rd (E.CanObj.DROPPED c o) + 1)
    ∧ Frame [.can] [E.CanObj.ARB_RETRIES c o, E.CanObj.LAST_RESULT c o, E.CanObj.DROPPED c o] [17 + 2 * c] s (s.arbLost c) := by
  have hnext : ((s.lossNoted c o).obj c o).next = false := by rw [State.obj_lossNoted]; exact hn
  have hcode : (if p.abort then 4 else 1) ≠ 2 ∧ (if p.abort then 4 else 1) ≠ 3 ∧ (if p.abort then 4 else 1) < 256 := by
    cases p.abort <;> decide
  rw [State.arbLost_eq ht hp, State.retry_of_dead hnext (by rw [State.expired_lossNoted]; exact hdead)]
  generalize (if p.abort then 4 else 1) = code at hcode ⊢
  obtain ⟨h2, h3, hlt⟩ := hcode
  have hdrop := State.frame_dropFrame_unrecorded (s := (s.lossNoted c o).endAttempt c o none) (c := c) (o := o) h2 h3
  refine ⟨?_, ?_, ?_, ?_, ?_, ?_, ?_, ?_⟩
  · rw [State.inTx_arbLost, State.inTx_dropFrame, State.inTx_endAttempt]
  · rw [State.chan_setChan_self]
  · rw [State.obj_arbLost, State.obj_dropFrame_self]
  · rw [State.now_setChan, State.now_dropFrame, State.now_endAttempt, State.lossNoted, State.now_setObj, State.inc_now]
  · rw [State.rd_setChan, hdrop.rd_can (by simp [E.CanObj.ARB_RETRIES, E.CanObj.LAST_RESULT, E.CanObj.DROPPED, entN]; omega),
      State.rd_endAttempt, State.rd_lossNoted]
  · rw [State.rd_setChan, State.rd_dropFrame_result hc hlt]
  · rw [State.rd_setChan, State.rd_dropFrame_dropped hc, State.rd_endAttempt,
      State.frame_lossNoted.rd_can (by simp [E.CanObj.DROPPED, E.CanObj.ARB_RETRIES, entN]; omega)]
  · have hloss : Frame [.can] [E.CanObj.ARB_RETRIES c o, E.CanObj.LAST_RESULT c o, E.CanObj.DROPPED c o] [17 + 2 * c] s
        ((s.lossNoted c o).endAttempt c o none) := (State.frame_lossNoted.endAttempt (by simp)).mono (by simp) (by simp) (by simp)
    exact (hloss.trans (hdrop.mono (by simp) (by simp) (by simp))).setChan (by simp)

/-! ## TRANSMIT_ERROR -/

/-- What a transmit error that is no bus-off leaves of the counts, whatever becomes of the frame: `y` is the state in which that is decided,
`z` the one before CHANNEL_STATE follows the counters. -/
theorem State.txError_counts {y z t : State} (hc : c < 4) (hk : kind < 256) (hy : y = s.attemptFailed c o kind coll)
    (hz : Frame [.can, .ledger] [E.CanObj.ERROR_RETRIES c o, E.CanObj.LAST_RESULT c o, E.CanObj.DROPPED c o] [17 + 2 * c, 28] y z)
    (ht : t = (z.canState c).offer c) (htec : s.rd (E.Can.TEC c) ≤ 247) :
    t.rd (E.Can.LAST_ERROR c) = kind ∧ t.rd (E.Can.ERROR_FRAMES c) = min (2 ^ 32 - 1) (s.rd (E.Can.ERROR_FRAMES c) + 1)
    ∧ t.rd (E.Can.TEC c) = s.rd (E.Can.TEC c) + 8
    ∧ t.rd (E.Can.COLLISIONS c) = (if coll = true ∧ (s.obj c o).collRun + 1 = s.rd (E.Can.COLLISION_THRESHOLD c)
        then min (2 ^ 32 - 1) (s.rd (E.Can.COLLISIONS c) + 1) else s.rd (E.Can.COLLISIONS c))
    ∧ Frame [.can, .ledger] [E.Can.ERROR_FRAMES c, E.Can.LAST_ERROR c, E.Can.TEC c, E.Can.CHANNEL_STATE c, E.Can.COLLISION_ID c, E.Can.COLLISIONS c,
        E.CanObj.ERROR_RETRIES c o, E.CanObj.LAST_RESULT c o, E.CanObj.DROPPED c o] [17 + 2 * c, 28] s t := by
  have hafter : Frame [.can, .ledger] [E.Can.CHANNEL_STATE c, E.CanObj.ERROR_RETRIES c o, E.CanObj.LAST_RESULT c o, E.CanObj.DROPPED c o]
      [17 + 2 * c, 28] y t := by
    rw [ht]
    exact ((hz.mono (by simp) (by simp) (by simp)).canState (by simp) (by simp) (by simp)).offer (by simp)
  have hrun : Frame [.can, .ledger] [E.Can.COLLISION_ID c, E.Can.COLLISIONS c] [17 + 2 * c, 28] (s.errorNoted c kind) y :=
    hy ▸ State.frame_runNoted
  have hnoted {e : Ent} (h : 0x3000 ≤ e.key / 256 ∧ ∀ f ∈ [E.Can.CHANNEL_STATE c, E.CanObj.ERROR_RETRIES c o, E.CanObj.LAST_RESULT c o,
      E.CanObj.DROPPED c o], e.key ≠ f.key) (g : ∀ f ∈ [E.Can.COLLISION_ID c, E.Can.COLLISIONS c], e.key ≠ f.key) :
      t.rd e = (s.errorNoted c kind).rd e := by
    rw [hafter.rd_can h, hrun.rd_can ⟨h.1, g⟩]
  refine ⟨?_, ?_, ?_, ?_, ?_⟩
  · rw [hnoted (by simp [E.Can.LAST_ERROR, E.Can.CHANNEL_STATE, E.CanObj.ERROR_RETRIES, E.CanObj.LAST_RESULT, E.CanObj.DROPPED, entN]; omega)
      (by simp [E.Can.LAST_ERROR, E.Can.COLLISION_ID, E.Can.COLLISIONS, entN]), State.rd_errorNoted_kind hk]
  · rw [hnoted (by simp [E.Can.ERROR_FRAMES, E.Can.CHANNEL_STATE, E.CanObj.ERROR_RETRIES, E.CanObj.LAST_RESULT, E.CanObj.DROPPED, entN]; omega)
      (by simp [E.Can.ERROR_FRAMES, E.Can.COLLISION_ID, E.Can.COLLISIONS, entN]), State.rd_errorNoted_count]
  · rw [hnoted (by simp [E.Can.TEC, E.Can.CHANNEL_STATE, E.CanObj.ERROR_RETRIES, E.CanObj.LAST_RESULT, E.CanObj.DROPPED, entN]; omega)
      (by simp [E.Can.TEC, E.Can.COLLISION_ID, E.Can.COLLISIONS, entN]), State.rd_errorNoted_tec]
    omega
  · rw [hafter.rd_can (by simp [E.Can.COLLISIONS, E.Can.CHANNEL_STATE, E.CanObj.ERROR_RETRIES, E.CanObj.LAST_RESULT, E.CanObj.DROPPED, entN]; omega),
      hy, State.attemptFailed, State.rd_runNoted_collisions hc,
      State.frame_errorNoted.rd_can (e := E.Can.COLLISIONS c) (by simp [E.Can.COLLISIONS, E.Can.ERROR_FRAMES, E.Can.LAST_ERROR, E.Can.TEC, entN]; omega),
      State.frame_errorNoted.rd_can (e := E.Can.COLLISION_THRESHOLD c) (by
        simp [E.Can.COLLISION_THRESHOLD, E.Can.ERROR_FRAMES, E.Can.LAST_ERROR, E.Can.TEC, entN]; omega)]
    rfl
  · have hbefore : Frame [.can, .ledger]
        [E.Can.ERROR_FRAMES c, E.Can.LAST_ERROR c, E.Can.TEC c, E.Can.COLLISION_ID c, E.Can.COLLISIONS c] [17 + 2 * c, 28] s y :=
      hy ▸ State.frame_attemptFailed
    exact (hbefore.mono (by simp) (by simp) (by simp)).trans (hafter.mono (by simp) (by simp) (by simp))

/-- What decides the fate of the frame below bus-off: no newer request, a live frame, TEC and RETRY_LIMIT. -/
theorem State.attemptFailed_decides {y : State} (hc : c < 4) (ha : LiveAttempt s c o p) (htec : s.rd (E.Can.TEC c) ≤ 247)
    (hy : y = s.attemptFailed c o kind coll) : (y.obj c o).next = false ∧ y.expired c o p = false ∧ y.rd (E.Can.TEC c) ≤ 255 ∧ y.rd (E.CanObj.RETRY_LIMIT c o) = s.rd (E.CanObj.RETRY_LIMIT c o) := by
  subst hy
  refine ⟨?_, ?_, ?_, ?_⟩
  · rw [State.obj_attemptFailed]
    exact ha.newest
  · rw [State.expired_attemptFailed hc, ha.live]
  · rw [State.rd_attemptFailed_tec hc]
    omega
  · exact State.frame_attemptFailed.rd_can (by
      simp [E.CanObj.RETRY_LIMIT, E.Can.ERROR_FRAMES, E.Can.LAST_ERROR, E.Can.TEC, E.Can.COLLISION_ID, E.Can.COLLISIONS, entN]; omega)

theorem State.txError_retried (hc : c < 4) (ha : LiveAttempt s c o p) (htec : s.rd (E.Can.TEC c) ≤ 247) (hr : p.errors < s.rd (E.CanObj.RETRY_LIMIT c o)) :
    s.txError c kind coll false = (((((s.attemptFailed c o kind coll).inc (E.CanObj.ERROR_RETRIES c o)).endAttempt c o
      (some { p with errors := p.errors + 1, started := false })).canState c).offer c) := by
  obtain ⟨y, hy, heq⟩ := State.txError_eq (kind := kind) (coll := coll) ha.inTx ha.pend
  obtain ⟨hnext, hlive, hlow, hlimit⟩ := State.attemptFailed_decides (kind := kind) (coll := coll) hc ha htec hy
  have hinc : ((y.inc (E.CanObj.ERROR_RETRIES c o)).obj c o).next = false := hnext
  have hlive' : (y.inc (E.CanObj.ERROR_RETRIES c o)).expired c o { p with errors := p.errors + 1 } = false :=
    (State.expired_congr (State.rd_inc_ne _ _ _ (by simp [E.CanObj.LIFETIME, E.CanObj.ERROR_RETRIES, entN])) rfl).trans hlive
  rw [heq, if_neg (by omega), if_neg (by rw [hlimit]; simp; omega), if_pos (by simp [hnext, ha.kept, hlive]),
    State.retry_of_live (p := { p with errors := p.errors + 1 }) hinc ha.kept hlive', ← hy]

theorem State.txError_dropped (hc : c < 4) (ha : LiveAttempt s c o p) (htec : s.rd (E.Can.TEC c) ≤ 247) (hr : s.rd (E.CanObj.RETRY_LIMIT c o) ≤ p.errors) :
    s.txError c kind coll false
      = ((((s.attemptFailed c o kind coll).endAttempt c o none).dropFrame c o (if coll then 3 else 2)).canState c).offer c := by
  obtain ⟨y, hy, heq⟩ := State.txError_eq (kind := kind) (coll := coll) ha.inTx ha.pend
  obtain ⟨hnext, hlive, hlow, hlimit⟩ := State.attemptFailed_decides (kind := kind) (coll := coll) hc ha htec hy
  rw [heq, if_neg (by omega), if_pos (by rw [hlimit]; simp [hnext, ha.kept, hlive]; omega), ← hy]

theorem State.txError_busOff (hc : c < 4) (ha : LiveAttempt s c o p) (htec : 248 ≤ s.rd (E.Can.TEC c)) :
    s.txError c kind coll false
      = (((s.attemptFailed c o kind coll).endAttempt c o (some { p with started := false })).busOff c) := by
  obtain ⟨y, hy, heq⟩ := State.txError_eq (kind := kind) (coll := coll) ha.inTx ha.pend
  have hnext : (y.obj c o).next = false := by rw [hy, State.obj_attemptFailed]; exact ha.newest
  have hlive : y.expired c o p = false := by rw [hy, State.expired_attemptFailed hc, ha.live]
  have hhigh : y.rd (E.Can.TEC c) = 256 := by
    rw [hy, State.rd_attemptFailed_tec hc]
    omega
  rw [heq, if_pos (by omega), State.retry_of_live hnext ha.kept hlive, ← hy]

end

section
variable {s : State} {at_ c o kind : Nat} {coll : Bool} {p : CanPend}

theorem State.arbitrationLost_completes (hc : c < 4) (ht : (s.chan c).inTx = some o) (hp : (s.obj c o).pend = some p)
    (hn : (s.obj c o).next = false) {ex : Bool} (hex : ex = (s.advance at_).expired c o p) :
    Completes (.arbitrationLost at_ c) s (fun t => (t.chan c).inTx = none ∧ (t.chan c).busy = true
      ∧ t.rd (E.CanObj.ARB_RETRIES c o) = min (2 ^ 32 - 1) (s.rd (E.CanObj.ARB_RETRIES c o) + 1)
      ∧ (t.obj c o).pend = (if p.abort || ex then none else some { p with started := false })
      ∧ (p.abort = true ∨ ex = true → t.rd (E.CanObj.LAST_RESULT c o) = (if p.abort then 4 else 1)
          ∧ t.rd (E.CanObj.DROPPED c o) = min (2 ^ 32 - 1) (s.rd (E.CanObj.DROPPED c o) + 1))
      ∧ (p.abort = false → ex = false → t.rd (E.CanObj.LAST_RESULT c o) = s.rd (E.CanObj.LAST_RESULT c o)
          ∧ t.rd (E.CanObj.DROPPED c o) = s.rd (E.CanObj.DROPPED c o))
      ∧ t.now = s.instant at_
      ∧ Frame [.can] [E.CanObj.ARB_RETRIES c o, E.CanObj.LAST_RESULT c o, E.CanObj.DROPPED c o] [17 + 2 * c] s t) := by
  refine ⟨(s.advance at_).arbLost c, rfl, ?_⟩
  by_cases hdead : p.abort = true ∨ ex = true
  · obtain ⟨htx, hbusy, hpend, hnow, harb, hres, hdrop, hframe⟩ := State.arbLost_dead (s := s.advance at_) hc ht hp hn (hex ▸ hdead)
    refine ⟨htx, hbusy, harb, ?_, fun _ => ⟨hres, hdrop⟩, fun ha hx => ?_, hnow, hframe.of_advance⟩
    · rw [hpend, if_pos (by simpa using hdead)]
    · simp [ha, hx] at hdead
  · obtain ⟨ha, hx⟩ : p.abort = false ∧ ex = false := by simpa using hdead
    obtain ⟨htx, hbusy, hpend, hnow, harb, hframe⟩ := State.arbLost_live (s := s.advance at_) ⟨ht, hp, hn, ha, hex ▸ hx⟩
    refine ⟨htx, hbusy, harb, ?_, fun h => absurd h hdead, fun _ _ => ⟨?_, ?_⟩, hnow, (hframe.mono (by simp) (by simp) (by simp)).of_advance⟩
    · rw [hpend, if_neg (by simp [ha, hx])]
    · exact hframe.rd_can (by simp [E.CanObj.LAST_RESULT, E.CanObj.ARB_RETRIES, entN]; omega)
    · exact hframe.rd_can (by simp [E.CanObj.DROPPED, E.CanObj.ARB_RETRIES, entN]; omega)

theorem State.transmitError_completes (hc : c < 4) (hk : kind < 256) (ha : LiveAttempt (s.advance at_) c o p) (htec : s.rd (E.Can.TEC c) ≤ 247)
    {e : List Ent} (he : e = [E.Can.ERROR_FRAMES c, E.Can.LAST_ERROR c, E.Can.TEC c, E.Can.CHANNEL_STATE c, E.Can.COLLISION_ID c,
      E.Can.COLLISIONS c, E.CanObj.ERROR_RETRIES c o, E.CanObj.LAST_RESULT c o, E.CanObj.DROPPED c o]) :
    Completes (.transmitError at_ c kind coll false) s (fun t => t.rd (E.Can.LAST_ERROR c) = kind
      ∧ t.rd (E.Can.ERROR_FRAMES c) = min (2 ^ 32 - 1) (s.rd (E.Can.ERROR_FRAMES c) + 1) ∧ t.rd (E.Can.TEC c) = s.rd (E.Can.TEC c) + 8
      ∧ (p.errors < s.rd (E.CanObj.RETRY_LIMIT c o) → (t.obj c o).pend.map (fun q => (q.data, q.since, q.errors)) = some (p.data, p.since, p.errors + 1)
          ∧ t.rd (E.CanObj.ERROR_RETRIES c o) = min (2 ^ 32 - 1) (s.rd (E.CanObj.ERROR_RETRIES c o) + 1))
      ∧ (s.rd (E.CanObj.RETRY_LIMIT c o) ≤ p.errors → (t.obj c o).pend = none ∧ t.rd (E.CanObj.LAST_RESULT c o) = (if coll then 3 else 2)
          ∧ t.rd (E.CanObj.DROPPED c o) = min (2 ^ 32 - 1) (s.rd (E.CanObj.DROPPED c o) + 1))
      ∧ t.rd (E.Can.COLLISIONS c) = (if coll = true ∧ (s.obj c o).collRun + 1 = s.rd (E.Can.COLLISION_THRESHOLD c)
          then min (2 ^ 32 - 1) (s.rd (E.Can.COLLISIONS c) + 1) else s.rd (E.Can.COLLISIONS c))
      ∧ t.now = s.instant at_ ∧ Frame [.can, .ledger] e [17 + 2 * c, 28] s t) := by
  subst he
  obtain ⟨y, hy⟩ : ∃ y, y = (s.advance at_).attemptFailed c o kind coll := ⟨_, rfl⟩
  have hbefore : Frame _ _ _ (s.advance at_) y := hy ▸ State.frame_attemptFailed
  have hnext : (y.obj c o).next = false := by rw [hy, State.obj_attemptFailed]; exact ha.newest
  have hnow : y.now = s.instant at_ := by rw [hy, State.now_attemptFailed]; rfl
  refine ⟨(s.advance at_).txError c kind coll false, rfl, ?_⟩
  obtain hr | hr := Nat.lt_or_ge p.errors (s.rd (E.CanObj.RETRY_LIMIT c o))
  · obtain ⟨z, hz⟩ : ∃ z, z = (y.inc (E.CanObj.ERROR_RETRIES c o)).endAttempt c o (some { p with errors := p.errors + 1, started := false }) := ⟨_, rfl⟩
    have heq := State.txError_retried (s := s.advance at_) (kind := kind) (coll := coll) hc ha htec hr
    rw [← hy, ← hz] at heq
    have hyz : Frame [.can, .ledger] [E.CanObj.ERROR_RETRIES c o, E.CanObj.LAST_RESULT c o, E.CanObj.DROPPED c o] [17 + 2 * c, 28] y z := by
      rw [hz]
      exact ((Frame.refl ..).inc (by simp)).endAttempt (by simp)
    obtain ⟨hkind, hcount, htec', hcoll, hframe⟩ := State.txError_counts hc hk hy hyz heq htec
    refine ⟨hkind, hcount, htec', fun _ => ⟨?_, ?_⟩, fun h => absurd hr (Nat.not_lt.2 h), hcoll, ?_, hframe.of_advance⟩
    · rw [heq, State.pend_offer_map _ fun _ => rfl, (ChanKept.canState c z).obj, hz,
        State.obj_endAttempt_self (s := y.inc (E.CanObj.ERROR_RETRIES c o)) hnext]
      rfl
    · rw [heq, State.rd_offer, State.frame_canState.rd_can (by simp [E.CanObj.ERROR_RETRIES, E.Can.CHANNEL_STATE, entN]; omega), hz,
        State.rd_endAttempt, State.rd_inc_self, hbefore.rd_can (by
          simp [E.CanObj.ERROR_RETRIES, E.Can.ERROR_FRAMES, E.Can.LAST_ERROR, E.Can.TEC, E.Can.COLLISION_ID, E.Can.COLLISIONS, entN]; omega)]
      rfl
    · rw [heq, State.now_offer, State.now_canState, hz, State.now_endAttempt, State.inc_now, hnow]
  · obtain ⟨z, hz⟩ : ∃ z, z = (y.endAttempt c o none).dropFrame c o (if coll then 3 else 2) := ⟨_, rfl⟩
    have heq := State.txError_dropped (s := s.advance at_) (kind := kind) (coll := coll) hc ha htec hr
    rw [← hy, ← hz] at heq
    have hcode : (if coll then 3 else 2) < 256 := by cases coll <;> decide
    have hyz : Frame [.can, .ledger] [E.CanObj.ERROR_RETRIES c o, E.CanObj.LAST_RESULT c o, E.CanObj.DROPPED c o] [17 + 2 * c, 28] y z := by
      rw [hz]
      exact ((Frame.refl ..).endAttempt (by simp)).trans (State.frame_dropFrame.mono (by simp) (by simp) (by simp))
    obtain ⟨hkind, hcount, htec', hcoll, hframe⟩ := State.txError_counts hc hk hy hyz heq htec
    refine ⟨hkind, hcount, htec', fun h => absurd h (Nat.not_lt.2 hr), fun _ => ⟨?_, ?_, ?_⟩, hcoll, ?_, hframe.of_advance⟩
    · rw [heq]
      refine State.pend_offer_none ?_
      rw [(ChanKept.canState c z).obj, hz, State.obj_dropFrame_self]
    · rw [heq, State.rd_offer, State.frame_canState.rd_can (by simp [E.CanObj.LAST_RESULT, E.Can.CHANNEL_STATE, entN]; omega), hz,
        State.rd_dropFrame_result hc hcode]
    · rw [heq, State.rd_offer, State.frame_canState.rd_can (by simp [E.CanObj.DROPPED, E.Can.CHANNEL_STATE, entN]; omega), hz,
        State.rd_dropFrame_dropped hc, State.rd_endAttempt, hbefore.rd_can (by
          simp [E.CanObj.DROPPED, E.Can.ERROR_FRAMES, E.Can.LAST_ERROR, E.Can.TEC, E.Can.COLLISION_ID, E.Can.COLLISIONS, entN]; omega)]
      rfl
    · rw [heq, State.now_offer, State.now_canState, hz, State.now_dropFrame, State.now_endAttempt, hnow]

theorem State.transmitError_busOff_completes (hc : c < 4) (ha : LiveAttempt (s.advance at_) c o p) (htec : 248 ≤ s.rd (E.Can.TEC c)) :
    Completes (.transmitError at_ c kind false false) s (fun t => t.rd (E.Can.CHANNEL_STATE c) = 3 ∧ 255 < t.rd (E.Can.TEC c)
      ∧ t.rd (E.Can.BUSOFF_COUNT c) = min (2 ^ 32 - 1) (s.rd (E.Can.BUSOFF_COUNT c) + 1)
      ∧ t.rd (E.Can.LAST_BUSOFF c) = time96ns (s.instant at_)
      ∧ (t.obj c o).pend = some { p with started := false } ∧ (t.chan c).inTx = none
      ∧ t.now = s.instant at_ ∧ Frame [.can, .ledger] [E.Can.ERROR_FRAMES c, E.Can.LAST_ERROR c, E.Can.TEC c, E.Can.CHANNEL_STATE c,
          E.Can.BUSOFF_COUNT c, E.Can.LAST_BUSOFF c] [17 + 2 * c, 28] s t) := by
  obtain ⟨y, hy⟩ : ∃ y, y = (s.advance at_).attemptFailed c o kind false := ⟨_, rfl⟩
  obtain ⟨z, hz⟩ : ∃ z, z = y.endAttempt c o (some { p with started := false }) := ⟨_, rfl⟩
  have heq := State.txError_busOff (s := s.advance at_) (kind := kind) (coll := false) hc ha htec
  rw [← hy, ← hz] at heq
  have hbefore : Frame [.can] [E.Can.ERROR_FRAMES c, E.Can.LAST_ERROR c, E.Can.TEC c] [] (s.advance at_) z := by
    rw [hz, hy]
    exact ((State.frame_errorNoted.mono (by simp) (by simp) (by simp)).trans (State.frame_runNoted_plain.mono (by simp) (by simp) (by simp))).endAttempt
      (by simp)
  have hnext : (y.obj c o).next = false := by rw [hy, State.obj_attemptFailed]; exact ha.newest
  have hnow : z.now = s.instant at_ := by rw [hz, State.now_endAttempt, hy, State.now_attemptFailed]; rfl
  obtain ⟨hstate, hcount, hlast⟩ := State.rd_busOff (s := z) hc
  refine ⟨(s.advance at_).txError c kind false false, rfl, ?_⟩
  rw [heq]
  refine ⟨hstate, ?_, ?_, ?_, ?_, ?_, ?_, ?_⟩
  · rw [State.frame_busOff.rd_can (by simp [E.Can.TEC, E.Can.CHANNEL_STATE, E.Can.BUSOFF_COUNT, E.Can.LAST_BUSOFF, entN]; omega), hz,
      State.rd_endAttempt, hy, State.rd_attemptFailed_tec hc, State.rd_advance]
    omega
  · rw [hcount, hbefore.rd_can (by simp [E.Can.BUSOFF_COUNT, E.Can.ERROR_FRAMES, E.Can.LAST_ERROR, E.Can.TEC, entN]; omega)]
    rfl
  · rw [hlast, hnow]
  · rw [State.chanKept_busOff.obj, hz, State.obj_endAttempt_self hnext]
  · obtain ⟨_, _, h⟩ := (State.chanKept_busOff (s := z) (c := c)).self
    rw [h, hz]
    exact State.inTx_endAttempt
  · rw [State.now_busOff, hnow]
  · exact ((hbefore.mono (by simp) (by simp) (by simp)).trans (State.frame_busOff.mono (by simp) (by simp) (by simp))).of_advance

/-! ## LIFETIME_EXPIRY -/

theorem State.lifetimeExpiry_completes (hc : c < 4) (hp : (s.obj c o).pend = some p) (hs : p.started = false)
    (hl : s.rd (E.CanObj.LIFETIME c o) ≠ 0) (hdue : p.since + 1000 * s.rd (E.CanObj.LIFETIME c o) ≤ s.instant at_) :
    Completes (.lifetimeExpiry at_ c o) s (fun t => (t.obj c o).pend = none ∧ t.rd (E.CanObj.LAST_RESULT c o) = 1
      ∧ t.rd (E.CanObj.DROPPED c o) = min (2 ^ 32 - 1) (s.rd (E.CanObj.DROPPED c o) + 1)
      ∧ t.now = s.instant at_ ∧ Frame [.can] [E.CanObj.LAST_RESULT c o, E.CanObj.DROPPED c o] [17 + 2 * c] s t) := by
  have hx : (s.advance at_).expired c o p = true := by
    simp only [State.expired, State.rd_advance, Bool.and_eq_true, bne_iff_ne]
    exact ⟨hl, decide_eq_true hdue⟩
  have heq : (s.advance at_).lifetimeExpiry c o = (s.advance at_).dropFrame c o 1 := by
    simp [State.lifetimeExpiry, hp, hs, hx]
  refine ⟨_, congrArg Host.Outcome.next heq, ?_, State.rd_dropFrame_result hc (by decide), State.rd_dropFrame_dropped hc, ?_,
    (State.frame_dropFrame_unrecorded (by decide) (by decide)).of_advance⟩
  · rw [State.obj_dropFrame_self]
  · rw [State.now_dropFrame]
    rfl

end

/-- Settles O37: what becomes of a frame whose attempt failed is what `retry` answers, or a drop beyond RETRY_LIMIT, or bus-off. -/
theorem canAttemptsThatFailAreRetriedOrDropped : Obligations.CanAttemptsThatFailAreRetriedOrDropped := by
  unfold Obligations.CanAttemptsThatFailAreRetriedOrDropped
  exact ⟨fun _ _ _ hc _ ht _ _ hp hn _ hex => State.arbitrationLost_completes hc ht hp hn hex,
    fun _ _ _ _ _ hc hk _ ht _ _ hp hn ha hx htec _ he => State.transmitError_completes hc hk ⟨ht, hp, hn, ha, hx⟩ htec he,
    fun _ _ _ _ hc _ _ ht _ _ hp hn ha hx htec => State.transmitError_busOff_completes hc ⟨ht, hp, hn, ha, hx⟩ htec,
    fun _ _ _ _ hc _ _ hp hs hl hdue => State.lifetimeExpiry_completes hc hp hs hl hdue⟩

end Sys2Proof.Machine
end

section
/-!
O35. A CHANNEL_MODE write, its effect, integration, recovery from bus-off and the transceiver (R331, R332, R343, R351).
-/
namespace Sys2Proof.Machine

/-! ## CHANNEL_MODE (R331, R332) -/

section
variable {s : State} {at_ c m : Nat} {w : Writer}

theorem tableRow_channelMode : ∀ c < 4, (tableRow (E.Can.CHANNEL_MODE c).key).any
    (fun r => r.2 == E.Can.CHANNEL_MODE c && r.1.ret == .retained) = true := by
  decide +kernel

theorem channelMode_key (c : Nat) : (E.Can.CHANNEL_MODE c).key / 256 = 0x3000 + 64 * c ∧ (E.Can.CHANNEL_MODE c).key % 256 = 1 := by
  simp only [E.Can.CHANNEL_MODE, entN]
  omega

/-- The owner of CHANNEL_MODE checks the bit timing. -/
theorem State.chkOwner_channelMode (hc : c < 4) : s.chkOwner w (E.Can.CHANNEL_MODE c).key (.num m) = s.chkChannelMode c m := by
  obtain ⟨hi, hs⟩ := channelMode_key c
  have hbelow : ∀ n ∈ [0x1800, 0x1900, 0x2000, 0x3000], ¬ 0x3000 + 64 * c < n := by simp; omega
  have hcan : 0x3000 + 64 * c < 0x4000 := by omega
  have hchan : (0x3000 + 64 * c - 0x3000) / 64 = c ∧ (0x3000 + 64 * c) % 64 = 0 := by omega
  simp only [List.mem_cons, List.not_mem_nil, or_false, forall_eq_or_imp, forall_eq] at hbelow
  obtain ⟨h1, h2, h3, h4⟩ := hbelow
  simp only [State.chkOwner, hi, hs, h1, h2, h3, h4, hcan, if_true, if_false, State.chkCan, hchan, valNat]

/-- CHANNEL_MODE has no effect beside its store until the bus is idle (R331). -/
theorem State.effOwner_channelMode (s : State) (w : Writer) (hc : c < 4) (v : Value) : s.effOwner w (E.Can.CHANNEL_MODE c).key v = s := by
  obtain ⟨hi, hs⟩ := channelMode_key c
  have hbelow : ∀ n ∈ [0x1800, 0x1900, 0x2000, 0x3000], ¬ 0x3000 + 64 * c < n := by simp; omega
  have hcan : 0x3000 + 64 * c < 0x4000 := by omega
  have hchan : (0x3000 + 64 * c) % 64 = 0 := by omega
  simp only [List.mem_cons, List.not_mem_nil, or_false, forall_eq_or_imp, forall_eq] at hbelow
  obtain ⟨h1, h2, h3, h4⟩ := hbelow
  simp [State.effOwner, hi, hs, h1, h2, h3, h4, hcan, State.effCan, hchan]

/-- A write of CHANNEL_MODE that reaches its block reports the timing checks (R332). -/
theorem State.reached_channelMode (hc : c < 4) : s.reached (E.Can.CHANNEL_MODE c).key (.num m) = s.noteTiming c m := by
  obtain ⟨hi, hs⟩ := channelMode_key c
  unfold State.reached
  split
  case h_10 =>
    have hchan : (0x3000 + 64 * c - 0x3000) / 64 = c := by omega
    rw [if_pos (by simp [hi, hs]; omega), hi, hchan, valNat]
  all_goals
    rename_i hkey
    rw [hkey] at hi
    omega

theorem State.frame_noteTiming : Frame [] [E.CanT.TIMING_CHECK c] [] s (s.noteTiming c m) :=
  .ite (fun _ => (Frame.refl ..).wr (by simp)) fun _ => .refl ..

/-- An accepted mode passes the timing checks where it leaves OFF, so TIMING_CHECK reports OK there. -/
theorem State.rd_noteTiming (h : s.chkChannelMode c m = 0) : (s.noteTiming c m).rd (E.CanT.TIMING_CHECK c)
    = if m ≠ 0 ∧ s.rd (E.Can.CHANNEL_MODE c) = 0 then 0 else s.rd (E.CanT.TIMING_CHECK c) := by
  unfold State.noteTiming
  by_cases hleave : m ≠ 0 ∧ s.rd (E.Can.CHANNEL_MODE c) = 0
  · have hok : s.timingCheck c = 0 := by
      simpa [State.chkChannelMode, need, hleave, stRange] using h
    rw [if_pos (by simpa using hleave), if_pos hleave, State.rd_wr_self, hok, Nat.zero_mod]
  · rw [if_neg (by simpa using hleave), if_neg hleave]

theorem exec_channelModeWrite (hc : c < 4) : exec (.channelModeWrite at_ w c m) s
    = .next ((s.advance at_).writeStep w (E.Can.CHANNEL_MODE c).key .u8 (.num m)) := by
  have hkey : canKey c 0 0x01 = (E.Can.CHANNEL_MODE c).key := by rw [canKey, if_pos hc]; rfl
  rw [← hkey]
  rfl

theorem State.channelModeWrite_completes (hc : c < 4) (h : s.accepts at_ w (E.Can.CHANNEL_MODE c).key .u8 (.num m)) :
    Completes (.channelModeWrite at_ w c m) s (fun t => t.odStatus = 0 ∧ t.rd (E.Can.CHANNEL_MODE c) = m
      ∧ t.rd (E.CanT.TIMING_CHECK c) = (if m ≠ 0 ∧ s.rd (E.Can.CHANNEL_MODE c) = 0 then 0 else s.rd (E.CanT.TIMING_CHECK c))
      ∧ t.now = s.instant at_ ∧ Frame retainParts ([E.Can.CHANNEL_MODE c, E.CanT.TIMING_CHECK c] ++ retainEnts) [28, 31] s t) := by
  obtain ⟨hi, hs⟩ := channelMode_key c
  obtain ⟨⟨row, e⟩, hrow, hr⟩ := exists_row_of_any (tableRow_channelMode c hc)
  simp only [Bool.and_eq_true, beq_iff_eq] at hr
  obtain ⟨rfl, hret⟩ := hr
  have hentry {x : State} (hb : x.power.bare = false) : x.entryAt (E.Can.CHANNEL_MODE c).key = .ok (row, E.Can.CHANNEL_MODE c) :=
    State.entryAt_of_tableRow hb (by omega) (by omega) (by omega) hrow
  have hbare := State.bare_of_servicesUp h.1
  have hchk : (s.advance at_).chkChannelMode c m = 0 := by
    rw [← State.chkOwner_channelMode (w := w) hc]
    exact State.chkOwner_of_accepts h (hentry hbare)
  obtain ⟨y, hy⟩ : ∃ y, y = (s.advance at_).noteTiming c m := ⟨_, rfl⟩
  have hnoted : Frame [] [E.CanT.TIMING_CHECK c] [] (s.advance at_) y := hy ▸ State.frame_noteTiming
  have hself : selfStored (E.Can.CHANNEL_MODE c).key = false := by
    simp [selfStored, hi, hs]
    omega
  have hstep : (s.advance at_).writeStep w (E.Can.CHANNEL_MODE c).key .u8 (.num m)
      = { ((y.putR (E.Can.CHANNEL_MODE c) (.num m)).mirrored (E.Can.CHANNEL_MODE c).key).servicesCommit with odStatus := 0 } := by
    rw [State.writeStep_of_accepts h fun _ => abortOf_eq_none (by omega) (by omega), State.commitWrite, State.reached_channelMode hc, ← hy,
      State.storeValue_retained (hentry (by rw [hnoted.2.1 .power (by simp)]; exact hbare)) (by omega) hself hret,
      State.effOwner_channelMode _ w hc]
  have hstored : Frame [.answer, .free, .twin, .ledger] retainEnts [28, 31] (y.putR (E.Can.CHANNEL_MODE c) (.num m))
      { ((y.putR (E.Can.CHANNEL_MODE c) (.num m)).mirrored (E.Can.CHANNEL_MODE c).key).servicesCommit with odStatus := 0 } :=
    (((Frame.refl ..).mirrored (by simp) (by simp) (by simp [retainEnts])).servicesCommit genEnts_sub_retainEnts).with_odStatus (by simp)
  have hput : Frame [.blocks] [E.Can.CHANNEL_MODE c, E.Restore.RETAINED_WRITES] [] y (y.putR (E.Can.CHANNEL_MODE c) (.num m)) :=
    (Frame.refl ..).putR (by simp) (by simp) (by simp)
  have hlow : ∀ f ∈ retainEnts, f.key / 256 < 0x3000 ∨ 0x3100 ≤ f.key / 256 := by decide
  have hmode : ∀ f ∈ retainEnts, (E.Can.CHANNEL_MODE c).key ≠ f.key := fun f hf heq => by
    have := hlow f hf
    omega
  have hcheck : (E.CanT.TIMING_CHECK c).key / 256 = 0x3001 + 64 * c := by
    simp only [E.CanT.TIMING_CHECK, entN]
    omega
  have htiming : ∀ f ∈ retainEnts, (E.CanT.TIMING_CHECK c).key ≠ f.key := fun f hf heq => by
    have := hlow f hf
    omega
  refine ⟨_, (exec_channelModeWrite hc).trans (by rw [hstep]), rfl, ?_, ?_, ?_, ?_⟩
  · rw [hstored.rd_can ⟨by omega, hmode⟩, State.rd, State.get_putR_self (hmode _ (by simp [retainEnts])), valNat]
  · rw [hstored.rd_can ⟨by omega, htiming⟩, hput.rd_can ⟨by omega, ?_⟩, hy, State.rd_noteTiming hchk]
    · rfl
    · simp only [List.forall_mem_cons]
      exact ⟨fun heq => by omega, htiming _ (by simp [retainEnts]), by simp⟩
  · simp [hy, State.noteTiming_now, State.instant]
  · refine Frame.of_advance (((hnoted.mono (by simp) (by simp) (by simp)).trans (hput.mono ?_ ?_ (by simp))).trans (hstored.mono ?_ ?_ (by simp)))
    · simp [retainParts]
    · simp [retainEnts]
    · simp [retainParts]
    · exact fun f hf => List.mem_append_right _ hf

end

/-! ## CHANNEL_MODE_EFFECT and CAN_INTEGRATION (R331) -/

section
variable {s : State} {c : Nat}

theorem State.modeEffect_leavesOff (hm : (s.chan c).mode = 0) (ht : (s.chan c).inTx = none) (ho : s.operating = true)
    (hr : s.power.reduced = false) (hw : s.rd (E.Can.CHANNEL_MODE c) ≠ 0) : s.modeEffect c
    = ((s.setChan c { s.chan c with mode := s.rd (E.Can.CHANNEL_MODE c), fd := s.on (E.Can.FD_ENABLE c), bit := s.nomPeriods c
                                    integrated := false, exception := false, busy := false }).wr
        (E.CanT.NOM_RATE c) (80000000 / max 1 (s.nomPeriods c))).wr (E.CanT.DATA_RATE c) (80000000 / max 1 (s.dataPeriods c)) := by
  have hmode : ¬ 0 = s.rd (E.Can.CHANNEL_MODE c) := Ne.symm hw
  simp only [State.modeEffect, hm, ht, ho, hr, hw, hmode, if_true, if_false, Bool.not_true, Bool.and_false, Bool.or_false, Bool.false_eq_true,
    decide_false, Option.isSome_none, decide_true]
  rfl

theorem State.modeEffect_entersOff (hm : (s.chan c).mode ≠ 0) (ht : (s.chan c).inTx = none) (hw : s.rd (E.Can.CHANNEL_MODE c) = 0) :
    s.modeEffect c = (s.setChan c { s.chan c with mode := 0, integrated := false, exception := false, busy := false }).wr
      (E.Can.CHANNEL_STATE c) 0 := by
  simp [State.modeEffect, hm, ht, hw]

/-- A frame in transmission ends under the old mode. -/
theorem State.modeEffect_inTx (ht : (s.chan c).inTx.isSome = true) :
    s.modeEffect c = s.setChan c { s.chan c with exception := false, busy := false } := by
  have hoffer : ((s.setChan c { s.chan c with exception := false, busy := false }).offer c)
      = s.setChan c { s.chan c with exception := false, busy := false } := State.offer_of_inTx (by rw [State.chan_setChan_self]; exact ht)
  simp only [State.modeEffect, ht, Bool.or_true, if_true]
  exact hoffer

/-- A bit rate of the 80 MHz clock fits its entry. -/
theorem rate_lt (n : Nat) : 80000000 / max 1 n < 2 ^ 32 := by
  have := Nat.div_le_self 80000000 (max 1 n)
  omega

/-- The channel as it takes part in traffic, before CHANNEL_STATE follows. -/
def State.joined (s : State) (c : Nat) : State :=
  ((s.setChan c { s.chan c with integrated := true, exception := false }).wr (E.Can.TEC c) 0).wr (E.Can.REC c) 0

theorem State.integration_eq (hm : (s.chan c).mode ≠ 0) (hi : (s.chan c).integrated = false) :
    s.integration c = ((s.joined c).canState c).offer c := by
  simp [State.integration, State.joined, hm, hi]

theorem State.chan_joined : (s.joined c).chan c = { s.chan c with integrated := true, exception := false } := State.chan_setChan_self

theorem State.rd_joined : (s.joined c).rd (E.Can.TEC c) = 0 ∧ (s.joined c).rd (E.Can.REC c) = 0 := by
  constructor
  · rw [State.joined, State.rd_wr_ne _ _ _ _ (by simp [E.Can.TEC, E.Can.REC, entN]), State.rd_wr_self, Nat.zero_mod]
  · rw [State.joined, State.rd_wr_self, Nat.zero_mod]

theorem State.frame_joined : Frame [.can] [E.Can.TEC c, E.Can.REC c] [] s (s.joined c) :=
  (((Frame.refl ..).setChan (by simp)).wr (by simp)).wr (by simp)

/-- With TEC and REC at 0 a channel that takes part is not ERROR_PASSIVE. -/
theorem State.nextChannelState_joined (hc : c < 4) (hm : (s.chan c).mode ≠ 0) : (s.joined c).nextChannelState c
    = if !s.active then 5 else if (s.chan c).mode = 2 then 4 else if s.rd (E.Can.CHANNEL_STATE c) = 3 then 3 else 1 := by
  have hstate : (s.joined c).rd (E.Can.CHANNEL_STATE c) = s.rd (E.Can.CHANNEL_STATE c) :=
    State.frame_joined.rd_can (by simp [E.Can.CHANNEL_STATE, E.Can.TEC, E.Can.REC, entN]; omega)
  have hrole : (s.joined c).active = s.active := by
    rw [State.active, State.frame_joined.rd (by simp) (by simp [E.Twin.TWIN_ROLE, E.Can.TEC, E.Can.REC, entN]; omega) (by simp), State.active]
  obtain ⟨htec, hrec⟩ := s.rd_joined (c := c)
  simp [State.nextChannelState, State.chan_joined, hm, hrole, hstate, htec, hrec]

theorem State.integration_completes {at_ : Nat} (hc : c < 4) (hm : (s.chan c).mode ≠ 0) (hi : (s.chan c).integrated = false) :
    Completes (.canIntegration at_ c) s (fun t => (t.chan c).integrated = true ∧ (t.chan c).mode = (s.chan c).mode
      ∧ t.rd (E.Can.TEC c) = 0 ∧ t.rd (E.Can.REC c) = 0
      ∧ (s.rd (E.Can.CHANNEL_STATE c) ≠ 3 →
          t.rd (E.Can.CHANNEL_STATE c) = (if s.active then (if (s.chan c).mode = 2 then 4 else 1) else 5))
      ∧ (∀ d, d ≠ c → t.chan d = s.chan d) ∧ t.now = s.instant at_
      ∧ Frame [.can] [E.Can.CHANNEL_STATE c, E.Can.TEC c, E.Can.REC c] [17 + 2 * c] s t) := by
  obtain ⟨x, hx⟩ : ∃ x, x = (s.advance at_).joined c := ⟨_, rfl⟩
  have hnext : x.nextChannelState c
      = if !s.active then 5 else if (s.chan c).mode = 2 then 4 else if s.rd (E.Can.CHANNEL_STATE c) = 3 then 3 else 1 := by
    rw [hx]
    exact State.nextChannelState_joined (s := s.advance at_) hc hm
  have hframe : Frame [.can] [E.Can.CHANNEL_STATE c] [17 + 2 * c] x ((x.canState c).offer c) :=
    (State.frame_canState_unrecorded (by rw [hnext]; split <;> [simp; (split <;> [simp; (split <;> simp)])])).offer (by simp)
  obtain ⟨_, _, hstate⟩ := (ChanKept.canState c x).self
  obtain ⟨_, _, hself⟩ := (x.canState c).chan_offer_self c
  have hchan : x.chan c = { s.chan c with integrated := true, exception := false } := by
    rw [hx]
    exact State.chan_joined
  obtain ⟨htec, hrec⟩ : x.rd (E.Can.TEC c) = 0 ∧ x.rd (E.Can.REC c) = 0 := by
    rw [hx]
    exact State.rd_joined
  refine ⟨_, congrArg Host.Outcome.next (State.integration_eq (s := s.advance at_) hm hi), ?_⟩
  rw [← hx]
  refine ⟨?_, ?_, ?_, ?_, fun h3 => ?_, fun d hd => ?_, ?_, ?_⟩
  · rw [hself, hstate, hchan]
  · rw [hself, hstate, hchan]
  · rw [hframe.rd_can (by simp [E.Can.TEC, E.Can.CHANNEL_STATE, entN]; omega), htec]
  · rw [hframe.rd_can (by simp [E.Can.REC, E.Can.CHANNEL_STATE, entN]; omega), hrec]
  · rw [State.rd_offer, State.rd_canState_self hc, hnext]
    cases s.active <;> simp [h3]
  · rw [State.chan_offer_ne hd, (ChanKept.canState c x).other d hd, hx]
    exact State.chan_setChan_ne (s := s.advance at_) hd
  · rw [State.now_offer, State.now_canState, hx]
    rfl
  · refine Frame.of_advance (a := at_) (Frame.trans ?_ (hframe.mono (by simp) (by simp) (by simp)))
    rw [hx]
    exact State.frame_joined.mono (by simp) (by simp) (by simp)

end

/-! ## BUS_OFF_RECOVERY (R343) -/

section
variable {s : State} {at_ c : Nat}

/-- The channel as it returns to ERROR_ACTIVE. -/
def State.recovered (s : State) (c : Nat) : State :=
  ((s.wr (E.Can.TEC c) 0).wr (E.Can.REC c) 0).wr (E.Can.CHANNEL_STATE c) 1

theorem State.busRecovery_eq (h3 : s.rd (E.Can.CHANNEL_STATE c) = 3)
    (hdue : ofTime96 (s.rd (E.Can.LAST_BUSOFF c)) / 65536 + (1408 * (s.chan c).bit * 25 / 2 : Nat) ≤ (s.now : Int)) :
    s.busRecovery c = ((s.recovered c).canEvent c 2 ((s.recovered c).headId c)).offer c := by
  unfold State.busRecovery
  extract_lets since y
  exact if_pos (by simpa [h3] using hdue)

theorem State.busOffRecovery_completes (hc : c < 4) (h3 : s.rd (E.Can.CHANNEL_STATE c) = 3)
    (hdue : ofTime96 (s.rd (E.Can.LAST_BUSOFF c)) / 65536 + (1408 * (s.chan c).bit * 25 / 2 : Nat) ≤ (s.instant at_ : Int)) :
    Completes (.busOffRecovery at_ c) s (fun t => t.rd (E.Can.CHANNEL_STATE c) = 1 ∧ t.rd (E.Can.TEC c) = 0 ∧ t.rd (E.Can.REC c) = 0
      ∧ t.now = s.instant at_ ∧ Frame [.can, .ledger] [E.Can.CHANNEL_STATE c, E.Can.TEC c, E.Can.REC c] [17 + 2 * c, 28] s t) := by
  obtain ⟨x, hx⟩ : ∃ x, x = (s.advance at_).recovered c := ⟨_, rfl⟩
  have hafter : Frame [.can, .ledger] [] [17 + 2 * c, 28] x ((x.canEvent c 2 (x.headId c)).offer c) :=
    ((Frame.refl ..).canEvent (by simp) (by simp)).offer (by simp)
  have hbefore : Frame [.can, .ledger] [E.Can.CHANNEL_STATE c, E.Can.TEC c, E.Can.REC c] [17 + 2 * c, 28] (s.advance at_) x := by
    rw [hx]
    exact (((Frame.refl ..).wr (by simp)).wr (by simp)).wr (by simp)
  refine ⟨_, congrArg Host.Outcome.next (State.busRecovery_eq (s := s.advance at_) h3 hdue), ?_⟩
  rw [← hx]
  refine ⟨?_, ?_, ?_, ?_, (hbefore.trans (hafter.mono (by simp) (by simp) (by simp))).of_advance⟩
  · rw [hafter.rd_can (by simp [E.Can.CHANNEL_STATE, entN]; omega), hx, State.recovered, State.rd_wr_self]
    rfl
  · rw [hafter.rd_can (by simp [E.Can.TEC, entN]; omega), hx, State.recovered,
      State.rd_wr_ne _ _ _ _ (by simp [E.Can.TEC, E.Can.CHANNEL_STATE, entN]), State.rd_wr_ne _ _ _ _ (by simp [E.Can.TEC, E.Can.REC, entN]),
      State.rd_wr_self, Nat.zero_mod]
  · rw [hafter.rd_can (by simp [E.Can.REC, entN]; omega), hx, State.recovered,
      State.rd_wr_ne _ _ _ _ (by simp [E.Can.REC, E.Can.CHANNEL_STATE, entN]), State.rd_wr_self, Nat.zero_mod]
  · rw [State.now_offer, State.now_canEvent, hx]
    rfl

end

/-! ## The transceiver (R351) -/

section
variable {s : State} {c new : Nat}

/-- The bits of XCVR_STATE that are new. -/
def State.freshFaults (s : State) (c new : Nat) : List Nat :=
  (List.range 6).filter (fun i => bitOf new i && !bitOf (s.rd (E.CanT.XCVR_STATE c)) i)

/-- XCVR_STATE and XCVR_FAULTS as new bits arrive, before the events. -/
def State.faultsNoted (s : State) (c new : Nat) : State :=
  (s.wr (E.CanT.XCVR_STATE c) new).addTo (E.CanT.XCVR_FAULTS c) (s.freshFaults c new).length

theorem State.setXcvr_eq (s : State) (c new : Nat) :
    s.setXcvr c new = (s.freshFaults c new).foldl (fun y _ => y.canEvent c 7 new) (s.faultsNoted c new) := rfl

theorem State.frame_setXcvr_events : Frame [.can, .ledger] [] [17 + 2 * c, 28] (s.faultsNoted c new) (s.setXcvr c new) := by
  rw [State.setXcvr_eq]
  exact (Frame.refl ..).foldl fun y _ _ hy => hy.canEvent (by simp) (by simp)

theorem State.frame_setXcvr :
    Frame [.can, .ledger] [E.CanT.XCVR_STATE c, E.CanT.XCVR_FAULTS c] [17 + 2 * c, 28] s (s.setXcvr c new) := by
  have hnoted : Frame [.can, .ledger] [E.CanT.XCVR_STATE c, E.CanT.XCVR_FAULTS c] [17 + 2 * c, 28] s (s.faultsNoted c new) :=
    ((Frame.refl ..).wr (by simp)).addTo (by simp)
  exact hnoted.trans (State.frame_setXcvr_events.mono (by simp) (by simp) (by simp))

@[simp] theorem State.now_setXcvr : (s.setXcvr c new).now = s.now := by
  have hevents (l : List Nat) (y : State) : (l.foldl (fun y _ => y.canEvent c 7 new) y).now = y.now := by
    induction l generalizing y with
    | nil => rfl
    | cons _ l ih => exact (ih _).trans (State.now_canEvent 7 new)
  rw [State.setXcvr_eq, hevents]
  rfl

theorem State.rd_setXcvr_state (hc : c < 4) : (s.setXcvr c new).rd (E.CanT.XCVR_STATE c) = new % 2 ^ 16 := by
  rw [State.frame_setXcvr_events.rd_can (by simp [E.CanT.XCVR_STATE, entN]; omega), State.faultsNoted,
    State.rd_addTo_ne _ _ _ _ (by simp [E.CanT.XCVR_STATE, E.CanT.XCVR_FAULTS, entN]), State.rd_wr_self]
  rfl

theorem State.rd_setXcvr_faults (hc : c < 4) : (s.setXcvr c new).rd (E.CanT.XCVR_FAULTS c)
    = min (2 ^ 32 - 1) (s.rd (E.CanT.XCVR_FAULTS c) + (s.freshFaults c new).length) := by
  rw [State.frame_setXcvr_events.rd_can (by simp [E.CanT.XCVR_FAULTS, entN]; omega), State.faultsNoted, State.addTo, State.rd_wr_self,
    State.rd_wr_ne _ _ _ _ (by simp [E.CanT.XCVR_FAULTS, E.CanT.XCVR_STATE, entN])]
  exact Nat.mod_eq_of_lt (by simp only [E.CanT.XCVR_FAULTS, entN, Ty.bits]; omega)

/-- Setting bit 0 is new where the bit was clear. -/
theorem State.freshFaults_txd (s : State) (c : Nat) :
    (s.freshFaults c (setBit (s.rd (E.CanT.XCVR_STATE c)) 0 true)).length = if bitOf (s.rd (E.CanT.XCVR_STATE c)) 0 then 0 else 1 := by
  have hothers : ∀ i ∈ [1, 2, 3, 4, 5], (bitOf (setBit (s.rd (E.CanT.XCVR_STATE c)) 0 true) i && !bitOf (s.rd (E.CanT.XCVR_STATE c)) i) = false := by
    intro i hi
    have hne : i ≠ 0 := by rintro rfl; simp at hi
    simp [bitOf_setBit_ne _ _ hne]
  have hrange : List.range 6 = 0 :: [1, 2, 3, 4, 5] := rfl
  rw [State.freshFaults, hrange, List.filter_cons, List.filter_eq_nil_iff.2 (by simp)]
  cases bitOf (s.rd (E.CanT.XCVR_STATE c)) 0 <;> simp

end

/-- The six observed bits of XCVR_STATE fit its 16 bits. -/
theorem xcvrBits_lt (m : XcvrMeasure) : ofBool m.released + 2 * ofBool m.dominant + 4 * ofBool (lineFault m.canh) + 8 * ofBool (lineFault m.canl)
    + 16 * ofBool m.supply + 32 * ofBool m.thermal < 2 ^ 16 := by
  have hbit (b : Bool) : ofBool b ≤ 1 := by cases b <;> decide
  have := hbit m.released
  have := hbit m.dominant
  have := hbit (lineFault m.canh)
  have := hbit (lineFault m.canl)
  have := hbit m.supply
  have := hbit m.thermal
  omega

section
variable {s : State} {at_ c x : Nat} {m : XcvrMeasure}

theorem State.xcvrMeasure_completes (hc : c < 4) (hh : m.canh < 2 ^ 32) (hl : m.canl < 2 ^ 32)
    (hx : x = ofBool m.released + 2 * ofBool m.dominant + 4 * ofBool (lineFault m.canh) + 8 * ofBool (lineFault m.canl)
        + 16 * ofBool m.supply + 32 * ofBool m.thermal) :
    Completes (.xcvrMeasure at_ c m) s (fun t => t.rd (E.CanT.CANH_V c) = m.canh ∧ t.rd (E.CanT.CANL_V c) = m.canl
      ∧ t.rd (E.CanT.XCVR_STATE c) = x
      ∧ t.rd (E.CanT.XCVR_FAULTS c) = min (2 ^ 32 - 1) (s.rd (E.CanT.XCVR_FAULTS c)
          + ((List.range 6).filter (fun i => bitOf x i && !bitOf (s.rd (E.CanT.XCVR_STATE c)) i)).length)
      ∧ t.now = s.instant at_
      ∧ Frame [.can, .ledger] [E.CanT.CANH_V c, E.CanT.CANL_V c, E.CanT.XCVR_STATE c, E.CanT.XCVR_FAULTS c] [17 + 2 * c, 28] s t) := by
  obtain ⟨y, hy⟩ : ∃ y, y = ((s.advance at_).wr (E.CanT.CANH_V c) m.canh).wr (E.CanT.CANL_V c) m.canl := ⟨_, rfl⟩
  have heq : (s.advance at_).xcvrMeasure c m = y.setXcvr c x := by rw [hy, hx]; rfl
  have hvolts : Frame [] [E.CanT.CANH_V c, E.CanT.CANL_V c] [] (s.advance at_) y := by
    rw [hy]
    exact ((Frame.refl ..).wr (by simp)).wr (by simp)
  have hold : y.rd (E.CanT.XCVR_STATE c) = s.rd (E.CanT.XCVR_STATE c) :=
    hvolts.rd_can (by simp [E.CanT.XCVR_STATE, E.CanT.CANH_V, E.CanT.CANL_V, entN]; omega)
  refine ⟨_, congrArg Host.Outcome.next heq, ?_, ?_, ?_, ?_, ?_, ?_⟩
  · rw [State.frame_setXcvr.rd_can (by simp [E.CanT.CANH_V, E.CanT.XCVR_STATE, E.CanT.XCVR_FAULTS, entN]; omega), hy,
      State.rd_wr_ne _ _ _ _ (by simp [E.CanT.CANH_V, E.CanT.CANL_V, entN]), State.rd_wr_self]
    exact Nat.mod_eq_of_lt hh
  · rw [State.frame_setXcvr.rd_can (by simp [E.CanT.CANL_V, E.CanT.XCVR_STATE, E.CanT.XCVR_FAULTS, entN]; omega), hy, State.rd_wr_self]
    exact Nat.mod_eq_of_lt hl
  · rw [State.rd_setXcvr_state hc, hx]
    exact Nat.mod_eq_of_lt (xcvrBits_lt m)
  · rw [State.rd_setXcvr_faults hc, State.freshFaults, hold,
      hvolts.rd_can (by simp [E.CanT.XCVR_FAULTS, E.CanT.CANH_V, E.CanT.CANL_V, entN]; omega), State.rd_advance]
  · rw [State.now_setXcvr, hy, State.wr_now, State.wr_now]
    rfl
  · exact ((hvolts.mono (by simp) (by simp) (by simp)).trans (State.frame_setXcvr.mono (by simp) (by simp) (by simp))).of_advance

theorem State.txdDominantTimeout_completes (hc : c < 4) :
    Completes (.txdDominantTimeout at_ c) s (fun t => bitOf (t.rd (E.CanT.XCVR_STATE c)) 0 = true
      ∧ (∀ i < 6, i ≠ 0 → bitOf (t.rd (E.CanT.XCVR_STATE c)) i = bitOf (s.rd (E.CanT.XCVR_STATE c)) i)
      ∧ t.rd (E.CanT.XCVR_FAULTS c) = min (2 ^ 32 - 1) (s.rd (E.CanT.XCVR_FAULTS c) + (if bitOf (s.rd (E.CanT.XCVR_STATE c)) 0 then 0 else 1))
      ∧ t.now = s.instant at_ ∧ Frame [.can, .ledger] [E.CanT.XCVR_STATE c, E.CanT.XCVR_FAULTS c] [17 + 2 * c, 28] s t) := by
  refine ⟨(s.advance at_).txdTimeout c, rfl, ?_⟩
  rw [State.txdTimeout]
  refine ⟨?_, fun i hi h0 => ?_, ?_, State.now_setXcvr, State.frame_setXcvr.of_advance⟩
  · rw [State.rd_setXcvr_state hc, bitOf_mod _ (by omega), bitOf_setBit_self]
  · rw [State.rd_setXcvr_state hc, bitOf_mod _ (by omega), bitOf_setBit_ne _ _ h0, State.rd_advance]
  · rw [State.rd_setXcvr_faults hc, State.freshFaults_txd, State.rd_advance, State.rd_advance]

end

/-- Settles O35: each command is one change of its channel or of its transceiver, and what follows it touches RXQ and the ledger alone. -/
theorem canChannelsFollowTheirMode : Obligations.CanChannelsFollowTheirMode := by
  unfold Obligations.CanChannelsFollowTheirMode
  refine ⟨fun s at_ c m w hc h => State.channelModeWrite_completes hc h, fun s at_ c hc hm ht ho hr hw => ?_, fun s at_ c hc hm ht hw => ?_,
    fun s at_ c hc ht => ?_, fun s at_ c hc hm hi => State.integration_completes hc hm hi,
    fun s at_ c hc h3 hdue => State.busOffRecovery_completes hc h3 hdue,
    fun s at_ c m hc hh hl x hx => State.xcvrMeasure_completes hc hh hl hx, fun s at_ c hc => State.txdDominantTimeout_completes hc⟩
  · refine ⟨_, congrArg Host.Outcome.next (State.modeEffect_leavesOff (s := s.advance at_) hm ht ho hr hw), ?_, ?_, ?_, fun d hd => ?_, rfl,
      ((((Frame.refl ..).setChan (by simp)).wr (by simp)).wr (by simp)).of_advance⟩
    · rw [State.chan_wr, State.chan_wr, State.chan_setChan_self]
      rfl
    · rw [State.rd_wr_ne _ _ _ _ (by simp [E.CanT.NOM_RATE, E.CanT.DATA_RATE, entN]), State.rd_wr_self]
      exact Nat.mod_eq_of_lt (rate_lt _)
    · rw [State.rd_wr_self]
      exact Nat.mod_eq_of_lt (rate_lt _)
    · rw [State.chan_wr, State.chan_wr, State.chan_setChan_ne hd, State.chan_advance]
  · refine ⟨_, congrArg Host.Outcome.next (State.modeEffect_entersOff (s := s.advance at_) hm ht hw), ?_, ?_, fun d hd => ?_, rfl,
      (((Frame.refl ..).setChan (by simp)).wr (by simp)).of_advance⟩
    · rw [State.chan_wr, State.chan_setChan_self]
      rfl
    · rw [State.rd_wr_self, Nat.zero_mod]
    · rw [State.chan_wr, State.chan_setChan_ne hd, State.chan_advance]
  · refine ⟨_, congrArg Host.Outcome.next (State.modeEffect_inTx (s := s.advance at_) ht), ?_, fun d hd => ?_, rfl,
      ((Frame.refl ..).setChan (by simp)).of_advance⟩
    · rw [State.chan_setChan_self]
      rfl
    · rw [State.chan_setChan_ne hd, State.chan_advance]

end Sys2Proof.Machine
end

section
/-!
O38. Received CAN frames and receive errors (R331, R342, R344, R346, R347).
-/
namespace Sys2Proof.Machine

/-- Channel `c` takes part in traffic: it is not OFF, integrated, in no protocol exception and not bus-off (R331, R343). -/
structure TakesPart (s : State) (c : Nat) : Prop where
  mode : (s.chan c).mode ≠ 0
  integrated : (s.chan c).integrated = true
  exception : (s.chan c).exception = false
  notBusOff : s.rd (E.Can.CHANNEL_STATE c) ≠ 3

section
variable {ps : List Part} {es : List Ent} {rs : List Nat} {s x : State} {at_ c k kind : Nat} {f : CanFrame} {dominant : Bool}

/-! ## A frame that the channel takes -/

/-- A command's instant leaves the channel as it is. -/
theorem TakesPart.advance (h : TakesPart s c) : TakesPart (s.advance at_) c := ⟨h.mode, h.integrated, h.exception, h.notBusOff⟩

/-- A channel that is OFF, not integrated, in a protocol exception or bus-off takes no part in traffic. -/
def State.deaf (s : State) (c : Nat) : Bool :=
  (s.chan c).mode = 0 || !(s.chan c).integrated || (s.chan c).exception || s.rd (E.Can.CHANNEL_STATE c) == 3

theorem State.deaf_eq_true : s.deaf c = true ↔ (s.chan c).mode = 0 ∨ (s.chan c).integrated = false ∨ (s.chan c).exception = true
    ∨ s.rd (E.Can.CHANNEL_STATE c) = 3 := by
  simp [State.deaf, or_assoc]

theorem TakesPart.deaf_eq_false (h : TakesPart s c) : s.deaf c = false := by
  simp [State.deaf, h.mode, h.integrated, h.exception, h.notBusOff]

/-- The bus is idle after a frame, one with an own identifier is counted, and REC follows a valid reception (R344, log 19). -/
def State.frameSeen (s : State) (c : Nat) (f : CanFrame) : State :=
  let y := s.setChan c { s.chan c with busy := false }
  let y := if y.ownId c f.id then y.inc (E.Can.FOREIGN_SAME_ID c) else y
  if (s.chan c).mode = 1 then y.wr (E.Can.REC c) (recAfterRx (y.rd (E.Can.REC c))) else y

/-- What the filters make of a frame (R346). -/
def State.filtered (s : State) (c : Nat) (f : CanFrame) : State :=
  match s.canFilter c f with
  | some k => s.acceptFrame c k f
  | none => if s.on (E.Can.RX_ACCEPT_ALL c) then s.acceptFrame c 0xFF f else s.inc (E.Can.RX_FILTERED c)

theorem State.canReceived_deaf (h : s.deaf c = true) : s.canReceived c f = s := if_pos h

theorem State.canReceived_exception (h : TakesPart s c) (hf : f.fdf = true) (hfd : (s.chan c).fd = false) :
    s.canReceived c f = (s.setChan c { s.chan c with exception := true }).inc (E.Can.FD_EXCEPTIONS c) :=
  (if_neg (by rw [← State.deaf, h.deaf_eq_false]; simp)).trans (if_pos (by simp [hf, hfd]))

theorem State.canReceived_taken (h : TakesPart s c) (hf : f.fdf = false ∨ (s.chan c).fd = true) :
    s.canReceived c f = ((((s.frameSeen c f).filtered c f).canState c).offer c) :=
  (if_neg (by rw [← State.deaf, h.deaf_eq_false]; simp)).trans (if_neg (by rcases hf with hf | hf <;> simp [hf]))

theorem State.frame_frameSeen : Frame [.can] [E.Can.FOREIGN_SAME_ID c, E.Can.REC c] [] s (s.frameSeen c f) := by
  have hidle : Frame [.can] [E.Can.FOREIGN_SAME_ID c, E.Can.REC c] [] s (s.setChan c { s.chan c with busy := false }) :=
    (Frame.refl ..).setChan (by simp)
  unfold State.frameSeen
  dsimp only
  split <;> split
  · exact (hidle.inc (by simp)).wr (by simp)
  · exact hidle.wr (by simp)
  · exact hidle.inc (by simp)
  · exact hidle

theorem State.chan_frameSeen : (s.frameSeen c f).chan c = { s.chan c with busy := false } := by
  unfold State.frameSeen
  dsimp only
  split <;> split <;> exact State.chan_setChan_self

theorem State.now_frameSeen : (s.frameSeen c f).now = s.now := by
  unfold State.frameSeen
  dsimp only
  split <;> split <;> rfl

theorem State.ownId_setChan {h : CanSt} : (s.setChan c h).ownId c k = s.ownId c k := rfl

theorem State.rd_frameSeen_foreign : (s.frameSeen c f).rd (E.Can.FOREIGN_SAME_ID c)
    = if s.ownId c f.id then min (2 ^ 32 - 1) (s.rd (E.Can.FOREIGN_SAME_ID c) + 1) else s.rd (E.Can.FOREIGN_SAME_ID c) := by
  have hne : (E.Can.FOREIGN_SAME_ID c).key ≠ (E.Can.REC c).key := by simp [E.Can.FOREIGN_SAME_ID, E.Can.REC, entN]
  unfold State.frameSeen
  dsimp only
  rw [State.ownId_setChan]
  split <;> split
  · rw [State.rd_wr_ne _ _ _ _ hne, State.rd_inc_self, State.rd_setChan]
    rfl
  · rw [State.rd_wr_ne _ _ _ _ hne, State.rd_setChan]
  · rw [State.rd_inc_self, State.rd_setChan]
    rfl
  · exact State.rd_setChan

/-- The filters and RX_ACCEPT_ALL stand while a frame is counted. -/
theorem State.canFilter_frameSeen (hc : c < 4) : (s.frameSeen c f).canFilter c f = s.canFilter c f := by
  have hrd {e : Ent} (he : 0x3000 ≤ e.key / 256 ∧ ∀ g ∈ [E.Can.FOREIGN_SAME_ID c, E.Can.REC c], e.key ≠ g.key) :
      (s.frameSeen c f).rd e = s.rd e := State.frame_frameSeen.rd_can he
  have hid (k : Nat) := hrd (e := E.CanF.FILTER_ID c k) (by simp [E.CanF.FILTER_ID, E.Can.FOREIGN_SAME_ID, E.Can.REC, entN]; omega)
  have hmask (k : Nat) := hrd (e := E.CanF.FILTER_MASK c k) (by simp [E.CanF.FILTER_MASK, E.Can.FOREIGN_SAME_ID, E.Can.REC, entN]; omega)
  have hen (k : Nat) := hrd (e := E.CanF.FILTER_ENABLE c k) (by simp [E.CanF.FILTER_ENABLE, E.Can.FOREIGN_SAME_ID, E.Can.REC, entN]; omega)
  simp only [State.canFilter, State.on, hid, hmask, hen]

theorem State.acceptAll_frameSeen (hc : c < 4) : (s.frameSeen c f).on (E.Can.RX_ACCEPT_ALL c) = s.on (E.Can.RX_ACCEPT_ALL c) := by
  rw [State.on, State.frame_frameSeen.rd_can (by simp [E.Can.RX_ACCEPT_ALL, E.Can.FOREIGN_SAME_ID, E.Can.REC, entN]; omega), State.on]

/-! ## An accepted frame (R346, R347) -/

/-- The counts of an accepted frame. -/
def State.acceptNoted (s : State) (c filter : Nat) : State :=
  if filter < 16 then (s.inc (E.Can.RX_FRAMES c)).inc (E.CanF.FILTER_HITS c filter) else s.inc (E.Can.RX_FRAMES c)

/-- The RXQ entry of an accepted frame (Table CAN-5). -/
def acceptedEntry (f : CanFrame) (filter : Nat) : List Byte :=
  rxqEntry 1 (ofBool (decide (2 ^ 31 ≤ f.id)) + 2 * ofBool f.fdf + 4 * ofBool f.brs + 8 * ofBool f.esi + 16 * ofBool f.rtr)
    f.data.length filter f.id f.sof f.data

theorem State.acceptFrame_of_room {y : State} {filter : Nat} (hy : y = s.acceptNoted c filter) (hc : c < 4) (ha : y.active = true)
    (hl : (y.chan c).lost = 0) (hf : y.fill (17 + 2 * c) < 64) :
    s.acceptFrame c filter f = y.append (17 + 2 * c) (.bytes (acceptedEntry f filter)) := by
  have hrxq := State.rxq_of_room (b := acceptedEntry f filter) hc ha hl hf
  rw [hy, State.acceptNoted] at hrxq ⊢
  simp only [State.acceptFrame]
  exact (if_neg (by rw [← acceptedEntry, hrxq]; simp)).trans (congrArg Prod.fst hrxq)

/-- A module's role stands where the frame does not name it. -/
theorem Frame.active_can (h : Frame ps es rs s x) (hp : Part.rt ∉ ps) (he : ∀ e ∈ es, E.Twin.TWIN_ROLE.key ≠ e.key)
    (hr : ∀ r ∈ rs, E.Twin.TWIN_ROLE.key / 256 ≠ 0x1B00 + r) : x.active = s.active := by
  rw [State.active, h.rd hp he hr, State.active]

theorem Frame.ring_kept (h : Frame ps es rs s x) (hk : k ∉ rs) : x.ring k = s.ring k := by
  obtain ⟨-, -, -, hring⟩ := h
  exact hring k hk

theorem State.frame_acceptNoted {filter : Nat} (hk : filter < 16 → filter = k) :
    Frame [] [E.Can.RX_FRAMES c, E.CanF.FILTER_HITS c k] [] s (s.acceptNoted c filter) := by
  unfold State.acceptNoted
  split
  next h => exact hk h ▸ ((Frame.refl ..).inc (by simp)).inc (by simp)
  · exact (Frame.refl ..).inc (by simp)

theorem State.chan_acceptNoted {filter d : Nat} : (s.acceptNoted c filter).chan d = s.chan d := by
  unfold State.acceptNoted
  split <;> rfl

theorem State.now_acceptNoted {filter : Nat} : (s.acceptNoted c filter).now = s.now := by
  unfold State.acceptNoted
  split <;> rfl

theorem State.rd_acceptNoted_frames {filter : Nat} :
    (s.acceptNoted c filter).rd (E.Can.RX_FRAMES c) = min (2 ^ 64 - 1) (s.rd (E.Can.RX_FRAMES c) + 1) := by
  unfold State.acceptNoted
  split
  · rw [State.rd_inc_ne _ _ _ (by simp [E.Can.RX_FRAMES, E.CanF.FILTER_HITS, entN]; omega), State.rd_inc_self]
    rfl
  · rw [State.rd_inc_self]
    rfl

theorem State.rd_acceptNoted_hits (hk : k < 16) :
    (s.acceptNoted c k).rd (E.CanF.FILTER_HITS c k) = min (2 ^ 32 - 1) (s.rd (E.CanF.FILTER_HITS c k) + 1) := by
  rw [State.acceptNoted, if_pos hk, State.rd_inc_self, State.rd_inc_ne _ _ _ (by simp [E.Can.RX_FRAMES, E.CanF.FILTER_HITS, entN]; omega)]
  rfl

theorem State.rd_acceptNoted_noFilter : (s.acceptNoted c 0xFF).rd (E.CanF.FILTER_HITS c k) = s.rd (E.CanF.FILTER_HITS c k) := by
  rw [State.acceptNoted, if_neg (by omega), State.rd_inc_ne _ _ _ (by simp [E.Can.RX_FRAMES, E.CanF.FILTER_HITS, entN]; omega)]


theorem State.filtered_accepted (h : s.canFilter c f = some k ∨ s.canFilter c f = none ∧ s.on (E.Can.RX_ACCEPT_ALL c) = true) :
    s.filtered c f = s.acceptFrame c (if s.canFilter c f = none then 0xFF else k) f := by
  obtain h | ⟨h, hall⟩ := h
  · simp [State.filtered, h]
  · simp [State.filtered, h, hall]

theorem State.filtered_none (h : s.canFilter c f = none) (hall : s.on (E.Can.RX_ACCEPT_ALL c) = false) :
    s.filtered c f = s.inc (E.Can.RX_FILTERED c) := by
  simp [State.filtered, h, hall]

/-- An accepted frame of a channel whose RXQ has room: the counts, then the entry, then CHANNEL_STATE and the next frame. -/
theorem State.canReceived_accepted {filter : Nat} (hc : c < 4) (h : TakesPart s c) (hf : f.fdf = false ∨ (s.chan c).fd = true)
    (ha : s.active = true) (hl : (s.chan c).lost = 0) (hfill : s.fill (17 + 2 * c) < 64)
    (hsel : s.canFilter c f = some k ∨ s.canFilter c f = none ∧ s.on (E.Can.RX_ACCEPT_ALL c) = true)
    (hfilter : filter = if s.canFilter c f = none then 0xFF else k) :
    s.canReceived c f = (((((s.frameSeen c f).acceptNoted c filter).append (17 + 2 * c) (.bytes (acceptedEntry f filter))).canState c).offer c) := by
  have hseen := State.frame_frameSeen (s := s) (c := c) (f := f)
  have hnoted := State.frame_acceptNoted (s := s.frameSeen c f) (c := c) (k := filter) (filter := filter) fun _ => rfl
  have hactive : ((s.frameSeen c f).acceptNoted c filter).active = true := by
    rw [hnoted.active_can (by simp) (by simp [E.Twin.TWIN_ROLE, E.Can.RX_FRAMES, E.CanF.FILTER_HITS, entN]; omega) (by simp),
      hseen.active_can (by simp) (by simp [E.Twin.TWIN_ROLE, E.Can.FOREIGN_SAME_ID, E.Can.REC, entN]; omega) (by simp), ha]
  have hlost : (((s.frameSeen c f).acceptNoted c filter).chan c).lost = 0 := by rw [State.chan_acceptNoted, State.chan_frameSeen, hl]
  have hroom : ((s.frameSeen c f).acceptNoted c filter).fill (17 + 2 * c) < 64 := by
    rw [State.fill, hnoted.ring_kept (by simp), hseen.ring_kept (by simp)]
    exact hfill
  have htaken : (s.frameSeen c f).filtered c f = (s.frameSeen c f).acceptFrame c filter f := by
    rw [← State.canFilter_frameSeen hc, ← State.acceptAll_frameSeen (f := f) hc] at hsel
    rw [State.filtered_accepted hsel, hfilter, State.canFilter_frameSeen hc]
  rw [State.canReceived_taken h hf, htaken, State.acceptFrame_of_room rfl hc hactive hlost hroom]

theorem State.frameAccepted_completes (hc : c < 4) (h : TakesPart s c) (hf : f.fdf = false ∨ (s.chan c).fd = true)
    (ha : s.active = true) (hl : (s.chan c).lost = 0) (hfill : s.fill (17 + 2 * c) < 64) (hk : k < 16)
    (hsel : s.canFilter c f = some k ∨ s.canFilter c f = none ∧ s.on (E.Can.RX_ACCEPT_ALL c) = true) :
    Completes (.canFrameReceived at_ c f) s (fun t => (t.ring (17 + 2 * c)).q.take ((s.ring (17 + 2 * c)).q.length + 1) = (s.ring (17 + 2 * c)).q
        ++ [.bytes (acceptedEntry f (if s.canFilter c f = none then 0xFF else k))]
      ∧ t.rd (E.Can.RX_FRAMES c) = min (2 ^ 64 - 1) (s.rd (E.Can.RX_FRAMES c) + 1)
      ∧ t.rd (E.CanF.FILTER_HITS c k) = (if s.canFilter c f = none then s.rd (E.CanF.FILTER_HITS c k)
          else min (2 ^ 32 - 1) (s.rd (E.CanF.FILTER_HITS c k) + 1))
      ∧ t.rd (E.Can.FOREIGN_SAME_ID c) = (if s.ownId c f.id then min (2 ^ 32 - 1) (s.rd (E.Can.FOREIGN_SAME_ID c) + 1)
          else s.rd (E.Can.FOREIGN_SAME_ID c))
      ∧ t.now = s.instant at_ ∧ Frame [.can, .ledger] [E.Can.RX_FRAMES c, E.CanF.FILTER_HITS c k, E.Can.FOREIGN_SAME_ID c, E.Can.REC c,
          E.Can.CHANNEL_STATE c] [17 + 2 * c, 28] s t) := by
  obtain ⟨filter, hfilter⟩ : ∃ n, n = if s.canFilter c f = none then 0xFF else k := ⟨_, rfl⟩
  obtain ⟨y, hy⟩ : ∃ y, y = (s.advance at_).frameSeen c f := ⟨_, rfl⟩
  obtain ⟨z, hz⟩ : ∃ z, z = (y.acceptNoted c filter).append (17 + 2 * c) (.bytes (acceptedEntry f filter)) := ⟨_, rfl⟩
  have heq : (s.advance at_).canReceived c f = (z.canState c).offer c := by
    rw [hz, hy]
    exact State.canReceived_accepted hc h.advance hf ha hl hfill hsel hfilter
  have hsame : filter < 16 → filter = k := by
    rw [hfilter]
    split <;> omega
  have hseen : Frame [.can] [E.Can.FOREIGN_SAME_ID c, E.Can.REC c] [] (s.advance at_) y := hy ▸ State.frame_frameSeen
  have hnoted : Frame [] [E.Can.RX_FRAMES c, E.CanF.FILTER_HITS c k] [] y (y.acceptNoted c filter) := State.frame_acceptNoted hsame
  have hentry : Frame [.can, .ledger] [E.Can.CHANNEL_STATE c] [17 + 2 * c, 28] (y.acceptNoted c filter) ((z.canState c).offer c) := by
    rw [hz]
    exact (((Frame.refl ..).append (by simp)).canState (by simp) (by simp) (by simp)).offer (by simp)
  rw [← hfilter]
  refine ⟨_, congrArg Host.Outcome.next heq, ?_, ?_, ?_, ?_, ?_, ?_⟩
  · have hq : (z.ring (17 + 2 * c)).q = (s.ring (17 + 2 * c)).q ++ [.bytes (acceptedEntry f filter)] := by
      rw [hz, State.ring_append_self, hnoted.ring_kept (by simp), hseen.ring_kept (by simp)]
      rfl
    have hpre := State.prefix_canState (s := z) hc
    rw [List.prefix_iff_eq_take, hq, List.length_append] at hpre
    rw [State.ring_offer]
    exact hpre.symm
  · rw [hentry.rd_can (by simp [E.Can.RX_FRAMES, E.Can.CHANNEL_STATE, entN]; omega), State.rd_acceptNoted_frames,
      hseen.rd_can (by simp [E.Can.RX_FRAMES, E.Can.FOREIGN_SAME_ID, E.Can.REC, entN]; omega), State.rd_advance]
  · have hbefore : y.rd (E.CanF.FILTER_HITS c k) = s.rd (E.CanF.FILTER_HITS c k) :=
      hseen.rd_can (by simp [E.CanF.FILTER_HITS, E.Can.FOREIGN_SAME_ID, E.Can.REC, entN]; omega)
    rw [hentry.rd_can (by simp [E.CanF.FILTER_HITS, E.Can.CHANNEL_STATE, entN]; omega), hfilter]
    split
    · rw [State.rd_acceptNoted_noFilter, hbefore]
    · rw [State.rd_acceptNoted_hits hk, hbefore]
  · rw [hentry.rd_can (by simp [E.Can.FOREIGN_SAME_ID, E.Can.CHANNEL_STATE, entN]; omega),
      hnoted.rd_can (by simp [E.Can.FOREIGN_SAME_ID, E.Can.RX_FRAMES, E.CanF.FILTER_HITS, entN]; omega), hy, State.rd_frameSeen_foreign]
    rfl
  · rw [State.now_offer, State.now_canState, hz, State.append_now, State.now_acceptNoted, hy, State.now_frameSeen]
    rfl
  · exact (((hseen.mono (by simp) (by simp) (by simp)).trans (hnoted.mono (by simp) (by simp) (by simp))).trans
      (hentry.mono (by simp) (by simp) (by simp))).of_advance

/-! ## A frame that no filter takes, a protocol exception, and errors -/

theorem State.frameFiltered_completes (hc : c < 4) (h : TakesPart s c) (hf : f.fdf = false ∨ (s.chan c).fd = true)
    (hnone : s.canFilter c f = none) (hall : s.on (E.Can.RX_ACCEPT_ALL c) = false) :
    Completes (.canFrameReceived at_ c f) s (fun t => t.rd (E.Can.RX_FILTERED c) = min (2 ^ 32 - 1) (s.rd (E.Can.RX_FILTERED c) + 1)
      ∧ t.rd (E.Can.RX_FRAMES c) = s.rd (E.Can.RX_FRAMES c)
      ∧ t.now = s.instant at_ ∧ Frame [.can, .ledger] [E.Can.RX_FILTERED c, E.Can.FOREIGN_SAME_ID c, E.Can.REC c,
          E.Can.CHANNEL_STATE c] [17 + 2 * c, 28] s t) := by
  obtain ⟨y, hy⟩ : ∃ y, y = (s.advance at_).frameSeen c f := ⟨_, rfl⟩
  have heq : (s.advance at_).canReceived c f = ((y.inc (E.Can.RX_FILTERED c)).canState c).offer c := by
    have hdropped : y.filtered c f = y.inc (E.Can.RX_FILTERED c) :=
      State.filtered_none (by rw [hy, State.canFilter_frameSeen hc]; exact hnone) (by rw [hy, State.acceptAll_frameSeen hc]; exact hall)
    rw [← hdropped, hy]
    exact State.canReceived_taken h.advance hf
  have hseen : Frame [.can] [E.Can.FOREIGN_SAME_ID c, E.Can.REC c] [] (s.advance at_) y := hy ▸ State.frame_frameSeen
  have hafter : Frame [.can, .ledger] [E.Can.CHANNEL_STATE c] [17 + 2 * c, 28] (y.inc (E.Can.RX_FILTERED c))
      (((y.inc (E.Can.RX_FILTERED c)).canState c).offer c) := State.frame_canState.offer (by simp)
  refine ⟨_, congrArg Host.Outcome.next heq, ?_, ?_, ?_, ?_⟩
  · rw [hafter.rd_can (by simp [E.Can.RX_FILTERED, E.Can.CHANNEL_STATE, entN]; omega), State.rd_inc_self,
      hseen.rd_can (by simp [E.Can.RX_FILTERED, E.Can.FOREIGN_SAME_ID, E.Can.REC, entN]; omega), State.rd_advance]
    rfl
  · rw [hafter.rd_can (by simp [E.Can.RX_FRAMES, E.Can.CHANNEL_STATE, entN]; omega),
      State.rd_inc_ne _ _ _ (by simp [E.Can.RX_FRAMES, E.Can.RX_FILTERED, entN]),
      hseen.rd_can (by simp [E.Can.RX_FRAMES, E.Can.FOREIGN_SAME_ID, E.Can.REC, entN]; omega), State.rd_advance]
  · rw [State.now_offer, State.now_canState, State.inc_now, hy, State.now_frameSeen]
    rfl
  · exact (((hseen.mono (by simp) (by simp) (by simp)).inc (by simp)).trans (hafter.mono (by simp) (by simp) (by simp))).of_advance

/-- The error is counted, its kind stored, and in NORMAL it adds to REC (R342, log 19). -/
def State.rxErrorNoted (s : State) (c kind : Nat) (dominant : Bool) : State :=
  let y := ((s.setChan c { s.chan c with busy := false }).inc (E.Can.ERROR_FRAMES c)).wr (E.Can.LAST_ERROR c) kind
  if (s.chan c).mode = 1 then y.wr (E.Can.REC c) (min 255 (y.rd (E.Can.REC c) + (if dominant then 8 else 1))) else y

theorem State.rxError_deaf (h : s.deaf c = true) : s.rxError c kind dominant = s := if_pos h

theorem State.rxError_taken (h : TakesPart s c) : s.rxError c kind dominant = ((s.rxErrorNoted c kind dominant).canState c).offer c :=
  if_neg (by rw [← State.deaf, h.deaf_eq_false]; simp)

theorem State.frame_rxErrorNoted :
    Frame [.can] [E.Can.ERROR_FRAMES c, E.Can.LAST_ERROR c, E.Can.REC c] [] s (s.rxErrorNoted c kind dominant) := by
  have hcounted : Frame [.can] [E.Can.ERROR_FRAMES c, E.Can.LAST_ERROR c, E.Can.REC c] [] s
      (((s.setChan c { s.chan c with busy := false }).inc (E.Can.ERROR_FRAMES c)).wr (E.Can.LAST_ERROR c) kind) :=
    (((Frame.refl ..).setChan (by simp)).inc (by simp)).wr (by simp)
  unfold State.rxErrorNoted
  dsimp only
  split
  · exact hcounted.wr (by simp)
  · exact hcounted

theorem State.now_rxErrorNoted : (s.rxErrorNoted c kind dominant).now = s.now := by
  unfold State.rxErrorNoted
  dsimp only
  split <;> rfl

theorem State.rd_rxErrorNoted_kind (hk : kind < 256) : (s.rxErrorNoted c kind dominant).rd (E.Can.LAST_ERROR c) = kind := by
  unfold State.rxErrorNoted
  dsimp only
  split
  · rw [State.rd_wr_ne _ _ _ _ (by simp [E.Can.LAST_ERROR, E.Can.REC, entN]), State.rd_wr_self]
    exact Nat.mod_eq_of_lt hk
  · rw [State.rd_wr_self]
    exact Nat.mod_eq_of_lt hk

theorem State.rd_rxErrorNoted_count :
    (s.rxErrorNoted c kind dominant).rd (E.Can.ERROR_FRAMES c) = min (2 ^ 32 - 1) (s.rd (E.Can.ERROR_FRAMES c) + 1) := by
  have hkind : (E.Can.ERROR_FRAMES c).key ≠ (E.Can.LAST_ERROR c).key := by simp [E.Can.ERROR_FRAMES, E.Can.LAST_ERROR, entN]
  unfold State.rxErrorNoted
  dsimp only
  split
  · rw [State.rd_wr_ne _ _ _ _ (by simp [E.Can.ERROR_FRAMES, E.Can.REC, entN]), State.rd_wr_ne _ _ _ _ hkind, State.rd_inc_self, State.rd_setChan]
    rfl
  · rw [State.rd_wr_ne _ _ _ _ hkind, State.rd_inc_self, State.rd_setChan]
    rfl

/-- In LISTEN_ONLY nothing counts in REC. -/
theorem State.rd_rxErrorNoted_rec (hm : (s.chan c).mode = 2) : (s.rxErrorNoted c kind dominant).rd (E.Can.REC c) = s.rd (E.Can.REC c) := by
  rw [State.rxErrorNoted, if_neg (by omega), State.rd_wr_ne _ _ _ _ (by simp [E.Can.REC, E.Can.LAST_ERROR, entN]),
    State.rd_inc_ne _ _ _ (by simp [E.Can.REC, E.Can.ERROR_FRAMES, entN]), State.rd_setChan]

theorem State.canReceiveError_completes (hc : c < 4) (hk : kind < 256) (h : TakesPart s c) :
    Completes (.canReceiveError at_ c kind dominant) s (fun t => t.rd (E.Can.LAST_ERROR c) = kind
      ∧ t.rd (E.Can.ERROR_FRAMES c) = min (2 ^ 32 - 1) (s.rd (E.Can.ERROR_FRAMES c) + 1)
      ∧ ((s.chan c).mode = 2 → t.rd (E.Can.REC c) = s.rd (E.Can.REC c))
      ∧ t.now = s.instant at_ ∧ Frame [.can, .ledger] [E.Can.ERROR_FRAMES c, E.Can.LAST_ERROR c, E.Can.REC c, E.Can.CHANNEL_STATE c]
          [17 + 2 * c, 28] s t) := by
  obtain ⟨y, hy⟩ : ∃ y, y = (s.advance at_).rxErrorNoted c kind dominant := ⟨_, rfl⟩
  have heq : (s.advance at_).rxError c kind dominant = (y.canState c).offer c := hy ▸ State.rxError_taken h.advance
  have hafter : Frame [.can, .ledger] [E.Can.CHANNEL_STATE c] [17 + 2 * c, 28] y ((y.canState c).offer c) := State.frame_canState.offer (by simp)
  refine ⟨_, congrArg Host.Outcome.next heq, ?_, ?_, fun hm => ?_, ?_, ?_⟩
  · rw [hafter.rd_can (by simp [E.Can.LAST_ERROR, E.Can.CHANNEL_STATE, entN]; omega), hy, State.rd_rxErrorNoted_kind hk]
  · rw [hafter.rd_can (by simp [E.Can.ERROR_FRAMES, E.Can.CHANNEL_STATE, entN]; omega), hy, State.rd_rxErrorNoted_count, State.rd_advance]
  · rw [hafter.rd_can (by simp [E.Can.REC, E.Can.CHANNEL_STATE, entN]; omega), hy, State.rd_rxErrorNoted_rec (s := s.advance at_) hm,
      State.rd_advance]
  · rw [State.now_offer, State.now_canState, hy, State.now_rxErrorNoted]
    rfl
  · have hnoted : Frame [.can] [E.Can.ERROR_FRAMES c, E.Can.LAST_ERROR c, E.Can.REC c] [] (s.advance at_) y := hy ▸ State.frame_rxErrorNoted
    exact ((hnoted.mono (by simp) (by simp) (by simp)).trans (hafter.mono (by simp) (by simp) (by simp))).of_advance

theorem State.fdException_completes (h : TakesPart s c) (hf : f.fdf = true) (hfd : (s.chan c).fd = false) :
    Completes (.canFrameReceived at_ c f) s (fun t => t.chan c = { s.chan c with exception := true }
      ∧ t.rd (E.Can.FD_EXCEPTIONS c) = min (2 ^ 32 - 1) (s.rd (E.Can.FD_EXCEPTIONS c) + 1)
      ∧ t.now = s.instant at_ ∧ Frame [.can] [E.Can.FD_EXCEPTIONS c] [] s t) := by
  refine ⟨_, congrArg Host.Outcome.next (State.canReceived_exception h.advance hf hfd), ?_, ?_, rfl,
    (((Frame.refl ..).setChan (by simp)).inc (by simp)).of_advance⟩
  · rw [State.chan_inc, State.chan_setChan_self]
    rfl
  · rw [State.rd_inc_self, State.rd_setChan, State.rd_advance]
    rfl

end

/-- Settles O38: a channel takes part or does not, a frame is an exception or not, and what the filters make of it is `filtered`. -/
theorem canFramesAreFilteredIntoRxq : Obligations.CanFramesAreFilteredIntoRxq := by
  unfold Obligations.CanFramesAreFilteredIntoRxq
  refine ⟨fun s at_ c f hc hm hi he h3 hf ha hl hfill => ⟨fun k hk hsel => ?_, fun hnone hall => ?_⟩, fun s at_ c f hc hm hi he h3 hf hfd => ?_,
    fun s at_ c kind dominant hc hk hm hi he h3 => ?_, fun s at_ c kind dominant f hc hdeaf => ⟨?_, ?_⟩⟩
  · exact State.frameAccepted_completes hc ⟨hm, hi, he, h3⟩ hf ha hl hfill hk
      (hsel.imp_right fun ⟨hnone, hall, _⟩ => ⟨hnone, hall⟩)
  · exact State.frameFiltered_completes hc ⟨hm, hi, he, h3⟩ hf hnone hall
  · exact State.fdException_completes ⟨hm, hi, he, h3⟩ hf hfd
  · exact State.canReceiveError_completes hc hk ⟨hm, hi, he, h3⟩
  · exact ⟨_, congrArg Host.Outcome.next (State.rxError_deaf (s := s.advance at_) (State.deaf_eq_true.2 hdeaf)), rfl, (Frame.refl ..).advance⟩
  · exact ⟨_, congrArg Host.Outcome.next (State.canReceived_deaf (s := s.advance at_) (State.deaf_eq_true.2 hdeaf)), rfl, (Frame.refl ..).advance⟩

end Sys2Proof.Machine
end

section
/-!
O36. The statement speaks of every state, also of one whose TEC does not fit the 16 bits of its entry. No command writes such a TEC (Table CAN-7
ends at 256), but the value that CAN_FRAME_SENT lowers is cut to 16 bits when it is stored, so from 65,537 it falls to 0 and not by 1.
-/
namespace Sys2Proof.Machine.WideTec

/-- Object 0 of channel 0 is in transmission and TEC reads 65,537. -/
def state : State := (State.reset.setChan 0 { inTx := some 0 }).put (E.Can.TEC 0) (.num 65537)

theorem inTx : (state.chan 0).inTx = some 0 := rfl

theorem no_newer_request : (state.obj 0 0).next = false := rfl

/-- The frame in transmission is sent at TB3 0. -/
theorem tec_canSent : ((state.advance 0).canSent 0 0).rd (E.Can.TEC 0) = 0 ∧ state.rd (E.Can.TEC 0) = 65537 := by
  decide +kernel

end Sys2Proof.Machine.WideTec
namespace Sys2Proof.Machine

/-- Refutes O36: the last clause lowers every TEC by 1, also one that is wider than its entry. -/
theorem not_canRequestsBecomePendingFrames : ¬ Obligations.CanRequestsBecomePendingFrames := by
  unfold Obligations.CanRequestsBecomePendingFrames
  rintro ⟨-, -, -, -, -, -, -, hsent⟩
  obtain ⟨t, ht, -, -, -, -, -, htec, -⟩ := hsent WideTec.state 0 0 0 (by decide) 0 WideTec.inTx (by decide) WideTec.no_newer_request
  obtain rfl : (WideTec.state.advance 0).canSent 0 0 = t := by injection ht
  obtain ⟨hafter, hbefore⟩ := WideTec.tec_canSent
  rw [hafter, hbefore] at htec
  exact absurd htec (by decide)

end Sys2Proof.Machine
end

section
/-!
SUPPORT. The diagnostics of a digital channel (Table DIO-4, Table DIO-10, R375): one bit set or cleared, what the channel's other bits read,
what is reported, and what is touched beside (O39).
-/
namespace Sys2Proof.Machine

/-! ## Outputs of the field side -/

section
variable {s : State} {o p bit event extra a : Nat} {x : DoSt} {v : Bool}

@[simp] theorem State.dout_setDout_self : (s.setDout o x).dout o = x := by simp [State.dout, State.setDout]
@[simp] theorem State.dout_showDiag : (s.showDiag o).dout p = s.dout p := rfl
@[simp] theorem State.dout_fieldDiag (b c d : Nat) : (s.fieldDiag a b c d).dout p = s.dout p := rfl
@[simp] theorem State.dout_advance : (s.advance a).dout o = s.dout o := rfl

/-! ## One bit of DO_DIAG -/

theorem State.setDoDiag_of_eq (h : bitOf (s.dout o).diag bit = v) : s.setDoDiag o bit v event extra = s := if_pos (beq_iff_eq.2 h)

theorem State.setDoDiag_of_ne (h : bitOf (s.dout o).diag bit ≠ v) (he : event ≠ 0) : s.setDoDiag o bit v event extra =
    ((s.setDout o { s.dout o with diag := setBit (s.dout o).diag bit v }).showDiag o).fieldDiag 0x02 o event (ofBool v + 2 * extra) :=
  (if_neg fun heq => h (beq_iff_eq.1 heq)).trans (if_neg he)

/-- What is left of an output's diagnostics once one bit of them is set or cleared: DO_DIAG of the output and of its lead show it (R364). -/
structure DoDiagSet (s : State) (o bit : Nat) (v : Bool) (t : State) : Prop where
  self : bitOf (t.dout o).diag bit = v
  others : ∀ k, k ≠ bit → bitOf (t.dout o).diag k = bitOf (s.dout o).diag k
  now : t.now = s.now
  frame : Frame [.field] [E.Do.DO_DIAG o, E.Do.DO_DIAG (s.leadOf o)] [] s t

theorem State.setDoDiag_set (s : State) (o bit : Nat) (v : Bool) (he : event ≠ 0) : DoDiagSet s o bit v (s.setDoDiag o bit v event) := by
  by_cases h : bitOf (s.dout o).diag bit = v
  · rw [State.setDoDiag_of_eq h]
    exact ⟨h, fun _ _ => rfl, rfl, .refl ..⟩
  · rw [State.setDoDiag_of_ne h he]
    have hdout : ((((s.setDout o { s.dout o with diag := setBit (s.dout o).diag bit v }).showDiag o).fieldDiag 0x02 o event
        (ofBool v + 2 * 0)).dout o).diag = setBit (s.dout o).diag bit v := by
      simp
    have hdiag : Frame [.field] [E.Do.DO_DIAG o, E.Do.DO_DIAG (s.leadOf o)] [] s
        ((s.setDout o { s.dout o with diag := setBit (s.dout o).diag bit v }).showDiag o) :=
      (((Frame.refl ..).with_field (by simp)).wr (by simp)).wr (List.mem_cons_of_mem _ (List.mem_singleton_self _))
    refine ⟨?_, fun k hk => ?_, rfl, hdiag.with_field (by simp)⟩
    · rw [hdout, bitOf_setBit_self]
    · rw [hdout, bitOf_setBit_ne _ _ hk]

/-! ## The conditions under which a bit may set (Table DIO-4, R364, R374) -/

theorem State.doOpenOn_eq (h : v = true → (s.dout o).on = true ∧ s.rd (E.Do.OPEN_ON_CURRENT (s.leadOf o)) ≠ 0 ∧ s.suppressed o = false
    ∧ (s.dout o).changedAt + 100000000 ≤ s.now) : s.doOpenOn o v = s.setDoDiag o 2 v 0x11 := by
  refine if_neg ?_
  cases v with
  | false => simp
  | true =>
    obtain ⟨hon, hcur, hsup, hset⟩ := h rfl
    simp [hon, hcur, hsup, State.settledDo, hset]

theorem State.doOpenOff_eq (h : v = true → (s.dout o).on = false ∧ s.on (E.Do.OFF_DIAG (s.leadOf o)) = true ∧ s.suppressed o = false
    ∧ s.field.enable = true ∧ (s.dout o).changedAt + 100000000 ≤ s.now) : s.doOpenOff o v = s.setDoDiag o 3 v 0x12 := by
  refine if_neg ?_
  cases v with
  | false => simp
  | true =>
    obtain ⟨hon, htest, hsup, hen, hset⟩ := h rfl
    simp [hon, htest, hsup, hen, State.settledDo, hset]

theorem State.doOffVoltage_eq (h : v = true → (s.dout o).on = false ∧ s.field.enable = true) :
    s.doOffVoltage o v = s.setDoDiag o 6 v 0x15 := by
  refine if_neg ?_
  cases v with
  | false => simp
  | true => simp [h rfl]

theorem State.shareFault_eq (h : v = true → (s.bankNow o).2 ≠ 1 ∧ (s.dout o).on = true) : s.shareFault o v = s.setDoDiag o 5 v 0x14 := by
  refine if_neg ?_
  cases v with
  | false => simp
  | true => simp [h rfl]

end

/-! ## One bit of DI_DIAG (R359) -/

section
variable {s : State} {i bit : Nat} {v : Bool}

/-- What is left of an input's diagnostics once one bit of them is set or cleared; a change is reported (R375). -/
structure DiDiagSet (s : State) (i bit : Nat) (v : Bool) (t : State) : Prop where
  self : bitOf (t.rd (E.Di.DI_DIAG i)) bit = v
  others : ∀ k < 8, k ≠ bit → bitOf (t.rd (E.Di.DI_DIAG i)) k = bitOf (s.rd (E.Di.DI_DIAG i)) k
  reported : t.field.diagOut.length = s.field.diagOut.length + ofBool (bitOf (s.rd (E.Di.DI_DIAG i)) bit != v)
  now : t.now = s.now
  frame : Frame [.field] [E.Di.DI_DIAG i] [] s t

theorem State.setDiDiag_set (s : State) (i : Nat) (v : Bool) (hb : bit < 8) : DiDiagSet s i bit v (s.setDiDiag i bit v) := by
  by_cases h : bitOf (s.rd (E.Di.DI_DIAG i)) bit = v
  · rw [show s.setDiDiag i bit v = s from if_pos (beq_iff_eq.2 h)]
    exact ⟨h, fun _ _ _ => rfl, by simp [h, ofBool], rfl, .refl ..⟩
  · rw [show s.setDiDiag i bit v = (s.wr (E.Di.DI_DIAG i) (setBit (s.rd (E.Di.DI_DIAG i)) bit v)).fieldDiag 0x01 i (bit + 1) (ofBool v) from
      if_neg fun heq => h (beq_iff_eq.1 heq)]
    have hrd : ((s.wr (E.Di.DI_DIAG i) (setBit (s.rd (E.Di.DI_DIAG i)) bit v)).fieldDiag 0x01 i (bit + 1) (ofBool v)).rd (E.Di.DI_DIAG i)
        = setBit (s.rd (E.Di.DI_DIAG i)) bit v % 2 ^ 8 := State.rd_wr_self ..
    refine ⟨?_, fun k hk hne => ?_, ?_, rfl, ((Frame.refl ..).wr (by simp)).with_field (by simp)⟩
    · rw [hrd, bitOf_mod _ hb, bitOf_setBit_self]
    · rw [hrd, bitOf_mod _ hk, bitOf_setBit_ne _ _ hne]
    · rw [bne_iff_ne.2 h]
      exact List.length_append

theorem State.diOpenWire_eq (h : v = true → s.on (E.Di.LINE_MONITOR i) = true ∧ (s.dinp i).level = false) :
    s.diOpenWire i v = s.setDiDiag i 0 v := by
  refine if_neg ?_
  cases v with
  | false => simp
  | true => simp [h rfl]

end

/-! ## The commands -/

section
variable {s : State} {at_ o bit event : Nat} {v : Bool} {c : Instr}

/-- A command that sets or clears one bit of an output's diagnostics. -/
theorem doDiag_completes (f : State → State)
    (hexec : exec c s = .next (if o < 64 then f (s.advance at_) else s.advance at_)) (ho : o < 64)
    (hf : f (s.advance at_) = (s.advance at_).setDoDiag o bit v event)
    (he : event ≠ 0 := by decide) :
    Completes c s (fun t => bitOf (t.dout o).diag bit = v ∧ (∀ k, k ≠ bit → bitOf (t.dout o).diag k = bitOf (s.dout o).diag k)
      ∧ t.now = s.instant at_ ∧ Frame [.field] [E.Do.DO_DIAG o, E.Do.DO_DIAG (s.leadOf o)] [] s t) := by
  obtain ⟨hself, hothers, hnow, hframe⟩ := State.setDoDiag_set (s.advance at_) o bit v he
  exact ⟨_, hexec.trans (congrArg Host.Outcome.next ((if_pos ho).trans hf)), hself, hothers, hnow, hframe.of_advance⟩

end

/-- Settles O39: a command whose condition may set its bit is `setDiDiag` or `setDoDiag` of that bit, and those leave every other bit. -/
theorem fieldDiagnosticsFollowTheObservation : Obligations.FieldDiagnosticsFollowTheObservation := by
  unfold Obligations.FieldDiagnosticsFollowTheObservation
  refine ⟨fun s at_ i b hi => ?_, fun s at_ i b hi h => ?_, fun s at_ o b ho h => ?_, fun s at_ o b ho h => ?_, fun s at_ o b ho h => ?_,
    fun s at_ o b ho h => ?_, fun s at_ o ho => ?_⟩
  · obtain ⟨hself, hothers, hrep, hnow, hframe⟩ := State.setDiDiag_set (s.advance at_) i b (bit := 1) (by decide)
    exact ⟨_, congrArg Host.Outcome.next (if_pos hi), hself, hothers, hrep, hnow, hframe.of_advance⟩
  · obtain ⟨hself, hothers, -, hnow, hframe⟩ := State.setDiDiag_set (s.advance at_) i b (bit := 0) (by decide)
    exact ⟨_, congrArg Host.Outcome.next ((if_pos hi).trans (State.diOpenWire_eq h)), hself, hothers, hnow, hframe.of_advance⟩
  · exact doDiag_completes (·.doOpenOn o b) rfl ho (State.doOpenOn_eq h)
  · exact doDiag_completes (·.doOpenOff o b) rfl ho (State.doOpenOff_eq h)
  · exact doDiag_completes (·.doOffVoltage o b) rfl ho (State.doOffVoltage_eq h)
  · exact doDiag_completes (·.shareFault o b) rfl ho (State.shareFault_eq h)
  · exact doDiag_completes (·.doOvertemp o false) rfl ho rfl

end Sys2Proof.Machine
end

section
/-!
O40. AUTO_RETRY of an output that tripped in SILENCE (R369). Such an output stays OFF, whatever RESTART_MODE says, and the model ends its trip
with no AUTO_RETRY while the SILENCE lasts. The statement asks of AUTO_RETRY after RETRY_DELAY that it ends every trip not held as LATCHED.
-/
namespace Sys2Proof.Machine

/-- The trip of an output that tripped in the SILENCE that lasts does not end by itself (R369). -/
theorem State.autoRetry_of_trippedInSilence {s : State} {o : Nat} (h : s.trippedInSilence (s.leadOf o) = true) : s.autoRetry o = s := by
  unfold State.leadOf at h
  unfold State.autoRetry
  generalize s.bankNow o = b at h
  obtain ⟨l, w⟩ := b
  simp [h]

end Sys2Proof.Machine
namespace Sys2Proof.Machine.SilentTrip

/-- The field side has been in SILENCE since 1 s; output 0, under AUTO, tripped at 2 s. -/
def state : State :=
  let s := { State.reset with now := 2000000000, field := { State.reset.field with powered := true, enable := true, hold := false, silence := true } }
  ((s.wrT E.Grp.LAST_SILENCE_TB3 1000000000).wr (E.Do.RESTART_MODE 0) 1).setDout 0 { tripped := true, tripAt := 2000000000 }

theorem trippedInSilence : (state.advance 3000000000).trippedInSilence 0 = true := by decide +kernel

/-- RETRY_DELAY has passed since the trip at 3 s. -/
theorem retry_due : (state.dout 0).tripAt + 1000000 * state.rd (E.Do.RETRY_DELAY 0) ≤ state.instant 3000000000 := by decide +kernel

theorem tripped : (state.dout 0).tripped = true ∧ (state.dout 0).latched = false ∧ (state.dout 0).diag = 0 := by decide +kernel

theorem members_bank : members (state.bankNow 0) = [0] := by decide +kernel

end Sys2Proof.Machine.SilentTrip
namespace Sys2Proof.Machine

/-- Refutes O40: AUTO_RETRY of an output that tripped in SILENCE leaves it tripped. -/
theorem not_tripsSwitchTheWholeBank : ¬ Obligations.TripsSwitchTheWholeBank := by
  unfold Obligations.TripsSwitchTheWholeBank
  rintro ⟨-, -, hretry, -⟩
  obtain ⟨htrip, hlatch, hdiag⟩ := SilentTrip.tripped
  have hcool : ∀ k ∈ members (SilentTrip.state.bankNow 0), bitOf (SilentTrip.state.dout k).diag 4 = false := by
    simp [SilentTrip.members_bank, hdiag, bitOf]
  obtain ⟨t, ht, hleft, -⟩ := hretry SilentTrip.state 3000000000 0 (by decide) htrip hlatch hcool SilentTrip.retry_due
  have hstays : (SilentTrip.state.advance 3000000000).autoRetry 0 = SilentTrip.state.advance 3000000000 :=
    State.autoRetry_of_trippedInSilence SilentTrip.trippedInSilence
  obtain rfl : SilentTrip.state.advance 3000000000 = t := by
    injection (congrArg Host.Outcome.next ((if_pos (by decide)).trans hstays)).symm.trans ht
  have hfree := (hleft 0 (by simp [SilentTrip.members_bank])).1
  rw [State.dout_advance, htrip] at hfree
  cases hfree

end Sys2Proof.Machine
end

section
/-!
O41. SILENCE_TIMEOUT with an ABORT on its way to an axis (R83). No axis executes a command in SILENCE (R425), so its entry discards those
that wait; an ABORT among them that was written to the dictionary is decided by that, and its write answers TOO_LATE. The statement lets
SILENCE_TIMEOUT touch the field side, the axes, the safety functions and the retained partition alone, and the answer of a write is not among
the parts that it names.
-/
namespace Sys2Proof.Machine

section
variable {s t : State} {a : Nat} {c : MotionCmd} {ps : List Part}

theorem Moves.odStatus (h : Moves ps s t) (hp : Part.answer ∉ ps := by decide) : t.odStatus = s.odStatus := (h.1.2 .answer hp).1

theorem Moves.motion (h : Moves ps s t) (hp : Part.motion ∉ ps := by decide) : t.motion = s.motion := h.1.2 .motion hp

/-- SILENCE ends a command that waits at axis `a`. -/
def State.endInboxCmd (a : Nat) (s : State) (c : MotionCmd) : State := (s.result a c.id 0x0A).dropCmd a c

/-- An ABORT of the dictionary is answered TOO_LATE. -/
theorem State.endInboxCmd_abort (hc : c.command = 6) (hs : c.source = 0xFE) : (s.endInboxCmd a c).odStatus = 0x38 := by
  simp [State.endInboxCmd, State.dropCmd, State.decideAbort, hc, hs]

/-- Another command that waits leaves the answer of the ABORT, or is an ABORT too. -/
theorem State.endInboxCmd_keeps (h : s.odStatus = 0x38) : (s.endInboxCmd a c).odStatus = 0x38 := by
  have hres : (s.result a c.id 0x0A).odStatus = 0x38 := (State.result_moves.odStatus).trans h
  simp [State.endInboxCmd, State.dropCmd, State.decideAbort, hres, apply_ite State.odStatus]

/-- What SILENCE does at axis `a` (R425): the commands that wait end, and then the axis stops as AXIS_SAFE_MODE says. -/
def State.axisSilence (s : State) (a : Nat) : State :=
  let x := s.ax a
  let s := x.inbox.foldl (State.endInboxCmd a) (s.setAx a { x with inbox := [] })
  let s := if x.homing.isSome then s.homeEnd a 0x0A 0 else s.endMove a 0x0A
  let mode := s.rd (E.Ax.AXIS_SAFE_MODE a)
  let s :=
    if mode = 2 then
      ((s.halt a).setAx a { (s.halt a).ax a with ena := false }).loseValid a
    else if atRest x then (if mode = 1 then s.enaOff a else s).setAx a { (if mode = 1 then s.enaOff a else s).ax a with move := none }
    else s.setAx a { s.ax a with move := some { s.restMove a 0 none (s.stopDecel a) with disable := mode == 1 } }
  s.showAxis a

theorem State.axesSilence_eq (s : State) : s.axesSilence = (List.range 12).foldl State.axisSilence s := rfl

/-- Beside the commands that wait, SILENCE answers no write. -/
theorem State.axisSilence_odStatus (s : State) (a : Nat) : (s.axisSilence a).odStatus
    = ((s.ax a).inbox.foldl (State.endInboxCmd a) (s.setAx a { s.ax a with inbox := [] })).odStatus := by
  unfold State.axisSilence
  extract_lets +onlyGivenNames x y0 y1 mode
  have hend : Moves [.motion, .field] y0 y1 := .ite (fun _ => .step (.refl ..) State.homeEnd_moves) fun _ => .step (.refl ..) State.endMove_moves
  refine ((hend.step (qs := [.motion, .field]) ?_).step State.showAxis_moves).odStatus
  refine .ite (fun _ => ?_) fun _ => .ite (fun _ => ?_) fun _ => ?_
  · exact .step (.step (.step (.refl ..) State.halt_moves) State.setAx_moves) State.loseValid_moves
  · exact .step (.ite (fun _ => .step (.refl ..) State.enaOff_moves) fun _ => .refl ..) State.setAx_moves
  · exact .step (.refl ..) State.setAx_moves

theorem State.foldl_keeps_odStatus {β : Type} {f : State → β → State} (l : List β) (hs : s.odStatus = 0x38)
    (hf : ∀ (x : State) (b : β), x.odStatus = 0x38 → (f x b).odStatus = 0x38) : (l.foldl f s).odStatus = 0x38 :=
  List.foldlRecOn l f hs fun x hx b _ => hf x b hx

theorem State.axisSilence_keeps (h : s.odStatus = 0x38) : (s.axisSilence a).odStatus = 0x38 :=
  (State.axisSilence_odStatus s a).trans (State.foldl_keeps_odStatus _ h fun _ _ => State.endInboxCmd_keeps)

/-- SILENCE answers TOO_LATE to an ABORT that waits alone at axis 0. -/
theorem State.axesSilence_abort (hi : (s.ax 0).inbox = [c]) (hc : c.command = 6) (hs : c.source = 0xFE) : s.axesSilence.odStatus = 0x38 := by
  have hfirst : (s.axisSilence 0).odStatus = 0x38 := by
    rw [State.axisSilence_odStatus, hi]
    exact State.endInboxCmd_abort hc hs
  rw [State.axesSilence_eq, List.range_succ_eq_map, List.foldl_cons]
  exact State.foldl_keeps_odStatus _ hfirst fun _ _ => State.axisSilence_keeps

theorem State.enterSilence_abort (hi : (s.ax 0).inbox = [c]) (hc : c.command = 6) (hs : c.source = 0xFE) : s.enterSilence.odStatus = 0x38 := by
  unfold State.enterSilence
  extract_lets f s1 s2
  have hsilent : Moves [.field, .blocks] s s1 := .with_field (.refl ..)
  have hnoted : Moves [.field, .blocks] s s2 :=
    ((hsilent.step State.incR_moves).step State.wrT_moves).step State.fieldDiag_moves
  have hinbox : (s2.showFieldSide.ax 0).inbox = [c] := by
    rw [State.ax, (hnoted.step State.showFieldSide_moves).motion]
    exact hi
  exact State.brakesOff_moves.odStatus.trans (State.axesSilence_abort hinbox hc hs)

theorem State.silenceTimeout_of_due (hp : s.field.powered = true) (hq : s.field.silence = false) (hh : s.field.hold = false)
    (hd : s.field.lastValid + 1000000 * s.field.timeout ≤ s.now) : s.silenceTimeout = s.enterSilence := by
  simp [State.silenceTimeout, hp, hq, hh, hd]

end

end Sys2Proof.Machine
namespace Sys2Proof.Machine.AbortInSilence

/-- An ABORT written to AXIS_COMMAND of axis 0. -/
def abort : MotionCmd := { command := 6, axis := 0 }

/-- The field side is supplied and has had RESUME; the ABORT has reached axis 0 and waits for its next segment. -/
def state : State :=
  { State.reset with field := { State.reset.field with powered := true, hold := false } }.setAx 0 { inbox := [abort] }

theorem due : state.field.lastValid + 1000000 * state.field.timeout ≤ state.instant 50000000 := by decide +kernel

end Sys2Proof.Machine.AbortInSilence
namespace Sys2Proof.Machine

/-- Refutes O41: SILENCE_TIMEOUT answers TOO_LATE to the ABORT that waits at an axis, outside the parts that the statement names. -/
theorem not_fieldSideFollowsItsSuppliesAndItsLink : ¬ Obligations.FieldSideFollowsItsSuppliesAndItsLink := by
  unfold Obligations.FieldSideFollowsItsSuppliesAndItsLink
  rintro ⟨-, hsilence, -⟩
  obtain ⟨t, ht, -, -, -, -, -, -, hparts⟩ := hsilence AbortInSilence.state 50000000 rfl rfl rfl AbortInSilence.due
  have hdue : (AbortInSilence.state.advance 50000000).silenceTimeout = (AbortInSilence.state.advance 50000000).enterSilence :=
    State.silenceTimeout_of_due rfl rfl rfl AbortInSilence.due
  obtain rfl : (AbortInSilence.state.advance 50000000).enterSilence = t := by
    injection (congrArg Host.Outcome.next hdue).symm.trans ht
  have hsame : _ = AbortInSilence.state.odStatus := (hparts .answer (by decide)).1
  rw [State.enterSilence_abort (c := AbortInSilence.abort) rfl rfl rfl] at hsame
  exact absurd hsame (by decide)

end Sys2Proof.Machine
end

section

/-! SUPPORT. A step takes one command from the queue (O1, O2, O5). -/
namespace Sys2Proof.Machine

/-- Settles O1: it is the case of `step` for a waiting command. -/
theorem stepRunsFrontCommand : Obligations.StepRunsFrontCommand := by
  intro c rest s
  rfl

/-- Settles O2: it is the case of `step` for an empty queue. -/
theorem stepOnAnEmptyQueueIdles : Obligations.StepOnAnEmptyQueueIdles := by
  intro s hempty
  simp only [step, hempty]

/-- Settles O5: every command continues, and the step has taken it from the queue before. -/
theorem everyStepTakesOneCommand : Obligations.EveryStepTakesOneCommand := by
  refine ⟨fun c s => ?_, fun s c rest hpending => ?_⟩
  · obtain ⟨t, ht, hqueue, -⟩ := exec_continues c s
    exact ⟨t, ht, hqueue⟩
  · obtain ⟨t, ht, hqueue, -⟩ := exec_continues c { s with pending := rest }
    exact ⟨t, by simpa only [step, hpending] using ht, hqueue⟩

end Sys2Proof.Machine
end

section

/-! SUPPORT. States in which an ABORT of AXIS_COMMAND comes too late (O46, O47). -/
namespace Sys2Proof.Machine.AbortRefused

/-- An ABORT of AXIS_COMMAND to an axis that the module does not have. -/
def abort : MotionCmd := { command := 6, axis := 12 }

/-- After reset, with the ABORT alone on MOTION_CMD. -/
def state : State := State.reset.setRing 42 { q := [.motion abort] }

theorem outOfRange : cmdOk abort = false := by decide

theorem answered : ((state.advance 0).takeCmd 6).odStatus = 0x38 := by decide

end Sys2Proof.Machine.AbortRefused
namespace Sys2Proof.Machine

/-- Refutes O46: an ABORT written to AXIS_COMMAND that the motion unit rejects is answered TOO_LATE (R83), while the statement leaves the
answer of the dictionary port as it was. -/
theorem not_motionUnitTakesTheFrontCommand : ¬ Obligations.MotionUnitTakesTheFrontCommand := by
  unfold Obligations.MotionUnitTakesTheFrontCommand
  rintro ⟨-, hbad⟩
  obtain ⟨-, -, -, -, -, habort, -⟩ :=
    hbad AbortRefused.state 0 AbortRefused.abort [] (by decide) (by decide) (.inr AbortRefused.outOfRange)
  obtain ⟨t, ht, -, -, -, -, hparts, -⟩ := habort rfl
  obtain rfl : (AbortRefused.state.advance 0).takeCmd 6 = t := by
    injection (show exec (.axisAbort 0) AbortRefused.state = .next _ from rfl).symm.trans ht
  have hsame : _ = AbortRefused.state.odStatus := (hparts .answer (by decide)).1
  rw [AbortRefused.answered] at hsame
  exact absurd hsame (by decide)

end Sys2Proof.Machine
namespace Sys2Proof.Machine.AbortAtFault

/-- An ABORT of AXIS_COMMAND to axis 0. -/
def abort : MotionCmd := { command := 6, axis := 0 }

/-- After reset, with the ABORT waiting at axis 0. -/
def state : State := State.reset.setAx 0 { inbox := [abort] }

theorem answered : ((state.advance 0).fltAsserted 0).odStatus = 0x38 := by decide

end Sys2Proof.Machine.AbortAtFault
namespace Sys2Proof.Machine

/-- Refutes O47: FLT_ASSERTED answers TOO_LATE to an ABORT that waits at the axis (R83), while the statement leaves the answer of the
dictionary port as it was. -/
theorem not_axesFollowTheirDriversAndTheirTicks : ¬ Obligations.AxesFollowTheirDriversAndTheirTicks := by
  unfold Obligations.AxesFollowTheirDriversAndTheirTicks
  rintro ⟨hflt, -⟩
  obtain ⟨t, ht, -, -, -, -, -, -, -, -, -, -, hparts, -⟩ := hflt AbortAtFault.state 0 0 (by decide) (by decide)
  obtain rfl : (AbortAtFault.state.advance 0).fltAsserted 0 = t := by
    injection (show exec (.fltAsserted 0 0) AbortAtFault.state = .next _ from rfl).symm.trans ht
  have hsame : _ = AbortAtFault.state.odStatus := (hparts .answer (by decide)).1
  rw [AbortAtFault.answered] at hsame
  exact absurd hsame (by decide)

end Sys2Proof.Machine
end

section

/-! SUPPORT. A STANDBY whose D0 has failed its test, and a module whose MOUNT_TEMP is wider than its type (O52, O56). -/
namespace Sys2Proof.Machine.FailedInStandby

/-- A STANDBY module with D0 FAILED. -/
def state : State := (State.reset.wr E.Twin.TWIN_ROLE 1).wr (E.Dbl.PAIR_STATE 0) 3

theorem standby : state.standby = true := by decide

theorem stillFailed : (state.advance 0).maintenanceEnter.rd (E.Dbl.PAIR_STATE 0) = 3 := by decide

end Sys2Proof.Machine.FailedInStandby
namespace Sys2Proof.Machine

/-- Refutes O52: MAINTENANCE_ENTER of a STANDBY whose D0 is FAILED leaves D0 FAILED, where the statement has it running. -/
theorem not_twinLinkAndHeartbeats : ¬ Obligations.TwinLinkAndHeartbeats := by
  unfold Obligations.TwinLinkAndHeartbeats
  rintro ⟨-, -, -, -, -, henter, -⟩
  obtain ⟨t, ht, -, hruns, -⟩ := henter FailedInStandby.state 0 FailedInStandby.standby rfl
  obtain rfl : (FailedInStandby.state.advance 0).maintenanceEnter = t := by
    injection (show exec (.maintenanceEnter 0) FailedInStandby.state = .next _ from rfl).symm.trans ht
  rw [FailedInStandby.stillFailed] at hruns
  exact absurd hruns (by decide)

end Sys2Proof.Machine
namespace Sys2Proof.Machine.WideMountTemp

/-- After reset, with a MOUNT_TEMP of 33 bits. -/
def state : State := State.reset.put E.Pwr.MOUNT_TEMP (.num (2 ^ 32))

theorem mountTemp : state.rd E.Pwr.MOUNT_TEMP = 2 ^ 32 := by decide

theorem panelTemp : ((state.advance 0).panelTemp none).rd E.Slate.PANEL_TEMP = 0 := by decide

end Sys2Proof.Machine.WideMountTemp
namespace Sys2Proof.Machine

/-- Refutes O56: PANEL_TEMP takes the 32 bits of its type from MOUNT_TEMP, and no hypothesis of the statement bounds MOUNT_TEMP by them. -/
theorem not_panelUpdatesReachThePanel : ¬ Obligations.PanelUpdatesReachThePanel := by
  unfold Obligations.PanelUpdatesReachThePanel
  rintro ⟨-, -, -, -, -, -, -, -, hnone⟩
  obtain ⟨t, ht, hsame, -⟩ := hnone WideMountTemp.state 0
  obtain rfl : (WideMountTemp.state.advance 0).panelTemp none = t := by
    injection (show exec (.panelTempRead 0 none) WideMountTemp.state = .next _ from rfl).symm.trans ht
  rw [WideMountTemp.panelTemp, WideMountTemp.mountTemp] at hsame
  exact absurd hsame (by decide)

end Sys2Proof.Machine
end

section

/-! SUPPORT. What the ledger's entries, the report of a twin and a change of its role leave alone (R473, R478, R501, R507). -/
namespace Sys2Proof.Machine

section
variable {ps : List Part} {es : List Ent} {rs : List Nat} {s x : State}

theorem Frame.ledgerOnly {y : State} (h : Frame ps es rs s x) (hy : LedgerOnly x y) (hl : Part.ledger ∈ ps) : Frame ps es rs s y := by
  rw [hy.eq]
  exact h.with_ledger hl

theorem Frame.showLedger (h : Frame ps es rs s x) (he : ∀ f ∈ ledgerEnts, f ∈ es) : Frame ps es rs s x.showLedger := by
  have hfill := he E.Ldg.BUFFER_FILL_MAX (by simp [ledgerEnts])
  unfold State.showLedger
  extract_lets +onlyGivenNames l y1 y2 retired y3 fill y4
  have h1 : Frame ps es rs s y1 :=
    ((h.wr (he _ (by simp [ledgerEnts]))).wr (he _ (by simp [ledgerEnts]))).wr (he _ (by simp [ledgerEnts]))
  have h2 : Frame ps es rs s y2 :=
    ((h1.wr (he _ (by simp [ledgerEnts]))).wr (he _ (by simp [ledgerEnts]))).wr (he _ (by simp [ledgerEnts]))
  have h3 : Frame ps es rs s y3 := h2.wr (he _ (by simp [ledgerEnts]))
  have h4 : Frame ps es rs s y4 := (h3.wr (he _ (by simp [ledgerEnts]))).raise hfill
  exact h4.wr (he _ (by simp [ledgerEnts]))

theorem Frame.logTwin {a : Nat} {p : List Byte} (h : Frame ps es rs s x) (hl : Part.ledger ∈ ps) (he : ∀ f ∈ ledgerEnts, f ∈ es) (hr : 28 ∈ rs) :
    Frame ps es rs s (x.logTwin a p) :=
  .ite (fun _ => (h.ledgerOnly (LedgerOnly.refl x).commitRec hl).showLedger he) fun _ => h.log hl hr

theorem Frame.showTwin (h : Frame ps es rs s x) (hp : ∀ p ∈ [Part.twin, .ledger], p ∈ ps) (he : ∀ f ∈ twinEnts, f ∈ es) (hr : 28 ∈ rs) :
    Frame ps es rs s x.showTwin := by
  unfold State.showTwin
  extract_lets +onlyGivenNames role
  split
  extract_lets +onlyGivenNames y1 due y2
  have h1 : Frame ps es rs s y1 :=
    ((h.wr (he _ (by simp [twinEnts]))).wr (he _ (by simp [twinEnts]))).wr (he _ (by simp [twinEnts]))
  have h2 : Frame ps es rs s y2 := h1.wr (he _ (by simp [twinEnts]))
  exact .ite (fun _ => h2) fun _ => (h2.with_twin (hp _ (by simp))).logTwin (hp _ (by simp)) (fun f hf => he f (by simp [twinEnts, hf])) hr

/-- What a change of TWIN_ROLE may write: the role and what is reported of it, and the state of each CAN channel (R353, R473). -/
def roleEnts : List Ent := E.Twin.TWIN_ROLE :: (List.range 4).map E.Can.CHANNEL_STATE ++ twinEnts

theorem Frame.setRole {r : Nat} (h : Frame ps es rs s x) (hp : ∀ p ∈ [Part.twin, .ledger, .can], p ∈ ps) (he : ∀ f ∈ roleEnts, f ∈ es)
    (hr : ∀ k ∈ [17, 19, 21, 23, 28], k ∈ rs) : Frame ps es rs s (x.setRole r) := by
  have hchannels : Frame ps es rs s ((List.range 4).foldl State.canState (x.wr E.Twin.TWIN_ROLE r)) := by
    refine (h.wr (he _ (by simp [roleEnts]))).foldl fun y c hc hy => ?_
    have hc4 := List.mem_range.1 hc
    refine hy.canState (fun p m => hp p (by simp only [List.mem_cons] at m ⊢; tauto)) (he _ ?_) fun k m => hr k ?_
    · simp only [roleEnts, List.mem_cons, List.mem_append, List.mem_map]
      exact .inl (.inr ⟨c, hc, rfl⟩)
    · simp only [List.mem_cons, List.not_mem_nil, or_false] at m ⊢
      omega
  exact hchannels.showTwin (fun p m => hp p (by simp only [List.mem_cons] at m ⊢; tauto))
    (fun f hf => he f (by simp [roleEnts, hf])) (hr _ (by simp))

end

/-- From `s` to `t` the entry at `key` holds what it held. -/
def Leaves (key : Nat) (s t : State) : Prop := t.od.find key = s.od.find key

section
variable {key : Nat} {s x y : State} {e : Ent}

theorem Leaves.refl (key : Nat) (s : State) : Leaves key s s := rfl

theorem Leaves.trans (h : Leaves key s x) (g : Leaves key x y) : Leaves key s y := Eq.trans g h

theorem Leaves.of_keeps (h : KeepsEntry key s x) : Leaves key s x := h.1

theorem Leaves.of_frame {ps : List Part} {es : List Ent} {rs : List Nat} (h : Frame ps es rs s x) (he : ∀ f ∈ es, key ≠ f.key)
    (hr : ∀ r ∈ rs, key / 256 ≠ 0x1B00 + r) : Leaves key s x := h.2.2.1 key he hr

theorem Leaves.put {v : Value} (h : Leaves key s x) (he : key ≠ e.key) : Leaves key s (x.put e v) :=
  h.trans (State.put_find_ne _ _ _ he)

theorem Leaves.wr {n : Nat} (h : Leaves key s x) (he : key ≠ e.key) : Leaves key s (x.wr e n) := h.put he

theorem Leaves.ite {c : Prop} [Decidable c] (h : c → Leaves key s x) (g : ¬c → Leaves key s y) : Leaves key s (if c then x else y) := by
  split
  · exact h ‹_›
  · exact g ‹_›

theorem Leaves.foldl {β : Type} {f : State → β → State} {l : List β} (h : Leaves key s x)
    (hf : ∀ (y : State), ∀ b ∈ l, Leaves key y (f y b)) : Leaves key s (l.foldl f x) := by
  induction l generalizing x with
  | nil => exact h
  | cons b l ih => exact ih (h.trans (hf x b (.head _))) fun z c hc => hf z c (.tail _ hc)

theorem Leaves.log {a b : Nat} {p : List Byte} (h : Leaves key s x) (hk : key / 256 ≠ 0x1B1C) : Leaves key s (x.log a b p) :=
  h.trans (State.od_find_log a b p hk)

/-- What an entry reads that has no default in the archive. -/
theorem Leaves.rd (h : Leaves e.key s x) (he : e.arch = false := by rfl) : x.rd e = s.rd e := by
  simp only [State.rd, State.get, State.base, he, Bool.false_eq_true, if_false]
  rw [show x.od.find e.key = _ from h]

theorem Leaves.rdB (h : Leaves e.key s x) (he : e.arch = false := by rfl) : x.rdB e = s.rdB e := by
  simp only [State.rdB, State.get, State.base, he, Bool.false_eq_true, if_false]
  rw [show x.od.find e.key = _ from h]

end

end Sys2Proof.Machine
end

section

/-! SUPPORT. A take-over whose checkpoint names a loop beyond the 256 of the module (O54): LOOP_MODE of that loop has the key of
LAST_CASTLING_CAUSE, and the restore writes it after the take-over has noted its cause. -/
namespace Sys2Proof.Machine.LoopBeyondTheTable

/-- The loop number. -/
def loop : Nat := 0x3401

/-- The key of LAST_CASTLING_CAUSE and of LOOP_MODE of the loop. -/
def key : Nat := 0x740107

/-! ## The restore of one loop (R259) -/

section
variable {s x : State}

/-- LOOP_MODE of the loop and LAST_CASTLING_CAUSE are one cell. -/
theorem rd_wr_loopMode (n : Nat) : (s.wr (E.Loop.LOOP_MODE loop) n).rd E.Castle.LAST_CASTLING_CAUSE = n % 256 := by
  have hcell : (s.wr (E.Loop.LOOP_MODE loop) n).od.find key = some (.num (n % 256)) := SMap.find_put_self ..
  simp only [State.rd, State.get]
  rw [show (s.wr (E.Loop.LOOP_MODE loop) n).od.find E.Castle.LAST_CASTLING_CAUSE.key = _ from hcell]
  rfl

theorem rd_restoreLoop {r : LoopRec} (h : (s.tally.loops.find loop).isSome = true) :
    (s.restoreLoop loop r).rd E.Castle.LAST_CASTLING_CAUSE = r.mode % 256 := by
  obtain ⟨x, hx⟩ := Option.isSome_iff_exists.1 h
  simp only [State.restoreLoop, hx]
  rw [State.rd_wr_ne _ _ _ _ (by decide), State.rd_wr_ne _ _ _ _ (by decide), State.rd_wr_ne _ _ _ _ (by decide)]
  exact rd_wr_loopMode _

theorem leaves_restoreAxis (a : Nat) (r : AxisRec) : Leaves key s (s.restoreAxis a r) :=
  .of_keeps ((KeepsEntry.refl key s).setAx.showAxis)

theorem leaves_restoreStation (n : Nat) (r : StationRec) : Leaves key s (s.restoreStation n r) :=
  ((Leaves.refl key (s.setStation n { s.station n with image := r.image, valid := 0 })).wr
    (by simp only [key, E.Station.STATION_STATE, entN]; omega)).wr (by simp only [key, E.Station.MISS_CONSEC, entN]; omega)

/-- After a restore of one loop the entry holds the mode of its record. -/
theorem rd_restore {c : Saved} {shift : Int} {kind : Nat} {r : LoopRec} (hc : c.loops.cells = [(loop, r)])
    (h : (s.tally.loops.find loop).isSome = true) : (s.restore c shift kind).rd E.Castle.LAST_CASTLING_CAUSE = r.mode % 256 := by
  unfold State.restore
  extract_lets rt y1 tally y2 y3 y4 y5 y6 y7 y8 y9 y10
  have hforces : Moves [] y2 y3 := (Moves.refl ..).foldl fun _ _ h => h.step State.restoreForce_moves
  have htasks : Moves [.rt, .ledger] y3 y4 := (Moves.refl ..).foldl fun _ _ h => h.step State.restoreTask_moves
  have hsame : y4.tally = y2.tally := (htasks.1.2 .tally (by decide)).trans (hforces.1.2 .tally (by decide))
  have hloops : y4.tally.loops = y2.tally.loops := congrArg TallySt.loops hsame
  have hloop : y5.rd E.Castle.LAST_CASTLING_CAUSE = r.mode % 256 := by
    simp only [y5, hc, List.foldl_cons, List.foldl_nil]
    exact rd_restoreLoop (by rw [hloops]; exact h)
  have haxes : Leaves key y5 y6 := (Leaves.refl ..).foldl fun _ _ _ => leaves_restoreAxis ..
  have hstations : Leaves key y5 y7 := (haxes.foldl fun _ _ _ => leaves_restoreStation ..).wr (by decide)
  have hcan : Leaves key y5 y8 := hstations.foldl fun _ _ _ => .refl ..
  have hmodes : Leaves key y5 y10 := (((hcan.wr (by decide)).wr (by decide)).wr (by decide)).log (by decide)
  exact ((hmodes.trans (.of_keeps (KeepsEntry.refl ..).setEffective)).rd (e := E.Castle.LAST_CASTLING_CAUSE)).trans hloop

/-! ## What follows the restore (R473, R491, R492) -/

theorem leaves_setSafe (n : Nat) : Leaves key s (s.setSafe n) :=
  .ite (fun _ => .refl ..) fun _ => ((Leaves.refl key s).wr (by decide)).log (by decide)

/-- Without a parameter set the safety program is NOT_CONFIGURED. -/
theorem leaves_safetyConfigure (hset : s.safety.set = none) : Leaves key s s.safetyConfigure := by
  unfold State.safetyConfigure
  refine .ite (fun _ => .refl ..) fun _ => ?_
  rw [if_neg (by simp [hset])]
  exact leaves_setSafe (s := State.setChn ..) 0

theorem leaves_startInstance (b : Nat) : Leaves key s (s.startInstance b) := by
  have hf : Frame [.time, .ledger] (E.Ptp.PATH_ACTIVE b :: E.Ptp.PORT_STATE b :: E.Base.FREQ_ADJ b :: servoEnts b) [45, 28] s (s.startInstance b) := by
    rw [State.startInstance_eq]
    have hbegun := State.instanceBegun_frame (s := s) (b := b)
    have hbegun' := hbegun.mono (ps' := [.time, .ledger]) (es' := E.Ptp.PATH_ACTIVE b :: E.Ptp.PORT_STATE b :: E.Base.FREQ_ADJ b :: servoEnts b)
      (rs' := [45, 28]) (by simp) (by simp) (by simp)
    exact (hbegun'.setServo (by simp) (by simp) (fun e he => by simp [he]) (fun _ => by simp) (by simp)).deriveSync (by simp) (by simp)
      (by simp [servoEnts]) (by simp [servoEnts])
  refine .of_frame hf (fun e he => ?_) (by decide)
  simp only [servoEnts, List.mem_cons, List.not_mem_nil, or_false] at he
  rcases he with rfl | rfl | rfl | rfl | rfl | rfl | rfl <;>
    simp only [key, E.Ptp.PATH_ACTIVE, E.Ptp.PORT_STATE, E.Base.FREQ_ADJ, E.Base.SERVO_STATE, E.Base.SYNC_STATE, E.Base.LOCK_LOSSES, entN] <;>
    omega

theorem leaves_freeMasters : Leaves key s s.freeMasters :=
  (Leaves.refl ..).foldl fun _ _ _ => .ite (fun _ => leaves_startInstance ..) fun _ => .refl ..

theorem leaves_setRole (r : Nat) : Leaves key s (s.setRole r) :=
  .of_frame ((Frame.refl [.twin, .ledger, .can] roleEnts [17, 19, 21, 23, 28] s).setRole (by simp) (by simp) (by simp)) (by decide) (by decide)

/-! ## The take-over -/

theorem ckpt_driveToken : s.driveToken.twin.ckpt = s.twin.ckpt := by
  unfold State.driveToken
  split <;> rfl

/-- The take-over up to the restore: TOKEN is driven, the castling is noted and every pair restarts. -/
theorem takenOver {y1 y2 y3 y4 : State} (h1 : y1 = s.linksEnd.driveToken) (h2 : Moves [.blocks] y1 y2)
    (h3 : Moves [.twin] y2 y3) (hckpt : y3.twin.ckpt = y2.twin.ckpt) (h4 : Moves [.pairs] y3 y4) :
    y4.twin.ckpt = s.twin.ckpt ∧ y4.tally = s.tally ∧ y4.safety = s.safety := by
  have hdriven : Moves [.ledger, .eop, .twin] s y1 := by
    rw [h1]
    exact ((Moves.refl ..).step State.linksEnd_moves).step State.driveToken_moves
  have hlinks : s.linksEnd.twin = s.twin := State.linksEnd_moves.1.2 .twin (by decide)
  have htwin : y4.twin = y3.twin := h4.1.2 .twin (by decide)
  have htwin' : y2.twin = y1.twin := h2.1.2 .twin (by decide)
  have htally : y3.tally = y2.tally := h3.1.2 .tally (by decide)
  have hsafety : y3.safety = y2.safety := h3.1.2 .safety (by decide)
  refine ⟨?_, ?_, ?_⟩
  · rw [htwin, hckpt, htwin', h1, ckpt_driveToken, hlinks]
  · exact (h4.1.2 .tally (by decide)).trans (htally.trans ((h2.1.2 .tally (by decide)).trans (hdriven.1.2 .tally (by decide))))
  · exact (h4.1.2 .safety (by decide)).trans (hsafety.trans ((h2.1.2 .safety (by decide)).trans (hdriven.1.2 .safety (by decide))))

/-- A STANDBY that may drive TOKEN with a checkpoint of the one loop ends with the loop's mode as the cause of the castling. -/
theorem rd_takeToken {cause : Nat} {r : LoopRec}
    (hready : (s.standby && (!s.twin.seenLogic && !s.twin.seenField && s.twin.logicAt + 100000 ≤ s.now && s.twin.fieldAt + 100000 ≤ s.now)
      && s.rd E.Twin.LINK_STATE == 2 && s.readyWithout 3 == 0 && max s.twin.logicAt s.twin.fieldAt ≤ s.twin.heardAt + 500000) = true)
    (hset : s.safety.set = none) (hc : s.twin.ckpt.loops.cells = [(loop, r)]) (h : (s.tally.loops.find loop).isSome = true) :
    (s.takeToken cause).rd E.Castle.LAST_CASTLING_CAUSE = r.mode % 256 := by
  simp only [Bool.and_eq_true, beq_iff_eq] at hready
  obtain ⟨⟨⟨⟨hstandby, hquiet⟩, hlink⟩, hready⟩, hheard⟩ := hready
  unfold State.takeToken
  extract_lets t quiet link ready stop cause' y1 y2 y3t y3 y4 y5 y6 y7t y7 y8
  have h1 : quiet = true := by simpa [quiet, t] using hquiet
  have h2 : link = true := by simp [link, hlink]
  have h3 : ready = true := by simpa [ready, hready, t] using .inr (by simpa using hheard)
  rw [if_neg (by simp [hstandby, h1, h2, h3])]
  have hnoted : Moves [.blocks] y1 y2 := ((Moves.refl ..).step State.incR_moves).step State.wrR_moves
  have hpairs : Moves [.pairs] y3 y4 := (Moves.refl ..).foldl fun _ _ h => h.step State.pairRestarting_moves
  have htaking : Moves [.twin] y2 y3 := (Moves.refl ..).with_twin
  have hy1 : y1 = s.linksEnd.driveToken := rfl
  clear_value y1 y2
  have hkept : y3.twin.ckpt = y2.twin.ckpt := rfl
  clear_value y3
  obtain ⟨hckpt, htally, hsafety⟩ := takenOver hy1 hnoted htaking hkept hpairs
  clear_value y4
  have hloop : y5.rd E.Castle.LAST_CASTLING_CAUSE = r.mode % 256 := rd_restore (by rw [hckpt, hc]) (by rw [htally]; exact h)
  have hrestored : y5.safety = y4.safety := State.restore_moves.1.2 .safety (by decide)
  clear_value y5
  have hsafe7 : y7.safety = s.safety := hrestored.trans hsafety
  have hod7 : Leaves key y5 y7 := .refl ..
  clear_value y7
  have hcounters : Leaves key y5 y8 := hod7.foldl fun _ c _ =>
    ((Leaves.refl ..).wr (by simp only [key, E.Can.TEC, entN]; omega)).wr (by simp only [key, E.Can.REC, entN]; omega)
  have hmoves : Moves [] y7 y8 := (Moves.refl ..).foldl fun _ _ h => (h.step State.wr_moves).step State.wr_moves
  have hsafe8 : y8.safety.set = none := by
    rw [show y8.safety = y7.safety from hmoves.1.2 .safety (by decide), hsafe7, hset]
  clear_value y8
  have hrest := ((hcounters.trans (leaves_safetyConfigure hsafe8)).trans (leaves_setRole 0)).trans leaves_freeMasters
  exact (hrest.rd (e := E.Castle.LAST_CASTLING_CAUSE)).trans hloop

end

/-! ## The state -/

/-- The last heartbeat: TOKEN not driven, the same release, archive and safety parameters. -/
def beat : Heartbeat := { role := 2, readiness := 1, cause := 0, token := false, gen := 0, release := 0, spsCrc := 0, archive := 0 }

/-- A STANDBY that is READY but for the link, with the loop in its store and in its checkpoint in mode 1. -/
def state : State :=
  let s := State.reset.wr E.Twin.TWIN_ROLE 1
  { s with
    twin := { s.twin with selfTest := true, synced := true, partner := some beat
                          ckpt := { s.twin.ckpt with loops := { cells := [(loop, { mode := 1 })] } } }
    tally := { s.tally with loops := { cells := [(loop, {})] } } }

theorem cause : ((state.advance 100000).takeToken 3).rd E.Castle.LAST_CASTLING_CAUSE = 1 :=
  rd_takeToken (r := { mode := 1 }) (by decide) rfl rfl rfl

end Sys2Proof.Machine.LoopBeyondTheTable
namespace Sys2Proof.Machine

/-- Refutes O54: a checkpoint that names loop 0x3401, whose LOOP_MODE has the key of LAST_CASTLING_CAUSE, leaves the loop's mode there. -/
theorem not_castlingMovesTheToken : ¬ Obligations.CastlingMovesTheToken := by
  unfold Obligations.CastlingMovesTheToken
  rintro ⟨-, -, -, -, -, htake, -⟩
  obtain ⟨t, ht, -, -, -, hcause, -⟩ := htake LoopBeyondTheTable.state 100000 3 (by decide) rfl rfl (by decide)
    (by decide) (.inl (by decide)) (.inr (by decide)) (by decide)
  obtain rfl : (LoopBeyondTheTable.state.advance 100000).takeToken 3 = t := by
    injection (show exec (.standbyTakeToken 100000 3) LoopBeyondTheTable.state = .next _ from rfl).symm.trans ht
  rw [LoopBeyondTheTable.cause] at hcause
  exact absurd hcause (by decide)

end Sys2Proof.Machine
end

section

/-! SUPPORT. What the field side leaves alone as its enable deasserts (R393, R397, R426, R449), and what TOKEN leaves alone as it stops
(R474, R496). -/
namespace Sys2Proof.Machine

section
variable {ps : List Part} {es : List Ent} {rs : List Nat} {s x : State}

/-! ## The stores of the field side -/

theorem Frame.setDout {o : Nat} {v : DoSt} (h : Frame ps es rs s x) (hp : Part.field ∈ ps) : Frame ps es rs s (x.setDout o v) := h.with_field hp
theorem Frame.setAout {o : Nat} {v : AoSt} (h : Frame ps es rs s x) (hp : Part.field ∈ ps) : Frame ps es rs s (x.setAout o v) := h.with_field hp
theorem Frame.setAin {i : Nat} {v : AiSt} (h : Frame ps es rs s x) (hp : Part.field ∈ ps) : Frame ps es rs s (x.setAin i v) := h.with_field hp
theorem Frame.setAx {a : Nat} {v : AxisSt} (h : Frame ps es rs s x) (hp : Part.motion ∈ ps) : Frame ps es rs s (x.setAx a v) := h.with_motion hp
theorem Frame.setSec {y : Bool} {v : Section} (h : Frame ps es rs s x) (hp : Part.safety ∈ ps) : Frame ps es rs s (x.setSec y v) := by
  unfold State.setSec
  split <;> exact h.with_safety hp
theorem Frame.setChn {y : Bool} {v : Chan} (h : Frame ps es rs s x) (hp : Part.safety ∈ ps) : Frame ps es rs s (x.setChn y v) := by
  unfold State.setChn
  split <;> exact h.with_safety hp
theorem Frame.setSb {n : Nat} {v : SbSt} (h : Frame ps es rs s x) (hp : Part.safety ∈ ps) : Frame ps es rs s (x.setSb n v) := h.with_safety hp
theorem Frame.fieldDiag {a b c d : Nat} (h : Frame ps es rs s x) (hp : Part.field ∈ ps) : Frame ps es rs s (x.fieldDiag a b c d) := h.with_field hp
theorem Frame.motionEvt {a b c d n : Nat} {p : Int} (h : Frame ps es rs s x) (hp : Part.field ∈ ps) : Frame ps es rs s (x.motionEvt a b c d n p) :=
  h.with_field hp

/-! ## Outputs and inputs -/

/-- What the outputs and inputs show of themselves. -/
def shownEnts : List Ent :=
  (List.range 64).map E.Do.DO_OUTPUT_STATE ++ (List.range 64).map E.Do.SWITCHINGS ++ (List.range 16).map E.Ao.AO_OUTPUT_STATE
    ++ (List.range 32).flatMap (fun i => [E.Ai.AI_DIAG i, E.Ai.AI_FAULT_CAUSE i, E.Ai.FAULT_EVENTS i])
    ++ [E.Grp.FIELD_STATE, E.Ana.ANALOG_STATE, E.Ana.BURDEN_IN_CIRCUIT]

theorem mem_shownEnts_do {o : Nat} (ho : o < 64) : E.Do.DO_OUTPUT_STATE o ∈ shownEnts ∧ E.Do.SWITCHINGS o ∈ shownEnts := by
  simp only [shownEnts, List.mem_append, List.mem_map, List.mem_range]
  exact ⟨.inl (.inl (.inl (.inl ⟨o, ho, rfl⟩))), .inl (.inl (.inl (.inr ⟨o, ho, rfl⟩)))⟩

theorem mem_shownEnts_ao {o : Nat} (ho : o < 16) : E.Ao.AO_OUTPUT_STATE o ∈ shownEnts := by
  simp only [shownEnts, List.mem_append, List.mem_map, List.mem_range]
  exact .inl (.inl (.inr ⟨o, ho, rfl⟩))

theorem mem_shownEnts_ai {i : Nat} (hi : i < 32) {e : Ent} (he : e ∈ [E.Ai.AI_DIAG i, E.Ai.AI_FAULT_CAUSE i, E.Ai.FAULT_EVENTS i]) :
    e ∈ shownEnts := by
  simp only [shownEnts, List.mem_append, List.mem_flatMap, List.mem_range]
  exact .inl (.inr ⟨i, hi, he⟩)

theorem mem_shownEnts_state {e : Ent} (he : e ∈ [E.Grp.FIELD_STATE, E.Ana.ANALOG_STATE, E.Ana.BURDEN_IN_CIRCUIT]) : e ∈ shownEnts :=
  List.mem_append_right _ he

theorem Frame.refreshDo {o : Nat} (h : Frame ps es rs s x) (hp : Part.field ∈ ps) (he : E.Do.DO_OUTPUT_STATE o ∈ es) (hs : E.Do.SWITCHINGS o ∈ es) :
    Frame ps es rs s (x.refreshDo o) := by
  unfold State.refreshDo
  obtain ⟨on, st⟩ := x.doDecide o
  exact .ite (fun _ => h.wr he) fun _ => ((h.wr he).setDout hp).inc hs

theorem Frame.refreshAo {o : Nat} (h : Frame ps es rs s x) (hp : Part.field ∈ ps) (he : E.Ao.AO_OUTPUT_STATE o ∈ es) :
    Frame ps es rs s (x.refreshAo o) := by
  unfold State.refreshAo
  obtain ⟨v, st⟩ := x.aoDecide o
  exact (h.setAout hp).wr he

theorem Frame.refreshAos (h : Frame ps es rs s x) (hp : Part.field ∈ ps) (he : ∀ o < 16, E.Ao.AO_OUTPUT_STATE o ∈ es) :
    Frame ps es rs s x.refreshAos := h.foldl fun _ o ho hy => hy.refreshAo hp (he o (List.mem_range.1 ho))

theorem Frame.showAi {i : Nat} (h : Frame ps es rs s x) (hp : Part.field ∈ ps)
    (he : ∀ e ∈ [E.Ai.AI_DIAG i, E.Ai.AI_FAULT_CAUSE i, E.Ai.FAULT_EVENTS i], e ∈ es) : Frame ps es rs s (x.showAi i) := by
  unfold State.showAi
  extract_lets c old d y z
  have hy : Frame ps es rs s y := .ite (fun _ => h.inc (he _ (by simp))) fun _ => h
  have hz : Frame ps es rs s z := (hy.wr (he _ (by simp))).wr (he _ (by simp))
  exact .ite (fun _ => hz) fun _ => hz.fieldDiag hp

theorem Frame.showAis (h : Frame ps es rs s x) (hp : Part.field ∈ ps) (he : ∀ e ∈ shownEnts, e ∈ es) : Frame ps es rs s x.showAis :=
  h.foldl fun _ _ hi hy => hy.showAi hp fun e m => he e (mem_shownEnts_ai (List.mem_range.1 hi) m)

theorem Frame.showAnalog (h : Frame ps es rs s x) (he : ∀ e ∈ [E.Ana.ANALOG_STATE, E.Ana.BURDEN_IN_CIRCUIT], e ∈ es) :
    Frame ps es rs s x.showAnalog := (h.wr (he _ (by simp))).wr (he _ (by simp))

theorem Frame.showFieldSide (h : Frame ps es rs s x) (hp : Part.field ∈ ps) (he : ∀ e ∈ shownEnts, e ∈ es) :
    Frame ps es rs s x.showFieldSide := by
  have hdo : Frame ps es rs s x.refreshDos := h.foldl fun _ o ho hy =>
    hy.refreshDo hp (he _ (mem_shownEnts_do (List.mem_range.1 ho)).1) (he _ (mem_shownEnts_do (List.mem_range.1 ho)).2)
  have hao := hdo.refreshAos hp fun o ho => he _ (mem_shownEnts_ao ho)
  exact (hao.wr (he E.Grp.FIELD_STATE (mem_shownEnts_state (by simp)))).showAnalog fun e m => he e (mem_shownEnts_state (.tail _ m))

theorem Frame.bypassCloses (h : Frame ps es rs s x) (hp : Part.field ∈ ps) (he : ∀ e ∈ shownEnts, e ∈ es) : Frame ps es rs s x.bypassCloses :=
  (Frame.showAis (x := { x with field := { x.field with bypassOpen := false } }) (h.with_field hp) hp he).showAnalog
    fun e m => he e (mem_shownEnts_state (.tail _ m))

/-! ## Axes -/

theorem Frame.loseValid {a : Nat} (h : Frame ps es rs s x) (hf : Part.field ∈ ps) (hm : Part.motion ∈ ps) : Frame ps es rs s (x.loseValid a) :=
  .ite (fun _ => h) fun _ => (h.setAx hm).motionEvt hf

theorem Frame.showAxis {a : Nat} (h : Frame ps es rs s x) (hf : Part.field ∈ ps) (hm : Part.motion ∈ ps) : Frame ps es rs s (x.showAxis a) :=
  .ite (fun _ => h) fun _ => (h.setAx hm).motionEvt hf

theorem Frame.result {a id code code2 : Nat} (h : Frame ps es rs s x) (hf : Part.field ∈ ps) (hm : Part.motion ∈ ps) :
    Frame ps es rs s (x.result a id code code2) := (h.setAx hm).motionEvt hf

theorem Frame.endMove {a code code2 : Nat} (h : Frame ps es rs s x) (hf : Part.field ∈ ps) (hm : Part.motion ∈ ps) :
    Frame ps es rs s (x.endMove a code code2) := by
  unfold State.endMove
  split
  · exact h.result hf hm
  · exact h

theorem Frame.homeEnd {a code cause : Nat} (h : Frame ps es rs s x) (hf : Part.field ∈ ps) (hm : Part.motion ∈ ps) :
    Frame ps es rs s (x.homeEnd a code cause) := by
  unfold State.homeEnd
  split
  · exact h
  · exact ((h.setAx hm).loseValid hf hm).result hf hm

theorem Frame.axesDisable (h : Frame ps es rs s x) (hf : Part.field ∈ ps) (hm : Part.motion ∈ ps) : Frame ps es rs s x.axesDisable := by
  refine h.foldl fun y a _ hy => ?_
  extract_lets +onlyGivenNames z kept y1 y2
  have hend : Frame ps es rs s y1 := .ite (fun _ => hy.homeEnd hf hm) fun _ => hy.endMove hf hm
  have hhalt : Frame ps es rs s (y2.setAx a { y2.ax a with ena := false }) := (hend.setAx hm).setAx hm
  exact Frame.showAxis (.ite (fun _ => hhalt) fun _ => hhalt.loseValid hf hm) hf hm

/-! ## Safe brake outputs -/

/-- An output of which a section's element is open does not switch: nothing but its state is shown. -/
theorem State.showSb_of_open {n : Nat} (h : bitOf s.safety.x.closed n = false ∨ bitOf s.safety.y.closed n = false) :
    ∃ st, s.showSb n = s.wr (E.Sb.SB_STATE n) st ∧ st % 2 ^ 8 ≠ 1 := by
  have hoff : (bitOf s.safety.x.closed n && bitOf s.safety.y.closed n) = false := by
    rcases h with h | h <;> simp [h]
  unfold State.showSb
  extract_lets b on st y
  have hlow : st % 2 ^ 8 ≠ 1 := by simp only [st, on, hoff]; split <;> [decide; split <;> decide]
  have hst : st ≠ 1 := fun h => hlow (by rw [h]; rfl)
  exact ⟨st, by simp [y, hst], hlow⟩

/-- Of every output an element is open. -/
def State.NoneClosed (s : State) : Prop := ∀ n, bitOf s.safety.x.closed n = false ∨ bitOf s.safety.y.closed n = false

theorem State.NoneClosed.congr (h : s.NoneClosed) (hs : x.safety = s.safety) : x.NoneClosed := fun n => by
  rw [hs]
  exact h n

theorem bitOf_zero (n : Nat) : bitOf 0 n = false := by simp [bitOf]

theorem Frame.showSbs_of_open (h : Frame ps es rs s x) (he : ∀ n < 8, E.Sb.SB_STATE n ∈ es) (ho : x.NoneClosed) : Frame ps es rs s x.showSbs := by
  suffices ∀ l : List Nat, (∀ n ∈ l, n < 8) → ∀ y : State, y.NoneClosed → Frame ps es rs s y →
      Frame ps es rs s (l.foldl (fun s n => s.showSb n) y) from this _ (fun n hn => List.mem_range.1 hn) x ho h
  intro l
  induction l with
  | nil => exact fun _ _ _ hy => hy
  | cons n l ih =>
    intro hl y hy hf
    obtain ⟨st, hst, -⟩ := State.showSb_of_open (s := y) (n := n) (hy n)
    rw [List.foldl_cons, hst]
    exact ih (fun m hm => hl m (.tail _ hm)) _ (hy.congr (State.wr_safety ..)) (hf.wr (he n (hl n (.head _))))

theorem Frame.brakesOff (h : Frame ps es rs s x) (hp : Part.safety ∈ ps) (he : ∀ n < 8, E.Sb.SB_STATE n ∈ es) : Frame ps es rs s x.brakesOff :=
  Frame.showSbs_of_open ((((h.setChn hp).setChn hp).setSec hp).setSec hp) he fun n => .inl (bitOf_zero n)

/-! ## The field enable deasserts -/

/-- What the field side shows of its enable. -/
def fieldOffEnts : List Ent := (List.range 8).map E.Sb.SB_STATE ++ shownEnts

/-- They are entries of the field side, its brakes among them. -/
theorem key_fieldOffEnts : ∀ f ∈ fieldOffEnts, 0x200000 ≤ f.key ∧ f.key < 0x700000 := by
  unfold fieldOffEnts shownEnts
  simp only [List.mem_append, List.mem_map, List.mem_flatMap, List.mem_cons, List.not_mem_nil, or_false, List.mem_range]
  rintro f (⟨n, hn, rfl⟩ | ((((⟨n, hn, rfl⟩ | ⟨n, hn, rfl⟩) | ⟨n, hn, rfl⟩) | ⟨n, hn, rfl | rfl | rfl⟩) | rfl | rfl | rfl))
  all_goals
    simp only [E.Sb.SB_STATE, E.Do.DO_OUTPUT_STATE, E.Do.SWITCHINGS, E.Ao.AO_OUTPUT_STATE, E.Ai.AI_DIAG, E.Ai.AI_FAULT_CAUSE, E.Ai.FAULT_EVENTS,
      E.Grp.FIELD_STATE, E.Ana.ANALOG_STATE, E.Ana.BURDEN_IN_CIRCUIT, entN]
    omega

theorem Frame.fieldOff (h : Frame ps es rs s x) (hp : ∀ p ∈ [Part.field, .motion, .safety], p ∈ ps) (he : ∀ e ∈ fieldOffEnts, e ∈ es) :
    Frame ps es rs s x.fieldOff := by
  have hf := hp .field (by simp)
  have hm := hp .motion (by simp)
  have hs : ∀ e ∈ shownEnts, e ∈ es := fun e m => he e (List.mem_append_right _ m)
  have hb : ∀ n < 8, E.Sb.SB_STATE n ∈ es := fun n hn => he _ (List.mem_append_left _ (List.mem_map.2 ⟨n, List.mem_range.2 hn, rfl⟩))
  refine .ite (fun _ => h) fun _ => ?_
  have hoff : Frame ps es rs s { x with field := { x.field with enable := false } } := h.with_field hf
  exact (((hoff.showFieldSide hf hs).bypassCloses hf hs).axesDisable hf hm).brakesOff (hp .safety (by simp)) hb

/-! ## TOKEN stops -/

/-- A channel of a module that is not ACTIVE has nothing to report: its state is 0 or 5. -/
theorem State.canState_of_not_active {c : Nat} (h : s.active = false) : ∃ n, s.canState c = s.wr (E.Can.CHANNEL_STATE c) n := by
  have hnext : s.nextChannelState c = 0 ∨ s.nextChannelState c = 5 := by
    unfold State.nextChannelState
    rw [h]
    split <;> simp
  unfold State.canState
  extract_lets ch old new y
  have hnew : new = 0 ∨ new = 5 := hnext
  refine ⟨new, ?_⟩
  rcases hnew with hn | hn <;> simp [hn, y]

theorem State.active_of_rd (h : s.rd E.Twin.TWIN_ROLE ≠ 0) : s.active = false := by
  simpa [State.active] using h

/-- TWIN_ROLE takes a role other than ACTIVE: no channel raises an event. -/
theorem Frame.setRole_of_ne {r : Nat} (h : Frame ps es rs s x) (hr : r % 256 ≠ 0) (hp : ∀ p ∈ [Part.twin, .ledger], p ∈ ps)
    (he : ∀ f ∈ roleEnts, f ∈ es) (hr28 : 28 ∈ rs) : Frame ps es rs s (x.setRole r) := by
  have hrole : (x.wr E.Twin.TWIN_ROLE r).rd E.Twin.TWIN_ROLE ≠ 0 := by
    rw [State.rd_wr_self]
    exact hr
  suffices ∀ l : List Nat, (∀ c ∈ l, c < 4) → ∀ y : State, y.rd E.Twin.TWIN_ROLE ≠ 0 → Frame ps es rs s y →
      Frame ps es rs s (l.foldl State.canState y) from
    (this _ (fun c hc => List.mem_range.1 hc) _ hrole (h.wr (he _ (by simp [roleEnts])))).showTwin hp
      (fun f hf => he f (by simp [roleEnts, hf])) hr28
  intro l
  induction l with
  | nil => exact fun _ _ _ hy => hy
  | cons c l ih =>
    intro hl y hy hf
    obtain ⟨n, hn⟩ := State.canState_of_not_active (c := c) (State.active_of_rd hy)
    have hc := hl c (.head _)
    rw [List.foldl_cons, hn]
    refine ih (fun d hd => hl d (.tail _ hd)) _ ?_ (hf.wr (he _ ?_))
    · rwa [State.rd_wr_ne _ _ _ _ (by simp only [E.Can.CHANNEL_STATE, E.Twin.TWIN_ROLE, entN]; omega)]
    · simp only [roleEnts, List.mem_cons, List.mem_append, List.mem_map, List.mem_range]
      exact .inl (.inr ⟨c, hc, rfl⟩)

/-- What the stop of TOKEN writes. -/
def stopEnts : List Ent := roleEnts ++ fieldOffEnts

theorem key_stopEnts : ∀ f ∈ stopEnts, 0x200000 ≤ f.key := by
  have hrole : ∀ f ∈ roleEnts, 0x200000 ≤ f.key := by decide
  exact fun f hf => (List.mem_append.1 hf).elim (hrole f) fun h => (key_fieldOffEnts f h).1

theorem Frame.stopToken {hold : Bool} (h : Frame ps es rs s x) (hp : ∀ p ∈ [Part.twin, .field, .motion, .ledger, .safety, .power], p ∈ ps)
    (he : ∀ f ∈ stopEnts, f ∈ es) (hr : 28 ∈ rs) : Frame ps es rs s (x.stopToken hold) := by
  unfold State.stopToken
  refine .ite (fun _ => h) fun _ => ?_
  extract_lets t y1 f p y2
  have h1 : Frame ps es rs s y1 := (h.with_twin (hp _ (by simp))).fieldOff (fun q m => hp q (by simp at m ⊢; tauto))
    fun e m => he e (List.mem_append_right _ m)
  have h2 : Frame ps es rs s y2 := (h1.with_field (v := { y1.field with resume := false }) (hp _ (by simp))).with_power (hp _ (by simp))
  exact h2.setRole_of_ne (by decide) (fun q m => hp q (by simp at m ⊢; tauto)) (fun e m => he e (List.mem_append_left _ m)) hr

end

end Sys2Proof.Machine
end

section

/-! SUPPORT. What the safety program writes as it starts (R465, R466). -/
namespace Sys2Proof.Machine

section
variable {ps : List Part} {es : List Ent} {rs : List Nat} {s x : State}

/-- What the start of the safety program writes. -/
def safeStartEnts : List Ent :=
  [E.Saf.SAFETY_STATE, E.Saf.SAFETY_CAUSE] ++ (List.range 8).map E.Sb.HT_STATE ++ (List.range 16).map E.Si.SI_STATE
    ++ (List.range 16).map E.Esc.ESC_STATE ++ (List.range 16).map E.Esc.ESC_DEGRADED_LEFT

theorem mem_safeStartEnts {k : Nat} (hk : k < 16) : E.Si.SI_STATE k ∈ safeStartEnts ∧ E.Esc.ESC_STATE k ∈ safeStartEnts
    ∧ E.Esc.ESC_DEGRADED_LEFT k ∈ safeStartEnts ∧ (k < 8 → E.Sb.HT_STATE k ∈ safeStartEnts) := by
  simp only [safeStartEnts, List.mem_append, List.mem_map, List.mem_range]
  exact ⟨.inl (.inl (.inr ⟨k, hk, rfl⟩)), .inl (.inr ⟨k, hk, rfl⟩), .inr ⟨k, hk, rfl⟩, fun h8 => .inl (.inl (.inl (.inr ⟨k, h8, rfl⟩)))⟩

/-- They are entries of the safety functions. -/
theorem key_safeStartEnts : ∀ f ∈ safeStartEnts, 0x690000 ≤ f.key ∧ f.key < 0x6A0000 := by decide

theorem Frame.setEsc {k n : Nat} (h : Frame ps es rs s x) (hl : Part.ledger ∈ ps) (he : E.Esc.ESC_STATE k ∈ es) (hr : 28 ∈ rs) :
    Frame ps es rs s (x.setEsc k n) := by
  unfold State.setEsc
  exact .ite (fun _ => h) fun _ => .ite (fun _ => ((h.wr he).log hl hr).log hl hr) fun _ => (h.wr he).log hl hr

theorem Frame.setConn {k : Nat} {c : EscConn} (h : Frame ps es rs s x) (hp : Part.safety ∈ ps) : Frame ps es rs s (x.setConn k c) :=
  h.with_safety hp

theorem Frame.escStart (h : Frame ps es rs s x) (hp : ∀ p ∈ [Part.ledger, .free, .safety], p ∈ ps) (he : ∀ e ∈ safeStartEnts, e ∈ es)
    (hr : 28 ∈ rs) : Frame ps es rs s x.escStart := by
  refine h.foldl fun y k hk hy => ?_
  obtain ⟨-, hstate, hleft, -⟩ := mem_safeStartEnts (List.mem_range.1 hk)
  have hl := hp .ledger (by simp)
  split
  · exact (((hy.setConn (hp _ (by simp))).drawn (hp _ (by simp))).setEsc hl (he _ hstate) hr).wr (he _ hleft)
  · exact (hy.setConn (hp _ (by simp))).setEsc hl (he _ hstate) hr

theorem Frame.safetyStart (h : Frame ps es rs s x) (hp : ∀ p ∈ [Part.ledger, .free, .safety], p ∈ ps) (he : ∀ e ∈ safeStartEnts, e ∈ es)
    (hr : 28 ∈ rs) : Frame ps es rs s x.safetyStart := by
  unfold State.safetyStart
  extract_lets v y1 y2 y3
  have h1 : Frame ps es rs s y1 := h.with_safety (hp _ (by simp))
  have h2 : Frame ps es rs s y2 := h1.foldl fun y n hn hy =>
    hy.wr (he _ ((mem_safeStartEnts (Nat.lt_trans (List.mem_range.1 hn) (by decide))).2.2.2 (List.mem_range.1 hn)))
  have h3 : Frame ps es rs s y3 := h2.foldl fun y i hi hy => hy.wr (he _ (mem_safeStartEnts (List.mem_range.1 hi)).1)
  exact ((h3.wr (he _ (by simp [safeStartEnts]))).setSafe (hp _ (by simp)) (he _ (by simp [safeStartEnts])) hr).escStart hp he hr

theorem Frame.safetyConfigure (h : Frame ps es rs s x) (hp : ∀ p ∈ [Part.ledger, .free, .safety], p ∈ ps) (he : ∀ e ∈ safeStartEnts, e ∈ es)
    (hr : 28 ∈ rs) : Frame ps es rs s x.safetyConfigure := by
  have hs := hp .safety (by simp)
  refine .ite (fun _ => h) fun _ => .ite (fun _ => h.safetyStart hp he hr) fun _ => ?_
  exact (((h.with_safety hs).setChn hs).setChn hs).setSafe (hp _ (by simp)) (he _ (by simp [safeStartEnts])) hr

/-! ## The sets that the start leaves -/

/-- The set in force and the copies in MRAM are the same. -/
def SafetySt.SameSets (a b : SafetySt) : Prop := b.set = a.set ∧ b.copies = a.copies

theorem State.setEsc_safety {k n : Nat} : (s.setEsc k n).safety = s.safety :=
  (Frame.setEsc (Frame.refl [.ledger] [E.Esc.ESC_STATE k] [28] s) (by simp) (by simp) (by simp)).2.1 .safety (by simp)

theorem State.setSafe_safety {n : Nat} : (s.setSafe n).safety = s.safety :=
  (Frame.setSafe (Frame.refl [.ledger] [E.Saf.SAFETY_STATE] [28] s) (by simp) (by simp) (by simp)).2.1 .safety (by simp)

theorem State.escStart_sets : s.safety.SameSets s.escStart.safety := by
  suffices ∀ l : List Nat, ∀ y : State, s.safety.SameSets y.safety → s.safety.SameSets (l.foldl _ y).safety from this _ s ⟨rfl, rfl⟩
  intro l
  induction l with
  | nil => exact fun _ hy => hy
  | cons k l ih =>
    refine fun y hy => ih _ ?_
    dsimp only
    split
    · rw [State.wr_safety, State.setEsc_safety]
      exact hy
    · rw [State.setEsc_safety]
      exact hy

theorem State.foldl_wr_safety {l : List Nat} {e : Nat → Ent} {n : Nat} : (l.foldl (fun s k => s.wr (e k) n) s).safety = s.safety := by
  induction l generalizing s with
  | nil => rfl
  | cons k l ih => exact ih

theorem State.safetyStart_sets : s.safety.SameSets s.safetyStart.safety := by
  unfold State.safetyStart
  extract_lets v y1 y2 y3
  have hy : s.safety.SameSets ((y3.wr E.Saf.SAFETY_CAUSE 0).setSafe 1).safety := by
    rw [State.setSafe_safety, State.wr_safety, State.foldl_wr_safety, State.foldl_wr_safety]
    exact ⟨rfl, rfl⟩
  obtain ⟨hset, hcopies⟩ := State.escStart_sets (s := (y3.wr E.Saf.SAFETY_CAUSE 0).setSafe 1)
  exact ⟨hset.trans hy.1, hcopies.trans hy.2⟩

theorem State.safetyConfigure_sets : s.safety.SameSets s.safetyConfigure.safety := by
  unfold State.safetyConfigure
  dsimp only
  split
  · exact ⟨rfl, rfl⟩
  split
  · exact State.safetyStart_sets
  · rw [State.setSafe_safety]
    exact ⟨rfl, rfl⟩

end

end Sys2Proof.Machine
end

section

/-! SUPPORT. What a step of a panel sequence, its start and the end of updates leave alone (R523, R526, R532). -/
namespace Sys2Proof.Machine

/-- The entries that a step of a panel sequence may write (Table SLT-4). -/
def stepEnts : PanelStep → List Ent
  | .rails _ _ => [E.Slate.VCOM_NOW]
  | .restore => []
  | .white _ => [E.Slate.DIRTY_REGIONS]
  | .done _ => [E.Slate.PANEL_STATE]

section
variable {ps : List Part} {es : List Ent} {rs : List Nat} {s x : State}

theorem Frame.setSlate {v : SlateSt} (h : Frame ps es rs s x) (hp : Part.slate ∈ ps) : Frame ps es rs s (x.setSlate v) := h.with_slate hp

theorem Frame.setPanel {n : Nat} (h : Frame ps es rs s x) (hl : Part.ledger ∈ ps) (he : E.Slate.PANEL_STATE ∈ es) (hr : 28 ∈ rs) :
    Frame ps es rs s (x.setPanel n) := .ite (fun _ => h) fun _ => (h.wr he).log hl hr

theorem Frame.whiteReset {whole : Bool} (h : Frame ps es rs s x) (hp : Part.slate ∈ ps) (hl : Part.ledger ∈ ps) (he : E.Slate.DIRTY_REGIONS ∈ es)
    (hr : 28 ∈ rs) : Frame ps es rs s (x.whiteReset whole) := by
  unfold State.whiteReset
  extract_lets y n keep z
  have hz : Frame ps es rs s z := h.setSlate hp
  exact .ite (fun _ => hz) fun _ => (hz.wr he).log hl hr

theorem Frame.panelStep {p : PanelStep} (h : Frame ps es rs s x) (hp : Part.slate ∈ ps) (hl : Part.ledger ∈ ps) (he : ∀ e ∈ stepEnts p, e ∈ es)
    (hr : 28 ∈ rs) : Frame ps es rs s (x.panelStep p) := by
  cases p with
  | rails on off =>
    have hrails : Frame ps es rs s (x.setSlate { x.slate with
        rails := off.foldl (fun r k => setBit r k false) (on.foldl (fun r k => setBit r k true) x.slate.rails) }) := h.setSlate hp
    exact .ite (fun _ => hrails) fun _ => .ite (fun _ => hrails.wr (he _ (by simp [stepEnts]))) fun _ =>
      .ite (fun _ => hrails) fun _ => hrails.wr (he _ (by simp [stepEnts]))
  | restore => exact h.setSlate hp
  | white whole => exact h.whiteReset hp hl (he _ (by simp [stepEnts])) hr
  | done n => exact .ite (fun _ => h) fun _ => h.setPanel hl (he _ (by simp [stepEnts])) hr

theorem Frame.takeStep {p : PanelStep} (h : Frame ps es rs s x) (hp : Part.slate ∈ ps) (hl : Part.ledger ∈ ps) (he : ∀ e ∈ stepEnts p, e ∈ es)
    (hr : 28 ∈ rs) : Frame ps es rs s (x.takeStep p) := (h.panelStep hp hl he hr).setSlate hp

theorem Frame.takeSteps {l : List (Nat × PanelStep)} (h : Frame ps es rs s x) (hp : Part.slate ∈ ps) (hl : Part.ledger ∈ ps)
    (he : ∀ q ∈ l, ∀ e ∈ stepEnts q.2, e ∈ es) (hr : 28 ∈ rs) : Frame ps es rs s (State.takeSteps l x) := by
  induction l generalizing x with
  | nil => exact h.setSlate hp
  | cons p rest ih =>
    have hstep := h.takeStep hp hl (he p (.head _)) hr
    cases rest with
    | nil => exact hstep.setSlate hp
    | cons q rest => exact .ite (fun _ => ih hstep fun r hm => he r (.tail _ hm)) fun _ => hstep.setSlate hp

theorem Frame.startSeq {l : List (Nat × PanelStep)} (h : Frame ps es rs s x) (hp : Part.slate ∈ ps) (hl : Part.ledger ∈ ps)
    (he : ∀ q ∈ l, ∀ e ∈ stepEnts q.2, e ∈ es) (hr : 28 ∈ rs) : Frame ps es rs s (x.startSeq l) := by
  have hseq : Frame ps es rs s (x.setSlate { x.slate with seq := l, seqAt := x.now }) := h.setSlate hp
  cases l with
  | nil => exact hseq
  | cons p rest => exact .ite (fun _ => hseq.takeSteps hp hl he hr) fun _ => hseq

/-- The entries of a sequence and of the end of power-up. -/
def seqEnts : List Ent := [E.Slate.PANEL_STATE, E.Slate.VCOM_NOW, E.Slate.DIRTY_REGIONS]

theorem mem_seqEnts {p : PanelStep} {e : Ent} (h : e ∈ stepEnts p) : e ∈ seqEnts := by
  cases p <;> simp_all [stepEnts, seqEnts]

theorem Frame.panelUp (h : Frame ps es rs s x) (hp : Part.slate ∈ ps) (hl : Part.ledger ∈ ps) (he : ∀ e ∈ seqEnts, e ∈ es) (hr : 28 ∈ rs) :
    Frame ps es rs s x.panelUp :=
  .ite (fun _ => h) fun _ => ((h.setPanel hl (he _ (by simp [seqEnts])) hr).setSlate hp).startSeq hp hl (fun _ _ e m => he e (mem_seqEnts m)) hr

theorem Frame.afterSeq (h : Frame ps es rs s x) (hp : Part.slate ∈ ps) (hl : Part.ledger ∈ ps) (he : ∀ e ∈ seqEnts, e ∈ es) (hr : 28 ∈ rs) :
    Frame ps es rs s x.afterSeq := by
  unfold State.afterSeq
  extract_lets st x' y
  have hy : Frame ps es rs s y := h.setSlate hp
  exact .ite (fun _ => h) fun _ => .ite (fun _ => .ite (fun _ => hy) fun _ => hy.panelUp hp hl he hr) fun _ => hy

/-- The entries that the end of an update without replacement writes. -/
def endedEnts : List Ent := [E.Slate.LAST_DONE_ID, E.Slate.LAST_RESULT, E.Slate.UPDATES_RUNNING, E.Slate.UPDATES_PENDING]

theorem Frame.updEnd {id r : Nat} (h : Frame ps es rs s x) (hne : r ≠ 1) (he : ∀ e ∈ endedEnts, e ∈ es) : Frame ps es rs s (x.updEnd id r) := by
  unfold State.updEnd
  rw [if_neg hne]
  exact (h.wr (he _ (by simp [endedEnts]))).wr (he _ (by simp [endedEnts]))

theorem Frame.showSlate (h : Frame ps es rs s x) (he : ∀ e ∈ endedEnts, e ∈ es) : Frame ps es rs s x.showSlate :=
  (h.wr (he _ (by simp [endedEnts]))).wr (he _ (by simp [endedEnts]))

theorem Frame.cutRunning (h : Frame ps es rs s x) (hp : Part.slate ∈ ps) (he : ∀ e ∈ endedEnts, e ∈ es) : Frame ps es rs s x.cutRunning :=
  (Frame.foldl (x := x.setSlate { x.slate with running := [] }) (h.setSlate hp) fun _ _ _ hy => hy.updEnd (by decide) he).showSlate he

end

end Sys2Proof.Machine
end

section

/-! SUPPORT. A start whose archive names a loop beyond the 256 of the module (O59): LOOP_STATE of that loop has the key of TWIN_POSITION, and
the start of the loop writes it after the position of the base has been read. -/
namespace Sys2Proof.Machine

section
variable {key : Nat} {s x x' : State} {e : Ent}

theorem Leaves.of_od (h : Leaves key s x) (ho : x'.od = x.od) : Leaves key s x' := by
  rw [Leaves, ho]
  exact h

theorem Leaves.fieldDiag {a b c d : Nat} (h : Leaves key s x) : Leaves key s (x.fieldDiag a b c d) := h.of_od rfl

theorem Leaves.wrT {t : Int} (h : Leaves key s x) (he : key ≠ e.key) : Leaves key s (x.wrT e t) := h.put he

theorem Leaves.wrR {n : Nat} (h : Leaves key s x) (he : key ≠ e.key) (hw : key ≠ E.Restore.RETAINED_WRITES.key) : Leaves key s (x.wrR e n) :=
  h.trans (.of_frame (((Frame.refl [.blocks] [e, E.Restore.RETAINED_WRITES] [] x)).wrR (by simp) (by simp) (by simp))
    (by simpa using ⟨he, hw⟩) (by simp))

theorem Leaves.incR (h : Leaves key s x) (he : key ≠ e.key) (hw : key ≠ E.Restore.RETAINED_WRITES.key) : Leaves key s (x.incR e) := h.wrR he hw

theorem Leaves.renew (h : Leaves key s x) (he : key ≠ e.key) : Leaves key s (x.renew e) := h.wr he

theorem Leaves.wrB {b : List Byte} (h : Leaves key s x) (he : key ≠ e.key) : Leaves key s (x.wrB e b) := h.put he

theorem Leaves.renewB {n : Nat} (h : Leaves key s x) (he : key ≠ e.key) : Leaves key s (x.renewB e n) := h.wrB he

theorem LedgerOnly.commitIn {ring clocked : Bool} {a b t : Nat} {p : List Byte} (h : LedgerOnly s x) :
    LedgerOnly s (x.commitIn ring clocked a b t p) := by
  unfold State.commitIn
  extract_lets +onlyGivenNames y1 y2
  have h1 : LedgerOnly s y1 := h.roomFor
  have h2 : LedgerOnly s y2 := .ite (fun _ => h1.commitClock) fun _ => h1
  exact .ite (fun _ => h2.appendRec) fun _ => .ite (fun _ => h2.appendRec) fun _ =>
    .ite (fun _ => h2.closeBook.roomFor.appendRec) fun _ => h2.appendRec

end

namespace StartBeyondTheTable

/-- The loop number. -/
def loop : Nat := 0x3400

/-- The key of TWIN_POSITION and of LOOP_STATE of the loop. -/
def position : Nat := 0x740001

/-- The key of FW_RELEASE. -/
def release : Nat := 0x100003

section
variable {s x : State}

/-! ## The release that runs, up to the start of the archive (R555, R557) -/

theorem leaves_convertBlocks : Leaves release s s.convertBlocks := by
  have hfree : retainedKey release = false := by decide
  simp [Leaves, State.convertBlocks, SMap.find_keep, hfree]

theorem rd_startSlot (c k : Nat) (fallback : Bool) (i : StartIn) :
    (s.startSlot c k fallback i).rd E.Id.FW_RELEASE = (s.slot k).release % 65536 := by
  unfold State.startSlot
  extract_lets p y1 y2 y3
  have hwritten : y2.rd E.Id.FW_RELEASE = (s.slot k).release % 65536 := by
    simp only [y2]
    rw [State.rd_wr_ne _ _ _ _ (by decide), State.rd_wr_ne _ _ _ _ (by decide), State.rd_wr_ne _ _ _ _ (by decide), State.rd_wr_self]
    rfl
  have hconverted : Leaves release y2 y3 := leaves_convertBlocks
  have hrest : Leaves release y2 (if fallback then ((y3.incR E.Start.FW_FALLBACKS).wrR E.Start.FW_ACTIVE_SLOT k).log 0x0B 0x08
      (vU8 k ++ vU16 (y3.slot k).release ++ vBool true) else y3) :=
    .ite (fun _ => ((hconverted.incR (by decide) (by decide)).wrR (by decide) (by decide)).log (by decide)) fun _ => hconverted
  exact (hrest.rd (e := E.Id.FW_RELEASE)).trans hwritten

theorem leaves_renewNonces : Leaves release s s.renewNonces := by
  unfold State.renewNonces
  extract_lets y
  have hy : Leaves release s y :=
    ((((Leaves.refl release s).renew (by decide)).renew (by decide)).renew (by decide)).renew (by decide)
  exact ((hy.renew (by decide)).renewB (by decide)).renew (by decide)

theorem leaves_noteInject (d : Nat) (r : Option InjectFail) : Leaves release s (s.noteInject d r) := by
  have hr : release ≠ (E.Dbl.INJECT_RESULT d).key := by simp only [release, E.Dbl.INJECT_RESULT, entN]; omega
  have hc : release ≠ (E.Dbl.INJECT_COUNT d).key := by simp only [release, E.Dbl.INJECT_COUNT, entN]; omega
  have hl : release ≠ (E.Dbl.INJECT_LAST d).key := by simp only [release, E.Dbl.INJECT_LAST, entN]; omega
  have hd : release ≠ (E.Dbl.INJECT_DETAIL d).key := by simp only [release, E.Dbl.INJECT_DETAIL, entN]; omega
  cases r with
  | none => exact ((((Leaves.refl release s).wr hr).incR hc (by decide)).wrR hl (by decide)).log (by decide)
  | some f => exact (((Leaves.refl release s).wr hr).wr hd).log (by decide)

theorem leaves_startTests (tests : List (Nat × InjectFail)) : Leaves release s (s.startTests tests) := by
  refine (Leaves.refl ..).foldl fun y d _ => ?_
  have hp : release ≠ (E.Dbl.PAIR_STATE d).key := by simp only [release, E.Dbl.PAIR_STATE, entN]; omega
  have hf : release ≠ (E.Dbl.FAIL_CAUSE d).key := by simp only [release, E.Dbl.FAIL_CAUSE, entN]; omega
  extract_lets r z
  have hz : Leaves release y z := leaves_noteInject ..
  cases r
  · exact hz.wr hp
  · exact ((hz.wr hp).wr hf).log (by decide)

theorem leaves_startChecks (i : StartIn) : Leaves release s (s.startChecks i) := by
  unfold State.startChecks
  extract_lets y1 tw y2
  have h1 : Leaves release s y1 :=
    ((((Leaves.refl release s).incR (by decide) (by decide)).trans leaves_renewNonces).trans (leaves_startTests _))
  have h2 : Leaves release s y2 := h1
  exact h2.wr (by decide)

theorem od_recoverRecords (n : Nat) : (s.recoverRecords n).od = s.od := rfl

theorem leaves_startRecords (c : Nat) : Leaves release s (s.startRecords c) := by
  unfold State.startRecords
  extract_lets es y
  have hhead : Leaves release s ((s.headRecords es).noteFill 28) :=
    .of_frame (((Frame.refl [] [] [28] s).setRing (by simp)).noteFill (by simp)) (by simp) (by decide)
  have hy : Leaves release s y := hhead.of_od (od_recoverRecords ..)
  exact hy.foldl fun _ _ _ => (Leaves.refl ..).log (by decide)

/-! ## The archive starts (R102, R258) -/

theorem rd_installLoop {d : LoopDef} (hd : d.id = loop) : (s.installLoop d).rd E.Twin.TWIN_POSITION = 1 := by
  unfold State.installLoop
  rw [hd]
  extract_lets y1 y2
  have hcell : (y1.wr (E.Loop.LOOP_STATE loop) 1).rd E.Twin.TWIN_POSITION = 1 := State.rd_wr_self y1 E.Twin.TWIN_POSITION 1
  have hrest : Leaves position (y1.wr (E.Loop.LOOP_STATE loop) 1) y2 :=
    (((((Leaves.refl position _).wr (by decide)).wr (by decide)).wr (by decide)).wr (by decide)).wr (by decide)
  exact (((hrest.wrB (by decide)).wrB (by decide)).rd (e := E.Twin.TWIN_POSITION)).trans hcell

theorem leaves_firstTurns {key : Nat} : Leaves key s s.firstTurns := rfl

theorem rd_startArchive {a : Archive} {d : LoopDef} (ha : a.loops = [d]) (hd : d.id = loop) :
    (s.startArchive a).rd E.Twin.TWIN_POSITION = 1 := by
  unfold State.startArchive
  extract_lets y1 y2 y3
  have h2 : y2.rd E.Twin.TWIN_POSITION = 1 := by
    simp only [y2, ha, List.foldl_cons, List.foldl_nil]
    exact rd_installLoop hd
  have h3 : Leaves position y2 y3 := ((Leaves.refl position y2).wr (by decide)).wrB (by decide)
  exact ((((h3.wr (by decide)).wr (by decide)).trans leaves_firstTurns).rd (e := E.Twin.TWIN_POSITION)).trans h2

theorem rd_startProgram {a : Archive} {d : LoopDef} {cold : Bool} {n : Nat} (ha : a.loops = [d]) (hd : d.id = loop)
    (hrt : s.rt.archive = some a) (hrel : a.release / 256 = s.rd E.Id.FW_RELEASE / 256) (hset : s.safety.stored = none) :
    (s.startProgram cold none n true).rd E.Twin.TWIN_POSITION = 1 := by
  unfold State.startProgram
  extract_lets kept y1 rt1 y2 y3 rt3 y4 y5 safety y6
  have h2rt : y2.rt.archive = some a := by simp only [y2, y1, if_true]; split <;> exact hrt
  have h2rel : a.release / 256 = y2.rd E.Id.FW_RELEASE / 256 := by simp only [y2, y1, if_true]; split <;> exact hrel
  have h2set : y2.safety.stored = none := by simp only [y2, y1, if_true]; split <;> exact hset
  clear_value y2
  have h3 : y3 = y2.startRelease a := by simp only [y3, h2rt]; rfl
  have h3rd : y3.rd E.Twin.TWIN_POSITION = 1 := by
    rw [h3, State.startRelease, if_pos h2rel]
    exact rd_startArchive ha hd
  have h3safety : y3.safety = y2.safety := by rw [h3]; exact State.startRelease_moves.1.2 .safety (by decide)
  have h3set : y3.safety.stored = none := by rw [h3safety]; exact h2set
  clear_value y3
  have h4 : Leaves position y3 y4 := by simp only [y4, rt3]; split <;> rfl
  have h4set : y4.safety.stored = none := by simp only [y4, rt3]; split <;> exact h3set
  clear_value y4
  have h5 : Leaves position y3 y5 := h4
  have h5set : y5.safety.stored = none := h4set
  clear_value y5
  have h6 : y6 = y5 := by simp only [y6, h5set]
  exact ((show Leaves position y3 y6 from h6 ▸ h5).rd (e := E.Twin.TWIN_POSITION)).trans h3rd

/-! ## Steps 8 to 10 (R557) -/

theorem spared_position : Spared position := by
  refine ⟨by decide, by decide, by decide⟩

theorem leaves_startInstance (b : Nat) : Leaves position s (s.startInstance b) := by
  have hf : Frame [.time, .ledger] (E.Ptp.PATH_ACTIVE b :: E.Ptp.PORT_STATE b :: E.Base.FREQ_ADJ b :: servoEnts b) [45, 28] s (s.startInstance b) := by
    rw [State.startInstance_eq]
    have hbegun := (State.instanceBegun_frame (s := s) (b := b)).mono (ps' := [.time, .ledger])
      (es' := E.Ptp.PATH_ACTIVE b :: E.Ptp.PORT_STATE b :: E.Base.FREQ_ADJ b :: servoEnts b) (rs' := [45, 28]) (by simp) (by simp) (by simp)
    exact (hbegun.setServo (by simp) (by simp) (fun e he => by simp [he]) (fun _ => by simp) (by simp)).deriveSync (by simp) (by simp)
      (by simp [servoEnts]) (by simp [servoEnts])
  refine .of_frame hf (fun e he => ?_) (by decide)
  simp only [servoEnts, List.mem_cons, List.not_mem_nil, or_false] at he
  rcases he with rfl | rfl | rfl | rfl | rfl | rfl | rfl <;>
    simp only [position, E.Ptp.PATH_ACTIVE, E.Ptp.PORT_STATE, E.Base.FREQ_ADJ, E.Base.SERVO_STATE, E.Base.SYNC_STATE, E.Base.LOCK_LOSSES, entN] <;>
    omega

theorem leaves_startState : Leaves position s s.startState := by
  have hstop : KeepsEntry position s (s.wr E.Run.RUNTIME_MODE 1) := (KeepsEntry.refl ..).wr (by decide)
  refine .of_keeps (.ite (fun _ => ?_) fun _ => .ite (fun _ => ?_) fun _ => .ite (fun _ => ?_) fun _ => (KeepsEntry.refl ..).wr (by decide))
  · exact (hstop.enterSafe spared_position (by decide) (by decide)).servicesTakeover spared_position
  · exact hstop.enterSafe spared_position (by decide) (by decide)
  · exact ((hstop.wr (by decide)).wr (by decide)).safeOutputs spared_position

theorem leaves_safetyConfigure : Leaves position s s.safetyConfigure :=
  .of_frame ((Frame.refl [.ledger, .free, .safety] safeStartEnts [28] s).safetyConfigure (by simp) (by simp) (by simp))
    (fun e he => (Nat.lt_trans (key_safeStartEnts e he).2 (by decide)).ne') (by decide)

theorem leaves_enterSilence : Leaves position s s.enterSilence := by
  have hents : ∀ e ∈ fieldOffEnts, position ≠ e.key := fun e he => (Nat.lt_of_lt_of_le (key_fieldOffEnts e he).2 (by decide)).ne'
  unfold State.enterSilence
  extract_lets f y1 y2
  have h1 : Leaves position s y1 := .refl ..
  have h2 : Leaves position y1 y2 := (((Leaves.refl position y1).incR (by decide) (by decide)).wrT (by decide)).fieldDiag
  clear_value y2
  have h3 : Leaves position y2 y2.showFieldSide :=
    .of_frame ((Frame.refl [.field] shownEnts [] y2).showFieldSide (by simp) (by simp)) (fun e m => hents e (List.mem_append_right _ m)) (by simp)
  have h4 : Leaves position y2 y2.showFieldSide.axesSilence := h3.trans (.of_keeps ((KeepsEntry.refl ..).axesSilence))
  have h5 : Leaves position y2.showFieldSide.axesSilence y2.showFieldSide.axesSilence.brakesOff :=
    .of_frame ((Frame.refl [.safety] ((List.range 8).map E.Sb.SB_STATE) [] _).brakesOff (by simp)
      fun n hn => List.mem_map.2 ⟨n, List.mem_range.2 hn, rfl⟩)
      (fun e m => hents e (List.mem_append_left _ m)) (by simp)
  exact (h1.trans (h2.trans h4)).trans h5

theorem leaves_slateStart (bad : Bool) : Leaves position s (s.slateStart bad) := by
  unfold State.slateStart
  extract_lets x1 x2 y
  have hy : Leaves position s y := .refl ..
  exact .ite (fun _ => hy.trans (.of_frame ((Frame.refl [.slate, .ledger] seqEnts [28] y).panelUp (by simp) (by simp) (by simp) (by simp))
    (by decide) (by decide))) fun _ => hy

theorem leaves_startResync : Leaves position s s.startResync := by
  unfold State.startResync
  exact .of_frame (((((Frame.refl [.twin, .ledger] (E.Twin.RESYNCS :: ledgerEnts) [28] s).with_twin (by simp)).inc (by simp))).logTwin (by simp)
    (by simp +contextual) (by simp)) (by decide) (by decide)

theorem leaves_showTwin : Leaves position s s.showTwin :=
  .of_frame ((Frame.refl [.twin, .ledger] twinEnts [28] s).showTwin (by simp) (by simp) (by simp)) (by decide) (by decide)

theorem leaves_setRole (r : Nat) : Leaves position s (s.setRole r) :=
  .of_frame ((Frame.refl [.twin, .ledger, .can] roleEnts [17, 19, 21, 23, 28] s).setRole (by simp) (by simp) (by simp)) (by decide) (by decide)

theorem leaves_freeMasters : Leaves position s s.freeMasters :=
  (Leaves.refl ..).foldl fun _ _ _ => .ite (fun _ => leaves_startInstance ..) fun _ => .refl ..

theorem leaves_becomeStandby : Leaves position s s.becomeStandby := by
  have hpair (d : Nat) (hd : d < 4) : position ≠ (E.Dbl.PAIR_STATE d).key := by simp only [position, E.Dbl.PAIR_STATE, entN]; omega
  unfold State.becomeStandby
  extract_lets y1 tw pw y2 y3 y3' tl y4
  have h1 : Leaves position s y1 := .ite (fun _ => (Leaves.refl ..).wr (by decide)) fun _ => .refl ..
  clear_value y1
  have h2 : Leaves position s y2 := h1
  clear_value y2
  have h3 : Leaves position s y3 := h2.foldl fun _ d hd => .ite (fun _ => .refl ..) fun _ =>
    (Leaves.refl ..).wr (hpair d (List.mem_range.1 hd))
  clear_value y3
  have h4 : Leaves position s y4 := h3.wr (e := E.Run.RUNTIME_MODE) (n := 1) (by decide)
  clear_value y4
  have h5 : Leaves position s (y4.setRole 1).freeMasters := (h4.trans (leaves_setRole 1)).trans leaves_freeMasters
  exact (h5.trans leaves_startResync).trans leaves_showTwin

theorem leaves_becomeActive : Leaves position s s.becomeActive := by
  unfold State.becomeActive
  extract_lets tw y
  have hdriven : Leaves position s y.driveToken := .ite (fun _ => .refl ..) fun _ => .refl ..
  exact (hdriven.wr (by decide)).trans (leaves_setRole 0)

theorem leaves_startRole : Leaves position s s.startRole := by
  unfold State.startRole
  extract_lets pos tw y
  have hy : Leaves position s y := .refl ..
  exact .ite (fun _ => leaves_becomeActive) fun _ => .ite (fun _ => .refl ..) fun _ => .ite (fun _ => hy.trans leaves_becomeStandby) fun _ => hy

theorem leaves_confirmTrial : Leaves position s s.confirmTrial := by
  unfold State.confirmTrial
  split
  · exact .ite (fun _ => .refl ..) fun _ => .refl ..
  · exact .refl ..

theorem leaves_of_ledger {y : State} (h : LedgerOnly s y) : Leaves position s y := congrArg (SMap.find · position) h.od

theorem leaves_openBook : Leaves position s s.openBook := by
  unfold State.openBook
  refine .ite (fun _ => .refl ..) fun _ => ?_
  extract_lets n l y
  have hy : LedgerOnly s y := (LedgerOnly.refl s).setLedger
  clear_value y
  have hbook := (Frame.refl [.ledger] ledgerEnts [] s).ledgerOnly (LedgerOnly.commitClock (ring := false)
    (hy.appendRec (ring := false) (a := 0x0F) (b := 0x05) (t := y.now) (p := vU32 n))) (by simp)
  exact .of_frame (hbook.showLedger (by simp)) (by decide) (by simp)

theorem leaves_commitStart (e : LogEntry) : Leaves position s (s.commitStart e) := by
  unfold State.commitStart
  extract_lets y1 y2 l y3
  have h2 : LedgerOnly s y2 := LedgerOnly.commitClock (LedgerOnly.refl s).commitIn
  clear_value y2
  have hrecovered : LedgerOnly y2 { y2 with ledger := { y2.ledger with recovered := 0 } } := ⟨rfl⟩
  have h3 : Leaves position y2 y3 := .ite (fun _ => .refl ..) fun _ => leaves_of_ledger hrecovered.commitRec
  clear_value y3
  have hy : Leaves position s y3 := (leaves_of_ledger h2).trans h3
  exact .ite (fun _ => hy.trans leaves_openBook) fun _ => hy

theorem leaves_takeLog : Leaves position s s.takeLog := by
  have hpop (y : State) : Leaves position y (y.pop 28).1 := .of_frame ((Frame.refl [] [] [28] y).pop (by simp)) (by simp) (by decide)
  have hlost : Leaves position s s.commitLost := by
    unfold State.commitLost
    extract_lets n y
    have hy : Leaves position s y := (Leaves.refl ..).wrR (by decide) (by decide)
    refine .ite (fun _ => .refl ..) fun _ => hy.trans ?_
    exact leaves_of_ledger (LedgerOnly.commitRec (y := { y with ledger := { y.ledger with dropped := 0 } }) ⟨rfl⟩)
  unfold State.takeLog
  split
  next e _ _ =>
    extract_lets y1 y2 l y3
    have h3 : Leaves position s y3 := hlost.trans (hpop _)
    exact .ite (fun _ => .refl ..) fun _ => .ite (fun _ => h3.trans (leaves_commitStart _)) fun _ =>
      h3.trans (leaves_of_ledger (LedgerOnly.refl y3).commitRec)
  · exact hpop s
  · exact .refl ..

theorem leaves_takeLogs (n : Nat) : Leaves position s (State.takeLogs n s) := by
  induction n generalizing s with
  | zero => exact .refl ..
  | succ n ih => exact .ite (fun _ => .refl ..) fun _ => leaves_takeLog.trans ih

theorem leaves_ledgerSlice : Leaves position s s.ledgerSlice := by
  unfold State.ledgerSlice
  extract_lets y1 y2
  have h1 : Leaves position s y1 := leaves_takeLogs ..
  have h2 : LedgerOnly y1 y2 := .ite (fun _ => (LedgerOnly.refl y1).commitClock) fun _ => .refl y1
  have h3 := (Frame.refl [.ledger] ledgerEnts [] y1).ledgerOnly h2 (by simp)
  exact h1.trans (.of_frame (h3.showLedger (by simp)) (by decide) (by simp))

theorem leaves_noteEcxCheck : Leaves position s s.noteEcxCheck := ((Leaves.refl position s).wr (by decide)).wr (by decide)

theorem leaves_enterRun : Leaves position s s.enterRun := by
  unfold State.enterRun State.setMode
  extract_lets y r z
  have hy : Leaves position s y := (((Leaves.refl position s).wr (by decide)).wr (by decide)).log (by decide)
  clear_value y
  have hz : Leaves position s z := hy
  exact hz.trans leaves_firstTurns

theorem leaves_startFunctions (restored : Bool) (i : StartIn) : Leaves position s (s.startFunctions restored i) := by
  unfold State.startFunctions
  extract_lets y1 y2 y3 y4 y5 y6
  have hinst : Leaves position s ((List.range 3).foldl State.startInstance s.startState) :=
    leaves_startState.foldl fun _ _ _ => leaves_startInstance ..
  have h1 : Leaves position s y1 := (hinst.trans leaves_noteEcxCheck).wr (by decide)
  clear_value y1
  have h2 : Leaves position s y2 := .ite (fun _ => h1) fun _ => h1.trans (.of_keeps ((KeepsEntry.refl ..).safetyFail spared_position))
  clear_value y2
  have h3 : Leaves position s y3 := .ite (fun _ => h2.trans leaves_safetyConfigure) fun _ => h2
  clear_value y3
  have h4 : Leaves position s y4 := .ite (fun _ => h3.trans leaves_enterRun) fun _ => h3
  clear_value y4
  have h5 : Leaves position s y5 := .ite (fun _ => h4) fun _ => h4.trans leaves_enterSilence
  clear_value y5
  have h6 : Leaves position s y6 := ((h5.trans (leaves_slateStart _)).wr (by decide)).trans leaves_startRole
  clear_value y6
  exact (h6.trans leaves_confirmTrial).trans leaves_ledgerSlice

/-! ## The whole start -/

/-- With no trial and both slots acceptable the start uses one of them and changes nothing before. -/
theorem bootSlot_of_ok {c : Nat} (htrial : s.power.trial = none) (h0 : s.slotOk 0 false = true) :
    ∃ k, s.bootSlot c false false = (s, some k) := by
  unfold State.bootSlot
  rw [htrial]
  simp only [ite_self]
  split
  · exact ⟨_, rfl⟩
  next hno =>
    split
    · exact ⟨_, rfl⟩
    next hno' =>
      rcases Nat.eq_zero_or_pos (s.rd E.Start.FW_ACTIVE_SLOT) with hz | hz
      · exact absurd (hz ▸ h0) hno
      · exact absurd ((show 1 - s.rd E.Start.FW_ACTIVE_SLOT = 0 by omega) ▸ h0) hno'

/-- A start whose archive has the one loop leaves TWIN_POSITION at 1, whatever the base. -/
theorem rd_startWith {c : Nat} {i : StartIn} {a : Archive} {d : LoopDef} (htrial : s.power.trial = none) (h0 : s.slotOk 0 false = true)
    (hA : i.badA = false) (hB : i.badB = false) (htests : i.tests.isEmpty = false) (hok : i.archiveOk = true)
    (hslots : ∀ k, (s.slot k).release = 0) (ha : a.loops = [d]) (hd : d.id = loop) (hrel : a.release = 0) (hrt : s.rt.archive = some a)
    (hset : s.safety.stored = none) : (s.startWith c i).rd E.Twin.TWIN_POSITION = 1 := by
  unfold State.startWith
  extract_lets b
  have hrestored : Moves [.ledger, .blocks, .eop, .net] s (s.retainedRestore i.badX i.badY (c == 5)).netInForce :=
    ((Moves.refl ..).step State.retainedRestore_moves).step State.netInForce_moves
  generalize hr : (s.retainedRestore i.badX i.badY (c == 5)).netInForce = r at hrestored
  have hpower : r.power = s.power := hrestored.1.2 .power (by decide)
  have hslot (k : Nat) : r.slot k = s.slot k := by rw [State.slot, State.slot, hpower]
  obtain ⟨k, hk⟩ := bootSlot_of_ok (s := r) (c := c) (by rw [hpower, htrial])
    (by rw [State.slotOk, hslot, hpower]; exact h0)
  have hb : b = (r, some k) := by simp only [b, hr, hA, hB, hk]
  rw [hb]
  dsimp -zeta only
  extract_lets fallback c' cold y ckpt z
  have hnone : ckpt = none := by simp [ckpt, htests]
  have hmoves : Moves [.blocks, .ledger, .power, .free, .twin] r y :=
    ((Moves.refl ..).step State.startSlot_moves).step State.startChecks_moves
  have hy : y.rd E.Id.FW_RELEASE = 0 := by
    have hslot0 : (r.startSlot c' k fallback i).rd E.Id.FW_RELEASE = 0 := by rw [rd_startSlot, hslot, hslots]
    exact ((leaves_startChecks i).rd (e := E.Id.FW_RELEASE)).trans hslot0
  clear_value y
  have hz : z.rd E.Id.FW_RELEASE = 0 := by
    have hl : Leaves release y z := (((Leaves.refl release y).wr (by decide)).wr (by decide)).wr (by decide)
    exact (hl.rd (e := E.Id.FW_RELEASE)).trans hy
  have hzmoves : Moves [] y z := (((Moves.refl ..).step State.startCkpt_moves).step State.wr_moves).step State.wr_moves
  clear_value z
  rw [hnone, hok]
  have hrecords : (z.startRecords c').rd E.Id.FW_RELEASE = 0 := ((leaves_startRecords c').rd (e := E.Id.FW_RELEASE)).trans hz
  have hall : Moves [.ledger, .blocks, .eop, .net, .power, .free, .twin] s (z.startRecords c') :=
    (((Moves.refl ..).step hrestored).step hmoves).step hzmoves |>.step State.startRecords_moves
  have hprog : ((z.startRecords c').startProgram cold none i.restoreAt true).rd E.Twin.TWIN_POSITION = 1 :=
    rd_startProgram ha hd (by rw [show (z.startRecords c').rt = s.rt from hall.1.2 .rt (by decide), hrt]) (by rw [hrecords, hrel])
      (by rw [show (z.startRecords c').safety = s.safety from hall.1.2 .safety (by decide), hset])
  exact ((leaves_startFunctions _ i).rd (e := E.Twin.TWIN_POSITION)).trans hprog

/-! ## The state -/

/-- A loop with the number beyond the table. -/
def loopDef : LoopDef :=
  { id := loop, pipeline := 0, order := 0, period := 1, phase := 0, stages := [], presetStage := none, manPoint := 0, inputs := []
    spSource := none, cascadeInner := none, out0 := .none, out1 := .none, name := [], bankA := [], bankB := [] }

/-- An archive of the one loop. -/
def archive : Archive := { release := 0, id := 1, loops := [loopDef] }

/-- After POWER_ON, with both firmware slots VALID and the archive in flash. -/
def state : State :=
  { State.reset with
    power := { State.reset.power with supplied := true, slots := { cells := [(0, { state := 1 }), (1, { state := 1 })] } }
    rt := { State.reset.rt with archive := some archive } }

/-- A START on a single base in which one pair fails its test. -/
def startIn : StartIn := { tests := [(0, { result := 0, step := 0, bit := 0, group := 0 })] }

theorem startUp_of_due {c : Nat} {i : StartIn} (hc : s.power.boot = some c)
    (hgo : (!s.power.supplied || s.power.clockBad || s.power.hot || s.power.failAt.isSome) = false) : s.startUp i = s.startWith c i := by
  simp only [State.startUp, hc, hgo, Bool.false_eq_true, if_false]

theorem slot_ok : (state.advance 0).slotOk 0 false = true := by decide

theorem position_start : ((state.advance 0).startUp startIn).rd E.Twin.TWIN_POSITION = 1 := by
  rw [startUp_of_due (c := 1) rfl rfl]
  refine rd_startWith (s := state.advance 0) (a := archive) (d := loopDef) rfl slot_ok rfl rfl rfl rfl (fun k => ?_) rfl rfl rfl rfl rfl
  match k with
  | 0 | 1 | _ + 2 => rfl

end

end StartBeyondTheTable

/-- Refutes O59: an archive that names loop 0x3400, whose LOOP_STATE has the key of TWIN_POSITION, leaves TWIN_POSITION at 1 on a single
base. -/
theorem not_powerFailureAndStarts : ¬ Obligations.PowerFailureAndStarts := by
  unfold Obligations.PowerFailureAndStarts
  rintro ⟨-, -, -, -, -, -, -, -, -, hstart⟩
  obtain ⟨t, ht, -, -, hposition, -⟩ := hstart StartBeyondTheTable.state 0 StartBeyondTheTable.startIn rfl rfl rfl rfl rfl rfl rfl rfl rfl rfl
    (by decide) (by decide)
  obtain rfl : (StartBeyondTheTable.state.advance 0).startUp StartBeyondTheTable.startIn = t := by
    injection (show exec (.start 0 StartBeyondTheTable.startIn) StartBeyondTheTable.state = .next _ from rfl).symm.trans ht
  rw [StartBeyondTheTable.position_start] at hposition
  exact absurd hposition (by decide)

end Sys2Proof.Machine
end

section

/-! SUPPORT. A reset of the logic side and what it leaves of the dictionary (R26, R53, R268). -/
namespace Sys2Proof.Machine

section
variable {s x : State} {cause key : Nat} {e : Ent}

@[simp] theorem State.rd_log_of_ne (a b : Nat) (p : List Byte) (he : e.key / 256 ≠ 0x1B1C) : (s.log a b p).rd e = s.rd e := by
  rw [State.rd, State.get_congr (State.od_find_log a b p he) (by simp), State.rd]

/-- What TOKEN and the field enable leave alone as a reset stops them: entries of no role and of no field unit. -/
theorem Leaves.stopped (hk : ∀ e ∈ stopEnts, key ≠ e.key) (h28 : key / 256 ≠ 0x1B1C) : Leaves key s (s.stopToken false).fieldOff := by
  have hstop : Leaves key s (s.stopToken false) :=
    .of_frame ((Frame.refl [.twin, .field, .motion, .ledger, .safety, .power] stopEnts [28] s).stopToken (by simp) (by simp) (by simp)) hk
      (by simpa using h28)
  exact hstop.trans (.of_frame ((Frame.refl [.field, .motion, .safety] fieldOffEnts [] _).fieldOff (by simp) (by simp))
    (fun e he => hk e (List.mem_append_right _ he)) (by simp))

/-- A RETAINED entry survives a reset (R53). -/
theorem Leaves.logicReset {lost : Bool} (hr : retainedKey key = true) (hk : ∀ e ∈ stopEnts, key ≠ e.key) (h28 : key / 256 ≠ 0x1B1C) :
    Leaves key s (s.logicReset cause lost) := by
  refine (Leaves.stopped hk h28).trans ?_
  simp only [Leaves, State.logicReset, SMap.find_keep, hr, Bool.true_or, if_true]

/-- Entries beside the start that is due. -/
theorem RestartDue.wr {t : State} {n : Nat} (h : RestartDue cause s t) : RestartDue cause s (t.wr e n) := h

end

end Sys2Proof.Machine
end

section

/-! SUPPORT. O58. SUP, the rails, the clock and the temperatures (R541 to R543, R553, R563). -/
namespace Sys2Proof.Machine

section
variable {s : State} {at_ st v rail kind e m j : Nat}

/-! ## SUP (R541) -/

theorem State.measureSup_voltage (hv : v < 2 ^ 32) : (s.measureSup v).rd E.Pwr.SUP_VOLTAGE = v := by
  have hne (y : State) (n : Nat) : (y.wr E.Pwr.SUP_MIN n).rd E.Pwr.SUP_VOLTAGE = y.rd E.Pwr.SUP_VOLTAGE
      ∧ (y.wr E.Pwr.SUP_MAX n).rd E.Pwr.SUP_VOLTAGE = y.rd E.Pwr.SUP_VOLTAGE :=
    ⟨State.rd_wr_ne _ _ _ _ (by decide), State.rd_wr_ne _ _ _ _ (by decide)⟩
  have hself : (s.wr E.Pwr.SUP_VOLTAGE v).rd E.Pwr.SUP_VOLTAGE = v := (State.rd_wr_self ..).trans (Nat.mod_eq_of_lt hv)
  simp only [State.measureSup]
  split <;> split <;> simp only [hne, hself]

theorem Frame.measureSup (s : State) (v : Nat) :
    Frame [.ledger] [E.Pwr.SUP_STATE, E.Pwr.SUP_VOLTAGE, E.Pwr.SUP_MIN, E.Pwr.SUP_MAX] [28] s (s.measureSup v) := by
  unfold State.measureSup
  extract_lets +onlyGivenNames y z
  have hz : Frame [.ledger] [E.Pwr.SUP_STATE, E.Pwr.SUP_VOLTAGE, E.Pwr.SUP_MIN, E.Pwr.SUP_MAX] [28] s z :=
    .ite (fun _ => ((Frame.refl ..).wr (by simp)).wr (by simp)) fun _ => (Frame.refl ..).wr (by simp)
  exact .ite (fun _ => hz.wr (by simp)) fun _ => hz

theorem State.measureSup_now : (s.measureSup v).now = s.now := by
  simp only [State.measureSup]
  split <;> split <;> rfl

/-- SUP_STATE and SUP_VOLTAGE show state `st` and voltage `v`, and the change is recorded. -/
structure SupplyShown (st v : Nat) (s t : State) : Prop where
  state : t.rd E.Pwr.SUP_STATE = st
  voltage : t.rd E.Pwr.SUP_VOLTAGE = v
  now : t.now = s.now
  frame : Frame [.ledger] [E.Pwr.SUP_STATE, E.Pwr.SUP_VOLTAGE, E.Pwr.SUP_MIN, E.Pwr.SUP_MAX] [28] s t

theorem State.supplyShown (hst : st < 4) (hv : v < 2 ^ 32) : SupplyShown st v s ((s.measureSup v).setSup st v) where
  state := by
    rw [State.setSup, State.rd_log_of_ne _ _ _ (by decide), State.rd_wr_self]
    exact Nat.mod_eq_of_lt (hst.trans (by decide))
  voltage := by
    rw [State.setSup, State.rd_log_of_ne _ _ _ (by decide), State.rd_wr_ne _ _ _ _ (by decide), State.measureSup_voltage hv]
  now := by simp [State.setSup, State.measureSup_now]
  frame := ((Frame.measureSup s v).wr (by simp)).log (by simp) (by simp)

/-! ## HOLDUP_CHARGED (R543) -/

theorem State.holdup_eq (hsup : s.power.supplied = true) (hfail : s.power.failAt = none) : s.holdup e =
    if fmt32.lt e 0x40900000 then (((s.wr E.Pwr.HOLDUP_ENERGY e).wr E.Pwr.HOLDUP_STATE 2).log 0x0B 0x07 (vU8 2 ++ vF32 e))
    else (s.wr E.Pwr.HOLDUP_ENERGY e).wr E.Pwr.HOLDUP_STATE 1 := by
  simp [State.holdup, hsup, hfail]

theorem holdupCharged_completes (he : e < 2 ^ 32) (hsup : s.power.supplied = true) (hfail : s.power.failAt = none) :
    Completes (.holdupCharged at_ e) s (fun t => t.rd E.Pwr.HOLDUP_ENERGY = e
      ∧ t.rd E.Pwr.HOLDUP_STATE = (if fmt32.lt e 0x40900000 then 2 else 1) ∧ t.now = s.instant at_
      ∧ Frame [.ledger] [E.Pwr.HOLDUP_ENERGY, E.Pwr.HOLDUP_STATE] [28] s t) := by
  have henergy (y : State) (n : Nat) : ((y.wr E.Pwr.HOLDUP_ENERGY e).wr E.Pwr.HOLDUP_STATE n).rd E.Pwr.HOLDUP_ENERGY = e := by
    rw [State.rd_wr_ne _ _ _ _ (by decide), State.rd_wr_self]
    exact Nat.mod_eq_of_lt he
  have hframe (n : Nat) : Frame [.ledger] [E.Pwr.HOLDUP_ENERGY, E.Pwr.HOLDUP_STATE] [28] s
      (((s.advance at_).wr E.Pwr.HOLDUP_ENERGY e).wr E.Pwr.HOLDUP_STATE n) := ((Frame.refl ..).advance.wr (by simp)).wr (by simp)
  refine ⟨_, congrArg Host.Outcome.next (State.holdup_eq (s := s.advance at_) hsup hfail), ?_⟩
  by_cases hlow : fmt32.lt e 0x40900000 = true
  · rw [if_pos hlow, if_pos hlow]
    refine ⟨?_, ?_, by simp [State.instant], (hframe 2).log (by simp) (by simp)⟩
    · rw [State.rd_log_of_ne _ _ _ (by decide), henergy]
    · rw [State.rd_log_of_ne _ _ _ (by decide), State.rd_wr_self]
      rfl
  · rw [if_neg hlow, if_neg hlow]
    exact ⟨henergy _ 1, State.rd_wr_self .., by simp [State.instant], hframe 1⟩

/-! ## Faults that reset (R542, R553, R563) -/

theorem State.railFault_eq (hrail : rail < 8) (hsup : s.power.supplied = true) (hfail : s.power.failAt = none) : s.railFault rail v =
    ((s.keepEvent 0x04 (vU8 rail ++ vF32 v)).logicReset 0x0A false).wr E.Pwr.RAIL_STATE (2 ^ rail) := by
  simp [State.railFault, hsup, hfail, Nat.not_lt.2 (Nat.le_of_lt_succ hrail)]

theorem railFault_completes (hrail : rail < 8) (hsup : s.power.supplied = true) (hfail : s.power.failAt = none) :
    Completes (.railFault at_ rail v) s (fun t => t.rd E.Pwr.RAIL_STATE = 2 ^ rail ∧ RestartDue 0x0A s t) := by
  refine ⟨_, congrArg Host.Outcome.next (State.railFault_eq (s := s.advance at_) hrail hsup hfail), ?_,
    .wr (State.restartDue_logicReset 0x0A (by simp [State.keepEvent]) : RestartDue 0x0A s _)⟩
  rw [State.rd_wr_self]
  exact Nat.mod_eq_of_lt (Nat.pow_lt_pow_right (by decide) hrail)

theorem State.clockFault_eq (hsup : s.power.supplied = true) : s.clockFault kind true =
    ({ (((s.incR E.Pwr.CLOCK_FAULTS).keepEvent 0x05 (vU8 (min 1 kind))).logicReset 9 false) with
       power := { (((s.incR E.Pwr.CLOCK_FAULTS).keepEvent 0x05 (vU8 (min 1 kind))).logicReset 9 false).power with clockBad := true } }).wr
      E.Pwr.CLOCK_STATE (min 1 kind + 1) := by
  simp [State.clockFault, hsup]

theorem retained_clockFaults : retainedKey E.Pwr.CLOCK_FAULTS.key = true := by decide

theorem stopEnts_ne_clockFaults : ∀ f ∈ stopEnts, E.Pwr.CLOCK_FAULTS.key ≠ f.key :=
  fun f hf => (Nat.lt_of_lt_of_le (by decide) (key_stopEnts f hf)).ne

theorem clockFault_completes (hsup : s.power.supplied = true) :
    Completes (.clockFault at_ kind true) s (fun t => t.rd E.Pwr.CLOCK_STATE = min 1 kind + 1 ∧ t.power.clockBad = true
      ∧ t.rd E.Pwr.CLOCK_FAULTS = min (2 ^ 32 - 1) (s.rd E.Pwr.CLOCK_FAULTS + 1) ∧ RestartDue 9 s t) := by
  refine ⟨_, congrArg Host.Outcome.next (State.clockFault_eq (s := s.advance at_) hsup), ?_, rfl, ?_, ?_⟩
  · rw [State.rd_wr_self]
    exact Nat.mod_eq_of_lt (show min 1 kind + 1 < 2 ^ 8 by omega)
  · have hcounted : ((s.advance at_).incR E.Pwr.CLOCK_FAULTS).rd E.Pwr.CLOCK_FAULTS = min (2 ^ 32 - 1) (s.rd E.Pwr.CLOCK_FAULTS + 1) :=
      State.rd_incR_self (by decide)
    have hreset := Leaves.logicReset (s := ((s.advance at_).incR E.Pwr.CLOCK_FAULTS).keepEvent 0x05 (vU8 (min 1 kind))) (cause := 9)
      (lost := false) retained_clockFaults stopEnts_ne_clockFaults (by decide)
    rw [State.rd_wr_ne _ _ _ _ (by decide)]
    exact (Leaves.rd (e := E.Pwr.CLOCK_FAULTS) hreset).trans hcounted
  · exact .wr (State.restartDue_logicReset 9 (by simp [State.keepEvent]) : RestartDue 9 s _)

theorem clockRestored_completes (hsup : s.power.supplied = true) :
    Completes (.clockFault at_ kind false) s (fun t => t.rd E.Pwr.CLOCK_STATE = 0 ∧ t.power = { s.power with clockBad := false }
      ∧ t.now = s.instant at_ ∧ Frame [.power] [E.Pwr.CLOCK_STATE] [] s t) := by
  have hend : (s.advance at_).clockFault kind false =
      ({ s.advance at_ with power := { s.power with clockBad := false } } : State).wr E.Pwr.CLOCK_STATE 0 := by
    simp [State.clockFault, hsup]
  exact ⟨_, congrArg Host.Outcome.next hend, State.rd_wr_self .., rfl, by simp [State.instant],
    ((Frame.refl ..).advance.with_power (by simp)).wr (by simp)⟩

theorem thermalTrip_completes (hsup : s.power.supplied = true) (hhot : fmt32.lt 0x42FA0000 j = true) :
    Completes (.thermal at_ j) s (fun t => t.power.hot = true ∧ RestartDue 0x0B s t) := by
  have htrip (y : State) (hy : y.power.supplied = true) : ∃ p, y.thermal j =
      { ((y.keepEvent 0x06 p).logicReset 0x0B false) with power := { ((y.keepEvent 0x06 p).logicReset 0x0B false).power with hot := true } } :=
    ⟨_, by simp only [State.thermal, hy, hhot, Bool.not_true, Bool.false_eq_true, if_false, if_true]; rfl⟩
  obtain ⟨p, hp⟩ := htrip (s.advance at_) hsup
  exact ⟨_, congrArg Host.Outcome.next hp, rfl, State.restartDue_logicReset 0x0B (s := s) (x := (s.advance at_).keepEvent 0x06 p) rfl⟩

theorem thermal_completes (hj : j < 2 ^ 32) (hsup : s.power.supplied = true) (hcool : fmt32.lt 0x42FA0000 j = false) :
    Completes (.thermal at_ j) s (fun t => t.rd E.Pwr.ASIC_TEMP = j ∧ t.power.boot = s.power.boot
      ∧ t.power.hot = (if fmt32.lt j 0x42C80000 then false else s.power.hot)
      ∧ t.now = s.instant at_ ∧ Frame [.power] [E.Pwr.ASIC_TEMP] [] s t) := by
  have hshown : ((s.advance at_).wr E.Pwr.ASIC_TEMP j).rd E.Pwr.ASIC_TEMP = j := (State.rd_wr_self ..).trans (Nat.mod_eq_of_lt hj)
  have hframe : Frame [.power] [E.Pwr.ASIC_TEMP] [] s ((s.advance at_).wr E.Pwr.ASIC_TEMP j) := (Frame.refl ..).advance.wr (by simp)
  refine ⟨(s.advance at_).thermal j, rfl, ?_⟩
  simp only [State.thermal, State.advance_power, hsup, hcool, Bool.not_true, Bool.false_eq_true, if_false]
  by_cases hlow : fmt32.lt j 0x42C80000 = true
  · rw [if_pos hlow, if_pos hlow]
    exact ⟨hshown, rfl, rfl, rfl, hframe.with_power (by simp)⟩
  · rw [if_neg hlow, if_neg hlow]
    exact ⟨hshown, rfl, rfl, rfl, hframe⟩

/-! ## THERMAL_STATE_CHANGE (R563) -/

/-- The state of the mounting face at temperature `m`: above 70 °C 2, above 60 °C 1. -/
def faceState (m : Nat) : Nat := if fmt32.lt 0x428C0000 m then 2 else if fmt32.lt 0x42700000 m then 1 else 0

/-- The temperatures stored, and the highest of the mounting face. -/
def State.faceMeasured (s : State) (m j : Nat) : State :=
  let t := (s.wr E.Pwr.MOUNT_TEMP m).wr E.Pwr.ASIC_TEMP j
  if fmt32.lt (t.rd E.Pwr.MOUNT_TEMP_MAX) m then t.wrR E.Pwr.MOUNT_TEMP_MAX m else t

theorem State.thermalState_eq : s.thermalState m j =
    if faceState m = 2 && s.rd E.Pwr.THERMAL_STATE != 2 then
      ((s.faceMeasured m j).wr E.Pwr.THERMAL_STATE (faceState m)).log 0x0B 0x06 (vU8 2 ++ vF32 m ++ vF32 j)
    else (s.faceMeasured m j).wr E.Pwr.THERMAL_STATE (faceState m) := rfl

theorem faceState_lt : faceState m < 2 ^ 8 := by
  unfold faceState
  split_ifs <;> decide

theorem State.rd_wrR_self {f : Ent} (hf : f.key ≠ E.Restore.RETAINED_WRITES.key) : (s.wrR f v).rd f = v % 2 ^ Ty.bits f.ty := by
  rw [State.rd, State.wrR, State.get_putR_self hf]
  rfl

theorem State.rd_wrR_ne {f g : Ent} (hf : g.key ≠ f.key) (hw : g.key ≠ E.Restore.RETAINED_WRITES.key) (hg : g.arch = false := by rfl) :
    (s.wrR f v).rd g = s.rd g := Leaves.rd ((Leaves.refl ..).wrR hf hw) hg

/-- What a measurement leaves of the temperatures. -/
structure FaceMeasured (m j : Nat) (s t : State) : Prop where
  mount : t.rd E.Pwr.MOUNT_TEMP = m
  asic : t.rd E.Pwr.ASIC_TEMP = j
  max : t.rd E.Pwr.MOUNT_TEMP_MAX = if fmt32.lt (s.rd E.Pwr.MOUNT_TEMP_MAX) m then m else s.rd E.Pwr.MOUNT_TEMP_MAX
  now : t.now = s.now
  frame : Frame retainParts ([E.Pwr.MOUNT_TEMP, E.Pwr.ASIC_TEMP, E.Pwr.THERMAL_STATE, E.Pwr.MOUNT_TEMP_MAX] ++ retainEnts) [28, 31] s t

theorem State.faceMeasured_shows (hm : m < 2 ^ 32) (hj : j < 2 ^ 32) : FaceMeasured m j s (s.faceMeasured m j) := by
  have hmax : ((s.wr E.Pwr.MOUNT_TEMP m).wr E.Pwr.ASIC_TEMP j).rd E.Pwr.MOUNT_TEMP_MAX = s.rd E.Pwr.MOUNT_TEMP_MAX := by
    rw [State.rd_wr_ne _ _ _ _ (by decide), State.rd_wr_ne _ _ _ _ (by decide)]
  have hmount : ((s.wr E.Pwr.MOUNT_TEMP m).wr E.Pwr.ASIC_TEMP j).rd E.Pwr.MOUNT_TEMP = m := by
    rw [State.rd_wr_ne _ _ _ _ (by decide), State.rd_wr_self]
    exact Nat.mod_eq_of_lt hm
  have hasic : ((s.wr E.Pwr.MOUNT_TEMP m).wr E.Pwr.ASIC_TEMP j).rd E.Pwr.ASIC_TEMP = j := (State.rd_wr_self ..).trans (Nat.mod_eq_of_lt hj)
  have hframe : Frame retainParts ([E.Pwr.MOUNT_TEMP, E.Pwr.ASIC_TEMP, E.Pwr.THERMAL_STATE, E.Pwr.MOUNT_TEMP_MAX] ++ retainEnts) [28, 31] s
      ((s.wr E.Pwr.MOUNT_TEMP m).wr E.Pwr.ASIC_TEMP j) := ((Frame.refl ..).wr (by simp)).wr (by simp)
  simp only [State.faceMeasured, hmax]
  by_cases hup : fmt32.lt (s.rd E.Pwr.MOUNT_TEMP_MAX) m = true
  · rw [if_pos hup]
    refine ⟨?_, ?_, ?_, by simp, hframe.wrR (by simp) (by simp [retainParts]) (by simp [retainEnts])⟩
    · rw [State.rd_wrR_ne (by decide) (by decide), hmount]
    · rw [State.rd_wrR_ne (by decide) (by decide), hasic]
    · rw [State.rd_wrR_self (by decide), if_pos hup]
      exact Nat.mod_eq_of_lt hm
  · rw [if_neg hup]
    exact ⟨hmount, hasic, hmax.trans (if_neg hup).symm, rfl, hframe⟩

theorem thermalStateChange_completes (hm : m < 2 ^ 32) (hj : j < 2 ^ 32) :
    Completes (.thermalStateChange at_ m j) s (fun t => t.rd E.Pwr.MOUNT_TEMP = m ∧ t.rd E.Pwr.ASIC_TEMP = j
      ∧ t.rd E.Pwr.THERMAL_STATE = faceState m
      ∧ t.rd E.Pwr.MOUNT_TEMP_MAX = (if fmt32.lt (s.rd E.Pwr.MOUNT_TEMP_MAX) m then m else s.rd E.Pwr.MOUNT_TEMP_MAX)
      ∧ t.now = s.instant at_
      ∧ Frame retainParts ([E.Pwr.MOUNT_TEMP, E.Pwr.ASIC_TEMP, E.Pwr.THERMAL_STATE, E.Pwr.MOUNT_TEMP_MAX] ++ retainEnts) [28, 31] s t) := by
  obtain ⟨hmount, hasic, hmax, hnow, hframe⟩ := State.faceMeasured_shows (s := s.advance at_) hm hj
  have hstored := hframe.wr (e := E.Pwr.THERMAL_STATE) (n := faceState m) (by simp)
  refine ⟨_, congrArg Host.Outcome.next (State.thermalState_eq (s := s.advance at_)), ?_⟩
  split
  · refine ⟨?_, ?_, ?_, ?_, by simp [hnow, State.instant], (Frame.refl ..).advance.trans (hstored.log (by simp [retainParts]) (by simp))⟩
    · rw [State.rd_log_of_ne _ _ _ (by decide), State.rd_wr_ne _ _ _ _ (by decide), hmount]
    · rw [State.rd_log_of_ne _ _ _ (by decide), State.rd_wr_ne _ _ _ _ (by decide), hasic]
    · rw [State.rd_log_of_ne _ _ _ (by decide), State.rd_wr_self]
      exact Nat.mod_eq_of_lt faceState_lt
    · rw [State.rd_log_of_ne _ _ _ (by decide), State.rd_wr_ne _ _ _ _ (by decide), hmax]
      rfl
  · refine ⟨?_, ?_, ?_, ?_, by simp [hnow, State.instant], (Frame.refl ..).advance.trans hstored⟩
    · rw [State.rd_wr_ne _ _ _ _ (by decide), hmount]
    · rw [State.rd_wr_ne _ _ _ _ (by decide), hasic]
    · rw [State.rd_wr_self]
      exact Nat.mod_eq_of_lt faceState_lt
    · rw [State.rd_wr_ne _ _ _ _ (by decide), hmax]
      rfl

/-! ## OPERATING_HOUR (R453, R500, R563) -/

/-- The hours of brake output `n` counted. -/
def State.brakeHour (s : State) (n : Nat) : State := (s.incR (E.Sb.HT_AGE n)).showSbDiag n

theorem State.operatingHour_eq (hsup : s.power.supplied = true) (hboot : s.power.boot = none) (hdue : s.power.hourAt + 3600000000000 ≤ s.now) :
    s.operatingHour = ((List.range 8).foldl State.brakeHour
      (({ s with power := { s.power with hourAt := s.now } } : State).incR E.Pwr.OPERATING_HOURS |>.incR E.Castle.PROOF_AGE)).showTwin := by
  simp only [State.operatingHour, hsup, hboot, Nat.not_lt.2 hdue, Bool.not_true, Option.isSome_none, Bool.or_false,
    decide_false, Bool.false_eq_true, if_false]
  rfl

theorem Leaves.brakeHour {n key : Nat} (ha : key ≠ (E.Sb.HT_AGE n).key) (hd : key ≠ (E.Sb.SB_DIAG n).key)
    (hw : key ≠ E.Restore.RETAINED_WRITES.key) : Leaves key s (s.brakeHour n) := ((Leaves.refl ..).incR ha hw).wr hd

theorem State.brakeHour_now (n : Nat) : (s.brakeHour n).now = s.now := by simp [State.brakeHour, State.showSbDiag]

theorem State.brakeHour_rd (n : Nat) : (s.brakeHour n).rd (E.Sb.HT_AGE n) = min (2 ^ 32 - 1) (s.rd (E.Sb.HT_AGE n) + 1) := by
  have hne : (E.Sb.HT_AGE n).key ≠ (E.Sb.SB_DIAG n).key := by simp only [E.Sb.HT_AGE, E.Sb.SB_DIAG, entN]; omega
  rw [State.brakeHour, State.showSbDiag, State.rd_wr_ne _ _ _ _ hne, State.rd_incR_self]
  · rfl
  · simp only [E.Sb.HT_AGE, E.Restore.RETAINED_WRITES, entN]
    omega

theorem htAge_ne {n m : Nat} (h : n ≠ m) : (E.Sb.HT_AGE n).key ≠ (E.Sb.HT_AGE m).key
    ∧ (E.Sb.HT_AGE n).key ≠ (E.Sb.SB_DIAG m).key := by
  simp only [E.Sb.HT_AGE, E.Sb.SB_DIAG, entN]
  omega

theorem htAge_ne_counters {n : Nat} (hn : n < 8) : (E.Sb.HT_AGE n).key ≠ E.Restore.RETAINED_WRITES.key ∧ (E.Sb.HT_AGE n).key ≠ E.Pwr.OPERATING_HOURS.key
    ∧ (E.Sb.HT_AGE n).key ≠ E.Castle.PROOF_AGE.key := by
  refine ⟨?_, ?_, ?_⟩ <;> simp only [E.Sb.HT_AGE, E.Restore.RETAINED_WRITES, E.Pwr.OPERATING_HOURS, E.Castle.PROOF_AGE, entN] <;> omega

/-- The hour of each listed output counts once. -/
theorem State.brakeHours_rd {n : Nat} {l : List Nat} (hn8 : n < 8) (hd : l.Nodup) (hn : n ∈ l) :
    (l.foldl State.brakeHour s).rd (E.Sb.HT_AGE n) = min (2 ^ 32 - 1) (s.rd (E.Sb.HT_AGE n) + 1) := by
  have hleaves (m : Nat) (y : State) (h : n ≠ m) : Leaves (E.Sb.HT_AGE n).key y (y.brakeHour m) :=
    .brakeHour (htAge_ne h).1 (htAge_ne h).2 (htAge_ne_counters hn8).1
  induction l generalizing s with
  | nil => cases hn
  | cons m l ih =>
    obtain ⟨hmem, hd'⟩ := List.nodup_cons.1 hd
    rw [List.foldl_cons]
    rcases List.mem_cons.1 hn with rfl | hn'
    · have hrest : Leaves (E.Sb.HT_AGE n).key (s.brakeHour n) (l.foldl State.brakeHour (s.brakeHour n)) :=
        (Leaves.refl ..).foldl fun y m hm => hleaves m y fun heq => hmem (heq ▸ hm)
      rw [hrest.rd, State.brakeHour_rd]
    · rw [ih hd' hn', (hleaves m s fun heq => hmem (heq ▸ hn')).rd]

theorem State.brakeHours_power (l : List Nat) : (l.foldl State.brakeHour s).power = s.power := by
  induction l generalizing s with
  | nil => rfl
  | cons m l ih => rw [List.foldl_cons, ih, State.brakeHour, State.showSbDiag, State.wr_power, State.incR_power]

theorem State.brakeHours_now (l : List Nat) : (l.foldl State.brakeHour s).now = s.now := by
  induction l generalizing s with
  | nil => rfl
  | cons m l ih => rw [List.foldl_cons, ih, State.brakeHour_now]

theorem operatingHour_completes (hsup : s.power.supplied = true) (hboot : s.power.boot = none)
    (hdue : s.power.hourAt + 3600000000000 ≤ s.instant at_) :
    Completes (.operatingHour at_) s (fun t => t.power = { s.power with hourAt := s.instant at_ }
      ∧ t.rd E.Pwr.OPERATING_HOURS = min (2 ^ 32 - 1) (s.rd E.Pwr.OPERATING_HOURS + 1)
      ∧ t.rd E.Castle.PROOF_AGE = min (2 ^ 32 - 1) (s.rd E.Castle.PROOF_AGE + 1)
      ∧ (∀ n < 8, t.rd (E.Sb.HT_AGE n) = min (2 ^ 32 - 1) (s.rd (E.Sb.HT_AGE n) + 1))
      ∧ t.now = s.instant at_ ∧ Keeps [.power, .twin, .ledger, .blocks, .free] s t) := by
  have heq := State.operatingHour_eq (s := s.advance at_) hsup hboot hdue
  generalize hx : (({ s.advance at_ with power := { (s.advance at_).power with hourAt := (s.advance at_).now } } : State).incR
    E.Pwr.OPERATING_HOURS |>.incR E.Castle.PROOF_AGE) = x at heq
  have hpower : x.power = { s.power with hourAt := s.instant at_ } := by simp [← hx, State.instant]
  have hnow : x.now = s.instant at_ := by simp [← hx, State.instant]
  have hhours : x.rd E.Pwr.OPERATING_HOURS = min (2 ^ 32 - 1) (s.rd E.Pwr.OPERATING_HOURS + 1) := by
    rw [← hx, Leaves.rd ((Leaves.refl ..).incR (by decide) (by decide))]
    exact State.rd_incR_self (by decide)
  have hage : x.rd E.Castle.PROOF_AGE = min (2 ^ 32 - 1) (s.rd E.Castle.PROOF_AGE + 1) := by
    rw [← hx, State.rd_incR_self (by decide), Leaves.rd ((Leaves.refl ..).incR (by decide) (by decide))]
    rfl
  have hbrake {n : Nat} (hn : n < 8) : x.rd (E.Sb.HT_AGE n) = s.rd (E.Sb.HT_AGE n) := by
    obtain ⟨hw, ho, hp⟩ := htAge_ne_counters hn
    rw [← hx]
    exact Leaves.rd ((((Leaves.refl ..).of_od rfl).incR ho hw).incR hp hw)
  have hcounted {key : Nat} (hk : key < 0x692000 ∨ 0x6A2000 ≤ key) (hw : key ≠ E.Restore.RETAINED_WRITES.key) :
      Leaves key x ((List.range 8).foldl State.brakeHour x) :=
    (Leaves.refl ..).foldl fun y n hn => by
      have hn8 := List.mem_range.1 hn
      refine .brakeHour ?_ ?_ hw <;> simp only [E.Sb.HT_AGE, E.Sb.SB_DIAG, entN] <;> omega
  have hshown {key : Nat} (hk : ∀ f ∈ twinEnts, key ≠ f.key) (h28 : key / 256 ≠ 0x1B1C) :
      Leaves key ((List.range 8).foldl State.brakeHour x) ((List.range 8).foldl State.brakeHour x).showTwin :=
    .of_frame ((Frame.refl [.twin, .ledger] twinEnts [28] _).showTwin (by simp) (by simp) (by simp)) hk (by simpa using h28)
  refine ⟨(s.advance at_).operatingHour, rfl, ?_, ?_, ?_, fun n hn => ?_, ?_, ?_⟩
  · exact heq ▸ (State.showTwin_moves.1.2 .power (by decide)).trans ((State.brakeHours_power _).trans hpower)
  · rw [heq, (hshown (by decide) (by decide)).rd, (hcounted (by decide) (by decide)).rd, hhours]
  · rw [heq, (hshown (by decide) (by decide)).rd, (hcounted (by decide) (by decide)).rd, hage]
  · have hkey : ∀ f ∈ twinEnts, (E.Sb.HT_AGE n).key ≠ f.key := by
      simp only [E.Sb.HT_AGE, entN]
      have hfar : ∀ f ∈ twinEnts, f.key < 0x692000 ∨ 0x6A2000 ≤ f.key := by decide
      exact fun f hf => by have := hfar f hf; omega
    rw [heq, (hshown hkey (by simp only [E.Sb.HT_AGE, entN]; omega)).rd, State.brakeHours_rd hn List.nodup_range (List.mem_range.2 hn), hbrake hn]
  · rw [heq, State.showTwin_now, State.brakeHours_now, hnow]
  · exact ((Moves.refl [.power, .twin, .ledger, .blocks, .free] s).step State.advance_moves |>.step State.operatingHour_moves).1

end

/-- Settles O58: each command by its own lemma; the faults that reset leave a start due, and the counter of clock faults, being RETAINED,
survives the reset. -/
theorem supplyTemperatureAndClock : Obligations.SupplyTemperatureAndClock := by
  unfold Obligations.SupplyTemperatureAndClock
  refine ⟨fun s at_ v hv hsup hlow h1 h3 => ?_, fun s at_ v hv hsup hhigh h2 h3 => ?_, fun s at_ v hv hsup hlo hhi hst => ?_,
    fun s at_ e he hsup hfail => holdupCharged_completes he hsup hfail, fun s at_ rail v hr hsup hfail => railFault_completes hr hsup hfail,
    fun s at_ kind hsup => clockFault_completes hsup, fun s at_ kind hsup => clockRestored_completes hsup,
    fun s at_ j hsup hhot => thermalTrip_completes hsup hhot, fun s at_ j hj hsup hcool => thermal_completes hj hsup hcool,
    fun s at_ m j hm hj => thermalStateChange_completes hm hj, fun s at_ hsup hboot hdue => operatingHour_completes hsup hboot hdue⟩
  case _ =>
    have heq : (s.advance at_).supLow v = ((s.advance at_).measureSup v).setSup 1 v := by
      simp [State.supLow, hsup, supLow, hlow, h1, h3]
    obtain ⟨hstate, hvolt, hnow, hframe⟩ := State.supplyShown (s := s.advance at_) (st := 1) (by decide) hv
    exact ⟨_, congrArg Host.Outcome.next heq, hstate, hvolt, hnow, (Frame.refl ..).advance.trans hframe⟩
  case _ =>
    have heq : (s.advance at_).supHigh v = ((s.advance at_).measureSup v).setSup 2 v := by
      simp [State.supHigh, hsup, supHigh, hhigh, h2, h3]
    obtain ⟨hstate, hvolt, hnow, hframe⟩ := State.supplyShown (s := s.advance at_) (st := 2) (by decide) hv
    exact ⟨_, congrArg Host.Outcome.next heq, hstate, hvolt, hnow, (Frame.refl ..).advance.trans hframe⟩
  case _ =>
    have heq : (s.advance at_).supNormal v = ((s.advance at_).measureSup v).setSup 0 v := by
      rcases hst with h | h <;> simp [State.supNormal, hsup, supLow, supHigh, hlo, hhi, h]
    obtain ⟨hstate, hvolt, hnow, hframe⟩ := State.supplyShown (s := s.advance at_) (st := 0) (by decide) hv
    exact ⟨_, congrArg Host.Outcome.next heq, hstate, hvolt, hnow, (Frame.refl ..).advance.trans hframe⟩

end Sys2Proof.Machine
end

section

/-! SUPPORT. A command of any table: it stores nothing, renews the nonces that it reaches, and has its effect (R49, R69). -/
namespace Sys2Proof.Machine

section
variable {s x : State} {at_ key : Nat} {w : Writer} {ty : Ty} {v : Value}

/-- An accepted command leaves its effect, answered, and has passed the check of its owner. -/
theorem State.writeStep_effect (h : s.accepts at_ w key ty v)
    (hrow : (tableRow key).any (fun r => r.1.acc == .wo && r.1.ret == .volatile) = true)
    (hi : (key / 256 < 0x4400 ∨ 0x4800 ≤ key / 256) ∧ key / 256 < 0x8000) (hs : key % 256 ≠ 0 ∧ key % 256 ≠ 0x1F)
    (ha : key / 256 < 0x5200 ∨ 0x5300 ≤ key / 256) :
    (s.advance at_).writeStep w key ty v = (((s.advance at_).reached key v).effOwner w key v).answered
      ∧ (s.advance at_).chkOwner w key v = 0 := by
  obtain ⟨⟨r, e⟩, hrow, hr⟩ := exists_row_of_any hrow
  simp only [Bool.and_eq_true, beq_iff_eq] at hr
  have hb := State.bare_of_servicesUp h.1
  have hpower : ((s.advance at_).reached key v).power = (s.advance at_).power := State.reached_moves.1.2 .power (by decide)
  have he := State.entryAt_of_tableRow hb hi.1 hi.2 hs.1 hrow
  have hreached := State.entryAt_of_tableRow (s := (s.advance at_).reached key v) (by rw [hpower]; exact hb) hi.1 hi.2 hs.1 hrow
  have habort (t : State) : abortOf (s.advance at_) t key v = none := by
    have hno : (decide (0x5200 ≤ key / 256) && decide (key / 256 < 0x5300)) = false := by simp; omega
    simp [abortOf, hno, hs.2]
  refine ⟨?_, State.chkOwner_of_accepts h he⟩
  rw [State.writeStep_of_accepts h habort, State.commitWrite, State.storeValue_command hreached hi.2 (by simp [hr]) (by simp [hr])]
  simp [State.mirrored, retainedKey, hrow, hr, State.answered]

theorem State.answered_part {p : Part} (hp : p ≠ .answer) : p.same x x.answered := (State.answered_frame x).2.1 p (by simpa using hp)

@[simp] theorem State.answered_power : x.answered.power = x.power := State.answered_part (p := .power) (by decide)

theorem RestartDue.answered {c : Nat} (h : RestartDue c s x) : RestartDue c s x.answered := h.servicesCommit 0

end

end Sys2Proof.Machine
end

section

/-! SUPPORT. O60. The firmware slots (R554 to R556). -/
namespace Sys2Proof.Machine

section
variable {s : State} {at_ n k j : Nat} {w : Writer} {b : List Byte} {x : FwSlot}

@[simp] theorem State.slot_setSlot_self : (s.setSlot k x).slot k = x := by simp [State.slot, State.setSlot]

theorem State.slot_setSlot_ne (h : j ≠ k) : (s.setSlot k x).slot j = s.slot j := by simp [State.slot, State.setSlot, h]

theorem Frame.setSlot {ps : List Part} {es : List Ent} {rs : List Nat} {y : State} (h : Frame ps es rs s y) (hp : Part.power ∈ ps) :
    Frame ps es rs s (y.setSlot k x) := h.with_power hp

@[simp] theorem State.slot_answered : s.answered.slot k = s.slot k := congrArg (fun p : PowerSt => p.slots.fetch {} k) State.answered_power

/-! ## FW_STAGE_DATA -/

theorem fwStageData_step (h : s.accepts at_ w E.Start.FW_STAGE_DATA.key .octets (.bytes b)) :
    (s.advance at_).writeStep w E.Start.FW_STAGE_DATA.key .octets (.bytes b) = ((s.advance at_).effFwData b).answered
      ∧ s.rd E.Start.FW_STAGE_OFFSET + b.length ≤ 268435456 := by
  obtain ⟨hstep, hcheck⟩ := State.writeStep_effect h rfl (by decide) (by decide) (by decide)
  refine ⟨hstep, ?_⟩
  have hdata : (s.advance at_).chkFwData b.length = 0 := hcheck
  by_contra hn
  simp [State.chkFwData, need, stRange, hn] at hdata

theorem fwStageData_completes (h : s.accepts at_ w E.Start.FW_STAGE_DATA.key .octets (.bytes b)) :
    Completes (.fwStageData at_ w b) s (fun t => t.odStatus = 0
      ∧ (∀ i < b.length, (t.slot s.otherSlot).bytes.read (s.rd E.Start.FW_STAGE_OFFSET + i) = b.getD i 0)
      ∧ (∀ a, a < s.rd E.Start.FW_STAGE_OFFSET ∨ s.rd E.Start.FW_STAGE_OFFSET + b.length ≤ a →
          (t.slot s.otherSlot).bytes.read a = (s.slot s.otherSlot).bytes.read a)
      ∧ (∀ j, j ≠ s.otherSlot → t.slot j = s.slot j) ∧ t.rd E.Start.FW_STAGE_OFFSET = s.rd E.Start.FW_STAGE_OFFSET + b.length
      ∧ t.rd E.Start.FW_STAGE_RESULT = 0xFF
      ∧ t.now = s.instant at_ ∧ Frame [.answer, .power] ([E.Start.FW_STAGE_OFFSET, E.Start.FW_STAGE_RESULT] ++ genEnts) [] s t) := by
  obtain ⟨hstep, hroom⟩ := fwStageData_step h
  have hself : ((s.advance at_).effFwData b).slot s.otherSlot
      = { bytes := (s.slot s.otherSlot).bytes.writeList (s.rd E.Start.FW_STAGE_OFFSET) b, state := 2 } :=
    State.slot_setSlot_self (s := s.advance at_)
  have hother (j : Nat) (hj : j ≠ s.otherSlot) : ((s.advance at_).effFwData b).slot j = s.slot j := State.slot_setSlot_ne (s := s.advance at_) hj
  refine ⟨_, congrArg Host.Outcome.next hstep, rfl, fun i hi => ?_, fun a ha => ?_, fun j hj => ?_, ?_, ?_, by simp [State.instant], ?_⟩
  · rw [State.slot_answered, hself, List.getD_eq_getElem _ _ hi]
    exact Memory.read_writeList_inside _ _ _ _ hi
  · rw [State.slot_answered, hself]
    exact Memory.read_writeList_outside _ _ _ _ ha
  · rw [State.slot_answered, hother j hj]
  · rw [State.rd_answered _ (by decide), State.effFwData, State.rd_wr_ne _ _ _ _ (by decide), State.rd_wr_self]
    exact Nat.mod_eq_of_lt (show s.rd E.Start.FW_STAGE_OFFSET + b.length < 2 ^ 32 by omega)
  · rw [State.rd_answered _ (by decide), State.effFwData, State.rd_wr_self]
    rfl
  · exact ((((Frame.refl [.answer, .power] _ _ s).advance.setSlot (by simp)).wr (by simp)).wr (by simp)).answered (by simp)

/-! ## FW_STAGE_CHECK -/

/-- What the bytes of slot `k` spell. -/
def State.slotImage (s : State) (k : Nat) : Option FwImage :=
  Config.fwReading ((s.slot k).bytes.readList 0 ((s.slot k).bytes.cells.getLast?.elim 0 (fun c => c.1 + 1)))

/-- A slot as its check leaves it. -/
def FwSlot.checked (x : FwSlot) (r : Nat) (f : FwImage) : FwSlot :=
  if r = 0 then { x with state := 1, release := f.release, security := f.security } else { x with state := 2, release := 0 }

theorem FwSlot.checked_state {r : Nat} {f : FwImage} : (x.checked r f).state = 1 ↔ r = 0 := by
  unfold FwSlot.checked
  split <;> simp [*]

theorem FwSlot.checked_bytes {r : Nat} {f : FwImage} : (x.checked r f).bytes = x.bytes := by
  unfold FwSlot.checked
  split <;> rfl

theorem State.effFwCheck_eq : s.effFwCheck 1 = (s.setSlot s.otherSlot ((s.slot s.otherSlot).checked
    (fwCheck (s.slotImage s.otherSlot) s.power.fuse) ((s.slotImage s.otherSlot).getD {}))).wr E.Start.FW_STAGE_RESULT
      (fwCheck (s.slotImage s.otherSlot) s.power.fuse) := by
  unfold State.effFwCheck State.slotImage FwSlot.checked
  cases h : (s.slot s.otherSlot).bytes.cells.getLast? <;> simp only [h, Option.elim_none, Option.elim_some] <;> rfl

theorem fwCheck_lt (img : Option FwImage) (fuse : Nat) : fwCheck img fuse < 2 ^ 8 := by
  unfold fwCheck
  split
  · decide
  · split_ifs <;> decide

theorem fwStageCheck_completes (h : s.accepts at_ w E.Start.FW_STAGE_CHECK.key .bool (.num 1)) :
    Completes (.fwStageCheck at_ w) s (fun t => t.odStatus = 0 ∧ ((t.slot s.otherSlot).state = 1 ↔ t.rd E.Start.FW_STAGE_RESULT = 0)
      ∧ t.rd E.Start.FW_STAGE_RESULT = fwCheck (s.slotImage s.otherSlot) s.power.fuse
      ∧ (t.slot s.otherSlot).bytes = (s.slot s.otherSlot).bytes ∧ (∀ j, j ≠ s.otherSlot → t.slot j = s.slot j)
      ∧ t.now = s.instant at_ ∧ Frame [.answer, .power] (E.Start.FW_STAGE_RESULT :: genEnts) [] s t) := by
  obtain ⟨hstep, -⟩ := State.writeStep_effect h rfl (by decide) (by decide) (by decide)
  have heff : ((s.advance at_).reached E.Start.FW_STAGE_CHECK.key (.num 1)).effOwner w E.Start.FW_STAGE_CHECK.key (.num 1)
      = (s.advance at_).effFwCheck 1 := rfl
  have hlt := fwCheck_lt (s.slotImage s.otherSlot) s.power.fuse
  have heq : (s.advance at_).effFwCheck 1 = ((s.advance at_).setSlot s.otherSlot ((s.slot s.otherSlot).checked
      (fwCheck (s.slotImage s.otherSlot) s.power.fuse) ((s.slotImage s.otherSlot).getD {}))).wr E.Start.FW_STAGE_RESULT
        (fwCheck (s.slotImage s.otherSlot) s.power.fuse) := State.effFwCheck_eq
  rw [heff, heq] at hstep
  generalize fwCheck (s.slotImage s.otherSlot) s.power.fuse = r at hstep hlt
  generalize (s.slotImage s.otherSlot).getD {} = f at hstep
  have hresult : (((s.advance at_).setSlot s.otherSlot ((s.slot s.otherSlot).checked r f)).wr E.Start.FW_STAGE_RESULT r).answered.rd
      E.Start.FW_STAGE_RESULT = r := by
    rw [State.rd_answered _ (by decide), State.rd_wr_self]
    exact Nat.mod_eq_of_lt hlt
  have hself : (((s.advance at_).setSlot s.otherSlot ((s.slot s.otherSlot).checked r f)).wr E.Start.FW_STAGE_RESULT r).answered.slot s.otherSlot
      = (s.slot s.otherSlot).checked r f := State.slot_answered.trans (State.slot_setSlot_self (s := s.advance at_))
  refine ⟨_, congrArg Host.Outcome.next hstep, rfl, ?_, hresult, ?_, fun j hj => ?_, by simp [State.instant], ?_⟩
  · rw [hself, hresult, FwSlot.checked_state]
  · rw [hself, FwSlot.checked_bytes]
  · exact State.slot_answered.trans (State.slot_setSlot_ne (s := s.advance at_) hj)
  · exact (((Frame.refl [.answer, .power] [E.Start.FW_STAGE_RESULT] [] s).advance.setSlot (by simp)).wr (by simp)).answered (by simp)

/-! ## FW_ACTIVATE and TRIAL_TIMEOUT -/

/-- TOKEN stops: of the supply and the starts only the instant of the resume changes. -/
theorem State.stopToken_power (hold : Bool) : ∃ r, (s.stopToken hold).power = { s.power with resumeAt := r } := by
  unfold State.stopToken
  split
  · exact ⟨_, rfl⟩
  · refine ⟨none, (State.setRole_moves.1.2 .power (by decide)).trans ?_⟩
    exact congrArg (fun p : PowerSt => { p with resumeAt := none }) (State.fieldOff_moves.1.2 .power (by decide))

/-- The slots and the trial survive a reset. -/
theorem State.logicReset_slots (c : Nat) (lost : Bool) : (s.logicReset c lost).power.trial = s.power.trial ∧ (s.logicReset c lost).slot k = s.slot k := by
  obtain ⟨r, hr⟩ := s.stopToken_power false
  have hpower : (s.stopToken false).fieldOff.power = { s.power with resumeAt := r } := (State.fieldOff_moves.1.2 .power (by decide)).trans hr
  have htrial : (s.logicReset c lost).power.trial = (s.stopToken false).fieldOff.power.trial := rfl
  have hslots : (s.logicReset c lost).power.slots = (s.stopToken false).fieldOff.power.slots := rfl
  rw [State.slot, htrial, hslots, hpower]
  exact ⟨rfl, rfl⟩

/-- FW_ACTIVATE resets a module that tries the other slot. -/
theorem State.effFwActivate_eq : ∃ z : State, s.effFwActivate = z.logicReset 6 false ∧ z.power.trial = some s.otherSlot
    ∧ z.slot s.otherSlot = { s.slot s.otherSlot with state := 3 } ∧ z.pending = s.pending := by
  unfold State.effFwActivate
  extract_lets k x y z
  have hz : z.power = y.power := by simp [z]
  have hz' : z.pending = y.pending := by simp [z]
  have hlog : (s.log 0x01 0x05 (vU8 k ++ vU16 x.release)).pending = s.pending := State.log_pending ..
  have hsettled : (s.log 0x01 0x05 (vU8 k ++ vU16 x.release)).settleLog.pending = s.pending := State.settleLog_moves.1.1.trans hlog
  have hy : y.pending = s.pending := by
    simp only [y, State.setSlot]
    exact hsettled
  clear_value z
  refine ⟨_, rfl, rfl, ?_, ?_⟩
  · calc ({ z with power := { z.power with trial := some k } } : State).slot s.otherSlot = z.power.slots.fetch {} k := rfl
      _ = y.slot k := by rw [hz]; rfl
      _ = { x with state := 3 } := State.slot_setSlot_self
  · exact hz'.trans hy

theorem State.effFwActivate_leaves : s.effFwActivate.power.trial = some s.otherSlot ∧ (s.effFwActivate.slot s.otherSlot).state = 3
    ∧ RestartDue 6 s s.effFwActivate := by
  obtain ⟨z, heq, htrial, hslot, hpending⟩ := s.effFwActivate_eq
  obtain ⟨hkept, hsame⟩ := z.logicReset_slots (k := s.otherSlot) 6 false
  rw [heq, hkept, hsame, htrial, hslot]
  exact ⟨rfl, rfl, State.restartDue_logicReset 6 hpending⟩

theorem fwActivate_completes (h : s.accepts at_ w E.Start.FW_ACTIVATE.key .u32 (.num n)) :
    Completes (.fwActivate at_ w n) s (fun t => t.odStatus = 0 ∧ t.power.trial = some s.otherSlot ∧ (t.slot s.otherSlot).state = 3
      ∧ RestartDue 6 s t) := by
  obtain ⟨hstep, -⟩ := State.writeStep_effect h rfl (by decide) (by decide) (by decide)
  have heff (y : State) : y.effOwner w E.Start.FW_ACTIVATE.key (.num n) = y.effFwActivate := rfl
  have hrenewed : (s.advance at_).reached E.Start.FW_ACTIVATE.key (.num n) = (s.advance at_).renew E.Start.FW_NONCE := rfl
  rw [hrenewed, heff] at hstep
  have hleaves : Leaves E.Start.FW_ACTIVE_SLOT.key (s.advance at_) ((s.advance at_).renew E.Start.FW_NONCE) := (Leaves.refl ..).renew (by decide)
  have hother : ((s.advance at_).renew E.Start.FW_NONCE).otherSlot = s.otherSlot := congrArg (1 - ·) (hleaves.rd (e := E.Start.FW_ACTIVE_SLOT))
  obtain ⟨htrial, hstate, hdue⟩ := State.effFwActivate_leaves (s := (s.advance at_).renew E.Start.FW_NONCE)
  rw [hother] at htrial hstate
  have hanswered := RestartDue.answered (s := s) hdue
  generalize ((s.advance at_).renew E.Start.FW_NONCE).effFwActivate = y at *
  refine ⟨_, congrArg Host.Outcome.next hstep, rfl, ?_, ?_, hanswered⟩
  · rw [State.answered_power, htrial]
  · rw [State.slot_answered, hstate]

theorem trialTimeout_completes (hk : s.power.trial = some k) (hboot : s.power.boot = none) (hdue : 120000000000 ≤ s.instant at_) :
    Completes (.trialTimeout at_) s (fun t => t.slot k = { s.slot k with state := 2 } ∧ (∀ j, j ≠ k → t.slot j = s.slot j)
      ∧ t.power.trial = some k ∧ t.now = s.instant at_ ∧ Frame [.power] [] [] s t) := by
  have hnow : ¬ (s.advance at_).now < 120000000000 := Nat.not_lt.2 hdue
  have heq : (s.advance at_).trialTimeout = (s.advance at_).setSlot k { s.slot k with state := 2 } := by
    simp only [State.trialTimeout, State.advance_power, hk, hboot, Option.isSome_none, Bool.false_or, decide_eq_false hnow, Bool.false_eq_true,
      if_false]
    rfl
  exact ⟨_, congrArg Host.Outcome.next heq, State.slot_setSlot_self, fun j hj => State.slot_setSlot_ne hj, hk, rfl,
    (Frame.refl ..).advance.setSlot (by simp)⟩

end

/-- Settles O60: the three commands of the firmware slots by their effects, and the timeout of the trial. -/
theorem firmwareSlotsAreStagedCheckedAndTried : Obligations.FirmwareSlotsAreStagedCheckedAndTried := by
  unfold Obligations.FirmwareSlotsAreStagedCheckedAndTried
  refine ⟨?_, ?_, fun s at_ n w h _ => fwActivate_completes h, fun s at_ k hk hboot hdue => trialTimeout_completes hk hboot hdue⟩
  · rintro s at_ w b h _ rfl _ rfl
    exact fwStageData_completes h
  · rintro s at_ w h _ rfl
    exact fwStageCheck_completes h

end Sys2Proof.Machine
end

section

/-! SUPPORT. The current outputs: one bit of AO_DIAG, and the current that an output takes (R392, R394, R395). -/
namespace Sys2Proof.Machine

/-- A fold over distinct numbers does to what belongs to one of them what its own step does. -/
theorem foldl_of_mem {γ : Type} {f : State → Nat → State} (g : State → γ) {c : γ} {n : Nat} {l : List Nat} {s : State}
    (hd : l.Nodup) (hn : n ∈ l) (hself : ∀ y, g y = g s → g (f y n) = c) (hne : ∀ y, ∀ m, m ≠ n → g (f y m) = g y) : g (l.foldl f s) = c := by
  have hother (k : List Nat) (y : State) (hk : n ∉ k) : g (k.foldl f y) = g y := by
    induction k generalizing y with
    | nil => rfl
    | cons m k ih => rw [List.foldl_cons, ih _ fun h => hk (.tail _ h), hne y m fun h => hk (h ▸ .head _)]
  induction l generalizing s with
  | nil => cases hn
  | cons m l ih =>
    obtain ⟨hm, hd⟩ := List.nodup_cons.1 hd
    rw [List.foldl_cons]
    rcases List.mem_cons.1 hn with rfl | hn'
    · rw [hother l _ hm, hself s rfl]
    · refine ih hd hn' fun y hy => hself y (hy.trans (hne s m fun h => hm (h ▸ hn')))

section
variable {s : State} {o p bit event at_ : Nat} {x : AoSt} {v : Bool}

@[simp] theorem State.aout_setAout_self : (s.setAout o x).aout o = x := by simp [State.aout, State.setAout]

@[simp] theorem State.aout_advance : (s.advance at_).aout o = s.aout o := rfl

theorem State.aout_setAout_ne (h : p ≠ o) : (s.setAout o x).aout p = s.aout p := by simp [State.aout, State.setAout, h]

theorem setBit_of_eq {n i : Nat} {b : Bool} (h : bitOf n i = b) : setBit n i b = n := if_pos (beq_iff_eq.2 h)

theorem State.setAoDiag_of_eq (h : bitOf (s.aout o).diag bit = v) : s.setAoDiag o bit v event = s := if_pos (beq_iff_eq.2 h)

theorem State.setAoDiag_of_ne (h : bitOf (s.aout o).diag bit ≠ v) : s.setAoDiag o bit v event =
    ((s.setAout o { s.aout o with diag := setBit (s.aout o).diag bit v }).wr (E.Ao.AO_DIAG o) (setBit (s.aout o).diag bit v)).fieldDiag 0x06 o event
      (ofBool v) := if_neg fun heq => h (beq_iff_eq.1 heq)

/-- What is left of an output once one bit of its diagnostics is set or cleared. -/
structure AoDiagSet (s : State) (o bit : Nat) (v : Bool) (t : State) : Prop where
  aout : t.aout o = { s.aout o with diag := setBit (s.aout o).diag bit v }
  field : t.field.powered = s.field.powered ∧ t.field.enable = s.field.enable ∧ t.field.shed = s.field.shed
  now : t.now = s.now
  frame : Frame [.field] [E.Ao.AO_DIAG o] [] s t

theorem State.setAoDiag_set (s : State) (o bit : Nat) (v : Bool) (event : Nat) : AoDiagSet s o bit v (s.setAoDiag o bit v event) := by
  by_cases h : bitOf (s.aout o).diag bit = v
  · rw [State.setAoDiag_of_eq h]
    exact ⟨by rw [setBit_of_eq h], ⟨rfl, rfl, rfl⟩, rfl, .refl ..⟩
  · rw [State.setAoDiag_of_ne h]
    exact ⟨State.aout_setAout_self, ⟨rfl, rfl, rfl⟩, rfl, (((Frame.refl ..).setAout (by simp)).wr (by simp)).fieldDiag (by simp)⟩

theorem AoDiagSet.self {t : State} (h : AoDiagSet s o bit v t) : bitOf (t.aout o).diag bit = v := by rw [h.aout, bitOf_setBit_self]

theorem AoDiagSet.others {t : State} (h : AoDiagSet s o bit v t) {k : Nat} (hk : k ≠ bit) : bitOf (t.aout o).diag k = bitOf (s.aout o).diag k := by
  rw [h.aout, bitOf_setBit_ne _ _ hk]

/-! ## The output takes its current (Table ANA-6) -/

theorem State.refreshAo_aout : (s.refreshAo o).aout o = { s.aout o with out := (s.aoDecide o).1 } := State.aout_setAout_self

theorem State.refreshAo_state : (s.refreshAo o).rd (E.Ao.AO_OUTPUT_STATE o) = (s.aoDecide o).2 % 2 ^ 8 := State.rd_wr_self ..

theorem State.aoDecide_of_hot (hp : s.field.powered = true) (he : s.field.enable = true) (hs : s.field.shed = false)
    (hb : bitOf (s.aout o).diag 3 = true) : s.aoDecide o = (0, 3) := by
  simp [State.aoDecide, hp, he, hs, hb]

/-! ## The commands about an output (R394, R395) -/

theorem aoCompliance_completes (ho : o < 16) (h : v = true → bitOf (s.aout o).diag 1 = false) :
    Completes (.aoCompliance at_ o v) s (fun t => bitOf (t.aout o).diag 0 = v
      ∧ (∀ k, k ≠ 0 → bitOf (t.aout o).diag k = bitOf (s.aout o).diag k)
      ∧ t.rd (E.Ao.COMPLIANCE_EVENTS o) = (if v = true ∧ bitOf (s.aout o).diag 0 = false
          then min (2 ^ 32 - 1) (s.rd (E.Ao.COMPLIANCE_EVENTS o) + 1) else s.rd (E.Ao.COMPLIANCE_EVENTS o))
      ∧ t.now = s.instant at_ ∧ Frame [.field] [E.Ao.AO_DIAG o, E.Ao.COMPLIANCE_EVENTS o] [] s t) := by
  have hne : (E.Ao.COMPLIANCE_EVENTS o).key ≠ (E.Ao.AO_DIAG o).key := by simp only [E.Ao.COMPLIANCE_EVENTS, E.Ao.AO_DIAG, entN]; omega
  have hopen : ¬ (v && bitOf ((s.advance at_).aout o).diag 1) = true := by
    intro hv
    obtain ⟨hv, hbit⟩ := Bool.and_eq_true_iff.1 hv
    exact absurd (h hv) (by rw [show bitOf (s.aout o).diag 1 = true from hbit]; decide)
  have heq : (s.advance at_).aoCompliance o v =
      (if (v && !bitOf (s.aout o).diag 0) = true then (s.advance at_).inc (E.Ao.COMPLIANCE_EVENTS o) else s.advance at_).setAoDiag o 0 v 0x50 :=
    if_neg hopen
  have hcounted {y : State} (hy : y.aout o = s.aout o) (hn : y.now = s.instant at_)
      (hf : Frame [.field] [E.Ao.AO_DIAG o, E.Ao.COMPLIANCE_EVENTS o] [] s y) :
      bitOf ((y.setAoDiag o 0 v 0x50).aout o).diag 0 = v
        ∧ (∀ k, k ≠ 0 → bitOf ((y.setAoDiag o 0 v 0x50).aout o).diag k = bitOf (s.aout o).diag k)
        ∧ (y.setAoDiag o 0 v 0x50).rd (E.Ao.COMPLIANCE_EVENTS o) = y.rd (E.Ao.COMPLIANCE_EVENTS o)
        ∧ (y.setAoDiag o 0 v 0x50).now = s.instant at_
        ∧ Frame [.field] [E.Ao.AO_DIAG o, E.Ao.COMPLIANCE_EVENTS o] [] s (y.setAoDiag o 0 v 0x50) := by
    have hset := y.setAoDiag_set o 0 v 0x50
    exact ⟨hset.self, fun k hk => (hset.others hk).trans (by rw [hy]), hset.frame.rd (by simp) (by simpa using hne) (by simp), hset.now.trans hn,
      hf.trans (hset.frame.mono (by simp) (by simp) (by simp))⟩
  by_cases hnew : v = true ∧ bitOf (s.aout o).diag 0 = false
  · obtain ⟨hself, hothers, hrd, hnow, hframe⟩ := hcounted (y := (s.advance at_).inc (E.Ao.COMPLIANCE_EVENTS o)) rfl rfl
      ((Frame.refl ..).advance.inc (by simp))
    rw [if_pos (by simp [hnew])] at heq
    refine ⟨_, congrArg Host.Outcome.next ((if_pos ho).trans heq), hself, hothers, ?_, hnow, hframe⟩
    rw [hrd, if_pos hnew]
    exact State.rd_inc_self ..
  · obtain ⟨hself, hothers, hrd, hnow, hframe⟩ := hcounted (y := s.advance at_) rfl rfl (Frame.refl ..).advance
    rw [if_neg (by simpa using hnew)] at heq
    refine ⟨_, congrArg Host.Outcome.next ((if_pos ho).trans heq), hself, hothers, ?_, hnow, hframe⟩
    rw [hrd, if_neg hnew]
    rfl

theorem aoOpenWire_completes (ho : o < 16) (h : v = true → fmt32.lt (s.rd (E.Ao.AO_COMMANDED o)) (milli 1000) = false) :
    Completes (.aoOpenWire at_ o v) s (fun t => bitOf (t.aout o).diag 1 = v
      ∧ bitOf (t.aout o).diag 0 = (if v then false else bitOf (s.aout o).diag 0)
      ∧ (∀ k, 2 ≤ k → bitOf (t.aout o).diag k = bitOf (s.aout o).diag k)
      ∧ t.now = s.instant at_ ∧ Frame [.field] [E.Ao.AO_DIAG o] [] s t) := by
  have hlow : ¬ (v && fmt32.lt ((s.advance at_).rd (E.Ao.AO_COMMANDED o)) (milli 1000)) = true := by
    intro hv
    obtain ⟨hv, hlt⟩ := Bool.and_eq_true_iff.1 hv
    exact absurd (h hv) (by rw [show fmt32.lt (s.rd (E.Ao.AO_COMMANDED o)) (milli 1000) = true from hlt]; decide)
  cases v with
  | false =>
    have hset := (s.advance at_).setAoDiag_set o 1 false 0x51
    exact ⟨_, congrArg Host.Outcome.next ((if_pos ho).trans (if_neg hlow)), hset.self, hset.others (by decide), fun k hk => hset.others (by omega),
      hset.now, (Frame.refl ..).advance.trans hset.frame⟩
  | true =>
    have hclear := (s.advance at_).setAoDiag_set o 0 false 0x50
    have hset := ((s.advance at_).setAoDiag o 0 false 0x50).setAoDiag_set o 1 true 0x51
    exact ⟨_, congrArg Host.Outcome.next ((if_pos ho).trans (if_neg hlow)), hset.self, (hset.others (by decide)).trans hclear.self,
      fun k hk => (hset.others (by omega)).trans (hclear.others (by omega)), hset.now.trans hclear.now,
      ((Frame.refl ..).advance.trans hclear.frame).trans hset.frame⟩

/-- RAIL_FAULT of one output. -/
def State.showRail (v : Bool) (s : State) (o : Nat) : State :=
  (s.setAout o { s.aout o with diag := setBit (s.aout o).diag 2 v }).wr (E.Ao.AO_DIAG o) (setBit (s.aout o).diag 2 v)

theorem State.showRails_each (ho : o < 16) : ((List.range 16).foldl (State.showRail v) s).aout o = { s.aout o with diag := setBit (s.aout o).diag 2 v }
    ∧ ((List.range 16).foldl (State.showRail v) s).rd (E.Ao.AO_DIAG o) = setBit (s.aout o).diag 2 v % 2 ^ 16 := by
  have h := foldl_of_mem (f := State.showRail v) (s := s) (c := ({ s.aout o with diag := setBit (s.aout o).diag 2 v }, setBit (s.aout o).diag 2 v % 2 ^ 16))
    (fun y => (y.aout o, y.rd (E.Ao.AO_DIAG o))) List.nodup_range (List.mem_range.2 ho) (fun y hy => ?_) fun y m hm => ?_
  · exact Prod.mk.inj h
  · obtain ⟨hy, -⟩ := Prod.mk.inj hy
    refine Prod.ext ?_ ?_
    · exact State.aout_setAout_self.trans (by rw [hy])
    · exact (State.rd_wr_self ..).trans (by rw [hy]; rfl)
  · refine Prod.ext (State.aout_setAout_ne hm.symm) (State.rd_wr_ne _ _ _ _ ?_)
    simp only [E.Ao.AO_DIAG, entN]
    omega

theorem Frame.showRails : Frame [.field] ((List.range 16).map E.Ao.AO_DIAG) [] s ((List.range 16).foldl (State.showRail v) s) :=
  (Frame.refl ..).foldl fun _ _ ho hy => (hy.setAout (by simp)).wr (List.mem_map_of_mem ho)

theorem State.showRails_keep (l : List Nat) : (l.foldl (State.showRail v) s).now = s.now
    ∧ (l.foldl (State.showRail v) s).field.diagOut = s.field.diagOut := by
  induction l generalizing s with
  | nil => exact ⟨rfl, rfl⟩
  | cons o l ih => exact ih

theorem State.aoRailFault_of_ne (h : bitOf (s.aout 0).diag 2 ≠ v) :
    s.aoRailFault v = ((List.range 16).foldl (State.showRail v) s).fieldDiag 0x07 0 0x53 (ofBool v) := by
  unfold State.aoRailFault
  rw [if_neg fun he => h (beq_iff_eq.1 he)]
  rfl

@[simp] theorem State.aout_fieldDiag (a b c d : Nat) : (s.fieldDiag a b c d).aout o = s.aout o := rfl

@[simp] theorem State.rd_fieldDiag (a b c d : Nat) (e : Ent) : (s.fieldDiag a b c d).rd e = s.rd e := rfl

@[simp] theorem State.fieldDiag_now (a b c d : Nat) : (s.fieldDiag a b c d).now = s.now := rfl

theorem aoRailFault_completes (h : bitOf (s.aout 0).diag 2 ≠ v) :
    Completes (.aoRailFault at_ v) s (fun t => (∀ o < 16, t.aout o = { s.aout o with diag := setBit (s.aout o).diag 2 v }
        ∧ t.rd (E.Ao.AO_DIAG o) = setBit (s.aout o).diag 2 v % 2 ^ 16)
      ∧ t.field.diagOut.length = s.field.diagOut.length + 1
      ∧ t.now = s.instant at_ ∧ Frame [.field] ((List.range 16).map E.Ao.AO_DIAG) [] s t) := by
  have heq := State.aoRailFault_of_ne (s := s.advance at_) h
  have heach (o : Nat) (ho : o < 16) := State.showRails_each (s := s.advance at_) (v := v) ho
  simp only [State.aout_advance] at heach
  have hframe := (Frame.refl ..).advance.trans (Frame.showRails (s := s.advance at_) (v := v))
  obtain ⟨hnow, hdiag⟩ := State.showRails_keep (s := s.advance at_) (v := v) (List.range 16)
  generalize (List.range 16).foldl (State.showRail v) (s.advance at_) = y at *
  refine ⟨_, congrArg Host.Outcome.next heq, fun o ho => ⟨?_, ?_⟩, ?_, ?_, hframe.fieldDiag (by simp)⟩
  · rw [State.aout_fieldDiag, (heach o ho).1]
  · rw [State.rd_fieldDiag, (heach o ho).2]
  · rw [State.fieldDiag, List.length_append, hdiag]
    rfl
  · rw [State.fieldDiag_now, hnow, State.instant, State.advance]

theorem aoOvertemp_completes (ho : o < 16) :
    Completes (.aoOvertemp at_ o v) s (fun t => bitOf (t.aout o).diag 3 = v
      ∧ (∀ k, k ≠ 3 → bitOf (t.aout o).diag k = bitOf (s.aout o).diag k)
      ∧ (v = true → s.field.powered = true → s.field.enable = true → s.field.shed = false →
          (t.aout o).out = 0 ∧ t.rd (E.Ao.AO_OUTPUT_STATE o) = 3)
      ∧ t.now = s.instant at_ ∧ Frame [.field] [E.Ao.AO_DIAG o, E.Ao.AO_OUTPUT_STATE o] [] s t) := by
  have hset := (s.advance at_).setAoDiag_set o 3 v 0x52
  obtain ⟨hpowered, henable, hshed⟩ := hset.field
  refine ⟨_, congrArg Host.Outcome.next (if_pos ho), ?_, fun k hk => ?_, fun hv hp he hs => ?_, hset.now, ?_⟩
  · exact (congrArg (fun x : AoSt => bitOf x.diag 3) State.refreshAo_aout).trans hset.self
  · exact (congrArg (fun x : AoSt => bitOf x.diag k) State.refreshAo_aout).trans (hset.others hk)
  · have hdecide := State.aoDecide_of_hot (hpowered.trans hp) (henable.trans he) (hshed.trans hs) (hset.self.trans hv)
    exact ⟨(congrArg AoSt.out State.refreshAo_aout).trans (congrArg Prod.fst hdecide),
      State.refreshAo_state.trans (congrArg (fun d : Nat × Nat => d.2 % 2 ^ 8) hdecide)⟩
  · exact ((Frame.refl ..).advance.trans (hset.frame.mono (by simp) (by simp) (by simp))).refreshAo (by simp) (by simp)

end

/-- Settles O45: one bit of AO_DIAG, set or cleared once for all four commands. -/
theorem currentOutputsReportTheirConditions : Obligations.CurrentOutputsReportTheirConditions := by
  unfold Obligations.CurrentOutputsReportTheirConditions
  exact ⟨fun s at_ o b ho h => aoCompliance_completes ho h, fun s at_ o b ho h => aoOpenWire_completes ho h,
    fun s at_ b h => aoRailFault_completes h, fun s at_ o b ho => aoOvertemp_completes ho⟩

end Sys2Proof.Machine
end

section

/-! SUPPORT. The current inputs: what a channel shows of itself, one bit of its diagnostics, and its supply target (R383 to R388). -/
namespace Sys2Proof.Machine

section
variable {s t : State} {i j bit event at_ : Nat} {x : AiSt} {v : Bool}

@[simp] theorem State.ain_setAin_self : (s.setAin i x).ain i = x := by simp [State.ain, State.setAin]

theorem State.ain_setAin_ne (h : j ≠ i) : (s.setAin i x).ain j = s.ain j := by simp [State.ain, State.setAin, h]

@[simp] theorem State.ain_advance : (s.advance at_).ain i = s.ain i := rfl

/-- What AI_DIAG, AI_FAULT_CAUSE and FAULT_EVENTS of a channel are. -/
def aiShown (i : Nat) : List Ent := [E.Ai.AI_DIAG i, E.Ai.AI_FAULT_CAUSE i, E.Ai.FAULT_EVENTS i]

/-- The cause of a channel is a matter of its field side (R384). -/
theorem State.aiCause_congr (hs : t.field.shed = s.field.shed) (hb : t.field.bypassOpen = s.field.bypassOpen) (ha : t.ain i = s.ain i) :
    t.aiCause i = s.aiCause i := by
  simp only [State.aiCause, hs, hb, ha]

theorem State.aiCause_lt : s.aiCause i < 2 ^ 8 := by
  simp only [State.aiCause]
  repeat' split
  all_goals decide

theorem State.fieldDiag_field (a b c d : Nat) : ∃ l, (s.fieldDiag a b c d).field = { s.field with diagOut := l } := ⟨_, rfl⟩

/-! ## A channel shows its state -/

/-- AI_DIAG and AI_FAULT_CAUSE shown; the event of a change is all that the field side takes. -/
structure AiShown (s : State) (i : Nat) (t : State) : Prop where
  cause : t.rd (E.Ai.AI_FAULT_CAUSE i) = s.aiCause i
  diag : t.rd (E.Ai.AI_DIAG i) = setBit (s.ain i).diag 3 (s.aiCause i != 0) % 2 ^ 16
  field : ∃ l, t.field = { s.field with diagOut := l }
  now : t.now = s.now
  frame : Frame [.field] (aiShown i) [] s t

/-- AI_FAULT_CAUSE and AI_DIAG written after `y`. -/
def State.aiWritten (s : State) (i : Nat) (y : State) : State :=
  (y.wr (E.Ai.AI_FAULT_CAUSE i) (s.aiCause i)).wr (E.Ai.AI_DIAG i) (setBit (s.ain i).diag 3 (s.aiCause i != 0))

theorem State.showAi_cases (s : State) (i : Nat) : ∃ y : State, (y.field = s.field ∧ y.now = s.now)
    ∧ (s.showAi i = s.aiWritten i y ∨ ∃ b, s.showAi i = (s.aiWritten i y).fieldDiag 0x05 i 0x43 b) := by
  unfold State.showAi
  extract_lets c old d y z
  refine ⟨y, ?_, ?_⟩
  · simp only [y]
    split <;> exact ⟨rfl, rfl⟩
  · split
    · exact .inl rfl
    · exact .inr ⟨_, rfl⟩

theorem State.aiWritten_rd (y : State) : (s.aiWritten i y).rd (E.Ai.AI_FAULT_CAUSE i) = s.aiCause i
    ∧ (s.aiWritten i y).rd (E.Ai.AI_DIAG i) = setBit (s.ain i).diag 3 (s.aiCause i != 0) % 2 ^ 16 := by
  have hne : (E.Ai.AI_FAULT_CAUSE i).key ≠ (E.Ai.AI_DIAG i).key := by simp only [E.Ai.AI_FAULT_CAUSE, E.Ai.AI_DIAG, entN]; omega
  refine ⟨?_, State.rd_wr_self ..⟩
  rw [State.aiWritten, State.rd_wr_ne _ _ _ _ hne, State.rd_wr_self]
  exact Nat.mod_eq_of_lt State.aiCause_lt

theorem State.showAi_shown (s : State) (i : Nat) : AiShown s i (s.showAi i) := by
  have hframe : Frame [.field] (aiShown i) [] s (s.showAi i) := (Frame.refl ..).showAi (by simp) fun e he => he
  obtain ⟨y, ⟨hfield, hnow⟩, heq⟩ := s.showAi_cases i
  obtain ⟨hcause, hdiag⟩ := State.aiWritten_rd (s := s) (i := i) y
  have hwritten : (s.aiWritten i y).field = s.field := hfield
  rcases heq with heq | ⟨b, heq⟩ <;> rw [heq] at hframe ⊢
  · exact ⟨hcause, hdiag, ⟨s.field.diagOut, hwritten⟩, hnow, hframe⟩
  · obtain ⟨l, hl⟩ := State.fieldDiag_field (s := s.aiWritten i y) 0x05 i 0x43 b
    refine ⟨?_, ?_, ⟨l, by rw [hl, hwritten]⟩, hnow, hframe⟩
    · rw [State.rd_fieldDiag, hcause]
    · rw [State.rd_fieldDiag, hdiag]

theorem AiShown.ain (h : AiShown s i t) (j : Nat) : t.ain j = s.ain j := by
  obtain ⟨l, hl⟩ := h.field
  rw [State.ain, hl, State.ain]

theorem AiShown.cause_self (h : AiShown s i t) : t.rd (E.Ai.AI_FAULT_CAUSE i) = t.aiCause i := by
  obtain ⟨l, hl⟩ := h.field
  rw [h.cause, State.aiCause_congr (t := t) (by rw [hl]) (by rw [hl]) (h.ain i)]

/-! ## One bit of the diagnostics -/

theorem State.setAiDiag_of_eq (h : bitOf (s.ain i).diag bit = v) : s.setAiDiag i bit v event = s := if_pos (beq_iff_eq.2 h)

/-- The bit of input `i` and its event count. -/
def State.aiBit (s : State) (i bit : Nat) (v : Bool) : State :=
  let y := s.setAin i { s.ain i with diag := setBit (s.ain i).diag bit v }
  if v && bit < 3 then y.inc (E.Ai.FAULT_EVENTS i) else y

theorem State.setAiDiag_of_ne (h : bitOf (s.ain i).diag bit ≠ v) : s.setAiDiag i bit v event =
    ((s.aiBit i bit v).showAi i).fieldDiag 0x05 i event (ofBool v) := if_neg fun heq => h (beq_iff_eq.1 heq)

/-- What is left of an input once one bit of its diagnostics is set or cleared. -/
structure AiDiagSet (s : State) (i bit : Nat) (v : Bool) (t : State) : Prop where
  ain : t.ain i = { s.ain i with diag := setBit (s.ain i).diag bit v }
  shed : t.field.shed = s.field.shed
  bypass : t.field.bypassOpen = s.field.bypassOpen
  now : t.now = s.now
  frame : Frame [.field] (aiShown i) [] s t

theorem State.aiBit_set (s : State) (i bit : Nat) (v : Bool) : AiDiagSet s i bit v (s.aiBit i bit v) := by
  have hset : AiDiagSet s i bit v (s.setAin i { s.ain i with diag := setBit (s.ain i).diag bit v }) :=
    ⟨State.ain_setAin_self, rfl, rfl, rfl, (Frame.refl ..).setAin (by simp)⟩
  simp only [State.aiBit]
  split
  · exact ⟨hset.ain, hset.shed, hset.bypass, hset.now, hset.frame.inc (by simp [aiShown])⟩
  · exact hset

theorem State.setAiDiag_set (s : State) (i bit : Nat) (v : Bool) (event : Nat) : AiDiagSet s i bit v (s.setAiDiag i bit v event) := by
  by_cases h : bitOf (s.ain i).diag bit = v
  · rw [State.setAiDiag_of_eq h]
    exact ⟨by rw [setBit_of_eq h], rfl, rfl, rfl, .refl ..⟩
  · rw [State.setAiDiag_of_ne h]
    have hbit := s.aiBit_set i bit v
    have hshown := (s.aiBit i bit v).showAi_shown i
    obtain ⟨l, hl⟩ := hshown.field
    exact ⟨(hshown.ain i).trans hbit.ain, (congrArg FieldSt.shed hl).trans hbit.shed, (congrArg FieldSt.bypassOpen hl).trans hbit.bypass,
      hshown.now.trans hbit.now, (hbit.frame.trans hshown.frame).fieldDiag (by simp)⟩

theorem AiDiagSet.self (h : AiDiagSet s i bit v t) : bitOf (t.ain i).diag bit = v := by rw [h.ain, bitOf_setBit_self]

theorem AiDiagSet.others (h : AiDiagSet s i bit v t) {k : Nat} (hk : k ≠ bit) : bitOf (t.ain i).diag k = bitOf (s.ain i).diag k := by
  rw [h.ain, bitOf_setBit_ne _ _ hk]

/-! ## The target of a supply (R385, R386) -/

/-- A channel whose supply follows a new target: SUPPLY_LIMIT and the instant it last held are all that the channel takes. -/
structure AiRetargeted (s : State) (i : Nat) (t : State) : Prop where
  ain : ∃ o d, t.ain i = { s.ain i with overAt := o, diag := d } ∧ ∀ k, k ≠ 5 → bitOf d k = bitOf (s.ain i).diag k
  shed : t.field.shed = s.field.shed
  bypass : t.field.bypassOpen = s.field.bypassOpen
  now : t.now = s.now
  frame : Frame [.field] (E.Ai.SUPPLY_TARGET i :: aiShown i) [] s t

theorem AiRetargeted.refl (s : State) (i : Nat) : AiRetargeted s i s := ⟨⟨_, _, rfl, fun _ _ => rfl⟩, rfl, rfl, rfl, .refl ..⟩

theorem AiRetargeted.of_limit {o : Option Nat} (h : AiDiagSet (s.setAin i { s.ain i with overAt := o }) i 5 v t) : AiRetargeted s i t where
  ain := ⟨o, _, h.ain.trans (by rw [State.ain_setAin_self]), fun k hk => bitOf_setBit_ne _ _ hk⟩
  shed := h.shed
  bypass := h.bypass
  now := h.now
  frame := ((Frame.refl ..).setAin (by simp)).trans (h.frame.mono (by simp) (fun _ he => .tail _ he) (by simp))

theorem State.noteLimit_retargeted (s : State) (i : Nat) (above : Bool) : AiRetargeted s i (s.noteLimit i above) := by
  simp only [State.noteLimit]
  split
  · exact .of_limit (State.setAiDiag_set ..)
  · split
    · split
      · exact .of_limit (State.setAiDiag_set ..)
      · exact .refl ..
    · exact .refl ..

/-- A target written first. -/
theorem AiRetargeted.after_target {n : Nat} (h : AiRetargeted (s.wr (E.Ai.SUPPLY_TARGET i) n) i t) : AiRetargeted s i t :=
  ⟨h.ain, h.shed, h.bypass, h.now, ((Frame.refl ..).wr (by simp)).trans h.frame⟩

theorem State.retarget_retargeted (s : State) (i : Nat) : AiRetargeted s i (s.retarget i) := by
  unfold State.retarget
  extract_lets mode t
  split
  · exact .after_target (State.noteLimit_retargeted ..)
  · split
    · exact .after_target (State.noteLimit_retargeted ..)
    · split
      · exact .refl ..
      · exact .after_target (State.noteLimit_retargeted ..)

end

end Sys2Proof.Machine
end

section

/-! SUPPORT. O42. The commands about a current-loop input (R381 to R388, R397). -/
namespace Sys2Proof.Machine

section
variable {s t : State} {i at_ t0 zone : Nat} {m : AiMeas} {v : Bool}

/-! ## One bit of the diagnostics -/

/-- What a command that sets or clears bit `bit` of input `i` leaves. -/
theorem aiBit_completes {c : Instr} {event bit : Nat} (hc : exec c s = .next ((s.advance at_).setAiDiag i bit v event)) :
    Completes c s (fun t => bitOf (t.ain i).diag bit = v ∧ (∀ k, k ≠ bit → bitOf (t.ain i).diag k = bitOf (s.ain i).diag k)
      ∧ t.now = s.instant at_ ∧ Frame [.field] (aiShown i) [] s t) := by
  have hset := (s.advance at_).setAiDiag_set i bit v event
  exact ⟨_, hc, hset.self, fun k hk => hset.others hk, hset.now, (Frame.refl ..).advance.trans hset.frame⟩

theorem State.aiOpenWire_eq (h : v = true → fmt32.isZero (s.rd (E.Ai.OPEN_THRESHOLD i)) = false ∧ s.aiCause i = 0) :
    s.aiOpenWire i v = s.setAiDiag i 0 v 0x40 := by
  refine if_neg ?_
  cases v with
  | false => simp
  | true => simp [h rfl]

theorem aiShort_completes (hi : i < 32) :
    Completes (.aiShort at_ i v) s (fun t => bitOf (t.ain i).diag 1 = v
      ∧ (∀ k, k ≠ 1 → bitOf (t.ain i).diag k = bitOf (s.ain i).diag k)
      ∧ (t.ain i).shortAt = (if v then some ((s.ain i).shortAt.getD (s.instant at_)) else none)
      ∧ t.now = s.instant at_ ∧ Frame [.field] (aiShown i) [] s t) := by
  have hset := (s.advance at_).setAiDiag_set i 1 v 0x41
  have hshort : (((s.advance at_).setAiDiag i 1 v 0x41).ain i).shortAt = (s.ain i).shortAt := by rw [hset.ain, State.ain_advance]
  have heq : (s.advance at_).aiShort i v = ((s.advance at_).setAiDiag i 1 v 0x41).setAin i
      { ((s.advance at_).setAiDiag i 1 v 0x41).ain i with shortAt := if v then some ((((s.advance at_).setAiDiag i 1 v 0x41).ain i).shortAt.getD
        ((s.advance at_).setAiDiag i 1 v 0x41).now) else none } := rfl
  refine ⟨_, congrArg Host.Outcome.next ((if_pos hi).trans heq), ?_, fun k hk => ?_, ?_, hset.now,
    ((Frame.refl ..).advance.trans hset.frame).setAin (by simp)⟩
  · rw [State.ain_setAin_self]
    exact hset.self
  · rw [State.ain_setAin_self]
    exact hset.others hk
  · rw [State.ain_setAin_self, hshort, hset.now]
    rfl

theorem aiReversed_completes (hi : i < 32) :
    Completes (.aiReversed at_ i v) s (fun t => t.ain i = { s.ain i with reversed := v } ∧ t.rd (E.Ai.AI_FAULT_CAUSE i) = t.aiCause i
      ∧ bitOf (t.rd (E.Ai.AI_DIAG i)) 3 = (t.aiCause i != 0)
      ∧ t.now = s.instant at_ ∧ Frame [.field] (aiShown i) [] s t) := by
  have hshown := ((s.advance at_).setAin i { s.ain i with reversed := v }).showAi_shown i
  have heq : (s.advance at_).aiReversed i v = ((s.advance at_).setAin i { s.ain i with reversed := v }).showAi i := rfl
  refine ⟨_, congrArg Host.Outcome.next ((if_pos hi).trans heq), (hshown.ain i).trans State.ain_setAin_self, hshown.cause_self, ?_, hshown.now,
    ((Frame.refl ..).advance.setAin (by simp)).trans hshown.frame⟩
  rw [hshown.diag, bitOf_mod _ (by decide), bitOf_setBit_self, ← hshown.cause, hshown.cause_self]

/-! ## Transmitter supplies (R387, R388) -/

theorem State.aiCause_of_off (h : (s.ain i).offAt.isSome = true) : s.aiCause i ≠ 0 := by
  simp only [State.aiCause, h, Bool.true_or, if_true]
  repeat' split
  all_goals decide

theorem aiSupplyOff_completes (hi : i < 32) (hshort : (s.ain i).shortAt = some t0) (hdue : t0 + 1000000000 ≤ s.instant at_)
    (hoff : (s.ain i).offAt = none) :
    Completes (.aiSupplyOff at_ i) s (fun t => t.ain i = { s.ain i with offAt := some (s.instant at_) }
      ∧ t.rd (E.Ai.AI_FAULT_CAUSE i) = t.aiCause i ∧ t.aiCause i ≠ 0
      ∧ t.now = s.instant at_ ∧ Frame [.field] (aiShown i) [] s t) := by
  have heq : (s.advance at_).aiSupplyOff i = ((s.advance at_).setAin i { s.ain i with offAt := some (s.instant at_) }).showAi i := by
    have hnow : t0 + 1000000000 ≤ (s.advance at_).now := hdue
    simp only [State.aiSupplyOff, State.ain_advance, hshort, hoff, hnow, Option.isNone_none, decide_true, Bool.and_self, if_true]
    rfl
  have hshown := ((s.advance at_).setAin i { s.ain i with offAt := some (s.instant at_) }).showAi_shown i
  have hain := (hshown.ain i).trans State.ain_setAin_self
  exact ⟨_, congrArg Host.Outcome.next ((if_pos hi).trans heq), hain, hshown.cause_self, State.aiCause_of_off (by rw [hain]; rfl), hshown.now,
    ((Frame.refl ..).advance.setAin (by simp)).trans hshown.frame⟩

theorem supplyRetry_completes (hi : i < 32) (hoff : (s.ain i).offAt = some t0) (hdue : t0 + 5000000000 ≤ s.instant at_) :
    Completes (.supplyRetry at_ i) s (fun t => (t.ain i).offAt = none ∧ t.rd (E.Ai.AI_FAULT_CAUSE i) = t.aiCause i
      ∧ (t.ain i).shortAt = (s.ain i).shortAt.map (fun _ => s.instant at_)
      ∧ t.now = s.instant at_
      ∧ Frame [.field] (E.Ai.SUPPLY_TARGET i :: aiShown i) [] s t) := by
  generalize hx : ({ s.ain i with offAt := none, shortAt := (s.ain i).shortAt.map (fun _ => s.instant at_) } : AiSt) = x
  have heq : (s.advance at_).supplyRetry i = ((((s.advance at_).setAin i x).retarget i).showAi i).fieldDiag 0x05 i 0x46 1 := by
    have hnow : t0 + 5000000000 ≤ (s.advance at_).now := hdue
    rw [← hx]
    simp only [State.supplyRetry, State.ain_advance, hoff, hnow, if_true]
    rfl
  have hmoved := ((s.advance at_).setAin i x).retarget_retargeted i
  have hshown := (((s.advance at_).setAin i x).retarget i).showAi_shown i
  obtain ⟨o, d, hain, -⟩ := hmoved.ain
  have hain' := (hshown.ain i).trans hain
  rw [State.ain_setAin_self] at hain'
  have hframe : Frame [.field] (E.Ai.SUPPLY_TARGET i :: aiShown i) [] s ((((s.advance at_).setAin i x).retarget i).showAi i) :=
    (((Frame.refl ..).advance.setAin (by simp)).trans hmoved.frame).trans (hshown.frame.mono (by simp) (fun _ he => .tail _ he) (by simp))
  have hnow := hshown.now.trans hmoved.now
  have hcause := hshown.cause_self
  generalize (((s.advance at_).setAin i x).retarget i).showAi i = y at *
  refine ⟨_, congrArg Host.Outcome.next ((if_pos hi).trans heq), ?_, hcause, ?_, hnow, hframe.fieldDiag (by simp)⟩
  · exact (congrArg AiSt.offAt hain').trans (by rw [← hx])
  · exact (congrArg AiSt.shortAt hain').trans (by rw [← hx])

/-! ## AI_THERMAL_STEP (R388) -/

/-- From `s` to `t` input `i` comes to be off or not, at a number of steps, with the bit of its stage set or clear. -/
structure ThermalStepped (i : Nat) (off : Bool) (steps : Nat) (bit : Bool) (s t : State) : Prop where
  off : (t.ain i).hotOff = off
  steps : (t.ain i).steps = steps
  bit : bitOf (t.ain i).diag 4 = bit
  now : t.now = s.now
  frame : Frame [.field] (E.Ai.SUPPLY_TARGET i :: aiShown i) [] s t

section
variable {off bit : Bool} {n : Nat} {y : State}

theorem ThermalStepped.refl (s : State) (i : Nat) : ThermalStepped i (s.ain i).hotOff (s.ain i).steps (bitOf (s.ain i).diag 4) s s :=
  ⟨rfl, rfl, rfl, rfl, .refl ..⟩

theorem ThermalStepped.setAin (s : State) (i : Nat) (x : AiSt) : ThermalStepped i x.hotOff x.steps (bitOf x.diag 4) s (s.setAin i x) := by
  refine ⟨?_, ?_, ?_, rfl, (Frame.refl ..).setAin (by simp)⟩ <;> rw [State.ain_setAin_self]

theorem ThermalStepped.showAi (h : ThermalStepped i off n bit s y) : ThermalStepped i off n bit s (y.showAi i) := by
  have hshown := y.showAi_shown i
  have hain := hshown.ain i
  exact ⟨by rw [hain, h.off], by rw [hain, h.steps], by rw [hain, h.bit], hshown.now.trans h.now,
    h.frame.trans (hshown.frame.mono (by simp) (fun _ he => .tail _ he) (by simp))⟩

theorem ThermalStepped.retarget (h : ThermalStepped i off n bit s y) : ThermalStepped i off n bit s (y.retarget i) := by
  have hmoved := y.retarget_retargeted i
  obtain ⟨o, d, hain, hd⟩ := hmoved.ain
  exact ⟨by rw [hain, h.off], by rw [hain, h.steps], by rw [hain, hd 4 (by decide), h.bit], hmoved.now.trans h.now, h.frame.trans hmoved.frame⟩

theorem ThermalStepped.setBit (h : ThermalStepped i off n bit s y) (v : Bool) : ThermalStepped i off n v s (y.setAiDiag i 4 v 0x44) := by
  have hset := y.setAiDiag_set i 4 v 0x44
  exact ⟨by rw [hset.ain, h.off], by rw [hset.ain, h.steps], hset.self, hset.now.trans h.now,
    h.frame.trans (hset.frame.mono (by simp) (fun _ he => .tail _ he) (by simp))⟩

end

/-- The zones: switched off, one step more, unchanged, recovered. -/
theorem State.aiThermal_cases (hz : zone = 2 → (s.ain i).stepAt + 100000000 ≤ s.now) :
    (zone = 3 ∧ s.aiThermal i zone = ((s.setAin i { s.ain i with hotOff := true }).setAiDiag i 4 true 0x44).showAi i)
    ∨ (zone = 2 ∧ s.aiThermal i zone =
        ((s.setAin i { s.ain i with steps := min 36 ((s.ain i).steps + 1), stepAt := s.now }).setAiDiag i 4 true 0x44).retarget i)
    ∨ (zone = 1 ∧ s.aiThermal i zone = s)
    ∨ ((zone ≠ 3 ∧ zone ≠ 2 ∧ zone ≠ 1) ∧ s.aiThermal i zone =
        (((s.setAin i { s.ain i with hotOff := false, steps := 0 }).retarget i).setAiDiag i 4 false 0x44).showAi i) := by
  unfold State.aiThermal
  extract_lets x
  split
  case h_1 => exact .inl ⟨rfl, rfl⟩
  case h_2 => exact .inr (.inl ⟨rfl, if_neg (Nat.not_lt.2 (hz rfl))⟩)
  case h_3 => exact .inr (.inr (.inl ⟨rfl, rfl⟩))
  case h_4 h3 h2 h1 => exact .inr (.inr (.inr ⟨⟨h3, h2, h1⟩, rfl⟩))

theorem State.aiThermal_stepped (hz : zone = 2 → (s.ain i).stepAt + 100000000 ≤ s.now) :
    ThermalStepped i (if zone = 3 then true else if zone = 1 ∨ zone = 2 then (s.ain i).hotOff else false)
      (if zone = 2 then min 36 ((s.ain i).steps + 1) else if zone = 1 ∨ zone = 3 then (s.ain i).steps else 0)
      (if zone = 1 then bitOf (s.ain i).diag 4 else zone == 2 || zone == 3) s (s.aiThermal i zone) := by
  rcases State.aiThermal_cases hz with ⟨h, heq⟩ | ⟨h, heq⟩ | ⟨h, heq⟩ | ⟨⟨h3, h2, h1⟩, heq⟩ <;> rw [heq]
  · rw [h]
    exact ((ThermalStepped.setAin s i { s.ain i with hotOff := true }).setBit true).showAi
  · rw [h]
    exact ((ThermalStepped.setAin s i { s.ain i with steps := min 36 ((s.ain i).steps + 1), stepAt := s.now }).setBit true).retarget
  · rw [h]
    exact .refl ..
  · rw [if_neg h3, if_neg (by tauto), if_neg h2, if_neg (by tauto), if_neg h1, beq_false_of_ne h2, beq_false_of_ne h3]
    exact (((ThermalStepped.setAin s i { s.ain i with hotOff := false, steps := 0 }).retarget).setBit false).showAi

/-! ## AI_CONVERSION (R381) -/

/-- The powers of the supplies summed. -/
def State.txPower (s : State) : Nat :=
  (List.range 32).foldl (fun a k => fmt32.add a (fmt32.div (fmt32.mul (s.rd (E.Ai.SUPPLY_VOLTAGE k)) (s.ain k).value) (milli 1000000))) 0

/-- Input `i` with a conversion entered. -/
def State.converted (s : State) (i : Nat) (m : AiMeas) : AiSt :=
  let x := s.ain i
  let t := s.trimmed i m.cal
  let conv := (t :: x.conv).take 400
  { x with conv := conv, value := clampF (milli (-500)) (milli 25000) (meanF (conv.take (s.rd (E.Ai.AI_AVERAGE i)))), settle := x.settle - 1
           converter := !m.checks, peak := notePeak x.peak s.now t
           capture := x.capture.map (fun c => if c.running then { c with vals := (m.cal :: c.vals).take 400 } else c) }

/-- The module with the conversion entered and the supply's measurements shown. -/
def State.measured (s : State) (i : Nat) (m : AiMeas) : State :=
  let y := ((s.setAin i (s.converted i m)).wr (E.Ai.SUPPLY_VOLTAGE i) m.supply).wr (E.Ai.SUPPLY_STAGE_TEMP i) m.temp
  y.wr E.Ana.TX_POWER y.txPower

theorem State.aiConversion_eq (hn : s.now % 250000 = 0) (hp : s.field.powered = true) :
    s.aiConversion i m = ((s.measured i m).retarget i).showAi i := by
  unfold State.aiConversion
  rw [if_neg (by simp [hn, hp])]
  rfl

/-- The entries of the supply of one input. -/
def supplyEnts (i : Nat) : List Ent := [E.Ai.SUPPLY_VOLTAGE i, E.Ai.SUPPLY_STAGE_TEMP i, E.Ana.TX_POWER]

theorem State.measured_rd : (s.measured i m).rd (E.Ai.SUPPLY_VOLTAGE i) = m.supply % 2 ^ 32
    ∧ (s.measured i m).rd (E.Ai.SUPPLY_STAGE_TEMP i) = m.temp % 2 ^ 32 := by
  have hpower : ∀ e ∈ [E.Ai.SUPPLY_VOLTAGE i, E.Ai.SUPPLY_STAGE_TEMP i], e.key ≠ E.Ana.TX_POWER.key := by
    simp [E.Ai.SUPPLY_VOLTAGE, E.Ai.SUPPLY_STAGE_TEMP, E.Ana.TX_POWER, entN]
    omega
  have htemp : (E.Ai.SUPPLY_VOLTAGE i).key ≠ (E.Ai.SUPPLY_STAGE_TEMP i).key := by simp only [E.Ai.SUPPLY_VOLTAGE, E.Ai.SUPPLY_STAGE_TEMP, entN]; omega
  refine ⟨?_, ?_⟩
  · rw [State.measured, State.rd_wr_ne _ _ _ _ (hpower _ (by simp)), State.rd_wr_ne _ _ _ _ htemp, State.rd_wr_self]
    rfl
  · rw [State.measured, State.rd_wr_ne _ _ _ _ (hpower _ (by simp)), State.rd_wr_self]
    rfl

theorem aiConversion_completes (hi : i < 32) (hn : s.instant at_ % 250000 = 0) (hp : s.field.powered = true) :
    Completes (.aiConversion at_ i m) s (fun t =>
      (t.ain i).conv = ((s.trimmed i m.cal) :: (s.ain i).conv).take 400
      ∧ (t.ain i).value = clampF (milli (-500)) (milli 25000) (meanF ((t.ain i).conv.take (s.rd (E.Ai.AI_AVERAGE i))))
      ∧ (t.ain i).converter = !m.checks ∧ (t.ain i).settle = (s.ain i).settle - 1
      ∧ t.rd (E.Ai.SUPPLY_VOLTAGE i) = m.supply % 2 ^ 32 ∧ t.rd (E.Ai.SUPPLY_STAGE_TEMP i) = m.temp % 2 ^ 32
      ∧ t.rd (E.Ai.AI_FAULT_CAUSE i) = t.aiCause i ∧ t.now = s.instant at_
      ∧ Frame [.field] (supplyEnts i ++ E.Ai.SUPPLY_TARGET i :: aiShown i) [] s t) := by
  have heq := State.aiConversion_eq (s := s.advance at_) (i := i) (m := m) hn hp
  have hmoved := ((s.advance at_).measured i m).retarget_retargeted i
  have hshown := (((s.advance at_).measured i m).retarget i).showAi_shown i
  obtain ⟨o, d, hain, -⟩ := hmoved.ain
  have hentered : ((s.advance at_).measured i m).ain i = (s.advance at_).converted i m := State.ain_setAin_self
  have hain' := (hshown.ain i).trans hain
  rw [hentered] at hain'
  obtain ⟨hvoltage, htemp⟩ := State.measured_rd (s := s.advance at_) (i := i) (m := m)
  have hrest := hmoved.frame.trans (hshown.frame.mono (by simp) (fun _ he => .tail _ he) (by simp))
  have hfar (e : Ent) (he : e ∈ [E.Ai.SUPPLY_VOLTAGE i, E.Ai.SUPPLY_STAGE_TEMP i]) : ∀ f ∈ E.Ai.SUPPLY_TARGET i :: aiShown i, e.key ≠ f.key := by
    simp only [List.mem_cons, List.not_mem_nil, or_false] at he
    rcases he with rfl | rfl <;>
      simp [aiShown, E.Ai.SUPPLY_VOLTAGE, E.Ai.SUPPLY_STAGE_TEMP, E.Ai.SUPPLY_TARGET, E.Ai.AI_DIAG, E.Ai.AI_FAULT_CAUSE, E.Ai.FAULT_EVENTS, entN]
  have hmeasured : Frame [.field] (supplyEnts i ++ E.Ai.SUPPLY_TARGET i :: aiShown i) [] s ((s.advance at_).measured i m) :=
    ((((Frame.refl ..).advance.setAin (by simp)).wr (by simp [supplyEnts])).wr (by simp [supplyEnts])).wr (by simp [supplyEnts])
  have hframe := hmeasured.trans (hrest.mono (by simp) (fun _ he => List.mem_append_right _ he) (by simp))
  have hnow : ((((s.advance at_).measured i m).retarget i).showAi i).now = s.instant at_ := hshown.now.trans hmoved.now
  have hcause := hshown.cause_self
  have hrd (e : Ent) (he : e ∈ [E.Ai.SUPPLY_VOLTAGE i, E.Ai.SUPPLY_STAGE_TEMP i]) := hrest.rd (e := e) (by simp) (hfar e he) (by simp)
  generalize (((s.advance at_).measured i m).retarget i).showAi i = t at *
  refine ⟨t, congrArg Host.Outcome.next ((if_pos hi).trans heq), ?_, ?_, ?_, ?_, ?_, ?_, hcause, hnow, hframe⟩
  · rw [hain']
    rfl
  · rw [hain']
    rfl
  · rw [hain']
    rfl
  · rw [hain']
    rfl
  · rw [hrd _ (by simp), hvoltage]
  · rw [hrd _ (by simp), htemp]

/-! ## BYPASS_OPEN (R397) -/

/-- Input `i` starts its settling. -/
def State.settling (s : State) (i : Nat) : State := s.setAin i { s.ain i with settle := s.rd (E.Ai.AI_AVERAGE i) }

theorem State.bypassOpens_eq (he : s.field.enable = true) (hb : s.field.bypassOpen = false) (hd : s.field.enableAt + 200000 ≤ s.now) :
    s.bypassOpens = (((List.range 32).foldl State.settling { s with field := { s.field with bypassOpen := true } }).showAis).showAnalog := by
  unfold State.bypassOpens
  rw [if_neg (by simp [he, hb, Nat.not_lt.2 hd])]
  rfl

theorem State.settlings_keep (l : List Nat) : (l.foldl State.settling s).now = s.now ∧ (l.foldl State.settling s).od = s.od
    ∧ (l.foldl State.settling s).rt = s.rt ∧ (l.foldl State.settling s).field.bypassOpen = s.field.bypassOpen := by
  induction l generalizing s with
  | nil => exact ⟨rfl, rfl, rfl, rfl⟩
  | cons i l ih => exact ih

theorem State.settlings_ain (hi : i < 32) :
    ((List.range 32).foldl State.settling s).ain i = { s.ain i with settle := s.rd (E.Ai.AI_AVERAGE i) } := by
  have h := foldl_of_mem (f := State.settling) (s := s) (c := ({ s.ain i with settle := s.rd (E.Ai.AI_AVERAGE i) }, s.rd (E.Ai.AI_AVERAGE i)))
    (fun y => (y.ain i, y.rd (E.Ai.AI_AVERAGE i))) List.nodup_range (List.mem_range.2 hi) (fun y hy => ?_) fun y j hj => ?_
  · exact (Prod.mk.inj h).1
  · obtain ⟨hain, hrd⟩ := Prod.mk.inj hy
    refine Prod.ext ?_ hrd
    exact State.ain_setAin_self.trans (by rw [hain, hrd])
  · exact Prod.ext (State.ain_setAin_ne hj.symm) rfl

theorem State.rd_with_field (f : FieldSt) (e : Ent) : ({ s with field := f } : State).rd e = s.rd e := rfl

theorem State.ain_with_bypass (b : Bool) : ({ s with field := { s.field with bypassOpen := b } } : State).ain i = s.ain i := rfl

/-- What every channel shows: its own cause, and nothing that a cause depends on has changed. -/
theorem State.showAis_each (hi : i < 32) : s.showAis.rd (E.Ai.AI_FAULT_CAUSE i) = s.aiCause i ∧ s.showAis.ain i = s.ain i
    ∧ s.showAis.field.shed = s.field.shed ∧ s.showAis.field.bypassOpen = s.field.bypassOpen := by
  unfold State.showAis
  have h := foldl_of_mem (f := fun y k => y.showAi k) (s := s) (c := (s.aiCause i, s.ain i, s.field.shed, s.field.bypassOpen))
    (fun y => (y.rd (E.Ai.AI_FAULT_CAUSE i), y.ain i, y.field.shed, y.field.bypassOpen)) List.nodup_range (List.mem_range.2 hi)
    (fun y hy => ?_) fun y j hj => ?_
  · obtain ⟨hcause, h⟩ := Prod.mk.inj h
    obtain ⟨hain, h⟩ := Prod.mk.inj h
    obtain ⟨hshed, hbypass⟩ := Prod.mk.inj h
    exact ⟨hcause, hain, hshed, hbypass⟩
  · obtain ⟨-, hy⟩ := Prod.mk.inj hy
    obtain ⟨hain, hy⟩ := Prod.mk.inj hy
    obtain ⟨hshed, hbypass⟩ := Prod.mk.inj hy
    have hshown := y.showAi_shown i
    obtain ⟨l, hl⟩ := hshown.field
    rw [hshown.cause, hshown.ain i, hl, State.aiCause_congr hshed hbypass hain, hain]
    exact Prod.ext rfl (Prod.ext rfl (Prod.ext hshed hbypass))
  · have hshown := y.showAi_shown j
    obtain ⟨l, hl⟩ := hshown.field
    have hfar : ∀ f ∈ aiShown j, (E.Ai.AI_FAULT_CAUSE i).key ≠ f.key := by
      simp only [aiShown, List.mem_cons, List.not_mem_nil, or_false, forall_eq_or_imp, forall_eq, E.Ai.AI_DIAG, E.Ai.AI_FAULT_CAUSE,
        E.Ai.FAULT_EVENTS, entN]
      omega
    rw [hshown.frame.rd (by simp) hfar (by simp), hshown.ain i, hl]

theorem State.showAis_now : s.showAis.now = s.now := by
  have h (l : List Nat) (y : State) : (l.foldl (fun y k => y.showAi k) y).now = y.now := by
    induction l generalizing y with
    | nil => rfl
    | cons k l ih => exact (ih _).trans (y.showAi_shown k).now
  exact h ..

/-- What the bypasses write as they open. -/
def bypassEnts : List Ent := [E.Ana.BURDEN_IN_CIRCUIT, E.Ana.ANALOG_STATE] ++ (List.range 32).flatMap aiShown

theorem State.showAnalog_rd (hb : s.field.bypassOpen = true) : s.showAnalog.rd E.Ana.BURDEN_IN_CIRCUIT = 0xFFFFFFFF
    ∧ s.showAnalog.rd (E.Ai.AI_FAULT_CAUSE i) = s.rd (E.Ai.AI_FAULT_CAUSE i) := by
  have hne : (E.Ai.AI_FAULT_CAUSE i).key ≠ E.Ana.BURDEN_IN_CIRCUIT.key ∧ (E.Ai.AI_FAULT_CAUSE i).key ≠ E.Ana.ANALOG_STATE.key := by
    simp only [E.Ai.AI_FAULT_CAUSE, E.Ana.BURDEN_IN_CIRCUIT, E.Ana.ANALOG_STATE, entN]
    omega
  refine ⟨?_, ?_⟩
  · rw [State.showAnalog, State.rd_wr_self, hb]
    rfl
  · rw [State.showAnalog, State.rd_wr_ne _ _ _ _ hne.1, State.rd_wr_ne _ _ _ _ hne.2]

theorem bypassOpen_completes (he : s.field.enable = true) (hb : s.field.bypassOpen = false) (hd : s.field.enableAt + 200000 ≤ s.instant at_) :
    Completes (.bypassOpen at_) s (fun t => t.field.bypassOpen = true ∧ t.rd E.Ana.BURDEN_IN_CIRCUIT = 0xFFFFFFFF
      ∧ (∀ i < 32, t.ain i = { s.ain i with settle := s.rd (E.Ai.AI_AVERAGE i) } ∧ t.rd (E.Ai.AI_FAULT_CAUSE i) = t.aiCause i)
      ∧ t.now = s.instant at_ ∧ Frame [.field] bypassEnts [] s t) := by
  have heq := State.bypassOpens_eq (s := s.advance at_) he hb hd
  generalize hx : ({ s.advance at_ with field := { (s.advance at_).field with bypassOpen := true } } : State) = x at heq
  have hopen : x.field.bypassOpen = true := by rw [← hx]
  obtain ⟨hnow, hod, hrt, hbypass⟩ := State.settlings_keep (s := x) (List.range 32)
  have hsettled (i : Nat) (hi : i < 32) : ((List.range 32).foldl State.settling x).ain i = { s.ain i with settle := s.rd (E.Ai.AI_AVERAGE i) } := by
    rw [State.settlings_ain hi, ← hx, State.ain_with_bypass, State.rd_with_field, State.ain_advance, State.rd_advance]
  have hframe : Frame [.field] bypassEnts [] s ((List.range 32).foldl State.settling x) := by
    rw [← hx]
    exact ((Frame.refl ..).advance.with_field (by simp)).foldl fun _ _ _ hy => hy.setAin (by simp)
  have hxnow : x.now = s.instant at_ := by rw [← hx, State.instant, State.advance]
  generalize (List.range 32).foldl State.settling x = y at *
  have hshown : Frame [.field] bypassEnts [] s y.showAis :=
    hframe.foldl fun _ i hi hz => hz.showAi (by simp) fun e m => List.mem_append_right _ (List.mem_flatMap.2 ⟨i, hi, m⟩)
  have hynow := State.showAis_now (s := y)
  have heach (i : Nat) (hi : i < 32) := State.showAis_each (s := y) hi
  generalize y.showAis = z at *
  have hz : z.field.bypassOpen = true := (heach 0 (by decide)).2.2.2.trans (hbypass.trans hopen)
  refine ⟨_, congrArg Host.Outcome.next heq, hz, (State.showAnalog_rd (i := 0) hz).1, fun i hi => ?_, ?_, hshown.showAnalog (by simp [bypassEnts])⟩
  · obtain ⟨hcause, hain, hshed, hopen⟩ := heach i hi
    have hsame : z.showAnalog.aiCause i = z.aiCause i := State.aiCause_congr rfl rfl rfl
    refine ⟨hain.trans (hsettled i hi), ?_⟩
    rw [(State.showAnalog_rd hz).2, hcause, hsame, State.aiCause_congr hshed hopen hain]
  · exact hynow.trans (hnow.trans hxnow)

end

/-- Settles O42: each command through the three things it may do to a channel: one bit of the diagnostics, a new target of the supply, the
channel shown anew. -/
theorem currentInputsFollowTheirConditions : Obligations.CurrentInputsFollowTheirConditions := by
  unfold Obligations.CurrentInputsFollowTheirConditions
  refine ⟨fun s at_ i m hi hn hp => aiConversion_completes hi hn hp, fun s at_ i b hi h => aiBit_completes (event := 0x40) ?_,
    fun s at_ i b hi => aiBit_completes (event := 0x42) (congrArg Host.Outcome.next (if_pos hi)), fun s at_ i b hi => aiShort_completes hi,
    fun s at_ i b hi => aiReversed_completes hi, fun s at_ i hi t0 hs hd ho => aiSupplyOff_completes hi hs hd ho,
    fun s at_ i hi t0 ho hd => supplyRetry_completes hi ho hd, fun s at_ i zone hi hz => ?_, fun s at_ he hb hd => bypassOpen_completes he hb hd⟩
  · exact congrArg Host.Outcome.next ((if_pos hi).trans (State.aiOpenWire_eq (s := s.advance at_) h))
  · obtain ⟨hoff, hsteps, hbit, hnow, hframe⟩ := State.aiThermal_stepped (s := s.advance at_) (i := i) hz
    exact ⟨_, congrArg Host.Outcome.next (if_pos hi), hoff, hsteps, hbit, hnow, (Frame.refl ..).advance.trans hframe⟩

end Sys2Proof.Machine
end

section

/-! SUPPORT. Writes of the trim entries of the current loops: the table, the check and the effect of each (R389 to R392, Tables ANA-7, ANA-8). -/
namespace Sys2Proof.Machine

section
variable {s x : State} {i o n at_ key base cnt sub : Nat} {w : Writer} {v : Value} {ty : Ty}

theorem tableRow_trimCapture : ∀ i < 32, (tableRow (E.Ai.TRIM_CAPTURE i).key).any (fun r => r.1.acc == .wo && r.1.ret == .volatile) = true := by
  decide

theorem tableRow_aoTrimStep : ∀ o < 16, (tableRow (E.Ao.AO_TRIM_STEP o).key).any (fun r => r.1.acc == .wo && r.1.ret == .volatile) = true := by
  decide

theorem tableRow_aoTrimReading : ∀ o < 16, (tableRow (E.Ao.AO_TRIM_READING o).key).any (fun r => r.1.acc == .wo && r.1.ret == .volatile) = true := by
  decide

/-- The entries at 0x2000 to 0x2FFF are the field's. -/
theorem State.owner_field (h : 0x2000 ≤ key / 256 ∧ key / 256 < 0x3000) :
    s.chkOwner w key v = s.chkField (key / 256) (key % 256) (valNat v) (valBytes v)
      ∧ s.effOwner w key v = s.effField w (key / 256) (key % 256) (valNat v) (valBytes v) := by
  have hbefore : ¬ key / 256 < 0x1800 ∧ ¬ key / 256 < 0x1900 ∧ ¬ key / 256 < 0x2000 := by omega
  obtain ⟨h1, h2, h3⟩ := hbefore
  simp only [State.chkOwner, State.effOwner, h1, h2, h3, h.2, if_false, if_true, and_self]

theorem State.owner_trimCapture (hi : i < 32) : s.chkOwner w (E.Ai.TRIM_CAPTURE i).key (.num n) = s.chkTrimCapture i n false
    ∧ s.effOwner w (E.Ai.TRIM_CAPTURE i).key (.num n) = s.effTrimCapture i n w.node false := by
  have hindex : (E.Ai.TRIM_CAPTURE i).key / 256 = 0x2100 + i ∧ (E.Ai.TRIM_CAPTURE i).key % 256 = 0x0E := by
    simp only [E.Ai.TRIM_CAPTURE, entN]
    omega
  obtain ⟨hchk, heff⟩ := State.owner_field (s := s) (w := w) (key := (E.Ai.TRIM_CAPTURE i).key) (v := .num n) (by omega)
  have hrange : ¬ 0x2100 + i < 0x2040 ∧ ¬ 0x2100 + i < 0x2080 ∧ ¬ 0x2100 + i = 0x2090
      ∧ 0x2100 ≤ 0x2100 + i ∧ 0x2100 + i < 0x2120 := by omega
  obtain ⟨h2, h3, h4, h5, h6⟩ := hrange
  rw [hchk, heff, hindex.1, hindex.2]
  simp only [State.chkField, State.effField, Bool.and_eq_true, decide_eq_true_eq, h2, h3, h4, h5, h6, and_self, and_false, if_false, if_true,
    Nat.add_sub_cancel_left, valNat]

theorem State.owner_aoTrim (ho : o < 16) :
    (s.chkOwner w (E.Ao.AO_TRIM_STEP o).key (.num n) = s.chkAoTrim o n false
      ∧ s.effOwner w (E.Ao.AO_TRIM_STEP o).key (.num n) = s.effAoTrim o n w.node false)
    ∧ s.effOwner w (E.Ao.AO_TRIM_READING o).key (.num n) = s.effAoReading o n := by
  have hindex : (E.Ao.AO_TRIM_STEP o).key / 256 = 0x2120 + o ∧ (E.Ao.AO_TRIM_STEP o).key % 256 = 0x0B
      ∧ (E.Ao.AO_TRIM_READING o).key / 256 = 0x2120 + o ∧ (E.Ao.AO_TRIM_READING o).key % 256 = 0x0C := by
    simp only [E.Ao.AO_TRIM_STEP, E.Ao.AO_TRIM_READING, entN]
    omega
  obtain ⟨hi, hs, hi', hs'⟩ := hindex
  obtain ⟨hchk, heff⟩ := State.owner_field (s := s) (w := w) (key := (E.Ao.AO_TRIM_STEP o).key) (v := .num n) (by omega)
  obtain ⟨-, heff'⟩ := State.owner_field (s := s) (w := w) (key := (E.Ao.AO_TRIM_READING o).key) (v := .num n) (by omega)
  have hrange : ¬ 0x2120 + o < 0x2040 ∧ ¬ 0x2120 + o < 0x2080 ∧ ¬ 0x2120 + o = 0x2090
      ∧ ¬ 0x2120 + o < 0x2120 ∧ 0x2120 ≤ 0x2120 + o ∧ 0x2120 + o < 0x2130 := by omega
  obtain ⟨h2, h3, h4, h5, h6, h7⟩ := hrange
  rw [hchk, heff, heff', hi, hs, hi', hs']
  simp only [State.chkField, State.effField, Bool.and_eq_true, decide_eq_true_eq, h2, h3, h4, h5, h6, h7, and_self, and_false, if_false, if_true,
    Nat.add_sub_cancel_left, valNat]

/-- A command below index 0x3000 that reaches nothing leaves its effect, answered, and has passed the check of its owner. -/
theorem State.dictWrite_plain (h : s.accepts at_ w key ty v)
    (hrow : (tableRow key).any (fun r => r.1.acc == .wo && r.1.ret == .volatile) = true) (hi : key / 256 < 0x3000)
    (hs : key % 256 ≠ 0 ∧ key % 256 ≠ 0x1F) (hk : ∀ k ∈ [0x130003, 0x130208, 0x1A0001], key ≠ k) :
    dictWrite at_ w key ty v s = .next (((s.advance at_).effOwner w key v).answered) ∧ (s.advance at_).chkOwner w key v = 0 := by
  obtain ⟨hstep, hcheck⟩ := State.writeStep_effect h hrow (by omega) hs (by omega)
  rw [State.reached_of_plain hi hk] at hstep
  exact ⟨congrArg Host.Outcome.next hstep, hcheck⟩

theorem trimCapture_write (hi : i < 32) (h : s.accepts at_ w (E.Ai.TRIM_CAPTURE i).key .u8 (.num n)) :
    dictWrite at_ w (inst 0x2100 i 32 0x0E) .u8 (.num n) s = .next ((s.advance at_).effTrimCapture i n w.node false).answered
      ∧ s.chkTrimCapture i n false = 0 := by
  have hkey : (E.Ai.TRIM_CAPTURE i).key = (0x2100 + i) * 256 + 0x0E := rfl
  have hinst : inst 0x2100 i 32 0x0E = (E.Ai.TRIM_CAPTURE i).key := if_pos hi
  obtain ⟨hstep, hcheck⟩ := State.dictWrite_plain h (tableRow_trimCapture i hi) (by omega) (by omega) (by simp; omega)
  obtain ⟨hchk, heff⟩ := State.owner_trimCapture (s := s.advance at_) (w := w) (n := n) hi
  rw [hinst, hstep, heff]
  exact ⟨rfl, hchk.symm.trans hcheck⟩

theorem aoTrim_write (ho : o < 16) (h : s.accepts at_ w (E.Ao.AO_TRIM_STEP o).key .u8 (.num n)) :
    dictWrite at_ w (inst 0x2120 o 16 0x0B) .u8 (.num n) s = .next ((s.advance at_).effAoTrim o n w.node false).answered
      ∧ s.chkAoTrim o n false = 0 := by
  have hkey : (E.Ao.AO_TRIM_STEP o).key = (0x2120 + o) * 256 + 0x0B := rfl
  have hinst : inst 0x2120 o 16 0x0B = (E.Ao.AO_TRIM_STEP o).key := if_pos ho
  obtain ⟨hstep, hcheck⟩ := State.dictWrite_plain h (tableRow_aoTrimStep o ho) (by omega) (by omega) (by simp; omega)
  obtain ⟨⟨hchk, heff⟩, -⟩ := State.owner_aoTrim (s := s.advance at_) (w := w) (n := n) ho
  rw [hinst, hstep, heff]
  exact ⟨rfl, hchk.symm.trans hcheck⟩

theorem aoReading_write (ho : o < 16) (h : s.accepts at_ w (E.Ao.AO_TRIM_READING o).key .f32 (.num n)) :
    dictWrite at_ w (inst 0x2120 o 16 0x0C) .f32 (.num n) s = .next ((s.advance at_).effAoReading o n).answered := by
  have hkey : (E.Ao.AO_TRIM_READING o).key = (0x2120 + o) * 256 + 0x0C := rfl
  have hinst : inst 0x2120 o 16 0x0C = (E.Ao.AO_TRIM_READING o).key := if_pos ho
  obtain ⟨hstep, -⟩ := State.dictWrite_plain h (tableRow_aoTrimReading o ho) (by omega) (by omega) (by simp; omega)
  rw [hinst, hstep, (State.owner_aoTrim (s := s.advance at_) (w := w) (n := n) ho).2]

@[simp] theorem State.field_answered : x.answered.field = x.field := State.answered_part (p := .field) (by decide)

@[simp] theorem State.ain_answered : x.answered.ain i = x.ain i := congrArg (fun f : FieldSt => f.ai.fetch {} i) State.field_answered

@[simp] theorem State.aout_answered : x.answered.aout o = x.aout o := congrArg (fun f : FieldSt => f.ao.fetch {} o) State.field_answered

end

end Sys2Proof.Machine
end

section

/-! SUPPORT. O43. The trim capture of an input (R389 to R391). -/
namespace Sys2Proof.Machine

section
variable {s : State} {i at_ : Nat} {w : Writer} {c : AiCapture}

theorem trimCaptureFirst_completes (hi : i < 32) (h : s.accepts at_ w (E.Ai.TRIM_CAPTURE i).key .u8 (.num 1)) :
    Completes (.trimCaptureFirst at_ w i) s (fun t => t.odStatus = 0
      ∧ (t.ain i).capture = some { point := 1, node := w.node } ∧ t.rd (E.Ai.TRIM_STATE i) = 0
      ∧ t.now = s.instant at_ ∧ Frame [.answer, .field] (E.Ai.TRIM_STATE i :: genEnts) [] s t) := by
  obtain ⟨hstep, -⟩ := trimCapture_write hi h
  have heff : (s.advance at_).effTrimCapture i 1 w.node false
      = ((s.advance at_).setAin i { s.ain i with capture := some { point := 1, node := w.node } }).wr (E.Ai.TRIM_STATE i) 0 := rfl
  rw [heff] at hstep
  refine ⟨_, hstep, rfl, ?_, ?_, by simp [State.instant, State.setAin], ?_⟩
  · rw [State.ain_answered]
    exact congrArg AiSt.capture State.ain_setAin_self
  · rw [State.rd_answered _ (by simp only [E.Ai.TRIM_STATE, entN]; omega), State.rd_wr_self]
    rfl
  · exact (((Frame.refl [.answer, .field] [E.Ai.TRIM_STATE i] [] s).advance.setAin (by simp)).wr (by simp)).answered (by simp)

theorem trimCaptureAbandon_completes (hi : i < 32) (h : s.accepts at_ w (E.Ai.TRIM_CAPTURE i).key .u8 (.num 3)) :
    Completes (.trimCaptureAbandon at_ w i) s (fun t => t.odStatus = 0 ∧ (t.ain i).capture = none ∧ t.rd (E.Ai.TRIM_STATE i) = 0
      ∧ t.now = s.instant at_ ∧ Frame [.answer, .field] (E.Ai.TRIM_STATE i :: genEnts) [] s t) := by
  obtain ⟨hstep, -⟩ := trimCapture_write hi h
  have heff : (s.advance at_).effTrimCapture i 3 w.node false
      = ((s.advance at_).setAin i { s.ain i with capture := none }).wr (E.Ai.TRIM_STATE i) 0 := rfl
  rw [heff] at hstep
  refine ⟨_, hstep, rfl, ?_, ?_, by simp [State.instant, State.setAin], ?_⟩
  · rw [State.ain_answered]
    exact congrArg AiSt.capture State.ain_setAin_self
  · rw [State.rd_answered _ (by simp only [E.Ai.TRIM_STATE, entN]; omega), State.rd_wr_self]
    rfl
  · exact (((Frame.refl [.answer, .field] [E.Ai.TRIM_STATE i] [] s).advance.setAin (by simp)).wr (by simp)).answered (by simp)

theorem capture_of_chkTrimCapture (h : s.chkTrimCapture i 2 false = 0) : (s.ain i).capture.isSome = true := by
  cases hc : (s.ain i).capture with
  | some c => rfl
  | none => simp [State.chkTrimCapture, hc, stMode] at h

/-- Input `i` with its capture turned to the second point. -/
def State.secondPoint (s : State) (i node : Nat) : AiSt :=
  { s.ain i with capture := (s.ain i).capture.map fun c => { c with point := 2, vals := [], running := true, node := node } }

theorem trimCaptureSecond_completes (hi : i < 32) (h : s.accepts at_ w (E.Ai.TRIM_CAPTURE i).key .u8 (.num 2)) :
    Completes (.trimCaptureSecond at_ w i) s (fun t => t.odStatus = 0 ∧ (t.ain i).capture.isSome = true
      ∧ (t.ain i).capture = (s.ain i).capture.map (fun c => { c with point := 2, vals := [], running := true, node := w.node })
      ∧ t.now = s.instant at_ ∧ Frame [.answer, .field] genEnts [] s t) := by
  obtain ⟨hstep, hcheck⟩ := trimCapture_write hi h
  have heff : (s.advance at_).effTrimCapture i 2 w.node false = (s.advance at_).setAin i (s.secondPoint i w.node) := rfl
  rw [heff] at hstep
  have hcapture : (((s.advance at_).setAin i (s.secondPoint i w.node)).ain i).capture = (s.secondPoint i w.node).capture :=
    congrArg AiSt.capture State.ain_setAin_self
  refine ⟨_, hstep, rfl, ?_, ?_, by simp [State.instant, State.setAin], ?_⟩
  · rw [State.ain_answered, hcapture, State.secondPoint, Option.isSome_map]
    exact capture_of_chkTrimCapture hcheck
  · rw [State.ain_answered, hcapture, State.secondPoint]
  · exact ((Frame.refl [.answer, .field] [] [] s).advance.setAin (by simp)).answered (by simp)

/-! ## TRIM_POINT_DONE (R390) -/

/-- Capture `x` of input `i`, and a state to show of it. -/
def State.captureShown (s : State) (i : Nat) (x : Option AiCapture) (n : Nat) : State :=
  (s.setAin i { s.ain i with capture := x }).wr (E.Ai.TRIM_STATE i) n

theorem captureShown_completes {x : Option AiCapture} {n : Nat} (hi : i < 32) (hn : n < 2 ^ 8)
    (heq : (s.advance at_).trimPointDone i = (s.advance at_).captureShown i x n) :
    Completes (.trimPointDone at_ i) s (fun t => (t.ain i).capture = x ∧ t.rd (E.Ai.TRIM_STATE i) = n
      ∧ t.now = s.instant at_ ∧ Frame [.field] [E.Ai.TRIM_STATE i] [] s t) :=
  ⟨_, congrArg Host.Outcome.next ((if_pos hi).trans heq), congrArg AiSt.capture State.ain_setAin_self,
    (State.rd_wr_self ..).trans (Nat.mod_eq_of_lt hn), rfl, ((Frame.refl ..).advance.setAin (by simp)).wr (by simp)⟩

section
variable (hc : (s.ain i).capture = some c) (hrun : c.running = true) (hlen : 400 ≤ c.vals.length)
include hc hrun hlen

theorem State.trimPointDone_unstable (hu : unstable c.vals = true) : s.trimPointDone i = s.captureShown i none 3 := by
  simp only [State.trimPointDone, hc, hrun, Nat.not_lt.2 hlen, hu, Bool.not_true, Bool.false_or, decide_false, Bool.false_eq_true, if_false, if_true]
  rfl

theorem State.trimPointDone_first (hu : unstable c.vals = false) (hp : c.point = 1) :
    s.trimPointDone i = s.captureShown i (some { c with first := some (meanF c.vals), vals := [], running := false }) 1 := by
  simp only [State.trimPointDone, hc, hrun, Nat.not_lt.2 hlen, hu, hp, Bool.not_true, Bool.false_or, decide_false, Bool.false_eq_true, if_false]
  rfl

/-- The trim of an input applied by the node of the capture: recorded, stored, shown (R390, R400). -/
def State.trimStored (s : State) (i offs span node : Nat) : State :=
  (((s.logTrim 0x05 i (s.rd (E.Ai.TRIM_ZERO i)) (s.rd (E.Ai.TRIM_SPAN i)) offs span node).wrR (E.Ai.TRIM_ZERO i) offs).wrR (E.Ai.TRIM_SPAN i) span).wr
    (E.Ai.TRIM_STATE i) 2

/-- The capture of input `i` ended by the trim that it gives. -/
def State.trimApplied (s : State) (i offs span node : Nat) : State := (s.setAin i { s.ain i with capture := none }).trimStored i offs span node

variable {m4 offs span : Nat}

theorem State.trimPointDone_second (hu : unstable c.vals = false) (hp : c.point = 2) (hf : c.first = some m4)
    (hs : span = fmt32.div (milli 16000) (fmt32.sub (meanF c.vals) m4)) (ho : offs = fmt32.sub m4 (fmt32.div (milli 4000) span)) :
    s.trimPointDone i = if trimOk offs span then s.trimApplied i offs span c.node else s.captureShown i none 4 := by
  subst hs ho
  simp only [State.trimPointDone, hc, hrun, Nat.not_lt.2 hlen, hu, hp, hf, Bool.not_true, Bool.false_or, decide_false, Bool.false_eq_true, if_false]
  rfl

end

end

section
variable {s : State} {i node offs span : Nat}

theorem trimKeys (i : Nat) (hi : i < 32) : (∀ f ∈ [E.Ai.TRIM_ZERO i, E.Ai.TRIM_SPAN i], f.key / 256 ≠ 0x1B1C ∧ f.key ≠ E.Restore.RETAINED_WRITES.key
    ∧ f.key ≠ (E.Ai.TRIM_STATE i).key) ∧ (E.Ai.TRIM_ZERO i).key ≠ (E.Ai.TRIM_SPAN i).key := by
  simp only [List.mem_cons, List.not_mem_nil, or_false, forall_eq_or_imp, forall_eq, E.Ai.TRIM_ZERO, E.Ai.TRIM_SPAN, E.Ai.TRIM_STATE,
    E.Restore.RETAINED_WRITES, entN]
  omega

theorem State.trimApplied_rd (hi : i < 32) : (s.trimApplied i offs span node).rd (E.Ai.TRIM_STATE i) = 2
    ∧ (s.trimApplied i offs span node).rd (E.Ai.TRIM_ZERO i) = offs % 2 ^ 32 ∧ (s.trimApplied i offs span node).rd (E.Ai.TRIM_SPAN i) = span % 2 ^ 32 := by
  obtain ⟨hkeys, hne⟩ := trimKeys i hi
  obtain ⟨-, hzw, hzs⟩ := hkeys (E.Ai.TRIM_ZERO i) (by simp)
  obtain ⟨-, hsw, hss⟩ := hkeys (E.Ai.TRIM_SPAN i) (by simp)
  unfold State.trimApplied State.trimStored
  refine ⟨State.rd_wr_self .., ?_, ?_⟩
  · rw [State.rd_wr_ne _ _ _ _ hzs, State.rd_wrR_ne hne hzw, State.rd_wrR_self hzw]
    rfl
  · rw [State.rd_wr_ne _ _ _ _ hss, State.rd_wrR_self hsw]
    rfl

/-- What applying a trim writes. -/
def trimEnts (i : Nat) : List Ent := [E.Ai.TRIM_STATE i, E.Ai.TRIM_ZERO i, E.Ai.TRIM_SPAN i, E.Restore.RETAINED_WRITES]

theorem Frame.trimApplied : Frame [.field, .blocks, .ledger] (trimEnts i) [28] s (s.trimApplied i offs span node) := by
  have hended : Frame [.field, .blocks, .ledger] (trimEnts i) [28] s (s.setAin i { s.ain i with capture := none }) := (Frame.refl ..).setAin (by simp)
  exact (((hended.log (by simp) (by simp)).wrR (by simp [trimEnts]) (by simp) (by simp [trimEnts])).wrR (by simp [trimEnts]) (by simp)
    (by simp [trimEnts])).wr (by simp [trimEnts])

theorem State.trimApplied_now : (s.trimApplied i offs span node).now = s.now := by simp [State.trimApplied, State.trimStored, State.logTrim, State.setAin]

theorem State.trimApplied_ain : (s.trimApplied i offs span node).ain i = { s.ain i with capture := none } := by
  have hfield : (s.trimApplied i offs span node).field = (s.setAin i { s.ain i with capture := none }).field := by
    simp [State.trimApplied, State.trimStored, State.logTrim]
  rw [State.ain, hfield, ← State.ain, State.ain_setAin_self]

end

/-- Settles O43: a write of TRIM_CAPTURE sets the capture; TRIM_POINT_DONE ends it, keeps its first mean, or applies the trim. -/
theorem inputTrimsRunInTwoPoints : Obligations.InputTrimsRunInTwoPoints := by
  unfold Obligations.InputTrimsRunInTwoPoints
  refine ⟨fun s at_ i w hi h => trimCaptureFirst_completes hi h, fun s at_ i w hi h => trimCaptureSecond_completes hi h,
    fun s at_ i w hi h => trimCaptureAbandon_completes hi h,
    fun s at_ i hi c hc hrun hlen hu => captureShown_completes hi (by decide) (State.trimPointDone_unstable (s := s.advance at_) hc hrun hlen hu),
    fun s at_ i hi c hc hrun hlen hu hp => captureShown_completes hi (by decide) (State.trimPointDone_first (s := s.advance at_) hc hrun hlen hu hp),
    fun s at_ i hi c hc hrun hlen hu hp m4 hf span hs offs ho => ?_⟩
  have heq := State.trimPointDone_second (s := s.advance at_) hc hrun hlen hu hp hf hs ho
  by_cases hok : trimOk offs span = true
  · rw [if_pos hok] at heq ⊢
    obtain ⟨hstate, hzero, hspan⟩ := State.trimApplied_rd (s := s.advance at_) (offs := offs) (span := span) (node := c.node) hi
    exact ⟨_, congrArg Host.Outcome.next ((if_pos hi).trans heq), congrArg AiSt.capture State.trimApplied_ain, hstate, fun _ => ⟨hzero, hspan⟩,
      State.trimApplied_now, (Frame.refl ..).advance.trans Frame.trimApplied, fun hbad => absurd (hok.symm.trans hbad) (by decide)⟩
  · rw [if_neg hok] at heq ⊢
    obtain ⟨t, ht, hcapture, hstate, hnow, hframe⟩ := captureShown_completes hi (by decide) heq
    exact ⟨t, ht, hcapture, hstate, fun h => absurd h hok, hnow, hframe.mono (by simp) (by simp) (by simp), fun _ => hframe⟩

end Sys2Proof.Machine
end

section

/-! SUPPORT. O44. The trim of a current output (R389, R392). -/
namespace Sys2Proof.Machine

section
variable {s y : State} {o n p v at_ node offs span : Nat} {w : Writer} {c : AoCapture} {x : AoSt}

/-- An output with capture `c` open drives 20 mA at its second point, else 4 mA (Table ANA-6). -/
theorem State.aoDecide_of_capture (hp : s.field.powered = true) (he : s.field.enable = true) (hs : s.field.shed = false)
    (hb : bitOf (s.aout o).diag 3 = false) (hc : (s.aout o).capture = some c) :
    s.aoDecide o = (if c.point = 2 then milli 20000 else milli 4000, 4) := by
  simp [State.aoDecide, hp, he, hs, hb, hc]

theorem aoTrimKeys (o : Nat) : ∀ f ∈ [E.Ao.AO_TRIM_STATE o, E.Ao.AO_TRIM_ZERO o, E.Ao.AO_TRIM_SPAN o, E.Ao.AO_OUTPUT_STATE o],
    f.key / 256 ≠ 0x1B1C ∧ (f.key / 256 < 0x6800 ∨ f.key % 256 ≠ 0x0F) := by
  simp only [List.mem_cons, List.not_mem_nil, or_false, forall_eq_or_imp, forall_eq, E.Ao.AO_TRIM_STATE, E.Ao.AO_TRIM_ZERO, E.Ao.AO_TRIM_SPAN,
    E.Ao.AO_OUTPUT_STATE, entN]
  omega

theorem aoState_ne (o : Nat) : ∀ f ∈ [E.Ao.AO_TRIM_STATE o, E.Ao.AO_TRIM_ZERO o, E.Ao.AO_TRIM_SPAN o], f.key ≠ (E.Ao.AO_OUTPUT_STATE o).key := by
  simp only [List.mem_cons, List.not_mem_nil, or_false, forall_eq_or_imp, forall_eq, E.Ao.AO_TRIM_STATE, E.Ao.AO_TRIM_ZERO, E.Ao.AO_TRIM_SPAN,
    E.Ao.AO_OUTPUT_STATE, entN]
  omega

theorem State.refreshAo_rd (f : Ent) (hf : f ∈ [E.Ao.AO_TRIM_STATE o, E.Ao.AO_TRIM_ZERO o, E.Ao.AO_TRIM_SPAN o]) : (s.refreshAo o).rd f = s.rd f :=
  State.rd_wr_ne _ _ _ _ (aoState_ne o f hf)

/-! ## Driving and abandoning -/

/-- What a command leaves of output `o` that sets its capture and lets it drive. -/
structure AoDriven (s : State) (o : Nat) (k : Option AoCapture) (y : State) : Prop where
  aout : y.aout o = { s.aout o with capture := k }
  field : y.field.powered = s.field.powered ∧ y.field.enable = s.field.enable ∧ y.field.shed = s.field.shed
  now : (y.refreshAo o).answered.now = s.now

theorem AoDriven.capture {k : Option AoCapture} (h : AoDriven s o k y) : ((y.refreshAo o).answered.aout o).capture = k := by
  rw [State.aout_answered, State.refreshAo_aout, h.aout]

/-- The output stands as driven (Table ANA-6). -/
theorem AoDriven.drives (h : AoDriven s o (some c) y) (hp : s.field.powered = true) (he : s.field.enable = true) (hs : s.field.shed = false)
    (hb : bitOf (s.aout o).diag 3 = false) : ((y.refreshAo o).answered.aout o).out = (if c.point = 2 then milli 20000 else milli 4000)
      ∧ (y.refreshAo o).answered.rd (E.Ao.AO_OUTPUT_STATE o) = 4 := by
  obtain ⟨hp', he', hs'⟩ := h.field
  have hdecide := State.aoDecide_of_capture (s := y) (o := o) (c := c) (hp'.trans hp) (he'.trans he) (hs'.trans hs) (by rw [h.aout]; exact hb)
    (by rw [h.aout])
  refine ⟨?_, ?_⟩
  · rw [State.aout_answered, State.refreshAo_aout, hdecide]
  · rw [State.rd_answered _ (aoTrimKeys o _ (by simp)).2, State.refreshAo_state, hdecide]
    rfl

theorem aoTrimDrive4_completes (ho : o < 16) (h : s.accepts at_ w (E.Ao.AO_TRIM_STEP o).key .u8 (.num 1)) :
    Completes (.aoTrimDrive4 at_ w o) s (fun t => t.odStatus = 0
      ∧ (t.aout o).capture = some { point := 1, node := w.node } ∧ t.rd (E.Ao.AO_TRIM_STATE o) = 0
      ∧ (s.field.powered = true → s.field.enable = true → s.field.shed = false → bitOf (s.aout o).diag 3 = false →
          (t.aout o).out = milli 4000 ∧ t.rd (E.Ao.AO_OUTPUT_STATE o) = 4)
      ∧ t.now = s.instant at_
      ∧ Frame [.answer, .field] ([E.Ao.AO_TRIM_STATE o, E.Ao.AO_OUTPUT_STATE o] ++ genEnts) [] s t) := by
  obtain ⟨hstep, -⟩ := aoTrim_write ho h
  generalize hy : ((s.advance at_).setAout o { s.aout o with capture := some { point := 1, node := w.node } }).wr (E.Ao.AO_TRIM_STATE o) 0 = y
  have heff : (s.advance at_).effAoTrim o 1 w.node false = y.refreshAo o := by rw [← hy]; rfl
  have hdriven : AoDriven (s.advance at_) o (some { point := 1, node := w.node }) y := by
    rw [← hy]
    exact ⟨State.aout_setAout_self, ⟨rfl, rfl, rfl⟩, by simp⟩
  rw [heff] at hstep
  refine ⟨_, hstep, rfl, hdriven.capture, ?_, fun hp he hs hb => hdriven.drives hp he hs hb, hdriven.now, ?_⟩
  · rw [State.rd_answered _ (aoTrimKeys o _ (by simp)).2, State.refreshAo_rd _ (by simp), ← hy, State.rd_wr_self]
    rfl
  · rw [← hy]
    exact ((((Frame.refl [.answer, .field] [E.Ao.AO_TRIM_STATE o, E.Ao.AO_OUTPUT_STATE o] [] s).advance.setAout (by simp)).wr (by simp)).refreshAo
      (by simp) (by simp)).answered (by simp)

theorem capture_of_chkAoTrim (h : s.chkAoTrim o 2 false = 0) : ∃ c, (s.aout o).capture = some c := by
  cases hc : (s.aout o).capture with
  | some c => exact ⟨c, rfl⟩
  | none => simp [State.chkAoTrim, hc, stMode] at h

/-- Capture `c` of an output at its second point. -/
def AoCapture.second (c : AoCapture) (node : Nat) : AoCapture := { c with point := 2, node := node }

theorem aoTrimDrive20_completes (ho : o < 16) (h : s.accepts at_ w (E.Ao.AO_TRIM_STEP o).key .u8 (.num 2)) :
    Completes (.aoTrimDrive20 at_ w o) s (fun t => t.odStatus = 0 ∧ (t.aout o).capture.isSome = true
      ∧ (t.aout o).capture = (s.aout o).capture.map (fun c => c.second w.node)
      ∧ (s.field.powered = true → s.field.enable = true → s.field.shed = false → bitOf (s.aout o).diag 3 = false →
          (t.aout o).out = milli 20000 ∧ t.rd (E.Ao.AO_OUTPUT_STATE o) = 4)
      ∧ t.now = s.instant at_ ∧ Frame [.answer, .field] (E.Ao.AO_OUTPUT_STATE o :: genEnts) [] s t) := by
  obtain ⟨hstep, hcheck⟩ := aoTrim_write ho h
  obtain ⟨c, hc⟩ := capture_of_chkAoTrim hcheck
  generalize hy : (s.advance at_).setAout o { s.aout o with capture := some (c.second w.node) } = y
  have heff : (s.advance at_).effAoTrim o 2 w.node false = y.refreshAo o := by
    rw [← hy]
    simp only [State.effAoTrim, State.aout_advance, hc]
    rfl
  have hdriven : AoDriven (s.advance at_) o (some (c.second w.node)) y := by
    rw [← hy]
    exact ⟨State.aout_setAout_self, ⟨rfl, rfl, rfl⟩, by simp⟩
  rw [heff] at hstep
  have hcapture := hdriven.capture
  refine ⟨_, hstep, rfl, by rw [hcapture]; rfl, by rw [hcapture, hc]; rfl, fun hp he hs hb => hdriven.drives hp he hs hb, hdriven.now, ?_⟩
  rw [← hy]
  exact (((Frame.refl [.answer, .field] [E.Ao.AO_OUTPUT_STATE o] [] s).advance.setAout (by simp)).refreshAo (by simp) (by simp)).answered (by simp)

theorem aoTrimAbandon_completes (ho : o < 16) (h : s.accepts at_ w (E.Ao.AO_TRIM_STEP o).key .u8 (.num 4)) :
    Completes (.aoTrimAbandon at_ w o) s (fun t => t.odStatus = 0 ∧ (t.aout o).capture = none ∧ t.rd (E.Ao.AO_TRIM_STATE o) = 0
      ∧ t.now = s.instant at_
      ∧ Frame [.answer, .field] ([E.Ao.AO_TRIM_STATE o, E.Ao.AO_OUTPUT_STATE o] ++ genEnts) [] s t) := by
  obtain ⟨hstep, -⟩ := aoTrim_write ho h
  generalize hy : ((s.advance at_).setAout o { s.aout o with capture := none }).wr (E.Ao.AO_TRIM_STATE o) 0 = y
  have heff : (s.advance at_).effAoTrim o 4 w.node false = y.refreshAo o := by rw [← hy]; rfl
  have hdriven : AoDriven (s.advance at_) o none y := by
    rw [← hy]
    exact ⟨State.aout_setAout_self, ⟨rfl, rfl, rfl⟩, by simp⟩
  rw [heff] at hstep
  refine ⟨_, hstep, rfl, hdriven.capture, ?_, hdriven.now, ?_⟩
  · rw [State.rd_answered _ (aoTrimKeys o _ (by simp)).2, State.refreshAo_rd _ (by simp), ← hy, State.rd_wr_self]
    rfl
  · rw [← hy]
    exact ((((Frame.refl [.answer, .field] [E.Ao.AO_TRIM_STATE o, E.Ao.AO_OUTPUT_STATE o] [] s).advance.setAout (by simp)).wr (by simp)).refreshAo
      (by simp) (by simp)).answered (by simp)

/-! ## The readings and the trim applied -/

/-- Capture `c` of an output with the reading of the point being driven. -/
def AoCapture.read (c : AoCapture) (v : Nat) : AoCapture := if c.point = 1 then { c with r1 := some v } else { c with r2 := some v }

theorem State.effAoReading_eq (hc : (s.aout o).capture = some c) : s.effAoReading o v =
    if c.point = 1 then (s.setAout o { s.aout o with capture := some (c.read v) }).wr (E.Ao.AO_TRIM_STATE o) 1
    else s.setAout o { s.aout o with capture := some (c.read v) } := by
  unfold AoCapture.read
  simp only [State.effAoReading, hc]
  split <;> rfl

theorem aoTrimReading_completes (ho : o < 16) (h : s.accepts at_ w (E.Ao.AO_TRIM_READING o).key .f32 (.num v)) (hc : (s.aout o).capture = some c) :
    Completes (.aoTrimReading at_ w o v) s (fun t => t.odStatus = 0 ∧ (t.aout o).capture = some (c.read v)
      ∧ t.rd (E.Ao.AO_TRIM_STATE o) = (if c.point = 1 then 1 else s.rd (E.Ao.AO_TRIM_STATE o))
      ∧ t.now = s.instant at_ ∧ Frame [.answer, .field] (E.Ao.AO_TRIM_STATE o :: genEnts) [] s t) := by
  have hstep := aoReading_write ho h
  rw [State.effAoReading_eq (s := s.advance at_) hc] at hstep
  have hkey := (aoTrimKeys o (E.Ao.AO_TRIM_STATE o) (by simp)).2
  have hset : Frame [.answer, .field] [E.Ao.AO_TRIM_STATE o] [] s ((s.advance at_).setAout o { (s.advance at_).aout o with capture := some (c.read v) }) :=
    (Frame.refl ..).advance.setAout (by simp)
  refine ⟨_, hstep, rfl, ?_⟩
  by_cases hp : c.point = 1
  · rw [if_pos hp, if_pos hp]
    refine ⟨?_, ?_, by simp [State.instant, State.setAout], (hset.wr (by simp)).answered (by simp)⟩
    · rw [State.aout_answered]
      exact congrArg AoSt.capture State.aout_setAout_self
    · rw [State.rd_answered _ hkey, State.rd_wr_self]
      rfl
  · rw [if_neg hp, if_neg hp]
    refine ⟨?_, ?_, by simp [State.instant, State.setAout], hset.answered (by simp)⟩
    · rw [State.aout_answered, State.aout_setAout_self]
    · rw [State.rd_answered _ hkey]
      rfl

/-- The trim of an output applied: recorded, stored, shown (R392, R400). -/
def State.aoTrimStored (s : State) (o offs span node : Nat) : State :=
  (((s.logTrim 0x06 o (s.rd (E.Ao.AO_TRIM_ZERO o)) (s.rd (E.Ao.AO_TRIM_SPAN o)) offs span node).wrR (E.Ao.AO_TRIM_ZERO o) offs).wrR
    (E.Ao.AO_TRIM_SPAN o) span).wr (E.Ao.AO_TRIM_STATE o) 2

theorem State.aoTrimStored_rd (ho : o < 16) : (s.aoTrimStored o offs span node).rd (E.Ao.AO_TRIM_STATE o) = 2
    ∧ (s.aoTrimStored o offs span node).rd (E.Ao.AO_TRIM_ZERO o) = offs % 2 ^ 32
    ∧ (s.aoTrimStored o offs span node).rd (E.Ao.AO_TRIM_SPAN o) = span % 2 ^ 32 := by
  have hkeys : ∀ f ∈ [E.Ao.AO_TRIM_ZERO o, E.Ao.AO_TRIM_SPAN o], f.key ≠ E.Restore.RETAINED_WRITES.key ∧ f.key ≠ (E.Ao.AO_TRIM_STATE o).key := by
    simp only [List.mem_cons, List.not_mem_nil, or_false, forall_eq_or_imp, forall_eq, E.Ao.AO_TRIM_ZERO, E.Ao.AO_TRIM_SPAN, E.Ao.AO_TRIM_STATE,
      E.Restore.RETAINED_WRITES, entN]
    omega
  have hne : (E.Ao.AO_TRIM_ZERO o).key ≠ (E.Ao.AO_TRIM_SPAN o).key := by
    simp only [E.Ao.AO_TRIM_ZERO, E.Ao.AO_TRIM_SPAN, entN]
    omega
  obtain ⟨hzw, hzs⟩ := hkeys (E.Ao.AO_TRIM_ZERO o) (by simp)
  obtain ⟨hsw, hss⟩ := hkeys (E.Ao.AO_TRIM_SPAN o) (by simp)
  refine ⟨State.rd_wr_self .., ?_, ?_⟩
  · rw [State.aoTrimStored, State.rd_wr_ne _ _ _ _ hzs, State.rd_wrR_ne hne hzw, State.rd_wrR_self hzw]
    rfl
  · rw [State.aoTrimStored, State.rd_wr_ne _ _ _ _ hss, State.rd_wrR_self hsw]
    rfl

/-- What applying a trim of an output writes. -/
def aoTrimEnts (o : Nat) : List Ent :=
  [E.Ao.AO_TRIM_STATE o, E.Ao.AO_OUTPUT_STATE o, E.Ao.AO_TRIM_ZERO o, E.Ao.AO_TRIM_SPAN o, E.Restore.RETAINED_WRITES]

theorem Frame.aoTrimStored {x : State} (h : Frame [.answer, .field, .blocks, .ledger] (aoTrimEnts o) [28] s x) :
    Frame [.answer, .field, .blocks, .ledger] (aoTrimEnts o) [28] s (x.aoTrimStored o offs span node) :=
  (((h.log (by simp) (by simp)).wrR (by simp [aoTrimEnts]) (by simp) (by simp [aoTrimEnts])).wrR (by simp [aoTrimEnts]) (by simp)
    (by simp [aoTrimEnts])).wr (by simp [aoTrimEnts])

theorem State.aoTrimStored_keeps : (s.aoTrimStored o offs span node).now = s.now ∧ (s.aoTrimStored o offs span node).field = s.field := by
  simp [State.aoTrimStored, State.logTrim]

variable {r1 r2 a : Nat}

theorem State.effAoTrim_apply (hc : (s.aout o).capture = some c) (h1 : c.r1 = some r1) (h2 : c.r2 = some r2)
    (ha : a = fmt32.div (fmt32.sub r2 r1) (milli 16000)) (hs : span = fmt32.div (milli 1000) a)
    (hf : offs = fmt32.neg (fmt32.div (fmt32.sub r1 (fmt32.mul (milli 4000) a)) a)) :
    s.effAoTrim o 3 node false = (if trimOk offs span then (s.setAout o { s.aout o with capture := none }).aoTrimStored o offs span node
      else (s.setAout o { s.aout o with capture := none }).wr (E.Ao.AO_TRIM_STATE o) 4).refreshAo o := by
  subst ha hs hf
  obtain ⟨point, k1, k2, nd, keys⟩ := c
  obtain rfl : k1 = some r1 := h1
  obtain rfl : k2 = some r2 := h2
  simp only [State.effAoTrim, hc]
  rfl

theorem aoTrimApply_completes (ho : o < 16) (h : s.accepts at_ w (E.Ao.AO_TRIM_STEP o).key .u8 (.num 3))
    (heff : (s.advance at_).effAoTrim o 3 w.node false = (if trimOk offs span then
      ((s.advance at_).setAout o { s.aout o with capture := none }).aoTrimStored o offs span w.node
      else ((s.advance at_).setAout o { s.aout o with capture := none }).wr (E.Ao.AO_TRIM_STATE o) 4).refreshAo o) :
    Completes (.aoTrimApply at_ w o) s (fun t => t.odStatus = 0 ∧ (t.aout o).capture = none
      ∧ t.rd (E.Ao.AO_TRIM_STATE o) = (if trimOk offs span then 2 else 4)
      ∧ (trimOk offs span = true → t.rd (E.Ao.AO_TRIM_ZERO o) = offs % 2 ^ 32 ∧ t.rd (E.Ao.AO_TRIM_SPAN o) = span % 2 ^ 32)
      ∧ t.now = s.instant at_ ∧ Frame [.answer, .field, .blocks, .ledger] (aoTrimEnts o ++ genEnts) [28] s t) := by
  obtain ⟨hstep, -⟩ := aoTrim_write ho h
  rw [heff] at hstep
  have hrd (y : State) (f : Ent) (hf : f ∈ [E.Ao.AO_TRIM_STATE o, E.Ao.AO_TRIM_ZERO o, E.Ao.AO_TRIM_SPAN o]) :
      (y.refreshAo o).answered.rd f = y.rd f := by
    rw [State.rd_answered _ (aoTrimKeys o f (List.mem_append_left [E.Ao.AO_OUTPUT_STATE o] hf)).2, State.refreshAo_rd _ hf]
  have hended : Frame [.answer, .field, .blocks, .ledger] (aoTrimEnts o) [28] s ((s.advance at_).setAout o { s.aout o with capture := none }) :=
    (Frame.refl ..).advance.setAout (by simp)
  have hcapture (y : State) (hy : y.aout o = { s.aout o with capture := none }) : ((y.refreshAo o).answered.aout o).capture = none := by
    rw [State.aout_answered, State.refreshAo_aout, hy]
  have hframe (y : State) (hy : Frame [.answer, .field, .blocks, .ledger] (aoTrimEnts o) [28] s y) :
      Frame [.answer, .field, .blocks, .ledger] (aoTrimEnts o ++ genEnts) [28] s (y.refreshAo o).answered :=
    (hy.refreshAo (by simp) (by simp [aoTrimEnts])).answered (by simp)
  by_cases hok : trimOk offs span = true
  · rw [if_pos hok] at hstep ⊢
    obtain ⟨hstate, hzero, hspan⟩ := State.aoTrimStored_rd (s := (s.advance at_).setAout o { s.aout o with capture := none }) (offs := offs)
      (span := span) (node := w.node) ho
    obtain ⟨hnow, hfield⟩ := State.aoTrimStored_keeps (s := (s.advance at_).setAout o { s.aout o with capture := none }) (o := o) (offs := offs)
      (span := span) (node := w.node)
    refine ⟨_, hstep, rfl, hcapture _ ?_, ?_, fun _ => ⟨?_, ?_⟩, ?_, hframe _ hended.aoTrimStored⟩
    · rw [State.aout, hfield, ← State.aout, State.aout_setAout_self]
    · rw [hrd _ _ (by simp), hstate]
    · rw [hrd _ _ (by simp), hzero]
    · rw [hrd _ _ (by simp), hspan]
    · rw [State.answered_now, State.refreshAo_now, hnow]
      rfl
  · rw [if_neg hok] at hstep ⊢
    refine ⟨_, hstep, rfl, hcapture _ State.aout_setAout_self, ?_, fun h => absurd h hok, by simp [State.instant],
      hframe _ (hended.wr (by simp [aoTrimEnts]))⟩
    rw [hrd _ _ (by simp), State.rd_wr_self]
    rfl

end

/-- Settles O44: each step sets the capture of the output and lets it take its current. -/
theorem outputTrimsDriveAndApply : Obligations.OutputTrimsDriveAndApply := by
  unfold Obligations.OutputTrimsDriveAndApply
  refine ⟨fun s at_ o w ho h => aoTrimDrive4_completes ho h, fun s at_ o w ho h => aoTrimDrive20_completes ho h,
    fun s at_ o w ho h c hc r1 h1 r2 h2 a ha span hs offs hf => ?_, fun s at_ o w ho h => aoTrimAbandon_completes ho h,
    fun s at_ o v w ho h c hc => aoTrimReading_completes ho h hc⟩
  exact aoTrimApply_completes ho h (State.effAoTrim_apply (s := s.advance at_) hc h1 h2 ha hs hf)

end Sys2Proof.Machine
end

section

/-! SUPPORT. O50. The parameter set of the safety functions (R463, R464). -/
namespace Sys2Proof.Machine

section
variable {s x : State} {at_ crc node : Nat} {w : Writer} {b : List Byte} {p : SafetySet}

theorem State.safety_answered : s.answered.safety = s.safety := State.answered_part (p := .safety) (by decide)

theorem Keeps.mono {ps qs : List Part} (h : Keeps ps s x) (hq : ∀ p ∈ ps, p ∈ qs) : Keeps qs s x :=
  ⟨h.1, fun p hp => h.2 p fun m => hp (hq p m)⟩

theorem Keeps.trans {ps : List Part} {y : State} (h : Keeps ps s x) (g : Keeps ps x y) : Keeps ps s y :=
  ⟨g.1.trans h.1, fun p hp => Part.same_trans (h.2 p hp) (g.2 p hp)⟩

theorem Keeps.of_frame {ps : List Part} {es : List Ent} {rs : List Nat} (h : Frame ps es rs s x) : Keeps ps s x := ⟨h.1, h.2.1⟩

theorem Keeps.answered {ps : List Part} (h : Keeps ps s x) (ha : Part.answer ∈ ps) : Keeps ps s x.answered :=
  h.trans (.of_frame ((Frame.refl ps genEnts [] x).answered ha))

/-! ## SPS_DATA -/

theorem State.chkSpsData_eq_zero : s.chkSpsData b = 0 ↔ s.rd E.Saf.SPS_OFFSET + b.length ≤ 262144 := by
  simp [State.chkSpsData, need, stRange]

theorem State.effSpsData_safety : (s.effSpsData b).safety
    = { s.safety with staging := s.safety.staging.writeList (s.rd E.Saf.SPS_OFFSET) b } := State.raise_safety ..

theorem spsData_completes (h : s.accepts at_ w E.Saf.SPS_DATA.key .octets (.bytes b)) :
    Completes (.spsData at_ w b) s (fun t => t.odStatus = 0
      ∧ (∀ i < b.length, t.safety.staging.read (s.rd E.Saf.SPS_OFFSET + i) = b.getD i 0)
      ∧ (∀ a, a < s.rd E.Saf.SPS_OFFSET ∨ s.rd E.Saf.SPS_OFFSET + b.length ≤ a → t.safety.staging.read a = s.safety.staging.read a)
      ∧ t.rd E.Saf.SPS_OFFSET = s.rd E.Saf.SPS_OFFSET + b.length
      ∧ t.now = s.instant at_ ∧ Frame [.answer, .safety] ([E.Saf.SPS_OFFSET, E.Saf.SPS_LENGTH] ++ genEnts) [] s t) := by
  obtain ⟨hstep, hcheck⟩ := State.writeStep_effect h rfl (by decide) (by decide) (by decide)
  have hroom : s.rd E.Saf.SPS_OFFSET + b.length ≤ 262144 := (State.chkSpsData_eq_zero (s := s.advance at_)).1 hcheck
  have hsafety : ((s.advance at_).effSpsData b).answered.safety
      = { s.safety with staging := s.safety.staging.writeList (s.rd E.Saf.SPS_OFFSET) b } :=
    State.safety_answered.trans State.effSpsData_safety
  refine ⟨((s.advance at_).effSpsData b).answered, congrArg Host.Outcome.next hstep, rfl, fun i hi => ?_, fun a ha => ?_, ?_,
    by simp [State.instant], ?_⟩
  · rw [hsafety, List.getD_eq_getElem _ _ hi]
    exact Memory.read_writeList_inside _ _ _ _ hi
  · rw [hsafety]
    exact Memory.read_writeList_outside _ _ _ _ ha
  · rw [State.rd_answered _ (by decide), State.effSpsData, State.rd_wr_self]
    exact Nat.mod_eq_of_lt (show s.rd E.Saf.SPS_OFFSET + b.length < 2 ^ 32 by omega)
  · exact ((((Frame.refl [.answer, .safety] _ _ s).advance.with_safety (by simp)).raise (by simp)).wr (by simp)).answered (by simp)

/-! ## SPS_COMMIT -/

theorem spsCommit_step (h : s.accepts at_ w E.Saf.SPS_COMMIT.key .u32 (.num crc)) :
    exec (.spsCommit at_ w crc) s = .next ((s.advance at_).effSpsCommit crc w.node).answered :=
  congrArg Host.Outcome.next (State.writeStep_effect h rfl (by decide) (by decide) (by decide)).1

/-- A commit that answers a result other than 0 writes it and its record. -/
theorem spsCommit_refused {r old : Nat} (h : s.accepts at_ w E.Saf.SPS_COMMIT.key .u32 (.num crc)) (hr : r < 256)
    (heff : (s.advance at_).effSpsCommit crc w.node = ((s.advance at_).wr E.Saf.SPS_RESULT r).logSps old crc w.node) :
    Completes (.spsCommit at_ w crc) s (fun t => t.odStatus = 0 ∧ t.rd E.Saf.SPS_RESULT = r
      ∧ t.now = s.instant at_ ∧ Frame [.answer, .ledger] (E.Saf.SPS_RESULT :: genEnts) [28] s t) := by
  refine ⟨_, spsCommit_step h, ?_⟩
  rw [heff]
  refine ⟨rfl, ?_, by simp [State.instant], ?_⟩
  · rw [State.rd_answered _ (by decide), State.logSps, State.rd_log_of_ne _ _ _ (by decide), State.rd_wr_self]
    exact Nat.mod_eq_of_lt hr
  · exact ((((Frame.refl [.answer, .ledger] [E.Saf.SPS_RESULT] [28] s).advance.wr (by simp)).log (by simp) (by simp))).answered (by simp)

theorem State.effSpsCommit_none (hb : Config.spsReading (s.safety.staging.readList 0 (s.rd E.Saf.SPS_LENGTH)) = none) :
    s.effSpsCommit crc node = (s.wr E.Saf.SPS_RESULT 1).logSps (s.rd E.Saf.SPS_CRC) crc node := by
  simp only [State.effSpsCommit, hb]

theorem State.effSpsCommit_bad (hb : Config.spsReading (s.safety.staging.readList 0 (s.rd E.Saf.SPS_LENGTH)) = some p)
    (hp : setOk p = false ∨ crc32c (s.safety.staging.readList 0 (s.rd E.Saf.SPS_LENGTH)) ≠ crc) :
    s.effSpsCommit crc node = (s.wr E.Saf.SPS_RESULT (if setOk p then 3 else 2)).logSps (s.rd E.Saf.SPS_CRC) crc node := by
  simp only [State.effSpsCommit, hb]
  rcases Bool.eq_false_or_eq_true (setOk p) with hok | hok
  · have hne := hp.resolve_left (by simp [hok])
    simp [hok, hne]
  · simp [hok]

/-- A set that passes is kept, shown, and the safety program starts with it. -/
theorem State.effSpsCommit_good (hb : Config.spsReading (s.safety.staging.readList 0 (s.rd E.Saf.SPS_LENGTH)) = some p) (hp : setOk p = true)
    (hc : crc32c (s.safety.staging.readList 0 (s.rd E.Saf.SPS_LENGTH)) = crc) : ∃ y : State,
    s.effSpsCommit crc node = (y.showSet p crc).safetyConfigure ∧ y.safety = { s.safety.keep p crc with set := some p }
      ∧ y.now = s.now ∧ y.rd E.Saf.SPS_RESULT = 0 := by
  have hsafety : ((s.wr E.Saf.SPS_RESULT 0).logSps (s.rd E.Saf.SPS_CRC) crc node).safety = s.safety := State.log_safety ..
  have hresult : ((s.wr E.Saf.SPS_RESULT 0).logSps (s.rd E.Saf.SPS_CRC) crc node).rd E.Saf.SPS_RESULT = 0 := by
    rw [State.logSps, State.rd_log_of_ne _ _ _ (by decide), State.rd_wr_self]
    rfl
  have hnow : ((s.wr E.Saf.SPS_RESULT 0).logSps (s.rd E.Saf.SPS_CRC) crc node).now = s.now := by simp
  simp only [State.effSpsCommit, hb, hp, hc, bne_self_eq_false, Bool.not_true, Bool.false_eq_true, if_false]
  generalize (s.wr E.Saf.SPS_RESULT 0).logSps (s.rd E.Saf.SPS_CRC) crc node = z at *
  exact ⟨_, rfl, by rw [hsafety], hnow, hresult⟩

/-- The newest copy is one of the two. -/
theorem SafetySt.newest_cases {m : SafetySt} : m.newest = none ∧ m.copies.find 0 = none ∧ m.copies.find 1 = none
    ∨ ∃ k a, m.newest = some (k, a) ∧ m.copies.find k = some a ∧ (k = 0 ∨ k = 1) := by
  unfold SafetySt.newest
  rcases h0 : m.copies.find 0 with _ | a <;> rcases h1 : m.copies.find 1 with _ | c
  · exact .inl ⟨rfl, rfl, rfl⟩
  · exact .inr ⟨1, c, rfl, h1, .inr rfl⟩
  · exact .inr ⟨0, a, rfl, h0, .inl rfl⟩
  · by_cases hg : genFollows a.2.2 c.2.2 = true
    · exact .inr ⟨0, a, by simp [hg], h0, .inl rfl⟩
    · exact .inr ⟨1, c, by simp [hg], h1, .inr rfl⟩

/-- The newest copy after a set has been kept is that set. -/
theorem SafetySt.stored_keep {m : SafetySt} : (m.keep p crc).stored = some (p, crc) := by
  have hold (g : Nat) : genFollows g ((g + 1) % 4294967296) = false := by simp only [genFollows, decide_eq_false_iff_not]; omega
  have hnew (g : Nat) : genFollows ((g + 1) % 4294967296) g = true := by simp only [genFollows, decide_eq_true_eq]; omega
  rcases m.newest_cases with ⟨hn, h0, h1⟩ | ⟨k, a, hn, ha, rfl | rfl⟩ <;> unfold SafetySt.keep SafetySt.stored <;> rw [hn]
  · simp [SafetySt.newest, h1]
  · simp [SafetySt.newest, ha, hold]
  · simp [SafetySt.newest, ha, hnew]

/-- What a set shows of itself before its inputs, outputs and connections. -/
def State.shownHead (s : State) (p : SafetySet) (crc : Nat) : State :=
  ((((s.wr E.Saf.SAFETY_CYCLE p.cycle).wr E.Saf.SAFE_WATCHDOG p.watchdog).wr E.Saf.TP_WIDTH p.tpWidth).wr E.Saf.TP_PERIOD p.tpPeriod).wr
    E.Saf.SPS_CRC crc

/-- The other entries of a set stand at other indices than its head. -/
theorem State.showSet_leaves {key : Nat} (hk : 0x6960 ≤ key / 256) : Leaves key (s.shownHead p crc) (s.showSet p crc) := by
  unfold State.showSet
  refine Leaves.foldl (Leaves.foldl (Leaves.foldl (Leaves.refl key (s.shownHead p crc)) fun y i hi => ?_) fun y n hn => ?_) fun y k hk => ?_
  · have h16 := List.mem_range.1 hi
    refine (((((Leaves.refl key y).wr ?_).wr ?_).wr ?_).wr ?_).wr ?_ <;>
      simp only [E.Si.SI_MODE, E.Si.SI_TP_A, E.Si.SI_TP_B, E.Si.SI_FILTER, E.Si.SI_DISCREPANCY, entN] <;> omega
  · have h8 := List.mem_range.1 hn
    refine ((((((Leaves.refl key y).wr ?_).wr ?_).wr ?_).wr ?_).wr ?_).wr ?_ <;>
      simp only [E.Sb.SB_PULSE_WIDTH, E.Sb.SB_TEST_PERIOD, E.Sb.HT_STANDSTILL_SI, E.Sb.HT_SETTLE, E.Sb.HT_DURATION, E.Sb.HT_INTERVAL, entN] <;>
      omega
  · have h16 := List.mem_range.1 hk
    split
    · refine (((((((((Leaves.refl key y).wr ?_).wr ?_).wr ?_).wr ?_).wr ?_).wr ?_).wr ?_).wr ?_).wr ?_ <;>
        simp only [E.Esc.ESC_PEER_NODE, E.Esc.ESC_PEER_IP, E.Esc.ESC_PEER_CONN, E.Esc.ESC_TX_LENGTH, E.Esc.ESC_RX_LENGTH, E.Esc.ESC_PERIOD,
          E.Esc.ESC_TIMEOUT, E.Esc.ESC_DEGRADED_TIME, E.Esc.ESC_SIGNATURE, entN] <;>
        omega
    · exact .refl ..

/-- Neither the set's entries nor the start of the safety program touch an entry of the head but their own two. -/
theorem State.rd_configured {e : Ent} (hk : 0x6960 ≤ e.key / 256) (hl : e.key / 256 < 0x6970)
    (hs : ∀ f ∈ safeStartEnts, e.key ≠ f.key) (ha : e.arch = false) :
    (s.showSet p crc).safetyConfigure.rd e = (s.shownHead p crc).rd e := by
  have hstart : Leaves e.key (s.showSet p crc) (s.showSet p crc).safetyConfigure :=
    .of_frame ((Frame.refl [.ledger, .free, .safety] safeStartEnts [28] _).safetyConfigure (by simp) (by simp) (by simp)) hs (by simp; omega)
  exact ((State.showSet_leaves hk).trans hstart).rd ha

theorem State.configured_sets : (s.showSet p crc).safetyConfigure.safety.set = s.safety.set
    ∧ (s.showSet p crc).safetyConfigure.safety.stored = s.safety.stored := by
  obtain ⟨hset, hcopies⟩ := State.safetyConfigure_sets (s := s.showSet p crc)
  have hshown : (s.showSet p crc).safety = s.safety := State.showSet_moves.1.2 .safety (by decide)
  rw [hshown] at hset hcopies
  exact ⟨hset, by unfold SafetySt.stored SafetySt.newest; rw [hcopies]⟩

theorem setOk_bounds (h : setOk p = true) : p.cycle ≤ 20000 ∧ p.watchdog ≤ 500 := by
  simp only [setOk, Bool.and_eq_true, decide_eq_true_eq] at h
  omega

theorem crcBits_lt {poly : Nat} (hpoly : poly < 2 ^ 32) : ∀ (k c : Nat), c < 2 ^ 32 → crcBits poly k c < 2 ^ 32
  | 0, _, hc => hc
  | k + 1, c, hc => by
    have hhalf : c / 2 < 2 ^ 32 := Nat.lt_of_le_of_lt (Nat.div_le_self ..) hc
    refine crcBits_lt hpoly k _ ?_
    split
    · exact Nat.xor_lt_two_pow hhalf hpoly
    · exact hhalf

theorem crc32c_lt : crc32c b < 2 ^ 32 := by
  have hrun : ∀ (l : List Byte) (c : Nat), c < 2 ^ 32 → crcRun 0x82F63B78 c l < 2 ^ 32 := by
    intro l
    induction l with
    | nil => exact fun _ hc => hc
    | cons x l ih =>
      exact fun c hc => ih _ (crcBits_lt (by decide) 8 _ (Nat.xor_lt_two_pow hc (Nat.lt_trans x.isLt (by decide))))
  exact Nat.xor_lt_two_pow (hrun b _ (by decide)) (by decide)

theorem spsCommit_stored (h : s.accepts at_ w E.Saf.SPS_COMMIT.key .u32 (.num crc))
    (hb : Config.spsReading (s.safety.staging.readList 0 (s.rd E.Saf.SPS_LENGTH)) = some p) (hp : setOk p = true)
    (hc : crc32c (s.safety.staging.readList 0 (s.rd E.Saf.SPS_LENGTH)) = crc) :
    Completes (.spsCommit at_ w crc) s (fun t => t.odStatus = 0 ∧ t.rd E.Saf.SPS_RESULT = 0 ∧ t.rd E.Saf.SPS_CRC = crc
      ∧ t.safety.stored = some (p, crc) ∧ t.safety.set = some p ∧ t.rd E.Saf.SAFETY_CYCLE = p.cycle ∧ t.rd E.Saf.SAFE_WATCHDOG = p.watchdog
      ∧ t.now = s.instant at_ ∧ Keeps [.answer, .safety, .ledger, .free] s t) := by
  have hcrc : crc < 2 ^ 32 := hc ▸ crc32c_lt
  obtain ⟨hcycle, hwatchdog⟩ := setOk_bounds hp
  obtain ⟨y, heq, hsafety, hnow, hresult⟩ := State.effSpsCommit_good (s := s.advance at_) (node := w.node) hb hp hc
  obtain ⟨hset, hstored⟩ := State.configured_sets (s := y) (p := p) (crc := crc)
  have hrd (e : Ent) (hk : 0x6960 ≤ e.key / 256) (hl : e.key / 256 < 0x6970) (h15 : e.key % 256 ≠ 0x0F)
      (hs : ∀ f ∈ safeStartEnts, e.key ≠ f.key) (ha : e.arch = false) :
      ((y.showSet p crc).safetyConfigure).answered.rd e = (y.shownHead p crc).rd e :=
    (State.rd_answered _ (.inr h15)).trans (State.rd_configured hk hl hs ha)
  refine ⟨_, spsCommit_step h, ?_⟩
  rw [heq]
  refine ⟨rfl, ?_, ?_, ?_, ?_, ?_, ?_, by simp [State.instant, hnow], ?_⟩
  · rw [hrd _ (by decide) (by decide) (by decide) (by decide) rfl, State.shownHead, State.rd_wr_ne _ _ _ _ (by decide),
      State.rd_wr_ne _ _ _ _ (by decide), State.rd_wr_ne _ _ _ _ (by decide), State.rd_wr_ne _ _ _ _ (by decide),
      State.rd_wr_ne _ _ _ _ (by decide), hresult]
  · rw [hrd _ (by decide) (by decide) (by decide) (by decide) rfl, State.shownHead, State.rd_wr_self]
    exact Nat.mod_eq_of_lt hcrc
  · rw [State.safety_answered, hstored, hsafety]
    exact SafetySt.stored_keep
  · rw [State.safety_answered, hset, hsafety]
  · rw [hrd _ (by decide) (by decide) (by decide) (by decide) rfl, State.shownHead, State.rd_wr_ne _ _ _ _ (by decide),
      State.rd_wr_ne _ _ _ _ (by decide), State.rd_wr_ne _ _ _ _ (by decide), State.rd_wr_ne _ _ _ _ (by decide), State.rd_wr_self]
    exact Nat.mod_eq_of_lt (Nat.lt_of_le_of_lt hcycle (by decide))
  · rw [hrd _ (by decide) (by decide) (by decide) (by decide) rfl, State.shownHead, State.rd_wr_ne _ _ _ _ (by decide),
      State.rd_wr_ne _ _ _ _ (by decide), State.rd_wr_ne _ _ _ _ (by decide), State.rd_wr_self]
    exact Nat.mod_eq_of_lt (Nat.lt_of_le_of_lt hwatchdog (by decide))
  · rw [← heq]
    have hadvance : Keeps [.answer, .safety, .ledger, .free] s (s.advance at_) := .of_frame (Frame.refl _ [] [] s).advance
    exact (hadvance.trans (State.effSpsCommit_moves.1.mono (by decide))).answered (by simp)

end

/-- Settles O50: SPS_DATA by its staging, SPS_COMMIT by the three ways in which a set fails and the one in which it is kept. -/
theorem safetyParameterSetsAreStagedAndCommitted : Obligations.SafetyParameterSetsAreStagedAndCommitted := by
  unfold Obligations.SafetyParameterSetsAreStagedAndCommitted
  refine ⟨fun s at_ w b h => spsData_completes h, ?_, ?_, ?_⟩
  · rintro s at_ crc w h _ rfl hb
    exact spsCommit_refused h (by decide) (State.effSpsCommit_none hb)
  · rintro s at_ crc w h _ rfl p hb hp
    exact spsCommit_refused h (by split <;> decide) (State.effSpsCommit_bad hb hp)
  · rintro s at_ crc w h _ rfl p hb hp hc
    exact spsCommit_stored h hb hp hc

end Sys2Proof.Machine
end

section

/-! SUPPORT. Numbers in fields of bytes, overlaid one by one (R16). -/
namespace Sys2Proof.Machine

section
variable {bs xs : List Byte} {n w i k : Nat}

theorem leNat_append_zeros : leNat (bs ++ List.replicate n 0) = leNat bs := by
  induction bs with
  | nil => induction n with
    | zero => rfl
    | succ n ih => simp_all [List.replicate_succ, leNat]
  | cons b bs ih => rw [List.cons_append, leNat, ih, leNat]

theorem leNat_leBytes : leNat (leBytes w n) = n % 256 ^ w := by
  induction w generalizing n with
  | zero => simp [leBytes, leNat, Nat.mod_one]
  | succ w ih =>
    rw [leBytes, leNat, ih, Nat.pow_succ', Nat.mod_mul]
    simp

/-- Bytes behind the end read as zeros. -/
theorem leAt_fitTo (h : i + w ≤ n) : leAt (fitTo 0 n bs) i w = leAt bs i w := by
  have hslice : slice (fitTo 0 n bs) i w = ((bs ++ List.replicate n 0).drop i).take w := by
    rw [slice, fitTo, List.drop_take, List.take_take, Nat.min_eq_left (by omega)]
  rw [leAt, hslice, leAt, slice, List.drop_append, List.take_append, List.drop_replicate, List.take_replicate, leNat_append_zeros]

theorem leAt_overlay_self : leAt (overlay bs i xs) i xs.length = leNat xs := by
  have hlen : (fitTo 0 i bs).length = i := by simp [fitTo]
  rw [leAt, slice, overlay, List.append_assoc, List.drop_append_of_le_length (by omega), List.drop_of_length_le (by omega), List.nil_append,
    List.take_append_of_le_length (by omega), List.take_length]

theorem leAt_overlay_before (h : k + w ≤ i) : leAt (overlay bs i xs) k w = leAt bs k w := by
  have hlen : (fitTo 0 i bs).length = i := by simp [fitTo]
  have hslice : slice (overlay bs i xs) k w = slice (fitTo 0 i bs) k w := by
    rw [slice, overlay, List.append_assoc, List.drop_append_of_le_length (by omega), List.take_append_of_le_length (by rw [List.length_drop]; omega), slice]
  rw [leAt, hslice, ← leAt, leAt_fitTo h]

theorem leAt_overlay_after (h : i + xs.length ≤ k) : leAt (overlay bs i xs) k w = leAt bs k w := by
  have hlen : (fitTo 0 i bs ++ xs).length = i + xs.length := by simp [fitTo]
  rw [leAt, slice, overlay, List.drop_append, List.drop_of_length_le (by omega), List.nil_append, hlen, List.drop_drop, leAt, slice,
    Nat.add_sub_cancel' h]

end

end Sys2Proof.Machine
end

section

/-! SUPPORT. O57. The keys, the strip and service mode (R534 to R536). -/
namespace Sys2Proof.Machine

section
variable {s y : State} {at_ keys : Nat} {k : Nat}

/-! ## KEY_PRESS (R535) -/

/-- Keys in no special mode: their presses are reported. -/
structure State.KeysReport (s : State) : Prop where
  role : s.standby = false
  service : s.on E.Slate.SERVICE_MODE = false
  mode : s.rd E.Slate.SLATE_MODE ≠ 1

/-- One press, counted. -/
def State.pressCounted (s : State) (key : Nat) : State := (s.setSlate { s.slate with lastPress := s.now }).countKey key

theorem State.KeysReport.pressKey (h : s.KeysReport) : s.pressKey k = s.pressCounted k := by
  obtain ⟨hrole, hservice, hmode⟩ := h
  have hrole' : (s.setSlate { s.slate with lastPress := s.now }).standby = false := hrole
  have hservice' : (s.setSlate { s.slate with lastPress := s.now }).on E.Slate.SERVICE_MODE = false := hservice
  have hmode' : (s.setSlate { s.slate with lastPress := s.now }).rd E.Slate.SLATE_MODE ≠ 1 := hmode
  simp only [State.pressKey, hrole', hservice', hmode', Bool.false_eq_true, if_false, State.pressCounted]

/-- What counted presses write. -/
def pressEnts : List Ent := [E.Slate.KEY_PRESSES, E.Slate.KEY_LAST_TB3]

theorem Frame.pressCounted (h : Frame [.slate] pressEnts [] s y) : Frame [.slate] pressEnts [] s (y.pressCounted k) :=
  ((h.setSlate (by simp)).wrB (by simp [pressEnts])).wrT (by simp [pressEnts])

theorem State.KeysReport.of_frame (h : s.KeysReport) (hf : Frame [.slate] pressEnts [] s y) : y.KeysReport := by
  have hrd (e : Ent) (he : ∀ f ∈ pressEnts, e.key ≠ f.key) : y.rd e = s.rd e := hf.rd (by simp) he (by simp)
  exact ⟨by rw [State.standby, hrd _ (by decide)]; exact h.role, by rw [State.on, hrd _ (by decide)]; exact h.service,
    by rw [hrd _ (by decide)]; exact h.mode⟩

/-- The presses of the keys that satisfy `p`. -/
def State.pressAll (s : State) (p : Nat → Bool) : State := (List.range 4).foldl (fun s k => if p k then s.pressCounted k else s) s

theorem State.KeysReport.pressKeys (h : s.KeysReport) (p : Nat → Bool) :
    (List.range 4).foldl (fun s k => if p k then s.pressKey k else s) s = s.pressAll p := by
  suffices ∀ (l : List Nat) (y : State), y.KeysReport → l.foldl (fun s k => if p k then s.pressKey k else s) y
      = l.foldl (fun s k => if p k then s.pressCounted k else s) y from this _ s h
  intro l
  induction l with
  | nil => exact fun _ _ => rfl
  | cons k l ih =>
    intro y hy
    simp only [List.foldl_cons]
    cases p k
    · exact ih y hy
    · simp only [if_true]
      rw [hy.pressKey]
      exact ih _ (hy.of_frame (Frame.refl ..).pressCounted)

theorem Frame.pressAll {p : Nat → Bool} (h : Frame [.slate] pressEnts [] s y) : Frame [.slate] pressEnts [] s (y.pressAll p) :=
  h.foldl fun _ _ _ hx => .ite (fun _ => hx.pressCounted) fun _ => hx

/-- The count of a key. -/
def State.presses (s : State) (k : Nat) : Nat := leAt (s.rdB E.Slate.KEY_PRESSES) (4 * k) 4

theorem State.presses_pressCounted_ne {m : Nat} (hk : k < 4) (h : m ≠ k) : (s.pressCounted m).presses k = s.presses k := by
  have hbytes : (s.pressCounted m).rdB E.Slate.KEY_PRESSES = overlay (fitTo 0 16 (s.rdB E.Slate.KEY_PRESSES)) (4 * m)
      (leBytes 4 (min 0xFFFFFFFF (leAt (fitTo 0 16 (s.rdB E.Slate.KEY_PRESSES)) (4 * m) 4 + 1))) :=
    (State.rdB_put_ne _ _ _ _ (by decide)).trans (State.rdB_wrB_self ..)
  rw [State.presses, hbytes]
  rcases Nat.lt_or_gt_of_ne h with hm | hm
  · rw [leAt_overlay_after (by rw [length_leBytes]; omega), leAt_fitTo (by omega), State.presses]
  · rw [leAt_overlay_before (by omega), leAt_fitTo (by omega), State.presses]

theorem State.presses_pressCounted_self (hk : k < 4) : (s.pressCounted k).presses k = min 0xFFFFFFFF (s.presses k + 1) := by
  have hbytes : (s.pressCounted k).rdB E.Slate.KEY_PRESSES = overlay (fitTo 0 16 (s.rdB E.Slate.KEY_PRESSES)) (4 * k)
      (leBytes 4 (min 0xFFFFFFFF (leAt (fitTo 0 16 (s.rdB E.Slate.KEY_PRESSES)) (4 * k) 4 + 1))) :=
    (State.rdB_put_ne _ _ _ _ (by decide)).trans (State.rdB_wrB_self ..)
  have hself := leAt_overlay_self (bs := fitTo 0 16 (s.rdB E.Slate.KEY_PRESSES)) (i := 4 * k)
    (xs := leBytes 4 (min 0xFFFFFFFF (leAt (fitTo 0 16 (s.rdB E.Slate.KEY_PRESSES)) (4 * k) 4 + 1)))
  rw [length_leBytes, leNat_leBytes] at hself
  rw [State.presses, hbytes, hself, leAt_fitTo (by omega), ← State.presses]
  exact Nat.mod_eq_of_lt (Nat.lt_of_le_of_lt (Nat.min_le_left ..) (by norm_num))

theorem State.presses_pressAll {p : Nat → Bool} (hk : k < 4) :
    (s.pressAll p).presses k = if p k then min 0xFFFFFFFF (s.presses k + 1) else s.presses k := by
  refine foldl_of_mem (fun y => y.presses k) List.nodup_range (List.mem_range.2 hk) (fun y hy => ?_) fun y m hm => ?_
  · split
    · rw [State.presses_pressCounted_self hk, hy]
    · exact hy
  · split
    · exact State.presses_pressCounted_ne hk hm
    · rfl

theorem State.slate_pressCounted : (s.pressCounted k).slate = { s.slate with lastPress := s.now } :=
  (State.put_slate ..).trans (State.put_slate ..)

theorem State.now_pressCounted : (s.pressCounted k).now = s.now := (State.put_now ..).trans (State.put_now ..)

theorem State.now_pressAll {p : Nat → Bool} : (s.pressAll p).now = s.now :=
  foldl_now _ fun s k => by
    split
    · exact State.now_pressCounted
    · rfl

theorem State.slate_pressAll {p : Nat → Bool} : (s.pressAll p).slate.keys = s.slate.keys ∧ (s.pressAll p).slate.pend = s.slate.pend := by
  suffices ∀ (l : List Nat) (y : State), y.slate.keys = s.slate.keys ∧ y.slate.pend = s.slate.pend →
      (l.foldl (fun s k => if p k then s.pressCounted k else s) y).slate.keys = s.slate.keys
        ∧ (l.foldl (fun s k => if p k then s.pressCounted k else s) y).slate.pend = s.slate.pend from this _ s ⟨rfl, rfl⟩
  intro l
  induction l with
  | nil => exact fun _ hy => hy
  | cons k l ih =>
    refine fun y hy => ih _ ?_
    dsimp only
    split
    · rw [State.slate_pressCounted]
      exact hy
    · exact hy

/-- The debounced levels are taken, with the instants from which they hold. -/
def State.levelsTaken (s : State) (keys : Nat) : State := s.setSlate { s.slate with
  keys := keys
  bothAt := if !(bitOf keys 2 && bitOf keys 3) then none
    else if bitOf s.slate.keys 2 && bitOf s.slate.keys 3 then s.slate.bothAt else some s.now
  backAt := if !bitOf keys 3 then none else if bitOf s.slate.keys 3 then s.slate.backAt else some s.now }

theorem keyPress_completes (h : s.KeysReport) :
    Completes (.keyPress at_ keys) s (fun t => t.slate.keys = keys % 16 ∧ t.rd E.Slate.KEY_STATE = keys % 16
      ∧ (∀ k < 4, leAt (t.rdB E.Slate.KEY_PRESSES) (4 * k) 4 = if bitOf keys k && !bitOf s.slate.keys k
          then min 0xFFFFFFFF (leAt (s.rdB E.Slate.KEY_PRESSES) (4 * k) 4 + 1) else leAt (s.rdB E.Slate.KEY_PRESSES) (4 * k) 4)
      ∧ t.slate.pend = s.slate.pend ∧ t.now = s.instant at_
      ∧ Frame [.slate] [E.Slate.KEY_STATE, E.Slate.KEY_PRESSES, E.Slate.KEY_LAST_TB3] [] s t) := by
  have htaken : ((s.advance at_).levelsTaken (keys % 16)).KeysReport := ⟨h.role, h.service, h.mode⟩
  have hframe : Frame [.slate] pressEnts [] s ((s.advance at_).levelsTaken (keys % 16)) := (Frame.refl ..).advance.setSlate (by simp)
  let p := fun k => bitOf (keys % 16) k && !bitOf s.slate.keys k
  have hpressed := hframe.pressAll (p := p)
  have hreport : (((s.advance at_).levelsTaken (keys % 16)).pressAll p).KeysReport := htaken.of_frame (Frame.refl ..).pressAll
  have heq : (s.advance at_).keyPress keys = (((s.advance at_).levelsTaken (keys % 16)).pressAll p).wr E.Slate.KEY_STATE (keys % 16) := by
    have hfold := htaken.pressKeys p
    obtain ⟨hrole, hservice, -⟩ := hreport
    unfold State.keyPress
    dsimp only
    unfold State.levelsTaken at *
    rw [show (s.advance at_).slate = s.slate from rfl] at *
    rw [hfold, hrole, hservice]
    rfl
  obtain ⟨hkeys, hpend⟩ := State.slate_pressAll (s := (s.advance at_).levelsTaken (keys % 16)) (p := p)
  have hcount (k : Nat) (hk : k < 4) := State.presses_pressAll (s := (s.advance at_).levelsTaken (keys % 16)) (p := p) hk
  have hnow : (((s.advance at_).levelsTaken (keys % 16)).pressAll p).now = s.instant at_ := State.now_pressAll
  generalize ((s.advance at_).levelsTaken (keys % 16)).pressAll p = y at *
  refine ⟨_, congrArg Host.Outcome.next heq, hkeys, ?_, fun k hk => ?_, hpend, hnow, ?_⟩
  · rw [State.rd_wr_self]
    exact Nat.mod_eq_of_lt (show keys % 16 < 256 by omega)
  · have hbit : bitOf (keys % 16) k = bitOf keys k := bitOf_mod keys (w := 4) hk
    rw [State.rdB_wr_ne _ _ _ _ (by decide), ← State.presses, hcount k hk, ← hbit]
    rfl
  · exact (hpressed.mono (fun _ hp => hp) (fun e he => .tail _ he) fun _ hr => hr).wr (by simp)

/-! ## STRIP_IDLE_EXPIRY, SERVICE_MODE_ENTER and SERVICE_MODE_EXIT (R534, R536) -/

theorem stripIdle_completes (hidle : s.rd E.Slate.STRIP_IDLE ≠ 0) (hmode : s.rd E.Slate.SLATE_MODE = 0)
    (hdue : s.slate.lastPress + 1000000000 * s.rd E.Slate.STRIP_IDLE ≤ s.instant at_) :
    Completes (.stripIdleExpiry at_) s (fun t => t.rd E.Slate.SLATE_MODE = 1 ∧ t.now = s.instant at_ ∧ Frame [] [E.Slate.SLATE_MODE] [] s t) := by
  have hmet : ((s.advance at_).rd E.Slate.STRIP_IDLE != 0 && (s.advance at_).rd E.Slate.SLATE_MODE = 0
      && (s.advance at_).slate.lastPress + 1000000000 * (s.advance at_).rd E.Slate.STRIP_IDLE ≤ (s.advance at_).now) = true := by
    simpa [hmode, hidle, State.instant] using hdue
  have heq : (s.advance at_).stripIdle = (s.advance at_).wr E.Slate.SLATE_MODE 1 := by
    unfold State.stripIdle
    exact if_pos hmet
  exact ⟨_, congrArg Host.Outcome.next heq, State.rd_wr_self .., rfl, (Frame.refl ..).advance.wr (by simp)⟩

theorem serviceEnter_completes {b : Nat} (hrole : s.standby = false) (hstop : s.isStop = true) (hmode : s.on E.Slate.SERVICE_MODE = false)
    (hboth : s.slate.bothAt = some b) (hdue : b + 3000000000 ≤ s.instant at_) :
    Completes (.serviceModeEnter at_) s (fun t => t.rd E.Slate.SERVICE_MODE = 1 ∧ t.slate.chan = 0 ∧ t.slate.pend = s.slate.pend
      ∧ t.now = s.instant at_ ∧ Frame [.slate, .ledger] [E.Slate.SERVICE_MODE] [28] s t) := by
  have hmet : ((s.advance at_).isStop && !(s.advance at_).standby && !(s.advance at_).on E.Slate.SERVICE_MODE
      && b + 3000000000 ≤ (s.advance at_).now) = true := by
    rw [show (s.advance at_).isStop = true from hstop, show (s.advance at_).standby = false from hrole,
      show (s.advance at_).on E.Slate.SERVICE_MODE = false from hmode]
    simpa [State.instant] using hdue
  have heq : (s.advance at_).serviceEnter = (((s.advance at_).setSlate { s.slate with backAt := none, chan := 0, lastPress := s.instant at_ }).wr
      E.Slate.SERVICE_MODE 1).log 0x0C 0x04 (vBool true) := by
    unfold State.serviceEnter
    rw [show (s.advance at_).slate.bothAt = some b from hboth]
    exact if_pos hmet
  have hslate : ((s.advance at_).setSlate { s.slate with backAt := none, chan := 0, lastPress := s.instant at_ }).slate
      = { s.slate with backAt := none, chan := 0, lastPress := s.instant at_ } := rfl
  refine ⟨_, congrArg Host.Outcome.next heq, ?_, ?_, ?_, ?_, (((Frame.refl ..).advance.setSlate (by simp)).wr (by simp)).log (by simp) (by simp)⟩
  · rw [State.rd_log_of_ne _ _ _ (by decide), State.rd_wr_self]
    rfl
  · rw [State.log_slate, State.wr_slate, hslate]
  · rw [State.log_slate, State.wr_slate, hslate]
  · rw [State.log_now, State.wr_now]
    rfl

/-! ### The key captures that service mode leaves behind (R391, R536) -/

theorem State.ain_effTrimCapture_self {i v node : Nat} {b : Bool} (hv : v = 3) : ((s.effTrimCapture i v node b).ain i).capture = none := by
  subst hv
  exact congrArg AiSt.capture State.ain_setAin_self

theorem State.ain_effTrimCapture_ne {i j v node : Nat} {b : Bool} (hv : v = 3) (h : j ≠ i) : (s.effTrimCapture i v node b).ain j = s.ain j := by
  subst hv
  exact State.ain_setAin_ne h

theorem State.ain_effAoTrim {o i v node : Nat} {b : Bool} (hv : v = 4) : (s.effAoTrim o v node b).ain i = s.ain i := by
  subst hv
  rfl

/-- The inputs whose key captures are abandoned, one after the other. -/
def State.inputsAbandoned (s : State) : State :=
  (List.range 32).foldl (fun s i => if (s.ain i).capture.any (·.keys) then s.effTrimCapture i 3 keyNode true else s) s

theorem State.abandonKeys_eq : s.abandonKeys
    = (List.range 16).foldl (fun s o => if (s.aout o).capture.any (·.keys) then s.effAoTrim o 4 keyNode true else s) s.inputsAbandoned := rfl

theorem State.keys_inputsAbandoned {i : Nat} (hi : i < 32) : (s.inputsAbandoned.ain i).capture.any (·.keys) = false := by
  have hleft : (s.inputsAbandoned.ain i).capture = if (s.ain i).capture.any (·.keys) then none else (s.ain i).capture := by
    refine foldl_of_mem (fun y => (y.ain i).capture) List.nodup_range (List.mem_range.2 hi) (fun y hy => ?_) fun y m hm => ?_
    · rw [← hy]
      split
      · exact State.ain_effTrimCapture_self rfl
      · rfl
    · split
      · exact congrArg AiSt.capture (State.ain_effTrimCapture_ne rfl hm.symm)
      · rfl
  rw [hleft]
  split
  · rfl
  · exact Bool.eq_false_iff.2 ‹_›

theorem State.keys_abandonKeys {i : Nat} (hi : i < 32) : (s.abandonKeys.ain i).capture.any (·.keys) = false := by
  have hkept : s.abandonKeys.ain i = s.inputsAbandoned.ain i := by
    rw [State.abandonKeys_eq]
    suffices ∀ (l : List Nat) (y : State), (l.foldl (fun s o => if (s.aout o).capture.any (·.keys) then s.effAoTrim o 4 keyNode true else s) y).ain i
        = y.ain i from this _ _
    intro l
    induction l with
    | nil => exact fun _ => rfl
    | cons o l ih =>
      refine fun y => (ih _).trans ?_
      dsimp only
      split
      · exact State.ain_effAoTrim rfl
      · rfl
  rw [hkept]
  exact State.keys_inputsAbandoned hi

/-- The captures that end write entries of the field side alone. -/
theorem Leaves.abandonKeys {key : Nat} (hk : 0x300000 ≤ key) : Leaves key s s.abandonKeys := by
  refine Leaves.foldl (Leaves.foldl (Leaves.refl ..) fun y i hi => ?_) fun y o ho => ?_
  · have h32 := List.mem_range.1 hi
    refine Leaves.ite (fun _ => Leaves.wr (.refl ..) ?_) fun _ => .refl ..
    simp only [E.Ai.TRIM_STATE, entN]
    omega
  · have h16 := List.mem_range.1 ho
    refine Leaves.ite (fun _ => ?_) fun _ => .refl ..
    refine Leaves.wr (Leaves.wr (.refl ..) ?_) ?_ <;> simp only [E.Ao.AO_TRIM_STATE, E.Ao.AO_OUTPUT_STATE, entN] <;> omega

theorem State.serviceExit_none (hb : s.slate.backAt = none) : s.serviceExit
    = if false || decide (s.slate.lastPress + 300000000000 ≤ s.now) || !s.isStop then s.serviceLeave else s := by
  unfold State.serviceExit
  rw [hb]

theorem State.serviceExit_some {b : Nat} (hb : s.slate.backAt = some b) : s.serviceExit
    = if decide (b + 3000000000 ≤ s.now) || decide (s.slate.lastPress + 300000000000 ≤ s.now) || !s.isStop then s.serviceLeave else s := by
  unfold State.serviceExit
  rw [hb]

theorem State.serviceExit_of_back (hb : s.slate.backAt.any (fun b => b + 3000000000 ≤ s.now) = true) : s.serviceExit = s.serviceLeave := by
  cases h : s.slate.backAt with
  | none => simp [h] at hb
  | some b =>
    rw [h, Option.any_some] at hb
    rw [State.serviceExit_some h, hb]
    rfl

theorem ite_or_of_right {p q r : Bool} {x y : State} (h : q = true ∨ r = true) : (if p || q || r then x else y) = x := by
  rcases h with rfl | rfl <;> simp

theorem State.serviceExit_of_quiet (hb : s.slate.lastPress + 300000000000 ≤ s.now ∨ s.isStop = false) : s.serviceExit = s.serviceLeave := by
  have hor : decide (s.slate.lastPress + 300000000000 ≤ s.now) = true ∨ (!s.isStop) = true :=
    hb.imp decide_eq_true fun h => by rw [h]; rfl
  cases h : s.slate.backAt with
  | none => exact (State.serviceExit_none h).trans (ite_or_of_right hor)
  | some b => exact (State.serviceExit_some h).trans (ite_or_of_right hor)

theorem serviceExit_completes (hmode : s.on E.Slate.SERVICE_MODE = true)
    (hdue : s.slate.backAt.any (fun b => b + 3000000000 ≤ s.instant at_) = true ∨ s.slate.lastPress + 300000000000 ≤ s.instant at_
      ∨ s.isStop = false) :
    Completes (.serviceModeExit at_) s (fun t => t.rd E.Slate.SERVICE_MODE = 0
      ∧ (∀ i < 32, ∀ c, (t.ain i).capture = some c → c.keys = false)
      ∧ t.now = s.instant at_ ∧ Keeps [.field, .ledger, .blocks, .free, .twin] s t) := by
  have heq : (s.advance at_).serviceExit = ((((s.advance at_).wr E.Slate.SERVICE_MODE 0).log 0x0C 0x04 (vBool false))).abandonKeys := by
    have hon : (s.advance at_).on E.Slate.SERVICE_MODE = true := hmode
    have hleave : (s.advance at_).serviceLeave = (((s.advance at_).wr E.Slate.SERVICE_MODE 0).log 0x0C 0x04 (vBool false)).abandonKeys := by
      unfold State.serviceLeave
      rw [hon]
      rfl
    rw [← hleave]
    rcases hdue with hback | hquiet
    · exact State.serviceExit_of_back hback
    · exact State.serviceExit_of_quiet hquiet
  have hmoves : Keeps [.field, .ledger, .blocks, .free, .twin] s (s.advance at_).serviceExit :=
    (Keeps.of_frame (Frame.refl _ [] [] s).advance).trans (State.serviceExit_moves.1.mono (by decide))
  have hnow : (s.advance at_).serviceExit.now = s.instant at_ := by
    rw [heq, State.abandonKeys_now, State.log_now, State.wr_now]
    rfl
  refine ⟨_, rfl, ?_, fun i hi c hc => ?_, hnow, hmoves⟩
  · rw [heq, (Leaves.abandonKeys (by decide)).rd, State.rd_log_of_ne _ _ _ (by decide), State.rd_wr_self]
    rfl
  · rw [heq] at hc
    have hkeys := State.keys_abandonKeys (s := ((s.advance at_).wr E.Slate.SERVICE_MODE 0).log 0x0C 0x04 (vBool false)) hi
    rw [hc] at hkeys
    exact hkeys

end

end Sys2Proof.Machine
end

section

/-! SUPPORT. O57. The panel's rails, sequences and settings (R519, R524, R526, R527). -/
namespace Sys2Proof.Machine

/-- A step of rails, or one that ends a sequence. -/
def PanelStep.plain : PanelStep → Bool
  | .rails _ _ => true
  | .done _ => true
  | .restore => false
  | .white _ => false

section
variable {s y : State} {at_ rail v : Nat} {x : SlateSt} {p : PanelStep} {l : List (Nat × PanelStep)}

/-! ## SLATE_RAIL_FAULT (R527) -/

/-- A faulted panel: no update runs and none of its marks and retained pixels differ from `x`. -/
structure PanelFaulted (x : SlateSt) (y : State) : Prop where
  state : y.rd E.Slate.PANEL_STATE = 4
  running : y.slate.running = []
  up : y.slate.upWanted = false
  down : y.slate.downWanted = false
  retained : y.slate.retained = x.retained
  dirty : y.slate.dirty = x.dirty

/-- What a rail fault writes. -/
def faultEnts : List Ent := [E.Slate.PANEL_STATE, E.Slate.LAST_DONE_ID, E.Slate.LAST_RESULT, E.Slate.UPDATES_RUNNING, E.Slate.UPDATES_PENDING,
  E.Slate.VCOM_NOW]

/-- A step of rails changes the rails, and at most VCOM_NOW. -/
theorem State.panelStep_rails (on off : List Nat) : ∃ z : State,
    z = s.setSlate { s.slate with rails := off.foldl (fun r k => setBit r k false) (on.foldl (fun r k => setBit r k true) s.slate.rails) }
      ∧ (s.panelStep (.rails on off) = z ∨ ∃ n, s.panelStep (.rails on off) = z.wr E.Slate.VCOM_NOW n) := by
  refine ⟨_, rfl, ?_⟩
  unfold State.panelStep
  dsimp only
  split
  · exact .inl rfl
  split
  · exact .inr ⟨_, rfl⟩
  split
  · exact .inl rfl
  · exact .inr ⟨_, rfl⟩

theorem PanelFaulted.setSlate {z : SlateSt} (h : PanelFaulted x y) (hr : z.running = y.slate.running) (hu : z.upWanted = y.slate.upWanted)
    (hd : z.downWanted = y.slate.downWanted) (hk : z.retained = y.slate.retained) (hm : z.dirty = y.slate.dirty) : PanelFaulted x (y.setSlate z) :=
  ⟨h.state, hr.trans h.running, hu.trans h.up, hd.trans h.down, hk.trans h.retained, hm.trans h.dirty⟩

theorem PanelFaulted.wr {e : Ent} {n : Nat} (h : PanelFaulted x y) (he : E.Slate.PANEL_STATE.key ≠ e.key) : PanelFaulted x (y.wr e n) :=
  ⟨(State.rd_wr_ne _ _ _ _ he).trans h.state, h.running, h.up, h.down, h.retained, h.dirty⟩

theorem PanelFaulted.panelStep (h : PanelFaulted x y) (hp : p.plain = true) : PanelFaulted x (y.panelStep p) := by
  cases p with
  | rails on off =>
    obtain ⟨z, hz, hstep⟩ := State.panelStep_rails (s := y) on off
    have hfault : PanelFaulted x z := hz ▸ h.setSlate rfl rfl rfl rfl rfl
    rcases hstep with heq | ⟨n, heq⟩ <;> rw [heq]
    · exact hfault
    · exact hfault.wr (by decide)
  | done n =>
    have heq : y.panelStep (.done n) = y := if_pos h.state
    rw [heq]
    exact h
  | restore => cases hp
  | white whole => cases hp

theorem PanelFaulted.takeStep (h : PanelFaulted x y) (hp : p.plain = true) : PanelFaulted x (y.takeStep p) :=
  (h.panelStep hp).setSlate rfl rfl rfl rfl rfl

theorem PanelFaulted.setSeq (h : PanelFaulted x y) : PanelFaulted x (y.setSeq l) := h.setSlate rfl rfl rfl rfl rfl

theorem PanelFaulted.takeSteps (h : PanelFaulted x y) (hl : ∀ q ∈ l, q.2.plain = true) : PanelFaulted x (State.takeSteps l y) := by
  induction l generalizing y with
  | nil => exact h.setSeq
  | cons q rest ih =>
    have hstep := h.takeStep (hl q (.head _))
    cases rest with
    | nil => exact hstep.setSeq
    | cons r rest =>
      unfold State.takeSteps
      dsimp only
      split
      · exact ih hstep fun a ha => hl a (.tail _ ha)
      · exact hstep.setSeq

theorem PanelFaulted.startSeq (h : PanelFaulted x y) (hl : ∀ q ∈ l, q.2.plain = true) : PanelFaulted x (y.startSeq l) := by
  have hseq : PanelFaulted x (y.setSlate { y.slate with seq := l, seqAt := y.now }) := h.setSlate rfl rfl rfl rfl rfl
  cases l with
  | nil => exact hseq
  | cons q rest =>
    unfold State.startSeq
    dsimp only
    split
    · exact hseq.takeSteps hl
    · exact hseq

/-- A panel that nothing wants up takes at most the type written. -/
theorem State.afterSeq_of_not_wanted (h : s.slate.upWanted = false) :
    s.afterSeq = s ∨ s.afterSeq = s.setSlate { s.slate with type := s.rd E.Slate.PANEL_TYPE } := by
  unfold State.afterSeq
  dsimp only
  split
  · exact .inl rfl
  · refine .inr (if_neg ?_)
    rw [show (s.setSlate { s.slate with type := s.rd E.Slate.PANEL_TYPE }).slate.upWanted = s.slate.upWanted from rfl, h]
    exact Bool.false_ne_true

theorem PanelFaulted.afterSeq (h : PanelFaulted x y) : PanelFaulted x y.afterSeq := by
  rcases State.afterSeq_of_not_wanted h.up with heq | heq <;> rw [heq]
  · exact h
  · exact h.setSlate rfl rfl rfl rfl rfl

/-- The power-fail sequence switches rails and ends. -/
theorem State.failSteps_plain : ∀ q ∈ s.failSteps, q.2.plain = true := by
  have hdown (t w : Nat) : ∀ q ∈ railsDown t w, q.2.plain = true := by
    unfold railsDown
    split <;> simp [PanelStep.plain]
  intro q hq
  simp only [State.failSteps] at hq
  rcases List.mem_append.1 hq with h | h
  · split at h
    · simp_all [PanelStep.plain]
    · cases h
  · split at h
    · exact hdown _ _ q h
    · split at h <;> (simp only [List.mem_cons, List.not_mem_nil, or_false] at h; rcases h with rfl | rfl <;> rfl)

theorem State.cutRunning_slate : s.cutRunning.slate = { s.slate with running := [] } := by
  have hfold : ∀ (us : List RunUpd) (y : State), (us.foldl (fun s u => s.updEnd u.id 2) y).slate = y.slate := by
    intro us
    induction us with
    | nil => exact fun _ => rfl
    | cons u us ih => exact fun y => (ih _).trans (State.updEnd_moves.1.2 .slate (by decide))
  exact (State.showSlate_moves.1.2 .slate (by decide)).trans (hfold _ _)

theorem State.cutRunning_now : s.cutRunning.now = s.now :=
  foldl_now (s := s.setSlate { s.slate with running := [] }) _ fun _ _ => State.updEnd_now ..

/-- The panel as a rail fault leaves it before its power-fail sequence. -/
def State.panelCut (s : State) (rail v : Nat) : State :=
  ((((s.log 0x0C 0x03 (vU8 rail ++ vF32 v)).setPanel 4).setSlate
    { ((s.log 0x0C 0x03 (vU8 rail ++ vF32 v)).setPanel 4).slate with downWanted := false, upWanted := false })).cutRunning

theorem State.panelCut_faulted : PanelFaulted s.slate (s.panelCut rail v) := by
  have hstate : (((s.log 0x0C 0x03 (vU8 rail ++ vF32 v)).setPanel 4)).rd E.Slate.PANEL_STATE = 4 := by
    unfold State.setPanel
    split
    · assumption
    · rw [State.rd_log_of_ne _ _ _ (by decide), State.rd_wr_self]
      rfl
  have hslate : ((s.log 0x0C 0x03 (vU8 rail ++ vF32 v)).setPanel 4).slate = s.slate :=
    (State.setPanel_moves.1.2 .slate (by decide)).trans (State.log_slate ..)
  unfold State.panelCut
  generalize (s.log 0x0C 0x03 (vU8 rail ++ vF32 v)).setPanel 4 = z at *
  have hcut := State.cutRunning_slate (s := z.setSlate { z.slate with downWanted := false, upWanted := false })
  have hkept : (z.setSlate { z.slate with downWanted := false, upWanted := false }).cutRunning.rd E.Slate.PANEL_STATE = z.rd E.Slate.PANEL_STATE :=
    (Frame.cutRunning (Frame.refl [.slate] endedEnts [] _) (by simp) (by simp)).rd (by simp) (by decide) (by simp)
  refine ⟨hkept.trans hstate, ?_, ?_, ?_, ?_, ?_⟩ <;> rw [hcut]
  · rfl
  · rfl
  · exact hslate ▸ rfl
  · exact hslate ▸ rfl

theorem Frame.afterSeq_of_not_wanted {ps : List Part} {es : List Ent} {rs : List Nat} (h : Frame ps es rs s y) (hu : y.slate.upWanted = false)
    (hp : Part.slate ∈ ps) : Frame ps es rs s y.afterSeq := by
  rcases State.afterSeq_of_not_wanted hu with heq | heq <;> rw [heq]
  · exact h
  · exact h.setSlate hp

theorem slateRailFault_completes (h0 : s.rd E.Slate.PANEL_STATE ≠ 0) (h4 : s.rd E.Slate.PANEL_STATE ≠ 4) (ht : s.slate.type ≠ 0) :
    Completes (.slateRailFault at_ rail v) s (fun t => t.rd E.Slate.PANEL_STATE = 4 ∧ t.slate.running = [] ∧ t.slate.upWanted = false
      ∧ t.slate.downWanted = false ∧ t.slate.retained = s.slate.retained ∧ t.slate.dirty = s.slate.dirty
      ∧ t.now = s.instant at_ ∧ Frame [.slate, .ledger] [E.Slate.PANEL_STATE, E.Slate.LAST_DONE_ID, E.Slate.LAST_RESULT,
          E.Slate.UPDATES_RUNNING, E.Slate.UPDATES_PENDING, E.Slate.VCOM_NOW] [28] s t) := by
  have heq : (s.advance at_).panelRailFault rail v = (((s.advance at_).panelCut rail v).startSeq (s.advance at_).failSteps).afterSeq := by
    unfold State.panelRailFault
    refine if_neg ?_
    simp only [Bool.or_eq_true, decide_eq_true_eq, not_or]
    exact ⟨⟨h0, h4⟩, ht⟩
  have hcut : PanelFaulted s.slate ((s.advance at_).panelCut rail v) := State.panelCut_faulted (s := s.advance at_)
  have hstart := hcut.startSeq (State.failSteps_plain (s := s.advance at_))
  have hents : ∀ q ∈ (s.advance at_).failSteps, ∀ e ∈ stepEnts q.2, e ∈ faultEnts := by
    intro q hq
    have hplain := State.failSteps_plain q hq
    cases hs : q.2 <;> simp_all [PanelStep.plain, stepEnts, faultEnts]
  have hended : ∀ e ∈ endedEnts, e ∈ faultEnts := by simp [endedEnts, faultEnts]
  have hframe : Frame [.slate, .ledger] faultEnts [28] s ((s.advance at_).panelCut rail v) :=
    (((((Frame.refl ..).advance.log (by simp) (by simp)).setPanel (by simp) (by simp [faultEnts]) (by simp)).setSlate (by simp)).cutRunning
      (by simp) hended)
  have hnow : (((s.advance at_).panelCut rail v).startSeq (s.advance at_).failSteps).afterSeq.now = s.instant at_ := by
    rw [State.afterSeq_now, State.startSeq_now, State.panelCut, State.cutRunning_now, State.setSlate_now, State.setPanel_now, State.log_now]
    rfl
  have hall := (hframe.startSeq (by simp) (by simp) hents (by simp)).afterSeq_of_not_wanted hstart.up (by simp)
  obtain ⟨hstate, hrun, hup, hdown, hkept, hdirty⟩ := hstart.afterSeq
  generalize (((s.advance at_).panelCut rail v).startSeq (s.advance at_).failSteps).afterSeq = z at *
  exact ⟨_, congrArg Host.Outcome.next heq, hstate, hrun, hup, hdown, hkept, hdirty, hnow, hall⟩

/-! ## PANEL_SEQUENCE_STEP (R526, R549) -/

/-- A step of a sequence wants the panel neither up nor down. -/
theorem State.panelStep_up : (s.panelStep p).slate.upWanted = s.slate.upWanted := by
  cases p with
  | rails on off =>
    obtain ⟨z, hz, hstep⟩ := State.panelStep_rails (s := s) on off
    have hup : z.slate.upWanted = s.slate.upWanted := hz ▸ rfl
    rcases hstep with heq | ⟨n, heq⟩ <;> rw [heq]
    · exact hup
    · exact hup
  | restore => rfl
  | white whole =>
    have hwhite : (s.whiteReset whole).slate.upWanted = s.slate.upWanted := by
      unfold State.whiteReset
      extract_lets x n keep z
      have hz : z.slate.upWanted = s.slate.upWanted := rfl
      split
      · exact hz
      · rw [State.log_slate, State.wr_slate, hz]
    exact hwhite
  | done n =>
    unfold State.panelStep
    split
    · rfl
    · rw [State.setPanel_moves.1.2 .slate (by decide)]

theorem bitOf_foldl_setBit {b : Bool} {k : Nat} : ∀ (l : List Nat) (n : Nat), bitOf (l.foldl (fun r k => setBit r k b) n) k
    = if l.contains k then b else bitOf n k
  | [], _ => rfl
  | j :: l, n => by
    rw [List.foldl_cons, bitOf_foldl_setBit l]
    by_cases hj : k = j
    · subst hj
      simp
    · simp [hj, bitOf_setBit_ne _ _ hj]

theorem State.rails_panelStep (on off : List Nat) (k : Nat) : bitOf (s.panelStep (.rails on off)).slate.rails k
    = (!off.contains k && (on.contains k || bitOf s.slate.rails k)) := by
  obtain ⟨z, hz, hstep⟩ := State.panelStep_rails (s := s) on off
  have hrails : (s.panelStep (.rails on off)).slate.rails = z.slate.rails := by
    rcases hstep with heq | ⟨n, heq⟩ <;> rw [heq]
    rfl
  rw [hrails, hz, State.setSlate, bitOf_foldl_setBit, bitOf_foldl_setBit]
  cases off.contains k <;> cases on.contains k <;> simp

/-- A step whose next one has a delay is taken alone. -/
theorem State.takeSteps_one {q : Nat × PanelStep} {rest : List (Nat × PanelStep)} (hrest : ∀ r, rest.head? = some r → r.1 ≠ 0) :
    State.takeSteps (q :: rest) s = (s.takeStep q.2).setSeq rest := by
  cases rest with
  | nil => rfl
  | cons r rest =>
    unfold State.takeSteps
    exact if_neg (hrest r rfl)

theorem State.returnReset_of_present (h : s.power.failAt = none ∨ s.power.supBack = false) : s.returnReset = s := by
  unfold State.returnReset
  rcases h with h | h
  · rw [h]
  · split
    · rfl
    · rw [h]
      rfl

/-- One step is taken; what is left of the sequence waits. -/
theorem State.sequenceStep_eq {q : Nat × PanelStep} {rest : List (Nat × PanelStep)} (hseq : s.slate.seq = q :: rest)
    (hdue : s.slate.seqAt + q.1 ≤ s.now) (hrest : ∀ r, rest.head? = some r → r.1 ≠ 0) (hlast : rest = [] → s.slate.upWanted = false) :
    s.sequenceStep = (s.takeStep q.2).setSeq rest
      ∨ s.sequenceStep = ((s.takeStep q.2).setSeq rest).setSlate { ((s.takeStep q.2).setSeq rest).slate with
          type := ((s.takeStep q.2).setSeq rest).rd E.Slate.PANEL_TYPE } := by
  have heq : s.sequenceStep = ((s.takeStep q.2).setSeq rest).afterSeq := by
    unfold State.sequenceStep
    rw [hseq]
    dsimp only
    rw [if_neg (Nat.not_lt.2 hdue), State.takeSteps_one hrest]
  rw [heq]
  cases rest with
  | nil => exact State.afterSeq_of_not_wanted (State.panelStep_up.trans (hlast rfl))
  | cons r rest =>
    unfold State.afterSeq
    exact .inl (if_pos rfl)

theorem panelSequenceStep_completes {q : Nat × PanelStep} {rest : List (Nat × PanelStep)} (hseq : s.slate.seq = q :: rest)
    (hdue : s.slate.seqAt + q.1 ≤ s.instant at_) (hrest : ∀ r, rest.head? = some r → r.1 ≠ 0) (hlast : rest = [] → s.slate.upWanted = false)
    (hsup : s.power.failAt = none ∨ s.power.supBack = false) :
    Completes (.panelSequenceStep at_) s (fun t => t.slate.seq = rest ∧ t.slate.seqAt = s.instant at_
      ∧ (∀ on off, q.2 = .rails on off → ∀ k < 8, bitOf t.slate.rails k = (!off.contains k && (on.contains k || bitOf s.slate.rails k)))
      ∧ t.now = s.instant at_ ∧ Frame [.slate, .ledger] [E.Slate.PANEL_STATE, E.Slate.VCOM_NOW, E.Slate.DIRTY_REGIONS] [28] s t) := by
  have hstep := State.sequenceStep_eq (s := s.advance at_) hseq hdue hrest hlast
  have hframe : Frame [.slate, .ledger] seqEnts [28] s (((s.advance at_).takeStep q.2).setSeq rest) :=
    (((Frame.refl ..).advance.takeStep (by simp) (by simp) (fun e he => mem_seqEnts he) (by simp))).setSlate (by simp)
  have hnow : (((s.advance at_).takeStep q.2).setSeq rest).now = s.instant at_ := State.takeStep_now ..
  have hrails (on off : List Nat) (hq : q.2 = .rails on off) (k : Nat) : bitOf (((s.advance at_).takeStep q.2).setSeq rest).slate.rails k
      = (!off.contains k && (on.contains k || bitOf s.slate.rails k)) := by
    rw [hq]
    exact State.rails_panelStep (s := s.advance at_) on off k
  have htaken : (((s.advance at_).takeStep q.2).setSeq rest).slate.seq = rest
      ∧ (((s.advance at_).takeStep q.2).setSeq rest).slate.seqAt = s.instant at_ := ⟨rfl, rfl⟩
  obtain ⟨hleft, hat⟩ := htaken
  generalize ((s.advance at_).takeStep q.2).setSeq rest = y at *
  have hreturn (z : State) (hz : z.power = y.power) : z.returnReset = z :=
    State.returnReset_of_present (by rw [hz, hframe.2.1 .power (by simp)]; exact hsup)
  rcases hstep with h | h
  · exact ⟨y, congrArg Host.Outcome.next ((congrArg State.returnReset h).trans (hreturn y rfl)), hleft, hat,
      fun on off hq k _ => hrails on off hq k, hnow, hframe⟩
  · exact ⟨_, congrArg Host.Outcome.next ((congrArg State.returnReset h).trans (hreturn _ rfl)), hleft, hat,
      fun on off hq k _ => hrails on off hq k, hnow, hframe.setSlate (by simp)⟩

end

end Sys2Proof.Machine
end

section

/-! SUPPORT. A setting that is kept, and then has its effect (R49, R53). -/
namespace Sys2Proof.Machine

section
variable {s x : State} {at_ : Nat} {w : Writer} {ty : Ty} {v : Value} {e : Ent}

/-- An accepted write of a RETAINED entry is stored, has its effect and is answered; it has passed the check of its owner. -/
theorem State.writeStep_kept (h : s.accepts at_ w e.key ty v) (hrow : ∃ r : Row, tableRow e.key = some (r, e) ∧ r.ret = .retained)
    (hi : (e.key / 256 < 0x1B00 ∨ 0x5300 ≤ e.key / 256) ∧ e.key / 256 < 0x8000) (hs : e.key % 256 ≠ 0 ∧ e.key % 256 ≠ 0x1F)
    (hself : selfStored e.key = false) (hreach : (s.advance at_).reached e.key v = s.advance at_) :
    (s.advance at_).writeStep w e.key ty v = ((((s.advance at_).putR e v).effOwner w e.key v).mirrored e.key).answered
      ∧ (s.advance at_).chkOwner w e.key v = 0 := by
  obtain ⟨r, hrow, hret⟩ := hrow
  have he := State.entryAt_of_tableRow (State.bare_of_servicesUp h.1) (by omega) hi.2 hs.1 hrow
  have habort (t : State) : abortOf (s.advance at_) t e.key v = none := by
    have hno : (decide (0x5200 ≤ e.key / 256) && decide (e.key / 256 < 0x5300)) = false := by simp; omega
    simp [abortOf, hno, hs.2]
  refine ⟨?_, State.chkOwner_of_accepts h he⟩
  rw [State.writeStep_of_accepts h habort, State.commitWrite, hreach, State.storeValue_retained he hi.2 hself hret]
  rfl

/-- What the store and the answer of a kept setting leave alone, around its effect. -/
theorem Frame.kept {ps : List Part} {es : List Ent} {rs : List Nat} (h : Frame ps es rs ((s.advance at_).putR e v) x) :
    Frame (ps ++ retainParts) (e :: es ++ retainEnts) (rs ++ [28, 31]) s (x.mirrored e.key).answered := by
  have hput : Frame (ps ++ retainParts) (e :: es ++ retainEnts) (rs ++ [28, 31]) s ((s.advance at_).putR e v) :=
    (Frame.refl ..).advance.putR (by simp) (by simp [retainParts]) (by simp [retainEnts])
  refine (hput.trans (h.mono (fun p hp => by simp [hp]) (fun f hf => by simp [hf]) fun r hr => by simp [hr])).trans ?_
  exact (State.mirroredAnswered_frame x e.key).mono (fun p hp => List.mem_append_right _ (by simp [retainParts] at hp ⊢; tauto))
    (fun f hf => List.mem_append_right _ hf) fun r hr => List.mem_append_right _ hr

end

end Sys2Proof.Machine
end

section

/-! SUPPORT. O57. PANEL_ENABLE, PANEL_TYPE and WAVEFORM_SET (R519, R524, R526). -/
namespace Sys2Proof.Machine

section
variable {s y : State} {at_ n : Nat} {w : Writer} {b : List Byte} {v : Value}

theorem State.rd_mirroredAnswered {e : Ent} {key : Nat} (he : ∀ f ∈ retainEnts, e.key ≠ f.key) (h28 : e.key / 256 ≠ 0x1B1C ∧ e.key / 256 ≠ 0x1B1F) :
    (y.mirrored key).answered.rd e = y.rd e := by
  refine (State.mirroredAnswered_frame y key).rd (by simp) he ?_
  simp only [List.forall_mem_cons, List.not_mem_nil, false_implies, implies_true, and_true]
  exact h28

theorem State.slate_mirroredAnswered {key : Nat} : (y.mirrored key).answered.slate = y.slate :=
  (State.mirroredAnswered_frame y key).2.1 .slate (by simp)

/-! ## PANEL_ENABLE (R526, R527) -/

/-- Power-up switches rails at once and goes on after a delay. -/
theorem State.upSteps_shape : ∃ on q rest, s.upSteps = (0, .rails on []) :: q :: rest ∧ q.1 ≠ 0 := by
  unfold State.upSteps
  dsimp only
  split <;> split
  · exact ⟨_, _, _, rfl, by simp [ms]⟩
  · exact ⟨_, _, _, rfl, by simp [ms]⟩
  · exact ⟨_, _, _, rfl, by simp [ms]⟩
  · exact ⟨_, _, _, rfl, by simp [ms]⟩

/-- A sequence that starts with rails leaves PANEL_STATE and the panel type, and has steps to come. -/
theorem State.startSeq_rails {on : List Nat} {q : Nat × PanelStep} {rest : List (Nat × PanelStep)} (hq : q.1 ≠ 0) :
    (s.startSeq ((0, .rails on []) :: q :: rest)).rd E.Slate.PANEL_STATE = s.rd E.Slate.PANEL_STATE
      ∧ (s.startSeq ((0, .rails on []) :: q :: rest)).slate.type = s.slate.type
      ∧ (s.startSeq ((0, .rails on []) :: q :: rest)).slate.seq = q :: rest := by
  have heq : s.startSeq ((0, .rails on []) :: q :: rest)
      = ((s.setSlate { s.slate with seq := (0, .rails on []) :: q :: rest, seqAt := s.now }).takeStep (.rails on [])).setSeq (q :: rest) := by
    unfold State.startSeq
    exact (if_pos rfl).trans (State.takeSteps_one fun r hr => Option.some.inj hr ▸ hq)
  rw [heq]
  obtain ⟨z, hz, hstep⟩ := State.panelStep_rails (s := s.setSlate { s.slate with seq := (0, .rails on []) :: q :: rest, seqAt := s.now }) on []
  have hstate : z.rd E.Slate.PANEL_STATE = s.rd E.Slate.PANEL_STATE := hz ▸ rfl
  have htype : z.slate.type = s.slate.type := hz ▸ rfl
  refine ⟨?_, ?_, rfl⟩ <;> unfold State.takeStep <;> dsimp only
  · rcases hstep with h | ⟨n, h⟩ <;> rw [h]
    · exact hstate
    · exact (State.rd_wr_ne _ _ _ _ (by decide)).trans hstate
  · rcases hstep with h | ⟨n, h⟩ <;> rw [h]
    · exact htype
    · exact htype

theorem State.setPanel_slate : (s.setPanel n).slate = s.slate := State.setPanel_moves.1.2 .slate (by decide)

theorem State.rd_setPanel_self (hn : n < 256) : (s.setPanel n).rd E.Slate.PANEL_STATE = n := by
  unfold State.setPanel
  split
  · assumption
  · rw [State.rd_log_of_ne _ _ _ (by decide), State.rd_wr_self]
    exact Nat.mod_eq_of_lt hn

theorem State.panelUp_starts (ht : s.slate.type ≠ 0) : s.panelUp.rd E.Slate.PANEL_STATE = 1 ∧ s.panelUp.slate.type = s.slate.type
    ∧ s.panelUp.slate.seq ≠ [] := by
  have heq : s.panelUp = ((s.setPanel 1).setSlate { s.slate with downWanted := false, upWanted := false }).startSeq
      ((s.setPanel 1).setSlate { s.slate with downWanted := false, upWanted := false }).upSteps := if_neg ht
  have hstate := State.rd_setPanel_self (s := s) (n := 1) (by decide)
  rw [heq]
  generalize hz : (s.setPanel 1).setSlate { s.slate with downWanted := false, upWanted := false } = z
  obtain ⟨on, q, rest, hsteps, hq⟩ := State.upSteps_shape (s := z)
  rw [hsteps]
  obtain ⟨hs, htype, hseq⟩ := State.startSeq_rails (s := z) (on := on) (rest := rest) hq
  refine ⟨hs.trans (hz ▸ hstate), htype.trans (hz ▸ rfl), by simp [hseq]⟩

/-- PANEL_ENABLE true of a panel that is OFF starts its power-up. -/
theorem State.effPanelEnable_up (h0 : s.rd E.Slate.PANEL_STATE = 0) (hseq : s.slate.seq = []) (ht : s.rd E.Slate.PANEL_TYPE ≠ 0) :
    (s.effPanelEnable 1).rd E.Slate.PANEL_STATE = 1 ∧ (s.effPanelEnable 1).slate.type = s.rd E.Slate.PANEL_TYPE
      ∧ (s.effPanelEnable 1).slate.seq ≠ [] ∧ Frame [.slate, .ledger] seqEnts [28] s (s.effPanelEnable 1) := by
  have heq : s.effPanelEnable 1 = (s.setSlate { s.slate with type := s.rd E.Slate.PANEL_TYPE }).panelUp := by
    unfold State.effPanelEnable
    exact (if_pos rfl).trans ((if_neg (by simp [hseq])).trans (if_pos (by simp [h0])))
  obtain ⟨hon, hkind, hleft⟩ := State.panelUp_starts (s := s.setSlate { s.slate with type := s.rd E.Slate.PANEL_TYPE }) ht
  rw [heq]
  exact ⟨hon, hkind, hleft, ((Frame.refl ..).setSlate (by simp)).panelUp (by simp) (by simp) (by simp) (by simp)⟩

/-- PANEL_ENABLE false of a panel that is ON waits for the running updates. -/
theorem State.effPanelEnable_waits (h2 : s.rd E.Slate.PANEL_STATE = 2) (hr : s.slate.running ≠ []) :
    s.effPanelEnable 0 = s.setSlate { s.slate with upWanted := false, downWanted := true } := by
  unfold State.effPanelEnable
  refine (if_neg (by simp)).trans ((if_pos (by simp [h2])).trans ?_)
  unfold State.panelDown
  exact if_pos (by simp [State.setSlate, hr])

theorem panelEnable_step (h : s.accepts at_ w E.Slate.PANEL_ENABLE.key .bool (.num n)) :
    (s.advance at_).writeStep w E.Slate.PANEL_ENABLE.key .bool (.num n)
      = ((((s.advance at_).putR E.Slate.PANEL_ENABLE (.num n)).effPanelEnable n).mirrored E.Slate.PANEL_ENABLE.key).answered := by
  have heff (y : State) : y.effOwner w E.Slate.PANEL_ENABLE.key (.num n) = y.effPanelEnable n := rfl
  obtain ⟨hstep, -⟩ := State.writeStep_kept h ⟨_, rfl, rfl⟩ (by decide) (by decide) rfl rfl
  rw [hstep, heff]

/-- Before its effect a stored setting of the panel has changed no other entry that the panel reads. -/
theorem State.rd_advanceR {e f : Ent} (he : e.key ≠ f.key) (hw : e.key ≠ E.Restore.RETAINED_WRITES.key) (ha : e.arch = false := by rfl) :
    ((s.advance at_).putR f v).rd e = s.rd e := by
  have hput : Frame [.blocks] [f, E.Restore.RETAINED_WRITES] [] (s.advance at_) ((s.advance at_).putR f v) :=
    (Frame.refl ..).putR (by simp) (by simp) (by simp)
  exact ((Leaves.of_frame hput (by simpa using ⟨he, hw⟩) (by simp)).rd ha).trans (State.rd_advance ..)

/-- A stored setting reads as it was written. -/
theorem State.rd_stored {f : Ent} (hf : f.key ≠ E.Restore.RETAINED_WRITES.key) : ((s.advance at_).putR f (.num n)).rd f = n := by
  rw [State.rd, State.get_putR_self hf, valNat]

theorem State.slate_advanceR {f : Ent} : ((s.advance at_).putR f v).slate = s.slate := State.putR_slate ..

theorem panelEnableUp_completes (h : s.accepts at_ w E.Slate.PANEL_ENABLE.key .bool (.num 1)) (h0 : s.rd E.Slate.PANEL_STATE = 0)
    (hseq : s.slate.seq = []) (ht : s.rd E.Slate.PANEL_TYPE ≠ 0) :
    Completes (.panelEnableWrite at_ w true) s (fun t => t.odStatus = 0 ∧ t.rd E.Slate.PANEL_ENABLE = 1 ∧ t.rd E.Slate.PANEL_STATE = 1
      ∧ t.slate.type = s.rd E.Slate.PANEL_TYPE ∧ t.slate.seq ≠ [] ∧ t.now = s.instant at_
      ∧ Frame (.slate :: retainParts) ([E.Slate.PANEL_ENABLE, E.Slate.PANEL_STATE, E.Slate.VCOM_NOW, E.Slate.DIRTY_REGIONS] ++ retainEnts)
        [28, 31] s t) := by
  have hslate : ((s.advance at_).putR E.Slate.PANEL_ENABLE (.num 1)).slate = s.slate := State.slate_advanceR
  have hstate : ((s.advance at_).putR E.Slate.PANEL_ENABLE (.num 1)).rd E.Slate.PANEL_STATE = 0 := (State.rd_advanceR (by decide) (by decide)).trans h0
  have htype : ((s.advance at_).putR E.Slate.PANEL_ENABLE (.num 1)).rd E.Slate.PANEL_TYPE = s.rd E.Slate.PANEL_TYPE :=
    State.rd_advanceR (by decide) (by decide)
  have hset : ((s.advance at_).putR E.Slate.PANEL_ENABLE (.num 1)).rd E.Slate.PANEL_ENABLE = 1 := State.rd_stored (by decide)
  have hnow : ((s.advance at_).putR E.Slate.PANEL_ENABLE (.num 1)).now = s.instant at_ := State.putR_now ..
  obtain ⟨hon, hkind, hleft, hup⟩ := State.effPanelEnable_up hstate (hslate ▸ hseq) (by rw [htype]; exact ht)
  have hkept := Frame.kept (s := s) (at_ := at_) (v := .num 1) (e := E.Slate.PANEL_ENABLE) hup
  have hread := hup.rd (e := E.Slate.PANEL_ENABLE) (by simp) (by decide) (by decide)
  have hupnow := State.effPanelEnable_now (s := (s.advance at_).putR E.Slate.PANEL_ENABLE (.num 1)) 1
  have hexec : exec (.panelEnableWrite at_ w true) s = .next
      ((((s.advance at_).putR E.Slate.PANEL_ENABLE (.num 1)).effPanelEnable 1).mirrored E.Slate.PANEL_ENABLE.key).answered :=
    congrArg Host.Outcome.next (panelEnable_step h)
  generalize ((s.advance at_).putR E.Slate.PANEL_ENABLE (.num 1)).effPanelEnable 1 = y at *
  refine ⟨_, hexec, rfl, ?_, ?_, ?_, ?_, ?_, ?_⟩
  · rw [State.rd_mirroredAnswered (by decide) (by decide), hread, hset]
  · rw [State.rd_mirroredAnswered (by decide) (by decide), hon]
  · rw [State.slate_mirroredAnswered, hkind, htype]
  · rw [State.slate_mirroredAnswered]
    exact hleft
  · rw [State.answered_now, State.mirrored_now, hupnow, hnow]
  · exact hkept.mono (by simp [retainParts]) (by simp [seqEnts]) (by simp)

theorem panelEnableDown_completes (h : s.accepts at_ w E.Slate.PANEL_ENABLE.key .bool (.num 0)) (h2 : s.rd E.Slate.PANEL_STATE = 2)
    (hrun : s.slate.running ≠ []) :
    Completes (.panelEnableWrite at_ w false) s (fun t => t.odStatus = 0 ∧ t.rd E.Slate.PANEL_ENABLE = 0 ∧ t.rd E.Slate.PANEL_STATE = 2
      ∧ t.slate = { s.slate with upWanted := false, downWanted := true } ∧ t.now = s.instant at_
      ∧ Frame (.slate :: retainParts) (E.Slate.PANEL_ENABLE :: retainEnts) [28, 31] s t) := by
  have hslate : ((s.advance at_).putR E.Slate.PANEL_ENABLE (.num 0)).slate = s.slate := State.slate_advanceR
  have hstate : ((s.advance at_).putR E.Slate.PANEL_ENABLE (.num 0)).rd E.Slate.PANEL_STATE = 2 := (State.rd_advanceR (by decide) (by decide)).trans h2
  have hset : ((s.advance at_).putR E.Slate.PANEL_ENABLE (.num 0)).rd E.Slate.PANEL_ENABLE = 0 := State.rd_stored (by decide)
  have hnow : ((s.advance at_).putR E.Slate.PANEL_ENABLE (.num 0)).now = s.instant at_ := State.putR_now ..
  have heq := State.effPanelEnable_waits hstate (hslate.symm ▸ hrun)
  have hstep := panelEnable_step h
  have hkept := Frame.kept (s := s) (at_ := at_) (v := .num 0) (e := E.Slate.PANEL_ENABLE)
    (Frame.setSlate (v := { ((s.advance at_).putR E.Slate.PANEL_ENABLE (.num 0)).slate with upWanted := false, downWanted := true })
      (Frame.refl [.slate] [] [] ((s.advance at_).putR E.Slate.PANEL_ENABLE (.num 0))) (by simp))
  rw [heq] at hstep
  have hexec : exec (.panelEnableWrite at_ w false) s = .next _ := congrArg Host.Outcome.next hstep
  refine ⟨_, hexec, rfl, ?_, ?_, ?_, ?_, ?_⟩
  · exact (State.rd_mirroredAnswered (by decide) (by decide)).trans hset
  · exact (State.rd_mirroredAnswered (by decide) (by decide)).trans hstate
  · rw [State.slate_mirroredAnswered, hslate]
    rfl
  · rw [State.answered_now, State.mirrored_now]
    exact hnow
  · exact hkept.mono (by simp [retainParts]) (by simp) (by simp)

/-! ## PANEL_TYPE and WAVEFORM_SET (R519, R524) -/

theorem State.afterSeq_off (h0 : s.rd E.Slate.PANEL_STATE = 0) (hseq : s.slate.seq = []) (hoff : s.on E.Slate.PANEL_ENABLE = false) :
    s.afterSeq = s.setSlate { s.slate with type := s.rd E.Slate.PANEL_TYPE } := by
  unfold State.afterSeq
  refine (if_neg (by simp [h0, hseq])).trans (if_neg fun hw => ?_)
  exact absurd (((Bool.and_eq_true _ _).mp hw).2.symm.trans hoff) (by decide)

/-- The type written of a panel that is OFF and not enabled is in force at once. -/
theorem State.effPanelType_off (h0 : s.rd E.Slate.PANEL_STATE = 0) (hseq : s.slate.seq = []) (hoff : s.on E.Slate.PANEL_ENABLE = false) :
    ∃ v : SlateSt, s.effPanelType = s.setSlate v ∧ v.type = s.rd E.Slate.PANEL_TYPE ∧ v.pend = s.slate.pend := by
  unfold State.effPanelType
  dsimp only
  split
  next htype => exact ⟨s.slate, rfl, htype.symm, rfl⟩
  rw [if_neg (by simp [h0])]
  exact ⟨_, State.afterSeq_off (s := s.setSlate { s.slate with upWanted := true }) h0 hseq hoff, rfl, rfl⟩

theorem panelType_completes (h : s.accepts at_ w E.Slate.PANEL_TYPE.key .u8 (.num n)) (h0 : s.rd E.Slate.PANEL_STATE = 0)
    (hseq : s.slate.seq = []) (hoff : s.on E.Slate.PANEL_ENABLE = false) :
    Completes (.panelTypeWrite at_ w n) s (fun t => t.odStatus = 0 ∧ t.rd E.Slate.PANEL_TYPE = n ∧ t.slate.type = n
      ∧ t.slate.pend = s.slate.pend ∧ t.now = s.instant at_
      ∧ Frame (.slate :: retainParts) (E.Slate.PANEL_TYPE :: retainEnts) [28, 31] s t) := by
  obtain ⟨hstep, -⟩ := State.writeStep_kept h ⟨_, rfl, rfl⟩ (by decide) (by decide) rfl rfl
  have hstored : ((s.advance at_).putR E.Slate.PANEL_TYPE (.num n)).rd E.Slate.PANEL_TYPE = n := State.rd_stored (by decide)
  have hstate : ((s.advance at_).putR E.Slate.PANEL_TYPE (.num n)).rd E.Slate.PANEL_STATE = 0 :=
    (State.rd_advanceR (by decide) (by decide)).trans h0
  have henable : ((s.advance at_).putR E.Slate.PANEL_TYPE (.num n)).on E.Slate.PANEL_ENABLE = false := by
    rw [State.on, State.rd_advanceR (by decide) (by decide)]
    exact hoff
  have hslate : ((s.advance at_).putR E.Slate.PANEL_TYPE (.num n)).slate = s.slate := State.putR_slate ..
  have hnow : ((s.advance at_).putR E.Slate.PANEL_TYPE (.num n)).now = s.instant at_ := State.putR_now ..
  obtain ⟨v, heq, htype, hpend⟩ := State.effPanelType_off hstate (hslate ▸ hseq) henable
  have heff (y : State) : y.effOwner w E.Slate.PANEL_TYPE.key (.num n) = y.effPanelType := rfl
  have hkept := Frame.kept (s := s) (at_ := at_) (v := .num n) (e := E.Slate.PANEL_TYPE)
    (Frame.setSlate (v := v) (Frame.refl [.slate] [] [] ((s.advance at_).putR E.Slate.PANEL_TYPE (.num n))) (by simp))
  rw [heff, heq] at hstep
  refine ⟨_, congrArg Host.Outcome.next hstep, rfl, ?_, ?_, ?_, ?_, ?_⟩
  · exact (State.rd_mirroredAnswered (by decide) (by decide)).trans hstored
  · rw [State.slate_mirroredAnswered]
    exact htype.trans hstored
  · rw [State.slate_mirroredAnswered]
    exact hpend.trans (congrArg SlateSt.pend hslate)
  · rw [State.answered_now, State.mirrored_now]
    exact hnow
  · exact hkept.mono (by simp [retainParts]) (by simp) (by simp)

theorem waveformSet_completes (h : s.accepts at_ w E.Slate.WAVEFORM_SET.key .octets (.bytes b)) :
    Completes (.waveformSetWrite at_ w b) s (fun t => t.odStatus = 0 ∧ t.rdB E.Slate.WAVEFORM_SET = b ∧ waveformOk b = true
      ∧ t.now = s.instant at_ ∧ Frame retainParts (E.Slate.WAVEFORM_SET :: retainEnts) [28, 31] s t) := by
  obtain ⟨hstep, hcheck⟩ := State.writeStep_kept h ⟨_, rfl, rfl⟩ (by decide) (by decide) rfl rfl
  have heff (y : State) : y.effOwner w E.Slate.WAVEFORM_SET.key (.bytes b) = y := rfl
  have hwave : chkPanelTable 0x08 b = 0 := hcheck
  have hnow : ((s.advance at_).putR E.Slate.WAVEFORM_SET (.bytes b)).now = s.instant at_ := State.putR_now ..
  have hkept := Frame.kept (s := s) (at_ := at_) (v := .bytes b) (e := E.Slate.WAVEFORM_SET)
    (Frame.refl [] [] [] ((s.advance at_).putR E.Slate.WAVEFORM_SET (.bytes b)))
  rw [heff] at hstep
  refine ⟨_, congrArg Host.Outcome.next hstep, rfl, ?_, ?_, ?_, ?_⟩
  · have hget := (State.mirroredAnswered_frame ((s.advance at_).putR E.Slate.WAVEFORM_SET (.bytes b)) E.Slate.WAVEFORM_SET.key).get
      (e := E.Slate.WAVEFORM_SET) (by simp) (by decide) (by decide)
    rw [State.rdB, hget, State.get_putR_self (by decide), valBytes]
  · by_contra hn
    simp [chkPanelTable, need, hn, stRange] at hwave
  · rw [State.answered_now, State.mirrored_now]
    exact hnow
  · exact hkept.mono (by simp) (by simp) (by simp)

end

/-- Settles O57: rail faults and sequences by their steps, the settings by their effects, the keys by their counts. -/
theorem panelPowerKeysAndModes : Obligations.PanelPowerKeysAndModes := by
  unfold Obligations.PanelPowerKeysAndModes
  refine ⟨fun s at_ rail v => slateRailFault_completes, fun s at_ p rest => panelSequenceStep_completes, fun s at_ w => panelEnableUp_completes,
    fun s at_ w => panelEnableDown_completes, fun s at_ n w => panelType_completes, fun s at_ w b => waveformSet_completes, ?_,
    fun s at_ => stripIdle_completes, fun s at_ keys hrole hservice hmode => keyPress_completes ⟨hrole, hservice, hmode⟩,
    fun s at_ hrole hstop hmode b => serviceEnter_completes hrole hstop hmode, fun s at_ => serviceExit_completes⟩
  intro s at_ n w h
  obtain ⟨t, hstep, hstores⟩ := (plainSetting_volatile E.Slate.SLATE_MODE (by simp)).storesVolatile h
  exact ⟨t, congrArg Host.Outcome.next hstep, hstores⟩

end Sys2Proof.Machine
end

section

/-! SUPPORT. Safe inputs and safe brake outputs: what their diagnostics write (R439 to R450). -/
namespace Sys2Proof.Machine

section
variable {ps : List Part} {es : List Ent} {rs : List Nat} {s x : State} {i n : Nat} {b : Bool}

/-! ## Safe inputs -/

/-- What an input shows of itself. -/
def siEnts (i : Nat) : List Ent := [E.Si.SI_CONTACTS i, E.Si.SI_DIAG i, E.Si.SI_FAULTS i]

theorem Frame.showSi (h : Frame ps es rs s x) (he : ∀ e ∈ siEnts i, e ∈ es) : Frame ps es rs s (x.showSi i) :=
  ((h.wr (he _ (by simp [siEnts]))).wr (he _ (by simp [siEnts]))).addTo (he _ (by simp [siEnts]))

theorem State.showSi_safety : (s.showSi i).safety = s.safety := State.showSi_moves.1.2 .safety (by decide)

theorem State.showSi_field : (s.showSi i).field = s.field := State.showSi_moves.1.2 .field (by decide)

/-- An input shows itself under three sub-indices alone. -/
theorem State.rd_showSi {e : Ent} (hs : e.key % 256 ≠ 7 ∧ e.key % 256 ≠ 8 ∧ e.key % 256 ≠ 10) (ha : e.arch = false := by rfl) :
    (s.showSi i).rd e = s.rd e := by
  obtain ⟨h7, h8, h10⟩ := hs
  refine Leaves.rd (.of_frame (ps := []) (es := siEnts i) (rs := []) ((Frame.refl ..).showSi (by simp)) ?_ (by simp)) ha
  simp only [siEnts, List.forall_mem_cons, List.not_mem_nil, false_implies, implies_true, and_true]
  refine ⟨?_, ?_, ?_⟩ <;> simp only [E.Si.SI_CONTACTS, E.Si.SI_DIAG, E.Si.SI_FAULTS, entN] <;> omega

/-- What every input shows of itself. -/
def sisEnts : List Ent := (List.range 16).flatMap (fun i => [E.Si.SI_CONTACTS i, E.Si.SI_DIAG i, E.Si.SI_FAULTS i])

theorem mem_sisEnts (hi : i < 16) : ∀ e ∈ siEnts i, e ∈ sisEnts := fun _ he => List.mem_flatMap.2 ⟨i, List.mem_range.2 hi, he⟩

theorem State.sec_setSec_self {y : Bool} {z : Section} : (s.setSec y z).sec y = z := by cases y <;> simp [State.sec, State.setSec]

theorem State.sec_setSec_other {y : Bool} {z : Section} : (s.setSec y z).sec (!y) = s.sec (!y) := by
  cases y <;> simp [State.sec, State.setSec]

theorem State.sec_congr {y : Bool} (h : x.safety = s.safety) : x.sec y = s.sec y := by
  unfold State.sec
  rw [h]

theorem State.sec_fieldDiag {y : Bool} {a c d e : Nat} : (s.fieldDiag a c d e).sec y = s.sec y := State.sec_congr rfl

theorem State.showSi_now : (s.showSi i).now = s.now := by simp [State.showSi]

theorem State.sb_congr (h : x.safety = s.safety) : x.sb n = s.sb n := by
  unfold State.sb
  rw [h]

@[simp] theorem State.sb_setSb_self {z : SbSt} : (s.setSb n z).sb n = z := by simp [State.sb, State.setSb]

/-! ## Safe brake outputs -/

/-- What an output that does not switch on shows of itself. -/
def sbEnts (n : Nat) : List Ent := [E.Sb.SB_DIAG n, E.Sb.SB_STATE n, E.Sb.SB_FAULTS n]

theorem Frame.showSbDiag (h : Frame ps es rs s x) (he : E.Sb.SB_DIAG n ∈ es) : Frame ps es rs s (x.showSbDiag n) := h.wr he

/-- Both sections hold the element of output `n` open. -/
def State.Opened (s : State) (n : Nat) : Prop := bitOf s.safety.x.closed n = false ∧ bitOf s.safety.y.closed n = false

theorem Frame.showSb_of_opened (h : Frame ps es rs s x) (ho : x.Opened n) (he : E.Sb.SB_STATE n ∈ es) : Frame ps es rs s (x.showSb n) := by
  obtain ⟨st, heq, -⟩ := State.showSb_of_open (.inl ho.1)
  rw [heq]
  exact h.wr he

/-- An output with open elements shows itself: the safety part stands, and of its entries SB_STATE changes alone, to no ENERGISED. -/
theorem State.showSb_of_opened (ho : s.Opened n) : (s.showSb n).safety = s.safety ∧ (s.showSb n).now = s.now
    ∧ (s.showSb n).rd (E.Sb.SB_STATE n) ≠ 1 ∧ ∀ e : Ent, e.key ≠ (E.Sb.SB_STATE n).key → (s.showSb n).rd e = s.rd e := by
  obtain ⟨st, heq, hst⟩ := State.showSb_of_open (.inl ho.1)
  rw [heq]
  refine ⟨rfl, rfl, ?_, fun e he => State.rd_wr_ne _ _ _ _ he⟩
  rw [State.rd_wr_self]
  exact hst

/-! ### A fault of an output (R447) -/

/-- A bit of an output is set, in the part of the section that set it. -/
def SbSt.withBit (z : SbSt) (bit : Nat) (y : Bool) : SbSt :=
  if y then { z with diagY := setBit z.diagY bit true } else { z with diagX := setBit z.diagX bit true }

/-- A condition that is new has its record, a fault that is new its count. -/
def State.sbReported (s : State) (n bit : Nat) (y : Bool) : State :=
  let r := if bitOf (if y then (s.sb n).diagY else (s.sb n).diagX) bit then s else s.fieldDiag 0x0A n (0x78 + bit) (1 + 2 * ofBool y)
  if (s.sb n).fault then r else r.inc (E.Sb.SB_FAULTS n)

/-- The output in FAULT, its elements open. -/
def State.sbOpened (s : State) (n : Nat) (z : SbSt) : State :=
  let s := s.setSb n { z with fault := true, acked := false, passHs := false, passLs := false }
  (s.setSec false { s.sec false with closed := setBit (s.sec false).closed n false }).setSec true
    { s.sec true with closed := setBit (s.sec true).closed n false }

theorem State.sbFault_eq {bit : Nat} {y : Bool} :
    s.sbFault n bit y = (((s.sbReported n bit y).sbOpened n ((s.sb n).withBit bit y)).showSbDiag n).showSb n := by
  cases y <;> rfl

/-- An output in FAULT with a bit of a section: its elements open, the fault counted where it is new. -/
structure SbFaulted (n bit : Nat) (y : Bool) (s t : State) : Prop where
  fault : (t.sb n).fault = true
  test : (t.sb n).testAt = (s.sb n).testAt
  diag : bitOf (if y then (t.sb n).diagY else (t.sb n).diagX) bit = true
  opened : t.Opened n
  state : t.rd (E.Sb.SB_STATE n) ≠ 1
  count : t.rd (E.Sb.SB_FAULTS n) = if (s.sb n).fault then s.rd (E.Sb.SB_FAULTS n) else min (2 ^ 32 - 1) (s.rd (E.Sb.SB_FAULTS n) + 1)
  last : t.rd (E.Sb.SB_LAST_TEST_TB3 n) = s.rd (E.Sb.SB_LAST_TEST_TB3 n)
  now : t.now = s.now
  frame : Frame [.field, .safety] (sbEnts n) [] s t

/-- The entries of an output differ. -/
theorem sbKeys (n : Nat) : (E.Sb.SB_FAULTS n).key ≠ (E.Sb.SB_DIAG n).key ∧ (E.Sb.SB_FAULTS n).key ≠ (E.Sb.SB_STATE n).key
    ∧ (∀ e ∈ sbEnts n, (E.Sb.SB_LAST_TEST_TB3 n).key ≠ e.key) := by
  simp only [sbEnts, List.forall_mem_cons, List.not_mem_nil, false_implies, implies_true, and_true, E.Sb.SB_FAULTS, E.Sb.SB_DIAG, E.Sb.SB_STATE,
    E.Sb.SB_LAST_TEST_TB3, entN]
  omega

theorem State.sbReported_keeps {bit : Nat} {y : Bool} : (s.sbReported n bit y).safety = s.safety ∧ (s.sbReported n bit y).now = s.now
    ∧ (s.sbReported n bit y).rd (E.Sb.SB_FAULTS n)
      = (if (s.sb n).fault then s.rd (E.Sb.SB_FAULTS n) else min (2 ^ 32 - 1) (s.rd (E.Sb.SB_FAULTS n) + 1))
    ∧ Frame [.field, .safety] (sbEnts n) [] s (s.sbReported n bit y) := by
  unfold State.sbReported
  extract_lets r
  have hr : Frame [.field, .safety] (sbEnts n) [] s r := .ite (fun _ => .refl ..) fun _ => (Frame.refl ..).fieldDiag (by simp)
  have hkept : r.safety = s.safety ∧ r.now = s.now ∧ ∀ e, r.rd e = s.rd e := by
    by_cases hbit : bitOf (if y then (s.sb n).diagY else (s.sb n).diagX) bit = true
    · simp [r, hbit]
    · have hr : r = s.fieldDiag 0x0A n (0x78 + bit) (1 + 2 * ofBool y) := if_neg hbit
      rw [hr]
      exact ⟨rfl, rfl, fun _ => State.rd_fieldDiag ..⟩
  obtain ⟨hsafety, hnow, hrd⟩ := hkept
  split
  · exact ⟨hsafety, hnow, hrd _, hr⟩
  · refine ⟨hsafety, hnow, ?_, hr.inc (by simp [sbEnts])⟩
    rw [State.rd_inc_self, hrd]
    rfl

theorem State.sbOpened_leaves {z : SbSt} : (s.sbOpened n z).Opened n
    ∧ (s.sbOpened n z).sb n = { z with fault := true, acked := false, passHs := false, passLs := false } := by
  refine ⟨⟨?_, ?_⟩, ?_⟩
  · simp [State.sbOpened, State.setSec]
  · simp [State.sbOpened, State.setSec]
  · simp [State.sbOpened, State.setSec, State.setSb, State.sb]

theorem Frame.sbOpened {z : SbSt} (h : Frame ps es rs s x) (hp : Part.safety ∈ ps) : Frame ps es rs s (x.sbOpened n z) :=
  ((h.setSb hp).setSec hp).setSec hp

theorem State.rd_sbOpened {z : SbSt} {e : Ent} : (s.sbOpened n z).rd e = s.rd e :=
  ((Frame.refl [.safety] [] [] s).sbOpened (by simp)).rd (by simp) (by simp) (by simp)

theorem State.now_setSec {y : Bool} {z : Section} : (s.setSec y z).now = s.now := rfl

theorem State.sbOpened_now {z : SbSt} : (s.sbOpened n z).now = s.now := by
  rw [State.sbOpened, State.now_setSec, State.now_setSec, State.setSb_now]

theorem State.sbFault_leaves {bit : Nat} {y : Bool} : SbFaulted n bit y s (s.sbFault n bit y) := by
  obtain ⟨hfault, hdiag⟩ : (((s.sb n).withBit bit y).testAt = (s.sb n).testAt)
      ∧ bitOf (if y then ((s.sb n).withBit bit y).diagY else ((s.sb n).withBit bit y).diagX) bit = true := by
    cases y <;> exact ⟨rfl, bitOf_setBit_self ..⟩
  obtain ⟨-, hnow, hcount, hreported⟩ := State.sbReported_keeps (s := s) (n := n) (bit := bit) (y := y)
  obtain ⟨hopened, hsb⟩ := State.sbOpened_leaves (s := s.sbReported n bit y) (n := n) (z := (s.sb n).withBit bit y)
  have hframe := hreported.sbOpened (n := n) (z := (s.sb n).withBit bit y) (by simp)
  have hrd := State.rd_sbOpened (s := s.sbReported n bit y) (n := n) (z := (s.sb n).withBit bit y) (e := E.Sb.SB_FAULTS n)
  have hopennow := State.sbOpened_now (s := s.sbReported n bit y) (n := n) (z := (s.sb n).withBit bit y)
  rw [State.sbFault_eq]
  generalize (s.sb n).withBit bit y = w at *
  generalize s.sbReported n bit y = r at *
  generalize r.sbOpened n w = z at *
  have hz : (z.showSbDiag n).Opened n := hopened
  obtain ⟨hsafety, hshownow, hstate, hshown⟩ := State.showSb_of_opened hz
  obtain ⟨hfd, hfs, hlast⟩ := sbKeys n
  have hall : Frame [.field, .safety] (sbEnts n) [] s ((z.showSbDiag n).showSb n) :=
    (hframe.showSbDiag (by simp [sbEnts])).showSb_of_opened hz (by simp [sbEnts])
  have hsb' : ((z.showSbDiag n).showSb n).sb n = z.sb n := State.sb_congr hsafety
  have hopen : ((z.showSbDiag n).showSb n).Opened n := by
    unfold State.Opened
    rw [hsafety]
    exact hz
  refine ⟨by rw [hsb', hsb], by rw [hsb', hsb]; exact hfault, by rw [hsb', hsb]; exact hdiag, hopen, hstate, ?_, ?_, ?_, hall⟩
  · rw [hshown _ hfs, State.showSbDiag, State.rd_wr_ne _ _ _ _ hfd, hrd, hcount]
  · exact (Leaves.of_frame hall hlast (by simp)).rd
  · rw [hshownow]
    exact hopennow.trans hnow

/-! ### Pulse tests (R446, R447) -/

theorem State.opened_congr (h : x.safety = s.safety) : x.Opened n ↔ s.Opened n := by
  unfold State.Opened
  rw [h]

/-- The records of the bits that clear. -/
def State.sbCleared (s : State) (n m : Nat) (y : Bool) : State :=
  (List.range 8).foldl (fun s b => if bitOf m b then s.fieldDiag 0x0A n (0x78 + b) (2 * ofBool y) else s) s

theorem Frame.sbCleared {m : Nat} {y : Bool} (h : Frame ps es rs s x) (hp : Part.field ∈ ps) : Frame ps es rs s (x.sbCleared n m y) :=
  h.foldl fun _ _ _ hz => .ite (fun _ => hz.fieldDiag hp) fun _ => hz

theorem State.sbCleared_keeps {m : Nat} {y : Bool} : (s.sbCleared n m y).safety = s.safety ∧ (s.sbCleared n m y).now = s.now :=
  ⟨((Frame.refl [.field] [] [] s).sbCleared (by simp)).2.1 .safety (by simp), foldl_now _ fun s b => by split <;> rfl⟩

theorem State.sbClear_cases : s.sbClear n = s ∨ s.sbClear n = ((((s.sbCleared n (s.sb n).diagX false).sbCleared n (s.sb n).diagY true).setSb n
    { s.sb n with fault := false, acked := false, passHs := false, passLs := false, diagX := 0, diagY := 0 }).showSbDiag n).showSb n := by
  unfold State.sbClear
  dsimp only
  split
  · exact .inr rfl
  · exact .inl rfl

/-- An open output that leaves FAULT keeps its test. -/
theorem State.sbClear_leaves (ho : s.Opened n) : ((s.sbClear n).sb n).testAt = (s.sb n).testAt ∧ (s.sbClear n).now = s.now
    ∧ Frame [.field, .safety] (sbEnts n) [] s (s.sbClear n) := by
  rcases State.sbClear_cases (s := s) (n := n) with heq | heq <;> rw [heq]
  · exact ⟨rfl, rfl, .refl ..⟩
  have hframe : Frame [.field, .safety] (sbEnts n) [] s ((s.sbCleared n (s.sb n).diagX false).sbCleared n (s.sb n).diagY true) :=
    ((Frame.refl ..).sbCleared (by simp)).sbCleared (by simp)
  obtain ⟨hsafety, hnow⟩ := State.sbCleared_keeps (s := s) (n := n) (m := (s.sb n).diagX) (y := false)
  obtain ⟨hsafety', hnow'⟩ := State.sbCleared_keeps (s := s.sbCleared n (s.sb n).diagX false) (n := n) (m := (s.sb n).diagY) (y := true)
  have hz : ((s.sbCleared n (s.sb n).diagX false).sbCleared n (s.sb n).diagY true).Opened n :=
    (State.opened_congr (hsafety'.trans hsafety)).2 ho
  rw [hnow] at hnow'
  generalize (s.sbCleared n (s.sb n).diagX false).sbCleared n (s.sb n).diagY true = z at *
  have hset : ((z.setSb n { s.sb n with fault := false, acked := false, passHs := false, passLs := false, diagX := 0, diagY := 0 }).showSbDiag
      n).Opened n := hz
  obtain ⟨hkept, hshownow, -, -⟩ := State.showSb_of_opened hset
  refine ⟨?_, hshownow.trans hnow', ?_⟩
  · rw [State.sb_congr hkept, State.showSbDiag, State.sb_congr (State.wr_safety ..), State.sb_setSb_self]
  · exact ((hframe.setSb (by simp)).showSbDiag (by simp [sbEnts])).showSb_of_opened hset (by simp [sbEnts])

end

end Sys2Proof.Machine
end

section

/-! SUPPORT. O49. The five events of the safe inputs and of the safe brake outputs (R439, R443, R446, R447). -/
namespace Sys2Proof.Machine

section
variable {s : State} {at_ n kind i src : Nat} {y pass b : Bool}

/-! ## SB_PULSE_TEST and SB_FAULT (R446, R447) -/

/-- What an outcome of a pulse test leaves of its output. -/
structure SbTested (n : Nat) (pass : Bool) (s t : State) : Prop where
  test : (t.sb n).testAt = some s.now
  passed : pass = true → t.rd (E.Sb.SB_LAST_TEST_TB3 n) = time96ns s.now
  failed : pass = false → (t.sb n).fault = true ∧ bitOf t.safety.x.closed n = false ∧ bitOf t.safety.y.closed n = false
  now : t.now = s.now
  frame : Frame [.field, .safety] [E.Sb.SB_LAST_TEST_TB3 n, E.Sb.SB_DIAG n, E.Sb.SB_STATE n, E.Sb.SB_FAULTS n] [] s t

theorem State.rd_wrT_self {e : Ent} {t : Int} (he : e.ty = .time96) : (s.wrT e t).rd e = time96ns t := by
  rw [State.wrT, State.rd_wr_self, he]
  exact Nat.mod_eq_of_lt (time96ns_lt _)

/-- The instant of the test of an output is marked. -/
def State.sbMarked (s : State) (n : Nat) : State := s.setSb n { s.sb n with testAt := some s.now }

theorem State.sb_wrT {e : Ent} {t : Int} : (s.wrT e t).sb n = s.sb n := State.sb_congr (State.wr_safety ..)

theorem State.sbMarked_opened : (s.sbMarked n).Opened n ↔ s.Opened n := by simp [State.Opened, State.sbMarked, State.setSb]

/-- A failed pulse puts the output into FAULT. -/
theorem SbFaulted.tested {x t : State} {bit : Nat} (h : SbFaulted n bit y x t) (hx : (x.sb n).testAt = some s.now) (hnow : x.now = s.now)
    (hf : Frame [.field, .safety] [E.Sb.SB_LAST_TEST_TB3 n, E.Sb.SB_DIAG n, E.Sb.SB_STATE n, E.Sb.SB_FAULTS n] [] s x) : SbTested n false s t where
  test := h.test.trans hx
  passed := fun hp => absurd hp (by decide)
  failed := fun _ => ⟨h.fault, h.opened⟩
  now := h.now.trans hnow
  frame := hf.trans (h.frame.mono (fun _ hp => hp) (fun e he => .tail _ he) fun _ hr => hr)

/-- A pulse of an output that is not too early has its outcome. -/
theorem State.sbPulse_energised (hn : n < 8) (he : s.field.enable = true) (hx : bitOf s.safety.x.closed n = true)
    (hy : bitOf s.safety.y.closed n = true) (ht : (s.sb n).testAt = none) : s.sbPulse n y pass
      = if pass then (s.sbMarked n).wrT (E.Sb.SB_LAST_TEST_TB3 n) s.now else (s.sbMarked n).sbFault n (if y then 1 else 0) y := by
  unfold State.sbPulse
  extract_lets x cx cy early z
  have hearly : early = false := by
    simp only [early, x, ht]
  clear_value early
  refine (if_neg (by simp [hearly, he]; omega)).trans ((if_pos (by simp [cx, cy, hx, hy])).trans ?_)
  rfl

theorem State.sbPulse_released (hn : n < 8) (he : s.field.enable = true) (hx : bitOf s.safety.x.closed n = false)
    (hy : bitOf s.safety.y.closed n = false) (ht : (s.sb n).testAt = none) : ∃ z : SbSt, z.testAt = some s.now ∧ s.sbPulse n y pass
      = if pass then (((s.sbMarked n).setSb n z).wrT (E.Sb.SB_LAST_TEST_TB3 n) s.now).sbClear n
        else (s.sbMarked n).sbFault n (if y then 3 else 2) y := by
  have hmark : ((s.sbMarked n).sb n).testAt = some s.now := by rw [State.sbMarked, State.sb_setSb_self]
  refine ⟨if y then { (s.sbMarked n).sb n with passLs := ((s.sbMarked n).sb n).passLs || (((s.sbMarked n).sb n).fault && ((s.sbMarked n).sb n).acked) }
    else { (s.sbMarked n).sb n with passHs := ((s.sbMarked n).sb n).passHs || (((s.sbMarked n).sb n).fault && ((s.sbMarked n).sb n).acked) }, ?_, ?_⟩
  · split <;> exact hmark
  · unfold State.sbPulse
    extract_lets x cx cy early z w fresh r
    have hearly : early = false := by
      simp only [early, x, ht]
    clear_value early
    refine (if_neg (by simp [hearly, he]; omega)).trans ((if_neg (by simp [cx, hx])).trans ((if_pos (by simp [cx, cy, hx, hy])).trans ?_))
    rfl

/-- What the marked output shares with the one before. -/
theorem State.sbMarked_leaves : ((s.sbMarked n).sb n).testAt = some s.now ∧ (s.sbMarked n).now = s.now
    ∧ Frame [.field, .safety] [E.Sb.SB_LAST_TEST_TB3 n, E.Sb.SB_DIAG n, E.Sb.SB_STATE n, E.Sb.SB_FAULTS n] [] s (s.sbMarked n) :=
  ⟨by rw [State.sbMarked, State.sb_setSb_self], State.setSb_now .., (Frame.refl ..).setSb (by simp)⟩

theorem SbTested.stamped (x : State) (hx : (x.sb n).testAt = some s.now) (hnow : x.now = s.now)
    (hf : Frame [.field, .safety] [E.Sb.SB_LAST_TEST_TB3 n, E.Sb.SB_DIAG n, E.Sb.SB_STATE n, E.Sb.SB_FAULTS n] [] s x) :
    SbTested n true s (x.wrT (E.Sb.SB_LAST_TEST_TB3 n) s.now) where
  test := by rw [State.sb_wrT, hx]
  passed := fun _ => State.rd_wrT_self rfl
  failed := fun h => absurd h (by decide)
  now := (State.wr_now ..).trans hnow
  frame := hf.wrT (by simp)

/-- An open output that has passed may leave FAULT. -/
theorem SbTested.sbClear {x : State} (h : SbTested n true s x) (ho : x.Opened n) : SbTested n true s (x.sbClear n) := by
  obtain ⟨htest, hclear, hcleared⟩ := State.sbClear_leaves ho
  exact ⟨htest.trans h.test, fun hp => ((Leaves.of_frame hcleared (sbKeys n).2.2 (by simp)).rd).trans (h.passed hp),
    fun h => absurd h (by decide), hclear.trans h.now, h.frame.trans (hcleared.mono (fun _ hp => hp) (fun e he => .tail _ he) fun _ hr => hr)⟩

theorem State.sbPulse_tested (hn : n < 8) (he : s.field.enable = true) (hc : bitOf s.safety.x.closed n = bitOf s.safety.y.closed n)
    (ht : (s.sb n).testAt = none) : SbTested n pass s (s.sbPulse n y pass) := by
  obtain ⟨hmark, hnow, hmarked⟩ := State.sbMarked_leaves (s := s) (n := n)
  cases hx : bitOf s.safety.x.closed n with
  | true =>
    rw [State.sbPulse_energised hn he hx (hc ▸ hx) ht]
    cases pass with
    | false =>
      rw [if_neg Bool.false_ne_true]
      exact State.sbFault_leaves.tested hmark hnow hmarked
    | true =>
      rw [if_pos rfl]
      exact .stamped _ hmark hnow hmarked
  | false =>
    have hopen : (s.sbMarked n).Opened n := State.sbMarked_opened.2 ⟨hx, hc ▸ hx⟩
    obtain ⟨z, hz, heq⟩ := State.sbPulse_released (y := y) (pass := pass) hn he hx (hc ▸ hx) ht
    rw [heq]
    generalize s.sbMarked n = x at *
    cases pass with
    | false =>
      rw [if_neg Bool.false_ne_true]
      exact State.sbFault_leaves.tested hmark hnow hmarked
    | true =>
      rw [if_pos rfl]
      have hset : (x.setSb n z).Opened n := hopen
      have htest : ((x.setSb n z).sb n).testAt = some s.now := by rw [State.sb_setSb_self, hz]
      have hstamped := SbTested.stamped (s := s) (x.setSb n z) htest ((State.setSb_now ..).trans hnow) (hmarked.setSb (by simp))
      exact hstamped.sbClear ((State.opened_congr (State.wr_safety ..)).2 hset)

theorem sbPulseTest_completes (hn : n < 8) (he : s.field.enable = true) (hc : bitOf s.safety.x.closed n = bitOf s.safety.y.closed n)
    (ht : (s.sb n).testAt = none) :
    Completes (.sbPulseTest at_ n y pass) s (fun t => (t.sb n).testAt = some (s.instant at_)
      ∧ (pass = true → t.rd (E.Sb.SB_LAST_TEST_TB3 n) = time96ns (s.instant at_))
      ∧ (pass = false → (t.sb n).fault = true ∧ bitOf t.safety.x.closed n = false ∧ bitOf t.safety.y.closed n = false)
      ∧ t.now = s.instant at_
      ∧ Frame [.field, .safety] [E.Sb.SB_LAST_TEST_TB3 n, E.Sb.SB_DIAG n, E.Sb.SB_STATE n, E.Sb.SB_FAULTS n] [] s t) := by
  obtain ⟨htest, hpass, hfail, hnow, hframe⟩ := State.sbPulse_tested (s := s.advance at_) (y := y) (pass := pass) hn he hc ht
  exact ⟨_, rfl, htest, hpass, hfail, hnow, (Frame.refl ..).advance.trans hframe⟩

theorem sbFault_completes (hn : n < 8) (hk : kind = 4 ∨ kind = 5 ∨ kind = 6 ∨ kind = 7) (hon : kind = 4 ∨ kind = 5 → bitOf (s.sec y).closed n = true)
    (hoff : kind = 6 → bitOf (s.sec y).closed n = false ∧ s.field.enable = true) :
    Completes (.sbFault at_ n kind y) s (fun t => (t.sb n).fault = true
      ∧ bitOf (if y then (t.sb n).diagY else (t.sb n).diagX) kind = true
      ∧ bitOf t.safety.x.closed n = false ∧ bitOf t.safety.y.closed n = false ∧ t.rd (E.Sb.SB_STATE n) ≠ 1
      ∧ t.rd (E.Sb.SB_FAULTS n) = (if (s.sb n).fault then s.rd (E.Sb.SB_FAULTS n) else min (2 ^ 32 - 1) (s.rd (E.Sb.SB_FAULTS n) + 1))
      ∧ t.now = s.instant at_ ∧ Frame [.field, .safety] [E.Sb.SB_DIAG n, E.Sb.SB_STATE n, E.Sb.SB_FAULTS n] [] s t) := by
  have heq : (s.advance at_).sbCondition n kind y = (s.advance at_).sbFault n kind y := by
    have hsec : (s.advance at_).sec y = s.sec y := by cases y <;> rfl
    have henable : (s.advance at_).field.enable = s.field.enable := rfl
    unfold State.sbCondition
    rw [hsec, henable]
    rcases hk with rfl | rfl | rfl | rfl
    · exact if_pos (by simp [hn, hon (.inl rfl)])
    · exact if_pos (by simp [hn, hon (.inr rfl)])
    · obtain ⟨hopen, hfield⟩ := hoff rfl
      exact if_pos (by simp [hn, hopen, hfield])
    · exact if_pos (by simp [hn])
  obtain ⟨hfault, -, hdiag, ⟨hx, hy⟩, hstate, hcount, -, hnow, hframe⟩ := State.sbFault_leaves (s := s.advance at_) (n := n) (bit := kind) (y := y)
  rw [← heq] at hfault hdiag hx hy hstate hcount hnow hframe
  exact ⟨_, rfl, hfault, hdiag, hx, hy, hstate, hcount, hnow, (Frame.refl ..).advance.trans hframe⟩

/-! ## SI_DISCREPANCY (R443) -/

theorem siDiscrepancy_completes {d : Nat} (hi : i < 16) (hm : s.rd (E.Si.SI_MODE i) ≠ 0) (hd : ((s.sec y).si.fetch {} i).disc = false)
    (hat : ((s.sec y).si.fetch {} i).discAt = some d) (hdue : d + 1000000 * s.rd (E.Si.SI_DISCREPANCY i) ≤ s.instant at_) :
    Completes (.siDiscrepancy at_ i y) s (fun t => ((t.sec y).si.fetch {} i).disc = true ∧ t.sec (!y) = s.sec (!y)
      ∧ t.field.diagOut = s.field.diagOut
          ++ [leBytes 1 0x09 ++ leBytes 1 i ++ leBytes 1 0x70 ++ leBytes 1 (1 + 2 * ofBool y) ++ time96le (time96ns (s.instant at_))]
      ∧ t.now = s.instant at_ ∧ Frame [.field, .safety] [E.Si.SI_CONTACTS i, E.Si.SI_DIAG i, E.Si.SI_FAULTS i] [] s t) := by
  have hsec (y : Bool) : (s.advance at_).sec y = s.sec y := by cases y <;> rfl
  have heq : ∃ z : Section, (s.advance at_).siDiscrepancy i y = (((s.advance at_).setSec y z).fieldDiag 0x09 i 0x70 (1 + 2 * ofBool y)).showSi i
      ∧ (z.si.fetch {} i).disc = true := by
    refine ⟨{ s.sec y with si := (s.sec y).si.store {} i { (s.sec y).si.fetch {} i with disc := true } }, ?_, by simp⟩
    unfold State.siDiscrepancy
    dsimp only
    rw [hsec, hat]
    refine if_pos ?_
    simp only [Bool.and_eq_true, decide_eq_true_eq, bne_iff_ne, Bool.not_eq_true']
    exact ⟨⟨⟨hi, hm⟩, hd⟩, hdue⟩
  obtain ⟨z, heq, hdisc⟩ := heq
  refine ⟨_, congrArg Host.Outcome.next heq, ?_, ?_, ?_, ?_, ?_⟩
  · rw [State.sec_congr State.showSi_safety, State.sec_fieldDiag, State.sec_setSec_self, hdisc]
  · rw [State.sec_congr State.showSi_safety, State.sec_fieldDiag, State.sec_setSec_other, hsec]
  · rw [State.showSi_field]
    rfl
  · rw [State.showSi_now, State.fieldDiag_now, State.now_setSec]
    rfl
  · exact (((Frame.refl ..).advance.setSec (by simp)).fieldDiag (by simp)).showSi (by simp [siEnts])

/-! ## TP_FAULT (R439) -/

/-- Every input shows itself. -/
def State.showSis (s : State) : State := (List.range 16).foldl (fun s i => s.showSi i) s

theorem Frame.showSis {ps : List Part} {es : List Ent} {rs : List Nat} {x : State} (h : Frame ps es rs s x) (he : ∀ e ∈ sisEnts, e ∈ es) :
    Frame ps es rs s x.showSis := h.foldl fun _ _ hi hz => hz.showSi fun e m => he e (mem_sisEnts (List.mem_range.1 hi) e m)

theorem State.showSis_now : s.showSis.now = s.now := foldl_now _ fun _ _ => State.showSi_now

/-- The entries of the inputs stand under their three sub-indices. -/
theorem key_sisEnts : ∀ f ∈ sisEnts, f.key % 256 = 7 ∨ f.key % 256 = 8 ∨ f.key % 256 = 10 := by decide

theorem State.rd_showSis {e : Ent} (hs : e.key % 256 ≠ 7 ∧ e.key % 256 ≠ 8 ∧ e.key % 256 ≠ 10) (ha : e.arch = false := by rfl) :
    s.showSis.rd e = s.rd e := by
  refine Leaves.rd (.of_frame (ps := []) (es := sisEnts) (rs := []) ((Frame.refl ..).showSis (by simp)) (fun f hf heq => ?_) (by simp)) ha
  have := key_sisEnts f hf
  rw [heq] at hs
  omega

/-- The fault of a source before its inputs show it. -/
def State.tpMarked (s : State) (t : Nat) (fault : Bool) : State :=
  let s := { s with safety := { s.safety with tpFault := setBit s.safety.tpFault t fault } }
  if fault then s.inc (E.Si.TP_FAULTS t) else { s with safety := { s.safety with tpClear := s.safety.tpClear.put t s.now } }

theorem State.tpMarked_leaves : bitOf (s.tpMarked src b).safety.tpFault src = b ∧ (s.tpMarked src b).now = s.now
    ∧ (s.tpMarked src b).rd (E.Si.TP_FAULTS src)
      = (if b then min (2 ^ 32 - 1) (s.rd (E.Si.TP_FAULTS src) + 1) else s.rd (E.Si.TP_FAULTS src))
    ∧ Frame [.field, .safety] [E.Si.TP_FAULTS src] [] s (s.tpMarked src b) := by
  unfold State.tpMarked
  extract_lets v z
  have hbit : bitOf z.safety.tpFault src = b := bitOf_setBit_self ..
  have hz : Frame [.field, .safety] [E.Si.TP_FAULTS src] [] s z := (Frame.refl ..).with_safety (by simp)
  have hrd : z.rd (E.Si.TP_FAULTS src) = s.rd (E.Si.TP_FAULTS src) := rfl
  have hnow : z.now = s.now := rfl
  clear_value z
  cases b with
  | true =>
    rw [if_pos rfl, if_pos rfl]
    refine ⟨hbit, hnow, ?_, hz.inc (by simp)⟩
    rw [State.rd_inc_self, hrd]
    rfl
  | false =>
    rw [if_neg Bool.false_ne_true, if_neg Bool.false_ne_true]
    exact ⟨hbit, hnow, hrd, hz.with_safety (by simp)⟩

theorem State.tpFault_eq (ht : src < 4) (hb : bitOf s.safety.tpFault src ≠ b) : s.tpFault src b
    = (((s.tpMarked src b).wr (E.Si.TP_STATE src) (if b then 2 else 1)).fieldDiag 0x0B src 0x74 (ofBool b)).showSis := by
  unfold State.tpFault
  exact if_neg (by simp [hb]; omega)

theorem tpFault_completes (ht : src < 4) (hb : bitOf s.safety.tpFault src ≠ b) :
    Completes (.tpFault at_ src b) s (fun t => bitOf t.safety.tpFault src = b ∧ t.rd (E.Si.TP_STATE src) = (if b then 2 else 1)
      ∧ t.rd (E.Si.TP_FAULTS src) = (if b then min (2 ^ 32 - 1) (s.rd (E.Si.TP_FAULTS src) + 1) else s.rd (E.Si.TP_FAULTS src))
      ∧ t.now = s.instant at_
      ∧ Frame [.field, .safety] ([E.Si.TP_STATE src, E.Si.TP_FAULTS src] ++ (List.range 16).flatMap
          (fun i => [E.Si.SI_CONTACTS i, E.Si.SI_DIAG i, E.Si.SI_FAULTS i])) [] s t) := by
  have heq := State.tpFault_eq (s := s.advance at_) ht hb
  obtain ⟨hbit, hnow, hcount, hmarked⟩ := State.tpMarked_leaves (s := s.advance at_) (src := src) (b := b)
  have hframe : Frame [.field, .safety] ([E.Si.TP_STATE src, E.Si.TP_FAULTS src] ++ sisEnts) [] s ((s.advance at_).tpMarked src b) :=
    ((Frame.refl ..).advance.trans (hmarked.mono (fun _ hp => hp) (by simp) fun _ hr => hr))
  generalize (s.advance at_).tpMarked src b = z at *
  have hstate : (E.Si.TP_STATE src).key % 256 = 1 := by simp only [E.Si.TP_STATE, entN]; omega
  have hfaults : (E.Si.TP_FAULTS src).key % 256 = 3 := by simp only [E.Si.TP_FAULTS, entN]; omega
  refine ⟨_, congrArg Host.Outcome.next heq, ?_, ?_, ?_, ?_, ?_⟩
  · have hkept := ((Frame.refl [.field] sisEnts [] (z.wr (E.Si.TP_STATE src) (if b then 2 else 1))).fieldDiag (a := 0x0B) (b := src) (c := 0x74)
      (d := ofBool b) (by simp)).showSis (by simp)
    rw [hkept.2.1 .safety (by simp), State.wr_safety, hbit]
  · rw [State.rd_showSis (by omega), State.rd_fieldDiag, State.rd_wr_self]
    cases b <;> rfl
  · rw [State.rd_showSis (by omega), State.rd_fieldDiag, State.rd_wr_ne _ _ _ _ fun h => by omega, hcount]
    rfl
  · rw [State.showSis_now, State.fieldDiag_now, State.wr_now, hnow]
    rfl
  · exact ((hframe.wr (by simp)).fieldDiag (by simp)).showSis fun e he => List.mem_append_right _ he

/-! ## TEST_PULSE (R439, R440) -/

/-- The two checks of input `i` in a section at a pulse of source `t`. -/
def State.pulseChecked (s : State) (t : Nat) (y : Bool) (drop : BitVec 32) (i : Nat) : SecSi :=
  let x := (s.sec y).si.fetch {} i
  { x with
    crossA := s.contactCheck (s.rd (E.Si.SI_TP_A i)) t x.a (bitOf drop.toNat (2 * i)) x.crossA
    crossB := s.contactCheck (s.rd (E.Si.SI_TP_B i)) t x.b (bitOf drop.toNat (2 * i + 1)) x.crossB }

/-- A check whose outcome changes has its record. -/
def State.crossNoted (s : State) (i event : Nat) (y : Bool) (old new : Option Nat) : State :=
  if new.isSome == old.isSome then s else s.fieldDiag 0x09 i event (ofBool new.isSome + 2 * ofBool y)

/-- A pulse of source `t` at input `i` in a section. -/
def State.pulseInput (s : State) (t : Nat) (y : Bool) (drop : BitVec 32) (i : Nat) : State :=
  if s.siMode i = 0 then s
  else ((((s.setSec y { s.sec y with si := (s.sec y).si.store {} i (s.pulseChecked t y drop i) }).crossNoted i 0x71 y
    ((s.sec y).si.fetch {} i).crossA (s.pulseChecked t y drop i).crossA)).crossNoted i 0x72 y ((s.sec y).si.fetch {} i).crossB
    (s.pulseChecked t y drop i).crossB).showSi i

/-- A pulse of source `t` at every input in a section. -/
def State.pulseSide (s : State) (t : Nat) (y : Bool) (drop : BitVec 32) : State :=
  (List.range 16).foldl (fun s i => s.pulseInput t y drop i) s

/-- The source has pulsed. -/
def State.pulsed (s : State) (t : Nat) : State :=
  let s := s.wr (E.Si.TP_STATE t) 1
  { s with safety := { s.safety with pulseAt := s.safety.pulseAt.put t s.now } }

theorem State.testPulse_eq {dx dy : BitVec 32} (ht : src < 4) (hset : s.safety.set.isSome = true) (hp : s.field.powered = true)
    (hf : bitOf s.safety.tpFault src = false) : s.testPulse src dx dy = ((s.pulsed src).pulseSide src false dx).pulseSide src true dy := by
  unfold State.testPulse
  exact if_neg (by simp [hp, hf, Option.isNone_iff_eq_none, Option.isSome_iff_ne_none.1 hset]; omega)

section
variable {ps : List Part} {es : List Ent} {rs : List Nat} {x : State} {drop dx dy : BitVec 32} {event : Nat} {old new : Option Nat}

theorem State.crossNoted_keeps : (s.crossNoted i event y old new).safety = s.safety ∧ (s.crossNoted i event y old new).now = s.now
    ∧ ∀ e, (s.crossNoted i event y old new).rd e = s.rd e := by
  unfold State.crossNoted
  split
  · exact ⟨rfl, rfl, fun _ => rfl⟩
  · exact ⟨rfl, rfl, fun _ => State.rd_fieldDiag ..⟩

theorem Frame.crossNoted (h : Frame ps es rs s x) (hp : Part.field ∈ ps) : Frame ps es rs s (x.crossNoted i event y old new) :=
  .ite (fun _ => h) fun _ => h.fieldDiag hp

theorem Frame.pulseInput (h : Frame ps es rs s x) (hf : Part.field ∈ ps) (hs : Part.safety ∈ ps) (he : ∀ e ∈ siEnts i, e ∈ es) :
    Frame ps es rs s (x.pulseInput src y drop i) :=
  .ite (fun _ => h) fun _ => (((h.setSec hs).crossNoted hf).crossNoted hf).showSi he

theorem Frame.pulseSide (h : Frame ps es rs s x) (hf : Part.field ∈ ps) (hs : Part.safety ∈ ps) (he : ∀ e ∈ sisEnts, e ∈ es) :
    Frame ps es rs s (x.pulseSide src y drop) :=
  h.foldl fun _ _ hi hz => hz.pulseInput hf hs fun e m => he e (mem_sisEnts (List.mem_range.1 hi) e m)

/-- A pulse at an input changes its own two checks in its section, and no entry but the input's own. -/
theorem State.pulseInput_keeps : (s.pulseInput src y drop i).safety = (if s.siMode i = 0 then s.safety
      else (s.setSec y { s.sec y with si := (s.sec y).si.store {} i (s.pulseChecked src y drop i) }).safety)
    ∧ (s.pulseInput src y drop i).now = s.now
    ∧ ∀ e : Ent, (e.key % 256 ≠ 7 ∧ e.key % 256 ≠ 8 ∧ e.key % 256 ≠ 10) → e.arch = false → (s.pulseInput src y drop i).rd e = s.rd e := by
  unfold State.pulseInput
  split
  · exact ⟨rfl, rfl, fun _ _ _ => rfl⟩
  have hset : (s.setSec y { s.sec y with si := (s.sec y).si.store {} i (s.pulseChecked src y drop i) }).now = s.now
      ∧ ∀ e, (s.setSec y { s.sec y with si := (s.sec y).si.store {} i (s.pulseChecked src y drop i) }).rd e = s.rd e := ⟨rfl, fun _ => rfl⟩
  generalize s.setSec y { s.sec y with si := (s.sec y).si.store {} i (s.pulseChecked src y drop i) } = z at *
  obtain ⟨hsafety, hnow, hrd⟩ := State.crossNoted_keeps (s := z) (i := i) (event := 0x71) (y := y) (old := ((s.sec y).si.fetch {} i).crossA)
    (new := (s.pulseChecked src y drop i).crossA)
  generalize z.crossNoted i 0x71 y ((s.sec y).si.fetch {} i).crossA (s.pulseChecked src y drop i).crossA = a at *
  obtain ⟨hsafety', hnow', hrd'⟩ := State.crossNoted_keeps (s := a) (i := i) (event := 0x72) (y := y) (old := ((s.sec y).si.fetch {} i).crossB)
    (new := (s.pulseChecked src y drop i).crossB)
  refine ⟨?_, ?_, fun e hs ha => ?_⟩
  · rw [State.showSi_safety, hsafety', hsafety]
  · rw [State.showSi_now, hnow', hnow, hset.1]
  · rw [State.rd_showSi hs ha, hrd', hrd, hset.2]

/-- What the check of contact A of an input reads in section FSX: mode and source, period, instant, level, and its last failure. -/
def State.contactA (s : State) (i : Nat) : (Nat × Nat × Nat × Nat) × Bool × Option Nat :=
  ((s.rd (E.Si.SI_MODE i), s.rd (E.Si.SI_TP_A i), s.rd E.Saf.TP_PERIOD, s.now), (s.safety.x.si.fetch {} i).a,
    (s.safety.x.si.fetch {} i).crossA)

/-- The pulse of an input leaves what the checks read of every entry and of the instant. -/
theorem State.pulseInput_reads (j : Nat) : (s.pulseInput src y drop i).rd (E.Si.SI_MODE j) = s.rd (E.Si.SI_MODE j)
    ∧ (s.pulseInput src y drop i).rd (E.Si.SI_TP_A j) = s.rd (E.Si.SI_TP_A j)
    ∧ (s.pulseInput src y drop i).rd E.Saf.TP_PERIOD = s.rd E.Saf.TP_PERIOD ∧ (s.pulseInput src y drop i).now = s.now := by
  obtain ⟨-, hnow, hrd⟩ := State.pulseInput_keeps (s := s) (src := src) (y := y) (drop := drop) (i := i)
  refine ⟨hrd _ ?_ rfl, hrd _ ?_ rfl, hrd _ (by decide) rfl, hnow⟩ <;> simp only [E.Si.SI_MODE, E.Si.SI_TP_A, entN] <;> omega

theorem State.contactCheck_congr {own t : Nat} {level dropped : Bool} {fail : Option Nat} (hp : x.rd E.Saf.TP_PERIOD = s.rd E.Saf.TP_PERIOD)
    (hn : x.now = s.now) : x.contactCheck own t level dropped fail = s.contactCheck own t level dropped fail := by
  simp only [State.contactCheck, hp, hn]

theorem State.contactA_pulseInput_ne {m : Nat} (h : m ≠ i) : (s.pulseInput src false drop m).contactA i = s.contactA i := by
  obtain ⟨hmode, hsource, hperiod, hnow⟩ := State.pulseInput_reads (s := s) (src := src) (y := false) (drop := drop) (i := m) i
  have hsafety := (State.pulseInput_keeps (s := s) (src := src) (y := false) (drop := drop) (i := m)).1
  have hsi : (s.pulseInput src false drop m).safety.x.si.fetch {} i = s.safety.x.si.fetch {} i := by
    rw [hsafety]
    split
    · rfl
    · simp [State.setSec, State.sec, SMap.fetch_store_ne _ _ _ (Ne.symm h)]
  rw [State.contactA, hmode, hsource, hperiod, hnow, hsi, State.contactA]

theorem State.contactA_pulseInput_self (hm : s.rd (E.Si.SI_MODE i) ≠ 0) : (s.pulseInput src false drop i).contactA i
    = ((s.rd (E.Si.SI_MODE i), s.rd (E.Si.SI_TP_A i), s.rd E.Saf.TP_PERIOD, s.now), (s.safety.x.si.fetch {} i).a,
      s.contactCheck (s.rd (E.Si.SI_TP_A i)) src (s.safety.x.si.fetch {} i).a (bitOf drop.toNat (2 * i)) (s.safety.x.si.fetch {} i).crossA) := by
  obtain ⟨hmode, hsource, hperiod, hnow⟩ := State.pulseInput_reads (s := s) (src := src) (y := false) (drop := drop) (i := i) i
  have hsafety := (State.pulseInput_keeps (s := s) (src := src) (y := false) (drop := drop) (i := i)).1
  have hsi : (s.pulseInput src false drop i).safety.x.si.fetch {} i = s.pulseChecked src false drop i := by
    rw [hsafety, if_neg (show s.siMode i ≠ 0 from hm)]
    simp [State.setSec]
  rw [State.contactA, hmode, hsource, hperiod, hnow, hsi]
  rfl

/-- A pulse checks contact A of an input once. -/
theorem State.crossA_pulseSide (hi : i < 16) (hm : s.rd (E.Si.SI_MODE i) ≠ 0) : ((s.pulseSide src false drop).safety.x.si.fetch {} i).crossA
    = s.contactCheck (s.rd (E.Si.SI_TP_A i)) src (s.safety.x.si.fetch {} i).a (bitOf drop.toNat (2 * i)) (s.safety.x.si.fetch {} i).crossA := by
  have hall : (s.pulseSide src false drop).contactA i = ((s.rd (E.Si.SI_MODE i), s.rd (E.Si.SI_TP_A i), s.rd E.Saf.TP_PERIOD, s.now),
      (s.safety.x.si.fetch {} i).a, s.contactCheck (s.rd (E.Si.SI_TP_A i)) src (s.safety.x.si.fetch {} i).a (bitOf drop.toNat (2 * i))
        (s.safety.x.si.fetch {} i).crossA) := by
    refine foldl_of_mem (fun y => y.contactA i) List.nodup_range (List.mem_range.2 hi) (fun y hy => ?_) fun y m hm => State.contactA_pulseInput_ne hm
    simp only [State.contactA, Prod.mk.injEq] at hy
    obtain ⟨⟨hmode, hsource, hperiod, hnow⟩, hlevel, hcross⟩ := hy
    rw [State.contactA_pulseInput_self (hmode ▸ hm), State.contactCheck_congr hperiod hnow, hmode, hsource, hperiod, hnow, hlevel, hcross]
  simp only [State.contactA, Prod.mk.injEq] at hall
  exact hall.2.2

/-- The pulse in section FSY leaves section FSX, and every pulse the instants of the pulses. -/
theorem State.pulseSide_keeps : (s.pulseSide src y drop).now = s.now ∧ (s.pulseSide src y drop).safety.pulseAt = s.safety.pulseAt
    ∧ (y = true → (s.pulseSide src y drop).safety.x = s.safety.x)
    ∧ (s.pulseSide src y drop).rd (E.Si.TP_STATE src) = s.rd (E.Si.TP_STATE src) := by
  suffices ∀ (l : List Nat) (x : State), (x.now = s.now ∧ x.safety.pulseAt = s.safety.pulseAt ∧ (y = true → x.safety.x = s.safety.x)
      ∧ x.rd (E.Si.TP_STATE src) = s.rd (E.Si.TP_STATE src)) → ∀ t, t = l.foldl (fun s i => s.pulseInput src y drop i) x →
      t.now = s.now ∧ t.safety.pulseAt = s.safety.pulseAt ∧ (y = true → t.safety.x = s.safety.x)
        ∧ t.rd (E.Si.TP_STATE src) = s.rd (E.Si.TP_STATE src) from this _ s ⟨rfl, rfl, fun _ => rfl, rfl⟩ _ rfl
  intro l
  induction l with
  | nil => exact fun x hx t ht => ht ▸ hx
  | cons i l ih =>
    rintro x ⟨hnow, hat, hx, hstate⟩ t ht
    obtain ⟨hsafety, hnow', hrd⟩ := State.pulseInput_keeps (s := x) (src := src) (y := y) (drop := drop) (i := i)
    refine ih _ ⟨hnow'.trans hnow, ?_, fun hy => ?_, (hrd _ ?_ rfl).trans hstate⟩ t ht
    · rw [hsafety, ← hat]
      split <;> [rfl; cases y <;> simp [State.setSec]]
    · rw [hsafety, ← hx hy, hy]
      split <;> [rfl; simp [State.setSec]]
    · simp only [E.Si.TP_STATE, entN]
      omega

theorem testPulse_completes (ht : src < 4) (hset : s.safety.set.isSome = true) (hp : s.field.powered = true)
    (hf : bitOf s.safety.tpFault src = false) :
    Completes (.testPulse at_ src dx dy) s (fun t => t.rd (E.Si.TP_STATE src) = 1 ∧ t.safety.pulseAt.find src = some (s.instant at_)
      ∧ (∀ i < 16, s.rd (E.Si.SI_MODE i) ≠ 0 → (t.safety.x.si.fetch {} i).crossA =
          (s.advance at_).contactCheck (s.rd (E.Si.SI_TP_A i)) src (s.safety.x.si.fetch {} i).a (bitOf dx.toNat (2 * i)) (s.safety.x.si.fetch {} i).crossA)
      ∧ t.now = s.instant at_
      ∧ Frame [.field, .safety] (E.Si.TP_STATE src :: (List.range 16).flatMap (fun i => [E.Si.SI_CONTACTS i, E.Si.SI_DIAG i, E.Si.SI_FAULTS i])) [] s t) := by
  have heq := State.testPulse_eq (s := s.advance at_) (dx := dx) (dy := dy) ht hset hp hf
  have hpulsed : Frame [.field, .safety] (E.Si.TP_STATE src :: sisEnts) [] s ((s.advance at_).pulsed src) :=
    ((Frame.refl ..).advance.wr (by simp)).with_safety (by simp)
  have hrd (e : Ent) (he : e.key ≠ (E.Si.TP_STATE src).key) : ((s.advance at_).pulsed src).rd e = s.rd e := State.rd_wr_ne _ _ _ _ he
  have hstate : ((s.advance at_).pulsed src).rd (E.Si.TP_STATE src) = 1 := State.rd_wr_self ..
  have hat : ((s.advance at_).pulsed src).safety.pulseAt.find src = some (s.instant at_) := SMap.find_put_self ..
  have hsi : ((s.advance at_).pulsed src).safety.x = s.safety.x := rfl
  have hnow : ((s.advance at_).pulsed src).now = (s.advance at_).now :=
    State.wr_now (s.advance at_) (E.Si.TP_STATE src) 1
  generalize (s.advance at_).pulsed src = p at *
  obtain ⟨hnowX, hatX, -, hstateX⟩ := State.pulseSide_keeps (s := p) (src := src) (y := false) (drop := dx)
  obtain ⟨hnowY, hatY, hx, hstateY⟩ := State.pulseSide_keeps (s := p.pulseSide src false dx) (src := src) (y := true) (drop := dy)
  refine ⟨_, congrArg Host.Outcome.next heq, ?_, ?_, fun i hi hm => ?_, ?_, ?_⟩
  · rw [hstateY, hstateX, hstate]
  · rw [hatY, hatX, hat]
  · have hmode : p.rd (E.Si.SI_MODE i) = s.rd (E.Si.SI_MODE i) := hrd _ (by simp only [E.Si.SI_MODE, E.Si.TP_STATE, entN]; omega)
    have hsource : p.rd (E.Si.SI_TP_A i) = s.rd (E.Si.SI_TP_A i) := hrd _ (by simp only [E.Si.SI_TP_A, E.Si.TP_STATE, entN]; omega)
    have hperiod : p.rd E.Saf.TP_PERIOD = s.rd E.Saf.TP_PERIOD := hrd _ (by simp only [E.Saf.TP_PERIOD, E.Si.TP_STATE, entN]; omega)
    rw [hx rfl, State.crossA_pulseSide hi (hmode ▸ hm), State.contactCheck_congr (s := s.advance at_) hperiod hnow, hsource, hsi]
  · rw [hnowY, hnowX, hnow]
    rfl
  · exact (hpulsed.pulseSide (by simp) (by simp) fun e he => .tail _ he).pulseSide (by simp) (by simp) fun e he => .tail _ he

end

end

/-- Settles O49: each event by the fold over its inputs, or by the fault and the test of its output. -/
theorem safeInputsAndBrakesReportTheirFaults : Obligations.SafeInputsAndBrakesReportTheirFaults := by
  unfold Obligations.SafeInputsAndBrakesReportTheirFaults
  exact ⟨fun s at_ src dx dy => testPulse_completes, fun s at_ src b => tpFault_completes,
    fun s at_ i y hi hm hd d hat => siDiscrepancy_completes hi hm hd hat, fun s at_ n y pass => sbPulseTest_completes,
    fun s at_ n kind y => sbFault_completes⟩

end Sys2Proof.Machine
end

section

/-! SUPPORT. O53. Deltas, resynchronisation and audit in a STANDBY module (R481, R486, R488). -/
namespace Sys2Proof.Machine

section
variable {s x : State} {at_ : Nat} {d : TwinDelta}

/-! ## What the report of a twin leaves of the twin controller -/

/-- The report keeps what it told, and nothing else of the twin controller changes. -/
theorem State.showTwin_twin (s : State) : ∃ v, s.showTwin.twin = { s.twin with told := v } := by
  have hlog (y : State) (a : Nat) (p : List Byte) : (y.logTwin a p).twin = y.twin := State.logTwin_moves.1.2 .twin (by decide)
  unfold State.showTwin
  extract_lets role
  split
  next rdy cause _ =>
  extract_lets y1 due y2
  have h2 : y2.twin = s.twin := by simp only [y2, y1, State.wr_twin]
  split
  · exact ⟨s.twin.told, h2⟩
  · exact ⟨(role, rdy, cause), (hlog ..).trans (congrArg (fun t : TwinSt => { t with told := (role, rdy, cause) }) h2)⟩

theorem Leaves.showTwin {key : Nat} (h : Leaves key s x) (he : ∀ f ∈ twinEnts, key ≠ f.key) (hk : key / 256 ≠ 0x1B1C) : Leaves key s x.showTwin :=
  h.trans (.of_frame ((Frame.refl [.twin, .ledger] twinEnts [28] x).showTwin (by simp) (by simp) (by simp)) he (by simpa using hk))

theorem State.startResync_twin : s.startResync.twin = { s.twin with synced := false } := by
  have hlog (y : State) (a : Nat) (p : List Byte) : (y.logTwin a p).twin = y.twin := State.logTwin_moves.1.2 .twin (by decide)
  unfold State.startResync
  rw [hlog, State.inc_twin]

/-- The entries of the ledger and of the twin stand at their own keys. -/
theorem key_twinEnts : ∀ f ∈ twinEnts, f.key ∉ [E.Twin.GEN_COMMITTED.key, E.Twin.DELTA_LAST.key, E.Twin.DELTA_MAX.key, E.Twin.RESYNCS.key,
    E.Twin.AUDIT_MISMATCHES.key, E.Twin.TWIN_ROLE.key, E.Run.RUNTIME_MODE.key] := by decide

theorem Frame.startResync_any {ps : List Part} {es : List Ent} {rs : List Nat} (h : Frame ps es rs s x) (hp : ∀ p ∈ [Part.twin, .ledger], p ∈ ps)
    (he : ∀ f ∈ E.Twin.RESYNCS :: ledgerEnts, f ∈ es) (hr : 28 ∈ rs) : Frame ps es rs s x.startResync := by
  unfold State.startResync
  exact ((h.with_twin (hp _ (by simp))).inc (he _ (by simp))).logTwin (hp _ (by simp)) (fun f m => he f (.tail _ m)) hr

theorem Leaves.startResync {key : Nat} (h : Leaves key s x) (he : ∀ f ∈ E.Twin.RESYNCS :: ledgerEnts, key ≠ f.key) (hk : key / 256 ≠ 0x1B1C) :
    Leaves key s x.startResync :=
  h.trans (.of_frame ((Frame.refl [.twin, .ledger] (E.Twin.RESYNCS :: ledgerEnts) [28] x).startResync_any (by simp) (by simp) (by simp)) he
    (by simpa using hk))

theorem State.now_startResync : s.startResync.now = s.now := by
  unfold State.startResync
  rw [State.logTwin_now, State.inc_now]

theorem State.rd_startResync : s.startResync.rd E.Twin.RESYNCS = min (2 ^ 32 - 1) (s.rd E.Twin.RESYNCS + 1) := by
  unfold State.startResync
  refine (Leaves.rd (.of_frame (ps := [.ledger]) (es := ledgerEnts) (rs := [28]) ((Frame.refl ..).logTwin (by simp) (by simp) (by simp))
    (by decide) (by decide))).trans ?_
  rw [State.rd_inc_self]
  rfl

/-! ## The commit of a delta that brings no blocks and no changeover -/

theorem Leaves.takeTargets {key : Nat} {m : SMap Nat} (h : Leaves key s x) (hk : 0x220000 ≤ key) : Leaves key s (x.takeTargets m) := by
  refine h.foldl fun y c hc => .ite (fun hi => ?_) fun _ => .refl ..
  refine .trans (x := y.setAin c.1 { y.ain c.1 with partnerTarget := c.2 }) (.of_od (.refl ..) rfl)
    (.of_frame (State.retarget_retargeted ..).frame (fun f hf => ?_) (by simp))
  have hf' : f.key < 0x220000 := by
    simp only [aiShown, List.mem_cons, List.not_mem_nil, or_false] at hf
    rcases hf with rfl | rfl | rfl | rfl <;> simp only [E.Ai.SUPPLY_TARGET, E.Ai.AI_FAULT_CAUSE, E.Ai.AI_DIAG, E.Ai.FAULT_EVENTS, entN] <;> omega
  omega

theorem State.takeTargets_now {m : SMap Nat} : (s.takeTargets m).now = s.now := by
  refine foldl_now _ fun y c => ?_
  split
  · exact (State.retarget_retargeted ..).now
  · rfl

theorem Leaves.loadLatches {key : Nat} {m : SMap Nat} (h : Leaves key s x) (h8 : key % 256 ≠ 8) (h3 : key % 256 ≠ 3) : Leaves key s (x.loadLatches m) := by
  refine h.foldl fun y c hc => ?_
  dsimp only
  split
  · refine (Leaves.refl ..).wr ?_
    simp only [E.Do.DO_COMMANDED, entN]
    omega
  · refine (Leaves.refl ..).wr ?_
    simp only [E.Ao.AO_COMMANDED, entN]
    omega
  · exact .refl ..

theorem State.loadLatches_now {m : SMap Nat} : (s.loadLatches m).now = s.now := by
  refine foldl_now _ fun y c => ?_
  dsimp only
  split <;> simp

theorem State.ackCastle_twin : s.ackCastle.twin.gen = s.twin.gen ∧ s.ackCastle.twin.ckpt = s.twin.ckpt ∧ s.ackCastle.twin.synced = s.twin.synced := by
  unfold State.ackCastle
  split
  · split <;> exact ⟨rfl, rfl, rfl⟩
  · exact ⟨rfl, rfl, rfl⟩

theorem State.ackCastle_keeps : s.ackCastle.od = s.od ∧ s.ackCastle.now = s.now := by
  unfold State.ackCastle
  split
  · split <;> exact ⟨rfl, rfl⟩
  · exact ⟨rfl, rfl⟩

/-- The output image and the targets of the partner are taken. -/
def State.imageTaken (s : State) (d : TwinDelta) : State :=
  (if d.recs.contains 0x01 then s.loadLatches d.saved.outs else s).takeTargets d.saved.targets

theorem State.imageTaken_moves : Moves [.field] s (s.imageTaken d) := by
  unfold State.imageTaken
  exact (Moves.ite (fun _ => (Moves.refl ..).step State.loadLatches_moves) fun _ => .refl ..).step State.takeTargets_moves

theorem Leaves.imageTaken {key : Nat} (h : Leaves key s x) (h8 : key % 256 ≠ 8) (h3 : key % 256 ≠ 3) (hk : 0x220000 ≤ key) :
    Leaves key s (x.imageTaken d) := by
  unfold State.imageTaken
  exact (Leaves.ite (fun _ => h.loadLatches h8 h3) fun _ => h).takeTargets hk

theorem State.imageTaken_now : (s.imageTaken d).now = s.now := by
  unfold State.imageTaken
  rw [State.takeTargets_now]
  split
  · exact State.loadLatches_now
  · rfl

/-- What the commit of a delta leaves. -/
structure DeltaCommitted (d : TwinDelta) (s t : State) : Prop where
  gen : t.twin.gen = d.gen
  ckpt : t.twin.ckpt = mergeSaved d.recs s.twin.ckpt d.saved
  synced : t.twin.synced = s.twin.synced
  committed : t.rd E.Twin.GEN_COMMITTED = d.gen
  last : t.rd E.Twin.DELTA_LAST = d.size
  most : t.rd E.Twin.DELTA_MAX = max (s.rd E.Twin.DELTA_MAX) d.size
  now : t.now = s.now
  keeps : Keeps [.twin, .field] s t

theorem State.commitDelta_eq (hc : d.changeover = false) (hb : d.blocks = []) : s.commitDelta d =
    (((((({ s with twin := { s.twin with gen := d.gen, ckpt := mergeSaved d.recs s.twin.ckpt d.saved } }).imageTaken d).wr
      E.Twin.GEN_COMMITTED d.gen).wr E.Twin.DELTA_LAST d.size).raise E.Twin.DELTA_MAX d.size).ackCastle) := by
  unfold State.commitDelta State.imageTaken
  rw [hb, hc]
  dsimp only [List.foldl_nil]
  rw [if_neg Bool.false_ne_true]

theorem State.commitDelta_committed (hg : d.gen < 2 ^ 32) (hz : d.size < 2 ^ 32) (hc : d.changeover = false) (hb : d.blocks = []) :
    DeltaCommitted d s (s.commitDelta d) := by
  rw [State.commitDelta_eq hc hb]
  generalize hx : ({ s with twin := { s.twin with gen := d.gen, ckpt := mergeSaved d.recs s.twin.ckpt d.saved } } : State) = x
  have hxtwin : x.twin = { s.twin with gen := d.gen, ckpt := mergeSaved d.recs s.twin.ckpt d.saved } := by rw [← hx]
  have hxmax : x.rd E.Twin.DELTA_MAX = s.rd E.Twin.DELTA_MAX := by rw [← hx]; rfl
  have hxnow : x.now = s.now := by rw [← hx]
  have hxmoves : Moves [.twin, .field] s x := by
    rw [← hx]
    exact .with_twin (.refl ..)
  have hytwin : (x.imageTaken d).twin = x.twin := State.imageTaken_moves.1.2 .twin (by decide)
  have hymax : (x.imageTaken d).rd E.Twin.DELTA_MAX = x.rd E.Twin.DELTA_MAX := ((Leaves.refl ..).imageTaken (by decide) (by decide) (by decide)).rd
  have hynow : (x.imageTaken d).now = x.now := State.imageTaken_now
  have hymoves : Moves [.twin, .field] s (x.imageTaken d) := hxmoves.step State.imageTaken_moves
  clear hx
  generalize x.imageTaken d = y at *
  generalize hw : ((y.wr E.Twin.GEN_COMMITTED d.gen).wr E.Twin.DELTA_LAST d.size).raise E.Twin.DELTA_MAX d.size = w
  have hwtwin : w.twin = y.twin := by rw [← hw, State.raise_twin, State.wr_twin, State.wr_twin]
  have hwnow : w.now = y.now := by rw [← hw, State.raise_now, State.wr_now, State.wr_now]
  have hwgen : w.rd E.Twin.GEN_COMMITTED = d.gen := by
    rw [← hw, State.rd_raise_ne _ _ _ _ (by decide), State.rd_wr_ne _ _ _ _ (by decide), State.rd_wr_self]
    exact Nat.mod_eq_of_lt hg
  have hwlast : w.rd E.Twin.DELTA_LAST = d.size := by
    rw [← hw, State.rd_raise_ne _ _ _ _ (by decide), State.rd_wr_self]
    exact Nat.mod_eq_of_lt hz
  have hwmax : w.rd E.Twin.DELTA_MAX = max (s.rd E.Twin.DELTA_MAX) d.size := by
    rw [← hw, State.rd_raise_self _ hz, State.rd_wr_ne _ _ _ _ (by decide), State.rd_wr_ne _ _ _ _ (by decide), hymax, hxmax]
  have hwmoves : Moves [.twin, .field] s w := by
    rw [← hw]
    exact ((hymoves.step State.wr_moves).step State.wr_moves).step State.raise_moves
  clear hw
  obtain ⟨hgen, hckpt, hsynced⟩ := w.ackCastle_twin
  obtain ⟨hod, hnow⟩ := w.ackCastle_keeps
  have hrd (e : Ent) (ha : e.arch = false) : w.ackCastle.rd e = w.rd e := Leaves.rd (.of_od (.refl ..) hod) ha
  exact ⟨by rw [hgen, hwtwin, hytwin, hxtwin], by rw [hckpt, hwtwin, hytwin, hxtwin], by rw [hsynced, hwtwin, hytwin, hxtwin],
    (hrd _ rfl).trans hwgen, (hrd _ rfl).trans hwlast, (hrd _ rfl).trans hwmax, hnow.trans (hwnow.trans (hynow.trans hxnow)),
    (hwmoves.step State.ackCastle_moves).1⟩

/-! ## DELTA_END -/

theorem State.installTaken_of_same (h : x.rt = s.rt) : State.installTaken s x = x := by
  unfold State.installTaken
  split
  · next a ha =>
    rw [h] at ha
    exact if_pos (by rw [ha, beq_self_eq_true])
  · rfl

/-- The END entry of a delta passes through ring 32. -/
def State.passed (s : State) (d : TwinDelta) : State := ((s.place 32 (.ckpt d.gen d.size)).pop 32).1

theorem State.passed_keeps : Frame [] [] [32] s (s.passed d) ∧ (s.passed d).now = s.now := by
  unfold State.passed
  exact ⟨((Frame.refl ..).place (by simp)).pop (by simp), by simp⟩

theorem State.deltaEnd_standby (h : s.standby = true) : s.deltaEnd d =
    if (d.ok && d.gen == nextGen (s.passed d).twin.gen && d.size ≤ deltaMax) = true then ((s.passed d).commitDelta d).showTwin
    else (s.passed d).startResync.showTwin := by
  have hp : (s.passed d).standby = true := by
    rw [← h]
    exact congrArg (· == 1) (Leaves.rd (.of_frame State.passed_keeps.1 (by simp) (by decide)))
  unfold State.deltaEnd
  rw [h, if_pos rfl]
  exact if_neg (by simpa [State.passed] using hp)

theorem nextGen_lt (g : Nat) : nextGen g < 2 ^ 32 := by
  unfold nextGen
  split
  · norm_num
  · exact Nat.mod_lt _ (by norm_num)

theorem key_committed {e : Ent} (he : e ∈ [E.Twin.GEN_COMMITTED, E.Twin.DELTA_LAST, E.Twin.DELTA_MAX, E.Twin.RESYNCS, E.Twin.AUDIT_MISMATCHES]) :
    (∀ f ∈ twinEnts, e.key ≠ f.key) ∧ e.key / 256 ≠ 0x1B1C := by
  revert e
  decide

theorem State.rd_showTwin {e : Ent}
    (he : e ∈ [E.Twin.GEN_COMMITTED, E.Twin.DELTA_LAST, E.Twin.DELTA_MAX, E.Twin.RESYNCS, E.Twin.AUDIT_MISMATCHES])
    (ha : e.arch = false := by rfl) : s.showTwin.rd e = s.rd e :=
  ((Leaves.refl ..).showTwin (key_committed he).1 (key_committed he).2).rd ha

/-- The report changes nothing of what a committed delta left. -/
theorem DeltaCommitted.showTwin (h : DeltaCommitted d s x) : x.showTwin.twin.gen = d.gen ∧ x.showTwin.twin.ckpt = mergeSaved d.recs s.twin.ckpt d.saved
    ∧ x.showTwin.twin.synced = s.twin.synced ∧ x.showTwin.rd E.Twin.GEN_COMMITTED = d.gen ∧ x.showTwin.rd E.Twin.DELTA_LAST = d.size
    ∧ x.showTwin.rd E.Twin.DELTA_MAX = max (s.rd E.Twin.DELTA_MAX) d.size ∧ x.showTwin.now = s.now
    ∧ Keeps [.twin, .ledger, .field] s x.showTwin := by
  obtain ⟨hgen, hckpt, hsynced, hcommitted, hlast, hmost, hnow, hkeeps⟩ := h
  obtain ⟨v, hv⟩ := x.showTwin_twin
  rw [hv]
  refine ⟨hgen, hckpt, hsynced, (State.rd_showTwin (by simp)).trans hcommitted, (State.rd_showTwin (by simp)).trans hlast,
    (State.rd_showTwin (by simp)).trans hmost, State.showTwin_now.trans hnow, ?_⟩
  exact (hkeeps.mono (by simp)).trans (State.showTwin_moves.1.mono (by simp))

theorem deltaEnd_commits (hs : s.standby = true) (hok : d.ok = true) (hg : d.gen = nextGen s.twin.gen) (hz : d.size ≤ 8388608)
    (hc : d.changeover = false) (hb : d.blocks = []) :
    Completes (.deltaEnd at_ d) s (fun t => t.twin.gen = d.gen ∧ t.twin.ckpt = mergeSaved d.recs s.twin.ckpt d.saved
      ∧ t.rd E.Twin.GEN_COMMITTED = d.gen ∧ t.rd E.Twin.DELTA_LAST = d.size ∧ t.rd E.Twin.DELTA_MAX = max (s.rd E.Twin.DELTA_MAX) d.size
      ∧ t.twin.synced = s.twin.synced ∧ t.now = s.instant at_ ∧ Keeps [.twin, .ledger, .field] s t) := by
  obtain ⟨hpassed, hpnow⟩ := State.passed_keeps (s := s.advance at_) (d := d)
  have hpframe : Frame [] [] [32] s ((s.advance at_).passed d) := (Frame.refl ..).advance.trans hpassed
  have htwin : ((s.advance at_).passed d).twin = s.twin := hpframe.2.1 .twin (by simp)
  have hmax : ((s.advance at_).passed d).rd E.Twin.DELTA_MAX = s.rd E.Twin.DELTA_MAX := Leaves.rd (.of_frame hpframe (by simp) (by decide))
  have heq : (s.advance at_).deltaEnd d = (((s.advance at_).passed d).commitDelta d).showTwin := by
    rw [State.deltaEnd_standby (s := s.advance at_) hs, htwin, if_pos]
    rw [hok, hg, beq_self_eq_true]
    exact decide_eq_true (p := d.size ≤ deltaMax) hz
  obtain ⟨hgen, hckpt, hsynced, hcommitted, hlast, hmost, hnow, hkeeps⟩ :=
    (State.commitDelta_committed (s := (s.advance at_).passed d) (by rw [hg]; exact nextGen_lt _) (by omega) hc hb).showTwin
  rw [← heq] at hgen hckpt hsynced hcommitted hlast hmost hnow hkeeps
  have hpkeeps : Keeps [.twin, .ledger, .field] s ((s.advance at_).passed d) := (Keeps.of_frame hpframe).mono (by simp)
  have hall : Keeps [.twin, .ledger, .field] s ((s.advance at_).deltaEnd d) := hpkeeps.trans hkeeps
  have hrt : ((s.advance at_).deltaEnd d).rt = (s.advance at_).rt := hall.2 .rt (by simp)
  rw [htwin] at hckpt hsynced
  rw [hmax] at hmost
  exact ⟨_, congrArg Host.Outcome.next (State.installTaken_of_same hrt), hgen, hckpt, hcommitted, hlast, hmost, hsynced, hnow.trans hpnow, hall⟩

theorem deltaEnd_discards (hs : s.standby = true) (hbad : d.ok = false ∨ d.gen ≠ nextGen s.twin.gen ∨ 8388608 < d.size) :
    Completes (.deltaEnd at_ d) s (fun t => t.twin.gen = s.twin.gen ∧ t.twin.ckpt = s.twin.ckpt ∧ t.twin.synced = false
      ∧ t.rd E.Twin.RESYNCS = min (2 ^ 32 - 1) (s.rd E.Twin.RESYNCS + 1)
      ∧ t.now = s.instant at_ ∧ Frame [.twin, .ledger] (E.Twin.RESYNCS :: twinEnts) [28, 32] s t) := by
  obtain ⟨hpassed, hpnow⟩ := State.passed_keeps (s := s.advance at_) (d := d)
  have hpframe : Frame [] [] [32] s ((s.advance at_).passed d) := (Frame.refl ..).advance.trans hpassed
  have htwin : ((s.advance at_).passed d).twin = s.twin := hpframe.2.1 .twin (by simp)
  have hcount : ((s.advance at_).passed d).rd E.Twin.RESYNCS = s.rd E.Twin.RESYNCS := Leaves.rd (.of_frame hpframe (by simp) (by decide))
  have heq : (s.advance at_).deltaEnd d = ((s.advance at_).passed d).startResync.showTwin := by
    rw [State.deltaEnd_standby (s := s.advance at_) hs, htwin, if_neg]
    simp only [Bool.and_eq_true, beq_iff_eq, decide_eq_true_eq]
    rintro ⟨⟨hok, hg⟩, hz⟩
    have hz' : d.size ≤ 8388608 := hz
    rcases hbad with h | h | h
    · exact absurd hok (by simp [h])
    · exact h hg
    · omega
  have hframe : Frame [.twin, .ledger] (E.Twin.RESYNCS :: twinEnts) [28, 32] s ((s.advance at_).deltaEnd d) := by
    rw [heq]
    exact ((hpframe.mono (by simp) (by simp) (by simp)).startResync_any (by simp) (by simp +contextual [twinEnts]) (by simp)).showTwin (by simp)
      (by simp +contextual) (by simp)
  have hrt : ((s.advance at_).deltaEnd d).rt = (s.advance at_).rt := hframe.2.1 .rt (by simp)
  obtain ⟨v, hv⟩ := ((s.advance at_).passed d).startResync.showTwin_twin
  rw [State.startResync_twin, htwin, ← heq] at hv
  refine ⟨_, congrArg Host.Outcome.next (State.installTaken_of_same hrt), ?_, ?_, ?_, ?_, ?_, hframe⟩
  · rw [hv]
  · rw [hv]
  · rw [hv]
  · rw [heq, State.rd_showTwin (by simp), State.rd_startResync, hcount]
  · exact ((congrArg State.now heq).trans (State.showTwin_now.trans State.now_startResync)).trans hpnow

/-! ## RESYNC_DONE and AUDIT -/

theorem resyncDone_completes (hs : s.standby = true) (hl : s.rd E.Twin.LINK_STATE ≠ 2) (hg : d.gen < 2 ^ 32) (hz : d.size < 2 ^ 32)
    (hc : d.changeover = false) (hb : d.blocks = []) :
    Completes (.resyncDone at_ d) s (fun t => t.twin.synced = true ∧ t.twin.gen = d.gen ∧ t.twin.ckpt = mergeSaved allRecords {} d.saved
      ∧ t.rd E.Twin.GEN_COMMITTED = d.gen ∧ t.rd E.Twin.DELTA_LAST = d.size
      ∧ t.now = s.instant at_ ∧ Keeps [.twin, .ledger, .field] s t) := by
  generalize hx : ({ s.advance at_ with twin := { (s.advance at_).twin with ckpt := {} } } : State) = x
  have hxckpt : x.twin.ckpt = {} := by rw [← hx]
  have hxnow : x.now = s.instant at_ := by rw [← hx]; rfl
  have hxframe : Frame [.twin] [] [] s x := by
    rw [← hx]
    exact (Frame.refl ..).advance.with_twin (by simp)
  obtain ⟨hgen, hckpt, -, hcommitted, hlast, -, hnow, hkeeps⟩ :=
    State.commitDelta_committed (s := x) (d := { d with recs := allRecords }) hg hz hc hb
  generalize hy : x.commitDelta { d with recs := allRecords } = y at *
  generalize hw : ({ y with twin := { y.twin with synced := true } } : State).wr E.Twin.DELTA_LAST d.size = w
  have hwtwin : w.twin = { y.twin with synced := true } := by rw [← hw, State.wr_twin]
  have hwnow : w.now = y.now := by rw [← hw, State.wr_now]
  have hwlast : w.rd E.Twin.DELTA_LAST = d.size := by
    rw [← hw, State.rd_wr_self]
    exact Nat.mod_eq_of_lt hz
  have hwgen : w.rd E.Twin.GEN_COMMITTED = d.gen := by
    rw [← hw, State.rd_wr_ne _ _ _ _ (by decide)]
    exact hcommitted
  have hwkeeps : Keeps [.twin, .ledger, .field] s w := by
    have hyw : Moves [.twin] y w := by
      rw [← hw]
      exact (Moves.with_twin (.refl ..)).step State.wr_moves
    exact (((Keeps.of_frame hxframe).mono (by simp)).trans (hkeeps.mono (by simp))).trans (hyw.1.mono (by simp))
  have heq : (s.advance at_).resyncDone d = (w.logTwin 0x03 (vBool true)).showTwin := by
    have hs' : (s.advance at_).standby = true := hs
    unfold State.resyncDone
    refine (if_neg ?_).trans ?_
    · rw [hs']
      exact fun h => hl (of_decide_eq_true h)
    · rw [← hw, ← hy, ← hx]
  have hlog : (w.logTwin 0x03 (vBool true)).twin = w.twin := State.logTwin_moves.1.2 .twin (by decide)
  have hloglast (e : Ent) (he : e ∈ [E.Twin.GEN_COMMITTED, E.Twin.DELTA_LAST, E.Twin.DELTA_MAX, E.Twin.RESYNCS, E.Twin.AUDIT_MISMATCHES])
      (ha : e.arch = false) : (w.logTwin 0x03 (vBool true)).rd e = w.rd e :=
    Leaves.rd (.of_frame (ps := [.ledger]) (es := ledgerEnts) (rs := [28]) ((Frame.refl ..).logTwin (by simp) (by simp) (by simp))
      (fun f m => (key_committed he).1 f (by simp [twinEnts, m])) (by simpa using (key_committed he).2)) ha
  have hall : Keeps [.twin, .ledger, .field] s ((s.advance at_).resyncDone d) := by
    rw [heq]
    exact (hwkeeps.trans (State.logTwin_moves.1.mono (by simp))).trans (State.showTwin_moves.1.mono (by simp))
  have hrt : ((s.advance at_).resyncDone d).rt = (s.advance at_).rt := hall.2 .rt (by simp)
  obtain ⟨v, hv⟩ := (w.logTwin 0x03 (vBool true)).showTwin_twin
  rw [hlog, hwtwin, ← heq] at hv
  refine ⟨_, congrArg Host.Outcome.next (State.installTaken_of_same hrt), ?_, ?_, ?_, ?_, ?_, ?_, hall⟩
  · rw [hv]
  · rw [hv]
    exact hgen
  · rw [hv]
    exact hckpt.trans (by rw [hxckpt])
  · rw [heq, State.rd_showTwin (by simp), hloglast _ (by simp) rfl, hwgen]
  · rw [heq, State.rd_showTwin (by simp), hloglast _ (by simp) rfl, hwlast]
  · rw [heq, State.showTwin_now, State.logTwin_now, hwnow, hnow, hxnow]

theorem audit_completes {ok : Bool} (hs : s.standby = true) (hsync : s.twin.synced = true)
    (hdue : s.twin.auditAt + 60000000000 * s.rd E.Twin.AUDIT_INTERVAL ≤ s.instant at_) :
    Completes (.audit at_ ok) s (fun t => t.twin.auditAt = s.instant at_ ∧ t.twin.synced = ok ∧ t.twin.gen = s.twin.gen
      ∧ t.rd E.Twin.AUDIT_MISMATCHES = (if ok then s.rd E.Twin.AUDIT_MISMATCHES else min (2 ^ 32 - 1) (s.rd E.Twin.AUDIT_MISMATCHES + 1))
      ∧ t.now = s.instant at_ ∧ Keeps [.twin, .ledger, .blocks, .free] s t) := by
  generalize hx : ({ s.advance at_ with twin := { (s.advance at_).twin with auditAt := (s.advance at_).now } } : State) = x
  have hxtwin : x.twin = { s.twin with auditAt := s.instant at_ } := by rw [← hx]; rfl
  have hxnow : x.now = s.instant at_ := by rw [← hx]; rfl
  have hxrd : x.rd E.Twin.AUDIT_MISMATCHES = s.rd E.Twin.AUDIT_MISMATCHES := by rw [← hx]; rfl
  have hxkeeps : Keeps [.twin, .ledger, .blocks, .free] s x := by
    rw [← hx]
    exact .of_frame ((Frame.refl _ [] [] s).advance.with_twin (by simp))
  have heq : (s.advance at_).audit ok = if ok = true then x else (((x.incR E.Twin.AUDIT_MISMATCHES).logTwin 0x04 []).startResync).showTwin := by
    have hs' : (s.advance at_).standby = true := hs
    unfold State.audit
    rw [hx]
    refine if_neg ?_
    rw [hs', State.advance_twin, hsync]
    exact fun h => absurd (of_decide_eq_true h) (Nat.not_lt.2 hdue)
  cases ok with
  | true =>
    rw [if_pos rfl] at heq
    refine ⟨_, congrArg Host.Outcome.next heq, ?_, ?_, ?_, ?_, hxnow, hxkeeps⟩
    · rw [hxtwin]
    · rw [hxtwin]
      exact hsync
    · rw [hxtwin]
    · rw [hxrd, if_pos rfl]
  | false =>
    rw [if_neg Bool.false_ne_true] at heq
    have hlog : ((x.incR E.Twin.AUDIT_MISMATCHES).logTwin 0x04 []).twin = x.twin :=
      (State.logTwin_moves.1.2 .twin (by decide)).trans (State.incR_twin ..)
    have hlogrd : ((x.incR E.Twin.AUDIT_MISMATCHES).logTwin 0x04 []).rd E.Twin.AUDIT_MISMATCHES
        = min (2 ^ 32 - 1) (s.rd E.Twin.AUDIT_MISMATCHES + 1) := by
      refine (Leaves.rd (.of_frame (ps := [.ledger]) (es := ledgerEnts) (rs := [28]) ((Frame.refl ..).logTwin (by simp) (by simp) (by simp))
        (by decide) (by decide))).trans ?_
      rw [State.rd_incR_self (by decide), hxrd]
      rfl
    obtain ⟨v, hv⟩ := (((x.incR E.Twin.AUDIT_MISMATCHES).logTwin 0x04 []).startResync).showTwin_twin
    rw [State.startResync_twin, hlog, hxtwin] at hv
    refine ⟨_, congrArg Host.Outcome.next heq, ?_, ?_, ?_, ?_, ?_, ?_⟩
    · rw [hv]
    · rw [hv]
    · rw [hv]
    · rw [State.rd_showTwin (by simp), if_neg Bool.false_ne_true, ← hlogrd]
      exact ((Leaves.refl ..).startResync (by decide) (by decide)).rd
    · rw [State.showTwin_now, State.now_startResync, State.logTwin_now, State.incR_now, hxnow]
    · exact hxkeeps.trans (((((Moves.refl [.twin, .ledger, .blocks, .free] x).step State.incR_moves).step State.logTwin_moves).step
        State.startResync_moves).step State.showTwin_moves).1

end

/-- Settles O53: a delta is committed or discarded whole, and RESYNC_DONE and AUDIT follow their definitions. -/
theorem checkpointStreamOfTheStandby : Obligations.CheckpointStreamOfTheStandby := by
  refine ⟨fun s at_ d hs hok hg hz hc hb => deltaEnd_commits hs hok hg hz hc hb, fun s at_ d hs hbad => deltaEnd_discards hs hbad,
    fun s at_ d hs hl hg hz hc hb => resyncDone_completes hs hl hg hz hc hb, fun s at_ ok hs hsync hdue => audit_completes hs hsync hdue⟩

end Sys2Proof.Machine
end

section

/-! SUPPORT. A field enable that asserts while a CAN point freed by the removal of its orphaned force waits for the next set of the field
values (O51, R112, R475). -/
namespace Sys2Proof.Machine

section
variable {s : State} {p : Nat}

/-- The field values are set: the freed points take their SAFE values. -/
theorem State.setEffective_can (h : s.rt.freed = [p]) : s.setEffective.can = (s.freePoint p).can := by
  unfold State.setEffective
  rw [h]
  rfl

theorem State.presetLatches_can (h : s.rt.freed = [p]) : s.presetLatches.can = (s.freePoint p).can :=
  (State.latchOutputs_moves.1.2 .can (by decide)).trans (State.setEffective_can h)

end

namespace FreedAtTheStart

/-- The point of object 0 of CAN channel 0. -/
def point : Nat := pointId 7 0

/-- A module that drives TOKEN, with no take-over and no resumption due; `point` has lost its orphaned force, and its object holds a committed
image. -/
def state : State :=
  ({ State.reset with twin := { State.reset.twin with token := true }, rt := { State.reset.rt with freed := [point] } }).setObj 0 0 { committed := true }

/-- The object takes no part in what CAN sends once its point is freed. -/
theorem freePoint_can (s : State) : (s.freePoint point).can = (s.stopObject 0 0).can := rfl

theorem muted (s : State) : ((s.stopObject 0 0).obj 0 0).committed = false := by
  unfold State.stopObject
  rw [State.obj_setObj_self]

theorem obj_congr {s t : State} (h : t.can = s.can) : t.obj 0 0 = s.obj 0 0 := by
  unfold State.obj State.chan
  rw [h]

/-- The enable asserts with neither a resumption due nor a take-over. -/
theorem fieldEnableAssert_can {s : State} (ht : s.twin.token = true) (hl : s.twin.seenLogic = false) (hf : s.twin.seenField = false)
    (h0 : s.twin.tokenAt + 50000 ≤ s.now) (h1 : s.twin.logicAt + 50000 ≤ s.now) (h2 : s.twin.fieldAt + 50000 ≤ s.now)
    (he : s.field.enable = false) (hr : s.power.resumeAt = none) (htake : s.twin.taking = none) (hp : s.rt.freed = [point]) :
    (s.fieldEnableAssert.obj 0 0).committed = false := by
  have hpower : s.fieldOn.power = s.power := State.fieldOn_moves.1.2 .power (by decide)
  have htwin : s.fieldOn.twin = s.twin := State.fieldOn_moves.1.2 .twin (by decide)
  have hrt : s.fieldOn.rt = s.rt := State.fieldOn_moves.1.2 .rt (by decide)
  have hbody : s.fieldEnableAssert = ((({ s.fieldOn with
      field := { s.fieldOn.field with resume := true }, power := { s.fieldOn.power with resumeAt := some s.fieldOn.nextBoundary } }
      : State).presetLatches.wr E.Start.START_STEP 11).wrT E.Start.RESUME_TB3 s.fieldOn.nextBoundary).showTwin := by
    unfold State.fieldEnableAssert
    dsimp only
    rw [if_neg (by simp [ht, hl, hf, he, Nat.not_lt.2 h0, h1, h2]), hpower, htwin, hr, htake]
    rfl
  have hcan : s.fieldEnableAssert.can = ({ s.fieldOn with
      field := { s.fieldOn.field with resume := true }, power := { s.fieldOn.power with resumeAt := some s.fieldOn.nextBoundary } }
      : State).presetLatches.can := by
    rw [hbody]
    exact (State.showTwin_moves.1.2 .can (by decide)).trans ((State.wrT_can ..).trans (State.wr_can ..))
  rw [State.presetLatches_can (p := point) (by rw [← hp]; exact congrArg RuntimeSt.freed hrt), freePoint_can] at hcan
  rw [obj_congr hcan, muted]

theorem committed : (state.obj 0 0).committed = true := by
  unfold state
  rw [State.obj_setObj_self]

end FreedAtTheStart

/-- Refutes O51: setting the field values at a start takes a freed CAN point off the bus, and the statement has CAN stand still. -/
theorem not_tokensAndTheFieldEnable : ¬ Obligations.TokensAndTheFieldEnable := by
  unfold Obligations.TokensAndTheFieldEnable
  rintro ⟨-, -, -, -, henable, -⟩
  obtain ⟨t, ht, -, -, -, -, -, -, hkeeps⟩ := henable FreedAtTheStart.state 60000 rfl (by decide) rfl rfl (by decide) (by decide)
  obtain rfl : (FreedAtTheStart.state.advance 60000).fieldEnableAssert = t := by
    injection (show exec (.fieldEnableAssert 60000) FreedAtTheStart.state = .next _ from rfl).symm.trans ht
  have hcan : (FreedAtTheStart.state.advance 60000).fieldEnableAssert.can = FreedAtTheStart.state.can := hkeeps .can (by decide)
  have hmuted := FreedAtTheStart.fieldEnableAssert_can (s := FreedAtTheStart.state.advance 60000) rfl rfl rfl (by decide) (by decide) (by decide)
    rfl rfl rfl rfl
  rw [FreedAtTheStart.obj_congr hcan, FreedAtTheStart.committed] at hmuted
  exact Bool.noConfusion hmuted

end Sys2Proof.Machine
end

section

/-! SUPPORT. O55. Pages, retired segments, the opening of the book, READ_BLOCK and the clearing of the Endgame Ring (R510 to R516). -/
namespace Sys2Proof.Machine

section
variable {s x y : State} {at_ n k : Nat} {w : Writer} {ring : Bool} {b p : List Byte}

theorem State.showLedger_ledger : s.showLedger.ledger = s.ledger := State.showLedger_moves.1.2 .ledger (by decide)

theorem State.answered_ledger : s.answered.ledger = s.ledger := State.answered_part (p := .ledger) (by decide)

theorem Leaves.showLedger {key : Nat} (h : Leaves key s x) (he : ∀ f ∈ ledgerEnts, key ≠ f.key) : Leaves key s x.showLedger :=
  h.trans (.of_frame ((Frame.refl [] ledgerEnts [] x).showLedger (fun _ m => m)) he (by simp))

theorem Frame.renewB {ps : List Part} {es : List Ent} {rs : List Nat} {e : Ent} (h : Frame ps es rs s x) (he : e ∈ es) (hp : Part.free ∈ ps) :
    Frame ps es rs s (x.renewB e n) := (h.wrB he).drawn hp

theorem Frame.with_read {ps : List Part} {es : List Ent} {rs : List Nat} (h : Frame ps es rs s x) (hp : Part.answer ∈ ps) :
    Frame ps es rs s { x with odValue := b, odStatus := n } := by
  refine h.trans ⟨rfl, fun q hq => ?_, fun _ _ _ => rfl, fun _ _ => rfl⟩
  cases q <;> simp_all [Part.same]

/-! ## FLUSH_PAGE -/

theorem flushPage_completes : Completes (.flushPage at_ n) s (fun t => t.ledger = { s.ledger with buffer := s.ledger.buffer.drop n }
    ∧ t.now = s.instant at_ ∧ Frame [.ledger] ledgerEnts [] s t) :=
  ⟨_, rfl, State.showLedger_ledger, State.showLedger_now, ((Frame.refl ..).advance.with_ledger (by simp)).showLedger (by simp)⟩

/-! ## SEGMENT_RETIRED -/

/-- A record that the log takes or loses changes how much of the ledger is staged and lost, and nothing else of it. -/
theorem State.log_ledger (a e : Nat) : ∃ m d, (s.log a e p).ledger = { s.ledger with staged := m, dropped := d } := by
  unfold State.log State.logAt
  split
  · exact ⟨s.ledger.staged + p.length, s.ledger.dropped, by simp⟩
  · exact ⟨s.ledger.staged, s.ledger.dropped + 1, by simp⟩

/-- The records of a retired segment are written again in the next one (R511). -/
def State.rewritten (s : State) (k : Nat) (g : Segment) (ring : Bool) : State :=
  let cur := if ring then s.ledger.ringSeg else s.ledger.bookSeg
  let t := s.nextSeg ring
  let n := if ring then t.ledger.ringSeg else t.ledger.bookSeg
  let t := t.setLedger { t.ledger with journal := t.ledger.journal.put n g }
  if cur = k then t
  else if ring then t.setLedger { t.ledger with ringSeg := cur } else t.setLedger { t.ledger with bookSeg := cur }

/-- The segment is marked and, where it held records, written again. -/
def State.segmentMoved (s : State) (k : Nat) : State :=
  let y := s.setLedger { s.ledger with journal := s.ledger.journal.put k { retired := true } }
  if (s.ledger.journal.fetch {} k).recs.isEmpty then y
  else y.rewritten k (s.ledger.journal.fetch {} k) (decide (s.ledger.joined.getD 257 ≤ k))

theorem State.segmentRetired_eq (hk : k < 1024) (hr : (s.ledger.journal.fetch {} k).retired = false) :
    s.segmentRetired k = (((s.incR E.Ldg.SEGMENTS_RETIRED).segmentMoved k).log 0x0F 0x09 (vU16 k)).showLedger := by
  have hledger : (s.incR E.Ldg.SEGMENTS_RETIRED).ledger = s.ledger := State.incR_ledger ..
  unfold State.segmentRetired State.segmentMoved
  rw [if_neg (by rw [hr]; simp; omega), hledger]
  rfl

/-- Two ledgers with the same sequence number, buffer and hidden records. -/
def LedgerSt.SameRun (a b : LedgerSt) : Prop := b.next = a.next ∧ b.buffer = a.buffer ∧ b.hidden = a.hidden

theorem State.nextSeg_run : s.ledger.SameRun (s.nextSeg ring).ledger := by
  unfold State.nextSeg
  cases ring <;> exact ⟨rfl, rfl, rfl⟩

theorem State.rewritten_run {g : Segment} : s.ledger.SameRun (s.rewritten k g ring).ledger := by
  obtain ⟨hnext, hbuffer, hhidden⟩ := s.nextSeg_run (ring := ring)
  unfold State.rewritten
  extract_lets cur t n u
  split
  · exact ⟨hnext, hbuffer, hhidden⟩
  · split <;> exact ⟨hnext, hbuffer, hhidden⟩

theorem State.segmentMoved_run : s.ledger.SameRun (s.segmentMoved k).ledger := by
  unfold State.segmentMoved
  extract_lets l y
  split
  · exact ⟨rfl, rfl, rfl⟩
  · exact y.rewritten_run

theorem State.segmentMoved_empty (h : (s.ledger.journal.fetch {} k).recs = []) :
    ((s.segmentMoved k).ledger.journal.fetch {} k).retired = true := by
  unfold State.segmentMoved
  extract_lets l y
  rw [h, List.isEmpty_nil, if_pos rfl]
  exact congrArg Segment.retired (SMap.fetch_put_self ..)

theorem LedgerOnly.segmentMoved (h : LedgerOnly x y) : LedgerOnly x (y.segmentMoved k) := by
  unfold State.segmentMoved State.rewritten
  exact .ite (fun _ => h.setLedger) fun _ => .ite (fun _ => h.setLedger.nextSeg.setLedger) fun _ =>
    .ite (fun _ => h.setLedger.nextSeg.setLedger.setLedger) fun _ => h.setLedger.nextSeg.setLedger.setLedger

theorem segmentRetired_completes (hk : k < 1024) (hr : (s.ledger.journal.fetch {} k).retired = false) :
    Completes (.segmentRetired at_ k) s (fun t =>
      ((s.ledger.journal.fetch {} k).recs = [] → (t.ledger.journal.fetch {} k).retired = true)
      ∧ t.rd E.Ldg.SEGMENTS_RETIRED = min (2 ^ 16 - 1) (s.rd E.Ldg.SEGMENTS_RETIRED + 1)
      ∧ t.ledger.next = s.ledger.next ∧ t.ledger.buffer = s.ledger.buffer ∧ t.ledger.hidden = s.ledger.hidden
      ∧ t.now = s.instant at_ ∧ Frame (.ledger :: retainParts) (E.Ldg.SEGMENTS_RETIRED :: ledgerEnts ++ retainEnts) [28, 31] s t) := by
  have heq : (s.advance at_).segmentRetired k
      = (((((s.advance at_).incR E.Ldg.SEGMENTS_RETIRED).segmentMoved k).log 0x0F 0x09 (vU16 k)).showLedger) := State.segmentRetired_eq hk hr
  have hcount : ((s.advance at_).incR E.Ldg.SEGMENTS_RETIRED).rd E.Ldg.SEGMENTS_RETIRED = min (2 ^ 16 - 1) (s.rd E.Ldg.SEGMENTS_RETIRED + 1) :=
    State.rd_incR_self (by decide)
  have hledger : ((s.advance at_).incR E.Ldg.SEGMENTS_RETIRED).ledger = s.ledger := State.incR_ledger ..
  have hnow : ((s.advance at_).incR E.Ldg.SEGMENTS_RETIRED).now = s.instant at_ := State.incR_now ..
  have hframe : Frame (.ledger :: retainParts) (E.Ldg.SEGMENTS_RETIRED :: ledgerEnts ++ retainEnts) [28, 31] s
      ((s.advance at_).incR E.Ldg.SEGMENTS_RETIRED) :=
    (Frame.refl ..).advance.wrR (by simp) (by simp [retainParts]) (by simp [retainEnts])
  generalize (s.advance at_).incR E.Ldg.SEGMENTS_RETIRED = z at heq hcount hledger hnow hframe
  have honly : LedgerOnly z (z.segmentMoved k) := (LedgerOnly.refl z).segmentMoved
  obtain ⟨hnext, hbuffer, hhidden⟩ := z.segmentMoved_run (k := k)
  obtain ⟨m, d, hlog⟩ := (z.segmentMoved k).log_ledger (p := vU16 k) 0x0F 0x09
  have hempty : (s.ledger.journal.fetch {} k).recs = [] → ((z.segmentMoved k).ledger.journal.fetch {} k).retired = true :=
    fun h => State.segmentMoved_empty (by rw [hledger]; exact h)
  refine ⟨_, congrArg Host.Outcome.next heq, fun h => ?_, ?_, ?_, ?_, ?_, ?_, ?_⟩
  · rw [State.showLedger_ledger, hlog]
    exact hempty h
  · rw [← hcount]
    refine ((Leaves.log (.of_od (.refl ..) honly.od) ?_).showLedger ?_).rd <;> decide
  · rw [State.showLedger_ledger, hlog, ← hledger]
    exact hnext
  · rw [State.showLedger_ledger, hlog, ← hledger]
    exact hbuffer
  · rw [State.showLedger_ledger, hlog, ← hledger]
    exact hhidden
  · rw [State.showLedger_now, State.log_now, honly.now, hnow]
  · exact ((hframe.ledgerOnly honly (by simp)).log (by simp) (by simp)).showLedger (by simp +contextual)

/-! ## Records: the sequence number, and the book (R503 to R512) -/

theorem State.next_ownRec : (s.ownRec ring k p).ledger.next = s.ledger.next + 1 := by
  unfold State.ownRec
  split <;> rfl

theorem State.next_commitClock : (s.commitClock ring).ledger.next = s.ledger.next + 1 := by
  unfold State.commitClock
  exact State.next_ownRec

theorem State.le_next_roomFor : s.ledger.next ≤ (s.roomFor ring n).ledger.next := by
  unfold State.roomFor State.sealSeg
  extract_lets g z1 z2 z
  have hz : z.ledger.next = s.ledger.next + 1 := State.next_ownRec
  have hseg : (z.nextSeg ring).ledger.next = z.ledger.next := State.nextSeg_run.1
  split
  · split
    · rw [State.next_commitClock]
      omega
    · exact le_rfl
  · split
    · split
      · omega
      · rw [State.next_commitClock, hseg]
        omega
    · exact le_rfl

/-- The book as it opened: its first record, its size, and that it has opened. -/
def LedgerSt.Opened (first size : Nat) (l : LedgerSt) : Prop := l.bookFirst = first ∧ l.bookN = size ∧ l.bookState ≠ 0

theorem State.commitClock_opened {first size : Nat} (h : s.ledger.Opened first size) : (s.commitClock ring).ledger.Opened first size := by
  obtain ⟨hfirst, hsize, hstate⟩ := h
  have hown (e : Nat) (q : List Byte) : (s.ownRec ring e q).ledger.Opened first size := by
    unfold State.ownRec
    split
    · exact ⟨hfirst, hsize, Nat.succ_ne_zero 1⟩
    · exact ⟨hfirst, hsize, hstate⟩
  unfold State.commitClock
  exact hown ..

theorem State.openBook_opened (h : s.ledger.bookState = 0) :
    s.openBook.ledger.Opened s.ledger.next (s.rd E.Ldg.BOOK_SIZE) ∧ s.ledger.next < s.openBook.ledger.next := by
  unfold State.openBook
  rw [if_neg (by simp [h]), State.showLedger_ledger, State.next_commitClock]
  exact ⟨State.commitClock_opened ⟨rfl, rfl, Nat.one_ne_zero⟩, Nat.lt_add_right 1 (Nat.lt_succ_self _)⟩

theorem Frame.openBook {ps : List Part} {es : List Ent} {rs : List Nat} (h : Frame ps es rs s x) (hp : Part.ledger ∈ ps)
    (he : ∀ e ∈ ledgerEnts, e ∈ es) : Frame ps es rs s x.openBook := by
  unfold State.openBook
  exact .ite (fun _ => h) fun _ => (h.ledgerOnly (LedgerOnly.refl x).setLedger.appendRec.commitClock hp).showLedger he

theorem bookOpen_completes (h : s.accepts at_ w E.Ldg.BOOK_OPEN.key .u32 (.num n)) (h0 : s.ledger.bookState = 0) :
    Completes (.bookOpen at_ w n) s (fun t => t.odStatus = 0 ∧ t.ledger.bookFirst = s.ledger.next ∧ t.ledger.bookN = s.rd E.Ldg.BOOK_SIZE
      ∧ t.ledger.bookState ≠ 0 ∧ s.ledger.next < t.ledger.next
      ∧ t.now = s.instant at_ ∧ Frame [.answer, .ledger, .free] (E.Ldg.LEDGER_NONCE :: ledgerEnts ++ genEnts) [] s t) := by
  obtain ⟨hstep, -⟩ := State.writeStep_effect h rfl (by decide) (by decide) (by decide)
  have heff : ((s.advance at_).reached E.Ldg.BOOK_OPEN.key (.num n)).effOwner w E.Ldg.BOOK_OPEN.key (.num n)
      = ((s.advance at_).renew E.Ldg.LEDGER_NONCE).openBook := rfl
  rw [heff] at hstep
  have hledger : ((s.advance at_).renew E.Ldg.LEDGER_NONCE).ledger = s.ledger := rfl
  have hsize : ((s.advance at_).renew E.Ldg.LEDGER_NONCE).rd E.Ldg.BOOK_SIZE = s.rd E.Ldg.BOOK_SIZE := ((Leaves.refl ..).renew (by decide)).rd
  have hnow : ((s.advance at_).renew E.Ldg.LEDGER_NONCE).now = s.instant at_ := rfl
  have hframe : Frame [.answer, .ledger, .free] (E.Ldg.LEDGER_NONCE :: ledgerEnts) [] s ((s.advance at_).renew E.Ldg.LEDGER_NONCE) :=
    (Frame.refl ..).advance.renew (by simp) (by simp)
  generalize (s.advance at_).renew E.Ldg.LEDGER_NONCE = z at hstep hledger hsize hnow hframe
  obtain ⟨⟨hfirst, hbook, hstate⟩, hnext⟩ := State.openBook_opened (s := z) (by rw [hledger]; exact h0)
  rw [hledger] at hfirst hnext
  rw [hsize] at hbook
  exact ⟨_, congrArg Host.Outcome.next hstep, rfl, by rw [State.answered_ledger, hfirst], by rw [State.answered_ledger, hbook],
    by rw [State.answered_ledger]; exact hstate, by rw [State.answered_ledger]; exact hnext,
    by rw [State.answered_now, State.openBook_now, hnow],
    (hframe.openBook (by simp) (by simp +contextual)).answered (by simp)⟩

/-! ## CLEAR_RING (R515, R516) -/

/-- The ring is cleared up to its own CLEARED record. -/
theorem State.clearRing_leaves : ∃ y, LedgerOnly s y ∧ s.clearRing n = ((y.incR E.Ldg.CLEARS).wr E.Ldg.CLEAR_RESULT 0).showLedger
    ∧ y.ledger.hidden + 1 = y.ledger.next ∧ s.ledger.next ≤ y.ledger.hidden := by
  unfold State.clearRing
  extract_lets z seq rs lo hi v l u
  exact ⟨u, (LedgerOnly.refl s).roomFor.appendRec.setLedger, rfl, rfl, State.le_next_roomFor⟩

theorem clearRing_completes (h : s.accepts at_ w E.Ldg.CLEAR_RING.key .octets (.bytes p)) :
    Completes (.clearRing at_ w p) s (fun t => t.odStatus = 0 ∧ t.rd E.Ldg.CLEAR_RESULT = 0
      ∧ t.rd E.Ldg.CLEARS = min (2 ^ 32 - 1) (s.rd E.Ldg.CLEARS + 1) ∧ t.ledger.hidden + 1 = t.ledger.next ∧ s.ledger.next ≤ t.ledger.hidden
      ∧ t.now = s.instant at_
      ∧ Frame retainParts ([E.Ldg.CLEAR_RESULT, E.Ldg.CLEARS, E.Ldg.CLEAR_CHALLENGE] ++ ledgerEnts ++ retainEnts) [28, 31] s t) := by
  obtain ⟨hstep, -⟩ := State.writeStep_effect h rfl (by decide) (by decide) (by decide)
  have heff : ((s.advance at_).reached E.Ldg.CLEAR_RING.key (.bytes p)).effOwner w E.Ldg.CLEAR_RING.key (.bytes p)
      = (((s.advance at_).renewB E.Ldg.CLEAR_CHALLENGE 16).wr E.Ldg.CLEAR_RESULT 0).clearRing w.node := rfl
  rw [heff] at hstep
  generalize hz : ((s.advance at_).renewB E.Ldg.CLEAR_CHALLENGE 16).wr E.Ldg.CLEAR_RESULT 0 = z at hstep
  have hledger : z.ledger = s.ledger := by rw [← hz, State.wr_ledger]; rfl
  have hclears : z.rd E.Ldg.CLEARS = s.rd E.Ldg.CLEARS := by
    rw [← hz]
    exact (((Leaves.refl ..).renewB (by decide)).wr (by decide)).rd
  have hnow : z.now = s.instant at_ := by rw [← hz, State.wr_now]; rfl
  have hframe : Frame retainParts ([E.Ldg.CLEAR_RESULT, E.Ldg.CLEARS, E.Ldg.CLEAR_CHALLENGE] ++ ledgerEnts ++ retainEnts) [28, 31] s z := by
    rw [← hz]
    exact ((Frame.refl ..).advance.renewB (by simp) (by simp [retainParts])).wr (by simp)
  obtain ⟨y, honly, heq, hlast, hfirst⟩ := State.clearRing_leaves (s := z) (n := w.node)
  rw [hledger] at hfirst
  have hyrd : y.rd E.Ldg.CLEARS = z.rd E.Ldg.CLEARS := Leaves.rd (.of_od (.refl ..) honly.od)
  have hyframe := hframe.ledgerOnly honly (by simp [retainParts])
  have hynow := honly.now.trans hnow
  have hl : (z.clearRing w.node).answered.ledger = y.ledger := by
    rw [State.answered_ledger, heq, State.showLedger_ledger, State.wr_ledger, State.incR_ledger]
  refine ⟨_, congrArg Host.Outcome.next hstep, rfl, ?_, ?_, by rw [hl]; exact hlast, by rw [hl]; exact hfirst, ?_, ?_⟩
  · rw [State.rd_answered _ (by decide), heq]
    refine (((Leaves.refl ..).showLedger (by decide)).rd).trans ?_
    rw [State.rd_wr_self]
    rfl
  · rw [State.rd_answered _ (by decide), heq]
    refine (((Leaves.refl ..).showLedger (by decide)).rd).trans ?_
    rw [State.rd_wr_ne _ _ _ _ (by decide), State.rd_incR_self (by decide), hyrd, hclears]
    rfl
  · rw [State.answered_now, heq, State.showLedger_now, State.wr_now, State.incR_now, hynow]
  · rw [heq]
    refine ((((hyframe.wrR (e := E.Ldg.CLEARS) (by simp) (by simp [retainParts]) (by simp [retainEnts])).wr (by simp)).showLedger
      (by simp +contextual)).answered (by simp [retainParts])).mono (fun _ m => m) (fun f m => ?_) fun _ m => m
    rcases List.mem_append.1 m with m | m
    · exact m
    · exact List.mem_append_right _ (List.mem_append_left _ m)

/-! ## READ_BLOCK (R514) -/

/-- READ_BLOCK reads the block from the reader's cursor on. -/
theorem State.valueOf_readBlock {r : Reader} {e : Ent} {c : Nat × Bool × Nat} (h : s.ledgerReader r = some c) :
    s.valueOf r 0x700102 e = .bytes (s.readBlock c.1 c.2.1).1 := by
  have hmodule : s.moduleView 0x7001 2 = none := by simp [State.moduleView]
  have hrun : s.runView 0x7001 2 = none := by
    unfold State.runView
    simp
  have hfield : s.fieldView 0x7001 2 = none := by simp [State.fieldView]
  have hview : s.ledgerView r 2 = some (.bytes (s.readBlock c.1 c.2.1).1) := by
    unfold State.ledgerView
    rw [h]
    rfl
  simp [State.valueOf, hmodule, hrun, hfield, hview]

/-- The cursor of the reader stands behind the block. -/
theorem State.delivered_cursor {r : Reader} {c : Nat × Bool × Nat} (h : s.ledgerReader r = some c) :
    ((s.delivered r E.Ldg.READ_BLOCK.key).ledgerReader r).map (·.1) = some (s.readBlock c.1 c.2.1).2.1
    ∧ ∃ v, s.delivered r E.Ldg.READ_BLOCK.key = { s with eop := v } := by
  obtain ⟨c, cleared, k⟩ := c
  unfold State.delivered
  rw [if_neg (by decide), h]
  cases r with
  | anon => cases h
  | port => exact ⟨rfl, _, rfl⟩
  | session n =>
    refine ⟨?_, _, rfl⟩
    obtain ⟨z, hz, -⟩ := Option.map_eq_some_iff.1 (show (s.eop.sessions.find? (fun x => x.id == n)).map _ = some _ from h)
    have hfind (l : List Session) (f : Session → Session) (hf : ∀ y, (f y).id = y.id) (hl : l.find? (fun x => x.id == n) = some z) :
        (l.map (fun x => if x.id == n then f x else x)).find? (fun x => x.id == n) = some (f z) := by
      induction l with
      | nil => cases hl
      | cons a l ih =>
        rw [List.find?_cons] at hl
        rw [List.map_cons, List.find?_cons]
        cases ha : a.id == n with
        | true =>
          rw [ha] at hl
          rw [if_pos rfl, hf, ha]
          exact congrArg (fun o => o.map f) hl
        | false =>
          rw [ha] at hl
          rw [if_neg Bool.false_ne_true, ha]
          exact ih hl
    unfold State.ledgerReader
    dsimp only
    rw [hfind s.eop.sessions (fun x => { x with cursor := (s.readBlock c cleared).2.1, skipped := (s.readBlock c cleared).2.2 }) (fun _ => rfl) hz]
    rfl

theorem readBlock_completes {x : Nat × Bool × Nat} (hup : (s.advance at_).servicesUp = true) (hw : (s.advance at_).writerOk w = true)
    (hx : (s.advance at_).ledgerReader (readerOf w) = some x) :
    Completes (.readBlock at_ w) s (fun t => t.odStatus = 0 ∧ t.odValue = (s.readBlock x.1 x.2.1).1
      ∧ (t.ledgerReader (readerOf w)).map (·.1) = some (s.readBlock x.1 x.2.1).2.1
      ∧ t.now = s.instant at_ ∧ Frame [.answer, .eop] [] [] s t) := by
  obtain ⟨⟨r, e⟩, hrow, hacc⟩ := exists_row_of_any (key := E.Ldg.READ_BLOCK.key) (p := fun r => r.1.acc == .ro) rfl
  have hentry : (s.advance at_).entryAt E.Ldg.READ_BLOCK.key = .ok (r, e) :=
    State.entryAt_of_tableRow (State.bare_of_servicesUp hup) (by decide) (by decide) (by decide) hrow
  have hvalue : (s.advance at_).valueOf (readerOf w) E.Ldg.READ_BLOCK.key e = .bytes ((s.advance at_).readBlock x.1 x.2.1).1 :=
    State.valueOf_readBlock hx
  have hfull : (s.advance at_).readEntry (readerOf w) E.Ldg.READ_BLOCK.key = (0, r.ty, .bytes (s.readBlock x.1 x.2.1).1) := by
    have hinvalid : (s.advance at_).invalidEntry E.Ldg.READ_BLOCK.key = false := rfl
    rw [State.readEntry_of_readable (r := (r, e)) (by rw [hentry]; rfl) (fun h => by rw [show r.acc = .wo from h] at hacc; cases hacc) hinvalid
      (fun _ _ => by rw [hx]; rfl), hvalue]
    rfl
  obtain ⟨hcursor, v, hv⟩ := State.delivered_cursor hx
  rw [hv] at hcursor
  have hstep : (s.advance at_).readStep w E.Ldg.READ_BLOCK.key
      = { { s.advance at_ with eop := v } with odValue := (s.readBlock x.1 x.2.1).1, odStatus := 0 } := by
    unfold State.readStep State.dictStep
    rw [hup, hw, hfull, hv]
    rfl
  exact ⟨_, congrArg Host.Outcome.next hstep, rfl, rfl, hcursor, rfl, ((Frame.refl ..).advance.with_eop (by simp)).with_read (by simp)⟩

end

/-- Settles O55: pages, segments, the book, the readers and the clear follow their definitions. -/
theorem ledgerPagesSegmentsAndReaders : Obligations.LedgerPagesSegmentsAndReaders := by
  refine ⟨fun s at_ n => flushPage_completes, fun s at_ k hk hr => segmentRetired_completes hk hr, fun s at_ n w h h0 => bookOpen_completes h h0,
    fun s at_ w hup hw _ x hx => readBlock_completes hup hw hx, fun s at_ w p h => clearRing_completes h⟩

end Sys2Proof.Machine
end

section

/-! SUPPORT. O48. The safe watchdog, SAFETY_RESET, requests of holding tests and received ESC copies (R435, R438, R451, R456). -/
namespace Sys2Proof.Machine

section
variable {s x : State} {at_ n k : Nat} {w : Writer} {y : Bool}

/-! ## SAFE_WATCHDOG_EXPIRY (R435) -/

theorem key_sbState (h : n ≠ k) : (E.Sb.SB_STATE n).key ≠ (E.Sb.SB_STATE k).key := by
  simp only [E.Sb.SB_STATE, entN]
  omega

/-- With an element of every output open, no output shows itself energised, and nothing but the entries changes. -/
theorem State.showSbs_of_open (ho : s.NoneClosed) : s.showSbs.safety = s.safety ∧ s.showSbs.now = s.now
    ∧ ∀ n < 8, s.showSbs.rd (E.Sb.SB_STATE n) ≠ 1 := by
  suffices ∀ (l : List Nat) (y : State), y.NoneClosed → (l.foldl (fun s n => s.showSb n) y).safety = y.safety
      ∧ (l.foldl (fun s n => s.showSb n) y).now = y.now
      ∧ ∀ n, n ∈ l ∨ y.rd (E.Sb.SB_STATE n) ≠ 1 → (l.foldl (fun s n => s.showSb n) y).rd (E.Sb.SB_STATE n) ≠ 1 by
    obtain ⟨hsafety, hnow, hrd⟩ := this (List.range 8) s ho
    exact ⟨hsafety, hnow, fun n hn => hrd n (.inl (List.mem_range.2 hn))⟩
  intro l
  induction l with
  | nil => exact fun y _ => ⟨rfl, rfl, fun n hn => hn.resolve_left (List.not_mem_nil)⟩
  | cons m l ih =>
    intro y hy
    obtain ⟨st, hst, hne⟩ := State.showSb_of_open (s := y) (n := m) (hy m)
    obtain ⟨hsafety, hnow, hrd⟩ := ih (y.showSb m) (hy.congr (by rw [hst, State.wr_safety]))
    rw [List.foldl_cons]
    refine ⟨hsafety.trans (by rw [hst, State.wr_safety]), hnow.trans (by rw [hst, State.wr_now]), fun n hn => hrd n ?_⟩
    rw [hst]
    by_cases hm : n = m
    · subst hm
      rw [State.rd_wr_self]
      exact .inr hne
    · rw [State.rd_wr_ne _ _ _ _ (key_sbState hm)]
      exact hn.imp_left fun h => (List.mem_cons.1 h).resolve_left hm

theorem State.openAll_open : (s.setSec y { s.sec y with closed := 0 }).NoneClosed := fun n => by
  cases y
  · exact .inl (bitOf_zero n)
  · exact .inr (bitOf_zero n)

theorem safeWatchdogExpiry_completes (hset : s.safety.set.isSome = true)
    (hdue : (s.sec y).lastValid + 1000000 * s.rd E.Saf.SAFE_WATCHDOG ≤ s.instant at_) :
    Completes (.safeWatchdogExpiry at_ y) s (fun t => t.sec y = { s.sec y with closed := 0 } ∧ t.sec (!y) = s.sec (!y)
      ∧ (∀ n < 8, t.rd (E.Sb.SB_STATE n) ≠ 1)
      ∧ t.now = s.instant at_ ∧ Frame [.safety] ((List.range 8).map E.Sb.SB_STATE) [] s t) := by
  have hsec (z : Bool) : (s.advance at_).sec z = s.sec z := State.sec_congr rfl
  have heq : (s.advance at_).safeWatchdog y = ((s.advance at_).setSec y { s.sec y with closed := 0 }).showSbs := by
    unfold State.safeWatchdog
    rw [hsec, State.advance_safety, hset, Bool.and_true]
    refine (if_pos (decide_eq_true hdue)).trans ?_
    unfold State.openAll
    rw [hsec]
  have hopen := State.openAll_open (s := s.advance at_) (y := y)
  rw [hsec] at hopen
  obtain ⟨hsafety, hnow, hrd⟩ := State.showSbs_of_open hopen
  refine ⟨_, congrArg Host.Outcome.next heq, ?_, ?_, hrd, hnow, ?_⟩
  · rw [State.sec_congr hsafety, State.sec_setSec_self]
  · rw [State.sec_congr hsafety, State.sec_setSec_other, hsec]
  · exact ((Frame.refl ..).advance.setSec (by simp)).showSbs_of_open (fun n hn => List.mem_map.2 ⟨n, List.mem_range.2 hn, rfl⟩) hopen

/-! ## SAFETY_RESET (R438) -/

theorem safetyReset_completes (h : s.accepts at_ w E.Saf.SAFETY_RESET.key .bool (.num 1)) (h3 : s.safeState = 3) :
    Completes (.safetyReset at_ w) s (fun t => t.odStatus = 0 ∧ t.safeState = 1 ∧ t.rd E.Saf.SAFETY_CAUSE = 0 ∧ t.safety.good = 0
      ∧ t.safety.cycle = none ∧ t.now = s.instant at_
      ∧ Frame [.answer, .safety, .ledger] ([E.Saf.SAFETY_STATE, E.Saf.SAFETY_CAUSE] ++ genEnts) [28] s t) := by
  obtain ⟨hstep, -⟩ := State.writeStep_effect h rfl (by decide) (by decide) (by decide)
  have heff : ((s.advance at_).reached E.Saf.SAFETY_RESET.key (.num 1)).effOwner w E.Saf.SAFETY_RESET.key (.num 1)
      = (s.advance at_).effSafetyReset 1 w.node := rfl
  rw [heff] at hstep
  generalize hz : (((s.advance at_).log 0x09 0x05 (vU32 w.node)).wr E.Saf.SAFETY_CAUSE 0).setSafe 1 = z
  have heq : (s.advance at_).effSafetyReset 1 w.node = { z with safety := { z.safety with good := 0, cycle := none } } := by
    rw [← hz]
    unfold State.effSafetyReset
    exact if_neg (by simp [show (s.advance at_).safeState = 3 from h3])
  have hstate : z.safeState = 1 := by
    rw [← hz]
    exact State.safeState_setSafe (by norm_num)
  have hcause : z.rd E.Saf.SAFETY_CAUSE = 0 := by
    rw [← hz]
    refine (Leaves.rd (.of_frame (ps := [.ledger]) (es := [E.Saf.SAFETY_STATE]) (rs := [28]) ((Frame.refl ..).setSafe (by simp) (by simp) (by simp))
      (by decide) (by decide))).trans ?_
    rw [State.rd_wr_self]
    rfl
  have hnow : z.now = s.instant at_ := by
    rw [← hz, State.setSafe_now, State.wr_now, State.log_now]
    rfl
  have hframe : Frame [.answer, .safety, .ledger] [E.Saf.SAFETY_STATE, E.Saf.SAFETY_CAUSE] [28] s z := by
    rw [← hz]
    exact (((Frame.refl ..).advance.log (by simp) (by simp)).wr (by simp)).setSafe (by simp) (by simp) (by simp)
  rw [heq] at hstep
  have hsafety : ({ z with safety := { z.safety with good := 0, cycle := none } } : State).answered.safety
      = { z.safety with good := 0, cycle := none } := State.answered_part (p := .safety) (by decide)
  refine ⟨_, congrArg Host.Outcome.next hstep, rfl, ?_, ?_, ?_, ?_, ?_, ?_⟩
  · exact (State.rd_answered _ (by decide)).trans hstate
  · exact (State.rd_answered _ (by decide)).trans hcause
  · rw [hsafety]
  · rw [hsafety]
  · rw [State.answered_now]
    exact hnow
  · exact (hframe.with_safety (by simp)).answered (by simp)

/-! ## HT_START (R451) -/

/-- A request is admitted while no test runs and the safety program does. -/
abbrev State.htAdmits (s : State) (n : Nat) : Prop := (s.sb n).reqAt = none ∧ 1 ≤ s.safeState ∧ s.safeState ≤ 3

theorem State.effHtStart_asks (h : s.htAdmits n) : s.effHtStart n 1 = s.setSb n { s.sb n with start := true } := by
  obtain ⟨hreq, hlow, hhigh⟩ := h
  have hstate : [1, 2, 3].contains s.safeState = true := by simp; omega
  unfold State.effHtStart
  rw [if_neg Nat.one_ne_zero, hreq, Option.isSome_none, if_neg Bool.false_ne_true, hstate, if_pos rfl]

theorem State.effHtStart_refuses (h : ¬ s.htAdmits n) : s.effHtStart n 1 = s.htEnd n 4 := by
  unfold State.effHtStart
  rw [if_neg Nat.one_ne_zero]
  split
  · rfl
  next hreq =>
    refine if_neg fun hstate => h ⟨by simpa using hreq, ?_⟩
    simp at hstate
    omega

theorem State.htEnd_leaves (hn : n < 8) : (s.htEnd n k).sb n = s.sb n ∧ (s.htEnd n k).rd (E.Sb.HT_RESULT n) = k % 256
    ∧ Frame [.safety, .ledger] [E.Sb.HT_RESULT n] [28] s (s.htEnd n k) := by
  have hkey : (E.Sb.HT_RESULT n).key / 256 ≠ 0x1B1C := by
    simp only [E.Sb.HT_RESULT, entN]
    omega
  refine ⟨State.sb_congr (State.htEnd_moves.1.2 .safety (by decide)), ?_, ?_⟩
  · unfold State.htEnd
    exact ((Leaves.refl ..).log hkey).rd.trans (State.rd_wr_self ..)
  · unfold State.htEnd
    exact ((Frame.refl ..).wr (by simp)).log (by simp) (by simp)

/-- HT_START of each output is a command that reaches its effect. -/
theorem htStart_row : ∀ n < 8, (tableRow (E.Sb.HT_START n).key).any (fun r => r.1.acc == .wo && r.1.ret == .volatile) = true := by decide

theorem htStart_effect (hn : n < 8) : (x.reached (E.Sb.HT_START n).key (.num 1)).effOwner w (E.Sb.HT_START n).key (.num 1) = x.effHtStart n 1 := by
  interval_cases n <;> rfl

theorem htStart_completes (hn : n < 8) (h : s.accepts at_ w (E.Sb.HT_START n).key .bool (.num 1)) :
    Completes (.htStart at_ w n) s (fun t => t.odStatus = 0
      ∧ (if (s.sb n).reqAt = none ∧ 1 ≤ s.safeState ∧ s.safeState ≤ 3 then t.sb n = { s.sb n with start := true }
         else t.sb n = s.sb n ∧ t.rd (E.Sb.HT_RESULT n) = 4)
      ∧ t.now = s.instant at_ ∧ Frame [.answer, .safety, .ledger] (E.Sb.HT_RESULT n :: genEnts) [28] s t) := by
  have hkey : (E.Sb.HT_START n).key / 256 = 0x6920 + n ∧ (E.Sb.HT_START n).key % 256 = 0x0B := by
    simp only [E.Sb.HT_START, entN]
    omega
  obtain ⟨hstep, -⟩ := State.writeStep_effect h (htStart_row n hn) (by omega) (by omega) (by omega)
  rw [htStart_effect hn] at hstep
  have hexec : exec (.htStart at_ w n) s = .next ((s.advance at_).effHtStart n 1).answered := by
    rw [← hstep]
    show dictWrite at_ w (inst 0x6920 n 8 0x0B) .bool (vb true) s = _
    rw [inst, if_pos hn]
    rfl
  have hresult : ((s.advance at_).effHtStart n 1).answered.rd (E.Sb.HT_RESULT n) = ((s.advance at_).effHtStart n 1).rd (E.Sb.HT_RESULT n) := by
    refine State.rd_answered _ (.inr ?_)
    simp only [E.Sb.HT_RESULT, entN]
    omega
  have hsb : ((s.advance at_).effHtStart n 1).answered.sb n = ((s.advance at_).effHtStart n 1).sb n :=
    State.sb_congr (State.answered_part (p := .safety) (by decide))
  have hnow : ((s.advance at_).effHtStart n 1).answered.now = s.instant at_ := by
    rw [State.answered_now, State.effHtStart_now]
    rfl
  by_cases hadmits : s.htAdmits n
  · have heq : (s.advance at_).effHtStart n 1 = (s.advance at_).setSb n { s.sb n with start := true } := State.effHtStart_asks hadmits
    refine ⟨_, hexec, rfl, ?_, hnow, ?_⟩
    · rw [if_pos hadmits, hsb, heq, State.sb_setSb_self]
    · rw [heq]
      exact ((Frame.refl _ [E.Sb.HT_RESULT n] [28] s).advance.setSb (by simp)).answered (by simp)
  · have heq : (s.advance at_).effHtStart n 1 = (s.advance at_).htEnd n 4 := State.effHtStart_refuses hadmits
    obtain ⟨hself, hrd, hframe⟩ := State.htEnd_leaves (s := s.advance at_) (k := 4) hn
    refine ⟨_, hexec, rfl, ?_, hnow, ?_⟩
    · rw [if_neg hadmits, hsb, hresult, heq]
      exact ⟨hself, hrd⟩
    · rw [heq]
      exact ((Frame.refl ..).advance.trans (hframe.mono (by simp) (fun _ m => m) (fun _ m => m))).answered (by simp)

/-! ## ESC_FRAME_RECEIVED (R456) -/

theorem State.pop_of_front {e : RingEntry} {rest : List RingEntry} (h : (s.ring k).q = e :: rest) : s.pop k = ((s.pop k).1, some e) := by
  unfold State.pop
  dsimp only
  rw [h]

theorem State.conn_congr (h : x.safety = s.safety) : x.conn k = s.conn k := by
  unfold State.conn
  rw [h]

theorem State.conn_setConn_self {c : EscConn} : (s.setConn k c).conn k = c := by simp [State.conn, State.setConn]

theorem State.conn_setConn_ne {j : Nat} {c : EscConn} (h : j ≠ k) : (s.setConn k c).conn j = s.conn j := by simp [State.conn, State.setConn, h]

theorem State.escParse_congr {b : List Byte} (hs : x.safety = s.safety) (hn : x.rd E.Id.NODE_ID_ACTIVE = s.rd E.Id.NODE_ID_ACTIVE) :
    x.escParse b = s.escParse b := by
  unfold State.escParse
  simp only [State.conn_congr hs, hn]

/-- The ring whose copies channel Y, or X, receives. -/
def escRing (y : Bool) : Nat := if y then 36 else 35

/-- The ring has given its oldest copy. -/
theorem State.copyTaken : Frame [] [] [escRing y] s ((s.advance at_).pop (escRing y)).1 ∧ ((s.advance at_).pop (escRing y)).1.now = s.instant at_ :=
  ⟨(Frame.refl ..).advance.pop (by simp), State.pop_fst_now ..⟩

theorem State.escParse_taken {b : List Byte} : ((s.advance at_).pop (escRing y)).1.escParse b = s.escParse b :=
  State.escParse_congr (State.pop_fst_safety ..)
    (Leaves.rd (.of_frame State.copyTaken.1 (by simp) (by cases y <;> decide)))

variable {f : RxFrame} {rest : List RingEntry}

theorem escFrameValid_completes {p : Nat × EscCopy} (hq : (s.ring (escRing y)).q = .rx f :: rest) (hp : s.escParse f.frame.payload = some p) :
    Completes (.escFrameReceived at_ y) s (fun t =>
      t.conn p.1 = (if y then { s.conn p.1 with copiesY := (p.2 :: (s.conn p.1).copiesY).take 4 }
        else { s.conn p.1 with copiesX := (p.2 :: (s.conn p.1).copiesX).take 4 })
      ∧ (∀ k, k ≠ p.1 → t.conn k = s.conn k)
      ∧ t.now = s.instant at_ ∧ Frame [.safety] [] [escRing y] s t) := by
  obtain ⟨k, c⟩ := p
  obtain ⟨hframe, hnow⟩ := State.copyTaken (s := s) (at_ := at_) (y := y)
  have hpop : (s.advance at_).pop (if y then 36 else 35) = (((s.advance at_).pop (escRing y)).1, some (.rx f)) :=
    State.pop_of_front (s := s.advance at_) hq
  have hparse : ((s.advance at_).pop (escRing y)).1.escParse f.frame.payload = some (k, c) := State.escParse_taken.trans hp
  have hconn (j : Nat) : ((s.advance at_).pop (escRing y)).1.conn j = s.conn j := State.conn_congr (State.pop_fst_safety ..)
  have heq : (s.advance at_).escReceived y = ((s.advance at_).pop (escRing y)).1.setConn k
      (if y then { s.conn k with copiesY := (c :: (s.conn k).copiesY).take 4 } else { s.conn k with copiesX := (c :: (s.conn k).copiesX).take 4 }) := by
    unfold State.escReceived
    rw [hpop]
    dsimp only
    rw [hparse]
    dsimp only
    rw [hconn]
  refine ⟨_, congrArg Host.Outcome.next heq, State.conn_setConn_self, fun j hj => (State.conn_setConn_ne hj).trans (hconn j), hnow, ?_⟩
  exact (hframe.mono (by simp) (by simp) (by simp)).setConn (by simp)

theorem escFrameInvalid_completes (hq : (s.ring (escRing y)).q = .rx f :: rest) (hp : s.escParse f.frame.payload = none) :
    Completes (.escFrameReceived at_ y) s (fun t =>
      t.rd (if y then E.Esc.ESC_INVALID_B else E.Esc.ESC_INVALID_A)
        = min (2 ^ 32 - 1) (s.rd (if y then E.Esc.ESC_INVALID_B else E.Esc.ESC_INVALID_A) + 1)
      ∧ t.now = s.instant at_
      ∧ Frame [] [if y then E.Esc.ESC_INVALID_B else E.Esc.ESC_INVALID_A] [escRing y] s t) := by
  obtain ⟨hframe, hnow⟩ := State.copyTaken (s := s) (at_ := at_) (y := y)
  have hpop : (s.advance at_).pop (if y then 36 else 35) = (((s.advance at_).pop (escRing y)).1, some (.rx f)) :=
    State.pop_of_front (s := s.advance at_) hq
  have hparse : ((s.advance at_).pop (escRing y)).1.escParse f.frame.payload = none := State.escParse_taken.trans hp
  have heq : (s.advance at_).escReceived y
      = ((s.advance at_).pop (escRing y)).1.inc (if y then E.Esc.ESC_INVALID_B else E.Esc.ESC_INVALID_A) := by
    unfold State.escReceived
    rw [hpop]
    dsimp only
    rw [hparse]
  have hold : ((s.advance at_).pop (escRing y)).1.rd (if y then E.Esc.ESC_INVALID_B else E.Esc.ESC_INVALID_A)
      = s.rd (if y then E.Esc.ESC_INVALID_B else E.Esc.ESC_INVALID_A) :=
    Leaves.rd (.of_frame hframe (by simp) (by cases y <;> decide)) (by cases y <;> rfl)
  refine ⟨_, congrArg Host.Outcome.next heq, ?_, (State.inc_now ..).trans hnow, ?_⟩
  · rw [State.rd_inc_self, hold]
    cases y <;> rfl
  · exact (hframe.mono (by simp) (by simp) (by simp)).inc (by simp)

end

end Sys2Proof.Machine
end

section

/-! SUPPORT. O48. The release and the commit of the safety cycle (R436, R437, R444, R452, R467). -/
namespace Sys2Proof.Machine

/-- From `s` to `t` both channels, the permits, the count of good cycles and the instant stand. -/
structure Steady (s t : State) : Prop where
  cx : t.safety.cx = s.safety.cx
  cy : t.safety.cy = s.safety.cy
  permit : t.safety.permit = s.safety.permit
  good : t.safety.good = s.safety.good
  now : t.now = s.now

section
variable {s x y : State} {n k code at_ : Nat} {c : SafeCycle} {o a b : SafeOut}

theorem Steady.refl (s : State) : Steady s s := ⟨rfl, rfl, rfl, rfl, rfl⟩

theorem Steady.trans (h : Steady s x) (g : Steady x y) : Steady s y :=
  ⟨g.cx.trans h.cx, g.cy.trans h.cy, g.permit.trans h.permit, g.good.trans h.good, g.now.trans h.now⟩

theorem Steady.of_safety (h : Steady s x) (hs : y.safety = x.safety) (hn : y.now = x.now) : Steady s y :=
  h.trans ⟨by rw [hs], by rw [hs], by rw [hs], by rw [hs], hn⟩

theorem Steady.ite {p : Prop} [Decidable p] (h : p → Steady s x) (g : ¬p → Steady s y) : Steady s (if p then x else y) := by
  split
  · exact h ‹_›
  · exact g ‹_›

theorem Steady.foldl {β : Type} {f : State → β → State} {l : List β} (h : Steady s x) (hf : ∀ y z, Steady s y → Steady s (f y z)) :
    Steady s (l.foldl f x) := by
  induction l generalizing x with
  | nil => exact h
  | cons z l ih => exact ih (hf x z h)

theorem Steady.wr {e : Ent} (h : Steady s x) : Steady s (x.wr e n) := h.of_safety (State.wr_safety ..) (State.wr_now ..)
theorem Steady.inc {e : Ent} (h : Steady s x) : Steady s (x.inc e) := h.of_safety (State.inc_safety ..) (State.inc_now ..)
theorem Steady.raise {e : Ent} (h : Steady s x) : Steady s (x.raise e n) := h.of_safety (State.raise_safety ..) (State.raise_now ..)
theorem Steady.log {p : List Byte} (h : Steady s x) : Steady s (x.log n k p) := h.of_safety (State.log_safety ..) (State.log_now ..)
theorem Steady.place {e : RingEntry} (h : Steady s x) : Steady s (x.place k e) := h.of_safety (State.place_safety ..) (State.place_now ..)
theorem Steady.showSi (h : Steady s x) : Steady s (x.showSi k) := h.of_safety State.showSi_safety State.showSi_now
theorem Steady.setConn {z : EscConn} (h : Steady s x) : Steady s (x.setConn k z) := h.trans ⟨rfl, rfl, rfl, rfl, rfl⟩
theorem Steady.setSb {z : SbSt} (h : Steady s x) : Steady s (x.setSb n z) := h.trans ⟨rfl, rfl, rfl, rfl, rfl⟩
theorem Steady.setEsc (h : Steady s x) : Steady s (x.setEsc k n) := h.of_safety State.setEsc_safety (State.setEsc_now ..)
theorem Steady.setImage {d : List Byte} (h : Steady s x) : Steady s (x.setImage n k d) := h.of_safety rfl rfl

theorem Steady.htEnd (h : Steady s x) : Steady s (x.htEnd n code) :=
  h.of_safety (State.htEnd_moves.1.2 .safety (by decide)) (State.htEnd_now ..)

/-! ## What the parts of a commit leave alone -/

theorem State.commitInputs_now : (s.commitInputs c).now = s.now := by
  unfold State.commitInputs
  refine foldl_now _ fun z i => ?_
  dsimp only
  split
  · rw [State.wrT_now, State.inc_now, State.wr_now]
  · rw [State.wr_now]

theorem Steady.commitInputs (h : Steady s x) : Steady s (x.commitInputs c) :=
  h.of_safety (State.commitInputs_moves.1.2 .safety (by decide)) State.commitInputs_now

/-- The disagreement of an input is marked or cleared, and shown. -/
def State.disagreeNoted (s : State) (k m e : Nat) : State :=
  (({ s with safety := { s.safety with disagree := m } } : State).fieldDiag 0x09 k 0x73 e).showSi k

theorem Steady.disagreeNoted {m e : Nat} (h : Steady s x) : Steady s (x.disagreeNoted k m e) := by
  unfold State.disagreeNoted
  refine Steady.showSi ?_
  exact h.trans ⟨rfl, rfl, rfl, rfl, rfl⟩

/-- Since when the channels' states of an input differ, and agree. -/
def State.diffNoted (s : State) (d g : SMap Nat) : State := { s with safety := { s.safety with diffAt := d, agreeAt := g } }

theorem Steady.diffNoted {d g : SMap Nat} (h : Steady s x) : Steady s (x.diffNoted d g) := h.trans ⟨rfl, rfl, rfl, rfl, rfl⟩

theorem State.trackDisagree_cases : s.trackDisagree k = s ∨ ∃ d g, s.trackDisagree k = s.diffNoted d g ∨
    ∃ m e, s.trackDisagree k = (s.diffNoted d g).disagreeNoted k m e := by
  unfold State.trackDisagree
  extract_lets cx cy
  split
  · exact .inl rfl
  · split
    · split
      · exact .inr ⟨_, _, .inr ⟨_, _, rfl⟩⟩
      · exact .inr ⟨_, _, .inl rfl⟩
    · split
      · exact .inr ⟨_, _, .inr ⟨_, _, rfl⟩⟩
      · exact .inr ⟨_, _, .inl rfl⟩

theorem Steady.trackDisagree (h : Steady s x) : Steady s (x.trackDisagree k) := by
  rcases x.trackDisagree_cases (k := k) with heq | ⟨d, g, heq | ⟨m, e, heq⟩⟩ <;> rw [heq]
  · exact h
  · exact h.diffNoted
  · exact h.diffNoted.disagreeNoted

theorem Steady.htRequest {on : Bool} (h : Steady s x) : Steady s (x.htRequest n on) := by
  unfold State.htRequest
  split
  · exact h.setImage
  · exact h

theorem Steady.showSbDiag (h : Steady s x) : Steady s (x.showSbDiag n) := h.wr

theorem Steady.htStop (h : Steady s x) : Steady s (x.htStop n code) := by
  unfold State.htStop
  extract_lets v y1 v2 y2
  have h1 : Steady s y1 := h.setSb.htRequest
  have h2 : Steady s y2 := .ite (fun _ => h1.setSb) fun _ => .ite (fun _ => h1.setSb.of_safety (State.wrR_safety ..) (State.wrR_now ..)) fun _ => h1
  exact h2.wr.htEnd.showSbDiag

theorem Steady.htCommit (h : Steady s x) : Steady s (x.htCommit c o n) := by
  unfold State.htCommit
  extract_lets z v
  refine .ite (fun _ => h.setSb.htRequest.wr) fun _ => ?_
  split
  · exact h
  · exact .ite (fun _ => h.htStop) fun _ => .ite (fun _ => h.htStop) fun _ => .ite (fun _ => h) fun _ =>
      .ite (fun _ => .ite (fun _ => h.setSb.wr) fun _ => h.htStop) fun _ => .ite (fun _ => h.htStop) fun _ => h

theorem Steady.escAccept {two : Bool} {z : EscCopy} {i : Nat} (h : Steady s x) : Steady s (x.escAccept k n two z i) := by
  unfold State.escAccept
  extract_lets q streak from_ q2 y1 y2
  have h1 : Steady s y1 := h.setConn.inc
  have h2 : Steady s y2 := .ite (fun _ => h1) fun _ => h1.inc
  exact h2.raise.setEsc

theorem Steady.escApply {d : EscDecision} (h : Steady s x) : Steady s (x.escApply n k d) := by
  cases d with
  | mismatch => exact h.setConn.setEsc.inc
  | accept two z i => exact h.escAccept

theorem Steady.escSend (h : Steady s x) : Steady s (x.escSend k o) := by
  unfold State.escSend
  extract_lets q
  split
  · exact h
  · exact .ite (fun _ => h.setConn.place.place) fun _ => h.setConn

theorem Steady.safeCan (h : Steady s x) : Steady s (x.safeCan o) := h.foldl fun _ _ hy => .ite (fun _ => hy.setImage) fun _ => hy

/-! ## The commit of both channels -/

/-- What the commit of both channels' equal results leaves. -/
structure BothCommitted (c : SafeCycle) (o : SafeOut) (s t : State) : Prop where
  permit : t.safety.permit = o.permit.toNat
  latches : t.safety.cx.latches = o.latches ∧ t.safety.cy.latches = o.latches
  idle : s.safeState ≠ 2 → t.safety.cx.cmd = 0 ∧ t.safety.cy.cmd = 0
  good : t.safety.good = if c.sections then s.safety.good + 1 else 0
  bad : t.safety.bad = false
  now : t.now = s.now

/-- Acknowledgements of outputs and the requests of the program for holding tests. -/
theorem Steady.outputsAnswered (h : Steady s x) : Steady s ((List.range 8).foldl (fun s n =>
    let s := if bitOf o.ack.toNat n && (s.sb n).fault then s.setSb n { s.sb n with acked := true } else s
    if bitOf o.htStart.toNat n then
      (if (s.sb n).reqAt.isSome then s.htEnd n 4 else s.setSb n { s.sb n with start := true }) else s) x) := by
  refine h.foldl fun y n hy => ?_
  extract_lets v z
  have hz : Steady s z := .ite (fun _ => hy.setSb) fun _ => hy
  exact .ite (fun _ => .ite (fun _ => hz.htEnd) fun _ => hz.setSb) fun _ => hz

theorem State.commitBoth_committed : BothCommitted c o s (s.commitBoth c o) := by
  unfold State.commitBoth
  extract_lets held run y1 cmd cx cy y2 y3 y4 y5 v y6 y7 y8 y9 y10 y11 good w y12
  have hcmd : s.safeState ≠ 2 → cmd = 0 := fun h => if_neg (by simp [run, h])
  clear_value cmd
  have h1 : Steady s y1 := (Steady.refl s).commitInputs
  clear_value y1
  have hx2 : y2.safety.cx.latches = o.latches ∧ y2.safety.cx.cmd = cmd := ⟨rfl, rfl⟩
  have hy2 : y2.safety.cy.latches = o.latches ∧ y2.safety.cy.cmd = cmd := ⟨rfl, rfl⟩
  have hgood2 : y2.safety.good = s.safety.good := h1.good
  have hnow2 : y2.now = s.now := h1.now
  clear_value y2
  have h5 : Steady y2 y5 := Steady.outputsAnswered (.foldl (.foldl (.refl _) fun _ _ h => h.trackDisagree) fun _ _ h => h.htCommit)
  clear_value y5
  have hpermit6 : y6.safety.permit = o.permit.toNat := rfl
  have hx6 : y6.safety.cx = y2.safety.cx := h5.cx
  have hy6 : y6.safety.cy = y2.safety.cy := h5.cy
  have hgood6 : y6.safety.good = y2.safety.good := h5.good
  have hnow6 : y6.now = y2.now := h5.now
  clear_value y6
  have h7 : Steady y6 y7 := .foldl (.refl _) fun _ _ h => .ite (fun _ => h.setConn.setEsc) fun _ => h.setConn
  have h9 : Steady y6 y9 := .foldl (.foldl h7 fun _ _ h => h.escApply) fun z k h => by
    extract_lets q
    split
    · exact h.wr
    · exact h
  have h11 : Steady y6 y11 := (Steady.foldl h9 fun _ _ h => h.escSend).safeCan
  clear_value y11
  have hgood : good = if c.sections then s.safety.good + 1 else 0 := by
    rw [← hgood2, ← hgood6, ← h11.good]
  have hgood12 : y12.safety.good = good := rfl
  have hbad12 : y12.safety.bad = false := rfl
  have hx12 : y12.safety.cx = y2.safety.cx := h11.cx.trans hx6
  have hy12 : y12.safety.cy = y2.safety.cy := h11.cy.trans hy6
  have hpermit12 : y12.safety.permit = o.permit.toNat := h11.permit.trans hpermit6
  have hnow12 : y12.now = s.now := (h11.now.trans hnow6).trans hnow2
  clear_value y12
  have hend (z : State) (hs : z.safety = y12.safety) (hn : z.now = y12.now) : BothCommitted c o s z := by
    refine ⟨by rw [hs, hpermit12], by rw [hs, hx12, hy12]; exact ⟨hx2.1, hy2.1⟩, fun h => ?_, by rw [hs, hgood12, hgood], by rw [hs, hbad12],
      hn.trans hnow12⟩
    rw [hs, hx12, hy12, hx2.2, hy2.2, hcmd h]
    exact ⟨rfl, rfl⟩
  split
  · exact hend _ State.setSafe_safety (State.setSafe_now ..)
  · exact hend _ rfl rfl

/-! ## The cycle ends -/

/-- The cycle ends: its execution time is noted, and none is open. -/
def State.cycleDone (s : State) (release : Nat) : State :=
  { s.raise E.Saf.SAFETY_EXEC_MAX ((s.now - release) / 1000) with
    safety := { (s.raise E.Saf.SAFETY_EXEC_MAX ((s.now - release) / 1000)).safety with cycle := none } }

theorem State.cycleDone_safety : (s.cycleDone n).safety = { s.safety with cycle := none } := by
  unfold State.cycleDone
  rw [State.raise_safety]

theorem State.cycleDone_now : (s.cycleDone n).now = s.now := State.raise_now ..

theorem State.rd_cycleDone {e : Ent} (he : e.key ≠ E.Saf.SAFETY_EXEC_MAX.key) : (s.cycleDone n).rd e = s.rd e :=
  State.rd_raise_ne _ _ _ _ he

theorem Frame.cycleDone {ps : List Part} {es : List Ent} {rs : List Nat} (h : Frame ps es rs s x) (hp : Part.safety ∈ ps)
    (he : E.Saf.SAFETY_EXEC_MAX ∈ es) : Frame ps es rs s (x.cycleDone n) := (h.raise he).with_safety hp

theorem State.safetyCommit_both (hc : s.safety.cycle = some c) (hl : c.lone = none) (hx : s.pairRuns (s.safePair false) = true)
    (hy : s.pairRuns (s.safePair true) = true) (hsame : sameResults c.rejoined a b = true) :
    s.safetyCommit a b = (s.commitBoth c a).cycleDone c.release := by
  unfold State.safetyCommit
  rw [hc]
  dsimp only
  rw [hl]
  dsimp only
  rw [hx, hy, hsame]
  rfl

theorem State.safetyCommit_differ (hc : s.safety.cycle = some c) (hl : c.lone = none) (hx : s.pairRuns (s.safePair false) = true)
    (hy : s.pairRuns (s.safePair true) = true) (hsame : sameResults c.rejoined a b = false) :
    ∃ z, s.safetyStop (if c.rejoined then 3 else 1) = z
      ∧ s.safetyCommit a b = ({ z with safety := { z.safety with bad := true } } : State).cycleDone c.release := by
  refine ⟨_, rfl, ?_⟩
  unfold State.safetyCommit
  rw [hc]
  dsimp only
  rw [hl]
  dsimp only
  rw [hx, hy, hsame]
  rfl

theorem State.safetyCommit_lone {l : Bool} (hc : s.safety.cycle = some c) (hl : c.lone = some l) (hr : s.pairRuns (s.safePair l) = true) :
    s.safetyCommit a b = (s.commitLone c l (if l then b else a)).cycleDone c.release := by
  unfold State.safetyCommit
  rw [hc]
  dsimp only
  rw [hl]
  dsimp only
  rw [hr]
  rfl

theorem safetyCommitBoth_completes (hx : s.pairRuns (s.safePair false) = true) (hy : s.pairRuns (s.safePair true) = true)
    (hc : s.safety.cycle = some c) (hl : c.lone = none) (hsame : sameResults c.rejoined a b = true) :
    Completes (.safetyCommit at_ a b) s (fun t => t.safety.cycle = none ∧ t.safety.bad = false
      ∧ t.safety.good = (if c.sections then s.safety.good + 1 else 0) ∧ t.safety.permit = a.permit.toNat
      ∧ t.safety.cx.latches = a.latches ∧ t.safety.cy.latches = a.latches
      ∧ (s.safeState ≠ 2 → t.safety.cx.cmd = 0 ∧ t.safety.cy.cmd = 0)
      ∧ t.now = s.instant at_ ∧ Keeps [.safety, .ledger, .blocks, .field, .can] s t) := by
  have heq : (s.advance at_).safetyCommit a b = ((s.advance at_).commitBoth c a).cycleDone c.release :=
    State.safetyCommit_both hc hl hx hy hsame
  obtain ⟨hpermit, ⟨hlx, hly⟩, hidle, hgood, hbad, hnow⟩ := State.commitBoth_committed (s := s.advance at_) (c := c) (o := a)
  have hkeeps : Keeps [.safety, .ledger, .blocks, .field, .can] s ((s.advance at_).safetyCommit a b) :=
    (((Moves.refl [.safety, .ledger, .blocks, .field, .can] s).step State.advance_moves).step State.safetyCommit_moves).1
  refine ⟨_, congrArg Host.Outcome.next heq, ?_⟩
  rw [heq] at hkeeps
  beta_reduce
  rw [State.cycleDone_safety, State.cycleDone_now]
  exact ⟨rfl, hbad, hgood, hpermit, hlx, hly, hidle, hnow, hkeeps⟩

/-! ## Different results -/

/-- SAFETY_STOP of a starting or running program: its state, its cause, and both channels' commands withdrawn. -/
theorem State.safetyStop_stops (h : s.safeState = 1 ∨ s.safeState = 2) (hn : n < 256) :
    (s.safetyStop n).safeState = 3 ∧ (s.safetyStop n).safety.cx.cmd = 0 ∧ (s.safetyStop n).safety.cy.cmd = 0
      ∧ (s.safetyStop n).rd E.Saf.SAFETY_CAUSE = n := by
  have hstate : ((s.wr E.Saf.SAFETY_CAUSE n).setSafe 3).safeState = 3 := State.safeState_setSafe (by norm_num)
  have hcause : ((s.wr E.Saf.SAFETY_CAUSE n).setSafe 3).rd E.Saf.SAFETY_CAUSE = n := by
    refine (Leaves.rd (.of_frame (ps := [.ledger]) (es := [E.Saf.SAFETY_STATE]) (rs := [28]) ((Frame.refl ..).setSafe (by simp) (by simp) (by simp))
      (by decide) (by decide))).trans ?_
    rw [State.rd_wr_self]
    exact Nat.mod_eq_of_lt hn
  generalize hz : ((s.wr E.Saf.SAFETY_CAUSE n).setSafe 3).incR E.Saf.SAFETY_STOPS = z
  have hzstate : z.safeState = 3 := by
    rw [← hz]
    exact (((Leaves.refl ..).incR (by decide) (by decide)).rd).trans hstate
  have hzcause : z.rd E.Saf.SAFETY_CAUSE = n := by
    rw [← hz]
    exact (((Leaves.refl ..).incR (by decide) (by decide)).rd).trans hcause
  unfold State.safetyStop
  rw [if_neg (by rcases h with h | h <;> simp [h]), hz]
  exact ⟨hzstate, rfl, rfl, hzcause⟩

theorem safetyCommitDiffer_completes (hx : s.pairRuns (s.safePair false) = true) (hy : s.pairRuns (s.safePair true) = true)
    (hc : s.safety.cycle = some c) (hl : c.lone = none) (hsame : sameResults c.rejoined a b = false) :
    Completes (.safetyCommit at_ a b) s (fun t => t.safety.cycle = none ∧ t.safety.bad = true
      ∧ (s.safeState = 1 ∨ s.safeState = 2 → t.safeState = 3 ∧ t.safety.cx.cmd = 0 ∧ t.safety.cy.cmd = 0
          ∧ t.rd E.Saf.SAFETY_CAUSE = (if c.rejoined then 3 else 1))
      ∧ t.now = s.instant at_ ∧ Frame [.safety, .ledger, .blocks] [E.Saf.SAFETY_STATE, E.Saf.SAFETY_CAUSE, E.Saf.SAFETY_STOPS,
          E.Saf.SAFETY_EXEC_MAX, E.Restore.RETAINED_WRITES] [28] s t) := by
  obtain ⟨z, hz, heq⟩ := State.safetyCommit_differ (s := s.advance at_) (c := c) (a := a) (b := b) hc hl hx hy hsame
  have hnow : z.now = s.instant at_ := by
    rw [← hz, State.safetyStop_now]
    rfl
  have hframe : Frame [.safety, .ledger, .blocks] [E.Saf.SAFETY_STATE, E.Saf.SAFETY_CAUSE, E.Saf.SAFETY_STOPS, E.Saf.SAFETY_EXEC_MAX,
      E.Restore.RETAINED_WRITES] [28] s z := by
    rw [← hz]
    exact (Frame.refl ..).advance.trans ((State.safetyStop_frame _).mono (by simp) (by simp [injectEnts]) (by simp))
  have hstop (h : s.safeState = 1 ∨ s.safeState = 2) : z.safeState = 3 ∧ z.safety.cx.cmd = 0 ∧ z.safety.cy.cmd = 0
      ∧ z.rd E.Saf.SAFETY_CAUSE = if c.rejoined then 3 else 1 := by
    rw [← hz]
    exact State.safetyStop_stops (s := s.advance at_) h (by split <;> norm_num)
  refine ⟨_, congrArg Host.Outcome.next heq, ?_⟩
  beta_reduce
  rw [State.cycleDone_safety, State.cycleDone_now]
  refine ⟨rfl, rfl, fun h => ?_, hnow, (hframe.with_safety (by simp)).cycleDone (by simp) (by simp)⟩
  obtain ⟨hstate, hcx, hcy, hcause⟩ := hstop h
  exact ⟨(State.rd_cycleDone (by decide)).trans hstate, hcx, hcy, (State.rd_cycleDone (by decide)).trans hcause⟩

/-! ## A channel alone -/

theorem State.chn_congr {l : Bool} (hx : y.safety.cx = x.safety.cx) (hy : y.safety.cy = x.safety.cy) : y.chn l = x.chn l := by
  unfold State.chn
  rw [hx, hy]

theorem State.chn_setChn_self {l : Bool} {z : Chan} : (s.setChn l z).chn l = z := by cases l <;> rfl

theorem State.chn_setChn_other {l : Bool} {z : Chan} : (s.setChn l z).chn (!l) = s.chn (!l) := by cases l <;> rfl

/-- A channel that commits alone can only open elements. -/
theorem State.commitLone_leaves {l : Bool} : ((s.commitLone c l o).chn l).cmd = (s.chn l).cmd &&& o.sb.toNat
    ∧ (s.commitLone c l o).chn (!l) = s.chn (!l) ∧ (s.commitLone c l o).safety.bad = false ∧ (s.commitLone c l o).now = s.now := by
  unfold State.commitLone
  extract_lets y1 z y2 y3 v
  have h1 : Steady s y1 := (Steady.refl s).commitInputs
  have hz : z = s.chn l := State.chn_congr h1.cx h1.cy
  have hother1 : y1.chn (!l) = s.chn (!l) := State.chn_congr h1.cx h1.cy
  have hnow1 : y1.now = s.now := h1.now
  clear_value y1
  clear_value z
  have hself2 : (y2.chn l).cmd = z.cmd &&& o.sb.toNat := congrArg Chan.cmd State.chn_setChn_self
  have hother2 : y2.chn (!l) = y1.chn (!l) := State.chn_setChn_other
  have hnow2 : y2.now = y1.now := rfl
  clear_value y2
  have h3 : Steady y2 y3 := .foldl (.refl _) fun _ _ h => h.htCommit
  clear_value y3
  refine ⟨?_, ?_, rfl, (h3.now.trans hnow2).trans hnow1⟩
  · rw [← hz, ← hself2]
    exact congrArg Chan.cmd (State.chn_congr h3.cx h3.cy)
  · rw [← hother1, ← hother2]
    exact State.chn_congr h3.cx h3.cy

theorem safetyCommitLone_completes {l : Bool} (hc : s.safety.cycle = some c) (hl : c.lone = some l) (hr : s.pairRuns (s.safePair l) = true) :
    Completes (.safetyCommit at_ a b) s (fun t => t.safety.cycle = none ∧ t.safety.bad = false
      ∧ (t.chn l).cmd = (s.chn l).cmd &&& (if l then b else a).sb.toNat ∧ t.chn (!l) = s.chn (!l)
      ∧ t.now = s.instant at_ ∧ Keeps [.safety, .ledger, .blocks, .can] s t) := by
  have heq : (s.advance at_).safetyCommit a b = ((s.advance at_).commitLone c l (if l then b else a)).cycleDone c.release :=
    State.safetyCommit_lone hc hl hr
  obtain ⟨hcmd, hother, hbad, hnow⟩ := State.commitLone_leaves (s := s.advance at_) (c := c) (o := if l then b else a) (l := l)
  have hkeeps : Keeps [.safety, .ledger, .blocks, .can] s (((s.advance at_).commitLone c l (if l then b else a)).cycleDone c.release) := by
    have hlone : Moves [.safety, .ledger, .blocks, .can] s ((s.advance at_).commitLone c l (if l then b else a)) :=
      ((Moves.refl _ s).step State.advance_moves).step State.commitLone_moves
    exact (hlone.step State.raise_moves).with_safety.1
  have hchn (z : State) (j : Bool) : (z.cycleDone c.release).chn j = z.chn j :=
    State.chn_congr (by rw [State.cycleDone_safety]) (by rw [State.cycleDone_safety])
  refine ⟨_, congrArg Host.Outcome.next heq, ?_, ?_, ?_, ?_, ?_, hkeeps⟩
  · rw [State.cycleDone_safety]
  · rw [State.cycleDone_safety]
    exact hbad
  · rw [hchn]
    exact hcmd
  · rw [hchn]
    exact hother
  · rw [State.cycleDone_now]
    exact hnow

/-! ## SAFETY_RELEASE -/

theorem State.now_foldl_fst {β γ : Type} {f : State × γ → β → State × γ} {l : List β} {z : γ} (hf : ∀ p b, (f p b).1.now = p.1.now) :
    (l.foldl f (s, z)).1.now = s.now := by
  suffices ∀ p : State × γ, (l.foldl f p).1.now = p.1.now from this (s, z)
  induction l with
  | nil => exact fun _ => rfl
  | cons b l ih => exact fun p => (ih _).trans (hf p b)

theorem State.htRelease_now {lone : Option Bool} : (s.htRelease lone).1.now = s.now := by
  unfold State.htRelease
  refine State.now_foldl_fst fun p m => ?_
  obtain ⟨z, l⟩ := p
  dsimp only
  split
  · rfl
  · split
    · rfl
    · rw [State.htEnd_now, State.setSb_now]

theorem State.escTimeout_now : (s.escTimeout k).now = s.now := by
  unfold State.escTimeout
  extract_lets q st
  split
  · split
    · rw [State.inc_now, State.setEsc_now, State.setConn_now]
    · rfl
  · rfl

theorem State.evalInputs_now {p q : Bool} : (s.evalInputs p q).now = s.now := by
  unfold State.evalInputs
  refine foldl_now _ fun z i => ?_
  dsimp only
  rw [State.showSi_now]
  cases p <;> cases q <;> rfl

/-- The channel that a release finds alone, as one pair runs and the other does not. -/
def State.loneChannel (s : State) : Option Bool :=
  if s.pairRuns (s.safePair false) = s.pairRuns (s.safePair true) then none else some (s.pairRuns (s.safePair true))

/-- A release with no cycle open opens one. -/
theorem State.safetyRelease_opens (hc : s.safety.cycle = none) (hset : s.safety.set.isSome = true) (h0 : s.rd E.Saf.SAFETY_CYCLE ≠ 0)
    (hdue : s.now % (1000 * s.rd E.Saf.SAFETY_CYCLE) = 0) (hlow : 1 ≤ s.safeState) (hhigh : s.safeState ≤ 3) (ha : s.active = true)
    (hr : s.resumed = true) : (∃ c, s.safetyRelease.safety.cycle = some c ∧ c.release = s.now ∧ c.lone = s.loneChannel)
      ∧ s.safetyRelease.safety.lone = s.loneChannel ∧ s.safetyRelease.now = s.now := by
  unfold State.safetyRelease
  extract_lets p v w y1 x y valid sections y2 lone rejoined y3 y4 y5 esc
  have h1 : y1 = s := if_neg (by simp [hc])
  have hx : x = s.pairRuns (s.safePair false) := by rw [← h1]
  have hy : y = s.pairRuns (s.safePair true) := by rw [← h1]
  have hlone : lone = s.loneChannel := by
    show (if (x == y) = true then none else some y) = _
    unfold State.loneChannel
    simp only [beq_iff_eq, hx, hy]
  clear_value lone
  have h2 : y2.now = s.now := by
    show (if _ then y1.safetyStop 4 else y1).now = s.now
    split
    · rw [State.safetyStop_now, h1]
    · rw [h1]
  clear_value y2
  have h3 : y3.now = s.now := by
    rw [← h2]
    show (match y2.safety.lone with | some l => if x && y then y2.rejoin l else y2 | none => y2).now = y2.now
    split
    · split <;> rfl
    · rfl
  clear_value y3
  have h4 : y4.now = s.now := State.evalInputs_now.trans h3
  clear_value y4
  have h5 : y5.now = s.now := (foldl_now _ fun _ _ => State.escTimeout_now).trans h4
  clear_value y5
  have hnow : (y5.htRelease lone).1.now = s.now := State.htRelease_now.trans h5
  generalize y5.htRelease lone = r at hnow ⊢
  obtain ⟨z, ht⟩ := r
  rw [if_neg (by simp [Option.isSome_iff_ne_none.1 hset, p, h0, hdue, ha, hr]; omega)]
  exact ⟨⟨_, rfl, hnow, hlone⟩, hlone, hnow⟩

theorem safetyRelease_completes (hset : s.safety.set.isSome = true) (h0 : s.rd E.Saf.SAFETY_CYCLE ≠ 0)
    (hdue : s.instant at_ % (1000 * s.rd E.Saf.SAFETY_CYCLE) = 0) (hlow : 1 ≤ s.safeState) (hhigh : s.safeState ≤ 3) (ha : s.active = true)
    (hr : (s.advance at_).resumed = true) (hc : s.safety.cycle = none) :
    Completes (.safetyRelease at_) s (fun t => t.safety.cycle.map (·.release) = some (s.instant at_)
      ∧ t.safety.lone = (if s.pairRuns (s.safePair false) = s.pairRuns (s.safePair true) then none else some (s.pairRuns (s.safePair true)))
      ∧ t.safety.cycle.map (·.lone) = some t.safety.lone
      ∧ t.now = s.instant at_ ∧ Keeps [.safety, .ledger, .blocks] s t) := by
  obtain ⟨⟨c, hcycle, hrelease, hclone⟩, hlone, hnow⟩ :=
    State.safetyRelease_opens (s := s.advance at_) hc hset h0 hdue hlow hhigh ha hr
  refine ⟨_, rfl, ?_, hlone, ?_, hnow, (((Moves.refl _ s).step State.advance_moves).step State.safetyRelease_moves).1⟩
  · rw [hcycle]
    exact congrArg some hrelease
  · rw [hcycle, hlone]
    exact congrArg some hclone

end

/-- Settles O48: the cycle opens, ends as good or as bad, and the commands beside it follow their definitions. -/
theorem safetyCycleReleasesAndCommits : Obligations.SafetyCycleReleasesAndCommits := by
  refine ⟨fun s at_ hset h0 hdue hlow hhigh ha hr hc => safetyRelease_completes hset h0 hdue hlow hhigh ha hr hc,
    fun s at_ a b hx hy c hc hl hsame => safetyCommitBoth_completes hx hy hc hl hsame,
    fun s at_ a b hx hy c hc hl hsame => safetyCommitDiffer_completes hx hy hc hl hsame,
    fun s at_ a b c hc l hl hr => safetyCommitLone_completes hc hl hr,
    fun s at_ y hset hdue => safeWatchdogExpiry_completes hset hdue, fun s at_ w h h3 => safetyReset_completes h h3,
    fun s at_ n w hn h => htStart_completes hn h, fun s at_ y f rest hq p hp => escFrameValid_completes hq hp,
    fun s at_ y f rest hq hp => escFrameInvalid_completes hq hp⟩

end Sys2Proof.Machine
end
